-- ==== Sys2Proof/Word.lean ====
section
/-! DEFINITION. The words of the QN9612: bytes, 16-bit, 32-bit and 64-bit registers and wire fields (R8, R10, R41).
Times, counts, indexes and object numbers that the spec never masks are natural numbers. -/

namespace Sys2Proof

abbrev Byte := BitVec 8
abbrev Half := BitVec 16
abbrev Word := BitVec 32
abbrev Quad := BitVec 64

end Sys2Proof
end

