-- ==== Sys2Proof/Syntax.lean ====
section
/-! DEFINITION. The commands of the QN9612: one constructor of `Instr` for each row of spec/opcode_table.json, in the table's
order but for CONFIRM, and the plain data they carry. Commands whose rule names elapsed time carry `at`, the Pacer tick (800 MHz, counted
from the release of RESET_N) at which they occur. -/

namespace Sys2Proof

/-- The form of a record (Table 2-7, 0x000E): as its operation is laid out; malformed by its LENGTH or by LINK on a record other than
ENABLE; a record of an unknown opcode, or of one that only the device sends, whatever operation the command names; or no record at all: the
message has OP_COUNT 0, and the command stands for it alone. -/
inductive RecForm where
  | good
  | malformed
  | opcode (op : Byte) (ix : Half) (sub : Byte)
  | empty
deriving DecidableEq, Repr

/-- An ENABLE record: INDEX, SUB, TYPE and VALUE (Table 2-5). -/
structure EnRec where
  area : Half
  sub : Byte
  ty : Byte
  value : List Byte
deriving DecidableEq, Repr

/-- Where a record of a Zhonal request stands (R43–R45): the session slot (0–3 mailbox channel, 4–35 UDP), the message's
SEQUENCE, whether the record is the first and the last of its message, STOP_ON_ERROR, and the form of the record. -/
structure Ctx where
  slot : Fin 36
  seq : Word
  first : Bool
  last : Bool
  stop : Bool
  form : RecForm
deriving DecidableEq, Repr

/-- What a read of an aligned 8-byte word of host memory finds: the word, a completion timeout, or a poisoned completion (Table 13-9). -/
inductive HostRead where
  | word (w : Nat)
  | timeout
  | poisoned
deriving DecidableEq, Repr

/-- Host memory that a command reads: aligned addresses of 8-byte words and what each read finds, little-endian; a read of an address not
listed ends with Unsupported Request or Completer Abort. -/
abbrev HostMem := List (Nat × HostRead)

/-- A DMA descriptor as the host wrote it (Table 13-5, bytes 0–31). -/
structure Descriptor where
  op : Byte
  flags : Byte
  count : Half
  length : Word
  hostAddr : Quad
  arg : Quad
  resumeIn : Quad
deriving DecidableEq, Repr

/-- A host transmit frame: the descriptors the device fetched (buffer, length and flags of each), the lane and TS_ID of the
EOF descriptor and the frame's bytes (Table 13, R404). -/
structure TxFrame where
  descs : Nat
  lane : Nat
  tsReq : Bool
  tsId : Half
  fault : Bool
  bytes : List Byte
deriving DecidableEq, Repr

/-! ### Essence on the wire -/

/-- An ST 291 ancillary packet with the metadata of R89: DID and SDID, line, horizontal offset, C or Y data stream, link
(1–4) or stream, user words as bytes, and whether its checksum is right. -/
structure AncPkt where
  did : Byte
  sdid : Byte
  line : Nat
  hoff : Nat
  cStream : Bool
  link : Nat
  data : List Byte
  ckOk : Bool
deriving DecidableEq, Repr

/-- An embedded audio data packet (R93, R94): group 1–8, link, ECC outcome (0 right, 1 corrected, 2 uncorrectable), and for
each of its four channels the 24-bit samples it carries. A line has as many as were sent on it, in order. -/
structure AudPkt where
  group : Nat
  link : Nat
  ecc : Nat
  samples : List (List Nat)
deriving DecidableEq, Repr

/-- An embedded audio control packet (R95): group, link, signalled rate in kHz, asynchronous flag. -/
structure AudCtl where
  group : Nat
  link : Nat
  rate : Nat
  async : Bool
deriving DecidableEq, Repr

/-- A line of an SDI signal between two TRS positions (R79–R95). `contradicts` is set when its structure contradicts the
locked one (R83); `edhBad` is set on the last line of a field whose EDH CRCs are wrong (270 Mb/s); `link`, `fmt352` and `division` are the
link number, the format code and the division mode that its ST 352 packet gives, where it has one. -/
structure SdiLine where
  line : Nat
  lnWord : Nat
  crcOk : Bool
  edhBad : Bool
  contradicts : Bool
  st352 : Option Nat
  pixels : List Byte
  anc : List AncPkt
  audio : List AudPkt
  ctl : List AudCtl
  link : Nat
  fmt352 : Nat
  division : Nat
deriving DecidableEq, Repr

/-- What two equal frames show about a signal (R78): the format code its structure gives (0 when outside Table 1-7; for a
1,125-line 1.485 Gb/s signal whose label FORMAT_HINT decides, the interlaced code with `hinted`), ST 352 bytes where
present, whether they agree with the structure and the format code they give, and the ST 352 link number (0 single). -/
structure FormatSeen where
  structureFmt : Nat
  hinted : Bool
  st352 : Option Nat
  agrees : Bool
  st352Fmt : Nat
  link : Nat
  division : Nat
deriving DecidableEq, Repr

/-! ### Ethernet frames -/

/-- The network layer of a frame (R117). -/
inductive NetHdr where
  /-- neither IP, ARP nor PTP over Ethernet -/
  | other
  /-- Ethertype 0x88F7: message type, PTP domain -/
  | ptp (msgType domain : Nat)
  /-- ARP -/
  | arp
  /-- LLDP -/
  | lldp
  /-- IPv4: header words, fragment, header checksum right, protocol, source, destination -/
  | ip4 (words : Nat) (frag ckOk : Bool) (proto src dst : Nat)
  /-- IPv6: whether a fragment header is present, first next header, ICMPv6 type (0 none), source, destination -/
  | ip6 (frag : Bool) (next icmp src dst : Nat)
deriving DecidableEq, Repr

/-- The UDP header: source and destination port, whether the checksum is non-zero, and whether it is right; for ports 319
and 320 the PTP message type and domain. -/
structure UdpHdr where
  sport : Nat
  dport : Nat
  ckNonZero : Bool
  ckOk : Bool
  ptpType : Nat
  ptpDomain : Nat
deriving DecidableEq, Repr

/-- RTP content of a media packet. -/
inductive MediaPayload where
  /-- ST 2110-20: sample rows (row on the frame's line numbering of active lines from 0, byte offset, bytes), marker -/
  | video (rows : List (Nat × Nat × List Byte)) (marker : Bool)
  /-- audio: per channel the samples of the packet, and the AES3 C, U, V bits where the depth carries them -/
  | audio (samples : List (List Nat))
  /-- ST 2110-40 -/
  | anc (pkts : List AncPkt) (marker : Bool)
  /-- ST 2022-6: the SDI lines this datagram completes, and the TRS and format events it completes -/
  | sdi (lines : List SdiLine) (formatLock : Option FormatSeen)
deriving DecidableEq, Repr

/-- RTP header fields of a media packet: payload type, extended sequence number, timestamp. -/
structure RtpHdr where
  pt : Nat
  seq : Nat
  ts : Nat
deriving DecidableEq, Repr

/-- A framed signal on AES3 input `input` (R247): the frame rate that the distance of its Z preambles gives, in mHz. -/
structure AesFraming where
  input : Fin 16
  rate : Nat
  deriving DecidableEq, Repr

/-- The input-to-output ratio of an ASRC instance (R259), a / b. -/
structure RateRatio where
  a : Nat
  b : Nat
  deriving DecidableEq, Repr

/-- A received Ethernet frame (R115, R117): length with FCS, FCS right, destination MAC, tags (TPID, TCI) from the outermost,
Ethertype, parsed headers, and its bytes without the FCS as the host would get them. -/
structure EthFrame where
  length : Nat
  fcsOk : Bool
  dst : Nat
  tags : List (Nat × Nat)
  etype : Nat
  net : NetHdr
  udp : Option UdpHdr
  rtp : Option RtpHdr
  media : Option MediaPayload
  bytes : List Byte
deriving DecidableEq, Repr

/-- A lane's Ethernet link rises (R113): the lane, and whether it is up, or only its coding is locked (with FEC where that is enabled). -/
structure EthRise where
  lane : Fin 96
  up : Bool
deriving DecidableEq, Repr

/-! ### The Relay fabric -/

/-- An alignment marker as received (Table 6-8). Maps are bit masks of link lanes. -/
structure AlignMarker where
  count : Nat
  device : Nat
  linkLane : Nat
  txMap : Nat
  txMapNext : Nat
  rxGood : Nat
  rxReq : Nat
  state : Nat
deriving DecidableEq, Repr

/-- A line of an SDI signal that the device builds (R98–R102): mapping, rate code and line number, which is also its line-number word on
every link; whether its TRS words mark the second field and the vertical blanking; active samples per video SUB; ST 352 bytes by link;
embedded samples by position; audio control packets (link, group, rate in kHz), all synchronous; time code by ATC type; ancillary packets
where they were placed; and per link the C and Y CRC, at 270 Mb/s the EDH CRCs. -/
structure SdiOut where
  mapping : Nat
  rate : Nat
  line : Nat
  field2 : Bool
  vblank : Bool
  data : List (List Byte)
  ids : List (Nat × Nat)
  audio : List (Nat × List Nat)
  ctl : List (Nat × Nat × Nat)
  tc : List (Nat × Nat)
  anc : List AncPkt
  check : List (Nat × Nat)
deriving DecidableEq, Repr

/-- What the payload of a cell or of a packet holds (R136, R196, R198); time code carries its ATC type, the DBB1 of ST 12-2. A datagram of
ST 2022-6 holds 1,376 bytes of a frame of an SDI signal from byte `off` of it, on the lines given. -/
inductive CellBody where
  | none
  | video (line : List Byte)
  | audio (samples : List (List Nat))
  | anc (pkts : List AncPkt)
  | tc (value : Nat) (atc : Nat)
  | sdi (off : Nat) (lines : List SdiOut)
deriving DecidableEq, Repr

/-- A Relay cell as received: the eight header bytes of Table 6-9, whether FIRST_CELL of a block names its header (Table 6-7), whether it
overlaps an uncorrectable codeword, and its payload. -/
structure RelayCell where
  header : List Byte
  first : Bool
  uncorrectable : Bool
  body : CellBody
deriving DecidableEq, Repr


/-! ### PTP -/

/-- What an Announce message says of its master (R349): sender portIdentity, grandmaster priority1, clockClass,
clockAccuracy, offsetScaledLogVariance, priority2 and identity, stepsRemoved, currentUtcOffset (none while not valid), and its
logMessageInterval. -/
structure PtpAnnounce where
  port : List Byte
  prio1 : Nat
  clockClass : Nat
  accuracy : Nat
  variance : Nat
  prio2 : Nat
  gm : Nat
  steps : Nat
  utc : Option Nat
  logInterval : Int
deriving DecidableEq, Repr

/-! ### The twin link -/

/-- The header of a twin-link message as received: the sixteen bytes of Table 12-2. -/
structure TlHdr where
  raw : List Byte
deriving DecidableEq, Repr

/-- A STATUS body as received, the bytes of Table 12-3; `rxTs` is this chip's own receive timestamp, (seconds, nanoseconds). -/
structure TlStatusBody where
  raw : List Byte
  rxTs : Nat × Nat
deriving DecidableEq, Repr


/-- The commands of the block. -/
inductive Instr where
  -- Zhonal records and sessions (02_zhonal_dictionary)
  /-- NOP -/
  | nop (c : Ctx)
  /-- READ -/
  | read (c : Ctx) (ix : Half) (sub : Byte)
  /-- WRITE -/
  | write (c : Ctx) (ix : Half) (sub ty : Byte) (value : List Byte)
  /-- ENABLE_COMMIT: the chain of ENABLE records; `dangling` when its last record carries LINK. -/
  | enableCommit (c : Ctx) (chain : List EnRec) (dangling : Bool)
  /-- ENABLE_DISCARD -/
  | enableDiscard (c : Ctx) (area : Half)
  /-- DISCARD -/
  | discard (c : Ctx) (area : Half)
  /-- SUBSCRIBE -/
  | subscribe (c : Ctx) (ix : Half) (sub : Byte) (value : List Byte)
  /-- UNSUBSCRIBE -/
  | unsubscribe (c : Ctx) (ix : Half) (sub : Byte)
  /-- READ_SEGMENT -/
  | readSegment (c : Ctx) (ix : Half) (sub : Byte) (offset : Word)
  /-- WRITE_SEGMENT -/
  | writeSegment (c : Ctx) (ix : Half) (sub : Byte) (offset : Word) (data : List Byte) (endFlag : Bool)
  /-- DESCRIBE -/
  | describe (c : Ctx) (ix : Half) (sub : Byte)
  /-- MESSAGE_DISCARD: on mailbox channel `ch`, or over UDP; the ERROR_CODE of Table 2-11 that the message earns. -/
  | messageDiscard (ch : Option (Fin 4)) (code : Fin 3)
  /-- CACHED_RESPONSE -/
  | cachedResponse (slot : Fin 36) (seq : Word)
  /-- UDP_DATAGRAM_DROP: a datagram with its security header (SESSION, COUNTER), its ciphertext and tag (R61). -/
  | udpDatagramDrop (source : List Byte) (session : Word) (counter : Quad) (sealed : List Byte) (fragment : Bool)
  /-- HELLO: on a mailbox channel or over UDP. -/
  | hello (ch : Option (Fin 4)) (source : List Byte) (nc : List Byte) (role : Byte) (keySlot : Half)
  /-- PROOF -/
  | proof (session : Word) (source : List Byte) (mac : List Byte)
  /-- CLOSE -/
  | close (slot : Fin 36)
  /-- CLOSE_NOW -/
  | closeNow (c : Ctx) (target : Fin 36)
  /-- SESSION_TIMEOUT -/
  | sessionTimeout (slot : Fin 36) (at_ : Nat)
  /-- ADDRESS_BAR_EXPIRY -/
  | addressBarExpiry (source : List Byte) (at_ : Nat)
  /-- NOTIFY -/
  | notify (slot : Fin 36) (ix : Half) (sub : Byte) (at_ : Nat)
  /-- MBX_DOORBELL: the word written. -/
  | mbxDoorbell (ch : Fin 4) (w : Word)
  /-- MBX_BUFFER_RELEASE: the word written to MBX_STATUS_n. -/
  | mbxBufferRelease (ch : Fin 4) (w : Word)
  /-- COUNTERS_CLEAR -/
  | countersClear (c : Ctx) (ix : Half)
  /-- REGISTER_WRITE: Window A offset, size in bytes and value. -/
  | registerWrite (off : BitVec 24) (size : Nat) (value : Quad)
  /-- RC_REGISTER_READ -/
  | rcRegisterRead (off : BitVec 24) (size : Nat)
  /-- ACCESS_ERROR -/
  | accessError (isWrite : Bool) (off : BitVec 24) (size : Nat)
  /-- WINDOW_B_WRITE -/
  | windowBWrite (off : BitVec 30)
  -- SDI lanes (03_port_lanes_sdi)
  /-- SIGNAL_DETECT_ASSERT -/
  | signalDetectAssert (p : Fin 96) (at_ : Nat)
  /-- SIGNAL_DETECT_DEASSERT: with the line whose TRS was missing. -/
  | signalDetectDeassert (p : Fin 96) (line : Nat) (at_ : Nat)
  /-- RATE_DWELL_EXPIRY -/
  | rateDwellExpiry (p : Fin 96) (at_ : Nat)
  /-- RATE_LOCK: the rate code at which the clock is recovered. -/
  | rateLock (p : Fin 96) (code : Fin 10)
  /-- TRS_LOCK: the rate code with its measured variant, and whether TRS returned at the position the flywheel predicts with
  the format unchanged. -/
  | trsLock (p : Fin 96) (code : Fin 10) (predicted : Bool) (line : Nat) (at_ : Nat)
  /-- FORMAT_LOCK -/
  | formatLock (p : Fin 96) (seen : FormatSeen)
  /-- SDI_LINE -/
  | sdiLine (p : Fin 96) (l : SdiLine) (at_ : Nat)
  /-- TRS_MISSING: `lockableRate` tells whether the clock is still recovered. -/
  | trsMissing (p : Fin 96) (line : Nat) (rateHeld : Bool) (at_ : Nat)
  /-- ERRORED_SECOND -/
  | erroredSecond (p : Fin 96) (at_ : Nat)
  /-- QUAD_ASSOCIATION: measured skew between the earliest and latest link, in units of 1/65,536 line. -/
  | quadAssociation (k : Fin 24) (skewPt : Nat)
  /-- QUAD_ASSOCIATION_TIMEOUT -/
  | quadAssociationTimeout (k : Fin 24) (skewPt : Nat) (at_ : Nat)
  /-- QUAD_LINK_REENTRY -/
  | quadLinkReentry (p : Fin 96)
  /-- SERIALISER_START -/
  | serialiserStart (p : Fin 96)
  -- Ethernet lanes (04_port_lanes_ethernet)
  /-- ETH_FRAME_RECEIVED: `bufs` are the BUFFER_LEN and BUFFER_ADDR of the free receive descriptors of the ring it may be
  punted to, in ring order, with their descriptor addresses. -/
  | ethFrameReceived (p : Fin 98) (f : EthFrame) (bufs : List (Nat × Nat × Nat)) (at_ : Nat)
  /-- ETH_LINK_UP -/
  | ethLinkUp (p : EthRise)
  /-- ETH_LINK_DOWN: cause 0 lock lost, 1 local fault, 2 remote fault, 3 reconfigured; whether a frame was cut off. -/
  | ethLinkDown (p : Fin 96) (cause : Fin 4) (cut : Bool)
  /-- RX_CONTEXT_LOST -/
  | rxContextLost (r : Fin 8192) (at_ : Nat)
  /-- LINE_CLOSE_TIMEOUT -/
  | lineCloseTimeout (r : Fin 8192) (at_ : Nat)
  /-- PAIR_WAIT_EXPIRY: a sequence number missing on both paths of the pair with path A r. -/
  | pairWaitExpiry (r : Fin 8192) (seq : Nat) (at_ : Nat)
  /-- PATH_DOWN -/
  | pathDown (r : Fin 8192) (at_ : Nat)
  /-- MEDIA_PACKET_SEND: send context and the packet's number in its frame or field. -/
  | mediaPacketSend (c : Fin 8192) (k : Nat) (at_ : Nat)
  /-- AUDIO_PACKET_SEND -/
  | audioPacketSend (c : Fin 8192) (at_ : Nat)
  /-- HOST_FRAME_START: a frame waiting on lane p starts in a gap. -/
  | hostFrameStart (p : Fin 96) (at_ : Nat)
  /-- TXTS_POP -/
  | txtsPop (p : Fin 96)
  -- Aligner and essence store (05_ingress_aligner)
  /-- LINE_RELEASE: line n of grid frame k of slot s. -/
  | lineRelease (s : Fin 240) (k n : Nat) (at_ : Nat)
  /-- SAMPLE_RELEASE: the sample of house sample time t of slot s. -/
  | sampleRelease (s : Fin 240) (t : Nat) (at_ : Nat)
  /-- FRAME_MODE_DECISION: at house-grid frame k of slot s. -/
  | frameModeDecision (s : Fin 240) (k : Nat) (at_ : Nat)
  /-- REALIGN -/
  | realign (c : Ctx) (s : Fin 256) (value : Byte)
  /-- VIDEO_DELAY_APPLY: at house-grid frame k. -/
  | videoDelayApply (s : Fin 240) (k : Nat) (at_ : Nat)
  /-- ALIGN_MODE_APPLY: at house-grid frame k. -/
  | alignModeApply (s : Fin 240) (k : Nat) (at_ : Nat)
  /-- STORE_CORRECTED_ERROR: page (allocatable 0–24,575, spare from 32,768 on). -/
  | storeCorrectedError (page : BitVec 16) (at_ : Nat)
  /-- STORE_UNCORRECTABLE_ERROR: page, 64-byte word, whether a page fault. -/
  | storeUncorrectableError (page : BitVec 16) (word : BitVec 15) (pageFault : Bool) (at_ : Nat)
  /-- RETIREMENT_COPY_DONE: the words of the page that could not be corrected. -/
  | retirementCopyDone (page : BitVec 16) (poisoned : List (BitVec 15)) (at_ : Nat)
  /-- SCRUB_PASS_END -/
  | scrubPassEnd (at_ : Nat)
  -- The Relay fabric (06_relay_fabric)
  /-- TRAINING_FRAME: CONTROL and STATUS received on fabric lane f; the lane's own receiver's next requests (CONTROL bits
  [5:0]) and whether it asks no more changes. -/
  | trainingFrame (f : Fin 128) (control status : Half) (req : BitVec 8) (ready : Bool) (at_ : Nat)
  /-- TRAINING_TIMEOUT -/
  | trainingTimeout (f : Fin 128) (at_ : Nat)
  /-- TRAINING_RETRY -/
  | trainingRetry (f : Fin 128) (at_ : Nat)
  /-- MARKER_SEND: on every lane of the link to device j. -/
  | markerSend (j : Fin 12) (at_ : Nat)
  /-- ALIGNMENT_MARKER -/
  | alignmentMarker (f : Fin 128) (m : AlignMarker) (at_ : Nat)
  /-- MARKER_MISSING: missing or corrupted. -/
  | markerMissing (f : Fin 128) (at_ : Nat)
  /-- RELOCK_TIMEOUT -/
  | relockTimeout (f : Fin 128) (at_ : Nat)
  /-- LINK_MARKER_TIMEOUT -/
  | linkMarkerTimeout (j : Fin 12) (at_ : Nat)
  /-- EYE_SCAN: the smallest eye opening in mV. -/
  | eyeScan (f : Fin 128) (margin : Byte) (at_ : Nat)
  /-- CELL_RECEIVED: a cell from device j, with the corrected symbols and uncorrectable codewords per fabric lane of the
  blocks that carried it, and the bits checked and in error on lanes under test. -/
  | cellReceived (j : Fin 12) (cell : RelayCell) (fec : List (Nat × Nat × Nat)) (prbs : List (Nat × Nat × Nat)) (at_ : Nat)
  /-- SUB_REQ -/
  | subReq (j : Fin 12) (reqId : Half) (sid : Word) (count purpose : Byte) (at_ : Nat)
  /-- SUB_ACK: FIRST_RELEASE is Pacer time as PT96. -/
  | subAck (j : Fin 12) (reqId channel : Half) (charge : Word) (first : Nat)
  /-- SUB_NAK -/
  | subNak (j : Fin 12) (reqId : Half) (reason : Byte)
  /-- UNSUB -/
  | unsub (j : Fin 12) (reqId channel : Half)
  /-- UNSUB_ACK -/
  | unsubAck (j : Fin 12) (reqId channel unit : Half)
  /-- SHED -/
  | shed (j : Fin 12) (channel : Half) (reason : Byte)
  /-- PURPOSE -/
  | purpose (j : Fin 12) (channel : Half) (p : Byte)
  /-- STREAM_STATE -/
  | streamState (j : Fin 12) (channel : Half) (present : Bool) (fmt : Half)
  /-- UNIT_SEND: unit n of a channel published to device j. -/
  | unitSend (j : Fin 12) (channel : Half) (n : Nat) (at_ : Nat)
  /-- UNIT_PRESENT: unit n of a channel held from device j. -/
  | unitPresent (j : Fin 12) (channel : Half) (n : Nat) (at_ : Nat)
  /-- PRBS_INJECT -/
  | prbsInject (c : Ctx) (f : Fin 128) (value : Half)
  /-- RETRAIN -/
  | retrain (c : Ctx) (f : Fin 128) (value : Byte)
  -- Takes and outputs (07_takes_and_outputs)
  /-- TAKE_RING_TAIL: the word written to TAKE_RING_TAIL_n. -/
  | takeRingTail (n : Fin 4) (w : Word)
  /-- BATCH_DECODE: the next complete batch of ring n. -/
  | batchDecode (n : Fin 4) (at_ : Nat)
  /-- TAKE_BATCH -/
  | takeBatch (c : Ctx) (value : List Byte)
  /-- TAKE_STATE_WRITE -/
  | takeStateWrite (c : Ctx) (o : Fin 128) (sub ty : Byte) (value : List Byte)
  /-- SWITCHING_LINE: of output o in grid frame k. -/
  | switchingLine (o : Fin 128) (k : Nat) (at_ : Nat)
  /-- AUDIO_TAKE_INSTANT: A_F of output o in grid frame k. -/
  | audioTakeInstant (o : Fin 128) (k : Nat) (at_ : Nat)
  /-- ZERO_CROSSING_TIMEOUT: of position `pos` of output o, or of a port destination. -/
  | zeroCrossingTimeout (port : Option (Fin 544)) (o : Fin 128) (pos : Fin 128) (at_ : Nat)
  /-- OUTPUT_LINE: line n of grid frame k of output o. -/
  | outputLine (o : Fin 128) (k n : Nat) (at_ : Nat)
  /-- JOURNAL_READ -/
  | journalRead (c : Ctx)
  -- Audio ports (08_audio_sources)
  /-- AES_BIPHASE_LOCK -/
  | aesBiphaseLock (n : Fin 16)
  /-- AES_FRAMED: two Z preambles 192 frames apart. -/
  | aesFramed (framing : AesFraming)
  /-- AES_CLASSIFY: port 0–15 an AES3 input, 16–23 a slave TDM port; the frame rate measured in mHz, and how far the capture
  phase lies from its value at classification, in 1/65,536 of a sample. -/
  | aesClassify (port : Fin 24) (rate : Nat) (phase : Int) (at_ : Nat)
  /-- AES_SIGNAL_LOSS: to LOCK_STATE 0 or 1. -/
  | aesSignalLoss (n : Fin 16) (to_ : Fin 2) (at_ : Nat)
  /-- AES_SUBFRAME: subframe 0 or 1 of input n, captured now. -/
  | aesSubframe (n : Fin 16) (sub : Fin 2) (parityOk biphaseOk v : Bool) (sample : BitVec 24) (at_ : Nat)
  /-- AES_BLOCK: channel status and user bits of the block just completed, 24 bytes each, and whether each CRCC is right. -/
  | aesBlock (n : Fin 16) (statusA statusB userA userB : List Byte) (crcA crcB : Bool)
  /-- AES_OUTPUT_FRAME: at house sample t of the output's rate. -/
  | aesOutputFrame (n : Fin 16) (t : Nat) (at_ : Nat)
  /-- TDM_FSYNC: at house sample t; the samples received in the slots of the frame that this edge starts. -/
  | tdmFsync (n : Fin 8) (t : Nat) (rx : List (BitVec 24)) (at_ : Nat)
  /-- TDM_SLAVE_LOCK -/
  | tdmSlaveLock (n : Fin 8)
  /-- TDM_FRAME_ERROR -/
  | tdmFrameError (n : Fin 8) (at_ : Nat)
  /-- ASRC_LOCK: the settled input-to-output ratio. -/
  | asrcLock (i : Fin 64) (ratio : RateRatio)
  /-- ASRC_OUT_OF_RANGE: the input-to-output ratio. -/
  | asrcOutOfRange (i : Fin 64) (ratio : RateRatio)
  /-- PORT_SID_WRITE -/
  | portSidWrite (c : Ctx) (ix : Half) (sub ty : Byte) (value : List Byte)
  /-- PORT_TRANSITION_END: destination 2n + subframe for AES3 output n, 32 + 64n + slot for TDM port n. -/
  | portTransitionEnd (d : Fin 544)
  -- Stride engines (09_stride_engines)
  /-- STRIDE_PERIOD: house sample t of the 48 kHz or the 96 kHz domain. -/
  | stridePeriod (rate96 : Bool) (t : Nat) (at_ : Nat)
  /-- STRIDE_SWAP -/
  | strideSwap (at_ : Nat)
  /-- STRIDE_FAST_COMMIT: the word written to STRIDE_FAST_CTRL. -/
  | strideFastCommit (w : Word)
  /-- STRIDE_FAST_APPLY -/
  | strideFastApply (at_ : Nat)
  /-- STRIDE_UNCORRECTABLE: bank 0 program, 1 parameter, 2 coefficient, 3 input, 4 map; 5 a D word, 6 a delay word. -/
  | strideUncorrectable (e : Fin 16) (bank : Fin 7) (word : BitVec 14) (at_ : Nat)
  /-- ENGINE_RELOAD_DONE -/
  | engineReloadDone (e : Fin 16) (at_ : Nat)
  /-- SELF_CHECK -/
  | selfCheck (c : Ctx) (e : Fin 16) (value : Byte)
  /-- SELF_CHECK_DONE: whether the engine passed. -/
  | selfCheckDone (e : Fin 16) (pass : Bool) (at_ : Nat)
  /-- METER_UPDATE -/
  | meterUpdate (at_ : Nat)
  -- Composition and raster conversion (10_composition)
  /-- COMPOSITION_WINDOW: the window of source frame F of head h closes; the layers whose engine has not finished. -/
  | compositionWindow (h : Fin 8) (frame : Nat) (unfinished : List (Fin 512)) (at_ : Nat)
  /-- STALE_HOLD_EXPIRY -/
  | staleHoldExpiry (l : Fin 512) (at_ : Nat)
  /-- CACHE_REBUILD_DONE: of head h, and the head frames it took. -/
  | cacheRebuildDone (h : Fin 8) (at_ : Nat)
  -- The Pacer (11_pacer); phase errors and PTP times in units of 0.25 ns, frequency offsets in ppt
  /-- OCXO_LOSS: the offset measured over the part of the window already run. -/
  | ocxoLoss (part : Int) (at_ : Nat)
  /-- OCXO_MEASURE_WINDOW: the offset measured. -/
  | ocxoMeasureWindow (offset : Int) (at_ : Nat)
  /-- REFERENCE_PRESENT -/
  | referencePresent (r : Fin 14) (at_ : Nat)
  /-- REFERENCE_ABSENT -/
  | referenceAbsent (r : Fin 14) (at_ : Nat)
  /-- QUALIFICATION_WINDOW: frequency offset, peak-to-peak wander in ns, and whether the phase error stayed within
  JUMP_THRESHOLD throughout. -/
  | qualificationWindow (r : Fin 14) (freq : Int) (wander : Nat) (within : Bool) (at_ : Nat)
  /-- WTR_EXPIRY -/
  | wtrExpiry (r : Fin 14) (at_ : Nat)
  /-- SWITCH_COMPLETE -/
  | switchComplete (at_ : Nat)
  /-- LOOP_UPDATE: for each reference the phase detector saw, its marker's time less the house instant, and its frequency
  difference. -/
  | loopUpdate (seen : List (Nat × Int × Int)) (at_ : Nat)
  /-- LOCK_ACHIEVED -/
  | lockAchieved (at_ : Nat)
  /-- TIME_SET -/
  | timeSet (c : Ctx) (ty : Byte) (value : List Byte)
  /-- TIME_STEP -/
  | timeStep (c : Ctx) (ty : Byte) (value : List Byte)
  /-- JUMP_OVERRIDE -/
  | jumpOverride (c : Ctx) (value : Byte)
  /-- OVERRIDE_EXPIRY -/
  | overrideExpiry (at_ : Nat)
  /-- LOOP_OPEN: by a session's write of LOOP_MODE or, with none, through PACER_LOOP_CTRL. -/
  | loopOpen (c : Option Ctx)
  /-- LOOP_CLOSE -/
  | loopClose (c : Option Ctx)
  /-- PACER_LOOP_DCO: the word written. -/
  | pacerLoopDco (w : Word) (at_ : Nat)
  /-- LOOP_WATCHDOG -/
  | loopWatchdog (at_ : Nat)
  /-- PTP_SYNC: on instance i from the port given, its origin time and the receive timestamp, both with corrections applied. -/
  | ptpSync (i : Fin 4) (port : List Byte) (t1 t2 : Nat) (at_ : Nat)
  /-- PTP_DELAY_RESP: the receive time it carries for the Delay_Req of that sequence number. -/
  | ptpDelayResp (i : Fin 4) (port : List Byte) (seq : Half) (t4 : Nat) (at_ : Nat)
  /-- PTP_ANNOUNCE -/
  | ptpAnnounce (i : Fin 4) (a : PtpAnnounce) (at_ : Nat)
  /-- PTP_OFFSET_SECOND -/
  | ptpOffsetSecond (i : Fin 4) (at_ : Nat)
  /-- GM_ANNOUNCE_SEND: on MAC m. -/
  | gmAnnounceSend (m : Fin 98) (at_ : Nat)
  /-- GM_SYNC_SEND -/
  | gmSyncSend (m : Fin 98) (at_ : Nat)
  /-- GM_DELAY_REQ: the requester's portIdentity and sequence number; its arrival is timed by the MAC. -/
  | gmDelayReq (m : Fin 98) (port : List Byte) (seq : Half) (at_ : Nat)
  /-- GM_MANAGEMENT_SEND -/
  | gmManagementSend (m : Fin 98) (at_ : Nat)
  /-- FP_INPUT_LOSS: of frame-pulse output k. -/
  | fpInputLoss (k : Fin 8) (at_ : Nat)
  /-- FP_INPUT_RETURN: how far the input's phase lies from the output's. -/
  | fpInputReturn (k : Fin 8) (phase : Int) (at_ : Nat)
  /-- CLOCK_OUTPUT_RESTART -/
  | clockOutputRestart (k : Fin 4) (at_ : Nat)
  /-- PACER_TIME_NS_READ -/
  | pacerTimeNsRead (at_ : Nat)
  /-- OCXO_IN_RETURN -/
  | ocxoInReturn (at_ : Nat)
  /-- DELAY_REQ_SEND -/
  | delayReqSend (i : Fin 4) (at_ : Nat)
  -- Twin operation (12_twin_operation)
  /-- PARTNER_CLAIM_CHANGE: the filtered level. -/
  | partnerClaimChange (high : Bool) (at_ : Nat)
  /-- REFEREE_GRANT_CHANGE: the filtered level. -/
  | refereeGrantChange (high : Bool) (at_ : Nat)
  /-- BATON_CLAIM_RAISE -/
  | batonClaimRaise (at_ : Nat)
  /-- CLAIM_TIMEOUT -/
  | claimTimeout (at_ : Nat)
  /-- HEARTBEAT_PULSE: whether the management firmware has confirmed health. -/
  | heartbeatPulse (confirmed : Bool) (at_ : Nat)
  /-- HEALTH_CONFIRM_LAPSE -/
  | healthConfirmLapse (at_ : Nat)
  /-- HANDOVER_HOLD_LIMIT -/
  | handoverHoldLimit (at_ : Nat)
  /-- REVERT_WTR_EXPIRY -/
  | revertWtrExpiry (at_ : Nat)
  /-- RELEASE_INSTANT -/
  | releaseInstant (at_ : Nat)
  /-- REVERT_ACK_TIMEOUT -/
  | revertAckTimeout (at_ : Nat)
  /-- REVERT_RETRY -/
  | revertRetry (at_ : Nat)
  /-- RELINQUISH -/
  | relinquish (c : Ctx) (value : Byte)
  /-- RELEASE_CHECK -/
  | releaseCheck (at_ : Nat)
  /-- TL_STATUS -/
  | tlStatus (h : TlHdr) (b : TlStatusBody) (at_ : Nat)
  /-- STATUS_SEND -/
  | statusSend (at_ : Nat)
  /-- TL_TAKE: T_a as PT96, and each record with its switching instant as PT96. -/
  | tlTake (h : TlHdr) (ta : Nat) (recs : List (Nat × List Byte)) (at_ : Nat)
  /-- TL_COMMIT: area; phase 1 with the staged values (index, subindex, type, value); phase 2 with the holder's code and the
  effective instants. -/
  | tlCommit (h : TlHdr) (area : Half) (phase : Byte) (values : List (Nat × Nat × Nat × List Byte)) (code : Half)
      (instants : List Nat) (at_ : Nat)
  /-- TL_JOURNAL: entries of Table 7-6. -/
  | tlJournal (h : TlHdr) (entries : List (List Byte)) (at_ : Nat)
  /-- TL_FAST: the apply sample as PT96 and the entries of Table 9-12. -/
  | tlFast (h : TlHdr) (sample : Nat) (entries : List (List Byte)) (at_ : Nat)
  /-- TL_SNAPSHOT: a segment: running values by index, subindex and wire bytes, journal entries, and END. -/
  | tlSnapshot (h : TlHdr) (values : List (Nat × Nat × List Byte)) (entries : List (List Byte)) (size : Nat) (endFlag : Bool)
      (at_ : Nat)
  /-- TL_REVERT: T as PT96. -/
  | tlRevert (h : TlHdr) (t : Nat) (at_ : Nat)
  /-- TL_REVERT_ACK -/
  | tlRevertAck (h : TlHdr) (t : Nat) (at_ : Nat)
  /-- TL_HANDOVER_REQUEST -/
  | tlHandoverRequest (h : TlHdr) (t : Nat) (at_ : Nat)
  /-- TL_JOIN: the joining chip's SYNC_GENERATION. -/
  | tlJoin (h : TlHdr) (gen : Word) (at_ : Nat)
  /-- TL_ACK -/
  | tlAck (h : TlHdr)
  /-- TL_RETRANSMIT -/
  | tlRetransmit (seq : Nat) (at_ : Nat)
  /-- TL_STATUS_TIMEOUT -/
  | tlStatusTimeout (at_ : Nat)
  /-- TL_PCS_LOSS -/
  | tlPcsLoss (at_ : Nat)
  /-- JOIN_COMPLETE -/
  | joinComplete (at_ : Nat)
  -- Host interface (13_host_interface)
  /-- HOST_INTERFACE_RESET: 0 Function Level Reset, 1 hot reset, 2 link down. -/
  | hostInterfaceReset (cause : Fin 3)
  /-- D3HOT_ENTRY -/
  | d3hotEntry
  /-- MSIX_INTERVAL_END -/
  | msixIntervalEnd (v : Fin 2048) (at_ : Nat)
  /-- MSIX_UNMASK: one vector, or the function (MSI-X enabled and its function mask cleared). -/
  | msixUnmask (v : Option (Fin 2048))
  /-- DMA_DOORBELL -/
  | dmaDoorbell (c : Fin 128) (w : Word)
  /-- STORE_READ: a descriptor of channel c is fetched and run. -/
  | storeRead (c : Fin 128) (d : Descriptor) (host : HostMem)
  /-- CAPTURE_VIDEO -/
  | captureVideo (c : Fin 128) (d : Descriptor) (host : HostMem) (overrunAt : Option Nat)
  /-- CAPTURE_AUDIO -/
  | captureAudio (c : Fin 128) (d : Descriptor) (host : HostMem) (overrunAt : Option Nat)
  /-- METER_SNAPSHOT -/
  | meterSnapshot (c : Fin 128) (d : Descriptor) (host : HostMem)
  /-- INSERT_ANC: the packet bytes are read from host memory. -/
  | insertAnc (c : Fin 128) (d : Descriptor) (host : HostMem)
  /-- DESCRIPTOR_COMPLETE: the descriptor in progress on channel c ends with its status and progress. -/
  | descriptorComplete (c : Fin 128)
  /-- DMA_CHANNEL_DISABLE: ENABLE is cleared; `progress` is the byte count at the 4 KiB boundary where it stops. -/
  | dmaChannelDisable (c : Fin 128) (progress : Word)
  /-- DMA_RESUME -/
  | dmaResume (c : Fin 128)
  /-- TLB_INVALIDATE: the word written to TLB_INV. -/
  | tlbInvalidate (w : Word)
  /-- TLB_INVALIDATE_DONE -/
  | tlbInvalidateDone (at_ : Nat)
  /-- TX_RING_DOORBELL: the word written, and the frames the device then fetches from the ring. -/
  | txRingDoorbell (r : Fin 64) (w : Word) (frames : List TxFrame)
  /-- D3HOT_EXIT -/
  | d3hotExit
  /-- PCIE_LINK_TRAINED: the speed code and the link width it trained to. -/
  | pcieLinkTrained (speed width : Nat)
  -- Faults and the event recorder (14_faults_and_events)
  /-- FAULT_REPORT: the source and the reporting event code (0 none). -/
  | faultReport (source : Fin 512) (code : Half)
  /-- ACK: of one source, by a session's write of its ACK object or, with none, by FAULT_ACK. -/
  | ack (c : Option Ctx) (source : Fin 512)
  /-- ACK_ALL -/
  | ackAll (c : Option Ctx)
  /-- FAULT_CONDITION_END -/
  | faultConditionEnd (source : Fin 512)
  /-- SAFE_ENTER -/
  | safeEnter (c : Ctx) (value : Byte)
  /-- SAFE_EXIT -/
  | safeExit (c : Ctx) (value : Byte)
  /-- COLLECTOR_SELF_CHECK: whether the check code of each of the two copies is good, and whether the copies agree. -/
  | collectorSelfCheck (goodA goodB agree : Bool) (at_ : Nat)
  /-- MIN_INTERVAL_END -/
  | minIntervalEnd (n : Fin 1024) (at_ : Nat)
  /-- RECORDER_FLUSH: `writeError` gives the sector when the flash write fails. -/
  | recorderFlush (writeError : Option Nat)
  /-- FLASH_RETRY -/
  | flashRetry (writeError : Option Nat) (at_ : Nat)
  /-- POWER_FAIL_ASSERT -/
  | powerFailAssert (at_ : Nat)
  /-- POWER_FAIL_DEASSERT -/
  | powerFailDeassert
  /-- RECORDER_SECOND -/
  | recorderSecond (at_ : Nat)
  /-- REC_READ -/
  | recRead (c : Ctx)
  /-- REC_CLEAR -/
  | recClear (c : Ctx) (token : List Byte)
  /-- RECORDER_ERASE_DONE -/
  | recorderEraseDone
  /-- REC_CHALLENGE_ROLL -/
  | recChallengeRoll (at_ : Nat)
  /-- OPERATING_TIME_SAVE -/
  | operatingTimeSave (at_ : Nat)
  -- Power states and the energy ledger (15_power_and_energy)
  /-- BENCH_REQUEST: a write of 1. -/
  | benchRequest (c : Ctx)
  /-- DICTIONARY_WAKE: a write of 0 to BENCH_REQUEST. -/
  | dictionaryWake (c : Ctx)
  /-- BENCH_FORCE -/
  | benchForce (c : Ctx) (value : Byte)
  /-- BENCH_ENTRY_STEP: the step under way completes; bit n of `active` is set while wake source n is active (Table 15-4). -/
  | benchEntryStep (active : BitVec 9) (at_ : Nat)
  /-- WAKE: a source active in Bench. -/
  | wake (source : Fin 9) (at_ : Nat)
  /-- HOST_WAKE: the word written to PWR_CTRL. -/
  | hostWake (w : Word)
  /-- WAKE_TIMER_EXPIRY -/
  | wakeTimerExpiry (at_ : Nat)
  /-- BRING_UP_STEP: the next step of Table 15-3, and whether its rail lies within ±3 % of its target. -/
  | bringUpStep (railOk : Bool) (at_ : Nat)
  /-- JOG_SAMPLE: of lane p, with the microseconds of its window for which the comparator was high. -/
  | jogSample (p : Fin 96) (high : Nat) (at_ : Nat)
  /-- JOG_RETURN_EXPIRY -/
  | jogReturnExpiry (p : Fin 96) (at_ : Nat)
  /-- PROC_POINT_STEP: the next step of an operating-point change, and whether the rail reads within 3 % of its target. -/
  | procPointStep (railOk : Bool) (at_ : Nat)
  /-- FSEL_WRITE -/
  | fselWrite (v : Fin 4)
  /-- VSEL_WRITE -/
  | vselWrite (v : Fin 4)
  /-- MONITOR_CHANGE -/
  | monitorChange (m : Fin 4) (beyond : Bool) (at_ : Nat)
  /-- PMBUS_READ: for each rail that answered its VOUT in mV, IOUT in mA, power in mW and STATUS_WORD. -/
  | pmbusRead (rails : List (Nat × Nat × Nat × Nat × Nat)) (at_ : Nat)
  /-- LEDGER_SECOND: the 1 s mean of the on-die monitors in mW. -/
  | ledgerSecond (onDie : Nat) (at_ : Nat)
  /-- THERMAL_READ: sixteen junction and two stack temperatures in Q16.16 °C. -/
  | thermalRead (temps : List Int) (at_ : Nat)
  -- Keys, life cycle, boot and field update (16_security_and_update)
  /-- LC_REQUEST: the DOMAIN written. -/
  | lcRequest (c : Ctx) (value : List Byte)
  /-- LOAD: into key slot s. -/
  | load (c : Ctx) (s : Fin 256) (value : List Byte)
  /-- VERIFY -/
  | verify (c : Ctx) (s : Fin 256) (value : List Byte)
  /-- PENDING_KEY_TIMEOUT -/
  | pendingKeyTimeout (s : Fin 256) (at_ : Nat)
  /-- INVALIDATE -/
  | invalidate (c : Ctx) (s : Fin 256) (value : Byte)
  /-- KEY_PATROL: the slots whose integrity tag fails. -/
  | keyPatrol (failed : List (Fin 256)) (at_ : Nat)
  /-- KEY_STORE_ACCESS_REFUSED: an access by master M0–M7 to T6, or to T7 when `flash`: 0 operation or read, 1 attribute read,
  2 attribute write or write, 3 write to the event-recorder region. -/
  | keyStoreAccessRefused (master : Fin 8) (flash : Bool) (access : Fin 4)
  /-- ATTEST_NONCE -/
  | attestNonce (c : Ctx) (nonce : List Byte)
  /-- ATTEST_REPORT_READY -/
  | attestReportReady (at_ : Nat)
  /-- IMAGE_VERIFIED -/
  | imageVerified (at_ : Nat)
  /-- ACTIVATE -/
  | activate (c : Ctx) (value : Byte)
  /-- CONFIRM -/
  | confirm (c : Ctx) (value : Byte)
  /-- PAUSE_BEGIN -/
  | pauseBegin (at_ : Nat)
  /-- PAUSE_END -/
  | pauseEnd (at_ : Nat)
  /-- TRIAL_CONFIRMATION: whether every processor of R478 has answered throughout the last 10 s. -/
  | trialConfirmation (answers : Bool) (at_ : Nat)
  /-- CONFIRM_LEFT_EXPIRY -/
  | confirmLeftExpiry (at_ : Nat)
  /-- RECOVERY_GO: the word written to RECOVERY_CTRL, and the bytes read from host memory. -/
  | recoveryGo (w : Word) (image : List Byte)
  /-- RECOVERY_DONE -/
  | recoveryDone (at_ : Nat)
  /-- STARTING_BLOCK: the key slots whose integrity tag fails. -/
  | startingBlock (failed : List (Fin 256)) (at_ : Nat)
  -- Reset and start-up (17_startup)
  /-- RESET_ASSERT: RESET_N low for 10 µs, from the pin or with a loss of power. -/
  | resetAssert (at_ : Nat)
  /-- RESET_RELEASE: whether OCXO_IN shows edges. -/
  | resetRelease (ocxo : Bool)
  /-- PCIE_PERST -/
  | pciePerst
  /-- LOADS_COMPLETE: the area control indexes whose settings record fails its CRC. -/
  | loadsComplete (bad : List Half) (at_ : Nat)
  /-- READY_PHASE -/
  | readyPhase (at_ : Nat)
  /-- START_COMPLETE -/
  | startComplete (at_ : Nat)
  /-- START_WAIT_EXPIRY: of the mesh wait, or of the Pacer wait. -/
  | startWaitExpiry (mesh : Bool) (at_ : Nat)
  /-- SUBORDINATE_TIMEOUT -/
  | subordinateTimeout (at_ : Nat)
  /-- START_RESTART -/
  | startRestart (at_ : Nat)
  /-- START_READY_TIMEOUT -/
  | startReadyTimeout (at_ : Nat)
deriving DecidableEq, Repr

end Sys2Proof
end

