-- ==== Sys2Proof/Decode.lean ====
section
/-! DEFINITION. The command a table word spells. spec/opcode_table.json gives no row any bits: its commands reach the block as
register writes, messages, frames and pin events, not as instruction words. -/

namespace Sys2Proof

/-- The command spelled by a word of the opcode table; no row has bits, so no word spells one. -/
def decodeTableWord (_nbits _w : Nat) : Option Instr := none

end Sys2Proof
end

