-- ==== Sys2Proof/Config.lean ====
section
/-! DEFINITION. What an implementation fixes and what the spec leaves open. Every constant here is opaque: nothing can
evaluate it, so a claim holds whatever it is (log entries 5 to 9). -/

namespace Sys2Proof.Config

/-- A free word: applied to the counter `free` of State, a fresh value each time (values the spec states no result for). -/
opaque freeNat : Nat → Nat
/-- Free bytes, such as the device nonce ND (R59) and the challenges of R427 and R455: counter, length. -/
opaque freeBytes : Nat → Nat → List Byte
/-- RSAES-OAEP decryption with the device wrapping key (R461). -/
opaque oaepOpen : List Byte → Option (List Byte)
/-- Signature verification with a Xafiavo key pair (R455): pair, RSASSA-PSS (false) or SLH-DSA (true), message, signature. -/
opaque verifySig : Nat → Bool → List Byte → List Byte → Bool
/-- Signature verification with a public key given as bytes (R469): algorithm as above, public key, message, signature. -/
opaque verifyWith : Bool → List Byte → List Byte → List Byte → Bool
/-- The ROM's SHA-384 hash of Xafiavo key pair i (R453). -/
opaque romKeyHash : Nat → List Byte
/-- The PHY firmware that an image's payload holds (R472); how a payload holds it is not stated. -/
opaque phyFirmware : List Byte → List Byte
/-- The attestation signature (R481). -/
opaque signReport : List Byte → List Byte
/-- The compatibility level that introduced an object key (R70); which level introduced what is not in this manual. -/
opaque introducedAt : Nat → Nat
/-- The compatibility level that introduced an event code (R70). -/
opaque eventIntroducedAt : Nat → Nat
/-- Whether a value lay inside an object's range at a level (R70): key, level, number, bytes. -/
opaque rangeAtLevel : Nat → Nat → Int → List (BitVec 8) → Bool
/-- The default an object with a number had at a level below the running image's (R70): key, level. -/
opaque defaultAtLevel : Nat → Nat → Int
/-- The default an object with a byte string had at such a level (R70): key, level. -/
opaque bytesAtLevel : Nat → Nat → List Byte
/-- The place in its 48-sample period with which the tone of generator slot 243 or 244 begins at house sample 0 (Table 1-6). -/
opaque tonePhase : Nat → Nat
/-- The rounding of a tone's word, modulo 3 less 1 in its last bit: slot, sample in the 48-sample period. -/
opaque toneRound : Nat → Nat → Nat
/-- Lines of the colour-bar generators (Table 1-6): slot, raster, line. -/
opaque barsLine : Nat → Nat → Nat → List (BitVec 8)
/-- Whether a 64-byte word of a store page holds samples of a line (R168): page, word, slot, the number of the frame, line, video SUB; the
layout of essence in pages is not stated. -/
opaque pageHolds : Nat → Nat → Nat → Nat → Nat → Nat → Bool
/-- Whether a 64-byte word of a store page holds an audio sample (R168): page, word, slot, channel, sample. -/
opaque pageHoldsSample : Nat → Nat → Nat → Nat → Nat → Bool
/-- The slot whose essence a store page holds (R168, "owner"); the assignment of pages is not stated. -/
opaque pageOwner : Nat → Nat
/-- Output samples of an asynchronous sample-rate converter (08): instance, sample number, input sample; the conversion
filter's words are not stated. -/
opaque asrcSample : Nat → Nat → Nat → Nat
/-- Words of a line's HANC (R100): rate code, mapping, line, link, whether it is the C data stream; the SDI standards' data spaces
are not stated. -/
opaque ancRoom : Nat → Nat → Nat → Nat → Bool → Nat
/-- Words at the start of a data space that ST 352, embedded audio and time code take before ancillary packets (R100): rate code, link,
whether it is the C data stream, whether it is VANC, and the numbers of ST 352 packets, samples embedded on the link, audio control packets
and time-code values; their sizes and places are not stated. -/
opaque ancTaken : Nat → Nat → Bool → Bool → List Nat → Nat
/-- Whether ST 352 is sent on a line (R98): raster, mapping, line. -/
opaque st352Line : Nat → Nat → Nat → Bool
/-- Whether audio control packets are sent on a line (R101): raster, mapping, line. -/
opaque audioCtlLine : Nat → Nat → Nat → Bool
/-- C and Y CRC of a line of a link, or at 270 Mb/s the EDH CRCs (R98): raster, link, the whole content of the line, and what `fieldCheck`
gathered of the field's lines up to it; the words they run over are those of the SDI standards. -/
opaque lineCheck : Nat → Nat → SdiOut → Nat → Nat × Nat
/-- The registers of the EDH field CRCs after a line of the field (R98, RP 165): those before it and the line. -/
opaque fieldCheck : Nat → SdiOut → Nat
/-- The ST 352 bytes a source on another device signals (R98): its SID, the grid frame. What of them reaches the taking device is not
stated. -/
opaque remotePayload : Nat → Nat → Nat
/-- The ST 352 bytes a lane sends (R98): raster, mapping, link, the source's own bytes; the coding of ST 352 is not stated. -/
opaque payloadId : Nat → Nat → Nat → Nat → Nat
/-- A rectangle of a picture: left, top, width, height. -/
structure Rect where
  x : Nat
  y : Nat
  w : Nat
  h : Nat
deriving DecidableEq, Repr, Inhabited
/-- The crop of the source and the rectangle of the output that fit or fill a converter's picture (R319): ASPECT 1 or 2, width and lines
of source and output; neither their rounding nor the shape of a pixel is stated. -/
opaque fitRect : Nat → Nat → Nat → Nat → Nat → Rect × Rect
/-- How byte 0 of an AES3 channel-status block codes 96 kHz (R252): not stated. -/
opaque aesRateBits : Nat
/-- Level i of the test pattern SSPRQ (R207), as IEEE 802.3 defines it; the standard is not in this manual. -/
opaque ssprqLevel : Nat → Nat
/-- A time-code value in its Relay cell (R196): value, ATC type; the layout is not stated. -/
opaque tcBytes : Nat → Nat → List (BitVec 8)
/-- The line ST 12-2 recommends for ATC (R102): raster, ATC type (DBB1: 0 LTC, 1 and 2 VITC of field 1 and 2), the line set for
field 1 (0 none); ST 12-2 is not in this manual. -/
opaque atcLine : Nat → Nat → Nat → Nat
/-- Largest magnitude of the true-peak interpolator of ITU-R BS.1770-4 (R291): sample rate in kHz, the last samples, newest
first; the standard's coefficients are not in this manual. -/
opaque truePeak : Nat → List Int → Nat
/-- PROGRAM_CRC over all active banks (Table 9-9): by engine its program, parameter words, section coefficients and input entries, and the
destination map; the layout of banks as bytes is not stated. -/
opaque bankCrc : List (Nat × List Nat × List Int × List (List Int) × List Nat) → List (Nat × Nat) → Nat
/-- Input entries of a Magisar image section (Table 9-5, TYPE 4), each a SID, or 2^32 + output × 128 + position; their layout is
not stated. -/
opaque imageInputs : List (BitVec 8) → List Nat
/-- Destination map of a Magisar image section (TYPE 5): slot and output × 128 + position. -/
opaque imageMap : List (BitVec 8) → List (Nat × Nat)
/-- Graph records of a Magisar image section (TYPE 6) as object keys and values. -/
opaque imageGraph : List (BitVec 8) → List (Nat × List (BitVec 8))
/-- A Magisar image with the parameter and coefficient words that changed objects stand for (R285): image, changed objects. -/
opaque imageWith : List (BitVec 8) → List (Nat × List (BitVec 8)) → List (BitVec 8)
/-- One 1 ms update of the steering loop (R341): BANDWIDTH in mHz, whether the reference gives frequency only, the error (ps or
ppt), the integrator; answers steering and integrator. Its difference equation is not stated. -/
opaque loopStep : Nat → Bool → Int → Int → Int × Int
/-- Where output sample i of m lies among n source samples, in 1/64 of a sample (R318): source samples, output samples, i. The phase
is stated, the position it belongs to is not. -/
opaque scalePos : Nat → Nat → Nat → Int
/-- The sample a filter reads beyond the first or last of a line (R318): the line, the index; not stated. -/
opaque edgeValue : List Int → Int → Int
/-- A filter's result as a 10-bit value (R318): numerator, denominator; rounding and limits are not stated. -/
opaque filterRound : Int → Int → Nat
/-- Whether the built-in font sets a pixel (R310): character, row 0–31, column 0–15. -/
opaque glyph : Nat → Nat → Nat → Bool
/-- One row of a meter bar (R307): meter value, horizontal, width, height, row; how a bar is drawn is not stated. -/
opaque meterBarRow : Nat → Bool → Nat → Nat → Nat → List (Nat × Nat × Nat)
/-- The coefficient banks at reset (R318): the windowed-sinc words are not stated. -/
opaque defaultBank : Nat → List (BitVec 8)
/-- Unit codes of DESCRIBE, listed by Magisar (Table 2-6). -/
opaque unitCode : Nat → BitVec 16

end Sys2Proof.Config
end

