-- ==== Sys2Proof/Machine/Bits.lean ====
section
/-! DEFINITION. Bit fields, byte order and wire encodings (R8, R41, R519): the one place where a field is cut out of a
word, a number is laid out as bytes, and a measured quantity is rounded into a fixed-point format. -/

namespace Sys2Proof.Machine

/-- Field [hi:lo] of a number. -/
def fld (w hi lo : Nat) : Nat := (w / 2 ^ lo) % 2 ^ (hi + 1 - lo)

/-- The number with field [hi:lo] replaced by `v`. -/
def setFld (w hi lo v : Nat) : Nat :=
  w - fld w hi lo * 2 ^ lo + (v % 2 ^ (hi + 1 - lo)) * 2 ^ lo

/-- Bit `b` of a number. -/
def bitOf (w b : Nat) : Bool := (w / 2 ^ b) % 2 == 1

/-- The bits of `w` where `m` has 0: a write of `m` to W1C bits (R11). -/
def clearBits (w m : Nat) : Nat := w - (w &&& m)

/-- The bits of `v` where `m` has 1: what a write stores in the RW bits `m`. -/
def keepBits (v m : Nat) : Nat := v &&& m

/-- 1 for true, 0 for false. -/
def b2n (b : Bool) : Nat := if b then 1 else 0

/-- `n` bytes of a number in network order, most significant first (R8). -/
def beBytes : Nat → Nat → List Byte
  | 0, _ => []
  | n + 1, v => BitVec.ofNat 8 (v / 256 ^ n) :: beBytes n v

/-- `n` bytes of a number, least significant first (Window A and host memory, R8). -/
def leBytes : Nat → Nat → List Byte
  | 0, _ => []
  | n + 1, v => BitVec.ofNat 8 v :: leBytes n (v / 256)

/-- The number spelled by bytes in network order. -/
def ofBe (bs : List Byte) : Nat := bs.foldl (fun a b => a * 256 + b.toNat) 0

/-- The number spelled by bytes, least significant first. -/
def ofLe (bs : List Byte) : Nat := bs.foldr (fun b a => a * 256 + b.toNat) 0

/-- Two's complement of an integer on `n` bits, as a number. -/
def twos (n : Nat) (v : Int) : Nat := (v % (2 ^ n : Int)).toNat

/-- The signed reading of an `n`-bit number. -/
def signed (n v : Nat) : Int := if 2 * v < 2 ^ n then (v : Int) else (v : Int) - (2 ^ n : Int)

/-- `a / b` rounded to the nearest integer, ties away from zero (R519). -/
def roundDiv (a : Int) (b : Nat) : Int :=
  if b = 0 then 0
  else if 0 ≤ a then ((2 * a + b) / (2 * b) : Int) else -((2 * (-a) + b) / (2 * b) : Int)

/-- `a / b` rounded up. -/
def ceilDiv (a b : Nat) : Nat := if b = 0 then 0 else (a + b - 1) / b

/-- A quantity `a / b` in Q16.16, rounded and held at the ends of the format (R519). -/
def toQ16 (a : Int) (b : Nat) : Int :=
  let v := roundDiv (a * 65536) b
  if v > 0x7FFFFFFF then 0x7FFFFFFF else if v < -0x80000000 then -0x80000000 else v

/-- A quantity `a / b` in an unsigned fixed-point field of `n` bits, `f` of them fraction (R519). -/
def toUFix (n f : Nat) (a : Int) (b : Nat) : Nat :=
  let v := roundDiv (a * (2 ^ f : Nat)) b
  if v < 0 then 0 else if v > (2 ^ n - 1 : Nat) then 2 ^ n - 1 else v.toNat

/-- Saturating addition on `n` bits (read-clear counts). -/
def satAdd (n a b : Nat) : Nat := if a + b ≥ 2 ^ n then 2 ^ n - 1 else a + b

/-- An integer held between two bounds. -/
def clampInt (lo hi v : Int) : Int := if v < lo then lo else if v > hi then hi else v

/-- Byte strings padded with zeros to a multiple of 4 (R43, R422). -/
def pad4 (bs : List Byte) : List Byte := bs ++ List.replicate ((4 - bs.length % 4) % 4) 0

/-- CRC-32 of IEEE 802.3 over bytes (reflected polynomial 0xEDB8_8320, initial value and final inversion all ones). -/
def crc32Step (c : BitVec 32) (b : Byte) : BitVec 32 :=
  (List.range 8).foldl
    (fun (r : BitVec 32) _ => if r.getLsbD 0 then (r >>> 1) ^^^ 0xEDB88320#32 else r >>> 1) (c ^^^ b.setWidth 32)

/-- CRC-32 of a byte string. -/
def crc32 (bs : List Byte) : BitVec 32 := ~~~(bs.foldl crc32Step 0xFFFFFFFF#32)

/-- The CRCC of bytes 0–22 of an AES3 channel-status block (R250, R252). PRESUMED (log entry 173): the CRC-8 of AES3, x^8 + x^4 + x^3 + x^2 + 1
from all ones, each byte's bit 0 first. -/
def aesCrcc (bs : List Byte) : Byte :=
  bs.foldl (fun (c b : Byte) => (List.range 8).foldl
    (fun (r : Byte) _ => if r.getLsbD 0 then (r >>> 1) ^^^ 0xB8#8 else r >>> 1) (c ^^^ b)) 0xFF#8

end Sys2Proof.Machine
end

