-- ==== Sys2Proof/Machine/Tbl.lean ====
section
/-! DEFINITION. Sparse tables: a list of (key, value) pairs with strictly rising keys and no entry equal to what an
unlisted key reads as. The running dictionary values, the Window A words, Window A memory and the per-lane, per-slot and
per-output engine state are held in this one form. -/

namespace Sys2Proof.Machine

/-- A sparse table over natural-number keys. -/
abbrev Tbl (α : Type) := List (Nat × α)

/-- The listed value of key `k`. -/
def tfind {α : Type} : Tbl α → Nat → Option α
  | [], _ => none
  | (j, v) :: t, k => if j = k then some v else tfind t k

/-- The value of key `k`; an unlisted key reads as `d k`. -/
def tget {α : Type} (d : Nat → α) (t : Tbl α) (k : Nat) : α :=
  match tfind t k with
  | some v => v
  | none => d k

/-- The table with key `k` listed as `v`, in rising key order. -/
def tput {α : Type} : Tbl α → Nat → α → Tbl α
  | [], k, v => [(k, v)]
  | (j, w) :: t, k, v =>
    if k < j then (k, v) :: (j, w) :: t
    else if k = j then (k, v) :: t
    else (j, w) :: tput t k v

/-- The table with key `k` not listed. -/
def tdel {α : Type} : Tbl α → Nat → Tbl α
  | [], _ => []
  | (j, w) :: t, k => if j = k then tdel t k else (j, w) :: tdel t k

/-- Writing `v` at key `k`, keeping the canonical form: the value an unlisted key reads as removes the entry. -/
def tset {α : Type} [DecidableEq α] (d : Nat → α) (t : Tbl α) (k : Nat) (v : α) : Tbl α :=
  if v = d k then tdel t k else tput t k v

/-- Keys strictly rising from `lo` on, and no entry equal to the default. -/
def twfFrom {α : Type} [DecidableEq α] (d : Nat → α) : Nat → Tbl α → Bool
  | _, [] => true
  | lo, (j, v) :: t => decide (lo ≤ j) && decide (v ≠ d j) && twfFrom d (j + 1) t

/-- The canonical form of a sparse table. -/
def twf {α : Type} [DecidableEq α] (d : Nat → α) (t : Tbl α) : Bool := twfFrom d 0 t

/-- Every listed key of the table. -/
def tkeys {α : Type} (t : Tbl α) : List Nat := t.map Prod.fst

end Sys2Proof.Machine
end

