-- ==== Sys2Proof/Machine/StFabric.lean ====
section
/-! DEFINITION. State of the Relay fabric (06): lanes in training and in service, links with their lane maps and markers,
and the subscriptions held as publisher and as subscriber. -/

namespace Sys2Proof.Machine

/-- Where a fabric lane is in its life: idle (unused or parked), training, trained, retry wait. -/
inductive LanePhase where
  | idle | training | trained | retry | relock
deriving DecidableEq, Repr

/-- A fabric lane (R178–R194). `since` is the tick its phase began; `frames` counts consecutive training frames with both
ends ready; `lastCtl` is the last CONTROL word acted on; `ourCtl` and `ourStat` are the words it sends; `missed` counts
consecutive missing markers; `low` consecutive scans below threshold; `uncTimes` the ticks of uncorrectable codewords in the
last second; `fails` the ticks of its failures; `retried` that its training is a retrain, `timedOut` that it reached TRAIN_TIMEOUT;
`prbsLock` is the checker's lock, `inject` counts the bit errors inserted since the test began and `injectAt` is the tick from which the next
may follow (R207); `dead` that it failed under the map still in force (R192), `slotted` that a marker came in the link's slot since it trained
(R187), `farTrains` that the far end sends training frames on it, `txSince` the tick its blocks began; `scanTick` is its last eye scan; `scr` is the scrambler's state in
the transmit direction (R184), `prbs` the PRBS13 register of its training frames (R179), `amRx` 1 + the AM_COUNT received last (0 none). -/
structure FabLane where
  phase : LanePhase
  since : Nat
  frames : Nat
  lastCtl : Nat
  ourCtl : Nat
  ourStat : Nat
  ready : Bool
  cwLock : Bool
  deskewed : Bool
  missed : Nat
  markerTick : Nat
  skew : Nat
  low : Nat
  scanTick : Nat
  uncTimes : List Nat
  fails : List Nat
  worn : Bool
  failed : Bool
  retried : Bool
  timedOut : Bool
  prbsLock : Bool
  inject : Nat
  scr : Nat
  prbs : Nat
  amRx : Nat
  injectAt : Nat
  dead : Bool
  slotted : Bool
  farTrains : Bool
  txSince : Nat
deriving DecidableEq, Repr

/-- A lane after reset. -/
def FabLane.idle : FabLane :=
  ⟨.idle, 0, 0, 0, 0, 0, false, false, false, 0, 0, 0, 0, 0, [], [], false, false, false, false, false, 0, 0, 0, 0, 0, false, false, false, 0⟩
/-- An unlisted lane is idle. -/
def fabIdle : Nat → FabLane := fun _ => FabLane.idle

/-- A subscription held as publisher (R198–R200). `age` orders admissions; `seq` is its next SEQ; `lastUnit` the unit of the
last cell sent. -/
structure PubSub where
  sid : Nat
  count : Nat
  purpose : Nat
  charge : Nat
  age : Nat
  seq : Nat
  lastUnit : Nat
deriving DecidableEq, Repr

/-- A unit presented lately: its number, the Pacer time of its presentation, whether it was absent, its body. -/
structure ShownUnit where
  unit : Nat
  at_ : Nat
  absent : Bool
  body : CellBody
deriving DecidableEq, Repr

/-- A subscription held as subscriber. `first` is FIRST_RELEASE as PT96; `buf` the units received and not yet presented,
each with whether it is absent; `shown` those presented lately, newest first; `good` the last good body; `seq` the next SEQ
expected; `present` and `fmt` are what STREAM_STATE told last. -/
structure HeldSub where
  sid : Nat
  count : Nat
  purpose : Nat
  charge : Nat
  first : Nat
  seq : Option Nat
  buf : List (Nat × Bool × CellBody)
  shown : List ShownUnit
  good : CellBody
  present : Bool
  fmt : Nat
deriving DecidableEq, Repr

/-- A request sent and not yet answered; `again` that it repeats one for a stream that was shed or released (R202). -/
structure SubAsk where
  reqId : Nat
  sid : Nat
  count : Nat
  purpose : Nat
  again : Bool
deriving DecidableEq, Repr

/-- A Relay link (R185–R202). Maps are lists of link lanes, ascending. `txMap` is the map striped in the transmit direction,
`txNext` the map announced, `asked` the map the peer requests, `rxMap` the received TX_MAP, `want` the map our receiver
requests. `lost` lists streams shed or released that are still wanted, with their purpose (R202); `closing` channels released and not
yet acknowledged; `sentTick` is the tick of the last marker sent, `blocked` that takes block a reduction (R201), `held` that a
lane under test keeps the link from retraining (R208). `blockNo` is the number of the next data block of the interval after a marker (R189),
`ctlSeq` the next SEQ of the channel of control and fill. `part` is the payload of that block so far and `partHead` its FIRST_CELL; `wait` the
cells left for the next interval; `hunting` that reception waits for the next FIRST_CELL (R197). -/
structure FabLink where
  up : Bool
  txMap : List Nat
  txNext : List Nat
  asked : List Nat
  rxMap : List Nat
  want : List Nat
  amTx : Nat
  anyMarker : Nat
  blocked : Bool
  held : Bool
  nextReq : Nat
  nextAge : Nat
  pubs : Tbl PubSub
  subs : Tbl HeldSub
  asks : List SubAsk
  lost : List (Nat × Nat × Nat)
  closing : List Nat
  sentTick : Nat
  blockNo : Nat
  ctlSeq : Nat
  part : List Byte
  partHead : Nat
  wait : List (List Byte)
  hunting : Bool
deriving DecidableEq, Repr

/-- A link after reset. -/
def FabLink.down : FabLink := ⟨false, [], [], [], [], [], 0, 0, false, false, 0, 0, [], [], [], [], [], 0, 0, 0, [], 0x1FFF, [], false⟩
/-- An unlisted link is down. -/
def linkDown : Nat → FabLink := fun _ => FabLink.down

/-- The fabric. `ticks` with a link's state; `reported` that link-down reports have begun (R492). -/
structure FabSt where
  lanes : Tbl FabLane
  links : Tbl FabLink
deriving DecidableEq, Repr

end Sys2Proof.Machine
end

