-- ==== Sys2Proof/Machine/FabCode.lean ====
section
/-! DEFINITION. How the Relay fabric lays bits out on a lane: training frames (R179), Reed-Solomon codewords and blocks (R183), the
scrambler (R184), marker payloads (R185) and cells (R195, R196), all in network order (R8). -/

namespace Sys2Proof.Machine

/-! ### Training frames (R179, Tables 6-4 and 6-5) -/

/-- The level of a Gray-coded bit pair. -/
def pamLevel (hi lo : Bool) : Nat := if hi then (if lo then 2 else 3) else (if lo then 1 else 0)

/-- The four symbols of a CONTROL or STATUS bit. -/
def ctlSymbols (b : Bool) : List Nat := if b then [2, 2, 1, 1] else [1, 1, 2, 2]

/-- The 64 symbols of a CONTROL or STATUS word, most significant bit first. -/
def wordSymbols (w : Nat) : List Nat := (List.range 16).flatMap (fun i => ctlSymbols (bitOf w (15 - i)))

/-- The next bit of PRBS13, x^13 + x^12 + x^2 + x + 1: the last 13 bits, the newest in bit 0. -/
def prbsBit (r : Nat) : Bool := bitOf r 0 ^^ bitOf r 1 ^^ bitOf r 11 ^^ bitOf r 12

/-- The register with a bit taken in. -/
def prbsNext (r : Nat) : Nat := (2 * r + b2n (prbsBit r)) % 2 ^ 13

/-- `n` symbols of PATTERN and the register after them. -/
def prbsSymbols : Nat → Nat → List Nat × Nat
  | 0, r => ([], r)
  | n + 1, r =>
    let r1 := prbsNext r
    let p := prbsSymbols n (prbsNext r1)
    (pamLevel (prbsBit r) (prbsBit r1) :: p.1, p.2)

/-- A training frame of 4,096 symbols, and the PRBS13 register with which the next one continues. -/
def trainFrame (control status r : Nat) : List Nat × Nat :=
  let p := prbsSymbols 3936 r
  (List.replicate 16 3 ++ List.replicate 16 0 ++ wordSymbols control ++ wordSymbols status ++ p.1, p.2)

/-- The next bit of PRBS31, x^31 + x^28 + 1: the last 31 bits, the newest in bit 0 (PRESUMED, log entry 191). -/
def prbs31Bit (r : Nat) : Bool := bitOf r 30 ^^ bitOf r 27

/-- `n` levels of PRBS31Q from a register. -/
def prbs31Levels : Nat → Nat → List Nat
  | 0, _ => []
  | n + 1, r =>
    let r1 := (2 * r + b2n (prbs31Bit r)) % 2 ^ 31
    pamLevel (prbs31Bit r) (prbs31Bit r1) :: prbs31Levels n ((2 * r1 + b2n (prbs31Bit r1)) % 2 ^ 31)

/-- The first `n` levels of a test pattern, PRBS_MODE 1 to 3, from a register (R207). -/
def patternLevels (mode r n : Nat) : List Nat :=
  match mode with
  | 1 => (prbsSymbols n r).1
  | 2 => prbs31Levels n r
  | 3 => (List.range n).map (fun i => Config.ssprqLevel i % 4)
  | _ => []

/-! ### RS(544,514) over GF(2^10) (R183) -/

/-- A product in GF(2^10) modulo x^10 + x^3 + 1: `n` bits of `b` are left, most significant first. -/
def gfMul : Nat → Nat → Nat → Nat → Nat
  | 0, _, _, z => z
  | n + 1, a, b, z =>
    let y := if z / 512 = 1 then 2 * (z % 512) ^^^ 9 else 2 * z
    gfMul n a b (if bitOf b n then y ^^^ a else y)

/-- A power of the primitive element. -/
def gfPow : Nat → Nat
  | 0 => 1
  | n + 1 => gfMul 10 (gfPow n) 2 0

/-- The generator polynomial of Clause 91, the product of x − α^j for j from 0 to 29: its coefficients below x^30, highest first. -/
def rsGen : List Nat :=
  ((List.range 30).foldl (fun (g : List Nat) j => List.zipWith (· ^^^ ·) (g ++ [0]) (0 :: g.map (fun c => gfMul 10 c (gfPow j) 0))) [1]).drop 1

/-- The 30 parity symbols of a message. -/
def rsParity (m : List Nat) : List Nat :=
  m.foldl (fun (r : List Nat) x =>
    let q := x ^^^ r.headD 0
    List.zipWith (fun a c => a ^^^ gfMul 10 c q 0) (r.drop 1 ++ [0]) rsGen) (List.replicate 30 0)

/-- The symbols of bytes, ten bits each, most significant bit first. -/
def byteSymbols (b : List Byte) : List Nat :=
  let n := 8 * b.length / 10
  let v := ofBe b
  (List.range n).map (fun i => v / 2 ^ (10 * (n - 1 - i)) % 1024)

/-- A block of 2,570 message bytes as four codewords, each message followed by its parity. -/
def blockSymbols (b : List Byte) : List Nat :=
  let y := byteSymbols b
  (List.range 4).flatMap (fun i =>
    let m := (y.drop (514 * i)).take 514
    m ++ rsParity m)

/-- Payload bytes of a block. -/
def blockLen : Nat := 2568

/-- The header of a block (Table 6-7). -/
def blockHead (type first : Nat) : List Byte := beBytes 2 (type * 2 ^ 14 + first)

/-! ### The scrambler (R184) -/

/-- A byte through x^58 + x^39 + 1, most significant bit first: the state holds the last 58 bits sent, the newest in bit 0. -/
def scrByte (s : Nat) (b : Byte) : Nat × Byte :=
  (List.range 8).foldl (fun (p : Nat × Byte) i =>
    let o := bitOf p.1 38 ^^ bitOf p.1 57 ^^ b.getLsbD (7 - i)
    ((2 * p.1 + b2n o) % 2 ^ 58, (p.2 <<< 1) ||| BitVec.ofNat 8 (b2n o))) (s, 0)

/-- Bytes through the scrambler, and its state after them. -/
def scramble : Nat → List Byte → Nat × List Byte
  | s, [] => (s, [])
  | s, b :: l =>
    let p := scrByte s b
    let q := scramble p.1 l
    (q.1, p.2 :: q.2)

/-! ### Alignment markers (R185, Table 6-8) -/

/-- What a marker says: AM_COUNT, DEVICE, LINK_LANE, TX_MAP, TX_MAP_NEXT, RX_GOOD, RX_REQ and STATE. -/
structure Marker where
  count : Nat
  device : Nat
  lane : Nat
  txMap : Nat
  txNext : Nat
  rxGood : Nat
  rxReq : Nat
  state : Nat
deriving DecidableEq, Repr

/-- A marker's payload; its remaining bytes are 0. -/
def markerBytes (m : Marker) : List Byte :=
  beBytes 8 0x5A3C960FA5C369F0 ++ beBytes 4 m.count ++ beBytes 1 (m.device * 16) ++ beBytes 1 m.lane ++ beBytes 3 m.txMap ++
    beBytes 3 m.txNext ++ beBytes 3 m.rxGood ++ beBytes 3 m.rxReq ++ beBytes 1 m.state ++ List.replicate (blockLen - 27) 0

/-- A marker's block: no cell starts in it. -/
def markerBlock (m : Marker) : List Nat := blockSymbols (blockHead 1 0x1FFF ++ markerBytes m)

/-! ### Cells (R195, R196, Table 6-9) -/

/-- One byte of the header check, CRC-8 with x^8 + x^2 + x + 1. -/
def hecStep (c : Byte) (b : Byte) : Byte :=
  (List.range 8).foldl (fun (r : Byte) _ => if r.getLsbD 7 then (r <<< 1) ^^^ 0x07 else r <<< 1) (c ^^^ b)

/-- HEC of the first seven header bytes. -/
def hec (b : List Byte) : Byte := b.foldl hecStep 0

/-- A cell: header and payload. -/
def cellBytes (type flags channel unit seq : Nat) (payload : List Byte) : List Byte :=
  let h := beBytes 7 (((type % 16 * 16 + flags % 16) * 2 ^ 14 + channel % 2 ^ 14) * 2 ^ 34 + (unit % 4096 * 2 ^ 14 + payload.length % 2 ^ 14) * 2 ^ 8 +
    seq % 256)
  h ++ [hec h] ++ payload

/-- The number of bits of a field, most significant first. -/
def bitsOf (n v : Nat) : List Bool := (List.range n).map (fun i => bitOf v (n - 1 - i))

/-- Whole bytes of bits. -/
def packBits : Nat → List Bool → List Byte
  | 0, _ => []
  | n + 1, l => BitVec.ofNat 8 ((l.take 8).foldl (fun a b => 2 * a + b2n b) 0) :: packBits n (l.drop 8)

/-- A ten-bit ancillary word of a byte: even parity in bit 8, its inverse in bit 9. -/
def ancWord (b : Byte) : Nat :=
  let p := ((List.range 8).map (fun i => b2n (b.getLsbD i))).foldl (· + ·) 0 % 2
  b.toNat + 256 * p + 512 * (1 - p)

/-- An ancillary packet in the packet layout of RFC 8331: C, Line_Number, Horizontal_Offset, S, StreamNum; DID, SDID, Data_Count, user words
and checksum on ten bits each; padded to 32 bits (PRESUMED, log entry 168). -/
def ancBytes (p : AncPkt) : List Byte :=
  let words := ancWord p.did :: ancWord p.sdid :: ancWord (BitVec.ofNat 8 p.data.length) :: p.data.map ancWord
  let sum := (words.map (fun w => w % 512)).foldl (· + ·) 0 % 512
  let check := sum + (if bitOf sum 8 then 0 else 512)
  let bits := bitsOf 1 (b2n p.cStream) ++ bitsOf 11 p.line ++ bitsOf 12 p.hoff ++ bitsOf 1 (b2n (decide (p.link ≠ 0))) ++ bitsOf 7 p.link ++
    (words ++ [check]).flatMap (bitsOf 10)
  pad4 (packBits ((bits.length + 7) / 8) (bits ++ List.replicate 8 false))

/-- The payload of a cell (R196). Audio is sample-major, three bytes a sample; how a time-code value lies in its cell is not stated. -/
def cellPayload : CellBody → List Byte
  | .none => []
  | .video line => line
  | .audio vs => (List.range ((vs.map List.length).foldl max 0)).flatMap (fun i => vs.flatMap (fun c => beBytes 3 (c.getD i 0)))
  | .anc ps => ps.flatMap ancBytes
  | .tc v atc => Config.tcBytes v atc
  | .sdi _ _ => []

/-- A fill cell with `n` payload bytes. -/
def fillCell (seq n : Nat) : List Byte := cellBytes 0 0 16383 0 seq (List.replicate n 0)

/-- FIRST_CELL of block i of a stream in which cell headers start at the places given. -/
def firstCell (heads : List Nat) (i : Nat) : Nat :=
  match heads.find? (fun h => decide (blockLen * i ≤ h ∧ h < blockLen * (i + 1))) with
  | some h => h - blockLen * i
  | none => 0x1FFF

/-- The symbols of `n` blocks that carry one fill cell each, their cells counted from `seq` on, and the scrambler's state before them. -/
def fillSymbols : Nat → Nat → Nat → Nat → List (List Nat)
  | 0, _, _, _ => []
  | n + 1, seq, step, s =>
    let p := scramble s (fillCell (seq % 256) (blockLen - 8))
    blockSymbols (blockHead 0 0 ++ p.2) :: fillSymbols n (seq + step) step p.1

/-- The scrambler's state after `n` blocks of fill, their cells counted from `seq` on. -/
def fillRun : Nat → Nat → Nat → Nat → Nat
  | 0, _, _, s => s
  | n + 1, seq, step, s => fillRun n (seq + step) step (scramble s (fillCell (seq % 256) (blockLen - 8))).1

end Sys2Proof.Machine

namespace Sys2Proof

/-- TYPE of a received cell. -/
def RelayCell.type (c : RelayCell) : Nat := Machine.fld (Machine.ofBe c.header) 63 60
/-- ABSENT. -/
def RelayCell.absent (c : RelayCell) : Bool := Machine.bitOf (Machine.ofBe c.header) 58
/-- CHANNEL. -/
def RelayCell.channel (c : RelayCell) : Nat := Machine.fld (Machine.ofBe c.header) 55 42
/-- UNIT. -/
def RelayCell.unit (c : RelayCell) : Nat := Machine.fld (Machine.ofBe c.header) 41 30
/-- SEQ. -/
def RelayCell.seq (c : RelayCell) : Nat := Machine.fld (Machine.ofBe c.header) 15 8
/-- Whether the header check verifies: eight bytes, the last the HEC of the others. -/
def RelayCell.hecOk (c : RelayCell) : Bool := c.header.length == 8 && c.header.getD 7 0 == Machine.hec (c.header.take 7)

end Sys2Proof
end

