-- ==== Sys2Proof/Machine/ObjKeys.lean ====
section
/-! DEFINITION. The keys of the dictionary objects: index × 256 + subindex of every object row of the object tables
of spec/, one name each (R7, R39 and the object tables of each chapter). -/

namespace Sys2Proof.Machine.O

/-- ORDER_CODE, 0x1001:01 (Table 0-2). -/
def idOrderCode : Nat := 0x100101
/-- STEPPING, 0x1001:02 (Table 0-2). -/
def idStepping : Nat := 0x100102
/-- SERIAL, 0x1001:03 (Table 0-2). -/
def idSerial : Nat := 0x100103
/-- FIRMWARE_VERSION, 0x1001:04 (Table 0-2). -/
def idFirmwareVersion : Nat := 0x100104
/-- DEVICE_INDEX, 0x4001:01 (Table 1-3). -/
def meshDeviceIndex : Nat := 0x400101
/-- SLOT_KIND, 0x5100+s:01 (Table 1-5). -/
def slotSlotKind (n : Nat) : Nat := 0x510001 + 256 * n
/-- SLOT_ENABLE, 0x5100+s:02 (Table 1-5). -/
def slotSlotEnable (n : Nat) : Nat := 0x510002 + 256 * n
/-- ORIGIN, 0x5100+s:03 (Table 1-5). -/
def slotOrigin (n : Nat) : Nat := 0x510003 + 256 * n
/-- RASTER, 0x5100+s:04 (Table 1-5). -/
def slotRaster (n : Nat) : Nat := 0x510004 + 256 * n
/-- AUDIO_CHANNELS, 0x5100+s:05 (Table 1-5). -/
def slotAudioChannels (n : Nat) : Nat := 0x510005 + 256 * n
/-- AUDIO_RATE, 0x5100+s:06 (Table 1-5). -/
def slotAudioRate (n : Nat) : Nat := 0x510006 + 256 * n
/-- ANC_STREAMS, 0x5100+s:07 (Table 1-5). -/
def slotAncStreams (n : Nat) : Nat := 0x510007 + 256 * n
/-- GROUP, 0x5100+s:08 (Table 1-5). -/
def slotGroup (n : Nat) : Nat := 0x510008 + 256 * n
/-- ESSENCE_RATE, 0x5100+s:09 (Table 1-5). -/
def slotEssenceRate (n : Nat) : Nat := 0x510009 + 256 * n
/-- SID_BASE, 0x5100+s:0A (Table 1-5). -/
def slotSidBase (n : Nat) : Nat := 0x51000A + 256 * n
/-- ALIGN_WAIT, 0x5100+s:0B (Table 1-5). -/
def slotAlignWait (n : Nat) : Nat := 0x51000B + 256 * n
/-- OUTPUT_KIND, 0x6000+o:01 (Table 1-8). -/
def outOutputKind (n : Nat) : Nat := 0x600001 + 256 * n
/-- RASTER, 0x6000+o:02 (Table 1-8). -/
def outRaster (n : Nat) : Nat := 0x600002 + 256 * n
/-- SWITCH_LINE, 0x6000+o:03 (Table 1-8). -/
def outSwitchLine (n : Nat) : Nat := 0x600003 + 256 * n
/-- PATH_LATENCY_LINES, 0x6000+o:04 (Table 1-8). -/
def outPathLatencyLines (n : Nat) : Nat := 0x600004 + 256 * n
/-- PATH_LATENCY_SAMPLES, 0x6000+o:05 (Table 1-8). -/
def outPathLatencySamples (n : Nat) : Nat := 0x600005 + 256 * n
/-- SESSION_ID, 0x0100+k:01 (Table 2-9). -/
def sessSessionId (n : Nat) : Nat := 0x010001 + 256 * n
/-- SESSION_ROLE, 0x0100+k:02 (Table 2-9). -/
def sessSessionRole (n : Nat) : Nat := 0x010002 + 256 * n
/-- TRANSPORT, 0x0100+k:03 (Table 2-9). -/
def sessTransport (n : Nat) : Nat := 0x010003 + 256 * n
/-- PEER, 0x0100+k:04 (Table 2-9). -/
def sessPeer (n : Nat) : Nat := 0x010004 + 256 * n
/-- OPENED, 0x0100+k:05 (Table 2-9). -/
def sessOpened (n : Nat) : Nat := 0x010005 + 256 * n
/-- CLOSE_NOW, 0x0100+k:06 (Table 2-9). -/
def sessCloseNow (n : Nat) : Nat := 0x010006 + 256 * n
/-- COMPAT_LEVEL, 0x1010:01 (Table 2-14). -/
def compatCompatLevel : Nat := 0x101001
/-- COMPAT_LEVEL_ACTIVE, 0x1010:02 (Table 2-14). -/
def compatCompatLevelActive : Nat := 0x101002
/-- COMPAT_LEVEL_MAX, 0x1010:03 (Table 2-14). -/
def compatCompatLevelMax : Nat := 0x101003
/-- COMPAT_LEVEL_MIN, 0x1010:04 (Table 2-14). -/
def compatCompatLevelMin : Nat := 0x101004
/-- LANE_MODE, 0x3000+p:01 (Table 3-5). -/
def sdiLaneMode (n : Nat) : Nat := 0x300001 + 256 * n
/-- RX_ENABLE, 0x3000+p:02 (Table 3-5). -/
def sdiRxEnable (n : Nat) : Nat := 0x300002 + 256 * n
/-- RX_RATE, 0x3000+p:03 (Table 3-5). -/
def sdiRxRate (n : Nat) : Nat := 0x300003 + 256 * n
/-- QUAD_RX, 0x3000+p:04 (Table 3-5). -/
def sdiQuadRx (n : Nat) : Nat := 0x300004 + 256 * n
/-- FORMAT_HINT, 0x3000+p:05 (Table 3-5). -/
def sdiFormatHint (n : Nat) : Nat := 0x300005 + 256 * n
/-- SD_THRESHOLD, 0x3000+p:06 (Table 3-5). -/
def sdiSdThreshold (n : Nat) : Nat := 0x300006 + 256 * n
/-- ERRORED_LINE, 0x3000+p:07 (Table 3-5). -/
def sdiErroredLine (n : Nat) : Nat := 0x300007 + 256 * n
/-- ANC_DELIVER_BAD, 0x3000+p:08 (Table 3-5). -/
def sdiAncDeliverBad (n : Nat) : Nat := 0x300008 + 256 * n
/-- ANC_FILTER_1, 0x3000+p:09–0B (Table 3-5). -/
def sdiAncFilter (n i : Nat) : Nat := 0x300009 + 256 * n + i
/-- TX_ENABLE, 0x3000+p:10 (Table 3-5). -/
def sdiTxEnable (n : Nat) : Nat := 0x300010 + 256 * n
/-- TX_MAPPING, 0x3000+p:11 (Table 3-5). -/
def sdiTxMapping (n : Nat) : Nat := 0x300011 + 256 * n
/-- EMBED_CHANNELS, 0x3000+p:12 (Table 3-5). -/
def sdiEmbedChannels (n : Nat) : Nat := 0x300012 + 256 * n
/-- ATC_LINE_LTC, 0x3000+p:13 (Table 3-5). -/
def sdiAtcLineLtc (n : Nat) : Nat := 0x300013 + 256 * n
/-- ATC_LINE_VITC, 0x3000+p:14 (Table 3-5). -/
def sdiAtcLineVitc (n : Nat) : Nat := 0x300014 + 256 * n
/-- LOCK_STATE, 0x3000+p:20 (Table 3-5). -/
def sdiLockState (n : Nat) : Nat := 0x300020 + 256 * n
/-- RATE_DETECTED, 0x3000+p:21 (Table 3-5). -/
def sdiRateDetected (n : Nat) : Nat := 0x300021 + 256 * n
/-- RASTER_DETECTED, 0x3000+p:22 (Table 3-5). -/
def sdiRasterDetected (n : Nat) : Nat := 0x300022 + 256 * n
/-- PAYLOAD_ID, 0x3000+p:23 (Table 3-5). -/
def sdiPayloadId (n : Nat) : Nat := 0x300023 + 256 * n
/-- LINK_NUMBER, 0x3000+p:24 (Table 3-5). -/
def sdiLinkNumber (n : Nat) : Nat := 0x300024 + 256 * n
/-- QUAD_STATE, 0x3000+p:25 (Table 3-5). -/
def sdiQuadState (n : Nat) : Nat := 0x300025 + 256 * n
/-- LINK_SKEW, 0x3000+p:26 (Table 3-5). -/
def sdiLinkSkew (n : Nat) : Nat := 0x300026 + 256 * n
/-- CRC_ERRORS, 0x3000+p:30 (Table 3-5). -/
def sdiCrcErrors (n : Nat) : Nat := 0x300030 + 256 * n
/-- LN_ERRORS, 0x3000+p:31 (Table 3-5). -/
def sdiLnErrors (n : Nat) : Nat := 0x300031 + 256 * n
/-- TRS_ERRORS, 0x3000+p:32 (Table 3-5). -/
def sdiTrsErrors (n : Nat) : Nat := 0x300032 + 256 * n
/-- LOCK_LOSSES, 0x3000+p:33 (Table 3-5). -/
def sdiLockLosses (n : Nat) : Nat := 0x300033 + 256 * n
/-- FORMAT_CHANGES, 0x3000+p:34 (Table 3-5). -/
def sdiFormatChanges (n : Nat) : Nat := 0x300034 + 256 * n
/-- ANC_CHECKSUM_ERRORS, 0x3000+p:35 (Table 3-5). -/
def sdiAncChecksumErrors (n : Nat) : Nat := 0x300035 + 256 * n
/-- ANC_DROPPED, 0x3000+p:36 (Table 3-5). -/
def sdiAncDropped (n : Nat) : Nat := 0x300036 + 256 * n
/-- AUDIO_ECC_CORRECTED, 0x3000+p:37 (Table 3-5). -/
def sdiAudioEccCorrected (n : Nat) : Nat := 0x300037 + 256 * n
/-- AUDIO_ECC_UNCORRECTED, 0x3000+p:38 (Table 3-5). -/
def sdiAudioEccUncorrected (n : Nat) : Nat := 0x300038 + 256 * n
/-- ERRORED_SECONDS, 0x3000+p:39 (Table 3-5). -/
def sdiErroredSeconds (n : Nat) : Nat := 0x300039 + 256 * n
/-- TX_ANC_DROPPED, 0x3000+p:3A (Table 3-5). -/
def sdiTxAncDropped (n : Nat) : Nat := 0x30003A + 256 * n
/-- COUNTERS_CLEAR, 0x3000+p:3F (Table 3-5). -/
def sdiCountersClear (n : Nat) : Nat := 0x30003F + 256 * n
/-- RX_FLOW_r, 0x3800–0x383F:01–80 (Table 4-5). -/
def rxFlow (n : Nat) : Nat := 0x380001 + 256 * (n / 128) + n % 128
/-- TX_FLOW_s, 0x3840–0x387F:01–80 (Table 4-5). -/
def txFlow (n : Nat) : Nat := 0x384001 + 256 * (n / 128) + n % 128
/-- RX_FLOW_STATUS_r, 0x3880–0x38BF:01–80 (Table 4-5). -/
def rxFlowStatus (n : Nat) : Nat := 0x388001 + 256 * (n / 128) + n % 128
/-- TX_FLOW_STATUS_s, 0x38C0–0x38FF:01–80 (Table 4-5). -/
def txFlowStatus (n : Nat) : Nat := 0x38C001 + 256 * (n / 128) + n % 128
/-- ETH_RATE, 0x3400+p:01 (Table 4-9). -/
def ethEthRate (n : Nat) : Nat := 0x340001 + 256 * n
/-- FEC, 0x3400+p:02 (Table 4-9). -/
def ethFec (n : Nat) : Nat := 0x340002 + 256 * n
/-- MAC_ADDRESS, 0x3400+p:03 (Table 4-9). -/
def ethMacAddress (n : Nat) : Nat := 0x340003 + 256 * n
/-- IPV4_ADDRESS, 0x3400+p:04 (Table 4-9). -/
def ethIpv4Address (n : Nat) : Nat := 0x340004 + 256 * n
/-- IPV4_PREFIX, 0x3400+p:05 (Table 4-9). -/
def ethIpv4Prefix (n : Nat) : Nat := 0x340005 + 256 * n
/-- IPV6_LINK_LOCAL, 0x3400+p:06 (Table 4-9). -/
def ethIpv6LinkLocal (n : Nat) : Nat := 0x340006 + 256 * n
/-- IPV6_ADDRESS, 0x3400+p:07 (Table 4-9). -/
def ethIpv6Address (n : Nat) : Nat := 0x340007 + 256 * n
/-- DELIVER_ERRORED, 0x3400+p:08 (Table 4-9). -/
def ethDeliverErrored (n : Nat) : Nat := 0x340008 + 256 * n
/-- PTP_HANDLER, 0x3400+p:09 (Table 4-9). -/
def ethPtpHandler (n : Nat) : Nat := 0x340009 + 256 * n
/-- PUNT_RING, 0x3400+p:0A (Table 4-9). -/
def ethPuntRing (n : Nat) : Nat := 0x34000A + 256 * n
/-- PUNT_RATE, 0x3400+p:0B (Table 4-9). -/
def ethPuntRate (n : Nat) : Nat := 0x34000B + 256 * n
/-- PUNT_BURST, 0x3400+p:0C (Table 4-9). -/
def ethPuntBurst (n : Nat) : Nat := 0x34000C + 256 * n
/-- RX_DELAY_CORR, 0x3400+p:0D (Table 4-9). -/
def ethRxDelayCorr (n : Nat) : Nat := 0x34000D + 256 * n
/-- TX_DELAY_CORR, 0x3400+p:0E (Table 4-9). -/
def ethTxDelayCorr (n : Nat) : Nat := 0x34000E + 256 * n
/-- LINK_STATE, 0x3400+p:20 (Table 4-9). -/
def ethLinkState (n : Nat) : Nat := 0x340020 + 256 * n
/-- RX_FRAMES, 0x3400+p:30 (Table 4-9). -/
def ethRxFrames (n : Nat) : Nat := 0x340030 + 256 * n
/-- RX_BYTES, 0x3400+p:31 (Table 4-9). -/
def ethRxBytes (n : Nat) : Nat := 0x340031 + 256 * n
/-- RX_FCS_ERRORS, 0x3400+p:32 (Table 4-9). -/
def ethRxFcsErrors (n : Nat) : Nat := 0x340032 + 256 * n
/-- RX_RUNTS, 0x3400+p:33 (Table 4-9). -/
def ethRxRunts (n : Nat) : Nat := 0x340033 + 256 * n
/-- RX_FRAGMENTS, 0x3400+p:34 (Table 4-9). -/
def ethRxFragments (n : Nat) : Nat := 0x340034 + 256 * n
/-- RX_OVERSIZE, 0x3400+p:35 (Table 4-9). -/
def ethRxOversize (n : Nat) : Nat := 0x340035 + 256 * n
/-- RX_PAUSE, 0x3400+p:36 (Table 4-9). -/
def ethRxPause (n : Nat) : Nat := 0x340036 + 256 * n
/-- RX_UNMATCHED, 0x3400+p:37 (Table 4-9). -/
def ethRxUnmatched (n : Nat) : Nat := 0x340037 + 256 * n
/-- RX_IP_ERRORS, 0x3400+p:38 (Table 4-9). -/
def ethRxIpErrors (n : Nat) : Nat := 0x340038 + 256 * n
/-- RX_PUNTED, 0x3400+p:39 (Table 4-9). -/
def ethRxPunted (n : Nat) : Nat := 0x340039 + 256 * n
/-- RX_PUNT_DROPPED, 0x3400+p:3A (Table 4-9). -/
def ethRxPuntDropped (n : Nat) : Nat := 0x34003A + 256 * n
/-- TX_FRAMES, 0x3400+p:3B (Table 4-9). -/
def ethTxFrames (n : Nat) : Nat := 0x34003B + 256 * n
/-- TX_DISCARDED, 0x3400+p:3C (Table 4-9). -/
def ethTxDiscarded (n : Nat) : Nat := 0x34003C + 256 * n
/-- TX_TS_OVERFLOW, 0x3400+p:3D (Table 4-9). -/
def ethTxTsOverflow (n : Nat) : Nat := 0x34003D + 256 * n
/-- LINK_DOWNS, 0x3400+p:3E (Table 4-9). -/
def ethLinkDowns (n : Nat) : Nat := 0x34003E + 256 * n
/-- COUNTERS_CLEAR, 0x3400+p:3F (Table 4-9). -/
def ethCountersClear (n : Nat) : Nat := 0x34003F + 256 * n
/-- ALIGN_MODE, 0x5100+s:10 (Table 5-4). -/
def slotAlignMode (n : Nat) : Nat := 0x510010 + 256 * n
/-- VIDEO_DELAY, 0x5100+s:11 (Table 5-4). -/
def slotVideoDelay (n : Nat) : Nat := 0x510011 + 256 * n
/-- LOSS_ACTION, 0x5100+s:12 (Table 5-4). -/
def slotLossAction (n : Nat) : Nat := 0x510012 + 256 * n
/-- ALIGN_STATE, 0x5100+s:13 (Table 5-4). -/
def slotAlignState (n : Nat) : Nat := 0x510013 + 256 * n
/-- FREQ_OFFSET, 0x5100+s:14 (Table 5-4). -/
def slotFreqOffset (n : Nat) : Nat := 0x510014 + 256 * n
/-- FRAMES_REPEATED, 0x5100+s:15 (Table 5-4). -/
def slotFramesRepeated (n : Nat) : Nat := 0x510015 + 256 * n
/-- FRAMES_DROPPED, 0x5100+s:16 (Table 5-4). -/
def slotFramesDropped (n : Nat) : Nat := 0x510016 + 256 * n
/-- LATE_LINES, 0x5100+s:17 (Table 5-4). -/
def slotLateLines (n : Nat) : Nat := 0x510017 + 256 * n
/-- UNDERRUN_LINES, 0x5100+s:18 (Table 5-4). -/
def slotUnderrunLines (n : Nat) : Nat := 0x510018 + 256 * n
/-- STORE_PAGES, 0x5100+s:19 (Table 5-4). -/
def slotStorePages (n : Nat) : Nat := 0x510019 + 256 * n
/-- REALIGN, 0x5100+s:1A (Table 5-4). -/
def slotRealign (n : Nat) : Nat := 0x51001A + 256 * n
/-- W_SAMPLES, 0x5100+s:1B (Table 5-4). -/
def slotWSamples (n : Nat) : Nat := 0x51001B + 256 * n
/-- COUNTERS_CLEAR, 0x5100+s:1F (Table 5-4). -/
def slotCountersClear (n : Nat) : Nat := 0x51001F + 256 * n
/-- AUDIO_DELAY_1, 0x5200+s:01–80 (Table 5-5). -/
def slotAudioDelay (n i : Nat) : Nat := 0x520001 + 256 * n + i
/-- ALIGN_LAG, 0x5001:01 (Table 5-6). -/
def alnAlignLag : Nat := 0x500101
/-- AUDIO_OFFSET, 0x5001:02 (Table 5-6). -/
def alnAudioOffset : Nat := 0x500102
/-- PAGES_TOTAL, 0x5002:01 (Table 5-6). -/
def storePagesTotal : Nat := 0x500201
/-- PAGES_ALLOCATED, 0x5002:02 (Table 5-6). -/
def storePagesAllocated : Nat := 0x500202
/-- PAGES_FREE, 0x5002:03 (Table 5-6). -/
def storePagesFree : Nat := 0x500203
/-- SPARES_TOTAL, 0x5002:04 (Table 5-6). -/
def storeSparesTotal : Nat := 0x500204
/-- SPARES_LEFT, 0x5002:05 (Table 5-6). -/
def storeSparesLeft : Nat := 0x500205
/-- PAGES_RETIRED, 0x5002:06 (Table 5-6). -/
def storePagesRetired : Nat := 0x500206
/-- CE_COUNT, 0x5002:07 (Table 5-6). -/
def storeCeCount : Nat := 0x500207
/-- UE_COUNT, 0x5002:08 (Table 5-6). -/
def storeUeCount : Nat := 0x500208
/-- CE_RETIRE_THRESHOLD, 0x5002:09 (Table 5-6). -/
def storeCeRetireThreshold : Nat := 0x500209
/-- SCRUB_PASS_TIME, 0x5002:0A (Table 5-6). -/
def storeScrubPassTime : Nat := 0x50020A
/-- SCRUB_PASSES, 0x5002:0B (Table 5-6). -/
def storeScrubPasses : Nat := 0x50020B
/-- ESSENCE_BW_RESERVED, 0x5002:0C (Table 5-6). -/
def storeEssenceBwReserved : Nat := 0x50020C
/-- AUDIO_DELAY_PAGES, 0x5002:0D (Table 5-6). -/
def storeAudioDelayPages : Nat := 0x50020D
/-- MESH_SIZE, 0x4001:02 (Table 6-11). -/
def meshMeshSize : Nat := 0x400102
/-- ACTIVE_LANES, 0x4001:03 (Table 6-11). -/
def meshActiveLanes : Nat := 0x400103
/-- HOT_SPARES, 0x4001:04 (Table 6-11). -/
def meshHotSpares : Nat := 0x400104
/-- EYE_THRESHOLD, 0x4001:05 (Table 6-11). -/
def meshEyeThreshold : Nat := 0x400105
/-- EYE_SCAN_PERIOD, 0x4001:06 (Table 6-11). -/
def meshEyeScanPeriod : Nat := 0x400106
/-- TRAIN_TIMEOUT, 0x4001:07 (Table 6-11). -/
def meshTrainTimeout : Nat := 0x400107
/-- PEERS_UP, 0x4002:01 (Table 6-11). -/
def relayPeersUp : Nat := 0x400201
/-- SUBS_PUBLISHED, 0x4002:02 (Table 6-11). -/
def relaySubsPublished : Nat := 0x400202
/-- SUBS_HELD, 0x4002:03 (Table 6-11). -/
def relaySubsHeld : Nat := 0x400203
/-- LINK_STATE, 0x4010+j:01 (Table 6-12). -/
def linkLinkState (n : Nat) : Nat := 0x401001 + 256 * n
/-- PEER_SLOT, 0x4010+j:02 (Table 6-12). -/
def linkPeerSlot (n : Nat) : Nat := 0x401002 + 256 * n
/-- LANE_BASE, 0x4010+j:03 (Table 6-12). -/
def linkLaneBase (n : Nat) : Nat := 0x401003 + 256 * n
/-- LANES, 0x4010+j:04 (Table 6-12). -/
def linkLanes (n : Nat) : Nat := 0x401004 + 256 * n
/-- TX_ACTIVE, 0x4010+j:05 (Table 6-12). -/
def linkTxActive (n : Nat) : Nat := 0x401005 + 256 * n
/-- RX_ACTIVE, 0x4010+j:06 (Table 6-12). -/
def linkRxActive (n : Nat) : Nat := 0x401006 + 256 * n
/-- HOT_SPARES_LEFT, 0x4010+j:07 (Table 6-12). -/
def linkHotSparesLeft (n : Nat) : Nat := 0x401007 + 256 * n
/-- CAPACITY_TX, 0x4010+j:08 (Table 6-12). -/
def linkCapacityTx (n : Nat) : Nat := 0x401008 + 256 * n
/-- CHARGE_TX, 0x4010+j:09 (Table 6-12). -/
def linkChargeTx (n : Nat) : Nat := 0x401009 + 256 * n
/-- CHARGE_RX, 0x4010+j:0A (Table 6-12). -/
def linkChargeRx (n : Nat) : Nat := 0x40100A + 256 * n
/-- SUBS_TX, 0x4010+j:0B (Table 6-12). -/
def linkSubsTx (n : Nat) : Nat := 0x40100B + 256 * n
/-- SUBS_RX, 0x4010+j:0C (Table 6-12). -/
def linkSubsRx (n : Nat) : Nat := 0x40100C + 256 * n
/-- SHED_COUNT, 0x4010+j:0D (Table 6-12). -/
def linkShedCount (n : Nat) : Nat := 0x40100D + 256 * n
/-- SUBSTITUTIONS, 0x4010+j:0E (Table 6-12). -/
def linkSubstitutions (n : Nat) : Nat := 0x40100E + 256 * n
/-- ADMISSION_REFUSED, 0x4010+j:0F (Table 6-12). -/
def linkAdmissionRefused (n : Nat) : Nat := 0x40100F + 256 * n
/-- SKEW_MAX, 0x4010+j:10 (Table 6-12). -/
def linkSkewMax (n : Nat) : Nat := 0x401010 + 256 * n
/-- CELLS_ERRORED, 0x4010+j:11 (Table 6-12). -/
def linkCellsErrored (n : Nat) : Nat := 0x401011 + 256 * n
/-- COUNTERS_CLEAR, 0x4010+j:1F (Table 6-12). -/
def linkCountersClear (n : Nat) : Nat := 0x40101F + 256 * n
/-- LANE_ENABLE, 0x4100+f:01 (Table 6-13). -/
def flLaneEnable (n : Nat) : Nat := 0x410001 + 256 * n
/-- PRESET, 0x4100+f:02 (Table 6-13). -/
def flPreset (n : Nat) : Nat := 0x410002 + 256 * n
/-- ROLE, 0x4100+f:03 (Table 6-13). -/
def flRole (n : Nat) : Nat := 0x410003 + 256 * n
/-- LINK_LANE, 0x4100+f:04 (Table 6-13). -/
def flLinkLane (n : Nat) : Nat := 0x410004 + 256 * n
/-- TX_TAPS, 0x4100+f:05 (Table 6-13). -/
def flTxTaps (n : Nat) : Nat := 0x410005 + 256 * n
/-- EYE_MARGIN, 0x4100+f:06 (Table 6-13). -/
def flEyeMargin (n : Nat) : Nat := 0x410006 + 256 * n
/-- FEC_CORRECTED, 0x4100+f:07 (Table 6-13). -/
def flFecCorrected (n : Nat) : Nat := 0x410007 + 256 * n
/-- FEC_UNCORRECTABLE, 0x4100+f:08 (Table 6-13). -/
def flFecUncorrectable (n : Nat) : Nat := 0x410008 + 256 * n
/-- PRBS_MODE, 0x4100+f:09 (Table 6-13). -/
def flPrbsMode (n : Nat) : Nat := 0x410009 + 256 * n
/-- PRBS_INJECT, 0x4100+f:0A (Table 6-13). -/
def flPrbsInject (n : Nat) : Nat := 0x41000A + 256 * n
/-- PRBS_ERRORS, 0x4100+f:0B (Table 6-13). -/
def flPrbsErrors (n : Nat) : Nat := 0x41000B + 256 * n
/-- PRBS_BITS, 0x4100+f:0C (Table 6-13). -/
def flPrbsBits (n : Nat) : Nat := 0x41000C + 256 * n
/-- RETRAIN, 0x4100+f:0D (Table 6-13). -/
def flRetrain (n : Nat) : Nat := 0x41000D + 256 * n
/-- COUNTERS_CLEAR, 0x4100+f:1F (Table 6-13). -/
def flCountersClear (n : Nat) : Nat := 0x41001F + 256 * n
/-- MAP_ENTRY_1, 0x6400+m:01–80 (Table 7-2). -/
def mapEntry (n i : Nat) : Nat := 0x640001 + 256 * n + i
/-- TAKE_DEADLINE, 0x6000+o:10 (Table 7-8). -/
def outTakeDeadline (n : Nat) : Nat := 0x600010 + 256 * n
/-- CONFLICT_ACTION, 0x6000+o:11 (Table 7-8). -/
def outConflictAction (n : Nat) : Nat := 0x600011 + 256 * n
/-- STEP_POLICY, 0x6000+o:12 (Table 7-8). -/
def outStepPolicy (n : Nat) : Nat := 0x600012 + 256 * n
/-- AUDIO_TRANSITION, 0x6000+o:13 (Table 7-8). -/
def outAudioTransition (n : Nat) : Nat := 0x600013 + 256 * n
/-- XFADE_SAMPLES, 0x6000+o:14 (Table 7-8). -/
def outXfadeSamples (n : Nat) : Nat := 0x600014 + 256 * n
/-- ZC_TIMEOUT, 0x6000+o:15 (Table 7-8). -/
def outZcTimeout (n : Nat) : Nat := 0x600015 + 256 * n
/-- AUDIO_RATE, 0x6000+o:16 (Table 7-8). -/
def outAudioRate (n : Nat) : Nat := 0x600016 + 256 * n
/-- HOLD_LINES, 0x6000+o:17 (Table 7-8). -/
def outHoldLines (n : Nat) : Nat := 0x600017 + 256 * n
/-- CONFLICTS, 0x6000+o:18 (Table 7-8). -/
def outConflicts (n : Nat) : Nat := 0x600018 + 256 * n
/-- VIDEO_SID, 0x6100+o:01 (Table 7-9). -/
def takeVideoSid (n : Nat) : Nat := 0x610001 + 256 * n
/-- ANC_SID, 0x6100+o:02 (Table 7-9). -/
def takeAncSid (n : Nat) : Nat := 0x610002 + 256 * n
/-- TC_SID, 0x6100+o:03 (Table 7-9). -/
def takeTcSid (n : Nat) : Nat := 0x610003 + 256 * n
/-- AUDIO_POSITION_1, 0x6100+o:04 (Table 7-9). -/
def takeAudioPosition (n i : Nat) : Nat := 0x610004 + 256 * n + i
/-- TRANSITION, 0x6100+o:84 (Table 7-9). -/
def takeTransition (n : Nat) : Nat := 0x610084 + 256 * n
/-- OUTPUT_STATE, 0x6100+o:85 (Table 7-9). -/
def takeOutputState (n : Nat) : Nat := 0x610085 + 256 * n
/-- PENDING, 0x6100+o:86 (Table 7-9). -/
def takePending (n : Nat) : Nat := 0x610086 + 256 * n
/-- FRAME_COUNT, 0x6100+o:87 (Table 7-9). -/
def takeFrameCount (n : Nat) : Nat := 0x610087 + 256 * n
/-- LAST_SEQ, 0x6100+o:88 (Table 7-9). -/
def takeLastSeq (n : Nat) : Nat := 0x610088 + 256 * n
/-- VIDEO_REMOTE, 0x6100+o:89 (Table 7-9). -/
def takeVideoRemote (n : Nat) : Nat := 0x610089 + 256 * n
/-- TAKE_BATCH, 0x6200:01 (Table 7-10). -/
def takesTakeBatch : Nat := 0x620001
/-- JOURNAL_SEQ, 0x6201:01 (Table 7-10). -/
def journalJournalSeq : Nat := 0x620101
/-- JOURNAL_CURSOR, 0x6201:02 (Table 7-10). -/
def journalJournalCursor : Nat := 0x620102
/-- JOURNAL_READ, 0x6201:03 (Table 7-10). -/
def journalJournalRead : Nat := 0x620103
/-- ENABLE, 0x7010+n:01 (Table 8-5). -/
def aesInEnable (n : Nat) : Nat := 0x701001 + 256 * n
/-- SLOT, 0x7010+n:02 (Table 8-5). -/
def aesInSlot (n : Nat) : Nat := 0x701002 + 256 * n
/-- FIRST_CHANNEL, 0x7010+n:03 (Table 8-5). -/
def aesInFirstChannel (n : Nat) : Nat := 0x701003 + 256 * n
/-- VALIDITY_ACTION, 0x7010+n:04 (Table 8-5). -/
def aesInValidityAction (n : Nat) : Nat := 0x701004 + 256 * n
/-- LOCK_STATE, 0x7010+n:20 (Table 8-5). -/
def aesInLockState (n : Nat) : Nat := 0x701020 + 256 * n
/-- RATE_MEASURED, 0x7010+n:21 (Table 8-5). -/
def aesInRateMeasured (n : Nat) : Nat := 0x701021 + 256 * n
/-- SYNC, 0x7010+n:22 (Table 8-5). -/
def aesInSync (n : Nat) : Nat := 0x701022 + 256 * n
/-- STATUS_A, 0x7010+n:23 (Table 8-5). -/
def aesInStatusA (n : Nat) : Nat := 0x701023 + 256 * n
/-- STATUS_B, 0x7010+n:24 (Table 8-5). -/
def aesInStatusB (n : Nat) : Nat := 0x701024 + 256 * n
/-- USER_A, 0x7010+n:25 (Table 8-5). -/
def aesInUserA (n : Nat) : Nat := 0x701025 + 256 * n
/-- USER_B, 0x7010+n:26 (Table 8-5). -/
def aesInUserB (n : Nat) : Nat := 0x701026 + 256 * n
/-- PARITY_ERRORS, 0x7010+n:30 (Table 8-5). -/
def aesInParityErrors (n : Nat) : Nat := 0x701030 + 256 * n
/-- BIPHASE_ERRORS, 0x7010+n:31 (Table 8-5). -/
def aesInBiphaseErrors (n : Nat) : Nat := 0x701031 + 256 * n
/-- CRC_ERRORS, 0x7010+n:32 (Table 8-5). -/
def aesInCrcErrors (n : Nat) : Nat := 0x701032 + 256 * n
/-- INVALID_SAMPLES, 0x7010+n:33 (Table 8-5). -/
def aesInInvalidSamples (n : Nat) : Nat := 0x701033 + 256 * n
/-- COUNTERS_CLEAR, 0x7010+n:3F (Table 8-5). -/
def aesInCountersClear (n : Nat) : Nat := 0x70103F + 256 * n
/-- ENABLE, 0x7020+n:01 (Table 8-6). -/
def aesOutEnable (n : Nat) : Nat := 0x702001 + 256 * n
/-- RATE, 0x7020+n:02 (Table 8-6). -/
def aesOutRate (n : Nat) : Nat := 0x702002 + 256 * n
/-- SID_A, 0x7020+n:03 (Table 8-6). -/
def aesOutSidA (n : Nat) : Nat := 0x702003 + 256 * n
/-- SID_B, 0x7020+n:04 (Table 8-6). -/
def aesOutSidB (n : Nat) : Nat := 0x702004 + 256 * n
/-- TRANSITION, 0x7020+n:05 (Table 8-6). -/
def aesOutTransition (n : Nat) : Nat := 0x702005 + 256 * n
/-- XFADE_SAMPLES, 0x7020+n:06 (Table 8-6). -/
def aesOutXfadeSamples (n : Nat) : Nat := 0x702006 + 256 * n
/-- ZC_TIMEOUT, 0x7020+n:07 (Table 8-6). -/
def aesOutZcTimeout (n : Nat) : Nat := 0x702007 + 256 * n
/-- MODE, 0x7030+n:01 (Table 8-7). -/
def tdmMode (n : Nat) : Nat := 0x703001 + 256 * n
/-- RATE, 0x7030+n:02 (Table 8-7). -/
def tdmRate (n : Nat) : Nat := 0x703002 + 256 * n
/-- SLOTS, 0x7030+n:03 (Table 8-7). -/
def tdmSlots (n : Nat) : Nat := 0x703003 + 256 * n
/-- FORMAT, 0x7030+n:04 (Table 8-7). -/
def tdmFormat (n : Nat) : Nat := 0x703004 + 256 * n
/-- SLOT, 0x7030+n:05 (Table 8-7). -/
def tdmSlot (n : Nat) : Nat := 0x703005 + 256 * n
/-- FIRST_CHANNEL, 0x7030+n:06 (Table 8-7). -/
def tdmFirstChannel (n : Nat) : Nat := 0x703006 + 256 * n
/-- RX_MASK, 0x7030+n:07 (Table 8-7). -/
def tdmRxMask (n : Nat) : Nat := 0x703007 + 256 * n
/-- TX_MASK, 0x7030+n:08 (Table 8-7). -/
def tdmTxMask (n : Nat) : Nat := 0x703008 + 256 * n
/-- TRANSITION, 0x7030+n:09 (Table 8-7). -/
def tdmTransition (n : Nat) : Nat := 0x703009 + 256 * n
/-- XFADE_SAMPLES, 0x7030+n:0A (Table 8-7). -/
def tdmXfadeSamples (n : Nat) : Nat := 0x70300A + 256 * n
/-- ZC_TIMEOUT, 0x7030+n:0B (Table 8-7). -/
def tdmZcTimeout (n : Nat) : Nat := 0x70300B + 256 * n
/-- STATE, 0x7030+n:20 (Table 8-7). -/
def tdmState (n : Nat) : Nat := 0x703020 + 256 * n
/-- SYNC, 0x7030+n:21 (Table 8-7). -/
def tdmSync (n : Nat) : Nat := 0x703021 + 256 * n
/-- RX_MASK_ACTIVE, 0x7030+n:22 (Table 8-7). -/
def tdmRxMaskActive (n : Nat) : Nat := 0x703022 + 256 * n
/-- TX_MASK_ACTIVE, 0x7030+n:23 (Table 8-7). -/
def tdmTxMaskActive (n : Nat) : Nat := 0x703023 + 256 * n
/-- FRAME_ERRORS, 0x7030+n:30 (Table 8-7). -/
def tdmFrameErrors (n : Nat) : Nat := 0x703030 + 256 * n
/-- TX_SID_0, 0x7040+n:01–40 (Table 8-7). -/
def tdmTxSid (n i : Nat) : Nat := 0x704001 + 256 * n + i
/-- INPUT, 0x7080+i:01 (Table 8-8). -/
def asrcInput (n : Nat) : Nat := 0x708001 + 256 * n
/-- STATE, 0x7080+i:20 (Table 8-8). -/
def asrcState (n : Nat) : Nat := 0x708020 + 256 * n
/-- RATIO, 0x7080+i:21 (Table 8-8). -/
def asrcRatio (n : Nat) : Nat := 0x708021 + 256 * n
/-- UNLOCKS, 0x7080+i:22 (Table 8-8). -/
def asrcUnlocks (n : Nat) : Nat := 0x708022 + 256 * n
/-- UNLOCKED_NO_ASRC, 0x7001:01 (Table 8-8). -/
def audUnlockedNoAsrc : Nat := 0x700101
/-- ASRC_IN_USE, 0x7001:02 (Table 8-8). -/
def audAsrcInUse : Nat := 0x700102
/-- GRAPH_SOURCE, 0x7801:01 (Table 9-9). -/
def graphGraphSource : Nat := 0x780101
/-- IMAGE, 0x7801:02 (Table 9-9). -/
def graphImage : Nat := 0x780102
/-- GENERATION, 0x7801:03 (Table 9-9). -/
def graphGeneration : Nat := 0x780103
/-- PROGRAM_CRC, 0x7801:04 (Table 9-9). -/
def graphProgramCrc : Nat := 0x780104
/-- LAST_SWAP, 0x7801:05 (Table 9-9). -/
def graphLastSwap : Nat := 0x780105
/-- STEPS_TOTAL, 0x7801:06 (Table 9-9). -/
def graphStepsTotal : Nat := 0x780106
/-- RATE, 0x7810+e:01 (Table 9-9). -/
def engRate (n : Nat) : Nat := 0x781001 + 256 * n
/-- STATE, 0x7810+e:02 (Table 9-9). -/
def engState (n : Nat) : Nat := 0x781002 + 256 * n
/-- STEPS_USED, 0x7810+e:03 (Table 9-9). -/
def engStepsUsed (n : Nat) : Nat := 0x781003 + 256 * n
/-- INPUTS_USED, 0x7810+e:04 (Table 9-9). -/
def engInputsUsed (n : Nat) : Nat := 0x781004 + 256 * n
/-- SECTIONS_USED, 0x7810+e:05 (Table 9-9). -/
def engSectionsUsed (n : Nat) : Nat := 0x781005 + 256 * n
/-- DELAY_USED, 0x7810+e:06 (Table 9-9). -/
def engDelayUsed (n : Nat) : Nat := 0x781006 + 256 * n
/-- SELF_CHECK, 0x7810+e:07 (Table 9-9). -/
def engSelfCheck (n : Nat) : Nat := 0x781007 + 256 * n
/-- SELF_CHECK_RESULT, 0x7810+e:08 (Table 9-9). -/
def engSelfCheckResult (n : Nat) : Nat := 0x781008 + 256 * n
/-- CE_COUNT, 0x7810+e:09 (Table 9-9). -/
def engCeCount (n : Nat) : Nat := 0x781009 + 256 * n
/-- RELOADS, 0x7810+e:0A (Table 9-9). -/
def engReloads (n : Nat) : Nat := 0x78100A + 256 * n
/-- NODE_n, 0x7A00–0x7A7F:01–80 (Table 9-10). -/
def node (n : Nat) : Nat := 0x7A0001 + 256 * (n / 128) + n % 128
/-- EDGE_x, 0x7B00–0x7BFF:01–80 (Table 9-10). -/
def edge (n : Nat) : Nat := 0x7B0001 + 256 * (n / 128) + n % 128
/-- DEST_d, 0x7C00–0x7C5F:01–80 (Table 9-10). -/
def dest (n : Nat) : Nat := 0x7C0001 + 256 * (n / 128) + n % 128
/-- DEST_STATUS_d, 0x7C80–0x7CDF:01–80 (Table 9-10). -/
def destStatus (n : Nat) : Nat := 0x7C8001 + 256 * (n / 128) + n % 128
/-- METER_VALUE_m, 0x7D00–0x7D1F:01–80 (Table 9-10). -/
def meterValue (n : Nat) : Nat := 0x7D0001 + 256 * (n / 128) + n % 128
/-- BIQUAD_b, 0x7E00–0x7E0F:01–80 (Table 9-10). -/
def biquad (n : Nat) : Nat := 0x7E0001 + 256 * (n / 128) + n % 128
/-- ENABLE, 0x8010+h:01 (Table 10-3). -/
def headEnable (n : Nat) : Nat := 0x801001 + 256 * n
/-- RASTER, 0x8010+h:02 (Table 10-3). -/
def headRaster (n : Nat) : Nat := 0x801002 + 256 * n
/-- BACKGROUND, 0x8010+h:03 (Table 10-3). -/
def headBackground (n : Nat) : Nat := 0x801003 + 256 * n
/-- STALE_HOLD, 0x8010+h:04 (Table 10-3). -/
def headStaleHold (n : Nat) : Nat := 0x801004 + 256 * n
/-- NO_SIGNAL_ACTION, 0x8010+h:05 (Table 10-3). -/
def headNoSignalAction (n : Nat) : Nat := 0x801005 + 256 * n
/-- HEAD_STATE, 0x8010+h:10 (Table 10-3). -/
def headHeadState (n : Nat) : Nat := 0x801010 + 256 * n
/-- ENGINES_USED, 0x8010+h:11 (Table 10-3). -/
def headEnginesUsed (n : Nat) : Nat := 0x801011 + 256 * n
/-- STALE_FRAMES, 0x8010+h:12 (Table 10-3). -/
def headStaleFrames (n : Nat) : Nat := 0x801012 + 256 * n
/-- REBUILDS, 0x8010+h:13 (Table 10-3). -/
def headRebuilds (n : Nat) : Nat := 0x801013 + 256 * n
/-- STORE_PAGES, 0x8010+h:14 (Table 10-3). -/
def headStorePages (n : Nat) : Nat := 0x801014 + 256 * n
/-- COUNTERS_CLEAR, 0x8010+h:1F (Table 10-3). -/
def headCountersClear (n : Nat) : Nat := 0x80101F + 256 * n
/-- LAYER_l, 0x8100–0x8103:01–80 (Table 10-4). -/
def layer (n : Nat) : Nat := 0x810001 + 256 * (n / 128) + n % 128
/-- LAYER_STATUS_l, 0x8180–0x8183:01–80 (Table 10-4). -/
def layerStatus (n : Nat) : Nat := 0x818001 + 256 * (n / 128) + n % 128
/-- IMAGE_i, 0x8200+i:01 (Table 10-5). -/
def imgImageI (n : Nat) : Nat := 0x820001 + 256 * n
/-- TEXT_t, 0x8300–0x8301:01–80 (Table 10-5). -/
def text (n : Nat) : Nat := 0x830001 + 256 * (n / 128) + n % 128
/-- OUTPUT, 0x8800+c:01 (Table 10-5). -/
def convOutput (n : Nat) : Nat := 0x880001 + 256 * n
/-- ASPECT, 0x8800+c:02 (Table 10-5). -/
def convAspect (n : Nat) : Nat := 0x880002 + 256 * n
/-- BANK, 0x8800+c:03 (Table 10-5). -/
def convBank (n : Nat) : Nat := 0x880003 + 256 * n
/-- V_TAPS, 0x8800+c:04 (Table 10-5). -/
def convVTaps (n : Nat) : Nat := 0x880004 + 256 * n
/-- ENGINE, 0x8800+c:05 (Table 10-5). -/
def convEngine (n : Nat) : Nat := 0x880005 + 256 * n
/-- CONV_STATE, 0x8800+c:10 (Table 10-5). -/
def convConvState (n : Nat) : Nat := 0x880010 + 256 * n
/-- POOL_POINT, 0x0A01:01 (Table 10-6). -/
def poolPoolPoint : Nat := 0x0A0101
/-- ENGINES_FREE, 0x0A01:02 (Table 10-6). -/
def poolEnginesFree : Nat := 0x0A0102
/-- COMP_BW_RESERVED, 0x0A01:03 (Table 10-6). -/
def poolCompBwReserved : Nat := 0x0A0103
/-- ENGINE_LOAD, 0x0A01:04 (Table 10-6). -/
def poolEngineLoad : Nat := 0x0A0104
/-- COEFF_BANK_k, 0x0A10+k:01 (Table 10-6). -/
def bankCoeffBankK (n : Nat) : Nat := 0x0A1001 + 256 * n
/-- LOOP_MODE, 0x2001:01 (Table 11-4). -/
def loopLoopMode : Nat := 0x200101
/-- OSC_SOURCE, 0x2001:02 (Table 11-4). -/
def loopOscSource : Nat := 0x200102
/-- REVERTIVE, 0x2001:03 (Table 11-4). -/
def loopRevertive : Nat := 0x200103
/-- FORCE_REF, 0x2001:04 (Table 11-4). -/
def loopForceRef : Nat := 0x200104
/-- SLEW_RATE, 0x2001:05 (Table 11-4). -/
def loopSlewRate : Nat := 0x200105
/-- BUILDOUT_MODE, 0x2001:06 (Table 11-4). -/
def loopBuildoutMode : Nat := 0x200106
/-- LOCK_THRESHOLD, 0x2001:07 (Table 11-4). -/
def loopLockThreshold : Nat := 0x200107
/-- HOLDOVER_AVERAGE, 0x2001:08 (Table 11-4). -/
def loopHoldoverAverage : Nat := 0x200108
/-- FREERUN_PPT, 0x2001:09 (Table 11-4). -/
def loopFreerunPpt : Nat := 0x200109
/-- JUMP_THRESHOLD, 0x2001:0A (Table 11-4). -/
def loopJumpThreshold : Nat := 0x20010A
/-- LOOP_WATCHDOG, 0x2001:0B (Table 11-4). -/
def loopLoopWatchdog : Nat := 0x20010B
/-- PACER_STATE, 0x2002:01 (Table 11-4). -/
def pacerPacerState : Nat := 0x200201
/-- SELECTED, 0x2002:02 (Table 11-4). -/
def pacerSelected : Nat := 0x200202
/-- STEERING, 0x2002:03 (Table 11-4). -/
def pacerSteering : Nat := 0x200203
/-- HOLDOVER_PPT, 0x2002:04 (Table 11-4). -/
def pacerHoldoverPpt : Nat := 0x200204
/-- INCREMENT, 0x2002:05 (Table 11-4). -/
def pacerIncrement : Nat := 0x200205
/-- PHASE_ERROR, 0x2002:06 (Table 11-4). -/
def pacerPhaseError : Nat := 0x200206
/-- BUILDOUT, 0x2002:07 (Table 11-4). -/
def pacerBuildout : Nat := 0x200207
/-- TICK_SOURCE, 0x2002:08 (Table 11-4). -/
def pacerTickSource : Nat := 0x200208
/-- OSC_OFFSET, 0x2002:09 (Table 11-4). -/
def pacerOscOffset : Nat := 0x200209
/-- EVER_LOCKED, 0x2002:0A (Table 11-4). -/
def pacerEverLocked : Nat := 0x20020A
/-- STEPS_REFUSED, 0x2002:0B (Table 11-4). -/
def pacerStepsRefused : Nat := 0x20020B
/-- PT_NOW, 0x2003:01 (Table 11-5). -/
def timePtNow : Nat := 0x200301
/-- TIME_SET, 0x2003:02 (Table 11-5). -/
def timeTimeSet : Nat := 0x200302
/-- TIME_STEP, 0x2003:03 (Table 11-5). -/
def timeTimeStep : Nat := 0x200303
/-- JUMP_OVERRIDE, 0x2003:04 (Table 11-5). -/
def timeJumpOverride : Nat := 0x200304
/-- UTC_OFFSET, 0x2003:05 (Table 11-5). -/
def timeUtcOffset : Nat := 0x200305
/-- PRIORITY, 0x2010+r:01 (Table 11-6). -/
def refPriority (n : Nat) : Nat := 0x201001 + 256 * n
/-- FREQ_LIMIT, 0x2010+r:02 (Table 11-6). -/
def refFreqLimit (n : Nat) : Nat := 0x201002 + 256 * n
/-- PHASE_LIMIT, 0x2010+r:03 (Table 11-6). -/
def refPhaseLimit (n : Nat) : Nat := 0x201003 + 256 * n
/-- WTR, 0x2010+r:04 (Table 11-6). -/
def refWtr (n : Nat) : Nat := 0x201004 + 256 * n
/-- BANDWIDTH, 0x2010+r:05 (Table 11-6). -/
def refBandwidth (n : Nat) : Nat := 0x201005 + 256 * n
/-- PHASE_OFFSET, 0x2010+r:06 (Table 11-6). -/
def refPhaseOffset (n : Nat) : Nat := 0x201006 + 256 * n
/-- RATE, 0x2010+r:07 (Table 11-6). -/
def refRate (n : Nat) : Nat := 0x201007 + 256 * n
/-- DIVIDE, 0x2010+r:08 (Table 11-6). -/
def refDivide (n : Nat) : Nat := 0x201008 + 256 * n
/-- EDGE, 0x2010+r:09 (Table 11-6). -/
def refEdge (n : Nat) : Nat := 0x201009 + 256 * n
/-- LANE, 0x2010+r:0A (Table 11-6). -/
def refLane (n : Nat) : Nat := 0x20100A + 256 * n
/-- QUAL_STATE, 0x2010+r:20 (Table 11-6). -/
def refQualState (n : Nat) : Nat := 0x201020 + 256 * n
/-- FREQ_OFFSET, 0x2010+r:21 (Table 11-6). -/
def refFreqOffset (n : Nat) : Nat := 0x201021 + 256 * n
/-- PHASE_WANDER, 0x2010+r:22 (Table 11-6). -/
def refPhaseWander (n : Nat) : Nat := 0x201022 + 256 * n
/-- REF_PHASE_ERROR, 0x2010+r:23 (Table 11-6). -/
def refRefPhaseError (n : Nat) : Nat := 0x201023 + 256 * n
/-- FAIL_WINDOWS, 0x2010+r:24 (Table 11-6). -/
def refFailWindows (n : Nat) : Nat := 0x201024 + 256 * n
/-- WTR_LEFT, 0x2010+r:25 (Table 11-6). -/
def refWtrLeft (n : Nat) : Nat := 0x201025 + 256 * n
/-- DISQUALIFICATIONS, 0x2010+r:26 (Table 11-6). -/
def refDisqualifications (n : Nat) : Nat := 0x201026 + 256 * n
/-- MAC, 0x2040+i:01 (Table 11-7). -/
def ptpMac (n : Nat) : Nat := 0x204001 + 256 * n
/-- DOMAIN, 0x2040+i:02 (Table 11-7). -/
def ptpDomain (n : Nat) : Nat := 0x204002 + 256 * n
/-- TRANSPORT, 0x2040+i:03 (Table 11-7). -/
def ptpTransport (n : Nat) : Nat := 0x204003 + 256 * n
/-- DELAY_MODE, 0x2040+i:04 (Table 11-7). -/
def ptpDelayMode (n : Nat) : Nat := 0x204004 + 256 * n
/-- LOG_DELAY_REQ, 0x2040+i:05 (Table 11-7). -/
def ptpLogDelayReq (n : Nat) : Nat := 0x204005 + 256 * n
/-- ANNOUNCE_TIMEOUT, 0x2040+i:06 (Table 11-7). -/
def ptpAnnounceTimeout (n : Nat) : Nat := 0x204006 + 256 * n
/-- MASTER_PORT, 0x2040+i:20 (Table 11-7). -/
def ptpMasterPort (n : Nat) : Nat := 0x204020 + 256 * n
/-- MEAN_PATH_DELAY, 0x2040+i:21 (Table 11-7). -/
def ptpMeanPathDelay (n : Nat) : Nat := 0x204021 + 256 * n
/-- OFFSET, 0x2040+i:22 (Table 11-7). -/
def ptpOffset (n : Nat) : Nat := 0x204022 + 256 * n
/-- STEP_PENDING, 0x2040+i:23 (Table 11-7). -/
def ptpStepPending (n : Nat) : Nat := 0x204023 + 256 * n
/-- PTP_ROLE, 0x2050:01 (Table 11-7). -/
def gmPtpRole : Nat := 0x205001
/-- MASTER_PORTS, 0x2050:02 (Table 11-7). -/
def gmMasterPorts : Nat := 0x205002
/-- GM_DOMAIN, 0x2050:03 (Table 11-7). -/
def gmGmDomain : Nat := 0x205003
/-- GM_TRANSPORT, 0x2050:04 (Table 11-7). -/
def gmGmTransport : Nat := 0x205004
/-- PRIORITY1, 0x2050:05 (Table 11-7). -/
def gmPriority1 : Nat := 0x205005
/-- PRIORITY2, 0x2050:06 (Table 11-7). -/
def gmPriority2 : Nat := 0x205006
/-- LOG_SYNC, 0x2050:07 (Table 11-7). -/
def gmLogSync : Nat := 0x205007
/-- LOG_ANNOUNCE, 0x2050:08 (Table 11-7). -/
def gmLogAnnounce : Nat := 0x205008
/-- TIME_SOURCE, 0x2050:09 (Table 11-7). -/
def gmTimeSource : Nat := 0x205009
/-- SM_TLV, 0x2050:0A (Table 11-7). -/
def gmSmTlv : Nat := 0x20500A
/-- CLOCK_CLASS, 0x2050:0B (Table 11-7). -/
def gmClockClass : Nat := 0x20500B
/-- ENABLE, 0x2080+k:01 (Table 11-8). -/
def fpEnable (n : Nat) : Nat := 0x208001 + 256 * n
/-- SOURCE, 0x2080+k:02 (Table 11-8). -/
def fpSource (n : Nat) : Nat := 0x208002 + 256 * n
/-- RATE, 0x2080+k:03 (Table 11-8). -/
def fpRate (n : Nat) : Nat := 0x208003 + 256 * n
/-- DIVIDE, 0x2080+k:04 (Table 11-8). -/
def fpDivide (n : Nat) : Nat := 0x208004 + 256 * n
/-- OFFSET, 0x2080+k:05 (Table 11-8). -/
def fpOffset (n : Nat) : Nat := 0x208005 + 256 * n
/-- WIDTH, 0x2080+k:06 (Table 11-8). -/
def fpWidth (n : Nat) : Nat := 0x208006 + 256 * n
/-- POLARITY, 0x2080+k:07 (Table 11-8). -/
def fpPolarity (n : Nat) : Nat := 0x208007 + 256 * n
/-- OUT_STATE, 0x2080+k:20 (Table 11-8). -/
def fpOutState (n : Nat) : Nat := 0x208020 + 256 * n
/-- ENABLE, 0x2090+k:01 (Table 11-8). -/
def ckEnable (n : Nat) : Nat := 0x209001 + 256 * n
/-- FREQ_HZ, 0x2090+k:02 (Table 11-8). -/
def ckFreqHz (n : Nat) : Nat := 0x209002 + 256 * n
/-- PULL_DOWN, 0x2090+k:03 (Table 11-8). -/
def ckPullDown (n : Nat) : Nat := 0x209003 + 256 * n
/-- TWIN_ROLE, 0xC001:01 (Table 12-5). -/
def twinTwinRole : Nat := 0xC00101
/-- REVERTIVE, 0xC001:02 (Table 12-5). -/
def twinRevertive : Nat := 0xC00102
/-- REVERT_WTR, 0xC001:03 (Table 12-5). -/
def twinRevertWtr : Nat := 0xC00103
/-- REVERT_RATE, 0xC001:04 (Table 12-5). -/
def twinRevertRate : Nat := 0xC00104
/-- RELINQUISH, 0xC001:05 (Table 12-5). -/
def twinRelinquish : Nat := 0xC00105
/-- TWIN_STATE, 0xC002:01 (Table 12-5). -/
def twinTwinState : Nat := 0xC00201
/-- PARTNER_STATE, 0xC002:02 (Table 12-5). -/
def twinPartnerState : Nat := 0xC00202
/-- HB_CODE, 0xC002:03 (Table 12-5). -/
def twinHbCode : Nat := 0xC00203
/-- PARTNER_HEALTHY, 0xC002:04 (Table 12-5). -/
def twinPartnerHealthy : Nat := 0xC00204
/-- SYNC_GENERATION, 0xC002:05 (Table 12-5). -/
def twinSyncGeneration : Nat := 0xC00205
/-- WTR_LEFT, 0xC002:06 (Table 12-5). -/
def twinWtrLeft : Nat := 0xC00206
/-- HANDOVERS, 0xC002:07 (Table 12-5). -/
def twinHandovers : Nat := 0xC00207
/-- LAST_GATE_CHANGE, 0xC002:08 (Table 12-5). -/
def twinLastGateChange : Nat := 0xC00208
/-- CONTENTIONS, 0xC002:09 (Table 12-5). -/
def twinContentions : Nat := 0xC00209
/-- RESYNCS, 0xC002:0A (Table 12-5). -/
def twinResyncs : Nat := 0xC0020A
/-- MIRROR_LATE, 0xC002:0B (Table 12-5). -/
def twinMirrorLate : Nat := 0xC0020B
/-- TL_STATE, 0xC003:01 (Table 12-5). -/
def tlTlState : Nat := 0xC00301
/-- TL_RETRANSMITS, 0xC003:02 (Table 12-5). -/
def tlTlRetransmits : Nat := 0xC00302
/-- TL_DOWNS, 0xC003:03 (Table 12-5). -/
def tlTlDowns : Nat := 0xC00303
/-- PARTNER_SERIAL, 0xC003:04 (Table 12-5). -/
def tlPartnerSerial : Nat := 0xC00304
/-- ESCALATE, 0xA001:01 (Table 14-5). -/
def fltEscalate : Nat := 0xA00101
/-- SELF_SAFE, 0xA001:02 (Table 14-5). -/
def fltSelfSafe : Nat := 0xA00102
/-- SAFE_STATE, 0xA001:03 (Table 14-5). -/
def fltSafeState : Nat := 0xA00103
/-- SAFE_CAUSE, 0xA001:04 (Table 14-5). -/
def fltSafeCause : Nat := 0xA00104
/-- SAFE_ENTER, 0xA001:05 (Table 14-5). -/
def fltSafeEnter : Nat := 0xA00105
/-- SAFE_EXIT, 0xA001:06 (Table 14-5). -/
def fltSafeExit : Nat := 0xA00106
/-- HELD_COUNT, 0xA001:07 (Table 14-5). -/
def fltHeldCount : Nat := 0xA00107
/-- HIGHEST, 0xA001:08 (Table 14-5). -/
def fltHighest : Nat := 0xA00108
/-- ACK_ALL, 0xA001:09 (Table 14-5). -/
def fltAckAll : Nat := 0xA00109
/-- CLASS_HIGHEST, 0xA010+c:01 (Table 14-5). -/
def clsClassHighest (n : Nat) : Nat := 0xA01001 + 256 * n
/-- CLASS_HELD, 0xA010+c:02 (Table 14-5). -/
def clsClassHeld (n : Nat) : Nat := 0xA01002 + 256 * n
/-- CLASS_UNACKED, 0xA010+c:03 (Table 14-5). -/
def clsClassUnacked (n : Nat) : Nat := 0xA01003 + 256 * n
/-- BASE_SEVERITY, 0xA100+s:01 (Table 14-6). -/
def srcBaseSeverity (n : Nat) : Nat := 0xA10001 + 256 * n
/-- COUNT_LIMIT, 0xA100+s:02 (Table 14-6). -/
def srcCountLimit (n : Nat) : Nat := 0xA10002 + 256 * n
/-- COUNT_WINDOW, 0xA100+s:03 (Table 14-6). -/
def srcCountWindow (n : Nat) : Nat := 0xA10003 + 256 * n
/-- COUNT_SEVERITY, 0xA100+s:04 (Table 14-6). -/
def srcCountSeverity (n : Nat) : Nat := 0xA10004 + 256 * n
/-- STATE, 0xA100+s:05 (Table 14-6). -/
def srcState (n : Nat) : Nat := 0xA10005 + 256 * n
/-- SEVERITY, 0xA100+s:06 (Table 14-6). -/
def srcSeverity (n : Nat) : Nat := 0xA10006 + 256 * n
/-- WINDOW_COUNT, 0xA100+s:07 (Table 14-6). -/
def srcWindowCount (n : Nat) : Nat := 0xA10007 + 256 * n
/-- REPORTS, 0xA100+s:08 (Table 14-6). -/
def srcReports (n : Nat) : Nat := 0xA10008 + 256 * n
/-- LAST_REPORT, 0xA100+s:09 (Table 14-6). -/
def srcLastReport (n : Nat) : Nat := 0xA10009 + 256 * n
/-- ACK, 0xA100+s:0A (Table 14-6). -/
def srcAck (n : Nat) : Nat := 0xA1000A + 256 * n
/-- REC_RATE, 0xA800:01 (Table 14-7). -/
def recRecRate : Nat := 0xA80001
/-- REC_BURST, 0xA800:02 (Table 14-7). -/
def recRecBurst : Nat := 0xA80002
/-- REC_OLDEST, 0xA800:03 (Table 14-7). -/
def recRecOldest : Nat := 0xA80003
/-- REC_NEXT, 0xA800:04 (Table 14-7). -/
def recRecNext : Nat := 0xA80004
/-- REC_CURSOR, 0xA800:05 (Table 14-7). -/
def recRecCursor : Nat := 0xA80005
/-- REC_READ, 0xA800:06 (Table 14-7). -/
def recRecRead : Nat := 0xA80006
/-- REC_DROPPED, 0xA800:07 (Table 14-7). -/
def recRecDropped : Nat := 0xA80007
/-- REC_CHALLENGE, 0xA800:08 (Table 14-7). -/
def recRecChallenge : Nat := 0xA80008
/-- REC_CLEAR, 0xA800:09 (Table 14-7). -/
def recRecClear : Nat := 0xA80009
/-- REC_STATE, 0xA800:0A (Table 14-7). -/
def recRecState : Nat := 0xA8000A
/-- POWER_CYCLES, 0xA800:0B (Table 14-7). -/
def recPowerCycles : Nat := 0xA8000B
/-- OPERATING_TIME, 0xA800:0C (Table 14-7). -/
def recOperatingTime : Nat := 0xA8000C
/-- REC_BACKLOG, 0xA800:0D (Table 14-7). -/
def recRecBacklog : Nat := 0xA8000D
/-- CHIP_STATE, 0x9001:01 (Table 15-7). -/
def pwrChipState : Nat := 0x900101
/-- BENCH_REQUEST, 0x9001:02 (Table 15-7). -/
def pwrBenchRequest : Nat := 0x900102
/-- BENCH_FORCE, 0x9001:03 (Table 15-7). -/
def pwrBenchForce : Nat := 0x900103
/-- WAKE_MASK, 0x9001:04 (Table 15-7). -/
def pwrWakeMask : Nat := 0x900104
/-- WAKE_TIMER, 0x9001:05 (Table 15-7). -/
def pwrWakeTimer : Nat := 0x900105
/-- LAST_WAKE, 0x9001:06 (Table 15-7). -/
def pwrLastWake : Nat := 0x900106
/-- FALSE_STARTS, 0x9001:07 (Table 15-7). -/
def pwrFalseStarts : Nat := 0x900107
/-- SUPPLY_DERATED, 0x9001:08 (Table 15-7). -/
def pwrSupplyDerated : Nat := 0x900108
/-- LAST_ABORT, 0x9001:09 (Table 15-7). -/
def pwrLastAbort : Nat := 0x900109
/-- PROC_POINT, 0x9002:01 (Table 15-7). -/
def procProcPoint : Nat := 0x900201
/-- PROC_POINT_ACTIVE, 0x9002:02 (Table 15-7). -/
def procProcPointActive : Nat := 0x900202
/-- MANUAL_DVFS, 0x9002:03 (Table 15-7). -/
def procManualDvfs : Nat := 0x900203
/-- BUDGET, 0x9003:01 (Table 15-7). -/
def ledBudget : Nat := 0x900301
/-- LEDGER_COST, 0x9003:02 (Table 15-7). -/
def ledLedgerCost : Nat := 0x900302
/-- MEASURED, 0x9003:03 (Table 15-7). -/
def ledMeasured : Nat := 0x900303
/-- CORRECTION, 0x9003:04 (Table 15-7). -/
def ledCorrection : Nat := 0x900304
/-- LEDGER_INUSE, 0x9003:05 (Table 15-7). -/
def ledLedgerInuse : Nat := 0x900305
/-- SHED_STATE, 0x9003:06 (Table 15-7). -/
def ledShedState : Nat := 0x900306
/-- RESTORE_MARGIN, 0x9003:07 (Table 15-7). -/
def ledRestoreMargin : Nat := 0x900307
/-- DERATE_PERCENT, 0x9003:08 (Table 15-7). -/
def ledDeratePercent : Nat := 0x900308
/-- MEASURE_SOURCE, 0x9003:09 (Table 15-7). -/
def ledMeasureSource : Nat := 0x900309
/-- THERM_WARN, 0x9060:01 (Table 15-7). -/
def thermThermWarn : Nat := 0x906001
/-- THERM_HOTTEST, 0x9060:02 (Table 15-7). -/
def thermThermHottest : Nat := 0x906002
/-- THERM_STATE, 0x9060:03 (Table 15-7). -/
def thermThermState : Nat := 0x906003
/-- COST_c, 0x9200+c:01–03 (Table 15-7). -/
def costAt (n i : Nat) : Nat := 0x920001 + 256 * n + i
/-- FUNCTION, 0x9010+m:01 (Table 15-8). -/
def monFunction (n : Nat) : Nat := 0x901001 + 256 * n
/-- THRESHOLD, 0x9010+m:02 (Table 15-8). -/
def monThreshold (n : Nat) : Nat := 0x901002 + 256 * n
/-- DIRECTION, 0x9010+m:03 (Table 15-8). -/
def monDirection (n : Nat) : Nat := 0x901003 + 256 * n
/-- HYSTERESIS, 0x9010+m:04 (Table 15-8). -/
def monHysteresis (n : Nat) : Nat := 0x901004 + 256 * n
/-- BEYOND, 0x9010+m:10 (Table 15-8). -/
def monBeyond (n : Nat) : Nat := 0x901010 + 256 * n
/-- PMBUS_ADDR, 0x9020+k:01 (Table 15-8). -/
def railPmbusAddr (n : Nat) : Nat := 0x902001 + 256 * n
/-- PAGE, 0x9020+k:02 (Table 15-8). -/
def railPage (n : Nat) : Nat := 0x902002 + 256 * n
/-- RAIL_KIND, 0x9020+k:03 (Table 15-8). -/
def railRailKind (n : Nat) : Nat := 0x902003 + 256 * n
/-- VOUT, 0x9020+k:10 (Table 15-8). -/
def railVout (n : Nat) : Nat := 0x902010 + 256 * n
/-- IOUT, 0x9020+k:11 (Table 15-8). -/
def railIout (n : Nat) : Nat := 0x902011 + 256 * n
/-- POWER, 0x9020+k:12 (Table 15-8). -/
def railPower (n : Nat) : Nat := 0x902012 + 256 * n
/-- STATUS_WORD, 0x9020+k:13 (Table 15-8). -/
def railStatusWord (n : Nat) : Nat := 0x902013 + 256 * n
/-- TEMP, 0x9040+t:01 (Table 15-8). -/
def sensTemp (n : Nat) : Nat := 0x904001 + 256 * n
/-- TEMP_MAX, 0x9040+t:02 (Table 15-8). -/
def sensTempMax (n : Nat) : Nat := 0x904002 + 256 * n
/-- LANE_POWER, 0x9100+p:01 (Table 15-8). -/
def jogLanePower (n : Nat) : Nat := 0x910001 + 256 * n
/-- JOG_AUTO, 0x9100+p:02 (Table 15-8). -/
def jogJogAuto (n : Nat) : Nat := 0x910002 + 256 * n
/-- JOG_WAKE, 0x9100+p:03 (Table 15-8). -/
def jogJogWake (n : Nat) : Nat := 0x910003 + 256 * n
/-- JOG_RETURN, 0x9100+p:04 (Table 15-8). -/
def jogJogReturn (n : Nat) : Nat := 0x910004 + 256 * n
/-- LANE_POWER_STATE, 0x9100+p:10 (Table 15-8). -/
def jogLanePowerState (n : Nat) : Nat := 0x910010 + 256 * n
/-- JOG_HITS, 0x9100+p:11 (Table 15-8). -/
def jogJogHits (n : Nat) : Nat := 0x910011 + 256 * n
/-- LC_STATE, 0xB001:01 (Table 16-8). -/
def lcLcState : Nat := 0xB00101
/-- LC_CHALLENGE, 0xB001:02 (Table 16-8). -/
def lcLcChallenge : Nat := 0xB00102
/-- LC_REQUEST, 0xB001:03 (Table 16-8). -/
def lcLcRequest : Nat := 0xB00103
/-- REVOKED_KEYS, 0xB001:04 (Table 16-8). -/
def lcRevokedKeys : Nat := 0xB00104
/-- IDENTITY, 0xB002:01 (Table 16-8). -/
def attIdentity : Nat := 0xB00201
/-- ATTEST_NONCE, 0xB002:02 (Table 16-8). -/
def attAttestNonce : Nat := 0xB00202
/-- ATTEST_REPORT, 0xB002:03 (Table 16-8). -/
def attAttestReport : Nat := 0xB00203
/-- KIND, 0xB100+s:01 (Table 16-8). -/
def keyKind (n : Nat) : Nat := 0xB10001 + 256 * n
/-- STATE, 0xB100+s:02 (Table 16-8). -/
def keyState (n : Nat) : Nat := 0xB10002 + 256 * n
/-- PARENT, 0xB100+s:03 (Table 16-8). -/
def keyParent (n : Nat) : Nat := 0xB10003 + 256 * n
/-- USE_MASTERS, 0xB100+s:04 (Table 16-8). -/
def keyUseMasters (n : Nat) : Nat := 0xB10004 + 256 * n
/-- USE_LIFECYCLE, 0xB100+s:05 (Table 16-8). -/
def keyUseLifecycle (n : Nat) : Nat := 0xB10005 + 256 * n
/-- ROLE, 0xB100+s:06 (Table 16-8). -/
def keyRole (n : Nat) : Nat := 0xB10006 + 256 * n
/-- CHECK_VALUE, 0xB100+s:07 (Table 16-8). -/
def keyCheckValue (n : Nat) : Nat := 0xB10007 + 256 * n
/-- GENERATION, 0xB100+s:08 (Table 16-8). -/
def keyGeneration (n : Nat) : Nat := 0xB10008 + 256 * n
/-- LOAD, 0xB100+s:09 (Table 16-8). -/
def keyLoad (n : Nat) : Nat := 0xB10009 + 256 * n
/-- VERIFY, 0xB100+s:0A (Table 16-8). -/
def keyVerify (n : Nat) : Nat := 0xB1000A + 256 * n
/-- INVALIDATE, 0xB100+s:0B (Table 16-8). -/
def keyInvalidate (n : Nat) : Nat := 0xB1000B + 256 * n
/-- UPDATE_STATE, 0xD001:01 (Table 16-10). -/
def updUpdateState : Nat := 0xD00101
/-- IMAGE, 0xD001:02 (Table 16-10). -/
def updImage : Nat := 0xD00102
/-- DOWNLOAD_RESULT, 0xD001:03 (Table 16-10). -/
def updDownloadResult : Nat := 0xD00103
/-- ACTIVATE, 0xD001:04 (Table 16-10). -/
def updActivate : Nat := 0xD00104
/-- CONFIRM, 0xD001:05 (Table 16-10). -/
def updConfirm : Nat := 0xD00105
/-- UPDATE_LOCK, 0xD001:06 (Table 16-10). -/
def updUpdateLock : Nat := 0xD00106
/-- CONFIRM_TIMEOUT, 0xD001:07 (Table 16-10). -/
def updConfirmTimeout : Nat := 0xD00107
/-- REQUIRE_HOST_CONFIRM, 0xD001:08 (Table 16-10). -/
def updRequireHostConfirm : Nat := 0xD00108
/-- CONFIRM_LEFT, 0xD001:09 (Table 16-10). -/
def updConfirmLeft : Nat := 0xD00109
/-- SLOT_STATE, 0xD010+k:01 (Table 16-10). -/
def fwSlotState (n : Nat) : Nat := 0xD01001 + 256 * n
/-- FIRMWARE_VERSION, 0xD010+k:02 (Table 16-10). -/
def fwFirmwareVersion (n : Nat) : Nat := 0xD01002 + 256 * n
/-- SECURITY_VERSION, 0xD010+k:03 (Table 16-10). -/
def fwSecurityVersion (n : Nat) : Nat := 0xD01003 + 256 * n
/-- SETTINGS_FORMAT, 0xD010+k:04 (Table 16-10). -/
def fwSettingsFormat (n : Nat) : Nat := 0xD01004 + 256 * n
/-- COMPAT_LEVEL_MIN, 0xD010+k:05 (Table 16-10). -/
def fwCompatLevelMin (n : Nat) : Nat := 0xD01005 + 256 * n
/-- COMPAT_LEVEL_MAX, 0xD010+k:06 (Table 16-10). -/
def fwCompatLevelMax (n : Nat) : Nat := 0xD01006 + 256 * n
/-- PAYLOAD_HASH, 0xD010+k:07 (Table 16-10). -/
def fwPayloadHash (n : Nat) : Nat := 0xD01007 + 256 * n
/-- REJECT_REASON, 0xD010+k:08 (Table 16-10). -/
def fwRejectReason (n : Nat) : Nat := 0xD01008 + 256 * n
/-- ACTIVE_SLOT, 0xD020:01 (Table 16-10). -/
def dirActiveSlot : Nat := 0xD02001
/-- TRIAL_STARTS, 0xD020:02 (Table 16-10). -/
def dirTrialStarts : Nat := 0xD02002
/-- BANK_FORMAT, 0xD020:03 (Table 16-10). -/
def dirBankFormat : Nat := 0xD02003
/-- FALLBACKS, 0xD020:04 (Table 16-10). -/
def dirFallbacks : Nat := 0xD02004
/-- ROLLBACK_COUNTER, 0xD020:05 (Table 16-10). -/
def dirRollbackCounter : Nat := 0xD02005
/-- START_PHASE, 0x1002:01 (Table 17-4). -/
def startStartPhase : Nat := 0x100201
/-- START_FAIL, 0x1002:02 (Table 17-4). -/
def startStartFail : Nat := 0x100202
/-- START_TIMES, 0x1002:03 (Table 17-4). -/
def startStartTimes : Nat := 0x100203
/-- START_PACER_WAIT, 0x1002:04 (Table 17-4). -/
def startStartPacerWait : Nat := 0x100204
/-- START_MESH_WAIT, 0x1002:05 (Table 17-4). -/
def startStartMeshWait : Nat := 0x100205
/-- START_RETRIES, 0x1002:06 (Table 17-4). -/
def startStartRetries : Nat := 0x100206

end Sys2Proof.Machine.O
end

