-- ==== Sys2Proof/Machine/ObjTypes.lean ====
section
/-! DEFINITION. The types of the Zhonal dictionary (R12, R13, R41): value types, access codes, effective points, ranges and
the row of an object table. -/

namespace Sys2Proof.Machine

/-- Zhonal types, Table 2-3. -/
inductive Ty where
  | bool | u8 | u16 | u32 | u64 | i32 | i64 | q16 | ts80 | pt96 | octets | string | domain
deriving DecidableEq, Repr

/-- Dictionary access codes, Table 0-6. -/
inductive Acc where
  | r | rw | rws | rwt | wo
deriving DecidableEq, Repr

/-- The Effective column, as DESCRIBE codes it (Table 2-6). -/
inductive Eff where
  | none | immediate | areaEnable | switchingLine | nextStart | named
deriving DecidableEq, Repr

/-- The Range column. -/
inductive Rng where
  /-- any value of the type -/
  | any
  /-- between two bounds -/
  | btw (lo hi : Int)
  /-- between two bounds, in steps -/
  | stp (lo hi st : Int)
  /-- between two bounds, or one further value -/
  | btwOr (lo hi other : Int)
  /-- one of the listed values -/
  | oneOf (l : List Int)
  /-- a byte string whose length lies between two bounds -/
  | lenBtw (lo hi : Nat)
  /-- a byte string of one of the listed lengths -/
  | lens (l : List Nat)
  /-- 32 to 1,024 bytes in whole 32-byte records (0x6200:01) -/
  | lens32
  /-- a format code of Table 1-7, or 0x0000 -/
  | fmt
  /-- a SID of the given class (R18) -/
  | sid (cls : Nat)
  /-- a class-1 SID with even SUB, or 0 (R258) -/
  | sidPair
  /-- a unicast MAC address that is not zero -/
  | mac
  /-- eight bytes, each a ring 0 to 63 or 0xFF -/
  | puntRing
deriving DecidableEq, Repr

/-- A value of the dictionary: a number (signed where the type is) or a byte string. -/
inductive Val where
  | num (n : Int)
  | oct (b : List Byte)
deriving DecidableEq, Repr

/-- One row of an object table: `n` instances from index `ix`, `m` subindices from `sub`. -/
structure ObjDef where
  ix : Nat
  n : Nat
  sub : Nat
  m : Nat
  name : String
  ty : Ty
  acc : Acc
  role : Nat
  readRole : Bool
  dflt : Val
  rng : Rng
  eff : Eff
deriving DecidableEq, Repr

/-- The number a value holds; a byte string counts as 0. -/
def Val.toInt : Val → Int
  | .num n => n
  | .oct _ => 0

/-- The number a value holds, as a natural number. -/
def Val.toNat (v : Val) : Nat := v.toInt.toNat

/-- The bytes a value holds; a number counts as empty. -/
def Val.bytes : Val → List Byte
  | .num _ => []
  | .oct b => b

/-- Type codes, Table 2-3. -/
def tyCode : Ty → Nat
  | .bool => 1 | .u8 => 2 | .u16 => 3 | .u32 => 4 | .u64 => 5 | .i32 => 6 | .i64 => 7
  | .q16 => 8 | .ts80 => 9 | .pt96 => 10 | .octets => 11 | .string => 12 | .domain => 13

/-- Wire length in bytes of a number type; none for byte strings (Table 2-3). -/
def tyLen : Ty → Option Nat
  | .bool => some 1 | .u8 => some 1 | .u16 => some 2 | .u32 => some 4 | .u64 => some 8 | .i32 => some 4
  | .i64 => some 8 | .q16 => some 4 | .ts80 => some 10 | .pt96 => some 12
  | .octets => none | .string => none | .domain => none

/-- Whether a type is read as two's complement. -/
def tySigned : Ty → Bool
  | .i32 => true | .i64 => true | .q16 => true | _ => false

/-- Whether bytes are UTF-8: every sequence complete, shortest, no surrogate and none above U+10FFFF. `need` continuation bytes are still
to come, the next of them in the range lo to hi. -/
def utf8From : List Byte → Nat → Nat → Nat → Bool
  | [], need, _, _ => need == 0
  | b :: l, 0, _, _ =>
    let c := b.toNat
    if c < 0x80 then utf8From l 0 0x80 0xBF
    else if c < 0xC2 then false
    else if c < 0xE0 then utf8From l 1 0x80 0xBF
    else if c < 0xF0 then utf8From l 2 (if c = 0xE0 then 0xA0 else 0x80) (if c = 0xED then 0x9F else 0xBF)
    else if c < 0xF5 then utf8From l 3 (if c = 0xF0 then 0x90 else 0x80) (if c = 0xF4 then 0x8F else 0xBF)
    else false
  | b :: l, n + 1, lo, hi => decide (lo ≤ b.toNat ∧ b.toNat ≤ hi) && utf8From l n 0x80 0xBF

/-- The value spelled by wire bytes, or none where length or encoding does not match the type (R41). DESIGN CHOICE (log entry 200): a WRITE
record carries a DOMAIN as its complete value. -/
def decodeVal (ty : Ty) (bs : List Byte) : Option Val :=
  match ty with
  | .octets => if bs.length ≤ 1024 then some (.oct bs) else none
  | .string => if bs.length ≤ 255 ∧ utf8From bs 0 0 0 = true then some (.oct bs) else none
  | .domain => some (.oct bs)
  | t =>
    match tyLen t with
    | none => none
    | some n =>
      if bs.length = n then
        if t = .bool ∧ ofBe bs > 1 then none
        else if t = .ts80 ∧ ofBe (bs.drop 6) ≥ 1000000000 then none
        else if tySigned t then some (.num (signed (8 * n) (ofBe bs)))
        else some (.num (ofBe bs))
      else none

/-- The wire bytes of a value (R41). -/
def encodeVal (ty : Ty) (v : Val) : List Byte :=
  match tyLen ty, v with
  | some n, .num x => beBytes n (twos (8 * n) x)
  | some n, .oct _ => beBytes n 0
  | none, .oct b => b
  | none, .num _ => []

end Sys2Proof.Machine
end

