-- ==== Sys2Proof/Machine/ObjTable.lean ====
section
/-! DEFINITION. The object tables of spec/ as rows: instance range, subindex range, type, access code, role, default and
range of every dictionary object (Tables 0-2 to 17-4). Defaults that differ by instance, fuse or variant stand in
`objSpecial` of ObjDict.lean. -/

namespace Sys2Proof.Machine

def objRows0_0 : List ObjDef := [
  ⟨0x0100, 36, 1, 1, "SESSION_ID", .u32, .r, 0, false, .num 0, .any, .immediate⟩,
  ⟨0x0100, 36, 2, 1, "SESSION_ROLE", .u8, .r, 0, false, .num 0, (.btw 0 3), .immediate⟩,
  ⟨0x0100, 36, 3, 1, "TRANSPORT", .u8, .r, 0, false, .num 0, (.btw 0 1), .immediate⟩,
  ⟨0x0100, 36, 4, 1, "PEER", .octets, .r, 0, false, .oct [], .any, .immediate⟩,
  ⟨0x0100, 36, 5, 1, "OPENED", .pt96, .r, 0, false, .num 0, .any, .immediate⟩,
  ⟨0x0100, 36, 6, 1, "CLOSE_NOW", .bool, .wo, 3, false, .num 0, .any, .immediate⟩,
  ⟨0x0A01, 1, 1, 1, "POOL_POINT", .u8, .r, 0, false, .num 0, (.btw 0 2), .immediate⟩,
  ⟨0x0A01, 1, 2, 1, "ENGINES_FREE", .u8, .r, 0, false, .num 64, .any, .named⟩,
  ⟨0x0A01, 1, 3, 1, "COMP_BW_RESERVED", .u32, .r, 0, false, .num 0, .any, .named⟩,
  ⟨0x0A01, 1, 4, 1, "ENGINE_LOAD", .octets, .r, 0, false, .oct [], .any, .named⟩,
  ⟨0x0A10, 8, 1, 1, "COEFF_BANK_k", .domain, .rws, 2, false, .oct [], .any, .areaEnable⟩]

/-- Object rows of area 0. -/
def objRows0 : List ObjDef := objRows0_0

def objRows1_0 : List ObjDef := [
  ⟨0x1001, 1, 1, 1, "ORDER_CODE", .string, .r, 0, false, .oct [], .any, .none⟩,
  ⟨0x1001, 1, 2, 1, "STEPPING", .u8, .r, 0, false, .num 176, .any, .none⟩,
  ⟨0x1001, 1, 3, 1, "SERIAL", .octets, .r, 0, false, .oct [], .any, .none⟩,
  ⟨0x1001, 1, 4, 1, "FIRMWARE_VERSION", .u32, .r, 0, false, .num 0, .any, .none⟩,
  ⟨0x1010, 1, 1, 1, "COMPAT_LEVEL", .u16, .rws, 3, false, .num 0, .any, .nextStart⟩,
  ⟨0x1010, 1, 2, 1, "COMPAT_LEVEL_ACTIVE", .u16, .r, 0, false, .num 0, .any, .none⟩,
  ⟨0x1010, 1, 3, 1, "COMPAT_LEVEL_MAX", .u16, .r, 0, false, .num 0, .any, .none⟩,
  ⟨0x1010, 1, 4, 1, "COMPAT_LEVEL_MIN", .u16, .r, 0, false, .num 1, .any, .none⟩,
  ⟨0x1002, 1, 1, 1, "START_PHASE", .u8, .r, 0, false, .num 0, (.btw 0 6), .immediate⟩,
  ⟨0x1002, 1, 2, 1, "START_FAIL", .u8, .r, 0, false, .num 0, (.btw 0 6), .immediate⟩,
  ⟨0x1002, 1, 3, 1, "START_TIMES", .octets, .r, 0, false, .oct [], .any, .immediate⟩,
  ⟨0x1002, 1, 4, 1, "START_PACER_WAIT", .u16, .rws, 2, false, .num 30, .btw 0 3600, .nextStart⟩,
  ⟨0x1002, 1, 5, 1, "START_MESH_WAIT", .u16, .rws, 2, false, .num 10, .btw 1 600, .nextStart⟩,
  ⟨0x1002, 1, 6, 1, "START_RETRIES", .u8, .r, 0, false, .num 0, .any, .named⟩]

/-- Object rows of area 1. -/
def objRows1 : List ObjDef := objRows1_0

def objRows2_0 : List ObjDef := [
  ⟨0x2001, 1, 1, 1, "LOOP_MODE", .u8, .rw, 2, false, .num 0, .oneOf [0, 1], .immediate⟩,
  ⟨0x2001, 1, 2, 1, "OSC_SOURCE", .u8, .rws, 2, false, .num 0, .oneOf [0, 1], .areaEnable⟩,
  ⟨0x2001, 1, 3, 1, "REVERTIVE", .bool, .rws, 2, false, .num 1, .any, .areaEnable⟩,
  ⟨0x2001, 1, 4, 1, "FORCE_REF", .u8, .rws, 2, false, .num 255, .btwOr 0 13 255, .areaEnable⟩,
  ⟨0x2001, 1, 5, 1, "SLEW_RATE", .u16, .rws, 2, false, .num 100, .btw 10 10000, .areaEnable⟩,
  ⟨0x2001, 1, 6, 1, "BUILDOUT_MODE", .u8, .rws, 2, false, .num 0, .oneOf [0, 1], .areaEnable⟩,
  ⟨0x2001, 1, 7, 1, "LOCK_THRESHOLD", .u16, .rws, 2, false, .num 50, .btw 5 10000, .areaEnable⟩,
  ⟨0x2001, 1, 8, 1, "HOLDOVER_AVERAGE", .u16, .rws, 2, false, .num 300, .btw 10 3600, .areaEnable⟩,
  ⟨0x2001, 1, 9, 1, "FREERUN_PPT", .i32, .rws, 2, false, .num 0, .btw (-200000000) 200000000, .areaEnable⟩,
  ⟨0x2001, 1, 10, 1, "JUMP_THRESHOLD", .u32, .rws, 3, false, .num 1000, .btw 100 1000000, .areaEnable⟩,
  ⟨0x2001, 1, 11, 1, "LOOP_WATCHDOG", .u16, .rws, 2, false, .num 2000, .btw 100 60000, .areaEnable⟩,
  ⟨0x2002, 1, 1, 1, "PACER_STATE", .u8, .r, 0, false, .num 0, (.btw 0 5), .immediate⟩,
  ⟨0x2002, 1, 2, 1, "SELECTED", .u8, .r, 0, false, .num 255, (.btwOr 0 13 255), .immediate⟩,
  ⟨0x2002, 1, 3, 1, "STEERING", .i32, .r, 0, false, .num 0, .any, .named⟩,
  ⟨0x2002, 1, 4, 1, "HOLDOVER_PPT", .i32, .r, 0, false, .num 0, .any, .named⟩,
  ⟨0x2002, 1, 5, 1, "INCREMENT", .u64, .r, 0, false, .num 5368709120, .any, .named⟩,
  ⟨0x2002, 1, 6, 1, "PHASE_ERROR", .i32, .r, 0, false, .num 0, .any, .named⟩,
  ⟨0x2002, 1, 7, 1, "BUILDOUT", .i32, .r, 0, false, .num 0, .any, .named⟩,
  ⟨0x2002, 1, 8, 1, "TICK_SOURCE", .u8, .r, 0, false, .num 0, (.btw 0 1), .immediate⟩,
  ⟨0x2002, 1, 9, 1, "OSC_OFFSET", .i32, .r, 0, false, .num 0, .any, .named⟩,
  ⟨0x2002, 1, 10, 1, "EVER_LOCKED", .bool, .r, 0, false, .num 0, .any, .immediate⟩,
  ⟨0x2002, 1, 11, 1, "STEPS_REFUSED", .u32, .r, 0, false, .num 0, .any, .immediate⟩,
  ⟨0x2003, 1, 1, 1, "PT_NOW", .pt96, .r, 0, false, .num 0, .any, .immediate⟩,
  ⟨0x2003, 1, 2, 1, "TIME_SET", .pt96, .wo, 2, false, .num 0, .any, .immediate⟩,
  ⟨0x2003, 1, 3, 1, "TIME_STEP", .i64, .wo, 2, false, .num 0, .any, .immediate⟩,
  ⟨0x2003, 1, 4, 1, "JUMP_OVERRIDE", .bool, .wo, 3, false, .num 0, .any, .immediate⟩,
  ⟨0x2003, 1, 5, 1, "UTC_OFFSET", .u16, .rw, 2, false, .num 37, .any, .immediate⟩,
  ⟨0x2010, 14, 1, 1, "PRIORITY", .u8, .rws, 2, false, .num 0, .btw 0 15, .areaEnable⟩,
  ⟨0x2010, 14, 2, 1, "FREQ_LIMIT", .u32, .rws, 2, false, .num 200, .btw 10 50000, .areaEnable⟩,
  ⟨0x2010, 14, 3, 1, "PHASE_LIMIT", .u32, .rws, 2, false, .num 100, .btw 5 100000, .areaEnable⟩]

def objRows2_1 : List ObjDef := [
  ⟨0x2010, 14, 4, 1, "WTR", .u16, .rws, 2, false, .num 300, .btw 0 3600, .areaEnable⟩,
  ⟨0x2010, 14, 5, 1, "BANDWIDTH", .u16, .rws, 2, false, .num 100, .btw 1 10000, .areaEnable⟩,
  ⟨0x2010, 14, 6, 1, "PHASE_OFFSET", .i32, .rws, 2, false, .num 0, .any, .areaEnable⟩,
  ⟨0x2010, 14, 7, 1, "RATE", .u8, .rws, 2, false, .num 3, .btw 1 100, .areaEnable⟩,
  ⟨0x2010, 14, 8, 1, "DIVIDE", .u8, .rws, 2, false, .num 1, .btw 1 10, .areaEnable⟩,
  ⟨0x2010, 14, 9, 1, "EDGE", .u8, .rws, 2, false, .num 0, .oneOf [0, 1], .areaEnable⟩,
  ⟨0x2010, 14, 10, 1, "LANE", .u8, .rws, 2, false, .num 255, .btwOr 0 95 255, .areaEnable⟩,
  ⟨0x2010, 14, 32, 1, "QUAL_STATE", .u8, .r, 0, false, .num 0, (.btw 0 5), .immediate⟩,
  ⟨0x2010, 14, 33, 1, "FREQ_OFFSET", .i32, .r, 0, false, .num 0, .any, .named⟩,
  ⟨0x2010, 14, 34, 1, "PHASE_WANDER", .u32, .r, 0, false, .num 0, .any, .named⟩,
  ⟨0x2010, 14, 35, 1, "REF_PHASE_ERROR", .i32, .r, 0, false, .num 0, .any, .named⟩,
  ⟨0x2010, 14, 36, 1, "FAIL_WINDOWS", .u8, .r, 0, false, .num 0, (.btw 0 3), .named⟩,
  ⟨0x2010, 14, 37, 1, "WTR_LEFT", .u16, .r, 0, false, .num 0, .any, .immediate⟩,
  ⟨0x2010, 14, 38, 1, "DISQUALIFICATIONS", .u32, .r, 0, false, .num 0, .any, .immediate⟩,
  ⟨0x2040, 4, 1, 1, "MAC", .u8, .rws, 2, false, .num 255, .btwOr 0 97 255, .areaEnable⟩,
  ⟨0x2040, 4, 2, 1, "DOMAIN", .u8, .rws, 2, false, .num 127, .btw 0 127, .areaEnable⟩,
  ⟨0x2040, 4, 3, 1, "TRANSPORT", .u8, .rws, 2, false, .num 0, .oneOf [0, 1, 2], .areaEnable⟩,
  ⟨0x2040, 4, 4, 1, "DELAY_MODE", .u8, .rws, 2, false, .num 0, .oneOf [0, 1], .areaEnable⟩,
  ⟨0x2040, 4, 5, 1, "LOG_DELAY_REQ", .i32, .rws, 2, false, .num (-3), .btw (-7) (0), .areaEnable⟩,
  ⟨0x2040, 4, 6, 1, "ANNOUNCE_TIMEOUT", .u8, .rws, 2, false, .num 3, .btw 2 10, .areaEnable⟩,
  ⟨0x2040, 4, 32, 1, "MASTER_PORT", .octets, .r, 0, false, .oct [], .any, .immediate⟩,
  ⟨0x2040, 4, 33, 1, "MEAN_PATH_DELAY", .i32, .r, 0, false, .num 0, .any, .named⟩,
  ⟨0x2040, 4, 34, 1, "OFFSET", .i64, .r, 0, false, .num 0, .any, .named⟩,
  ⟨0x2040, 4, 35, 1, "STEP_PENDING", .i64, .r, 0, false, .num 0, .any, .immediate⟩,
  ⟨0x2050, 1, 1, 1, "PTP_ROLE", .u8, .rws, 2, false, .num 0, .oneOf [0, 1], .areaEnable⟩,
  ⟨0x2050, 1, 2, 1, "MASTER_PORTS", .octets, .rws, 2, false, .oct (List.replicate 13 0), .lenBtw 13 13, .areaEnable⟩,
  ⟨0x2050, 1, 3, 1, "GM_DOMAIN", .u8, .rws, 2, false, .num 127, .btw 0 127, .areaEnable⟩,
  ⟨0x2050, 1, 4, 1, "GM_TRANSPORT", .u8, .rws, 2, false, .num 0, .oneOf [0, 1, 2], .areaEnable⟩,
  ⟨0x2050, 1, 5, 1, "PRIORITY1", .u8, .rws, 2, false, .num 128, .btw 0 255, .areaEnable⟩,
  ⟨0x2050, 1, 6, 1, "PRIORITY2", .u8, .rws, 2, false, .num 128, .btw 0 255, .areaEnable⟩]

def objRows2_2 : List ObjDef := [
  ⟨0x2050, 1, 7, 1, "LOG_SYNC", .i32, .rws, 2, false, .num (-3), .btw (-7) (0), .areaEnable⟩,
  ⟨0x2050, 1, 8, 1, "LOG_ANNOUNCE", .i32, .rws, 2, false, .num (-2), .btw (-3) (1), .areaEnable⟩,
  ⟨0x2050, 1, 9, 1, "TIME_SOURCE", .u8, .rws, 2, false, .num 160, .any, .areaEnable⟩,
  ⟨0x2050, 1, 10, 1, "SM_TLV", .octets, .rws, 2, false, .oct [], .lenBtw 0 255, .areaEnable⟩,
  ⟨0x2050, 1, 11, 1, "CLOCK_CLASS", .u8, .r, 0, false, .num 248, .any, .immediate⟩,
  ⟨0x2080, 8, 1, 1, "ENABLE", .bool, .rws, 2, false, .num 0, .any, .areaEnable⟩,
  ⟨0x2080, 8, 2, 1, "SOURCE", .u8, .rws, 2, false, .num 15, .btwOr 0 3 15, .areaEnable⟩,
  ⟨0x2080, 8, 3, 1, "RATE", .u8, .rws, 2, false, .num 3, .btw 1 8, .areaEnable⟩,
  ⟨0x2080, 8, 4, 1, "DIVIDE", .u8, .rws, 2, false, .num 1, .btw 1 10, .areaEnable⟩,
  ⟨0x2080, 8, 5, 1, "OFFSET", .u32, .rws, 2, false, .num 0, .any, .areaEnable⟩,
  ⟨0x2080, 8, 6, 1, "WIDTH", .u32, .rws, 2, false, .num 800, .btw 1 4294967295, .areaEnable⟩,
  ⟨0x2080, 8, 7, 1, "POLARITY", .u8, .rws, 2, false, .num 0, .oneOf [0, 1], .areaEnable⟩,
  ⟨0x2080, 8, 32, 1, "OUT_STATE", .u8, .r, 0, false, .num 0, (.btw 0 2), .immediate⟩,
  ⟨0x2090, 4, 1, 1, "ENABLE", .bool, .rws, 2, false, .num 0, .any, .areaEnable⟩,
  ⟨0x2090, 4, 2, 1, "FREQ_HZ", .u32, .rws, 2, false, .num 10000000, .btw 1000 200000000, .areaEnable⟩,
  ⟨0x2090, 4, 3, 1, "PULL_DOWN", .bool, .rws, 2, false, .num 0, .any, .areaEnable⟩]

/-- Object rows of area 2. -/
def objRows2 : List ObjDef := objRows2_0 ++ objRows2_1 ++ objRows2_2

def objRows3_0 : List ObjDef := [
  ⟨0x3000, 96, 1, 1, "LANE_MODE", .u8, .rws, 2, false, .num 1, .oneOf [0, 1, 2], .areaEnable⟩,
  ⟨0x3000, 96, 2, 1, "RX_ENABLE", .bool, .rws, 2, false, .num 1, .any, .areaEnable⟩,
  ⟨0x3000, 96, 3, 1, "RX_RATE", .u8, .rws, 2, false, .num 0, .btw 0 9, .areaEnable⟩,
  ⟨0x3000, 96, 4, 1, "QUAD_RX", .bool, .rws, 2, false, .num 0, .any, .areaEnable⟩,
  ⟨0x3000, 96, 5, 1, "FORMAT_HINT", .u8, .rws, 2, false, .num 0, .oneOf [0, 1], .areaEnable⟩,
  ⟨0x3000, 96, 6, 1, "SD_THRESHOLD", .u16, .rw, 2, false, .num 80, .stp 20 400 10, .immediate⟩,
  ⟨0x3000, 96, 7, 1, "ERRORED_LINE", .u8, .rws, 2, false, .num 0, .oneOf [0, 1], .areaEnable⟩,
  ⟨0x3000, 96, 8, 1, "ANC_DELIVER_BAD", .bool, .rws, 2, false, .num 0, .any, .areaEnable⟩,
  ⟨0x3000, 96, 9, 3, "ANC_FILTER_1", .octets, .rws, 2, false, .oct [], .lenBtw 0 16, .areaEnable⟩,
  ⟨0x3000, 96, 16, 1, "TX_ENABLE", .bool, .rws, 2, false, .num 1, .any, .areaEnable⟩,
  ⟨0x3000, 96, 17, 1, "TX_MAPPING", .u8, .rws, 2, false, .num 0, .btw 0 3, .areaEnable⟩,
  ⟨0x3000, 96, 18, 1, "EMBED_CHANNELS", .u8, .rws, 2, false, .num 16, .btw 0 32, .areaEnable⟩,
  ⟨0x3000, 96, 19, 1, "ATC_LINE_LTC", .u16, .rws, 2, false, .num 0, (.btw 0 2250), .areaEnable⟩,
  ⟨0x3000, 96, 20, 1, "ATC_LINE_VITC", .u16, .rws, 2, false, .num 0, (.btw 0 2250), .areaEnable⟩,
  ⟨0x3000, 96, 32, 1, "LOCK_STATE", .u8, .r, 0, false, .num 0, (.btw 0 4), .immediate⟩,
  ⟨0x3000, 96, 33, 1, "RATE_DETECTED", .u8, .r, 0, false, .num 0, (.btw 0 9), .immediate⟩,
  ⟨0x3000, 96, 34, 1, "RASTER_DETECTED", .u16, .r, 0, false, .num 0, .fmt, .named⟩,
  ⟨0x3000, 96, 35, 1, "PAYLOAD_ID", .u32, .r, 0, false, .num 0, .any, .named⟩,
  ⟨0x3000, 96, 36, 1, "LINK_NUMBER", .u8, .r, 0, false, .num 0, (.btw 0 4), .named⟩,
  ⟨0x3000, 96, 37, 1, "QUAD_STATE", .u8, .r, 0, false, .num 0, (.btw 0 3), .immediate⟩,
  ⟨0x3000, 96, 38, 1, "LINK_SKEW", .q16, .r, 0, false, .num 0, .any, .named⟩,
  ⟨0x3000, 96, 48, 1, "CRC_ERRORS", .u32, .r, 0, false, .num 0, .any, .immediate⟩,
  ⟨0x3000, 96, 49, 1, "LN_ERRORS", .u32, .r, 0, false, .num 0, .any, .immediate⟩,
  ⟨0x3000, 96, 50, 1, "TRS_ERRORS", .u32, .r, 0, false, .num 0, .any, .immediate⟩,
  ⟨0x3000, 96, 51, 1, "LOCK_LOSSES", .u32, .r, 0, false, .num 0, .any, .immediate⟩,
  ⟨0x3000, 96, 52, 1, "FORMAT_CHANGES", .u32, .r, 0, false, .num 0, .any, .immediate⟩,
  ⟨0x3000, 96, 53, 1, "ANC_CHECKSUM_ERRORS", .u32, .r, 0, false, .num 0, .any, .immediate⟩,
  ⟨0x3000, 96, 54, 1, "ANC_DROPPED", .u32, .r, 0, false, .num 0, .any, .immediate⟩,
  ⟨0x3000, 96, 55, 1, "AUDIO_ECC_CORRECTED", .u32, .r, 0, false, .num 0, .any, .immediate⟩,
  ⟨0x3000, 96, 56, 1, "AUDIO_ECC_UNCORRECTED", .u32, .r, 0, false, .num 0, .any, .immediate⟩]

def objRows3_1 : List ObjDef := [
  ⟨0x3000, 96, 57, 1, "ERRORED_SECONDS", .u32, .r, 0, false, .num 0, .any, .immediate⟩,
  ⟨0x3000, 96, 58, 1, "TX_ANC_DROPPED", .u32, .r, 0, false, .num 0, .any, .immediate⟩,
  ⟨0x3000, 96, 63, 1, "COUNTERS_CLEAR", .bool, .wo, 2, false, .num 0, .any, .immediate⟩,
  ⟨0x3800, 64, 1, 128, "RX_FLOW_r", .octets, .rws, 2, false, .oct (List.replicate 52 0), .lenBtw 52 52, .areaEnable⟩,
  ⟨0x3840, 64, 1, 128, "TX_FLOW_s", .octets, .rws, 2, false, .oct (List.replicate 52 0), .lenBtw 52 52, .areaEnable⟩,
  ⟨0x3880, 64, 1, 128, "RX_FLOW_STATUS_r", .octets, .r, 0, false, .oct [], .any, .immediate⟩,
  ⟨0x38C0, 64, 1, 128, "TX_FLOW_STATUS_s", .octets, .r, 0, false, .oct [], .any, .immediate⟩,
  ⟨0x3400, 96, 1, 1, "ETH_RATE", .u8, .rws, 2, false, .num 1, .btw 0 2, .areaEnable⟩,
  ⟨0x3400, 96, 2, 1, "FEC", .u8, .rws, 2, false, .num 0, .btw 0 2, .areaEnable⟩,
  ⟨0x3400, 96, 3, 1, "MAC_ADDRESS", .octets, .rws, 2, false, .oct [], .mac, .areaEnable⟩,
  ⟨0x3400, 96, 4, 1, "IPV4_ADDRESS", .u32, .rws, 2, false, .num 0, .any, .areaEnable⟩,
  ⟨0x3400, 96, 5, 1, "IPV4_PREFIX", .u8, .rws, 2, false, .num 24, .btw 0 32, .areaEnable⟩,
  ⟨0x3400, 96, 6, 1, "IPV6_LINK_LOCAL", .octets, .rws, 2, false, .oct [], .lens [0, 16], .areaEnable⟩,
  ⟨0x3400, 96, 7, 1, "IPV6_ADDRESS", .octets, .rws, 2, false, .oct [], .lens [0, 16], .areaEnable⟩,
  ⟨0x3400, 96, 8, 1, "DELIVER_ERRORED", .bool, .rws, 2, false, .num 0, .any, .areaEnable⟩,
  ⟨0x3400, 96, 9, 1, "PTP_HANDLER", .u8, .rws, 2, false, .num 0, .oneOf [0, 1], .areaEnable⟩,
  ⟨0x3400, 96, 10, 1, "PUNT_RING", .octets, .rws, 2, false, .oct (List.replicate 8 0), .puntRing, .areaEnable⟩,
  ⟨0x3400, 96, 11, 1, "PUNT_RATE", .u32, .rws, 2, false, .num 20000, .btw 100 1000000, .areaEnable⟩,
  ⟨0x3400, 96, 12, 1, "PUNT_BURST", .u16, .rws, 2, false, .num 256, .btw 1 4096, .areaEnable⟩,
  ⟨0x3400, 96, 13, 1, "RX_DELAY_CORR", .i32, .rw, 2, false, .num 0, .btw (-100000) 100000, .immediate⟩,
  ⟨0x3400, 96, 14, 1, "TX_DELAY_CORR", .i32, .rw, 2, false, .num 0, .btw (-100000) 100000, .immediate⟩,
  ⟨0x3400, 96, 32, 1, "LINK_STATE", .u8, .r, 0, false, .num 0, (.btw 0 4), .immediate⟩,
  ⟨0x3400, 96, 48, 1, "RX_FRAMES", .u64, .r, 0, false, .num 0, .any, .immediate⟩,
  ⟨0x3400, 96, 49, 1, "RX_BYTES", .u64, .r, 0, false, .num 0, .any, .immediate⟩,
  ⟨0x3400, 96, 50, 1, "RX_FCS_ERRORS", .u32, .r, 0, false, .num 0, .any, .immediate⟩,
  ⟨0x3400, 96, 51, 1, "RX_RUNTS", .u32, .r, 0, false, .num 0, .any, .immediate⟩,
  ⟨0x3400, 96, 52, 1, "RX_FRAGMENTS", .u32, .r, 0, false, .num 0, .any, .immediate⟩,
  ⟨0x3400, 96, 53, 1, "RX_OVERSIZE", .u32, .r, 0, false, .num 0, .any, .immediate⟩,
  ⟨0x3400, 96, 54, 1, "RX_PAUSE", .u32, .r, 0, false, .num 0, .any, .immediate⟩,
  ⟨0x3400, 96, 55, 1, "RX_UNMATCHED", .u32, .r, 0, false, .num 0, .any, .immediate⟩]

def objRows3_2 : List ObjDef := [
  ⟨0x3400, 96, 56, 1, "RX_IP_ERRORS", .u32, .r, 0, false, .num 0, .any, .immediate⟩,
  ⟨0x3400, 96, 57, 1, "RX_PUNTED", .u32, .r, 0, false, .num 0, .any, .immediate⟩,
  ⟨0x3400, 96, 58, 1, "RX_PUNT_DROPPED", .u32, .r, 0, false, .num 0, .any, .immediate⟩,
  ⟨0x3400, 96, 59, 1, "TX_FRAMES", .u64, .r, 0, false, .num 0, .any, .immediate⟩,
  ⟨0x3400, 96, 60, 1, "TX_DISCARDED", .u32, .r, 0, false, .num 0, .any, .immediate⟩,
  ⟨0x3400, 96, 61, 1, "TX_TS_OVERFLOW", .u32, .r, 0, false, .num 0, .any, .immediate⟩,
  ⟨0x3400, 96, 62, 1, "LINK_DOWNS", .u32, .r, 0, false, .num 0, .any, .immediate⟩,
  ⟨0x3400, 96, 63, 1, "COUNTERS_CLEAR", .bool, .wo, 2, false, .num 0, .any, .immediate⟩]

/-- Object rows of area 3. -/
def objRows3 : List ObjDef := objRows3_0 ++ objRows3_1 ++ objRows3_2

def objRows4_0 : List ObjDef := [
  ⟨0x4001, 1, 1, 1, "DEVICE_INDEX", .u8, .rws, 2, false, .num 0, .btw 0 11, .areaEnable⟩,
  ⟨0x4001, 1, 2, 1, "MESH_SIZE", .u8, .rws, 2, false, .num 12, .btw 1 12, .areaEnable⟩,
  ⟨0x4001, 1, 3, 1, "ACTIVE_LANES", .u8, .rws, 2, false, .num 11, .btw 1 24, .areaEnable⟩,
  ⟨0x4001, 1, 4, 1, "HOT_SPARES", .u8, .rws, 2, false, .num 2, .btw 0 2, .areaEnable⟩,
  ⟨0x4001, 1, 5, 1, "EYE_THRESHOLD", .u8, .rw, 2, false, .num 12, .btw 4 60, .immediate⟩,
  ⟨0x4001, 1, 6, 1, "EYE_SCAN_PERIOD", .u16, .rw, 2, false, .num 1000, .btw 100 10000, .immediate⟩,
  ⟨0x4001, 1, 7, 1, "TRAIN_TIMEOUT", .u16, .rws, 2, false, .num 500, .btw 100 2000, .areaEnable⟩,
  ⟨0x4002, 1, 1, 1, "PEERS_UP", .u16, .r, 0, false, .num 0, .any, .immediate⟩,
  ⟨0x4002, 1, 2, 1, "SUBS_PUBLISHED", .u32, .r, 0, false, .num 0, .any, .immediate⟩,
  ⟨0x4002, 1, 3, 1, "SUBS_HELD", .u32, .r, 0, false, .num 0, .any, .immediate⟩,
  ⟨0x4010, 12, 1, 1, "LINK_STATE", .u8, .r, 0, false, .num 0, (.btw 0 4), .immediate⟩,
  ⟨0x4010, 12, 2, 1, "PEER_SLOT", .u8, .r, 0, false, .num 0, (.btw 1 11), .named⟩,
  ⟨0x4010, 12, 3, 1, "LANE_BASE", .u8, .r, 0, false, .num 0, .any, .named⟩,
  ⟨0x4010, 12, 4, 1, "LANES", .u8, .r, 0, false, .num 0, .any, .named⟩,
  ⟨0x4010, 12, 5, 1, "TX_ACTIVE", .u8, .r, 0, false, .num 0, .any, .named⟩,
  ⟨0x4010, 12, 6, 1, "RX_ACTIVE", .u8, .r, 0, false, .num 0, .any, .named⟩,
  ⟨0x4010, 12, 7, 1, "HOT_SPARES_LEFT", .u8, .r, 0, false, .num 0, .any, .immediate⟩,
  ⟨0x4010, 12, 8, 1, "CAPACITY_TX", .u32, .r, 0, false, .num 0, .any, .named⟩,
  ⟨0x4010, 12, 9, 1, "CHARGE_TX", .u32, .r, 0, false, .num 0, .any, .immediate⟩,
  ⟨0x4010, 12, 10, 1, "CHARGE_RX", .u32, .r, 0, false, .num 0, .any, .immediate⟩,
  ⟨0x4010, 12, 11, 1, "SUBS_TX", .u16, .r, 0, false, .num 0, .any, .immediate⟩,
  ⟨0x4010, 12, 12, 1, "SUBS_RX", .u16, .r, 0, false, .num 0, .any, .immediate⟩,
  ⟨0x4010, 12, 13, 1, "SHED_COUNT", .u32, .r, 0, false, .num 0, .any, .immediate⟩,
  ⟨0x4010, 12, 14, 1, "SUBSTITUTIONS", .u32, .r, 0, false, .num 0, .any, .immediate⟩,
  ⟨0x4010, 12, 15, 1, "ADMISSION_REFUSED", .u32, .r, 0, false, .num 0, .any, .immediate⟩,
  ⟨0x4010, 12, 16, 1, "SKEW_MAX", .u16, .r, 0, false, .num 0, .any, .named⟩,
  ⟨0x4010, 12, 17, 1, "CELLS_ERRORED", .u32, .r, 0, false, .num 0, .any, .immediate⟩,
  ⟨0x4010, 12, 31, 1, "COUNTERS_CLEAR", .bool, .wo, 2, false, .num 0, .any, .immediate⟩,
  ⟨0x4100, 128, 1, 1, "LANE_ENABLE", .bool, .rws, 2, false, .num 1, .any, .areaEnable⟩,
  ⟨0x4100, 128, 2, 1, "PRESET", .u8, .rws, 2, false, .num 2, .btw 1 3, .areaEnable⟩]

def objRows4_1 : List ObjDef := [
  ⟨0x4100, 128, 3, 1, "ROLE", .u8, .r, 0, false, .num 0, (.btw 0 7), .immediate⟩,
  ⟨0x4100, 128, 4, 1, "LINK_LANE", .u8, .r, 0, false, .num 255, (.btwOr 0 23 255), .named⟩,
  ⟨0x4100, 128, 5, 1, "TX_TAPS", .u32, .r, 0, false, .num 0, .any, .immediate⟩,
  ⟨0x4100, 128, 6, 1, "EYE_MARGIN", .u8, .r, 0, false, .num 0, .any, .named⟩,
  ⟨0x4100, 128, 7, 1, "FEC_CORRECTED", .u64, .r, 0, false, .num 0, .any, .immediate⟩,
  ⟨0x4100, 128, 8, 1, "FEC_UNCORRECTABLE", .u32, .r, 0, false, .num 0, .any, .immediate⟩,
  ⟨0x4100, 128, 9, 1, "PRBS_MODE", .u8, .rws, 2, false, .num 0, .btw 0 3, .areaEnable⟩,
  ⟨0x4100, 128, 10, 1, "PRBS_INJECT", .u16, .wo, 2, false, .num 0, .btw 1 65535, .immediate⟩,
  ⟨0x4100, 128, 11, 1, "PRBS_ERRORS", .u64, .r, 0, false, .num 0, .any, .immediate⟩,
  ⟨0x4100, 128, 12, 1, "PRBS_BITS", .u64, .r, 0, false, .num 0, .any, .immediate⟩,
  ⟨0x4100, 128, 13, 1, "RETRAIN", .bool, .wo, 2, false, .num 0, .any, .immediate⟩,
  ⟨0x4100, 128, 31, 1, "COUNTERS_CLEAR", .bool, .wo, 2, false, .num 0, .any, .immediate⟩]

/-- Object rows of area 4. -/
def objRows4 : List ObjDef := objRows4_0 ++ objRows4_1

def objRows5_0 : List ObjDef := [
  ⟨0x5100, 256, 1, 1, "SLOT_KIND", .u8, .r, 0, false, .num 0, (.btw 0 4), .none⟩,
  ⟨0x5100, 256, 2, 1, "SLOT_ENABLE", .bool, .rws, 2, false, .num 1, .any, .areaEnable⟩,
  ⟨0x5100, 256, 3, 1, "ORIGIN", .u16, .rws, 2, false, .num 0, (.btwOr 0 8191 65535), .areaEnable⟩,
  ⟨0x5100, 256, 4, 1, "RASTER", .u16, .r, 0, false, .num 0, .fmt, .named⟩,
  ⟨0x5100, 256, 5, 1, "AUDIO_CHANNELS", .u8, .rws, 2, false, .num 16, .btw 0 128, .areaEnable⟩,
  ⟨0x5100, 256, 6, 1, "AUDIO_RATE", .u8, .rws, 2, false, .num 48, .oneOf [48, 96], .areaEnable⟩,
  ⟨0x5100, 256, 7, 1, "ANC_STREAMS", .u8, .rws, 2, false, .num 1, .btw 0 4, .areaEnable⟩,
  ⟨0x5100, 256, 8, 1, "GROUP", .u8, .rws, 2, false, .num 0, .btw 0 64, .areaEnable⟩,
  ⟨0x5100, 256, 9, 1, "ESSENCE_RATE", .u32, .r, 0, false, .num 0, .any, .named⟩,
  ⟨0x5100, 256, 10, 1, "SID_BASE", .u32, .r, 0, false, .num 0, .any, .named⟩,
  ⟨0x5100, 256, 11, 1, "ALIGN_WAIT", .q16, .r, 0, false, .num 0, .any, .named⟩,
  ⟨0x5100, 256, 16, 1, "ALIGN_MODE", .u8, .rws, 2, false, .num 0, .oneOf [0, 1], .areaEnable⟩,
  ⟨0x5100, 256, 17, 1, "VIDEO_DELAY", .u8, .rws, 2, false, .num 0, .btw 0 8, .areaEnable⟩,
  ⟨0x5100, 256, 18, 1, "LOSS_ACTION", .u8, .rws, 2, false, .num 0, .btw 0 2, .areaEnable⟩,
  ⟨0x5100, 256, 19, 1, "ALIGN_STATE", .u8, .r, 0, false, .num 0, (.btw 0 5), .immediate⟩,
  ⟨0x5100, 256, 20, 1, "FREQ_OFFSET", .i32, .r, 0, false, .num 0, .any, .named⟩,
  ⟨0x5100, 256, 21, 1, "FRAMES_REPEATED", .u32, .r, 0, false, .num 0, .any, .immediate⟩,
  ⟨0x5100, 256, 22, 1, "FRAMES_DROPPED", .u32, .r, 0, false, .num 0, .any, .immediate⟩,
  ⟨0x5100, 256, 23, 1, "LATE_LINES", .u32, .r, 0, false, .num 0, .any, .immediate⟩,
  ⟨0x5100, 256, 24, 1, "UNDERRUN_LINES", .u32, .r, 0, false, .num 0, .any, .immediate⟩,
  ⟨0x5100, 256, 25, 1, "STORE_PAGES", .u16, .r, 0, false, .num 0, .any, .named⟩,
  ⟨0x5100, 256, 26, 1, "REALIGN", .bool, .wo, 2, false, .num 0, .any, .named⟩,
  ⟨0x5100, 256, 27, 1, "W_SAMPLES", .u32, .r, 0, false, .num 0, .any, .named⟩,
  ⟨0x5100, 256, 31, 1, "COUNTERS_CLEAR", .bool, .wo, 2, false, .num 0, .any, .immediate⟩,
  ⟨0x5200, 256, 1, 128, "AUDIO_DELAY_1", .u32, .rws, 2, false, .num 0, .btw 0 960000, .areaEnable⟩,
  ⟨0x5001, 1, 1, 1, "ALIGN_LAG", .u8, .rws, 3, false, .num 0, .btw 0 64, .nextStart⟩,
  ⟨0x5001, 1, 2, 1, "AUDIO_OFFSET", .u32, .rws, 3, false, .num 3000, .btw 0 100000, .nextStart⟩,
  ⟨0x5002, 1, 1, 1, "PAGES_TOTAL", .u16, .r, 0, false, .num 0, .any, .immediate⟩,
  ⟨0x5002, 1, 2, 1, "PAGES_ALLOCATED", .u16, .r, 0, false, .num 0, .any, .immediate⟩,
  ⟨0x5002, 1, 3, 1, "PAGES_FREE", .u16, .r, 0, false, .num 0, .any, .immediate⟩]

def objRows5_1 : List ObjDef := [
  ⟨0x5002, 1, 4, 1, "SPARES_TOTAL", .u16, .r, 0, false, .num 0, .any, .none⟩,
  ⟨0x5002, 1, 5, 1, "SPARES_LEFT", .u16, .r, 0, false, .num 0, .any, .immediate⟩,
  ⟨0x5002, 1, 6, 1, "PAGES_RETIRED", .u16, .r, 0, false, .num 0, .any, .immediate⟩,
  ⟨0x5002, 1, 7, 1, "CE_COUNT", .u32, .r, 0, false, .num 0, .any, .immediate⟩,
  ⟨0x5002, 1, 8, 1, "UE_COUNT", .u32, .r, 0, false, .num 0, .any, .immediate⟩,
  ⟨0x5002, 1, 9, 1, "CE_RETIRE_THRESHOLD", .u8, .rw, 2, false, .num 8, .btw 1 255, .immediate⟩,
  ⟨0x5002, 1, 10, 1, "SCRUB_PASS_TIME", .u32, .r, 0, false, .num 0, .any, .named⟩,
  ⟨0x5002, 1, 11, 1, "SCRUB_PASSES", .u32, .r, 0, false, .num 0, .any, .named⟩,
  ⟨0x5002, 1, 12, 1, "ESSENCE_BW_RESERVED", .u32, .r, 0, false, .num 0, .any, .named⟩,
  ⟨0x5002, 1, 13, 1, "AUDIO_DELAY_PAGES", .u16, .r, 0, false, .num 0, .any, .named⟩]

/-- Object rows of area 5. -/
def objRows5 : List ObjDef := objRows5_0 ++ objRows5_1

def objRows6_0 : List ObjDef := [
  ⟨0x6000, 128, 1, 1, "OUTPUT_KIND", .u8, .r, 0, false, .num 0, (.btw 0 2), .none⟩,
  ⟨0x6000, 128, 2, 1, "RASTER", .u16, .rws, 2, false, .num 0, .fmt, .areaEnable⟩,
  ⟨0x6000, 128, 3, 1, "SWITCH_LINE", .u16, .rws, 2, false, .num 0, .btw 0 41, .areaEnable⟩,
  ⟨0x6000, 128, 4, 1, "PATH_LATENCY_LINES", .q16, .r, 0, false, .num 0, .any, .named⟩,
  ⟨0x6000, 128, 5, 1, "PATH_LATENCY_SAMPLES", .u32, .r, 0, false, .num 0, .any, .named⟩,
  ⟨0x6400, 1024, 1, 128, "MAP_ENTRY_1", .u32, .rws, 2, false, .num 4278255616, .sid 1, .areaEnable⟩,
  ⟨0x6000, 128, 16, 1, "TAKE_DEADLINE", .u8, .rws, 2, false, .num 3, .btw 2 16, .areaEnable⟩,
  ⟨0x6000, 128, 17, 1, "CONFLICT_ACTION", .u8, .rws, 2, false, .num 0, .oneOf [0, 1], .areaEnable⟩,
  ⟨0x6000, 128, 18, 1, "STEP_POLICY", .u8, .rws, 2, false, .num 0, .oneOf [0, 1], .areaEnable⟩,
  ⟨0x6000, 128, 19, 1, "AUDIO_TRANSITION", .u8, .rws, 2, false, .num 1, .btw 1 3, .areaEnable⟩,
  ⟨0x6000, 128, 20, 1, "XFADE_SAMPLES", .u16, .rws, 2, false, .num 480, .btw 16 4800, .areaEnable⟩,
  ⟨0x6000, 128, 21, 1, "ZC_TIMEOUT", .u16, .rws, 2, false, .num 20, .btw 1 500, .areaEnable⟩,
  ⟨0x6000, 128, 22, 1, "AUDIO_RATE", .u8, .rws, 2, false, .num 48, .oneOf [48, 96], .areaEnable⟩,
  ⟨0x6000, 128, 23, 1, "HOLD_LINES", .u32, .r, 0, false, .num 0, .any, .immediate⟩,
  ⟨0x6000, 128, 24, 1, "CONFLICTS", .u32, .r, 0, false, .num 0, .any, .immediate⟩,
  ⟨0x6100, 128, 1, 1, "VIDEO_SID", .u32, .rwt, 1, false, .num 4278190080, .sid 0, .switchingLine⟩,
  ⟨0x6100, 128, 2, 1, "ANC_SID", .u32, .rwt, 1, false, .num 4278321152, .sid 2, .switchingLine⟩,
  ⟨0x6100, 128, 3, 1, "TC_SID", .u32, .rwt, 1, false, .num 4278386688, .sid 3, .switchingLine⟩,
  ⟨0x6100, 128, 4, 128, "AUDIO_POSITION_1", .u32, .rwt, 1, false, .num 4278255616, .sid 1, .switchingLine⟩,
  ⟨0x6100, 128, 132, 1, "TRANSITION", .u8, .rwt, 1, false, .num 0, .btw 0 3, .switchingLine⟩,
  ⟨0x6100, 128, 133, 1, "OUTPUT_STATE", .u8, .r, 0, false, .num 0, (.btw 0 3), .immediate⟩,
  ⟨0x6100, 128, 134, 1, "PENDING", .bool, .r, 0, false, .num 0, .any, .immediate⟩,
  ⟨0x6100, 128, 135, 1, "FRAME_COUNT", .u32, .r, 0, false, .num 0, .any, .named⟩,
  ⟨0x6100, 128, 136, 1, "LAST_SEQ", .u32, .r, 0, false, .num 0, .any, .named⟩,
  ⟨0x6100, 128, 137, 1, "VIDEO_REMOTE", .bool, .r, 0, false, .num 0, .any, .named⟩,
  ⟨0x6200, 1, 1, 1, "TAKE_BATCH", .octets, .wo, 1, false, .oct [], .lens32, .immediate⟩,
  ⟨0x6201, 1, 1, 1, "JOURNAL_SEQ", .u32, .r, 0, false, .num 0, .any, .immediate⟩,
  ⟨0x6201, 1, 2, 1, "JOURNAL_CURSOR", .u32, .rw, 0, false, .num 0, .any, .immediate⟩,
  ⟨0x6201, 1, 3, 1, "JOURNAL_READ", .octets, .r, 0, false, .oct [], .any, .immediate⟩]

/-- Object rows of area 6. -/
def objRows6 : List ObjDef := objRows6_0

def objRows70_0 : List ObjDef := [
  ⟨0x7010, 16, 1, 1, "ENABLE", .bool, .rws, 2, false, .num 0, .any, .areaEnable⟩,
  ⟨0x7010, 16, 2, 1, "SLOT", .u8, .rws, 2, false, .num 255, .btwOr 96 215 255, .areaEnable⟩,
  ⟨0x7010, 16, 3, 1, "FIRST_CHANNEL", .u8, .rws, 2, false, .num 0, .stp 0 126 2, .areaEnable⟩,
  ⟨0x7010, 16, 4, 1, "VALIDITY_ACTION", .u8, .rws, 2, false, .num 0, .oneOf [0, 1], .areaEnable⟩,
  ⟨0x7010, 16, 32, 1, "LOCK_STATE", .u8, .r, 0, false, .num 0, (.btw 0 3), .immediate⟩,
  ⟨0x7010, 16, 33, 1, "RATE_MEASURED", .u32, .r, 0, false, .num 0, .any, .named⟩,
  ⟨0x7010, 16, 34, 1, "SYNC", .u8, .r, 0, false, .num 0, (.btw 0 2), .named⟩,
  ⟨0x7010, 16, 35, 1, "STATUS_A", .octets, .r, 0, false, .oct [], .any, .named⟩,
  ⟨0x7010, 16, 36, 1, "STATUS_B", .octets, .r, 0, false, .oct [], .any, .named⟩,
  ⟨0x7010, 16, 37, 1, "USER_A", .octets, .r, 0, false, .oct [], .any, .named⟩,
  ⟨0x7010, 16, 38, 1, "USER_B", .octets, .r, 0, false, .oct [], .any, .named⟩,
  ⟨0x7010, 16, 48, 1, "PARITY_ERRORS", .u32, .r, 0, false, .num 0, .any, .immediate⟩,
  ⟨0x7010, 16, 49, 1, "BIPHASE_ERRORS", .u32, .r, 0, false, .num 0, .any, .immediate⟩,
  ⟨0x7010, 16, 50, 1, "CRC_ERRORS", .u32, .r, 0, false, .num 0, .any, .immediate⟩,
  ⟨0x7010, 16, 51, 1, "INVALID_SAMPLES", .u32, .r, 0, false, .num 0, .any, .immediate⟩,
  ⟨0x7010, 16, 63, 1, "COUNTERS_CLEAR", .bool, .wo, 2, false, .num 0, .any, .immediate⟩,
  ⟨0x7020, 16, 1, 1, "ENABLE", .bool, .rws, 2, false, .num 0, .any, .areaEnable⟩,
  ⟨0x7020, 16, 2, 1, "RATE", .u8, .rws, 2, false, .num 48, .oneOf [48, 96], .areaEnable⟩,
  ⟨0x7020, 16, 3, 1, "SID_A", .u32, .rw, 1, false, .num 4278255616, .sid 1, .named⟩,
  ⟨0x7020, 16, 4, 1, "SID_B", .u32, .rw, 1, false, .num 4278255617, .sid 1, .named⟩,
  ⟨0x7020, 16, 5, 1, "TRANSITION", .u8, .rws, 2, false, .num 1, .btw 1 3, .areaEnable⟩,
  ⟨0x7020, 16, 6, 1, "XFADE_SAMPLES", .u16, .rws, 2, false, .num 480, .btw 16 4800, .areaEnable⟩,
  ⟨0x7020, 16, 7, 1, "ZC_TIMEOUT", .u16, .rws, 2, false, .num 20, .btw 1 500, .areaEnable⟩,
  ⟨0x7030, 8, 1, 1, "MODE", .u8, .rws, 2, false, .num 0, .oneOf [0, 1, 2], .areaEnable⟩,
  ⟨0x7030, 8, 2, 1, "RATE", .u8, .rws, 2, false, .num 48, .oneOf [48, 96], .areaEnable⟩,
  ⟨0x7030, 8, 3, 1, "SLOTS", .u8, .rws, 2, false, .num 8, .btw 2 64, .areaEnable⟩,
  ⟨0x7030, 8, 4, 1, "FORMAT", .u8, .rws, 2, false, .num 0, .btw 0 15, .areaEnable⟩,
  ⟨0x7030, 8, 5, 1, "SLOT", .u8, .rws, 2, false, .num 255, .btwOr 96 215 255, .areaEnable⟩,
  ⟨0x7030, 8, 6, 1, "FIRST_CHANNEL", .u8, .rws, 2, false, .num 0, .btw 0 127, .areaEnable⟩,
  ⟨0x7030, 8, 7, 1, "RX_MASK", .u64, .rws, 2, false, .num 0, .any, .areaEnable⟩]

def objRows70_1 : List ObjDef := [
  ⟨0x7030, 8, 8, 1, "TX_MASK", .u64, .rws, 2, false, .num 0, .any, .areaEnable⟩,
  ⟨0x7030, 8, 9, 1, "TRANSITION", .u8, .rws, 2, false, .num 1, .btw 1 3, .areaEnable⟩,
  ⟨0x7030, 8, 10, 1, "XFADE_SAMPLES", .u16, .rws, 2, false, .num 480, .btw 16 4800, .areaEnable⟩,
  ⟨0x7030, 8, 11, 1, "ZC_TIMEOUT", .u16, .rws, 2, false, .num 20, .btw 1 500, .areaEnable⟩,
  ⟨0x7030, 8, 32, 1, "STATE", .u8, .r, 0, false, .num 0, (.btw 0 2), .immediate⟩,
  ⟨0x7030, 8, 33, 1, "SYNC", .u8, .r, 0, false, .num 0, (.btw 0 2), .named⟩,
  ⟨0x7030, 8, 34, 1, "RX_MASK_ACTIVE", .u64, .r, 0, false, .num 0, .any, .named⟩,
  ⟨0x7030, 8, 35, 1, "TX_MASK_ACTIVE", .u64, .r, 0, false, .num 0, .any, .named⟩,
  ⟨0x7030, 8, 48, 1, "FRAME_ERRORS", .u32, .r, 0, false, .num 0, .any, .immediate⟩,
  ⟨0x7040, 8, 1, 64, "TX_SID_0", .u32, .rw, 1, false, .num 4278255616, .sid 1, .named⟩,
  ⟨0x7080, 64, 1, 1, "INPUT", .u32, .rws, 2, false, .num 0, .sidPair, .areaEnable⟩,
  ⟨0x7080, 64, 32, 1, "STATE", .u8, .r, 0, false, .num 0, (.btw 0 3), .immediate⟩,
  ⟨0x7080, 64, 33, 1, "RATIO", .u32, .r, 0, false, .num 0, .any, .named⟩,
  ⟨0x7080, 64, 34, 1, "UNLOCKS", .u32, .r, 0, false, .num 0, .any, .immediate⟩,
  ⟨0x7001, 1, 1, 1, "UNLOCKED_NO_ASRC", .u16, .r, 0, false, .num 0, .any, .immediate⟩,
  ⟨0x7001, 1, 2, 1, "ASRC_IN_USE", .u8, .r, 0, false, .num 0, .any, .named⟩]

/-- Object rows of area 70. -/
def objRows70 : List ObjDef := objRows70_0 ++ objRows70_1

def objRows78_0 : List ObjDef := [
  ⟨0x7801, 1, 1, 1, "GRAPH_SOURCE", .u8, .rws, 2, false, .num 0, .oneOf [0, 1], .areaEnable⟩,
  ⟨0x7801, 1, 2, 1, "IMAGE", .domain, .rws, 2, false, .oct [], .any, .areaEnable⟩,
  ⟨0x7801, 1, 3, 1, "GENERATION", .u32, .r, 0, false, .num 0, .any, .named⟩,
  ⟨0x7801, 1, 4, 1, "PROGRAM_CRC", .u32, .r, 0, false, .num 0, .any, .named⟩,
  ⟨0x7801, 1, 5, 1, "LAST_SWAP", .pt96, .r, 0, false, .num 0, .any, .named⟩,
  ⟨0x7801, 1, 6, 1, "STEPS_TOTAL", .u32, .r, 0, false, .num 0, .any, .named⟩,
  ⟨0x7810, 16, 1, 1, "RATE", .u8, .rws, 2, false, .num 48, .oneOf [48, 96], .areaEnable⟩,
  ⟨0x7810, 16, 2, 1, "STATE", .u8, .r, 0, false, .num 0, (.btw 0 3), .immediate⟩,
  ⟨0x7810, 16, 3, 1, "STEPS_USED", .u16, .r, 0, false, .num 0, .any, .named⟩,
  ⟨0x7810, 16, 4, 1, "INPUTS_USED", .u16, .r, 0, false, .num 0, .any, .named⟩,
  ⟨0x7810, 16, 5, 1, "SECTIONS_USED", .u8, .r, 0, false, .num 0, .any, .named⟩,
  ⟨0x7810, 16, 6, 1, "DELAY_USED", .u16, .r, 0, false, .num 0, .any, .named⟩,
  ⟨0x7810, 16, 7, 1, "SELF_CHECK", .bool, .wo, 2, false, .num 0, .any, .immediate⟩,
  ⟨0x7810, 16, 8, 1, "SELF_CHECK_RESULT", .u8, .r, 0, false, .num 0, (.btw 0 2), .named⟩,
  ⟨0x7810, 16, 9, 1, "CE_COUNT", .u32, .r, 0, false, .num 0, .any, .immediate⟩,
  ⟨0x7810, 16, 10, 1, "RELOADS", .u32, .r, 0, false, .num 0, .any, .immediate⟩,
  ⟨0x7A00, 128, 1, 128, "NODE_n", .octets, .rws, 2, false, .oct (List.replicate 16 0), .lenBtw 16 16, .areaEnable⟩,
  ⟨0x7B00, 256, 1, 128, "EDGE_x", .octets, .rws, 2, false, .oct [], .lenBtw 8 8, .areaEnable⟩,
  ⟨0x7C00, 96, 1, 128, "DEST_d", .octets, .rws, 2, false, .oct [], .lenBtw 12 12, .areaEnable⟩,
  ⟨0x7C80, 96, 1, 128, "DEST_STATUS_d", .u32, .r, 0, false, .num 0, .any, .named⟩,
  ⟨0x7D00, 32, 1, 128, "METER_VALUE_m", .u32, .r, 0, false, .num 0, .any, .named⟩,
  ⟨0x7E00, 16, 1, 128, "BIQUAD_b", .octets, .rws, 2, false, .oct [], .lenBtw 20 20, .areaEnable⟩]

/-- Object rows of area 78. -/
def objRows78 : List ObjDef := objRows78_0

def objRows8_0 : List ObjDef := [
  ⟨0x8010, 8, 1, 1, "ENABLE", .bool, .rws, 2, false, .num 0, .any, .areaEnable⟩,
  ⟨0x8010, 8, 2, 1, "RASTER", .u16, .rws, 2, false, .num 0, .fmt, .areaEnable⟩,
  ⟨0x8010, 8, 3, 1, "BACKGROUND", .u32, .rws, 2, false, .num 67633664, .any, .areaEnable⟩,
  ⟨0x8010, 8, 4, 1, "STALE_HOLD", .u16, .rws, 2, false, .num 25, .btw 0 250, .areaEnable⟩,
  ⟨0x8010, 8, 5, 1, "NO_SIGNAL_ACTION", .u8, .rws, 2, false, .num 0, .oneOf [0, 1], .areaEnable⟩,
  ⟨0x8010, 8, 16, 1, "HEAD_STATE", .u8, .r, 0, false, .num 0, (.btw 0 3), .immediate⟩,
  ⟨0x8010, 8, 17, 1, "ENGINES_USED", .u8, .r, 0, false, .num 0, .any, .named⟩,
  ⟨0x8010, 8, 18, 1, "STALE_FRAMES", .u32, .r, 0, false, .num 0, .any, .immediate⟩,
  ⟨0x8010, 8, 19, 1, "REBUILDS", .u32, .r, 0, false, .num 0, .any, .immediate⟩,
  ⟨0x8010, 8, 20, 1, "STORE_PAGES", .u16, .r, 0, false, .num 0, .any, .named⟩,
  ⟨0x8010, 8, 31, 1, "COUNTERS_CLEAR", .bool, .wo, 2, false, .num 0, .any, .immediate⟩,
  ⟨0x8100, 4, 1, 128, "LAYER_l", .octets, .rws, 2, false, .oct (List.replicate 32 0), .lenBtw 32 32, .areaEnable⟩,
  ⟨0x8180, 4, 1, 128, "LAYER_STATUS_l", .u32, .r, 0, false, .num 0, .any, .named⟩,
  ⟨0x8200, 64, 1, 1, "IMAGE_i", .domain, .rws, 2, false, .oct [], .any, .areaEnable⟩,
  ⟨0x8300, 2, 1, 128, "TEXT_t", .string, .rws, 2, false, .oct [], .lenBtw 0 63, .areaEnable⟩,
  ⟨0x8800, 16, 1, 1, "OUTPUT", .u8, .rws, 2, false, .num 255, .btwOr 0 127 255, .areaEnable⟩,
  ⟨0x8800, 16, 2, 1, "ASPECT", .u8, .rws, 2, false, .num 1, .btw 0 2, .areaEnable⟩,
  ⟨0x8800, 16, 3, 1, "BANK", .u8, .rws, 2, false, .num 0, .btw 0 7, .areaEnable⟩,
  ⟨0x8800, 16, 4, 1, "V_TAPS", .u8, .rws, 2, false, .num 6, .btw 2 6, .areaEnable⟩,
  ⟨0x8800, 16, 5, 1, "ENGINE", .u8, .rws, 2, false, .num 255, .btwOr 0 63 255, .areaEnable⟩,
  ⟨0x8800, 16, 16, 1, "CONV_STATE", .u8, .r, 0, false, .num 0, (.btw 0 2), .immediate⟩]

/-- Object rows of area 8. -/
def objRows8 : List ObjDef := objRows8_0

def objRows9_0 : List ObjDef := [
  ⟨0x9001, 1, 1, 1, "CHIP_STATE", .u8, .r, 0, false, .num 0, (.btw 0 3), .immediate⟩,
  ⟨0x9001, 1, 2, 1, "BENCH_REQUEST", .u8, .wo, 2, false, .num 0, .oneOf [0, 1], .immediate⟩,
  ⟨0x9001, 1, 3, 1, "BENCH_FORCE", .bool, .wo, 3, false, .num 0, .any, .immediate⟩,
  ⟨0x9001, 1, 4, 1, "WAKE_MASK", .u16, .rws, 2, false, .num 3, .btw 0 511, .areaEnable⟩,
  ⟨0x9001, 1, 5, 1, "WAKE_TIMER", .u32, .rws, 2, false, .num 0, .btw 0 86400, .areaEnable⟩,
  ⟨0x9001, 1, 6, 1, "LAST_WAKE", .u8, .r, 0, false, .num 255, (.btwOr 0 8 255), .named⟩,
  ⟨0x9001, 1, 7, 1, "FALSE_STARTS", .u32, .r, 0, false, .num 0, .any, .immediate⟩,
  ⟨0x9001, 1, 8, 1, "SUPPLY_DERATED", .bool, .r, 0, false, .num 0, .any, .immediate⟩,
  ⟨0x9001, 1, 9, 1, "LAST_ABORT", .u8, .r, 0, false, .num 0, (.btw 0 3), .named⟩,
  ⟨0x9002, 1, 1, 1, "PROC_POINT", .u8, .rws, 2, false, .num 2, .btw 0 2, .areaEnable⟩,
  ⟨0x9002, 1, 2, 1, "PROC_POINT_ACTIVE", .u8, .r, 0, false, .num 0, (.btw 0 2), .immediate⟩,
  ⟨0x9002, 1, 3, 1, "MANUAL_DVFS", .bool, .rws, 3, false, .num 0, .any, .areaEnable⟩,
  ⟨0x9003, 1, 1, 1, "BUDGET", .u32, .rws, 3, false, .num 165000, .btw 10000 400000, .areaEnable⟩,
  ⟨0x9003, 1, 2, 1, "LEDGER_COST", .u32, .r, 0, false, .num 0, .any, .named⟩,
  ⟨0x9003, 1, 3, 1, "MEASURED", .u32, .r, 0, false, .num 0, .any, .named⟩,
  ⟨0x9003, 1, 4, 1, "CORRECTION", .u32, .r, 0, false, .num 0, .any, .named⟩,
  ⟨0x9003, 1, 5, 1, "LEDGER_INUSE", .u32, .r, 0, false, .num 0, .any, .immediate⟩,
  ⟨0x9003, 1, 6, 1, "SHED_STATE", .u8, .r, 0, false, .num 0, (.btw 0 3), .immediate⟩,
  ⟨0x9003, 1, 7, 1, "RESTORE_MARGIN", .u32, .rws, 2, false, .num 5000, .btw 0 50000, .areaEnable⟩,
  ⟨0x9003, 1, 8, 1, "DERATE_PERCENT", .u8, .rws, 3, false, .num 85, .btw 50 100, .areaEnable⟩,
  ⟨0x9003, 1, 9, 1, "MEASURE_SOURCE", .u8, .rws, 2, false, .num 0, .oneOf [0, 1], .areaEnable⟩,
  ⟨0x9060, 1, 1, 1, "THERM_WARN", .u8, .rws, 2, false, .num 110, .btw 85 120, .areaEnable⟩,
  ⟨0x9060, 1, 2, 1, "THERM_HOTTEST", .q16, .r, 0, false, .num 0, .any, .named⟩,
  ⟨0x9060, 1, 3, 1, "THERM_STATE", .u8, .r, 0, false, .num 0, (.btw 0 4), .immediate⟩,
  ⟨0x9200, 8, 1, 3, "COST_c", .u32, .r, 0, false, .num 0, .any, .none⟩,
  ⟨0x9010, 4, 1, 1, "FUNCTION", .u8, .rws, 2, false, .num 0, .btw 0 7, .areaEnable⟩,
  ⟨0x9010, 4, 2, 1, "THRESHOLD", .u16, .rws, 2, false, .num 600, .stp 0 1200 5, .areaEnable⟩,
  ⟨0x9010, 4, 3, 1, "DIRECTION", .u8, .rws, 2, false, .num 0, .oneOf [0, 1], .areaEnable⟩,
  ⟨0x9010, 4, 4, 1, "HYSTERESIS", .u16, .rws, 2, false, .num 20, .btw 0 100, .areaEnable⟩,
  ⟨0x9010, 4, 16, 1, "BEYOND", .bool, .r, 0, false, .num 0, .any, .immediate⟩]

def objRows9_1 : List ObjDef := [
  ⟨0x9020, 32, 1, 1, "PMBUS_ADDR", .u8, .rws, 2, false, .num 255, .btwOr 8 119 255, .areaEnable⟩,
  ⟨0x9020, 32, 2, 1, "PAGE", .u8, .rws, 2, false, .num 0, .btw 0 31, .areaEnable⟩,
  ⟨0x9020, 32, 3, 1, "RAIL_KIND", .u8, .rws, 2, false, .num 0, .oneOf [0, 1], .areaEnable⟩,
  ⟨0x9020, 32, 16, 1, "VOUT", .u16, .r, 0, false, .num 0, .any, .named⟩,
  ⟨0x9020, 32, 17, 1, "IOUT", .u32, .r, 0, false, .num 0, .any, .named⟩,
  ⟨0x9020, 32, 18, 1, "POWER", .u32, .r, 0, false, .num 0, .any, .named⟩,
  ⟨0x9020, 32, 19, 1, "STATUS_WORD", .u16, .r, 0, false, .num 0, .any, .named⟩,
  ⟨0x9040, 18, 1, 1, "TEMP", .q16, .r, 0, false, .num 0, .any, .named⟩,
  ⟨0x9040, 18, 2, 1, "TEMP_MAX", .q16, .r, 0, false, .num 0, .any, .immediate⟩,
  ⟨0x9100, 96, 1, 1, "LANE_POWER", .u8, .rws, 2, false, .num 0, .btw 0 2, .areaEnable⟩,
  ⟨0x9100, 96, 2, 1, "JOG_AUTO", .bool, .rws, 2, false, .num 1, .any, .areaEnable⟩,
  ⟨0x9100, 96, 3, 1, "JOG_WAKE", .bool, .rws, 2, false, .num 0, .any, .areaEnable⟩,
  ⟨0x9100, 96, 4, 1, "JOG_RETURN", .u16, .rws, 2, false, .num 1000, .btwOr 100 60000 0, .areaEnable⟩,
  ⟨0x9100, 96, 16, 1, "LANE_POWER_STATE", .u8, .r, 0, false, .num 0, (.btw 0 3), .immediate⟩,
  ⟨0x9100, 96, 17, 1, "JOG_HITS", .u32, .r, 0, false, .num 0, .any, .immediate⟩]

/-- Object rows of area 9. -/
def objRows9 : List ObjDef := objRows9_0 ++ objRows9_1

def objRowsA_0 : List ObjDef := [
  ⟨0xA001, 1, 1, 1, "ESCALATE", .bool, .rws, 3, false, .num 0, .any, .areaEnable⟩,
  ⟨0xA001, 1, 2, 1, "SELF_SAFE", .bool, .rws, 3, false, .num 1, .any, .areaEnable⟩,
  ⟨0xA001, 1, 3, 1, "SAFE_STATE", .bool, .r, 0, false, .num 0, .any, .immediate⟩,
  ⟨0xA001, 1, 4, 1, "SAFE_CAUSE", .u16, .r, 0, false, .num 0, .any, .named⟩,
  ⟨0xA001, 1, 5, 1, "SAFE_ENTER", .bool, .wo, 3, false, .num 0, .any, .immediate⟩,
  ⟨0xA001, 1, 6, 1, "SAFE_EXIT", .bool, .wo, 3, false, .num 0, .any, .immediate⟩,
  ⟨0xA001, 1, 7, 1, "HELD_COUNT", .u16, .r, 0, false, .num 0, .any, .immediate⟩,
  ⟨0xA001, 1, 8, 1, "HIGHEST", .u8, .r, 0, false, .num 255, (.btwOr 0 3 255), .immediate⟩,
  ⟨0xA001, 1, 9, 1, "ACK_ALL", .bool, .wo, 2, false, .num 0, .any, .immediate⟩,
  ⟨0xA010, 16, 1, 1, "CLASS_HIGHEST", .u8, .r, 0, false, .num 255, (.btwOr 0 3 255), .immediate⟩,
  ⟨0xA010, 16, 2, 1, "CLASS_HELD", .u8, .r, 0, false, .num 0, (.btw 0 32), .immediate⟩,
  ⟨0xA010, 16, 3, 1, "CLASS_UNACKED", .bool, .r, 0, false, .num 0, .any, .immediate⟩,
  ⟨0xA100, 512, 1, 1, "BASE_SEVERITY", .u8, .rws, 2, false, .num 0, .btw 0 3, .areaEnable⟩,
  ⟨0xA100, 512, 2, 1, "COUNT_LIMIT", .u8, .rws, 2, false, .num 0, .btw 0 255, .areaEnable⟩,
  ⟨0xA100, 512, 3, 1, "COUNT_WINDOW", .u32, .rws, 2, false, .num 0, .btw 1 86400, .areaEnable⟩,
  ⟨0xA100, 512, 4, 1, "COUNT_SEVERITY", .u8, .rws, 2, false, .num 0, .btw 0 3, .areaEnable⟩,
  ⟨0xA100, 512, 5, 1, "STATE", .u8, .r, 0, false, .num 0, (.btw 0 2), .immediate⟩,
  ⟨0xA100, 512, 6, 1, "SEVERITY", .u8, .r, 0, false, .num 0, .any, .immediate⟩,
  ⟨0xA100, 512, 7, 1, "WINDOW_COUNT", .u16, .r, 0, false, .num 0, .any, .immediate⟩,
  ⟨0xA100, 512, 8, 1, "REPORTS", .u32, .r, 0, false, .num 0, .any, .immediate⟩,
  ⟨0xA100, 512, 9, 1, "LAST_REPORT", .pt96, .r, 0, false, .num 0, .any, .immediate⟩,
  ⟨0xA100, 512, 10, 1, "ACK", .bool, .wo, 2, false, .num 0, .any, .immediate⟩,
  ⟨0xA800, 1, 1, 1, "REC_RATE", .u16, .rws, 2, false, .num 20, .btw 1 10000, .areaEnable⟩,
  ⟨0xA800, 1, 2, 1, "REC_BURST", .u16, .rws, 2, false, .num 200, .btw 1 10000, .areaEnable⟩,
  ⟨0xA800, 1, 3, 1, "REC_OLDEST", .u32, .r, 0, false, .num 0, .any, .immediate⟩,
  ⟨0xA800, 1, 4, 1, "REC_NEXT", .u32, .r, 0, false, .num 0, .any, .immediate⟩,
  ⟨0xA800, 1, 5, 1, "REC_CURSOR", .u32, .rw, 0, false, .num 0, .btw 0 16777215, .immediate⟩,
  ⟨0xA800, 1, 6, 1, "REC_READ", .octets, .r, 0, false, .oct [], .any, .immediate⟩,
  ⟨0xA800, 1, 7, 1, "REC_DROPPED", .u32, .r, 0, false, .num 0, .any, .immediate⟩,
  ⟨0xA800, 1, 8, 1, "REC_CHALLENGE", .octets, .r, 3, true, .oct [], .any, .immediate⟩]

def objRowsA_1 : List ObjDef := [
  ⟨0xA800, 1, 9, 1, "REC_CLEAR", .octets, .wo, 3, false, .oct [], .lenBtw 48 48, .immediate⟩,
  ⟨0xA800, 1, 10, 1, "REC_STATE", .u8, .r, 0, false, .num 0, (.btw 0 3), .immediate⟩,
  ⟨0xA800, 1, 11, 1, "POWER_CYCLES", .u32, .r, 0, false, .num 0, .any, .named⟩,
  ⟨0xA800, 1, 12, 1, "OPERATING_TIME", .u64, .r, 0, false, .num 0, .any, .named⟩,
  ⟨0xA800, 1, 13, 1, "REC_BACKLOG", .u16, .r, 0, false, .num 0, (.btw 0 4096), .immediate⟩,
  ⟨0xA400, 32, 1, 1, "EVT_PENDING", .u32, .rw, 2, false, .num 0, .any, .immediate⟩,
  ⟨0xA400, 32, 2, 1, "EVT_ENABLE", .u32, .rw, 2, false, .num 0, .any, .immediate⟩,
  ⟨0xA400, 32, 3, 1, "EVT_CTRL", .u32, .rw, 2, false, .num 0, .any, .immediate⟩]

/-- Object rows of area A. -/
def objRowsA : List ObjDef := objRowsA_0 ++ objRowsA_1

def objRowsArea_0 : List ObjDef := [
  ⟨0x0000, 17, 1, 1, "ENABLE", .u8, .wo, 0, false, .num 0, .oneOf [1, 2], .immediate⟩,
  ⟨0x0000, 17, 2, 1, "LAST_HURDLE", .u16, .r, 0, false, .num 0, .any, .named⟩,
  ⟨0x0000, 17, 3, 1, "LAST_OBJECT", .u32, .r, 0, false, .num 0, .any, .named⟩,
  ⟨0x0000, 17, 4, 1, "STAGED_COUNT", .u16, .r, 0, false, .num 0, (.btw 0 16384), .immediate⟩,
  ⟨0x0000, 17, 5, 1, "STAGE_OWNER", .u32, .r, 0, false, .num 0, .any, .immediate⟩,
  ⟨0x0000, 17, 6, 1, "COMMIT_COUNT", .u32, .r, 0, false, .num 0, .any, .named⟩,
  ⟨0x0000, 17, 7, 1, "LAST_COMMIT_TIME", .pt96, .r, 0, false, .num 0, .any, .named⟩]

/-- Object rows of area Area. -/
def objRowsArea : List ObjDef := objRowsArea_0

def objRowsB_0 : List ObjDef := [
  ⟨0xB001, 1, 1, 1, "LC_STATE", .u8, .r, 0, false, .num 0, (.btw 0 4), .immediate⟩,
  ⟨0xB001, 1, 2, 1, "LC_CHALLENGE", .octets, .r, 3, true, .oct [], .any, .immediate⟩,
  ⟨0xB001, 1, 3, 1, "LC_REQUEST", .domain, .wo, 3, false, .oct [], .any, .named⟩,
  ⟨0xB001, 1, 4, 1, "REVOKED_KEYS", .u8, .r, 0, false, .num 0, (.btw 0 15), .immediate⟩,
  ⟨0xB002, 1, 1, 1, "IDENTITY", .domain, .r, 0, false, .oct [], .any, .none⟩,
  ⟨0xB002, 1, 2, 1, "ATTEST_NONCE", .octets, .wo, 0, false, .oct [], .lenBtw 32 32, .immediate⟩,
  ⟨0xB002, 1, 3, 1, "ATTEST_REPORT", .domain, .r, 0, false, .oct [], .any, .named⟩,
  ⟨0xB100, 256, 1, 1, "KIND", .u8, .r, 0, false, .num 0, (.btw 0 5), .immediate⟩,
  ⟨0xB100, 256, 2, 1, "STATE", .u8, .r, 0, false, .num 0, (.btw 0 5), .immediate⟩,
  ⟨0xB100, 256, 3, 1, "PARENT", .u8, .r, 0, false, .num 0, .any, .immediate⟩,
  ⟨0xB100, 256, 4, 1, "USE_MASTERS", .u8, .r, 0, false, .num 0, (.btw 0 7), .immediate⟩,
  ⟨0xB100, 256, 5, 1, "USE_LIFECYCLE", .u8, .r, 0, false, .num 0, (.btw 0 15), .immediate⟩,
  ⟨0xB100, 256, 6, 1, "ROLE", .u8, .r, 0, false, .num 255, (.btwOr 0 3 255), .immediate⟩,
  ⟨0xB100, 256, 7, 1, "CHECK_VALUE", .octets, .r, 0, false, .oct [], .any, .immediate⟩,
  ⟨0xB100, 256, 8, 1, "GENERATION", .u32, .r, 0, false, .num 0, .any, .immediate⟩,
  ⟨0xB100, 256, 9, 1, "LOAD", .octets, .wo, 3, false, .oct [], .lenBtw 384 384, .immediate⟩,
  ⟨0xB100, 256, 10, 1, "VERIFY", .octets, .wo, 3, false, .oct [], .lenBtw 48 48, .immediate⟩,
  ⟨0xB100, 256, 11, 1, "INVALIDATE", .bool, .wo, 3, false, .num 0, .any, .immediate⟩]

/-- Object rows of area B. -/
def objRowsB : List ObjDef := objRowsB_0

def objRowsC_0 : List ObjDef := [
  ⟨0xC001, 1, 1, 1, "TWIN_ROLE", .u8, .rws, 3, false, .num 0, .oneOf [0, 1, 2], .nextStart⟩,
  ⟨0xC001, 1, 2, 1, "REVERTIVE", .bool, .rws, 2, false, .num 1, .any, .areaEnable⟩,
  ⟨0xC001, 1, 3, 1, "REVERT_WTR", .u16, .rws, 2, false, .num 120, .btw 10 3600, .areaEnable⟩,
  ⟨0xC001, 1, 4, 1, "REVERT_RATE", .u8, .rws, 2, false, .num 6, .btw 1 8, .areaEnable⟩,
  ⟨0xC001, 1, 5, 1, "RELINQUISH", .bool, .wo, 2, false, .num 0, .any, .immediate⟩,
  ⟨0xC002, 1, 1, 1, "TWIN_STATE", .u8, .r, 0, false, .num 1, (.btw 0 8), .immediate⟩,
  ⟨0xC002, 1, 2, 1, "PARTNER_STATE", .u8, .r, 0, false, .num 255, (.btwOr 0 8 255), .named⟩,
  ⟨0xC002, 1, 3, 1, "HB_CODE", .u8, .r, 0, false, .num 3, (.btw 0 3), .immediate⟩,
  ⟨0xC002, 1, 4, 1, "PARTNER_HEALTHY", .bool, .r, 0, false, .num 0, .any, .immediate⟩,
  ⟨0xC002, 1, 5, 1, "SYNC_GENERATION", .u32, .r, 0, false, .num 0, .any, .immediate⟩,
  ⟨0xC002, 1, 6, 1, "WTR_LEFT", .u16, .r, 0, false, .num 0, .any, .immediate⟩,
  ⟨0xC002, 1, 7, 1, "HANDOVERS", .u32, .r, 0, false, .num 0, .any, .immediate⟩,
  ⟨0xC002, 1, 8, 1, "LAST_GATE_CHANGE", .pt96, .r, 0, false, .num 0, .any, .immediate⟩,
  ⟨0xC002, 1, 9, 1, "CONTENTIONS", .u32, .r, 0, false, .num 0, .any, .immediate⟩,
  ⟨0xC002, 1, 10, 1, "RESYNCS", .u32, .r, 0, false, .num 0, .any, .immediate⟩,
  ⟨0xC002, 1, 11, 1, "MIRROR_LATE", .u32, .r, 0, false, .num 0, .any, .immediate⟩,
  ⟨0xC003, 1, 1, 1, "TL_STATE", .u8, .r, 0, false, .num 0, (.btw 0 1), .immediate⟩,
  ⟨0xC003, 1, 2, 1, "TL_RETRANSMITS", .u32, .r, 0, false, .num 0, .any, .immediate⟩,
  ⟨0xC003, 1, 3, 1, "TL_DOWNS", .u32, .r, 0, false, .num 0, .any, .immediate⟩,
  ⟨0xC003, 1, 4, 1, "PARTNER_SERIAL", .octets, .r, 0, false, .oct [], .any, .named⟩]

/-- Object rows of area C. -/
def objRowsC : List ObjDef := objRowsC_0

def objRowsD_0 : List ObjDef := [
  ⟨0xD001, 1, 1, 1, "UPDATE_STATE", .u8, .r, 0, false, .num 0, (.btw 0 7), .immediate⟩,
  ⟨0xD001, 1, 2, 1, "IMAGE", .domain, .rw, 3, false, .oct [], .any, .named⟩,
  ⟨0xD001, 1, 3, 1, "DOWNLOAD_RESULT", .u8, .r, 0, false, .num 0, (.btw 0 8), .named⟩,
  ⟨0xD001, 1, 4, 1, "ACTIVATE", .bool, .wo, 3, false, .num 0, .any, .immediate⟩,
  ⟨0xD001, 1, 5, 1, "CONFIRM", .bool, .wo, 3, false, .num 0, .any, .immediate⟩,
  ⟨0xD001, 1, 6, 1, "UPDATE_LOCK", .bool, .rw, 3, false, .num 0, .any, .immediate⟩,
  ⟨0xD001, 1, 7, 1, "CONFIRM_TIMEOUT", .u16, .rws, 3, false, .num 300, .btw 30 3600, .areaEnable⟩,
  ⟨0xD001, 1, 8, 1, "REQUIRE_HOST_CONFIRM", .bool, .rws, 3, false, .num 0, .any, .areaEnable⟩,
  ⟨0xD001, 1, 9, 1, "CONFIRM_LEFT", .u16, .r, 0, false, .num 0, .any, .immediate⟩,
  ⟨0xD010, 2, 1, 1, "SLOT_STATE", .u8, .r, 0, false, .num 0, (.btw 0 5), .immediate⟩,
  ⟨0xD010, 2, 2, 1, "FIRMWARE_VERSION", .u32, .r, 0, false, .num 0, .any, .named⟩,
  ⟨0xD010, 2, 3, 1, "SECURITY_VERSION", .u8, .r, 0, false, .num 0, (.btw 0 63), .named⟩,
  ⟨0xD010, 2, 4, 1, "SETTINGS_FORMAT", .u16, .r, 0, false, .num 0, .any, .named⟩,
  ⟨0xD010, 2, 5, 1, "COMPAT_LEVEL_MIN", .u16, .r, 0, false, .num 0, .any, .named⟩,
  ⟨0xD010, 2, 6, 1, "COMPAT_LEVEL_MAX", .u16, .r, 0, false, .num 0, .any, .named⟩,
  ⟨0xD010, 2, 7, 1, "PAYLOAD_HASH", .octets, .r, 0, false, .oct [], .any, .named⟩,
  ⟨0xD010, 2, 8, 1, "REJECT_REASON", .u8, .r, 0, false, .num 0, (.btw 0 8), .immediate⟩,
  ⟨0xD020, 1, 1, 1, "ACTIVE_SLOT", .u8, .r, 0, false, .num 0, (.btw 0 1), .immediate⟩,
  ⟨0xD020, 1, 2, 1, "TRIAL_STARTS", .u8, .r, 0, false, .num 0, (.btw 0 3), .named⟩,
  ⟨0xD020, 1, 3, 1, "BANK_FORMAT", .u16, .r, 0, false, .num 0, .any, .immediate⟩,
  ⟨0xD020, 1, 4, 1, "FALLBACKS", .u32, .r, 0, false, .num 0, .any, .immediate⟩,
  ⟨0xD020, 1, 5, 1, "ROLLBACK_COUNTER", .u8, .r, 0, false, .num 0, (.btw 0 63), .immediate⟩]

/-- Object rows of area D. -/
def objRowsD : List ObjDef := objRowsD_0

end Sys2Proof.Machine
end

