-- ==== Sys2Proof/Machine/StCore.lean ====
section
/-! DEFINITION. State of the control core: fuses, time, sessions and staged sets (02), the event and fault blocks (14) and
the host interface (13). Plain data. -/

namespace Sys2Proof.Machine

/-- The three ordering variants (R1, Table 0-1). -/
inductive Variant where
  | a | m | t
deriving DecidableEq, Repr

/-- What the fuses hold: variant, SERIAL, base MAC address (R142), Xafiavo's PCIe IDs are not architectural here. -/
structure Fuses where
  variant : Variant
  serial : List Byte
  baseMac : Nat
deriving DecidableEq, Repr

/-- Time: Pacer ticks since the release of RESET_N and Pacer time in units of 2^-64 ns, with its increment per tick (R15,
R326, R328). -/
structure TimeSt where
  ticks : Nat
  pt : Nat
  inc : Nat
deriving DecidableEq, Repr

/-- One record of a response: opcode, type, object, status and value (Table 2-5). -/
structure RespRec where
  opcode : Nat
  ty : Nat
  ix : Nat
  sub : Nat
  status : Nat
  value : List Byte
deriving DecidableEq, Repr

/-- One queued notification: object key, Pacer time of the change, value bytes. -/
structure Notif where
  key : Nat
  pt : Nat
  ty : Nat
  value : List Byte
deriving DecidableEq, Repr

/-- A session slot (R58–R63). `id` 0 means free; `cache` holds the response records of the last message and `details` its
HURDLE_DETAIL records (R44). -/
structure Session where
  id : Nat
  role : Nat
  peer : List Byte
  opened : Nat
  lastHeard : Nat
  lastSeq : Option Nat
  cache : List RespRec
  details : List RespRec
  failed : Bool
  running : Bool
  rxTop : Nat
  rxSeen : List Nat
  txCount : Nat
  keyC2d : List Byte
  keyD2c : List Byte
  recCursor : Nat
  queue : List Notif
  overflow : Bool
deriving DecidableEq, Repr

/-- A free session slot. -/
def Session.free : Session :=
  ⟨0, 0, [], 0, 0, none, [], [], false, false, 0, [], 0, [], [], 0, [], false⟩

/-- A handshake between CHALLENGE and PROOF (R59). -/
structure Attempt where
  slot : Nat
  id : Nat
  role : Nat
  keySlot : Nat
  source : List Byte
  nc : List Byte
  nd : List Byte
deriving DecidableEq, Repr

/-- A subscription (R66): session slot, object key (subindex 0 for all subindices), mode, interval in ms, the tick of SUBSCRIBE, and
for each subindex 1 + the tick of its last notification (0 none), the Pacer time up to which changes are known, and the value
then. -/
structure Subscr where
  slot : Nat
  key : Nat
  mode : Nat
  interval : Nat
  at_ : Nat
  known : List (Nat × Nat × Nat × Val)
deriving DecidableEq, Repr

/-- A source address with its recent failed proofs and the tick until which it is barred (R60). -/
structure AddrRec where
  source : List Byte
  fails : List Nat
  barred : Option Nat
deriving DecidableEq, Repr

/-- A record whose answer waits: the requests it waits for (peer device, REQ_ID), where its response record stands (session
slot, SEQUENCE, place), and what happens then: 0 a port SID write (`key`, `val`), 1 a commit (`chain` of area control index
and value, `key` the object that needs the subscriptions, `mirror` the twin message to be acknowledged, 0 none, `needs` the streams it uses with
their purposes), 2 a Stride swap, 3 a software activation. -/
structure Waiter where
  asks : List (Nat × Nat)
  slot : Nat
  seq : Nat
  idx : Nat
  kind : Nat
  key : Nat
  val : Nat
  chain : List (Nat × Nat)
  mirror : Nat
  needs : List (Nat × Nat)
deriving DecidableEq, Repr

/-- Sessions, staged sets and subscriptions (R40–R68). `staged` lists the staged value of an object key; `owners` gives the
owning session of an area's staged set (0 none); `domBuf` lists DOMAIN values still being received; `mbxWait` a mailbox channel's
response waiting for its buffer (R65); `blocked` lists the records that wait, each with its session slot, until the records before them have
taken effect (R45, R52). -/
structure DictSt where
  staged : Tbl Val
  owners : Tbl Nat
  domBuf : Tbl (List Byte)
  sessions : Tbl Session
  attempts : List Attempt
  nextId : Nat
  addrs : List AddrRec
  subs : List Subscr
  discards : Nat
  waits : List Waiter
  blocked : List (Nat × Instr)
  mbxWait : Tbl (List Byte)
deriving DecidableEq, Repr

/-- The owner of an area whose set is not owned. -/
def ownerNone : Nat → Nat := fun _ => 0
/-- An unlisted session slot is free. -/
def sessFree : Nat → Session := fun _ => Session.free

/-- A fault source's state (Table 14-6): 0 clear, 1 held, 2 held and acknowledged; held severity; the ticks of the reports
still inside the counting window, newest first; reports since start; time of the last; condition active. -/
structure SrcSt where
  state : Nat
  sev : Nat
  times : List Nat
  reports : Nat
  last : Nat
  cond : Bool
deriving DecidableEq, Repr

/-- A source that has never reported. -/
def SrcSt.clear : SrcSt := ⟨0, 0, [], 0, 0, false⟩
/-- An unlisted source is clear. -/
def srcClear : Nat → SrcSt := fun _ => SrcSt.clear

/-- The fault collector and the event block (R409–R421). `sigTick` is 1 + the tick of a source's last signal (0 never);
`coalesced` marks event sources with raises waiting for the end of MIN_INTERVAL. -/
structure FltSt where
  src : Tbl SrcSt
  safe : Bool
  selfFault : Bool
  sigTick : Tbl Nat
  coalesced : Tbl Bool
deriving DecidableEq, Repr

/-- A record of the event recorder before it is laid out as bytes (Table 14-4). -/
structure EvRec where
  code : Nat
  payload : List Byte
  sev : Nat
  plane : Nat
  cycles : Nat
  opTime : Nat
  seq : Nat
deriving DecidableEq, Repr

/-- A token bucket: level in tokens times 800,000,000, and the tick it was last filled. -/
structure Bucket where
  level : Nat
  last : Nat
deriving DecidableEq, Repr

/-- The event recorder (R422–R427). `unflushed` counts the ring records not yet in flash, `ringOnly` the newer ones
that a flash fault keeps in the ring only; `flash` holds
(byte position, record), oldest first; `state` as REC_STATE; `lost` counts drops of this second by code and cause. -/
structure RecSt where
  ring : List EvRec
  unflushed : Nat
  ringOnly : Nat
  flash : List (Nat × EvRec)
  flashPos : Nat
  seq : Nat
  buckets : Tbl Bucket
  lostRate : Tbl Nat
  lostBacklog : Tbl Nat
  dropped : Nat
  state : Nat
  retryAt : Option Nat
  eraseSuspended : Bool
  cycles : Nat
  opBase : Nat
  opSaved : Nat
  challenge : List Byte
  challengeAt : Nat
deriving DecidableEq, Repr

/-- A faulted STORE_READ that a RESUME descriptor may continue (R399). -/
structure FaultedDesc where
  op : Nat
  length : Nat
  hostAddr : Nat
  arg : Nat
  token : Nat
  progress : Nat
deriving DecidableEq, Repr

/-- A capture in progress (R395): host memory, the release frame, sample label or Pacer time from which it takes, its channels, and the byte
unit at which the host falls behind. -/
structure CapRun where
  host : HostMem
  from_ : Nat
  count : Nat
  overrun : Option Nat
deriving DecidableEq, Repr

/-- A descriptor in progress: its fields, the status, progress and TIME it will complete with, what it writes to host memory (offset in
its buffer, host physical address, bytes), and the ancillary packets it inserts (R396). -/
structure DescRun where
  op : Nat
  irq : Bool
  length : Nat
  hostAddr : Nat
  arg : Nat
  status : Nat
  progress : Nat
  time : Nat
  writes : List (Nat × Nat × List Byte)
  cap : Option CapRun
  anc : Option (List AncPkt)
deriving DecidableEq, Repr

/-- A DMA channel beyond its registers (R393–R399). -/
structure DmaCh where
  head : Nat
  descNo : Nat
  halted : Bool
  lastStatus : Nat
  run : Option DescRun
  faulted : Option FaultedDesc
deriving DecidableEq, Repr

/-- A channel after reset. -/
def DmaCh.idle : DmaCh := ⟨0, 0, false, 0, none, none⟩
/-- An unlisted channel is idle. -/
def dmaIdle : Nat → DmaCh := fun _ => DmaCh.idle

/-- One cached translation (R401): address space, device-virtual page number, page size (12 or 21 bits), host page
address, WRITE. -/
structure TlbEntry where
  asid : Nat
  page : Nat
  bits : Nat
  host : Nat
  writable : Bool
deriving DecidableEq, Repr

/-- A frame fetched from a transmit ring: the device-virtual address of its EOF descriptor, its descriptors, and that its STATUS is
written. -/
structure RingTx where
  desc : Nat
  descs : Nat
  done : Bool
deriving DecidableEq, Repr

/-- A receive or transmit ring beyond its registers (R402–R404): the device's index, and the frames of a transmit ring from HEAD on, in ring
order. -/
structure RingSt where
  head : Nat
  busy : List RingTx
deriving DecidableEq, Repr

/-- An unlisted ring is idle. -/
def ringIdle : Nat → RingSt := fun _ => ⟨0, []⟩

/-- The host interface (R384–R408). `lastMsg` is 1 + the tick of a vector's previous message; rings 0–63 receive, 64–127
transmit. -/
structure HifSt where
  msixEnabled : Bool
  funcMask : Bool
  pba : Tbl Bool
  lastMsg : Tbl Nat
  d3hot : Bool
  speed : Nat
  width : Nat
  dma : Tbl DmaCh
  tlb : List TlbEntry
  inv : Option (Nat × Nat × Nat × Nat)
  invQueue : List (Nat × Nat × Nat)
  rings : Tbl RingSt
deriving DecidableEq, Repr

end Sys2Proof.Machine
end

