-- ==== Sys2Proof/Machine/ObjDict.lean ====
section
/-! DEFINITION. The dictionary as a whole: areas (R39), area control objects (Table 2-2), the row of an object, and the
default of an instance (the Default columns, with Table 14-2 for the fault sources). -/

namespace Sys2Proof.Machine

/-- The key of an object: index × 256 + subindex. -/
def objKey (ix sub : Nat) : Nat := ix * 256 + sub

/-- Index of an object key. -/
def keyIx (k : Nat) : Nat := k / 256
/-- Subindex of an object key. -/
def keySub (k : Nat) : Nat := k % 256

/-- The area of an index: its area control index, or 0 for the dictionary's own range (R39, Table 2-1). -/
def areaOf (ix : Nat) : Nat :=
  if ix < 0x1000 then (if 0x0A00 ≤ ix ∧ ix ≤ 0x0AFF then 0x0AFF else 0)
  else if ix < 0x7000 then ix / 0x1000 * 0x1000 + 0xFFF
  else if ix < 0x7800 then 0x77FF
  else if ix < 0x8000 then 0x7FFF
  else if ix < 0x10000 then ix / 0x1000 * 0x1000 + 0xFFF
  else 0

/-- The index that names an area: the first of its range (Table 2-1), from its control index. -/
def areaBase (a : Nat) : Nat := if a = 0x7FFF then 0x7800 else if a = 0x0AFF then 0x0A00 else a / 0x1000 * 0x1000

/-- Area control indexes (Table 2-1). -/
def areaCtls : List Nat :=
  [0x0AFF, 0x1FFF, 0x2FFF, 0x3FFF, 0x4FFF, 0x5FFF, 0x6FFF, 0x77FF, 0x7FFF, 0x8FFF, 0x9FFF, 0xAFFF, 0xBFFF, 0xCFFF,
   0xDFFF, 0xEFFF, 0xFFFF]

/-- Areas whose commits are mirrored to the partner (Table 2-1). -/
def areaMirrored (a : Nat) : Bool :=
  a == 0x0AFF || a == 0x3FFF || a == 0x4FFF || a == 0x5FFF || a == 0x6FFF || a == 0x77FF || a == 0x7FFF || a == 0x8FFF

/-- The rows that may name an index. -/
def objRowsOf (ix : Nat) : List ObjDef :=
  match ix / 0x1000 with
  | 0 => objRows0 | 1 => objRows1 | 2 => objRows2 | 3 => objRows3 | 4 => objRows4 | 5 => objRows5 | 6 => objRows6
  | 7 => if ix < 0x7800 then objRows70 else objRows78
  | 8 => objRows8 | 9 => objRows9 | 10 => objRowsA | 11 => objRowsB | 12 => objRowsC | 13 => objRowsD
  | _ => []

/-- Whether a row names an index. -/
def ObjDef.hasIx (d : ObjDef) (ix : Nat) : Bool := decide (d.ix ≤ ix) && decide (ix < d.ix + d.n)
/-- Whether a row names a subindex. -/
def ObjDef.hasSub (d : ObjDef) (sub : Nat) : Bool := decide (d.sub ≤ sub) && decide (sub < d.sub + d.m)

/-- The row of an object, if it exists. -/
def objDef (ix sub : Nat) : Option ObjDef :=
  if areaCtls.contains ix then objRowsArea.find? (fun d => d.hasSub sub)
  else (objRowsOf ix).find? (fun d => d.hasIx ix && d.hasSub sub)

/-- Whether an index exists at all. -/
def ixExists (ix : Nat) : Bool := areaCtls.contains ix || (objRowsOf ix).any (fun d => d.hasIx ix)

/-- Every row of an index, in table order. -/
def rowsOfIx (ix : Nat) : List ObjDef :=
  if areaCtls.contains ix then objRowsArea else (objRowsOf ix).filter (fun d => d.hasIx ix)

/-- Defaults of the named fault sources (Table 14-2): BASE_SEVERITY, COUNT_LIMIT, COUNT_WINDOW, COUNT_SEVERITY. -/
def srcDefaults (s : Nat) : Nat × Nat × Nat × Nat :=
  match s with
  | 0 => (2, 0, 60, 1)
  | 32 => (0, 16, 86400, 1)
  | 33 => (2, 0, 60, 1)
  | 34 => (2, 0, 60, 1)
  | 64 => (0, 3, 86400, 1)
  | 65 => (1, 0, 60, 1)
  | 66 => (2, 0, 60, 1)
  | 67 => (2, 0, 60, 1)
  | 96 => (2, 0, 60, 1)
  | 98 => (1, 0, 60, 1)
  | 128 => (0, 10, 60, 1)
  | 160 => (0, 10, 60, 1)
  | 161 => (0, 10, 60, 1)
  | 192 => (1, 3, 3600, 2)
  | 256 => (1, 0, 60, 1)
  | 257 => (2, 0, 60, 1)
  | 288 => (0, 10, 60, 1)
  | 352 => (1, 0, 60, 1)
  | 353 => (3, 0, 60, 1)
  | 384 => (2, 0, 60, 1)
  | 416 => (2, 0, 60, 1)
  | 448 => (2, 2, 3600, 3)
  | 480 => (3, 0, 60, 1)
  | _ => (0, 0, 60, 1)

/-- Condition sources of Table 14-2. -/
def srcIsCondition (s : Nat) : Bool :=
  [33, 65, 66, 67, 96, 98, 256, 320, 352, 353].contains s

/-- Nominal costs of Table 15-5 in mW: class, point. Class 1 gives the Active cost; class 3 is per Mb/s (R444). -/
def costNominal (c pt : Nat) : Nat :=
  match c with
  | 0 => 22500 | 1 => 140 | 2 => 50 | 3 => 0 | 4 => 290
  | 5 => if pt = 0 then 250 else if pt = 1 then 550 else 900
  | 6 => if pt = 0 then 120 else if pt = 1 then 260 else 420
  | 7 => 350 | _ => 0

/-- The number of lanes a variant enables (Table 0-3). -/
def variantLanes : Variant → Nat | .a => 96 | .m => 48 | .t => 16
/-- The number of fabric lanes a variant enables (Table 0-3). -/
def variantFabric : Variant → Nat | .a => 128 | .m => 64 | .t => 0
/-- The largest mesh a variant joins (Table 0-3). -/
def variantMesh : Variant → Nat | .a => 12 | .m => 6 | .t => 1
/-- Stride engines of a variant (Table 0-3). -/
def variantEngines : Variant → Nat | .a => 16 | .m => 16 | .t => 2
/-- Allocatable pages of a variant (R162). -/
def variantPages : Variant → Nat | .t => 2048 | _ => 24576
/-- Spare pages of a variant (R162). -/
def variantSpares : Variant → Nat | .t => 31 | _ => 368
/-- Ordering code (R2). -/
def orderCode : Variant → List Byte
  | .a => [0x51, 0x4E, 0x39, 0x36, 0x31, 0x32, 0x2D, 0x41]
  | .m => [0x51, 0x4E, 0x39, 0x36, 0x31, 0x32, 0x2D, 0x4D]
  | .t => [0x51, 0x4E, 0x39, 0x36, 0x31, 0x32, 0x2D, 0x54]

/-- Defaults that differ by instance, fuse or variant. -/
def objSpecial (f : Fuses) (ix sub : Nat) : Option Val :=
  if ix = 0x1001 then
    (if sub = 1 then some (.oct (orderCode f.variant)) else if sub = 3 then some (.oct f.serial) else none)
  else if 0x5100 ≤ ix ∧ ix ≤ 0x51FF then
    let s := ix - 0x5100
    if sub = 2 then some (.num (if s < 96 ∨ 240 ≤ s then 1 else 0))
    else if sub = 3 then some (.num (if s < 96 then s else 0xFFFF)) else none
  else if 0x6100 ≤ ix ∧ ix ≤ 0x617F ∧ 4 ≤ sub ∧ sub ≤ 0x83 then some (.num (0xFF010000 + (sub - 4 : Nat)))
  else if 0x3400 ≤ ix ∧ ix ≤ 0x345F ∧ sub = 3 then some (.oct (beBytes 6 (f.baseMac + (ix - 0x3400))))
  else if 0x2010 ≤ ix ∧ ix ≤ 0x201D then
    let r := ix - 0x2010
    if sub = 5 then some (.num (if r ≤ 3 ∨ r = 13 then 100 else 1000))
    else if sub = 7 then some (.num (if 4 ≤ r ∧ r ≤ 7 then 3 else if r = 8 ∨ r = 9 then 10 else 0)) else none
  else if ix = 0x5002 ∧ (sub = 1 ∨ sub = 3) then some (.num (variantPages f.variant))
  else if ix = 0x5002 ∧ (sub = 4 ∨ sub = 5) then some (.num (variantSpares f.variant))
  else if ix = 0x4001 ∧ sub = 2 then some (.num (variantMesh f.variant))
  else if 0x4100 ≤ ix ∧ ix ≤ 0x417F ∧ sub = 5 then some (.num 0x043408)
  else if 0x7040 ≤ ix ∧ ix ≤ 0x7047 then some (.num (0xFF010000 + (sub - 1) % 16 : Nat))
  else if 0x7B00 ≤ ix ∧ ix ≤ 0x7BFF then some (.oct [0xFF, 0xFF, 0xFF, 0xFF, 0x00, 0x10, 0x00, 0x00])
  else if 0x7C00 ≤ ix ∧ ix ≤ 0x7C5F then some (.oct [0xFF, 0xFF, 0, 0, 0, 0, 0, 100, 0, 0, 0, 0])
  else if 0x7E00 ≤ ix ∧ ix ≤ 0x7E0F then some (.oct ([0x10, 0, 0, 0] ++ List.replicate 16 0))
  else if 0x9200 ≤ ix ∧ ix ≤ 0x9207 then some (.num (costNominal (ix - 0x9200) (sub - 1)))
  else if 0xA100 ≤ ix ∧ ix ≤ 0xA2FF then
    let d := srcDefaults (ix - 0xA100)
    if sub = 1 then some (.num d.1) else if sub = 2 then some (.num d.2.1)
    else if sub = 3 then some (.num d.2.2.1) else if sub = 4 then some (.num d.2.2.2) else none
  else none

/-- What an object whose value was never written reads as. -/
def objDefault (f : Fuses) (k : Nat) : Val :=
  match objSpecial f (keyIx k) (keySub k) with
  | some v => v
  | none =>
    match objDef (keyIx k) (keySub k) with
    | some d => d.dflt
    | none => .num 0

end Sys2Proof.Machine
end

