-- ==== Sys2Proof/Machine/StEssence.lean ====
section
/-! DEFINITION. State of the essence path: SDI receivers and serialisers (03), the Aligner and the essence store (05), source
channels, and takes and outputs (07). Times named `pt` are Pacer time in units of 2^-64 ns. -/

namespace Sys2Proof.Machine

/-- An SDI lane's receiver and serialiser beyond its objects (R74–R105). `family` is the entry of the search order being
tried, `lastFamily` the one last locked; `missTrs` counts consecutive missing TRS and `lnBad` consecutive line-number
disagreements; `fly` is the flywheel's next line; `lossAt` 1 + the tick of the last loss of lock and `lossFmt` the format
lost; `crcSec`, `lnSec`, `trsSec` are errors of this second; `division`, `st352` and `fmt352` are what ST 352 showed, `hinted` that
FORMAT_HINT decided the raster and `hintDue` that a change of it waits for the next frame start; `locked` is the tick of LOCK_STATE 4;
`inGroup` that the link takes part in its quad-link association, which it joined as link `grpLink` with division mode `grpDiv` and format
`grpFmt`; `mismatch` and `async` list audio groups; `ancLog` are the ancillary packets of the last millisecond (Pacer time, stream, bits);
`tcSeen` the ATC types delivered in this frame; `prev` is the previous line and `samp` each channel's last sample. -/
structure SdiLane where
  sd : Bool
  family : Nat
  dwellAt : Nat
  lastFamily : Nat
  missTrs : Nat
  lnBad : Nat
  fly : Nat
  lossAt : Nat
  lossFmt : Nat
  lossRate : Nat
  crcSec : Nat
  lnSec : Nat
  trsSec : Nat
  division : Nat
  st352 : Bool
  fmt352 : Nat
  hinted : Bool
  hintDue : Bool
  locked : Nat
  inGroup : Bool
  grpLink : Nat
  grpDiv : Nat
  grpFmt : Nat
  mismatch : List Nat
  async : List Nat
  ancLog : List (Nat × Nat × Nat)
  tcSeen : List Nat
  prev : List Byte
  samp : Tbl Nat
  txOn : Bool
  pidSeen : Bool
  errSec : Nat
  grpNow : List Nat
  grpOld : List Nat
deriving DecidableEq, Repr

/-- A lane after reset. -/
def SdiLane.idle : SdiLane :=
  { sd := false, family := 0, dwellAt := 0, lastFamily := 0, missTrs := 0, lnBad := 0, fly := 1, lossAt := 0, lossFmt := 0, lossRate := 0,
    crcSec := 0, lnSec := 0, trsSec := 0, division := 0, st352 := false, fmt352 := 0, hinted := false, hintDue := false, locked := 0,
    inGroup := false, grpLink := 0, grpDiv := 0, grpFmt := 0, mismatch := [], async := [], ancLog := [], tcSeen := [], prev := [], samp := [],
    txOn := false, pidSeen := false, errSec := 0, grpNow := [], grpOld := [] }
/-- An unlisted lane is idle. -/
def sdiIdle : Nat → SdiLane := fun _ => SdiLane.idle

/-- A line in the Aligner: the frame it belongs to (grid frame in line mode, source frame in frame mode, release frame once
released), line, video SUB, entry time, active samples, ancillary packets by stream, audio samples by channel, time code
by ATC type (DBB1, R92). -/
structure QLine where
  k : Nat
  n : Nat
  sub : Nat
  entry : Nat
  data : List Byte
  anc : List (Nat × AncPkt)
  audio : List (Nat × List Nat)
  tc : List (Nat × Nat)
deriving DecidableEq, Repr

/-- A member of an aligned group: one video stream of a slot, or the audio or ancillary flow of a sender. `cur` is the frame now
entering (for a flow, that it was once present), `w` the wait of its last line 1, `at` that line's entry; `missing` that it underruns
(R158) with `missed` lines so far; `skip` that this frame may not enter (R159); `good` its last good line; `line` the number of the line that entered last. -/
structure Member where
  cur : Option Nat
  w : Int
  at_ : Nat
  missing : Bool
  missed : Nat
  skip : Bool
  good : List Byte
  line : Nat
deriving DecidableEq, Repr

/-- A member that never entered a line. -/
def Member.none : Member := ⟨Option.none, 0, 0, false, 0, false, [], 0⟩
/-- An unlisted member never entered a line. -/
def memberNone : Nat → Member := fun _ => Member.none

/-- A source slot in the Aligner (R147–R160). `first` is the frame with which release begins; while `out` of the line-mode window no frame
from `outFrom` on is released, `okFrames` counts consecutive frames inside the window, `okK` the last one counted, and `gaps` are the
frames [a, b) skipped lately; `waits` are the last 8 entries of line 1, newest first; `shown` is the source frame released in grid frame
`shownK` (frame mode), `map` the grid frames lately decided with their source frames and `nextF` the next source frame number; no carried
frame before `floorK` is released again (R160); `q` holds entered lines, `rel` lines released lately, `last` the last complete frame;
`mode` and `delay` are those in force, `delay` and `floorK` from release frame `delayK` on, `delayOld` and `floorOld` before it; `realign`
is 1 + the Pacer time of a REALIGN not yet carried out; `heldOut` that the slot is out of its group for its frame rate, its released lines
going on in the raster `contF` (0: RASTER); `reacq` that its streams are absent since ALIGN_MODE changed; `fMarks` the time and number of
a frame in each of the last seconds, newest first, and `fCount` the frames counted (FREQ_OFFSET); `sq` holds waiting samples (time,
channel, value); `minW` the smallest sample wait of second `minSec`; `spliceAt` the release frames that begin with a splice (R153); `ramp`
1 + the sample at which a loss ramp began. For a flow source, `rtp` gives the RTP time of each frame lately entered (frame key, Pacer
time), `flowAnc` and `flowTc` the ancillary packets and time code received beside the video (RTP time; stream and packet, or line, ATC type
and value). `live` says that its streams are being released, `reform` that a REALIGN is forming its group again. -/
structure SlotSt where
  running : Bool
  first : Nat
  out : Bool
  outFrom : Nat
  okFrames : Nat
  okK : Nat
  gaps : List (Nat × Nat)
  lost : Bool
  waits : List Int
  shown : Nat
  shownK : Nat
  map : List (Nat × Nat)
  nextF : Nat
  floorK : Nat
  spliceAt : List Nat
  q : List QLine
  rel : List QLine
  last : List QLine
  mode : Nat
  delay : Nat
  delayOld : Nat
  floorOld : Nat
  delayK : Nat
  realign : Nat
  heldOut : Bool
  contF : Nat
  reacq : Bool
  fMarks : List (Nat × Nat)
  fCount : Nat
  sq : List (Nat × Nat × Nat)
  minW : Nat
  minSec : Nat
  ramp : Nat
  rtp : List (Nat × Nat)
  flowAnc : List (Nat × Nat × AncPkt)
  flowTc : List (Nat × Nat × Nat × Nat)
  live : Bool
  reform : Bool
deriving DecidableEq, Repr

/-- A slot that holds nothing. -/
def SlotSt.idle : SlotSt :=
  { running := false, first := 0, out := false, outFrom := 0, okFrames := 0, okK := 0, gaps := [], lost := false, waits := [], shown := 0,
    shownK := 0, map := [], nextF := 0, floorK := 0, spliceAt := [], q := [], rel := [], last := [], mode := 0, delay := 0, delayOld := 0,
    floorOld := 0, delayK := 0, realign := 0, heldOut := false, contF := 0, reacq := false, fMarks := [], fCount := 0, sq := [],
    minW := 2 ^ 32 - 1, minSec := 0, ramp := 0, rtp := [], flowAnc := [], flowTc := [], live := false, reform := false }
/-- An unlisted slot holds nothing. -/
def slotIdle : Nat → SlotSt := fun _ => SlotSt.idle

/-- A source channel after the Aligner: the house sample number of its next sample, its samples newest first, whether they
are labelled by line (a source with video), whether its channel status marks non-audio, its delay before the last change
and the sample at which that changed (R161). -/
structure Chan where
  next : Nat
  hist : List Nat
  byLine : Bool
  nonAudio : Bool
  oldDelay : Nat
  changeAt : Nat
deriving DecidableEq, Repr

/-- A channel without samples. -/
def Chan.empty : Chan := ⟨0, [], true, false, 0, 0⟩
/-- An unlisted channel has no samples. -/
def chanEmpty : Nat → Chan := fun _ => Chan.empty

/-- The essence store's pages (R162–R170). `ce` lists the ticks of a page's corrected errors; `mapped` the spare (32,768 on) or free
page standing in for a retired page; `spentSpares` the spares mapped once and `badSpares` those marked unusable; `copies` the retirement
copies in progress; `poisoned` the words that could not be corrected, and `poisonAt` by page × 32,768 + word the
Pacer time of the error, what enters later being written over them; `lostSlots` slots whose page was lost; `slotPages` and `outPages` the allocated pages of each slot and output,
`slotDue` those a slot keeps from its frame start on (R164), `otherPages` those of heads and cache (R163). -/
structure StoreSt where
  ce : Tbl (List Nat)
  mapped : Tbl Nat
  retired : Nat
  spentSpares : List Nat
  badSpares : List Nat
  lostPages : Nat
  copies : List Nat
  poisoned : List (Nat × Nat)
  poisonAt : Tbl Nat
  lostSlots : List Nat
  slotPages : Tbl Nat
  slotDue : Tbl Nat
  outPages : Tbl Nat
  otherPages : Nat
  scrubStart : Nat
deriving DecidableEq, Repr

/-- A position's transition (R229): the old and the new channel's SID, kind, first sample, length, the arrival order of the
take that made it; sample at which the old channel has stopped and the new begun (zero crossing), and the sample at which
ramps were forced; the last samples seen of both channels. -/
structure PosTr where
  old : Nat
  new : Nat
  kind : Nat
  start : Nat
  len : Nat
  by_ : Nat
  oldEnd : Option Nat
  newStart : Option Nat
  rampOld : Option Nat
  rampNew : Option Nat
deriving DecidableEq, Repr

/-- An output (R213–R236). `line` is the last complete line sent (one byte string per video SUB), `frame` the lines of the
last complete frame and `cur` those of the frame being sent, `sent` the lines handed to packet senders (frame, line, data), `sdiSent` the
lines of its SDI signal for ST 2022-6;
`takeAt` is T_a of the take in force and `aref` its AUDIO_REF; `prevVideo`, `prevAnc`, `prevTc` what was in force before the
switching line of grid frame `lastGrid`; `trans` the positions in transition; `samp` each position's last sample; `step` 1 or -1 while grid frame `lastGrid` carries a raster step; `wait`
ancillary packets not yet placed; `oldSw`, `oldDeadline`, `oldRate` hold until the first frame start after `changeAt`, and TX_MAPPING `mapOld` until the first after `mapAt`; `ins` are
insertions with their grid frames and `insNow` the packets inserted in the present frame (R396); `splice` the label from which 64 samples are
crossfaded at a change of padding, with how far ahead the old samples lie, and `pad` the house sample from which packets carry the new padding,
with the old one (R230); `mism` the positions whose channel has another rate; `edh` what the field CRCs gathered of the field being
sent. -/
structure OutSt where
  line : List (List Byte)
  frame : List (Nat × List (List Byte))
  cur : List (Nat × List (List Byte))
  sent : List (Nat × Nat × List (List Byte))
  sdiSent : List (Nat × SdiOut)
  hold : Bool
  held : Nat
  conflict : Bool
  takeAt : Nat
  aref : Nat
  prevVideo : Nat
  prevAnc : Nat
  prevTc : Nat
  lastGrid : Nat
  trans : Tbl PosTr
  samp : Tbl Nat
  step : Int
  wait : List AncPkt
  nextSample : Nat
  oldSw : Nat
  oldDeadline : Nat
  oldRate : Nat
  changeAt : Nat
  mapOld : Nat
  mapAt : Nat
  ins : List (Nat × List AncPkt)
  insNow : List AncPkt
  splice : Option (Nat × Int)
  pad : Option (Nat × Nat)
  mism : List Nat
  edh : Nat
deriving DecidableEq, Repr

/-- An output that carries nothing. -/
def OutSt.idle : OutSt :=
  { line := [], frame := [], cur := [], sent := [], sdiSent := [], hold := false, held := 0, conflict := false, takeAt := 0, aref := 0,
    prevVideo := 0xFF000000, prevAnc := 0xFF020000, prevTc := 0xFF030000, lastGrid := 0, trans := [], samp := [], step := 0, wait := [],
    nextSample := 0, oldSw := 0, oldDeadline := 3, oldRate := 48, changeAt := 0, mapOld := 0, mapAt := 0, ins := [], insNow := [],
    splice := none, pad := none, mism := [], edh := 0 }
/-- An unlisted output carries nothing. -/
def outIdle : Nat → OutSt := fun _ => OutSt.idle

/-- A take record (Table 7-1). -/
structure TakeRec where
  output : Nat
  last : Bool
  split : Bool
  setTc : Bool
  setAudio : Bool
  setAnc : Bool
  setVideo : Bool
  amode : Nat
  trans : Nat
  batch : Nat
  video : Nat
  anc : Nat
  tc : Nat
  aref : Nat
  count : Nat
  first : Nat
  tag : Nat
deriving DecidableEq, Repr

/-- An accepted record that waits: the record, the positions it sets with their channels, the grid frame it applies
in, and the Relay requests it waits for (peer device, REQ_ID). -/
structure PendRec where
  rec_ : TakeRec
  chans : List (Nat × Nat)
  frame : Nat
  asks : List (Nat × Nat)
deriving DecidableEq, Repr

/-- An accepted batch: origin (0–3 ring, 4 Zhonal, 5 partner), T_a, arrival order, SPLITTABLE, whether it is an R221 write
batch, how many outputs it has applied on, the records still waiting, and how many outputs it names. -/
structure Batch where
  id : Nat
  origin : Nat
  ta : Nat
  order : Nat
  split : Bool
  rwt : Bool
  applied : Nat
  firstFrame : Nat
  recs : List PendRec
  outs : Nat
deriving DecidableEq, Repr

/-- The take engine (R218–R238): batches in order of arrival, the next order number, the ring served last, rings that
discard up to LAST, the journal's next SEQ and entries since its last signal. -/
structure TakeSt where
  batches : List Batch
  order : Nat
  turn : Nat
  drop : Tbl Bool
  jseq : Nat
  jsince : Nat
deriving DecidableEq, Repr

/-- The essence path. `lag` and `offset` are ALIGN_LAG and AUDIO_OFFSET as this start took them (R148, Table 5-6). `present` lists present streams by local stream key; `once` and `acc` keep the once-per-second events: 1 + the second of the last raise, and for
those with a count the second, the occurrences in it and the payload before the count. -/
structure EssSt where
  sdi : Tbl SdiLane
  members : Tbl Member
  slots : Tbl SlotSt
  chans : Tbl Chan
  present : Tbl Bool
  store : StoreSt
  outs : Tbl OutSt
  takes : TakeSt
  once : Tbl Nat
  acc : Tbl (Nat × Nat × List Byte)
  lag : Nat
  offset : Nat
deriving DecidableEq, Repr

end Sys2Proof.Machine
end

