-- ==== Sys2Proof/Machine/StAudio.lean ====
section
/-! DEFINITION. State of the audio ports (08) and of the Stride engines (09). -/

namespace Sys2Proof.Machine

/-- An AES3 input beyond its objects: last sample of each subframe, house sample number of the last frame delivered, the
non-audio flag of the pair, whether the channels are marked present, and the sample and sample time of a frame of which only subframe 1
has been received. -/
structure AesIn where
  lastA : Nat
  lastB : Nat
  lastT : Nat
  nonAudio : Bool
  here : Bool
  half : Option (Nat × Nat)
deriving DecidableEq, Repr

/-- An input after reset. -/
def AesIn.idle : AesIn := ⟨0, 0, 0, false, false, none⟩
/-- An unlisted input is idle. -/
def aesIdle : Nat → AesIn := fun _ => AesIn.idle

/-- A TDM port beyond its objects: bad frames in a row, last samples of its receive slots, whether its channels are marked
present, and the Pacer tick of the commit that left masks to take effect. -/
structure TdmPort where
  bad : Nat
  last : List Nat
  here : Bool
  maskAt : Nat
deriving DecidableEq, Repr

/-- A port after reset. -/
def TdmPort.idle : TdmPort := ⟨0, [], false, 0⟩
/-- An unlisted port is idle. -/
def tdmIdle : Nat → TdmPort := fun _ => TdmPort.idle

/-- A port destination (R261–R263): the transition running, the SID held behind it, the last sample sent. -/
structure PortDest where
  tr : Option PosTr
  held : Option Nat
  last : Nat
deriving DecidableEq, Repr

/-- Whether a destination still needs a SID: in its transition, or held behind it. -/
def PortDest.names (x : PortDest) (sid : Nat) : Bool :=
  x.held == some sid || (match x.tr with | some t => t.old == sid || t.new == sid | none => false)

/-- A destination after reset. -/
def PortDest.idle : PortDest := ⟨none, none, 0⟩
/-- An unlisted destination is idle. -/
def portIdle : Nat → PortDest := fun _ => PortDest.idle

/-- The audio ports. `noAsrc` lists the first SIDs of unlocked pairs without an ASRC instance (R260); `asrcLine` the samples inside the ASRC
instance of an embedded channel, oldest first, by its stream key, with the house sample up to which an asynchronous one is converted (R259). -/
structure AudSt where
  aes : Tbl AesIn
  tdm : Tbl TdmPort
  dests : Tbl PortDest
  noAsrc : List Nat
  asrcLine : Tbl (Nat × List Nat)
deriving DecidableEq, Repr

/-! ### Stride engines -/

/-- An input entry of an engine: a channel by SID, or a position (0–127) of an output. -/
inductive StrIn where
  | sid (x : Nat)
  | pos (o p : Nat)
deriving DecidableEq, Repr

/-- An input entry as a number: a SID, or 2^32 + output × 128 + position. -/
def StrIn.word : StrIn → Nat
  | .sid x => x
  | .pos o p => 2 ^ 32 + o * 128 + p

/-- The banks of an engine (R292): program steps (64 bits each), parameter words, section coefficients (b0, b1, b2, a1, a2),
input entries. -/
structure EngBank where
  prog : List Nat
  params : List Int
  coefs : List (List Int)
  inputs : List StrIn
deriving DecidableEq, Repr

/-- Where a node runs: its engine, and the first section, ramp register or delay word it uses, with its length. -/
structure NodePl where
  node : Nat
  kind : Nat
  eng : Nat
  res : Nat
  len : Nat
deriving DecidableEq, Repr

/-- A complete set: banks by engine, placement, the destination map ((output × 128 + position) to slot), latency by slot,
slots with a DEST node (slot, engine), meters (meter, mode, hold in ms), and the exchange words written. -/
structure StrSet where
  banks : Tbl EngBank
  place : List NodePl
  dmap : Tbl Nat
  lat : Tbl Nat
  dests : List (Nat × Nat)
  meters : List (Nat × Nat × Nat)
  words : List Nat
deriving DecidableEq, Repr

/-- The empty set. -/
def StrSet.empty : StrSet := ⟨[], [], [], [], [], [], []⟩

/-- A ramp register: from, target, samples in all and samples done. -/
structure RampReg where
  start : Int
  target : Int
  n : Nat
  k : Nat
deriving DecidableEq, Repr

/-- Running memories of an engine: D words, accumulators, section states (x1, x2, y1, y2), ramp registers, delay words, the
sample count, and the last sample of each input entry. -/
structure EngRun where
  d : Tbl Int
  acc : Tbl Int
  bq : Tbl (Int × Int × Int × Int)
  ramp : Tbl RampReg
  dly : Tbl Int
  count : Nat
  lastIn : Tbl Int
deriving DecidableEq, Repr

/-- An engine at zero state. -/
def EngRun.zero : EngRun := ⟨[], [], [], [], [], 0, []⟩
/-- An unlisted engine is at zero state. -/
def engZero : Nat → EngRun := fun _ => EngRun.zero

/-- A destination limiter (R290): its last inputs, newest first, the gain in 2^-60, the outputs by the house sample at which
they leave, newest first, and a ramp of R297 (down or up, and the sample it began). -/
structure DestSt where
  buf : List Int
  g : Nat
  hist : List (Nat × Nat)
  ramp : Option (Bool × Nat)
deriving DecidableEq, Repr

/-- A limiter at zero state. -/
def DestSt.zero : DestSt := ⟨[], 2 ^ 60, [], none⟩
/-- An unlisted limiter is at zero state. -/
def destZero : Nat → DestSt := fun _ => DestSt.zero

/-- A meter (R291): largest magnitude of the running 10 ms, coded PEAK and HOLD, the tick at which HOLD was taken, the last
samples, newest first, for true peak. -/
structure MeterSt where
  win : Nat
  peak : Nat
  hold : Nat
  since : Nat
  recent : List Int
deriving DecidableEq, Repr

/-- A meter at zero. -/
def MeterSt.zero : MeterSt := ⟨0, 0, 0, 0, []⟩
/-- An unlisted meter is at zero. -/
def meterZero : Nat → MeterSt := fun _ => MeterSt.zero

/-- The Stride engines. `next` is the set in the shadow banks with its swap time N (Pacer time) and the engines it changes;
`fast` a fast-path commit with its apply time; `gens` GENERATION at each engine's last swap; `ahead` the taken samples of
positions that a graph has already read (output × 128 + position; label, sample). -/
structure StrSt where
  act : StrSet
  next : Option (StrSet × Nat × List Nat)
  runs : Tbl EngRun
  ex : Tbl Int
  dests : Tbl DestSt
  meters : Tbl MeterSt
  gens : Tbl Nat
  fast : Option (List (Nat × Nat × Nat) × Nat)
  dropped : Nat
  metered : Nat
  checkAt : Tbl Nat
  ahead : Tbl (List (Nat × Nat))
deriving DecidableEq, Repr

end Sys2Proof.Machine
end

