-- ==== Sys2Proof/Machine/StComp.lean ====
section
/-! DEFINITION. State of composition heads, the scaler pool and raster converters (10). -/

namespace Sys2Proof.Machine

/-- What a head shows (R306, R311): raster, background, the static layers of the underlay and of the overlay in rising Z,
each with the image or text it uses, and the live layers in rising Z with their numbers. -/
structure HeadSet where
  raster : Nat
  background : Nat
  under : List (List Byte × List Byte)
  top : List (List Byte × List Byte)
  live : List (Nat × List Byte)
deriving DecidableEq, Repr

/-- The set of a head that never ran. -/
def HeadSet.empty : HeadSet := ⟨0, 0, [], [], []⟩

/-- A composition head: frames composed, the set shown, the one whose flatten cache is being rebuilt with the tick its rebuild
began, shed, and what the open composition window reads (R307, R318): the meters' values and the banks, as it opened. -/
structure HeadSt where
  frames : Nat
  shown : HeadSet
  building : Option (HeadSet × Nat)
  shed : Bool
  bars : List (Nat × Nat)
  banks : List (Nat × List Byte)
deriving DecidableEq, Repr

/-- A head after reset. -/
def HeadSt.idle : HeadSt := ⟨0, HeadSet.empty, none, false, [], []⟩
/-- An unlisted head is idle. -/
def headIdle : Nat → HeadSt := fun _ => HeadSt.idle

/-- A live layer (R308, R309): whether it has composed a frame, the rows of that frame (pixels in the packing of ST 2110-20)
and of its key where it has one, stale frames, the windows it has held since its supply was lost with the cause (0 none),
whether black stands in for it, and whether its subscription was shed or its link lost. -/
structure LayerSt where
  has : Bool
  pic : List (List Byte)
  key : List (List Byte)
  stale : Nat
  lost : Nat
  cause : Nat
  black : Bool
  shedSub : Bool
  linkLost : Bool
deriving DecidableEq, Repr

/-- A layer that never composed. -/
def LayerSt.idle : LayerSt := ⟨false, [], [], 0, 0, 0, false, false, false⟩
/-- An unlisted layer never composed. -/
def layerIdle : Nat → LayerSt := fun _ => LayerSt.idle

/-- Composition: heads, layers, the engine of each pool user (layer l, or 512 + c for converter c; 1 + engine), the output on
which each converter is in force (1 + output), for an output the grid frame in which its converter came and in which one left, the
converters shed, and for a converter the bank in use since its last frame start (R318). -/
structure CompSt where
  heads : Tbl HeadSt
  layers : Tbl LayerSt
  place : Tbl Nat
  convOn : Tbl Nat
  convAt : Tbl Nat
  convGone : Tbl Nat
  convShed : List Nat
  convBank : Tbl (Nat × List Byte)
deriving DecidableEq, Repr

end Sys2Proof.Machine
end

