-- ==== Sys2Proof/Machine/StEmit.lean ====
section
/-! DEFINITION. What leaves the device: the outbox of emissions. The spec gives the outside world these messages, words and
signals; State keeps them in order, oldest first (log entry 10: the outbox is the model's own field). -/

namespace Sys2Proof.Machine

/-- The headers of a media packet beyond its sequence number, timestamp and marker (R135): destination and source MAC, VLAN tag, IPv6,
source and destination address, DSCP, TTL, the don't-fragment bit of IPv4, UDP ports, whether the UDP checksum is sent as 0 or computed,
RTP payload type and SSRC. -/
structure PktHdr where
  dmac : Nat
  smac : Nat
  vlan : Option Nat
  v6 : Bool
  src : Nat
  dst : Nat
  dscp : Nat
  ttl : Nat
  df : Bool
  sport : Nat
  dport : Nat
  udpZero : Bool
  pt : Nat
  ssrc : Nat
deriving DecidableEq, Repr

/-- One thing the device sends out or answers with. -/
inductive Emission where
  /-- a datagram to the peer of a session over UDP: security header, ciphertext and tag (R61) -/
  | datagram (slot : Nat) (bytes : List Byte)
  /-- a handshake message: mailbox channel or source address, TYPE and body (Table 2-8) -/
  | handshake (ch : Option Nat) (source : List Byte) (type : Nat) (session : Nat) (body : List Byte)
  /-- an MSI-X message of a vector (R391) -/
  | msix (v : Nat)
  /-- a Window A read's answer: offset and value -/
  | regRead (off value : Nat)
  /-- bytes written to host memory by DMA: address and data -/
  | hostWrite (addr : Nat) (data : List Byte)
  /-- bytes the device writes back in a ring or its buffers: address space, device-virtual address, bytes -/
  | ringWrite (asid addr : Nat) (data : List Byte)
  /-- a Relay control message to device j: MSG, REQ_ID and body (Table 6-10) -/
  | relayCtl (j msg reqId : Nat) (body : List Byte)
  /-- a Relay cell to device j as it enters the byte stream: TYPE, FLAGS, CHANNEL, UNIT, SEQ and payload (Table 6-9) -/
  | relayCell (j type flags channel unit seq : Nat) (body : CellBody)
  /-- a block on fabric lane f: the ten-bit symbols of its four codewords (R183) -/
  | relayBlock (f : Nat) (symbols : List Nat)
  /-- `n` blocks on fabric lane f, each with one fill cell and FIRST_CELL 0, their SEQ from `seq` in steps of `step`, from scrambler state
  `scr`: their symbols are `fillSymbols` (R189) -/
  | relayFill (f n seq step scr : Nat)
  /-- the test pattern of a PRBS_MODE on fabric lane f from now on, 0 its end: its levels are `patternLevels` from this register (R207) -/
  | pattern (f mode reg : Nat)
  /-- `n` single-bit errors in the test pattern of lane f, the first at a tick, 1 µs apart (R207) -/
  | patternErrors (f tick n : Nat)
  /-- a training frame on fabric lane f: the levels of its symbols (R179) -/
  | training (f : Nat) (levels : List Nat)
  /-- a line leaving output o on SDI -/
  | sdiLine (o : Nat) (l : SdiOut)
  /-- an AES3 frame of output n at house sample t: both samples, and the channel-status block it belongs to; V and user bits are 0 (R252) -/
  | aesFrame (n t a b : Nat) (status : List Byte)
  /-- a TDM frame of port n at house sample t: the FORMAT that signals it (Table 8-3), whether the device drives BCLK and FSYNC, and each
  slot's 32 bits, the sample in the upper 24 and the low 8 driven 0, none where DOUT is high-impedance (R253, R254, R257) -/
  | tdmFrame (n t format : Nat) (drives : Bool) (slots : List (Option Nat))
  /-- a line of internal output o handed to composition -/
  | internalLine (o n : Nat) (data : List (List Byte))
  /-- a media packet of send context c: headers, RTP sequence number, timestamp, marker, payload -/
  | packet (c : Nat) (h : PktHdr) (seq ts : Nat) (marker : Bool) (body : CellBody)
  /-- a host frame sent on lane p -/
  | ethFrame (p : Nat) (bytes : List Byte)
  /-- a frame of management lane m (0, 1) for the management cores, with its RUNT, FCS_ERROR and OVERSIZE flags (R116) -/
  | mgmtFrame (m flags : Nat) (bytes : List Byte)
  /-- a twin-link message: header and body (Tables 12-2, 12-3) -/
  | twin (bytes : List Byte)
  /-- a PTP message on MAC m: messageType, domain, transport, sequence number, fields, and bytes it carries -/
  | ptp (m type domain transport seq : Nat) (fields : List Nat) (data : List Byte)
  /-- a REFEREE_HB pulse of a width in us (R364) -/
  | heartbeat (width : Nat)
deriving DecidableEq, Repr

end Sys2Proof.Machine
end

