-- ==== Sys2Proof/Machine/StEth.lean ====
section
/-! DEFINITION. State of the Ethernet lanes and flow contexts (04). -/

namespace Sys2Proof.Machine

/-- An entry of a transmit-timestamp queue: TS_ID, seconds, nanoseconds, quarter nanoseconds (R141). -/
structure TxStamp where
  id : Nat
  sec : Nat
  ns : Nat
  frac : Nat
deriving DecidableEq, Repr

/-- A frame of the Pacer servo controller (R139, R348): the slave instance it belongs to (4 for a master port), message type, domain,
transport, sequence number, fields and bytes carried. -/
structure ServoTx where
  inst : Nat
  type : Nat
  domain : Nat
  transport : Nat
  seq : Nat
  fields : List Nat
  data : List Byte
deriving DecidableEq, Repr

/-- A frame waiting to start (R139): its length, transmit ring, timestamp request and TS_ID, the device-virtual
address of its EOF descriptor, and its bytes; of the servo controller, the message. -/
structure HostTx where
  length : Nat
  ring : Nat
  tsReq : Bool
  tsId : Nat
  desc : Nat
  bytes : List Byte
  servo : Option ServoTx
deriving DecidableEq, Repr

/-- An Ethernet lane beyond its objects: punt buckets by class, the timestamp queue, LOST_ID, the last popped stamp and
frames waiting to start. -/
structure EthPort where
  buckets : Tbl Bucket
  stamps : List TxStamp
  lostId : Nat
  popSec : Nat
  popNs : Nat
  wait : List HostTx
deriving DecidableEq, Repr

/-- A lane after reset. -/
def EthPort.idle : EthPort := ⟨[], [], 0, 0, 0, []⟩
/-- An unlisted lane is idle. -/
def ethIdle : Nat → EthPort := fun _ => EthPort.idle

/-- A receive flow context's state and counters (R126–R133, Table 4-12). Path A of a pair holds the merged flow. `up` and `down` are
the context's own path, `lastTick` 1 + the tick of its last packet, `pathTs` the RTP timestamp of its last packet and `marks` the
RTP timestamps and arrivals of the first packets of the last 64 frames (or audio packets), newest first. `next` is the merged flow's next sequence number, `wait` the numbers missing with their ticks, `gone` those given
up lately, `ahead` packets received beyond a missing one (number, timestamp, arrival, payload). `frame` is the open frame's RTP time,
`row`, `parts`, `rowTick` the open line, `closed` the last closed row, `prev` its samples, `fresh` that no complete line came since
the flow became active, `arr` the stamp of the last packet. `samp` holds each channel's last sample; for ST 2110-31 `cbits` and `ubits` the
channel-status and user bits of its block so far, `cstat` and `ustat` those of the last block taken, `vbits` its last validity bit (R250).
Of the carried SDI signal, `sdiFmt` is the format locked, `sdiDiv` its division mode, `sdiBad` that a datagram was lost, `sdiLast` the last
line and `sdiAt` its Pacer time, `lnBad` the consecutive line-number errors, `payloadId` the ST 352 bytes and `pidSeen` that this frame has
some, `mismatched` and `async` lists of audio groups, `grpNow` and `grpOld` the groups seen in this frame and in the one before, `tcSeen` the
ATC types that had their value in this frame. -/
structure RxCtx where
  active : Bool
  up : Bool
  down : Bool
  lane : Nat
  lastTick : Nat
  packets : Nat
  lost : Nat
  recovered : Nat
  dups : Nat
  late : Nat
  mismatch : Nat
  skew : Int
  over_ : Bool
  pathTs : Option Nat
  next : Option Nat
  wait : List (Nat × Nat)
  gone : List Nat
  ahead : List (Nat × Nat × Nat × MediaPayload)
  frame : Option Nat
  row : Option Nat
  closed : Option Nat
  parts : List (Nat × List Byte)
  rowTick : Nat
  prev : List Byte
  fresh : Bool
  arr : Nat
  samp : Tbl Nat
  cbits : Tbl (List Bool)
  ubits : Tbl (List Bool)
  cstat : Tbl (List Byte)
  ustat : Tbl (List Byte)
  vbits : Tbl Nat
  sdiFmt : Nat
  sdiDiv : Nat
  sdiBad : Bool
  sdiLast : Nat
  lnBad : Nat
  payloadId : Nat
  mismatched : List Nat
  async : List Nat
  marks : List (Nat × Nat)
  pidSeen : Bool
  sdiAt : Nat
  tcSeen : List Nat
  grpNow : List Nat
  grpOld : List Nat
deriving DecidableEq, Repr

/-- A context that has received nothing. -/
def RxCtx.idle : RxCtx :=
  { active := false, up := false, down := false, lane := 0, lastTick := 0, packets := 0, lost := 0, recovered := 0, dups := 0, late := 0,
    mismatch := 0, skew := 0, over_ := false, pathTs := none, next := none, wait := [], gone := [], ahead := [], frame := none,
    row := none, closed := none, parts := [], rowTick := 0, prev := [], fresh := true, arr := 0, samp := [], cbits := [], ubits := [],
    cstat := [], ustat := [], vbits := [], sdiFmt := 0, sdiDiv := 0, sdiBad := false, sdiLast := 0, lnBad := 0, payloadId := 0,
    mismatched := [], async := [], marks := [], pidSeen := false, sdiAt := 0, tcSeen := [], grpNow := [], grpOld := [] }
/-- An unlisted context has received nothing. -/
def rxIdle : Nat → RxCtx := fun _ => RxCtx.idle

/-- A send flow context's state and counters: packets, packets discarded at the MAC, the schedule place of its last packet, and for the
lower-numbered context of a pair the flow's last place and RTP sequence number. -/
structure TxCtx where
  seq : Nat
  packets : Nat
  discarded : Nat
  sending : Bool
  last : Nat
  flowLast : Nat
deriving DecidableEq, Repr

/-- An unlisted send context has sent nothing. -/
def txIdle : Nat → TxCtx := fun _ => ⟨0, 0, 0, false, 0, 0⟩

/-- A management-lane MAC's counts of Table 4-2: fragments, runts, FCS errors, oversize frames and frames delivered (R116). -/
structure MgmtMac where
  fragments : Nat
  runts : Nat
  fcs : Nat
  oversize : Nat
  frames : Nat
deriving DecidableEq, Repr

/-- A management-lane MAC that has received nothing. -/
def mgmtIdle : Nat → MgmtMac := fun _ => ⟨0, 0, 0, 0, 0⟩

/-- The Ethernet lanes, the management-lane MACs and the flow contexts. -/
structure EthSt where
  ports : Tbl EthPort
  mgmt : Tbl MgmtMac
  rx : Tbl RxCtx
  tx : Tbl TxCtx
deriving DecidableEq, Repr

end Sys2Proof.Machine
end

