-- ==== Sys2Proof/Machine/StPacer.lean ====
section
/-! DEFINITION. State of the Pacer (11). Phases in units of 0.25 ns, frequencies and steering in ppt, the build-out in ps. -/

namespace Sys2Proof.Machine

/-- A reference beyond its objects: present now, qualified at least once since start, the tick its window began with the limits
it took then, the tick at which it returned, its latest phase and frequency error. -/
structure RefSt where
  present : Bool
  everQual : Bool
  winStart : Nat
  freqLimit : Nat
  phaseLimit : Nat
  returnAt : Nat
  phase : Int
  freq : Int
deriving DecidableEq, Repr

/-- A reference after reset. -/
def RefSt.idle : RefSt := ⟨false, false, 0, 200, 100, 0, 0, 0⟩
/-- An unlisted reference is idle. -/
def refIdle : Nat → RefSt := fun _ => RefSt.idle

/-- A foreign master: its last Announce, how many were heard, and the tick of the last. -/
structure Foreign where
  a : PtpAnnounce
  heard : Nat
  last : Nat
deriving DecidableEq, Repr

/-- A PTP instance beyond its objects: masters heard, the last Sync times, the Delay_Req under way (sequence number, transmit
time), the next sequence number, the exchanges of this second (round trip, offset), and ticks of the last request and second. -/
structure PtpSt where
  masters : List Foreign
  sync : Option (Nat × Nat)
  req : Option (Nat × Nat)
  seq : Nat
  exchanges : List (Int × Int)
  lastReq : Nat
  lastSecond : Nat
deriving DecidableEq, Repr

/-- An instance after reset. -/
def PtpSt.idle : PtpSt := ⟨[], none, none, 0, [], 0, 0⟩
/-- An unlisted instance is idle. -/
def ptpIdle : Nat → PtpSt := fun _ => PtpSt.idle

/-- The Pacer. `ocxoKnown` that a window of OCXO_IN has been measured since start, `ocxoWhole` one since it was last absent; `integ` is the loop's integrator; `sel` the reference the loop steers to, or the target of the switch that runs;
`lastSel` the reference last selected; `b` the build-out left, `switchAt` the tick a switch began; `inLock` 1 + the tick since
which the phase error is within LOCK_THRESHOLD; `secs` mean steering of the seconds since lock, newest first, `secAcc` and `secSum` the updates of the second in progress and their sum; `armed` 1 + the tick
at which the jump override was armed; `sends` sequence numbers and last send ticks of master ports by MAC and message; `gmSec`
Delay_Req answered by MAC in this second; `ckHeld` clock outputs that wait for their aligned edge; `fpSlew` the phase a frame-pulse output still has to move, with
the tick it began; `pend13` a step in ns that the servo holds for reference 13. -/
structure PacSt where
  refs : Tbl RefSt
  ocxo : Bool
  ocxoKnown : Bool
  ocxoWhole : Bool
  ocxoFrom : Nat
  integ : Int
  sel : Option Nat
  lastSel : Nat
  b : Int
  switchAt : Nat
  inLock : Nat
  secs : List Int
  secAcc : Nat
  secSum : Int
  armed : Nat
  loopSeq : Nat
  loopPhase : Int
  dcoAt : Nat
  frac : Nat
  ptp : Tbl PtpSt
  sends : Tbl (Nat × Nat)
  gmSec : Tbl (Nat × Nat)
  ckHeld : Tbl Nat
  fpSlew : Tbl (Int × Nat)
  pend13 : Int
deriving DecidableEq, Repr

/-- The Pacer after reset: OCXO_IN present (the reset state's own assumption about the pin). -/
def PacSt.idle : PacSt := ⟨[], true, false, false, 0, 0, none, 0xFF, 0, 0, 0, [], 0, 0, 0, 0, 0, 0, 0, [], [], [], [], [], 0⟩

end Sys2Proof.Machine
end

