-- ==== Sys2Proof/Machine/StPower.lean ====
section
/-! DEFINITION. State of the power controller and the energy ledger (15) beyond its objects. -/

namespace Sys2Proof.Machine

/-- A change of the operating point under way (R440): target, whether its frequency has changed, the tick of its last action,
the cause its event gives. -/
structure PointChange where
  target : Nat
  freqDone : Bool
  at_ : Nat
  cause : Nat
deriving DecidableEq, Repr

/-- Power (R431–R449). `entry` is the step E1–E4 of Bench entry under way (0 none) since `entryAt`, `noAbort` that a thermal
trip runs it; `stopped` that essence activity is stopped; `latch` wake sources seen during entry; `bring` the bring-up
steps still to run with their ticks; `benchAt` the tick Bench began; `miss` reads a rail missed in a row; `pmAt`, `pmSum` and
`pmCount` the PMBus reads of this second; `quiet` 1 + the tick since which a lane woken from Jog has no signal; `point` the
change under way, `fact` and `vact` the frequency and voltage in force, `heldF` and `heldV` held requests; `means` the last
ten MEASURED − LEDGER_INUSE, newest first; `shed` the steps shed, newest first, as kind and instance; `okAt` since when
MEASURED allows a restore; `nothing` that nothing is left to shed, `above` that MEASURED exceeds the budget; `secAt` and
`thermAt` the last ledger second and sensor read; `tripped` that a thermal trip bars waking. -/
structure PwrSt where
  entry : Nat
  entryAt : Nat
  noAbort : Bool
  stopped : Bool
  latch : Nat
  bring : List (Nat × Nat)
  benchAt : Nat
  miss : Tbl Nat
  pmAt : Nat
  pmSum : Nat
  pmCount : Nat
  quiet : Tbl Nat
  point : Option PointChange
  fact : Nat
  vact : Nat
  heldF : Option Nat
  heldV : Option Nat
  means : List Int
  shed : List (Nat × Nat)
  okAt : Nat
  nothing : Bool
  above : Bool
  secAt : Nat
  thermAt : Nat
  tripped : Bool
deriving DecidableEq, Repr

/-- Power right after reset. -/
def PwrSt.idle : PwrSt :=
  { entry := 0, entryAt := 0, noAbort := false, stopped := false, latch := 0, bring := [], benchAt := 0, miss := [], pmAt := 0,
    pmSum := 0, pmCount := 0, quiet := [], point := none, fact := 0, vact := 0, heldF := none, heldV := none, means := [],
    shed := [], okAt := 0, nothing := false, above := false, secAt := 0, thermAt := 0, tripped := false }

end Sys2Proof.Machine
end

