-- ==== Sys2Proof/Machine/StTwin.lean ====
section
/-! DEFINITION. State of twin operation (12): the interlock, the heartbeat, handover, the twin link and mirroring. -/

namespace Sys2Proof.Machine

/-- A mirror message sent and not yet acknowledged (R373). -/
structure TlMsg where
  seq : Nat
  type : Nat
  body : List Byte
  sends : Nat
  last : Nat
deriving DecidableEq, Repr

/-- The partner as its latest STATUS showed it. -/
structure Partner where
  state : Nat
  hb : Nat
  grant : Bool
  ready : Bool
  holding : Bool
  safe : Bool
  gen : Nat
deriving DecidableEq, Repr

/-- A commit announced by the holder and awaiting its phase 2: area, and staged values as (object key, wire bytes). -/
structure MirrorCommit where
  area : Nat
  values : List (Nat × List Byte)
deriving DecidableEq, Repr

/-- Twin operation. `role` is TWIN_ROLE in force; `claim`, `pclaim`, `grant` the pins, `gate` the gate; `gateOnce` that it
has opened before; `current` that the chip was current at least once and `heldEver` that a chip has held the Baton since
start; `holdOff` and `block` are the ticks until which the chip does not claim; `claimAt` the tick the claim rose;
`healthAt` the last health confirmation and `health` that it holds; `sdiHold` 1 + the tick an SDI handover hold began, with
`sdiLines` lines held; `wtrAt` the start of the revert wait, `wtrFor` its length in seconds (REVERT_WTR as it began); `relT` the agreed instant T in Pacer time; `revSent` the tick REVERT was sent, `retryAt` the tick of a retry; `hear` counts consecutive
STATUS received; `stTx`, `stRx` STATUS counts; `tx`, `rx` message numbers; `unacked` messages; `snap` values gathered by a
join with its start tick, bytes and the holder's generation, `queue` messages waiting for it; `localChanges` values committed
while the link was down, `base` the mirrored running values as this chip became isolated (R378); `expected` and `told` are outcomes of this chip's take engine and of the holder's journal (batch,
output, status) not yet compared; `diverged` that a divergence asks for a join. -/
structure TwinSt where
  role : Nat
  claim : Bool
  pclaim : Bool
  grant : Bool
  gate : Bool
  gateOnce : Bool
  current : Bool
  heldEver : Bool
  holdOff : Nat
  block : Nat
  claimAt : Nat
  healthAt : Nat
  health : Bool
  pulseAt : Nat
  sdiHold : Nat
  sdiLines : Nat
  wtrAt : Nat
  wtrFor : Nat
  relT : Nat
  revSent : Nat
  retryAt : Nat
  up : Bool
  hear : Nat
  stTx : Nat
  stRx : Nat
  stAt : Nat
  sentAt : Nat
  lastSent : Nat × Nat
  lastHeard : Nat × Nat × Nat
  tx : Nat
  rx : Nat
  unacked : List TlMsg
  partner : Option Partner
  joining : Bool
  joinAt : Nat
  joinBytes : Nat
  snapDone : Bool
  snapGen : Nat
  snap : List (Nat × List Byte)
  snapJnl : List (List Byte)
  queue : List Instr
  commits : List MirrorCommit
  localChanges : Nat
  base : Option (List (Nat × Val))
  expected : List (Nat × Nat × Nat)
  told : List (Nat × Nat × Nat)
  diverged : Bool
deriving DecidableEq, Repr

/-- Twin operation after reset. -/
def TwinSt.idle : TwinSt :=
  { role := 0, claim := false, pclaim := false, grant := false, gate := false, gateOnce := false, current := false,
    heldEver := false, holdOff := 0, block := 0, claimAt := 0, healthAt := 0, health := true, pulseAt := 0, sdiHold := 0,
    sdiLines := 0, wtrAt := 0, wtrFor := 0, relT := 0, revSent := 0, retryAt := 0, up := false, hear := 0, stTx := 0, stRx := 0,
    stAt := 0, sentAt := 0, lastSent := (0, 0), lastHeard := (0, 0, 0), tx := 0, rx := 0, unacked := [], partner := none,
    joining := false, joinAt := 0, joinBytes := 0, snapDone := false, snapGen := 0, snap := [], snapJnl := [], queue := [], commits := [],
    localChanges := 0, base := none, expected := [], told := [], diverged := false }

end Sys2Proof.Machine
end

