-- ==== Sys2Proof/Machine/StUpd.lean ====
section
/-! DEFINITION. State of security, boot, field update (16) and start-up (17) beyond their objects: what the key store, the boot
flash and the fuses hold, and the progress of an activation, a trial and a start. -/

namespace Sys2Proof.Machine

/-- A key loaded and not yet verified (R461): kind, parent, role, masters, life cycles, generation, key, and the tick of its
LOAD. -/
structure PendKey where
  kind : Nat
  parent : Nat
  role : Nat
  masters : Nat
  cycles : Nat
  gen : Nat
  key : List Byte
  at_ : Nat
deriving DecidableEq, Repr

/-- A key slot (Tables 16-3, 16-8). -/
structure KeySlot where
  kind : Nat
  state : Nat
  parent : Nat
  masters : Nat
  cycles : Nat
  role : Nat
  check : List Byte
  gen : Nat
  key : List Byte
  pend : Option PendKey
deriving DecidableEq, Repr

/-- An unlisted key slot: KIND and PARENT as Table 16-3 allocates them, nothing in it. -/
def keyDefault (n : Nat) : KeySlot :=
  { kind := if n = 0 then 1 else if n = 1 ∨ n = 2 then 2 else if n = 3 then 3 else if n = 8 then 4 else 0,
    state := 0, parent := if n = 9 ∨ n > 9 then 8 else 0, masters := 0, cycles := 0, role := 0xFF, check := [], gen := 0, key := [],
    pend := none }

/-- What an image's header says (Table 16-6), as the image slot objects show it. -/
structure ImgInfo where
  fw : Nat
  sec : Nat
  fmt : Nat
  cmin : Nat
  cmax : Nat
  hash : List Byte
deriving DecidableEq, Repr

/-- An image slot: SLOT_STATE, REJECT_REASON, what was last verified in it, and the image's bytes. -/
structure ImgSlot where
  state : Nat
  reject : Nat
  info : ImgInfo
  image : List Byte
deriving DecidableEq, Repr

/-- An empty image slot. -/
def imgEmpty : Nat → ImgSlot := fun _ => ⟨0, 0, ⟨0, 0, 0, 0, 0, []⟩, []⟩

/-- A settings bank (R473): its format, the durable values, and writes not yet durable with their ticks, oldest first. -/
structure Bank where
  fmt : Nat
  vals : Tbl Val
  writes : List (Nat × List (Nat × Val))
deriving DecidableEq, Repr

/-- A blank settings bank. -/
def bankBlank : Nat → Bank := fun _ => ⟨0, [], []⟩

/-- An activation or a running fall-back (R477, R480): cause (0 an activation, 1 and 2 as R480), slots, the ticks of its start and of
its pause (0 none yet), and whether the format change replaces the running sets by defaults. -/
structure Activation where
  cause : Nat
  from_ : Nat
  to_ : Nat
  at_ : Nat
  pauseAt : Nat
  fresh : Bool
deriving DecidableEq, Repr

/-- Security, boot, update and start-up. Life cycle: `lc` LC_STATE, `lcNo` the draw of LC_CHALLENGE. Fuses and flash: `rollback`,
`revoked`, `rootBlown` that slot 0 is underivable, `keys`, `identity`, `slots` and `banks` by image slot, `active` ACTIVE_SLOT,
`trialStarts`, `fallbacks`. Attestation: reports being signed (session slot, nonce, tick of the write) and each session's last
report. Update: UPDATE_STATE, the tick a download ended (verifying), `trial` that a trial image runs, `trialAt` the tick
CONFIRM_LEFT started from, `trialTime` and `trialHost` its CONFIRM_TIMEOUT and REQUIRE_HOST_CONFIRM, `confirmAt` 1 + the tick of
CONFIRM, `healthAt` the last tick a fault of severity 3 or the safe state ended, `fallBack` a fall-back asked for (cause, 0 none),
`act` the activation under way, `paused` its control-plane pause, `handing` that a fall-back first hands the Baton over. Boot:
STAGE, the slot booted, each slot's result, and the recovery image with its tick. Start: `phaseAt` 1 + the tick each phase was
entered, `pacerWaited` and `meshWaited` that a wait expired, `meshMet` that the mesh wait is met or expired, `loadAt` the tick of
the subordinate loads, `reloaded` that they were loaded once more, `restartAt` 1 + the tick a restart is due (0 none), `storeTries`
how often the essence store was not ready, `loaded` that loads and settings are complete, START_PACER_WAIT and START_MESH_WAIT as this
start took them. `buf` bytes of an image not yet programmed at tick `bufAt`; `heldTl` mirror messages queued in a pause, with their
bytes; `heldRecs` Zhonal records and session messages held in a pause, in order of arrival (R47), `heldMsgs`
how many messages these are, and `heldDrop` that the last message to arrive was dropped. -/
structure UpdSt where
  lc : Nat
  lcNo : Nat
  rollback : Nat
  revoked : Nat
  rootBlown : Bool
  keys : Tbl KeySlot
  identity : List Byte
  slots : Tbl ImgSlot
  banks : Tbl Bank
  active : Nat
  trialStarts : Nat
  fallbacks : Nat
  attests : List (Nat × List Byte × Nat)
  reports : Tbl (List Byte)
  ust : Nat
  trial : Bool
  trialAt : Nat
  trialTime : Nat
  trialHost : Bool
  confirmAt : Nat
  healthAt : Nat
  fallBack : Nat
  act : Option Activation
  paused : Bool
  handing : Bool
  stage : Nat
  booted : Nat
  result : Tbl Nat
  recov : Option (List Byte × Nat)
  phaseAt : Tbl Nat
  pacerWaited : Bool
  meshWaited : Bool
  meshMet : Bool
  loadAt : Nat
  reloaded : Bool
  restartAt : Nat
  storeTries : Nat
  loaded : Bool
  pacWait : Nat
  meshWait : Nat
  buf : Nat
  bufAt : Nat
  heldTl : List Instr
  heldBytes : Nat
  heldRecs : List Instr
  heldMsgs : Nat
  heldDrop : Bool
deriving DecidableEq, Repr

/-- No report was ever asked. -/
def noBytes : Nat → List Byte := fun _ => []

/-- Security, boot and update of a blank device in Manufacturing, in start phase 0 (log entry 4). -/
def UpdSt.blank : UpdSt :=
  { lc := 0, lcNo := 0, rollback := 0, revoked := 0, rootBlown := false, keys := [], identity := [], slots := [], banks := [],
    active := 0, trialStarts := 0, fallbacks := 0, attests := [], reports := [], ust := 0, trial := false,
    trialAt := 0, trialTime := 0, trialHost := false, confirmAt := 0, healthAt := 0, fallBack := 0, act := none,
    paused := false, handing := false, stage := 0, booted := 0, result := [], recov := none, phaseAt := [(0, 1)],
    pacerWaited := false, meshWaited := false, meshMet := false, loadAt := 0, reloaded := false, restartAt := 0, storeTries := 0, loaded := false,
    pacWait := 30, meshWait := 10, buf := 0, bufAt := 0, heldTl := [], heldBytes := 0, heldRecs := [], heldMsgs := 0, heldDrop := false }

end Sys2Proof.Machine
end

