-- ==== Sys2Proof/Machine/State.lean ====
section
/-! DEFINITION. The state of the QN9612 as a block: everything the spec gives it, as plain data, and the queue of commands
waiting. `State.reset` is the device with RESET_N just released from a power-on, start phase 0. -/

namespace Sys2Proof.Machine

/-- The whole state. -/
structure State where
  objs : Tbl Val
  chg : Tbl Nat
  regs : Tbl Nat
  mem : List Host.Cell
  out : List Emission
  free : Nat
  fuses : Fuses
  tm : TimeSt
  dict : DictSt
  hif : HifSt
  flt : FltSt
  evr : RecSt
  ess : EssSt
  aud : AudSt
  str : StrSt
  pac : PacSt
  eth : EthSt
  fab : FabSt
  comp : CompSt
  twin : TwinSt
  pwr : PwrSt
  upd : UpdSt
  pending : List Instr
deriving DecidableEq, Repr

/-- The fault reasons. No command of this hardware stops the machine: an access the spec does not allow is answered or
recorded as the spec says (R10, R387), so nothing raises a fault; the type has no constructor. -/
inductive Fault where
deriving DecidableEq

/-- The refusal reasons. -/
inductive Refusal where
  /-- The command has no meaning yet: raised by `exec` alone, by name. Safe: the model stops where the hardware goes on. -/
  | notModelled (mnemonic : String)
deriving DecidableEq, Repr

/-- The essence path right after reset. -/
def EssSt.idle : EssSt :=
  { sdi := [], members := [], slots := [], chans := [], present := [],
    store := { ce := [], mapped := [], retired := 0, spentSpares := [], badSpares := [], lostPages := 0, copies := [], poisoned := [], poisonAt := [],
               lostSlots := [], slotPages := [], slotDue := [], outPages := [], otherPages := 0, scrubStart := 0 },
    outs := [], takes := { batches := [], order := 0, turn := 0, drop := [], jseq := 0, jsince := 0 }, once := [], acc := [],
    lag := 0, offset := 3000 }

/-- The Stride engines right after reset. -/
def StrSt.idle : StrSt :=
  { act := StrSet.empty, next := none, runs := [], ex := [], dests := [], meters := [], gens := [], fast := none, dropped := 0,
    metered := 0, checkAt := [], ahead := [] }

/-- The event recorder right after reset: empty, REC_STATE 0. -/
def RecSt.idle : RecSt :=
  { ring := [], unflushed := 0, ringOnly := 0, flash := [], flashPos := 0, seq := 0, buckets := [], lostRate := [], lostBacklog := [],
    dropped := 0, state := 0, retryAt := none, eraseSuspended := false, cycles := 0, opBase := 0, opSaved := 0, challenge := [],
    challengeAt := 0 }

/-- The fuses of the device at reset: QN9612-A, serial and base MAC zeros (log entry 4). -/
def Fuses.blank : Fuses := { variant := .a, serial := List.replicate 16 0, baseMac := 0 }

/-- The device with RESET_N low after a power-up, START_PHASE 0: every object, register and memory byte at its reset value,
Pacer time 0 with the nominal increment of 1.25 ns (R328, R486), no command waiting. -/
def State.reset : State :=
  { objs := [], chg := [], regs := [], mem := [], out := [], free := 1, fuses := Fuses.blank,
    tm := { ticks := 0, pt := 0, inc := 5 * 2 ^ 62 },
    dict := { staged := [], owners := [], domBuf := [], sessions := [], attempts := [], nextId := 1, addrs := [], subs := [],
              discards := 0, waits := [], blocked := [], mbxWait := [] },
    hif := { msixEnabled := false, funcMask := false, pba := [], lastMsg := [], d3hot := false, speed := 0, width := 0,
             dma := [], tlb := [], inv := none, invQueue := [], rings := [] },
    flt := { src := [], safe := false, selfFault := false, sigTick := [], coalesced := [] },
    evr := RecSt.idle, ess := EssSt.idle,
    aud := { aes := [], tdm := [], dests := [], noAsrc := [], asrcLine := [] }, str := StrSt.idle, pac := PacSt.idle,
    eth := { ports := [], mgmt := [], rx := [], tx := [] }, fab := { lanes := [], links := [] },
    comp := { heads := [], layers := [], place := [], convOn := [], convAt := [], convGone := [], convShed := [], convBank := [] }, twin := TwinSt.idle,
    pwr := PwrSt.idle, upd := UpdSt.blank, pending := [] }

end Sys2Proof.Machine
end

