-- ==== Sys2Proof/Machine/Ops.lean ====
section
/-! DEFINITION. The named operations over State that every family shares: time, dictionary objects, Window A words and
memory, emissions, events with their counters and MSI-X signals, and the event recorder. -/

namespace Sys2Proof.Machine

/-- What every meaning answers with. -/
abbrev Res := Host.Outcome State Fault Refusal

/-! ### Time (R15, R326) -/

/-- Ticks in one microsecond, millisecond and second (800 MHz). -/
def tickUs : Nat := 800
/-- Ticks in a millisecond. -/
def tickMs : Nat := 800000
/-- Ticks in a second. -/
def tickS : Nat := 800000000

/-- Units of 2^-64 ns in one nanosecond. -/
def ptNs : Nat := 2 ^ 64

/-- Time moves on to tick `t`; it never moves back. -/
def State.toTick (s : State) (t : Nat) : State :=
  if t ≤ s.tm.ticks then s
  else { s with tm := { s.tm with ticks := t, pt := s.tm.pt + (t - s.tm.ticks) * s.tm.inc } }

/-- The tick now. -/
def State.now (s : State) : Nat := s.tm.ticks

/-- Pacer time as PT96: 64.32 nanoseconds (R15). -/
def State.pt96 (s : State) : Nat := s.tm.pt / 2 ^ 32 % 2 ^ 96

/-! ### Dictionary objects -/

/-- The running value of an object key. -/
def State.obj (s : State) (k : Nat) : Val := tget (objDefault s.fuses) s.objs k

/-- The running value of an object key, as a natural number. -/
def State.num (s : State) (k : Nat) : Nat := (s.obj k).toNat

/-- The running value of an object key, as an integer. -/
def State.int (s : State) (k : Nat) : Int := (s.obj k).toInt

/-- The running value of a BOOL object. -/
def State.flag (s : State) (k : Nat) : Bool := s.num k != 0

/-- The running bytes of an object key. -/
def State.bytes (s : State) (k : Nat) : List Byte := (s.obj k).bytes

/-- No change was ever stamped. -/
def chgNone : Nat → Nat := fun _ => 0

/-- Writes an object's running value and stamps the Pacer time of the change (R67). -/
def State.setObj (s : State) (k : Nat) (v : Val) : State :=
  { s with objs := tset (objDefault s.fuses) s.objs k v,
           chg := if s.obj k = v then s.chg else tset chgNone s.chg k s.pt96 }

/-- Writes a number. -/
def State.setNum (s : State) (k : Nat) (n : Nat) : State := s.setObj k (.num n)

/-- Writes a signed number. -/
def State.setInt (s : State) (k : Nat) (n : Int) : State := s.setObj k (.num n)

/-- Writes a byte string. -/
def State.setBytes (s : State) (k : Nat) (b : List Byte) : State := s.setObj k (.oct b)

/-- Raises a 32-bit counter object, which wraps (R106). -/
def State.bump (s : State) (k : Nat) (n : Nat := 1) : State := s.setNum k ((s.num k + n) % 2 ^ 32)

/-- Raises a 64-bit counter object. -/
def State.bump64 (s : State) (k : Nat) (n : Nat := 1) : State := s.setNum k ((s.num k + n) % 2 ^ 64)

/-! ### Window A words and memory (R10, R11) -/

/-- Reset values of stored Window A words (Tables 7-7, 13-4, 13-8 and the MSI-X table); every other word resets to 0. -/
def regDefault (off : Nat) : Nat :=
  if off = 0x180004 then 1
  else if 0x020000 ≤ off ∧ off < 0x022000 ∧ off % 0x40 = 8 then 2 * 2 ^ 28 + 4 * 2 ^ 21
  else if 0x022000 ≤ off ∧ off < 0x023800 ∧ off % 0x20 = 8 then 4 * 2 ^ 21
  else if 0x040000 ≤ off ∧ off < 0x048000 ∧ off % 16 = 12 then 1
  else 0

/-- A stored Window A word. -/
def State.reg (s : State) (off : Nat) : Nat := tget regDefault s.regs off

/-- Stores a Window A word. -/
def State.setReg (s : State) (off v : Nat) : State := { s with regs := tset regDefault s.regs off (v % 2 ^ 32) }

/-- Sets a bit of a stored word: hardware sets a W1C bit (R11). -/
def State.setBit (s : State) (off b : Nat) : State := s.setReg off (setFld (s.reg off) b b 1)

/-- Raises a read-clear field, which saturates (R11). -/
def State.rcAdd (s : State) (off hi lo : Nat) (n : Nat := 1) : State :=
  s.setReg off (setFld (s.reg off) hi lo (satAdd (hi + 1 - lo) (fld (s.reg off) hi lo) n))

/-- An unlisted byte of Window A memory reads as 0 (log entry 2). -/
def memZero : Nat → Byte := fun _ => 0

/-- One byte of Window A memory. -/
def State.byte (s : State) (a : Nat) : Byte := tget memZero s.mem a

/-- Stores one byte of Window A memory. -/
def State.setByte (s : State) (a : Nat) (b : Byte) : State := { s with mem := tset memZero s.mem a b }

/-- Stores bytes from an address on. -/
def State.setBytesAt (s : State) (a : Nat) : List Byte → State
  | [] => s
  | b :: bs => (s.setByte a b).setBytesAt (a + 1) bs

/-- Bytes from an address on. -/
def State.bytesAt (s : State) (a n : Nat) : List Byte := (List.range n).map (fun i => s.byte (a + i))

/-- The canonical form of Window A memory. -/
abbrev Memory.wf (m : List Host.Cell) : Bool := twf memZero m

/-! ### Emissions and free values -/

/-- Sends one emission. -/
def State.emit (s : State) (e : Emission) : State := { s with out := s.out ++ [e] }

/-- Takes a fresh free number (a value the spec leaves open). -/
def State.freeNat (s : State) : Nat × State := (Config.freeNat s.free, { s with free := s.free + 1 })

/-- Takes fresh free bytes. -/
def State.freeBytes (s : State) (n : Nat) : List Byte × State :=
  (Config.freeBytes s.free n, { s with free := s.free + 1 })

/-! ### MSI-X (R390, R391) -/

/-- No vector has sent a message. -/
def zeroNat : Nat → Nat := fun _ => 0
/-- No pending bit is set. -/
def allFalse : Nat → Bool := fun _ => false

/-- Whether a vector may send: MSI-X enabled, function and vector not masked. -/
def State.vecOpen (s : State) (v : Nat) : Bool :=
  s.hif.msixEnabled && !s.hif.funcMask && !bitOf (s.reg (0x040000 + 16 * v + 12)) 0

/-- Whether INTERVAL has passed since the vector's previous message. -/
def State.vecDue (s : State) (v : Nat) : Bool :=
  let last := tget zeroNat s.hif.lastMsg v
  last == 0 || decide (last - 1 + fld (s.reg (0x049000 + 4 * v)) 15 0 * tickUs ≤ s.now)

/-- Sends the vector's message and clears its pending bit. -/
def State.sendVec (s : State) (v : Nat) : State :=
  { s with out := s.out ++ [.msix v],
           hif := { s.hif with lastMsg := tset zeroNat s.hif.lastMsg v (s.now + 1),
                               pba := tset allFalse s.hif.pba v false } }

/-- A source signals vector `v`: one message now, or the pending bit (R391). -/
def State.signal (s : State) (v : Nat) : State :=
  if s.vecOpen v && s.vecDue v then s.sendVec v
  else { s with hif := { s.hif with pba := tset allFalse s.hif.pba v true } }

/-! ### The event recorder (R422–R425) -/

/-- Bytes of a record: 16 of header and the payload in whole words (R422). -/
def EvRec.size (r : EvRec) : Nat := 16 + (pad4 r.payload).length

/-- The record's bytes in network order (Table 14-4). -/
def EvRec.wire (r : EvRec) : List Byte :=
  beBytes 2 r.code ++ [BitVec.ofNat 8 ((pad4 r.payload).length / 4), BitVec.ofNat 8 (r.sev * 16 + r.plane)] ++
  beBytes 4 r.cycles ++ beBytes 5 r.opTime ++ beBytes 3 r.seq ++ pad4 r.payload

/-- Total size of records. -/
def recBytes (l : List EvRec) : Nat := (l.map EvRec.size).foldl (· + ·) 0

/-- The newest records that fit in 256 KiB (R423). -/
def ringTrim (l : List EvRec) : List EvRec :=
  match l with
  | [] => []
  | r :: rs => if recBytes (r :: rs) > 262144 then ringTrim rs else r :: rs

/-- The unflushed backlog: the newest ring records not yet in flash, before those of a flash fault that stay in the ring only (R423). -/
def RecSt.waiting (e : RecSt) : List EvRec :=
  let old := e.ring.take (e.ring.length - e.ringOnly)
  old.drop (old.length - e.unflushed)

/-- Bytes of the unflushed backlog, REC_BACKLOG (R423). -/
def RecSt.backlog (e : RecSt) : Nat := recBytes e.waiting

/-- OPERATING_TIME: seconds powered since manufacture (R422). -/
def State.opTime (s : State) : Nat := s.evr.opBase + s.now / tickS

/-- Events exempt from the rate limit (R425). -/
def recExempt (code sev : Nat) : Bool :=
  (code == 0xA001 && (sev == 2 || sev == 3)) || (0xA004 ≤ code && code ≤ 0xA009)

/-- The plane of an event code (Table 14-4). -/
def codePlane (code : Nat) : Nat :=
  let h := code / 256
  if h = 0x0A ∨ (0x20 ≤ h ∧ h ≤ 0x80) then 0 else if h ≤ 0x10 then 1 else 2

/-- The token bucket of a code, filled up to now at REC_RATE up to REC_BURST (R425). -/
def State.bucketNow (s : State) (code : Nat) : Nat :=
  let burst := s.num O.recRecBurst * tickS
  match tfind s.evr.buckets code with
  | none => burst
  | some b => min burst (b.level + s.num O.recRecRate * (s.now - b.last))

/-- Writes one record into the ring, under the rate limit and the backlog limit (R423, R425). A recorder that is flushing at
power fail, or has not started (R490), keeps nothing. -/
def State.record (s : State) (code : Nat) (payload : List Byte) (sev plane : Nat) : State :=
  if s.evr.state = 2 ∨ s.num O.startStartPhase < 3 then s
  else
    let lvl := s.bucketNow code
    if !recExempt code sev && decide (lvl < tickS) then
      { s with evr := { s.evr with
          dropped := s.evr.dropped + 1,
          buckets := tput s.evr.buckets code ⟨lvl, s.now⟩,
          lostRate := tput s.evr.lostRate code (tget zeroNat s.evr.lostRate code + 1) } }
    else
      let r : EvRec := ⟨code, payload, sev, plane, s.evr.cycles, s.opTime, s.evr.seq⟩
      if s.evr.state ≠ 3 ∧ s.evr.backlog + r.size > 4096 then
        { s with evr := { s.evr with
            dropped := s.evr.dropped + 1,
            lostBacklog := tput s.evr.lostBacklog code (tget zeroNat s.evr.lostBacklog code + 1) } }
      else
        { s with evr := { s.evr with
            ring := ringTrim (s.evr.ring ++ [r]),
            unflushed := if s.evr.state = 3 then s.evr.unflushed else s.evr.unflushed + 1,
            ringOnly := if s.evr.state = 3 then s.evr.ringOnly + 1 else s.evr.ringOnly,
            seq := (s.evr.seq + 1) % 2 ^ 24,
            buckets := if recExempt code sev then s.evr.buckets
                       else tput s.evr.buckets code ⟨lvl - tickS, s.now⟩ } }

/-! ### Events (R420, R421) -/

/-- The group of an event code: its number and the group's base low byte (Table 14-3). -/
def evtGroup (code : Nat) : Option (Nat × Nat) :=
  let h := code / 256
  let l := code % 256
  if h = 0xE0 then
    (if 1 ≤ l ∧ l ≤ 0x20 then some (17, 1) else if 0x81 ≤ l ∧ l ≤ 0xA0 then some (18, 0x81) else none)
  else if 1 ≤ l ∧ l ≤ 0x20 then
    match [0x00, 0x0A, 0x10, 0x20, 0x30, 0x34, 0x40, 0x50, 0x60, 0x70, 0x78, 0x80, 0x90, 0xA0, 0xB0, 0xC0, 0xD0].idxOf? h with
    | some g => some (g, 1)
    | none => if h = 0xF0 then some (19, 1) else none
  else none

/-- The event source of a code: n = 32 g + b (R420). -/
def evtSource (code : Nat) : Option Nat :=
  match evtGroup code with
  | some (g, base) => some (32 * g + (code % 256 - base))
  | none => none

/-- EVT_PENDING_g. -/
def rEvtPending (g : Nat) : Nat := 0x050000 + 0x10 * g
/-- EVT_ENABLE_g. -/
def rEvtEnable (g : Nat) : Nat := 0x050004 + 0x10 * g
/-- EVT_CTRL_g. -/
def rEvtCtrl (g : Nat) : Nat := 0x050008 + 0x10 * g
/-- EVT_COUNT_n. -/
def rEvtCount (n : Nat) : Nat := 0x060000 + 4 * n

/-- The active compatibility level (R69), and whether it is the running image's own. -/
def State.compatActive (s : State) : Nat := s.num O.compatCompatLevelActive
/-- Whether the device runs at the running image's own level, so that nothing is pinned away (R70). -/
def State.unpinned (s : State) : Bool := decide (s.num O.compatCompatLevelMax ≤ s.compatActive)

/-- Whether an event code may be signalled at the active level (R70). -/
def State.evtAllowed (s : State) (code : Nat) : Bool :=
  s.unpinned || decide (Config.eventIntroducedAt code ≤ s.compatActive)

/-- Sets the pending bit of event source n and signals its group's vector where IRQ_EN is set. -/
def State.evtSignal (s : State) (n : Nat) : State :=
  let g := n / 32
  let s1 := s.setBit (rEvtPending g) (n % 32)
  let s2 := { s1 with flt := { s1.flt with sigTick := tset zeroNat s1.flt.sigTick n (s1.now + 1),
                                           coalesced := tset allFalse s1.flt.coalesced n false } }
  if bitOf (s2.reg (rEvtCtrl g)) 31 then s2.signal (fld (s2.reg (rEvtCtrl g)) 26 16) else s2

/-- Whether MIN_INTERVAL of the group has passed since source n's last signal. -/
def State.evtDue (s : State) (n : Nat) : Bool :=
  let last := tget zeroNat s.flt.sigTick n
  last == 0 || decide (last - 1 + fld (s.reg (rEvtCtrl (n / 32))) 15 0 * tickMs ≤ s.now)

/-- Counts and signals an event (R421). -/
def State.evtCountSignal (s : State) (code : Nat) : State :=
  match evtSource code with
  | none => s
  | some n =>
    let s1 := s.rcAdd (rEvtCount n) 31 0
    if s1.evtAllowed code && bitOf (s1.reg (rEvtEnable (n / 32))) (n % 32) then
      (if s1.evtDue n then s1.evtSignal n
       else { s1 with flt := { s1.flt with coalesced := tset allFalse s1.flt.coalesced n true } })
    else s1

/-- Raises an event: counted, set pending, signalled and recorded (R421, R422). The payload is already in wire form. -/
def State.raise (s : State) (code : Nat) (payload : List Byte) : State :=
  (s.evtCountSignal code).record code payload 15 (codePlane code)

/-- Payload fields: 8, 16, 32 bits and PT96 in wire form. -/
def p8 (v : Nat) : List Byte := beBytes 1 v
/-- A 16-bit payload field. -/
def p16 (v : Nat) : List Byte := beBytes 2 v
/-- A 32-bit payload field. -/
def p32 (v : Nat) : List Byte := beBytes 4 v
/-- A 64-bit payload field. -/
def p64 (v : Nat) : List Byte := beBytes 8 v
/-- A PT96 payload field. -/
def p96 (v : Nat) : List Byte := beBytes 12 v

end Sys2Proof.Machine
end

