-- ==== Sys2Proof/Machine/Operands.lean ====
section
/-! DEFINITION. Operand forms that commands share: format codes (R25, Table 1-7), house-grid arithmetic, stream identifiers
(R18), slots and kinds (R20–R24), and essence rates (R28). -/

namespace Sys2Proof.Machine

/-! ### Format codes (R25) -/

/-- Frame rate of a low byte as a fraction of frames per second. -/
def rateFrac (lo : Nat) : Nat × Nat :=
  match lo with
  | 1 => (24000, 1001) | 2 => (24, 1) | 3 => (25, 1) | 4 => (30000, 1001) | 5 => (30, 1)
  | 6 => (50, 1) | 7 => (60000, 1001) | 8 => (60, 1) | _ => (0, 1)

/-- Whether a format code is one of Table 1-7. -/
def fmtValid (f : Nat) : Bool :=
  let lo := f % 256
  match f / 256 with
  | 1 => lo == 4 | 2 => lo == 3 | 3 => lo == 6 || lo == 7 || lo == 8 | 4 => lo == 3 || lo == 4 || lo == 5
  | 5 => decide (1 ≤ lo ∧ lo ≤ 5) | 6 => decide (1 ≤ lo ∧ lo ≤ 8) | 7 => decide (1 ≤ lo ∧ lo ≤ 8) | _ => false

/-- Total lines of a raster. -/
def fmtLines (f : Nat) : Nat :=
  match f / 256 with
  | 1 => 525 | 2 => 625 | 3 => 750 | 4 => 1125 | 5 => 1125 | 6 => 1125 | 7 => 2250 | _ => 1

/-- Whether line n is an active line. -/
def fmtActive (f n : Nat) : Bool :=
  match f / 256 with
  | 1 => decide ((21 ≤ n ∧ n ≤ 263) ∨ (283 ≤ n ∧ n ≤ 525))
  | 2 => decide ((23 ≤ n ∧ n ≤ 310) ∨ (336 ≤ n ∧ n ≤ 623))
  | 3 => decide (26 ≤ n ∧ n ≤ 745)
  | 4 => decide ((21 ≤ n ∧ n ≤ 560) ∨ (584 ≤ n ∧ n ≤ 1123))
  | 5 => decide ((21 ≤ n ∧ n ≤ 560) ∨ (584 ≤ n ∧ n ≤ 1123))
  | 6 => decide (42 ≤ n ∧ n ≤ 1121)
  | 7 => decide (42 ≤ n ∧ n ≤ 2201)
  | _ => false

/-- First active lines of the fields (the one field of a progressive format). -/
def fmtFirstActive (f : Nat) : List Nat :=
  match f / 256 with
  | 1 => [21, 283] | 2 => [23, 336] | 3 => [26] | 4 => [21, 584] | 5 => [21, 584] | 6 => [42] | 7 => [42] | _ => []

/-- Active lines per frame. -/
def fmtActiveLines (f : Nat) : Nat :=
  match f / 256 with
  | 1 => 486 | 2 => 576 | 3 => 720 | 4 => 1080 | 5 => 1080 | 6 => 1080 | 7 => 2160 | _ => 0

/-- Active width. -/
def fmtWidth (f : Nat) : Nat :=
  match f / 256 with
  | 1 => 720 | 2 => 720 | 3 => 1280 | 4 => 1920 | 5 => 1920 | 6 => 1920 | 7 => 3840 | _ => 0

/-- Whether the format has two fields (interlaced or segmented frame). -/
def fmtTwoFields (f : Nat) : Bool := f / 256 == 1 || f / 256 == 2 || f / 256 == 4 || f / 256 == 5

/-- Bytes of an active line, 20 bits a pixel (Table 5-3, R199). -/
def fmtLineBytes (f : Nat) : Nat := fmtWidth f * 20 / 8

/-- Store pages per frame, P_f (Table 5-3). -/
def fmtPf (f : Nat) : Nat := match f / 256 with | 1 => 1 | 2 => 1 | 3 => 2 | 4 => 3 | 5 => 3 | 6 => 3 | 7 => 10 | _ => 0
/-- Line-window pages, P_l (Table 5-3). -/
def fmtPl (f : Nat) : Nat := match f / 256 with | 7 => 2 | 0 => 0 | _ => 1

/-- Default switching line (Table 1-7). -/
def fmtSwitchDefault (f : Nat) : Nat := match f / 256 with | 1 => 10 | 2 => 6 | _ => 7
/-- Last line of the override range (Table 1-7); the range begins at 1. -/
def fmtSwitchMax (f : Nat) : Nat :=
  match f / 256 with | 1 => 20 | 2 => 22 | 3 => 25 | 4 => 20 | 5 => 20 | 6 => 41 | 7 => 41 | _ => 0

/-- SDI rate code of a raster's single-link carriage (Tables 1-7, 3-1). -/
def fmtSdiRate (f : Nat) : Nat :=
  let lo := f % 256
  let frac := if lo = 1 ∨ lo = 4 ∨ lo = 7 then 1 else 0
  match f / 256 with
  | 1 => 1 | 2 => 1
  | 3 => 2 + frac | 4 => 2 + frac | 5 => 2 + frac
  | 6 => if lo ≥ 6 then 4 + frac else 2 + frac
  | 7 => if lo ≥ 6 then 8 + frac else 6 + frac
  | _ => 0

/-! ### House grid (R147, R213): times in units of 2^-64 ns of Pacer time -/

/-- The largest house-grid frame number started at Pacer time `pt` for a rate. -/
def gridFrame (lo pt : Nat) : Nat :=
  let (num, den) := rateFrac lo
  pt * num / (den * 1000000000 * ptNs)

/-- Start of house-grid frame k of a rate. -/
def gridStart (lo k : Nat) : Nat :=
  let (num, den) := rateFrac lo
  if num = 0 then 0 else ceilDiv (k * den * 1000000000 * ptNs) num

/-- `a / b` lines of a raster, as a duration. -/
def linesPt (f a b : Nat) : Nat :=
  let (num, den) := rateFrac (f % 256)
  if num = 0 ∨ b = 0 then 0 else a * den * 1000000000 * ptNs / (num * fmtLines f * b)

/-- One frame period of a raster. -/
def framePt (f : Nat) : Nat := linesPt f (fmtLines f) 1

/-- A duration as lines of a raster in Q16.16 (R519). -/
def ptToQ16Lines (f : Nat) (d : Int) : Int :=
  let (num, den) := rateFrac (f % 256)
  if den = 0 then 0 else toQ16 (d * (num * fmtLines f : Nat)) (den * 1000000000 * ptNs)

/-- Ticks that a duration of Pacer time lasts at the present increment, rounded up. -/
def State.ptToTicks (s : State) (d : Nat) : Nat := ceilDiv d (max 1 s.tm.inc)

/-! ### Stream identifiers (R18, Table 1-2) -/

/-- DEVICE of a SID. -/
def sidDev (x : Nat) : Nat := fld x 31 28
/-- SLOT of a SID. -/
def sidSlot (x : Nat) : Nat := fld x 27 20
/-- CLASS of a SID. -/
def sidClass (x : Nat) : Nat := fld x 19 16
/-- SUB of a SID. -/
def sidSub (x : Nat) : Nat := fld x 15 0
/-- The SID of a device's stream. -/
def mkSid (dev slot cls sub : Nat) : Nat := dev * 2 ^ 28 + slot * 2 ^ 20 + cls * 2 ^ 16 + sub

/-- Whether a SID names a stream at all (R18). -/
def sidOk (x : Nat) : Bool :=
  let d := sidDev x
  let c := sidClass x
  (decide (d ≤ 11) && decide (sidSlot x < 240) || d == 15 && decide (240 ≤ sidSlot x)) &&
  (c == 0 && decide (sidSub x ≤ 3) || c == 1 && decide (sidSub x ≤ 127) ||
   c == 2 && decide (sidSub x ≤ 3) || c == 3 && decide (sidSub x ≤ 1))

/-- DEVICE_INDEX of this device. -/
def State.devIndex (s : State) : Nat := s.num O.meshDeviceIndex
/-- MESH_SIZE. -/
def State.meshSize (s : State) : Nat := s.num O.meshMeshSize
/-- Whether a SID is published by this device. -/
def State.sidLocal (s : State) (x : Nat) : Bool := sidDev x == s.devIndex
/-- Whether a SID names a generator. -/
def sidGen (x : Nat) : Bool := sidDev x == 15

/-! ### Lanes, slots and outputs (R20–R24) -/

/-- Whether the variant enables port lane p (R3, Table 0-3). -/
def State.laneOn (s : State) (p : Nat) : Bool := decide (p < variantLanes s.fuses.variant)

/-- LANE_MODE of lane p. -/
def State.laneMode (s : State) (p : Nat) : Nat := s.num (O.sdiLaneMode p)

/-- The slice state of lane p, LANE_POWER_STATE: a lane whose LANE_MODE is 0 is Parked (R438). -/
def State.lanePower (s : State) (p : Nat) : Nat := if s.laneMode p = 0 then 2 else s.num (O.jogLanePowerState p)

/-- Whether the start has come to phase 4 and not failed (Table 17-1). -/
def State.started (s : State) : Bool := s.num O.startStartPhase == 4 || s.num O.startStartPhase == 5

/-- Whether lane p operates as its mode defines: Active, by itself or by Jog wake, from phase 4 on (R491). -/
def State.laneActive (s : State) (p : Nat) : Bool := s.started && (s.lanePower p == 0 || s.lanePower p == 3)

/-- Whether lane p belongs to a quad-link group in force (R21, R86): its group's lane 4k has QUAD_RX. -/
def State.quadRx (s : State) (p : Nat) : Bool :=
  s.flag (O.sdiQuadRx (p / 4 * 4)) && s.laneMode p == 1

/-- Whether the quad-link group of lane p is associated (QUAD_STATE 2). -/
def State.quadAssoc (s : State) (p : Nat) : Bool := s.quadRx p && s.num (O.sdiQuadState (p / 4 * 4)) == 2

/-- SLOT_KIND of slot s (R20, R21): 0 absent, 1 physical SDI, 2 flow, 3 published, 4 generator. -/
def State.slotKind (s : State) (n : Nat) : Nat :=
  if n < 96 then
    (if !s.laneOn n then 0
     else if s.laneMode n == 2 then 2
     else if n % 4 != 0 && s.quadAssoc n then 0
     else 1)
  else if n < 216 then 2
  else if n < 240 then 3
  else 4

/-- ORIGIN of a slot: the lane of a physical slot in SDI mode or off, otherwise what was committed (R21). -/
def State.slotOrigin (s : State) (n : Nat) : Nat :=
  if n < 96 ∧ s.laneMode n ≠ 2 then n else s.num (O.slotOrigin n)

/-- Whether a slot is enabled; generator slots always are (R22). -/
def State.slotEnabled (s : State) (n : Nat) : Bool := if n ≥ 240 then true else s.flag (O.slotSlotEnable n)

/-- ALIGN_MODE of a slot, fixed for published slots (R234, Table 5-4). -/
def State.slotAlignMode (s : State) (n : Nat) : Nat :=
  if 216 ≤ n ∧ n < 240 then (let o := s.slotOrigin n; if 96 ≤ o ∧ o ≤ 127 then 1 else 0)
  else s.num (O.slotAlignMode n)

/-- Whether output 4k drives a quad-link group as committed (R99): TX_MAPPING of lane 4k is 2 or 3. -/
def State.quadTx (s : State) (p : Nat) : Bool :=
  let m := s.num (O.sdiTxMapping (p / 4 * 4))
  (m == 2 || m == 3) && s.laneMode (p / 4 * 4) == 1

/-- OUTPUT_KIND of output o (R24, R99): 0 absent, 1 bound, 2 internal. -/
def State.outputKind (s : State) (o : Nat) : Nat :=
  if o < 96 then
    (if !s.laneOn o then 0 else if o % 4 != 0 && s.quadTx o then 0 else 1)
  else (if s.fuses.variant = .t then 0 else 2)

/-- RASTER of an output. -/
def State.outRaster (s : State) (o : Nat) : Nat := s.num (O.outRaster o)

/-- Essence rate in Mb/s, rounded up, for a raster (R28). -/
def essenceRate (raster chans rate anc : Nat) : Nat :=
  let (num, den) := rateFrac (raster % 256)
  let v := fmtWidth raster * fmtActiveLines raster * 20 * num
  let den' := max 1 den
  ceilDiv (v + (chans * rate * 1000 * 24 + anc * 32000000 + 1000000) * den') (1000000 * den')

/-- ESSENCE_RATE of a slot with its RASTER as it stands (R28); 0 for generators. -/
def State.slotRate (s : State) (n : Nat) (raster : Nat) : Nat :=
  if n ≥ 240 then 0
  else essenceRate raster (s.num (O.slotAudioChannels n)) (s.num (O.slotAudioRate n)) (s.num (O.slotAncStreams n))

/-! ### Window A (R386, R432, R487) -/

/-- Whether Window A answers at an offset: in D3hot nowhere; before phase 4 and in phase 6 at DEVICE_ID, START_STATUS and the boot
registers; in Bench in the ranges of R432. -/
def State.winOpen (s : State) (off : Nat) : Bool :=
  if s.hif.d3hot then false
  else if s.num O.startStartPhase < 4 ∨ s.num O.startStartPhase = 6 then off == 0 || (decide (0x100 ≤ off) && decide (off < 0x118))
  else if s.num O.pwrChipState = 2 then
    decide (off < 0x1000) || (decide (0x040000 ≤ off) && decide (off < 0x100000)) || (decide (0x417000 ≤ off) && decide (off < 0x417018))
  else true

end Sys2Proof.Machine
end

