-- ==== Sys2Proof/Machine/FabWire.lean ====
section
/-! DEFINITION. The Relay fabric's lanes and links, the allocation of lanes (R175–R178), and how cells leave: the byte stream of a link, its
blocks striped over the lanes of TX_MAP, each lane's scrambler and codewords (R183, R184, R189, R195). -/

namespace Sys2Proof.Machine

/-! ### Lanes and links -/

/-- Fabric lane f. -/
def State.fl (s : State) (f : Nat) : FabLane := tget fabIdle s.fab.lanes f
/-- Stores fabric lane f. -/
def State.setFl (s : State) (f : Nat) (l : FabLane) : State :=
  { s with fab := { s.fab with lanes := tset fabIdle s.fab.lanes f l } }
/-- The link to device j. -/
def State.link (s : State) (j : Nat) : FabLink := tget linkDown s.fab.links j
/-- Stores the link to device j. -/
def State.setLink (s : State) (j : Nat) (l : FabLink) : State :=
  { s with fab := { s.fab with links := tset linkDown s.fab.links j l } }

/-! ### Allocation (R175–R178, Tables 6-1 and 6-2) -/

/-- Lanes of the link at peer slot k of a mesh of n devices. -/
def linkLanes (v : Variant) (n k : Nat) : Nat :=
  if n < 2 ∨ k = 0 ∨ n ≤ k then 0
  else match v with
    | .t => 0
    | .m => if n ≤ 3 then 24 else if n = 4 then 21 else if n = 5 then 16 else 12
    | .a => if n ≤ 6 then 24 else if n = 7 then 21 else if n = 8 then 18 else if n = 9 then 16 else if n = 10 then 14
            else if n = 11 then 12 else if k = 4 ∨ k = 5 ∨ k = 7 ∨ k = 8 then 11 else 12

/-- First fabric lane of peer slot k. -/
def linkBase (v : Variant) (n k : Nat) : Nat := ((List.range (k - 1)).map (fun i => linkLanes v n (i + 1))).foldl (· + ·) 0

/-- The peer slot of device j, 0 for this device and for devices outside the mesh. -/
def State.peerSlot (s : State) (j : Nat) : Nat :=
  let n := s.meshSize
  if n ≤ j ∨ n < 2 then 0 else (j + n - s.devIndex) % n

/-- Lanes of the link to device j. -/
def State.lanesTo (s : State) (j : Nat) : Nat := linkLanes s.fuses.variant s.meshSize (s.peerSlot j)
/-- First fabric lane of the link to device j. -/
def State.baseTo (s : State) (j : Nat) : Nat := linkBase s.fuses.variant s.meshSize (s.peerSlot j)
/-- The fabric lane of link lane m of the link to device j. -/
def State.laneTo (s : State) (j m : Nat) : Nat := s.baseTo j + m
/-- Peers of the mesh. -/
def State.peers (s : State) : List Nat := (List.range 12).filter (fun j => s.lanesTo j != 0)

/-- The peer and link lane of fabric lane f. -/
def State.laneLink (s : State) (f : Nat) : Option (Nat × Nat) :=
  (s.peers.find? (fun j => decide (s.baseTo j ≤ f) && decide (f < s.baseTo j + s.lanesTo j))).map (fun j => (j, f - s.baseTo j))

/-- Whether fabric lane f may be used: in a link and enabled. -/
def State.laneUsable (s : State) (f : Nat) : Bool := (s.laneLink f).isSome && s.flag (O.flLaneEnable f)

/-! ### Blocks and the byte stream (R183, R184, R189) -/

/-- A data block leaves on lane f, its payload scrambled: FIRST_CELL and payload. -/
def State.sendBlock (s : State) (f first : Nat) (payload : List Byte) : State :=
  let l := s.fl f
  let p := scramble l.scr payload
  (s.setFl f { l with scr := p.1 }).emit (.relayBlock f (blockSymbols (blockHead 0 first ++ p.2)))

/-- The number of data blocks of one lane between two markers. -/
def laneBlocks : Nat := 8191

/-- `n` blocks leave on lane f, each with one fill cell, their SEQ from `seq` in steps. -/
def State.sendFill (s : State) (f n seq step : Nat) : State :=
  let l := s.fl f
  if n = 0 then s else (s.setFl f { l with scr := fillRun n seq step l.scr }).emit (.relayFill f n (seq % 256) step l.scr)

/-- Fill blocks leave up to data block `b1` of the interval, each lane of TX_MAP its blocks of them. -/
def State.fillTo (s : State) (j b1 : Nat) : State :=
  let l := s.link j
  let a := l.txMap.length
  if b1 ≤ l.blockNo ∨ a = 0 then s
  else
    let s1 := (List.range a).foldl (fun (x : State) i =>
      let d := (i + a - l.blockNo % a) % a
      x.sendFill (x.laneTo j (l.txMap.getD i 0)) ((b1 - l.blockNo - d + a - 1) / a) (l.ctlSeq + d) a) s
    s1.setLink j { s1.link j with blockNo := b1, ctlSeq := (l.ctlSeq + (b1 - l.blockNo)) % 256 }

/-- Bytes with cell headers at the places `heads` of them join the byte stream to device j: each block they complete travels on its lane of
TX_MAP (R189), the rest stays for the block after them. -/
def State.pushBytes (s : State) (j : Nat) (heads : List Nat) (b : List Byte) : State :=
  let l := s.link j
  let a := l.txMap.length
  let bytes := l.part ++ b
  let at_ := (if l.partHead = 0x1FFF then [] else [l.partHead]) ++ heads.map (fun h => h + l.part.length)
  let n := bytes.length / blockLen
  let s1 := (List.range n).foldl (fun (x : State) i =>
    x.sendBlock (x.laneTo j (l.txMap.getD ((l.blockNo + i) % a) 0)) (firstCell at_ i) ((bytes.drop (blockLen * i)).take blockLen)) s
  s1.setLink j { s1.link j with blockNo := l.blockNo + n, part := bytes.drop (blockLen * n), partHead := firstCell at_ n }

/-- A fill cell with `n` payload bytes counts in the channel of control and fill. -/
def State.nextFill (s : State) (j n : Nat) : List Byte × State :=
  let l := s.link j
  (fillCell l.ctlSeq n, s.setLink j { l with ctlSeq := (l.ctlSeq + 1) % 256 })

/-- Fill completes the block begun. -/
def State.fillPart (s : State) (j : Nat) : State :=
  let l := s.link j
  if l.part.isEmpty then s
  else
    let p := s.nextFill j (blockLen - 8 - l.part.length)
    p.2.pushBytes j [0] p.1

/-- Fill has run up to now: a block lasts 204.8 ns on every lane of the map. -/
def State.fillNow (s : State) (j : Nat) : State :=
  let l := s.link j
  let a := l.txMap.length
  let due := min (a * laneBlocks) (a * ((s.now - l.sentTick) * 100 / 16384))
  if due ≤ l.blockNo then s else (s.fillPart j).fillTo j due

/-- A cell joins the byte stream; a fill cell without payload stands before it where it would end so near the end of a block that no cell
could complete the block. -/
def State.pushCell (s : State) (j : Nat) (cell : List Byte) : State :=
  if blockLen - 8 < ((s.link j).part.length + cell.length) % blockLen then
    (let p := s.nextFill j 0
     p.2.pushBytes j [0, 8] (p.1 ++ cell))
  else s.pushBytes j [0] cell

/-- A cell enters the byte stream to device j (R195). A link with no map sends nothing; a cell that the blocks left before the next marker
cannot hold waits for it, so that every marker falls on a cell boundary (R190). -/
def State.toStream (s : State) (j : Nat) (cell : List Byte) : State :=
  let l := s.link j
  if l.txMap.isEmpty then s
  else if !l.wait.isEmpty || decide ((l.txMap.length * laneBlocks - l.blockNo) * blockLen < l.part.length + cell.length + 8) then
    s.setLink j { l with wait := l.wait ++ [cell] }
  else s.pushCell j cell

/-- The cells left for this interval enter the stream. -/
def State.flushWait (s : State) (j : Nat) : State :=
  let l := s.link j
  if l.wait.isEmpty then s else l.wait.foldl (fun (x : State) c => x.toStream j c) (s.setLink j { l with wait := [] })

/-- A control message to device j (Table 6-10): one control cell, whose UNIT is 0 and which is the last of its unit (log entry 169). -/
def State.ctlSend (s : State) (j msg reqId : Nat) (body : List Byte) : State :=
  let s1 := (s.emit (.relayCtl j msg reqId body)).fillNow j
  let l := s1.link j
  (s1.setLink j { l with ctlSeq := (l.ctlSeq + 1) % 256 }).toStream j
    (cellBytes 8 8 16383 0 l.ctlSeq (beBytes 1 msg ++ [0] ++ beBytes 2 reqId ++ body))

end Sys2Proof.Machine
end

