-- ==== Sys2Proof/Machine/Safe.lean ====
section
/-! DEFINITION. The fault collector as every block uses it (R409–R418): classification of a report, holding, the end of a
condition, and entry into the safe state. -/

namespace Sys2Proof.Machine

/-- The fault source record of source `n`. -/
def State.src (s : State) (n : Nat) : SrcSt := tget srcClear s.flt.src n

/-- Stores a fault source record. -/
def State.setSrc (s : State) (n : Nat) (v : SrcSt) : State :=
  { s with flt := { s.flt with src := tset srcClear s.flt.src n v } }

/-- The named fault sources of Table 14-2; every other source is unused and never reports (R409). -/
def srcNamed (n : Nat) : Bool :=
  [0, 32, 33, 34, 64, 65, 66, 67, 96, 97, 98, 128, 160, 161, 192, 224, 256, 257, 288, 320, 352, 353, 384, 416, 448,
   480].contains n

/-- BASE_SEVERITY, COUNT_LIMIT, COUNT_WINDOW, COUNT_SEVERITY objects of a source. -/
def kSrc (n sub : Nat) : Nat := objKey (0xA100 + n) sub

/-- The plane of a source's class (Table 14-4): classes 1 to 7 lie in the data areas. -/
def srcPlane (n : Nat) : Nat := if 1 ≤ n / 32 ∧ n / 32 ≤ 7 then 0 else 2

/-- Sources held (R412). -/
def State.heldList (s : State) : List (Nat × SrcSt) := s.flt.src.filter (fun p => p.2.state != 0)

/-- FAULT_N is driven low by a held source or the safe state (R415), and through the start until phase 4 and in phase 6
(Table 17-2). -/
def State.faultNLow (s : State) : Bool :=
  s.flt.safe || !s.heldList.isEmpty || decide (s.num O.startStartPhase < 4) || s.num O.startStartPhase == 6

/-- Whether class `c` holds an unacknowledged fault. -/
def State.classUnacked (s : State) (c : Nat) : Bool :=
  s.flt.src.any (fun p => p.1 / 32 == c && p.2.state == 1)

/-- Mirrors a source's STATE, SEVERITY, REPORTS and LAST_REPORT into its objects (Table 14-6). -/
def State.srcObjs (s : State) (n : Nat) : State :=
  let v := s.src n
  ((s.setNum (kSrc n 5) v.state).setNum (kSrc n 6) v.sev).setNum (kSrc n 8) v.reports

/-- Reports of a source inside the last COUNT_WINDOW seconds (R411). -/
def State.srcWindow (s : State) (n : Nat) : List Nat :=
  (s.src n).times.filter (fun t => decide (s.now < t + s.num (kSrc n 3) * tickS))

/-- WINDOW_COUNT. -/
def State.windowCount (s : State) (n : Nat) : Nat := (s.srcWindow n).length

end Sys2Proof.Machine
end

