-- ==== Sys2Proof/Machine/Essence.lean ====
section
/-! DEFINITION. The essence path's shared operations: once-per-second events, presence of streams (R17), slots, members and
channels of the Aligner, generator essence (Table 1-6), and samples as 24-bit words. -/

namespace Sys2Proof.Machine

/-! ### Events raised at most once per second -/

/-- The second of Pacer time. -/
def State.second (s : State) : Nat := s.tm.pt / (1000000000 * ptNs)

/-- Raises `code` for instance `i` at most once in a second of Pacer time. -/
def State.oncePerSecond (s : State) (code i : Nat) (payload : List Byte) : State :=
  let key := code * 2 ^ 16 + i
  if tget zeroNat s.ess.once key = s.second + 1 then s
  else ({ s with ess := { s.ess with once := tset zeroNat s.ess.once key (s.second + 1) } }).raise code payload

/-- An event whose payload ends with the count in a second is raised once that second is over (log entry 150). -/
def State.endSecond (s : State) (key : Nat) : State :=
  match tfind s.ess.acc key with
  | none => s
  | some a =>
    if a.1 = s.second then s
    else ({ s with ess := { s.ess with acc := tdel s.ess.acc key } }).raise (key / 2 ^ 16) (a.2.2 ++ beBytes (if key / 2 ^ 16 = 0x6009 ∨ key / 2 ^ 16 = 0x700B then 16 else 4) a.2.1)

/-- `n` occurrences of an event that is raised at most once per second with the count in that second; the count follows `prefix_`
in the payload. -/
def State.countSecond (s : State) (code i n : Nat) (prefix_ : List Byte) : State :=
  let key := code * 2 ^ 16 + i
  let s1 := s.endSecond key
  let old := ((tfind s1.ess.acc key).map (fun a => a.2.1)).getD 0
  { s1 with ess := { s1.ess with acc := tput s1.ess.acc key (s1.second, old + n, prefix_) } }

/-- A position at which an event occurs that is raised at most once per second: the event carries the positions of the second as a mask, bit p
of its last word position p (DESIGN CHOICE, log entry 195). -/
def State.markSecond (s : State) (code i pos : Nat) (prefix_ : List Byte) : State :=
  let key := code * 2 ^ 16 + i
  let s1 := s.endSecond key
  let old := ((tfind s1.ess.acc key).map (fun a => a.2.1)).getD 0
  { s1 with ess := { s1.ess with acc := tput s1.ess.acc key (s1.second, if bitOf old pos then old else old + 2 ^ pos, prefix_) } }

/-- Every counted event of a second that is over is raised. -/
def State.secondsEnd (s : State) : State := (s.ess.acc.map Prod.fst).foldl (fun (x : State) k => x.endSecond k) s

/-! ### Accessors -/

/-- SDI lane p. -/
def State.lane (s : State) (p : Nat) : SdiLane := tget sdiIdle s.ess.sdi p
/-- Stores SDI lane p. -/
def State.setLane (s : State) (p : Nat) (l : SdiLane) : State :=
  { s with ess := { s.ess with sdi := tset sdiIdle s.ess.sdi p l } }
/-- Aligner slot n. -/
def State.slot (s : State) (n : Nat) : SlotSt := tget slotIdle s.ess.slots n
/-- Stores Aligner slot n. -/
def State.setSlot (s : State) (n : Nat) (v : SlotSt) : State :=
  { s with ess := { s.ess with slots := tset slotIdle s.ess.slots n v } }
/-- Member of slot n with video SUB `sub`; the members of audio and ancillary flows stand at `fmember`. -/
def State.member (s : State) (n sub : Nat) : Member := tget memberNone s.ess.members (4 * n + sub)
/-- Stores a member. -/
def State.setMember (s : State) (n sub : Nat) (v : Member) : State :=
  { s with ess := { s.ess with members := tset memberNone s.ess.members (4 * n + sub) v } }
/-- The member that an audio or ancillary flow of a source is, by the local key of its first stream. -/
def State.fmember (s : State) (k : Nat) : Member := tget memberNone s.ess.members (4096 + k)
/-- Stores a flow's member. -/
def State.setFmember (s : State) (k : Nat) (v : Member) : State :=
  { s with ess := { s.ess with members := tset memberNone s.ess.members (4096 + k) v } }
/-- Output o. -/
def State.out_ (s : State) (o : Nat) : OutSt := tget outIdle s.ess.outs o
/-- Stores output o. -/
def State.setOut (s : State) (o : Nat) (v : OutSt) : State :=
  { s with ess := { s.ess with outs := tset outIdle s.ess.outs o v } }

/-- Whether the essence path runs: the start is complete (R493) and Bench entry has not stopped it (R434). -/
def State.essOn (s : State) : Bool := s.num O.startStartPhase == 5 && !s.pwr.stopped

/-! ### Streams (R17, Table 1-1) -/

/-- The local key of a stream: SLOT, CLASS, SUB. -/
def lkey (slot cls sub : Nat) : Nat := slot * 2 ^ 20 + cls * 2 ^ 16 + sub

/-- Whether a local stream is present. -/
def State.isPresent (s : State) (k : Nat) : Bool := tget allFalse s.ess.present k

/-- Whether slot n holds a quad-link source. -/
def State.slotQuad (s : State) (n : Nat) : Bool := decide (n < 96) && n % 4 == 0 && s.quadAssoc n

/-- The receive contexts of area 0x3000. -/
def State.rxFlow (s : State) (r : Nat) : List Byte := s.bytes (O.rxFlow r)
/-- Byte i of a byte string, 0 outside it. -/
def byteAt (b : List Byte) (i : Nat) : Nat := (b.getD i 0).toNat
/-- A 16-bit field of a byte string in network order. -/
def halfAt (b : List Byte) (i : Nat) : Nat := byteAt b i * 256 + byteAt b (i + 1)
/-- A 32-bit field of a byte string in network order. -/
def wordAt (b : List Byte) (i : Nat) : Nat := halfAt b i * 65536 + halfAt b (i + 2)
/-- VALID of a flow context. -/
def flowValid (b : List Byte) : Bool := bitOf (byteAt b 0) 7

/-- The receive contexts listed as objects that are valid and name slot n (R125). -/
def State.slotFlows (s : State) (n : Nat) : List (Nat × List Byte) :=
  s.objs.filterMap (fun p =>
    let ix := keyIx p.1
    if 0x3800 ≤ ix ∧ ix ≤ 0x383F ∧ 1 ≤ keySub p.1 ∧ flowValid p.2.bytes && byteAt p.2.bytes 40 == n then
      some ((ix - 0x3800) * 128 + (keySub p.1 - 1), p.2.bytes) else none)

/-- Whether slot n carries video: a physical SDI slot, a published slot, or a flow slot with a video flow. -/
def State.slotHasVideo (s : State) (n : Nat) : Bool :=
  let k := s.slotKind n
  if k = 2 then (s.slotFlows n).any (fun p => byteAt p.2 1 == 1 || byteAt p.2 1 == 5) else k == 1 || k == 3

/-- Video SUBs of slot n. -/
def State.slotSubs (s : State) (n : Nat) : List Nat := if s.slotQuad n then [0, 1, 2, 3] else [0]

/-- AUDIO_CHANNELS of a slot. -/
def State.slotChannels (s : State) (n : Nat) : Nat := s.num (O.slotAudioChannels n)
/-- AUDIO_RATE of a slot in Hz. -/
def State.slotFs (s : State) (n : Nat) : Nat := s.num (O.slotAudioRate n) * 1000
/-- RASTER of a slot. -/
def State.slotRaster (s : State) (n : Nat) : Nat := s.num (O.slotRaster n)
/-- The raster in which slot n releases lines: RASTER, but while the slot is held out of its group that of the lines released before
(R157). -/
def State.relRaster (s : State) (n : Nat) : Nat := if (s.slot n).contF ≠ 0 then (s.slot n).contF else s.slotRaster n
/-- ALIGN_LAG as this start took it (R148). -/
def State.lag (s : State) : Nat := s.ess.lag

/-- Tells each subscriber of a local stream its presence and format (STREAM_STATE, R198). -/
def State.tellStream (s : State) (k : Nat) (on : Bool) : State :=
  let fmt := s.slotRaster (k / 2 ^ 20)
  s.fab.links.foldl (fun s1 l =>
    l.2.pubs.foldl (fun s2 p =>
      let b := p.2.sid % 2 ^ 28
      if b ≤ k ∧ k < b + p.2.count then
        s2.ctlSend l.1 8 0 (beBytes 2 p.1 ++ beBytes 1 (b2n on) ++ beBytes 2 fmt) else s2) s1) s

/-- Marks a stream present or absent. Streams of a slot whose page was lost stay absent (R169). -/
def State.setPresent (s : State) (k : Nat) (on : Bool) : State :=
  if s.isPresent k = on || on && s.ess.store.lostSlots.contains (k / 2 ^ 20) then s
  else ({ s with ess := { s.ess with present := tset allFalse s.ess.present k on } }).tellStream k on

/-- Marks streams present or absent. -/
def State.setPresents (s : State) (ks : List Nat) (on : Bool) : State := ks.foldl (fun s1 k => s1.setPresent k on) s

/-- Keys of the streams that link `sub` of slot n carries: its video, its share of the audio, its ancillary stream and, on
link 1, the time code (Table 1-1, R90, R93). -/
def State.linkStreams (s : State) (n sub : Nat) : List Nat :=
  let ch := s.slotChannels n
  let anc := s.num (O.slotAncStreams n)
  let tc := if sub = 0 then [lkey n 3 0, lkey n 3 1] else []
  if s.slotQuad n then
    [lkey n 0 sub] ++ ((List.range 32).filter (fun c => decide (32 * sub + c < ch))).map (fun c => lkey n 1 (32 * sub + c)) ++
      (if sub < anc then [lkey n 2 sub] else []) ++ tc
  else [lkey n 0 0] ++ (List.range ch).map (fun c => lkey n 1 c) ++ (List.range anc).map (fun a => lkey n 2 a) ++ tc

/-- Every stream of slot n. -/
def State.slotStreams (s : State) (n : Nat) : List Nat := (s.slotSubs n).flatMap (fun sub => s.linkStreams n sub)

/-- Whether any stream of slot n is present. -/
def State.slotPresent (s : State) (n : Nat) : Bool := s.ess.present.any (fun p => p.1 / 2 ^ 20 == n)

/-- Receive context r. -/
def State.rx (s : State) (r : Nat) : RxCtx := tget rxIdle s.eth.rx r
/-- Stores receive context r. -/
def State.setRx (s : State) (r : Nat) (v : RxCtx) : State := { s with eth := { s.eth with rx := tset rxIdle s.eth.rx r v } }

/-- The partner of a receive context, when both name each other (R132). -/
def State.rxPartner (s : State) (r : Nat) : Option Nat :=
  let b := s.rxFlow r
  let q := halfAt b 46
  if flowValid b && q != 0xFFFF && decide (q < 8192) && flowValid (s.rxFlow q) && halfAt (s.rxFlow q) 46 == r && q != r then some q else none

/-- Path A of the flow of context r. -/
def State.rxLead (s : State) (r : Nat) : Nat := match s.rxPartner r with | some q => min r q | none => r

/-- Streams that the flow of a context carries: with ST 2022-6 every stream of its slot. -/
def State.ctxStreams (s : State) (b : List Byte) : List Nat :=
  let n := byteAt b 40
  match byteAt b 1 with
  | 1 => [lkey n 0 0]
  | 2 => (List.range (byteAt b 42)).map (fun i => lkey n 1 (byteAt b 41 + i))
  | 3 => (List.range (byteAt b 42)).map (fun i => lkey n 1 (byteAt b 41 + i))
  | 4 => [lkey n 2 (byteAt b 41), lkey n 3 0, lkey n 3 1]
  | _ => s.slotStreams n

/-- The published slot that names a head or internal output, if any (Table 1-5). -/
def State.publishedSlot (s : State) (origin : Nat) : Option Nat :=
  ((List.range 24).map (fun i => 216 + i)).find? (fun n => s.slotEnabled n && s.slotKind n == 3 && s.slotOrigin n == origin)

/-- Whether the origin of published slot n delivers essence: a head that is composed, or an internal output that has sent a line. -/
def State.originOn (s : State) (n : Nat) : Bool :=
  let o := s.slotOrigin n
  if o < 8 then s.num (O.headHeadState o) == 1 || s.num (O.headHeadState o) == 2
  else decide (96 ≤ o) && decide (o ≤ 127) && !(s.out_ o).line.isEmpty

/-- Streams of slot n whose essence reaches the device now (R17, R77, R88, R126): those of a locked lane or of the links in the
group, those of flows that are received, those of a published source whose origin delivers. -/
def State.inputStreams (s : State) (n : Nat) : List Nat :=
  match s.slotKind n with
  | 1 =>
    if s.slotQuad n then
      ((List.range 4).filter (fun i => (s.lane (n + i)).inGroup)).flatMap (fun i =>
        s.linkStreams n (s.num (O.sdiLinkNumber (n + i)) - 1))
    else if s.num (O.sdiLockState n) = 4 ∧ !s.quadRx n then s.linkStreams n 0 else []
  | 2 => (s.slotFlows n).flatMap (fun p =>
      let x := s.rx (s.rxLead p.1)
      if x.active && (!x.fresh || byteAt p.2 1 == 5 && x.sdiFmt != 0) then s.ctxStreams p.2 else [])
  | 3 => if s.originOn n then s.slotStreams n else []
  | _ => []

/-- Every stream of a slot marked absent. -/
def State.slotAbsent (s : State) (n : Nat) : State :=
  s.setPresents ((s.ess.present.filter (fun p => p.1 / 2 ^ 20 == n)).map Prod.fst) false

/-! ### Samples -/

/-- Largest sample word plus one. -/
def sampMod : Nat := 2 ^ 24
/-- The signed value of a 24-bit sample. -/
def sampInt (v : Nat) : Int := signed 24 (v % sampMod)
/-- A signed value as a 24-bit sample, held at the ends of the range. -/
def ofSamp (v : Int) : Nat := twos 24 (clampInt (-8388608) 8388607 v)
/-- Linear mix of two samples: `a` weighted n − k, `b` weighted k, over n. -/
def mixSamp (a b k n : Nat) : Nat :=
  if n = 0 then b else ofSamp (roundDiv (sampInt a * ((n - k : Nat) : Int) + sampInt b * ((k : Nat) : Int)) n)

/-- House sample number of the first sample at or after Pacer time pt (R245). -/
def sampleAt (fs pt : Nat) : Nat := ceilDiv (pt * fs) (1000000000 * ptNs)
/-- Pacer time of house sample t. -/
def samplePt (fs t : Nat) : Nat := if fs = 0 then 0 else ceilDiv (t * 1000000000 * ptNs) fs

/-- The channel key of a stream: local streams by slot key, remote ones by SID above 2^32. -/
def State.chanKey (s : State) (sid : Nat) : Nat := if s.sidLocal sid then sid % 2 ^ 28 else 2 ^ 32 + sid

/-- A channel. -/
def State.chan (s : State) (k : Nat) : Chan := tget chanEmpty s.ess.chans k
/-- Stores a channel. -/
def State.setChan (s : State) (k : Nat) (c : Chan) : State :=
  { s with ess := { s.ess with chans := tset chanEmpty s.ess.chans k c } }

/-- Longest history a channel keeps: its delay and what splices and ramps reach back to. -/
def State.chanKeep (s : State) (k : Nat) : Nat :=
  let d := if k < 2 ^ 28 then s.num (O.slotAudioDelay (k / 2 ^ 20) (k % 2 ^ 16)) else 0
  d + (s.chan k).oldDelay + 2048

/-- Samples enter a channel's history; `t0` labels the first when the channel is empty or `jump` is set. -/
def State.chanPush (s : State) (k t0 : Nat) (jump byLine : Bool) (vs : List Nat) : State :=
  if vs.isEmpty then s
  else
    let c := s.chan k
    let next := if c.hist.isEmpty || jump then t0 else c.next
    s.setChan k { c with next := next + vs.length, byLine := byLine,
                         hist := (vs.reverse ++ c.hist).take (s.chanKeep k) }

/-- The last sample of a channel. -/
def Chan.lastSample (c : Chan) : Nat := c.hist.headD 0

/-- A channel's raw sample t, if it is held. -/
def Chan.raw (c : Chan) (t : Nat) : Option Nat := if t < c.next then c.hist[c.next - 1 - t]? else none

/-- The first quarter of the 48-sample period of TONE_18 and TONE_20 (Table 1-6): 2^23 × 10^(−dB / 20) × sin(2π i / 48), rounded. -/
def toneQuarter (slot : Nat) : List Int :=
  if slot = 243 then
    [0, 137844, 273329, 404138, 528032, 642891, 746749, 837831, 914578, 975675, 1020079, 1047028, 1056063]
  else [0, 109493, 217113, 321018, 419430, 510666, 593164, 665513, 726475, 775006, 810277, 831684, 838861]

/-- The 1 kHz sine of TONE_18 and TONE_20 at sample t (Table 1-6): −18 or −20 dBFS. Its phase and the rounding of its last bit are not
stated: free values of the slot and of the place in the period (log entry 7). -/
def toneSample (slot t : Nat) : Nat :=
  let q := toneQuarter slot
  let i := (t + Config.tonePhase slot) % 48
  let j := i % 24
  let v := q.getD (if j ≤ 12 then j else 24 - j) 0
  ofSamp ((if i < 24 then v else -v) + ((Config.toneRound slot i % 3 : Nat) : Int) - 1)

/-- Sample t of a channel with a delay of `d` samples, `get` giving its samples (R161): after a decrease the read position moves with a
crossfade, after an increase through silence. -/
def Chan.delayed (c : Chan) (d : Nat) (get : Nat → Option Nat) (t : Nat) : Option Nat :=
  let at_ (dly : Nat) : Nat := if t < dly then 0 else (get (t - dly)).getD 0
  if d = c.oldDelay ∨ t < c.changeAt then
    (let dd := if t < c.changeAt then c.oldDelay else d
     if t < dd then some 0 else get (t - dd))
  else
    let i := t - c.changeAt
    if d < c.oldDelay then
      (if i < 256 then some (mixSamp (at_ c.oldDelay) (at_ d) i 256) else get (t - d))
    else
      let up := max 256 d
      if i < 256 then some (mixSamp (at_ c.oldDelay) 0 i 256)
      else if i < up then some 0
      else if i < up + 256 then some (mixSamp 0 (at_ d) (i - up) 256)
      else get (t - d)

/-- Sample t of the audio channel a SID names, as it leaves the Aligner with its AUDIO_DELAY (R161), which the samples of another device
bring with them; none while it has no sample for t. DESIGN CHOICE (log entry 151): a generator has 16 channels, and a SUB from 16 to 127
of it, which R18 accepts, delivers what its channels deliver. -/
def State.chanAt (s : State) (sid t : Nat) : Option Nat :=
  if sidGen sid then
    (if sidSlot sid = 243 ∨ sidSlot sid = 244 then some (toneSample (sidSlot sid) t) else some 0)
  else
    let c := s.chan (s.chanKey sid)
    c.delayed (if s.sidLocal sid then s.num (O.slotAudioDelay (sidSlot sid) (sidSub sid)) else 0) c.raw t

/-- The ASRC instance assigned to the pair of a local channel, if any (R258). -/
def State.asrcOf (s : State) (slot c : Nat) : Option Nat :=
  (List.range 64).find? (fun i => s.num (O.asrcInput i) == mkSid s.devIndex slot 1 (c / 2 * 2) && s.num (O.asrcInput i) != 0)

/-- The first SID of the pair of a local channel. -/
def State.pairSid (s : State) (slot c : Nat) : Nat := mkSid s.devIndex slot 1 (c / 2 * 2)

/-- A pair is or is no longer unlocked: without an ASRC instance it counts in UNLOCKED_NO_ASRC, with event 0x700A on each
entry (R260). -/
def State.notePair (s : State) (slot c : Nat) (unlocked : Bool) : State :=
  let sid := s.pairSid slot c
  let bad := unlocked && (s.asrcOf slot c).isNone
  if bad = s.aud.noAsrc.contains sid then s
  else
    let l := if bad then sid :: s.aud.noAsrc else s.aud.noAsrc.filter (· != sid)
    let s1 := ({ s with aud := { s.aud with noAsrc := l } }).setNum O.audUnlockedNoAsrc l.length
    if bad then s1.raise 0x700A (p32 sid) else s1

/-- Unlocked pairs of slot n whose channels `gone` names are no longer received (R260): none of them counts, and nothing is left of them in
their ASRC instances. -/
def State.pairsGone (s : State) (n : Nat) (gone : Nat → Bool) : State :=
  let l := s.aud.noAsrc.filter (fun sid => !(sidSlot sid == n && gone (sidSub sid)))
  let s1 : State := { s with aud := { s.aud with noAsrc := l, asrcLine := s.aud.asrcLine.filter (fun p => !(p.1 / 2 ^ 20 == n && gone (p.1 % 2 ^ 16))) } }
  if l.length = s.aud.noAsrc.length then s1 else s1.setNum O.audUnlockedNoAsrc l.length

/-- Samples of an embedded pair's channel behind its ASRC instance (R95, R258–R260): 48 samples later; those of an asynchronous pair
converted, one for each house sample since the last, and silence while the ratio is out of range (DESIGN CHOICE, log entry 82). Without an
instance an asynchronous pair is silent. -/
def State.throughAsrc (s : State) (slot c : Nat) (async' : Bool) (vs : List Nat) : List Nat × State :=
  match s.asrcOf slot c with
  | none => (if async' then vs.map (fun _ => 0) else vs, s)
  | some i =>
    let key := lkey slot 1 c
    let x := tget (fun _ => (0, List.replicate 48 0)) s.aud.asrcLine key
    let now := sampleAt (s.slotFs slot) s.tm.pt
    let from_ := if x.1 = 0 ∨ now < x.1 ∨ x.1 + 4096 < now then now - vs.length else x.1
    let ws := if !async' then vs
      else (List.range (now - from_)).map (fun j =>
        if s.num (O.asrcState i) = 3 then 0 else Config.asrcSample i (from_ + j) (vs.getD (min j (vs.length - 1)) 0) % sampMod)
    let line := x.2 ++ ws
    (line.take ws.length, { s with aud := { s.aud with asrcLine := tput s.aud.asrcLine key (if async' then now else 0, line.drop ws.length) } })

/-- AES3 input n. -/
def State.aes (s : State) (n : Nat) : AesIn := tget aesIdle s.aud.aes n

/-- The non-audio flag of the pair of a SID (R250, R252, R265): of the AES3 input that delivers the pair, or of a pair of an ST 2110-31 flow;
no other pair, and none of another device, has one. -/
def State.pairNonAudio (s : State) (sid : Nat) : Bool :=
  let slot := sidSlot sid
  let c := sidSub sid / 2 * 2
  s.sidLocal sid && !sidGen sid &&
  (match (List.range 16).find? (fun n => s.flag (O.aesInEnable n) && s.num (O.aesInSlot n) == slot && s.num (O.aesInFirstChannel n) == c) with
   | some n => (s.aes n).nonAudio
   | none => (s.chan (lkey slot 1 c)).nonAudio &&
     (s.slotFlows slot).any (fun p => byteAt p.2 1 == 3 && decide (byteAt p.2 41 ≤ c) && decide (c < byteAt p.2 41 + byteAt p.2 42)))

/-- Channel ranges that ports deliver into a slot: AES3 inputs 0–15, TDM ports 16–23. -/
def State.portRanges (s : State) (slot : Nat) : List (Nat × Nat × Nat) :=
  ((List.range 16).filter (fun n => s.flag (O.aesInEnable n) && s.num (O.aesInSlot n) == slot)).map
    (fun n => (n, s.num (O.aesInFirstChannel n), 2)) ++
  ((List.range 8).filter (fun n => s.num (O.tdmMode n) != 0 && s.num (O.tdmSlot n) == slot)).map
    (fun n => (16 + n, s.num (O.tdmFirstChannel n), s.num (O.tdmSlots n)))

/-- Whether two ranges of channels share one. -/
def rangesMeet (a n b m : Nat) : Bool := decide (a < b + m) && decide (b < a + n)

end Sys2Proof.Machine
end

