-- ==== Sys2Proof/Machine/Scaler.lean ====
section
/-! DEFINITION. The scaler engines' arithmetic (R304, R310, R316, R318): pixels in their packings, a filter phase, and one row of a
picture filtered vertically and then horizontally. -/

namespace Sys2Proof.Machine

/-- A pixel: Y, Cb, Cr. -/
abbrev Px := Nat × Nat × Nat
/-- A pixel with its alpha, 0 to 1,023. -/
abbrev PxA := Px × Nat

/-- The pixels of a line in the packing of ST 2110-20: Cb, Y, Cr, Y in five bytes a pair. -/
def unpackLine : List Byte → List Px
  | a :: b :: c :: d :: e :: rest =>
    let w := ofBe [a, b, c, d, e]
    let cb := fld w 39 30
    let cr := fld w 19 10
    (fld w 29 20, cb, cr) :: (fld w 9 0, cb, cr) :: unpackLine rest
  | _ => []

/-- A line in the packing of ST 2110-20; each pair takes the chroma of its first pixel. -/
def packLine : List Px → List Byte
  | p :: q :: rest => beBytes 5 (p.2.1 * 2 ^ 30 + p.1 * 2 ^ 20 + p.2.2 * 2 ^ 10 + q.1) ++ packLine rest
  | _ => []

/-- The pixel pairs of an image value after its header (R310): Cb, Y0, Cr, Y1, A0 and A1 in bits 63 to 4 of eight bytes. -/
def imagePixels : List Byte → List PxA
  | a :: b :: c :: d :: e :: f :: g :: h :: rest =>
    let w := ofBe [a, b, c, d, e, f, g, h]
    let cb := fld w 63 54
    let cr := fld w 43 34
    ((fld w 53 44, cb, cr), fld w 23 14) :: ((fld w 33 24, cb, cr), fld w 13 4) :: imagePixels rest
  | _ => []

/-- Every second item of a list, from the first. -/
def evens {α : Type} : List α → List α
  | a :: _ :: rest => a :: evens rest
  | l => l

/-- Tap t of horizontal phase p of a coefficient bank (R318). -/
def tapH (bank : List Byte) (p t : Nat) : Int := signed 16 (halfAt bank (16 * p + 2 * t))
/-- Tap t of vertical phase p of a coefficient bank (R318). -/
def tapV (bank : List Byte) (p t : Nat) : Int := signed 16 (halfAt bank (1024 + 12 * p + 2 * t))

/-- The sum of products of taps with the samples of a line from an index on; beyond the line the samples are open. -/
def tapSum (line : List Int) (first : Int) (taps : List Int) : Int :=
  (taps.zipIdx.map (fun q =>
    let i : Int := first + (q.2 : Int)
    q.1 * (if 0 ≤ i ∧ i < (line.length : Int) then line.getD i.toNat 0 else Config.edgeValue line i))).foldl (· + ·) 0

/-- First of the vertical taps in use (R318: the centre V_TAPS taps). DESIGN CHOICE for an odd V_TAPS (log entry 175): the earlier
five or three. -/
def firstTap (taps : Nat) : Nat := (6 - taps) / 2

/-- Row y of one component scaled from `rows` to dw × dh samples with a bank and V_TAPS (R318): vertically first, the taps in use
renormalised by their sum, then horizontally. Where an output sample lies in the source, in 1/64 of a sample, and how a result
is rounded are open (log entry 175). -/
def scaleRow (bank : List Byte) (taps : Nat) (rows : List (List Nat)) (dw dh y : Nat) : List Nat :=
  let py := Config.scalePos rows.length dh y
  let vs := (List.range taps).map (fun t => tapV bank (py % 64).toNat (firstTap taps + t))
  let sum := vs.foldl (· + ·) 0
  let v0 : Int := py / 64 - 2 + (firstTap taps : Int)
  let w := (rows.headD []).length
  let line := (List.range w).map (fun x => tapSum (rows.map (fun r => (r.getD x 0 : Int))) v0 vs)
  (List.range dw).map (fun i =>
    let px := Config.scalePos w dw i
    Config.filterRound (tapSum line (px / 64 - 3) ((List.range 8).map (tapH bank (px % 64).toNat))) (1024 * sum))

/-- Row y of a picture scaled to dw × dh pixels: luma at full width, each colour difference at half (4:2:2). -/
def scalePicture (bank : List Byte) (taps : Nat) (rows : List (List Px)) (dw dh y : Nat) : List Px :=
  let ys := scaleRow bank taps (rows.map (fun r => r.map (fun p => p.1))) dw dh y
  let cb := scaleRow bank taps (rows.map (fun r => evens (r.map (fun p => p.2.1)))) (dw / 2) dh y
  let cr := scaleRow bank taps (rows.map (fun r => evens (r.map (fun p => p.2.2)))) (dw / 2) dh y
  (List.range dw).map (fun i => (ys.getD i 0, cb.getD (i / 2) 0, cr.getD (i / 2) 0))

/-- Pixels in rows of a width. -/
def rowsOf {α : Type} (w : Nat) : Nat → List α → List (List α)
  | 0, _ => []
  | n + 1, l => l.take w :: rowsOf w n (l.drop w)

/-- Row y of an image value scaled to a rectangle with bank 0 and 6 vertical taps (R310). -/
def scaleImage (image bank0 : List Byte) (dw dh y : Nat) : List PxA :=
  let rows := rowsOf (halfAt image 0) (halfAt image 2) (imagePixels (image.drop 8))
  let px := scalePicture bank0 6 (rows.map (fun r => r.map Prod.fst)) dw dh y
  let a := scaleRow bank0 6 (rows.map (fun r => r.map Prod.snd)) dw dh y
  (px.zip a)

/-- Black: Y 64, Cb and Cr 512 (R231). -/
def blackPx : Px := (64, 512, 512)

/-- Row y of a converter's picture of sw × sh source pixels for a raster of dw × dh (R319): ASPECT 0 stretches the whole picture; 1 and 2
place a crop of it in a rectangle, black around it; how the two are rounded is open. -/
def convertRow (bank : List Byte) (taps aspect : Nat) (rows : List (List Px)) (dw dh y : Nat) : List Px :=
  let w := (rows.headD []).length
  let (crop, rect) := if aspect = 0 then ((⟨0, 0, w, rows.length⟩, ⟨0, 0, dw, dh⟩) : Config.Rect × Config.Rect)
    else Config.fitRect aspect w rows.length dw dh
  if y < rect.y ∨ rect.y + rect.h ≤ y then List.replicate dw blackPx
  else
    let src := ((rows.drop crop.y).take crop.h).map (fun r => (r.drop crop.x).take crop.w)
    let row := List.replicate rect.x blackPx ++ scalePicture bank taps src rect.w rect.h (y - rect.y)
    row ++ List.replicate (dw - row.length) blackPx

end Sys2Proof.Machine
end

