-- ==== Sys2Proof/Machine/Aligner.lean ====
section
/-! DEFINITION. The Ingress Aligner (05): lines and samples enter, are assigned to house-grid frames, and are released;
lateness, the line-mode window, frame-mode repeats and drops, groups, loss and return (R147–R160). -/

namespace Sys2Proof.Machine

/-- ALN_EVT_s. -/
def rAlnEvt (n : Nat) : Nat := 0x40A004 + 0x10 * n
/-- ALN_SLIP_s. -/
def rAlnSlip (n : Nat) : Nat := 0x40A008 + 0x10 * n
/-- ALN_LATE_s. -/
def rAlnLate (n : Nat) : Nat := 0x40A00C + 0x10 * n

/-- Raises an Aligner event and sets its bit of ALN_EVT_s (R172). -/
def State.alnEvent (s : State) (n bit code : Nat) (payload : List Byte) : State :=
  (s.setBit (rAlnEvt n) bit).raise code payload

/-- Sets ALIGN_STATE. -/
def State.setAlign (s : State) (n v : Nat) : State := s.setNum (O.slotAlignState n) v

/-- The slots of the explicit group of slot n (R33), or the slot alone. -/
def State.groupSlots (s : State) (n : Nat) : List Nat :=
  let g := s.num (O.slotGroup n)
  if g = 0 then [n]
  else (List.range 240).filter (fun m => s.num (O.slotGroup m) == g && s.slotEnabled m)

/-- Every member of the group of slot n: slot and video SUB. -/
def State.groupMembers (s : State) (n : Nat) : List (Nat × Nat) :=
  (s.groupSlots n).flatMap (fun m => (s.slotSubs m).map (fun b => (m, b)))

/-- The wait W of a line 1 that entered at `entry`, if released in carried frame k (R147). -/
def State.waitOf (s : State) (f k entry : Nat) : Int :=
  ((gridStart (f % 256) k + linesPt f (1 + s.lag) 1 : Nat) : Int) - (entry : Int)

/-- The first carried frame for which W is not negative. -/
def State.firstFrame (s : State) (f entry : Nat) : Nat :=
  let x := entry - linesPt f (1 + s.lag) 1
  if x = 0 then 0 else gridFrame (f % 256) (x - 1) + 1

/-- The line-mode release time T_rel of line n of release frame k (R147, VIDEO_DELAY already counted in k). -/
def State.relTime (s : State) (f k n : Nat) : Nat :=
  gridStart (f % 256) k + linesPt f (n - 1) 1 + linesPt f (2 + s.lag) 1

/-- The carried frame that release frame k releases (R160). -/
def SlotSt.carried (sl : SlotSt) (k : Nat) : Nat :=
  if k < sl.delayK then max (k - sl.delayOld) sl.floorOld else max (k - sl.delay) sl.floorK

/-- The release frame that releases carried frame c first under the delay in force (R160). -/
def SlotSt.releaseOf (sl : SlotSt) (c : Nat) : Nat :=
  if c + sl.delayOld < sl.delayK then c + sl.delayOld else c + sl.delay

/-- Whether carried frame c is not released because the source was out of the line-mode window (R150). -/
def SlotSt.skips (sl : SlotSt) (c : Nat) : Bool :=
  (sl.out && decide (sl.outFrom ≤ c)) || sl.gaps.any (fun g => decide (g.1 ≤ c) && decide (c < g.2))

/-- The key under which the lines of carried frame c are queued: the frame itself in line mode, its source frame in frame
mode. -/
def SlotSt.frameKey (sl : SlotSt) (c : Nat) : Option Nat :=
  if sl.mode = 1 then (sl.map.find? (fun p => p.1 == c)).map Prod.snd else some c

/-- Sets a field of every slot of a list. -/
def State.mapSlots (s : State) (ns : List Nat) (f : SlotSt → SlotSt) : State :=
  ns.foldl (fun (x : State) m => x.setSlot m (f (x.slot m))) s

/-- Sets ALIGN_STATE of every slot of a list. -/
def State.setAligns (s : State) (ns : List Nat) (v : Nat) : State := ns.foldl (fun (x : State) m => x.setAlign m v) s

/-- The local keys of the first streams of a sender's audio and ancillary flows, which are members of its group (R34, R124). -/
def State.flowMembers (s : State) (n : Nat) : List Nat :=
  if s.slotKind n = 2 then
    ((s.slotFlows n).filter (fun p => byteAt p.2 1 == 2 || byteAt p.2 1 == 3 || byteAt p.2 1 == 4)).map (fun p =>
      lkey n (if byteAt p.2 1 = 4 then 2 else 1) (byteAt p.2 41))
  else []

/-- Whether a member of the group of slot n underruns (R158). -/
def State.groupMissing (s : State) (n : Nat) : Bool :=
  (s.groupMembers n).any (fun p => (s.member p.1 p.2).missing) ||
  (s.groupSlots n).any (fun m => (s.flowMembers m).any (fun k => (s.fmember k).missing))

/-- The source of a slot is acquired again (R155): release begins with a line 1 that enters from now on; lines that have entered in line
mode keep their slots (R156). ALIGN_MODE and VIDEO_DELAY are those in force, on an idle slot those committed (R160, R164). -/
def State.slotAcquire (s : State) (n : Nat) : State :=
  let sl := s.slot n
  let idle := s.num (O.slotAlignState n) == 0
  let mode := if idle then s.slotAlignMode n else sl.mode
  let delay := if idle then s.num (O.slotVideoDelay n) else sl.delay
  let keep := sl.running && !sl.lost && mode == 0 && s.slotHasVideo n && !sl.q.isEmpty
  let next := (sl.q.map (fun u => u.k)).foldl max 0 + 1
  let s1 := (s.slotSubs n).foldl (fun (x : State) b => x.setMember n b { x.member n b with cur := none, missing := false, skip := false }) s
  let s2 := (s1.flowMembers n).foldl (fun (x : State) k => x.setFmember k Member.none) s1
  (s2.setSlot n { sl with running := keep, out := keep, outFrom := next, okFrames := if keep then 2 else 0, okK := 0,
                          gaps := if keep then sl.gaps else [], lost := false, waits := [], map := [], nextF := 16,
                          q := if keep then sl.q else [], spliceAt := [], ramp := 0, heldOut := false, contF := 0, reacq := false,
                          fMarks := [], fCount := 0, mode := mode, delay := delay, delayOld := delay, floorK := 0, floorOld := 0,
                          delayK := 0, live := keep && sl.live, reform := false }).setAlign n 1

/-- Whether the return of slot n's source is a rejoining (R159): the slot goes on being released with another slot of its explicit
group. -/
def State.rejoins (s : State) (n : Nat) : Bool :=
  s.slotHasVideo n && (s.slot n).running && !(s.slot n).lost && (s.groupSlots n).any (fun m => m != n && s.slotPresent m && (s.slot m).running && !(s.slot m).lost && !(s.slot m).heldOut)

/-- The source of slot n returns with the raster it has now, `old` before: it is acquired and present (R155), or rejoins the explicit
group whose other members went on (R158, R159), its lines being copies in the raster released before, and its streams absent, until it
does. -/
def State.slotReturn (s : State) (n old : Nat) : State :=
  let sl := s.slot n
  if s.rejoins n then
    let s1 := (s.slotSubs n).foldl (fun (x : State) b => x.setMember n b { x.member n b with cur := none, skip := false }) s
    s1.setSlot n { sl with heldOut := false, fMarks := [], fCount := 0, q := if old = s.slotRaster n then sl.q else [],
                           contF := if sl.contF ≠ 0 then sl.contF else if old = s.slotRaster n then 0 else old }
  else (s.slotAcquire n).setPresents ((s.slotAcquire n).inputStreams n) true

/-- A slot that holds nothing: idle, with the delay and mode of a later acquisition those committed. -/
def State.slotClear (s : State) (n : Nat) : State :=
  ((((s.slotAbsent n).pairsGone n (fun _ => true)).setSlot n SlotSt.idle).setAlign n 0)

/-- The group's wait for line 1: that of its latest member. -/
def State.groupWait (s : State) (n : Nat) : Int :=
  let ws := (s.groupMembers n).filterMap (fun p =>
    let m := s.member p.1 p.2
    if m.cur.isSome && !m.missing then some m.w else none)
  ws.foldl (fun a b => if b < a then b else a) (ws.headD 0)

/-- ALIGN_WAIT of every slot of the group of slot n: the group's W (R147, R157). -/
def State.showWait (s : State) (n : Nat) : State :=
  let w := s.groupWait n
  (s.groupSlots n).foldl (fun (x : State) m => x.setInt (O.slotAlignWait m) (ptToQ16Lines (x.relRaster m) w)) s

/-- FREQ_OFFSET each second over a window of 10 s (R154, Table 5-4): a frame of the source begins. -/
def State.freqFrame (s : State) (n f pt : Nat) : State :=
  let sl := s.slot n
  let c := sl.fCount + 1
  match sl.fMarks with
  | [] => s.setSlot n { sl with fMarks := [(pt, c)], fCount := c }
  | a :: _ =>
    if pt < a.1 + 1000000000 * ptNs then s.setSlot n { sl with fCount := c }
    else
      let marks := ((pt, c) :: sl.fMarks).take 11
      let s1 := s.setSlot n { sl with fMarks := marks, fCount := c }
      match marks[10]? with
      | none => s1
      | some o =>
        let d := pt - o.1
        s1.setInt (O.slotFreqOffset n)
          (roundDiv (((((c - o.2) * framePt f : Nat) : Int) - (d : Int)) * 1000000000) d)

/-- The video SID of a member. -/
def State.memberSid (s : State) (n sub : Nat) : Nat := mkSid s.devIndex n 0 sub

/-- The members of the group of slot n from which a line 1 is still expected for frame k: those present that may enter it. -/
def State.groupAwaited (s : State) (n k : Nat) : Bool :=
  (s.groupMembers n).any (fun p =>
    let m := s.member p.1 p.2
    let sl := s.slot p.1
    !sl.heldOut && !m.missing && !m.skip && (s.isPresent (lkey p.1 0 p.2) || sl.out) && decide (m.cur ≠ some k))

/-- The line-mode window test of frame k for the group of slot n, whose W is that of its latest member (R150, R157). `from_` is the first
frame that is not released when the group leaves the window; where its release has begun, the streams are absent at once. -/
def State.windowTest (s : State) (n k from_ : Nat) : State :=
  let f := s.relRaster n
  let g := (s.groupSlots n).filter (fun m => !(s.slot m).heldOut && (s.slot m).mode == 0)
  let ws := (s.groupMembers n).filterMap (fun p => if (s.member p.1 p.2).cur = some k then some (s.member p.1 p.2).w else none)
  let w := ws.foldl (fun a b => if b < a then b else a) (ws.headD 0)
  let within := decide (0 ≤ w) && decide (w ≤ (linesPt f (64 + s.lag) 1 : Nat))
  let sl := s.slot n
  let trim (x : SlotSt) : List QLine := x.q.filter (fun u => decide (u.k < x.outFrom) || within && decide (k ≤ u.k))
  if ws.isEmpty then s
  else if !sl.out && within then s
  else if sl.out && within && (decide (2 ≤ sl.okFrames) || sl.okFrames == 1 && sl.okK + 1 == k) then
    s.mapSlots g (fun x => { x with out := false, okFrames := 0, running := true, first := if x.running then x.first else k,
                                    gaps := ((x.outFrom, k) :: x.gaps).take 4, q := trim x })
  else if sl.out && within then s.mapSlots g (fun x => { x with okFrames := 1, okK := k, q := trim x })
  else if sl.out && decide (sl.okFrames < 2) then s.mapSlots g (fun x => { x with okFrames := 0, okK := k, q := trim x })
  else
    g.foldl (fun (x0 : State) m =>
      let x := if decide (s.relTime f k 1 ≤ s.tm.pt) && decide (from_ ≤ k) && !(x0.slot m).out then x0.slotAbsent m else x0
      ((x.setSlot m { x.slot m with out := true, outFrom := if (x.slot m).out then (x.slot m).outFrom else from_, okFrames := 0,
                                    okK := k }).setAlign m 3).alnEvent m 1 0x5002
        (p8 m ++ beBytes 4 (twos 32 (ptToQ16Lines f w)))) s

/-- A member's line 1 enters frame k: with every member that is expected in it, the group's W is known (R157). -/
def State.memberEnters (s : State) (n sub k pt : Nat) (w : Int) : State :=
  let m := s.member n sub
  let s1 := s.setMember n sub { m with cur := some k, w := w, at_ := pt, skip := false }
  let s2 := if (m.missing || !s1.isPresent (lkey n 0 sub)) && !(s1.slot n).out then
      s1.setPresents ((s1.inputStreams n).filter (fun key => (s1.linkStreams n sub).contains key)) true else s1
  if (s2.slot n).mode = 1 then s2.showWait n
  else if s2.groupAwaited n k then s2
  else (s2.showWait n).windowTest n k (match m.cur with | some c => min (c + 1) k | none => k)

/-- A member enters too late for the group's slot: it stays absent, with event 0x5008 once per frame (R159). -/
def State.memberTooLate (s : State) (n sub pt : Nat) (w : Int) : State :=
  let s1 := s.setMember n sub { s.member n sub with cur := none, at_ := pt, skip := true, missing := true }
  (s1.setPresents (s1.linkStreams n sub) false).alnEvent n 7 0x5008
    (p32 (s.memberSid n sub) ++ beBytes 4 (twos 32 (ptToQ16Lines (s.slotRaster n) w)))

/-- The members of the group of slot n but one whose line 1 entered within half a frame before Pacer time `pt`, with the carried or
source frame they entered. -/
def State.groupMates (s : State) (n sub pt : Nat) : List (Nat × Nat × Nat) :=
  let half := framePt (s.slotRaster n) / 2
  ((s.groupMembers n).filter (fun p => p != (n, sub) && !(s.slot p.1).heldOut)).filterMap (fun p =>
    let o := s.member p.1 p.2
    match o.cur with
    | some k => if decide (pt < o.at_ + half) && !o.missing && !o.skip && (s.slot p.1).mode == (s.slot n).mode then some (p.1, p.2, k) else none
    | none => none)

/-- Line 1 of a frame enters in line mode: its carried frame, the window test and rejoining (R150, R155, R157, R159). Members that enter within
half a frame enter one carried frame, that of the first of them, so that the W of the latest, which is the group's, may be negative (DEDUCED,
log entry 41). -/
def State.enterFirstLine (s : State) (n sub f pt : Nat) : State :=
  let k0 := s.firstFrame f pt
  let m := s.member n sub
  let mates := s.groupMates n sub pt
  let grpRun := (s.groupSlots n).any (fun a =>
    (s.slot a).running && !((s.slot a).out && decide (2 ≤ (s.slot a).okFrames)) && !(s.slot a).reform)
  match (mates.map (fun p => p.2.2)).foldl (fun (a : Option Nat) b => some (max (a.getD b) b)) none with
  | some k1 =>
    if k1 < k0 && grpRun && m.missing then s.memberTooLate n sub pt (s.waitOf f k1 pt)
    else s.memberEnters n sub k1 pt (s.waitOf f k1 pt)
  | none => s.memberEnters n sub k0 pt (s.waitOf f k0 pt)

/-- The grid frame in which a slot in frame mode shows its source frame fr as things stand. -/
def SlotSt.gridOf (sl : SlotSt) (fr : Nat) : Nat := (sl.shownK + fr) - sl.shown

/-- A link that enters source frame fr of slot n at Pacer time pt, later than those before it, gives the frame's W (R152, R157). -/
def State.noteWait (s : State) (n fr pt : Nat) : State :=
  let sl := s.slot n
  let i := sl.nextF - 1 - fr
  s.setSlot n { sl with waits := sl.waits.set i (max (sl.waits.getD i 0) (pt : Int)) }

/-- The first frame of mates that have just been acquired is shown in grid frame k0, the first for which the latest of them enters in time
(R155, R157). -/
def State.shiftFirst (s : State) (mates : List (Nat × Nat × Nat)) (f k0 : Nat) : State :=
  mates.foldl (fun (x : State) p =>
    let so := x.slot p.1
    let o := x.member p.1 p.2.1
    (x.setSlot p.1 { so with first := k0, shownK := k0, map := [(k0, so.shown)] }).setMember p.1 p.2.1 { o with w := x.waitOf f k0 o.at_ }) s

/-- Line 1 of a source frame enters in frame mode (R152, R155, R157, R159). -/
def State.enterFirstFrame (s : State) (n sub f pt : Nat) : State :=
  let sl := s.slot n
  let m := s.member n sub
  let k0 := s.firstFrame f pt
  let mates := s.groupMates n sub pt
  match mates.find? (fun p => p.1 == n) with
  | some p =>
    let k := sl.gridOf p.2.2
    let begun := mates.any (fun p => decide ((s.slot p.1).first < (s.slot p.1).gridOf p.2.2))
    if k < k0 && m.missing && !sl.reform then s.memberTooLate n sub pt (s.waitOf f k pt)
    else if k < k0 && !begun then ((s.shiftFirst mates f k0).noteWait n p.2.2 pt).memberEnters n sub p.2.2 pt (s.waitOf f k0 pt)
    else (s.noteWait n p.2.2 pt).memberEnters n sub p.2.2 pt (s.waitOf f k pt)
  | none =>
    let kg := (mates.map (fun p => (s.slot p.1).gridOf p.2.2)).foldl (fun (a : Option Nat) b => some (max (a.getD b) b)) none
    if sl.running && !m.missing then
      let fr := sl.nextF
      (s.setSlot n { sl with nextF := fr + 1, waits := ((pt : Int) :: sl.waits).take 8 }).memberEnters n sub fr pt
        (s.waitOf f (sl.gridOf fr) pt)
    else if sl.running then
      (let k := match kg with | some g => g | none => max k0 (sl.shownK + 1)
       if k < k0 then s.memberTooLate n sub pt (s.waitOf f k pt)
       else
         let fr := (sl.shown + k) - sl.shownK
         (s.setSlot n { sl with nextF := fr + 1, waits := [(pt : Int)] }).memberEnters n sub fr pt (s.waitOf f k pt))
    else
      let fr := sl.nextF
      let begin_ (x : State) (k : Nat) : State :=
        (x.setSlot n { sl with nextF := fr + 1, running := true, first := k, shown := fr, shownK := k, map := [(k, fr)],
                               waits := [(pt : Int)] }).memberEnters n sub fr pt (x.waitOf f k pt)
      match kg with
      | none => begin_ s k0
      | some k1 =>
        if k0 ≤ k1 then begin_ s k1
        else if mates.any (fun p => decide ((s.slot p.1).first < (s.slot p.1).gridOf p.2.2)) then
          s.memberTooLate n sub pt (s.waitOf f k1 pt)
        else begin_ (s.shiftFirst mates f k0) k0

/-- Slot m, some of whose members are present or enter too late, is acquired again by a REALIGN; a member that was absent keeps the count of
the lines it missed until it rejoins (R159). -/
def State.reacquire (s : State) (m : Nat) : State :=
  let s1 := (s.slotSubs m).foldl (fun (x : State) b =>
    let o := s.member m b
    if o.missing then x.setMember m b { x.member m b with missing := true, missed := o.missed } else x) (s.slotAcquire m)
  s1.setSlot m { s1.slot m with reform := true }

/-- A REALIGN that waits is carried out from the next grid frame start on (R159): the members of the group that are present at their inputs are
acquired again together, and its slot is set by the latest of them. -/
def State.doRealign (s : State) (n : Nat) : State :=
  let f := s.slotRaster n
  let sl := s.slot n
  if sl.realign = 0 ∨ f = 0 ∨ gridFrame (f % 256) s.tm.pt ≤ gridFrame (f % 256) (sl.realign - 1) then s
  else
    (s.groupSlots n).foldl (fun (x : State) m =>
      let y := x.setSlot m { x.slot m with realign := 0 }
      if (y.slotPresent m || (y.slotSubs m).any (fun b => (y.member m b).skip)) && !(y.slot m).heldOut then y.reacquire m else y) s

/-- Whether a line of frame k (carried, or source frame in frame mode) enters after its slot, of a repeated frame its first (R151). -/
def State.staleLine (s : State) (n f k line : Nat) : Bool :=
  let sl := s.slot n
  if !sl.running then false
  else if sl.mode = 0 then decide (s.relTime f (sl.releaseOf k) line < s.tm.pt)
  else if sl.shown < k then false
  else match sl.map.reverse.find? (fun p => p.2 == k) with
    | some p => decide (s.relTime f (sl.releaseOf p.1) line < s.tm.pt)
    | none => true

/-- A line of a source with video enters the Aligner at Pacer time `pt`, T_entry of R147. A frame begins with its line 1, or, where that is
missing, with the first line whose number is below that of the line before; its line 1 then counts as entered in its place before that line
(R75, R151; DEDUCED, log entry 40). Lines of a slot that is out of its group, or whose page was lost (R169), do not enter. -/
def State.enterLineAt (s : State) (pt n sub line : Nat) (data : List Byte) (anc : List (Nat × AncPkt))
    (audio : List (Nat × List Nat)) (tc : List (Nat × Nat)) : State :=
  let f := s.slotRaster n
  if f = 0 ∨ !s.slotEnabled n ∨ (s.slot n).heldOut ∨ !s.essOn ∨ s.ess.store.lostSlots.contains n then s
  else
    let m0 := s.member n sub
    let begins := decide (line = 1) || m0.cur.isSome && decide (line < m0.line)
    let s1 := if begins then
        (let s0 := s.doRealign n
         let s0 := if (s0.slot n).lost then s0.slotAcquire n else s0
         let s0 := if (s0.slot n).reacq then
             (s0.setSlot n { s0.slot n with reacq := false }).setPresents (s0.inputStreams n) true else s0
         let first := pt - linesPt f (line - 1) 1
         let s0 := if sub = 0 then s0.freqFrame n f first else s0
         if (s0.slot n).mode = 1 then s0.enterFirstFrame n sub f first else s0.enterFirstLine n sub f first)
      else s
    let sl := s1.slot n
    match (s1.member n sub).cur with
    | none => s1
    | some k =>
      let s2 := (if begins && !sl.running then s1.setSlot n { sl with running := true, first := k } else s1).setMember n sub
        { s1.member n sub with line := line }
      if s2.staleLine n f k line then s2
      else s2.setSlot n { s2.slot n with q := (s2.slot n).q ++ [⟨k, line, sub, pt, data, anc, audio, tc⟩] }

/-- A line enters now. -/
def State.enterLine (s : State) (n sub line : Nat) (data : List Byte) (anc : List (Nat × AncPkt))
    (audio : List (Nat × List Nat)) (tc : List (Nat × Nat)) : State := s.enterLineAt s.tm.pt n sub line data anc audio tc

/-- A black line of a raster: Y 64, Cb and Cr 512 in the packing of ST 2110-20 (Cb 10 bits, Y, Cr, Y: five bytes a pair). -/
def blackLine (f : Nat) : List Byte :=
  (List.replicate (fmtWidth f / 2) [0x80#8, 0x04#8, 0x08#8, 0x00#8, 0x40#8]).flatten

/-- Pacer time of the error of a poisoned store word. -/
def State.poisonTime (s : State) (p : Nat × Nat) : Nat := tget zeroNat s.ess.store.poisonAt (p.1 * 32768 + p.2)

/-- Whether a stored line of slot n has a poisoned word (R168): one that held it when the error was found; what enters later is written over
the word. -/
def State.poisonedLine (s : State) (n : Nat) (u : QLine) : Bool :=
  s.ess.store.poisoned.any (fun p => decide (u.entry ≤ s.poisonTime p) && Config.pageHolds p.1 p.2 n u.k u.n u.sub)

/-- The house samples whose label falls in line n of release frame k: first and one past the last. -/
def lineSamples (f fs k n : Nat) : Nat × Nat :=
  let g := gridStart (f % 256) k
  (sampleAt fs (g + linesPt f (n - 1) 1), sampleAt fs (g + linesPt f n 1))

/-- Whether channel c belongs to link `sub` of slot n. -/
def State.chanOfLink (s : State) (n sub c : Nat) : Bool := if s.slotQuad n then c / 32 == sub else sub == 0

/-- Channels of slot n that audio flows carry (R124, R130). -/
def State.flowChannels (s : State) (n : Nat) : List Nat :=
  if s.slotKind n = 2 then
    ((s.slotFlows n).filter (fun p => byteAt p.2 1 == 2 || byteAt p.2 1 == 3)).flatMap (fun p =>
      (List.range (byteAt p.2 42)).map (fun i => byteAt p.2 41 + i))
  else []

/-- How far a frame of a flow source is moved from its RTP time to release frame k, in house samples (R37, R130). -/
def State.flowShift (s : State) (n k key : Nat) : Int :=
  match (s.slot n).rtp.find? (fun p => p.1 == key) with
  | some p => roundDiv ((((gridStart (s.slotRaster n % 256) k : Nat) : Int) - (p.2 : Int)) * (s.slotFs n : Int)) (1000000000 * ptNs)
  | none => 0

/-- Samples t0 on of a channel carried by a flow: those received for their house sample times, else the last one repeated
(R34, R130, R158). -/
def flowRun (sq : List (Nat × Nat × Nat)) (sh : Int) (c t0 : Nat) : Nat → Nat → List Nat
  | 0, _ => []
  | n + 1, last =>
    let v := ((sq.find? (fun x => ((x.1 : Nat) : Int) + sh == ((t0 : Nat) : Int) && x.2.1 == c)).map (fun x => x.2.2)).getD last
    v :: flowRun sq sh c (t0 + 1) n v

/-- Samples with those marked poisoned replaced by the last good one (R168). -/
def lastGood : Nat → List (Nat × Bool) → List Nat
  | _, [] => []
  | last, (v, bad) :: l => let w := if bad then last else v; w :: lastGood w l

/-- Whether sample t of channel c of slot n, which entered at Pacer time `entry`, lies in a poisoned word (R168). -/
def State.poisonedSample (s : State) (n c t entry : Nat) : Bool :=
  s.ess.store.poisoned.any (fun w => decide (entry ≤ s.poisonTime w) && Config.pageHoldsSample w.1 w.2 n c t)

/-- Samples t0 on of channel c, which entered at Pacer time `entry`, as the store gives them back (R168): one in a poisoned word repeats the
last good one. -/
def State.storedSamples (s : State) (n c t0 entry last : Nat) (vs : List Nat) : List Nat :=
  lastGood last (vs.zip ((vs.zipIdx).map (fun (p : Nat × Nat) => s.poisonedSample n c (t0 + p.2) entry)))

/-- Ancillary packets and time code that a flow source's frame received for a line. -/
def SlotSt.flowExtras (sl : SlotSt) (key line : Nat) : List (Nat × AncPkt) × List (Nat × Nat) :=
  match sl.rtp.find? (fun p => p.1 == key) with
  | some p =>
    ((sl.flowAnc.filter (fun a => a.1 == p.2 && a.2.2.line == line)).map (fun a => (a.2.1, a.2.2)),
     (sl.flowTc.filter (fun a => a.1 == p.2 && a.2.1 == line)).map (fun a => (a.2.2.1, a.2.2.2)))
  | none => ([], [])

/-- Whether embedded samples that continue at `next` are too far from the samples t0 to t1 of their line to continue there: 4 lines. -/
def embedJump (next t0 t1 : Nat) : Bool := decide (next + 4 * (t1 - t0 + 1) < t0) || decide (t0 + 4 * (t1 - t0 + 1) < next)

/-- Releases the audio of a line: the line's own samples, for a channel the line does not list silence (R95), or for a line that is missing
the channel's last sample repeated (R151, R158). Samples of a channel that come on other lines than those of their times keep their sequence
within 4 lines. -/
def State.releaseAudio (s : State) (n sub k key line : Nat) (u : Option QLine) : State :=
  let f := s.relRaster n
  let (t0, t1) := lineSamples f (s.slotFs n) k line
  let flows := s.flowChannels n
  let sh := s.flowShift n k key
  let sq := (s.slot n).sq
  ((List.range (s.slotChannels n)).filter (fun c => s.chanOfLink n sub c)).foldl (fun s1 c =>
    let key := lkey n 1 c
    let ch := s1.chan key
    let jump := decide (ch.next + 2 < t0) || decide (t0 + 2 < ch.next)
    if flows.contains c then
      s1.chanPush key t0 jump true (flowRun sq sh c t0 (t1 - t0) ch.lastSample)
    else match u with
    | some u =>
      let vs := ((u.audio.find? (fun p => p.1 == c)).map Prod.snd).getD (List.replicate (t1 - t0) 0)
      s1.chanPush key t0 (embedJump ch.next t0 t1) true (s1.storedSamples n c t0 u.entry ch.lastSample vs)
    | none => s1.chanPush key t0 jump true (List.replicate (t1 - (if jump then t0 else min t1 (max t0 ch.next))) ch.lastSample)) s

/-- The last samples of source frame `key` in a slot's queue, for one channel, newest last. -/
def SlotSt.tail (sl : SlotSt) (key c : Nat) : List Nat :=
  let all := (sl.q.filter (fun u => u.k == key)).flatMap (fun u =>
    ((u.audio.find? (fun p => p.1 == c)).map Prod.snd).getD [])
  all.drop (all.length - 64)

/-- The 64-sample crossfade before a repeat or drop (R153): the channel's last samples turn into those that precede the
frame now released, of the frame before it or, for a channel that a flow carries, of the samples received for those times. -/
def State.spliceAudio (s : State) (n k key : Nat) : State :=
  let t0 := (lineSamples (s.relRaster n) (s.slotFs n) k 1).1
  let flows := s.flowChannels n
  let sh := s.flowShift n k key
  (List.range (s.slotChannels n)).foldl (fun s1 c =>
    let j := lkey n 1 c
    let ch := s1.chan j
    let tl := if flows.contains c then flowRun (s1.slot n).sq sh c (t0 - 64) 64 ch.lastSample else (s1.slot n).tail (key - 1) c
    if tl.length < 64 ∨ ch.hist.length < 64 then s1
    else
      let old := (ch.hist.take 64).reverse
      let mixed := (List.range 64).map (fun i => mixSamp (old.getD i 0) (tl.getD i 0) (i + 1) 64)
      s1.setChan j { ch with hist := mixed.reverse ++ ch.hist.drop 64 }) s

/-- Lines a slot keeps after their release, for its outputs' line buffers. -/
def relKeep : Nat := 30000

/-- A released line joins the lines the outputs and the fabric read. -/
def State.putRel (s : State) (n : Nat) (u : QLine) : State :=
  let sl := s.slot n
  s.setSlot n { sl with rel := (u :: sl.rel).take relKeep }

/-- A late line or sample is counted (R151). -/
def State.countLate (s : State) (n : Nat) : State :=
  (((s.bump (O.slotLateLines n)).rcAdd (rAlnLate n) 31 16).setBit (rAlnEvt n) 6).countSecond 0x5007 n 1 (p8 n)

/-- A member of the group of slot n begins to underrun (R158): event 0x5003 names its SID. -/
def State.underrun (s : State) (n sid : Nat) : State :=
  (s.setAligns (s.groupSlots n) 5).alnEvent n 2 0x5003 (p8 n ++ p32 sid)

/-- A member of the group of slot n has rejoined (R159): event 0x5004; with no member absent the group is aligned. -/
def State.rejoined (s : State) (n sid missed : Nat) : State :=
  let s1 := s.alnEvent n 3 0x5004 (p32 sid ++ p32 missed)
  if s1.groupMissing n then s1 else s1.setAligns (s1.groupSlots n) 2

/-- The active samples that a line delivers (R168): one with a poisoned word reads as the same line of the previous frame, or as the
last good line. -/
def State.storedLine (s : State) (n line sub : Nat) (u : QLine) : List Byte :=
  let m := s.member n sub
  let sl := s.slot n
  if s.poisonedLine n u then
    (if sl.mode = 1 then ((sl.last.find? (fun v => v.n == line && v.sub == sub)).map (fun v => v.data)).getD m.good else m.good)
  else u.data

/-- One link's line at its slot (R151, R158). -/
def State.releaseSub (s : State) (n key k line sub : Nat) : State :=
  let f := s.relRaster n
  let sl := s.slot n
  let m := s.member n sub
  let here := s.isPresent (lkey n 0 sub)
  let ex := sl.flowExtras key line
  match sl.q.find? (fun u => u.k == key && u.n == line && u.sub == sub) with
  | some u =>
    let data := s.storedLine n line sub u
    let s1 := if m.missing && line == 1 then
        (s.setMember n sub { m with missing := false, missed := 0 }).rejoined n (s.memberSid n sub) m.missed else s
    let m1 := s1.member n sub
    let s2 := s1.setMember n sub { m1 with good := if fmtActive f line then data else m1.good }
    (s2.putRel n { u with k := k, data := data, anc := u.anc ++ ex.1, tc := u.tc ++ ex.2 }).releaseAudio n sub k key line (some u)
  | none =>
    let copy : QLine := ⟨k, line, sub, s.tm.pt, if fmtActive f line then m.good else [], ex.1, [], ex.2⟩
    if here && !m.missing && !m.skip && m.cur.isSome then
      let s1 := if fmtActive f line then s.countLate n else s
      (s1.putRel n copy).releaseAudio n sub k key line none
    else
      let s0 := if m.missing then s
        else (s.setMember n sub { m with missing := true, missed := 0 }).underrun n (s.memberSid n sub)
      let m0 := s0.member n sub
      let s1 := if fmtActive f line then
          ((s0.setMember n sub { m0 with missed := m0.missed + 1 }).bump (O.slotUnderrunLines n)).rcAdd (rAlnLate n) 15 0
        else s0
      (s1.putRel n copy).releaseAudio n sub k key line none

/-- An audio or ancillary flow of the source of slot n at a release (R34, R158, R159): absent while the source goes on it underruns, and
present again it rejoins at line 1; `line` is 0 for a source without video. -/
def State.releaseFlow (s : State) (n line key : Nat) : State :=
  let m := s.fmember key
  let sid := s.devIndex * 2 ^ 28 + key
  if s.isPresent key then
    (if m.missing then
       (if line ≤ 1 then (s.setFmember key { m with missing := false, missed := 0, cur := some 0 }).rejoined n sid m.missed else s)
     else if m.cur.isSome then s else s.setFmember key { m with cur := some 0 })
  else if m.cur.isNone then s
  else if m.missing then
    (if line ≠ 0 ∧ fmtActive (s.relRaster n) line then s.setFmember key { m with missed := m.missed + 1 } else s)
  else (s.setFmember key { m with missing := true, missed := if line ≠ 0 ∧ fmtActive (s.relRaster n) line then 1 else 0 }).underrun n sid

/-- Whether the release of this line begins an underrun of a member, which reports fault source 160 (Table 14-2). -/
def State.underrunBegins (s : State) (n key line : Nat) : Bool :=
  (s.slotSubs n).any (fun b =>
    let m := s.member n b
    !m.missing && !(s.isPresent (lkey n 0 b) && !m.skip && m.cur.isSome) &&
      !((s.slot n).q.any (fun u => u.k == key && u.n == line && u.sub == b))) ||
  (s.flowMembers n).any (fun key => !s.isPresent key && (s.fmember key).cur.isSome && !(s.fmember key).missing)

/-- Samples of a channel from sample t0 to t1 while its source is lost: a ramp of 2 ms to silence that began at sample `ramp` − 1 (Table
5-1). -/
def State.lossSamples (s : State) (n k0 t0 t1 : Nat) : State :=
  let len := s.slotFs n / 500
  (List.range (s.slotChannels n)).foldl (fun s3 c =>
    let key := lkey n 1 c
    let ch := s3.chan key
    let from0 := (ch.raw (k0 - 2)).getD ch.lastSample
    s3.chanPush key t0 false true ((List.range (t1 - max t0 (min t1 ch.next))).map (fun i =>
      let j := max t0 ch.next + i + 1 - k0
      if j < len then mixSamp from0 0 j len else 0))) s

/-- The source of slot n is lost (R156): LOSS_ACTION applies from here on. `t0` is the sample at which it does, and a ramp begins. -/
def State.lossBegins (s : State) (n t0 : Nat) (last : List QLine) : State :=
  let act := s.num (O.slotLossAction n)
  let s0 := s.alnEvent n 8 0x5009 (p8 n ++ p8 act)
  let sl := s0.slot n
  if act = 0 then
    (let s1 := (s0.setSlot n { sl with lost := true, running := false, contF := 0 }).setAlign n 1
     match (s1.groupSlots n).find? (fun m => (s1.slot m).heldOut && !(s1.groupSlots n).any (fun a => (s1.slot a).running && !(s1.slot a).lost && !(s1.slot a).heldOut)) with
     | some m => (s1.slotAcquire m).setPresents ((s1.slotAcquire m).inputStreams m) true
     | none => s1)
  else ((s0.setSlot n { sl with lost := true, ramp := t0 + 1, last := last }).setAlign n 4).setPresents (s0.slotStreams n) true

/-- The loss of the source applies to a line (R156, Table 5-1). A loss that begins with line 1 repeats the frame just released. -/
def State.lossLine (s : State) (n k line : Nat) : State :=
  let act := s.num (O.slotLossAction n)
  let f := s.relRaster n
  let sl := s.slot n
  let (t0, t1) := lineSamples f (s.slotFs n) k line
  let s1 := if sl.lost then s
    else s.lossBegins n t0 (if line = 1 then sl.rel.filter (fun u => u.k + 1 == k) else sl.last)
  if act = 0 then s1
  else
    let sl1 := s1.slot n
    let s2 := (s1.slotSubs n).foldl (fun s3 b =>
      let data := if act = 2 then (if fmtActive f line then blackLine f else [])
        else ((sl1.last.find? (fun v => v.n == line && v.sub == b)).map (fun v => v.data)).getD (s3.member n b).good
      s3.putRel n ⟨k, line, b, s3.tm.pt, data, [], [], []⟩) s1
    s2.lossSamples n sl1.ramp t0 t1

/-- What the first line of a release frame brings (R150, R153, R155): release begins, streams that were skipped are present again, the
audio is spliced, and lines no longer needed leave. -/
def State.frameStarts (s : State) (n k key : Nat) : State :=
  let sl := s.slot n
  let f := s.relRaster n
  let s0 := if s.num (O.slotAlignState n) = 1 ∨ s.num (O.slotAlignState n) = 3 then
      (s.setAlign n (if s.groupMissing n then 5 else 2)).alnEvent n 0 0x5001
        (p8 n ++ p8 sl.mode ++ beBytes 4 (twos 32 (ptToQ16Lines f (s.groupWait n))))
    else s
  let s1 := if sl.gaps.any (fun g => g.2 == sl.carried k) then s0.setPresents (s0.inputStreams n) true else s0
  let s2 := if sl.spliceAt.contains k || sl.spliceAt.contains 0 then s1.spliceAudio n k key else s1
  let sl2 := s2.slot n
  let fs := s2.slotFs n
  s2.setSlot n { sl2 with
    last := sl2.rel.filter (fun u => u.k + 1 == k)
    spliceAt := sl2.spliceAt.filter (fun x => decide (k < x))
    reform := false
    gaps := sl2.gaps.filter (fun g => decide (sl2.carried k ≤ g.2))
    contF := if sl2.q.any (fun u => u.k == key && u.n == 1) then 0 else sl2.contF
    sq := sl2.sq.filter (fun x => decide (sampleAt fs s2.tm.pt ≤ x.1 + fs))
    flowAnc := sl2.flowAnc.filter (fun a => sl2.rtp.any (fun p => decide (p.2 ≤ a.1)))
    flowTc := sl2.flowTc.filter (fun a => sl2.rtp.any (fun p => decide (p.2 ≤ a.1)))
    q := sl2.q.filter (fun u => decide (key ≤ u.k + 1)) }

/-- Whether the streams of slot n are being released (R172). -/
def State.setLive (s : State) (n : Nat) (v : Bool) : State :=
  if (s.slot n).live = v then s else s.setSlot n { s.slot n with live := v }

/-- Line `line` of release frame k of slot n comes to its slot (R147, R150, R156, R158). A frame that the line-mode window leaves out
finds its streams absent. -/
def State.releaseLine (s0 : State) (n k line : Nat) : State :=
  let c0 := (s0.slot n).carried k
  let s := if line = 1 ∧ (s0.slot n).mode = 0 ∧ (s0.slot n).running = true then s0.windowTest n c0 c0 else s0
  let f := s.relRaster n
  let sl := s.slot n
  let c := sl.carried k
  if f = 0 ∨ !(sl.running || sl.lost) then s
  else if sl.lost then (s.lossLine n k line).setLive n (s.num (O.slotLossAction n) != 0)
  else if sl.skips c then (if line = 1 then s.slotAbsent n else s).setLive n false
  else
    match sl.frameKey c with
    | none => s.setLive n false
    | some key =>
      if c < sl.first then s
      else
        let anyUnit := sl.q.any (fun u => u.k == key && u.n == line)
        let anyHere := (s.groupSlots n).any (fun m => !(s.slot m).lost && !(s.slot m).heldOut && s.slotPresent m)
        if !anyUnit && !anyHere then (s.lossLine n k line).setLive n (s.num (O.slotLossAction n) != 0)
        else
          let s1 := if line = 1 then s.frameStarts n k key else s
          let s2 := (s1.flowMembers n).foldl (fun (x : State) b => x.releaseFlow n line b) s1
          ((s2.slotSubs n).foldl (fun s2 b => s2.releaseSub n key k line b) s2).setLive n true

/-- Mean wait of the next source frame for grid frame k, over the last 8 source frames (R152); the latest slot of the group
decides (R157). -/
def State.meanWait (s : State) (n f k : Nat) : Int :=
  let sl := s.slot n
  let next : Int := sl.shown + 1
  let last : Int := (sl.nextF : Int) - 1
  let per : Int := framePt f
  let ws := (List.range sl.waits.length).map (fun i =>
    ((gridStart (f % 256) k + linesPt f (1 + s.lag) 1 : Nat) : Int) - per * (next - (last - (i : Nat))) - sl.waits.getD i 0)
  roundDiv (ws.foldl (· + ·) 0) ws.length

/-- The mean wait of some slots of a group: that of their latest. -/
def State.groupMeanWait (s : State) (g : List Nat) (f k : Nat) : Int :=
  let ws := (g.filter (fun m => !(s.slot m).waits.isEmpty && s.slotPresent m)).map (fun m => s.meanWait m f k)
  ws.foldl (fun a b => if b < a then b else a) (ws.headD 0)

/-- The slots of the group of slot n that take part in the frame-mode decision of grid frame k. -/
def State.decided (s : State) (n k : Nat) : List Nat :=
  (s.groupSlots n).filter (fun m =>
    let sl := s.slot m
    sl.mode == 1 && sl.running && !sl.lost && decide (sl.shownK < k))

/-- Grid frame k shows the source frame `step` frames after the last shown one on the slots of g; the waits of the frames entered
change by `dw` (R152). -/
def State.showFrame (s : State) (g : List Nat) (k step : Nat) (splice : Bool) (dw : Int) : State :=
  g.foldl (fun (x : State) m =>
    let sl := x.slot m
    let fr := sl.shown + step
    let y := x.setSlot m { sl with shown := fr, shownK := k, map := ((k, fr) :: sl.map).take 16,
                                   spliceAt := if splice then (k + sl.delay) :: sl.spliceAt else sl.spliceAt }
    (y.slotSubs m).foldl (fun (z : State) b => z.setMember m b { z.member m b with w := (z.member m b).w + dw }) y) s

/-- The frame-mode decision at the start of grid frame k, made for the slots of an aligned group together (R152, R157). -/
def State.frameDecision (s : State) (n k : Nat) : State :=
  let f := s.relRaster n
  let g := s.decided n k
  if f = 0 ∨ !g.contains n then s
  else
    let w := s.groupMeanWait g f k
    let per : Int := framePt f
    let later := (s.groupSlots n).filter (fun m => (s.slot m).mode == 1 && (s.slot m).running && !(s.slot m).lost && !g.contains m)
    let shift (x : State) (up : Bool) : State :=
      x.mapSlots later (fun sl =>
        let k1 := if up then sl.shownK + 1 else sl.shownK - 1
        if k < sl.shownK then { sl with first := k1, shownK := k1, map := [(k1, sl.shown)] } else sl)
    if w < 0 then
      g.foldl (fun (x : State) m => ((x.bump (O.slotFramesRepeated m)).rcAdd (rAlnSlip m) 31 16).alnEvent m 4 0x5005
        (p8 m ++ beBytes 4 (twos 32 (ptToQ16Lines f (w + per))))) ((shift (s.showFrame g k 0 true per) true).showWait n)
    else if w ≥ per then
      g.foldl (fun (x : State) m => ((x.bump (O.slotFramesDropped m)).rcAdd (rAlnSlip m) 15 0).alnEvent m 5 0x5006
        (p8 m ++ beBytes 4 (twos 32 (ptToQ16Lines f (w - per))))) ((shift (s.showFrame g k 2 true (-per)) false).showWait n)
    else (s.showFrame g k 1 false 0).showWait n

/-- The label of sample t of a source without video: AUDIO_OFFSET and 2 samples after its time (R236). -/
def State.offsetSamples (s : State) (fs : Nat) : Nat := ceilDiv (s.ess.offset * fs) 1000000 + 2

/-- Pacer time at which the sample of house sample time t of a source without video is released (R149). -/
def State.sampleRel (s : State) (fs t : Nat) : Nat := samplePt fs t + s.ess.offset * 1000 * ptNs

/-- A sample enters with its house sample time: of a source without video (R149), whose late sample is discarded (R151), or of an audio
flow beside its video (R130). -/
def State.enterSample (s : State) (n t c v : Nat) : State :=
  let fs := s.slotFs n
  let r := s.sampleRel fs t
  if !s.essOn ∨ s.ess.store.lostSlots.contains n then s
  else if s.slotHasVideo n then s.setSlot n { s.slot n with sq := (s.slot n).sq ++ [(t, c, v)] }
  else if r < s.tm.pt then s
  else
    let s := if (s.slot n).lost then s.slotAcquire n else s
    let sl := s.slot n
    let w := (r - s.tm.pt) * fs / (1000000000 * ptNs)
    s.setSlot n { sl with sq := sl.sq ++ [(t, c, v)], running := true, lost := false, minW := min sl.minW w,
                          first := if sl.running && !sl.lost then sl.first else t }

/-- The samples of house sample t of slot n at their release (R149, R151, R155, R156, R158). -/
def State.releaseSamples (s : State) (n t : Nat) : State :=
  let sl := s.slot n
  let fs := s.slotFs n
  let lbl := t + s.offsetSamples fs
  let anyUnit := sl.sq.any (fun x => x.1 == t)
  let anyHere := (s.groupSlots n).any (fun m => !(s.slot m).lost && s.slotPresent m)
  let drop (x : State) : State := x.setSlot n { x.slot n with sq := sl.sq.filter (fun y => decide (t < y.1)) }
  if !(sl.running || sl.lost) ∨ (!sl.lost && decide (t < sl.first)) = true then drop s
  else if sl.lost || (!anyUnit && !anyHere) then
    let s1 := if sl.lost then s else s.lossBegins n lbl sl.last
    (drop (if s.num (O.slotLossAction n) = 0 then s1 else s1.lossSamples n (s1.slot n).ramp lbl (lbl + 1))).setLive n
      (s.num (O.slotLossAction n) != 0)
  else
    let s0 := (s.flowMembers n).foldl (fun (x : State) b => x.releaseFlow n 0 b) s
    let s1 := (List.range (s.slotChannels n)).foldl (fun s2 c =>
      let key := lkey n 1 c
      let ch := s2.chan key
      match sl.sq.find? (fun x => x.1 == t && x.2.1 == c) with
      | some x =>
        let v := if s2.poisonedSample n c t (samplePt fs t) then ch.lastSample else x.2.2
        s2.chanPush key lbl (decide (ch.next ≠ lbl)) false [v]
      | none =>
        let s3 := s2.chanPush key lbl (decide (ch.next ≠ lbl)) false [ch.lastSample]
        if s2.isPresent key then s3.countLate n else s3) s0
    let s2 := (drop s1).setLive n true
    if s2.num (O.slotAlignState n) = 1 then
      (s2.setAlign n 2).alnEvent n 0 0x5001 (p8 n ++ p8 sl.mode ++ p32 0)
    else s2

end Sys2Proof.Machine
end

