-- ==== Sys2Proof/Machine/FabCore.lean ====
section
/-! DEFINITION. The Relay fabric's shared operations: links, held subscriptions and requests (R198, R202). -/

namespace Sys2Proof.Machine

/-- Whether a run of streams from `base` holds a SID. -/
def runHas (base count sid : Nat) : Bool := decide (base ≤ sid) && decide (sid < base + count)

/-- The held subscription that carries a remote SID: its channel and record. -/
def State.heldFor (s : State) (sid : Nat) : Option (Nat × HeldSub) :=
  (s.link (sidDev sid)).subs.find? (fun p => runHas p.2.sid p.2.count sid)

/-- Lines a second of a raster times 1001, exact for every rate of Table 1-7. -/
def lineRate1001 (f : Nat) : Nat := let (num, den) := rateFrac (f % 256); fmtLines f * num * (1001 / max 1 den)

/-- The audio rate of a held audio subscription in Hz, as its charge tells it (R199). -/
def HeldSub.fs (h : HeldSub) : Nat :=
  let fl := if h.fmt = 0 then 8000 * 1001 else lineRate1001 h.fmt
  let c (fs : Nat) : Nat := ceilDiv (h.count * 24 * fs * 1001 + 64 * (if h.fmt = 0 then fl else min (fs * 1001) fl)) (1001 * 1000000)
  if c 96000 ≤ h.charge then 96000 else 48000

/-- Whether a request for a SID is under way. -/
def State.asked (s : State) (sid : Nat) : Option SubAsk :=
  (s.link (sidDev sid)).asks.find? (fun a => runHas a.sid a.count sid)

/-- Whether a SID is published by a peer. -/
def State.sidRemote (s : State) (x : Nat) : Bool := !sidGen x && !s.sidLocal x

/-- Sends SUB_REQ for a run of streams to the device that publishes it, for the first time or again; answers its REQ_ID. -/
def State.sendAsk (s : State) (again : Bool) (sid count purpose : Nat) : Nat × State :=
  let j := sidDev sid
  let l := s.link j
  let r := l.nextReq
  (r, (s.setLink j { l with nextReq := (r + 1) % 65536, asks := l.asks ++ [⟨r, sid, count, purpose, again⟩] }).ctlSend j 1 r
    (beBytes 4 sid ++ beBytes 1 count ++ beBytes 1 purpose ++ beBytes 2 0))

/-- Sends SUB_REQ for a run of streams that a new use needs. -/
def State.askSub (s : State) (sid count purpose : Nat) : Nat × State := s.sendAsk false sid count purpose

/-- Whether this device may hold one subscription more over link j: 16,383 per link, 65,536 as subscriber (R198). -/
def State.mayHold (s : State) (j ch : Nat) : Bool :=
  (tfind (s.link j).subs ch).isSome ||
  (decide ((s.link j).subs.length < 16383) && decide ((s.fab.links.map (fun p => p.2.subs.length)).foldl (· + ·) 0 < 65536))

/-- Sends UNSUB for a held channel and forgets it. -/
def State.dropHeld (s : State) (j ch : Nat) : State :=
  let l := s.link j
  (s.setLink j { l with nextReq := (l.nextReq + 1) % 65536, subs := tdel l.subs ch, closing := ch :: l.closing }).ctlSend j 4 l.nextReq
    (beBytes 2 ch)

/-- Objects of link j. -/
def kLink (j sub : Nat) : Nat := objKey (0x4010 + j) sub

/-- CHARGE_TX, CHARGE_RX, SUBS_TX, SUBS_RX of a link and the device totals, brought up to date. -/
def State.linkObjs (s : State) (j : Nat) : State :=
  let l := s.link j
  let s1 := (((s.setNum (kLink j 9) ((l.pubs.map (fun p => p.2.charge)).foldl (· + ·) 0)).setNum (kLink j 10)
    ((l.subs.map (fun p => p.2.charge)).foldl (· + ·) 0)).setNum (kLink j 11) l.pubs.length).setNum (kLink j 12) l.subs.length
  (s1.setNum 0x400202 ((s1.fab.links.map (fun p => p.2.pubs.length)).foldl (· + ·) 0)).setNum 0x400203
    ((s1.fab.links.map (fun p => p.2.subs.length)).foldl (· + ·) 0)

/-- Runs of consecutive SIDs in a list: base and count, at most 128 long (Table 6-10). -/
def sidRuns : List Nat → List (Nat × Nat)
  | [] => []
  | x :: xs =>
    match sidRuns xs with
    | (b, n) :: rest => if b = x + 1 ∧ n < 128 ∧ sidClass x = 1 then (x, n + 1) :: rest else (x, 1) :: (b, n) :: rest
    | [] => [(x, 1)]

/-- A list of numbers in rising order without repeats. -/
def sortNat (l : List Nat) : List Nat := tkeys (l.foldl (fun (t : Tbl Unit) x => tput t x ()) [])

end Sys2Proof.Machine
end

