-- ==== Sys2Proof/Machine/TwinLink.lean ====
section
/-! DEFINITION. Sending over the twin link and mirroring (R372–R376), as the take engine, the dictionary and the fast path use
them. -/

namespace Sys2Proof.Machine

/-- TWIN_STATE. -/
def State.twinState (s : State) : Nat := s.num O.twinTwinState

/-- A twin-link message: the header of Table 12-2 in network order, and the body. -/
def twinMsg (type flags seq ack gen : Nat) (body : List Byte) : List Byte :=
  beBytes 1 type ++ beBytes 1 flags ++ beBytes 2 body.length ++ beBytes 4 seq ++ beBytes 4 ack ++ beBytes 4 gen ++ body

/-- One message leaves on the twin link. -/
def State.tlEmit (s : State) (type flags seq : Nat) (body : List Byte) : State :=
  s.emit (.twin (twinMsg type flags seq s.twin.rx (s.num O.twinSyncGeneration) body))

/-- Sends a numbered message (types 0x02 to 0x0A) while the link is up; at most 64 are under way unacknowledged, later ones
wait (R373). Mirror messages (0x02 to 0x05) count in SYNC_GENERATION. -/
def State.tlSend (s : State) (type : Nat) (body : List Byte) : State :=
  if !s.twin.up then s
  else
    let n := s.twin.tx + 1
    let go := decide (s.twin.unacked.length < 64)
    let s1 := if 2 ≤ type ∧ type ≤ 5 then s.bump O.twinSyncGeneration else s
    let s2 := { s1 with twin := { s1.twin with tx := n,
                                                unacked := s1.twin.unacked ++ [⟨n, type, body, b2n go, s1.now⟩] } }
    if go then s2.tlEmit type 0 n body else s2

/-- Sends a mirror message when this chip is the holder of a pair whose link is up (R374–R376). -/
def State.mirror (s : State) (type : Nat) (body : List Byte) : State :=
  if s.twin.role ≠ 0 ∧ s.twin.gate then s.tlSend type body else s

/-- Whether this chip is a joined non-holder: its journal is written from the holder's messages only (R376). -/
def State.joined (s : State) : Bool := s.twin.role != 0 && s.twin.up && s.twinState == 3

/-- A divergence from the holder: event 0xC005 with an area or output and this chip's code, fault source 257 and TWIN_STATE 2 are
asked for (R375, R376); the change of state follows with the twin block's next evaluation. -/
def State.diverge (s : State) (what code : Nat) : State :=
  ({ s with twin := { s.twin with diverged := true } }.setBit 0x416004 6).raise 0xC005 (p16 what ++ p16 code)

end Sys2Proof.Machine

namespace Sys2Proof

/-- RETRANSMISSION of a received header. -/
def TlHdr.retrans (h : TlHdr) : Bool := Machine.bitOf (Machine.ofBe ((h.raw.drop 1).take 1)) 0
/-- SEQ. -/
def TlHdr.seq (h : TlHdr) : Nat := Machine.ofBe ((h.raw.drop 4).take 4)
/-- ACK. -/
def TlHdr.ack (h : TlHdr) : Nat := Machine.ofBe ((h.raw.drop 8).take 4)
/-- GENERATION. -/
def TlHdr.generation (h : TlHdr) : Nat := Machine.ofBe ((h.raw.drop 12).take 4)

/-- TWIN_STATE of a received STATUS. -/
def TlStatusBody.state (b : TlStatusBody) : Nat := Machine.ofBe (b.raw.take 1)
/-- HB_CODE. -/
def TlStatusBody.hb (b : TlStatusBody) : Nat := Machine.ofBe ((b.raw.drop 1).take 1)
/-- A bit of FLAGS. -/
def TlStatusBody.flagBit (b : TlStatusBody) (n : Nat) : Bool := Machine.bitOf (Machine.ofBe ((b.raw.drop 2).take 1)) n
/-- GRANT. -/
def TlStatusBody.grant (b : TlStatusBody) : Bool := b.flagBit 0
/-- READY. -/
def TlStatusBody.ready (b : TlStatusBody) : Bool := b.flagBit 1
/-- HOLDING. -/
def TlStatusBody.holding (b : TlStatusBody) : Bool := b.flagBit 2
/-- SAFE. -/
def TlStatusBody.safe (b : TlStatusBody) : Bool := b.flagBit 3
/-- SERIAL. -/
def TlStatusBody.serial (b : TlStatusBody) : List Byte := (b.raw.drop 4).take 16
/-- A TS80 at a place of the body: seconds and nanoseconds. -/
def TlStatusBody.ts80 (b : TlStatusBody) (at_ : Nat) : Nat × Nat :=
  (Machine.ofBe ((b.raw.drop at_).take 6), Machine.ofBe ((b.raw.drop (at_ + 6)).take 4))
/-- The send TS80 of the sender's previous STATUS. -/
def TlStatusBody.sentTs (b : TlStatusBody) : Nat × Nat := b.ts80 20
/-- SEQ of the latest STATUS the sender received. -/
def TlStatusBody.heardSeq (b : TlStatusBody) : Nat := Machine.ofBe ((b.raw.drop 30).take 4)
/-- Receive TS80 of that STATUS. -/
def TlStatusBody.heardTs (b : TlStatusBody) : Nat × Nat := b.ts80 34

end Sys2Proof
end

