-- ==== Sys2Proof/Machine/Takes.lean ====
section
/-! DEFINITION. The take engine (07): output timing (R213), take records and their refusals (R215–R218), the journal (R237),
deadlines and batches (R224–R227), and abandonment at the safe state (R223). -/

namespace Sys2Proof.Machine

/-- OUT_EVT_o. -/
def rOutEvt (o : Nat) : Nat := 0x18100C + 0x10 * o

/-- Raises an output event and sets its bit of OUT_EVT_o (R239). -/
def State.outEvent (s : State) (o bit code : Nat) (payload : List Byte) : State :=
  (s.setBit (rOutEvt o) bit).raise code payload

/-! ### Output timing (R213, R31, R32) -/

/-- The values of output o for grid frame k: SWITCH_LINE, TAKE_DEADLINE and AUDIO_RATE change at the first frame start after
their commit. -/
def State.outNew (s : State) (o k : Nat) : Bool :=
  decide ((s.out_ o).changeAt ≤ gridStart (s.outRaster o % 256) k)

/-- The switching line of output o in grid frame k. -/
def State.switchLine (s : State) (o k : Nat) : Nat :=
  let v := if s.outNew o k then s.num (O.outSwitchLine o) else (s.out_ o).oldSw
  if v = 0 then fmtSwitchDefault (s.outRaster o) else v

/-- TAKE_DEADLINE of output o in grid frame k. -/
def State.outDeadline (s : State) (o k : Nat) : Nat :=
  if s.outNew o k then s.num (O.outTakeDeadline o) else (s.out_ o).oldDeadline

/-- AUDIO_RATE of output o in grid frame k, in kHz. -/
def State.outAudioRate (s : State) (o k : Nat) : Nat :=
  if s.outNew o k then s.num (O.outAudioRate o) else (s.out_ o).oldRate

/-- The video in force on output o. -/
def State.outVideo (s : State) (o : Nat) : Nat := s.num (O.takeVideoSid o)

/-- C_o for a video SID: 1 while another device publishes it. -/
def State.remoteBit (s : State) (sid : Nat) : Nat := b2n (s.sidRemote sid)

/-- The raster converter in force on output o, if any (R319). -/
def State.convOf (s : State) (o : Nat) : Option Nat :=
  (s.comp.convOn.find? (fun p => p.2 == o + 1)).map Prod.fst

/-- What a converter in force adds to T_out: one frame of the output raster (R320). -/
def State.convPt (s : State) (o : Nat) : Nat := if (s.convOf o).isSome then framePt (s.outRaster o) else 0

/-- T_out(n) of output o in grid frame k, with the video SID given (R213). -/
def State.outTime (s : State) (o sid k n : Nat) : Nat :=
  let f := s.outRaster o
  gridStart (f % 256) k + linesPt f (n - 1) 1 + linesPt f (4 + s.lag + s.remoteBit sid) 1 + s.convPt o

/-! ### Take records (Table 7-1) -/

/-- A record from its 32 bytes, little-endian (ring) or network order (TAKE_BATCH). -/
def decodeTake (le : Bool) (b : List Byte) : TakeRec :=
  let g (i n : Nat) : Nat := let x := (b.drop i).take n; if le then ofLe x else ofBe x
  let fl := byteAt b 1
  { output := byteAt b 0, last := bitOf fl 7, split := bitOf fl 6, setTc := bitOf fl 3, setAudio := bitOf fl 2,
    setAnc := bitOf fl 1, setVideo := bitOf fl 0, amode := byteAt b 2, trans := byteAt b 3, batch := g 4 4, video := g 8 4,
    anc := g 12 4, tc := g 16 4, aref := g 20 4, count := byteAt b 24, first := byteAt b 25, tag := g 26 2 }

/-- A record's 32 bytes in network order, as a TAKE message carries it (Table 12-3). -/
def encodeTake (r : TakeRec) : List Byte :=
  let fl := b2n r.last * 128 + b2n r.split * 64 + b2n r.setTc * 8 + b2n r.setAudio * 4 + b2n r.setAnc * 2 + b2n r.setVideo
  beBytes 1 r.output ++ beBytes 1 fl ++ beBytes 1 r.amode ++ beBytes 1 r.trans ++ beBytes 4 r.batch ++ beBytes 4 r.video ++
    beBytes 4 r.anc ++ beBytes 4 r.tc ++ beBytes 4 r.aref ++ beBytes 1 r.count ++ beBytes 1 r.first ++ beBytes 2 r.tag ++
    beBytes 4 0

/-- The video in force after a record. -/
def State.recVideo (s : State) (r : TakeRec) : Nat := if r.setVideo then r.video else s.outVideo r.output

/-- The positions a record sets with their channels (R215). -/
def State.recChans (s : State) (r : TakeRec) : List (Nat × Nat) :=
  if !r.setAudio then []
  else
    (List.range r.count).map (fun k =>
      (r.first + k,
       if r.amode = 0 then
         (let v := s.recVideo r; mkSid (sidDev v) (sidSlot v) 1 k)
       else if r.amode = 1 then r.aref + k
       else s.num (O.mapEntry r.aref k)))

/-- Whether a SID may be taken for a part of the given class (R216, R217). -/
def State.sidTakeable (s : State) (x cls : Nat) : Bool :=
  sidOk x && sidClass x == cls &&
  (if sidGen x then decide (sidSlot x ≤ 244)
   else decide (sidDev x < s.meshSize) &&
    (if s.sidLocal x then
      s.slotEnabled (sidSlot x) && s.slotKind (sidSlot x) != 0 &&
      (match cls with
       | 0 => sidSub x == 0
       | 1 => decide (sidSub x < s.slotChannels (sidSlot x))
       | 2 => decide (sidSub x < s.num (O.slotAncStreams (sidSlot x))) && !(s.slotQuad (sidSlot x) && sidSub x != 0)
       | _ => true)
     else !(cls == 0 && sidSub x != 0) && !(cls == 2 && sidSub x != 0 && (s.heldFor (mkSid (sidDev x) (sidSlot x) 0 1)).isSome)))

/-- Whether the range, mode and transition of a record are accepted, whichever parts it sets. -/
def recRangeOk (r : TakeRec) : Bool :=
  decide (r.amode ≤ 2) && decide (r.trans ≤ 3) && decide (r.first + r.count ≤ 128) && (!r.setAudio || decide (1 ≤ r.count)) &&
  !(r.amode == 2 && decide (r.aref > 1023))

/-- Whether STEP_POLICY of an output bars a record: it would change C_o (R214). -/
def State.stepBars (s : State) (r : TakeRec) : Bool :=
  r.setVideo && s.num (O.outStepPolicy r.output) == 1 && s.remoteBit r.video != s.remoteBit (s.outVideo r.output)

/-- The status a record is refused with, 0 if it is accepted (R217, R214). -/
def State.recStatus (s : State) (r : TakeRec) : Nat :=
  if s.outputKind r.output = 0 ∨ s.outRaster r.output = 0 then 0x6012
  else if r.setVideo && !s.sidTakeable r.video 0 || r.setAnc && !s.sidTakeable r.anc 2 || r.setTc && !s.sidTakeable r.tc 3 then
    0x6013
  else if !recRangeOk r then 0x6016
  else if r.setAudio && r.amode != 0 && (s.recChans r).any (fun p => !s.sidTakeable p.2 1) then 0x6013
  else if s.stepBars r then 0x601A
  else 0

/-- The streams of the links of a taken stream of another device: while the first is not held its source may be a quad-link source, and all four
are needed; once it is, the links its source has are held with it (R216, R224). -/
def State.linkNeeds (s : State) (sid : Nat) : List Nat :=
  if sidSub sid ≠ 0 then [sid]
  else ((List.range 4).map (fun i => sid + i)).filter (fun x => x == sid || (s.heldFor sid).isNone || (s.heldFor x).isSome)

/-- The remote streams a record needs (R224): the links of a video or ancillary stream of another device, its time code and
the channels it sets. -/
def State.recNeeds (s : State) (r : TakeRec) (chans : List (Nat × Nat)) : List Nat :=
  sortNat (((if r.setVideo then s.linkNeeds r.video else []) ++ (if r.setAnc then s.linkNeeds r.anc else []) ++ (if r.setTc then [r.tc] else []) ++
    chans.map Prod.snd).filter (fun x => s.sidRemote x))

/-- Those of the streams that are not held. -/
def State.notHeld (s : State) (l : List Nat) : List Nat := l.filter (fun x => (s.heldFor x).isNone)

/-! ### The journal (R237, Tables 7-6 and 7-7) -/

/-- Output FRAME_COUNT of grid frame k. -/
def State.frameCount (s : State) (o k : Nat) : Nat :=
  let x := s.out_ o
  ((s.num (O.takeFrameCount o) : Int) + (k : Int) - (x.lastGrid : Int)).toNat % 2 ^ 32

/-- The first 60 bytes of an entry, with the byte order given for its fields. -/
def journalBytes (f : Nat → Nat → List Byte) (seq status origin : Nat) (split : Bool) (r : TakeRec) (v a t ar ta sw fc : Nat) :
    List Byte :=
  f 4 seq ++ f 2 status ++ f 1 r.output ++ f 1 (origin * 16 + b2n split) ++ f 4 r.batch ++ f 4 v ++ f 4 a ++ f 4 t ++ f 4 ar ++
  f 1 r.amode ++ f 1 (if r.setAudio then r.count else 0) ++ f 2 r.tag ++ f 12 ta ++ f 12 sw ++ f 4 fc

/-- A journal entry takes its place and JOURNAL_IRQ signals (Table 7-7). -/
def State.putEntry (s : State) (seq : Nat) (b : List Byte) : State :=
  let s1 := s.setBytesAt (0x100000 + 64 * (seq % 8192)) (b ++ leBytes 4 (crc32 b).toNat)
  let n := s1.ess.takes.jsince + 1
  let irq := s1.reg 0x180004
  let due := decide (max 1 (fld irq 13 0) ≤ n)
  let s2 := { s1 with ess := { s1.ess with takes := { s1.ess.takes with jseq := (seq + 1) % 2 ^ 32,
                                                                         jsince := if due then 0 else n } } }
  let s3 := s2.setNum O.journalJournalSeq ((seq + 1) % 2 ^ 32)
  if due && bitOf irq 31 then s3.signal (fld irq 26 16) else s3

/-- The outcome of this chip's own take engine meets the holder's entry (R376); a deferral decides nothing. -/
def State.compareOwn (s : State) (batch o status : Nat) : State :=
  if status = 0x6010 then s
  else
    match s.twin.told.find? (fun q => q.1 == batch && q.2.1 == o) with
    | some q =>
      let s1 := { s with twin := { s.twin with told := s.twin.told.filter (fun r => !(r == q)) } }
      if q.2.2 = status then s1 else s1.diverge o status
    | none => { s with twin := { s.twin with expected := ((batch, o, status) :: s.twin.expected).take 1024 } }

/-- Writes one journal entry (R237); a holder sends it to its partner, and a joined partner only compares (R376). -/
def State.journal (s : State) (status origin : Nat) (split : Bool) (r : TakeRec) (ta k : Nat) : State :=
  if s.joined then s.compareOwn r.batch r.output status
  else
    let o := r.output
    let v := if r.setVideo then r.video else s.outVideo o
    let a := if r.setAnc then r.anc else s.num (O.takeAncSid o)
    let t := if r.setTc then r.tc else s.num (O.takeTcSid o)
    let ar := if r.setAudio then r.aref else (s.out_ o).aref
    let sw := s.outTime o v k (s.switchLine o k) / 2 ^ 32 % 2 ^ 96
    let seq := s.ess.takes.jseq
    let e (f : Nat → Nat → List Byte) : List Byte :=
      journalBytes f seq status origin split r v a t ar (ta / 2 ^ 32 % 2 ^ 96) sw (s.frameCount o k)
    (s.mirror 4 (e beBytes ++ beBytes 4 (crc32 (e leBytes)).toNat)).putEntry seq (e leBytes)

/-- Signals a ring's vector when one of its batches is journaled. -/
def State.ringIrq (s : State) (origin : Nat) : State :=
  if origin ≤ 3 then
    (let c := s.reg (0x010008 + 0x40 * origin)
     if bitOf c 30 then s.signal (fld c 26 16) else s)
  else s

/-! ### Batches -/

/-- Stores the list of batches. -/
def State.setBatches (s : State) (l : List Batch) : State :=
  { s with ess := { s.ess with takes := { s.ess.takes with batches := l } } }

/-- Records waiting in the pending store (R219). -/
def State.pendingRecs (s : State) : Nat := (s.ess.takes.batches.map (fun b => b.recs.length)).foldl (· + ·) 0

/-- PENDING of every output named, brought up to date. -/
def State.pendObj (s : State) (o : Nat) : State :=
  s.setNum (O.takePending o)
    (b2n (s.ess.takes.batches.any (fun b => b.recs.any (fun r => r.rec_.output == o))))

/-- The grid frame that is running for output o. -/
def State.outGrid (s : State) (o : Nat) : Nat := gridFrame (s.outRaster o % 256) s.tm.pt

/-- D_o(F): the take deadline of output o in grid frame k; `new` that the record needs a subscription not held (R224). -/
def State.takeDeadline (s : State) (o k : Nat) (new : Bool) : Nat :=
  let f := s.outRaster o
  let e0 := linesPt f (s.outDeadline o k) 1
  let e := if new then max e0 (linesPt f 4 1 + 20000 * ptNs) else e0
  s.outTime o (s.outVideo o) k (s.switchLine o k) - e

/-- The status of the latest refused record of a ring (Table 7-3). -/
def State.ringRefused (s : State) (origin status : Nat) : State :=
  if origin ≤ 3 then s.setReg (0x01000C + 0x40 * origin) (setFld (setFld (s.reg (0x01000C + 0x40 * origin)) 31 31 1) 15 0 status) else s

/-- Refuses a whole batch: an entry for each record, the ring's status, event 0x6003 (R217, R237). -/
def State.refuseBatch (s : State) (origin : Nat) (recs : List (TakeRec × Nat)) (ta : Nat) : State :=
  let split := (recs.getLast?.map (fun p => p.1.split)).getD false
  let s1 := recs.foldl (fun s2 p => s2.journal p.2 origin split p.1 ta (s2.outGrid p.1.output)) s
  let status := ((recs.find? (fun p => p.2 != 0x6019)).map Prod.snd).getD 0
  let id := (recs.head?.map (fun p => p.1.batch)).getD 0
  let latest := (((recs.filter (fun p => p.2 != 0x6019)).getLast?).map Prod.snd).getD status
  ((s1.raise 0x6003 (p32 id ++ p16 status)).ringRefused origin latest).ringIrq origin

/-- Ends a batch whose last record is gone: event 0x6001 with its count of outputs when it applied on any (R237), and its ring's vector. -/
def State.sweepBatches (s : State) : State :=
  s.ess.takes.batches.foldl (fun s1 b =>
    if b.recs.isEmpty then
      (let s2 := s1.setBatches (s1.ess.takes.batches.filter (fun c => c.order != b.order))
       (if b.applied = 0 then s2 else s2.raise 0x6001 (p32 b.id ++ p8 b.origin ++ p8 b.outs ++ p32 b.firstFrame)).ringIrq b.origin)
    else s1) s

/-- Requests the subscriptions a record needs and does not hold, as PURPOSE 0 (R224); answers what it waits for. -/
def State.askNeeds (s : State) (needs : List Nat) : List (Nat × Nat) × State :=
  let fresh := (s.notHeld needs).filter (fun x => (s.asked x).isNone)
  let already := (s.notHeld needs).filterMap (fun x => (s.asked x).map (fun a => (sidDev x, a.reqId)))
  (sidRuns fresh).foldl (fun p run =>
    let (r, s1) := p.2.askSub run.1 run.2 0
    (p.1 ++ [(sidDev run.1, r)], s1)) (already, s)

/-- Whether every link a record needs is up. -/
def State.needsUp (s : State) (needs : List Nat) : Bool := (s.notHeld needs).all (fun x => (s.link (sidDev x)).up)

/-- Accepts the records of a batch that names `outs` outputs: assigns its frames, requests its subscriptions and journals deferrals (R224,
R225). -/
def State.acceptBatch (s : State) (origin outs : Nat) (recs : List (TakeRec × List (Nat × Nat))) : State :=
  let ta := s.tm.pt
  let split := (recs.getLast?.map (fun p => p.1.split)).getD false
  let needs := recs.map (fun p => s.recNeeds p.1 p.2)
  let new (i : Nat) : Bool := !(s.notHeld (needs.getD i [])).isEmpty
  let lo := ((recs.head?.map (fun p => s.outRaster p.1.output)).getD 0) % 256
  let g0 := gridFrame lo ta - 1
  let outAt (i : Nat) : Nat := (recs.getD i ((⟨0, false, false, false, false, false, false, 0, 0, 0, 0, 0, 0, 0, 0, 0, 0⟩ : TakeRec), [])).1.output
  let meets (i k : Nat) : Bool := decide (ta ≤ s.takeDeadline (outAt i) k (new i))
  let ids := List.range recs.length
  let fr := ((List.range 4).find? (fun j => ids.any (fun i => meets i (g0 + j)))).getD 3 + g0
  let allIn := ids.all (fun i => meets i fr)
  let frameOf (i : Nat) : Nat := if split then (if meets i fr then fr else fr + 1) else (if allIn then fr else fr + 1)
  let (pr, s1) := ids.foldl (fun (p : List PendRec × State) i =>
    let r := (recs.getD i ((⟨0, false, false, false, false, false, false, 0, 0, 0, 0, 0, 0, 0, 0, 0, 0⟩ : TakeRec), []))
    let (asks, s2) := p.2.askNeeds (needs.getD i [])
    (p.1 ++ [⟨r.1, r.2, frameOf i, asks⟩], s2)) ([], s)
  let id := (recs.head?.map (fun p => p.1.batch)).getD 0
  let late := ids.filter (fun i => frameOf i != fr)
  let s3 := late.foldl (fun s2 i =>
    match pr[i]? with
    | some q => s2.journal 0x6010 origin split q.rec_ ta fr
    | none => s2) s1
  let s4 := if late.isEmpty then s3
    else
      (let i := (ids.find? (fun i => !meets i fr)).getD 0
       s3.raise 0x6002 (p32 id ++ p8 (outAt i) ++ p32 ((ta - s.takeDeadline (outAt i) fr (new i)) / ptNs)))
  let b : Batch := ⟨id, origin, ta, s4.ess.takes.order, split, false, 0, 0, pr, outs⟩
  let s5 := { s4 with ess := { s4.ess with takes := { s4.ess.takes with batches := s4.ess.takes.batches ++ [b],
                                                                         order := s4.ess.takes.order + 1 } } }
  let body := beBytes 12 (ta / 2 ^ 32) ++ (pr.map (fun q =>
    beBytes 12 (s5.outTime q.rec_.output (s5.outVideo q.rec_.output) q.frame (s5.switchLine q.rec_.output q.frame) / 2 ^ 32) ++
      encodeTake q.rec_)).flatten
  recs.foldl (fun s6 p => s6.pendObj p.1.output) ((if late.isEmpty then s5 else s5.ringIrq origin).mirror 2 body)

/-- Whether mirrored areas, take batches and fast-path commits are refused on this chip: it does not hold the Baton while the
twin link is up, or it is releasing it (R57, R222, R370). -/
def State.twinRefuses (s : State) : Bool :=
  s.twin.role != 0 && ((s.twin.up && !s.twin.gate) || s.num O.twinTwinState == 7)

/-- What a batch as a whole is refused with before its records are judged: 0 accepted (R223, R222, R491). -/
def State.takeGate (s : State) : Nat :=
  if s.flt.safe then 0x0009
  else if s.num O.startStartPhase < 5 then 0x1003
  else if s.twinRefuses then 0x000D
  else 0

/-- Whether a batch is malformed (R218); BATCH_ID 0, out of the range of Table 7-1, makes it so (DESIGN CHOICE, log entry 197). -/
def batchMalformed (recs : List TakeRec) : Bool :=
  match recs with
  | [] => true
  | r :: _ => r.batch == 0 || recs.any (fun x => x.batch != r.batch) || decide (recs.length > 128) ||
    decide ((sortNat (recs.map TakeRec.output)).length ≠ recs.length)

/-- A complete batch arrives; answers the status it is accepted (0) or refused with. Only a ring's decoding stops while the pending store is
full: a batch that comes by TAKE_BATCH, take state or the partner is taken beyond its 8,192 records (DESIGN CHOICE, log entry 196). -/
def State.arriveBatch (s : State) (origin : Nat) (recs : List TakeRec) : Nat × State :=
  let ta := s.tm.pt
  let all (st : Nat) : Nat × State := (st, s.refuseBatch origin (recs.map (fun r => (r, st))) ta)
  if batchMalformed recs then all 0x6015
  else if s.takeGate ≠ 0 then all s.takeGate
  else
    let sts := recs.map (fun r => (r, s.recStatus r))
    match sts.find? (fun p => p.2 != 0) with
    | some p => (p.2, s.refuseBatch origin (sts.map (fun q => (q.1, if q.2 = 0 then 0x6019 else q.2))) ta)
    | none =>
      let lo := ((recs.head?.map (fun r => s.outRaster r.output)).getD 0) % 256
      if recs.any (fun r => s.outRaster r.output % 256 != lo) then all 0x6014
      else
        let rc := recs.map (fun r => (r, s.recChans r))
        let down := rc.map (fun p => s.needsUp (s.recNeeds p.1 p.2))
        let split := (recs.getLast?.map (fun r => r.split)).getD false
        if down.all id then (0, s.acceptBatch origin recs.length rc)
        else if split then
          let bad := (rc.zip down).filter (fun p => !p.2)
          let good := (rc.zip down).filter (fun p => p.2)
          let s1 := bad.foldl (fun s2 p => s2.journal 0x6017 origin true p.1.1 ta (s2.outGrid p.1.1.output)) s
          let s2 := (s1.ringRefused origin 0x6017).ringIrq origin
          (if good.isEmpty then (0x6017, s2.raise 0x6003 (p32 ((recs.head?.map TakeRec.batch).getD 0) ++ p16 0x6017))
           else (0, s2.acceptBatch origin recs.length
                  (good.map (fun p => ({ p.1.1 with split := true }, p.1.2)))))
        else (0x6017, s.refuseBatch origin ((rc.zip down).map (fun p => (p.1.1, if p.2 then 0x6019 else 0x6017))) ta)

/-- Takes accepted and not applied are abandoned when the safe state begins, with the transitions they began (R229); a batch that has applied
on an output completes (R223). -/
def State.abandonTakes (s : State) : State :=
  let gone := s.ess.takes.batches.filter (fun b => b.applied == 0)
  let s1 := gone.foldl (fun s2 b => b.recs.foldl (fun s3 r => s3.journal 0x6018 b.origin b.split r.rec_ b.ta r.frame) s2) s
  let s2 := s1.setBatches (s1.ess.takes.batches.filter (fun b => b.applied != 0))
  gone.foldl (fun s3 b => (b.recs.foldl (fun (s4 : State) r =>
    let o := r.rec_.output
    let x := s4.out_ o
    (s4.setOut o { x with trans := x.trans.filter (fun p => p.2.by_ != b.order) }).pendObj o) s3).ringIrq b.origin) s2

end Sys2Proof.Machine
end

