-- ==== Sys2Proof/Machine/TwinCore.lean ====
section
/-! DEFINITION. The Baton interlock, the twin states and sending over the twin link (R359–R363, R372, R373, R379), as the
fault collector, the take engine and the twin commands share them. -/

namespace Sys2Proof.Machine

/-- TWIN_EVT. -/
def rTwinEvt : Nat := 0x416004

/-- Whether an object belongs to the running sets and the take state of the mirrored areas: a value that is written. -/
def mirroredObj (k : Nat) : Bool :=
  areaMirrored (areaOf (keyIx k)) && !areaCtls.contains (keyIx k) &&
  (match objDef (keyIx k) (keySub k) with | some d => d.acc == .rws || d.acc == .rw || d.acc == .rwt | none => false)

/-- The mirrored running values are kept as a chip becomes isolated, for R378. -/
def State.keepBase (s : State) : State :=
  { s with twin := { s.twin with base := some (s.objs.filter (fun p => mirroredObj p.1)) } }

/-- Changes TWIN_STATE, with event 0xC001 (R379). -/
def State.setTwin (s : State) (v : Nat) : State :=
  if s.twinState = v then s
  else ((if v = 4 then s.keepBase else s).setNum O.twinTwinState v).raise 0xC001 (p8 s.twinState ++ p8 v)

/-- STANDBY, or ISOLATED while the twin link is down. -/
def State.twinRest (s : State) : State := s.setTwin (if s.twin.up then 3 else 4)

/-- The gate as the hardware forms it (R359). -/
def TwinSt.gateWould (t : TwinSt) : Bool := t.claim && !t.pclaim && t.grant

/-- The gate is evaluated again; `cause` is what a closing would be put down to (Table 12-7, 0xC007). -/
def State.evalGate (s : State) (cause : Nat) : State :=
  let g := s.twin.gateWould
  if g = s.twin.gate then s
  else if g then
    let s1 := { s with twin := { s.twin with gate := true, gateOnce := true, heldEver := true, current := true, sdiHold := 0, relT := 0, base := none } }
    let s2 := if s.twin.gateOnce then s1.bump O.twinHandovers else s1
    let s3 := ((s2.setNum O.twinLastGateChange s2.pt96).setBit rTwinEvt 3).raise 0xC006 (p96 s2.pt96)
    if s3.twinState = 5 then s3.setTwin 6 else s3
  else
    let s1 := { s with twin := { s.twin with gate := false,
                                             sdiHold := if s.twin.role = 0 then 0 else s.now + 1, sdiLines := 0, relT := 0 } }
    let s2 := ((s1.setNum O.twinLastGateChange s1.pt96).setBit rTwinEvt 4).raise 0xC007 (p8 cause ++ p32 0)
    if s2.twinState = 6 ∨ s2.twinState = 7 then s2.twinRest else s2

/-- Lowers BATON_CLAIM. -/
def State.lowerClaim (s : State) (cause : Nat) : State :=
  let s1 := ({ s with twin := { s.twin with claim := false } }).evalGate cause
  if s1.twinState = 5 then s1.twinRest else s1

/-- Twin behaviour as the safe state begins (R367, Table 12-4). -/
def State.twinSafe (s : State) : State :=
  if s.twin.role = 0 ∨ s.twinState = 0 then s
  else
    let s1 := if s.twin.gate then s.tlSend 9 (beBytes 12 0)
      else { s with twin := { s.twin with claim := false } }
    (({ s1 with twin := { s1.twin with relT := 0 } })).setTwin 8

/-- Twin behaviour as the safe state ends (Table 12-4). -/
def State.twinUnsafe (s : State) : State :=
  if s.twin.role = 0 ∨ s.twinState ≠ 8 then s
  else if s.twin.gate then s.setTwin 6 else s.twinRest

end Sys2Proof.Machine
end

