-- ==== Sys2Proof/Machine/Faults.lean ====
section
/-! DEFINITION. Fault reports, the end of conditions, and entry into the safe state (R411–R419). -/

namespace Sys2Proof.Machine

/-- What a running trial image does when the safe state begins: it falls back with cause 2 (R480); the activation itself is
started by the update engine, which this flag asks. -/
def State.askFallBack (s : State) (cause : Nat) : State :=
  if s.upd.trial && s.upd.fallBack == 0 then { s with upd := { s.upd with fallBack := cause } } else s

/-- The safe state begins with a cause: a source, 0xFFFF or 0xFFFE (R416, R417). A cause that finds it holding changes
nothing. -/
def State.enterSafe (s : State) (cause : Nat) : State :=
  if s.flt.safe then s
  else
    let s1 := ({ s with flt := { s.flt with safe := true } }).raise 0xA004 (p16 cause)
    let s2 := (s1.setNum 0xA00103 1).setNum 0xA00104 cause
    ((s2.abandonTakes).twinSafe).askFallBack 2

/-- Classified severity of a report and its cause field: k reports in the window with this one (R411). -/
def State.classify (s : State) (n k : Nat) : Nat × Nat :=
  let base := s.num (kSrc n 1)
  let lim := s.num (kSrc n 2)
  let counted := decide (lim ≠ 0) && decide (lim ≤ k)
  let sev := if counted then max base (s.num (kSrc n 4)) else base
  if s.flag 0xA00101 && decide (1 ≤ sev) && decide (sev < 3) && s.classUnacked (n / 32) then (sev + 1, 2)
  else (sev, if counted then 1 else 0)

/-- A report of source n, raised for event `code` (0 none), reaches the collector (R411, R412, R416). -/
def State.report (s : State) (n code : Nat) : State :=
  if !srcNamed n then s
  else
    let v := s.src n
    if srcIsCondition n && v.cond then s
    else
      let w := s.now :: s.srcWindow n
      let k := w.length
      let (sev, cause) := s.classify n k
      let v1 : SrcSt := { state := if sev = 0 then v.state else 1,
                          sev := if sev = 0 then v.sev else max v.sev sev,
                          times := w, reports := (v.reports + 1) % 2 ^ 32, last := s.now, cond := srcIsCondition n }
      let s1 := ((s.setSrc n v1).srcObjs n).setNum (kSrc n 9) s.pt96
      let payload := p16 n ++ p8 (n / 32) ++ p8 (sev * 16 + cause) ++ p16 code ++ p16 (min k 65535)
      let s2 := (s1.evtCountSignal 0xA001).record 0xA001 payload sev (srcPlane n)
      if sev = 3 then s2.enterSafe n else s2

/-- Clears a source whose fault is acknowledged and whose condition has ended (R414). -/
def State.clearIfDone (s : State) (n : Nat) : State :=
  let v := s.src n
  if v.state = 2 && !v.cond then
    let s1 := if v.sev = 3 then { s with upd := { s.upd with healthAt := s.now } } else s
    ((s1.setSrc n { v with state := 0, sev := 0 }).srcObjs n).raise 0xA003 (p16 n)
  else s

/-- The condition of a condition source ends. -/
def State.conditionEnd (s : State) (n : Nat) : State :=
  if srcIsCondition n && n != 33 && (s.src n).cond then
    (s.setSrc n { s.src n with cond := false }).clearIfDone n
  else s

/-- A held fault is acknowledged; a source that is not held is left alone (R414). -/
def State.ackSource (s : State) (n : Nat) : State :=
  if (s.src n).state = 0 then s
  else ((s.setSrc n { s.src n with state := 2 }).srcObjs n).clearIfDone n

end Sys2Proof.Machine
end

