-- ==== Sys2Proof/Machine/PacerCore.lean ====
section
/-! DEFINITION. The Pacer's core (11): steering, states, time steps, references, selection and switching, and a reference that becomes
absent. -/

namespace Sys2Proof.Machine

/-- PACER_EVT. -/
def rPacerEvt : Nat := 0x415004
/-- PACER_LOOP_CTRL. -/
def rLoopCtrl : Nat := 0x415020

/-- The Pacer with a change. -/
def State.setPac (s : State) (p : PacSt) : State := { s with pac := p }
/-- PTP instance i. -/
def State.ptp (s : State) (i : Nat) : PtpSt := tget ptpIdle s.pac.ptp i
/-- Stores PTP instance i. -/
def State.setPtp (s : State) (i : Nat) (v : PtpSt) : State :=
  { s with pac := { s.pac with ptp := tset ptpIdle s.pac.ptp i v } }
/-- Reference r. -/
def State.ref (s : State) (r : Nat) : RefSt := tget refIdle s.pac.refs r
/-- Stores reference r. -/
def State.setRef (s : State) (r : Nat) (v : RefSt) : State :=
  { s with pac := { s.pac with refs := tset refIdle s.pac.refs r v } }
/-- QUAL_STATE of reference r. -/
def State.qual (s : State) (r : Nat) : Nat := s.num (O.refQualState r)
/-- PACER_STATE. -/
def State.pacer (s : State) : Nat := s.num O.pacerPacerState

/-- Raises a Pacer event and sets its bit of PACER_EVT (R355). -/
def State.pacEvent (s : State) (bit code : Nat) (payload : List Byte) : State := (s.setBit rPacerEvt bit).raise code payload

/-! ### Steering (R326–R328) -/

/-- INCREMENT of a steering value, in 2^-64 ns (R328). -/
def incOf (ppt : Int) : Nat := (((5 * 2 ^ 62 : Nat) : Int) + roundDiv (((5 * 2 ^ 62 : Nat) : Int) * ppt) (10 ^ 12)).toNat

/-- The largest steering value. -/
def steerMax : Int := 200000000

/-- The steering value changes. -/
def State.steer (s : State) (ppt : Int) : State :=
  let v := clampInt (-steerMax) steerMax ppt
  let inc := incOf v
  (({ s with tm := { s.tm with inc := inc } }).setInt O.pacerSteering v).setNum O.pacerIncrement ((inc + 2 ^ 31) / 2 ^ 32)

/-- clockClass of the Pacer state (R351). -/
def State.clockClass (s : State) : Nat :=
  let st := s.pacer
  if st = 2 ∨ st = 3 then (if s.pac.sel = some 10 ∨ s.pac.sel = some 13 then 6 else 13)
  else if st = 4 then 7 else 248

/-- PACER_STATE, SELECTED and CLOCK_CLASS change (R339, R343, R351); every change of state raises event 0x2001. -/
def State.setPacer (s : State) (st : Nat) : State :=
  let old := s.pacer
  let sel := if st = 0 ∨ st = 4 then 0xFF else s.pac.sel.getD 0xFF
  let s1 := (s.setNum O.pacerPacerState st).setNum O.pacerSelected sel
  let s2 := s1.setNum O.gmClockClass s1.clockClass
  let s3 := if old = st then s2 else s2.pacEvent 0 0x2001 (p8 old ++ p8 st ++ p8 sel)
  if old = 4 ∧ st ≠ 4 then s3.conditionEnd 98 else s3

/-! ### References (R331–R334) -/

/-- Whether reference r gives time. -/
def refTime (r : Nat) : Bool := decide (r ≤ 3) || r == 13
/-- Whether reference r gives frequency only. -/
def refFreqOnly (r : Nat) : Bool := r == 8 || r == 9

/-- Period of a reference that gives phase within one, in 0.25 ns; 0 otherwise (R331). -/
def State.refPeriod (s : State) (r : Nat) : Nat :=
  if 4 ≤ r ∧ r ≤ 7 then
    (let (num, den) := rateFrac (s.num (O.refRate r))
     if num = 0 then 0 else s.num (O.refDivide r) * den * 4000000000 / num)
  else if r = 10 then 4000000000
  else if r = 11 ∨ r = 12 then
    (let f := s.num (O.sdiRasterDetected (s.num (O.refLane r)))
     let (num, den) := rateFrac (f % 256)
     if num = 0 then 0 else den * 4000000000 / num)
  else 0

/-- A phase of reference r in (−P/2, P/2] where it gives phase within a period P (R332). -/
def State.phaseWrap (s : State) (r : Nat) (e : Int) : Int :=
  let p := s.refPeriod r
  if p = 0 then e
  else
    let m := e % (p : Int)
    if 2 * m > (p : Int) then m - p else m

/-- A marker's time less the house instant, as a phase error: PHASE_OFFSET taken away (R332). -/
def State.phaseError (s : State) (r : Nat) (raw : Int) : Int := s.phaseWrap r (raw - 4 * s.int (O.refPhaseOffset r))

/-! ### Time steps (R344–R346) -/

/-- The step a reference's servo holds (R344): STEP_PENDING of a PTP instance; the partner's, which has no object. -/
def State.stepHeld (s : State) (r : Nat) : Int :=
  if r ≤ 3 then s.int (O.ptpStepPending r) else if r = 13 then s.pac.pend13 else 0

/-- Holds a step in ns for a reference, 0 for none. -/
def State.holdStep (s : State) (r : Nat) (v : Int) : State :=
  if r = 13 then s.setPac { s.pac with pend13 := v } else s.setInt (O.ptpStepPending r) v

/-- Ends of PTP requests held in STEP_PENDING on instances other than the selected one (R350). -/
def State.dropPending (s : State) : State :=
  [0, 1, 2, 3, 13].foldl (fun (x : State) i => if x.pac.sel ≠ some i ∧ x.stepHeld i ≠ 0 then x.holdStep i 0 else x) s

/-- A step in 2^-64 ns in 0.25 ns. -/
def quarterStep (d : Int) : Int := roundDiv (4 * d) ptNs

/-- A PTP instance's exchanges after a step of PT96 by d quarters of a nanosecond: its own times have moved. -/
def PtpSt.moved (x : PtpSt) (d : Int) : PtpSt :=
  { x with sync := x.sync.map (fun q => (q.1, ((q.2 : Int) + d).toNat)), req := x.req.map (fun q => (q.1, ((q.2 : Int) + d).toNat)),
           exchanges := x.exchanges.map (fun e => (e.1, e.2 + d)) }

/-- PT96 after a step in 2^-64 ns: a time before the epoch or past the format is a free value (DESIGN CHOICE, log entry 211). -/
def State.steppedPt (s : State) (d : Int) : Nat × State :=
  let t := (s.tm.pt : Int) + d
  if 0 ≤ t ∧ t < 2 ^ 128 then (t.toNat, s) else (s.freeNat.1 % 2 ^ 128, s.freeNat.2)

/-- PT96 moves by a step in 2^-64 ns: every slot's audio is spliced, and each reference shows the step as a phase error (R341, R346). -/
def State.movePt (s0 : State) (d : Int) : State :=
  let (pt, s) := s0.steppedPt d
  let q := quarterStep d
  { s with tm := { s.tm with pt := pt },
           pac := { s.pac with
             refs := s.pac.refs.map (fun (p : Nat × RefSt) =>
               (p.1, if refFreqOnly p.1 then p.2 else { p.2 with phase := s.phaseWrap p.1 (p.2.phase + q) })),
             ptp := s.pac.ptp.map (fun (p : Nat × PtpSt) => (p.1, p.2.moved q)) },
           ess := { s.ess with slots := s.ess.slots.map (fun (p : Nat × SlotSt) =>
             (p.1, if p.2.running then { p.2 with spliceAt := 0 :: p.2.spliceAt } else p.2)) } }

/-- A step in 2^-64 ns is applied (R344, R346): event 0x2009. -/
def State.applyStep (s : State) (d : Int) (origin : Nat) (over_ : Bool) : State :=
  (s.movePt d).pacEvent 5 0x2009 (beBytes 8 (twos 64 (roundDiv d ptNs)) ++ p8 origin ++ p8 (b2n over_))

/-- Whether the jump override is armed. -/
def State.armed (s : State) : Bool := s.pac.armed != 0 && decide (s.now < s.pac.armed - 1 + 60 * tickS)

/-- A step arrives (R344, R345); answers whether it is applied. -/
def State.tryStep (s : State) (d : Int) (origin : Nat) : Bool × State :=
  let small := decide (d.natAbs ≤ s.num O.loopJumpThreshold * ptNs)
  if s.armed then (true, (s.setPac { s.pac with armed := 0 }).applyStep d origin true)
  else if !s.flag O.pacerEverLocked || small then (true, s.applyStep d origin false)
  else
    let s1 := s.bump O.pacerStepsRefused
    (false, s1.pacEvent 6 0x200A (beBytes 8 (twos 64 (roundDiv d ptNs)) ++ p8 origin))

/-- A write of TIME_SET: the status it answers with. -/
def State.timeSetWrite (s : State) (v : Nat) : Nat × State :=
  let (ok, s1) := s.tryStep (((v * 2 ^ 32 : Nat) : Int) - (s.tm.pt : Int)) 2
  (if ok then 0 else 0x2010, s1)

/-- A write of TIME_STEP in ns. -/
def State.timeStepWrite (s : State) (ns : Int) : Nat × State :=
  let (ok, s1) := s.tryStep (ns * (ptNs : Int)) 3
  (if ok then 0 else 0x2010, s1)

/-- The size of a step in units of PT. -/
def stepPt (ns : Int) : Int := ns * (ptNs : Int)

/-- A servo step that waits is applied (R345). -/
def State.applyPending (s : State) : State :=
  match [0, 1, 2, 3, 13].find? (fun i => s.stepHeld i != 0) with
  | none => s
  | some i => ((s.holdStep i 0).tryStep (stepPt (s.stepHeld i)) 1).2

/-- A write of 1 to JUMP_OVERRIDE (R345): a servo request already pending is applied. -/
def State.overrideWrite (s : State) (v : Nat) : State :=
  if v = 0 then s else (s.setPac { s.pac with armed := s.now + 1 }).applyPending

/-- A window of a reference begins, with the limits in force (R333, Table 11-6). -/
def State.winBegin (s : State) (r : Nat) : State :=
  s.setRef r { s.ref r with winStart := s.now, freqLimit := s.num (O.refFreqLimit r), phaseLimit := s.num (O.refPhaseLimit r) }

/-- The next window of a reference begins as the last one ended: windows are consecutive (R333). -/
def State.winNext (s : State) (r end_ : Nat) : State := (s.winBegin r).setRef r { (s.winBegin r).ref r with winStart := end_ }

/-- Reference r becomes qualified. -/
def State.qualify (s : State) (r : Nat) : State :=
  ((s.setRef r { s.ref r with everQual := true }).setNum (O.refQualState r) 3).raise 0x2002 (p8 r)

/-! ### Selection and switching (R336–R339, R343) -/

/-- The reference selection would choose (R336). -/
def State.selectable (s : State) : Option Nat :=
  let f := s.num O.loopForceRef
  if f ≤ 13 ∧ s.qual f = 3 then some f
  else
    ((List.range 14).filter (fun r => s.qual r == 3 && s.num (O.refPriority r) != 0)).foldl (fun (a : Option Nat) r =>
      match a with
      | none => some r
      | some q => if s.num (O.refPriority r) < s.num (O.refPriority q) then some r else some q) none

/-- ACQUIRING begins on reference r, with PT96 set where `set` so that its phase error is 0 (R343). -/
def State.acquire (s : State) (r : Nat) (set : Bool) : State :=
  let s1 := (s.setPac { s.pac with sel := some r, lastSel := r, b := 0, inLock := 0, secs := [], secAcc := 0, secSum := 0 }).dropPending
  let s2 := if refFreqOnly r || !set then s1
    else (s1.applyStep (-((s1.ref r).phase * (ptNs : Int) / 4)) 4 false).setRef r { s1.ref r with phase := 0 }
  s2.setPacer 1

/-- A phase in ps as whole ns. -/
def psToNs (v : Int) : Int := roundDiv v 1000

/-- The switch that runs is complete (R337, R343). -/
def State.switchDone (s : State) (r : Nat) : State :=
  let ms := (s.now - s.pac.switchAt) / tickMs
  (s.pacEvent 3 0x2007 (p8 r ++ p32 ms)).setPacer 2

/-- A switch to reference r begins (R337); with BUILDOUT_MODE 1 it completes at once. -/
def State.switchTo (s : State) (from_ r : Nat) : State :=
  let b := if refFreqOnly r then 0 else (s.ref r).phase * 250
  let s1 := ((s.setPac { s.pac with sel := some r, lastSel := r, b := b, switchAt := s.now }).dropPending).setInt O.pacerBuildout
    (psToNs b)
  let s2 := (s1.setPacer 3).pacEvent 2 0x2006 (p8 from_ ++ p8 r ++ beBytes 4 (twos 32 (psToNs b)))
  if s2.num O.loopBuildoutMode = 1 then s2.switchDone r else s2

/-- Steering in holdover (R339). -/
def State.holdoverPpt (s : State) : Int :=
  let l := (s.pac.secs.drop 30).take (s.num O.loopHoldoverAverage)
  if l.length < 10 then s.int O.pacerSteering else roundDiv (l.foldl (· + ·) 0) l.length

/-- Holdover is entered (R339). -/
def State.holdover (s : State) : State :=
  let v := s.holdoverPpt
  let last := s.pac.lastSel
  let s1 := (s.setPac { s.pac with sel := none, b := 0, integ := v, secs := [], secAcc := 0, secSum := 0 }).dropPending
  let s2 := ((s1.setInt O.pacerHoldoverPpt v).setInt O.pacerBuildout 0).steer v
  ((s2.setPacer 4).pacEvent 4 0x2008 (beBytes 4 (twos 32 v) ++ p8 last)).report 98 0x2008

/-- Selection is evaluated: at most one transition of Table 11-3. -/
def State.evalSel1 (s : State) : State :=
  let best := s.selectable
  let st := s.pacer
  let sel := s.pac.sel
  let lost := match sel with
    | some r => s.qual r != 3
    | none => true
  match st with
  | 0 => (match best with | some r => s.acquire r true | none => s)
  | 1 => if lost then
      (match best with
       | some r => s.acquire r true
       | none => ((s.setPac { s.pac with sel := none }).dropPending).setPacer 0)
    else s
  | 2 =>
    let force := s.num O.loopForceRef
    let due := match best with
      | none => false
      | some r => sel != some r && (s.flag O.loopRevertive || lost || (decide (force ≤ 13) && force == r))
    if due then s.switchTo (sel.getD 0xFF) (best.getD 0)
    else if lost then s.holdover else s
  | 3 => if lost then
      (match best with
       | some r => s.switchTo (sel.getD 0xFF) r
       | none => s.holdover)
    else s
  | 4 => (match best with | some r => s.switchTo 0xFF r | none => s)
  | _ => (s.setPac { s.pac with sel := best }).setNum O.pacerSelected (best.getD 0xFF)

/-- Selection is evaluated until nothing changes: a completed switch may be followed by another. -/
def State.evalSel (s : State) : State := s.evalSel1.evalSel1

/-- Reference r is absent: a window under way is abandoned, and selection follows (R333, Table 11-2). -/
def State.refAbsent (s : State) (r : Nat) : State :=
  let x := s.ref r
  if !x.present then s
  else
    let q := s.qual r
    let s1 := s.setRef r { x with present := false }
    if q = 0 then s1
    else
      let s2 := (s1.setNum (O.refQualState r) 1).setNum (O.refFailWindows r) 0
      let s3 := if q = 3 ∨ q = 5 then (s2.bump (O.refDisqualifications r)).pacEvent 1 0x2004 (p8 r ++ p8 1) else s2
      s3.evalSel

/-- UTC_OFFSET (R330): as the master of a selected PTP reference last announced it, otherwise the written value. -/
def State.utcOffset (s : State) : Nat :=
  match s.pac.sel with
  | none => s.num O.timeUtcOffset
  | some r =>
    if 3 < r then s.num O.timeUtcOffset
    else (((s.ptp r).masters.find? (fun f => f.a.port == s.bytes (O.ptpMasterPort r))).bind (fun f => f.a.utc)).getD (s.num O.timeUtcOffset)

/-- SDI lane p leaves LOCK_STATE 4: the references that select it are absent at that moment (R331, R333). -/
def State.refsOfLane (s : State) (p : Nat) : State :=
  [11, 12].foldl (fun (x : State) r => if x.num (O.refLane r) = p then x.refAbsent r else x) s

end Sys2Proof.Machine
end

