-- ==== Sys2Proof/Machine/Sdi.lean ====
section
/-! DEFINITION. SDI lanes (03): lock, line checks, extraction, loss of lock, quad-link association, and the serialiser. -/

namespace Sys2Proof.Machine

/-- SDI_ERR_p. -/
def rSdiErr (p : Nat) : Nat := 0x408004 + 0x10 * p
/-- SDI_EVT_p. -/
def rSdiEvt (p : Nat) : Nat := 0x408008 + 0x10 * p

/-- Raises an SDI lane event, whose payload begins with the lane, and sets its bit of SDI_EVT_p (R107, R109). -/
def State.sdiEvent (s : State) (p bit code : Nat) (payload : List Byte) : State :=
  (s.setBit (rSdiEvt p) bit).raise code (p8 p ++ payload)

/-- The place of a rate code's family in the search order of R74. -/
def rateFamily (code : Nat) : Nat := match code with | 8 => 0 | 9 => 0 | 6 => 1 | 7 => 1 | 4 => 2 | 5 => 2 | 2 => 3 | 3 => 3 | _ => 4

/-- LOCK_STATE of lane p. -/
def State.lockState (s : State) (p : Nat) : Nat := s.num (O.sdiLockState p)

/-- SIDs in force on output o: video, ancillary, time code and the audio positions. -/
def State.outSids (s : State) (o : Nat) : List Nat :=
  [s.outVideo o, s.num (O.takeAncSid o), s.num (O.takeTcSid o)] ++ (List.range 128).map (fun i => s.num (O.takeAudioPosition o i))

/-- Whether a take in force on any local output uses a stream of slot n (R23, R72). -/
def State.slotTaken (s : State) (n : Nat) : Bool :=
  (List.range 128).any (fun o => s.outputKind o != 0 &&
    (s.outSids o).any (fun x => s.sidLocal x && !sidGen x && sidSlot x == n))

/-- Whether a peer subscribes to a stream of slot n. -/
def State.slotSubscribed (s : State) (n : Nat) : Bool :=
  s.fab.links.any (fun l => l.2.pubs.any (fun p => sidSlot p.2.sid == n))

/-- Whether a take in force on any local output uses a local stream (R72, R112). -/
def State.streamTaken (s : State) (key : Nat) : Bool :=
  (List.range 128).any (fun o => s.outputKind o != 0 && (s.outSids o).any (fun x => s.sidLocal x && !sidGen x && x % 2 ^ 28 == key))

/-- Whether a peer subscribes to a local stream. -/
def State.streamSubscribed (s : State) (key : Nat) : Bool :=
  s.fab.links.any (fun l => l.2.pubs.any (fun p => decide (p.2.sid % 2 ^ 28 ≤ key) && decide (key < p.2.sid % 2 ^ 28 + p.2.count)))

/-- Starts the rate search again with the family last locked (R74). -/
def State.restartSearch (s : State) (p : Nat) : State :=
  let l := s.lane p
  s.setLane p { l with family := l.lastFamily, dwellAt := s.now }

/-- The slot and link SUB that lane p feeds, if it feeds one now: its own slot, or for a member of an associated quad-link
group slot 4k with the SUB of its ST 352 link (R86). -/
def State.laneSlot (s : State) (p : Nat) : Option (Nat × Nat) :=
  if s.quadRx p then
    (if s.num (O.sdiQuadState (p / 4 * 4)) = 2 ∧ (s.lane p).inGroup then
      some (p / 4 * 4, (s.lane p).grpLink - 1) else none)
  else some (p, 0)

/-- The lane stops passing lines: its source's streams, or its link's, are marked absent (R81, R88), and none of its pairs is an unlocked one
any more (R260). -/
def State.laneAbsent (s : State) (p : Nat) : State :=
  match s.laneSlot p with
  | none => s
  | some (n, sub) =>
    if s.quadRx p then
      let l := s.lane p
      (((s.setPresents (s.linkStreams n sub) false).pairsGone n (fun c => c / 32 == sub)).setLane p { l with inGroup := false }).sdiEvent p 7 0x3008
        (p8 (sub + 1))
    else (s.setPresents (s.linkStreams n 0) false).pairsGone n (fun _ => true)

/-- Lock is lost on lane p at a line; the lane falls to `to_` (R81). A change of format, to format `new` (0 while it is not known), raises
0x3005 instead (R83). DESIGN CHOICE (log entry 201): PAYLOAD_ID and LINK_NUMBER keep their values. -/
def State.loseLock (s : State) (p line to_ : Nat) (change : Bool) (new : Nat) : State :=
  let l := s.lane p
  let old := s.num (O.sdiRasterDetected p)
  let s0 := s.setLane p { l with lossAt := s.now + 1, lossFmt := if change then 0 else old,
                                 lossRate := s.num (O.sdiRateDetected p), missTrs := 0, lnBad := 0, hintDue := false }
  let s1 := (s0.laneAbsent p).refsOfLane p
  let s2 := ((s1.setNum (O.sdiLockState p) to_).setNum (O.sdiRasterDetected p) 0).setNum (O.sdiRateDetected p)
    (if to_ ≤ 2 then 0 else s1.num (O.sdiRateDetected p))
  let s3 := if to_ ≤ 1 then s2.restartSearch p else s2
  if change then (s3.bump (O.sdiFormatChanges p)).sdiEvent p 4 0x3005 (p16 old ++ p16 new)
  else
    let s4 := (s3.bump (O.sdiLockLosses p)).sdiEvent p 3 0x3004 (p8 to_ ++ p16 line)
    let n := if s4.quadRx p then p / 4 * 4 else p
    if s4.slotTaken n then s4.report 128 0x3004 else s4

/-- Notes since when lane p has no signal (1 + the tick, 0 with signal), for the return to Jog (R439). -/
def State.setQuiet (s : State) (p t : Nat) : State := { s with pwr := { s.pwr with quiet := tset zeroNat s.pwr.quiet p t } }

/-- SIGNAL_DETECT_ASSERT (R76, R96): signal detect asserts; the rate search begins. -/
def execSignalDetectAssert (p : Fin 96) (at_ : Nat) (s0 : State) : Res :=
  let s := s0.toTick at_
  let l := s.lane p
  if !s.laneOn p ∨ !s.laneActive p ∨ l.sd then .next s
  else if s.laneMode p ≠ 1 then .next ((s.setLane p { l with sd := true }).setQuiet p 0)
  else
    .next (((((s.setLane p { l with sd := true }).setQuiet p 0).restartSearch p).setNum (O.sdiLockState p) 1).sdiEvent p 0 0x3001 [])

/-- SIGNAL_DETECT_DEASSERT (R81, R96). -/
def execSignalDetectDeassert (p : Fin 96) (line at_ : Nat) (s0 : State) : Res :=
  let s := s0.toTick at_
  let l := s.lane p
  if !l.sd then .next s
  else if s.laneMode p ≠ 1 then .next ((s.setLane p { l with sd := false }).setQuiet p (s.now + 1))
  else
    let s1 := ((s.setLane p { l with sd := false }).setQuiet p (s.now + 1)).sdiEvent p 1 0x3002 []
    .next (if 3 ≤ s1.lockState p then s1.loseLock p line 0 false 0 else s1.setNum (O.sdiLockState p) 0)

/-- RATE_DWELL_EXPIRY (R74): with RX_RATE 0 the search goes on to the next family after its dwell of 400 µs ±10 µs. -/
def execRateDwellExpiry (p : Fin 96) (at_ : Nat) (s0 : State) : Res :=
  let s := s0.toTick at_
  let l := s.lane p
  if s.lockState p = 1 ∧ s.num (O.sdiRxRate p) = 0 ∧ s.flag (O.sdiRxEnable p) ∧ l.dwellAt + 390 * tickUs ≤ s.now then
    .next (s.setLane p { l with family := (l.family + 1) % 5, dwellAt := s.now })
  else .next s

/-- The rate family the lane tries now. -/
def State.tryFamily (s : State) (p : Nat) : Nat :=
  let r := s.num (O.sdiRxRate p)
  if r = 0 then (s.lane p).family else rateFamily r

/-- RATE_LOCK (R73, R76, R83): the clock is recovered at the family being tried; on a lane in TRS or format lock, at another rate, which
ends its lock as a change of format. -/
def execRateLock (p : Fin 96) (code : Fin 10) (s : State) : Res :=
  if 3 ≤ s.lockState p ∧ s.laneMode p = 1 ∧ code.val ≠ 0 ∧ code.val ≠ s.num (O.sdiRateDetected p) ∧
      (s.num (O.sdiRxRate p) = 0 ∨ rateFamily code = rateFamily (s.num (O.sdiRxRate p))) then
    (let s1 := s.loseLock p (s.lane p).fly 2 true 0
     .next (s1.setLane p { s1.lane p with family := rateFamily code, lastFamily := rateFamily code }))
  else if s.lockState p = 1 ∧ s.flag (O.sdiRxEnable p) ∧ s.laneMode p = 1 ∧ code.val ≠ 0 ∧ rateFamily code = s.tryFamily p then
    .next ((s.setLane p { s.lane p with family := rateFamily code, lastFamily := rateFamily code }).setNum (O.sdiLockState p) 2)
  else .next s

/-- The lane's source is acquired with its streams present (R77, R155, R157). -/
def State.sourcePresent (s : State) (n fmt : Nat) : State :=
  let s1 := s.setNum (O.slotRaster n) fmt
  let others := (s1.groupSlots n).filter (fun m => m != n && s1.slotRaster m != 0 && !(s1.slot m).heldOut)
  let running := others.filter (fun m => (s1.slot m).running)
  let ref := (if running.isEmpty then others else running).head?
  let bad := match ref with
    | some m => s1.slotRaster m % 256 != fmt % 256
    | none => false
  if !s1.slotEnabled n then s1.slotAcquire n
  else if bad then
    (s1.slotAbsent n).setSlot n { s1.slot n with heldOut := true, q := [], contF := if (s1.slot n).running then s.relRaster n else 0 }
  else s1.slotReturn n (s.slotRaster n)

/-- TRS_LOCK (R74–R76, R82): TRS lock at the measured variant; TRS returning within a frame of its loss at the predicted
position, with the format unchanged, restores LOCK_STATE 4 at once. -/
def execTrsLock (p : Fin 96) (code : Fin 10) (predicted : Bool) (line at_ : Nat) (s0 : State) : Res :=
  let s := s0.toTick at_
  let l := s.lane p
  let r := s.num (O.sdiRxRate p)
  if s.lockState p ≠ 2 ∨ code.val = 0 ∨ rateFamily code ≠ l.lastFamily ∨ (r ≠ 0 ∧ r ≠ code.val) then .next s
  else
    let quick := predicted && l.lossFmt != 0 && l.lossRate == code.val &&
      decide (s.now ≤ l.lossAt + s.ptToTicks (framePt l.lossFmt))
    let s1 := (s.setNum (O.sdiRateDetected p) code).setLane p { l with missTrs := 0, lnBad := 0, fly := line, lossAt := 0 }
    if quick then
      let s2 := ((s1.setNum (O.sdiLockState p) 4).setNum (O.sdiRasterDetected p) l.lossFmt).setLane p
        { s1.lane p with locked := s.now, pidSeen := true }
      .next (if s2.quadRx p then s2 else s2.sourcePresent p l.lossFmt)
    else .next (s1.setNum (O.sdiLockState p) 3)

/-- The format code a signal is taken as (R78); 0 when it is none of Table 1-7. -/
def State.takenFormat (s : State) (p : Nat) (seen : FormatSeen) : Nat :=
  if seen.st352.isSome && seen.agrees && seen.link == 0 then seen.st352Fmt
  else if seen.hinted && seen.st352.isNone && s.num (O.sdiFormatHint p) == 1 then seen.structureFmt % 256 + 0x0500
  else seen.structureFmt

/-- FORMAT_LOCK (R76–R78, R83, R84). -/
def execFormatLock (p : Fin 96) (seen : FormatSeen) (s : State) : Res :=
  if s.lockState p ≠ 3 then .next s
  else
    let fmt := s.takenFormat p seen
    if !fmtValid fmt then .next (s.setNum (O.sdiRasterDetected p) 0)
    else
      let l := s.lane p
      let s1 := s.setLane p { l with division := seen.division, st352 := seen.st352.isSome, fmt352 := seen.st352Fmt,
                                     hinted := seen.hinted && seen.st352.isNone, locked := s.now, lnBad := 0, lossAt := 0,
                                     pidSeen := true, grpNow := [], grpOld := [] }
      let s2 := (((s1.setNum (O.sdiLockState p) 4).setNum (O.sdiRasterDetected p) fmt).setNum (O.sdiPayloadId p)
        (seen.st352.getD 0)).setNum (O.sdiLinkNumber p) seen.link
      let s3 := s2.sdiEvent p 2 0x3003 (p8 (s2.num (O.sdiRateDetected p)) ++ p16 fmt ++ p32 (seen.st352.getD 0))
      .next (if s3.quadRx p then
          (if s3.num (O.sdiQuadState (p / 4 * 4)) = 2 then s3 else s3.setNum (O.sdiQuadState (p / 4 * 4)) 1)
        else s3.sourcePresent p fmt)

/-! ### Lines (R75, R79, R85, R89–R95) -/

/-- The errors a lane gathered in a Pacer second that is over are counted as an errored second, with event 0x300A (R80). -/
def State.closeSecond (s : State) (p : Nat) : State :=
  let l := s.lane p
  if l.crcSec + l.lnSec + l.trsSec = 0 ∨ l.errSec = s.second then s
  else ((s.setLane p { l with crcSec := 0, lnSec := 0, trsSec := 0 }).bump (O.sdiErroredSeconds p)).raise 0x300A
    (p8 p ++ p32 l.crcSec ++ p32 l.lnSec ++ p32 l.trsSec)

/-- CRC, LN and TRS errors join those that the lane counted in this Pacer second (R80). -/
def State.secondErrors (s : State) (p crc ln trs : Nat) : State :=
  if crc + ln + trs = 0 then s
  else
    let s1 := s.closeSecond p
    let l := s1.lane p
    s1.setLane p { l with crcSec := l.crcSec + crc, lnSec := l.lnSec + ln, trsSec := l.trsSec + trs, errSec := s1.second }

/-- A frame of the locked signal begins at the flywheel's line 1 (R75): time code and audio groups are looked for anew (R92, R95), and
after a frame without ST 352 PAYLOAD_ID and LINK_NUMBER read 0 (Table 3-5), a change of ST 352 that is reported (DEDUCED, log entry 202). -/
def State.laneFrame (s : State) (p : Nat) : State :=
  let l := s.lane p
  let gone := l.st352 && !l.pidSeen
  let s0 := match s.laneSlot p with
    | some (slot, _) => s.pairsGone slot (fun c => l.grpOld.contains (c / 4 * 4) && !l.grpNow.contains (c / 4 * 4))
    | none => s
  let s1 := s0.setLane p { l with tcSeen := [], grpOld := l.grpNow, grpNow := [], pidSeen := false, st352 := l.st352 && l.pidSeen }
  if gone then
    (((s1.setNum (O.sdiPayloadId p) 0).setNum (O.sdiLinkNumber p) 0).sdiEvent p 5 0x3006 (p32 (s.num (O.sdiPayloadId p)) ++ p32 0))
  else s1

/-- ST 352 of a line (R85): a change is reported and keeps the lock; format, link number and division mode of a quad link follow it. -/
def State.laneId (s : State) (p : Nat) (l : SdiLine) : State :=
  match l.st352 with
  | none => s
  | some v =>
    let ln := s.lane p
    let s1 := ((s.setLane p { ln with pidSeen := true, st352 := true, fmt352 := l.fmt352, division := if l.link = 0 then ln.division else l.division }).setNum
      (O.sdiPayloadId p) v).setNum (O.sdiLinkNumber p) l.link
    if v = s.num (O.sdiPayloadId p) then s1 else s1.sdiEvent p 5 0x3006 (p32 (s.num (O.sdiPayloadId p)) ++ p32 v)

/-- A changed FORMAT_HINT takes effect at the signal's next frame start, as a change of format (R78). -/
def State.hintChange (s : State) (p line : Nat) : State :=
  s.loseLock p line 3 true (s.num (O.sdiRasterDetected p) % 256 + (if s.num (O.sdiFormatHint p) = 1 then 0x0500 else 0x0400))

/-- Packets that never reach an ancillary stream (R89): audio data and control packets of ST 272, ST 299-1 and ST 299-2,
ST 352, EDH and ATC, by the DIDs and SDIDs those standards register (log entry 11). -/
def ancConsumed (did sdid : Nat) : Bool :=
  (did == 0x60 && sdid == 0x60) || (did == 0x41 && sdid == 0x01) || did == 0xF4 ||
  (decide (0xE0 ≤ did) && decide (did ≤ 0xE7)) || (decide (0xA0 ≤ did) && decide (did ≤ 0xA7)) ||
  (decide (0xEC ≤ did) && decide (did ≤ 0xEF)) || (decide (0xF8 ≤ did) && decide (did ≤ 0xFF))

/-- Whether an ANC_FILTER value matches a packet (R90): with SDID 0x00 a type-1 packet, whose DID is 0x80 or more, by its DID alone. -/
def ancMatch : List Byte → AncPkt → Bool
  | d :: x :: rest, p => (p.did == d && (x == 0 && decide (128 ≤ d.toNat) || p.sdid == x)) || ancMatch rest p
  | _, _ => false

/-- The ancillary stream a packet of lane p goes to (R90); `sub` is the link of a quad-link source. -/
def State.ancStream (s : State) (p : Nat) (quad : Bool) (sub : Nat) (k : AncPkt) : Nat :=
  if quad then sub
  else if s.num (O.sdiRateDetected p) ≥ 4 ∧ (s.lane p).division = 3 then 0
  else if ancMatch (s.bytes (O.sdiAncFilter p 0)) k then 1
  else if ancMatch (s.bytes (O.sdiAncFilter p 1)) k then 2
  else if ancMatch (s.bytes (O.sdiAncFilter p 2)) k then 3
  else 0

/-- Counts a packet against the 32 Mb/s of its stream in the last millisecond (R90); answers whether it fits. -/
def State.ancFits (s : State) (p st bits : Nat) : Bool × State :=
  let l := s.lane p
  let log := l.ancLog.filter (fun a => decide (s.tm.pt < a.1 + 1000000 * ptNs))
  let n := ((log.filter (fun a => a.2.1 == st)).map (fun a => a.2.2)).foldl (· + ·) 0 + bits
  if n > 32000 then (false, s.setLane p { l with ancLog := log })
  else (true, s.setLane p { l with ancLog := (s.tm.pt, st, bits) :: log })

/-- The ancillary packets and time code of a line (R89–R92): packets by stream, time-code values by ATC type. An ATC packet's
first user byte is its DBB1 and the rest its value. Of each type the first value of a frame is delivered; of a quad-link source that of link
1 (log entry 153). -/
def State.extractAnc (s : State) (p slot : Nat) (quad : Bool) (sub : Nat) (pkts : List AncPkt) :
    List (Nat × AncPkt) × List (Nat × Nat) × State :=
  pkts.foldl (fun (a : List (Nat × AncPkt) × List (Nat × Nat) × State) k =>
    let (as, ts, s1) := a
    let s2 := if k.ckOk then s1 else s1.bump (O.sdiAncChecksumErrors p)
    if k.did = 0x60 ∧ k.sdid = 0x60 then
      (if !k.ckOk then (as, ts, s2)
       else match k.data with
         | b :: v =>
           let ln := s2.lane p
           if 2 < b.toNat ∨ (quad = true ∧ sub ≠ 0) ∨ ln.tcSeen.contains b.toNat then (as, ts, s2)
           else (as, ts ++ [(b.toNat, ofBe v)], s2.setLane p { ln with tcSeen := b.toNat :: ln.tcSeen })
         | [] => (as, ts, s2))
    else if ancConsumed k.did.toNat k.sdid.toNat then (as, ts, s2)
    else if !k.ckOk && !s2.flag (O.sdiAncDeliverBad p) then (as, ts, s2)
    else
      let st := s2.ancStream p quad sub k
      if s2.num (O.slotAncStreams slot) ≤ st then (as, ts, s2)
      else
        let (ok, s3) := s2.ancFits p st (8 * k.data.length)
        if ok then (as ++ [(st, k)], ts, s3)
        else
          (as, ts, ((s3.bump (O.sdiAncDropped p)).setBit (rSdiEvt p) 10).oncePerSecond 0x300C (p * 4 + st)
            (p8 p ++ p8 st))) ([], [], s)

/-- Samples of a channel join those before them on the line. -/
def addSamples (as : List (Nat × List Nat)) (c : Nat) (vs : List Nat) : List (Nat × List Nat) :=
  if as.any (fun a => a.1 == c) then as.map (fun a => if a.1 = c then (c, a.2 ++ vs) else a) else as ++ [(c, vs)]

/-- Audio groups of a link (Table 3-3) at a rate code; `dual` of level B-DL. -/
def audioGroups (rate : Nat) (dual : Bool) : Nat := if rate ≤ 3 ∨ dual = true then 4 else 8

/-- The channels of groups present in the signal, by the groups' first channels, join a line that has no packet of theirs: their samples come
on other lines. DESIGN CHOICE (log entry 189): a group without a packet since the start of the frame before is absent, and its channels, not
listed, are silent (R95). -/
def presentChans (bases : List Nat) (as : List (Nat × List Nat)) : List (Nat × List Nat) :=
  as ++ (((bases.flatMap (fun b => [b, b + 1, b + 2, b + 3])).filter (fun c => !as.any (fun a => a.1 == c))).map (fun c => (c, [])))

/-- The embedded audio of a line (R93–R95): samples by channel of the slot, from the groups the carriage has. -/
def State.extractAudio (s : State) (p slot : Nat) (quad : Bool) (sub : Nat) (l : SdiLine) : List (Nat × List Nat) × State :=
  let gs := audioGroups (s.num (O.sdiRateDetected p)) (!quad && (s.lane p).division == 3)
  let s1 := (l.ctl.filter (fun c => decide (c.group ≤ gs))).foldl (fun (s2 : State) c =>
    let ln := s2.lane p
    let bad := decide (c.rate ≠ s2.num (O.slotAudioRate slot))
    let g := c.group + 8 * (c.link - 1)
    let async' := if c.async then sortNat (g :: ln.async) else ln.async.filter (· != g)
    if bad && !ln.mismatch.contains g then
      (s2.setLane p { ln with mismatch := g :: ln.mismatch, async := async' }).sdiEvent p 9 0x300B (p8 c.group ++ p8 c.rate)
    else s2.setLane p { ln with mismatch := if bad then ln.mismatch else ln.mismatch.filter (· != g), async := async' }) s
  (l.audio.filter (fun k => decide (k.group ≤ gs))).foldl (fun (a : List (Nat × List Nat) × State) k =>
    let (as, s2) := a
    let link := if quad then sub else k.link - 1
    let g := k.group + 8 * (k.link - 1)
    let hd := decide (2 ≤ s2.num (O.sdiRateDetected p))
    let n := (k.samples.map List.length).foldl (· + ·) 0
    let s3 := if hd && k.ecc == 1 then s2.bump (O.sdiAudioEccCorrected p)
      else if hd && k.ecc == 2 then s2.bump (O.sdiAudioEccUncorrected p) n else s2
    (k.samples.zipIdx).foldl (fun (b : List (Nat × List Nat) × State) x =>
      let c := 32 * link + 4 * (k.group - 1) + x.2
      if s.slotChannels slot ≤ c then b
      else
        let ln := b.2.lane p
        let vs := if ln.mismatch.contains g then x.1.map (fun _ => 0)
          else if hd && k.ecc == 2 then x.1.map (fun _ => tget zeroNat ln.samp c)
          else x.1
        let (ws, s4) := b.2.throughAsrc slot c (ln.async.contains g && !ln.mismatch.contains g) vs
        (addSamples b.1 c ws, (s4.notePair slot c (ln.async.contains g)).setLane p
          { ln with samp := tset zeroNat ln.samp c (vs.getLast?.getD (tget zeroNat ln.samp c)) }))
      (as, s3.setLane p { s3.lane p with grpNow := sortNat ((32 * link + 4 * (k.group - 1)) :: (s3.lane p).grpNow) })) ([], s1)

/-- The samples of a line after the CRC check (R79, ERRORED_LINE). -/
def State.checkedLine (s : State) (p f : Nat) (l : SdiLine) : List Byte :=
  let bad := decide (2 ≤ s.num (O.sdiRateDetected p)) && !l.crcOk
  if bad && s.num (O.sdiErroredLine p) == 1 && fmtActive f l.line then
    (if (fmtFirstActive f).contains l.line then blackLine f else (s.lane p).prev)
  else l.pixels

/-- A line passes from lane p into the Aligner (R77, R86–R95). A line m of a link of a quad-link source carries its share of
source lines 2m − 1 and 2m. -/
def State.passLine (s : State) (p : Nat) (l : SdiLine) : State :=
  match s.laneSlot p with
  | none => s
  | some (slot, sub) =>
    let quad := s.quadRx p
    let f := s.num (O.sdiRasterDetected p)
    let data := s.checkedLine p f l
    let s1 := if fmtActive f l.line then s.setLane p { s.lane p with prev := data } else s
    let (anc, tc, s2) := s1.extractAnc p slot quad sub l.anc
    let (au, s3) := s2.extractAudio p slot quad sub l
    let audio := presentChans (sortNat ((s3.lane p).grpOld ++ (s3.lane p).grpNow)) au
    if quad then
      let h := data.length / 2
      (s3.enterLine slot sub (2 * l.line - 1) (data.take h) anc audio tc).enterLine slot sub (2 * l.line) (data.drop h) [] [] []
    else s3.enterLine slot sub l.line data anc audio tc

/-- SDI_LINE (R75, R79, R83, R85, R87–R95). -/
def execSdiLine (p : Fin 96) (l : SdiLine) (at_ : Nat) (s0 : State) : Res :=
  let s := s0.toTick at_
  if s.lockState p < 3 then .next s
  else if s.lockState p = 4 ∧ l.contradicts then .next (s.loseLock p l.line 3 true 0)
  else if s.lockState p = 4 ∧ l.line = 1 ∧ (s.lane p).hintDue = true then
    .next (s.hintChange p l.line)
  else
    let lnErr := decide (l.lnWord ≠ l.line)
    let hd := decide (2 ≤ s.num (O.sdiRateDetected p))
    let crcErr := (hd && !l.crcOk) || (!hd && l.edhBad)
    let s0 := s.secondErrors p (b2n crcErr) (b2n lnErr) 0
    let ln := s0.lane p
    let s1 := s0.setLane p { ln with missTrs := 0, fly := l.line + 1, lnBad := if lnErr then ln.lnBad + 1 else 0 }
    let s2 := if lnErr then (s1.bump (O.sdiLnErrors p)).rcAdd (rSdiErr p) 15 8 else s1
    let s3 := if crcErr then (s2.bump (O.sdiCrcErrors p)).rcAdd (rSdiErr p) 31 16 else s2
    if s3.lockState p ≠ 4 then .next s3
    else if 8 ≤ (s3.lane p).lnBad then .next (s3.loseLock p l.line 3 false 0)
    else .next (((if l.line = 1 then s3.laneFrame p else s3).laneId p l).passLine p l)

/-- TRS_MISSING (R75, R81): the flywheel bridges three, and a frame whose line 1 it bridges begins all the same; the fourth, which is counted
as well (DESIGN CHOICE, log entry 190), loses TRS lock. -/
def execTrsMissing (p : Fin 96) (line : Nat) (rateHeld : Bool) (at_ : Nat) (s0 : State) : Res :=
  let s := s0.toTick at_
  if s.lockState p < 3 then .next s
  else
    let s0 := s.secondErrors p 0 0 1
    let l := s0.lane p
    let s1 := (s0.setLane p { l with missTrs := l.missTrs + 1, fly := line + 1 }).bump (O.sdiTrsErrors p)
    let s2 := s1.rcAdd (rSdiErr p) 7 0
    if l.missTrs + 1 < 4 then
      .next (if s2.lockState p = 4 ∧ line = 1 then (if l.hintDue then s2.hintChange p line else s2.laneFrame p) else s2)
    else .next (s2.loseLock p line (if !l.sd then 0 else if rateHeld then 2 else 1) false 0)

/-- ERRORED_SECOND (R80): a Pacer second in which the lane counted an error has ended. -/
def execErroredSecond (p : Fin 96) (at_ : Nat) (s0 : State) : Res := .next ((s0.toTick at_).closeSecond p)

/-! ### Quad-link groups (R86–R88) -/

/-- The raster of the links of the group of lane 4k, as its lanes detect it. -/
def State.linkRaster (s : State) (b : Nat) : Nat :=
  (([b, b + 1, b + 2, b + 3].map (fun p => s.num (O.sdiRasterDetected p))).find? (fun f => f != 0)).getD 0

/-- Whether a skew exceeds 2 lines of the link raster (R87). -/
def State.skewOver (s : State) (b skewPt : Nat) : Bool := decide (linesPt (s.linkRaster b) 2 1 < skewPt)

/-- The first cause that keeps the group of lane 4k from associating (R86): 5 ST 352 absent, 1 rate, 3 format, 2 link numbers,
4 skew; 0 none. `skewPt` is the skew as Pacer time. -/
def State.quadCause (s : State) (b skewPt : Nat) : Nat :=
  let ls := [b, b + 1, b + 2, b + 3]
  let rate := s.num (O.sdiRateDetected b)
  if ls.any (fun p => !(s.lane p).st352) then 5
  else if ls.any (fun p => s.num (O.sdiRateDetected p) != rate) || !(rate == 4 || rate == 5) then 1
  else if ls.any (fun p => (s.lane p).fmt352 != (s.lane b).fmt352 || (s.lane p).division != (s.lane b).division) ||
      (s.lane b).fmt352 / 256 != 7 then 3
  else if sortNat (ls.map (fun p => s.num (O.sdiLinkNumber p))) != [1, 2, 3, 4] then 2
  else if s.skewOver b skewPt then 4
  else 0

/-- Whether every lane of the group of lane b is at LOCK_STATE 4. -/
def State.quadLocked (s : State) (b : Nat) : Bool := [b, b + 1, b + 2, b + 3].all (fun p => s.lockState p == 4)

/-- QUAD_ASSOCIATION (R86, R87): a frame of the four links of group k has been received: its skew is reported, and the association forms once
its conditions hold. -/
def execQuadAssociation (k : Fin 24) (skewPt : Nat) (s : State) : Res :=
  let b := 4 * k.val
  if !s.quadRx b ∨ s.linkRaster b = 0 then .next s
  else
    let skew := ptToQ16Lines (s.linkRaster b) skewPt
    let s0 := s.setInt (O.sdiLinkSkew b) skew
    let s1 := if s.skewOver b skewPt then s0.sdiEvent b 8 0x3009 (p32 skew.toNat) else s0
    if s.num (O.sdiQuadState b) = 2 ∨ !s.quadLocked b ∨ s.quadCause b skewPt ≠ 0 then .next s1
    else
    let s2 := ([b, b + 1, b + 2, b + 3].foldl (fun s2 p => s2.setLane p { s2.lane p with
      inGroup := true
      grpLink := s2.num (O.sdiLinkNumber p)
      grpDiv := (s2.lane p).division
      grpFmt := (s2.lane p).fmt352 }) s1).setNum (O.sdiQuadState b) 2
    let s3 := [b + 1, b + 2, b + 3].foldl (fun s4 n => s4.slotClear n) s2
    .next (s3.sourcePresent b (s3.lane b).fmt352)

/-- QUAD_ASSOCIATION_TIMEOUT (R86): 3 frames after the last lane reached LOCK_STATE 4 the association has failed. -/
def execQuadAssociationTimeout (k : Fin 24) (skewPt at_ : Nat) (s0 : State) : Res :=
  let s := s0.toTick at_
  let b := 4 * k.val
  let last := [b, b + 1, b + 2, b + 3].foldl (fun m p => max m (s.lane p).locked) 0
  let cause := s.quadCause b skewPt
  if s.quadRx b && s.num (O.sdiQuadState b) == 1 && s.quadLocked b && cause != 0 &&
      decide (last + 3 * s.ptToTicks (framePt (s.num (O.sdiRasterDetected b))) ≤ s.now) then
    .next ((s.setNum (O.sdiQuadState b) 3).sdiEvent b 6 0x3007 (p8 0x0F ++ p8 cause))
  else .next s

/-- QUAD_LINK_REENTRY (R88): a returned link re-enters the association at its frame start, with the link number and format with which it
joined, or is refused. Its streams are present again from the frame that rejoins the group (R159). -/
def execQuadLinkReentry (p : Fin 96) (s : State) : Res :=
  let b := p.val / 4 * 4
  let l := s.lane p
  if !s.quadRx p ∨ s.num (O.sdiQuadState b) ≠ 2 ∨ s.lockState p ≠ 4 ∨ l.inGroup then .next s
  else
    let fmtOk := l.division == l.grpDiv && l.fmt352 == l.grpFmt
    if l.st352 && fmtOk && s.num (O.sdiLinkNumber p) == l.grpLink then
      .next (s.setLane p { l with inGroup := true })
    else .next (s.sdiEvent p 6 0x3007 (p8 (2 ^ (p.val - b)) ++ p8 (if !l.st352 then 5 else if fmtOk then 2 else 3)))

/-- TX_MAPPING of output o's lane in grid frame k: it changes at the first output frame after its commit (Table 3-5). -/
def State.txMapping (s : State) (o k : Nat) : Nat :=
  if gridStart (s.outRaster o % 256) k < (s.out_ o).mapAt then (s.out_ o).mapOld else s.num (O.sdiTxMapping o)

/-- TX_MAPPING of output o in the frame being sent; an output that sends nothing has it at once. -/
def State.txMappingNow (s : State) (o : Nat) : Nat :=
  if s.outRaster o = 0 then s.num (O.sdiTxMapping o)
  else match (s.out_ o).sent with
    | u :: _ => s.txMapping o u.1
    | [] => s.txMapping o (gridFrame (s.outRaster o % 256) s.tm.pt)

/-- Whether output 4k drives the four lanes of its group in the frame being sent (R99). -/
def State.quadTxNow (s : State) (p : Nat) : Bool :=
  let m := s.txMappingNow (p / 4 * 4)
  (m == 2 || m == 3) && s.laneMode (p / 4 * 4) == 1

/-- The output that drives lane p: its own, or output 4k of a quad-link output (R99). -/
def State.laneOutput (s : State) (p : Nat) : Nat := if s.quadTxNow p then p / 4 * 4 else p

/-- Whether the serialiser of lane p may run (R105). -/
def State.txAllowed (s : State) (p : Nat) : Bool :=
  s.laneOn p && s.laneMode p == 1 && s.laneActive p && s.flag (O.sdiTxEnable (s.laneOutput p)) && s.outRaster (s.laneOutput p) != 0 &&
  decide (5 ≤ s.num O.startStartPhase) && s.num O.startStartPhase != 6

/-- Whether output o stands between two frames of its raster. -/
def State.atFrameStart (s : State) (o : Nat) : Bool :=
  match (s.out_ o).sent with
  | u :: _ => u.2.1 == fmtLines (s.outRaster o)
  | [] => true

/-- SERIALISER_START (R105): at the first frame start of the output raster after its conditions clear. -/
def execSerialiserStart (p : Fin 96) (s : State) : Res :=
  if s.txAllowed p && s.atFrameStart (s.laneOutput p) then .next (s.setLane p { s.lane p with txOn := true }) else .next s

/-! ### Commits of area 0x3000 that concern SDI lanes (R72, R81, R99, R101, R108) -/

/-- Whether lane p's slot or output is in use (R72). -/
def State.laneInUse (s : State) (p : Nat) : Bool :=
  s.slotTaken p || s.slotSubscribed p || s.outRaster p != 0

/-- Whether the output bound to a lane of the group of lane p has a raster (R72): quad TX_MAPPING affects outputs and no source slot. -/
def State.groupSends (s : State) (p : Nat) : Bool := (let b := p / 4 * 4; [b, b + 1, b + 2, b + 3]).any (fun q => s.outRaster q != 0)

/-- The lanes of the group of lane p. -/
def quadLanes (p : Nat) : List Nat := let b := p / 4 * 4; [b, b + 1, b + 2, b + 3]

/-- Whether a mapping carries a raster (R99). -/
def State.mappingOk (s : State) (p raster : Nat) : Bool :=
  let m := s.num (O.sdiTxMapping p)
  raster == 0 || m == 0 || (m == 1 && raster / 256 == 6 && decide (6 ≤ raster % 256)) ||
  ((m == 2 || m == 3) && raster / 256 == 7 && (quadLanes p).all (fun q => s.laneMode q == 1))

/-- Largest EMBED_CHANNELS of a raster's carriage (R101): 16 at 270 Mb/s and 1.485 Gb/s, 32 otherwise, also for the links of level B-DL,
whose groups Table 3-3 counts as four a link (log entry 154). -/
def embedLimit (raster mapping : Nat) : Nat :=
  if raster = 0 then 32
  else if mapping ≥ 1 then 32
  else if fmtSdiRate raster ≤ 3 then 16 else 32

/-- The hurdle code of an object of SDI lane p as a commit would leave it (Table 3-10). -/
def sdiIssue (pre post : State) (p sub : Nat) : Option Nat :=
  let changed := pre.num (objKey (0x3000 + p) sub) != post.num (objKey (0x3000 + p) sub)
  let v := post.num (objKey (0x3000 + p) sub)
  let quadBad := post.flag (O.sdiQuadRx (p / 4 * 4)) &&
    (quadLanes p).any (fun q => post.laneMode q != 1 || !([0, 4, 5].contains (post.num (O.sdiRxRate q))))
  if sub = 1 then
    (if changed && (pre.laneInUse p || (pre.quadRx p && pre.laneInUse (p / 4 * 4))) then some 0x3002
     else if quadBad then some 0x3003
     else if [2, 3].contains (post.num (O.sdiTxMapping (p / 4 * 4))) && post.laneMode (p / 4 * 4) == 1 &&
       (post.laneMode p != 1 || decide (p % 4 = 0) && (quadLanes p).any (fun q => post.laneMode q != 1)) then some 0x3004
     else none)
  else if sub = 3 then (if quadBad then some 0x3003 else none)
  else if sub = 4 then
    (if v = 1 ∧ p % 4 ≠ 0 then some 0x3001
     else if changed && (quadLanes p).any (fun q => pre.laneInUse q) then some 0x3002
     else if v = 1 ∧ quadBad then some 0x3003 else none)
  else if sub = 0x11 then
    (if (v = 2 ∨ v = 3) ∧ p % 4 ≠ 0 then some 0x3001
     else if changed && (v == 2 || v == 3) && pre.groupSends p then some 0x3002
     else if (v = 2 ∨ v = 3) && post.laneMode p == 1 && (quadLanes p).any (fun q => post.laneMode q != 1) then some 0x3004
     else if !post.mappingOk p (post.outRaster p) then some 0x3004
     else if embedLimit (post.outRaster p) v < post.num (O.sdiEmbedChannels p) then some 0x3005 else none)
  else if sub = 0x12 then
    (if v % 4 ≠ 0 ∨ embedLimit (post.outRaster p) (post.num (O.sdiTxMapping p)) < v then some 0x3005 else none)
  else if 9 ≤ sub ∧ sub ≤ 11 then
    (let b := post.bytes (objKey (0x3000 + p) sub)
     let pairs := (List.range (b.length / 2)).map (fun i => (byteAt b (2 * i), byteAt b (2 * i + 1)))
     if b.length % 2 ≠ 0 ∨ 16 < b.length ∨ pairs.any (fun q => ancConsumed q.1 q.2) then some 0x3006 else none)
  else none

/-- The frame with which output 4k leaves a quad mapping begins (Table 3-5): lanes 4k+1 to 4k+3 are its no more. -/
def State.mapLeaves (s : State) (o k : Nat) : State :=
  if o % 4 = 0 ∧ o < 96 ∧ (s.out_ o).mapAt ≠ 0 ∧ 2 ≤ (s.out_ o).mapOld ∧ s.txMapping o k < 2 ∧ 2 ≤ s.txMappingNow o then
    [o + 1, o + 2, o + 3].foldl (fun (x : State) q => x.setLane q { x.lane q with txOn := false }) s
  else s

/-- What a commit of area 0x3000 changes on an SDI lane at once (R78, R81, R86, R105). -/
def State.sdiApply (s : State) (pre : State) (p : Nat) : State :=
  let modeOff := pre.laneMode p == 1 && s.laneMode p != 1
  let rxOff := pre.flag (O.sdiRxEnable p) && !s.flag (O.sdiRxEnable p)
  let r := s.num (O.sdiRxRate p)
  let anew := (!pre.flag (O.sdiRxEnable p) && s.flag (O.sdiRxEnable p)) || pre.num (O.sdiRxRate p) != r
  let rateLost := pre.num (O.sdiRxRate p) != r && r != 0 && r != s.num (O.sdiRateDetected p)
  let hint := pre.num (O.sdiFormatHint p) != s.num (O.sdiFormatHint p) && s.lockState p == 4 && (s.lane p).hinted
  let line := (s.lane p).fly
  let s1 := if (modeOff || rxOff) && decide (2 ≤ s.lockState p) then
      (let to_ := if (s.lane p).sd && !modeOff then 1 else 0
       if 3 ≤ s.lockState p then s.loseLock p line to_ false 0 else s.setNum (O.sdiLockState p) to_)
    else if rateLost && decide (2 ≤ s.lockState p) then
      (if 3 ≤ s.lockState p then s.loseLock p line 1 false 0 else (s.setNum (O.sdiLockState p) 1).restartSearch p)
    else if hint then s.setLane p { s.lane p with hintDue := true }
    else if anew && s.lockState p == 1 then s.restartSearch p
    else s
  let s2 := if modeOff then
      (let l := s1.lane p
       (s1.setLane p { SdiLane.idle with sd := l.sd, crcSec := l.crcSec, lnSec := l.lnSec, trsSec := l.trsSec, errSec := l.errSec }).setNum
         (O.sdiLockState p) 0)
    else if pre.laneMode p != 1 && s1.laneMode p == 1 && (s1.lane p).sd && s1.laneActive p then
      (s1.restartSearch p).setNum (O.sdiLockState p) 1
    else s1
  let s3 := if pre.laneMode p != s2.laneMode p then s2.slotClear p else s2
  let qOn := !pre.flag (O.sdiQuadRx p) && s3.flag (O.sdiQuadRx p)
  let qOff := pre.flag (O.sdiQuadRx p) && !s3.flag (O.sdiQuadRx p)
  let s4 := if qOn then (quadLanes p).foldl (fun x n => x.slotClear n) (s3.setNum (O.sdiQuadState p) 1)
    else if qOff then
      (quadLanes p).foldl (fun x q =>
        let y := (x.slotClear q).setLane q { x.lane q with inGroup := false }
        if y.lockState q = 4 then y.sourcePresent q (y.num (O.sdiRasterDetected q)) else y) (s3.setNum (O.sdiQuadState p) 0)
    else s3
  let s5 := if pre.num (O.sdiTxMapping p) = s4.num (O.sdiTxMapping p) then s4
    else
      let x := s4.out_ p
      let f := s4.outRaster p
      let again := decide (f ≠ 0 ∧ x.mapAt ≠ 0 ∧ gridFrame (f % 256) x.mapAt = gridFrame (f % 256) s4.tm.pt)
      s4.setOut p { x with mapOld := if again then x.mapOld else pre.num (O.sdiTxMapping p), mapAt := if f = 0 then 0 else s4.tm.pt }
  if s5.txAllowed p then s5 else s5.setLane p { s5.lane p with txOn := false }

end Sys2Proof.Machine
end

