-- ==== Sys2Proof/Machine/Outputs.lean ====
section
/-! DEFINITION. Outputs (07): the switching line, audio transitions, format conflict, holding, and the assembly of lines
(R98–R102, R214, R228–R234). -/

namespace Sys2Proof.Machine

/-- Whether output o runs: it exists, has a raster and the essence path has started. -/
def State.outRuns (s : State) (o : Nat) : Bool :=
  s.outputKind o != 0 && s.outRaster o != 0 && s.essOn

/-- Pacer time at an earlier tick, under the present increment. -/
def State.ptAt (s : State) (t : Nat) : Nat := s.tm.pt - (s.now - t) * s.tm.inc

/-- Whether output o no longer sends grid frame k: Bench entry stops every output at its next frame start (Table 15-2, E1). -/
def State.outStopped (s : State) (o k : Nat) : Bool :=
  s.pwr.entry == 1 && decide (s.ptAt s.pwr.entryAt ≤ s.outTime o (s.outVideo o) k 1)

/-- Pacer time has come to `t`, within one tick (R213). -/
def State.timeFor (s : State) (t : Nat) : Bool := decide (t ≤ s.tm.pt + s.tm.inc)

/-! ### Audio positions (R229) -/

/-- The key of a position in the Stride tables. -/
def posKey (o p : Nat) : Nat := o * 128 + p


/-- The rate of a SID's channel in kHz: of a channel of another device, that of its subscription, `dflt` where none is held. -/
def State.chanRate (s : State) (sid dflt : Nat) : Nat :=
  if sidGen sid then 48 else if s.sidLocal sid then s.num (O.slotAudioRate (sidSlot sid))
  else ((s.heldFor sid).map (fun p => p.2.fs / 1000)).getD dflt

/-- Sample t of a SID on output o, t counted on the house grid of the output's line labels; a source without video is read
where its samples leave (R236). -/
def State.outSample (s : State) (o k sid t : Nat) : Option Nat :=
  let r := s.outAudioRate o k
  if s.chanRate sid r ≠ r then some 0
  else
    let c := s.chan (s.chanKey sid)
    if sidGen sid || c.byLine then s.chanAt sid t
    else
      let shift := linesPt (s.outRaster o) (4 + s.lag + s.remoteBit (s.outVideo o)) 1 + s.convPt o
      s.chanAt sid (t + shift * (r * 1000) / (1000000000 * ptNs))

/-- Whether a sample is zero or differs in sign from the one before. -/
def crossing (v before : Nat) : Bool :=
  v == 0 || (decide (sampInt v < 0) != decide (sampInt before < 0))

/-- Samples of the forced ramp: 2 ms. -/
def rampLen (khz : Nat) : Nat := 2 * khz

/-- Sample t of a transition between two channels (R229): their samples now and one before, and the length of a forced ramp;
the transition that goes on, if any. -/
def trStep (old new oldB newB : Nat) (tr : PosTr) (t n : Nat) : Nat × Option PosTr :=
  if t < tr.start then (old, some tr)
  else if tr.kind = 1 then
    (if t - tr.start < tr.len then (mixSamp old new (t - tr.start) tr.len, some tr) else (new, none))
  else if tr.kind = 2 then
    let oldEnd := match tr.oldEnd with
      | some e => some e
      | none => if tr.rampOld.isNone && crossing old oldB then some t else none
    let newStart := match tr.newStart with
      | some e => some e
      | none => if tr.rampNew.isNone && crossing new newB then some t else none
    let oldPart := match tr.rampOld, oldEnd with
      | _, some e => if t ≤ e then old else 0
      | some r, none => if t - r < n then mixSamp old 0 (t - r) n else 0
      | none, none => old
    let oldDone := match tr.rampOld, oldEnd with
      | _, some e => decide (e < t)
      | some r, none => decide (n ≤ t - r)
      | none, none => false
    let newPart := match tr.rampNew, newStart with
      | _, some e => if e ≤ t then new else 0
      | some r, none => if t - r < n then mixSamp 0 new (t - r) n else new
      | none, none => 0
    let newDone := newStart.isSome || (match tr.rampNew with | some r => decide (n ≤ t - r) | none => false)
    let v := if oldDone then newPart
      else if tr.rampNew.isSome && newStart.isNone then ofSamp (sampInt oldPart + sampInt newPart) else oldPart
    (v, if oldDone && newDone then none else some { tr with oldEnd := oldEnd, newStart := newStart })
  else (new, none)

/-- Sample t of a SID for output o, `last` where there is none, crossfaded over the first 64 samples after a change of padding (R230). DESIGN
CHOICE (log entry 171): the crossfade begins at A_F; a channel that does not go by line labels needs none. -/
def State.padded (s : State) (o k sid t last : Nat) : Nat :=
  let v := (s.outSample o k sid t).getD last
  match (s.out_ o).splice with
  | some (a, d) =>
    if a ≤ t ∧ t < a + 64 ∧ (sidGen sid || (s.chan (s.chanKey sid)).byLine) = true then
      mixSamp ((s.outSample o k sid ((t : Int) + d).toNat).getD last) v (t - a) 64
    else v
  | none => v

/-- Sample t of position p of output o as its take places it, with the position's transition carried on (R229). -/
def State.takenAt (s : State) (o k p t : Nat) : Nat × State :=
  let x := s.out_ o
  let last := tget zeroNat x.samp p
  let val (sid : Nat) : Nat := s.padded o k sid t last
  let before (sid : Nat) : Nat := (s.outSample o k sid (t - 1)).getD 0
  let (v, tr') := match tfind x.trans p with
    | none => (val (s.num (O.takeAudioPosition o p)), none)
    | some tr => trStep (val tr.old) (val tr.new) (before tr.old) (before tr.new) tr t (rampLen (s.outAudioRate o k))
  (v, s.setOut o { x with samp := tset zeroNat x.samp p v,
                          trans := match tr' with | some r => tput x.trans p r | none => tdel x.trans p })

/-- Samples by which a label of output o leads the house sample at which its line is assembled (R213). -/
def State.posShift (s : State) (o k : Nat) : Nat :=
  let d := linesPt (s.outRaster o) (4 + s.lag + s.remoteBit (s.outVideo o)) 1 + s.convPt o
  d * (s.outAudioRate o k * 1000) / (1000000000 * ptNs)

/-- The taken sample of a position for label t, read ahead by a graph or read now. -/
def State.takenOnce (s : State) (o k p t : Nat) : Nat × State :=
  match (tget (fun _ => []) s.str.ahead (posKey o p)).find? (fun q => q.1 == t) with
  | some q => (q.2, s)
  | none => s.takenAt o k p t

/-- Sample t of position p of output o: the limiter output of the destination slot that targets it, or what its take placed
(R276). -/
def State.stepPos (s : State) (o k p t : Nat) : Nat × State :=
  let (v, s1) := s.takenOnce o k p t
  match tfind s1.str.act.dmap (posKey o p) with
  | none => (v, s1)
  | some d =>
    let h := (tget destZero s1.str.dests d).hist
    let n := t + s1.posShift o k
    (((h.find? (fun q => decide (q.1 ≤ n))).map Prod.snd).getD 0, s1)

/-- A_F of output o in grid frame k: the first house sample at or after G_o(S) (R229). -/
def State.takeSample (s : State) (o k : Nat) : Nat :=
  let f := s.outRaster o
  sampleAt (s.outAudioRate o k * 1000) (gridStart (f % 256) k + linesPt f (s.switchLine o k - 1) 1)

/-- Begins the transitions of a take's positions from A_F; the non-audio rule does not apply to a processed position (R276). -/
def State.startTrans (s : State) (o k order trans : Nat) (chans : List (Nat × Nat)) : State :=
  let kind0 := if trans = 0 then s.num (O.outAudioTransition o) else trans
  let start := s.takeSample o k
  chans.foldl (fun s1 p =>
    let x := s1.out_ o
    let old := s1.num (O.takeAudioPosition o p.1)
    if old = p.2 then s1
    else
      let non := (s1.pairNonAudio old || s1.pairNonAudio p.2) && (tfind s1.str.act.dmap (posKey o p.1)).isNone
      let tr : PosTr := ⟨old, p.2, if non then 3 else kind0, start, s1.num (O.outXfadeSamples o), order, none, none, none, none⟩
      s1.setOut o { x with trans := tput x.trans p.1 tr }) s

/-! ### The switching line (R225, R227, R228, R231, R237) -/

/-- Records due on output o by grid frame k: their batch and record. -/
def State.dueRecs (s : State) (o k : Nat) : List (Batch × PendRec) :=
  s.ess.takes.batches.flatMap (fun b =>
    (b.recs.filter (fun r => r.rec_.output == o && decide (r.frame ≤ k))).map (fun r => (b, r)))

/-- Those of the records due on output o that may apply: they wait for no subscription, or are mirrored, whose output holds instead (R374), and
STEP_POLICY does not bar them (R214). -/
def State.readyRecs (s : State) (o k : Nat) : List (Batch × PendRec) :=
  (s.dueRecs o k).filter (fun p => (p.2.asks.isEmpty || p.1.origin == 5) && !s.stepBars p.2.rec_)

/-- The positions a record sets with their channels as it applies: with AUDIO_MODE 0 those of the video in force after it (R215). -/
def State.recNow (s : State) (r : PendRec) : List (Nat × Nat) :=
  if r.rec_.setAudio ∧ r.rec_.amode = 0 then s.recChans r.rec_ else r.chans

/-- The one that arrived last. -/
def lastArrived : List (Batch × PendRec) → Option (Batch × PendRec)
  | [] => none
  | p :: ps =>
    match lastArrived ps with
    | none => some p
    | some q => if p.1.ta > q.1.ta ∨ (p.1.ta = q.1.ta ∧ p.1.order > q.1.order) then some p else some q

/-- Removes the records of output o that have come to an outcome; `hit` counts the one that applied in frame k. -/
def State.dropRecs (s : State) (o k : Nat) (hit : Option Nat) : State :=
  s.setBatches (s.ess.takes.batches.map (fun b =>
    let rest := b.recs.filter (fun r => !(r.rec_.output == o && decide (r.frame ≤ k)))
    if hit = some b.order then
      { b with recs := rest, applied := b.applied + 1,
               firstFrame := if b.applied = 0 then s.frameCount o k else b.firstFrame }
    else { b with recs := rest }))

/-- The ST 2022-7 skew allowance of the video flow of slot n where it is paired, as Pacer time (Table 1-10). -/
def State.pairStage (s : State) (n : Nat) : Nat :=
  match (s.slotFlows n).find? (fun p => byteAt p.2 1 == 1 || byteAt p.2 1 == 5) with
  | some p => if s.slotKind n = 2 ∧ (s.rxPartner p.1).isSome then halfAt p.2 48 * 1000 * ptNs else 0
  | none => 0

/-- A number of lines of raster g, in 1/65,536, in lines of raster f. -/
def scaleLines (g f : Nat) (q : Int) : Int :=
  let (a, b) := rateFrac (g % 256)
  let (c, d) := rateFrac (f % 256)
  if g = f ∨ a = 0 ∨ c = 0 then q else roundDiv (q * ((b * c * fmtLines f : Nat) : Int)) (a * fmtLines g * d)

/-- The internal output that the slot of a local video SID publishes, if any (Table 1-5). -/
def State.republished (s : State) (sid : Nat) : Option Nat :=
  let o := s.slotOrigin (sidSlot sid)
  if s.sidLocal sid && !sidGen sid && s.slotKind (sidSlot sid) == 3 && decide (96 ≤ o) && decide (o ≤ 127) then some o else none

/-- The video SID from which a video SID comes through published internal outputs; `fuel` bounds their number. -/
def State.rootVideo (s : State) : Nat → Nat → Nat
  | 0, sid => sid
  | fuel + 1, sid => match s.republished sid with | some o => s.rootVideo fuel (s.outVideo o) | none => sid

/-- Path latency of the video in force on output o, in 1/65,536 lines of its raster (R35, R36, R235, Tables 1-10 and 7-4): receive, Aligner
and Relay stages in lines of the source raster, then the converter, the line buffer and the line after which a line leaves (R213). A
head's published slot counts like any local source with the 3 frames of composition (R307); a published internal output adds its Aligner's
stage to the path up to that output. `w` is what the Aligner of another device adds beyond its own line. -/
def State.pathSum (s : State) (w : Nat) : Nat → Nat → Int
  | 0, _ => 0
  | fuel + 1, o =>
    let v := s.outVideo o
    let f := s.outRaster o
    let n := sidSlot v
    let g := s.relRaster n
    let last : Int := 65536 * (3 + (if (s.convOf o).isSome then fmtLines f else 0 : Nat))
    let delay : Int := 65536 * (s.num (O.slotVideoDelay n) * fmtLines g : Nat) + s.int (O.slotAlignWait n)
    if sidGen v then last
    else if s.sidLocal v then
      match s.republished v with
      | some i => scaleLines g f (s.pathSum w fuel i + 65536 + delay) + last
      | none =>
        let comp := if s.slotKind n = 3 ∧ s.slotOrigin n < 8 then 3 * fmtLines g else 0
        scaleLines g f (65536 * (2 + comp : Nat) + ptToQ16Lines g (s.pairStage n) + delay) + last
    else scaleLines (((s.heldFor v).map (fun p => p.2.fmt)).getD 0) f (3 * 65536 + (w % 2 ^ 31 : Nat)) + last

/-- Path latency of output o (R38). The wait, the programmed delay and the skew allowance of a source of another device reach this device in
no message, so they are a free value (log entry 12). -/
def State.pathLines (s : State) (o : Nat) : Int × State :=
  let v := s.rootVideo 33 (s.outVideo o)
  if sidGen v || s.sidLocal v then (s.pathSum 0 33 o, s)
  else
    let (w, s1) := s.freeNat
    (s.pathSum w 33 o, s1)

/-- Samples that the ASRC instances add to the audio an output takes (R259): 48 where a position's pair has one. -/
def State.asrcSamples (s : State) (o : Nat) : Nat :=
  if (List.range 128).any (fun p =>
    let x := s.num (O.takeAudioPosition o p)
    s.sidLocal x && !sidGen x && (s.asrcOf (sidSlot x) (sidSub x)).isSome) then 48 else 0

/-- PATH_LATENCY_LINES and PATH_LATENCY_SAMPLES of output o (R38). -/
def State.outLatency (s : State) (o : Nat) : State :=
  let (l, s1) := s.pathLines o
  let f := s.outRaster o
  let (num, den) := rateFrac (f % 256)
  let fs := s.num (O.outAudioRate o) * 1000
  (s1.setInt (O.outPathLatencyLines o) (clampInt 0 0x7FFFFFFF l)).setNum (O.outPathLatencySamples o)
    (ceilDiv (l.toNat * fs * den) (65536 * num * fmtLines f) + s.asrcSamples o)

/-- The raster of the video in force on output o, where the device knows one. -/
def State.videoRaster (s : State) (sid : Nat) : Option Nat :=
  if sidGen sid then none
  else if s.sidLocal sid then some (s.slotRaster (sidSlot sid))
  else (s.heldFor sid).map (fun p => p.2.fmt)

/-- The format-conflict test of a switching line (R231): a converter joins rasters of one frame rate (R319). -/
def State.conflictNow (s : State) (o : Nat) : Bool :=
  match s.videoRaster (s.outVideo o) with
  | none => false
  | some r => if (s.convOf o).isSome then r % 256 != s.outRaster o % 256 else r != s.outRaster o

/-- OUTPUT_STATE. -/
def State.outStateObj (s : State) (o : Nat) : State :=
  let x := s.out_ o
  s.setNum (O.takeOutputState o) (if s.outRaster o = 0 then 0 else if x.hold then 3 else if x.conflict then 2 else 1)

/-- A hold ends: event 0x6007 with the lines held (R233). -/
def State.endHold (s : State) (o : Nat) : State :=
  let x := s.out_ o
  if x.hold then ((s.setOut o { x with hold := false, held := 0 }).raise 0x6007 (p8 o ++ p32 x.held)).outStateObj o else s

/-- A format conflict begins or clears. A hold ends where one begins, for the output then shows the conflict (R231, R233). -/
def State.testConflict (s : State) (o : Nat) : State :=
  let x := s.out_ o
  let c := s.conflictNow o
  if c = x.conflict then s
  else if c then
    ((((s.endHold o).setOut o { (s.endHold o).out_ o with conflict := true }).bump (O.outConflicts o)).outEvent o 1 0x6004
      (p8 o ++ p16 ((s.videoRaster (s.outVideo o)).getD 0))).outStateObj o
  else ((s.setOut o { x with conflict := false }).raise 0x6005 (p8 o)).outStateObj o

/-- Event 0x600A for each position whose channel has come to have another rate than the output (R229). -/
def State.testRates (s : State) (o k : Nat) : State :=
  let r := s.outAudioRate o k
  let bad := (List.range 128).filter (fun p => s.chanRate (s.num (O.takeAudioPosition o p)) r != r)
  (bad.filter (fun p => !(s.out_ o).mism.contains p)).foldl (fun y p => y.outEvent o 5 0x600A (p8 o ++ p8 p))
    (if bad = (s.out_ o).mism then s else s.setOut o { s.out_ o with mism := bad })

/-- An applied record becomes the take in force (R228, R229, R214); channels that AUDIO_MODE 0 only now gives are subscribed to. -/
def State.applyTake (s : State) (o k : Nat) (b : Batch) (r : PendRec) : State :=
  let t := r.rec_
  let started := (s.out_ o).trans.any (fun p => p.2.by_ == b.order)
  let chans := s.recNow r
  let s00 := if chans = r.chans then s else (s.askNeeds (s.recNeeds { t with setVideo := false, setAnc := false, setTc := false } chans)).2
  let s1 := if started then s00 else s00.startTrans o k b.order t.trans chans
  let c0 := s1.remoteBit (s1.outVideo o)
  let s2 := if t.setVideo then s1.setNum (O.takeVideoSid o) t.video else s1
  let s3 := if t.setAnc then s2.setNum (O.takeAncSid o) t.anc else s2
  let s4 := if t.setTc then s3.setNum (O.takeTcSid o) t.tc else s3
  let s5 := chans.foldl (fun x p => x.setNum (O.takeAudioPosition o p.1) p.2) s4
  let c1 := s5.remoteBit (s5.outVideo o)
  let x := s5.out_ o
  let s6 := s5.setOut o { x with takeAt := b.ta, aref := if t.setAudio then t.aref else x.aref, step := (c1 : Int) - c0,
                                 trans := x.trans.filter (fun p => p.2.new == s5.num (O.takeAudioPosition o p.1)) }
  let s7 := if c0 ≠ c1 then s6.outEvent o 3 0x6008 (p8 o ++ beBytes 1 (twos 8 ((c1 : Int) - c0))) else s6
  let rate := s7.outAudioRate o k
  let bad := chans.filter (fun p => s7.chanRate p.2 rate != rate)
  let s8 := bad.foldl (fun y p => y.outEvent o 5 0x600A (p8 o ++ p8 p.1))
    (s7.setOut o { s7.out_ o with mism := bad.map Prod.fst ++ (s7.out_ o).mism })
  let seq := s8.ess.takes.jseq
  let s9 := s8.journal 0 b.origin b.split { t with setAudio := t.setAudio && !b.rwt } b.ta k
  let s10 := if b.rwt then s9.setNum (O.takeTransition o) t.trans else s9
  ((s10.setNum (O.takeLastSeq o) seq).setNum (O.takeVideoRemote o) c1).setBit (rOutEvt o) 0

/-- Converters committed to output o come into force, and removed ones leave; an output that has sent a line repeats or leaves out a
frame (R319, R320). -/
def State.convSwitch (s : State) (o k : Nat) : State :=
  let want := (List.range 16).find? (fun c => s.num (O.convOutput c) == o && !s.comp.convShed.contains c)
  let have_ := s.convOf o
  if want = have_ then s
  else
    let s1 := match have_ with
      | some c => ({ s with comp := { s.comp with convOn := tdel s.comp.convOn c } }).setNum (O.convConvState c)
          (if s.comp.convShed.contains c then 2 else 0)
      | none => s
    let s2 := match want with
      | some c => ({ s1 with comp := { s1.comp with convOn := tput s1.comp.convOn c (o + 1) } }).setNum (O.convConvState c) 1
      | none => s1
    if have_.isSome && want.isSome then s2
    else
      let t := s2.comp
      let quiet := (s.out_ o).line.isEmpty
      let s3 : State := { s2 with comp := { t with
        convAt := if want.isSome && !quiet then tput t.convAt o k else tdel t.convAt o,
        convGone := if want.isSome || quiet then tdel t.convGone o else tput t.convGone o k } }
      (s3.raise 0x8009 (p8 o ++ beBytes 1 (if want.isSome then 1 else 255))).outLatency o

/-- A record that STEP_POLICY bars at its switching line is refused (R214, log entry 194). -/
def State.refuseStep (s : State) (k : Nat) (b : Batch) (r : PendRec) : State :=
  ((s.journal 0x601A b.origin b.split r.rec_ b.ta k).raise 0x6003 (p32 b.id ++ p16 0x601A)).ringRefused b.origin 0x601A

/-- The switching line of output o in grid frame k (R228): outcomes of every record due, the take that applies, format
conflict, converters; packets carry a change of padding from A_F on (R230). -/
def State.switchOutput (s : State) (o k : Nat) : State :=
  let x := s.out_ o
  let s1 := (s.setOut o { x with prevVideo := s.outVideo o, prevAnc := s.num (O.takeAncSid o), prevTc := s.num (O.takeTcSid o),
                                 lastGrid := k, step := 0 }).bump (O.takeFrameCount o)
  let due := s1.dueRecs o k
  let wait := due.filter (fun p => !p.2.asks.isEmpty && p.1.origin != 5)
  let s2 := wait.foldl (fun y p =>
    (y.journal 0x6010 p.1.origin p.1.split p.2.rec_ p.1.ta k).raise 0x6002
      (p32 p.1.id ++ p8 o ++ p32 ((y.tm.pt - y.takeDeadline o k true) / ptNs))) s1
  let s3 := s2.setBatches (s2.ess.takes.batches.map (fun b =>
    { b with recs := b.recs.map (fun r =>
        if r.rec_.output = o ∧ r.frame ≤ k ∧ !r.asks.isEmpty ∧ b.origin ≠ 5 then { r with frame := k + 1 } else r) }))
  let ready := s1.readyRecs o k
  let barred := due.filter (fun p => (p.2.asks.isEmpty || p.1.origin == 5) && s1.stepBars p.2.rec_)
  let s4 := match lastArrived ready with
    | none => if barred.isEmpty then s3
        else (((barred.foldl (fun (z : State) (p : Batch × PendRec) => z.refuseStep k p.1 p.2) s3).dropRecs o k none).pendObj o).sweepBatches
    | some win =>
      let stale := decide (win.1.ta < x.takeAt)
      let losers := ready.filter (fun (p : Batch × PendRec) => stale || p.1.order != win.1.order)
      let y := losers.foldl (fun (z : State) (p : Batch × PendRec) => z.journal 0x6011 p.1.origin p.1.split p.2.rec_ p.1.ta k)
        (barred.foldl (fun (z : State) (p : Batch × PendRec) => z.refuseStep k p.1 p.2) s3)
      let z := if stale then y else y.applyTake o k win.1 win.2
      ((z.dropRecs o k (if stale then none else some win.1.order)).pendObj o).sweepBatches
  let s5 := s4.convSwitch o k
  let s6 := if ready.isEmpty then s5 else s5.outLatency o
  let s7 := ((s6.testConflict o).testRates o k).outStateObj o
  let old := s.posShift o k
  if s7.posShift o k = old then s7 else s7.setOut o { s7.out_ o with pad := some (s.takeSample o k + old, old) }

/-! ### Lines (R98–R102, R213, R233) -/

/-- What a line of an output finds: samples per video SUB, or the cause of a hold. -/
inductive Supply where
  | line (data : List (List Byte))
  | hold (cause : Nat)
deriving DecidableEq, Repr

/-- Generator video (Table 1-6). -/
def genLine (slot f n : Nat) : List Byte :=
  if !fmtActive f n then [] else if slot = 241 ∨ slot = 242 then Config.barsLine slot f n else blackLine f

/-- The released line of a local slot. -/
def State.relLine (s : State) (n k line : Nat) : Supply :=
  if !s.isPresent (lkey n 0 0) && !(s.slotQuad n && s.slotPresent n) then .hold 1
  else
    let us := (s.slot n).rel.filter (fun u => u.k == k && u.n == line)
    let ds := (s.slotSubs n).map (fun b => (us.find? (fun u => u.sub == b)).map (fun u => u.data))
    if ds.all Option.isSome then .line (ds.map (fun d => d.getD [])) else .hold 3

/-- The unit of line n that a remote stream presented lately: within half a frame. -/
def State.shownUnit (s : State) (sid n : Nat) : Option ShownUnit :=
  match s.heldFor sid with
  | some p => p.2.shown.find? (fun u => u.unit == n && decide (s.tm.pt < u.at_ + framePt p.2.fmt / 2))
  | none => none

/-- The line of a remote source. -/
def State.remoteLine (s : State) (sid n : Nat) : Supply :=
  if !(s.link (sidDev sid)).up then .hold 2
  else
    let subs := (List.range 4).filter (fun i => (s.heldFor (sid + i)).isSome)
    if subs.isEmpty then .hold 1
    else
      let us := subs.map (fun i => s.shownUnit (sid + i) n)
      if us.any Option.isNone then .hold 3
      else
        let ds := us.filterMap (fun u => match u with
          | some ⟨_, _, false, .video d⟩ => some d
          | _ => none)
        if ds.length = subs.length then .line ds else .hold 1

/-- The words of a coefficient bank (R318); a bank never written holds its default. -/
def State.bank (s : State) (k : Nat) : List Byte :=
  let b := s.bytes (O.bankCoeffBankK k)
  if b.isEmpty then Config.defaultBank (if 4 ≤ k then 0 else k) else b

/-- The line number of row y of a raster's active picture: two fields are woven, the first giving the even rows. -/
def rowLine (f y : Nat) : Nat :=
  match fmtFirstActive f with
  | [a] => a + y
  | [a, b] => if y % 2 = 0 then a + y / 2 else b + y / 2
  | _ => 0

/-- A line of a video SID in source frame k, none where it was absent when released. -/
def State.tileLine (s : State) (sid f k n : Nat) : Option (List Byte) :=
  if sidGen sid then some (genLine (sidSlot sid) f n)
  else if s.sidLocal sid then
    (let slot := sidSlot sid
     let us := (s.slot slot).rel.filter (fun u => u.k == k && u.n == n)
     let ds := (s.slotSubs slot).map (fun b =>
       if s.isPresent (lkey slot 0 b) then (us.find? (fun u => u.sub == b)).map (fun u => u.data) else none)
     if ds.all Option.isSome then some (ds.map (fun d => d.getD [])).flatten else none)
  else
    (let ls := (List.range 4).filter (fun i => (s.heldFor (sid + i)).isSome)
     let t := s.relTime f k n
     let ds := ls.map (fun i => match s.heldFor (sid + i) with
       | some p => (p.2.shown.find? (fun u => u.unit == n && decide (t ≤ u.at_ + s.tm.inc) && decide (u.at_ < t + framePt f))).bind
           (fun u => match u with
             | ⟨_, _, false, .video d⟩ => some d
             | _ => none)
       | none => none)
     if !ds.isEmpty && ds.all Option.isSome then some (ds.map (fun d => d.getD [])).flatten else none)

/-- The coefficient bank converter c uses: a committed bank takes effect at the converter's next frame start (R318), a change of BANK at
its commit. -/
def State.convBankNow (s : State) (c : Nat) : List Byte :=
  let k := s.num (O.convBank c)
  match tfind s.comp.convBank c with
  | some q => if q.1 = k then q.2 else s.bank k
  | none => s.bank k

/-- A frame of the converter of output o starts: its bank is taken (R318). -/
def State.convFrame (s : State) (o : Nat) : State :=
  match s.convOf o with
  | some c =>
    let k := s.num (O.convBank c)
    { s with comp := { s.comp with convBank := tput s.comp.convBank c (k, s.bank k) } }
  | none => s

/-- The row of a raster's active picture on line n. -/
def lineRow (f n : Nat) : Option Nat := (List.range (fmtActiveLines f)).find? (fun y => rowLine f y == n)

/-- Line n of converter c's picture, from the source's picture of frame k (R318–R320); none where the source lacks a line. -/
def State.convLine (s : State) (c sid f k n : Nat) : Option (List Byte) :=
  match if s.sidLocal sid && !sidGen sid then some (s.relRaster (sidSlot sid)) else s.videoRaster sid with
  | none => none
  | some g =>
    let rows := (List.range (fmtActiveLines g)).map (fun y => s.tileLine sid g k (rowLine g y))
    if rows.all Option.isSome then
      (lineRow f n).map (fun y => packLine (convertRow (s.convBankNow c) (s.num (O.convVTaps c))
        (s.num (O.convAspect c)) (rows.map (fun d => unpackLine (d.getD []))) (fmtWidth f) (fmtActiveLines f) y))
    else none

/-- The supply of line n of grid frame k for a video SID. -/
def State.supply (s : State) (o sid k n : Nat) : Supply :=
  let f := s.outRaster o
  if sidGen sid then .line [genLine (sidSlot sid) f n]
  else if !fmtActive f n then .line [[]]
  else
    let raw := if s.sidLocal sid then s.relLine (sidSlot sid) k n else s.remoteLine sid n
    match s.convOf o with
    | some c =>
      (match s.convLine c sid f k n with
       | some d => .line [d]
       | none => if !s.sidLocal sid && !(s.link (sidDev sid)).up then .hold 2 else .hold 1)
    | none => raw

/-- The SID in force for line n of grid frame k: lines before the switching line keep the source before the take (R228). -/
def State.sidFor (s : State) (o k n cur prev : Nat) : Nat :=
  let g := (s.out_ o).lastGrid
  if k < g ∨ (g = k ∧ n < s.switchLine o k) then prev else cur

/-- The time-code SID for the lines of grid frame k: from frame F of a take on the one it sets (R228), also on the lines before its switching
line. -/
def State.tcFor (s : State) (o k : Nat) : Nat :=
  let x := s.out_ o
  let cur := s.num (O.takeTcSid o)
  if k < x.lastGrid then x.prevTc
  else if k = x.lastGrid then cur
  else match lastArrived (s.readyRecs o k) with
    | some p => if x.takeAt ≤ p.1.ta ∧ p.2.rec_.setTc then p.2.rec_.tc else cur
    | none => cur

/-- The line before the switching line of grid frame k: its frame and number (R214). -/
def State.stepLine (s : State) (o k : Nat) : Nat × Nat :=
  let sw := s.switchLine o k
  if sw ≤ 1 then (k - 1, fmtLines (s.outRaster o)) else (k, sw - 1)

/-- Whether the source of a remote ancillary SID is a quad-link source, as far as the device sees: the SID is that of stream 0 and link 2 of
the same slot's video is held (R22, R216; DEDUCED, log entry 71). -/
def State.remoteQuad (s : State) (sid : Nat) : Bool :=
  sidSub sid == 0 && (s.heldFor (mkSid (sidDev sid) (sidSlot sid) 0 1)).isSome

/-- Ancillary packets of line n for an ancillary SID; of a quad-link source those of every link, at the source line that the link's line
begins. -/
def State.ancOf (s : State) (sid k n : Nat) : List AncPkt :=
  if sidGen sid then []
  else if s.sidLocal sid then
    let slot := sidSlot sid
    ((s.slot slot).rel.filter (fun u => u.k == k && u.n == n)).flatMap (fun u =>
      (u.anc.filter (fun a => s.slotQuad slot || a.1 == sidSub sid)).map (fun a =>
        if s.slotQuad slot then { a.2 with link := a.1 + 1, line := n } else { a.2 with link := 1 }))
  else (List.range (if s.remoteQuad sid then 4 else 1)).flatMap (fun i => match s.shownUnit (sid + i) n with
    | some ⟨_, _, false, .anc l⟩ => l.map (fun q => if s.remoteQuad sid then { q with link := i + 1, line := n } else { q with link := 1 })
    | _ => [])

/-- Time code of grid frame k for a time-code SID: ATC type and value, with the line on which each arrived (R92); a remote stream
gives no line (R204), and its values stand for line 1. -/
def State.tcFrame (s : State) (sid k : Nat) : List (Nat × Nat × Nat) :=
  if sidGen sid then []
  else if s.sidLocal sid then
    ((s.slot (sidSlot sid)).rel.filter (fun u => u.k == k)).flatMap (fun u =>
      (u.tc.filter (fun q => min q.1 1 == sidSub sid)).map (fun q => (u.n, q)))
  else match s.heldFor sid with
    | some p => (p.2.shown.filter (fun u => u.unit % 4096 == k % 4096)).filterMap (fun u => match u with
        | ⟨_, _, false, .tc v a⟩ => some (1, a, v)
        | _ => none)
    | none => []

/-- Time code that arrived with line n. -/
def State.tcOf (s : State) (sid k n : Nat) : List (Nat × Nat) := ((s.tcFrame sid k).filter (fun q => q.1 == n)).map Prod.snd

/-- The line of an SDI lane that carries ATC of a type: ATC_LINE_LTC, ATC_LINE_VITC, and field 2 as ST 12-2 has it (R102). -/
def State.atcLine (s : State) (lane f type : Nat) : Nat :=
  let v := s.num (if type = 0 then O.sdiAtcLineLtc lane else O.sdiAtcLineVitc lane)
  if type = 2 ∨ v = 0 then Config.atcLine f type v else v

/-- The time code inserted on line n of grid frame k: the frame's value of each ATC type (R102). -/
def State.atcOf (s : State) (lane sid f k n : Nat) : List (Nat × Nat) :=
  let vs := s.tcFrame sid k
  [0, 1, 2].filterMap (fun ty => if s.atcLine lane f ty = n then (vs.find? (fun q => q.2.1 == ty)).map Prod.snd else none)

/-- Links of a mapping on SDI (R99). -/
def mapLinks (m : Nat) : Nat := if m ≥ 2 then 4 else if m = 1 then 2 else 1

/-- Positions embedded on output o with a mapping (R101). -/
def State.embedded (s : State) (o m : Nat) : List Nat :=
  (List.range (32 * mapLinks m)).filter (fun p => decide (p % 32 < s.num (O.sdiEmbedChannels o)))

/-- Reads the samples of the given positions up to label t1. -/
def State.readPositions (s : State) (o k t0 t1 : Nat) (ps : List Nat) : List (Nat × List Nat) × State :=
  ps.foldl (fun (a : List (Nat × List Nat) × State) p =>
    let (vs, s1) := (List.range (t1 - t0)).foldl (fun (b : List Nat × State) i =>
      let (v, s2) := b.2.stepPos o k p (t0 + i)
      (b.1 ++ [v], s2)) ([], a.2)
    (a.1 ++ [(p, vs)], s1)) ([], s)

/-- The first free place of `need` words in a data space of `room` words, from `start` on, beside the places taken. -/
def freeAt (room need start : Nat) (taken : List (Nat × Nat)) : Option Nat :=
  let fits (x : Nat) : Bool := decide (start ≤ x) && decide (x + need ≤ room) && taken.all (fun q => decide (x + need ≤ q.1) || decide (q.2 ≤ x))
  ((start :: taken.map Prod.snd).filter fits).foldl (fun a x => some (min (a.getD x) x)) none

/-- A data space of a line (R100): link, C or Y data stream, and whether it is VANC, the active samples of a blanking line, or HANC. -/
abbrev AncSpace := Nat × Bool × Bool

/-- Whether a packet's recorded place lies in VANC: its horizontal offset, counted from SAV, falls into the active samples (PRESUMED, log entry
208). -/
def ancVert (f : Nat) (k : AncPkt) : Bool := decide (k.hoff < fmtWidth f)

/-- The data space of a packet. -/
def ancSpace (f : Nat) (k : AncPkt) : AncSpace := (k.link, k.cStream, ancVert f k)

/-- Packets placed on line n, in their order of arrival, and those that wait (R100): a packet that arrives for the line takes its recorded
offset in its data space where it is free, and the next free place otherwise. `room` is what a space has, `taken` lists places taken by
space, first word and the word after the last; HANC begins after the active samples. -/
def placeAnc (f : Nat) (room : AncSpace → Nat) (n : Nat) : List AncPkt → List (AncSpace × Nat × Nat) → List AncPkt × List AncPkt
  | [], _ => ([], [])
  | k :: ks, taken =>
    let need := k.data.length + 7
    let sp := ancSpace f k
    let base := if sp.2.2 then 0 else fmtWidth f
    let here := (taken.filter (fun q => q.1 == sp)).map Prod.snd
    match freeAt (room sp) need (if k.line = n then k.hoff - base else 0) here with
    | some x =>
      let (a, b) := placeAnc f room n ks ((sp, x, x + need) :: taken)
      ({ k with line := n, hoff := base + x } :: a, b)
    | none => (let (a, b) := placeAnc f room n ks taken; (a, k :: b))

/-- The last line of the field that line n lies in. -/
def fieldLast (f n : Nat) : Nat := if fmtTwoFields f && decide (n ≤ fmtLines f / 2) then fmtLines f / 2 else fmtLines f

/-- Whether line n ends a field of a raster. -/
def fieldEnd (f n : Nat) : Bool := n == fieldLast f n

/-- Whether no line after n of its field has VANC. -/
def vancEnd (f n : Nat) : Bool := ((List.range (fieldLast f n - n)).map (fun i => n + 1 + i)).all (fun j => fmtActive f j)

/-- Hold begins or goes on at an active line without supply (R233), or ends at one with it. -/
def State.holdLine (s : State) (o : Nat) (cause : Option Nat) : State :=
  let x := s.out_ o
  match cause with
  | some c =>
    if x.hold then (s.setOut o { x with held := x.held + 1 }).bump (O.outHoldLines o)
    else
      (((s.setOut o { x with hold := true, held := 1 }).bump (O.outHoldLines o)).outEvent o 2 0x6006 (p8 o ++ p8 c)).report 161 0x6006
        |>.outStateObj o
  | none => s.endHold o

/-- The ST 352 bytes that a video source signals in grid frame k (R98), 0 where it signals none: those of its SDI lane or of the SDI signal it carries; of
an internal output, those of its own source. -/
def State.sourceId (s : State) (k sid0 : Nat) : Nat :=
  let sid := s.rootVideo 33 sid0
  if sidGen sid then 0
  else if !s.sidLocal sid then Config.remotePayload sid k
  else
    let n := sidSlot sid
    match s.slotKind n with
    | 1 => s.num (O.sdiPayloadId n)
    | 2 => (((s.slotFlows n).find? (fun p => byteAt p.2 1 == 5)).map (fun p => (s.rx (s.rxLead p.1)).payloadId)).getD 0
    | _ => 0

/-- Line n of the SDI signal of output o in grid frame k, with the state after it (R98–R102): `data` are its active samples, `v` and `t` the
video and time-code SIDs, `anc` the ancillary packets that arrive for it, `t0` and `t1` the samples it embeds. -/
def State.sdiSignal (s : State) (o k n v t : Nat) (data : List (List Byte)) (holding : Bool) (anc : List AncPkt) (t0 t1 : Nat) : SdiOut × State :=
  let f := s.outRaster o
  let m := if s.laneMode o = 1 then s.txMapping o k else 0
  let links := mapLinks m
  let rate := if m ≥ 2 then (if f % 256 = 1 ∨ f % 256 = 4 ∨ f % 256 = 7 then 5 else 4) else fmtSdiRate f
  let sw := s.switchLine o k
  let embed := !(n == sw || n == sw + 1)
  let (audio, s1) := if embed then s.readPositions o k t0 t1 (s.embedded o m) else ([], s)
  let ctl := if Config.audioCtlLine f m n then
      (List.range links).flatMap (fun l => (List.range (s.num (O.sdiEmbedChannels o) / 4)).map (fun g => (l + 1, g + 1, s.outAudioRate o k)))
    else []
  let tc := if holding then [] else s1.atcOf o t f k n
  let src := s1.sourceId k v
  let ids := if Config.st352Line f m n then (List.range links).map (fun l => (l + 1, Config.payloadId f m (l + 1) src)) else []
  let pk := if holding then [] else (s1.out_ o).wait ++ (anc.filter (fun q => q.ckOk)).map (fun q => { q with link := if m ≥ 2 then q.link else 1 })
  let taken := (List.range links).flatMap (fun l => [(false, false), (false, true), (true, false), (true, true)].map (fun c =>
    ((l + 1, c.1, c.2), 0, Config.ancTaken rate (l + 1) c.1 c.2 [(ids.filter (fun q => q.1 == l + 1)).length,
      ((audio.filter (fun q => q.1 / 32 == l)).map (fun q => q.2.length)).foldl (· + ·) 0, (ctl.filter (fun q => q.1 == l + 1)).length, tc.length])))
  let room (sp : AncSpace) : Nat := if sp.2.2 then (if fmtActive f n then 0 else fmtWidth f) else Config.ancRoom rate m n sp.1 sp.2.1
  let (placed, rest) := placeAnc f room n pk taken
  let late (q : AncPkt) : Bool := if ancVert f q then vancEnd f n else fieldEnd f n
  let drops := (rest.filter late).length
  let later := (rest.filter (fun q => !late q)).map (fun q => { q with line := 0 })
  let s2 := if drops ≠ 0 then
      (((s1.bump (O.sdiTxAncDropped o) drops).setBit (rSdiEvt o) 11).countSecond 0x300D o drops (p8 o))
    else s1
  let l : SdiOut := { mapping := m, rate := rate, line := n, field2 := fmtTwoFields f && decide (fmtLines f / 2 < n), vblank := !fmtActive f n,
                      data := data, ids := ids, audio := audio, ctl := ctl, tc := tc, anc := placed, check := [] }
  let edh := Config.fieldCheck (if n = 1 ∨ fieldEnd f (n - 1) = true then 0 else (s2.out_ o).edh) l
  let s3 := s2.setOut o { s2.out_ o with nextSample := if embed then t1 else t0, wait := later, edh := edh }
  ({ l with check := (List.range links).map (fun i => Config.lineCheck f (i + 1) l edh) }, s3)

/-- Whether a send context of output o carries ST 2022-6. -/
def State.sendsSdi (s : State) (o : Nat) : Bool :=
  s.objs.any (fun p => decide (0x3840 ≤ keyIx p.1) && decide (keyIx p.1 ≤ 0x387F) && decide (1 ≤ keySub p.1) && flowValid p.2.bytes &&
    byteAt p.2.bytes 32 == o && byteAt p.2.bytes 1 == 5)

/-- Line n of grid frame k leaves output o; `extra` in the frame sent once more when a converter is assigned (R320), without the ancillary
packets of the label. -/
def State.sendLine (s0 : State) (o k n : Nat) (extra : Bool) : State :=
  let f := s0.outRaster o
  let s := if n = 1 then (s0.convFrame o).mapLeaves o k else s0
  let v := s.sidFor o k n (s.outVideo o) (s.out_ o).prevVideo
  let a := s.sidFor o k n (s.num (O.takeAncSid o)) (s.out_ o).prevAnc
  let t := s.tcFor o k
  let x := s.out_ o
  let active := fmtActive f n
  let handover := s.twin.sdiHold != 0
  let black := [blackLine f]
  let sup := s.supply o v k n
  let again := ((x.frame.find? (fun p => p.1 == n)).map Prod.snd).getD black
  let (data, cause) : List (List Byte) × Option Nat :=
    if !active then ([[]], none)
    else if handover then (if x.line.isEmpty then black else x.line, none)
    else if extra then (again, none)
    else if x.conflict then (if s.num (O.outConflictAction o) = 1 then black else again, none)
    else match sup with
      | .line d => (d, none)
      | .hold c => (if x.line.isEmpty then black else x.line, some c)
  let s1 := if !active then s
    else if handover then
      ({ s with twin := { s.twin with sdiLines := s.twin.sdiLines + 1 } }).bump (O.outHoldLines o)
    else if x.conflict || extra then s else s.holdLine o cause
  let x1 := s1.out_ o
  let cur := if active then x1.cur ++ [(n, data)] else x1.cur
  let done := n == fmtLines f
  let atSw := n == s1.switchLine o k
  let now_ := (x1.ins.filter (fun p => decide (p.1 ≤ k))).flatMap Prod.snd
  let s2 := s1.setOut o { x1 with line := if active then data else x1.line, cur := if done then [] else cur,
                                  frame := if done then cur else x1.frame, sent := ((k, n, data) :: x1.sent).take 16,
                                  ins := if atSw then x1.ins.filter (fun p => !decide (p.1 ≤ k)) else x1.ins,
                                  insNow := if atSw then now_ else x1.insNow }
  let holding := (s2.out_ o).hold || handover
  let fs := s2.outAudioRate o k * 1000
  let (l0, t1) := lineSamples f fs k n
  let nx := (s2.out_ o).nextSample
  let t0 := if nx + fs < t1 ∨ t1 + fs < nx ∨ nx = 0 then l0 else nx
  if o ≥ 96 then
    let slot := s2.publishedSlot o
    let ps := (List.range ((slot.map s2.slotChannels).getD 0))
    let (audio, s3) := s2.readPositions o k t0 t1 ps
    let s4 := (s3.setOut o { s3.out_ o with nextSample := t1 }).emit (.internalLine o n data)
    match slot with
    | none => s4
    | some m =>
      let s5 := if s4.slotRaster m = f ∧ s4.isPresent (lkey m 0 0) then s4 else s4.sourcePresent m f
      s5.enterLine m 0 n data.flatten (if holding then [] else (s5.ancOf a k n).map (fun q => (0, q))) audio
        (if holding then [] else s5.tcOf t k n)
  else if s2.laneMode o = 1 ∨ (s2.laneMode o = 2 ∧ s2.sendsSdi o = true) then
    let anc := if extra then [] else s2.ancOf a k n ++ (if atSw then (s2.out_ o).insNow else [])
    let (l, s3) := s2.sdiSignal o k n v t data holding anc t0 t1
    if s3.laneMode o = 2 then s3.setOut o { s3.out_ o with sdiSent := ((k, l) :: (s3.out_ o).sdiSent).take 32 }
    else if (s3.lane o).txOn then s3.emit (.sdiLine o l) else s3
  else s2.setOut o { s2.out_ o with nextSample := t1 }

/-- The padding of output o's audio changes by line n of grid frame k (R230): its samples are dropped, or sent a second time. -/
def State.stepAudio (s : State) (o k n : Nat) (drop : Bool) : State :=
  let (l0, t1) := lineSamples (s.outRaster o) (s.outAudioRate o k * 1000) k n
  let x := s.out_ o
  let a := if drop then x.nextSample + (t1 - l0) else x.nextSample - (t1 - l0)
  let s1 : State := { s with str := { s.str with ahead := s.str.ahead.map (fun q =>
    if q.1 / 128 = o then (q.1, q.2.filter (fun v => decide (v.1 < a))) else q) } }
  if x.nextSample = 0 then s
  else s1.setOut o { x with nextSample := a, splice := some (a, (x.nextSample : Int) - a) }

/-- Line n of grid frame k is not sent (R214); where it ends a frame, the frame kept for a conflict stays the last complete one. -/
def State.leaveOut (s0 : State) (o k n : Nat) : State :=
  let s := s0.stepAudio o k n true
  let f := s.outRaster o
  let x := s.out_ o
  if n = fmtLines f then s.setOut o { x with frame := if fmtActive f n then x.frame else x.cur, cur := [] } else s

/-- A copy of line n of grid frame k, which has been sent (R214). -/
def State.sendCopy (s : State) (o k n : Nat) : State :=
  let x := s.out_ o
  let y := (s.stepAudio o k n false).sendLine o k n false
  y.setOut o { y.out_ o with cur := x.cur, frame := x.frame }

/-- Output o's audio goes on at the first sample of line n of grid frame k, where the frame before was sent twice or left out (R230,
R320). -/
def State.syncAudio (s : State) (o k n : Nat) : State :=
  let (a, _) := lineSamples (s.outRaster o) (s.outAudioRate o k * 1000) k n
  let x := s.out_ o
  let s1 : State := { s with str := { s.str with ahead := s.str.ahead.map (fun q =>
    if q.1 / 128 = o then (q.1, q.2.filter (fun v => decide (v.1 < a))) else q) } }
  if x.nextSample = 0 ∨ x.nextSample = a then s
  else s1.setOut o { x with nextSample := a, splice := some (a, (x.nextSample : Int) - a) }

/-- Whether line n of grid frame k lies in the frame from the switching line of frame j on. -/
def State.inFrame (s : State) (o j k n : Nat) : Bool :=
  (k == j && decide (s.switchLine o j ≤ n)) || (k == j + 1 && decide (n < s.switchLine o k))

/-- OUTPUT_LINE (R213, R214, R230, R233, R234, R320: with a converter just assigned the last frame is sent once more until the first line at
the new latency is due; with one just removed a frame is left out). -/
def execOutputLine (o : Fin 128) (k n at_ : Nat) (s0 : State) : Res :=
  let s := s0.toTick at_
  let f := s.outRaster o
  let v := s.sidFor o k n (s.outVideo o) (s.out_ o).prevVideo
  let due := s.timeFor (s.outTime o v k n + linesPt f 1 1)
  let extra := !due && s.timeFor (s.outTime o v k n + linesPt f 1 1 - s.convPt o) &&
    ((tfind s.comp.convAt o).map (fun j => s.inFrame o j k n)).getD false
  if !s.outRuns o ∨ s.outStopped o k ∨ n = 0 ∨ fmtLines f < n then .next s
  else if extra then .next (s.sendLine o k n true)
  else if !due ∨ ((tfind s.comp.convGone o).map (fun j => s.inFrame o j k n)).getD false then .next s
  else
    let x := s.out_ o
    let sw := s.switchLine o k
    if x.step = -1 ∧ (k, n) = s.stepLine o x.lastGrid then .next (s.leaveOut o k n)
    else if x.lastGrid = k ∧ x.step = 1 ∧ n = sw then
      .next ((s.sendCopy o (s.stepLine o k).1 (s.stepLine o k).2).sendLine o k n false)
    else if n = sw ∧ (tfind s.comp.convAt o = some k ∨ (0 < k ∧ tfind s.comp.convGone o = some (k - 1))) then
      .next ((s.syncAudio o k n).sendLine o k n false)
    else .next (s.sendLine o k n false)

/-- AUDIO_TAKE_INSTANT (R229): from A_F on, the positions of the take due at this frame's switching line make their
transitions. -/
def execAudioTakeInstant (o : Fin 128) (k at_ : Nat) (s0 : State) : Res :=
  let s := s0.toTick at_
  let f := s.outRaster o
  if !s.outRuns o ∨ s.outStopped o k ∨ !s.timeFor (gridStart (f % 256) k + linesPt f (s.switchLine o k - 1) 1) then .next s
  else
    match lastArrived (s.readyRecs o k) with
    | none => .next s
    | some win =>
      if win.1.ta < (s.out_ o).takeAt then .next s
      else .next (s.startTrans o k win.1.order win.2.rec_.trans (s.recNow win.2))

/-- A position whose crossing has not come within ZC_TIMEOUT is forced (R229). -/
def State.forceCrossing (s : State) (o pos : Nat) : State :=
  let x := s.out_ o
  match tfind x.trans pos with
  | none => s
  | some tr =>
    let fs := s.num (O.outAudioRate o)
    let lim := tr.start + s.num (O.outZcTimeout o) * fs
    if tr.kind ≠ 2 ∨ (tr.oldEnd.isSome ∧ tr.newStart.isSome) ∨ tr.rampOld.isSome ∨ tr.rampNew.isSome ∨
        sampleAt (fs * 1000) s.tm.pt < lim then s
    else
      let tr' := { tr with rampOld := if tr.oldEnd.isNone then some lim else none,
                           rampNew := if tr.newStart.isNone then some lim else none }
      ((s.setOut o { x with trans := tput x.trans pos tr' }).setBit (rOutEvt o) 4).markSecond 0x6009 o pos (p8 o)

end Sys2Proof.Machine
end

