-- ==== Sys2Proof/Machine/Store.lean ====
section
/-! DEFINITION. The commands of the Aligner and the essence store (05). -/

namespace Sys2Proof.Machine

/-- Pacer time is `t` within one tick (R147). -/
def State.onTick (s : State) (t : Nat) : Bool := decide (t ≤ s.tm.pt + s.tm.inc) && decide (s.tm.pt ≤ t + s.tm.inc)

/-- Whether slot n still holds something that entered before a poisoned word's error (R168): the rest of its store has been written again. -/
def State.held (s : State) (n : Nat) (p : Nat × Nat) : Bool :=
  (s.slot n).q.any (fun u => decide (u.entry ≤ s.poisonTime p)) || (s.slot n).sq.any (fun x => decide (samplePt (s.slotFs n) x.1 ≤ s.poisonTime p))

/-- Store words that could not be corrected are poisoned now (R168). -/
def State.poison (s : State) (page : Nat) (ws : List Nat) : State :=
  let st := s.ess.store
  { s with ess := { s.ess with store := { st with
      poisoned := st.poisoned ++ (ws.map (fun w => (page, w))).filter (fun p => !st.poisoned.contains p)
      poisonAt := ws.foldl (fun (t : Tbl Nat) w => tset zeroNat t (page * 32768 + w) s.tm.pt) st.poisonAt } } }

/-- LINE_RELEASE (R147, R150, R151, R156–R158): line n of release frame k of slot n, at T_rel. -/
def execLineRelease (sl : Fin 240) (k n at_ : Nat) (s0 : State) : Res :=
  let s := s0.toTick at_
  let f := s.relRaster sl
  if f = 0 ∨ n = 0 ∨ fmtLines f < n ∨ !s.onTick (s.relTime f k n) ∨ !s.essOn then .next s
  else
    let s1 := if n = 1 then s.doRealign sl else s
    let s2 := if n = 1 then
        { s1 with ess := { s1.ess with store := { s1.ess.store with
            poisoned := s1.ess.store.poisoned.filter (fun p => Config.pageOwner p.1 != sl.val || s1.held sl p) } } }
      else s1
    let begins := match (s2.slot sl).frameKey ((s2.slot sl).carried k) with
      | some key => (s2.slot sl).running && !(s2.slot sl).lost && decide ((s2.slot sl).first ≤ (s2.slot sl).carried k) &&
          !(s2.slot sl).skips ((s2.slot sl).carried k) && s2.underrunBegins sl key n && (s2.slotPresent sl || (s2.slot sl).q.any (fun u => u.k == key && u.n == n))
      | none => false
    let s3 := s2.releaseLine sl k n
    .next (if begins then s3.report 160 0x5003 else s3)

/-- SAMPLE_RELEASE (R149, R151): the sample of house sample time t of a slot without video, AUDIO_OFFSET later. DESIGN CHOICE (log entry
205): W_SAMPLES of a second in which no sample entered reads 2^32 − 1. -/
def execSampleRelease (sl : Fin 240) (t at_ : Nat) (s0 : State) : Res :=
  let s := s0.toTick at_
  let fs := s.slotFs sl
  if s.slotHasVideo sl ∨ !s.slotEnabled sl ∨ !s.essOn ∨
      !s.onTick (s.sampleRel fs t) then .next s
  else
    let s1 := s.releaseSamples sl t
    let x := s1.slot sl
    .next (if x.minSec = s1.second then s1
      else (s1.setNum (O.slotWSamples sl) x.minW).setSlot sl { x with minSec := s1.second, minW := 2 ^ 32 - 1 })

/-! ### Pages of the store (R162–R165) -/

/-- PAGES_TOTAL: free pages that stand in for retired ones are no longer counted (R169). -/
def State.storeTotal (s : State) : Nat := variantPages s.fuses.variant - s.ess.store.lostPages
/-- Spares neither mapped yet nor marked unusable, by number (R167, R168): spare i of the store is page 32,768 + i (log entry 46). -/
def State.sparesFree (s : State) : List Nat :=
  ((List.range (variantSpares s.fuses.variant)).map (fun i => 32768 + i)).filter (fun p =>
    !s.ess.store.spentSpares.contains p && !s.ess.store.badSpares.contains p)
/-- SPARES_LEFT. -/
def State.sparesLeft (s : State) : Nat := s.sparesFree.length
/-- Whether the store has a page of this number. -/
def State.pageExists (s : State) (p : Nat) : Bool :=
  decide (p < variantPages s.fuses.variant) || decide (32768 ≤ p) && decide (p < 32768 + variantSpares s.fuses.variant)

/-- Audio-delay pages of the device (R163). -/
def State.audioDelayPages (s : State) : Nat :=
  let blocks := (s.objs.filterMap (fun p =>
    let ix := keyIx p.1
    let sub := keySub p.1
    if 0x5200 ≤ ix ∧ ix < 0x5200 + 240 ∧ s.slotEnabled (ix - 0x5200) ∧ sub ≤ s.slotChannels (ix - 0x5200) ∧ 0 < p.2.toNat then
      some (ceilDiv p.2.toNat 1024 + 1) else none)).foldl (· + ·) 0
  ceilDiv blocks 512

/-- Pages allocated now. -/
def State.pagesUsed (s : State) : Nat :=
  let st := s.ess.store
  (st.slotPages.map Prod.snd).foldl (· + ·) 0 + (st.outPages.map Prod.snd).foldl (· + ·) 0 + st.otherPages + s.audioDelayPages

/-- PAGES_FREE. -/
def State.pagesFree (s : State) : Nat := s.storeTotal - s.pagesUsed

/-- The store's objects, brought up to date (Table 5-6). -/
def State.storeObjs (s : State) : State :=
  ((((((s.setNum 0x500201 s.storeTotal).setNum 0x500202 s.pagesUsed).setNum 0x500203 s.pagesFree).setNum 0x500204
    (variantSpares s.fuses.variant)).setNum 0x500205 s.sparesLeft).setNum 0x500206 s.ess.store.retired).setNum 0x50020D
    s.audioDelayPages

/-- FRAME_MODE_DECISION (R152, R153). -/
def execFrameModeDecision (sl : Fin 240) (k at_ : Nat) (s0 : State) : Res :=
  let s := s0.toTick at_
  let f := s.relRaster sl
  if f = 0 ∨ !s.timeFor (gridStart (f % 256) k) then .next s else .next ((s.doRealign sl).frameDecision sl k)

/-- Outputs whose video in force is a stream of slot n. -/
def State.outputsOn (s : State) (n : Nat) : List Nat :=
  (List.range 128).filter (fun o => s.outRuns o && s.sidLocal (s.outVideo o) && !sidGen (s.outVideo o) && sidSlot (s.outVideo o) == n)

/-- The old pages of a slot are freed at the frame start at which its new setting takes effect (R164). -/
def State.freeDue (s : State) (n : Nat) : State :=
  match tget zeroNat s.ess.store.slotDue n with
  | 0 => s
  | p + 1 =>
    ({ s with ess := { s.ess with store := { s.ess.store with
        slotPages := tset zeroNat s.ess.store.slotPages n p, slotDue := tset zeroNat s.ess.store.slotDue n 0 } } }).storeObjs

/-- VIDEO_DELAY_APPLY (R160, R164): at the first grid frame start after the commit. An increase repeats the frame released at that start,
a decrease leaves out the next frames; the audio is spliced where a frame repeats or is left out. -/
def execVideoDelayApply (sl : Fin 240) (k at_ : Nat) (s0 : State) : Res :=
  let s := s0.toTick at_
  let f := s.relRaster sl
  let x := s.slot sl
  let d := s.num (O.slotVideoDelay sl)
  if f = 0 ∨ d = x.delay ∨ !s.timeFor (gridStart (f % 256) k) then .next s
  else
    let s1 := s.setSlot sl { x with
      delay := d
      delayOld := x.delay
      floorOld := x.floorK
      floorK := if x.delay < d then x.carried k else 0
      delayK := k
      spliceAt := (if x.delay < d then (List.range (d - x.delay)).map (fun i => k + 1 + i) else [k]) ++ x.spliceAt }
    let s2 := (s1.alnEvent sl 9 0x500A (p8 sl ++ p8 x.delay ++ p8 d)).freeDue sl
    .next ((s2.outputsOn sl).foldl (fun (y : State) o => y.outLatency o) s2)

/-- ALIGN_MODE_APPLY (R164): the source is acquired again in the new mode; its streams are absent until its next frame, and old pages are
freed. -/
def execAlignModeApply (sl : Fin 240) (k at_ : Nat) (s0 : State) : Res :=
  let s := s0.toTick at_
  let f := s.slotRaster sl
  if s.slotAlignMode sl = (s.slot sl).mode ∨ !s.timeFor (gridStart (f % 256) k) then .next s
  else
    let s1 := (s.setSlot sl { s.slot sl with q := [], mode := s.slotAlignMode sl }).slotAcquire sl
    .next (((s1.setSlot sl { s1.slot sl with reacq := s1.slotPresent sl }).slotAbsent sl).freeDue sl)

/-- What a write of 1 to REALIGN asks of the group of slot n (R159): it is formed again at the next grid frame start. -/
def State.askRealign (s : State) (n : Nat) : State :=
  s.mapSlots (s.groupSlots n) (fun sl => { sl with realign := s.tm.pt + 1 })

/-! ### Errors and retirement (R166–R170) -/

/-- STORE_EVT. -/
def rStoreEvt : Nat := 0x40B008
/-- STORE_ECC. -/
def rStoreEcc : Nat := 0x40B004

/-- The last spare is gone (R169). -/
def State.sparesGone (s : State) : State :=
  if s.sparesLeft = 0 then ((s.setBit rStoreEvt 2).raise 0x500E (p16 s.ess.store.retired)).report 33 0x500E else s

/-- A page is retired (R168, R169): a spare takes its place, or a free page, or its streams are lost; a page without a replacement is neither
free nor held any more. -/
def State.retirePage (s : State) (page : Nat) : State :=
  let st := s.ess.store
  let owner := Config.pageOwner page % 65536
  if (tfind st.mapped page).isSome then s
  else match s.sparesFree with
  | spare :: _ =>
    let s1 := { s with ess := { s.ess with store := { st with mapped := tput st.mapped page spare, retired := st.retired + 1,
                                                              spentSpares := spare :: st.spentSpares, copies := page :: st.copies } } }
    let s2 := ((s1.setBit rStoreEvt 1).raise 0x500D (p16 page ++ p16 spare ++ p16 owner)).report 32 0x500D
    s2.sparesGone.storeObjs
  | [] =>
  if 0 < s.pagesFree then
    let (v, s0) := s.freeNat
    let sub := v % variantPages s.fuses.variant
    let s1 := { s0 with ess := { s0.ess with store := { st with mapped := tput st.mapped page sub, retired := st.retired + 1,
                                                                lostPages := st.lostPages + 1, copies := page :: st.copies } } }
    (((s1.setBit rStoreEvt 1).raise 0x500D (p16 page ++ p16 sub ++ p16 owner)).report 32 0x500D).storeObjs
  else
    let n := owner % 256
    let s1 := { s with ess := { s.ess with store := { st with mapped := tput st.mapped page 0xFFFF, retired := st.retired + 1,
                                                              lostPages := st.lostPages + 1, lostSlots := n :: st.lostSlots,
                                                              slotPages := tset zeroNat st.slotPages n (tget zeroNat st.slotPages n - 1) } } }
    ((((s1.slotAbsent n).setBit rStoreEvt 3).raise 0x500F (p16 page ++ p16 owner)).report 34 0x500F).storeObjs

/-- A spare fails: the page it stands in for is retired again, or a free spare is marked unusable (R167, R168). -/
def State.spareFails (s : State) (spare : Nat) : State :=
  let st := s.ess.store
  if st.badSpares.contains spare then s
  else
    let s1 := { s with ess := { s.ess with store := { st with badSpares := spare :: st.badSpares } } }
    match st.mapped.find? (fun p => p.2 == spare) with
    | some p => ({ s1 with ess := { s1.ess with store := { s1.ess.store with mapped := tdel st.mapped p.1 } } }).retirePage p.1
    | none => s1.sparesGone.storeObjs

/-- STORE_CORRECTED_ERROR (R166, R168): counted; at CE_RETIRE_THRESHOLD in 24 h of operating time the page is retired. -/
def execStoreCorrectedError (page : BitVec 16) (at_ : Nat) (s0 : State) : Res :=
  let s := s0.toTick at_
  let pg := page.toNat
  let st := s.ess.store
  if !s.pageExists pg then .next s else
  let l := s.opTime :: (tget (fun _ => []) st.ce pg).filter (fun t => decide (s.opTime < t + 86400))
  let s1 := ({ s with ess := { s.ess with store := { st with ce := tset (fun _ => []) st.ce pg l } } }).bump 0x500207
  let s2 := (s1.rcAdd rStoreEcc 31 16).countSecond 0x500B 0 1 []
  .next (if s2.num 0x500209 ≤ l.length then (if pg < 32768 then s2.retirePage pg else s2.spareFails pg) else s2)

/-- STORE_UNCORRECTABLE_ERROR (R166–R169). A page fault counts alike. -/
def execStoreUncorrectableError (page : BitVec 16) (word : BitVec 15) (pageFault : Bool) (at_ : Nat) (s0 : State) : Res :=
  let s := s0.toTick at_
  let pg := page.toNat
  if !s.pageExists pg then .next s else
  let s1 := ((s.bump 0x500208).rcAdd rStoreEcc 15 0).setBit rStoreEvt 0
  let s2 := s1.raise 0x500C (p16 pg ++ p16 (Config.pageOwner pg % 65536))
  let s3 := if pageFault then s2 else s2.poison pg [word.toNat]
  .next (if pg < 32768 then s3.retirePage pg else s3.spareFails pg)

/-- RETIREMENT_COPY_DONE (R168): words that could not be corrected stay poisoned until they are written again. -/
def execRetirementCopyDone (page : BitVec 16) (poisoned : List (BitVec 15)) (at_ : Nat) (s0 : State) : Res :=
  let s := s0.toTick at_
  let pg := page.toNat
  let st := s.ess.store
  if !st.copies.contains pg then .next s
  else
    let s1 := { s with ess := { s.ess with store := { st with
      copies := st.copies.filter (· != pg),
      poisoned := st.poisoned.filter (fun p => p.1 != pg) } } }
    .next (s1.poison pg (poisoned.map (fun w => w.toNat)))

/-- SCRUB_PASS_END (R167): a pass takes 3,600 s ±36 s. -/
def execScrubPassEnd (at_ : Nat) (s0 : State) : Res :=
  let s := s0.toTick at_
  let d := s.now - s.ess.store.scrubStart
  if d < 3564 * tickS ∨ 3636 * tickS < d then .next s
  else
    let s1 := { s with ess := { s.ess with store := { s.ess.store with scrubStart := s.now } } }
    .next (((s1.setNum 0x50020A (d / tickS)).bump 0x50020B).raise 0x5010 (p32 (d / tickS)))

end Sys2Proof.Machine
end

