-- ==== Sys2Proof/Machine/EssHurdle.lean ====
section
/-! DEFINITION. Commits of areas 0x5000 and 0x6000: the hurdle codes of Tables 1-9, 5-11 and R240, page allocation (R163,
R164, R232), the bound raster (R199), and what a commit changes at once. -/

namespace Sys2Proof.Machine

/-- The largest raster an SDI lane can present (R199). -/
def sdiBound (rx : Nat) (quad : Bool) : Nat :=
  match rx with
  | 1 => 0x0104 | 2 => 0x0605 | 3 => 0x0604
  | 4 => if quad then 0x0708 else 0x0608
  | 5 => if quad then 0x0707 else 0x0607
  | 6 => 0x0705 | 7 => 0x0704 | 8 => 0x0708 | 9 => 0x0707 | _ => 0x0708

/-- The largest raster slot n can present without a commit (R199); 0 without video. -/
def State.boundRaster (s : State) (n : Nat) : Nat :=
  match s.slotKind n with
  | 1 => if s.laneMode n = 1 then sdiBound (s.num (O.sdiRxRate n)) (s.quadRx n) else 0
  | 2 =>
    let fl := s.slotFlows n
    if fl.any (fun p => byteAt p.2 1 == 5) then 0x0608
    else ((fl.find? (fun p => byteAt p.2 1 == 1)).map (fun p => halfAt p.2 44)).getD 0
  | 3 =>
    let o := s.slotOrigin n
    if o < 8 then s.num (O.headRaster o) else if 96 ≤ o ∧ o ≤ 127 then s.outRaster o else 0
  | _ => 0

/-- Store pages of slot n (R163, Table 5-3). -/
def State.slotPagesFor (s : State) (n : Nat) : Nat :=
  if !s.slotEnabled n ∨ 240 ≤ n ∨ s.slotKind n = 0 then 0
  else
    let f := s.boundRaster n
    let d := s.num (O.slotVideoDelay n)
    1 + (if s.slotAlignMode n = 1 then (d + 3) * fmtPf f else d * fmtPf f + fmtPl f)

/-- Store pages of output o (R232). -/
def State.outPagesFor (s : State) (o : Nat) : Nat :=
  if s.outputKind o ≠ 0 ∧ s.num (O.outConflictAction o) = 0 then fmtPf (s.outRaster o) else 0

/-- Additional pages a list of holders needs (R164). -/
def morePages (l : List (Nat × Nat)) : Nat := (l.map (fun p => p.2 - p.1)).foldl (· + ·) 0

/-- Slots whose page need a state computes. -/
def State.slotNeeds (s : State) : List Nat := (List.range 240).map (fun n => s.slotPagesFor n)

/-- Whether slot n lost a page that nothing replaced, and is not enabled again by this commit: it holds what it has left (R169). -/
def pageLost (pre post : State) (n : Nat) : Bool := pre.ess.store.lostSlots.contains n && pre.slotEnabled n && post.slotEnabled n

/-- Additional pages that a commit needs for slots and audio delays. -/
def slotPagesMore (pre post : State) : Nat :=
  morePages ((List.range 240).map (fun n =>
    let held := tget zeroNat pre.ess.store.slotPages n
    (held, if pageLost pre post n then held else post.slotPagesFor n))) + (post.audioDelayPages - pre.audioDelayPages)

/-- Additional pages that a commit needs for outputs (R232). -/
def outPagesMore (pre post : State) : Nat :=
  morePages ((List.range 128).map (fun o => (tget zeroNat pre.ess.store.outPages o, post.outPagesFor o)))

/-- Whether the free pages cover what a commit, of all its areas together, needs more, as far as it needs more for slots (R164). -/
def pagesCover (pre post : State) : Bool :=
  slotPagesMore pre post == 0 || decide (slotPagesMore pre post + outPagesMore pre post ≤ pre.pagesFree)

/-- Whether the free pages cover what a commit, of all its areas together, needs more, as far as it needs more for outputs (R232). -/
def outPagesCover (pre post : State) : Bool :=
  outPagesMore pre post == 0 || decide (slotPagesMore pre post + outPagesMore pre post ≤ pre.pagesFree)

/-- Audio channels reserved by all enabled slots (R29, R242): the slots of the variant but its generators, and members of a quad-link
group though they are absent while it is associated. -/
def State.channelTotal (s : State) : Nat :=
  (((List.range 240).filter (fun n => s.slotEnabled n && (decide (96 ≤ n) || s.laneOn n))).map (fun n => s.slotChannels n)).foldl (· + ·) 0

/-- Whether ORIGIN of slot n names something that exists (R30). -/
def State.originOk (s : State) (n : Nat) : Bool :=
  let o := s.num (O.slotOrigin n)
  o == 0xFFFF ||
  (if s.slotKind n = 3 then decide (o ≤ 7) || decide (96 ≤ o ∧ o ≤ 127)
   else if s.slotKind n = 2 then decide (o < 8192) && flowValid (s.rxFlow o) && byteAt (s.rxFlow o) 40 == n
   else o == n)

/-- Whether another slot is bound to the same ORIGIN (Table 1-9, 0x5013). DESIGN CHOICE (log entry 152): only enabled slots of the same kind
count; the rule does not say whether a disabled one does. -/
def State.originTwice (s : State) (n : Nat) : Bool :=
  let o := s.num (O.slotOrigin n)
  o != 0xFFFF && (List.range 240).any (fun m =>
    m != n && s.num (O.slotOrigin m) == o && s.slotKind m == s.slotKind n && s.slotEnabled m && s.slotKind m != 1)

/-- The hurdle code of an object of slot n (Tables 1-9 and 5-11), of the first check of R50 that fails. -/
def slotIssue (pre post : State) (n sub : Nat) : Option Nat :=
  let inUse := pre.slotTaken n || pre.slotSubscribed n
  let g := post.groupSlots n
  let rates := (g.filter (fun m => post.slotRaster m != 0)).map (fun m => post.slotRaster m % 256)
  let agree := g.all (fun m => post.slotAlignMode m == post.slotAlignMode n &&
    post.num (O.slotVideoDelay m) == post.num (O.slotVideoDelay n) && post.num (O.slotLossAction m) == post.num (O.slotLossAction n))
  let pages := pagesCover pre post
  let heldAlone := decide (post.num (O.slotLossAction n) = 1) && post.slotAlignMode n == 0
  let grouped : Option Nat :=
    if post.num (O.slotGroup n) = 0 ∨ !post.slotEnabled n then none
    else if rates.any (fun r => r != rates.headD 0) then some 0x5012
    else if 8 < g.length then some 0x5014
    else if !agree then some 0x5017 else none
  let absent (o : Nat) : Bool := post.slotKind n == 3 && post.fuses.variant == .t && (decide (o ≤ 7) || decide (96 ≤ o ∧ o ≤ 127))
  let alone := (tfind pre.dict.staged (O.slotOrigin n)).isNone
  if sub = 2 then
    (if alone && post.slotEnabled n && post.slotKind n != 1 && !post.originOk n then some 0x5010
     else if !post.slotEnabled n && pre.slotEnabled n && inUse then some 0x5015
     else if 8192 < post.channelTotal then some 0x5011
     else if alone && post.slotEnabled n && post.originTwice n then some 0x5013
     else match grouped with
       | some c => some c
       | none => if !pages then some 0x5016 else none)
  else if sub = 3 then
    (if absent (post.num (O.slotOrigin n)) then some 0x0007
     else if !post.originOk n then some 0x5010
     else if pre.num (O.slotOrigin n) ≠ post.num (O.slotOrigin n) ∧ inUse then some 0x5015
     else if post.originTwice n then some 0x5013
     else match grouped with
       | some c => some c
       | none => if !pages then some 0x5016 else if heldAlone then some 0x5018 else none)
  else if sub = 5 ∨ sub = 6 then
    (if 8192 < post.channelTotal then some 0x5011
     else if post.num (O.slotAudioRate n) = 48 ∧
       (List.range (post.slotChannels n)).any (fun c => decide (480000 < post.num (O.slotAudioDelay n c))) then some 0x5019
     else if !pages then some 0x5016 else none)
  else if sub = 8 then grouped
  else if sub = 0x10 ∨ sub = 0x11 ∨ sub = 0x12 then
    (if !pages then some 0x5016
     else if !agree then some 0x5017
     else if heldAlone then some 0x5018 else none)
  else none

/-- The hurdle code of an object of area 0x5000. -/
def area5Issue (pre post : State) (ix sub : Nat) : Option Nat :=
  if 0x5100 ≤ ix ∧ ix ≤ 0x51FF then slotIssue pre post (ix - 0x5100) sub
  else if 0x5200 ≤ ix ∧ ix ≤ 0x52FF then
    (let n := ix - 0x5200
     if post.num (O.slotAudioRate n) = 48 ∧ sub ≤ post.slotChannels n ∧ 480000 < post.num (objKey ix sub) then some 0x5019
     else if !pagesCover pre post then some 0x5016 else none)
  else none

/-- ESSENCE_BW_RESERVED in Gb/s (R165). -/
def State.essenceBw (s : State) : Nat :=
  let v := (((List.range 240).filter (fun n => s.slotEnabled n && s.slotKind n != 0)).map (fun n =>
    2 * essenceRate (s.boundRaster n) (s.slotChannels n) (s.num (O.slotAudioRate n)) (s.num (O.slotAncStreams n)))).foldl (· + ·) 0
  let d := (s.objs.filterMap (fun p =>
    let ix := keyIx p.1
    let n := ix - 0x5200
    if 0x5200 ≤ ix ∧ ix < 0x5200 + 240 ∧ s.slotEnabled n ∧ keySub p.1 ≤ s.slotChannels n ∧ 0 < p.2.toNat then
      some (2 * 32 * s.slotFs n) else none)).foldl (· + ·) 0
  (roundDiv ((v * 1000000 + d : Nat) : Int) 1000000000).toNat

/-- The pages of a slot after a commit (R163, R164): a setting that takes effect at a frame start keeps more pages until then. -/
def State.slotPagesApply (s : State) (pre : State) (n : Nat) : State :=
  let old := tget zeroNat s.ess.store.slotPages n
  let new := if pageLost pre s n then old else s.slotPagesFor n
  let later := s.slotEnabled n && pre.slotEnabled n && s.slotRaster n != 0 && s.num (O.slotAlignState n) != 0 && decide (new < old) &&
    ((s.slot n).mode != s.slotAlignMode n || (s.slot n).delay != s.num (O.slotVideoDelay n))
  let st := s.ess.store
  let s1 := { s with ess := { s.ess with store := { st with
      slotPages := tset zeroNat st.slotPages n (if later then old else new),
      slotDue := tset zeroNat st.slotDue n (if later then new + 1 else 0) } } }
  if s1.num (O.slotStorePages n) = new then s1 else s1.setNum (O.slotStorePages n) new

/-- Every slot's pages, the reserved bandwidth and the store's objects follow a commit (R163–R165, R199). -/
def State.storeApply (s : State) (pre : State) : State :=
  let s1 := (List.range 240).foldl (fun (x : State) n => x.slotPagesApply pre n) s
  (s1.setNum 0x50020C s1.essenceBw).storeObjs

/-- Streams that a slot's AUDIO_CHANNELS and ANC_STREAMS add or take away (R17). -/
def State.slotStreamsApply (s : State) (pre : State) (n : Nat) : State :=
  let here := s.inputStreams n
  let gone := ((pre.slotStreams n).filter (fun k => s.isPresent k && !(s.slotStreams n).contains k))
  let new := here.filter (fun k => (s.slotStreams n).contains k && !(pre.slotStreams n).contains k)
  let s1 := s.setPresents gone false
  if s1.slotPresent n ∧ !(s1.slot n).heldOut then s1.setPresents new true else s1

/-- A published slot is bound to another origin, or its origin ends or changes its raster: what it held is gone, and the streams of the
origin it has now are present once that delivers (R17). -/
def State.originMoved (s : State) (n : Nat) : State :=
  let s1 := s.slotClear n
  if s1.originOn n then s1.slotReturn n (s1.slotRaster n)
  else if s1.slotRaster n = 0 then s1 else s1.setNum (O.slotRaster n) 0

/-- What a commit of area 0x5000 changes at once, slot by slot (R17, R21, R161, R163, R165, R169). -/
def State.area5Apply (s : State) (pre : State) : State :=
  let s1 := (List.range 240).foldl (fun (x : State) n =>
    let on := x.slotEnabled n
    let was := pre.slotEnabled n
    if on && !was then
      (let y := { x with ess := { x.ess with store := { x.ess.store with lostSlots := x.ess.store.lostSlots.filter (· != n) } } }
       if n < 96 && y.laneMode n == 1 && y.lockState n == 4 && !y.quadRx n then y.sourcePresent n (y.num (O.sdiRasterDetected n))
       else y.slotReturn n (y.slotRaster n))
    else if !on && was then x.slotClear n
    else if on && x.slotKind n == 3 && pre.slotOrigin n != x.slotOrigin n then x.originMoved n
    else if on && (pre.slotChannels n != x.slotChannels n || pre.num (O.slotAncStreams n) != x.num (O.slotAncStreams n)) then
      x.slotStreamsApply pre n
    else x) s
  let s2 := s1.objs.foldl (fun (x : State) p =>
    let ix := keyIx p.1
    if 0x5200 ≤ ix ∧ ix ≤ 0x52FF ∧ pre.num p.1 ≠ p.2.toNat then
      (let k := lkey (ix - 0x5200) 1 (keySub p.1 - 1)
       x.setChan k { x.chan k with oldDelay := pre.num p.1, changeAt := (x.chan k).next })
    else x) s1
  let s3 := pre.objs.foldl (fun (x : State) p =>
    let ix := keyIx p.1
    if 0x5200 ≤ ix ∧ ix ≤ 0x52FF ∧ x.num p.1 = 0 then
      (let k := lkey (ix - 0x5200) 1 (keySub p.1 - 1)
       x.setChan k { x.chan k with oldDelay := p.2.toNat, changeAt := (x.chan k).next })
    else x) s2
  s3.storeApply pre

/-- The output area's hurdle (Table 1-9, R99, R101, R138, R232, R240); `ethFits` judges a bound Ethernet lane (R138). -/
def outIssue (ethFits : State → Nat → Bool) (pre post : State) (o sub : Nat) : Option Nat :=
  let f := post.outRaster o
  if sub = 2 then
    (let carried :=
       if f = 0 then true
       else if o ≥ 96 then true
       else if o % 4 ≠ 0 && post.quadTx o then false
       else if post.laneMode o = 1 then
         post.mappingOk o f && decide (post.num (O.sdiEmbedChannels o) ≤ embedLimit f (post.num (O.sdiTxMapping o)))
       else if post.laneMode o = 2 then ethFits post o
       else false
     if !carried then some 0x6002
     else if fmtSwitchMax f < post.num (O.outSwitchLine o) ∧ f ≠ 0 then some 0x6001
     else if !outPagesCover pre post then some 0x6004
     else if !pagesCover pre post then some 0x5016 else none)
  else if sub = 3 then
    (if f ≠ 0 ∧ fmtSwitchMax f < post.num (O.outSwitchLine o) then some 0x6001 else none)
  else if sub = 0x11 then (if !outPagesCover pre post then some 0x6004 else none)
  else none

/-- What a commit of area 0x6000 changes at once (R32, R105, R232). -/
def State.area6Apply (s : State) (pre : State) : State :=
  (List.range 128).foldl (fun (x : State) o =>
    let pages := x.outPagesFor o
    let y := if tget zeroNat x.ess.store.outPages o = pages then x
      else { x with ess := { x.ess with store := { x.ess.store with outPages := tset zeroNat x.ess.store.outPages o pages } } }
    let c := y.out_ o
    let late := pre.num (O.outSwitchLine o) != y.num (O.outSwitchLine o) ||
      pre.num (O.outTakeDeadline o) != y.num (O.outTakeDeadline o) || pre.num (O.outAudioRate o) != y.num (O.outAudioRate o)
    let f := pre.outRaster o
    let again := decide (f ≠ 0) && decide (gridFrame (f % 256) c.changeAt = gridFrame (f % 256) y.tm.pt) && c.changeAt != 0
    let y1 := if late && !again then
        y.setOut o { c with oldSw := pre.num (O.outSwitchLine o), oldDeadline := pre.num (O.outTakeDeadline o),
                            oldRate := pre.num (O.outAudioRate o), changeAt := y.tm.pt }
      else y
    if pre.outRaster o = y1.outRaster o then y1
    else
      let d := y1.out_ o
      let y2 := (y1.setOut o { d with line := [], frame := [], cur := [], sent := [], hold := false, held := 0, conflict := false,
                                      trans := [], step := 0, wait := [], nextSample := 0 }).outStateObj o
      if 96 ≤ o then (match y2.publishedSlot o with | some m => y2.originMoved m | none => y2)
      else if o < 96 then
        (if y2.quadTxNow o then quadLanes o else [o]).foldl (fun (z : State) p =>
          if z.txAllowed p then z else z.setLane p { z.lane p with txOn := false }) y2
      else y2) s |>.storeApply pre

end Sys2Proof.Machine
end

