-- ==== Sys2Proof/Machine/Crypto.lean ====
section
/-! DEFINITION. The named algorithms that protect sessions and keys (R59, R61, R462, R470): SHA-384, HMAC, HKDF and AES-256-GCM, as their
public standards define them (log entry 6). -/

namespace Sys2Proof.Machine

/-! ### SHA-384 -/

/-- The round constants of the 64-bit SHA-2 functions, eight to an entry. -/
def shaRows : List Nat :=
  [0x428a2f98d728ae227137449123ef65cdb5c0fbcfec4d3b2fe9b5dba58189dbbc3956c25bf348b53859f111f1b605d019923f82a4af194f9bab1c5ed5da6d8118,
   0xd807aa98a303024212835b0145706fbe243185be4ee4b28c550c7dc3d5ffb4e272be5d74f27b896f80deb1fe3b1696b19bdc06a725c71235c19bf174cf692694,
   0xe49b69c19ef14ad2efbe4786384f25e30fc19dc68b8cd5b5240ca1cc77ac9c652de92c6f592b02754a7484aa6ea6e4835cb0a9dcbd41fbd476f988da831153b5,
   0x983e5152ee66dfaba831c66d2db43210b00327c898fb213fbf597fc7beef0ee4c6e00bf33da88fc2d5a79147930aa72506ca6351e003826f142929670a0e6e70,
   0x27b70a8546d22ffc2e1b21385c26c9264d2c6dfc5ac42aed53380d139d95b3df650a73548baf63de766a0abb3c77b2a881c2c92e47edaee692722c851482353b,
   0xa2bfe8a14cf10364a81a664bbc423001c24b8b70d0f89791c76c51a30654be30d192e819d6ef5218d69906245565a910f40e35855771202a106aa07032bbd1b8,
   0x19a4c116b8d2d0c81e376c085141ab532748774cdf8eeb9934b0bcb5e19b48a8391c0cb3c5c95a634ed8aa4ae3418acb5b9cca4f7763e373682e6ff3d6b2b8a3,
   0x748f82ee5defb2fc78a5636f43172f6084c87814a1f0ab728cc702081a6439ec90befffa23631e28a4506cebde82bde9bef9a3f7b2c67915c67178f2e372532b,
   0xca273eceea26619cd186b8c721c0c207eada7dd6cde0eb1ef57d4f7fee6ed17806f067aa72176fba0a637dc5a2c898a6113f9804bef90dae1b710b35131c471b,
   0x28db77f523047d8432caab7b40c724933c9ebe0a15c9bebc431d67c49c100d4c4cc5d4becb3e42b6597f299cfc657e2a5fcb6fab3ad6faec6c44198c4a475817]

/-- Round constant i. -/
def shaK (i : Nat) : Nat := fld (shaRows.getD (i / 8) 0) (64 * (7 - i % 8) + 63) (64 * (7 - i % 8))

/-- A 64-bit word turned right by n bits. -/
def rotr64 (n x : Nat) : Nat := x / 2 ^ n + x % 2 ^ n * 2 ^ (64 - n)

/-- The eight words of a hash under way. -/
structure ShaSt where
  a : Nat
  b : Nat
  c : Nat
  d : Nat
  e : Nat
  f : Nat
  g : Nat
  h : Nat
deriving DecidableEq, Repr

/-- The start of SHA-384. -/
def sha384Start : ShaSt :=
  ⟨0xcbbb9d5dc1059ed8, 0x629a292a367cd507, 0x9159015a3070dd17, 0x152fecd8f70e5939, 0x67332667ffc00b31, 0x8eb44a8768581511, 0xdb0c2e0d64f98fa7, 0x47b5481dbefa4fa4⟩

/-- One round with message word w and constant k. -/
def shaRound (s : ShaSt) (k w : Nat) : ShaSt :=
  let s1 := rotr64 14 s.e ^^^ rotr64 18 s.e ^^^ rotr64 41 s.e
  let ch := (s.e &&& s.f) ^^^ ((2 ^ 64 - 1 - s.e) &&& s.g)
  let t1 := s.h + s1 + ch + k + w
  let s0 := rotr64 28 s.a ^^^ rotr64 34 s.a ^^^ rotr64 39 s.a
  let maj := (s.a &&& s.b) ^^^ (s.a &&& s.c) ^^^ (s.b &&& s.c)
  ⟨(t1 + s0 + maj) % 2 ^ 64, s.a, s.b, s.c, (s.d + t1) % 2 ^ 64, s.e, s.f, s.g⟩

/-- The word after a window of sixteen message words. -/
def shaNext (w : List Nat) : Nat :=
  let x := w.getD 1 0
  let y := w.getD 14 0
  (w.getD 0 0 + (rotr64 1 x ^^^ rotr64 8 x ^^^ x / 2 ^ 7) + w.getD 9 0 + (rotr64 19 y ^^^ rotr64 61 y ^^^ y / 2 ^ 6)) % 2 ^ 64

/-- The last `n` of the 80 rounds, over a window of sixteen message words. -/
def shaRounds : Nat → List Nat → ShaSt → ShaSt
  | 0, _, s => s
  | n + 1, w, s => shaRounds n (w.drop 1 ++ [shaNext w]) (shaRound s (shaK (79 - n)) (w.getD 0 0))

/-- A block of 128 bytes. -/
def shaBlock (s : ShaSt) (b : List Byte) : ShaSt :=
  let r := shaRounds 80 ((List.range 16).map (fun i => ofBe ((b.drop (8 * i)).take 8))) s
  ⟨(s.a + r.a) % 2 ^ 64, (s.b + r.b) % 2 ^ 64, (s.c + r.c) % 2 ^ 64, (s.d + r.d) % 2 ^ 64, (s.e + r.e) % 2 ^ 64, (s.f + r.f) % 2 ^ 64,
    (s.g + r.g) % 2 ^ 64, (s.h + r.h) % 2 ^ 64⟩

/-- A message with its padding: a 1 bit, zeros, its length in bits on 16 bytes. -/
def shaPad (m : List Byte) : List Byte := m ++ 0x80 :: List.replicate ((239 - m.length % 128) % 128) 0 ++ beBytes 16 (8 * m.length)

/-- Blocks one after the other. -/
def shaBlocks : Nat → List Byte → ShaSt → ShaSt
  | 0, _, s => s
  | n + 1, m, s => shaBlocks n (m.drop 128) (shaBlock s (m.take 128))

/-- SHA-384: 48 bytes. -/
def sha384 (m : List Byte) : List Byte :=
  let p := shaPad m
  let r := shaBlocks (p.length / 128) p sha384Start
  [r.a, r.b, r.c, r.d, r.e, r.f].flatMap (beBytes 8)

/-! ### HMAC and HKDF -/

/-- Bytes with a constant added modulo 2. -/
def xorAll (b : Byte) (l : List Byte) : List Byte := l.map (fun x => x ^^^ b)

/-- HMAC-SHA-384: key, message. -/
def hmacSha384 (key msg : List Byte) : List Byte :=
  let k0 := if 128 < key.length then sha384 key else key
  let k := k0 ++ List.replicate (128 - k0.length) 0
  sha384 (xorAll 0x5C k ++ sha384 (xorAll 0x36 k ++ msg))

/-- The output blocks of HKDF from the pseudorandom key: `last` is the block before, `i` its number. -/
def hkdfBlocks (prk info : List Byte) : Nat → Nat → List Byte → List Byte
  | 0, _, _ => []
  | n + 1, i, last =>
    let t := hmacSha384 prk (last ++ info ++ beBytes 1 i)
    t ++ hkdfBlocks prk info n (i + 1) t

/-- HKDF-SHA-384: salt, input key, info, output length. -/
def hkdfSha384 (salt key info : List Byte) (n : Nat) : List Byte := (hkdfBlocks (hmacSha384 salt key) info ((n + 47) / 48) 1 []).take n

/-! ### AES-256 -/

/-- The S-box, sixteen bytes to an entry. -/
def sboxRows : List Nat :=
  [0x637c777bf26b6fc53001672bfed7ab76,
   0xca82c97dfa5947f0add4a2af9ca472c0,
   0xb7fd9326363ff7cc34a5e5f171d83115,
   0x04c723c31896059a071280e2eb27b275,
   0x09832c1a1b6e5aa0523bd6b329e32f84,
   0x53d100ed20fcb15b6acbbe394a4c58cf,
   0xd0efaafb434d338545f9027f503c9fa8,
   0x51a3408f929d38f5bcb6da2110fff3d2,
   0xcd0c13ec5f974417c4a77e3d645d1973,
   0x60814fdc222a908846eeb814de5e0bdb,
   0xe0323a0a4906245cc2d3ac629195e479,
   0xe7c8376d8dd54ea96c56f4ea657aae08,
   0xba78252e1ca6b4c6e8dd741f4bbd8b8a,
   0x703eb5664803f60e613557b986c11d9e,
   0xe1f8981169d98e949b1e87e9ce5528df,
   0x8ca1890dbfe6426841992d0fb054bb16]

/-- The S-box. -/
def sbox (b : Byte) : Byte := BitVec.ofNat 8 (fld (sboxRows.getD (b.toNat / 16) 0) (8 * (15 - b.toNat % 16) + 7) (8 * (15 - b.toNat % 16)))

/-- A byte times x in the field of AES. -/
def xtime (b : Byte) : Byte := if b.getLsbD 7 then (b <<< 1) ^^^ 0x1B else b <<< 1

/-- Two byte strings added modulo 2. -/
def xorBytes (a b : List Byte) : List Byte := List.zipWith (fun x y => x ^^^ y) a b

/-- The next four key-schedule bytes: the last eight words as bytes, the index of the new word, the round constant. -/
def keyWord (w : List Byte) (i : Nat) (rcon : Byte) : List Byte :=
  let t := w.drop 28
  let u := if i % 8 = 0 then xorBytes ((t.drop 1 ++ t.take 1).map sbox) [rcon, 0, 0, 0] else if i % 8 = 4 then t.map sbox else t
  xorBytes (w.take 4) u

/-- Words of the key schedule from word i on: the last eight words, the round constant of the next multiple of 8. -/
def keyWords : Nat → Nat → List Byte → Byte → List Byte
  | 0, _, _, _ => []
  | n + 1, i, w, rcon =>
    let x := keyWord w i rcon
    x ++ keyWords n (i + 1) (w.drop 4 ++ x) (if i % 8 = 0 then xtime rcon else rcon)

/-- The fifteen round keys of a 32-byte key, 240 bytes. -/
def aesKeys (key : List Byte) : List Byte := key ++ keyWords 52 8 key 1

/-- Substitution and the shift of rows: byte 4c + r of the result is byte 4(c + r) + r of the state. -/
def subShift (s : List Byte) : List Byte := (List.range 16).map (fun i => sbox (s.getD ((i + 4 * (i % 4)) % 16) 0))

/-- One column mixed. -/
def mixCol (a b c d : Byte) : List Byte :=
  [xtime a ^^^ xtime b ^^^ b ^^^ c ^^^ d, a ^^^ xtime b ^^^ xtime c ^^^ c ^^^ d, a ^^^ b ^^^ xtime c ^^^ xtime d ^^^ d,
   xtime a ^^^ a ^^^ b ^^^ c ^^^ xtime d]

/-- The columns mixed. -/
def mixCols (s : List Byte) : List Byte :=
  (List.range 4).flatMap (fun c => mixCol (s.getD (4 * c) 0) (s.getD (4 * c + 1) 0) (s.getD (4 * c + 2) 0) (s.getD (4 * c + 3) 0))

/-- The rounds that are left, with the round keys that are left. -/
def aesRounds : Nat → List Byte → List Byte → List Byte
  | 0, k, s => xorBytes (subShift s) (k.take 16)
  | n + 1, k, s => aesRounds n (k.drop 16) (xorBytes (mixCols (subShift s)) (k.take 16))

/-- AES-256 of one block under its round keys. -/
def aesBlock (keys b : List Byte) : List Byte := aesRounds 13 (keys.drop 16) (xorBytes b (keys.take 16))

/-! ### GCM -/

/-- A product in the field of GHASH, bit by bit from the most significant of `x`: `v` is the other factor shifted so far. -/
def ghashMul : Nat → Nat → Nat → Nat → Nat
  | 0, _, _, z => z
  | n + 1, x, v, z =>
    ghashMul n x (if v % 2 = 1 then v / 2 ^^^ 0xE1 * 2 ^ 120 else v / 2) (if bitOf x n then z ^^^ v else z)

/-- GHASH over blocks of 16 bytes. -/
def ghash (h : Nat) : Nat → List Byte → Nat → Nat
  | 0, _, y => y
  | n + 1, b, y => ghash h n (b.drop 16) (ghashMul 128 (y ^^^ ofBe (b.take 16)) h 0)

/-- Bytes padded with zeros to whole blocks. -/
def pad16 (b : List Byte) : List Byte := b ++ List.replicate ((16 - b.length % 16) % 16) 0

/-- Counter-mode encryption from a block counter: round keys, nonce, counter, data. -/
def gcmCtr (keys nonce : List Byte) : Nat → Nat → List Byte → List Byte
  | 0, _, _ => []
  | n + 1, i, b => xorBytes (b.take 16) (aesBlock keys (nonce ++ beBytes 4 i)) ++ gcmCtr keys nonce n (i + 1) (b.drop 16)

/-- The tag of a ciphertext with its associated data. -/
def gcmTag (keys nonce aad c : List Byte) : List Byte :=
  let h := ofBe (aesBlock keys (List.replicate 16 0))
  let m := pad16 aad ++ pad16 c ++ beBytes 8 (8 * aad.length) ++ beBytes 8 (8 * c.length)
  xorBytes (beBytes 16 (ghash h (m.length / 16) m 0)) (aesBlock keys (nonce ++ beBytes 4 1))

/-- AES-256-GCM encryption: key, 12-byte nonce, associated data, plaintext; ciphertext and tag. -/
def gcmSeal (key nonce aad p : List Byte) : List Byte :=
  let keys := aesKeys key
  let c := gcmCtr keys nonce ((p.length + 15) / 16) 2 p
  c ++ gcmTag keys nonce aad c

/-- AES-256-GCM decryption: none where the tag does not verify. -/
def gcmOpen (key nonce aad ct : List Byte) : Option (List Byte) :=
  let keys := aesKeys key
  let c := ct.take (ct.length - 16)
  if 16 ≤ ct.length ∧ gcmTag keys nonce aad c = ct.drop (ct.length - 16) then some (gcmCtr keys nonce ((c.length + 15) / 16) 2 c) else none

end Sys2Proof.Machine
end

