-- ==== Sys2Proof/Machine/Answer.lean ====
section
/-! DEFINITION. Answers to Zhonal records (R44–R46): a message's response records gather in its session and leave when its last
record has run and no record of it waits. -/

namespace Sys2Proof.Machine

/-- Session slot i. -/
def State.sess (s : State) (i : Nat) : Session := tget sessFree s.dict.sessions i
/-- Stores session slot i. -/
def State.setSess (s : State) (i : Nat) (v : Session) : State :=
  { s with dict := { s.dict with sessions := tset sessFree s.dict.sessions i v } }

/-- A record of a message as it travels (Table 2-5). -/
def RespRec.wire (r : RespRec) : List Byte :=
  beBytes 1 r.opcode ++ beBytes 1 r.ty ++ beBytes 2 r.ix ++ beBytes 1 r.sub ++ [0] ++ beBytes 2 r.value.length ++
    beBytes 2 r.status ++ [0, 0] ++ pad4 r.value

/-- A message as it travels (Table 2-4): TYPE, SESSION, SEQUENCE, FLAGS and records. -/
def msgBytes (type session seq flags : Nat) (recs : List RespRec) : List Byte :=
  let body := recs.flatMap RespRec.wire
  beBytes 2 0x5A48 ++ [1] ++ beBytes 1 type ++ beBytes 4 session ++ beBytes 4 seq ++ beBytes 2 recs.length ++ beBytes 2 flags ++
    beBytes 4 body.length ++ body

/-- Mailbox channel n in Window A. -/
def rMbx (n : Nat) : Nat := 0x080000 + 0x20000 * n

/-- A message is placed in channel n's response buffer: a response clears BUSY and sets RSP_READY, a notification sets
NOTIFY_PENDING (R64, R65). -/
def State.mbxPlace (s : State) (n : Nat) (notify : Bool) (b : List Byte) : State :=
  let st := s.reg (rMbx n + 4)
  let st1 := setFld (if notify then setFld st 29 29 1 else setFld (setFld st 31 31 0) 30 30 1) 16 0 b.length
  let s1 := (s.setBytesAt (rMbx n + 0x10000) (b.take 65536)).setReg (rMbx n + 4) st1
  let irq := s1.reg (rMbx n + 8)
  if bitOf irq (if notify then 2 else 0) then s1.signal (fld irq 26 16) else s1

/-- Whether channel n's response buffer is the host's: it holds a message not yet released (R65). -/
def State.mbxHeld (s : State) (n : Nat) : Bool := bitOf (s.reg (rMbx n + 4)) 30 || bitOf (s.reg (rMbx n + 4)) 29

/-- No response waits. -/
def noWait : Nat → List Byte := fun _ => []

/-- A message as the device seals it for UDP with COUNTER n: the security header, the ciphertext and the tag (R61). -/
def Session.sealed (x : Session) (n : Nat) (msg : List Byte) : List Byte :=
  let head := beBytes 4 x.id ++ beBytes 8 n
  head ++ gcmSeal (x.keyD2c.take 32) (x.keyD2c.drop 32 ++ beBytes 8 n) head msg

/-- A message leaves over UDP as one datagram, with the next COUNTER of the device's direction (R61). A datagram carries at most 1,400
bytes of message, and no message is cut: a longer one is not sent (DESIGN CHOICE, log entry 164). -/
def State.sendUdp (s : State) (i : Nat) (msg : List Byte) : State :=
  let x := s.sess i
  if 1400 < msg.length then s
  else (s.setSess i { x with txCount := x.txCount + 1 }).emit (.datagram i (x.sealed (x.txCount + 1) msg))

/-- A response leaves: over UDP at once, on the mailbox through its buffer, where it waits until the host frees it (R64, R65). One longer than
the buffer of 65,536 bytes is placed as far as the buffer reaches: DESIGN CHOICE, log entry 164. -/
def State.respond (s : State) (i seq : Nat) (recs : List RespRec) : State :=
  let b := msgBytes 2 (s.sess i).id seq 0 recs
  if 4 ≤ i then s.sendUdp i b
  else if s.mbxHeld i then { s with dict := { s.dict with mbxWait := tset noWait s.dict.mbxWait i b } } else s.mbxPlace i false b

/-- Whether a record of a message still waits. -/
def State.waitsFor (s : State) (i q : Nat) : Bool := s.dict.waits.any (fun w => w.slot == i && w.seq == q)

/-- Sends the response of a slot's message when nothing of it is left to run or to wait for. -/
def State.finishMsg (s : State) (i : Nat) : State :=
  let x := s.sess i
  match x.lastSeq with
  | none => s
  | some q => if x.running || s.waitsFor i q then s else s.respond i q (x.cache ++ x.details)

/-- The response of a message leaves once no record of it waits. -/
def State.finishWait (s : State) (i q : Nat) : State := if (s.sess i).lastSeq = some q then s.finishMsg i else s

/-- A record's response joins its message's. -/
def State.addRec (s : State) (i : Nat) (r : RespRec) : State :=
  let x := s.sess i
  s.setSess i { x with cache := x.cache ++ [r] }

/-- The records of a list with the one at a place answered. -/
def answerIn (l : List RespRec) (idx status : Nat) (value : List Byte) : List RespRec :=
  let r : RespRec := l.getD idx ⟨0, 0, 0, 0, 0, []⟩
  l.set idx { r with status := status, value := value }

/-- The answer of the record at place `idx` of a message is set; a failure stops the records after it under STOP_ON_ERROR (R45). -/
def State.answerAt (s : State) (slot seq idx status : Nat) (value : List Byte) : State :=
  let x := s.sess slot
  if x.lastSeq = some seq then s.setSess slot { x with cache := answerIn x.cache idx status value, failed := x.failed || status != 0 } else s

/-- A waiting record is answered with a status and value. -/
def State.settle (s : State) (w : Waiter) (status : Nat) (value : List Byte) : State :=
  (({ s with dict := { s.dict with waits := s.dict.waits.filter (fun v => !(v == w)) } }).answerAt w.slot w.seq w.idx status
    value).finishWait w.slot w.seq

/-- Every waiting record of a kind is answered with status 0. -/
def State.settleKind (s : State) (kind : Nat) : State :=
  (s.dict.waits.filter (fun w => w.kind == kind)).foldl (fun x w => x.settle w 0 []) s

/-- A record begins to wait. -/
def State.await (s : State) (w : Waiter) : State := { s with dict := { s.dict with waits := s.dict.waits ++ [w] } }

/-- HURDLE_DETAIL records: offending objects with their codes, at most 32 (R44, R50). -/
def detailRecs (keys : List (Nat × Nat)) : List RespRec :=
  (keys.take 32).map (fun p => ⟨0x0C, 0, keyIx p.1, keySub p.1, p.2, []⟩)

/-- HURDLE_DETAIL records join a message's response. -/
def State.addDetails (s : State) (slot seq : Nat) (keys : List (Nat × Nat)) : State :=
  let x := s.sess slot
  if x.lastSeq = some seq then s.setSess slot { x with details := x.details ++ detailRecs keys } else s

/-- LAST_HURDLE and LAST_OBJECT of an area (Table 2-2). -/
def State.hurdleObjs (s : State) (area code key : Nat) : State :=
  (s.setNum (objKey area 2) code).setNum (objKey area 3) key

/-- A refused ENABLE is written to the event recorder: 0x0011 with the session that asked (R68). -/
def State.noteRefused (s : State) (area session code key : Nat) : State :=
  s.raise 0x0011 (p16 (areaBase area) ++ p32 session ++ p16 code ++ p32 key)

/-- An area's ENABLE is refused by its hurdle: its objects, and event 0x0011. -/
def State.enableRefused (s : State) (area session code key : Nat) : State :=
  (s.hurdleObjs area code key).noteRefused area session code key

/-- A waiting record is refused with a code: a port SID write, or a commit with every area of its chain (R53, R202). A twin's
holder tells the partner to discard its copy (R375). -/
def State.refuseWait (s : State) (w : Waiter) (code : Nat) : State :=
  if w.kind = 1 then
    (let own := areaOf (keyIx w.key)
     let id := (s.sess w.slot).id
     let s1 := { s with dict := { s.dict with waits := s.dict.waits.filter (fun v => !(v == w)) } }
     let s2 := (List.range w.chain.length).foldl (fun (x : State) i =>
       let a := (w.chain.getD i (0, 0)).1
       let c := if a = own then code else 0x00FE
       let y := (x.answerAt w.slot w.seq (w.idx + i) c []).enableRefused a id c (if a = own then w.key else 0)
       if w.mirror ≠ 0 ∧ areaMirrored a then y.mirror 3 (beBytes 2 (areaBase a) ++ [2] ++ beBytes 2 c) else y) s1
     (s2.addDetails w.slot w.seq [(w.key, code)]).finishWait w.slot w.seq)
  else s.settle w code []

/-- Every record that waits for a request is refused. -/
def State.refuseWaits (s : State) (j reqId code : Nat) : State :=
  (s.dict.waits.filter (fun w => w.asks.contains (j, reqId))).foldl (fun (x : State) w => x.refuseWait w code) s

end Sys2Proof.Machine
end

