-- ==== Sys2Proof/Machine/Bank.lean ====
section
/-! DEFINITION. The settings banks (R473): what they keep, and how changed settings reach them. -/

namespace Sys2Proof.Machine

/-- Stores the security and update block. -/
def State.setUpd (s : State) (u : UpdSt) : State := { s with upd := u }
/-- A settings bank. -/
def State.setBank (s : State) (k : Nat) (b : Bank) : State := s.setUpd { s.upd with banks := tset bankBlank s.upd.banks k b }

/-- Whether the settings bank keeps an object (R473): readable and writable, outside areas 0x0000 and 0xB000; not the download
itself or a session's cursor. -/
def bankKeeps (k : Nat) : Bool :=
  let ix := keyIx k
  let a := areaOf ix
  a != 0 && a != 0xBFFF && k != 0xD00102 && k != 0xA80005 &&
  (match objDef ix (keySub k) with | some d => d.acc == .rw || d.acc == .rws | none => false)

/-- Writes older than 1 s are durable. -/
def Bank.settle (b : Bank) (now : Nat) : Bank :=
  let old := b.writes.filter (fun w => decide (w.1 + tickS ≤ now))
  { b with vals := old.foldl (fun (t : Tbl Val) w => w.2.foldl (fun (u : Tbl Val) p => tput u p.1 p.2) t) b.vals,
           writes := b.writes.filter (fun w => !decide (w.1 + tickS ≤ now)) }

/-- The event register that an object 0xA400 + g shows (R421). -/
def evtRegOf (k : Nat) : Option Nat :=
  let ix := keyIx k
  if 0xA400 ≤ ix ∧ ix ≤ 0xA41F ∧ 1 ≤ keySub k ∧ keySub k ≤ 3 then some (0x050000 + 0x10 * (ix - 0xA400) + 4 * (keySub k - 1)) else none

/-- The objects that show event registers. -/
def evtKeys : List Nat := (List.range 96).map (fun i => objKey (0xA400 + i / 3) (i % 3 + 1))

/-- The running value of a setting: an object's, or the event register's behind it. -/
def State.setting (s : State) (k : Nat) : Val := match evtRegOf k with | some r => .num (s.reg r) | none => s.obj k

/-- A setting takes a value. -/
def State.setSetting (s : State) (k : Nat) (v : Val) : State :=
  match evtRegOf k with | some r => s.setReg r v.toNat | none => s.setObj k v

/-- The banks that a changed setting reaches: the running image's, and the one already prepared for an image that continues the running sets
(R474, R477). DESIGN CHOICE (log entry 213). -/
def State.banksNow (s : State) : List Nat :=
  s.upd.booted :: (match s.upd.act with | some a => if a.cause = 0 ∧ a.fresh = false then [a.to_] else [] | none => [])

/-- Settings that took a value are written to the active bank, durable 1 s later (R473). -/
def State.noteBank (s : State) (keys : List Nat) : State :=
  let l := (keys.filter bankKeeps).map (fun k => (k, s.setting k))
  if l.isEmpty then s
  else s.banksNow.foldl (fun (x : State) k =>
    let b := (tget bankBlank x.upd.banks k).settle s.now
    x.setBank k { b with writes := b.writes ++ [(s.now, l)] }) s

/-- Settings that differ between two states. -/
def settingsChanged (a b : State) : List Nat :=
  (tkeys a.objs ++ tkeys b.objs ++ evtKeys).filter (fun k => bankKeeps k && decide (a.setting k ≠ b.setting k))

/-- Every setting that differs from `old` is written to the active bank. -/
def State.noteSince (s old : State) : State := s.noteBank (settingsChanged old s)

end Sys2Proof.Machine
end

