-- ==== Sys2Proof/Machine/Ports.lean ====
section
/-! DEFINITION. Audio ports (08): AES3 inputs and outputs, TDM ports, the ASRC instances, and port destinations. -/

namespace Sys2Proof.Machine

/-- AES_IN_EVT_n. -/
def rAesEvt (n : Nat) : Nat := 0x40E004 + 8 * n
/-- TDM_EVT_n. -/
def rTdmEvt (n : Nat) : Nat := 0x40E084 + 8 * n

/-- Stores AES3 input n. -/
def State.setAes (s : State) (n : Nat) (v : AesIn) : State :=
  { s with aud := { s.aud with aes := tset aesIdle s.aud.aes n v } }
/-- TDM port n. -/
def State.tdm (s : State) (n : Nat) : TdmPort := tget tdmIdle s.aud.tdm n
/-- Stores TDM port n. -/
def State.setTdm (s : State) (n : Nat) (v : TdmPort) : State :=
  { s with aud := { s.aud with tdm := tset tdmIdle s.aud.tdm n v } }
/-- Port destination d. -/
def State.pdest (s : State) (d : Nat) : PortDest := tget portIdle s.aud.dests d
/-- Stores port destination d. -/
def State.setPdest (s : State) (d : Nat) (v : PortDest) : State :=
  { s with aud := { s.aud with dests := tset portIdle s.aud.dests d v } }

/-! ### Delivery into the Aligner (R243, R244, R248, R260) -/

/-- Pairs of a port's channels: the channels it delivers, from its FIRST_CHANNEL. -/
def chansFrom (first n : Nat) : List Nat := (List.range n).map (fun i => first + i)

/-- Marks a port's channels present or absent. -/
def State.portPresent (s : State) (slot first n : Nat) (on : Bool) : State :=
  if slot = 0xFF then s else s.setPresents ((chansFrom first n).map (fun c => lkey slot 1 c)) on

/-- A port's pairs are no longer received: none of them is an unlocked pair (R260). -/
def State.pairsEnd (s : State) (slot first n : Nat) : State :=
  if slot = 0xFF then s else (chansFrom first n).foldl (fun (x : State) c => x.notePair slot c false) s

/-- One sample of an unlocked or synchronous pair enters the Aligner at house sample t; the previous one of its channel
entered at t0. Through an ASRC instance every house sample in between gets a word, 48 samples late (R258, R259); a masked slot's are silence
(R255). -/
def State.deliver (s : State) (slot c t0 t v : Nat) (sync masked : Bool) : State :=
  if slot = 0xFF then s
  else
    let s1 := s.notePair slot c (!sync)
    match s1.asrcOf slot c with
    | some i =>
      if sync then s1.enterSample slot (t + 48) c v
      else
        let from_ := if t0 = 0 ∨ t < t0 ∨ t0 + 8 < t then t else t0 + 1
        (List.range (t + 1 - from_)).foldl (fun (x : State) j =>
          x.enterSample slot (from_ + j + 48) c
            (if s1.num (O.asrcState i) = 3 ∨ masked = true then 0 else Config.asrcSample i (from_ + j) v % sampMod)) s1
    | none => s1.enterSample slot t c (if sync then v else 0)

/-! ### AES3 inputs (R247–R251) -/

/-- An input whose channels stand from `first` on in the slot falls (R251): they are marked absent, and a partly received frame is
discarded. -/
def State.aesFalls (s : State) (n to_ slot first : Nat) : State :=
  let s1 := ((s.setNum (O.aesInLockState n) to_).setNum (O.aesInSync n) 0).setAes n { s.aes n with here := false, lastT := 0, half := none }
  (((s1.portPresent slot first 2 false).pairsEnd slot first 2).setBit (rAesEvt n) 1).raise 0x7002 (p8 n ++ p8 to_)

/-- An input falls to LOCK_STATE 0 or 1 (R251). -/
def State.aesLost (s : State) (n to_ : Nat) : State := s.aesFalls n to_ (s.num (O.aesInSlot n)) (s.num (O.aesInFirstChannel n))

/-- Frame rates in mHz that an input receives: 32 kHz to 192 kHz (R247). -/
def aesRateOk (rate : Nat) : Bool := decide (32000000 ≤ rate) && decide (rate ≤ 192000000)

/-- AES_BIPHASE_LOCK (R247). -/
def execAesBiphaseLock (n : Fin 16) (s : State) : Res :=
  if s.num (O.aesInLockState n) = 0 ∧ s.flag (O.aesInEnable n) then .next (s.setNum (O.aesInLockState n) 1) else .next s

/-- AES_FRAMED (R247): a signal outside the frame rates received stays at LOCK_STATE 1. -/
def execAesFramed (framing : AesFraming) (s : State) : Res :=
  if s.num (O.aesInLockState framing.input) = 1 ∧ aesRateOk framing.rate then .next (s.setNum (O.aesInLockState framing.input) 2) else .next s

/-- Whether a measured rate in mHz and a phase show a synchronous signal (R248). -/
def State.isSync (s : State) (slot rate : Nat) (phase : Int) : Bool :=
  let want := s.slotFs slot * 1000
  decide ((((rate : Int) - want).natAbs) * 1000000 ≤ want) && decide (phase.natAbs ≤ 32768)

/-- AES_CLASSIFY (R247, R248, R254, R260): a 100 ms window measures the rate and decides SYNC. -/
def execAesClassify (port : Fin 24) (rate : Nat) (phase : Int) (at_ : Nat) (s0 : State) : Res :=
  let s := s0.toTick at_
  if port.val < 16 then
    let n := port.val
    let ls := s.num (O.aesInLockState n)
    if ls < 2 then .next s
    else if !aesRateOk rate then .next (s.aesLost n 1)
    else
      let sync := if s.isSync (s.num (O.aesInSlot n)) rate phase then 1 else 2
      let old := s.num (O.aesInSync n)
      let s1 := (s.setNum (O.aesInRateMeasured n) rate).setNum (O.aesInSync n) sync
      let s2 := if ls = 2 then
          ((((s1.setNum (O.aesInLockState n) 3).setAes n { s1.aes n with here := true }).portPresent (s1.num (O.aesInSlot n))
            (s1.num (O.aesInFirstChannel n)) 2 true).setBit (rAesEvt n) 0).raise 0x7001 (p8 n ++ p32 rate ++ p8 sync)
        else if old ≠ sync then (s1.setBit (rAesEvt n) 2).raise 0x7003 (p8 n ++ p8 sync)
        else s1
      .next (if s2.num (O.aesInSlot n) = 0xFF then s2
        else s2.notePair (s2.num (O.aesInSlot n)) (s2.num (O.aesInFirstChannel n)) (sync == 2))
  else
    let n := port.val - 16
    if s.num (O.tdmMode n) ≠ 2 ∨ s.num (O.tdmState n) ≠ 2 then .next s
    else
      let sync := if s.isSync (s.num (O.tdmSlot n)) rate phase then 1 else 2
      let old := s.num (O.tdmSync n)
      let s1 := s.setNum (O.tdmSync n) sync
      .next (if old ≠ sync ∧ old ≠ 0 then s1.raise 0x7003 (p8 port ++ p8 sync) else s1)

/-- AES_SIGNAL_LOSS (R251). -/
def execAesSignalLoss (n : Fin 16) (to_ : Fin 2) (at_ : Nat) (s0 : State) : Res :=
  let s := s0.toTick at_
  if s.num (O.aesInLockState n) ≤ to_.val then .next s else .next (s.aesLost n to_)

/-- Event 0x7005, with the parity, biphase and CRC counters of the input. -/
def State.aesErr (s : State) (n parity biphase crc : Nat) : State :=
  s.oncePerSecond 0x7005 n (p8 n ++ p32 parity ++ p32 biphase ++ p32 crc)

/-- AES_SUBFRAME (R244, R248, R249, R251): a frame is delivered whole, with subframe 2, at the sample time of its X or Z preamble. -/
def execAesSubframe (n : Fin 16) (sub : Fin 2) (parityOk biphaseOk v : Bool) (sample : BitVec 24) (at_ : Nat) (s0 : State) :
    Res :=
  let s := s0.toTick at_
  let a := s.aes n
  if s.num (O.aesInLockState n) < 2 then .next s
  else
    let last := if sub.val = 0 then a.lastA else a.lastB
    let s1 := if parityOk then s else s.bump (O.aesInParityErrors n)
    let s2 := if biphaseOk then s1 else s1.bump (O.aesInBiphaseErrors n)
    let bad := !parityOk || !biphaseOk
    let s3 := if bad then s2.aesErr n (s2.num (O.aesInParityErrors n)) (s2.num (O.aesInBiphaseErrors n))
        (s2.num (O.aesInCrcErrors n)) else s2
    let mute := v && s3.num (O.aesInValidityAction n) == 1
    let s4 := if mute then s3.bump (O.aesInInvalidSamples n) else s3
    let w := if mute then 0 else if bad then last else sample.toNat
    let slot := s4.num (O.aesInSlot n)
    let t := sampleAt (s4.slotFs slot) s4.tm.pt
    if sub.val = 0 then .next (s4.setAes n { a with lastA := w, half := some (w, t) })
    else
      match a.half with
      | none => .next (s4.setAes n { a with lastB := w })
      | some (w0, t) =>
        let s5 := s4.setAes n { a with lastB := w, lastT := t, half := none }
        let first := s5.num (O.aesInFirstChannel n)
        let sync := s5.num (O.aesInSync n) == 1
        .next (if a.here then (s5.deliver slot first a.lastT t w0 sync false).deliver slot (first + 1) a.lastT t w sync false else s5)

/-- One subframe's block (R250). -/
def State.aesBlockSub (s : State) (n sub kStatus kUser : Nat) (status user : List Byte) (crcOk : Bool) : State :=
  if bitOf (byteAt status 0) 0 && !crcOk then
    let s1 := s.bump (O.aesInCrcErrors n)
    s1.aesErr n (s1.num (O.aesInParityErrors n)) (s1.num (O.aesInBiphaseErrors n)) (s1.num (O.aesInCrcErrors n))
  else
    let s1 := (s.setBytes kStatus (status.take 24)).setBytes kUser (user.take 24)
    if s.bytes kStatus = status.take 24 then s1
    else (s1.setBit (rAesEvt n) 3).raise 0x7004 (p8 n ++ p8 sub ++ status.take 24)

/-- AES_BLOCK (R250): channel status, user bits and the pair's non-audio flag. -/
def execAesBlock (n : Fin 16) (statusA statusB userA userB : List Byte) (crcA crcB : Bool) (s : State) : Res :=
  if s.num (O.aesInLockState n) < 2 then .next s
  else
    let s1 := (s.aesBlockSub n 0 (O.aesInStatusA n) (O.aesInUserA n) statusA userA crcA).aesBlockSub n 1 (O.aesInStatusB n)
      (O.aesInUserB n) statusB userB crcB
    let non := bitOf (byteAt (s1.bytes (O.aesInStatusA n)) 0) 1
    .next (s1.setAes n { s1.aes n with nonAudio := non })

/-! ### Port destinations (R261–R264) -/

/-- The object that names a destination's SID. -/
def portKey (d : Nat) : Nat :=
  if d < 32 then (if d % 2 = 0 then O.aesOutSidA (d / 2) else O.aesOutSidB (d / 2))
  else O.tdmTxSid ((d - 32) / 64) ((d - 32) % 64)

/-- The destination a SID object belongs to. -/
def portOfKey (k : Nat) : Option Nat :=
  let ix := keyIx k
  let sub := keySub k
  if 0x7020 ≤ ix ∧ ix ≤ 0x702F ∧ (sub = 3 ∨ sub = 4) then some (2 * (ix - 0x7020) + (sub - 3))
  else if 0x7040 ≤ ix ∧ ix ≤ 0x7047 ∧ 1 ≤ sub ∧ sub ≤ 64 then some (32 + 64 * (ix - 0x7040) + (sub - 1))
  else none

/-- Rate of a destination's port in kHz. -/
def State.portRate (s : State) (d : Nat) : Nat :=
  if d < 32 then s.num (O.aesOutRate (d / 2)) else s.num (O.tdmRate ((d - 32) / 64))
/-- TRANSITION, XFADE_SAMPLES and ZC_TIMEOUT of a destination's port. -/
def State.portTrans (s : State) (d : Nat) : Nat × Nat × Nat :=
  if d < 32 then (let n := d / 2; (s.num (O.aesOutTransition n), s.num (O.aesOutXfadeSamples n), s.num (O.aesOutZcTimeout n)))
  else (let n := (d - 32) / 64; (s.num (O.tdmTransition n), s.num (O.tdmXfadeSamples n), s.num (O.tdmZcTimeout n)))

/-- Sample t of a SID as a port sends it (R246, R263, R266): a source with video is read as far behind its line label as an
output sends it, one without video a sample after its release. -/
def State.portSample (s : State) (d sid t : Nat) : Option Nat :=
  let r := s.portRate d
  if s.chanRate sid r ≠ r then some 0
  else
    let c := s.chan (s.chanKey sid)
    if sidGen sid then s.chanAt sid t
    else if c.byLine then
      let f := if s.sidLocal sid then s.slotRaster (sidSlot sid) else ((s.heldFor sid).map (fun p => p.2.fmt)).getD 0
      let d := linesPt f (4 + s.lag + s.remoteBit sid) 1 * (r * 1000) / (1000000000 * ptNs)
      s.chanAt sid (t - d)
    else s.chanAt sid (t + 1)

/-- The sample a destination sends at house sample t, with its transition carried on (R261); a channel that is absent repeats its last
sample (R263). -/
def State.portStep (s : State) (d t : Nat) : Nat × State :=
  let x := s.pdest d
  let val (sid : Nat) : Nat := (s.portSample d sid t).getD (s.chan (s.chanKey sid)).lastSample
  let before (sid : Nat) : Nat := (s.portSample d sid (t - 1)).getD 0
  let (v, tr) := match x.tr with
    | none => (val (s.num (portKey d)), none)
    | some tr => trStep (val tr.old) (val tr.new) (before tr.old) (before tr.new) tr t (rampLen (s.portRate d))
  (v, s.setPdest d { x with last := v, tr := tr })

/-- A destination takes a new SID from the first house sample at or after now (R261), with event 0x700C where the SID changes and its rate is
not the port's (R246). -/
def State.portStart (s : State) (d sid : Nat) : State :=
  let old := s.num (portKey d)
  let x := s.pdest d
  let (kind, xf, _) := s.portTrans d
  let non := s.pairNonAudio old || s.pairNonAudio sid
  let start := sampleAt (s.portRate d * 1000) s.tm.pt
  let tr : PosTr := ⟨old, sid, if non then 3 else kind, start, xf, 0, none, none, none, none⟩
  let s1 := (s.setPdest d { x with tr := if old = sid then x.tr else some tr, held := none }).setNum (portKey d) sid |>.noteBank [portKey d]
  let port := if d < 32 then d / 2 else 16 + (d - 32) / 64
  if old ≠ sid ∧ s1.chanRate sid (s1.portRate d) ≠ s1.portRate d then s1.raise 0x700C (p8 port ++ p8 (if d < 32 then d % 2 else (d - 32) % 64) ++ p32 sid)
  else s1

/-- A destination is given a SID: at once, or held while a transition runs (R262). -/
def State.portApply (s : State) (d sid : Nat) : State :=
  let x := s.pdest d
  if x.tr.isSome then s.setPdest d { x with held := some sid } else s.portStart d sid

/-- Whether the time of a destination's transition is over, with a forced ramp the longest it can take (R229, R261). -/
def State.transOver (s : State) (d : Nat) (tr : PosTr) : Bool :=
  let fs := s.portRate d
  let len := if tr.kind = 1 then tr.len else if tr.kind = 2 then (s.portTrans d).2.2 * fs + rampLen fs else 0
  decide (tr.start + len ≤ sampleAt (fs * 1000) s.tm.pt)

/-- PORT_TRANSITION_END (R262): a transition whose time is over has ended, also on a port that sends no frames, and the held SID applies. -/
def execPortTransitionEnd (d : Fin 544) (s : State) : Res :=
  let x := s.pdest d
  let ended := match x.tr with | some tr => s.transOver d tr | none => true
  if !ended then .next s
  else
    let s1 := s.setPdest d { x with tr := none }
    match x.held with
    | some sid => .next (s1.portStart d sid)
    | none => .next s1

/-- Whether a SID may be named by a port destination (R18, R264). -/
def portSidOk (sid : Nat) : Bool := sidOk sid && sidClass sid == 1

/-- The crossing of a port destination that has not come within ZC_TIMEOUT is forced (R261). -/
def State.forcePort (s : State) (d : Nat) : State :=
  let x := s.pdest d
  match x.tr with
  | none => s
  | some tr =>
    let fs := s.portRate d
    let lim := tr.start + (s.portTrans d).2.2 * fs
    if tr.kind ≠ 2 ∨ (tr.oldEnd.isSome ∧ tr.newStart.isSome) ∨ tr.rampOld.isSome ∨ tr.rampNew.isSome ∨
        sampleAt (fs * 1000) s.tm.pt < lim then s
    else
      let tr' := { tr with rampOld := if tr.oldEnd.isNone then some lim else none,
                           rampNew := if tr.newStart.isNone then some lim else none }
      let port := if d < 32 then d / 2 else 16 + (d - 32) / 64
      (s.setPdest d { x with tr := some tr' }).markSecond 0x700B port (if d < 32 then d % 2 else (d - 32) % 64) (p8 port)

/-- ZERO_CROSSING_TIMEOUT (R229, R261): on an output position, or on a port destination. -/
def execZeroCrossingTimeout (port : Option (Fin 544)) (o pos : Fin 128) (at_ : Nat) (s0 : State) : Res :=
  let s := s0.toTick at_
  match port with
  | none => .next (s.forceCrossing o pos)
  | some d => .next (s.forcePort d)

/-! ### AES3 outputs (R252) -/

/-- The non-audio bit of AES3 output n: that of the local pair its SIDs name (R252, R265). -/
def State.aesNonAudio (s : State) (n : Nat) : Bool :=
  let a := s.num (O.aesOutSidA n)
  let b := s.num (O.aesOutSidB n)
  sidSub a % 2 == 0 && b == a + 1 && s.pairNonAudio a

/-- The channel-status block of an AES3 output (R252): professional use, non-audio, rate, a 24-bit word length and the CRCC. PRESUMED (log
entry 173): the codes and the CRCC of AES3, whose byte 0 has none for 96 kHz. -/
def aesStatus (khz : Nat) (non : Bool) : List Byte :=
  let b := beBytes 1 (1 + 2 * b2n non + 64 * (if khz = 48 then 2 else Config.aesRateBits % 4)) ++ [0, 0x2C] ++ List.replicate 20 0
  b ++ [aesCrcc b]

/-- AES_OUTPUT_FRAME (R245, R252, R263). -/
def execAesOutputFrame (n : Fin 16) (t at_ : Nat) (s0 : State) : Res :=
  let s := s0.toTick at_
  let fs := s.num (O.aesOutRate n) * 1000
  if !s.flag (O.aesOutEnable n) ∨ !s.essOn ∨ !s.timeFor (samplePt fs t) then .next s
  else
    let (a, s1) := s.portStep (2 * n) t
    let (b, s2) := s1.portStep (2 * n + 1) t
    .next (s2.emit (.aesFrame n t a b (aesStatus (s2.num (O.aesOutRate n)) (s2.aesNonAudio n))))

/-! ### TDM ports (R253–R257) -/

/-- Destinations and positions that use a channel. -/
def State.routesOf (s : State) (sid : Nat) : Nat :=
  let outs := ((List.range 128).map (fun o =>
    if s.outputKind o = 0 ∨ s.outRaster o = 0 then 0
    else ((List.range 128).filter (fun p => s.num (O.takeAudioPosition o p) == sid)).length)).foldl (· + ·) 0
  let ports := ((List.range 544).filter (fun d => s.num (portKey d) == sid)).length
  let strs := (s.str.act.banks.map (fun b => (b.2.inputs.filter (fun i => i == .sid sid)).length)).foldl (· + ·) 0
  outs + ports + strs

/-- Masks of a commit take effect at the first FSYNC edge after it (R256). -/
def State.tdmMasks (s : State) (n : Nat) : State :=
  let rx := s.num (O.tdmRxMask n)
  let tx := s.num (O.tdmTxMask n)
  if s.now ≤ (s.tdm n).maskAt ∧ (s.tdm n).maskAt ≠ 0 then s
  else
    let old := s.num (O.tdmRxMaskActive n)
    let s1 := (s.setNum (O.tdmRxMaskActive n) rx).setNum (O.tdmTxMaskActive n) tx
    if old = rx then s1
    else
      let slot := s1.num (O.tdmSlot n)
      let first := s1.num (O.tdmFirstChannel n)
      let off := (List.range (s1.num (O.tdmSlots n))).filter (fun i => bitOf old i && !bitOf rx i)
      let used := (off.map (fun i => (i, s1.routesOf (mkSid s1.devIndex slot 1 (first + i))))).filter (fun p => p.2 != 0)
      if used.isEmpty then s1
      else (s1.setBit (rTdmEvt n) 1).raise 0x7007 (p8 n ++ p64 ((used.map (fun p => 2 ^ p.1)).foldl (· + ·) 0) ++
        p16 ((used.map Prod.snd).foldl (· + ·) 0))

/-- TDM_FSYNC (R253–R257): masks committed before this edge take effect, the received frame is delivered and the transmit
frame leaves. DESIGN CHOICE (log entry 172): the channels of a slave port are present once its SYNC has been decided. -/
def execTdmFsync (n : Fin 8) (t : Nat) (rx : List (BitVec 24)) (at_ : Nat) (s0 : State) : Res :=
  let s := s0.toTick at_
  let mode := s.num (O.tdmMode n)
  let fs := s.num (O.tdmRate n) * 1000
  if mode = 0 ∨ !s.essOn ∨ (mode = 1 ∧ !s.timeFor (samplePt fs t)) then .next s
  else
    let s1 := s.tdmMasks n
    let slots := s1.num (O.tdmSlots n)
    let slot := s1.num (O.tdmSlot n)
    let first := s1.num (O.tdmFirstChannel n)
    let mask := s1.num (O.tdmRxMaskActive n)
    let locked := s1.num (O.tdmState n) == 2
    let x := s1.tdm n
    let words := (List.range slots).map (fun i => (rx.getD i 0).toNat)
    let s2 := if !locked || (mode == 2 && s1.num (O.tdmSync n) == 0) then s1
      else
        let y := if x.here then s1 else (s1.setTdm n { x with here := true }).portPresent slot first slots true
        let sync := mode == 1 || y.num (O.tdmSync n) == 1
        let ts := sampleAt (y.slotFs slot) y.tm.pt
        (List.range slots).foldl (fun (z : State) i =>
          z.deliver slot (first + i) (ts - 1) ts (if bitOf mask i then words.getD i 0 else 0) sync (!bitOf mask i))
          (y.setTdm n { y.tdm n with bad := 0, last := words })
    let tx := s2.num (O.tdmTxMaskActive n)
    let (out, s3) := (List.range slots).foldl (fun (a : List (Option Nat) × State) i =>
      let (v, z) := a.2.portStep (32 + 64 * n + i) t
      (a.1 ++ [if bitOf tx i && locked then some (v * 256) else none], z)) ([], s2)
    .next (s3.emit (.tdmFrame n t (s3.num (O.tdmFormat n)) (mode == 1) out))

/-- TDM_SLAVE_LOCK (R254). -/
def execTdmSlaveLock (n : Fin 8) (s : State) : Res :=
  if s.num (O.tdmMode n) = 2 ∧ s.num (O.tdmState n) = 1 then
    .next ((((s.setNum (O.tdmState n) 2).setTdm n { s.tdm n with bad := 0 }).setBit (rTdmEvt n) 0).raise 0x7006 (p8 n ++ p8 2))
  else .next s

/-- TDM_FRAME_ERROR (R254, R256): masks committed before its FSYNC edge take effect; the frame's samples are repeated; the fourth in a row
loses lock. -/
def execTdmFrameError (n : Fin 8) (at_ : Nat) (s0 : State) : Res :=
  let s := if (s0.toTick at_).num (O.tdmMode n) = 2 then (s0.toTick at_).tdmMasks n else s0.toTick at_
  if s.num (O.tdmMode n) ≠ 2 ∨ s.num (O.tdmState n) ≠ 2 then .next s
  else
    let x := s.tdm n
    let s1 := s.bump (O.tdmFrameErrors n)
    let slot := s1.num (O.tdmSlot n)
    let first := s1.num (O.tdmFirstChannel n)
    let slots := s1.num (O.tdmSlots n)
    if x.bad + 1 < 4 then
      let ts := sampleAt (s1.slotFs slot) s1.tm.pt
      .next (if s1.num (O.tdmSync n) = 0 then s1.setTdm n { x with bad := x.bad + 1 }
        else (List.range slots).foldl (fun (z : State) i =>
          z.deliver slot (first + i) (ts - 1) ts
            (if bitOf (s1.num (O.tdmRxMaskActive n)) i then x.last.getD i 0 else 0) (s1.num (O.tdmSync n) == 1)
            (!bitOf (s1.num (O.tdmRxMaskActive n)) i))
          (s1.setTdm n { x with bad := x.bad + 1 }))
    else
      let s2 := ((s1.setTdm n { x with bad := 0, here := false }).setNum (O.tdmState n) 1).setNum (O.tdmSync n) 0
      .next ((((s2.portPresent slot first slots false).pairsEnd slot first slots).setBit (rTdmEvt n) 0).raise 0x7006 (p8 n ++ p8 1))

/-! ### ASRC instances (R258, R259) -/

/-- RATIO of an input-to-output ratio `a / b` (R259, R519). -/
def asrcRatioWord (a b : Nat) : Nat := toUFix 32 28 a b

/-- Whether an input-to-output ratio `a / b` lies from 0.3333 to 4.0 (R259). -/
def asrcInRange (a b : Nat) : Bool := decide (3333 * b ≤ 10000 * a) && decide (a ≤ 4 * b)

/-- An instance's input leaves its ratio range or changes too fast: STATE 3 and silence until it locks again (R259). -/
def State.asrcOut (s : State) (i ratio : Nat) : State :=
  if s.num (O.asrcInput i) = 0 ∨ s.num (O.asrcState i) = 3 then s
  else
    let s1 := if s.num (O.asrcState i) = 2 then s.bump (O.asrcUnlocks i) else s
    ((s1.setNum (O.asrcState i) 3).setNum (O.asrcRatio i) ratio).raise 0x7009 (p8 i ++ p32 ratio)

/-- ASRC_LOCK (R259): locked with its settled ratio; while locked, RATIO follows the input. An input outside the ratio range does not lock. -/
def execAsrcLock (i : Fin 64) (ratio : RateRatio) (s : State) : Res :=
  if s.num (O.asrcInput i) = 0 then .next s
  else if !asrcInRange ratio.a ratio.b then .next (s.asrcOut i (asrcRatioWord ratio.a ratio.b))
  else
    let s1 := s.setNum (O.asrcRatio i) (asrcRatioWord ratio.a ratio.b)
    if s.num (O.asrcState i) = 2 then .next s1
    else .next ((s1.setNum (O.asrcState i) 2).raise 0x7008 (p8 i ++ p32 (asrcRatioWord ratio.a ratio.b)))

/-- ASRC_OUT_OF_RANGE (R259): the input's ratio is out of range, or changes faster than the tracking limit. -/
def execAsrcOutOfRange (i : Fin 64) (ratio : RateRatio) (s : State) : Res := .next (s.asrcOut i (asrcRatioWord ratio.a ratio.b))

/-! ### Commits of area 0x7000 (R243, R253, R254, R258, R268) -/

/-- Whether SLOT of a port names an enabled flow slot without a video context. -/
def State.portSlotOk (s : State) (slot : Nat) : Bool :=
  decide (96 ≤ slot ∧ slot ≤ 215) && s.slotEnabled slot && !s.slotHasVideo slot

/-- Channel ranges of the audio flows of a slot: context, INDEX and COUNT, for ESSENCE 2 to 4 (R124, R125). A pair's second
context carries the same channels as the first (R132). -/
def State.flowRanges (s : State) (slot : Nat) : List (Nat × Nat × Nat) :=
  ((s.slotFlows slot).filter (fun p => byteAt p.2 1 == 2 || byteAt p.2 1 == 3)).map
    (fun p => (p.1, byteAt p.2 41, byteAt p.2 42))

/-- Whether the range of port i lies in its slot's channels and overlaps no other (R243). -/
def State.portRangeOk (s : State) (i slot first n : Nat) : Bool :=
  decide (first + n ≤ s.slotChannels slot) && (decide (16 ≤ i) || first % 2 == 0) &&
  (s.portRanges slot).all (fun r => r.1 == i || !rangesMeet first n r.2.1 r.2.2) &&
  (s.flowRanges slot).all (fun r => !rangesMeet first n r.2.1 r.2.2)

/-- The hurdle code of an object of area 0x7000 (Table 8-10). -/
def area7Issue (_pre post : State) (ix sub : Nat) : Option Nat :=
  if 0x7010 ≤ ix ∧ ix ≤ 0x701F then
    (let n := ix - 0x7010
     let slot := post.num (O.aesInSlot n)
     if !post.flag (O.aesInEnable n) ∨ slot = 0xFF ∨ 3 < sub then none
     else if !post.portSlotOk slot && sub != 3 then some 0x7001
     else if !post.portRangeOk n slot (post.num (O.aesInFirstChannel n)) 2 then some 0x7002 else none)
  else if 0x7030 ≤ ix ∧ ix ≤ 0x7037 then
    (let n := ix - 0x7030
     let slot := post.num (O.tdmSlot n)
     let mode := post.num (O.tdmMode n)
     let rate := post.num (O.tdmRate n)
     if mode = 0 ∨ 6 < sub ∨ sub = 4 then none
     else if slot ≠ 0xFF ∧ !post.portSlotOk slot && (sub == 1 || sub == 5) then some 0x7001
     else if slot ≠ 0xFF ∧ !post.portRangeOk (16 + n) slot (post.num (O.tdmFirstChannel n)) (post.num (O.tdmSlots n)) &&
       (sub == 1 || sub == 3 || sub == 5 || sub == 6) then some 0x7002
     else if slot ≠ 0xFF ∧ mode = 1 ∧ rate ≠ post.num (O.slotAudioRate slot) ∧ (sub ≤ 2 ∨ sub = 5) then some 0x7003
     else if 98304000 < post.num (O.tdmSlots n) * 32 * rate * 1000 ∧ sub ≤ 3 then some 0x7004 else none)
  else if 0x7080 ≤ ix ∧ ix ≤ 0x70BF ∧ sub = 1 then
    (let i := ix - 0x7080
     let x := post.num (O.asrcInput i)
     let ok := sidOk x && sidClass x == 1 && sidSub x % 2 == 0 && post.sidLocal x && !sidGen x
     if x = 0 then none
     else if !ok ∨ (List.range 64).any (fun j => j != i && post.num (O.asrcInput j) == x) then some 0x7005 else none)
  else none

/-- What a commit of area 0x7000 changes at once. -/
def State.area7Apply (s : State) (pre : State) : State :=
  let s1 := (List.range 16).foldl (fun (x : State) n =>
    let off := pre.flag (O.aesInEnable n) && !x.flag (O.aesInEnable n)
    let s1 := pre.num (O.aesInSlot n)
    let first := pre.num (O.aesInFirstChannel n)
    let moved := pre.num (O.aesInSlot n) != x.num (O.aesInSlot n) || pre.num (O.aesInFirstChannel n) != x.num (O.aesInFirstChannel n)
    let y := if off && x.num (O.aesInLockState n) != 0 then x.aesFalls n 0 s1 first
      else if moved && (x.aes n).here then (x.portPresent s1 first 2 false).pairsEnd s1 first 2
      else x
    if off then y.setAes n AesIn.idle
    else if moved && (y.aes n).here then
      y.portPresent (y.num (O.aesInSlot n)) (y.num (O.aesInFirstChannel n)) 2 true
    else y) s
  let s2 := (List.range 8).foldl (fun (x : State) n =>
    let mode := x.num (O.tdmMode n)
    let masks := pre.num (O.tdmRxMask n) != x.num (O.tdmRxMask n) || pre.num (O.tdmTxMask n) != x.num (O.tdmTxMask n)
    let y := if masks then x.setTdm n { x.tdm n with maskAt := x.now } else x
    let re := pre.num (O.tdmMode n) != mode || pre.num (O.tdmSlot n) != y.num (O.tdmSlot n) ||
      pre.num (O.tdmFirstChannel n) != y.num (O.tdmFirstChannel n) || pre.num (O.tdmSlots n) != y.num (O.tdmSlots n) ||
      pre.num (O.tdmRate n) != y.num (O.tdmRate n)
    if re then
      let z := if (y.tdm n).here then
          (y.portPresent (pre.num (O.tdmSlot n)) (pre.num (O.tdmFirstChannel n)) (pre.num (O.tdmSlots n)) false).pairsEnd
            (pre.num (O.tdmSlot n)) (pre.num (O.tdmFirstChannel n)) (pre.num (O.tdmSlots n))
        else y
      ((z.setTdm n { z.tdm n with here := false, bad := 0 }).setNum (O.tdmState n) (if mode = 1 then 2 else if mode = 2 then 1 else 0)).setNum
        (O.tdmSync n) (if mode = 1 then 1 else 0)
    else y) s1
  let s3 := (List.range 64).foldl (fun (x : State) i =>
    let a := pre.num (O.asrcInput i)
    let b := x.num (O.asrcInput i)
    if a = b then x
    else (((x.pairsGone (sidSlot a) (fun c => c / 2 * 2 == sidSub a)).pairsGone (sidSlot b) (fun c => c / 2 * 2 == sidSub b)).setNum
      (O.asrcState i) (if b = 0 then 0 else 1)).setNum (O.asrcRatio i) 0) s2
  let s4 := s3.setNum O.audAsrcInUse ((List.range 64).filter (fun i => s3.num (O.asrcInput i) != 0)).length
  let l := s4.aud.noAsrc.filter (fun sid => (s4.asrcOf (sidSlot sid) (sidSub sid)).isNone)
  ({ s4 with aud := { s4.aud with noAsrc := l } }).setNum O.audUnlockedNoAsrc l.length

end Sys2Proof.Machine
end

