-- ==== Sys2Proof/Machine/StrideNum.lean ====
section
/-! DEFINITION. The number formats of the Stride engines (R286) and the real-valued quantities of limiters and meters (R290,
R291), carried with 60 fraction bits (a design choice: the spec states no width for them). -/

namespace Sys2Proof.Machine

/-- An integer held on n bits. -/
def satBits (n : Nat) (v : Int) : Int := clampInt (-(2 ^ (n - 1) : Nat)) ((2 ^ (n - 1) : Nat) - 1) v
/-- A result at accumulator scale. -/
def accSat (v : Int) : Int := satBits 40 v
/-- An accumulator rounded to a 32-bit sample. -/
def accStore (a : Int) : Int := satBits 32 (roundDiv a 256)

/-- 1.0 with 60 fraction bits. -/
def q60 : Nat := 2 ^ 60

/-- e^(-a/b) with 60 fraction bits, for a/b below 4, by the first `n` terms of its series. -/
def expNeg (a b n : Nat) : Nat :=
  let (s, _) := (List.range n).foldl (fun (p : Int × Int) i =>
    let t := roundDiv (-(p.2) * (a : Int)) (b * (i + 1))
    (p.1 + t, t)) ((q60 : Int), (q60 : Int))
  s.toNat

/-- ln 10 with 60 fraction bits. -/
def ln10 : Nat := 2654695162541497869

/-- 10^(-m/4000) with 60 fraction bits. -/
def pow10Neg (m : Nat) : Nat :=
  let q := m / 4000
  let r := m % 4000
  expNeg (r * ln10) (4000 * q60) 36 / 10 ^ q

/-- 2000 · log10(b/a) to the nearest integer, at most 65,535, for a ≤ b. -/
def attDb (a b : Nat) : Nat :=
  (List.range 16).foldl (fun n i =>
    let t := n + 2 ^ (15 - i)
    if a * q60 < pow10Neg (2 * t - 1) * b then t else n) 0

/-- A level code of R291: (level in dBFS + 144.00) × 100, full scale 2^23. -/
def levelCode (mag : Nat) : Nat :=
  if mag = 0 then 0
  else if mag ≤ 2 ^ 23 then 14400 - attDb mag (2 ^ 23)
  else min 0xFFFF (14400 + attDb (2 ^ 23) mag)

/-- T of a THRESHOLD in 0.01 dBFS (R290), with 60 fraction bits. -/
def limT (thr : Int) : Nat := 2 ^ 23 * pow10Neg (2 * (-thr).toNat)

/-- Required gain r of an input sample (R290). -/
def limR (t : Nat) (x : Int) : Nat := if x.natAbs * q60 ≤ t then q60 else t / x.natAbs

/-- The attack gain over the look-ahead: `rs` are r(n), r(n+1), … r(n+L) (R290). -/
def limAttack (rs : List Nat) : Nat :=
  let l := rs.length - 1
  (rs.zipIdx).foldl (fun g p => min g (q60 - (q60 - p.1) * (l + 1 - p.2) / (l + 1))) q60

/-- The release gain (R290): RELEASE in ms, sample rate in Hz. -/
def limRelease (g rel fs : Nat) : Nat :=
  if rel = 0 ∨ fs = 0 then q60 else q60 - (q60 - g) * expNeg 1000 (rel * fs) 10 / q60

end Sys2Proof.Machine
end

