-- ==== Sys2Proof/Machine/StrideGraph.lean ====
section
/-! DEFINITION. The audio graph and its compilation (R272–R285): records, well-formedness, placement, the hurdle of Table 9-3,
step programs and Magisar images. -/

namespace Sys2Proof.Machine

/-- A valid node (R272). -/
structure GNode where
  n : Nat
  kind : Nat
  eng : Nat
  count : Nat
  a0 : Nat
  a1 : Nat
  a2 : Nat
deriving DecidableEq, Repr

/-- A valid edge (R273). -/
structure GEdge where
  x : Nat
  src : Nat
  dst : Nat
  gain : Int
deriving DecidableEq, Repr

/-- The number of a record object: 128 to an index. -/
def recNo (base k : Nat) : Nat := (keyIx k - base) * 128 + (keySub k - 1)

/-- Nodes of a graph in number order. -/
def State.gNodes (s : State) : List GNode :=
  s.objs.filterMap (fun p =>
    let ix := keyIx p.1
    let b := p.2.bytes
    if 0x7A00 ≤ ix ∧ ix ≤ 0x7A7F ∧ bitOf (byteAt b 0) 7 then
      some ⟨recNo 0x7A00 p.1, byteAt b 1, byteAt b 2, byteAt b 3, wordAt b 4, wordAt b 8, wordAt b 12⟩ else none)

/-- Edges of a graph in number order. -/
def State.gEdges (s : State) : List GEdge :=
  s.objs.filterMap (fun p =>
    let ix := keyIx p.1
    let b := p.2.bytes
    if 0x7B00 ≤ ix ∧ ix ≤ 0x7BFF ∧ halfAt b 0 ≠ 0xFFFF then
      some ⟨recNo 0x7B00 p.1, halfAt b 0, halfAt b 2, signed 24 (wordAt b 4 % 2 ^ 24)⟩ else none)

/-- A destination slot's record: TARGET, THRESHOLD, LOOKAHEAD, RELEASE (R275). -/
def State.gDest (s : State) (d : Nat) : Nat × Int × Nat × Nat :=
  let b := s.bytes (O.dest d)
  (halfAt b 0, signed 16 (halfAt b 2), byteAt b 4, halfAt b 6)

/-- Whether node bytes are well formed by themselves (R272, Table 9-2); a node that is not valid may have KIND 0 and no argument. -/
def nodeBytesOk (b : List Byte) : Bool :=
  let k := byteAt b 1
  let a0 := wordAt b 4
  let a1 := wordAt b 8
  let a2 := wordAt b 12
  b.length == 16 && byteAt b 0 % 128 == 0 && (decide (byteAt b 2 ≤ 15) || byteAt b 2 == 0xFF) &&
  ((byteAt b 0 == 0 && k == 0 && byteAt b 3 == 0 && a0 == 0 && a1 == 0 && a2 == 0) ||
   (decide (1 ≤ k ∧ k ≤ 8) &&
    (if k = 5 then decide (1 ≤ byteAt b 3 ∧ byteAt b 3 ≤ 8) else byteAt b 3 == 0) &&
    (match k with
     | 1 => a1 == 0 && a2 == 0
     | 2 => a1 == 0 && a2 == 0 && decide (a0 / 256 ≤ 127) && decide (1 ≤ a0 % 256 ∧ a0 % 256 ≤ 128)
     | 3 => a0 == 0 && a1 == 0 && a2 == 0
     | 4 => decide (-8388608 ≤ signed 32 a0 ∧ signed 32 a0 ≤ 8388607) && decide (a1 ≤ 48000) && a2 == 0
     | 5 => a1 == 0 && a2 == 0
     | 6 => decide (a0 ≤ 16383) && a1 == 0 && a2 == 0
     | 7 => decide (a0 ≤ 4095) && decide (a1 ≤ 1) && decide (a2 ≤ 10000)
     | _ => a1 == 0 && a2 == 0 && decide (a0 ≤ 12287))))

/-- Whether edge bytes are well formed by themselves (R273). -/
def edgeBytesOk (b : List Byte) : Bool :=
  b.length == 8 && (let g := signed 32 (wordAt b 4); decide (-8388608 ≤ g ∧ g ≤ 8388607))

/-- Whether destination bytes are well formed (R275). -/
def destBytesOk (b : List Byte) : Bool :=
  b.length == 12 && byteAt b 5 == 0 && wordAt b 8 == 0 && decide (byteAt b 4 ≤ 48) &&
  (let t := signed 16 (halfAt b 2); decide (-4000 ≤ t ∧ t ≤ 0)) && decide (1 ≤ halfAt b 6 ∧ halfAt b 6 ≤ 5000) &&
  (halfAt b 0 == 0xFFFF || (decide (halfAt b 0 / 256 ≤ 127) && decide (1 ≤ halfAt b 0 % 256 ∧ halfAt b 0 % 256 ≤ 128)))

/-- A node of a list by number. -/
def findNode (l : List GNode) (n : Nat) : Option GNode := l.find? (fun x => x.n == n)

/-- Whether a kind is an input node. -/
def kindInput (k : Nat) : Bool := k == 1 || k == 2

/-- Edges that enter a node, in edge order. -/
def edgesIn (es : List GEdge) (n : Nat) : List GEdge := es.filter (fun e => e.dst == n)

/-- Whether a node has exactly the edges of Table 9-2. -/
def nodeEdgesOk (es : List GEdge) (x : GNode) : Bool :=
  let i := (edgesIn es x.n).length
  let o := (es.filter (fun e => e.src == x.n)).length
  (match x.kind with
   | 1 => i == 0 | 2 => i == 0 | 3 => decide (1 ≤ i ∧ i ≤ 64) | _ => i == 1) &&
  (if x.kind = 7 ∨ x.kind = 8 then o == 0 else decide (1 ≤ o))

/-- Nodes in an order in which every edge goes forward, the lowest-numbered ready node first; `fuel` bounds the length. -/
def topoFrom (es : List GEdge) : Nat → List GNode → List GNode → List GNode
  | 0, _, done => done
  | fuel + 1, rest, done =>
    match rest.find? (fun x => (edgesIn es x.n).all (fun e => done.any (fun y => y.n == e.src))) with
    | none => done
    | some x => topoFrom es fuel (rest.filter (fun y => y.n != x.n)) (done ++ [x])

/-- The nodes in running order; shorter than the graph exactly when it has a cycle. -/
def topo (ns : List GNode) (es : List GEdge) : List GNode := topoFrom es ns.length ns []

/-- One pass of spreading the lowest node number of a component along edges between nodes that are no input nodes. -/
def spread (ns : List GNode) (es : List GEdge) (c : Tbl Nat) : Tbl Nat :=
  es.foldl (fun t e =>
    match findNode ns e.src, findNode ns e.dst with
    | some a, some b =>
      if kindInput a.kind then t
      else
        let m := min (tget id t a.n) (tget id t b.n)
        tput (tput t a.n m) b.n m
    | _, _ => t) c

/-- The component of every node that is no input node: its lowest node number (R281). -/
def components (ns : List GNode) (es : List GEdge) : Tbl Nat :=
  (List.range ns.length).foldl (fun t _ => spread ns es t) []

/-- The rate of an input node or of a DEST's target, in kHz; none where the device does not know it (R274). -/
def State.endRate (s : State) (x : GNode) : Option Nat :=
  match x.kind with
  | 1 => if sidGen x.a0 then some 48 else if s.sidLocal x.a0 then some (s.num (O.slotAudioRate (sidSlot x.a0)))
         else (s.heldFor x.a0).map (fun p => p.2.fs / 1000)
  | 2 => some (s.num (O.outAudioRate (x.a0 / 256)))
  | 8 => (let t := (s.gDest x.a0).1; if t = 0xFFFF then none else some (s.num (O.outAudioRate (t / 256))))
  | _ => none

/-- Rates that a component's inputs and targets name. -/
def State.compRates (s : State) (ns : List GNode) (es : List GEdge) (comps : Tbl Nat) (c : Nat) : List Nat :=
  let own := ns.filter (fun x => !kindInput x.kind && tget id comps x.n == c)
  let feeds := (es.filter (fun e => own.any (fun y => y.n == e.dst))).filterMap (fun e =>
    (findNode ns e.src).bind (fun y => if kindInput y.kind then s.endRate y else none))
  feeds ++ own.filterMap (fun y => s.endRate y)

/-- Engines of the variant. -/
def State.engines (s : State) : Nat := variantEngines s.fuses.variant
/-- Destination slots of the variant (Table 9-1). -/
def destSlots : Variant → Nat | .t => 1536 | _ => 12288
/-- Biquad sections of the variant. -/
def biquadPool : Variant → Nat | .t => 256 | _ => 2048
/-- Meters of the variant. -/
def meterPool : Variant → Nat | .t => 512 | _ => 4096
/-- Exchange words of the variant. -/
def exchangePool : Variant → Nat | .t => 128 | _ => 1024

/-- Step budget of an engine (R270). -/
def State.stepBudget (s : State) (e : Nat) : Nat := if s.num (O.engRate e) = 96 then 2048 else 4096

/-- Steps of a node without its exchange stores (Table 9-4). -/
def nodeSteps (es : List GEdge) (x : GNode) : Nat :=
  match x.kind with
  | 3 => (edgesIn es x.n).length + 1 | 4 => 2 | 5 => x.count + 1 | 6 => 2 | 7 => 1 | 8 => 1 | _ => 0

/-- What a set of nodes on one engine needs: steps without END, input entries, sections, delay words, ramp registers; `where_`
gives a node's engine. -/
def needsOf (ns : List GNode) (es : List GEdge) (eng : Nat → Nat) (e : Nat) (own : List GNode) : Nat × Nat × Nat × Nat × Nat :=
  let cross := es.filter (fun d => own.any (fun x => x.n == d.src && !kindInput x.kind) && eng d.dst != e)
  let ins := sortNat ((es.filter (fun d => own.any (fun x => x.n == d.dst))).filterMap (fun d =>
    (findNode ns d.src).bind (fun y => if kindInput y.kind then some y.n else none)))
  ((own.map (nodeSteps es)).foldl (· + ·) 0 + cross.length, ins.length,
   ((own.filter (fun x => x.kind == 5)).map (fun x => x.count)).foldl (· + ·) 0,
   ((own.filter (fun x => x.kind == 6)).map (fun x => x.a0 + 1)).foldl (· + ·) 0,
   (own.filter (fun x => x.kind == 4 && x.a1 != 0)).length)

/-- Whether needs fit an engine. -/
def needsFit (budget : Nat) (v : Nat × Nat × Nat × Nat × Nat) : Bool :=
  decide (v.1 + 1 ≤ budget) && decide (v.2.1 ≤ 1024) && decide (v.2.2.1 ≤ 128) && decide (v.2.2.2.1 ≤ 16384) &&
  decide (v.2.2.2.2 ≤ 256)

/-- Placement of every node that is no input node (R281); a component that fits nowhere is left out. A component with pinned
nodes runs its other nodes on the engine of its lowest-numbered pinned node. -/
def State.placeAll (s pre : State) (ns : List GNode) (es : List GEdge) (comps : Tbl Nat) : Tbl Nat :=
  let nodes := ns.filter (fun x => !kindInput x.kind)
  let cs := sortNat (nodes.map (fun x => tget id comps x.n))
  let members (c : Nat) : List GNode := nodes.filter (fun x => tget id comps x.n == c)
  let same (c : Nat) : Bool :=
    (members c).all (fun x => decide (pre.obj (O.node x.n) = s.obj (O.node x.n))) &&
    (es.filter (fun e => (members c).any (fun x => x.n == e.dst))).all (fun e => decide (pre.obj (O.edge e.x) = s.obj (O.edge e.x))) &&
    (pre.gEdges.filter (fun e => (members c).any (fun x => x.n == e.dst || x.n == e.src))).all
      (fun e => decide (pre.obj (O.edge e.x) = s.obj (O.edge e.x)))
  let old (n : Nat) : Option Nat := (s.str.act.place.find? (fun p => p.node == n)).map (fun p => p.eng)
  let fixed := cs.foldl (fun (t : Tbl Nat) c =>
    let pins := (members c).filter (fun x => x.eng != 0xFF)
    match pins.head? with
    | some p => (members c).foldl (fun t x => tput t x.n (if x.eng = 0xFF then p.eng else x.eng)) t
    | none =>
      if same c ∧ (members c).all (fun x => (old x.n).isSome) then
        (members c).foldl (fun t x => tput t x.n ((old x.n).getD 0)) t
      else t) []
  cs.foldl (fun (t : Tbl Nat) c =>
    if (members c).all (fun x => (tfind t x.n).isSome) then t
    else
      let rate := (s.compRates ns es comps c).headD 48
      let fits (e : Nat) : Bool :=
        let own := nodes.filter (fun x => tfind t x.n == some e) ++ members c
        let eng (n : Nat) : Nat := if (members c).any (fun x => x.n == n) then e else (tfind t n).getD e
        s.num (O.engRate e) == rate && s.num (O.engState e) != 2 && needsFit (s.stepBudget e) (needsOf ns es eng e own)
      match (List.range s.engines).find? fits with
      | some e => (members c).foldl (fun t x => tput t x.n e) t
      | none => t) fixed

/-- A graph with its placement. -/
structure Placed where
  nodes : List GNode
  edges : List GEdge
  order : List GNode
  eng : Tbl Nat
deriving DecidableEq, Repr

/-- The graph of a state, placed. -/
def State.placed (s pre : State) : Placed :=
  let ns := s.gNodes
  let es := s.gEdges
  ⟨ns, es, topo ns es, s.placeAll pre ns es (components ns es)⟩

/-- Two entries of a list are equal. -/
def hasRepeat (l : List Nat) : Bool := decide ((sortNat l).length ≠ l.length)

/-- Whether a SOURCE SID is refused (Table 9-3, 0x7803). -/
def State.sourceBad (s : State) (x : GNode) : Bool := !s.sidTakeable x.a0 1

/-- The checks of Table 9-3 that concern the graph, in the table's order: code, and the objects at fault. An engine, destination slot or
meter that the variant does not have (Table 9-1) is an absent resource (R270). -/
def State.graphIssue (s pre : State) : Option (Nat × List Nat) :=
  let g := s.placed pre
  let ns := g.nodes
  let es := g.edges
  let comps := components ns es
  let badE := es.filter (fun e => (findNode ns e.src).isNone || (findNode ns e.dst).isNone)
  let badN := ns.filter (fun x => !nodeEdgesOk es x)
  let unit := es.filter (fun e => e.gain != 1048576 && (findNode ns e.dst).any (fun y => y.kind != 3))
  let dests := ns.filter (fun x => x.kind == 8)
  let destNo := dests.map (fun x => x.a0)
  let targets := s.objs.filterMap (fun p =>
    if 0x7C00 ≤ keyIx p.1 ∧ keyIx p.1 ≤ 0x7C5F ∧ halfAt p.2.bytes 0 ≠ 0xFFFF then some (p.1, halfAt p.2.bytes 0) else none)
  let twice := targets.filter (fun q => targets.any (fun r => r.1 != q.1 && r.2 == q.2))
  let bad8 := dests.filter (fun x => let t := (s.gDest x.a0).1; t == 0xFFFF || s.outputKind (t / 256) == 0)
  let bad3 := ns.filter (fun x => (x.kind == 1 && s.sourceBad x) || (x.kind == 2 && s.outputKind (x.a0 / 256) == 0))
  let rateBad := ns.filter (fun x => !kindInput x.kind &&
    (let rs := s.compRates ns es comps (tget id comps x.n)
     rs.any (fun r => r != rs.headD r) ||
     (match tfind g.eng x.n with | some e => s.num (O.engRate e) != rs.headD (s.num (O.engRate e)) | none => false)))
  let pinBad := ns.filter (fun x => x.eng != 0xFF && s.num (O.engState x.eng) == 2)
  let absent := ns.filter (fun x => x.eng != 0xFF && decide (s.engines ≤ x.eng) ||
    x.kind == 8 && decide (destSlots s.fuses.variant ≤ x.a0) || x.kind == 7 && decide (meterPool s.fuses.variant ≤ x.a0))
  let own (e : Nat) : List GNode := ns.filter (fun x => tfind g.eng x.n == some e)
  let eng (n : Nat) : Nat := (tfind g.eng n).getD 0xFF
  let needs := (List.range s.engines).map (fun e => (e, needsOf ns es eng e (own e)))
  let past (f : Nat × (Nat × Nat × Nat × Nat × Nat) → Bool) : List Nat :=
    ((needs.filter f).flatMap (fun p => own p.1)).map (fun x => O.node x.n)
  let unplaced := ns.filter (fun x => !kindInput x.kind && (tfind g.eng x.n).isNone)
  let eqs := ns.filter (fun x => x.kind == 5)
  let eqBad := eqs.filter (fun x => decide (biquadPool s.fuses.variant < x.a0 + x.count) ||
    eqs.any (fun y => y.n != x.n && rangesMeet x.a0 x.count y.a0 y.count))
  let crossing := es.filter (fun e => (findNode ns e.src).any (fun y => !kindInput y.kind) && eng e.src != eng e.dst)
  let meters := ns.filter (fun x => x.kind == 7)
  let metBad := meters.filter (fun x => (x.a1 == 1 && decide (255 < x.a0)) ||
    meters.any (fun y => y.n != x.n && y.a0 == x.a0))
  let nk (l : List GNode) : List Nat := l.map (fun x => O.node x.n)
  let pick (c : Nat) (l : List Nat) : Option (Nat × List Nat) := if l.isEmpty then none else some (c, sortNat l)
  (pick 0x0001 (unit.map (fun e => O.edge e.x))).or <|
  (pick 0x0007 (nk absent)).or <|
  (pick 0x7802 (badE.map (fun e => O.edge e.x) ++ nk badN)).or <|
  (pick 0x7801 (nk (ns.filter (fun x => !g.order.any (fun y => y.n == x.n))))).or <|
  (pick 0x7803 (nk bad3)).or <|
  (pick 0x7804 (nk bad8 ++ (if hasRepeat destNo then nk dests else []) ++ twice.map Prod.fst)).or <|
  (pick 0x7809 (nk rateBad)).or <|
  (pick 0x780F (nk pinBad)).or <|
  (pick 0x7805 (nk unplaced ++ past (fun p => decide (s.stepBudget p.1 < p.2.1 + 1)))).or <|
  (pick 0x780A (past (fun p => decide (1024 < p.2.2.1)))).or <|
  (pick 0x7806 (nk eqBad ++ past (fun p => decide (128 < p.2.2.2.1)))).or <|
  (pick 0x7807 (past (fun p => decide (16384 < p.2.2.2.2.1)))).or <|
  (pick 0x780E (past (fun p => decide (256 < p.2.2.2.2.2)))).or <|
  (pick 0x780B (if crossing.length ≤ exchangePool s.fuses.variant then [] else crossing.map (fun e => O.edge e.x))).or <|
  (pick 0x7808 (nk metBad))

/-! ### Step programs (R280, R287) -/

/-- A step word (Table 9-6). -/
def stepWord (op acc xsrc x y p imm : Nat) : Nat :=
  op * 2 ^ 58 + acc * 2 ^ 56 + xsrc * 2 ^ 55 + x * 2 ^ 40 + y * 2 ^ 26 + p * 2 ^ 14 + imm

/-- What a compilation of one engine has allotted so far: steps, parameters, sections, data words by node, delay words, ramp
registers, placements. -/
structure Emit where
  prog : List Nat
  params : List Int
  coefs : List (List Int)
  d : Tbl Nat
  dly : Nat
  ramps : Nat
  place : List NodePl
deriving DecidableEq, Repr

/-- The five coefficients of a biquad object. -/
def State.coefs (s : State) (b : Nat) : List Int :=
  let v := s.bytes (O.biquad b)
  (List.range 5).map (fun i => signed 32 (wordAt v (4 * i)))

/-- The program of engine e (R280): nodes in running order, scratch words in that order, exchange words `ex` by edge. -/
def State.compileEng (s : State) (g : Placed) (ex : Tbl Nat) (e : Nat) : EngBank × List NodePl :=
  let own := g.order.filter (fun x => tfind g.eng x.n == some e)
  let ins := sortNat ((g.edges.filter (fun d => own.any (fun x => x.n == d.dst))).filterMap (fun d =>
    (findNode g.nodes d.src).bind (fun y => if kindInput y.kind then some y.n else none)))
  let entry (n : Nat) : StrIn := match findNode g.nodes n with
    | some x => if x.kind = 1 then .sid x.a0 else .pos (x.a0 / 256) (x.a0 % 256 - 1)
    | none => .sid 0
  let addr (m : Emit) (d : GEdge) : Nat :=
    match ins.idxOf? d.src with
    | some i => 0x2000 + i
    | none => match tfind ex d.x with
      | some w => 0x2400 + w
      | none => (tfind m.d d.src).getD 0
  let stores (m : Emit) (n : Nat) : Emit :=
    let w := m.d.length
    let out := (g.edges.filter (fun d => d.src == n)).filterMap (fun d => tfind ex d.x)
    { m with d := tput m.d n w,
             prog := m.prog ++ [stepWord 6 0 0 0 w 0 0] ++ out.map (fun x => stepWord 6 0 0 0 (0x2400 + x) 0 0) }
  let pl (m : Emit) (x : GNode) (res len : Nat) : Emit := { m with place := m.place ++ [⟨x.n, x.kind, e, res, len⟩] }
  let r := own.foldl (fun (m : Emit) x =>
    let is := edgesIn g.edges x.n
    let a := (is.head?.map (addr m)).getD 0
    let p := m.params.length
    match x.kind with
    | 3 =>
      let st := (is.zipIdx).map (fun q => stepWord (if q.2 = 0 then 2 else 3) 0 0 (addr m q.1) 0 (p + q.2) 0)
      stores (pl { m with prog := m.prog ++ st, params := m.params ++ is.map (fun d => d.gain) } x 0 0) x.n
    | 4 =>
      if x.a1 = 0 then
        stores (pl { m with prog := m.prog ++ [stepWord 2 0 0 a 0 p 0], params := m.params ++ [signed 32 x.a0] } x 0 0) x.n
      else
        stores (pl { m with prog := m.prog ++ [stepWord 9 0 0 a 0 p m.ramps], ramps := m.ramps + 1,
                            params := m.params ++ [signed 32 x.a0, (x.a1 : Int)] } x m.ramps 1) x.n
    | 5 =>
      let b := m.coefs.length
      let st := (List.range x.count).map (fun i => stepWord 7 0 (if i = 0 then 0 else 1) (if i = 0 then a else 0) 0 0 (b + i))
      stores (pl { m with prog := m.prog ++ st, coefs := m.coefs ++ (List.range x.count).map (fun i => s.coefs (x.a0 + i)) }
        x b x.count) x.n
    | 6 =>
      stores (pl { m with prog := m.prog ++ [stepWord 8 0 0 a 0 p 0], dly := m.dly + x.a0 + 1,
                          params := m.params ++ [((m.dly * 65536 + x.a0 + 1 : Nat) : Int), (x.a0 : Int)] } x m.dly (x.a0 + 1)) x.n
    | 7 => pl { m with prog := m.prog ++ [stepWord 10 0 0 a 0 0 x.a0] } x x.a0 0
    | 8 => pl { m with prog := m.prog ++ [stepWord 11 0 0 a 0 0 x.a0] } x x.a0 0
    | _ => m) ⟨[], [], [], [], 0, 0, []⟩
  (⟨if own.isEmpty then [] else r.prog ++ [stepWord 0x3F 0 0 0 0 0 0], r.params, r.coefs, ins.map entry⟩, r.place)

/-- The longest path from an input node to each node, in samples: exchange crossings and delays (R296). -/
def pathLens (g : Placed) : Tbl Nat :=
  g.order.foldl (fun (t : Tbl Nat) x =>
    let m := (edgesIn g.edges x.n).foldl (fun a d =>
      let cross := match findNode g.nodes d.src with
        | some y => if !kindInput y.kind && tfind g.eng d.src != tfind g.eng d.dst then 1 else 0
        | none => 0
      max a (tget (fun _ => 0) t d.src + cross)) 0
    tput t x.n (m + (if x.kind = 6 then x.a0 else 0))) []

/-- The destination map: a targeted position to its slot, for slots that a DEST node names (R276). -/
def State.destMap (s : State) (ds : List Nat) : Tbl Nat :=
  ds.foldl (fun (t : Tbl Nat) d =>
    let tg := (s.gDest d).1
    if tg = 0xFFFF then t else tput t (posKey (tg / 256) (tg % 256 - 1)) d) []

/-- The compiled set of the graph in a state (R279–R284). -/
def State.compile (s pre : State) : StrSet :=
  let g := s.placed pre
  let eng (n : Nat) : Option Nat := tfind g.eng n
  let crossing := g.edges.filter (fun e => (findNode g.nodes e.src).any (fun y => !kindInput y.kind) && eng e.src != eng e.dst)
  let ex : Tbl Nat := (crossing.zipIdx).foldl (fun (t : Tbl Nat) p => tput t p.1.x p.2) []
  let used := sortNat (g.eng.map Prod.snd)
  let out := used.map (fun e => (e, s.compileEng g ex e))
  let lens := pathLens g
  let dn := g.nodes.filter (fun x => x.kind == 8)
  { banks := out.map (fun p => (p.1, p.2.1)), place := out.flatMap (fun p => p.2.2),
    dmap := s.destMap (dn.map (fun x => x.a0)),
    lat := dn.foldl (fun (t : Tbl Nat) x => tput t x.a0 (1 + tget (fun _ => 0) lens x.n + (s.gDest x.a0).2.2.1)) [],
    dests := dn.map (fun x => (x.a0, (eng x.n).getD 0)),
    meters := (g.nodes.filter (fun x => x.kind == 7)).map (fun x => (x.a0, x.a1, x.a2)),
    words := crossing.zipIdx.map Prod.snd }

/-! ### Magisar images (R285, Table 9-5) -/

/-- Sections of an image: type, engine, data. -/
def imageSections : Nat → List Byte → List (Nat × Nat × List Byte)
  | 0, _ => []
  | fuel + 1, b =>
    if b.length < 8 then []
    else
      let n := wordAt b 4
      (halfAt b 0, byteAt b 2, (b.drop 8).take n) :: imageSections fuel (b.drop (8 + n))

/-- The sections of a whole image. -/
def imageParts (b : List Byte) : List (Nat × Nat × List Byte) := imageSections b.length (b.drop 20)

/-- Words of n bytes in network order. -/
def beWords (n : Nat) (b : List Byte) : List Nat :=
  (List.range (b.length / max 1 n)).map (fun i => ofBe ((b.drop (n * i)).take n))

/-- Whether a step uses a defined opcode and addresses (R288). -/
def stepOk (w : Nat) : Bool :=
  let op := fld w 63 58
  let x := fld w 53 40
  let y := fld w 39 26
  (decide (op ≤ 0x0C) || op == 0x3F) && !bitOf w 54 && decide (x < 0x2800) &&
  (if op = 6 then decide (y < 0x2000 ∨ (0x2400 ≤ y ∧ y < 0x2800)) else y == 0)

/-- Whether an image passes the checks of R285. -/
def State.imageOk (s : State) (b : List Byte) : Bool :=
  let rate := byteAt b 10
  let len := wordAt b 12
  decide (20 ≤ b.length) && wordAt b 0 == 0x5347494D && halfAt b 4 == 1 && len == b.length && byteAt b 11 == 0 &&
  wordAt b 16 == (crc32 (b.drop 20)).toNat && decide (halfAt b 6 ≤ s.compatActive) && (rate == 48 || rate == 96) &&
  (List.range 16).all (fun e => !bitOf (halfAt b 8) e || (decide (e < s.engines) && s.num (O.engRate e) == rate)) &&
  (imageParts b).all (fun p => p.1 != 1 || (beWords 8 p.2.2).all stepOk)

/-- The set an image installs; its nodes' places are not stated, so no node state is tied to it. -/
def State.imageSet (s : State) (b : List Byte) : StrSet :=
  let parts := imageParts b
  let data (e ty : Nat) : List Byte := (parts.filter (fun p => p.1 == ty && p.2.1 == e)).flatMap (fun p => p.2.2)
  let engs := (List.range 16).filter (fun e => bitOf (halfAt b 8) e)
  let ns := s.gNodes
  let dn := ns.filter (fun x => x.kind == 8)
  let map_ := (parts.filter (fun p => p.1 == 5)).flatMap (fun p => Config.imageMap p.2.2)
  { banks := engs.map (fun e => (e,
      ⟨beWords 8 (data e 1), (beWords 4 (data e 2)).map (fun w => signed 32 w),
       (List.range ((data e 3).length / 20)).map (fun i => (List.range 5).map (fun j => signed 32 (wordAt (data e 3) (20 * i + 4 * j)))),
       (Config.imageInputs (data e 4)).map (fun v => if v < 2 ^ 32 then .sid v else .pos ((v - 2 ^ 32) / 128 % 128) (v % 128))⟩)),
    place := [],
    dmap := map_.foldl (fun (t : Tbl Nat) p => tput t p.2 p.1) [],
    lat := dn.foldl (fun (t : Tbl Nat) x => tput t x.a0 (1 + (s.gDest x.a0).2.2.1)) [],
    dests := map_.map (fun p => (p.1, engs.headD 0)),
    meters := (ns.filter (fun x => x.kind == 7)).map (fun x => (x.a0, x.a1, x.a2)),
    words := List.range (exchangePool s.fuses.variant) }

/-- Whether an index holds structural objects of a graph: nodes, edges, destinations, biquads. -/
def ixGraph (ix : Nat) : Bool :=
  decide (0x7A00 ≤ ix ∧ ix ≤ 0x7A7F) || decide (0x7B00 ≤ ix ∧ ix ≤ 0x7BFF) || decide (0x7C00 ≤ ix ∧ ix ≤ 0x7C5F) ||
  decide (0x7E00 ≤ ix ∧ ix ≤ 0x7E0F)

/-- Whether a change of a graph object's bytes is a change of parameters only (R285). -/
def paramOnly (ix : Nat) (a b : List Byte) : Bool :=
  if 0x7A00 ≤ ix ∧ ix ≤ 0x7A7F then
    a.take 4 == b.take 4 &&
    (if byteAt b 1 = 4 then a.drop 12 == b.drop 12
     else if byteAt b 1 = 7 then (a.drop 4).take 8 == (b.drop 4).take 8 else a == b)
  else if 0x7B00 ≤ ix ∧ ix ≤ 0x7BFF then a.take 4 == b.take 4
  else if 0x7C00 ≤ ix ∧ ix ≤ 0x7C5F then a.take 2 == b.take 2
  else true

/-- The image in force with the parameters that changed since (R285). -/
def State.imageNow (s : State) : List Byte :=
  let b := s.bytes O.graphImage
  let own := (imageParts b).flatMap (fun p => if p.1 = 6 then Config.imageGraph p.2.2 else [])
  let diff := s.objs.filterMap (fun p =>
    if ixGraph (keyIx p.1) ∧ (own.find? (fun q => q.1 == p.1)).map Prod.snd ≠ some p.2.bytes then some (p.1, p.2.bytes) else none)
  Config.imageWith b diff

/-- The graph objects of a state whose image is new read the image's graph section (R285). -/
def State.loadGraph (s pre : State) : State :=
  if s.num O.graphGraphSource = 1 ∧ (pre.num O.graphGraphSource ≠ 1 ∨ pre.bytes O.graphImage ≠ s.bytes O.graphImage) then
    let clear := (s.objs.filter (fun p => ixGraph (keyIx p.1))).foldl (fun (x : State) p => x.setObj p.1 (objDefault x.fuses p.1)) s
    ((imageParts (s.bytes O.graphImage)).flatMap (fun p => if p.1 = 6 then Config.imageGraph p.2.2 else [])).foldl
      (fun (x : State) q => if ixGraph (keyIx q.1) then x.setBytes q.1 q.2 else x) clear
  else s

/-- The set that a state's objects call for. -/
def State.strTarget (s pre : State) : StrSet :=
  if s.num O.graphGraphSource = 1 then s.imageSet s.imageNow else s.compile pre

/-- The programs of an image against their engines (R270, R281, Table 9-3): steps, input entries and sections. DESIGN CHOICE (log entry 199):
they are refused as a graph's are, after the checks of the graph section. -/
def State.imageNeeds (s : State) (b : List Byte) : Option (Nat × List Nat) :=
  let banks := (s.imageSet b).banks
  if banks.any (fun p => decide (s.stepBudget p.1 < p.2.prog.length)) then some (0x7805, [O.graphImage])
  else if banks.any (fun p => decide (1024 < p.2.inputs.length)) then some (0x780A, [O.graphImage])
  else if banks.any (fun p => decide (128 < p.2.coefs.length)) then some (0x7806, [O.graphImage])
  else none

/-- The hurdle of area 0x7800 (Table 9-3): code and offending objects; `keys` are the staged objects. -/
def area78Issue (pre post : State) (keys : List Nat) : Option (Nat × List Nat) :=
  let structural := keys.filter (fun k => ixGraph (keyIx k) && !paramOnly (keyIx k) (pre.bytes k) (post.bytes k))
  let img := post.bytes O.graphImage
  if post.num O.graphGraphSource = 1 then
    if structural.isEmpty then
      if post.imageOk img then
        (match (post.loadGraph pre).graphIssue pre with
         | some c => some c
         | none => post.imageNeeds img)
      else some (0x780C, [O.graphImage])
    else some (0x780D, structural)
  else post.graphIssue pre

end Sys2Proof.Machine
end

