-- ==== Sys2Proof/Machine/Stride.lean ====
section
/-! DEFINITION. Stride engines running (R270–R298): steps, limiters, meters, safe-load, the fast path, memory errors and
self-check. -/

namespace Sys2Proof.Machine

/-- STRIDE_EVT_e. -/
def rStrEvt (e : Nat) : Nat := 0x40F004 + 0x10 * e
/-- STRIDE_FAST_STATUS. -/
def rFastStatus : Nat := 0x40F404
/-- METER_m. -/
def rMeter (m : Nat) : Nat := 0x410000 + 4 * m

/-- Running memories of engine e. -/
def State.eng (s : State) (e : Nat) : EngRun := tget engZero s.str.runs e
/-- Stores the running memories of engine e. -/
def State.setEng (s : State) (e : Nat) (r : EngRun) : State :=
  { s with str := { s.str with runs := tset engZero s.str.runs e r } }

/-! ### Steps (R286–R289) -/

/-- A zero word. -/
def intZero : Nat → Int := fun _ => 0
/-- A section at zero state. -/
def bqZero : Nat → Int × Int × Int × Int := fun _ => (0, 0, 0, 0)

/-- An engine in the course of one period: memories, latched inputs, exchange words written, what fed the meters and the
limiters, and whether END was reached. -/
structure Period where
  r : EngRun
  ex : List (Nat × Int)
  mets : List (Nat × Int)
  outs : List (Nat × Int)
  ended : Bool
deriving DecidableEq, Repr

/-- The word at an operand address (Table 9-7): exchange words as the previous period left them. -/
def Period.operand (p : Period) (ins : List Int) (ex : Tbl Int) (a : Nat) : Int :=
  if a < 0x2000 then tget intZero p.r.d a
  else if a < 0x2400 then ins.getD (a - 0x2000) 0
  else if a < 0x2800 then tget intZero ex (a - 0x2400)
  else 0

/-- A register ramp moved on by one sample towards P[p] over P[p + 1] samples (R288, R289): the gain as a numerator over a
denominator, and the register. -/
def rampStep (r : Option RampReg) (target : Int) (n : Nat) : Int × Nat × RampReg :=
  let cur (x : RampReg) : Int := if x.k ≥ x.n then x.target else roundDiv (x.start * ((x.n - x.k : Nat) : Int) + x.target * (x.k : Int)) x.n
  let x := match r with
    | none => (⟨target, target, 0, 0⟩ : RampReg)
    | some x => if x.target = target then x else (⟨cur x, target, n, 0⟩ : RampReg)
  let k := if x.k < x.n then x.k + 1 else x.k
  if x.n ≤ k then (target, 1, ⟨target, target, 0, 0⟩)
  else (x.start * ((x.n - k : Nat) : Int) + x.target * (k : Int), x.n, { x with k := k })

/-- One step (Table 9-8). -/
def Period.step (b : EngBank) (ins : List Int) (ex : Tbl Int) (p : Period) (w : Nat) : Period :=
  if p.ended then p
  else
    let op := fld w 63 58
    let ac := fld w 57 56
    let x := p.operand ins ex (fld w 53 40)
    let acc := tget intZero p.r.acc ac
    let pi := fld w 25 14
    let imm := fld w 13 0
    let par (i : Nat) : Int := b.params.getD (pi + i) 0
    let setA (v : Int) : Period := { p with r := { p.r with acc := tset intZero p.r.acc ac v } }
    if op = 0x01 then setA (accSat (x * 256))
    else if op = 0x02 then setA (accSat (roundDiv (x * par 0) 4096))
    else if op = 0x03 then setA (accSat (roundDiv (acc * 4096 + x * par 0) 4096))
    else if op = 0x04 then setA (accSat (acc + x * 256))
    else if op = 0x05 then setA (accSat (acc - x * 256))
    else if op = 0x06 then
      (let y := fld w 39 26
       let v := accStore acc
       if y < 0x2000 then { p with r := { p.r with d := tset intZero p.r.d y v } }
       else if 0x2400 ≤ y ∧ y < 0x2800 then { p with ex := p.ex ++ [(y - 0x2400, v)] } else p)
    else if op = 0x07 then
      (let xi := if bitOf w 55 then accStore acc else x
       let c := b.coefs.getD imm [0x10000000, 0, 0, 0, 0]
       let (x1, x2, y1, y2) := tget bqZero p.r.bq imm
       let y := accSat (roundDiv ((c.getD 0 0 * xi + c.getD 1 0 * x1 + c.getD 2 0 * x2) * 256 - c.getD 3 0 * y1 - c.getD 4 0 * y2) (2 ^ 28))
       let q := setA y
       { q with r := { q.r with bq := tset bqZero q.r.bq imm (xi, x1, y, y1) } })
    else if op = 0x08 then
      (let desc := (par 0).toNat
       let base := fld desc 29 16
       let len := max 1 (fld desc 14 0)
       let d := (par 1).toNat
       let mem := tset intZero p.r.dly (base + p.r.count % len) x
       let q := setA (accSat (tget intZero mem (base + (p.r.count + len - d % len) % len) * 256))
       { q with r := { q.r with dly := mem } })
    else if op = 0x09 then
      (let (num, den, reg) := rampStep (tfind p.r.ramp imm) (par 0) (par 1).toNat
       let q := setA (accSat (roundDiv (x * num) (4096 * den)))
       { q with r := { q.r with ramp := tput q.r.ramp imm reg } })
    else if op = 0x0A then { p with mets := p.mets ++ [(imm, x)] }
    else if op = 0x0B then { p with outs := p.outs ++ [(imm, x)] }
    else if op = 0x0C then setA 0
    else if op = 0x3F then { p with ended := true }
    else p

/-! ### Inputs (R277, R278) -/

/-- Sample of a SOURCE input at house sample t. -/
def State.sourceIn (s : State) (sid khz t : Nat) : Option Nat :=
  let c := s.chan (s.chanKey sid)
  if sidGen sid then s.chanAt sid t
  else if c.byLine then
    let f := if s.sidLocal sid then s.slotRaster (sidSlot sid) else ((s.heldFor sid).map (fun p => p.2.fmt)).getD 0
    s.chanAt sid (t - linesPt f (2 + s.lag + s.remoteBit sid) 1 * (khz * 1000) / (1000000000 * ptNs))
  else s.chanAt sid (t + 2)

/-- Inputs latched by engine e at house sample t. -/
def State.latch (s : State) (e khz t : Nat) (l : List StrIn) : List Int × State :=
  (l.zipIdx).foldl (fun (a : List Int × State) q =>
    let r := a.2.eng e
    match q.1 with
    | .sid x =>
      let v := match a.2.sourceIn x khz t with
        | some v => sampInt v
        | none => tget intZero r.lastIn q.2
      (a.1 ++ [v], a.2.setEng e { r with lastIn := tset intZero r.lastIn q.2 v })
    | .pos o p =>
      let lab := t - a.2.posShift o (a.2.outGrid o)
      let k := gridFrame (a.2.outRaster o % 256) (samplePt (khz * 1000) lab)
      let (v, s1) := a.2.takenOnce o k p lab
      let key := posKey o p
      let have_ := tget (fun _ => []) s1.str.ahead key
      let s2 := if have_.any (fun z => z.1 == lab) then s1
        else { s1 with str := { s1.str with ahead := tput s1.str.ahead key (((lab, v) :: have_).take 256) } }
      (a.1 ++ [sampInt v], s2)) ([], s)

/-! ### Limiters and meters (R290, R291, R297) -/

/-- Samples of the ramp of R297. -/
def reloadRamp (khz : Nat) : Nat := 2 * khz

/-- A limiter takes its input of house sample t (R290). -/
def State.limit (s : State) (khz t d : Nat) (x : Int) : State :=
  let st := tget destZero s.str.dests d
  let (_, thr, la, rel) := s.gDest d
  let buf := (x :: st.buf).take 49
  let tq := limT thr
  let win := ((buf ++ List.replicate 49 0).take (la + 1)).reverse
  let y := win.headD 0
  let rs := win.map (limR tq)
  let g := min (limAttack rs) (limRelease st.g rel (khz * 1000))
  let v := satBits 24 (roundDiv (y * g) q60)
  let n := reloadRamp khz
  let v' := match st.ramp with
    | some (true, t0) => if t - t0 < n then roundDiv (v * ((n - (t - t0) : Nat) : Int)) n else 0
    | some (false, t0) => if t - t0 < n then roundDiv (v * ((t - t0 : Nat) : Int)) n else v
    | none => v
  let ramp := match st.ramp with
    | some (false, t0) => if t - t0 < n then st.ramp else none
    | r => r
  let st' : DestSt := ⟨buf, g, ((t + 1, twos 24 v') :: st.hist).take 512, ramp⟩
  { s with str := { s.str with dests := tset destZero s.str.dests d st' } }

/-- A meter takes a sample (R291). -/
def State.feedMeter (s : State) (khz m : Nat) (x : Int) : State :=
  let st := tget meterZero s.str.meters m
  let mode := ((s.str.act.meters.find? (fun (q : Nat × Nat × Nat) => q.1 == m)).map (fun (q : Nat × Nat × Nat) => q.2.1)).getD 0
  let recent := if mode = 1 then (x :: st.recent).take 12 else []
  let mag := if mode = 1 then Config.truePeak khz recent else x.natAbs
  { s with str := { s.str with meters := tset meterZero s.str.meters m { st with win := max st.win mag, recent := recent } } }

/-! ### Swaps (R292, R293) -/

/-- A delay line moved to another place and length, by the age of its words. -/
def moveDelay (old : Tbl Int) (count b0 l0 b1 l1 : Nat) (new : Tbl Int) : Tbl Int :=
  (List.range (min l0 l1)).foldl (fun t a =>
    tset intZero t (b1 + (count + l1 * l0 - (a + 1)) % l1) (tget intZero old (b0 + (count + l1 * l0 - (a + 1)) % l0))) new

/-- The running memories of engine e under a new set: what surviving nodes keep (R293). -/
def keepRun (old new : StrSet) (e : Nat) (r : EngRun) : EngRun :=
  let ob := tfind old.banks e
  let nb := tfind new.banks e
  let z := { EngRun.zero with
             count := r.count,
             lastIn := (((nb.map (fun b => b.inputs)).getD []).zipIdx).foldl (fun (t : Tbl Int) q =>
               match ((ob.map (fun b => b.inputs)).getD []).idxOf? q.1 with
               | some i => tset intZero t q.2 (tget intZero r.lastIn i)
               | none => t) [] }
  (new.place.filter (fun p => p.eng == e)).foldl (fun (x : EngRun) p =>
    match old.place.find? (fun q => q.node == p.node && q.kind == p.kind && q.eng == e) with
    | none => x
    | some q =>
      match p.kind with
      | 4 => if p.len = 1 ∧ q.len = 1 then
          (match tfind r.ramp q.res with | some v => { x with ramp := tput x.ramp p.res v } | none => x) else x
      | 5 => { x with bq := (List.range (min p.len q.len)).foldl (fun t i => tset bqZero t (p.res + i) (tget bqZero r.bq (q.res + i))) x.bq }
      | 6 => { x with dly := moveDelay r.dly r.count q.res q.len p.res p.len x.dly }
      | _ => x) z

/-- Whether an image runs under both sets: its programs tie no state to nodes, so a swap keeps the engines' memories. -/
def bothImages (old new : StrSet) : Bool :=
  old.place.isEmpty && new.place.isEmpty && decide (old.banks.map (fun b => b.2.prog) = new.banks.map (fun b => b.2.prog))

/-- ENGINE status objects of a set (Table 9-9). -/
def State.engObjs (s : State) : State :=
  let st := s.str.act
  let s1 := (List.range s.engines).foldl (fun (x : State) e =>
    let b := (tfind st.banks e).getD ⟨[], [], [], []⟩
    let d := ((st.place.filter (fun p => p.eng == e && p.kind == 6)).map (fun p => p.len)).foldl (· + ·) 0
    let y := (((x.setNum (O.engStepsUsed e) b.prog.length).setNum (O.engInputsUsed e) b.inputs.length).setNum
      (O.engSectionsUsed e) b.coefs.length).setNum (O.engDelayUsed e) d
    let stt := y.num (O.engState e)
    if stt = 2 ∨ stt = 3 then y else y.setNum (O.engState e) (if b.prog.isEmpty then 0 else 1)) s
  (s1.setNum O.graphStepsTotal ((st.banks.map (fun b => b.2.prog.length)).foldl (· + ·) 0)).setNum O.graphProgramCrc
    (Config.bankCrc (st.banks.map (fun b => (b.1, b.2.prog, b.2.params, b.2.coefs, b.2.inputs.map StrIn.word))) st.dmap % 2 ^ 32)

/-- The swap itself: every changed engine makes its shadow banks active (R292, R293). -/
def State.swapNow (s : State) (new : StrSet) (n : Nat) (engs : List Nat) : State :=
  let old := s.str.act
  let runs := if bothImages old new then s.str.runs
    else engs.foldl (fun (t : Tbl EngRun) e => tset engZero t e (keepRun old new e (s.eng e))) s.str.runs
  let moved := new.place.filterMap (fun p =>
    (old.place.find? (fun q => q.node == p.node)).bind (fun q =>
      if q.eng ≠ p.eng then some (p.node, 1) else if q.kind ≠ p.kind then some (p.node, 2) else none))
  let sameDest (d : Nat) : Bool :=
    match new.place.find? (fun p => p.kind == 8 && p.res == d), old.place.find? (fun p => p.kind == 8 && p.res == d) with
    | some p, some q => p.node == q.node && p.eng == q.eng
    | _, _ => bothImages old new
  let sameMeter (m : Nat) : Bool :=
    match new.place.find? (fun p => p.kind == 7 && p.res == m), old.place.find? (fun p => p.kind == 7 && p.res == m) with
    | some p, some q => p.node == q.node && p.eng == q.eng
    | _, _ => bothImages old new
  let gen := (s.num O.graphGeneration + 1) % 2 ^ 32
  let s1 := { s with str := { s.str with
      act := new, next := none, runs := runs,
      ex := s.str.ex.filter (fun p => old.words.contains p.1),
      dests := s.str.dests.filter (fun p => sameDest p.1),
      meters := s.str.meters.filter (fun p => sameMeter p.1),
      gens := engs.foldl (fun (t : Tbl Nat) e => tset zeroNat t e gen) s.str.gens } }
  let s2 := ((s1.setNum O.graphGeneration gen).setNum O.graphLastSwap (n / 2 ^ 32 % 2 ^ 96)).engObjs
  let s3 := engs.foldl (fun (x : State) e => x.setBit (rStrEvt e) 0) s2
  let s4 := s3.raise 0x7801 (p32 gen ++ p16 ((engs.map (fun e => 2 ^ e)).foldl (· + ·) 0) ++ p96 (n / 2 ^ 32 % 2 ^ 96))
  let s5 := moved.foldl (fun (x : State) p => x.raise 0x7802 (p16 p.1 ++ p8 p.2)) s4
  s5.settleKind 2

/-- The set the objects call for is written into the shadow banks; it becomes active at the first house sample at least 1 ms
later (R292). Answers whether anything changes. -/
def State.loadSet (s pre : State) : Bool × State :=
  let new := s.strTarget pre
  let old := s.str.act
  let engs := (List.range s.engines).filter (fun e => decide (tfind old.banks e ≠ tfind new.banks e) ||
    decide (old.place.filter (fun p => p.eng == e) ≠ new.place.filter (fun p => p.eng == e)))
  let fs := if engs.any (fun e => s.num (O.engRate e) == 96) && !engs.any (fun e => s.num (O.engRate e) == 48) then 96000 else 48000
  let n := samplePt fs (sampleAt fs (s.tm.pt + 1000000 * ptNs))
  if new = old then (false, s) else (true, { s with str := { s.str with next := some (new, n, engs) } })

/-! ### Periods (R270, R288, R296) -/

/-- One engine's program for house sample t. -/
def State.runEngine (s : State) (e khz t : Nat) (b : EngBank) : Period × State :=
  let (ins, s1) := s.latch e khz t b.inputs
  let p := b.prog.foldl (Period.step b ins s1.str.ex) ⟨s1.eng e, [], [], [], false⟩
  (p, s1.setEng e { p.r with count := p.r.count + 1 })

/-- METER_UPDATE (R291): every 10 ms. -/
def execMeterUpdate (at_ : Nat) (s0 : State) : Res :=
  let s := s0.toTick at_
  if s.now < s.str.metered + 10 * tickMs then .next s
  else
    let s1 := s.str.act.meters.foldl (fun (x : State) q =>
      let m := q.1
      let st := tget meterZero x.str.meters m
      let peak := levelCode st.win
      let keep := decide (peak < st.hold) && decide (x.now < st.since + q.2.2 * tickMs)
      let st' := { st with win := 0, peak := peak, hold := if keep then st.hold else peak, since := if keep then st.since else x.now }
      let y := { x with str := { x.str with meters := tset meterZero x.str.meters m st' } }
      let reg := y.reg (rMeter m)
      (y.setNum (O.meterValue m) (peak * 65536 + st'.hold)).setReg (rMeter m) (max (reg / 65536) peak * 65536 + st'.hold)) s
    let s2 := s1.str.act.dests.foldl (fun (x : State) q =>
      let g := (tget destZero x.str.dests q.1).g
      x.setNum (O.destStatus q.1) (min 0xFFFF (tget zeroNat x.str.act.lat q.1) * 65536 + attDb g q60)) s1
    .next { s2 with str := { s2.str with metered := s2.now } }

/-! ### The fast path (R295) -/

/-- Whether a fast-path entry names something it can set. -/
def State.fastOk (s : State) (en : Nat × Nat × Nat) : Bool :=
  let (kind, ix, _) := en
  let ns := s.gNodes
  if kind = 1 then s.gEdges.any (fun e => e.x == ix && ns.any (fun y => y.n == e.dst && y.kind == 3))
  else if kind = 2 then ns.any (fun y => y.n == ix && y.kind == 4)
  else if kind = 3 then ns.any (fun y => y.kind == 8 && y.a0 == ix)
  else false

/-- A byte string with bytes from `i` on replaced. -/
def patch (b : List Byte) (i : Nat) (v : List Byte) : List Byte := b.take i ++ v ++ b.drop (i + v.length)

/-- A fast-path entry becomes the running value of its object. -/
def State.fastSet (s : State) (en : Nat × Nat × Nat) : State :=
  let (kind, ix, v) := en
  if kind = 1 then s.setBytes (O.edge ix) (patch (s.bytes (O.edge ix)) 4 (beBytes 4 v))
  else if kind = 2 then s.setBytes (O.node ix) (patch (s.bytes (O.node ix)) 4 (beBytes 4 v))
  else s.setBytes (O.dest ix) (patch (s.bytes (O.dest ix)) 2 (beBytes 2 v))

/-- A fast-path commit is refused whole: REFUSED and event 0x7804 (R295). -/
def State.fastRefuse (s : State) (cause : Nat) : State := (s.setBit rFastStatus 29).raise 0x7804 (p8 cause)

/-- Entries wait for the second house sample after now. -/
def State.fastHold (s : State) (l : List (Nat × Nat × Nat)) (apply : Nat) : State :=
  { s with str := { s.str with fast := some (l, apply) } }

/-- STRIDE_FAST_COMMIT (R295, R299): the word written to STRIDE_FAST_CTRL. A commit of no entries, of more than 256, or while
BUSY is discarded. Before
phase 5 it is refused (R491), with a cause the spec does not give. A twin's holder mirrors the entries with their apply sample (R376). -/
def State.fastCommit (s : State) (w : Nat) : State :=
  let n := fld w 8 0
  if !bitOf w 31 ∨ n = 0 ∨ 256 < n ∨ s.str.fast.isSome then s
  else if s.num O.startStartPhase < 5 then (let (f, s1) := s.freeNat; s1.fastRefuse (f % 256))
  else if s.flt.safe then s.fastRefuse 2
  else if s.twinRefuses then s.fastRefuse 1
  else
    let l := (List.range n).map (fun i =>
      let w0 := s.reg (0x40F800 + 8 * i)
      (fld w0 31 30, fld w0 14 0, s.reg (0x40F804 + 8 * i)))
    let apply := samplePt 48000 (s.tm.pt * 48000 / (1000000000 * ptNs) + 2)
    (s.fastHold l apply).mirror 5 (beBytes 12 (apply / 2 ^ 32 % 2 ^ 96) ++
      l.flatMap (fun e => beBytes 4 (e.1 * 2 ^ 30 + e.2.1) ++ beBytes 4 e.2.2))

/-- STRIDE_FAST_COMMIT. -/
def execStrideFastCommit (w : Word) (s : State) : Res := .next (if s.winOpen 0x40F400 then s.fastCommit w.toNat else s)

/-- The parameters of running engines follow the objects at once, under the swap rule (R292, R295). -/
def State.reparam (s : State) : State :=
  let new := s.strTarget s
  { s with str := { s.str with act := { s.str.act with banks := s.str.act.banks.map (fun b =>
      match tfind new.banks b.1 with
      | some nb => if nb.prog = b.2.prog then (b.1, { b.2 with params := nb.params, coefs := nb.coefs }) else b
      | none => b) } } }

/-- The entries of a fast-path commit take effect (R295). -/
def State.fastApply (s : State) (l : List (Nat × Nat × Nat)) : State :=
  let good := l.filter (fun e => s.fastOk e)
  let drop := l.length - good.length
  let s1 := ((good.foldl (fun (x : State) e => x.fastSet e) s).noteSince s).reparam
  let s2 := { s1 with str := { s1.str with fast := none, dropped := drop } }
  (s2.setBit rFastStatus 30).raise 0x7803 (p16 l.length ++ p16 drop)

/-- STRIDE_FAST_APPLY (R295): during a dictionary swap a commit waits for the new set. -/
def execStrideFastApply (at_ : Nat) (s0 : State) : Res :=
  let s := s0.toTick at_
  match s.str.fast with
  | none => .next s
  | some (l, t) => if s.str.next.isSome || !s.timeFor t then .next s else .next (s.fastApply l)

/-! ### Memory errors and self-check (R297, R298) -/

/-- Destinations whose DEST node runs on engine e begin a ramp (R297). -/
def State.rampDests (s : State) (e : Nat) (down : Bool) : State :=
  let khz := s.num (O.engRate e)
  let t := sampleAt (khz * 1000) s.tm.pt
  (s.str.act.dests.filter (fun q => q.2 == e)).foldl (fun (x : State) q =>
    let st : DestSt := { (tget destZero x.str.dests q.1) with ramp := some (down, t) }
    { x with str := { x.str with dests := tset destZero x.str.dests q.1 st } }) s

/-- STRIDE_UNCORRECTABLE (R297): in a bank, the engine is reloaded; in D or delay memory the word reads 0 and is counted. -/
def execStrideUncorrectable (e : Fin 16) (bank : Fin 7) (word : BitVec 14) (at_ : Nat) (s0 : State) : Res :=
  let s := s0.toTick at_
  if s.engines ≤ e.val then .next s
  else if bank.val = 5 then
    .next ((s.setEng e { s.eng e with d := tdel (s.eng e).d word.toNat }).bump (O.engCeCount e))
  else if bank.val = 6 then
    .next ((s.setEng e { s.eng e with dly := tdel (s.eng e).dly word.toNat }).bump (O.engCeCount e))
  else if s.num (O.engState e) ≠ 1 then .next s
  else
    let s1 := ((s.rampDests e true).setNum (O.engState e) 3).report 192 0x7805
    .next { s1 with str := { s1.str with checkAt := tput s1.str.checkAt e bank.val } }

/-- ENGINE_RELOAD_DONE (R297): nodes restart from zero state and the destinations ramp back up. -/
def execEngineReloadDone (e : Fin 16) (at_ : Nat) (s0 : State) : Res :=
  let s := s0.toTick at_
  if s.num (O.engState e) ≠ 3 then .next s
  else
    let bank := tget zeroNat s.str.checkAt e
    let s1 := ((s.setEng e EngRun.zero).setNum (O.engState e) 1).bump (O.engReloads e)
    let mine := s1.str.act.place.filter (fun p => p.eng == e.val)
    let s2 := { s1 with str := { s1.str with
      dests := s1.str.dests.filter (fun p => !mine.any (fun q => q.kind == 8 && q.res == p.1)),
      meters := s1.str.meters.filter (fun p => !mine.any (fun q => q.kind == 7 && q.res == p.1)),
      checkAt := tdel s1.str.checkAt e } }
    let s3 := (((s2.rampDests e false).setBit (rStrEvt e) 1).raise 0x7805 (p8 e ++ p8 bank))
    .next (mine.foldl (fun (x : State) p => x.raise 0x7802 (p16 p.node ++ p8 3)) s3)

/-- A write of SELF_CHECK (R298): 0 accepted, else the code that refuses it. -/
def State.selfCheckWrite (s : State) (e v : Nat) : Nat × State :=
  if v = 0 then (0, s)
  else if s.num (O.engState e) ≠ 0 then (0x780F, s)
  else (0, { (s.setNum (O.engState e) 2) with str := { s.str with checkAt := tput s.str.checkAt e s.now } })

/-- SELF_CHECK_DONE (R298): 20 ms after it began. -/
def execSelfCheckDone (e : Fin 16) (pass : Bool) (at_ : Nat) (s0 : State) : Res :=
  let s := s0.toTick at_
  if s.num (O.engState e) ≠ 2 ∨ s.now < tget zeroNat s.str.checkAt e + 20 * tickMs then .next s
  else
    let s1 := { s with str := { s.str with checkAt := tdel s.str.checkAt e } }
    let r := if pass then 1 else 2
    .next ((((s1.setNum (O.engState e) 0).setNum (O.engSelfCheckResult e) r).setBit (rStrEvt e) 2).raise 0x7806 (p8 e ++ p8 r))

end Sys2Proof.Machine
end

