-- ==== Sys2Proof/Machine/Pool.lean ====
section
/-! DEFINITION. The scaler pool and layers as configured (10): the layer record (R302), the bound raster of a source (R199, R315),
engine cost and placement (R316, R317), pages and store demand (R313, R314), and the hurdle of areas 0x8000 and 0x0A00. -/

namespace Sys2Proof.Machine

/-! ### The layer record (Table 10-1) -/

/-- VALID of a layer record. -/
def lyValid (b : List Byte) : Bool := bitOf (byteAt b 0) 7
/-- KEYED of a layer record. -/
def lyKeyed (b : List Byte) : Bool := bitOf (byteAt b 0) 6
/-- KIND. -/
def lyKind (b : List Byte) : Nat := byteAt b 1
/-- HEAD. -/
def lyHead (b : List Byte) : Nat := byteAt b 2
/-- Z. -/
def lyZ (b : List Byte) : Nat := byteAt b 3
/-- DEST_X. -/
def lyX (b : List Byte) : Nat := halfAt b 4
/-- DEST_Y. -/
def lyY (b : List Byte) : Nat := halfAt b 6
/-- DEST_W. -/
def lyW (b : List Byte) : Nat := halfAt b 8
/-- DEST_H. -/
def lyH (b : List Byte) : Nat := halfAt b 10
/-- ARG0. -/
def lyArg0 (b : List Byte) : Nat := wordAt b 12
/-- ARG1. -/
def lyArg1 (b : List Byte) : Nat := wordAt b 16
/-- OPACITY. -/
def lyOpacity (b : List Byte) : Nat := byteAt b 30
/-- V_TAPS. -/
def lyTaps (b : List Byte) : Nat := byteAt b 29
/-- ENGINE. -/
def lyEngine (b : List Byte) : Nat := byteAt b 31
/-- Whether a layer is a live TILE. -/
def lyTile (b : List Byte) : Bool := lyValid b && lyKind b == 1
/-- Whether a layer is live: a TILE or a METER_BAR. -/
def lyLive (b : List Byte) : Bool := lyKind b == 1 || lyKind b == 6

/-- Whether the bytes of a range are zero. -/
def zeroBytes (b : List Byte) (lo n : Nat) : Bool := ((b.drop lo).take n).all (fun x => x == 0)

/-- The checks a layer value passes when it is written (R302); a refusal is 0x0001. -/
def layerBytesOk (b : List Byte) : Bool :=
  let k := lyKind b
  decide (b.length = 32) && decide (byteAt b 0 % 64 = 0) && decide (lyHead b ≤ 7) && decide (lyZ b ≤ 63) &&
  (match k with
   | 0 => !lyValid b && zeroBytes b 0 32
   | 1 => decide (byteAt b 28 ≤ 7) && decide (2 ≤ lyTaps b ∧ lyTaps b ≤ 6) && decide (lyEngine b ≤ 63 ∨ lyEngine b = 255) &&
      (lyKeyed b || lyArg1 b == 0)
   | 2 => decide (lyArg0 b < 2 ^ 30) && lyArg1 b == 0
   | 3 => decide (lyArg0 b < 2 ^ 30) && decide (1 ≤ lyArg1 b ∧ lyArg1 b ≤ 64)
   | 4 => decide (lyArg0 b ≤ 63) && lyArg1 b == 0
   | 5 => decide (lyArg0 b ≤ 255) && decide (lyArg1 b < 2 ^ 30)
   | 6 => decide (lyArg0 b ≤ 4095) && decide (lyArg1 b ≤ 1)
   | _ => false) &&
  (k == 0 || decide (16 ≤ lyW b) && decide (16 ≤ lyH b)) &&
  (k == 1 || (zeroBytes b 20 10 && lyEngine b == 0 && !lyKeyed b))

/-- Layer l. -/
def State.layer (s : State) (l : Nat) : List Byte := s.bytes (O.layer l)

/-- Layers listed as objects: number and record. -/
def State.layersSet (s : State) : List (Nat × List Byte) :=
  s.objs.filterMap (fun p =>
    let ix := keyIx p.1
    if 0x8100 ≤ ix ∧ ix ≤ 0x8103 ∧ 1 ≤ keySub p.1 ∧ keySub p.1 ≤ 128 ∧ lyValid p.2.bytes then
      some ((ix - 0x8100) * 128 + (keySub p.1 - 1), p.2.bytes) else none)

/-- Valid layers of a head. -/
def State.headLayers (s : State) (h : Nat) : List (Nat × List Byte) := s.layersSet.filter (fun p => lyHead p.2 == h)

/-- Whether head h runs (R301). -/
def State.headRuns (s : State) (h : Nat) : Bool :=
  s.fuses.variant != .t && s.flag (O.headEnable h) && s.num (O.headRaster h) != 0

/-- The video SIDs a tile reads. -/
def tileSids (b : List Byte) : List Nat := lyArg0 b :: (if lyKeyed b then [lyArg1 b] else [])

/-! ### Source rasters (R199, R304, R315) -/

/-- The format codes of Table 1-7. -/
def allFormats : List Nat :=
  [0x0104, 0x0203, 0x0306, 0x0307, 0x0308, 0x0403, 0x0404, 0x0405] ++
  (List.range 5).map (fun i => 0x0501 + i) ++ (List.range 8).map (fun i => 0x0601 + i) ++ (List.range 8).map (fun i => 0x0701 + i)

/-- The charge of a video subscription in Mb/s: raster and video streams of the source (R199). -/
def videoCharge (f subs : Nat) : Nat :=
  let (num, den) := rateFrac (f % 256)
  if num = 0 ∨ subs = 0 then 0
  else ceilDiv ((fmtLineBytes f + 8 * subs) * 8 * fmtLines f * num) (den * subs * 1000000)

/-- The raster a video SID presents now, as far as the device knows it; 0 unknown or none, a generator follows `own`. -/
def State.sidRaster (s : State) (sid own : Nat) : Nat :=
  if sidGen sid then own
  else if s.sidLocal sid then s.slotRaster (sidSlot sid)
  else ((s.heldFor sid).map (fun p => p.2.fmt)).getD 0

/-- The bound raster of a video SID (R315): of a remote source, the raster its admitted charge stands for. -/
def State.sidBound (s : State) (sid own : Nat) : Nat :=
  if sidGen sid then own
  else if s.sidLocal sid then s.boundRaster (sidSlot sid)
  else match s.heldFor sid with
    | some p =>
      let n := max 1 ((List.range 4).filter (fun i => (s.heldFor (sid + i)).isSome)).length
      ((allFormats.find? (fun f => videoCharge f n == p.2.charge))).getD p.2.fmt
    | none => 0

/-- Source pixels of a crop (R304). -/
def cropPixels (b : List Byte) (f : Nat) : Nat :=
  let v := (roundDiv ((halfAt b 24 * fmtWidth f : Nat) : Int) 4096).toNat
  v + v % 2
/-- Source lines of a crop (R304). -/
def cropLines (b : List Byte) (f : Nat) : Nat := (roundDiv ((halfAt b 26 * fmtActiveLines f : Nat) : Int) 4096).toNat
/-- First source pixel of a crop, an even one. -/
def cropLeft (b : List Byte) (f : Nat) : Nat := (roundDiv ((halfAt b 20 * fmtWidth f : Nat) : Int) 4096).toNat / 2 * 2
/-- First source row of a crop. -/
def cropTop (b : List Byte) (f : Nat) : Nat := (roundDiv ((halfAt b 22 * fmtActiveLines f : Nat) : Int) 4096).toNat

/-- Whether a raster lies within the scale ratios of R303; an unknown raster passes. -/
def ratioOk (b : List Byte) (f : Nat) : Bool :=
  f == 0 || (decide (lyW b ≤ 8 * cropPixels b f) && decide (cropPixels b f ≤ 16 * lyW b) &&
    decide (lyH b ≤ 8 * cropLines b f) && decide (cropLines b f ≤ 16 * lyH b))

/-! ### Engine cost and placement (R315–R317) -/

/-- The bound raster of a tile's fill. -/
def State.tileBound (s : State) (b : List Byte) : Nat := s.sidBound (lyArg0 b) (s.num (O.headRaster (lyHead b)))

/-- A layer's line-buffer need (R315). -/
def State.lineNeed (s : State) (b : List Byte) : Nat :=
  cropPixels b (s.tileBound b) * lyTaps b * (if lyKeyed b then 2 else 1)

/-- A tile's engine cost in cycles per head frame (R316). -/
def State.tileCost (s : State) (b : List Byte) : Nat :=
  let f := s.tileBound b
  let n := cropPixels b f * cropLines b f * (if lyKeyed b then 2 else 1)
  max (ceilDiv n 2) (lyW b * lyH b) + 64 * cropLines b f

/-- The processing-domain clock at a point, in Hz (R440). -/
def pointHz (p : Nat) : Nat := if p = 0 then 600000000 else if p = 1 then 1000000000 else 1250000000

/-- What an engine serves: rate, cost so far, tiles, and whether a converter has it. -/
structure EngLoad where
  lo : Nat
  cost : Nat
  tiles : Nat
  conv : Bool
deriving DecidableEq, Repr

/-- An engine with no assignment. -/
def engFree : Nat → EngLoad := fun _ => ⟨0, 0, 0, false⟩

/-- A user of the pool: layer l, or 512 + c for converter c. -/
def userKey (u : Nat) : Nat := if u < 512 then O.layer u else O.convOutput (u - 512)

/-- The engine a user is pinned to, 255 none. -/
def State.userPin (s : State) (u : Nat) : Nat := if u < 512 then lyEngine (s.layer u) else s.num (O.convEngine (u - 512))

/-- The users of the pool: converters with an output, then the tiles of running heads, without those shed. -/
def State.poolUsers (s : State) : List Nat :=
  ((List.range 16).filter (fun c => s.fuses.variant != .t && s.num (O.convOutput c) != 255 && !s.comp.convShed.contains c)).map
    (fun c => 512 + c) ++
  (s.layersSet.filter (fun p => lyTile p.2 && s.headRuns (lyHead p.2) && !(tget headIdle s.comp.heads (lyHead p.2)).shed)).map
    Prod.fst

/-- Whether an engine has room for a user at an operating point (R316). -/
def State.engFits (s : State) (pt : Nat) (e : EngLoad) (u : Nat) : Bool :=
  if 512 ≤ u then !e.conv && e.tiles == 0
  else
    let b := s.layer u
    let lo := s.num (O.headRaster (lyHead b)) % 256
    let (num, den) := rateFrac lo
    !e.conv && decide (e.tiles < 4) && (e.tiles == 0 || e.lo == lo) &&
    decide ((e.cost + s.tileCost b) * 100 * num ≤ 95 * pointHz pt * den)

/-- The engine with a user added. -/
def State.engAdd (s : State) (e : EngLoad) (u : Nat) : EngLoad :=
  if 512 ≤ u then { e with conv := true }
  else
    let b := s.layer u
    { e with lo := s.num (O.headRaster (lyHead b)) % 256, cost := e.cost + s.tileCost b, tiles := e.tiles + 1 }

/-- A placement under way: engines, users placed (1 + engine), users left over. -/
structure Placing where
  eng : Tbl EngLoad
  place : Tbl Nat
  left : List Nat
deriving DecidableEq, Repr

/-- Puts a user on an engine if it fits there. -/
def State.putOn (s : State) (pt u e : Nat) (x : Placing) : Option Placing :=
  let g := tget engFree x.eng e
  if e < 64 ∧ s.engFits pt g u then
    some { x with eng := tput x.eng e (s.engAdd g u), place := tput x.place u (e + 1) }
  else none

/-- The placement of R317 at an operating point: `was` is the placement in force and `same` tells the users the commit leaves
unchanged. -/
def State.poolPlace (s : State) (pt : Nat) (was : Tbl Nat) (same : Nat → Bool) : Placing :=
  let us := s.poolUsers
  let pinned := us.filter (fun u => s.userPin u != 255)
  let x1 := pinned.foldl (fun (x : Placing) u => (s.putOn pt u (s.userPin u) x).getD { x with left := x.left ++ [u] }) ⟨[], [], []⟩
  let rest := us.filter (fun u => s.userPin u == 255)
  let x2 := rest.foldl (fun (x : Placing) u =>
    let e := tget zeroNat was u
    if e ≠ 0 ∧ same u then (s.putOn pt u (e - 1) x).getD x else x) x1
  (rest.filter (fun u => (tfind x2.place u).isNone)).foldl (fun (x : Placing) u =>
    match (List.range 64).find? (fun e => s.engFits pt (tget engFree x.eng e) u) with
    | some e => (s.putOn pt u e x).getD x
    | none => { x with left := x.left ++ [u] }) x2

/-- The placement after a commit, from the state before it. -/
def placeAfter (pre post : State) (pt : Nat) : Placing :=
  post.poolPlace pt pre.comp.place (fun u => decide (pre.obj (userKey u) = post.obj (userKey u)) &&
    decide (pre.userPin u = post.userPin u))

/-! ### Pages and demand (R313, R314) -/

/-- Pages of an enabled head. -/
def State.headPages (s : State) (h : Nat) : Nat :=
  if !s.headRuns h then 0
  else (let p := fmtPf (s.num (O.headRaster h)); 3 * ceilDiv (3 * p) 2 + 2 * (p + ceilDiv (3 * p) 2))

/-- Pages of a live tile. -/
def State.tilePages (s : State) (b : List Byte) : Nat := 2 * fmtPf (s.tileBound b) * (if lyKeyed b then 2 else 1)

/-- The tiles of running heads. -/
def State.liveTiles (s : State) : List (Nat × List Byte) := s.layersSet.filter (fun p => lyTile p.2 && s.headRuns (lyHead p.2))

/-- Converters with an output. -/
def State.convsSet (s : State) : List Nat :=
  if s.fuses.variant = .t then [] else (List.range 16).filter (fun c => s.num (O.convOutput c) != 255)

/-- Pages of composition (R313). -/
def State.compPages (s : State) : Nat :=
  ((List.range 8).map s.headPages).foldl (· + ·) 0 + (s.liveTiles.map (fun p => s.tilePages p.2)).foldl (· + ·) 0 +
    (s.convsSet.map (fun c => 2 * fmtPf (s.outRaster (s.num (O.convOutput c))))).foldl (· + ·) 0

/-- Bits per second of a pixel count at a rate, in 1/1001 of a bit per second (exact for every rate of Table 1-7). -/
def bitRate (lo bits : Nat) : Nat := let (num, den) := rateFrac lo; bits * num * (1001 / max 1 den)

/-- Active pixels of a raster. -/
def fmtPixels (f : Nat) : Nat := fmtWidth f * fmtActiveLines f

/-- The composition demand on the store (R314), in 1/1001 bit/s. -/
def State.compDemand (s : State) : Nat :=
  ((List.range 8).map (fun h => if s.headRuns h then
    (let f := s.num (O.headRaster h); bitRate (f % 256) (fmtPixels f * 80)) else 0)).foldl (· + ·) 0 +
  (s.liveTiles.map (fun p =>
    let lo := s.num (O.headRaster (lyHead p.2)) % 256
    bitRate lo (2 * fmtPixels (s.tileBound p.2) * 20 * (if lyKeyed p.2 then 2 else 1) + lyW p.2 * lyH p.2 * 30))).foldl (· + ·) 0 +
  (s.convsSet.map (fun c =>
    let f := s.outRaster (s.num (O.convOutput c)); bitRate (f % 256) (2 * fmtPixels f * 20))).foldl (· + ·) 0

/-- COMP_BW_RESERVED in Gb/s. -/
def State.compBw (s : State) : Nat := ceilDiv s.compDemand (1001 * 1000000000)

/-- Whether the store carries the composition demand (R314). -/
def State.compFits (s : State) : Bool :=
  decide (s.compDemand ≤ (16000 - 16 - 128 - s.essenceBw) * 1001 * 1000000000)

/-! ### Banks, images, texts -/

/-- Whether every phase of `n` taps sums to 1,024 with values in range. -/
def phasesOk (n : Nat) : Nat → List Byte → Bool
  | 0, _ => true
  | c + 1, b =>
    let vs := (List.range n).map (fun i => signed 16 (halfAt b (2 * i)))
    vs.all (fun v => decide (-2048 ≤ v ∧ v ≤ 2047)) && decide (vs.foldl (· + ·) 0 = 1024) && phasesOk n c (b.drop (2 * n))

/-- Whether a coefficient bank is valid (R318). -/
def bankOk (b : List Byte) : Bool := decide (b.length = 1792) && phasesOk 8 64 b && phasesOk 6 64 (b.drop 1024)

/-- Whether an image value is complete (R310). -/
def imageWhole (b : List Byte) : Bool :=
  let w := halfAt b 0
  let h := halfAt b 2
  decide (8 ≤ b.length) && decide (w % 2 = 0 ∧ 0 < w ∧ w ≤ 3840 ∧ 0 < h ∧ h ≤ 2160) && zeroBytes b 4 4 &&
  decide (b.length = 8 + 4 * w * h)

/-! ### The hurdle (R303, R324) -/

/-- Whether two layers' rectangles overlap. -/
def lyOverlap (a b : List Byte) : Bool :=
  decide (lyX a < lyX b + lyW b) && decide (lyX b < lyX a + lyW a) && decide (lyY a < lyY b + lyH b) &&
  decide (lyY b < lyY a + lyH a)

/-- Whether a raster is interlaced. -/
def fmtInterlaced (f : Nat) : Bool := f / 256 == 1 || f / 256 == 2 || f / 256 == 4

/-- Whether a layer's geometry is accepted (R303). DESIGN CHOICE (log entry 174): a head without a raster has no picture to judge it by. -/
def State.geometryOk (s : State) (b : List Byte) : Bool :=
  let f := s.num (O.headRaster (lyHead b))
  f == 0 || decide (lyX b + lyW b ≤ fmtWidth f) && decide (lyY b + lyH b ≤ fmtActiveLines f) &&
  decide (lyX b % 2 = 0 ∧ lyW b % 2 = 0) && (!fmtInterlaced f || decide (lyY b % 2 = 0 ∧ lyH b % 2 = 0)) &&
  (lyKind b != 5 || decide (32 ≤ lyH b)) &&
  (lyKind b != 1 ||
    (decide (halfAt b 20 + halfAt b 24 ≤ 4096) && decide (halfAt b 22 + halfAt b 26 ≤ 4096) &&
     decide (0 < halfAt b 24 ∧ 0 < halfAt b 26) && (tileSids b).all (fun x => ratioOk b (s.sidRaster x f))))

/-- Whether a SID may be a tile's (R303). -/
def tileSidOk (x : Nat) : Bool := sidOk x && sidClass x == 0 && !(sidGen x && decide (245 ≤ sidSlot x))

/-- The code of a valid layer against the layers of its head (R303), before pool and pages. -/
def State.layerCode (s : State) (l : Nat) (b : List Byte) : Option Nat :=
  let hs := s.headLayers (lyHead b)
  let f := s.num (O.headRaster (lyHead b))
  if lyKind b = 1 ∧ !(tileSids b).all tileSidOk then some 0x8005
  else if lyKind b = 4 ∧ !imageWhole (s.bytes (O.imgImageI (lyArg0 b))) then some 0x8006
  else if lyKind b = 5 ∧ (s.bytes (O.text (lyArg0 b))).isEmpty then some 0x8006
  else if hs.any (fun p => p.1 != l && lyZ p.2 == lyZ b) ∨ 64 < hs.length then some 0x8001
  else if !lyLive b ∧ hs.any (fun p => lyLive p.2 && decide (lyZ p.2 < lyZ b)) ∧
      hs.any (fun p => lyLive p.2 && decide (lyZ b < lyZ p.2)) then some 0x8002
  else if lyLive b ∧ (lyOpacity b ≠ 255 ∨ lyKeyed b = true) ∧
      hs.any (fun p => lyLive p.2 && decide (lyZ p.2 < lyZ b) && lyOverlap b p.2) then some 0x8002
  else if !s.geometryOk b then some 0x8003
  else if f ≠ 0 ∧ lyKind b = 1 ∧ (tileSids b).any (fun x => s.sidRaster x f != 0 && s.sidRaster x f % 256 != f % 256) then some 0x8004
  else none

/-- The pool's code for a key whose user is `u` (check 5). -/
def poolCode (pre post : State) (pt : Nat) (u : Option Nat) : Option Nat :=
  let left := (placeAfter pre post pt).left
  let own := match u with | some v => left.contains v | none => false
  if own then some 0x0A01
  else if !left.isEmpty && !(left.any (fun v => pre.obj (userKey v) != post.obj (userKey v))) then some 0x0A01
  else if !post.compFits then some 0x0A04
  else none

/-- Whether free pages cover what composition adds (R313). -/
def compPagesCover (pre post : State) : Bool :=
  let more := post.compPages - pre.ess.store.otherPages
  more == 0 || decide (more + slotPagesMore pre post + outPagesMore pre post ≤ pre.pagesFree)

/-- The first code of a list of candidates. -/
def firstCode : List (Option Nat) → Option Nat
  | [] => none
  | some c :: _ => some c
  | none :: l => firstCode l

/-- The operating point at which the pool is placed: the lower of the point in force and the one committed. -/
def poolPoint (pre post : State) : Nat :=
  if post.num O.procProcPoint < pre.num O.procProcPoint then post.num O.procProcPoint
  else pre.num O.procProcPointActive

/-- The hurdle code of an object of area 0x8000 (Table 10-8). -/
def area8Issue (pre post : State) (ix sub : Nat) : Option Nat :=
  let pt := poolPoint pre post
  let pages : Option Nat := if compPagesCover pre post then none else some 0x8008
  if 0x8100 ≤ ix ∧ ix ≤ 0x8103 then
    let l := (ix - 0x8100) * 128 + (sub - 1)
    let b := post.layer l
    if !lyValid b then firstCode [pages, poolCode pre post pt (some l)]
    else firstCode [post.layerCode l b, pages, if lyTile b ∧ 24576 < post.lineNeed b then some 0x0A03 else none,
      poolCode pre post pt (some l)]
  else if 0x8010 ≤ ix ∧ ix ≤ 0x8017 then
    let h := ix - 0x8010
    if sub = 1 ∨ sub = 2 then
      firstCode (((post.headLayers h).map (fun p => if post.num (O.headRaster h) = 0 then none else post.layerCode p.1 p.2)) ++
        [pages, if (post.headLayers h).any (fun p => lyTile p.2 && decide (24576 < post.lineNeed p.2)) then some 0x0A03 else none,
         poolCode pre post pt none, if pagesCover pre post then none else some 0x5016])
    else none
  else if 0x8200 ≤ ix ∧ ix ≤ 0x823F then
    (if !imageWhole (post.bytes (O.imgImageI (ix - 0x8200))) &&
      post.layersSet.any (fun p => lyKind p.2 == 4 && lyArg0 p.2 == ix - 0x8200) then some 0x8006 else none)
  else if 0x8300 ≤ ix ∧ ix ≤ 0x8301 then
    (let t := (ix - 0x8300) * 128 + (sub - 1)
     if (post.bytes (O.text t)).isEmpty && post.layersSet.any (fun p => lyKind p.2 == 5 && lyArg0 p.2 == t) then some 0x8006
     else none)
  else if 0x8800 ≤ ix ∧ ix ≤ 0x880F then
    let c := ix - 0x8800
    let o := post.num (O.convOutput c)
    if o ≠ 255 ∧ sub = 1 ∧ (post.outputKind o = 0 ∨ (List.range 16).any (fun d => d != c && post.num (O.convOutput d) == o)) then
      some 0x8009
    else if sub = 1 ∨ sub = 5 then firstCode [pages, poolCode pre post pt (some (512 + c))]
    else none
  else none

/-- The hurdle code of an object of area 0x0A00 (R318). -/
def area0AIssue (pre post : State) (ix sub : Nat) : Option Nat :=
  if 0x0A10 ≤ ix ∧ ix ≤ 0x0A17 ∧ sub = 1 then
    (if !bankOk (post.bank (ix - 0x0A10)) then some 0x0A02 else poolCode pre post (poolPoint pre post) none)
  else none

end Sys2Proof.Machine
end

