-- ==== Sys2Proof/Machine/Composition.lean ====
section
/-! DEFINITION. Composition heads running (10): what a head shows, supply of its live layers, the composition window, the flatten
cache, and what commits and the energy ledger change (R301–R313, R317, R321–R325). -/

namespace Sys2Proof.Machine

/-- HEAD_EVT_h. -/
def rHeadEvt (h : Nat) : Nat := 0x414004 + 0x10 * h
/-- HEAD_STALE_h. -/
def rHeadStale (h : Nat) : Nat := 0x414008 + 0x10 * h
/-- LAYER_STALE_w. -/
def rLayerStale (w : Nat) : Nat := 0x414100 + 4 * w

/-- Head h. -/
def State.head (s : State) (h : Nat) : HeadSt := tget headIdle s.comp.heads h
/-- Stores head h. -/
def State.setHead (s : State) (h : Nat) (v : HeadSt) : State :=
  { s with comp := { s.comp with heads := tset headIdle s.comp.heads h v } }
/-- Layer l as it runs. -/
def State.lay (s : State) (l : Nat) : LayerSt := tget layerIdle s.comp.layers l
/-- Stores layer l as it runs. -/
def State.setLay (s : State) (l : Nat) (v : LayerSt) : State :=
  { s with comp := { s.comp with layers := tset layerIdle s.comp.layers l v } }

/-- Raises a head event and sets its bit of HEAD_EVT_h (R323). -/
def State.headEvent (s : State) (h bit code : Nat) (payload : List Byte) : State :=
  (s.setBit (rHeadEvt h) bit).raise code payload

/-! ### Pixels (R305, R306, R310) -/

/-- The pixels of a colour word (R302). -/
def colourPx (c : Nat) : Px := (fld c 29 20, fld c 19 10, fld c 9 0)

/-- OPACITY as a 10-bit alpha (R305). -/
def opAlpha (op : Nat) : Nat := (roundDiv ((1023 * op : Nat) : Int) 255).toNat

/-- The alpha of a keyed tile at a luma of its key (R305). -/
def keyAlpha (y op : Nat) : Nat :=
  let a := clampInt 0 1023 (roundDiv (((y : Int) - 64) * 1023) 876)
  (roundDiv (a * (op : Int)) 255).toNat

/-- One component of a pixel laid over another with an alpha. -/
def mixOne (top bot a : Nat) : Nat := (roundDiv ((a * top + (1023 - a) * bot : Nat) : Int) 1023).toNat

/-- A pixel laid over another. -/
def mixPx (t : PxA) (b : Px) : Px :=
  (mixOne t.1.1 b.1 t.2, mixOne t.1.2.1 b.2.1 t.2, mixOne t.1.2.2 b.2.2 t.2)

/-- Pixels laid over a row from column x on. -/
def overRow (row : List Px) (x : Nat) (ps : List PxA) : List Px :=
  row.take x ++ (List.zipWith (fun (b : Px) (t : PxA) => mixPx t b) (row.drop x) ps) ++ row.drop (x + ps.length)

/-- The characters of a UTF-8 string up to U+07FF; any other is one '?' (R310). -/
def utf8Chars : List Byte → List Nat
  | [] => []
  | a :: rest =>
    if a.toNat < 0x80 then a.toNat :: utf8Chars rest
    else if a.toNat < 0xC0 then utf8Chars rest
    else match rest with
      | b :: rest' => (if a.toNat < 0xE0 then fld a.toNat 4 0 * 64 + fld b.toNat 5 0 else 0x3F) :: utf8Chars rest'
      | [] => [0x3F]

/-- A character of the built-in font. -/
def fontChar (c : Nat) : Nat := if (0x20 ≤ c ∧ c ≤ 0x7E) ∨ (0xA0 ≤ c ∧ c ≤ 0xFF) then c else 0x3F

/-- Row y of a static layer's rectangle (R310); `use` is the image or text it names. -/
def staticRow (bank0 : List Byte) (b use : List Byte) (y : Nat) : List PxA :=
  let w := lyW b
  let a := opAlpha (lyOpacity b)
  match lyKind b with
  | 2 => List.replicate w (colourPx (lyArg0 b), a)
  | 3 =>
    let n := lyArg1 b
    let inner := decide (n ≤ y) && decide (y + n < lyH b)
    (List.range w).map (fun x => (colourPx (lyArg0 b), if inner && decide (n ≤ x) && decide (x + n < w) then 0 else a))
  | 4 => (scaleImage use bank0 w (lyH b) y).map (fun p => (p.1, (roundDiv ((p.2 * lyOpacity b : Nat) : Int) 255).toNat))
  | 5 =>
    let m := min 4 (lyH b / 32)
    let cs := (utf8Chars use).map fontChar
    (List.range w).map (fun x =>
      let i := x / (16 * max 1 m)
      let on := decide (y < 32 * m) && decide (i < cs.length) &&
        Config.glyph (cs.getD i 0x20) (y / max 1 m) (x / max 1 m % 16)
      (colourPx (lyArg1 b), if on then a else 0))
  | _ => []

/-- Static layers laid over a row of the picture. -/
def staticOver (bank0 : List Byte) (ls : List (List Byte × List Byte)) (y : Nat) (row : List Px) : List Px :=
  ls.foldl (fun (r : List Px) p =>
    if lyY p.1 ≤ y ∧ y < lyY p.1 + lyH p.1 then overRow r (lyX p.1) (staticRow bank0 p.1 p.2 (y - lyY p.1)) else r) row

/-! ### What a head shows (R311) -/

/-- Layers in rising Z. -/
def byZ (l : List (Nat × List Byte)) : List (Nat × List Byte) :=
  (List.range 64).flatMap (fun z => l.filter (fun p => lyZ p.2 == z))

/-- The image or text a static layer uses. -/
def State.layerUse (s : State) (b : List Byte) : List Byte :=
  if lyKind b = 4 then s.bytes (O.imgImageI (lyArg0 b)) else if lyKind b = 5 then s.bytes (O.text (lyArg0 b)) else []

/-- The set of head h as committed. -/
def State.headSet (s : State) (h : Nat) : HeadSet :=
  let ls := byZ (s.headLayers h)
  let live := ls.filter (fun p => lyLive p.2)
  let top := match live with
    | [] => 64
    | p :: _ => lyZ p.2
  let st := ls.filter (fun p => !lyLive p.2)
  let use (q : List (Nat × List Byte)) : List (List Byte × List Byte) := q.map (fun p => (p.2, s.layerUse p.2))
  ⟨s.num (O.headRaster h), s.num (O.headBackground h), use (st.filter (fun p => decide (lyZ p.2 < top))),
   use (st.filter (fun p => decide (top ≤ lyZ p.2))), live⟩

/-- Whether two sets have the same flatten cache. -/
def sameCache (a b : HeadSet) : Bool :=
  a.raster == b.raster && a.background == b.background && a.under == b.under && a.top == b.top

/-- HEAD_STATE. -/
def State.headObj (s : State) (h : Nat) : State :=
  let x := s.head h
  s.setNum (O.headHeadState h) (if !s.headRuns h then 0 else if x.shed then 3 else if x.building.isSome then 2 else 1)

/-! ### Supply of a live tile (R307–R309) -/

/-- The lines of a crop in source frame k. -/
def State.cropRows (s : State) (b : List Byte) (sid f k : Nat) : List (Option (List Byte)) :=
  (List.range (cropLines b f)).map (fun i => s.tileLine sid f k (rowLine f (cropTop b f + i)))

/-- LAYER_STATUS of a layer. -/
def State.layObj (s : State) (l state : Nat) : State :=
  let e := tget zeroNat s.comp.place l
  s.setNum (O.layerStatus l) (state * 2 ^ 28 + (if e = 0 then 255 else e - 1) * 2 ^ 16 + min 65535 (s.lay l).stale)

/-- The state LAYER_STATUS shows (Table 10-4). -/
def State.layState (s : State) (l : Nat) : Nat :=
  let b := s.layer l
  let x := s.lay l
  if !lyValid b || !lyLive b || !s.headRuns (lyHead b) then 0
  else if (s.head (lyHead b)).shed && lyKind b == 1 then 5
  else if x.cause = 4 then 6
  else if x.cause ≠ 0 then (if x.black then 4 else 3)
  else if x.has || lyKind b == 6 then 1 else 0

/-- NO_SIGNAL_ACTION applies to a layer held for STALE_HOLD frames (R309). -/
def State.holdOver (s : State) (l : Nat) : State :=
  let x := s.lay l
  let h := lyHead (s.layer l)
  if x.cause ≠ 0 ∧ s.num (O.headStaleHold h) ≤ x.lost ∧ s.num (O.headNoSignalAction h) = 0 ∧ !x.black then
    (s.setLay l { x with black := true }).layObj l (if x.cause = 4 then 6 else 4)
  else s

/-- The supply of layer l is lost with a cause (R309). -/
def State.supplyLost (s : State) (l cause : Nat) : State :=
  let x := s.lay l
  let h := lyHead (s.layer l)
  let s1 := if x.cause = 0 then s.headEvent h 1 0x8002 (p16 l ++ p8 cause) else s
  let s2 := s1.setLay l { x with cause := cause, lost := if x.cause = 0 then 0 else x.lost, black := x.black || cause == 4 }
  s2.layObj l (s2.layState l)

/-- A layer is stale in this window (R308). -/
def State.layerStale (s : State) (l : Nat) : State :=
  let x := s.lay l
  let h := lyHead (s.layer l)
  let s1 := ((s.setLay l { x with stale := x.stale + 1 }).bump (O.headStaleFrames h)).rcAdd (rHeadStale h) 31 0
  let s2 := s1.setBit (rLayerStale (l / 32)) (l % 32)
  let s3 := (s2.setBit (rHeadEvt h) 0).countSecond 0x8001 l 1 (p16 l)
  s3.layObj l (if x.cause = 0 then 2 else s3.layState l)

/-- Layers of a head whose record has changed, come or gone start anew when the change comes into view (R311); stale counts stay. -/
def State.renewLayers (s : State) (old new : List (Nat × List Byte)) : State :=
  let ls := sortNat (((old.filter (fun p => !new.contains p)) ++ (new.filter (fun p => !old.contains p))).map Prod.fst)
  ls.foldl (fun (x : State) l =>
    let y := (x.setLay l { LayerSt.idle with stale := (x.lay l).stale }).setReg (rLayerStale (l / 32))
      (setFld (x.reg (rLayerStale (l / 32))) (l % 32) (l % 32) 0)
    y.layObj l (y.layState l)) s

/-- A composition window of head h opens (R307, R311, R318): a commit that needs no rebuild takes effect, and the meters and the banks, bank 0
of the images among them, are read. -/
def State.windowOpens (s : State) (h : Nat) : State :=
  let x := s.head h
  let live := if x.building.isSome then x.shown.live else (s.headSet h).live
  (s.renewLayers x.shown.live live).setHead h { x with
    shown := { x.shown with live := live },
    bars := (live.filter (fun p => lyKind p.2 == 6)).map (fun p => (lyArg0 p.2, s.num (O.meterValue (lyArg0 p.2)))),
    banks := (0, s.bank 0) :: (live.filter (fun p => lyKind p.2 == 1)).map (fun p => (byteAt p.2 28, s.bank (byteAt p.2 28))) }

/-- The frames within which a head's rebuild completes (R312). -/
def State.rebuildFrames (s : State) (set : HeadSet) : Nat :=
  let p := ((set.under ++ set.top).map (fun q => lyW q.1 * lyH q.1)).foldl (· + ·) (fmtPixels set.raster)
  let (num, den) := rateFrac (set.raster % 256)
  if num = 0 then 1 else ceilDiv (p * 100 * num) (5 * pointHz (s.num O.procProcPointActive) * 64 * den) + 1

/-- The rebuilt cache of head h is shown (R311, event 0x8004). -/
def State.cacheDone (s : State) (h : Nat) : State :=
  let x := s.head h
  match x.building with
  | none => s
  | some (set, t0) =>
    let frames := ceilDiv ((s.now - t0) * s.tm.inc) (max 1 (framePt set.raster))
    ((((s.setHead h { x with shown := { set with live := x.shown.live }, building := none }).windowOpens h).bump
      (O.headRebuilds h)).headEvent h 2 0x8004 (p8 h ++ p32 frames)).headObj h

/-- Coefficient bank k as head h reads it in this window (R318). -/
def State.headBank (s : State) (h k : Nat) : List Byte :=
  ((s.head h).banks.find? (fun q => q.1 == k)).elim (s.bank k) Prod.snd

/-- One live tile in the window of source frame k; `late` that its engine has not finished. -/
def State.tileWindow (s : State) (l : Nat) (b : List Byte) (own k : Nat) (late : Bool) : State :=
  let fill := lyArg0 b
  let sids := tileSids b
  let x := s.lay l
  let fs := sids.map (fun y => s.sidRaster y own)
  let f := fs.headD own
  let bad := fs.any (fun g => g != 0 && (g % 256 != own % 256 || !ratioOk b g))
  let away := sids.any (fun y => s.sidRemote y && !(s.link (sidDev y)).up)
  let fillRows := s.cropRows b fill f k
  let keyRows := if lyKeyed b then s.cropRows b (lyArg1 b) (fs.getD 1 own) k else []
  let whole := !fillRows.isEmpty && fillRows.all Option.isSome && keyRows.all Option.isSome
  let gone := fillRows.all Option.isNone || (lyKeyed b && keyRows.all Option.isNone)
  if bad then s.supplyLost l 4
  else if away ∨ (x.linkLost ∧ gone) then s.supplyLost l 3
  else if x.shedSub ∧ gone then s.supplyLost l 2
  else if gone then s.supplyLost l 1
  else if !whole || late then s.layerStale l
  else
    let bank := s.headBank (lyHead b) (byteAt b 28)
    let rows (r : List (Option (List Byte))) (g : Nat) : List (List Byte) :=
      let src := r.map (fun d => ((unpackLine (d.getD [])).drop (cropLeft b g)).take (cropPixels b g))
      (List.range (lyH b)).map (fun y => packLine (scalePicture bank (lyTaps b) src (lyW b) (lyH b) y))
    let s1 := if x.cause ≠ 0 then s.raise 0x8003 (p16 l) else s
    (s1.setLay l { x with has := true, pic := rows fillRows f, key := if lyKeyed b then rows keyRows (fs.getD 1 own) else [], lost := 0, cause := 0,
                          black := false, shedSub := false, linkLost := false }).layObj l 1

/-- Row y of the live plane over a head's width: the highest live layer covering each pixel, with its alpha. -/
def State.liveRow (s : State) (set : HeadSet) (shed : Bool) (y : Nat) : List PxA :=
  let w := fmtWidth set.raster
  let none_ : PxA := ((0, 0, 0), 0)
  set.live.foldl (fun (row : List PxA) p =>
    let b := p.2
    if y < lyY b ∨ lyY b + lyH b ≤ y ∨ (shed ∧ lyKind b = 1) then row
    else
      let j := y - lyY b
      let x := s.lay p.1
      let a := opAlpha (lyOpacity b)
      let px : List PxA :=
        if lyKind b = 6 then
          (Config.meterBarRow ((((s.head (lyHead b)).bars.find? (fun q => q.1 == lyArg0 b)).map Prod.snd).getD 0) (lyArg1 b % 2 == 1) (lyW b) (lyH b) j).map (fun q => (q, a))
        else if x.black then List.replicate (lyW b) ((64, 512, 512), a)
        else if !x.has then List.replicate (lyW b) none_
        else
          let ps := unpackLine (x.pic.getD j [])
          if lyKeyed b then
            List.zipWith (fun (q : Px) (k : Px) => (q, keyAlpha k.1 (lyOpacity b))) ps (unpackLine (x.key.getD j []))
          else ps.map (fun q => (q, a))
      row.take (lyX b) ++ px ++ row.drop (lyX b + px.length)) (List.replicate w none_)

/-- Row y of the picture of head h (R306). -/
def State.headRow (s : State) (h : Nat) (set : HeadSet) (shed : Bool) (y : Nat) : List Byte :=
  let bank0 := s.headBank h 0
  let base := staticOver bank0 set.under y (List.replicate (fmtWidth set.raster) (colourPx set.background))
  let live := overRow base 0 (s.liveRow set shed y)
  packLine (staticOver bank0 set.top y live)

/-- δ of R307: (3 + ALIGN_LAG) × 64 µs. -/
def State.compDelta (s : State) : Nat := (3 + s.lag) * 64000 * ptNs

/-- A flatten-cache rebuild that has had its frames of scaling is shown (R312). -/
def State.cacheByTime (s : State) (h : Nat) : State :=
  match (s.head h).building with
  | some (want, t0) => if s.rebuildFrames want * framePt want.raster < (s.now - t0) * s.tm.inc then s.cacheDone h else s
  | none => s

/-- The tiles shown on a head. -/
def HeadSet.tiles (set : HeadSet) : List (Nat × List Byte) := set.live.filter (fun p => lyKind p.2 == 1)

/-- A tile is taken at a window; one lost for STALE_HOLD frames is replaced (R308, R309). -/
def State.tileTaken (s : State) (l : Nat) (b : List Byte) (raster frame : Nat) (late : Bool) : State :=
  (s.tileWindow l b raster frame late).holdOver l

/-- The stale bit of layer l falls as a window opens. -/
def State.staleClear (s : State) (l : Nat) : State :=
  s.setReg (rLayerStale (l / 32)) (setFld (s.reg (rLayerStale (l / 32))) (l % 32) (l % 32) 0)

/-- A lost tile has been lost one frame longer; it is black only while NO_SIGNAL_ACTION is 0, or its cause is 4 (R309). -/
def State.lostLonger (s : State) (l : Nat) : State :=
  let c := s.lay l
  let back := c.black && c.cause != 4 && s.num (O.headNoSignalAction (lyHead (s.layer l))) != 0
  if c.cause = 0 then s
  else
    let s1 := s.setLay l { c with lost := c.lost + 1, black := c.black && !back }
    if back then s1.layObj l 3 else s1

/-- The picture of a window enters the head's published slot m as its frame k (R313). -/
def State.headPublish (s : State) (m f k : Nat) (rows : List (List Byte)) : State :=
  let s1 := if s.slotRaster m = f ∧ s.isPresent (lkey m 0 0) then s else s.sourcePresent m f
  let lines : List QLine := (List.range (fmtActiveLines f)).map (fun y => ⟨k, rowLine f y, 0, s1.tm.pt, rows.getD y [], [], [], []⟩)
  let sl := s1.slot m
  let s2 := s1.setSlot m { sl with q := sl.q ++ lines, running := true, first := if sl.running then sl.first else k }
  (s2.setMember m 0 { s2.member m 0 with cur := some k, w := 0, at_ := s2.tm.pt, skip := false }).setInt (O.slotAlignWait m) 0

/-- The tiles of head h are taken as its window closes; a shed head takes none (R308, R322). -/
def State.takeTiles (s : State) (h frame : Nat) (unfinished : List (Fin 512)) : State :=
  let x := s.head h
  let s1 := x.shown.tiles.foldl (fun (y : State) p => y.staleClear p.1) s
  if x.shed then s1
  else x.shown.tiles.foldl (fun (y : State) p =>
    y.tileTaken p.1 p.2 x.shown.raster frame (unfinished.any (fun u => u.val == p.1))) s1

/-- The window closes: HEAD_FRAMES counts, the next window opens, and the picture of this one is published. -/
def State.windowClose (s : State) (h frame : Nat) (rows : List (List Byte)) : State :=
  let x := s.head h
  let s1 := x.shown.tiles.foldl (fun (y : State) p => y.lostLonger p.1) s
  let s2 := (s1.setHead h { x with frames := (x.frames + 1) % 2 ^ 32 }).windowOpens h
  match s.publishedSlot h with
  | none => s2
  | some m => s2.headPublish m x.shown.raster (frame + 3) rows

/-- COMPOSITION_WINDOW (R307; a rebuild past the bound of R312 is complete): the window of source frame F closes at G(F + 2) + δ; the
picture is frame F + 3 of the published slot. -/
def execCompositionWindow (h : Fin 8) (frame : Nat) (unfinished : List (Fin 512)) (at_ : Nat) (s0 : State) : Res :=
  let s := (s0.toTick at_).cacheByTime h
  let x := s.head h
  let f := x.shown.raster
  if !s.headRuns h ∨ f = 0 ∨ !s.essOn ∨
      !s.timeFor (gridStart (f % 256) (frame + 2) + s.compDelta) then .next s
  else
    let s1 := s.takeTiles h frame unfinished
    .next (s1.windowClose h frame ((List.range (fmtActiveLines f)).map (fun y => s1.headRow h x.shown x.shed y)))

/-- STALE_HOLD_EXPIRY (R309): after STALE_HOLD frames a lost layer applies NO_SIGNAL_ACTION. -/
def execStaleHoldExpiry (l : Fin 512) (at_ : Nat) (s0 : State) : Res := .next ((s0.toTick at_).holdOver l)

/-- CACHE_REBUILD_DONE (R311): the rebuilt planes are shown from the next head frame. -/
def execCacheRebuildDone (h : Fin 8) (at_ : Nat) (s0 : State) : Res := .next ((s0.toTick at_).cacheDone h)

/-! ### Commits (R311, R313, R317) -/

/-- The engines in use by the tiles of a head. -/
def State.headEngines (s : State) (h : Nat) : Nat :=
  (sortNat ((s.comp.place.filter (fun p => decide (p.1 < 512) && lyHead (s.layer p.1) == h)).map Prod.snd)).length

/-- The pool's objects follow a placement (Table 10-6). -/
def State.poolObjs (s : State) (x : Placing) (pt : Nat) : State :=
  let s1 := { s with comp := { s.comp with place := x.place } }
  let used := (List.range 64).filter (fun e => (tget engFree x.eng e) != engFree e)
  let load := (List.range 64).map (fun e =>
    let g := tget engFree x.eng e
    let (num, den) := rateFrac g.lo
    BitVec.ofNat 8 (if g.conv then 100 else if den * pointHz pt = 0 then 0
      else ceilDiv (g.cost * 100 * num * 100) (95 * pointHz pt * den)))
  let s2 := ((s1.setNum O.poolEnginesFree (64 - used.length)).setBytes O.poolEngineLoad load).setNum O.poolCompBwReserved s1.compBw
  (List.range 8).foldl (fun (y : State) h =>
    let z := y.setNum (O.headEnginesUsed h) (y.headEngines h)
    (z.setNum (O.headStorePages h) (z.headPages h)).headObj h) s2

/-- Placement runs again at an operating point (R317, R322). -/
def State.replace (s : State) (pt : Nat) : State :=
  s.poolObjs (s.poolPlace pt s.comp.place (fun _ => true)) pt

/-- A head follows its committed set (R311). -/
def State.headCommit (s : State) (h : Nat) : State :=
  let x := s.head h
  let want := s.headSet h
  if !s.headRuns h then
    (let s1 := (s.renewLayers x.shown.live []).setHead h HeadSt.idle
     match s1.publishedSlot h with
     | some m => (s1.slotClear m).setNum (O.slotRaster m) 0
     | none => s1)
  else
    let base := match x.building with | some p => p.1 | none => x.shown
    if sameCache want base then
      (match x.building with
       | some p => if want = p.1 then s else s.setHead h { x with building := some (want, s.now) }
       | none => s)
    else if x.building.isNone && sameCache want x.shown then s
    else s.setHead h { x with building := some (want, s.now) }

/-- The pages and the store demand of composition follow a commit (R313, R314). -/
def State.compApply (s : State) : State :=
  ({ s with ess := { s.ess with store := { s.ess.store with otherPages := s.compPages } } }).setNum O.poolCompBwReserved s.compBw

/-- What a commit of area 0x8000 changes at once. -/
def State.area8Apply (s : State) (pre : State) : State :=
  if s.fuses.variant = .t then s
  else
    let s2 := (List.range 8).foldl (fun (x : State) h => x.headCommit h) s
    let s3 := { s2 with comp := { s2.comp with convShed := s2.comp.convShed.filter (fun c => s2.num (O.convOutput c) != 255) } }
    let s4 := s3.compApply
    let pt := s4.num O.procProcPointActive
    (s4.poolObjs (placeAfter pre s4 pt) pt).storeApply pre

/-- What a commit of area 0x0A00 changes at once: a bank is read at the next window and frame. -/
def State.area0AApply (s : State) : State := s.setNum O.poolCompBwReserved s.compBw

/-! ### The ledger (R322) -/

/-- The remote streams of a head's tiles: each source's up to four video links. -/
def State.headSids (s : State) (h : Nat) : List Nat :=
  sortNat (((s.headLayers h).filter (fun p => lyTile p.2)).flatMap (fun p => ((tileSids p.2).filter s.sidRemote).flatMap (fun x =>
    (List.range 4).map (fun i => x + i))))

/-- Head h is shed: its engines are freed; its subscriptions are no longer wanted. -/
def State.shedHead (s : State) (h : Nat) : State :=
  let s1 := (s.setHead h { s.head h with shed := true }).headEvent h 3 0x8005 (p8 h)
  let s2 := (s1.headLayers h).foldl (fun (x : State) p => if lyTile p.2 then x.layObj p.1 5 else x) s1
  s2.replace (s2.num O.procProcPointActive)

/-- Head h is restored, where the pool has room (R322); its subscriptions are requested again. -/
def State.restoreHead (s : State) (h : Nat) : State :=
  let s1 := s.setHead h { s.head h with shed := false }
  let pt := s1.num O.procProcPointActive
  let x := s1.poolPlace pt s1.comp.place (fun _ => true)
  if x.left.isEmpty then
    (let s2 := s1.poolObjs x pt
     let s3 := s2.headEvent h 4 0x8006 (p8 h ++ p8 (s2.headEngines h))
     (sidRuns (s3.notHeld (s3.headSids h))).foldl (fun (y : State) r =>
       if (y.asked r.1).isSome || !(y.link (sidDev r.1)).up then y else (y.askSub r.1 r.2 2).2) s3)
  else s.headEvent h 5 0x8007 (p8 h)

/-- Converter c is shed: it is removed at its output's next switching line (R320). -/
def State.shedConv (s : State) (c : Nat) : State :=
  let s1 := { s with comp := { s.comp with convShed := c :: s.comp.convShed } }
  let s2 := (s1.setNum (O.convConvState c) 2).raise 0x8008 (p8 c ++ p8 2)
  s2.replace (s2.num O.procProcPointActive)

/-- Converter c is restored, where the pool has room. Event 0x8007 names it 16 + c (DESIGN CHOICE, log entry 210). -/
def State.restoreConv (s : State) (c : Nat) : State :=
  let s1 := { s with comp := { s.comp with convShed := s.comp.convShed.filter (· != c) } }
  let pt := s1.num O.procProcPointActive
  let x := s1.poolPlace pt s1.comp.place (fun _ => true)
  if x.left.isEmpty then (((s1.poolObjs x pt).setNum (O.convConvState c) 1).raise 0x8008 (p8 c ++ p8 1))
  else s.raise 0x8007 (p8 (16 + c))

end Sys2Proof.Machine
end

