-- ==== Sys2Proof/Machine/EthCore.lean ====
section
/-! DEFINITION. The Ethernet lanes' shared operations: ports, events, 100 Gb/s groups, and the link going down (R111–R114). -/

namespace Sys2Proof.Machine

/-- Ethernet lane p. -/
def State.eth_ (s : State) (p : Nat) : EthPort := tget ethIdle s.eth.ports p
/-- Stores Ethernet lane p. -/
def State.setEth (s : State) (p : Nat) (v : EthPort) : State :=
  { s with eth := { s.eth with ports := tset ethIdle s.eth.ports p v } }

/-- ETH_EVT_p. -/
def rEthEvt (p : Nat) : Nat := 0x409004 + 0x20 * p
/-- ETH_DROP_p. -/
def rEthDrop (p : Nat) : Nat := 0x40901C + 0x20 * p

/-- An Ethernet event of lane p with its ETH_EVT bit (Tables 4-10, 4-14). -/
def State.ethEvent (s : State) (p bit code : Nat) (payload : List Byte) : State :=
  (s.setBit (rEthEvt p) bit).raise code (p8 p ++ payload)

/-- Whether lanes 4k to 4k+3 run as one 100 Gb/s group (R111). -/
def State.eth100 (s : State) (k : Nat) : Bool := s.laneMode (4 * k) == 2 && s.num (O.ethEthRate (4 * k)) == 2

/-- Whether lane p is a member that carries no traffic of its own. -/
def State.ethMember (s : State) (p : Nat) : Bool := p % 4 != 0 && s.eth100 (p / 4)

/-- Whether the MAC of lane p is up. -/
def State.ethUp (s : State) (p : Nat) : Bool := s.num (O.ethLinkState p) == 2

/-- Arrival time in quarter nanoseconds of what crosses the balls of lane p now, corrected by RX_DELAY_CORR (R140). -/
def State.rxQuarter (s : State) (p : Nat) : Nat :=
  (((s.tm.pt * 4 / ptNs : Nat) : Int) + roundDiv (s.int (O.ethRxDelayCorr p) * 4) 1000).toNat

/-- Departure time in quarter nanoseconds, corrected by TX_DELAY_CORR (R140). -/
def State.txQuarter (s : State) (p : Nat) : Nat :=
  (((s.tm.pt * 4 / ptNs : Nat) : Int) + roundDiv (s.int (O.ethTxDelayCorr p) * 4) 1000).toNat

/-- The link of lane p goes down with a cause of event 0x3402, to LINK_STATE `to_`; `cut` that a frame was cut off (R113). The counters of a
member lane of a group stay at 0 (R143). -/
def State.ethDown (s : State) (p cause to_ : Nat) (cut : Bool) : State :=
  let was := s.num (O.ethLinkState p)
  let s0 := s.setNum (O.ethLinkState p) to_
  if was ≠ 2 then s0
  else
    let s1 := if cut then (s0.bump (O.ethRxFcsErrors p)).rcAdd (rEthDrop p) 7 0 else s0
    (if s.ethMember p then s1 else s1.bump (O.ethLinkDowns p)).ethEvent p 1 0x3402 (p8 cause)

end Sys2Proof.Machine
end

