-- ==== Sys2Proof/Machine/HostIf.lean ====
section
/-! DEFINITION. The host interface (13): access errors, MSI-X, address translation, DMA channels and their operations, and the
transmit rings. Data writes leave as `hostWrite` at host physical addresses; ring and descriptor write-backs as `ringWrite` at
device-virtual addresses, since their page tables are no operand of the commands. -/

namespace Sys2Proof.Machine

/-- Stores the host interface. -/
def State.setHif (s : State) (h : HifSt) : State := { s with hif := h }

/-- Whether the interface answers and its engines run (R386, R491). -/
def State.hostOn (s : State) : Bool := !s.hif.d3hot && decide (4 ≤ s.num O.startStartPhase) && s.num O.startStartPhase != 6

/-! ### Identity and the control matrix (R384, R407) -/

/-- The endpoint's configuration space as R384 gives it: Device ID, Revision ID, Class Code, Device Serial Number. The Vendor IDs come from
fuses and are not stated. -/
def State.pciIdentity (s : State) : Nat × Nat × Nat × List Byte := (0x9612, 0xB0, 0x040000, s.fuses.serial.take 8)

/-- Register slices of the masters M0 to M7 (Table 13-11). -/
def masterSlices : List Nat := [3, 1, 2, 2, 1, 2, 2, 4]
/-- Register slices of the targets T0 to T11 (Table 13-11). -/
def targetSlices : List Nat := [1, 1, 1, 2, 1, 2, 2, 2, 2, 2, 2, 2]

/-- The target of a Window A offset (Table 13-11). -/
def matrixTarget (off : Nat) : Nat :=
  if off < 0x010000 then 0 else if off < 0x020000 ∨ (0x300000 ≤ off ∧ off < 0x400000) then 1 else if off < 0x040000 then 2
  else if off < 0x080000 then 3 else if off < 0x100000 then 4 else if off < 0x300000 then 5
  else if 0x408000 ≤ off ∧ off < 0x40A000 then 8 else if 0x40A000 ≤ off ∧ off < 0x40E000 then 9
  else if 0x40E000 ≤ off ∧ off < 0x415000 then 10 else 11

/-- What the path from a master to a target adds to a read, in ns (R407); a write adds half of it. -/
def matrixReadNs (m t : Nat) : Nat := 2 * (masterSlices.getD m 0 + targetSlices.getD t 0) + (if 8 ≤ t then 32 else 0)

/-! ### Access errors (R10, R388) -/

/-- An access error of a kind is recorded, with event 0xE085 at most once per second. -/
def State.accessErr (s : State) (kind off : Nat) : State :=
  let w := kind * 2 ^ 30 + off % 2 ^ 30
  (((s.setBit 0x000004 0).setReg 0x000008 w).rcAdd 0x00000C 31 0).countSecond 0xE085 0 1 (p32 w)

/-- ACCESS_ERROR: a size or alignment that R10 does not allow; a read returns 0, a write is discarded; recorded at every offset, and in
D3hot answered with Unsupported Request as any request. -/
def execAccessError (isWrite : Bool) (off : BitVec 24) (_size : Nat) (s : State) : Res :=
  let o := off.toNat
  if s.hif.d3hot then .next s
  else if isWrite then .next (s.accessErr 0 o)
  else .next ((s.accessErr 0 o).emit (.regRead o 0))

/-- WINDOW_B_WRITE (R388): discarded, recorded with KIND 1. -/
def execWindowBWrite (off : BitVec 30) (s : State) : Res := .next (if s.hif.d3hot then s else s.accessErr 1 off.toNat)

/-! ### MSI-X (R390, R391) -/

/-- A pending vector that may send now sends its message. -/
def State.vecTry (s : State) (v : Nat) : State :=
  if tget allFalse s.hif.pba v && s.vecOpen v && s.vecDue v then s.sendVec v else s

/-- MSIX_INTERVAL_END (R391). -/
def execMsixIntervalEnd (v : Fin 2048) (at_ : Nat) (s0 : State) : Res := .next ((s0.toTick at_).vecTry v)

/-- MSIX_UNMASK (R391): one vector, or the function (MSI-X enabled, its mask cleared). -/
def execMsixUnmask (v : Option (Fin 2048)) (s : State) : Res :=
  match v with
  | some k => if !s.winOpen (0x04000C + 16 * k.val) then .next s else .next ((s.setReg (0x04000C + 16 * k.val) (setFld (s.reg (0x04000C + 16 * k.val)) 0 0 0)).vecTry k.val)
  | none =>
    let s1 := s.setHif { s.hif with msixEnabled := true, funcMask := false }
    .next ((tkeys s1.hif.pba).foldl (fun (x : State) k => x.vecTry k) s1)

/-! ### Resets and link (R386, R406) -/

/-- D3HOT_ENTRY (R386): the windows answer with Unsupported Request and the DMA engines stop fetching; a descriptor in progress is
not completed. -/
def execD3hotEntry (s : State) : Res :=
  if s.hif.d3hot then .next s
  else
    let dma := s.hif.dma.map (fun (p : Nat × DmaCh) => (p.1, { p.2 with run := none }))
    .next ((s.setHif { s.hif with d3hot := true, dma := dma.filter (fun p => p.2 != DmaCh.idle) }).raise 0xE082 (p8 4))

/-- D3HOT_EXIT (R386). -/
def execD3hotExit (s : State) : Res := .next (s.setHif { s.hif with d3hot := false })

/-- PCIE_LINK_TRAINED (R384, R406). -/
def execPcieLinkTrained (speed width : Nat) (s : State) : Res :=
  if !(decide (1 ≤ speed) && decide (speed ≤ 5) && [1, 2, 4, 8].contains width) ∨ (s.hif.speed = speed ∧ s.hif.width = width) then .next s
  else .next ((s.setHif { s.hif with speed := speed, width := width }).raise 0xE081 (p8 speed ++ p8 width))

/-! ### Address translation (R400, R401) -/

/-- An 8-byte word of host memory as the device reads it, or the completion fault that ends the transfer (Table 13-9). -/
def hostWord (h : HostMem) (a : Nat) : Except Nat Nat :=
  match tfind h (a / 8 * 8) with
  | some (.word w) => .ok w
  | some .timeout => .error 0xE094
  | some .poisoned => .error 0xE095
  | none => .error 0xE093

/-- Reserved bits of a page-table entry: all but VALID, WRITE, PS and the address. -/
def pteReserved (e : Nat) : Nat := e - (e % 2 + fld e 1 1 * 2 + fld e 7 7 * 128 + fld e 51 12 * 4096)

/-- A table entry: the next table's address goes on. -/
def pteNext (f : Nat → Except Nat (Nat × Nat × Bool)) (w : Except Nat Nat) : Except Nat (Nat × Nat × Bool) :=
  match w with
  | .error c => .error c
  | .ok e => if !bitOf e 0 || bitOf e 7 || pteReserved e != 0 then .error 0xE091 else f (fld e 51 12 * 4096)

/-- A page entry of 12 or 21 bits. -/
def pteLeaf (w : Except Nat Nat) (bits : Nat) : Except Nat (Nat × Nat × Bool) :=
  match w with
  | .error c => .error c
  | .ok e =>
    if !bitOf e 0 || pteReserved e != 0 || (bits == 12 && bitOf e 7) || fld e 51 12 * 4096 % 2 ^ bits != 0 then .error 0xE091
    else .ok (fld e 51 12 * 4096, bits, bitOf e 1)

/-- Level 1: a 2 MiB page or the table of 4 KiB pages. -/
def ptWalk1 (h : HostMem) (va t : Nat) : Except Nat (Nat × Nat × Bool) :=
  match hostWord h (t + 8 * fld va 29 21) with
  | .error c => .error c
  | .ok e =>
    if bitOf e 7 then pteLeaf (.ok e) 21
    else pteNext (fun u => pteLeaf (hostWord h (u + 8 * fld va 20 12)) 12) (.ok e)

/-- The walk of four levels (R400): the host page address, its page bits and WRITE, or the status that ends the transfer. -/
def ptWalk (h : HostMem) (va root : Nat) : Except Nat (Nat × Nat × Bool) :=
  pteNext (fun t => pteNext (ptWalk1 h va) (hostWord h (t + 8 * fld va 38 30))) (hostWord h (root + 8 * fld va 47 39))

/-- PT_ROOT_a. -/
def State.ptRoot (s : State) (asid : Nat) : Nat :=
  fld (s.reg (0x030004 + 8 * asid) * 2 ^ 32 + s.reg (0x030000 + 8 * asid)) 51 12 * 4096

/-- The cached translation of an address. -/
def State.tlbHit (s : State) (asid va : Nat) : Option TlbEntry :=
  s.hif.tlb.find? (fun e => e.asid == asid && e.page == va / 2 ^ e.bits)

/-- Translates a device-virtual address for a read or a write: the host physical address, or the status that ends the transfer. A miss
walks the tables and is cached; the oldest of 1,024 entries gives way. -/
def State.translate (s : State) (h : HostMem) (asid va : Nat) (write : Bool) : Except Nat Nat × State :=
  let va := va % 2 ^ 48
  match s.tlbHit asid va with
  | some e => if write && !e.writable then (.error 0xE092, s) else (.ok (e.host + va % 2 ^ e.bits), s)
  | none =>
    let s1 := s.rcAdd 0x030050 31 0
    match ptWalk h va (s.ptRoot asid) with
    | .error c => (.error c, s1)
    | .ok (page, bits, w) =>
      let s2 := s1.setHif { s1.hif with tlb := (⟨asid, va / 2 ^ bits, bits, page, w⟩ :: s1.hif.tlb).take 1024 }
      if write && !w then (.error 0xE092, s2) else (.ok (page + va % 2 ^ bits), s2)

/-- An invalidation removes the translations of its scope. -/
def tlbAfter (l : List TlbEntry) (scope asid addr : Nat) : List TlbEntry :=
  l.filter (fun e => !(scope == 0 || (e.asid == asid && (scope == 1 || (scope == 2 && e.page == addr % 2 ^ 48 / 2 ^ e.bits)))))

/-- A write of TLB_INV (R401): an invalidation starts, or waits for the one that runs. -/
def State.tlbInv (s : State) (w : Nat) : State :=
  if !bitOf w 31 then s
  else
    let addr := s.reg 0x03004C * 2 ^ 32 + s.reg 0x030048
    let q := (fld w 30 29, fld w 2 0, addr)
    match s.hif.inv with
    | none => s.setHif { s.hif with inv := some (q.1, q.2.1, q.2.2, s.now) }
    | some _ => s.setHif { s.hif with invQueue := s.hif.invQueue ++ [q] }

/-- TLB_INVALIDATE. -/
def execTlbInvalidate (w : Word) (s : State) : Res := .next (if s.winOpen 0x030040 then s.tlbInv w.toNat else s)

/-- TLB_INVALIDATE_DONE (R401): INV_DONE rises, or the next invalidation starts. -/
def execTlbInvalidateDone (at_ : Nat) (s0 : State) : Res :=
  let s := s0.toTick at_
  match s.hif.inv with
  | none => .next s
  | some (scope, asid, addr, _) =>
    let tlb := tlbAfter s.hif.tlb scope asid addr
    .next (match s.hif.invQueue with
      | [] => s.setHif { s.hif with tlb := tlb, inv := none }
      | q :: rest => s.setHif { s.hif with tlb := tlb, inv := some (q.1, q.2.1, q.2.2, s.now), invQueue := rest })

/-! ### DMA channels (R393–R399) -/

/-- DMA channel c. -/
def State.dch (s : State) (c : Nat) : DmaCh := tget dmaIdle s.hif.dma c
/-- Stores DMA channel c. -/
def State.setDch (s : State) (c : Nat) (v : DmaCh) : State := s.setHif { s.hif with dma := tset dmaIdle s.hif.dma c v }
/-- DMA_CH_CTRL_c. -/
def rDmaCtrl (c : Nat) : Nat := 0x020008 + 0x40 * c
/-- DMA_DOORBELL_c. -/
def rDmaBell (c : Nat) : Nat := 0x001000 + 4 * c

/-- DMA_DOORBELL: TAIL. -/
def execDmaDoorbell (c : Fin 128) (w : Word) (s : State) : Res :=
  if s.winOpen (rDmaBell c) then .next (s.setReg (rDmaBell c) (fld w.toNat 15 0)) else .next s

/-- Whether channel c fetches a descriptor now. -/
def State.chanFetches (s : State) (c : Nat) : Bool :=
  let ch := s.dch c
  s.hostOn && bitOf (s.reg (rDmaCtrl c)) 31 && !ch.halted && ch.run.isNone && ch.head != fld (s.reg (rDmaBell c)) 15 0

/-- Bytes of a transfer cut at the 4 KiB boundaries of the host address (R397), written to host memory from a buffer offset on:
the writes, the bytes done, and the status that ended it. -/
def State.dmaOut (s : State) (h : HostMem) (asid base : Nat) : Nat → Nat → List Byte → List (Nat × Nat × List Byte) →
    (List (Nat × Nat × List Byte) × Nat × Nat) × State
  | 0, off, _, acc => ((acc, off, 0), s)
  | fuel + 1, off, bs, acc =>
    if bs.isEmpty then ((acc, off, 0), s)
    else
      let va := base + off
      let n := 4096 - va % 4096
      match s.translate h asid va true with
      | (.error c, s1) => ((acc, off, c), s1)
      | (.ok pa, s1) =>
        let seg := bs.take n
        s1.dmaOut h asid base fuel (off + seg.length) (bs.drop n) (acc ++ [(off, pa, seg)])

/-- Bytes read from host memory by DMA: what was read and the status that ended it. -/
def State.dmaIn (s : State) (h : HostMem) (asid base : Nat) : Nat → Nat → Nat → List Byte → (List Byte × Nat) × State
  | 0, _, _, acc => ((acc, 0), s)
  | fuel + 1, off, left, acc =>
    if left = 0 then ((acc, 0), s)
    else
      let va := base + off
      match s.translate h asid va false with
      | (.error c, s1) => ((acc, c), s1)
      | (.ok pa, s1) =>
        match hostWord h pa with
        | .error e => ((acc, e), s1)
        | .ok w =>
          let n := min left (8 - pa % 8)
          s1.dmaIn h asid base fuel (off + n) (left - n) (acc ++ ((leBytes 8 w).drop (pa % 8)).take n)

/-- The descriptor runs to a status: it is in progress until DESCRIPTOR_COMPLETE. -/
def State.descRun (s : State) (c : Nat) (d : Descriptor) (status progress time : Nat) (writes : List (Nat × Nat × List Byte)) : State :=
  s.setDch c { s.dch c with run := some ⟨d.op.toNat, bitOf d.flags.toNat 7, d.length.toNat, d.hostAddr.toNat, d.arg.toNat, status, progress,
                                          time, writes, none, none⟩, faulted := none }

/-- Whether a descriptor's form fits its operation and its channel's CLASS (R394): operation, classes, bytes needed. -/
def State.descForm (s : State) (c : Nat) (d : Descriptor) (classes : List Nat) (need : Nat) : Bool :=
  decide (1 ≤ d.length.toNat) && decide (d.length.toNat ≤ 2147483648) && decide (need ≤ d.length.toNat) &&
  d.hostAddr.toNat % 64 == 0 && classes.contains (fld (s.reg (rDmaCtrl c)) 29 28)

/-- RESUME_TOKEN (Table 13-5). -/
def resumeToken (c no progress : Nat) : Nat := c % 128 * 2 ^ 57 + no % 2 ^ 25 * 2 ^ 32 + progress % 2 ^ 32

/-- Allocatable pages of the variant (R389). -/
def storePages (v : Variant) : Nat := match v with | .t => 2048 | _ => 24576

/-- Bytes of the store from a byte address: a poisoned word of 64 bytes reads all ones (R389); the layout of essence in pages is
not stated, so the rest is free. -/
def State.storeBytes (s : State) (a n : Nat) : List Byte × Bool × State :=
  let (b, s1) := s.freeBytes n
  let bad (i : Nat) : Bool := s.ess.store.poisoned.any (fun p => p.1 == (a + i) / 2097152 && p.2 == (a + i) % 2097152 / 64)
  let out := (List.range n).map (fun i => if bad i then (0xFF : Byte) else b.getD i 0)
  (out, (List.range n).any bad, s1)

/-- ASID of channel c. -/
def State.chanAsid (s : State) (c : Nat) : Nat := fld (s.reg (rDmaCtrl c)) 27 25

/-- STORE_READ (R389, R394, R399, Table 13-6). -/
def execStoreRead (c : Fin 128) (d : Descriptor) (host : HostMem) (s : State) : Res :=
  if !s.chanFetches c then .next s
  else
    let ch := s.dch c
    let len := d.length.toNat
    let arg := d.arg.toNat
    let resume := bitOf d.flags.toNat 6
    let from_ : Option Nat :=
      if !resume then some 0
      else match ch.faulted with
        | some f => if f.op = d.op.toNat ∧ f.length = len ∧ f.hostAddr = d.hostAddr.toNat ∧ f.arg = arg ∧ f.token = d.resumeIn.toNat then
            some f.progress else none
        | none => none
    if d.op.toNat ≠ 1 ∨ !s.descForm c d [1, 2] 1 ∨ 2 ^ 36 ≤ arg ∨ storePages s.fuses.variant * 2097152 < arg + len then
      .next (s.descRun c d 0xE096 0 s.pt96 [])
    else match from_ with
      | none => .next (s.descRun c d 0xE09B 0 s.pt96 [])
      | some p =>
        let (bytes, bad, s1) := s.storeBytes (arg + p) (len - p)
        let (r, s2) := s1.dmaOut host (s1.chanAsid c) d.hostAddr.toNat (len / 4096 + 2) p bytes []
        .next (s2.descRun c d (if r.2.2 ≠ 0 then r.2.2 else if bad then 0xE09C else 0) r.2.1 s2.pt96 r.1)

/-- A read of Window B (R389): the page that WINB_MAP_i names as the store holds it; a frame without a valid entry reads 0. -/
def State.windowBBytes (s : State) (off n : Nat) : List Byte × State :=
  let w := s.reg (0x028000 + 4 * (off / 2097152 % 512))
  let page := fld w 14 0
  if !bitOf w 31 ∨ storePages s.fuses.variant ≤ page then (List.replicate n 0, s)
  else (let (b, _, s1) := s.storeBytes (page * 2097152 + off % 2097152) n; (b, s1))

/-- What a capture or snapshot writes of the lines or samples it has: an absent one ends it with 0xE098 at its first byte, an overrun with
0xE099. -/
def State.captureOut (s : State) (c : Nat) (r0 : DescRun) (host : HostMem) (units : List (Option (List Byte))) (overrunAt : Option Nat)
    (time : Nat) : DescRun × State :=
  let good := units.takeWhile Option.isSome
  let (n, st) : Nat × Nat :=
    match overrunAt with
    | some k => if k < good.length then (k, 0xE099) else (good.length, if good.length < units.length then 0xE098 else 0)
    | none => (good.length, if good.length < units.length then 0xE098 else 0)
  let bytes := ((good.take n).map (fun u => u.getD [])).flatten
  let (r, s1) := s.dmaOut host (s.chanAsid c) r0.hostAddr (bytes.length / 4096 + 2) 0 bytes []
  ({ r0 with status := if r.2.2 ≠ 0 then r.2.2 else st, progress := r.2.1, time := time, writes := r.1, cap := none }, s1)

/-- A capture is in progress: it takes what is released from now on (R395). -/
def State.capBegins (s : State) (c : Nat) (d : Descriptor) (cp : CapRun) : State :=
  let s1 := s.descRun c d 0 0 s.pt96 []
  s1.setDch c { s1.dch c with run := (s1.dch c).run.map (fun r => { r with cap := some cp }) }

/-- Whether a stream may be captured: local and known, or held (R395). -/
def State.capturable (s : State) (sid : Nat) : Bool :=
  !sidGen sid && sidOk sid && (if s.sidLocal sid then s.slotKind (sidSlot sid) != 0 && s.slotEnabled (sidSlot sid) else (s.heldFor sid).isSome)

/-- The active lines of a raster in order. -/
def activeLines (f : Nat) : List Nat := (List.range (fmtLines f + 1)).filter (fun i => fmtActive f i)

/-- The raster of a video stream to capture, 0 unknown. -/
def State.capRaster (s : State) (sid : Nat) : Nat :=
  if s.sidLocal sid then s.slotRaster (sidSlot sid) else match s.heldFor sid with | some p => p.2.fmt | none => 0

/-- The lines of one frame that were released, from the first active one: of those in `us`, oldest first, each with its number and its
bytes, none where it was absent. The frame ends where the first active line comes again. -/
def capLines (lines : List Nat) (us : List (Nat × Option (List Byte))) : List (Option (List Byte)) :=
  let l := us.dropWhile (fun u => u.1 != lines.headD 0)
  let frame := l.take 1 ++ (l.drop 1).takeWhile (fun u => u.1 != lines.headD 0)
  let last := ((frame.map Prod.fst).filter (fun n => lines.contains n)).foldl max 0
  let past := frame.length < l.length
  (lines.filter (fun n => past || decide (n ≤ last))).map (fun n => ((frame.find? (fun u => u.1 == n)).map Prod.snd).getD none)

/-- What a capture has so far: its lines, or samples of every channel, with the time of the first, and whether that is all (R395). -/
def State.capUnits (s : State) (r : DescRun) (cp : CapRun) : List (Option (List Byte)) × Nat × Bool :=
  let sid := fld r.arg 31 0
  if r.op = 3 then
    (let f := s.capRaster sid
     let lines := activeLines f
     let sl := s.slot (sidSlot sid)
     let here := if s.sidLocal sid then s.isPresent (sid % 2 ^ 28) else (s.heldFor sid).isSome
     let k := ((sl.rel.map (fun u => u.k)).filter (fun j => decide (cp.from_ ≤ j))).foldl min (cp.from_ + 2 ^ 64)
     let us : List (Nat × Option (List Byte)) := if s.sidLocal sid then
         ((sl.rel.filter (fun u => u.k == k && u.sub == sidSub sid)).reverse).map (fun u => (u.n, some u.data)) ++
           (if sl.rel.any (fun u => decide (k < u.k)) then [(lines.headD 0, none)] else [])
       else match s.heldFor sid with
         | some p => ((p.2.shown.filter (fun u => decide (cp.from_ < u.at_))).reverse).map (fun u =>
             (u.unit, match u with | ⟨_, _, false, .video x⟩ => some x | _ => none))
         | none => []
     let got := capLines lines us
     let out := if here then got else got ++ [none]
     let t0 := if s.sidLocal sid then s.relTime f k 1 else match s.heldFor sid with
       | some p => (((p.2.shown.filter (fun u => decide (cp.from_ < u.at_))).reverse).headD ⟨0, 0, true, .video []⟩).at_
       | none => 0
     (out.take lines.length, t0 / 2 ^ 32 % 2 ^ 96, out.any Option.isNone || decide (lines.length ≤ got.length)))
  else
    (let n := fld r.arg 63 32
     let sids := (List.range cp.count).map (fun i => sid + i)
     let away := sids.any (fun x => if s.sidLocal x then !s.isPresent (x % 2 ^ 28) else (s.heldFor x).isNone)
     let next := (sids.map (fun x => (s.chan (s.chanKey x)).next)).foldl min ((s.chan (s.chanKey sid)).next)
     let m := min n (next - cp.from_)
     let out := (List.range m).flatMap (fun i => sids.map (fun x =>
       (s.chanAt x (cp.from_ + i)).map (fun v => leBytes 4 (twos 32 (signed 24 v))))) ++ (if away ∧ m < n then [none] else [])
     (out, samplePt (s.chanRate sid 48 * 1000) cp.from_ / 2 ^ 32 % 2 ^ 96, out.any Option.isNone || decide (n ≤ m)))

/-- CAPTURE_VIDEO (R395, Table 13-6): the first frame whose line 1 is released after the descriptor is fetched. -/
def execCaptureVideo (c : Fin 128) (d : Descriptor) (host : HostMem) (overrunAt : Option Nat) (s : State) : Res :=
  if !s.chanFetches c then .next s
  else
    let sid := fld d.arg.toNat 31 0
    let f := s.capRaster sid
    let need := fmtLineBytes f * fmtActiveLines f
    if bitOf d.flags.toNat 6 then .next (s.descRun c d 0xE09B 0 s.pt96 [])
    else if d.op.toNat ≠ 3 ∨ sidClass sid ≠ 0 ∨ !s.descForm c d [0] need then .next (s.descRun c d 0xE096 0 s.pt96 [])
    else if !s.capturable sid ∨ f = 0 then .next (s.descRun c d 0xE097 0 s.pt96 [])
    else
      .next (s.capBegins c d ⟨host, if s.sidLocal sid then ((s.slot (sidSlot sid)).rel.map (fun u => u.k + 1)).foldl max 0 else s.tm.pt, 1,
        overrunAt⟩)

/-- CAPTURE_AUDIO (R395, Table 13-6): N samples from the first released after the descriptor is fetched, sample-major, sign-extended to 4
bytes. -/
def execCaptureAudio (c : Fin 128) (d : Descriptor) (host : HostMem) (overrunAt : Option Nat) (s : State) : Res :=
  if !s.chanFetches c then .next s
  else
    let sid := fld d.arg.toNat 31 0
    let n := fld d.arg.toNat 63 32
    let m := d.count.toNat
    let sids := (List.range m).map (fun i => sid + i)
    if bitOf d.flags.toNat 6 then .next (s.descRun c d 0xE09B 0 s.pt96 [])
    else if d.op.toNat ≠ 4 ∨ sidClass sid ≠ 1 ∨ m = 0 ∨ 128 < sidSub sid + m ∨ !s.descForm c d [0] (4 * n * m) then
      .next (s.descRun c d 0xE096 0 s.pt96 [])
    else if !sids.all (fun x => s.capturable x) then .next (s.descRun c d 0xE097 0 s.pt96 [])
    else
      .next (s.capBegins c d ⟨host, (sids.map (fun x => (s.chan (s.chanKey x)).next)).foldl max 0, m, overrunAt⟩)

/-- Meters of the variant (Table 9-1). -/
def meterCount (v : Variant) : Nat := match v with | .t => 512 | _ => 4096

/-- METER_SNAPSHOT (R394, Table 13-6). -/
def execMeterSnapshot (c : Fin 128) (d : Descriptor) (host : HostMem) (s : State) : Res :=
  if !s.chanFetches c then .next s
  else
    let m0 := fld d.arg.toNat 15 0
    let n := d.count.toNat
    if bitOf d.flags.toNat 6 then .next (s.descRun c d 0xE09B 0 s.pt96 [])
    else if d.op.toNat ≠ 5 ∨ n = 0 ∨ meterCount s.fuses.variant < m0 + n ∨ !s.descForm c d [0] (4 * n) then .next (s.descRun c d 0xE096 0 s.pt96 [])
    else
      let units := (List.range n).map (fun i => some (leBytes 4 (s.num (O.meterValue (m0 + i)))))
      let time := (s.tm.pt - (s.now - s.str.metered) * s.tm.inc) / 2 ^ 32 % 2 ^ 96
      let r0 : DescRun := ⟨5, bitOf d.flags.toNat 7, d.length.toNat, d.hostAddr.toNat, d.arg.toNat, 0, 0, time, [], none, none⟩
      let (r, s1) := s.captureOut c r0 host units none time
      .next (s1.setDch c { s1.dch c with run := some r, faulted := none })

/-! ### INSERT_ANC (R396) -/

/-- The number a run of bits spells. -/
def bitsNat (l : List Bool) : Nat := l.foldl (fun a b => 2 * a + b2n b) 0
/-- The bits of bytes, most significant first. -/
def bytesBits (l : List Byte) : List Bool := l.flatMap (fun b => (List.range 8).map (fun i => b.getLsbD (7 - i)))

/-- Ancillary packets in the packet layout of RFC 8331: C 1, Line 11, Horizontal offset 12, S 1, StreamNum 7, DID 10, SDID 10, Data count
10, words 10 each, checksum 10, aligned to 32 bits. -/
def anc8331 : Nat → List Bool → List AncPkt
  | 0, _ => []
  | fuel + 1, l =>
    if l.length < 72 then []
    else
      let f (a n : Nat) : Nat := bitsNat ((l.drop a).take n)
      let did := f 32 10
      let sdid := f 42 10
      let dc := f 52 10 % 256
      let words := (List.range dc).map (fun i => f (62 + 10 * i) 10)
      let ck := f (62 + 10 * dc) 10
      let sum := ((did :: sdid :: f 52 10 :: words).map (fun w => w % 512)).foldl (· + ·) 0 % 512
      let total := (72 + 10 * dc + 31) / 32 * 32
      ⟨BitVec.ofNat 8 did, BitVec.ofNat 8 sdid, f 1 11, f 12 12, f 0 1 == 1, if f 24 1 = 1 then f 25 7 + 1 else 1,
        words.map (fun w => BitVec.ofNat 8 w), ck % 512 == sum⟩ :: anc8331 fuel (l.drop total)

/-- The first grid frame whose switching line falls at least 2 lines from now and takes no insertion yet. -/
def State.insertFrame (s : State) (o : Nat) : Nat :=
  let f := s.outRaster o
  let k0 := gridFrame (f % 256) s.tm.pt
  let used := (s.out_ o).ins.map Prod.fst
  ((List.range (used.length + 4)).map (fun i => k0 + i - 1)).find? (fun k =>
    !used.contains k && decide (s.tm.pt + linesPt f 2 1 ≤ s.outTime o (s.outVideo o) k (s.switchLine o k))) |>.getD (k0 + 3)

/-- INSERT_ANC (R396): what it inserts takes effect as its transfer completes. -/
def execInsertAnc (c : Fin 128) (d : Descriptor) (host : HostMem) (s : State) : Res :=
  if !s.chanFetches c then .next s
  else
    let o := fld d.arg.toNat 7 0
    let len := d.length.toNat
    if bitOf d.flags.toNat 6 then .next (s.descRun c d 0xE09B 0 s.pt96 [])
    else if d.op.toNat ≠ 6 ∨ variantLanes s.fuses.variant ≤ o ∨ 4096 < len ∨ !s.descForm c d [0] 1 then .next (s.descRun c d 0xE096 0 s.pt96 [])
    else
      let (r, s1) := s.dmaIn host (s.chanAsid c) d.hostAddr.toNat (len + 1) 0 len []
      if r.2 ≠ 0 then .next (s1.descRun c d r.2 r.1.length s1.pt96 [])
      else
        let s2 := s1.descRun c d 0 len s1.pt96 []
        let pk := (anc8331 (len / 8 + 1) (bytesBits r.1)).filter (fun p => p.ckOk)
        .next (s2.setDch c { s2.dch c with run := (s2.dch c).run.map (fun q => { q with anc := some pk }) })

/-- The transfer of an INSERT_ANC descriptor is complete: its packets join the output's ancillary data of a frame, whose switching instant
is its TIME (R396). -/
def State.insertNow (s : State) (r : DescRun) : DescRun × State :=
  match r.anc with
  | none => (r, s)
  | some pk =>
    let o := fld r.arg 7 0
    let k := s.insertFrame o
    let x := s.out_ o
    ({ r with time := s.outTime o (s.outVideo o) k (s.switchLine o k) / 2 ^ 32 % 2 ^ 96 }, s.setOut o { x with ins := x.ins ++ [(k, pk)] })

/-! ### Completion (R398) -/

/-- Indices run modulo twice the ring size (R218). -/
def ringNext (i size : Nat) : Nat := (i + 1) % (2 * size)
/-- Entries of a ring by its control word. -/
def ringSize (ctrl : Nat) : Nat := 2 ^ (min 15 (max 4 (fld ctrl 24 21)))

/-- A descriptor completes with a status and progress: its writes up to it, then bytes 32–63, then HEAD and the signal (R398). -/
def State.descDone (s : State) (c : Nat) (r : DescRun) (status progress : Nat) : State :=
  let ch := s.dch c
  let ctrl := s.reg (rDmaCtrl c)
  let size := ringSize ctrl
  let base := s.reg (0x020004 + 0x40 * c) * 2 ^ 32 + s.reg (0x020000 + 0x40 * c)
  let halts := decide (0xE091 ≤ status ∧ status ≤ 0xE095)
  let token := if halts && r.op == 1 then resumeToken c ch.descNo progress else 0
  let s1 := (r.writes.filter (fun (w : Nat × Nat × List Byte) => decide (w.1 < progress))).foldl (fun (x : State) (w : Nat × Nat × List Byte) => x.emit (.hostWrite w.2.1 w.2.2)) s
  let s2 := s1.emit (.ringWrite (s.chanAsid c) (base + 64 * (ch.head % size) + 32)
    (leBytes 2 status ++ leBytes 2 0 ++ leBytes 4 progress ++ leBytes 8 token ++ leBytes 12 r.time ++ leBytes 4 (2 ^ 31)))
  let s3 := s2.setDch c { ch with
    head := ringNext ch.head size
    descNo := ch.descNo + 1
    run := none
    lastStatus := status
    halted := halts
    faulted := if halts && r.op == 1 then some ⟨r.op, r.length, r.hostAddr, r.arg, token, progress⟩ else none }
  let s4 := if r.irq && bitOf ctrl 30 then s3.signal (fld ctrl 10 0) else s3
  if halts then
    let s5 := (s4.raise 0xE083 (p8 c ++ p16 status ++ p32 progress)).report 288 0xE083
    if bitOf ctrl 30 && !r.irq then s5.signal (fld ctrl 10 0) else s5
  else s4

/-- DESCRIPTOR_COMPLETE; a capture completes once it has its frame or samples, or is cut short (R395). -/
def execDescriptorComplete (c : Fin 128) (s : State) : Res :=
  match (s.dch c).run with
  | some r =>
    (match r.cap with
     | none => .next ((s.insertNow r).2.descDone c (s.insertNow r).1 r.status r.progress)
     | some cp =>
       let (units, time, past) := s.capUnits r cp
       if !past && cp.overrun.isNone then .next s
       else
         let (r1, s1) := s.captureOut c r cp.host units cp.overrun time
         .next (s1.descDone c r1 r1.status r1.progress))
  | none => .next s

/-- ENABLE of channel c is cleared (R393): the descriptor in progress completes with 0xE09A at a 4 KiB boundary of its transfer no
later than `progress`, and the indices return to 0. -/
def State.chanOff (s : State) (c progress : Nat) : State :=
  let s0 := match (s.dch c).run with
    | some q =>
      let (r, s) := match q.cap with
        | some cp => let (units, time, _) := s.capUnits q cp; s.captureOut c q cp.host units cp.overrun time
        | none => (q, s)
      let cut := ((r.writes.map (fun (w : Nat × Nat × List Byte) => w.1)).filter (fun (b : Nat) => decide (b ≤ progress))).foldl max 0
      s.descDone c r 0xE09A (min cut r.progress)
    | none => s
  let s1 := s0.setReg (rDmaCtrl c) (setFld (s0.reg (rDmaCtrl c)) 31 31 0)
  (s1.setReg (rDmaBell c) 0).setDch c { s1.dch c with head := 0, descNo := 0, faulted := none, run := none }

/-- DMA_CHANNEL_DISABLE. -/
def execDmaChannelDisable (c : Fin 128) (progress : Word) (s : State) : Res :=
  if s.winOpen (rDmaCtrl c) && bitOf (s.reg (rDmaCtrl c)) 31 then .next (s.chanOff c progress.toNat) else .next s

/-- DMA_RESUME (R398): HALTED is written with 1. -/
def execDmaResume (c : Fin 128) (s : State) : Res :=
  .next (if s.winOpen (rDmaCtrl c) then s.setDch c { s.dch c with halted := false } else s)

/-! ### Transmit rings (R404) -/

/-- Ring r, receive 0–63, transmit 64–127. -/
def State.ring (s : State) (r : Nat) : RingSt := tget ringIdle s.hif.rings r
/-- Stores ring r. -/
def State.setRing (s : State) (r : Nat) (v : RingSt) : State := s.setHif { s.hif with rings := tset ringIdle s.hif.rings r v }
/-- Register base of ring r. -/
def rRing (r : Nat) : Nat := 0x022000 + 0x20 * r + (if 64 ≤ r then 0x800 else 0)

/-- HEAD of ring r advances by n entries, with its signal. -/
def State.ringAdvance (s : State) (r n : Nat) : State :=
  let ctrl := s.reg (rRing r + 8)
  let x := s.ring r
  let s1 := s.setRing r { x with head := (x.head + n) % (2 * ringSize ctrl) }
  if bitOf ctrl 30 then s1.signal (fld ctrl 10 0) else s1

/-- STATUS of a frame is written in its EOF descriptor. -/
def State.txStatus (s : State) (r desc st : Nat) : State :=
  s.emit (.ringWrite (fld (s.reg (rRing (64 + r) + 8)) 27 25) (desc + 16) (leBytes 2 st))

/-- Descriptors of frames of a ring. -/
def ringDescs (l : List RingTx) : Nat := (l.map RingTx.descs).foldl (· + ·) 0

/-- A frame of transmit ring r is complete: its STATUS is written in its EOF descriptor, and HEAD passes the complete frames it has reached
(R404). A frame that its ring no longer holds, which was disabled or reset, gets no STATUS. -/
def State.txDone (s : State) (r desc st : Nat) : State :=
  let x := s.ring (64 + r)
  if !x.busy.any (fun q => q.desc == desc) then s
  else
    let l := x.busy.map (fun (q : RingTx) => if q.desc = desc then { q with done := true } else q)
    let s1 := (s.txStatus r desc st).setRing (64 + r) { x with busy := l.dropWhile RingTx.done }
    let n := ringDescs (l.takeWhile RingTx.done)
    if n = 0 then s1 else s1.ringAdvance (64 + r) n

/-- Whether a frame that waits may start as far as its ring is concerned: frames of one ring leave in ring order (R404). -/
def State.frameTurn (s : State) (f : HostTx) : Bool :=
  let l := (s.ring (64 + f.ring)).busy
  f.servo.isSome || !l.any (fun q => q.desc == f.desc) || ((l.find? (fun q => !q.done)).map RingTx.desc) == some f.desc

/-- One frame of transmit ring r is fetched (R404). -/
def State.txFrame (s : State) (r : Nat) (f : TxFrame) : State :=
  let x := s.ring (64 + r)
  let base := s.reg (rRing (64 + r) + 4) * 2 ^ 32 + s.reg (rRing (64 + r))
  let desc := base + 32 * ((x.head + ringDescs x.busy + f.descs - 1) % ringSize (s.reg (rRing (64 + r) + 8)))
  let s1 := s.setRing (64 + r) { x with busy := x.busy ++ [⟨desc, f.descs, false⟩] }
  let len := max 64 (f.bytes.length + 4)
  if 9216 < f.bytes.length + 4 ∨ 8 < f.descs ∨ bitOf f.tsId.toNat 15 then s1.txDone r desc 1
  else if f.fault then s1.txDone r desc 3
  else if 96 ≤ f.lane ∨ !s.laneOn f.lane ∨ s.laneMode f.lane ≠ 2 ∨ !s.ethUp f.lane ∨ s.ethMember f.lane then s1.txDone r desc 2
  else
    let p := s1.eth_ f.lane
    s1.setEth f.lane { p with wait := p.wait ++ [⟨len, r, f.tsReq, f.tsId.toNat, desc,
      f.bytes ++ List.replicate (60 - f.bytes.length) 0, none⟩] }

/-- TX_RING_DOORBELL: TAIL, and the frames fetched. -/
def execTxRingDoorbell (r : Fin 64) (w : Word) (frames : List TxFrame) (s : State) : Res :=
  if !s.winOpen (0x001300 + 4 * r.val) then .next s
  else
    let s1 := s.setReg (0x001300 + 4 * r.val) (fld w.toNat 15 0)
    if bitOf (s1.reg (rRing (64 + r.val) + 8)) 31 then .next (frames.foldl (fun (x : State) f => x.txFrame r.val f) s1) else .next s1

end Sys2Proof.Machine
end

