-- ==== Sys2Proof/Machine/EthRx.lean ====
section
/-! DEFINITION. Receiving on Ethernet lanes (R115–R133): classification, punting, flow contexts, ST 2022-7 pairs. -/

namespace Sys2Proof.Machine

/-! ### Punting (R121–R123, R402, R403) -/

/-- A frame's bytes over free buffers in ring order: (chunk, address, descriptor address), and the bytes left over. -/
def fillBufs : List Byte → List (Nat × Nat × Nat) → List (List Byte × Nat × Nat) × List Byte
  | bs, [] => ([], bs)
  | bs, (len, addr, desc) :: rest =>
    if bs.isEmpty then ([], [])
    else
      let (l, r) := fillBufs (bs.drop len) rest
      ((bs.take len, addr, desc) :: l, r)

/-- Free descriptors of receive ring r. -/
def State.ringFree (s : State) (r : Nat) : Nat :=
  let ctrl := s.reg (rRing r + 8)
  if !bitOf ctrl 31 ∨ !s.hostOn then 0
  else (s.reg (0x001200 + 4 * r) + 2 * ringSize ctrl - (s.ring r).head) % (2 * ringSize ctrl)

/-- TS80 of a stamp in quarter nanoseconds, as 10 little-endian bytes, and its fraction (R140, R402). -/
def stampBytes (q : Nat) : List Byte :=
  leBytes 4 (q / 4 % 1000000000) ++ leBytes 6 (q / 4 / 1000000000) ++ leBytes 1 (q % 4)

/-- A frame is written to receive ring r (R402, R403). -/
def State.ringFrame (s : State) (r p cls flags tci stamp : Nat) (bytes : List Byte) (bufs : List (Nat × Nat × Nat)) : State :=
  let free := bufs.take (s.ringFree r)
  if free.isEmpty then s.rcAdd (rRing r + 0x10) 15 0
  else
    let asid := fld (s.reg (rRing r + 8)) 27 25
    let (parts, rest) := fillBufs bytes free
    let cut := !rest.isEmpty
    let n := parts.length
    let s1 := (parts.zipIdx).foldl (fun (x : State) (q : (List Byte × Nat × Nat) × Nat) =>
      let (chunk, addr, desc) := q.1
      let sof := q.2 == 0
      let eof := q.2 + 1 == n
      let fl := b2n sof + 2 * b2n eof + 4 * b2n (eof && cut) + flags + 2 ^ 15
      (x.emit (.ringWrite asid addr chunk)).emit (.ringWrite asid (desc + 10)
        (leBytes 2 chunk.length ++ leBytes 2 fl ++ leBytes 1 p ++ leBytes 1 cls ++
         (if sof then stampBytes stamp else List.replicate 11 0) ++ leBytes 1 0 ++ leBytes 2 tci))) s
    let s2 := if cut then (s1.rcAdd (rRing r + 0x10) 31 16).countSecond 0xE084 r 1 (p8 r) else s1
    s2.ringAdvance r n

/-- A frame of a punt class passes its token bucket and is written to its ring (R121, R123). -/
def State.punt (s : State) (p cls flags tci : Nat) (bytes : List Byte) (bufs : List (Nat × Nat × Nat)) : State :=
  let ring := byteAt (s.bytes (O.ethPuntRing p)) cls
  if ring = 0xFF then s
  else
    let e := s.eth_ p
    let burst := s.num (O.ethPuntBurst p) * tickS
    let lvl := match tfind e.buckets cls with
      | none => burst
      | some b => min burst (b.level + s.num (O.ethPuntRate p) * (s.now - b.last))
    if lvl < tickS then
      (((s.setEth p { e with buckets := tput e.buckets cls ⟨lvl, s.now⟩ }).bump (O.ethRxPuntDropped p)).setBit (rEthEvt p) 9).countSecond
        0x340A (8 * p + cls) 1 (p8 p ++ p8 cls)
    else
      let s1 := (s.setEth p { e with buckets := tput e.buckets cls ⟨lvl - tickS, s.now⟩ }).bump (O.ethRxPunted p)
      s1.ringFrame ring p cls flags tci (s.rxQuarter p) bytes bufs

/-! ### Flow contexts -/

/-- Valid receive contexts. -/
def State.rxFlows (s : State) : List (Nat × List Byte) :=
  s.objs.filterMap (fun p =>
    let ix := keyIx p.1
    if 0x3800 ≤ ix ∧ ix ≤ 0x383F ∧ 1 ≤ keySub p.1 ∧ flowValid p.2.bytes then
      some ((ix - 0x3800) * 128 + (keySub p.1 - 1), p.2.bytes) else none)

/-- Valid send contexts. -/
def State.txFlows (s : State) : List (Nat × List Byte) :=
  s.objs.filterMap (fun p =>
    let ix := keyIx p.1
    if 0x3840 ≤ ix ∧ ix ≤ 0x387F ∧ 1 ≤ keySub p.1 ∧ flowValid p.2.bytes then
      some ((ix - 0x3840) * 128 + (keySub p.1 - 1), p.2.bytes) else none)

/-- An address field of a flow context. -/
def addrAt (b : List Byte) (i : Nat) : Nat := ofBe ((b.drop i).take 16)

/-- A flow's streams become present (R126): a source of which nothing was present is acquired (R155), and a video flow that returns to a
source that went on rejoins it with its next line 1 (R159). -/
def State.ctxPresent (s : State) (b : List Byte) : State :=
  let n := byteAt b 40
  if !s.slotEnabled n ∨ (s.ctxStreams b).all (fun k => s.isPresent k) then s
  else if !s.slotPresent n then s.slotReturn n (s.slotRaster n)
  else if byteAt b 1 = 1 ∨ byteAt b 1 = 5 then s
  else s.setPresents (s.ctxStreams b) true

/-- The streams of context r, of bytes b, that no other active flow of its slot carries. -/
def State.fedAlone (s : State) (r : Nat) (b : List Byte) : List Nat :=
  let others := s.rxFlows.filter (fun q => q.1 != r && byteAt q.2 40 == byteAt b 40 && s.rxLead q.1 != s.rxLead r && (s.rx (s.rxLead q.1)).active)
  (s.ctxStreams b).filter (fun k => !others.any (fun q => (s.ctxStreams q.2).contains k))

/-- The 32-bit RTP timestamp of a clock as Pacer time, the one nearest to now (R136: clocks count from the epoch of PT96). -/
def State.rtpPt (s : State) (hz ts : Nat) : Nat :=
  let c := s.tm.pt * hz / (1000000000 * ptNs)
  let t := ((c : Int) + signed 32 ((ts + 2 ^ 32 - c % 2 ^ 32) % 2 ^ 32)).toNat
  ceilDiv (t * 1000000000 * ptNs) hz

/-- The house sample number that a sample clock's RTP timestamp gives. -/
def State.rtpSample (s : State) (fs ts : Nat) : Nat :=
  let c := s.tm.pt * fs / (1000000000 * ptNs)
  ((c : Int) + signed 32 ((ts + 2 ^ 32 - c % 2 ^ 32) % 2 ^ 32)).toNat

/-- The raster line of active row i. -/
def flowLine (f i : Nat) : Nat := (((List.range (fmtLines f + 1)).filter (fun n => fmtActive f n))[i]?).getD 0

/-! ### ST 2110-20 (R127, R128) -/

/-- A line's bytes with the received parts laid over a fill. -/
def overlay (fill : List Byte) (parts : List (Nat × List Byte)) : List Byte :=
  parts.foldl (fun b p => b.take p.1 ++ p.2 ++ b.drop (p.1 + p.2.length)) fill

/-- Row i of the open frame enters the Aligner with what was received of it (R127). -/
def State.rowEnter (s : State) (r i : Nat) (parts : List (Nat × List Byte)) : State :=
  let b := s.rxFlow r
  let f := halfAt b 44
  let x := s.rx r
  let line := flowLine f i
  let n := byteAt b 40
  let first := (fmtFirstActive f).contains line
  let fill := if first then blackLine f else (if x.prev.isEmpty then blackLine f else x.prev)
  let data := overlay fill parts
  let whole := decide (fmtLineBytes f ≤ (parts.map (fun p => p.2.length)).foldl (· + ·) 0)
  let s1 := s.setRx r { x with prev := data, closed := some i, row := none, parts := [], fresh := x.fresh && !whole }
  let s2 := if x.fresh && whole then s1.ctxPresent b else s1
  if x.fresh && !whole then s2 else s2.enterLine n 0 line data [] [] []

/-- The open line is closed (R127). -/
def State.rowClose (s : State) (r : Nat) : State :=
  match (s.rx r).row with
  | some i => s.rowEnter r i (s.rx r).parts
  | none => s

/-- Rows lost whole between the last closed row and row i of the frame enter as copies. -/
def State.rowsLost (s : State) (r i : Nat) : State :=
  let from_ := match (s.rx r).closed with | some c => c + 1 | none => 0
  (List.range (i - from_)).foldl (fun (x : State) j => x.rowEnter r (from_ + j) []) s

/-- A frame of a video flow begins with its RTP time: line 1 enters at the arrival of the frame's first row (R140), less the lines before it
and with the receive stage (R132, R147). -/
def State.frameBegins (s : State) (r ts i : Nat) : State :=
  let b := s.rxFlow r
  let f := halfAt b 44
  let n := byteAt b 40
  let stage := linesPt f 1 1 + (if (s.rxPartner r).isSome then halfAt b 48 * 1000 * ptNs else 0)
  let x := s.rx r
  let entry := x.arr + stage - linesPt f (flowLine f i - 1) 1
  let s1 := (s.setRx r { x with frame := some ts, closed := none, row := none, parts := [] }).enterLineAt entry n 0 1 [] [] [] []
  match (s1.member n 0).cur with
  | some k =>
    let sl := s1.slot n
    s1.setSlot n { sl with rtp := ((k, s1.rtpPt 90000 ts) :: sl.rtp).take 16 }
  | none => s1

/-- A sample row of a video packet. -/
def State.videoRow (s : State) (r ts : Nat) (row : Nat × Nat × List Byte) : State :=
  let (i, off, bytes) := row
  let f := halfAt (s.rxFlow r) 44
  let x := s.rx r
  let field2 (j : Nat) : Bool := match fmtFirstActive f with | [_, g] => decide (g ≤ flowLine f j) | _ => false
  let last := match x.row with | some j => some j | none => x.closed
  let newer := match x.frame with | some t => decide (0 < signed 32 ((ts + 2 ^ 32 - t) % 2 ^ 32)) | none => true
  let older := match x.frame with | some t => decide (signed 32 ((ts + 2 ^ 32 - t) % 2 ^ 32) < 0) | none => false
  let begins := newer && (match last with | some j => !field2 i || field2 j | none => true)
  if older then s.setRx r { x with late := (x.late + 1) % 2 ^ 32 }
  else
    let s1 := if begins then (s.rowClose r).frameBegins r ts i
      else if newer then s.setRx r { x with frame := some ts } else s
    let y := s1.rx r
    if y.row = some i then s1.setRx r { y with parts := y.parts ++ [(off, bytes)], rowTick := s1.now }
    else if (match y.closed with | some c => decide (i ≤ c) | none => false) || (match y.row with | some j => decide (i < j) | none => false) then
      s1.setRx r { y with late := (y.late + 1) % 2 ^ 32 }
    else
      let s2 := (s1.rowClose r).rowsLost r i
      s2.setRx r { s2.rx r with row := some i, parts := [(off, bytes)], rowTick := s2.now }

/-- A video packet (R127, R128), counted once where rows of it are late. -/
def State.videoPacket (s : State) (p r ts : Nat) (rows : List (Nat × Nat × List Byte)) : State :=
  let f := halfAt (s.rxFlow r) 44
  if rows.any (fun q => decide (fmtActiveLines f ≤ q.1) || decide (fmtLineBytes f < q.2.1 + q.2.2.length)) then
    let x := s.rx r
    (((s.setRx r { x with mismatch := (x.mismatch + 1) % 2 ^ 32 }).setBit (rEthEvt p) 8).countSecond 0x3409 r 1 (p8 p ++ p16 r))
  else
    let late := (s.rx r).late
    let y := rows.foldl (fun (y : State) q => y.videoRow r ts q) s
    if (y.rx r).late = late then y else y.setRx r { y.rx r with late := (late + 1) % 2 ^ 32 }

/-! ### ST 2110-30, ST 2110-31 and AES67 (R130) -/

/-- Samples of one packet of an audio flow (Table 4-8). -/
def packetSamples (fs params : Nat) : Nat :=
  match params / 16 with
  | 1 => fs / 8000 | 2 => fs / 4000 | 3 => fs / 3000 | 4 => fs / 1000 | 5 => fs / 250 | _ => 0

/-- Bytes of a run of bits, the first the least significant. -/
def bitBytes : List Bool → List Byte
  | a :: b :: c :: d :: e :: f :: g :: h :: rest =>
    BitVec.ofNat 8 (b2n a + 2 * b2n b + 4 * b2n c + 8 * b2n d + 16 * b2n e + 32 * b2n f + 64 * b2n g + 128 * b2n h) :: bitBytes rest
  | _ => []

/-- A channel-status block of channel c of an ST 2110-31 flow is complete (R250): a professional block is taken where its CRCC is right, and
gives the non-audio flag. -/
def State.flowBlock (s : State) (r n c : Nat) : State :=
  let x := s.rx r
  let bits := tget (fun _ => []) x.cbits c
  let st := bitBytes bits
  if bits.length ≠ 192 ∨ (bitOf (byteAt st 0) 0 && aesCrcc (st.take 23) != st.getD 23 0) = true then s
  else
    (s.setRx r { x with cstat := tput x.cstat c st, ustat := tput x.ustat c (bitBytes (tget (fun _ => []) x.ubits c)) }).setChan (lkey n 1 c)
      { s.chan (lkey n 1 c) with nonAudio := bitOf (byteAt st 0) 1 }

/-- One sample word of channel c of the flow: L16 is extended; an AES3 word gives its audio word, and its validity, user and channel-status
bits (bits 24, 25 and 26; bit 27 starts a block). -/
def State.flowSample (s : State) (r n c depth t w : Nat) : State :=
  let v := if depth = 1 then w * 256 % sampMod else w % sampMod
  let s1 := if depth = 3 then
      (let s0 := if bitOf w 27 then s.flowBlock r n c else s
       let x := s0.rx r
       let old (l : Tbl (List Bool)) : List Bool := if bitOf w 27 then [] else tget (fun _ => []) l c
       s0.setRx r { x with cbits := tput x.cbits c ((old x.cbits ++ [bitOf w 26]).take 193),
                           ubits := tput x.ubits c ((old x.ubits ++ [bitOf w 25]).take 193),
                           vbits := tset zeroNat x.vbits c (b2n (bitOf w 24)) })
    else s
  let z := s1.rx r
  (s1.setRx r { z with samp := tset zeroNat z.samp c v }).enterSample n t c v

/-- An audio packet after `gap` lost ones, whose samples repeat the last of each channel. A pair with an ASRC instance passes through it,
unchanged, 48 samples later (R258, R259). -/
def State.audioPacket (s : State) (r ts gap : Nat) (samples : List (List Nat)) : State :=
  let b := s.rxFlow r
  let n := byteAt b 40
  let fs := s.slotFs n
  let t := s.rtpSample fs ts
  let m := gap * packetSamples fs (byteAt b 43)
  let depth := byteAt b 43 % 16
  let s0 := if (s.rx r).fresh then (s.setRx r { s.rx r with fresh := false }).ctxPresent b else s
  ((samples.take (byteAt b 42)).zipIdx).foldl (fun (x : State) (q : List Nat × Nat) =>
    let c := byteAt b 41 + q.2
    let last := tget zeroNat (x.rx r).samp c
    let t := if (x.asrcOf n c).isSome then t + 48 else t
    let x1 := (List.range m).foldl (fun (y : State) j => y.enterSample n (t - m + j) c last) x
    (q.1.zipIdx).foldl (fun (y : State) (w : Nat × Nat) => y.flowSample r n c depth (t + w.2) w.1) x1) s0

/-! ### ST 2110-40 (R131) and ST 2022-6 (R129) -/

/-- Ancillary packets of a slot: into stream `st`, ATC into the time-code streams; answers packets and time code by SUB. DESIGN CHOICE (log
entry 204): the other packets that R89 consumes (audio, ST 352, EDH) enter neither and are not counted. -/
def plainAnc (st : Nat) (pkts : List AncPkt) : List (Nat × AncPkt) × List (Nat × Nat × Nat) :=
  ((pkts.filter (fun k => k.ckOk && !ancConsumed k.did.toNat k.sdid.toNat)).map (fun k => (st, k)),
   (pkts.filter (fun k => k.ckOk && k.did == 0x60 && k.sdid == 0x60)).filterMap (fun k =>
    match k.data with
    | d :: v => if d.toNat ≤ 2 then some (k.line, d.toNat, ofBe v) else none
    | [] => none))

/-- Ancillary packets of stream `st` of slot n within 32 Mb/s (R90); a packet above it is counted on lane p, which receives the flow, with
event 0x300C (log entry 155). -/
def State.ancLimit (s : State) (p n st : Nat) (pkts : List AncPkt) : List AncPkt × State :=
  pkts.foldl (fun (a : List AncPkt × State) k =>
    let (ok, s1) := a.2.ancFits (256 + n) st (8 * k.data.length)
    if ok then (a.1 ++ [k], s1)
    else (a.1, ((s1.bump (O.sdiAncDropped p)).setBit (rSdiEvt p) 10).oncePerSecond 0x300C (p * 4 + st) (p8 p ++ p8 st))) ([], s)

/-- Wrong checksums among ancillary packets are counted on lane p (R91, R131, log entry 155). -/
def State.ancBad (s : State) (p : Nat) (pkts : List AncPkt) : State :=
  let bad := (pkts.filter (fun k => !k.ckOk)).length
  if bad = 0 then s else s.bump (O.sdiAncChecksumErrors p) bad

/-- What the flows of a source without video received within the last second; for one with video its frames decide what is kept. -/
def State.keepRecent {α : Type} (s : State) (n : Nat) (l : List (Nat × α)) : List (Nat × α) :=
  if s.slotHasVideo n then l else l.filter (fun p => decide (s.tm.pt ≤ p.1 + 1000000000 * ptNs))

/-- A packet of ST 2110-40. -/
def State.ancPacket (s : State) (r ts : Nat) (pkts : List AncPkt) : State :=
  let b := s.rxFlow r
  let n := byteAt b 40
  let p := byteAt b 2
  let s0 := (if (s.rx r).fresh then (s.setRx r { s.rx r with fresh := false }).ctxPresent b else s).ancBad p pkts
  let (a, tc) := plainAnc (byteAt b 41) pkts
  let (fit, s1) := s0.ancLimit p n (byteAt b 41) (a.map Prod.snd)
  let pt := s1.rtpPt 90000 ts
  let sl := s1.slot n
  s1.setSlot n { sl with
    flowAnc := s1.keepRecent n sl.flowAnc ++ fit.map (fun k => (pt, byteAt b 41, k))
    flowTc := s1.keepRecent n sl.flowTc ++ tc.map (fun q => (pt, q)) }

/-- T_entry of what a ST 2022-6 flow completes now: with the skew allowance of a pair (R132). -/
def State.carriedEntry (s : State) (r : Nat) : Nat :=
  (s.rx r).arr + (if (s.rxPartner r).isSome then halfAt (s.rxFlow r) 48 * 1000 * ptNs else 0)

/-- An errored line of the carried signal (R79, R129): the previous line of the field, or black, with each channel's last sample and no
ancillary packet. -/
def State.carriedBad (s : State) (r line : Nat) : State :=
  let n := byteAt (s.rxFlow r) 40
  let x := s.rx r
  let f := x.sdiFmt
  let data := if !fmtActive f line then [] else if (fmtFirstActive f).contains line ∨ x.prev.isEmpty then blackLine f else x.prev
  let (t0, t1) := lineSamples f (s.slotFs n) 0 line
  let audio := (List.range (s.slotChannels n)).map (fun c => (c, List.replicate (t1 - t0) (tget zeroNat x.samp c)))
  (s.setRx r { x with prev := if fmtActive f line then data else x.prev, sdiLast := line, sdiAt := s.tm.pt }).enterLineAt (s.carriedEntry r) n 0 line data [] audio []

/-- The carried signal loses its lock (R75, R81, R83), counted on the lane of the context: `change` as a change of format. -/
def State.carriedLoss (s : State) (r line : Nat) (change : Bool) : State :=
  let b := s.rxFlow r
  let p := byteAt b 2
  let x := s.rx r
  let s1 := (s.setRx r { x with sdiFmt := 0, sdiBad := false, sdiLast := 0, lnBad := 0 }).setPresents (s.ctxStreams b) false |>.pairsGone (byteAt b 40) (fun _ => true)
  if change then (s1.bump (O.sdiFormatChanges p)).raise 0x3005 (p8 p ++ p16 x.sdiFmt ++ p16 0)
  else (s1.bump (O.sdiLockLosses p)).raise 0x3004 (p8 p ++ p8 3 ++ p16 line)

/-- The embedded audio of a line of the carried signal (R93–R95): samples by channel. -/
def State.carriedAudio (s : State) (r : Nat) (l : SdiLine) : List (Nat × List Nat) × State :=
  let b := s.rxFlow r
  let n := byteAt b 40
  let p := byteAt b 2
  let f := (s.rx r).sdiFmt
  let gs := audioGroups (fmtSdiRate f) ((s.rx r).sdiDiv == 3)
  let hd := decide (2 ≤ fmtSdiRate f)
  let s1 := (l.ctl.filter (fun c => decide (c.group ≤ gs))).foldl (fun (y : State) c =>
    let x := y.rx r
    let g := c.group + 8 * (c.link - 1)
    let bad := decide (c.rate ≠ y.num (O.slotAudioRate n))
    let y1 := y.setRx r { x with mismatched := if bad then (if x.mismatched.contains g then x.mismatched else g :: x.mismatched) else x.mismatched.filter (· != g),
                                 async := if c.async then sortNat (g :: x.async) else x.async.filter (· != g) }
    if bad && !x.mismatched.contains g then y1.raise 0x300B (p8 p ++ p8 c.group ++ p8 c.rate) else y1) s
  (l.audio.filter (fun k => decide (k.group ≤ gs))).foldl (fun (a : List (Nat × List Nat) × State) k =>
    let g := k.group + 8 * (k.link - 1)
    let s2 := if hd && k.ecc == 1 then a.2.bump (O.sdiAudioEccCorrected p)
      else if hd && k.ecc == 2 then a.2.bump (O.sdiAudioEccUncorrected p) ((k.samples.map List.length).foldl (· + ·) 0) else a.2
    (k.samples.zipIdx).foldl (fun (w : List (Nat × List Nat) × State) z =>
      let c := 32 * (k.link - 1) + 4 * (k.group - 1) + z.2
      if w.2.slotChannels n ≤ c then w
      else
        let y := w.2.rx r
        let vs := if y.mismatched.contains g then z.1.map (fun _ => 0)
          else if hd && k.ecc == 2 then z.1.map (fun _ => tget zeroNat y.samp c)
          else z.1
        let (ws, s3) := w.2.throughAsrc n c (y.async.contains g && !y.mismatched.contains g) vs
        (addSamples w.1 c ws, (s3.notePair n c (y.async.contains g)).setRx r
          { y with samp := tset zeroNat y.samp c (vs.getLast?.getD (tget zeroNat y.samp c)) }))
      (a.1, s2.setRx r { s2.rx r with grpNow := sortNat ((32 * (k.link - 1) + 4 * (k.group - 1)) :: (s2.rx r).grpNow) })) ([], s1)

/-- A frame of the carried signal begins (R75, R85, R92, R95): after a frame without ST 352 there are no ST 352 bytes, a change that is
reported (DEDUCED, log entry 202). -/
def State.carriedFrame (s : State) (r : Nat) : State :=
  let x := s.rx r
  let s0 := s.pairsGone (byteAt (s.rxFlow r) 40) (fun c => x.grpOld.contains (c / 4 * 4) && !x.grpNow.contains (c / 4 * 4))
  let s1 := s0.setRx r { x with tcSeen := [], grpOld := x.grpNow, grpNow := [], pidSeen := false, payloadId := if x.pidSeen then x.payloadId else 0 }
  let p := byteAt (s.rxFlow r) 2
  if x.payloadId ≠ 0 ∧ x.pidSeen = false then s1.raise 0x3006 (p8 p ++ p32 x.payloadId ++ p32 0) else s1

/-- ST 352 of a line of the carried signal (R85). -/
def State.carriedId (s : State) (r : Nat) (l : SdiLine) : State :=
  let x := s.rx r
  match l.st352 with
  | none => s
  | some v =>
    let s1 := s.setRx r { x with payloadId := v, pidSeen := true }
    let p := byteAt (s.rxFlow r) 2
    if v = x.payloadId then s1 else s1.raise 0x3006 (p8 p ++ p32 x.payloadId ++ p32 v)

/-- Errors of a line of the carried signal are counted on the lane of the context (R75, R79, R80). -/
def State.carriedErrors (s : State) (r missed : Nat) (l : SdiLine) : State :=
  let p := byteAt (s.rxFlow r) 2
  let f := (s.rx r).sdiFmt
  let hd := decide (2 ≤ fmtSdiRate f)
  let crc := (hd && !l.crcOk) || (!hd && l.edhBad)
  let ln := decide (l.lnWord ≠ l.line)
  let s1 := s.secondErrors p (b2n crc) (b2n ln) missed
  let s2 := if crc then s1.bump (O.sdiCrcErrors p) else s1
  let s3 := if ln then s2.bump (O.sdiLnErrors p) else s2
  if missed = 0 then s3 else s3.bump (O.sdiTrsErrors p) missed

/-- A line of the SDI signal that ST 2022-6 carries (R75–R95 from TRS detection on, R129): lines that a lost datagram touched, this one among
them, are errored lines; after four missing TRS words the lock is lost, and returns at once where that is within 1 frame of the loss (R82). -/
def State.carriedLine (s : State) (r : Nat) (l : SdiLine) : State :=
  let b := s.rxFlow r
  let n := byteAt b 40
  let p := byteAt b 2
  let x := s.rx r
  let f := x.sdiFmt
  let total := fmtLines f
  let missed := if x.sdiLast = 0 then 0 else (l.line + 2 * total - x.sdiLast - 1) % total
  if f = 0 then s
  else if l.contradicts then s.carriedLoss r l.line true
  else
    let s0 := s.carriedErrors r missed l
    let quick := decide (s.tm.pt ≤ x.sdiAt + linesPt f 4 1 + framePt f)
    let s1 := if 4 ≤ missed ∨ x.sdiLast ≠ 0 ∧ quick = false then
        (let y := s0.carriedLoss r l.line false
         if quick then (y.setRx r { y.rx r with sdiFmt := f, pidSeen := true }).ctxPresent b else y)
      else if x.sdiBad then (List.range missed).foldl (fun (y : State) i => y.carriedBad r ((x.sdiLast + i) % total + 1)) s0
      else s0
    let lnBad := if l.lnWord ≠ l.line then x.lnBad + 1 else 0
    let s1 := if (s1.rx r).sdiFmt ≠ 0 ∧ (l.line = 1 ∨ l.line < x.sdiLast) then s1.carriedFrame r else s1
    if (s1.rx r).sdiFmt = 0 then s1
    else if 8 ≤ lnBad then s1.carriedLoss r l.line false
    else if x.sdiBad then
      (let y := s1.carriedBad r l.line
       y.setRx r { y.rx r with sdiBad := false, lnBad := lnBad })
    else
      let bad := decide (2 ≤ fmtSdiRate f) && !l.crcOk && s1.num (O.sdiErroredLine p) == 1 && fmtActive f l.line
      let data := if bad then (if (fmtFirstActive f).contains l.line ∨ x.prev.isEmpty then blackLine f else x.prev) else l.pixels
      let s1 := s1.carriedId r l
      let (a, tcs) := plainAnc 0 l.anc
      let y := s1.rx r
      let tc := tcs.filter (fun q => !y.tcSeen.contains q.2.1)
      let s2 := s1.setRx r { y with prev := if fmtActive f l.line then data else x.prev, sdiLast := l.line, sdiAt := s.tm.pt, lnBad := lnBad,
                                    tcSeen := tc.map (fun q => q.2.1) ++ y.tcSeen }
      let (fit, s3) := (s2.ancBad p l.anc).ancLimit p n 0 (a.map Prod.snd)
      let (au, s4) := s3.carriedAudio r l
      let audio := presentChans (sortNat ((s4.rx r).grpOld ++ (s4.rx r).grpNow)) au
      s4.enterLineAt (s4.carriedEntry r) n 0 l.line data (fit.map (fun k => (0, k))) audio (tc.map (fun q => (q.2.1, q.2.2)))

/-- What a datagram of ST 2022-6 completes: a format lock, then lines. DEDUCED (log entry 209): FORMAT_HINT is that of the lane that receives
the flow (R78, R129). -/
def State.sdiPacket (s : State) (r : Nat) (lines : List SdiLine) (lock : Option FormatSeen) : State :=
  let b := s.rxFlow r
  let n := byteAt b 40
  let s1 := match lock with
    | some seen =>
      (let f := s.takenFormat (byteAt b 2) seen
       if fmtValid f && decide (fmtSdiRate f ≤ 5) then
         (let y := (s.setRx r { s.rx r with sdiFmt := f, sdiDiv := seen.division, fresh := false, sdiLast := 0, lnBad := 0, sdiBad := false,
                                            payloadId := seen.st352.getD 0, pidSeen := true, mismatched := [], async := [],
                                            grpNow := [], grpOld := [], tcSeen := [] }).setNum (O.slotRaster n) f
          if y.slotPresent n then y.ctxPresent b else if y.slotEnabled n then y.slotReturn n (s.slotRaster n) else y)
       else s)
    | none => s
  lines.foldl (fun (x : State) l => x.carriedLine r l) s1

/-! ### Sequence numbers (R127, R132) -/

/-- Modulus of a flow's sequence numbers: extended for ST 2110-20. -/
def seqMod (essence : Nat) : Nat := if essence = 1 then 2 ^ 32 else 2 ^ 16

/-- A packet's content, after `gap` lost packets. -/
def State.flowTake (s : State) (p r ts gap : Nat) (m : MediaPayload) : State :=
  let e := byteAt (s.rxFlow r) 1
  let s1 := if gap ≠ 0 ∧ e = 5 then s.setRx r { s.rx r with sdiBad := true } else s
  match m with
  | .video rows _ => if e = 1 then s1.videoPacket p r ts rows else s1
  | .audio samples => if e = 2 ∨ e = 3 then s1.audioPacket r ts gap samples else s1
  | .anc pkts _ => if e = 4 then s1.ancPacket r ts pkts else s1
  | .sdi lines lock => if e = 5 then s1.sdiPacket r lines lock else s1

/-- Packets lost on every path: LOST and event 0x3407. -/
def State.flowLost (s : State) (p r n : Nat) : State :=
  let x := s.rx r
  ((s.setRx r { x with lost := (x.lost + n) % 2 ^ 32 }).setBit (rEthEvt p) 6).countSecond 0x3407 r n (p8 p ++ p16 r)

/-- Packets held behind a missing one follow once nothing is missing before them. -/
def State.flowDrain (s : State) (p r : Nat) : Nat → Nat → State
  | 0, _ => s
  | fuel + 1, gap =>
    let x := s.rx r
    let M := seqMod (byteAt (s.rxFlow r) 1)
    match x.next with
    | none => s
    | some e =>
      if x.gone.contains e && !x.ahead.isEmpty then
        (s.setRx r { x with next := some ((e + 1) % M) }).flowDrain p r fuel (gap + 1)
      else
        match x.ahead.find? (fun a => a.1 == e) with
        | none => s
        | some a =>
          ((s.setRx r { x with next := some ((e + 1) % M), arr := a.2.2.1, ahead := x.ahead.filter (fun b => b.1 != e) }).flowTake p r a.2.1 gap
            a.2.2.2).flowDrain p r fuel 0

/-- Numbers given up that still lie near the next one: a number further off is a new one (R132). -/
def RxCtx.nearGone (x : RxCtx) (M : Nat) : RxCtx :=
  match x.next with
  | some n => { x with gone := x.gone.filter (fun i => decide ((n + M - i) % M ≤ 4096) || decide ((i + M - n) % M < 4096)) }
  | none => { x with gone := [] }

/-- A packet of the merged flow of context r, received on lane p (R127, R132). -/
def State.flowMerge (s : State) (p r seq ts : Nat) (m : MediaPayload) : State :=
  let b := s.rxFlow r
  let e := byteAt b 1
  let M := seqMod e
  let q := seq % M
  let pair := (s.rxPartner r).isSome
  let x := (s.rx r).nearGone M
  match x.next with
  | none => (s.setRx r { x with next := some ((q + 1) % M) }).flowTake p r ts 0 m
  | some n =>
    let d := (q + M - n) % M
    if d = 0 then
      ((s.setRx r { x with next := some ((q + 1) % M), gone := x.gone.filter (· != q) }).flowTake p r ts 0 m).flowDrain p r
        (x.ahead.length + x.gone.length + 1) 0
    else if d < M / 2 then
      (if pair && decide (d < 4096) then
         (if x.ahead.any (fun a => a.1 == q) then s.setRx r { x with dups := (x.dups + 1) % 2 ^ 32 }
          else
            let miss := ((List.range d).map (fun i => (n + i) % M)).filter (fun i =>
              !x.wait.any (fun w => w.1 == i) && !x.ahead.any (fun a => a.1 == i) && !x.gone.contains i)
            if x.wait.any (fun w => w.1 == q) then
              s.setRx r { x with
                wait := x.wait.filter (fun w => w.1 != q)
                recovered := (x.recovered + 1) % 2 ^ 32
                ahead := (q, ts, x.arr, m) :: x.ahead }
            else if x.gone.contains q then s.setRx r { x with late := (x.late + 1) % 2 ^ 32 }
            else s.setRx r { x with
                wait := x.wait ++ miss.map (fun i => (i, s.now))
                ahead := (q, ts, x.arr, m) :: x.ahead })
       else
         ((s.flowLost p r d).setRx r { (s.flowLost p r d).rx r with
            next := some ((q + 1) % M)
            wait := []
            ahead := [] }).flowTake p r ts d m)
    else if pair && !x.gone.contains q then s.setRx r { x with dups := (x.dups + 1) % 2 ^ 32 }
    else if e = 1 ∧ !pair then s.flowTake p r ts 0 m
    else s.setRx r { x with late := (x.late + 1) % 2 ^ 32 }

/-- A missing packet that the other path delivers in order: the number at the front of the merged flow arrives. -/
def State.flowArrive (s : State) (p r seq ts : Nat) (m : MediaPayload) : State :=
  let x := s.rx r
  let q := seq % seqMod (byteAt (s.rxFlow r) 1)
  if x.next = some q ∧ x.wait.any (fun w => w.1 == q) then
    (s.setRx r { x with wait := x.wait.filter (fun w => w.1 != q), recovered := (x.recovered + 1) % 2 ^ 32 }).flowMerge p r seq ts m
  else s.flowMerge p r seq ts m

/-- The skew of a pair once both paths have shown the frame of RTP timestamp `ts` (R133). -/
def State.pairSkew (s : State) (p a b ts : Nat) : State :=
  let x := s.rx a
  let y := s.rx b
  match x.marks.find? (fun m => m.1 == ts), y.marks.find? (fun m => m.1 == ts) with
  | some ma, some mb =>
    let d : Int := ((mb.2 : Int) - (ma.2 : Int))
    let ns := roundDiv d 4
    let v := clampInt (-2147483648) 2147483647 ns
    let over' := decide (halfAt (s.rxFlow a) 48 * 1000 < ns.natAbs)
    let s1 := (s.setRx a { x with skew := v, over_ := over' }).setRx b { y with skew := v, over_ := over' }
    if over' then (s1.setBit (rEthEvt p) 7).oncePerSecond 0x3408 a (p8 p ++ p16 a ++ beBytes 4 (twos 32 v)) else s1
  | _, _ => s

/-- A packet on context r of lane p (R126, R133). -/
def State.flowPacket (s : State) (p r : Nat) (h : RtpHdr) (m : MediaPayload) : State :=
  let b := s.rxFlow r
  let ptOk := byteAt b 3 == 0 || byteAt b 3 == h.pt
  if !ptOk then s
  else
    let x := s.rx r
    let a := s.rxLead r
    let newFrame := !x.marks.any (fun q => q.1 == h.ts)
    let s1 := s.setRx r { x with
      up := true
      down := false
      lane := p
      lastTick := s.now + 1
      packets := (x.packets + 1) % 2 ^ 64
      pathTs := some h.ts
      marks := if newFrame then ((h.ts, s.rxQuarter p) :: x.marks).take 64 else x.marks }
    let s2 := if x.down && (s.rxPartner r).isSome then s1.ethEvent p 5 0x3406 (p16 r) else s1
    let s3 := match s2.rxPartner r with
      | some o => if newFrame then s2.pairSkew p (min r o) (max r o) h.ts else s2
      | none => s2
    let s3 := s3.setRx a { s3.rx a with arr := s.rxQuarter p * ptNs / 4 }
    let y := s3.rx a
    let s4 := if y.active then s3
      else (s3.setRx a { y with active := true, fresh := true, next := none, wait := [], gone := [], ahead := [] }).ethEvent p 2 0x3403 (p16 a)
    s4.flowArrive p a h.seq h.ts m

/-! ### Classification (R115–R120) -/

/-- Whether a receive context matches a frame (R118). -/
def rxMatches (p vid v6 dst src dport : Nat) (b : List Byte) : Bool :=
  byteAt b 2 == p && (!bitOf (byteAt b 0) 4 || fld (halfAt b 4) 11 0 == vid) && b2n (bitOf (byteAt b 0) 6) == v6 &&
  addrAt b 8 == dst && halfAt b 6 == dport && (!bitOf (byteAt b 0) 5 || addrAt b 24 == src)

/-- The context that receives a UDP packet: one with MATCH_SOURCE before one without. -/
def State.rxMatch (s : State) (p vid v6 dst src dport : Nat) : Option Nat :=
  let l := s.rxFlows.filter (fun q => rxMatches p vid v6 dst src dport q.2)
  match l.find? (fun q => bitOf (byteAt q.2 0) 5) with
  | some q => some q.1
  | none => l.head?.map Prod.fst

/-- Whether MAC m is a master port (R351). -/
def State.masterPort (s : State) (m : Nat) : Bool :=
  s.num O.gmPtpRole == 1 &&
  (let b := s.bytes O.gmMasterPorts
   bitOf (byteAt b (b.length - 1 - m / 8)) (m % 8))

/-- Whether PTP of a domain on lane p belongs to the Pacer servo controller (R122): of a slave instance on the lane, or of a master port. -/
def State.ptpServo (s : State) (p domain : Nat) : Bool :=
  s.num (O.ethPtpHandler p) == 1 &&
  ((List.range 4).any (fun i => s.num (O.ptpMac i) == p && s.num (O.ptpDomain i) == domain) ||
   (s.masterPort p && s.num O.gmGmDomain == domain))

/-- The punt class of a control frame of Table 4-4 (step 4), with the PTP domain where it is PTP. -/
def ctlClass (dst own : Nat) (f : EthFrame) : Option (Nat × Option Nat) :=
  match f.net with
  | .ptp m d => some (if m ≤ 3 then 0 else 1, some d)
  | .arp => if dst = 2 ^ 48 - 1 ∨ dst = own then some (2, none) else none
  | .lldp => some (7, none)
  | .ip4 _ _ _ proto _ _ =>
    if proto = 2 then some (4, none)
    else match f.udp with
      | some u => if u.dport = 319 then some (0, some u.ptpDomain) else if u.dport = 320 then some (1, some u.ptpDomain) else none
      | none => none
  | .ip6 _ _ icmp _ _ =>
    if 133 ≤ icmp ∧ icmp ≤ 137 then some (3, none)
    else if icmp = 130 ∨ icmp = 131 ∨ icmp = 132 ∨ icmp = 143 then some (4, none)
    else match f.udp with
      | some u => if u.dport = 319 then some (0, some u.ptpDomain) else if u.dport = 320 then some (1, some u.ptpDomain) else none
      | none => none
  | .other => none

/-- RX_UNMATCHED. -/
def State.unmatched (s : State) (p : Nat) : State := (s.bump (O.ethRxUnmatched p)).rcAdd (rEthDrop p) 31 16

/-- A frame with a right length and FCS is classified (R117). DESIGN CHOICE (log entry 203): a packet that fails its IPv4 header checksum, or
is a fragment, counts once and goes on to step 4 whatever its UDP checksum. -/
def State.classify_ (s : State) (p : Nat) (f : EthFrame) (bufs : List (Nat × Nat × Nat)) : State :=
  let own := ofBe (s.bytes (O.ethMacAddress p))
  let group := bitOf f.dst 40
  let tags8100 := (f.tags.filter (fun t => t.1 == 0x8100)).length
  let tci := match f.tags with | t :: _ => t.2 | [] => 0
  let vid := tci % 4096
  let vflag := if vid = 0 then 0 else 64
  let ip : Option (Nat × Nat × Nat × Bool × Bool) := match f.net with
    | .ip4 w frag ck _ src dst => some (0, src, dst, ck && !frag, w == 5)
    | .ip6 frag next _ src dst => some (1, src, dst, !frag, next == 17)
    | _ => none
  let ipBad := match ip with | some (_, _, _, good, _) => !good | none => false
  let ckBad := match f.udp with | some u => u.ckNonZero && !u.ckOk | none => false
  if f.etype = 0x8808 then s.bump (O.ethRxPause p)
  else if !group && f.dst != own then s.unmatched p
  else if (match f.tags with | t :: _ => t.1 == 0x88A8 | [] => false) || decide (2 ≤ tags8100) then s.unmatched p
  else if ip.isSome && !ipBad && ckBad then s.bump (O.ethRxIpErrors p)
  else
    let s1 := if ipBad then s.bump (O.ethRxIpErrors p) else s
    match ctlClass f.dst own f with
    | some (c, dom) =>
      if (match dom with | some d => s1.ptpServo p d | none => false) then s1
      else s1.punt p c vflag (if vid = 0 then 0 else tci) f.bytes bufs
    | none =>
      if ipBad then s1
      else match ip with
      | none => s1.unmatched p
      | some (v6, src, dst, _, plain) =>
        let ctx := match f.udp with
          | some u => if plain then s1.rxMatch p vid v6 dst src u.dport else none
          | none => none
        match ctx with
        | some r =>
          (match f.rtp, f.media with
           | some h, some m => s1.flowPacket p r h m
           | _, _ => s1)
        | none =>
          let mine := if v6 = 0 then dst != 0 && s1.num (O.ethIpv4Address p) == dst
            else (s1.bytes (O.ethIpv6LinkLocal p) != [] && ofBe (s1.bytes (O.ethIpv6LinkLocal p)) == dst) ||
              (s1.bytes (O.ethIpv6Address p) != [] && ofBe (s1.bytes (O.ethIpv6Address p)) == dst)
          if mine then s1.punt p 5 vflag (if vid = 0 then 0 else tci) f.bytes bufs else s1.unmatched p

/-- A frame of management lane m (R116): Table 4-2 with 1,522 bytes; a frame with a right length and FCS goes to the management cores. The
lane's DELIVER_ERRORED is no object of this manual, and errored frames are dropped (log entry 156). -/
def State.mgmtFrame (s : State) (m : Nat) (f : EthFrame) : State :=
  let x := tget mgmtIdle s.eth.mgmt m
  let put (y : MgmtMac) : State := { s with eth := { s.eth with mgmt := tset mgmtIdle s.eth.mgmt m y } }
  if f.length < 18 then put { x with fragments := (x.fragments + 1) % 2 ^ 32 }
  else if f.length < 64 then put { x with runts := (x.runts + 1) % 2 ^ 32 }
  else if 1522 < f.length then put { x with oversize := (x.oversize + 1) % 2 ^ 32 }
  else if !f.fcsOk then put { x with fcs := (x.fcs + 1) % 2 ^ 32 }
  else (put { x with frames := (x.frames + 1) % 2 ^ 64 }).emit (.mgmtFrame m 0 f.bytes)

/-- ETH_FRAME_RECEIVED (R115–R133): on port lane p, or on management lane p − 96. RX_FRAMES and RX_BYTES, which the spec gives only as frames
and bytes, count the frames of 64 to 9,216 bytes with a right FCS (DESIGN CHOICE, log entry 157). -/
def execEthFrameReceived (p : Fin 98) (f : EthFrame) (bufs : List (Nat × Nat × Nat)) (at_ : Nat) (s0 : State) : Res :=
  let s := s0.toTick at_
  let keep := s.flag (O.ethDeliverErrored p)
  if 96 ≤ p.val then .next (if s.num O.startStartPhase < 4 then s else s.mgmtFrame (p - 96) f) else
  if s.laneMode p ≠ 2 ∨ !s.laneActive p ∨ !s.laneOn p ∨ s.ethMember p ∨ !s.ethUp p ∨ s.num O.startStartPhase < 4 then .next s
  else if f.length < 18 then .next ((s.bump (O.ethRxFragments p)).rcAdd (rEthDrop p) 15 8)
  else if f.length < 64 then
    let s1 := (s.bump (O.ethRxRunts p)).rcAdd (rEthDrop p) 15 8
    .next (if keep then s1.punt p 6 (8 + (if f.fcsOk then 0 else 16)) 0 f.bytes bufs else s1)
  else if f.length ≤ 9216 then
    (if f.fcsOk then .next (((s.bump64 (O.ethRxFrames p)).bump64 (O.ethRxBytes p) f.length).classify_ p f bufs)
     else
       let s1 := (s.bump (O.ethRxFcsErrors p)).rcAdd (rEthDrop p) 7 0
       .next (if keep then s1.punt p 6 16 0 f.bytes bufs else s1))
  else
    let s1 := ((s.bump (O.ethRxOversize p)).setBit (rEthEvt p) 10).countSecond 0x340B p 1 (p8 p)
    .next (if keep then s1.punt p 6 32 0 (f.bytes.take 9216) bufs else s1)

/-- ETH_LINK_UP (R113): the link is up, or, where the command says no more, its coding is locked, with FEC where that is enabled. -/
def execEthLinkUp (r : EthRise) (s : State) : Res :=
  let p := r.lane
  if s.laneMode p ≠ 2 ∨ !s.laneActive p ∨ !s.laneOn p ∨ s.ethMember p ∨ s.ethUp p then .next s
  else if !r.up then .next (s.setNum (O.ethLinkState p) 1)
  else .next ((s.setNum (O.ethLinkState p) 2).ethEvent p 0 0x3401 (p8 (s.num (O.ethEthRate p)) ++ p8 (s.num (O.ethFec p))))

/-- ETH_LINK_DOWN (R113). -/
def execEthLinkDown (p : Fin 96) (cause : Fin 4) (cut : Bool) (s : State) : Res :=
  if s.laneMode p ≠ 2 then .next s
  else .next (s.ethDown p (cause.val + 1) (match cause.val with | 1 => 3 | 2 => 4 | _ => 0) cut)

/-- The loss time of a context (R126). -/
def State.lossTicks (s : State) (b : List Byte) : Nat :=
  if byteAt b 1 = 2 ∨ byteAt b 1 = 3 then 10 * tickMs
  else
    let f := s.slotRaster (byteAt b 40)
    s.ptToTicks (if f = 0 then 2 * 1001 * 1000000000 * ptNs / 24000 else 2 * framePt f)

/-- The path of context r, in a pair, is down (R133). -/
def State.pathDown (s : State) (r : Nat) : State :=
  let x := s.rx r
  if x.up then (s.setRx r { x with up := false, down := true }).ethEvent (byteAt (s.rxFlow r) 2) 4 0x3405 (p16 r) else s

/-- RX_CONTEXT_LOST (R126): with the loss of a pair's flow both its paths are down (R133). -/
def execRxContextLost (r : Fin 8192) (at_ : Nat) (s0 : State) : Res :=
  let s := s0.toTick at_
  let b := s.rxFlow r
  let last := match s.rxPartner r with
    | some o => max (s.rx r).lastTick (s.rx o).lastTick
    | none => (s.rx r).lastTick
  let x := s.rx r
  if !flowValid b ∨ s.rxLead r ≠ r ∨ !x.active ∨ s.now + 1 < last + s.lossTicks b then .next s
  else
    let s0 := match s.rxPartner r with
      | some o => (s.pathDown r).pathDown o
      | none => s.setRx r { x with up := false }
    let s1 := s0.rowClose r
    let y := s1.rx r
    let s2 := (s1.setRx r { y with active := false, next := none, wait := [], ahead := [], gone := [], frame := none, sdiFmt := 0, sdiLast := 0 }).setPresents
      (s1.fedAlone r b) false
    .next ((if byteAt b 1 = 5 then s2.pairsGone (byteAt b 40) (fun _ => true) else s2).ethEvent (byteAt b 2) 3 0x3404 (p16 r))

/-- LINE_CLOSE_TIMEOUT (R127). -/
def execLineCloseTimeout (r : Fin 8192) (at_ : Nat) (s0 : State) : Res :=
  let s := s0.toTick at_
  let x := s.rx r
  if x.row.isNone ∨ s.now < x.rowTick + s.ptToTicks (linesPt (halfAt (s.rxFlow r) 44) 1 1) then .next s
  else .next (s.rowClose r)

/-- PAIR_WAIT_EXPIRY (R132). -/
def execPairWaitExpiry (r : Fin 8192) (seq at_ : Nat) (s0 : State) : Res :=
  let s := s0.toTick at_
  let x := s.rx r
  let b := s.rxFlow r
  match x.wait.find? (fun w => w.1 == seq) with
  | none => .next s
  | some w =>
    if s.now < w.2 + halfAt b 48 * tickUs then .next s
    else
      let s1 := (s.setRx r { x with wait := x.wait.filter (fun v => v.1 != seq), gone := (seq :: x.gone).take 1024 }).flowLost (byteAt b 2) r 1
      .next (s1.flowDrain (byteAt b 2) r (x.ahead.length + x.gone.length + 2) 0)

/-- PATH_DOWN (R133). -/
def execPathDown (r : Fin 8192) (at_ : Nat) (s0 : State) : Res :=
  let s := s0.toTick at_
  let x := s.rx r
  let b := s.rxFlow r
  if (s.rxPartner r).isNone ∨ !x.up ∨ s.now + 1 < x.lastTick + s.lossTicks b then .next s
  else .next (s.pathDown r)

end Sys2Proof.Machine
end

