-- ==== Sys2Proof/Machine/Recorder.lean ====
section
/-! DEFINITION. The commands of the fault collector and the event recorder (14), and what writes to their objects do. -/

namespace Sys2Proof.Machine

/-! ### The collector (R411–R421) -/

/-- FAULT_REPORT (R411, R412). -/
def execFaultReport (source : Fin 512) (code : Half) (s : State) : Res := .next (s.report source code.toNat)

/-- FAULT_CONDITION_END (R414). -/
def execFaultConditionEnd (source : Fin 512) (s : State) : Res := .next (s.conditionEnd source)

/-- An acknowledgement of one source by a session, 0 for the PCIe host (R414). Acknowledging source 0 clears the self-fault. -/
def State.ackBy (s : State) (session n : Nat) : State :=
  if (s.src n).state = 0 then s
  else
    let s1 := (s.raise 0xA002 (p16 n ++ p32 session)).ackSource n
    if n = 0 then { s1 with flt := { s1.flt with selfFault := false } } else s1

/-- Every held fault is acknowledged (R414). -/
def State.ackAllBy (s : State) (session : Nat) : State :=
  let l := s.heldList.map Prod.fst
  if l.isEmpty then s
  else
    let s1 := l.foldl (fun (x : State) n => x.ackSource n) (s.raise 0xA002 (p16 0xFFFF ++ p32 session))
    { s1 with flt := { s1.flt with selfFault := s1.flt.selfFault && !l.contains 0 } }

/-- A write of FAULT_ACK (Table 14-8). -/
def State.faultAckReg (s : State) (w : Nat) : State :=
  if !bitOf w 31 then s else if bitOf w 30 then s.ackAllBy 0 else s.ackBy 0 (fld w 8 0)

/-- A write of SAFE_EXIT: the status and the state (R418). -/
def State.safeExitWrite (s : State) (session v : Nat) : Nat × State :=
  if v = 0 then (0, s)
  else if s.heldList.any (fun p => p.2.sev == 3) || s.flt.selfFault then (0xA001, s)
  else if !s.flt.safe then (0, s)
  else
    let s1 := (({ s with flt := { s.flt with safe := false }, upd := { s.upd with healthAt := s.now } }).setNum 0xA00103 0).raise
      0xA005 (p32 session)
    (0, s1.twinUnsafe)

/-- Every source loses its state: held at severity 2, unacknowledged (R419). -/
def State.lostSources (s : State) : State :=
  (List.range 512).foldl (fun (x : State) n => (x.setSrc n { x.src n with state := 1, sev := 2 }).srcObjs n) s

/-- COLLECTOR_SELF_CHECK (R419). -/
def execCollectorSelfCheck (goodA goodB agree : Bool) (at_ : Nat) (s0 : State) : Res :=
  let s := s0.toTick at_
  if goodA && goodB && agree then
    (if (s.src 0).state = 0 then .next { s with flt := { s.flt with selfFault := false } } else .next s)
  else
    let s1 := { s with flt := { s.flt with selfFault := true } }
    let s2 := if !goodA && !goodB then s1.lostSources else s1
    if s2.flag 0xA00102 then
      let v := s2.src 0
      let k := (s2.srcWindow 0).length + 1
      let s3 := (s2.setSrc 0 { v with state := 1, sev := 3, times := s2.now :: s2.srcWindow 0, reports := (v.reports + 1) % 2 ^ 32,
                                       last := s2.now }).srcObjs 0
      let s4 := ((s3.setNum (kSrc 0 9) s3.pt96).evtCountSignal 0xA001).record 0xA001
        (p16 0 ++ p8 0 ++ p8 (3 * 16) ++ p16 0 ++ p16 (min k 65535)) 3 2
      .next (s4.enterSafe 0xFFFF)
    else .next (s2.report 0 0)

/-- MIN_INTERVAL_END (R421): coalesced raises signal once more. -/
def execMinIntervalEnd (n : Fin 1024) (at_ : Nat) (s0 : State) : Res :=
  let s := s0.toTick at_
  if tget allFalse s.flt.coalesced n && s.evtDue n then .next (s.evtSignal n) else .next s

/-! ### The event recorder (R422–R427) -/

/-- Records held, oldest first: those in flash that the ring no longer holds, then the ring's. -/
def State.records (s : State) : List EvRec :=
  (s.evr.flash.map Prod.snd).filter (fun r => !s.evr.ring.any (fun q => q.seq == r.seq)) ++ s.evr.ring

/-- REC_OLDEST. -/
def State.recOldest (s : State) : Nat := match s.records with | r :: _ => r.seq | [] => s.evr.seq

/-- Records of the log that stay when the sector after the write position has been erased (R423). -/
def flashKeep (pos : Nat) (l : List (Nat × EvRec)) : List (Nat × EvRec) :=
  l.filter (fun p => decide (pos / 65536 + 1 < p.1 / 65536 + 128))

/-- The backlog is written to flash. -/
def State.flushNow (s : State) : State :=
  let (pos, l) := s.evr.waiting.foldl (fun (x : Nat × List (Nat × EvRec)) r => (x.1 + r.size, x.2 ++ [(x.1, r)])) (s.evr.flashPos, s.evr.flash)
  { s with evr := { s.evr with flash := flashKeep pos l, flashPos := pos, unflushed := 0, ringOnly := 0 } }

/-- A flash write fails at a sector (R423). -/
def State.flashError (s : State) (sector : Nat) : State :=
  ({ s with evr := { s.evr with state := 3, retryAt := some (s.now + 60 * tickS) } }).raise 0xA009 (p32 sector)

/-- RECORDER_FLUSH (R423). -/
def execRecorderFlush (writeError : Option Nat) (s : State) : Res :=
  if s.evr.state ≠ 0 ∨ s.evr.unflushed = 0 then .next s
  else match writeError with
    | some k => .next (s.flashError k)
    | none => .next s.flushNow

/-- FLASH_RETRY (R423), every 60 s. -/
def execFlashRetry (writeError : Option Nat) (at_ : Nat) (s0 : State) : Res :=
  let s := s0.toTick at_
  match s.evr.retryAt with
  | none => .next s
  | some t =>
    if s.evr.state ≠ 3 ∨ s.now < t then .next s
    else match writeError with
      | some k => .next (s.flashError k)
      | none => .next ({ s with evr := { s.evr with state := 0, retryAt := none } }).flushNow

/-- POWER_FAIL_ASSERT (R424): the backlog and a record of event 0xA008 are written; recording stops. -/
def execPowerFailAssert (at_ : Nat) (s0 : State) : Res :=
  let s := s0.toTick at_
  if s.evr.state = 2 ∨ s.num O.startStartPhase < 3 then .next s
  else
    let n := s.evr.unflushed
    let wasErase := s.evr.state = 1
    let s1 := s.flushNow
    let s2 := (s1.raise 0xA008 (p32 n)).flushNow
    .next { s2 with evr := { s2.evr with state := 2, eraseSuspended := wasErase, opSaved := s2.opTime } }

/-- POWER_FAIL_DEASSERT (R424): recording resumes, and the erase with it. -/
def execPowerFailDeassert (s : State) : Res :=
  if s.evr.state ≠ 2 then .next s
  else .next { s with evr := { s.evr with
    state := if s.evr.eraseSuspended then 1 else if s.evr.retryAt.isSome then 3 else 0, eraseSuspended := false } }

/-- Events 0xA007 for codes that lost records: up to 64 codes, then the total under code 0 (R425). -/
def State.tellLost (s : State) (l : Tbl Nat) (cause : Nat) : State :=
  let s1 := (l.take 64).foldl (fun (x : State) p => x.raise 0xA007 (p16 p.1 ++ p32 p.2 ++ p8 cause)) s
  if 64 < l.length then s1.raise 0xA007 (p16 0 ++ p32 ((l.map Prod.snd).foldl (· + ·) 0) ++ p8 cause) else s1

/-- RECORDER_SECOND (R425): a second of Pacer time ends, with the events that carry a count in that second. -/
def execRecorderSecond (at_ : Nat) (s0 : State) : Res :=
  let s := (s0.toTick at_).secondsEnd
  let a := s.evr.lostRate
  let b := s.evr.lostBacklog
  .next ((({ s with evr := { s.evr with lostRate := [], lostBacklog := [] } }).tellLost a 1).tellLost b 2)

/-- Distance of a SEQUENCE counted back from REC_NEXT, modulo 2^24 (R426). -/
def State.recBack (s : State) (q : Nat) : Nat := (s.evr.seq + 2 ^ 24 - q % 2 ^ 24) % 2 ^ 24

/-- Whole records from the front of a list, up to `room` bytes. -/
def takeRecs : Nat → List EvRec → List EvRec
  | _, [] => []
  | room, r :: rs => if r.size ≤ room then r :: takeRecs (room - r.size) rs else []

/-- REC_READ from a cursor: the bytes and the cursor after it (R426). -/
def State.recReadFrom (s : State) (cursor : Nat) : List Byte × Nat :=
  let d := s.recBack cursor
  let l := takeRecs 1024 (s.records.filter (fun r => decide (s.recBack r.seq ≤ d) && decide (s.recBack r.seq ≠ 0)))
  match l.getLast? with
  | some r => (l.flatMap EvRec.wire, (r.seq + 1) % 2 ^ 24)
  | none => ([], cursor)

/-- Whether a key slot may be used by a master (bit number of USE_MASTERS, R458). -/
def State.keyUsable (s : State) (n master : Nat) : Bool :=
  let k := tget keyDefault s.upd.keys n
  (k.state == 1 || k.state == 2) && bitOf k.masters master && bitOf k.cycles s.upd.lc && decide (s.upd.lc < 4)

/-- The Owner role keys in force: every usable slot of ROLE 3, and the provisioning key of R466 in Manufacturing and Provisioned. -/
def State.ownerKeys (s : State) : List (List Byte) :=
  ((List.range 256).filter (fun n => (tget keyDefault s.upd.keys n).role == 3 && (s.keyUsable n 0 || s.keyUsable n 1 || s.keyUsable n 2))).map
    (fun n => (tget keyDefault s.upd.keys n).key) ++
  (if s.upd.lc ≤ 1 then [List.replicate 32 0] else [])

/-- REC_CHALLENGE changes. -/
def State.rollChallenge (s : State) : State :=
  let (b, s1) := s.freeBytes 16
  { s1 with evr := { s1.evr with challenge := b, challengeAt := s1.now } }

/-- The bytes of an ASCII label. -/
def ascii (t : String) : List Byte := t.toList.map (fun c => BitVec.ofNat 8 c.toNat)

/-- A write of REC_CLEAR: the status and the state (R427). -/
def State.recClearWrite (s : State) (session : Nat) (token : List Byte) : Nat × State :=
  let msg := ascii "recorder clear" ++ s.evr.challenge ++ s.fuses.serial
  if s.evr.state = 1 ∨ s.evr.state = 2 then (0xA003, s.rollChallenge)
  else if !s.ownerKeys.any (fun k => hmacSha384 k msg == token) then (0xA002, s.rollChallenge)
  else
    let oldest := s.recOldest
    let newest := (s.evr.seq + 2 ^ 24 - 1) % 2 ^ 24
    let s1 := { s with evr := { s.evr with ring := [], unflushed := 0, ringOnly := 0, flash := [], state := 1, retryAt := none } }
    (0, (s1.raise 0xA006 (p32 oldest ++ p32 newest ++ p32 session)).rollChallenge)

/-- RECORDER_ERASE_DONE (R427). -/
def execRecorderEraseDone (s : State) : Res :=
  if s.evr.state = 1 then .next { s with evr := { s.evr with state := 0 } } else .next s

/-- REC_CHALLENGE_ROLL (R427), every 60 s. -/
def execRecChallengeRoll (at_ : Nat) (s0 : State) : Res :=
  let s := s0.toTick at_
  if s.now < s.evr.challengeAt + 60 * tickS then .next s else .next s.rollChallenge

/-- OPERATING_TIME_SAVE (R422), every 60 s. -/
def execOperatingTimeSave (at_ : Nat) (s0 : State) : Res :=
  let s := s0.toTick at_
  .next { s with evr := { s.evr with opSaved := s.opTime } }

end Sys2Proof.Machine
end

