-- ==== Sys2Proof/Machine/EthTx.lean ====
section
/-! DEFINITION. Sending on Ethernet lanes (R134–R142), and the hurdle and effects of commits of area 0x3000 that concern Ethernet lanes and
flow contexts (R110–R112, R118, R120, R124, R125, R132, R135, R138, R145). -/

namespace Sys2Proof.Machine

/-- Send context c. -/
def State.tx (s : State) (c : Nat) : TxCtx := tget txIdle s.eth.tx c
/-- Stores send context c. -/
def State.setTx (s : State) (c : Nat) (v : TxCtx) : State := { s with eth := { s.eth with tx := tset txIdle s.eth.tx c v } }
/-- The bytes of send context c. -/
def State.txFlow (s : State) (c : Nat) : List Byte := s.bytes (O.txFlow c)

/-- Bit rate of an ETH_RATE. -/
def ethBits (r : Nat) : Nat := match r with | 0 => 10000000000 | 1 => 25000000000 | _ => 100000000000

/-- The context that holds a pair's sequence numbers (R134): the lower-numbered of two that name each other. -/
def State.txLead (s : State) (c : Nat) : Nat :=
  let q := halfAt (s.txFlow c) 38
  if q ≠ 0xFFFF ∧ q < 8192 ∧ flowValid (s.txFlow q) ∧ halfAt (s.txFlow q) 38 = c then min c q else c

/-- The bytes that give the RTP headers and payloads of context c: those of the lower-numbered context of a pair, so that both send the same
(R134, log entry 159). -/
def State.txData (s : State) (c : Nat) : List Byte := s.txFlow (s.txLead c)

/-- The destination MAC of a send context: DEST_MAC, or derived from a multicast group's address (R135). -/
def destMac (b : List Byte) : Nat :=
  let m := ofBe ((b.drop 40).take 6)
  let a := addrAt b 8
  if m ≠ 0 then m
  else if bitOf (byteAt b 0) 6 then 0x333300000000 + a % 2 ^ 32
  else if a % 2 ^ 32 = 2 ^ 32 - 1 then 2 ^ 48 - 1
  else 0x01005E000000 + a % 2 ^ 23

/-- The headers of context c's packets (R135). -/
def State.pktHdr (s : State) (c : Nat) : PktHdr :=
  let b := s.txFlow c
  let d := s.txData c
  let p := byteAt b 2
  let v6 := bitOf (byteAt b 0) 6
  { dmac := destMac b, smac := ofBe (s.bytes (O.ethMacAddress p)), vlan := if bitOf (byteAt b 0) 5 then some (halfAt b 4) else none,
    v6 := v6, src := if v6 then ofBe (s.bytes (O.ethIpv6Address p)) else s.num (O.ethIpv4Address p), dst := addrAt b 8,
    dscp := byteAt b 26, ttl := byteAt b 27, df := !v6, sport := halfAt b 24, dport := halfAt b 6, udpZero := !v6,
    pt := byteAt d 3, ssrc := wordAt d 28 }

/-- Whether a send context may send (R114, R135, R361): valid, its output bound with a raster, its lane in Ethernet mode, whether or not the
link is up, the chip holding the Baton where it has a twin. -/
def State.txRuns (s : State) (c : Nat) : Bool :=
  let b := s.txFlow c
  let o := byteAt (s.txData c) 32
  let p := byteAt b 2
  flowValid b && s.outRuns o && decide (o < 96) && s.laneMode p == 2 && s.laneOn p && !s.ethMember p &&
  (s.twin.role == 0 || s.twin.gate)

/-- Packets of a line of B bytes. -/
def linePackets (f payload : Nat) : Nat := ceilDiv (fmtLineBytes f) (max 1 payload)
/-- Active lines of a field, or of the frame of a format without fields. -/
def fieldLines (f : Nat) : Nat := if fmtTwoFields f then fmtActiveLines f / 2 else fmtActiveLines f
/-- N of R137. -/
def packetsPer (f payload : Nat) : Nat := linePackets f payload * fieldLines f

/-- Scheduled time of packet k of a field of grid frame g (R137): the packets of one line spread over one line period. -/
def State.packetTime (s : State) (o f payload g field k : Nat) : Nat :=
  let first := (fmtFirstActive f).getD field 1
  s.outTime o (s.outVideo o) g first + linesPt f 1 1 + linesPt f k (linePackets f payload)

/-- Words of an SDI frame of a raster, as bytes of ten-bit words (R136, ST 2022-6). -/
def sdiFrameBytes (f : Nat) : Nat :=
  let rate := match fmtSdiRate f with | 1 => 270000000 | 2 => 1485000000 | 3 => 1485000000 | _ => 2970000000
  let (num, den) := rateFrac (f % 256)
  let den' := if den = 1001 ∧ fmtSdiRate f ≠ 1 then 1000 else den
  if num = 0 then 0 else rate * den' / (8 * num)

/-- Datagrams of a frame of ST 2022-6. -/
def sdiPackets (f : Nat) : Nat := ceilDiv (sdiFrameBytes f) 1376

/-- Scheduled time of datagram k of grid frame g: spread over the frame from line 1's departure. -/
def State.datagramTime (s : State) (o f g k : Nat) : Nat :=
  s.outTime o (s.outVideo o) g 1 + linesPt f 1 1 + linesPt f (k * fmtLines f) (max 1 (sdiPackets f))

/-- RTP timestamp of a Pacer time on a clock, rounded (R136). -/
def rtpOf (hz pt : Nat) : Nat := (roundDiv ((pt * hz : Nat) : Int) (1000000000 * ptNs)).toNat % 2 ^ 32

/-- The media content of a packet leaves context c at a place of its schedule (R134, R114): the pair's sequence number, then the MAC. -/
def State.sendPacket (s : State) (c place ts : Nat) (marker : Bool) (body : CellBody) : State :=
  let b := s.txFlow c
  let p := byteAt b 2
  let l := s.txLead c
  let x := s.tx l
  let s1 := if x.flowLast = place then s
    else s.setTx l { x with seq := (x.seq + 1) % seqMod (byteAt b 1), flowLast := place }
  let seq := (s1.tx l).seq
  let y := s1.tx c
  if s1.ethUp p && s1.laneActive p then
    ((s1.setTx c { y with packets := (y.packets + 1) % 2 ^ 64, last := place, sending := true }).bump64 (O.ethTxFrames p)).emit
      (.packet c (s1.pktHdr c) seq ts marker body)
  else (s1.setTx c { y with discarded := (y.discarded + 1) % 2 ^ 32, last := place, sending := true }).bump (O.ethTxDiscarded p)

/-- Bytes of an ancillary packet in RFC 8331. -/
def ancSize (k : AncPkt) : Nat := (72 + 10 * k.data.length + 31) / 32 * 4

/-- Ancillary packets gathered into RTP packets of at most 1,400 bytes with an 8-byte payload header. -/
def ancGroups : Nat → List AncPkt → List AncPkt → Nat → List (List AncPkt)
  | 0, _, _, _ => []
  | _, cur, [], _ => if cur.isEmpty then [] else [cur]
  | fuel + 1, cur, k :: ks, n =>
    if n + ancSize k ≤ 1400 ∨ cur.isEmpty then ancGroups fuel (cur ++ [k]) ks (n + ancSize k)
    else cur :: ancGroups fuel [k] ks (8 + ancSize k)

/-- Ancillary packets of stream `st` that output o carries in a field of grid frame g, none while it holds (R233). DESIGN CHOICE (log entry 198):
packets of lines not yet released when the field's packets leave, and a field without packets, are not sent. -/
def State.fieldAnc (s : State) (o g field st : Nat) : List AncPkt :=
  let f := s.outRaster o
  let half := if fmtTwoFields f then fmtLines f / 2 else fmtLines f
  let lines := (List.range half).map (fun i => if field = 0 then i + 1 else half + i + 1)
  let pk := lines.flatMap (fun n => s.ancOf (s.sidFor o g n (s.num (O.takeAncSid o)) (s.out_ o).prevAnc) g n)
  if (s.out_ o).hold || s.twin.sdiHold != 0 then []
  else (pk.filter (fun k => k.ckOk && k.link == st + 1)) ++ (if st = 0 then (s.out_ o).insNow else [])

/-- Grid frames and fields near now, newest first. -/
def State.nearFields (s : State) (f : Nat) : List (Nat × Nat) :=
  let g := gridFrame (f % 256) s.tm.pt + 1
  (List.range 5).flatMap (fun i => ((List.range (fmtFirstActive f).length).reverse).map (fun d => (g - i, d)))

/-- Whether a scheduled time is now, within 10 ns (R137). -/
def State.onTime (s : State) (t : Nat) : Bool := decide (t ≤ s.tm.pt + 10 * ptNs) && decide (s.tm.pt ≤ t + 10 * ptNs)

/-- A number for a place in a context's schedule. -/
def placeOf (g field k : Nat) : Nat := (2 * g + field) * 2 ^ 20 + k + 1

/-- Datagram k of grid frame g of ST 2022-6: 1,376 bytes of the SDI signal of output o (R98–R102, R136), on the lines they lie on. -/
def State.datagram (s : State) (o f g k : Nat) : CellBody :=
  let size := max 1 (sdiFrameBytes f / fmtLines f)
  let n0 := 1376 * k / size + 1
  let n1 := (1376 * k + 1375) / size + 1
  .sdi (1376 * k) (((s.out_ o).sdiSent.filter (fun q => q.1 == g && decide (n0 ≤ q.2.line) && decide (q.2.line ≤ n1))).map Prod.snd).reverse

/-- MEDIA_PACKET_SEND (R134–R137). -/
def execMediaPacketSend (c : Fin 8192) (k at_ : Nat) (s0 : State) : Res :=
  let s := s0.toTick at_
  let b := s.txData c
  let o := byteAt b 32
  let f := s.outRaster o
  if !s.txRuns c then .next s
  else
    match byteAt b 1 with
    | 1 =>
      let pay := halfAt b 36
      let ppl := linePackets f pay
      (match (s.nearFields f).find? (fun q => decide (k < packetsPer f pay) && s.onTime (s.packetTime o f pay q.1 q.2 k)) with
       | none => .next s
       | some (g, d) =>
         if (s.tx c).last = placeOf g d k then .next s
         else
           let line := flowLine f ((if fmtTwoFields f then d * fieldLines f else 0) + k / ppl)
           let x := s.out_ o
           let data := ((x.sent.find? (fun q => q.1 == g && q.2.1 == line)).map (fun q => q.2.2.flatten)).getD x.line.flatten
           .next (s.sendPacket c (placeOf g d k) (rtpOf 90000 (gridStart (f % 256) g)) (k + 1 == packetsPer f pay)
             (.video ((data.drop (k % ppl * pay)).take pay))))
    | 5 =>
      (match (List.range 4).map (fun i => gridFrame (f % 256) s.tm.pt + 1 - i) |>.find? (fun g =>
          decide (k < sdiPackets f) && s.onTime (s.datagramTime o f g k)) with
       | none => .next s
       | some g =>
         if (s.tx c).last = placeOf g 0 k then .next s
         else
           .next (s.sendPacket c (placeOf g 0 k) (rtpOf 90000 (gridStart (f % 256) g)) (k + 1 == sdiPackets f) (s.datagram o f g k)))
    | 4 =>
      (match (s.nearFields f).find? (fun q =>
          let t := s.packetTime o f 1 q.1 q.2 0
          decide (t ≤ s.tm.pt) && decide (s.tm.pt ≤ t + linesPt f 1 1)) with
       | none => .next s
       | some (g, d) =>
         let groups := ancGroups 4096 [] (s.fieldAnc o g d (byteAt b 33)) 8
         match groups[k]? with
         | none => .next s
         | some pk =>
           if placeOf g d k ≤ (s.tx c).last then .next s
           else .next (s.sendPacket c (placeOf g d k) (rtpOf 90000 (gridStart (f % 256) g)) (k + 1 == groups.length) (.anc pk)))
    | _ => .next s

/-- `n` samples of positions of output o from house sample `h` on: up to the take instant of a change of padding with the old one, then with the
new one, spliced over 64 samples (R230). -/
def State.housePositions (s : State) (o g h n : Nat) (ps : List Nat) : List (Nat × List Nat) × State :=
  let x := s.out_ o
  let sh := s.posShift o g
  match x.pad with
  | none => s.readPositions o g (h - sh) (h - sh + n) ps
  | some (at_, old) =>
    let m := min n (at_ - h)
    let p := (s.setOut o { x with splice := none }).readPositions o g (h - old) (h - old + m) ps
    let y := p.2.out_ o
    let q := (p.2.setOut o { y with splice := some (at_ - sh, (sh : Int) - old) }).readPositions o g (h + m - sh) (h + n - sh) ps
    (ps.map (fun i => (i, (((p.1.find? (fun v => v.1 == i)).map Prod.snd).getD []) ++ (((q.1.find? (fun v => v.1 == i)).map Prod.snd).getD []))),
      q.2.setOut o { q.2.out_ o with splice := x.splice })

/-- AUDIO_PACKET_SEND (R130, R136): the packet whose packet time ended within the last 10 µs. -/
def execAudioPacketSend (c : Fin 8192) (at_ : Nat) (s0 : State) : Res :=
  let s := s0.toTick at_
  let b := s.txData c
  let o := byteAt b 32
  let f := s.outRaster o
  if !s.txRuns c ∨ !(byteAt b 1 = 2 ∨ byteAt b 1 = 3) then .next s
  else
    let g := gridFrame (f % 256) s.tm.pt
    let fs := s.outAudioRate o g * 1000
    let n := packetSamples fs (byteAt b 35)
    let h := s.tm.pt * fs / (1000000000 * ptNs)
    let end_ := if n = 0 then 0 else h / n * n
    let late := decide (samplePt fs end_ + 10000 * ptNs < s.tm.pt)
    if n = 0 ∨ late ∨ end_ < n ∨ (s.tx c).last = end_ + 1 then .next s
    else
      let t0 := end_ - n
      let (audio, s1) := s.housePositions o g t0 n ((List.range (byteAt b 34)).map (fun i => byteAt b 33 + i))
      .next (s1.sendPacket c (end_ + 1) (t0 % 2 ^ 32) false (.audio (audio.map Prod.snd)))

/-! ### Host frames and timestamps (R139–R142) -/

/-- The next scheduled media packet of lane p, from now on, as Pacer time. -/
def State.nextMediaAt (s : State) (p : Nat) : Option Nat :=
  let ts := s.txFlows.flatMap (fun q =>
    let b := s.txData q.1
    let o := byteAt b 32
    let f := s.outRaster o
    if byteAt q.2 2 ≠ p ∨ !s.txRuns q.1 then []
    else if byteAt b 1 = 1 then
      (s.nearFields f).filterMap (fun g =>
        let pay := halfAt b 36
        let t0 := s.packetTime o f pay g.1 g.2 0
        let step := linesPt f 1 (linePackets f pay)
        let k := if s.tm.pt ≤ t0 then 0 else ceilDiv (s.tm.pt - t0) (max 1 step)
        if k < packetsPer f pay then some (s.packetTime o f pay g.1 g.2 k) else none)
    else if byteAt b 1 = 5 then
      (List.range 5).filterMap (fun i =>
        let g := gridFrame (f % 256) s.tm.pt + 1 - i
        let t0 := s.datagramTime o f g 0
        let step := linesPt f (fmtLines f) (max 1 (sdiPackets f))
        let k := if s.tm.pt ≤ t0 then 0 else ceilDiv (s.tm.pt - t0) (max 1 step)
        if k < sdiPackets f then some (s.datagramTime o f g k) else none)
    else if byteAt b 1 = 4 then
      (s.nearFields f).filterMap (fun g =>
        let t := s.packetTime o f 1 g.1 g.2 0
        if s.tm.pt < t then some t
        else
          let n := (ancGroups 4096 [] (s.fieldAnc o g.1 g.2 (byteAt b 33)) 8).length
          if s.tm.pt ≤ t + linesPt f 1 1 ∧ n ≠ 0 ∧ (s.tx q.1).last < placeOf g.1 g.2 (n - 1) then some s.tm.pt else none)
    else
      let fs := s.outAudioRate o (gridFrame (f % 256) s.tm.pt) * 1000
      let n := packetSamples fs (byteAt b 35)
      let e := if n = 0 then 0 else s.tm.pt * fs / (1000000000 * ptNs) / n * n
      if n = 0 then []
      else if (s.tx q.1).last ≠ e + 1 ∧ s.tm.pt ≤ samplePt fs e + 10000 * ptNs then [s.tm.pt]
      else [samplePt fs (e + n)])
  (ts.filter (fun t => decide (s.tm.pt ≤ t))).foldl (fun a t => some (min (a.getD t) t)) none

/-- TXTS_STATUS_p. -/
def rTxts (p : Nat) : Nat := 0x409008 + 0x20 * p

/-- A transmit timestamp is captured (R140–R142). -/
def State.capture (s : State) (p id : Nat) : State :=
  let e := s.eth_ p
  if 16 ≤ e.stamps.length then
    (((s.setEth p { e with lostId := id }).setBit (rTxts p) 31).bump (O.ethTxTsOverflow p)).ethEvent p 11 0x340C (p16 id)
  else
    let q := s.txQuarter p
    s.setEth p { e with stamps := e.stamps ++ [⟨id, q / 4 / 1000000000 % 2 ^ 48, q / 4 % 1000000000, q % 4⟩] }

/-- Whether a frame of a length that starts on lane p now finishes before the next scheduled media packet (R139). -/
def State.fitsGap (s : State) (p length : Nat) : Bool :=
  let wire := ceilDiv ((length + 20) * 8 * 1000000000 * ptNs) (ethBits (s.num (O.ethEthRate p)))
  match s.nextMediaAt p with | some t => decide (s.tm.pt + wire ≤ t) | none => true

/-- Whether the Pacer servo controller works through MAC m (R122, R335, R348): it runs, and the MAC is a management lane, or an active
port lane in Ethernet mode with PTP_HANDLER 1. -/
def State.servoLane (s : State) (m : Nat) : Bool :=
  !s.upd.paused && (decide (96 ≤ m) || (s.laneMode m == 2 && s.laneActive m && s.num (O.ethPtpHandler m) == 1))

/-- The stamp of what MAC m receives now, in quarter nanoseconds; the management lanes have no correction. -/
def State.rxStampOf (s : State) (m : Nat) : Nat := if m < 96 then s.rxQuarter m else s.tm.pt * 4 / ptNs

/-- Length of a servo frame with its FCS: Ethernet, IPv4 or IPv6 with UDP or neither, and the message of IEEE 1588-2019 (log entry 158). -/
def ServoTx.length (f : ServoTx) : Nat :=
  max 64 (18 + (match f.transport with | 0 => 28 | 1 => 48 | _ => 0) +
    (match f.type with | 9 => 54 | 0xB => 64 | 0xD => 48 + f.data.length | _ => 44))

/-- The transmit stamp of an event message of the servo controller (R141): captured in the queue it shares with the host, under a TS_ID with
bit 15 set, and popped by the controller; none where the queue is full. -/
def State.servoStamp (s : State) (m seq : Nat) : Option Nat × State :=
  if 96 ≤ m then (some (s.tm.pt * 4 / ptNs), s)
  else
    let s1 := s.capture m (0x8000 + seq % 0x8000)
    let e := s1.eth_ m
    match e.stamps.find? (fun t => decide (0x8000 ≤ t.id)) with
    | none => (none, s1)
    | some t => (some (4 * (1000000000 * t.sec + t.ns) + t.frac), s1.setEth m { e with stamps := e.stamps.erase t })

/-- A servo frame leaves MAC m now. -/
def State.servoEmit (s : State) (m : Nat) (f : ServoTx) : State :=
  (if m < 96 then s.bump64 (O.ethTxFrames m) else s).emit (.ptp m f.type f.domain f.transport f.seq f.fields f.data)

/-- A servo frame waits for its gap on lane m (R139). -/
def State.servoWait (s : State) (m : Nat) (f : ServoTx) : State :=
  s.setEth m { s.eth_ m with wait := (s.eth_ m).wait ++ [⟨f.length, 0, false, 0, 0, [], some f⟩] }

/-- Whether a servo frame must wait on MAC m. -/
def State.servoBusy (s : State) (m : Nat) (f : ServoTx) : Bool :=
  decide (m < 96) && (!(s.eth_ m).wait.isEmpty || !s.fitsGap m f.length)

/-- A servo frame starts on MAC m (R350, R351): the time of a Delay_Req is noted for its exchange, and the time of a Sync leaves in its
Follow_Up. -/
def State.servoStart (s : State) (m : Nat) (f : ServoTx) : State :=
  let s1 := s.servoEmit m f
  if f.type ≠ 0 ∧ f.type ≠ 1 then s1
  else
    let p := s1.servoStamp m f.seq
    match p.1 with
    | none => p.2
    | some q =>
      if f.type = 1 then p.2.setPtp f.inst { p.2.ptp f.inst with req := some (f.seq, q) }
      else
        let u : ServoTx := { f with type := 8, fields := f.fields ++ [q] }
        if p.2.servoBusy m u then p.2.servoWait m u else p.2.servoEmit m u

/-- The servo controller sends a frame on MAC m (R139, R348): discarded while the link of a port lane is not up. -/
def State.servoSend (s : State) (m : Nat) (f : ServoTx) : State :=
  if m < 96 ∧ (s.laneMode m ≠ 2 ∨ !s.ethUp m ∨ !s.laneActive m ∨ s.ethMember m) then
    (if s.laneMode m = 2 ∧ !s.ethMember m then s.bump (O.ethTxDiscarded m) else s)
  else if s.servoBusy m f then s.servoWait m f
  else s.servoStart m f

/-- HOST_FRAME_START (R139): the first frame that waits on lane p, of the host or of the servo controller. -/
def execHostFrameStart (p : Fin 96) (at_ : Nat) (s0 : State) : Res :=
  let s := s0.toTick at_
  let e := s.eth_ p
  match e.wait.find? (fun q => s.frameTurn q) with
  | none => .next s
  | some f =>
    let s1 := s.setEth p { e with wait := e.wait.erase f }
    if s.laneMode p ≠ 2 ∨ !s.ethUp p ∨ !s.laneActive p ∨ s.ethMember p then
      (let s2 := if s.ethMember p then s1 else s1.bump (O.ethTxDiscarded p)
       .next (if f.servo.isSome then s2 else s2.txDone f.ring f.desc 2))
    else if !s.fitsGap p f.length then .next s
    else
      match f.servo with
      | some v => .next (s1.servoStart p v)
      | none =>
        let s2 := ((s1.bump64 (O.ethTxFrames p)).emit (.ethFrame p f.bytes)).txDone f.ring f.desc 0
        .next (if f.tsReq then s2.capture p f.tsId else s2)

/-- A read of TXTS_POP_p (R141, Table 4-11): its answer. -/
def State.popStamp (s : State) (p : Nat) : Nat × State :=
  let e := s.eth_ p
  match e.stamps.find? (fun t => decide (t.id < 0x8000)) with
  | none => (0, s)
  | some t => (2 ^ 31 + t.id, s.setEth p { e with stamps := e.stamps.erase t, popSec := t.sec, popNs := t.frac * 2 ^ 30 + t.ns })

/-- TXTS_POP. -/
def execTxtsPop (p : Fin 96) (s : State) : Res :=
  if s.laneMode p ≠ 2 || !s.winOpen (rTxts p + 4) then .next (s.emit (.regRead (rTxts p + 4) 0))
  else let (v, s1) := s.popStamp p; .next (s1.emit (.regRead (rTxts p + 4) v))

/-! ### Wire rates (R138), in thousandths of a bit per second -/

/-- Bytes of a packet on the wire beyond its RTP payload: RTP, UDP, IP, MAC, tag, FCS, preamble, SFD and gap. -/
def wireExtra (b : List Byte) : Nat :=
  12 + 8 + (if bitOf (byteAt b 0) 6 then 40 else 20) + 14 + (if bitOf (byteAt b 0) 5 then 4 else 0) + 4 + 20

/-- Rate of ST 2110-20 at a raster with a payload size. -/
def videoWire (b : List Byte) (f pay : Nat) : Nat :=
  let (num, den) := rateFrac (f % 256)
  if f = 0 then 0
  else ceilDiv (8 * (min pay (fmtLineBytes f) + 8 + wireExtra b) * linePackets f pay * fmtLines f * num * 1000) (max 1 den)

/-- The peak wire rate of a send context (R138); video of an output without a raster has none. -/
def State.ctxWire (s : State) (b : List Byte) : Nat :=
  let o := byteAt b 32
  let f := s.outRaster o
  match byteAt b 1 with
  | 1 => videoWire b f (halfAt b 36)
  | 4 => ceilDiv (32000000000 * (1400 + wireExtra b)) 1400
  | 5 =>
    let (num, den) := rateFrac (f % 256)
    if f = 0 then 0 else ceilDiv (8 * (1376 + 8 + wireExtra b) * sdiPackets f * num * 1000) (max 1 den)
  | _ =>
    let fs := s.num (O.outAudioRate o) * 1000
    let n := packetSamples fs (byteAt b 35)
    ceilDiv (8 * (byteAt b 34 * n * (if byteAt b 35 % 16 = 3 then 4 else 3) + wireExtra b) * fs * 1000) (max 1 n)

/-- Whether a sum of wire rates fits 97 % of lane p. -/
def State.rateFits (s : State) (p sum : Nat) : Bool := decide (sum * 100 ≤ ethBits (s.num (O.ethEthRate p)) * 97000)

/-- The video send context of output o. -/
def State.videoCtx (s : State) (o : Nat) : Option (Nat × List Byte) :=
  s.txFlows.find? (fun q => byteAt q.2 32 == o && (byteAt q.2 1 == 1 || byteAt q.2 1 == 5))

/-- Whether the raster of output o is carried within 97 % of its Ethernet lane (R138). DESIGN CHOICE (log entry 161): the lane is that of each
of its video send contexts, or, where there is none, its own or that of its 100 Gb/s group, with the headers of IPv4 without a VLAN tag. -/
def ethFits (s : State) (o : Nat) : Bool :=
  let all := s.txFlows
  let vids := all.filter (fun q => byteAt q.2 32 == o && (byteAt q.2 1 == 1 || byteAt q.2 1 == 5))
  let f := s.outRaster o
  let sum (p : Nat) : Nat := ((all.filter (fun q => byteAt q.2 2 == p)).map (fun q => s.ctxWire q.2)).foldl (· + ·) 0
  if vids.isEmpty then
    (let p := if s.eth100 (o / 4) then o / 4 * 4 else o
     s.rateFits p (sum p + videoWire [] f 1200) && (all.filter (fun q => byteAt q.2 32 == o)).all (fun q => s.rateFits (byteAt q.2 2) (sum (byteAt q.2 2))))
  else vids.all (fun q => byteAt q.2 1 != 5 || decide (fmtSdiRate f ≤ 5)) &&
    (all.filter (fun q => byteAt q.2 32 == o)).all (fun q => s.rateFits (byteAt q.2 2) (sum (byteAt q.2 2)))

/-! ### Values of contexts (R124, R135): what a write refuses with 0x0001 -/

/-- Whether bytes from i, n of them, are zero. -/
def zerosAt (b : List Byte) (i n : Nat) : Bool := ((b.drop i).take n).all (fun x => x == 0)

/-- Whether an address field fits its family. -/
def addrOk (v6 : Bool) (b : List Byte) (i : Nat) : Bool := v6 || zerosAt b i 12

/-- Whether a receive context's bytes are ones Table 4-6 admits. A context that is not valid may leave its fields 0 (the default), but for the
rest keeps to the same ranges. -/
def rxBytesOk (b : List Byte) : Bool :=
  let fl := byteAt b 0
  let on := bitOf fl 7
  let e := byteAt b 1
  let audio := e == 2 || e == 3
  b.length == 52 && fl % 16 == 0 && zerosAt b 50 2 && decide (e ≤ 5) && (!on || decide (1 ≤ e)) && decide (byteAt b 2 ≤ 95) &&
  (byteAt b 3 == 0 || decide (96 ≤ byteAt b 3 ∧ byteAt b 3 ≤ 127)) && decide (halfAt b 4 < 4096) && (!on || decide (1 ≤ halfAt b 6)) &&
  addrOk (bitOf fl 6) b 8 && addrOk (bitOf fl 6) b 24 && decide (byteAt b 40 < 216) &&
  (if audio then decide (byteAt b 41 ≤ 127) else if e = 4 then decide (byteAt b 41 ≤ 3) else byteAt b 41 == 0) &&
  (audio || zerosAt b 42 2) && (if e = 1 then fmtValid (halfAt b 44) || !on && halfAt b 44 == 0 else halfAt b 44 == 0) &&
  (halfAt b 46 == 0xFFFF && halfAt b 48 == 0 || decide (halfAt b 46 < 8192) && decide (halfAt b 48 ≤ 1000))

/-- Whether a send context's bytes are ones Table 4-7 admits, as for a receive context; PAYLOAD_BYTES of ST 2110-20 is judged by the hurdle. -/
def txBytesOk (b : List Byte) : Bool :=
  let fl := byteAt b 0
  let on := bitOf fl 7
  let e := byteAt b 1
  let audio := e == 2 || e == 3
  b.length == 52 && fl % 32 == 0 && zerosAt b 46 6 && decide (e ≤ 5) && (!on || decide (1 ≤ e)) && decide (byteAt b 2 ≤ 95) &&
  (decide (96 ≤ byteAt b 3 ∧ byteAt b 3 ≤ 127) || !on && byteAt b 3 == 0) && !bitOf (halfAt b 4) 12 && (!on || decide (1 ≤ halfAt b 6)) &&
  addrOk (bitOf fl 6) b 8 && (!on || decide (1 ≤ halfAt b 24)) && decide (byteAt b 26 < 64) && (!on || decide (1 ≤ byteAt b 27)) &&
  decide (byteAt b 32 ≤ 95) && (if audio then decide (byteAt b 33 ≤ 127) else if e = 4 then decide (byteAt b 33 ≤ 3) else byteAt b 33 == 0) &&
  (audio || zerosAt b 34 2) && (e == 1 || halfAt b 36 == 0) && (halfAt b 38 == 0xFFFF || decide (halfAt b 38 < 8192))

/-- Whether PUNT_RING's bytes name rings or 0xFF. -/
def puntBytesOk (b : List Byte) : Bool := b.length == 8 && b.all (fun x => decide (x.toNat < 64) || x == 0xFF)

/-! ### The hurdle of Ethernet lanes and flow contexts (Table 4-13) -/

/-- Whether an audio flow's PARAMS, ESSENCE and COUNT stand in Table 4-8 at a sample rate in kHz. -/
def audioOk (khz essence params count : Nat) (send : Bool) : Bool :=
  let d := params % 16
  let t := params / 16
  let bytes := count * packetSamples (khz * 1000) params * (match d with | 1 => 2 | 2 => 3 | _ => 4)
  let hi := decide (khz = 96)
  decide (1 ≤ count) && (if essence = 2 then (d == 1 || d == 2) else d == 3) && decide (bytes ≤ 1440) && (!send || d != 1) &&
  (if d = 3 then
     count % 2 == 0 && (if t = 1 then decide (count ≤ if hi then 24 else 48) else if t = 4 then decide (count ≤ if hi then 2 else 6) else false)
   else if t = 1 then decide (count ≤ if hi then 32 else 64)
   else if t = 4 then decide (count ≤ if hi then 4 else 8)
   else (t == 2 || t == 3 || t == 5) && !send)

/-- Whether an address is unicast: not a multicast group, nor the IPv4 broadcast address. -/
def unicast (v6 : Bool) (a : Nat) : Bool := if v6 then a / 2 ^ 120 != 0xFF else a / 2 ^ 28 != 0xE && a != 2 ^ 32 - 1

/-- Whether an address is one of the lane's. -/
def State.laneAddr (s : State) (p : Nat) (v6 : Bool) (a : Nat) : Bool :=
  if v6 then (s.bytes (O.ethIpv6LinkLocal p) != [] && ofBe (s.bytes (O.ethIpv6LinkLocal p)) == a) ||
    (s.bytes (O.ethIpv6Address p) != [] && ofBe (s.bytes (O.ethIpv6Address p)) == a)
  else a != 0 && s.num (O.ethIpv4Address p) == a

/-- The match keys of a receive context (R118). -/
def rxKeys (b : List Byte) : List Nat :=
  let fl := byteAt b 0
  [byteAt b 2, b2n (bitOf fl 6), b2n (bitOf fl 4), if bitOf fl 4 then halfAt b 4 else 0, addrAt b 8, halfAt b 6, b2n (bitOf fl 5),
   if bitOf fl 5 then addrAt b 24 else 0]

/-- Whether the variant enables slot n: every slot but the physical slots of lanes it lacks (R3, R21). -/
def State.slotOn (s : State) (n : Nat) : Bool := decide (96 ≤ n) || s.laneOn n

/-- Whether lane p may carry contexts. -/
def State.ctxLane (s : State) (p : Nat) : Bool := s.laneMode p == 2 && s.laneOn p && !s.ethMember p

/-- The hurdle code of receive context r; one that names a lane or a physical slot the variant lacks is refused with 0x0007 (R3, R30). -/
def rxIssue (pre post : State) (r : Nat) : Option Nat :=
  let b := post.rxFlow r
  let n := byteAt b 40
  let p := byteAt b 2
  let e := byteAt b 1
  let orphan := (List.range 240).any (fun m => decide (m < 216) && post.slotKind m == 2 && post.slotEnabled m && post.num (O.slotOrigin m) == r &&
    flowValid (pre.rxFlow r) && !(flowValid b && n == m))
  if flowValid b && !(post.laneOn p && post.slotOn n) then some 0x0007
  else if orphan then some 0x3406
  else if !flowValid b then none
  else
    let all := post.rxFlows
    let leads := all.filter (fun q => byteAt q.2 40 == n && decide (post.rxLead q.1 = q.1))
    let vids := (leads.filter (fun q => byteAt q.2 1 == 1 || byteAt q.2 1 == 5)).length
    let auds := leads.filter (fun q => byteAt q.2 1 == 2 || byteAt q.2 1 == 3)
    let ancs := (leads.filter (fun q => byteAt q.2 1 == 4)).length
    let lead := post.rxLead r
    let i := byteAt b 41
    let k := byteAt b 42
    let q := halfAt b 46
    if !post.ctxLane p then some 0x3404
    else if post.slotKind n ≠ 2 ∨ 1 < vids ∨ 16 < auds.length ∨ 4 < ancs then some 0x3406
    else if (e = 2 ∨ e = 3) ∧ (!audioOk (post.num (O.slotAudioRate n)) e (byteAt b 43) k false ∨ post.slotChannels n < i + k ∨
        auds.any (fun a => decide (a.1 ≠ lead) && rangesMeet i k (byteAt a.2 41) (byteAt a.2 42)) ∨
        (post.portRanges n).any (fun a => rangesMeet i k a.2.1 a.2.2)) then some 0x3407
    else if halfAt b 6 = 319 ∨ halfAt b 6 = 320 ∨ (unicast (bitOf (byteAt b 0) 6) (addrAt b 8) && !post.laneAddr p (bitOf (byteAt b 0) 6) (addrAt b 8)) then
      some 0x3409
    else if all.any (fun a => a.1 != r && rxKeys a.2 == rxKeys b) then some 0x3405
    else if q ≠ 0xFFFF then
      (let c := post.rxFlow q
       if decide (q < 8192) && q != r && flowValid c && halfAt c 46 == r && byteAt c 1 == e && (b.drop 40).take 6 == (c.drop 40).take 6 &&
          halfAt b 48 == halfAt c 48 then none else some 0x3408)
    else none

/-- The hurdle code of send context c; one that names a lane or an output the variant lacks is refused with 0x0007 (R3). -/
def txIssue (post : State) (c : Nat) : Option Nat :=
  let b := post.txFlow c
  let o := byteAt b 32
  let p := byteAt b 2
  let e := byteAt b 1
  if !flowValid b then none
  else if !(post.laneOn p && post.slotOn o) then some 0x0007
  else if !post.ctxLane p then some 0x3404
  else if post.outputKind o ≠ 1 ∨ 96 ≤ o ∨ (e = 5 ∧ 5 < fmtSdiRate (post.outRaster o)) then some 0x340A
  else if e = 1 ∧ (halfAt b 36 < 600 ∨ 8900 < halfAt b 36 ∨ halfAt b 36 % 5 ≠ 0) then some 0x340B
  else if (e = 2 ∨ e = 3) ∧ (!audioOk (post.num (O.outAudioRate o)) e (byteAt b 35) (byteAt b 34) true ∨ 128 < byteAt b 33 + byteAt b 34) then
    some 0x3407
  else if unicast (bitOf (byteAt b 0) 6) (addrAt b 8) && zerosAt b 40 6 then some 0x340E
  else if !post.rateFits p (((post.txFlows.filter (fun q => byteAt q.2 2 == p)).map (fun q => post.ctxWire q.2)).foldl (· + ·) 0) then some 0x340C
  else none

/-- Whether lane p is in use by flow contexts (R112): a context feeds a stream that is taken or subscribed, or sends an output with a raster. -/
def State.ethInUse (s : State) (p : Nat) : Bool :=
  s.rxFlows.any (fun q => byteAt q.2 2 == p && (s.ctxStreams q.2).any (fun k => s.streamTaken k || s.streamSubscribed k)) ||
  s.txFlows.any (fun q => byteAt q.2 2 == p && s.outRaster (byteAt q.2 32) != 0)

/-- Whether the 100 Gb/s group of lane p, where ETH_RATE asks for one, can be formed (R111). -/
def State.groupOk (s : State) (p : Nat) : Bool :=
  let b := p / 4 * 4
  ([b + 1, b + 2, b + 3].all (fun q => s.num (O.ethEthRate q) != 2 || s.eth100 (p / 4))) &&
  (s.num (O.ethEthRate b) != 2 || ([b, b + 1, b + 2, b + 3].all (fun q => s.laneMode q == 2) && !s.flag (O.sdiQuadRx b)))

/-- The hurdle code of an object of Ethernet lane p, or of LANE_MODE (`sub` 0). -/
def ethIssue (pre post : State) (p sub : Nat) : Option Nat :=
  let rate := post.num (O.ethEthRate p)
  let fec := post.num (O.ethFec p)
  let changed := pre.num (O.ethEthRate p) != rate || pre.num (O.ethFec p) != fec || pre.laneMode p != post.laneMode p
  let inUse := changed && pre.laneMode p == 2 && pre.ethInUse p
  let fecOk := match rate with | 0 => fec == 0 | 1 => decide (fec ≤ 2) | _ => fec == 0 || fec == 2
  if sub = 0 then (if !post.groupOk p then some 0x3401 else if inUse then some 0x340D else none)
  else if sub = 1 then
    (if rate = 2 ∧ p % 4 ≠ 0 ∨ !post.groupOk p then some 0x3401 else if !fecOk then some 0x3402 else if inUse then some 0x340D else none)
  else if sub = 2 then (if !fecOk then some 0x3402 else if inUse then some 0x340D else none)
  else if sub = 3 then
    (let m := ofBe (post.bytes (O.ethMacAddress p))
     if m = 0 ∨ bitOf m 40 ∨ (List.range 96).any (fun q => q != p && ofBe (post.bytes (O.ethMacAddress q)) == m) then some 0x3403 else none)
  else none

/-- The hurdle code of an object of area 0x3000 (Tables 3-10 and 4-13); one that changes what a slot can present may need store pages (R164,
R199). -/
def area3Issue (pre post : State) (ix sub : Nat) : Option Nat :=
  if 0x3000 ≤ ix ∧ ix ≤ 0x305F then
    (match sdiIssue pre post (ix - 0x3000) sub with
     | some c => some c
     | none =>
       let own := if sub = 1 then ethIssue pre post (ix - 0x3000) 0 else if sub = 4 ∧ !post.groupOk (ix - 0x3000) then some 0x3401 else none
       if own = none ∧ (sub = 1 ∨ sub = 3 ∨ sub = 4) ∧ !pagesCover pre post then some 0x5016 else own)
  else if 0x3400 ≤ ix ∧ ix ≤ 0x345F then ethIssue pre post (ix - 0x3400) sub
  else if 0x3800 ≤ ix ∧ ix ≤ 0x383F then
    (match rxIssue pre post ((ix - 0x3800) * 128 + (sub - 1)) with
     | some c => some c
     | none => if !pagesCover pre post then some 0x5016 else none)
  else if 0x3840 ≤ ix ∧ ix ≤ 0x387F then txIssue post ((ix - 0x3840) * 128 + (sub - 1))
  else none

/-- The contexts a commit of area 0x3000 judges besides the objects it stages: every valid one. -/
def State.area3Keys (s : State) : List Nat :=
  s.rxFlows.map (fun q => O.rxFlow q.1) ++ s.txFlows.map (fun q => O.txFlow q.1)

/-! ### Effects of a commit (R112, R113, R120, R125) -/

/-- An Ethernet lane after a commit of area 0x3000. The counters of a lane that becomes a member of a group are 0 (R143). -/
def State.ethApply (s : State) (pre : State) (p : Nat) : State :=
  let mode := pre.laneMode p != s.laneMode p
  let changed := pre.num (O.ethEthRate p) != s.num (O.ethEthRate p) || pre.num (O.ethFec p) != s.num (O.ethFec p) || mode ||
    pre.ethMember p != s.ethMember p
  let s0 := if pre.laneMode p = 2 ∧ changed then s.ethDown p 4 0 false else s
  let s1 := if s0.ethMember p && !pre.ethMember p then
      (List.range 15).foldl (fun (x : State) i => x.setNum (objKey (0x3400 + p) (0x30 + i)) 0) s0 else s0
  if pre.laneMode p = 2 ∧ changed then
    if s1.laneMode p = 2 then s1
    else (((s1.eth_ p).wait).foldl (fun (x : State) f => if f.servo.isSome then x else x.txDone f.ring f.desc 2) s1).setEth p EthPort.idle
  else s1

/-- A receive context after a commit: one whose keys, SLOT or ESSENCE change starts anew (R120). DESIGN CHOICE (log entry 160): a change of
another byte makes its flow inactive, with its streams absent, until its next packet, and keeps its counters. -/
def State.rxApply (s : State) (pre : State) (r : Nat) : State :=
  let a := pre.rxFlow r
  let b := s.rxFlow r
  if a = b then s
  else
    let s1 := if flowValid a && (pre.rx (pre.rxLead r)).active then s.setPresents (pre.fedAlone r a) false else s
    if rxKeys a ≠ rxKeys b ∨ byteAt a 1 ≠ byteAt b 1 ∨ byteAt a 40 ≠ byteAt b 40 ∨ flowValid a ≠ flowValid b then s1.setRx r RxCtx.idle
    else s1.setRx r { s1.rx r with
      active := false
      fresh := true
      next := none
      wait := []
      gone := []
      ahead := []
      row := none
      parts := []
      frame := none
      sdiFmt := 0
      sdiLast := 0 }

/-- The slot's RASTER is the FORMAT of its ST 2110-20 context from the commit on, and for ST 2022-6 the format detected, 0 until there is
one (R125). -/
def State.flowRaster (s : State) (pre : State) (n : Nat) : State :=
  if s.slotKind n ≠ 2 then s
  else
    let carried (x : State) : Bool := x.slotKind n == 2 && (x.slotFlows n).any (fun q => byteAt q.2 1 == 5)
    let f := match (s.slotFlows n).find? (fun q => byteAt q.2 1 == 1) with
      | some q => halfAt q.2 44
      | none => if carried s && carried pre then s.slotRaster n else 0
    if f = s.slotRaster n then s else (s.slotAcquire n).setNum (O.slotRaster n) f

/-- What a commit of area 0x3000 changes at once; ORIGIN of a slot whose lane changes its mode followed with the staged sets (R21,
State.originsFollow). DESIGN CHOICE (log entry 160): the counters and the sequence number of a send context restart with any change of its bytes. -/
def State.area3Apply (s : State) (pre : State) : State :=
  let s1 := (List.range 96).foldl (fun (x : State) p =>
    (x.sdiApply pre p).ethApply pre p) s
  let s2 := ((pre.rxFlows ++ s1.rxFlows).map Prod.fst).foldl (fun (x : State) r => x.rxApply pre r) s1
  let s3 := ((pre.txFlows ++ s2.txFlows).map Prod.fst).foldl (fun (x : State) c =>
    if pre.txFlow c = x.txFlow c then x else x.setTx c (txIdle c)) s2
  ((List.range 216).foldl (fun (x : State) n => x.flowRaster pre n) s3).storeApply pre

end Sys2Proof.Machine
end

