-- ==== Sys2Proof/Machine/FabAsk.lean ====
section
/-! DEFINITION. Answers to the subscription requests this device made, and what waited for them (R198, R202, R217, R225). -/

namespace Sys2Proof.Machine

/-- A request is admitted: the channel is held. -/
def State.ackAsk (s : State) (j reqId ch charge first : Nat) : State :=
  let l := s.link j
  match l.asks.find? (fun a => a.reqId == reqId) with
  | none =>
    ((s.setLink j { l with nextReq := (l.nextReq + 1) % 65536, closing := ch :: l.closing }).ctlSend
      j 4 l.nextReq (beBytes 2 ch))
  | some a =>
    let h : HeldSub := ⟨a.sid, a.count, a.purpose, charge, first, none, [], [], .none, false, 0⟩
    (s.setLink j { l with asks := l.asks.filter (fun b => b.reqId != reqId), subs := tput l.subs ch h }).linkObjs j

/-- A request is refused; one that repeated an earlier subscription stays wanted (R202). -/
def State.nakAsk (s : State) (j reqId : Nat) : State :=
  let l := s.link j
  s.setLink j { l with
    asks := l.asks.filter (fun b => b.reqId != reqId),
    lost := l.lost ++ (l.asks.filter (fun b => b.reqId == reqId && b.again)).map (fun b => (b.sid, b.count, b.purpose)) }

/-- Records that waited for a request no longer do. -/
def State.takesAck (s : State) (j reqId : Nat) : State :=
  s.setBatches (s.ess.takes.batches.map (fun b =>
    { b with recs := b.recs.map (fun r => { r with asks := r.asks.filter (fun q => q != (j, reqId)) }) }))

/-- Whether a refused request bars a record that waits for it: not where its source lacks a link of a taken stream, nor where the partner
mirrors the record, whose output then holds (R374). -/
def Batch.barred (b : Batch) (r : PendRec) (j reqId reason sid : Nat) : Bool :=
  r.asks.contains (j, reqId) && b.origin != 5 &&
  !(reason == 1 && (sidClass sid == 0 || sidClass sid == 2) && sidSub sid != 0 && !(r.rec_.setAnc && r.rec_.anc == sid))

/-- Records that waited for a refused request: the batch is refused, or, where admission refused it with SPLITTABLE, the record alone (R217,
R226). -/
def State.takesNak (s : State) (j reqId reason sid : Nat) : State :=
    let st := if reason = 1 then 0x6013 else 0x6017
    s.ess.takes.batches.foldl (fun (x : State) b =>
      let alone := b.split && reason != 1
      let hit := b.recs.filter (fun r => b.barred r j reqId reason sid)
      if hit.isEmpty then x
      else
        let gone := if alone then hit else b.recs
        let y := gone.foldl (fun (z : State) r =>
          z.journal (if b.barred r j reqId reason sid then st else 0x6019) b.origin b.split r.rec_ b.ta r.frame) x
        let keep := if alone then (b.recs.filter (fun r => !b.barred r j reqId reason sid)).map (fun r =>
          { r with asks := r.asks.filter (fun q => q != (j, reqId)) }) else []
        let z := y.setBatches (y.ess.takes.batches.map (fun c => if c.order = b.order then { c with recs := keep } else c))
        let w := gone.foldl (fun (v : State) r => v.pendObj r.rec_.output) z
        let v := if keep.isEmpty then w.raise 0x6003 (p32 b.id ++ p16 st) else w
        let u := v.ringRefused b.origin st
        (if keep.isEmpty then u else u.ringIrq b.origin).sweepBatches) (s.takesAck j reqId)

/-- Requests of a link that is down will not be answered: what waited for them is refused (R198 reason 4). -/
def State.asksFail (s : State) (j : Nat) : State :=
  let l := s.link j
  l.asks.foldl (fun (x : State) a => ((x.nakAsk j a.reqId).takesNak j a.reqId 4 a.sid).refuseWaits j a.reqId 0x4011) s

end Sys2Proof.Machine
end

