-- ==== Sys2Proof/Machine/Fabric.lean ====
section
/-! DEFINITION. The Relay fabric: lane allocation, training, markers, lane maps, links, eye scans (R175–R194), and the hurdle of area
0x4000 (R209, R211). -/

namespace Sys2Proof.Machine

/-! ### Objects and events -/

/-- FL_EVT_f. -/
def rFlEvt (f : Nat) : Nat := 0x40C008 + 0x10 * f
/-- FL_FEC_f. -/
def rFlFec (f : Nat) : Nat := 0x40C004 + 0x10 * f
/-- FL_PRBS_f. -/
def rFlPrbs (f : Nat) : Nat := 0x40C00C + 0x10 * f
/-- LINK_EVT_j. -/
def rLinkEvt (j : Nat) : Nat := 0x40D004 + 0x10 * j

/-- A lane event (R210, R212). -/
def State.laneEvent (s : State) (f bit code : Nat) (payload : List Byte) : State :=
  (s.setBit (rFlEvt f) bit).raise code (p8 f ++ payload)
/-- A link event. -/
def State.linkEvent (s : State) (j bit code : Nat) (payload : List Byte) : State :=
  (s.setBit (rLinkEvt j) bit).raise code (p8 j ++ payload)

/-- Whether a lane is trained, locked, deskewed and within margin. -/
def State.laneGood (s : State) (f : Nat) : Bool :=
  let l := s.fl f
  l.phase == .trained && l.cwLock && l.deskewed && !l.worn && !l.failed && s.num (O.flPrbsMode f) == 0 && s.laneUsable f

/-- ROLE of a lane (Table 6-3). -/
def State.laneRole (s : State) (f : Nat) : Nat :=
  match s.laneLink f with
  | none => 0
  | some (j, m) =>
    let l := s.fl f
    let k := s.link j
    if !s.flag (O.flLaneEnable f) then 0
    else if s.num (O.flPrbsMode f) ≠ 0 then 7
    else if k.rxMap.contains m && k.up then 1
    else if l.worn then 4
    else if l.failed then 5
    else if l.phase = .training then 6
    else if l.phase = .retry then 5
    else if l.phase = .trained then 2 else 3

/-- ROLE and link objects of a lane and its link, brought up to date. -/
def State.roleObj (s : State) (f : Nat) : State := s.setNum (O.flRole f) (s.laneRole f)

/-- Hot spares of a link in the receive direction. -/
def State.hotSpares (s : State) (j : Nat) : List Nat :=
  (List.range (s.lanesTo j)).filter (fun m => s.laneGood (s.laneTo j m) && !(s.link j).want.contains m)

/-- LINK_STATE of the link to device j (R193). -/
def State.linkStateOf (s : State) (j : Nat) : Nat :=
  if s.lanesTo j = 0 then 4
  else
    let l := s.link j
    let n := s.num O.meshActiveLanes
    if l.held then 1
    else if l.up then (if n ≤ l.txMap.length ∧ n ≤ l.rxMap.length then 2 else 3)
    else if (List.range (s.lanesTo j)).any (fun m => (s.fl (s.laneTo j m)).phase == .training || (s.fl (s.laneTo j m)).phase == .trained)
      then 1 else 0

/-- CAP of a lane count in Mb/s (R188). -/
def capOf (a : Nat) : Nat := 100300 * a - 400

/-- The objects of link j that follow its maps and lanes. -/
def State.linkStat (s : State) (j : Nat) : State :=
  let l := s.link j
  let st := s.linkStateOf j
  let s1 := ((((s.setNum (kLink j 1) st).setNum (kLink j 5) l.txMap.length).setNum (kLink j 6) l.rxMap.length).setNum (kLink j 7)
    (min 2 (s.hotSpares j).length)).setNum (kLink j 8) (capOf l.txMap.length)
  let s2 := s1.setNum 0x400201 ((List.range 12).foldl (fun a i => a + (if (s1.link i).up then 2 ^ i else 0)) 0)
  let reduced := (List.range 12).any (fun i => s2.linkStateOf i == 3)
  let s3 := if st = 3 then s2.report 65 0x4007 else if !reduced then s2.conditionEnd 65 else s2
  ((List.range (s3.lanesTo j)).foldl (fun (x : State) m => x.roleObj (x.laneTo j m)) s3).linkObjs j

/-! ### Training (R179–R182) -/

/-- Taps of a preset (Table 6-6). -/
def presetTaps (p : Nat) : Nat := if p = 1 then 64 * 256 else if p = 3 then 8 * 65536 + 44 * 256 + 12 else 4 * 65536 + 52 * 256 + 8

/-- A training frame leaves on lane f with its CONTROL and STATUS (R179). -/
def State.sendFrame (s : State) (f : Nat) : State :=
  let l := s.fl f
  let p := trainFrame l.ourCtl l.ourStat l.prbs
  (s.setFl f { l with prbs := p.2 }).emit (.training f p.1)

/-- Lane f begins to train from its preset; no lane trains before phase 4 (R491). With what its PRBS13 begins is not stated: a free value. -/
def State.startTraining (s : State) (f : Nat) (retry : Bool) : State :=
  match s.laneLink f, s.started with
  | none, _ => s
  | _, false => s
  | some (_, m), true =>
    let (k, s1) := s.freeNat
    let l := s1.fl f
    let ctl := m * 64
    let st := s1.devIndex * 2048
    (((s1.setFl f { l with phase := .training, since := s1.now, frames := 0, lastCtl := 0, ourCtl := ctl, ourStat := st, ready := false,
                           cwLock := false, deskewed := false, missed := 0, retried := retry, low := 0, prbs := k % 8191 + 1, amRx := 0,
                           slotted := false, farTrains := false }).setNum
      (O.flTxTaps f) (presetTaps (s1.num (O.flPreset f)))).sendFrame f).roleObj f

/-- One tap request against the taps: the status it is answered with and the taps after it (R181). -/
def tapStep (which req taps : Nat) : Nat × Nat :=
  let pre := fld taps 23 16
  let main := fld taps 15 8
  let post := fld taps 7 0
  let v := if which = 0 then pre else if which = 1 then main else post
  let lo := if which = 1 then 40 else 0
  let hi := if which = 0 then 12 else if which = 1 then 64 else 24
  let put (x : Nat) : Nat :=
    if which = 0 then setFld taps 23 16 x else if which = 1 then setFld taps 15 8 x else setFld taps 7 0 x
  if req = 1 then (if v = hi ∨ pre + main + post = 64 then (3, taps) else (1, put (v + 1)))
  else if req = 2 then (if v = lo then (2, taps) else (1, put (v - 1)))
  else (0, taps)

/-- The three request fields of a CONTROL word against our STATUS and taps. -/
def tapFields (ctl stat taps : Nat) : Nat × Nat :=
  [(0, 5, 4), (1, 3, 2), (2, 1, 0)].foldl (fun (a : Nat × Nat) x =>
    let req := fld ctl x.2.1 x.2.2
    let st := fld a.1 x.2.1 x.2.2
    if req = 0 ∨ req = 3 then (setFld a.1 x.2.1 x.2.2 0, a.2)
    else if st ≠ 0 then a
    else
      let (r, t) := tapStep x.1 req a.2
      (setFld a.1 x.2.1 x.2.2 r, t)) (stat, taps)

/-- Our CONTROL after a STATUS word: PRESET as our receiver asks for it (`want` bits 7 and 6), the tap requests returned to 0 once answered and
set again once the answer has returned to 0 (R180, R181). -/
def ourRequests (ctl status want : Nat) : Nat :=
  [(5, 4), (3, 2), (1, 0)].foldl (fun c x =>
    let mine := fld c x.1 x.2
    let st := fld status x.1 x.2
    if mine ≠ 0 then (if st ≠ 0 then setFld c x.1 x.2 0 else c)
    else if st = 0 then setFld c x.1 x.2 (fld want x.1 x.2 % 3) else c) (setFld ctl 12 11 (fld want 7 6))

/-! ### Lanes that fail (R191) -/

/-- A lane becomes Worn: out of use until RETRAIN. -/
def State.laneWorn (s : State) (f unc : Nat) : State :=
  let l := s.fl f
  if l.worn then s
  else
    (((s.setFl f { l with worn := true }).laneEvent f 4 0x4005 (p8 (s.num (O.flEyeMargin f)) ++ p32 unc)).report 64 0x4005).roleObj f

/-- A lane becomes Failed; for the third time within 1 h of operating time it is made Worn instead. -/
def State.laneFailed (s : State) (f code : Nat) : State :=
  let l := s.fl f
  let fails := s.opTime :: l.fails.filter (fun t => decide (s.opTime < t + 3600))
  let s1 := s.setFl f { l with fails := fails }
  if 3 ≤ fails.length then s1.laneWorn f 0
  else ((s1.setFl f { s1.fl f with failed := true }).report 64 code).roleObj f

/-! ### Maps (R190, R191) -/

/-- Link lanes of a bit mask, ascending. -/
def maskLanes (m : Nat) : List Nat := (List.range 24).filter (fun i => bitOf m i)
/-- The bit mask of link lanes. -/
def lanesMask (l : List Nat) : Nat := l.foldl (fun a i => a + 2 ^ i) 0

/-- Spares beyond HOT_SPARES are parked; a parked spare trains in place of a hot one that was used up (R178). -/
def State.sparesOf (s : State) (j : Nat) : State :=
  let want := (s.link j).want
  if want.isEmpty then s
  else
    let limit := s.num O.meshHotSpares
    let ms := (List.range (s.lanesTo j)).filter (fun m => s.laneUsable (s.laneTo j m) && !want.contains m &&
      !(s.fl (s.laneTo j m)).worn && !(s.fl (s.laneTo j m)).failed && s.num (O.flPrbsMode (s.laneTo j m)) == 0)
    let live := ms.filter (fun m => (s.fl (s.laneTo j m)).phase != .idle)
    let parked := ms.filter (fun m => (s.fl (s.laneTo j m)).phase == .idle)
    if want.length < s.num O.meshActiveLanes then
      parked.foldl (fun (x : State) m => x.startTraining (x.laneTo j m) true) s
    else if limit < live.length then
      ((live.reverse.take (live.length - limit)).filter (fun m => (s.fl (s.laneTo j m)).phase == .trained)).foldl
        (fun (x : State) m =>
          let f := x.laneTo j m
          (x.setFl f { x.fl f with phase := .idle, cwLock := false, deskewed := false }).roleObj f) s
    else (parked.take (limit - live.length)).foldl (fun (x : State) m => x.startTraining (x.laneTo j m) true) s

/-- The receiver decides the map it requests (R191): the first one once every lane has trained, and the link's markers have told its skew, or
has reached TRAIN_TIMEOUT. -/
def State.wantMap (s : State) (j : Nat) : State :=
  let l := s.link j
  let n := s.num O.meshActiveLanes
  let all := List.range (s.lanesTo j)
  let good := all.filter (fun m => s.laneGood (s.laneTo j m))
  if l.held then s
  else if l.want.isEmpty then
    (let settled := all.all (fun m =>
       let x := s.fl (s.laneTo j m)
       !s.laneUsable (s.laneTo j m) || (if x.phase = .trained then x.slotted else x.phase != .training && x.phase != .retry) || x.timedOut ||
         decide (x.since + s.num O.meshTrainTimeout * tickMs ≤ s.now))
     if settled && !good.isEmpty then (s.setLink j { l with want := good.take n }).sparesOf j else s)
  else
    let bad (m : Nat) : Bool := (s.fl (s.laneTo j m)).worn || (s.fl (s.laneTo j m)).failed || !s.laneUsable (s.laneTo j m) ||
      s.num (O.flPrbsMode (s.laneTo j m)) != 0
    let keep := l.want.filter (fun m => !bad m)
    let fresh := (good.filter (fun m => !l.want.contains m)).take (n - keep.length)
    let map := sortNat ((keep ++ fresh).take n)
    if map = l.want then s.sparesOf j else (s.setLink j { l with want := map }).sparesOf j

/-- A map of one direction changes: substitution where the count stays, otherwise reduction or restoration (R191, R212). -/
def State.mapEvents (s : State) (j : Nat) (old new : List Nat) (count : Nat) (rx : Bool) : State :=
  if old.isEmpty ∨ new.isEmpty ∨ old = new then s
  else
    let out := old.filter (fun m => !new.contains m)
    let inn := new.filter (fun m => !old.contains m)
    let s1 := (out ++ inn).foldl (fun (x : State) m => x.setBit (rFlEvt (x.laneTo j m)) 3) s
    let pairs := out.zip inn
    let s2 := pairs.foldl (fun (x : State) p =>
      let y := if rx then x.bump (kLink j 14) else x
      y.raise 0x4006 (p8 j ++ p8 (y.laneTo j p.1) ++ p8 (y.laneTo j p.2) ++ p32 count)) s1
    if old.length = new.length then s2 else s2.raise 0x4007 (p8 j ++ p8 old.length ++ p8 new.length)

/-! ### Subscriptions (R198–R202) -/

/-- The charges of a link as publisher. -/
def FabLink.charge (l : FabLink) : Nat := (l.pubs.map (fun p => p.2.charge)).foldl (· + ·) 0

/-- Sheds one subscription held as publisher (R200). -/
def State.shedPub (s : State) (j ch reason : Nat) : State :=
  let l := s.link j
  match tfind l.pubs ch with
  | none => s
  | some p =>
    let s1 := (s.setLink j { l with pubs := tdel l.pubs ch }).ctlSend j 6 0 (beBytes 2 ch ++ beBytes 1 reason)
    (((s1.linkEvent j 3 0x4008 (p16 ch ++ p32 p.sid ++ p8 p.purpose ++ p8 reason)).bump (kLink j 13))).linkObjs j

/-- The order of shedding: tiles, then converter feeds, newest first. -/
def FabLink.shedOrder (l : FabLink) : List Nat :=
  let newest (pp : Nat) : List Nat :=
    ((sortNat ((l.pubs.filter (fun p => p.2.purpose == pp)).map (fun p => p.2.age))).reverse).flatMap (fun a =>
      ((l.pubs.filter (fun p => p.2.purpose == pp && p.2.age == a)).map Prod.fst))
  newest 2 ++ newest 1

/-- Sheds in order until the charge fits a capacity. -/
def State.shedUntil (s : State) (j cap extra reason : Nat) : State :=
  ((s.link j).shedOrder).foldl (fun (x : State) ch =>
    if (x.link j).charge + extra ≤ cap then x else x.shedPub j ch reason) s

/-- The purposes a stream of another device serves: 0 a take or port or Stride input, 1 a converter feed of an internal output,
2 a tile (R202, R321). A channel in transition is used until its transition ends (R229, R261), and one named by a record that waits until the
record has run. -/
def State.usesOf (s : State) (sid : Nat) : List Nat :=
  let links (v : Nat) : Bool := runHas v 4 sid
  let outs := (List.range 128).filterMap (fun o =>
    if s.outputKind o = 0 then none
    else if links (s.outVideo o) then some (if (s.convOf o).isSome ∧ 96 ≤ o then 1 else 0)
    else if sidClass sid = 2 ∧ links (s.num (O.takeAncSid o)) then some 0
    else if s.num (O.takeTcSid o) = sid then some 0
    else if sidClass sid = 1 ∧ (List.range 128).any (fun p => s.num (O.takeAudioPosition o p) == sid) then some 0
    else none)
  let waits := if s.ess.takes.batches.any (fun b => b.recs.any (fun r => (s.recNeeds r.rec_ r.chans).contains sid)) then [0] else []
  let fades := if sidClass sid = 1 ∧ s.ess.outs.any (fun x => x.2.trans.any (fun p => p.2.old == sid || p.2.new == sid)) then [0] else []
  let records := (s.dict.waits.flatMap (fun w => w.needs.filter (fun q => q.1 == sid))).map Prod.snd
  let ports := if sidClass sid = 1 ∧ (List.range 544).any (fun d => s.num (portKey d) == sid || (s.pdest d).names sid) then [0] else []
  let strs := if s.str.act.banks.any (fun b => b.2.inputs.contains (.sid sid)) ||
      (match s.str.next with | some q => q.1.banks.any (fun b => b.2.inputs.contains (.sid sid)) | none => false) ||
      (s.gNodes.any (fun x => x.kind == 1 && x.a0 == sid)) then [0] else []
  let tiles := if s.layersSet.any (fun p => lyTile p.2 && s.headRuns (lyHead p.2) && !(s.head (lyHead p.2)).shed &&
      (tileSids p.2).any (fun x => runHas x 4 sid)) then [2] else []
  outs ++ waits ++ fades ++ records ++ ports ++ strs ++ tiles

/-- The most protected purpose among the users of a run of streams. -/
def State.purposeFor (s : State) (sid count : Nat) : Option Nat :=
  let us := (List.range count).flatMap (fun i => s.usesOf (sid + i))
  if us.contains 0 then some 0 else if us.contains 1 then some 1 else if us.contains 2 then some 2 else none

/-- Held subscriptions without a user are released, and PURPOSE follows the most protected use (R202). -/
def State.syncSubs (s : State) : State :=
  (List.range 12).foldl (fun (x : State) j =>
    let y := ((x.link j).subs).foldl (fun (z : State) h =>
      match z.purposeFor h.2.sid h.2.count with
      | none => z.dropHeld j h.1
      | some p =>
        if p = h.2.purpose then z
        else
          let l := z.link j
          (z.setLink j { l with nextReq := (l.nextReq + 1) % 65536, subs := tput l.subs h.1 { h.2 with purpose := p } }).ctlSend
            j 7 l.nextReq (beBytes 2 h.1 ++ beBytes 1 p)) x
    if (x.link j).subs.isEmpty then y else y.linkObjs j) s

/-- Shed and released subscriptions that are still wanted are requested again, in purpose order (R202). -/
def State.askAgain (s : State) (j : Nat) : State :=
  let l := s.link j
  if l.lost.isEmpty then s
  else
    let s0 := s.setLink j { l with lost := [] }
    [0, 1, 2].foldl (fun (x : State) p =>
      (l.lost.filter (fun q => (x.purposeFor q.1 q.2.1) == some p)).foldl (fun (y : State) q =>
        if (y.heldFor q.1).isSome || (y.asked q.1).isSome then y else (y.sendAsk true q.1 q.2.1 p).2) x) s0

/-- Layers whose tile shows a stream of a run lose their supply (R309). -/
def State.tilesLose (s : State) (sid count cause : Nat) : State :=
  (s.layersSet.filter (fun p => lyTile p.2 && (tileSids p.2).any (fun x => decide (x < sid + count) && decide (sid < x + 4)))).foldl
    (fun (x : State) p =>
      let c := x.lay p.1
      (x.setLay p.1 (if cause = 2 then { c with shedSub := true } else { c with linkLost := true })).supplyLost p.1 cause) s

/-! ### Link up and down (R193) -/

/-- The link goes down: every subscription over it is released at both ends. -/
def State.linkDown (s : State) (j : Nat) : State :=
  let l := s.link j
  if !l.up then s
  else
    let n := l.pubs.length + l.subs.length
    let lost := (l.subs.map (fun p => (p.2.sid, p.2.count, p.2.purpose)))
    let s1 := (s.asksFail j).setLink j
      { l with up := false, asks := [], txMap := [], txNext := [], rxMap := [], want := [], asked := [], pubs := [], subs := [],
               closing := [], lost := l.lost ++ lost, blocked := false, part := [], partHead := 0x1FFF, wait := [] }
    let s2 := lost.foldl (fun (x : State) q => x.tilesLose q.1 q.2.1 3) s1
    let s3 := s2.linkEvent j 1 0x4004 (p32 n)
    (if s3.upd.meshMet then s3.report 67 0x4004 else s3).linkStat j

/-- Whether every link to a peer is in LINK_STATE 2 or 3 (R492). -/
def State.meshUp (s : State) : Bool := (s.peers).all (fun j => s.linkStateOf j == 2 || s.linkStateOf j == 3)

/-- In phase 4 the mesh wait is met once every link is up (R492). -/
def State.meshCheck (s : State) : State :=
  if s.num O.startStartPhase = 4 ∧ !s.upd.meshMet ∧ s.meshUp then { s with upd := { s.upd with meshMet := true } } else s

/-- The link comes up or goes down as its maps have it. -/
def State.linkCheck (s : State) (j : Nat) : State :=
  let l := s.link j
  if !l.up && !l.txMap.isEmpty && !l.rxMap.isEmpty && !l.held then
    let s1 := (s.setLink j { l with up := true }).linkEvent j 0 0x4003 (p8 l.txMap.length ++ p8 l.rxMap.length)
    let others := (s1.peers).any (fun i => i != j && !(s1.link i).up && (s1.link i).anyMarker != 0)
    let s2 := if others then s1 else s1.conditionEnd 67
    ((s2.askAgain j).linkStat j).meshCheck
  else if l.up && (l.txMap.isEmpty || l.rxMap.isEmpty) then s.linkDown j
  else s.linkStat j

/-- Ticks of one marker period: 8,192 blocks of 204.8 ns. -/
def markerTicks : Nat := 1342177

/-! ### The commands of lanes -/

/-- What a marker to device j on link lane m says. -/
def State.markerFor (s : State) (j m count : Nat) : Marker :=
  let l := s.link j
  let good := (List.range (s.lanesTo j)).filter (fun i => s.laneGood (s.laneTo j i))
  ⟨count, s.devIndex, m, lanesMask l.txMap, lanesMask l.txNext, lanesMask good, lanesMask l.want, s.linkStateOf j⟩

/-- A marker block leaves on link lane m (R185). -/
def State.sendMarker (s : State) (j m count : Nat) : State := s.emit (.relayBlock (s.laneTo j m) (markerBlock (s.markerFor j m count)))

/-- The AM_COUNT of the marker that follows a lane's training: that of the markers sent last, so that the lane's count rises by 1 with the
next one; the first marker of the direction begins its count and its period (R182, R185, log entry 192). -/
def State.firstCount (s : State) (j : Nat) : Nat × State :=
  let l := s.link j
  if l.sentTick = 0 then (l.amTx, s.setLink j { l with amTx := (l.amTx + 1) % 2 ^ 32, sentTick := s.now })
  else ((l.amTx + 2 ^ 32 - 1) % 2 ^ 32, s)

/-- The lane has trained (R182): a marker block follows its last training frame. The scrambler's first state is not stated: a free value. -/
def State.laneTrained (s : State) (f j : Nat) : State :=
  let l := s.fl f
  let (k, s0) := s.freeNat
  let (c, s00) := s0.firstCount j
  let s1 := (s00.setFl f { l with phase := .trained, since := s.now, cwLock := true, missed := 0, markerTick := s.now, failed := false,
                                  timedOut := false, retried := false, scr := k % 2 ^ 58, txSince := s.now }).sendMarker j (f - s.baseTo j) c
  (((s1.laneEvent f 0 0x4001 (p32 (s1.num (O.flTxTaps f)))).roleObj f).wantMap j).linkStat j

/-- TRAINING_FRAME (R179–R182): the tap handshake in both directions, the wiring check and the end of training. On a lane in service it tells
that the far end has dropped it. Training and eye scans pause while an update loads the lane-training controllers (R472). -/
def execTrainingFrame (f : Fin 128) (control status : Half) (req : BitVec 8) (ready : Bool) (at_ : Nat) (s0 : State) : Res :=
  let s := s0.toTick at_
  let l := s.fl f
  match s.laneLink f with
  | none => .next s
  | some (j, m) =>
    if l.phase = .trained ∨ l.phase = .relock then .next (s.setFl f { l with farTrains := true })
    else if l.phase ≠ .training ∨ s.upd.paused then .next s
    else
      let ctl := control.toNat
      let st := status.toNat
      if fld ctl 10 6 ≠ m ∨ fld st 14 11 ≠ j then
        .next ((((s.setFl f { l with phase := .retry }).laneEvent f 1 0x4002 (p8 2)).wantMap j).linkStat j)
      else
        let taps := s.num (O.flTxTaps f)
        let pre := fld ctl 12 11
        let taps1 := if pre ≠ 0 ∧ fld l.lastCtl 12 11 = 0 then presetTaps pre else taps
        let (stat1, taps2) := tapFields ctl l.ourStat taps1
        let our := ourRequests l.ourCtl st req.toNat
        let stat2 := setFld stat1 15 15 (b2n ready)
        let n := if ready ∧ bitOf st 15 then l.frames + 1 else 0
        let s1 := ((s.setFl f { l with lastCtl := ctl, ourCtl := our, ourStat := stat2, ready := ready, frames := n }).setNum
          (O.flTxTaps f) taps2).sendFrame f
        .next (if 64 ≤ n then s1.laneTrained f j else s1)

/-- TRAINING_TIMEOUT (R182). -/
def execTrainingTimeout (f : Fin 128) (at_ : Nat) (s0 : State) : Res :=
  let s := s0.toTick at_
  let l := s.fl f
  match s.laneLink f with
  | none => .next s
  | some (j, _) =>
    if l.phase ≠ .training ∨ s.upd.paused ∨ s.now < l.since + s.num O.meshTrainTimeout * tickMs then .next s
    else
      let s1 := (s.setFl f { l with phase := .retry, timedOut := true }).laneEvent f 1 0x4002 (p8 1)
      let s2 := if l.failed then s1 else s1.laneFailed f 0x4002
      let s3 := if l.retried then s2.laneEvent f 5 0x400B (p8 2) else s2
      .next ((s3.wantMap j).linkCheck j)

/-- TRAINING_RETRY (R182): every 10 s, from the start of the training before it. -/
def execTrainingRetry (f : Fin 128) (at_ : Nat) (s0 : State) : Res :=
  let s := s0.toTick at_
  let l := s.fl f
  if l.phase ≠ .retry ∨ l.worn ∨ s.upd.paused ∨ s.now < l.since + 10 * tickS ∨ !s.laneUsable f then .next s
  else .next (s.startTraining f true)

/-- A reduction that takes blocked is no longer asked for, or may be made (R201). -/
def State.unblock (s : State) (j : Nat) : State :=
  let s1 := s.setLink j { s.link j with blocked := false }
  if (s.link j).blocked && !s1.fab.links.any (fun p => p.2.blocked) then s1.conditionEnd 66 else s1

/-- Whether a lane that a request leaves out has failed, as far as this end can tell: its own receiver has lost it, or the far end trains it
anew (R201). -/
def State.goneLane (s : State) (j : Nat) : Bool :=
  let l := s.link j
  (l.txMap.filter (fun m => !l.asked.contains m)).any (fun m =>
    let x := s.fl (s.laneTo j m)
    x.failed || !x.cwLock || x.farTrains)

/-- Whether the map asked for may be announced: it is no reduction, or what is admitted fits it, or a lane of the present map is gone. A map
of no lane takes the link down (R193). -/
def State.mayGrant (s : State) (j : Nat) : Bool :=
  let l := s.link j
  l.asked.isEmpty || decide (l.txMap.length ≤ l.asked.length) || decide (l.charge ≤ capOf l.asked.length) || s.goneLane j

/-- A reduction asked for sheds what does not fit it (R200); one that takes still block is not made (R201). -/
def State.clearWay (s : State) (j : Nat) : State :=
  if (s.link j).asked.isEmpty then s
  else
    let cap := capOf (s.link j).asked.length
    let s1 := s.shedUntil j cap 0 1
    let l1 := s1.link j
    if s1.mayGrant j ∨ l1.blocked then s1
    else ((s1.setLink j { l1 with blocked := true }).linkEvent j 4 0x400E (p32 l1.charge ++ p32 cap)).report 66 0x400E

/-- The next marker announces the map asked for (R190). -/
def State.grantMap (s : State) (j : Nat) : State :=
  if s.mayGrant j then (let l := s.link j; s.setLink j { l with txNext := l.asked }).unblock j else s

/-- Whether the transmitter of a lane sends blocks. -/
def FabLane.sends (l : FabLane) : Bool := l.phase == .trained || l.phase == .relock

/-- The interval after the last marker ends: every lane has sent its data blocks, a spare each with one fill cell (R189), whose SEQ count from
0 in each interval (DESIGN CHOICE, log entry 193). -/
def State.endInterval (s : State) (j : Nat) : State :=
  let l := s.link j
  let s1 := (s.fillPart j).fillTo j (l.txMap.length * laneBlocks)
  let s2 := ((List.range (s1.lanesTo j)).filter (fun m => (s1.fl (s1.laneTo j m)).sends && !l.txMap.contains m)).foldl
    (fun (x : State) m =>
      let f := x.laneTo j m
      x.sendFill f (min laneBlocks ((x.now - (x.fl f).txSince) * 100 / 16384)) 0 1) s1
  s2.setLink j { s2.link j with blockNo := 0 }

/-- MARKER_SEND (R185, R189, R190): the announced map takes effect and the next one is announced, on every lane of the link, active or
spare. -/
def execMarkerSend (j : Fin 12) (at_ : Nat) (s0 : State) : Res :=
  let s := s0.toTick at_
  let l := s.link j
  if s.lanesTo j = 0 ∨ (l.sentTick ≠ 0 ∧ s.now < l.sentTick + markerTicks) ∨
      !(List.range (s.lanesTo j)).any (fun m => (s.fl (s.laneTo j m)).sends) then .next s
  else
    let s1 := (s.clearWay j).endInterval j
    let l1 := s1.link j
    let s2 := s1.setLink j { l1 with txMap := l1.txNext, amTx := (l1.amTx + 1) % 2 ^ 32, sentTick := s1.now }
    let s3 := (s2.mapEvents j l1.txMap l1.txNext l1.amTx false).grantMap j
    let s4 := ((List.range (s3.lanesTo j)).filter (fun m => (s3.fl (s3.laneTo j m)).sends)).foldl
      (fun (x : State) m => x.sendMarker j m l1.amTx) s3
    .next ((s4.linkCheck j).flushWait j)

/-- Whether the marker a lane receives is the one that follows its training, which stands outside the link's slot (R182, R185). -/
def FabLane.first (l : FabLane) : Bool := l.phase == .trained && !l.slotted && l.amRx == 0

/-- The arrival of a marker's earliest copy among the lanes of a link that are locked: the lanes are aligned on its AM_COUNT (R187). The marker
that follows a lane's training is compared with none. -/
def State.firstMarker (s : State) (j f count : Nat) : Nat :=
  if (s.fl f).first then s.now
  else
    ((List.range (s.lanesTo j)).filterMap (fun m =>
      let l := s.fl (s.laneTo j m)
      if l.amRx = count + 1 ∧ l.cwLock = true then some l.markerTick else none)).foldl min s.now

/-- The received TX_MAP of a link: a lane that left it carries nothing that counts any more (R192). -/
def State.newRxMap (s : State) (j : Nat) (m : AlignMarker) : State :=
  let x := s.link j
  let new := maskLanes m.txMap
  let s1 := (s.setLink j { x with anyMarker := s.now, rxMap := new, asked := maskLanes m.rxReq }).mapEvents j x.rxMap new m.count true
  ((List.range (s1.lanesTo j)).filter (fun i => !new.contains i && (s1.fl (s1.laneTo j i)).dead)).foldl (fun (y : State) i =>
    let f := y.laneTo j i
    y.setFl f { y.fl f with dead := false }) s1

/-- ALIGNMENT_MARKER (R186, R187, R190, R191): the lane's skew is that of this marker against its earliest copy; 0x400C is raised when a lane
comes to lie beyond the deskew buffer, one that was within it or has only now locked. -/
def execAlignmentMarker (f : Fin 128) (m : AlignMarker) (at_ : Nat) (s0 : State) : Res :=
  let s := s0.toTick at_
  let l := s.fl f
  match s.laneLink f with
  | none => .next s
  | some (j, k) =>
    if (l.phase ≠ .trained ∧ l.phase ≠ .relock) ∨ m.device ≠ j ∨ m.linkLane ≠ k then .next s
    else
      let late := s.now - s.firstMarker j f m.count
      let within := decide (late * 1250 ≤ 819200)
      let skew := (roundDiv (late * 5) 4).toNat
      let s1 := s.setFl f { l with phase := .trained, cwLock := true, missed := 0, markerTick := s.now, skew := skew, amRx := m.count + 1,
                                   deskewed := within && !l.first, slotted := !l.first, farTrains := false,
                                   failed := if l.phase = .relock then false else l.failed }
      let s2 := if !within && (l.deskewed || !l.slotted || !l.cwLock) then s1.laneEvent f 6 0x400C (p32 skew) else s1
      let x := s2.link j
      let s3 := s2.newRxMap j m
      let worst := ((List.range (s3.lanesTo j)).map (fun i =>
        let y := s3.fl (s3.laneTo j i)
        if y.phase = .trained then y.skew else 0)).foldl max 0
      let s4 := s3.setNum (kLink j 16) (min worst 65535)
      let s5 := if x.rxMap.length < (s4.link j).rxMap.length ∧ x.up then s4.askAgain j else s4
      .next (((s5.wantMap j).clearWay j).linkCheck j)

/-- MARKER_MISSING (R186, R191, R192): the third in a row drops codeword lock and fails the lane. -/
def execMarkerMissing (f : Fin 128) (at_ : Nat) (s0 : State) : Res :=
  let s := s0.toTick at_
  let l := s.fl f
  match s.laneLink f with
  | none => .next s
  | some (j, k) =>
    if l.phase ≠ .trained ∨ !l.cwLock ∨ s.now < l.markerTick + (l.missed + 1) * markerTicks then .next s
    else if l.missed + 1 < 3 then .next (s.setFl f { l with missed := l.missed + 1 })
    else
      let s1 := (s.setFl f { l with missed := 3, cwLock := false, deskewed := false, amRx := 0, phase := .relock, since := s.now,
                                    dead := l.dead || (s.link j).rxMap.contains k }).laneEvent f 5 0x400B (p8 1)
      .next (((s1.laneFailed f 0x400B).wantMap j).linkCheck j)

/-- RELOCK_TIMEOUT (R186): without lock within 2 marker periods the lane retrains. -/
def execRelockTimeout (f : Fin 128) (at_ : Nat) (s0 : State) : Res :=
  let s := s0.toTick at_
  let l := s.fl f
  if l.phase ≠ .relock ∨ l.worn ∨ s.now < l.since + 2 * markerTicks then .next s
  else .next (s.startTraining f true)

/-- LINK_MARKER_TIMEOUT (R193): no marker on any lane for 3 marker periods. -/
def execLinkMarkerTimeout (j : Fin 12) (at_ : Nat) (s0 : State) : Res :=
  let s := s0.toTick at_
  let l := s.link j
  if !l.up ∨ s.now < l.anyMarker + 3 * markerTicks then .next s else .next (s.linkDown j)

/-- EYE_SCAN (R191, R194). -/
def execEyeScan (f : Fin 128) (margin : Byte) (at_ : Nat) (s0 : State) : Res :=
  let s := s0.toTick at_
  let l := s.fl f
  match s.laneLink f with
  | none => .next s
  | some (j, _) =>
    if l.phase ≠ .trained ∨ s.upd.paused ∨ s.now < l.scanTick + s.num O.meshEyeScanPeriod * tickMs then .next s
    else
      let low := if margin.toNat < s.num O.meshEyeThreshold then l.low + 1 else 0
      let s1 := (s.setFl f { l with low := low, scanTick := s.now }).setNum (O.flEyeMargin f) margin.toNat
      if low < 3 then .next s1 else .next (((s1.laneWorn f l.uncTimes.length).wantMap j).linkCheck j)

/-! ### Writes and commits (R207–R211) -/

/-- A write of PRBS_INJECT: n single-bit errors in the pattern the lane sends, 1 µs apart (R207), after those still to come; ignored while
PRBS_MODE is 0. -/
def State.prbsInject (s : State) (f n : Nat) : State :=
  let l := s.fl f
  let t := max s.now l.injectAt
  if s.num (O.flPrbsMode f) = 0 then s
  else (s.setFl f { l with inject := l.inject + n, injectAt := t + n * tickUs }).emit (.patternErrors f t n)

/-- A write of 1 to RETRAIN: a Worn or Failed lane trains again. -/
def State.retrainLane (s : State) (f : Nat) : State :=
  let l := s.fl f
  if (!l.worn && !l.failed) || !s.laneUsable f || s.num (O.flPrbsMode f) != 0 then s
  else (s.setFl f { l with worn := false, fails := [], low := 0, uncTimes := [] }).startTraining f true

/-- Whether any subscription exists over the fabric. -/
def State.anySubs (s : State) : Bool := s.fab.links.any (fun l => !l.2.pubs.isEmpty || !l.2.subs.isEmpty)
/-- Whether the link of lane f carries a subscription and uses the lane in either direction. -/
def State.laneCarries (s : State) (f : Nat) : Bool :=
  match s.laneLink f with
  | none => false
  | some (j, m) =>
    let l := s.link j
    (!l.pubs.isEmpty || !l.subs.isEmpty) && (l.txMap.contains m || l.rxMap.contains m)

/-- The hurdle code of an object of area 0x4000 (R211). -/
def area4Issue (pre post : State) (ix sub : Nat) : Option Nat :=
  let n := post.meshSize
  let v := post.fuses.variant
  if ix = 0x4001 then
    (if sub = 1 ∧ pre.devIndex ≠ post.devIndex ∧ pre.anySubs then some 0x4010
     else if sub = 1 ∧ (n ≤ post.devIndex ∨ variantMesh v < n) then some 0x4012
     else if sub = 2 ∧ (variantMesh v < n ∨ (n ≤ post.devIndex ∧ (tfind pre.dict.staged 0x400101).isNone)) then some 0x4012
     else if sub = 2 ∧ pre.meshSize ≠ n ∧ pre.anySubs then some 0x4015
     else if (sub = 2 ∨ sub = 3) ∧ 1 < n ∧
       (List.range (n - 1)).any (fun k => decide (linkLanes v n (k + 1) < post.num O.meshActiveLanes)) then some 0x4013
     else none)
  else if 0x4100 ≤ ix ∧ ix ≤ 0x417F then
    (let f := ix - 0x4100
     if sub = 1 ∧ pre.flag (O.flLaneEnable f) ∧ !post.flag (O.flLaneEnable f) ∧ pre.laneCarries f then some 0x4015
     else if sub = 9 ∧ pre.num (O.flPrbsMode f) ≠ post.num (O.flPrbsMode f) ∧ pre.laneCarries f then some 0x4014 else none)
  else none

/-- Every lane of the mesh begins to train (R182, Table 15-3 W8), but one under test or Worn (R191). -/
def State.fabStart (s : State) : State :=
  (List.range 128).foldl (fun (x : State) f => if x.laneUsable f && x.num (O.flPrbsMode f) == 0 && !(x.fl f).worn then x.startTraining f false else x) s

/-- Every lane goes off: links go down (Table 15-2 E3). -/
def State.fabStop (s : State) : State :=
  let s1 := (List.range 12).foldl (fun (x : State) j => x.linkDown j) s
  let s2 := { s1 with fab := { s1.fab with lanes := s1.fab.lanes.map (fun (p : Nat × FabLane) =>
      (p.1, { p.2 with phase := .idle, cwLock := false, deskewed := false })) } }
  (List.range 12).foldl (fun (x : State) j => x.linkStat j) s2

/-- PEER_SLOT, LANE_BASE, LANES and LINK_LANE (Tables 6-12 and 6-13). LINK_STATE of a device not in the mesh is 4 on every variant, also where
the area otherwise reads its defaults (R193; DESIGN CHOICE, log entry 207). -/
def State.meshObjs (s : State) : State :=
  let s1 := (List.range 12).foldl (fun (x : State) j =>
    (((x.setNum (kLink j 2) (x.peerSlot j)).setNum (kLink j 3) (if x.lanesTo j = 0 then 0 else x.baseTo j)).setNum (kLink j 4)
      (x.lanesTo j)).setNum (kLink j 1) (x.linkStateOf j)) s
  (List.range 128).foldl (fun (x : State) f =>
    (x.setNum (O.flLinkLane f) (match x.laneLink f with | some p => p.2 | none => 0xFF)).roleObj f) s1

/-- A change of PRBS_MODE on lane f (R207, R208): the lane leaves service and its generator starts, from a register that is not stated; an
active lane takes its link down to LINK_STATE 1 until no lane of it is under test. At the end of the test the lane trains again, unless its link
waits for the others. -/
def State.prbsApply (s : State) (f mode : Nat) : State :=
  let (k, s0) := (s.raise 0x400D (p8 f ++ p8 mode)).freeNat
  let s1 := ((s0.setFl f { s0.fl f with prbsLock := false, inject := 0, injectAt := 0, phase := .idle, cwLock := false, deskewed := false }).emit
    (.pattern f mode (if mode = 0 then 0 else k % 8191 + 1))).roleObj f
  match s1.laneLink f with
  | none => s1
  | some (j, m) =>
    let l := s1.link j
    if mode ≠ 0 then
      (if l.txMap.contains m || l.rxMap.contains m then (s1.linkDown j).setLink j { (s1.linkDown j).link j with held := true } else s1)
    else if l.held ∨ (s1.fl f).worn ∨ !s1.laneUsable f then s1
    else s1.startTraining f true

/-- What a commit of area 0x4000 changes at once (R175, R178, R208). A Worn lane stays so. -/
def State.area4Apply (s : State) (pre : State) : State :=
  if pre.meshSize ≠ s.meshSize ∨ pre.devIndex ≠ s.devIndex then
    (let s1 := (List.range 12).foldl (fun (x : State) j => x.linkDown j) s
     let kept := (s1.fab.lanes.filter (fun (p : Nat × FabLane) => p.2.worn || !p.2.fails.isEmpty)).map (fun (p : Nat × FabLane) =>
       (p.1, { FabLane.idle with worn := p.2.worn, fails := p.2.fails }))
     let s2 := { s1 with fab := { s1.fab with lanes := kept, links := s1.fab.links.map (fun (p : Nat × FabLink) =>
         (p.1, { FabLink.down with nextReq := p.2.nextReq, nextAge := p.2.nextAge, lost := p.2.lost })) } }
     (s2.fabStart).meshObjs)
  else
    let s1 := (List.range 128).foldl (fun (x : State) f =>
      let was := pre.flag (O.flLaneEnable f)
      let on := x.flag (O.flLaneEnable f)
      let a := if was && !on then
          (x.setFl f { x.fl f with phase := .idle, cwLock := false, deskewed := false }).roleObj f
        else if !was && on && !(x.fl f).worn && x.num (O.flPrbsMode f) == 0 then x.startTraining f true else x
      let m1 := a.num (O.flPrbsMode f)
      if pre.num (O.flPrbsMode f) = m1 then a else a.prbsApply f m1) s
    (List.range 12).foldl (fun (x : State) j =>
      let l := x.link j
      let testing := (List.range (x.lanesTo j)).any (fun m => x.num (O.flPrbsMode (x.laneTo j m)) != 0)
      let y := if l.held && !testing then
          ((List.range (x.lanesTo j)).filter (fun m => x.laneUsable (x.laneTo j m) && !(x.fl (x.laneTo j m)).worn)).foldl
            (fun (z : State) m => z.startTraining (z.laneTo j m) false) (x.setLink j { l with held := false, want := [] })
        else x
      if y.lanesTo j = 0 then y else (y.wantMap j).linkCheck j) s1

end Sys2Proof.Machine
end

