-- ==== Sys2Proof/Machine/FabCells.lean ====
section
/-! DEFINITION. Subscriptions and cells of the Relay fabric (R195–R206): admission and shedding at the publisher, the subscriber's
messages, sending and presenting units. -/

namespace Sys2Proof.Machine

/-! ### Admission (R198–R201) -/

/-- The video streams of slot n as its settings have it, whatever it receives: four of a quad-link group. -/
def State.boundSubs (s : State) (n : Nat) : Nat := if n < 96 ∧ n % 4 = 0 ∧ s.quadRx n = true then 4 else 1

/-- The charge of a run of streams this device publishes, in Mb/s (R199). -/
def State.chargeOf (s : State) (sid count : Nat) : Nat :=
  let n := sidSlot sid
  let f := s.boundRaster n
  let fs := s.slotFs n
  let video := s.slotHasVideo n
  let fl := if video then lineRate1001 f else 8000 * 1001
  match sidClass sid with
  | 0 => videoCharge f (s.boundSubs n)
  | 1 => ceilDiv (count * 24 * fs * 1001 + 64 * (if video then min (fs * 1001) fl else fl)) (1001 * 1000000)
  | 2 => ceilDiv (32 * 1000000 * 1001 + 64 * fl) (1001 * 1000000)
  | _ => 1

/-- Whether a run of streams is one this device publishes. -/
def State.publishes (s : State) (sid count : Nat) : Bool :=
  let n := sidSlot sid
  sidOk sid && s.sidLocal sid && !sidGen sid && s.slotEnabled n && s.slotKind n != 0 &&
  (match sidClass sid with
   | 0 => count == 1 && s.slotHasVideo n && (s.slotSubs n).contains (sidSub sid)
   | 1 => decide (1 ≤ count ∧ count ≤ 128) && decide (sidSub sid + count ≤ s.slotChannels n)
   | 2 => count == 1 && decide (sidSub sid < s.num (O.slotAncStreams n))
   | _ => count == 1)

/-- Pacer time of the first unit a new subscription carries: the first release at least one line, or one 125 µs window, away. -/
def State.firstRelease (s : State) (sid : Nat) : Nat :=
  let n := sidSlot sid
  let f := s.slotRaster n
  if s.slotHasVideo n then
    (if f = 0 then 0
     else
       let line := linesPt f 1 1
       let off := linesPt f (2 + s.lag) 1
       let t := s.tm.pt + line - off
       let k := gridFrame (f % 256) t
       let g := gridStart (f % 256) k
       g + ceilDiv (t - g) (max 1 line) * line + off)
  else (let w := 125000 * ptNs; (ceilDiv s.tm.pt w + 1) * w)

/-- The lowest free channel of a link. -/
def FabLink.freeCh (l : FabLink) : Nat := ((List.range (l.pubs.length + 1)).find? (fun c => (tfind l.pubs c).isNone)).getD 0

/-- Admits a request (R200). -/
def State.takeOn (s : State) (j reqId sid count purpose charge : Nat) : State :=
  let l := s.link j
  let ch := l.freeCh
  let first := s.firstRelease sid
  let s1 := (s.setLink j { l with pubs := tput l.pubs ch ⟨sid, count, purpose, charge, l.nextAge, 0, 0⟩, nextAge := l.nextAge + 1 }).ctlSend j 2
    reqId (beBytes 2 ch ++ beBytes 4 charge ++ beBytes 12 (first / 2 ^ 32))
  (s1.ctlSend j 8 0 (beBytes 2 ch ++ beBytes 1 (b2n (s1.isPresent (sid % 2 ^ 28))) ++ beBytes 2 (s1.slotRaster (sidSlot sid)))).linkObjs j

/-- Refuses a request. -/
def State.nak (s : State) (j reqId reason : Nat) : State := s.ctlSend j 3 reqId (beBytes 1 reason)

/-- SUB_REQ (R198–R200). -/
def execSubReq (j : Fin 12) (reqId : Half) (sid : Word) (count purpose : Byte) (at_ : Nat) (s0 : State) : Res :=
  let s := s0.toTick at_
  let l := s.link j
  let x := sid.toNat
  let n := count.toNat
  let total : Nat := (s.fab.links.map (fun (p : Nat × FabLink) => p.2.pubs.length)).foldl (· + ·) 0
  if !l.up || !s.essOn then Host.Outcome.next (s.nak j reqId.toNat 4)
  else if !s.publishes x n then .next (s.nak j reqId.toNat 1)
  else if decide (16383 ≤ l.pubs.length) || decide (65536 ≤ total) then .next (s.nak j reqId.toNat 3)
  else
    let c := s.chargeOf x n
    let cap := capOf l.txMap.length
    let soft := ((l.pubs.filter (fun p => p.2.purpose != 0)).map (fun p => p.2.charge)).foldl (· + ·) 0
    if l.charge + c ≤ cap then .next (s.takeOn j reqId.toNat x n purpose.toNat c)
    else if purpose.toNat = 0 ∧ l.charge - soft + c ≤ cap then
      .next ((s.shedUntil j cap c 2).takeOn j reqId.toNat x n 0 c)
    else
      .next (((s.linkEvent j 2 0x4009 (p32 x ++ p32 c ++ p32 cap)).bump (kLink j 15)).nak j reqId.toNat 2)

/-- UNSUB (R202): the publisher releases a channel. -/
def execUnsub (j : Fin 12) (reqId channel : Half) (s : State) : Res :=
  let l := s.link j
  match tfind l.pubs channel.toNat with
  | none => .next s
  | some p =>
    .next (((s.setLink j { l with pubs := tdel l.pubs channel.toNat }).ctlSend j 5 reqId.toNat
      (beBytes 2 channel.toNat ++ beBytes 2 p.lastUnit)).linkObjs j)

/-- UNSUB_ACK (R198): the channel may be held again. -/
def execUnsubAck (j : Fin 12) (_reqId channel _unit : Half) (s : State) : Res :=
  let l := s.link j
  .next (s.setLink j { l with closing := l.closing.filter (· != channel.toNat) })

/-- SHED (R200, R309): a held subscription was shed; its users follow their loss rules. -/
def execShed (j : Fin 12) (channel : Half) (_reason : Byte) (s : State) : Res :=
  let l := s.link j
  match tfind l.subs channel.toNat with
  | none => .next s
  | some h =>
    let s1 := s.setLink j { l with subs := tdel l.subs channel.toNat, lost := l.lost ++ [(h.sid, h.count, h.purpose)] }
    .next ((s1.tilesLose h.sid h.count 2).linkObjs j)

/-- PURPOSE (R202). -/
def execPurpose (j : Fin 12) (channel : Half) (p : Byte) (s : State) : Res :=
  let l := s.link j
  match tfind l.pubs channel.toNat with
  | none => .next s
  | some q => .next (s.setLink j { l with pubs := tput l.pubs channel.toNat { q with purpose := p.toNat } })

/-- STREAM_STATE (R198). -/
def execStreamState (j : Fin 12) (channel : Half) (present : Bool) (fmt : Half) (s : State) : Res :=
  let l := s.link j
  match tfind l.subs channel.toNat with
  | none => .next s
  | some h => .next (s.setLink j { l with subs := tput l.subs channel.toNat { h with present := present, fmt := fmt.toNat } })

/-! ### Sending (R196, R201, R203, R204) -/

/-- The frame whose unit of line n is in its sending window now: from T_rel − 1 line to T_rel + 250 ns. -/
def State.unitFrame (s : State) (f n : Nat) : Option Nat :=
  let t := s.tm.pt + s.tm.inc + linesPt f 1 1
  let off := linesPt f (n - 1) 1 + linesPt f (2 + s.lag) 1
  if f = 0 ∨ t < off then none
  else
    let k := gridFrame (f % 256) (t - off)
    if s.tm.pt ≤ s.relTime f k n + 250 * ptNs then some k else none

/-- The line (k, n, sub) of slot m, released or about to be released. -/
def State.unitLine (s : State) (m k n sub : Nat) : Option QLine :=
  let sl := s.slot m
  match sl.rel.find? (fun u => u.k == k && u.n == n && u.sub == sub) with
  | some u => some u
  | none =>
    match sl.frameKey (sl.carried k) with
    | some key => sl.q.find? (fun u => u.k == key && u.n == n && u.sub == sub)
    | none => none

/-- Whether the charge of the channels up to `ch` fits the link: beyond it, cells of an overloaded direction are not sent. -/
def FabLink.chFits (l : FabLink) (ch : Nat) : Bool :=
  decide (l.charge ≤ capOf l.txMap.length) ||
  decide (((l.pubs.filter (fun p => decide (p.1 ≤ ch))).map (fun p => p.2.charge)).foldl (· + ·) 0 ≤ capOf l.txMap.length)

/-- One cell of a channel; `last` marks the last cell of a unit. -/
def State.sendCell (s : State) (j ch : Nat) (p : PubSub) (type unit : Nat) (last absent errored : Bool) (body : CellBody) : State :=
  let l := s.link j
  let u := unit % 4096
  if !l.chFits ch then s
  else
    let flags := 8 * b2n last + 4 * b2n absent + 2 * b2n errored
    let s1 := (s.setLink j { l with pubs := tput l.pubs ch { p with seq := (p.seq + 1) % 256, lastUnit := u } }).emit
      (.relayCell j type flags ch u p.seq body)
    (s1.fillNow j).toStream j (cellBytes type flags ch u p.seq (cellPayload body))

/-- The samples of channel c that line n of release frame k brings, with the label of the first: those of its line, or of the flow that
carries the channel. -/
def State.lineRun (s : State) (m k n link c : Nat) : Nat × List Nat :=
  let (t0, t1) := lineSamples (s.relRaster m) (s.slotFs m) k n
  let sl := s.slot m
  let ch := s.chan (lkey m 1 c)
  let vs := if (s.flowChannels m).contains c then
      flowRun sl.sq (s.flowShift m k ((sl.frameKey (sl.carried k)).getD k)) c t0 (t1 - t0) ch.lastSample
    else match s.unitLine m k n link with
      | some u => s.storedSamples m c t0 u.entry ch.lastSample
          (((u.audio.find? (fun q => q.1 == c)).map Prod.snd).getD (List.replicate (t1 - t0) 0))
      | none => []
  let jump := ch.hist.isEmpty ||
    (if (s.flowChannels m).contains c then decide (ch.next + 2 < t0) || decide (t0 + 2 < ch.next) else embedJump ch.next t0 t1)
  (if sl.rel.any (fun u => u.k == k && u.n == n && u.sub == link) then ch.next - vs.length else if jump then t0 else ch.next, vs)

/-- The samples of channel c that cross with line n of release frame k: with the channel's AUDIO_DELAY (R37, R161). -/
def State.lineCross (s : State) (m k n link c : Nat) : List Nat :=
  let ch := s.chan (lkey m 1 c)
  let p := s.lineRun m k n link c
  (List.range p.2.length).map (fun i =>
    (ch.delayed (s.num (O.slotAudioDelay m c)) (fun t => if p.1 ≤ t then p.2[t - p.1]? else ch.raw t) (p.1 + i)).getD 0)

/-- Samples of channel c of a source without video whose release falls in 125 µs window n, with the channel's AUDIO_DELAY. -/
def State.windowSamples (s : State) (slot c n : Nat) : List Nat :=
  let fs := s.slotFs slot
  let w := 125000 * ptNs
  let off := s.ess.offset * 1000 * ptNs
  let t0 := sampleAt fs (n * w - off)
  let t1 := sampleAt fs ((n + 1) * w - off)
  let ch := s.chan (lkey slot 1 c)
  let o := s.offsetSamples fs
  let get (t : Nat) : Option Nat :=
    match (s.slot slot).sq.find? (fun x => x.1 + o == t && x.2.1 == c) with
    | some x => some x.2.2
    | none => some ((ch.raw t).getD ch.lastSample)
  (List.range (t1 - t0)).map (fun i => (ch.delayed (s.num (O.slotAudioDelay slot c)) get (t0 + i + o)).getD 0)

/-- Packets of a stream of a source without video that cross in 125 µs window n. DESIGN CHOICE (log entry 170): as for audio, those whose RTP
time plus AUDIO_OFFSET falls in it. -/
def State.windowAnc (s : State) (slot b n : Nat) : List AncPkt :=
  let w := 125000 * ptNs
  let off := s.ess.offset * 1000 * ptNs
  ((s.slot slot).flowAnc.filter (fun a => a.2.1 == b && decide (n * w ≤ a.1 + off) && decide (a.1 + off < (n + 1) * w))).map (fun a => a.2.2)

/-- Whether the 125 µs window n is in its sending window: from one window before its release to 250 ns after it (R204). -/
def State.windowDue (s : State) (n : Nat) : Bool :=
  s.timeFor ((n - 1) * 125000 * ptNs) && decide (s.tm.pt ≤ n * 125000 * ptNs + 250 * ptNs)

/-- The samples of a unit: those of a line of release frame k, or of a 125 µs window (R196). -/
def State.unitSamples (s : State) (m k n : Nat) : Nat :=
  let fs := s.slotFs m
  if s.slotHasVideo m then (let (t0, t1) := lineSamples (s.relRaster m) fs k n; t1 - t0)
  else
    let w := 125000 * ptNs
    let off := s.ess.offset * 1000 * ptNs
    sampleAt fs ((n + 1) * w - off) - sampleAt fs (n * w - off)

/-- The time-code values of frame n of slot m whose lines are in their sending window now (R204). -/
def State.tcDue (s : State) (m f n sub : Nat) : List (Nat × Nat) :=
  let sl := s.slot m
  let us := sl.q.filter (fun u => sl.frameKey (sl.carried n) == some u.k) ++ sl.rel.filter (fun u => u.k == n)
  (us.filter (fun u => s.unitFrame f u.n == some n)).flatMap (fun u => u.tc.filter (fun q => min q.1 1 == sub))

/-- Whether frame n lies in the sending windows of its lines. -/
def State.frameDue (s : State) (f n : Nat) : Bool :=
  s.timeFor (gridStart (f % 256) n + linesPt f (1 + s.lag) 1) && decide (s.tm.pt ≤ s.relTime f n (fmtLines f) + 250 * ptNs)

/-- UNIT_SEND (R203, R204): a unit is a line number, the count of a 125 µs window for audio or packets of a source without
video, or a frame count for time code. A unit that carries no cell sends none while its stream is absent either (R196). -/
def execUnitSend (j : Fin 12) (channel : Half) (n at_ : Nat) (s0 : State) : Res :=
  let s := s0.toTick at_
  let l := s.link j
  let ch := channel.toNat
  match tfind l.pubs ch with
  | none => .next s
  | some p =>
    let m := sidSlot p.sid
    let f := s.relRaster m
    let sub := sidSub p.sid
    let cls := sidClass p.sid
    let here := s.isPresent (p.sid % 2 ^ 28)
    if !l.up ∨ !s.essOn then .next s
    else if cls = 3 then
      (if !s.frameDue f n then .next s
       else if !here then .next (s.sendCell j ch p 4 n true true false .none)
       else
         (let vs := s.tcDue m f n sub
          .next ((vs.zipIdx).foldl (fun (x : State) (q : (Nat × Nat) × Nat) =>
            match tfind (x.link j).pubs ch with
            | some p' => x.sendCell j ch p' 4 n (q.2 + 1 == vs.length) false false (.tc q.1.2 q.1.1)
            | none => x) s)))
    else if s.slotHasVideo m then
      (match s.unitFrame f n with
       | none => .next s
       | some k =>
         if (cls = 0 ∧ !fmtActive f n) ∨ (cls = 1 ∧ s.unitSamples m k n = 0) then .next s
         else if !here then .next (s.sendCell j ch p (cls + 1) n true true false .none)
         else
           let link := if cls = 0 ∨ (cls = 2 ∧ s.slotQuad m) then sub else if s.slotQuad m then sub / 32 else 0
           let u := s.unitLine m k n link
           match cls with
           | 0 =>
             let bad := match u with | some v => s.poisonedLine m v | none => true
             let data := match u with
               | some v => s.storedLine m n link v
               | none => (s.member m link).good
             .next (s.sendCell j ch p 1 n true false bad (.video data))
           | 1 =>
             let vs := (List.range p.count).map (fun i => s.lineCross m k n link (sub + i))
             if vs.all List.isEmpty then .next s else .next (s.sendCell j ch p 2 n true false false (.audio vs))
           | _ =>
             let ks := match u with
               | some v => (v.anc.filter (fun q => s.slotQuad m || q.1 == sub)).map Prod.snd
               | none => []
             if ks.isEmpty then .next s else .next (s.sendCell j ch p 3 n true false false (.anc ks)))
    else if !s.windowDue n ∨ (cls = 1 ∧ s.unitSamples m 0 n = 0) then .next s
    else if !here then .next (s.sendCell j ch p (cls + 1) n true true false .none)
    else if cls = 1 then
      (let vs := (List.range p.count).map (fun i => s.windowSamples m (sub + i) n)
       if vs.all List.isEmpty then .next s else .next (s.sendCell j ch p 2 n true false false (.audio vs)))
    else
      let ks := s.windowAnc m sub n
      if ks.isEmpty then .next s else .next (s.sendCell j ch p 3 n true false false (.anc ks))

/-! ### Receiving (R197, R204) -/

/-- A cell joins its subscription's buffer; every gap of SEQ and every errored cell is counted. -/
def State.putCell (s : State) (j : Nat) (c : RelayCell) (errored : Bool) : State :=
  let l := s.link j
  match tfind l.subs c.channel with
  | none => s.bump (kLink j 17)
  | some h =>
    let gap : Bool := match h.seq with | some q => decide (q ≠ c.seq) | none => false
    let keep := !errored
    let h1 := { h with seq := some ((c.seq + 1) % 256),
                       buf := if keep then (h.buf ++ [(c.unit, c.absent, c.body)]).drop (h.buf.length + 1 - 64) else h.buf }
    let s1 := s.setLink j { l with subs := tput l.subs c.channel h1 }
    let s2 := if gap then s1.bump (kLink j 17) else s1
    if errored then s2.bump (kLink j 17) else s2

/-- FEC results of one lane (R191, R212). -/
def State.laneFec (s : State) (f corrected unc : Nat) : State :=
  let s1 := ((s.bump64 (O.flFecCorrected f) corrected).bump (O.flFecUncorrectable f) unc).rcAdd (rFlFec f) 31 16 corrected
  let s2 := s1.rcAdd (rFlFec f) 15 0 unc
  if unc = 0 then s2
  else
    let l := s2.fl f
    let times := (List.replicate unc s2.now ++ l.uncTimes).filter (fun t => decide (s2.now < t + tickS))
    let s3 := ((s2.setFl f { l with uncTimes := times.take 64 }).setBit (rFlEvt f) 2).countSecond 0x400A f unc (p8 f)
    if 4 ≤ times.length then
      (match s3.laneLink f with
       | some (j, _) => ((s3.laneWorn f times.length).wantMap j).linkCheck j
       | none => s3)
    else s3

/-- CELL_RECEIVED (R192, R197): also the codewords and test bits of the blocks that carried it. A cell is errored when it overlaps an
uncorrectable codeword or came on a lane that failed under the map in force; after a header check that fails, reception resumes at a cell that
FIRST_CELL names. -/
def execCellReceived (j : Fin 12) (cell : RelayCell) (fec prbs : List (Nat × Nat × Nat)) (at_ : Nat) (s0 : State) : Res :=
  let s := s0.toTick at_
  let s1 := fec.foldl (fun (x : State) p => x.laneFec p.1 p.2.1 p.2.2) s
  let s2 := prbs.foldl (fun (x : State) p =>
    if x.num (O.flPrbsMode p.1) = 0 then x
    else (((x.bump64 (O.flPrbsBits p.1) p.2.1).bump64 (O.flPrbsErrors p.1) p.2.2).rcAdd (rFlPrbs p.1) 30 0 p.2.2).setFl p.1
      { x.fl p.1 with prbsLock := true }) s1
  let l := s2.link j
  if !l.up ∨ (l.hunting ∧ !cell.first) then .next s2
  else if !cell.hecOk then .next (s2.setLink j { l with hunting := true })
  else
    let s3 := if l.hunting then s2.setLink j { l with hunting := false } else s2
    if cell.type = 1 ∨ cell.type = 2 ∨ cell.type = 3 ∨ cell.type = 4 then
      .next (s3.putCell j cell (cell.uncorrectable || fec.any (fun p => (s3.fl p.1).dead)))
    else .next s3

/-- A presented unit of a held subscription. A channel that is absent goes on with its last sample, which is what its users repeat (R233,
R263). -/
def State.present (s : State) (j ch : Nat) (h : HeldSub) (n k : Nat) : State :=
  let l := s.link j
  let cls := sidClass h.sid
  let unit := n % 4096
  let got := h.buf.find? (fun u => u.1 == unit)
  let rest := h.buf.filter (fun u => u.1 != unit)
  let keep (v : ShownUnit) (good : CellBody) : State :=
    s.setLink j { l with subs := tput l.subs ch { h with buf := rest, shown := (v :: h.shown).take 8192, good := good } }
  let pt := s.tm.pt
  match cls with
  | 0 =>
    (match got with
     | some (_, true, _) => keep ⟨n, pt, true, .none⟩ h.good
     | some (_, false, b) => keep ⟨n, pt, false, b⟩ b
     | none => keep ⟨n, pt, false, h.good⟩ h.good)
  | 1 =>
    let fs := h.fs
    let (t0, cnt) :=
      if h.fmt ≠ 0 then (let (a, b) := lineSamples h.fmt fs k n; (a, b - a))
      else
        let w := 125000 * ptNs
        let off := s.ess.offset * 1000 * ptNs
        let a := sampleAt fs (n * w - off)
        (a + s.offsetSamples fs + fs / 8000, sampleAt fs ((n + 1) * w - off) - a)
    let s1 := keep ⟨n, pt, false, .none⟩ h.good
    (List.range h.count).foldl (fun (x : State) i =>
      let key := 2 ^ 32 + (h.sid + i)
      let c := x.chan key
      let vs := match got with
        | some (_, false, .audio v) => v.getD i []
        | _ => List.replicate cnt c.lastSample
      x.chanPush key t0 (decide (c.next + 2 < t0) || decide (t0 + 2 < c.next)) (decide (h.fmt ≠ 0)) vs) s1
  | 3 =>
    let all := (h.buf.filter (fun u => u.1 == unit)).map (fun u => (⟨n, pt, u.2.1, u.2.2⟩ : ShownUnit))
    s.setLink j { l with subs := tput l.subs ch { h with buf := rest, shown := (all ++ h.shown).take 8192 } }
  | _ =>
    (match got with
     | some (_, a, b) => keep ⟨n, pt, a, b⟩ h.good
     | none => s)

/-- UNIT_PRESENT (R204): 1 line, or 125 µs, after its release, within one tick; time code within its frame. -/
def execUnitPresent (j : Fin 12) (channel : Half) (n at_ : Nat) (s0 : State) : Res :=
  let s := s0.toTick at_
  match tfind (s.link j).subs channel.toNat with
  | none => .next s
  | some h =>
    let f := h.fmt
    if sidClass h.sid = 3 then
      (let t := gridStart (f % 256) n + linesPt f (3 + s.lag) 1
       if f ≠ 0 ∧ (!s.timeFor t ∨ s.relTime f n (fmtLines f + 1) + s.tm.inc < s.tm.pt) then .next s
       else .next (s.present j channel.toNat h n n))
    else if f = 0 then
      (let t := (n + 1) * 125000 * ptNs
       if !s.timeFor t ∨ t + s.tm.inc < s.tm.pt then .next s else .next (s.present j channel.toNat h n 0))
    else
      let off := linesPt f n 1 + linesPt f (2 + s.lag) 1
      let t := s.tm.pt + s.tm.inc
      let k := gridFrame (f % 256) (t - off)
      if t < off ∨ gridStart (f % 256) k + off + s.tm.inc < s.tm.pt then .next s else .next (s.present j channel.toNat h n k)

end Sys2Proof.Machine
end

