-- ==== Sys2Proof/Machine/Pacer.lean ====
section
/-! DEFINITION. The Pacer (11): oscillators, references and their qualification, selection and switching, the loop, time steps,
PTP, and its outputs. -/

namespace Sys2Proof.Machine

/-- OVERRIDE_EXPIRY (R345). -/
def execOverrideExpiry (at_ : Nat) (s0 : State) : Res :=
  let s := s0.toTick at_
  if s.pac.armed ≠ 0 ∧ !s.armed then .next (s.setPac { s.pac with armed := 0 }) else .next s

/-! ### Presence and windows (R331–R334) -/

/-- REFERENCE_PRESENT (R331, R333). -/
def execReferencePresent (r : Fin 14) (at_ : Nat) (s0 : State) : Res :=
  let s := s0.toTick at_
  let lane := s.num (O.refLane r)
  let can := if r.val ≤ 3 then s.num O.gmPtpRole != 1 && !(s.bytes (O.ptpMasterPort r)).isEmpty
    else if r.val = 11 ∨ r.val = 12 then decide (lane < 96) && s.num (O.sdiLockState lane) == 4
    else r.val != 13 || s.twin.up
  let x := s.ref r
  if x.present ∨ !can then .next s
  else
    let s1 := s.setRef r { x with present := true }
    .next (if s1.num (O.refPriority r) = 0 then s1
      else (s1.setNum (O.refQualState r) 2).winBegin r)

/-- REFERENCE_ABSENT (R333). -/
def execReferenceAbsent (r : Fin 14) (at_ : Nat) (s0 : State) : Res :=
  .next ((s0.toTick at_).refAbsent r)

/-- QUALIFICATION_WINDOW (R333, Table 11-2); a window that overlaps a pause of the servo does not count (R335). -/
def execQualificationWindow (r : Fin 14) (freq : Int) (wander : Nat) (within : Bool) (at_ : Nat) (s0 : State) : Res :=
  let s := s0.toTick at_
  let x := s.ref r
  let q := s.qual r
  if !x.present ∨ q < 2 ∨ s.upd.paused ∨ s.now < x.winStart + 10 * tickS then .next s
  else
    let fOk := decide (freq.natAbs ≤ x.freqLimit * 1000)
    let pOk := refFreqOnly r || (decide (wander ≤ x.phaseLimit) && (!refTime r || within))
    let pass := fOk && pOk
    let end_ := x.winStart + 10 * tickS
    let s1 := ((s.setInt (O.refFreqOffset r) freq).setNum (O.refPhaseWander r) wander).winNext r end_
    if pass then
      let s2 := s1.setNum (O.refFailWindows r) 0
      if (q = 2 ∧ x.everQual) ∨ q = 4 then
        let s3 := ((s2.setNum (O.refQualState r) 5).setRef r { s2.ref r with returnAt := end_ }).raise 0x2005
          (p8 r ++ p16 (s2.num (O.refWtr r)))
        .next (if s3.num (O.refWtr r) = 0 then (s3.qualify r).evalSel else s3)
      else if q = 2 then .next (s2.qualify r).evalSel
      else .next s2
    else
      let n := min 3 (s1.num (O.refFailWindows r) + 1)
      let s2 := s1.setNum (O.refFailWindows r) n
      if q = 3 then
        let s3 := if fOk then s2 else s2.raise 0x2003 (p8 r ++ p8 1 ++ beBytes 4 (twos 32 freq))
        let s4 := if pOk then s3 else s3.raise 0x2003 (p8 r ++ p8 2 ++ p32 wander)
        if n < 3 then .next s4
        else
          let s5 := (s4.setNum (O.refQualState r) 4).bump (O.refDisqualifications r)
          .next (s5.pacEvent 1 0x2004 (p8 r ++ p8 (if fOk then 3 else 2))).evalSel
      else if q = 5 then .next (s2.setNum (O.refQualState r) 4)
      else .next s2

/-- WTR seconds have elapsed since reference r returned (R334). -/
def State.wtrOver (s : State) (r : Nat) : Bool :=
  s.qual r == 5 && decide ((s.ref r).returnAt + s.num (O.refWtr r) * tickS ≤ s.now)

/-- WTR_LEFT (R334). -/
def State.wtrLeft (s : State) (r : Nat) : Nat :=
  if s.qual r = 5 then ceilDiv ((s.ref r).returnAt + s.num (O.refWtr r) * tickS - s.now) tickS else 0

/-- WTR_EXPIRY (R334). -/
def execWtrExpiry (r : Fin 14) (at_ : Nat) (s0 : State) : Res :=
  let s := s0.toTick at_
  if s.wtrOver r then .next (s.qualify r).evalSel else .next s

/-- SWITCH_COMPLETE (R337, R338): the build-out has reached 0. -/
def execSwitchComplete (at_ : Nat) (s0 : State) : Res :=
  let s := s0.toTick at_
  match s.pac.sel with
  | some r => if s.pacer = 3 ∧ s.pac.b = 0 then .next (s.switchDone r).evalSel else .next s
  | none => .next s

/-! ### Oscillators (R326, R327) -/

/-- The tick changes source: the measured offset moves into the steering value (R327). -/
def State.tickSource (s : State) (src : Nat) (off : Int) : State :=
  let d := if src = 1 then off else -off
  let s1 := s.setPac { s.pac with integ := s.pac.integ + d }
  ((s1.setNum O.pacerTickSource src).steer (s1.int O.pacerSteering + d)).pacEvent 7 0x200B
    (p8 src ++ beBytes 4 (twos 32 off))

/-- OCXO_LOSS (R327). -/
def execOcxoLoss (part : Int) (at_ : Nat) (s0 : State) : Res :=
  let s := s0.toTick at_
  if !s.pac.ocxo then .next s
  else
    let s1 := s.setPac { s.pac with ocxo := false }
    let off := if s1.pac.ocxoKnown then s1.int O.pacerOscOffset else part
    let s2 := if s1.num O.pacerTickSource = 0 then s1.tickSource 1 off else s1
    .next (s2.report 96 (if s1.num O.pacerTickSource = 0 then 0x200B else 0))

/-- OCXO_IN_RETURN (R327). -/
def execOcxoInReturn (at_ : Nat) (s0 : State) : Res :=
  let s := s0.toTick at_
  if s.pac.ocxo then .next s
  else .next (((s.setPac { s.pac with ocxo := true, ocxoFrom := s.now, ocxoWhole := false }).conditionEnd 96).report 97 0)

/-- OCXO_MEASURE_WINDOW (R326, R327): after a complete window the tick may return to OCXO_IN. -/
def execOcxoMeasureWindow (offset : Int) (at_ : Nat) (s0 : State) : Res :=
  let s := s0.toTick at_
  if !s.pac.ocxo ∨ s.now < s.pac.ocxoFrom + 10 * tickS then .next s
  else
    let s1 := (s.setPac { s.pac with ocxoKnown := true, ocxoWhole := true, ocxoFrom := s.now }).setInt O.pacerOscOffset offset
    .next (if s1.num O.pacerTickSource = 1 ∧ s1.num O.loopOscSource = 0 then s1.tickSource 0 offset else s1)

/-! ### The loop (R341, R342) -/

/-- The latest measurements reach the references and their objects. -/
def State.seeRefs (s : State) (seen : List (Nat × Int × Int)) : State :=
  seen.foldl (fun (x : State) q =>
    if q.1 ≤ 13 ∧ (x.ref q.1).present then
      (let e := x.phaseError q.1 q.2.1
       let y := if !refTime q.1 then x.setRef q.1 { x.ref q.1 with phase := e, freq := q.2.2 }
         else x.setRef q.1 { x.ref q.1 with freq := q.2.2 }
       y.setInt (O.refRefPhaseError q.1) (roundDiv (y.ref q.1).phase 4))
    else x) s

/-- One update of the steering value. -/
def State.loopSteer (s : State) : State :=
  match s.pac.sel with
  | none => s
  | some r =>
    if s.stepHeld r ≠ 0 then s
    else
      let x := s.ref r
      let err := if refFreqOnly r then x.freq else x.phase * 250 - s.pac.b
      let (v, i) := Config.loopStep (s.num (O.refBandwidth r)) (refFreqOnly r) err s.pac.integ
      (s.setPac { s.pac with integ := clampInt (-steerMax) steerMax i }).steer v

/-- The build-out is slewed by 1 ms of SLEW_RATE (R337). -/
def State.slewB (s : State) : State :=
  if s.pacer ≠ 3 ∨ s.num O.loopBuildoutMode = 1 then s
  else
    let d : Int := s.num O.loopSlewRate
    let b := s.pac.b
    let b' := if b > d then b - d else if b < -d then b + d else 0
    (s.setPac { s.pac with b := b' }).setInt O.pacerBuildout (psToNs b')

/-- The seconds' mean steering values that are kept before the next, newest first: ten go at once, so that their number tells every tenth
(log entry 103). -/
def PacSt.keptSecs (p : PacSt) : List Int := if 3700 ≤ p.secs.length then p.secs.take 3690 else p.secs

/-- LOOP_UPDATE (R341, R342): every 1 ms. -/
def execLoopUpdate (seen : List (Nat × Int × Int)) (at_ : Nat) (s0 : State) : Res :=
  let s := (s0.toTick at_).seeRefs seen
  if s.upd.paused then .next s
  else
    let st := s.pacer
    let sel := s.pac.sel
    let ph := match sel with
      | some r => (s.ref r).phase
      | none => 0
    let s1 := s.setInt O.pacerPhaseError (roundDiv ph 4)
    let s2 := if st = 5 then
        s1.setPac { s1.pac with loopSeq := (s1.pac.loopSeq + 1) % 2 ^ 32, loopPhase := ph }
      else s1.slewB.loopSteer
    let lock := match sel with
      | some r => if refFreqOnly r then decide ((s2.ref r).freq.natAbs ≤ 1000)
        else decide (((s2.ref r).phase * 250 - s2.pac.b).natAbs ≤ s2.num O.loopLockThreshold * 1000)
      | none => false
    let acc := s2.pac.secAcc + 1
    let full := decide (1000 ≤ acc)
    let sum := s2.pac.secSum + s2.int O.pacerSteering
    let secs := if (st = 2 ∨ st = 3) ∧ full = true then roundDiv sum 1000 :: s2.pac.keptSecs else s2.pac.secs
    let s3 := s2.setPac { s2.pac with inLock := if !lock then 0 else if s2.pac.inLock = 0 then s2.now + 1 else s2.pac.inLock,
                                      secs := secs, secAcc := if full then 0 else acc, secSum := if full then 0 else sum }
    .next (if full && secs.length % 10 == 0 && (st == 2 || st == 3) then s3.setInt O.pacerHoldoverPpt s3.holdoverPpt else s3)

/-- LOCK_ACHIEVED (R343). -/
def execLockAchieved (at_ : Nat) (s0 : State) : Res :=
  let s := s0.toTick at_
  if s.pacer = 1 ∧ s.pac.inLock ≠ 0 ∧ s.pac.inLock - 1 + 10 * tickS ≤ s.now then
    .next (((s.setPac { s.pac with secs := [], secAcc := 0, secSum := 0 }).setNum O.pacerEverLocked 1).setPacer 2).evalSel
  else .next s

/-- The loop opens (R342): a step request that was held is withdrawn (DEDUCED, log entry 102). -/
def State.openLoop (s : State) (cause : Nat) : State :=
  if s.pacer = 5 then s
  else
    let s1 := ((s.setNum O.loopLoopMode 1).noteBank [O.loopLoopMode]).setReg rLoopCtrl (setFld (s.reg rLoopCtrl) 31 31 1)
    let s2 := (s1.setPac { s1.pac with dcoAt := s1.now, sel := none, b := 0, secs := [], secAcc := 0, secSum := 0 }).dropPending
    let s3 := (s2.setPac { s2.pac with sel := s2.selectable }).setInt O.pacerBuildout 0
    ((s3.setPacer 5).raise 0x200C (p8 1 ++ p8 cause)).evalSel

/-- The loop closes: the steering value is its starting integrator value (R342, Table 11-3). DESIGN CHOICE (log entry 176): PT96 is set only
where this is the first entry to ACQUIRING since start. -/
def State.closeLoop (s : State) (cause : Nat) : State :=
  if s.pacer ≠ 5 then s
  else
    let s1 := ((s.setNum O.loopLoopMode 0).noteBank [O.loopLoopMode]).setReg rLoopCtrl (setFld (s.reg rLoopCtrl) 31 31 0)
    let s2 := (s1.setPac { s1.pac with integ := s1.int O.pacerSteering, sel := none }).raise 0x200C (p8 0 ++ p8 cause)
    match s2.selectable with
    | some r => if s2.flag O.pacerEverLocked then s2.switchTo 0xFF r else s2.acquire r (s2.pac.lastSel == 0xFF)
    | none => if s2.flag O.pacerEverLocked then
        (((s2.setInt O.pacerHoldoverPpt (s2.int O.pacerSteering)).setPacer 4).pacEvent 4 0x2008
          (beBytes 4 (twos 32 (s2.int O.pacerSteering)) ++ p8 s2.pac.lastSel)).report 98 0x2008
      else s2.setPacer 0

/-- A write of PACER_LOOP_DCO (R342): ignored while the loop is closed. -/
def State.dcoWrite (s : State) (w : Nat) : State :=
  if s.pacer ≠ 5 then s
  else
    let v := signed 32 w
    let s1 := (s.setReg 0x415024 w).setPac { s.pac with dcoAt := s.now }
    let s2 := if v.natAbs ≤ 200000000 then s1 else s1.setBit rLoopCtrl 29
    s2.steer v

/-- PACER_LOOP_DCO (R342). -/
def execPacerLoopDco (w : Word) (at_ : Nat) (s0 : State) : Res :=
  let s := s0.toTick at_
  .next (if s.winOpen 0x415024 then s.dcoWrite w.toNat else s)

/-- LOOP_WATCHDOG (R342). -/
def execLoopWatchdog (at_ : Nat) (s0 : State) : Res :=
  let s := s0.toTick at_
  if s.pacer = 5 ∧ s.pac.dcoAt + s.num O.loopLoopWatchdog * tickMs ≤ s.now then
    .next ((s.setBit rLoopCtrl 30).closeLoop 2)
  else .next s

/-- A write of PACER_LOOP_CTRL: OPEN, and its W1C bits. -/
def State.loopCtrlWrite (s : State) (w : Nat) : State :=
  let s1 := s.setReg rLoopCtrl (s.reg rLoopCtrl - (if bitOf w 30 then fld (s.reg rLoopCtrl) 30 30 * 2 ^ 30 else 0) -
    (if bitOf w 29 then fld (s.reg rLoopCtrl) 29 29 * 2 ^ 29 else 0))
  if bitOf w 31 then s1.openLoop 1 else s1.closeLoop 1

/-! ### PTP (R347–R351) -/

/-- Ticks of 2^log seconds. -/
def logTicks (l : Int) : Nat := if 0 ≤ l then tickS * 2 ^ l.toNat else tickS / 2 ^ (-l).toNat

/-- The order of IEEE 1588-2019 clause 9.3 on what masters announce: priority1, clockClass, clockAccuracy, variance, priority2,
grandmaster identity, stepsRemoved, sender. -/
def announceKey (a : PtpAnnounce) : List Nat :=
  [a.prio1, a.clockClass, a.accuracy, a.variance, a.prio2, a.gm, a.steps, ofBe a.port]

/-- Lexicographic order. -/
def lexLt : List Nat → List Nat → Bool
  | x :: xs, y :: ys => if x < y then true else if y < x then false else lexLt xs ys
  | _, _ => false

/-- The best of the masters heard: at least two Announce messages, the last within ANNOUNCE_TIMEOUT intervals. -/
def State.bestMaster (s : State) (i : Nat) : Option Foreign :=
  let tmo (f : Foreign) : Nat := s.num (O.ptpAnnounceTimeout i) * logTicks f.a.logInterval
  ((s.ptp i).masters.filter (fun f => decide (2 ≤ f.heard) && decide (s.now < f.last + tmo f))).foldl
    (fun (a : Option Foreign) f => match a with
      | none => some f
      | some g => if lexLt (announceKey f.a) (announceKey g.a) then some f else some g) none

/-- PTP_ANNOUNCE (R349); UTC_OFFSET of a selected reference is read from what its master announced (State.utcOffset). -/
def execPtpAnnounce (i : Fin 4) (a : PtpAnnounce) (at_ : Nat) (s0 : State) : Res :=
  let s := s0.toTick at_
  if s.num (O.ptpMac i) = 0xFF ∨ s.num O.gmPtpRole = 1 ∨ !s.servoLane (s.num (O.ptpMac i)) then .next s
  else
    let x := s.ptp i
    let heard := ((x.masters.find? (fun f => f.a.port == a.port)).map (fun f => f.heard)).getD 0
    let s1 := s.setPtp i { x with masters := ⟨a, min 2 (heard + 1), s.now⟩ :: x.masters.filter (fun f => f.a.port != a.port) }
    match s1.bestMaster i with
    | none => .next s1
    | some f =>
      .next (if s1.bytes (O.ptpMasterPort i) = f.a.port then s1
        else
          let s3 := ((s1.setBytes (O.ptpMasterPort i) f.a.port).setPtp i { s1.ptp i with sync := none, req := none, exchanges := [] }).raise
            0x200E (p8 i ++ f.a.port)
          if (s3.ref i).present then (s3.winBegin i).setNum (O.refFailWindows i) 0 else s3)

/-- PTP_SYNC (R350). -/
def execPtpSync (i : Fin 4) (port : List Byte) (t1 t2 : Nat) (at_ : Nat) (s0 : State) : Res :=
  let s := s0.toTick at_
  if s.bytes (O.ptpMasterPort i) = port ∧ port ≠ [] ∧ s.servoLane (s.num (O.ptpMac i)) = true then
    .next (s.setPtp i { s.ptp i with sync := some (t1, t2) })
  else .next s

/-- DELAY_REQ_SEND (R350): sent at LOG_DELAY_REQ, its transmit time captured when it leaves. -/
def execDelayReqSend (i : Fin 4) (at_ : Nat) (s0 : State) : Res :=
  let s := s0.toTick at_
  let x := s.ptp i
  if s.upd.paused = true ∨ s.num (O.ptpMac i) = 0xFF ∨ s.num O.gmPtpRole = 1 ∨ s.bytes (O.ptpMasterPort i) = [] ∨
      (x.lastReq ≠ 0 ∧ s.now < x.lastReq - 1 + logTicks (s.int (O.ptpLogDelayReq i))) then .next s
  else
    let s1 := s.setPtp i { x with req := none, seq := (x.seq + 1) % 65536, lastReq := s.now + 1 }
    .next (s1.servoSend (s1.num (O.ptpMac i)) ⟨i, 1, s1.num (O.ptpDomain i), s1.num (O.ptpTransport i), x.seq,
      [s1.num (O.ptpDelayMode i)], s1.bytes (O.ptpMasterPort i)⟩)

/-- PTP_DELAY_RESP (R350): completes an exchange. -/
def execPtpDelayResp (i : Fin 4) (port : List Byte) (seq : Half) (t4 : Nat) (at_ : Nat) (s0 : State) : Res :=
  let s := s0.toTick at_
  let x := s.ptp i
  match x.sync, x.req with
  | some (t1, t2), some (q, t3) =>
    if q ≠ seq.toNat ∨ s.bytes (O.ptpMasterPort i) ≠ port ∨ !s.servoLane (s.num (O.ptpMac i)) then .next s
    else
      let a : Int := (t2 : Int) - t1
      let b : Int := (t4 : Int) - t3
      .next (s.setPtp i { x with req := none, exchanges := (a + b, roundDiv (a - b) 2) :: x.exchanges })
  | _, _ => .next s

/-- Exchanges in rising order of their round trip. -/
def insertTrip (e : Int × Int) : List (Int × Int) → List (Int × Int)
  | [] => [e]
  | f :: fs => if e.1 ≤ f.1 then e :: f :: fs else f :: insertTrip e fs

/-- The best quarter's mean offset of a second's exchanges goes to the loop, or a step is requested: of a PTP instance, or of the partner
as reference 13 (R350, R372). While the loop is open the servo requests none (R341, R342). -/
def State.offsetSecond (s : State) (i : Nat) : State :=
  let x := s.ptp i
  if x.exchanges = [] then s
  else
    let sorted := x.exchanges.foldl (fun l e => insertTrip e l) []
    let best := sorted.take (max 1 (sorted.length / 4))
    let off := roundDiv ((best.map Prod.snd).foldl (· + ·) 0) best.length
    let trip := roundDiv ((best.map Prod.fst).foldl (· + ·) 0) (2 * best.length)
    let s0 := s.setPtp i { x with exchanges := [], lastSecond := s.now }
    let s1 := if i ≤ 3 then (s0.setInt (O.ptpOffset i) (roundDiv off 4)).setInt (O.ptpMeanPathDelay i) (roundDiv trip 4) else s0
    let e := s1.phaseError i off
    let s2 := (s1.setRef i { s1.ref i with phase := e }).setInt (O.refRefPhaseError i) (roundDiv e 4)
    if s2.pac.sel ≠ some i ∨ s2.pacer = 5 then s2
    else
      let left := e * 250 - s2.pac.b
      let big := decide (s2.num O.loopJumpThreshold * 1000 < left.natAbs)
      let pend := s2.stepHeld i
      if !big then (if pend = 0 then s2 else s2.holdStep i 0)
      else
        let step := -(psToNs left)
        if pend ≠ 0 then s2.holdStep i step
        else
          let (ok, s3) := s2.tryStep (step * (ptNs : Int)) 1
          if ok then s3 else s3.holdStep i step

/-- PTP_OFFSET_SECOND (R350). -/
def execPtpOffsetSecond (i : Fin 4) (at_ : Nat) (s0 : State) : Res :=
  let s := s0.toTick at_
  if s.upd.paused ∨ s.now < (s.ptp i).lastSecond + tickS then .next s else .next (s.offsetSecond i)

/-- A master port's message of type `ty` is due at an interval: answers the sequence number and the state. -/
def State.gmDue (s : State) (m ty iv : Nat) : Option (Nat × State) :=
  let (seq, last) := tget (fun _ => (0, 0)) s.pac.sends (m * 16 + ty)
  if s.masterPort m ∧ s.upd.paused = false ∧ (last = 0 ∨ last - 1 + iv ≤ s.now) then
    some (seq, { s with pac := { s.pac with sends := tput s.pac.sends (m * 16 + ty) ((seq + 1) % 65536, s.now + 1) } })
  else none

/-- clockIdentity: the EUI-64 of the base MAC address (R351). -/
def State.clockId (s : State) : Nat :=
  s.fuses.baseMac / 2 ^ 24 * 2 ^ 40 + 0xFFFE * 2 ^ 24 + s.fuses.baseMac % 2 ^ 24

/-- clockAccuracy (R351). -/
def State.clockAcc (s : State) : Nat := if s.pacer = 2 ∨ s.pacer = 3 then 0x21 else 0xFE

/-- GM_ANNOUNCE_SEND (R351). -/
def execGmAnnounceSend (m : Fin 98) (at_ : Nat) (s0 : State) : Res :=
  let s := s0.toTick at_
  match s.gmDue m 0xB (logTicks (s.int O.gmLogAnnounce)) with
  | none => .next s
  | some (seq, s1) => .next (s1.servoSend m ⟨4, 0xB, s1.num O.gmGmDomain, s1.num O.gmGmTransport, seq,
      [s1.clockId, s1.num O.timeUtcOffset, s1.num O.gmPriority1, s1.clockClass, s1.clockAcc, s1.num O.gmPriority2,
       s1.num O.gmTimeSource], []⟩)

/-- GM_SYNC_SEND (R351): Sync, which Follow_Up with its transmit time follows. -/
def execGmSyncSend (m : Fin 98) (at_ : Nat) (s0 : State) : Res :=
  let s := s0.toTick at_
  match s.gmDue m 0 (logTicks (s.int O.gmLogSync)) with
  | none => .next s
  | some (seq, s1) => .next (s1.servoSend m ⟨4, 0, s1.num O.gmGmDomain, s1.num O.gmGmTransport, seq, [s1.clockId], []⟩)

/-- GM_DELAY_REQ (R351): answered up to 4,096 times in a second on each port. -/
def execGmDelayReq (m : Fin 98) (port : List Byte) (seq : Half) (at_ : Nat) (s0 : State) : Res :=
  let s := s0.toTick at_
  let (sec, n) := tget (fun _ => (0, 0)) s.pac.gmSec m
  let used := if sec = s.second + 1 then n else 0
  if !s.masterPort m ∨ 4096 ≤ used ∨ !s.servoLane m then .next s
  else
    let s1 := { s with pac := { s.pac with gmSec := tput s.pac.gmSec m (s.second + 1, used + 1) } }
    .next (s1.servoSend m ⟨4, 9, s1.num O.gmGmDomain, s1.num O.gmGmTransport, seq.toNat, [s1.clockId, s1.rxStampOf m], port⟩)

/-- GM_MANAGEMENT_SEND (R351): SM_TLV, once per second. -/
def execGmManagementSend (m : Fin 98) (at_ : Nat) (s0 : State) : Res :=
  let s := s0.toTick at_
  match s.gmDue m 0xD tickS with
  | none => .next s
  | some (seq, s1) => .next (s1.servoSend m ⟨4, 0xD, s1.num O.gmGmDomain, s1.num O.gmGmTransport, seq, [s1.clockId], s1.bytes O.gmSmTlv⟩)

/-! ### Outputs (R352–R354) -/

/-- FP_INPUT_LOSS (R353). -/
def execFpInputLoss (k : Fin 8) (at_ : Nat) (s0 : State) : Res :=
  let s := s0.toTick at_
  let src := s.num (O.fpSource k)
  if !s.flag (O.fpEnable k) ∨ 3 < src ∨ s.num (O.fpOutState k) ≠ 1 then .next s
  else .next ((s.setNum (O.fpOutState k) 2).raise 0x200D (p8 k ++ p8 src))

/-- FP_INPUT_RETURN (R353): the output moves to the input's phase at SLEW_RATE. -/
def execFpInputReturn (k : Fin 8) (phase : Int) (at_ : Nat) (s0 : State) : Res :=
  let s := s0.toTick at_
  let src := s.num (O.fpSource k)
  if !s.flag (O.fpEnable k) ∨ 3 < src ∨ s.num (O.fpOutState k) ≠ 2 then .next s
  else
    let s1 := { s with pac := { s.pac with fpSlew := tput s.pac.fpSlew k (phase, s.now) } }
    .next ((s1.setNum (O.fpOutState k) 1).raise 0x200D (p8 k ++ p8 src))

/-- CLOCK_OUTPUT_RESTART (R354): at the first whole multiple of 1 s, or of 1.001 s, after the commit. -/
def execClockOutputRestart (k : Fin 4) (at_ : Nat) (s0 : State) : Res :=
  let s := s0.toTick at_
  match tfind s.pac.ckHeld k with
  | none => .next s
  | some pt =>
    let p := (if s.flag (O.ckPullDown k) then 1001000000 else 1000000000) * ptNs
    if (pt / p + 1) * p ≤ s.tm.pt + s.tm.inc then .next { s with pac := { s.pac with ckHeld := tdel s.pac.ckHeld k } }
    else .next s

/-- PACER_TIME_NS_READ (R355): PT96's whole nanoseconds, its fraction latched. -/
def execPacerTimeNsRead (at_ : Nat) (s0 : State) : Res :=
  let s := s0.toTick at_
  if !s.winOpen 0x415008 then .next (s.emit (.regRead 0x415008 0))
  else .next (({ s with pac := { s.pac with frac := s.pt96 % 2 ^ 32 } }).emit (.regRead 0x415008 (s.pt96 / 2 ^ 32)))

/-! ### Output pins (R352–R354) -/

/-- A tick of nominal length, 1.25 ns, in 2^-64 ns. -/
def tickPt : Nat := 5 * 2 ^ 62

/-- What is left of a frame-pulse output's move to its input's phase at SLEW_RATE, in 0.25 ns (R353). -/
def State.fpLeft (s : State) (k : Nat) : Int :=
  match tfind s.pac.fpSlew k with
  | none => 0
  | some (p, t) =>
    let done : Nat := (s.now - t) * s.num O.loopSlewRate * 4 / tickS
    if p.natAbs ≤ done then 0 else if 0 ≤ p then p - done else p + done

/-- Start of the pulse of frame-pulse output k in progress or last begun (R352, R353). DESIGN CHOICE (log entry 177): the mean phase of the
input's last edges is the phase the phase detector last gave. -/
def State.fpEdge (s : State) (k : Nat) : Int :=
  let src := s.num (O.fpSource k)
  let (rate, dv, ph) : Nat × Nat × Int := if src ≤ 3 then
      (s.num (O.refRate (4 + src)), s.num (O.refDivide (4 + src)),
       (s.ref (4 + src)).phase + 4 * s.int (O.refPhaseOffset (4 + src)) - s.fpLeft k)
    else (s.num (O.fpRate k), s.num (O.fpDivide k), 0)
  let shift : Int := (s.num (O.fpOffset k) * tickPt : Nat) + ph * ptNs / 4
  let j := gridFrame rate ((s.tm.pt : Int) - shift).toNat
  (gridStart rate (j / max 1 dv * dv) : Int) + shift

/-- The level of FP_OUT[k] (R352): pulses of WIDTH ticks at POLARITY while enabled, the inactive level otherwise. -/
def State.fpLevel (s : State) (k : Nat) : Bool :=
  let on := s.flag (O.fpEnable k) && decide ((s.tm.pt : Int) - s.fpEdge k < (s.num (O.fpWidth k) * tickPt : Nat))
  on != (s.num (O.fpPolarity k) == 1)

/-- The level of CLK_OUT[k] (R354): FREQ_HZ cycles from every whole multiple of 1 s, or of 1.001 s with PULL_DOWN; low while disabled or
held. DESIGN CHOICE (log entry 177): high for the first half of a cycle. -/
def State.clkLevel (s : State) (k : Nat) : Bool :=
  let p := (if s.flag (O.ckPullDown k) then 1001000000 else 1000000000) * ptNs
  s.flag (O.ckEnable k) && (tfind s.pac.ckHeld k).isNone && decide (2 * (s.tm.pt * s.num (O.ckFreqHz k) % p) < p)

/-! ### Commits of area 0x2000 (R348, R352, R356) -/

/-- Period of frame-pulse output k in ticks of nominal length, rounded down (R352). -/
def State.fpPeriod (s : State) (k : Nat) : Nat :=
  let src := s.num (O.fpSource k)
  let (rate, dv) := if src ≤ 3 then (s.num (O.refRate (4 + src)), s.num (O.refDivide (4 + src)))
    else (s.num (O.fpRate k), s.num (O.fpDivide k))
  let (num, den) := rateFrac rate
  if num = 0 then 0 else dv * den * tickS / num

/-- Whether the OFFSET and WIDTH of frame-pulse output k suit its period (R352). -/
def State.fpFits (s : State) (k : Nat) : Bool :=
  let p := s.fpPeriod k
  decide (s.num (O.fpOffset k) < p) && decide (2 * s.num (O.fpWidth k) ≤ p) && s.num (O.fpWidth k) != 0

/-- The hurdle code of an object of reference r (Table 11-10, R356). -/
def refIssue (post : State) (r sub : Nat) : Option Nat :=
  let v := post.num (objKey (0x2010 + r) sub)
  if sub = 1 then (if r ≤ 3 ∧ v ≠ 0 ∧ post.num O.gmPtpRole = 1 then some 0x2005 else none)
  else if sub = 6 then
    (let p := post.refPeriod r
     if p ≠ 0 ∧ p < 8 * (post.int (O.refPhaseOffset r)).natAbs then some 0x2007 else none)
  else if (sub = 7 ∨ sub = 8) ∧ 4 ≤ r ∧ r ≤ 7 ∧ 1 ≤ post.num (O.refRate r) ∧ post.num (O.refRate r) ≤ 8 then
    (if post.refPeriod r < 8 * (post.int (O.refPhaseOffset r)).natAbs then some 0x2007
     else if (List.range 8).any (fun k => post.num (O.fpSource k) == r - 4 && !post.fpFits k) then some 0x2004 else none)
  else if sub = 7 then
    (let ok := if 4 ≤ r ∧ r ≤ 7 then decide (1 ≤ v ∧ v ≤ 8) else if refFreqOnly r then decide (1 ≤ v ∧ v ≤ 100) else v == 0
     if ok then none else some 0x2001)
  else if sub = 8 then (if v = 1 ∨ (4 ≤ r ∧ r ≤ 7) then none else some 0x2001)
  else if sub = 9 then (if v = 0 ∨ (4 ≤ r ∧ r ≤ 10) then none else some 0x2001)
  else if sub = 0xA then
    (if v = 0xFF then none
     else if r ≠ 11 ∧ r ≠ 12 then some 0x2001
     else if !(post.laneOn v && post.laneMode v == 1) then some 0x2006
     else if post.refPeriod r ≠ 0 ∧ post.refPeriod r < 8 * (post.int (O.refPhaseOffset r)).natAbs then some 0x2007 else none)
  else none

/-- Whether a MAC may carry PTP (R348). -/
def State.ptpMacOk (s : State) (m : Nat) : Bool :=
  m == 96 || m == 97 || (s.laneOn m && s.laneMode m == 2 && s.num (O.ethPtpHandler m) == 1)

/-- The MACs set in MASTER_PORTS. -/
def State.masterMacs (s : State) : List Nat :=
  let b := s.bytes O.gmMasterPorts
  (List.range 98).filter (fun m => bitOf (byteAt b (b.length - 1 - m / 8)) (m % 8))

/-- The hurdle code of an object of area 0x2000. -/
def area2Issue (_pre post : State) (ix sub : Nat) : Option Nat :=
  if 0x2010 ≤ ix ∧ ix ≤ 0x201D then refIssue post (ix - 0x2010) sub
  else if 0x2040 ≤ ix ∧ ix ≤ 0x2043 ∧ sub ≤ 2 then
    (let i := ix - 0x2040
     let m := post.num (O.ptpMac i)
     if m = 0xFF then none
     else if !post.ptpMacOk m then some 0x2002
     else if (List.range 4).any (fun j => j != i && post.num (O.ptpMac j) == m && post.num (O.ptpDomain j) == post.num (O.ptpDomain i)) ||
       (post.num O.gmPtpRole == 1 && post.masterMacs.contains m) then some 0x2003 else none)
  else if ix = 0x2050 ∧ (sub = 1 ∨ sub = 2) then
    (let ms := post.masterMacs
     if post.num O.gmPtpRole ≠ 1 then none
     else if ms.any (fun m => !post.ptpMacOk m) then some 0x2002
     else if ms.any (fun m => (List.range 4).any (fun i => post.num (O.ptpMac i) == m)) then some 0x2003
     else if (List.range 4).any (fun r => post.num (O.refPriority r) != 0) || decide (16 < ms.length) then some 0x2005 else none)
  else if 0x2080 ≤ ix ∧ ix ≤ 0x2087 ∧ 2 ≤ sub ∧ sub ≤ 6 then
    (if post.fpFits (ix - 0x2080) then none else some 0x2004)
  else none

/-- What a commit of area 0x2000 changes at once. -/
def State.area2Apply (s : State) (pre : State) : State :=
  let s1 := (List.range 14).foldl (fun (x : State) r =>
    let a := pre.num (O.refPriority r)
    let b := x.num (O.refPriority r)
    let y := if a ≠ 0 ∧ b = 0 then (x.setNum (O.refQualState r) 0).setNum (O.refFailWindows r) 0
      else if a = 0 ∧ b ≠ 0 then
        (if (x.ref r).present then (x.setNum (O.refQualState r) 2).winBegin r else x.setNum (O.refQualState r) 1)
      else x
    if y.wtrOver r then y.qualify r else y) s
  let s2 := (List.range 8).foldl (fun (x : State) k =>
    if x.flag (O.fpEnable k) && pre.flag (O.fpEnable k) && pre.num (O.fpSource k) == x.num (O.fpSource k) then x
    else ({ x with pac := { x.pac with fpSlew := tdel x.pac.fpSlew k } }).setNum (O.fpOutState k) (b2n (x.flag (O.fpEnable k)))) s1
  let s3 := (List.range 4).foldl (fun (x : State) k =>
    let moved := pre.num (O.ckFreqHz k) != x.num (O.ckFreqHz k) || pre.flag (O.ckPullDown k) != x.flag (O.ckPullDown k)
    if x.flag (O.ckEnable k) && (moved || !pre.flag (O.ckEnable k)) then
      { x with pac := { x.pac with ckHeld := tput x.pac.ckHeld k x.tm.pt } } else x) s2
  let s4 := (List.range 4).foldl (fun (x : State) i =>
    if pre.num (O.ptpMac i) ≠ x.num (O.ptpMac i) ∨ pre.num (O.ptpDomain i) ≠ x.num (O.ptpDomain i) ∨
        (x.num O.gmPtpRole = 1 ∧ pre.num O.gmPtpRole ≠ 1) then
      ((x.refAbsent i).setPtp i PtpSt.idle).setBytes (O.ptpMasterPort i) [] else x)
    ([11, 12].foldl (fun (x : State) r => if pre.num (O.refLane r) = x.num (O.refLane r) then x else x.refAbsent r) s3)
  let s5 := if s4.num O.loopOscSource = 1 ∧ s4.num O.pacerTickSource = 0 then s4.tickSource 1 (s4.int O.pacerOscOffset) else s4
  let s6 := if s5.num O.loopOscSource = 0 ∧ s5.num O.pacerTickSource = 1 ∧ s5.pac.ocxo ∧ s5.pac.ocxoWhole then
    s5.tickSource 0 (s5.int O.pacerOscOffset) else s5
  let s7 := if s6.pacer = 0 ∧ s6.pac.lastSel = 0xFF ∧ pre.int O.loopFreerunPpt ≠ s6.int O.loopFreerunPpt then
    (s6.setPac { s6.pac with integ := s6.int O.loopFreerunPpt }).steer (s6.int O.loopFreerunPpt) else s6
  let s8 := match s7.pac.sel with
    | some r => if s7.pacer = 3 ∧ s7.num O.loopBuildoutMode = 1 then s7.switchDone r else s7
    | none => s7
  s8.evalSel

end Sys2Proof.Machine
end

