-- ==== Sys2Proof/Machine/Power.lean ====
section
/-! DEFINITION. Power states, operating points, the energy ledger and the thermal limits (15), as the dictionary, the twin block
and the power commands use them. -/

namespace Sys2Proof.Machine

/-- PWR_EVT. -/
def rPwrEvt : Nat := 0x417004
/-- PWR_PROC. -/
def rPwrProc : Nat := 0x41700C

/-- A power event with its PWR_EVT bit (R450, R452). -/
def State.pwrEvent (s : State) (bit code : Nat) (payload : List Byte) : State := (s.setBit rPwrEvt bit).raise code payload

/-- CHIP_STATE. -/
def State.chip (s : State) : Nat := s.num O.pwrChipState

/-- Changes CHIP_STATE, with event 0x9001 (R431). -/
def State.setChip (s : State) (v : Nat) : State :=
  if s.chip = v then s else (s.setNum O.pwrChipState v).raise 0x9001 (p8 s.chip ++ p8 v)

/-- Stores the power block. -/
def State.setPwr (s : State) (p : PwrSt) : State := { s with pwr := p }

/-! ### Operating points (R440, R441) -/

/-- The rail that commands VDD_PROC (R440). -/
def State.procRail (s : State) : Option Nat :=
  (List.range 32).find? (fun k => s.num (O.railPmbusAddr k) != 0xFF && s.num (O.railRailKind k) == 1)

/-- The voltage that a command leaves in force: without a rail that commands VDD_PROC the card supplies a fixed 0.85 V (R440). -/
def State.volt (s : State) (v : Nat) : Nat := if s.procRail.isSome then v else 2

/-- The frequency changes to a point: PROC_POINT_ACTIVE and FACT follow, the pool is placed for it. -/
def State.freqTo (s : State) (pt cause : Nat) : State :=
  let old := s.num O.procProcPointActive
  if old = pt ∧ s.pwr.fact = pt then s
  else
    let s1 := (s.setPwr { s.pwr with fact := pt }).setNum O.procProcPointActive pt
    ((s1.replace pt).pwrEvent 2 0x9007 (p8 old ++ p8 pt ++ p8 cause))

/-- A change of the operating point begins (R440): raising commands the voltage, lowering changes the frequency; one back to the frequency
in force lowers a voltage that was raised for another. A change that
finds another under way takes its place. -/
def State.startPoint (s : State) (target cause : Nat) : State :=
  if target = s.pwr.fact then
    s.setPwr { s.pwr with point := if s.pwr.vact = s.volt target then none else some ⟨target, true, s.now, cause⟩ }
  else if s.pwr.fact < target then
    s.setPwr { s.pwr with vact := s.volt (max s.pwr.vact target), point := some ⟨target, false, s.now, cause⟩ }
  else (s.setPwr { s.pwr with point := some ⟨target, true, s.now, cause⟩ }).freqTo target cause

/-- PROC_POINT_STEP (R440): raising, the frequency changes 200 µs after the command once the rail reads within 3 %; lowering, the
voltage is commanded 10 µs after. -/
def execProcPointStep (railOk : Bool) (at_ : Nat) (s0 : State) : Res :=
  let s := s0.toTick at_
  match s.pwr.point with
  | none => .next s
  | some c =>
    if c.freqDone then
      (if s.now < c.at_ + 10 * tickUs then .next s else .next (s.setPwr { s.pwr with vact := s.volt c.target, point := none }))
    else if s.now < c.at_ + 200 * tickUs ∨ !railOk then .next s
    else .next ((s.setPwr { s.pwr with point := none }).freqTo c.target c.cause)

/-- Whether the pool fits a point (R317). -/
def State.poolFits (s : State) (pt : Nat) : Bool := (s.poolPlace pt s.comp.place (fun _ => true)).left.isEmpty

/-- Held requests that have become allowed take place (R441). -/
def State.tryHeld (s : State) : State :=
  let s1 := match s.pwr.heldV with
    | some v => if s.pwr.fact ≤ v then s.setPwr { s.pwr with vact := s.volt v, heldV := none } else s
    | none => s
  let s2 := match s1.pwr.heldF with
    | some f => if f ≤ s1.pwr.vact then (s1.setPwr { s1.pwr with heldF := none }).freqTo f 4 else s1
    | none => s1
  match s2.pwr.heldV with
  | some v => if s2.pwr.fact ≤ v then s2.setPwr { s2.pwr with vact := s2.volt v, heldV := none } else s2
  | none => s2

/-- A write of FSEL (R441). Code 3 names no frequency and is ignored. -/
def State.fsel (s : State) (v : Nat) : State :=
  if !s.flag O.procManualDvfs ∨ 2 < v then s
  else if !s.poolFits v then s.setBit rPwrProc 30
  else
    let s1 := s.setReg rPwrProc (setFld (s.reg rPwrProc) 9 8 v)
    if s1.pwr.vact < v then (s1.setPwr { s1.pwr with heldF := some v }).pwrEvent 10 0x9010 (p8 0)
    else ((s1.setPwr { s1.pwr with heldF := none }).freqTo v 4).tryHeld

/-- A write of VSEL (R441). -/
def State.vsel (s : State) (v : Nat) : State :=
  if !s.flag O.procManualDvfs ∨ 2 < v then s
  else
    let s1 := s.setReg rPwrProc (setFld (s.reg rPwrProc) 1 0 v)
    if v < s1.pwr.fact then (s1.setPwr { s1.pwr with heldV := some v }).pwrEvent 10 0x9010 (p8 1)
    else (s1.setPwr { s1.pwr with vact := s1.volt v, heldV := none }).tryHeld

/-- FSEL_WRITE. -/
def execFselWrite (v : Fin 4) (s : State) : Res := .next (if s.winOpen rPwrProc then s.fsel v else s)
/-- VSEL_WRITE. -/
def execVselWrite (v : Fin 4) (s : State) : Res := .next (if s.winOpen rPwrProc then s.vsel v else s)

/-! ### Bench: entry and waking (R434–R437) -/

/-- Bring-up steps of Table 15-3 with their times in 0.1 ms. -/
def bringTable : List (Nat × Nat) := [(1, 1), (2, 11), (3, 14), (4, 15), (5, 25), (6, 26), (7, 66), (8, 67), (9, 70), (10, 120)]
/-- Steps that undo an entry abandoned at an abort point (R437). -/
def abortTable (ap : Nat) : List (Nat × Nat) :=
  match ap with
  | 3 => [(8, 1), (6, 4), (7, 44), (9, 45), (10, 95)]
  | 2 => [(6, 1), (7, 41), (9, 42), (10, 92)]
  | _ => [(9, 1), (10, 51)]

/-- Steps counted from now. -/
def State.stepsFrom (s : State) (l : List (Nat × Nat)) : List (Nat × Nat) := l.map (fun p => (p.1, s.now + p.2 * 80000))

/-- Bench entry begins (R433, R434): the claim falls, E1 is under way. -/
def State.benchBegin (s : State) (kind : Nat) : State :=
  let s1 := (s.raise 0x9002 (p8 kind)).setChip 1
  let s2 := s1.setPwr { s1.pwr with entry := 1, entryAt := s1.now, noAbort := false, latch := 0 }
  s2.lowerClaim 3

/-- Waking begins with a source (R436). -/
def State.wakeBegin (s : State) (src : Nat) : State :=
  let s1 := ((s.setNum O.pwrLastWake src).pwrEvent 1 0x9004 (p8 src)).setChip 3
  s1.setPwr { s1.pwr with latch := 0, bring := s1.stepsFrom bringTable }

/-- A wake source is active (Table 15-4): in Bench an enabled source starts waking, during entry it is remembered for the next abort
point or the end of the entry; after a thermal trip wake sources are ignored (Table 15-6). -/
def State.wakeSource (s : State) (src : Nat) : State :=
  if s.chip = 1 then s.setPwr { s.pwr with latch := setFld s.pwr.latch src src 1 }
  else if s.chip = 2 && bitOf (s.num O.pwrWakeMask) src && !s.pwr.tripped then s.wakeBegin src
  else s

/-- BENCH_REQUEST (R434, Table 15-4): the status and what the write does. -/
def State.benchWrite (s : State) (v : Nat) : Nat × State :=
  if v = 0 then (0, s.wakeSource 1)
  else if s.twin.gate then (0x9003, s)
  else if s.chip ≠ 0 then (0x9004, s)
  else (0, s.benchBegin 1)

/-- BENCH_FORCE (R434). -/
def State.benchForceWrite (s : State) (v : Nat) : Nat × State :=
  if v = 0 then (0, s) else if s.chip ≠ 0 then (0x9004, s) else (0, s.benchBegin 2)

/-- WAKE (R436). A monitor wakes only with FUNCTION bit 1 (R442). -/
def execWake (source : Fin 9) (at_ : Nat) (s0 : State) : Res :=
  let s := s0.toTick at_
  let m := source.val - 2
  if 2 ≤ source.val ∧ source.val ≤ 5 ∧ !bitOf (s.num (O.monFunction m)) 1 then .next s
  else .next (s.wakeSource source)

/-- HOST_WAKE: WAKE in PWR_CTRL. -/
def execHostWake (w : Word) (s : State) : Res := .next (if s.winOpen 0x417008 && bitOf w.toNat 31 then s.wakeSource 0 else s)

/-- WAKE_TIMER_EXPIRY: WAKE_TIMER seconds have elapsed in Bench. -/
def execWakeTimerExpiry (at_ : Nat) (s0 : State) : Res :=
  let s := s0.toTick at_
  let t := s.num O.pwrWakeTimer
  if s.chip = 2 ∧ t ≠ 0 ∧ s.pwr.benchAt + t * tickS ≤ s.now then .next (s.wakeSource 7) else .next s

/-! ### Slices (R438, R439) -/

/-- Lane p changes its slice state: leaving operation its lock is lost, its link falls, its serialiser stops. -/
def State.setLanePower (s : State) (p v : Nat) : State :=
  let was := s.laneActive p
  let s1 := s.setNum (O.jogLanePowerState p) v
  if !was || v == 0 || v == 3 then s1
  else if s1.laneMode p = 2 then s1.ethDown p 1 0 false
  else
    let s2 := if 3 ≤ s1.lockState p then s1.loseLock p (s1.lane p).fly 0 false 0 else s1.setNum (O.sdiLockState p) 0
    s2.setLane p { s2.lane p with sd := false, txOn := false }

/-- Whether a stream of lane p's slot is taken or subscribed. -/
def State.laneStreamsUsed (s : State) (p : Nat) : Bool := s.slotTaken p || s.slotSubscribed p

/-- JOG_SAMPLE (R438, R439): the sample boundary of lane p applies its committed LANE_POWER; a lane in Jog samples. -/
def execJogSample (p : Fin 96) (high at_ : Nat) (s0 : State) : Res :=
  let s := s0.toTick at_
  let want := s.num (O.jogLanePower p)
  let cur := s.num (O.jogLanePowerState p)
  let s1 := if s.chip ≠ 0 ∨ want = cur ∨ (want = 1 ∧ cur = 3) then s else s.setLanePower p want
  if s1.lanePower p ≠ 1 ∨ high < 10 ∨ !s1.laneOn p then .next s1
  else
    let fresh := tget zeroNat s1.ess.once (0x9005 * 2 ^ 16 + p.val) != s1.second + 1
    let s2 := (s1.bump (O.jogJogHits p)).oncePerSecond 0x9005 p (p8 p)
    let s3 := if fresh then s2.setBit rPwrEvt 9 else s2
    let s4 := if s3.chip = 0 ∧ s3.flag (O.jogJogAuto p) then
        (s3.setNum (O.jogLanePowerState p) 3).setQuiet p (s3.now + 1) else s3
    .next (if s4.flag (O.jogJogWake p) then s4.wakeSource 6 else s4)

/-- JOG_RETURN_EXPIRY (R439). -/
def execJogReturnExpiry (p : Fin 96) (at_ : Nat) (s0 : State) : Res :=
  let s := s0.toTick at_
  let t := s.num (O.jogJogReturn p)
  let q := tget zeroNat s.pwr.quiet p
  if s.lanePower p ≠ 3 ∨ t = 0 ∨ q = 0 ∨ s.now < q - 1 + t * tickMs ∨ s.laneStreamsUsed p then .next s
  else .next ((s.setLanePower p 1).raise 0x9006 (p8 p))

/-! ### Monitors, rails and derating (R442, R443, R445) -/

/-- Bits of a PMBus STATUS_WORD that show an output voltage, output current, input or temperature warning or fault (PRESUMED, the
PMBus standard: VOUT, IOUT/POUT, INPUT, VOUT_OV, IOUT_OC, VIN_UV, TEMPERATURE). -/
def derateBits (w : Nat) : Bool := bitOf w 15 || bitOf w 14 || bitOf w 13 || bitOf w 5 || bitOf w 4 || bitOf w 3 || bitOf w 2

/-- Whether the supply is derated now (R443). -/
def State.deratedNow (s : State) : Bool :=
  (List.range 4).any (fun m => bitOf (s.num (O.monFunction m)) 2 && s.flag (O.monBeyond m)) ||
  (List.range 32).any (fun k => s.num (O.railPmbusAddr k) != 0xFF && derateBits (s.num (O.railStatusWord k)))

/-- SUPPLY_DERATED follows, with event 0x900D; cause 1 a monitor, 2 a rail. -/
def State.derateCheck (s : State) (cause : Nat) : State :=
  let d := s.deratedNow
  if s.flag O.pwrSupplyDerated = d then s
  else (s.setNum O.pwrSupplyDerated (b2n d)).pwrEvent 6 0x900D (p8 (b2n d) ++ p8 cause)

/-- MONITOR_CHANGE (R442). -/
def execMonitorChange (m : Fin 4) (beyond : Bool) (at_ : Nat) (s0 : State) : Res :=
  let s := s0.toTick at_
  if s.flag (O.monBeyond m) = beyond then .next s
  else
    let f := s.num (O.monFunction m)
    let s1 := s.setNum (O.monBeyond m) (b2n beyond)
    let s2 := if bitOf f 0 then s1.pwrEvent 8 0x900C (p8 m ++ p8 (b2n beyond)) else s1
    let s3 := s2.derateCheck 1
    .next (if beyond && bitOf f 1 then s3.wakeSource (2 + m.val) else s3)

/-- Rails that are configured. -/
def State.rails (s : State) : List Nat := (List.range 32).filter (fun k => s.num (O.railPmbusAddr k) != 0xFF)

/-- PMBUS_READ (R445), every 10 ms. A rail that missed three reads counts with its domain's on-die figure, which no rule
states: a free value. -/
def execPmbusRead (rails : List (Nat × Nat × Nat × Nat × Nat)) (at_ : Nat) (s0 : State) : Res :=
  let s := s0.toTick at_
  if s.now < s.pwr.pmAt + 10 * tickMs then .next s
  else
    let step (x : Nat × State) (k : Nat) : Nat × State :=
      let y := x.2
      match rails.find? (fun r => r.1 == k) with
      | some (_, v, i, w, st) =>
        let y1 := (((y.setNum (O.railVout k) v).setNum (O.railIout k) i).setNum (O.railPower k) w).setNum (O.railStatusWord k) st
        (x.1 + w, y1.setPwr { y1.pwr with miss := tset zeroNat y1.pwr.miss k 0 })
      | none =>
        let n := tget zeroNat y.pwr.miss k + 1
        let y1 := y.setPwr { y.pwr with miss := tset zeroNat y.pwr.miss k (min n 3) }
        let y2 := if n = 3 then y1.raise 0x900F (p8 k) else y1
        if 3 ≤ n then (let (w, y3) := y2.freeNat; (x.1 + w, y3)) else (x.1 + y2.num (O.railPower k), y2)
    let (sum, s1) := s.rails.foldl step (0, s)
    let s2 := s1.setPwr { s1.pwr with pmAt := s1.now, pmSum := s1.pwr.pmSum + sum, pmCount := s1.pwr.pmCount + 1 }
    .next (s2.derateCheck 2)

/-! ### The energy ledger (R444–R448) -/

/-- A calibrated cost of class c at a point. -/
def State.cost (s : State) (c pt : Nat) : Nat := s.num (O.costAt c pt)

/-- The number of engines that serve a placement. -/
def placeEngines (t : Tbl Nat) : Nat := (sortNat (t.map Prod.snd)).length

/-- Fabric lanes the running set uses: active lanes and hot spares of every link within MESH_SIZE. -/
def State.fabCostLanes (s : State) : Nat :=
  (s.peers.map (fun j =>
    min (s.num O.meshActiveLanes + s.num O.meshHotSpares)
      ((List.range (s.lanesTo j)).filter (fun m => s.flag (O.flLaneEnable (s.laneTo j m)))).length)).foldl (· + ·) 0

/-- The cost of each class (R444): `engs` engines with a program, `scal` engines assigned, `heads` heads and `fab` fabric lanes, at a
point. -/
def State.classCosts (s : State) (pt engs scal heads fab : Nat) : List Nat :=
  let lane := ((List.range 96).map (fun p =>
    if !s.laneOn p || s.laneMode p == 0 then 0
    else match s.num (O.jogLanePower p) with
      | 0 => s.cost 1 pt
      | 1 => if s.flag (O.jogJogAuto p) then s.cost 1 pt else 3
      | _ => 0)).foldl (· + ·) 0
  let outs := ((List.range 128).filter (fun o => s.outputKind o != 0 && s.outRaster o != 0)).length
  let ess := ((List.range 240).map (fun n =>
    if s.slotKind n != 0 && s.slotEnabled n then ceilDiv (12 * s.slotRate n (s.slotRaster n)) 1000 else 0)).foldl (· + ·) 0
  [s.cost 0 pt, lane, outs * s.cost 2 pt, ess, fab * s.cost 4 pt, engs * s.cost 5 pt, scal * s.cost 6 pt, heads * s.cost 7 pt]

/-- Engines with a program in a set. -/
def StrSet.engines (t : StrSet) : Nat := (t.banks.filter (fun b => !b.2.prog.isEmpty)).length

/-- Heads that run. -/
def State.headsOn (s : State) : Nat := ((List.range 8).filter (fun h => s.headRuns h)).length

/-- The state with nothing shed. -/
def State.unshed (s : State) : State :=
  { s with comp := { s.comp with convShed := [], heads := s.comp.heads.map (fun (p : Nat × HeadSt) => (p.1, { p.2 with shed := false })) } }

/-- LEDGER_COST by class: the running sets with nothing treated as shed (R444), with the Stride set that the running objects of area
0x7800 give. -/
def State.costList (s : State) (set : StrSet) : List Nat :=
  let u := s.unshed
  let pt := s.num O.procProcPoint
  s.classCosts pt set.engines (placeEngines (u.poolPlace pt u.comp.place (fun _ => true)).place) s.headsOn s.fabCostLanes

/-- Sum of a list. -/
def sumNat (l : List Nat) : Nat := l.foldl (· + ·) 0

/-- LEDGER_INUSE: the resources in use, shed ones left out, at the point in force (R445). -/
def State.inUse (s : State) : Nat :=
  let fab := ((List.range 128).filter (fun f => s.laneRole f == 1 || s.laneRole f == 2)).length
  sumNat (s.classCosts (s.num O.procProcPointActive) s.str.act.engines (placeEngines s.comp.place)
    ((List.range 8).filter (fun h => s.headRuns h && !(s.head h).shed)).length fab)

/-- LEDGER_COST and LEDGER_INUSE are brought up to date. -/
def State.ledgerObjs (s : State) : State :=
  (s.setNum O.ledLedgerCost (sumNat (s.costList s.str.act))).setNum O.ledLedgerInuse s.inUse

/-- The effective budget (R443). -/
def State.effBudget (s : State) : Nat :=
  if s.flag O.pwrSupplyDerated then s.num O.ledBudget * s.num O.ledDeratePercent / 100 else s.num O.ledBudget

/-- The class whose cost rises most; the lowest of equals. -/
def mostRisen (pre post : List Nat) : Nat :=
  ((List.range 8).foldl (fun (b : Nat × Int) c =>
    let d : Int := (post.getD c 0 : Int) - (pre.getD c 0 : Int)
    if b.2 < d then (c, d) else b) (0, (post.getD 0 0 : Int) - (pre.getD 0 0 : Int))).1

/-- Check 6: the code the ledger refuses a commit with, none where it is admitted (R446). -/
def ledgerIssue (pre post : State) (preSet postSet : StrSet) : Option Nat :=
  let a := pre.costList preSet
  let b := post.costList postSet
  if sumNat b ≤ sumNat a ∨ sumNat b + post.num O.ledCorrection ≤ post.effBudget then none
  else
    let cc := mostRisen a b
    some ((if post.flag O.pwrSupplyDerated || !post.pwr.shed.isEmpty || decide (2 ≤ post.num O.thermThermState) then 0x9200
      else 0x9100) + cc)

/-- SHED_STATE: the furthest kind reached. -/
def State.shedObj (s : State) : State :=
  s.setNum O.ledShedState (s.pwr.shed.foldl (fun m p => max m p.1) 0)

/-- The next step to shed (R447): kind and instance. -/
def State.nextShed (s : State) : Option (Nat × Nat) :=
  match ((List.range 8).reverse).find? (fun h => s.headRuns h && !(s.head h).shed) with
  | some h => some (1, h)
  | none =>
    match ((List.range 16).reverse).find? (fun c => s.fuses.variant != .t && s.num (O.convOutput c) != 255 && !s.comp.convShed.contains c) with
    | some c => some (2, c)
    | none =>
      if s.flag O.procManualDvfs ∨ s.num O.procProcPointActive = 0 then none
      else some (3, s.num O.procProcPointActive)

/-- One step is shed (R447). -/
def State.shedStep (s : State) (kind inst : Nat) : State :=
  let s1 := if kind = 1 then ((s.shedHead inst).report 224 0x8005).syncSubs
    else if kind = 2 then (s.shedConv inst).report 224 0x8008
    else s.startPoint (inst - 1) 2
  let s2 := (s1.setPwr { s1.pwr with shed := (kind, inst) :: s1.pwr.shed, okAt := 0 }).shedObj
  s2.pwrEvent 3 0x9008 (p8 kind ++ p8 inst ++ p32 (s2.num O.ledMeasured))

/-- The cost a restore adds. -/
def State.stepCost (s : State) (kind inst : Nat) : Nat :=
  let pt := s.num O.procProcPointActive
  if kind = 1 then
    (let u := s.setHead inst { s.head inst with shed := false }
     s.cost 7 pt + (placeEngines (u.poolPlace pt u.comp.place (fun _ => true)).place - placeEngines s.comp.place) * s.cost 6 pt)
  else if kind = 2 then s.cost 6 pt
  else
    s.str.act.engines * (s.cost 5 inst - s.cost 5 pt) + placeEngines s.comp.place * (s.cost 6 inst - s.cost 6 pt)

/-- The step shed last is restored where it finds room (R448). -/
def State.restoreStep (s : State) (kind inst : Nat) : State :=
  let s1 := if kind = 1 then s.restoreHead inst else if kind = 2 then s.restoreConv inst else s.startPoint inst 3
  let done := if kind = 1 then !(s1.head inst).shed else if kind = 2 then !s1.comp.convShed.contains inst else true
  if !done then s1.setPwr { s1.pwr with okAt := s1.now + 1 }
  else
    let s2 := (s1.setPwr { s1.pwr with shed := s1.pwr.shed.tail, okAt := s1.now + 1 }).shedObj
    s2.pwrEvent 4 0x9009 (p8 kind ++ p8 inst ++ p32 (s2.num O.ledMeasured))

/-- The ledger's second once MEASURED is known: report 352, shed or restore (R447, R448). Thermal state 2 and above sheds as if
MEASURED exceeded the budget; source 352 follows MEASURED alone. -/
def State.ledgerAct (s : State) : State :=
  let m := s.num O.ledMeasured
  let eff := s.effBudget
  let above := decide (eff < m)
  let s1 := if above = s.pwr.above then s
    else (s.setPwr { s.pwr with above := above }).pwrEvent 5 0x900A (p32 m ++ p32 eff)
  if above || decide (2 ≤ s1.num O.thermThermState) then
    let s2 := if above then s1.report 352 0x900A else s1.conditionEnd 352
    match s2.nextShed with
    | some (k, i) => s2.shedStep k i
    | none => if s2.pwr.nothing then s2 else (s2.setPwr { s2.pwr with nothing := true, okAt := 0 }).raise 0x900B (p32 m)
  else
    let s2 := (s1.conditionEnd 352).setPwr { s1.pwr with nothing := false }
    let lim := eff - s2.num O.ledRestoreMargin
    if lim < m then s2.setPwr { s2.pwr with okAt := 0 }
    else if s2.pwr.okAt = 0 then s2.setPwr { s2.pwr with okAt := s2.now + 1 }
    else if s2.now < s2.pwr.okAt - 1 + 10 * tickS then s2
    else
      match s2.pwr.shed with
      | [] => s2
      | (k, i) :: _ => if m + s2.stepCost k i ≤ lim then s2.restoreStep k i else s2

/-- LEDGER_SECOND (R445, R447). -/
def execLedgerSecond (onDie at_ : Nat) (s0 : State) : Res :=
  let s := s0.toTick at_
  if s.now < s.pwr.secAt + tickS then .next s
  else
    let m := if s.num O.ledMeasureSource = 0 ∧ !s.rails.isEmpty ∧ s.pwr.pmCount ≠ 0 then
        (roundDiv s.pwr.pmSum s.pwr.pmCount).toNat else onDie
    let s1 := s.setNum O.ledLedgerInuse s.inUse
    let means := (((m : Int) - (s1.num O.ledLedgerInuse : Int)) :: s1.pwr.means).take 10
    let corr := (roundDiv (means.foldl (· + ·) 0) means.length).toNat
    let s2 := s1.setPwr { s1.pwr with secAt := s1.now, pmSum := 0, pmCount := 0, means := means }
    .next (((s2.setNum O.ledMeasured m).setNum O.ledCorrection corr).ledgerAct.ledgerObjs)

/-! ### Thermal limits (R449) -/

/-- Entry threshold of a thermal state, Q16.16 °C (Table 15-6). -/
def State.thermTh (s : State) (k : Nat) : Int :=
  (match k with | 1 => (s.num O.thermThermWarn : Int) | 2 => 120 | 3 => 125 | _ => 135) * 65536

/-- The thermal state that a junction temperature calls for. -/
def State.thermRaw (s : State) (t : Int) : Nat :=
  if s.thermTh 4 ≤ t then 4 else if s.thermTh 3 ≤ t then 3 else if s.thermTh 2 ≤ t then 2 else if s.thermTh 1 ≤ t then 1 else 0

/-- The thermal state from the one before: a state is left 3 °C below its entry threshold. -/
def State.thermNext (s : State) (t : Int) : Nat → Nat
  | 0 => s.thermRaw t
  | k + 1 => if k + 1 ≤ s.thermRaw t then s.thermRaw t else if s.thermTh (k + 1) - 3 * 65536 ≤ t then k + 1 else s.thermNext t k

/-- The hottest sensor of a list: index and temperature. -/
def hottest (l : List Int) : Nat × Int :=
  ((List.range l.length).foldl (fun (b : Nat × Int) i => if b.2 < l.getD i 0 then (i, l.getD i 0) else b) (0, l.headD 0))

/-- A thermal trip: E2 to E4 run without abort points (Table 15-6). -/
def State.thermTrip (s : State) : State :=
  let s1 := s.setPwr { s.pwr with tripped := true }
  if s1.chip = 2 then s1
  else
    let s2 := s1.setChip 1
    (s2.setPwr { s2.pwr with entry := 2, entryAt := s2.now, noAbort := true, stopped := true, bring := [] }).lowerClaim 3

/-- THERMAL_READ (R449), every 1 ms. -/
def execThermalRead (temps : List Int) (at_ : Nat) (s0 : State) : Res :=
  let s := s0.toTick at_
  if s.now < s.pwr.thermAt + tickMs then .next s
  else
    let first := s.pwr.thermAt = 0
    let s1 := (List.range 18).foldl (fun (x : State) t =>
      let v := temps.getD t 0
      let y := x.setInt (O.sensTemp t) v
      if first ∨ y.int (O.sensTempMax t) < v then y.setInt (O.sensTempMax t) v else y) s
    let j := hottest (temps.take 16)
    let st := max (temps.getD 16 0) (temps.getD 17 0)
    let old := s1.num O.thermThermState
    let stack := if 105 * 65536 < st then 3 else if 95 * 65536 < st then 1 else 0
    let new := max (s1.thermNext j.2 old) stack
    let s2 := (s1.setPwr { s1.pwr with thermAt := s1.now, tripped := s1.pwr.tripped && decide (115 * 65536 ≤ j.2) }).setInt
      O.thermThermHottest j.2
    if new = old then .next s2
    else
      let s3 := (s2.setNum O.thermThermState new).pwrEvent 7 0x900E (p8 new ++ p8 j.1 ++ beBytes 4 (twos 32 j.2))
      let s4 := if 3 ≤ new then s3.report 353 0x900E else s3.conditionEnd 353
      .next (if new = 4 then s4.thermTrip else s4)

/-! ### Commits of area 0x9000 -/

/-- The hurdle code of an object of area 0x9000 (Table 15-10). -/
def area9Issue (pre post : State) (ix sub : Nat) : Option Nat :=
  if 0x9100 ≤ ix ∧ ix ≤ 0x915F ∧ sub = 1 then
    (let p := ix - 0x9100
     let group := post.eth100 (p / 4) || post.quadRx p || post.quadTx p
     let v := post.num (O.jogLanePower p)
     if v ≠ 0 ∧ pre.num (O.jogLanePower p) ≠ v ∧ (pre.laneStreamsUsed p || (decide (post.outputKind p = 1) && post.outRaster p != 0) ||
          (group && pre.laneActive (p / 4 * 4))) then some 0x9001 else none)
  else if 0x9020 ≤ ix ∧ ix ≤ 0x903F then
    (let k := ix - 0x9020
     let clash := post.rails.any (fun q => q != k && post.num (O.railPmbusAddr k) != 0xFF &&
       ((post.num (O.railPmbusAddr q) == post.num (O.railPmbusAddr k) && post.num (O.railPage q) == post.num (O.railPage k)) ||
        (post.num (O.railRailKind q) == 1 && post.num (O.railRailKind k) == 1)))
     if clash then some 0x9005
     else if post.procRail.isNone ∧ post.num O.procProcPoint ≠ 2 then some 0x9006 else none)
  else if ix = 0x9002 ∧ sub = 1 then
    (if post.procRail.isNone ∧ post.num O.procProcPoint ≠ 2 then some 0x9006
     else if post.num O.procProcPoint < pre.num O.procProcPoint then poolCode pre post (post.num O.procProcPoint) none else none)
  else none

/-- What a commit of area 0x9000 changes at once: PROC_POINT while the ledger moves the point (R440, R441). Manual control ends the
ledger's steps of the point (log entry 184); a return from it moves the domain back to PROC_POINT. -/
def State.area9Apply (s : State) (pre : State) : State :=
  let s1 := s.derateCheck 1
  if s1.flag O.procManualDvfs then
    (if pre.flag O.procManualDvfs then s1 else (s1.setPwr { s1.pwr with shed := s1.pwr.shed.filter (fun p => p.1 != 3) }).shedObj)
  else if pre.flag O.procManualDvfs ∨ pre.num O.procProcPoint ≠ s1.num O.procProcPoint then
    (let s2 := s1.setPwr { s1.pwr with heldF := none, heldV := none, shed := s1.pwr.shed.filter (fun p => p.1 != 3) }
     if s2.chip = 0 then (s2.startPoint (s2.num O.procProcPoint) 1).shedObj else s2)
  else s1

end Sys2Proof.Machine
end

