-- ==== Sys2Proof/Machine/Keys.lean ====
section
/-! DEFINITION. Life cycle, key slots and attestation (R453–R466, R481, R482). -/

namespace Sys2Proof.Machine

/-- Key slot n. -/
def State.key (s : State) (n : Nat) : KeySlot := tget keyDefault s.upd.keys n
/-- Stores key slot n. -/
def State.setKey (s : State) (n : Nat) (k : KeySlot) : State := s.setUpd { s.upd with keys := tset keyDefault s.upd.keys n k }

/-- The USE_MASTERS bit of the master a session acts for: M0 for mailbox sessions, M3 for UDP sessions (R458). -/
def masterOf (slot : Nat) : Nat := if slot < 4 then 2 else 1

/-- Whether slot m lies below slot n in the wrapping tree; `fuel` bounds the walk. -/
def State.keyUnder (s : State) (n : Nat) : Nat → Nat → Bool
  | 0, _ => false
  | fuel + 1, m => let p := (s.key m).parent; m != n && decide (8 ≤ m) && (p == n || (p != m && s.keyUnder n fuel p))

/-- The descendants of slot n that hold key material. -/
def State.descendants (s : State) (n : Nat) : List Nat :=
  (List.range 256).filter (fun m => s.keyUnder n 256 m && ((s.key m).state == 1 || (s.key m).state == 2))

/-- Every descendant of slot n is orphaned; answers how many. -/
def State.orphan (s : State) (n : Nat) : Nat × State :=
  let l := s.descendants n
  (l.length, l.foldl (fun (x : State) m => x.setKey m { x.key m with state := 4 }) s)

/-- A pending key is discarded with a cause (R463). -/
def State.dropPend (s : State) (n cause : Nat) : State :=
  let k := s.key n
  if k.pend.isNone then s
  else (s.setKey n { k with pend := none, state := if k.state = 2 then 1 else k.state }).raise 0xB006 (p8 n ++ p8 cause)

/-- Slot n is erased and invalidated, its descendants orphaned (R464). -/
def State.invalidateKey (s : State) (n : Nat) : State :=
  let s1 := s.dropPend n 3
  let s2 := (List.range 256).foldl (fun (x : State) m =>
    match (x.key m).pend with | some p => if p.parent = n then x.dropPend m 3 else x | none => x) s1
  let (c, s3) := s2.orphan n
  (s3.setKey n { s3.key n with state := 3, key := [] }).raise 0xB004 (p8 n ++ p16 c)

/-- Usable slots of ROLE 3 with USE_LIFECYCLE bit 2. -/
def State.ownerSlots (s : State) : List Nat :=
  (List.range 256).filter (fun n => let k := s.key n; (k.state == 1 || k.state == 2) && k.role == 3 && bitOf k.cycles 2)

/-- A write of INVALIDATE (R464, R465): the status and the state. -/
def State.invalidateWrite (s : State) (n v : Nat) : Nat × State :=
  if n < 8 then (0xB007, s)
  else if v = 0 then (0, s)
  else
    let s1 := s.invalidateKey n
    if s.upd.lc = 2 ∧ (s1.ownerSlots.filter (fun m => (s1.key m).masters % 8 != 0)).isEmpty then (0xB006, s) else (0, s1)

/-- LC_CHALLENGE. -/
def State.lcChallenge (s : State) : List Byte := Config.freeBytes s.upd.lcNo 16

/-- The challenge changes after every LC_REQUEST write. -/
def State.lcRoll (s : State) : State := { s with upd := { s.upd with lcNo := s.free }, free := s.free + 1 }

/-- A transition takes place, with event 0xB001. -/
def State.lcTo (s : State) (v : Nat) : State :=
  (s.setUpd { s.upd with lc := v }).raise 0xB001 (p8 s.upd.lc ++ p8 v)

/-- Bytes [a, a + n) of a byte string. -/
def sub_ (b : List Byte) (a n : Nat) : List Byte := (b.drop a).take n

/-- Whether a token's form and signatures are right for this device (R455). -/
def State.tokenOk (s : State) (b : List Byte) : Bool :=
  let body := b.take 64
  let i := ofBe (sub_ b 5 1)
  ofBe (b.take 4) == 0x514C4354 && ofBe (sub_ b 6 2) == 0 && decide (i < 4) && !bitOf s.upd.revoked i &&
  sub_ b 8 16 == s.fuses.serial && sub_ b 24 16 == s.lcChallenge && ofBe (sub_ b 40 24) == 0 &&
  Config.verifySig i false body (sub_ b 64 384) && Config.verifySig i true body (sub_ b 448 16224)

/-- The effects of the fused state, applied again at every start (R455, Table 16-2): in Returned slot 8 is invalidated. Those of Decommissioned
stand: it holds no key, image or setting. -/
def State.fusedEffects (s : State) : State :=
  if s.upd.lc = 3 ∧ ((s.key 8).state = 1 ∨ (s.key 8).state = 2) then s.invalidateKey 8 else s

/-- Entry to Decommissioned: every key slot, image slot and settings bank is erased, slot 0 is underivable (R456). -/
def State.decommission (s : State) : State :=
  (s.setUpd { s.upd with keys := [], slots := [], banks := [], rootBlown := true }).lcTo 4

/-- A write of LC_REQUEST (R455, Table 16-2): the status and the state. -/
def State.lcRequestWrite (s : State) (b : List Byte) : Nat × State :=
  let (st, s1) : Nat × State :=
    if b.length = 1 then
      (let t := ofBe b
       if t = 2 ∧ s.upd.lc = 1 then
         (if ((s.ownerSlots).filter (fun n => (s.key n).state == 1 || (s.key n).state == 2)).isEmpty then (0xB006, s) else (0, s.lcTo 2))
       else if t = 4 ∧ s.upd.lc ≠ 4 then (0, s.decommission)
       else (0xB001, s))
    else if b.length = 16672 then
      (let t := ofBe (sub_ b 4 1)
       if ¬((t = 1 ∧ s.upd.lc = 0) ∨ (t = 3 ∧ s.upd.lc = 2)) then (0xB001, s)
       else if !s.tokenOk b then (0xB002, s)
       else if t = 1 then (0, s.lcTo 1) else (0, (s.lcTo 3).invalidateKey 8))
    else (0xB001, s)
  (st, s1.lcRoll)

/-- A write of LOAD (R461, R463): the status and the state. -/
def State.loadWrite (s : State) (slot n : Nat) (b : List Byte) : Nat × State :=
  if n < 8 then (0xB007, s)
  else match Config.oaepOpen b with
    | none => (0xB003, s)
    | some m =>
      let kind := ofBe (sub_ m 1 1)
      let parent := ofBe (sub_ m 2 1)
      let gen := ofBe (sub_ m 8 4)
      if m.length ≠ 60 ∨ ofBe (m.take 1) ≠ n ∨ sub_ m 12 16 ≠ s.fuses.serial ∨ (kind ≠ 4 ∧ kind ≠ 5) ∨ ofBe (sub_ m 6 2) ≠ 0 ∨
          gen ≠ (s.key n).gen + 1 then (0xB003, s)
      else
        let okParent := if n = 8 then decide (parent = 0) && !s.upd.rootBlown
          else decide (8 ≤ parent) && parent != n && !s.keyUnder n 256 parent && (s.key parent).kind == 4 && s.keyUsable parent (masterOf slot)
        if !okParent then (0xB004, s)
        else
          let s1 := s.dropPend n 2
          let k := s1.key n
          let p : PendKey := ⟨kind, parent, ofBe (sub_ m 3 1), ofBe (sub_ m 4 1), ofBe (sub_ m 5 1), gen, sub_ m 28 32, s1.now⟩
          (0, (s1.setKey n { k with pend := some p, state := if k.state = 1 then 2 else k.state }).raise 0xB002 (p8 n ++ p32 gen))

/-- A write of VERIFY (R462): the status and the state. -/
def State.verifyWrite (s : State) (n : Nat) (b : List Byte) : Nat × State :=
  match (s.key n).pend with
  | none => (0xB005, s)
  | some p =>
    if hmacSha384 p.key (ascii "key verify" ++ s.fuses.serial ++ p8 n ++ p32 p.gen) ≠ b then (0xB005, s)
    else
      let k : KeySlot := { kind := p.kind, state := 1, parent := p.parent, masters := p.masters, cycles := p.cycles, role := p.role,
                           check := (hmacSha384 p.key (ascii "key check")).take 8, gen := p.gen, key := p.key, pend := none }
      (0, (s.setKey n k).raise 0xB003 (p8 n ++ p32 p.gen))

/-- PENDING_KEY_TIMEOUT (R463). -/
def execPendingKeyTimeout (n : Fin 256) (at_ : Nat) (s0 : State) : Res :=
  let s := s0.toTick at_
  match (s.key n).pend with
  | some p => if s.now < p.at_ + 600 * tickS then .next s else .next (s.dropPend n 1)
  | none => .next s

/-- The integrity tag of slot n fails (R460). -/
def State.tagFail (s : State) (n : Nat) : State :=
  let k := s.key n
  if k.state ≠ 1 ∧ k.state ≠ 2 then s
  else
    let (c, s1) := s.orphan n
    ((s1.setKey n { s1.key n with state := 5 }).raise 0xB005 (p8 n ++ p16 c)).report 384 0xB005

/-- KEY_PATROL (R460), every 24 h of operating time. -/
def execKeyPatrol (failed : List (Fin 256)) (at_ : Nat) (s0 : State) : Res :=
  .next (failed.foldl (fun (x : State) n => x.tagFail n.val) (s0.toTick at_))

/-- Whether Table 16-4 lets a master make an access to T6, or to T7 when `flash`. -/
def State.accessAllowed (s : State) (m : Nat) (flash : Bool) (a : Nat) : Bool :=
  let jtag := s.upd.lc == 0 || s.upd.lc == 3
  if flash then
    (if m = 2 then true else if m = 3 then a == 0 || a == 3 else if m = 7 then jtag else false)
  else
    (if m = 1 then a == 0 else if m = 2 then true else if m = 3 then a == 0 || a == 1 else if m = 7 then jtag && a == 0 else false)

/-- KEY_STORE_ACCESS_REFUSED (R459): a refused access reads 0, discards its write and raises event 0xB009. -/
def execKeyStoreAccessRefused (master : Fin 8) (flash : Bool) (access : Fin 4) (s : State) : Res :=
  if s.accessAllowed master flash access then .next s
  else .next (s.raise 0xB009 (p8 master ++ p8 (if flash then 7 else 6)))

/-! ### Attestation (R481) -/

/-- Code of the variant in an attestation body. -/
def variantCode : Variant → Nat | .a => 0 | .m => 1 | .t => 2

/-- An image slot. -/
def State.img (s : State) (k : Nat) : ImgSlot := tget imgEmpty s.upd.slots k
/-- Stores an image slot. -/
def State.setImg (s : State) (k : Nat) (v : ImgSlot) : State := s.setUpd { s.upd with slots := tset imgEmpty s.upd.slots k v }

/-- A byte string held to n bytes. -/
def fitBytes (n : Nat) (b : List Byte) : List Byte := (b ++ List.replicate n 0).take n

/-- The signatures of an attestation body by slots 2 and 3: 384 and 16,224 bytes (R481, R455). -/
def reportSigs (body : List Byte) : List Byte := fitBytes 16608 (Config.signReport body)

/-- The attestation body (Table 16-9). -/
def State.attestBody (s : State) (nonce : List Byte) : List Byte :=
  let run := s.upd.booted
  let oth := 1 - run
  let attrs := (List.range 256).flatMap (fun n =>
    let k := s.key n
    p8 k.state ++ p8 k.kind ++ p8 k.parent ++ p8 k.role ++ p8 k.masters ++ p8 k.cycles ++ p32 k.gen)
  p32 0x51415454 ++ p16 1 ++
  (p8 s.upd.lc ++ p8 (variantCode s.fuses.variant) ++ p8 (s.num 0x100102) ++ p8 s.upd.active ++ p8 s.upd.rollback ++ p8 (b2n s.upd.trial)) ++
  s.fuses.serial ++ p32 (s.img run).info.fw ++ p32 (s.img oth).info.fw ++ fitBytes 48 (s.img run).info.hash ++ fitBytes 48 (s.img oth).info.hash ++
  sha384 attrs ++ p16 s.compatActive ++ p16 (tget bankBlank s.upd.banks s.upd.active).fmt ++ p96 s.pt96 ++ nonce ++
  List.replicate 28 0

/-- A write of ATTEST_NONCE (R481): the status and the state. -/
def State.attestWrite (s : State) (slot : Nat) (nonce : List Byte) : Nat × State :=
  if !s.keyUsable 2 (masterOf slot) || !s.keyUsable 3 (masterOf slot) then (0xB008, s)
  else (0, s.setUpd { s.upd with attests := s.upd.attests ++ [(slot, nonce, s.now)] })

/-- ATTEST_REPORT_READY (R481): the oldest report asked for is signed. -/
def execAttestReportReady (at_ : Nat) (s0 : State) : Res :=
  let s := s0.toTick at_
  match s.upd.attests with
  | [] => .next s
  | (slot, nonce, _) :: rest =>
    let body := s.attestBody nonce
    .next (s.setUpd { s.upd with attests := rest, reports := tset noBytes s.upd.reports slot (body ++ reportSigs body) })

end Sys2Proof.Machine
end

