-- ==== Sys2Proof/Machine/Update.lean ====
section
/-! DEFINITION. Images, settings banks and field update (R467–R480), as the dictionary and the start use them. -/

namespace Sys2Proof.Machine

/-- What an image's header says (Table 16-6). -/
def headerInfo (b : List Byte) : ImgInfo :=
  ⟨ofBe (sub_ b 8 4), ofBe (sub_ b 12 1), ofBe (sub_ b 14 2), ofBe (sub_ b 16 2), ofBe (sub_ b 18 2), sub_ b 32 48⟩

/-- The result of verifying an image: the first check of Table 16-7 that fails, 1 where all pass (R469). -/
def State.imageResult (s : State) (b : List Byte) : Nat :=
  let len := ofBe (sub_ b 20 4)
  let i := ofBe (sub_ b 13 1)
  let rsa := sub_ b 80 384
  let slh := sub_ b 464 48
  let head := b.take 512
  if ofBe (b.take 4) ≠ 0x514E4946 ∨ ofBe (sub_ b 4 2) ≠ 1 ∨ b.length ≠ 20480 + len ∨ 33554432 < b.length then 2
  else if !bitOf (ofBe (sub_ b 6 2)) (variantCode s.fuses.variant) then 3
  else if 4 ≤ i ∨ Config.romKeyHash i ≠ sha384 (rsa ++ slh) ∨ bitOf s.upd.revoked i then 4
  else if !Config.verifyWith false rsa head (sub_ b 512 384) then 5
  else if !Config.verifyWith true slh head (sub_ b 896 16224) then 6
  else if sha384 (b.drop 20480) ≠ sub_ b 32 48 then 7
  else if ofBe (sub_ b 12 1) < s.upd.rollback then 8
  else 1

/-! ### Settings banks (R474) -/

/-- Keys of the carried set (R474): DEVICE_INDEX, MESH_SIZE, TWIN_ROLE, COMPAT_LEVEL and area 0xE000. -/
def carried (k : Nat) : Bool :=
  k == O.meshDeviceIndex || k == O.meshMeshSize || k == O.twinTwinRole || k == O.compatCompatLevel || areaOf (keyIx k) == 0xEFFF

/-! ### Download (R475, R476) -/

/-- An update request is refused, with event 0xD008. -/
def State.updRefuse (s : State) (code : Nat) : Nat × State := (code, s.raise 0xD008 (p16 code))

/-- The refusal of R476 that binds a download and ACTIVATE. -/
def State.updBar (s : State) : Option Nat :=
  if s.twin.role ≠ 0 ∧ s.twin.gate ∧ !s.flag O.twinPartnerHealthy then some 0xD001
  else if s.flag O.pwrSupplyDerated then some 0xD002
  else if s.flag 0xD00106 then some 0xD003
  else none

/-- Whether a trial or an activation runs. -/
def State.updBusy (s : State) : Bool := s.upd.trial || s.upd.act.isSome

/-- UPDATE_STATE changes. -/
def State.setUst (s : State) (v : Nat) : State := s.setUpd { s.upd with ust := v }

/-- Bytes of a download not yet programmed: the flash takes 2 MB/s, one byte in 400 ticks. -/
def State.imgBuffered (s : State) : Nat := s.upd.buf - (s.now - s.upd.bufAt) / 400

/-- A segment of IMAGE (R475, R476): the status and the state. -/
def State.imageSegment (s : State) (offset : Nat) (data : List Byte) (fin : Bool) : Nat × State :=
  let k := 1 - s.upd.active
  let bar := if offset = 0 then (match s.updBar with | some c => some c | none => if s.updBusy then some 0xD005 else none) else none
  match bar with
  | some c => s.updRefuse c
  | none =>
    let level := s.imgBuffered
    if 1048576 < level + data.length then (0xD006, s)
    else
      let x := s.img k
      let image := if offset = 0 then data else x.image ++ data
      let s1 := s.setImg k { x with state := 5, reject := if offset = 0 then 0 else x.reject, image := image }
      let s2 := s1.setUpd { s1.upd with ust := 1, buf := level + data.length, bufAt := s1.now }
      (0, if fin then s2.setUpd { s2.upd with ust := 2 } else s2)

/-- IMAGE_VERIFIED (R475). -/
def execImageVerified (at_ : Nat) (s0 : State) : Res :=
  let s := s0.toTick at_
  if s.upd.ust ≠ 2 then .next s
  else
    let k := 1 - s.upd.active
    let x := s.img k
    let r := s.imageResult x.image
    let s1 := s.setImg k { x with state := if r = 1 then 4 else 3, reject := if r = 1 then 0 else r, info := headerInfo x.image }
    .next (((s1.setUst (if r = 1 then 3 else 4)).setNum 0xD00103 r).raise 0xD001 (p8 k ++ p8 r))

/-! ### Activation and confirmation (R476–R480) -/

/-- The COMPAT_LEVEL a settings bank stores, if any. -/
def Bank.level (b : Bank) : Option Nat := (tfind b.vals O.compatCompatLevel).map Val.toNat

/-- Whether an image finds a bank of another format, or one whose level lies below its COMPAT_LEVEL_MIN (R71, R474). -/
def Bank.foreign (b : Bank) (i : ImgInfo) : Bool :=
  b.fmt != i.fmt || (match b.level with | some l => decide (l < i.cmin) | none => false)

/-- A bank is prepared for the image that enters it (R474); answers whether defaults replace the running sets. -/
def State.prepareBank (s : State) (from_ to_ : Nat) : Bool × State :=
  let old := (tget bankBlank s.upd.banks from_).settle (s.now + tickS)
  let fmt := (s.img to_).info.fmt
  let fresh := old.foreign (s.img to_).info
  let vals := if fresh then old.vals.filter (fun p => carried p.1) else old.vals
  (fresh, (s.setBank from_ old).setBank to_ ⟨fmt, vals, []⟩)

/-- A write of ACTIVATE (R476, R477): the status and the state. -/
def State.activateWrite (s : State) (v : Nat) : Nat × State :=
  let k := 1 - s.upd.active
  if v = 0 then (0, s)
  else
    match s.updBar with
    | some c => s.updRefuse c
    | none =>
      if (s.img k).state ≠ 4 then s.updRefuse 0xD004
      else if s.updBusy then s.updRefuse 0xD005
      else if (s.img k).info.fmt ≠ (tget bankBlank s.upd.banks s.upd.active).fmt ∧ s.twin.gate then s.updRefuse 0xD007
      else
        let from_ := s.upd.active
        let (fresh, s1) := s.prepareBank from_ k
        let s2 := s1.setImg k { s1.img k with state := 2 }
        let s3 := s2.setUpd { s2.upd with active := k, trialStarts := 0, ust := 5, act := some ⟨0, from_, k, s2.now, 0, fresh⟩ }
        (0, s3.raise 0xD003 (p8 from_ ++ p8 k))

/-- CONFIRM_LEFT in seconds (R478). -/
def State.confirmLeft (s : State) : Nat :=
  if s.upd.trial then s.upd.trialTime - (s.now - s.upd.trialAt) / tickS else 0

/-- A write of CONFIRM (R478): the status and the state. The first write of a trial counts. -/
def State.confirmWrite (s : State) (v : Nat) : Nat × State :=
  if v = 0 then (0, s)
  else if !s.upd.trial then (0xD008, s)
  else if s.confirmLeft = 0 then (0, s)
  else if s.upd.confirmAt ≠ 0 then (0, s)
  else (0, s.setUpd { s.upd with confirmAt := s.now + 1 })

/-- TRIAL_CONFIRMATION (R478, R479): a processor that does not answer breaks the 10 s of health. -/
def execTrialConfirmation (answers : Bool) (at_ : Nat) (s0 : State) : Res :=
  let s := s0.toTick at_
  let u := s.upd
  if u.trial && !answers then .next (s.setUpd { u with healthAt := s.now })
  else
  let since := max (max u.trialAt u.healthAt) (if u.trialHost then u.confirmAt - 1 else 0)
  if !u.trial || u.act.isSome || s.flt.safe || s.heldList.any (fun p => p.2.sev == 3) ||
      (u.trialHost && u.confirmAt == 0) || decide (s.now < since + 10 * tickS) || s.confirmLeft == 0 || u.fallBack != 0 then .next s
  else
    let k := u.booted
    let x := s.img k
    let s1 := s.setImg k { x with state := 1 }
    let s2 := s1.setUpd { s1.upd with trial := false, trialStarts := 0, ust := 0 }
    let old := s2.upd.rollback
    let s3 := if old < x.info.sec then
        (s2.setUpd { s2.upd with rollback := min 63 x.info.sec }).raise 0xD009 (p8 old ++ p8 (min 63 x.info.sec)) else s2
    let o := 1 - k
    let y := s3.img o
    let s4 := if y.state ≠ 0 ∧ y.info.sec < s3.upd.rollback then s3.setImg o { y with state := 3, reject := 8 } else s3
    .next (s4.raise 0xD005 (p8 k ++ p32 x.info.fw))

/-- A fall-back's event and report (R480, Table 16-13). -/
def State.fallEvent (s : State) (cause from_ to_ : Nat) : State :=
  let a := (s.img from_).info
  let b := (s.img to_).info
  let s1 := (s.setUpd { s.upd with fallbacks := (s.upd.fallbacks + 1) % 2 ^ 32 }).raise 0xD006
    (p8 cause ++ p8 from_ ++ p8 to_ ++ p32 a.fw ++ p32 b.fw ++ p16 a.fmt ++ p16 b.fmt ++ p8 s.upd.rollback)
  s1.report 416 0xD006

/-- A running fall-back begins (R480): the previous slot becomes active, the trial slot is rejected; a holder with a healthy partner
first hands the Baton over. -/
def State.fallBegin (s : State) (cause : Nat) : State :=
  if !s.upd.trial ∨ s.upd.act.isSome then s
  else
    let from_ := s.upd.booted
    let to_ := 1 - from_
    let s1 := s.fallEvent cause from_ to_
    let s2 := s1.setImg from_ { s1.img from_ with state := 3 }
    s2.setUpd { s2.upd with active := to_, ust := 7, fallBack := cause, act := some ⟨cause, from_, to_, s2.now, 0, true⟩,
                             handing := s2.twin.role != 0 && s2.twin.gate && s2.flag O.twinPartnerHealthy }

end Sys2Proof.Machine
end

