-- ==== Sys2Proof/Machine/View.lean ====
section
/-! DEFINITION. What a read of a dictionary object finds: the staged value, the pending value of take state, or the running value
(Table 0-6), where the running value of many R objects is computed from the machine at the read. -/

namespace Sys2Proof.Machine

/-! ### Flow entries (Table 4-12, R133, R144) -/

/-- Fields of receive flow entry r: offset, bytes, value. Path A of a pair is its lower-numbered context. -/
def State.rxEntry (s : State) (r : Nat) : List (Nat × Nat × Nat) :=
  let a := s.rxLead r
  let x := s.rx r
  let y := s.rx a
  let upB := match s.rxPartner a with | some q => (s.rx q).up | none => false
  let w0 := b2n (flowValid (s.rxFlow r)) * 2 ^ 31 + b2n y.active * 2 ^ 30 + b2n y.up * 2 ^ 29 + b2n upB * 2 ^ 28 +
    b2n y.over_ * 2 ^ 27 + x.lane % 128 * 2 ^ 16
  let own (v : Nat) : Nat := if a = r then v else 0
  [(0, 4, w0), (4, 4, twos 32 y.skew), (8, 8, x.packets), (0x10, 4, own y.lost), (0x14, 4, own y.recovered), (0x18, 4, own y.dups),
   (0x1C, 4, own y.late), (0x20, 4, own y.mismatch)]

/-- Fields of send flow entry c. -/
def State.txEntry (s : State) (c : Nat) : List (Nat × Nat × Nat) :=
  let x := s.tx c
  [(0, 4, b2n (flowValid (s.txFlow c)) * 2 ^ 31 + b2n (x.sending && s.txRuns c) * 2 ^ 30), (8, 8, x.packets), (0x10, 4, x.discarded)]

/-- A flow entry as the 64 bytes of its STATUS object, each field in network order. -/
def entryBytes (l : List (Nat × Nat × Nat)) : List Byte :=
  l.foldl (fun (b : List Byte) e => b.take e.1 ++ beBytes e.2.1 e.2.2 ++ b.drop (e.1 + e.2.1)) (List.replicate 64 0)

/-- The 32-bit word at an offset of a flow entry. -/
def entryWord (l : List (Nat × Nat × Nat)) (off : Nat) : Nat :=
  match l.find? (fun e => decide (e.1 ≤ off) && decide (off < e.1 + e.2.1)) with
  | some e => e.2.2 / 2 ^ (8 * (off - e.1)) % 2 ^ 32
  | none => 0

/-! ### Faults -/

/-- Highest severity of held sources, 0xFF where none is held. -/
def highestOf (l : List (Nat × SrcSt)) : Nat := if l.isEmpty then 0xFF else (l.map (fun p => p.2.sev)).foldl max 0

/-- The held sources of class c. -/
def State.heldClass (s : State) (c : Nat) : List (Nat × SrcSt) := s.heldList.filter (fun p => p.1 / 32 == c)

/-! ### Sessions and staged sets -/

/-- Staged values of an area, those still incomplete among them. -/
def State.stagedKeys (s : State) (a : Nat) : List Nat :=
  sortNat (((tkeys s.dict.staged).filter (fun k => areaOf (keyIx k) == a)) ++
    ((tkeys s.dict.domBuf).filter (fun k => areaOf (keyIx k) == a && (match objDef (keyIx k) (keySub k) with
      | some d => d.acc == .rws | none => false))))

/-- STAGE_OWNER: the session that owns an area's staged set. -/
def State.stageOwner (s : State) (a : Nat) : Nat := tget ownerNone s.dict.owners a

/-- Session objects (Table 2-9). -/
def State.viewSession (s : State) (i sub : Nat) : Val :=
  let x := s.sess i
  match sub with
  | 1 => .num x.id
  | 2 => .num x.role
  | 3 => .num (if i < 4 ∨ x.id = 0 then 0 else 1)
  | 4 => .oct x.peer
  | 5 => .num x.opened
  | _ => .num 0

/-- START_TIMES (Table 17-4): ms from the release of RESET_N to the entry of phases 0–6. -/
def State.startTimes (s : State) : List Byte :=
  (List.range 7).flatMap (fun p =>
    let t := tget zeroNat s.upd.phaseAt p
    beBytes 4 (if t = 0 then 0xFFFFFFFF else (t - 1) / tickMs))

/-- Key slot objects (Table 16-3). -/
def State.viewKey (s : State) (n sub : Nat) : Val :=
  let k := s.key n
  match sub with
  | 1 => .num k.kind
  | 2 => .num k.state
  | 3 => .num k.parent
  | 4 => .num k.masters
  | 5 => .num k.cycles
  | 6 => .num k.role
  | 7 => .oct k.check
  | 8 => .num k.gen
  | _ => .num 0

/-- Image slot objects. -/
def State.viewImg (s : State) (n sub : Nat) : Val :=
  let x := s.img n
  match sub with
  | 1 => .num x.state
  | 2 => .num x.info.fw
  | 3 => .num x.info.sec
  | 4 => .num x.info.fmt
  | 5 => .num x.info.cmin
  | 6 => .num x.info.cmax
  | 7 => .oct x.info.hash
  | _ => .num x.reject

/-- Recorder objects computed at the read. -/
def State.viewRec (s : State) (slot sub : Nat) : Val :=
  match sub with
  | 3 => .num s.recOldest
  | 4 => .num s.evr.seq
  | 5 => .num (s.sess slot).recCursor
  | 6 => .oct (s.recReadFrom (s.sess slot).recCursor).1
  | 7 => .num (s.evr.dropped % 2 ^ 32 : Nat)
  | 8 => .oct s.evr.challenge
  | 10 => .num s.evr.state
  | 11 => .num s.evr.cycles
  | 12 => .num s.opTime
  | 13 => .num s.evr.backlog
  | _ => s.obj (objKey 0xA800 sub)

/-- Update and direction objects (Tables 16-10 to 16-12). -/
def State.viewUpd (s : State) (ix sub : Nat) : Val :=
  if ix = 0xD001 then
    (match sub with
     | 1 => .num s.upd.ust
     | 2 => .oct (s.img (1 - s.upd.active)).image
     | 9 => .num s.confirmLeft
     | _ => s.obj (objKey ix sub))
  else if ix = 0xD020 then
    (match sub with
     | 1 => .num s.upd.active
     | 2 => .num s.upd.trialStarts
     | 3 => .num (tget bankBlank s.upd.banks s.upd.active).fmt
     | 4 => .num s.upd.fallbacks
     | 5 => .num s.upd.rollback
     | _ => s.obj (objKey ix sub))
  else s.viewImg (ix - 0xD010) sub

/-- Journal entries from a cursor: whole entries up to 1,024 bytes in network order, and the cursor after them (R237). -/
def State.journalFrom (s : State) (cursor : Nat) : List Nat × Nat :=
  let seq := s.ess.takes.jseq
  let back := (seq + 2 ^ 32 - cursor) % 2 ^ 32
  let n0 := if back ≤ 8192 then back else 8192
  let first := (seq + 2 ^ 32 - n0) % 2 ^ 32
  let n := min 16 n0
  ((List.range n).map (fun i => (first + i) % 2 ^ 32), (first + n) % 2 ^ 32)

/-- An entry's 64 bytes with its fields in network order; it stands in Window A with its fields least significant byte first. -/
def State.journalEntry (s : State) (seq : Nat) : List Byte :=
  let b := s.bytesAt (0x100000 + 64 * (seq % 8192)) 64
  let f (i n : Nat) : List Byte := ((b.drop i).take n).reverse
  f 0 4 ++ f 4 2 ++ f 6 1 ++ f 7 1 ++ f 8 4 ++ f 12 4 ++ f 16 4 ++ f 20 4 ++ f 24 4 ++ f 28 1 ++ f 29 1 ++ f 30 2 ++ f 32 12 ++ f 44 12 ++
    f 56 4 ++ f 60 4

/-- The running value of an object as a session of slot `slot` reads it. -/
def State.running (s : State) (slot k : Nat) : Val :=
  let ix := keyIx k
  let sub := keySub k
  if areaCtls.contains ix then
    (if sub = 4 then .num (s.stagedKeys ix).length else if sub = 5 then .num (s.stageOwner ix) else s.obj k)
  else if 0x0100 ≤ ix ∧ ix ≤ 0x0123 then s.viewSession (ix - 0x0100) sub
  else if k = O.poolPoolPoint then .num (s.num O.procProcPointActive)
  else if k = O.startStartTimes then .oct s.startTimes
  else if k = O.timePtNow then .num s.pt96
  else if k = O.timeUtcOffset then .num s.utcOffset
  else if 0x2010 ≤ ix ∧ ix ≤ 0x201D ∧ sub = 0x25 then .num (s.wtrLeft (ix - 0x2010))
  else if 0x3880 ≤ ix ∧ ix ≤ 0x38BF then .oct (entryBytes (s.rxEntry ((ix - 0x3880) * 128 + (sub - 1))))
  else if 0x38C0 ≤ ix ∧ ix ≤ 0x38FF then .oct (entryBytes (s.txEntry ((ix - 0x38C0) * 128 + (sub - 1))))
  else if 0x5100 ≤ ix ∧ ix ≤ 0x51FF ∧ (sub = 1 ∨ sub = 3 ∨ sub = 9 ∨ sub = 10 ∨ sub = 16) then
    (let n := ix - 0x5100
     match sub with
     | 1 => .num (s.slotKind n)
     | 3 => .num (s.slotOrigin n)
     | 9 => .num (s.slotRate n (s.slotRaster n))
     | 10 => .num (mkSid (if 240 ≤ n then 15 else s.devIndex) n 0 0)
     | _ => .num (s.slotAlignMode n))
  else if 0x6000 ≤ ix ∧ ix ≤ 0x607F ∧ sub = 1 then .num (s.outputKind (ix - 0x6000))
  else if ix = 0x6201 ∧ sub = 3 then .oct ((s.journalFrom (s.num O.journalJournalCursor)).1.flatMap (fun q => s.journalEntry q))
  else if 0x9100 ≤ ix ∧ ix ≤ 0x915F ∧ sub = 0x10 then .num (s.lanePower (ix - 0x9100))
  else if k = O.fltHeldCount then .num s.heldList.length
  else if k = O.fltHighest then .num (highestOf s.heldList)
  else if 0xA010 ≤ ix ∧ ix ≤ 0xA01F then
    (let l := s.heldClass (ix - 0xA010)
     match sub with
     | 1 => .num (highestOf l)
     | 2 => .num l.length
     | _ => .num (b2n (s.classUnacked (ix - 0xA010))))
  else if 0xA100 ≤ ix ∧ ix ≤ 0xA2FF ∧ sub = 7 then .num (min 65535 (s.windowCount (ix - 0xA100)))
  else if 0xA400 ≤ ix ∧ ix ≤ 0xA41F then .num (s.reg (0x050000 + 0x10 * (ix - 0xA400) + 4 * (sub - 1)))
  else if ix = 0xA800 then s.viewRec slot sub
  else if ix = 0xB001 then
    (match sub with
     | 1 => .num s.upd.lc
     | 2 => .oct s.lcChallenge
     | _ => .num s.upd.revoked)
  else if ix = 0xB002 then (if sub = 1 then .oct s.upd.identity else .oct (tget noBytes s.upd.reports slot))
  else if 0xB100 ≤ ix ∧ ix ≤ 0xB1FF then s.viewKey (ix - 0xB100) sub
  else if k = O.twinWtrLeft then
    .num (if s.twin.wtrAt = 0 then 0 else ceilDiv (s.twin.wtrAt - 1 + s.twin.wtrFor * tickS - s.now) tickS)
  else if ix = 0xD001 ∨ ix = 0xD010 ∨ ix = 0xD011 ∨ ix = 0xD020 then s.viewUpd ix sub
  else s.obj k

/-- A pending value of take state: what the R221 write that waits for output o's switching line sets (R48, R221). -/
def State.pendingTake (s : State) (o sub : Nat) : Option Nat :=
  let l := (s.ess.takes.batches.filter (fun b => b.rwt)).flatMap (fun b => b.recs.filter (fun r => r.rec_.output == o))
  (l.filterMap (fun r =>
    if sub = 1 then (if r.rec_.setVideo then some r.rec_.video else none)
    else if sub = 2 then (if r.rec_.setAnc then some r.rec_.anc else none)
    else if sub = 3 then (if r.rec_.setTc then some r.rec_.tc else none)
    else if 4 ≤ sub ∧ sub ≤ 0x83 then (r.chans.find? (fun c => c.1 == sub - 4)).map Prod.snd
    else if sub = 0x84 then some r.rec_.trans else none)).getLast?

/-- What a READ finds (Table 0-6). -/
def State.readVal (s : State) (slot k : Nat) : Val :=
  let ix := keyIx k
  match tfind s.dict.staged k with
  | some v => v
  | none =>
    if 0x6100 ≤ ix ∧ ix ≤ 0x617F then
      (match s.pendingTake (ix - 0x6100) (keySub k) with
       | some v => .num v
       | none => s.obj k)
    else s.running slot k

end Sys2Proof.Machine
end

