-- ==== Sys2Proof/Machine/Dict.lean ====
section
/-! DEFINITION. The dictionary engine: the checks of a record in the order of R520, staging, reads, DESCRIBE, subscriptions, and how
a record runs inside its message (R40–R67). -/

namespace Sys2Proof.Machine

/-! ### What a variant has (Table 0-3, R3) -/

/-- Whether an index lies in a range of n indexes from a. -/
def ixIn (ix a n : Nat) : Bool := decide (a ≤ ix ∧ ix < a + n)

/-- Whether the variant enables the resource that an index names (R3, Tables 0-3 and 9-1). -/
def variantHas (v : Variant) (ix : Nat) : Bool :=
  let small := v == .t
  if ixIn ix 0x3000 96 then decide (ix - 0x3000 < variantLanes v)
  else if ixIn ix 0x3400 96 then decide (ix - 0x3400 < variantLanes v)
  else if ixIn ix 0x9100 96 then decide (ix - 0x9100 < variantLanes v)
  else if ixIn ix 0x5100 96 then decide (ix - 0x5100 < variantLanes v)
  else if ixIn ix 0x5200 96 then decide (ix - 0x5200 < variantLanes v)
  else if ixIn ix 0x6000 96 then decide (ix - 0x6000 < variantLanes v)
  else if ixIn ix 0x6100 96 then decide (ix - 0x6100 < variantLanes v)
  else if ixIn ix 0x6060 32 || ixIn ix 0x6160 32 then !small
  else if ixIn ix 0x4000 0xFFF && small then false
  else if ixIn ix 0x4100 128 then decide (ix - 0x4100 < variantFabric v)
  else if ixIn ix 0x4010 12 then decide (ix - 0x4010 < variantMesh v)
  else if ixIn ix 0x0A10 8 || ixIn ix 0x8000 0xFFF then !small
  else if ixIn ix 0x7810 16 then decide (ix - 0x7810 < variantEngines v)
  else if ixIn ix 0x7C00 96 then !small || decide (ix - 0x7C00 < 12)
  else if ixIn ix 0x7C80 96 then !small || decide (ix - 0x7C80 < 12)
  else if ixIn ix 0x7D00 32 then !small || decide (ix - 0x7D00 < 4)
  else if ixIn ix 0x7E00 16 then !small || decide (ix - 0x7E00 < 2)
  else true

/-! ### Ranges (R48, R520) -/

/-- Whether a value lies in a Range column. A SID is judged by its chapter's own code (R217, R240, R258, R264), not here. -/
def rngOk (r : Rng) (v : Val) : Bool :=
  let n := v.toInt
  let b := v.bytes
  match r with
  | .any => true
  | .btw lo hi => decide (lo ≤ n ∧ n ≤ hi)
  | .stp lo hi st => decide (lo ≤ n ∧ n ≤ hi) && (n - lo) % st == 0
  | .btwOr lo hi other => decide (lo ≤ n ∧ n ≤ hi) || n == other
  | .oneOf l => l.contains n
  | .lenBtw lo hi => decide (lo ≤ b.length ∧ b.length ≤ hi)
  | .lens l => l.contains b.length
  | .lens32 => decide (32 ≤ b.length ∧ b.length ≤ 1024) && b.length % 32 == 0
  | .fmt => n == 0 || fmtValid n.toNat
  | .sid _ => true
  | .sidPair => true
  | .mac => b.length == 6
  | .puntRing => puntBytesOk b

/-- Whether the fields of a byte record lie in their ranges, for the indexes whose value is a record. -/
def recordOk (ix : Nat) (b : List Byte) : Bool :=
  if ixIn ix 0x3800 64 then rxBytesOk b
  else if ixIn ix 0x3840 64 then txBytesOk b
  else if ixIn ix 0x7A00 128 then nodeBytesOk b
  else if ixIn ix 0x7B00 256 then edgeBytesOk b
  else if ixIn ix 0x7C00 96 then destBytesOk b
  else if ixIn ix 0x8100 4 then layerBytesOk b
  else true

/-- Whether a value lies outside the range the object had at the pinned level (R70). -/
def State.pinRange (s : State) (k : Nat) (v : Val) : Bool :=
  !s.unpinned && keyIx k != 0x1010 && !Config.rangeAtLevel k s.compatActive v.toInt v.bytes

/-! ### The checks of R520 -/

/-- The first code of a list that is not 0. -/
def firstBad : List Nat → Nat
  | [] => 0
  | c :: l => if c = 0 then firstBad l else c

/-- Whether an object is not present at the pinned level (R70). -/
def State.pinnedAway (s : State) (k : Nat) : Bool :=
  !s.unpinned && keyIx k != 0x1010 && decide (s.compatActive < Config.introducedAt k)

/-- Check 2: existence, and presence at the pinned level. -/
def State.existCode (s : State) (ix sub : Nat) : Nat :=
  if !ixExists ix then 0x0003
  else if (objDef ix sub).isNone then 0x0004
  else if s.pinnedAway (objKey ix sub) then 0x0008 else 0

/-- Check 4 of a read: R40. -/
def State.readRoleCode (s : State) (slot : Nat) (ix : Nat) (d : ObjDef) : Nat :=
  if (d.readRole || areaOf ix == 0xBFFF) && decide ((s.sess slot).role < d.role) then 0x0006 else 0

/-- Check 5: the device's state (R56, R432, R57). -/
def State.stateCode (s : State) (area : Nat) : Nat :=
  if s.flt.safe && area != 0xAFFF && area != 0xCFFF then 0x0009
  else if s.num O.pwrChipState ≠ 0 ∧ area ≠ 0x9FFF ∧ area ≠ 0xAFFF ∧ area ≠ 0xBFFF then 0x9002
  else if areaMirrored area && s.twinRefuses then 0x000D else 0

/-- Check 6: ownership of an area's staged set (R49). -/
def State.ownCode (s : State) (slot area : Nat) : Nat :=
  let o := s.stageOwner area
  if o ≠ 0 ∧ o ≠ (s.sess slot).id then 0x000B else 0

/-- Whether ORIGIN of a physical slot is the lane itself, not writable (Table 1-5): its lane is in SDI mode or off, and no value staged for
LANE_MODE makes it an Ethernet lane (log entry 162). -/
def State.originFixed (s : State) (p : Nat) : Bool :=
  s.laneOn p && s.laneMode p != 2 && (match tfind s.dict.staged (O.sdiLaneMode p) with | some v => v.toNat != 2 | none => true)

/-- Check 3 of a write: a read-only object, the SLOT_ENABLE of a generator slot (R22), or the ORIGIN of a physical slot in SDI mode. -/
def State.accessCode (s : State) (ix sub : Nat) (d : ObjDef) : Nat :=
  if d.acc = .r ∨ (ixIn ix 0x51F0 16 && sub == 2) ∨ (ixIn ix 0x5100 96 && sub == 3 && s.originFixed (ix - 0x5100)) then 0x0005 else 0

/-- Checks 2 to 6 of a write of an object. -/
def State.writeCode (s : State) (slot ix sub : Nat) (d : ObjDef) : Nat :=
  firstBad [s.existCode ix sub, s.accessCode ix sub d, if (s.sess slot).role < d.role then 0x0006 else 0, s.stateCode (areaOf ix),
    if d.acc = .rws then s.ownCode slot (areaOf ix) else 0]

/-- Check 8. -/
def State.rangeCode (s : State) (k : Nat) (d : ObjDef) (v : Val) : Nat :=
  if !rngOk d.rng v || !recordOk (keyIx k) v.bytes || s.pinRange k v then 0x0001 else 0

/-- Check 9: capacity of the staged set (R49). -/
def State.capCode (s : State) (k : Nat) : Nat :=
  let l := s.stagedKeys (areaOf (keyIx k))
  if decide (16384 ≤ l.length) && !l.contains k then 0x000C else 0

/-- A row whose object does not exist, for records that name none. -/
def noRow : ObjDef := ⟨0, 0, 0, 0, "", .u8, .r, 0, false, .num 0, .any, .none⟩

/-- Checks 2 to 10 of a WRITE, but for those the object's own hook makes: the code, and the value written. -/
def State.writeCheck (s : State) (slot ix sub ty : Nat) (value : List Byte) : Nat × Val :=
  let d := (objDef ix sub).getD noRow
  let k := objKey ix sub
  let v := decodeVal d.ty value
  let x := v.getD (.num 0)
  (firstBad [s.writeCode slot ix sub d, if ty ≠ tyCode d.ty ∨ v.isNone then 0x0002 else 0, s.rangeCode k d x,
    if d.acc = .rws then s.capCode k else 0, if d.acc ≠ .rws ∧ !variantHas s.fuses.variant ix then 0x0007 else 0], x)

/-! ### Staging (R48, R49) -/

/-- A value joins its area's staged set, which the session owns from then on. -/
def State.stage (s : State) (slot k : Nat) (v : Val) : State :=
  { s with dict := { s.dict with
      staged := tput s.dict.staged k v
      domBuf := tdel s.dict.domBuf k
      owners := tset ownerNone s.dict.owners (areaOf (keyIx k)) (s.sess slot).id } }

/-- An area's staged set is emptied. -/
def State.clearStage (s : State) (a : Nat) : State :=
  { s with dict := { s.dict with
      staged := s.dict.staged.filter (fun p => areaOf (keyIx p.1) != a)
      domBuf := s.dict.domBuf.filter (fun p => !(s.stagedKeys a).contains p.1)
      owners := tset ownerNone s.dict.owners a 0 } }

/-! ### Reads (R40, R44) -/

/-- Every subindex of an index. -/
def subsOf (ix : Nat) : List Nat := sortNat ((rowsOfIx ix).flatMap (fun d => (List.range d.m).map (fun i => d.sub + i)))

/-- Checks 2 to 4 of a READ, SUBSCRIBE or segment read. -/
def State.readCode (s : State) (slot ix sub : Nat) : Nat :=
  let d := (objDef ix sub).getD noRow
  firstBad [s.existCode ix sub, if d.acc = .wo then 0x0005 else 0, s.readRoleCode slot ix d]

/-- The cursors that a read moves (R237, R426). -/
def State.afterRead (s : State) (slot k : Nat) : State :=
  if k = 0x620103 then s.setNum O.journalJournalCursor (s.journalFrom (s.num O.journalJournalCursor)).2
  else if k = 0xA80006 then
    (let x := s.sess slot
     s.setSess slot { x with recCursor := (s.recReadFrom x.recCursor).2 })
  else s

/-- The response record of a read of one subindex, and the state after it. -/
def State.readOne (s : State) (slot ix sub : Nat) : RespRec × State :=
  let d := (objDef ix sub).getD noRow
  let c := s.readCode slot ix sub
  if c ≠ 0 then (⟨1, 0, ix, sub, c, []⟩, s)
  else
    let b := encodeVal d.ty (s.readVal slot (objKey ix sub))
    if 65535 < b.length then (⟨1, 0, ix, sub, 0x0002, []⟩, s)
    else (⟨1, tyCode d.ty, ix, sub, 0, b⟩, s.afterRead slot (objKey ix sub))

/-- The subindices that a record with SUB 0x00 names: those that are present and not write-only (R44). -/
def State.openSubs (s : State) (ix : Nat) : List Nat :=
  (subsOf ix).filter (fun n => !s.pinnedAway (objKey ix n) && ((objDef ix n).getD noRow).acc != .wo)

/-- A READ record. -/
def State.doRead (s : State) (slot ix sub : Nat) : List RespRec × State :=
  if sub ≠ 0 then (let (r, s1) := s.readOne slot ix sub; ([r], s1))
  else if !ixExists ix then ([⟨1, 0, ix, 0, 0x0003, []⟩], s)
  else if (subsOf ix).all (fun n => s.pinnedAway (objKey ix n)) then ([⟨1, 0, ix, 0, 0x0008, []⟩], s)
  else (s.openSubs ix).foldl (fun (p : List RespRec × State) n =>
    let (r, s1) := p.2.readOne slot ix n
    (p.1 ++ [r], s1)) ([], s)

/-- A READ_SEGMENT record: the offset and up to 4,096 bytes of a DOMAIN from it. -/
def State.doReadSeg (s : State) (slot ix sub off : Nat) : List RespRec × State :=
  let d := (objDef ix sub).getD noRow
  let c := firstBad [s.readCode slot ix sub, if d.ty ≠ .domain then 0x0002 else 0]
  let b := (s.readVal slot (objKey ix sub)).bytes
  if c ≠ 0 then ([⟨7, 0, ix, sub, c, []⟩], s)
  else if b.length < off then ([⟨7, 0, ix, sub, 0x000A, []⟩], s)
  else ([⟨7, 13, ix, sub, 0, beBytes 4 off ++ (b.drop off).take 4096⟩], s)

/-! ### DESCRIBE (Table 2-6) -/

/-- Smallest and largest value of a number type. -/
def tyBounds : Ty → Int × Int
  | .bool => (0, 1) | .u8 => (0, 255) | .u16 => (0, 65535) | .u32 => (0, 2 ^ 32 - 1) | .u64 => (0, 2 ^ 64 - 1)
  | .i32 => (-(2 ^ 31), 2 ^ 31 - 1) | .i64 => (-(2 ^ 63), 2 ^ 63 - 1) | .q16 => (-(2 ^ 31), 2 ^ 31 - 1)
  | .ts80 => (0, (2 ^ 48 - 1) * 2 ^ 32 + 999999999) | .pt96 => (0, 2 ^ 96 - 1) | _ => (0, 0)

/-- Minimum and maximum of a row. -/
def rngBounds (t : Ty) : Rng → Int × Int
  | .btw lo hi => (lo, hi) | .stp lo hi _ => (lo, hi) | .btwOr lo hi o => (min lo o, max hi o)
  | .oneOf l => (l.foldl min (l.headD 0), l.foldl max (l.headD 0))
  | .fmt => (0, 0x0708) | _ => tyBounds t

/-- A 12-byte field: the encoding right-aligned, its sign filled to the left. -/
def field12 (t : Ty) (v : Int) : List Byte :=
  match tyLen t with
  | none => List.replicate 12 0
  | some n => if tySigned t then beBytes 12 (twos 96 v) else List.replicate (12 - n) 0 ++ beBytes n (twos (8 * n) v)

/-- The default an object has at the active level (R70). -/
def State.levelDefault (s : State) (k : Nat) : Val :=
  if s.unpinned || keyIx k == 0x1010 then objDefault s.fuses k
  else match objDefault s.fuses k with
    | .num _ => .num (Config.defaultAtLevel k s.compatActive)
    | .oct _ => .oct (Config.bytesAtLevel k s.compatActive)

/-- At a level below the running image's each object that `own` names holds the default it had at that level (R70). -/
def State.levelDefaults (s : State) (own : Nat → Bool) : State :=
  if s.unpinned then s
  else (List.range 65536).foldl (fun (x : State) ix =>
    if ix = 0x1010 then x
    else (rowsOfIx ix).foldl (fun (y : State) d =>
      if d.acc == .rw || d.acc == .rws || d.acc == .rwt then
        ((List.range d.m).filter (fun i => own (objKey ix (d.sub + i)))).foldl (fun (z : State) i =>
          z.setObj (objKey ix (d.sub + i)) (z.levelDefault (objKey ix (d.sub + i)))) y
      else y) x) s

/-- The default DESCRIBE shows: COMPAT_LEVEL has that of Table 2-14, ORIGIN of a physical slot that of its mode (R21). -/
def State.defaultNow (s : State) (k : Nat) : Int :=
  if k = O.compatCompatLevel then (s.num O.compatCompatLevelMax : Nat)
  else if ixIn (keyIx k) 0x5100 96 && keySub k == 3 && s.laneMode (keyIx k - 0x5100) == 2 then 0xFFFF
  else (s.levelDefault k).toInt

/-- The bounds DESCRIBE shows: COMPAT_LEVEL lies between COMPAT_LEVEL_MIN and COMPAT_LEVEL_MAX (Table 2-14). -/
def State.boundsNow (s : State) (k : Nat) (d : ObjDef) : Int × Int :=
  if k = O.compatCompatLevel then ((s.num O.compatCompatLevelMin : Nat), (s.num O.compatCompatLevelMax : Nat)) else rngBounds d.ty d.rng

/-- Codes of access and effective point. -/
def accNo : Acc → Nat | .r => 0 | .rw => 1 | .rws => 2 | .rwt => 3 | .wo => 4
/-- Effective code. -/
def effNo : Eff → Nat | .none => 0 | .immediate => 1 | .areaEnable => 2 | .switchingLine => 3 | .nextStart => 4 | .named => 5

/-- The role a staged set's ENABLE needs: the highest among the area's staged objects (Table 2-2). -/
def State.enableRole (s : State) (a : Nat) : Nat :=
  ((s.stagedKeys a).map (fun k => ((objDef (keyIx k) (keySub k)).getD noRow).role)).foldl max 0

/-- The role DESCRIBE shows: an ENABLE object's is that of what is staged (Table 2-2). -/
def State.describeRole (s : State) (k : Nat) (d : ObjDef) : Nat :=
  if areaCtls.contains (keyIx k) && keySub k == 1 then s.enableRole (keyIx k) else d.role

/-- The DESCRIBE value of an object. -/
def State.describe (s : State) (k : Nat) (d : ObjDef) : List Byte :=
  let (lo, hi) := s.boundsNow k d
  [BitVec.ofNat 8 (tyCode d.ty), BitVec.ofNat 8 (accNo d.acc), BitVec.ofNat 8 (s.describeRole k d + (if d.readRole then 128 else 0)),
   BitVec.ofNat 8 (effNo d.eff)] ++ beBytes 2 (Config.introducedAt k) ++ beBytes 2 (Config.unitCode k).toNat ++
  field12 d.ty (s.defaultNow k) ++ field12 d.ty lo ++ field12 d.ty hi

/-- A DESCRIBE record. -/
def State.doDescribe (s : State) (ix sub : Nat) : List RespRec :=
  let one (n : Nat) : RespRec :=
    let c := s.existCode ix n
    if c ≠ 0 then ⟨0x0B, 0, ix, n, c, []⟩
    else ⟨0x0B, 11, ix, n, 0, s.describe (objKey ix n) ((objDef ix n).getD noRow)⟩
  if sub ≠ 0 then [one sub]
  else if !ixExists ix then [⟨0x0B, 0, ix, 0, 0x0003, []⟩]
  else if (subsOf ix).all (fun n => s.pinnedAway (objKey ix n)) then [⟨0x0B, 0, ix, 0, 0x0008, []⟩]
  else ((subsOf ix).filter (fun n => !s.pinnedAway (objKey ix n))).map one

/-! ### Subscriptions (R66, R67) -/

/-- Checks of SUBSCRIBE and UNSUBSCRIBE of an object or of all its subindices. -/
def State.subCode (s : State) (slot ix sub : Nat) : Nat :=
  if sub ≠ 0 then s.readCode slot ix sub
  else if !ixExists ix then 0x0003
  else if (subsOf ix).all (fun n => s.pinnedAway (objKey ix n)) then 0x0008 else 0

/-- The objects a subscription key covers for a session. -/
def State.subCovers (s : State) (slot k : Nat) : List Nat :=
  if keySub k ≠ 0 then [keySub k] else (s.openSubs (keyIx k)).filter (fun n => s.readCode slot (keyIx k) n == 0)

/-- A SUBSCRIBE record: its status and the state. -/
def State.doSubscribe (s : State) (slot ix sub : Nat) (value : List Byte) : Nat × State :=
  let k := objKey ix sub
  let mode := ofBe (value.take 1)
  let iv := ofBe (value.drop 2)
  let others := s.dict.subs.filter (fun x => !(x.slot == slot && x.key == k))
  let c := firstBad [s.subCode slot ix sub, if value.length ≠ 4 then 0x0002 else 0,
    if mode < 1 ∨ 3 < mode ∨ ofBe ((value.drop 1).take 1) ≠ 0 ∨ iv < 10 ∨ 60000 < iv then 0x0001 else 0,
    if 1024 ≤ (others.filter (fun x => x.slot == slot)).length ∨ 8192 ≤ others.length then 0x000F else 0]
  if c ≠ 0 then (c, s)
  else
    let known := (s.subCovers slot k).map (fun n => (n, 0, s.pt96, s.readVal slot (objKey ix n)))
    (0, { s with dict := { s.dict with subs := others ++ [⟨slot, k, mode, iv, s.now, known⟩] } })

/-- An UNSUBSCRIBE record: its status and the state. -/
def State.doUnsubscribe (s : State) (slot ix sub : Nat) : Nat × State :=
  let c := s.subCode slot ix sub
  if c ≠ 0 then (c, s)
  else (0, { s with dict := { s.dict with subs := s.dict.subs.filter (fun x => !(x.slot == slot && x.key == objKey ix sub)) } })

/-- Whether subscription x owes a notification of subindex n now (R66, R67): a change in mode 1, a commit of the object's area in
mode 2, its period in mode 3, and never within its interval. -/
def State.notifDue (s : State) (x : Subscr) (n : Nat) : Bool :=
  match x.known.find? (fun e => e.1 == n) with
  | none => false
  | some (_, sent, pt, v) =>
    let k := objKey (keyIx x.key) n
    let area := areaOf (keyIx k)
    let rested := sent == 0 || decide (sent - 1 + x.interval * tickMs ≤ s.now)
    if x.mode = 1 then rested && (decide (pt < tget chgNone s.chg k) || s.readVal x.slot k != v)
    else if x.mode = 2 then rested && area != 0 && decide (pt < s.num (objKey area 7))
    else decide ((if sent = 0 then x.at_ else sent - 1) + x.interval * tickMs ≤ s.now)

/-- The bytes of a notification message of a session. -/
def State.notifBytes (s : State) (slot seq : Nat) (ov : Bool) (n : Notif) : List Byte :=
  msgBytes 3 (s.sess slot).id seq (if ov then 2 else 0) [⟨9, n.ty, keyIx n.key, keySub n.key, 0, beBytes 12 n.pt ++ n.value⟩]

/-- The oldest queued notification of a mailbox session is placed once its buffer is free and no response waits for it (R65); while a
request is executed, BUSY being 1, its response is one that waits: DESIGN CHOICE, log entry 165. -/
def State.mbxNotify (s : State) (n : Nat) : State :=
  let x := s.sess n
  if s.mbxHeld n || bitOf (s.reg (rMbx n + 4)) 31 then s
  else
    match x.queue with
    | [] => s
    | q :: rest =>
      let (f, s1) := s.freeNat
      (s1.setSess n { x with queue := rest, overflow := false }).mbxPlace n true (s1.notifBytes n f x.overflow q)

/-- A queue without its oldest notification of an object that a later one names too; none where every object is named once. -/
def coalesced : List Notif → Option (List Notif)
  | [] => none
  | a :: l => if l.any (fun b => b.key == a.key) then some l else (coalesced l).map (fun r => a :: r)

/-- A notification leaves: over UDP at once; on the mailbox it queues, where beyond 256 the oldest are coalesced per object (R67); where
every object is queued once, the oldest is dropped: DESIGN CHOICE, log entry 25. -/
def State.sendNotif (s : State) (slot : Nat) (n : Notif) : State :=
  let x := s.sess slot
  if 4 ≤ slot then
    (let (f, s1) := s.freeNat
     (s1.setSess slot { x with overflow := false }).sendUdp slot (s1.notifBytes slot f x.overflow n))
  else
    let q := x.queue ++ [n]
    if q.length ≤ 256 then (s.setSess slot { x with queue := q }).mbxNotify slot
    else
      ((s.setSess slot { x with queue := (coalesced q).getD (q.drop 1), overflow := true }).raise 0x0005 (p32 x.id)).mbxNotify slot

/-- The Pacer time of the latest change of an object, for a notification: its stamp; an object that keeps none, a view the device
computes, changed at a time no rule states, a free value up to now and, where its value differs from the one known at `pt`, after that. -/
def State.changeTime (s : State) (k pt : Nat) (moved : Bool) : Nat × State :=
  let at_ := tget chgNone s.chg k
  if at_ ≠ 0 then (at_, s)
  else
    let (f, s1) := s.freeNat
    (if moved then pt + f % (s.pt96 - pt + 1) else f % (s.pt96 + 1), s1)

/-- NOTIFY (R66, R67): the notification of an object that a session of slot `slot` subscribed to falls due. -/
def State.doNotify (s : State) (slot k : Nat) : State :=
  match s.dict.subs.find? (fun x => x.slot == slot && (x.key == k || x.key == objKey (keyIx k) 0) && s.notifDue x (keySub k)) with
  | none => s
  | some x =>
    let v := s.readVal slot k
    let d := (objDef (keyIx k) (keySub k)).getD noRow
    let old := x.known.find? (fun e => e.1 == keySub k)
    let p := s.changeTime k ((old.map (fun e => e.2.2.1)).getD 0) ((old.map (fun e => decide (e.2.2.2 ≠ v))).getD false)
    let known := x.known.map (fun e => if e.1 = keySub k then (e.1, s.now + 1, s.pt96, v) else e)
    let s0 := p.2
    let s1 := { s0 with dict := { s0.dict with subs := s0.dict.subs.map (fun y => if y = x then { y with known := known } else y) } }
    s1.sendNotif slot ⟨k, p.1, tyCode d.ty, encodeVal d.ty v⟩

/-! ### The end of a session (R63) -/

/-- Areas whose staged set a session owns. -/
def State.ownedAreas (s : State) (id : Nat) : List Nat := (s.dict.owners.filter (fun p => p.2 == id)).map Prod.fst

/-- A session slot's session ends with cause 0 CLOSE, 1 timeout or 2 CLOSE_NOW: its staged sets are discarded, its subscriptions
removed; what its records wait for still takes effect, unanswered, and those held behind a waiting one do not run. The device sends no CLOSE
message of its own: DESIGN CHOICE, log entry 166. -/
def State.endSession (s : State) (i cause : Nat) : State :=
  let x := s.sess i
  if x.id = 0 then s
  else
    let s1 := (s.ownedAreas x.id).foldl (fun (y : State) a => (y.clearStage a).raise 0x0004 (p32 x.id ++ p16 (areaBase a) ++ p8 1)) s
    let s2 := { s1 with
      dict := { s1.dict with
        subs := s1.dict.subs.filter (fun y => y.slot != i)
        waits := s1.dict.waits.map (fun (w : Waiter) => if w.slot = i then { w with slot := 36 } else w)
        blocked := s1.dict.blocked.filter (fun p => p.1 != i)
        mbxWait := tset noWait s1.dict.mbxWait i [] }
      upd := { s1.upd with
        reports := tset noBytes s1.upd.reports i []
        attests := s1.upd.attests.filter (fun a => a.1 != i) } }
    let s3 := if i < 4 then s2.setReg (rMbx i + 4) (setFld (s2.reg (rMbx i + 4)) 31 31 0) else s2
    (s3.setSess i Session.free).raise 0x0002 (p32 x.id ++ p8 cause)

/-! ### How a record runs (R44–R47, R62) -/

/-- Whether the control plane takes sessions: start phases 4 and 5 (Table 17-2). -/
def State.dictOn (s : State) : Bool := s.started

/-- A message or record held for the end of a control-plane pause (R47): at most 256 messages; over UDP later datagrams are dropped. -/
def State.holdRec (s : State) (slot : Nat) (first : Bool) (c : Instr) : State :=
  let u := s.upd
  if first && decide (4 ≤ slot) && decide (256 ≤ u.heldMsgs) then { s with upd := { u with heldDrop := true } }
  else if !first && u.heldDrop then s
  else { s with upd := { u with heldRecs := u.heldRecs ++ [c], heldMsgs := u.heldMsgs + b2n first, heldDrop := false } }

/-- The record that begins a new message of a session. -/
def State.beginMsg (s : State) (c : Ctx) : State :=
  let i := c.slot.val
  let x := s.sess i
  s.setSess i { x with lastSeq := some c.seq.toNat, cache := [], details := [], failed := false, running := true, lastHeard := s.now }

/-- The response records of a record that does nothing but answer a status: its own, or those of its form (Table 2-7). -/
def aloneRecs (c : Ctx) (short : Nat → List RespRec) (st : Nat) : List RespRec :=
  match c.form with
  | .opcode op ix sub => [⟨op.toNat, 0, ix.toNat, sub.toNat, st, []⟩]
  | .empty => []
  | _ => short st

/-- A record that runs; `short` answers it with a status alone, and `deny` is what one refused for its form leaves behind. What it does
gives its response records; the message ends with its last record. A malformed record is refused before anything else of it is checked
(R520). -/
def State.runRec (s : State) (c : Ctx) (short : Nat → List RespRec) (deny : State → State) (body : State → List RespRec × State) : State :=
  let i := c.slot.val
  let skip := c.stop && (s.sess i).failed
  let p : List RespRec × State :=
    if skip then (aloneRecs c short 0x00FF, s) else if c.form = .good then body s
    else (aloneRecs c short 0x000E, if c.form = .malformed then deny s else s)
  let rs := p.1
  let s1 := p.2
  let x := s1.sess i
  let bad := rs.any (fun r => r.status != 0)
  let open_ := x.lastSeq == some c.seq.toNat && x.running
  if !open_ then s1
  else
    let s2 := s1.setSess i { x with cache := x.cache ++ rs, failed := x.failed || bad, running := !c.last }
    if c.last then s2.finishMsg i else s2

/-- A record or message of session slot i is held behind the records that wait (R45, R52; log entry 23). -/
def State.holdBehind (s : State) (i : Nat) (self : Instr) : State :=
  { s with dict := { s.dict with blocked := s.dict.blocked ++ [(i, self)] } }

/-- A record of a session's message: it is held in a pause, and behind a record that waits, so that records run in the order of their
arrival (R45, R52; log entry 23); it is answered from the cache when its message was already executed (R62),
and otherwise runs. A record of no open session, or of no message that has begun, executes nothing (R43). -/
def State.withRec (s : State) (c : Ctx) (self : Instr) (short : Nat → List RespRec) (deny : State → State)
    (body : State → List RespRec × State) : State :=
  let i := c.slot.val
  let x := s.sess i
  if x.id = 0 then s
  else if s.upd.paused then (s.setSess i { x with lastHeard := s.now }).holdRec i c.first self
  else if !s.dict.waits.isEmpty then
    (s.setSess i { x with lastHeard := s.now }).holdBehind i self
  else if c.first && x.lastSeq == some c.seq.toNat && !x.running then
    (s.setSess i { x with lastHeard := s.now }).finishMsg i
  else if c.first then (s.beginMsg c).runRec c short deny body
  else if x.running && x.lastSeq == some c.seq.toNat then s.runRec c short deny body
  else s

/-- One response record with a status alone. -/
def answer1 (op ix sub : Nat) (p : Nat × State) : List RespRec × State := ([⟨op, 0, ix, sub, p.1, []⟩], p.2)

end Sys2Proof.Machine
end

