-- ==== Sys2Proof/Machine/Commit.lean ====
section
/-! DEFINITION. The hurdle, commits and linked commits (R49–R54), commits that wait for subscriptions (R202) or for the twin
partner (R375), and what a commit changes at once. -/

namespace Sys2Proof.Machine

/-! ### The hurdle (R50) -/

/-- The code of an object of area 0x6000: the output's own checks, then the scaler pool for a raster a converter makes; an audio map's
entries are SIDs of class 1 (R240). -/
def area6Issue (pre post : State) (ix sub : Nat) : Option Nat :=
  if ixIn ix 0x6000 128 then
    (let o := ix - 0x6000
     match outIssue ethFits pre post o sub with
     | some c => some c
     | none =>
       match (List.range 16).find? (fun c => post.num (O.convOutput c) == o) with
       | some c =>
         if sub = 2 then firstCode [if compPagesCover pre post then none else some 0x8008,
           poolCode pre post (poolPoint pre post) (some (512 + c))]
         else none
       | none => none)
  else if ixIn ix 0x6400 1024 then
    (let x := post.num (objKey ix sub)
     if sidOk x && sidClass x == 1 then none else some 0x6003)
  else none

/-- The code of an object of area 0x1000: COMPAT_LEVEL in its range (R69). -/
def area1Issue (post : State) (k : Nat) : Option Nat :=
  if k = O.compatCompatLevel ∧ (post.num k < post.num O.compatCompatLevelMin ∨ post.num O.compatCompatLevelMax < post.num k) then some 0x1001
  else none

/-- The code of an object of area 0xA000: COUNT_SEVERITY below BASE_SEVERITY (R410, Table 14-7). -/
def areaAIssue (post : State) (ix sub : Nat) : Option Nat :=
  if ixIn ix 0xA100 512 && (sub == 1 || sub == 4) && decide (post.num (objKey ix 4) < post.num (objKey ix 1)) then some 0xA004 else none

/-- The code an area's own checks give one staged object; area 0x7800 is judged as a whole. -/
def ownIssue (pre post : State) (k : Nat) : Option Nat :=
  let ix := keyIx k
  let sub := keySub k
  match areaOf ix with
  | 0x0AFF => area0AIssue pre post ix sub
  | 0x1FFF => area1Issue post k
  | 0x2FFF => area2Issue pre post ix sub
  | 0x3FFF => area3Issue pre post ix sub
  | 0x4FFF => area4Issue pre post ix sub
  | 0x5FFF => area5Issue pre post ix sub
  | 0x6FFF => area6Issue pre post ix sub
  | 0x77FF => area7Issue pre post ix sub
  | 0x8FFF => area8Issue pre post ix sub
  | 0x9FFF => area9Issue pre post ix sub
  | 0xAFFF => areaAIssue post ix sub
  | _ => none

/-- Codes that say that a reference to another object or data-path element does not hold: check 3 of R50 (DEDUCED, log entry 167). -/
def refCodes : List Nat :=
  [0x2002, 0x2006, 0x3003, 0x3004, 0x3404, 0x3406, 0x340A, 0x5010, 0x6002, 0x6003, 0x7001, 0x7005, 0x7006, 0x8005, 0x8006, 0x8009]

/-- The check of R50 that a code belongs to: 2 a resource named that the variant lacks, 3 references, 4 the area's own and admission, 5 the pool; 6 is the
ledger. -/
def checkOf (code : Nat) : Nat := if code = 0x0007 then 2 else if refCodes.contains code then 3 else if code / 256 = 0x0A then 5 else 4

/-- The first check that a staged object fails, and its code. -/
def judge (pre post : State) (k : Nat) : Option (Nat × Nat) :=
  if pre.pinnedAway k then some (1, 0x0008)
  else if pre.pinRange k (post.obj k) then some (1, 0x0001)
  else if !variantHas pre.fuses.variant (keyIx k) then some (2, 0x0007)
  else (ownIssue pre post k).map (fun c => (checkOf c, c))

/-- The staged objects of an area, and those its commit judges besides. -/
def judged (pre post : State) (a : Nat) : List Nat :=
  let l := (tkeys pre.dict.staged).filter (fun k => areaOf (keyIx k) == a)
  if a = 0x3FFF ∧ !l.isEmpty then sortNat (l ++ post.area3Keys) else l

/-- ORIGIN of a physical slot whose lane changes its mode to or from Ethernet is at its default again, 0xFFFF or the lane, unless the
same step writes it (R21, Table 1-5). -/
def State.originsFollow (s pre : State) (written : Nat → Bool) : State :=
  (List.range 96).foldl (fun (x : State) p =>
    if (pre.laneMode p == 2) == (x.laneMode p == 2) || written (O.slotOrigin p) then x
    else x.setNum (O.slotOrigin p) (if x.laneMode p = 2 then 0xFFFF else p)) s

/-- The running sets as a chain of areas would leave them. -/
def State.chainPost (s : State) (areas : List Nat) : State :=
  let sets := s.dict.staged.filter (fun p => areas.contains (areaOf (keyIx p.1)))
  (sets.foldl (fun (x : State) p => x.setObj p.1 p.2) s).originsFollow s (fun k => (tfind sets k).isSome)

/-- What the checks find in an area: a finding of a staged object is the one reported; where no staged object fails, an object
that the commit leaves in an unallowed state is (R50). -/
def State.findings (s post : State) (a : Nat) : List (Nat × (Nat × Nat)) :=
  let fs := (judged s post a).filterMap (fun k => (judge s post k).map (fun p => (k, p)))
  let own := fs.filter (fun q => (tfind s.dict.staged q.1).isSome)
  if own.isEmpty then fs else own

/-- Failing objects by key: the first finding of an object stays. -/
def noteFail (t : Tbl (Nat × Nat)) (k : Nat) (p : Nat × Nat) : Tbl (Nat × Nat) := if (tfind t k).isSome then t else tput t k p

/-- The Stride set that a swap under way, or the active one, leaves in force. -/
def State.setAhead (s : State) : StrSet := match s.str.next with | some (x, _, _) => x | none => s.str.act

/-- The Stride set a chain would leave in force. -/
def chainSet (pre post : State) (areas : List Nat) : StrSet :=
  if areas.contains 0x7FFF && (tkeys pre.dict.staged).any (fun k => areaOf (keyIx k) == 0x7FFF) then (post.loadGraph pre).strTarget pre
  else pre.setAhead

/-- The streams of other devices that a chain's commit uses for tiles and Stride inputs, with their purposes (R202, R278, R321); an empty
staged set uses none (R54). -/
def chainUses (pre post : State) (areas : List Nat) : List (Nat × Nat) :=
  let live (a : Nat) : Bool := areas.contains a && (tkeys pre.dict.staged).any (fun k => areaOf (keyIx k) == a)
  let tiles := if live 0x8FFF then (List.range 8).flatMap (fun h => if post.headRuns h then post.headSids h else []) else []
  let ins := if live 0x7FFF then
      (chainSet pre post areas).banks.flatMap (fun b => b.2.inputs.filterMap (fun i =>
        match i with | .sid x => if pre.sidRemote x then some x else none | .pos _ _ => none))
    else []
  (sortNat ins).map (fun x => (x, 0)) ++ (sortNat tiles).map (fun x => (x, 2))

/-- Those of them that are not held. -/
def chainNeeds (pre post : State) (areas : List Nat) : List (Nat × Nat) :=
  (chainUses pre post areas).filter (fun q => (pre.heldFor q.1).isNone)

/-- The staged object a refused admission is put down to: the lowest of the area that needs the stream. -/
def needKey (pre : State) (purpose : Nat) : Nat :=
  let a := if purpose = 2 then 0x8FFF else 0x7FFF
  ((tkeys pre.dict.staged).find? (fun k => areaOf (keyIx k) == a)).getD 0

/-- The hurdle of a chain: every offending object with its check and code (R50, R53); the ledger's is put down to the lowest object that
passed the other checks. -/
def State.hurdle (s : State) (areas : List Nat) : Tbl (Nat × Nat) :=
  let post := s.chainPost areas
  let t1 := (areas.flatMap (fun a => s.findings post a)).foldl (fun (t : Tbl (Nat × Nat)) q => noteFail t q.1 q.2) []
  let k78 := judged s post 0x7FFF
  let t2 := if areas.contains 0x7FFF && !k78.isEmpty then
      (match area78Issue s post k78 with
       | some (c, ks) => (if ks.isEmpty then k78.take 1 else ks).foldl (fun (t : Tbl (Nat × Nat)) k => noteFail t k (checkOf c, c)) t1
       | none => t1)
    else t1
  let t3 := (chainNeeds s post areas).foldl (fun (t : Tbl (Nat × Nat)) q =>
    if (s.link (sidDev q.1)).up then t else noteFail t (needKey s q.2) (4, 0x4011)) t2
  match ledgerIssue s post s.setAhead (chainSet s post areas),
      (sortNat (areas.flatMap (fun a => judged s post a))).find? (fun k => (tfind t3 k).isNone) with
  | some c, some k => noteFail t3 k (6, c)
  | _, _ => t3

/-- The finding that decides an area's code: the first check that fails, and there the lowest object (R50). -/
def decide_ (t : Tbl (Nat × Nat)) (area : Nat) : Option (Nat × Nat) :=
  ((t.filter (fun p => areaOf (keyIx p.1) == area)).foldl (fun (b : Option (Nat × Nat × Nat)) p =>
    match b with
    | none => some (p.2.1, p.1, p.2.2)
    | some (c, _, _) => if p.2.1 < c then some (p.2.1, p.1, p.2.2) else b) none).map (fun q => (q.2.1, q.2.2))

/-! ### Commit (R51, R54) -/

/-- What a commit of one area changes at once. -/
def State.applyArea (s pre : State) (a : Nat) : Bool × State :=
  match a with
  | 0x0AFF => (false, s.area0AApply)
  | 0x2FFF => (false, s.area2Apply pre)
  | 0x3FFF => (false, s.area3Apply pre)
  | 0x4FFF => (false, s.area4Apply pre)
  | 0x5FFF => (false, s.area5Apply pre)
  | 0x6FFF =>
    (let s1 := (s.area6Apply pre).compApply
     let pt := s1.num O.procProcPointActive
     (false, if s1.fuses.variant = .t then s1 else s1.poolObjs (placeAfter pre s1 pt) pt))
  | 0x77FF => (false, s.area7Apply pre)
  | 0x7FFF => (s.loadGraph pre).loadSet pre
  | 0x8FFF => (false, s.area8Apply pre)
  | 0x9FFF => (false, s.area9Apply pre)
  | _ => (false, s)

/-- The order in which a chain's areas take effect within the one step. -/
def applyOrder : List Nat := [0x4FFF, 0x3FFF, 0x5FFF, 0x6FFF, 0x77FF, 0x7FFF, 0x0AFF, 0x8FFF, 0x2FFF, 0x9FFF]

/-- An area's set has replaced its running set: its objects and event 0x0010 (R51, R68). An empty set commits nothing (R54). -/
def State.noteCommit (s : State) (a session count : Nat) : State :=
  let s1 := (s.clearStage a).hurdleObjs a 0 0
  if count = 0 then s1
  else
    let s2 := (s1.bump (objKey a 6)).setNum (objKey a 7) s1.pt96
    s2.raise 0x0010 (p16 (areaBase a) ++ p32 session ++ p32 (s2.num (objKey a 6)))

/-- The staged sets of a chain replace the running sets in one step; answers whether a Stride swap is still to come. -/
def State.commitNow (s : State) (session : Nat) (areas : List Nat) : Bool × State :=
  let count (a : Nat) : Nat := ((tkeys s.dict.staged).filter (fun k => areaOf (keyIx k) == a)).length
  let live := areas.filter (fun a => count a != 0)
  let keys := live.flatMap (fun a => (tkeys s.dict.staged).filter (fun k => areaOf (keyIx k) == a))
  let away := s.twin.role != 0 && !s.twin.up && !s.twin.gate
  let lost := ((live.filter areaMirrored).map count).foldl (· + ·) 0
  let s1 := s.chainPost areas
  let s2 := areas.foldl (fun (x : State) a => x.noteCommit a session (count a)) s1
  let p := (applyOrder.filter (fun a => live.contains a)).foldl (fun (p : Bool × State) a =>
    let q := p.2.applyArea s a
    (p.1 || q.1, q.2)) (false, s2)
  let s3 := ((p.2.syncSubs).ledgerObjs).noteSince s
  (p.1, if away then { s3 with twin := { s3.twin with localChanges := s3.twin.localChanges + lost } } else s3)

/-! ### ENABLE (R49–R53) -/

/-- Checks 2 to 8 of an ENABLE record (R520): it names the ENABLE object of an area, which is a U8. -/
def State.enableCode (s : State) (slot : Nat) (e : EnRec) : Nat :=
  let a := e.area.toNat
  let v := ofBe e.value
  firstBad [s.existCode a e.sub.toNat, if areaCtls.contains a && e.sub == 1 then 0 else 0x0005,
    if (s.sess slot).role < s.enableRole a then 0x0006 else 0, s.stateCode a, s.ownCode slot a,
    if e.ty ≠ 2 ∨ e.value.length ≠ 1 then 0x0002 else 0, if v = 1 ∨ v = 2 then 0 else 0x0001]

/-- An ENABLE record as its area and its value. -/
def enPair (e : EnRec) : Nat × Nat := (e.area.toNat, ofBe e.value)

/-- Whether a chain is malformed (R53). -/
def chainBad (chain : List (Nat × Nat)) (dangling : Bool) : Bool :=
  dangling || decide (16 < chain.length) || decide ((sortNat (chain.map Prod.fst)).length ≠ chain.length)

/-- Whether commits of mirrored areas go over the twin link: this chip is the holder and the link is up (R375). -/
def State.mirrors (s : State) : Bool := s.twin.role != 0 && s.twin.gate && s.twin.up

/-- The holder announces the staged set of each mirrored area: COMMIT phase 1. -/
def State.mirrorSets (s : State) (areas : List Nat) : State :=
  (areas.filter areaMirrored).foldl (fun (x : State) a =>
    x.mirror 3 (beBytes 2 (areaBase a) ++ [1] ++ (s.dict.staged.filter (fun p => areaOf (keyIx p.1) == a)).flatMap (fun p =>
      let d := (objDef (keyIx p.1) (keySub p.1)).getD noRow
      (⟨2, tyCode d.ty, keyIx p.1, keySub p.1, 0, encodeVal d.ty p.2⟩ : RespRec).wire))) s

/-- The instants a holder chose for a commit: the commit's own, or the swap sample of area 0x7800 (R292, R375). -/
def State.instantOf (s : State) (a : Nat) : Nat :=
  match s.str.next with
  | some (_, n, _) => if a = 0x7FFF then n / 2 ^ 32 % 2 ^ 96 else s.pt96
  | none => s.pt96

/-- The holder sends its code and instants: COMMIT phase 2. -/
def State.mirrorCode (s : State) (a code : Nat) : State :=
  s.mirror 3 (beBytes 2 (areaBase a) ++ [2] ++ beBytes 2 code ++ (if code = 0 then beBytes 12 (s.instantOf a) else []))

/-- The codes of a chain's records: a record's own check first, then its area's hurdle, 0x00FE for the rest (R53). -/
def chainCodes (chain : List (Nat × Nat)) (recs : List Nat) (t : Tbl (Nat × Nat)) : List (Nat × Nat) :=
  (List.range chain.length).map (fun i =>
    let r := recs.getD i 0
    if r ≠ 0 then (r, 0)
    else match decide_ t (chain.getD i (0, 0)).1 with
      | some (k, c) => (c, k)
      | none => (0x00FE, 0))

/-- An ENABLE that ran no hurdle is refused: event 0x0011, with LAST_OBJECT as it stands (R68). -/
def State.recordRefused (s : State) (session a code : Nat) : State :=
  if areaCtls.contains a then s.noteRefused a session code (s.num (objKey a 3)) else s

/-- A chain is refused: the objects and events of the areas whose ENABLE ran, and the partner told to discard its copies. -/
def State.refuseChain (s : State) (session : Nat) (chain : List (Nat × Nat)) (recs : List Nat) (codes : List (Nat × Nat)) : State :=
  (List.range chain.length).foldl (fun (x : State) i =>
    let a := (chain.getD i (0, 0)).1
    let p := codes.getD i (0, 0)
    if recs.getD i 0 ≠ 0 then x.recordRefused session a p.1
    else
      let y := x.enableRefused a session p.1 p.2
      if areaMirrored a && (chain.getD i (0, 0)).2 == 1 then y.mirrorCode a p.1 else y) s

/-- The areas of a chain with value v. -/
def chainAreas (chain : List (Nat × Nat)) (v : Nat) : List Nat := (chain.filter (fun p => p.2 == v)).map Prod.fst

/-- Staged sets of areas with value 2 are discarded. -/
def State.discardSets (s : State) (l : List Nat) : State := l.foldl (fun (x : State) a => (x.clearStage a).hurdleObjs a 0 0) s

/-- A chain that passed takes effect: discards and commits in one step; the partner is told. Answers whether a swap is to come. -/
def State.commitChain (s : State) (session : Nat) (chain : List (Nat × Nat)) (mirrored : Bool) : Bool × State :=
  let areas := chainAreas chain 1
  let p := (s.discardSets (chainAreas chain 2)).commitNow session areas
  (p.1, if mirrored then (areas.filter areaMirrored).foldl (fun (x : State) a => x.mirrorCode a 0) p.2 else p.2)

/-- An incomplete DOMAIN in a staged set (R42). -/
def State.openDomain (s : State) (a : Nat) : Option Nat := (s.stagedKeys a).find? (fun k => (tfind s.dict.domBuf k).isSome)

/-- The requests a chain waits for: those it makes now, and those already under way. -/
def State.askChain (s : State) (needs : List (Nat × Nat)) : List (Nat × Nat) × State :=
  [0, 2].foldl (fun (p : List (Nat × Nat) × State) pp =>
    let want := (needs.filter (fun q => q.2 == pp)).map Prod.fst
    let fresh := (p.2.notHeld want).filter (fun x => (p.2.asked x).isNone)
    let already := (p.2.notHeld want).filterMap (fun x => (p.2.asked x).map (fun a => (sidDev x, a.reqId)))
    (sidRuns fresh).foldl (fun (q : List (Nat × Nat) × State) run =>
      let (r, s1) := q.2.askSub run.1 run.2 pp
      (q.1 ++ [(sidDev run.1, r)], s1)) (p.1 ++ already, p.2)) ([], s)

/-- Response records of a chain. -/
def chainRecs (op : Nat) (chain : List EnRec) (codes : List Nat) : List RespRec :=
  (List.range chain.length).map (fun i =>
    let e := chain.getD i ⟨0, 0, 0, []⟩
    ⟨op, 0, e.area.toNat, e.sub.toNat, codes.getD i 0, []⟩)

/-- A waiter for the swap of a chain's area 0x7800. -/
def swapWaiter (slot seq idx : Nat) (chain : List (Nat × Nat)) : Waiter :=
  ⟨[], slot, seq, idx + ((chain.map Prod.fst).idxOf 0x7FFF), 2, 0, 0, [], 0, []⟩

/-- The ENABLE records of one chain, `op` 3, or a WRITE of an area's ENABLE object, `op` 2. An area with an incomplete DOMAIN is refused
with 0x000A, the others by their own hurdles, each judged against the staged sets of all areas of the chain (R42, R53). -/
def State.doEnable (s : State) (c : Ctx) (op : Nat) (recs0 : List EnRec) (dangling : Bool) : List RespRec × State :=
  let chain := recs0.map enPair
  let slot := c.slot.val
  let seq := c.seq.toNat
  let idx := (s.sess slot).cache.length
  let id := (s.sess slot).id
  if chainBad chain dangling then
    (chainRecs op recs0 (List.replicate chain.length 0x000E), chain.foldl (fun (x : State) p => x.recordRefused id p.1 0x000E) s)
  else
    let recs := recs0.map (fun e => s.enableCode slot e)
    let ran := ((List.range chain.length).filter (fun i => recs.getD i 0 == 0)).map (fun i => chain.getD i (0, 0))
    let areas := chainAreas ran 1
    let part := areas.filterMap (fun a => (s.openDomain a).map (fun k => (k, (0, 0x000A))))
    let open_ := part.map (fun p => areaOf (keyIx p.1))
    let t := part.foldl (fun (t : Tbl (Nat × Nat)) p => tput t p.1 p.2)
      ((s.hurdle (chainAreas chain 1)).filter (fun q => areas.contains (areaOf (keyIx q.1)) && !open_.contains (areaOf (keyIx q.1))))
    let s1 := if s.mirrors then s.mirrorSets areas else s
    if recs.any (fun r => r != 0) || !t.isEmpty then
      (let codes := chainCodes chain recs t
       let s2 := (s1.refuseChain id chain recs codes).addDetails slot seq (t.map (fun p => (p.1, p.2.2)))
       (chainRecs op recs0 (codes.map Prod.fst), s2))
    else
      let needs := chainNeeds s (s.chainPost areas) areas
      let sent := decide (s.twin.tx < s1.twin.tx)
      if needs.isEmpty && !sent then
        (let (swap, s2) := s1.commitChain id chain false
         let s3 := if swap then s2.await (swapWaiter slot seq idx chain) else s2
         (chainRecs op recs0 [], s3))
      else
        let (asks, s2) := s1.askChain needs
        let key := match needs with | q :: _ => needKey s q.2 | [] => 0
        (chainRecs op recs0 [], s2.await ⟨asks, slot, seq, idx, 1, key, 0, chain, if sent then s1.twin.tx else 0,
          chainUses s (s.chainPost areas) areas⟩)

/-! ### Records that waited (R202, R264, R375) -/

/-- A commit that waited goes on: its hurdle runs on the running sets as they now stand (R52). -/
def State.resumeCommit (s : State) (w : Waiter) : State :=
  let id := (s.sess w.slot).id
  let s0 := { s with dict := { s.dict with waits := s.dict.waits.filter (fun v => !(v == w)) } }
  let areas := chainAreas w.chain 1
  let t := s0.hurdle areas
  let put (x : State) (codes : List (Nat × Nat)) : State :=
    (List.range w.chain.length).foldl (fun (y : State) i => y.answerAt w.slot w.seq (w.idx + i) (codes.getD i (0, 0)).1 []) x
  if t.isEmpty then
    (let (swap, s1) := s0.commitChain id w.chain (w.mirror != 0)
     let s2 := put s1 []
     (if swap then s2.await (swapWaiter w.slot w.seq w.idx w.chain) else s2).finishWait w.slot w.seq)
  else
    let recs := List.replicate w.chain.length 0
    let codes := chainCodes w.chain recs t
    let s1 := put (s0.refuseChain id w.chain recs codes) codes
    ((s1.addDetails w.slot w.seq (t.map (fun p => (p.1, p.2.2)))).finishWait w.slot w.seq).syncSubs

/-- A port destination SID that waited for its subscription takes effect (R264). -/
def State.resumePort (s : State) (w : Waiter) : State :=
  match portOfKey w.key with
  | some d => ((s.settle w 0 []).portApply d w.val).syncSubs
  | none => s.settle w 0 []

/-- Whether nothing is left that a record waits for: its requests are answered, and the partner has acknowledged its staged set or
the twin link is down. -/
def State.waitOver (s : State) (w : Waiter) : Bool :=
  w.asks.isEmpty && (w.kind == 0 || w.kind == 1) &&
    (w.mirror == 0 || !s.twin.up || s.twin.unacked.all (fun m => decide (w.mirror < m.seq)))

/-- Waiting records whose wait is over go on, in order. -/
def State.wakeWaits (s : State) : State :=
  s.dict.waits.foldl (fun (x : State) w =>
    if x.dict.waits.contains w && x.waitOver w then (if w.kind = 0 then x.resumePort w else x.resumeCommit w) else x) s

/-- A request is answered: records no longer wait for it. -/
def State.waitsAnswered (s : State) (j reqId : Nat) : State :=
  ({ s with dict := { s.dict with waits := s.dict.waits.map (fun (w : Waiter) =>
      { w with asks := w.asks.filter (fun q => q != (j, reqId)) }) } }).wakeWaits

end Sys2Proof.Machine
end

