-- ==== Sys2Proof/Machine/TakeRing.lean ====
section
/-! DEFINITION. The take rings (R218, R219), the switching line (R228), and the answers to subscription requests (R198, R202). -/

namespace Sys2Proof.Machine

/-- Take ring registers (Table 7-3). -/
def rRingTail (n : Nat) : Nat := 0x010000 + 0x40 * n
/-- TAKE_RING_HEAD_n. -/
def rRingHead (n : Nat) : Nat := 0x010004 + 0x40 * n
/-- TAKE_RING_CTRL_n. -/
def rRingCtrl (n : Nat) : Nat := 0x010008 + 0x40 * n
/-- TAKE_RING_STATUS_n. -/
def rRingStat (n : Nat) : Nat := 0x01000C + 0x40 * n

/-- Records from HEAD up to TAIL of ring n, at most the 4,096 entries it has. -/
def State.ringCount (s : State) (n : Nat) : Nat :=
  min 4096 ((s.reg (rRingTail n) + 8192 - s.reg (rRingHead n)) % 8192)

/-- The record at place i after HEAD of ring n. -/
def State.ringRec (s : State) (n i : Nat) : TakeRec :=
  decodeTake true (s.bytesAt (0x300000 + 0x20000 * n + 32 * ((s.reg (rRingHead n) + i) % 4096)) 32)

/-- The place after HEAD of the next LAST record of ring n. -/
def State.ringLast (s : State) (n : Nat) : Option Nat := (List.range (s.ringCount n)).find? (fun i => (s.ringRec n i).last)

/-- HEAD of ring n advances. -/
def State.ringSkip (s : State) (n k : Nat) : State := s.setReg (rRingHead n) ((s.reg (rRingHead n) + k) % 8192)

/-- Ring n discards records up to and including the next LAST (R218). -/
def State.setDrop (s : State) (n : Nat) (v : Bool) : State :=
  { s with ess := { s.ess with takes := { s.ess.takes with drop := tset allFalse s.ess.takes.drop n v } } }

/-- Whether ring n has a batch to serve: a complete one, or one past 128 records. -/
def State.ringReady (s : State) (n : Nat) : Bool :=
  bitOf (s.reg (rRingCtrl n)) 31 && ((s.ringLast n).isSome || decide (128 < s.ringCount n))

/-- The ring served next: the first in turn that is ready (R219). -/
def State.ringTurn (s : State) : Option Nat :=
  ((List.range 4).map (fun i => (s.ess.takes.turn + 1 + i) % 4)).find? (fun n => s.ringReady n)

/-- Records of a discarded batch pass up to its LAST. -/
def State.ringFlush (s : State) (n : Nat) : State :=
  if !tget allFalse s.ess.takes.drop n then s
  else
    match s.ringLast n with
    | some i => (s.ringSkip n (i + 1)).setDrop n false
    | none => s.ringSkip n (s.ringCount n)

/-- Records of ring n from HEAD to the LAST of its next batch, 129 at most. -/
def State.ringBatch (s : State) (n : Nat) : List TakeRec :=
  let k := match s.ringLast n with | some i => i + 1 | none => s.ringCount n
  (List.range (min 129 k)).map (fun i => s.ringRec n i)

/-- Whether the pending store has no room for ring n's next batch (R219). -/
def State.ringStalled (s : State) (n : Nat) : Bool :=
  decide (8192 ≤ s.pendingRecs) || (s.ringReady n && decide (8192 < s.pendingRecs + (s.ringBatch n).length))

/-- The next batch of ring n is decoded. -/
def State.ringServe (s : State) (n : Nat) : State :=
  let l := s.ringBatch n
  let s1 := match s.ringLast n with
    | some i => s.ringSkip n (i + 1)
    | none => (s.ringSkip n (s.ringCount n)).setDrop n true
  let s2 := { s1 with ess := { s1.ess with takes := { s1.ess.takes with turn := n } } }
  (s2.arriveBatch n l).2

/-- TAKE_RING_TAIL (R218): the word written to TAKE_RING_TAIL_n. -/
def execTakeRingTail (n : Fin 4) (w : Word) (s : State) : Res :=
  .next (if s.winOpen (rRingTail n) then s.setReg (rRingTail n) (fld w.toNat 12 0) else s)

/-- BATCH_DECODE (R218, R219). -/
def execBatchDecode (n : Fin 4) (at_ : Nat) (s0 : State) : Res :=
  let s := (s0.toTick at_).ringFlush n.val
  if s.ringTurn = some n.val ∧ !s.ringStalled n.val then .next (s.ringServe n.val) else .next s

/-- Outputs before o with records due at the same instant that have not switched yet: the entries of one switching instant are ordered by
output (R237), so they switch first. -/
def State.lowerDue (s : State) (o k : Nat) : List (Nat × Nat) :=
  let t := s.outTime o (s.outVideo o) k (s.switchLine o k)
  (List.range o).flatMap (fun i =>
    ((List.range 3).map (fun d => s.outGrid i + 1 - d)).filterMap (fun j =>
      if s.outRuns i && !s.outStopped i j && j != (s.out_ i).lastGrid && s.outTime i (s.outVideo i) j (s.switchLine i j) == t &&
        !(s.dueRecs i j).isEmpty then some (i, j) else none))

/-- SWITCHING_LINE (R228): what the output no longer uses is released at the same line (R202). -/
def execSwitchingLine (o : Fin 128) (k at_ : Nat) (s0 : State) : Res :=
  let s := s0.toTick at_
  let i := o.val
  if !s.outRuns i || s.outStopped i k || !s.timeFor (s.outTime i (s.outVideo i) k (s.switchLine i k)) || (k != 0 && k == (s.out_ i).lastGrid) then .next s
  else .next (((s.lowerDue i k).foldl (fun (x : State) p => x.switchOutput p.1 p.2) s).switchOutput i k).syncSubs

/-- A request is refused: a link that a quad-link stream does not have is no refusal; any other refusal fails the take, commit or write
that needed the stream (R202, R217). -/
def State.subRefused (s : State) (i r reason : Nat) (a : SubAsk) : State :=
  let optional := reason == 1 && (sidClass a.sid == 0 || sidClass a.sid == 2) && sidSub a.sid != 0
  let s1 := (s.nakAsk i r).takesNak i r reason a.sid
  (if optional then s1.waitsAnswered i r else s1.refuseWaits i r 0x4011).syncSubs

/-- SUB_ACK (R198): what waited for the stream goes on. A subscription beyond those this device may hold is released at once, and what waited
for it is refused. -/
def execSubAck (j : Fin 12) (reqId channel : Half) (charge : Word) (first : Nat) (s : State) : Res :=
  let i := j.val
  let r := reqId.toNat
  match (s.link i).asks.find? (fun a => a.reqId == r), s.mayHold i channel.toNat with
  | some a, false => .next ((s.subRefused i r 3 a).ackAsk i r channel.toNat charge.toNat first)
  | _, _ =>
    let s1 := (s.takesAck i r).ackAsk i r channel.toNat charge.toNat first
    .next (s1.waitsAnswered i r).syncSubs

/-- SUB_NAK (R198, R202, R217). -/
def execSubNak (j : Fin 12) (reqId : Half) (reason : Byte) (s : State) : Res :=
  let i := j.val
  let r := reqId.toNat
  match (s.link i).asks.find? (fun a => a.reqId == r) with
  | none => .next s
  | some a => .next (s.subRefused i r reason.toNat a)

end Sys2Proof.Machine
end

