-- ==== Sys2Proof/Machine/Rwt.lean ====
section
/-! DEFINITION. Writes of take state (R48, R221): the writes to one output before its deadline gather in a batch of one output. -/

namespace Sys2Proof.Machine

/-- The record that one write of take state makes: subindex and value. -/
def rwtRec (o sub v trans : Nat) : TakeRec :=
  { output := o, last := true, split := false, setTc := sub == 3, setAudio := decide (4 ≤ sub) && decide (sub ≤ 0x83), setAnc := sub == 2,
    setVideo := sub == 1, amode := 1, trans := trans, batch := 0, video := v, anc := v, tc := v, aref := v, count := 1, first := if 4 ≤ sub ∧ sub ≤ 0x83 then sub - 4 else 0,
    tag := 0 }

/-- Whether a batch is the gathered write batch of output o in grid frame k. -/
def Batch.isRwt (b : Batch) (o k : Nat) : Bool := b.rwt && b.recs.any (fun r => r.rec_.output == o && r.frame == k)

/-- A later write's record over an earlier one: the parts it sets replace theirs. -/
def mergeRec (a b : TakeRec) : TakeRec :=
  { b with
    setVideo := a.setVideo || b.setVideo
    setAnc := a.setAnc || b.setAnc
    setTc := a.setTc || b.setTc
    setAudio := a.setAudio || b.setAudio
    video := if b.setVideo then b.video else a.video
    anc := if b.setAnc then b.anc else a.anc
    tc := if b.setTc then b.tc else a.tc
    aref := if b.setAudio then b.aref else a.aref }

/-- Channels by position, the later ones replacing. -/
def mergeChans (a b : List (Nat × Nat)) : List (Nat × Nat) := a.filter (fun p => !b.any (fun q => q.1 == p.1)) ++ b

/-- A write joins the write batch of its output and frame, or begins it; T_a is the write's time and it counts as the last
arrived. -/
def State.rwtMerge (s : State) (o k ta origin : Nat) (r : TakeRec) (chans : List (Nat × Nat)) (asks : List (Nat × Nat)) : State :=
  let old := (s.ess.takes.batches.filter (fun b => b.isRwt o k)).flatMap (fun b => b.recs)
  let p : PendRec := match old with
    | q :: _ => ⟨mergeRec q.rec_ r, mergeChans q.chans chans, k, q.asks ++ asks⟩
    | [] => ⟨r, chans, k, asks⟩
  let b : Batch := ⟨0, origin, ta, s.ess.takes.order, false, true, 0, 0, [p], 1⟩
  let s1 := s.setBatches (s.ess.takes.batches.filter (fun c => !c.isRwt o k) ++ [b])
  ({ s1 with ess := { s1.ess with takes := { s1.ess.takes with order := s1.ess.takes.order + 1 } } }).pendObj o

/-- The transition that the next write batch of output o uses: what was written and waits, or the value in force. -/
def State.rwtTrans (s : State) (o : Nat) : Nat :=
  (((s.ess.takes.batches.filter (fun b => b.rwt)).flatMap (fun b => b.recs.filter (fun r => r.rec_.output == o))).getLast?.map
    (fun r => r.rec_.trans)).getD (s.num (O.takeTransition o))

/-- The first grid frame whose take deadline a record arriving now meets. -/
def State.rwtFrame (s : State) (o : Nat) (new : Bool) : Nat :=
  let g := s.outGrid o - 1
  ((List.range 4).find? (fun j => decide (s.tm.pt ≤ s.takeDeadline o (g + j) new))).getD 3 + g

/-- A write of take state: its status and the state (R221, R217, R491). -/
def State.rwtWrite (s : State) (o sub v : Nat) : Nat × State :=
  let r := rwtRec o sub v (if sub = 0x84 then v else s.rwtTrans o)
  let chans := s.recChans r
  let needs := s.recNeeds r chans
  let st := s.recStatus r
  if s.takeGate ≠ 0 then (s.takeGate, s)
  else if st ≠ 0 then (st, s)
  else if !s.needsUp needs then (0x6017, s)
  else
    let k := s.rwtFrame o !(s.notHeld needs).isEmpty
    let (asks, s1) := s.askNeeds needs
    let s2 := s1.rwtMerge o k s.tm.pt 4 r chans asks
    (0, s2.mirror 2 (beBytes 12 (s.tm.pt / 2 ^ 32) ++ beBytes 12 (s2.outTime o (s2.outVideo o) k (s2.switchLine o k) / 2 ^ 32) ++
      encodeTake r))

end Sys2Proof.Machine
end

