-- ==== Sys2Proof/Machine/Twin.lean ====
section
/-! DEFINITION. Twin operation (12): the interlock, heartbeat, handover, the twin link, mirroring and joining. -/

namespace Sys2Proof.Machine

/-- Stores the twin block. -/
def State.setTw (s : State) (t : TwinSt) : State := { s with twin := t }

/-- HB_CODE. -/
def State.hb (s : State) : Nat := s.num O.twinHbCode

/-! ### What follows from the state (R364, R368, R379, R380) -/

/-- The health code of R364: 0 none, 1 HEALTHY, 2 DEGRADED, 3 NOT_READY. -/
def State.hbNow (s : State) : Nat :=
  let st := s.twinState
  if s.flt.safe || !s.twin.health then 0
  else if st = 0 ∨ st = 3 ∨ st = 5 ∨ st = 6 ∨ st = 7 ∨ (st = 4 ∧ (s.twin.current ∨ ¬s.twin.heldEver)) then
    (if s.heldList.any (fun p => p.2.sev == 2) then 2 else 1)
  else 3

/-- HB_CODE follows, with event 0xC00B. -/
def State.hbCheck (s : State) : State :=
  let h := s.hbNow
  if h = s.hb then s else (s.setNum O.twinHbCode h).raise 0xC00B (p8 s.hb ++ p8 h)

/-- PARTNER_STATE and PARTNER_HEALTHY follow the partner's latest STATUS (R380). -/
def State.partnerObjs (s : State) : State :=
  match s.twin.partner with
  | none => (s.setNum O.twinPartnerState 0xFF).setNum O.twinPartnerHealthy 0
  | some p => (s.setNum O.twinPartnerState p.state).setNum O.twinPartnerHealthy
      (b2n (s.twin.up && p.state == 3 && p.hb == 1 && p.gen == s.num O.twinSyncGeneration))

/-- Whether the partner's latest STATUS shows HOLDING. -/
def State.partnerHolds (s : State) : Bool := match s.twin.partner with | some p => p.holding | none => false

/-- The conditions under which the Lead waits to take the Baton back (R368). -/
def State.revertWaits (s : State) : Bool :=
  s.twin.role == 1 && s.twinState == 3 && s.hb == 1 && s.twin.grant && s.partnerHolds && s.flag O.twinRevertive

/-- The revert wait begins or lapses. -/
def State.wtrCheck (s : State) : State :=
  if s.revertWaits then (if s.twin.wtrAt = 0 then s.setTw { s.twin with wtrAt := s.now + 1, wtrFor := s.num O.twinRevertWtr } else s)
  else if s.twin.wtrAt = 0 ∧ s.twin.revSent = 0 ∧ s.twin.retryAt = 0 then s
  else s.setTw { s.twin with wtrAt := 0, revSent := 0, retryAt := 0 }

/-- Begins a join: JOIN is sent (R377). -/
def State.joinStart (s : State) : State :=
  (s.setTw { s.twin with joining := true, joinAt := s.now, joinBytes := 0, snapDone := false, snap := [], snapJnl := [], queue := [],
                         commits := [], diverged := false }).tlSend 0xA (beBytes 4 (s.num O.twinSyncGeneration))

/-- Enters TWIN_STATE 2. -/
def State.toJoining (s : State) : State := (s.setTwin 2).joinStart

/-- A chip that has no claim settles where the partner and the link have it: joining, standby or isolated (Table 12-4). -/
def State.twinSettle (s : State) : State :=
  if !s.twin.up then s.setTwin 4 else if s.partnerHolds then s.toJoining else s.setTwin 3

/-- The twin fault class at severity 1 while a holder's link is down (R373), and a divergence (R375). -/
def State.twinFaults (s : State) : State :=
  let s1 := if s.twin.role ≠ 0 ∧ s.twin.gate ∧ !s.twin.up then s.report 256 0xC003 else s.conditionEnd 256
  if !s1.twin.diverged then s1
  else
    let s2 := (s1.setTw { s1.twin with diverged := false }).report 257 0xC005
    if s2.twinState = 3 then s2.toJoining else s2

/-- Everything that follows once a twin command has run. -/
def State.twinCheck (s : State) : State := if s.twin.role = 0 then s.hbCheck else (((s.twinFaults).hbCheck).wtrCheck).partnerObjs

/-- A release is abandoned with a cause: back on air, or in the safe state (R370). -/
def State.abandon (s : State) (cause : Nat) : State :=
  if s.twinState ≠ 7 then s
  else ((s.setTw { s.twin with relT := 0 }).raise 0xC00A (p8 cause)).setTwin (if s.flt.safe then 8 else 6)

/-- The twin link goes down with a cause: 1 PCS lock, 2 STATUS timeout, 3 retransmission limit (R373). -/
def State.tlDown (s : State) (cause : Nat) : State :=
  if !s.twin.up then s
  else
    let s1 := s.setTw { s.twin with up := false, hear := 0, stTx := 0, stRx := 0, tx := 0, rx := 0, unacked := [], partner := none,
                                    joining := false, snapDone := false, snap := [], snapJnl := [], queue := [], commits := [],
                                    expected := [], told := [] }
    let s2 := (((s1.setNum 0xC00301 0).bump 0xC00303).setBit rTwinEvt 1).raise 0xC003 (p8 cause)
    let s3 := s2.abandon 3
    let s4 := if s3.twinState = 2 ∨ s3.twinState = 3 then s3.setTwin 4 else s3
    (((s4.refAbsent 13).setPtp 13 PtpSt.idle).wakeWaits).twinCheck

/-! ### The interlock (R359–R363) -/

/-- The partner's claim rises: contention while this chip claims, the end of its gate, and of its SDI hold (R359, R363, R366). -/
def State.partnerClaims (s : State) : State :=
  let s1 := s.setTw { s.twin with pclaim := true, sdiHold := 0 }
  if s.twin.gate then (s1.evalGate 2).lowerClaim 2
  else if s.twin.claim then
    (let s2 := ((s1.bump O.twinContentions).setBit rTwinEvt 5).raise 0xC008 (p8 s1.twin.role)
     if s2.twin.role = 2 then s2.lowerClaim 2 else s2)
  else s1

/-- PARTNER_CLAIM_CHANGE; the single role ties the pin inactive (R358). -/
def execPartnerClaimChange (high : Bool) (at_ : Nat) (s0 : State) : Res :=
  let s := s0.toTick at_
  if s.twin.role = 0 ∨ s.twin.pclaim = high then .next s
  else if high then .next s.partnerClaims.twinCheck
  else .next ((s.setTw { s.twin with pclaim := false }).evalGate 2).twinCheck

/-- REFEREE_GRANT_CHANGE (R360, Table 12-4), a wake source of Bench as it rises (Table 15-4); the single role ties the pin active. -/
def execRefereeGrantChange (high : Bool) (at_ : Nat) (s0 : State) : Res :=
  let s := s0.toTick at_
  if s.twin.role = 0 ∨ s.twin.grant = high then .next s
  else
    let s1 := (s.setTw { s.twin with grant := high }).raise 0xC00C (p8 (b2n high))
    if high then .next ((s1.evalGate 1).twinCheck.wakeSource 8)
    else
      let s2 := s1.lowerClaim 1
      .next (if s2.twin.relT ≠ 0 ∧ s2.twinState ≠ 7 then s2.setTw { s2.twin with relT := 0 } else s2).twinCheck

/-- Whether the claim conditions of R362 hold; a chip entering, in or waking from Bench does not claim (R433). -/
def State.mayClaim (s : State) : Bool :=
  let st := s.twinState
  (st == 0 && s.num O.startStartPhase == 5 || st == 3 || st == 4) && (s.hb == 1 || s.hb == 2) && s.twin.grant && !s.twin.pclaim &&
  !s.twin.claim && decide (s.twin.holdOff ≤ s.now) && decide (s.twin.block ≤ s.now) && s.num O.pwrChipState == 0 &&
  !(s.twin.role == 2 && s.twin.up && (match s.twin.partner with | some p => p.ready | none => false))

/-- BATON_CLAIM_RAISE (R362). -/
def execBatonClaimRaise (at_ : Nat) (s0 : State) : Res :=
  let s := s0.toTick at_
  if !s.mayClaim then .next s
  else
    let s1 := s.setTw { s.twin with claim := true, claimAt := s.now }
    let s2 := if s1.twinState = 0 then s1 else s1.setTwin 5
    .next (s2.evalGate 1).twinCheck

/-- CLAIM_TIMEOUT (R363). -/
def execClaimTimeout (at_ : Nat) (s0 : State) : Res :=
  let s := s0.toTick at_
  if !s.twin.claim ∨ s.twin.gate ∨ s.now < s.twin.claimAt + 10 * tickMs then .next s
  else
    let s1 := (s.raise 0xC00F []).lowerClaim 1
    .next (s1.setTw { s1.twin with block := s1.now + tickS }).twinCheck

/-! ### The heartbeat (R364) -/

/-- Pulse width in microseconds of a health code. -/
def hbWidth (h : Nat) : Nat := if h = 1 then 10 else if h = 2 then 20 else 40

/-- HEARTBEAT_PULSE: due every 1 ms ± 1 us. In Bench and on the way to and from it no health is confirmed (R433); REFEREE_HB stays low
before phase 4 and in phase 6 (Table 17-2). -/
def execHeartbeatPulse (confirmed : Bool) (at_ : Nat) (s0 : State) : Res :=
  let s := s0.toTick at_
  if s.twin.pulseAt ≠ 0 ∧ s.now < s.twin.pulseAt - 1 + 999 * tickUs then .next s
  else
    let t := s.twin
    let sure := confirmed && s.num O.pwrChipState == 0
    let s1 := s.setTw { t with pulseAt := s.now + 1, healthAt := if sure then s.now else t.healthAt,
                               health := sure || (t.health && decide (s.now < t.healthAt + 2 * tickMs)) }
    let s2 := s1.twinCheck
    .next (if s2.hb = 0 ∨ !s2.started then s2 else s2.emit (.heartbeat (hbWidth s2.hb)))

/-- HEALTH_CONFIRM_LAPSE: no confirmation for 2 ms. -/
def execHealthConfirmLapse (at_ : Nat) (s0 : State) : Res :=
  let s := s0.toTick at_
  if !s.twin.health ∨ s.now < s.twin.healthAt + 2 * tickMs then .next s
  else .next (s.setTw { s.twin with health := false }).twinCheck

/-! ### Handover (R366–R370) -/

/-- HANDOVER_HOLD_LIMIT: the hold of the SDI outputs ends after 100 ms. -/
def execHandoverHoldLimit (at_ : Nat) (s0 : State) : Res :=
  let s := s0.toTick at_
  if s.twin.sdiHold = 0 ∨ s.now < s.twin.sdiHold - 1 + 100 * tickMs then .next s
  else .next (s.setTw { s.twin with sdiHold := 0 })

/-- The first house frame start of REVERT_RATE at least 10 ms ahead. -/
def State.releaseAt (s : State) : Nat :=
  let lo := s.num O.twinRevertRate
  let t := s.tm.pt + 10000000 * ptNs
  let k := gridFrame lo t
  if gridStart lo k < t then gridStart lo (k + 1) else gridStart lo k

/-- The Lead asks the Anchor to release the Baton at T (R368). -/
def State.sendRevert (s : State) : State :=
  let s1 := s.tlSend 7 (beBytes 12 (s.releaseAt / 2 ^ 32))
  s1.setTw { s1.twin with revSent := s1.now + 1, retryAt := 0, relT := 0 }

/-- Whether the revert wait has run out. -/
def State.revertOver (s : State) : Bool :=
  s.twin.wtrAt != 0 && decide (s.twin.wtrAt - 1 + s.twin.wtrFor * tickS ≤ s.now)

/-- REVERT_WTR_EXPIRY (R368). -/
def execRevertWtrExpiry (at_ : Nat) (s0 : State) : Res :=
  let s := (s0.toTick at_).twinCheck
  if !s.revertOver ∨ s.twin.revSent ≠ 0 ∨ s.twin.retryAt ≠ 0 ∨ s.twin.relT ≠ 0 then .next s else .next s.sendRevert

/-- REVERT_ACK_TIMEOUT: not acknowledged within 5 ms. -/
def execRevertAckTimeout (at_ : Nat) (s0 : State) : Res :=
  let s := s0.toTick at_
  if s.twin.revSent = 0 ∨ s.now < s.twin.revSent - 1 + 5 * tickMs then .next s
  else .next ((s.setTw { s.twin with revSent := 0, retryAt := s.now + tickS }).raise 0xC00A (p8 1))

/-- REVERT_RETRY: 1 s after a revert that failed. -/
def execRevertRetry (at_ : Nat) (s0 : State) : Res :=
  let s := (s0.toTick at_).twinCheck
  if s.twin.retryAt = 0 ∨ s.now < s.twin.retryAt ∨ !s.revertOver then .next s else .next s.sendRevert

/-- RELEASE_INSTANT: at T the claim falls; no claim for 10 ms (R368, R369). -/
def execReleaseInstant (at_ : Nat) (s0 : State) : Res :=
  let s := s0.toTick at_
  if s.twinState ≠ 7 ∨ s.tm.pt < s.twin.relT then .next s
  else
    let s1 := (s.setTw { s.twin with holdOff := s.now + 10 * tickMs, relT := 0 }).lowerClaim 3
    .next s1.twinCheck

/-- A write of RELINQUISH: the status and the state (R369, R382). -/
def State.relinquishWrite (s : State) (v : Nat) : Nat × State :=
  if v = 0 then (0, s)
  else if !s.twin.gate then (0xC001, s)
  else if !s.flag O.twinPartnerHealthy then (0xC002, s)
  else if s.twinState = 7 then (0, s)
  else
    let t := s.releaseAt
    let s1 := s.tlSend 9 (beBytes 12 (t / 2 ^ 32))
    (0, ((s1.setTw { s1.twin with relT := t }).setTwin 7).twinCheck)

/-- RELEASE_CHECK: 1 ms before T every mirror message must be acknowledged (R370). -/
def execReleaseCheck (at_ : Nat) (s0 : State) : Res :=
  let s := s0.toTick at_
  if s.twinState ≠ 7 ∨ s.tm.pt + 1000000 * ptNs < s.twin.relT then .next s
  else if s.twin.unacked.any (fun m => decide (2 ≤ m.type) && decide (m.type ≤ 5)) then .next (s.abandon 2).twinCheck
  else .next s

/-! ### The twin link (R371–R373) -/

/-- The partner has received every message up to a number: those leave the list, and waiting ones go out (R373). -/
def State.tlAcked (s : State) (a : Nat) : State :=
  let left := s.twin.unacked.filter (fun m => decide (a < m.seq))
  if left.length = s.twin.unacked.length then s
  else
    let now_ := left.take 64
    let s1 := (now_.filter (fun m => m.sends == 0)).foldl (fun (x : State) m => x.tlEmit m.type 0 m.seq m.body) s
    let marked := now_.map (fun (m : TlMsg) => if m.sends = 0 then { m with sends := 1, last := s.now } else m)
    (s1.setTw { s1.twin with unacked := marked ++ left.drop 64 }).wakeWaits

/-- Limit of the queue of mirror messages in a pause, in bytes (R477). -/
def heldLimit : Nat := 16777216

/-- A numbered message arrives: delivered in order, acknowledged, and its own acknowledgement taken (R373). Mirror messages wait for
the end of a join's snapshot (R377) or of a control-plane pause (R477). -/
def State.tlRecv (s : State) (h : TlHdr) (type size : Nat) (self : Instr) (body : State → State) : State :=
  if s.twin.role = 0 ∨ !s.twin.up then s
  else
    let s1 := s.tlAcked h.ack
    if h.seq ≠ s1.twin.rx + 1 then (if h.seq ≤ s1.twin.rx then s1.tlEmit 0xB 0 0 [] else s1)
    else
      let s2 := s1.setTw { s1.twin with rx := h.seq }
      let mirror := decide (2 ≤ type) && decide (type ≤ 5)
      let s3 := if mirror && s2.upd.paused then
          (let u := s2.upd
           if heldLimit < u.heldBytes + size then { s2 with upd := { u with heldBytes := heldLimit + 1, heldTl := [] } }
           else { s2 with upd := { u with heldBytes := u.heldBytes + size, heldTl := u.heldTl ++ [self] } })
        else if mirror && s2.twin.joining then s2.setTw { s2.twin with queue := s2.twin.queue ++ [self] }
        else body s2
      (s3.tlEmit 0xB 0 0 []).twinCheck

/-- TL_ACK. -/
def execTlAck (h : TlHdr) (s : State) : Res :=
  if s.twin.role = 0 ∨ !s.twin.up then .next s else .next (s.tlAcked h.ack)

/-- TL_RETRANSMIT: a message unacknowledged for 50 us goes out again; after 8 transmissions the link is down. -/
def execTlRetransmit (seq at_ : Nat) (s0 : State) : Res :=
  let s := s0.toTick at_
  match s.twin.unacked.find? (fun m => m.seq == seq) with
  | none => .next s
  | some m =>
    if m.sends = 0 ∨ s.now < m.last + 50 * tickUs then .next s
    else if 8 ≤ m.sends then .next (s.tlDown 3)
    else
      let s1 := s.setTw { s.twin with unacked := s.twin.unacked.map (fun (x : TlMsg) =>
        if x.seq = seq then { x with sends := x.sends + 1, last := s.now } else x) }
      .next (((s1.tlEmit m.type 1 seq m.body).bump 0xC00302).rcAdd 0x41600C 31 16)

/-- TL_STATUS_TIMEOUT: no STATUS for 1 ms. -/
def execTlStatusTimeout (at_ : Nat) (s0 : State) : Res :=
  let s := s0.toTick at_
  if !s.twin.up ∨ s.now < s.twin.stAt + tickMs then .next s else .next (s.tlDown 2)

/-- TL_PCS_LOSS: the PCS has no block lock; the count of STATUS messages starts again. -/
def execTlPcsLoss (at_ : Nat) (s0 : State) : Res :=
  let s := s0.toTick at_
  if s.twin.up then .next (s.tlDown 1) else .next (s.setTw { s.twin with hear := 0, stTx := 0 })

/-- Pacer time as seconds and nanoseconds, as the twin-link MAC stamps it. -/
def State.ts80 (s : State) : Nat × Nat := (s.tm.pt / ptNs / 1000000000, s.tm.pt / ptNs % 1000000000)

/-- READY: the Lead in standby, granted, with no hold-off running (R362). -/
def State.ready (s : State) : Bool :=
  s.twin.role == 1 && s.twinState == 3 && s.twin.grant && decide (s.twin.holdOff ≤ s.now)

/-- A TS80 value on the wire. -/
def tsBytes (t : Nat × Nat) : List Byte := beBytes 6 t.1 ++ beBytes 4 t.2

/-- STATUS_SEND, every 100 us (Table 12-3). -/
def execStatusSend (at_ : Nat) (s0 : State) : Res :=
  let s := s0.toTick at_
  let t := s.twin
  if t.role = 0 ∨ s.num O.pwrChipState ≠ 0 ∨ (t.sentAt ≠ 0 ∧ s.now < t.sentAt - 1 + 100 * tickUs) then .next s
  else
    let flags := b2n t.grant + 2 * b2n s.ready + 4 * b2n t.gate + 8 * b2n s.flt.safe
    let body := p8 s.twinState ++ p8 s.hb ++ p8 flags ++ p8 0 ++ s.fuses.serial ++ tsBytes t.lastSent ++ p32 t.lastHeard.1 ++
      tsBytes t.lastHeard.2
    .next ((s.setTw { t with stTx := t.stTx + 1, sentAt := s.now + 1, lastSent := s.ts80 }).tlEmit 1 0 (t.stTx + 1) body)

/-- A TS80 value in 0.25 ns. -/
def tsQuarter (t : Nat × Nat) : Int := ((t.1 * 1000000000 + t.2) * 4 : Nat)

/-- The exchanges of the STATUS messages reach the loop as reference 13, the best quarter of each second as R350 does for PTP. -/
def State.twinOffset (s : State) (b : TlStatusBody) (prevRx : Nat × Nat) : State :=
  if b.heardSeq ≠ s.twin.stTx ∨ prevRx = (0, 0) ∨ b.heardSeq = 0 then s
  else
    let a := tsQuarter prevRx - tsQuarter b.sentTs
    let c := tsQuarter b.heardTs - tsQuarter s.twin.lastSent
    let x := s.ptp 13
    let ex := (a + c, roundDiv (a - c) 2) :: x.exchanges
    let s1 := s.setPtp 13 { x with exchanges := ex }
    if s.upd.paused ∨ s.now < x.lastSecond + tickS then s1 else s1.offsetSecond 13

/-- The link comes up: numbers restart, event 0xC002; the chip settles (R373, Table 12-4). -/
def State.tlUp (s : State) (serial : List Byte) : State :=
  let s1 := s.setTw { s.twin with up := true, tx := 0, rx := 0, unacked := [], stTx := 0 }
  let s2 := (((s1.setNum 0xC00301 1).setBytes 0xC00304 serial).setBit rTwinEvt 0).raise 0xC002 serial
  if s2.twinState = 4 then s2.twinSettle else s2

/-- TL_STATUS (R372, R373, R379): the link comes up after 10 consecutive STATUS messages each way. -/
def execTlStatus (h : TlHdr) (b : TlStatusBody) (at_ : Nat) (s0 : State) : Res :=
  let s := s0.toTick at_
  if s.twin.role = 0 ∨ s.num O.pwrChipState ≠ 0 then .next s
  else
    let t := s.twin
    let held := s.partnerHolds
    let hear := if t.stRx + 1 = h.seq ∨ t.hear = 0 then t.hear + 1 else 1
    let p : Partner := ⟨b.state, b.hb, b.grant, b.ready, b.holding, b.safe, h.generation⟩
    let s1 := s.setTw { t with stAt := s.now, stRx := h.seq, hear := hear, lastHeard := (h.seq, b.rxTs),
                               heldEver := t.heldEver || b.holding }
    let s2 := if t.stRx + 1 = h.seq then s1.twinOffset b t.lastHeard.2 else s1
    if !t.up then
      (if 10 ≤ hear ∧ 10 ≤ b.heardSeq then .next (((s2.setTw { s2.twin with partner := some p }).tlUp b.serial).twinCheck) else .next s2)
    else
      let s3 := (s2.setTw { s2.twin with partner := some p }).tlAcked h.ack
      let s4 := if s3.twinState = 7 ∧ b.state ≠ 3 then s3.abandon 4 else s3
      let s5 := if s4.twinState = 3 ∧ b.holding ∧ !held then s4.toJoining else s4
      let s6 := if s5.twin.role = 1 ∧ s5.twinState = 3 ∧ s5.twin.relT ≠ 0 ∧ b.holding ∧ b.state ≠ 7 then
          s5.setTw { s5.twin with relT := 0, retryAt := s5.now + tickS } else s5
      .next s6.twinCheck

/-! ### Reverts and handover requests over the link (R367–R369) -/

/-- TL_REVERT: the Anchor on air answers and releases at T. -/
def execTlRevert (h : TlHdr) (t at_ : Nat) (s0 : State) : Res :=
  .next ((s0.toTick at_).tlRecv h 7 12 (.tlRevert h t at_) (fun (x : State) =>
    if x.twin.role ≠ 2 ∨ x.twinState ≠ 6 then x
    else
      let y := (x.tlSend 8 (beBytes 12 t)).setTwin 7
      (y.setTw { y.twin with relT := t * 2 ^ 32 }).raise 0xC009 (p96 t)))

/-- TL_REVERT_ACK: the revert is agreed. -/
def execTlRevertAck (h : TlHdr) (t at_ : Nat) (s0 : State) : Res :=
  .next ((s0.toTick at_).tlRecv h 8 12 (.tlRevertAck h t at_) (fun (x : State) =>
    if x.twin.revSent = 0 then x else (x.setTw { x.twin with revSent := 0, relT := t * 2 ^ 32 }).raise 0xC009 (p96 t)))

/-- TL_HANDOVER_REQUEST: the partner will release the Baton at T, or asks for it now; this chip claims under R362. -/
def execTlHandoverRequest (h : TlHdr) (t at_ : Nat) (s0 : State) : Res :=
  .next ((s0.toTick at_).tlRecv h 9 12 (.tlHandoverRequest h t at_) id)

/-! ### Mirrored takes, commits, journal entries and fast-path commits (R374–R376, R521) -/

/-- The grid frame of output o whose switching instant lies nearest to an instant. -/
def State.frameAt (s : State) (o t : Nat) : Nat :=
  let g := gridFrame (s.outRaster o % 256) t - 2
  let at_ (k : Nat) : Nat := s.outTime o (s.outVideo o) k (s.switchLine o k)
  let off (k : Nat) : Nat := ((at_ k : Int) - (t : Int)).natAbs
  (List.range 4).foldl (fun b j => if off (g + j) < off b then g + j else b) g

/-- The frame a mirrored record applies in: the holder's, or the next one while it arrives later than 1 line before (R374). -/
def State.mirrorFrame (s : State) (o t : Nat) : Nat × Bool :=
  let k := s.frameAt o t
  let due (j : Nat) : Bool := decide (s.tm.pt + linesPt (s.outRaster o) 1 1 ≤ s.outTime o (s.outVideo o) j (s.switchLine o j))
  if due k then (k, false)
  else (((List.range 64).find? (fun i => due (k + 1 + i))).getD 0 + k + 1, true)

/-- A record that arrived late is counted (R374). -/
def State.mirrorLate (s : State) (o : Nat) : State :=
  ((s.bump O.twinMirrorLate).rcAdd 0x41600C 15 0).countSecond 0xC00D o 1 (p8 o)

/-- A mirrored take: its records with the switching instants the holder assigned. -/
def State.mirrorTake (s : State) (ta : Nat) (recs : List (Nat × TakeRec)) : State :=
  let (pr, s1) := recs.foldl (fun (p : List PendRec × State) r =>
    let o := r.2.output
    let (k, late) := p.2.mirrorFrame o (r.1 * 2 ^ 32)
    let chans := p.2.recChans r.2
    let (asks, x) := p.2.askNeeds (p.2.recNeeds r.2 chans)
    let q : PendRec := ⟨r.2, chans, k, asks⟩
    (p.1 ++ [q], if late then x.mirrorLate o else x)) ([], s)
  match recs with
  | [] => s1
  | r :: _ =>
    if r.2.batch = 0 then pr.foldl (fun (x : State) q => x.rwtMerge q.rec_.output q.frame (ta * 2 ^ 32) 5 q.rec_ q.chans q.asks) s1
    else
      let split := (recs.getLast?.map (fun q => q.2.split)).getD false
      let b : Batch := ⟨r.2.batch, 5, ta * 2 ^ 32, s1.ess.takes.order, split, false, 0, 0, pr, recs.length⟩
      let s2 := { s1 with ess := { s1.ess with takes := { s1.ess.takes with batches := s1.ess.takes.batches ++ [b],
                                                                             order := s1.ess.takes.order + 1 } } }
      recs.foldl (fun (x : State) q => x.pendObj q.2.output) s2

/-- The holder's generation is that of the last mirror message applied. -/
def State.takeGen (s : State) (h : TlHdr) : State := s.setNum O.twinSyncGeneration h.generation

/-- A local session's staged set of an area is discarded by a mirrored commit or a join (R521). -/
def State.dropLocal (s : State) (a : Nat) : State :=
  let o := s.stageOwner a
  if o = 0 then s.clearStage a else (s.clearStage a).raise 0x0004 (p32 o ++ p16 (areaBase a) ++ p8 2)

/-- The sets that the holder announced are committed here: their hurdle, then the commit, or a divergence (R375, R521). -/
def State.mirrorCommit (s : State) : State :=
  let cs := s.twin.commits
  let areas := cs.map MirrorCommit.area
  let s1 := areas.foldl (fun (x : State) a => x.dropLocal a) (s.setTw { s.twin with commits := [] })
  let vals : List (Nat × List Byte) := cs.flatMap (fun (c : MirrorCommit) => c.values)
  let s2 := { s1 with dict := { s1.dict with staged := vals.foldl (fun (t : Tbl Val) (v : Nat × List Byte) =>
    let d := (objDef (keyIx v.1) (keySub v.1)).getD noRow
    match decodeVal d.ty v.2 with | some w => tput t v.1 w | none => t) s1.dict.staged } }
  let t := s2.hurdle areas
  match t with
  | [] =>
    let needs := chainNeeds s2 (s2.chainPost areas) areas
    ((s2.askChain needs).2.commitNow 0 areas).2
  | p :: _ => (areas.foldl (fun (x : State) a => x.clearStage a) s2).diverge (areaBase (areaOf (keyIx p.1))) p.2.2

/-- The pending Stride set becomes active at the holder's instant (R292, R375). -/
def State.swapAt (s : State) (instants : List Nat) : State :=
  match s.str.next, instants with
  | some (x, _, e), n :: _ => { s with str := { s.str with next := some (x, n * 2 ^ 32, e) } }
  | _, _ => s

/-- A COMMIT message: phase 1 keeps the staged set, phase 2 commits it or discards it. -/
def State.tlCommitBody (s : State) (area phase : Nat) (values : List (Nat × Nat × Nat × List Byte)) (code : Nat) (instants : List Nat) :
    State :=
  let rest := s.twin.commits.filter (fun c => c.area != area)
  if phase = 1 then s.setTw { s.twin with commits := rest ++ [⟨area, values.map (fun v => (objKey v.1 v.2.1, v.2.2.2))⟩] }
  else if code ≠ 0 then s.setTw { s.twin with commits := rest }
  else
    let s1 := if s.twin.commits.any (fun c => c.area == area) then s.mirrorCommit else s
    if area = 0x7FFF then s1.swapAt instants else s1

/-- An entry's fields in the other byte order (R8): SEQ, STATUS, output, ORIGIN, BATCH_ID, four SIDs, AUDIO_MODE, AUDIO_COUNT, TAG,
ARRIVAL, SWITCH_TIME, FRAME. -/
def flipEntry (b : List Byte) : List Byte :=
  let f (i n : Nat) : List Byte := ((b.drop i).take n).reverse
  f 0 4 ++ f 4 2 ++ f 6 1 ++ f 7 1 ++ f 8 4 ++ f 12 4 ++ f 16 4 ++ f 20 4 ++ f 24 4 ++ f 28 1 ++ f 29 1 ++ f 30 2 ++ f 32 12 ++ f 44 12 ++
    f 56 4

/-- One of the holder's journal entries takes its place with ORIGIN 5 and its CHECK recomputed; an outcome other than this chip's is a
divergence (R376). -/
def State.mirrorEntry (s : State) (b : List Byte) : State :=
  let seq := ofBe (b.take 4)
  let status := ofBe ((b.drop 4).take 2)
  let o := ofBe ((b.drop 6).take 1)
  let batch := ofBe ((b.drop 8).take 4)
  let flags := ofBe ((b.drop 7).take 1)
  let entry := flipEntry (b.take 7 ++ p8 (80 + flags % 16) ++ b.drop 8)
  let s1 := s.putEntry seq entry
  if status = 0x6010 then s1
  else
    match s1.twin.expected.find? (fun q => q.1 == batch && q.2.1 == o) with
    | some q =>
      let s2 := s1.setTw { s1.twin with expected := s1.twin.expected.filter (fun r => !(r == q)) }
      if q.2.2 = status then s2 else s2.diverge o q.2.2
    | none => s1.setTw { s1.twin with told := ((batch, o, status) :: s1.twin.told).take 1024 }

/-- A FAST message: its entries apply at the holder's apply sample. -/
def State.tlFastBody (s : State) (sample : Nat) (entries : List (List Byte)) : State :=
  s.fastHold (entries.map (fun b =>
    let w := ofBe (b.take 4)
    (fld w 31 30, fld w 14 0, ofBe (b.drop 4)))) (sample * 2 ^ 32)

/-- What a mirror message does when its turn comes. -/
def State.runTl (s : State) (i : Instr) : State :=
  match i with
  | .tlTake h ta recs _ => (s.mirrorTake ta (recs.map (fun r => (r.1, decodeTake false r.2)))).takeGen h
  | .tlCommit h area phase values code instants _ =>
    (s.tlCommitBody (areaOf area.toNat) phase.toNat values code.toNat instants).takeGen h
  | .tlJournal h entries _ => (entries.foldl (fun (x : State) b => x.mirrorEntry b) s).takeGen h
  | .tlFast h sample entries _ => (s.tlFastBody sample entries).takeGen h
  | _ => s

/-- TL_TAKE (R374). -/
def execTlTake (h : TlHdr) (ta : Nat) (recs : List (Nat × List Byte)) (at_ : Nat) (s0 : State) : Res :=
  .next ((s0.toTick at_).tlRecv h 2 (12 + 44 * recs.length) (.tlTake h ta recs at_) (fun (x : State) =>
    x.runTl (.tlTake h ta recs at_)))

/-- TL_COMMIT (R375). -/
def execTlCommit (h : TlHdr) (area : Half) (phase : Byte) (values : List (Nat × Nat × Nat × List Byte)) (code : Half)
    (instants : List Nat) (at_ : Nat) (s0 : State) : Res :=
  let size := 3 + (values.map (fun v => 12 + (pad4 v.2.2.2).length)).foldl (· + ·) 0 + 12 * instants.length
  .next ((s0.toTick at_).tlRecv h 3 size (.tlCommit h area phase values code instants at_) (fun (x : State) =>
    x.runTl (.tlCommit h area phase values code instants at_)))

/-- TL_JOURNAL (R376). -/
def execTlJournal (h : TlHdr) (entries : List (List Byte)) (at_ : Nat) (s0 : State) : Res :=
  .next ((s0.toTick at_).tlRecv h 4 (64 * entries.length) (.tlJournal h entries at_) (fun (x : State) =>
    x.runTl (.tlJournal h entries at_)))

/-- TL_FAST (R376). -/
def execTlFast (h : TlHdr) (sample : Nat) (entries : List (List Byte)) (at_ : Nat) (s0 : State) : Res :=
  .next ((s0.toTick at_).tlRecv h 5 (12 + 8 * entries.length) (.tlFast h sample entries at_) (fun (x : State) =>
    x.runTl (.tlFast h sample entries at_)))

/-! ### Joining (R377) -/

/-- The mirrored areas. -/
def mirroredAreas : List Nat := areaCtls.filter areaMirrored

/-- Running values of areas are replaced by others, without a hurdle: what `own` names falls to its default unless listed. -/
def State.replaceSets (s : State) (own : Nat → Bool) (vals : List (Nat × Val)) (areas : List Nat) : State :=
  let s1 := (s.objs.filter (fun p => own p.1)).foldl (fun (x : State) p => x.setObj p.1 (x.levelDefault p.1)) s
  let s0 := (evtKeys.filter own).foldl (fun (x : State) k => x.setSetting k (.num 0)) s1
  let s2 := (vals.filter (fun p => own p.1)).foldl (fun (x : State) p => x.setSetting p.1 p.2) s0
  let s3 := (applyOrder.filter (fun a => areas.contains a)).foldl (fun (x : State) a => (x.applyArea s a).2) s2
  (s3.syncSubs).ledgerObjs

/-- Pieces of at most n of a list. -/
def chunks {α : Type} (n : Nat) : Nat → List α → List (List α)
  | 0, _ => []
  | fuel + 1, l => if l.isEmpty then [] else l.take n :: chunks n fuel (l.drop n)

/-- The holder answers JOIN with a snapshot: running sets, take state and journal, in segments (R377). -/
def State.sendSnapshot (s : State) : State :=
  let sets := (s.objs.filter (fun p => mirroredObj p.1)).flatMap (fun p =>
    let d := (objDef (keyIx p.1) (keySub p.1)).getD noRow
    (⟨2, tyCode d.ty, keyIx p.1, keySub p.1, 0, encodeVal d.ty p.2⟩ : RespRec).wire)
  let n := min 8192 s.ess.takes.jseq
  let jnl := (List.range n).flatMap (fun i => s.journalEntry (s.ess.takes.jseq - n + i))
  let data := sets ++ jnl
  let parts := if data.isEmpty then [[]] else chunks 9168 (data.length / 9168 + 1) data
  (List.range parts.length).foldl (fun (x : State) i =>
    x.tlSend 6 (beBytes 8 (9168 * i) ++ p8 (b2n (decide (i + 1 = parts.length))) ++ [0, 0, 0] ++ parts.getD i [])) s

/-- TL_JOIN: the holder sends a snapshot unless the generations are equal. -/
def execTlJoin (h : TlHdr) (gen : Word) (at_ : Nat) (s0 : State) : Res :=
  .next ((s0.toTick at_).tlRecv h 0xA 4 (.tlJoin h gen at_) (fun (x : State) =>
    if !x.twin.gate ∨ gen.toNat = x.num O.twinSyncGeneration then x else x.sendSnapshot))

/-- TL_SNAPSHOT: a segment gathers. -/
def execTlSnapshot (h : TlHdr) (values : List (Nat × Nat × List Byte)) (entries : List (List Byte)) (size : Nat) (endFlag : Bool)
    (at_ : Nat) (s0 : State) : Res :=
  .next ((s0.toTick at_).tlRecv h 6 size (.tlSnapshot h values entries size endFlag at_) (fun (x : State) =>
    if !x.twin.joining then x
    else x.setTw { x.twin with snap := x.twin.snap ++ values.map (fun v => (objKey v.1 v.2.1, v.2.2)), snapJnl := x.twin.snapJnl ++ entries,
                               joinBytes := x.twin.joinBytes + size, snapDone := endFlag, snapGen := h.generation }))

/-- The snapshot replaces the running values of the mirrored areas (R377). -/
def State.applySnapshot (s : State) : State :=
  let vals := s.twin.snap.filterMap (fun v =>
    let d := (objDef (keyIx v.1) (keySub v.1)).getD noRow
    (decodeVal d.ty v.2).map (fun w => (v.1, w)))
  let s1 := (s.replaceSets mirroredObj vals mirroredAreas).setNum O.twinSyncGeneration s.twin.snapGen
  s1.twin.snapJnl.foldl (fun (x : State) b => x.putEntry (ofBe (b.take 4)) (flipEntry b)) s1

/-- JOIN_COMPLETE: the snapshot and the queued messages are applied, or the generations are equal (R377); then what changed while this
chip was isolated is discarded (R378). -/
def execJoinComplete (at_ : Nat) (s0 : State) : Res :=
  let s := s0.toTick at_
  let t := s.twin
  let same := match t.partner with | some p => p.gen == s.num O.twinSyncGeneration | none => false
  if !t.joining ∨ s.twinState ≠ 2 ∨ !(t.snapDone || same) then .next s
  else
    let s1 := if 0 < t.localChanges then s.raise 0xC00E (p32 t.localChanges) else s
    let s2 := mirroredAreas.foldl (fun (x : State) a => x.dropLocal a) s1
    let s3 := if t.snapDone then s2.applySnapshot
      else match t.base with
        | some vals => s2.replaceSets mirroredObj vals mirroredAreas
        | none => s2
    let s4 := (s3.noteSince s2).setTw { s3.twin with
      joining := false
      current := true
      localChanges := 0
      base := none
      snap := []
      snapJnl := []
      queue := []
      expected := []
      told := [] }
    let s5 := t.queue.foldl (fun (x : State) i => x.runTl i) s4
    let ms := (s5.now - t.joinAt) / tickMs
    .next ((((s5.bump O.twinResyncs).setBit rTwinEvt 2).raise 0xC004 (p32 t.joinBytes ++ p32 ms)).setTwin 3).twinCheck

end Sys2Proof.Machine
end

