-- ==== Sys2Proof/Machine/Effects.lean ====
section
/-! DEFINITION. What a WRITE of an RW, WO or RWT object does (R48), and the WRITE and WRITE_SEGMENT records that check it (R42, R520). -/

namespace Sys2Proof.Machine

/-! ### Counters -/

/-- Objects are set to 0. -/
def State.zeroSubs (s : State) (ix : Nat) (subs : List Nat) : State := subs.foldl (fun (x : State) n => x.setNum (objKey ix n) 0) s

/-- Subindices a to b. -/
def subRange (a b : Nat) : List Nat := (List.range (b + 1 - a)).map (fun i => a + i)

/-- The counters that the COUNTERS_CLEAR of an index clears; none where the index has no such object (R106). -/
def clearedSubs (ix : Nat) : Option (List Nat) :=
  if ixIn ix 0x3000 96 then some (subRange 0x30 0x3A)
  else if ixIn ix 0x3400 96 then some (subRange 0x30 0x3E)
  else if ixIn ix 0x4010 12 then some (subRange 0x0D 0x11)
  else if ixIn ix 0x4100 128 then some [0x07, 0x08, 0x0B, 0x0C]
  else if ixIn ix 0x5100 256 then some (subRange 0x15 0x18)
  else if ixIn ix 0x7010 16 then some (subRange 0x30 0x33)
  else if ixIn ix 0x8010 8 then some [0x12, 0x13]
  else none

/-- The subindex of COUNTERS_CLEAR of an index. -/
def clearSub (ix : Nat) : Nat := if ixIn ix 0x3000 96 || ixIn ix 0x3400 96 || ixIn ix 0x7010 16 then 0x3F else 0x1F

/-! ### Event registers (R421, Table 14-8) -/

/-- Writes EVT_PENDING, EVT_ENABLE or EVT_CTRL of group g. -/
def State.evtWrite (s : State) (g which v : Nat) : State :=
  match which with
  | 1 => s.setReg (rEvtPending g) (clearBits (s.reg (rEvtPending g)) v)
  | 2 => s.setReg (rEvtEnable g) v
  | _ => s.setReg (rEvtCtrl g) (keepBits v 0x87FFFFFF)

/-! ### Take batches and take state -/

/-- Bytes cut into 32-byte records. -/
def take32 : Nat → List Byte → List (List Byte)
  | 0, _ => []
  | n + 1, b => if b.isEmpty then [] else b.take 32 :: take32 n (b.drop 32)

/-- A write of TAKE_BATCH (R220): the last record alone carries LAST. -/
def State.batchWrite (s : State) (b : List Byte) : Nat × State :=
  let recs := (take32 32 b).map (decodeTake false)
  let lasts := recs.map TakeRec.last
  if lasts.getLast? = some true ∧ !(lasts.dropLast.any id) then s.arriveBatch 4 recs
  else (0x6015, s.refuseBatch 4 (recs.map (fun r => (r, 0x6015))) s.tm.pt)

/-- A write of take state (R221); an AUDIO_POSITION is a SID of class 1 (R240). -/
def State.takeWrite (s : State) (o sub v : Nat) : Nat × State :=
  if 4 ≤ sub ∧ sub ≤ 0x83 ∧ !(sidOk v && sidClass v == 1) then (0x6003, s) else s.rwtWrite o sub v

/-! ### Port destinations (R264) -/

/-- A write of a port destination's SID: a channel of a peer is subscribed to first, and the write completes with SUB_ACK. -/
def State.portWrite (s : State) (c : Ctx) (k d sid : Nat) : Nat × State :=
  if !portSidOk sid then (0x7006, s)
  else if !s.sidRemote sid || (s.heldFor sid).isSome then (0, (s.portApply d sid).syncSubs)
  else if !(s.link (sidDev sid)).up then (0x4011, s)
  else
    let i := c.slot.val
    let p : Nat × State := match s.asked sid with
      | some a => (a.reqId, s)
      | none => s.askSub sid 1 0
    (0, p.2.await ⟨[(sidDev sid, p.1)], i, c.seq.toNat, (s.sess i).cache.length, 0, k, sid, [], 0, [(sid, 0)]⟩)

/-! ### Effects by index -/

/-- A command object that acts on the value 1 and answers no code of its own. -/
def onOne (s : State) (v : Nat) (f : State → State) : Nat × State := (0, if v = 1 then f s else s)

/-- The Pacer's command objects (11). -/
def State.pacerObjWrite (s : State) (k : Nat) (x : Val) : Nat × State :=
  if k = 0x200101 then (0, if x.toNat = 1 then s.openLoop 1 else s.closeLoop 1)
  else if k = 0x200302 then s.timeSetWrite x.toNat
  else if k = 0x200303 then s.timeStepWrite x.toInt
  else if k = 0x200304 then (0, s.overrideWrite x.toNat)
  else (0, s.setObj k x)

/-- The command objects of faults, safe state and recorder (14). -/
def State.faultObjWrite (s : State) (slot k : Nat) (x : Val) : Nat × State :=
  let id := (s.sess slot).id
  let ix := keyIx k
  if k = 0xA00105 then onOne s x.toNat (fun t => t.enterSafe 0xFFFE)
  else if k = 0xA00106 then s.safeExitWrite id x.toNat
  else if k = 0xA00109 then onOne s x.toNat (fun t => t.ackAllBy id)
  else if ixIn ix 0xA100 512 then onOne s x.toNat (fun t => t.ackBy id (ix - 0xA100))
  else if ixIn ix 0xA400 32 then (0, s.evtWrite (ix - 0xA400) (keySub k) x.toNat)
  else if k = 0xA80005 then (let y := s.sess slot; (0, s.setSess slot { y with recCursor := x.toNat }))
  else if k = 0xA80009 then s.recClearWrite id x.bytes
  else (0, s.setObj k x)

/-- The command objects of keys and update (16). -/
def State.secObjWrite (s : State) (slot k : Nat) (x : Val) : Nat × State :=
  let n := keyIx k - 0xB100
  if k = 0xB00103 then s.lcRequestWrite x.bytes
  else if k = 0xB00202 then s.attestWrite slot x.bytes
  else if ixIn (keyIx k) 0xB100 256 then
    (match keySub k with
     | 9 => s.loadWrite slot n x.bytes
     | 10 => s.verifyWrite n x.bytes
     | _ => s.invalidateWrite n x.toNat)
  else if k = 0xD00102 then s.imageSegment 0 x.bytes true
  else if k = 0xD00104 then s.activateWrite x.toNat
  else if k = 0xD00105 then s.confirmWrite x.toNat
  else (0, s.setObj k x)

/-- What a write that passed its checks does to an RW, WO or RWT object: its status, where the object's chapter makes a further check,
and the state. -/
def State.writeEffect (s : State) (c : Ctx) (k : Nat) (x : Val) : Nat × State :=
  let ix := keyIx k
  let sub := keySub k
  let v := x.toNat
  let a := areaOf ix
  if ixIn ix 0x0100 36 then onOne s v (fun t => t.endSession (ix - 0x0100) 2)
  else if (clearedSubs ix).isSome && sub == clearSub ix then onOne s v (fun t => t.zeroSubs ix ((clearedSubs ix).getD []))
  else if ixIn ix 0x4100 128 && sub == 0x0A then (0, s.prbsInject (ix - 0x4100) v)
  else if ixIn ix 0x4100 128 && sub == 0x0D then onOne s v (fun t => t.retrainLane (ix - 0x4100))
  else if ixIn ix 0x5100 256 && sub == 0x1A then onOne s v (fun t => t.askRealign (ix - 0x5100))
  else if ixIn ix 0x6100 128 then s.takeWrite (ix - 0x6100) sub v
  else if k = 0x620001 then s.batchWrite x.bytes
  else if ixIn ix 0x7810 16 then s.selfCheckWrite (ix - 0x7810) v
  else if k = 0x900102 then s.benchWrite v
  else if k = 0x900103 then s.benchForceWrite v
  else if k = 0xC00105 then s.relinquishWrite v
  else if a = 0x2FFF then s.pacerObjWrite k x
  else if a = 0xAFFF then s.faultObjWrite c.slot.val k x
  else if a = 0xBFFF || a = 0xDFFF then s.secObjWrite c.slot.val k x
  else
    match portOfKey k with
    | some d => s.portWrite c k d v
    | none => (0, s.setObj k x)

/-- A write takes effect, and a persistent object joins the settings bank (R473). -/
def State.effect (s : State) (c : Ctx) (k : Nat) (x : Val) : Nat × State :=
  let p := s.writeEffect c k x
  (p.1, if p.1 = 0 then p.2.noteBank [k] else p.2)

/-! ### WRITE (R48, R520) -/

/-- A WRITE record: its response records and the state. A write of an area's ENABLE is an ENABLE record of one area. -/
def State.doWrite (s : State) (c : Ctx) (ix sub ty : Nat) (value : List Byte) : List RespRec × State :=
  let slot := c.slot.val
  if areaCtls.contains ix && sub == 1 then s.doEnable c 2 [⟨BitVec.ofNat 16 ix, 1, BitVec.ofNat 8 ty, value⟩] false
  else
    let (code, x) := s.writeCheck slot ix sub ty value
    let k := objKey ix sub
    if code ≠ 0 then ([⟨2, 0, ix, sub, code, []⟩], s)
    else if ((objDef ix sub).getD noRow).acc = .rws then ([⟨2, 0, ix, sub, 0, []⟩], s.stage slot k x)
    else answer1 2 ix sub (s.effect c k x)

/-! ### WRITE_SEGMENT (R42, Table 2-5) -/

/-- Largest DOMAIN in bytes (Table 2-3). -/
def domainMax : Nat := 64 * 1048576

/-- A segment of a DOMAIN that gathers before it is used: offset 0 begins it anew; END completes it. -/
def State.gatherSeg (s : State) (c : Ctx) (k : Nat) (d : ObjDef) (offset : Nat) (data : List Byte) (fin : Bool) : Nat × State :=
  let old := if offset = 0 then [] else tget noBytes s.dict.domBuf k
  let started := offset = 0 ∨ (tfind s.dict.domBuf k).isSome
  if !started ∨ old.length ≠ offset then (0x000A, s)
  else
    let all := old ++ data
    let owned := if d.acc = .rws then tset ownerNone s.dict.owners (areaOf (keyIx k)) (s.sess c.slot.val).id else s.dict.owners
    let s1 := { s with dict := { s.dict with
        domBuf := tput s.dict.domBuf k all
        staged := tdel s.dict.staged k
        owners := owned } }
    if !fin then (0, s1)
    else
      let s2 := { s1 with dict := { s1.dict with domBuf := tdel s1.dict.domBuf k } }
      if d.acc = .rws then (0, s2.stage c.slot.val k (.oct all)) else s2.effect c k (.oct all)

/-- A WRITE_SEGMENT record. A download image is programmed as its segments arrive (R475). -/
def State.doWriteSeg (s : State) (c : Ctx) (ix sub offset : Nat) (data : List Byte) (fin : Bool) : Nat × State :=
  let d := (objDef ix sub).getD noRow
  let k := objKey ix sub
  let code := firstBad [if 4096 < data.length then 0x000E else 0, s.writeCode c.slot.val ix sub d, if d.ty ≠ .domain then 0x0002 else 0,
    if domainMax < offset + data.length then 0x0001 else 0, if d.acc = .rws then s.capCode k else 0,
    if d.acc ≠ .rws ∧ !variantHas s.fuses.variant ix then 0x0007 else 0]
  if code ≠ 0 then (code, s)
  else if k = 0xD00102 then
    (if offset ≠ 0 ∧ (s.upd.ust ≠ 1 ∨ (s.img (1 - s.upd.active)).image.length ≠ offset) then (0x000A, s)
     else s.imageSegment offset data fin)
  else s.gatherSeg c k d offset data fin

/-- A DISCARD record, for an area's staged set (R49). -/
def State.doDiscard (s : State) (slot a : Nat) : Nat × State :=
  if !areaCtls.contains a then (if ixExists a then 0x0005 else 0x0003, s)
  else
    let c := firstBad [s.existCode a 1, s.stateCode a, s.ownCode slot a]
    if c ≠ 0 then (c, s) else (0, s.clearStage a)

end Sys2Proof.Machine
end

