-- ==== Sys2Proof/Machine/Sessions.lean ====
section
/-! DEFINITION. Sessions (R58–R63): the handshake, the end of a session, replay protection over UDP, and the mailbox registers (R43,
R64, R65). -/

namespace Sys2Proof.Machine

/-! ### Handshake (R58–R60, Table 2-8) -/

/-- SESSION values in use: open sessions and handshakes under way. -/
def State.idsUsed (s : State) : List Nat := s.dict.sessions.map (fun p => p.2.id) ++ s.dict.attempts.map (fun a => a.id)

/-- The SESSION value `n` places after the next one to issue (R63): 1 to 2^32 − 1 and again from 1. -/
def State.idAfter (s : State) (n : Nat) : Nat := (s.dict.nextId - 1 + n) % (2 ^ 32 - 1) + 1

/-- The next SESSION value that is not in use. -/
def State.newId (s : State) : Nat :=
  s.idAfter (((List.range (s.idsUsed.length + 1)).find? (fun n => !s.idsUsed.contains (s.idAfter n))).getD 0)

/-- The address of a source: its first 16 bytes; the port follows. -/
def addrOf (source : List Byte) : List Byte := source.take 16

/-- Whether an address is barred (R60). -/
def State.barred (s : State) (a : List Byte) : Bool :=
  s.dict.addrs.any (fun r => r.source == a && (match r.barred with | some t => decide (s.now < t) | none => false))

/-- Whether every session slot a HELLO could open is taken. -/
def State.noneFree (s : State) (ch : Option (Fin 4)) : Bool :=
  match ch with
  | some n => (s.sess n.val).id != 0
  | none => (List.range 32).all (fun i => (s.sess (4 + i)).id != 0)

/-- Whether a key slot may serve a handshake for a role (R458, R466). -/
def State.keyServes (s : State) (ch : Option (Fin 4)) (role keySlot : Nat) : Bool :=
  if keySlot = 0xFFFF then ch.isSome && role == 3 && decide (s.upd.lc ≤ 1)
  else decide (keySlot < 256) && s.keyUsable keySlot (masterOf (if ch.isSome then 0 else 4)) && (s.key keySlot).role == role

/-- The role key of a slot; the provisioning key is 32 zero bytes (R466). -/
def State.roleKey (s : State) (keySlot : Nat) : List Byte := if keySlot = 0xFFFF then List.replicate 32 0 else (s.key keySlot).key

/-- The reason a HELLO is rejected for, 0 none, in the order of R60. -/
def State.helloReason (s : State) (ch : Option (Fin 4)) (source : List Byte) (role keySlot : Nat) : Nat :=
  if ch.isNone && s.barred (addrOf source) then 4
  else if s.noneFree ch then 2
  else if s.keyServes ch role keySlot then 0 else 3

/-- A handshake message as it travels (Table 2-4): no records, its body after the header. -/
def hsBytes (type session seq : Nat) (body : List Byte) : List Byte :=
  beBytes 2 0x5A48 ++ [1] ++ beBytes 1 type ++ beBytes 4 session ++ beBytes 4 seq ++ beBytes 2 0 ++ beBytes 2 0 ++ beBytes 4 body.length ++ body

/-- A handshake message leaves: over UDP at once, on the mailbox through the response buffer. -/
def State.sendHs (s : State) (ch : Option (Fin 4)) (source : List Byte) (type session : Nat) (body : List Byte) : State :=
  match ch with
  | none => s.emit (.handshake none source type session body)
  | some n =>
    let (f, s1) := s.freeNat
    let b := hsBytes type session f body
    if s1.mbxHeld n.val then { s1 with dict := { s1.dict with mbxWait := tset noWait s1.dict.mbxWait n.val b } } else s1.mbxPlace n.val false b

/-- REJECT with its reason, and event 0x0003 (R68). -/
def State.reject (s : State) (ch : Option (Fin 4)) (source : List Byte) (session reason : Nat) : State :=
  let addr := if ch.isSome then List.replicate 16 0 else addrOf source
  (s.sendHs ch source 0x14 session (beBytes 1 reason)).raise 0x0003 (p8 reason ++ addr)

/-- HELLO (R58–R60). A HELLO from a source or channel whose handshake is under way replaces it. -/
def State.helloRun (s : State) (ch : Option (Fin 4)) (source nc : List Byte) (role keySlot : Nat) : State :=
  let i := match ch with | some n => n.val | none => 36
  let r := s.helloReason ch source role keySlot
  if r ≠ 0 then s.reject ch source 0 r
  else
    let rest := s.dict.attempts.filter (fun a => !(a.slot == i && (decide (i < 4) || a.source == source)))
    let s0 := { s with dict := { s.dict with attempts := rest } }
    let id := s0.newId
    let (nd, s1) := s0.freeBytes 32
    let a : Attempt := ⟨i, id, role, keySlot, source, nc, nd⟩
    let s2 := { s1 with dict := { s1.dict with attempts := rest ++ [a], nextId := id % (2 ^ 32 - 1) + 1 } }
    s2.sendHs ch source 0x11 id (nd ++ beBytes 4 id ++ s2.fuses.serial)

/-- A failed proof from an address: the fifth within 60 s bars it for 60 s; a bar in force stays (R60). -/
def State.noteFail (s : State) (a : List Byte) : State :=
  let old := (s.dict.addrs.find? (fun r => r.source == a)).getD ⟨a, [], none⟩
  let fails := s.now :: old.fails.filter (fun t => decide (s.now < t + 60 * tickS))
  let r : AddrRec := if 5 ≤ fails.length then ⟨a, [], some (s.now + 60 * tickS)⟩ else ⟨a, fails, old.barred⟩
  { s with dict := { s.dict with addrs := s.dict.addrs.filter (fun q => q.source != a) ++ [r] } }

/-- The proof or acceptance MAC of Table 2-8. -/
def hsMac (key : List Byte) (label : String) (n1 n2 : List Byte) (session role : Nat) : List Byte :=
  hmacSha384 key (ascii label ++ n1 ++ n2 ++ beBytes 4 session ++ beBytes 1 role)

/-- A session opens in a slot with the keys of R59; its recorder cursor begins at the oldest record. -/
def State.openSession (s : State) (i : Nat) (a : Attempt) : State :=
  let salt := a.nc ++ a.nd
  let key := s.roleKey a.keySlot
  let x : Session := { Session.free with
    id := a.id
    role := a.role
    peer := if i < 4 then [] else a.source
    opened := s.pt96
    lastHeard := s.now
    keyC2d := hkdfSha384 salt key (ascii "zhonal c2d") 36
    keyD2c := hkdfSha384 salt key (ascii "zhonal d2c") 36
    recCursor := s.recOldest }
  (s.setSess i x).raise 0x0001 (p32 a.id ++ p8 a.role ++ p8 (if i < 4 then 0 else 1))

/-- The session slot a handshake opens. -/
def State.slotFor (s : State) (a : Attempt) : Option Nat :=
  if a.slot < 4 then (if (s.sess a.slot).id = 0 then some a.slot else none)
  else ((List.range 32).map (fun i => 4 + i)).find? (fun i => (s.sess i).id == 0)

/-- PROOF (R59, R60): a proof that fails ends the attempt; the key and a free session are needed still. -/
def State.proofRun (s : State) (session : Nat) (source mac : List Byte) : State :=
  match s.dict.attempts.find? (fun a => a.id == session && (decide (a.slot < 4) || a.source == source)) with
  | none => s
  | some a =>
    let ch : Option (Fin 4) := if h : a.slot < 4 then some ⟨a.slot, h⟩ else none
    let s1 := { s with dict := { s.dict with attempts := s.dict.attempts.filter (fun b => b.id != session) } }
    let key := s1.roleKey a.keySlot
    if mac ≠ hsMac key "zhonal proof" a.nc a.nd a.id a.role then
      (let s2 := s1.reject ch a.source a.id 1
       if ch.isNone then s2.noteFail (addrOf a.source) else s2)
    else
      match s1.slotFor a with
      | none => s1.reject ch a.source a.id 2
      | some i =>
        if !s1.keyServes ch a.role a.keySlot then s1.reject ch a.source a.id 3
        else (s1.openSession i a).sendHs ch a.source 0x13 a.id (hsMac key "zhonal accept" a.nd a.nc a.id a.role)

/-- SESSION_TIMEOUT (R63): 60 s with no message from the client. -/
def execSessionTimeout (slot : Fin 36) (at_ : Nat) (s0 : State) : Res :=
  let s := s0.toTick at_
  let x := s.sess slot.val
  .next (if x.id ≠ 0 ∧ x.lastHeard + 60 * tickS ≤ s.now then s.endSession slot.val 1 else s)

/-- ADDRESS_BAR_EXPIRY (R60). -/
def execAddressBarExpiry (source : List Byte) (at_ : Nat) (s0 : State) : Res :=
  let s := s0.toTick at_
  .next { s with dict := { s.dict with addrs := s.dict.addrs.filter (fun r =>
    !(r.source == addrOf source && (match r.barred with | some t => decide (t ≤ s.now) | none => false))) } }

/-! ### UDP (R61, R62) -/

/-- Whether a COUNTER was received before or lies more than 64 below the highest accepted. -/
def Session.replayed (x : Session) (n : Nat) : Bool := x.rxSeen.contains n || decide (n + 64 < x.rxTop)

/-- A COUNTER is accepted. -/
def Session.accept (x : Session) (n : Nat) : Session :=
  let top := max x.rxTop n
  { x with rxTop := top, rxSeen := (n :: x.rxSeen).filter (fun c => decide (top ≤ c + 64)) }

/-- A datagram is dropped with event 0x0006: cause 0 authentication, 1 replay, 2 fragment. -/
def State.dropDatagram (s : State) (source : List Byte) (cause : Nat) : State := s.raise 0x0006 (addrOf source ++ p8 cause)

/-- Whether a datagram authenticates: its tag verifies under the key of the client's direction, with COUNTER in the nonce and the security
header as associated data (R61). -/
def Session.authentic (x : Session) (n : Nat) (sealed : List Byte) : Bool :=
  (gcmOpen (x.keyC2d.take 32) (x.keyC2d.drop 32 ++ beBytes 8 n) (beBytes 4 x.id ++ beBytes 8 n) sealed).isSome

/-- UDP_DATAGRAM_DROP (R61): a fragment, a datagram that does not authenticate, or one already received is dropped; any other is
accepted, and its COUNTER counts from then on. -/
def execUdpDatagramDrop (source : List Byte) (session : Word) (counter : Quad) (sealed : List Byte) (fragment : Bool) (s : State) : Res :=
  match ((List.range 32).map (fun i => 4 + i)).find? (fun i => (s.sess i).id == session.toNat && session.toNat != 0) with
  | none => .next (s.dropDatagram source (if fragment then 2 else 0))
  | some i =>
    let x := s.sess i
    let n := counter.toNat
    if fragment then .next (s.dropDatagram source 2)
    else if !x.authentic n sealed then .next (s.dropDatagram source 0)
    else if x.replayed n then .next (s.dropDatagram source 1)
    else .next (s.setSess i { x.accept n with lastHeard := s.now })

/-- A repeated SEQUENCE is answered from the cache (R62). -/
def State.cachedRun (s : State) (i q : Nat) : State :=
  let x := s.sess i
  if x.id ≠ 0 ∧ x.lastSeq = some q ∧ !x.running then (s.setSess i { x with lastHeard := s.now }).finishMsg i else s

/-- NOTIFY (R66, R67). -/
def execNotify (slot : Fin 36) (ix : Half) (sub : Byte) (at_ : Nat) (s0 : State) : Res :=
  let s := s0.toTick at_
  .next (if (s.sess slot.val).id = 0 || s.upd.paused then s else s.doNotify slot.val (objKey ix.toNat sub.toNat))

/-! ### The mailbox (R43, R64, R65) -/

/-- ERROR and ERROR_CODE of a channel, signalled where MBX_IRQ_n asks for it (Tables 2-11, 2-12). -/
def State.mbxError (s : State) (n code : Nat) : State :=
  let s1 := s.setReg (rMbx n + 4) (setFld (setFld (s.reg (rMbx n + 4)) 28 28 1) 24 17 code)
  let irq := s1.reg (rMbx n + 8)
  if bitOf irq 1 then s1.signal (fld irq 26 16) else s1

/-- The ERROR_CODEs of R43, by operand: MAGIC or VERSION, SESSION, OP_COUNT or BODY_LENGTH. -/
def discardCode (c : Nat) : Nat := if c = 0 then 2 else if c = 1 then 4 else 5

/-- A message is discarded whole and counted (R43): on the mailbox BUSY falls and ERROR is set. -/
def State.discardRun (s : State) (ch : Option (Fin 4)) (code : Nat) : State :=
  let s1 := { s with dict := { s.dict with discards := s.dict.discards + 1 } }
  match ch with
  | none => s1
  | some n =>
    ((s1.setReg (rMbx n.val + 4) (setFld (s1.reg (rMbx n.val + 4)) 31 31 0)).mbxError n.val (discardCode code)).mbxNotify n.val

/-- A write of MBX_DOORBELL_n (R64): GO submits the request; while BUSY the doorbell is discarded. -/
def State.mbxDoorbell (s : State) (n w : Nat) : State :=
  let len := fld w 15 0
  let st := s.reg (rMbx n + 4)
  if !bitOf w 31 then s
  else if bitOf st 31 then s.mbxError n 3
  else if len < 20 ∨ 61440 < len then s.mbxError n 1
  else s.setReg (rMbx n + 4) (setFld st 31 31 1)

/-- MBX_DOORBELL. -/
def execMbxDoorbell (ch : Fin 4) (w : Word) (s : State) : Res :=
  .next (if s.winOpen (rMbx ch.val) then s.mbxDoorbell ch.val w.toNat else s)

/-- A write of MBX_STATUS_n clears the bits written with 1; a response that waited takes the free buffer, then a notification (R65). -/
def State.mbxRelease (s : State) (n w : Nat) : State :=
  let s1 := s.setReg (rMbx n + 4) (clearBits (s.reg (rMbx n + 4)) (keepBits w 0x70000000))
  let b := tget noWait s1.dict.mbxWait n
  if s1.mbxHeld n then s1
  else if !b.isEmpty then ({ s1 with dict := { s1.dict with mbxWait := tset noWait s1.dict.mbxWait n [] } }).mbxPlace n false b
  else s1.mbxNotify n

/-- MBX_BUFFER_RELEASE (R65). -/
def execMbxBufferRelease (ch : Fin 4) (w : Word) (s : State) : Res :=
  .next (if s.winOpen (rMbx ch.val + 4) then s.mbxRelease ch.val w.toNat else s)

end Sys2Proof.Machine
end

