-- ==== Sys2Proof/Machine/Records.lean ====
section
/-! DEFINITION. The records of Zhonal requests, and the writes of command objects that have rows of their own: each is a record of its
session's message (R44, R45). -/

namespace Sys2Proof.Machine

/-- A record as the dictionary engine runs it: where it stands, opcode, index and subindex of its response, and what it does. -/
structure RecCall where
  ctx : Ctx
  op : Nat
  ix : Nat
  sub : Nat
  run : State → List RespRec × State

/-- The record that a command is, where it is one. -/
def recordOf : Instr → Option RecCall
  | .nop c =>
    some ⟨c, 0, 0, 0, fun t => ([⟨0, 0, 0, 0, 0, []⟩], t)⟩
  | .read c ix sub =>
    some ⟨c, 1, ix.toNat, sub.toNat, fun t => t.doRead c.slot.val ix.toNat sub.toNat⟩
  | .write c ix sub ty value =>
    some ⟨c, 2, ix.toNat, sub.toNat, fun t => t.doWrite c ix.toNat sub.toNat ty.toNat value⟩
  | .enableCommit c chain dangling =>
    some ⟨c, 3, 0, 1, fun t => t.doEnable c 3 chain dangling⟩
  | .enableDiscard c area =>
    some ⟨c, 3, area.toNat, 1, fun t => t.doEnable c 3 [⟨area, 1, 2, [2]⟩] false⟩
  | .discard c area =>
    some ⟨c, 4, area.toNat, 0, fun t => answer1 4 area.toNat 0 (t.doDiscard c.slot.val area.toNat)⟩
  | .subscribe c ix sub value =>
    some ⟨c, 5, ix.toNat, sub.toNat, fun t => answer1 5 ix.toNat sub.toNat (t.doSubscribe c.slot.val ix.toNat sub.toNat value)⟩
  | .unsubscribe c ix sub =>
    some ⟨c, 6, ix.toNat, sub.toNat, fun t => answer1 6 ix.toNat sub.toNat (t.doUnsubscribe c.slot.val ix.toNat sub.toNat)⟩
  | .readSegment c ix sub offset =>
    some ⟨c, 7, ix.toNat, sub.toNat, fun t => t.doReadSeg c.slot.val ix.toNat sub.toNat offset.toNat⟩
  | .writeSegment c ix sub offset data endFlag =>
    some ⟨c, 8, ix.toNat, sub.toNat, fun t => answer1 8 ix.toNat sub.toNat (t.doWriteSeg c ix.toNat sub.toNat offset.toNat data endFlag)⟩
  | .describe c ix sub =>
    some ⟨c, 11, ix.toNat, sub.toNat, fun t => (t.doDescribe ix.toNat sub.toNat, t)⟩
  | .closeNow c target =>
    some ⟨c, 2, 0x0100 + target.val, 6, fun t => t.doWrite c (0x0100 + target.val) (6) (1) ([1])⟩
  | .countersClear c ix =>
    some ⟨c, 2, ix.toNat, clearSub ix.toNat, fun t => t.doWrite c (ix.toNat) (clearSub ix.toNat) (1) ([1])⟩
  | .realign c slot value =>
    some ⟨c, 2, 0x5100 + slot.val, 0x1A, fun t => t.doWrite c (0x5100 + slot.val) (0x1A) (1) ([value])⟩
  | .prbsInject c f value =>
    some ⟨c, 2, 0x4100 + f.val, 0x0A, fun t => t.doWrite c (0x4100 + f.val) (0x0A) (3) (beBytes 2 value.toNat)⟩
  | .retrain c f value =>
    some ⟨c, 2, 0x4100 + f.val, 0x0D, fun t => t.doWrite c (0x4100 + f.val) (0x0D) (1) ([value])⟩
  | .takeBatch c value =>
    some ⟨c, 2, 0x6200, 1, fun t => t.doWrite c (0x6200) (1) (11) (value)⟩
  | .takeStateWrite c o sub ty value =>
    some ⟨c, 2, 0x6100 + o.val, sub.toNat, fun t => t.doWrite c (0x6100 + o.val) (sub.toNat) (ty.toNat) (value)⟩
  | .portSidWrite c ix sub ty value =>
    some ⟨c, 2, ix.toNat, sub.toNat, fun t => t.doWrite c (ix.toNat) (sub.toNat) (ty.toNat) (value)⟩
  | .selfCheck c e value =>
    some ⟨c, 2, 0x7810 + e.val, 7, fun t => t.doWrite c (0x7810 + e.val) (7) (1) ([value])⟩
  | .timeSet c ty value =>
    some ⟨c, 2, 0x2003, 2, fun t => t.doWrite c (0x2003) (2) (ty.toNat) (value)⟩
  | .timeStep c ty value =>
    some ⟨c, 2, 0x2003, 3, fun t => t.doWrite c (0x2003) (3) (ty.toNat) (value)⟩
  | .jumpOverride c value =>
    some ⟨c, 2, 0x2003, 4, fun t => t.doWrite c (0x2003) (4) (1) ([value])⟩
  | .relinquish c value =>
    some ⟨c, 2, 0xC001, 5, fun t => t.doWrite c (0xC001) (5) (1) ([value])⟩
  | .safeEnter c value =>
    some ⟨c, 2, 0xA001, 5, fun t => t.doWrite c (0xA001) (5) (1) ([value])⟩
  | .safeExit c value =>
    some ⟨c, 2, 0xA001, 6, fun t => t.doWrite c (0xA001) (6) (1) ([value])⟩
  | .recRead c =>
    some ⟨c, 1, 0xA800, 6, fun t => t.doRead c.slot.val 0xA800 6⟩
  | .recClear c token =>
    some ⟨c, 2, 0xA800, 9, fun t => t.doWrite c (0xA800) (9) (11) (token)⟩
  | .journalRead c =>
    some ⟨c, 1, 0x6201, 3, fun t => t.doRead c.slot.val 0x6201 3⟩
  | .benchRequest c =>
    some ⟨c, 2, 0x9001, 2, fun t => t.doWrite c (0x9001) (2) (2) ([1])⟩
  | .dictionaryWake c =>
    some ⟨c, 2, 0x9001, 2, fun t => t.doWrite c (0x9001) (2) (2) ([0])⟩
  | .benchForce c value =>
    some ⟨c, 2, 0x9001, 3, fun t => t.doWrite c (0x9001) (3) (1) ([value])⟩
  | .lcRequest c value =>
    some ⟨c, 2, 0xB001, 3, fun t => t.doWrite c (0xB001) (3) (13) (value)⟩
  | .load c slot value =>
    some ⟨c, 2, 0xB100 + slot.val, 9, fun t => t.doWrite c (0xB100 + slot.val) (9) (11) (value)⟩
  | .verify c slot value =>
    some ⟨c, 2, 0xB100 + slot.val, 10, fun t => t.doWrite c (0xB100 + slot.val) (10) (11) (value)⟩
  | .invalidate c slot value =>
    some ⟨c, 2, 0xB100 + slot.val, 11, fun t => t.doWrite c (0xB100 + slot.val) (11) (1) ([value])⟩
  | .attestNonce c nonce =>
    some ⟨c, 2, 0xB002, 2, fun t => t.doWrite c (0xB002) (2) (11) (nonce)⟩
  | .activate c value =>
    some ⟨c, 2, 0xD001, 4, fun t => t.doWrite c (0xD001) (4) (1) ([value])⟩
  | .confirm c value =>
    some ⟨c, 2, 0xD001, 5, fun t => t.doWrite c (0xD001) (5) (1) ([value])⟩
  | .loopOpen (some c) =>
    some ⟨c, 2, 0x2001, 1, fun t => t.doWrite c (0x2001) (1) 2 [1]⟩
  | .loopClose (some c) =>
    some ⟨c, 2, 0x2001, 1, fun t => t.doWrite c (0x2001) (1) 2 [0]⟩
  | .ack (some c) source =>
    some ⟨c, 2, 0xA100 + source.val, 10, fun t => t.doWrite c (0xA100 + source.val) (10) 1 [1]⟩
  | .ackAll (some c) =>
    some ⟨c, 2, 0xA001, 9, fun t => t.doWrite c (0xA001) (9) 1 [1]⟩
  | _ => none

/-- A record answered with a status alone: one response record, or one for every ENABLE of a chain (R44, R53). -/
def recShort (i : Instr) (r : RecCall) (st : Nat) : List RespRec :=
  match i with
  | .enableCommit _ chain _ => chain.map (fun e => ⟨3, 0, e.area.toNat, e.sub.toNat, st, []⟩)
  | _ => [⟨r.op, 0, r.ix, r.sub, st, []⟩]

/-- What a record refused for its form leaves behind (R68): each ENABLE it would have been is written to the event recorder. -/
def State.recDeny (s : State) (i : Instr) (r : RecCall) : State :=
  let id := (s.sess r.ctx.slot.val).id
  match i with
  | .enableCommit _ chain _ => chain.foldl (fun (x : State) e => x.recordRefused id e.area.toNat 0x000E) s
  | .enableDiscard _ area => s.recordRefused id area.toNat 0x000E
  | _ => if r.op = 2 ∧ r.sub = 1 then s.recordRefused id r.ix 0x000E else s

/-- A message that is no request, or whose records do not run: the handshake, CLOSE, a repeated SEQUENCE, a message discarded whole. -/
def State.runMsg (s : State) (i : Instr) : State :=
  match i with
  | .hello ch source nc role keySlot => s.helloRun ch source nc role.toNat keySlot.toNat
  | .proof session source mac => s.proofRun session.toNat source mac
  | .close slot => s.endSession slot.val 0
  | .cachedResponse slot seq => s.cachedRun slot.val seq.toNat
  | .messageDiscard ch code => s.discardRun ch code.val
  | _ => s

/-- The session slot or mailbox channel a message came through; 36 where it is none. -/
def msgSlot : Instr → Nat
  | .hello ch _ _ _ _ => match ch with | some n => n.val | none => 36
  | .proof _ source _ => if source.isEmpty then 0 else 36
  | .close slot => slot.val
  | .cachedResponse slot _ => slot.val
  | .messageDiscard ch _ => match ch with | some n => n.val | none => 36
  | _ => 36

/-- A record or message runs in its turn: behind a record that waits it is held (R45, R52). -/
def State.runTurn (s : State) (i : Instr) : State :=
  match recordOf i with
  | some r => s.withRec r.ctx i (recShort i r) (fun t => t.recDeny i r) r.run
  | none => if s.dict.waits.isEmpty then s.runMsg i else s.holdBehind (msgSlot i) i

/-- Records and messages held behind a record that waited run in their order once it has taken effect; one of them that waits holds those after it again
(R45, R52). -/
def State.runBlocked (s : State) : State :=
  if s.dict.waits.isEmpty && !s.dict.blocked.isEmpty then
    s.dict.blocked.foldl (fun (x : State) p => x.runTurn p.2) { s with dict := { s.dict with blocked := [] } }
  else s

/-- A command that is a record or message runs as one, after those that were held before it. -/
def State.runRecord (s : State) (i : Instr) : State := s.runBlocked.runTurn i

/-- A message of a handshake or session, in its turn; a pause holds it (R47). -/
def State.runMessage (s : State) (i : Instr) : State :=
  if s.upd.paused then s.holdRec (msgSlot i) true i else s.runRecord i

/-- HELLO (R58–R60). -/
def execHello (ch : Option (Fin 4)) (source nc : List Byte) (role : Byte) (keySlot : Half) (s : State) : Res :=
  .next (if s.dictOn then s.runMessage (.hello ch source nc role keySlot) else s)

/-- PROOF (R59, R60). -/
def execProof (session : Word) (source mac : List Byte) (s : State) : Res :=
  .next (if s.dictOn then s.runMessage (.proof session source mac) else s)

/-- CLOSE (R63). -/
def execClose (slot : Fin 36) (s : State) : Res :=
  .next (if (s.sess slot.val).id = 0 then s else s.runMessage (.close slot))

/-- CACHED_RESPONSE (R62). -/
def execCachedResponse (slot : Fin 36) (seq : Word) (s : State) : Res :=
  .next (if (s.sess slot.val).id = 0 then s else s.runMessage (.cachedResponse slot seq))

/-- MESSAGE_DISCARD (R43). -/
def execMessageDiscard (ch : Option (Fin 4)) (code : Fin 3) (s : State) : Res :=
  .next (if s.dictOn then s.runMessage (.messageDiscard ch code) else s)

/-- NOP: the record is answered, nothing else. -/
def execNop (c : Ctx) (s : State) : Res := .next (s.runRecord (.nop c))

/-- READ (R40, R44). -/
def execRead (c : Ctx) (ix : Half) (sub : Byte) (s : State) : Res := .next (s.runRecord (.read c ix sub))

/-- WRITE (R48, R520). -/
def execWrite (c : Ctx) (ix : Half) (sub : Byte) (ty : Byte) (value : List Byte) (s : State) : Res := .next (s.runRecord (.write c ix sub ty value))

/-- ENABLE_COMMIT (R49–R54): one chain of ENABLE records. -/
def execEnableCommit (c : Ctx) (chain : List EnRec) (dangling : Bool) (s : State) : Res := .next (s.runRecord (.enableCommit c chain dangling))

/-- ENABLE_DISCARD (R49): ENABLE with value 2. -/
def execEnableDiscard (c : Ctx) (area : Half) (s : State) : Res := .next (s.runRecord (.enableDiscard c area))

/-- DISCARD (R49). -/
def execDiscard (c : Ctx) (area : Half) (s : State) : Res := .next (s.runRecord (.discard c area))

/-- SUBSCRIBE (R66). -/
def execSubscribe (c : Ctx) (ix : Half) (sub : Byte) (value : List Byte) (s : State) : Res := .next (s.runRecord (.subscribe c ix sub value))

/-- UNSUBSCRIBE (R66). -/
def execUnsubscribe (c : Ctx) (ix : Half) (sub : Byte) (s : State) : Res := .next (s.runRecord (.unsubscribe c ix sub))

/-- READ_SEGMENT (Table 2-5). -/
def execReadSegment (c : Ctx) (ix : Half) (sub : Byte) (offset : Word) (s : State) : Res := .next (s.runRecord (.readSegment c ix sub offset))

/-- WRITE_SEGMENT (R42). -/
def execWriteSegment (c : Ctx) (ix : Half) (sub : Byte) (offset : Word) (data : List Byte) (endFlag : Bool) (s : State) : Res := .next (s.runRecord (.writeSegment c ix sub offset data endFlag))

/-- DESCRIBE (Table 2-6). -/
def execDescribe (c : Ctx) (ix : Half) (sub : Byte) (s : State) : Res := .next (s.runRecord (.describe c ix sub))

/-- CLOSE_NOW (R63): an Owner's write of 1. -/
def execCloseNow (c : Ctx) (target : Fin 36) (s : State) : Res := .next (s.runRecord (.closeNow c target))

/-- COUNTERS_CLEAR (R106): a write of 1. -/
def execCountersClear (c : Ctx) (ix : Half) (s : State) : Res := .next (s.runRecord (.countersClear c ix))

/-- REALIGN (R160). -/
def execRealign (c : Ctx) (slot : Fin 256) (value : Byte) (s : State) : Res := .next (s.runRecord (.realign c slot value))

/-- PRBS_INJECT (R209). -/
def execPrbsInject (c : Ctx) (f : Fin 128) (value : Half) (s : State) : Res := .next (s.runRecord (.prbsInject c f value))

/-- RETRAIN (R192). -/
def execRetrain (c : Ctx) (f : Fin 128) (value : Byte) (s : State) : Res := .next (s.runRecord (.retrain c f value))

/-- TAKE_BATCH (R220). -/
def execTakeBatch (c : Ctx) (value : List Byte) (s : State) : Res := .next (s.runRecord (.takeBatch c value))

/-- TAKE_STATE_WRITE (R221). -/
def execTakeStateWrite (c : Ctx) (o : Fin 128) (sub : Byte) (ty : Byte) (value : List Byte) (s : State) : Res := .next (s.runRecord (.takeStateWrite c o sub ty value))

/-- PORT_SID_WRITE (R261, R264). -/
def execPortSidWrite (c : Ctx) (ix : Half) (sub : Byte) (ty : Byte) (value : List Byte) (s : State) : Res := .next (s.runRecord (.portSidWrite c ix sub ty value))

/-- SELF_CHECK (R298). -/
def execSelfCheck (c : Ctx) (e : Fin 16) (value : Byte) (s : State) : Res := .next (s.runRecord (.selfCheck c e value))

/-- TIME_SET (R344). -/
def execTimeSet (c : Ctx) (ty : Byte) (value : List Byte) (s : State) : Res := .next (s.runRecord (.timeSet c ty value))

/-- TIME_STEP (R344). -/
def execTimeStep (c : Ctx) (ty : Byte) (value : List Byte) (s : State) : Res := .next (s.runRecord (.timeStep c ty value))

/-- JUMP_OVERRIDE (R345). -/
def execJumpOverride (c : Ctx) (value : Byte) (s : State) : Res := .next (s.runRecord (.jumpOverride c value))

/-- RELINQUISH (R369). -/
def execRelinquish (c : Ctx) (value : Byte) (s : State) : Res := .next (s.runRecord (.relinquish c value))

/-- SAFE_ENTER (R416). -/
def execSafeEnter (c : Ctx) (value : Byte) (s : State) : Res := .next (s.runRecord (.safeEnter c value))

/-- SAFE_EXIT (R418). -/
def execSafeExit (c : Ctx) (value : Byte) (s : State) : Res := .next (s.runRecord (.safeExit c value))

/-- REC_READ (R426): a read from the session's cursor. -/
def execRecRead (c : Ctx) (s : State) : Res := .next (s.runRecord (.recRead c))

/-- REC_CLEAR (R427). -/
def execRecClear (c : Ctx) (token : List Byte) (s : State) : Res := .next (s.runRecord (.recClear c token))

/-- JOURNAL_READ (R237): a read from JOURNAL_CURSOR. -/
def execJournalRead (c : Ctx) (s : State) : Res := .next (s.runRecord (.journalRead c))

/-- BENCH_REQUEST (R434): a write of 1. -/
def execBenchRequest (c : Ctx) (s : State) : Res := .next (s.runRecord (.benchRequest c))

/-- DICTIONARY_WAKE (Table 15-4): a write of 0 to BENCH_REQUEST. -/
def execDictionaryWake (c : Ctx) (s : State) : Res := .next (s.runRecord (.dictionaryWake c))

/-- BENCH_FORCE (R434). -/
def execBenchForce (c : Ctx) (value : Byte) (s : State) : Res := .next (s.runRecord (.benchForce c value))

/-- LC_REQUEST (R455). -/
def execLcRequest (c : Ctx) (value : List Byte) (s : State) : Res := .next (s.runRecord (.lcRequest c value))

/-- LOAD (R461). -/
def execLoad (c : Ctx) (slot : Fin 256) (value : List Byte) (s : State) : Res := .next (s.runRecord (.load c slot value))

/-- VERIFY (R462). -/
def execVerify (c : Ctx) (slot : Fin 256) (value : List Byte) (s : State) : Res := .next (s.runRecord (.verify c slot value))

/-- INVALIDATE (R464). -/
def execInvalidate (c : Ctx) (slot : Fin 256) (value : Byte) (s : State) : Res := .next (s.runRecord (.invalidate c slot value))

/-- ATTEST_NONCE (R481). -/
def execAttestNonce (c : Ctx) (nonce : List Byte) (s : State) : Res := .next (s.runRecord (.attestNonce c nonce))

/-- ACTIVATE (R477). -/
def execActivate (c : Ctx) (value : Byte) (s : State) : Res := .next (s.runRecord (.activate c value))

/-- CONFIRM (R478). -/
def execConfirm (c : Ctx) (value : Byte) (s : State) : Res := .next (s.runRecord (.confirm c value))

/-- LOOP_OPEN (R342): a write of LOOP_MODE or, with no session, of PACER_LOOP_CTRL. -/
def execLoopOpen (c : Option Ctx) (s : State) : Res :=
  match c with
  | some x => .next (s.runRecord (.loopOpen (some x)))
  | none => .next (if s.winOpen 0x415020 then s.openLoop 1 else s)

/-- LOOP_CLOSE (R342). -/
def execLoopClose (c : Option Ctx) (s : State) : Res :=
  match c with
  | some x => .next (s.runRecord (.loopClose (some x)))
  | none => .next (if s.winOpen 0x415020 then s.closeLoop 1 else s)

/-- ACK (R414): of one source, by a session or, with none, through FAULT_ACK. -/
def execAck (c : Option Ctx) (source : Fin 512) (s : State) : Res :=
  match c with
  | some x => .next (s.runRecord (.ack (some x) source))
  | none => .next (if s.winOpen 0x070008 then s.ackBy 0 source.val else s)

/-- ACK_ALL (R414). -/
def execAckAll (c : Option Ctx) (s : State) : Res :=
  match c with
  | some x => .next (s.runRecord (.ackAll (some x)))
  | none => .next (if s.winOpen 0x070008 then s.ackAllBy 0 else s)

end Sys2Proof.Machine
end

