-- ==== Sys2Proof/Machine/RegView.lean ====
section
/-! DEFINITION. What a read of Window A finds (R10, R11): stored words, and the fields the device computes. An offset of no
register reads 0. -/

namespace Sys2Proof.Machine

/-- A word made of fields: high bit, low bit, value. -/
def pack (base : Nat) (l : List (Nat × Nat × Nat)) : Nat := l.foldl (fun w f => setFld w f.1 f.2.1 f.2.2) base

/-- The place of an offset in a table of n entries of `size` bytes at `base`: entry and byte within it. -/
def inTable (base size n off : Nat) : Option (Nat × Nat) :=
  if base ≤ off ∧ off < base + size * n then some ((off - base) / size, (off - base) % size) else none

/-- DEVICE_ID (R2, R9), BOOT_STATUS (R483), START_STATUS (R497) and the recovery registers. -/
def State.viewBoot (s : State) (off : Nat) : Nat :=
  let v := match s.fuses.variant with | .a => 0 | .m => 1 | .t => 2
  if off = 0x000000 then pack 0 [(31, 16, 0x9612), (15, 8, 0xB0), (7, 4, v)]
  else if off = 0x000100 then
    pack 0 [(31, 28, s.upd.stage), (27, 25, s.upd.lc), (24, 24, s.upd.booted), (23, 23, b2n s.upd.trial), (22, 20, s.upd.trialStarts),
      (15, 12, tget zeroNat s.upd.result 1), (11, 8, tget zeroNat s.upd.result 0), (5, 0, s.upd.rollback)]
  else if off = 0x000104 then
    pack 0 [(31, 28, s.num O.startStartPhase), (27, 24, s.num O.startStartFail),
      (23, 0, min (2 ^ 24 - 1) ((tget zeroNat s.upd.phaseAt (s.num O.startStartPhase) - 1) / tickMs))]
  else if off = 0x000114 then pack (s.reg off) [(30, 30, b2n s.upd.recov.isSome)]
  else s.reg off

/-- The host interface: status, DMA channels, rings, translation (Tables 13-4, 13-7, 13-8). -/
def State.viewHost (s : State) (off : Nat) : Nat :=
  if off = 0x000004 then pack (s.reg off) [(31, 28, s.hif.speed), (27, 24, s.hif.width)]
  else if off = 0x030044 then pack 0 [(31, 31, b2n s.hif.inv.isNone)]
  else if off = 0x030040 then 0
  else
    match inTable 0x020000 0x40 128 off with
    | some (c, r) =>
      let ch := s.dch c
      if r = 0x0C then ch.head
      else if r = 0x10 then pack 0 [(31, 31, b2n ch.halted), (30, 30, b2n ch.run.isSome), (15, 0, ch.lastStatus)]
      else s.reg off
    | none =>
      match inTable 0x022000 0x20 64 off, inTable 0x023000 0x20 64 off with
      | some (r, x), _ => if x = 0x0C then (s.ring r).head else s.reg off
      | none, some (r, x) => if x = 0x0C then (s.ring (64 + r)).head else s.reg off
      | none, none => s.reg off

/-- A word of the MSI-X pending bits (R390). -/
def State.viewPba (s : State) (off : Nat) : Nat :=
  (List.range 32).foldl (fun w i => w + b2n (tget allFalse s.hif.pba ((off - 0x048000) * 8 + i)) * 2 ^ i) 0

/-- Fault registers (Table 14-8). -/
def State.viewFault (s : State) (off : Nat) : Nat :=
  let top (l : List (Nat × SrcSt)) : Nat := (l.map (fun p => p.2.sev)).foldl max 0
  if off = 0x070000 then
    pack 0 [(31, 31, b2n s.flt.safe), (30, 30, b2n s.faultNLow), (29, 28, top s.heldList), (27, 27, b2n s.flt.selfFault),
      (9, 0, s.heldList.length)]
  else
    match inTable 0x070040 4 16 off, inTable 0x071000 4 512 off with
    | some (c, _), _ =>
      let l := s.heldClass c
      pack 0 [(31, 30, top l), (29, 29, b2n (s.classUnacked c)), (5, 0, l.length)]
    | none, some (n, _) =>
      let v := s.src n
      pack 0 [(31, 30, v.sev), (29, 29, b2n (v.state != 0)), (28, 28, b2n (v.state == 2)), (27, 27, b2n v.cond),
        (15, 0, min 65535 (s.windowCount n))]
    | none, none => 0

/-- Take rings, journal and output registers (Tables 7-3, 7-7, 7-12). -/
def State.viewTake (s : State) (off : Nat) : Nat :=
  match inTable 0x010000 0x40 4 off, inTable 0x181000 0x10 128 off with
  | some (n, r), _ =>
    if r = 0x0C then
      pack (s.reg off) [(30, 30, b2n (s.ringStalled n)), (29, 29, b2n (decide (0 < s.ringCount n) && (s.ringLast n).isNone))]
    else s.reg off
  | none, some (o, r) =>
    let x := s.out_ o
    if r = 0 then
      pack 0 [(31, 31, b2n (s.outRaster o != 0)), (30, 30, s.num (O.takePending o)), (29, 29, b2n x.conflict), (28, 28, b2n x.hold),
        (27, 27, s.num (O.takeVideoRemote o)), (15, 0, s.outRaster o)]
    else if r = 4 then s.num (O.takeVideoSid o)
    else if r = 8 then s.num (O.takeFrameCount o)
    else s.reg off
  | none, none => if off = 0x180000 then s.ess.takes.jseq else s.reg off

/-- SDI lane registers (R107, Table 3-10): 0 while the lane is not in SDI mode. -/
def State.viewSdi (s : State) (off p r : Nat) : Nat :=
  if s.laneMode p ≠ 1 then 0
  else if r = 0 then
    let l := s.lockState p
    pack 0 [(31, 31, b2n (s.lane p).sd), (30, 30, b2n (decide (2 ≤ l))), (29, 29, b2n (decide (3 ≤ l))), (28, 28, b2n (l == 4)),
      (27, 27, b2n (s.quadAssoc p)), (23, 20, s.num (O.sdiRateDetected p)), (19, 16, s.num (O.sdiLinkNumber p)),
      (15, 0, s.num (O.sdiRasterDetected p))]
  else if r = 0x0C then
    let o := s.laneOutput p
    let f := s.outRaster o
    let m := s.txMappingNow o
    let rate := if m ≥ 2 then (if f % 256 = 1 ∨ f % 256 = 4 ∨ f % 256 = 7 then 5 else 4) else fmtSdiRate f
    if (s.lane p).txOn then
      pack 0 [(31, 31, 1), (30, 30, b2n (s.quadTxNow p)), (27, 24, rate), (23, 22, m), (15, 0, f)]
    else pack 0 [(23, 22, m)]
  else s.reg off

/-- Ethernet lane registers (Table 4-15): 0 while the lane is not in Ethernet mode. -/
def State.viewEth (s : State) (off p r : Nat) : Nat :=
  let st := s.num (O.ethLinkState p)
  let e := s.eth_ p
  let q := if s.ethMember p then p / 4 * 4 else p
  if s.laneMode p ≠ 2 then 0
  else if r = 0 then
    pack 0 [(31, 31, b2n (st == 2)), (30, 30, b2n (st != 0)), (29, 29, b2n (st == 3)), (28, 28, b2n (st == 4)),
      (27, 27, b2n (s.ethMember p)), (26, 25, s.num (O.ethEthRate q)), (24, 23, s.num (O.ethFec q)),
      (13, 0, (s.rxFlows.filter (fun x => byteAt x.2 2 == p && (s.rx (s.rxLead x.1)).active)).length)]
  else if r = 8 then pack (s.reg off) [(20, 16, min 16 e.stamps.length), (15, 0, e.lostId)]
  else if r = 0x10 then e.popSec % 2 ^ 32
  else if r = 0x14 then e.popSec / 2 ^ 32 % 2 ^ 16
  else if r = 0x18 then e.popNs
  else s.reg off

/-- W of slot n as 12.12 lines of its raster (Table 5-7): of the wait that ALIGN_WAIT shows now, or of ALIGN_WAIT where its last wait stands. -/
def State.alignWaitFix (s : State) (n : Nat) : Nat :=
  let f := s.relRaster n
  let (num, den) := rateFrac (f % 256)
  let v := s.int (O.slotAlignWait n)
  if den ≠ 0 ∧ ptToQ16Lines f (s.groupWait n) = v then toUFix 24 12 (s.groupWait n * (num * fmtLines f : Nat)) (den * 1000000000 * ptNs)
  else toUFix 24 12 v 65536

/-- Aligner, store, fabric and link registers (Tables 5-10, 6-13). DESIGN CHOICE (log entry 206): LINK_LANE of a lane of no link packs 0xFF,
and reads 31. -/
def State.viewFab (s : State) (off : Nat) : Nat :=
  match inTable 0x40A000 0x10 240 off, inTable 0x40C000 0x10 128 off, inTable 0x40D000 0x10 12 off with
  | some (n, r), _, _ =>
    if r = 0 then
      let st := s.num (O.slotAlignState n)
      pack 0 [(31, 31, b2n (s.slot n).live), (30, 30, (s.slot n).mode), (29, 27, st), (23, 0, s.alignWaitFix n)]
    else s.reg off
  | none, some (f, r), _ =>
    let l := s.fl f
    if r = 0 then
      pack 0 [(31, 29, s.num (O.flRole f)), (28, 28, b2n l.cwLock), (27, 27, b2n l.deskewed),
        (23, 20, match s.laneLink f with | some (j, _) => j | none => 0), (19, 15, s.num (O.flLinkLane f)),
        (7, 0, min 255 (s.num (O.flEyeMargin f)))]
    else if r = 0x0C then pack (s.reg off) [(31, 31, b2n l.prbsLock)]
    else s.reg off
  | none, none, some (j, r) =>
    if r = 0 then
      pack 0 [(31, 29, s.num (O.linkLinkState j)), (28, 24, s.num (O.linkTxActive j)), (23, 19, s.num (O.linkRxActive j)),
        (18, 17, s.num (O.linkHotSparesLeft j)), (13, 0, min 16383 (s.num (O.linkSubsTx j)))]
    else if r = 8 then s.num (O.linkChargeTx j)
    else if r = 0x0C then s.num (O.linkCapacityTx j)
    else s.reg off
  | none, none, none =>
    if off = 0x40B000 then
      pack 0 [(31, 31, b2n (s.sparesLeft == 0)), (30, 30, 1), (24, 16, s.sparesLeft), (14, 0, s.pagesFree)]
    else s.reg off

/-- Audio port and Stride registers (Tables 8-9, 9-14). -/
def State.viewAudio (s : State) (off : Nat) : Nat :=
  match inTable 0x40E000 8 16 off, inTable 0x40E080 8 8 off, inTable 0x40E100 4 64 off, inTable 0x40F000 0x10 16 off with
  | some (n, 0), _, _, _ =>
    let i := s.asrcOf (s.num (O.aesInSlot n)) (s.num (O.aesInFirstChannel n))
    pack 0 [(31, 30, s.num (O.aesInLockState n)), (29, 28, s.num (O.aesInSync n)), (27, 27, b2n (s.aes n).nonAudio),
      (26, 26, b2n (match i with | some k => s.num (O.asrcState k) == 2 | none => false)), (17, 0, (roundDiv (s.num (O.aesInRateMeasured n) : Nat) 1000).toNat)]
  | none, some (n, 0), _, _ =>
    pack 0 [(31, 30, s.num (O.tdmState n)), (29, 28, s.num (O.tdmSync n)), (6, 0, s.num (O.tdmSlots n))]
  | none, none, some (i, _), _ => s.num (O.asrcRatio i)
  | none, none, none, some (e, 0) =>
    pack 0 [(31, 29, s.num (O.engState e)), (28, 28, b2n (s.num (O.engRate e) == 96)), (12, 0, s.num (O.engStepsUsed e))]
  | none, none, none, some (e, 8) => tget zeroNat s.str.gens e
  | _, _, _, _ =>
    if off = 0x40F400 then 0
    else if off = 0x40F404 then pack (s.reg off) [(31, 31, b2n s.str.fast.isSome), (8, 0, s.str.dropped)]
    else s.reg off

/-- Composition registers (Table 10-7). -/
def State.viewComp (s : State) (off : Nat) : Nat :=
  match inTable 0x414000 0x10 8 off, inTable 0x414200 4 64 off with
  | some (h, 0), _ =>
    pack 0 [(31, 30, s.num (O.headHeadState h)), (21, 16, s.num (O.headEnginesUsed h)), (15, 0, s.num (O.headRaster h))]
  | some (h, 0x0C), _ => (s.head h).frames
  | none, some (c, _) =>
    let on := tget zeroNat s.comp.convOn c
    pack 0 [(31, 30, s.num (O.convConvState c)), (29, 24, tget zeroNat s.comp.place (512 + c) - 1), (23, 16, s.num (O.convOutput c)),
      (15, 0, if on = 0 then 0 else (s.videoRaster (s.outVideo (on - 1))).getD 0)]
  | _, _ =>
    if off = 0x414300 then pack 0 [(31, 30, s.num O.procProcPointActive), (22, 16, s.num O.poolEnginesFree)]
    else if off = 0x414304 then s.num O.poolCompBwReserved
    else s.reg off

/-- Pacer registers (Table 11-9). -/
def State.viewPacer (s : State) (off : Nat) : Nat :=
  if off = 0x415000 then
    pack 0 [(31, 29, s.pacer), (28, 24, s.num O.pacerSelected), (23, 23, b2n (s.num O.pacerTickSource == 0)),
      (22, 22, s.num O.pacerEverLocked),
      (13, 0, (List.range 14).foldl (fun w r => w + b2n (s.qual r == 3) * 2 ^ r) 0)]
  else if off = 0x415008 then s.pt96 / 2 ^ 32 % 2 ^ 32
  else if off = 0x41500C then s.pt96 / 2 ^ 64 % 2 ^ 32
  else if off = 0x415010 then s.pac.frac
  else if off = 0x415014 then twos 32 (s.int O.pacerSteering)
  else if off = 0x415018 then twos 32 ((s.pac.sel.map (fun r => (s.ref r).phase)).getD 0)
  else if off = 0x415020 then pack (s.reg off) [(31, 31, b2n (s.pacer == 5))]
  else if off = 0x415028 then twos 32 s.pac.loopPhase
  else if off = 0x41502C then s.pac.loopSeq
  else s.reg off

/-- Twin registers (Table 12-5). -/
def State.viewTwin (s : State) (off : Nat) : Nat :=
  let t := s.twin
  if off = 0x416000 then
    pack 0 [(31, 31, b2n t.gate), (30, 30, b2n t.claim), (29, 29, b2n t.pclaim), (28, 28, b2n t.grant), (27, 27, b2n t.up),
      (26, 26, s.num O.twinPartnerHealthy), (25, 24, s.num O.twinHbCode), (23, 20, s.num O.twinTwinState),
      (19, 16, s.num O.twinPartnerState), (1, 0, t.role)]
  else if off = 0x416008 then s.num O.twinSyncGeneration
  else s.reg off

/-- Power registers (Table 15-11): FSEL and VSEL read what is in force while MANUAL_DVFS is 0 (R441). -/
def State.viewPower (s : State) (off : Nat) : Nat :=
  if off = 0x417000 then
    pack 0 [(31, 30, s.chip), (29, 28, s.num O.procProcPointActive), (27, 27, s.num O.pwrSupplyDerated), (26, 25, s.num O.ledShedState),
      (24, 22, s.num O.thermThermState), (21, 21, s.num O.procManualDvfs),
      (7, 0, (clampInt 0 255 (roundDiv (s.int O.thermThermHottest) 65536 + 64)).toNat)]
  else if off = 0x417008 then 0
  else if off = 0x41700C then
    let m := s.flag O.procManualDvfs
    pack (s.reg off) ([(31, 31, b2n (s.pwr.heldF.isSome || s.pwr.heldV.isSome)), (25, 24, s.pwr.fact), (17, 16, s.pwr.vact)] ++
      (if m then [] else [(9, 8, s.pwr.fact), (1, 0, s.pwr.vact)]))
  else if off = 0x417010 then s.num O.ledMeasured
  else if off = 0x417014 then s.num O.ledLedgerCost
  else s.reg off

/-- Whether a word belongs to a buffer or table that Window A holds as bytes: the mailbox buffers, the journal and the take rings. -/
def memWord (off : Nat) : Bool :=
  (decide (0x080000 ≤ off) && decide (off < 0x100000) && decide (0x1000 ≤ off % 0x20000)) ||
  (decide (0x100000 ≤ off) && decide (off < 0x180000)) || (decide (0x300000 ≤ off) && decide (off < 0x380000))

/-- The word at an offset of Window A where it answers. -/
def State.regView (s : State) (off : Nat) : Nat :=
  if memWord off then ofLe (s.bytesAt off 4)
  else if off = 0 ∨ (0x100 ≤ off ∧ off < 0x118) then s.viewBoot off
  else if off < 0x010000 then s.viewHost off
  else if off < 0x020000 ∨ (0x180000 ≤ off ∧ off < 0x200000) then s.viewTake off
  else if off < 0x040000 then s.viewHost off
  else if 0x048000 ≤ off ∧ off < 0x048100 then s.viewPba off
  else if 0x070000 ≤ off ∧ off < 0x080000 then s.viewFault off
  else if off < 0x200000 then s.reg off
  else if off < 0x280000 then entryWord (s.rxEntry ((off - 0x200000) / 0x40)) (off % 0x40)
  else if off < 0x300000 then entryWord (s.txEntry ((off - 0x280000) / 0x40)) (off % 0x40)
  else
    match inTable 0x408000 0x10 96 off, inTable 0x409000 0x20 96 off with
    | some (p, r), _ => s.viewSdi off p r
    | none, some (p, r) => s.viewEth off p r
    | none, none =>
      if off < 0x40E000 then s.viewFab off
      else if off < 0x414000 then s.viewAudio off
      else if off < 0x415000 then s.viewComp off
      else if off < 0x416000 then s.viewPacer off
      else if off < 0x417000 then s.viewTwin off
      else s.viewPower off

/-- A word as the host reads it: 0 where Window A does not answer, but for BUSY of the mailbox before phase 4 (R487). -/
def State.wordRead (s : State) (off : Nat) : Nat :=
  if s.winOpen off then s.regView off
  else if (s.num O.startStartPhase < 4 ∨ s.num O.startStartPhase = 6) ∧ 0x080000 ≤ off ∧ off < 0x100000 ∧ off % 0x20000 = 4 then 2 ^ 31
  else 0

/-- The bits of a register that a read clears (R11). -/
def rcMask (off : Nat) : Nat :=
  let in_ (base size n r : Nat) : Bool := match inTable base size n off with | some (_, x) => x == r | none => false
  if off = 0x00000C ∨ off = 0x030050 ∨ off = 0x40B004 ∨ off = 0x41600C then 0xFFFFFFFF
  else if in_ 0x022000 0x20 64 0x10 || in_ 0x023000 0x20 64 0x10 || in_ 0x060000 4 1024 0 || in_ 0x408000 0x10 96 4 ||
      in_ 0x409000 0x20 96 0x1C || in_ 0x40A000 0x10 240 8 || in_ 0x40A000 0x10 240 0x0C || in_ 0x40C000 0x10 128 4 ||
      in_ 0x414000 0x10 8 8 then 0xFFFFFFFF
  else if in_ 0x40C000 0x10 128 0x0C then 0x7FFFFFFF
  else if in_ 0x410000 4 4096 0 then 0xFFFF0000
  else 0

/-- One word is read: what a read of an RC field clears, and the reads that act (R11, R140, R355). -/
def State.readWord (s : State) (off : Nat) : Nat × State :=
  let stamp := match inTable 0x409000 0x20 96 off with | some (p, 0x0C) => if s.laneMode p = 2 then some p else none | _ => none
  if !s.winOpen off then (s.wordRead off, s)
  else
    match stamp with
    | some p => s.popStamp p
    | none =>
      let v := s.regView off
      let s1 := if off = 0x415008 then { s with pac := { s.pac with frac := s.pt96 % 2 ^ 32 } } else s
      (v, if rcMask off = 0 ∨ v &&& rcMask off = 0 then s1 else s1.setReg off (clearBits (s1.reg off) (rcMask off)))

/-- A read of 32 or 64 bits, naturally aligned; a 64-bit read is of one instant (R10). -/
def sizeOk (off size : Nat) : Bool := (size == 4 || size == 8) && off % size == 0

/-- RC_REGISTER_READ (R10, R11). -/
def execRcRegisterRead (off : BitVec 24) (size : Nat) (s : State) : Res :=
  let o := off.toNat
  if s.hif.d3hot then .next s
  else if !sizeOk o size then .next ((s.accessErr 0 o).emit (.regRead o 0))
  else
    let (a, s1) := s.readWord o
    if size = 4 then .next (s1.emit (.regRead o a))
    else
      let (b, s2) := s1.readWord (o + 4)
      .next (s2.emit (.regRead o (b * 2 ^ 32 + a)))

end Sys2Proof.Machine
end

