-- ==== Sys2Proof/Machine/RegWrite.lean ====
section
/-! DEFINITION. A write to Window A (R10, R11): stored fields, W1C bits, and the registers whose write acts. -/

namespace Sys2Proof.Machine

/-- Whether an offset is byte r of an entry of a table. -/
def atByte (base size n r off : Nat) : Bool := match inTable base size n off with | some (_, x) => x == r | none => false

/-- The W1C bits of a register. -/
def w1cMask (off : Nat) : Nat :=
  if off = 0x000004 then 1
  else if off = 0x000114 then 0x30000000
  else if atByte 0x010000 0x40 4 0x0C off then 0x80000000
  else if atByte 0x181000 0x10 128 0x0C off then 0x3F
  else if atByte 0x408000 0x10 96 8 off then 0xFFF
  else if atByte 0x409000 0x20 96 4 off then 0xFFF
  else if atByte 0x409000 0x20 96 8 off then 0x80000000
  else if atByte 0x40A000 0x10 240 4 off then 0x3FF
  else if off = 0x40B008 then 0xF
  else if atByte 0x40C000 0x10 128 8 off then 0x7F
  else if atByte 0x40D000 0x10 12 4 off then 0x1F
  else if atByte 0x40E000 8 16 4 off then 0xF
  else if atByte 0x40E080 8 8 4 off then 3
  else if atByte 0x40F000 0x10 16 4 off then 7
  else if off = 0x40F404 then 0x60000000
  else if atByte 0x414000 0x10 8 4 off then 0x3F
  else if off = 0x415004 then 0xFF
  else if off = 0x416004 then 0x7F
  else if off = 0x417004 then 0x7FF
  else if off = 0x41700C then 0x40000000
  else 0

/-- The fields of a register that a write only stores. -/
def rwMask (off : Nat) : Nat :=
  if off = 0x000108 ∨ off = 0x00010C ∨ off = 0x000110 ∨ off = 0x030048 ∨ off = 0x03004C then 0xFFFFFFFF
  else if 0x001000 ≤ off ∧ off < 0x001400 then 0xFFFF
  else if atByte 0x010000 0x40 4 0 off then 0x1FFF
  else if atByte 0x010000 0x40 4 8 off then 0xC7FF0000
  else if atByte 0x022000 0x20 64 0 off || atByte 0x022000 0x20 64 4 off || atByte 0x023000 0x20 64 0 off ||
      atByte 0x023000 0x20 64 4 off then 0xFFFFFFFF
  else if atByte 0x028000 4 512 0 off then 0x80007FFF
  else if 0x030000 ≤ off ∧ off < 0x030040 then (if off % 8 = 0 then 0xFFFFF000 else 0x000FFFFF)
  else if atByte 0x080000 0x20000 4 8 off then 0x07FF0007
  else if off = 0x180004 then 0x87FF3FFF
  else 0

/-- A write of a DMA channel's registers (R393): BASE, CLASS, ASID and LOG2_SIZE are ignored while ENABLE is 1; clearing ENABLE stops
the channel at a 4 KiB boundary that no operand of this command gives: a free value (log entry 119). -/
def State.dmaWrite (s : State) (c r v : Nat) : State :=
  let on := bitOf (s.reg (rDmaCtrl c)) 31
  if r = 0 ∨ r = 4 then (if on then s else s.setReg (0x020000 + 0x40 * c + r) v)
  else if r = 8 then
    (if !on then s.setReg (rDmaCtrl c) (keepBits v 0xFFE007FF)
     else
       let keep := s.reg (rDmaCtrl c)
       let s1 := s.setReg (rDmaCtrl c) (pack keep [(30, 30, fld v 30 30), (10, 0, fld v 10 0)])
       if bitOf v 31 then s1 else s1.freeNat.2.chanOff c s1.freeNat.1)
  else if r = 0x10 then (if bitOf v 31 then s.setDch c { s.dch c with halted := false } else s)
  else s

/-- A write of a receive or transmit ring's RING_CTRL (Table 13-8): clearing ENABLE returns HEAD and TAIL to 0, as for a DMA channel. -/
def State.ringCtrlWrite (s : State) (r v : Nat) : State :=
  let on := bitOf (s.reg (rRing r + 8)) 31
  let s1 := s.setReg (rRing r + 8) (keepBits v 0xCFE007FF)
  if on && !bitOf v 31 then
    (s1.setRing r ⟨0, []⟩).setReg (if r < 64 then 0x001200 + 4 * r else 0x001300 + 4 * (r - 64)) 0
  else s1

/-- A write of the MSI-X table or a moderation register (R390, R391). -/
def State.msixWrite (s : State) (off v : Nat) : State :=
  if off < 0x048000 then
    (s.setReg off (if off % 16 = 12 then v % 2 else if off % 16 = 0 then v / 4 * 4 else v)).vecTry ((off - 0x040000) / 16)
  else if 0x049000 ≤ off then (s.setReg off (v % 65536)).vecTry ((off - 0x049000) / 4)
  else s

/-- A write of PWR_PROC: REFUSED is W1C, VSEL and FSEL are requests (R441). -/
def State.procWrite (s : State) (v : Nat) : State :=
  let s1 := s.setReg rPwrProc (clearBits (s.reg rPwrProc) (keepBits v 0x40000000))
  if s1.flag O.procManualDvfs then (s1.vsel (fld v 1 0)).fsel (fld v 9 8) else s1

/-- One word is written where Window A answers. -/
def State.writeWord (s : State) (off v : Nat) : State :=
  match inTable 0x020000 0x40 128 off, inTable 0x022000 0x20 64 off, inTable 0x023000 0x20 64 off, inTable 0x050000 0x10 32 off with
  | some (c, r), _, _, _ => s.dmaWrite c r v
  | none, some (r, 8), _, _ => s.ringCtrlWrite r v
  | none, none, some (r, 8), _ => s.ringCtrlWrite (64 + r) v
  | none, none, none, some (g, r) => if r = 12 then s else (s.evtWrite g (r / 4 + 1) v).noteBank [objKey (0xA400 + g) (r / 4 + 1)]
  | _, _, _, _ =>
    if 0x040000 ≤ off ∧ off < 0x04B000 then s.msixWrite off v
    else if off = 0x030040 then s.tlbInv v
    else if off = 0x070008 then s.faultAckReg v
    else if atByte 0x080000 0x20000 4 0 off then
      s.mbxDoorbell ((off - 0x080000) / 0x20000) v
    else if atByte 0x080000 0x20000 4 4 off then s.mbxRelease ((off - 0x080000) / 0x20000) v
    else if off = 0x40F400 then s.fastCommit v
    else if 0x40F800 ≤ off ∧ off < 0x410000 then
      (if s.str.fast.isSome then s else s.setReg off (if off % 8 = 0 then keepBits v 0xC0007FFF else v))
    else if off = 0x415020 then s.loopCtrlWrite v
    else if off = 0x415024 then s.dcoWrite v
    else if off = 0x417008 then (if bitOf v 31 then s.wakeSource 0 else s)
    else if off = 0x41700C then s.procWrite v
    else if (memWord off && decide (off < 0x100000) && decide (off % 0x20000 < 0x10000)) || decide (0x300000 ≤ off ∧ off < 0x380000) then
      s.setBytesAt off (leBytes 4 v)
    else if w1cMask off ≠ 0 then s.setReg off (clearBits (s.reg off) (keepBits v (w1cMask off)))
    else if rwMask off ≠ 0 then s.setReg off (keepBits v (rwMask off))
    else s

/-- REGISTER_WRITE (R10, R11): 32 or 64 bits, naturally aligned; a write of any other form is discarded and recorded. -/
def execRegisterWrite (off : BitVec 24) (size : Nat) (value : Quad) (s : State) : Res :=
  let o := off.toNat
  let v := value.toNat
  let one (x : State) (a w : Nat) : State := if x.winOpen a then x.writeWord a w else x
  if !sizeOk o size then .next (if s.hif.d3hot then s else s.accessErr 0 o)
  else if size = 4 then .next (one s o (v % 2 ^ 32))
  else .next (one (one s o (v % 2 ^ 32)) (o + 4) (v / 2 ^ 32))

end Sys2Proof.Machine
end

