-- ==== Sys2Proof/Machine/HostReset.lean ====
section
/-! DEFINITION. Resets of the host interface alone (R386, R487). -/

namespace Sys2Proof.Machine

/-- Whether a Window A word belongs to the host interface: its status, doorbells, take rings, DMA channels and rings, the Window B map,
translation, the MSI-X table and its moderation, and the mailbox channels' registers. -/
def hostReg (off : Nat) : Bool :=
  (decide (4 ≤ off) && decide (off < 0x100)) || (decide (0x001000 ≤ off) && decide (off < 0x001400)) ||
  (decide (0x010000 ≤ off) && decide (off < 0x04B000)) || (decide (0x080000 ≤ off) && decide (off < 0x100000) && decide (off % 0x20000 < 12))

/-- The host interface returns to its reset state with a cause of event 0xE082: rings, channels and vectors are disabled, a descriptor
in progress is not completed, undecoded take batches are discarded, and the mailbox sessions end as on CLOSE. -/
def State.hostReset (s : State) (cause : Nat) : State :=
  let s1 : State := { s with
    regs := s.regs.filter (fun p => !hostReg p.1)
    hif := { s.hif with
      msixEnabled := false
      funcMask := false
      pba := []
      lastMsg := []
      d3hot := false
      dma := []
      tlb := []
      inv := none
      invQueue := []
      rings := [] }
    ess := { s.ess with takes := { s.ess.takes with drop := [] } } }
  let s2 := (List.range 4).foldl (fun (x : State) i => x.endSession i 0) s1
  ({ s2 with dict := { s2.dict with
    attempts := s2.dict.attempts.filter (fun a => !a.source.isEmpty)
    mbxWait := s2.dict.mbxWait.filter (fun p => decide (4 ≤ p.1)) } }).raise 0xE082 (p8 cause)

/-- HOST_INTERFACE_RESET: a Function Level Reset, a hot reset, or a loss of the PCIe link (R386). -/
def execHostInterfaceReset (cause : Fin 3) (s : State) : Res :=
  let s1 := s.hostReset (cause.val + 1)
  .next (if cause.val = 2 then s1.setHif { s1.hif with speed := 0, width := 0 } else s1)

/-- PCIE_PERST (R487): as a hot reset. -/
def execPciePerst (s : State) : Res := .next (s.hostReset 2)

end Sys2Proof.Machine
end

