-- ==== Sys2Proof/Machine/StartCore.lean ====
section
/-! DEFINITION. Start phases, start failures and the reset state (R486, R490, R496), as the steps of a start share them. -/

namespace Sys2Proof.Machine

/-- Milliseconds after the release of RESET_N at which a phase was entered. -/
def State.phaseMs (s : State) (p : Nat) : Nat := (tget zeroNat s.upd.phaseAt p - 1) / tickMs

/-- The tick at which phase 4 began. -/
def State.phase4At (s : State) : Nat := tget zeroNat s.upd.phaseAt 4 - 1

/-- A phase is entered at a tick (Table 17-1); phases from 4 on raise event 0x1003 as they are entered (R490). -/
def State.enterPhase (s : State) (p t : Nat) : State :=
  let s1 := (s.setNum O.startStartPhase p).setUpd { s.upd with phaseAt := tset zeroNat s.upd.phaseAt p (t + 1) }
  if 4 ≤ p then s1.raise 0x1003 (p8 p ++ p32 (s1.phaseMs p)) else s1

/-- The start fails with a cause (R496, Table 17-3): a restart after `wait` ticks, or phase 6 after the third. -/
def State.startFail (s : State) (cause wait : Nat) : State :=
  let n := s.num O.startStartRetries
  let s1 := (s.setNum O.startStartFail cause).setPwr { s.pwr with bring := [] }
  let s2 := s1.raise 0x1005 (p8 cause ++ p8 n)
  if 3 ≤ n then s2.enterPhase 6 s2.now else s2.setUpd { s2.upd with restartAt := s2.now + wait + 1 }

/-- The start halts at once (Table 17-3, cause 3). -/
def State.startHalt (s : State) (cause : Nat) : State :=
  (((s.setNum O.startStartFail cause).setPwr { s.pwr with bring := [] }).raise 0x1005 (p8 cause ++ p8 (s.num O.startStartRetries))).enterPhase 6 s.now

/-- Whether a start is under way: phases 1 to 3, neither failed nor halted by its life cycle. -/
def State.booting (s : State) : Bool :=
  decide (1 ≤ s.num O.startStartPhase) && decide (s.num O.startStartPhase ≤ 3) && s.upd.restartAt == 0 && s.upd.stage != 5

/-- A key slot as the flash holds it: what was pending is lost with the reset. -/
def KeySlot.stored (k : KeySlot) : KeySlot :=
  match k.pend with
  | none => k
  | some _ => { k with pend := none, state := if k.state = 2 then (if k.key.isEmpty then 0 else 1) else k.state }

/-- Every part of the device returns to its reset state (R486) but fuses, the boot flash, the retired pages, the levels on its pins, the
next SESSION value (R63), and the model's own queue, outbox and free values. -/
def State.resetState (s : State) (retries : Nat) : State :=
  let u := s.upd
  let st := s.ess.store
  let r := State.reset
  let s1 : State := { r with
    out := s.out
    free := s.free
    fuses := s.fuses
    pending := s.pending
    dict := { r.dict with nextId := s.dict.nextId }
    evr := { r.evr with
      flash := s.evr.flash
      flashPos := s.evr.flashPos
      seq := s.evr.seq
      cycles := s.evr.cycles
      opBase := s.evr.opSaved
      opSaved := s.evr.opSaved }
    ess := { r.ess with
      store := { r.ess.store with
        mapped := st.mapped
        retired := st.retired
        spentSpares := st.spentSpares
        badSpares := st.badSpares
        lostPages := st.lostPages } }
    pac := { r.pac with ocxo := s.pac.ocxo }
    twin := { r.twin with
      pclaim := s.twin.pclaim
      grant := s.twin.grant }
    upd := { UpdSt.blank with
      lc := u.lc
      lcNo := u.lcNo
      rollback := u.rollback
      revoked := u.revoked
      rootBlown := u.rootBlown
      keys := u.keys.map (fun (p : Nat × KeySlot) => (p.1, p.2.stored))
      identity := u.identity
      slots := u.slots
      banks := u.banks.map (fun (p : Nat × Bank) => (p.1, { p.2.settle s.now with writes := [] }))
      active := u.active
      trialStarts := u.trialStarts
      fallbacks := u.fallbacks } }
  s1.setNum O.startStartRetries retries

/-- RESET_N is released (R488): phase 1, ticks and PT96 count from 0 from OCXO_IN where it is present, and the bring-up steps run from
W2. -/
def State.resetRelease (s : State) (ocxo : Bool) : State :=
  let s1 : State := { s with
    tm := { ticks := 0, pt := 0, inc := 5 * 2 ^ 62 }
    pac := { s.pac with ocxo := ocxo } }
  let s2 := ((s1.enterPhase 1 0).setNum O.pacerTickSource (if ocxo then 0 else 1)).setNum O.pwrChipState 3
  s2.setPwr { s2.pwr with bring := s2.stepsFrom (bringTable.drop 1) }

end Sys2Proof.Machine
end

