-- ==== Sys2Proof/Machine/PowerSeq.lean ====
section
/-! DEFINITION. The steps of Bench entry (Table 15-2) and of bring-up (Table 15-3), for Bench and for a start (R434, R435, R437, R488). -/

namespace Sys2Proof.Machine

/-- The first frame start of output o at or after Pacer time t. -/
def State.nextStart (s : State) (o t : Nat) : Nat :=
  let v := s.outVideo o
  let lo := s.outRaster o % 256
  let off := s.outTime o v 0 1
  let k := gridFrame lo (t - off)
  if t ≤ s.outTime o v k 1 then s.outTime o v k 1 else s.outTime o v (k + 1) 1

/-- Whether the entry step under way is over (Table 15-2): E1 1 ms after the last running output stopped, the others after their times. -/
def State.entryDue (s : State) : Bool :=
  let p := s.pwr
  let ms (n : Nat) : Bool := decide (p.entryAt + n * tickMs ≤ s.now)
  match p.entry with
  | 1 => ms 1 && (List.range 128).all (fun o => !s.outRuns o ||
      decide (s.nextStart o (s.ptAt p.entryAt) + 1000000 * ptNs ≤ s.tm.pt))
  | 2 => ms 1
  | 3 => ms 2
  | 4 => ms 2
  | _ => false

/-- Every subscription held over the link to device j is released with UNSUB, to be requested again (R434, R435). -/
def State.unsubAll (s : State) (j : Nat) : State :=
  let l := s.link j
  let lost := l.subs.map (fun (p : Nat × HeldSub) => (p.2.sid, p.2.count, p.2.purpose))
  let s1 := s.setLink j { l with lost := l.lost ++ lost }
  if l.subs.isEmpty then s else (l.subs.foldl (fun (x : State) p => x.dropHeld j p.1) s1).linkObjs j

/-- E1: outputs, Stride and scaler engines stop, and Relay subscriptions are released. -/
def State.entryE1 (s : State) : State :=
  let s1 := (List.range 12).foldl (fun (x : State) j => x.unsubAll j) (s.setPwr { s.pwr with stopped := true })
  (List.range 240).foldl (fun (x : State) n => x.slotClear n) s1

/-- E3: fabric and twin-link lanes off; a port lane is in Jog in Bench if its JOG_WAKE is 1, else Parked (R432). -/
def State.entryE3 (s : State) : State :=
  let s1 := (s.fabStop).tlDown 1
  (List.range 96).foldl (fun (x : State) p => x.setLanePower p (if x.flag (O.jogJogWake p) then 1 else 2)) s1

/-- E4 ends: Bench. A wake source seen since the last abort point, or active now, starts waking at once (R435, R436). -/
def State.entryE4 (s : State) (active : Nat) : State :=
  let m := (active ||| s.pwr.latch) &&& s.num O.pwrWakeMask
  let s1 := (s.setPwr { s.pwr with entry := 0, benchAt := s.now, latch := 0 }).setChip 2
  if s1.pwr.tripped then s1
  else match (List.range 9).find? (fun b => bitOf m b) with
    | some b => s1.wakeBegin b
    | none => s1

/-- The entry is abandoned at an abort point by a wake source (R435). -/
def State.entryAbort (s : State) (ap cause : Nat) : State :=
  let s1 := ((s.setNum O.pwrLastAbort ap).bump O.pwrFalseStarts).pwrEvent 0 0x9003 (p8 ap ++ p8 cause)
  s1.setPwr { s1.pwr with entry := 0, latch := 0, bring := s1.stepsFrom (abortTable ap) }

/-- BENCH_ENTRY_STEP (R434, R435): the step under way ends, and its abort point tests the enabled wake sources. -/
def execBenchEntryStep (active : BitVec 9) (at_ : Nat) (s0 : State) : Res :=
  let s := s0.toTick at_
  let e := s.pwr.entry
  if s.chip ≠ 1 ∨ !s.entryDue then .next s
  else if e = 4 then .next (s.entryE4 active.toNat)
  else
    let s1 := if e = 1 then s.entryE1 else if e = 3 then s.entryE3 else s
    let m := (active.toNat ||| s1.pwr.latch) &&& s1.num O.pwrWakeMask
    let hit := (List.range 9).find? (fun b => bitOf m b)
    match s1.pwr.noAbort, hit with
    | false, some b => .next (s1.entryAbort e b)
    | _, _ => .next (s1.setPwr { s1.pwr with entry := e + 1, entryAt := s1.now })

/-- Whether the bring-up steps under way are those of a start, not of a waking or of an abandoned entry. -/
def State.starting (s : State) : Bool := s.chip == 3 && s.pwr.benchAt == 0

/-- The Starting Block begins, 1.5 ms after the release (R488). -/
def State.bootBegin (s : State) : State :=
  if s.num O.startStartPhase = 1 then
    (let s1 := s.enterPhase 2 1200000
     s1.setUpd { s1.upd with stage := 1 })
  else s

/-- W7 of a start: an essence store that is not ready is retrained once and tested 4 ms later, then the start halts (Table 17-3). -/
def State.storeNotReady (s : State) : State :=
  if s.upd.storeTries = 0 then
    (let s1 := s.setUpd { s.upd with storeTries := 1 }
     s1.setPwr { s1.pwr with bring := (7, s1.now + 4 * tickMs) :: s1.pwr.bring })
  else s.startHalt 3

/-- W8: lanes powered, fabric lanes training, port lanes to their LANE_POWER. At a start the lanes have no firmware yet (R488). -/
def State.bringW8 (s : State) : State :=
  if s.starting then s
  else (List.range 96).foldl (fun (x : State) p => x.setLanePower p (x.num (O.jogLanePower p))) s.fabStart

/-- W9: the Stride engines are reloaded and begin at zero state; at a start the reload waits for the loads (R488). -/
def State.bringW9 (s : State) : State :=
  if s.starting then s
  else { s with str := { s.str with
    runs := []
    ex := []
    dests := []
    meters := []
    ahead := [] } }

/-- W10: CHIP_STATE 0; essence comes back, subscriptions are requested again, the processing domain moves to PROC_POINT, which ends the ledger's
steps of the point. At a start it
moves once the settings are applied (R488). -/
def State.bringW10 (s : State) : State :=
  let start := s.starting
  let s1 := (s.setPwr { s.pwr with stopped := false }).setChip 0
  let s2 := (List.range 12).foldl (fun (x : State) j => if (x.link j).up then x.askAgain j else x) s1
  if start then s2
  else ((s2.setPwr { s2.pwr with shed := s2.pwr.shed.filter (fun p => p.1 != 3) }).startPoint (s2.num O.procProcPoint) 1).shedObj

/-- A rail outside ±3 % aborts waking: the chip stays in Bench (R437). -/
def State.wakeFails (s : State) : State :=
  ((s.setPwr { s.pwr with bring := [], benchAt := s.now }).setChip 2).pwrEvent 1 0x9004 (p8 0xFF)

/-- One bring-up step. -/
def State.bringStep (s : State) (step : Nat) (railOk : Bool) : State :=
  match step with
  | 2 => if railOk then s else if s.starting then s.startFail 1 tickS else s.wakeFails
  | 4 => if s.starting then s.bootBegin else s.setPwr { s.pwr with vact := s.volt 0 }
  | 5 =>
    if !railOk then (if s.starting then s.startFail 2 tickS else s.wakeFails)
    else if s.starting then s
    else (s.setPwr { s.pwr with fact := 0, point := none }).setNum O.procProcPointActive 0
  | 7 => if s.starting && !railOk then s.storeNotReady else s
  | 8 => s.bringW8
  | 9 => s.bringW9
  | 10 => s.bringW10
  | _ => s

/-- BRING_UP_STEP (R437, R488): the first step still to run, at its time. -/
def execBringUpStep (railOk : Bool) (at_ : Nat) (s0 : State) : Res :=
  let s := s0.toTick at_
  match s.pwr.bring with
  | [] => .next s
  | (step, t) :: rest =>
    if s.now < t then .next s
    else .next ((s.setPwr { s.pwr with bring := rest }).bringStep step railOk)

end Sys2Proof.Machine
end

