-- ==== Sys2Proof/Machine/UpdSeq.lean ====
section
/-! DEFINITION. The control-plane pause of an activation or a running fall-back (R477, R480), and recovery (R471). -/

namespace Sys2Proof.Machine

/-- The objects that show the running image: FIRMWARE_VERSION, COMPAT_LEVEL_MAX and COMPAT_LEVEL_MIN. -/
def State.imageObjs (s : State) (k : Nat) : State :=
  let i := (s.img k).info
  ((s.setNum O.idFirmwareVersion i.fw).setNum O.compatCompatLevelMax i.cmax).setNum O.compatCompatLevelMin i.cmin

/-- An image runs above the stored level (R71): its own COMPAT_LEVEL_MIN becomes active, with event 0x1002. -/
def State.levelUp (s : State) (k stored : Nat) : State :=
  let i := (s.img k).info
  (s.setNum O.compatCompatLevelActive i.cmin).raise 0x1002 (p16 stored ++ p16 i.cmin ++ p32 i.fw)

/-! ### The pause (R477) -/

/-- The pause begins: the new image is started; PHY firmware that differs waits for the next start (R472). -/
def State.pauseOn (s : State) (a : Activation) : State :=
  let s1 := s.setUpd { s.upd with paused := true, handing := false, act := some { a with pauseAt := s.now } }
  if Config.phyFirmware (s1.img a.from_).image = Config.phyFirmware (s1.img a.to_).image then s1
  else
    let (k, s2) := s1.freeNat
    s2.raise 0xD00A (p8 k)

/-- PAUSE_BEGIN (R477, R480): a fall-back asked for begins, and one of a holder with a healthy partner first hands the Baton over. -/
def execPauseBegin (at_ : Nat) (s0 : State) : Res :=
  let t := s0.toTick at_
  let s := if t.upd.act.isNone && t.upd.fallBack != 0 then t.fallBegin t.upd.fallBack else t
  match s.upd.act with
  | none => .next s
  | some a =>
    if s.upd.paused then .next s
    else if s.upd.handing && s.twin.gate && s.flag O.twinPartnerHealthy then
      .next (if s.twinState = 7 then s else (s.relinquishWrite 1).2)
    else .next (s.pauseOn a)

/-- An area's running set was replaced by the management cores: its commit objects and event 0x0010. -/
def State.noteReplaced (s : State) (a : Nat) : State :=
  let s1 := (s.bump (objKey a 6)).setNum (objKey a 7) s.pt96
  s1.raise 0x0010 (p16 (areaBase a) ++ p32 0 ++ p32 (s1.num (objKey a 6)))

/-- Areas whose kept objects differ between two states. -/
def areasChanged (a b : State) : List Nat :=
  areaCtls.filter (fun x => (tkeys a.objs ++ tkeys b.objs ++ evtKeys).any (fun k =>
    areaOf (keyIx k) == x && bankKeeps k && decide (a.setting k ≠ b.setting k)))

/-- The settings of the bank entered replace the running sets, as one linked commit without a hurdle (R474, R480); objects fall to the
defaults they had at the level that is then active (R70, R71). -/
def State.bankIn (s0 : State) (a : Activation) : State :=
  let old := tget bankBlank s0.upd.banks a.from_
  let b := tget bankBlank s0.upd.banks a.to_
  let s := match old.level with
    | some l => if a.cause = 0 ∧ l < (s0.img a.to_).info.cmin then s0.levelUp a.to_ l else s0
    | none => s0
  let s1 := (s.levelDefaults bankKeeps).replaceSets bankKeeps b.vals areaCtls
  let s2 := (areasChanged s s1).foldl (fun (x : State) r => x.noteReplaced r) s1
  if a.cause = 0 then s2.raise 0xD007 (p16 old.fmt ++ p16 b.fmt) else s2

/-- The image entered was verified again (R477) and runs, as a trial after an activation, by itself after a fall-back (R478, R480). -/
def State.imageRuns (s : State) (a : Activation) : State :=
  let u := { s.upd with result := tset zeroNat s.upd.result a.to_ (s.imageResult (s.img a.to_).image) }
  let s1 := s.setUpd (if a.cause = 0 then
      { u with booted := a.to_, act := none, paused := false, ust := 6, trial := true, trialAt := s.now,
               trialTime := s.num O.updConfirmTimeout, trialHost := s.flag O.updRequireHostConfirm, confirmAt := 0, healthAt := s.now,
               fallBack := 0 }
    else { u with booted := a.to_, act := none, paused := false, ust := 0, trial := false, trialStarts := 0, fallBack := 0 })
  let s2 := s1.imageObjs a.to_
  s2.setNum O.compatCompatLevelActive (min (s2.num O.compatCompatLevelActive) (s2.num O.compatCompatLevelMax))

/-- What the twin does at the end of a pause: a non-holder whose running sets were replaced starts at generation 0 and rejoins, and so
does one whose queue of mirror messages was too short; otherwise the queue runs (R477). -/
def State.pauseTwin (s : State) (fresh : Bool) : State :=
  let l := s.upd.heldTl
  let s1 := s.setUpd { s.upd with heldTl := [], heldBytes := 0 }
  if s.twin.role = 0 ∨ s.twin.gate then s1
  else if fresh then
    (let s2 := s1.setNum O.twinSyncGeneration 0
     if s2.twin.up then s2.toJoining else s2)
  else if heldLimit < s.upd.heldBytes then (if s1.twin.up then s1.toJoining else s1)
  else l.foldl (fun (x : State) i => x.runTl i) s1

/-- References that are present start a new window as the servo resumes (R335). -/
def State.winsAgain (s : State) : State :=
  (List.range 14).foldl (fun (x : State) r => if (x.ref r).present then x.winBegin r else x) s

/-- Held messages execute in their order of arrival (R47). -/
def State.runHeldAll (s : State) : State :=
  let l := s.upd.heldRecs
  l.foldl (fun (x : State) i => x.runRecord i) (s.setUpd { s.upd with heldRecs := [], heldMsgs := 0, heldDrop := false })

/-- PAUSE_END (R477, R480). -/
def execPauseEnd (at_ : Nat) (s0 : State) : Res :=
  let s := s0.toTick at_
  match s.upd.act, s.upd.paused with
  | some a, true =>
    let s0 := s.imageObjs a.to_
    let s1 := if a.fresh then (s0.setNum O.compatCompatLevelActive (min (s0.num O.compatCompatLevelActive)
      (s0.num O.compatCompatLevelMax))).bankIn a else s
    let s2 := (s1.imageRuns a).raise 0xD004 (p32 ((s.now - a.pauseAt) / tickMs))
    .next (((s2.winsAgain).pauseTwin a.fresh).twinCheck).runHeldAll
  | _, _ => .next s

/-- CONFIRM_LEFT_EXPIRY (R480, cause 1). -/
def execConfirmLeftExpiry (at_ : Nat) (s0 : State) : Res :=
  let s := s0.toTick at_
  if !s.upd.trial || s.confirmLeft != 0 || s.upd.act.isSome then .next s else .next (s.fallBegin 1)

/-! ### Recovery (R471, Table 16-11) -/

/-- RECOVERY_CTRL. -/
def rRecovery : Nat := 0x000114

/-- RECOVERY_GO: a word written to RECOVERY_CTRL. DONE and FAILED clear on 1; GO starts the read of
RECOVERY_LEN bytes in STAGE 4 while none is under way. -/
def execRecoveryGo (w : Word) (image : List Byte) (s : State) : Res :=
  if !s.winOpen rRecovery then .next s
  else
    let v := s.reg rRecovery
    let clear := (if bitOf w.toNat 29 && bitOf v 29 then 2 ^ 29 else 0) + (if bitOf w.toNat 28 && bitOf v 28 then 2 ^ 28 else 0)
    let s1 := s.setReg rRecovery (v - clear)
    if bitOf w.toNat 31 && s1.upd.stage == 4 && s1.upd.recov.isNone && s1.upd.restartAt == 0 then
      .next (s1.setUpd { s1.upd with recov := some (image.take (s1.reg 0x000110), s1.now) })
    else .next s1

/-- RECOVERY_DONE: the image is verified (R469); a good one is written to slot 0 as TRIAL, with
the values of the bank it leaves (R474), and the device restarts. -/
def execRecoveryDone (at_ : Nat) (s0 : State) : Res :=
  let s := s0.toTick at_
  match s.upd.recov with
  | none => .next s
  | some (b, _) =>
    let r := s.imageResult b
    let v := setFld (s.reg rRecovery) 3 0 r
    if r ≠ 1 then .next ((s.setUpd { s.upd with recov := none }).setReg rRecovery (setFld v 28 28 1))
    else
      let s0 := s.setBank 0 (tget bankBlank s.upd.banks s.upd.active)
      let s1 := s0.setImg 0 ⟨2, 0, headerInfo b, b⟩
      .next ((s1.setUpd { s1.upd with recov := none, active := 0, trialStarts := 0, restartAt := s1.now + 1 }).setReg rRecovery
        (setFld v 29 29 1))

end Sys2Proof.Machine
end

