-- ==== Sys2Proof/Machine/Start.lean ====
section
/-! DEFINITION. Reset and start-up to the first frame (R486–R498, R470, R472): the commands of a start. -/

namespace Sys2Proof.Machine

/-- RESET_ASSERT (R486): RESET_N low for 10 µs. -/
def execResetAssert (at_ : Nat) (s0 : State) : Res := .next ((s0.toTick at_).resetState 0)

/-- RESET_RELEASE (R488). -/
def execResetRelease (ocxo : Bool) (s : State) : Res :=
  .next (if s.num O.startStartPhase = 0 then s.resetRelease ocxo else s)

/-- START_RESTART (R496): an internal reset, counted by START_RETRIES, and its release. -/
def execStartRestart (at_ : Nat) (s0 : State) : Res :=
  let s := s0.toTick at_
  if s.upd.restartAt = 0 ∨ s.now + 1 < s.upd.restartAt then .next s
  else .next ((s.resetState ((s.num O.startStartRetries + 1) % 256)).resetRelease s.pac.ocxo)

/-! ### The Starting Block (R470) -/

/-- The result of verifying the image in slot k is noted; a failing slot is marked rejected. -/
def State.bootVerify (s : State) (k : Nat) : Bool × State :=
  let x := s.img k
  let r := s.imageResult x.image
  let s1 := s.setUpd { s.upd with result := tset zeroNat s.upd.result k r }
  if r = 1 then (true, s1.setImg k { x with info := headerInfo x.image })
  else (false, s1.setImg k { x with state := 3, reject := r })

/-- Where the boot ended: the slot booted, if any; the slots rejected, in order; the cause of a fall-back, 0 none. -/
structure BootEnd where
  slot : Option Nat
  rejected : List Nat
  cause : Nat
deriving DecidableEq, Repr

/-- Steps 3 to 7: the slot in ACTIVE_SLOT, then the other. -/
def State.bootPick (s : State) : BootEnd × State :=
  let k := s.upd.active
  let o := 1 - k
  let trial := (s.img k).state == 2
  let s1 := if trial then s.setUpd { s.upd with trialStarts := s.upd.trialStarts + 1 } else s
  if trial && decide (3 < s1.upd.trialStarts) then
    let s2 := s1.setImg k { s1.img k with state := 3 }
    let (ok, s3) := s2.bootVerify o
    if ok then (⟨some o, [], 3⟩, s3) else (⟨none, [o], 0⟩, s3)
  else
    let (ok, s2) := s1.bootVerify k
    if ok then (⟨some k, [], 0⟩, s2)
    else if (s2.img o).state ≠ 1 then (⟨none, [k], 0⟩, s2)
    else
      let (ok2, s3) := s2.bootVerify o
      if ok2 then (⟨some o, [k], 4⟩, s3) else (⟨none, [k, o], 0⟩, s3)

/-- Slots rejected at the start raise event 0xD00B. -/
def State.bootRejects (s : State) (l : List Nat) : State :=
  l.foldl (fun (x : State) k => x.raise 0xD00B (p8 k ++ p8 (tget zeroNat x.upd.result k))) s

/-- Phase 3 begins: the recorder starts with the records of phases 1 to 3 (R490), and the subordinate processors load (R472). -/
def State.bootDone (s : State) (e : BootEnd) (k : Nat) : State :=
  let from_ := s.upd.active
  let trial := (s.img k).state == 2
  let s1 := { s with evr := { s.evr with cycles := s.evr.cycles + 1 } }
  let s2 := s1.enterPhase 3 s1.now
  let s3 := s2.setUpd { s2.upd with
    stage := 2
    loadAt := s2.now
    booted := k
    active := k
    trialStarts := if trial then s2.upd.trialStarts else 0
    trial := trial
    trialAt := 0
    trialTime := s2.num O.updConfirmTimeout
    ust := if trial then 6 else 0 }
  let s4 := [1, 2, 3].foldl (fun (x : State) p => x.raise 0x1003 (p8 p ++ p32 (x.phaseMs p))) s3
  let s5 := (s4.bootRejects e.rejected).imageObjs k
  if e.cause = 0 then s5 else s5.fallEvent e.cause from_ k

/-- The slots whose integrity tag fails the check of the start (R460); the recorder keeps their events once it has started (R490). -/
def State.keysChecked (s : State) (failed : List (Fin 256)) : State := failed.foldl (fun (x : State) n => x.tagFail n.val) s

/-- STARTING_BLOCK (R470, R471): not before 1.5 ms (R488). A Decommissioned device loads no image (R456). -/
def execStartingBlock (failed : List (Fin 256)) (at_ : Nat) (s0 : State) : Res :=
  let s := s0.toTick at_
  if !s.booting ∨ 3 ≤ s.num O.startStartPhase ∨ s.upd.stage = 4 ∨ s.now < 1200000 then .next s
  else
    let s1 := s.bootBegin
    if s1.upd.lc = 4 then .next (s1.setUpd { s1.upd with stage := 5 })
    else
      let (e, s2) := s1.bootPick
      match e.slot with
      | some k => .next (((s2.bootDone e k).fusedEffects).keysChecked failed)
      | none =>
        let s3 := ((s2.fusedEffects).keysChecked failed).bootRejects e.rejected
        let s4 := s3.setUpd { s3.upd with stage := 4 }
        .next ((s4.setNum O.startStartFail 4).raise 0x1005 (p8 4 ++ p8 (s4.num O.startStartRetries)))

/-! ### Loads and settings (R472–R474, R489) -/

/-- The bank that the booted image reads, made its own: another format leaves the carried set alone (R474); a blank bank takes the
image's format. -/
def State.bankAtStart (s : State) : State :=
  let k := s.upd.booted
  let i := (s.img k).info
  let b := tget bankBlank s.upd.banks k
  if b.vals.isEmpty then s.setBank k ⟨i.fmt, [], []⟩
  else if b.foreign i then
    (s.setBank k ⟨i.fmt, b.vals.filter (fun p => carried p.1), []⟩).raise 0xD007 (p16 b.fmt ++ p16 i.fmt)
  else s

/-- COMPAT_LEVEL and COMPAT_LEVEL_ACTIVE at a start (R69, R71): the stored level, or the image's own minimum above it; a bank that stores
none takes the image's own level. -/
def State.levelAtStart (s : State) : State :=
  let k := s.upd.booted
  let i := (s.img k).info
  let b := tget bankBlank s.upd.banks k
  match b.level with
  | some l => if l < i.cmin then s.levelUp k l else s.setNum O.compatCompatLevelActive (min l i.cmax)
  | none => (s.setNum O.compatCompatLevel i.cmax).setNum O.compatCompatLevelActive i.cmax

/-- An area's stored record is applied without a hurdle; a record with a bad CRC is ignored, with event 0xD00C (R473, R489). -/
def State.recordIn (s : State) (bad : List Nat) (a : Nat) : State :=
  let b := tget bankBlank s.upd.banks s.upd.booted
  let l := b.vals.filter (fun p => areaOf (keyIx p.1) == a)
  if l.isEmpty then s
  else if bad.contains a then
    (s.setBank s.upd.booted { b with vals := b.vals.filter (fun p => areaOf (keyIx p.1) != a) }).raise 0xD00C (p16 (areaBase a))
  else ((l.foldl (fun (x : State) p => x.setSetting p.1 p.2) s).applyArea s a).2

/-- Slots that the allocatable pages no longer cover, taking slots in ascending order. -/
def State.uncovered (s : State) : List Nat :=
  let slots := (s.ess.store.slotPages.map Prod.snd).foldl (· + ·) 0
  ((List.range 240).foldl (fun (p : Nat × List Nat) n =>
    let g := tget zeroNat s.ess.store.slotPages n
    if g = 0 then p else if s.storeTotal < p.1 + g then (p.1, p.2 ++ [n]) else (p.1 + g, p.2)) (s.pagesUsed - slots, [])).2

/-- The page check of R164 (R489): an uncovered slot's record alone starts at defaults, with event 0xD00C. -/
def State.pageCheck (s : State) : State :=
  s.uncovered.foldl (fun (x : State) n =>
    let l := x.objs.filter (fun p => bankKeeps p.1 && (keyIx p.1 == 0x5100 + n || keyIx p.1 == 0x5200 + n))
    let y := l.foldl (fun (z : State) p => z.setObj p.1 (if p.1 = O.slotOrigin n ∧ z.laneMode n = 2 then .num 0xFFFF else z.levelDefault p.1)) x
    ((y.applyArea x 0x5FFF).2).raise 0xD00C (p16 0x5000)) s

/-- Each Stride engine is loaded with the programs compiled from the running set (R472). -/
def State.strideLoad (s : State) : State :=
  match s.str.next with
  | some (set, _, _) => ({ s with str := { s.str with act := set, next := none, runs := [] } }).engObjs
  | none => s

/-- What takes effect at a start: TWIN_ROLE, ALIGN_LAG, AUDIO_OFFSET, the start waits, the trial's settings, lane power. -/
def State.startTakes (s : State) : State :=
  let role := s.num O.twinTwinRole
  let s1 : State := { s with
    twin := { s.twin with
      role := role
      grant := s.twin.grant || role == 0
      pclaim := s.twin.pclaim && role != 0 }
    ess := { s.ess with
      lag := s.num O.alnAlignLag
      offset := s.num O.alnAudioOffset }
    upd := { s.upd with
      pacWait := s.num O.startStartPacerWait
      meshWait := s.num O.startStartMeshWait
      trialTime := s.num O.updConfirmTimeout
      trialHost := s.flag O.updRequireHostConfirm
      loaded := true } }
  (List.range 96).foldl (fun (x : State) p => x.setLanePower p (x.num (O.jogLanePower p))) s1

/-- LOADS_COMPLETE (R472–R474, R489): the settings bank is applied in ascending area order, and the subordinate processors answer. -/
def execLoadsComplete (bad : List Half) (at_ : Nat) (s0 : State) : Res :=
  let s := s0.toTick at_
  if s.num O.startStartPhase ≠ 3 ∨ s.upd.loaded ∨ !s.booting then .next s
  else
    let s1 := ((s.bankAtStart).levelAtStart).levelDefaults (fun _ => true)
    let l := bad.map (fun b => areaOf b.toNat)
    let s2 := areaCtls.foldl (fun (x : State) a =>
      let y := x.recordIn l a
      if a = 0x5FFF then (y.storeApply s).pageCheck else y) s1
    let s3 := (((s2.strideLoad).startTakes).meshObjs).storeApply s
    .next (((s3.startPoint (s3.num O.procProcPoint) 1).ledgerObjs).rollChallenge)

/-- READY_PHASE (R491): phase 4, the dictionary accepts sessions, fabric lanes train. -/
def execReadyPhase (at_ : Nat) (s0 : State) : Res :=
  let s := s0.toTick at_
  if s.num O.startStartPhase ≠ 3 ∨ !s.upd.loaded ∨ !s.booting then .next s
  else
    let s1 := s.enterPhase 4 s.now
    .next ((s1.setUpd { s1.upd with stage := 3 }).fabStart).meshCheck

/-! ### Start complete (R492–R494) -/

/-- Links that are down report fault source 67. -/
def State.reportDown (s : State) : State :=
  s.peers.foldl (fun (x : State) j => if (x.link j).up then x else x.report 67 0x4004) s

/-- The Pacer wait expires, unless its condition holds. -/
def State.pacerExpiry (s : State) : State :=
  let u := s.upd
  if s.num O.startStartPhase ≠ 4 ∨ u.pacerWaited ∨ u.pacWait = 0 ∨ s.num O.pacerPacerState = 2 ∨
      s.now < s.phase4At + u.pacWait * tickS then s
  else (s.setUpd { u with pacerWaited := true }).raise 0x1004 (p8 1)

/-- The mesh wait expires, unless its condition holds. -/
def State.meshExpiry (s : State) : State :=
  let u := s.upd
  if s.num O.startStartPhase ≠ 4 ∨ u.meshWaited ∨ s.meshUp ∨ s.now < s.phase4At + u.meshWait * tickS then s
  else ((s.setUpd { u with meshWaited := true, meshMet := true }).raise 0x1004 (p8 2)).reportDown

/-- START_WAIT_EXPIRY (R492). -/
def execStartWaitExpiry (mesh : Bool) (at_ : Nat) (s0 : State) : Res :=
  let s := s0.toTick at_
  .next (if mesh then s.meshExpiry else s.pacerExpiry)

/-- SIDs of other devices that the settings use: port destinations, Stride inputs and tiles. They are requested once their links are
up. -/
def State.settingSids (s : State) : List Nat :=
  let ports := (List.range 544).map (fun d => s.num (portKey d))
  let ins := s.str.act.banks.flatMap (fun b => b.2.inputs.filterMap (fun i => match i with | .sid x => some x | .pos _ _ => none))
  let tiles := (List.range 8).flatMap (fun h => if s.headRuns h then s.headSids h else [])
  sortNat ((ports ++ ins ++ tiles).filter (fun x => s.sidRemote x && decide (sidDev x < 12)))

/-- Subscriptions that the settings call for are requested over every link that is up, and wait for the others (R202). -/
def State.askSettings (s : State) : State :=
  let s1 := s.settingSids.foldl (fun (x : State) sid =>
    let j := sidDev sid
    let l := x.link j
    x.setLink j { l with lost := l.lost ++ [(sid, 1, 0)] }) s
  (List.range 12).foldl (fun (x : State) j => if (x.link j).up then x.askAgain j else x) s1

/-- TWIN_STATE leaves 1 (R493, Table 12-4); an Anchor waits 10 ms before it claims while its twin link is up (R494). -/
def State.twinStart (s : State) : State :=
  if s.twin.role = 0 then (s.setTwin 0).twinCheck
  else
    let s1 := if s.twin.role = 2 ∧ s.twin.up then { s with twin := { s.twin with holdOff := s.now + 10 * tickMs } } else s
    s1.twinSettle.twinCheck

/-- START_COMPLETE (R492, R493): once both conditions hold the essence path starts. -/
def execStartComplete (at_ : Nat) (s0 : State) : Res :=
  let s := (s0.toTick at_).pacerExpiry.meshExpiry
  let u := s.upd
  let pacer := s.num O.pacerPacerState == 2 || u.pacWait == 0 || u.pacerWaited
  if s.num O.startStartPhase ≠ 4 ∨ !pacer ∨ !(s.meshUp || u.meshWaited) then .next s
  else
    let s1 := (s.setUpd { u with meshMet := true }).enterPhase 5 s.now
    .next ((s1.askSettings).twinStart)

/-! ### Start failures (R496) -/

/-- SUBORDINATE_TIMEOUT (Table 17-3, cause 5): loaded once more, then a restart. -/
def execSubordinateTimeout (at_ : Nat) (s0 : State) : Res :=
  let s := s0.toTick at_
  if s.num O.startStartPhase ≠ 3 ∨ s.upd.loaded ∨ !s.booting ∨ s.now < s.upd.loadAt + 500 * tickMs then .next s
  else if !s.upd.reloaded then .next (s.setUpd { s.upd with reloaded := true, loadAt := s.now })
  else .next (s.startFail 5 0)

/-- START_READY_TIMEOUT (Table 17-3, cause 6); recovery is no start that goes on. -/
def execStartReadyTimeout (at_ : Nat) (s0 : State) : Res :=
  let s := s0.toTick at_
  if !s.booting ∨ s.upd.stage = 4 ∨ s.now < 1000 * tickMs then .next s else .next (s.startFail 6 0)

end Sys2Proof.Machine
end

