-- ==== Sys2Proof/Machine/StrideRun.lean ====
section
/-! DEFINITION. Stride engines period by period (R270, R276–R278, R292): the swap to a new set, and the programs' run. -/

namespace Sys2Proof.Machine

/-- The pending swap takes place once its time has come; subscriptions of inputs that the new set no longer reads are released (R202, R278). -/
def State.swapDue (s : State) : State :=
  match s.str.next with
  | some (set, n, engs) => if s.timeFor n then (s.swapNow set n engs).syncSubs else s
  | none => s

/-- STRIDE_SWAP (R292). -/
def execStrideSwap (at_ : Nat) (s0 : State) : Res := .next (s0.toTick at_).swapDue

/-- STRIDE_PERIOD (R270, R276–R278, R286–R291). -/
def execStridePeriod (rate96 : Bool) (t at_ : Nat) (s0 : State) : Res :=
  let s := s0.toTick at_
  let khz := if rate96 then 96 else 48
  if !s.essOn ∨ !s.timeFor (samplePt (khz * 1000) t) then .next s
  else
    let s1 := s.swapDue
    let engs := s1.str.act.banks.filter (fun b => s1.num (O.engRate b.1) == khz && !b.2.prog.isEmpty &&
      (s1.num (O.engState b.1) == 1 || s1.num (O.engState b.1) == 3))
    let (ps, s2) := engs.foldl (fun (a : List Period × State) b =>
      let (p, x) := a.2.runEngine b.1 khz t b.2
      (a.1 ++ [p], x)) ([], s1)
    let s3 := { s2 with str := { s2.str with ex := (ps.flatMap (fun p => p.ex)).foldl (fun t p => tset intZero t p.1 p.2) s2.str.ex } }
    let s4 := (ps.flatMap (fun p => p.mets)).foldl (fun (x : State) p => x.feedMeter khz p.1 p.2) s3
    .next ((ps.flatMap (fun p => p.outs)).foldl (fun (x : State) p => x.limit khz t p.1 p.2) s4)

end Sys2Proof.Machine
end

