-- ==== Sys2Proof/Machine/Dispatch.lean ====
section
/-! DEFINITION. What each command does: one arm per constructor of Instr. -/

namespace Sys2Proof.Machine

/-- The effect of a command on everything but the queue. -/
def exec (i : Instr) (s : State) : Host.Outcome State Fault Refusal :=
  match i with
  | .nop c => Sys2Proof.Machine.execNop c s
  | .read c ix sub => Sys2Proof.Machine.execRead c ix sub s
  | .write c ix sub ty value => Sys2Proof.Machine.execWrite c ix sub ty value s
  | .enableCommit c chain dangling => Sys2Proof.Machine.execEnableCommit c chain dangling s
  | .enableDiscard c area => Sys2Proof.Machine.execEnableDiscard c area s
  | .discard c area => Sys2Proof.Machine.execDiscard c area s
  | .subscribe c ix sub value => Sys2Proof.Machine.execSubscribe c ix sub value s
  | .unsubscribe c ix sub => Sys2Proof.Machine.execUnsubscribe c ix sub s
  | .readSegment c ix sub offset => Sys2Proof.Machine.execReadSegment c ix sub offset s
  | .writeSegment c ix sub offset data endFlag => Sys2Proof.Machine.execWriteSegment c ix sub offset data endFlag s
  | .describe c ix sub => Sys2Proof.Machine.execDescribe c ix sub s
  | .messageDiscard ch code => Sys2Proof.Machine.execMessageDiscard ch code s
  | .cachedResponse slot seq => Sys2Proof.Machine.execCachedResponse slot seq s
  | .udpDatagramDrop source session counter sealed fragment => Sys2Proof.Machine.execUdpDatagramDrop source session counter sealed fragment s
  | .hello ch source nc role keySlot => Sys2Proof.Machine.execHello ch source nc role keySlot s
  | .proof session source mac => Sys2Proof.Machine.execProof session source mac s
  | .close slot => Sys2Proof.Machine.execClose slot s
  | .closeNow c target => Sys2Proof.Machine.execCloseNow c target s
  | .sessionTimeout slot at_ => Sys2Proof.Machine.execSessionTimeout slot at_ s
  | .addressBarExpiry source at_ => Sys2Proof.Machine.execAddressBarExpiry source at_ s
  | .notify slot ix sub at_ => Sys2Proof.Machine.execNotify slot ix sub at_ s
  | .mbxDoorbell ch w => Sys2Proof.Machine.execMbxDoorbell ch w s
  | .mbxBufferRelease ch w => Sys2Proof.Machine.execMbxBufferRelease ch w s
  | .countersClear c ix => Sys2Proof.Machine.execCountersClear c ix s
  | .registerWrite off size value => Sys2Proof.Machine.execRegisterWrite off size value s
  | .rcRegisterRead off size => Sys2Proof.Machine.execRcRegisterRead off size s
  | .accessError isWrite off size => Sys2Proof.Machine.execAccessError isWrite off size s
  | .windowBWrite off => Sys2Proof.Machine.execWindowBWrite off s
  | .signalDetectAssert p at_ => Sys2Proof.Machine.execSignalDetectAssert p at_ s
  | .signalDetectDeassert p line at_ => Sys2Proof.Machine.execSignalDetectDeassert p line at_ s
  | .rateDwellExpiry p at_ => Sys2Proof.Machine.execRateDwellExpiry p at_ s
  | .rateLock p code => Sys2Proof.Machine.execRateLock p code s
  | .trsLock p code predicted line at_ => Sys2Proof.Machine.execTrsLock p code predicted line at_ s
  | .formatLock p seen => Sys2Proof.Machine.execFormatLock p seen s
  | .sdiLine p l at_ => Sys2Proof.Machine.execSdiLine p l at_ s
  | .trsMissing p line rateHeld at_ => Sys2Proof.Machine.execTrsMissing p line rateHeld at_ s
  | .erroredSecond p at_ => Sys2Proof.Machine.execErroredSecond p at_ s
  | .quadAssociation k skew => Sys2Proof.Machine.execQuadAssociation k skew s
  | .quadAssociationTimeout k skew at_ => Sys2Proof.Machine.execQuadAssociationTimeout k skew at_ s
  | .quadLinkReentry p => Sys2Proof.Machine.execQuadLinkReentry p s
  | .serialiserStart p => Sys2Proof.Machine.execSerialiserStart p s
  | .ethFrameReceived p f bufs at_ => Sys2Proof.Machine.execEthFrameReceived p f bufs at_ s
  | .ethLinkUp p => Sys2Proof.Machine.execEthLinkUp p s
  | .ethLinkDown p cause cut => Sys2Proof.Machine.execEthLinkDown p cause cut s
  | .rxContextLost r at_ => Sys2Proof.Machine.execRxContextLost r at_ s
  | .lineCloseTimeout r at_ => Sys2Proof.Machine.execLineCloseTimeout r at_ s
  | .pairWaitExpiry r seq at_ => Sys2Proof.Machine.execPairWaitExpiry r seq at_ s
  | .pathDown r at_ => Sys2Proof.Machine.execPathDown r at_ s
  | .mediaPacketSend c k at_ => Sys2Proof.Machine.execMediaPacketSend c k at_ s
  | .audioPacketSend c at_ => Sys2Proof.Machine.execAudioPacketSend c at_ s
  | .hostFrameStart p at_ => Sys2Proof.Machine.execHostFrameStart p at_ s
  | .txtsPop p => Sys2Proof.Machine.execTxtsPop p s
  | .lineRelease sl k n at_ => Sys2Proof.Machine.execLineRelease sl k n at_ s
  | .sampleRelease sl t at_ => Sys2Proof.Machine.execSampleRelease sl t at_ s
  | .frameModeDecision sl k at_ => Sys2Proof.Machine.execFrameModeDecision sl k at_ s
  | .realign c sl value => Sys2Proof.Machine.execRealign c sl value s
  | .videoDelayApply sl k at_ => Sys2Proof.Machine.execVideoDelayApply sl k at_ s
  | .alignModeApply sl k at_ => Sys2Proof.Machine.execAlignModeApply sl k at_ s
  | .storeCorrectedError page at_ => Sys2Proof.Machine.execStoreCorrectedError page at_ s
  | .storeUncorrectableError page word pageFault at_ => Sys2Proof.Machine.execStoreUncorrectableError page word pageFault at_ s
  | .retirementCopyDone page poisoned at_ => Sys2Proof.Machine.execRetirementCopyDone page poisoned at_ s
  | .scrubPassEnd at_ => Sys2Proof.Machine.execScrubPassEnd at_ s
  | .trainingFrame f control status req ready at_ => Sys2Proof.Machine.execTrainingFrame f control status req ready at_ s
  | .trainingTimeout f at_ => Sys2Proof.Machine.execTrainingTimeout f at_ s
  | .trainingRetry f at_ => Sys2Proof.Machine.execTrainingRetry f at_ s
  | .markerSend j at_ => Sys2Proof.Machine.execMarkerSend j at_ s
  | .alignmentMarker f m at_ => Sys2Proof.Machine.execAlignmentMarker f m at_ s
  | .markerMissing f at_ => Sys2Proof.Machine.execMarkerMissing f at_ s
  | .relockTimeout f at_ => Sys2Proof.Machine.execRelockTimeout f at_ s
  | .linkMarkerTimeout j at_ => Sys2Proof.Machine.execLinkMarkerTimeout j at_ s
  | .eyeScan f margin at_ => Sys2Proof.Machine.execEyeScan f margin at_ s
  | .cellReceived j cell fec prbs at_ => Sys2Proof.Machine.execCellReceived j cell fec prbs at_ s
  | .subReq j reqId sid count purpose at_ => Sys2Proof.Machine.execSubReq j reqId sid count purpose at_ s
  | .subAck j reqId channel charge first => Sys2Proof.Machine.execSubAck j reqId channel charge first s
  | .subNak j reqId reason => Sys2Proof.Machine.execSubNak j reqId reason s
  | .unsub j reqId channel => Sys2Proof.Machine.execUnsub j reqId channel s
  | .unsubAck j reqId channel unit => Sys2Proof.Machine.execUnsubAck j reqId channel unit s
  | .shed j channel reason => Sys2Proof.Machine.execShed j channel reason s
  | .purpose j channel p => Sys2Proof.Machine.execPurpose j channel p s
  | .streamState j channel present fmt => Sys2Proof.Machine.execStreamState j channel present fmt s
  | .unitSend j channel n at_ => Sys2Proof.Machine.execUnitSend j channel n at_ s
  | .unitPresent j channel n at_ => Sys2Proof.Machine.execUnitPresent j channel n at_ s
  | .prbsInject c f value => Sys2Proof.Machine.execPrbsInject c f value s
  | .retrain c f value => Sys2Proof.Machine.execRetrain c f value s
  | .takeRingTail n w => Sys2Proof.Machine.execTakeRingTail n w s
  | .batchDecode n at_ => Sys2Proof.Machine.execBatchDecode n at_ s
  | .takeBatch c value => Sys2Proof.Machine.execTakeBatch c value s
  | .takeStateWrite c o sub ty value => Sys2Proof.Machine.execTakeStateWrite c o sub ty value s
  | .switchingLine o k at_ => Sys2Proof.Machine.execSwitchingLine o k at_ s
  | .audioTakeInstant o k at_ => Sys2Proof.Machine.execAudioTakeInstant o k at_ s
  | .zeroCrossingTimeout port o pos at_ => Sys2Proof.Machine.execZeroCrossingTimeout port o pos at_ s
  | .outputLine o k n at_ => Sys2Proof.Machine.execOutputLine o k n at_ s
  | .journalRead c => Sys2Proof.Machine.execJournalRead c s
  | .aesBiphaseLock n => Sys2Proof.Machine.execAesBiphaseLock n s
  | .aesFramed framing => Sys2Proof.Machine.execAesFramed framing s
  | .aesClassify port rate phase at_ => Sys2Proof.Machine.execAesClassify port rate phase at_ s
  | .aesSignalLoss n to_ at_ => Sys2Proof.Machine.execAesSignalLoss n to_ at_ s
  | .aesSubframe n sub parityOk biphaseOk v sample at_ => Sys2Proof.Machine.execAesSubframe n sub parityOk biphaseOk v sample at_ s
  | .aesBlock n statusA statusB userA userB crcA crcB => Sys2Proof.Machine.execAesBlock n statusA statusB userA userB crcA crcB s
  | .aesOutputFrame n t at_ => Sys2Proof.Machine.execAesOutputFrame n t at_ s
  | .tdmFsync n t rx at_ => Sys2Proof.Machine.execTdmFsync n t rx at_ s
  | .tdmSlaveLock n => Sys2Proof.Machine.execTdmSlaveLock n s
  | .tdmFrameError n at_ => Sys2Proof.Machine.execTdmFrameError n at_ s
  | .asrcLock ii ratio => Sys2Proof.Machine.execAsrcLock ii ratio s
  | .asrcOutOfRange ii ratio => Sys2Proof.Machine.execAsrcOutOfRange ii ratio s
  | .portSidWrite c ix sub ty value => Sys2Proof.Machine.execPortSidWrite c ix sub ty value s
  | .portTransitionEnd d => Sys2Proof.Machine.execPortTransitionEnd d s
  | .stridePeriod rate96 t at_ => Sys2Proof.Machine.execStridePeriod rate96 t at_ s
  | .strideSwap at_ => Sys2Proof.Machine.execStrideSwap at_ s
  | .strideFastCommit w => Sys2Proof.Machine.execStrideFastCommit w s
  | .strideFastApply at_ => Sys2Proof.Machine.execStrideFastApply at_ s
  | .strideUncorrectable e bank word at_ => Sys2Proof.Machine.execStrideUncorrectable e bank word at_ s
  | .engineReloadDone e at_ => Sys2Proof.Machine.execEngineReloadDone e at_ s
  | .selfCheck c e value => Sys2Proof.Machine.execSelfCheck c e value s
  | .selfCheckDone e pass at_ => Sys2Proof.Machine.execSelfCheckDone e pass at_ s
  | .meterUpdate at_ => Sys2Proof.Machine.execMeterUpdate at_ s
  | .compositionWindow h frame unfinished at_ => Sys2Proof.Machine.execCompositionWindow h frame unfinished at_ s
  | .staleHoldExpiry l at_ => Sys2Proof.Machine.execStaleHoldExpiry l at_ s
  | .cacheRebuildDone h at_ => Sys2Proof.Machine.execCacheRebuildDone h at_ s
  | .ocxoLoss part at_ => Sys2Proof.Machine.execOcxoLoss part at_ s
  | .ocxoMeasureWindow offset at_ => Sys2Proof.Machine.execOcxoMeasureWindow offset at_ s
  | .referencePresent r at_ => Sys2Proof.Machine.execReferencePresent r at_ s
  | .referenceAbsent r at_ => Sys2Proof.Machine.execReferenceAbsent r at_ s
  | .qualificationWindow r freq wander within at_ => Sys2Proof.Machine.execQualificationWindow r freq wander within at_ s
  | .wtrExpiry r at_ => Sys2Proof.Machine.execWtrExpiry r at_ s
  | .switchComplete at_ => Sys2Proof.Machine.execSwitchComplete at_ s
  | .loopUpdate seen at_ => Sys2Proof.Machine.execLoopUpdate seen at_ s
  | .lockAchieved at_ => Sys2Proof.Machine.execLockAchieved at_ s
  | .timeSet c ty value => Sys2Proof.Machine.execTimeSet c ty value s
  | .timeStep c ty value => Sys2Proof.Machine.execTimeStep c ty value s
  | .jumpOverride c value => Sys2Proof.Machine.execJumpOverride c value s
  | .overrideExpiry at_ => Sys2Proof.Machine.execOverrideExpiry at_ s
  | .loopOpen c => Sys2Proof.Machine.execLoopOpen c s
  | .loopClose c => Sys2Proof.Machine.execLoopClose c s
  | .pacerLoopDco w at_ => Sys2Proof.Machine.execPacerLoopDco w at_ s
  | .loopWatchdog at_ => Sys2Proof.Machine.execLoopWatchdog at_ s
  | .ptpSync ii port t1 t2 at_ => Sys2Proof.Machine.execPtpSync ii port t1 t2 at_ s
  | .ptpDelayResp ii port seq t4 at_ => Sys2Proof.Machine.execPtpDelayResp ii port seq t4 at_ s
  | .ptpAnnounce ii a at_ => Sys2Proof.Machine.execPtpAnnounce ii a at_ s
  | .ptpOffsetSecond ii at_ => Sys2Proof.Machine.execPtpOffsetSecond ii at_ s
  | .gmAnnounceSend m at_ => Sys2Proof.Machine.execGmAnnounceSend m at_ s
  | .gmSyncSend m at_ => Sys2Proof.Machine.execGmSyncSend m at_ s
  | .gmDelayReq m port seq at_ => Sys2Proof.Machine.execGmDelayReq m port seq at_ s
  | .gmManagementSend m at_ => Sys2Proof.Machine.execGmManagementSend m at_ s
  | .fpInputLoss k at_ => Sys2Proof.Machine.execFpInputLoss k at_ s
  | .fpInputReturn k phase at_ => Sys2Proof.Machine.execFpInputReturn k phase at_ s
  | .clockOutputRestart k at_ => Sys2Proof.Machine.execClockOutputRestart k at_ s
  | .pacerTimeNsRead at_ => Sys2Proof.Machine.execPacerTimeNsRead at_ s
  | .ocxoInReturn at_ => Sys2Proof.Machine.execOcxoInReturn at_ s
  | .delayReqSend ii at_ => Sys2Proof.Machine.execDelayReqSend ii at_ s
  | .partnerClaimChange high at_ => Sys2Proof.Machine.execPartnerClaimChange high at_ s
  | .refereeGrantChange high at_ => Sys2Proof.Machine.execRefereeGrantChange high at_ s
  | .batonClaimRaise at_ => Sys2Proof.Machine.execBatonClaimRaise at_ s
  | .claimTimeout at_ => Sys2Proof.Machine.execClaimTimeout at_ s
  | .heartbeatPulse confirmed at_ => Sys2Proof.Machine.execHeartbeatPulse confirmed at_ s
  | .healthConfirmLapse at_ => Sys2Proof.Machine.execHealthConfirmLapse at_ s
  | .handoverHoldLimit at_ => Sys2Proof.Machine.execHandoverHoldLimit at_ s
  | .revertWtrExpiry at_ => Sys2Proof.Machine.execRevertWtrExpiry at_ s
  | .releaseInstant at_ => Sys2Proof.Machine.execReleaseInstant at_ s
  | .revertAckTimeout at_ => Sys2Proof.Machine.execRevertAckTimeout at_ s
  | .revertRetry at_ => Sys2Proof.Machine.execRevertRetry at_ s
  | .relinquish c value => Sys2Proof.Machine.execRelinquish c value s
  | .releaseCheck at_ => Sys2Proof.Machine.execReleaseCheck at_ s
  | .tlStatus h b at_ => Sys2Proof.Machine.execTlStatus h b at_ s
  | .statusSend at_ => Sys2Proof.Machine.execStatusSend at_ s
  | .tlTake h ta recs at_ => Sys2Proof.Machine.execTlTake h ta recs at_ s
  | .tlCommit h area phase values code instants at_ => Sys2Proof.Machine.execTlCommit h area phase values code instants at_ s
  | .tlJournal h entries at_ => Sys2Proof.Machine.execTlJournal h entries at_ s
  | .tlFast h sample entries at_ => Sys2Proof.Machine.execTlFast h sample entries at_ s
  | .tlSnapshot h values entries size endFlag at_ => Sys2Proof.Machine.execTlSnapshot h values entries size endFlag at_ s
  | .tlRevert h t at_ => Sys2Proof.Machine.execTlRevert h t at_ s
  | .tlRevertAck h t at_ => Sys2Proof.Machine.execTlRevertAck h t at_ s
  | .tlHandoverRequest h t at_ => Sys2Proof.Machine.execTlHandoverRequest h t at_ s
  | .tlJoin h gen at_ => Sys2Proof.Machine.execTlJoin h gen at_ s
  | .tlAck h => Sys2Proof.Machine.execTlAck h s
  | .tlRetransmit seq at_ => Sys2Proof.Machine.execTlRetransmit seq at_ s
  | .tlStatusTimeout at_ => Sys2Proof.Machine.execTlStatusTimeout at_ s
  | .tlPcsLoss at_ => Sys2Proof.Machine.execTlPcsLoss at_ s
  | .joinComplete at_ => Sys2Proof.Machine.execJoinComplete at_ s
  | .hostInterfaceReset cause => Sys2Proof.Machine.execHostInterfaceReset cause s
  | .d3hotEntry => Sys2Proof.Machine.execD3hotEntry s
  | .msixIntervalEnd v at_ => Sys2Proof.Machine.execMsixIntervalEnd v at_ s
  | .msixUnmask v => Sys2Proof.Machine.execMsixUnmask v s
  | .dmaDoorbell c w => Sys2Proof.Machine.execDmaDoorbell c w s
  | .storeRead c d host => Sys2Proof.Machine.execStoreRead c d host s
  | .captureVideo c d host overrunAt => Sys2Proof.Machine.execCaptureVideo c d host overrunAt s
  | .captureAudio c d host overrunAt => Sys2Proof.Machine.execCaptureAudio c d host overrunAt s
  | .meterSnapshot c d host => Sys2Proof.Machine.execMeterSnapshot c d host s
  | .insertAnc c d host => Sys2Proof.Machine.execInsertAnc c d host s
  | .descriptorComplete c => Sys2Proof.Machine.execDescriptorComplete c s
  | .dmaChannelDisable c progress => Sys2Proof.Machine.execDmaChannelDisable c progress s
  | .dmaResume c => Sys2Proof.Machine.execDmaResume c s
  | .tlbInvalidate w => Sys2Proof.Machine.execTlbInvalidate w s
  | .tlbInvalidateDone at_ => Sys2Proof.Machine.execTlbInvalidateDone at_ s
  | .txRingDoorbell r w frames => Sys2Proof.Machine.execTxRingDoorbell r w frames s
  | .d3hotExit => Sys2Proof.Machine.execD3hotExit s
  | .pcieLinkTrained speed width => Sys2Proof.Machine.execPcieLinkTrained speed width s
  | .faultReport source code => Sys2Proof.Machine.execFaultReport source code s
  | .ack c source => Sys2Proof.Machine.execAck c source s
  | .ackAll c => Sys2Proof.Machine.execAckAll c s
  | .faultConditionEnd source => Sys2Proof.Machine.execFaultConditionEnd source s
  | .safeEnter c value => Sys2Proof.Machine.execSafeEnter c value s
  | .safeExit c value => Sys2Proof.Machine.execSafeExit c value s
  | .collectorSelfCheck goodA goodB agree at_ => Sys2Proof.Machine.execCollectorSelfCheck goodA goodB agree at_ s
  | .minIntervalEnd n at_ => Sys2Proof.Machine.execMinIntervalEnd n at_ s
  | .recorderFlush writeError => Sys2Proof.Machine.execRecorderFlush writeError s
  | .flashRetry writeError at_ => Sys2Proof.Machine.execFlashRetry writeError at_ s
  | .powerFailAssert at_ => Sys2Proof.Machine.execPowerFailAssert at_ s
  | .powerFailDeassert => Sys2Proof.Machine.execPowerFailDeassert s
  | .recorderSecond at_ => Sys2Proof.Machine.execRecorderSecond at_ s
  | .recRead c => Sys2Proof.Machine.execRecRead c s
  | .recClear c token => Sys2Proof.Machine.execRecClear c token s
  | .recorderEraseDone => Sys2Proof.Machine.execRecorderEraseDone s
  | .recChallengeRoll at_ => Sys2Proof.Machine.execRecChallengeRoll at_ s
  | .operatingTimeSave at_ => Sys2Proof.Machine.execOperatingTimeSave at_ s
  | .benchRequest c => Sys2Proof.Machine.execBenchRequest c s
  | .dictionaryWake c => Sys2Proof.Machine.execDictionaryWake c s
  | .benchForce c value => Sys2Proof.Machine.execBenchForce c value s
  | .benchEntryStep active at_ => Sys2Proof.Machine.execBenchEntryStep active at_ s
  | .wake source at_ => Sys2Proof.Machine.execWake source at_ s
  | .hostWake w => Sys2Proof.Machine.execHostWake w s
  | .wakeTimerExpiry at_ => Sys2Proof.Machine.execWakeTimerExpiry at_ s
  | .bringUpStep railOk at_ => Sys2Proof.Machine.execBringUpStep railOk at_ s
  | .jogSample p high at_ => Sys2Proof.Machine.execJogSample p high at_ s
  | .jogReturnExpiry p at_ => Sys2Proof.Machine.execJogReturnExpiry p at_ s
  | .procPointStep railOk at_ => Sys2Proof.Machine.execProcPointStep railOk at_ s
  | .fselWrite v => Sys2Proof.Machine.execFselWrite v s
  | .vselWrite v => Sys2Proof.Machine.execVselWrite v s
  | .monitorChange m beyond at_ => Sys2Proof.Machine.execMonitorChange m beyond at_ s
  | .pmbusRead rails at_ => Sys2Proof.Machine.execPmbusRead rails at_ s
  | .ledgerSecond onDie at_ => Sys2Proof.Machine.execLedgerSecond onDie at_ s
  | .thermalRead temps at_ => Sys2Proof.Machine.execThermalRead temps at_ s
  | .lcRequest c value => Sys2Proof.Machine.execLcRequest c value s
  | .load c sl value => Sys2Proof.Machine.execLoad c sl value s
  | .verify c sl value => Sys2Proof.Machine.execVerify c sl value s
  | .pendingKeyTimeout sl at_ => Sys2Proof.Machine.execPendingKeyTimeout sl at_ s
  | .invalidate c sl value => Sys2Proof.Machine.execInvalidate c sl value s
  | .keyPatrol failed at_ => Sys2Proof.Machine.execKeyPatrol failed at_ s
  | .keyStoreAccessRefused master flash access => Sys2Proof.Machine.execKeyStoreAccessRefused master flash access s
  | .attestNonce c nonce => Sys2Proof.Machine.execAttestNonce c nonce s
  | .attestReportReady at_ => Sys2Proof.Machine.execAttestReportReady at_ s
  | .imageVerified at_ => Sys2Proof.Machine.execImageVerified at_ s
  | .activate c value => Sys2Proof.Machine.execActivate c value s
  | .confirm c value => Sys2Proof.Machine.execConfirm c value s
  | .pauseBegin at_ => Sys2Proof.Machine.execPauseBegin at_ s
  | .pauseEnd at_ => Sys2Proof.Machine.execPauseEnd at_ s
  | .trialConfirmation answers at_ => Sys2Proof.Machine.execTrialConfirmation answers at_ s
  | .confirmLeftExpiry at_ => Sys2Proof.Machine.execConfirmLeftExpiry at_ s
  | .recoveryGo w image => Sys2Proof.Machine.execRecoveryGo w image s
  | .recoveryDone at_ => Sys2Proof.Machine.execRecoveryDone at_ s
  | .startingBlock failed at_ => Sys2Proof.Machine.execStartingBlock failed at_ s
  | .resetAssert at_ => Sys2Proof.Machine.execResetAssert at_ s
  | .resetRelease ocxo => Sys2Proof.Machine.execResetRelease ocxo s
  | .pciePerst => Sys2Proof.Machine.execPciePerst s
  | .loadsComplete bad at_ => Sys2Proof.Machine.execLoadsComplete bad at_ s
  | .readyPhase at_ => Sys2Proof.Machine.execReadyPhase at_ s
  | .startComplete at_ => Sys2Proof.Machine.execStartComplete at_ s
  | .startWaitExpiry mesh at_ => Sys2Proof.Machine.execStartWaitExpiry mesh at_ s
  | .subordinateTimeout at_ => Sys2Proof.Machine.execSubordinateTimeout at_ s
  | .startRestart at_ => Sys2Proof.Machine.execStartRestart at_ s
  | .startReadyTimeout at_ => Sys2Proof.Machine.execStartReadyTimeout at_ s

end Sys2Proof.Machine
end

