-- ==== Sys2Proof/Machine/Tick.lean ====
section
/-! DEFINITION. What the block does while no command waits (log entry 1). -/

namespace Sys2Proof.Machine

/-- One tick of the 800 MHz Pacer clock: the tick count and Pacer time move on (R15, R326). -/
def State.idleTick (s : State) : State := s.toTick (s.now + 1)

end Sys2Proof.Machine
end

