-- ==== Sys2Proof/Machine/Step.lean ====
section
/-! DEFINITION. One step of the block: the command at the front of the queue, or one Pacer tick where none waits (log
entry 1). -/

namespace Sys2Proof.Machine

/-- The state with command `i` put at the front of its queue. -/
def State.pushCommand (s : State) (i : Instr) : State := { s with pending := i :: s.pending }

/-- The command at the front of the queue runs with the rest of the queue; on an empty queue records whose wait is over run, and the block
idles for one Pacer tick. -/
def step (s : State) : Host.Outcome State Fault Refusal :=
  match s.pending with
  | [] => .next s.runBlocked.idleTick
  | i :: rest => exec i { s with pending := rest }

/-- The state with the command a word spells put at the front of its queue; unchanged where the word spells none. -/
def State.withFetchWord (s : State) (nbits w : Nat) : State :=
  match decodeTableWord nbits w with
  | some i => s.pushCommand i
  | none => s

end Sys2Proof.Machine
end

