-- ==== Sys2Proof/WellFormed.lean ====
section
/-! DEFINITION. Which commands the hardware's inputs can spell: operand lengths and ranges that the formats of spec/ fix. A value that the
device itself judges and answers with a code is no matter of well-formedness. -/

namespace Sys2Proof

/-- Whether every number of a list lies below a bound. -/
def allBelow (n : Nat) (l : List Nat) : Bool := l.all (fun x => decide (x < n))

/-- A PT96 value (R15). -/
def isPt96 (t : Nat) : Bool := decide (t < 2 ^ 96)

/-- A TS80 value: 48 bits of seconds, nanoseconds below one second (Table 2-3). -/
def isTs80 (t : Nat × Nat) : Bool := decide (t.1 < 2 ^ 48) && decide (t.2 < 1000000000)

/-- A source of a UDP message: IPv6 address and port, 18 bytes; none on a mailbox channel. -/
def sourceOk (mailbox : Bool) (b : List Byte) : Bool := if mailbox then b.isEmpty else b.length == 18

/-- An ancillary packet: up to 255 user words, line and offset of 11 and 12 bits (R89). -/
def ancOk (a : AncPkt) : Bool := decide (a.data.length ≤ 255) && decide (a.line < 2048) && decide (a.hoff < 4096) && decide (a.link ≤ 4)

/-- An embedded audio packet: groups 1 to 8, four channels, 24-bit samples (R93, R94). -/
def audOk (a : AudPkt) : Bool :=
  decide (1 ≤ a.group) && decide (a.group ≤ 8) && decide (a.ecc ≤ 2) && a.samples.length == 4 && a.samples.all (allBelow (2 ^ 24))

/-- An SDI line (R79–R95). -/
def sdiLineOk (l : SdiLine) : Bool :=
  decide (1 ≤ l.line) && decide (l.line ≤ 2250) && l.anc.all ancOk && l.audio.all audOk

/-- Samples of an audio packet or unit are 24-bit words. -/
def samplesOk (l : List (List Nat)) : Bool := l.all (allBelow (2 ^ 24))

/-- A media payload. -/
def mediaOk : MediaPayload → Bool
  | .video rows _ => rows.all (fun r => decide (r.1 < 2 ^ 15) && decide (r.2.1 < 2 ^ 15))
  | .audio samples => samplesOk samples
  | .anc pkts _ => pkts.all ancOk
  | .sdi lines _ => lines.all sdiLineOk

/-- A received frame: a 48-bit destination, at most 16-bit tags, and its bytes without the FCS, or of a frame of more than 9,216 bytes the
first 9,216 (R115). -/
def ethOk (f : EthFrame) : Bool :=
  decide (f.dst < 2 ^ 48) && f.tags.all (fun t => decide (t.1 < 65536) && decide (t.2 < 65536)) && decide (f.etype < 65536) &&
  (if 9216 < f.length then f.bytes.length == 9216 else f.length == f.bytes.length + 4) && (match f.media with | some m => mediaOk m | none => true)

/-- A cell body. -/
def cellOk : CellBody → Bool
  | .audio samples => samplesOk samples
  | .anc pkts => pkts.all ancOk
  | _ => true

/-- A twin-link header (Table 12-2): SEQ, ACK and GENERATION are 32-bit. -/
def tlHdrOk (h : TlHdr) : Bool := h.raw.length == 16

/-- A STATUS body (Table 12-3). -/
def tlStatusOk (b : TlStatusBody) : Bool := b.raw.length == 44 && isTs80 b.rxTs

/-- An Announce message: a 10-byte portIdentity, a 64-bit grandmaster identity (R349). -/
def announceOk (a : PtpAnnounce) : Bool := a.port.length == 10 && decide (a.gm < 2 ^ 64) && decide (a.clockClass < 256)

/-- Host memory holds 64-bit words at 8-byte boundaries. -/
def hostMemOk (m : HostMem) : Bool :=
  m.all (fun p => p.1 % 8 == 0 && (match p.2 with | .word w => decide (w < 2 ^ 64) | _ => true))

/-- Whether a command is one that the hardware's inputs can spell. -/
def wellFormed : Instr → Bool
  | .write _ _ _ _ value => decide (value.length ≤ 1024)
  | .enableCommit _ chain _ => !chain.isEmpty
  | .udpDatagramDrop source _ _ _ _ => sourceOk false source
  | .hello ch source nc _ _ => sourceOk ch.isSome source && nc.length == 32
  | .proof _ source mac => (source.isEmpty || sourceOk false source) && mac.length == 48
  | .registerWrite _ size _ => size == 1 || size == 2 || size == 4 || size == 8
  | .rcRegisterRead _ size => size == 1 || size == 2 || size == 4 || size == 8
  | .rateLock _ code => code != 0
  | .trsLock _ code _ _ _ => code != 0
  | .sdiLine _ l _ => sdiLineOk l
  | .ethFrameReceived _ f _ _ => ethOk f
  | .cellReceived _ c _ _ _ => c.header.length == 8 && cellOk c.body
  | .alignmentMarker _ m _ => decide (m.device < 12) && decide (m.linkLane < 24)
  | .subAck _ _ _ _ first => isPt96 first
  | .asrcLock _ ratio => ratio.b != 0
  | .asrcOutOfRange _ ratio => ratio.b != 0
  | .aesBlock _ sa sb ua ub _ _ => sa.length == 24 && sb.length == 24 && ua.length == 24 && ub.length == 24
  | .ptpSync _ port _ _ _ => port.length == 10
  | .ptpDelayResp _ port _ _ _ => port.length == 10
  | .ptpAnnounce _ a _ => announceOk a
  | .gmDelayReq _ port _ _ => port.length == 10
  | .loopUpdate seen _ => seen.all (fun r => decide (r.1 < 14))
  | .tlStatus h b _ => tlHdrOk h && tlStatusOk b
  | .tlTake h ta recs _ => tlHdrOk h && isPt96 ta && recs.all (fun r => isPt96 r.1 && r.2.length == 32)
  | .tlCommit h _ phase _ _ instants _ => tlHdrOk h && (phase == 1 || phase == 2) && instants.all isPt96
  | .tlJournal h entries _ => tlHdrOk h && entries.all (fun e => e.length == 64)
  | .tlFast h sample entries _ => tlHdrOk h && isPt96 sample && entries.all (fun e => e.length == 8)
  | .tlSnapshot h _ entries _ _ _ => tlHdrOk h && entries.all (fun e => e.length == 64)
  | .tlRevert h t _ => tlHdrOk h && isPt96 t
  | .tlRevertAck h t _ => tlHdrOk h && isPt96 t
  | .tlHandoverRequest h t _ => tlHdrOk h && isPt96 t
  | .tlJoin h _ _ => tlHdrOk h
  | .tlAck h => tlHdrOk h
  | .storeRead _ _ host => hostMemOk host
  | .captureVideo _ _ host _ => hostMemOk host
  | .captureAudio _ _ host _ => hostMemOk host
  | .meterSnapshot _ _ host => hostMemOk host
  | .insertAnc _ _ host => hostMemOk host
  | .txRingDoorbell _ _ frames => frames.all (fun f => decide (f.lane < 96) && decide (1 ≤ f.descs))
  | .pcieLinkTrained speed width => decide (speed ≤ 5) && (width == 1 || width == 2 || width == 4 || width == 8)
  | .thermalRead temps _ => temps.length == 18
  | .pmbusRead rails _ => rails.all (fun r => decide (r.1 < 32))
  | .attestNonce _ nonce => decide (nonce.length ≤ 1024)
  | .recoveryGo _ image => decide (image.length ≤ 33554432)
  | _ => true

end Sys2Proof
end

