-- ==== Sys2Proof/Safety.lean ====
section
/-! DEFINITION. What a good state is, what it means that a command does something, and what a command leaves alone: the terms in which
the statements speak. -/

namespace Sys2Proof.Machine

/-- The stored tables are in their one canonical form: dictionary values, change stamps, Window A words and Window A memory. -/
def State.canonical (s : State) : Bool :=
  twf (objDefault s.fuses) s.objs && twf chgNone s.chg && twf regDefault s.regs && Memory.wf s.mem

/-- The command answers with a next state of which `P` holds. -/
def Does (i : Instr) (s : State) (P : State → Prop) : Prop := ∃ t, exec i s = .next t ∧ P t

/-- From `s` to `t` the event `code` was counted once: its EVT_COUNT word rose by one, held at the end of its range (R421). -/
def Counted (code : Nat) (s t : State) : Prop :=
  ∀ n, evtSource code = some n → fld (t.reg (rEvtCount n)) 31 0 = satAdd 32 (fld (s.reg (rEvtCount n)) 31 0) 1

/-- A record may begin a message of several records: its session is open, no pause holds it, it is the first record of its message and not
the last, and the message was not executed before (R43, R62). -/
def State.begins (s : State) (c : Ctx) : Prop :=
  (s.sess c.slot.val).id ≠ 0 ∧ s.upd.paused = false ∧ c.first = true ∧ c.last = false ∧ c.form = .good ∧
    s.dict.waits = [] ∧ s.dict.blocked = [] ∧
    ((s.sess c.slot.val).lastSeq ≠ some c.seq.toNat ∨ (s.sess c.slot.val).running = true)

/-- The record was answered alone so far, with a status and nothing else: opcode, index and subindex as in the request (Table 2-5). -/
def State.answered (t : State) (c : Ctx) (op ix sub status : Nat) : Prop :=
  (t.sess c.slot.val).cache = [(⟨op, 0, ix, sub, status, []⟩ : RespRec)]

/-- The datagram that carries a response to the peer of a session over UDP: sealed with the next COUNTER (R61). -/
def State.udpResponse (s : State) (i q : Nat) (recs : List RespRec) : Emission :=
  .datagram i ((s.sess i).sealed ((s.sess i).txCount + 1) (msgBytes 2 (s.sess i).id q 0 recs))

/-- A well-formed ENABLE record of an area, with its value (Table 2-5). -/
def enRec (a : Half) (v : Byte) : EnRec := ⟨a, 1, 2, [v]⟩

/-- From `s` to `t` one thing was sent, and with it only the blocks that carry it on the lanes of the fabric (R189). -/
def SentWith (s t : State) (e : Emission) : Prop :=
  ∃ bs, t.out = s.out ++ e :: bs ∧ ∀ b ∈ bs, (∃ f symbols, b = Emission.relayBlock f symbols) ∨ ∃ f n q d r, b = Emission.relayFill f n q d r

/-- From `s` to `t` send context c sent the packet of a place of its schedule, with the next sequence number of its pair, or discarded it
because its lane's link is not up (R114, R134). -/
def SentPacket (s t : State) (c place ts : Nat) (marker : Bool) (body : CellBody) : Prop :=
  let p := byteAt (s.txFlow c) 2
  let l := s.txLead c
  (t.tx c).last = place ∧
  (t.tx l).seq = (if (s.tx l).flowLast = place then (s.tx l).seq else ((s.tx l).seq + 1) % seqMod (byteAt (s.txFlow c) 1)) ∧
  (if s.ethUp p && s.laneActive p then
    (t.tx c).packets = ((s.tx c).packets + 1) % 2 ^ 64 ∧ t.num (O.ethTxFrames p) = (s.num (O.ethTxFrames p) + 1) % 2 ^ 64 ∧
      t.out = s.out ++ [.packet c (s.pktHdr c) (t.tx l).seq ts marker body]
   else (t.tx c).discarded = ((s.tx c).discarded + 1) % 2 ^ 32 ∧
      t.num (O.ethTxDiscarded p) = (s.num (O.ethTxDiscarded p) + 1) % 2 ^ 32 ∧ t.out = s.out)

/-- The servo controller's frame may start on MAC m at once: a management lane, or a port lane that is up, with nothing before it, a gap long
enough and room in its timestamp queue (R139, R141). -/
def State.servoReady (s : State) (m : Nat) (f : ServoTx) : Prop :=
  m < 96 → s.laneMode m = 2 ∧ s.ethUp m = true ∧ s.laneActive m = true ∧ s.ethMember m = false ∧ s.servoBusy m f = false ∧
    (s.eth_ m).stamps.length < 16

/-- A numbered message of the partner was taken in order: the receive number is its own, and an acknowledgement with it has left (R373). -/
def State.tookMessage (t : State) (h : TlHdr) : Prop := t.twin.rx = h.seq ∧ ∃ g, Emission.twin (twinMsg 0xB 0 0 h.seq g []) ∈ t.out

/-- The parts of the state, but for the queue and the fuses. -/
inductive Part where
  /-- Dictionary objects and the times they changed. -/
  | objs
  /-- Window A words. -/
  | regs
  /-- Window A memory. -/
  | mem
  /-- What the block sends. -/
  | out
  /-- The count of free values taken. -/
  | free
  /-- Ticks and Pacer time. -/
  | tm
  /-- Sessions, staged sets, subscriptions. -/
  | dict
  /-- MSI-X, DMA channels, translations. -/
  | hif
  /-- Fault sources, the safe state, event signalling. -/
  | flt
  /-- The event recorder. -/
  | evr
  /-- The essence path: inputs, slots, the store, outputs, takes. -/
  | ess
  /-- Audio ports. -/
  | aud
  /-- The Stride engines. -/
  | str
  /-- The Pacer and its references. -/
  | pac
  /-- Ethernet ports and flows. -/
  | eth
  /-- Fabric lanes and links. -/
  | fab
  /-- Composition heads. -/
  | comp
  /-- The twin link and the claim. -/
  | twin
  /-- Power, energy and temperature. -/
  | pwr
  /-- Start, keys, images, banks, direction. -/
  | upd
deriving DecidableEq, Repr

/-- The bit of a part in a mask. -/
def Part.bit : Part → Nat
  | .objs => 0 | .regs => 1 | .mem => 2 | .out => 3 | .free => 4 | .tm => 5 | .dict => 6 | .hif => 7 | .flt => 8 | .evr => 9
  | .ess => 10 | .aud => 11 | .str => 12 | .pac => 13 | .eth => 14 | .fab => 15 | .comp => 16 | .twin => 17 | .pwr => 18 | .upd => 19

/-- The part is the same in both states. -/
def Part.Same (s t : State) : Part → Prop
  | .objs => t.objs = s.objs ∧ t.chg = s.chg
  | .regs => t.regs = s.regs
  | .mem => t.mem = s.mem
  | .out => t.out = s.out
  | .free => t.free = s.free
  | .tm => t.tm = s.tm
  | .dict => t.dict = s.dict
  | .hif => t.hif = s.hif
  | .flt => t.flt = s.flt
  | .evr => t.evr = s.evr
  | .ess => t.ess = s.ess
  | .aud => t.aud = s.aud
  | .str => t.str = s.str
  | .pac => t.pac = s.pac
  | .eth => t.eth = s.eth
  | .fab => t.fab = s.fab
  | .comp => t.comp = s.comp
  | .twin => t.twin = s.twin
  | .pwr => t.pwr = s.pwr
  | .upd => t.upd = s.upd

/-- The parts of the state that a command never changes, whatever the state: its frame. -/
def leaves : Instr → List Part
  | .nop _ | .read _ _ _ | .write _ _ _ _ _ | .enableCommit _ _ _ | .enableDiscard _ _ | .discard _ _ | .subscribe _ _ _ _
    | .unsubscribe _ _ _ | .readSegment _ _ _ _ | .writeSegment _ _ _ _ _ _ | .describe _ _ _ | .messageDiscard _ _
    | .cachedResponse _ _ | .hello _ _ _ _ _ | .proof _ _ _ | .close _ | .closeNow _ _ | .countersClear _ _ | .realign _ _ _
    | .subAck _ _ _ _ _ | .subNak _ _ _ | .prbsInject _ _ _ | .retrain _ _ _ | .takeBatch _ _ | .takeStateWrite _ _ _ _ _
    | .journalRead _ | .portSidWrite _ _ _ _ _ | .selfCheck _ _ _ | .timeSet _ _ _ | .timeStep _ _ _ | .jumpOverride _ _ | .loopOpen _
    | .loopClose _ | .relinquish _ _ | .tlStatus _ _ _ | .tlTake _ _ _ _ | .tlCommit _ _ _ _ _ _ _ | .tlJournal _ _ _
    | .tlFast _ _ _ _ | .tlSnapshot _ _ _ _ _ _ | .tlRevert _ _ _ | .tlRevertAck _ _ _ | .tlHandoverRequest _ _ _ | .tlJoin _ _ _
    | .tlAck _ | .tlRetransmit _ _ | .tlStatusTimeout _ | .tlPcsLoss _ | .joinComplete _ | .ack _ _ | .ackAll _ | .safeEnter _ _
    | .safeExit _ _ | .recRead _ | .recClear _ _ | .benchRequest _ | .dictionaryWake _ | .benchForce _ _ | .benchEntryStep _ _
    | .lcRequest _ _ | .load _ _ _ | .verify _ _ _ | .invalidate _ _ _ | .attestNonce _ _ | .activate _ _ | .confirm _ _ | .pauseEnd _
    | .loadsComplete _ _ => []
  | .udpDatagramDrop _ _ _ _ _ => [.objs, .mem, .free, .tm, .ess, .aud, .str, .pac, .eth, .fab, .comp, .twin, .pwr, .upd]
  | .sessionTimeout _ _ => [.objs, .mem, .free, .ess, .aud, .str, .pac, .eth, .fab, .comp, .twin, .pwr]
  | .addressBarExpiry _ _
    => [.objs, .regs, .mem, .out, .free, .hif, .flt, .evr, .ess, .aud, .str, .pac, .eth, .fab, .comp, .twin, .pwr, .upd]
  | .notify _ _ _ _ => [.objs, .ess, .aud, .str, .pac, .eth, .fab, .comp, .twin, .pwr, .upd]
  | .mbxDoorbell _ _ | .msixUnmask _
    => [.objs, .mem, .free, .tm, .dict, .flt, .evr, .ess, .aud, .str, .pac, .eth, .fab, .comp, .twin, .pwr, .upd]
  | .mbxBufferRelease _ _ => [.objs, .tm, .flt, .evr, .ess, .aud, .str, .pac, .eth, .fab, .comp, .twin, .pwr, .upd]
  | .registerWrite _ _ _ => [.aud, .eth, .fab]
  | .rcRegisterRead _ _ => [.objs, .mem, .free, .tm, .dict, .aud, .str, .fab, .comp, .twin, .pwr, .upd]
  | .accessError _ _ _ | .windowBWrite _ | .quadLinkReentry _
    => [.objs, .mem, .free, .tm, .dict, .aud, .str, .pac, .eth, .fab, .comp, .twin, .pwr, .upd]
  | .signalDetectAssert _ _ => [.mem, .free, .dict, .aud, .str, .pac, .eth, .fab, .comp, .twin, .upd]
  | .signalDetectDeassert _ _ _ | .jogSample _ _ _ => [.dict, .str, .eth, .comp]
  | .rateDwellExpiry _ _ | .retirementCopyDone _ _ _ | .audioTakeInstant _ _ _
    => [.objs, .regs, .mem, .out, .free, .dict, .hif, .flt, .evr, .aud, .str, .pac, .eth, .fab, .comp, .twin, .pwr, .upd]
  | .rateLock _ _ | .sdiLine _ _ _ | .trsMissing _ _ _ _ | .jogReturnExpiry _ _ => [.dict, .str, .eth, .comp, .pwr]
  | .trsLock _ _ _ _ _ | .alignModeApply _ _ _
    => [.regs, .mem, .free, .dict, .hif, .flt, .evr, .aud, .str, .pac, .eth, .comp, .twin, .pwr, .upd]
  | .formatLock _ _ => [.mem, .free, .tm, .dict, .aud, .str, .pac, .eth, .comp, .twin, .pwr, .upd]
  | .erroredSecond _ _ | .frameModeDecision _ _ _ | .scrubPassEnd _
    => [.mem, .free, .dict, .aud, .str, .pac, .eth, .fab, .comp, .twin, .pwr, .upd]
  | .quadAssociation _ _ => [.mem, .free, .tm, .dict, .str, .pac, .eth, .comp, .twin, .pwr, .upd]
  | .quadAssociationTimeout _ _ _ | .fpInputLoss _ _ => [.mem, .free, .dict, .ess, .aud, .str, .pac, .eth, .fab, .comp, .twin, .pwr, .upd]
  | .serialiserStart _
    => [.objs, .regs, .mem, .out, .free, .tm, .dict, .hif, .flt, .evr, .aud, .str, .pac, .eth, .fab, .comp, .twin, .pwr, .upd]
  | .ethFrameReceived _ _ _ _ | .rxContextLost _ _ | .pairWaitExpiry _ _ _ => [.mem, .free, .dict, .str, .pac, .comp, .twin, .pwr, .upd]
  | .ethLinkUp _ | .ethLinkDown _ _ _ | .asrcLock _ _ | .asrcOutOfRange _ _
    => [.mem, .free, .tm, .dict, .ess, .aud, .str, .pac, .eth, .fab, .comp, .twin, .pwr, .upd]
  | .lineCloseTimeout _ _ => [.mem, .free, .dict, .aud, .str, .pac, .comp, .twin, .pwr, .upd]
  | .pathDown _ _ => [.objs, .mem, .free, .dict, .ess, .aud, .str, .pac, .fab, .comp, .twin, .pwr, .upd]
  | .mediaPacketSend _ _ _ => [.regs, .mem, .free, .dict, .hif, .flt, .evr, .ess, .aud, .str, .pac, .fab, .comp, .twin, .pwr, .upd]
  | .audioPacketSend _ _ => [.regs, .mem, .free, .dict, .hif, .flt, .evr, .aud, .str, .pac, .fab, .comp, .twin, .pwr, .upd]
  | .hostFrameStart _ _ | .gmAnnounceSend _ _ | .gmSyncSend _ _ | .gmDelayReq _ _ _ _ | .gmManagementSend _ _ | .delayReqSend _ _
    => [.mem, .free, .dict, .ess, .aud, .str, .fab, .comp, .twin, .pwr, .upd]
  | .txtsPop _ => [.objs, .regs, .mem, .free, .tm, .dict, .hif, .flt, .evr, .ess, .aud, .str, .pac, .fab, .comp, .twin, .pwr, .upd]
  | .lineRelease _ _ _ _ | .startComplete _ => [.free, .dict, .aud, .str, .pac, .eth, .comp, .pwr]
  | .sampleRelease _ _ _ => [.mem, .free, .dict, .aud, .str, .pac, .eth, .comp, .twin, .pwr, .upd]
  | .videoDelayApply _ _ _ => [.mem, .dict, .aud, .str, .pac, .eth, .fab, .comp, .twin, .pwr, .upd]
  | .storeCorrectedError _ _ | .storeUncorrectableError _ _ _ _ | .trainingFrame _ _ _ _ _ _
    => [.dict, .aud, .str, .pac, .eth, .comp, .pwr]
  | .trainingTimeout _ _ | .alignmentMarker _ _ _ | .markerMissing _ _ | .eyeScan _ _ _ | .cellReceived _ _ _ _ _
    => [.aud, .str, .pac, .eth, .pwr]
  | .trainingRetry _ _ | .relockTimeout _ _
    => [.regs, .mem, .dict, .hif, .flt, .evr, .ess, .aud, .str, .pac, .eth, .comp, .twin, .pwr, .upd]
  | .markerSend _ _ | .linkMarkerTimeout _ _ => [.free, .aud, .str, .pac, .eth, .pwr]
  | .subReq _ _ _ _ _ _ => [.mem, .free, .dict, .ess, .aud, .str, .pac, .eth, .comp, .twin, .pwr, .upd]
  | .unsub _ _ _ => [.regs, .mem, .free, .tm, .dict, .hif, .flt, .evr, .ess, .aud, .str, .pac, .eth, .comp, .twin, .pwr, .upd]
  | .unsubAck _ _ _ _ | .purpose _ _ _ | .streamState _ _ _ _
    => [.objs, .regs, .mem, .out, .free, .tm, .dict, .hif, .flt, .evr, .ess, .aud, .str, .pac, .eth, .comp, .twin, .pwr, .upd]
  | .shed _ _ _ => [.mem, .free, .tm, .dict, .ess, .aud, .str, .pac, .eth, .twin, .pwr, .upd]
  | .unitSend _ _ _ _ => [.objs, .regs, .mem, .free, .dict, .hif, .flt, .evr, .ess, .aud, .str, .pac, .eth, .comp, .twin, .pwr, .upd]
  | .unitPresent _ _ _ _ => [.objs, .regs, .mem, .out, .free, .dict, .hif, .flt, .evr, .aud, .str, .pac, .eth, .comp, .twin, .pwr, .upd]
  | .takeRingTail _ _ | .dmaDoorbell _ _
    => [.objs, .mem, .out, .free, .tm, .dict, .hif, .flt, .evr, .ess, .aud, .str, .pac, .eth, .fab, .comp, .twin, .pwr, .upd]
  | .batchDecode _ _ => [.free, .dict, .aud, .str, .pac, .eth, .comp, .pwr, .upd]
  | .switchingLine _ _ _ => [.dict, .aud, .str, .pac, .eth, .pwr, .upd]
  | .zeroCrossingTimeout _ _ _ _ => [.objs, .mem, .free, .dict, .str, .pac, .eth, .fab, .comp, .twin, .pwr, .upd]
  | .outputLine _ _ _ _ => [.free, .dict, .aud, .pac, .eth, .pwr]
  | .aesBiphaseLock _ | .aesFramed _
    => [.regs, .mem, .out, .free, .tm, .dict, .hif, .flt, .evr, .ess, .aud, .str, .pac, .eth, .fab, .comp, .twin, .pwr, .upd]
  | .aesClassify _ _ _ _ | .aesSignalLoss _ _ _ | .tdmFsync _ _ _ _ | .tdmFrameError _ _
    => [.mem, .free, .dict, .str, .pac, .eth, .comp, .twin, .pwr, .upd]
  | .aesSubframe _ _ _ _ _ _ _ => [.mem, .free, .dict, .str, .pac, .eth, .fab, .comp, .twin, .pwr, .upd]
  | .aesBlock _ _ _ _ _ _ _ => [.mem, .free, .tm, .dict, .str, .pac, .eth, .fab, .comp, .twin, .pwr, .upd]
  | .aesOutputFrame _ _ _ => [.objs, .regs, .mem, .free, .dict, .hif, .flt, .evr, .ess, .str, .pac, .eth, .fab, .comp, .twin, .pwr, .upd]
  | .tdmSlaveLock _ => [.mem, .free, .tm, .dict, .ess, .str, .pac, .eth, .fab, .comp, .twin, .pwr, .upd]
  | .portTransitionEnd _ => [.free, .tm, .ess, .str, .pac, .eth, .fab, .comp, .twin, .pwr]
  | .stridePeriod _ _ _ => [.free, .aud, .pac, .eth, .comp, .twin, .pwr, .upd]
  | .strideSwap _ => [.free, .ess, .aud, .pac, .eth, .comp, .twin, .pwr, .upd]
  | .strideFastCommit _ => [.mem, .tm, .dict, .ess, .aud, .pac, .eth, .fab, .comp, .pwr, .upd]
  | .strideFastApply _ => [.free, .ess, .aud, .pac, .eth, .fab, .comp, .twin, .pwr]
  | .strideUncorrectable _ _ _ _ => [.free, .dict, .aud, .pac, .eth, .fab, .comp, .pwr]
  | .engineReloadDone _ _ | .selfCheckDone _ _ _ => [.mem, .free, .dict, .ess, .aud, .pac, .eth, .fab, .comp, .twin, .pwr, .upd]
  | .meterUpdate _ => [.mem, .out, .free, .dict, .hif, .flt, .evr, .ess, .aud, .pac, .eth, .fab, .comp, .twin, .pwr, .upd]
  | .compositionWindow _ _ _ _ => [.mem, .free, .dict, .aud, .str, .pac, .eth, .twin, .pwr, .upd]
  | .staleHoldExpiry _ _ => [.regs, .mem, .out, .free, .dict, .hif, .flt, .evr, .ess, .aud, .str, .pac, .eth, .fab, .twin, .pwr, .upd]
  | .cacheRebuildDone _ _ => [.mem, .free, .dict, .ess, .aud, .str, .pac, .eth, .fab, .twin, .pwr, .upd]
  | .ocxoLoss _ _ | .ocxoInReturn _ => [.free, .dict, .aud, .str, .eth, .fab, .comp, .pwr]
  | .ocxoMeasureWindow _ _ | .fpInputReturn _ _ _ => [.mem, .free, .dict, .ess, .aud, .str, .eth, .fab, .comp, .twin, .pwr, .upd]
  | .referencePresent _ _ | .loopUpdate _ _
    => [.regs, .mem, .out, .free, .dict, .hif, .flt, .evr, .aud, .str, .eth, .comp, .twin, .pwr, .upd]
  | .referenceAbsent _ _ | .qualificationWindow _ _ _ _ _ => [.dict, .aud, .str, .eth, .comp, .pwr]
  | .wtrExpiry _ _ | .switchComplete _ | .lockAchieved _ => [.dict, .aud, .str, .eth, .fab, .comp, .pwr]
  | .overrideExpiry _ | .ptpSync _ _ _ _ _ | .ptpDelayResp _ _ _ _ _ | .clockOutputRestart _ _
    => [.objs, .regs, .mem, .out, .free, .dict, .hif, .flt, .evr, .ess, .aud, .str, .eth, .fab, .comp, .twin, .pwr, .upd]
  | .pacerLoopDco _ _ => [.mem, .out, .free, .dict, .hif, .flt, .evr, .ess, .aud, .str, .eth, .fab, .comp, .twin, .pwr, .upd]
  | .loopWatchdog _ => [.aud, .str, .eth, .fab, .comp, .pwr]
  | .ptpAnnounce _ _ _ => [.mem, .free, .dict, .aud, .str, .eth, .comp, .twin, .pwr, .upd]
  | .ptpOffsetSecond _ _ => [.mem, .dict, .aud, .str, .eth, .fab, .comp, .twin, .pwr, .upd]
  | .pacerTimeNsRead _ => [.objs, .regs, .mem, .free, .dict, .hif, .flt, .evr, .ess, .aud, .str, .eth, .fab, .comp, .twin, .pwr, .upd]
  | .partnerClaimChange _ _ | .batonClaimRaise _ | .claimTimeout _ | .heartbeatPulse _ _ | .healthConfirmLapse _ | .revertWtrExpiry _
    | .releaseInstant _ | .revertRetry _ | .releaseCheck _ | .collectorSelfCheck _ _ _ _ | .keyPatrol _ _ | .confirmLeftExpiry _
    | .startingBlock _ _ | .startWaitExpiry _ _ => [.free, .dict, .aud, .str, .pac, .eth, .fab, .comp, .pwr]
  | .refereeGrantChange _ _ | .thermalRead _ _ => [.free, .dict, .aud, .str, .pac, .eth, .fab, .comp]
  | .handoverHoldLimit _
    => [.objs, .regs, .mem, .out, .free, .dict, .hif, .flt, .evr, .ess, .aud, .str, .pac, .eth, .fab, .comp, .pwr, .upd]
  | .revertAckTimeout _ => [.objs, .mem, .free, .dict, .ess, .aud, .str, .pac, .eth, .fab, .comp, .pwr, .upd]
  | .statusSend _ => [.objs, .regs, .mem, .free, .dict, .hif, .flt, .evr, .ess, .aud, .str, .pac, .eth, .fab, .comp, .pwr, .upd]
  | .hostInterfaceReset _ | .pciePerst => [.objs, .mem, .free, .tm, .aud, .str, .pac, .eth, .fab, .comp, .twin, .pwr]
  | .d3hotEntry | .pcieLinkTrained _ _ | .recorderFlush _ | .keyStoreAccessRefused _ _ _
    => [.objs, .mem, .free, .tm, .dict, .ess, .aud, .str, .pac, .eth, .fab, .comp, .twin, .pwr, .upd]
  | .msixIntervalEnd _ _ => [.objs, .regs, .mem, .free, .dict, .flt, .evr, .ess, .aud, .str, .pac, .eth, .fab, .comp, .twin, .pwr, .upd]
  | .storeRead _ _ _ => [.objs, .mem, .out, .tm, .dict, .flt, .evr, .ess, .aud, .str, .pac, .eth, .fab, .comp, .twin, .pwr, .upd]
  | .captureVideo _ _ _ _ | .captureAudio _ _ _ _ | .dmaResume _ | .tlbInvalidate _ | .d3hotExit
    => [.objs, .regs, .mem, .out, .free, .tm, .dict, .flt, .evr, .ess, .aud, .str, .pac, .eth, .fab, .comp, .twin, .pwr, .upd]
  | .meterSnapshot _ _ _ | .insertAnc _ _ _
    => [.objs, .mem, .out, .free, .tm, .dict, .flt, .evr, .ess, .aud, .str, .pac, .eth, .fab, .comp, .twin, .pwr, .upd]
  | .descriptorComplete _ | .dmaChannelDisable _ _ | .faultReport _ _ => [.free, .tm, .dict, .aud, .str, .pac, .eth, .fab, .comp, .pwr]
  | .tlbInvalidateDone _
    => [.objs, .regs, .mem, .out, .free, .dict, .flt, .evr, .ess, .aud, .str, .pac, .eth, .fab, .comp, .twin, .pwr, .upd]
  | .txRingDoorbell _ _ _ => [.objs, .mem, .free, .tm, .dict, .flt, .evr, .ess, .aud, .str, .pac, .fab, .comp, .twin, .pwr, .upd]
  | .faultConditionEnd _ => [.mem, .free, .tm, .dict, .ess, .aud, .str, .pac, .eth, .fab, .comp, .twin, .pwr]
  | .minIntervalEnd _ _ => [.objs, .mem, .free, .dict, .evr, .ess, .aud, .str, .pac, .eth, .fab, .comp, .twin, .pwr, .upd]
  | .flashRetry _ _ | .powerFailAssert _ => [.objs, .mem, .free, .dict, .ess, .aud, .str, .pac, .eth, .fab, .comp, .twin, .pwr, .upd]
  | .powerFailDeassert | .recorderEraseDone
    => [.objs, .regs, .mem, .out, .free, .tm, .dict, .hif, .flt, .ess, .aud, .str, .pac, .eth, .fab, .comp, .twin, .pwr, .upd]
  | .recorderSecond _ => [.objs, .mem, .free, .dict, .aud, .str, .pac, .eth, .fab, .comp, .twin, .pwr, .upd]
  | .recChallengeRoll _ => [.objs, .regs, .mem, .out, .dict, .hif, .flt, .ess, .aud, .str, .pac, .eth, .fab, .comp, .twin, .pwr, .upd]
  | .operatingTimeSave _
    => [.objs, .regs, .mem, .out, .free, .dict, .hif, .flt, .ess, .aud, .str, .pac, .eth, .fab, .comp, .twin, .pwr, .upd]
  | .wake _ _ | .wakeTimerExpiry _ | .monitorChange _ _ _ => [.mem, .free, .dict, .ess, .aud, .str, .pac, .eth, .fab, .comp, .twin, .upd]
  | .hostWake _ => [.mem, .free, .tm, .dict, .ess, .aud, .str, .pac, .eth, .fab, .comp, .twin, .upd]
  | .bringUpStep _ _ => [.dict, .eth]
  | .procPointStep _ _ => [.mem, .free, .dict, .ess, .aud, .str, .pac, .eth, .fab, .twin, .upd]
  | .fselWrite _ | .vselWrite _ => [.mem, .free, .tm, .dict, .ess, .aud, .str, .pac, .eth, .fab, .twin, .upd]
  | .pmbusRead _ _ => [.mem, .dict, .ess, .aud, .str, .pac, .eth, .fab, .comp, .twin, .upd]
  | .ledgerSecond _ _ => [.free, .dict, .aud, .str, .pac, .eth]
  | .pendingKeyTimeout _ _ | .trialConfirmation _ _ => [.objs, .mem, .free, .dict, .ess, .aud, .str, .pac, .eth, .fab, .comp, .twin, .pwr]
  | .attestReportReady _
    => [.objs, .regs, .mem, .out, .free, .dict, .hif, .flt, .evr, .ess, .aud, .str, .pac, .eth, .fab, .comp, .twin, .pwr]
  | .imageVerified _ => [.mem, .free, .dict, .ess, .aud, .str, .pac, .eth, .fab, .comp, .twin, .pwr]
  | .pauseBegin _ => [.dict, .aud, .str, .pac, .eth, .fab, .comp, .pwr]
  | .recoveryGo _ _ => [.objs, .mem, .out, .free, .tm, .dict, .hif, .flt, .evr, .ess, .aud, .str, .pac, .eth, .fab, .comp, .twin, .pwr]
  | .recoveryDone _ => [.objs, .mem, .out, .free, .dict, .hif, .flt, .evr, .ess, .aud, .str, .pac, .eth, .fab, .comp, .twin, .pwr]
  | .resetAssert _ | .startRestart _ => [.free]
  | .resetRelease _ => [.mem, .free, .dict, .ess, .aud, .str, .eth, .fab, .comp, .twin]
  | .readyPhase _ => [.mem, .dict, .ess, .aud, .str, .pac, .eth, .comp, .twin, .pwr]
  | .subordinateTimeout _ | .startReadyTimeout _ => [.mem, .free, .dict, .ess, .aud, .str, .pac, .eth, .fab, .comp, .twin]

end Sys2Proof.Machine
end

