-- ==== Sys2Proof/Certificates/Slice0/Obligations.lean ====
section
/-! DEFINITION. The statements about the block, for the provers. -/

section Statements

open Sys2Proof Sys2Proof.Machine

/-- The step of the block: with a command at the front of its queue it is exec of that command on the state with the rest of the queue. -/
def Obligations.StepRunsTheFront : Prop :=
  ∀ (c : Instr) (q : List Instr) (s : State), s.pending = c :: q → step s = exec c { s with pending := q }

/-- Log entry 1 (a DESIGN CHOICE, no rule of the spec): with no command waiting, and no record held behind one that waits (log entry 23),
the block idles for one Pacer tick, by which the Pacer time rises by the increment (R328); nothing else changes. -/
def Obligations.IdleBlockTicks : Prop :=
  ∀ (s : State), s.pending = [] → s.dict.blocked = [] ∨ s.dict.waits ≠ [] → ∃ t, step s = .next t ∧ t.tm.ticks = s.tm.ticks + 1 ∧ t.tm.pt = s.tm.pt + s.tm.inc ∧
    t.tm.inc = s.tm.inc ∧ (∀ p : Part, p ≠ .tm → p.Same s t) ∧ t.fuses = s.fuses ∧ t.pending = []

/-- R62. A record that begins a request whose SEQUENCE equals that of its session's last executed request: nothing is executed, and the
cached response is sent once more, as it was the first time; over UDP the datagram leaves again. -/
def Obligations.RepeatedRequestsAreNotExecuted : Prop :=
  ∀ (i : Instr) (r : RecCall) (s : State), recordOf i = some r → (s.sess r.ctx.slot.val).id ≠ 0 → s.upd.paused = false →
    r.ctx.first = true → (s.sess r.ctx.slot.val).lastSeq = some r.ctx.seq.toNat → (s.sess r.ctx.slot.val).running = false →
    s.dict.waits = [] → s.dict.blocked = [] →
    Does i s (fun t =>
      t = (s.setSess r.ctx.slot.val { s.sess r.ctx.slot.val with lastHeard := s.now }).respond r.ctx.slot.val r.ctx.seq.toNat
        ((s.sess r.ctx.slot.val).cache ++ (s.sess r.ctx.slot.val).details) ∧
      (∀ k, t.obj k = s.obj k) ∧ t.dict.staged = s.dict.staged ∧ (t.sess r.ctx.slot.val).cache = (s.sess r.ctx.slot.val).cache ∧
      (4 ≤ r.ctx.slot.val → t.out = s.out ++ [s.udpResponse r.ctx.slot.val r.ctx.seq.toNat
        ((s.sess r.ctx.slot.val).cache ++ (s.sess r.ctx.slot.val).details)] ∧ ∀ x, t.reg x = s.reg x))

/-- R56, R520 (the record begins a message, `u` is the state with the message begun): while the safe state holds, a write that passes the
checks before the device's state, and an ENABLE that does, are refused with 0x0009 outside areas 0xA000 and 0xC000, and change no object;
a read goes on. -/
def Obligations.SafeStateRefusesWrites : Prop :=
  ∀ (c : Ctx) (s u : State), s.begins c → u = s.beginMsg c → s.flt.safe = true →
  (∀ (ix : Half) (sub ty : Byte) (v : List Byte), (areaCtls.contains ix.toNat && sub.toNat == 1) = false →
    u.existCode ix.toNat sub.toNat = 0 → u.accessCode ix.toNat sub.toNat ((objDef ix.toNat sub.toNat).getD noRow) = 0 →
    ((objDef ix.toNat sub.toNat).getD noRow).role ≤ (s.sess c.slot).role → areaOf ix.toNat ≠ 0xAFFF → areaOf ix.toNat ≠ 0xCFFF →
    Does (.write c ix sub ty v) s (fun t => t.answered c 2 ix.toNat sub.toNat 0x0009 ∧ ∀ k, t.obj k = s.obj k)) ∧
  (∀ (a : Half), areaCtls.contains a.toNat = true → u.existCode a.toNat 1 = 0 → a.toNat ≠ 0xAFFF → a.toNat ≠ 0xCFFF →
    u.enableRole a.toNat ≤ (s.sess c.slot).role →
    Does (.enableCommit c [enRec a 1] false) s (fun t => t.answered c 3 a.toNat 1 0x0009 ∧ t.dict.staged = s.dict.staged ∧
      ∀ k, t.obj k = s.obj k) ∧
    Does (.enableDiscard c a) s (fun t => t.answered c 3 a.toNat 1 0x0009 ∧ t.dict.staged = s.dict.staged ∧ ∀ k, t.obj k = s.obj k)) ∧
  (∀ (ix : Half) (sub : Byte), sub.toNat ≠ 0 → u.readCode c.slot ix.toNat sub.toNat = 0 →
    (encodeVal ((objDef ix.toNat sub.toNat).getD noRow).ty (u.readVal c.slot (objKey ix.toNat sub.toNat))).length ≤ 65535 →
    objKey ix.toNat sub.toNat ≠ 0x620103 → objKey ix.toNat sub.toNat ≠ 0xA80006 →
    Does (.read c ix sub) s (fun t => ∃ y, (t.sess c.slot).cache = [y] ∧ y.status = 0 ∧ ∀ k, t.obj k = s.obj k))

/-- R420, Table 14-3. A code is event source n = 32 g + b exactly where its high byte and low byte stand in the table for group g, b being
the low byte less the group's base; groups 20 to 31 hold none; a code outside the table is recorded and nothing else. -/
def Obligations.EventSources : Prop :=
  (∀ (code n : Nat), code < 65536 → (evtSource code = some n ↔
    ∃ g hi base, (g, hi, base) ∈ [(0, 0x00, 0x01), (1, 0x0A, 0x01), (2, 0x10, 0x01), (3, 0x20, 0x01), (4, 0x30, 0x01), (5, 0x34, 0x01),
      (6, 0x40, 0x01), (7, 0x50, 0x01), (8, 0x60, 0x01), (9, 0x70, 0x01), (10, 0x78, 0x01), (11, 0x80, 0x01), (12, 0x90, 0x01),
      (13, 0xA0, 0x01), (14, 0xB0, 0x01), (15, 0xC0, 0x01), (16, 0xD0, 0x01), (17, 0xE0, 0x01), (18, 0xE0, 0x81), (19, 0xF0, 0x01)] ∧
      code / 256 = hi ∧ base ≤ code % 256 ∧ code % 256 < base + 32 ∧ n = 32 * g + (code % 256 - base))) ∧
  (∀ (code n : Nat), evtSource code = some n → n < 32 * 20) ∧
  (∀ (code : Nat) (p : List Byte) (s : State), code < 65536 → evtSource code = none →
    s.raise code p = s.record code p 15 (codePlane code) ∧ (s.raise code p).regs = s.regs ∧ (s.raise code p).hif = s.hif ∧
      (s.raise code p).out = s.out ∧ (s.raise code p).flt = s.flt)

/-- R465, R464 (the record begins a message, `u` is the state with the message begun, `x` the value written). In Field, an INVALIDATE of a
slot that may be invalidated is refused with 0xB006, and changes no key, when every usable slot of ROLE 3 whose USE_LIFECYCLE bit 2 is set
is the slot itself or a slot that R464 orphans with it; it is done where another such slot stays. (A slot that no master may use is not
usable: R458.) -/
def Obligations.LastOwnerKeyStays : Prop :=
  ∀ (c : Ctx) (s u : State) (x : Val) (n : Fin 256) (v : Byte), s.begins c → u = s.beginMsg c → s.upd.lc = 2 → 8 ≤ n.val →
    u.writeCheck c.slot (0xB100 + n.val) 11 1 [v] = (0, x) → x.toNat ≠ 0 →
    ((∀ m, m < 256 → ((s.key m).state = 1 ∨ (s.key m).state = 2) → (s.key m).role = 3 → bitOf (s.key m).cycles 2 = true →
        (s.key m).masters % 8 ≠ 0 → m = n.val ∨ m ∈ s.descendants n.val) →
      Does (.invalidate c n v) s (fun t => t.answered c 2 (0xB100 + n.val) 11 0xB006 ∧ t.upd = s.upd ∧ ∀ k, t.obj k = s.obj k)) ∧
    (∀ m, m < 256 → (s.key m).pend = none → (s.key m).state = 1 → (s.key m).role = 3 → bitOf (s.key m).cycles 2 = true →
        (s.key m).masters % 8 ≠ 0 → m ≠ n.val → m ∉ s.descendants n.val →
      Does (.invalidate c n v) s (fun t => t.answered c 2 (0xB100 + n.val) 11 0 ∧ (t.key n).state = 3 ∧ (t.key n).key = [] ∧
        (t.key m).state = 1 ∧ Counted 0xB004 s t))

/-- R328, R486, and the defaults of the object and register tables: what the spec gives for reset (the fuses are log entry 4). START_PHASE
and PT96 are 0, the increment is 1.25 ns; every object, register and byte is at its default; no session is open and nothing staged; no
event is recorded and the next SEQ is 0; no fault is held and the safe state does not hold; no lane is locked and no input is present; no
command waits. -/
def Obligations.ResetLeaves : Prop :=
  State.reset.pending = [] ∧ State.reset.num O.startStartPhase = 0 ∧ State.reset.pt96 = 0 ∧ State.reset.now = 0 ∧
  State.reset.tm.inc * 4 = 5 * 2 ^ 64 ∧ (∀ k, State.reset.obj k = objDefault State.reset.fuses k) ∧
  (∀ x, State.reset.reg x = regDefault x) ∧ State.reset.mem = [] ∧ State.reset.out = [] ∧
  (∀ i, (State.reset.sess i).id = 0) ∧ State.reset.dict.staged = [] ∧ State.reset.dict.subs = [] ∧ State.reset.dict.nextId = 1 ∧
  State.reset.evr.ring = [] ∧ State.reset.evr.seq = 0 ∧ State.reset.heldList = [] ∧ State.reset.flt.safe = false ∧
  (∀ p, p < 96 → State.reset.lockState p = 0) ∧ (∀ k, State.reset.isPresent k = false)

/-- The stored tables are in their canonical form after reset. -/
def Obligations.ResetCanonical : Prop := State.reset.canonical = true

/-- Every command, in every state, is carried out: it ends in a next state, no fault and no refusal; the queue and the fuses are
untouched, and the stored tables stay in their one canonical form. -/
def Obligations.EveryCommandIsCarriedOut : Prop :=
  ∀ (i : Instr) (s : State), ∃ t, exec i s = .next t ∧ t.pending = s.pending ∧ t.fuses = s.fuses ∧
    (s.canonical = true → t.canonical = true)

/-- The canonical form is an invariant of the block's step, whatever waits in the queue; a step takes the front of the queue and never
touches the fuses. -/
def Obligations.StepsKeepTheCanonicalForm : Prop :=
  ∀ (s : State), s.canonical = true → ∃ t, step s = .next t ∧ t.canonical = true ∧ t.pending = s.pending.tail ∧ t.fuses = s.fuses

/-- The frame of every command: the parts of the state that `leaves` lists for it are the same afterwards. -/
def Obligations.CommandsLeaveTheRest : Prop :=
  ∀ (i : Instr) (s t : State), exec i s = .next t → ∀ p, p ∈ leaves i → p.Same s t

/-- R43, R58–R63, R68 (tick `a` makes `s` into `u`): sessions. A HELLO that may be served is answered with a challenge and begins a
handshake, one from a barred address is rejected with 0x0003; a right proof opens a session of its SESSION value and role with 0x0001, a
wrong one is rejected and ends the attempt; CLOSE, and 60 s without a message, end a session with its subscriptions and staged sets and
0x0002, and a CLOSE behind a record that waits is held; a bar expires; datagrams that are fragments, name no open session, do not authenticate or were received before are dropped with
0x0006, any other accepts its COUNTER. -/
def Obligations.SessionsOpenAndClose : Prop :=
  (∀ (src nc : List Byte) (role : Byte) (k : Half) (s : State), s.dictOn = true → s.upd.paused = false → s.dict.waits = [] →
    s.dict.blocked = [] → (s.barred (addrOf src) = false → s.noneFree none = false → s.keyServes none role.toNat k.toNat = true →
      Does (.hello none src nc role k) s (fun t => ∃ id nd, (⟨36, id, role.toNat, k.toNat, src, nc, nd⟩ : Attempt) ∈ t.dict.attempts ∧
        t.out = s.out ++ [.handshake none src 0x11 id (nd ++ beBytes 4 id ++ s.fuses.serial)] ∧ 1 ≤ id ∧ id < 2 ^ 32 ∧
        (∀ x, t.obj x = s.obj x) ∧ ∀ i, t.sess i = s.sess i)) ∧
    (s.barred (addrOf src) = true → Does (.hello none src nc role k) s (fun t =>
      Emission.handshake none src 0x14 0 (beBytes 1 4) ∈ t.out ∧ Counted 0x0003 s t ∧ t.dict = s.dict))) ∧
  (∀ (id : Word) (src mac : List Byte) (a : Attempt) (s : State), s.dictOn = true → s.upd.paused = false → s.dict.waits = [] →
    s.dict.blocked = [] → a.slot = 36 →
    s.dict.attempts.find? (fun b => b.id == id.toNat && (decide (b.slot < 4) || b.source == src)) = some a →
    (∀ i, mac = hsMac (s.roleKey a.keySlot) "zhonal proof" a.nc a.nd a.id a.role → s.slotFor a = some i →
      s.keyServes none a.role a.keySlot = true → Does (.proof id src mac) s (fun t => (t.sess i).id = a.id ∧ (t.sess i).role = a.role ∧
        (t.sess i).peer = a.source ∧ (t.sess i).lastSeq = none ∧ Counted 0x0001 s t ∧ Emission.handshake none a.source 0x13 a.id
          (hsMac (s.roleKey a.keySlot) "zhonal accept" a.nd a.nc a.id a.role) ∈ t.out ∧ ∀ b, b ∈ t.dict.attempts → b.id ≠ id.toNat)) ∧
    (mac ≠ hsMac (s.roleKey a.keySlot) "zhonal proof" a.nc a.nd a.id a.role → Does (.proof id src mac) s (fun t => Counted 0x0003 s t ∧
      Emission.handshake none a.source 0x14 a.id (beBytes 1 1) ∈ t.out ∧ (∀ b, b ∈ t.dict.attempts → b.id ≠ id.toNat) ∧
      ∀ i, t.sess i = s.sess i))) ∧
  (∀ (i : Fin 36) (s : State), (s.sess i).id ≠ 0 → s.upd.paused = false → s.dict.waits ≠ [] → Does (.close i) s (fun t =>
    t.dict.blocked = s.dict.blocked ++ [(i.val, .close i)] ∧ (t.sess i).id = (s.sess i).id ∧ ∀ k, t.obj k = s.obj k)) ∧
  (∀ (i : Fin 36) (s : State), (s.sess i).id ≠ 0 → s.upd.paused = false → s.dict.waits = [] → s.dict.blocked = [] → Does (.close i) s (fun t =>
    (t.sess i).id = 0 ∧
    (∀ y, y ∈ t.dict.subs → y.slot ≠ i.val) ∧ (∀ a, s.stageOwner a = (s.sess i).id → t.stageOwner a = 0 ∧ t.stagedKeys a = []) ∧
    Counted 0x0002 s t ∧ ∀ k, t.obj k = s.obj k)) ∧
  (∀ (i : Fin 36) (a : Nat) (s u : State), u = s.toTick a → (u.sess i).id ≠ 0 → (u.sess i).lastHeard + 60 * tickS ≤ u.now →
    Does (.sessionTimeout i a) s (fun t => (t.sess i).id = 0 ∧ (∀ y, y ∈ t.dict.subs → y.slot ≠ i.val) ∧
      (∀ x, u.stageOwner x = (u.sess i).id → t.stageOwner x = 0 ∧ t.stagedKeys x = []) ∧ Counted 0x0002 s t ∧
      ∀ k, t.obj k = s.obj k)) ∧
  (∀ (src : List Byte) (a : Nat) (s u : State), u = s.toTick a →
    Does (.addressBarExpiry src a) s (fun t => (∀ r x, r ∈ t.dict.addrs → r.source = addrOf src → r.barred = some x → u.now < x) ∧
      (∀ r, r ∈ u.dict.addrs → r.barred = none → r ∈ t.dict.addrs) ∧ ∀ k, t.obj k = s.obj k)) ∧
  (∀ (src : List Byte) (id : Word) (n : Quad) (b : List Byte) (fr : Bool) (s : State),
    ((∀ i, 4 ≤ i → i < 36 → (s.sess i).id = id.toNat → id.toNat = 0) → Does (.udpDatagramDrop src id n b fr) s (fun t =>
      Counted 0x0006 s t ∧ t.dict = s.dict ∧ ∀ k, t.obj k = s.obj k)) ∧
    ∀ i, ((List.range 32).map (fun i => 4 + i)).find? (fun i => (s.sess i).id == id.toNat && id.toNat != 0) = some i →
    (fr = true ∨ (s.sess i).authentic n.toNat b = false ∨ (s.sess i).replayed n.toNat = true → Does (.udpDatagramDrop src id n b fr) s
      (fun t => Counted 0x0006 s t ∧ t.dict = s.dict ∧ ∀ k, t.obj k = s.obj k)) ∧
    (fr = false → (s.sess i).authentic n.toNat b = true → (s.sess i).replayed n.toNat = false → Does (.udpDatagramDrop src id n b fr) s
      (fun t =>
      (t.sess i).rxTop = max (s.sess i).rxTop n.toNat ∧ (t.sess i).lastHeard = s.now ∧ (t.sess i).replayed n.toNat = true ∧
      ∀ k, t.obj k = s.obj k)))

/-- R43, R62, R64–R67 (tick `a` makes `s` into `u`): messages. A message that is discarded counts, and sets ERROR with its code on its
channel; a repeated message is answered from the cache; a change subscribed to is notified; GO submits a request of a right length and
sets BUSY, while BUSY it is an error; a write of MBX_STATUS_n clears what it names; a pause holds messages. -/
def Obligations.MessagesAndMailbox : Prop :=
  (∀ (c : Fin 3) (s : State), s.dictOn = true → s.upd.paused = false → s.dict.waits = [] → s.dict.blocked = [] →
    Does (.messageDiscard none c) s (fun t => t.dict = { s.dict with discards := s.dict.discards + 1 } ∧ (∀ k, t.obj k = s.obj k) ∧
      ∀ x, t.reg x = s.reg x) ∧
    ∀ n : Fin 4, Does (.messageDiscard (some n) c) s (fun t => t.dict.discards = s.dict.discards + 1 ∧
      bitOf (t.reg (rMbx n + 4)) 31 = false ∧ bitOf (t.reg (rMbx n + 4)) 28 = true ∧ fld (t.reg (rMbx n + 4)) 24 17 = discardCode c ∧
      ∀ k, t.obj k = s.obj k)) ∧
  (∀ (i : Fin 36) (q : Word) (s : State), 4 ≤ i.val → (s.sess i).id ≠ 0 → s.upd.paused = false → (s.sess i).lastSeq = some q.toNat →
    (s.sess i).running = false → s.dict.waits = [] → s.dict.blocked = [] → Does (.cachedResponse i q) s (fun t =>
      t.out = s.out ++ [s.udpResponse i q.toNat ((s.sess i).cache ++ (s.sess i).details)] ∧ (t.sess i).cache = (s.sess i).cache ∧
      (t.sess i).lastHeard = s.now ∧ ∀ k, t.obj k = s.obj k)) ∧
  (∀ (i : Fin 36) (ix : Half) (sub : Byte) (x : Subscr) (a : Nat) (s u : State), u = s.toTick a → 4 ≤ i.val → (u.sess i).id ≠ 0 →
    u.upd.paused = false → x ∈ u.dict.subs → x.slot = i.val → x.key = objKey ix.toNat sub.toNat → u.notifDue x (keySub x.key) = true →
    Does (.notify i ix sub a) s (fun t => (∃ f n, n.key = objKey ix.toNat sub.toNat ∧ Emission.datagram i
        ((u.sess i).sealed ((u.sess i).txCount + 1) (u.notifBytes i f (u.sess i).overflow n)) ∈ t.out) ∧
      (t.sess i).txCount = (u.sess i).txCount + 1 ∧ ∀ k, t.obj k = s.obj k)) ∧
  (∀ (n : Fin 4) (w : Word) (s : State), s.winOpen (rMbx n) = true → bitOf w.toNat 31 = true →
    (bitOf (s.reg (rMbx n + 4)) 31 = false → 20 ≤ fld w.toNat 15 0 → fld w.toNat 15 0 ≤ 61440 → Does (.mbxDoorbell n w) s (fun t =>
      bitOf (t.reg (rMbx n + 4)) 31 = true ∧ (∀ x, x ≠ rMbx n + 4 → t.reg x = s.reg x) ∧ ∀ k, t.obj k = s.obj k)) ∧
    (bitOf (s.reg (rMbx n + 4)) 31 = true → Does (.mbxDoorbell n w) s (fun t => bitOf (t.reg (rMbx n + 4)) 31 = true ∧
      bitOf (t.reg (rMbx n + 4)) 28 = true ∧ fld (t.reg (rMbx n + 4)) 24 17 = 3)) ∧
    (bitOf (s.reg (rMbx n + 4)) 31 = false → fld w.toNat 15 0 < 20 → Does (.mbxDoorbell n w) s (fun t =>
      bitOf (t.reg (rMbx n + 4)) 28 = true ∧ fld (t.reg (rMbx n + 4)) 24 17 = 1))) ∧
  (∀ (n : Fin 4) (w : Word) (s : State), s.winOpen (rMbx n + 4) = true → tget noWait s.dict.mbxWait n.val = [] → (s.sess n).queue = [] →
    Does (.mbxBufferRelease n w) s (fun t => (∀ b, 28 ≤ b → b ≤ 30 → bitOf (t.reg (rMbx n + 4)) b =
      (bitOf (s.reg (rMbx n + 4)) b && !bitOf w.toNat b)) ∧ (∀ x, x ≠ rMbx n + 4 → t.reg x = s.reg x) ∧ ∀ k, t.obj k = s.obj k)) ∧
  (∀ (i : Fin 36) (s : State), (s.sess i).id ≠ 0 → s.upd.paused = true → s.upd.heldMsgs < 256 →
    Does (.close i) s (fun t => t.upd.heldRecs = s.upd.heldRecs ++ [.close i] ∧ t.dict = s.dict ∧ ∀ k, t.obj k = s.obj k))

/-- R40, R43–R45, R47, R62 (the record begins a message, `u` is the state with the message begun): records that answer. NOP is answered,
held in a pause and behind a record that waits, discarded without a session, and as the last record sends the response; READ and
READ_SEGMENT answer the value of an object that may be read, else the code of the first check that fails, READ with SUB 0 one record for
each subindex that can be read; DESCRIBE answers the description, with SUB 0 of every subindex present. None of them changes an object; the
reads that move a cursor (R237, R426) stand with the command objects. -/
def Obligations.RecordsRead : Prop :=
  (∀ (c : Ctx) (s : State),
    (s.begins c → Does (.nop c) s (fun t => t.answered c 0 0 0 0 ∧ (t.sess c.slot).lastSeq = some c.seq.toNat ∧
      (∀ k, t.obj k = s.obj k) ∧ ∀ x, t.reg x = s.reg x)) ∧
    ((s.sess c.slot).id = 0 → s.dict.blocked = [] → Does (.nop c) s (fun t => t = s)) ∧
    ((s.sess c.slot).id ≠ 0 → s.upd.paused = false → s.dict.waits ≠ [] → Does (.nop c) s (fun t =>
      t.dict.blocked = s.dict.blocked ++ [(c.slot.val, .nop c)] ∧ (t.sess c.slot).cache = (s.sess c.slot).cache ∧ t.out = s.out ∧
      ∀ k, t.obj k = s.obj k)) ∧
    ((s.sess c.slot).id ≠ 0 → s.upd.paused = true → s.dict.blocked = [] → s.upd.heldMsgs < 256 → c.first = true → Does (.nop c) s (fun t =>
      t.upd.heldRecs = s.upd.heldRecs ++ [.nop c] ∧ (t.sess c.slot).cache = (s.sess c.slot).cache ∧ ∀ k, t.obj k = s.obj k)) ∧
    (4 ≤ c.slot.val → (s.sess c.slot).id ≠ 0 → s.upd.paused = false → c.first = true → c.last = true →
      (s.sess c.slot).lastSeq ≠ some c.seq.toNat → s.dict.waits = [] → s.dict.blocked = [] → c.form = .good → Does (.nop c) s (fun t =>
        t.out = s.out ++ [s.udpResponse c.slot c.seq.toNat [⟨0, 0, 0, 0, 0, []⟩]] ∧ ∀ k, t.obj k = s.obj k))) ∧
  (∀ (c : Ctx) (ix : Half) (sub : Byte) (s u : State), s.begins c → u = s.beginMsg c →
    (sub.toNat ≠ 0 → u.readCode c.slot ix.toNat sub.toNat ≠ 0 → Does (.read c ix sub) s (fun t =>
      t.answered c 1 ix.toNat sub.toNat (u.readCode c.slot ix.toNat sub.toNat) ∧ ∀ k, t.obj k = s.obj k)) ∧
    (∀ b, sub.toNat ≠ 0 → u.readCode c.slot ix.toNat sub.toNat = 0 →
      b = encodeVal ((objDef ix.toNat sub.toNat).getD noRow).ty (u.readVal c.slot (objKey ix.toNat sub.toNat)) → b.length ≤ 65535 →
      objKey ix.toNat sub.toNat ≠ 0x620103 → objKey ix.toNat sub.toNat ≠ 0xA80006 → Does (.read c ix sub) s (fun t =>
        (t.sess c.slot).cache = [⟨1, tyCode ((objDef ix.toNat sub.toNat).getD noRow).ty, ix.toNat, sub.toNat, 0, b⟩] ∧
        ∀ k, t.obj k = s.obj k)) ∧
    (sub.toNat = 0 → ixExists ix.toNat = false → Does (.read c ix sub) s (fun t => t.answered c 1 ix.toNat 0 0x0003 ∧
      ∀ k, t.obj k = s.obj k)) ∧
    (sub.toNat = 0 → ixExists ix.toNat = true → (subsOf ix.toNat).all (fun n => u.pinnedAway (objKey ix.toNat n)) = false →
      Does (.read c ix sub) s (fun t => (t.sess c.slot).cache.map RespRec.sub = u.openSubs ix.toNat ∧
        (∀ r, r ∈ (t.sess c.slot).cache → r.opcode = 1 ∧ r.ix = ix.toNat) ∧ ∀ k, k ≠ 0x620102 → t.obj k = s.obj k)) ∧
    (∀ (o : Word), u.readCode c.slot ix.toNat sub.toNat = 0 → ((objDef ix.toNat sub.toNat).getD noRow).ty = .domain →
      (o.toNat ≤ (u.readVal c.slot (objKey ix.toNat sub.toNat)).bytes.length → Does (.readSegment c ix sub o) s (fun t =>
        (t.sess c.slot).cache = [⟨7, 13, ix.toNat, sub.toNat, 0,
          beBytes 4 o.toNat ++ ((u.readVal c.slot (objKey ix.toNat sub.toNat)).bytes.drop o.toNat).take 4096⟩] ∧ ∀ k, t.obj k = s.obj k)) ∧
      ((u.readVal c.slot (objKey ix.toNat sub.toNat)).bytes.length < o.toNat → Does (.readSegment c ix sub o) s (fun t =>
        t.answered c 7 ix.toNat sub.toNat 0x000A ∧ ∀ k, t.obj k = s.obj k))) ∧
    (sub.toNat ≠ 0 → u.existCode ix.toNat sub.toNat = 0 → Does (.describe c ix sub) s (fun t =>
      (t.sess c.slot).cache = [⟨11, 11, ix.toNat, sub.toNat, 0,
        u.describe (objKey ix.toNat sub.toNat) ((objDef ix.toNat sub.toNat).getD noRow)⟩] ∧ ∀ k, t.obj k = s.obj k)) ∧
    (sub.toNat ≠ 0 → u.existCode ix.toNat sub.toNat ≠ 0 → Does (.describe c ix sub) s (fun t =>
      t.answered c 11 ix.toNat sub.toNat (u.existCode ix.toNat sub.toNat) ∧ ∀ k, t.obj k = s.obj k)) ∧
    (sub.toNat = 0 → ixExists ix.toNat = true → (subsOf ix.toNat).all (fun n => u.pinnedAway (objKey ix.toNat n)) = false →
      Does (.describe c ix sub) s (fun t => (t.sess c.slot).cache.map RespRec.sub =
        (subsOf ix.toNat).filter (fun n => !u.pinnedAway (objKey ix.toNat n)) ∧ ∀ k, t.obj k = s.obj k)))

/-- R42, R48–R51, R66, R520 (the record begins a message, `u` is the state with the message begun): records that stage, commit and
subscribe. A write that fails a check answers its code and changes no object; an RWS write joins the staged set, which its session owns,
and changes no running object; an RW write changes its object at once; a first segment begins a DOMAIN; DISCARD and an ENABLE of 2 empty
the staged set; an ENABLE of 1 that passes the hurdle makes the staged value the running value, with 0x0010, one that does not is refused
with the code of the lowest object of the first check that fails, in LAST_HURDLE and 0x0011, and a malformed chain with 0x000E; SUBSCRIBE
adds the subscription and UNSUBSCRIBE removes it. -/
def Obligations.RecordsStageAndCommit : Prop :=
  ∀ (c : Ctx) (s u : State), s.begins c → u = s.beginMsg c →
  (∀ (ix : Half) (sub ty : Byte) (v : List Byte) (x : Val), (areaCtls.contains ix.toNat && sub.toNat == 1) = false →
    (∀ e, u.writeCheck c.slot ix.toNat sub.toNat ty.toNat v = (e, x) → e ≠ 0 → Does (.write c ix sub ty v) s (fun t =>
      t.answered c 2 ix.toNat sub.toNat e ∧ (∀ k, t.obj k = s.obj k) ∧ t.dict.staged = s.dict.staged)) ∧
    (u.writeCheck c.slot ix.toNat sub.toNat ty.toNat v = (0, x) → ((objDef ix.toNat sub.toNat).getD noRow).acc = .rws →
      Does (.write c ix sub ty v) s (fun t => t.answered c 2 ix.toNat sub.toNat 0 ∧ tfind t.dict.staged (objKey ix.toNat sub.toNat) = some x ∧
        t.stageOwner (areaOf (keyIx (objKey ix.toNat sub.toNat))) = (s.sess c.slot).id ∧ ∀ k, t.obj k = s.obj k))) ∧
  (∀ (ty : Byte) (v : List Byte) (x : Val), u.writeCheck c.slot 0x4001 5 ty.toNat v = (0, x) →
    Does (.write c 0x4001 5 ty v) s (fun t => t.answered c 2 0x4001 5 0 ∧ t.obj 0x400105 = x ∧ ∀ k, k ≠ 0x400105 → t.obj k = s.obj k)) ∧
  (∀ (ix : Half) (sub : Byte) (b : List Byte), b.length ≤ 4096 → u.writeCode c.slot ix.toNat sub.toNat ((objDef ix.toNat sub.toNat).getD noRow) = 0 →
    ((objDef ix.toNat sub.toNat).getD noRow).ty = .domain → ((objDef ix.toNat sub.toNat).getD noRow).acc = .rws →
    u.capCode (objKey ix.toNat sub.toNat) = 0 → Does (.writeSegment c ix sub 0 b false) s (fun t => t.answered c 8 ix.toNat sub.toNat 0 ∧
      tget noBytes t.dict.domBuf (objKey ix.toNat sub.toNat) = b ∧ ∀ k, t.obj k = s.obj k)) ∧
  (∀ (a : Half), areaCtls.contains a.toNat = true → u.stateCode a.toNat = 0 → u.ownCode c.slot a.toNat = 0 →
    Does (.discard c a) s (fun t => t.answered c 4 a.toNat 0 0 ∧ (∀ p, p ∈ t.dict.staged → areaOf (keyIx p.1) ≠ a.toNat) ∧
      t.stageOwner a.toNat = 0 ∧ ∀ k, t.obj k = s.obj k)) ∧
  (∀ (a : Half), u.enableCode c.slot (enRec a 2) = 0 → Does (.enableDiscard c a) s (fun t =>
    t.answered c 3 a.toNat 1 0 ∧ (∀ p, p ∈ t.dict.staged → areaOf (keyIx p.1) ≠ a.toNat) ∧ t.stageOwner a.toNat = 0)) ∧
  (∀ (k : Nat) (v : Val), s.dict.staged = [(k, v)] → s.dict.domBuf = [] → areaOf (keyIx k) = 0xAFFF → keyIx k ≠ 0xAFFF →
    u.enableCode c.slot (enRec 0xAFFF 1) = 0 → u.hurdle [0xAFFF] = [] → Does (.enableCommit c [enRec 0xAFFF 1] false) s (fun t =>
      t.answered c 3 0xAFFF 1 0 ∧ t.obj k = v ∧ t.dict.staged = [] ∧ Counted 0x0010 s t ∧
      t.num (objKey 0xAFFF 6) = (s.num (objKey 0xAFFF 6) + 1) % 2 ^ 32)) ∧
  (∀ (a : Half) (k e : Nat), u.enableCode c.slot (enRec a 1) = 0 → u.openDomain a.toNat = none → u.mirrors = false →
    decide_ (u.hurdle [a.toNat]) a.toNat = some (k, e) → Does (.enableCommit c [enRec a 1] false) s (fun t =>
      t.answered c 3 a.toNat 1 e ∧ t.num (objKey a.toNat 2) = e ∧ t.num (objKey a.toNat 3) = k ∧ t.dict.staged = s.dict.staged ∧
      Counted 0x0011 s t ∧ ∀ x, x ≠ objKey a.toNat 2 → x ≠ objKey a.toNat 3 → t.obj x = s.obj x)) ∧
  (∀ (chain : List EnRec), Does (.enableCommit c chain true) s (fun t =>
    (t.sess c.slot).cache = chain.map (fun e => (⟨3, 0, e.area.toNat, e.sub.toNat, 0x000E, []⟩ : RespRec)) ∧ (∀ k, t.obj k = s.obj k) ∧
    t.dict.staged = s.dict.staged)) ∧
  (∀ (e : EnRec), areaCtls.contains e.area.toNat = true → Does (.enableCommit c [e] true) s (fun t => Counted 0x0011 s t)) ∧
  (∀ (ix : Half) (sub m : Byte) (i0 i1 : Byte), u.subCode c.slot ix.toNat sub.toNat = 0 →
    (1 ≤ m.toNat → m.toNat ≤ 3 → 10 ≤ ofBe [i0, i1] → ofBe [i0, i1] ≤ 60000 → s.dict.subs.length < 1024 →
      Does (.subscribe c ix sub [m, 0, i0, i1]) s (fun t => t.answered c 5 ix.toNat sub.toNat 0 ∧
        (∃ y, y ∈ t.dict.subs ∧ y.slot = c.slot.val ∧ y.key = objKey ix.toNat sub.toNat ∧ y.mode = m.toNat ∧ y.interval = ofBe [i0, i1]) ∧
        ∀ k, t.obj k = s.obj k)) ∧
    Does (.unsubscribe c ix sub) s (fun t => t.answered c 6 ix.toNat sub.toNat 0 ∧
      (∀ y, y ∈ t.dict.subs → ¬(y.slot = c.slot.val ∧ y.key = objKey ix.toNat sub.toNat)) ∧ ∀ k, t.obj k = s.obj k))

/-- R63, R106, R157, R194, R209, R221, R258, R264, R295, R375 (the record begins a message, `u` is the state with the message begun, `x`
the value written): command objects of the data path. Each is answered with status 0 and does what its chapter says: CLOSE_NOW ends
another session, COUNTERS_CLEAR zeroes the counters, REALIGN asks for a re-alignment of the slot's group, PRBS_INJECT adds errors, RETRAIN
trains a worn or failed lane again, a take batch and a write of take state wait for their deadline, a port's SID changes, SELF_CHECK
starts on an unused engine. -/
def Obligations.CommandObjectsOfEssence : Prop :=
  ∀ (c : Ctx) (s u : State) (x : Val), s.begins c → u = s.beginMsg c →
  (∀ (i : Fin 36), i ≠ c.slot → (s.sess i).id ≠ 0 → u.writeCheck c.slot (0x0100 + i.val) 6 1 [1] = (0, x) → x.toNat = 1 →
    Does (.closeNow c i) s (fun t => t.answered c 2 (0x0100 + i.val) 6 0 ∧ (t.sess i).id = 0 ∧ Counted 0x0002 s t ∧
      (∀ y, y ∈ t.dict.subs → y.slot ≠ i.val) ∧ ∀ k, t.obj k = s.obj k)) ∧
  (∀ (ix : Half) (l : List Nat), clearedSubs ix.toNat = some l → u.writeCheck c.slot ix.toNat (clearSub ix.toNat) 1 [1] = (0, x) → x.toNat = 1 →
    Does (.countersClear c ix) s (fun t => t.answered c 2 ix.toNat (clearSub ix.toNat) 0 ∧ (∀ n, n ∈ l → t.num (objKey ix.toNat n) = 0) ∧
      ∀ k, (∀ n, n ∈ l → k ≠ objKey ix.toNat n) → t.obj k = s.obj k)) ∧
  (∀ (n : Fin 256) (v : Byte), u.writeCheck c.slot (0x5100 + n.val) 0x1A 1 [v] = (0, x) → x.toNat = 1 →
    Does (.realign c n v) s (fun t => t.answered c 2 (0x5100 + n.val) 0x1A 0 ∧ (∀ m, m ∈ u.groupSlots n → (t.slot m).realign = s.tm.pt + 1) ∧
      (∀ m, m ∉ u.groupSlots n → t.slot m = s.slot m) ∧ ∀ k, t.obj k = s.obj k)) ∧
  (∀ (f : Fin 128) (v : Half), u.writeCheck c.slot (0x4100 + f.val) 0x0A 3 (beBytes 2 v.toNat) = (0, x) → s.num (O.flPrbsMode f) ≠ 0 →
    Does (.prbsInject c f v) s (fun t => t.answered c 2 (0x4100 + f.val) 0x0A 0 ∧ (t.fl f).inject = (s.fl f).inject + x.toNat ∧
      ∀ k, t.obj k = s.obj k)) ∧
  (∀ (f : Fin 128) (v : Byte) (j m : Nat), u.writeCheck c.slot (0x4100 + f.val) 0x0D 1 [v] = (0, x) → x.toNat = 1 → s.started = true →
    ((s.fl f).worn = true ∨ (s.fl f).failed = true) → s.num (O.flPrbsMode f) = 0 → s.laneUsable f = true → s.laneLink f = some (j, m) →
    Does (.retrain c f v) s (fun t => t.answered c 2 (0x4100 + f.val) 0x0D 0 ∧ (t.fl f).phase = .training ∧ (t.fl f).worn = false ∧
      (t.fl f).since = s.now ∧ (t.fl f).fails = [] ∧ ∃ l, Emission.training f l ∈ t.out)) ∧
  (∀ (b : List Byte) (r : List TakeRec), u.writeCheck c.slot 0x6200 1 11 b = (0, x) → r = (take32 32 x.bytes).map (decodeTake false) →
    (r.map TakeRec.last).getLast? = some true → (r.map TakeRec.last).dropLast.any id = false → batchMalformed r = false → s.takeGate = 0 →
    (∀ q, q ∈ r → s.recStatus q = 0) →
    r.any (fun q => s.outRaster q.output % 256 != ((r.head?.map (fun p => s.outRaster p.output)).getD 0) % 256) = false →
    (∀ q, q ∈ r → s.needsUp (s.recNeeds q (s.recChans q)) = true) →
    Does (.takeBatch c b) s (fun t => t.answered c 2 0x6200 1 0 ∧ t.ess.takes.order = s.ess.takes.order + 1 ∧
      ∃ y, y ∈ t.ess.takes.batches ∧ y.origin = 4 ∧ y.order = s.ess.takes.order ∧ y.recs.length = r.length)) ∧
  (∀ (o : Fin 128) (ty : Byte) (v : List Byte) (q : TakeRec), u.writeCheck c.slot (0x6100 + o.val) 1 ty.toNat v = (0, x) →
    q = rwtRec o 1 x.toNat (s.rwtTrans o) → s.takeGate = 0 → s.recStatus q = 0 → s.needsUp (s.recNeeds q (s.recChans q)) = true →
    Does (.takeStateWrite c o 1 ty v) s (fun t => t.answered c 2 (0x6100 + o.val) 1 0 ∧ t.num (O.takePending o) = 1 ∧
      t.num (O.takeVideoSid o) = s.num (O.takeVideoSid o) ∧
      ∃ y p, y ∈ t.ess.takes.batches ∧ p ∈ y.recs ∧ p.rec_.output = o.val ∧ p.rec_.setVideo = true ∧ p.rec_.video = x.toNat)) ∧
  (∀ (ix : Half) (sub ty : Byte) (v : List Byte) (d : Nat), u.writeCheck c.slot ix.toNat sub.toNat ty.toNat v = (0, x) →
    portOfKey (objKey ix.toNat sub.toNat) = some d → portSidOk x.toNat = true → s.sidRemote x.toNat = false →
    (s.pdest d).tr = none → s.num (portKey d) ≠ x.toNat → Does (.portSidWrite c ix sub ty v) s (fun t =>
      t.answered c 2 ix.toNat sub.toNat 0 ∧ t.num (portKey d) = x.toNat ∧ ∃ tr, (t.pdest d).tr = some tr ∧ tr.old = s.num (portKey d) ∧
        tr.new = x.toNat)) ∧
  (∀ (e : Fin 16) (v : Byte), u.writeCheck c.slot (0x7810 + e.val) 7 1 [v] = (0, x) → x.toNat ≠ 0 → s.num (O.engState e) = 0 →
    Does (.selfCheck c e v) s (fun t => t.answered c 2 (0x7810 + e.val) 7 0 ∧ t.num (O.engState e) = 2 ∧
      tfind t.str.checkAt e.val = some s.now ∧ ∀ k, k ≠ O.engState e → t.obj k = s.obj k))

/-- R344, R345, R355, R370, R414, R417, R418 (the record begins a message, `u` is the state with the message begun, `x` the value
written): command objects of the Pacer, the twin and the fault collector. A step that may be made moves PT96 and is told with 0x2009, any
other is refused; JUMP_OVERRIDE arms; LOOP_MODE opens and closes the loop; RELINQUISH sets the release; SAFE_ENTER and SAFE_EXIT begin and
end the safe state; an acknowledgement acknowledges. -/
def Obligations.CommandObjectsOfControl : Prop :=
  ∀ (c : Ctx) (s u : State) (x : Val), s.begins c → u = s.beginMsg c →
  (∀ (ty : Byte) (v : List Byte),
    (u.writeCheck c.slot 0x2003 2 ty.toNat v = (0, x) →
      (s.armed = true ∨ s.flag O.pacerEverLocked = false ∨
          (((x.toNat * 2 ^ 32 : Nat) : Int) - (s.tm.pt : Int)).natAbs ≤ s.num O.loopJumpThreshold * ptNs → Does (.timeSet c ty v) s (fun t => t.answered c 2 0x2003 2 0 ∧
        t.tm.pt = x.toNat * 2 ^ 32 % 2 ^ 128 ∧ Counted 0x2009 s t ∧ (s.armed = true → t.armed = false) ∧ ∀ k, t.obj k = s.obj k)) ∧
      (s.armed = false → s.flag O.pacerEverLocked = true →
        s.num O.loopJumpThreshold * ptNs < (((x.toNat * 2 ^ 32 : Nat) : Int) - (s.tm.pt : Int)).natAbs →
        Does (.timeSet c ty v) s (fun t => t.answered c 2 0x2003 2 0x2010 ∧ t.tm = s.tm ∧ Counted 0x200A s t ∧
          t.num O.pacerStepsRefused = (s.num O.pacerStepsRefused + 1) % 2 ^ 32))) ∧
    (u.writeCheck c.slot 0x2003 3 ty.toNat v = (0, x) →
      (s.armed = true ∨ s.flag O.pacerEverLocked = false ∨ (x.toInt * (ptNs : Int)).natAbs ≤ s.num O.loopJumpThreshold * ptNs →
        Does (.timeStep c ty v) s (fun t => t.answered c 2 0x2003 3 0 ∧
          t.tm.pt = ((s.tm.pt : Int) + x.toInt * (ptNs : Int)).toNat % 2 ^ 128 ∧ Counted 0x2009 s t ∧ ∀ k, t.obj k = s.obj k)) ∧
      (s.armed = false → s.flag O.pacerEverLocked = true → s.num O.loopJumpThreshold * ptNs < (x.toInt * (ptNs : Int)).natAbs →
        Does (.timeStep c ty v) s (fun t => t.answered c 2 0x2003 3 0x2010 ∧ t.tm = s.tm ∧ Counted 0x200A s t ∧
          t.num O.pacerStepsRefused = (s.num O.pacerStepsRefused + 1) % 2 ^ 32)))) ∧
  (∀ (v : Byte), u.writeCheck c.slot 0x2003 4 1 [v] = (0, x) → x.toNat ≠ 0 → (∀ i, s.stepHeld i = 0) →
    Does (.jumpOverride c v) s (fun t => t.answered c 2 0x2003 4 0 ∧ t.pac.armed = s.now + 1 ∧ t.tm = s.tm ∧ ∀ k, t.obj k = s.obj k)) ∧
  (u.writeCheck c.slot 0x2001 1 2 [1] = (0, x) → x.toNat = 1 → s.pacer ≠ 5 → Does (.loopOpen (some c)) s (fun t =>
    t.answered c 2 0x2001 1 0 ∧ t.num O.pacerPacerState = 5 ∧ t.num O.loopLoopMode = 1 ∧ Counted 0x200C s t)) ∧
  (u.writeCheck c.slot 0x2001 1 2 [0] = (0, x) → x.toNat = 0 → s.pacer = 5 → Does (.loopClose (some c)) s (fun t =>
    t.answered c 2 0x2001 1 0 ∧ t.num O.pacerPacerState ≠ 5 ∧ t.num O.loopLoopMode = 0 ∧ Counted 0x200C s t)) ∧
  (∀ (v : Byte), u.writeCheck c.slot 0xC001 5 1 [v] = (0, x) → x.toNat ≠ 0 → s.twin.gate = true → s.flag O.twinPartnerHealthy = true →
    s.twin.role ≠ 0 → s.twin.up = true → s.twin.diverged = false → s.twinState ≠ 7 → Does (.relinquish c v) s (fun t =>
      t.answered c 2 0xC001 5 0 ∧ t.twinState = 7 ∧ t.twin.relT = s.releaseAt ∧ t.twin.tx = s.twin.tx + 1 ∧ t.twin.gate = true)) ∧
  (∀ (v : Byte), u.writeCheck c.slot 0xA001 5 1 [v] = (0, x) → x.toNat = 1 → s.flt.safe = false → Does (.safeEnter c v) s (fun t =>
    t.answered c 2 0xA001 5 0 ∧ t.flt.safe = true ∧ t.num 0xA00104 = 0xFFFE ∧ t.num 0xA00103 = 1 ∧ Counted 0xA004 s t)) ∧
  (∀ (v : Byte), u.writeCheck c.slot 0xA001 6 1 [v] = (0, x) → x.toNat ≠ 0 → s.flt.safe = true →
    (s.flt.selfFault = false → (∀ n y, (n, y) ∈ s.heldList → y.sev ≠ 3) → Does (.safeExit c v) s (fun t =>
      t.answered c 2 0xA001 6 0 ∧ t.flt.safe = false ∧ t.num 0xA00103 = 0 ∧ Counted 0xA005 s t)) ∧
    (s.flt.selfFault = true → Does (.safeExit c v) s (fun t => t.answered c 2 0xA001 6 0xA001 ∧ t.flt.safe = true ∧
      ∀ k, t.obj k = s.obj k))) ∧
  (∀ (n : Fin 512), u.writeCheck c.slot (0xA100 + n.val) 10 1 [1] = (0, x) → x.toNat = 1 → (s.src n).state ≠ 0 →
    Does (.ack (some c) n) s (fun t => t.answered c 2 (0xA100 + n.val) 10 0 ∧ (t.src n).state = (if (s.src n).cond then 2 else 0) ∧
      Counted 0xA002 s t)) ∧
  (u.writeCheck c.slot 0xA001 9 1 [1] = (0, x) → x.toNat = 1 → s.heldList ≠ [] → Does (.ackAll (some c)) s (fun t =>
    t.answered c 2 0xA001 9 0 ∧ Counted 0xA002 s t ∧ ∀ n y, (n, y) ∈ s.heldList → (t.src n).state ≠ 1))

/-- R237, R426, R427, R434, R436, R455, R461, R462, R464, R476, R478, R481 (the record begins a message, `u` is the state with the message
begun, `x` the value written): command objects of the recorder, the journal, power, keys and update. Reads move their cursors; a right
token clears the recorder; BENCH_REQUEST and BENCH_FORCE begin the entry to Bench, BENCH_REQUEST 0 wakes; LC_REQUEST moves the life cycle;
a key is loaded, verified, invalidated; a report is asked for; ACTIVATE begins an activation, the first CONFIRM of a trial counts. -/
def Obligations.CommandObjectsOfManagement : Prop :=
  ∀ (c : Ctx) (s u : State) (x : Val), s.begins c → u = s.beginMsg c →
  (u.readCode c.slot 0xA800 6 = 0 →
    (encodeVal ((objDef 0xA800 6).getD noRow).ty (u.readVal c.slot 0xA80006)).length ≤ 65535 → Does (.recRead c) s (fun t =>
      (t.sess c.slot).recCursor = (u.recReadFrom (s.sess c.slot).recCursor).2 ∧ (∀ k, t.obj k = s.obj k) ∧
      (t.sess c.slot).cache = [⟨1, tyCode ((objDef 0xA800 6).getD noRow).ty, 0xA800, 6, 0,
        encodeVal ((objDef 0xA800 6).getD noRow).ty (u.readVal c.slot 0xA80006)⟩])) ∧
  (u.readCode c.slot 0x6201 3 = 0 →
    (encodeVal ((objDef 0x6201 3).getD noRow).ty (u.readVal c.slot 0x620103)).length ≤ 65535 → Does (.journalRead c) s (fun t =>
      t.num O.journalJournalCursor = (u.journalFrom (s.num O.journalJournalCursor)).2 ∧
      (∀ k, k ≠ O.journalJournalCursor → t.obj k = s.obj k) ∧
      (t.sess c.slot).cache = [⟨1, tyCode ((objDef 0x6201 3).getD noRow).ty, 0x6201, 3, 0,
        encodeVal ((objDef 0x6201 3).getD noRow).ty (u.readVal c.slot 0x620103)⟩])) ∧
  (∀ (b : List Byte), u.writeCheck c.slot 0xA800 9 11 b = (0, x) → s.evr.state ≠ 1 → s.evr.state ≠ 2 → Does (.recClear c b) s (fun t =>
    t.evr.challenge = Config.freeBytes s.free 16 ∧
    ((∃ k, k ∈ s.ownerKeys ∧ hmacSha384 k (ascii "recorder clear" ++ s.evr.challenge ++ s.fuses.serial) = x.bytes) →
      t.answered c 2 0xA800 9 0 ∧ t.evr.state = 1 ∧ t.evr.flash = [] ∧ Counted 0xA006 s t) ∧
    ((∀ k, k ∈ s.ownerKeys → hmacSha384 k (ascii "recorder clear" ++ s.evr.challenge ++ s.fuses.serial) ≠ x.bytes) →
      t.answered c 2 0xA800 9 0xA002 ∧ t.evr.flash = s.evr.flash ∧ t.evr.state = s.evr.state))) ∧
  (u.writeCheck c.slot 0x9001 2 2 [1] = (0, x) → x.toNat = 1 → s.twin.gate = false → s.chip = 0 → Does (.benchRequest c) s (fun t =>
    t.answered c 2 0x9001 2 0 ∧ t.chip = 1 ∧ t.pwr.entry = 1 ∧ t.pwr.entryAt = s.now ∧ t.twin.claim = false ∧ Counted 0x9002 s t ∧
    Counted 0x9001 s t)) ∧
  (u.writeCheck c.slot 0x9001 2 2 [0] = (0, x) → x.toNat = 0 → s.chip = 2 → bitOf (s.num O.pwrWakeMask) 1 = true → s.pwr.tripped = false →
    Does (.dictionaryWake c) s (fun t => t.answered c 2 0x9001 2 0 ∧ t.chip = 3 ∧ t.num O.pwrLastWake = 1 ∧ Counted 0x9004 s t)) ∧
  (∀ (v : Byte), u.writeCheck c.slot 0x9001 3 1 [v] = (0, x) → x.toNat ≠ 0 → s.chip = 0 → Does (.benchForce c v) s (fun t =>
    t.answered c 2 0x9001 3 0 ∧ t.chip = 1 ∧ t.pwr.entry = 1 ∧ t.twin.claim = false ∧ Counted 0x9002 s t)) ∧
  (∀ (b : List Byte), u.writeCheck c.slot 0xB001 3 13 b = (0, x) → x.bytes = [2] → s.upd.lc = 1 → s.ownerSlots ≠ [] →
    Does (.lcRequest c b) s (fun t => t.answered c 2 0xB001 3 0 ∧ t.upd.lc = 2 ∧ t.upd.keys = s.upd.keys ∧ Counted 0xB001 s t)) ∧
  (∀ (b : List Byte), u.writeCheck c.slot 0xB001 3 13 b = (0, x) → x.bytes = [4] → s.upd.lc ≠ 4 → Does (.lcRequest c b) s (fun t =>
    t.answered c 2 0xB001 3 0 ∧ t.upd.lc = 4 ∧ t.upd.keys = [] ∧ t.upd.slots = [] ∧ t.upd.rootBlown = true ∧ Counted 0xB001 s t)) ∧
  (∀ (n : Fin 256) (b : List Byte), 8 ≤ n.val → u.writeCheck c.slot (0xB100 + n.val) 9 11 b = (0, x) → Does (.load c n b) s (fun t =>
    (Config.oaepOpen x.bytes = none → t.answered c 2 (0xB100 + n.val) 9 0xB003 ∧ t.upd = s.upd) ∧
    (∀ m p, Config.oaepOpen x.bytes = some m → m.length = 60 → ofBe (m.take 1) = n.val →
      (ofBe (sub_ m 1 1) = 4 ∨ ofBe (sub_ m 1 1) = 5) → ofBe (sub_ m 2 1) = p → ofBe (sub_ m 6 2) = 0 →
      ofBe (sub_ m 8 4) = (s.key n).gen + 1 → sub_ m 12 16 = s.fuses.serial → (n.val = 8 → p = 0 ∧ s.upd.rootBlown = false) →
      (n.val ≠ 8 → 8 ≤ p ∧ p ≠ n.val ∧ s.keyUnder n 256 p = false ∧ (s.key p).kind = 4 ∧ s.keyUsable p (masterOf c.slot) = true) →
      t.answered c 2 (0xB100 + n.val) 9 0 ∧ Counted 0xB002 s t ∧ ∃ p, (t.key n).pend = some p ∧ p.key = sub_ m 28 32 ∧
        p.gen = (s.key n).gen + 1 ∧ p.at_ = s.now))) ∧
  (∀ (n : Fin 256) (b : List Byte) (p : PendKey), u.writeCheck c.slot (0xB100 + n.val) 10 11 b = (0, x) → (s.key n).pend = some p →
    Does (.verify c n b) s (fun t =>
      (hmacSha384 p.key (ascii "key verify" ++ s.fuses.serial ++ p8 n ++ p32 p.gen) = x.bytes →
        t.answered c 2 (0xB100 + n.val) 10 0 ∧ (t.key n).state = 1 ∧ (t.key n).key = p.key ∧ (t.key n).gen = p.gen ∧
        (t.key n).pend = none ∧ Counted 0xB003 s t) ∧
      (hmacSha384 p.key (ascii "key verify" ++ s.fuses.serial ++ p8 n ++ p32 p.gen) ≠ x.bytes →
        t.answered c 2 (0xB100 + n.val) 10 0xB005 ∧ t.upd = s.upd))) ∧
  (∀ (n : Fin 256) (v : Byte), u.writeCheck c.slot (0xB100 + n.val) 11 1 [v] = (0, x) → x.toNat ≠ 0 →
    (8 ≤ n.val → s.upd.lc ≠ 2 → Does (.invalidate c n v) s (fun t => t.answered c 2 (0xB100 + n.val) 11 0 ∧ (t.key n).state = 3 ∧
      (t.key n).key = [] ∧ Counted 0xB004 s t)) ∧
    (n.val < 8 → Does (.invalidate c n v) s (fun t => t.answered c 2 (0xB100 + n.val) 11 0xB007 ∧ t.upd = s.upd))) ∧
  (∀ (b : List Byte), u.writeCheck c.slot 0xB002 2 11 b = (0, x) → s.keyUsable 2 (masterOf c.slot) = true →
    s.keyUsable 3 (masterOf c.slot) = true → Does (.attestNonce c b) s (fun t => t.answered c 2 0xB002 2 0 ∧
      t.upd.attests = s.upd.attests ++ [(c.slot.val, x.bytes, s.now)] ∧ ∀ k, t.obj k = s.obj k)) ∧
  (∀ (v : Byte), u.writeCheck c.slot 0xD001 4 1 [v] = (0, x) → x.toNat ≠ 0 → s.updBar = none → s.updBusy = false → s.twin.gate = false →
    ((s.img (1 - s.upd.active)).state = 4 → Does (.activate c v) s (fun t => t.answered c 2 0xD001 4 0 ∧
      t.upd.active = 1 - s.upd.active ∧ (t.img (1 - s.upd.active)).state = 2 ∧ t.upd.ust = 5 ∧ Counted 0xD003 s t ∧
      ∃ y, t.upd.act = some y ∧ y.cause = 0 ∧ y.from_ = s.upd.active ∧ y.to_ = 1 - s.upd.active ∧ y.at_ = s.now)) ∧
    ((s.img (1 - s.upd.active)).state ≠ 4 → Does (.activate c v) s (fun t => t.answered c 2 0xD001 4 0xD004 ∧ t.upd = s.upd ∧
      Counted 0xD008 s t))) ∧
  (∀ (v : Byte), u.writeCheck c.slot 0xD001 5 1 [v] = (0, x) → x.toNat ≠ 0 → s.upd.trial = true → s.confirmLeft ≠ 0 →
    Does (.confirm c v) s (fun t => t.answered c 2 0xD001 5 0 ∧ (∀ k, t.obj k = s.obj k) ∧
      t.upd.confirmAt = (if s.upd.confirmAt = 0 then s.now + 1 else s.upd.confirmAt)))

/-- R459, R460, R463, R481 (tick `a` makes `s` into `u`): the key store. A pending key is discarded after 600 s with 0xB006 and no other
slot changes; a slot whose tag fails becomes TAMPERED with 0xB005 and its descendants are orphaned; an access that Table 16-4 does not let
a master make is refused with 0xB009 and changes no key; the oldest report asked for is signed. -/
def Obligations.KeyStore : Prop :=
  (∀ (n : Fin 256) (p : PendKey) (a : Nat) (s u : State), u = s.toTick a → (u.key n).pend = some p → p.at_ + 600 * tickS ≤ u.now →
    Does (.pendingKeyTimeout n a) s (fun t => (t.key n).pend = none ∧ (t.key n).state = (if (u.key n).state = 2 then 1 else (u.key n).state) ∧
      Counted 0xB006 s t ∧ (∀ m, m ≠ n.val → t.key m = s.key m) ∧ ∀ k, t.obj k = s.obj k)) ∧
  (∀ (n : Fin 256) (a : Nat) (s u : State), u = s.toTick a →
    ((u.key n).state = 1 ∨ (u.key n).state = 2 → Does (.keyPatrol [n] a) s (fun t => (t.key n).state = 5 ∧ Counted 0xB005 s t ∧
      ∀ m, m ∈ u.descendants n → (t.key m).state = 4)) ∧
    ((u.key n).state ≠ 1 → (u.key n).state ≠ 2 → Does (.keyPatrol [n] a) s (fun t => t = u))) ∧
  (∀ (m : Fin 8) (fl : Bool) (x : Fin 4) (s : State),
    (m.val = 2 ∨ (m.val = 3 ∧ (x.val = 0 ∨ x.val = (if fl then 3 else 1))) ∨ (m.val = 1 ∧ fl = false ∧ x.val = 0) ∨
        (m.val = 7 ∧ (s.upd.lc = 0 ∨ s.upd.lc = 3) ∧ (fl = true ∨ x.val = 0)) →
      Does (.keyStoreAccessRefused m fl x) s (fun t => t = s)) ∧
    (¬(m.val = 2 ∨ (m.val = 3 ∧ (x.val = 0 ∨ x.val = (if fl then 3 else 1))) ∨ (m.val = 1 ∧ fl = false ∧ x.val = 0) ∨
        (m.val = 7 ∧ (s.upd.lc = 0 ∨ s.upd.lc = 3) ∧ (fl = true ∨ x.val = 0))) →
      Does (.keyStoreAccessRefused m fl x) s (fun t => Counted 0xB009 s t ∧ t.upd = s.upd ∧ ∀ k, t.obj k = s.obj k))) ∧
  (∀ (i x : Nat) (b : List Byte) (l : List (Nat × List Byte × Nat)) (a : Nat) (s u : State), u = s.toTick a →
    u.upd.attests = (i, b, x) :: l → Does (.attestReportReady a) s (fun t => t.upd.attests = l ∧
      tget noBytes t.upd.reports i = u.attestBody b ++ reportSigs (u.attestBody b) ∧ (∀ k, t.obj k = s.obj k)))

/-- R469, R471, R475, R477–R480 (tick `a` makes `s` into `u`): field update. A download verifies with its result and 0xD001; the pause
begins and ends, the image entered running as a trial; a trial confirmed is GOOD with 0xD005 and ROLLBACK_INDEX follows its header, and a
processor that does not answer begins its 10 s anew (log entry 184); a
trial whose time has run out, or that is asked to fall back, falls back with 0xD006; GO starts the recovery read of RECOVERY_LEN
bytes, which ends with the image in slot 0 and the values of the bank it leaves in bank 0, and a restart, or with FAILED. -/
def Obligations.FieldUpdate : Prop :=
  (∀ (a : Nat) (s u : State), u = s.toTick a → u.upd.ust = 2 →
    Does (.imageVerified a) s (fun t => (t.img (1 - u.upd.active)).state =
        (if u.imageResult (u.img (1 - u.upd.active)).image = 1 then 4 else 3) ∧
      t.num 0xD00103 = u.imageResult (u.img (1 - u.upd.active)).image ∧ Counted 0xD001 s t ∧ t.img u.upd.active = s.img u.upd.active)) ∧
  (∀ (x : Activation) (a : Nat) (s u : State), u = s.toTick a → u.upd.act = some x →
    (u.upd.paused = false → u.upd.handing = false → Does (.pauseBegin a) s (fun t => t.upd.paused = true ∧
      t.upd.act = some { x with pauseAt := u.now } ∧ (∀ k, t.obj k = s.obj k) ∧
      (Config.phyFirmware (u.img x.from_).image ≠ Config.phyFirmware (u.img x.to_).image → Counted 0xD00A s t))) ∧
    (u.upd.paused = true → x.cause = 0 → x.fresh = false → u.upd.heldTl = [] → u.upd.heldRecs = [] → Does (.pauseEnd a) s (fun t =>
      t.upd.paused = false ∧ t.upd.act = none ∧ t.upd.booted = x.to_ ∧ t.upd.trial = true ∧ t.upd.trialAt = u.now ∧
      t.num O.idFirmwareVersion = (u.img x.to_).info.fw ∧ Counted 0xD004 s t))) ∧
  (∀ (c a : Nat) (s u : State), u = s.toTick a → u.upd.act = none → u.upd.fallBack = c → c ≠ 0 → u.upd.trial = true → u.twin.role = 0 →
    Does (.pauseBegin a) s (fun t => t.upd.paused = true ∧ t.upd.act = some ⟨c, u.upd.booted, 1 - u.upd.booted, u.now, u.now, true⟩ ∧
      t.upd.active = 1 - u.upd.booted ∧ (t.img u.upd.booted).state = 3 ∧ Counted 0xD006 s t)) ∧
  (∀ (a : Nat) (s u : State), u = s.toTick a → u.upd.trial = true → u.upd.act = none →
    (u.flt.safe = false → (∀ n v, (n, v) ∈ u.heldList → v.sev ≠ 3) → u.upd.trialHost = false → u.upd.trialAt + 10 * tickS ≤ u.now →
      u.upd.healthAt + 10 * tickS ≤ u.now → u.confirmLeft ≠ 0 → u.upd.fallBack = 0 → Does (.trialConfirmation true a) s (fun t =>
        t.upd.trial = false ∧ (t.img u.upd.booted).state = 1 ∧ t.upd.ust = 0 ∧ t.upd.rollback = (if u.upd.rollback <
          (u.img u.upd.booted).info.sec then min 63 (u.img u.upd.booted).info.sec else u.upd.rollback) ∧ Counted 0xD005 s t)) ∧
    Does (.trialConfirmation false a) s (fun t => t.upd = { u.upd with healthAt := u.now } ∧ ∀ k, t.obj k = s.obj k) ∧
    (u.confirmLeft = 0 → Does (.confirmLeftExpiry a) s (fun t => t.upd.active = 1 - u.upd.booted ∧ (t.img u.upd.booted).state = 3 ∧
      t.upd.act = some ⟨1, u.upd.booted, 1 - u.upd.booted, u.now, 0, true⟩ ∧ t.upd.fallbacks = (u.upd.fallbacks + 1) % 2 ^ 32 ∧
      Counted 0xD006 s t))) ∧
  (∀ (w : Word) (b : List Byte) (s : State), s.winOpen rRecovery = true → bitOf w.toNat 31 = true → s.upd.stage = 4 → s.upd.recov = none →
    s.upd.restartAt = 0 → Does (.recoveryGo w b) s (fun t => t.upd.recov = some (b.take (s.reg 0x000110), s.now) ∧ (∀ k, t.obj k = s.obj k) ∧
      ∀ x, x ≠ rRecovery → t.reg x = s.reg x)) ∧
  (∀ (b : List Byte) (x a : Nat) (s u : State), u = s.toTick a → u.upd.recov = some (b, x) →
    Does (.recoveryDone a) s (fun t => t.upd.recov = none ∧ fld (t.reg rRecovery) 3 0 = u.imageResult b ∧
      (u.imageResult b ≠ 1 → bitOf (t.reg rRecovery) 28 = true ∧ t.upd.slots = s.upd.slots) ∧
      (u.imageResult b = 1 → bitOf (t.reg rRecovery) 29 = true ∧ t.img 0 = ⟨2, 0, headerInfo b, b⟩ ∧ t.upd.active = 0 ∧
        tget bankBlank t.upd.banks 0 = tget bankBlank u.upd.banks u.upd.active ∧
        t.upd.restartAt = u.now + 1)))

/-- R486, R488, R496 (tick `a` makes `s` into `u`): RESET_N returns every object, register and byte to its reset value, and ends every
session; fuses, boot flash and retired pages stay. Its release begins phase 1 at tick 0 and the bring-up from W2; a restart that is due is
a reset counted by START_RETRIES and its release. A start that fails restarts, the fourth failure halts in phase 6. -/
def Obligations.ResetAndRestart : Prop :=
  (∀ (a : Nat) (s : State), Does (.resetAssert a) s (fun t => (∀ k, k ≠ O.startStartRetries → t.obj k = objDefault s.fuses k) ∧
    t.num O.startStartRetries = 0 ∧ (∀ x, t.reg x = regDefault x) ∧ (∀ x, t.byte x = 0) ∧ (∀ i, (t.sess i).id = 0) ∧
    t.upd.lc = s.upd.lc ∧ t.upd.slots = s.upd.slots ∧ t.upd.active = s.upd.active ∧ t.upd.rollback = s.upd.rollback ∧
    t.ess.store.retired = s.ess.store.retired ∧ t.evr.flash = s.evr.flash)) ∧
  (∀ (x : Bool) (s : State), s.num O.startStartPhase = 0 → Does (.resetRelease x) s (fun t => t.num O.startStartPhase = 1 ∧
    t.tm.ticks = 0 ∧ t.tm.pt = 0 ∧ t.chip = 3 ∧ t.num O.pacerTickSource = (if x then 0 else 1) ∧
    t.pwr.bring = (bringTable.drop 1).map (fun p => (p.1, p.2 * 80000)))) ∧
  (∀ (a : Nat) (s u : State), u = s.toTick a → u.upd.restartAt ≠ 0 → u.upd.restartAt ≤ u.now + 1 →
    Does (.startRestart a) s (fun t => t.num O.startStartRetries = (u.num O.startStartRetries + 1) % 256 ∧ t.num O.startStartPhase = 1 ∧
      t.tm.ticks = 0 ∧ t.chip = 3 ∧ (∀ x, t.reg x = regDefault x) ∧ t.upd.slots = s.upd.slots)) ∧
  (∀ (a : Nat) (s u : State), u = s.toTick a → u.booting = true →
    (u.num O.startStartPhase = 3 → u.upd.loaded = false → u.upd.loadAt + 500 * tickMs ≤ u.now →
      (u.upd.reloaded = false → Does (.subordinateTimeout a) s (fun t => t.upd = { u.upd with reloaded := true, loadAt := u.now } ∧
        ∀ k, t.obj k = s.obj k)) ∧
      (u.upd.reloaded = true → u.num O.startStartRetries < 3 → Does (.subordinateTimeout a) s (fun t => t.num O.startStartFail = 5 ∧
        t.upd.restartAt = u.now + 1 ∧ Counted 0x1005 s t)) ∧
      (u.upd.reloaded = true → 3 ≤ u.num O.startStartRetries → Does (.subordinateTimeout a) s (fun t => t.num O.startStartFail = 5 ∧
        t.num O.startStartPhase = 6 ∧ Counted 0x1005 s t))) ∧
    (u.upd.stage ≠ 4 → 1000 * tickMs ≤ u.now → u.num O.startStartRetries < 3 → Does (.startReadyTimeout a) s (fun t =>
      t.num O.startStartFail = 6 ∧ t.upd.restartAt = u.now + 1 ∧ Counted 0x1005 s t)))

/-- R456, R470, R471, R489–R493 (tick `a` makes `s` into `u`): a start. The Starting Block boots the image in ACTIVE_SLOT where it
verifies, recovers where neither slot's does, and loads none when Decommissioned; a key slot whose tag fails its check is TAMPERED; in
Returned slot 8 is invalidated again (R455); the
loads complete with the settings applied and those
of the start taken; phase 4 begins; the waits expire with 0x1004; phase 5 begins once the Pacer is locked and the mesh is up. -/
def Obligations.StartPhases : Prop :=
  (∀ (a : Nat) (s u : State), u = s.toTick a → u.booting = true → u.num O.startStartPhase < 3 → u.upd.stage ≠ 4 → 1200000 ≤ u.now →
    (u.upd.lc = 4 → Does (.startingBlock [] a) s (fun t => t.upd.stage = 5 ∧ t.upd.slots = s.upd.slots)) ∧
    (u.upd.lc ≠ 4 → (u.img u.upd.active).state ≠ 2 → (u.img (1 - u.upd.active)).state ≠ 1 → Does (.startingBlock [] a) s (fun t =>
      (u.imageResult (u.img u.upd.active).image = 1 → t.num O.startStartPhase = 3 ∧ t.upd.stage = 2 ∧ t.upd.booted = u.upd.active ∧
        t.upd.active = u.upd.active ∧ t.upd.trial = false ∧ t.evr.cycles = u.evr.cycles + 1 ∧
        t.num O.idFirmwareVersion = (headerInfo (u.img u.upd.active).image).fw) ∧
      (u.imageResult (u.img u.upd.active).image ≠ 1 → t.upd.stage = 4 ∧ t.num O.startStartFail = 4 ∧
        (t.img u.upd.active).state = 3)))) ∧
  (∀ (n : Fin 256) (a : Nat) (s u : State), u = s.toTick a → u.booting = true → u.num O.startStartPhase < 3 → u.upd.stage ≠ 4 →
    1200000 ≤ u.now → u.upd.lc ≠ 3 → u.upd.lc ≠ 4 → (u.key n).state = 1 ∨ (u.key n).state = 2 →
    Does (.startingBlock [n] a) s (fun t => (t.key n).state = 5 ∧ Counted 0xB005 s t)) ∧
  (∀ (a : Nat) (s u : State), u = s.toTick a → u.booting = true → u.num O.startStartPhase < 3 → u.upd.stage ≠ 4 → 1200000 ≤ u.now →
    u.upd.lc = 3 → (u.key 8).state = 1 → Does (.startingBlock [] a) s (fun t => (t.key 8).state = 3 ∧ (t.key 8).key = [] ∧ Counted 0xB004 s t)) ∧
  (∀ (a : Nat) (s u : State), u = s.toTick a → u.num O.startStartPhase = 3 → u.booting = true →
    (u.upd.loaded = false → Does (.loadsComplete [] a) s (fun t => t.upd.loaded = true ∧ t.twin.role = t.num O.twinTwinRole ∧
      t.ess.lag = t.num O.alnAlignLag ∧ t.ess.offset = t.num O.alnAudioOffset ∧ t.upd.pacWait = t.num O.startStartPacerWait ∧
      t.upd.meshWait = t.num O.startStartMeshWait)) ∧
    (u.upd.loaded = true → Does (.readyPhase a) s (fun t => t.num O.startStartPhase = 4 ∧ t.upd.stage = 3 ∧ Counted 0x1003 s t))) ∧
  (∀ (a : Nat) (s u : State), u = s.toTick a → u.num O.startStartPhase = 4 →
    (u.num O.pacerPacerState = 2 → u.meshUp = true → Does (.startComplete a) s (fun t => t.num O.startStartPhase = 5 ∧
      t.upd.meshMet = true ∧ Counted 0x1003 s t)) ∧
    (u.upd.pacerWaited = false → u.upd.pacWait ≠ 0 → u.num O.pacerPacerState ≠ 2 → u.phase4At + u.upd.pacWait * tickS ≤ u.now →
      Does (.startWaitExpiry false a) s (fun t => t.upd = { u.upd with pacerWaited := true } ∧ Counted 0x1004 s t ∧
        ∀ k, t.obj k = s.obj k)) ∧
    (u.upd.meshWaited = false → u.meshUp = false → u.phase4At + u.upd.meshWait * tickS ≤ u.now →
      Does (.startWaitExpiry true a) s (fun t => t.upd.meshWaited = true ∧ t.upd.meshMet = true ∧ Counted 0x1004 s t)))

/-- R10, R11: registers, at an offset that answers. A word of a buffer is written as its four bytes and no other byte changes; ones
written to W1C bits clear exactly those; a stored field takes what is written; BASE of a running DMA channel does not; a read answers the
register and changes no object and no byte; reading a read-clear field clears it. An access of another form changes nothing but the error
registers and reads 0, at every offset; where nothing answers, an access of right form changes nothing. -/
def Obligations.Registers : Prop :=
  (∀ (off : BitVec 24) (v : Quad) (s : State), off.toNat % 4 = 0 → s.winOpen off.toNat = true → 0x300000 ≤ off.toNat → off.toNat < 0x380000 →
    Does (.registerWrite off 4 v) s (fun t => (∀ i, i < 4 → (t.byte (off.toNat + i)).toNat = v.toNat / 256 ^ i % 256) ∧
      (∀ x, x < off.toNat ∨ off.toNat + 4 ≤ x → t.byte x = s.byte x) ∧ (∀ x, t.reg x = s.reg x) ∧ ∀ k, t.obj k = s.obj k)) ∧
  (∀ (p : Fin 96) (v : Quad) (s : State), s.winOpen (0x408008 + 16 * p.val) = true →
    Does (.registerWrite (BitVec.ofNat 24 (0x408008 + 16 * p.val)) 4 v) s (fun t =>
      (∀ b, b < 32 → bitOf (t.reg (0x408008 + 16 * p.val)) b =
        (bitOf (s.reg (0x408008 + 16 * p.val)) b && !(decide (b < 12) && bitOf v.toNat b))) ∧
      (∀ x, x ≠ 0x408008 + 16 * p.val → t.reg x = s.reg x) ∧ (∀ k, t.obj k = s.obj k) ∧ ∀ x, t.byte x = s.byte x)) ∧
  (∀ (v : Quad) (s : State), s.winOpen 0x000108 = true → Does (.registerWrite 0x000108 4 v) s (fun t =>
    t.reg 0x000108 = v.toNat % 2 ^ 32 ∧ (∀ x, x ≠ 0x000108 → t.reg x = s.reg x) ∧ ∀ k, t.obj k = s.obj k)) ∧
  (∀ (c : Fin 128) (v : Quad) (s : State), s.winOpen (0x020000 + 64 * c.val) = true →
    Does (.registerWrite (BitVec.ofNat 24 (0x020000 + 64 * c.val)) 4 v) s (fun t =>
      t.reg (0x020000 + 64 * c.val) = (if bitOf (s.reg (rDmaCtrl c)) 31 then s.reg (0x020000 + 64 * c.val) else v.toNat % 2 ^ 32) ∧
      ∀ x, x ≠ 0x020000 + 64 * c.val → t.reg x = s.reg x)) ∧
  (∀ (off : BitVec 24) (n : Nat) (v : Quad) (s : State), s.hif.d3hot = false → (n ≠ 4 ∧ n ≠ 8 ∨ off.toNat % n ≠ 0) →
    Does (.registerWrite off n v) s (fun t => t.reg 8 = off.toNat ∧ (∀ k, t.obj k = s.obj k) ∧ ∀ x, t.byte x = s.byte x)) ∧
  (∀ (off : BitVec 24) (v : Quad) (s : State), off.toNat % 4 = 0 → s.winOpen off.toNat = false →
    Does (.registerWrite off 4 v) s (fun t => t = s)) ∧
  (∀ (off : BitVec 24) (n : Nat) (s : State), s.hif.d3hot = true → Does (.rcRegisterRead off n) s (fun t => t = s)) ∧
  (∀ (off : BitVec 24) (s : State), s.hif.d3hot = false → off.toNat % 4 = 0 → s.winOpen off.toNat = true →
    (0x200000 ≤ off.toNat ∧ off.toNat < 0x408000 ∨ 0x418000 ≤ off.toNat) → Does (.rcRegisterRead off 4) s (fun t =>
      t = s.emit (.regRead off.toNat (s.regView off.toNat)))) ∧
  (∀ (s : State), s.hif.d3hot = false → s.winOpen 0x00000C = true → Does (.rcRegisterRead 0x00000C 4) s (fun t =>
    t.reg 0x00000C % 2 ^ 32 = 0 ∧ Emission.regRead 0x00000C (s.reg 0x00000C) ∈ t.out ∧ (∀ x, x ≠ 0x00000C → t.reg x = s.reg x) ∧
    ∀ k, t.obj k = s.obj k)) ∧
  (∀ (off : BitVec 24) (n : Nat) (s : State), s.hif.d3hot = false → (n ≠ 4 ∧ n ≠ 8 ∨ off.toNat % n ≠ 0) →
    Does (.rcRegisterRead off n) s (fun t => t.reg 8 = off.toNat ∧ Emission.regRead off.toNat 0 ∈ t.out ∧ ∀ k, t.obj k = s.obj k))

/-- R411–R419, R421 (tick `a` makes `s` into `u`): the fault collector. A report of a named source counts, is told with 0xA001 and,
classified above severity 0, is held unacknowledged; severity 3 begins the safe state; a source that is no named one reports nothing. The
end of a condition clears an acknowledged source with 0xA003; an acknowledgement moves a held source to acknowledged, and clears it where
no condition holds. A self-check that fails marks the self-fault, and with SELF_FAULT_SAFE the safe state begins with cause 0xFFFF; one
that passes ends it where source 0 is not held. A coalesced raise signals once MIN_INTERVAL has passed. -/
def Obligations.FaultCollector : Prop :=
  (∀ (n : Fin 512) (code : Half) (s : State), srcNamed n.val = true → (srcIsCondition n.val && (s.src n.val).cond) = false →
    s.num (kSrc n.val 2) = 0 → s.flag 0xA00101 = false →
    Does (.faultReport n code) s (fun t => (t.src n.val).reports = ((s.src n.val).reports + 1) % 2 ^ 32 ∧ Counted 0xA001 s t ∧
      (t.src n.val).cond = srcIsCondition n.val ∧
      (s.num (kSrc n.val 1) ≠ 0 → (t.src n.val).state = 1 ∧ (t.src n.val).sev = max (s.src n.val).sev (s.num (kSrc n.val 1))) ∧
      (s.num (kSrc n.val 1) = 0 → (t.src n.val).state = (s.src n.val).state) ∧ (s.num (kSrc n.val 1) = 3 → t.flt.safe = true))) ∧
  (∀ (n : Fin 512) (code : Half) (s : State), srcNamed n.val = false → Does (.faultReport n code) s (fun t => t = s)) ∧
  (∀ (n : Fin 512) (s : State), srcIsCondition n.val = true → n.val ≠ 33 → (s.src n.val).cond = true →
    Does (.faultConditionEnd n) s (fun t => (t.src n.val).cond = false ∧
      (t.src n.val).state = (if (s.src n.val).state = 2 then 0 else (s.src n.val).state) ∧
      ((s.src n.val).state = 2 → Counted 0xA003 s t) ∧ ∀ m, m ≠ n.val → t.src m = s.src m)) ∧
  (∀ (n : Fin 512) (s : State), s.winOpen 0x070008 = true → (s.src n.val).state ≠ 0 →
    Does (.ack none n) s (fun t => (t.src n.val).state = (if (s.src n.val).cond then 2 else 0) ∧ Counted 0xA002 s t ∧
      ((s.src n.val).cond = false → Counted 0xA003 s t) ∧ (n.val = 0 → t.flt.selfFault = false) ∧ ∀ m, m ≠ n.val → t.src m = s.src m)) ∧
  (∀ (s : State), s.winOpen 0x070008 = true → s.heldList ≠ [] →
    Does (.ackAll none) s (fun t => Counted 0xA002 s t ∧ ∀ n v, (n, v) ∈ s.heldList → (t.src n).state ≠ 1)) ∧
  (∀ (x y z : Bool) (a : Nat) (s u : State), u = s.toTick a →
    ((x && y && z) = true → Does (.collectorSelfCheck x y z a) s (fun t =>
      t.flt.selfFault = (u.flt.selfFault && decide ((u.src 0).state ≠ 0)) ∧ (∀ k, t.obj k = s.obj k) ∧ ∀ n, t.src n = s.src n)) ∧
    ((x && y && z) = false → u.flag 0xA00102 = true → Does (.collectorSelfCheck x y z a) s (fun t => t.flt.selfFault = true ∧
      (t.src 0).state = 1 ∧ (t.src 0).sev = 3 ∧ t.flt.safe = true ∧ (u.flt.safe = false → t.num 0xA00104 = 0xFFFF) ∧
      Counted 0xA001 s t))) ∧
  (∀ (n : Fin 1024) (a : Nat) (s u : State), u = s.toTick a → tget allFalse u.flt.coalesced n.val = true → u.evtDue n.val = true →
    Does (.minIntervalEnd n a) s (fun t => bitOf (t.reg (rEvtPending (n.val / 32))) (n.val % 32) = true ∧
      tget allFalse t.flt.coalesced n.val = false ∧ (∀ k, t.obj k = s.obj k) ∧ ∀ x, t.byte x = s.byte x))

/-- R422–R427 (tick `a` makes `s` into `u`): the event recorder. A flush writes the unflushed records to flash after those held there; a
write error tells 0xA009 and leaves the recorder waiting 60 s; power fail writes what is left, tells 0xA008 and stops recording until it
ends; lost records of a second are told with 0xA007; the end of an erase lets it record again; the challenge changes every 60 s; the
operating time is saved. -/
def Obligations.EventRecorder : Prop :=
  (∀ (s : State), s.evr.state = 0 → s.evr.unflushed ≠ 0 →
    Does (.recorderFlush none) s (fun t => t.evr.unflushed = 0 ∧ t.evr.ring = s.evr.ring ∧ t.evr.seq = s.evr.seq ∧
      t.evr.flashPos = s.evr.flashPos + (s.evr.waiting.map EvRec.size).sum ∧
      (∀ p, p ∈ t.evr.flash → p ∈ s.evr.flash ∨ p.2 ∈ s.evr.waiting) ∧
      ((s.evr.waiting.map EvRec.size).sum < 65536 → ∀ r, r ∈ s.evr.waiting → r ∈ t.evr.flash.map Prod.snd) ∧
      (∀ k, t.obj k = s.obj k) ∧ ∀ x, t.reg x = s.reg x) ∧
    ∀ k, Does (.recorderFlush (some k)) s (fun t => t.evr.retryAt = some (s.now + 60 * tickS) ∧ t.evr.state = 3 ∧ Counted 0xA009 s t ∧
      t.evr.flash = s.evr.flash)) ∧
  (∀ (a t0 : Nat) (s u : State), u = s.toTick a → u.evr.retryAt = some t0 → u.evr.state = 3 → t0 ≤ u.now →
    Does (.flashRetry none a) s (fun t => t.evr.state = 0 ∧ t.evr.retryAt = none ∧ t.evr.unflushed = 0) ∧
    ∀ k, Does (.flashRetry (some k) a) s (fun t => t.evr.state = 3 ∧ t.evr.retryAt = some (u.now + 60 * tickS) ∧ Counted 0xA009 s t)) ∧
  (∀ (a : Nat) (s u : State), u = s.toTick a → u.evr.state ≠ 2 → 3 ≤ u.num O.startStartPhase →
    Does (.powerFailAssert a) s (fun t => t.evr.state = 2 ∧ t.evr.unflushed = 0 ∧ t.evr.opSaved = t.opTime ∧ Counted 0xA008 s t ∧
      ∀ k, t.obj k = s.obj k)) ∧
  (∀ (s : State), s.evr.state = 2 → Does .powerFailDeassert s (fun t =>
    t.evr = { s.evr with state := if s.evr.eraseSuspended then 1 else if s.evr.retryAt.isSome then 3 else 0, eraseSuspended := false } ∧
    (∀ k, t.obj k = s.obj k) ∧ ∀ x, t.reg x = s.reg x)) ∧
  (∀ (a : Nat) (s u : State), u = s.toTick a →
    Does (.recorderSecond a) s (fun t => t.evr.lostRate = [] ∧ (∀ k, t.obj k = s.obj k) ∧
      (u.ess.acc = [] → (∃ p, u.evr.lostRate = [p] ∧ u.evr.lostBacklog = []) → Counted 0xA007 s t))) ∧
  (∀ (s : State), s.evr.state = 1 → Does .recorderEraseDone s (fun t => t = { s with evr := { s.evr with state := 0 } })) ∧
  (∀ (a : Nat) (s u : State), u = s.toTick a → u.evr.challengeAt + 60 * tickS ≤ u.now →
    Does (.recChallengeRoll a) s (fun t => t.evr.challenge = Config.freeBytes u.free 16 ∧ t.evr.challengeAt = u.now ∧ t.free = u.free + 1 ∧
      (∀ k, t.obj k = s.obj k) ∧ ∀ x, t.reg x = s.reg x)) ∧
  (∀ (a : Nat) (s u : State), u = s.toTick a → Does (.operatingTimeSave a) s (fun t => t.evr.opSaved = u.opTime ∧ t.evr.ring = s.evr.ring ∧
    (∀ k, t.obj k = s.obj k) ∧ ∀ x, t.reg x = s.reg x))

/-- R10, R384, R386, R388, R390, R391, R487 (tick `a` makes `s` into `u`): the host interface. An access that R10 does not allow is
recorded, and a read of it answers 0; a write of Window B is recorded with KIND 1; a pending vector sends its message once it may; D3hot
abandons the descriptors in progress and answers nothing until it ends; a trained link shows its speed and width; a reset of the interface
leaves its registers at their reset values and no session on the mailbox. -/
def Obligations.HostInterface : Prop :=
  (∀ (wr : Bool) (off : BitVec 24) (n : Nat) (s : State), s.hif.d3hot = true → Does (.accessError wr off n) s (fun t => t = s)) ∧
  (∀ (wr : Bool) (off : BitVec 24) (n : Nat) (s : State), s.hif.d3hot = false →
    Does (.accessError wr off n) s (fun t => t.reg 8 = off.toNat ∧ bitOf (t.reg 4) 0 = true ∧ (∀ k, t.obj k = s.obj k) ∧
      (∀ x, t.byte x = s.byte x) ∧ (wr = false → Emission.regRead off.toNat 0 ∈ t.out))) ∧
  (∀ (off : BitVec 30) (s : State), s.hif.d3hot = false →
    Does (.windowBWrite off) s (fun t => t.reg 8 = 2 ^ 30 + off.toNat ∧ bitOf (t.reg 4) 0 = true ∧ (∀ k, t.obj k = s.obj k) ∧
      ∀ x, t.byte x = s.byte x)) ∧
  (∀ (v : Fin 2048) (a : Nat) (s u : State), u = s.toTick a → tget allFalse u.hif.pba v.val = true → u.vecOpen v = true → u.vecDue v = true →
    Does (.msixIntervalEnd v a) s (fun t => t.out = u.out ++ [.msix v] ∧ tget allFalse t.hif.pba v.val = false ∧ (∀ x, t.reg x = s.reg x) ∧
      ∀ k, t.obj k = s.obj k)) ∧
  (∀ (v : Fin 2048) (s : State), s.winOpen (0x04000C + 16 * v.val) = true →
    Does (.msixUnmask (some v)) s (fun t => bitOf (t.reg (0x04000C + 16 * v.val)) 0 = false ∧
      (tget allFalse s.hif.pba v.val = true → s.hif.msixEnabled = true → s.hif.funcMask = false → s.vecDue v = true →
        Emission.msix v ∈ t.out))) ∧
  (∀ (s : State), Does (.msixUnmask none) s (fun t => t.hif.msixEnabled = true ∧ t.hif.funcMask = false ∧ ∀ k, t.obj k = s.obj k)) ∧
  (∀ (s : State), s.hif.d3hot = false → Does .d3hotEntry s (fun t => t.hif.d3hot = true ∧ (∀ c, (t.dch c).run = none) ∧ Counted 0xE082 s t ∧
    ∀ k, t.obj k = s.obj k)) ∧
  (∀ (s : State), Does .d3hotExit s (fun t => t.hif.d3hot = false ∧ t.out = s.out ∧ (∀ x, t.reg x = s.reg x) ∧ ∀ k, t.obj k = s.obj k)) ∧
  (∀ (sp w : Nat) (s : State), 1 ≤ sp → sp ≤ 5 → w ∈ [1, 2, 4, 8] → (s.hif.speed ≠ sp ∨ s.hif.width ≠ w) → Does (.pcieLinkTrained sp w) s (fun t => t.hif.speed = sp ∧
    t.hif.width = w ∧ Counted 0xE081 s t ∧ ∀ k, t.obj k = s.obj k)) ∧
  (∀ (c : Fin 3) (s : State), Does (.hostInterfaceReset c) s (fun t => (∀ off, hostReg off = true → t.reg off = regDefault off) ∧
    t.hif.dma = [] ∧ t.hif.tlb = [] ∧ t.hif.d3hot = false ∧ t.hif.msixEnabled = false ∧ (∀ i, i < 4 → (t.sess i).id = 0) ∧
    Counted 0xE082 s t ∧ (c.val = 2 → t.hif.speed = 0 ∧ t.hif.width = 0))) ∧
  (∀ (s : State), Does .pciePerst s (fun t => (∀ off, hostReg off = true → t.reg off = regDefault off) ∧ t.hif.dma = [] ∧ t.hif.tlb = [] ∧
    t.hif.d3hot = false ∧ (∀ i, i < 4 → (t.sess i).id = 0) ∧ Counted 0xE082 s t))

/-- R389, R393–R399 (Table 13-6): DMA. A doorbell stores TAIL; a descriptor that does not fit its operation is in progress with status
0xE096; a STORE_READ or METER_SNAPSHOT into a page whose translation is held takes its whole length with status 0; a capture begins with
what is released next, and completes once it has its frame or samples or is cut short; the packets of an insertion join a frame as its transfer completes; a completed descriptor leaves its status, its data and HEAD behind, and a
translation fault halts the channel; clearing ENABLE returns the indices to 0 and RESUME lets a halted channel go on. -/
def Obligations.DmaChannels : Prop :=
  (∀ (c : Fin 128) (w : Word) (s : State), s.winOpen (rDmaBell c) = true →
    Does (.dmaDoorbell c w) s (fun t => t.reg (rDmaBell c) = fld w.toNat 15 0 ∧ (∀ x, x ≠ rDmaBell c → t.reg x = s.reg x) ∧
      ∀ k, t.obj k = s.obj k)) ∧
  (∀ (c : Fin 128) (d : Descriptor) (h : HostMem) (s : State), s.chanFetches c = true →
    (d.op.toNat ≠ 1 → Does (.storeRead c d h) s (fun t => ∃ r, (t.dch c).run = some r ∧ r.status = 0xE096 ∧ r.progress = 0)) ∧
    (∀ e, d.op.toNat = 1 → s.descForm c d [1, 2] 1 = true → d.arg.toNat < 2 ^ 36 →
      d.arg.toNat + d.length.toNat ≤ storePages s.fuses.variant * 2097152 → bitOf d.flags.toNat 6 = false → s.ess.store.poisoned = [] →
      s.tlbHit (s.chanAsid c) (d.hostAddr.toNat % 2 ^ 48) = some e → e.writable = true →
      d.hostAddr.toNat % 4096 + d.length.toNat ≤ 4096 →
      Does (.storeRead c d h) s (fun t => ∃ r, (t.dch c).run = some r ∧ r.op = 1 ∧ r.status = 0 ∧ r.progress = d.length.toNat ∧
        r.time = s.pt96 ∧ ∀ k, t.obj k = s.obj k)) ∧
    (∀ e, d.op.toNat = 5 → 1 ≤ d.count.toNat → fld d.arg.toNat 15 0 + d.count.toNat ≤ meterCount s.fuses.variant →
      s.descForm c d [0] (4 * d.count.toNat) = true → bitOf d.flags.toNat 6 = false →
      s.tlbHit (s.chanAsid c) (d.hostAddr.toNat % 2 ^ 48) = some e → e.writable = true →
      d.hostAddr.toNat % 4096 + 4 * d.count.toNat ≤ 4096 →
      Does (.meterSnapshot c d h) s (fun t => ∃ r, (t.dch c).run = some r ∧ r.status = 0 ∧ r.progress = 4 * d.count.toNat ∧
        r.writes = [(0, e.host + d.hostAddr.toNat % 2 ^ 48 % 2 ^ e.bits, ((List.range d.count.toNat).map (fun i =>
          leBytes 4 (s.num (O.meterValue (fld d.arg.toNat 15 0 + i))))).flatten)])) ∧
    (∀ ov, bitOf d.flags.toNat 6 = false → d.op.toNat = 3 → sidClass (fld d.arg.toNat 31 0) = 0 →
      s.capturable (fld d.arg.toNat 31 0) = true → s.capRaster (fld d.arg.toNat 31 0) ≠ 0 →
      s.descForm c d [0] (fmtLineBytes (s.capRaster (fld d.arg.toNat 31 0)) * fmtActiveLines (s.capRaster (fld d.arg.toNat 31 0))) = true →
      Does (.captureVideo c d h ov) s (fun t => (∃ r, (t.dch c).run = some r ∧ r.op = 3 ∧ r.status = 0 ∧ r.arg = d.arg.toNat ∧
        r.cap = some ⟨h, if s.sidLocal (fld d.arg.toNat 31 0) then
          ((s.slot (sidSlot (fld d.arg.toNat 31 0))).rel.map (fun u => u.k + 1)).foldl max 0 else s.tm.pt, 1, ov⟩) ∧
        ∀ k, t.obj k = s.obj k)) ∧
    (∀ ov, bitOf d.flags.toNat 6 = false → d.op.toNat = 4 → sidClass (fld d.arg.toNat 31 0) = 1 → 1 ≤ d.count.toNat →
      sidSub (fld d.arg.toNat 31 0) + d.count.toNat ≤ 128 → s.descForm c d [0] (4 * fld d.arg.toNat 63 32 * d.count.toNat) = true →
      (∀ i, i < d.count.toNat → s.capturable (fld d.arg.toNat 31 0 + i) = true) →
      Does (.captureAudio c d h ov) s (fun t => (∃ r, (t.dch c).run = some r ∧ r.op = 4 ∧ r.status = 0 ∧ r.arg = d.arg.toNat ∧
        r.cap = some ⟨h, ((List.range d.count.toNat).map (fun i => (s.chan (s.chanKey (fld d.arg.toNat 31 0 + i))).next)).foldl max 0,
          d.count.toNat, ov⟩) ∧ ∀ k, t.obj k = s.obj k)) ∧
    (∀ (b : List Byte) (v : State), bitOf d.flags.toNat 6 = false → d.op.toNat = 6 → fld d.arg.toNat 7 0 < variantLanes s.fuses.variant →
      d.length.toNat ≤ 4096 →
      s.descForm c d [0] 1 = true →
      s.dmaIn h (s.chanAsid c) d.hostAddr.toNat (d.length.toNat + 1) 0 d.length.toNat [] = ((b, 0), v) →
      Does (.insertAnc c d h) s (fun t => (∃ r, (t.dch c).run = some r ∧ r.status = 0 ∧ r.progress = d.length.toNat ∧ r.arg = d.arg.toNat ∧
          r.cap = none ∧ r.anc = some ((anc8331 (d.length.toNat / 8 + 1) (bytesBits b)).filter (fun p => p.ckOk))) ∧
        (t.out_ (fld d.arg.toNat 7 0)).ins = (v.out_ (fld d.arg.toNat 7 0)).ins))) ∧
  (∀ (c : Fin 128) (r : DescRun) (pk : List AncPkt) (s : State), (s.dch c).run = some r → r.cap = none → r.anc = some pk →
    Does (.descriptorComplete c) s (fun t =>
      (t.out_ (fld r.arg 7 0)).ins = (s.out_ (fld r.arg 7 0)).ins ++ [(s.insertFrame (fld r.arg 7 0), pk)])) ∧
  (∀ (c : Fin 128) (r : DescRun) (cp : CapRun) (s : State), (s.dch c).run = some r → r.cap = some cp →
    ((s.capUnits r cp).2.2 = true ∨ cp.overrun ≠ none → Does (.descriptorComplete c) s (fun t => (t.dch c).run = none ∧
      (t.dch c).head = ringNext (s.dch c).head (ringSize (s.reg (rDmaCtrl c))))) ∧
    ((s.capUnits r cp).2.2 = false → cp.overrun = none → Does (.descriptorComplete c) s (fun t => t = s))) ∧
  (∀ (c : Fin 128) (r : DescRun) (s : State), (s.dch c).run = some r → r.cap = none →
    Does (.descriptorComplete c) s (fun t => (t.dch c).run = none ∧ (t.dch c).lastStatus = r.status ∧
      (t.dch c).head = ringNext (s.dch c).head (ringSize (s.reg (rDmaCtrl c))) ∧
      (∀ w, w ∈ r.writes → w.1 < r.progress → Emission.hostWrite w.2.1 w.2.2 ∈ t.out) ∧
      (t.dch c).halted = decide (0xE091 ≤ r.status ∧ r.status ≤ 0xE095) ∧
      (0xE091 ≤ r.status → r.status ≤ 0xE095 → Counted 0xE083 s t))) ∧
  (∀ (c : Fin 128) (p : Word) (s : State), s.winOpen (rDmaCtrl c) = true → bitOf (s.reg (rDmaCtrl c)) 31 = true →
    Does (.dmaChannelDisable c p) s (fun t => bitOf (t.reg (rDmaCtrl c)) 31 = false ∧ (t.dch c).head = 0 ∧ (t.dch c).run = none ∧
      t.reg (rDmaBell c) = 0)) ∧
  (∀ (c : Fin 128) (s : State), s.winOpen (rDmaCtrl c) = true →
    Does (.dmaResume c) s (fun t => t.dch c = { s.dch c with halted := false } ∧ (∀ x, t.reg x = s.reg x) ∧ ∀ k, t.obj k = s.obj k))

/-- R401, R404 (tick `a` makes `s` into `u`): an invalidation of translations runs until it is done and leaves none of its scope; a
doorbell of an enabled transmit ring queues a valid frame on its lane, padded to 60 bytes, and HEAD stays before it until it is sent. -/
def Obligations.TranslationsAndRings : Prop :=
  (∀ (w : Word) (s : State), s.winOpen 0x030040 = true → bitOf w.toNat 31 = true → s.hif.inv = none →
    Does (.tlbInvalidate w) s (fun t => t.hif.inv = some (fld w.toNat 30 29, fld w.toNat 2 0, s.reg 0x03004C * 2 ^ 32 + s.reg 0x030048, s.now) ∧
      t.hif.tlb = s.hif.tlb ∧ ∀ k, t.obj k = s.obj k)) ∧
  (∀ (scope asid addr t0 a : Nat) (s u : State), u = s.toTick a → u.hif.inv = some (scope, asid, addr, t0) →
    Does (.tlbInvalidateDone a) s (fun t => (∀ e, e ∈ t.hif.tlb ↔ e ∈ u.hif.tlb ∧ ¬(scope = 0 ∨ (e.asid = asid ∧ (scope = 1 ∨
        (scope = 2 ∧ e.page = addr % 2 ^ 48 / 2 ^ e.bits))))) ∧
      (u.hif.invQueue = [] → t.hif.inv = none))) ∧
  (∀ (r : Fin 64) (w : Word) (f : TxFrame) (s : State), s.winOpen (0x001300 + 4 * r.val) = true →
    bitOf (s.reg (rRing (64 + r.val) + 8)) 31 = true → f.bytes.length + 4 ≤ 9216 → f.descs ≤ 8 → bitOf f.tsId.toNat 15 = false →
    f.fault = false → f.lane < 96 → s.laneOn f.lane = true → s.laneMode f.lane = 2 → s.ethUp f.lane = true → s.ethMember f.lane = false →
    Does (.txRingDoorbell r w [f]) s (fun t => t.reg (0x001300 + 4 * r.val) = fld w.toNat 15 0 ∧
      (t.ring (64 + r.val)).head = (s.ring (64 + r.val)).head ∧
      ∃ x, (t.ring (64 + r.val)).busy = (s.ring (64 + r.val)).busy ++ [⟨x.desc, f.descs, false⟩] ∧ (t.eth_ f.lane).wait = (s.eth_ f.lane).wait ++ [x] ∧ x.bytes = f.bytes ++ List.replicate (60 - f.bytes.length) 0 ∧
        x.ring = r.val ∧ x.length = max 64 (f.bytes.length + 4)))

/-- R73–R78 (tick `a` makes `s` into `u`): the states of lock. Signal detect starts the rate search; the search steps through the rate
families; a recovered clock is LOCK_STATE 2, TRS lock 3, a format 4 with its objects, and an invalid structure leaves RASTER 0. -/
def Obligations.SdiLockClimbs : Prop :=
  (∀ (p : Fin 96) (a : Nat) (s u : State), u = s.toTick a → u.laneOn p = true → u.laneActive p = true → (u.lane p).sd = false →
    u.laneMode p = 1 →
    Does (.signalDetectAssert p a) s (fun t => t.num (O.sdiLockState p) = 1 ∧ (t.lane p).sd = true ∧
      (t.lane p).family = (u.lane p).lastFamily ∧ Counted 0x3001 s t)) ∧
  (∀ (p : Fin 96) (a : Nat) (s u : State), u = s.toTick a → u.lockState p = 1 → u.num (O.sdiRxRate p) = 0 →
    u.flag (O.sdiRxEnable p) = true → (u.lane p).dwellAt + 390 * tickUs ≤ u.now →
    Does (.rateDwellExpiry p a) s (fun t => (t.lane p).family = ((u.lane p).family + 1) % 5 ∧ (t.lane p).dwellAt = u.now ∧
      ∀ k, t.obj k = s.obj k)) ∧
  (∀ (p : Fin 96) (code : Fin 10) (s : State), s.lockState p = 1 → s.flag (O.sdiRxEnable p) = true → s.laneMode p = 1 → code.val ≠ 0 →
    rateFamily code = s.tryFamily p →
    Does (.rateLock p code) s (fun t => t.num (O.sdiLockState p) = 2 ∧ (t.lane p).lastFamily = rateFamily code ∧
      ∀ k, k ≠ O.sdiLockState p → t.obj k = s.obj k)) ∧
  (∀ (p : Fin 96) (code : Fin 10) (line a : Nat) (s u : State), u = s.toTick a → u.lockState p = 2 → code.val ≠ 0 →
    rateFamily code = (u.lane p).lastFamily → (u.num (O.sdiRxRate p) = 0 ∨ u.num (O.sdiRxRate p) = code.val) →
    Does (.trsLock p code false line a) s (fun t => t.num (O.sdiLockState p) = 3 ∧ t.num (O.sdiRateDetected p) = code.val ∧
      (t.lane p).fly = line ∧ ∀ k, k ≠ O.sdiLockState p → k ≠ O.sdiRateDetected p → t.obj k = s.obj k)) ∧
  (∀ (p : Fin 96) (seen : FormatSeen) (s : State), s.lockState p = 3 → fmtValid (s.takenFormat p seen) = true →
    Does (.formatLock p seen) s (fun t => t.num (O.sdiLockState p) = 4 ∧ t.num (O.sdiRasterDetected p) = s.takenFormat p seen ∧
      t.num (O.sdiPayloadId p) = seen.st352.getD 0 ∧ t.num (O.sdiLinkNumber p) = seen.link ∧ Counted 0x3003 s t)) ∧
  (∀ (p : Fin 96) (seen : FormatSeen) (s : State), s.lockState p = 3 → fmtValid (s.takenFormat p seen) = false →
    Does (.formatLock p seen) s (fun t => t.num (O.sdiRasterDetected p) = 0 ∧ t.num (O.sdiLockState p) = 3))

/-- R75, R79, R80, R81, R83 (tick `a` makes `s` into `u`): losing signal detect leaves LOCK_STATE 0; a line at LOCK_STATE 3 resets the
flywheel and counts a wrong line number; a line that contradicts the format takes the lane from 4 to 3 with RASTER 0; a missing TRS that
the flywheel bridges counts and keeps the lock; an errored second is counted with its event. -/
def Obligations.SdiLinesAndErrors : Prop :=
  (∀ (p : Fin 96) (line a : Nat) (s u : State), u = s.toTick a → (u.lane p).sd = true → u.laneMode p = 1 →
    Does (.signalDetectDeassert p line a) s (fun t => t.num (O.sdiLockState p) = 0 ∧ (t.lane p).sd = false ∧ Counted 0x3002 s t)) ∧
  (∀ (p : Fin 96) (l : SdiLine) (a : Nat) (s u : State), u = s.toTick a → u.lockState p = 3 →
    Does (.sdiLine p l a) s (fun t => (t.lane p).fly = l.line + 1 ∧ (t.lane p).missTrs = 0 ∧
      t.num (O.sdiLnErrors p) = (if l.lnWord = l.line then s.num (O.sdiLnErrors p) else (s.num (O.sdiLnErrors p) + 1) % 2 ^ 32) ∧
      ∀ k, k ≠ O.sdiLnErrors p → k ≠ O.sdiCrcErrors p → k ≠ O.sdiErroredSeconds p → t.obj k = s.obj k)) ∧
  (∀ (p : Fin 96) (l : SdiLine) (a : Nat) (s u : State), u = s.toTick a → u.lockState p = 4 → l.contradicts = true →
    Does (.sdiLine p l a) s (fun t => t.num (O.sdiLockState p) = 3 ∧ t.num (O.sdiRasterDetected p) = 0 ∧
      t.num (O.sdiFormatChanges p) = (s.num (O.sdiFormatChanges p) + 1) % 2 ^ 32)) ∧
  (∀ (p : Fin 96) (line : Nat) (held : Bool) (a : Nat) (s u : State), u = s.toTick a → 3 ≤ u.lockState p → (u.lane p).missTrs < 3 →
    (u.lockState p = 4 → line = 1 → (u.lane p).hintDue = false) →
    Does (.trsMissing p line held a) s (fun t => (t.lane p).missTrs = (u.lane p).missTrs + 1 ∧
      t.num (O.sdiTrsErrors p) = (s.num (O.sdiTrsErrors p) + 1) % 2 ^ 32 ∧
      (line ≠ 1 → ∀ k, k ≠ O.sdiTrsErrors p → k ≠ O.sdiErroredSeconds p → t.obj k = s.obj k))) ∧
  (∀ (p : Fin 96) (a : Nat) (s u : State), u = s.toTick a → (u.lane p).crcSec + (u.lane p).lnSec + (u.lane p).trsSec ≠ 0 →
    (u.lane p).errSec ≠ u.second →
    Does (.erroredSecond p a) s (fun t => t.num (O.sdiErroredSeconds p) = (s.num (O.sdiErroredSeconds p) + 1) % 2 ^ 32 ∧
      (t.lane p).crcSec = 0 ∧ (t.lane p).lnSec = 0 ∧ (t.lane p).trsSec = 0 ∧ Counted 0x300A s t))

/-- R86–R88, R105: an associated quad-link group reports its skew, raising 0x3009 beyond two lines; four locked links whose conditions
hold associate, and a group that cannot associate in three frames fails with event 0x3007; a returned link re-enters with the link number
and format with which it joined, and is refused with 0x3007 otherwise; a serialiser that may run starts. -/
def Obligations.SdiQuadLinksAndSerialiser : Prop :=
  (∀ (k : Fin 24) (skew : Nat) (s : State), s.quadRx (4 * k.val) = true → s.num (O.sdiQuadState (4 * k.val)) = 2 →
    s.linkRaster (4 * k.val) ≠ 0 →
    Does (.quadAssociation k skew) s (fun t => t.int (O.sdiLinkSkew (4 * k.val)) = ptToQ16Lines (s.linkRaster (4 * k.val)) skew ∧
      (linesPt (s.linkRaster (4 * k.val)) 2 1 < skew → Counted 0x3009 s t))) ∧
  (∀ (k : Fin 24) (skew : Nat) (s : State), s.quadRx (4 * k.val) = true → s.num (O.sdiQuadState (4 * k.val)) ≠ 2 →
    s.quadLocked (4 * k.val) = true → s.quadCause (4 * k.val) skew = 0 → s.linkRaster (4 * k.val) ≠ 0 →
    Does (.quadAssociation k skew) s (fun t => t.num (O.sdiQuadState (4 * k.val)) = 2 ∧
      t.int (O.sdiLinkSkew (4 * k.val)) = ptToQ16Lines (s.linkRaster (4 * k.val)) skew ∧
      ∀ q, q < 4 → (t.lane (4 * k.val + q)).inGroup = true)) ∧
  (∀ (k : Fin 24) (skew a : Nat) (s u : State), u = s.toTick a → u.quadRx (4 * k.val) = true → u.num (O.sdiQuadState (4 * k.val)) = 1 →
    u.quadLocked (4 * k.val) = true → u.quadCause (4 * k.val) skew ≠ 0 →
    (∀ q, q < 4 → (u.lane (4 * k.val + q)).locked + 3 * u.ptToTicks (framePt (u.num (O.sdiRasterDetected (4 * k.val)))) ≤ u.now) →
    Does (.quadAssociationTimeout k skew a) s (fun t => t.num (O.sdiQuadState (4 * k.val)) = 3 ∧ Counted 0x3007 s t)) ∧
  (∀ (p : Fin 96) (s : State), s.quadRx p = true → s.num (O.sdiQuadState (p.val / 4 * 4)) = 2 → s.lockState p = 4 →
    (s.lane p).inGroup = false →
    ((s.lane p).st352 = true ∧ (s.lane p).division = (s.lane p).grpDiv ∧ (s.lane p).fmt352 = (s.lane p).grpFmt ∧
        s.num (O.sdiLinkNumber p) = (s.lane p).grpLink →
      Does (.quadLinkReentry p) s (fun t => (t.lane p).inGroup = true ∧ ∀ k, t.obj k = s.obj k)) ∧
    (¬((s.lane p).st352 = true ∧ (s.lane p).division = (s.lane p).grpDiv ∧ (s.lane p).fmt352 = (s.lane p).grpFmt ∧
        s.num (O.sdiLinkNumber p) = (s.lane p).grpLink) →
      Does (.quadLinkReentry p) s (fun t => (t.lane p).inGroup = false ∧ Counted 0x3007 s t ∧ ∀ k, t.obj k = s.obj k))) ∧
  (∀ (p : Fin 96) (s : State), s.txAllowed p = true → s.atFrameStart (s.laneOutput p) = true →
    Does (.serialiserStart p) s (fun t => (t.lane p).txOn = true ∧ ∀ k, t.obj k = s.obj k))

/-- R147–R153, R159, R160, R164 (tick `a` makes `s` into `u`): a line waiting in the queue of its slot is released at its time with its
active samples; the samples of a slot without video are released at theirs, and those that are due leave the queue. The frame-mode decision
of grid frame k, after a REALIGN that waits (`v`), shows the next source frame, repeats one or drops one, on every slot of the aligned group
together. VIDEO_DELAY and ALIGN_MODE apply at the grid frame start, where pages of the setting before become free. -/
def Obligations.AlignerReleases : Prop :=
  (∀ (n : Fin 240) (k line a key : Nat) (q : QLine) (s u : State), u = s.toTick a → u.relRaster n ≠ 0 → 2 ≤ line →
    line ≤ fmtLines (u.relRaster n) → u.onTick (u.relTime (u.relRaster n) k line) = true → u.essOn = true → u.slotQuad n = false →
    (u.slot n).running = true → (u.slot n).lost = false → (u.slot n).skips ((u.slot n).carried k) = false →
    (u.slot n).frameKey ((u.slot n).carried k) = some key → (u.slot n).first ≤ (u.slot n).carried k →
    u.poisonedLine n q = false → (u.slot n).q.find? (fun x => x.k == key && x.n == line && x.sub == 0) = some q →
    Does (.lineRelease n k line a) s (fun t => ∃ w, (t.slot n).rel.head? = some w ∧ w.k = k ∧ w.n = line ∧ w.data = q.data ∧
      w.audio = q.audio)) ∧
  (∀ (n : Fin 240) (x a : Nat) (s u : State), u = s.toTick a → u.slotHasVideo n = false → u.slotEnabled n = true → u.essOn = true →
    u.onTick (u.sampleRel (u.slotFs n) x) = true →
    Does (.sampleRelease n x a) s (fun t => (t.slot n).sq = (u.slot n).sq.filter (fun y => decide (x < y.1)))) ∧
  (∀ (n : Fin 240) (k a : Nat) (w per : Int) (s u v : State), u = s.toTick a → v = u.doRealign n → u.relRaster n ≠ 0 → v.relRaster n ≠ 0 →
    u.timeFor (gridStart (u.relRaster n % 256) k) = true → n.val ∈ v.decided n k →
    w = v.groupMeanWait (v.decided n k) (v.relRaster n) k → per = framePt (v.relRaster n) →
    Does (.frameModeDecision n k a) s (fun t => (∀ m ∈ v.decided n k, (t.slot m).shownK = k) ∧
      (w < 0 → ∀ m ∈ v.decided n k, (t.slot m).shown = (v.slot m).shown ∧
        t.num (O.slotFramesRepeated m) = (v.num (O.slotFramesRepeated m) + 1) % 2 ^ 32) ∧
      (0 ≤ w → w < per → (∀ m ∈ v.decided n k, (t.slot m).shown = (v.slot m).shown + 1) ∧
        ∀ j, (∀ m ∈ v.groupSlots n, j ≠ O.slotAlignWait m) → t.obj j = v.obj j) ∧
      (0 ≤ w → per ≤ w → ∀ m ∈ v.decided n k, (t.slot m).shown = (v.slot m).shown + 2 ∧
        t.num (O.slotFramesDropped m) = (v.num (O.slotFramesDropped m) + 1) % 2 ^ 32))) ∧
  (∀ (n : Fin 240) (k a : Nat) (s u : State), u = s.toTick a → u.relRaster n ≠ 0 → u.num (O.slotVideoDelay n) ≠ (u.slot n).delay →
    u.timeFor (gridStart (u.relRaster n % 256) k) = true →
    Does (.videoDelayApply n k a) s (fun t => (t.slot n).delay = u.num (O.slotVideoDelay n) ∧ (t.slot n).delayOld = (u.slot n).delay ∧
      (t.slot n).delayK = k ∧ Counted 0x500A s t ∧
      (∀ p, tget zeroNat u.ess.store.slotDue n = p + 1 → tget zeroNat t.ess.store.slotPages n = p))) ∧
  (∀ (n : Fin 240) (k a : Nat) (s u : State), u = s.toTick a → u.slotAlignMode n ≠ (u.slot n).mode →
    u.timeFor (gridStart (u.slotRaster n % 256) k) = true →
    Does (.alignModeApply n k a) s (fun t => (t.slot n).mode = u.slotAlignMode n ∧ (t.slot n).running = false ∧ (t.slot n).q = [] ∧
      t.num (O.slotAlignState n) = 1 ∧ (∀ c, c < 2 ^ 20 → t.isPresent (n * 2 ^ 20 + c) = false) ∧
      (∀ p, tget zeroNat u.ess.store.slotDue n = p + 1 → tget zeroNat t.ess.store.slotPages n = p) ∧
      ∀ j, j ≠ O.slotAlignState n → (j < 0x500201 ∨ 0x50020D < j) → t.obj j = s.obj j))

/-- R165–R169 (tick `a` makes `s` into `u`; an error names a page the store has): a corrected error below CE_RETIRE_THRESHOLD in 24 h is
counted, and the error that reaches it retires the page onto a spare; an uncorrectable word is counted, poisons its word, raises 0x500C, and
retires a page that is not retired yet, with event 0x500D; a free spare that fails is used no more; a retirement copy poisons what it
could not correct; a scrub pass ends with its time, its count and event 0x5010. -/
def Obligations.StoreErrors : Prop :=
  (∀ (page : BitVec 16) (a : Nat) (l : List Nat) (s u : State), u = s.toTick a → u.pageExists page.toNat = true →
    l = u.opTime :: (tget (fun _ => []) u.ess.store.ce page.toNat).filter (fun x => decide (u.opTime < x + 86400)) →
    (l.length < u.num 0x500209 →
      Does (.storeCorrectedError page a) s (fun t => t.num 0x500207 = (u.num 0x500207 + 1) % 2 ^ 32 ∧
        tget (fun _ => []) t.ess.store.ce page.toNat = l ∧ t.ess.store.retired = s.ess.store.retired)) ∧
    (∀ sp more, u.num 0x500209 ≤ l.length → page.toNat < 32768 → tfind u.ess.store.mapped page.toNat = none →
      u.sparesFree = sp :: more →
      Does (.storeCorrectedError page a) s (fun t => t.num 0x500207 = (u.num 0x500207 + 1) % 2 ^ 32 ∧
        tfind t.ess.store.mapped page.toNat = some sp ∧ t.ess.store.retired = u.ess.store.retired + 1 ∧ Counted 0x500D s t))) ∧
  (∀ (page : BitVec 16) (word : BitVec 15) (pf : Bool) (a : Nat) (s u : State), u = s.toTick a → u.pageExists page.toNat = true →
    page.toNat < 32768 →
    ((tfind u.ess.store.mapped page.toNat).isSome = true →
      Does (.storeUncorrectableError page word pf a) s (fun t => t.num 0x500208 = (u.num 0x500208 + 1) % 2 ^ 32 ∧
        (pf = false → t.ess.store.poisoned.contains (page.toNat, word.toNat) = true) ∧ t.ess.store.retired = s.ess.store.retired ∧
        Counted 0x500C s t)) ∧
    (∀ sp more, tfind u.ess.store.mapped page.toNat = none → u.sparesFree = sp :: more →
      Does (.storeUncorrectableError page word pf a) s (fun t => t.num 0x500208 = (u.num 0x500208 + 1) % 2 ^ 32 ∧
        (pf = false → t.ess.store.poisoned.contains (page.toNat, word.toNat) = true) ∧ tfind t.ess.store.mapped page.toNat = some sp ∧
        t.ess.store.retired = u.ess.store.retired + 1 ∧ t.ess.store.copies.contains page.toNat = true ∧
        Counted 0x500C s t ∧ Counted 0x500D s t))) ∧
  (∀ (page : BitVec 16) (word : BitVec 15) (pf : Bool) (a : Nat) (s u : State), u = s.toTick a → u.pageExists page.toNat = true →
    32768 ≤ page.toNat → u.ess.store.mapped.find? (fun p => p.2 == page.toNat) = none →
    Does (.storeUncorrectableError page word pf a) s (fun t => t.num 0x500208 = (u.num 0x500208 + 1) % 2 ^ 32 ∧
      t.ess.store.badSpares.contains page.toNat = true ∧ t.ess.store.retired = s.ess.store.retired ∧ Counted 0x500C s t)) ∧
  (∀ (page : BitVec 16) (ws : List (BitVec 15)) (a : Nat) (s u : State), u = s.toTick a → u.ess.store.copies.contains page.toNat = true →
    Does (.retirementCopyDone page ws a) s (fun t => t.ess.store.copies.contains page.toNat = false ∧
      (∀ w, w ∈ ws → (page.toNat, w.toNat) ∈ t.ess.store.poisoned) ∧ ∀ k, t.obj k = s.obj k)) ∧
  (∀ (a : Nat) (s u : State), u = s.toTick a → u.ess.store.scrubStart + 3564 * tickS ≤ u.now →
    u.now ≤ u.ess.store.scrubStart + 3636 * tickS →
    Does (.scrubPassEnd a) s (fun t => t.num 0x50020A = (u.now - u.ess.store.scrubStart) / tickS ∧
      t.num 0x50020B = (u.num 0x50020B + 1) % 2 ^ 32 ∧ t.ess.store.scrubStart = u.now ∧ Counted 0x5010 s t))

/-- R179–R182, R185–R187, R191–R194 (tick `a` makes `s` into `u`): lanes and links. A training frame from the right lane is answered by one
of 4,096 symbols, and 64 of them in a row with both ends ready train the lane; a frame from the wrong lane ends the training; a lane that
reaches TRAIN_TIMEOUT waits, and trains again 10 s later; a marker block leaves on every trained lane with the link's count, and one received
gives the lane's skew against its earliest copy and keeps the lanes of the map in service; the third missing marker drops codeword lock; a
lane that does not lock again retrains; a link without markers goes down; an eye scan shows its margin, and the third in a row below
EYE_THRESHOLD makes the lane Worn. -/
def Obligations.FabricLanes : Prop :=
  (∀ (f : Fin 128) (c st : Half) (req : BitVec 8) (ready : Bool) (a j m : Nat) (s u : State), u = s.toTick a → u.laneLink f = some (j, m) →
    (u.fl f).phase = .training → u.upd.paused = false →
    (fld c.toNat 10 6 = m → fld st.toNat 14 11 = j →
      (ready = false ∨ bitOf st.toNat 15 = false → Does (.trainingFrame f c st req ready a) s (fun t => (t.fl f).frames = 0 ∧
        (t.fl f).phase = .training ∧ t.out = u.out ++ [.training f (trainFrame (t.fl f).ourCtl (t.fl f).ourStat (u.fl f).prbs).1] ∧
        bitOf (t.fl f).ourStat 15 = ready)) ∧
      (ready = true → bitOf st.toNat 15 = true → (u.fl f).frames < 63 → Does (.trainingFrame f c st req ready a) s (fun t =>
        (t.fl f).frames = (u.fl f).frames + 1 ∧ (t.fl f).phase = .training)) ∧
      (ready = true → bitOf st.toNat 15 = true → (u.fl f).frames = 63 →
        Does (.trainingFrame f c st req ready a) s (fun t => Counted 0x4001 s t ∧ (t.fl f).markerTick = u.now))) ∧
    (¬(fld c.toNat 10 6 = m ∧ fld st.toNat 14 11 = j) →
      Does (.trainingFrame f c st req ready a) s (fun t => (t.fl f).phase = .retry ∧ Counted 0x4002 s t))) ∧
  (∀ (f : Fin 128) (a j m : Nat) (s u : State), u = s.toTick a → u.laneLink f = some (j, m) → (u.fl f).phase = .training →
    u.upd.paused = false → (u.fl f).since + u.num O.meshTrainTimeout * tickMs ≤ u.now →
    Does (.trainingTimeout f a) s (fun t => (t.fl f).phase = .retry ∧ (t.fl f).timedOut = true ∧ Counted 0x4002 s t)) ∧
  (∀ (f : Fin 128) (a j m : Nat) (s u : State), u = s.toTick a → u.laneLink f = some (j, m) → (u.fl f).phase = .retry →
    (u.fl f).worn = false → u.upd.paused = false → (u.fl f).since + 10 * tickS ≤ u.now → u.laneUsable f = true → u.started = true →
    Does (.trainingRetry f a) s (fun t => (t.fl f).phase = .training ∧ (t.fl f).since = u.now ∧
      (∃ r, 0 < r ∧ r < 2 ^ 13 ∧ t.out = u.out ++ [.training f (trainFrame (m * 64) (u.devIndex * 2048) r).1]) ∧
      t.num (O.flTxTaps f) = presetTaps (u.num (O.flPreset f)))) ∧
  (∀ (j : Fin 12) (a : Nat) (s u : State), u = s.toTick a → (∃ m, m < u.lanesTo j ∧ (u.fl (u.laneTo j m)).phase = .trained) →
    ((u.link j).sentTick = 0 ∨ (u.link j).sentTick + markerTicks ≤ u.now) →
    Does (.markerSend j a) s (fun t => (t.link j).amTx = ((u.link j).amTx + 1) % 2 ^ 32 ∧ (t.link j).sentTick = u.now ∧
      ∀ m, m < u.lanesTo j → (u.fl (u.laneTo j m)).phase = .trained → ∃ x : Marker, x.count = (u.link j).amTx ∧ x.device = u.devIndex ∧
        x.lane = m ∧ Emission.relayBlock (u.laneTo j m) (markerBlock x) ∈ t.out)) ∧
  (∀ (f : Fin 128) (m : AlignMarker) (a j k late : Nat) (s u : State), u = s.toTick a → u.laneLink f = some (j, k) →
    ((u.fl f).phase = .trained ∨ (u.fl f).phase = .relock) → m.device = j → m.linkLane = k → late = u.now - u.firstMarker j f m.count →
    Does (.alignmentMarker f m a) s (fun t => (t.fl f).markerTick = u.now ∧ (t.fl f).skew = (roundDiv (late * 5) 4).toNat ∧
      (t.fl f).missed = 0 ∧ (t.fl f).amRx = m.count + 1 ∧ (t.link j).anyMarker = u.now ∧
      ((t.link j).want.contains k = true → (t.fl f).phase = .trained ∧ (t.fl f).cwLock = true ∧
        (t.fl f).deskewed = (decide (late * 1250 ≤ 819200) && !(u.fl f).first)))) ∧
  (∀ (f : Fin 128) (a j k : Nat) (s u : State), u = s.toTick a → u.laneLink f = some (j, k) → (u.fl f).phase = .trained →
    (u.fl f).cwLock = true → (u.fl f).markerTick + ((u.fl f).missed + 1) * markerTicks ≤ u.now →
    ((u.fl f).missed < 2 → Does (.markerMissing f a) s (fun t => (t.fl f).missed = (u.fl f).missed + 1 ∧ (t.fl f).cwLock = true ∧
      ∀ x, t.obj x = s.obj x)) ∧
    (2 ≤ (u.fl f).missed → Does (.markerMissing f a) s (fun t => (t.fl f).cwLock = false ∧ (t.fl f).phase = .relock ∧
      Counted 0x400B s t))) ∧
  (∀ (f : Fin 128) (a j m : Nat) (s u : State), u = s.toTick a → u.laneLink f = some (j, m) → (u.fl f).phase = .relock →
    (u.fl f).worn = false → (u.fl f).since + 2 * markerTicks ≤ u.now → u.started = true →
    Does (.relockTimeout f a) s (fun t => (t.fl f).phase = .training ∧ (t.fl f).retried = true ∧ (t.fl f).since = u.now)) ∧
  (∀ (j : Fin 12) (a : Nat) (s u : State), u = s.toTick a → (u.link j).up = true → (u.link j).anyMarker + 3 * markerTicks ≤ u.now →
    Does (.linkMarkerTimeout j a) s (fun t => (t.link j).up = false ∧ Counted 0x4004 s t)) ∧
  (∀ (f : Fin 128) (margin : Byte) (a j k : Nat) (s u : State), u = s.toTick a → u.laneLink f = some (j, k) → (u.fl f).phase = .trained →
    u.upd.paused = false → (u.fl f).scanTick + u.num O.meshEyeScanPeriod * tickMs ≤ u.now →
    (u.num O.meshEyeThreshold ≤ margin.toNat → Does (.eyeScan f margin a) s (fun t => t.num (O.flEyeMargin f) = margin.toNat ∧
      (t.fl f).low = 0 ∧ (t.fl f).worn = (u.fl f).worn ∧ ∀ x, x ≠ O.flEyeMargin f → t.obj x = s.obj x)) ∧
    (margin.toNat < u.num O.meshEyeThreshold → 2 ≤ (u.fl f).low → Does (.eyeScan f margin a) s (fun t => (t.fl f).worn = true)))

/-- R198–R202, R309 (tick `a` makes `s` into `u`): subscriptions over a link. SUB_REQ is refused with reason 4 over a link that is down,
with reason 1 for a stream that is not published, with reason 3 when no channel is left and with reason 2 and event 0x4009 beyond the link's
capacity, and admitted where its charge fits; UNSUB releases the channel and acknowledges it
with its last unit; UNSUB_ACK frees it; SHED takes it from the subscriber; PURPOSE and STREAM_STATE are kept. -/
def Obligations.FabricSubscriptions : Prop :=
  (∀ (j : Fin 12) (r : Half) (sid : Word) (n p : Byte) (a : Nat) (s u : State), u = s.toTick a →
    ((u.link j).up = false ∨ u.essOn = false → Does (.subReq j r sid n p a) s (fun t => SentWith u t (.relayCtl j 3 r.toNat [4]) ∧
      (t.link j).pubs = (s.link j).pubs ∧ ∀ k, t.obj k = s.obj k)) ∧
    ((u.link j).up = true → u.essOn = true → u.publishes sid.toNat n.toNat = false →
      Does (.subReq j r sid n p a) s (fun t => SentWith u t (.relayCtl j 3 r.toNat [1]) ∧
        (t.link j).pubs = (s.link j).pubs ∧ ∀ k, t.obj k = s.obj k)) ∧
    ((u.link j).up = true → u.essOn = true → u.publishes sid.toNat n.toNat = true → (16383 ≤ (u.link j).pubs.length ∨
      65536 ≤ (u.fab.links.map (fun (x : Nat × FabLink) => x.2.pubs.length)).foldl (· + ·) 0) →
      Does (.subReq j r sid n p a) s (fun t => SentWith u t (.relayCtl j 3 r.toNat [3]) ∧
        (t.link j).pubs = (s.link j).pubs ∧ ∀ k, t.obj k = s.obj k)) ∧
    ((u.link j).up = true → u.essOn = true → u.publishes sid.toNat n.toNat = true → (u.link j).pubs.length < 16383 →
      (u.fab.links.map (fun (x : Nat × FabLink) => x.2.pubs.length)).foldl (· + ·) 0 < 65536 → p.toNat ≠ 0 →
      capOf (u.link j).txMap.length < (u.link j).charge + u.chargeOf sid.toNat n.toNat →
      Does (.subReq j r sid n p a) s (fun t => (t.link j).pubs = (s.link j).pubs ∧ Counted 0x4009 s t ∧
        Emission.relayCtl j 3 r.toNat [2] ∈ t.out)) ∧
    ((u.link j).up = true → u.essOn = true → u.publishes sid.toNat n.toNat = true → (u.link j).pubs.length < 16383 →
      (u.fab.links.map (fun (x : Nat × FabLink) => x.2.pubs.length)).foldl (· + ·) 0 < 65536 →
      (u.link j).charge + u.chargeOf sid.toNat n.toNat ≤ capOf (u.link j).txMap.length →
      Does (.subReq j r sid n p a) s (fun t =>
        tfind (t.link j).pubs (u.link j).freeCh = some ⟨sid.toNat, n.toNat, p.toNat, u.chargeOf sid.toNat n.toNat, (u.link j).nextAge, 0, 0⟩ ∧
        Emission.relayCtl j 2 r.toNat (beBytes 2 (u.link j).freeCh ++ beBytes 4 (u.chargeOf sid.toNat n.toNat) ++
          beBytes 12 (u.firstRelease sid.toNat / 2 ^ 32)) ∈ t.out))) ∧
  (∀ (j : Fin 12) (r ch : Half) (p : PubSub) (s : State), tfind (s.link j).pubs ch.toNat = some p →
    Does (.unsub j r ch) s (fun t => tfind (t.link j).pubs ch.toNat = none ∧
      SentWith s t (.relayCtl j 5 r.toNat (beBytes 2 ch.toNat ++ beBytes 2 p.lastUnit)))) ∧
  (∀ (j : Fin 12) (r ch un : Half) (s : State),
    Does (.unsubAck j r ch un) s (fun t => ch.toNat ∉ (t.link j).closing ∧ (∀ x, x ≠ ch.toNat → (x ∈ (t.link j).closing ↔ x ∈ (s.link j).closing)) ∧
      t.out = s.out ∧ ∀ k, t.obj k = s.obj k)) ∧
  (∀ (j : Fin 12) (ch : Half) (reason : Byte) (h : HeldSub) (s : State), tfind (s.link j).subs ch.toNat = some h →
    Does (.shed j ch reason) s (fun t => tfind (t.link j).subs ch.toNat = none ∧ (h.sid, h.count, h.purpose) ∈ (t.link j).lost)) ∧
  (∀ (j : Fin 12) (ch : Half) (p : Byte) (q : PubSub) (s : State), tfind (s.link j).pubs ch.toNat = some q →
    Does (.purpose j ch p) s (fun t => tfind (t.link j).pubs ch.toNat = some { q with purpose := p.toNat } ∧ t.out = s.out ∧
      ∀ k, t.obj k = s.obj k)) ∧
  (∀ (j : Fin 12) (ch fmt : Half) (here : Bool) (h : HeldSub) (s : State), tfind (s.link j).subs ch.toNat = some h →
    Does (.streamState j ch here fmt) s (fun t => tfind (t.link j).subs ch.toNat = some { h with present := here, fmt := fmt.toNat } ∧
      t.out = s.out ∧ ∀ k, t.obj k = s.obj k))

/-- R198, R202, R203, R204, R197 (tick `a` makes `s` into `u`): answers and units. A SUB_ACK nobody waits for is released at once; one
that was asked for is held with its charge; a refusal ends the request; a released video line leaves as a cell with its SEQ; a cell in
order joins its subscription's buffer and one of an unknown channel is counted; at its time a buffered unit is presented. -/
def Obligations.FabricUnits : Prop :=
  (∀ (j : Fin 12) (r ch : Half) (charge : Word) (first : Nat) (s : State), s.dict.waits = [] → s.dict.blocked = [] →
    s.ess.takes.batches = [] →
    tfind (s.link j).subs ch.toNat = none →
    ((s.link j).asks.find? (fun q => q.reqId == r.toNat) = none → Does (.subAck j r ch charge first) s (fun t =>
      ch.toNat ∈ (t.link j).closing ∧ Emission.relayCtl j 4 (s.link j).nextReq (beBytes 2 ch.toNat) ∈ t.out)) ∧
    (∀ q, (s.link j).asks.find? (fun q => q.reqId == r.toNat) = some q → s.mayHold j ch.toNat = true → s.purposeFor q.sid q.count = some q.purpose →
      Does (.subAck j r ch charge first) s (fun t =>
        tfind (t.link j).subs ch.toNat = some ⟨q.sid, q.count, q.purpose, charge.toNat, first, none, [], [], .none, false, 0⟩ ∧
        (t.link j).asks.find? (fun q => q.reqId == r.toNat) = none))) ∧
  (∀ (j : Fin 12) (r : Half) (reason : Byte) (q : SubAsk) (s : State), s.dict.waits = [] →
    s.dict.blocked = [] → s.ess.takes.batches = [] →
    (s.link j).asks.find? (fun q => q.reqId == r.toNat) = some q →
    Does (.subNak j r reason) s (fun t => (t.link j).asks = (s.link j).asks.filter (fun b => b.reqId != r.toNat))) ∧
  (∀ (j : Fin 12) (ch : Half) (n k a : Nat) (p : PubSub) (v : QLine) (s u : State), u = s.toTick a → tfind (u.link j).pubs ch.toNat = some p →
    (u.link j).up = true → u.essOn = true → sidClass p.sid = 0 → u.slotHasVideo (sidSlot p.sid) = true →
    u.unitFrame (u.relRaster (sidSlot p.sid)) n = some k → u.isPresent (p.sid % 2 ^ 28) = true → (u.link j).chFits ch.toNat = true →
    u.poisonedLine (sidSlot p.sid) v = false → u.unitLine (sidSlot p.sid) k n (sidSub p.sid) = some v →
    fmtActive (u.relRaster (sidSlot p.sid)) n = true →
    Does (.unitSend j ch n a) s (fun t => SentWith u t (.relayCell j 1 8 ch.toNat (n % 4096) p.seq (.video v.data)) ∧
      tfind (t.link j).pubs ch.toNat = some { p with seq := (p.seq + 1) % 256, lastUnit := n % 4096 } ∧ ∀ x, t.obj x = s.obj x)) ∧
  (∀ (j : Fin 12) (c : RelayCell) (a : Nat) (s u : State), u = s.toTick a → c.hecOk = true → (u.link j).up = true →
    (u.link j).hunting = false → 1 ≤ c.type → c.type ≤ 4 →
    (∀ h, tfind (u.link j).subs c.channel = some h → c.uncorrectable = false → (h.seq = none ∨ h.seq = some c.seq) → h.buf.length < 64 →
      Does (.cellReceived j c [] [] a) s (fun t => (∀ x, t.obj x = s.obj x) ∧
        tfind (t.link j).subs c.channel = some { h with seq := some ((c.seq + 1) % 256), buf := h.buf ++ [(c.unit, c.absent, c.body)] })) ∧
    (tfind (u.link j).subs c.channel = none → Does (.cellReceived j c [] [] a) s (fun t =>
      t.num (kLink j 17) = (u.num (kLink j 17) + 1) % 2 ^ 32 ∧ t.fab = s.fab))) ∧
  (∀ (j : Fin 12) (ch : Half) (n a off : Nat) (h : HeldSub) (b : CellBody) (s u : State), u = s.toTick a →
    tfind (u.link j).subs ch.toNat = some h → sidClass h.sid = 0 → h.fmt ≠ 0 →
    off = linesPt h.fmt n 1 + linesPt h.fmt (2 + u.lag) 1 → off ≤ u.tm.pt + u.tm.inc →
    u.tm.pt ≤ gridStart (h.fmt % 256) (gridFrame (h.fmt % 256) (u.tm.pt + u.tm.inc - off)) + off + u.tm.inc → h.buf.find? (fun x => x.1 == n % 4096) = some (n % 4096, false, b) →
    Does (.unitPresent j ch n a) s (fun t => ∃ h2, tfind (t.link j).subs ch.toNat = some h2 ∧ h2.shown.head? = some ⟨n, u.tm.pt, false, b⟩ ∧
      h2.good = b ∧ h2.buf = h.buf.filter (fun x => x.1 != n % 4096)))

/-- R218, R219 (tick `a` makes `s` into `u`): a write of TAKE_RING_TAIL_n stores its 13-bit index; the batch in front of the ring in turn
is taken whole, so that HEAD passes its LAST record. -/
def Obligations.TakeRings : Prop :=
  (∀ (n : Fin 4) (w : Word) (s : State), s.winOpen (rRingTail n) = true →
    Does (.takeRingTail n w) s (fun t => t.reg (rRingTail n) = fld w.toNat 12 0 ∧ (∀ off, off ≠ rRingTail n → t.reg off = s.reg off) ∧
      (∀ x, t.byte x = s.byte x) ∧ ∀ k, t.obj k = s.obj k)) ∧
  (∀ (n : Fin 4) (i a : Nat) (s u : State), u = s.toTick a → tget allFalse u.ess.takes.drop n.val = false → u.ringTurn = some n.val →
    u.ringStalled n = false → u.ringLast n = some i →
    Does (.batchDecode n a) s (fun t => t.reg (rRingHead n) = (u.reg (rRingHead n) + (i + 1)) % 8192 ∧ t.ess.takes.turn = n.val))

/-- R228, R225, R229, R237 (tick `a` makes `s` into `u`): at the switching line the record that arrived last of those due and waiting for
nothing comes into force: the video, ancillary and time-code SIDs it sets become the output's, the frame counts, and what was in force
before is kept for the lines before the switching line; with no record due the SIDs stay; at the audio take instant a position whose
channel changes begins its transition. -/
def Obligations.TakesApply : Prop :=
  (∀ (o : Fin 128) (k a : Nat) (win : Batch × PendRec) (s u : State), u = s.toTick a → u.outRuns o = true → u.outStopped o k = false →
    u.timeFor (u.outTime o (u.outVideo o) k (u.switchLine o k)) = true → (u.out_ o).lastGrid < k →
    u.lowerDue o k = [] → lastArrived (u.readyRecs o k) = some win → (u.out_ o).takeAt ≤ win.1.ta →
    Does (.switchingLine o k a) s (fun t =>
      t.num (O.takeVideoSid o) = (if win.2.rec_.setVideo then win.2.rec_.video else u.num (O.takeVideoSid o)) ∧
      t.num (O.takeAncSid o) = (if win.2.rec_.setAnc then win.2.rec_.anc else u.num (O.takeAncSid o)) ∧
      t.num (O.takeTcSid o) = (if win.2.rec_.setTc then win.2.rec_.tc else u.num (O.takeTcSid o)) ∧
      (∀ p sid, p < 128 → u.recNow win.2 = [(p, sid)] → t.num (O.takeAudioPosition o p) = sid) ∧
      (t.out_ o).takeAt = win.1.ta ∧ (t.out_ o).lastGrid = k ∧ (t.out_ o).prevVideo = u.num (O.takeVideoSid o))) ∧
  (∀ (o : Fin 128) (k a : Nat) (s u : State), u = s.toTick a → u.outRuns o = true → u.outStopped o k = false →
    u.timeFor (u.outTime o (u.outVideo o) k (u.switchLine o k)) = true → (u.out_ o).lastGrid < k → u.lowerDue o k = [] → u.dueRecs o k = [] →
    Does (.switchingLine o k a) s (fun t => t.num (O.takeVideoSid o) = u.num (O.takeVideoSid o) ∧
      t.num (O.takeAncSid o) = u.num (O.takeAncSid o) ∧ t.num (O.takeTcSid o) = u.num (O.takeTcSid o) ∧
      t.num (O.takeFrameCount o) = (u.num (O.takeFrameCount o) + 1) % 2 ^ 32 ∧ (t.out_ o).lastGrid = k)) ∧
  (∀ (o : Fin 128) (k a p sid : Nat) (win : Batch × PendRec) (s u : State), u = s.toTick a → u.outRuns o = true →
    u.outStopped o k = false → u.timeFor (gridStart (u.outRaster o % 256) k + linesPt (u.outRaster o) (u.switchLine o k - 1) 1) = true →
    lastArrived (u.readyRecs o k) = some win → (u.out_ o).takeAt ≤ win.1.ta →
    u.recNow win.2 = [(p, sid)] → u.num (O.takeAudioPosition o p) ≠ sid →
    Does (.audioTakeInstant o k a) s (fun t =>
      (∃ r, tfind (t.out_ o).trans p = some r ∧ r.old = u.num (O.takeAudioPosition o p) ∧ r.new = sid ∧ r.start = u.takeSample o k) ∧
      ∀ j, t.obj j = s.obj j))

/-- R213, R233, R234 (tick `a` makes `s` into `u`): an active line of an internal output with supply leaves with the samples it was
supplied; on a running serialiser it leaves on SDI; without supply the output holds, repeats its last line and counts the line in
HOLD_LINES. -/
def Obligations.OutputLines : Prop :=
  (∀ (o : Fin 128) (k n a : Nat) (d : List (List Byte)) (s u : State), u = s.toTick a → u.outRuns o = true → u.outStopped o k = false →
    2 ≤ n → n ≤ fmtLines (u.outRaster o) → u.timeFor (u.outTime o (u.sidFor o k n (u.outVideo o) (u.out_ o).prevVideo) k n + linesPt (u.outRaster o) 1 1) = true →
    (u.out_ o).lastGrid < k → fmtActive (u.outRaster o) n = true → u.twin.sdiHold = 0 → tfind u.comp.convAt o.val = none →
    tfind u.comp.convGone o.val = none → (u.out_ o).conflict = false → u.supply o (u.outVideo o) k n = .line d →
    (96 ≤ o.val → Does (.outputLine o k n a) s (fun t => Emission.internalLine o n d ∈ t.out ∧ (t.out_ o).line = d)) ∧
    (o.val < 96 → u.laneMode o = 1 → (u.lane o).txOn = true → Does (.outputLine o k n a) s (fun t => (t.out_ o).line = d ∧
      ∃ l : SdiOut, l.mapping = u.txMapping o k ∧ l.line = n ∧ l.data = d ∧ Emission.sdiLine o l ∈ t.out))) ∧
  (∀ (o : Fin 128) (k n c a : Nat) (s u : State), u = s.toTick a → u.outRuns o = true → u.outStopped o k = false →
    2 ≤ n → n ≤ fmtLines (u.outRaster o) → u.timeFor (u.outTime o (u.sidFor o k n (u.outVideo o) (u.out_ o).prevVideo) k n + linesPt (u.outRaster o) 1 1) = true →
    (u.out_ o).lastGrid < k → fmtActive (u.outRaster o) n = true → u.twin.sdiHold = 0 → tfind u.comp.convAt o.val = none →
    tfind u.comp.convGone o.val = none → (u.out_ o).conflict = false → u.supply o (u.outVideo o) k n = .hold c → (u.out_ o).line ≠ [] →
    Does (.outputLine o k n a) s (fun t => (t.out_ o).hold = true ∧ (t.out_ o).line = (u.out_ o).line ∧
      t.num (O.outHoldLines o) = (u.num (O.outHoldLines o) + 1) % 2 ^ 32))

/-- R115–R121, R126, R128, R132 (tick `a` makes `s` into `u`): what an Ethernet lane receives. A frame too short, too long or with a bad
FCS is counted and goes no further; one of right length counts as a frame with its bytes, and a pause frame, a frame for another station,
or a control frame of a class with a ring counts as such; a packet of a receive context counts there, and rows beyond the context's format
are a mismatch. A right frame of a management lane goes to the management cores, a wrong one goes no further. -/
def Obligations.EthernetFrames : Prop :=
  (∀ (p : Fin 98) (f : EthFrame) (bufs : List (Nat × Nat × Nat)) (a : Nat) (s u : State), u = s.toTick a → p.val < 96 → u.laneMode p = 2 →
    u.laneActive p = true → u.laneOn p = true → u.ethMember p = false → u.ethUp p = true → 4 ≤ u.num O.startStartPhase →
    (f.length < 18 → Does (.ethFrameReceived p f bufs a) s (fun t => t.num (O.ethRxFragments p) = (u.num (O.ethRxFragments p) + 1) % 2 ^ 32 ∧
      ∀ k, k ≠ O.ethRxFragments p → t.obj k = s.obj k)) ∧
    (18 ≤ f.length → f.length < 64 → u.flag (O.ethDeliverErrored p) = false → Does (.ethFrameReceived p f bufs a) s (fun t =>
      t.num (O.ethRxRunts p) = (u.num (O.ethRxRunts p) + 1) % 2 ^ 32 ∧ ∀ k, k ≠ O.ethRxRunts p → t.obj k = s.obj k)) ∧
    (64 ≤ f.length → f.length ≤ 9216 → f.fcsOk = false → u.flag (O.ethDeliverErrored p) = false →
      Does (.ethFrameReceived p f bufs a) s (fun t => t.num (O.ethRxFcsErrors p) = (u.num (O.ethRxFcsErrors p) + 1) % 2 ^ 32 ∧
        ∀ k, k ≠ O.ethRxFcsErrors p → t.obj k = s.obj k)) ∧
    (9216 < f.length → u.flag (O.ethDeliverErrored p) = false → Does (.ethFrameReceived p f bufs a) s (fun t =>
      t.num (O.ethRxOversize p) = (u.num (O.ethRxOversize p) + 1) % 2 ^ 32 ∧ bitOf (t.reg (rEthEvt p)) 10 = true ∧
      ∀ k, k ≠ O.ethRxOversize p → t.obj k = s.obj k)) ∧
    (64 ≤ f.length → f.length ≤ 9216 → f.fcsOk = true → f.etype = 0x8808 → Does (.ethFrameReceived p f bufs a) s (fun t =>
      t.num (O.ethRxPause p) = (u.num (O.ethRxPause p) + 1) % 2 ^ 32 ∧ t.num (O.ethRxFrames p) = (u.num (O.ethRxFrames p) + 1) % 2 ^ 64 ∧
      t.num (O.ethRxBytes p) = (u.num (O.ethRxBytes p) + f.length) % 2 ^ 64)) ∧
    (64 ≤ f.length → f.length ≤ 9216 → f.fcsOk = true → f.etype ≠ 0x8808 → bitOf f.dst 40 = false →
      f.dst ≠ ofBe (u.bytes (O.ethMacAddress p)) → Does (.ethFrameReceived p f bufs a) s (fun t =>
        t.num (O.ethRxUnmatched p) = (u.num (O.ethRxUnmatched p) + 1) % 2 ^ 32 ∧
        t.num (O.ethRxFrames p) = (u.num (O.ethRxFrames p) + 1) % 2 ^ 64)) ∧
    (64 ≤ f.length → f.length ≤ 9216 → f.fcsOk = true → f.etype ≠ 0x8808 → f.tags = [] → f.net = .arp → f.dst = ofBe (u.bytes (O.ethMacAddress p)) →
      byteAt (u.bytes (O.ethPuntRing p)) 2 ≠ 0xFF → tfind (u.eth_ p).buckets 2 = none → u.num (O.ethPuntBurst p) ≠ 0 →
      Does (.ethFrameReceived p f bufs a) s (fun t => t.num (O.ethRxPunted p) = (u.num (O.ethRxPunted p) + 1) % 2 ^ 32)) ∧
    (∀ (r src dst : Nat) (x : UdpHdr) (h : RtpHdr) (rows : List (Nat × Nat × List Byte)) (m : Bool),
      64 ≤ f.length → f.length ≤ 9216 → f.fcsOk = true → f.etype ≠ 0x8808 → f.tags = [] → f.dst = ofBe (u.bytes (O.ethMacAddress p)) →
      f.net = .ip4 5 false true 17 src dst → f.udp = some x → x.ckOk = true → x.dport ≠ 319 → x.dport ≠ 320 →
      u.rxMatch p 0 0 dst src x.dport = some r → f.rtp = some h → f.media = some (.video rows m) → byteAt (u.rxFlow r) 3 = 0 →
      byteAt (u.rxFlow r) 1 = 1 → u.rxPartner r = none → (u.rx r).next = none →
      (∃ q, q ∈ rows ∧ fmtActiveLines (halfAt (u.rxFlow r) 44) ≤ q.1) → Does (.ethFrameReceived p f bufs a) s (fun t =>
        (t.rx r).packets = ((u.rx r).packets + 1) % 2 ^ 64 ∧ (t.rx r).mismatch = ((u.rx r).mismatch + 1) % 2 ^ 32 ∧
        (t.rx r).active = true ∧ bitOf (t.reg (rEthEvt p)) 8 = true))) ∧
  (∀ (p : Fin 98) (f : EthFrame) (bufs : List (Nat × Nat × Nat)) (a : Nat) (s u : State), u = s.toTick a → 96 ≤ p.val →
    4 ≤ u.num O.startStartPhase →
    (64 ≤ f.length → f.length ≤ 1522 → f.fcsOk = true → Does (.ethFrameReceived p f bufs a) s (fun t =>
      t.out = u.out ++ [.mgmtFrame (p - 96) 0 f.bytes] ∧ ∀ k, t.obj k = s.obj k)) ∧
    (f.length < 64 ∨ 1522 < f.length ∨ f.fcsOk = false → Does (.ethFrameReceived p f bufs a) s (fun t => t.out = s.out ∧
      ∀ k, t.obj k = s.obj k)))

/-- R113, R126, R127, R132, R133 (tick `a` makes `s` into `u`): links and receive contexts. A link up and a link down are told, and a coding lock
shows LINK_STATE 1; a flow
without packets for its loss time is lost with 0x3404; an open line closes after one line period; a packet missing on both paths for the
pair's skew is counted lost; a path without packets goes down with 0x3405. -/
def Obligations.EthernetLinksAndFlows : Prop :=
  (∀ (p : Fin 96) (s : State), s.laneMode p = 2 →
    (s.laneActive p = true → s.laneOn p = true → s.ethMember p = false → s.ethUp p = false → Does (.ethLinkUp ⟨p, true⟩) s (fun t =>
      t.ethUp p = true ∧ Counted 0x3401 s t ∧ bitOf (t.reg (rEthEvt p)) 0 = true ∧ ∀ k, k ≠ O.ethLinkState p → t.obj k = s.obj k)) ∧
    (s.laneActive p = true → s.laneOn p = true → s.ethMember p = false → s.ethUp p = false → Does (.ethLinkUp ⟨p, false⟩) s (fun t =>
      t.num (O.ethLinkState p) = 1 ∧ t.out = s.out ∧ ∀ k, k ≠ O.ethLinkState p → t.obj k = s.obj k)) ∧
    (∀ (c : Fin 4), s.ethUp p = true → s.ethMember p = false → Does (.ethLinkDown p c false) s (fun t => t.ethUp p = false ∧ Counted 0x3402 s t ∧
      bitOf (t.reg (rEthEvt p)) 1 = true ∧ t.num (O.ethLinkDowns p) = (s.num (O.ethLinkDowns p) + 1) % 2 ^ 32 ∧
      (c.val = 1 → t.num (O.ethLinkState p) = 3) ∧ (c.val = 2 → t.num (O.ethLinkState p) = 4) ∧
      (c.val = 0 ∨ c.val = 3 → t.num (O.ethLinkState p) = 0)))) ∧
  (∀ (r : Fin 8192) (a : Nat) (s u : State), u = s.toTick a →
    (flowValid (u.rxFlow r) = true → u.rxPartner r = none → (u.rx r).active = true → (u.rx r).row = none →
      (u.rx r).lastTick + u.lossTicks (u.rxFlow r) ≤ u.now + 1 → Does (.rxContextLost r a) s (fun t => (t.rx r).active = false ∧
        (t.rx r).up = false ∧ (t.rx r).next = none ∧ Counted 0x3404 s t ∧ ∀ q, q ≠ r.val → t.rx q = s.rx q)) ∧
    (∀ i, (u.rx r).row = some i → (u.rx r).rowTick + u.ptToTicks (linesPt (halfAt (u.rxFlow r) 44) 1 1) ≤ u.now →
      Does (.lineCloseTimeout r a) s (fun t => (t.rx r).row = none ∧ (t.rx r).closed = some i ∧ (t.rx r).parts = [] ∧
        ∀ q, q ≠ r.val → t.rx q = s.rx q)) ∧
    (∀ q t0, (u.rx r).wait.find? (fun w => w.1 == q) = some (q, t0) → t0 + halfAt (u.rxFlow r) 48 * tickUs ≤ u.now → (u.rx r).ahead = [] →
      Does (.pairWaitExpiry r q a) s (fun t => (t.rx r).lost = ((u.rx r).lost + 1) % 2 ^ 32 ∧ (∀ w, w ∈ (t.rx r).wait → w.1 ≠ q) ∧
        bitOf (t.reg (rEthEvt (byteAt (u.rxFlow r) 2))) 6 = true)) ∧
    ((u.rxPartner r).isSome = true → (u.rx r).up = true → (u.rx r).lastTick + u.lossTicks (u.rxFlow r) ≤ u.now + 1 →
      Does (.pathDown r a) s (fun t => t.rx r = { u.rx r with up := false, down := true } ∧ Counted 0x3405 s t ∧
        ∀ k, t.obj k = s.obj k)))

/-- R114, R134–R137, R139–R141 (tick `a` makes `s` into `u`): what an Ethernet lane sends. A packet of a video, ST 2022-6 or ancillary context
leaves at its scheduled time with the next sequence number and the RTP time of its frame, a packet of an audio context with the time of its
first sample; where the link is not up it is discarded and counted. The frame at the front of a lane's queue starts in a gap before the next
media packet, is captured where it asks, and is given up where the link is down; a read of the timestamp queue takes the oldest. -/
def Obligations.EthernetSend : Prop :=
  (∀ (c : Fin 8192) (o f k g d a : Nat) (s u : State), u = s.toTick a → u.txRuns c = true → o = byteAt (u.txData c) 32 →
    f = u.outRaster o →
    (byteAt (u.txData c) 1 = 1 → (u.nearFields f).find? (fun q => decide (k < packetsPer f (halfAt (u.txData c) 36)) &&
        u.onTime (u.packetTime o f (halfAt (u.txData c) 36) q.1 q.2 k)) = some (g, d) → (u.tx c).last ≠ placeOf g d k →
      Does (.mediaPacketSend c k a) s (fun t => ∃ v, SentPacket u t c (placeOf g d k) (rtpOf 90000 (gridStart (f % 256) g))
        (k + 1 == packetsPer f (halfAt (u.txData c) 36)) (.video v))) ∧
    (byteAt (u.txData c) 1 = 5 → ((List.range 4).map (fun i => gridFrame (f % 256) u.tm.pt + 1 - i)).find? (fun x =>
        decide (k < sdiPackets f) && u.onTime (u.datagramTime o f x k)) = some g → (u.tx c).last ≠ placeOf g 0 k →
      Does (.mediaPacketSend c k a) s (fun t => SentPacket u t c (placeOf g 0 k) (rtpOf 90000 (gridStart (f % 256) g))
        (k + 1 == sdiPackets f) (u.datagram o f g k))) ∧
    (∀ pk, byteAt (u.txData c) 1 = 4 → (u.nearFields f).find? (fun q => decide (u.packetTime o f 1 q.1 q.2 0 ≤ u.tm.pt) &&
        decide (u.tm.pt ≤ u.packetTime o f 1 q.1 q.2 0 + linesPt f 1 1)) = some (g, d) →
      (ancGroups 4096 [] (u.fieldAnc o g d (byteAt (u.txData c) 33)) 8)[k]? = some pk → (u.tx c).last < placeOf g d k →
      Does (.mediaPacketSend c k a) s (fun t => SentPacket u t c (placeOf g d k) (rtpOf 90000 (gridStart (f % 256) g))
        (k + 1 == (ancGroups 4096 [] (u.fieldAnc o g d (byteAt (u.txData c) 33)) 8).length) (.anc pk)))) ∧
  (∀ (c : Fin 8192) (fs n e a : Nat) (s u : State), u = s.toTick a → u.txRuns c = true →
    (byteAt (u.txData c) 1 = 2 ∨ byteAt (u.txData c) 1 = 3) →
    fs = u.outAudioRate (byteAt (u.txData c) 32) (gridFrame (u.outRaster (byteAt (u.txData c) 32) % 256) u.tm.pt) * 1000 →
    n = packetSamples fs (byteAt (u.txData c) 35) → n ≠ 0 → e = u.tm.pt * fs / (1000000000 * ptNs) / n * n → n ≤ e →
    u.tm.pt ≤ samplePt fs e + 10000 * ptNs → (u.tx c).last ≠ e + 1 →
    Does (.audioPacketSend c a) s (fun t => ∃ l, SentPacket u t c (e + 1) ((e - n) % 2 ^ 32) false (.audio l))) ∧
  (∀ (p : Fin 96) (f : HostTx) (l : List HostTx) (a : Nat) (s u : State), u = s.toTick a → (u.eth_ p).wait = f :: l → u.ethMember p = false →
    u.frameTurn f = true →
    (u.laneMode p ≠ 2 ∨ u.ethUp p = false ∨ u.laneActive p = false → Does (.hostFrameStart p a) s (fun t => (t.eth_ p).wait = l ∧
      t.num (O.ethTxDiscarded p) = (u.num (O.ethTxDiscarded p) + 1) % 2 ^ 32)) ∧
    (u.laneMode p = 2 → u.ethUp p = true → u.laneActive p = true →
      (u.fitsGap p f.length = false → Does (.hostFrameStart p a) s (fun t => t = u)) ∧
      (u.fitsGap p f.length = true → f.servo = none → Does (.hostFrameStart p a) s (fun t => (t.eth_ p).wait = l ∧
        Emission.ethFrame p f.bytes ∈ t.out ∧ (∀ n, (u.ring (64 + f.ring)).busy = [⟨f.desc, n, false⟩] →
          (t.ring (64 + f.ring)).busy = [] ∧ Emission.ringWrite (fld (u.reg (rRing (64 + f.ring) + 8)) 27 25) (f.desc + 16) (leBytes 2 0) ∈ t.out ∧
          (1 ≤ n → (t.ring (64 + f.ring)).head = ((u.ring (64 + f.ring)).head + n) % (2 * ringSize (u.reg (rRing (64 + f.ring) + 8))))) ∧ t.num (O.ethTxFrames p) = (u.num (O.ethTxFrames p) + 1) % 2 ^ 64 ∧
        (f.tsReq = false → (t.eth_ p).stamps = (u.eth_ p).stamps) ∧
        (f.tsReq = true → (u.eth_ p).stamps.length < 16 → ∃ x, (t.eth_ p).stamps = (u.eth_ p).stamps ++ [x] ∧ x.id = f.tsId))) ∧
      (∀ v, u.fitsGap p f.length = true → f.servo = some v → Does (.hostFrameStart p a) s (fun t => (v.type ≠ 0 → (t.eth_ p).wait = l) ∧
        Emission.ptp p v.type v.domain v.transport v.seq v.fields v.data ∈ t.out)))) ∧
  (∀ (p : Fin 96) (a : Nat) (s u : State), u = s.toTick a → (∀ f, f ∈ (u.eth_ p).wait → u.frameTurn f = false) →
    Does (.hostFrameStart p a) s (fun t => t = u)) ∧
  (∀ (p : Fin 96) (x : TxStamp) (s : State), s.laneMode p = 2 → s.winOpen (rTxts p + 4) = true →
    ((s.eth_ p).stamps.find? (fun t => decide (t.id < 0x8000)) = some x → Does (.txtsPop p) s (fun t =>
      (t.eth_ p).stamps = (s.eth_ p).stamps.erase x ∧ (t.eth_ p).popSec = x.sec ∧ t.out = s.out ++ [.regRead (rTxts p + 4) (2 ^ 31 + x.id)] ∧
      (∀ k, t.obj k = s.obj k) ∧ ∀ y, t.reg y = s.reg y)) ∧
    ((∀ y, y ∈ (s.eth_ p).stamps → 0x8000 ≤ y.id) → Does (.txtsPop p) s (fun t => t = s.emit (.regRead (rTxts p + 4) 0))))

/-- R247, R248, R251, R254 (tick `a` makes `s` into `u`): the states of an AES3 input. At LOCK_STATE 0 an enabled input that sees biphase
coding goes to 1, and one that is not enabled stays; at 1 a framed signal with a frame rate of 32 to 192 kHz goes to 2, and one outside stays; a
window at 2 with a rate in range goes to 3 with RATE_MEASURED, SYNC and event 0x7001, at 3 it brings them up to date, and with a rate outside it
goes to 1 with SYNC 0 and event 0x7002; a loss of the signal goes down to its LOCK_STATE with SYNC 0 and event 0x7002. A window of a locked
slave TDM port decides its SYNC. -/
def Obligations.AesInputs : Prop :=
  (∀ (n : Fin 16) (s : State), s.num (O.aesInLockState n) = 0 →
    (s.flag (O.aesInEnable n) = true → ∃ t, Sys2Proof.Machine.exec (.aesBiphaseLock n) s = .next t ∧ t.num (O.aesInLockState n) = 1 ∧
      (∀ k, k ≠ O.aesInLockState n → t.obj k = s.obj k) ∧ (∀ x, t.reg x = s.reg x) ∧ t.out = s.out) ∧
    (s.flag (O.aesInEnable n) = false → ∃ t, Sys2Proof.Machine.exec (.aesBiphaseLock n) s = .next t ∧ t = s)) ∧
  (∀ (n : Fin 16) (rate : Nat) (s : State), s.num (O.aesInLockState n) = 1 →
    (32000000 ≤ rate → rate ≤ 192000000 → ∃ t, Sys2Proof.Machine.exec (.aesFramed ⟨n, rate⟩) s = .next t ∧
      t.num (O.aesInLockState n) = 2 ∧ (∀ k, k ≠ O.aesInLockState n → t.obj k = s.obj k) ∧ (∀ x, t.reg x = s.reg x) ∧ t.out = s.out) ∧
    (rate < 32000000 ∨ 192000000 < rate → ∃ t, Sys2Proof.Machine.exec (.aesFramed ⟨n, rate⟩) s = .next t ∧ t = s)) ∧
  (∀ (n : Fin 24) (rate a : Nat) (phase : Int) (s u : State), u = s.toTick a →
    (n.val < 16 → 2 ≤ u.num (O.aesInLockState n) → u.num (O.aesInLockState n) ≤ 3 → 32000000 ≤ rate → rate ≤ 192000000 →
      ∃ t, Sys2Proof.Machine.exec (.aesClassify n rate phase a) s = .next t ∧ t.num (O.aesInLockState n) = 3 ∧
        t.num (O.aesInRateMeasured n) = rate ∧
        t.num (O.aesInSync n) = (if u.isSync (u.num (O.aesInSlot n)) rate phase then 1 else 2) ∧
        (u.num (O.aesInLockState n) = 2 → (t.aes n).here = true ∧ Counted 0x7001 s t)) ∧
    (n.val < 16 → 2 ≤ u.num (O.aesInLockState n) → (rate < 32000000 ∨ 192000000 < rate) →
      ∃ t, Sys2Proof.Machine.exec (.aesClassify n rate phase a) s = .next t ∧ t.num (O.aesInLockState n) = 1 ∧ t.num (O.aesInSync n) = 0 ∧
        (t.aes n).here = false ∧ Counted 0x7002 s t) ∧
    (16 ≤ n.val → u.num (O.tdmMode (n.val - 16)) = 2 → u.num (O.tdmState (n.val - 16)) = 2 →
      ∃ t, Sys2Proof.Machine.exec (.aesClassify n rate phase a) s = .next t ∧
        t.num (O.tdmSync (n.val - 16)) = (if u.isSync (u.num (O.tdmSlot (n.val - 16))) rate phase then 1 else 2) ∧
        ∀ k, k ≠ O.tdmSync (n.val - 16) → t.obj k = s.obj k)) ∧
  (∀ (n : Fin 16) (to_ : Fin 2) (a : Nat) (s u : State), u = s.toTick a → to_.val < u.num (O.aesInLockState n) →
    ∃ t, Sys2Proof.Machine.exec (.aesSignalLoss n to_ a) s = .next t ∧ t.num (O.aesInLockState n) = to_.val ∧ t.num (O.aesInSync n) = 0 ∧
      (t.aes n).here = false ∧ (t.aes n).half = none ∧ Counted 0x7002 s t)

/-- R249–R251 (tick `a` makes `s` into `u`): the subframes and blocks of an AES3 input at LOCK_STATE 2 or 3. A parity error and a biphase
violation are counted, and such a subframe repeats the sample before it; one with V 1 is muted and counted where VALIDITY_ACTION is 1. A frame
stands with subframe 1 until subframe 2 completes it, and subframe 1 brings no sample to the slot. The channel status and user bits of a block
are shown, and its non-audio flag taken; one of professional use with a bad CRC is counted and shown nowhere. Below LOCK_STATE 2 nothing is
received. -/
def Obligations.AesFramesAndBlocks : Prop :=
  (∀ (n : Fin 16) (sub : Fin 2) (par bi v : Bool) (w : BitVec 24) (a x : Nat) (s u : State), u = s.toTick a →
    2 ≤ u.num (O.aesInLockState n) →
    x = (if v = true ∧ u.num (O.aesInValidityAction n) = 1 then 0
         else if par = true ∧ bi = true then w.toNat else if sub.val = 0 then (u.aes n).lastA else (u.aes n).lastB) →
    ∃ t, Sys2Proof.Machine.exec (.aesSubframe n sub par bi v w a) s = .next t ∧
      t.num (O.aesInParityErrors n) = (if par then u.num (O.aesInParityErrors n) else (u.num (O.aesInParityErrors n) + 1) % 2 ^ 32) ∧
      t.num (O.aesInBiphaseErrors n) = (if bi then u.num (O.aesInBiphaseErrors n) else (u.num (O.aesInBiphaseErrors n) + 1) % 2 ^ 32) ∧
      t.num (O.aesInInvalidSamples n) = (if v = true ∧ u.num (O.aesInValidityAction n) = 1 then
        (u.num (O.aesInInvalidSamples n) + 1) % 2 ^ 32 else u.num (O.aesInInvalidSamples n)) ∧
      (sub.val = 0 → (t.aes n).lastA = x ∧ (∃ y, (t.aes n).half = some (x, y)) ∧ (∀ m, t.slot m = u.slot m) ∧
        ∀ k, k ≠ O.aesInParityErrors n → k ≠ O.aesInBiphaseErrors n → k ≠ O.aesInInvalidSamples n → t.obj k = s.obj k) ∧
      (sub.val = 1 → (t.aes n).lastB = x ∧ (t.aes n).half = none)) ∧
  (∀ (n : Fin 16) (ca cb ua ub : List Byte) (ga gb : Bool) (s : State), 2 ≤ s.num (O.aesInLockState n) →
    ∃ t, Sys2Proof.Machine.exec (.aesBlock n ca cb ua ub ga gb) s = .next t ∧
      (bitOf (byteAt ca 0) 0 = false ∨ ga = true → t.bytes (O.aesInStatusA n) = ca.take 24 ∧ t.bytes (O.aesInUserA n) = ua.take 24 ∧
        (t.aes n).nonAudio = bitOf (byteAt (ca.take 24) 0) 1) ∧
      (bitOf (byteAt ca 0) 0 = true → ga = false → t.bytes (O.aesInStatusA n) = s.bytes (O.aesInStatusA n) ∧
        t.bytes (O.aesInUserA n) = s.bytes (O.aesInUserA n)) ∧
      (bitOf (byteAt cb 0) 0 = false ∨ gb = true → t.bytes (O.aesInStatusB n) = cb.take 24 ∧ t.bytes (O.aesInUserB n) = ub.take 24) ∧
      (bitOf (byteAt cb 0) 0 = true → gb = false → t.bytes (O.aesInStatusB n) = s.bytes (O.aesInStatusB n) ∧
        t.bytes (O.aesInUserB n) = s.bytes (O.aesInUserB n)) ∧
      t.num (O.aesInCrcErrors n) = (if (bitOf (byteAt ca 0) 0 && !ga) = (bitOf (byteAt cb 0) 0 && !gb) then
          (if (bitOf (byteAt ca 0) 0 && !ga) = true then (s.num (O.aesInCrcErrors n) + 2) % 2 ^ 32 else s.num (O.aesInCrcErrors n))
        else (s.num (O.aesInCrcErrors n) + 1) % 2 ^ 32)) ∧
  (∀ (n : Fin 16) (sub : Fin 2) (par bi v ga gb : Bool) (w : BitVec 24) (ca cb ua ub : List Byte) (a : Nat) (s u : State), u = s.toTick a →
    u.num (O.aesInLockState n) < 2 →
    (∃ t, Sys2Proof.Machine.exec (.aesSubframe n sub par bi v w a) s = .next t ∧ t = u) ∧
    ∃ t, Sys2Proof.Machine.exec (.aesBlock n ca cb ua ub ga gb) u = .next t ∧ t = u)

/-- R229, R252–R259, R261–R263 (tick `a` makes `s` into `u`): an AES3 output and a TDM port send a frame at their house sample; a slave
TDM port locks and counts frame errors, the fourth in a row losing its lock; an ASRC instance locks with its ratio or goes out of range; a
destination takes the SID held behind its transition when that ends; a crossing that has not come in time is forced. -/
def Obligations.AudioPorts : Prop :=
  (∀ (n : Fin 16) (x a : Nat) (s u : State), u = s.toTick a → u.flag (O.aesOutEnable n) = true → u.essOn = true →
    u.timeFor (samplePt (u.num (O.aesOutRate n) * 1000) x) = true →
    Does (.aesOutputFrame n x a) s (fun t => (∃ l r, t.out = u.out ++ [.aesFrame n x l r (aesStatus (u.num (O.aesOutRate n)) (u.aesNonAudio n))] ∧
      (t.pdest (2 * n)).last = l ∧ (t.pdest (2 * n + 1)).last = r) ∧ ∀ k, t.obj k = s.obj k)) ∧
  (∀ (n : Fin 8) (x a : Nat) (rx : List (BitVec 24)) (s u : State), u = s.toTick a → u.num (O.tdmMode n) = 1 → u.essOn = true →
    u.timeFor (samplePt (u.num (O.tdmRate n) * 1000) x) = true →
    Does (.tdmFsync n x rx a) s (fun t => ∃ l, Emission.tdmFrame n x (u.num (O.tdmFormat n)) true l ∈ t.out)) ∧
  (∀ (n : Fin 8) (s : State), s.num (O.tdmMode n) = 2 → s.num (O.tdmState n) = 1 →
    Does (.tdmSlaveLock n) s (fun t => t.num (O.tdmState n) = 2 ∧ (t.tdm n).bad = 0 ∧ Counted 0x7006 s t ∧
      ∀ k, k ≠ O.tdmState n → t.obj k = s.obj k)) ∧
  (∀ (n : Fin 8) (a : Nat) (s u : State), u = s.toTick a → u.num (O.tdmMode n) = 2 → u.num (O.tdmState n) = 2 → u.num (O.tdmSlot n) = 0xFF →
    Does (.tdmFrameError n a) s (fun t => t.num (O.tdmFrameErrors n) = (u.num (O.tdmFrameErrors n) + 1) % 2 ^ 32 ∧
      ((u.tdm n).bad < 3 → (t.tdm n).bad = (u.tdm n).bad + 1 ∧ t.num (O.tdmState n) = 2) ∧
      (3 ≤ (u.tdm n).bad → t.num (O.tdmState n) = 1 ∧ t.num (O.tdmSync n) = 0 ∧ Counted 0x7006 s t))) ∧
  (∀ (i : Fin 64) (x y : Nat) (s : State), s.num (O.asrcInput i) ≠ 0 → 3333 * y ≤ 10000 * x → x ≤ 4 * y →
    Does (.asrcLock i ⟨x, y⟩) s (fun t => t.num (O.asrcRatio i) = asrcRatioWord x y ∧ t.num (O.asrcState i) = 2 ∧
      (s.num (O.asrcState i) ≠ 2 → Counted 0x7008 s t) ∧ ∀ k, k ≠ O.asrcRatio i → k ≠ O.asrcState i → t.obj k = s.obj k)) ∧
  (∀ (i : Fin 64) (x y : Nat) (s : State), s.num (O.asrcInput i) ≠ 0 → s.num (O.asrcState i) ≠ 3 →
    (10000 * x < 3333 * y ∨ 4 * y < x → Does (.asrcLock i ⟨x, y⟩) s (fun t => t.num (O.asrcState i) = 3 ∧ Counted 0x7009 s t)) ∧
    Does (.asrcOutOfRange i ⟨x, y⟩) s (fun t => t.num (O.asrcState i) = 3 ∧ t.num (O.asrcRatio i) = asrcRatioWord x y ∧ Counted 0x7009 s t ∧
      t.num (O.asrcUnlocks i) = (if s.num (O.asrcState i) = 2 then (s.num (O.asrcUnlocks i) + 1) % 2 ^ 32 else s.num (O.asrcUnlocks i)))) ∧
  (∀ (d : Fin 544) (sid : Nat) (s : State), (s.pdest d).tr = none → (s.pdest d).held = some sid →
    Does (.portTransitionEnd d) s (fun t => t.num (portKey d) = sid ∧ (t.pdest d).held = none ∧
      (s.num (portKey d) ≠ sid → ∃ r, (t.pdest d).tr = some r ∧ r.old = s.num (portKey d) ∧ r.new = sid))) ∧
  (∀ (o p : Fin 128) (a : Nat) (r : PosTr) (s u : State), u = s.toTick a → tfind (u.out_ o).trans p.val = some r → r.kind = 2 →
    r.oldEnd = none → r.newStart = none → r.rampOld = none → r.rampNew = none →
    r.start + u.num (O.outZcTimeout o) * u.num (O.outAudioRate o) ≤ sampleAt (u.num (O.outAudioRate o) * 1000) u.tm.pt →
    Does (.zeroCrossingTimeout none o p a) s (fun t => ∃ q, tfind (t.out_ o).trans p.val = some q ∧
      q.rampOld = some (r.start + u.num (O.outZcTimeout o) * u.num (O.outAudioRate o)) ∧ q.rampNew = q.rampOld)) ∧
  (∀ (d : Fin 544) (o p : Fin 128) (a : Nat) (r : PosTr) (s u : State), u = s.toTick a → (u.pdest d).tr = some r → r.kind = 2 →
    r.oldEnd = none → r.newStart = none → r.rampOld = none → r.rampNew = none →
    r.start + (u.portTrans d).2.2 * u.portRate d ≤ sampleAt (u.portRate d * 1000) u.tm.pt →
    Does (.zeroCrossingTimeout (some d) o p a) s (fun t => ∃ q, (t.pdest d).tr = some q ∧
      q.rampOld = some (r.start + (u.portTrans d).2.2 * u.portRate d) ∧ q.rampNew = q.rampOld))

/-- R286–R288 (Table 9-8): steps of an engine's program: LOAD puts an operand in the accumulator with 8 fraction bits below it, MAC adds a
product with a Q8.12 parameter, both saturated to 48 bits, STORE writes the accumulator to D memory; after END nothing runs. -/
def Obligations.StrideSteps : Prop :=
  ∀ (b : EngBank) (ins : List Int) (ex : Tbl Int) (p : Period) (w : Nat),
    (p.ended = true → Period.step b ins ex p w = p) ∧
    (p.ended = false → fld w 63 58 = 0x01 → Period.step b ins ex p w =
      { p with r := { p.r with acc := tset intZero p.r.acc (fld w 57 56) (accSat (p.operand ins ex (fld w 53 40) * 256)) } }) ∧
    (p.ended = false → fld w 63 58 = 0x03 → tget intZero (Period.step b ins ex p w).r.acc (fld w 57 56) =
      accSat (roundDiv (tget intZero p.r.acc (fld w 57 56) * 4096 + p.operand ins ex (fld w 53 40) * b.params.getD (fld w 25 14) 0) 4096)) ∧
    (p.ended = false → fld w 63 58 = 0x06 → fld w 39 26 < 0x2000 →
      tget intZero (Period.step b ins ex p w).r.d (fld w 39 26) = accStore (tget intZero p.r.acc (fld w 57 56)) ∧
      (∀ i, i ≠ fld w 39 26 → tget intZero (Period.step b ins ex p w).r.d i = tget intZero p.r.d i)) ∧
    (p.ended = false → fld w 63 58 = 0x3F → (Period.step b ins ex p w).ended = true ∧ (Period.step b ins ex p w).r = p.r)

/-- R270, R286, R291–R293, R295, R297, R298 (tick `a` makes `s` into `u`): a running engine runs its whole program once in a period; a
swap that has come due makes the new set active and counts GENERATION; a fast-path commit is held and applied, or refused in the safe
state; a bank word in error takes the engine to state 3 and its reload back to zero state, a D word in error reads 0 and is counted; a
self-check ends with its result; meters are updated every 10 ms. -/
def Obligations.StrideEngines : Prop :=
  (∀ (r96 : Bool) (x a e : Nat) (b : EngBank) (s u : State), u = s.toTick a → u.essOn = true →
    u.timeFor (samplePt ((if r96 then 96 else 48) * 1000) x) = true → u.str.next = none → u.str.act.banks = [(e, b)] →
    u.num (O.engRate e) = (if r96 then 96 else 48) → b.prog ≠ [] → u.num (O.engState e) = 1 → b.inputs = [] →
    Does (.stridePeriod r96 x a) s (fun t =>
      t.eng e = { (b.prog.foldl (Period.step b [] u.str.ex) ⟨u.eng e, [], [], [], false⟩).r with
        count := (b.prog.foldl (Period.step b [] u.str.ex) ⟨u.eng e, [], [], [], false⟩).r.count + 1 } ∧ ∀ k, t.obj k = s.obj k)) ∧
  (∀ (a n : Nat) (set : StrSet) (engs : List Nat) (s u : State), u = s.toTick a → u.str.next = some (set, n, engs) → u.timeFor n = true →
    Does (.strideSwap a) s (fun t => t.str.act = set ∧ t.str.next = none ∧
      t.num O.graphGeneration = (u.num O.graphGeneration + 1) % 2 ^ 32 ∧ Counted 0x7801 s t)) ∧
  (∀ (w : Word) (s : State), s.winOpen 0x40F400 = true → bitOf w.toNat 31 = true → 1 ≤ fld w.toNat 8 0 → fld w.toNat 8 0 ≤ 256 →
    s.str.fast = none → 5 ≤ s.num O.startStartPhase →
    (s.flt.safe = true → Does (.strideFastCommit w) s (fun t => t.str.fast = none ∧ bitOf (t.reg rFastStatus) 29 = true ∧ Counted 0x7804 s t)) ∧
    (s.flt.safe = false → s.twinRefuses = false → Does (.strideFastCommit w) s (fun t => ∃ l x, t.str.fast = some (l, x) ∧
      l.length = fld w.toNat 8 0 ∧ x = samplePt 48000 (s.tm.pt * 48000 / (1000000000 * ptNs) + 2)))) ∧
  (∀ (a x : Nat) (l : List (Nat × Nat × Nat)) (s u : State), u = s.toTick a → u.str.fast = some (l, x) → u.str.next = none →
    u.timeFor x = true →
    Does (.strideFastApply a) s (fun t => t.str.fast = none ∧ bitOf (t.reg rFastStatus) 30 = true ∧ Counted 0x7803 s t ∧
      t.str.dropped = l.length - (l.filter (fun e => u.fastOk e)).length)) ∧
  (∀ (e : Fin 16) (bank : Fin 7) (w : BitVec 14) (a : Nat) (s u : State), u = s.toTick a → e.val < u.engines →
    (bank.val = 5 → Does (.strideUncorrectable e bank w a) s (fun t => tget intZero (t.eng e).d w.toNat = 0 ∧
      t.num (O.engCeCount e) = (u.num (O.engCeCount e) + 1) % 2 ^ 32 ∧ ∀ k, k ≠ O.engCeCount e → t.obj k = s.obj k)) ∧
    (bank.val = 6 → Does (.strideUncorrectable e bank w a) s (fun t => tget intZero (t.eng e).dly w.toNat = 0 ∧
      t.num (O.engCeCount e) = (u.num (O.engCeCount e) + 1) % 2 ^ 32)) ∧
    (bank.val < 5 → u.num (O.engState e) = 1 → Does (.strideUncorrectable e bank w a) s (fun t => t.num (O.engState e) = 3))) ∧
  (∀ (e : Fin 16) (a : Nat) (s u : State), u = s.toTick a → u.num (O.engState e) = 3 →
    Does (.engineReloadDone e a) s (fun t => t.num (O.engState e) = 1 ∧ t.eng e = EngRun.zero ∧
      t.num (O.engReloads e) = (u.num (O.engReloads e) + 1) % 2 ^ 32 ∧ Counted 0x7805 s t)) ∧
  (∀ (e : Fin 16) (pass : Bool) (a : Nat) (s u : State), u = s.toTick a → u.num (O.engState e) = 2 →
    tget zeroNat u.str.checkAt e.val + 20 * tickMs ≤ u.now →
    Does (.selfCheckDone e pass a) s (fun t => t.num (O.engState e) = 0 ∧ t.num (O.engSelfCheckResult e) = (if pass then 1 else 2) ∧
      Counted 0x7806 s t)) ∧
  (∀ (a m mode h : Nat) (s u : State), u = s.toTick a → u.str.metered + 10 * tickMs ≤ u.now → u.str.act.meters = [(m, mode, h)] →
    u.str.act.dests = [] →
    Does (.meterUpdate a) s (fun t => t.str.metered = u.now ∧ (tget meterZero t.str.meters m).win = 0 ∧
      (tget meterZero t.str.meters m).peak = levelCode (tget meterZero u.str.meters m).win ∧
      t.num (O.meterValue m) = (tget meterZero t.str.meters m).peak * 65536 + (tget meterZero t.str.meters m).hold))

/-- R331–R334, R337, R343 (tick `a` makes `s` into `u`): references. One that appears is measured (QUAL_STATE 2); a qualified one that is
lost goes to 1, is counted and raises 0x2004; the first window that passes qualifies a reference, the third that fails disqualifies it;
the wait to restore ends in qualification; a completed switch and an achieved lock give PACER_STATE 2. -/
def Obligations.PacerReferences : Prop :=
  (∀ (r : Fin 14) (a : Nat) (s u : State), u = s.toTick a → (u.ref r).present = false →
    (r.val ≤ 3 → u.num O.gmPtpRole ≠ 1 ∧ u.bytes (O.ptpMasterPort r) ≠ []) →
    (r.val = 11 ∨ r.val = 12 → u.num (O.refLane r) < 96 ∧ u.num (O.sdiLockState (u.num (O.refLane r))) = 4) →
    (r.val = 13 → u.twin.up = true) →
    Does (.referencePresent r a) s (fun t => (t.ref r).present = true ∧
      (u.num (O.refPriority r) = 0 → ∀ k, t.obj k = s.obj k) ∧
      (u.num (O.refPriority r) ≠ 0 → t.num (O.refQualState r) = 2 ∧ (t.ref r).winStart = u.now ∧
        ∀ k, k ≠ O.refQualState r → t.obj k = s.obj k))) ∧
  (∀ (r : Fin 14) (a : Nat) (s u : State), u = s.toTick a → (u.ref r).present = true → (u.qual r = 3 ∨ u.qual r = 5) →
    Does (.referenceAbsent r a) s (fun t => t.num (O.refQualState r) = 1 ∧ (t.ref r).present = false ∧
      t.num (O.refDisqualifications r) = (u.num (O.refDisqualifications r) + 1) % 2 ^ 32 ∧ Counted 0x2004 s t)) ∧
  (∀ (r : Fin 14) (f : Int) (w a : Nat) (within : Bool) (s u : State), u = s.toTick a → (u.ref r).present = true →
    u.upd.paused = false → (u.ref r).winStart + 10 * tickS ≤ u.now →
    (u.qual r = 2 → (u.ref r).everQual = false → f.natAbs ≤ (u.ref r).freqLimit * 1000 →
      (refFreqOnly r = true ∨ (w ≤ (u.ref r).phaseLimit ∧ (refTime r = false ∨ within = true))) →
      Does (.qualificationWindow r f w within a) s (fun t => t.num (O.refQualState r) = 3 ∧ t.int (O.refFreqOffset r) = f ∧
        t.num (O.refPhaseWander r) = w ∧ t.num (O.refFailWindows r) = 0 ∧ Counted 0x2002 s t)) ∧
    (u.qual r = 3 → (u.ref r).freqLimit * 1000 < f.natAbs → u.num (O.refFailWindows r) = 2 →
      Does (.qualificationWindow r f w within a) s (fun t => t.num (O.refQualState r) = 4 ∧ t.num (O.refFailWindows r) = 3 ∧
        t.num (O.refDisqualifications r) = (u.num (O.refDisqualifications r) + 1) % 2 ^ 32 ∧ Counted 0x2004 s t)) ∧
    (u.qual r = 3 → (u.ref r).freqLimit * 1000 < f.natAbs → u.num (O.refFailWindows r) < 2 →
      Does (.qualificationWindow r f w within a) s (fun t => t.num (O.refQualState r) = 3 ∧
        t.num (O.refFailWindows r) = u.num (O.refFailWindows r) + 1))) ∧
  (∀ (r : Fin 14) (a : Nat) (s u : State), u = s.toTick a → u.qual r = 5 → (u.ref r).returnAt + u.num (O.refWtr r) * tickS ≤ u.now →
    Does (.wtrExpiry r a) s (fun t => t.num (O.refQualState r) = 3 ∧ Counted 0x2002 s t)) ∧
  (∀ (a r : Nat) (s u : State), u = s.toTick a → u.pac.sel = some r → u.selectable = some r → u.qual r = 3 →
    (u.pacer = 3 → u.pac.b = 0 → Does (.switchComplete a) s (fun t => t.num O.pacerPacerState = 2 ∧ t.pac.sel = some r ∧
      Counted 0x2007 s t)) ∧
    (u.pacer = 1 → u.pac.inLock ≠ 0 → u.pac.inLock - 1 + 10 * tickS ≤ u.now →
      Does (.lockAchieved a) s (fun t => t.num O.pacerPacerState = 2 ∧ t.num O.pacerEverLocked = 1 ∧ t.num O.pacerSelected = r ∧
        Counted 0x2001 s t)))

/-- R326–R328, R341, R342, R345 (tick `a` makes `s` into `u`): the oscillators and the loop. Losing OCXO_IN moves the tick to the on-die
oscillator, and after a complete window it returns; a closed loop steers to its reference and an open one counts LOOP_SEQ; opening and
closing the loop show in LOOP_MODE, PACER_LOOP_CTRL and PACER_STATE; a DCO word steers an open loop; the watchdog closes it; a jump
override lapses. -/
def Obligations.PacerLoop : Prop :=
  (∀ (part : Int) (a : Nat) (s u : State), u = s.toTick a → u.pac.ocxo = true → u.num O.pacerTickSource = 0 →
    Does (.ocxoLoss part a) s (fun t => t.pac.ocxo = false ∧ t.num O.pacerTickSource = 1 ∧ Counted 0x200B s t ∧
      t.int O.pacerSteering = clampInt (-steerMax) steerMax (u.int O.pacerSteering + (if u.pac.ocxoKnown then u.int O.pacerOscOffset else part)))) ∧
  (∀ (a : Nat) (s u : State), u = s.toTick a → u.pac.ocxo = false →
    Does (.ocxoInReturn a) s (fun t => t.pac.ocxo = true ∧ t.pac.ocxoFrom = u.now)) ∧
  (∀ (off : Int) (a : Nat) (s u : State), u = s.toTick a → u.pac.ocxo = true → u.pac.ocxoFrom + 10 * tickS ≤ u.now →
    Does (.ocxoMeasureWindow off a) s (fun t => t.int O.pacerOscOffset = off ∧ t.pac.ocxoKnown = true ∧ t.pac.ocxoFrom = u.now ∧
      (u.num O.pacerTickSource = 1 → u.num O.loopOscSource = 0 → t.num O.pacerTickSource = 0 ∧ Counted 0x200B s t))) ∧
  (∀ (a r : Nat) (s u : State), u = s.toTick a → u.upd.paused = false → u.pac.sel = some r →
    (u.pacer = 2 → u.stepHeld r = 0 → Does (.loopUpdate [] a) s (fun t => t.int O.pacerPhaseError = roundDiv (u.ref r).phase 4 ∧
      t.int O.pacerSteering = clampInt (-steerMax) steerMax (Config.loopStep (u.num (O.refBandwidth r)) (refFreqOnly r)
        (if refFreqOnly r then (u.ref r).freq else (u.ref r).phase * 250 - u.pac.b) u.pac.integ).1 ∧
      t.tm.inc = incOf (t.int O.pacerSteering))) ∧
    (u.pacer = 5 → Does (.loopUpdate [] a) s (fun t => t.pac.loopSeq = (u.pac.loopSeq + 1) % 2 ^ 32 ∧ t.pac.loopPhase = (u.ref r).phase ∧
      t.tm.inc = u.tm.inc ∧ t.int O.pacerSteering = u.int O.pacerSteering))) ∧
  (∀ (s : State), s.winOpen 0x415020 = true →
    (s.pacer ≠ 5 → Does (.loopOpen none) s (fun t => t.num O.pacerPacerState = 5 ∧ t.num O.loopLoopMode = 1 ∧
      bitOf (t.reg rLoopCtrl) 31 = true ∧ Counted 0x200C s t)) ∧
    (s.pacer = 5 → Does (.loopClose none) s (fun t => t.num O.pacerPacerState ≠ 5 ∧ t.num O.loopLoopMode = 0 ∧
      bitOf (t.reg rLoopCtrl) 31 = false ∧ Counted 0x200C s t))) ∧
  (∀ (w : Word) (a : Nat) (s u : State), u = s.toTick a → u.winOpen 0x415024 = true → u.pacer = 5 →
    Does (.pacerLoopDco w a) s (fun t => t.int O.pacerSteering = clampInt (-steerMax) steerMax (signed 32 w.toNat) ∧
      t.tm.inc = incOf (t.int O.pacerSteering) ∧ t.pac.dcoAt = u.now)) ∧
  (∀ (a : Nat) (s u : State), u = s.toTick a → u.pacer = 5 → u.pac.dcoAt + u.num O.loopLoopWatchdog * tickMs ≤ u.now →
    Does (.loopWatchdog a) s (fun t => bitOf (t.reg rLoopCtrl) 30 = true ∧ t.num O.loopLoopMode = 0 ∧ Counted 0x200C s t)) ∧
  (∀ (a : Nat) (s u : State), u = s.toTick a → u.pac.armed ≠ 0 → u.pac.armed - 1 + 60 * tickS ≤ u.now →
    Does (.overrideExpiry a) s (fun t => t.pac.armed = 0 ∧ ∀ k, t.obj k = s.obj k))

/-- R349–R355 (tick `a` makes `s` into `u`): PTP and the Pacer's outputs. A Sync and a Delay_Resp of the master complete an exchange,
whose offset and path delay are shown each second; an Announce is remembered, and the second one from the only master makes it the master;
a master port sends Announce, Sync with Follow_Up, Delay_Resp and management messages in sequence; frame-pulse inputs are lost and return;
a clock output restarts at its aligned edge; a read of PACER_TIME_NS latches the fraction. -/
def Obligations.PtpAndPacerOutputs : Prop :=
  (∀ (i : Fin 4) (port : List Byte) (t1 t2 a : Nat) (s u : State), u = s.toTick a → u.bytes (O.ptpMasterPort i) = port → port ≠ [] →
    u.servoLane (u.num (O.ptpMac i)) = true →
    Does (.ptpSync i port t1 t2 a) s (fun t => (t.ptp i).sync = some (t1, t2) ∧ ∀ k, t.obj k = s.obj k)) ∧
  (∀ (i : Fin 4) (port : List Byte) (q : Half) (t1 t2 t3 t4 a : Nat) (s u : State), u = s.toTick a → u.bytes (O.ptpMasterPort i) = port →
    u.servoLane (u.num (O.ptpMac i)) = true → (u.ptp i).sync = some (t1, t2) → (u.ptp i).req = some (q.toNat, t3) →
    Does (.ptpDelayResp i port q t4 a) s (fun t => (t.ptp i).req = none ∧ (t.ptp i).exchanges =
      (((t2 : Int) - t1) + ((t4 : Int) - t3), roundDiv (((t2 : Int) - t1) - ((t4 : Int) - t3)) 2) :: (u.ptp i).exchanges)) ∧
  (∀ (i : Fin 4) (m : PtpAnnounce) (a : Nat) (s u : State), u = s.toTick a → u.num (O.ptpMac i) ≠ 0xFF → u.num O.gmPtpRole ≠ 1 →
    u.servoLane (u.num (O.ptpMac i)) = true →
    Does (.ptpAnnounce i m a) s (fun t => (∃ n, (t.ptp i).masters.head? = some ⟨m, n, u.now⟩) ∧
      (∀ b l, (u.ptp i).masters = [⟨b, 1, l⟩] → b.port = m.port → 0 < u.num (O.ptpAnnounceTimeout i) * logTicks m.logInterval →
        t.bytes (O.ptpMasterPort i) = m.port))) ∧
  (∀ (i : Fin 4) (a : Nat) (e : Int × Int) (s u : State), u = s.toTick a → (u.ptp i).exchanges = [e] → (u.ptp i).lastSecond + tickS ≤ u.now →
    u.upd.paused = false → u.pac.sel ≠ some i.val →
    Does (.ptpOffsetSecond i a) s (fun t => t.int (O.ptpOffset i) = roundDiv e.2 4 ∧ t.int (O.ptpMeanPathDelay i) = roundDiv (roundDiv e.1 2) 4 ∧
      (t.ptp i).exchanges = [] ∧ (t.ref i).phase = u.phaseError i e.2)) ∧
  (∀ (i : Fin 4) (a : Nat) (f : ServoTx) (s u : State), u = s.toTick a → u.upd.paused = false → u.num (O.ptpMac i) ≠ 0xFF →
    u.num O.gmPtpRole ≠ 1 → u.bytes (O.ptpMasterPort i) ≠ [] → ((u.ptp i).lastReq = 0 ∨ (u.ptp i).lastReq - 1 + logTicks (u.int (O.ptpLogDelayReq i)) ≤ u.now) →
    f = ⟨i, 1, u.num (O.ptpDomain i), u.num (O.ptpTransport i), (u.ptp i).seq, [u.num (O.ptpDelayMode i)], u.bytes (O.ptpMasterPort i)⟩ →
    u.servoReady (u.num (O.ptpMac i)) f →
    Does (.delayReqSend i a) s (fun t => (∃ q, (t.ptp i).req = some ((u.ptp i).seq, q) ∧
        (96 ≤ u.num (O.ptpMac i) → q = u.tm.pt * 4 / ptNs)) ∧ (t.ptp i).seq = ((u.ptp i).seq + 1) % 65536 ∧
      t.out = u.out ++ [.ptp (u.num (O.ptpMac i)) f.type f.domain f.transport f.seq f.fields f.data])) ∧
  (∀ (m : Fin 98) (a q : Nat) (f : ServoTx) (s u v : State), u = s.toTick a →
    (u.gmDue m 0xB (logTicks (u.int O.gmLogAnnounce)) = some (q, v) → f = ⟨4, 0xB, u.num O.gmGmDomain, u.num O.gmGmTransport, q,
        [u.clockId, u.num O.timeUtcOffset, u.num O.gmPriority1, u.clockClass, u.clockAcc, u.num O.gmPriority2, u.num O.gmTimeSource], []⟩ →
      u.servoReady m f → Does (.gmAnnounceSend m a) s (fun t =>
        t.out = u.out ++ [.ptp m f.type f.domain f.transport f.seq f.fields f.data])) ∧
    (u.gmDue m 0 (logTicks (u.int O.gmLogSync)) = some (q, v) →
      f = ⟨4, 0, u.num O.gmGmDomain, u.num O.gmGmTransport, q, [u.clockId], []⟩ → u.servoReady m f →
      Does (.gmSyncSend m a) s (fun t => Emission.ptp m f.type f.domain f.transport f.seq f.fields f.data ∈ t.out ∧
        (96 ≤ m.val → t.out = u.out ++ [.ptp m f.type f.domain f.transport f.seq f.fields f.data,
          .ptp m 8 f.domain f.transport f.seq [u.clockId, u.tm.pt * 4 / ptNs] []]))) ∧
    (u.gmDue m 0xD tickS = some (q, v) → f = ⟨4, 0xD, u.num O.gmGmDomain, u.num O.gmGmTransport, q, [u.clockId], u.bytes O.gmSmTlv⟩ →
      u.servoReady m f → Does (.gmManagementSend m a) s (fun t =>
        t.out = u.out ++ [.ptp m f.type f.domain f.transport f.seq f.fields f.data]))) ∧
  (∀ (m : Fin 98) (port : List Byte) (q : Half) (a : Nat) (f : ServoTx) (s u : State), u = s.toTick a → u.masterPort m = true →
    u.servoLane m = true →
    ((tget (fun _ => (0, 0)) u.pac.gmSec m.val).1 ≠ u.second + 1 ∨ (tget (fun _ => (0, 0)) u.pac.gmSec m.val).2 < 4096) →
    f = ⟨4, 9, u.num O.gmGmDomain, u.num O.gmGmTransport, q.toNat, [u.clockId, u.rxStampOf m], port⟩ → u.servoReady m f →
    Does (.gmDelayReq m port q a) s (fun t => t.out = u.out ++ [.ptp m f.type f.domain f.transport f.seq f.fields f.data])) ∧
  (∀ (k : Fin 8) (ph : Int) (a : Nat) (s u : State), u = s.toTick a → u.flag (O.fpEnable k) = true → u.num (O.fpSource k) ≤ 3 →
    (u.num (O.fpOutState k) = 1 → Does (.fpInputLoss k a) s (fun t => t.num (O.fpOutState k) = 2 ∧ Counted 0x200D s t ∧
      ∀ j, j ≠ O.fpOutState k → t.obj j = s.obj j)) ∧
    (u.num (O.fpOutState k) = 2 → Does (.fpInputReturn k ph a) s (fun t => t.num (O.fpOutState k) = 1 ∧ Counted 0x200D s t ∧
      tfind t.pac.fpSlew k.val = some (ph, u.now)))) ∧
  (∀ (k : Fin 4) (a p : Nat) (s u : State), u = s.toTick a → tfind u.pac.ckHeld k.val = some p →
    (p / ((if u.flag (O.ckPullDown k) then 1001000000 else 1000000000) * ptNs) + 1) *
      ((if u.flag (O.ckPullDown k) then 1001000000 else 1000000000) * ptNs) ≤ u.tm.pt + u.tm.inc →
    Does (.clockOutputRestart k a) s (fun t => tfind t.pac.ckHeld k.val = none ∧ ∀ j, t.obj j = s.obj j)) ∧
  (∀ (a : Nat) (s u : State), u = s.toTick a → u.winOpen 0x415008 = true →
    Does (.pacerTimeNsRead a) s (fun t => t.out = u.out ++ [.regRead 0x415008 (u.pt96 / 2 ^ 32)] ∧ t.pac.frac = u.pt96 % 2 ^ 32 ∧
      ∀ k, t.obj k = s.obj k))

/-- R307, R309, R311, R313 (tick `a` makes `s` into `u`): composition. A head that runs composes one frame when its window closes, which
enters its published slot as frame F + 3, and the next window opens with the live layers committed by then; a layer whose supply has been
lost for STALE_HOLD windows turns black where NO_SIGNAL_ACTION is 0, and nothing is done before that; a rebuilt flatten cache is shown and
counted. -/
def Obligations.CompositionHeads : Prop :=
  (∀ (h : Fin 8) (frame a : Nat) (un : List (Fin 512)) (s u : State), u = s.toTick a → u.headRuns h = true →
    (u.head h).building = none → (u.head h).shown.raster ≠ 0 → u.essOn = true →
    u.timeFor (gridStart ((u.head h).shown.raster % 256) (frame + 2) + u.compDelta) = true →
    Does (.compositionWindow h frame un a) s (fun t => (t.head h).frames = ((u.head h).frames + 1) % 2 ^ 32 ∧
      (t.head h).shown = { (u.head h).shown with live := (u.headSet h).live } ∧
      ∀ m, u.publishedSlot h = some m → ∃ old pt, (t.slot m).q = old ++ (List.range (fmtActiveLines (u.head h).shown.raster)).map (fun y =>
        ⟨frame + 3, rowLine (u.head h).shown.raster y, 0, pt,
         (u.takeTiles h frame un).headRow h (u.head h).shown (u.head h).shed y, [], [], []⟩))) ∧
  (∀ (l : Fin 512) (a : Nat) (s u : State), u = s.toTick a → (u.lay l).cause ≠ 0 → (u.lay l).black = false →
    tget zeroNat u.comp.place l.val ≤ 64 →
    u.num (O.headStaleHold (lyHead (u.layer l))) ≤ (u.lay l).lost → u.num (O.headNoSignalAction (lyHead (u.layer l))) = 0 →
    Does (.staleHoldExpiry l a) s (fun t => (t.lay l).black = true ∧
      t.num (O.layerStatus l) / 2 ^ 28 = (if (u.lay l).cause = 4 then 6 else 4))) ∧
  (∀ (l : Fin 512) (a : Nat) (s u : State), u = s.toTick a →
    ((u.lay l).cause = 0 ∨ (u.lay l).lost < u.num (O.headStaleHold (lyHead (u.layer l))) ∨
      u.num (O.headNoSignalAction (lyHead (u.layer l))) ≠ 0 ∨ (u.lay l).black = true) →
    Does (.staleHoldExpiry l a) s (fun t => t = u)) ∧
  (∀ (h : Fin 8) (a t0 : Nat) (set : HeadSet) (s u : State), u = s.toTick a → (u.head h).building = some (set, t0) →
    Does (.cacheRebuildDone h a) s (fun t => (t.head h).shown = { set with live := (u.headSet h).live } ∧ (t.head h).building = none ∧
      t.num (O.headRebuilds h) = (u.num (O.headRebuilds h) + 1) % 2 ^ 32 ∧ Counted 0x8004 s t))

/-- R359–R364, R366–R370 (tick `a` makes `s` into `u`): the Baton. The gate closes as the partner claims or the grant falls, and opens where this
chip claims, the partner does not and the grant is held; a claim is raised where it may be and withdrawn after 10 ms without the gate; the heartbeat confirms health and its
lapse takes HB_CODE to 0; a hold ends, a revert is asked, given up and asked again, a release happens at its instant, or is abandoned
while mirror messages are unacknowledged. -/
def Obligations.TwinBaton : Prop :=
  (∀ (a : Nat) (s u : State), u = s.toTick a → u.twin.role ≠ 0 →
    (u.twin.pclaim = false → Does (.partnerClaimChange true a) s (fun t => t.twin.pclaim = true ∧ t.twin.gate = false)) ∧
    (u.twin.pclaim = true → Does (.partnerClaimChange false a) s (fun t => t.twin.pclaim = false ∧
      t.twin.gate = (u.twin.claim && u.twin.grant))) ∧
    (u.twin.grant = true → Does (.refereeGrantChange false a) s (fun t => t.twin.grant = false ∧ t.twin.claim = false ∧
      t.twin.gate = false ∧ Counted 0xC00C s t)) ∧
    (u.twin.grant = false → Does (.refereeGrantChange true a) s (fun t => t.twin.grant = true ∧
      t.twin.gate = (u.twin.claim && !u.twin.pclaim) ∧ Counted 0xC00C s t)) ∧
    (u.mayClaim = true → u.twin.diverged = false → u.twin.gate = false → Does (.batonClaimRaise a) s (fun t => t.twin.claim = true ∧
      t.twin.claimAt = u.now ∧ t.twin.gate = true ∧ Counted 0xC006 s t)) ∧
    (u.twin.claim = true → u.twin.gate = false → u.twin.claimAt + 10 * tickMs ≤ u.now → Does (.claimTimeout a) s (fun t =>
      t.twin.claim = false ∧ t.twin.block = u.now + tickS ∧ Counted 0xC00F s t)) ∧
    (u.twin.revSent ≠ 0 → u.twin.revSent - 1 + 5 * tickMs ≤ u.now → Does (.revertAckTimeout a) s (fun t => t.twin.revSent = 0 ∧
      t.twin.retryAt = u.now + tickS ∧ Counted 0xC00A s t)) ∧
    (u.twinState = 7 → u.twin.relT ≤ u.tm.pt → Does (.releaseInstant a) s (fun t => t.twin.claim = false ∧ t.twin.gate = false ∧
      t.twin.holdOff = u.now + 10 * tickMs ∧ t.twin.relT = 0)) ∧
    (u.twinState = 7 → u.twin.relT ≤ u.tm.pt + 1000000 * ptNs → (∃ m, m ∈ u.twin.unacked ∧ 2 ≤ m.type ∧ m.type ≤ 5) →
      Does (.releaseCheck a) s (fun t => t.twin.relT = 0 ∧ Counted 0xC00A s t)) ∧
    (u.twinState = 7 → (∀ m, m ∈ u.twin.unacked → m.type < 2 ∨ 5 < m.type) → Does (.releaseCheck a) s (fun t => t = u))) ∧
  (∀ (c : Bool) (a : Nat) (s u : State), u = s.toTick a → (u.twin.pulseAt = 0 ∨ u.twin.pulseAt - 1 + 999 * tickUs ≤ u.now) →
    Does (.heartbeatPulse c a) s (fun t => t.twin.pulseAt = u.now + 1 ∧
      (c = true → u.num O.pwrChipState = 0 → t.twin.health = true ∧ t.twin.healthAt = u.now) ∧
      (u.started = true → t.num O.twinHbCode ≠ 0 → Emission.heartbeat (hbWidth (t.num O.twinHbCode)) ∈ t.out))) ∧
  (∀ (a : Nat) (s u : State), u = s.toTick a → u.twin.health = true → u.twin.healthAt + 2 * tickMs ≤ u.now →
    Does (.healthConfirmLapse a) s (fun t => t.twin.health = false ∧ t.num O.twinHbCode = 0)) ∧
  (∀ (a : Nat) (s u : State), u = s.toTick a → u.twin.sdiHold ≠ 0 → u.twin.sdiHold - 1 + 100 * tickMs ≤ u.now →
    Does (.handoverHoldLimit a) s (fun t => t.twin.sdiHold = 0 ∧ ∀ k, t.obj k = s.obj k)) ∧
  (∀ (a : Nat) (s v : State), v = (s.toTick a).twinCheck → v.revertOver = true → v.twin.up = true →
    (v.twin.revSent = 0 → v.twin.retryAt = 0 → v.twin.relT = 0 → Does (.revertWtrExpiry a) s (fun t => t.twin.revSent = v.now + 1 ∧
      t.twin.tx = v.twin.tx + 1)) ∧
    (v.twin.retryAt ≠ 0 → v.twin.retryAt ≤ v.now → Does (.revertRetry a) s (fun t => t.twin.revSent = v.now + 1 ∧ t.twin.retryAt = 0 ∧
      t.twin.tx = v.twin.tx + 1)))

/-- R371–R373 (tick `a` makes `s` into `u`): the twin link. STATUS is sent and heard, and the tenth heard in a row each way brings the
link up; an acknowledgement takes messages off the list; one unacknowledged for 50 µs is sent again, after 8 times the link is down; so it
is without STATUS for 1 ms or without block lock. -/
def Obligations.TwinLink : Prop :=
  (∀ (a : Nat) (s u : State), u = s.toTick a → u.twin.role ≠ 0 → u.num O.pwrChipState = 0 →
    (u.twin.sentAt = 0 ∨ u.twin.sentAt - 1 + 100 * tickUs ≤ u.now) →
    Does (.statusSend a) s (fun t => t.twin.stTx = u.twin.stTx + 1 ∧ t.twin.sentAt = u.now + 1 ∧ (∀ k, t.obj k = s.obj k) ∧
      ∃ b, t.out = u.out ++ [.twin (twinMsg 1 0 (u.twin.stTx + 1) u.twin.rx (u.num O.twinSyncGeneration) b)] ∧
        b.take 2 = [BitVec.ofNat 8 u.twinState, BitVec.ofNat 8 u.hb])) ∧
  (∀ (h : TlHdr) (b : TlStatusBody) (a : Nat) (s u : State), u = s.toTick a → u.twin.role ≠ 0 → u.num O.pwrChipState = 0 →
    (u.twin.up = false → u.twin.hear = 0 ∨ u.twin.stRx + 1 = h.seq → u.twin.hear + 1 < 10 → Does (.tlStatus h b a) s (fun t =>
      t.twin.stRx = h.seq ∧ t.twin.stAt = u.now ∧ t.twin.hear = u.twin.hear + 1 ∧ t.twin.up = false)) ∧
    (u.twin.up = false → u.twin.stRx + 1 = h.seq → 9 ≤ u.twin.hear → 10 ≤ b.heardSeq → Does (.tlStatus h b a) s (fun t =>
      t.twin.up = true ∧ t.twin.stRx = h.seq ∧ Counted 0xC002 s t)) ∧
    (u.twin.up = true → u.dict.waits = [] → Does (.tlStatus h b a) s (fun t => t.twin.stAt = u.now ∧
      t.twin.partner = some ⟨b.state, b.hb, b.grant, b.ready, b.holding, b.safe, h.generation⟩))) ∧
  (∀ (h : TlHdr) (s : State), s.twin.role ≠ 0 → s.twin.up = true → s.dict.waits = [] →
    Does (.tlAck h) s (fun t => ∀ m, m ∈ t.twin.unacked → h.ack < m.seq)) ∧
  (∀ (q a : Nat) (m : TlMsg) (s u : State), u = s.toTick a → u.twin.unacked.find? (fun x => x.seq == q) = some m →
    m.last + 50 * tickUs ≤ u.now →
    (1 ≤ m.sends → m.sends < 8 → Does (.tlRetransmit q a) s (fun t =>
      t.out = u.out ++ [.twin (twinMsg m.type 1 q u.twin.rx (u.num O.twinSyncGeneration) m.body)] ∧
      t.num 0xC00302 = (u.num 0xC00302 + 1) % 2 ^ 32 ∧ ∀ k, k ≠ 0xC00302 → t.obj k = s.obj k)) ∧
    (8 ≤ m.sends → u.twin.up = true → u.dict.waits = [] → Does (.tlRetransmit q a) s (fun t => t.twin.up = false ∧ t.num 0xC00301 = 0 ∧
      Counted 0xC003 s t))) ∧
  (∀ (a : Nat) (s u : State), u = s.toTick a → u.dict.waits = [] →
    (u.twin.up = true → u.twin.stAt + tickMs ≤ u.now → Does (.tlStatusTimeout a) s (fun t => t.twin.up = false ∧ t.num 0xC00301 = 0 ∧
      Counted 0xC003 s t)) ∧
    (u.twin.up = true → Does (.tlPcsLoss a) s (fun t => t.twin.up = false ∧ t.twin.partner = none ∧ Counted 0xC003 s t)) ∧
    (u.twin.up = false → Does (.tlPcsLoss a) s (fun t => t.twin.hear = 0 ∧ ∀ k, t.obj k = s.obj k)))

/-- R368, R369, R373–R377 (tick `a` makes `s` into `u`): a numbered message of the partner, next in order, is acknowledged with its number
and has its effect: a take waits with ORIGIN 5, phase 1 of a commit is kept, a journal entry takes its place, fast-path entries wait for
their sample, a revert is agreed or confirmed, a handover request is received, a join is answered with a snapshot, whose segments gather,
and a join completes. -/
def Obligations.TwinMessages : Prop :=
  (∀ (h : TlHdr) (a : Nat) (s u : State), u = s.toTick a → u.twin.role ≠ 0 → u.twin.up = true → u.twin.unacked = [] → h.seq = u.twin.rx + 1 →
    u.upd.paused = false → u.twin.joining = false → u.twin.diverged = false →
    (∀ (ta k : Nat) (b : List Byte), u.recNeeds (decodeTake false b) (u.recChans (decodeTake false b)) = [] →
      (decodeTake false b).batch ≠ 0 → Does (.tlTake h ta [(k, b)] a) s (fun t => t.tookMessage h ∧
        t.num O.twinSyncGeneration = h.generation ∧ ∃ x, x ∈ t.ess.takes.batches ∧ x.origin = 5 ∧ x.id = (decodeTake false b).batch ∧
          x.ta = ta * 2 ^ 32 ∧ x.recs.map PendRec.rec_ = [decodeTake false b])) ∧
    (∀ (area : Half) (vs : List (Nat × Nat × Nat × List Byte)) (c : Half) (is : List Nat), Does (.tlCommit h area 1 vs c is a) s (fun t =>
      t.tookMessage h ∧ t.num O.twinSyncGeneration = h.generation ∧
      (⟨areaOf area.toNat, vs.map (fun v => (objKey v.1 v.2.1, v.2.2.2))⟩ : MirrorCommit) ∈ t.twin.commits)) ∧
    (∀ (b : List Byte), u.twin.expected = [] → Does (.tlJournal h [b] a) s (fun t => t.tookMessage h ∧ t.num O.journalJournalSeq = (ofBe (b.take 4) + 1) % 2 ^ 32 ∧
      t.ess.takes.jseq = (ofBe (b.take 4) + 1) % 2 ^ 32)) ∧
    (∀ (x : Nat) (es : List (List Byte)), Does (.tlFast h x es a) s (fun t => t.tookMessage h ∧ ∃ l, t.str.fast = some (l, x * 2 ^ 32) ∧
      l.length = es.length)) ∧
    (∀ (x : Nat), u.twin.role = 2 → u.twinState = 6 → Does (.tlRevert h x a) s (fun t => t.tookMessage h ∧ t.twinState = 7 ∧
      t.twin.relT = x * 2 ^ 32 ∧ Counted 0xC009 s t)) ∧
    (∀ (x : Nat), u.twin.revSent ≠ 0 → Does (.tlRevertAck h x a) s (fun t => t.tookMessage h ∧ t.twin.revSent = 0 ∧
      t.twin.relT = x * 2 ^ 32 ∧ Counted 0xC009 s t)) ∧
    (∀ (x : Nat), Does (.tlHandoverRequest h x a) s (fun t => t.tookMessage h)) ∧
    (∀ (g : Word), u.twin.gate = true → g.toNat ≠ u.num O.twinSyncGeneration → Does (.tlJoin h g a) s (fun t => t.tookMessage h ∧
      u.twin.tx < t.twin.tx))) ∧
  (∀ (h : TlHdr) (vs : List (Nat × Nat × List Byte)) (es : List (List Byte)) (n a : Nat) (fin : Bool) (s u : State), u = s.toTick a →
    u.twin.role ≠ 0 → u.twin.up = true → u.twin.unacked = [] → h.seq = u.twin.rx + 1 → u.twin.joining = true → u.twin.diverged = false →
    Does (.tlSnapshot h vs es n fin a) s (fun t => t.tookMessage h ∧ t.twin.snap = u.twin.snap ++ vs.map (fun v => (objKey v.1 v.2.1, v.2.2)) ∧
      t.twin.snapJnl = u.twin.snapJnl ++ es ∧ t.twin.joinBytes = u.twin.joinBytes + n ∧ t.twin.snapDone = fin)) ∧
  (∀ (a : Nat) (p : Partner) (s u : State), u = s.toTick a → u.twin.role ≠ 0 → u.twin.joining = true → u.twinState = 2 → u.twin.snapDone = false →
    u.twin.queue = [] → u.twin.diverged = false → u.twin.partner = some p → p.gen = u.num O.twinSyncGeneration →
    Does (.joinComplete a) s (fun t => t.twin.joining = false ∧ t.twin.current = true ∧
      t.num O.twinResyncs = (u.num O.twinResyncs + 1) % 2 ^ 32 ∧ Counted 0xC004 s t))

/-- R434–R437, Tables 15-2 to 15-4 (tick `a` makes `s` into `u`): Bench. A step of the entry that is over goes on to the next where no
enabled wake source is active, and is abandoned at its abort point where one is; the last step ends in Bench. A wake source that is
enabled begins waking in Bench and is remembered during entry; so do the host's WAKE and the wake timer. The steps of bring-up run in
order: the last brings the chip to Operating, a rail that fails leaves it in Bench. -/
def Obligations.BenchAndWaking : Prop :=
  (∀ (w : BitVec 9) (a : Nat) (s u : State), u = s.toTick a → u.chip = 1 → u.entryDue = true →
    (u.pwr.entry = 2 → (∀ b, b < 9 → bitOf ((w.toNat ||| u.pwr.latch) &&& u.num O.pwrWakeMask) b = false) →
      Does (.benchEntryStep w a) s (fun t => t.pwr = { u.pwr with entry := 3, entryAt := u.now } ∧ ∀ k, t.obj k = s.obj k)) ∧
    (∀ b, b < 9 → u.pwr.entry = 2 → u.pwr.noAbort = false → bitOf ((w.toNat ||| u.pwr.latch) &&& u.num O.pwrWakeMask) b = true →
      Does (.benchEntryStep w a) s (fun t => t.num O.pwrLastAbort = 2 ∧ t.pwr.entry = 0 ∧ t.pwr.bring = u.stepsFrom (abortTable 2) ∧
        t.num O.pwrFalseStarts = (u.num O.pwrFalseStarts + 1) % 2 ^ 32 ∧ Counted 0x9003 s t)) ∧
    ((u.pwr.entry = 1 ∨ u.pwr.entry = 3) → (∀ b, b < 9 → bitOf ((w.toNat ||| u.pwr.latch) &&& u.num O.pwrWakeMask) b = false) →
      Does (.benchEntryStep w a) s (fun t => t.chip = 1 ∧ t.pwr.entry = u.pwr.entry + 1 ∧ t.pwr.entryAt = u.now)) ∧
    (u.pwr.entry = 4 → (∀ b, b < 9 → bitOf ((w.toNat ||| u.pwr.latch) &&& u.num O.pwrWakeMask) b = false) →
      Does (.benchEntryStep w a) s (fun t => t.chip = 2 ∧ t.pwr.entry = 0 ∧ t.pwr.benchAt = u.now ∧ Counted 0x9001 s t))) ∧
  (∀ (src : Fin 9) (a : Nat) (s u : State), u = s.toTick a →
    (2 ≤ src.val → src.val ≤ 5 → bitOf (u.num (O.monFunction (src.val - 2))) 1 = true) →
    (u.chip = 2 → bitOf (u.num O.pwrWakeMask) src.val = true → u.pwr.tripped = false →
      Does (.wake src a) s (fun t => t.chip = 3 ∧ t.num O.pwrLastWake = src.val ∧ t.pwr.latch = 0 ∧
        t.pwr.bring = u.stepsFrom bringTable ∧ Counted 0x9004 s t ∧ Counted 0x9001 s t)) ∧
    (u.chip = 1 → Does (.wake src a) s (fun t => bitOf t.pwr.latch src.val = true ∧ (∀ k, t.obj k = s.obj k) ∧ t.pwr.entry = s.pwr.entry)) ∧
    ((u.chip = 0 ∨ (u.chip = 2 ∧ bitOf (u.num O.pwrWakeMask) src.val = false)) → Does (.wake src a) s (fun t => t = u))) ∧
  (∀ (w : Word) (s : State), s.winOpen 0x417008 = true → bitOf w.toNat 31 = true → s.chip = 2 → bitOf (s.num O.pwrWakeMask) 0 = true →
    s.pwr.tripped = false → Does (.hostWake w) s (fun t => t.chip = 3 ∧ t.num O.pwrLastWake = 0 ∧ Counted 0x9004 s t)) ∧
  (∀ (a : Nat) (s u : State), u = s.toTick a → u.chip = 2 → u.num O.pwrWakeTimer ≠ 0 →
    u.pwr.benchAt + u.num O.pwrWakeTimer * tickS ≤ u.now → bitOf (u.num O.pwrWakeMask) 7 = true → u.pwr.tripped = false →
    Does (.wakeTimerExpiry a) s (fun t => t.chip = 3 ∧ t.num O.pwrLastWake = 7 ∧ Counted 0x9004 s t)) ∧
  (∀ (rail : Bool) (k t0 : Nat) (l : List (Nat × Nat)) (a : Nat) (s u : State), u = s.toTick a → u.pwr.bring = (k, t0) :: l → t0 ≤ u.now →
    (k = 1 → Does (.bringUpStep rail a) s (fun t => t.pwr = { u.pwr with bring := l } ∧ ∀ j, t.obj j = s.obj j)) ∧
    (k = 2 → rail = false → u.chip = 3 → u.pwr.benchAt ≠ 0 → Does (.bringUpStep rail a) s (fun t => t.chip = 2 ∧ t.pwr.bring = [] ∧
      t.pwr.benchAt = u.now ∧ Counted 0x9004 s t)) ∧
    (k = 10 → u.chip = 3 → Does (.bringUpStep rail a) s (fun t => t.chip = 0 ∧ t.pwr.stopped = false ∧ t.pwr.bring = l ∧
      Counted 0x9001 s t)))

/-- R438–R441 (tick `a` makes `s` into `u`): slices and operating points. A sample applies a committed LANE_POWER and a lane in Jog counts
its hits; a lane woken from Jog returns; raising the point, the frequency follows the voltage, lowering, the voltage follows; FSEL and
VSEL act, are held with 0x9010, or are refused where the pool does not fit. -/
def Obligations.SlicesAndPoints : Prop :=
  (∀ (p : Fin 96) (h a : Nat) (s u : State), u = s.toTick a →
    (u.chip = 0 → u.num (O.jogLanePower p) ≠ u.num (O.jogLanePowerState p) →
      ¬(u.num (O.jogLanePower p) = 1 ∧ u.num (O.jogLanePowerState p) = 3) → h < 10 →
      Does (.jogSample p h a) s (fun t => t.num (O.jogLanePowerState p) = u.num (O.jogLanePower p))) ∧
    (u.num (O.jogLanePower p) = u.num (O.jogLanePowerState p) → u.lanePower p = 1 → u.laneOn p = true → 10 ≤ h →
      Does (.jogSample p h a) s (fun t => t.num (O.jogJogHits p) = (u.num (O.jogJogHits p) + 1) % 2 ^ 32 ∧
        (u.chip = 0 → u.flag (O.jogJogAuto p) = true → t.num (O.jogLanePowerState p) = 3) ∧
        (u.chip = 2 → u.flag (O.jogJogWake p) = true → bitOf (u.num O.pwrWakeMask) 6 = true → u.pwr.tripped = false → t.chip = 3)))) ∧
  (∀ (p : Fin 96) (a : Nat) (s u : State), u = s.toTick a → u.lanePower p = 3 → u.num (O.jogJogReturn p) ≠ 0 →
    tget zeroNat u.pwr.quiet p.val ≠ 0 → tget zeroNat u.pwr.quiet p.val - 1 + u.num (O.jogJogReturn p) * tickMs ≤ u.now →
    u.laneStreamsUsed p = false →
    Does (.jogReturnExpiry p a) s (fun t => t.num (O.jogLanePowerState p) = 1 ∧ Counted 0x9006 s t)) ∧
  (∀ (c : PointChange) (a : Nat) (s u : State), u = s.toTick a → u.pwr.point = some c →
    (c.freqDone = true → c.at_ + 10 * tickUs ≤ u.now → Does (.procPointStep true a) s (fun t =>
      t.pwr = { u.pwr with vact := u.volt c.target, point := none } ∧ ∀ k, t.obj k = s.obj k)) ∧
    (c.freqDone = false → c.at_ + 200 * tickUs ≤ u.now → Does (.procPointStep true a) s (fun t => t.pwr.fact = c.target ∧
      t.pwr.point = none ∧ (t.num O.procProcPointActive = c.target) ∧ (u.pwr.fact ≠ c.target → Counted 0x9007 s t))) ∧
    (c.freqDone = false → Does (.procPointStep false a) s (fun t => t = u))) ∧
  (∀ (v : Fin 4) (s : State), s.winOpen rPwrProc = true → s.flag O.procManualDvfs = true → v.val ≤ 2 →
    (s.poolFits v = false → Does (.fselWrite v) s (fun t => bitOf (t.reg rPwrProc) 30 = true ∧ t.pwr = s.pwr ∧ ∀ k, t.obj k = s.obj k)) ∧
    (s.poolFits v = true → v.val ≤ s.pwr.vact → s.pwr.heldV = none → Does (.fselWrite v) s (fun t => t.pwr.fact = v.val ∧
      t.num O.procProcPointActive = v.val ∧ t.pwr.vact = s.pwr.vact)) ∧
    (s.poolFits v = true → s.pwr.vact < v.val → Does (.fselWrite v) s (fun t => t.pwr = { s.pwr with heldF := some v.val } ∧
      Counted 0x9010 s t ∧ ∀ k, t.obj k = s.obj k)) ∧
    (s.pwr.fact ≤ v.val → s.pwr.heldF = none → Does (.vselWrite v) s (fun t => t.pwr = { s.pwr with vact := s.volt v, heldV := none } ∧
      ∀ k, t.obj k = s.obj k)) ∧
    (v.val < s.pwr.fact → Does (.vselWrite v) s (fun t => t.pwr = { s.pwr with heldV := some v.val } ∧ Counted 0x9010 s t ∧
      ∀ k, t.obj k = s.obj k)))

/-- R442, R443, R445, R447, R449 (tick `a` makes `s` into `u`): monitors, rails, the ledger's second and the sensors. A monitor's change
is told with 0x900C where FUNCTION says so, and SUPPLY_DERATED follows; a rail's reading is stored, the third missed read told with
0x900F; every second MEASURED is brought up to date, exceeding the budget is told with 0x900A and sheds; every read of the sensors stores
their temperatures, and 135 °C trips the chip into entry without abort points. -/
def Obligations.EnergyAndHeat : Prop :=
  (∀ (m : Fin 4) (b : Bool) (a : Nat) (s u : State), u = s.toTick a → u.flag (O.monBeyond m) ≠ b →
    Does (.monitorChange m b a) s (fun t => t.flag (O.monBeyond m) = b ∧ t.flag O.pwrSupplyDerated = t.deratedNow ∧
      (bitOf (u.num (O.monFunction m)) 0 = true → Counted 0x900C s t))) ∧
  (∀ (l : List (Nat × Nat × Nat × Nat × Nat)) (a : Nat) (s u : State), u = s.toTick a → u.pwr.pmAt + 10 * tickMs ≤ u.now →
    Does (.pmbusRead l a) s (fun t => t.pwr.pmAt = u.now ∧ t.pwr.pmCount = u.pwr.pmCount + 1 ∧ t.flag O.pwrSupplyDerated = t.deratedNow ∧
      (∀ k r, k ∈ u.rails → l.find? (fun q => q.1 == k) = some r → t.num (O.railVout k) = r.2.1 ∧ t.num (O.railIout k) = r.2.2.1 ∧
        t.num (O.railPower k) = r.2.2.2.1 ∧ t.num (O.railStatusWord k) = r.2.2.2.2 ∧ tget zeroNat t.pwr.miss k = 0) ∧
      (∀ k, k ∈ u.rails → l.find? (fun q => q.1 == k) = none → tget zeroNat t.pwr.miss k = min 3 (tget zeroNat u.pwr.miss k + 1)) ∧
      (∀ k, u.rails.filter (fun j => (l.find? (fun q => q.1 == j)).isNone && tget zeroNat u.pwr.miss j == 2) = [k] → Counted 0x900F s t) ∧
      ((∀ k ∈ u.rails, (l.find? (fun q => q.1 == k)).isSome = true) → t.pwr.pmSum = u.pwr.pmSum +
        (u.rails.map (fun k => ((l.find? (fun q => q.1 == k)).map (fun r => r.2.2.2.1)).getD 0)).sum))) ∧
  (∀ (m a : Nat) (s u : State), u = s.toTick a → u.pwr.secAt + tickS ≤ u.now → u.num O.ledMeasureSource = 1 →
    Does (.ledgerSecond m a) s (fun t => t.num O.ledMeasured = m ∧ t.pwr.secAt = u.now ∧ t.pwr.pmSum = 0 ∧ t.pwr.pmCount = 0 ∧
      t.pwr.means.length ≤ 10 ∧ (u.effBudget < m → u.pwr.above = false → Counted 0x900A s t) ∧
      (∀ k i, u.effBudget < m → u.nextShed = some (k, i) → t.pwr.shed = (k, i) :: u.pwr.shed ∧ Counted 0x9008 s t))) ∧
  (∀ (l : List Int) (a : Nat) (s u : State), u = s.toTick a → u.pwr.thermAt + tickMs ≤ u.now →
    Does (.thermalRead l a) s (fun t => (∀ k, k < 18 → t.int (O.sensTemp k) = l.getD k 0) ∧ t.pwr.thermAt = u.now ∧
      t.int O.thermThermHottest = (hottest (l.take 16)).2 ∧
      (135 * 65536 ≤ (hottest (l.take 16)).2 → u.num O.thermThermState < 4 → t.num O.thermThermState = 4 ∧ Counted 0x900E s t ∧
        (u.chip ≠ 2 → t.chip = 1 ∧ t.pwr.entry = 2 ∧ t.pwr.noAbort = true))))

end Statements
end

