-- ==== Sys2Proof/Laws/Tbl.lean ====
section
/-! SUPPORT. Sparse tables: reading after writing, and that every write keeps the canonical form. -/

namespace Sys2Proof.Machine

variable {α : Type}

@[simp] theorem tfind_tput_same (t : Tbl α) (k : Nat) (v : α) : tfind (tput t k v) k = some v := by
  induction t with
  | nil => simp [tput, tfind]
  | cons p t ih =>
    obtain ⟨j, w⟩ := p
    simp only [tput]
    split
    · simp [tfind]
    · split
      · simp [tfind]
      · have : j ≠ k := by omega
        simp [tfind, this, ih]

theorem tfind_tput_ne (t : Tbl α) {k j : Nat} (v : α) (h : j ≠ k) : tfind (tput t k v) j = tfind t j := by
  induction t with
  | nil => simp [tput, tfind, Ne.symm h]
  | cons p t ih =>
    obtain ⟨i, w⟩ := p
    simp only [tput]
    split
    · simp [tfind, Ne.symm h]
    · split
      · subst_vars; simp [tfind, Ne.symm h]
      · simp [tfind, ih]

@[simp] theorem tfind_tdel_same (t : Tbl α) (k : Nat) : tfind (tdel t k) k = none := by
  induction t with
  | nil => rfl
  | cons p t ih =>
    obtain ⟨j, w⟩ := p
    simp only [tdel]
    split
    · exact ih
    · simp [tfind, *]

theorem tfind_tdel_ne (t : Tbl α) {k j : Nat} (h : j ≠ k) : tfind (tdel t k) j = tfind t j := by
  induction t with
  | nil => rfl
  | cons p t ih =>
    obtain ⟨i, w⟩ := p
    simp only [tdel]
    split
    · have hi : i ≠ j := by omega
      simp [tfind, hi, ih]
    · simp [tfind, ih]

variable [DecidableEq α]

@[simp] theorem tget_tset_same (d : Nat → α) (t : Tbl α) (k : Nat) (v : α) : tget d (tset d t k v) k = v := by
  by_cases hv : v = d k <;> simp [tset, tget, hv]

theorem tget_tset_ne (d : Nat → α) (t : Tbl α) {k j : Nat} (v : α) (h : j ≠ k) : tget d (tset d t k v) j = tget d t j := by
  by_cases hv : v = d k
  · simp only [tset, tget, hv, if_true, tfind_tdel_ne t h]
  · simp only [tset, tget, hv, if_false, tfind_tput_ne t v h]

/-- Reading one key after writing another or the same. -/
theorem tget_tset (d : Nat → α) (t : Tbl α) (k j : Nat) (v : α) :
    tget d (tset d t k v) j = if j = k then v else tget d t j := by
  split
  · subst_vars; simp
  · rw [tget_tset_ne d t v ‹_›]

theorem twfFrom_mono (d : Nat → α) : ∀ (t : Tbl α) {a b : Nat}, a ≤ b → twfFrom d b t = true → twfFrom d a t = true
  | [], _, _, _, _ => rfl
  | (j, v) :: t, a, b, h, w => by
    simp only [twfFrom, Bool.and_eq_true, decide_eq_true_eq] at *
    exact ⟨⟨by omega, w.1.2⟩, w.2⟩

theorem twfFrom_tput (d : Nat → α) (k : Nat) (v : α) (hv : v ≠ d k) :
    ∀ (t : Tbl α) (a : Nat), a ≤ k → twfFrom d a t = true → twfFrom d a (tput t k v) = true
  | [], a, h, _ => by simp [tput, twfFrom, h, hv]
  | (j, w) :: t, a, h, hw => by
    simp only [twfFrom, Bool.and_eq_true, decide_eq_true_eq] at hw
    simp only [tput]
    split
    · simp only [twfFrom, Bool.and_eq_true, decide_eq_true_eq]
      exact ⟨⟨h, hv⟩, ⟨by omega, hw.1.2⟩, hw.2⟩
    · split
      · subst_vars
        simp only [twfFrom, Bool.and_eq_true, decide_eq_true_eq]
        exact ⟨⟨h, hv⟩, hw.2⟩
      · simp only [twfFrom, Bool.and_eq_true, decide_eq_true_eq]
        exact ⟨hw.1, twfFrom_tput d k v hv t (j + 1) (by omega) hw.2⟩

theorem twfFrom_tdel (d : Nat → α) (k : Nat) :
    ∀ (t : Tbl α) (a : Nat), twfFrom d a t = true → twfFrom d a (tdel t k) = true
  | [], _, _ => rfl
  | (j, w) :: t, a, hw => by
    simp only [twfFrom, Bool.and_eq_true, decide_eq_true_eq] at hw
    simp only [tdel]
    split
    · exact twfFrom_mono d _ (by omega) (twfFrom_tdel d k t (j + 1) hw.2)
    · simp only [twfFrom, Bool.and_eq_true, decide_eq_true_eq]
      exact ⟨hw.1, twfFrom_tdel d k t (j + 1) hw.2⟩

/-- A write keeps the canonical form. -/
theorem twf_tset (d : Nat → α) (t : Tbl α) (k : Nat) (v : α) (h : twf d t = true) : twf d (tset d t k v) = true := by
  unfold tset twf at *
  split
  · exact twfFrom_tdel d k t 0 h
  · exact twfFrom_tput d k v ‹_› t 0 (by omega) h

/-- Leaving entries out keeps the canonical form. -/
theorem twfFrom_filter (d : Nat → α) (f : Nat × α → Bool) :
    ∀ (t : Tbl α) (a : Nat), twfFrom d a t = true → twfFrom d a (t.filter f) = true
  | [], _, _ => rfl
  | (j, w) :: t, a, hw => by
    simp only [twfFrom, Bool.and_eq_true, decide_eq_true_eq] at hw
    simp only [List.filter]
    split
    · simp only [twfFrom, Bool.and_eq_true, decide_eq_true_eq]
      exact ⟨hw.1, twfFrom_filter d f t (j + 1) hw.2⟩
    · exact twfFrom_mono d _ (by omega) (twfFrom_filter d f t (j + 1) hw.2)

end Sys2Proof.Machine
end

