-- ==== Sys2Proof/Laws/Keeps.lean ====
section
/-! SUPPORT. What an operation of the block touches and what it never breaks: the queue, the fuses, the canonical form of the stored
tables, and every part of the state outside a mask. -/

namespace Sys2Proof.Machine

/-- Every bit of mask `a` is in mask `b`. -/
def maskIn (a b : Nat) : Bool := a &&& b == a

theorem bit_of_maskIn {a b k : Nat} (h : maskIn a b = true) (w : a.testBit k = true) : b.testBit k = true := by
  simp only [maskIn, beq_iff_eq] at h
  rw [← h, Nat.testBit_and, Bool.and_eq_true] at w
  exact w.2

theorem maskIn_trans {a b c : Nat} (h : maskIn a b = true) (w : maskIn b c = true) : maskIn a c = true := by
  simp only [maskIn, beq_iff_eq] at *
  rw [← h, Nat.and_assoc, w]

/-- From `s` to `t` the queue and the fuses stay, the stored tables stay canonical, and every part of the state whose bit is not in the
mask stays. -/
structure Keeps (m : Nat) (s t : State) : Prop where
  pending : t.pending = s.pending
  fuses : t.fuses = s.fuses
  canonical : s.canonical = true → t.canonical = true
  same : ∀ p : Part, m.testBit p.bit = false → p.Same s t

/-- An outcome is a next state that keeps what it must. -/
def KeepsR (m : Nat) (s : State) : Res → Prop
  | .next t => Keeps m s t
  | _ => False

theorem Part.same_refl (p : Part) (s : State) : p.Same s s := by cases p <;> simp [Part.Same]

theorem Part.same_trans {p : Part} {s t u : State} (a : p.Same s t) (b : p.Same t u) : p.Same s u := by
  cases p <;> simp only [Part.Same] at * <;> simp [a, b]

theorem Keeps.refl (m : Nat) (s : State) : Keeps m s s := ⟨rfl, rfl, id, fun p _ => p.same_refl s⟩

theorem Keeps.trans {m : Nat} {s t u : State} (a : Keeps m s t) (b : Keeps m t u) : Keeps m s u :=
  ⟨b.pending.trans a.pending, b.fuses.trans a.fuses, fun h => b.canonical (a.canonical h),
   fun p h => Part.same_trans (a.same p h) (b.same p h)⟩

/-- What keeps more keeps less. -/
theorem Keeps.mono {a b : Nat} {s t : State} (w : maskIn a b = true) (h : Keeps a s t) : Keeps b s t :=
  ⟨h.pending, h.fuses, h.canonical, fun p e => h.same p (by
    cases x : a.testBit p.bit with
    | false => rfl
    | true => rw [bit_of_maskIn w x] at e; exact e)⟩

/-- A piece with a smaller mask, after one with a greater. -/
theorem Keeps.after {a b : Nat} {s t u : State} (w : maskIn a b = true) (h : Keeps b s t) (k : Keeps a t u) : Keeps b s u :=
  h.trans (k.mono w)

theorem KeepsR.after {a b : Nat} {s t : State} {r : Res} (w : maskIn a b = true) (h : Keeps b s t) (k : KeepsR a t r) : KeepsR b s r := by
  cases r with
  | next u => exact Keeps.after w h k
  | fault f => exact k.elim
  | refused f => exact k.elim

theorem keepsR_next {m : Nat} {s t : State} (h : Keeps m s t) : KeepsR m s (.next t) := h

theorem keeps_ite {m : Nat} {s0 x y : State} {c : Prop} [Decidable c] (hx : Keeps m s0 x) (hy : Keeps m s0 y) :
    Keeps m s0 (if c then x else y) := by
  split <;> assumption

theorem keeps_ite2 {m : Nat} {s0 : State} {α : Type} {x y : α × State} {c : Prop} [Decidable c] (hx : Keeps m s0 x.2)
    (hy : Keeps m s0 y.2) : Keeps m s0 (if c then x else y).2 := by
  split <;> assumption

theorem keepsR_ite {m : Nat} {s0 : State} {x y : Res} {c : Prop} [Decidable c] (hx : KeepsR m s0 x) (hy : KeepsR m s0 y) :
    KeepsR m s0 (if c then x else y) := by
  split <;> assumption

/-- The fields of an updated state beside those of the old one: each is in the mask or as it was. -/
structure Fields (m : Nat) (s : State) (a1 : List Emission) (a2 : Nat) (a3 : TimeSt) (a4 : DictSt) (a5 : HifSt) (a6 : FltSt) (a7 : RecSt)
    (a8 : EssSt) (a9 : AudSt) (a10 : StrSt) (a11 : PacSt) (a12 : EthSt) (a13 : FabSt) (a14 : CompSt) (a15 : TwinSt) (a16 : PwrSt)
    (a17 : UpdSt) : Prop where
  e1 : a1 = s.out ∨ m.testBit 3 = true
  e2 : a2 = s.free ∨ m.testBit 4 = true
  e3 : a3 = s.tm ∨ m.testBit 5 = true
  e4 : a4 = s.dict ∨ m.testBit 6 = true
  e5 : a5 = s.hif ∨ m.testBit 7 = true
  e6 : a6 = s.flt ∨ m.testBit 8 = true
  e7 : a7 = s.evr ∨ m.testBit 9 = true
  e8 : a8 = s.ess ∨ m.testBit 10 = true
  e9 : a9 = s.aud ∨ m.testBit 11 = true
  e10 : a10 = s.str ∨ m.testBit 12 = true
  e11 : a11 = s.pac ∨ m.testBit 13 = true
  e12 : a12 = s.eth ∨ m.testBit 14 = true
  e13 : a13 = s.fab ∨ m.testBit 15 = true
  e14 : a14 = s.comp ∨ m.testBit 16 = true
  e15 : a15 = s.twin ∨ m.testBit 17 = true
  e16 : a16 = s.pwr ∨ m.testBit 18 = true
  e17 : a17 = s.upd ∨ m.testBit 19 = true

/-- An update of fields other than the stored tables, the fuses and the queue. -/
theorem keeps_mk {m : Nat} {s0 s : State} {a1 a2 a3 a4 a5 a6 a7 a8 a9 a10 a11 a12 a13 a14 a15 a16 a17} (h : Keeps m s0 s)
    (w : Fields m s a1 a2 a3 a4 a5 a6 a7 a8 a9 a10 a11 a12 a13 a14 a15 a16 a17) :
    Keeps m s0 ⟨s.objs, s.chg, s.regs, s.mem, a1, a2, s.fuses, a3, a4, a5, a6, a7, a8, a9, a10, a11, a12, a13, a14, a15, a16, a17, s.pending⟩ := by
  refine h.trans ⟨rfl, rfl, id, fun p e => ?_⟩
  have no {x : Nat} {P : Prop} (q : P ∨ m.testBit x = true) (e : m.testBit x = false) : P := by
    rcases q with q | q
    · exact q
    · rw [q] at e; exact absurd e (by decide)
  cases p <;> simp only [Part.bit, Part.Same] at *
  · exact ⟨trivial, trivial⟩
  · exact no w.e1 e
  · exact no w.e2 e
  · exact no w.e3 e
  · exact no w.e4 e
  · exact no w.e5 e
  · exact no w.e6 e
  · exact no w.e7 e
  · exact no w.e8 e
  · exact no w.e9 e
  · exact no w.e10 e
  · exact no w.e11 e
  · exact no w.e12 e
  · exact no w.e13 e
  · exact no w.e14 e
  · exact no w.e15 e
  · exact no w.e16 e
  · exact no w.e17 e

theorem keeps_foldl {m : Nat} {α : Type} {s0 s : State} {g : State → α → State} (l : List α) (hg : ∀ x a, Keeps m x (g x a))
    (h : Keeps m s0 s) : Keeps m s0 (l.foldl g s) := by
  induction l generalizing s with
  | nil => exact h
  | cons a l ih => exact ih (h.trans (hg s a))

/-- A fold that carries a value beside the state. -/
theorem keeps_foldl2 {m : Nat} {α β : Type} {s0 : State} {g : β × State → α → β × State} (l : List α) {p : β × State}
    (hg : ∀ x a, Keeps m x.2 (g x a).2) (h : Keeps m s0 p.2) : Keeps m s0 (l.foldl g p).2 := by
  induction l generalizing p with
  | nil => exact h
  | cons a l ih => exact ih (h.trans (hg p a))

/-- A fold that carries two values beside the state. -/
theorem keeps_foldl3 {m : Nat} {α β γ : Type} {s0 : State} {g : β × γ × State → α → β × γ × State} (l : List α) {p : β × γ × State}
    (hg : ∀ x a, Keeps m x.2.2 (g x a).2.2) (h : Keeps m s0 p.2.2) : Keeps m s0 (l.foldl g p).2.2 := by
  induction l generalizing p with
  | nil => exact h
  | cons a l ih => exact ih (h.trans (hg p a))

/-! ### The primitive writes -/

theorem setObj_keeps {m : Nat} (hm : maskIn 1 m = true) {s0 s : State} (h : Keeps m s0 s) (k : Nat) (v : Val) :
    Keeps m s0 (s.setObj k v) := by
  refine h.trans ⟨rfl, rfl, fun w => ?_, fun p e => ?_⟩
  · simp only [State.canonical, Bool.and_eq_true, State.setObj] at *
    refine ⟨⟨⟨twf_tset _ _ _ _ w.1.1.1, ?_⟩, w.1.2⟩, w.2⟩
    split
    · exact w.1.1.2
    · exact twf_tset _ _ _ _ w.1.1.2
  · cases p <;> first | exact rfl | (rw [show Part.objs.bit = 0 from rfl, bit_of_maskIn hm (by decide)] at e; exact absurd e (by decide))

theorem setReg_keeps {m : Nat} (hm : maskIn 2 m = true) {s0 s : State} (h : Keeps m s0 s) (off v : Nat) : Keeps m s0 (s.setReg off v) := by
  refine h.trans ⟨rfl, rfl, fun w => ?_, fun p e => ?_⟩
  · simp only [State.canonical, Bool.and_eq_true, State.setReg] at *
    exact ⟨⟨w.1.1, twf_tset _ _ _ _ w.1.2⟩, w.2⟩
  · cases p <;> first
      | exact rfl
      | exact ⟨rfl, rfl⟩
      | (rw [show Part.regs.bit = 1 from rfl, bit_of_maskIn hm (by decide)] at e; exact absurd e (by decide))

theorem setByte_keeps {m : Nat} (hm : maskIn 4 m = true) {s0 s : State} (h : Keeps m s0 s) (a : Nat) (b : Byte) :
    Keeps m s0 (s.setByte a b) := by
  refine h.trans ⟨rfl, rfl, fun w => ?_, fun p e => ?_⟩
  · simp only [State.canonical, Bool.and_eq_true, State.setByte] at *
    exact ⟨w.1, twf_tset _ _ _ _ w.2⟩
  · cases p <;> first
      | exact rfl
      | exact ⟨rfl, rfl⟩
      | (rw [show Part.mem.bit = 2 from rfl, bit_of_maskIn hm (by decide)] at e; exact absurd e (by decide))

theorem setBytesAt_keeps {m : Nat} (hm : maskIn 4 m = true) {s0 : State} : ∀ (b : List Byte) {s : State} (_ : Keeps m s0 s) (a : Nat),
    Keeps m s0 (s.setBytesAt a b)
  | [], _, h, _ => h
  | _ :: b, _, h, a => setBytesAt_keeps hm b (setByte_keeps hm h a _) (a + 1)

end Sys2Proof.Machine
end

