-- ==== Sys2Proof/Laws/KeepsOps.lean ====
section
/-! SUPPORT. Ops: what every operation keeps. -/

namespace Sys2Proof.Machine

theorem State_toTick_keeps {m_ : Nat} (hm : maskIn 32 m_ = true) {s_ s : State} (h_ : Keeps m_ s_ s) (t : Nat) : Keeps m_ s_ (State.toTick s t) := by
  refine Keeps.after hm h_ ?_
  clear hm h_
  unfold State.toTick
  repeat' with_reducible first
    | assumption
    | exact Keeps.refl _ _
    | (show maskIn _ _ = true; decide)
    | apply keepsR_next
    | apply keeps_ite
    | apply keepsR_ite
    | apply keeps_ite2
    | apply keeps_foldl
    | apply keeps_foldl2
    | apply keeps_foldl3
    | intro _
    | dsimp only
    | (fail_if_no_progress (apply keeps_mk; on_goal 2 => (constructor <;> first | exact .inr (by decide) | exact .inl rfl)))
    | split

theorem State_setNum_keeps {m_ : Nat} (hm : maskIn 1 m_ = true) {s_ s : State} (h_ : Keeps m_ s_ s) (k : Nat) (n : Nat) : Keeps m_ s_ (State.setNum s k n) := by
  refine Keeps.after hm h_ ?_
  clear hm h_
  unfold State.setNum
  repeat' with_reducible first
    | assumption
    | exact Keeps.refl _ _
    | (show maskIn _ _ = true; decide)
    | apply setObj_keeps
    | apply keepsR_next
    | apply keeps_ite
    | apply keepsR_ite
    | apply keeps_ite2
    | apply keeps_foldl
    | apply keeps_foldl2
    | apply keeps_foldl3
    | intro _
    | dsimp only
    | (fail_if_no_progress (apply keeps_mk; on_goal 2 => (constructor <;> first | exact .inr (by decide) | exact .inl rfl)))
    | split

theorem State_setInt_keeps {m_ : Nat} (hm : maskIn 1 m_ = true) {s_ s : State} (h_ : Keeps m_ s_ s) (k : Nat) (n : Int) : Keeps m_ s_ (State.setInt s k n) := by
  refine Keeps.after hm h_ ?_
  clear hm h_
  unfold State.setInt
  repeat' with_reducible first
    | assumption
    | exact Keeps.refl _ _
    | (show maskIn _ _ = true; decide)
    | apply setObj_keeps
    | apply keepsR_next
    | apply keeps_ite
    | apply keepsR_ite
    | apply keeps_ite2
    | apply keeps_foldl
    | apply keeps_foldl2
    | apply keeps_foldl3
    | intro _
    | dsimp only
    | (fail_if_no_progress (apply keeps_mk; on_goal 2 => (constructor <;> first | exact .inr (by decide) | exact .inl rfl)))
    | split

theorem State_setBytes_keeps {m_ : Nat} (hm : maskIn 1 m_ = true) {s_ s : State} (h_ : Keeps m_ s_ s) (k : Nat) (b : List Byte) : Keeps m_ s_ (State.setBytes s k b) := by
  refine Keeps.after hm h_ ?_
  clear hm h_
  unfold State.setBytes
  repeat' with_reducible first
    | assumption
    | exact Keeps.refl _ _
    | (show maskIn _ _ = true; decide)
    | apply setObj_keeps
    | apply keepsR_next
    | apply keeps_ite
    | apply keepsR_ite
    | apply keeps_ite2
    | apply keeps_foldl
    | apply keeps_foldl2
    | apply keeps_foldl3
    | intro _
    | dsimp only
    | (fail_if_no_progress (apply keeps_mk; on_goal 2 => (constructor <;> first | exact .inr (by decide) | exact .inl rfl)))
    | split

theorem State_bump_keeps {m_ : Nat} (hm : maskIn 1 m_ = true) {s_ s : State} (h_ : Keeps m_ s_ s) (k : Nat) (n : Nat) : Keeps m_ s_ (State.bump s k n) := by
  refine Keeps.after hm h_ ?_
  clear hm h_
  unfold State.bump
  repeat' with_reducible first
    | assumption
    | exact Keeps.refl _ _
    | (show maskIn _ _ = true; decide)
    | apply State_setNum_keeps
    | apply keepsR_next
    | apply keeps_ite
    | apply keepsR_ite
    | apply keeps_ite2
    | apply keeps_foldl
    | apply keeps_foldl2
    | apply keeps_foldl3
    | intro _
    | dsimp only
    | (fail_if_no_progress (apply keeps_mk; on_goal 2 => (constructor <;> first | exact .inr (by decide) | exact .inl rfl)))
    | split

theorem State_bump64_keeps {m_ : Nat} (hm : maskIn 1 m_ = true) {s_ s : State} (h_ : Keeps m_ s_ s) (k : Nat) (n : Nat) : Keeps m_ s_ (State.bump64 s k n) := by
  refine Keeps.after hm h_ ?_
  clear hm h_
  unfold State.bump64
  repeat' with_reducible first
    | assumption
    | exact Keeps.refl _ _
    | (show maskIn _ _ = true; decide)
    | apply State_setNum_keeps
    | apply keepsR_next
    | apply keeps_ite
    | apply keepsR_ite
    | apply keeps_ite2
    | apply keeps_foldl
    | apply keeps_foldl2
    | apply keeps_foldl3
    | intro _
    | dsimp only
    | (fail_if_no_progress (apply keeps_mk; on_goal 2 => (constructor <;> first | exact .inr (by decide) | exact .inl rfl)))
    | split

theorem State_setBit_keeps {m_ : Nat} (hm : maskIn 2 m_ = true) {s_ s : State} (h_ : Keeps m_ s_ s) (off : Nat) (b : Nat) : Keeps m_ s_ (State.setBit s off b) := by
  refine Keeps.after hm h_ ?_
  clear hm h_
  unfold State.setBit
  repeat' with_reducible first
    | assumption
    | exact Keeps.refl _ _
    | (show maskIn _ _ = true; decide)
    | apply setReg_keeps
    | apply keepsR_next
    | apply keeps_ite
    | apply keepsR_ite
    | apply keeps_ite2
    | apply keeps_foldl
    | apply keeps_foldl2
    | apply keeps_foldl3
    | intro _
    | dsimp only
    | (fail_if_no_progress (apply keeps_mk; on_goal 2 => (constructor <;> first | exact .inr (by decide) | exact .inl rfl)))
    | split

theorem State_rcAdd_keeps {m_ : Nat} (hm : maskIn 2 m_ = true) {s_ s : State} (h_ : Keeps m_ s_ s) (off : Nat) (hi : Nat) (lo : Nat) (n : Nat) : Keeps m_ s_ (State.rcAdd s off hi lo n) := by
  refine Keeps.after hm h_ ?_
  clear hm h_
  unfold State.rcAdd
  repeat' with_reducible first
    | assumption
    | exact Keeps.refl _ _
    | (show maskIn _ _ = true; decide)
    | apply setReg_keeps
    | apply keepsR_next
    | apply keeps_ite
    | apply keepsR_ite
    | apply keeps_ite2
    | apply keeps_foldl
    | apply keeps_foldl2
    | apply keeps_foldl3
    | intro _
    | dsimp only
    | (fail_if_no_progress (apply keeps_mk; on_goal 2 => (constructor <;> first | exact .inr (by decide) | exact .inl rfl)))
    | split

theorem State_emit_keeps {m_ : Nat} (hm : maskIn 8 m_ = true) {s_ s : State} (h_ : Keeps m_ s_ s) (e : Emission) : Keeps m_ s_ (State.emit s e) := by
  refine Keeps.after hm h_ ?_
  clear hm h_
  unfold State.emit
  repeat' with_reducible first
    | assumption
    | exact Keeps.refl _ _
    | (show maskIn _ _ = true; decide)
    | apply keepsR_next
    | apply keeps_ite
    | apply keepsR_ite
    | apply keeps_ite2
    | apply keeps_foldl
    | apply keeps_foldl2
    | apply keeps_foldl3
    | intro _
    | dsimp only
    | (fail_if_no_progress (apply keeps_mk; on_goal 2 => (constructor <;> first | exact .inr (by decide) | exact .inl rfl)))
    | split

theorem State_freeNat_keeps {m_ : Nat} (hm : maskIn 16 m_ = true) {s_ s : State} (h_ : Keeps m_ s_ s)  : Keeps m_ s_ (State.freeNat s).2 := by
  refine Keeps.after hm h_ ?_
  clear hm h_
  unfold State.freeNat
  repeat' with_reducible first
    | assumption
    | exact Keeps.refl _ _
    | (show maskIn _ _ = true; decide)
    | apply keepsR_next
    | apply keeps_ite
    | apply keepsR_ite
    | apply keeps_ite2
    | apply keeps_foldl
    | apply keeps_foldl2
    | apply keeps_foldl3
    | intro _
    | dsimp only
    | (fail_if_no_progress (apply keeps_mk; on_goal 2 => (constructor <;> first | exact .inr (by decide) | exact .inl rfl)))
    | split

theorem State_freeBytes_keeps {m_ : Nat} (hm : maskIn 16 m_ = true) {s_ s : State} (h_ : Keeps m_ s_ s) (n : Nat) : Keeps m_ s_ (State.freeBytes s n).2 := by
  refine Keeps.after hm h_ ?_
  clear hm h_
  unfold State.freeBytes
  repeat' with_reducible first
    | assumption
    | exact Keeps.refl _ _
    | (show maskIn _ _ = true; decide)
    | apply keepsR_next
    | apply keeps_ite
    | apply keepsR_ite
    | apply keeps_ite2
    | apply keeps_foldl
    | apply keeps_foldl2
    | apply keeps_foldl3
    | intro _
    | dsimp only
    | (fail_if_no_progress (apply keeps_mk; on_goal 2 => (constructor <;> first | exact .inr (by decide) | exact .inl rfl)))
    | split

theorem State_sendVec_keeps {m_ : Nat} (hm : maskIn 136 m_ = true) {s_ s : State} (h_ : Keeps m_ s_ s) (v : Nat) : Keeps m_ s_ (State.sendVec s v) := by
  refine Keeps.after hm h_ ?_
  clear hm h_
  unfold State.sendVec
  repeat' with_reducible first
    | assumption
    | exact Keeps.refl _ _
    | (show maskIn _ _ = true; decide)
    | apply keepsR_next
    | apply keeps_ite
    | apply keepsR_ite
    | apply keeps_ite2
    | apply keeps_foldl
    | apply keeps_foldl2
    | apply keeps_foldl3
    | intro _
    | dsimp only
    | (fail_if_no_progress (apply keeps_mk; on_goal 2 => (constructor <;> first | exact .inr (by decide) | exact .inl rfl)))
    | split

theorem State_signal_keeps {m_ : Nat} (hm : maskIn 136 m_ = true) {s_ s : State} (h_ : Keeps m_ s_ s) (v : Nat) : Keeps m_ s_ (State.signal s v) := by
  refine Keeps.after hm h_ ?_
  clear hm h_
  unfold State.signal
  repeat' with_reducible first
    | assumption
    | exact Keeps.refl _ _
    | (show maskIn _ _ = true; decide)
    | apply State_sendVec_keeps
    | apply keepsR_next
    | apply keeps_ite
    | apply keepsR_ite
    | apply keeps_ite2
    | apply keeps_foldl
    | apply keeps_foldl2
    | apply keeps_foldl3
    | intro _
    | dsimp only
    | (fail_if_no_progress (apply keeps_mk; on_goal 2 => (constructor <;> first | exact .inr (by decide) | exact .inl rfl)))
    | split

theorem State_record_keeps {m_ : Nat} (hm : maskIn 512 m_ = true) {s_ s : State} (h_ : Keeps m_ s_ s) (code : Nat) (payload : List Byte) (sev : Nat) (plane : Nat) : Keeps m_ s_ (State.record s code payload sev plane) := by
  refine Keeps.after hm h_ ?_
  clear hm h_
  unfold State.record
  repeat' with_reducible first
    | assumption
    | exact Keeps.refl _ _
    | (show maskIn _ _ = true; decide)
    | apply keepsR_next
    | apply keeps_ite
    | apply keepsR_ite
    | apply keeps_ite2
    | apply keeps_foldl
    | apply keeps_foldl2
    | apply keeps_foldl3
    | intro _
    | dsimp only
    | (fail_if_no_progress (apply keeps_mk; on_goal 2 => (constructor <;> first | exact .inr (by decide) | exact .inl rfl)))
    | split

theorem State_evtSignal_keeps {m_ : Nat} (hm : maskIn 394 m_ = true) {s_ s : State} (h_ : Keeps m_ s_ s) (n : Nat) : Keeps m_ s_ (State.evtSignal s n) := by
  refine Keeps.after hm h_ ?_
  clear hm h_
  unfold State.evtSignal
  repeat' with_reducible first
    | assumption
    | exact Keeps.refl _ _
    | (show maskIn _ _ = true; decide)
    | apply State_setBit_keeps
    | apply State_signal_keeps
    | apply keepsR_next
    | apply keeps_ite
    | apply keepsR_ite
    | apply keeps_ite2
    | apply keeps_foldl
    | apply keeps_foldl2
    | apply keeps_foldl3
    | intro _
    | dsimp only
    | (fail_if_no_progress (apply keeps_mk; on_goal 2 => (constructor <;> first | exact .inr (by decide) | exact .inl rfl)))
    | split

theorem State_evtCountSignal_keeps {m_ : Nat} (hm : maskIn 394 m_ = true) {s_ s : State} (h_ : Keeps m_ s_ s) (code : Nat) : Keeps m_ s_ (State.evtCountSignal s code) := by
  refine Keeps.after hm h_ ?_
  clear hm h_
  unfold State.evtCountSignal
  repeat' with_reducible first
    | assumption
    | exact Keeps.refl _ _
    | (show maskIn _ _ = true; decide)
    | apply State_evtSignal_keeps
    | apply State_rcAdd_keeps
    | apply keepsR_next
    | apply keeps_ite
    | apply keepsR_ite
    | apply keeps_ite2
    | apply keeps_foldl
    | apply keeps_foldl2
    | apply keeps_foldl3
    | intro _
    | dsimp only
    | (fail_if_no_progress (apply keeps_mk; on_goal 2 => (constructor <;> first | exact .inr (by decide) | exact .inl rfl)))
    | split

theorem State_raise_keeps {m_ : Nat} (hm : maskIn 906 m_ = true) {s_ s : State} (h_ : Keeps m_ s_ s) (code : Nat) (payload : List Byte) : Keeps m_ s_ (State.raise s code payload) := by
  refine Keeps.after hm h_ ?_
  clear hm h_
  unfold State.raise
  repeat' with_reducible first
    | assumption
    | exact Keeps.refl _ _
    | (show maskIn _ _ = true; decide)
    | apply State_evtCountSignal_keeps
    | apply State_record_keeps
    | apply keepsR_next
    | apply keeps_ite
    | apply keepsR_ite
    | apply keeps_ite2
    | apply keeps_foldl
    | apply keeps_foldl2
    | apply keeps_foldl3
    | intro _
    | dsimp only
    | (fail_if_no_progress (apply keeps_mk; on_goal 2 => (constructor <;> first | exact .inr (by decide) | exact .inl rfl)))
    | split

end Sys2Proof.Machine
end

