-- ==== Sys2Proof/Laws/KeepsFabWire.lean ====
section
/-! SUPPORT. FabWire: what every operation keeps. -/

namespace Sys2Proof.Machine

theorem State_setFl_keeps {m_ : Nat} (hm : maskIn 32768 m_ = true) {s_ s : State} (h_ : Keeps m_ s_ s) (f : Nat) (l : FabLane) : Keeps m_ s_ (State.setFl s f l) := by
  refine Keeps.after hm h_ ?_
  clear hm h_
  unfold State.setFl
  repeat' with_reducible first
    | assumption
    | exact Keeps.refl _ _
    | (show maskIn _ _ = true; decide)
    | apply keepsR_next
    | apply keeps_ite
    | apply keepsR_ite
    | apply keeps_ite2
    | apply keeps_foldl
    | apply keeps_foldl2
    | apply keeps_foldl3
    | intro _
    | dsimp only
    | (fail_if_no_progress (apply keeps_mk; on_goal 2 => (constructor <;> first | exact .inr (by decide) | exact .inl rfl)))
    | split

theorem State_setLink_keeps {m_ : Nat} (hm : maskIn 32768 m_ = true) {s_ s : State} (h_ : Keeps m_ s_ s) (j : Nat) (l : FabLink) : Keeps m_ s_ (State.setLink s j l) := by
  refine Keeps.after hm h_ ?_
  clear hm h_
  unfold State.setLink
  repeat' with_reducible first
    | assumption
    | exact Keeps.refl _ _
    | (show maskIn _ _ = true; decide)
    | apply keepsR_next
    | apply keeps_ite
    | apply keepsR_ite
    | apply keeps_ite2
    | apply keeps_foldl
    | apply keeps_foldl2
    | apply keeps_foldl3
    | intro _
    | dsimp only
    | (fail_if_no_progress (apply keeps_mk; on_goal 2 => (constructor <;> first | exact .inr (by decide) | exact .inl rfl)))
    | split

theorem State_sendBlock_keeps {m_ : Nat} (hm : maskIn 32776 m_ = true) {s_ s : State} (h_ : Keeps m_ s_ s) (f : Nat) (first : Nat) (payload : List Byte) : Keeps m_ s_ (State.sendBlock s f first payload) := by
  refine Keeps.after hm h_ ?_
  clear hm h_
  unfold State.sendBlock
  repeat' with_reducible first
    | assumption
    | exact Keeps.refl _ _
    | (show maskIn _ _ = true; decide)
    | apply State_emit_keeps
    | apply State_setFl_keeps
    | apply keepsR_next
    | apply keeps_ite
    | apply keepsR_ite
    | apply keeps_ite2
    | apply keeps_foldl
    | apply keeps_foldl2
    | apply keeps_foldl3
    | intro _
    | dsimp only
    | (fail_if_no_progress (apply keeps_mk; on_goal 2 => (constructor <;> first | exact .inr (by decide) | exact .inl rfl)))
    | split

theorem State_sendFill_keeps {m_ : Nat} (hm : maskIn 32776 m_ = true) {s_ s : State} (h_ : Keeps m_ s_ s) (f : Nat) (n : Nat) (seq : Nat) (step : Nat) : Keeps m_ s_ (State.sendFill s f n seq step) := by
  refine Keeps.after hm h_ ?_
  clear hm h_
  unfold State.sendFill
  repeat' with_reducible first
    | assumption
    | exact Keeps.refl _ _
    | (show maskIn _ _ = true; decide)
    | apply State_emit_keeps
    | apply State_setFl_keeps
    | apply keepsR_next
    | apply keeps_ite
    | apply keepsR_ite
    | apply keeps_ite2
    | apply keeps_foldl
    | apply keeps_foldl2
    | apply keeps_foldl3
    | intro _
    | dsimp only
    | (fail_if_no_progress (apply keeps_mk; on_goal 2 => (constructor <;> first | exact .inr (by decide) | exact .inl rfl)))
    | split

theorem State_fillTo_keeps {m_ : Nat} (hm : maskIn 32776 m_ = true) {s_ s : State} (h_ : Keeps m_ s_ s) (j : Nat) (b1 : Nat) : Keeps m_ s_ (State.fillTo s j b1) := by
  refine Keeps.after hm h_ ?_
  clear hm h_
  unfold State.fillTo
  repeat' with_reducible first
    | assumption
    | exact Keeps.refl _ _
    | (show maskIn _ _ = true; decide)
    | apply State_sendFill_keeps
    | apply State_setLink_keeps
    | apply keepsR_next
    | apply keeps_ite
    | apply keepsR_ite
    | apply keeps_ite2
    | apply keeps_foldl
    | apply keeps_foldl2
    | apply keeps_foldl3
    | intro _
    | dsimp only
    | (fail_if_no_progress (apply keeps_mk; on_goal 2 => (constructor <;> first | exact .inr (by decide) | exact .inl rfl)))
    | split

theorem State_pushBytes_keeps {m_ : Nat} (hm : maskIn 32776 m_ = true) {s_ s : State} (h_ : Keeps m_ s_ s) (j : Nat) (heads : List Nat) (b : List Byte) : Keeps m_ s_ (State.pushBytes s j heads b) := by
  refine Keeps.after hm h_ ?_
  clear hm h_
  unfold State.pushBytes
  repeat' with_reducible first
    | assumption
    | exact Keeps.refl _ _
    | (show maskIn _ _ = true; decide)
    | apply State_sendBlock_keeps
    | apply State_setLink_keeps
    | apply keepsR_next
    | apply keeps_ite
    | apply keepsR_ite
    | apply keeps_ite2
    | apply keeps_foldl
    | apply keeps_foldl2
    | apply keeps_foldl3
    | intro _
    | dsimp only
    | (fail_if_no_progress (apply keeps_mk; on_goal 2 => (constructor <;> first | exact .inr (by decide) | exact .inl rfl)))
    | split

theorem State_nextFill_keeps {m_ : Nat} (hm : maskIn 32768 m_ = true) {s_ s : State} (h_ : Keeps m_ s_ s) (j : Nat) (n : Nat) : Keeps m_ s_ (State.nextFill s j n).2 := by
  refine Keeps.after hm h_ ?_
  clear hm h_
  unfold State.nextFill
  repeat' with_reducible first
    | assumption
    | exact Keeps.refl _ _
    | (show maskIn _ _ = true; decide)
    | apply State_setLink_keeps
    | apply keepsR_next
    | apply keeps_ite
    | apply keepsR_ite
    | apply keeps_ite2
    | apply keeps_foldl
    | apply keeps_foldl2
    | apply keeps_foldl3
    | intro _
    | dsimp only
    | (fail_if_no_progress (apply keeps_mk; on_goal 2 => (constructor <;> first | exact .inr (by decide) | exact .inl rfl)))
    | split

theorem State_fillPart_keeps {m_ : Nat} (hm : maskIn 32776 m_ = true) {s_ s : State} (h_ : Keeps m_ s_ s) (j : Nat) : Keeps m_ s_ (State.fillPart s j) := by
  refine Keeps.after hm h_ ?_
  clear hm h_
  unfold State.fillPart
  repeat' with_reducible first
    | assumption
    | exact Keeps.refl _ _
    | (show maskIn _ _ = true; decide)
    | apply State_nextFill_keeps
    | apply State_pushBytes_keeps
    | apply keepsR_next
    | apply keeps_ite
    | apply keepsR_ite
    | apply keeps_ite2
    | apply keeps_foldl
    | apply keeps_foldl2
    | apply keeps_foldl3
    | intro _
    | dsimp only
    | (fail_if_no_progress (apply keeps_mk; on_goal 2 => (constructor <;> first | exact .inr (by decide) | exact .inl rfl)))
    | split

theorem State_fillNow_keeps {m_ : Nat} (hm : maskIn 32776 m_ = true) {s_ s : State} (h_ : Keeps m_ s_ s) (j : Nat) : Keeps m_ s_ (State.fillNow s j) := by
  refine Keeps.after hm h_ ?_
  clear hm h_
  unfold State.fillNow
  repeat' with_reducible first
    | assumption
    | exact Keeps.refl _ _
    | (show maskIn _ _ = true; decide)
    | apply State_fillPart_keeps
    | apply State_fillTo_keeps
    | apply keepsR_next
    | apply keeps_ite
    | apply keepsR_ite
    | apply keeps_ite2
    | apply keeps_foldl
    | apply keeps_foldl2
    | apply keeps_foldl3
    | intro _
    | dsimp only
    | (fail_if_no_progress (apply keeps_mk; on_goal 2 => (constructor <;> first | exact .inr (by decide) | exact .inl rfl)))
    | split

theorem State_pushCell_keeps {m_ : Nat} (hm : maskIn 32776 m_ = true) {s_ s : State} (h_ : Keeps m_ s_ s) (j : Nat) (cell : List Byte) : Keeps m_ s_ (State.pushCell s j cell) := by
  refine Keeps.after hm h_ ?_
  clear hm h_
  unfold State.pushCell
  repeat' with_reducible first
    | assumption
    | exact Keeps.refl _ _
    | (show maskIn _ _ = true; decide)
    | apply State_nextFill_keeps
    | apply State_pushBytes_keeps
    | apply keepsR_next
    | apply keeps_ite
    | apply keepsR_ite
    | apply keeps_ite2
    | apply keeps_foldl
    | apply keeps_foldl2
    | apply keeps_foldl3
    | intro _
    | dsimp only
    | (fail_if_no_progress (apply keeps_mk; on_goal 2 => (constructor <;> first | exact .inr (by decide) | exact .inl rfl)))
    | split

theorem State_toStream_keeps {m_ : Nat} (hm : maskIn 32776 m_ = true) {s_ s : State} (h_ : Keeps m_ s_ s) (j : Nat) (cell : List Byte) : Keeps m_ s_ (State.toStream s j cell) := by
  refine Keeps.after hm h_ ?_
  clear hm h_
  unfold State.toStream
  repeat' with_reducible first
    | assumption
    | exact Keeps.refl _ _
    | (show maskIn _ _ = true; decide)
    | apply State_pushCell_keeps
    | apply State_setLink_keeps
    | apply keepsR_next
    | apply keeps_ite
    | apply keepsR_ite
    | apply keeps_ite2
    | apply keeps_foldl
    | apply keeps_foldl2
    | apply keeps_foldl3
    | intro _
    | dsimp only
    | (fail_if_no_progress (apply keeps_mk; on_goal 2 => (constructor <;> first | exact .inr (by decide) | exact .inl rfl)))
    | split

theorem State_flushWait_keeps {m_ : Nat} (hm : maskIn 32776 m_ = true) {s_ s : State} (h_ : Keeps m_ s_ s) (j : Nat) : Keeps m_ s_ (State.flushWait s j) := by
  refine Keeps.after hm h_ ?_
  clear hm h_
  unfold State.flushWait
  repeat' with_reducible first
    | assumption
    | exact Keeps.refl _ _
    | (show maskIn _ _ = true; decide)
    | apply State_setLink_keeps
    | apply State_toStream_keeps
    | apply keepsR_next
    | apply keeps_ite
    | apply keepsR_ite
    | apply keeps_ite2
    | apply keeps_foldl
    | apply keeps_foldl2
    | apply keeps_foldl3
    | intro _
    | dsimp only
    | (fail_if_no_progress (apply keeps_mk; on_goal 2 => (constructor <;> first | exact .inr (by decide) | exact .inl rfl)))
    | split

theorem State_ctlSend_keeps {m_ : Nat} (hm : maskIn 32776 m_ = true) {s_ s : State} (h_ : Keeps m_ s_ s) (j : Nat) (msg : Nat) (reqId : Nat) (body : List Byte) : Keeps m_ s_ (State.ctlSend s j msg reqId body) := by
  refine Keeps.after hm h_ ?_
  clear hm h_
  unfold State.ctlSend
  repeat' with_reducible first
    | assumption
    | exact Keeps.refl _ _
    | (show maskIn _ _ = true; decide)
    | apply State_emit_keeps
    | apply State_fillNow_keeps
    | apply State_setLink_keeps
    | apply State_toStream_keeps
    | apply keepsR_next
    | apply keeps_ite
    | apply keepsR_ite
    | apply keeps_ite2
    | apply keeps_foldl
    | apply keeps_foldl2
    | apply keeps_foldl3
    | intro _
    | dsimp only
    | (fail_if_no_progress (apply keeps_mk; on_goal 2 => (constructor <;> first | exact .inr (by decide) | exact .inl rfl)))
    | split

end Sys2Proof.Machine
end

