-- ==== Sys2Proof/Laws/KeepsSafe.lean ====
section
/-! SUPPORT. Safe: what every operation keeps. -/

namespace Sys2Proof.Machine

theorem State_setSrc_keeps {m_ : Nat} (hm : maskIn 256 m_ = true) {s_ s : State} (h_ : Keeps m_ s_ s) (n : Nat) (v : SrcSt) : Keeps m_ s_ (State.setSrc s n v) := by
  refine Keeps.after hm h_ ?_
  clear hm h_
  unfold State.setSrc
  repeat' with_reducible first
    | assumption
    | exact Keeps.refl _ _
    | (show maskIn _ _ = true; decide)
    | apply keepsR_next
    | apply keeps_ite
    | apply keepsR_ite
    | apply keeps_ite2
    | apply keeps_foldl
    | apply keeps_foldl2
    | apply keeps_foldl3
    | intro _
    | dsimp only
    | (fail_if_no_progress (apply keeps_mk; on_goal 2 => (constructor <;> first | exact .inr (by decide) | exact .inl rfl)))
    | split

theorem State_srcObjs_keeps {m_ : Nat} (hm : maskIn 1 m_ = true) {s_ s : State} (h_ : Keeps m_ s_ s) (n : Nat) : Keeps m_ s_ (State.srcObjs s n) := by
  refine Keeps.after hm h_ ?_
  clear hm h_
  unfold State.srcObjs
  repeat' with_reducible first
    | assumption
    | exact Keeps.refl _ _
    | (show maskIn _ _ = true; decide)
    | apply State_setNum_keeps
    | apply keepsR_next
    | apply keeps_ite
    | apply keepsR_ite
    | apply keeps_ite2
    | apply keeps_foldl
    | apply keeps_foldl2
    | apply keeps_foldl3
    | intro _
    | dsimp only
    | (fail_if_no_progress (apply keeps_mk; on_goal 2 => (constructor <;> first | exact .inr (by decide) | exact .inl rfl)))
    | split

end Sys2Proof.Machine
end

