-- ==== Sys2Proof/Laws/KeepsEssence.lean ====
section
/-! SUPPORT. Essence: what every operation keeps. -/

namespace Sys2Proof.Machine

theorem State_oncePerSecond_keeps {m_ : Nat} (hm : maskIn 1930 m_ = true) {s_ s : State} (h_ : Keeps m_ s_ s) (code : Nat) (i : Nat) (payload : List Byte) : Keeps m_ s_ (State.oncePerSecond s code i payload) := by
  refine Keeps.after hm h_ ?_
  clear hm h_
  unfold State.oncePerSecond
  repeat' with_reducible first
    | assumption
    | exact Keeps.refl _ _
    | (show maskIn _ _ = true; decide)
    | apply State_raise_keeps
    | apply keepsR_next
    | apply keeps_ite
    | apply keepsR_ite
    | apply keeps_ite2
    | apply keeps_foldl
    | apply keeps_foldl2
    | apply keeps_foldl3
    | intro _
    | dsimp only
    | (fail_if_no_progress (apply keeps_mk; on_goal 2 => (constructor <;> first | exact .inr (by decide) | exact .inl rfl)))
    | split

theorem State_endSecond_keeps {m_ : Nat} (hm : maskIn 1930 m_ = true) {s_ s : State} (h_ : Keeps m_ s_ s) (key : Nat) : Keeps m_ s_ (State.endSecond s key) := by
  refine Keeps.after hm h_ ?_
  clear hm h_
  unfold State.endSecond
  repeat' with_reducible first
    | assumption
    | exact Keeps.refl _ _
    | (show maskIn _ _ = true; decide)
    | apply State_raise_keeps
    | apply keepsR_next
    | apply keeps_ite
    | apply keepsR_ite
    | apply keeps_ite2
    | apply keeps_foldl
    | apply keeps_foldl2
    | apply keeps_foldl3
    | intro _
    | dsimp only
    | (fail_if_no_progress (apply keeps_mk; on_goal 2 => (constructor <;> first | exact .inr (by decide) | exact .inl rfl)))
    | split

theorem State_countSecond_keeps {m_ : Nat} (hm : maskIn 1930 m_ = true) {s_ s : State} (h_ : Keeps m_ s_ s) (code : Nat) (i : Nat) (n : Nat) (prefix_ : List Byte) : Keeps m_ s_ (State.countSecond s code i n prefix_) := by
  refine Keeps.after hm h_ ?_
  clear hm h_
  unfold State.countSecond
  repeat' with_reducible first
    | assumption
    | exact Keeps.refl _ _
    | (show maskIn _ _ = true; decide)
    | apply State_endSecond_keeps
    | apply keepsR_next
    | apply keeps_ite
    | apply keepsR_ite
    | apply keeps_ite2
    | apply keeps_foldl
    | apply keeps_foldl2
    | apply keeps_foldl3
    | intro _
    | dsimp only
    | (fail_if_no_progress (apply keeps_mk; on_goal 2 => (constructor <;> first | exact .inr (by decide) | exact .inl rfl)))
    | split

theorem State_markSecond_keeps {m_ : Nat} (hm : maskIn 1930 m_ = true) {s_ s : State} (h_ : Keeps m_ s_ s) (code : Nat) (i : Nat) (pos : Nat) (prefix_ : List Byte) : Keeps m_ s_ (State.markSecond s code i pos prefix_) := by
  refine Keeps.after hm h_ ?_
  clear hm h_
  unfold State.markSecond
  repeat' with_reducible first
    | assumption
    | exact Keeps.refl _ _
    | (show maskIn _ _ = true; decide)
    | apply State_endSecond_keeps
    | apply keepsR_next
    | apply keeps_ite
    | apply keepsR_ite
    | apply keeps_ite2
    | apply keeps_foldl
    | apply keeps_foldl2
    | apply keeps_foldl3
    | intro _
    | dsimp only
    | (fail_if_no_progress (apply keeps_mk; on_goal 2 => (constructor <;> first | exact .inr (by decide) | exact .inl rfl)))
    | split

theorem State_secondsEnd_keeps {m_ : Nat} (hm : maskIn 1930 m_ = true) {s_ s : State} (h_ : Keeps m_ s_ s)  : Keeps m_ s_ (State.secondsEnd s) := by
  refine Keeps.after hm h_ ?_
  clear hm h_
  unfold State.secondsEnd
  repeat' with_reducible first
    | assumption
    | exact Keeps.refl _ _
    | (show maskIn _ _ = true; decide)
    | apply State_endSecond_keeps
    | apply keepsR_next
    | apply keeps_ite
    | apply keepsR_ite
    | apply keeps_ite2
    | apply keeps_foldl
    | apply keeps_foldl2
    | apply keeps_foldl3
    | intro _
    | dsimp only
    | (fail_if_no_progress (apply keeps_mk; on_goal 2 => (constructor <;> first | exact .inr (by decide) | exact .inl rfl)))
    | split

theorem State_setLane_keeps {m_ : Nat} (hm : maskIn 1024 m_ = true) {s_ s : State} (h_ : Keeps m_ s_ s) (p : Nat) (l : SdiLane) : Keeps m_ s_ (State.setLane s p l) := by
  refine Keeps.after hm h_ ?_
  clear hm h_
  unfold State.setLane
  repeat' with_reducible first
    | assumption
    | exact Keeps.refl _ _
    | (show maskIn _ _ = true; decide)
    | apply keepsR_next
    | apply keeps_ite
    | apply keepsR_ite
    | apply keeps_ite2
    | apply keeps_foldl
    | apply keeps_foldl2
    | apply keeps_foldl3
    | intro _
    | dsimp only
    | (fail_if_no_progress (apply keeps_mk; on_goal 2 => (constructor <;> first | exact .inr (by decide) | exact .inl rfl)))
    | split

theorem State_setSlot_keeps {m_ : Nat} (hm : maskIn 1024 m_ = true) {s_ s : State} (h_ : Keeps m_ s_ s) (n : Nat) (v : SlotSt) : Keeps m_ s_ (State.setSlot s n v) := by
  refine Keeps.after hm h_ ?_
  clear hm h_
  unfold State.setSlot
  repeat' with_reducible first
    | assumption
    | exact Keeps.refl _ _
    | (show maskIn _ _ = true; decide)
    | apply keepsR_next
    | apply keeps_ite
    | apply keepsR_ite
    | apply keeps_ite2
    | apply keeps_foldl
    | apply keeps_foldl2
    | apply keeps_foldl3
    | intro _
    | dsimp only
    | (fail_if_no_progress (apply keeps_mk; on_goal 2 => (constructor <;> first | exact .inr (by decide) | exact .inl rfl)))
    | split

theorem State_setMember_keeps {m_ : Nat} (hm : maskIn 1024 m_ = true) {s_ s : State} (h_ : Keeps m_ s_ s) (n : Nat) (sub : Nat) (v : Member) : Keeps m_ s_ (State.setMember s n sub v) := by
  refine Keeps.after hm h_ ?_
  clear hm h_
  unfold State.setMember
  repeat' with_reducible first
    | assumption
    | exact Keeps.refl _ _
    | (show maskIn _ _ = true; decide)
    | apply keepsR_next
    | apply keeps_ite
    | apply keepsR_ite
    | apply keeps_ite2
    | apply keeps_foldl
    | apply keeps_foldl2
    | apply keeps_foldl3
    | intro _
    | dsimp only
    | (fail_if_no_progress (apply keeps_mk; on_goal 2 => (constructor <;> first | exact .inr (by decide) | exact .inl rfl)))
    | split

theorem State_setFmember_keeps {m_ : Nat} (hm : maskIn 1024 m_ = true) {s_ s : State} (h_ : Keeps m_ s_ s) (k : Nat) (v : Member) : Keeps m_ s_ (State.setFmember s k v) := by
  refine Keeps.after hm h_ ?_
  clear hm h_
  unfold State.setFmember
  repeat' with_reducible first
    | assumption
    | exact Keeps.refl _ _
    | (show maskIn _ _ = true; decide)
    | apply keepsR_next
    | apply keeps_ite
    | apply keepsR_ite
    | apply keeps_ite2
    | apply keeps_foldl
    | apply keeps_foldl2
    | apply keeps_foldl3
    | intro _
    | dsimp only
    | (fail_if_no_progress (apply keeps_mk; on_goal 2 => (constructor <;> first | exact .inr (by decide) | exact .inl rfl)))
    | split

theorem State_setOut_keeps {m_ : Nat} (hm : maskIn 1024 m_ = true) {s_ s : State} (h_ : Keeps m_ s_ s) (o : Nat) (v : OutSt) : Keeps m_ s_ (State.setOut s o v) := by
  refine Keeps.after hm h_ ?_
  clear hm h_
  unfold State.setOut
  repeat' with_reducible first
    | assumption
    | exact Keeps.refl _ _
    | (show maskIn _ _ = true; decide)
    | apply keepsR_next
    | apply keeps_ite
    | apply keepsR_ite
    | apply keeps_ite2
    | apply keeps_foldl
    | apply keeps_foldl2
    | apply keeps_foldl3
    | intro _
    | dsimp only
    | (fail_if_no_progress (apply keeps_mk; on_goal 2 => (constructor <;> first | exact .inr (by decide) | exact .inl rfl)))
    | split

theorem State_tellStream_keeps {m_ : Nat} (hm : maskIn 32776 m_ = true) {s_ s : State} (h_ : Keeps m_ s_ s) (k : Nat) (on : Bool) : Keeps m_ s_ (State.tellStream s k on) := by
  refine Keeps.after hm h_ ?_
  clear hm h_
  unfold State.tellStream
  repeat' with_reducible first
    | assumption
    | exact Keeps.refl _ _
    | (show maskIn _ _ = true; decide)
    | apply State_ctlSend_keeps
    | apply keepsR_next
    | apply keeps_ite
    | apply keepsR_ite
    | apply keeps_ite2
    | apply keeps_foldl
    | apply keeps_foldl2
    | apply keeps_foldl3
    | intro _
    | dsimp only
    | (fail_if_no_progress (apply keeps_mk; on_goal 2 => (constructor <;> first | exact .inr (by decide) | exact .inl rfl)))
    | split

theorem State_setPresent_keeps {m_ : Nat} (hm : maskIn 33800 m_ = true) {s_ s : State} (h_ : Keeps m_ s_ s) (k : Nat) (on : Bool) : Keeps m_ s_ (State.setPresent s k on) := by
  refine Keeps.after hm h_ ?_
  clear hm h_
  unfold State.setPresent
  repeat' with_reducible first
    | assumption
    | exact Keeps.refl _ _
    | (show maskIn _ _ = true; decide)
    | apply State_tellStream_keeps
    | apply keepsR_next
    | apply keeps_ite
    | apply keepsR_ite
    | apply keeps_ite2
    | apply keeps_foldl
    | apply keeps_foldl2
    | apply keeps_foldl3
    | intro _
    | dsimp only
    | (fail_if_no_progress (apply keeps_mk; on_goal 2 => (constructor <;> first | exact .inr (by decide) | exact .inl rfl)))
    | split

theorem State_setPresents_keeps {m_ : Nat} (hm : maskIn 33800 m_ = true) {s_ s : State} (h_ : Keeps m_ s_ s) (ks : List Nat) (on : Bool) : Keeps m_ s_ (State.setPresents s ks on) := by
  refine Keeps.after hm h_ ?_
  clear hm h_
  unfold State.setPresents
  repeat' with_reducible first
    | assumption
    | exact Keeps.refl _ _
    | (show maskIn _ _ = true; decide)
    | apply State_setPresent_keeps
    | apply keepsR_next
    | apply keeps_ite
    | apply keepsR_ite
    | apply keeps_ite2
    | apply keeps_foldl
    | apply keeps_foldl2
    | apply keeps_foldl3
    | intro _
    | dsimp only
    | (fail_if_no_progress (apply keeps_mk; on_goal 2 => (constructor <;> first | exact .inr (by decide) | exact .inl rfl)))
    | split

theorem State_setRx_keeps {m_ : Nat} (hm : maskIn 16384 m_ = true) {s_ s : State} (h_ : Keeps m_ s_ s) (r : Nat) (v : RxCtx) : Keeps m_ s_ (State.setRx s r v) := by
  refine Keeps.after hm h_ ?_
  clear hm h_
  unfold State.setRx
  repeat' with_reducible first
    | assumption
    | exact Keeps.refl _ _
    | (show maskIn _ _ = true; decide)
    | apply keepsR_next
    | apply keeps_ite
    | apply keepsR_ite
    | apply keeps_ite2
    | apply keeps_foldl
    | apply keeps_foldl2
    | apply keeps_foldl3
    | intro _
    | dsimp only
    | (fail_if_no_progress (apply keeps_mk; on_goal 2 => (constructor <;> first | exact .inr (by decide) | exact .inl rfl)))
    | split

theorem State_slotAbsent_keeps {m_ : Nat} (hm : maskIn 33800 m_ = true) {s_ s : State} (h_ : Keeps m_ s_ s) (n : Nat) : Keeps m_ s_ (State.slotAbsent s n) := by
  refine Keeps.after hm h_ ?_
  clear hm h_
  unfold State.slotAbsent
  repeat' with_reducible first
    | assumption
    | exact Keeps.refl _ _
    | (show maskIn _ _ = true; decide)
    | apply State_setPresents_keeps
    | apply keepsR_next
    | apply keeps_ite
    | apply keepsR_ite
    | apply keeps_ite2
    | apply keeps_foldl
    | apply keeps_foldl2
    | apply keeps_foldl3
    | intro _
    | dsimp only
    | (fail_if_no_progress (apply keeps_mk; on_goal 2 => (constructor <;> first | exact .inr (by decide) | exact .inl rfl)))
    | split

theorem State_setChan_keeps {m_ : Nat} (hm : maskIn 1024 m_ = true) {s_ s : State} (h_ : Keeps m_ s_ s) (k : Nat) (c : Chan) : Keeps m_ s_ (State.setChan s k c) := by
  refine Keeps.after hm h_ ?_
  clear hm h_
  unfold State.setChan
  repeat' with_reducible first
    | assumption
    | exact Keeps.refl _ _
    | (show maskIn _ _ = true; decide)
    | apply keepsR_next
    | apply keeps_ite
    | apply keepsR_ite
    | apply keeps_ite2
    | apply keeps_foldl
    | apply keeps_foldl2
    | apply keeps_foldl3
    | intro _
    | dsimp only
    | (fail_if_no_progress (apply keeps_mk; on_goal 2 => (constructor <;> first | exact .inr (by decide) | exact .inl rfl)))
    | split

theorem State_chanPush_keeps {m_ : Nat} (hm : maskIn 1024 m_ = true) {s_ s : State} (h_ : Keeps m_ s_ s) (k : Nat) (t0 : Nat) (jump : Bool) (byLine : Bool) (vs : List Nat) : Keeps m_ s_ (State.chanPush s k t0 jump byLine vs) := by
  refine Keeps.after hm h_ ?_
  clear hm h_
  unfold State.chanPush
  repeat' with_reducible first
    | assumption
    | exact Keeps.refl _ _
    | (show maskIn _ _ = true; decide)
    | apply State_setChan_keeps
    | apply keepsR_next
    | apply keeps_ite
    | apply keepsR_ite
    | apply keeps_ite2
    | apply keeps_foldl
    | apply keeps_foldl2
    | apply keeps_foldl3
    | intro _
    | dsimp only
    | (fail_if_no_progress (apply keeps_mk; on_goal 2 => (constructor <;> first | exact .inr (by decide) | exact .inl rfl)))
    | split

theorem State_notePair_keeps {m_ : Nat} (hm : maskIn 2955 m_ = true) {s_ s : State} (h_ : Keeps m_ s_ s) (slot : Nat) (c : Nat) (unlocked : Bool) : Keeps m_ s_ (State.notePair s slot c unlocked) := by
  refine Keeps.after hm h_ ?_
  clear hm h_
  unfold State.notePair
  repeat' with_reducible first
    | assumption
    | exact Keeps.refl _ _
    | (show maskIn _ _ = true; decide)
    | apply State_raise_keeps
    | apply State_setNum_keeps
    | apply keepsR_next
    | apply keeps_ite
    | apply keepsR_ite
    | apply keeps_ite2
    | apply keeps_foldl
    | apply keeps_foldl2
    | apply keeps_foldl3
    | intro _
    | dsimp only
    | (fail_if_no_progress (apply keeps_mk; on_goal 2 => (constructor <;> first | exact .inr (by decide) | exact .inl rfl)))
    | split

theorem State_pairsGone_keeps {m_ : Nat} (hm : maskIn 2049 m_ = true) {s_ s : State} (h_ : Keeps m_ s_ s) (n : Nat) (gone : Nat → Bool) : Keeps m_ s_ (State.pairsGone s n gone) := by
  refine Keeps.after hm h_ ?_
  clear hm h_
  unfold State.pairsGone
  repeat' with_reducible first
    | assumption
    | exact Keeps.refl _ _
    | (show maskIn _ _ = true; decide)
    | apply State_setNum_keeps
    | apply keepsR_next
    | apply keeps_ite
    | apply keepsR_ite
    | apply keeps_ite2
    | apply keeps_foldl
    | apply keeps_foldl2
    | apply keeps_foldl3
    | intro _
    | dsimp only
    | (fail_if_no_progress (apply keeps_mk; on_goal 2 => (constructor <;> first | exact .inr (by decide) | exact .inl rfl)))
    | split

theorem State_throughAsrc_keeps {m_ : Nat} (hm : maskIn 2048 m_ = true) {s_ s : State} (h_ : Keeps m_ s_ s) (slot : Nat) (c : Nat) (async' : Bool) (vs : List Nat) : Keeps m_ s_ (State.throughAsrc s slot c async' vs).2 := by
  refine Keeps.after hm h_ ?_
  clear hm h_
  unfold State.throughAsrc
  repeat' with_reducible first
    | assumption
    | exact Keeps.refl _ _
    | (show maskIn _ _ = true; decide)
    | apply keepsR_next
    | apply keeps_ite
    | apply keepsR_ite
    | apply keeps_ite2
    | apply keeps_foldl
    | apply keeps_foldl2
    | apply keeps_foldl3
    | intro _
    | dsimp only
    | (fail_if_no_progress (apply keeps_mk; on_goal 2 => (constructor <;> first | exact .inr (by decide) | exact .inl rfl)))
    | split

end Sys2Proof.Machine
end

