-- ==== Sys2Proof/Laws/KeepsAligner.lean ====
section
/-! SUPPORT. Aligner: what every operation keeps. -/

namespace Sys2Proof.Machine

theorem State_alnEvent_keeps {m_ : Nat} (hm : maskIn 906 m_ = true) {s_ s : State} (h_ : Keeps m_ s_ s) (n : Nat) (bit : Nat) (code : Nat) (payload : List Byte) : Keeps m_ s_ (State.alnEvent s n bit code payload) := by
  refine Keeps.after hm h_ ?_
  clear hm h_
  unfold State.alnEvent
  repeat' with_reducible first
    | assumption
    | exact Keeps.refl _ _
    | (show maskIn _ _ = true; decide)
    | apply State_raise_keeps
    | apply State_setBit_keeps
    | apply keepsR_next
    | apply keeps_ite
    | apply keepsR_ite
    | apply keeps_ite2
    | apply keeps_foldl
    | apply keeps_foldl2
    | apply keeps_foldl3
    | intro _
    | dsimp only
    | (fail_if_no_progress (apply keeps_mk; on_goal 2 => (constructor <;> first | exact .inr (by decide) | exact .inl rfl)))
    | split

theorem State_setAlign_keeps {m_ : Nat} (hm : maskIn 1 m_ = true) {s_ s : State} (h_ : Keeps m_ s_ s) (n : Nat) (v : Nat) : Keeps m_ s_ (State.setAlign s n v) := by
  refine Keeps.after hm h_ ?_
  clear hm h_
  unfold State.setAlign
  repeat' with_reducible first
    | assumption
    | exact Keeps.refl _ _
    | (show maskIn _ _ = true; decide)
    | apply State_setNum_keeps
    | apply keepsR_next
    | apply keeps_ite
    | apply keepsR_ite
    | apply keeps_ite2
    | apply keeps_foldl
    | apply keeps_foldl2
    | apply keeps_foldl3
    | intro _
    | dsimp only
    | (fail_if_no_progress (apply keeps_mk; on_goal 2 => (constructor <;> first | exact .inr (by decide) | exact .inl rfl)))
    | split

theorem State_mapSlots_keeps {m_ : Nat} (hm : maskIn 1024 m_ = true) {s_ s : State} (h_ : Keeps m_ s_ s) (ns : List Nat) (f : SlotSt → SlotSt) : Keeps m_ s_ (State.mapSlots s ns f) := by
  refine Keeps.after hm h_ ?_
  clear hm h_
  unfold State.mapSlots
  repeat' with_reducible first
    | assumption
    | exact Keeps.refl _ _
    | (show maskIn _ _ = true; decide)
    | apply State_setSlot_keeps
    | apply keepsR_next
    | apply keeps_ite
    | apply keepsR_ite
    | apply keeps_ite2
    | apply keeps_foldl
    | apply keeps_foldl2
    | apply keeps_foldl3
    | intro _
    | dsimp only
    | (fail_if_no_progress (apply keeps_mk; on_goal 2 => (constructor <;> first | exact .inr (by decide) | exact .inl rfl)))
    | split

theorem State_setAligns_keeps {m_ : Nat} (hm : maskIn 1 m_ = true) {s_ s : State} (h_ : Keeps m_ s_ s) (ns : List Nat) (v : Nat) : Keeps m_ s_ (State.setAligns s ns v) := by
  refine Keeps.after hm h_ ?_
  clear hm h_
  unfold State.setAligns
  repeat' with_reducible first
    | assumption
    | exact Keeps.refl _ _
    | (show maskIn _ _ = true; decide)
    | apply State_setAlign_keeps
    | apply keepsR_next
    | apply keeps_ite
    | apply keepsR_ite
    | apply keeps_ite2
    | apply keeps_foldl
    | apply keeps_foldl2
    | apply keeps_foldl3
    | intro _
    | dsimp only
    | (fail_if_no_progress (apply keeps_mk; on_goal 2 => (constructor <;> first | exact .inr (by decide) | exact .inl rfl)))
    | split

theorem State_slotAcquire_keeps {m_ : Nat} (hm : maskIn 1025 m_ = true) {s_ s : State} (h_ : Keeps m_ s_ s) (n : Nat) : Keeps m_ s_ (State.slotAcquire s n) := by
  refine Keeps.after hm h_ ?_
  clear hm h_
  unfold State.slotAcquire
  repeat' with_reducible first
    | assumption
    | exact Keeps.refl _ _
    | (show maskIn _ _ = true; decide)
    | apply State_setAlign_keeps
    | apply State_setFmember_keeps
    | apply State_setMember_keeps
    | apply State_setSlot_keeps
    | apply keepsR_next
    | apply keeps_ite
    | apply keepsR_ite
    | apply keeps_ite2
    | apply keeps_foldl
    | apply keeps_foldl2
    | apply keeps_foldl3
    | intro _
    | dsimp only
    | (fail_if_no_progress (apply keeps_mk; on_goal 2 => (constructor <;> first | exact .inr (by decide) | exact .inl rfl)))
    | split

theorem State_slotReturn_keeps {m_ : Nat} (hm : maskIn 33801 m_ = true) {s_ s : State} (h_ : Keeps m_ s_ s) (n : Nat) (old : Nat) : Keeps m_ s_ (State.slotReturn s n old) := by
  refine Keeps.after hm h_ ?_
  clear hm h_
  unfold State.slotReturn
  repeat' with_reducible first
    | assumption
    | exact Keeps.refl _ _
    | (show maskIn _ _ = true; decide)
    | apply State_setMember_keeps
    | apply State_setPresents_keeps
    | apply State_setSlot_keeps
    | apply State_slotAcquire_keeps
    | apply keepsR_next
    | apply keeps_ite
    | apply keepsR_ite
    | apply keeps_ite2
    | apply keeps_foldl
    | apply keeps_foldl2
    | apply keeps_foldl3
    | intro _
    | dsimp only
    | (fail_if_no_progress (apply keeps_mk; on_goal 2 => (constructor <;> first | exact .inr (by decide) | exact .inl rfl)))
    | split

theorem State_slotClear_keeps {m_ : Nat} (hm : maskIn 35849 m_ = true) {s_ s : State} (h_ : Keeps m_ s_ s) (n : Nat) : Keeps m_ s_ (State.slotClear s n) := by
  refine Keeps.after hm h_ ?_
  clear hm h_
  unfold State.slotClear
  repeat' with_reducible first
    | assumption
    | exact Keeps.refl _ _
    | (show maskIn _ _ = true; decide)
    | apply State_pairsGone_keeps
    | apply State_setAlign_keeps
    | apply State_setSlot_keeps
    | apply State_slotAbsent_keeps
    | apply keepsR_next
    | apply keeps_ite
    | apply keepsR_ite
    | apply keeps_ite2
    | apply keeps_foldl
    | apply keeps_foldl2
    | apply keeps_foldl3
    | intro _
    | dsimp only
    | (fail_if_no_progress (apply keeps_mk; on_goal 2 => (constructor <;> first | exact .inr (by decide) | exact .inl rfl)))
    | split

theorem State_showWait_keeps {m_ : Nat} (hm : maskIn 1 m_ = true) {s_ s : State} (h_ : Keeps m_ s_ s) (n : Nat) : Keeps m_ s_ (State.showWait s n) := by
  refine Keeps.after hm h_ ?_
  clear hm h_
  unfold State.showWait
  repeat' with_reducible first
    | assumption
    | exact Keeps.refl _ _
    | (show maskIn _ _ = true; decide)
    | apply State_setInt_keeps
    | apply keepsR_next
    | apply keeps_ite
    | apply keepsR_ite
    | apply keeps_ite2
    | apply keeps_foldl
    | apply keeps_foldl2
    | apply keeps_foldl3
    | intro _
    | dsimp only
    | (fail_if_no_progress (apply keeps_mk; on_goal 2 => (constructor <;> first | exact .inr (by decide) | exact .inl rfl)))
    | split

theorem State_freqFrame_keeps {m_ : Nat} (hm : maskIn 1025 m_ = true) {s_ s : State} (h_ : Keeps m_ s_ s) (n : Nat) (f : Nat) (pt : Nat) : Keeps m_ s_ (State.freqFrame s n f pt) := by
  refine Keeps.after hm h_ ?_
  clear hm h_
  unfold State.freqFrame
  repeat' with_reducible first
    | assumption
    | exact Keeps.refl _ _
    | (show maskIn _ _ = true; decide)
    | apply State_setInt_keeps
    | apply State_setSlot_keeps
    | apply keepsR_next
    | apply keeps_ite
    | apply keepsR_ite
    | apply keeps_ite2
    | apply keeps_foldl
    | apply keeps_foldl2
    | apply keeps_foldl3
    | intro _
    | dsimp only
    | (fail_if_no_progress (apply keeps_mk; on_goal 2 => (constructor <;> first | exact .inr (by decide) | exact .inl rfl)))
    | split

theorem State_windowTest_keeps {m_ : Nat} (hm : maskIn 34699 m_ = true) {s_ s : State} (h_ : Keeps m_ s_ s) (n : Nat) (k : Nat) (from_ : Nat) : Keeps m_ s_ (State.windowTest s n k from_) := by
  refine Keeps.after hm h_ ?_
  clear hm h_
  unfold State.windowTest
  repeat' with_reducible first
    | assumption
    | exact Keeps.refl _ _
    | (show maskIn _ _ = true; decide)
    | apply State_alnEvent_keeps
    | apply State_mapSlots_keeps
    | apply State_setAlign_keeps
    | apply State_setSlot_keeps
    | apply State_slotAbsent_keeps
    | apply keepsR_next
    | apply keeps_ite
    | apply keepsR_ite
    | apply keeps_ite2
    | apply keeps_foldl
    | apply keeps_foldl2
    | apply keeps_foldl3
    | intro _
    | dsimp only
    | (fail_if_no_progress (apply keeps_mk; on_goal 2 => (constructor <;> first | exact .inr (by decide) | exact .inl rfl)))
    | split

theorem State_memberEnters_keeps {m_ : Nat} (hm : maskIn 34699 m_ = true) {s_ s : State} (h_ : Keeps m_ s_ s) (n : Nat) (sub : Nat) (k : Nat) (pt : Nat) (w : Int) : Keeps m_ s_ (State.memberEnters s n sub k pt w) := by
  refine Keeps.after hm h_ ?_
  clear hm h_
  unfold State.memberEnters
  repeat' with_reducible first
    | assumption
    | exact Keeps.refl _ _
    | (show maskIn _ _ = true; decide)
    | apply State_setMember_keeps
    | apply State_setPresents_keeps
    | apply State_showWait_keeps
    | apply State_windowTest_keeps
    | apply keepsR_next
    | apply keeps_ite
    | apply keepsR_ite
    | apply keeps_ite2
    | apply keeps_foldl
    | apply keeps_foldl2
    | apply keeps_foldl3
    | intro _
    | dsimp only
    | (fail_if_no_progress (apply keeps_mk; on_goal 2 => (constructor <;> first | exact .inr (by decide) | exact .inl rfl)))
    | split

theorem State_memberTooLate_keeps {m_ : Nat} (hm : maskIn 34698 m_ = true) {s_ s : State} (h_ : Keeps m_ s_ s) (n : Nat) (sub : Nat) (pt : Nat) (w : Int) : Keeps m_ s_ (State.memberTooLate s n sub pt w) := by
  refine Keeps.after hm h_ ?_
  clear hm h_
  unfold State.memberTooLate
  repeat' with_reducible first
    | assumption
    | exact Keeps.refl _ _
    | (show maskIn _ _ = true; decide)
    | apply State_alnEvent_keeps
    | apply State_setMember_keeps
    | apply State_setPresents_keeps
    | apply keepsR_next
    | apply keeps_ite
    | apply keepsR_ite
    | apply keeps_ite2
    | apply keeps_foldl
    | apply keeps_foldl2
    | apply keeps_foldl3
    | intro _
    | dsimp only
    | (fail_if_no_progress (apply keeps_mk; on_goal 2 => (constructor <;> first | exact .inr (by decide) | exact .inl rfl)))
    | split

theorem State_enterFirstLine_keeps {m_ : Nat} (hm : maskIn 34699 m_ = true) {s_ s : State} (h_ : Keeps m_ s_ s) (n : Nat) (sub : Nat) (f : Nat) (pt : Nat) : Keeps m_ s_ (State.enterFirstLine s n sub f pt) := by
  refine Keeps.after hm h_ ?_
  clear hm h_
  unfold State.enterFirstLine
  repeat' with_reducible first
    | assumption
    | exact Keeps.refl _ _
    | (show maskIn _ _ = true; decide)
    | apply State_memberEnters_keeps
    | apply State_memberTooLate_keeps
    | apply keepsR_next
    | apply keeps_ite
    | apply keepsR_ite
    | apply keeps_ite2
    | apply keeps_foldl
    | apply keeps_foldl2
    | apply keeps_foldl3
    | intro _
    | dsimp only
    | (fail_if_no_progress (apply keeps_mk; on_goal 2 => (constructor <;> first | exact .inr (by decide) | exact .inl rfl)))
    | split

theorem State_noteWait_keeps {m_ : Nat} (hm : maskIn 1024 m_ = true) {s_ s : State} (h_ : Keeps m_ s_ s) (n : Nat) (fr : Nat) (pt : Nat) : Keeps m_ s_ (State.noteWait s n fr pt) := by
  refine Keeps.after hm h_ ?_
  clear hm h_
  unfold State.noteWait
  repeat' with_reducible first
    | assumption
    | exact Keeps.refl _ _
    | (show maskIn _ _ = true; decide)
    | apply State_setSlot_keeps
    | apply keepsR_next
    | apply keeps_ite
    | apply keepsR_ite
    | apply keeps_ite2
    | apply keeps_foldl
    | apply keeps_foldl2
    | apply keeps_foldl3
    | intro _
    | dsimp only
    | (fail_if_no_progress (apply keeps_mk; on_goal 2 => (constructor <;> first | exact .inr (by decide) | exact .inl rfl)))
    | split

theorem State_shiftFirst_keeps {m_ : Nat} (hm : maskIn 1024 m_ = true) {s_ s : State} (h_ : Keeps m_ s_ s) (mates : List (Nat × Nat × Nat)) (f : Nat) (k0 : Nat) : Keeps m_ s_ (State.shiftFirst s mates f k0) := by
  refine Keeps.after hm h_ ?_
  clear hm h_
  unfold State.shiftFirst
  repeat' with_reducible first
    | assumption
    | exact Keeps.refl _ _
    | (show maskIn _ _ = true; decide)
    | apply State_setMember_keeps
    | apply State_setSlot_keeps
    | apply keepsR_next
    | apply keeps_ite
    | apply keepsR_ite
    | apply keeps_ite2
    | apply keeps_foldl
    | apply keeps_foldl2
    | apply keeps_foldl3
    | intro _
    | dsimp only
    | (fail_if_no_progress (apply keeps_mk; on_goal 2 => (constructor <;> first | exact .inr (by decide) | exact .inl rfl)))
    | split

theorem State_enterFirstFrame_keeps {m_ : Nat} (hm : maskIn 34699 m_ = true) {s_ s : State} (h_ : Keeps m_ s_ s) (n : Nat) (sub : Nat) (f : Nat) (pt : Nat) : Keeps m_ s_ (State.enterFirstFrame s n sub f pt) := by
  refine Keeps.after hm h_ ?_
  clear hm h_
  unfold State.enterFirstFrame
  repeat' with_reducible first
    | assumption
    | exact Keeps.refl _ _
    | (show maskIn _ _ = true; decide)
    | apply State_memberEnters_keeps
    | apply State_memberTooLate_keeps
    | apply State_noteWait_keeps
    | apply State_setSlot_keeps
    | apply State_shiftFirst_keeps
    | apply keepsR_next
    | apply keeps_ite
    | apply keepsR_ite
    | apply keeps_ite2
    | apply keeps_foldl
    | apply keeps_foldl2
    | apply keeps_foldl3
    | intro _
    | dsimp only
    | (fail_if_no_progress (apply keeps_mk; on_goal 2 => (constructor <;> first | exact .inr (by decide) | exact .inl rfl)))
    | split

theorem State_reacquire_keeps {m_ : Nat} (hm : maskIn 1025 m_ = true) {s_ s : State} (h_ : Keeps m_ s_ s) (m : Nat) : Keeps m_ s_ (State.reacquire s m) := by
  refine Keeps.after hm h_ ?_
  clear hm h_
  unfold State.reacquire
  repeat' with_reducible first
    | assumption
    | exact Keeps.refl _ _
    | (show maskIn _ _ = true; decide)
    | apply State_setMember_keeps
    | apply State_setSlot_keeps
    | apply State_slotAcquire_keeps
    | apply keepsR_next
    | apply keeps_ite
    | apply keepsR_ite
    | apply keeps_ite2
    | apply keeps_foldl
    | apply keeps_foldl2
    | apply keeps_foldl3
    | intro _
    | dsimp only
    | (fail_if_no_progress (apply keeps_mk; on_goal 2 => (constructor <;> first | exact .inr (by decide) | exact .inl rfl)))
    | split

theorem State_doRealign_keeps {m_ : Nat} (hm : maskIn 1025 m_ = true) {s_ s : State} (h_ : Keeps m_ s_ s) (n : Nat) : Keeps m_ s_ (State.doRealign s n) := by
  refine Keeps.after hm h_ ?_
  clear hm h_
  unfold State.doRealign
  repeat' with_reducible first
    | assumption
    | exact Keeps.refl _ _
    | (show maskIn _ _ = true; decide)
    | apply State_reacquire_keeps
    | apply State_setSlot_keeps
    | apply keepsR_next
    | apply keeps_ite
    | apply keepsR_ite
    | apply keeps_ite2
    | apply keeps_foldl
    | apply keeps_foldl2
    | apply keeps_foldl3
    | intro _
    | dsimp only
    | (fail_if_no_progress (apply keeps_mk; on_goal 2 => (constructor <;> first | exact .inr (by decide) | exact .inl rfl)))
    | split

theorem State_enterLineAt_keeps {m_ : Nat} (hm : maskIn 34699 m_ = true) {s_ s : State} (h_ : Keeps m_ s_ s) (pt : Nat) (n : Nat) (sub : Nat) (line : Nat) (data : List Byte) (anc : List (Nat × AncPkt)) (audio : List (Nat × List Nat)) (tc : List (Nat × Nat)) : Keeps m_ s_ (State.enterLineAt s pt n sub line data anc audio tc) := by
  refine Keeps.after hm h_ ?_
  clear hm h_
  unfold State.enterLineAt
  repeat' with_reducible first
    | assumption
    | exact Keeps.refl _ _
    | (show maskIn _ _ = true; decide)
    | apply State_doRealign_keeps
    | apply State_enterFirstFrame_keeps
    | apply State_enterFirstLine_keeps
    | apply State_freqFrame_keeps
    | apply State_setMember_keeps
    | apply State_setPresents_keeps
    | apply State_setSlot_keeps
    | apply State_slotAcquire_keeps
    | apply keepsR_next
    | apply keeps_ite
    | apply keepsR_ite
    | apply keeps_ite2
    | apply keeps_foldl
    | apply keeps_foldl2
    | apply keeps_foldl3
    | intro _
    | dsimp only
    | (fail_if_no_progress (apply keeps_mk; on_goal 2 => (constructor <;> first | exact .inr (by decide) | exact .inl rfl)))
    | split

theorem State_enterLine_keeps {m_ : Nat} (hm : maskIn 34699 m_ = true) {s_ s : State} (h_ : Keeps m_ s_ s) (n : Nat) (sub : Nat) (line : Nat) (data : List Byte) (anc : List (Nat × AncPkt)) (audio : List (Nat × List Nat)) (tc : List (Nat × Nat)) : Keeps m_ s_ (State.enterLine s n sub line data anc audio tc) := by
  refine Keeps.after hm h_ ?_
  clear hm h_
  unfold State.enterLine
  repeat' with_reducible first
    | assumption
    | exact Keeps.refl _ _
    | (show maskIn _ _ = true; decide)
    | apply State_enterLineAt_keeps
    | apply keepsR_next
    | apply keeps_ite
    | apply keepsR_ite
    | apply keeps_ite2
    | apply keeps_foldl
    | apply keeps_foldl2
    | apply keeps_foldl3
    | intro _
    | dsimp only
    | (fail_if_no_progress (apply keeps_mk; on_goal 2 => (constructor <;> first | exact .inr (by decide) | exact .inl rfl)))
    | split

theorem State_releaseAudio_keeps {m_ : Nat} (hm : maskIn 1024 m_ = true) {s_ s : State} (h_ : Keeps m_ s_ s) (n : Nat) (sub : Nat) (k : Nat) (key : Nat) (line : Nat) (u : Option QLine) : Keeps m_ s_ (State.releaseAudio s n sub k key line u) := by
  refine Keeps.after hm h_ ?_
  clear hm h_
  unfold State.releaseAudio
  repeat' with_reducible first
    | assumption
    | exact Keeps.refl _ _
    | (show maskIn _ _ = true; decide)
    | apply State_chanPush_keeps
    | apply keepsR_next
    | apply keeps_ite
    | apply keepsR_ite
    | apply keeps_ite2
    | apply keeps_foldl
    | apply keeps_foldl2
    | apply keeps_foldl3
    | intro _
    | dsimp only
    | (fail_if_no_progress (apply keeps_mk; on_goal 2 => (constructor <;> first | exact .inr (by decide) | exact .inl rfl)))
    | split

theorem State_spliceAudio_keeps {m_ : Nat} (hm : maskIn 1024 m_ = true) {s_ s : State} (h_ : Keeps m_ s_ s) (n : Nat) (k : Nat) (key : Nat) : Keeps m_ s_ (State.spliceAudio s n k key) := by
  refine Keeps.after hm h_ ?_
  clear hm h_
  unfold State.spliceAudio
  repeat' with_reducible first
    | assumption
    | exact Keeps.refl _ _
    | (show maskIn _ _ = true; decide)
    | apply State_setChan_keeps
    | apply keepsR_next
    | apply keeps_ite
    | apply keepsR_ite
    | apply keeps_ite2
    | apply keeps_foldl
    | apply keeps_foldl2
    | apply keeps_foldl3
    | intro _
    | dsimp only
    | (fail_if_no_progress (apply keeps_mk; on_goal 2 => (constructor <;> first | exact .inr (by decide) | exact .inl rfl)))
    | split

theorem State_putRel_keeps {m_ : Nat} (hm : maskIn 1024 m_ = true) {s_ s : State} (h_ : Keeps m_ s_ s) (n : Nat) (u : QLine) : Keeps m_ s_ (State.putRel s n u) := by
  refine Keeps.after hm h_ ?_
  clear hm h_
  unfold State.putRel
  repeat' with_reducible first
    | assumption
    | exact Keeps.refl _ _
    | (show maskIn _ _ = true; decide)
    | apply State_setSlot_keeps
    | apply keepsR_next
    | apply keeps_ite
    | apply keepsR_ite
    | apply keeps_ite2
    | apply keeps_foldl
    | apply keeps_foldl2
    | apply keeps_foldl3
    | intro _
    | dsimp only
    | (fail_if_no_progress (apply keeps_mk; on_goal 2 => (constructor <;> first | exact .inr (by decide) | exact .inl rfl)))
    | split

theorem State_countLate_keeps {m_ : Nat} (hm : maskIn 1931 m_ = true) {s_ s : State} (h_ : Keeps m_ s_ s) (n : Nat) : Keeps m_ s_ (State.countLate s n) := by
  refine Keeps.after hm h_ ?_
  clear hm h_
  unfold State.countLate
  repeat' with_reducible first
    | assumption
    | exact Keeps.refl _ _
    | (show maskIn _ _ = true; decide)
    | apply State_bump_keeps
    | apply State_countSecond_keeps
    | apply State_rcAdd_keeps
    | apply State_setBit_keeps
    | apply keepsR_next
    | apply keeps_ite
    | apply keepsR_ite
    | apply keeps_ite2
    | apply keeps_foldl
    | apply keeps_foldl2
    | apply keeps_foldl3
    | intro _
    | dsimp only
    | (fail_if_no_progress (apply keeps_mk; on_goal 2 => (constructor <;> first | exact .inr (by decide) | exact .inl rfl)))
    | split

theorem State_underrun_keeps {m_ : Nat} (hm : maskIn 907 m_ = true) {s_ s : State} (h_ : Keeps m_ s_ s) (n : Nat) (sid : Nat) : Keeps m_ s_ (State.underrun s n sid) := by
  refine Keeps.after hm h_ ?_
  clear hm h_
  unfold State.underrun
  repeat' with_reducible first
    | assumption
    | exact Keeps.refl _ _
    | (show maskIn _ _ = true; decide)
    | apply State_alnEvent_keeps
    | apply State_setAligns_keeps
    | apply keepsR_next
    | apply keeps_ite
    | apply keepsR_ite
    | apply keeps_ite2
    | apply keeps_foldl
    | apply keeps_foldl2
    | apply keeps_foldl3
    | intro _
    | dsimp only
    | (fail_if_no_progress (apply keeps_mk; on_goal 2 => (constructor <;> first | exact .inr (by decide) | exact .inl rfl)))
    | split

theorem State_rejoined_keeps {m_ : Nat} (hm : maskIn 907 m_ = true) {s_ s : State} (h_ : Keeps m_ s_ s) (n : Nat) (sid : Nat) (missed : Nat) : Keeps m_ s_ (State.rejoined s n sid missed) := by
  refine Keeps.after hm h_ ?_
  clear hm h_
  unfold State.rejoined
  repeat' with_reducible first
    | assumption
    | exact Keeps.refl _ _
    | (show maskIn _ _ = true; decide)
    | apply State_alnEvent_keeps
    | apply State_setAligns_keeps
    | apply keepsR_next
    | apply keeps_ite
    | apply keepsR_ite
    | apply keeps_ite2
    | apply keeps_foldl
    | apply keeps_foldl2
    | apply keeps_foldl3
    | intro _
    | dsimp only
    | (fail_if_no_progress (apply keeps_mk; on_goal 2 => (constructor <;> first | exact .inr (by decide) | exact .inl rfl)))
    | split

theorem State_releaseSub_keeps {m_ : Nat} (hm : maskIn 1931 m_ = true) {s_ s : State} (h_ : Keeps m_ s_ s) (n : Nat) (key : Nat) (k : Nat) (line : Nat) (sub : Nat) : Keeps m_ s_ (State.releaseSub s n key k line sub) := by
  refine Keeps.after hm h_ ?_
  clear hm h_
  unfold State.releaseSub
  repeat' with_reducible first
    | assumption
    | exact Keeps.refl _ _
    | (show maskIn _ _ = true; decide)
    | apply State_bump_keeps
    | apply State_countLate_keeps
    | apply State_putRel_keeps
    | apply State_rcAdd_keeps
    | apply State_rejoined_keeps
    | apply State_releaseAudio_keeps
    | apply State_setMember_keeps
    | apply State_underrun_keeps
    | apply keepsR_next
    | apply keeps_ite
    | apply keepsR_ite
    | apply keeps_ite2
    | apply keeps_foldl
    | apply keeps_foldl2
    | apply keeps_foldl3
    | intro _
    | dsimp only
    | (fail_if_no_progress (apply keeps_mk; on_goal 2 => (constructor <;> first | exact .inr (by decide) | exact .inl rfl)))
    | split

theorem State_releaseFlow_keeps {m_ : Nat} (hm : maskIn 1931 m_ = true) {s_ s : State} (h_ : Keeps m_ s_ s) (n : Nat) (line : Nat) (key : Nat) : Keeps m_ s_ (State.releaseFlow s n line key) := by
  refine Keeps.after hm h_ ?_
  clear hm h_
  unfold State.releaseFlow
  repeat' with_reducible first
    | assumption
    | exact Keeps.refl _ _
    | (show maskIn _ _ = true; decide)
    | apply State_rejoined_keeps
    | apply State_setFmember_keeps
    | apply State_underrun_keeps
    | apply keepsR_next
    | apply keeps_ite
    | apply keepsR_ite
    | apply keeps_ite2
    | apply keeps_foldl
    | apply keeps_foldl2
    | apply keeps_foldl3
    | intro _
    | dsimp only
    | (fail_if_no_progress (apply keeps_mk; on_goal 2 => (constructor <;> first | exact .inr (by decide) | exact .inl rfl)))
    | split

theorem State_lossSamples_keeps {m_ : Nat} (hm : maskIn 1024 m_ = true) {s_ s : State} (h_ : Keeps m_ s_ s) (n : Nat) (k0 : Nat) (t0 : Nat) (t1 : Nat) : Keeps m_ s_ (State.lossSamples s n k0 t0 t1) := by
  refine Keeps.after hm h_ ?_
  clear hm h_
  unfold State.lossSamples
  repeat' with_reducible first
    | assumption
    | exact Keeps.refl _ _
    | (show maskIn _ _ = true; decide)
    | apply State_chanPush_keeps
    | apply keepsR_next
    | apply keeps_ite
    | apply keepsR_ite
    | apply keeps_ite2
    | apply keeps_foldl
    | apply keeps_foldl2
    | apply keeps_foldl3
    | intro _
    | dsimp only
    | (fail_if_no_progress (apply keeps_mk; on_goal 2 => (constructor <;> first | exact .inr (by decide) | exact .inl rfl)))
    | split

theorem State_lossBegins_keeps {m_ : Nat} (hm : maskIn 34699 m_ = true) {s_ s : State} (h_ : Keeps m_ s_ s) (n : Nat) (t0 : Nat) (last : List QLine) : Keeps m_ s_ (State.lossBegins s n t0 last) := by
  refine Keeps.after hm h_ ?_
  clear hm h_
  unfold State.lossBegins
  repeat' with_reducible first
    | assumption
    | exact Keeps.refl _ _
    | (show maskIn _ _ = true; decide)
    | apply State_alnEvent_keeps
    | apply State_setAlign_keeps
    | apply State_setPresents_keeps
    | apply State_setSlot_keeps
    | apply State_slotAcquire_keeps
    | apply keepsR_next
    | apply keeps_ite
    | apply keepsR_ite
    | apply keeps_ite2
    | apply keeps_foldl
    | apply keeps_foldl2
    | apply keeps_foldl3
    | intro _
    | dsimp only
    | (fail_if_no_progress (apply keeps_mk; on_goal 2 => (constructor <;> first | exact .inr (by decide) | exact .inl rfl)))
    | split

theorem State_lossLine_keeps {m_ : Nat} (hm : maskIn 34699 m_ = true) {s_ s : State} (h_ : Keeps m_ s_ s) (n : Nat) (k : Nat) (line : Nat) : Keeps m_ s_ (State.lossLine s n k line) := by
  refine Keeps.after hm h_ ?_
  clear hm h_
  unfold State.lossLine
  repeat' with_reducible first
    | assumption
    | exact Keeps.refl _ _
    | (show maskIn _ _ = true; decide)
    | apply State_lossBegins_keeps
    | apply State_lossSamples_keeps
    | apply State_putRel_keeps
    | apply keepsR_next
    | apply keeps_ite
    | apply keepsR_ite
    | apply keeps_ite2
    | apply keeps_foldl
    | apply keeps_foldl2
    | apply keeps_foldl3
    | intro _
    | dsimp only
    | (fail_if_no_progress (apply keeps_mk; on_goal 2 => (constructor <;> first | exact .inr (by decide) | exact .inl rfl)))
    | split

theorem State_frameStarts_keeps {m_ : Nat} (hm : maskIn 34699 m_ = true) {s_ s : State} (h_ : Keeps m_ s_ s) (n : Nat) (k : Nat) (key : Nat) : Keeps m_ s_ (State.frameStarts s n k key) := by
  refine Keeps.after hm h_ ?_
  clear hm h_
  unfold State.frameStarts
  repeat' with_reducible first
    | assumption
    | exact Keeps.refl _ _
    | (show maskIn _ _ = true; decide)
    | apply State_alnEvent_keeps
    | apply State_setAlign_keeps
    | apply State_setPresents_keeps
    | apply State_setSlot_keeps
    | apply State_spliceAudio_keeps
    | apply keepsR_next
    | apply keeps_ite
    | apply keepsR_ite
    | apply keeps_ite2
    | apply keeps_foldl
    | apply keeps_foldl2
    | apply keeps_foldl3
    | intro _
    | dsimp only
    | (fail_if_no_progress (apply keeps_mk; on_goal 2 => (constructor <;> first | exact .inr (by decide) | exact .inl rfl)))
    | split

theorem State_setLive_keeps {m_ : Nat} (hm : maskIn 1024 m_ = true) {s_ s : State} (h_ : Keeps m_ s_ s) (n : Nat) (v : Bool) : Keeps m_ s_ (State.setLive s n v) := by
  refine Keeps.after hm h_ ?_
  clear hm h_
  unfold State.setLive
  repeat' with_reducible first
    | assumption
    | exact Keeps.refl _ _
    | (show maskIn _ _ = true; decide)
    | apply State_setSlot_keeps
    | apply keepsR_next
    | apply keeps_ite
    | apply keepsR_ite
    | apply keeps_ite2
    | apply keeps_foldl
    | apply keeps_foldl2
    | apply keeps_foldl3
    | intro _
    | dsimp only
    | (fail_if_no_progress (apply keeps_mk; on_goal 2 => (constructor <;> first | exact .inr (by decide) | exact .inl rfl)))
    | split

theorem State_releaseLine_keeps {m_ : Nat} (hm : maskIn 34699 m_ = true) {s_ s0 : State} (h_ : Keeps m_ s_ s0) (n : Nat) (k : Nat) (line : Nat) : Keeps m_ s_ (State.releaseLine s0 n k line) := by
  refine Keeps.after hm h_ ?_
  clear hm h_
  unfold State.releaseLine
  repeat' with_reducible first
    | assumption
    | exact Keeps.refl _ _
    | (show maskIn _ _ = true; decide)
    | apply State_frameStarts_keeps
    | apply State_lossLine_keeps
    | apply State_releaseFlow_keeps
    | apply State_releaseSub_keeps
    | apply State_setLive_keeps
    | apply State_slotAbsent_keeps
    | apply State_windowTest_keeps
    | apply keepsR_next
    | apply keeps_ite
    | apply keepsR_ite
    | apply keeps_ite2
    | apply keeps_foldl
    | apply keeps_foldl2
    | apply keeps_foldl3
    | intro _
    | dsimp only
    | (fail_if_no_progress (apply keeps_mk; on_goal 2 => (constructor <;> first | exact .inr (by decide) | exact .inl rfl)))
    | split

theorem State_showFrame_keeps {m_ : Nat} (hm : maskIn 1024 m_ = true) {s_ s : State} (h_ : Keeps m_ s_ s) (g : List Nat) (k : Nat) (step : Nat) (splice : Bool) (dw : Int) : Keeps m_ s_ (State.showFrame s g k step splice dw) := by
  refine Keeps.after hm h_ ?_
  clear hm h_
  unfold State.showFrame
  repeat' with_reducible first
    | assumption
    | exact Keeps.refl _ _
    | (show maskIn _ _ = true; decide)
    | apply State_setMember_keeps
    | apply State_setSlot_keeps
    | apply keepsR_next
    | apply keeps_ite
    | apply keepsR_ite
    | apply keeps_ite2
    | apply keeps_foldl
    | apply keeps_foldl2
    | apply keeps_foldl3
    | intro _
    | dsimp only
    | (fail_if_no_progress (apply keeps_mk; on_goal 2 => (constructor <;> first | exact .inr (by decide) | exact .inl rfl)))
    | split

theorem State_frameDecision_keeps {m_ : Nat} (hm : maskIn 1931 m_ = true) {s_ s : State} (h_ : Keeps m_ s_ s) (n : Nat) (k : Nat) : Keeps m_ s_ (State.frameDecision s n k) := by
  refine Keeps.after hm h_ ?_
  clear hm h_
  unfold State.frameDecision
  repeat' with_reducible first
    | assumption
    | exact Keeps.refl _ _
    | (show maskIn _ _ = true; decide)
    | apply State_alnEvent_keeps
    | apply State_bump_keeps
    | apply State_mapSlots_keeps
    | apply State_rcAdd_keeps
    | apply State_showFrame_keeps
    | apply State_showWait_keeps
    | apply keepsR_next
    | apply keeps_ite
    | apply keepsR_ite
    | apply keeps_ite2
    | apply keeps_foldl
    | apply keeps_foldl2
    | apply keeps_foldl3
    | intro _
    | dsimp only
    | (fail_if_no_progress (apply keeps_mk; on_goal 2 => (constructor <;> first | exact .inr (by decide) | exact .inl rfl)))
    | split

theorem State_enterSample_keeps {m_ : Nat} (hm : maskIn 1025 m_ = true) {s_ s : State} (h_ : Keeps m_ s_ s) (n : Nat) (t : Nat) (c : Nat) (v : Nat) : Keeps m_ s_ (State.enterSample s n t c v) := by
  refine Keeps.after hm h_ ?_
  clear hm h_
  unfold State.enterSample
  repeat' with_reducible first
    | assumption
    | exact Keeps.refl _ _
    | (show maskIn _ _ = true; decide)
    | apply State_setSlot_keeps
    | apply State_slotAcquire_keeps
    | apply keepsR_next
    | apply keeps_ite
    | apply keepsR_ite
    | apply keeps_ite2
    | apply keeps_foldl
    | apply keeps_foldl2
    | apply keeps_foldl3
    | intro _
    | dsimp only
    | (fail_if_no_progress (apply keeps_mk; on_goal 2 => (constructor <;> first | exact .inr (by decide) | exact .inl rfl)))
    | split

theorem State_releaseSamples_keeps {m_ : Nat} (hm : maskIn 34699 m_ = true) {s_ s : State} (h_ : Keeps m_ s_ s) (n : Nat) (t : Nat) : Keeps m_ s_ (State.releaseSamples s n t) := by
  refine Keeps.after hm h_ ?_
  clear hm h_
  unfold State.releaseSamples
  repeat' with_reducible first
    | assumption
    | exact Keeps.refl _ _
    | (show maskIn _ _ = true; decide)
    | apply State_alnEvent_keeps
    | apply State_chanPush_keeps
    | apply State_countLate_keeps
    | apply State_lossBegins_keeps
    | apply State_lossSamples_keeps
    | apply State_releaseFlow_keeps
    | apply State_setAlign_keeps
    | apply State_setLive_keeps
    | apply State_setSlot_keeps
    | apply keepsR_next
    | apply keeps_ite
    | apply keepsR_ite
    | apply keeps_ite2
    | apply keeps_foldl
    | apply keeps_foldl2
    | apply keeps_foldl3
    | intro _
    | dsimp only
    | (fail_if_no_progress (apply keeps_mk; on_goal 2 => (constructor <;> first | exact .inr (by decide) | exact .inl rfl)))
    | split

end Sys2Proof.Machine
end

