-- ==== Sys2Proof/Laws/KeepsFabCore.lean ====
section
/-! SUPPORT. FabCore: what every operation keeps. -/

namespace Sys2Proof.Machine

theorem State_sendAsk_keeps {m_ : Nat} (hm : maskIn 32776 m_ = true) {s_ s : State} (h_ : Keeps m_ s_ s) (again : Bool) (sid : Nat) (count : Nat) (purpose : Nat) : Keeps m_ s_ (State.sendAsk s again sid count purpose).2 := by
  refine Keeps.after hm h_ ?_
  clear hm h_
  unfold State.sendAsk
  repeat' with_reducible first
    | assumption
    | exact Keeps.refl _ _
    | (show maskIn _ _ = true; decide)
    | apply State_ctlSend_keeps
    | apply State_setLink_keeps
    | apply keepsR_next
    | apply keeps_ite
    | apply keepsR_ite
    | apply keeps_ite2
    | apply keeps_foldl
    | apply keeps_foldl2
    | apply keeps_foldl3
    | intro _
    | dsimp only
    | (fail_if_no_progress (apply keeps_mk; on_goal 2 => (constructor <;> first | exact .inr (by decide) | exact .inl rfl)))
    | split

theorem State_askSub_keeps {m_ : Nat} (hm : maskIn 32776 m_ = true) {s_ s : State} (h_ : Keeps m_ s_ s) (sid : Nat) (count : Nat) (purpose : Nat) : Keeps m_ s_ (State.askSub s sid count purpose).2 := by
  refine Keeps.after hm h_ ?_
  clear hm h_
  unfold State.askSub
  repeat' with_reducible first
    | assumption
    | exact Keeps.refl _ _
    | (show maskIn _ _ = true; decide)
    | apply State_sendAsk_keeps
    | apply keepsR_next
    | apply keeps_ite
    | apply keepsR_ite
    | apply keeps_ite2
    | apply keeps_foldl
    | apply keeps_foldl2
    | apply keeps_foldl3
    | intro _
    | dsimp only
    | (fail_if_no_progress (apply keeps_mk; on_goal 2 => (constructor <;> first | exact .inr (by decide) | exact .inl rfl)))
    | split

theorem State_dropHeld_keeps {m_ : Nat} (hm : maskIn 32776 m_ = true) {s_ s : State} (h_ : Keeps m_ s_ s) (j : Nat) (ch : Nat) : Keeps m_ s_ (State.dropHeld s j ch) := by
  refine Keeps.after hm h_ ?_
  clear hm h_
  unfold State.dropHeld
  repeat' with_reducible first
    | assumption
    | exact Keeps.refl _ _
    | (show maskIn _ _ = true; decide)
    | apply State_ctlSend_keeps
    | apply State_setLink_keeps
    | apply keepsR_next
    | apply keeps_ite
    | apply keepsR_ite
    | apply keeps_ite2
    | apply keeps_foldl
    | apply keeps_foldl2
    | apply keeps_foldl3
    | intro _
    | dsimp only
    | (fail_if_no_progress (apply keeps_mk; on_goal 2 => (constructor <;> first | exact .inr (by decide) | exact .inl rfl)))
    | split

theorem State_linkObjs_keeps {m_ : Nat} (hm : maskIn 1 m_ = true) {s_ s : State} (h_ : Keeps m_ s_ s) (j : Nat) : Keeps m_ s_ (State.linkObjs s j) := by
  refine Keeps.after hm h_ ?_
  clear hm h_
  unfold State.linkObjs
  repeat' with_reducible first
    | assumption
    | exact Keeps.refl _ _
    | (show maskIn _ _ = true; decide)
    | apply State_setNum_keeps
    | apply keepsR_next
    | apply keeps_ite
    | apply keepsR_ite
    | apply keeps_ite2
    | apply keeps_foldl
    | apply keeps_foldl2
    | apply keeps_foldl3
    | intro _
    | dsimp only
    | (fail_if_no_progress (apply keeps_mk; on_goal 2 => (constructor <;> first | exact .inr (by decide) | exact .inl rfl)))
    | split

end Sys2Proof.Machine
end

