-- ==== Sys2Proof/Laws/KeepsTwinLink.lean ====
section
/-! SUPPORT. TwinLink: what every operation keeps. -/

namespace Sys2Proof.Machine

theorem State_tlEmit_keeps {m_ : Nat} (hm : maskIn 8 m_ = true) {s_ s : State} (h_ : Keeps m_ s_ s) (type : Nat) (flags : Nat) (seq : Nat) (body : List Byte) : Keeps m_ s_ (State.tlEmit s type flags seq body) := by
  refine Keeps.after hm h_ ?_
  clear hm h_
  unfold State.tlEmit
  repeat' with_reducible first
    | assumption
    | exact Keeps.refl _ _
    | (show maskIn _ _ = true; decide)
    | apply State_emit_keeps
    | apply keepsR_next
    | apply keeps_ite
    | apply keepsR_ite
    | apply keeps_ite2
    | apply keeps_foldl
    | apply keeps_foldl2
    | apply keeps_foldl3
    | intro _
    | dsimp only
    | (fail_if_no_progress (apply keeps_mk; on_goal 2 => (constructor <;> first | exact .inr (by decide) | exact .inl rfl)))
    | split

theorem State_tlSend_keeps {m_ : Nat} (hm : maskIn 131081 m_ = true) {s_ s : State} (h_ : Keeps m_ s_ s) (type : Nat) (body : List Byte) : Keeps m_ s_ (State.tlSend s type body) := by
  refine Keeps.after hm h_ ?_
  clear hm h_
  unfold State.tlSend
  repeat' with_reducible first
    | assumption
    | exact Keeps.refl _ _
    | (show maskIn _ _ = true; decide)
    | apply State_bump_keeps
    | apply State_tlEmit_keeps
    | apply keepsR_next
    | apply keeps_ite
    | apply keepsR_ite
    | apply keeps_ite2
    | apply keeps_foldl
    | apply keeps_foldl2
    | apply keeps_foldl3
    | intro _
    | dsimp only
    | (fail_if_no_progress (apply keeps_mk; on_goal 2 => (constructor <;> first | exact .inr (by decide) | exact .inl rfl)))
    | split

theorem State_mirror_keeps {m_ : Nat} (hm : maskIn 131081 m_ = true) {s_ s : State} (h_ : Keeps m_ s_ s) (type : Nat) (body : List Byte) : Keeps m_ s_ (State.mirror s type body) := by
  refine Keeps.after hm h_ ?_
  clear hm h_
  unfold State.mirror
  repeat' with_reducible first
    | assumption
    | exact Keeps.refl _ _
    | (show maskIn _ _ = true; decide)
    | apply State_tlSend_keeps
    | apply keepsR_next
    | apply keeps_ite
    | apply keepsR_ite
    | apply keeps_ite2
    | apply keeps_foldl
    | apply keeps_foldl2
    | apply keeps_foldl3
    | intro _
    | dsimp only
    | (fail_if_no_progress (apply keeps_mk; on_goal 2 => (constructor <;> first | exact .inr (by decide) | exact .inl rfl)))
    | split

theorem State_diverge_keeps {m_ : Nat} (hm : maskIn 131978 m_ = true) {s_ s : State} (h_ : Keeps m_ s_ s) (what : Nat) (code : Nat) : Keeps m_ s_ (State.diverge s what code) := by
  refine Keeps.after hm h_ ?_
  clear hm h_
  unfold State.diverge
  repeat' with_reducible first
    | assumption
    | exact Keeps.refl _ _
    | (show maskIn _ _ = true; decide)
    | apply State_raise_keeps
    | apply State_setBit_keeps
    | apply keepsR_next
    | apply keeps_ite
    | apply keepsR_ite
    | apply keeps_ite2
    | apply keeps_foldl
    | apply keeps_foldl2
    | apply keeps_foldl3
    | intro _
    | dsimp only
    | (fail_if_no_progress (apply keeps_mk; on_goal 2 => (constructor <;> first | exact .inr (by decide) | exact .inl rfl)))
    | split

end Sys2Proof.Machine
end

