-- ==== Sys2Proof/Laws/KeepsAnswer.lean ====
section
/-! SUPPORT. Answer: what every operation keeps. -/

namespace Sys2Proof.Machine

theorem State_setSess_keeps {m_ : Nat} (hm : maskIn 64 m_ = true) {s_ s : State} (h_ : Keeps m_ s_ s) (i : Nat) (v : Session) : Keeps m_ s_ (State.setSess s i v) := by
  refine Keeps.after hm h_ ?_
  clear hm h_
  unfold State.setSess
  repeat' with_reducible first
    | assumption
    | exact Keeps.refl _ _
    | (show maskIn _ _ = true; decide)
    | apply keepsR_next
    | apply keeps_ite
    | apply keepsR_ite
    | apply keeps_ite2
    | apply keeps_foldl
    | apply keeps_foldl2
    | apply keeps_foldl3
    | intro _
    | dsimp only
    | (fail_if_no_progress (apply keeps_mk; on_goal 2 => (constructor <;> first | exact .inr (by decide) | exact .inl rfl)))
    | split

theorem State_mbxPlace_keeps {m_ : Nat} (hm : maskIn 142 m_ = true) {s_ s : State} (h_ : Keeps m_ s_ s) (n : Nat) (notify : Bool) (b : List Byte) : Keeps m_ s_ (State.mbxPlace s n notify b) := by
  refine Keeps.after hm h_ ?_
  clear hm h_
  unfold State.mbxPlace
  repeat' with_reducible first
    | assumption
    | exact Keeps.refl _ _
    | (show maskIn _ _ = true; decide)
    | apply State_signal_keeps
    | apply setBytesAt_keeps
    | apply setReg_keeps
    | apply keepsR_next
    | apply keeps_ite
    | apply keepsR_ite
    | apply keeps_ite2
    | apply keeps_foldl
    | apply keeps_foldl2
    | apply keeps_foldl3
    | intro _
    | dsimp only
    | (fail_if_no_progress (apply keeps_mk; on_goal 2 => (constructor <;> first | exact .inr (by decide) | exact .inl rfl)))
    | split

theorem State_sendUdp_keeps {m_ : Nat} (hm : maskIn 72 m_ = true) {s_ s : State} (h_ : Keeps m_ s_ s) (i : Nat) (msg : List Byte) : Keeps m_ s_ (State.sendUdp s i msg) := by
  refine Keeps.after hm h_ ?_
  clear hm h_
  unfold State.sendUdp
  repeat' with_reducible first
    | assumption
    | exact Keeps.refl _ _
    | (show maskIn _ _ = true; decide)
    | apply State_emit_keeps
    | apply State_setSess_keeps
    | apply keepsR_next
    | apply keeps_ite
    | apply keepsR_ite
    | apply keeps_ite2
    | apply keeps_foldl
    | apply keeps_foldl2
    | apply keeps_foldl3
    | intro _
    | dsimp only
    | (fail_if_no_progress (apply keeps_mk; on_goal 2 => (constructor <;> first | exact .inr (by decide) | exact .inl rfl)))
    | split

theorem State_respond_keeps {m_ : Nat} (hm : maskIn 206 m_ = true) {s_ s : State} (h_ : Keeps m_ s_ s) (i : Nat) (seq : Nat) (recs : List RespRec) : Keeps m_ s_ (State.respond s i seq recs) := by
  refine Keeps.after hm h_ ?_
  clear hm h_
  unfold State.respond
  repeat' with_reducible first
    | assumption
    | exact Keeps.refl _ _
    | (show maskIn _ _ = true; decide)
    | apply State_mbxPlace_keeps
    | apply State_sendUdp_keeps
    | apply keepsR_next
    | apply keeps_ite
    | apply keepsR_ite
    | apply keeps_ite2
    | apply keeps_foldl
    | apply keeps_foldl2
    | apply keeps_foldl3
    | intro _
    | dsimp only
    | (fail_if_no_progress (apply keeps_mk; on_goal 2 => (constructor <;> first | exact .inr (by decide) | exact .inl rfl)))
    | split

theorem State_finishMsg_keeps {m_ : Nat} (hm : maskIn 206 m_ = true) {s_ s : State} (h_ : Keeps m_ s_ s) (i : Nat) : Keeps m_ s_ (State.finishMsg s i) := by
  refine Keeps.after hm h_ ?_
  clear hm h_
  unfold State.finishMsg
  repeat' with_reducible first
    | assumption
    | exact Keeps.refl _ _
    | (show maskIn _ _ = true; decide)
    | apply State_respond_keeps
    | apply keepsR_next
    | apply keeps_ite
    | apply keepsR_ite
    | apply keeps_ite2
    | apply keeps_foldl
    | apply keeps_foldl2
    | apply keeps_foldl3
    | intro _
    | dsimp only
    | (fail_if_no_progress (apply keeps_mk; on_goal 2 => (constructor <;> first | exact .inr (by decide) | exact .inl rfl)))
    | split

theorem State_finishWait_keeps {m_ : Nat} (hm : maskIn 206 m_ = true) {s_ s : State} (h_ : Keeps m_ s_ s) (i : Nat) (q : Nat) : Keeps m_ s_ (State.finishWait s i q) := by
  refine Keeps.after hm h_ ?_
  clear hm h_
  unfold State.finishWait
  repeat' with_reducible first
    | assumption
    | exact Keeps.refl _ _
    | (show maskIn _ _ = true; decide)
    | apply State_finishMsg_keeps
    | apply keepsR_next
    | apply keeps_ite
    | apply keepsR_ite
    | apply keeps_ite2
    | apply keeps_foldl
    | apply keeps_foldl2
    | apply keeps_foldl3
    | intro _
    | dsimp only
    | (fail_if_no_progress (apply keeps_mk; on_goal 2 => (constructor <;> first | exact .inr (by decide) | exact .inl rfl)))
    | split

theorem State_addRec_keeps {m_ : Nat} (hm : maskIn 64 m_ = true) {s_ s : State} (h_ : Keeps m_ s_ s) (i : Nat) (r : RespRec) : Keeps m_ s_ (State.addRec s i r) := by
  refine Keeps.after hm h_ ?_
  clear hm h_
  unfold State.addRec
  repeat' with_reducible first
    | assumption
    | exact Keeps.refl _ _
    | (show maskIn _ _ = true; decide)
    | apply State_setSess_keeps
    | apply keepsR_next
    | apply keeps_ite
    | apply keepsR_ite
    | apply keeps_ite2
    | apply keeps_foldl
    | apply keeps_foldl2
    | apply keeps_foldl3
    | intro _
    | dsimp only
    | (fail_if_no_progress (apply keeps_mk; on_goal 2 => (constructor <;> first | exact .inr (by decide) | exact .inl rfl)))
    | split

theorem State_answerAt_keeps {m_ : Nat} (hm : maskIn 64 m_ = true) {s_ s : State} (h_ : Keeps m_ s_ s) (slot : Nat) (seq : Nat) (idx : Nat) (status : Nat) (value : List Byte) : Keeps m_ s_ (State.answerAt s slot seq idx status value) := by
  refine Keeps.after hm h_ ?_
  clear hm h_
  unfold State.answerAt
  repeat' with_reducible first
    | assumption
    | exact Keeps.refl _ _
    | (show maskIn _ _ = true; decide)
    | apply State_setSess_keeps
    | apply keepsR_next
    | apply keeps_ite
    | apply keepsR_ite
    | apply keeps_ite2
    | apply keeps_foldl
    | apply keeps_foldl2
    | apply keeps_foldl3
    | intro _
    | dsimp only
    | (fail_if_no_progress (apply keeps_mk; on_goal 2 => (constructor <;> first | exact .inr (by decide) | exact .inl rfl)))
    | split

theorem State_settle_keeps {m_ : Nat} (hm : maskIn 206 m_ = true) {s_ s : State} (h_ : Keeps m_ s_ s) (w : Waiter) (status : Nat) (value : List Byte) : Keeps m_ s_ (State.settle s w status value) := by
  refine Keeps.after hm h_ ?_
  clear hm h_
  unfold State.settle
  repeat' with_reducible first
    | assumption
    | exact Keeps.refl _ _
    | (show maskIn _ _ = true; decide)
    | apply State_answerAt_keeps
    | apply State_finishWait_keeps
    | apply keepsR_next
    | apply keeps_ite
    | apply keepsR_ite
    | apply keeps_ite2
    | apply keeps_foldl
    | apply keeps_foldl2
    | apply keeps_foldl3
    | intro _
    | dsimp only
    | (fail_if_no_progress (apply keeps_mk; on_goal 2 => (constructor <;> first | exact .inr (by decide) | exact .inl rfl)))
    | split

theorem State_settleKind_keeps {m_ : Nat} (hm : maskIn 206 m_ = true) {s_ s : State} (h_ : Keeps m_ s_ s) (kind : Nat) : Keeps m_ s_ (State.settleKind s kind) := by
  refine Keeps.after hm h_ ?_
  clear hm h_
  unfold State.settleKind
  repeat' with_reducible first
    | assumption
    | exact Keeps.refl _ _
    | (show maskIn _ _ = true; decide)
    | apply State_settle_keeps
    | apply keepsR_next
    | apply keeps_ite
    | apply keepsR_ite
    | apply keeps_ite2
    | apply keeps_foldl
    | apply keeps_foldl2
    | apply keeps_foldl3
    | intro _
    | dsimp only
    | (fail_if_no_progress (apply keeps_mk; on_goal 2 => (constructor <;> first | exact .inr (by decide) | exact .inl rfl)))
    | split

theorem State_await_keeps {m_ : Nat} (hm : maskIn 64 m_ = true) {s_ s : State} (h_ : Keeps m_ s_ s) (w : Waiter) : Keeps m_ s_ (State.await s w) := by
  refine Keeps.after hm h_ ?_
  clear hm h_
  unfold State.await
  repeat' with_reducible first
    | assumption
    | exact Keeps.refl _ _
    | (show maskIn _ _ = true; decide)
    | apply keepsR_next
    | apply keeps_ite
    | apply keepsR_ite
    | apply keeps_ite2
    | apply keeps_foldl
    | apply keeps_foldl2
    | apply keeps_foldl3
    | intro _
    | dsimp only
    | (fail_if_no_progress (apply keeps_mk; on_goal 2 => (constructor <;> first | exact .inr (by decide) | exact .inl rfl)))
    | split

theorem State_addDetails_keeps {m_ : Nat} (hm : maskIn 64 m_ = true) {s_ s : State} (h_ : Keeps m_ s_ s) (slot : Nat) (seq : Nat) (keys : List (Nat × Nat)) : Keeps m_ s_ (State.addDetails s slot seq keys) := by
  refine Keeps.after hm h_ ?_
  clear hm h_
  unfold State.addDetails
  repeat' with_reducible first
    | assumption
    | exact Keeps.refl _ _
    | (show maskIn _ _ = true; decide)
    | apply State_setSess_keeps
    | apply keepsR_next
    | apply keeps_ite
    | apply keepsR_ite
    | apply keeps_ite2
    | apply keeps_foldl
    | apply keeps_foldl2
    | apply keeps_foldl3
    | intro _
    | dsimp only
    | (fail_if_no_progress (apply keeps_mk; on_goal 2 => (constructor <;> first | exact .inr (by decide) | exact .inl rfl)))
    | split

theorem State_hurdleObjs_keeps {m_ : Nat} (hm : maskIn 1 m_ = true) {s_ s : State} (h_ : Keeps m_ s_ s) (area : Nat) (code : Nat) (key : Nat) : Keeps m_ s_ (State.hurdleObjs s area code key) := by
  refine Keeps.after hm h_ ?_
  clear hm h_
  unfold State.hurdleObjs
  repeat' with_reducible first
    | assumption
    | exact Keeps.refl _ _
    | (show maskIn _ _ = true; decide)
    | apply State_setNum_keeps
    | apply keepsR_next
    | apply keeps_ite
    | apply keepsR_ite
    | apply keeps_ite2
    | apply keeps_foldl
    | apply keeps_foldl2
    | apply keeps_foldl3
    | intro _
    | dsimp only
    | (fail_if_no_progress (apply keeps_mk; on_goal 2 => (constructor <;> first | exact .inr (by decide) | exact .inl rfl)))
    | split

theorem State_noteRefused_keeps {m_ : Nat} (hm : maskIn 906 m_ = true) {s_ s : State} (h_ : Keeps m_ s_ s) (area : Nat) (session : Nat) (code : Nat) (key : Nat) : Keeps m_ s_ (State.noteRefused s area session code key) := by
  refine Keeps.after hm h_ ?_
  clear hm h_
  unfold State.noteRefused
  repeat' with_reducible first
    | assumption
    | exact Keeps.refl _ _
    | (show maskIn _ _ = true; decide)
    | apply State_raise_keeps
    | apply keepsR_next
    | apply keeps_ite
    | apply keepsR_ite
    | apply keeps_ite2
    | apply keeps_foldl
    | apply keeps_foldl2
    | apply keeps_foldl3
    | intro _
    | dsimp only
    | (fail_if_no_progress (apply keeps_mk; on_goal 2 => (constructor <;> first | exact .inr (by decide) | exact .inl rfl)))
    | split

theorem State_enableRefused_keeps {m_ : Nat} (hm : maskIn 907 m_ = true) {s_ s : State} (h_ : Keeps m_ s_ s) (area : Nat) (session : Nat) (code : Nat) (key : Nat) : Keeps m_ s_ (State.enableRefused s area session code key) := by
  refine Keeps.after hm h_ ?_
  clear hm h_
  unfold State.enableRefused
  repeat' with_reducible first
    | assumption
    | exact Keeps.refl _ _
    | (show maskIn _ _ = true; decide)
    | apply State_hurdleObjs_keeps
    | apply State_noteRefused_keeps
    | apply keepsR_next
    | apply keeps_ite
    | apply keepsR_ite
    | apply keeps_ite2
    | apply keeps_foldl
    | apply keeps_foldl2
    | apply keeps_foldl3
    | intro _
    | dsimp only
    | (fail_if_no_progress (apply keeps_mk; on_goal 2 => (constructor <;> first | exact .inr (by decide) | exact .inl rfl)))
    | split

theorem State_refuseWait_keeps {m_ : Nat} (hm : maskIn 132047 m_ = true) {s_ s : State} (h_ : Keeps m_ s_ s) (w : Waiter) (code : Nat) : Keeps m_ s_ (State.refuseWait s w code) := by
  refine Keeps.after hm h_ ?_
  clear hm h_
  unfold State.refuseWait
  repeat' with_reducible first
    | assumption
    | exact Keeps.refl _ _
    | (show maskIn _ _ = true; decide)
    | apply State_addDetails_keeps
    | apply State_answerAt_keeps
    | apply State_enableRefused_keeps
    | apply State_finishWait_keeps
    | apply State_mirror_keeps
    | apply State_settle_keeps
    | apply keepsR_next
    | apply keeps_ite
    | apply keepsR_ite
    | apply keeps_ite2
    | apply keeps_foldl
    | apply keeps_foldl2
    | apply keeps_foldl3
    | intro _
    | dsimp only
    | (fail_if_no_progress (apply keeps_mk; on_goal 2 => (constructor <;> first | exact .inr (by decide) | exact .inl rfl)))
    | split

theorem State_refuseWaits_keeps {m_ : Nat} (hm : maskIn 132047 m_ = true) {s_ s : State} (h_ : Keeps m_ s_ s) (j : Nat) (reqId : Nat) (code : Nat) : Keeps m_ s_ (State.refuseWaits s j reqId code) := by
  refine Keeps.after hm h_ ?_
  clear hm h_
  unfold State.refuseWaits
  repeat' with_reducible first
    | assumption
    | exact Keeps.refl _ _
    | (show maskIn _ _ = true; decide)
    | apply State_refuseWait_keeps
    | apply keepsR_next
    | apply keeps_ite
    | apply keepsR_ite
    | apply keeps_ite2
    | apply keeps_foldl
    | apply keeps_foldl2
    | apply keeps_foldl3
    | intro _
    | dsimp only
    | (fail_if_no_progress (apply keeps_mk; on_goal 2 => (constructor <;> first | exact .inr (by decide) | exact .inl rfl)))
    | split

end Sys2Proof.Machine
end

