-- ==== Sys2Proof/Laws/KeepsTakes.lean ====
section
/-! SUPPORT. Takes: what every operation keeps. -/

namespace Sys2Proof.Machine

theorem State_outEvent_keeps {m_ : Nat} (hm : maskIn 906 m_ = true) {s_ s : State} (h_ : Keeps m_ s_ s) (o : Nat) (bit : Nat) (code : Nat) (payload : List Byte) : Keeps m_ s_ (State.outEvent s o bit code payload) := by
  refine Keeps.after hm h_ ?_
  clear hm h_
  unfold State.outEvent
  repeat' with_reducible first
    | assumption
    | exact Keeps.refl _ _
    | (show maskIn _ _ = true; decide)
    | apply State_raise_keeps
    | apply State_setBit_keeps
    | apply keepsR_next
    | apply keeps_ite
    | apply keepsR_ite
    | apply keeps_ite2
    | apply keeps_foldl
    | apply keeps_foldl2
    | apply keeps_foldl3
    | intro _
    | dsimp only
    | (fail_if_no_progress (apply keeps_mk; on_goal 2 => (constructor <;> first | exact .inr (by decide) | exact .inl rfl)))
    | split

theorem State_putEntry_keeps {m_ : Nat} (hm : maskIn 1165 m_ = true) {s_ s : State} (h_ : Keeps m_ s_ s) (seq : Nat) (b : List Byte) : Keeps m_ s_ (State.putEntry s seq b) := by
  refine Keeps.after hm h_ ?_
  clear hm h_
  unfold State.putEntry
  repeat' with_reducible first
    | assumption
    | exact Keeps.refl _ _
    | (show maskIn _ _ = true; decide)
    | apply State_setNum_keeps
    | apply State_signal_keeps
    | apply setBytesAt_keeps
    | apply keepsR_next
    | apply keeps_ite
    | apply keepsR_ite
    | apply keeps_ite2
    | apply keeps_foldl
    | apply keeps_foldl2
    | apply keeps_foldl3
    | intro _
    | dsimp only
    | (fail_if_no_progress (apply keeps_mk; on_goal 2 => (constructor <;> first | exact .inr (by decide) | exact .inl rfl)))
    | split

theorem State_compareOwn_keeps {m_ : Nat} (hm : maskIn 131978 m_ = true) {s_ s : State} (h_ : Keeps m_ s_ s) (batch : Nat) (o : Nat) (status : Nat) : Keeps m_ s_ (State.compareOwn s batch o status) := by
  refine Keeps.after hm h_ ?_
  clear hm h_
  unfold State.compareOwn
  repeat' with_reducible first
    | assumption
    | exact Keeps.refl _ _
    | (show maskIn _ _ = true; decide)
    | apply State_diverge_keeps
    | apply keepsR_next
    | apply keeps_ite
    | apply keepsR_ite
    | apply keeps_ite2
    | apply keeps_foldl
    | apply keeps_foldl2
    | apply keeps_foldl3
    | intro _
    | dsimp only
    | (fail_if_no_progress (apply keeps_mk; on_goal 2 => (constructor <;> first | exact .inr (by decide) | exact .inl rfl)))
    | split

theorem State_journal_keeps {m_ : Nat} (hm : maskIn 133007 m_ = true) {s_ s : State} (h_ : Keeps m_ s_ s) (status : Nat) (origin : Nat) (split : Bool) (r : TakeRec) (ta : Nat) (k : Nat) : Keeps m_ s_ (State.journal s status origin split r ta k) := by
  refine Keeps.after hm h_ ?_
  clear hm h_
  unfold State.journal
  repeat' with_reducible first
    | assumption
    | exact Keeps.refl _ _
    | (show maskIn _ _ = true; decide)
    | apply State_compareOwn_keeps
    | apply State_mirror_keeps
    | apply State_putEntry_keeps
    | apply keepsR_next
    | apply keeps_ite
    | apply keepsR_ite
    | apply keeps_ite2
    | apply keeps_foldl
    | apply keeps_foldl2
    | apply keeps_foldl3
    | intro _
    | dsimp only
    | (fail_if_no_progress (apply keeps_mk; on_goal 2 => (constructor <;> first | exact .inr (by decide) | exact .inl rfl)))
    | split

theorem State_ringIrq_keeps {m_ : Nat} (hm : maskIn 136 m_ = true) {s_ s : State} (h_ : Keeps m_ s_ s) (origin : Nat) : Keeps m_ s_ (State.ringIrq s origin) := by
  refine Keeps.after hm h_ ?_
  clear hm h_
  unfold State.ringIrq
  repeat' with_reducible first
    | assumption
    | exact Keeps.refl _ _
    | (show maskIn _ _ = true; decide)
    | apply State_signal_keeps
    | apply keepsR_next
    | apply keeps_ite
    | apply keepsR_ite
    | apply keeps_ite2
    | apply keeps_foldl
    | apply keeps_foldl2
    | apply keeps_foldl3
    | intro _
    | dsimp only
    | (fail_if_no_progress (apply keeps_mk; on_goal 2 => (constructor <;> first | exact .inr (by decide) | exact .inl rfl)))
    | split

theorem State_setBatches_keeps {m_ : Nat} (hm : maskIn 1024 m_ = true) {s_ s : State} (h_ : Keeps m_ s_ s) (l : List Batch) : Keeps m_ s_ (State.setBatches s l) := by
  refine Keeps.after hm h_ ?_
  clear hm h_
  unfold State.setBatches
  repeat' with_reducible first
    | assumption
    | exact Keeps.refl _ _
    | (show maskIn _ _ = true; decide)
    | apply keepsR_next
    | apply keeps_ite
    | apply keepsR_ite
    | apply keeps_ite2
    | apply keeps_foldl
    | apply keeps_foldl2
    | apply keeps_foldl3
    | intro _
    | dsimp only
    | (fail_if_no_progress (apply keeps_mk; on_goal 2 => (constructor <;> first | exact .inr (by decide) | exact .inl rfl)))
    | split

theorem State_pendObj_keeps {m_ : Nat} (hm : maskIn 1 m_ = true) {s_ s : State} (h_ : Keeps m_ s_ s) (o : Nat) : Keeps m_ s_ (State.pendObj s o) := by
  refine Keeps.after hm h_ ?_
  clear hm h_
  unfold State.pendObj
  repeat' with_reducible first
    | assumption
    | exact Keeps.refl _ _
    | (show maskIn _ _ = true; decide)
    | apply State_setNum_keeps
    | apply keepsR_next
    | apply keeps_ite
    | apply keepsR_ite
    | apply keeps_ite2
    | apply keeps_foldl
    | apply keeps_foldl2
    | apply keeps_foldl3
    | intro _
    | dsimp only
    | (fail_if_no_progress (apply keeps_mk; on_goal 2 => (constructor <;> first | exact .inr (by decide) | exact .inl rfl)))
    | split

theorem State_ringRefused_keeps {m_ : Nat} (hm : maskIn 2 m_ = true) {s_ s : State} (h_ : Keeps m_ s_ s) (origin : Nat) (status : Nat) : Keeps m_ s_ (State.ringRefused s origin status) := by
  refine Keeps.after hm h_ ?_
  clear hm h_
  unfold State.ringRefused
  repeat' with_reducible first
    | assumption
    | exact Keeps.refl _ _
    | (show maskIn _ _ = true; decide)
    | apply setReg_keeps
    | apply keepsR_next
    | apply keeps_ite
    | apply keepsR_ite
    | apply keeps_ite2
    | apply keeps_foldl
    | apply keeps_foldl2
    | apply keeps_foldl3
    | intro _
    | dsimp only
    | (fail_if_no_progress (apply keeps_mk; on_goal 2 => (constructor <;> first | exact .inr (by decide) | exact .inl rfl)))
    | split

theorem State_refuseBatch_keeps {m_ : Nat} (hm : maskIn 133007 m_ = true) {s_ s : State} (h_ : Keeps m_ s_ s) (origin : Nat) (recs : List (TakeRec × Nat)) (ta : Nat) : Keeps m_ s_ (State.refuseBatch s origin recs ta) := by
  refine Keeps.after hm h_ ?_
  clear hm h_
  unfold State.refuseBatch
  repeat' with_reducible first
    | assumption
    | exact Keeps.refl _ _
    | (show maskIn _ _ = true; decide)
    | apply State_journal_keeps
    | apply State_raise_keeps
    | apply State_ringIrq_keeps
    | apply State_ringRefused_keeps
    | apply keepsR_next
    | apply keeps_ite
    | apply keepsR_ite
    | apply keeps_ite2
    | apply keeps_foldl
    | apply keeps_foldl2
    | apply keeps_foldl3
    | intro _
    | dsimp only
    | (fail_if_no_progress (apply keeps_mk; on_goal 2 => (constructor <;> first | exact .inr (by decide) | exact .inl rfl)))
    | split

theorem State_sweepBatches_keeps {m_ : Nat} (hm : maskIn 1930 m_ = true) {s_ s : State} (h_ : Keeps m_ s_ s)  : Keeps m_ s_ (State.sweepBatches s) := by
  refine Keeps.after hm h_ ?_
  clear hm h_
  unfold State.sweepBatches
  repeat' with_reducible first
    | assumption
    | exact Keeps.refl _ _
    | (show maskIn _ _ = true; decide)
    | apply State_raise_keeps
    | apply State_ringIrq_keeps
    | apply State_setBatches_keeps
    | apply keepsR_next
    | apply keeps_ite
    | apply keepsR_ite
    | apply keeps_ite2
    | apply keeps_foldl
    | apply keeps_foldl2
    | apply keeps_foldl3
    | intro _
    | dsimp only
    | (fail_if_no_progress (apply keeps_mk; on_goal 2 => (constructor <;> first | exact .inr (by decide) | exact .inl rfl)))
    | split

theorem State_askNeeds_keeps {m_ : Nat} (hm : maskIn 32776 m_ = true) {s_ s : State} (h_ : Keeps m_ s_ s) (needs : List Nat) : Keeps m_ s_ (State.askNeeds s needs).2 := by
  refine Keeps.after hm h_ ?_
  clear hm h_
  unfold State.askNeeds
  repeat' with_reducible first
    | assumption
    | exact Keeps.refl _ _
    | (show maskIn _ _ = true; decide)
    | apply State_askSub_keeps
    | apply keepsR_next
    | apply keeps_ite
    | apply keepsR_ite
    | apply keeps_ite2
    | apply keeps_foldl
    | apply keeps_foldl2
    | apply keeps_foldl3
    | intro _
    | dsimp only
    | (fail_if_no_progress (apply keeps_mk; on_goal 2 => (constructor <;> first | exact .inr (by decide) | exact .inl rfl)))
    | split

theorem State_acceptBatch_keeps {m_ : Nat} (hm : maskIn 165775 m_ = true) {s_ s : State} (h_ : Keeps m_ s_ s) (origin : Nat) (outs : Nat) (recs : List (TakeRec × List (Nat × Nat))) : Keeps m_ s_ (State.acceptBatch s origin outs recs) := by
  refine Keeps.after hm h_ ?_
  clear hm h_
  unfold State.acceptBatch
  repeat' with_reducible first
    | assumption
    | exact Keeps.refl _ _
    | (show maskIn _ _ = true; decide)
    | apply State_askNeeds_keeps
    | apply State_journal_keeps
    | apply State_mirror_keeps
    | apply State_pendObj_keeps
    | apply State_raise_keeps
    | apply State_ringIrq_keeps
    | apply keepsR_next
    | apply keeps_ite
    | apply keepsR_ite
    | apply keeps_ite2
    | apply keeps_foldl
    | apply keeps_foldl2
    | apply keeps_foldl3
    | intro _
    | dsimp only
    | (fail_if_no_progress (apply keeps_mk; on_goal 2 => (constructor <;> first | exact .inr (by decide) | exact .inl rfl)))
    | split

theorem State_arriveBatch_keeps {m_ : Nat} (hm : maskIn 165775 m_ = true) {s_ s : State} (h_ : Keeps m_ s_ s) (origin : Nat) (recs : List TakeRec) : Keeps m_ s_ (State.arriveBatch s origin recs).2 := by
  refine Keeps.after hm h_ ?_
  clear hm h_
  unfold State.arriveBatch
  repeat' with_reducible first
    | assumption
    | exact Keeps.refl _ _
    | (show maskIn _ _ = true; decide)
    | apply State_acceptBatch_keeps
    | apply State_journal_keeps
    | apply State_raise_keeps
    | apply State_refuseBatch_keeps
    | apply State_ringIrq_keeps
    | apply State_ringRefused_keeps
    | apply keepsR_next
    | apply keeps_ite
    | apply keepsR_ite
    | apply keeps_ite2
    | apply keeps_foldl
    | apply keeps_foldl2
    | apply keeps_foldl3
    | intro _
    | dsimp only
    | (fail_if_no_progress (apply keeps_mk; on_goal 2 => (constructor <;> first | exact .inr (by decide) | exact .inl rfl)))
    | split

theorem State_abandonTakes_keeps {m_ : Nat} (hm : maskIn 133007 m_ = true) {s_ s : State} (h_ : Keeps m_ s_ s)  : Keeps m_ s_ (State.abandonTakes s) := by
  refine Keeps.after hm h_ ?_
  clear hm h_
  unfold State.abandonTakes
  repeat' with_reducible first
    | assumption
    | exact Keeps.refl _ _
    | (show maskIn _ _ = true; decide)
    | apply State_journal_keeps
    | apply State_pendObj_keeps
    | apply State_ringIrq_keeps
    | apply State_setBatches_keeps
    | apply State_setOut_keeps
    | apply keepsR_next
    | apply keeps_ite
    | apply keepsR_ite
    | apply keeps_ite2
    | apply keeps_foldl
    | apply keeps_foldl2
    | apply keeps_foldl3
    | intro _
    | dsimp only
    | (fail_if_no_progress (apply keeps_mk; on_goal 2 => (constructor <;> first | exact .inr (by decide) | exact .inl rfl)))
    | split

end Sys2Proof.Machine
end

