-- ==== Sys2Proof/Laws/KeepsTwinCore.lean ====
section
/-! SUPPORT. TwinCore: what every operation keeps. -/

namespace Sys2Proof.Machine

theorem State_keepBase_keeps {m_ : Nat} (hm : maskIn 131072 m_ = true) {s_ s : State} (h_ : Keeps m_ s_ s)  : Keeps m_ s_ (State.keepBase s) := by
  refine Keeps.after hm h_ ?_
  clear hm h_
  unfold State.keepBase
  repeat' with_reducible first
    | assumption
    | exact Keeps.refl _ _
    | (show maskIn _ _ = true; decide)
    | apply keepsR_next
    | apply keeps_ite
    | apply keepsR_ite
    | apply keeps_ite2
    | apply keeps_foldl
    | apply keeps_foldl2
    | apply keeps_foldl3
    | intro _
    | dsimp only
    | (fail_if_no_progress (apply keeps_mk; on_goal 2 => (constructor <;> first | exact .inr (by decide) | exact .inl rfl)))
    | split

theorem State_setTwin_keeps {m_ : Nat} (hm : maskIn 131979 m_ = true) {s_ s : State} (h_ : Keeps m_ s_ s) (v : Nat) : Keeps m_ s_ (State.setTwin s v) := by
  refine Keeps.after hm h_ ?_
  clear hm h_
  unfold State.setTwin
  repeat' with_reducible first
    | assumption
    | exact Keeps.refl _ _
    | (show maskIn _ _ = true; decide)
    | apply State_keepBase_keeps
    | apply State_raise_keeps
    | apply State_setNum_keeps
    | apply keepsR_next
    | apply keeps_ite
    | apply keepsR_ite
    | apply keeps_ite2
    | apply keeps_foldl
    | apply keeps_foldl2
    | apply keeps_foldl3
    | intro _
    | dsimp only
    | (fail_if_no_progress (apply keeps_mk; on_goal 2 => (constructor <;> first | exact .inr (by decide) | exact .inl rfl)))
    | split

theorem State_twinRest_keeps {m_ : Nat} (hm : maskIn 131979 m_ = true) {s_ s : State} (h_ : Keeps m_ s_ s)  : Keeps m_ s_ (State.twinRest s) := by
  refine Keeps.after hm h_ ?_
  clear hm h_
  unfold State.twinRest
  repeat' with_reducible first
    | assumption
    | exact Keeps.refl _ _
    | (show maskIn _ _ = true; decide)
    | apply State_setTwin_keeps
    | apply keepsR_next
    | apply keeps_ite
    | apply keepsR_ite
    | apply keeps_ite2
    | apply keeps_foldl
    | apply keeps_foldl2
    | apply keeps_foldl3
    | intro _
    | dsimp only
    | (fail_if_no_progress (apply keeps_mk; on_goal 2 => (constructor <;> first | exact .inr (by decide) | exact .inl rfl)))
    | split

theorem State_evalGate_keeps {m_ : Nat} (hm : maskIn 131979 m_ = true) {s_ s : State} (h_ : Keeps m_ s_ s) (cause : Nat) : Keeps m_ s_ (State.evalGate s cause) := by
  refine Keeps.after hm h_ ?_
  clear hm h_
  unfold State.evalGate
  repeat' with_reducible first
    | assumption
    | exact Keeps.refl _ _
    | (show maskIn _ _ = true; decide)
    | apply State_bump_keeps
    | apply State_raise_keeps
    | apply State_setBit_keeps
    | apply State_setNum_keeps
    | apply State_setTwin_keeps
    | apply State_twinRest_keeps
    | apply keepsR_next
    | apply keeps_ite
    | apply keepsR_ite
    | apply keeps_ite2
    | apply keeps_foldl
    | apply keeps_foldl2
    | apply keeps_foldl3
    | intro _
    | dsimp only
    | (fail_if_no_progress (apply keeps_mk; on_goal 2 => (constructor <;> first | exact .inr (by decide) | exact .inl rfl)))
    | split

theorem State_lowerClaim_keeps {m_ : Nat} (hm : maskIn 131979 m_ = true) {s_ s : State} (h_ : Keeps m_ s_ s) (cause : Nat) : Keeps m_ s_ (State.lowerClaim s cause) := by
  refine Keeps.after hm h_ ?_
  clear hm h_
  unfold State.lowerClaim
  repeat' with_reducible first
    | assumption
    | exact Keeps.refl _ _
    | (show maskIn _ _ = true; decide)
    | apply State_evalGate_keeps
    | apply State_twinRest_keeps
    | apply keepsR_next
    | apply keeps_ite
    | apply keepsR_ite
    | apply keeps_ite2
    | apply keeps_foldl
    | apply keeps_foldl2
    | apply keeps_foldl3
    | intro _
    | dsimp only
    | (fail_if_no_progress (apply keeps_mk; on_goal 2 => (constructor <;> first | exact .inr (by decide) | exact .inl rfl)))
    | split

theorem State_twinSafe_keeps {m_ : Nat} (hm : maskIn 131979 m_ = true) {s_ s : State} (h_ : Keeps m_ s_ s)  : Keeps m_ s_ (State.twinSafe s) := by
  refine Keeps.after hm h_ ?_
  clear hm h_
  unfold State.twinSafe
  repeat' with_reducible first
    | assumption
    | exact Keeps.refl _ _
    | (show maskIn _ _ = true; decide)
    | apply State_setTwin_keeps
    | apply State_tlSend_keeps
    | apply keepsR_next
    | apply keeps_ite
    | apply keepsR_ite
    | apply keeps_ite2
    | apply keeps_foldl
    | apply keeps_foldl2
    | apply keeps_foldl3
    | intro _
    | dsimp only
    | (fail_if_no_progress (apply keeps_mk; on_goal 2 => (constructor <;> first | exact .inr (by decide) | exact .inl rfl)))
    | split

theorem State_twinUnsafe_keeps {m_ : Nat} (hm : maskIn 131979 m_ = true) {s_ s : State} (h_ : Keeps m_ s_ s)  : Keeps m_ s_ (State.twinUnsafe s) := by
  refine Keeps.after hm h_ ?_
  clear hm h_
  unfold State.twinUnsafe
  repeat' with_reducible first
    | assumption
    | exact Keeps.refl _ _
    | (show maskIn _ _ = true; decide)
    | apply State_setTwin_keeps
    | apply State_twinRest_keeps
    | apply keepsR_next
    | apply keeps_ite
    | apply keepsR_ite
    | apply keeps_ite2
    | apply keeps_foldl
    | apply keeps_foldl2
    | apply keeps_foldl3
    | intro _
    | dsimp only
    | (fail_if_no_progress (apply keeps_mk; on_goal 2 => (constructor <;> first | exact .inr (by decide) | exact .inl rfl)))
    | split

end Sys2Proof.Machine
end

