-- ==== Sys2Proof/Laws/KeepsFaults.lean ====
section
/-! SUPPORT. Faults: what every operation keeps. -/

namespace Sys2Proof.Machine

theorem State_askFallBack_keeps {m_ : Nat} (hm : maskIn 524288 m_ = true) {s_ s : State} (h_ : Keeps m_ s_ s) (cause : Nat) : Keeps m_ s_ (State.askFallBack s cause) := by
  refine Keeps.after hm h_ ?_
  clear hm h_
  unfold State.askFallBack
  repeat' with_reducible first
    | assumption
    | exact Keeps.refl _ _
    | (show maskIn _ _ = true; decide)
    | apply keepsR_next
    | apply keeps_ite
    | apply keepsR_ite
    | apply keeps_ite2
    | apply keeps_foldl
    | apply keeps_foldl2
    | apply keeps_foldl3
    | intro _
    | dsimp only
    | (fail_if_no_progress (apply keeps_mk; on_goal 2 => (constructor <;> first | exact .inr (by decide) | exact .inl rfl)))
    | split

theorem State_enterSafe_keeps {m_ : Nat} (hm : maskIn 657295 m_ = true) {s_ s : State} (h_ : Keeps m_ s_ s) (cause : Nat) : Keeps m_ s_ (State.enterSafe s cause) := by
  refine Keeps.after hm h_ ?_
  clear hm h_
  unfold State.enterSafe
  repeat' with_reducible first
    | assumption
    | exact Keeps.refl _ _
    | (show maskIn _ _ = true; decide)
    | apply State_abandonTakes_keeps
    | apply State_askFallBack_keeps
    | apply State_raise_keeps
    | apply State_setNum_keeps
    | apply State_twinSafe_keeps
    | apply keepsR_next
    | apply keeps_ite
    | apply keepsR_ite
    | apply keeps_ite2
    | apply keeps_foldl
    | apply keeps_foldl2
    | apply keeps_foldl3
    | intro _
    | dsimp only
    | (fail_if_no_progress (apply keeps_mk; on_goal 2 => (constructor <;> first | exact .inr (by decide) | exact .inl rfl)))
    | split

theorem State_report_keeps {m_ : Nat} (hm : maskIn 657295 m_ = true) {s_ s : State} (h_ : Keeps m_ s_ s) (n : Nat) (code : Nat) : Keeps m_ s_ (State.report s n code) := by
  refine Keeps.after hm h_ ?_
  clear hm h_
  unfold State.report
  repeat' with_reducible first
    | assumption
    | exact Keeps.refl _ _
    | (show maskIn _ _ = true; decide)
    | apply State_enterSafe_keeps
    | apply State_evtCountSignal_keeps
    | apply State_record_keeps
    | apply State_setNum_keeps
    | apply State_setSrc_keeps
    | apply State_srcObjs_keeps
    | apply keepsR_next
    | apply keeps_ite
    | apply keepsR_ite
    | apply keeps_ite2
    | apply keeps_foldl
    | apply keeps_foldl2
    | apply keeps_foldl3
    | intro _
    | dsimp only
    | (fail_if_no_progress (apply keeps_mk; on_goal 2 => (constructor <;> first | exact .inr (by decide) | exact .inl rfl)))
    | split

theorem State_clearIfDone_keeps {m_ : Nat} (hm : maskIn 525195 m_ = true) {s_ s : State} (h_ : Keeps m_ s_ s) (n : Nat) : Keeps m_ s_ (State.clearIfDone s n) := by
  refine Keeps.after hm h_ ?_
  clear hm h_
  unfold State.clearIfDone
  repeat' with_reducible first
    | assumption
    | exact Keeps.refl _ _
    | (show maskIn _ _ = true; decide)
    | apply State_raise_keeps
    | apply State_setSrc_keeps
    | apply State_srcObjs_keeps
    | apply keepsR_next
    | apply keeps_ite
    | apply keepsR_ite
    | apply keeps_ite2
    | apply keeps_foldl
    | apply keeps_foldl2
    | apply keeps_foldl3
    | intro _
    | dsimp only
    | (fail_if_no_progress (apply keeps_mk; on_goal 2 => (constructor <;> first | exact .inr (by decide) | exact .inl rfl)))
    | split

theorem State_conditionEnd_keeps {m_ : Nat} (hm : maskIn 525195 m_ = true) {s_ s : State} (h_ : Keeps m_ s_ s) (n : Nat) : Keeps m_ s_ (State.conditionEnd s n) := by
  refine Keeps.after hm h_ ?_
  clear hm h_
  unfold State.conditionEnd
  repeat' with_reducible first
    | assumption
    | exact Keeps.refl _ _
    | (show maskIn _ _ = true; decide)
    | apply State_clearIfDone_keeps
    | apply State_setSrc_keeps
    | apply keepsR_next
    | apply keeps_ite
    | apply keepsR_ite
    | apply keeps_ite2
    | apply keeps_foldl
    | apply keeps_foldl2
    | apply keeps_foldl3
    | intro _
    | dsimp only
    | (fail_if_no_progress (apply keeps_mk; on_goal 2 => (constructor <;> first | exact .inr (by decide) | exact .inl rfl)))
    | split

theorem State_ackSource_keeps {m_ : Nat} (hm : maskIn 525195 m_ = true) {s_ s : State} (h_ : Keeps m_ s_ s) (n : Nat) : Keeps m_ s_ (State.ackSource s n) := by
  refine Keeps.after hm h_ ?_
  clear hm h_
  unfold State.ackSource
  repeat' with_reducible first
    | assumption
    | exact Keeps.refl _ _
    | (show maskIn _ _ = true; decide)
    | apply State_clearIfDone_keeps
    | apply State_setSrc_keeps
    | apply State_srcObjs_keeps
    | apply keepsR_next
    | apply keeps_ite
    | apply keepsR_ite
    | apply keeps_ite2
    | apply keeps_foldl
    | apply keeps_foldl2
    | apply keeps_foldl3
    | intro _
    | dsimp only
    | (fail_if_no_progress (apply keeps_mk; on_goal 2 => (constructor <;> first | exact .inr (by decide) | exact .inl rfl)))
    | split

end Sys2Proof.Machine
end

