-- ==== Sys2Proof/Laws/KeepsPacerCore.lean ====
section
/-! SUPPORT. PacerCore: what every operation keeps. -/

namespace Sys2Proof.Machine

theorem State_setPac_keeps {m_ : Nat} (hm : maskIn 8192 m_ = true) {s_ s : State} (h_ : Keeps m_ s_ s) (p : PacSt) : Keeps m_ s_ (State.setPac s p) := by
  refine Keeps.after hm h_ ?_
  clear hm h_
  unfold State.setPac
  repeat' with_reducible first
    | assumption
    | exact Keeps.refl _ _
    | (show maskIn _ _ = true; decide)
    | apply keepsR_next
    | apply keeps_ite
    | apply keepsR_ite
    | apply keeps_ite2
    | apply keeps_foldl
    | apply keeps_foldl2
    | apply keeps_foldl3
    | intro _
    | dsimp only
    | (fail_if_no_progress (apply keeps_mk; on_goal 2 => (constructor <;> first | exact .inr (by decide) | exact .inl rfl)))
    | split

theorem State_setPtp_keeps {m_ : Nat} (hm : maskIn 8192 m_ = true) {s_ s : State} (h_ : Keeps m_ s_ s) (i : Nat) (v : PtpSt) : Keeps m_ s_ (State.setPtp s i v) := by
  refine Keeps.after hm h_ ?_
  clear hm h_
  unfold State.setPtp
  repeat' with_reducible first
    | assumption
    | exact Keeps.refl _ _
    | (show maskIn _ _ = true; decide)
    | apply keepsR_next
    | apply keeps_ite
    | apply keepsR_ite
    | apply keeps_ite2
    | apply keeps_foldl
    | apply keeps_foldl2
    | apply keeps_foldl3
    | intro _
    | dsimp only
    | (fail_if_no_progress (apply keeps_mk; on_goal 2 => (constructor <;> first | exact .inr (by decide) | exact .inl rfl)))
    | split

theorem State_setRef_keeps {m_ : Nat} (hm : maskIn 8192 m_ = true) {s_ s : State} (h_ : Keeps m_ s_ s) (r : Nat) (v : RefSt) : Keeps m_ s_ (State.setRef s r v) := by
  refine Keeps.after hm h_ ?_
  clear hm h_
  unfold State.setRef
  repeat' with_reducible first
    | assumption
    | exact Keeps.refl _ _
    | (show maskIn _ _ = true; decide)
    | apply keepsR_next
    | apply keeps_ite
    | apply keepsR_ite
    | apply keeps_ite2
    | apply keeps_foldl
    | apply keeps_foldl2
    | apply keeps_foldl3
    | intro _
    | dsimp only
    | (fail_if_no_progress (apply keeps_mk; on_goal 2 => (constructor <;> first | exact .inr (by decide) | exact .inl rfl)))
    | split

theorem State_pacEvent_keeps {m_ : Nat} (hm : maskIn 906 m_ = true) {s_ s : State} (h_ : Keeps m_ s_ s) (bit : Nat) (code : Nat) (payload : List Byte) : Keeps m_ s_ (State.pacEvent s bit code payload) := by
  refine Keeps.after hm h_ ?_
  clear hm h_
  unfold State.pacEvent
  repeat' with_reducible first
    | assumption
    | exact Keeps.refl _ _
    | (show maskIn _ _ = true; decide)
    | apply State_raise_keeps
    | apply State_setBit_keeps
    | apply keepsR_next
    | apply keeps_ite
    | apply keepsR_ite
    | apply keeps_ite2
    | apply keeps_foldl
    | apply keeps_foldl2
    | apply keeps_foldl3
    | intro _
    | dsimp only
    | (fail_if_no_progress (apply keeps_mk; on_goal 2 => (constructor <;> first | exact .inr (by decide) | exact .inl rfl)))
    | split

theorem State_steer_keeps {m_ : Nat} (hm : maskIn 33 m_ = true) {s_ s : State} (h_ : Keeps m_ s_ s) (ppt : Int) : Keeps m_ s_ (State.steer s ppt) := by
  refine Keeps.after hm h_ ?_
  clear hm h_
  unfold State.steer
  repeat' with_reducible first
    | assumption
    | exact Keeps.refl _ _
    | (show maskIn _ _ = true; decide)
    | apply State_setInt_keeps
    | apply State_setNum_keeps
    | apply keepsR_next
    | apply keeps_ite
    | apply keepsR_ite
    | apply keeps_ite2
    | apply keeps_foldl
    | apply keeps_foldl2
    | apply keeps_foldl3
    | intro _
    | dsimp only
    | (fail_if_no_progress (apply keeps_mk; on_goal 2 => (constructor <;> first | exact .inr (by decide) | exact .inl rfl)))
    | split

theorem State_setPacer_keeps {m_ : Nat} (hm : maskIn 525195 m_ = true) {s_ s : State} (h_ : Keeps m_ s_ s) (st : Nat) : Keeps m_ s_ (State.setPacer s st) := by
  refine Keeps.after hm h_ ?_
  clear hm h_
  unfold State.setPacer
  repeat' with_reducible first
    | assumption
    | exact Keeps.refl _ _
    | (show maskIn _ _ = true; decide)
    | apply State_conditionEnd_keeps
    | apply State_pacEvent_keeps
    | apply State_setNum_keeps
    | apply keepsR_next
    | apply keeps_ite
    | apply keepsR_ite
    | apply keeps_ite2
    | apply keeps_foldl
    | apply keeps_foldl2
    | apply keeps_foldl3
    | intro _
    | dsimp only
    | (fail_if_no_progress (apply keeps_mk; on_goal 2 => (constructor <;> first | exact .inr (by decide) | exact .inl rfl)))
    | split

theorem State_holdStep_keeps {m_ : Nat} (hm : maskIn 8193 m_ = true) {s_ s : State} (h_ : Keeps m_ s_ s) (r : Nat) (v : Int) : Keeps m_ s_ (State.holdStep s r v) := by
  refine Keeps.after hm h_ ?_
  clear hm h_
  unfold State.holdStep
  repeat' with_reducible first
    | assumption
    | exact Keeps.refl _ _
    | (show maskIn _ _ = true; decide)
    | apply State_setInt_keeps
    | apply State_setPac_keeps
    | apply keepsR_next
    | apply keeps_ite
    | apply keepsR_ite
    | apply keeps_ite2
    | apply keeps_foldl
    | apply keeps_foldl2
    | apply keeps_foldl3
    | intro _
    | dsimp only
    | (fail_if_no_progress (apply keeps_mk; on_goal 2 => (constructor <;> first | exact .inr (by decide) | exact .inl rfl)))
    | split

theorem State_dropPending_keeps {m_ : Nat} (hm : maskIn 8193 m_ = true) {s_ s : State} (h_ : Keeps m_ s_ s)  : Keeps m_ s_ (State.dropPending s) := by
  refine Keeps.after hm h_ ?_
  clear hm h_
  unfold State.dropPending
  repeat' with_reducible first
    | assumption
    | exact Keeps.refl _ _
    | (show maskIn _ _ = true; decide)
    | apply State_holdStep_keeps
    | apply keepsR_next
    | apply keeps_ite
    | apply keepsR_ite
    | apply keeps_ite2
    | apply keeps_foldl
    | apply keeps_foldl2
    | apply keeps_foldl3
    | intro _
    | dsimp only
    | (fail_if_no_progress (apply keeps_mk; on_goal 2 => (constructor <;> first | exact .inr (by decide) | exact .inl rfl)))
    | split

theorem State_steppedPt_keeps {m_ : Nat} (hm : maskIn 16 m_ = true) {s_ s : State} (h_ : Keeps m_ s_ s) (d : Int) : Keeps m_ s_ (State.steppedPt s d).2 := by
  refine Keeps.after hm h_ ?_
  clear hm h_
  unfold State.steppedPt
  repeat' with_reducible first
    | assumption
    | exact Keeps.refl _ _
    | (show maskIn _ _ = true; decide)
    | apply State_freeNat_keeps
    | apply keepsR_next
    | apply keeps_ite
    | apply keepsR_ite
    | apply keeps_ite2
    | apply keeps_foldl
    | apply keeps_foldl2
    | apply keeps_foldl3
    | intro _
    | dsimp only
    | (fail_if_no_progress (apply keeps_mk; on_goal 2 => (constructor <;> first | exact .inr (by decide) | exact .inl rfl)))
    | split

theorem State_movePt_keeps {m_ : Nat} (hm : maskIn 9264 m_ = true) {s_ s0 : State} (h_ : Keeps m_ s_ s0) (d : Int) : Keeps m_ s_ (State.movePt s0 d) := by
  refine Keeps.after hm h_ ?_
  clear hm h_
  unfold State.movePt
  repeat' with_reducible first
    | assumption
    | exact Keeps.refl _ _
    | (show maskIn _ _ = true; decide)
    | apply State_steppedPt_keeps
    | apply keepsR_next
    | apply keeps_ite
    | apply keepsR_ite
    | apply keeps_ite2
    | apply keeps_foldl
    | apply keeps_foldl2
    | apply keeps_foldl3
    | intro _
    | dsimp only
    | (fail_if_no_progress (apply keeps_mk; on_goal 2 => (constructor <;> first | exact .inr (by decide) | exact .inl rfl)))
    | split

theorem State_applyStep_keeps {m_ : Nat} (hm : maskIn 10170 m_ = true) {s_ s : State} (h_ : Keeps m_ s_ s) (d : Int) (origin : Nat) (over_ : Bool) : Keeps m_ s_ (State.applyStep s d origin over_) := by
  refine Keeps.after hm h_ ?_
  clear hm h_
  unfold State.applyStep
  repeat' with_reducible first
    | assumption
    | exact Keeps.refl _ _
    | (show maskIn _ _ = true; decide)
    | apply State_movePt_keeps
    | apply State_pacEvent_keeps
    | apply keepsR_next
    | apply keeps_ite
    | apply keepsR_ite
    | apply keeps_ite2
    | apply keeps_foldl
    | apply keeps_foldl2
    | apply keeps_foldl3
    | intro _
    | dsimp only
    | (fail_if_no_progress (apply keeps_mk; on_goal 2 => (constructor <;> first | exact .inr (by decide) | exact .inl rfl)))
    | split

theorem State_tryStep_keeps {m_ : Nat} (hm : maskIn 10171 m_ = true) {s_ s : State} (h_ : Keeps m_ s_ s) (d : Int) (origin : Nat) : Keeps m_ s_ (State.tryStep s d origin).2 := by
  refine Keeps.after hm h_ ?_
  clear hm h_
  unfold State.tryStep
  repeat' with_reducible first
    | assumption
    | exact Keeps.refl _ _
    | (show maskIn _ _ = true; decide)
    | apply State_applyStep_keeps
    | apply State_bump_keeps
    | apply State_pacEvent_keeps
    | apply State_setPac_keeps
    | apply keepsR_next
    | apply keeps_ite
    | apply keepsR_ite
    | apply keeps_ite2
    | apply keeps_foldl
    | apply keeps_foldl2
    | apply keeps_foldl3
    | intro _
    | dsimp only
    | (fail_if_no_progress (apply keeps_mk; on_goal 2 => (constructor <;> first | exact .inr (by decide) | exact .inl rfl)))
    | split

theorem State_timeSetWrite_keeps {m_ : Nat} (hm : maskIn 10171 m_ = true) {s_ s : State} (h_ : Keeps m_ s_ s) (v : Nat) : Keeps m_ s_ (State.timeSetWrite s v).2 := by
  refine Keeps.after hm h_ ?_
  clear hm h_
  unfold State.timeSetWrite
  repeat' with_reducible first
    | assumption
    | exact Keeps.refl _ _
    | (show maskIn _ _ = true; decide)
    | apply State_tryStep_keeps
    | apply keepsR_next
    | apply keeps_ite
    | apply keepsR_ite
    | apply keeps_ite2
    | apply keeps_foldl
    | apply keeps_foldl2
    | apply keeps_foldl3
    | intro _
    | dsimp only
    | (fail_if_no_progress (apply keeps_mk; on_goal 2 => (constructor <;> first | exact .inr (by decide) | exact .inl rfl)))
    | split

theorem State_timeStepWrite_keeps {m_ : Nat} (hm : maskIn 10171 m_ = true) {s_ s : State} (h_ : Keeps m_ s_ s) (ns : Int) : Keeps m_ s_ (State.timeStepWrite s ns).2 := by
  refine Keeps.after hm h_ ?_
  clear hm h_
  unfold State.timeStepWrite
  repeat' with_reducible first
    | assumption
    | exact Keeps.refl _ _
    | (show maskIn _ _ = true; decide)
    | apply State_tryStep_keeps
    | apply keepsR_next
    | apply keeps_ite
    | apply keepsR_ite
    | apply keeps_ite2
    | apply keeps_foldl
    | apply keeps_foldl2
    | apply keeps_foldl3
    | intro _
    | dsimp only
    | (fail_if_no_progress (apply keeps_mk; on_goal 2 => (constructor <;> first | exact .inr (by decide) | exact .inl rfl)))
    | split

theorem State_applyPending_keeps {m_ : Nat} (hm : maskIn 10171 m_ = true) {s_ s : State} (h_ : Keeps m_ s_ s)  : Keeps m_ s_ (State.applyPending s) := by
  refine Keeps.after hm h_ ?_
  clear hm h_
  unfold State.applyPending
  repeat' with_reducible first
    | assumption
    | exact Keeps.refl _ _
    | (show maskIn _ _ = true; decide)
    | apply State_holdStep_keeps
    | apply State_tryStep_keeps
    | apply keepsR_next
    | apply keeps_ite
    | apply keepsR_ite
    | apply keeps_ite2
    | apply keeps_foldl
    | apply keeps_foldl2
    | apply keeps_foldl3
    | intro _
    | dsimp only
    | (fail_if_no_progress (apply keeps_mk; on_goal 2 => (constructor <;> first | exact .inr (by decide) | exact .inl rfl)))
    | split

theorem State_overrideWrite_keeps {m_ : Nat} (hm : maskIn 10171 m_ = true) {s_ s : State} (h_ : Keeps m_ s_ s) (v : Nat) : Keeps m_ s_ (State.overrideWrite s v) := by
  refine Keeps.after hm h_ ?_
  clear hm h_
  unfold State.overrideWrite
  repeat' with_reducible first
    | assumption
    | exact Keeps.refl _ _
    | (show maskIn _ _ = true; decide)
    | apply State_applyPending_keeps
    | apply State_setPac_keeps
    | apply keepsR_next
    | apply keeps_ite
    | apply keepsR_ite
    | apply keeps_ite2
    | apply keeps_foldl
    | apply keeps_foldl2
    | apply keeps_foldl3
    | intro _
    | dsimp only
    | (fail_if_no_progress (apply keeps_mk; on_goal 2 => (constructor <;> first | exact .inr (by decide) | exact .inl rfl)))
    | split

theorem State_winBegin_keeps {m_ : Nat} (hm : maskIn 8192 m_ = true) {s_ s : State} (h_ : Keeps m_ s_ s) (r : Nat) : Keeps m_ s_ (State.winBegin s r) := by
  refine Keeps.after hm h_ ?_
  clear hm h_
  unfold State.winBegin
  repeat' with_reducible first
    | assumption
    | exact Keeps.refl _ _
    | (show maskIn _ _ = true; decide)
    | apply State_setRef_keeps
    | apply keepsR_next
    | apply keeps_ite
    | apply keepsR_ite
    | apply keeps_ite2
    | apply keeps_foldl
    | apply keeps_foldl2
    | apply keeps_foldl3
    | intro _
    | dsimp only
    | (fail_if_no_progress (apply keeps_mk; on_goal 2 => (constructor <;> first | exact .inr (by decide) | exact .inl rfl)))
    | split

theorem State_winNext_keeps {m_ : Nat} (hm : maskIn 8192 m_ = true) {s_ s : State} (h_ : Keeps m_ s_ s) (r : Nat) (end_ : Nat) : Keeps m_ s_ (State.winNext s r end_) := by
  refine Keeps.after hm h_ ?_
  clear hm h_
  unfold State.winNext
  repeat' with_reducible first
    | assumption
    | exact Keeps.refl _ _
    | (show maskIn _ _ = true; decide)
    | apply State_setRef_keeps
    | apply State_winBegin_keeps
    | apply keepsR_next
    | apply keeps_ite
    | apply keepsR_ite
    | apply keeps_ite2
    | apply keeps_foldl
    | apply keeps_foldl2
    | apply keeps_foldl3
    | intro _
    | dsimp only
    | (fail_if_no_progress (apply keeps_mk; on_goal 2 => (constructor <;> first | exact .inr (by decide) | exact .inl rfl)))
    | split

theorem State_qualify_keeps {m_ : Nat} (hm : maskIn 9099 m_ = true) {s_ s : State} (h_ : Keeps m_ s_ s) (r : Nat) : Keeps m_ s_ (State.qualify s r) := by
  refine Keeps.after hm h_ ?_
  clear hm h_
  unfold State.qualify
  repeat' with_reducible first
    | assumption
    | exact Keeps.refl _ _
    | (show maskIn _ _ = true; decide)
    | apply State_raise_keeps
    | apply State_setNum_keeps
    | apply State_setRef_keeps
    | apply keepsR_next
    | apply keeps_ite
    | apply keepsR_ite
    | apply keeps_ite2
    | apply keeps_foldl
    | apply keeps_foldl2
    | apply keeps_foldl3
    | intro _
    | dsimp only
    | (fail_if_no_progress (apply keeps_mk; on_goal 2 => (constructor <;> first | exact .inr (by decide) | exact .inl rfl)))
    | split

theorem State_acquire_keeps {m_ : Nat} (hm : maskIn 534459 m_ = true) {s_ s : State} (h_ : Keeps m_ s_ s) (r : Nat) (set : Bool) : Keeps m_ s_ (State.acquire s r set) := by
  refine Keeps.after hm h_ ?_
  clear hm h_
  unfold State.acquire
  repeat' with_reducible first
    | assumption
    | exact Keeps.refl _ _
    | (show maskIn _ _ = true; decide)
    | apply State_applyStep_keeps
    | apply State_dropPending_keeps
    | apply State_setPac_keeps
    | apply State_setPacer_keeps
    | apply State_setRef_keeps
    | apply keepsR_next
    | apply keeps_ite
    | apply keepsR_ite
    | apply keeps_ite2
    | apply keeps_foldl
    | apply keeps_foldl2
    | apply keeps_foldl3
    | intro _
    | dsimp only
    | (fail_if_no_progress (apply keeps_mk; on_goal 2 => (constructor <;> first | exact .inr (by decide) | exact .inl rfl)))
    | split

theorem State_switchDone_keeps {m_ : Nat} (hm : maskIn 525195 m_ = true) {s_ s : State} (h_ : Keeps m_ s_ s) (r : Nat) : Keeps m_ s_ (State.switchDone s r) := by
  refine Keeps.after hm h_ ?_
  clear hm h_
  unfold State.switchDone
  repeat' with_reducible first
    | assumption
    | exact Keeps.refl _ _
    | (show maskIn _ _ = true; decide)
    | apply State_pacEvent_keeps
    | apply State_setPacer_keeps
    | apply keepsR_next
    | apply keeps_ite
    | apply keepsR_ite
    | apply keeps_ite2
    | apply keeps_foldl
    | apply keeps_foldl2
    | apply keeps_foldl3
    | intro _
    | dsimp only
    | (fail_if_no_progress (apply keeps_mk; on_goal 2 => (constructor <;> first | exact .inr (by decide) | exact .inl rfl)))
    | split

theorem State_switchTo_keeps {m_ : Nat} (hm : maskIn 533387 m_ = true) {s_ s : State} (h_ : Keeps m_ s_ s) (from_ : Nat) (r : Nat) : Keeps m_ s_ (State.switchTo s from_ r) := by
  refine Keeps.after hm h_ ?_
  clear hm h_
  unfold State.switchTo
  repeat' with_reducible first
    | assumption
    | exact Keeps.refl _ _
    | (show maskIn _ _ = true; decide)
    | apply State_dropPending_keeps
    | apply State_pacEvent_keeps
    | apply State_setInt_keeps
    | apply State_setPac_keeps
    | apply State_setPacer_keeps
    | apply State_switchDone_keeps
    | apply keepsR_next
    | apply keeps_ite
    | apply keepsR_ite
    | apply keeps_ite2
    | apply keeps_foldl
    | apply keeps_foldl2
    | apply keeps_foldl3
    | intro _
    | dsimp only
    | (fail_if_no_progress (apply keeps_mk; on_goal 2 => (constructor <;> first | exact .inr (by decide) | exact .inl rfl)))
    | split

theorem State_holdover_keeps {m_ : Nat} (hm : maskIn 665519 m_ = true) {s_ s : State} (h_ : Keeps m_ s_ s)  : Keeps m_ s_ (State.holdover s) := by
  refine Keeps.after hm h_ ?_
  clear hm h_
  unfold State.holdover
  repeat' with_reducible first
    | assumption
    | exact Keeps.refl _ _
    | (show maskIn _ _ = true; decide)
    | apply State_dropPending_keeps
    | apply State_pacEvent_keeps
    | apply State_report_keeps
    | apply State_setInt_keeps
    | apply State_setPac_keeps
    | apply State_setPacer_keeps
    | apply State_steer_keeps
    | apply keepsR_next
    | apply keeps_ite
    | apply keepsR_ite
    | apply keeps_ite2
    | apply keeps_foldl
    | apply keeps_foldl2
    | apply keeps_foldl3
    | intro _
    | dsimp only
    | (fail_if_no_progress (apply keeps_mk; on_goal 2 => (constructor <;> first | exact .inr (by decide) | exact .inl rfl)))
    | split

theorem State_evalSel1_keeps {m_ : Nat} (hm : maskIn 665535 m_ = true) {s_ s : State} (h_ : Keeps m_ s_ s)  : Keeps m_ s_ (State.evalSel1 s) := by
  refine Keeps.after hm h_ ?_
  clear hm h_
  unfold State.evalSel1
  repeat' with_reducible first
    | assumption
    | exact Keeps.refl _ _
    | (show maskIn _ _ = true; decide)
    | apply State_acquire_keeps
    | apply State_dropPending_keeps
    | apply State_holdover_keeps
    | apply State_setNum_keeps
    | apply State_setPac_keeps
    | apply State_setPacer_keeps
    | apply State_switchTo_keeps
    | apply keepsR_next
    | apply keeps_ite
    | apply keepsR_ite
    | apply keeps_ite2
    | apply keeps_foldl
    | apply keeps_foldl2
    | apply keeps_foldl3
    | intro _
    | dsimp only
    | (fail_if_no_progress (apply keeps_mk; on_goal 2 => (constructor <;> first | exact .inr (by decide) | exact .inl rfl)))
    | split

theorem State_evalSel_keeps {m_ : Nat} (hm : maskIn 665535 m_ = true) {s_ s : State} (h_ : Keeps m_ s_ s)  : Keeps m_ s_ (State.evalSel s) := by
  refine Keeps.after hm h_ ?_
  clear hm h_
  unfold State.evalSel
  repeat' with_reducible first
    | assumption
    | exact Keeps.refl _ _
    | (show maskIn _ _ = true; decide)
    | apply State_evalSel1_keeps
    | apply keepsR_next
    | apply keeps_ite
    | apply keepsR_ite
    | apply keeps_ite2
    | apply keeps_foldl
    | apply keeps_foldl2
    | apply keeps_foldl3
    | intro _
    | dsimp only
    | (fail_if_no_progress (apply keeps_mk; on_goal 2 => (constructor <;> first | exact .inr (by decide) | exact .inl rfl)))
    | split

theorem State_refAbsent_keeps {m_ : Nat} (hm : maskIn 698303 m_ = true) {s_ s : State} (h_ : Keeps m_ s_ s) (r : Nat) : Keeps m_ s_ (State.refAbsent s r) := by
  refine Keeps.after hm h_ ?_
  clear hm h_
  unfold State.refAbsent
  repeat' with_reducible first
    | assumption
    | exact Keeps.refl _ _
    | (show maskIn _ _ = true; decide)
    | apply State_bump_keeps
    | apply State_evalSel_keeps
    | apply State_pacEvent_keeps
    | apply State_present_keeps
    | apply State_setNum_keeps
    | apply State_setRef_keeps
    | apply keepsR_next
    | apply keeps_ite
    | apply keepsR_ite
    | apply keeps_ite2
    | apply keeps_foldl
    | apply keeps_foldl2
    | apply keeps_foldl3
    | intro _
    | dsimp only
    | (fail_if_no_progress (apply keeps_mk; on_goal 2 => (constructor <;> first | exact .inr (by decide) | exact .inl rfl)))
    | split

theorem State_refsOfLane_keeps {m_ : Nat} (hm : maskIn 698303 m_ = true) {s_ s : State} (h_ : Keeps m_ s_ s) (p : Nat) : Keeps m_ s_ (State.refsOfLane s p) := by
  refine Keeps.after hm h_ ?_
  clear hm h_
  unfold State.refsOfLane
  repeat' with_reducible first
    | assumption
    | exact Keeps.refl _ _
    | (show maskIn _ _ = true; decide)
    | apply State_refAbsent_keeps
    | apply keepsR_next
    | apply keeps_ite
    | apply keepsR_ite
    | apply keeps_ite2
    | apply keeps_foldl
    | apply keeps_foldl2
    | apply keeps_foldl3
    | intro _
    | dsimp only
    | (fail_if_no_progress (apply keeps_mk; on_goal 2 => (constructor <;> first | exact .inr (by decide) | exact .inl rfl)))
    | split

end Sys2Proof.Machine
end

