-- ==== Sys2Proof/Laws/KeepsSdi.lean ====
section
/-! SUPPORT. Sdi: what every operation keeps. -/

namespace Sys2Proof.Machine

theorem State_sdiEvent_keeps {m_ : Nat} (hm : maskIn 906 m_ = true) {s_ s : State} (h_ : Keeps m_ s_ s) (p : Nat) (bit : Nat) (code : Nat) (payload : List Byte) : Keeps m_ s_ (State.sdiEvent s p bit code payload) := by
  refine Keeps.after hm h_ ?_
  clear hm h_
  unfold State.sdiEvent
  repeat' with_reducible first
    | assumption
    | exact Keeps.refl _ _
    | (show maskIn _ _ = true; decide)
    | apply State_raise_keeps
    | apply State_setBit_keeps
    | apply keepsR_next
    | apply keeps_ite
    | apply keepsR_ite
    | apply keeps_ite2
    | apply keeps_foldl
    | apply keeps_foldl2
    | apply keeps_foldl3
    | intro _
    | dsimp only
    | (fail_if_no_progress (apply keeps_mk; on_goal 2 => (constructor <;> first | exact .inr (by decide) | exact .inl rfl)))
    | split

theorem State_restartSearch_keeps {m_ : Nat} (hm : maskIn 1024 m_ = true) {s_ s : State} (h_ : Keeps m_ s_ s) (p : Nat) : Keeps m_ s_ (State.restartSearch s p) := by
  refine Keeps.after hm h_ ?_
  clear hm h_
  unfold State.restartSearch
  repeat' with_reducible first
    | assumption
    | exact Keeps.refl _ _
    | (show maskIn _ _ = true; decide)
    | apply State_setLane_keeps
    | apply keepsR_next
    | apply keeps_ite
    | apply keepsR_ite
    | apply keeps_ite2
    | apply keeps_foldl
    | apply keeps_foldl2
    | apply keeps_foldl3
    | intro _
    | dsimp only
    | (fail_if_no_progress (apply keeps_mk; on_goal 2 => (constructor <;> first | exact .inr (by decide) | exact .inl rfl)))
    | split

theorem State_laneAbsent_keeps {m_ : Nat} (hm : maskIn 36747 m_ = true) {s_ s : State} (h_ : Keeps m_ s_ s) (p : Nat) : Keeps m_ s_ (State.laneAbsent s p) := by
  refine Keeps.after hm h_ ?_
  clear hm h_
  unfold State.laneAbsent
  repeat' with_reducible first
    | assumption
    | exact Keeps.refl _ _
    | (show maskIn _ _ = true; decide)
    | apply State_pairsGone_keeps
    | apply State_sdiEvent_keeps
    | apply State_setLane_keeps
    | apply State_setPresents_keeps
    | apply keepsR_next
    | apply keeps_ite
    | apply keepsR_ite
    | apply keeps_ite2
    | apply keeps_foldl
    | apply keeps_foldl2
    | apply keeps_foldl3
    | intro _
    | dsimp only
    | (fail_if_no_progress (apply keeps_mk; on_goal 2 => (constructor <;> first | exact .inr (by decide) | exact .inl rfl)))
    | split

theorem State_loseLock_keeps {m_ : Nat} (hm : maskIn 700351 m_ = true) {s_ s : State} (h_ : Keeps m_ s_ s) (p : Nat) (line : Nat) (to_ : Nat) (change : Bool) (new : Nat) : Keeps m_ s_ (State.loseLock s p line to_ change new) := by
  refine Keeps.after hm h_ ?_
  clear hm h_
  unfold State.loseLock
  repeat' with_reducible first
    | assumption
    | exact Keeps.refl _ _
    | (show maskIn _ _ = true; decide)
    | apply State_bump_keeps
    | apply State_laneAbsent_keeps
    | apply State_refsOfLane_keeps
    | apply State_report_keeps
    | apply State_restartSearch_keeps
    | apply State_sdiEvent_keeps
    | apply State_setLane_keeps
    | apply State_setNum_keeps
    | apply keepsR_next
    | apply keeps_ite
    | apply keepsR_ite
    | apply keeps_ite2
    | apply keeps_foldl
    | apply keeps_foldl2
    | apply keeps_foldl3
    | intro _
    | dsimp only
    | (fail_if_no_progress (apply keeps_mk; on_goal 2 => (constructor <;> first | exact .inr (by decide) | exact .inl rfl)))
    | split

theorem State_setQuiet_keeps {m_ : Nat} (hm : maskIn 262144 m_ = true) {s_ s : State} (h_ : Keeps m_ s_ s) (p : Nat) (t : Nat) : Keeps m_ s_ (State.setQuiet s p t) := by
  refine Keeps.after hm h_ ?_
  clear hm h_
  unfold State.setQuiet
  repeat' with_reducible first
    | assumption
    | exact Keeps.refl _ _
    | (show maskIn _ _ = true; decide)
    | apply keepsR_next
    | apply keeps_ite
    | apply keepsR_ite
    | apply keeps_ite2
    | apply keeps_foldl
    | apply keeps_foldl2
    | apply keeps_foldl3
    | intro _
    | dsimp only
    | (fail_if_no_progress (apply keeps_mk; on_goal 2 => (constructor <;> first | exact .inr (by decide) | exact .inl rfl)))
    | split

theorem execSignalDetectAssert_keeps {m_ : Nat} (hm : maskIn 264107 m_ = true) {s_ s0 : State} (h_ : Keeps m_ s_ s0) (p : Fin 96) (at_ : Nat) : KeepsR m_ s_ (execSignalDetectAssert p at_ s0) := by
  refine KeepsR.after hm h_ ?_
  clear hm h_
  unfold execSignalDetectAssert
  repeat' with_reducible first
    | assumption
    | exact Keeps.refl _ _
    | (show maskIn _ _ = true; decide)
    | apply State_restartSearch_keeps
    | apply State_sdiEvent_keeps
    | apply State_setLane_keeps
    | apply State_setNum_keeps
    | apply State_setQuiet_keeps
    | apply State_toTick_keeps
    | apply keepsR_next
    | apply keeps_ite
    | apply keepsR_ite
    | apply keeps_ite2
    | apply keeps_foldl
    | apply keeps_foldl2
    | apply keeps_foldl3
    | intro _
    | dsimp only
    | (fail_if_no_progress (apply keeps_mk; on_goal 2 => (constructor <;> first | exact .inr (by decide) | exact .inl rfl)))
    | split

theorem execSignalDetectDeassert_keeps {m_ : Nat} (hm : maskIn 962495 m_ = true) {s_ s0 : State} (h_ : Keeps m_ s_ s0) (p : Fin 96) (line : Nat) (at_ : Nat) : KeepsR m_ s_ (execSignalDetectDeassert p line at_ s0) := by
  refine KeepsR.after hm h_ ?_
  clear hm h_
  unfold execSignalDetectDeassert
  repeat' with_reducible first
    | assumption
    | exact Keeps.refl _ _
    | (show maskIn _ _ = true; decide)
    | apply State_loseLock_keeps
    | apply State_sdiEvent_keeps
    | apply State_setLane_keeps
    | apply State_setNum_keeps
    | apply State_setQuiet_keeps
    | apply State_toTick_keeps
    | apply keepsR_next
    | apply keeps_ite
    | apply keepsR_ite
    | apply keeps_ite2
    | apply keeps_foldl
    | apply keeps_foldl2
    | apply keeps_foldl3
    | intro _
    | dsimp only
    | (fail_if_no_progress (apply keeps_mk; on_goal 2 => (constructor <;> first | exact .inr (by decide) | exact .inl rfl)))
    | split

theorem execRateDwellExpiry_keeps {m_ : Nat} (hm : maskIn 1056 m_ = true) {s_ s0 : State} (h_ : Keeps m_ s_ s0) (p : Fin 96) (at_ : Nat) : KeepsR m_ s_ (execRateDwellExpiry p at_ s0) := by
  refine KeepsR.after hm h_ ?_
  clear hm h_
  unfold execRateDwellExpiry
  repeat' with_reducible first
    | assumption
    | exact Keeps.refl _ _
    | (show maskIn _ _ = true; decide)
    | apply State_setLane_keeps
    | apply State_toTick_keeps
    | apply keepsR_next
    | apply keeps_ite
    | apply keepsR_ite
    | apply keeps_ite2
    | apply keeps_foldl
    | apply keeps_foldl2
    | apply keeps_foldl3
    | intro _
    | dsimp only
    | (fail_if_no_progress (apply keeps_mk; on_goal 2 => (constructor <;> first | exact .inr (by decide) | exact .inl rfl)))
    | split

theorem execRateLock_keeps {m_ : Nat} (hm : maskIn 700351 m_ = true) {s_ s : State} (h_ : Keeps m_ s_ s) (p : Fin 96) (code : Fin 10) : KeepsR m_ s_ (execRateLock p code s) := by
  refine KeepsR.after hm h_ ?_
  clear hm h_
  unfold execRateLock
  repeat' with_reducible first
    | assumption
    | exact Keeps.refl _ _
    | (show maskIn _ _ = true; decide)
    | apply State_loseLock_keeps
    | apply State_setLane_keeps
    | apply State_setNum_keeps
    | apply keepsR_next
    | apply keeps_ite
    | apply keepsR_ite
    | apply keeps_ite2
    | apply keeps_foldl
    | apply keeps_foldl2
    | apply keeps_foldl3
    | intro _
    | dsimp only
    | (fail_if_no_progress (apply keeps_mk; on_goal 2 => (constructor <;> first | exact .inr (by decide) | exact .inl rfl)))
    | split

theorem State_sourcePresent_keeps {m_ : Nat} (hm : maskIn 33801 m_ = true) {s_ s : State} (h_ : Keeps m_ s_ s) (n : Nat) (fmt : Nat) : Keeps m_ s_ (State.sourcePresent s n fmt) := by
  refine Keeps.after hm h_ ?_
  clear hm h_
  unfold State.sourcePresent
  repeat' with_reducible first
    | assumption
    | exact Keeps.refl _ _
    | (show maskIn _ _ = true; decide)
    | apply State_setNum_keeps
    | apply State_setSlot_keeps
    | apply State_slotAbsent_keeps
    | apply State_slotAcquire_keeps
    | apply State_slotReturn_keeps
    | apply keepsR_next
    | apply keeps_ite
    | apply keepsR_ite
    | apply keeps_ite2
    | apply keeps_foldl
    | apply keeps_foldl2
    | apply keeps_foldl3
    | intro _
    | dsimp only
    | (fail_if_no_progress (apply keeps_mk; on_goal 2 => (constructor <;> first | exact .inr (by decide) | exact .inl rfl)))
    | split

theorem execTrsLock_keeps {m_ : Nat} (hm : maskIn 33833 m_ = true) {s_ s0 : State} (h_ : Keeps m_ s_ s0) (p : Fin 96) (code : Fin 10) (predicted : Bool) (line : Nat) (at_ : Nat) : KeepsR m_ s_ (execTrsLock p code predicted line at_ s0) := by
  refine KeepsR.after hm h_ ?_
  clear hm h_
  unfold execTrsLock
  repeat' with_reducible first
    | assumption
    | exact Keeps.refl _ _
    | (show maskIn _ _ = true; decide)
    | apply State_setLane_keeps
    | apply State_setNum_keeps
    | apply State_sourcePresent_keeps
    | apply State_toTick_keeps
    | apply keepsR_next
    | apply keeps_ite
    | apply keepsR_ite
    | apply keeps_ite2
    | apply keeps_foldl
    | apply keeps_foldl2
    | apply keeps_foldl3
    | intro _
    | dsimp only
    | (fail_if_no_progress (apply keeps_mk; on_goal 2 => (constructor <;> first | exact .inr (by decide) | exact .inl rfl)))
    | split

theorem execFormatLock_keeps {m_ : Nat} (hm : maskIn 34699 m_ = true) {s_ s : State} (h_ : Keeps m_ s_ s) (p : Fin 96) (seen : FormatSeen) : KeepsR m_ s_ (execFormatLock p seen s) := by
  refine KeepsR.after hm h_ ?_
  clear hm h_
  unfold execFormatLock
  repeat' with_reducible first
    | assumption
    | exact Keeps.refl _ _
    | (show maskIn _ _ = true; decide)
    | apply State_sdiEvent_keeps
    | apply State_setLane_keeps
    | apply State_setNum_keeps
    | apply State_sourcePresent_keeps
    | apply keepsR_next
    | apply keeps_ite
    | apply keepsR_ite
    | apply keeps_ite2
    | apply keeps_foldl
    | apply keeps_foldl2
    | apply keeps_foldl3
    | intro _
    | dsimp only
    | (fail_if_no_progress (apply keeps_mk; on_goal 2 => (constructor <;> first | exact .inr (by decide) | exact .inl rfl)))
    | split

theorem State_closeSecond_keeps {m_ : Nat} (hm : maskIn 1931 m_ = true) {s_ s : State} (h_ : Keeps m_ s_ s) (p : Nat) : Keeps m_ s_ (State.closeSecond s p) := by
  refine Keeps.after hm h_ ?_
  clear hm h_
  unfold State.closeSecond
  repeat' with_reducible first
    | assumption
    | exact Keeps.refl _ _
    | (show maskIn _ _ = true; decide)
    | apply State_bump_keeps
    | apply State_raise_keeps
    | apply State_setLane_keeps
    | apply keepsR_next
    | apply keeps_ite
    | apply keepsR_ite
    | apply keeps_ite2
    | apply keeps_foldl
    | apply keeps_foldl2
    | apply keeps_foldl3
    | intro _
    | dsimp only
    | (fail_if_no_progress (apply keeps_mk; on_goal 2 => (constructor <;> first | exact .inr (by decide) | exact .inl rfl)))
    | split

theorem State_secondErrors_keeps {m_ : Nat} (hm : maskIn 1931 m_ = true) {s_ s : State} (h_ : Keeps m_ s_ s) (p : Nat) (crc : Nat) (ln : Nat) (trs : Nat) : Keeps m_ s_ (State.secondErrors s p crc ln trs) := by
  refine Keeps.after hm h_ ?_
  clear hm h_
  unfold State.secondErrors
  repeat' with_reducible first
    | assumption
    | exact Keeps.refl _ _
    | (show maskIn _ _ = true; decide)
    | apply State_closeSecond_keeps
    | apply State_setLane_keeps
    | apply keepsR_next
    | apply keeps_ite
    | apply keepsR_ite
    | apply keeps_ite2
    | apply keeps_foldl
    | apply keeps_foldl2
    | apply keeps_foldl3
    | intro _
    | dsimp only
    | (fail_if_no_progress (apply keeps_mk; on_goal 2 => (constructor <;> first | exact .inr (by decide) | exact .inl rfl)))
    | split

theorem State_laneFrame_keeps {m_ : Nat} (hm : maskIn 3979 m_ = true) {s_ s : State} (h_ : Keeps m_ s_ s) (p : Nat) : Keeps m_ s_ (State.laneFrame s p) := by
  refine Keeps.after hm h_ ?_
  clear hm h_
  unfold State.laneFrame
  repeat' with_reducible first
    | assumption
    | exact Keeps.refl _ _
    | (show maskIn _ _ = true; decide)
    | apply State_pairsGone_keeps
    | apply State_sdiEvent_keeps
    | apply State_setLane_keeps
    | apply State_setNum_keeps
    | apply keepsR_next
    | apply keeps_ite
    | apply keepsR_ite
    | apply keeps_ite2
    | apply keeps_foldl
    | apply keeps_foldl2
    | apply keeps_foldl3
    | intro _
    | dsimp only
    | (fail_if_no_progress (apply keeps_mk; on_goal 2 => (constructor <;> first | exact .inr (by decide) | exact .inl rfl)))
    | split

theorem State_laneId_keeps {m_ : Nat} (hm : maskIn 1931 m_ = true) {s_ s : State} (h_ : Keeps m_ s_ s) (p : Nat) (l : SdiLine) : Keeps m_ s_ (State.laneId s p l) := by
  refine Keeps.after hm h_ ?_
  clear hm h_
  unfold State.laneId
  repeat' with_reducible first
    | assumption
    | exact Keeps.refl _ _
    | (show maskIn _ _ = true; decide)
    | apply State_sdiEvent_keeps
    | apply State_setLane_keeps
    | apply State_setNum_keeps
    | apply keepsR_next
    | apply keeps_ite
    | apply keepsR_ite
    | apply keeps_ite2
    | apply keeps_foldl
    | apply keeps_foldl2
    | apply keeps_foldl3
    | intro _
    | dsimp only
    | (fail_if_no_progress (apply keeps_mk; on_goal 2 => (constructor <;> first | exact .inr (by decide) | exact .inl rfl)))
    | split

theorem State_hintChange_keeps {m_ : Nat} (hm : maskIn 700351 m_ = true) {s_ s : State} (h_ : Keeps m_ s_ s) (p : Nat) (line : Nat) : Keeps m_ s_ (State.hintChange s p line) := by
  refine Keeps.after hm h_ ?_
  clear hm h_
  unfold State.hintChange
  repeat' with_reducible first
    | assumption
    | exact Keeps.refl _ _
    | (show maskIn _ _ = true; decide)
    | apply State_loseLock_keeps
    | apply keepsR_next
    | apply keeps_ite
    | apply keepsR_ite
    | apply keeps_ite2
    | apply keeps_foldl
    | apply keeps_foldl2
    | apply keeps_foldl3
    | intro _
    | dsimp only
    | (fail_if_no_progress (apply keeps_mk; on_goal 2 => (constructor <;> first | exact .inr (by decide) | exact .inl rfl)))
    | split

theorem State_ancFits_keeps {m_ : Nat} (hm : maskIn 1024 m_ = true) {s_ s : State} (h_ : Keeps m_ s_ s) (p : Nat) (st : Nat) (bits : Nat) : Keeps m_ s_ (State.ancFits s p st bits).2 := by
  refine Keeps.after hm h_ ?_
  clear hm h_
  unfold State.ancFits
  repeat' with_reducible first
    | assumption
    | exact Keeps.refl _ _
    | (show maskIn _ _ = true; decide)
    | apply State_setLane_keeps
    | apply keepsR_next
    | apply keeps_ite
    | apply keepsR_ite
    | apply keeps_ite2
    | apply keeps_foldl
    | apply keeps_foldl2
    | apply keeps_foldl3
    | intro _
    | dsimp only
    | (fail_if_no_progress (apply keeps_mk; on_goal 2 => (constructor <;> first | exact .inr (by decide) | exact .inl rfl)))
    | split

theorem State_extractAnc_keeps {m_ : Nat} (hm : maskIn 1931 m_ = true) {s_ s : State} (h_ : Keeps m_ s_ s) (p : Nat) (slot : Nat) (quad : Bool) (sub : Nat) (pkts : List AncPkt) : Keeps m_ s_ (State.extractAnc s p slot quad sub pkts).2.2 := by
  refine Keeps.after hm h_ ?_
  clear hm h_
  unfold State.extractAnc
  repeat' with_reducible first
    | assumption
    | exact Keeps.refl _ _
    | (show maskIn _ _ = true; decide)
    | apply State_ancFits_keeps
    | apply State_bump_keeps
    | apply State_oncePerSecond_keeps
    | apply State_setBit_keeps
    | apply State_setLane_keeps
    | apply keepsR_next
    | apply keeps_ite
    | apply keepsR_ite
    | apply keeps_ite2
    | apply keeps_foldl
    | apply keeps_foldl2
    | apply keeps_foldl3
    | intro _
    | dsimp only
    | (fail_if_no_progress (apply keeps_mk; on_goal 2 => (constructor <;> first | exact .inr (by decide) | exact .inl rfl)))
    | split

theorem State_extractAudio_keeps {m_ : Nat} (hm : maskIn 3979 m_ = true) {s_ s : State} (h_ : Keeps m_ s_ s) (p : Nat) (slot : Nat) (quad : Bool) (sub : Nat) (l : SdiLine) : Keeps m_ s_ (State.extractAudio s p slot quad sub l).2 := by
  refine Keeps.after hm h_ ?_
  clear hm h_
  unfold State.extractAudio
  repeat' with_reducible first
    | assumption
    | exact Keeps.refl _ _
    | (show maskIn _ _ = true; decide)
    | apply State_bump_keeps
    | apply State_notePair_keeps
    | apply State_sdiEvent_keeps
    | apply State_setLane_keeps
    | apply State_throughAsrc_keeps
    | apply keepsR_next
    | apply keeps_ite
    | apply keepsR_ite
    | apply keeps_ite2
    | apply keeps_foldl
    | apply keeps_foldl2
    | apply keeps_foldl3
    | intro _
    | dsimp only
    | (fail_if_no_progress (apply keeps_mk; on_goal 2 => (constructor <;> first | exact .inr (by decide) | exact .inl rfl)))
    | split

theorem State_passLine_keeps {m_ : Nat} (hm : maskIn 36747 m_ = true) {s_ s : State} (h_ : Keeps m_ s_ s) (p : Nat) (l : SdiLine) : Keeps m_ s_ (State.passLine s p l) := by
  refine Keeps.after hm h_ ?_
  clear hm h_
  unfold State.passLine
  repeat' with_reducible first
    | assumption
    | exact Keeps.refl _ _
    | (show maskIn _ _ = true; decide)
    | apply State_enterLine_keeps
    | apply State_extractAnc_keeps
    | apply State_extractAudio_keeps
    | apply State_setLane_keeps
    | apply keepsR_next
    | apply keeps_ite
    | apply keepsR_ite
    | apply keeps_ite2
    | apply keeps_foldl
    | apply keeps_foldl2
    | apply keeps_foldl3
    | intro _
    | dsimp only
    | (fail_if_no_progress (apply keeps_mk; on_goal 2 => (constructor <;> first | exact .inr (by decide) | exact .inl rfl)))
    | split

theorem execSdiLine_keeps {m_ : Nat} (hm : maskIn 700351 m_ = true) {s_ s0 : State} (h_ : Keeps m_ s_ s0) (p : Fin 96) (l : SdiLine) (at_ : Nat) : KeepsR m_ s_ (execSdiLine p l at_ s0) := by
  refine KeepsR.after hm h_ ?_
  clear hm h_
  unfold execSdiLine
  repeat' with_reducible first
    | assumption
    | exact Keeps.refl _ _
    | (show maskIn _ _ = true; decide)
    | apply State_bump_keeps
    | apply State_hintChange_keeps
    | apply State_laneFrame_keeps
    | apply State_laneId_keeps
    | apply State_loseLock_keeps
    | apply State_passLine_keeps
    | apply State_rcAdd_keeps
    | apply State_secondErrors_keeps
    | apply State_setLane_keeps
    | apply State_toTick_keeps
    | apply keepsR_next
    | apply keeps_ite
    | apply keepsR_ite
    | apply keeps_ite2
    | apply keeps_foldl
    | apply keeps_foldl2
    | apply keeps_foldl3
    | intro _
    | dsimp only
    | (fail_if_no_progress (apply keeps_mk; on_goal 2 => (constructor <;> first | exact .inr (by decide) | exact .inl rfl)))
    | split

theorem execTrsMissing_keeps {m_ : Nat} (hm : maskIn 700351 m_ = true) {s_ s0 : State} (h_ : Keeps m_ s_ s0) (p : Fin 96) (line : Nat) (rateHeld : Bool) (at_ : Nat) : KeepsR m_ s_ (execTrsMissing p line rateHeld at_ s0) := by
  refine KeepsR.after hm h_ ?_
  clear hm h_
  unfold execTrsMissing
  repeat' with_reducible first
    | assumption
    | exact Keeps.refl _ _
    | (show maskIn _ _ = true; decide)
    | apply State_bump_keeps
    | apply State_hintChange_keeps
    | apply State_laneFrame_keeps
    | apply State_loseLock_keeps
    | apply State_rcAdd_keeps
    | apply State_secondErrors_keeps
    | apply State_setLane_keeps
    | apply State_toTick_keeps
    | apply keepsR_next
    | apply keeps_ite
    | apply keepsR_ite
    | apply keeps_ite2
    | apply keeps_foldl
    | apply keeps_foldl2
    | apply keeps_foldl3
    | intro _
    | dsimp only
    | (fail_if_no_progress (apply keeps_mk; on_goal 2 => (constructor <;> first | exact .inr (by decide) | exact .inl rfl)))
    | split

theorem execErroredSecond_keeps {m_ : Nat} (hm : maskIn 1963 m_ = true) {s_ s0 : State} (h_ : Keeps m_ s_ s0) (p : Fin 96) (at_ : Nat) : KeepsR m_ s_ (execErroredSecond p at_ s0) := by
  refine KeepsR.after hm h_ ?_
  clear hm h_
  unfold execErroredSecond
  repeat' with_reducible first
    | assumption
    | exact Keeps.refl _ _
    | (show maskIn _ _ = true; decide)
    | apply State_closeSecond_keeps
    | apply State_toTick_keeps
    | apply keepsR_next
    | apply keeps_ite
    | apply keepsR_ite
    | apply keeps_ite2
    | apply keeps_foldl
    | apply keeps_foldl2
    | apply keeps_foldl3
    | intro _
    | dsimp only
    | (fail_if_no_progress (apply keeps_mk; on_goal 2 => (constructor <;> first | exact .inr (by decide) | exact .inl rfl)))
    | split

theorem execQuadAssociation_keeps {m_ : Nat} (hm : maskIn 36747 m_ = true) {s_ s : State} (h_ : Keeps m_ s_ s) (k : Fin 24) (skewPt : Nat) : KeepsR m_ s_ (execQuadAssociation k skewPt s) := by
  refine KeepsR.after hm h_ ?_
  clear hm h_
  unfold execQuadAssociation
  repeat' with_reducible first
    | assumption
    | exact Keeps.refl _ _
    | (show maskIn _ _ = true; decide)
    | apply State_sdiEvent_keeps
    | apply State_setInt_keeps
    | apply State_setLane_keeps
    | apply State_setNum_keeps
    | apply State_slotClear_keeps
    | apply State_sourcePresent_keeps
    | apply keepsR_next
    | apply keeps_ite
    | apply keepsR_ite
    | apply keeps_ite2
    | apply keeps_foldl
    | apply keeps_foldl2
    | apply keeps_foldl3
    | intro _
    | dsimp only
    | (fail_if_no_progress (apply keeps_mk; on_goal 2 => (constructor <;> first | exact .inr (by decide) | exact .inl rfl)))
    | split

theorem execQuadAssociationTimeout_keeps {m_ : Nat} (hm : maskIn 939 m_ = true) {s_ s0 : State} (h_ : Keeps m_ s_ s0) (k : Fin 24) (skewPt : Nat) (at_ : Nat) : KeepsR m_ s_ (execQuadAssociationTimeout k skewPt at_ s0) := by
  refine KeepsR.after hm h_ ?_
  clear hm h_
  unfold execQuadAssociationTimeout
  repeat' with_reducible first
    | assumption
    | exact Keeps.refl _ _
    | (show maskIn _ _ = true; decide)
    | apply State_sdiEvent_keeps
    | apply State_setNum_keeps
    | apply State_toTick_keeps
    | apply keepsR_next
    | apply keeps_ite
    | apply keepsR_ite
    | apply keeps_ite2
    | apply keeps_foldl
    | apply keeps_foldl2
    | apply keeps_foldl3
    | intro _
    | dsimp only
    | (fail_if_no_progress (apply keeps_mk; on_goal 2 => (constructor <;> first | exact .inr (by decide) | exact .inl rfl)))
    | split

theorem execQuadLinkReentry_keeps {m_ : Nat} (hm : maskIn 1930 m_ = true) {s_ s : State} (h_ : Keeps m_ s_ s) (p : Fin 96) : KeepsR m_ s_ (execQuadLinkReentry p s) := by
  refine KeepsR.after hm h_ ?_
  clear hm h_
  unfold execQuadLinkReentry
  repeat' with_reducible first
    | assumption
    | exact Keeps.refl _ _
    | (show maskIn _ _ = true; decide)
    | apply State_sdiEvent_keeps
    | apply State_setLane_keeps
    | apply keepsR_next
    | apply keeps_ite
    | apply keepsR_ite
    | apply keeps_ite2
    | apply keeps_foldl
    | apply keeps_foldl2
    | apply keeps_foldl3
    | intro _
    | dsimp only
    | (fail_if_no_progress (apply keeps_mk; on_goal 2 => (constructor <;> first | exact .inr (by decide) | exact .inl rfl)))
    | split

theorem execSerialiserStart_keeps {m_ : Nat} (hm : maskIn 1024 m_ = true) {s_ s : State} (h_ : Keeps m_ s_ s) (p : Fin 96) : KeepsR m_ s_ (execSerialiserStart p s) := by
  refine KeepsR.after hm h_ ?_
  clear hm h_
  unfold execSerialiserStart
  repeat' with_reducible first
    | assumption
    | exact Keeps.refl _ _
    | (show maskIn _ _ = true; decide)
    | apply State_setLane_keeps
    | apply keepsR_next
    | apply keeps_ite
    | apply keepsR_ite
    | apply keeps_ite2
    | apply keeps_foldl
    | apply keeps_foldl2
    | apply keeps_foldl3
    | intro _
    | dsimp only
    | (fail_if_no_progress (apply keeps_mk; on_goal 2 => (constructor <;> first | exact .inr (by decide) | exact .inl rfl)))
    | split

theorem State_mapLeaves_keeps {m_ : Nat} (hm : maskIn 1024 m_ = true) {s_ s : State} (h_ : Keeps m_ s_ s) (o : Nat) (k : Nat) : Keeps m_ s_ (State.mapLeaves s o k) := by
  refine Keeps.after hm h_ ?_
  clear hm h_
  unfold State.mapLeaves
  repeat' with_reducible first
    | assumption
    | exact Keeps.refl _ _
    | (show maskIn _ _ = true; decide)
    | apply State_setLane_keeps
    | apply keepsR_next
    | apply keeps_ite
    | apply keepsR_ite
    | apply keeps_ite2
    | apply keeps_foldl
    | apply keeps_foldl2
    | apply keeps_foldl3
    | intro _
    | dsimp only
    | (fail_if_no_progress (apply keeps_mk; on_goal 2 => (constructor <;> first | exact .inr (by decide) | exact .inl rfl)))
    | split

theorem State_sdiApply_keeps {m_ : Nat} (hm : maskIn 700351 m_ = true) {s_ s : State} (h_ : Keeps m_ s_ s) (pre : State) (p : Nat) : Keeps m_ s_ (State.sdiApply s pre p) := by
  refine Keeps.after hm h_ ?_
  clear hm h_
  unfold State.sdiApply
  repeat' with_reducible first
    | assumption
    | exact Keeps.refl _ _
    | (show maskIn _ _ = true; decide)
    | apply State_loseLock_keeps
    | apply State_restartSearch_keeps
    | apply State_setLane_keeps
    | apply State_setNum_keeps
    | apply State_setOut_keeps
    | apply State_slotClear_keeps
    | apply State_sourcePresent_keeps
    | apply keepsR_next
    | apply keeps_ite
    | apply keepsR_ite
    | apply keeps_ite2
    | apply keeps_foldl
    | apply keeps_foldl2
    | apply keeps_foldl3
    | intro _
    | dsimp only
    | (fail_if_no_progress (apply keeps_mk; on_goal 2 => (constructor <;> first | exact .inr (by decide) | exact .inl rfl)))
    | split

end Sys2Proof.Machine
end

