-- ==== Sys2Proof/Laws/KeepsOutputs.lean ====
section
/-! SUPPORT. Outputs: what every operation keeps. -/

namespace Sys2Proof.Machine

theorem State_takenAt_keeps {m_ : Nat} (hm : maskIn 1024 m_ = true) {s_ s : State} (h_ : Keeps m_ s_ s) (o : Nat) (k : Nat) (p : Nat) (t : Nat) : Keeps m_ s_ (State.takenAt s o k p t).2 := by
  refine Keeps.after hm h_ ?_
  clear hm h_
  unfold State.takenAt
  repeat' with_reducible first
    | assumption
    | exact Keeps.refl _ _
    | (show maskIn _ _ = true; decide)
    | apply State_setOut_keeps
    | apply keepsR_next
    | apply keeps_ite
    | apply keepsR_ite
    | apply keeps_ite2
    | apply keeps_foldl
    | apply keeps_foldl2
    | apply keeps_foldl3
    | intro _
    | dsimp only
    | (fail_if_no_progress (apply keeps_mk; on_goal 2 => (constructor <;> first | exact .inr (by decide) | exact .inl rfl)))
    | split

theorem State_takenOnce_keeps {m_ : Nat} (hm : maskIn 1024 m_ = true) {s_ s : State} (h_ : Keeps m_ s_ s) (o : Nat) (k : Nat) (p : Nat) (t : Nat) : Keeps m_ s_ (State.takenOnce s o k p t).2 := by
  refine Keeps.after hm h_ ?_
  clear hm h_
  unfold State.takenOnce
  repeat' with_reducible first
    | assumption
    | exact Keeps.refl _ _
    | (show maskIn _ _ = true; decide)
    | apply State_takenAt_keeps
    | apply keepsR_next
    | apply keeps_ite
    | apply keepsR_ite
    | apply keeps_ite2
    | apply keeps_foldl
    | apply keeps_foldl2
    | apply keeps_foldl3
    | intro _
    | dsimp only
    | (fail_if_no_progress (apply keeps_mk; on_goal 2 => (constructor <;> first | exact .inr (by decide) | exact .inl rfl)))
    | split

theorem State_stepPos_keeps {m_ : Nat} (hm : maskIn 1024 m_ = true) {s_ s : State} (h_ : Keeps m_ s_ s) (o : Nat) (k : Nat) (p : Nat) (t : Nat) : Keeps m_ s_ (State.stepPos s o k p t).2 := by
  refine Keeps.after hm h_ ?_
  clear hm h_
  unfold State.stepPos
  repeat' with_reducible first
    | assumption
    | exact Keeps.refl _ _
    | (show maskIn _ _ = true; decide)
    | apply State_takenOnce_keeps
    | apply keepsR_next
    | apply keeps_ite
    | apply keepsR_ite
    | apply keeps_ite2
    | apply keeps_foldl
    | apply keeps_foldl2
    | apply keeps_foldl3
    | intro _
    | dsimp only
    | (fail_if_no_progress (apply keeps_mk; on_goal 2 => (constructor <;> first | exact .inr (by decide) | exact .inl rfl)))
    | split

theorem State_startTrans_keeps {m_ : Nat} (hm : maskIn 1024 m_ = true) {s_ s : State} (h_ : Keeps m_ s_ s) (o : Nat) (k : Nat) (order : Nat) (trans : Nat) (chans : List (Nat × Nat)) : Keeps m_ s_ (State.startTrans s o k order trans chans) := by
  refine Keeps.after hm h_ ?_
  clear hm h_
  unfold State.startTrans
  repeat' with_reducible first
    | assumption
    | exact Keeps.refl _ _
    | (show maskIn _ _ = true; decide)
    | apply State_setOut_keeps
    | apply keepsR_next
    | apply keeps_ite
    | apply keepsR_ite
    | apply keeps_ite2
    | apply keeps_foldl
    | apply keeps_foldl2
    | apply keeps_foldl3
    | intro _
    | dsimp only
    | (fail_if_no_progress (apply keeps_mk; on_goal 2 => (constructor <;> first | exact .inr (by decide) | exact .inl rfl)))
    | split

theorem State_dropRecs_keeps {m_ : Nat} (hm : maskIn 1024 m_ = true) {s_ s : State} (h_ : Keeps m_ s_ s) (o : Nat) (k : Nat) (hit : Option Nat) : Keeps m_ s_ (State.dropRecs s o k hit) := by
  refine Keeps.after hm h_ ?_
  clear hm h_
  unfold State.dropRecs
  repeat' with_reducible first
    | assumption
    | exact Keeps.refl _ _
    | (show maskIn _ _ = true; decide)
    | apply State_setBatches_keeps
    | apply keepsR_next
    | apply keeps_ite
    | apply keepsR_ite
    | apply keeps_ite2
    | apply keeps_foldl
    | apply keeps_foldl2
    | apply keeps_foldl3
    | intro _
    | dsimp only
    | (fail_if_no_progress (apply keeps_mk; on_goal 2 => (constructor <;> first | exact .inr (by decide) | exact .inl rfl)))
    | split

theorem State_pathLines_keeps {m_ : Nat} (hm : maskIn 16 m_ = true) {s_ s : State} (h_ : Keeps m_ s_ s) (o : Nat) : Keeps m_ s_ (State.pathLines s o).2 := by
  refine Keeps.after hm h_ ?_
  clear hm h_
  unfold State.pathLines
  repeat' with_reducible first
    | assumption
    | exact Keeps.refl _ _
    | (show maskIn _ _ = true; decide)
    | apply State_freeNat_keeps
    | apply keepsR_next
    | apply keeps_ite
    | apply keepsR_ite
    | apply keeps_ite2
    | apply keeps_foldl
    | apply keeps_foldl2
    | apply keeps_foldl3
    | intro _
    | dsimp only
    | (fail_if_no_progress (apply keeps_mk; on_goal 2 => (constructor <;> first | exact .inr (by decide) | exact .inl rfl)))
    | split

theorem State_outLatency_keeps {m_ : Nat} (hm : maskIn 17 m_ = true) {s_ s : State} (h_ : Keeps m_ s_ s) (o : Nat) : Keeps m_ s_ (State.outLatency s o) := by
  refine Keeps.after hm h_ ?_
  clear hm h_
  unfold State.outLatency
  repeat' with_reducible first
    | assumption
    | exact Keeps.refl _ _
    | (show maskIn _ _ = true; decide)
    | apply State_pathLines_keeps
    | apply State_setInt_keeps
    | apply State_setNum_keeps
    | apply keepsR_next
    | apply keeps_ite
    | apply keepsR_ite
    | apply keeps_ite2
    | apply keeps_foldl
    | apply keeps_foldl2
    | apply keeps_foldl3
    | intro _
    | dsimp only
    | (fail_if_no_progress (apply keeps_mk; on_goal 2 => (constructor <;> first | exact .inr (by decide) | exact .inl rfl)))
    | split

theorem State_outStateObj_keeps {m_ : Nat} (hm : maskIn 1 m_ = true) {s_ s : State} (h_ : Keeps m_ s_ s) (o : Nat) : Keeps m_ s_ (State.outStateObj s o) := by
  refine Keeps.after hm h_ ?_
  clear hm h_
  unfold State.outStateObj
  repeat' with_reducible first
    | assumption
    | exact Keeps.refl _ _
    | (show maskIn _ _ = true; decide)
    | apply State_setNum_keeps
    | apply keepsR_next
    | apply keeps_ite
    | apply keepsR_ite
    | apply keeps_ite2
    | apply keeps_foldl
    | apply keeps_foldl2
    | apply keeps_foldl3
    | intro _
    | dsimp only
    | (fail_if_no_progress (apply keeps_mk; on_goal 2 => (constructor <;> first | exact .inr (by decide) | exact .inl rfl)))
    | split

theorem State_endHold_keeps {m_ : Nat} (hm : maskIn 1931 m_ = true) {s_ s : State} (h_ : Keeps m_ s_ s) (o : Nat) : Keeps m_ s_ (State.endHold s o) := by
  refine Keeps.after hm h_ ?_
  clear hm h_
  unfold State.endHold
  repeat' with_reducible first
    | assumption
    | exact Keeps.refl _ _
    | (show maskIn _ _ = true; decide)
    | apply State_outStateObj_keeps
    | apply State_raise_keeps
    | apply State_setOut_keeps
    | apply keepsR_next
    | apply keeps_ite
    | apply keepsR_ite
    | apply keeps_ite2
    | apply keeps_foldl
    | apply keeps_foldl2
    | apply keeps_foldl3
    | intro _
    | dsimp only
    | (fail_if_no_progress (apply keeps_mk; on_goal 2 => (constructor <;> first | exact .inr (by decide) | exact .inl rfl)))
    | split

theorem State_testConflict_keeps {m_ : Nat} (hm : maskIn 1931 m_ = true) {s_ s : State} (h_ : Keeps m_ s_ s) (o : Nat) : Keeps m_ s_ (State.testConflict s o) := by
  refine Keeps.after hm h_ ?_
  clear hm h_
  unfold State.testConflict
  repeat' with_reducible first
    | assumption
    | exact Keeps.refl _ _
    | (show maskIn _ _ = true; decide)
    | apply State_bump_keeps
    | apply State_endHold_keeps
    | apply State_outEvent_keeps
    | apply State_outStateObj_keeps
    | apply State_raise_keeps
    | apply State_setOut_keeps
    | apply keepsR_next
    | apply keeps_ite
    | apply keepsR_ite
    | apply keeps_ite2
    | apply keeps_foldl
    | apply keeps_foldl2
    | apply keeps_foldl3
    | intro _
    | dsimp only
    | (fail_if_no_progress (apply keeps_mk; on_goal 2 => (constructor <;> first | exact .inr (by decide) | exact .inl rfl)))
    | split

theorem State_testRates_keeps {m_ : Nat} (hm : maskIn 1930 m_ = true) {s_ s : State} (h_ : Keeps m_ s_ s) (o : Nat) (k : Nat) : Keeps m_ s_ (State.testRates s o k) := by
  refine Keeps.after hm h_ ?_
  clear hm h_
  unfold State.testRates
  repeat' with_reducible first
    | assumption
    | exact Keeps.refl _ _
    | (show maskIn _ _ = true; decide)
    | apply State_outEvent_keeps
    | apply State_setOut_keeps
    | apply keepsR_next
    | apply keeps_ite
    | apply keepsR_ite
    | apply keeps_ite2
    | apply keeps_foldl
    | apply keeps_foldl2
    | apply keeps_foldl3
    | intro _
    | dsimp only
    | (fail_if_no_progress (apply keeps_mk; on_goal 2 => (constructor <;> first | exact .inr (by decide) | exact .inl rfl)))
    | split

theorem State_applyTake_keeps {m_ : Nat} (hm : maskIn 165775 m_ = true) {s_ s : State} (h_ : Keeps m_ s_ s) (o : Nat) (k : Nat) (b : Batch) (r : PendRec) : Keeps m_ s_ (State.applyTake s o k b r) := by
  refine Keeps.after hm h_ ?_
  clear hm h_
  unfold State.applyTake
  repeat' with_reducible first
    | assumption
    | exact Keeps.refl _ _
    | (show maskIn _ _ = true; decide)
    | apply State_askNeeds_keeps
    | apply State_journal_keeps
    | apply State_outEvent_keeps
    | apply State_setBit_keeps
    | apply State_setNum_keeps
    | apply State_setOut_keeps
    | apply State_startTrans_keeps
    | apply keepsR_next
    | apply keeps_ite
    | apply keepsR_ite
    | apply keeps_ite2
    | apply keeps_foldl
    | apply keeps_foldl2
    | apply keeps_foldl3
    | intro _
    | dsimp only
    | (fail_if_no_progress (apply keeps_mk; on_goal 2 => (constructor <;> first | exact .inr (by decide) | exact .inl rfl)))
    | split

theorem State_convSwitch_keeps {m_ : Nat} (hm : maskIn 66459 m_ = true) {s_ s : State} (h_ : Keeps m_ s_ s) (o : Nat) (k : Nat) : Keeps m_ s_ (State.convSwitch s o k) := by
  refine Keeps.after hm h_ ?_
  clear hm h_
  unfold State.convSwitch
  repeat' with_reducible first
    | assumption
    | exact Keeps.refl _ _
    | (show maskIn _ _ = true; decide)
    | apply State_outLatency_keeps
    | apply State_raise_keeps
    | apply State_setNum_keeps
    | apply keepsR_next
    | apply keeps_ite
    | apply keepsR_ite
    | apply keeps_ite2
    | apply keeps_foldl
    | apply keeps_foldl2
    | apply keeps_foldl3
    | intro _
    | dsimp only
    | (fail_if_no_progress (apply keeps_mk; on_goal 2 => (constructor <;> first | exact .inr (by decide) | exact .inl rfl)))
    | split

theorem State_refuseStep_keeps {m_ : Nat} (hm : maskIn 133007 m_ = true) {s_ s : State} (h_ : Keeps m_ s_ s) (k : Nat) (b : Batch) (r : PendRec) : Keeps m_ s_ (State.refuseStep s k b r) := by
  refine Keeps.after hm h_ ?_
  clear hm h_
  unfold State.refuseStep
  repeat' with_reducible first
    | assumption
    | exact Keeps.refl _ _
    | (show maskIn _ _ = true; decide)
    | apply State_journal_keeps
    | apply State_raise_keeps
    | apply State_ringRefused_keeps
    | apply keepsR_next
    | apply keeps_ite
    | apply keepsR_ite
    | apply keeps_ite2
    | apply keeps_foldl
    | apply keeps_foldl2
    | apply keeps_foldl3
    | intro _
    | dsimp only
    | (fail_if_no_progress (apply keeps_mk; on_goal 2 => (constructor <;> first | exact .inr (by decide) | exact .inl rfl)))
    | split

theorem State_switchOutput_keeps {m_ : Nat} (hm : maskIn 231327 m_ = true) {s_ s : State} (h_ : Keeps m_ s_ s) (o : Nat) (k : Nat) : Keeps m_ s_ (State.switchOutput s o k) := by
  refine Keeps.after hm h_ ?_
  clear hm h_
  unfold State.switchOutput
  repeat' with_reducible first
    | assumption
    | exact Keeps.refl _ _
    | (show maskIn _ _ = true; decide)
    | apply State_applyTake_keeps
    | apply State_bump_keeps
    | apply State_convSwitch_keeps
    | apply State_dropRecs_keeps
    | apply State_journal_keeps
    | apply State_outLatency_keeps
    | apply State_outStateObj_keeps
    | apply State_pendObj_keeps
    | apply State_raise_keeps
    | apply State_refuseStep_keeps
    | apply State_setBatches_keeps
    | apply State_setOut_keeps
    | apply State_sweepBatches_keeps
    | apply State_testConflict_keeps
    | apply State_testRates_keeps
    | apply keepsR_next
    | apply keeps_ite
    | apply keepsR_ite
    | apply keeps_ite2
    | apply keeps_foldl
    | apply keeps_foldl2
    | apply keeps_foldl3
    | intro _
    | dsimp only
    | (fail_if_no_progress (apply keeps_mk; on_goal 2 => (constructor <;> first | exact .inr (by decide) | exact .inl rfl)))
    | split

theorem State_convFrame_keeps {m_ : Nat} (hm : maskIn 65536 m_ = true) {s_ s : State} (h_ : Keeps m_ s_ s) (o : Nat) : Keeps m_ s_ (State.convFrame s o) := by
  refine Keeps.after hm h_ ?_
  clear hm h_
  unfold State.convFrame
  repeat' with_reducible first
    | assumption
    | exact Keeps.refl _ _
    | (show maskIn _ _ = true; decide)
    | apply keepsR_next
    | apply keeps_ite
    | apply keepsR_ite
    | apply keeps_ite2
    | apply keeps_foldl
    | apply keeps_foldl2
    | apply keeps_foldl3
    | intro _
    | dsimp only
    | (fail_if_no_progress (apply keeps_mk; on_goal 2 => (constructor <;> first | exact .inr (by decide) | exact .inl rfl)))
    | split

theorem State_readPositions_keeps {m_ : Nat} (hm : maskIn 1024 m_ = true) {s_ s : State} (h_ : Keeps m_ s_ s) (o : Nat) (k : Nat) (t0 : Nat) (t1 : Nat) (ps : List Nat) : Keeps m_ s_ (State.readPositions s o k t0 t1 ps).2 := by
  refine Keeps.after hm h_ ?_
  clear hm h_
  unfold State.readPositions
  repeat' with_reducible first
    | assumption
    | exact Keeps.refl _ _
    | (show maskIn _ _ = true; decide)
    | apply State_stepPos_keeps
    | apply keepsR_next
    | apply keeps_ite
    | apply keepsR_ite
    | apply keeps_ite2
    | apply keeps_foldl
    | apply keeps_foldl2
    | apply keeps_foldl3
    | intro _
    | dsimp only
    | (fail_if_no_progress (apply keeps_mk; on_goal 2 => (constructor <;> first | exact .inr (by decide) | exact .inl rfl)))
    | split

theorem State_holdLine_keeps {m_ : Nat} (hm : maskIn 657295 m_ = true) {s_ s : State} (h_ : Keeps m_ s_ s) (o : Nat) (cause : Option Nat) : Keeps m_ s_ (State.holdLine s o cause) := by
  refine Keeps.after hm h_ ?_
  clear hm h_
  unfold State.holdLine
  repeat' with_reducible first
    | assumption
    | exact Keeps.refl _ _
    | (show maskIn _ _ = true; decide)
    | apply State_bump_keeps
    | apply State_endHold_keeps
    | apply State_outEvent_keeps
    | apply State_outStateObj_keeps
    | apply State_report_keeps
    | apply State_setOut_keeps
    | apply keepsR_next
    | apply keeps_ite
    | apply keepsR_ite
    | apply keeps_ite2
    | apply keeps_foldl
    | apply keeps_foldl2
    | apply keeps_foldl3
    | intro _
    | dsimp only
    | (fail_if_no_progress (apply keeps_mk; on_goal 2 => (constructor <;> first | exact .inr (by decide) | exact .inl rfl)))
    | split

theorem State_sdiSignal_keeps {m_ : Nat} (hm : maskIn 1931 m_ = true) {s_ s : State} (h_ : Keeps m_ s_ s) (o : Nat) (k : Nat) (n : Nat) (v : Nat) (t : Nat) (data : List (List Byte)) (holding : Bool) (anc : List AncPkt) (t0 : Nat) (t1 : Nat) : Keeps m_ s_ (State.sdiSignal s o k n v t data holding anc t0 t1).2 := by
  refine Keeps.after hm h_ ?_
  clear hm h_
  unfold State.sdiSignal
  repeat' with_reducible first
    | assumption
    | exact Keeps.refl _ _
    | (show maskIn _ _ = true; decide)
    | apply State_bump_keeps
    | apply State_countSecond_keeps
    | apply State_readPositions_keeps
    | apply State_setBit_keeps
    | apply State_setOut_keeps
    | apply keepsR_next
    | apply keeps_ite
    | apply keepsR_ite
    | apply keeps_ite2
    | apply keeps_foldl
    | apply keeps_foldl2
    | apply keeps_foldl3
    | intro _
    | dsimp only
    | (fail_if_no_progress (apply keeps_mk; on_goal 2 => (constructor <;> first | exact .inr (by decide) | exact .inl rfl)))
    | split

theorem State_sendLine_keeps {m_ : Nat} (hm : maskIn 755599 m_ = true) {s_ s0 : State} (h_ : Keeps m_ s_ s0) (o : Nat) (k : Nat) (n : Nat) (extra : Bool) : Keeps m_ s_ (State.sendLine s0 o k n extra) := by
  refine Keeps.after hm h_ ?_
  clear hm h_
  unfold State.sendLine
  repeat' with_reducible first
    | assumption
    | exact Keeps.refl _ _
    | (show maskIn _ _ = true; decide)
    | apply State_bump_keeps
    | apply State_convFrame_keeps
    | apply State_emit_keeps
    | apply State_enterLine_keeps
    | apply State_holdLine_keeps
    | apply State_mapLeaves_keeps
    | apply State_readPositions_keeps
    | apply State_sdiSignal_keeps
    | apply State_setOut_keeps
    | apply State_sourcePresent_keeps
    | apply keepsR_next
    | apply keeps_ite
    | apply keepsR_ite
    | apply keeps_ite2
    | apply keeps_foldl
    | apply keeps_foldl2
    | apply keeps_foldl3
    | intro _
    | dsimp only
    | (fail_if_no_progress (apply keeps_mk; on_goal 2 => (constructor <;> first | exact .inr (by decide) | exact .inl rfl)))
    | split

theorem State_stepAudio_keeps {m_ : Nat} (hm : maskIn 5120 m_ = true) {s_ s : State} (h_ : Keeps m_ s_ s) (o : Nat) (k : Nat) (n : Nat) (drop : Bool) : Keeps m_ s_ (State.stepAudio s o k n drop) := by
  refine Keeps.after hm h_ ?_
  clear hm h_
  unfold State.stepAudio
  repeat' with_reducible first
    | assumption
    | exact Keeps.refl _ _
    | (show maskIn _ _ = true; decide)
    | apply State_setOut_keeps
    | apply keepsR_next
    | apply keeps_ite
    | apply keepsR_ite
    | apply keeps_ite2
    | apply keeps_foldl
    | apply keeps_foldl2
    | apply keeps_foldl3
    | intro _
    | dsimp only
    | (fail_if_no_progress (apply keeps_mk; on_goal 2 => (constructor <;> first | exact .inr (by decide) | exact .inl rfl)))
    | split

theorem State_leaveOut_keeps {m_ : Nat} (hm : maskIn 5120 m_ = true) {s_ s0 : State} (h_ : Keeps m_ s_ s0) (o : Nat) (k : Nat) (n : Nat) : Keeps m_ s_ (State.leaveOut s0 o k n) := by
  refine Keeps.after hm h_ ?_
  clear hm h_
  unfold State.leaveOut
  repeat' with_reducible first
    | assumption
    | exact Keeps.refl _ _
    | (show maskIn _ _ = true; decide)
    | apply State_setOut_keeps
    | apply State_stepAudio_keeps
    | apply keepsR_next
    | apply keeps_ite
    | apply keepsR_ite
    | apply keeps_ite2
    | apply keeps_foldl
    | apply keeps_foldl2
    | apply keeps_foldl3
    | intro _
    | dsimp only
    | (fail_if_no_progress (apply keeps_mk; on_goal 2 => (constructor <;> first | exact .inr (by decide) | exact .inl rfl)))
    | split

theorem State_sendCopy_keeps {m_ : Nat} (hm : maskIn 759695 m_ = true) {s_ s : State} (h_ : Keeps m_ s_ s) (o : Nat) (k : Nat) (n : Nat) : Keeps m_ s_ (State.sendCopy s o k n) := by
  refine Keeps.after hm h_ ?_
  clear hm h_
  unfold State.sendCopy
  repeat' with_reducible first
    | assumption
    | exact Keeps.refl _ _
    | (show maskIn _ _ = true; decide)
    | apply State_sendLine_keeps
    | apply State_setOut_keeps
    | apply State_stepAudio_keeps
    | apply keepsR_next
    | apply keeps_ite
    | apply keepsR_ite
    | apply keeps_ite2
    | apply keeps_foldl
    | apply keeps_foldl2
    | apply keeps_foldl3
    | intro _
    | dsimp only
    | (fail_if_no_progress (apply keeps_mk; on_goal 2 => (constructor <;> first | exact .inr (by decide) | exact .inl rfl)))
    | split

theorem State_syncAudio_keeps {m_ : Nat} (hm : maskIn 5120 m_ = true) {s_ s : State} (h_ : Keeps m_ s_ s) (o : Nat) (k : Nat) (n : Nat) : Keeps m_ s_ (State.syncAudio s o k n) := by
  refine Keeps.after hm h_ ?_
  clear hm h_
  unfold State.syncAudio
  repeat' with_reducible first
    | assumption
    | exact Keeps.refl _ _
    | (show maskIn _ _ = true; decide)
    | apply State_setOut_keeps
    | apply keepsR_next
    | apply keeps_ite
    | apply keepsR_ite
    | apply keeps_ite2
    | apply keeps_foldl
    | apply keeps_foldl2
    | apply keeps_foldl3
    | intro _
    | dsimp only
    | (fail_if_no_progress (apply keeps_mk; on_goal 2 => (constructor <;> first | exact .inr (by decide) | exact .inl rfl)))
    | split

theorem execOutputLine_keeps {m_ : Nat} (hm : maskIn 759727 m_ = true) {s_ s0 : State} (h_ : Keeps m_ s_ s0) (o : Fin 128) (k : Nat) (n : Nat) (at_ : Nat) : KeepsR m_ s_ (execOutputLine o k n at_ s0) := by
  refine KeepsR.after hm h_ ?_
  clear hm h_
  unfold execOutputLine
  repeat' with_reducible first
    | assumption
    | exact Keeps.refl _ _
    | (show maskIn _ _ = true; decide)
    | apply State_leaveOut_keeps
    | apply State_sendCopy_keeps
    | apply State_sendLine_keeps
    | apply State_syncAudio_keeps
    | apply State_toTick_keeps
    | apply keepsR_next
    | apply keeps_ite
    | apply keepsR_ite
    | apply keeps_ite2
    | apply keeps_foldl
    | apply keeps_foldl2
    | apply keeps_foldl3
    | intro _
    | dsimp only
    | (fail_if_no_progress (apply keeps_mk; on_goal 2 => (constructor <;> first | exact .inr (by decide) | exact .inl rfl)))
    | split

theorem execAudioTakeInstant_keeps {m_ : Nat} (hm : maskIn 1056 m_ = true) {s_ s0 : State} (h_ : Keeps m_ s_ s0) (o : Fin 128) (k : Nat) (at_ : Nat) : KeepsR m_ s_ (execAudioTakeInstant o k at_ s0) := by
  refine KeepsR.after hm h_ ?_
  clear hm h_
  unfold execAudioTakeInstant
  repeat' with_reducible first
    | assumption
    | exact Keeps.refl _ _
    | (show maskIn _ _ = true; decide)
    | apply State_startTrans_keeps
    | apply State_toTick_keeps
    | apply keepsR_next
    | apply keeps_ite
    | apply keepsR_ite
    | apply keeps_ite2
    | apply keeps_foldl
    | apply keeps_foldl2
    | apply keeps_foldl3
    | intro _
    | dsimp only
    | (fail_if_no_progress (apply keeps_mk; on_goal 2 => (constructor <;> first | exact .inr (by decide) | exact .inl rfl)))
    | split

theorem State_forceCrossing_keeps {m_ : Nat} (hm : maskIn 1930 m_ = true) {s_ s : State} (h_ : Keeps m_ s_ s) (o : Nat) (pos : Nat) : Keeps m_ s_ (State.forceCrossing s o pos) := by
  refine Keeps.after hm h_ ?_
  clear hm h_
  unfold State.forceCrossing
  repeat' with_reducible first
    | assumption
    | exact Keeps.refl _ _
    | (show maskIn _ _ = true; decide)
    | apply State_markSecond_keeps
    | apply State_setBit_keeps
    | apply State_setOut_keeps
    | apply keepsR_next
    | apply keeps_ite
    | apply keepsR_ite
    | apply keeps_ite2
    | apply keeps_foldl
    | apply keeps_foldl2
    | apply keeps_foldl3
    | intro _
    | dsimp only
    | (fail_if_no_progress (apply keeps_mk; on_goal 2 => (constructor <;> first | exact .inr (by decide) | exact .inl rfl)))
    | split

end Sys2Proof.Machine
end

