-- ==== Sys2Proof/Laws/KeepsStore.lean ====
section
/-! SUPPORT. Store: what every operation keeps. -/

namespace Sys2Proof.Machine

theorem State_poison_keeps {m_ : Nat} (hm : maskIn 1024 m_ = true) {s_ s : State} (h_ : Keeps m_ s_ s) (page : Nat) (ws : List Nat) : Keeps m_ s_ (State.poison s page ws) := by
  refine Keeps.after hm h_ ?_
  clear hm h_
  unfold State.poison
  repeat' with_reducible first
    | assumption
    | exact Keeps.refl _ _
    | (show maskIn _ _ = true; decide)
    | apply keepsR_next
    | apply keeps_ite
    | apply keepsR_ite
    | apply keeps_ite2
    | apply keeps_foldl
    | apply keeps_foldl2
    | apply keeps_foldl3
    | intro _
    | dsimp only
    | (fail_if_no_progress (apply keeps_mk; on_goal 2 => (constructor <;> first | exact .inr (by decide) | exact .inl rfl)))
    | split

theorem execLineRelease_keeps {m_ : Nat} (hm : maskIn 690095 m_ = true) {s_ s0 : State} (h_ : Keeps m_ s_ s0) (sl : Fin 240) (k : Nat) (n : Nat) (at_ : Nat) : KeepsR m_ s_ (execLineRelease sl k n at_ s0) := by
  refine KeepsR.after hm h_ ?_
  clear hm h_
  unfold execLineRelease
  repeat' with_reducible first
    | assumption
    | exact Keeps.refl _ _
    | (show maskIn _ _ = true; decide)
    | apply State_doRealign_keeps
    | apply State_releaseLine_keeps
    | apply State_report_keeps
    | apply State_toTick_keeps
    | apply keepsR_next
    | apply keeps_ite
    | apply keepsR_ite
    | apply keeps_ite2
    | apply keeps_foldl
    | apply keeps_foldl2
    | apply keeps_foldl3
    | intro _
    | dsimp only
    | (fail_if_no_progress (apply keeps_mk; on_goal 2 => (constructor <;> first | exact .inr (by decide) | exact .inl rfl)))
    | split

theorem execSampleRelease_keeps {m_ : Nat} (hm : maskIn 34731 m_ = true) {s_ s0 : State} (h_ : Keeps m_ s_ s0) (sl : Fin 240) (t : Nat) (at_ : Nat) : KeepsR m_ s_ (execSampleRelease sl t at_ s0) := by
  refine KeepsR.after hm h_ ?_
  clear hm h_
  unfold execSampleRelease
  repeat' with_reducible first
    | assumption
    | exact Keeps.refl _ _
    | (show maskIn _ _ = true; decide)
    | apply State_releaseSamples_keeps
    | apply State_setNum_keeps
    | apply State_setSlot_keeps
    | apply State_toTick_keeps
    | apply keepsR_next
    | apply keeps_ite
    | apply keepsR_ite
    | apply keeps_ite2
    | apply keeps_foldl
    | apply keeps_foldl2
    | apply keeps_foldl3
    | intro _
    | dsimp only
    | (fail_if_no_progress (apply keeps_mk; on_goal 2 => (constructor <;> first | exact .inr (by decide) | exact .inl rfl)))
    | split

theorem State_storeObjs_keeps {m_ : Nat} (hm : maskIn 1 m_ = true) {s_ s : State} (h_ : Keeps m_ s_ s)  : Keeps m_ s_ (State.storeObjs s) := by
  refine Keeps.after hm h_ ?_
  clear hm h_
  unfold State.storeObjs
  repeat' with_reducible first
    | assumption
    | exact Keeps.refl _ _
    | (show maskIn _ _ = true; decide)
    | apply State_setNum_keeps
    | apply keepsR_next
    | apply keeps_ite
    | apply keepsR_ite
    | apply keeps_ite2
    | apply keeps_foldl
    | apply keeps_foldl2
    | apply keeps_foldl3
    | intro _
    | dsimp only
    | (fail_if_no_progress (apply keeps_mk; on_goal 2 => (constructor <;> first | exact .inr (by decide) | exact .inl rfl)))
    | split

theorem execFrameModeDecision_keeps {m_ : Nat} (hm : maskIn 1963 m_ = true) {s_ s0 : State} (h_ : Keeps m_ s_ s0) (sl : Fin 240) (k : Nat) (at_ : Nat) : KeepsR m_ s_ (execFrameModeDecision sl k at_ s0) := by
  refine KeepsR.after hm h_ ?_
  clear hm h_
  unfold execFrameModeDecision
  repeat' with_reducible first
    | assumption
    | exact Keeps.refl _ _
    | (show maskIn _ _ = true; decide)
    | apply State_doRealign_keeps
    | apply State_frameDecision_keeps
    | apply State_toTick_keeps
    | apply keepsR_next
    | apply keeps_ite
    | apply keepsR_ite
    | apply keeps_ite2
    | apply keeps_foldl
    | apply keeps_foldl2
    | apply keeps_foldl3
    | intro _
    | dsimp only
    | (fail_if_no_progress (apply keeps_mk; on_goal 2 => (constructor <;> first | exact .inr (by decide) | exact .inl rfl)))
    | split

theorem State_freeDue_keeps {m_ : Nat} (hm : maskIn 1025 m_ = true) {s_ s : State} (h_ : Keeps m_ s_ s) (n : Nat) : Keeps m_ s_ (State.freeDue s n) := by
  refine Keeps.after hm h_ ?_
  clear hm h_
  unfold State.freeDue
  repeat' with_reducible first
    | assumption
    | exact Keeps.refl _ _
    | (show maskIn _ _ = true; decide)
    | apply State_storeObjs_keeps
    | apply keepsR_next
    | apply keeps_ite
    | apply keepsR_ite
    | apply keeps_ite2
    | apply keeps_foldl
    | apply keeps_foldl2
    | apply keeps_foldl3
    | intro _
    | dsimp only
    | (fail_if_no_progress (apply keeps_mk; on_goal 2 => (constructor <;> first | exact .inr (by decide) | exact .inl rfl)))
    | split

theorem execVideoDelayApply_keeps {m_ : Nat} (hm : maskIn 1979 m_ = true) {s_ s0 : State} (h_ : Keeps m_ s_ s0) (sl : Fin 240) (k : Nat) (at_ : Nat) : KeepsR m_ s_ (execVideoDelayApply sl k at_ s0) := by
  refine KeepsR.after hm h_ ?_
  clear hm h_
  unfold execVideoDelayApply
  repeat' with_reducible first
    | assumption
    | exact Keeps.refl _ _
    | (show maskIn _ _ = true; decide)
    | apply State_alnEvent_keeps
    | apply State_freeDue_keeps
    | apply State_outLatency_keeps
    | apply State_setSlot_keeps
    | apply State_toTick_keeps
    | apply keepsR_next
    | apply keeps_ite
    | apply keepsR_ite
    | apply keeps_ite2
    | apply keeps_foldl
    | apply keeps_foldl2
    | apply keeps_foldl3
    | intro _
    | dsimp only
    | (fail_if_no_progress (apply keeps_mk; on_goal 2 => (constructor <;> first | exact .inr (by decide) | exact .inl rfl)))
    | split

theorem execAlignModeApply_keeps {m_ : Nat} (hm : maskIn 33833 m_ = true) {s_ s0 : State} (h_ : Keeps m_ s_ s0) (sl : Fin 240) (k : Nat) (at_ : Nat) : KeepsR m_ s_ (execAlignModeApply sl k at_ s0) := by
  refine KeepsR.after hm h_ ?_
  clear hm h_
  unfold execAlignModeApply
  repeat' with_reducible first
    | assumption
    | exact Keeps.refl _ _
    | (show maskIn _ _ = true; decide)
    | apply State_freeDue_keeps
    | apply State_setSlot_keeps
    | apply State_slotAbsent_keeps
    | apply State_slotAcquire_keeps
    | apply State_toTick_keeps
    | apply keepsR_next
    | apply keeps_ite
    | apply keepsR_ite
    | apply keeps_ite2
    | apply keeps_foldl
    | apply keeps_foldl2
    | apply keeps_foldl3
    | intro _
    | dsimp only
    | (fail_if_no_progress (apply keeps_mk; on_goal 2 => (constructor <;> first | exact .inr (by decide) | exact .inl rfl)))
    | split

theorem State_askRealign_keeps {m_ : Nat} (hm : maskIn 1024 m_ = true) {s_ s : State} (h_ : Keeps m_ s_ s) (n : Nat) : Keeps m_ s_ (State.askRealign s n) := by
  refine Keeps.after hm h_ ?_
  clear hm h_
  unfold State.askRealign
  repeat' with_reducible first
    | assumption
    | exact Keeps.refl _ _
    | (show maskIn _ _ = true; decide)
    | apply State_mapSlots_keeps
    | apply keepsR_next
    | apply keeps_ite
    | apply keepsR_ite
    | apply keeps_ite2
    | apply keeps_foldl
    | apply keeps_foldl2
    | apply keeps_foldl3
    | intro _
    | dsimp only
    | (fail_if_no_progress (apply keeps_mk; on_goal 2 => (constructor <;> first | exact .inr (by decide) | exact .inl rfl)))
    | split

theorem State_sparesGone_keeps {m_ : Nat} (hm : maskIn 657295 m_ = true) {s_ s : State} (h_ : Keeps m_ s_ s)  : Keeps m_ s_ (State.sparesGone s) := by
  refine Keeps.after hm h_ ?_
  clear hm h_
  unfold State.sparesGone
  repeat' with_reducible first
    | assumption
    | exact Keeps.refl _ _
    | (show maskIn _ _ = true; decide)
    | apply State_raise_keeps
    | apply State_report_keeps
    | apply State_setBit_keeps
    | apply keepsR_next
    | apply keeps_ite
    | apply keepsR_ite
    | apply keeps_ite2
    | apply keeps_foldl
    | apply keeps_foldl2
    | apply keeps_foldl3
    | intro _
    | dsimp only
    | (fail_if_no_progress (apply keeps_mk; on_goal 2 => (constructor <;> first | exact .inr (by decide) | exact .inl rfl)))
    | split

theorem State_retirePage_keeps {m_ : Nat} (hm : maskIn 690079 m_ = true) {s_ s : State} (h_ : Keeps m_ s_ s) (page : Nat) : Keeps m_ s_ (State.retirePage s page) := by
  refine Keeps.after hm h_ ?_
  clear hm h_
  unfold State.retirePage
  repeat' with_reducible first
    | assumption
    | exact Keeps.refl _ _
    | (show maskIn _ _ = true; decide)
    | apply State_freeNat_keeps
    | apply State_raise_keeps
    | apply State_report_keeps
    | apply State_setBit_keeps
    | apply State_slotAbsent_keeps
    | apply State_sparesGone_keeps
    | apply State_storeObjs_keeps
    | apply keepsR_next
    | apply keeps_ite
    | apply keepsR_ite
    | apply keeps_ite2
    | apply keeps_foldl
    | apply keeps_foldl2
    | apply keeps_foldl3
    | intro _
    | dsimp only
    | (fail_if_no_progress (apply keeps_mk; on_goal 2 => (constructor <;> first | exact .inr (by decide) | exact .inl rfl)))
    | split

theorem State_spareFails_keeps {m_ : Nat} (hm : maskIn 690079 m_ = true) {s_ s : State} (h_ : Keeps m_ s_ s) (spare : Nat) : Keeps m_ s_ (State.spareFails s spare) := by
  refine Keeps.after hm h_ ?_
  clear hm h_
  unfold State.spareFails
  repeat' with_reducible first
    | assumption
    | exact Keeps.refl _ _
    | (show maskIn _ _ = true; decide)
    | apply State_retirePage_keeps
    | apply State_sparesGone_keeps
    | apply State_storeObjs_keeps
    | apply keepsR_next
    | apply keeps_ite
    | apply keepsR_ite
    | apply keeps_ite2
    | apply keeps_foldl
    | apply keeps_foldl2
    | apply keeps_foldl3
    | intro _
    | dsimp only
    | (fail_if_no_progress (apply keeps_mk; on_goal 2 => (constructor <;> first | exact .inr (by decide) | exact .inl rfl)))
    | split

theorem execStoreCorrectedError_keeps {m_ : Nat} (hm : maskIn 690111 m_ = true) {s_ s0 : State} (h_ : Keeps m_ s_ s0) (page : BitVec 16) (at_ : Nat) : KeepsR m_ s_ (execStoreCorrectedError page at_ s0) := by
  refine KeepsR.after hm h_ ?_
  clear hm h_
  unfold execStoreCorrectedError
  repeat' with_reducible first
    | assumption
    | exact Keeps.refl _ _
    | (show maskIn _ _ = true; decide)
    | apply State_bump_keeps
    | apply State_countSecond_keeps
    | apply State_rcAdd_keeps
    | apply State_retirePage_keeps
    | apply State_spareFails_keeps
    | apply State_toTick_keeps
    | apply keepsR_next
    | apply keeps_ite
    | apply keepsR_ite
    | apply keeps_ite2
    | apply keeps_foldl
    | apply keeps_foldl2
    | apply keeps_foldl3
    | intro _
    | dsimp only
    | (fail_if_no_progress (apply keeps_mk; on_goal 2 => (constructor <;> first | exact .inr (by decide) | exact .inl rfl)))
    | split

theorem execStoreUncorrectableError_keeps {m_ : Nat} (hm : maskIn 690111 m_ = true) {s_ s0 : State} (h_ : Keeps m_ s_ s0) (page : BitVec 16) (word : BitVec 15) (pageFault : Bool) (at_ : Nat) : KeepsR m_ s_ (execStoreUncorrectableError page word pageFault at_ s0) := by
  refine KeepsR.after hm h_ ?_
  clear hm h_
  unfold execStoreUncorrectableError
  repeat' with_reducible first
    | assumption
    | exact Keeps.refl _ _
    | (show maskIn _ _ = true; decide)
    | apply State_bump_keeps
    | apply State_poison_keeps
    | apply State_raise_keeps
    | apply State_rcAdd_keeps
    | apply State_retirePage_keeps
    | apply State_setBit_keeps
    | apply State_spareFails_keeps
    | apply State_toTick_keeps
    | apply keepsR_next
    | apply keeps_ite
    | apply keepsR_ite
    | apply keeps_ite2
    | apply keeps_foldl
    | apply keeps_foldl2
    | apply keeps_foldl3
    | intro _
    | dsimp only
    | (fail_if_no_progress (apply keeps_mk; on_goal 2 => (constructor <;> first | exact .inr (by decide) | exact .inl rfl)))
    | split

theorem execRetirementCopyDone_keeps {m_ : Nat} (hm : maskIn 1056 m_ = true) {s_ s0 : State} (h_ : Keeps m_ s_ s0) (page : BitVec 16) (poisoned : List (BitVec 15)) (at_ : Nat) : KeepsR m_ s_ (execRetirementCopyDone page poisoned at_ s0) := by
  refine KeepsR.after hm h_ ?_
  clear hm h_
  unfold execRetirementCopyDone
  repeat' with_reducible first
    | assumption
    | exact Keeps.refl _ _
    | (show maskIn _ _ = true; decide)
    | apply State_poison_keeps
    | apply State_toTick_keeps
    | apply keepsR_next
    | apply keeps_ite
    | apply keepsR_ite
    | apply keeps_ite2
    | apply keeps_foldl
    | apply keeps_foldl2
    | apply keeps_foldl3
    | intro _
    | dsimp only
    | (fail_if_no_progress (apply keeps_mk; on_goal 2 => (constructor <;> first | exact .inr (by decide) | exact .inl rfl)))
    | split

theorem execScrubPassEnd_keeps {m_ : Nat} (hm : maskIn 1963 m_ = true) {s_ s0 : State} (h_ : Keeps m_ s_ s0) (at_ : Nat) : KeepsR m_ s_ (execScrubPassEnd at_ s0) := by
  refine KeepsR.after hm h_ ?_
  clear hm h_
  unfold execScrubPassEnd
  repeat' with_reducible first
    | assumption
    | exact Keeps.refl _ _
    | (show maskIn _ _ = true; decide)
    | apply State_bump_keeps
    | apply State_raise_keeps
    | apply State_setNum_keeps
    | apply State_toTick_keeps
    | apply keepsR_next
    | apply keeps_ite
    | apply keepsR_ite
    | apply keeps_ite2
    | apply keeps_foldl
    | apply keeps_foldl2
    | apply keeps_foldl3
    | intro _
    | dsimp only
    | (fail_if_no_progress (apply keeps_mk; on_goal 2 => (constructor <;> first | exact .inr (by decide) | exact .inl rfl)))
    | split

end Sys2Proof.Machine
end

