-- ==== Sys2Proof/Laws/KeepsEssHurdle.lean ====
section
/-! SUPPORT. EssHurdle: what every operation keeps. -/

namespace Sys2Proof.Machine

theorem State_slotPagesApply_keeps {m_ : Nat} (hm : maskIn 1025 m_ = true) {s_ s : State} (h_ : Keeps m_ s_ s) (pre : State) (n : Nat) : Keeps m_ s_ (State.slotPagesApply s pre n) := by
  refine Keeps.after hm h_ ?_
  clear hm h_
  unfold State.slotPagesApply
  repeat' with_reducible first
    | assumption
    | exact Keeps.refl _ _
    | (show maskIn _ _ = true; decide)
    | apply State_setNum_keeps
    | apply keepsR_next
    | apply keeps_ite
    | apply keepsR_ite
    | apply keeps_ite2
    | apply keeps_foldl
    | apply keeps_foldl2
    | apply keeps_foldl3
    | intro _
    | dsimp only
    | (fail_if_no_progress (apply keeps_mk; on_goal 2 => (constructor <;> first | exact .inr (by decide) | exact .inl rfl)))
    | split

theorem State_storeApply_keeps {m_ : Nat} (hm : maskIn 1025 m_ = true) {s_ s : State} (h_ : Keeps m_ s_ s) (pre : State) : Keeps m_ s_ (State.storeApply s pre) := by
  refine Keeps.after hm h_ ?_
  clear hm h_
  unfold State.storeApply
  repeat' with_reducible first
    | assumption
    | exact Keeps.refl _ _
    | (show maskIn _ _ = true; decide)
    | apply State_setNum_keeps
    | apply State_slotPagesApply_keeps
    | apply State_storeObjs_keeps
    | apply keepsR_next
    | apply keeps_ite
    | apply keepsR_ite
    | apply keeps_ite2
    | apply keeps_foldl
    | apply keeps_foldl2
    | apply keeps_foldl3
    | intro _
    | dsimp only
    | (fail_if_no_progress (apply keeps_mk; on_goal 2 => (constructor <;> first | exact .inr (by decide) | exact .inl rfl)))
    | split

theorem State_slotStreamsApply_keeps {m_ : Nat} (hm : maskIn 33800 m_ = true) {s_ s : State} (h_ : Keeps m_ s_ s) (pre : State) (n : Nat) : Keeps m_ s_ (State.slotStreamsApply s pre n) := by
  refine Keeps.after hm h_ ?_
  clear hm h_
  unfold State.slotStreamsApply
  repeat' with_reducible first
    | assumption
    | exact Keeps.refl _ _
    | (show maskIn _ _ = true; decide)
    | apply State_setPresents_keeps
    | apply keepsR_next
    | apply keeps_ite
    | apply keepsR_ite
    | apply keeps_ite2
    | apply keeps_foldl
    | apply keeps_foldl2
    | apply keeps_foldl3
    | intro _
    | dsimp only
    | (fail_if_no_progress (apply keeps_mk; on_goal 2 => (constructor <;> first | exact .inr (by decide) | exact .inl rfl)))
    | split

theorem State_originMoved_keeps {m_ : Nat} (hm : maskIn 35849 m_ = true) {s_ s : State} (h_ : Keeps m_ s_ s) (n : Nat) : Keeps m_ s_ (State.originMoved s n) := by
  refine Keeps.after hm h_ ?_
  clear hm h_
  unfold State.originMoved
  repeat' with_reducible first
    | assumption
    | exact Keeps.refl _ _
    | (show maskIn _ _ = true; decide)
    | apply State_setNum_keeps
    | apply State_slotClear_keeps
    | apply State_slotReturn_keeps
    | apply keepsR_next
    | apply keeps_ite
    | apply keepsR_ite
    | apply keeps_ite2
    | apply keeps_foldl
    | apply keeps_foldl2
    | apply keeps_foldl3
    | intro _
    | dsimp only
    | (fail_if_no_progress (apply keeps_mk; on_goal 2 => (constructor <;> first | exact .inr (by decide) | exact .inl rfl)))
    | split

theorem State_area5Apply_keeps {m_ : Nat} (hm : maskIn 35849 m_ = true) {s_ s : State} (h_ : Keeps m_ s_ s) (pre : State) : Keeps m_ s_ (State.area5Apply s pre) := by
  refine Keeps.after hm h_ ?_
  clear hm h_
  unfold State.area5Apply
  repeat' with_reducible first
    | assumption
    | exact Keeps.refl _ _
    | (show maskIn _ _ = true; decide)
    | apply State_originMoved_keeps
    | apply State_setChan_keeps
    | apply State_slotClear_keeps
    | apply State_slotReturn_keeps
    | apply State_slotStreamsApply_keeps
    | apply State_sourcePresent_keeps
    | apply State_storeApply_keeps
    | apply keepsR_next
    | apply keeps_ite
    | apply keepsR_ite
    | apply keeps_ite2
    | apply keeps_foldl
    | apply keeps_foldl2
    | apply keeps_foldl3
    | intro _
    | dsimp only
    | (fail_if_no_progress (apply keeps_mk; on_goal 2 => (constructor <;> first | exact .inr (by decide) | exact .inl rfl)))
    | split

theorem State_area6Apply_keeps {m_ : Nat} (hm : maskIn 35849 m_ = true) {s_ s : State} (h_ : Keeps m_ s_ s) (pre : State) : Keeps m_ s_ (State.area6Apply s pre) := by
  refine Keeps.after hm h_ ?_
  clear hm h_
  unfold State.area6Apply
  repeat' with_reducible first
    | assumption
    | exact Keeps.refl _ _
    | (show maskIn _ _ = true; decide)
    | apply State_originMoved_keeps
    | apply State_outStateObj_keeps
    | apply State_setLane_keeps
    | apply State_setOut_keeps
    | apply State_storeApply_keeps
    | apply keepsR_next
    | apply keeps_ite
    | apply keepsR_ite
    | apply keeps_ite2
    | apply keeps_foldl
    | apply keeps_foldl2
    | apply keeps_foldl3
    | intro _
    | dsimp only
    | (fail_if_no_progress (apply keeps_mk; on_goal 2 => (constructor <;> first | exact .inr (by decide) | exact .inl rfl)))
    | split

end Sys2Proof.Machine
end

