-- ==== Sys2Proof/Laws/KeepsBank.lean ====
section
/-! SUPPORT. Bank: what every operation keeps. -/

namespace Sys2Proof.Machine

theorem State_setUpd_keeps {m_ : Nat} (hm : maskIn 524288 m_ = true) {s_ s : State} (h_ : Keeps m_ s_ s) (u : UpdSt) : Keeps m_ s_ (State.setUpd s u) := by
  refine Keeps.after hm h_ ?_
  clear hm h_
  unfold State.setUpd
  repeat' with_reducible first
    | assumption
    | exact Keeps.refl _ _
    | (show maskIn _ _ = true; decide)
    | apply keepsR_next
    | apply keeps_ite
    | apply keepsR_ite
    | apply keeps_ite2
    | apply keeps_foldl
    | apply keeps_foldl2
    | apply keeps_foldl3
    | intro _
    | dsimp only
    | (fail_if_no_progress (apply keeps_mk; on_goal 2 => (constructor <;> first | exact .inr (by decide) | exact .inl rfl)))
    | split

theorem State_setBank_keeps {m_ : Nat} (hm : maskIn 524288 m_ = true) {s_ s : State} (h_ : Keeps m_ s_ s) (k : Nat) (b : Bank) : Keeps m_ s_ (State.setBank s k b) := by
  refine Keeps.after hm h_ ?_
  clear hm h_
  unfold State.setBank
  repeat' with_reducible first
    | assumption
    | exact Keeps.refl _ _
    | (show maskIn _ _ = true; decide)
    | apply State_setUpd_keeps
    | apply keepsR_next
    | apply keeps_ite
    | apply keepsR_ite
    | apply keeps_ite2
    | apply keeps_foldl
    | apply keeps_foldl2
    | apply keeps_foldl3
    | intro _
    | dsimp only
    | (fail_if_no_progress (apply keeps_mk; on_goal 2 => (constructor <;> first | exact .inr (by decide) | exact .inl rfl)))
    | split

theorem State_setSetting_keeps {m_ : Nat} (hm : maskIn 3 m_ = true) {s_ s : State} (h_ : Keeps m_ s_ s) (k : Nat) (v : Val) : Keeps m_ s_ (State.setSetting s k v) := by
  refine Keeps.after hm h_ ?_
  clear hm h_
  unfold State.setSetting
  repeat' with_reducible first
    | assumption
    | exact Keeps.refl _ _
    | (show maskIn _ _ = true; decide)
    | apply setObj_keeps
    | apply setReg_keeps
    | apply keepsR_next
    | apply keeps_ite
    | apply keepsR_ite
    | apply keeps_ite2
    | apply keeps_foldl
    | apply keeps_foldl2
    | apply keeps_foldl3
    | intro _
    | dsimp only
    | (fail_if_no_progress (apply keeps_mk; on_goal 2 => (constructor <;> first | exact .inr (by decide) | exact .inl rfl)))
    | split

theorem State_noteBank_keeps {m_ : Nat} (hm : maskIn 524494 m_ = true) {s_ s : State} (h_ : Keeps m_ s_ s) (keys : List Nat) : Keeps m_ s_ (State.noteBank s keys) := by
  refine Keeps.after hm h_ ?_
  clear hm h_
  unfold State.noteBank
  repeat' with_reducible first
    | assumption
    | exact Keeps.refl _ _
    | (show maskIn _ _ = true; decide)
    | apply State_setBank_keeps
    | apply State_settle_keeps
    | apply keepsR_next
    | apply keeps_ite
    | apply keepsR_ite
    | apply keeps_ite2
    | apply keeps_foldl
    | apply keeps_foldl2
    | apply keeps_foldl3
    | intro _
    | dsimp only
    | (fail_if_no_progress (apply keeps_mk; on_goal 2 => (constructor <;> first | exact .inr (by decide) | exact .inl rfl)))
    | split

theorem State_noteSince_keeps {m_ : Nat} (hm : maskIn 524494 m_ = true) {s_ s : State} (h_ : Keeps m_ s_ s) (old : State) : Keeps m_ s_ (State.noteSince s old) := by
  refine Keeps.after hm h_ ?_
  clear hm h_
  unfold State.noteSince
  repeat' with_reducible first
    | assumption
    | exact Keeps.refl _ _
    | (show maskIn _ _ = true; decide)
    | apply State_noteBank_keeps
    | apply keepsR_next
    | apply keeps_ite
    | apply keepsR_ite
    | apply keeps_ite2
    | apply keeps_foldl
    | apply keeps_foldl2
    | apply keeps_foldl3
    | intro _
    | dsimp only
    | (fail_if_no_progress (apply keeps_mk; on_goal 2 => (constructor <;> first | exact .inr (by decide) | exact .inl rfl)))
    | split

end Sys2Proof.Machine
end

