-- ==== Sys2Proof/Laws/KeepsPorts.lean ====
section
/-! SUPPORT. Ports: what every operation keeps. -/

namespace Sys2Proof.Machine

theorem State_setAes_keeps {m_ : Nat} (hm : maskIn 2048 m_ = true) {s_ s : State} (h_ : Keeps m_ s_ s) (n : Nat) (v : AesIn) : Keeps m_ s_ (State.setAes s n v) := by
  refine Keeps.after hm h_ ?_
  clear hm h_
  unfold State.setAes
  repeat' with_reducible first
    | assumption
    | exact Keeps.refl _ _
    | (show maskIn _ _ = true; decide)
    | apply keepsR_next
    | apply keeps_ite
    | apply keepsR_ite
    | apply keeps_ite2
    | apply keeps_foldl
    | apply keeps_foldl2
    | apply keeps_foldl3
    | intro _
    | dsimp only
    | (fail_if_no_progress (apply keeps_mk; on_goal 2 => (constructor <;> first | exact .inr (by decide) | exact .inl rfl)))
    | split

theorem State_setTdm_keeps {m_ : Nat} (hm : maskIn 2048 m_ = true) {s_ s : State} (h_ : Keeps m_ s_ s) (n : Nat) (v : TdmPort) : Keeps m_ s_ (State.setTdm s n v) := by
  refine Keeps.after hm h_ ?_
  clear hm h_
  unfold State.setTdm
  repeat' with_reducible first
    | assumption
    | exact Keeps.refl _ _
    | (show maskIn _ _ = true; decide)
    | apply keepsR_next
    | apply keeps_ite
    | apply keepsR_ite
    | apply keeps_ite2
    | apply keeps_foldl
    | apply keeps_foldl2
    | apply keeps_foldl3
    | intro _
    | dsimp only
    | (fail_if_no_progress (apply keeps_mk; on_goal 2 => (constructor <;> first | exact .inr (by decide) | exact .inl rfl)))
    | split

theorem State_setPdest_keeps {m_ : Nat} (hm : maskIn 2048 m_ = true) {s_ s : State} (h_ : Keeps m_ s_ s) (d : Nat) (v : PortDest) : Keeps m_ s_ (State.setPdest s d v) := by
  refine Keeps.after hm h_ ?_
  clear hm h_
  unfold State.setPdest
  repeat' with_reducible first
    | assumption
    | exact Keeps.refl _ _
    | (show maskIn _ _ = true; decide)
    | apply keepsR_next
    | apply keeps_ite
    | apply keepsR_ite
    | apply keeps_ite2
    | apply keeps_foldl
    | apply keeps_foldl2
    | apply keeps_foldl3
    | intro _
    | dsimp only
    | (fail_if_no_progress (apply keeps_mk; on_goal 2 => (constructor <;> first | exact .inr (by decide) | exact .inl rfl)))
    | split

theorem State_portPresent_keeps {m_ : Nat} (hm : maskIn 33800 m_ = true) {s_ s : State} (h_ : Keeps m_ s_ s) (slot : Nat) (first : Nat) (n : Nat) (on : Bool) : Keeps m_ s_ (State.portPresent s slot first n on) := by
  refine Keeps.after hm h_ ?_
  clear hm h_
  unfold State.portPresent
  repeat' with_reducible first
    | assumption
    | exact Keeps.refl _ _
    | (show maskIn _ _ = true; decide)
    | apply State_setPresents_keeps
    | apply keepsR_next
    | apply keeps_ite
    | apply keepsR_ite
    | apply keeps_ite2
    | apply keeps_foldl
    | apply keeps_foldl2
    | apply keeps_foldl3
    | intro _
    | dsimp only
    | (fail_if_no_progress (apply keeps_mk; on_goal 2 => (constructor <;> first | exact .inr (by decide) | exact .inl rfl)))
    | split

theorem State_pairsEnd_keeps {m_ : Nat} (hm : maskIn 2955 m_ = true) {s_ s : State} (h_ : Keeps m_ s_ s) (slot : Nat) (first : Nat) (n : Nat) : Keeps m_ s_ (State.pairsEnd s slot first n) := by
  refine Keeps.after hm h_ ?_
  clear hm h_
  unfold State.pairsEnd
  repeat' with_reducible first
    | assumption
    | exact Keeps.refl _ _
    | (show maskIn _ _ = true; decide)
    | apply State_notePair_keeps
    | apply keepsR_next
    | apply keeps_ite
    | apply keepsR_ite
    | apply keeps_ite2
    | apply keeps_foldl
    | apply keeps_foldl2
    | apply keeps_foldl3
    | intro _
    | dsimp only
    | (fail_if_no_progress (apply keeps_mk; on_goal 2 => (constructor <;> first | exact .inr (by decide) | exact .inl rfl)))
    | split

theorem State_deliver_keeps {m_ : Nat} (hm : maskIn 3979 m_ = true) {s_ s : State} (h_ : Keeps m_ s_ s) (slot : Nat) (c : Nat) (t0 : Nat) (t : Nat) (v : Nat) (sync : Bool) (masked : Bool) : Keeps m_ s_ (State.deliver s slot c t0 t v sync masked) := by
  refine Keeps.after hm h_ ?_
  clear hm h_
  unfold State.deliver
  repeat' with_reducible first
    | assumption
    | exact Keeps.refl _ _
    | (show maskIn _ _ = true; decide)
    | apply State_enterSample_keeps
    | apply State_notePair_keeps
    | apply keepsR_next
    | apply keeps_ite
    | apply keepsR_ite
    | apply keeps_ite2
    | apply keeps_foldl
    | apply keeps_foldl2
    | apply keeps_foldl3
    | intro _
    | dsimp only
    | (fail_if_no_progress (apply keeps_mk; on_goal 2 => (constructor <;> first | exact .inr (by decide) | exact .inl rfl)))
    | split

theorem State_aesFalls_keeps {m_ : Nat} (hm : maskIn 36747 m_ = true) {s_ s : State} (h_ : Keeps m_ s_ s) (n : Nat) (to_ : Nat) (slot : Nat) (first : Nat) : Keeps m_ s_ (State.aesFalls s n to_ slot first) := by
  refine Keeps.after hm h_ ?_
  clear hm h_
  unfold State.aesFalls
  repeat' with_reducible first
    | assumption
    | exact Keeps.refl _ _
    | (show maskIn _ _ = true; decide)
    | apply State_pairsEnd_keeps
    | apply State_portPresent_keeps
    | apply State_raise_keeps
    | apply State_setAes_keeps
    | apply State_setBit_keeps
    | apply State_setNum_keeps
    | apply keepsR_next
    | apply keeps_ite
    | apply keepsR_ite
    | apply keeps_ite2
    | apply keeps_foldl
    | apply keeps_foldl2
    | apply keeps_foldl3
    | intro _
    | dsimp only
    | (fail_if_no_progress (apply keeps_mk; on_goal 2 => (constructor <;> first | exact .inr (by decide) | exact .inl rfl)))
    | split

theorem State_aesLost_keeps {m_ : Nat} (hm : maskIn 36747 m_ = true) {s_ s : State} (h_ : Keeps m_ s_ s) (n : Nat) (to_ : Nat) : Keeps m_ s_ (State.aesLost s n to_) := by
  refine Keeps.after hm h_ ?_
  clear hm h_
  unfold State.aesLost
  repeat' with_reducible first
    | assumption
    | exact Keeps.refl _ _
    | (show maskIn _ _ = true; decide)
    | apply State_aesFalls_keeps
    | apply keepsR_next
    | apply keeps_ite
    | apply keepsR_ite
    | apply keeps_ite2
    | apply keeps_foldl
    | apply keeps_foldl2
    | apply keeps_foldl3
    | intro _
    | dsimp only
    | (fail_if_no_progress (apply keeps_mk; on_goal 2 => (constructor <;> first | exact .inr (by decide) | exact .inl rfl)))
    | split

theorem execAesBiphaseLock_keeps {m_ : Nat} (hm : maskIn 1 m_ = true) {s_ s : State} (h_ : Keeps m_ s_ s) (n : Fin 16) : KeepsR m_ s_ (execAesBiphaseLock n s) := by
  refine KeepsR.after hm h_ ?_
  clear hm h_
  unfold execAesBiphaseLock
  repeat' with_reducible first
    | assumption
    | exact Keeps.refl _ _
    | (show maskIn _ _ = true; decide)
    | apply State_setNum_keeps
    | apply keepsR_next
    | apply keeps_ite
    | apply keepsR_ite
    | apply keeps_ite2
    | apply keeps_foldl
    | apply keeps_foldl2
    | apply keeps_foldl3
    | intro _
    | dsimp only
    | (fail_if_no_progress (apply keeps_mk; on_goal 2 => (constructor <;> first | exact .inr (by decide) | exact .inl rfl)))
    | split

theorem execAesFramed_keeps {m_ : Nat} (hm : maskIn 1 m_ = true) {s_ s : State} (h_ : Keeps m_ s_ s) (framing : AesFraming) : KeepsR m_ s_ (execAesFramed framing s) := by
  refine KeepsR.after hm h_ ?_
  clear hm h_
  unfold execAesFramed
  repeat' with_reducible first
    | assumption
    | exact Keeps.refl _ _
    | (show maskIn _ _ = true; decide)
    | apply State_setNum_keeps
    | apply keepsR_next
    | apply keeps_ite
    | apply keepsR_ite
    | apply keeps_ite2
    | apply keeps_foldl
    | apply keeps_foldl2
    | apply keeps_foldl3
    | intro _
    | dsimp only
    | (fail_if_no_progress (apply keeps_mk; on_goal 2 => (constructor <;> first | exact .inr (by decide) | exact .inl rfl)))
    | split

theorem execAesClassify_keeps {m_ : Nat} (hm : maskIn 36779 m_ = true) {s_ s0 : State} (h_ : Keeps m_ s_ s0) (port : Fin 24) (rate : Nat) (phase : Int) (at_ : Nat) : KeepsR m_ s_ (execAesClassify port rate phase at_ s0) := by
  refine KeepsR.after hm h_ ?_
  clear hm h_
  unfold execAesClassify
  repeat' with_reducible first
    | assumption
    | exact Keeps.refl _ _
    | (show maskIn _ _ = true; decide)
    | apply State_aesLost_keeps
    | apply State_notePair_keeps
    | apply State_portPresent_keeps
    | apply State_raise_keeps
    | apply State_setAes_keeps
    | apply State_setBit_keeps
    | apply State_setNum_keeps
    | apply State_toTick_keeps
    | apply keepsR_next
    | apply keeps_ite
    | apply keepsR_ite
    | apply keeps_ite2
    | apply keeps_foldl
    | apply keeps_foldl2
    | apply keeps_foldl3
    | intro _
    | dsimp only
    | (fail_if_no_progress (apply keeps_mk; on_goal 2 => (constructor <;> first | exact .inr (by decide) | exact .inl rfl)))
    | split

theorem execAesSignalLoss_keeps {m_ : Nat} (hm : maskIn 36779 m_ = true) {s_ s0 : State} (h_ : Keeps m_ s_ s0) (n : Fin 16) (to_ : Fin 2) (at_ : Nat) : KeepsR m_ s_ (execAesSignalLoss n to_ at_ s0) := by
  refine KeepsR.after hm h_ ?_
  clear hm h_
  unfold execAesSignalLoss
  repeat' with_reducible first
    | assumption
    | exact Keeps.refl _ _
    | (show maskIn _ _ = true; decide)
    | apply State_aesLost_keeps
    | apply State_toTick_keeps
    | apply keepsR_next
    | apply keeps_ite
    | apply keepsR_ite
    | apply keeps_ite2
    | apply keeps_foldl
    | apply keeps_foldl2
    | apply keeps_foldl3
    | intro _
    | dsimp only
    | (fail_if_no_progress (apply keeps_mk; on_goal 2 => (constructor <;> first | exact .inr (by decide) | exact .inl rfl)))
    | split

theorem State_aesErr_keeps {m_ : Nat} (hm : maskIn 1930 m_ = true) {s_ s : State} (h_ : Keeps m_ s_ s) (n : Nat) (parity : Nat) (biphase : Nat) (crc : Nat) : Keeps m_ s_ (State.aesErr s n parity biphase crc) := by
  refine Keeps.after hm h_ ?_
  clear hm h_
  unfold State.aesErr
  repeat' with_reducible first
    | assumption
    | exact Keeps.refl _ _
    | (show maskIn _ _ = true; decide)
    | apply State_oncePerSecond_keeps
    | apply keepsR_next
    | apply keeps_ite
    | apply keepsR_ite
    | apply keeps_ite2
    | apply keeps_foldl
    | apply keeps_foldl2
    | apply keeps_foldl3
    | intro _
    | dsimp only
    | (fail_if_no_progress (apply keeps_mk; on_goal 2 => (constructor <;> first | exact .inr (by decide) | exact .inl rfl)))
    | split

theorem execAesSubframe_keeps {m_ : Nat} (hm : maskIn 4011 m_ = true) {s_ s0 : State} (h_ : Keeps m_ s_ s0) (n : Fin 16) (sub : Fin 2) (parityOk : Bool) (biphaseOk : Bool) (v : Bool) (sample : BitVec 24) (at_ : Nat) : KeepsR m_ s_ (execAesSubframe n sub parityOk biphaseOk v sample at_ s0) := by
  refine KeepsR.after hm h_ ?_
  clear hm h_
  unfold execAesSubframe
  repeat' with_reducible first
    | assumption
    | exact Keeps.refl _ _
    | (show maskIn _ _ = true; decide)
    | apply State_aesErr_keeps
    | apply State_bump_keeps
    | apply State_deliver_keeps
    | apply State_setAes_keeps
    | apply State_toTick_keeps
    | apply keepsR_next
    | apply keeps_ite
    | apply keepsR_ite
    | apply keeps_ite2
    | apply keeps_foldl
    | apply keeps_foldl2
    | apply keeps_foldl3
    | intro _
    | dsimp only
    | (fail_if_no_progress (apply keeps_mk; on_goal 2 => (constructor <;> first | exact .inr (by decide) | exact .inl rfl)))
    | split

theorem State_aesBlockSub_keeps {m_ : Nat} (hm : maskIn 1931 m_ = true) {s_ s : State} (h_ : Keeps m_ s_ s) (n : Nat) (sub : Nat) (kStatus : Nat) (kUser : Nat) (status : List Byte) (user : List Byte) (crcOk : Bool) : Keeps m_ s_ (State.aesBlockSub s n sub kStatus kUser status user crcOk) := by
  refine Keeps.after hm h_ ?_
  clear hm h_
  unfold State.aesBlockSub
  repeat' with_reducible first
    | assumption
    | exact Keeps.refl _ _
    | (show maskIn _ _ = true; decide)
    | apply State_aesErr_keeps
    | apply State_bump_keeps
    | apply State_raise_keeps
    | apply State_setBit_keeps
    | apply State_setBytes_keeps
    | apply keepsR_next
    | apply keeps_ite
    | apply keepsR_ite
    | apply keeps_ite2
    | apply keeps_foldl
    | apply keeps_foldl2
    | apply keeps_foldl3
    | intro _
    | dsimp only
    | (fail_if_no_progress (apply keeps_mk; on_goal 2 => (constructor <;> first | exact .inr (by decide) | exact .inl rfl)))
    | split

theorem execAesBlock_keeps {m_ : Nat} (hm : maskIn 3979 m_ = true) {s_ s : State} (h_ : Keeps m_ s_ s) (n : Fin 16) (statusA : List Byte) (statusB : List Byte) (userA : List Byte) (userB : List Byte) (crcA : Bool) (crcB : Bool) : KeepsR m_ s_ (execAesBlock n statusA statusB userA userB crcA crcB s) := by
  refine KeepsR.after hm h_ ?_
  clear hm h_
  unfold execAesBlock
  repeat' with_reducible first
    | assumption
    | exact Keeps.refl _ _
    | (show maskIn _ _ = true; decide)
    | apply State_aesBlockSub_keeps
    | apply State_setAes_keeps
    | apply keepsR_next
    | apply keeps_ite
    | apply keepsR_ite
    | apply keeps_ite2
    | apply keeps_foldl
    | apply keeps_foldl2
    | apply keeps_foldl3
    | intro _
    | dsimp only
    | (fail_if_no_progress (apply keeps_mk; on_goal 2 => (constructor <;> first | exact .inr (by decide) | exact .inl rfl)))
    | split

theorem State_portStep_keeps {m_ : Nat} (hm : maskIn 2048 m_ = true) {s_ s : State} (h_ : Keeps m_ s_ s) (d : Nat) (t : Nat) : Keeps m_ s_ (State.portStep s d t).2 := by
  refine Keeps.after hm h_ ?_
  clear hm h_
  unfold State.portStep
  repeat' with_reducible first
    | assumption
    | exact Keeps.refl _ _
    | (show maskIn _ _ = true; decide)
    | apply State_setPdest_keeps
    | apply keepsR_next
    | apply keeps_ite
    | apply keepsR_ite
    | apply keeps_ite2
    | apply keeps_foldl
    | apply keeps_foldl2
    | apply keeps_foldl3
    | intro _
    | dsimp only
    | (fail_if_no_progress (apply keeps_mk; on_goal 2 => (constructor <;> first | exact .inr (by decide) | exact .inl rfl)))
    | split

theorem State_portStart_keeps {m_ : Nat} (hm : maskIn 527311 m_ = true) {s_ s : State} (h_ : Keeps m_ s_ s) (d : Nat) (sid : Nat) : Keeps m_ s_ (State.portStart s d sid) := by
  refine Keeps.after hm h_ ?_
  clear hm h_
  unfold State.portStart
  repeat' with_reducible first
    | assumption
    | exact Keeps.refl _ _
    | (show maskIn _ _ = true; decide)
    | apply State_noteBank_keeps
    | apply State_raise_keeps
    | apply State_setNum_keeps
    | apply State_setPdest_keeps
    | apply keepsR_next
    | apply keeps_ite
    | apply keepsR_ite
    | apply keeps_ite2
    | apply keeps_foldl
    | apply keeps_foldl2
    | apply keeps_foldl3
    | intro _
    | dsimp only
    | (fail_if_no_progress (apply keeps_mk; on_goal 2 => (constructor <;> first | exact .inr (by decide) | exact .inl rfl)))
    | split

theorem State_portApply_keeps {m_ : Nat} (hm : maskIn 527311 m_ = true) {s_ s : State} (h_ : Keeps m_ s_ s) (d : Nat) (sid : Nat) : Keeps m_ s_ (State.portApply s d sid) := by
  refine Keeps.after hm h_ ?_
  clear hm h_
  unfold State.portApply
  repeat' with_reducible first
    | assumption
    | exact Keeps.refl _ _
    | (show maskIn _ _ = true; decide)
    | apply State_portStart_keeps
    | apply State_setPdest_keeps
    | apply keepsR_next
    | apply keeps_ite
    | apply keepsR_ite
    | apply keeps_ite2
    | apply keeps_foldl
    | apply keeps_foldl2
    | apply keeps_foldl3
    | intro _
    | dsimp only
    | (fail_if_no_progress (apply keeps_mk; on_goal 2 => (constructor <;> first | exact .inr (by decide) | exact .inl rfl)))
    | split

theorem execPortTransitionEnd_keeps {m_ : Nat} (hm : maskIn 527311 m_ = true) {s_ s : State} (h_ : Keeps m_ s_ s) (d : Fin 544) : KeepsR m_ s_ (execPortTransitionEnd d s) := by
  refine KeepsR.after hm h_ ?_
  clear hm h_
  unfold execPortTransitionEnd
  repeat' with_reducible first
    | assumption
    | exact Keeps.refl _ _
    | (show maskIn _ _ = true; decide)
    | apply State_portStart_keeps
    | apply State_setPdest_keeps
    | apply keepsR_next
    | apply keeps_ite
    | apply keepsR_ite
    | apply keeps_ite2
    | apply keeps_foldl
    | apply keeps_foldl2
    | apply keeps_foldl3
    | intro _
    | dsimp only
    | (fail_if_no_progress (apply keeps_mk; on_goal 2 => (constructor <;> first | exact .inr (by decide) | exact .inl rfl)))
    | split

theorem State_forcePort_keeps {m_ : Nat} (hm : maskIn 3978 m_ = true) {s_ s : State} (h_ : Keeps m_ s_ s) (d : Nat) : Keeps m_ s_ (State.forcePort s d) := by
  refine Keeps.after hm h_ ?_
  clear hm h_
  unfold State.forcePort
  repeat' with_reducible first
    | assumption
    | exact Keeps.refl _ _
    | (show maskIn _ _ = true; decide)
    | apply State_markSecond_keeps
    | apply State_setPdest_keeps
    | apply keepsR_next
    | apply keeps_ite
    | apply keepsR_ite
    | apply keeps_ite2
    | apply keeps_foldl
    | apply keeps_foldl2
    | apply keeps_foldl3
    | intro _
    | dsimp only
    | (fail_if_no_progress (apply keeps_mk; on_goal 2 => (constructor <;> first | exact .inr (by decide) | exact .inl rfl)))
    | split

theorem execZeroCrossingTimeout_keeps {m_ : Nat} (hm : maskIn 4010 m_ = true) {s_ s0 : State} (h_ : Keeps m_ s_ s0) (port : Option (Fin 544)) (o : Fin 128) (pos : Fin 128) (at_ : Nat) : KeepsR m_ s_ (execZeroCrossingTimeout port o pos at_ s0) := by
  refine KeepsR.after hm h_ ?_
  clear hm h_
  unfold execZeroCrossingTimeout
  repeat' with_reducible first
    | assumption
    | exact Keeps.refl _ _
    | (show maskIn _ _ = true; decide)
    | apply State_forceCrossing_keeps
    | apply State_forcePort_keeps
    | apply State_toTick_keeps
    | apply keepsR_next
    | apply keeps_ite
    | apply keepsR_ite
    | apply keeps_ite2
    | apply keeps_foldl
    | apply keeps_foldl2
    | apply keeps_foldl3
    | intro _
    | dsimp only
    | (fail_if_no_progress (apply keeps_mk; on_goal 2 => (constructor <;> first | exact .inr (by decide) | exact .inl rfl)))
    | split

theorem execAesOutputFrame_keeps {m_ : Nat} (hm : maskIn 2088 m_ = true) {s_ s0 : State} (h_ : Keeps m_ s_ s0) (n : Fin 16) (t : Nat) (at_ : Nat) : KeepsR m_ s_ (execAesOutputFrame n t at_ s0) := by
  refine KeepsR.after hm h_ ?_
  clear hm h_
  unfold execAesOutputFrame
  repeat' with_reducible first
    | assumption
    | exact Keeps.refl _ _
    | (show maskIn _ _ = true; decide)
    | apply State_emit_keeps
    | apply State_portStep_keeps
    | apply State_toTick_keeps
    | apply keepsR_next
    | apply keeps_ite
    | apply keepsR_ite
    | apply keeps_ite2
    | apply keeps_foldl
    | apply keeps_foldl2
    | apply keeps_foldl3
    | intro _
    | dsimp only
    | (fail_if_no_progress (apply keeps_mk; on_goal 2 => (constructor <;> first | exact .inr (by decide) | exact .inl rfl)))
    | split

theorem State_tdmMasks_keeps {m_ : Nat} (hm : maskIn 907 m_ = true) {s_ s : State} (h_ : Keeps m_ s_ s) (n : Nat) : Keeps m_ s_ (State.tdmMasks s n) := by
  refine Keeps.after hm h_ ?_
  clear hm h_
  unfold State.tdmMasks
  repeat' with_reducible first
    | assumption
    | exact Keeps.refl _ _
    | (show maskIn _ _ = true; decide)
    | apply State_raise_keeps
    | apply State_setBit_keeps
    | apply State_setNum_keeps
    | apply keepsR_next
    | apply keeps_ite
    | apply keepsR_ite
    | apply keeps_ite2
    | apply keeps_foldl
    | apply keeps_foldl2
    | apply keeps_foldl3
    | intro _
    | dsimp only
    | (fail_if_no_progress (apply keeps_mk; on_goal 2 => (constructor <;> first | exact .inr (by decide) | exact .inl rfl)))
    | split

theorem execTdmFsync_keeps {m_ : Nat} (hm : maskIn 36779 m_ = true) {s_ s0 : State} (h_ : Keeps m_ s_ s0) (n : Fin 8) (t : Nat) (rx : List (BitVec 24)) (at_ : Nat) : KeepsR m_ s_ (execTdmFsync n t rx at_ s0) := by
  refine KeepsR.after hm h_ ?_
  clear hm h_
  unfold execTdmFsync
  repeat' with_reducible first
    | assumption
    | exact Keeps.refl _ _
    | (show maskIn _ _ = true; decide)
    | apply State_deliver_keeps
    | apply State_emit_keeps
    | apply State_portPresent_keeps
    | apply State_portStep_keeps
    | apply State_setTdm_keeps
    | apply State_tdmMasks_keeps
    | apply State_toTick_keeps
    | apply keepsR_next
    | apply keeps_ite
    | apply keepsR_ite
    | apply keeps_ite2
    | apply keeps_foldl
    | apply keeps_foldl2
    | apply keeps_foldl3
    | intro _
    | dsimp only
    | (fail_if_no_progress (apply keeps_mk; on_goal 2 => (constructor <;> first | exact .inr (by decide) | exact .inl rfl)))
    | split

theorem execTdmSlaveLock_keeps {m_ : Nat} (hm : maskIn 2955 m_ = true) {s_ s : State} (h_ : Keeps m_ s_ s) (n : Fin 8) : KeepsR m_ s_ (execTdmSlaveLock n s) := by
  refine KeepsR.after hm h_ ?_
  clear hm h_
  unfold execTdmSlaveLock
  repeat' with_reducible first
    | assumption
    | exact Keeps.refl _ _
    | (show maskIn _ _ = true; decide)
    | apply State_raise_keeps
    | apply State_setBit_keeps
    | apply State_setNum_keeps
    | apply State_setTdm_keeps
    | apply keepsR_next
    | apply keeps_ite
    | apply keepsR_ite
    | apply keeps_ite2
    | apply keeps_foldl
    | apply keeps_foldl2
    | apply keeps_foldl3
    | intro _
    | dsimp only
    | (fail_if_no_progress (apply keeps_mk; on_goal 2 => (constructor <;> first | exact .inr (by decide) | exact .inl rfl)))
    | split

theorem execTdmFrameError_keeps {m_ : Nat} (hm : maskIn 36779 m_ = true) {s_ s0 : State} (h_ : Keeps m_ s_ s0) (n : Fin 8) (at_ : Nat) : KeepsR m_ s_ (execTdmFrameError n at_ s0) := by
  refine KeepsR.after hm h_ ?_
  clear hm h_
  unfold execTdmFrameError
  repeat' with_reducible first
    | assumption
    | exact Keeps.refl _ _
    | (show maskIn _ _ = true; decide)
    | apply State_bump_keeps
    | apply State_deliver_keeps
    | apply State_pairsEnd_keeps
    | apply State_portPresent_keeps
    | apply State_raise_keeps
    | apply State_setBit_keeps
    | apply State_setNum_keeps
    | apply State_setTdm_keeps
    | apply State_tdmMasks_keeps
    | apply State_toTick_keeps
    | apply keepsR_next
    | apply keeps_ite
    | apply keepsR_ite
    | apply keeps_ite2
    | apply keeps_foldl
    | apply keeps_foldl2
    | apply keeps_foldl3
    | intro _
    | dsimp only
    | (fail_if_no_progress (apply keeps_mk; on_goal 2 => (constructor <;> first | exact .inr (by decide) | exact .inl rfl)))
    | split

theorem State_asrcOut_keeps {m_ : Nat} (hm : maskIn 907 m_ = true) {s_ s : State} (h_ : Keeps m_ s_ s) (i : Nat) (ratio : Nat) : Keeps m_ s_ (State.asrcOut s i ratio) := by
  refine Keeps.after hm h_ ?_
  clear hm h_
  unfold State.asrcOut
  repeat' with_reducible first
    | assumption
    | exact Keeps.refl _ _
    | (show maskIn _ _ = true; decide)
    | apply State_bump_keeps
    | apply State_raise_keeps
    | apply State_setNum_keeps
    | apply keepsR_next
    | apply keeps_ite
    | apply keepsR_ite
    | apply keeps_ite2
    | apply keeps_foldl
    | apply keeps_foldl2
    | apply keeps_foldl3
    | intro _
    | dsimp only
    | (fail_if_no_progress (apply keeps_mk; on_goal 2 => (constructor <;> first | exact .inr (by decide) | exact .inl rfl)))
    | split

theorem execAsrcLock_keeps {m_ : Nat} (hm : maskIn 907 m_ = true) {s_ s : State} (h_ : Keeps m_ s_ s) (i : Fin 64) (ratio : RateRatio) : KeepsR m_ s_ (execAsrcLock i ratio s) := by
  refine KeepsR.after hm h_ ?_
  clear hm h_
  unfold execAsrcLock
  repeat' with_reducible first
    | assumption
    | exact Keeps.refl _ _
    | (show maskIn _ _ = true; decide)
    | apply State_asrcOut_keeps
    | apply State_raise_keeps
    | apply State_setNum_keeps
    | apply keepsR_next
    | apply keeps_ite
    | apply keepsR_ite
    | apply keeps_ite2
    | apply keeps_foldl
    | apply keeps_foldl2
    | apply keeps_foldl3
    | intro _
    | dsimp only
    | (fail_if_no_progress (apply keeps_mk; on_goal 2 => (constructor <;> first | exact .inr (by decide) | exact .inl rfl)))
    | split

theorem execAsrcOutOfRange_keeps {m_ : Nat} (hm : maskIn 907 m_ = true) {s_ s : State} (h_ : Keeps m_ s_ s) (i : Fin 64) (ratio : RateRatio) : KeepsR m_ s_ (execAsrcOutOfRange i ratio s) := by
  refine KeepsR.after hm h_ ?_
  clear hm h_
  unfold execAsrcOutOfRange
  repeat' with_reducible first
    | assumption
    | exact Keeps.refl _ _
    | (show maskIn _ _ = true; decide)
    | apply State_asrcOut_keeps
    | apply keepsR_next
    | apply keeps_ite
    | apply keepsR_ite
    | apply keeps_ite2
    | apply keeps_foldl
    | apply keeps_foldl2
    | apply keeps_foldl3
    | intro _
    | dsimp only
    | (fail_if_no_progress (apply keeps_mk; on_goal 2 => (constructor <;> first | exact .inr (by decide) | exact .inl rfl)))
    | split

theorem State_area7Apply_keeps {m_ : Nat} (hm : maskIn 36747 m_ = true) {s_ s : State} (h_ : Keeps m_ s_ s) (pre : State) : Keeps m_ s_ (State.area7Apply s pre) := by
  refine Keeps.after hm h_ ?_
  clear hm h_
  unfold State.area7Apply
  repeat' with_reducible first
    | assumption
    | exact Keeps.refl _ _
    | (show maskIn _ _ = true; decide)
    | apply State_aesFalls_keeps
    | apply State_pairsEnd_keeps
    | apply State_pairsGone_keeps
    | apply State_portPresent_keeps
    | apply State_setAes_keeps
    | apply State_setNum_keeps
    | apply State_setTdm_keeps
    | apply keepsR_next
    | apply keeps_ite
    | apply keepsR_ite
    | apply keeps_ite2
    | apply keeps_foldl
    | apply keeps_foldl2
    | apply keeps_foldl3
    | intro _
    | dsimp only
    | (fail_if_no_progress (apply keeps_mk; on_goal 2 => (constructor <;> first | exact .inr (by decide) | exact .inl rfl)))
    | split

end Sys2Proof.Machine
end

