-- ==== Sys2Proof/Laws/KeepsStride.lean ====
section
/-! SUPPORT. Stride: what every operation keeps. -/

namespace Sys2Proof.Machine

theorem State_setEng_keeps {m_ : Nat} (hm : maskIn 4096 m_ = true) {s_ s : State} (h_ : Keeps m_ s_ s) (e : Nat) (r : EngRun) : Keeps m_ s_ (State.setEng s e r) := by
  refine Keeps.after hm h_ ?_
  clear hm h_
  unfold State.setEng
  repeat' with_reducible first
    | assumption
    | exact Keeps.refl _ _
    | (show maskIn _ _ = true; decide)
    | apply keepsR_next
    | apply keeps_ite
    | apply keepsR_ite
    | apply keeps_ite2
    | apply keeps_foldl
    | apply keeps_foldl2
    | apply keeps_foldl3
    | intro _
    | dsimp only
    | (fail_if_no_progress (apply keeps_mk; on_goal 2 => (constructor <;> first | exact .inr (by decide) | exact .inl rfl)))
    | split

theorem State_latch_keeps {m_ : Nat} (hm : maskIn 5120 m_ = true) {s_ s : State} (h_ : Keeps m_ s_ s) (e : Nat) (khz : Nat) (t : Nat) (l : List StrIn) : Keeps m_ s_ (State.latch s e khz t l).2 := by
  refine Keeps.after hm h_ ?_
  clear hm h_
  unfold State.latch
  repeat' with_reducible first
    | assumption
    | exact Keeps.refl _ _
    | (show maskIn _ _ = true; decide)
    | apply State_setEng_keeps
    | apply State_takenOnce_keeps
    | apply keepsR_next
    | apply keeps_ite
    | apply keepsR_ite
    | apply keeps_ite2
    | apply keeps_foldl
    | apply keeps_foldl2
    | apply keeps_foldl3
    | intro _
    | dsimp only
    | (fail_if_no_progress (apply keeps_mk; on_goal 2 => (constructor <;> first | exact .inr (by decide) | exact .inl rfl)))
    | split

theorem State_limit_keeps {m_ : Nat} (hm : maskIn 4096 m_ = true) {s_ s : State} (h_ : Keeps m_ s_ s) (khz : Nat) (t : Nat) (d : Nat) (x : Int) : Keeps m_ s_ (State.limit s khz t d x) := by
  refine Keeps.after hm h_ ?_
  clear hm h_
  unfold State.limit
  repeat' with_reducible first
    | assumption
    | exact Keeps.refl _ _
    | (show maskIn _ _ = true; decide)
    | apply keepsR_next
    | apply keeps_ite
    | apply keepsR_ite
    | apply keeps_ite2
    | apply keeps_foldl
    | apply keeps_foldl2
    | apply keeps_foldl3
    | intro _
    | dsimp only
    | (fail_if_no_progress (apply keeps_mk; on_goal 2 => (constructor <;> first | exact .inr (by decide) | exact .inl rfl)))
    | split

theorem State_feedMeter_keeps {m_ : Nat} (hm : maskIn 4096 m_ = true) {s_ s : State} (h_ : Keeps m_ s_ s) (khz : Nat) (m : Nat) (x : Int) : Keeps m_ s_ (State.feedMeter s khz m x) := by
  refine Keeps.after hm h_ ?_
  clear hm h_
  unfold State.feedMeter
  repeat' with_reducible first
    | assumption
    | exact Keeps.refl _ _
    | (show maskIn _ _ = true; decide)
    | apply keepsR_next
    | apply keeps_ite
    | apply keepsR_ite
    | apply keeps_ite2
    | apply keeps_foldl
    | apply keeps_foldl2
    | apply keeps_foldl3
    | intro _
    | dsimp only
    | (fail_if_no_progress (apply keeps_mk; on_goal 2 => (constructor <;> first | exact .inr (by decide) | exact .inl rfl)))
    | split

theorem State_engObjs_keeps {m_ : Nat} (hm : maskIn 1 m_ = true) {s_ s : State} (h_ : Keeps m_ s_ s)  : Keeps m_ s_ (State.engObjs s) := by
  refine Keeps.after hm h_ ?_
  clear hm h_
  unfold State.engObjs
  repeat' with_reducible first
    | assumption
    | exact Keeps.refl _ _
    | (show maskIn _ _ = true; decide)
    | apply State_setNum_keeps
    | apply keepsR_next
    | apply keeps_ite
    | apply keepsR_ite
    | apply keeps_ite2
    | apply keeps_foldl
    | apply keeps_foldl2
    | apply keeps_foldl3
    | intro _
    | dsimp only
    | (fail_if_no_progress (apply keeps_mk; on_goal 2 => (constructor <;> first | exact .inr (by decide) | exact .inl rfl)))
    | split

theorem State_swapNow_keeps {m_ : Nat} (hm : maskIn 5071 m_ = true) {s_ s : State} (h_ : Keeps m_ s_ s) (new : StrSet) (n : Nat) (engs : List Nat) : Keeps m_ s_ (State.swapNow s new n engs) := by
  refine Keeps.after hm h_ ?_
  clear hm h_
  unfold State.swapNow
  repeat' with_reducible first
    | assumption
    | exact Keeps.refl _ _
    | (show maskIn _ _ = true; decide)
    | apply State_engObjs_keeps
    | apply State_raise_keeps
    | apply State_setBit_keeps
    | apply State_setNum_keeps
    | apply State_settleKind_keeps
    | apply keepsR_next
    | apply keeps_ite
    | apply keepsR_ite
    | apply keeps_ite2
    | apply keeps_foldl
    | apply keeps_foldl2
    | apply keeps_foldl3
    | intro _
    | dsimp only
    | (fail_if_no_progress (apply keeps_mk; on_goal 2 => (constructor <;> first | exact .inr (by decide) | exact .inl rfl)))
    | split

theorem State_loadSet_keeps {m_ : Nat} (hm : maskIn 4096 m_ = true) {s_ s : State} (h_ : Keeps m_ s_ s) (pre : State) : Keeps m_ s_ (State.loadSet s pre).2 := by
  refine Keeps.after hm h_ ?_
  clear hm h_
  unfold State.loadSet
  repeat' with_reducible first
    | assumption
    | exact Keeps.refl _ _
    | (show maskIn _ _ = true; decide)
    | apply keepsR_next
    | apply keeps_ite
    | apply keepsR_ite
    | apply keeps_ite2
    | apply keeps_foldl
    | apply keeps_foldl2
    | apply keeps_foldl3
    | intro _
    | dsimp only
    | (fail_if_no_progress (apply keeps_mk; on_goal 2 => (constructor <;> first | exact .inr (by decide) | exact .inl rfl)))
    | split

theorem State_runEngine_keeps {m_ : Nat} (hm : maskIn 5120 m_ = true) {s_ s : State} (h_ : Keeps m_ s_ s) (e : Nat) (khz : Nat) (t : Nat) (b : EngBank) : Keeps m_ s_ (State.runEngine s e khz t b).2 := by
  refine Keeps.after hm h_ ?_
  clear hm h_
  unfold State.runEngine
  repeat' with_reducible first
    | assumption
    | exact Keeps.refl _ _
    | (show maskIn _ _ = true; decide)
    | apply State_latch_keeps
    | apply State_setEng_keeps
    | apply keepsR_next
    | apply keeps_ite
    | apply keepsR_ite
    | apply keeps_ite2
    | apply keeps_foldl
    | apply keeps_foldl2
    | apply keeps_foldl3
    | intro _
    | dsimp only
    | (fail_if_no_progress (apply keeps_mk; on_goal 2 => (constructor <;> first | exact .inr (by decide) | exact .inl rfl)))
    | split

theorem execMeterUpdate_keeps {m_ : Nat} (hm : maskIn 4131 m_ = true) {s_ s0 : State} (h_ : Keeps m_ s_ s0) (at_ : Nat) : KeepsR m_ s_ (execMeterUpdate at_ s0) := by
  refine KeepsR.after hm h_ ?_
  clear hm h_
  unfold execMeterUpdate
  repeat' with_reducible first
    | assumption
    | exact Keeps.refl _ _
    | (show maskIn _ _ = true; decide)
    | apply State_setNum_keeps
    | apply State_toTick_keeps
    | apply setReg_keeps
    | apply keepsR_next
    | apply keeps_ite
    | apply keepsR_ite
    | apply keeps_ite2
    | apply keeps_foldl
    | apply keeps_foldl2
    | apply keeps_foldl3
    | intro _
    | dsimp only
    | (fail_if_no_progress (apply keeps_mk; on_goal 2 => (constructor <;> first | exact .inr (by decide) | exact .inl rfl)))
    | split

theorem State_fastSet_keeps {m_ : Nat} (hm : maskIn 1 m_ = true) {s_ s : State} (h_ : Keeps m_ s_ s) (en : Nat × Nat × Nat) : Keeps m_ s_ (State.fastSet s en) := by
  refine Keeps.after hm h_ ?_
  clear hm h_
  unfold State.fastSet
  repeat' with_reducible first
    | assumption
    | exact Keeps.refl _ _
    | (show maskIn _ _ = true; decide)
    | apply State_setBytes_keeps
    | apply keepsR_next
    | apply keeps_ite
    | apply keepsR_ite
    | apply keeps_ite2
    | apply keeps_foldl
    | apply keeps_foldl2
    | apply keeps_foldl3
    | intro _
    | dsimp only
    | (fail_if_no_progress (apply keeps_mk; on_goal 2 => (constructor <;> first | exact .inr (by decide) | exact .inl rfl)))
    | split

theorem State_fastRefuse_keeps {m_ : Nat} (hm : maskIn 906 m_ = true) {s_ s : State} (h_ : Keeps m_ s_ s) (cause : Nat) : Keeps m_ s_ (State.fastRefuse s cause) := by
  refine Keeps.after hm h_ ?_
  clear hm h_
  unfold State.fastRefuse
  repeat' with_reducible first
    | assumption
    | exact Keeps.refl _ _
    | (show maskIn _ _ = true; decide)
    | apply State_raise_keeps
    | apply State_setBit_keeps
    | apply keepsR_next
    | apply keeps_ite
    | apply keepsR_ite
    | apply keeps_ite2
    | apply keeps_foldl
    | apply keeps_foldl2
    | apply keeps_foldl3
    | intro _
    | dsimp only
    | (fail_if_no_progress (apply keeps_mk; on_goal 2 => (constructor <;> first | exact .inr (by decide) | exact .inl rfl)))
    | split

theorem State_fastHold_keeps {m_ : Nat} (hm : maskIn 4096 m_ = true) {s_ s : State} (h_ : Keeps m_ s_ s) (l : List (Nat × Nat × Nat)) (apply : Nat) : Keeps m_ s_ (State.fastHold s l apply) := by
  refine Keeps.after hm h_ ?_
  clear hm h_
  unfold State.fastHold
  repeat' with_reducible first
    | assumption
    | exact Keeps.refl _ _
    | (show maskIn _ _ = true; decide)
    | apply keepsR_next
    | apply keeps_ite
    | apply keepsR_ite
    | apply keeps_ite2
    | apply keeps_foldl
    | apply keeps_foldl2
    | apply keeps_foldl3
    | intro _
    | dsimp only
    | (fail_if_no_progress (apply keeps_mk; on_goal 2 => (constructor <;> first | exact .inr (by decide) | exact .inl rfl)))
    | split

theorem State_fastCommit_keeps {m_ : Nat} (hm : maskIn 136091 m_ = true) {s_ s : State} (h_ : Keeps m_ s_ s) (w : Nat) : Keeps m_ s_ (State.fastCommit s w) := by
  refine Keeps.after hm h_ ?_
  clear hm h_
  unfold State.fastCommit
  repeat' with_reducible first
    | assumption
    | exact Keeps.refl _ _
    | (show maskIn _ _ = true; decide)
    | apply State_fastHold_keeps
    | apply State_fastRefuse_keeps
    | apply State_freeNat_keeps
    | apply State_mirror_keeps
    | apply keepsR_next
    | apply keeps_ite
    | apply keepsR_ite
    | apply keeps_ite2
    | apply keeps_foldl
    | apply keeps_foldl2
    | apply keeps_foldl3
    | intro _
    | dsimp only
    | (fail_if_no_progress (apply keeps_mk; on_goal 2 => (constructor <;> first | exact .inr (by decide) | exact .inl rfl)))
    | split

theorem execStrideFastCommit_keeps {m_ : Nat} (hm : maskIn 136091 m_ = true) {s_ s : State} (h_ : Keeps m_ s_ s) (w : Word) : KeepsR m_ s_ (execStrideFastCommit w s) := by
  refine KeepsR.after hm h_ ?_
  clear hm h_
  unfold execStrideFastCommit
  repeat' with_reducible first
    | assumption
    | exact Keeps.refl _ _
    | (show maskIn _ _ = true; decide)
    | apply State_fastCommit_keeps
    | apply keepsR_next
    | apply keeps_ite
    | apply keepsR_ite
    | apply keeps_ite2
    | apply keeps_foldl
    | apply keeps_foldl2
    | apply keeps_foldl3
    | intro _
    | dsimp only
    | (fail_if_no_progress (apply keeps_mk; on_goal 2 => (constructor <;> first | exact .inr (by decide) | exact .inl rfl)))
    | split

theorem State_reparam_keeps {m_ : Nat} (hm : maskIn 4096 m_ = true) {s_ s : State} (h_ : Keeps m_ s_ s)  : Keeps m_ s_ (State.reparam s) := by
  refine Keeps.after hm h_ ?_
  clear hm h_
  unfold State.reparam
  repeat' with_reducible first
    | assumption
    | exact Keeps.refl _ _
    | (show maskIn _ _ = true; decide)
    | apply keepsR_next
    | apply keeps_ite
    | apply keepsR_ite
    | apply keeps_ite2
    | apply keeps_foldl
    | apply keeps_foldl2
    | apply keeps_foldl3
    | intro _
    | dsimp only
    | (fail_if_no_progress (apply keeps_mk; on_goal 2 => (constructor <;> first | exact .inr (by decide) | exact .inl rfl)))
    | split

theorem State_fastApply_keeps {m_ : Nat} (hm : maskIn 529359 m_ = true) {s_ s : State} (h_ : Keeps m_ s_ s) (l : List (Nat × Nat × Nat)) : Keeps m_ s_ (State.fastApply s l) := by
  refine Keeps.after hm h_ ?_
  clear hm h_
  unfold State.fastApply
  repeat' with_reducible first
    | assumption
    | exact Keeps.refl _ _
    | (show maskIn _ _ = true; decide)
    | apply State_fastSet_keeps
    | apply State_noteSince_keeps
    | apply State_raise_keeps
    | apply State_reparam_keeps
    | apply State_setBit_keeps
    | apply keepsR_next
    | apply keeps_ite
    | apply keepsR_ite
    | apply keeps_ite2
    | apply keeps_foldl
    | apply keeps_foldl2
    | apply keeps_foldl3
    | intro _
    | dsimp only
    | (fail_if_no_progress (apply keeps_mk; on_goal 2 => (constructor <;> first | exact .inr (by decide) | exact .inl rfl)))
    | split

theorem execStrideFastApply_keeps {m_ : Nat} (hm : maskIn 529391 m_ = true) {s_ s0 : State} (h_ : Keeps m_ s_ s0) (at_ : Nat) : KeepsR m_ s_ (execStrideFastApply at_ s0) := by
  refine KeepsR.after hm h_ ?_
  clear hm h_
  unfold execStrideFastApply
  repeat' with_reducible first
    | assumption
    | exact Keeps.refl _ _
    | (show maskIn _ _ = true; decide)
    | apply State_fastApply_keeps
    | apply State_toTick_keeps
    | apply keepsR_next
    | apply keeps_ite
    | apply keepsR_ite
    | apply keeps_ite2
    | apply keeps_foldl
    | apply keeps_foldl2
    | apply keeps_foldl3
    | intro _
    | dsimp only
    | (fail_if_no_progress (apply keeps_mk; on_goal 2 => (constructor <;> first | exact .inr (by decide) | exact .inl rfl)))
    | split

theorem State_rampDests_keeps {m_ : Nat} (hm : maskIn 4096 m_ = true) {s_ s : State} (h_ : Keeps m_ s_ s) (e : Nat) (down : Bool) : Keeps m_ s_ (State.rampDests s e down) := by
  refine Keeps.after hm h_ ?_
  clear hm h_
  unfold State.rampDests
  repeat' with_reducible first
    | assumption
    | exact Keeps.refl _ _
    | (show maskIn _ _ = true; decide)
    | apply keepsR_next
    | apply keeps_ite
    | apply keepsR_ite
    | apply keeps_ite2
    | apply keeps_foldl
    | apply keeps_foldl2
    | apply keeps_foldl3
    | intro _
    | dsimp only
    | (fail_if_no_progress (apply keeps_mk; on_goal 2 => (constructor <;> first | exact .inr (by decide) | exact .inl rfl)))
    | split

theorem execStrideUncorrectable_keeps {m_ : Nat} (hm : maskIn 661423 m_ = true) {s_ s0 : State} (h_ : Keeps m_ s_ s0) (e : Fin 16) (bank : Fin 7) (word : BitVec 14) (at_ : Nat) : KeepsR m_ s_ (execStrideUncorrectable e bank word at_ s0) := by
  refine KeepsR.after hm h_ ?_
  clear hm h_
  unfold execStrideUncorrectable
  repeat' with_reducible first
    | assumption
    | exact Keeps.refl _ _
    | (show maskIn _ _ = true; decide)
    | apply State_bump_keeps
    | apply State_rampDests_keeps
    | apply State_report_keeps
    | apply State_setEng_keeps
    | apply State_setNum_keeps
    | apply State_toTick_keeps
    | apply keepsR_next
    | apply keeps_ite
    | apply keepsR_ite
    | apply keeps_ite2
    | apply keeps_foldl
    | apply keeps_foldl2
    | apply keeps_foldl3
    | intro _
    | dsimp only
    | (fail_if_no_progress (apply keeps_mk; on_goal 2 => (constructor <;> first | exact .inr (by decide) | exact .inl rfl)))
    | split

theorem execEngineReloadDone_keeps {m_ : Nat} (hm : maskIn 5035 m_ = true) {s_ s0 : State} (h_ : Keeps m_ s_ s0) (e : Fin 16) (at_ : Nat) : KeepsR m_ s_ (execEngineReloadDone e at_ s0) := by
  refine KeepsR.after hm h_ ?_
  clear hm h_
  unfold execEngineReloadDone
  repeat' with_reducible first
    | assumption
    | exact Keeps.refl _ _
    | (show maskIn _ _ = true; decide)
    | apply State_bump_keeps
    | apply State_raise_keeps
    | apply State_rampDests_keeps
    | apply State_setBit_keeps
    | apply State_setEng_keeps
    | apply State_setNum_keeps
    | apply State_toTick_keeps
    | apply keepsR_next
    | apply keeps_ite
    | apply keepsR_ite
    | apply keeps_ite2
    | apply keeps_foldl
    | apply keeps_foldl2
    | apply keeps_foldl3
    | intro _
    | dsimp only
    | (fail_if_no_progress (apply keeps_mk; on_goal 2 => (constructor <;> first | exact .inr (by decide) | exact .inl rfl)))
    | split

theorem State_selfCheckWrite_keeps {m_ : Nat} (hm : maskIn 4097 m_ = true) {s_ s : State} (h_ : Keeps m_ s_ s) (e : Nat) (v : Nat) : Keeps m_ s_ (State.selfCheckWrite s e v).2 := by
  refine Keeps.after hm h_ ?_
  clear hm h_
  unfold State.selfCheckWrite
  repeat' with_reducible first
    | assumption
    | exact Keeps.refl _ _
    | (show maskIn _ _ = true; decide)
    | apply State_setNum_keeps
    | apply keepsR_next
    | apply keeps_ite
    | apply keepsR_ite
    | apply keeps_ite2
    | apply keeps_foldl
    | apply keeps_foldl2
    | apply keeps_foldl3
    | intro _
    | dsimp only
    | (fail_if_no_progress (apply keeps_mk; on_goal 2 => (constructor <;> first | exact .inr (by decide) | exact .inl rfl)))
    | split

theorem execSelfCheckDone_keeps {m_ : Nat} (hm : maskIn 5035 m_ = true) {s_ s0 : State} (h_ : Keeps m_ s_ s0) (e : Fin 16) (pass : Bool) (at_ : Nat) : KeepsR m_ s_ (execSelfCheckDone e pass at_ s0) := by
  refine KeepsR.after hm h_ ?_
  clear hm h_
  unfold execSelfCheckDone
  repeat' with_reducible first
    | assumption
    | exact Keeps.refl _ _
    | (show maskIn _ _ = true; decide)
    | apply State_raise_keeps
    | apply State_setBit_keeps
    | apply State_setNum_keeps
    | apply State_toTick_keeps
    | apply keepsR_next
    | apply keeps_ite
    | apply keepsR_ite
    | apply keeps_ite2
    | apply keeps_foldl
    | apply keeps_foldl2
    | apply keeps_foldl3
    | intro _
    | dsimp only
    | (fail_if_no_progress (apply keeps_mk; on_goal 2 => (constructor <;> first | exact .inr (by decide) | exact .inl rfl)))
    | split

end Sys2Proof.Machine
end

