-- ==== Sys2Proof/Laws/KeepsComposition.lean ====
section
/-! SUPPORT. Composition: what every operation keeps. -/

namespace Sys2Proof.Machine

theorem State_setHead_keeps {m_ : Nat} (hm : maskIn 65536 m_ = true) {s_ s : State} (h_ : Keeps m_ s_ s) (h : Nat) (v : HeadSt) : Keeps m_ s_ (State.setHead s h v) := by
  refine Keeps.after hm h_ ?_
  clear hm h_
  unfold State.setHead
  repeat' with_reducible first
    | assumption
    | exact Keeps.refl _ _
    | (show maskIn _ _ = true; decide)
    | apply keepsR_next
    | apply keeps_ite
    | apply keepsR_ite
    | apply keeps_ite2
    | apply keeps_foldl
    | apply keeps_foldl2
    | apply keeps_foldl3
    | intro _
    | dsimp only
    | (fail_if_no_progress (apply keeps_mk; on_goal 2 => (constructor <;> first | exact .inr (by decide) | exact .inl rfl)))
    | split

theorem State_setLay_keeps {m_ : Nat} (hm : maskIn 65536 m_ = true) {s_ s : State} (h_ : Keeps m_ s_ s) (l : Nat) (v : LayerSt) : Keeps m_ s_ (State.setLay s l v) := by
  refine Keeps.after hm h_ ?_
  clear hm h_
  unfold State.setLay
  repeat' with_reducible first
    | assumption
    | exact Keeps.refl _ _
    | (show maskIn _ _ = true; decide)
    | apply keepsR_next
    | apply keeps_ite
    | apply keepsR_ite
    | apply keeps_ite2
    | apply keeps_foldl
    | apply keeps_foldl2
    | apply keeps_foldl3
    | intro _
    | dsimp only
    | (fail_if_no_progress (apply keeps_mk; on_goal 2 => (constructor <;> first | exact .inr (by decide) | exact .inl rfl)))
    | split

theorem State_headEvent_keeps {m_ : Nat} (hm : maskIn 906 m_ = true) {s_ s : State} (h_ : Keeps m_ s_ s) (h : Nat) (bit : Nat) (code : Nat) (payload : List Byte) : Keeps m_ s_ (State.headEvent s h bit code payload) := by
  refine Keeps.after hm h_ ?_
  clear hm h_
  unfold State.headEvent
  repeat' with_reducible first
    | assumption
    | exact Keeps.refl _ _
    | (show maskIn _ _ = true; decide)
    | apply State_raise_keeps
    | apply State_setBit_keeps
    | apply keepsR_next
    | apply keeps_ite
    | apply keepsR_ite
    | apply keeps_ite2
    | apply keeps_foldl
    | apply keeps_foldl2
    | apply keeps_foldl3
    | intro _
    | dsimp only
    | (fail_if_no_progress (apply keeps_mk; on_goal 2 => (constructor <;> first | exact .inr (by decide) | exact .inl rfl)))
    | split

theorem State_headObj_keeps {m_ : Nat} (hm : maskIn 1 m_ = true) {s_ s : State} (h_ : Keeps m_ s_ s) (h : Nat) : Keeps m_ s_ (State.headObj s h) := by
  refine Keeps.after hm h_ ?_
  clear hm h_
  unfold State.headObj
  repeat' with_reducible first
    | assumption
    | exact Keeps.refl _ _
    | (show maskIn _ _ = true; decide)
    | apply State_setNum_keeps
    | apply keepsR_next
    | apply keeps_ite
    | apply keepsR_ite
    | apply keeps_ite2
    | apply keeps_foldl
    | apply keeps_foldl2
    | apply keeps_foldl3
    | intro _
    | dsimp only
    | (fail_if_no_progress (apply keeps_mk; on_goal 2 => (constructor <;> first | exact .inr (by decide) | exact .inl rfl)))
    | split

theorem State_layObj_keeps {m_ : Nat} (hm : maskIn 1 m_ = true) {s_ s : State} (h_ : Keeps m_ s_ s) (l : Nat) (state : Nat) : Keeps m_ s_ (State.layObj s l state) := by
  refine Keeps.after hm h_ ?_
  clear hm h_
  unfold State.layObj
  repeat' with_reducible first
    | assumption
    | exact Keeps.refl _ _
    | (show maskIn _ _ = true; decide)
    | apply State_setNum_keeps
    | apply keepsR_next
    | apply keeps_ite
    | apply keepsR_ite
    | apply keeps_ite2
    | apply keeps_foldl
    | apply keeps_foldl2
    | apply keeps_foldl3
    | intro _
    | dsimp only
    | (fail_if_no_progress (apply keeps_mk; on_goal 2 => (constructor <;> first | exact .inr (by decide) | exact .inl rfl)))
    | split

theorem State_holdOver_keeps {m_ : Nat} (hm : maskIn 65537 m_ = true) {s_ s : State} (h_ : Keeps m_ s_ s) (l : Nat) : Keeps m_ s_ (State.holdOver s l) := by
  refine Keeps.after hm h_ ?_
  clear hm h_
  unfold State.holdOver
  repeat' with_reducible first
    | assumption
    | exact Keeps.refl _ _
    | (show maskIn _ _ = true; decide)
    | apply State_layObj_keeps
    | apply State_setLay_keeps
    | apply keepsR_next
    | apply keeps_ite
    | apply keepsR_ite
    | apply keeps_ite2
    | apply keeps_foldl
    | apply keeps_foldl2
    | apply keeps_foldl3
    | intro _
    | dsimp only
    | (fail_if_no_progress (apply keeps_mk; on_goal 2 => (constructor <;> first | exact .inr (by decide) | exact .inl rfl)))
    | split

theorem State_supplyLost_keeps {m_ : Nat} (hm : maskIn 66443 m_ = true) {s_ s : State} (h_ : Keeps m_ s_ s) (l : Nat) (cause : Nat) : Keeps m_ s_ (State.supplyLost s l cause) := by
  refine Keeps.after hm h_ ?_
  clear hm h_
  unfold State.supplyLost
  repeat' with_reducible first
    | assumption
    | exact Keeps.refl _ _
    | (show maskIn _ _ = true; decide)
    | apply State_headEvent_keeps
    | apply State_layObj_keeps
    | apply State_setLay_keeps
    | apply keepsR_next
    | apply keeps_ite
    | apply keepsR_ite
    | apply keeps_ite2
    | apply keeps_foldl
    | apply keeps_foldl2
    | apply keeps_foldl3
    | intro _
    | dsimp only
    | (fail_if_no_progress (apply keeps_mk; on_goal 2 => (constructor <;> first | exact .inr (by decide) | exact .inl rfl)))
    | split

theorem State_layerStale_keeps {m_ : Nat} (hm : maskIn 67467 m_ = true) {s_ s : State} (h_ : Keeps m_ s_ s) (l : Nat) : Keeps m_ s_ (State.layerStale s l) := by
  refine Keeps.after hm h_ ?_
  clear hm h_
  unfold State.layerStale
  repeat' with_reducible first
    | assumption
    | exact Keeps.refl _ _
    | (show maskIn _ _ = true; decide)
    | apply State_bump_keeps
    | apply State_countSecond_keeps
    | apply State_layObj_keeps
    | apply State_rcAdd_keeps
    | apply State_setBit_keeps
    | apply State_setLay_keeps
    | apply keepsR_next
    | apply keeps_ite
    | apply keepsR_ite
    | apply keeps_ite2
    | apply keeps_foldl
    | apply keeps_foldl2
    | apply keeps_foldl3
    | intro _
    | dsimp only
    | (fail_if_no_progress (apply keeps_mk; on_goal 2 => (constructor <;> first | exact .inr (by decide) | exact .inl rfl)))
    | split

theorem State_renewLayers_keeps {m_ : Nat} (hm : maskIn 65539 m_ = true) {s_ s : State} (h_ : Keeps m_ s_ s) (old : List (Nat × List Byte)) (new : List (Nat × List Byte)) : Keeps m_ s_ (State.renewLayers s old new) := by
  refine Keeps.after hm h_ ?_
  clear hm h_
  unfold State.renewLayers
  repeat' with_reducible first
    | assumption
    | exact Keeps.refl _ _
    | (show maskIn _ _ = true; decide)
    | apply State_layObj_keeps
    | apply State_setLay_keeps
    | apply setReg_keeps
    | apply keepsR_next
    | apply keeps_ite
    | apply keepsR_ite
    | apply keeps_ite2
    | apply keeps_foldl
    | apply keeps_foldl2
    | apply keeps_foldl3
    | intro _
    | dsimp only
    | (fail_if_no_progress (apply keeps_mk; on_goal 2 => (constructor <;> first | exact .inr (by decide) | exact .inl rfl)))
    | split

theorem State_windowOpens_keeps {m_ : Nat} (hm : maskIn 65539 m_ = true) {s_ s : State} (h_ : Keeps m_ s_ s) (h : Nat) : Keeps m_ s_ (State.windowOpens s h) := by
  refine Keeps.after hm h_ ?_
  clear hm h_
  unfold State.windowOpens
  repeat' with_reducible first
    | assumption
    | exact Keeps.refl _ _
    | (show maskIn _ _ = true; decide)
    | apply State_renewLayers_keeps
    | apply State_setHead_keeps
    | apply keepsR_next
    | apply keeps_ite
    | apply keepsR_ite
    | apply keeps_ite2
    | apply keeps_foldl
    | apply keeps_foldl2
    | apply keeps_foldl3
    | intro _
    | dsimp only
    | (fail_if_no_progress (apply keeps_mk; on_goal 2 => (constructor <;> first | exact .inr (by decide) | exact .inl rfl)))
    | split

theorem State_cacheDone_keeps {m_ : Nat} (hm : maskIn 66443 m_ = true) {s_ s : State} (h_ : Keeps m_ s_ s) (h : Nat) : Keeps m_ s_ (State.cacheDone s h) := by
  refine Keeps.after hm h_ ?_
  clear hm h_
  unfold State.cacheDone
  repeat' with_reducible first
    | assumption
    | exact Keeps.refl _ _
    | (show maskIn _ _ = true; decide)
    | apply State_bump_keeps
    | apply State_headEvent_keeps
    | apply State_headObj_keeps
    | apply State_setHead_keeps
    | apply State_windowOpens_keeps
    | apply keepsR_next
    | apply keeps_ite
    | apply keepsR_ite
    | apply keeps_ite2
    | apply keeps_foldl
    | apply keeps_foldl2
    | apply keeps_foldl3
    | intro _
    | dsimp only
    | (fail_if_no_progress (apply keeps_mk; on_goal 2 => (constructor <;> first | exact .inr (by decide) | exact .inl rfl)))
    | split

theorem State_tileWindow_keeps {m_ : Nat} (hm : maskIn 67467 m_ = true) {s_ s : State} (h_ : Keeps m_ s_ s) (l : Nat) (b : List Byte) (own : Nat) (k : Nat) (late : Bool) : Keeps m_ s_ (State.tileWindow s l b own k late) := by
  refine Keeps.after hm h_ ?_
  clear hm h_
  unfold State.tileWindow
  repeat' with_reducible first
    | assumption
    | exact Keeps.refl _ _
    | (show maskIn _ _ = true; decide)
    | apply State_layObj_keeps
    | apply State_layerStale_keeps
    | apply State_raise_keeps
    | apply State_setLay_keeps
    | apply State_supplyLost_keeps
    | apply keepsR_next
    | apply keeps_ite
    | apply keepsR_ite
    | apply keeps_ite2
    | apply keeps_foldl
    | apply keeps_foldl2
    | apply keeps_foldl3
    | intro _
    | dsimp only
    | (fail_if_no_progress (apply keeps_mk; on_goal 2 => (constructor <;> first | exact .inr (by decide) | exact .inl rfl)))
    | split

theorem State_cacheByTime_keeps {m_ : Nat} (hm : maskIn 66443 m_ = true) {s_ s : State} (h_ : Keeps m_ s_ s) (h : Nat) : Keeps m_ s_ (State.cacheByTime s h) := by
  refine Keeps.after hm h_ ?_
  clear hm h_
  unfold State.cacheByTime
  repeat' with_reducible first
    | assumption
    | exact Keeps.refl _ _
    | (show maskIn _ _ = true; decide)
    | apply State_cacheDone_keeps
    | apply keepsR_next
    | apply keeps_ite
    | apply keepsR_ite
    | apply keeps_ite2
    | apply keeps_foldl
    | apply keeps_foldl2
    | apply keeps_foldl3
    | intro _
    | dsimp only
    | (fail_if_no_progress (apply keeps_mk; on_goal 2 => (constructor <;> first | exact .inr (by decide) | exact .inl rfl)))
    | split

theorem State_tileTaken_keeps {m_ : Nat} (hm : maskIn 67467 m_ = true) {s_ s : State} (h_ : Keeps m_ s_ s) (l : Nat) (b : List Byte) (raster : Nat) (frame : Nat) (late : Bool) : Keeps m_ s_ (State.tileTaken s l b raster frame late) := by
  refine Keeps.after hm h_ ?_
  clear hm h_
  unfold State.tileTaken
  repeat' with_reducible first
    | assumption
    | exact Keeps.refl _ _
    | (show maskIn _ _ = true; decide)
    | apply State_holdOver_keeps
    | apply State_tileWindow_keeps
    | apply keepsR_next
    | apply keeps_ite
    | apply keepsR_ite
    | apply keeps_ite2
    | apply keeps_foldl
    | apply keeps_foldl2
    | apply keeps_foldl3
    | intro _
    | dsimp only
    | (fail_if_no_progress (apply keeps_mk; on_goal 2 => (constructor <;> first | exact .inr (by decide) | exact .inl rfl)))
    | split

theorem State_staleClear_keeps {m_ : Nat} (hm : maskIn 2 m_ = true) {s_ s : State} (h_ : Keeps m_ s_ s) (l : Nat) : Keeps m_ s_ (State.staleClear s l) := by
  refine Keeps.after hm h_ ?_
  clear hm h_
  unfold State.staleClear
  repeat' with_reducible first
    | assumption
    | exact Keeps.refl _ _
    | (show maskIn _ _ = true; decide)
    | apply setReg_keeps
    | apply keepsR_next
    | apply keeps_ite
    | apply keepsR_ite
    | apply keeps_ite2
    | apply keeps_foldl
    | apply keeps_foldl2
    | apply keeps_foldl3
    | intro _
    | dsimp only
    | (fail_if_no_progress (apply keeps_mk; on_goal 2 => (constructor <;> first | exact .inr (by decide) | exact .inl rfl)))
    | split

theorem State_lostLonger_keeps {m_ : Nat} (hm : maskIn 65537 m_ = true) {s_ s : State} (h_ : Keeps m_ s_ s) (l : Nat) : Keeps m_ s_ (State.lostLonger s l) := by
  refine Keeps.after hm h_ ?_
  clear hm h_
  unfold State.lostLonger
  repeat' with_reducible first
    | assumption
    | exact Keeps.refl _ _
    | (show maskIn _ _ = true; decide)
    | apply State_layObj_keeps
    | apply State_setLay_keeps
    | apply keepsR_next
    | apply keeps_ite
    | apply keepsR_ite
    | apply keeps_ite2
    | apply keeps_foldl
    | apply keeps_foldl2
    | apply keeps_foldl3
    | intro _
    | dsimp only
    | (fail_if_no_progress (apply keeps_mk; on_goal 2 => (constructor <;> first | exact .inr (by decide) | exact .inl rfl)))
    | split

theorem State_headPublish_keeps {m_ : Nat} (hm : maskIn 33801 m_ = true) {s_ s : State} (h_ : Keeps m_ s_ s) (m : Nat) (f : Nat) (k : Nat) (rows : List (List Byte)) : Keeps m_ s_ (State.headPublish s m f k rows) := by
  refine Keeps.after hm h_ ?_
  clear hm h_
  unfold State.headPublish
  repeat' with_reducible first
    | assumption
    | exact Keeps.refl _ _
    | (show maskIn _ _ = true; decide)
    | apply State_setInt_keeps
    | apply State_setMember_keeps
    | apply State_setSlot_keeps
    | apply State_sourcePresent_keeps
    | apply keepsR_next
    | apply keeps_ite
    | apply keepsR_ite
    | apply keeps_ite2
    | apply keeps_foldl
    | apply keeps_foldl2
    | apply keeps_foldl3
    | intro _
    | dsimp only
    | (fail_if_no_progress (apply keeps_mk; on_goal 2 => (constructor <;> first | exact .inr (by decide) | exact .inl rfl)))
    | split

theorem State_takeTiles_keeps {m_ : Nat} (hm : maskIn 67467 m_ = true) {s_ s : State} (h_ : Keeps m_ s_ s) (h : Nat) (frame : Nat) (unfinished : List (Fin 512)) : Keeps m_ s_ (State.takeTiles s h frame unfinished) := by
  refine Keeps.after hm h_ ?_
  clear hm h_
  unfold State.takeTiles
  repeat' with_reducible first
    | assumption
    | exact Keeps.refl _ _
    | (show maskIn _ _ = true; decide)
    | apply State_staleClear_keeps
    | apply State_tileTaken_keeps
    | apply keepsR_next
    | apply keeps_ite
    | apply keepsR_ite
    | apply keeps_ite2
    | apply keeps_foldl
    | apply keeps_foldl2
    | apply keeps_foldl3
    | intro _
    | dsimp only
    | (fail_if_no_progress (apply keeps_mk; on_goal 2 => (constructor <;> first | exact .inr (by decide) | exact .inl rfl)))
    | split

theorem State_windowClose_keeps {m_ : Nat} (hm : maskIn 99339 m_ = true) {s_ s : State} (h_ : Keeps m_ s_ s) (h : Nat) (frame : Nat) (rows : List (List Byte)) : Keeps m_ s_ (State.windowClose s h frame rows) := by
  refine Keeps.after hm h_ ?_
  clear hm h_
  unfold State.windowClose
  repeat' with_reducible first
    | assumption
    | exact Keeps.refl _ _
    | (show maskIn _ _ = true; decide)
    | apply State_headPublish_keeps
    | apply State_lostLonger_keeps
    | apply State_setHead_keeps
    | apply State_windowOpens_keeps
    | apply keepsR_next
    | apply keeps_ite
    | apply keepsR_ite
    | apply keeps_ite2
    | apply keeps_foldl
    | apply keeps_foldl2
    | apply keeps_foldl3
    | intro _
    | dsimp only
    | (fail_if_no_progress (apply keeps_mk; on_goal 2 => (constructor <;> first | exact .inr (by decide) | exact .inl rfl)))
    | split

theorem execCompositionWindow_keeps {m_ : Nat} (hm : maskIn 100267 m_ = true) {s_ s0 : State} (h_ : Keeps m_ s_ s0) (h : Fin 8) (frame : Nat) (unfinished : List (Fin 512)) (at_ : Nat) : KeepsR m_ s_ (execCompositionWindow h frame unfinished at_ s0) := by
  refine KeepsR.after hm h_ ?_
  clear hm h_
  unfold execCompositionWindow
  repeat' with_reducible first
    | assumption
    | exact Keeps.refl _ _
    | (show maskIn _ _ = true; decide)
    | apply State_cacheByTime_keeps
    | apply State_takeTiles_keeps
    | apply State_toTick_keeps
    | apply State_windowClose_keeps
    | apply keepsR_next
    | apply keeps_ite
    | apply keepsR_ite
    | apply keeps_ite2
    | apply keeps_foldl
    | apply keeps_foldl2
    | apply keeps_foldl3
    | intro _
    | dsimp only
    | (fail_if_no_progress (apply keeps_mk; on_goal 2 => (constructor <;> first | exact .inr (by decide) | exact .inl rfl)))
    | split

theorem execStaleHoldExpiry_keeps {m_ : Nat} (hm : maskIn 65569 m_ = true) {s_ s0 : State} (h_ : Keeps m_ s_ s0) (l : Fin 512) (at_ : Nat) : KeepsR m_ s_ (execStaleHoldExpiry l at_ s0) := by
  refine KeepsR.after hm h_ ?_
  clear hm h_
  unfold execStaleHoldExpiry
  repeat' with_reducible first
    | assumption
    | exact Keeps.refl _ _
    | (show maskIn _ _ = true; decide)
    | apply State_holdOver_keeps
    | apply State_toTick_keeps
    | apply keepsR_next
    | apply keeps_ite
    | apply keepsR_ite
    | apply keeps_ite2
    | apply keeps_foldl
    | apply keeps_foldl2
    | apply keeps_foldl3
    | intro _
    | dsimp only
    | (fail_if_no_progress (apply keeps_mk; on_goal 2 => (constructor <;> first | exact .inr (by decide) | exact .inl rfl)))
    | split

theorem execCacheRebuildDone_keeps {m_ : Nat} (hm : maskIn 66475 m_ = true) {s_ s0 : State} (h_ : Keeps m_ s_ s0) (h : Fin 8) (at_ : Nat) : KeepsR m_ s_ (execCacheRebuildDone h at_ s0) := by
  refine KeepsR.after hm h_ ?_
  clear hm h_
  unfold execCacheRebuildDone
  repeat' with_reducible first
    | assumption
    | exact Keeps.refl _ _
    | (show maskIn _ _ = true; decide)
    | apply State_cacheDone_keeps
    | apply State_toTick_keeps
    | apply keepsR_next
    | apply keeps_ite
    | apply keepsR_ite
    | apply keeps_ite2
    | apply keeps_foldl
    | apply keeps_foldl2
    | apply keeps_foldl3
    | intro _
    | dsimp only
    | (fail_if_no_progress (apply keeps_mk; on_goal 2 => (constructor <;> first | exact .inr (by decide) | exact .inl rfl)))
    | split

theorem State_poolObjs_keeps {m_ : Nat} (hm : maskIn 65537 m_ = true) {s_ s : State} (h_ : Keeps m_ s_ s) (x : Placing) (pt : Nat) : Keeps m_ s_ (State.poolObjs s x pt) := by
  refine Keeps.after hm h_ ?_
  clear hm h_
  unfold State.poolObjs
  repeat' with_reducible first
    | assumption
    | exact Keeps.refl _ _
    | (show maskIn _ _ = true; decide)
    | apply State_headObj_keeps
    | apply State_setBytes_keeps
    | apply State_setNum_keeps
    | apply keepsR_next
    | apply keeps_ite
    | apply keepsR_ite
    | apply keeps_ite2
    | apply keeps_foldl
    | apply keeps_foldl2
    | apply keeps_foldl3
    | intro _
    | dsimp only
    | (fail_if_no_progress (apply keeps_mk; on_goal 2 => (constructor <;> first | exact .inr (by decide) | exact .inl rfl)))
    | split

theorem State_replace_keeps {m_ : Nat} (hm : maskIn 65537 m_ = true) {s_ s : State} (h_ : Keeps m_ s_ s) (pt : Nat) : Keeps m_ s_ (State.replace s pt) := by
  refine Keeps.after hm h_ ?_
  clear hm h_
  unfold State.replace
  repeat' with_reducible first
    | assumption
    | exact Keeps.refl _ _
    | (show maskIn _ _ = true; decide)
    | apply State_poolObjs_keeps
    | apply keepsR_next
    | apply keeps_ite
    | apply keepsR_ite
    | apply keeps_ite2
    | apply keeps_foldl
    | apply keeps_foldl2
    | apply keeps_foldl3
    | intro _
    | dsimp only
    | (fail_if_no_progress (apply keeps_mk; on_goal 2 => (constructor <;> first | exact .inr (by decide) | exact .inl rfl)))
    | split

theorem State_headCommit_keeps {m_ : Nat} (hm : maskIn 101387 m_ = true) {s_ s : State} (h_ : Keeps m_ s_ s) (h : Nat) : Keeps m_ s_ (State.headCommit s h) := by
  refine Keeps.after hm h_ ?_
  clear hm h_
  unfold State.headCommit
  repeat' with_reducible first
    | assumption
    | exact Keeps.refl _ _
    | (show maskIn _ _ = true; decide)
    | apply State_renewLayers_keeps
    | apply State_setHead_keeps
    | apply State_setNum_keeps
    | apply State_slotClear_keeps
    | apply keepsR_next
    | apply keeps_ite
    | apply keepsR_ite
    | apply keeps_ite2
    | apply keeps_foldl
    | apply keeps_foldl2
    | apply keeps_foldl3
    | intro _
    | dsimp only
    | (fail_if_no_progress (apply keeps_mk; on_goal 2 => (constructor <;> first | exact .inr (by decide) | exact .inl rfl)))
    | split

theorem State_compApply_keeps {m_ : Nat} (hm : maskIn 1025 m_ = true) {s_ s : State} (h_ : Keeps m_ s_ s)  : Keeps m_ s_ (State.compApply s) := by
  refine Keeps.after hm h_ ?_
  clear hm h_
  unfold State.compApply
  repeat' with_reducible first
    | assumption
    | exact Keeps.refl _ _
    | (show maskIn _ _ = true; decide)
    | apply State_setNum_keeps
    | apply keepsR_next
    | apply keeps_ite
    | apply keepsR_ite
    | apply keeps_ite2
    | apply keeps_foldl
    | apply keeps_foldl2
    | apply keeps_foldl3
    | intro _
    | dsimp only
    | (fail_if_no_progress (apply keeps_mk; on_goal 2 => (constructor <;> first | exact .inr (by decide) | exact .inl rfl)))
    | split

theorem State_area8Apply_keeps {m_ : Nat} (hm : maskIn 101387 m_ = true) {s_ s : State} (h_ : Keeps m_ s_ s) (pre : State) : Keeps m_ s_ (State.area8Apply s pre) := by
  refine Keeps.after hm h_ ?_
  clear hm h_
  unfold State.area8Apply
  repeat' with_reducible first
    | assumption
    | exact Keeps.refl _ _
    | (show maskIn _ _ = true; decide)
    | apply State_compApply_keeps
    | apply State_headCommit_keeps
    | apply State_poolObjs_keeps
    | apply State_storeApply_keeps
    | apply keepsR_next
    | apply keeps_ite
    | apply keepsR_ite
    | apply keeps_ite2
    | apply keeps_foldl
    | apply keeps_foldl2
    | apply keeps_foldl3
    | intro _
    | dsimp only
    | (fail_if_no_progress (apply keeps_mk; on_goal 2 => (constructor <;> first | exact .inr (by decide) | exact .inl rfl)))
    | split

theorem State_area0AApply_keeps {m_ : Nat} (hm : maskIn 1 m_ = true) {s_ s : State} (h_ : Keeps m_ s_ s)  : Keeps m_ s_ (State.area0AApply s) := by
  refine Keeps.after hm h_ ?_
  clear hm h_
  unfold State.area0AApply
  repeat' with_reducible first
    | assumption
    | exact Keeps.refl _ _
    | (show maskIn _ _ = true; decide)
    | apply State_setNum_keeps
    | apply keepsR_next
    | apply keeps_ite
    | apply keepsR_ite
    | apply keeps_ite2
    | apply keeps_foldl
    | apply keeps_foldl2
    | apply keeps_foldl3
    | intro _
    | dsimp only
    | (fail_if_no_progress (apply keeps_mk; on_goal 2 => (constructor <;> first | exact .inr (by decide) | exact .inl rfl)))
    | split

theorem State_shedHead_keeps {m_ : Nat} (hm : maskIn 66443 m_ = true) {s_ s : State} (h_ : Keeps m_ s_ s) (h : Nat) : Keeps m_ s_ (State.shedHead s h) := by
  refine Keeps.after hm h_ ?_
  clear hm h_
  unfold State.shedHead
  repeat' with_reducible first
    | assumption
    | exact Keeps.refl _ _
    | (show maskIn _ _ = true; decide)
    | apply State_headEvent_keeps
    | apply State_layObj_keeps
    | apply State_replace_keeps
    | apply State_setHead_keeps
    | apply keepsR_next
    | apply keeps_ite
    | apply keepsR_ite
    | apply keeps_ite2
    | apply keeps_foldl
    | apply keeps_foldl2
    | apply keeps_foldl3
    | intro _
    | dsimp only
    | (fail_if_no_progress (apply keeps_mk; on_goal 2 => (constructor <;> first | exact .inr (by decide) | exact .inl rfl)))
    | split

theorem State_restoreHead_keeps {m_ : Nat} (hm : maskIn 99211 m_ = true) {s_ s : State} (h_ : Keeps m_ s_ s) (h : Nat) : Keeps m_ s_ (State.restoreHead s h) := by
  refine Keeps.after hm h_ ?_
  clear hm h_
  unfold State.restoreHead
  repeat' with_reducible first
    | assumption
    | exact Keeps.refl _ _
    | (show maskIn _ _ = true; decide)
    | apply State_askSub_keeps
    | apply State_headEvent_keeps
    | apply State_poolObjs_keeps
    | apply State_setHead_keeps
    | apply keepsR_next
    | apply keeps_ite
    | apply keepsR_ite
    | apply keeps_ite2
    | apply keeps_foldl
    | apply keeps_foldl2
    | apply keeps_foldl3
    | intro _
    | dsimp only
    | (fail_if_no_progress (apply keeps_mk; on_goal 2 => (constructor <;> first | exact .inr (by decide) | exact .inl rfl)))
    | split

theorem State_shedConv_keeps {m_ : Nat} (hm : maskIn 66443 m_ = true) {s_ s : State} (h_ : Keeps m_ s_ s) (c : Nat) : Keeps m_ s_ (State.shedConv s c) := by
  refine Keeps.after hm h_ ?_
  clear hm h_
  unfold State.shedConv
  repeat' with_reducible first
    | assumption
    | exact Keeps.refl _ _
    | (show maskIn _ _ = true; decide)
    | apply State_raise_keeps
    | apply State_replace_keeps
    | apply State_setNum_keeps
    | apply keepsR_next
    | apply keeps_ite
    | apply keepsR_ite
    | apply keeps_ite2
    | apply keeps_foldl
    | apply keeps_foldl2
    | apply keeps_foldl3
    | intro _
    | dsimp only
    | (fail_if_no_progress (apply keeps_mk; on_goal 2 => (constructor <;> first | exact .inr (by decide) | exact .inl rfl)))
    | split

theorem State_restoreConv_keeps {m_ : Nat} (hm : maskIn 66443 m_ = true) {s_ s : State} (h_ : Keeps m_ s_ s) (c : Nat) : Keeps m_ s_ (State.restoreConv s c) := by
  refine Keeps.after hm h_ ?_
  clear hm h_
  unfold State.restoreConv
  repeat' with_reducible first
    | assumption
    | exact Keeps.refl _ _
    | (show maskIn _ _ = true; decide)
    | apply State_poolObjs_keeps
    | apply State_raise_keeps
    | apply State_setNum_keeps
    | apply keepsR_next
    | apply keeps_ite
    | apply keepsR_ite
    | apply keeps_ite2
    | apply keeps_foldl
    | apply keeps_foldl2
    | apply keeps_foldl3
    | intro _
    | dsimp only
    | (fail_if_no_progress (apply keeps_mk; on_goal 2 => (constructor <;> first | exact .inr (by decide) | exact .inl rfl)))
    | split

end Sys2Proof.Machine
end

