-- ==== Sys2Proof/Laws/KeepsEthCore.lean ====
section
/-! SUPPORT. EthCore: what every operation keeps. -/

namespace Sys2Proof.Machine

theorem State_setEth_keeps {m_ : Nat} (hm : maskIn 16384 m_ = true) {s_ s : State} (h_ : Keeps m_ s_ s) (p : Nat) (v : EthPort) : Keeps m_ s_ (State.setEth s p v) := by
  refine Keeps.after hm h_ ?_
  clear hm h_
  unfold State.setEth
  repeat' with_reducible first
    | assumption
    | exact Keeps.refl _ _
    | (show maskIn _ _ = true; decide)
    | apply keepsR_next
    | apply keeps_ite
    | apply keepsR_ite
    | apply keeps_ite2
    | apply keeps_foldl
    | apply keeps_foldl2
    | apply keeps_foldl3
    | intro _
    | dsimp only
    | (fail_if_no_progress (apply keeps_mk; on_goal 2 => (constructor <;> first | exact .inr (by decide) | exact .inl rfl)))
    | split

theorem State_ethEvent_keeps {m_ : Nat} (hm : maskIn 906 m_ = true) {s_ s : State} (h_ : Keeps m_ s_ s) (p : Nat) (bit : Nat) (code : Nat) (payload : List Byte) : Keeps m_ s_ (State.ethEvent s p bit code payload) := by
  refine Keeps.after hm h_ ?_
  clear hm h_
  unfold State.ethEvent
  repeat' with_reducible first
    | assumption
    | exact Keeps.refl _ _
    | (show maskIn _ _ = true; decide)
    | apply State_raise_keeps
    | apply State_setBit_keeps
    | apply keepsR_next
    | apply keeps_ite
    | apply keepsR_ite
    | apply keeps_ite2
    | apply keeps_foldl
    | apply keeps_foldl2
    | apply keeps_foldl3
    | intro _
    | dsimp only
    | (fail_if_no_progress (apply keeps_mk; on_goal 2 => (constructor <;> first | exact .inr (by decide) | exact .inl rfl)))
    | split

theorem State_ethDown_keeps {m_ : Nat} (hm : maskIn 907 m_ = true) {s_ s : State} (h_ : Keeps m_ s_ s) (p : Nat) (cause : Nat) (to_ : Nat) (cut : Bool) : Keeps m_ s_ (State.ethDown s p cause to_ cut) := by
  refine Keeps.after hm h_ ?_
  clear hm h_
  unfold State.ethDown
  repeat' with_reducible first
    | assumption
    | exact Keeps.refl _ _
    | (show maskIn _ _ = true; decide)
    | apply State_bump_keeps
    | apply State_ethEvent_keeps
    | apply State_rcAdd_keeps
    | apply State_setNum_keeps
    | apply keepsR_next
    | apply keeps_ite
    | apply keepsR_ite
    | apply keeps_ite2
    | apply keeps_foldl
    | apply keeps_foldl2
    | apply keeps_foldl3
    | intro _
    | dsimp only
    | (fail_if_no_progress (apply keeps_mk; on_goal 2 => (constructor <;> first | exact .inr (by decide) | exact .inl rfl)))
    | split

end Sys2Proof.Machine
end

