-- ==== Sys2Proof/Laws/KeepsHostIf.lean ====
section
/-! SUPPORT. HostIf: what every operation keeps. -/

namespace Sys2Proof.Machine

theorem State_setHif_keeps {m_ : Nat} (hm : maskIn 128 m_ = true) {s_ s : State} (h_ : Keeps m_ s_ s) (h : HifSt) : Keeps m_ s_ (State.setHif s h) := by
  refine Keeps.after hm h_ ?_
  clear hm h_
  unfold State.setHif
  repeat' with_reducible first
    | assumption
    | exact Keeps.refl _ _
    | (show maskIn _ _ = true; decide)
    | apply keepsR_next
    | apply keeps_ite
    | apply keepsR_ite
    | apply keeps_ite2
    | apply keeps_foldl
    | apply keeps_foldl2
    | apply keeps_foldl3
    | intro _
    | dsimp only
    | (fail_if_no_progress (apply keeps_mk; on_goal 2 => (constructor <;> first | exact .inr (by decide) | exact .inl rfl)))
    | split

theorem State_accessErr_keeps {m_ : Nat} (hm : maskIn 1930 m_ = true) {s_ s : State} (h_ : Keeps m_ s_ s) (kind : Nat) (off : Nat) : Keeps m_ s_ (State.accessErr s kind off) := by
  refine Keeps.after hm h_ ?_
  clear hm h_
  unfold State.accessErr
  repeat' with_reducible first
    | assumption
    | exact Keeps.refl _ _
    | (show maskIn _ _ = true; decide)
    | apply State_countSecond_keeps
    | apply State_rcAdd_keeps
    | apply State_setBit_keeps
    | apply setReg_keeps
    | apply keepsR_next
    | apply keeps_ite
    | apply keepsR_ite
    | apply keeps_ite2
    | apply keeps_foldl
    | apply keeps_foldl2
    | apply keeps_foldl3
    | intro _
    | dsimp only
    | (fail_if_no_progress (apply keeps_mk; on_goal 2 => (constructor <;> first | exact .inr (by decide) | exact .inl rfl)))
    | split

theorem execAccessError_keeps {m_ : Nat} (hm : maskIn 1930 m_ = true) {s_ s : State} (h_ : Keeps m_ s_ s) (isWrite : Bool) (off : BitVec 24) (_size : Nat) : KeepsR m_ s_ (execAccessError isWrite off _size s) := by
  refine KeepsR.after hm h_ ?_
  clear hm h_
  unfold execAccessError
  repeat' with_reducible first
    | assumption
    | exact Keeps.refl _ _
    | (show maskIn _ _ = true; decide)
    | apply State_accessErr_keeps
    | apply State_emit_keeps
    | apply keepsR_next
    | apply keeps_ite
    | apply keepsR_ite
    | apply keeps_ite2
    | apply keeps_foldl
    | apply keeps_foldl2
    | apply keeps_foldl3
    | intro _
    | dsimp only
    | (fail_if_no_progress (apply keeps_mk; on_goal 2 => (constructor <;> first | exact .inr (by decide) | exact .inl rfl)))
    | split

theorem execWindowBWrite_keeps {m_ : Nat} (hm : maskIn 1930 m_ = true) {s_ s : State} (h_ : Keeps m_ s_ s) (off : BitVec 30) : KeepsR m_ s_ (execWindowBWrite off s) := by
  refine KeepsR.after hm h_ ?_
  clear hm h_
  unfold execWindowBWrite
  repeat' with_reducible first
    | assumption
    | exact Keeps.refl _ _
    | (show maskIn _ _ = true; decide)
    | apply State_accessErr_keeps
    | apply keepsR_next
    | apply keeps_ite
    | apply keepsR_ite
    | apply keeps_ite2
    | apply keeps_foldl
    | apply keeps_foldl2
    | apply keeps_foldl3
    | intro _
    | dsimp only
    | (fail_if_no_progress (apply keeps_mk; on_goal 2 => (constructor <;> first | exact .inr (by decide) | exact .inl rfl)))
    | split

theorem State_vecTry_keeps {m_ : Nat} (hm : maskIn 136 m_ = true) {s_ s : State} (h_ : Keeps m_ s_ s) (v : Nat) : Keeps m_ s_ (State.vecTry s v) := by
  refine Keeps.after hm h_ ?_
  clear hm h_
  unfold State.vecTry
  repeat' with_reducible first
    | assumption
    | exact Keeps.refl _ _
    | (show maskIn _ _ = true; decide)
    | apply State_sendVec_keeps
    | apply keepsR_next
    | apply keeps_ite
    | apply keepsR_ite
    | apply keeps_ite2
    | apply keeps_foldl
    | apply keeps_foldl2
    | apply keeps_foldl3
    | intro _
    | dsimp only
    | (fail_if_no_progress (apply keeps_mk; on_goal 2 => (constructor <;> first | exact .inr (by decide) | exact .inl rfl)))
    | split

theorem execMsixIntervalEnd_keeps {m_ : Nat} (hm : maskIn 168 m_ = true) {s_ s0 : State} (h_ : Keeps m_ s_ s0) (v : Fin 2048) (at_ : Nat) : KeepsR m_ s_ (execMsixIntervalEnd v at_ s0) := by
  refine KeepsR.after hm h_ ?_
  clear hm h_
  unfold execMsixIntervalEnd
  repeat' with_reducible first
    | assumption
    | exact Keeps.refl _ _
    | (show maskIn _ _ = true; decide)
    | apply State_toTick_keeps
    | apply State_vecTry_keeps
    | apply keepsR_next
    | apply keeps_ite
    | apply keepsR_ite
    | apply keeps_ite2
    | apply keeps_foldl
    | apply keeps_foldl2
    | apply keeps_foldl3
    | intro _
    | dsimp only
    | (fail_if_no_progress (apply keeps_mk; on_goal 2 => (constructor <;> first | exact .inr (by decide) | exact .inl rfl)))
    | split

theorem execMsixUnmask_keeps {m_ : Nat} (hm : maskIn 138 m_ = true) {s_ s : State} (h_ : Keeps m_ s_ s) (v : Option (Fin 2048)) : KeepsR m_ s_ (execMsixUnmask v s) := by
  refine KeepsR.after hm h_ ?_
  clear hm h_
  unfold execMsixUnmask
  repeat' with_reducible first
    | assumption
    | exact Keeps.refl _ _
    | (show maskIn _ _ = true; decide)
    | apply State_setHif_keeps
    | apply State_vecTry_keeps
    | apply setReg_keeps
    | apply keepsR_next
    | apply keeps_ite
    | apply keepsR_ite
    | apply keeps_ite2
    | apply keeps_foldl
    | apply keeps_foldl2
    | apply keeps_foldl3
    | intro _
    | dsimp only
    | (fail_if_no_progress (apply keeps_mk; on_goal 2 => (constructor <;> first | exact .inr (by decide) | exact .inl rfl)))
    | split

theorem execD3hotEntry_keeps {m_ : Nat} (hm : maskIn 906 m_ = true) {s_ s : State} (h_ : Keeps m_ s_ s)  : KeepsR m_ s_ (execD3hotEntry s) := by
  refine KeepsR.after hm h_ ?_
  clear hm h_
  unfold execD3hotEntry
  repeat' with_reducible first
    | assumption
    | exact Keeps.refl _ _
    | (show maskIn _ _ = true; decide)
    | apply State_raise_keeps
    | apply State_setHif_keeps
    | apply keepsR_next
    | apply keeps_ite
    | apply keepsR_ite
    | apply keeps_ite2
    | apply keeps_foldl
    | apply keeps_foldl2
    | apply keeps_foldl3
    | intro _
    | dsimp only
    | (fail_if_no_progress (apply keeps_mk; on_goal 2 => (constructor <;> first | exact .inr (by decide) | exact .inl rfl)))
    | split

theorem execD3hotExit_keeps {m_ : Nat} (hm : maskIn 128 m_ = true) {s_ s : State} (h_ : Keeps m_ s_ s)  : KeepsR m_ s_ (execD3hotExit s) := by
  refine KeepsR.after hm h_ ?_
  clear hm h_
  unfold execD3hotExit
  repeat' with_reducible first
    | assumption
    | exact Keeps.refl _ _
    | (show maskIn _ _ = true; decide)
    | apply State_setHif_keeps
    | apply keepsR_next
    | apply keeps_ite
    | apply keepsR_ite
    | apply keeps_ite2
    | apply keeps_foldl
    | apply keeps_foldl2
    | apply keeps_foldl3
    | intro _
    | dsimp only
    | (fail_if_no_progress (apply keeps_mk; on_goal 2 => (constructor <;> first | exact .inr (by decide) | exact .inl rfl)))
    | split

theorem execPcieLinkTrained_keeps {m_ : Nat} (hm : maskIn 906 m_ = true) {s_ s : State} (h_ : Keeps m_ s_ s) (speed : Nat) (width : Nat) : KeepsR m_ s_ (execPcieLinkTrained speed width s) := by
  refine KeepsR.after hm h_ ?_
  clear hm h_
  unfold execPcieLinkTrained
  repeat' with_reducible first
    | assumption
    | exact Keeps.refl _ _
    | (show maskIn _ _ = true; decide)
    | apply State_raise_keeps
    | apply State_setHif_keeps
    | apply keepsR_next
    | apply keeps_ite
    | apply keepsR_ite
    | apply keeps_ite2
    | apply keeps_foldl
    | apply keeps_foldl2
    | apply keeps_foldl3
    | intro _
    | dsimp only
    | (fail_if_no_progress (apply keeps_mk; on_goal 2 => (constructor <;> first | exact .inr (by decide) | exact .inl rfl)))
    | split

theorem State_translate_keeps {m_ : Nat} (hm : maskIn 130 m_ = true) {s_ s : State} (h_ : Keeps m_ s_ s) (h : HostMem) (asid : Nat) (va : Nat) (write : Bool) : Keeps m_ s_ (State.translate s h asid va write).2 := by
  refine Keeps.after hm h_ ?_
  clear hm h_
  unfold State.translate
  repeat' with_reducible first
    | assumption
    | exact Keeps.refl _ _
    | (show maskIn _ _ = true; decide)
    | apply State_rcAdd_keeps
    | apply State_setHif_keeps
    | apply keepsR_next
    | apply keeps_ite
    | apply keepsR_ite
    | apply keeps_ite2
    | apply keeps_foldl
    | apply keeps_foldl2
    | apply keeps_foldl3
    | intro _
    | dsimp only
    | (fail_if_no_progress (apply keeps_mk; on_goal 2 => (constructor <;> first | exact .inr (by decide) | exact .inl rfl)))
    | split

theorem State_tlbInv_keeps {m_ : Nat} (hm : maskIn 128 m_ = true) {s_ s : State} (h_ : Keeps m_ s_ s) (w : Nat) : Keeps m_ s_ (State.tlbInv s w) := by
  refine Keeps.after hm h_ ?_
  clear hm h_
  unfold State.tlbInv
  repeat' with_reducible first
    | assumption
    | exact Keeps.refl _ _
    | (show maskIn _ _ = true; decide)
    | apply State_setHif_keeps
    | apply keepsR_next
    | apply keeps_ite
    | apply keepsR_ite
    | apply keeps_ite2
    | apply keeps_foldl
    | apply keeps_foldl2
    | apply keeps_foldl3
    | intro _
    | dsimp only
    | (fail_if_no_progress (apply keeps_mk; on_goal 2 => (constructor <;> first | exact .inr (by decide) | exact .inl rfl)))
    | split

theorem execTlbInvalidate_keeps {m_ : Nat} (hm : maskIn 128 m_ = true) {s_ s : State} (h_ : Keeps m_ s_ s) (w : Word) : KeepsR m_ s_ (execTlbInvalidate w s) := by
  refine KeepsR.after hm h_ ?_
  clear hm h_
  unfold execTlbInvalidate
  repeat' with_reducible first
    | assumption
    | exact Keeps.refl _ _
    | (show maskIn _ _ = true; decide)
    | apply State_tlbInv_keeps
    | apply keepsR_next
    | apply keeps_ite
    | apply keepsR_ite
    | apply keeps_ite2
    | apply keeps_foldl
    | apply keeps_foldl2
    | apply keeps_foldl3
    | intro _
    | dsimp only
    | (fail_if_no_progress (apply keeps_mk; on_goal 2 => (constructor <;> first | exact .inr (by decide) | exact .inl rfl)))
    | split

theorem execTlbInvalidateDone_keeps {m_ : Nat} (hm : maskIn 160 m_ = true) {s_ s0 : State} (h_ : Keeps m_ s_ s0) (at_ : Nat) : KeepsR m_ s_ (execTlbInvalidateDone at_ s0) := by
  refine KeepsR.after hm h_ ?_
  clear hm h_
  unfold execTlbInvalidateDone
  repeat' with_reducible first
    | assumption
    | exact Keeps.refl _ _
    | (show maskIn _ _ = true; decide)
    | apply State_setHif_keeps
    | apply State_toTick_keeps
    | apply keepsR_next
    | apply keeps_ite
    | apply keepsR_ite
    | apply keeps_ite2
    | apply keeps_foldl
    | apply keeps_foldl2
    | apply keeps_foldl3
    | intro _
    | dsimp only
    | (fail_if_no_progress (apply keeps_mk; on_goal 2 => (constructor <;> first | exact .inr (by decide) | exact .inl rfl)))
    | split

theorem State_setDch_keeps {m_ : Nat} (hm : maskIn 128 m_ = true) {s_ s : State} (h_ : Keeps m_ s_ s) (c : Nat) (v : DmaCh) : Keeps m_ s_ (State.setDch s c v) := by
  refine Keeps.after hm h_ ?_
  clear hm h_
  unfold State.setDch
  repeat' with_reducible first
    | assumption
    | exact Keeps.refl _ _
    | (show maskIn _ _ = true; decide)
    | apply State_setHif_keeps
    | apply keepsR_next
    | apply keeps_ite
    | apply keepsR_ite
    | apply keeps_ite2
    | apply keeps_foldl
    | apply keeps_foldl2
    | apply keeps_foldl3
    | intro _
    | dsimp only
    | (fail_if_no_progress (apply keeps_mk; on_goal 2 => (constructor <;> first | exact .inr (by decide) | exact .inl rfl)))
    | split

theorem execDmaDoorbell_keeps {m_ : Nat} (hm : maskIn 2 m_ = true) {s_ s : State} (h_ : Keeps m_ s_ s) (c : Fin 128) (w : Word) : KeepsR m_ s_ (execDmaDoorbell c w s) := by
  refine KeepsR.after hm h_ ?_
  clear hm h_
  unfold execDmaDoorbell
  repeat' with_reducible first
    | assumption
    | exact Keeps.refl _ _
    | (show maskIn _ _ = true; decide)
    | apply setReg_keeps
    | apply keepsR_next
    | apply keeps_ite
    | apply keepsR_ite
    | apply keeps_ite2
    | apply keeps_foldl
    | apply keeps_foldl2
    | apply keeps_foldl3
    | intro _
    | dsimp only
    | (fail_if_no_progress (apply keeps_mk; on_goal 2 => (constructor <;> first | exact .inr (by decide) | exact .inl rfl)))
    | split

theorem State_dmaOut_keeps {m_ : Nat} (hm : maskIn 130 m_ = true) {s_ : State} (host : HostMem) (asid base : Nat) : ∀ (fuel : Nat) {s : State} (_ : Keeps m_ s_ s) (off : Nat)
    (bs : List Byte) (acc : List (Nat × Nat × List Byte)), Keeps m_ s_ (State.dmaOut s host asid base fuel off bs acc).2
  | 0, _, h, _, _, _ => h
  | fuel + 1, s, h, off, bs, acc => by
    have ht := State_translate_keeps (maskIn_trans (by decide) hm) h host asid (base + off) true
    unfold State.dmaOut
    dsimp only
    split
    · exact h
    · split
      · rename_i heq
        rw [heq] at ht; exact ht
      · rename_i heq
        rw [heq] at ht
        exact State_dmaOut_keeps hm host asid base fuel ht _ _ _

theorem State_dmaIn_keeps {m_ : Nat} (hm : maskIn 130 m_ = true) {s_ : State} (host : HostMem) (asid base : Nat) : ∀ (fuel : Nat) {s : State} (_ : Keeps m_ s_ s) (off left : Nat)
    (acc : List Byte), Keeps m_ s_ (State.dmaIn s host asid base fuel off left acc).2
  | 0, _, h, _, _, _ => h
  | fuel + 1, s, h, off, left, acc => by
    have ht := State_translate_keeps (maskIn_trans (by decide) hm) h host asid (base + off) false
    unfold State.dmaIn
    dsimp only
    split
    · exact h
    · split
      · rename_i heq
        rw [heq] at ht; exact ht
      · rename_i heq
        rw [heq] at ht
        split
        · exact ht
        · exact State_dmaIn_keeps hm host asid base fuel ht _ _ _

theorem State_descRun_keeps {m_ : Nat} (hm : maskIn 128 m_ = true) {s_ s : State} (h_ : Keeps m_ s_ s) (c : Nat) (d : Descriptor) (status : Nat) (progress : Nat) (time : Nat) (writes : List (Nat × Nat × List Byte)) : Keeps m_ s_ (State.descRun s c d status progress time writes) := by
  refine Keeps.after hm h_ ?_
  clear hm h_
  unfold State.descRun
  repeat' with_reducible first
    | assumption
    | exact Keeps.refl _ _
    | (show maskIn _ _ = true; decide)
    | apply State_setDch_keeps
    | apply keepsR_next
    | apply keeps_ite
    | apply keepsR_ite
    | apply keeps_ite2
    | apply keeps_foldl
    | apply keeps_foldl2
    | apply keeps_foldl3
    | intro _
    | dsimp only
    | (fail_if_no_progress (apply keeps_mk; on_goal 2 => (constructor <;> first | exact .inr (by decide) | exact .inl rfl)))
    | split

theorem State_storeBytes_keeps {m_ : Nat} (hm : maskIn 16 m_ = true) {s_ s : State} (h_ : Keeps m_ s_ s) (a : Nat) (n : Nat) : Keeps m_ s_ (State.storeBytes s a n).2.2 := by
  refine Keeps.after hm h_ ?_
  clear hm h_
  unfold State.storeBytes
  repeat' with_reducible first
    | assumption
    | exact Keeps.refl _ _
    | (show maskIn _ _ = true; decide)
    | apply State_freeBytes_keeps
    | apply keepsR_next
    | apply keeps_ite
    | apply keepsR_ite
    | apply keeps_ite2
    | apply keeps_foldl
    | apply keeps_foldl2
    | apply keeps_foldl3
    | intro _
    | dsimp only
    | (fail_if_no_progress (apply keeps_mk; on_goal 2 => (constructor <;> first | exact .inr (by decide) | exact .inl rfl)))
    | split

theorem execStoreRead_keeps {m_ : Nat} (hm : maskIn 146 m_ = true) {s_ s : State} (h_ : Keeps m_ s_ s) (c : Fin 128) (d : Descriptor) (host : HostMem) : KeepsR m_ s_ (execStoreRead c d host s) := by
  refine KeepsR.after hm h_ ?_
  clear hm h_
  unfold execStoreRead
  repeat' with_reducible first
    | assumption
    | exact Keeps.refl _ _
    | (show maskIn _ _ = true; decide)
    | apply State_descRun_keeps
    | apply State_dmaOut_keeps
    | apply State_storeBytes_keeps
    | apply keepsR_next
    | apply keeps_ite
    | apply keepsR_ite
    | apply keeps_ite2
    | apply keeps_foldl
    | apply keeps_foldl2
    | apply keeps_foldl3
    | intro _
    | dsimp only
    | (fail_if_no_progress (apply keeps_mk; on_goal 2 => (constructor <;> first | exact .inr (by decide) | exact .inl rfl)))
    | split

theorem State_windowBBytes_keeps {m_ : Nat} (hm : maskIn 16 m_ = true) {s_ s : State} (h_ : Keeps m_ s_ s) (off : Nat) (n : Nat) : Keeps m_ s_ (State.windowBBytes s off n).2 := by
  refine Keeps.after hm h_ ?_
  clear hm h_
  unfold State.windowBBytes
  repeat' with_reducible first
    | assumption
    | exact Keeps.refl _ _
    | (show maskIn _ _ = true; decide)
    | apply State_storeBytes_keeps
    | apply keepsR_next
    | apply keeps_ite
    | apply keepsR_ite
    | apply keeps_ite2
    | apply keeps_foldl
    | apply keeps_foldl2
    | apply keeps_foldl3
    | intro _
    | dsimp only
    | (fail_if_no_progress (apply keeps_mk; on_goal 2 => (constructor <;> first | exact .inr (by decide) | exact .inl rfl)))
    | split

theorem State_captureOut_keeps {m_ : Nat} (hm : maskIn 130 m_ = true) {s_ s : State} (h_ : Keeps m_ s_ s) (c : Nat) (r0 : DescRun) (host : HostMem) (units : List (Option (List Byte))) (overrunAt : Option Nat) (time : Nat) : Keeps m_ s_ (State.captureOut s c r0 host units overrunAt time).2 := by
  refine Keeps.after hm h_ ?_
  clear hm h_
  unfold State.captureOut
  repeat' with_reducible first
    | assumption
    | exact Keeps.refl _ _
    | (show maskIn _ _ = true; decide)
    | apply State_dmaOut_keeps
    | apply keepsR_next
    | apply keeps_ite
    | apply keepsR_ite
    | apply keeps_ite2
    | apply keeps_foldl
    | apply keeps_foldl2
    | apply keeps_foldl3
    | intro _
    | dsimp only
    | (fail_if_no_progress (apply keeps_mk; on_goal 2 => (constructor <;> first | exact .inr (by decide) | exact .inl rfl)))
    | split

theorem State_capBegins_keeps {m_ : Nat} (hm : maskIn 128 m_ = true) {s_ s : State} (h_ : Keeps m_ s_ s) (c : Nat) (d : Descriptor) (cp : CapRun) : Keeps m_ s_ (State.capBegins s c d cp) := by
  refine Keeps.after hm h_ ?_
  clear hm h_
  unfold State.capBegins
  repeat' with_reducible first
    | assumption
    | exact Keeps.refl _ _
    | (show maskIn _ _ = true; decide)
    | apply State_descRun_keeps
    | apply State_setDch_keeps
    | apply keepsR_next
    | apply keeps_ite
    | apply keepsR_ite
    | apply keeps_ite2
    | apply keeps_foldl
    | apply keeps_foldl2
    | apply keeps_foldl3
    | intro _
    | dsimp only
    | (fail_if_no_progress (apply keeps_mk; on_goal 2 => (constructor <;> first | exact .inr (by decide) | exact .inl rfl)))
    | split

theorem execCaptureVideo_keeps {m_ : Nat} (hm : maskIn 128 m_ = true) {s_ s : State} (h_ : Keeps m_ s_ s) (c : Fin 128) (d : Descriptor) (host : HostMem) (overrunAt : Option Nat) : KeepsR m_ s_ (execCaptureVideo c d host overrunAt s) := by
  refine KeepsR.after hm h_ ?_
  clear hm h_
  unfold execCaptureVideo
  repeat' with_reducible first
    | assumption
    | exact Keeps.refl _ _
    | (show maskIn _ _ = true; decide)
    | apply State_capBegins_keeps
    | apply State_descRun_keeps
    | apply keepsR_next
    | apply keeps_ite
    | apply keepsR_ite
    | apply keeps_ite2
    | apply keeps_foldl
    | apply keeps_foldl2
    | apply keeps_foldl3
    | intro _
    | dsimp only
    | (fail_if_no_progress (apply keeps_mk; on_goal 2 => (constructor <;> first | exact .inr (by decide) | exact .inl rfl)))
    | split

theorem execCaptureAudio_keeps {m_ : Nat} (hm : maskIn 128 m_ = true) {s_ s : State} (h_ : Keeps m_ s_ s) (c : Fin 128) (d : Descriptor) (host : HostMem) (overrunAt : Option Nat) : KeepsR m_ s_ (execCaptureAudio c d host overrunAt s) := by
  refine KeepsR.after hm h_ ?_
  clear hm h_
  unfold execCaptureAudio
  repeat' with_reducible first
    | assumption
    | exact Keeps.refl _ _
    | (show maskIn _ _ = true; decide)
    | apply State_capBegins_keeps
    | apply State_descRun_keeps
    | apply keepsR_next
    | apply keeps_ite
    | apply keepsR_ite
    | apply keeps_ite2
    | apply keeps_foldl
    | apply keeps_foldl2
    | apply keeps_foldl3
    | intro _
    | dsimp only
    | (fail_if_no_progress (apply keeps_mk; on_goal 2 => (constructor <;> first | exact .inr (by decide) | exact .inl rfl)))
    | split

theorem execMeterSnapshot_keeps {m_ : Nat} (hm : maskIn 130 m_ = true) {s_ s : State} (h_ : Keeps m_ s_ s) (c : Fin 128) (d : Descriptor) (host : HostMem) : KeepsR m_ s_ (execMeterSnapshot c d host s) := by
  refine KeepsR.after hm h_ ?_
  clear hm h_
  unfold execMeterSnapshot
  repeat' with_reducible first
    | assumption
    | exact Keeps.refl _ _
    | (show maskIn _ _ = true; decide)
    | apply State_captureOut_keeps
    | apply State_descRun_keeps
    | apply State_setDch_keeps
    | apply keepsR_next
    | apply keeps_ite
    | apply keepsR_ite
    | apply keeps_ite2
    | apply keeps_foldl
    | apply keeps_foldl2
    | apply keeps_foldl3
    | intro _
    | dsimp only
    | (fail_if_no_progress (apply keeps_mk; on_goal 2 => (constructor <;> first | exact .inr (by decide) | exact .inl rfl)))
    | split

theorem execInsertAnc_keeps {m_ : Nat} (hm : maskIn 130 m_ = true) {s_ s : State} (h_ : Keeps m_ s_ s) (c : Fin 128) (d : Descriptor) (host : HostMem) : KeepsR m_ s_ (execInsertAnc c d host s) := by
  refine KeepsR.after hm h_ ?_
  clear hm h_
  unfold execInsertAnc
  repeat' with_reducible first
    | assumption
    | exact Keeps.refl _ _
    | (show maskIn _ _ = true; decide)
    | apply State_descRun_keeps
    | apply State_dmaIn_keeps
    | apply State_setDch_keeps
    | apply keepsR_next
    | apply keeps_ite
    | apply keepsR_ite
    | apply keeps_ite2
    | apply keeps_foldl
    | apply keeps_foldl2
    | apply keeps_foldl3
    | intro _
    | dsimp only
    | (fail_if_no_progress (apply keeps_mk; on_goal 2 => (constructor <;> first | exact .inr (by decide) | exact .inl rfl)))
    | split

theorem State_insertNow_keeps {m_ : Nat} (hm : maskIn 1024 m_ = true) {s_ s : State} (h_ : Keeps m_ s_ s) (r : DescRun) : Keeps m_ s_ (State.insertNow s r).2 := by
  refine Keeps.after hm h_ ?_
  clear hm h_
  unfold State.insertNow
  repeat' with_reducible first
    | assumption
    | exact Keeps.refl _ _
    | (show maskIn _ _ = true; decide)
    | apply State_setOut_keeps
    | apply keepsR_next
    | apply keeps_ite
    | apply keepsR_ite
    | apply keeps_ite2
    | apply keeps_foldl
    | apply keeps_foldl2
    | apply keeps_foldl3
    | intro _
    | dsimp only
    | (fail_if_no_progress (apply keeps_mk; on_goal 2 => (constructor <;> first | exact .inr (by decide) | exact .inl rfl)))
    | split

theorem State_descDone_keeps {m_ : Nat} (hm : maskIn 657295 m_ = true) {s_ s : State} (h_ : Keeps m_ s_ s) (c : Nat) (r : DescRun) (status : Nat) (progress : Nat) : Keeps m_ s_ (State.descDone s c r status progress) := by
  refine Keeps.after hm h_ ?_
  clear hm h_
  unfold State.descDone
  repeat' with_reducible first
    | assumption
    | exact Keeps.refl _ _
    | (show maskIn _ _ = true; decide)
    | apply State_emit_keeps
    | apply State_raise_keeps
    | apply State_report_keeps
    | apply State_setDch_keeps
    | apply State_signal_keeps
    | apply keepsR_next
    | apply keeps_ite
    | apply keepsR_ite
    | apply keeps_ite2
    | apply keeps_foldl
    | apply keeps_foldl2
    | apply keeps_foldl3
    | intro _
    | dsimp only
    | (fail_if_no_progress (apply keeps_mk; on_goal 2 => (constructor <;> first | exact .inr (by decide) | exact .inl rfl)))
    | split

theorem execDescriptorComplete_keeps {m_ : Nat} (hm : maskIn 657295 m_ = true) {s_ s : State} (h_ : Keeps m_ s_ s) (c : Fin 128) : KeepsR m_ s_ (execDescriptorComplete c s) := by
  refine KeepsR.after hm h_ ?_
  clear hm h_
  unfold execDescriptorComplete
  repeat' with_reducible first
    | assumption
    | exact Keeps.refl _ _
    | (show maskIn _ _ = true; decide)
    | apply State_captureOut_keeps
    | apply State_descDone_keeps
    | apply State_insertNow_keeps
    | apply keepsR_next
    | apply keeps_ite
    | apply keepsR_ite
    | apply keeps_ite2
    | apply keeps_foldl
    | apply keeps_foldl2
    | apply keeps_foldl3
    | intro _
    | dsimp only
    | (fail_if_no_progress (apply keeps_mk; on_goal 2 => (constructor <;> first | exact .inr (by decide) | exact .inl rfl)))
    | split

theorem State_chanOff_keeps {m_ : Nat} (hm : maskIn 657295 m_ = true) {s_ s : State} (h_ : Keeps m_ s_ s) (c : Nat) (progress : Nat) : Keeps m_ s_ (State.chanOff s c progress) := by
  refine Keeps.after hm h_ ?_
  clear hm h_
  unfold State.chanOff
  repeat' with_reducible first
    | assumption
    | exact Keeps.refl _ _
    | (show maskIn _ _ = true; decide)
    | apply State_captureOut_keeps
    | apply State_descDone_keeps
    | apply State_setDch_keeps
    | apply setReg_keeps
    | apply keepsR_next
    | apply keeps_ite
    | apply keepsR_ite
    | apply keeps_ite2
    | apply keeps_foldl
    | apply keeps_foldl2
    | apply keeps_foldl3
    | intro _
    | dsimp only
    | (fail_if_no_progress (apply keeps_mk; on_goal 2 => (constructor <;> first | exact .inr (by decide) | exact .inl rfl)))
    | split

theorem execDmaChannelDisable_keeps {m_ : Nat} (hm : maskIn 657295 m_ = true) {s_ s : State} (h_ : Keeps m_ s_ s) (c : Fin 128) (progress : Word) : KeepsR m_ s_ (execDmaChannelDisable c progress s) := by
  refine KeepsR.after hm h_ ?_
  clear hm h_
  unfold execDmaChannelDisable
  repeat' with_reducible first
    | assumption
    | exact Keeps.refl _ _
    | (show maskIn _ _ = true; decide)
    | apply State_chanOff_keeps
    | apply keepsR_next
    | apply keeps_ite
    | apply keepsR_ite
    | apply keeps_ite2
    | apply keeps_foldl
    | apply keeps_foldl2
    | apply keeps_foldl3
    | intro _
    | dsimp only
    | (fail_if_no_progress (apply keeps_mk; on_goal 2 => (constructor <;> first | exact .inr (by decide) | exact .inl rfl)))
    | split

theorem execDmaResume_keeps {m_ : Nat} (hm : maskIn 128 m_ = true) {s_ s : State} (h_ : Keeps m_ s_ s) (c : Fin 128) : KeepsR m_ s_ (execDmaResume c s) := by
  refine KeepsR.after hm h_ ?_
  clear hm h_
  unfold execDmaResume
  repeat' with_reducible first
    | assumption
    | exact Keeps.refl _ _
    | (show maskIn _ _ = true; decide)
    | apply State_setDch_keeps
    | apply keepsR_next
    | apply keeps_ite
    | apply keepsR_ite
    | apply keeps_ite2
    | apply keeps_foldl
    | apply keeps_foldl2
    | apply keeps_foldl3
    | intro _
    | dsimp only
    | (fail_if_no_progress (apply keeps_mk; on_goal 2 => (constructor <;> first | exact .inr (by decide) | exact .inl rfl)))
    | split

theorem State_setRing_keeps {m_ : Nat} (hm : maskIn 128 m_ = true) {s_ s : State} (h_ : Keeps m_ s_ s) (r : Nat) (v : RingSt) : Keeps m_ s_ (State.setRing s r v) := by
  refine Keeps.after hm h_ ?_
  clear hm h_
  unfold State.setRing
  repeat' with_reducible first
    | assumption
    | exact Keeps.refl _ _
    | (show maskIn _ _ = true; decide)
    | apply State_setHif_keeps
    | apply keepsR_next
    | apply keeps_ite
    | apply keepsR_ite
    | apply keeps_ite2
    | apply keeps_foldl
    | apply keeps_foldl2
    | apply keeps_foldl3
    | intro _
    | dsimp only
    | (fail_if_no_progress (apply keeps_mk; on_goal 2 => (constructor <;> first | exact .inr (by decide) | exact .inl rfl)))
    | split

theorem State_ringAdvance_keeps {m_ : Nat} (hm : maskIn 136 m_ = true) {s_ s : State} (h_ : Keeps m_ s_ s) (r : Nat) (n : Nat) : Keeps m_ s_ (State.ringAdvance s r n) := by
  refine Keeps.after hm h_ ?_
  clear hm h_
  unfold State.ringAdvance
  repeat' with_reducible first
    | assumption
    | exact Keeps.refl _ _
    | (show maskIn _ _ = true; decide)
    | apply State_setRing_keeps
    | apply State_signal_keeps
    | apply keepsR_next
    | apply keeps_ite
    | apply keepsR_ite
    | apply keeps_ite2
    | apply keeps_foldl
    | apply keeps_foldl2
    | apply keeps_foldl3
    | intro _
    | dsimp only
    | (fail_if_no_progress (apply keeps_mk; on_goal 2 => (constructor <;> first | exact .inr (by decide) | exact .inl rfl)))
    | split

theorem State_txStatus_keeps {m_ : Nat} (hm : maskIn 8 m_ = true) {s_ s : State} (h_ : Keeps m_ s_ s) (r : Nat) (desc : Nat) (st : Nat) : Keeps m_ s_ (State.txStatus s r desc st) := by
  refine Keeps.after hm h_ ?_
  clear hm h_
  unfold State.txStatus
  repeat' with_reducible first
    | assumption
    | exact Keeps.refl _ _
    | (show maskIn _ _ = true; decide)
    | apply State_emit_keeps
    | apply keepsR_next
    | apply keeps_ite
    | apply keepsR_ite
    | apply keeps_ite2
    | apply keeps_foldl
    | apply keeps_foldl2
    | apply keeps_foldl3
    | intro _
    | dsimp only
    | (fail_if_no_progress (apply keeps_mk; on_goal 2 => (constructor <;> first | exact .inr (by decide) | exact .inl rfl)))
    | split

theorem State_txDone_keeps {m_ : Nat} (hm : maskIn 136 m_ = true) {s_ s : State} (h_ : Keeps m_ s_ s) (r : Nat) (desc : Nat) (st : Nat) : Keeps m_ s_ (State.txDone s r desc st) := by
  refine Keeps.after hm h_ ?_
  clear hm h_
  unfold State.txDone
  repeat' with_reducible first
    | assumption
    | exact Keeps.refl _ _
    | (show maskIn _ _ = true; decide)
    | apply State_ringAdvance_keeps
    | apply State_setRing_keeps
    | apply State_txStatus_keeps
    | apply keepsR_next
    | apply keeps_ite
    | apply keepsR_ite
    | apply keeps_ite2
    | apply keeps_foldl
    | apply keeps_foldl2
    | apply keeps_foldl3
    | intro _
    | dsimp only
    | (fail_if_no_progress (apply keeps_mk; on_goal 2 => (constructor <;> first | exact .inr (by decide) | exact .inl rfl)))
    | split

theorem State_txFrame_keeps {m_ : Nat} (hm : maskIn 16520 m_ = true) {s_ s : State} (h_ : Keeps m_ s_ s) (r : Nat) (f : TxFrame) : Keeps m_ s_ (State.txFrame s r f) := by
  refine Keeps.after hm h_ ?_
  clear hm h_
  unfold State.txFrame
  repeat' with_reducible first
    | assumption
    | exact Keeps.refl _ _
    | (show maskIn _ _ = true; decide)
    | apply State_setEth_keeps
    | apply State_setRing_keeps
    | apply State_txDone_keeps
    | apply keepsR_next
    | apply keeps_ite
    | apply keepsR_ite
    | apply keeps_ite2
    | apply keeps_foldl
    | apply keeps_foldl2
    | apply keeps_foldl3
    | intro _
    | dsimp only
    | (fail_if_no_progress (apply keeps_mk; on_goal 2 => (constructor <;> first | exact .inr (by decide) | exact .inl rfl)))
    | split

theorem execTxRingDoorbell_keeps {m_ : Nat} (hm : maskIn 16522 m_ = true) {s_ s : State} (h_ : Keeps m_ s_ s) (r : Fin 64) (w : Word) (frames : List TxFrame) : KeepsR m_ s_ (execTxRingDoorbell r w frames s) := by
  refine KeepsR.after hm h_ ?_
  clear hm h_
  unfold execTxRingDoorbell
  repeat' with_reducible first
    | assumption
    | exact Keeps.refl _ _
    | (show maskIn _ _ = true; decide)
    | apply State_txFrame_keeps
    | apply setReg_keeps
    | apply keepsR_next
    | apply keeps_ite
    | apply keepsR_ite
    | apply keeps_ite2
    | apply keeps_foldl
    | apply keeps_foldl2
    | apply keeps_foldl3
    | intro _
    | dsimp only
    | (fail_if_no_progress (apply keeps_mk; on_goal 2 => (constructor <;> first | exact .inr (by decide) | exact .inl rfl)))
    | split

end Sys2Proof.Machine
end

