-- ==== Sys2Proof/Laws/KeepsEthRx.lean ====
section
/-! SUPPORT. EthRx: what every operation keeps. -/

namespace Sys2Proof.Machine

theorem State_ringFrame_keeps {m_ : Nat} (hm : maskIn 1930 m_ = true) {s_ s : State} (h_ : Keeps m_ s_ s) (r : Nat) (p : Nat) (cls : Nat) (flags : Nat) (tci : Nat) (stamp : Nat) (bytes : List Byte) (bufs : List (Nat × Nat × Nat)) : Keeps m_ s_ (State.ringFrame s r p cls flags tci stamp bytes bufs) := by
  refine Keeps.after hm h_ ?_
  clear hm h_
  unfold State.ringFrame
  repeat' with_reducible first
    | assumption
    | exact Keeps.refl _ _
    | (show maskIn _ _ = true; decide)
    | apply State_countSecond_keeps
    | apply State_emit_keeps
    | apply State_rcAdd_keeps
    | apply State_ringAdvance_keeps
    | apply keepsR_next
    | apply keeps_ite
    | apply keepsR_ite
    | apply keeps_ite2
    | apply keeps_foldl
    | apply keeps_foldl2
    | apply keeps_foldl3
    | intro _
    | dsimp only
    | (fail_if_no_progress (apply keeps_mk; on_goal 2 => (constructor <;> first | exact .inr (by decide) | exact .inl rfl)))
    | split

theorem State_punt_keeps {m_ : Nat} (hm : maskIn 18315 m_ = true) {s_ s : State} (h_ : Keeps m_ s_ s) (p : Nat) (cls : Nat) (flags : Nat) (tci : Nat) (bytes : List Byte) (bufs : List (Nat × Nat × Nat)) : Keeps m_ s_ (State.punt s p cls flags tci bytes bufs) := by
  refine Keeps.after hm h_ ?_
  clear hm h_
  unfold State.punt
  repeat' with_reducible first
    | assumption
    | exact Keeps.refl _ _
    | (show maskIn _ _ = true; decide)
    | apply State_bump_keeps
    | apply State_countSecond_keeps
    | apply State_ringFrame_keeps
    | apply State_setBit_keeps
    | apply State_setEth_keeps
    | apply keepsR_next
    | apply keeps_ite
    | apply keepsR_ite
    | apply keeps_ite2
    | apply keeps_foldl
    | apply keeps_foldl2
    | apply keeps_foldl3
    | intro _
    | dsimp only
    | (fail_if_no_progress (apply keeps_mk; on_goal 2 => (constructor <;> first | exact .inr (by decide) | exact .inl rfl)))
    | split

theorem State_ctxPresent_keeps {m_ : Nat} (hm : maskIn 33801 m_ = true) {s_ s : State} (h_ : Keeps m_ s_ s) (b : List Byte) : Keeps m_ s_ (State.ctxPresent s b) := by
  refine Keeps.after hm h_ ?_
  clear hm h_
  unfold State.ctxPresent
  repeat' with_reducible first
    | assumption
    | exact Keeps.refl _ _
    | (show maskIn _ _ = true; decide)
    | apply State_setPresents_keeps
    | apply State_slotReturn_keeps
    | apply keepsR_next
    | apply keeps_ite
    | apply keepsR_ite
    | apply keeps_ite2
    | apply keeps_foldl
    | apply keeps_foldl2
    | apply keeps_foldl3
    | intro _
    | dsimp only
    | (fail_if_no_progress (apply keeps_mk; on_goal 2 => (constructor <;> first | exact .inr (by decide) | exact .inl rfl)))
    | split

theorem State_rowEnter_keeps {m_ : Nat} (hm : maskIn 51083 m_ = true) {s_ s : State} (h_ : Keeps m_ s_ s) (r : Nat) (i : Nat) (parts : List (Nat × List Byte)) : Keeps m_ s_ (State.rowEnter s r i parts) := by
  refine Keeps.after hm h_ ?_
  clear hm h_
  unfold State.rowEnter
  repeat' with_reducible first
    | assumption
    | exact Keeps.refl _ _
    | (show maskIn _ _ = true; decide)
    | apply State_ctxPresent_keeps
    | apply State_enterLine_keeps
    | apply State_setRx_keeps
    | apply keepsR_next
    | apply keeps_ite
    | apply keepsR_ite
    | apply keeps_ite2
    | apply keeps_foldl
    | apply keeps_foldl2
    | apply keeps_foldl3
    | intro _
    | dsimp only
    | (fail_if_no_progress (apply keeps_mk; on_goal 2 => (constructor <;> first | exact .inr (by decide) | exact .inl rfl)))
    | split

theorem State_rowClose_keeps {m_ : Nat} (hm : maskIn 51083 m_ = true) {s_ s : State} (h_ : Keeps m_ s_ s) (r : Nat) : Keeps m_ s_ (State.rowClose s r) := by
  refine Keeps.after hm h_ ?_
  clear hm h_
  unfold State.rowClose
  repeat' with_reducible first
    | assumption
    | exact Keeps.refl _ _
    | (show maskIn _ _ = true; decide)
    | apply State_rowEnter_keeps
    | apply keepsR_next
    | apply keeps_ite
    | apply keepsR_ite
    | apply keeps_ite2
    | apply keeps_foldl
    | apply keeps_foldl2
    | apply keeps_foldl3
    | intro _
    | dsimp only
    | (fail_if_no_progress (apply keeps_mk; on_goal 2 => (constructor <;> first | exact .inr (by decide) | exact .inl rfl)))
    | split

theorem State_rowsLost_keeps {m_ : Nat} (hm : maskIn 51083 m_ = true) {s_ s : State} (h_ : Keeps m_ s_ s) (r : Nat) (i : Nat) : Keeps m_ s_ (State.rowsLost s r i) := by
  refine Keeps.after hm h_ ?_
  clear hm h_
  unfold State.rowsLost
  repeat' with_reducible first
    | assumption
    | exact Keeps.refl _ _
    | (show maskIn _ _ = true; decide)
    | apply State_rowEnter_keeps
    | apply keepsR_next
    | apply keeps_ite
    | apply keepsR_ite
    | apply keeps_ite2
    | apply keeps_foldl
    | apply keeps_foldl2
    | apply keeps_foldl3
    | intro _
    | dsimp only
    | (fail_if_no_progress (apply keeps_mk; on_goal 2 => (constructor <;> first | exact .inr (by decide) | exact .inl rfl)))
    | split

theorem State_frameBegins_keeps {m_ : Nat} (hm : maskIn 51083 m_ = true) {s_ s : State} (h_ : Keeps m_ s_ s) (r : Nat) (ts : Nat) (i : Nat) : Keeps m_ s_ (State.frameBegins s r ts i) := by
  refine Keeps.after hm h_ ?_
  clear hm h_
  unfold State.frameBegins
  repeat' with_reducible first
    | assumption
    | exact Keeps.refl _ _
    | (show maskIn _ _ = true; decide)
    | apply State_enterLineAt_keeps
    | apply State_setRx_keeps
    | apply State_setSlot_keeps
    | apply keepsR_next
    | apply keeps_ite
    | apply keepsR_ite
    | apply keeps_ite2
    | apply keeps_foldl
    | apply keeps_foldl2
    | apply keeps_foldl3
    | intro _
    | dsimp only
    | (fail_if_no_progress (apply keeps_mk; on_goal 2 => (constructor <;> first | exact .inr (by decide) | exact .inl rfl)))
    | split

theorem State_videoRow_keeps {m_ : Nat} (hm : maskIn 51083 m_ = true) {s_ s : State} (h_ : Keeps m_ s_ s) (r : Nat) (ts : Nat) (row : Nat × Nat × List Byte) : Keeps m_ s_ (State.videoRow s r ts row) := by
  refine Keeps.after hm h_ ?_
  clear hm h_
  unfold State.videoRow
  repeat' with_reducible first
    | assumption
    | exact Keeps.refl _ _
    | (show maskIn _ _ = true; decide)
    | apply State_frameBegins_keeps
    | apply State_rowClose_keeps
    | apply State_rowsLost_keeps
    | apply State_setRx_keeps
    | apply keepsR_next
    | apply keeps_ite
    | apply keepsR_ite
    | apply keeps_ite2
    | apply keeps_foldl
    | apply keeps_foldl2
    | apply keeps_foldl3
    | intro _
    | dsimp only
    | (fail_if_no_progress (apply keeps_mk; on_goal 2 => (constructor <;> first | exact .inr (by decide) | exact .inl rfl)))
    | split

theorem State_videoPacket_keeps {m_ : Nat} (hm : maskIn 51083 m_ = true) {s_ s : State} (h_ : Keeps m_ s_ s) (p : Nat) (r : Nat) (ts : Nat) (rows : List (Nat × Nat × List Byte)) : Keeps m_ s_ (State.videoPacket s p r ts rows) := by
  refine Keeps.after hm h_ ?_
  clear hm h_
  unfold State.videoPacket
  repeat' with_reducible first
    | assumption
    | exact Keeps.refl _ _
    | (show maskIn _ _ = true; decide)
    | apply State_countSecond_keeps
    | apply State_setBit_keeps
    | apply State_setRx_keeps
    | apply State_videoRow_keeps
    | apply keepsR_next
    | apply keeps_ite
    | apply keepsR_ite
    | apply keeps_ite2
    | apply keeps_foldl
    | apply keeps_foldl2
    | apply keeps_foldl3
    | intro _
    | dsimp only
    | (fail_if_no_progress (apply keeps_mk; on_goal 2 => (constructor <;> first | exact .inr (by decide) | exact .inl rfl)))
    | split

theorem State_flowBlock_keeps {m_ : Nat} (hm : maskIn 17408 m_ = true) {s_ s : State} (h_ : Keeps m_ s_ s) (r : Nat) (n : Nat) (c : Nat) : Keeps m_ s_ (State.flowBlock s r n c) := by
  refine Keeps.after hm h_ ?_
  clear hm h_
  unfold State.flowBlock
  repeat' with_reducible first
    | assumption
    | exact Keeps.refl _ _
    | (show maskIn _ _ = true; decide)
    | apply State_setChan_keeps
    | apply State_setRx_keeps
    | apply keepsR_next
    | apply keeps_ite
    | apply keepsR_ite
    | apply keeps_ite2
    | apply keeps_foldl
    | apply keeps_foldl2
    | apply keeps_foldl3
    | intro _
    | dsimp only
    | (fail_if_no_progress (apply keeps_mk; on_goal 2 => (constructor <;> first | exact .inr (by decide) | exact .inl rfl)))
    | split

theorem State_flowSample_keeps {m_ : Nat} (hm : maskIn 17409 m_ = true) {s_ s : State} (h_ : Keeps m_ s_ s) (r : Nat) (n : Nat) (c : Nat) (depth : Nat) (t : Nat) (w : Nat) : Keeps m_ s_ (State.flowSample s r n c depth t w) := by
  refine Keeps.after hm h_ ?_
  clear hm h_
  unfold State.flowSample
  repeat' with_reducible first
    | assumption
    | exact Keeps.refl _ _
    | (show maskIn _ _ = true; decide)
    | apply State_enterSample_keeps
    | apply State_flowBlock_keeps
    | apply State_setRx_keeps
    | apply keepsR_next
    | apply keeps_ite
    | apply keepsR_ite
    | apply keeps_ite2
    | apply keeps_foldl
    | apply keeps_foldl2
    | apply keeps_foldl3
    | intro _
    | dsimp only
    | (fail_if_no_progress (apply keeps_mk; on_goal 2 => (constructor <;> first | exact .inr (by decide) | exact .inl rfl)))
    | split

theorem State_audioPacket_keeps {m_ : Nat} (hm : maskIn 50185 m_ = true) {s_ s : State} (h_ : Keeps m_ s_ s) (r : Nat) (ts : Nat) (gap : Nat) (samples : List (List Nat)) : Keeps m_ s_ (State.audioPacket s r ts gap samples) := by
  refine Keeps.after hm h_ ?_
  clear hm h_
  unfold State.audioPacket
  repeat' with_reducible first
    | assumption
    | exact Keeps.refl _ _
    | (show maskIn _ _ = true; decide)
    | apply State_ctxPresent_keeps
    | apply State_enterSample_keeps
    | apply State_flowSample_keeps
    | apply State_setRx_keeps
    | apply keepsR_next
    | apply keeps_ite
    | apply keepsR_ite
    | apply keeps_ite2
    | apply keeps_foldl
    | apply keeps_foldl2
    | apply keeps_foldl3
    | intro _
    | dsimp only
    | (fail_if_no_progress (apply keeps_mk; on_goal 2 => (constructor <;> first | exact .inr (by decide) | exact .inl rfl)))
    | split

theorem State_ancLimit_keeps {m_ : Nat} (hm : maskIn 1931 m_ = true) {s_ s : State} (h_ : Keeps m_ s_ s) (p : Nat) (n : Nat) (st : Nat) (pkts : List AncPkt) : Keeps m_ s_ (State.ancLimit s p n st pkts).2 := by
  refine Keeps.after hm h_ ?_
  clear hm h_
  unfold State.ancLimit
  repeat' with_reducible first
    | assumption
    | exact Keeps.refl _ _
    | (show maskIn _ _ = true; decide)
    | apply State_ancFits_keeps
    | apply State_bump_keeps
    | apply State_oncePerSecond_keeps
    | apply State_setBit_keeps
    | apply keepsR_next
    | apply keeps_ite
    | apply keepsR_ite
    | apply keeps_ite2
    | apply keeps_foldl
    | apply keeps_foldl2
    | apply keeps_foldl3
    | intro _
    | dsimp only
    | (fail_if_no_progress (apply keeps_mk; on_goal 2 => (constructor <;> first | exact .inr (by decide) | exact .inl rfl)))
    | split

theorem State_ancBad_keeps {m_ : Nat} (hm : maskIn 1 m_ = true) {s_ s : State} (h_ : Keeps m_ s_ s) (p : Nat) (pkts : List AncPkt) : Keeps m_ s_ (State.ancBad s p pkts) := by
  refine Keeps.after hm h_ ?_
  clear hm h_
  unfold State.ancBad
  repeat' with_reducible first
    | assumption
    | exact Keeps.refl _ _
    | (show maskIn _ _ = true; decide)
    | apply State_bump_keeps
    | apply keepsR_next
    | apply keeps_ite
    | apply keepsR_ite
    | apply keeps_ite2
    | apply keeps_foldl
    | apply keeps_foldl2
    | apply keeps_foldl3
    | intro _
    | dsimp only
    | (fail_if_no_progress (apply keeps_mk; on_goal 2 => (constructor <;> first | exact .inr (by decide) | exact .inl rfl)))
    | split

theorem State_ancPacket_keeps {m_ : Nat} (hm : maskIn 51083 m_ = true) {s_ s : State} (h_ : Keeps m_ s_ s) (r : Nat) (ts : Nat) (pkts : List AncPkt) : Keeps m_ s_ (State.ancPacket s r ts pkts) := by
  refine Keeps.after hm h_ ?_
  clear hm h_
  unfold State.ancPacket
  repeat' with_reducible first
    | assumption
    | exact Keeps.refl _ _
    | (show maskIn _ _ = true; decide)
    | apply State_ancBad_keeps
    | apply State_ancLimit_keeps
    | apply State_ctxPresent_keeps
    | apply State_setRx_keeps
    | apply State_setSlot_keeps
    | apply keepsR_next
    | apply keeps_ite
    | apply keepsR_ite
    | apply keeps_ite2
    | apply keeps_foldl
    | apply keeps_foldl2
    | apply keeps_foldl3
    | intro _
    | dsimp only
    | (fail_if_no_progress (apply keeps_mk; on_goal 2 => (constructor <;> first | exact .inr (by decide) | exact .inl rfl)))
    | split

theorem State_carriedBad_keeps {m_ : Nat} (hm : maskIn 51083 m_ = true) {s_ s : State} (h_ : Keeps m_ s_ s) (r : Nat) (line : Nat) : Keeps m_ s_ (State.carriedBad s r line) := by
  refine Keeps.after hm h_ ?_
  clear hm h_
  unfold State.carriedBad
  repeat' with_reducible first
    | assumption
    | exact Keeps.refl _ _
    | (show maskIn _ _ = true; decide)
    | apply State_enterLineAt_keeps
    | apply State_setRx_keeps
    | apply keepsR_next
    | apply keeps_ite
    | apply keepsR_ite
    | apply keeps_ite2
    | apply keeps_foldl
    | apply keeps_foldl2
    | apply keeps_foldl3
    | intro _
    | dsimp only
    | (fail_if_no_progress (apply keeps_mk; on_goal 2 => (constructor <;> first | exact .inr (by decide) | exact .inl rfl)))
    | split

theorem State_carriedLoss_keeps {m_ : Nat} (hm : maskIn 53131 m_ = true) {s_ s : State} (h_ : Keeps m_ s_ s) (r : Nat) (line : Nat) (change : Bool) : Keeps m_ s_ (State.carriedLoss s r line change) := by
  refine Keeps.after hm h_ ?_
  clear hm h_
  unfold State.carriedLoss
  repeat' with_reducible first
    | assumption
    | exact Keeps.refl _ _
    | (show maskIn _ _ = true; decide)
    | apply State_bump_keeps
    | apply State_pairsGone_keeps
    | apply State_raise_keeps
    | apply State_setPresents_keeps
    | apply State_setRx_keeps
    | apply keepsR_next
    | apply keeps_ite
    | apply keepsR_ite
    | apply keeps_ite2
    | apply keeps_foldl
    | apply keeps_foldl2
    | apply keeps_foldl3
    | intro _
    | dsimp only
    | (fail_if_no_progress (apply keeps_mk; on_goal 2 => (constructor <;> first | exact .inr (by decide) | exact .inl rfl)))
    | split

theorem State_carriedAudio_keeps {m_ : Nat} (hm : maskIn 19339 m_ = true) {s_ s : State} (h_ : Keeps m_ s_ s) (r : Nat) (l : SdiLine) : Keeps m_ s_ (State.carriedAudio s r l).2 := by
  refine Keeps.after hm h_ ?_
  clear hm h_
  unfold State.carriedAudio
  repeat' with_reducible first
    | assumption
    | exact Keeps.refl _ _
    | (show maskIn _ _ = true; decide)
    | apply State_bump_keeps
    | apply State_notePair_keeps
    | apply State_raise_keeps
    | apply State_setRx_keeps
    | apply State_throughAsrc_keeps
    | apply keepsR_next
    | apply keeps_ite
    | apply keepsR_ite
    | apply keeps_ite2
    | apply keeps_foldl
    | apply keeps_foldl2
    | apply keeps_foldl3
    | intro _
    | dsimp only
    | (fail_if_no_progress (apply keeps_mk; on_goal 2 => (constructor <;> first | exact .inr (by decide) | exact .inl rfl)))
    | split

theorem State_carriedFrame_keeps {m_ : Nat} (hm : maskIn 19339 m_ = true) {s_ s : State} (h_ : Keeps m_ s_ s) (r : Nat) : Keeps m_ s_ (State.carriedFrame s r) := by
  refine Keeps.after hm h_ ?_
  clear hm h_
  unfold State.carriedFrame
  repeat' with_reducible first
    | assumption
    | exact Keeps.refl _ _
    | (show maskIn _ _ = true; decide)
    | apply State_pairsGone_keeps
    | apply State_raise_keeps
    | apply State_setRx_keeps
    | apply keepsR_next
    | apply keeps_ite
    | apply keepsR_ite
    | apply keeps_ite2
    | apply keeps_foldl
    | apply keeps_foldl2
    | apply keeps_foldl3
    | intro _
    | dsimp only
    | (fail_if_no_progress (apply keeps_mk; on_goal 2 => (constructor <;> first | exact .inr (by decide) | exact .inl rfl)))
    | split

theorem State_carriedId_keeps {m_ : Nat} (hm : maskIn 17290 m_ = true) {s_ s : State} (h_ : Keeps m_ s_ s) (r : Nat) (l : SdiLine) : Keeps m_ s_ (State.carriedId s r l) := by
  refine Keeps.after hm h_ ?_
  clear hm h_
  unfold State.carriedId
  repeat' with_reducible first
    | assumption
    | exact Keeps.refl _ _
    | (show maskIn _ _ = true; decide)
    | apply State_raise_keeps
    | apply State_setRx_keeps
    | apply keepsR_next
    | apply keeps_ite
    | apply keepsR_ite
    | apply keeps_ite2
    | apply keeps_foldl
    | apply keeps_foldl2
    | apply keeps_foldl3
    | intro _
    | dsimp only
    | (fail_if_no_progress (apply keeps_mk; on_goal 2 => (constructor <;> first | exact .inr (by decide) | exact .inl rfl)))
    | split

theorem State_carriedErrors_keeps {m_ : Nat} (hm : maskIn 1931 m_ = true) {s_ s : State} (h_ : Keeps m_ s_ s) (r : Nat) (missed : Nat) (l : SdiLine) : Keeps m_ s_ (State.carriedErrors s r missed l) := by
  refine Keeps.after hm h_ ?_
  clear hm h_
  unfold State.carriedErrors
  repeat' with_reducible first
    | assumption
    | exact Keeps.refl _ _
    | (show maskIn _ _ = true; decide)
    | apply State_bump_keeps
    | apply State_secondErrors_keeps
    | apply keepsR_next
    | apply keeps_ite
    | apply keepsR_ite
    | apply keeps_ite2
    | apply keeps_foldl
    | apply keeps_foldl2
    | apply keeps_foldl3
    | intro _
    | dsimp only
    | (fail_if_no_progress (apply keeps_mk; on_goal 2 => (constructor <;> first | exact .inr (by decide) | exact .inl rfl)))
    | split

theorem State_carriedLine_keeps {m_ : Nat} (hm : maskIn 53131 m_ = true) {s_ s : State} (h_ : Keeps m_ s_ s) (r : Nat) (l : SdiLine) : Keeps m_ s_ (State.carriedLine s r l) := by
  refine Keeps.after hm h_ ?_
  clear hm h_
  unfold State.carriedLine
  repeat' with_reducible first
    | assumption
    | exact Keeps.refl _ _
    | (show maskIn _ _ = true; decide)
    | apply State_ancBad_keeps
    | apply State_ancLimit_keeps
    | apply State_carriedAudio_keeps
    | apply State_carriedBad_keeps
    | apply State_carriedErrors_keeps
    | apply State_carriedFrame_keeps
    | apply State_carriedId_keeps
    | apply State_carriedLoss_keeps
    | apply State_ctxPresent_keeps
    | apply State_enterLineAt_keeps
    | apply State_setRx_keeps
    | apply keepsR_next
    | apply keeps_ite
    | apply keepsR_ite
    | apply keeps_ite2
    | apply keeps_foldl
    | apply keeps_foldl2
    | apply keeps_foldl3
    | intro _
    | dsimp only
    | (fail_if_no_progress (apply keeps_mk; on_goal 2 => (constructor <;> first | exact .inr (by decide) | exact .inl rfl)))
    | split

theorem State_sdiPacket_keeps {m_ : Nat} (hm : maskIn 53131 m_ = true) {s_ s : State} (h_ : Keeps m_ s_ s) (r : Nat) (lines : List SdiLine) (lock : Option FormatSeen) : Keeps m_ s_ (State.sdiPacket s r lines lock) := by
  refine Keeps.after hm h_ ?_
  clear hm h_
  unfold State.sdiPacket
  repeat' with_reducible first
    | assumption
    | exact Keeps.refl _ _
    | (show maskIn _ _ = true; decide)
    | apply State_carriedLine_keeps
    | apply State_ctxPresent_keeps
    | apply State_setNum_keeps
    | apply State_setRx_keeps
    | apply State_slotReturn_keeps
    | apply keepsR_next
    | apply keeps_ite
    | apply keepsR_ite
    | apply keeps_ite2
    | apply keeps_foldl
    | apply keeps_foldl2
    | apply keeps_foldl3
    | intro _
    | dsimp only
    | (fail_if_no_progress (apply keeps_mk; on_goal 2 => (constructor <;> first | exact .inr (by decide) | exact .inl rfl)))
    | split

theorem State_flowTake_keeps {m_ : Nat} (hm : maskIn 53131 m_ = true) {s_ s : State} (h_ : Keeps m_ s_ s) (p : Nat) (r : Nat) (ts : Nat) (gap : Nat) (m : MediaPayload) : Keeps m_ s_ (State.flowTake s p r ts gap m) := by
  refine Keeps.after hm h_ ?_
  clear hm h_
  unfold State.flowTake
  repeat' with_reducible first
    | assumption
    | exact Keeps.refl _ _
    | (show maskIn _ _ = true; decide)
    | apply State_ancPacket_keeps
    | apply State_audioPacket_keeps
    | apply State_sdiPacket_keeps
    | apply State_setRx_keeps
    | apply State_videoPacket_keeps
    | apply keepsR_next
    | apply keeps_ite
    | apply keepsR_ite
    | apply keeps_ite2
    | apply keeps_foldl
    | apply keeps_foldl2
    | apply keeps_foldl3
    | intro _
    | dsimp only
    | (fail_if_no_progress (apply keeps_mk; on_goal 2 => (constructor <;> first | exact .inr (by decide) | exact .inl rfl)))
    | split

theorem State_flowLost_keeps {m_ : Nat} (hm : maskIn 18314 m_ = true) {s_ s : State} (h_ : Keeps m_ s_ s) (p : Nat) (r : Nat) (n : Nat) : Keeps m_ s_ (State.flowLost s p r n) := by
  refine Keeps.after hm h_ ?_
  clear hm h_
  unfold State.flowLost
  repeat' with_reducible first
    | assumption
    | exact Keeps.refl _ _
    | (show maskIn _ _ = true; decide)
    | apply State_countSecond_keeps
    | apply State_setBit_keeps
    | apply State_setRx_keeps
    | apply keepsR_next
    | apply keeps_ite
    | apply keepsR_ite
    | apply keeps_ite2
    | apply keeps_foldl
    | apply keeps_foldl2
    | apply keeps_foldl3
    | intro _
    | dsimp only
    | (fail_if_no_progress (apply keeps_mk; on_goal 2 => (constructor <;> first | exact .inr (by decide) | exact .inl rfl)))
    | split

theorem State_flowDrain_keeps {m_ : Nat} (hm : maskIn 53131 m_ = true) {s_ : State} : ∀ (fuel : Nat) {s : State} (_ : Keeps m_ s_ s) (p r gap : Nat),
    Keeps m_ s_ (State.flowDrain s p r fuel gap)
  | 0, _, h, _, _, _ => h
  | fuel + 1, s, h, p, r, gap => by
    unfold State.flowDrain
    dsimp only
    split
    · exact h
    · split
      · exact State_flowDrain_keeps hm fuel (State_setRx_keeps (maskIn_trans (by decide) hm) h _ _) p r _
      · split
        · exact h
        · exact State_flowDrain_keeps hm fuel (State_flowTake_keeps (maskIn_trans (by decide) hm) (State_setRx_keeps (maskIn_trans (by decide) hm) h _ _) _ _ _ _ _) p r _

theorem State_flowMerge_keeps {m_ : Nat} (hm : maskIn 53131 m_ = true) {s_ s : State} (h_ : Keeps m_ s_ s) (p : Nat) (r : Nat) (seq : Nat) (ts : Nat) (m : MediaPayload) : Keeps m_ s_ (State.flowMerge s p r seq ts m) := by
  refine Keeps.after hm h_ ?_
  clear hm h_
  unfold State.flowMerge
  repeat' with_reducible first
    | assumption
    | exact Keeps.refl _ _
    | (show maskIn _ _ = true; decide)
    | apply State_flowDrain_keeps
    | apply State_flowLost_keeps
    | apply State_flowTake_keeps
    | apply State_setRx_keeps
    | apply keepsR_next
    | apply keeps_ite
    | apply keepsR_ite
    | apply keeps_ite2
    | apply keeps_foldl
    | apply keeps_foldl2
    | apply keeps_foldl3
    | intro _
    | dsimp only
    | (fail_if_no_progress (apply keeps_mk; on_goal 2 => (constructor <;> first | exact .inr (by decide) | exact .inl rfl)))
    | split

theorem State_flowArrive_keeps {m_ : Nat} (hm : maskIn 53131 m_ = true) {s_ s : State} (h_ : Keeps m_ s_ s) (p : Nat) (r : Nat) (seq : Nat) (ts : Nat) (m : MediaPayload) : Keeps m_ s_ (State.flowArrive s p r seq ts m) := by
  refine Keeps.after hm h_ ?_
  clear hm h_
  unfold State.flowArrive
  repeat' with_reducible first
    | assumption
    | exact Keeps.refl _ _
    | (show maskIn _ _ = true; decide)
    | apply State_flowMerge_keeps
    | apply State_setRx_keeps
    | apply keepsR_next
    | apply keeps_ite
    | apply keepsR_ite
    | apply keeps_ite2
    | apply keeps_foldl
    | apply keeps_foldl2
    | apply keeps_foldl3
    | intro _
    | dsimp only
    | (fail_if_no_progress (apply keeps_mk; on_goal 2 => (constructor <;> first | exact .inr (by decide) | exact .inl rfl)))
    | split

theorem State_pairSkew_keeps {m_ : Nat} (hm : maskIn 18314 m_ = true) {s_ s : State} (h_ : Keeps m_ s_ s) (p : Nat) (a : Nat) (b : Nat) (ts : Nat) : Keeps m_ s_ (State.pairSkew s p a b ts) := by
  refine Keeps.after hm h_ ?_
  clear hm h_
  unfold State.pairSkew
  repeat' with_reducible first
    | assumption
    | exact Keeps.refl _ _
    | (show maskIn _ _ = true; decide)
    | apply State_oncePerSecond_keeps
    | apply State_setBit_keeps
    | apply State_setRx_keeps
    | apply keepsR_next
    | apply keeps_ite
    | apply keepsR_ite
    | apply keeps_ite2
    | apply keeps_foldl
    | apply keeps_foldl2
    | apply keeps_foldl3
    | intro _
    | dsimp only
    | (fail_if_no_progress (apply keeps_mk; on_goal 2 => (constructor <;> first | exact .inr (by decide) | exact .inl rfl)))
    | split

theorem State_flowPacket_keeps {m_ : Nat} (hm : maskIn 53131 m_ = true) {s_ s : State} (h_ : Keeps m_ s_ s) (p : Nat) (r : Nat) (h : RtpHdr) (m : MediaPayload) : Keeps m_ s_ (State.flowPacket s p r h m) := by
  refine Keeps.after hm h_ ?_
  clear hm h_
  unfold State.flowPacket
  repeat' with_reducible first
    | assumption
    | exact Keeps.refl _ _
    | (show maskIn _ _ = true; decide)
    | apply State_ethEvent_keeps
    | apply State_flowArrive_keeps
    | apply State_pairSkew_keeps
    | apply State_setRx_keeps
    | apply keepsR_next
    | apply keeps_ite
    | apply keepsR_ite
    | apply keeps_ite2
    | apply keeps_foldl
    | apply keeps_foldl2
    | apply keeps_foldl3
    | intro _
    | dsimp only
    | (fail_if_no_progress (apply keeps_mk; on_goal 2 => (constructor <;> first | exact .inr (by decide) | exact .inl rfl)))
    | split

theorem State_unmatched_keeps {m_ : Nat} (hm : maskIn 3 m_ = true) {s_ s : State} (h_ : Keeps m_ s_ s) (p : Nat) : Keeps m_ s_ (State.unmatched s p) := by
  refine Keeps.after hm h_ ?_
  clear hm h_
  unfold State.unmatched
  repeat' with_reducible first
    | assumption
    | exact Keeps.refl _ _
    | (show maskIn _ _ = true; decide)
    | apply State_bump_keeps
    | apply State_rcAdd_keeps
    | apply keepsR_next
    | apply keeps_ite
    | apply keepsR_ite
    | apply keeps_ite2
    | apply keeps_foldl
    | apply keeps_foldl2
    | apply keeps_foldl3
    | intro _
    | dsimp only
    | (fail_if_no_progress (apply keeps_mk; on_goal 2 => (constructor <;> first | exact .inr (by decide) | exact .inl rfl)))
    | split

theorem State_classify__keeps {m_ : Nat} (hm : maskIn 53131 m_ = true) {s_ s : State} (h_ : Keeps m_ s_ s) (p : Nat) (f : EthFrame) (bufs : List (Nat × Nat × Nat)) : Keeps m_ s_ (State.classify_ s p f bufs) := by
  refine Keeps.after hm h_ ?_
  clear hm h_
  unfold State.classify_
  repeat' with_reducible first
    | assumption
    | exact Keeps.refl _ _
    | (show maskIn _ _ = true; decide)
    | apply State_bump_keeps
    | apply State_flowPacket_keeps
    | apply State_punt_keeps
    | apply State_unmatched_keeps
    | apply keepsR_next
    | apply keeps_ite
    | apply keepsR_ite
    | apply keeps_ite2
    | apply keeps_foldl
    | apply keeps_foldl2
    | apply keeps_foldl3
    | intro _
    | dsimp only
    | (fail_if_no_progress (apply keeps_mk; on_goal 2 => (constructor <;> first | exact .inr (by decide) | exact .inl rfl)))
    | split

theorem State_mgmtFrame_keeps {m_ : Nat} (hm : maskIn 16392 m_ = true) {s_ s : State} (h_ : Keeps m_ s_ s) (m : Nat) (f : EthFrame) : Keeps m_ s_ (State.mgmtFrame s m f) := by
  refine Keeps.after hm h_ ?_
  clear hm h_
  unfold State.mgmtFrame
  repeat' with_reducible first
    | assumption
    | exact Keeps.refl _ _
    | (show maskIn _ _ = true; decide)
    | apply State_emit_keeps
    | apply keepsR_next
    | apply keeps_ite
    | apply keepsR_ite
    | apply keeps_ite2
    | apply keeps_foldl
    | apply keeps_foldl2
    | apply keeps_foldl3
    | intro _
    | dsimp only
    | (fail_if_no_progress (apply keeps_mk; on_goal 2 => (constructor <;> first | exact .inr (by decide) | exact .inl rfl)))
    | split

theorem execEthFrameReceived_keeps {m_ : Nat} (hm : maskIn 53163 m_ = true) {s_ s0 : State} (h_ : Keeps m_ s_ s0) (p : Fin 98) (f : EthFrame) (bufs : List (Nat × Nat × Nat)) (at_ : Nat) : KeepsR m_ s_ (execEthFrameReceived p f bufs at_ s0) := by
  refine KeepsR.after hm h_ ?_
  clear hm h_
  unfold execEthFrameReceived
  repeat' with_reducible first
    | assumption
    | exact Keeps.refl _ _
    | (show maskIn _ _ = true; decide)
    | apply State_bump64_keeps
    | apply State_bump_keeps
    | apply State_classify__keeps
    | apply State_countSecond_keeps
    | apply State_mgmtFrame_keeps
    | apply State_punt_keeps
    | apply State_rcAdd_keeps
    | apply State_setBit_keeps
    | apply State_toTick_keeps
    | apply keepsR_next
    | apply keeps_ite
    | apply keepsR_ite
    | apply keeps_ite2
    | apply keeps_foldl
    | apply keeps_foldl2
    | apply keeps_foldl3
    | intro _
    | dsimp only
    | (fail_if_no_progress (apply keeps_mk; on_goal 2 => (constructor <;> first | exact .inr (by decide) | exact .inl rfl)))
    | split

theorem execEthLinkUp_keeps {m_ : Nat} (hm : maskIn 907 m_ = true) {s_ s : State} (h_ : Keeps m_ s_ s) (r : EthRise) : KeepsR m_ s_ (execEthLinkUp r s) := by
  refine KeepsR.after hm h_ ?_
  clear hm h_
  unfold execEthLinkUp
  repeat' with_reducible first
    | assumption
    | exact Keeps.refl _ _
    | (show maskIn _ _ = true; decide)
    | apply State_ethEvent_keeps
    | apply State_setNum_keeps
    | apply keepsR_next
    | apply keeps_ite
    | apply keepsR_ite
    | apply keeps_ite2
    | apply keeps_foldl
    | apply keeps_foldl2
    | apply keeps_foldl3
    | intro _
    | dsimp only
    | (fail_if_no_progress (apply keeps_mk; on_goal 2 => (constructor <;> first | exact .inr (by decide) | exact .inl rfl)))
    | split

theorem execEthLinkDown_keeps {m_ : Nat} (hm : maskIn 907 m_ = true) {s_ s : State} (h_ : Keeps m_ s_ s) (p : Fin 96) (cause : Fin 4) (cut : Bool) : KeepsR m_ s_ (execEthLinkDown p cause cut s) := by
  refine KeepsR.after hm h_ ?_
  clear hm h_
  unfold execEthLinkDown
  repeat' with_reducible first
    | assumption
    | exact Keeps.refl _ _
    | (show maskIn _ _ = true; decide)
    | apply State_ethDown_keeps
    | apply keepsR_next
    | apply keeps_ite
    | apply keepsR_ite
    | apply keeps_ite2
    | apply keeps_foldl
    | apply keeps_foldl2
    | apply keeps_foldl3
    | intro _
    | dsimp only
    | (fail_if_no_progress (apply keeps_mk; on_goal 2 => (constructor <;> first | exact .inr (by decide) | exact .inl rfl)))
    | split

theorem State_pathDown_keeps {m_ : Nat} (hm : maskIn 17290 m_ = true) {s_ s : State} (h_ : Keeps m_ s_ s) (r : Nat) : Keeps m_ s_ (State.pathDown s r) := by
  refine Keeps.after hm h_ ?_
  clear hm h_
  unfold State.pathDown
  repeat' with_reducible first
    | assumption
    | exact Keeps.refl _ _
    | (show maskIn _ _ = true; decide)
    | apply State_ethEvent_keeps
    | apply State_setRx_keeps
    | apply keepsR_next
    | apply keeps_ite
    | apply keepsR_ite
    | apply keeps_ite2
    | apply keeps_foldl
    | apply keeps_foldl2
    | apply keeps_foldl3
    | intro _
    | dsimp only
    | (fail_if_no_progress (apply keeps_mk; on_goal 2 => (constructor <;> first | exact .inr (by decide) | exact .inl rfl)))
    | split

theorem execRxContextLost_keeps {m_ : Nat} (hm : maskIn 53163 m_ = true) {s_ s0 : State} (h_ : Keeps m_ s_ s0) (r : Fin 8192) (at_ : Nat) : KeepsR m_ s_ (execRxContextLost r at_ s0) := by
  refine KeepsR.after hm h_ ?_
  clear hm h_
  unfold execRxContextLost
  repeat' with_reducible first
    | assumption
    | exact Keeps.refl _ _
    | (show maskIn _ _ = true; decide)
    | apply State_ethEvent_keeps
    | apply State_pairsGone_keeps
    | apply State_pathDown_keeps
    | apply State_rowClose_keeps
    | apply State_setPresents_keeps
    | apply State_setRx_keeps
    | apply State_toTick_keeps
    | apply keepsR_next
    | apply keeps_ite
    | apply keepsR_ite
    | apply keeps_ite2
    | apply keeps_foldl
    | apply keeps_foldl2
    | apply keeps_foldl3
    | intro _
    | dsimp only
    | (fail_if_no_progress (apply keeps_mk; on_goal 2 => (constructor <;> first | exact .inr (by decide) | exact .inl rfl)))
    | split

theorem execLineCloseTimeout_keeps {m_ : Nat} (hm : maskIn 51115 m_ = true) {s_ s0 : State} (h_ : Keeps m_ s_ s0) (r : Fin 8192) (at_ : Nat) : KeepsR m_ s_ (execLineCloseTimeout r at_ s0) := by
  refine KeepsR.after hm h_ ?_
  clear hm h_
  unfold execLineCloseTimeout
  repeat' with_reducible first
    | assumption
    | exact Keeps.refl _ _
    | (show maskIn _ _ = true; decide)
    | apply State_rowClose_keeps
    | apply State_toTick_keeps
    | apply keepsR_next
    | apply keeps_ite
    | apply keepsR_ite
    | apply keeps_ite2
    | apply keeps_foldl
    | apply keeps_foldl2
    | apply keeps_foldl3
    | intro _
    | dsimp only
    | (fail_if_no_progress (apply keeps_mk; on_goal 2 => (constructor <;> first | exact .inr (by decide) | exact .inl rfl)))
    | split

theorem execPairWaitExpiry_keeps {m_ : Nat} (hm : maskIn 53163 m_ = true) {s_ s0 : State} (h_ : Keeps m_ s_ s0) (r : Fin 8192) (seq : Nat) (at_ : Nat) : KeepsR m_ s_ (execPairWaitExpiry r seq at_ s0) := by
  refine KeepsR.after hm h_ ?_
  clear hm h_
  unfold execPairWaitExpiry
  repeat' with_reducible first
    | assumption
    | exact Keeps.refl _ _
    | (show maskIn _ _ = true; decide)
    | apply State_flowDrain_keeps
    | apply State_flowLost_keeps
    | apply State_setRx_keeps
    | apply State_toTick_keeps
    | apply keepsR_next
    | apply keeps_ite
    | apply keepsR_ite
    | apply keeps_ite2
    | apply keeps_foldl
    | apply keeps_foldl2
    | apply keeps_foldl3
    | intro _
    | dsimp only
    | (fail_if_no_progress (apply keeps_mk; on_goal 2 => (constructor <;> first | exact .inr (by decide) | exact .inl rfl)))
    | split

theorem execPathDown_keeps {m_ : Nat} (hm : maskIn 17322 m_ = true) {s_ s0 : State} (h_ : Keeps m_ s_ s0) (r : Fin 8192) (at_ : Nat) : KeepsR m_ s_ (execPathDown r at_ s0) := by
  refine KeepsR.after hm h_ ?_
  clear hm h_
  unfold execPathDown
  repeat' with_reducible first
    | assumption
    | exact Keeps.refl _ _
    | (show maskIn _ _ = true; decide)
    | apply State_pathDown_keeps
    | apply State_toTick_keeps
    | apply keepsR_next
    | apply keeps_ite
    | apply keepsR_ite
    | apply keeps_ite2
    | apply keeps_foldl
    | apply keeps_foldl2
    | apply keeps_foldl3
    | intro _
    | dsimp only
    | (fail_if_no_progress (apply keeps_mk; on_goal 2 => (constructor <;> first | exact .inr (by decide) | exact .inl rfl)))
    | split

end Sys2Proof.Machine
end

