-- ==== Sys2Proof/Laws/KeepsRecorder.lean ====
section
/-! SUPPORT. Recorder: what every operation keeps. -/

namespace Sys2Proof.Machine

theorem execFaultReport_keeps {m_ : Nat} (hm : maskIn 657295 m_ = true) {s_ s : State} (h_ : Keeps m_ s_ s) (source : Fin 512) (code : Half) : KeepsR m_ s_ (execFaultReport source code s) := by
  refine KeepsR.after hm h_ ?_
  clear hm h_
  unfold execFaultReport
  repeat' with_reducible first
    | assumption
    | exact Keeps.refl _ _
    | (show maskIn _ _ = true; decide)
    | apply State_report_keeps
    | apply keepsR_next
    | apply keeps_ite
    | apply keepsR_ite
    | apply keeps_ite2
    | apply keeps_foldl
    | apply keeps_foldl2
    | apply keeps_foldl3
    | intro _
    | dsimp only
    | (fail_if_no_progress (apply keeps_mk; on_goal 2 => (constructor <;> first | exact .inr (by decide) | exact .inl rfl)))
    | split

theorem execFaultConditionEnd_keeps {m_ : Nat} (hm : maskIn 525195 m_ = true) {s_ s : State} (h_ : Keeps m_ s_ s) (source : Fin 512) : KeepsR m_ s_ (execFaultConditionEnd source s) := by
  refine KeepsR.after hm h_ ?_
  clear hm h_
  unfold execFaultConditionEnd
  repeat' with_reducible first
    | assumption
    | exact Keeps.refl _ _
    | (show maskIn _ _ = true; decide)
    | apply State_conditionEnd_keeps
    | apply keepsR_next
    | apply keeps_ite
    | apply keepsR_ite
    | apply keeps_ite2
    | apply keeps_foldl
    | apply keeps_foldl2
    | apply keeps_foldl3
    | intro _
    | dsimp only
    | (fail_if_no_progress (apply keeps_mk; on_goal 2 => (constructor <;> first | exact .inr (by decide) | exact .inl rfl)))
    | split

theorem State_ackBy_keeps {m_ : Nat} (hm : maskIn 525195 m_ = true) {s_ s : State} (h_ : Keeps m_ s_ s) (session : Nat) (n : Nat) : Keeps m_ s_ (State.ackBy s session n) := by
  refine Keeps.after hm h_ ?_
  clear hm h_
  unfold State.ackBy
  repeat' with_reducible first
    | assumption
    | exact Keeps.refl _ _
    | (show maskIn _ _ = true; decide)
    | apply State_ackSource_keeps
    | apply State_raise_keeps
    | apply keepsR_next
    | apply keeps_ite
    | apply keepsR_ite
    | apply keeps_ite2
    | apply keeps_foldl
    | apply keeps_foldl2
    | apply keeps_foldl3
    | intro _
    | dsimp only
    | (fail_if_no_progress (apply keeps_mk; on_goal 2 => (constructor <;> first | exact .inr (by decide) | exact .inl rfl)))
    | split

theorem State_ackAllBy_keeps {m_ : Nat} (hm : maskIn 525195 m_ = true) {s_ s : State} (h_ : Keeps m_ s_ s) (session : Nat) : Keeps m_ s_ (State.ackAllBy s session) := by
  refine Keeps.after hm h_ ?_
  clear hm h_
  unfold State.ackAllBy
  repeat' with_reducible first
    | assumption
    | exact Keeps.refl _ _
    | (show maskIn _ _ = true; decide)
    | apply State_ackSource_keeps
    | apply State_raise_keeps
    | apply keepsR_next
    | apply keeps_ite
    | apply keepsR_ite
    | apply keeps_ite2
    | apply keeps_foldl
    | apply keeps_foldl2
    | apply keeps_foldl3
    | intro _
    | dsimp only
    | (fail_if_no_progress (apply keeps_mk; on_goal 2 => (constructor <;> first | exact .inr (by decide) | exact .inl rfl)))
    | split

theorem State_faultAckReg_keeps {m_ : Nat} (hm : maskIn 525195 m_ = true) {s_ s : State} (h_ : Keeps m_ s_ s) (w : Nat) : Keeps m_ s_ (State.faultAckReg s w) := by
  refine Keeps.after hm h_ ?_
  clear hm h_
  unfold State.faultAckReg
  repeat' with_reducible first
    | assumption
    | exact Keeps.refl _ _
    | (show maskIn _ _ = true; decide)
    | apply State_ackAllBy_keeps
    | apply State_ackBy_keeps
    | apply keepsR_next
    | apply keeps_ite
    | apply keepsR_ite
    | apply keeps_ite2
    | apply keeps_foldl
    | apply keeps_foldl2
    | apply keeps_foldl3
    | intro _
    | dsimp only
    | (fail_if_no_progress (apply keeps_mk; on_goal 2 => (constructor <;> first | exact .inr (by decide) | exact .inl rfl)))
    | split

theorem State_safeExitWrite_keeps {m_ : Nat} (hm : maskIn 656267 m_ = true) {s_ s : State} (h_ : Keeps m_ s_ s) (session : Nat) (v : Nat) : Keeps m_ s_ (State.safeExitWrite s session v).2 := by
  refine Keeps.after hm h_ ?_
  clear hm h_
  unfold State.safeExitWrite
  repeat' with_reducible first
    | assumption
    | exact Keeps.refl _ _
    | (show maskIn _ _ = true; decide)
    | apply State_raise_keeps
    | apply State_setNum_keeps
    | apply State_twinUnsafe_keeps
    | apply keepsR_next
    | apply keeps_ite
    | apply keepsR_ite
    | apply keeps_ite2
    | apply keeps_foldl
    | apply keeps_foldl2
    | apply keeps_foldl3
    | intro _
    | dsimp only
    | (fail_if_no_progress (apply keeps_mk; on_goal 2 => (constructor <;> first | exact .inr (by decide) | exact .inl rfl)))
    | split

theorem State_lostSources_keeps {m_ : Nat} (hm : maskIn 257 m_ = true) {s_ s : State} (h_ : Keeps m_ s_ s)  : Keeps m_ s_ (State.lostSources s) := by
  refine Keeps.after hm h_ ?_
  clear hm h_
  unfold State.lostSources
  repeat' with_reducible first
    | assumption
    | exact Keeps.refl _ _
    | (show maskIn _ _ = true; decide)
    | apply State_setSrc_keeps
    | apply State_srcObjs_keeps
    | apply keepsR_next
    | apply keeps_ite
    | apply keepsR_ite
    | apply keeps_ite2
    | apply keeps_foldl
    | apply keeps_foldl2
    | apply keeps_foldl3
    | intro _
    | dsimp only
    | (fail_if_no_progress (apply keeps_mk; on_goal 2 => (constructor <;> first | exact .inr (by decide) | exact .inl rfl)))
    | split

theorem execCollectorSelfCheck_keeps {m_ : Nat} (hm : maskIn 657327 m_ = true) {s_ s0 : State} (h_ : Keeps m_ s_ s0) (goodA : Bool) (goodB : Bool) (agree : Bool) (at_ : Nat) : KeepsR m_ s_ (execCollectorSelfCheck goodA goodB agree at_ s0) := by
  refine KeepsR.after hm h_ ?_
  clear hm h_
  unfold execCollectorSelfCheck
  repeat' with_reducible first
    | assumption
    | exact Keeps.refl _ _
    | (show maskIn _ _ = true; decide)
    | apply State_enterSafe_keeps
    | apply State_evtCountSignal_keeps
    | apply State_lostSources_keeps
    | apply State_record_keeps
    | apply State_report_keeps
    | apply State_setNum_keeps
    | apply State_setSrc_keeps
    | apply State_srcObjs_keeps
    | apply State_toTick_keeps
    | apply keepsR_next
    | apply keeps_ite
    | apply keepsR_ite
    | apply keeps_ite2
    | apply keeps_foldl
    | apply keeps_foldl2
    | apply keeps_foldl3
    | intro _
    | dsimp only
    | (fail_if_no_progress (apply keeps_mk; on_goal 2 => (constructor <;> first | exact .inr (by decide) | exact .inl rfl)))
    | split

theorem execMinIntervalEnd_keeps {m_ : Nat} (hm : maskIn 426 m_ = true) {s_ s0 : State} (h_ : Keeps m_ s_ s0) (n : Fin 1024) (at_ : Nat) : KeepsR m_ s_ (execMinIntervalEnd n at_ s0) := by
  refine KeepsR.after hm h_ ?_
  clear hm h_
  unfold execMinIntervalEnd
  repeat' with_reducible first
    | assumption
    | exact Keeps.refl _ _
    | (show maskIn _ _ = true; decide)
    | apply State_evtSignal_keeps
    | apply State_toTick_keeps
    | apply keepsR_next
    | apply keeps_ite
    | apply keepsR_ite
    | apply keeps_ite2
    | apply keeps_foldl
    | apply keeps_foldl2
    | apply keeps_foldl3
    | intro _
    | dsimp only
    | (fail_if_no_progress (apply keeps_mk; on_goal 2 => (constructor <;> first | exact .inr (by decide) | exact .inl rfl)))
    | split

theorem State_flushNow_keeps {m_ : Nat} (hm : maskIn 512 m_ = true) {s_ s : State} (h_ : Keeps m_ s_ s)  : Keeps m_ s_ (State.flushNow s) := by
  refine Keeps.after hm h_ ?_
  clear hm h_
  unfold State.flushNow
  repeat' with_reducible first
    | assumption
    | exact Keeps.refl _ _
    | (show maskIn _ _ = true; decide)
    | apply keepsR_next
    | apply keeps_ite
    | apply keepsR_ite
    | apply keeps_ite2
    | apply keeps_foldl
    | apply keeps_foldl2
    | apply keeps_foldl3
    | intro _
    | dsimp only
    | (fail_if_no_progress (apply keeps_mk; on_goal 2 => (constructor <;> first | exact .inr (by decide) | exact .inl rfl)))
    | split

theorem State_flashError_keeps {m_ : Nat} (hm : maskIn 906 m_ = true) {s_ s : State} (h_ : Keeps m_ s_ s) (sector : Nat) : Keeps m_ s_ (State.flashError s sector) := by
  refine Keeps.after hm h_ ?_
  clear hm h_
  unfold State.flashError
  repeat' with_reducible first
    | assumption
    | exact Keeps.refl _ _
    | (show maskIn _ _ = true; decide)
    | apply State_raise_keeps
    | apply keepsR_next
    | apply keeps_ite
    | apply keepsR_ite
    | apply keeps_ite2
    | apply keeps_foldl
    | apply keeps_foldl2
    | apply keeps_foldl3
    | intro _
    | dsimp only
    | (fail_if_no_progress (apply keeps_mk; on_goal 2 => (constructor <;> first | exact .inr (by decide) | exact .inl rfl)))
    | split

theorem execRecorderFlush_keeps {m_ : Nat} (hm : maskIn 906 m_ = true) {s_ s : State} (h_ : Keeps m_ s_ s) (writeError : Option Nat) : KeepsR m_ s_ (execRecorderFlush writeError s) := by
  refine KeepsR.after hm h_ ?_
  clear hm h_
  unfold execRecorderFlush
  repeat' with_reducible first
    | assumption
    | exact Keeps.refl _ _
    | (show maskIn _ _ = true; decide)
    | apply State_flashError_keeps
    | apply State_flushNow_keeps
    | apply keepsR_next
    | apply keeps_ite
    | apply keepsR_ite
    | apply keeps_ite2
    | apply keeps_foldl
    | apply keeps_foldl2
    | apply keeps_foldl3
    | intro _
    | dsimp only
    | (fail_if_no_progress (apply keeps_mk; on_goal 2 => (constructor <;> first | exact .inr (by decide) | exact .inl rfl)))
    | split

theorem execFlashRetry_keeps {m_ : Nat} (hm : maskIn 938 m_ = true) {s_ s0 : State} (h_ : Keeps m_ s_ s0) (writeError : Option Nat) (at_ : Nat) : KeepsR m_ s_ (execFlashRetry writeError at_ s0) := by
  refine KeepsR.after hm h_ ?_
  clear hm h_
  unfold execFlashRetry
  repeat' with_reducible first
    | assumption
    | exact Keeps.refl _ _
    | (show maskIn _ _ = true; decide)
    | apply State_flashError_keeps
    | apply State_flushNow_keeps
    | apply State_toTick_keeps
    | apply keepsR_next
    | apply keeps_ite
    | apply keepsR_ite
    | apply keeps_ite2
    | apply keeps_foldl
    | apply keeps_foldl2
    | apply keeps_foldl3
    | intro _
    | dsimp only
    | (fail_if_no_progress (apply keeps_mk; on_goal 2 => (constructor <;> first | exact .inr (by decide) | exact .inl rfl)))
    | split

theorem execPowerFailAssert_keeps {m_ : Nat} (hm : maskIn 938 m_ = true) {s_ s0 : State} (h_ : Keeps m_ s_ s0) (at_ : Nat) : KeepsR m_ s_ (execPowerFailAssert at_ s0) := by
  refine KeepsR.after hm h_ ?_
  clear hm h_
  unfold execPowerFailAssert
  repeat' with_reducible first
    | assumption
    | exact Keeps.refl _ _
    | (show maskIn _ _ = true; decide)
    | apply State_flushNow_keeps
    | apply State_raise_keeps
    | apply State_toTick_keeps
    | apply keepsR_next
    | apply keeps_ite
    | apply keepsR_ite
    | apply keeps_ite2
    | apply keeps_foldl
    | apply keeps_foldl2
    | apply keeps_foldl3
    | intro _
    | dsimp only
    | (fail_if_no_progress (apply keeps_mk; on_goal 2 => (constructor <;> first | exact .inr (by decide) | exact .inl rfl)))
    | split

theorem execPowerFailDeassert_keeps {m_ : Nat} (hm : maskIn 512 m_ = true) {s_ s : State} (h_ : Keeps m_ s_ s)  : KeepsR m_ s_ (execPowerFailDeassert s) := by
  refine KeepsR.after hm h_ ?_
  clear hm h_
  unfold execPowerFailDeassert
  repeat' with_reducible first
    | assumption
    | exact Keeps.refl _ _
    | (show maskIn _ _ = true; decide)
    | apply keepsR_next
    | apply keeps_ite
    | apply keepsR_ite
    | apply keeps_ite2
    | apply keeps_foldl
    | apply keeps_foldl2
    | apply keeps_foldl3
    | intro _
    | dsimp only
    | (fail_if_no_progress (apply keeps_mk; on_goal 2 => (constructor <;> first | exact .inr (by decide) | exact .inl rfl)))
    | split

theorem State_tellLost_keeps {m_ : Nat} (hm : maskIn 906 m_ = true) {s_ s : State} (h_ : Keeps m_ s_ s) (l : Tbl Nat) (cause : Nat) : Keeps m_ s_ (State.tellLost s l cause) := by
  refine Keeps.after hm h_ ?_
  clear hm h_
  unfold State.tellLost
  repeat' with_reducible first
    | assumption
    | exact Keeps.refl _ _
    | (show maskIn _ _ = true; decide)
    | apply State_raise_keeps
    | apply keepsR_next
    | apply keeps_ite
    | apply keepsR_ite
    | apply keeps_ite2
    | apply keeps_foldl
    | apply keeps_foldl2
    | apply keeps_foldl3
    | intro _
    | dsimp only
    | (fail_if_no_progress (apply keeps_mk; on_goal 2 => (constructor <;> first | exact .inr (by decide) | exact .inl rfl)))
    | split

theorem execRecorderSecond_keeps {m_ : Nat} (hm : maskIn 1962 m_ = true) {s_ s0 : State} (h_ : Keeps m_ s_ s0) (at_ : Nat) : KeepsR m_ s_ (execRecorderSecond at_ s0) := by
  refine KeepsR.after hm h_ ?_
  clear hm h_
  unfold execRecorderSecond
  repeat' with_reducible first
    | assumption
    | exact Keeps.refl _ _
    | (show maskIn _ _ = true; decide)
    | apply State_secondsEnd_keeps
    | apply State_tellLost_keeps
    | apply State_toTick_keeps
    | apply keepsR_next
    | apply keeps_ite
    | apply keepsR_ite
    | apply keeps_ite2
    | apply keeps_foldl
    | apply keeps_foldl2
    | apply keeps_foldl3
    | intro _
    | dsimp only
    | (fail_if_no_progress (apply keeps_mk; on_goal 2 => (constructor <;> first | exact .inr (by decide) | exact .inl rfl)))
    | split

theorem State_rollChallenge_keeps {m_ : Nat} (hm : maskIn 528 m_ = true) {s_ s : State} (h_ : Keeps m_ s_ s)  : Keeps m_ s_ (State.rollChallenge s) := by
  refine Keeps.after hm h_ ?_
  clear hm h_
  unfold State.rollChallenge
  repeat' with_reducible first
    | assumption
    | exact Keeps.refl _ _
    | (show maskIn _ _ = true; decide)
    | apply State_freeBytes_keeps
    | apply keepsR_next
    | apply keeps_ite
    | apply keepsR_ite
    | apply keeps_ite2
    | apply keeps_foldl
    | apply keeps_foldl2
    | apply keeps_foldl3
    | intro _
    | dsimp only
    | (fail_if_no_progress (apply keeps_mk; on_goal 2 => (constructor <;> first | exact .inr (by decide) | exact .inl rfl)))
    | split

theorem State_recClearWrite_keeps {m_ : Nat} (hm : maskIn 922 m_ = true) {s_ s : State} (h_ : Keeps m_ s_ s) (session : Nat) (token : List Byte) : Keeps m_ s_ (State.recClearWrite s session token).2 := by
  refine Keeps.after hm h_ ?_
  clear hm h_
  unfold State.recClearWrite
  repeat' with_reducible first
    | assumption
    | exact Keeps.refl _ _
    | (show maskIn _ _ = true; decide)
    | apply State_raise_keeps
    | apply State_rollChallenge_keeps
    | apply keepsR_next
    | apply keeps_ite
    | apply keepsR_ite
    | apply keeps_ite2
    | apply keeps_foldl
    | apply keeps_foldl2
    | apply keeps_foldl3
    | intro _
    | dsimp only
    | (fail_if_no_progress (apply keeps_mk; on_goal 2 => (constructor <;> first | exact .inr (by decide) | exact .inl rfl)))
    | split

theorem execRecorderEraseDone_keeps {m_ : Nat} (hm : maskIn 512 m_ = true) {s_ s : State} (h_ : Keeps m_ s_ s)  : KeepsR m_ s_ (execRecorderEraseDone s) := by
  refine KeepsR.after hm h_ ?_
  clear hm h_
  unfold execRecorderEraseDone
  repeat' with_reducible first
    | assumption
    | exact Keeps.refl _ _
    | (show maskIn _ _ = true; decide)
    | apply keepsR_next
    | apply keeps_ite
    | apply keepsR_ite
    | apply keeps_ite2
    | apply keeps_foldl
    | apply keeps_foldl2
    | apply keeps_foldl3
    | intro _
    | dsimp only
    | (fail_if_no_progress (apply keeps_mk; on_goal 2 => (constructor <;> first | exact .inr (by decide) | exact .inl rfl)))
    | split

theorem execRecChallengeRoll_keeps {m_ : Nat} (hm : maskIn 560 m_ = true) {s_ s0 : State} (h_ : Keeps m_ s_ s0) (at_ : Nat) : KeepsR m_ s_ (execRecChallengeRoll at_ s0) := by
  refine KeepsR.after hm h_ ?_
  clear hm h_
  unfold execRecChallengeRoll
  repeat' with_reducible first
    | assumption
    | exact Keeps.refl _ _
    | (show maskIn _ _ = true; decide)
    | apply State_rollChallenge_keeps
    | apply State_toTick_keeps
    | apply keepsR_next
    | apply keeps_ite
    | apply keepsR_ite
    | apply keeps_ite2
    | apply keeps_foldl
    | apply keeps_foldl2
    | apply keeps_foldl3
    | intro _
    | dsimp only
    | (fail_if_no_progress (apply keeps_mk; on_goal 2 => (constructor <;> first | exact .inr (by decide) | exact .inl rfl)))
    | split

theorem execOperatingTimeSave_keeps {m_ : Nat} (hm : maskIn 544 m_ = true) {s_ s0 : State} (h_ : Keeps m_ s_ s0) (at_ : Nat) : KeepsR m_ s_ (execOperatingTimeSave at_ s0) := by
  refine KeepsR.after hm h_ ?_
  clear hm h_
  unfold execOperatingTimeSave
  repeat' with_reducible first
    | assumption
    | exact Keeps.refl _ _
    | (show maskIn _ _ = true; decide)
    | apply State_toTick_keeps
    | apply keepsR_next
    | apply keeps_ite
    | apply keepsR_ite
    | apply keeps_ite2
    | apply keeps_foldl
    | apply keeps_foldl2
    | apply keeps_foldl3
    | intro _
    | dsimp only
    | (fail_if_no_progress (apply keeps_mk; on_goal 2 => (constructor <;> first | exact .inr (by decide) | exact .inl rfl)))
    | split

end Sys2Proof.Machine
end

