-- ==== Sys2Proof/Laws/KeepsEthTx.lean ====
section
/-! SUPPORT. EthTx: what every operation keeps. -/

namespace Sys2Proof.Machine

theorem State_setTx_keeps {m_ : Nat} (hm : maskIn 16384 m_ = true) {s_ s : State} (h_ : Keeps m_ s_ s) (c : Nat) (v : TxCtx) : Keeps m_ s_ (State.setTx s c v) := by
  refine Keeps.after hm h_ ?_
  clear hm h_
  unfold State.setTx
  repeat' with_reducible first
    | assumption
    | exact Keeps.refl _ _
    | (show maskIn _ _ = true; decide)
    | apply keepsR_next
    | apply keeps_ite
    | apply keepsR_ite
    | apply keeps_ite2
    | apply keeps_foldl
    | apply keeps_foldl2
    | apply keeps_foldl3
    | intro _
    | dsimp only
    | (fail_if_no_progress (apply keeps_mk; on_goal 2 => (constructor <;> first | exact .inr (by decide) | exact .inl rfl)))
    | split

theorem State_sendPacket_keeps {m_ : Nat} (hm : maskIn 16393 m_ = true) {s_ s : State} (h_ : Keeps m_ s_ s) (c : Nat) (place : Nat) (ts : Nat) (marker : Bool) (body : CellBody) : Keeps m_ s_ (State.sendPacket s c place ts marker body) := by
  refine Keeps.after hm h_ ?_
  clear hm h_
  unfold State.sendPacket
  repeat' with_reducible first
    | assumption
    | exact Keeps.refl _ _
    | (show maskIn _ _ = true; decide)
    | apply State_bump64_keeps
    | apply State_bump_keeps
    | apply State_emit_keeps
    | apply State_setTx_keeps
    | apply keepsR_next
    | apply keeps_ite
    | apply keepsR_ite
    | apply keeps_ite2
    | apply keeps_foldl
    | apply keeps_foldl2
    | apply keeps_foldl3
    | intro _
    | dsimp only
    | (fail_if_no_progress (apply keeps_mk; on_goal 2 => (constructor <;> first | exact .inr (by decide) | exact .inl rfl)))
    | split

theorem execMediaPacketSend_keeps {m_ : Nat} (hm : maskIn 16425 m_ = true) {s_ s0 : State} (h_ : Keeps m_ s_ s0) (c : Fin 8192) (k : Nat) (at_ : Nat) : KeepsR m_ s_ (execMediaPacketSend c k at_ s0) := by
  refine KeepsR.after hm h_ ?_
  clear hm h_
  unfold execMediaPacketSend
  repeat' with_reducible first
    | assumption
    | exact Keeps.refl _ _
    | (show maskIn _ _ = true; decide)
    | apply State_sendPacket_keeps
    | apply State_toTick_keeps
    | apply keepsR_next
    | apply keeps_ite
    | apply keepsR_ite
    | apply keeps_ite2
    | apply keeps_foldl
    | apply keeps_foldl2
    | apply keeps_foldl3
    | intro _
    | dsimp only
    | (fail_if_no_progress (apply keeps_mk; on_goal 2 => (constructor <;> first | exact .inr (by decide) | exact .inl rfl)))
    | split

theorem State_housePositions_keeps {m_ : Nat} (hm : maskIn 1024 m_ = true) {s_ s : State} (h_ : Keeps m_ s_ s) (o : Nat) (g : Nat) (h : Nat) (n : Nat) (ps : List Nat) : Keeps m_ s_ (State.housePositions s o g h n ps).2 := by
  refine Keeps.after hm h_ ?_
  clear hm h_
  unfold State.housePositions
  repeat' with_reducible first
    | assumption
    | exact Keeps.refl _ _
    | (show maskIn _ _ = true; decide)
    | apply State_readPositions_keeps
    | apply State_setOut_keeps
    | apply keepsR_next
    | apply keeps_ite
    | apply keepsR_ite
    | apply keeps_ite2
    | apply keeps_foldl
    | apply keeps_foldl2
    | apply keeps_foldl3
    | intro _
    | dsimp only
    | (fail_if_no_progress (apply keeps_mk; on_goal 2 => (constructor <;> first | exact .inr (by decide) | exact .inl rfl)))
    | split

theorem execAudioPacketSend_keeps {m_ : Nat} (hm : maskIn 17449 m_ = true) {s_ s0 : State} (h_ : Keeps m_ s_ s0) (c : Fin 8192) (at_ : Nat) : KeepsR m_ s_ (execAudioPacketSend c at_ s0) := by
  refine KeepsR.after hm h_ ?_
  clear hm h_
  unfold execAudioPacketSend
  repeat' with_reducible first
    | assumption
    | exact Keeps.refl _ _
    | (show maskIn _ _ = true; decide)
    | apply State_housePositions_keeps
    | apply State_sendPacket_keeps
    | apply State_toTick_keeps
    | apply keepsR_next
    | apply keeps_ite
    | apply keepsR_ite
    | apply keeps_ite2
    | apply keeps_foldl
    | apply keeps_foldl2
    | apply keeps_foldl3
    | intro _
    | dsimp only
    | (fail_if_no_progress (apply keeps_mk; on_goal 2 => (constructor <;> first | exact .inr (by decide) | exact .inl rfl)))
    | split

theorem State_capture_keeps {m_ : Nat} (hm : maskIn 17291 m_ = true) {s_ s : State} (h_ : Keeps m_ s_ s) (p : Nat) (id : Nat) : Keeps m_ s_ (State.capture s p id) := by
  refine Keeps.after hm h_ ?_
  clear hm h_
  unfold State.capture
  repeat' with_reducible first
    | assumption
    | exact Keeps.refl _ _
    | (show maskIn _ _ = true; decide)
    | apply State_bump_keeps
    | apply State_ethEvent_keeps
    | apply State_setBit_keeps
    | apply State_setEth_keeps
    | apply keepsR_next
    | apply keeps_ite
    | apply keepsR_ite
    | apply keeps_ite2
    | apply keeps_foldl
    | apply keeps_foldl2
    | apply keeps_foldl3
    | intro _
    | dsimp only
    | (fail_if_no_progress (apply keeps_mk; on_goal 2 => (constructor <;> first | exact .inr (by decide) | exact .inl rfl)))
    | split

theorem State_servoStamp_keeps {m_ : Nat} (hm : maskIn 17291 m_ = true) {s_ s : State} (h_ : Keeps m_ s_ s) (m : Nat) (seq : Nat) : Keeps m_ s_ (State.servoStamp s m seq).2 := by
  refine Keeps.after hm h_ ?_
  clear hm h_
  unfold State.servoStamp
  repeat' with_reducible first
    | assumption
    | exact Keeps.refl _ _
    | (show maskIn _ _ = true; decide)
    | apply State_capture_keeps
    | apply State_setEth_keeps
    | apply keepsR_next
    | apply keeps_ite
    | apply keepsR_ite
    | apply keeps_ite2
    | apply keeps_foldl
    | apply keeps_foldl2
    | apply keeps_foldl3
    | intro _
    | dsimp only
    | (fail_if_no_progress (apply keeps_mk; on_goal 2 => (constructor <;> first | exact .inr (by decide) | exact .inl rfl)))
    | split

theorem State_servoEmit_keeps {m_ : Nat} (hm : maskIn 9 m_ = true) {s_ s : State} (h_ : Keeps m_ s_ s) (m : Nat) (f : ServoTx) : Keeps m_ s_ (State.servoEmit s m f) := by
  refine Keeps.after hm h_ ?_
  clear hm h_
  unfold State.servoEmit
  repeat' with_reducible first
    | assumption
    | exact Keeps.refl _ _
    | (show maskIn _ _ = true; decide)
    | apply State_bump64_keeps
    | apply State_emit_keeps
    | apply keepsR_next
    | apply keeps_ite
    | apply keepsR_ite
    | apply keeps_ite2
    | apply keeps_foldl
    | apply keeps_foldl2
    | apply keeps_foldl3
    | intro _
    | dsimp only
    | (fail_if_no_progress (apply keeps_mk; on_goal 2 => (constructor <;> first | exact .inr (by decide) | exact .inl rfl)))
    | split

theorem State_servoWait_keeps {m_ : Nat} (hm : maskIn 16384 m_ = true) {s_ s : State} (h_ : Keeps m_ s_ s) (m : Nat) (f : ServoTx) : Keeps m_ s_ (State.servoWait s m f) := by
  refine Keeps.after hm h_ ?_
  clear hm h_
  unfold State.servoWait
  repeat' with_reducible first
    | assumption
    | exact Keeps.refl _ _
    | (show maskIn _ _ = true; decide)
    | apply State_setEth_keeps
    | apply keepsR_next
    | apply keeps_ite
    | apply keepsR_ite
    | apply keeps_ite2
    | apply keeps_foldl
    | apply keeps_foldl2
    | apply keeps_foldl3
    | intro _
    | dsimp only
    | (fail_if_no_progress (apply keeps_mk; on_goal 2 => (constructor <;> first | exact .inr (by decide) | exact .inl rfl)))
    | split

theorem State_servoStart_keeps {m_ : Nat} (hm : maskIn 25483 m_ = true) {s_ s : State} (h_ : Keeps m_ s_ s) (m : Nat) (f : ServoTx) : Keeps m_ s_ (State.servoStart s m f) := by
  refine Keeps.after hm h_ ?_
  clear hm h_
  unfold State.servoStart
  repeat' with_reducible first
    | assumption
    | exact Keeps.refl _ _
    | (show maskIn _ _ = true; decide)
    | apply State_servoEmit_keeps
    | apply State_servoStamp_keeps
    | apply State_servoWait_keeps
    | apply State_setPtp_keeps
    | apply keepsR_next
    | apply keeps_ite
    | apply keepsR_ite
    | apply keeps_ite2
    | apply keeps_foldl
    | apply keeps_foldl2
    | apply keeps_foldl3
    | intro _
    | dsimp only
    | (fail_if_no_progress (apply keeps_mk; on_goal 2 => (constructor <;> first | exact .inr (by decide) | exact .inl rfl)))
    | split

theorem State_servoSend_keeps {m_ : Nat} (hm : maskIn 25483 m_ = true) {s_ s : State} (h_ : Keeps m_ s_ s) (m : Nat) (f : ServoTx) : Keeps m_ s_ (State.servoSend s m f) := by
  refine Keeps.after hm h_ ?_
  clear hm h_
  unfold State.servoSend
  repeat' with_reducible first
    | assumption
    | exact Keeps.refl _ _
    | (show maskIn _ _ = true; decide)
    | apply State_bump_keeps
    | apply State_servoStart_keeps
    | apply State_servoWait_keeps
    | apply keepsR_next
    | apply keeps_ite
    | apply keepsR_ite
    | apply keeps_ite2
    | apply keeps_foldl
    | apply keeps_foldl2
    | apply keeps_foldl3
    | intro _
    | dsimp only
    | (fail_if_no_progress (apply keeps_mk; on_goal 2 => (constructor <;> first | exact .inr (by decide) | exact .inl rfl)))
    | split

theorem execHostFrameStart_keeps {m_ : Nat} (hm : maskIn 25515 m_ = true) {s_ s0 : State} (h_ : Keeps m_ s_ s0) (p : Fin 96) (at_ : Nat) : KeepsR m_ s_ (execHostFrameStart p at_ s0) := by
  refine KeepsR.after hm h_ ?_
  clear hm h_
  unfold execHostFrameStart
  repeat' with_reducible first
    | assumption
    | exact Keeps.refl _ _
    | (show maskIn _ _ = true; decide)
    | apply State_bump64_keeps
    | apply State_bump_keeps
    | apply State_capture_keeps
    | apply State_emit_keeps
    | apply State_servoStart_keeps
    | apply State_setEth_keeps
    | apply State_toTick_keeps
    | apply State_txDone_keeps
    | apply keepsR_next
    | apply keeps_ite
    | apply keepsR_ite
    | apply keeps_ite2
    | apply keeps_foldl
    | apply keeps_foldl2
    | apply keeps_foldl3
    | intro _
    | dsimp only
    | (fail_if_no_progress (apply keeps_mk; on_goal 2 => (constructor <;> first | exact .inr (by decide) | exact .inl rfl)))
    | split

theorem State_popStamp_keeps {m_ : Nat} (hm : maskIn 16384 m_ = true) {s_ s : State} (h_ : Keeps m_ s_ s) (p : Nat) : Keeps m_ s_ (State.popStamp s p).2 := by
  refine Keeps.after hm h_ ?_
  clear hm h_
  unfold State.popStamp
  repeat' with_reducible first
    | assumption
    | exact Keeps.refl _ _
    | (show maskIn _ _ = true; decide)
    | apply State_setEth_keeps
    | apply keepsR_next
    | apply keeps_ite
    | apply keepsR_ite
    | apply keeps_ite2
    | apply keeps_foldl
    | apply keeps_foldl2
    | apply keeps_foldl3
    | intro _
    | dsimp only
    | (fail_if_no_progress (apply keeps_mk; on_goal 2 => (constructor <;> first | exact .inr (by decide) | exact .inl rfl)))
    | split

theorem execTxtsPop_keeps {m_ : Nat} (hm : maskIn 16392 m_ = true) {s_ s : State} (h_ : Keeps m_ s_ s) (p : Fin 96) : KeepsR m_ s_ (execTxtsPop p s) := by
  refine KeepsR.after hm h_ ?_
  clear hm h_
  unfold execTxtsPop
  repeat' with_reducible first
    | assumption
    | exact Keeps.refl _ _
    | (show maskIn _ _ = true; decide)
    | apply State_emit_keeps
    | apply State_popStamp_keeps
    | apply keepsR_next
    | apply keeps_ite
    | apply keepsR_ite
    | apply keeps_ite2
    | apply keeps_foldl
    | apply keeps_foldl2
    | apply keeps_foldl3
    | intro _
    | dsimp only
    | (fail_if_no_progress (apply keeps_mk; on_goal 2 => (constructor <;> first | exact .inr (by decide) | exact .inl rfl)))
    | split

theorem State_ethApply_keeps {m_ : Nat} (hm : maskIn 17291 m_ = true) {s_ s : State} (h_ : Keeps m_ s_ s) (pre : State) (p : Nat) : Keeps m_ s_ (State.ethApply s pre p) := by
  refine Keeps.after hm h_ ?_
  clear hm h_
  unfold State.ethApply
  repeat' with_reducible first
    | assumption
    | exact Keeps.refl _ _
    | (show maskIn _ _ = true; decide)
    | apply State_ethDown_keeps
    | apply State_setEth_keeps
    | apply State_setNum_keeps
    | apply State_txDone_keeps
    | apply keepsR_next
    | apply keeps_ite
    | apply keepsR_ite
    | apply keeps_ite2
    | apply keeps_foldl
    | apply keeps_foldl2
    | apply keeps_foldl3
    | intro _
    | dsimp only
    | (fail_if_no_progress (apply keeps_mk; on_goal 2 => (constructor <;> first | exact .inr (by decide) | exact .inl rfl)))
    | split

theorem State_rxApply_keeps {m_ : Nat} (hm : maskIn 50184 m_ = true) {s_ s : State} (h_ : Keeps m_ s_ s) (pre : State) (r : Nat) : Keeps m_ s_ (State.rxApply s pre r) := by
  refine Keeps.after hm h_ ?_
  clear hm h_
  unfold State.rxApply
  repeat' with_reducible first
    | assumption
    | exact Keeps.refl _ _
    | (show maskIn _ _ = true; decide)
    | apply State_setPresents_keeps
    | apply State_setRx_keeps
    | apply keepsR_next
    | apply keeps_ite
    | apply keepsR_ite
    | apply keeps_ite2
    | apply keeps_foldl
    | apply keeps_foldl2
    | apply keeps_foldl3
    | intro _
    | dsimp only
    | (fail_if_no_progress (apply keeps_mk; on_goal 2 => (constructor <;> first | exact .inr (by decide) | exact .inl rfl)))
    | split

theorem State_flowRaster_keeps {m_ : Nat} (hm : maskIn 1025 m_ = true) {s_ s : State} (h_ : Keeps m_ s_ s) (pre : State) (n : Nat) : Keeps m_ s_ (State.flowRaster s pre n) := by
  refine Keeps.after hm h_ ?_
  clear hm h_
  unfold State.flowRaster
  repeat' with_reducible first
    | assumption
    | exact Keeps.refl _ _
    | (show maskIn _ _ = true; decide)
    | apply State_setNum_keeps
    | apply State_slotAcquire_keeps
    | apply keepsR_next
    | apply keeps_ite
    | apply keepsR_ite
    | apply keeps_ite2
    | apply keeps_foldl
    | apply keeps_foldl2
    | apply keeps_foldl3
    | intro _
    | dsimp only
    | (fail_if_no_progress (apply keeps_mk; on_goal 2 => (constructor <;> first | exact .inr (by decide) | exact .inl rfl)))
    | split

theorem State_area3Apply_keeps {m_ : Nat} (hm : maskIn 716735 m_ = true) {s_ s : State} (h_ : Keeps m_ s_ s) (pre : State) : Keeps m_ s_ (State.area3Apply s pre) := by
  refine Keeps.after hm h_ ?_
  clear hm h_
  unfold State.area3Apply
  repeat' with_reducible first
    | assumption
    | exact Keeps.refl _ _
    | (show maskIn _ _ = true; decide)
    | apply State_ethApply_keeps
    | apply State_flowRaster_keeps
    | apply State_rxApply_keeps
    | apply State_sdiApply_keeps
    | apply State_setTx_keeps
    | apply State_storeApply_keeps
    | apply keepsR_next
    | apply keeps_ite
    | apply keepsR_ite
    | apply keeps_ite2
    | apply keeps_foldl
    | apply keeps_foldl2
    | apply keeps_foldl3
    | intro _
    | dsimp only
    | (fail_if_no_progress (apply keeps_mk; on_goal 2 => (constructor <;> first | exact .inr (by decide) | exact .inl rfl)))
    | split

end Sys2Proof.Machine
end

