-- ==== Sys2Proof/Laws/KeepsKeys.lean ====
section
/-! SUPPORT. Keys: what every operation keeps. -/

namespace Sys2Proof.Machine

theorem State_setKey_keeps {m_ : Nat} (hm : maskIn 524288 m_ = true) {s_ s : State} (h_ : Keeps m_ s_ s) (n : Nat) (k : KeySlot) : Keeps m_ s_ (State.setKey s n k) := by
  refine Keeps.after hm h_ ?_
  clear hm h_
  unfold State.setKey
  repeat' with_reducible first
    | assumption
    | exact Keeps.refl _ _
    | (show maskIn _ _ = true; decide)
    | apply State_setUpd_keeps
    | apply keepsR_next
    | apply keeps_ite
    | apply keepsR_ite
    | apply keeps_ite2
    | apply keeps_foldl
    | apply keeps_foldl2
    | apply keeps_foldl3
    | intro _
    | dsimp only
    | (fail_if_no_progress (apply keeps_mk; on_goal 2 => (constructor <;> first | exact .inr (by decide) | exact .inl rfl)))
    | split

theorem State_orphan_keeps {m_ : Nat} (hm : maskIn 524288 m_ = true) {s_ s : State} (h_ : Keeps m_ s_ s) (n : Nat) : Keeps m_ s_ (State.orphan s n).2 := by
  refine Keeps.after hm h_ ?_
  clear hm h_
  unfold State.orphan
  repeat' with_reducible first
    | assumption
    | exact Keeps.refl _ _
    | (show maskIn _ _ = true; decide)
    | apply State_setKey_keeps
    | apply keepsR_next
    | apply keeps_ite
    | apply keepsR_ite
    | apply keeps_ite2
    | apply keeps_foldl
    | apply keeps_foldl2
    | apply keeps_foldl3
    | intro _
    | dsimp only
    | (fail_if_no_progress (apply keeps_mk; on_goal 2 => (constructor <;> first | exact .inr (by decide) | exact .inl rfl)))
    | split

theorem State_dropPend_keeps {m_ : Nat} (hm : maskIn 525194 m_ = true) {s_ s : State} (h_ : Keeps m_ s_ s) (n : Nat) (cause : Nat) : Keeps m_ s_ (State.dropPend s n cause) := by
  refine Keeps.after hm h_ ?_
  clear hm h_
  unfold State.dropPend
  repeat' with_reducible first
    | assumption
    | exact Keeps.refl _ _
    | (show maskIn _ _ = true; decide)
    | apply State_raise_keeps
    | apply State_setKey_keeps
    | apply keepsR_next
    | apply keeps_ite
    | apply keepsR_ite
    | apply keeps_ite2
    | apply keeps_foldl
    | apply keeps_foldl2
    | apply keeps_foldl3
    | intro _
    | dsimp only
    | (fail_if_no_progress (apply keeps_mk; on_goal 2 => (constructor <;> first | exact .inr (by decide) | exact .inl rfl)))
    | split

theorem State_invalidateKey_keeps {m_ : Nat} (hm : maskIn 525194 m_ = true) {s_ s : State} (h_ : Keeps m_ s_ s) (n : Nat) : Keeps m_ s_ (State.invalidateKey s n) := by
  refine Keeps.after hm h_ ?_
  clear hm h_
  unfold State.invalidateKey
  repeat' with_reducible first
    | assumption
    | exact Keeps.refl _ _
    | (show maskIn _ _ = true; decide)
    | apply State_dropPend_keeps
    | apply State_orphan_keeps
    | apply State_raise_keeps
    | apply State_setKey_keeps
    | apply keepsR_next
    | apply keeps_ite
    | apply keepsR_ite
    | apply keeps_ite2
    | apply keeps_foldl
    | apply keeps_foldl2
    | apply keeps_foldl3
    | intro _
    | dsimp only
    | (fail_if_no_progress (apply keeps_mk; on_goal 2 => (constructor <;> first | exact .inr (by decide) | exact .inl rfl)))
    | split

theorem State_invalidateWrite_keeps {m_ : Nat} (hm : maskIn 525194 m_ = true) {s_ s : State} (h_ : Keeps m_ s_ s) (n : Nat) (v : Nat) : Keeps m_ s_ (State.invalidateWrite s n v).2 := by
  refine Keeps.after hm h_ ?_
  clear hm h_
  unfold State.invalidateWrite
  repeat' with_reducible first
    | assumption
    | exact Keeps.refl _ _
    | (show maskIn _ _ = true; decide)
    | apply State_invalidateKey_keeps
    | apply keepsR_next
    | apply keeps_ite
    | apply keepsR_ite
    | apply keeps_ite2
    | apply keeps_foldl
    | apply keeps_foldl2
    | apply keeps_foldl3
    | intro _
    | dsimp only
    | (fail_if_no_progress (apply keeps_mk; on_goal 2 => (constructor <;> first | exact .inr (by decide) | exact .inl rfl)))
    | split

theorem State_lcRoll_keeps {m_ : Nat} (hm : maskIn 524304 m_ = true) {s_ s : State} (h_ : Keeps m_ s_ s)  : Keeps m_ s_ (State.lcRoll s) := by
  refine Keeps.after hm h_ ?_
  clear hm h_
  unfold State.lcRoll
  repeat' with_reducible first
    | assumption
    | exact Keeps.refl _ _
    | (show maskIn _ _ = true; decide)
    | apply keepsR_next
    | apply keeps_ite
    | apply keepsR_ite
    | apply keeps_ite2
    | apply keeps_foldl
    | apply keeps_foldl2
    | apply keeps_foldl3
    | intro _
    | dsimp only
    | (fail_if_no_progress (apply keeps_mk; on_goal 2 => (constructor <;> first | exact .inr (by decide) | exact .inl rfl)))
    | split

theorem State_lcTo_keeps {m_ : Nat} (hm : maskIn 525194 m_ = true) {s_ s : State} (h_ : Keeps m_ s_ s) (v : Nat) : Keeps m_ s_ (State.lcTo s v) := by
  refine Keeps.after hm h_ ?_
  clear hm h_
  unfold State.lcTo
  repeat' with_reducible first
    | assumption
    | exact Keeps.refl _ _
    | (show maskIn _ _ = true; decide)
    | apply State_raise_keeps
    | apply State_setUpd_keeps
    | apply keepsR_next
    | apply keeps_ite
    | apply keepsR_ite
    | apply keeps_ite2
    | apply keeps_foldl
    | apply keeps_foldl2
    | apply keeps_foldl3
    | intro _
    | dsimp only
    | (fail_if_no_progress (apply keeps_mk; on_goal 2 => (constructor <;> first | exact .inr (by decide) | exact .inl rfl)))
    | split

theorem State_fusedEffects_keeps {m_ : Nat} (hm : maskIn 525194 m_ = true) {s_ s : State} (h_ : Keeps m_ s_ s)  : Keeps m_ s_ (State.fusedEffects s) := by
  refine Keeps.after hm h_ ?_
  clear hm h_
  unfold State.fusedEffects
  repeat' with_reducible first
    | assumption
    | exact Keeps.refl _ _
    | (show maskIn _ _ = true; decide)
    | apply State_invalidateKey_keeps
    | apply keepsR_next
    | apply keeps_ite
    | apply keepsR_ite
    | apply keeps_ite2
    | apply keeps_foldl
    | apply keeps_foldl2
    | apply keeps_foldl3
    | intro _
    | dsimp only
    | (fail_if_no_progress (apply keeps_mk; on_goal 2 => (constructor <;> first | exact .inr (by decide) | exact .inl rfl)))
    | split

theorem State_decommission_keeps {m_ : Nat} (hm : maskIn 525194 m_ = true) {s_ s : State} (h_ : Keeps m_ s_ s)  : Keeps m_ s_ (State.decommission s) := by
  refine Keeps.after hm h_ ?_
  clear hm h_
  unfold State.decommission
  repeat' with_reducible first
    | assumption
    | exact Keeps.refl _ _
    | (show maskIn _ _ = true; decide)
    | apply State_lcTo_keeps
    | apply State_setUpd_keeps
    | apply keepsR_next
    | apply keeps_ite
    | apply keepsR_ite
    | apply keeps_ite2
    | apply keeps_foldl
    | apply keeps_foldl2
    | apply keeps_foldl3
    | intro _
    | dsimp only
    | (fail_if_no_progress (apply keeps_mk; on_goal 2 => (constructor <;> first | exact .inr (by decide) | exact .inl rfl)))
    | split

theorem State_lcRequestWrite_keeps {m_ : Nat} (hm : maskIn 525210 m_ = true) {s_ s : State} (h_ : Keeps m_ s_ s) (b : List Byte) : Keeps m_ s_ (State.lcRequestWrite s b).2 := by
  refine Keeps.after hm h_ ?_
  clear hm h_
  unfold State.lcRequestWrite
  repeat' with_reducible first
    | assumption
    | exact Keeps.refl _ _
    | (show maskIn _ _ = true; decide)
    | apply State_decommission_keeps
    | apply State_invalidateKey_keeps
    | apply State_lcRoll_keeps
    | apply State_lcTo_keeps
    | apply keepsR_next
    | apply keeps_ite
    | apply keepsR_ite
    | apply keeps_ite2
    | apply keeps_foldl
    | apply keeps_foldl2
    | apply keeps_foldl3
    | intro _
    | dsimp only
    | (fail_if_no_progress (apply keeps_mk; on_goal 2 => (constructor <;> first | exact .inr (by decide) | exact .inl rfl)))
    | split

theorem State_loadWrite_keeps {m_ : Nat} (hm : maskIn 525194 m_ = true) {s_ s : State} (h_ : Keeps m_ s_ s) (slot : Nat) (n : Nat) (b : List Byte) : Keeps m_ s_ (State.loadWrite s slot n b).2 := by
  refine Keeps.after hm h_ ?_
  clear hm h_
  unfold State.loadWrite
  repeat' with_reducible first
    | assumption
    | exact Keeps.refl _ _
    | (show maskIn _ _ = true; decide)
    | apply State_dropPend_keeps
    | apply State_raise_keeps
    | apply State_setKey_keeps
    | apply keepsR_next
    | apply keeps_ite
    | apply keepsR_ite
    | apply keeps_ite2
    | apply keeps_foldl
    | apply keeps_foldl2
    | apply keeps_foldl3
    | intro _
    | dsimp only
    | (fail_if_no_progress (apply keeps_mk; on_goal 2 => (constructor <;> first | exact .inr (by decide) | exact .inl rfl)))
    | split

theorem State_verifyWrite_keeps {m_ : Nat} (hm : maskIn 525194 m_ = true) {s_ s : State} (h_ : Keeps m_ s_ s) (n : Nat) (b : List Byte) : Keeps m_ s_ (State.verifyWrite s n b).2 := by
  refine Keeps.after hm h_ ?_
  clear hm h_
  unfold State.verifyWrite
  repeat' with_reducible first
    | assumption
    | exact Keeps.refl _ _
    | (show maskIn _ _ = true; decide)
    | apply State_raise_keeps
    | apply State_setKey_keeps
    | apply keepsR_next
    | apply keeps_ite
    | apply keepsR_ite
    | apply keeps_ite2
    | apply keeps_foldl
    | apply keeps_foldl2
    | apply keeps_foldl3
    | intro _
    | dsimp only
    | (fail_if_no_progress (apply keeps_mk; on_goal 2 => (constructor <;> first | exact .inr (by decide) | exact .inl rfl)))
    | split

theorem execPendingKeyTimeout_keeps {m_ : Nat} (hm : maskIn 525226 m_ = true) {s_ s0 : State} (h_ : Keeps m_ s_ s0) (n : Fin 256) (at_ : Nat) : KeepsR m_ s_ (execPendingKeyTimeout n at_ s0) := by
  refine KeepsR.after hm h_ ?_
  clear hm h_
  unfold execPendingKeyTimeout
  repeat' with_reducible first
    | assumption
    | exact Keeps.refl _ _
    | (show maskIn _ _ = true; decide)
    | apply State_dropPend_keeps
    | apply State_toTick_keeps
    | apply keepsR_next
    | apply keeps_ite
    | apply keepsR_ite
    | apply keeps_ite2
    | apply keeps_foldl
    | apply keeps_foldl2
    | apply keeps_foldl3
    | intro _
    | dsimp only
    | (fail_if_no_progress (apply keeps_mk; on_goal 2 => (constructor <;> first | exact .inr (by decide) | exact .inl rfl)))
    | split

theorem State_tagFail_keeps {m_ : Nat} (hm : maskIn 657295 m_ = true) {s_ s : State} (h_ : Keeps m_ s_ s) (n : Nat) : Keeps m_ s_ (State.tagFail s n) := by
  refine Keeps.after hm h_ ?_
  clear hm h_
  unfold State.tagFail
  repeat' with_reducible first
    | assumption
    | exact Keeps.refl _ _
    | (show maskIn _ _ = true; decide)
    | apply State_orphan_keeps
    | apply State_raise_keeps
    | apply State_report_keeps
    | apply State_setKey_keeps
    | apply keepsR_next
    | apply keeps_ite
    | apply keepsR_ite
    | apply keeps_ite2
    | apply keeps_foldl
    | apply keeps_foldl2
    | apply keeps_foldl3
    | intro _
    | dsimp only
    | (fail_if_no_progress (apply keeps_mk; on_goal 2 => (constructor <;> first | exact .inr (by decide) | exact .inl rfl)))
    | split

theorem execKeyPatrol_keeps {m_ : Nat} (hm : maskIn 657327 m_ = true) {s_ s0 : State} (h_ : Keeps m_ s_ s0) (failed : List (Fin 256)) (at_ : Nat) : KeepsR m_ s_ (execKeyPatrol failed at_ s0) := by
  refine KeepsR.after hm h_ ?_
  clear hm h_
  unfold execKeyPatrol
  repeat' with_reducible first
    | assumption
    | exact Keeps.refl _ _
    | (show maskIn _ _ = true; decide)
    | apply State_tagFail_keeps
    | apply State_toTick_keeps
    | apply keepsR_next
    | apply keeps_ite
    | apply keepsR_ite
    | apply keeps_ite2
    | apply keeps_foldl
    | apply keeps_foldl2
    | apply keeps_foldl3
    | intro _
    | dsimp only
    | (fail_if_no_progress (apply keeps_mk; on_goal 2 => (constructor <;> first | exact .inr (by decide) | exact .inl rfl)))
    | split

theorem execKeyStoreAccessRefused_keeps {m_ : Nat} (hm : maskIn 906 m_ = true) {s_ s : State} (h_ : Keeps m_ s_ s) (master : Fin 8) (flash : Bool) (access : Fin 4) : KeepsR m_ s_ (execKeyStoreAccessRefused master flash access s) := by
  refine KeepsR.after hm h_ ?_
  clear hm h_
  unfold execKeyStoreAccessRefused
  repeat' with_reducible first
    | assumption
    | exact Keeps.refl _ _
    | (show maskIn _ _ = true; decide)
    | apply State_raise_keeps
    | apply keepsR_next
    | apply keeps_ite
    | apply keepsR_ite
    | apply keeps_ite2
    | apply keeps_foldl
    | apply keeps_foldl2
    | apply keeps_foldl3
    | intro _
    | dsimp only
    | (fail_if_no_progress (apply keeps_mk; on_goal 2 => (constructor <;> first | exact .inr (by decide) | exact .inl rfl)))
    | split

theorem State_setImg_keeps {m_ : Nat} (hm : maskIn 524288 m_ = true) {s_ s : State} (h_ : Keeps m_ s_ s) (k : Nat) (v : ImgSlot) : Keeps m_ s_ (State.setImg s k v) := by
  refine Keeps.after hm h_ ?_
  clear hm h_
  unfold State.setImg
  repeat' with_reducible first
    | assumption
    | exact Keeps.refl _ _
    | (show maskIn _ _ = true; decide)
    | apply State_setUpd_keeps
    | apply keepsR_next
    | apply keeps_ite
    | apply keepsR_ite
    | apply keeps_ite2
    | apply keeps_foldl
    | apply keeps_foldl2
    | apply keeps_foldl3
    | intro _
    | dsimp only
    | (fail_if_no_progress (apply keeps_mk; on_goal 2 => (constructor <;> first | exact .inr (by decide) | exact .inl rfl)))
    | split

theorem State_attestWrite_keeps {m_ : Nat} (hm : maskIn 524288 m_ = true) {s_ s : State} (h_ : Keeps m_ s_ s) (slot : Nat) (nonce : List Byte) : Keeps m_ s_ (State.attestWrite s slot nonce).2 := by
  refine Keeps.after hm h_ ?_
  clear hm h_
  unfold State.attestWrite
  repeat' with_reducible first
    | assumption
    | exact Keeps.refl _ _
    | (show maskIn _ _ = true; decide)
    | apply State_setUpd_keeps
    | apply keepsR_next
    | apply keeps_ite
    | apply keepsR_ite
    | apply keeps_ite2
    | apply keeps_foldl
    | apply keeps_foldl2
    | apply keeps_foldl3
    | intro _
    | dsimp only
    | (fail_if_no_progress (apply keeps_mk; on_goal 2 => (constructor <;> first | exact .inr (by decide) | exact .inl rfl)))
    | split

theorem execAttestReportReady_keeps {m_ : Nat} (hm : maskIn 524320 m_ = true) {s_ s0 : State} (h_ : Keeps m_ s_ s0) (at_ : Nat) : KeepsR m_ s_ (execAttestReportReady at_ s0) := by
  refine KeepsR.after hm h_ ?_
  clear hm h_
  unfold execAttestReportReady
  repeat' with_reducible first
    | assumption
    | exact Keeps.refl _ _
    | (show maskIn _ _ = true; decide)
    | apply State_setUpd_keeps
    | apply State_toTick_keeps
    | apply keepsR_next
    | apply keeps_ite
    | apply keepsR_ite
    | apply keeps_ite2
    | apply keeps_foldl
    | apply keeps_foldl2
    | apply keeps_foldl3
    | intro _
    | dsimp only
    | (fail_if_no_progress (apply keeps_mk; on_goal 2 => (constructor <;> first | exact .inr (by decide) | exact .inl rfl)))
    | split

end Sys2Proof.Machine
end

