-- ==== Sys2Proof/Laws/KeepsPacer.lean ====
section
/-! SUPPORT. Pacer: what every operation keeps. -/

namespace Sys2Proof.Machine

theorem State_gmDue_keeps {m_ : Nat} (hm : maskIn 8192 m_ = true) {s_ s t : State} (h : Keeps m_ s_ s) (m ty iv : Nat) {q : Nat}
    (e : s.gmDue m ty iv = some (q, t)) : Keeps m_ s_ t := by
  unfold State.gmDue at e
  dsimp only at e
  split at e
  · cases e
    refine keeps_mk h ?_
    constructor <;> first | exact .inr (bit_of_maskIn hm (by decide)) | exact .inl rfl
  · cases e

theorem execOverrideExpiry_keeps {m_ : Nat} (hm : maskIn 8224 m_ = true) {s_ s0 : State} (h_ : Keeps m_ s_ s0) (at_ : Nat) : KeepsR m_ s_ (execOverrideExpiry at_ s0) := by
  refine KeepsR.after hm h_ ?_
  clear hm h_
  unfold execOverrideExpiry
  repeat' with_reducible first
    | assumption
    | exact Keeps.refl _ _
    | (show maskIn _ _ = true; decide)
    | apply State_setPac_keeps
    | apply State_toTick_keeps
    | apply keepsR_next
    | apply keeps_ite
    | apply keepsR_ite
    | apply keeps_ite2
    | apply keeps_foldl
    | apply keeps_foldl2
    | apply keeps_foldl3
    | intro _
    | dsimp only
    | (fail_if_no_progress (apply keeps_mk; on_goal 2 => (constructor <;> first | exact .inr (by decide) | exact .inl rfl)))
    | split

theorem execReferencePresent_keeps {m_ : Nat} (hm : maskIn 42017 m_ = true) {s_ s0 : State} (h_ : Keeps m_ s_ s0) (r : Fin 14) (at_ : Nat) : KeepsR m_ s_ (execReferencePresent r at_ s0) := by
  refine KeepsR.after hm h_ ?_
  clear hm h_
  unfold execReferencePresent
  repeat' with_reducible first
    | assumption
    | exact Keeps.refl _ _
    | (show maskIn _ _ = true; decide)
    | apply State_present_keeps
    | apply State_setNum_keeps
    | apply State_setRef_keeps
    | apply State_toTick_keeps
    | apply State_winBegin_keeps
    | apply keepsR_next
    | apply keeps_ite
    | apply keepsR_ite
    | apply keeps_ite2
    | apply keeps_foldl
    | apply keeps_foldl2
    | apply keeps_foldl3
    | intro _
    | dsimp only
    | (fail_if_no_progress (apply keeps_mk; on_goal 2 => (constructor <;> first | exact .inr (by decide) | exact .inl rfl)))
    | split

theorem execReferenceAbsent_keeps {m_ : Nat} (hm : maskIn 698303 m_ = true) {s_ s0 : State} (h_ : Keeps m_ s_ s0) (r : Fin 14) (at_ : Nat) : KeepsR m_ s_ (execReferenceAbsent r at_ s0) := by
  refine KeepsR.after hm h_ ?_
  clear hm h_
  unfold execReferenceAbsent
  repeat' with_reducible first
    | assumption
    | exact Keeps.refl _ _
    | (show maskIn _ _ = true; decide)
    | apply State_refAbsent_keeps
    | apply State_toTick_keeps
    | apply keepsR_next
    | apply keeps_ite
    | apply keepsR_ite
    | apply keeps_ite2
    | apply keeps_foldl
    | apply keeps_foldl2
    | apply keeps_foldl3
    | intro _
    | dsimp only
    | (fail_if_no_progress (apply keeps_mk; on_goal 2 => (constructor <;> first | exact .inr (by decide) | exact .inl rfl)))
    | split

theorem execQualificationWindow_keeps {m_ : Nat} (hm : maskIn 698303 m_ = true) {s_ s0 : State} (h_ : Keeps m_ s_ s0) (r : Fin 14) (freq : Int) (wander : Nat) (within : Bool) (at_ : Nat) : KeepsR m_ s_ (execQualificationWindow r freq wander within at_ s0) := by
  refine KeepsR.after hm h_ ?_
  clear hm h_
  unfold execQualificationWindow
  repeat' with_reducible first
    | assumption
    | exact Keeps.refl _ _
    | (show maskIn _ _ = true; decide)
    | apply State_bump_keeps
    | apply State_evalSel_keeps
    | apply State_pacEvent_keeps
    | apply State_present_keeps
    | apply State_qualify_keeps
    | apply State_raise_keeps
    | apply State_setInt_keeps
    | apply State_setNum_keeps
    | apply State_setRef_keeps
    | apply State_toTick_keeps
    | apply State_winNext_keeps
    | apply keepsR_next
    | apply keeps_ite
    | apply keepsR_ite
    | apply keeps_ite2
    | apply keeps_foldl
    | apply keeps_foldl2
    | apply keeps_foldl3
    | intro _
    | dsimp only
    | (fail_if_no_progress (apply keeps_mk; on_goal 2 => (constructor <;> first | exact .inr (by decide) | exact .inl rfl)))
    | split

theorem execWtrExpiry_keeps {m_ : Nat} (hm : maskIn 665535 m_ = true) {s_ s0 : State} (h_ : Keeps m_ s_ s0) (r : Fin 14) (at_ : Nat) : KeepsR m_ s_ (execWtrExpiry r at_ s0) := by
  refine KeepsR.after hm h_ ?_
  clear hm h_
  unfold execWtrExpiry
  repeat' with_reducible first
    | assumption
    | exact Keeps.refl _ _
    | (show maskIn _ _ = true; decide)
    | apply State_evalSel_keeps
    | apply State_qualify_keeps
    | apply State_toTick_keeps
    | apply keepsR_next
    | apply keeps_ite
    | apply keepsR_ite
    | apply keeps_ite2
    | apply keeps_foldl
    | apply keeps_foldl2
    | apply keeps_foldl3
    | intro _
    | dsimp only
    | (fail_if_no_progress (apply keeps_mk; on_goal 2 => (constructor <;> first | exact .inr (by decide) | exact .inl rfl)))
    | split

theorem execSwitchComplete_keeps {m_ : Nat} (hm : maskIn 665535 m_ = true) {s_ s0 : State} (h_ : Keeps m_ s_ s0) (at_ : Nat) : KeepsR m_ s_ (execSwitchComplete at_ s0) := by
  refine KeepsR.after hm h_ ?_
  clear hm h_
  unfold execSwitchComplete
  repeat' with_reducible first
    | assumption
    | exact Keeps.refl _ _
    | (show maskIn _ _ = true; decide)
    | apply State_evalSel_keeps
    | apply State_switchDone_keeps
    | apply State_toTick_keeps
    | apply keepsR_next
    | apply keeps_ite
    | apply keepsR_ite
    | apply keeps_ite2
    | apply keeps_foldl
    | apply keeps_foldl2
    | apply keeps_foldl3
    | intro _
    | dsimp only
    | (fail_if_no_progress (apply keeps_mk; on_goal 2 => (constructor <;> first | exact .inr (by decide) | exact .inl rfl)))
    | split

theorem State_tickSource_keeps {m_ : Nat} (hm : maskIn 9131 m_ = true) {s_ s : State} (h_ : Keeps m_ s_ s) (src : Nat) (off : Int) : Keeps m_ s_ (State.tickSource s src off) := by
  refine Keeps.after hm h_ ?_
  clear hm h_
  unfold State.tickSource
  repeat' with_reducible first
    | assumption
    | exact Keeps.refl _ _
    | (show maskIn _ _ = true; decide)
    | apply State_pacEvent_keeps
    | apply State_setNum_keeps
    | apply State_setPac_keeps
    | apply State_steer_keeps
    | apply keepsR_next
    | apply keeps_ite
    | apply keepsR_ite
    | apply keeps_ite2
    | apply keeps_foldl
    | apply keeps_foldl2
    | apply keeps_foldl3
    | intro _
    | dsimp only
    | (fail_if_no_progress (apply keeps_mk; on_goal 2 => (constructor <;> first | exact .inr (by decide) | exact .inl rfl)))
    | split

theorem execOcxoLoss_keeps {m_ : Nat} (hm : maskIn 665519 m_ = true) {s_ s0 : State} (h_ : Keeps m_ s_ s0) (part : Int) (at_ : Nat) : KeepsR m_ s_ (execOcxoLoss part at_ s0) := by
  refine KeepsR.after hm h_ ?_
  clear hm h_
  unfold execOcxoLoss
  repeat' with_reducible first
    | assumption
    | exact Keeps.refl _ _
    | (show maskIn _ _ = true; decide)
    | apply State_report_keeps
    | apply State_setPac_keeps
    | apply State_tickSource_keeps
    | apply State_toTick_keeps
    | apply keepsR_next
    | apply keeps_ite
    | apply keepsR_ite
    | apply keeps_ite2
    | apply keeps_foldl
    | apply keeps_foldl2
    | apply keeps_foldl3
    | intro _
    | dsimp only
    | (fail_if_no_progress (apply keeps_mk; on_goal 2 => (constructor <;> first | exact .inr (by decide) | exact .inl rfl)))
    | split

theorem execOcxoInReturn_keeps {m_ : Nat} (hm : maskIn 665519 m_ = true) {s_ s0 : State} (h_ : Keeps m_ s_ s0) (at_ : Nat) : KeepsR m_ s_ (execOcxoInReturn at_ s0) := by
  refine KeepsR.after hm h_ ?_
  clear hm h_
  unfold execOcxoInReturn
  repeat' with_reducible first
    | assumption
    | exact Keeps.refl _ _
    | (show maskIn _ _ = true; decide)
    | apply State_conditionEnd_keeps
    | apply State_report_keeps
    | apply State_setPac_keeps
    | apply State_toTick_keeps
    | apply keepsR_next
    | apply keeps_ite
    | apply keepsR_ite
    | apply keeps_ite2
    | apply keeps_foldl
    | apply keeps_foldl2
    | apply keeps_foldl3
    | intro _
    | dsimp only
    | (fail_if_no_progress (apply keeps_mk; on_goal 2 => (constructor <;> first | exact .inr (by decide) | exact .inl rfl)))
    | split

theorem execOcxoMeasureWindow_keeps {m_ : Nat} (hm : maskIn 9131 m_ = true) {s_ s0 : State} (h_ : Keeps m_ s_ s0) (offset : Int) (at_ : Nat) : KeepsR m_ s_ (execOcxoMeasureWindow offset at_ s0) := by
  refine KeepsR.after hm h_ ?_
  clear hm h_
  unfold execOcxoMeasureWindow
  repeat' with_reducible first
    | assumption
    | exact Keeps.refl _ _
    | (show maskIn _ _ = true; decide)
    | apply State_setInt_keeps
    | apply State_setPac_keeps
    | apply State_tickSource_keeps
    | apply State_toTick_keeps
    | apply keepsR_next
    | apply keeps_ite
    | apply keepsR_ite
    | apply keeps_ite2
    | apply keeps_foldl
    | apply keeps_foldl2
    | apply keeps_foldl3
    | intro _
    | dsimp only
    | (fail_if_no_progress (apply keeps_mk; on_goal 2 => (constructor <;> first | exact .inr (by decide) | exact .inl rfl)))
    | split

theorem State_seeRefs_keeps {m_ : Nat} (hm : maskIn 41985 m_ = true) {s_ s : State} (h_ : Keeps m_ s_ s) (seen : List (Nat × Int × Int)) : Keeps m_ s_ (State.seeRefs s seen) := by
  refine Keeps.after hm h_ ?_
  clear hm h_
  unfold State.seeRefs
  repeat' with_reducible first
    | assumption
    | exact Keeps.refl _ _
    | (show maskIn _ _ = true; decide)
    | apply State_present_keeps
    | apply State_setInt_keeps
    | apply State_setRef_keeps
    | apply keepsR_next
    | apply keeps_ite
    | apply keepsR_ite
    | apply keeps_ite2
    | apply keeps_foldl
    | apply keeps_foldl2
    | apply keeps_foldl3
    | intro _
    | dsimp only
    | (fail_if_no_progress (apply keeps_mk; on_goal 2 => (constructor <;> first | exact .inr (by decide) | exact .inl rfl)))
    | split

theorem State_loopSteer_keeps {m_ : Nat} (hm : maskIn 8225 m_ = true) {s_ s : State} (h_ : Keeps m_ s_ s)  : Keeps m_ s_ (State.loopSteer s) := by
  refine Keeps.after hm h_ ?_
  clear hm h_
  unfold State.loopSteer
  repeat' with_reducible first
    | assumption
    | exact Keeps.refl _ _
    | (show maskIn _ _ = true; decide)
    | apply State_setPac_keeps
    | apply State_steer_keeps
    | apply keepsR_next
    | apply keeps_ite
    | apply keepsR_ite
    | apply keeps_ite2
    | apply keeps_foldl
    | apply keeps_foldl2
    | apply keeps_foldl3
    | intro _
    | dsimp only
    | (fail_if_no_progress (apply keeps_mk; on_goal 2 => (constructor <;> first | exact .inr (by decide) | exact .inl rfl)))
    | split

theorem State_slewB_keeps {m_ : Nat} (hm : maskIn 8193 m_ = true) {s_ s : State} (h_ : Keeps m_ s_ s)  : Keeps m_ s_ (State.slewB s) := by
  refine Keeps.after hm h_ ?_
  clear hm h_
  unfold State.slewB
  repeat' with_reducible first
    | assumption
    | exact Keeps.refl _ _
    | (show maskIn _ _ = true; decide)
    | apply State_setInt_keeps
    | apply State_setPac_keeps
    | apply keepsR_next
    | apply keeps_ite
    | apply keepsR_ite
    | apply keeps_ite2
    | apply keeps_foldl
    | apply keeps_foldl2
    | apply keeps_foldl3
    | intro _
    | dsimp only
    | (fail_if_no_progress (apply keeps_mk; on_goal 2 => (constructor <;> first | exact .inr (by decide) | exact .inl rfl)))
    | split

theorem execLoopUpdate_keeps {m_ : Nat} (hm : maskIn 42017 m_ = true) {s_ s0 : State} (h_ : Keeps m_ s_ s0) (seen : List (Nat × Int × Int)) (at_ : Nat) : KeepsR m_ s_ (execLoopUpdate seen at_ s0) := by
  refine KeepsR.after hm h_ ?_
  clear hm h_
  unfold execLoopUpdate
  repeat' with_reducible first
    | assumption
    | exact Keeps.refl _ _
    | (show maskIn _ _ = true; decide)
    | apply State_loopSteer_keeps
    | apply State_seeRefs_keeps
    | apply State_setInt_keeps
    | apply State_setPac_keeps
    | apply State_slewB_keeps
    | apply State_toTick_keeps
    | apply keepsR_next
    | apply keeps_ite
    | apply keepsR_ite
    | apply keeps_ite2
    | apply keeps_foldl
    | apply keeps_foldl2
    | apply keeps_foldl3
    | intro _
    | dsimp only
    | (fail_if_no_progress (apply keeps_mk; on_goal 2 => (constructor <;> first | exact .inr (by decide) | exact .inl rfl)))
    | split

theorem execLockAchieved_keeps {m_ : Nat} (hm : maskIn 665535 m_ = true) {s_ s0 : State} (h_ : Keeps m_ s_ s0) (at_ : Nat) : KeepsR m_ s_ (execLockAchieved at_ s0) := by
  refine KeepsR.after hm h_ ?_
  clear hm h_
  unfold execLockAchieved
  repeat' with_reducible first
    | assumption
    | exact Keeps.refl _ _
    | (show maskIn _ _ = true; decide)
    | apply State_evalSel_keeps
    | apply State_setNum_keeps
    | apply State_setPac_keeps
    | apply State_setPacer_keeps
    | apply State_toTick_keeps
    | apply keepsR_next
    | apply keeps_ite
    | apply keepsR_ite
    | apply keeps_ite2
    | apply keeps_foldl
    | apply keeps_foldl2
    | apply keeps_foldl3
    | intro _
    | dsimp only
    | (fail_if_no_progress (apply keeps_mk; on_goal 2 => (constructor <;> first | exact .inr (by decide) | exact .inl rfl)))
    | split

theorem State_openLoop_keeps {m_ : Nat} (hm : maskIn 665599 m_ = true) {s_ s : State} (h_ : Keeps m_ s_ s) (cause : Nat) : Keeps m_ s_ (State.openLoop s cause) := by
  refine Keeps.after hm h_ ?_
  clear hm h_
  unfold State.openLoop
  repeat' with_reducible first
    | assumption
    | exact Keeps.refl _ _
    | (show maskIn _ _ = true; decide)
    | apply State_dropPending_keeps
    | apply State_evalSel_keeps
    | apply State_noteBank_keeps
    | apply State_raise_keeps
    | apply State_setInt_keeps
    | apply State_setNum_keeps
    | apply State_setPac_keeps
    | apply State_setPacer_keeps
    | apply setReg_keeps
    | apply keepsR_next
    | apply keeps_ite
    | apply keepsR_ite
    | apply keeps_ite2
    | apply keeps_foldl
    | apply keeps_foldl2
    | apply keeps_foldl3
    | intro _
    | dsimp only
    | (fail_if_no_progress (apply keeps_mk; on_goal 2 => (constructor <;> first | exact .inr (by decide) | exact .inl rfl)))
    | split

theorem State_closeLoop_keeps {m_ : Nat} (hm : maskIn 665599 m_ = true) {s_ s : State} (h_ : Keeps m_ s_ s) (cause : Nat) : Keeps m_ s_ (State.closeLoop s cause) := by
  refine Keeps.after hm h_ ?_
  clear hm h_
  unfold State.closeLoop
  repeat' with_reducible first
    | assumption
    | exact Keeps.refl _ _
    | (show maskIn _ _ = true; decide)
    | apply State_acquire_keeps
    | apply State_noteBank_keeps
    | apply State_pacEvent_keeps
    | apply State_raise_keeps
    | apply State_report_keeps
    | apply State_setInt_keeps
    | apply State_setNum_keeps
    | apply State_setPac_keeps
    | apply State_setPacer_keeps
    | apply State_switchTo_keeps
    | apply setReg_keeps
    | apply keepsR_next
    | apply keeps_ite
    | apply keepsR_ite
    | apply keeps_ite2
    | apply keeps_foldl
    | apply keeps_foldl2
    | apply keeps_foldl3
    | intro _
    | dsimp only
    | (fail_if_no_progress (apply keeps_mk; on_goal 2 => (constructor <;> first | exact .inr (by decide) | exact .inl rfl)))
    | split

theorem State_dcoWrite_keeps {m_ : Nat} (hm : maskIn 8227 m_ = true) {s_ s : State} (h_ : Keeps m_ s_ s) (w : Nat) : Keeps m_ s_ (State.dcoWrite s w) := by
  refine Keeps.after hm h_ ?_
  clear hm h_
  unfold State.dcoWrite
  repeat' with_reducible first
    | assumption
    | exact Keeps.refl _ _
    | (show maskIn _ _ = true; decide)
    | apply State_setBit_keeps
    | apply State_setPac_keeps
    | apply State_steer_keeps
    | apply setReg_keeps
    | apply keepsR_next
    | apply keeps_ite
    | apply keepsR_ite
    | apply keeps_ite2
    | apply keeps_foldl
    | apply keeps_foldl2
    | apply keeps_foldl3
    | intro _
    | dsimp only
    | (fail_if_no_progress (apply keeps_mk; on_goal 2 => (constructor <;> first | exact .inr (by decide) | exact .inl rfl)))
    | split

theorem execPacerLoopDco_keeps {m_ : Nat} (hm : maskIn 8227 m_ = true) {s_ s0 : State} (h_ : Keeps m_ s_ s0) (w : Word) (at_ : Nat) : KeepsR m_ s_ (execPacerLoopDco w at_ s0) := by
  refine KeepsR.after hm h_ ?_
  clear hm h_
  unfold execPacerLoopDco
  repeat' with_reducible first
    | assumption
    | exact Keeps.refl _ _
    | (show maskIn _ _ = true; decide)
    | apply State_dcoWrite_keeps
    | apply State_toTick_keeps
    | apply keepsR_next
    | apply keeps_ite
    | apply keepsR_ite
    | apply keeps_ite2
    | apply keeps_foldl
    | apply keeps_foldl2
    | apply keeps_foldl3
    | intro _
    | dsimp only
    | (fail_if_no_progress (apply keeps_mk; on_goal 2 => (constructor <;> first | exact .inr (by decide) | exact .inl rfl)))
    | split

theorem execLoopWatchdog_keeps {m_ : Nat} (hm : maskIn 665599 m_ = true) {s_ s0 : State} (h_ : Keeps m_ s_ s0) (at_ : Nat) : KeepsR m_ s_ (execLoopWatchdog at_ s0) := by
  refine KeepsR.after hm h_ ?_
  clear hm h_
  unfold execLoopWatchdog
  repeat' with_reducible first
    | assumption
    | exact Keeps.refl _ _
    | (show maskIn _ _ = true; decide)
    | apply State_closeLoop_keeps
    | apply State_setBit_keeps
    | apply State_toTick_keeps
    | apply keepsR_next
    | apply keeps_ite
    | apply keepsR_ite
    | apply keeps_ite2
    | apply keeps_foldl
    | apply keeps_foldl2
    | apply keeps_foldl3
    | intro _
    | dsimp only
    | (fail_if_no_progress (apply keeps_mk; on_goal 2 => (constructor <;> first | exact .inr (by decide) | exact .inl rfl)))
    | split

theorem State_loopCtrlWrite_keeps {m_ : Nat} (hm : maskIn 665599 m_ = true) {s_ s : State} (h_ : Keeps m_ s_ s) (w : Nat) : Keeps m_ s_ (State.loopCtrlWrite s w) := by
  refine Keeps.after hm h_ ?_
  clear hm h_
  unfold State.loopCtrlWrite
  repeat' with_reducible first
    | assumption
    | exact Keeps.refl _ _
    | (show maskIn _ _ = true; decide)
    | apply State_closeLoop_keeps
    | apply State_openLoop_keeps
    | apply setReg_keeps
    | apply keepsR_next
    | apply keeps_ite
    | apply keepsR_ite
    | apply keeps_ite2
    | apply keeps_foldl
    | apply keeps_foldl2
    | apply keeps_foldl3
    | intro _
    | dsimp only
    | (fail_if_no_progress (apply keeps_mk; on_goal 2 => (constructor <;> first | exact .inr (by decide) | exact .inl rfl)))
    | split

theorem execPtpAnnounce_keeps {m_ : Nat} (hm : maskIn 42923 m_ = true) {s_ s0 : State} (h_ : Keeps m_ s_ s0) (i : Fin 4) (a : PtpAnnounce) (at_ : Nat) : KeepsR m_ s_ (execPtpAnnounce i a at_ s0) := by
  refine KeepsR.after hm h_ ?_
  clear hm h_
  unfold execPtpAnnounce
  repeat' with_reducible first
    | assumption
    | exact Keeps.refl _ _
    | (show maskIn _ _ = true; decide)
    | apply State_present_keeps
    | apply State_raise_keeps
    | apply State_setBytes_keeps
    | apply State_setNum_keeps
    | apply State_setPtp_keeps
    | apply State_toTick_keeps
    | apply State_winBegin_keeps
    | apply keepsR_next
    | apply keeps_ite
    | apply keepsR_ite
    | apply keeps_ite2
    | apply keeps_foldl
    | apply keeps_foldl2
    | apply keeps_foldl3
    | intro _
    | dsimp only
    | (fail_if_no_progress (apply keeps_mk; on_goal 2 => (constructor <;> first | exact .inr (by decide) | exact .inl rfl)))
    | split

theorem execPtpSync_keeps {m_ : Nat} (hm : maskIn 8224 m_ = true) {s_ s0 : State} (h_ : Keeps m_ s_ s0) (i : Fin 4) (port : List Byte) (t1 : Nat) (t2 : Nat) (at_ : Nat) : KeepsR m_ s_ (execPtpSync i port t1 t2 at_ s0) := by
  refine KeepsR.after hm h_ ?_
  clear hm h_
  unfold execPtpSync
  repeat' with_reducible first
    | assumption
    | exact Keeps.refl _ _
    | (show maskIn _ _ = true; decide)
    | apply State_setPtp_keeps
    | apply State_toTick_keeps
    | apply keepsR_next
    | apply keeps_ite
    | apply keepsR_ite
    | apply keeps_ite2
    | apply keeps_foldl
    | apply keeps_foldl2
    | apply keeps_foldl3
    | intro _
    | dsimp only
    | (fail_if_no_progress (apply keeps_mk; on_goal 2 => (constructor <;> first | exact .inr (by decide) | exact .inl rfl)))
    | split

theorem execDelayReqSend_keeps {m_ : Nat} (hm : maskIn 25515 m_ = true) {s_ s0 : State} (h_ : Keeps m_ s_ s0) (i : Fin 4) (at_ : Nat) : KeepsR m_ s_ (execDelayReqSend i at_ s0) := by
  refine KeepsR.after hm h_ ?_
  clear hm h_
  unfold execDelayReqSend
  repeat' with_reducible first
    | assumption
    | exact Keeps.refl _ _
    | (show maskIn _ _ = true; decide)
    | apply State_servoSend_keeps
    | apply State_setPtp_keeps
    | apply State_toTick_keeps
    | apply keepsR_next
    | apply keeps_ite
    | apply keepsR_ite
    | apply keeps_ite2
    | apply keeps_foldl
    | apply keeps_foldl2
    | apply keeps_foldl3
    | intro _
    | dsimp only
    | (fail_if_no_progress (apply keeps_mk; on_goal 2 => (constructor <;> first | exact .inr (by decide) | exact .inl rfl)))
    | split

theorem execPtpDelayResp_keeps {m_ : Nat} (hm : maskIn 8224 m_ = true) {s_ s0 : State} (h_ : Keeps m_ s_ s0) (i : Fin 4) (port : List Byte) (seq : Half) (t4 : Nat) (at_ : Nat) : KeepsR m_ s_ (execPtpDelayResp i port seq t4 at_ s0) := by
  refine KeepsR.after hm h_ ?_
  clear hm h_
  unfold execPtpDelayResp
  repeat' with_reducible first
    | assumption
    | exact Keeps.refl _ _
    | (show maskIn _ _ = true; decide)
    | apply State_setPtp_keeps
    | apply State_toTick_keeps
    | apply keepsR_next
    | apply keeps_ite
    | apply keepsR_ite
    | apply keeps_ite2
    | apply keeps_foldl
    | apply keeps_foldl2
    | apply keeps_foldl3
    | intro _
    | dsimp only
    | (fail_if_no_progress (apply keeps_mk; on_goal 2 => (constructor <;> first | exact .inr (by decide) | exact .inl rfl)))
    | split

theorem State_offsetSecond_keeps {m_ : Nat} (hm : maskIn 10171 m_ = true) {s_ s : State} (h_ : Keeps m_ s_ s) (i : Nat) : Keeps m_ s_ (State.offsetSecond s i) := by
  refine Keeps.after hm h_ ?_
  clear hm h_
  unfold State.offsetSecond
  repeat' with_reducible first
    | assumption
    | exact Keeps.refl _ _
    | (show maskIn _ _ = true; decide)
    | apply State_holdStep_keeps
    | apply State_setInt_keeps
    | apply State_setPtp_keeps
    | apply State_setRef_keeps
    | apply State_tryStep_keeps
    | apply keepsR_next
    | apply keeps_ite
    | apply keepsR_ite
    | apply keeps_ite2
    | apply keeps_foldl
    | apply keeps_foldl2
    | apply keeps_foldl3
    | intro _
    | dsimp only
    | (fail_if_no_progress (apply keeps_mk; on_goal 2 => (constructor <;> first | exact .inr (by decide) | exact .inl rfl)))
    | split

theorem execPtpOffsetSecond_keeps {m_ : Nat} (hm : maskIn 10171 m_ = true) {s_ s0 : State} (h_ : Keeps m_ s_ s0) (i : Fin 4) (at_ : Nat) : KeepsR m_ s_ (execPtpOffsetSecond i at_ s0) := by
  refine KeepsR.after hm h_ ?_
  clear hm h_
  unfold execPtpOffsetSecond
  repeat' with_reducible first
    | assumption
    | exact Keeps.refl _ _
    | (show maskIn _ _ = true; decide)
    | apply State_offsetSecond_keeps
    | apply State_toTick_keeps
    | apply keepsR_next
    | apply keeps_ite
    | apply keepsR_ite
    | apply keeps_ite2
    | apply keeps_foldl
    | apply keeps_foldl2
    | apply keeps_foldl3
    | intro _
    | dsimp only
    | (fail_if_no_progress (apply keeps_mk; on_goal 2 => (constructor <;> first | exact .inr (by decide) | exact .inl rfl)))
    | split

theorem execGmAnnounceSend_keeps {m_ : Nat} (hm : maskIn 25515 m_ = true) {s_ s0 : State} (h_ : Keeps m_ s_ s0) (m : Fin 98) (at_ : Nat) : KeepsR m_ s_ (execGmAnnounceSend m at_ s0) := by
  refine KeepsR.after hm h_ ?_
  clear hm h_
  unfold execGmAnnounceSend
  dsimp only
  split
  · exact State_toTick_keeps (by decide) (Keeps.refl _ _) _
  · rename_i heq
    have hk := State_gmDue_keeps (m_ := 25515) (by decide) (State_toTick_keeps (by decide) (Keeps.refl _ _) _) _ _ _ heq
    repeat' with_reducible first
      | assumption
      | apply keepsR_next
      | (show maskIn _ _ = true; decide)
      | apply State_servoSend_keeps
      | dsimp only

theorem execGmSyncSend_keeps {m_ : Nat} (hm : maskIn 25515 m_ = true) {s_ s0 : State} (h_ : Keeps m_ s_ s0) (m : Fin 98) (at_ : Nat) : KeepsR m_ s_ (execGmSyncSend m at_ s0) := by
  refine KeepsR.after hm h_ ?_
  clear hm h_
  unfold execGmSyncSend
  dsimp only
  split
  · exact State_toTick_keeps (by decide) (Keeps.refl _ _) _
  · rename_i heq
    have hk := State_gmDue_keeps (m_ := 25515) (by decide) (State_toTick_keeps (by decide) (Keeps.refl _ _) _) _ _ _ heq
    repeat' with_reducible first
      | assumption
      | apply keepsR_next
      | (show maskIn _ _ = true; decide)
      | apply State_servoSend_keeps
      | dsimp only

theorem execGmDelayReq_keeps {m_ : Nat} (hm : maskIn 25515 m_ = true) {s_ s0 : State} (h_ : Keeps m_ s_ s0) (m : Fin 98) (port : List Byte) (seq : Half) (at_ : Nat) : KeepsR m_ s_ (execGmDelayReq m port seq at_ s0) := by
  refine KeepsR.after hm h_ ?_
  clear hm h_
  unfold execGmDelayReq
  repeat' with_reducible first
    | assumption
    | exact Keeps.refl _ _
    | (show maskIn _ _ = true; decide)
    | apply State_servoSend_keeps
    | apply State_toTick_keeps
    | apply keepsR_next
    | apply keeps_ite
    | apply keepsR_ite
    | apply keeps_ite2
    | apply keeps_foldl
    | apply keeps_foldl2
    | apply keeps_foldl3
    | intro _
    | dsimp only
    | (fail_if_no_progress (apply keeps_mk; on_goal 2 => (constructor <;> first | exact .inr (by decide) | exact .inl rfl)))
    | split

theorem execGmManagementSend_keeps {m_ : Nat} (hm : maskIn 25515 m_ = true) {s_ s0 : State} (h_ : Keeps m_ s_ s0) (m : Fin 98) (at_ : Nat) : KeepsR m_ s_ (execGmManagementSend m at_ s0) := by
  refine KeepsR.after hm h_ ?_
  clear hm h_
  unfold execGmManagementSend
  dsimp only
  split
  · exact State_toTick_keeps (by decide) (Keeps.refl _ _) _
  · rename_i heq
    have hk := State_gmDue_keeps (m_ := 25515) (by decide) (State_toTick_keeps (by decide) (Keeps.refl _ _) _) _ _ _ heq
    repeat' with_reducible first
      | assumption
      | apply keepsR_next
      | (show maskIn _ _ = true; decide)
      | apply State_servoSend_keeps
      | dsimp only

theorem execFpInputLoss_keeps {m_ : Nat} (hm : maskIn 939 m_ = true) {s_ s0 : State} (h_ : Keeps m_ s_ s0) (k : Fin 8) (at_ : Nat) : KeepsR m_ s_ (execFpInputLoss k at_ s0) := by
  refine KeepsR.after hm h_ ?_
  clear hm h_
  unfold execFpInputLoss
  repeat' with_reducible first
    | assumption
    | exact Keeps.refl _ _
    | (show maskIn _ _ = true; decide)
    | apply State_raise_keeps
    | apply State_setNum_keeps
    | apply State_toTick_keeps
    | apply keepsR_next
    | apply keeps_ite
    | apply keepsR_ite
    | apply keeps_ite2
    | apply keeps_foldl
    | apply keeps_foldl2
    | apply keeps_foldl3
    | intro _
    | dsimp only
    | (fail_if_no_progress (apply keeps_mk; on_goal 2 => (constructor <;> first | exact .inr (by decide) | exact .inl rfl)))
    | split

theorem execFpInputReturn_keeps {m_ : Nat} (hm : maskIn 9131 m_ = true) {s_ s0 : State} (h_ : Keeps m_ s_ s0) (k : Fin 8) (phase : Int) (at_ : Nat) : KeepsR m_ s_ (execFpInputReturn k phase at_ s0) := by
  refine KeepsR.after hm h_ ?_
  clear hm h_
  unfold execFpInputReturn
  repeat' with_reducible first
    | assumption
    | exact Keeps.refl _ _
    | (show maskIn _ _ = true; decide)
    | apply State_raise_keeps
    | apply State_setNum_keeps
    | apply State_toTick_keeps
    | apply keepsR_next
    | apply keeps_ite
    | apply keepsR_ite
    | apply keeps_ite2
    | apply keeps_foldl
    | apply keeps_foldl2
    | apply keeps_foldl3
    | intro _
    | dsimp only
    | (fail_if_no_progress (apply keeps_mk; on_goal 2 => (constructor <;> first | exact .inr (by decide) | exact .inl rfl)))
    | split

theorem execClockOutputRestart_keeps {m_ : Nat} (hm : maskIn 8224 m_ = true) {s_ s0 : State} (h_ : Keeps m_ s_ s0) (k : Fin 4) (at_ : Nat) : KeepsR m_ s_ (execClockOutputRestart k at_ s0) := by
  refine KeepsR.after hm h_ ?_
  clear hm h_
  unfold execClockOutputRestart
  repeat' with_reducible first
    | assumption
    | exact Keeps.refl _ _
    | (show maskIn _ _ = true; decide)
    | apply State_toTick_keeps
    | apply keepsR_next
    | apply keeps_ite
    | apply keepsR_ite
    | apply keeps_ite2
    | apply keeps_foldl
    | apply keeps_foldl2
    | apply keeps_foldl3
    | intro _
    | dsimp only
    | (fail_if_no_progress (apply keeps_mk; on_goal 2 => (constructor <;> first | exact .inr (by decide) | exact .inl rfl)))
    | split

theorem execPacerTimeNsRead_keeps {m_ : Nat} (hm : maskIn 8232 m_ = true) {s_ s0 : State} (h_ : Keeps m_ s_ s0) (at_ : Nat) : KeepsR m_ s_ (execPacerTimeNsRead at_ s0) := by
  refine KeepsR.after hm h_ ?_
  clear hm h_
  unfold execPacerTimeNsRead
  repeat' with_reducible first
    | assumption
    | exact Keeps.refl _ _
    | (show maskIn _ _ = true; decide)
    | apply State_emit_keeps
    | apply State_toTick_keeps
    | apply keepsR_next
    | apply keeps_ite
    | apply keepsR_ite
    | apply keeps_ite2
    | apply keeps_foldl
    | apply keeps_foldl2
    | apply keeps_foldl3
    | intro _
    | dsimp only
    | (fail_if_no_progress (apply keeps_mk; on_goal 2 => (constructor <;> first | exact .inr (by decide) | exact .inl rfl)))
    | split

theorem State_area2Apply_keeps {m_ : Nat} (hm : maskIn 698303 m_ = true) {s_ s : State} (h_ : Keeps m_ s_ s) (pre : State) : Keeps m_ s_ (State.area2Apply s pre) := by
  refine Keeps.after hm h_ ?_
  clear hm h_
  unfold State.area2Apply
  repeat' with_reducible first
    | assumption
    | exact Keeps.refl _ _
    | (show maskIn _ _ = true; decide)
    | apply State_evalSel_keeps
    | apply State_present_keeps
    | apply State_qualify_keeps
    | apply State_refAbsent_keeps
    | apply State_setBytes_keeps
    | apply State_setNum_keeps
    | apply State_setPac_keeps
    | apply State_setPtp_keeps
    | apply State_steer_keeps
    | apply State_switchDone_keeps
    | apply State_tickSource_keeps
    | apply State_winBegin_keeps
    | apply keepsR_next
    | apply keeps_ite
    | apply keepsR_ite
    | apply keeps_ite2
    | apply keeps_foldl
    | apply keeps_foldl2
    | apply keeps_foldl3
    | intro _
    | dsimp only
    | (fail_if_no_progress (apply keeps_mk; on_goal 2 => (constructor <;> first | exact .inr (by decide) | exact .inl rfl)))
    | split

end Sys2Proof.Machine
end

