-- ==== Sys2Proof/Laws/KeepsFabAsk.lean ====
section
/-! SUPPORT. FabAsk: what every operation keeps. -/

namespace Sys2Proof.Machine

theorem State_ackAsk_keeps {m_ : Nat} (hm : maskIn 32777 m_ = true) {s_ s : State} (h_ : Keeps m_ s_ s) (j : Nat) (reqId : Nat) (ch : Nat) (charge : Nat) (first : Nat) : Keeps m_ s_ (State.ackAsk s j reqId ch charge first) := by
  refine Keeps.after hm h_ ?_
  clear hm h_
  unfold State.ackAsk
  repeat' with_reducible first
    | assumption
    | exact Keeps.refl _ _
    | (show maskIn _ _ = true; decide)
    | apply State_ctlSend_keeps
    | apply State_linkObjs_keeps
    | apply State_setLink_keeps
    | apply keepsR_next
    | apply keeps_ite
    | apply keepsR_ite
    | apply keeps_ite2
    | apply keeps_foldl
    | apply keeps_foldl2
    | apply keeps_foldl3
    | intro _
    | dsimp only
    | (fail_if_no_progress (apply keeps_mk; on_goal 2 => (constructor <;> first | exact .inr (by decide) | exact .inl rfl)))
    | split

theorem State_nakAsk_keeps {m_ : Nat} (hm : maskIn 32768 m_ = true) {s_ s : State} (h_ : Keeps m_ s_ s) (j : Nat) (reqId : Nat) : Keeps m_ s_ (State.nakAsk s j reqId) := by
  refine Keeps.after hm h_ ?_
  clear hm h_
  unfold State.nakAsk
  repeat' with_reducible first
    | assumption
    | exact Keeps.refl _ _
    | (show maskIn _ _ = true; decide)
    | apply State_setLink_keeps
    | apply keepsR_next
    | apply keeps_ite
    | apply keepsR_ite
    | apply keeps_ite2
    | apply keeps_foldl
    | apply keeps_foldl2
    | apply keeps_foldl3
    | intro _
    | dsimp only
    | (fail_if_no_progress (apply keeps_mk; on_goal 2 => (constructor <;> first | exact .inr (by decide) | exact .inl rfl)))
    | split

theorem State_takesAck_keeps {m_ : Nat} (hm : maskIn 1024 m_ = true) {s_ s : State} (h_ : Keeps m_ s_ s) (j : Nat) (reqId : Nat) : Keeps m_ s_ (State.takesAck s j reqId) := by
  refine Keeps.after hm h_ ?_
  clear hm h_
  unfold State.takesAck
  repeat' with_reducible first
    | assumption
    | exact Keeps.refl _ _
    | (show maskIn _ _ = true; decide)
    | apply State_setBatches_keeps
    | apply keepsR_next
    | apply keeps_ite
    | apply keepsR_ite
    | apply keeps_ite2
    | apply keeps_foldl
    | apply keeps_foldl2
    | apply keeps_foldl3
    | intro _
    | dsimp only
    | (fail_if_no_progress (apply keeps_mk; on_goal 2 => (constructor <;> first | exact .inr (by decide) | exact .inl rfl)))
    | split

theorem State_takesNak_keeps {m_ : Nat} (hm : maskIn 133007 m_ = true) {s_ s : State} (h_ : Keeps m_ s_ s) (j : Nat) (reqId : Nat) (reason : Nat) (sid : Nat) : Keeps m_ s_ (State.takesNak s j reqId reason sid) := by
  refine Keeps.after hm h_ ?_
  clear hm h_
  unfold State.takesNak
  repeat' with_reducible first
    | assumption
    | exact Keeps.refl _ _
    | (show maskIn _ _ = true; decide)
    | apply State_journal_keeps
    | apply State_pendObj_keeps
    | apply State_raise_keeps
    | apply State_ringIrq_keeps
    | apply State_ringRefused_keeps
    | apply State_setBatches_keeps
    | apply State_sweepBatches_keeps
    | apply State_takesAck_keeps
    | apply keepsR_next
    | apply keeps_ite
    | apply keepsR_ite
    | apply keeps_ite2
    | apply keeps_foldl
    | apply keeps_foldl2
    | apply keeps_foldl3
    | intro _
    | dsimp only
    | (fail_if_no_progress (apply keeps_mk; on_goal 2 => (constructor <;> first | exact .inr (by decide) | exact .inl rfl)))
    | split

theorem State_asksFail_keeps {m_ : Nat} (hm : maskIn 165839 m_ = true) {s_ s : State} (h_ : Keeps m_ s_ s) (j : Nat) : Keeps m_ s_ (State.asksFail s j) := by
  refine Keeps.after hm h_ ?_
  clear hm h_
  unfold State.asksFail
  repeat' with_reducible first
    | assumption
    | exact Keeps.refl _ _
    | (show maskIn _ _ = true; decide)
    | apply State_nakAsk_keeps
    | apply State_refuseWaits_keeps
    | apply State_takesNak_keeps
    | apply keepsR_next
    | apply keeps_ite
    | apply keepsR_ite
    | apply keeps_ite2
    | apply keeps_foldl
    | apply keeps_foldl2
    | apply keeps_foldl3
    | intro _
    | dsimp only
    | (fail_if_no_progress (apply keeps_mk; on_goal 2 => (constructor <;> first | exact .inr (by decide) | exact .inl rfl)))
    | split

end Sys2Proof.Machine
end

