-- ==== Sys2Proof/Laws/KeepsFabric.lean ====
section
/-! SUPPORT. Fabric: what every operation keeps. -/

namespace Sys2Proof.Machine

theorem State_laneEvent_keeps {m_ : Nat} (hm : maskIn 906 m_ = true) {s_ s : State} (h_ : Keeps m_ s_ s) (f : Nat) (bit : Nat) (code : Nat) (payload : List Byte) : Keeps m_ s_ (State.laneEvent s f bit code payload) := by
  refine Keeps.after hm h_ ?_
  clear hm h_
  unfold State.laneEvent
  repeat' with_reducible first
    | assumption
    | exact Keeps.refl _ _
    | (show maskIn _ _ = true; decide)
    | apply State_raise_keeps
    | apply State_setBit_keeps
    | apply keepsR_next
    | apply keeps_ite
    | apply keepsR_ite
    | apply keeps_ite2
    | apply keeps_foldl
    | apply keeps_foldl2
    | apply keeps_foldl3
    | intro _
    | dsimp only
    | (fail_if_no_progress (apply keeps_mk; on_goal 2 => (constructor <;> first | exact .inr (by decide) | exact .inl rfl)))
    | split

theorem State_linkEvent_keeps {m_ : Nat} (hm : maskIn 906 m_ = true) {s_ s : State} (h_ : Keeps m_ s_ s) (j : Nat) (bit : Nat) (code : Nat) (payload : List Byte) : Keeps m_ s_ (State.linkEvent s j bit code payload) := by
  refine Keeps.after hm h_ ?_
  clear hm h_
  unfold State.linkEvent
  repeat' with_reducible first
    | assumption
    | exact Keeps.refl _ _
    | (show maskIn _ _ = true; decide)
    | apply State_raise_keeps
    | apply State_setBit_keeps
    | apply keepsR_next
    | apply keeps_ite
    | apply keepsR_ite
    | apply keeps_ite2
    | apply keeps_foldl
    | apply keeps_foldl2
    | apply keeps_foldl3
    | intro _
    | dsimp only
    | (fail_if_no_progress (apply keeps_mk; on_goal 2 => (constructor <;> first | exact .inr (by decide) | exact .inl rfl)))
    | split

theorem State_roleObj_keeps {m_ : Nat} (hm : maskIn 1 m_ = true) {s_ s : State} (h_ : Keeps m_ s_ s) (f : Nat) : Keeps m_ s_ (State.roleObj s f) := by
  refine Keeps.after hm h_ ?_
  clear hm h_
  unfold State.roleObj
  repeat' with_reducible first
    | assumption
    | exact Keeps.refl _ _
    | (show maskIn _ _ = true; decide)
    | apply State_setNum_keeps
    | apply keepsR_next
    | apply keeps_ite
    | apply keepsR_ite
    | apply keeps_ite2
    | apply keeps_foldl
    | apply keeps_foldl2
    | apply keeps_foldl3
    | intro _
    | dsimp only
    | (fail_if_no_progress (apply keeps_mk; on_goal 2 => (constructor <;> first | exact .inr (by decide) | exact .inl rfl)))
    | split

theorem State_linkStat_keeps {m_ : Nat} (hm : maskIn 657295 m_ = true) {s_ s : State} (h_ : Keeps m_ s_ s) (j : Nat) : Keeps m_ s_ (State.linkStat s j) := by
  refine Keeps.after hm h_ ?_
  clear hm h_
  unfold State.linkStat
  repeat' with_reducible first
    | assumption
    | exact Keeps.refl _ _
    | (show maskIn _ _ = true; decide)
    | apply State_conditionEnd_keeps
    | apply State_linkObjs_keeps
    | apply State_report_keeps
    | apply State_roleObj_keeps
    | apply State_setNum_keeps
    | apply keepsR_next
    | apply keeps_ite
    | apply keepsR_ite
    | apply keeps_ite2
    | apply keeps_foldl
    | apply keeps_foldl2
    | apply keeps_foldl3
    | intro _
    | dsimp only
    | (fail_if_no_progress (apply keeps_mk; on_goal 2 => (constructor <;> first | exact .inr (by decide) | exact .inl rfl)))
    | split

theorem State_sendFrame_keeps {m_ : Nat} (hm : maskIn 32776 m_ = true) {s_ s : State} (h_ : Keeps m_ s_ s) (f : Nat) : Keeps m_ s_ (State.sendFrame s f) := by
  refine Keeps.after hm h_ ?_
  clear hm h_
  unfold State.sendFrame
  repeat' with_reducible first
    | assumption
    | exact Keeps.refl _ _
    | (show maskIn _ _ = true; decide)
    | apply State_emit_keeps
    | apply State_setFl_keeps
    | apply keepsR_next
    | apply keeps_ite
    | apply keepsR_ite
    | apply keeps_ite2
    | apply keeps_foldl
    | apply keeps_foldl2
    | apply keeps_foldl3
    | intro _
    | dsimp only
    | (fail_if_no_progress (apply keeps_mk; on_goal 2 => (constructor <;> first | exact .inr (by decide) | exact .inl rfl)))
    | split

theorem State_startTraining_keeps {m_ : Nat} (hm : maskIn 32793 m_ = true) {s_ s : State} (h_ : Keeps m_ s_ s) (f : Nat) (retry : Bool) : Keeps m_ s_ (State.startTraining s f retry) := by
  refine Keeps.after hm h_ ?_
  clear hm h_
  unfold State.startTraining
  repeat' with_reducible first
    | assumption
    | exact Keeps.refl _ _
    | (show maskIn _ _ = true; decide)
    | apply State_freeNat_keeps
    | apply State_roleObj_keeps
    | apply State_sendFrame_keeps
    | apply State_setFl_keeps
    | apply State_setNum_keeps
    | apply keepsR_next
    | apply keeps_ite
    | apply keepsR_ite
    | apply keeps_ite2
    | apply keeps_foldl
    | apply keeps_foldl2
    | apply keeps_foldl3
    | intro _
    | dsimp only
    | (fail_if_no_progress (apply keeps_mk; on_goal 2 => (constructor <;> first | exact .inr (by decide) | exact .inl rfl)))
    | split

theorem State_laneWorn_keeps {m_ : Nat} (hm : maskIn 690063 m_ = true) {s_ s : State} (h_ : Keeps m_ s_ s) (f : Nat) (unc : Nat) : Keeps m_ s_ (State.laneWorn s f unc) := by
  refine Keeps.after hm h_ ?_
  clear hm h_
  unfold State.laneWorn
  repeat' with_reducible first
    | assumption
    | exact Keeps.refl _ _
    | (show maskIn _ _ = true; decide)
    | apply State_laneEvent_keeps
    | apply State_report_keeps
    | apply State_roleObj_keeps
    | apply State_setFl_keeps
    | apply keepsR_next
    | apply keeps_ite
    | apply keepsR_ite
    | apply keeps_ite2
    | apply keeps_foldl
    | apply keeps_foldl2
    | apply keeps_foldl3
    | intro _
    | dsimp only
    | (fail_if_no_progress (apply keeps_mk; on_goal 2 => (constructor <;> first | exact .inr (by decide) | exact .inl rfl)))
    | split

theorem State_laneFailed_keeps {m_ : Nat} (hm : maskIn 690063 m_ = true) {s_ s : State} (h_ : Keeps m_ s_ s) (f : Nat) (code : Nat) : Keeps m_ s_ (State.laneFailed s f code) := by
  refine Keeps.after hm h_ ?_
  clear hm h_
  unfold State.laneFailed
  repeat' with_reducible first
    | assumption
    | exact Keeps.refl _ _
    | (show maskIn _ _ = true; decide)
    | apply State_laneWorn_keeps
    | apply State_report_keeps
    | apply State_roleObj_keeps
    | apply State_setFl_keeps
    | apply keepsR_next
    | apply keeps_ite
    | apply keepsR_ite
    | apply keeps_ite2
    | apply keeps_foldl
    | apply keeps_foldl2
    | apply keeps_foldl3
    | intro _
    | dsimp only
    | (fail_if_no_progress (apply keeps_mk; on_goal 2 => (constructor <;> first | exact .inr (by decide) | exact .inl rfl)))
    | split

theorem State_sparesOf_keeps {m_ : Nat} (hm : maskIn 32793 m_ = true) {s_ s : State} (h_ : Keeps m_ s_ s) (j : Nat) : Keeps m_ s_ (State.sparesOf s j) := by
  refine Keeps.after hm h_ ?_
  clear hm h_
  unfold State.sparesOf
  repeat' with_reducible first
    | assumption
    | exact Keeps.refl _ _
    | (show maskIn _ _ = true; decide)
    | apply State_roleObj_keeps
    | apply State_setFl_keeps
    | apply State_startTraining_keeps
    | apply keepsR_next
    | apply keeps_ite
    | apply keepsR_ite
    | apply keeps_ite2
    | apply keeps_foldl
    | apply keeps_foldl2
    | apply keeps_foldl3
    | intro _
    | dsimp only
    | (fail_if_no_progress (apply keeps_mk; on_goal 2 => (constructor <;> first | exact .inr (by decide) | exact .inl rfl)))
    | split

theorem State_wantMap_keeps {m_ : Nat} (hm : maskIn 32793 m_ = true) {s_ s : State} (h_ : Keeps m_ s_ s) (j : Nat) : Keeps m_ s_ (State.wantMap s j) := by
  refine Keeps.after hm h_ ?_
  clear hm h_
  unfold State.wantMap
  repeat' with_reducible first
    | assumption
    | exact Keeps.refl _ _
    | (show maskIn _ _ = true; decide)
    | apply State_setLink_keeps
    | apply State_sparesOf_keeps
    | apply keepsR_next
    | apply keeps_ite
    | apply keepsR_ite
    | apply keeps_ite2
    | apply keeps_foldl
    | apply keeps_foldl2
    | apply keeps_foldl3
    | intro _
    | dsimp only
    | (fail_if_no_progress (apply keeps_mk; on_goal 2 => (constructor <;> first | exact .inr (by decide) | exact .inl rfl)))
    | split

theorem State_mapEvents_keeps {m_ : Nat} (hm : maskIn 907 m_ = true) {s_ s : State} (h_ : Keeps m_ s_ s) (j : Nat) (old : List Nat) (new : List Nat) (count : Nat) (rx : Bool) : Keeps m_ s_ (State.mapEvents s j old new count rx) := by
  refine Keeps.after hm h_ ?_
  clear hm h_
  unfold State.mapEvents
  repeat' with_reducible first
    | assumption
    | exact Keeps.refl _ _
    | (show maskIn _ _ = true; decide)
    | apply State_bump_keeps
    | apply State_raise_keeps
    | apply State_setBit_keeps
    | apply keepsR_next
    | apply keeps_ite
    | apply keepsR_ite
    | apply keeps_ite2
    | apply keeps_foldl
    | apply keeps_foldl2
    | apply keeps_foldl3
    | intro _
    | dsimp only
    | (fail_if_no_progress (apply keeps_mk; on_goal 2 => (constructor <;> first | exact .inr (by decide) | exact .inl rfl)))
    | split

theorem State_shedPub_keeps {m_ : Nat} (hm : maskIn 33675 m_ = true) {s_ s : State} (h_ : Keeps m_ s_ s) (j : Nat) (ch : Nat) (reason : Nat) : Keeps m_ s_ (State.shedPub s j ch reason) := by
  refine Keeps.after hm h_ ?_
  clear hm h_
  unfold State.shedPub
  repeat' with_reducible first
    | assumption
    | exact Keeps.refl _ _
    | (show maskIn _ _ = true; decide)
    | apply State_bump_keeps
    | apply State_ctlSend_keeps
    | apply State_linkEvent_keeps
    | apply State_linkObjs_keeps
    | apply State_setLink_keeps
    | apply keepsR_next
    | apply keeps_ite
    | apply keepsR_ite
    | apply keeps_ite2
    | apply keeps_foldl
    | apply keeps_foldl2
    | apply keeps_foldl3
    | intro _
    | dsimp only
    | (fail_if_no_progress (apply keeps_mk; on_goal 2 => (constructor <;> first | exact .inr (by decide) | exact .inl rfl)))
    | split

theorem State_shedUntil_keeps {m_ : Nat} (hm : maskIn 33675 m_ = true) {s_ s : State} (h_ : Keeps m_ s_ s) (j : Nat) (cap : Nat) (extra : Nat) (reason : Nat) : Keeps m_ s_ (State.shedUntil s j cap extra reason) := by
  refine Keeps.after hm h_ ?_
  clear hm h_
  unfold State.shedUntil
  repeat' with_reducible first
    | assumption
    | exact Keeps.refl _ _
    | (show maskIn _ _ = true; decide)
    | apply State_shedPub_keeps
    | apply keepsR_next
    | apply keeps_ite
    | apply keepsR_ite
    | apply keeps_ite2
    | apply keeps_foldl
    | apply keeps_foldl2
    | apply keeps_foldl3
    | intro _
    | dsimp only
    | (fail_if_no_progress (apply keeps_mk; on_goal 2 => (constructor <;> first | exact .inr (by decide) | exact .inl rfl)))
    | split

theorem State_syncSubs_keeps {m_ : Nat} (hm : maskIn 32777 m_ = true) {s_ s : State} (h_ : Keeps m_ s_ s)  : Keeps m_ s_ (State.syncSubs s) := by
  refine Keeps.after hm h_ ?_
  clear hm h_
  unfold State.syncSubs
  repeat' with_reducible first
    | assumption
    | exact Keeps.refl _ _
    | (show maskIn _ _ = true; decide)
    | apply State_ctlSend_keeps
    | apply State_dropHeld_keeps
    | apply State_linkObjs_keeps
    | apply State_setLink_keeps
    | apply keepsR_next
    | apply keeps_ite
    | apply keepsR_ite
    | apply keeps_ite2
    | apply keeps_foldl
    | apply keeps_foldl2
    | apply keeps_foldl3
    | intro _
    | dsimp only
    | (fail_if_no_progress (apply keeps_mk; on_goal 2 => (constructor <;> first | exact .inr (by decide) | exact .inl rfl)))
    | split

theorem State_askAgain_keeps {m_ : Nat} (hm : maskIn 32776 m_ = true) {s_ s : State} (h_ : Keeps m_ s_ s) (j : Nat) : Keeps m_ s_ (State.askAgain s j) := by
  refine Keeps.after hm h_ ?_
  clear hm h_
  unfold State.askAgain
  repeat' with_reducible first
    | assumption
    | exact Keeps.refl _ _
    | (show maskIn _ _ = true; decide)
    | apply State_sendAsk_keeps
    | apply State_setLink_keeps
    | apply keepsR_next
    | apply keeps_ite
    | apply keepsR_ite
    | apply keeps_ite2
    | apply keeps_foldl
    | apply keeps_foldl2
    | apply keeps_foldl3
    | intro _
    | dsimp only
    | (fail_if_no_progress (apply keeps_mk; on_goal 2 => (constructor <;> first | exact .inr (by decide) | exact .inl rfl)))
    | split

theorem State_tilesLose_keeps {m_ : Nat} (hm : maskIn 66443 m_ = true) {s_ s : State} (h_ : Keeps m_ s_ s) (sid : Nat) (count : Nat) (cause : Nat) : Keeps m_ s_ (State.tilesLose s sid count cause) := by
  refine Keeps.after hm h_ ?_
  clear hm h_
  unfold State.tilesLose
  repeat' with_reducible first
    | assumption
    | exact Keeps.refl _ _
    | (show maskIn _ _ = true; decide)
    | apply State_setLay_keeps
    | apply State_supplyLost_keeps
    | apply keepsR_next
    | apply keeps_ite
    | apply keepsR_ite
    | apply keeps_ite2
    | apply keeps_foldl
    | apply keeps_foldl2
    | apply keeps_foldl3
    | intro _
    | dsimp only
    | (fail_if_no_progress (apply keeps_mk; on_goal 2 => (constructor <;> first | exact .inr (by decide) | exact .inl rfl)))
    | split

theorem State_linkDown_keeps {m_ : Nat} (hm : maskIn 755663 m_ = true) {s_ s : State} (h_ : Keeps m_ s_ s) (j : Nat) : Keeps m_ s_ (State.linkDown s j) := by
  refine Keeps.after hm h_ ?_
  clear hm h_
  unfold State.linkDown
  repeat' with_reducible first
    | assumption
    | exact Keeps.refl _ _
    | (show maskIn _ _ = true; decide)
    | apply State_asksFail_keeps
    | apply State_linkEvent_keeps
    | apply State_linkStat_keeps
    | apply State_report_keeps
    | apply State_setLink_keeps
    | apply State_tilesLose_keeps
    | apply keepsR_next
    | apply keeps_ite
    | apply keepsR_ite
    | apply keeps_ite2
    | apply keeps_foldl
    | apply keeps_foldl2
    | apply keeps_foldl3
    | intro _
    | dsimp only
    | (fail_if_no_progress (apply keeps_mk; on_goal 2 => (constructor <;> first | exact .inr (by decide) | exact .inl rfl)))
    | split

theorem State_meshCheck_keeps {m_ : Nat} (hm : maskIn 524288 m_ = true) {s_ s : State} (h_ : Keeps m_ s_ s)  : Keeps m_ s_ (State.meshCheck s) := by
  refine Keeps.after hm h_ ?_
  clear hm h_
  unfold State.meshCheck
  repeat' with_reducible first
    | assumption
    | exact Keeps.refl _ _
    | (show maskIn _ _ = true; decide)
    | apply keepsR_next
    | apply keeps_ite
    | apply keepsR_ite
    | apply keeps_ite2
    | apply keeps_foldl
    | apply keeps_foldl2
    | apply keeps_foldl3
    | intro _
    | dsimp only
    | (fail_if_no_progress (apply keeps_mk; on_goal 2 => (constructor <;> first | exact .inr (by decide) | exact .inl rfl)))
    | split

theorem State_linkCheck_keeps {m_ : Nat} (hm : maskIn 755663 m_ = true) {s_ s : State} (h_ : Keeps m_ s_ s) (j : Nat) : Keeps m_ s_ (State.linkCheck s j) := by
  refine Keeps.after hm h_ ?_
  clear hm h_
  unfold State.linkCheck
  repeat' with_reducible first
    | assumption
    | exact Keeps.refl _ _
    | (show maskIn _ _ = true; decide)
    | apply State_askAgain_keeps
    | apply State_conditionEnd_keeps
    | apply State_linkDown_keeps
    | apply State_linkEvent_keeps
    | apply State_linkStat_keeps
    | apply State_meshCheck_keeps
    | apply State_setLink_keeps
    | apply keepsR_next
    | apply keeps_ite
    | apply keepsR_ite
    | apply keeps_ite2
    | apply keeps_foldl
    | apply keeps_foldl2
    | apply keeps_foldl3
    | intro _
    | dsimp only
    | (fail_if_no_progress (apply keeps_mk; on_goal 2 => (constructor <;> first | exact .inr (by decide) | exact .inl rfl)))
    | split

theorem State_sendMarker_keeps {m_ : Nat} (hm : maskIn 8 m_ = true) {s_ s : State} (h_ : Keeps m_ s_ s) (j : Nat) (m : Nat) (count : Nat) : Keeps m_ s_ (State.sendMarker s j m count) := by
  refine Keeps.after hm h_ ?_
  clear hm h_
  unfold State.sendMarker
  repeat' with_reducible first
    | assumption
    | exact Keeps.refl _ _
    | (show maskIn _ _ = true; decide)
    | apply State_emit_keeps
    | apply keepsR_next
    | apply keeps_ite
    | apply keepsR_ite
    | apply keeps_ite2
    | apply keeps_foldl
    | apply keeps_foldl2
    | apply keeps_foldl3
    | intro _
    | dsimp only
    | (fail_if_no_progress (apply keeps_mk; on_goal 2 => (constructor <;> first | exact .inr (by decide) | exact .inl rfl)))
    | split

theorem State_firstCount_keeps {m_ : Nat} (hm : maskIn 32768 m_ = true) {s_ s : State} (h_ : Keeps m_ s_ s) (j : Nat) : Keeps m_ s_ (State.firstCount s j).2 := by
  refine Keeps.after hm h_ ?_
  clear hm h_
  unfold State.firstCount
  repeat' with_reducible first
    | assumption
    | exact Keeps.refl _ _
    | (show maskIn _ _ = true; decide)
    | apply State_setLink_keeps
    | apply keepsR_next
    | apply keeps_ite
    | apply keepsR_ite
    | apply keeps_ite2
    | apply keeps_foldl
    | apply keeps_foldl2
    | apply keeps_foldl3
    | intro _
    | dsimp only
    | (fail_if_no_progress (apply keeps_mk; on_goal 2 => (constructor <;> first | exact .inr (by decide) | exact .inl rfl)))
    | split

theorem State_laneTrained_keeps {m_ : Nat} (hm : maskIn 690079 m_ = true) {s_ s : State} (h_ : Keeps m_ s_ s) (f : Nat) (j : Nat) : Keeps m_ s_ (State.laneTrained s f j) := by
  refine Keeps.after hm h_ ?_
  clear hm h_
  unfold State.laneTrained
  repeat' with_reducible first
    | assumption
    | exact Keeps.refl _ _
    | (show maskIn _ _ = true; decide)
    | apply State_firstCount_keeps
    | apply State_freeNat_keeps
    | apply State_laneEvent_keeps
    | apply State_linkStat_keeps
    | apply State_roleObj_keeps
    | apply State_sendMarker_keeps
    | apply State_setFl_keeps
    | apply State_wantMap_keeps
    | apply keepsR_next
    | apply keeps_ite
    | apply keepsR_ite
    | apply keeps_ite2
    | apply keeps_foldl
    | apply keeps_foldl2
    | apply keeps_foldl3
    | intro _
    | dsimp only
    | (fail_if_no_progress (apply keeps_mk; on_goal 2 => (constructor <;> first | exact .inr (by decide) | exact .inl rfl)))
    | split

theorem execTrainingFrame_keeps {m_ : Nat} (hm : maskIn 690111 m_ = true) {s_ s0 : State} (h_ : Keeps m_ s_ s0) (f : Fin 128) (control : Half) (status : Half) (req : BitVec 8) (ready : Bool) (at_ : Nat) : KeepsR m_ s_ (execTrainingFrame f control status req ready at_ s0) := by
  refine KeepsR.after hm h_ ?_
  clear hm h_
  unfold execTrainingFrame
  repeat' with_reducible first
    | assumption
    | exact Keeps.refl _ _
    | (show maskIn _ _ = true; decide)
    | apply State_laneEvent_keeps
    | apply State_laneTrained_keeps
    | apply State_linkStat_keeps
    | apply State_sendFrame_keeps
    | apply State_setFl_keeps
    | apply State_setNum_keeps
    | apply State_toTick_keeps
    | apply State_wantMap_keeps
    | apply keepsR_next
    | apply keeps_ite
    | apply keepsR_ite
    | apply keeps_ite2
    | apply keeps_foldl
    | apply keeps_foldl2
    | apply keeps_foldl3
    | intro _
    | dsimp only
    | (fail_if_no_progress (apply keeps_mk; on_goal 2 => (constructor <;> first | exact .inr (by decide) | exact .inl rfl)))
    | split

theorem execTrainingTimeout_keeps {m_ : Nat} (hm : maskIn 755711 m_ = true) {s_ s0 : State} (h_ : Keeps m_ s_ s0) (f : Fin 128) (at_ : Nat) : KeepsR m_ s_ (execTrainingTimeout f at_ s0) := by
  refine KeepsR.after hm h_ ?_
  clear hm h_
  unfold execTrainingTimeout
  repeat' with_reducible first
    | assumption
    | exact Keeps.refl _ _
    | (show maskIn _ _ = true; decide)
    | apply State_laneEvent_keeps
    | apply State_laneFailed_keeps
    | apply State_linkCheck_keeps
    | apply State_setFl_keeps
    | apply State_toTick_keeps
    | apply State_wantMap_keeps
    | apply keepsR_next
    | apply keeps_ite
    | apply keepsR_ite
    | apply keeps_ite2
    | apply keeps_foldl
    | apply keeps_foldl2
    | apply keeps_foldl3
    | intro _
    | dsimp only
    | (fail_if_no_progress (apply keeps_mk; on_goal 2 => (constructor <;> first | exact .inr (by decide) | exact .inl rfl)))
    | split

theorem execTrainingRetry_keeps {m_ : Nat} (hm : maskIn 32825 m_ = true) {s_ s0 : State} (h_ : Keeps m_ s_ s0) (f : Fin 128) (at_ : Nat) : KeepsR m_ s_ (execTrainingRetry f at_ s0) := by
  refine KeepsR.after hm h_ ?_
  clear hm h_
  unfold execTrainingRetry
  repeat' with_reducible first
    | assumption
    | exact Keeps.refl _ _
    | (show maskIn _ _ = true; decide)
    | apply State_startTraining_keeps
    | apply State_toTick_keeps
    | apply keepsR_next
    | apply keeps_ite
    | apply keepsR_ite
    | apply keeps_ite2
    | apply keeps_foldl
    | apply keeps_foldl2
    | apply keeps_foldl3
    | intro _
    | dsimp only
    | (fail_if_no_progress (apply keeps_mk; on_goal 2 => (constructor <;> first | exact .inr (by decide) | exact .inl rfl)))
    | split

theorem State_unblock_keeps {m_ : Nat} (hm : maskIn 557963 m_ = true) {s_ s : State} (h_ : Keeps m_ s_ s) (j : Nat) : Keeps m_ s_ (State.unblock s j) := by
  refine Keeps.after hm h_ ?_
  clear hm h_
  unfold State.unblock
  repeat' with_reducible first
    | assumption
    | exact Keeps.refl _ _
    | (show maskIn _ _ = true; decide)
    | apply State_conditionEnd_keeps
    | apply State_setLink_keeps
    | apply keepsR_next
    | apply keeps_ite
    | apply keepsR_ite
    | apply keeps_ite2
    | apply keeps_foldl
    | apply keeps_foldl2
    | apply keeps_foldl3
    | intro _
    | dsimp only
    | (fail_if_no_progress (apply keeps_mk; on_goal 2 => (constructor <;> first | exact .inr (by decide) | exact .inl rfl)))
    | split

theorem State_clearWay_keeps {m_ : Nat} (hm : maskIn 690063 m_ = true) {s_ s : State} (h_ : Keeps m_ s_ s) (j : Nat) : Keeps m_ s_ (State.clearWay s j) := by
  refine Keeps.after hm h_ ?_
  clear hm h_
  unfold State.clearWay
  repeat' with_reducible first
    | assumption
    | exact Keeps.refl _ _
    | (show maskIn _ _ = true; decide)
    | apply State_linkEvent_keeps
    | apply State_report_keeps
    | apply State_setLink_keeps
    | apply State_shedUntil_keeps
    | apply keepsR_next
    | apply keeps_ite
    | apply keepsR_ite
    | apply keeps_ite2
    | apply keeps_foldl
    | apply keeps_foldl2
    | apply keeps_foldl3
    | intro _
    | dsimp only
    | (fail_if_no_progress (apply keeps_mk; on_goal 2 => (constructor <;> first | exact .inr (by decide) | exact .inl rfl)))
    | split

theorem State_grantMap_keeps {m_ : Nat} (hm : maskIn 557963 m_ = true) {s_ s : State} (h_ : Keeps m_ s_ s) (j : Nat) : Keeps m_ s_ (State.grantMap s j) := by
  refine Keeps.after hm h_ ?_
  clear hm h_
  unfold State.grantMap
  repeat' with_reducible first
    | assumption
    | exact Keeps.refl _ _
    | (show maskIn _ _ = true; decide)
    | apply State_setLink_keeps
    | apply State_unblock_keeps
    | apply keepsR_next
    | apply keeps_ite
    | apply keepsR_ite
    | apply keeps_ite2
    | apply keeps_foldl
    | apply keeps_foldl2
    | apply keeps_foldl3
    | intro _
    | dsimp only
    | (fail_if_no_progress (apply keeps_mk; on_goal 2 => (constructor <;> first | exact .inr (by decide) | exact .inl rfl)))
    | split

theorem State_endInterval_keeps {m_ : Nat} (hm : maskIn 32776 m_ = true) {s_ s : State} (h_ : Keeps m_ s_ s) (j : Nat) : Keeps m_ s_ (State.endInterval s j) := by
  refine Keeps.after hm h_ ?_
  clear hm h_
  unfold State.endInterval
  repeat' with_reducible first
    | assumption
    | exact Keeps.refl _ _
    | (show maskIn _ _ = true; decide)
    | apply State_fillPart_keeps
    | apply State_fillTo_keeps
    | apply State_sendFill_keeps
    | apply State_setLink_keeps
    | apply keepsR_next
    | apply keeps_ite
    | apply keepsR_ite
    | apply keeps_ite2
    | apply keeps_foldl
    | apply keeps_foldl2
    | apply keeps_foldl3
    | intro _
    | dsimp only
    | (fail_if_no_progress (apply keeps_mk; on_goal 2 => (constructor <;> first | exact .inr (by decide) | exact .inl rfl)))
    | split

theorem execMarkerSend_keeps {m_ : Nat} (hm : maskIn 755695 m_ = true) {s_ s0 : State} (h_ : Keeps m_ s_ s0) (j : Fin 12) (at_ : Nat) : KeepsR m_ s_ (execMarkerSend j at_ s0) := by
  refine KeepsR.after hm h_ ?_
  clear hm h_
  unfold execMarkerSend
  repeat' with_reducible first
    | assumption
    | exact Keeps.refl _ _
    | (show maskIn _ _ = true; decide)
    | apply State_clearWay_keeps
    | apply State_endInterval_keeps
    | apply State_flushWait_keeps
    | apply State_grantMap_keeps
    | apply State_linkCheck_keeps
    | apply State_mapEvents_keeps
    | apply State_sendMarker_keeps
    | apply State_setLink_keeps
    | apply State_toTick_keeps
    | apply keepsR_next
    | apply keeps_ite
    | apply keepsR_ite
    | apply keeps_ite2
    | apply keeps_foldl
    | apply keeps_foldl2
    | apply keeps_foldl3
    | intro _
    | dsimp only
    | (fail_if_no_progress (apply keeps_mk; on_goal 2 => (constructor <;> first | exact .inr (by decide) | exact .inl rfl)))
    | split

theorem State_newRxMap_keeps {m_ : Nat} (hm : maskIn 33675 m_ = true) {s_ s : State} (h_ : Keeps m_ s_ s) (j : Nat) (m : AlignMarker) : Keeps m_ s_ (State.newRxMap s j m) := by
  refine Keeps.after hm h_ ?_
  clear hm h_
  unfold State.newRxMap
  repeat' with_reducible first
    | assumption
    | exact Keeps.refl _ _
    | (show maskIn _ _ = true; decide)
    | apply State_mapEvents_keeps
    | apply State_setFl_keeps
    | apply State_setLink_keeps
    | apply keepsR_next
    | apply keeps_ite
    | apply keepsR_ite
    | apply keeps_ite2
    | apply keeps_foldl
    | apply keeps_foldl2
    | apply keeps_foldl3
    | intro _
    | dsimp only
    | (fail_if_no_progress (apply keeps_mk; on_goal 2 => (constructor <;> first | exact .inr (by decide) | exact .inl rfl)))
    | split

theorem execAlignmentMarker_keeps {m_ : Nat} (hm : maskIn 755711 m_ = true) {s_ s0 : State} (h_ : Keeps m_ s_ s0) (f : Fin 128) (m : AlignMarker) (at_ : Nat) : KeepsR m_ s_ (execAlignmentMarker f m at_ s0) := by
  refine KeepsR.after hm h_ ?_
  clear hm h_
  unfold execAlignmentMarker
  repeat' with_reducible first
    | assumption
    | exact Keeps.refl _ _
    | (show maskIn _ _ = true; decide)
    | apply State_askAgain_keeps
    | apply State_clearWay_keeps
    | apply State_laneEvent_keeps
    | apply State_linkCheck_keeps
    | apply State_newRxMap_keeps
    | apply State_setFl_keeps
    | apply State_setNum_keeps
    | apply State_toTick_keeps
    | apply State_wantMap_keeps
    | apply keepsR_next
    | apply keeps_ite
    | apply keepsR_ite
    | apply keeps_ite2
    | apply keeps_foldl
    | apply keeps_foldl2
    | apply keeps_foldl3
    | intro _
    | dsimp only
    | (fail_if_no_progress (apply keeps_mk; on_goal 2 => (constructor <;> first | exact .inr (by decide) | exact .inl rfl)))
    | split

theorem execMarkerMissing_keeps {m_ : Nat} (hm : maskIn 755711 m_ = true) {s_ s0 : State} (h_ : Keeps m_ s_ s0) (f : Fin 128) (at_ : Nat) : KeepsR m_ s_ (execMarkerMissing f at_ s0) := by
  refine KeepsR.after hm h_ ?_
  clear hm h_
  unfold execMarkerMissing
  repeat' with_reducible first
    | assumption
    | exact Keeps.refl _ _
    | (show maskIn _ _ = true; decide)
    | apply State_laneEvent_keeps
    | apply State_laneFailed_keeps
    | apply State_linkCheck_keeps
    | apply State_setFl_keeps
    | apply State_toTick_keeps
    | apply State_wantMap_keeps
    | apply keepsR_next
    | apply keeps_ite
    | apply keepsR_ite
    | apply keeps_ite2
    | apply keeps_foldl
    | apply keeps_foldl2
    | apply keeps_foldl3
    | intro _
    | dsimp only
    | (fail_if_no_progress (apply keeps_mk; on_goal 2 => (constructor <;> first | exact .inr (by decide) | exact .inl rfl)))
    | split

theorem execRelockTimeout_keeps {m_ : Nat} (hm : maskIn 32825 m_ = true) {s_ s0 : State} (h_ : Keeps m_ s_ s0) (f : Fin 128) (at_ : Nat) : KeepsR m_ s_ (execRelockTimeout f at_ s0) := by
  refine KeepsR.after hm h_ ?_
  clear hm h_
  unfold execRelockTimeout
  repeat' with_reducible first
    | assumption
    | exact Keeps.refl _ _
    | (show maskIn _ _ = true; decide)
    | apply State_startTraining_keeps
    | apply State_toTick_keeps
    | apply keepsR_next
    | apply keeps_ite
    | apply keepsR_ite
    | apply keeps_ite2
    | apply keeps_foldl
    | apply keeps_foldl2
    | apply keeps_foldl3
    | intro _
    | dsimp only
    | (fail_if_no_progress (apply keeps_mk; on_goal 2 => (constructor <;> first | exact .inr (by decide) | exact .inl rfl)))
    | split

theorem execLinkMarkerTimeout_keeps {m_ : Nat} (hm : maskIn 755695 m_ = true) {s_ s0 : State} (h_ : Keeps m_ s_ s0) (j : Fin 12) (at_ : Nat) : KeepsR m_ s_ (execLinkMarkerTimeout j at_ s0) := by
  refine KeepsR.after hm h_ ?_
  clear hm h_
  unfold execLinkMarkerTimeout
  repeat' with_reducible first
    | assumption
    | exact Keeps.refl _ _
    | (show maskIn _ _ = true; decide)
    | apply State_linkDown_keeps
    | apply State_toTick_keeps
    | apply keepsR_next
    | apply keeps_ite
    | apply keepsR_ite
    | apply keeps_ite2
    | apply keeps_foldl
    | apply keeps_foldl2
    | apply keeps_foldl3
    | intro _
    | dsimp only
    | (fail_if_no_progress (apply keeps_mk; on_goal 2 => (constructor <;> first | exact .inr (by decide) | exact .inl rfl)))
    | split

theorem execEyeScan_keeps {m_ : Nat} (hm : maskIn 755711 m_ = true) {s_ s0 : State} (h_ : Keeps m_ s_ s0) (f : Fin 128) (margin : Byte) (at_ : Nat) : KeepsR m_ s_ (execEyeScan f margin at_ s0) := by
  refine KeepsR.after hm h_ ?_
  clear hm h_
  unfold execEyeScan
  repeat' with_reducible first
    | assumption
    | exact Keeps.refl _ _
    | (show maskIn _ _ = true; decide)
    | apply State_laneWorn_keeps
    | apply State_linkCheck_keeps
    | apply State_setFl_keeps
    | apply State_setNum_keeps
    | apply State_toTick_keeps
    | apply State_wantMap_keeps
    | apply keepsR_next
    | apply keeps_ite
    | apply keepsR_ite
    | apply keeps_ite2
    | apply keeps_foldl
    | apply keeps_foldl2
    | apply keeps_foldl3
    | intro _
    | dsimp only
    | (fail_if_no_progress (apply keeps_mk; on_goal 2 => (constructor <;> first | exact .inr (by decide) | exact .inl rfl)))
    | split

theorem State_prbsInject_keeps {m_ : Nat} (hm : maskIn 32776 m_ = true) {s_ s : State} (h_ : Keeps m_ s_ s) (f : Nat) (n : Nat) : Keeps m_ s_ (State.prbsInject s f n) := by
  refine Keeps.after hm h_ ?_
  clear hm h_
  unfold State.prbsInject
  repeat' with_reducible first
    | assumption
    | exact Keeps.refl _ _
    | (show maskIn _ _ = true; decide)
    | apply State_emit_keeps
    | apply State_setFl_keeps
    | apply keepsR_next
    | apply keeps_ite
    | apply keepsR_ite
    | apply keeps_ite2
    | apply keeps_foldl
    | apply keeps_foldl2
    | apply keeps_foldl3
    | intro _
    | dsimp only
    | (fail_if_no_progress (apply keeps_mk; on_goal 2 => (constructor <;> first | exact .inr (by decide) | exact .inl rfl)))
    | split

theorem State_retrainLane_keeps {m_ : Nat} (hm : maskIn 32793 m_ = true) {s_ s : State} (h_ : Keeps m_ s_ s) (f : Nat) : Keeps m_ s_ (State.retrainLane s f) := by
  refine Keeps.after hm h_ ?_
  clear hm h_
  unfold State.retrainLane
  repeat' with_reducible first
    | assumption
    | exact Keeps.refl _ _
    | (show maskIn _ _ = true; decide)
    | apply State_setFl_keeps
    | apply State_startTraining_keeps
    | apply keepsR_next
    | apply keeps_ite
    | apply keepsR_ite
    | apply keeps_ite2
    | apply keeps_foldl
    | apply keeps_foldl2
    | apply keeps_foldl3
    | intro _
    | dsimp only
    | (fail_if_no_progress (apply keeps_mk; on_goal 2 => (constructor <;> first | exact .inr (by decide) | exact .inl rfl)))
    | split

theorem State_fabStart_keeps {m_ : Nat} (hm : maskIn 32793 m_ = true) {s_ s : State} (h_ : Keeps m_ s_ s)  : Keeps m_ s_ (State.fabStart s) := by
  refine Keeps.after hm h_ ?_
  clear hm h_
  unfold State.fabStart
  repeat' with_reducible first
    | assumption
    | exact Keeps.refl _ _
    | (show maskIn _ _ = true; decide)
    | apply State_startTraining_keeps
    | apply keepsR_next
    | apply keeps_ite
    | apply keepsR_ite
    | apply keeps_ite2
    | apply keeps_foldl
    | apply keeps_foldl2
    | apply keeps_foldl3
    | intro _
    | dsimp only
    | (fail_if_no_progress (apply keeps_mk; on_goal 2 => (constructor <;> first | exact .inr (by decide) | exact .inl rfl)))
    | split

theorem State_fabStop_keeps {m_ : Nat} (hm : maskIn 755663 m_ = true) {s_ s : State} (h_ : Keeps m_ s_ s)  : Keeps m_ s_ (State.fabStop s) := by
  refine Keeps.after hm h_ ?_
  clear hm h_
  unfold State.fabStop
  repeat' with_reducible first
    | assumption
    | exact Keeps.refl _ _
    | (show maskIn _ _ = true; decide)
    | apply State_linkDown_keeps
    | apply State_linkStat_keeps
    | apply keepsR_next
    | apply keeps_ite
    | apply keepsR_ite
    | apply keeps_ite2
    | apply keeps_foldl
    | apply keeps_foldl2
    | apply keeps_foldl3
    | intro _
    | dsimp only
    | (fail_if_no_progress (apply keeps_mk; on_goal 2 => (constructor <;> first | exact .inr (by decide) | exact .inl rfl)))
    | split

theorem State_meshObjs_keeps {m_ : Nat} (hm : maskIn 1 m_ = true) {s_ s : State} (h_ : Keeps m_ s_ s)  : Keeps m_ s_ (State.meshObjs s) := by
  refine Keeps.after hm h_ ?_
  clear hm h_
  unfold State.meshObjs
  repeat' with_reducible first
    | assumption
    | exact Keeps.refl _ _
    | (show maskIn _ _ = true; decide)
    | apply State_roleObj_keeps
    | apply State_setNum_keeps
    | apply keepsR_next
    | apply keeps_ite
    | apply keepsR_ite
    | apply keeps_ite2
    | apply keeps_foldl
    | apply keeps_foldl2
    | apply keeps_foldl3
    | intro _
    | dsimp only
    | (fail_if_no_progress (apply keeps_mk; on_goal 2 => (constructor <;> first | exact .inr (by decide) | exact .inl rfl)))
    | split

theorem State_prbsApply_keeps {m_ : Nat} (hm : maskIn 755679 m_ = true) {s_ s : State} (h_ : Keeps m_ s_ s) (f : Nat) (mode : Nat) : Keeps m_ s_ (State.prbsApply s f mode) := by
  refine Keeps.after hm h_ ?_
  clear hm h_
  unfold State.prbsApply
  repeat' with_reducible first
    | assumption
    | exact Keeps.refl _ _
    | (show maskIn _ _ = true; decide)
    | apply State_emit_keeps
    | apply State_freeNat_keeps
    | apply State_linkDown_keeps
    | apply State_raise_keeps
    | apply State_roleObj_keeps
    | apply State_setFl_keeps
    | apply State_setLink_keeps
    | apply State_startTraining_keeps
    | apply keepsR_next
    | apply keeps_ite
    | apply keepsR_ite
    | apply keeps_ite2
    | apply keeps_foldl
    | apply keeps_foldl2
    | apply keeps_foldl3
    | intro _
    | dsimp only
    | (fail_if_no_progress (apply keeps_mk; on_goal 2 => (constructor <;> first | exact .inr (by decide) | exact .inl rfl)))
    | split

theorem State_area4Apply_keeps {m_ : Nat} (hm : maskIn 755679 m_ = true) {s_ s : State} (h_ : Keeps m_ s_ s) (pre : State) : Keeps m_ s_ (State.area4Apply s pre) := by
  refine Keeps.after hm h_ ?_
  clear hm h_
  unfold State.area4Apply
  repeat' with_reducible first
    | assumption
    | exact Keeps.refl _ _
    | (show maskIn _ _ = true; decide)
    | apply State_fabStart_keeps
    | apply State_linkCheck_keeps
    | apply State_linkDown_keeps
    | apply State_meshObjs_keeps
    | apply State_prbsApply_keeps
    | apply State_roleObj_keeps
    | apply State_setFl_keeps
    | apply State_setLink_keeps
    | apply State_startTraining_keeps
    | apply State_wantMap_keeps
    | apply keepsR_next
    | apply keeps_ite
    | apply keepsR_ite
    | apply keeps_ite2
    | apply keeps_foldl
    | apply keeps_foldl2
    | apply keeps_foldl3
    | intro _
    | dsimp only
    | (fail_if_no_progress (apply keeps_mk; on_goal 2 => (constructor <;> first | exact .inr (by decide) | exact .inl rfl)))
    | split

end Sys2Proof.Machine
end

