-- ==== Sys2Proof/Laws/KeepsStrideRun.lean ====
section
/-! SUPPORT. Stride periods: what every operation keeps. -/

namespace Sys2Proof.Machine

theorem State_swapDue_keeps {m_ : Nat} (hm : maskIn 37839 m_ = true) {s_ s : State} (h_ : Keeps m_ s_ s)  : Keeps m_ s_ (State.swapDue s) := by
  refine Keeps.after hm h_ ?_
  clear hm h_
  unfold State.swapDue
  repeat' with_reducible first
    | assumption
    | exact Keeps.refl _ _
    | (show maskIn _ _ = true; decide)
    | apply State_swapNow_keeps
    | apply State_syncSubs_keeps
    | apply keepsR_next
    | apply keeps_ite
    | apply keepsR_ite
    | apply keeps_ite2
    | apply keeps_foldl
    | apply keeps_foldl2
    | apply keeps_foldl3
    | intro _
    | dsimp only
    | (fail_if_no_progress (apply keeps_mk; on_goal 2 => (constructor <;> first | exact .inr (by decide) | exact .inl rfl)))
    | split

theorem execStrideSwap_keeps {m_ : Nat} (hm : maskIn 37871 m_ = true) {s_ s0 : State} (h_ : Keeps m_ s_ s0) (at_ : Nat) : KeepsR m_ s_ (execStrideSwap at_ s0) := by
  refine KeepsR.after hm h_ ?_
  clear hm h_
  unfold execStrideSwap
  repeat' with_reducible first
    | assumption
    | exact Keeps.refl _ _
    | (show maskIn _ _ = true; decide)
    | apply State_swapDue_keeps
    | apply State_toTick_keeps
    | apply keepsR_next
    | apply keeps_ite
    | apply keepsR_ite
    | apply keeps_ite2
    | apply keeps_foldl
    | apply keeps_foldl2
    | apply keeps_foldl3
    | intro _
    | dsimp only
    | (fail_if_no_progress (apply keeps_mk; on_goal 2 => (constructor <;> first | exact .inr (by decide) | exact .inl rfl)))
    | split

theorem execStridePeriod_keeps {m_ : Nat} (hm : maskIn 38895 m_ = true) {s_ s0 : State} (h_ : Keeps m_ s_ s0) (rate96 : Bool) (t : Nat) (at_ : Nat) : KeepsR m_ s_ (execStridePeriod rate96 t at_ s0) := by
  refine KeepsR.after hm h_ ?_
  clear hm h_
  unfold execStridePeriod
  repeat' with_reducible first
    | assumption
    | exact Keeps.refl _ _
    | (show maskIn _ _ = true; decide)
    | apply State_feedMeter_keeps
    | apply State_limit_keeps
    | apply State_runEngine_keeps
    | apply State_swapDue_keeps
    | apply State_toTick_keeps
    | apply keepsR_next
    | apply keeps_ite
    | apply keepsR_ite
    | apply keeps_ite2
    | apply keeps_foldl
    | apply keeps_foldl2
    | apply keeps_foldl3
    | intro _
    | dsimp only
    | (fail_if_no_progress (apply keeps_mk; on_goal 2 => (constructor <;> first | exact .inr (by decide) | exact .inl rfl)))
    | split

end Sys2Proof.Machine
end

