-- ==== Sys2Proof/Laws/State.lean ====
section
/-! SUPPORT. One lemma per field per update: what each named update makes of every field of the state. -/

namespace Sys2Proof.Machine

@[simp ↓] theorem setObj_objs (s : State) (k : Nat) (v : Val) : (s.setObj k v).objs = tset (objDefault s.fuses) s.objs k v := rfl
@[simp ↓] theorem setObj_chg (s : State) (k : Nat) (v : Val) : (s.setObj k v).chg = if s.obj k = v then s.chg else tset chgNone s.chg k s.pt96 := rfl
@[simp ↓] theorem setObj_regs (s : State) (k : Nat) (v : Val) : (s.setObj k v).regs = s.regs := rfl
@[simp ↓] theorem setObj_mem (s : State) (k : Nat) (v : Val) : (s.setObj k v).mem = s.mem := rfl
@[simp ↓] theorem setObj_out (s : State) (k : Nat) (v : Val) : (s.setObj k v).out = s.out := rfl
@[simp ↓] theorem setObj_free (s : State) (k : Nat) (v : Val) : (s.setObj k v).free = s.free := rfl
@[simp ↓] theorem setObj_fuses (s : State) (k : Nat) (v : Val) : (s.setObj k v).fuses = s.fuses := rfl
@[simp ↓] theorem setObj_tm (s : State) (k : Nat) (v : Val) : (s.setObj k v).tm = s.tm := rfl
@[simp ↓] theorem setObj_dict (s : State) (k : Nat) (v : Val) : (s.setObj k v).dict = s.dict := rfl
@[simp ↓] theorem setObj_hif (s : State) (k : Nat) (v : Val) : (s.setObj k v).hif = s.hif := rfl
@[simp ↓] theorem setObj_flt (s : State) (k : Nat) (v : Val) : (s.setObj k v).flt = s.flt := rfl
@[simp ↓] theorem setObj_evr (s : State) (k : Nat) (v : Val) : (s.setObj k v).evr = s.evr := rfl
@[simp ↓] theorem setObj_ess (s : State) (k : Nat) (v : Val) : (s.setObj k v).ess = s.ess := rfl
@[simp ↓] theorem setObj_aud (s : State) (k : Nat) (v : Val) : (s.setObj k v).aud = s.aud := rfl
@[simp ↓] theorem setObj_str (s : State) (k : Nat) (v : Val) : (s.setObj k v).str = s.str := rfl
@[simp ↓] theorem setObj_pac (s : State) (k : Nat) (v : Val) : (s.setObj k v).pac = s.pac := rfl
@[simp ↓] theorem setObj_eth (s : State) (k : Nat) (v : Val) : (s.setObj k v).eth = s.eth := rfl
@[simp ↓] theorem setObj_fab (s : State) (k : Nat) (v : Val) : (s.setObj k v).fab = s.fab := rfl
@[simp ↓] theorem setObj_comp (s : State) (k : Nat) (v : Val) : (s.setObj k v).comp = s.comp := rfl
@[simp ↓] theorem setObj_twin (s : State) (k : Nat) (v : Val) : (s.setObj k v).twin = s.twin := rfl
@[simp ↓] theorem setObj_pwr (s : State) (k : Nat) (v : Val) : (s.setObj k v).pwr = s.pwr := rfl
@[simp ↓] theorem setObj_upd (s : State) (k : Nat) (v : Val) : (s.setObj k v).upd = s.upd := rfl
@[simp ↓] theorem setObj_pending (s : State) (k : Nat) (v : Val) : (s.setObj k v).pending = s.pending := rfl
@[simp ↓] theorem setReg_objs (s : State) (off v : Nat) : (s.setReg off v).objs = s.objs := rfl
@[simp ↓] theorem setReg_chg (s : State) (off v : Nat) : (s.setReg off v).chg = s.chg := rfl
@[simp ↓] theorem setReg_regs (s : State) (off v : Nat) : (s.setReg off v).regs = tset regDefault s.regs off (v % 2 ^ 32) := rfl
@[simp ↓] theorem setReg_mem (s : State) (off v : Nat) : (s.setReg off v).mem = s.mem := rfl
@[simp ↓] theorem setReg_out (s : State) (off v : Nat) : (s.setReg off v).out = s.out := rfl
@[simp ↓] theorem setReg_free (s : State) (off v : Nat) : (s.setReg off v).free = s.free := rfl
@[simp ↓] theorem setReg_fuses (s : State) (off v : Nat) : (s.setReg off v).fuses = s.fuses := rfl
@[simp ↓] theorem setReg_tm (s : State) (off v : Nat) : (s.setReg off v).tm = s.tm := rfl
@[simp ↓] theorem setReg_dict (s : State) (off v : Nat) : (s.setReg off v).dict = s.dict := rfl
@[simp ↓] theorem setReg_hif (s : State) (off v : Nat) : (s.setReg off v).hif = s.hif := rfl
@[simp ↓] theorem setReg_flt (s : State) (off v : Nat) : (s.setReg off v).flt = s.flt := rfl
@[simp ↓] theorem setReg_evr (s : State) (off v : Nat) : (s.setReg off v).evr = s.evr := rfl
@[simp ↓] theorem setReg_ess (s : State) (off v : Nat) : (s.setReg off v).ess = s.ess := rfl
@[simp ↓] theorem setReg_aud (s : State) (off v : Nat) : (s.setReg off v).aud = s.aud := rfl
@[simp ↓] theorem setReg_str (s : State) (off v : Nat) : (s.setReg off v).str = s.str := rfl
@[simp ↓] theorem setReg_pac (s : State) (off v : Nat) : (s.setReg off v).pac = s.pac := rfl
@[simp ↓] theorem setReg_eth (s : State) (off v : Nat) : (s.setReg off v).eth = s.eth := rfl
@[simp ↓] theorem setReg_fab (s : State) (off v : Nat) : (s.setReg off v).fab = s.fab := rfl
@[simp ↓] theorem setReg_comp (s : State) (off v : Nat) : (s.setReg off v).comp = s.comp := rfl
@[simp ↓] theorem setReg_twin (s : State) (off v : Nat) : (s.setReg off v).twin = s.twin := rfl
@[simp ↓] theorem setReg_pwr (s : State) (off v : Nat) : (s.setReg off v).pwr = s.pwr := rfl
@[simp ↓] theorem setReg_upd (s : State) (off v : Nat) : (s.setReg off v).upd = s.upd := rfl
@[simp ↓] theorem setReg_pending (s : State) (off v : Nat) : (s.setReg off v).pending = s.pending := rfl
@[simp ↓] theorem setByte_objs (s : State) (a : Nat) (b : Byte) : (s.setByte a b).objs = s.objs := rfl
@[simp ↓] theorem setByte_chg (s : State) (a : Nat) (b : Byte) : (s.setByte a b).chg = s.chg := rfl
@[simp ↓] theorem setByte_regs (s : State) (a : Nat) (b : Byte) : (s.setByte a b).regs = s.regs := rfl
@[simp ↓] theorem setByte_mem (s : State) (a : Nat) (b : Byte) : (s.setByte a b).mem = tset memZero s.mem a b := rfl
@[simp ↓] theorem setByte_out (s : State) (a : Nat) (b : Byte) : (s.setByte a b).out = s.out := rfl
@[simp ↓] theorem setByte_free (s : State) (a : Nat) (b : Byte) : (s.setByte a b).free = s.free := rfl
@[simp ↓] theorem setByte_fuses (s : State) (a : Nat) (b : Byte) : (s.setByte a b).fuses = s.fuses := rfl
@[simp ↓] theorem setByte_tm (s : State) (a : Nat) (b : Byte) : (s.setByte a b).tm = s.tm := rfl
@[simp ↓] theorem setByte_dict (s : State) (a : Nat) (b : Byte) : (s.setByte a b).dict = s.dict := rfl
@[simp ↓] theorem setByte_hif (s : State) (a : Nat) (b : Byte) : (s.setByte a b).hif = s.hif := rfl
@[simp ↓] theorem setByte_flt (s : State) (a : Nat) (b : Byte) : (s.setByte a b).flt = s.flt := rfl
@[simp ↓] theorem setByte_evr (s : State) (a : Nat) (b : Byte) : (s.setByte a b).evr = s.evr := rfl
@[simp ↓] theorem setByte_ess (s : State) (a : Nat) (b : Byte) : (s.setByte a b).ess = s.ess := rfl
@[simp ↓] theorem setByte_aud (s : State) (a : Nat) (b : Byte) : (s.setByte a b).aud = s.aud := rfl
@[simp ↓] theorem setByte_str (s : State) (a : Nat) (b : Byte) : (s.setByte a b).str = s.str := rfl
@[simp ↓] theorem setByte_pac (s : State) (a : Nat) (b : Byte) : (s.setByte a b).pac = s.pac := rfl
@[simp ↓] theorem setByte_eth (s : State) (a : Nat) (b : Byte) : (s.setByte a b).eth = s.eth := rfl
@[simp ↓] theorem setByte_fab (s : State) (a : Nat) (b : Byte) : (s.setByte a b).fab = s.fab := rfl
@[simp ↓] theorem setByte_comp (s : State) (a : Nat) (b : Byte) : (s.setByte a b).comp = s.comp := rfl
@[simp ↓] theorem setByte_twin (s : State) (a : Nat) (b : Byte) : (s.setByte a b).twin = s.twin := rfl
@[simp ↓] theorem setByte_pwr (s : State) (a : Nat) (b : Byte) : (s.setByte a b).pwr = s.pwr := rfl
@[simp ↓] theorem setByte_upd (s : State) (a : Nat) (b : Byte) : (s.setByte a b).upd = s.upd := rfl
@[simp ↓] theorem setByte_pending (s : State) (a : Nat) (b : Byte) : (s.setByte a b).pending = s.pending := rfl
@[simp ↓] theorem emit_objs (s : State) (e : Emission) : (s.emit e).objs = s.objs := rfl
@[simp ↓] theorem emit_chg (s : State) (e : Emission) : (s.emit e).chg = s.chg := rfl
@[simp ↓] theorem emit_regs (s : State) (e : Emission) : (s.emit e).regs = s.regs := rfl
@[simp ↓] theorem emit_mem (s : State) (e : Emission) : (s.emit e).mem = s.mem := rfl
@[simp ↓] theorem emit_out (s : State) (e : Emission) : (s.emit e).out = s.out ++ [e] := rfl
@[simp ↓] theorem emit_free (s : State) (e : Emission) : (s.emit e).free = s.free := rfl
@[simp ↓] theorem emit_fuses (s : State) (e : Emission) : (s.emit e).fuses = s.fuses := rfl
@[simp ↓] theorem emit_tm (s : State) (e : Emission) : (s.emit e).tm = s.tm := rfl
@[simp ↓] theorem emit_dict (s : State) (e : Emission) : (s.emit e).dict = s.dict := rfl
@[simp ↓] theorem emit_hif (s : State) (e : Emission) : (s.emit e).hif = s.hif := rfl
@[simp ↓] theorem emit_flt (s : State) (e : Emission) : (s.emit e).flt = s.flt := rfl
@[simp ↓] theorem emit_evr (s : State) (e : Emission) : (s.emit e).evr = s.evr := rfl
@[simp ↓] theorem emit_ess (s : State) (e : Emission) : (s.emit e).ess = s.ess := rfl
@[simp ↓] theorem emit_aud (s : State) (e : Emission) : (s.emit e).aud = s.aud := rfl
@[simp ↓] theorem emit_str (s : State) (e : Emission) : (s.emit e).str = s.str := rfl
@[simp ↓] theorem emit_pac (s : State) (e : Emission) : (s.emit e).pac = s.pac := rfl
@[simp ↓] theorem emit_eth (s : State) (e : Emission) : (s.emit e).eth = s.eth := rfl
@[simp ↓] theorem emit_fab (s : State) (e : Emission) : (s.emit e).fab = s.fab := rfl
@[simp ↓] theorem emit_comp (s : State) (e : Emission) : (s.emit e).comp = s.comp := rfl
@[simp ↓] theorem emit_twin (s : State) (e : Emission) : (s.emit e).twin = s.twin := rfl
@[simp ↓] theorem emit_pwr (s : State) (e : Emission) : (s.emit e).pwr = s.pwr := rfl
@[simp ↓] theorem emit_upd (s : State) (e : Emission) : (s.emit e).upd = s.upd := rfl
@[simp ↓] theorem emit_pending (s : State) (e : Emission) : (s.emit e).pending = s.pending := rfl
@[simp ↓] theorem setSess_objs (s : State) (i : Nat) (v : Session) : (s.setSess i v).objs = s.objs := rfl
@[simp ↓] theorem setSess_chg (s : State) (i : Nat) (v : Session) : (s.setSess i v).chg = s.chg := rfl
@[simp ↓] theorem setSess_regs (s : State) (i : Nat) (v : Session) : (s.setSess i v).regs = s.regs := rfl
@[simp ↓] theorem setSess_mem (s : State) (i : Nat) (v : Session) : (s.setSess i v).mem = s.mem := rfl
@[simp ↓] theorem setSess_out (s : State) (i : Nat) (v : Session) : (s.setSess i v).out = s.out := rfl
@[simp ↓] theorem setSess_free (s : State) (i : Nat) (v : Session) : (s.setSess i v).free = s.free := rfl
@[simp ↓] theorem setSess_fuses (s : State) (i : Nat) (v : Session) : (s.setSess i v).fuses = s.fuses := rfl
@[simp ↓] theorem setSess_tm (s : State) (i : Nat) (v : Session) : (s.setSess i v).tm = s.tm := rfl
@[simp ↓] theorem setSess_dict (s : State) (i : Nat) (v : Session) : (s.setSess i v).dict = { s.dict with sessions := tset sessFree s.dict.sessions i v } := rfl
@[simp ↓] theorem setSess_hif (s : State) (i : Nat) (v : Session) : (s.setSess i v).hif = s.hif := rfl
@[simp ↓] theorem setSess_flt (s : State) (i : Nat) (v : Session) : (s.setSess i v).flt = s.flt := rfl
@[simp ↓] theorem setSess_evr (s : State) (i : Nat) (v : Session) : (s.setSess i v).evr = s.evr := rfl
@[simp ↓] theorem setSess_ess (s : State) (i : Nat) (v : Session) : (s.setSess i v).ess = s.ess := rfl
@[simp ↓] theorem setSess_aud (s : State) (i : Nat) (v : Session) : (s.setSess i v).aud = s.aud := rfl
@[simp ↓] theorem setSess_str (s : State) (i : Nat) (v : Session) : (s.setSess i v).str = s.str := rfl
@[simp ↓] theorem setSess_pac (s : State) (i : Nat) (v : Session) : (s.setSess i v).pac = s.pac := rfl
@[simp ↓] theorem setSess_eth (s : State) (i : Nat) (v : Session) : (s.setSess i v).eth = s.eth := rfl
@[simp ↓] theorem setSess_fab (s : State) (i : Nat) (v : Session) : (s.setSess i v).fab = s.fab := rfl
@[simp ↓] theorem setSess_comp (s : State) (i : Nat) (v : Session) : (s.setSess i v).comp = s.comp := rfl
@[simp ↓] theorem setSess_twin (s : State) (i : Nat) (v : Session) : (s.setSess i v).twin = s.twin := rfl
@[simp ↓] theorem setSess_pwr (s : State) (i : Nat) (v : Session) : (s.setSess i v).pwr = s.pwr := rfl
@[simp ↓] theorem setSess_upd (s : State) (i : Nat) (v : Session) : (s.setSess i v).upd = s.upd := rfl
@[simp ↓] theorem setSess_pending (s : State) (i : Nat) (v : Session) : (s.setSess i v).pending = s.pending := rfl
@[simp ↓] theorem setHif_objs (s : State) (h : HifSt) : (s.setHif h).objs = s.objs := rfl
@[simp ↓] theorem setHif_chg (s : State) (h : HifSt) : (s.setHif h).chg = s.chg := rfl
@[simp ↓] theorem setHif_regs (s : State) (h : HifSt) : (s.setHif h).regs = s.regs := rfl
@[simp ↓] theorem setHif_mem (s : State) (h : HifSt) : (s.setHif h).mem = s.mem := rfl
@[simp ↓] theorem setHif_out (s : State) (h : HifSt) : (s.setHif h).out = s.out := rfl
@[simp ↓] theorem setHif_free (s : State) (h : HifSt) : (s.setHif h).free = s.free := rfl
@[simp ↓] theorem setHif_fuses (s : State) (h : HifSt) : (s.setHif h).fuses = s.fuses := rfl
@[simp ↓] theorem setHif_tm (s : State) (h : HifSt) : (s.setHif h).tm = s.tm := rfl
@[simp ↓] theorem setHif_dict (s : State) (h : HifSt) : (s.setHif h).dict = s.dict := rfl
@[simp ↓] theorem setHif_hif (s : State) (h : HifSt) : (s.setHif h).hif = h := rfl
@[simp ↓] theorem setHif_flt (s : State) (h : HifSt) : (s.setHif h).flt = s.flt := rfl
@[simp ↓] theorem setHif_evr (s : State) (h : HifSt) : (s.setHif h).evr = s.evr := rfl
@[simp ↓] theorem setHif_ess (s : State) (h : HifSt) : (s.setHif h).ess = s.ess := rfl
@[simp ↓] theorem setHif_aud (s : State) (h : HifSt) : (s.setHif h).aud = s.aud := rfl
@[simp ↓] theorem setHif_str (s : State) (h : HifSt) : (s.setHif h).str = s.str := rfl
@[simp ↓] theorem setHif_pac (s : State) (h : HifSt) : (s.setHif h).pac = s.pac := rfl
@[simp ↓] theorem setHif_eth (s : State) (h : HifSt) : (s.setHif h).eth = s.eth := rfl
@[simp ↓] theorem setHif_fab (s : State) (h : HifSt) : (s.setHif h).fab = s.fab := rfl
@[simp ↓] theorem setHif_comp (s : State) (h : HifSt) : (s.setHif h).comp = s.comp := rfl
@[simp ↓] theorem setHif_twin (s : State) (h : HifSt) : (s.setHif h).twin = s.twin := rfl
@[simp ↓] theorem setHif_pwr (s : State) (h : HifSt) : (s.setHif h).pwr = s.pwr := rfl
@[simp ↓] theorem setHif_upd (s : State) (h : HifSt) : (s.setHif h).upd = s.upd := rfl
@[simp ↓] theorem setHif_pending (s : State) (h : HifSt) : (s.setHif h).pending = s.pending := rfl
@[simp ↓] theorem setSrc_objs (s : State) (n : Nat) (v : SrcSt) : (s.setSrc n v).objs = s.objs := rfl
@[simp ↓] theorem setSrc_chg (s : State) (n : Nat) (v : SrcSt) : (s.setSrc n v).chg = s.chg := rfl
@[simp ↓] theorem setSrc_regs (s : State) (n : Nat) (v : SrcSt) : (s.setSrc n v).regs = s.regs := rfl
@[simp ↓] theorem setSrc_mem (s : State) (n : Nat) (v : SrcSt) : (s.setSrc n v).mem = s.mem := rfl
@[simp ↓] theorem setSrc_out (s : State) (n : Nat) (v : SrcSt) : (s.setSrc n v).out = s.out := rfl
@[simp ↓] theorem setSrc_free (s : State) (n : Nat) (v : SrcSt) : (s.setSrc n v).free = s.free := rfl
@[simp ↓] theorem setSrc_fuses (s : State) (n : Nat) (v : SrcSt) : (s.setSrc n v).fuses = s.fuses := rfl
@[simp ↓] theorem setSrc_tm (s : State) (n : Nat) (v : SrcSt) : (s.setSrc n v).tm = s.tm := rfl
@[simp ↓] theorem setSrc_dict (s : State) (n : Nat) (v : SrcSt) : (s.setSrc n v).dict = s.dict := rfl
@[simp ↓] theorem setSrc_hif (s : State) (n : Nat) (v : SrcSt) : (s.setSrc n v).hif = s.hif := rfl
@[simp ↓] theorem setSrc_flt (s : State) (n : Nat) (v : SrcSt) : (s.setSrc n v).flt = { s.flt with src := tset srcClear s.flt.src n v } := rfl
@[simp ↓] theorem setSrc_evr (s : State) (n : Nat) (v : SrcSt) : (s.setSrc n v).evr = s.evr := rfl
@[simp ↓] theorem setSrc_ess (s : State) (n : Nat) (v : SrcSt) : (s.setSrc n v).ess = s.ess := rfl
@[simp ↓] theorem setSrc_aud (s : State) (n : Nat) (v : SrcSt) : (s.setSrc n v).aud = s.aud := rfl
@[simp ↓] theorem setSrc_str (s : State) (n : Nat) (v : SrcSt) : (s.setSrc n v).str = s.str := rfl
@[simp ↓] theorem setSrc_pac (s : State) (n : Nat) (v : SrcSt) : (s.setSrc n v).pac = s.pac := rfl
@[simp ↓] theorem setSrc_eth (s : State) (n : Nat) (v : SrcSt) : (s.setSrc n v).eth = s.eth := rfl
@[simp ↓] theorem setSrc_fab (s : State) (n : Nat) (v : SrcSt) : (s.setSrc n v).fab = s.fab := rfl
@[simp ↓] theorem setSrc_comp (s : State) (n : Nat) (v : SrcSt) : (s.setSrc n v).comp = s.comp := rfl
@[simp ↓] theorem setSrc_twin (s : State) (n : Nat) (v : SrcSt) : (s.setSrc n v).twin = s.twin := rfl
@[simp ↓] theorem setSrc_pwr (s : State) (n : Nat) (v : SrcSt) : (s.setSrc n v).pwr = s.pwr := rfl
@[simp ↓] theorem setSrc_upd (s : State) (n : Nat) (v : SrcSt) : (s.setSrc n v).upd = s.upd := rfl
@[simp ↓] theorem setSrc_pending (s : State) (n : Nat) (v : SrcSt) : (s.setSrc n v).pending = s.pending := rfl
@[simp ↓] theorem setLane_objs (s : State) (p : Nat) (l : SdiLane) : (s.setLane p l).objs = s.objs := rfl
@[simp ↓] theorem setLane_chg (s : State) (p : Nat) (l : SdiLane) : (s.setLane p l).chg = s.chg := rfl
@[simp ↓] theorem setLane_regs (s : State) (p : Nat) (l : SdiLane) : (s.setLane p l).regs = s.regs := rfl
@[simp ↓] theorem setLane_mem (s : State) (p : Nat) (l : SdiLane) : (s.setLane p l).mem = s.mem := rfl
@[simp ↓] theorem setLane_out (s : State) (p : Nat) (l : SdiLane) : (s.setLane p l).out = s.out := rfl
@[simp ↓] theorem setLane_free (s : State) (p : Nat) (l : SdiLane) : (s.setLane p l).free = s.free := rfl
@[simp ↓] theorem setLane_fuses (s : State) (p : Nat) (l : SdiLane) : (s.setLane p l).fuses = s.fuses := rfl
@[simp ↓] theorem setLane_tm (s : State) (p : Nat) (l : SdiLane) : (s.setLane p l).tm = s.tm := rfl
@[simp ↓] theorem setLane_dict (s : State) (p : Nat) (l : SdiLane) : (s.setLane p l).dict = s.dict := rfl
@[simp ↓] theorem setLane_hif (s : State) (p : Nat) (l : SdiLane) : (s.setLane p l).hif = s.hif := rfl
@[simp ↓] theorem setLane_flt (s : State) (p : Nat) (l : SdiLane) : (s.setLane p l).flt = s.flt := rfl
@[simp ↓] theorem setLane_evr (s : State) (p : Nat) (l : SdiLane) : (s.setLane p l).evr = s.evr := rfl
@[simp ↓] theorem setLane_ess (s : State) (p : Nat) (l : SdiLane) : (s.setLane p l).ess = { s.ess with sdi := tset sdiIdle s.ess.sdi p l } := rfl
@[simp ↓] theorem setLane_aud (s : State) (p : Nat) (l : SdiLane) : (s.setLane p l).aud = s.aud := rfl
@[simp ↓] theorem setLane_str (s : State) (p : Nat) (l : SdiLane) : (s.setLane p l).str = s.str := rfl
@[simp ↓] theorem setLane_pac (s : State) (p : Nat) (l : SdiLane) : (s.setLane p l).pac = s.pac := rfl
@[simp ↓] theorem setLane_eth (s : State) (p : Nat) (l : SdiLane) : (s.setLane p l).eth = s.eth := rfl
@[simp ↓] theorem setLane_fab (s : State) (p : Nat) (l : SdiLane) : (s.setLane p l).fab = s.fab := rfl
@[simp ↓] theorem setLane_comp (s : State) (p : Nat) (l : SdiLane) : (s.setLane p l).comp = s.comp := rfl
@[simp ↓] theorem setLane_twin (s : State) (p : Nat) (l : SdiLane) : (s.setLane p l).twin = s.twin := rfl
@[simp ↓] theorem setLane_pwr (s : State) (p : Nat) (l : SdiLane) : (s.setLane p l).pwr = s.pwr := rfl
@[simp ↓] theorem setLane_upd (s : State) (p : Nat) (l : SdiLane) : (s.setLane p l).upd = s.upd := rfl
@[simp ↓] theorem setLane_pending (s : State) (p : Nat) (l : SdiLane) : (s.setLane p l).pending = s.pending := rfl
@[simp ↓] theorem setSlot_objs (s : State) (n : Nat) (v : SlotSt) : (s.setSlot n v).objs = s.objs := rfl
@[simp ↓] theorem setSlot_chg (s : State) (n : Nat) (v : SlotSt) : (s.setSlot n v).chg = s.chg := rfl
@[simp ↓] theorem setSlot_regs (s : State) (n : Nat) (v : SlotSt) : (s.setSlot n v).regs = s.regs := rfl
@[simp ↓] theorem setSlot_mem (s : State) (n : Nat) (v : SlotSt) : (s.setSlot n v).mem = s.mem := rfl
@[simp ↓] theorem setSlot_out (s : State) (n : Nat) (v : SlotSt) : (s.setSlot n v).out = s.out := rfl
@[simp ↓] theorem setSlot_free (s : State) (n : Nat) (v : SlotSt) : (s.setSlot n v).free = s.free := rfl
@[simp ↓] theorem setSlot_fuses (s : State) (n : Nat) (v : SlotSt) : (s.setSlot n v).fuses = s.fuses := rfl
@[simp ↓] theorem setSlot_tm (s : State) (n : Nat) (v : SlotSt) : (s.setSlot n v).tm = s.tm := rfl
@[simp ↓] theorem setSlot_dict (s : State) (n : Nat) (v : SlotSt) : (s.setSlot n v).dict = s.dict := rfl
@[simp ↓] theorem setSlot_hif (s : State) (n : Nat) (v : SlotSt) : (s.setSlot n v).hif = s.hif := rfl
@[simp ↓] theorem setSlot_flt (s : State) (n : Nat) (v : SlotSt) : (s.setSlot n v).flt = s.flt := rfl
@[simp ↓] theorem setSlot_evr (s : State) (n : Nat) (v : SlotSt) : (s.setSlot n v).evr = s.evr := rfl
@[simp ↓] theorem setSlot_ess (s : State) (n : Nat) (v : SlotSt) : (s.setSlot n v).ess = { s.ess with slots := tset slotIdle s.ess.slots n v } := rfl
@[simp ↓] theorem setSlot_aud (s : State) (n : Nat) (v : SlotSt) : (s.setSlot n v).aud = s.aud := rfl
@[simp ↓] theorem setSlot_str (s : State) (n : Nat) (v : SlotSt) : (s.setSlot n v).str = s.str := rfl
@[simp ↓] theorem setSlot_pac (s : State) (n : Nat) (v : SlotSt) : (s.setSlot n v).pac = s.pac := rfl
@[simp ↓] theorem setSlot_eth (s : State) (n : Nat) (v : SlotSt) : (s.setSlot n v).eth = s.eth := rfl
@[simp ↓] theorem setSlot_fab (s : State) (n : Nat) (v : SlotSt) : (s.setSlot n v).fab = s.fab := rfl
@[simp ↓] theorem setSlot_comp (s : State) (n : Nat) (v : SlotSt) : (s.setSlot n v).comp = s.comp := rfl
@[simp ↓] theorem setSlot_twin (s : State) (n : Nat) (v : SlotSt) : (s.setSlot n v).twin = s.twin := rfl
@[simp ↓] theorem setSlot_pwr (s : State) (n : Nat) (v : SlotSt) : (s.setSlot n v).pwr = s.pwr := rfl
@[simp ↓] theorem setSlot_upd (s : State) (n : Nat) (v : SlotSt) : (s.setSlot n v).upd = s.upd := rfl
@[simp ↓] theorem setSlot_pending (s : State) (n : Nat) (v : SlotSt) : (s.setSlot n v).pending = s.pending := rfl
@[simp ↓] theorem setMember_objs (s : State) (n sub : Nat) (v : Member) : (s.setMember n sub v).objs = s.objs := rfl
@[simp ↓] theorem setMember_chg (s : State) (n sub : Nat) (v : Member) : (s.setMember n sub v).chg = s.chg := rfl
@[simp ↓] theorem setMember_regs (s : State) (n sub : Nat) (v : Member) : (s.setMember n sub v).regs = s.regs := rfl
@[simp ↓] theorem setMember_mem (s : State) (n sub : Nat) (v : Member) : (s.setMember n sub v).mem = s.mem := rfl
@[simp ↓] theorem setMember_out (s : State) (n sub : Nat) (v : Member) : (s.setMember n sub v).out = s.out := rfl
@[simp ↓] theorem setMember_free (s : State) (n sub : Nat) (v : Member) : (s.setMember n sub v).free = s.free := rfl
@[simp ↓] theorem setMember_fuses (s : State) (n sub : Nat) (v : Member) : (s.setMember n sub v).fuses = s.fuses := rfl
@[simp ↓] theorem setMember_tm (s : State) (n sub : Nat) (v : Member) : (s.setMember n sub v).tm = s.tm := rfl
@[simp ↓] theorem setMember_dict (s : State) (n sub : Nat) (v : Member) : (s.setMember n sub v).dict = s.dict := rfl
@[simp ↓] theorem setMember_hif (s : State) (n sub : Nat) (v : Member) : (s.setMember n sub v).hif = s.hif := rfl
@[simp ↓] theorem setMember_flt (s : State) (n sub : Nat) (v : Member) : (s.setMember n sub v).flt = s.flt := rfl
@[simp ↓] theorem setMember_evr (s : State) (n sub : Nat) (v : Member) : (s.setMember n sub v).evr = s.evr := rfl
@[simp ↓] theorem setMember_ess (s : State) (n sub : Nat) (v : Member) : (s.setMember n sub v).ess = { s.ess with members := tset memberNone s.ess.members (4 * n + sub) v } := rfl
@[simp ↓] theorem setMember_aud (s : State) (n sub : Nat) (v : Member) : (s.setMember n sub v).aud = s.aud := rfl
@[simp ↓] theorem setMember_str (s : State) (n sub : Nat) (v : Member) : (s.setMember n sub v).str = s.str := rfl
@[simp ↓] theorem setMember_pac (s : State) (n sub : Nat) (v : Member) : (s.setMember n sub v).pac = s.pac := rfl
@[simp ↓] theorem setMember_eth (s : State) (n sub : Nat) (v : Member) : (s.setMember n sub v).eth = s.eth := rfl
@[simp ↓] theorem setMember_fab (s : State) (n sub : Nat) (v : Member) : (s.setMember n sub v).fab = s.fab := rfl
@[simp ↓] theorem setMember_comp (s : State) (n sub : Nat) (v : Member) : (s.setMember n sub v).comp = s.comp := rfl
@[simp ↓] theorem setMember_twin (s : State) (n sub : Nat) (v : Member) : (s.setMember n sub v).twin = s.twin := rfl
@[simp ↓] theorem setMember_pwr (s : State) (n sub : Nat) (v : Member) : (s.setMember n sub v).pwr = s.pwr := rfl
@[simp ↓] theorem setMember_upd (s : State) (n sub : Nat) (v : Member) : (s.setMember n sub v).upd = s.upd := rfl
@[simp ↓] theorem setMember_pending (s : State) (n sub : Nat) (v : Member) : (s.setMember n sub v).pending = s.pending := rfl
@[simp ↓] theorem setOut_objs (s : State) (o : Nat) (v : OutSt) : (s.setOut o v).objs = s.objs := rfl
@[simp ↓] theorem setOut_chg (s : State) (o : Nat) (v : OutSt) : (s.setOut o v).chg = s.chg := rfl
@[simp ↓] theorem setOut_regs (s : State) (o : Nat) (v : OutSt) : (s.setOut o v).regs = s.regs := rfl
@[simp ↓] theorem setOut_mem (s : State) (o : Nat) (v : OutSt) : (s.setOut o v).mem = s.mem := rfl
@[simp ↓] theorem setOut_out (s : State) (o : Nat) (v : OutSt) : (s.setOut o v).out = s.out := rfl
@[simp ↓] theorem setOut_free (s : State) (o : Nat) (v : OutSt) : (s.setOut o v).free = s.free := rfl
@[simp ↓] theorem setOut_fuses (s : State) (o : Nat) (v : OutSt) : (s.setOut o v).fuses = s.fuses := rfl
@[simp ↓] theorem setOut_tm (s : State) (o : Nat) (v : OutSt) : (s.setOut o v).tm = s.tm := rfl
@[simp ↓] theorem setOut_dict (s : State) (o : Nat) (v : OutSt) : (s.setOut o v).dict = s.dict := rfl
@[simp ↓] theorem setOut_hif (s : State) (o : Nat) (v : OutSt) : (s.setOut o v).hif = s.hif := rfl
@[simp ↓] theorem setOut_flt (s : State) (o : Nat) (v : OutSt) : (s.setOut o v).flt = s.flt := rfl
@[simp ↓] theorem setOut_evr (s : State) (o : Nat) (v : OutSt) : (s.setOut o v).evr = s.evr := rfl
@[simp ↓] theorem setOut_ess (s : State) (o : Nat) (v : OutSt) : (s.setOut o v).ess = { s.ess with outs := tset outIdle s.ess.outs o v } := rfl
@[simp ↓] theorem setOut_aud (s : State) (o : Nat) (v : OutSt) : (s.setOut o v).aud = s.aud := rfl
@[simp ↓] theorem setOut_str (s : State) (o : Nat) (v : OutSt) : (s.setOut o v).str = s.str := rfl
@[simp ↓] theorem setOut_pac (s : State) (o : Nat) (v : OutSt) : (s.setOut o v).pac = s.pac := rfl
@[simp ↓] theorem setOut_eth (s : State) (o : Nat) (v : OutSt) : (s.setOut o v).eth = s.eth := rfl
@[simp ↓] theorem setOut_fab (s : State) (o : Nat) (v : OutSt) : (s.setOut o v).fab = s.fab := rfl
@[simp ↓] theorem setOut_comp (s : State) (o : Nat) (v : OutSt) : (s.setOut o v).comp = s.comp := rfl
@[simp ↓] theorem setOut_twin (s : State) (o : Nat) (v : OutSt) : (s.setOut o v).twin = s.twin := rfl
@[simp ↓] theorem setOut_pwr (s : State) (o : Nat) (v : OutSt) : (s.setOut o v).pwr = s.pwr := rfl
@[simp ↓] theorem setOut_upd (s : State) (o : Nat) (v : OutSt) : (s.setOut o v).upd = s.upd := rfl
@[simp ↓] theorem setOut_pending (s : State) (o : Nat) (v : OutSt) : (s.setOut o v).pending = s.pending := rfl
@[simp ↓] theorem setChan_objs (s : State) (k : Nat) (c : Chan) : (s.setChan k c).objs = s.objs := rfl
@[simp ↓] theorem setChan_chg (s : State) (k : Nat) (c : Chan) : (s.setChan k c).chg = s.chg := rfl
@[simp ↓] theorem setChan_regs (s : State) (k : Nat) (c : Chan) : (s.setChan k c).regs = s.regs := rfl
@[simp ↓] theorem setChan_mem (s : State) (k : Nat) (c : Chan) : (s.setChan k c).mem = s.mem := rfl
@[simp ↓] theorem setChan_out (s : State) (k : Nat) (c : Chan) : (s.setChan k c).out = s.out := rfl
@[simp ↓] theorem setChan_free (s : State) (k : Nat) (c : Chan) : (s.setChan k c).free = s.free := rfl
@[simp ↓] theorem setChan_fuses (s : State) (k : Nat) (c : Chan) : (s.setChan k c).fuses = s.fuses := rfl
@[simp ↓] theorem setChan_tm (s : State) (k : Nat) (c : Chan) : (s.setChan k c).tm = s.tm := rfl
@[simp ↓] theorem setChan_dict (s : State) (k : Nat) (c : Chan) : (s.setChan k c).dict = s.dict := rfl
@[simp ↓] theorem setChan_hif (s : State) (k : Nat) (c : Chan) : (s.setChan k c).hif = s.hif := rfl
@[simp ↓] theorem setChan_flt (s : State) (k : Nat) (c : Chan) : (s.setChan k c).flt = s.flt := rfl
@[simp ↓] theorem setChan_evr (s : State) (k : Nat) (c : Chan) : (s.setChan k c).evr = s.evr := rfl
@[simp ↓] theorem setChan_ess (s : State) (k : Nat) (c : Chan) : (s.setChan k c).ess = { s.ess with chans := tset chanEmpty s.ess.chans k c } := rfl
@[simp ↓] theorem setChan_aud (s : State) (k : Nat) (c : Chan) : (s.setChan k c).aud = s.aud := rfl
@[simp ↓] theorem setChan_str (s : State) (k : Nat) (c : Chan) : (s.setChan k c).str = s.str := rfl
@[simp ↓] theorem setChan_pac (s : State) (k : Nat) (c : Chan) : (s.setChan k c).pac = s.pac := rfl
@[simp ↓] theorem setChan_eth (s : State) (k : Nat) (c : Chan) : (s.setChan k c).eth = s.eth := rfl
@[simp ↓] theorem setChan_fab (s : State) (k : Nat) (c : Chan) : (s.setChan k c).fab = s.fab := rfl
@[simp ↓] theorem setChan_comp (s : State) (k : Nat) (c : Chan) : (s.setChan k c).comp = s.comp := rfl
@[simp ↓] theorem setChan_twin (s : State) (k : Nat) (c : Chan) : (s.setChan k c).twin = s.twin := rfl
@[simp ↓] theorem setChan_pwr (s : State) (k : Nat) (c : Chan) : (s.setChan k c).pwr = s.pwr := rfl
@[simp ↓] theorem setChan_upd (s : State) (k : Nat) (c : Chan) : (s.setChan k c).upd = s.upd := rfl
@[simp ↓] theorem setChan_pending (s : State) (k : Nat) (c : Chan) : (s.setChan k c).pending = s.pending := rfl
@[simp ↓] theorem setDrop_objs (s : State) (n : Nat) (v : Bool) : (s.setDrop n v).objs = s.objs := rfl
@[simp ↓] theorem setDrop_chg (s : State) (n : Nat) (v : Bool) : (s.setDrop n v).chg = s.chg := rfl
@[simp ↓] theorem setDrop_regs (s : State) (n : Nat) (v : Bool) : (s.setDrop n v).regs = s.regs := rfl
@[simp ↓] theorem setDrop_mem (s : State) (n : Nat) (v : Bool) : (s.setDrop n v).mem = s.mem := rfl
@[simp ↓] theorem setDrop_out (s : State) (n : Nat) (v : Bool) : (s.setDrop n v).out = s.out := rfl
@[simp ↓] theorem setDrop_free (s : State) (n : Nat) (v : Bool) : (s.setDrop n v).free = s.free := rfl
@[simp ↓] theorem setDrop_fuses (s : State) (n : Nat) (v : Bool) : (s.setDrop n v).fuses = s.fuses := rfl
@[simp ↓] theorem setDrop_tm (s : State) (n : Nat) (v : Bool) : (s.setDrop n v).tm = s.tm := rfl
@[simp ↓] theorem setDrop_dict (s : State) (n : Nat) (v : Bool) : (s.setDrop n v).dict = s.dict := rfl
@[simp ↓] theorem setDrop_hif (s : State) (n : Nat) (v : Bool) : (s.setDrop n v).hif = s.hif := rfl
@[simp ↓] theorem setDrop_flt (s : State) (n : Nat) (v : Bool) : (s.setDrop n v).flt = s.flt := rfl
@[simp ↓] theorem setDrop_evr (s : State) (n : Nat) (v : Bool) : (s.setDrop n v).evr = s.evr := rfl
@[simp ↓] theorem setDrop_ess (s : State) (n : Nat) (v : Bool) : (s.setDrop n v).ess = { s.ess with takes := { s.ess.takes with drop := tset allFalse s.ess.takes.drop n v } } := rfl
@[simp ↓] theorem setDrop_aud (s : State) (n : Nat) (v : Bool) : (s.setDrop n v).aud = s.aud := rfl
@[simp ↓] theorem setDrop_str (s : State) (n : Nat) (v : Bool) : (s.setDrop n v).str = s.str := rfl
@[simp ↓] theorem setDrop_pac (s : State) (n : Nat) (v : Bool) : (s.setDrop n v).pac = s.pac := rfl
@[simp ↓] theorem setDrop_eth (s : State) (n : Nat) (v : Bool) : (s.setDrop n v).eth = s.eth := rfl
@[simp ↓] theorem setDrop_fab (s : State) (n : Nat) (v : Bool) : (s.setDrop n v).fab = s.fab := rfl
@[simp ↓] theorem setDrop_comp (s : State) (n : Nat) (v : Bool) : (s.setDrop n v).comp = s.comp := rfl
@[simp ↓] theorem setDrop_twin (s : State) (n : Nat) (v : Bool) : (s.setDrop n v).twin = s.twin := rfl
@[simp ↓] theorem setDrop_pwr (s : State) (n : Nat) (v : Bool) : (s.setDrop n v).pwr = s.pwr := rfl
@[simp ↓] theorem setDrop_upd (s : State) (n : Nat) (v : Bool) : (s.setDrop n v).upd = s.upd := rfl
@[simp ↓] theorem setDrop_pending (s : State) (n : Nat) (v : Bool) : (s.setDrop n v).pending = s.pending := rfl
@[simp ↓] theorem setBatches_objs (s : State) (l : List Batch) : (s.setBatches l).objs = s.objs := rfl
@[simp ↓] theorem setBatches_chg (s : State) (l : List Batch) : (s.setBatches l).chg = s.chg := rfl
@[simp ↓] theorem setBatches_regs (s : State) (l : List Batch) : (s.setBatches l).regs = s.regs := rfl
@[simp ↓] theorem setBatches_mem (s : State) (l : List Batch) : (s.setBatches l).mem = s.mem := rfl
@[simp ↓] theorem setBatches_out (s : State) (l : List Batch) : (s.setBatches l).out = s.out := rfl
@[simp ↓] theorem setBatches_free (s : State) (l : List Batch) : (s.setBatches l).free = s.free := rfl
@[simp ↓] theorem setBatches_fuses (s : State) (l : List Batch) : (s.setBatches l).fuses = s.fuses := rfl
@[simp ↓] theorem setBatches_tm (s : State) (l : List Batch) : (s.setBatches l).tm = s.tm := rfl
@[simp ↓] theorem setBatches_dict (s : State) (l : List Batch) : (s.setBatches l).dict = s.dict := rfl
@[simp ↓] theorem setBatches_hif (s : State) (l : List Batch) : (s.setBatches l).hif = s.hif := rfl
@[simp ↓] theorem setBatches_flt (s : State) (l : List Batch) : (s.setBatches l).flt = s.flt := rfl
@[simp ↓] theorem setBatches_evr (s : State) (l : List Batch) : (s.setBatches l).evr = s.evr := rfl
@[simp ↓] theorem setBatches_ess (s : State) (l : List Batch) : (s.setBatches l).ess = { s.ess with takes := { s.ess.takes with batches := l } } := rfl
@[simp ↓] theorem setBatches_aud (s : State) (l : List Batch) : (s.setBatches l).aud = s.aud := rfl
@[simp ↓] theorem setBatches_str (s : State) (l : List Batch) : (s.setBatches l).str = s.str := rfl
@[simp ↓] theorem setBatches_pac (s : State) (l : List Batch) : (s.setBatches l).pac = s.pac := rfl
@[simp ↓] theorem setBatches_eth (s : State) (l : List Batch) : (s.setBatches l).eth = s.eth := rfl
@[simp ↓] theorem setBatches_fab (s : State) (l : List Batch) : (s.setBatches l).fab = s.fab := rfl
@[simp ↓] theorem setBatches_comp (s : State) (l : List Batch) : (s.setBatches l).comp = s.comp := rfl
@[simp ↓] theorem setBatches_twin (s : State) (l : List Batch) : (s.setBatches l).twin = s.twin := rfl
@[simp ↓] theorem setBatches_pwr (s : State) (l : List Batch) : (s.setBatches l).pwr = s.pwr := rfl
@[simp ↓] theorem setBatches_upd (s : State) (l : List Batch) : (s.setBatches l).upd = s.upd := rfl
@[simp ↓] theorem setBatches_pending (s : State) (l : List Batch) : (s.setBatches l).pending = s.pending := rfl
@[simp ↓] theorem setAes_objs (s : State) (n : Nat) (v : AesIn) : (s.setAes n v).objs = s.objs := rfl
@[simp ↓] theorem setAes_chg (s : State) (n : Nat) (v : AesIn) : (s.setAes n v).chg = s.chg := rfl
@[simp ↓] theorem setAes_regs (s : State) (n : Nat) (v : AesIn) : (s.setAes n v).regs = s.regs := rfl
@[simp ↓] theorem setAes_mem (s : State) (n : Nat) (v : AesIn) : (s.setAes n v).mem = s.mem := rfl
@[simp ↓] theorem setAes_out (s : State) (n : Nat) (v : AesIn) : (s.setAes n v).out = s.out := rfl
@[simp ↓] theorem setAes_free (s : State) (n : Nat) (v : AesIn) : (s.setAes n v).free = s.free := rfl
@[simp ↓] theorem setAes_fuses (s : State) (n : Nat) (v : AesIn) : (s.setAes n v).fuses = s.fuses := rfl
@[simp ↓] theorem setAes_tm (s : State) (n : Nat) (v : AesIn) : (s.setAes n v).tm = s.tm := rfl
@[simp ↓] theorem setAes_dict (s : State) (n : Nat) (v : AesIn) : (s.setAes n v).dict = s.dict := rfl
@[simp ↓] theorem setAes_hif (s : State) (n : Nat) (v : AesIn) : (s.setAes n v).hif = s.hif := rfl
@[simp ↓] theorem setAes_flt (s : State) (n : Nat) (v : AesIn) : (s.setAes n v).flt = s.flt := rfl
@[simp ↓] theorem setAes_evr (s : State) (n : Nat) (v : AesIn) : (s.setAes n v).evr = s.evr := rfl
@[simp ↓] theorem setAes_ess (s : State) (n : Nat) (v : AesIn) : (s.setAes n v).ess = s.ess := rfl
@[simp ↓] theorem setAes_aud (s : State) (n : Nat) (v : AesIn) : (s.setAes n v).aud = { s.aud with aes := tset aesIdle s.aud.aes n v } := rfl
@[simp ↓] theorem setAes_str (s : State) (n : Nat) (v : AesIn) : (s.setAes n v).str = s.str := rfl
@[simp ↓] theorem setAes_pac (s : State) (n : Nat) (v : AesIn) : (s.setAes n v).pac = s.pac := rfl
@[simp ↓] theorem setAes_eth (s : State) (n : Nat) (v : AesIn) : (s.setAes n v).eth = s.eth := rfl
@[simp ↓] theorem setAes_fab (s : State) (n : Nat) (v : AesIn) : (s.setAes n v).fab = s.fab := rfl
@[simp ↓] theorem setAes_comp (s : State) (n : Nat) (v : AesIn) : (s.setAes n v).comp = s.comp := rfl
@[simp ↓] theorem setAes_twin (s : State) (n : Nat) (v : AesIn) : (s.setAes n v).twin = s.twin := rfl
@[simp ↓] theorem setAes_pwr (s : State) (n : Nat) (v : AesIn) : (s.setAes n v).pwr = s.pwr := rfl
@[simp ↓] theorem setAes_upd (s : State) (n : Nat) (v : AesIn) : (s.setAes n v).upd = s.upd := rfl
@[simp ↓] theorem setAes_pending (s : State) (n : Nat) (v : AesIn) : (s.setAes n v).pending = s.pending := rfl
@[simp ↓] theorem setTdm_objs (s : State) (n : Nat) (v : TdmPort) : (s.setTdm n v).objs = s.objs := rfl
@[simp ↓] theorem setTdm_chg (s : State) (n : Nat) (v : TdmPort) : (s.setTdm n v).chg = s.chg := rfl
@[simp ↓] theorem setTdm_regs (s : State) (n : Nat) (v : TdmPort) : (s.setTdm n v).regs = s.regs := rfl
@[simp ↓] theorem setTdm_mem (s : State) (n : Nat) (v : TdmPort) : (s.setTdm n v).mem = s.mem := rfl
@[simp ↓] theorem setTdm_out (s : State) (n : Nat) (v : TdmPort) : (s.setTdm n v).out = s.out := rfl
@[simp ↓] theorem setTdm_free (s : State) (n : Nat) (v : TdmPort) : (s.setTdm n v).free = s.free := rfl
@[simp ↓] theorem setTdm_fuses (s : State) (n : Nat) (v : TdmPort) : (s.setTdm n v).fuses = s.fuses := rfl
@[simp ↓] theorem setTdm_tm (s : State) (n : Nat) (v : TdmPort) : (s.setTdm n v).tm = s.tm := rfl
@[simp ↓] theorem setTdm_dict (s : State) (n : Nat) (v : TdmPort) : (s.setTdm n v).dict = s.dict := rfl
@[simp ↓] theorem setTdm_hif (s : State) (n : Nat) (v : TdmPort) : (s.setTdm n v).hif = s.hif := rfl
@[simp ↓] theorem setTdm_flt (s : State) (n : Nat) (v : TdmPort) : (s.setTdm n v).flt = s.flt := rfl
@[simp ↓] theorem setTdm_evr (s : State) (n : Nat) (v : TdmPort) : (s.setTdm n v).evr = s.evr := rfl
@[simp ↓] theorem setTdm_ess (s : State) (n : Nat) (v : TdmPort) : (s.setTdm n v).ess = s.ess := rfl
@[simp ↓] theorem setTdm_aud (s : State) (n : Nat) (v : TdmPort) : (s.setTdm n v).aud = { s.aud with tdm := tset tdmIdle s.aud.tdm n v } := rfl
@[simp ↓] theorem setTdm_str (s : State) (n : Nat) (v : TdmPort) : (s.setTdm n v).str = s.str := rfl
@[simp ↓] theorem setTdm_pac (s : State) (n : Nat) (v : TdmPort) : (s.setTdm n v).pac = s.pac := rfl
@[simp ↓] theorem setTdm_eth (s : State) (n : Nat) (v : TdmPort) : (s.setTdm n v).eth = s.eth := rfl
@[simp ↓] theorem setTdm_fab (s : State) (n : Nat) (v : TdmPort) : (s.setTdm n v).fab = s.fab := rfl
@[simp ↓] theorem setTdm_comp (s : State) (n : Nat) (v : TdmPort) : (s.setTdm n v).comp = s.comp := rfl
@[simp ↓] theorem setTdm_twin (s : State) (n : Nat) (v : TdmPort) : (s.setTdm n v).twin = s.twin := rfl
@[simp ↓] theorem setTdm_pwr (s : State) (n : Nat) (v : TdmPort) : (s.setTdm n v).pwr = s.pwr := rfl
@[simp ↓] theorem setTdm_upd (s : State) (n : Nat) (v : TdmPort) : (s.setTdm n v).upd = s.upd := rfl
@[simp ↓] theorem setTdm_pending (s : State) (n : Nat) (v : TdmPort) : (s.setTdm n v).pending = s.pending := rfl
@[simp ↓] theorem setPdest_objs (s : State) (d : Nat) (v : PortDest) : (s.setPdest d v).objs = s.objs := rfl
@[simp ↓] theorem setPdest_chg (s : State) (d : Nat) (v : PortDest) : (s.setPdest d v).chg = s.chg := rfl
@[simp ↓] theorem setPdest_regs (s : State) (d : Nat) (v : PortDest) : (s.setPdest d v).regs = s.regs := rfl
@[simp ↓] theorem setPdest_mem (s : State) (d : Nat) (v : PortDest) : (s.setPdest d v).mem = s.mem := rfl
@[simp ↓] theorem setPdest_out (s : State) (d : Nat) (v : PortDest) : (s.setPdest d v).out = s.out := rfl
@[simp ↓] theorem setPdest_free (s : State) (d : Nat) (v : PortDest) : (s.setPdest d v).free = s.free := rfl
@[simp ↓] theorem setPdest_fuses (s : State) (d : Nat) (v : PortDest) : (s.setPdest d v).fuses = s.fuses := rfl
@[simp ↓] theorem setPdest_tm (s : State) (d : Nat) (v : PortDest) : (s.setPdest d v).tm = s.tm := rfl
@[simp ↓] theorem setPdest_dict (s : State) (d : Nat) (v : PortDest) : (s.setPdest d v).dict = s.dict := rfl
@[simp ↓] theorem setPdest_hif (s : State) (d : Nat) (v : PortDest) : (s.setPdest d v).hif = s.hif := rfl
@[simp ↓] theorem setPdest_flt (s : State) (d : Nat) (v : PortDest) : (s.setPdest d v).flt = s.flt := rfl
@[simp ↓] theorem setPdest_evr (s : State) (d : Nat) (v : PortDest) : (s.setPdest d v).evr = s.evr := rfl
@[simp ↓] theorem setPdest_ess (s : State) (d : Nat) (v : PortDest) : (s.setPdest d v).ess = s.ess := rfl
@[simp ↓] theorem setPdest_aud (s : State) (d : Nat) (v : PortDest) : (s.setPdest d v).aud = { s.aud with dests := tset portIdle s.aud.dests d v } := rfl
@[simp ↓] theorem setPdest_str (s : State) (d : Nat) (v : PortDest) : (s.setPdest d v).str = s.str := rfl
@[simp ↓] theorem setPdest_pac (s : State) (d : Nat) (v : PortDest) : (s.setPdest d v).pac = s.pac := rfl
@[simp ↓] theorem setPdest_eth (s : State) (d : Nat) (v : PortDest) : (s.setPdest d v).eth = s.eth := rfl
@[simp ↓] theorem setPdest_fab (s : State) (d : Nat) (v : PortDest) : (s.setPdest d v).fab = s.fab := rfl
@[simp ↓] theorem setPdest_comp (s : State) (d : Nat) (v : PortDest) : (s.setPdest d v).comp = s.comp := rfl
@[simp ↓] theorem setPdest_twin (s : State) (d : Nat) (v : PortDest) : (s.setPdest d v).twin = s.twin := rfl
@[simp ↓] theorem setPdest_pwr (s : State) (d : Nat) (v : PortDest) : (s.setPdest d v).pwr = s.pwr := rfl
@[simp ↓] theorem setPdest_upd (s : State) (d : Nat) (v : PortDest) : (s.setPdest d v).upd = s.upd := rfl
@[simp ↓] theorem setPdest_pending (s : State) (d : Nat) (v : PortDest) : (s.setPdest d v).pending = s.pending := rfl
@[simp ↓] theorem setEng_objs (s : State) (e : Nat) (r : EngRun) : (s.setEng e r).objs = s.objs := rfl
@[simp ↓] theorem setEng_chg (s : State) (e : Nat) (r : EngRun) : (s.setEng e r).chg = s.chg := rfl
@[simp ↓] theorem setEng_regs (s : State) (e : Nat) (r : EngRun) : (s.setEng e r).regs = s.regs := rfl
@[simp ↓] theorem setEng_mem (s : State) (e : Nat) (r : EngRun) : (s.setEng e r).mem = s.mem := rfl
@[simp ↓] theorem setEng_out (s : State) (e : Nat) (r : EngRun) : (s.setEng e r).out = s.out := rfl
@[simp ↓] theorem setEng_free (s : State) (e : Nat) (r : EngRun) : (s.setEng e r).free = s.free := rfl
@[simp ↓] theorem setEng_fuses (s : State) (e : Nat) (r : EngRun) : (s.setEng e r).fuses = s.fuses := rfl
@[simp ↓] theorem setEng_tm (s : State) (e : Nat) (r : EngRun) : (s.setEng e r).tm = s.tm := rfl
@[simp ↓] theorem setEng_dict (s : State) (e : Nat) (r : EngRun) : (s.setEng e r).dict = s.dict := rfl
@[simp ↓] theorem setEng_hif (s : State) (e : Nat) (r : EngRun) : (s.setEng e r).hif = s.hif := rfl
@[simp ↓] theorem setEng_flt (s : State) (e : Nat) (r : EngRun) : (s.setEng e r).flt = s.flt := rfl
@[simp ↓] theorem setEng_evr (s : State) (e : Nat) (r : EngRun) : (s.setEng e r).evr = s.evr := rfl
@[simp ↓] theorem setEng_ess (s : State) (e : Nat) (r : EngRun) : (s.setEng e r).ess = s.ess := rfl
@[simp ↓] theorem setEng_aud (s : State) (e : Nat) (r : EngRun) : (s.setEng e r).aud = s.aud := rfl
@[simp ↓] theorem setEng_str (s : State) (e : Nat) (r : EngRun) : (s.setEng e r).str = { s.str with runs := tset engZero s.str.runs e r } := rfl
@[simp ↓] theorem setEng_pac (s : State) (e : Nat) (r : EngRun) : (s.setEng e r).pac = s.pac := rfl
@[simp ↓] theorem setEng_eth (s : State) (e : Nat) (r : EngRun) : (s.setEng e r).eth = s.eth := rfl
@[simp ↓] theorem setEng_fab (s : State) (e : Nat) (r : EngRun) : (s.setEng e r).fab = s.fab := rfl
@[simp ↓] theorem setEng_comp (s : State) (e : Nat) (r : EngRun) : (s.setEng e r).comp = s.comp := rfl
@[simp ↓] theorem setEng_twin (s : State) (e : Nat) (r : EngRun) : (s.setEng e r).twin = s.twin := rfl
@[simp ↓] theorem setEng_pwr (s : State) (e : Nat) (r : EngRun) : (s.setEng e r).pwr = s.pwr := rfl
@[simp ↓] theorem setEng_upd (s : State) (e : Nat) (r : EngRun) : (s.setEng e r).upd = s.upd := rfl
@[simp ↓] theorem setEng_pending (s : State) (e : Nat) (r : EngRun) : (s.setEng e r).pending = s.pending := rfl
@[simp ↓] theorem setPac_objs (s : State) (p : PacSt) : (s.setPac p).objs = s.objs := rfl
@[simp ↓] theorem setPac_chg (s : State) (p : PacSt) : (s.setPac p).chg = s.chg := rfl
@[simp ↓] theorem setPac_regs (s : State) (p : PacSt) : (s.setPac p).regs = s.regs := rfl
@[simp ↓] theorem setPac_mem (s : State) (p : PacSt) : (s.setPac p).mem = s.mem := rfl
@[simp ↓] theorem setPac_out (s : State) (p : PacSt) : (s.setPac p).out = s.out := rfl
@[simp ↓] theorem setPac_free (s : State) (p : PacSt) : (s.setPac p).free = s.free := rfl
@[simp ↓] theorem setPac_fuses (s : State) (p : PacSt) : (s.setPac p).fuses = s.fuses := rfl
@[simp ↓] theorem setPac_tm (s : State) (p : PacSt) : (s.setPac p).tm = s.tm := rfl
@[simp ↓] theorem setPac_dict (s : State) (p : PacSt) : (s.setPac p).dict = s.dict := rfl
@[simp ↓] theorem setPac_hif (s : State) (p : PacSt) : (s.setPac p).hif = s.hif := rfl
@[simp ↓] theorem setPac_flt (s : State) (p : PacSt) : (s.setPac p).flt = s.flt := rfl
@[simp ↓] theorem setPac_evr (s : State) (p : PacSt) : (s.setPac p).evr = s.evr := rfl
@[simp ↓] theorem setPac_ess (s : State) (p : PacSt) : (s.setPac p).ess = s.ess := rfl
@[simp ↓] theorem setPac_aud (s : State) (p : PacSt) : (s.setPac p).aud = s.aud := rfl
@[simp ↓] theorem setPac_str (s : State) (p : PacSt) : (s.setPac p).str = s.str := rfl
@[simp ↓] theorem setPac_pac (s : State) (p : PacSt) : (s.setPac p).pac = p := rfl
@[simp ↓] theorem setPac_eth (s : State) (p : PacSt) : (s.setPac p).eth = s.eth := rfl
@[simp ↓] theorem setPac_fab (s : State) (p : PacSt) : (s.setPac p).fab = s.fab := rfl
@[simp ↓] theorem setPac_comp (s : State) (p : PacSt) : (s.setPac p).comp = s.comp := rfl
@[simp ↓] theorem setPac_twin (s : State) (p : PacSt) : (s.setPac p).twin = s.twin := rfl
@[simp ↓] theorem setPac_pwr (s : State) (p : PacSt) : (s.setPac p).pwr = s.pwr := rfl
@[simp ↓] theorem setPac_upd (s : State) (p : PacSt) : (s.setPac p).upd = s.upd := rfl
@[simp ↓] theorem setPac_pending (s : State) (p : PacSt) : (s.setPac p).pending = s.pending := rfl
@[simp ↓] theorem setRef_objs (s : State) (r : Nat) (v : RefSt) : (s.setRef r v).objs = s.objs := rfl
@[simp ↓] theorem setRef_chg (s : State) (r : Nat) (v : RefSt) : (s.setRef r v).chg = s.chg := rfl
@[simp ↓] theorem setRef_regs (s : State) (r : Nat) (v : RefSt) : (s.setRef r v).regs = s.regs := rfl
@[simp ↓] theorem setRef_mem (s : State) (r : Nat) (v : RefSt) : (s.setRef r v).mem = s.mem := rfl
@[simp ↓] theorem setRef_out (s : State) (r : Nat) (v : RefSt) : (s.setRef r v).out = s.out := rfl
@[simp ↓] theorem setRef_free (s : State) (r : Nat) (v : RefSt) : (s.setRef r v).free = s.free := rfl
@[simp ↓] theorem setRef_fuses (s : State) (r : Nat) (v : RefSt) : (s.setRef r v).fuses = s.fuses := rfl
@[simp ↓] theorem setRef_tm (s : State) (r : Nat) (v : RefSt) : (s.setRef r v).tm = s.tm := rfl
@[simp ↓] theorem setRef_dict (s : State) (r : Nat) (v : RefSt) : (s.setRef r v).dict = s.dict := rfl
@[simp ↓] theorem setRef_hif (s : State) (r : Nat) (v : RefSt) : (s.setRef r v).hif = s.hif := rfl
@[simp ↓] theorem setRef_flt (s : State) (r : Nat) (v : RefSt) : (s.setRef r v).flt = s.flt := rfl
@[simp ↓] theorem setRef_evr (s : State) (r : Nat) (v : RefSt) : (s.setRef r v).evr = s.evr := rfl
@[simp ↓] theorem setRef_ess (s : State) (r : Nat) (v : RefSt) : (s.setRef r v).ess = s.ess := rfl
@[simp ↓] theorem setRef_aud (s : State) (r : Nat) (v : RefSt) : (s.setRef r v).aud = s.aud := rfl
@[simp ↓] theorem setRef_str (s : State) (r : Nat) (v : RefSt) : (s.setRef r v).str = s.str := rfl
@[simp ↓] theorem setRef_pac (s : State) (r : Nat) (v : RefSt) : (s.setRef r v).pac = { s.pac with refs := tset refIdle s.pac.refs r v } := rfl
@[simp ↓] theorem setRef_eth (s : State) (r : Nat) (v : RefSt) : (s.setRef r v).eth = s.eth := rfl
@[simp ↓] theorem setRef_fab (s : State) (r : Nat) (v : RefSt) : (s.setRef r v).fab = s.fab := rfl
@[simp ↓] theorem setRef_comp (s : State) (r : Nat) (v : RefSt) : (s.setRef r v).comp = s.comp := rfl
@[simp ↓] theorem setRef_twin (s : State) (r : Nat) (v : RefSt) : (s.setRef r v).twin = s.twin := rfl
@[simp ↓] theorem setRef_pwr (s : State) (r : Nat) (v : RefSt) : (s.setRef r v).pwr = s.pwr := rfl
@[simp ↓] theorem setRef_upd (s : State) (r : Nat) (v : RefSt) : (s.setRef r v).upd = s.upd := rfl
@[simp ↓] theorem setRef_pending (s : State) (r : Nat) (v : RefSt) : (s.setRef r v).pending = s.pending := rfl
@[simp ↓] theorem setPtp_objs (s : State) (i : Nat) (v : PtpSt) : (s.setPtp i v).objs = s.objs := rfl
@[simp ↓] theorem setPtp_chg (s : State) (i : Nat) (v : PtpSt) : (s.setPtp i v).chg = s.chg := rfl
@[simp ↓] theorem setPtp_regs (s : State) (i : Nat) (v : PtpSt) : (s.setPtp i v).regs = s.regs := rfl
@[simp ↓] theorem setPtp_mem (s : State) (i : Nat) (v : PtpSt) : (s.setPtp i v).mem = s.mem := rfl
@[simp ↓] theorem setPtp_out (s : State) (i : Nat) (v : PtpSt) : (s.setPtp i v).out = s.out := rfl
@[simp ↓] theorem setPtp_free (s : State) (i : Nat) (v : PtpSt) : (s.setPtp i v).free = s.free := rfl
@[simp ↓] theorem setPtp_fuses (s : State) (i : Nat) (v : PtpSt) : (s.setPtp i v).fuses = s.fuses := rfl
@[simp ↓] theorem setPtp_tm (s : State) (i : Nat) (v : PtpSt) : (s.setPtp i v).tm = s.tm := rfl
@[simp ↓] theorem setPtp_dict (s : State) (i : Nat) (v : PtpSt) : (s.setPtp i v).dict = s.dict := rfl
@[simp ↓] theorem setPtp_hif (s : State) (i : Nat) (v : PtpSt) : (s.setPtp i v).hif = s.hif := rfl
@[simp ↓] theorem setPtp_flt (s : State) (i : Nat) (v : PtpSt) : (s.setPtp i v).flt = s.flt := rfl
@[simp ↓] theorem setPtp_evr (s : State) (i : Nat) (v : PtpSt) : (s.setPtp i v).evr = s.evr := rfl
@[simp ↓] theorem setPtp_ess (s : State) (i : Nat) (v : PtpSt) : (s.setPtp i v).ess = s.ess := rfl
@[simp ↓] theorem setPtp_aud (s : State) (i : Nat) (v : PtpSt) : (s.setPtp i v).aud = s.aud := rfl
@[simp ↓] theorem setPtp_str (s : State) (i : Nat) (v : PtpSt) : (s.setPtp i v).str = s.str := rfl
@[simp ↓] theorem setPtp_pac (s : State) (i : Nat) (v : PtpSt) : (s.setPtp i v).pac = { s.pac with ptp := tset ptpIdle s.pac.ptp i v } := rfl
@[simp ↓] theorem setPtp_eth (s : State) (i : Nat) (v : PtpSt) : (s.setPtp i v).eth = s.eth := rfl
@[simp ↓] theorem setPtp_fab (s : State) (i : Nat) (v : PtpSt) : (s.setPtp i v).fab = s.fab := rfl
@[simp ↓] theorem setPtp_comp (s : State) (i : Nat) (v : PtpSt) : (s.setPtp i v).comp = s.comp := rfl
@[simp ↓] theorem setPtp_twin (s : State) (i : Nat) (v : PtpSt) : (s.setPtp i v).twin = s.twin := rfl
@[simp ↓] theorem setPtp_pwr (s : State) (i : Nat) (v : PtpSt) : (s.setPtp i v).pwr = s.pwr := rfl
@[simp ↓] theorem setPtp_upd (s : State) (i : Nat) (v : PtpSt) : (s.setPtp i v).upd = s.upd := rfl
@[simp ↓] theorem setPtp_pending (s : State) (i : Nat) (v : PtpSt) : (s.setPtp i v).pending = s.pending := rfl
@[simp ↓] theorem setEth_objs (s : State) (p : Nat) (v : EthPort) : (s.setEth p v).objs = s.objs := rfl
@[simp ↓] theorem setEth_chg (s : State) (p : Nat) (v : EthPort) : (s.setEth p v).chg = s.chg := rfl
@[simp ↓] theorem setEth_regs (s : State) (p : Nat) (v : EthPort) : (s.setEth p v).regs = s.regs := rfl
@[simp ↓] theorem setEth_mem (s : State) (p : Nat) (v : EthPort) : (s.setEth p v).mem = s.mem := rfl
@[simp ↓] theorem setEth_out (s : State) (p : Nat) (v : EthPort) : (s.setEth p v).out = s.out := rfl
@[simp ↓] theorem setEth_free (s : State) (p : Nat) (v : EthPort) : (s.setEth p v).free = s.free := rfl
@[simp ↓] theorem setEth_fuses (s : State) (p : Nat) (v : EthPort) : (s.setEth p v).fuses = s.fuses := rfl
@[simp ↓] theorem setEth_tm (s : State) (p : Nat) (v : EthPort) : (s.setEth p v).tm = s.tm := rfl
@[simp ↓] theorem setEth_dict (s : State) (p : Nat) (v : EthPort) : (s.setEth p v).dict = s.dict := rfl
@[simp ↓] theorem setEth_hif (s : State) (p : Nat) (v : EthPort) : (s.setEth p v).hif = s.hif := rfl
@[simp ↓] theorem setEth_flt (s : State) (p : Nat) (v : EthPort) : (s.setEth p v).flt = s.flt := rfl
@[simp ↓] theorem setEth_evr (s : State) (p : Nat) (v : EthPort) : (s.setEth p v).evr = s.evr := rfl
@[simp ↓] theorem setEth_ess (s : State) (p : Nat) (v : EthPort) : (s.setEth p v).ess = s.ess := rfl
@[simp ↓] theorem setEth_aud (s : State) (p : Nat) (v : EthPort) : (s.setEth p v).aud = s.aud := rfl
@[simp ↓] theorem setEth_str (s : State) (p : Nat) (v : EthPort) : (s.setEth p v).str = s.str := rfl
@[simp ↓] theorem setEth_pac (s : State) (p : Nat) (v : EthPort) : (s.setEth p v).pac = s.pac := rfl
@[simp ↓] theorem setEth_eth (s : State) (p : Nat) (v : EthPort) : (s.setEth p v).eth = { s.eth with ports := tset ethIdle s.eth.ports p v } := rfl
@[simp ↓] theorem setEth_fab (s : State) (p : Nat) (v : EthPort) : (s.setEth p v).fab = s.fab := rfl
@[simp ↓] theorem setEth_comp (s : State) (p : Nat) (v : EthPort) : (s.setEth p v).comp = s.comp := rfl
@[simp ↓] theorem setEth_twin (s : State) (p : Nat) (v : EthPort) : (s.setEth p v).twin = s.twin := rfl
@[simp ↓] theorem setEth_pwr (s : State) (p : Nat) (v : EthPort) : (s.setEth p v).pwr = s.pwr := rfl
@[simp ↓] theorem setEth_upd (s : State) (p : Nat) (v : EthPort) : (s.setEth p v).upd = s.upd := rfl
@[simp ↓] theorem setEth_pending (s : State) (p : Nat) (v : EthPort) : (s.setEth p v).pending = s.pending := rfl
@[simp ↓] theorem setRx_objs (s : State) (r : Nat) (v : RxCtx) : (s.setRx r v).objs = s.objs := rfl
@[simp ↓] theorem setRx_chg (s : State) (r : Nat) (v : RxCtx) : (s.setRx r v).chg = s.chg := rfl
@[simp ↓] theorem setRx_regs (s : State) (r : Nat) (v : RxCtx) : (s.setRx r v).regs = s.regs := rfl
@[simp ↓] theorem setRx_mem (s : State) (r : Nat) (v : RxCtx) : (s.setRx r v).mem = s.mem := rfl
@[simp ↓] theorem setRx_out (s : State) (r : Nat) (v : RxCtx) : (s.setRx r v).out = s.out := rfl
@[simp ↓] theorem setRx_free (s : State) (r : Nat) (v : RxCtx) : (s.setRx r v).free = s.free := rfl
@[simp ↓] theorem setRx_fuses (s : State) (r : Nat) (v : RxCtx) : (s.setRx r v).fuses = s.fuses := rfl
@[simp ↓] theorem setRx_tm (s : State) (r : Nat) (v : RxCtx) : (s.setRx r v).tm = s.tm := rfl
@[simp ↓] theorem setRx_dict (s : State) (r : Nat) (v : RxCtx) : (s.setRx r v).dict = s.dict := rfl
@[simp ↓] theorem setRx_hif (s : State) (r : Nat) (v : RxCtx) : (s.setRx r v).hif = s.hif := rfl
@[simp ↓] theorem setRx_flt (s : State) (r : Nat) (v : RxCtx) : (s.setRx r v).flt = s.flt := rfl
@[simp ↓] theorem setRx_evr (s : State) (r : Nat) (v : RxCtx) : (s.setRx r v).evr = s.evr := rfl
@[simp ↓] theorem setRx_ess (s : State) (r : Nat) (v : RxCtx) : (s.setRx r v).ess = s.ess := rfl
@[simp ↓] theorem setRx_aud (s : State) (r : Nat) (v : RxCtx) : (s.setRx r v).aud = s.aud := rfl
@[simp ↓] theorem setRx_str (s : State) (r : Nat) (v : RxCtx) : (s.setRx r v).str = s.str := rfl
@[simp ↓] theorem setRx_pac (s : State) (r : Nat) (v : RxCtx) : (s.setRx r v).pac = s.pac := rfl
@[simp ↓] theorem setRx_eth (s : State) (r : Nat) (v : RxCtx) : (s.setRx r v).eth = { s.eth with rx := tset rxIdle s.eth.rx r v } := rfl
@[simp ↓] theorem setRx_fab (s : State) (r : Nat) (v : RxCtx) : (s.setRx r v).fab = s.fab := rfl
@[simp ↓] theorem setRx_comp (s : State) (r : Nat) (v : RxCtx) : (s.setRx r v).comp = s.comp := rfl
@[simp ↓] theorem setRx_twin (s : State) (r : Nat) (v : RxCtx) : (s.setRx r v).twin = s.twin := rfl
@[simp ↓] theorem setRx_pwr (s : State) (r : Nat) (v : RxCtx) : (s.setRx r v).pwr = s.pwr := rfl
@[simp ↓] theorem setRx_upd (s : State) (r : Nat) (v : RxCtx) : (s.setRx r v).upd = s.upd := rfl
@[simp ↓] theorem setRx_pending (s : State) (r : Nat) (v : RxCtx) : (s.setRx r v).pending = s.pending := rfl
@[simp ↓] theorem setTx_objs (s : State) (c : Nat) (v : TxCtx) : (s.setTx c v).objs = s.objs := rfl
@[simp ↓] theorem setTx_chg (s : State) (c : Nat) (v : TxCtx) : (s.setTx c v).chg = s.chg := rfl
@[simp ↓] theorem setTx_regs (s : State) (c : Nat) (v : TxCtx) : (s.setTx c v).regs = s.regs := rfl
@[simp ↓] theorem setTx_mem (s : State) (c : Nat) (v : TxCtx) : (s.setTx c v).mem = s.mem := rfl
@[simp ↓] theorem setTx_out (s : State) (c : Nat) (v : TxCtx) : (s.setTx c v).out = s.out := rfl
@[simp ↓] theorem setTx_free (s : State) (c : Nat) (v : TxCtx) : (s.setTx c v).free = s.free := rfl
@[simp ↓] theorem setTx_fuses (s : State) (c : Nat) (v : TxCtx) : (s.setTx c v).fuses = s.fuses := rfl
@[simp ↓] theorem setTx_tm (s : State) (c : Nat) (v : TxCtx) : (s.setTx c v).tm = s.tm := rfl
@[simp ↓] theorem setTx_dict (s : State) (c : Nat) (v : TxCtx) : (s.setTx c v).dict = s.dict := rfl
@[simp ↓] theorem setTx_hif (s : State) (c : Nat) (v : TxCtx) : (s.setTx c v).hif = s.hif := rfl
@[simp ↓] theorem setTx_flt (s : State) (c : Nat) (v : TxCtx) : (s.setTx c v).flt = s.flt := rfl
@[simp ↓] theorem setTx_evr (s : State) (c : Nat) (v : TxCtx) : (s.setTx c v).evr = s.evr := rfl
@[simp ↓] theorem setTx_ess (s : State) (c : Nat) (v : TxCtx) : (s.setTx c v).ess = s.ess := rfl
@[simp ↓] theorem setTx_aud (s : State) (c : Nat) (v : TxCtx) : (s.setTx c v).aud = s.aud := rfl
@[simp ↓] theorem setTx_str (s : State) (c : Nat) (v : TxCtx) : (s.setTx c v).str = s.str := rfl
@[simp ↓] theorem setTx_pac (s : State) (c : Nat) (v : TxCtx) : (s.setTx c v).pac = s.pac := rfl
@[simp ↓] theorem setTx_eth (s : State) (c : Nat) (v : TxCtx) : (s.setTx c v).eth = { s.eth with tx := tset txIdle s.eth.tx c v } := rfl
@[simp ↓] theorem setTx_fab (s : State) (c : Nat) (v : TxCtx) : (s.setTx c v).fab = s.fab := rfl
@[simp ↓] theorem setTx_comp (s : State) (c : Nat) (v : TxCtx) : (s.setTx c v).comp = s.comp := rfl
@[simp ↓] theorem setTx_twin (s : State) (c : Nat) (v : TxCtx) : (s.setTx c v).twin = s.twin := rfl
@[simp ↓] theorem setTx_pwr (s : State) (c : Nat) (v : TxCtx) : (s.setTx c v).pwr = s.pwr := rfl
@[simp ↓] theorem setTx_upd (s : State) (c : Nat) (v : TxCtx) : (s.setTx c v).upd = s.upd := rfl
@[simp ↓] theorem setTx_pending (s : State) (c : Nat) (v : TxCtx) : (s.setTx c v).pending = s.pending := rfl
@[simp ↓] theorem setFl_objs (s : State) (f : Nat) (l : FabLane) : (s.setFl f l).objs = s.objs := rfl
@[simp ↓] theorem setFl_chg (s : State) (f : Nat) (l : FabLane) : (s.setFl f l).chg = s.chg := rfl
@[simp ↓] theorem setFl_regs (s : State) (f : Nat) (l : FabLane) : (s.setFl f l).regs = s.regs := rfl
@[simp ↓] theorem setFl_mem (s : State) (f : Nat) (l : FabLane) : (s.setFl f l).mem = s.mem := rfl
@[simp ↓] theorem setFl_out (s : State) (f : Nat) (l : FabLane) : (s.setFl f l).out = s.out := rfl
@[simp ↓] theorem setFl_free (s : State) (f : Nat) (l : FabLane) : (s.setFl f l).free = s.free := rfl
@[simp ↓] theorem setFl_fuses (s : State) (f : Nat) (l : FabLane) : (s.setFl f l).fuses = s.fuses := rfl
@[simp ↓] theorem setFl_tm (s : State) (f : Nat) (l : FabLane) : (s.setFl f l).tm = s.tm := rfl
@[simp ↓] theorem setFl_dict (s : State) (f : Nat) (l : FabLane) : (s.setFl f l).dict = s.dict := rfl
@[simp ↓] theorem setFl_hif (s : State) (f : Nat) (l : FabLane) : (s.setFl f l).hif = s.hif := rfl
@[simp ↓] theorem setFl_flt (s : State) (f : Nat) (l : FabLane) : (s.setFl f l).flt = s.flt := rfl
@[simp ↓] theorem setFl_evr (s : State) (f : Nat) (l : FabLane) : (s.setFl f l).evr = s.evr := rfl
@[simp ↓] theorem setFl_ess (s : State) (f : Nat) (l : FabLane) : (s.setFl f l).ess = s.ess := rfl
@[simp ↓] theorem setFl_aud (s : State) (f : Nat) (l : FabLane) : (s.setFl f l).aud = s.aud := rfl
@[simp ↓] theorem setFl_str (s : State) (f : Nat) (l : FabLane) : (s.setFl f l).str = s.str := rfl
@[simp ↓] theorem setFl_pac (s : State) (f : Nat) (l : FabLane) : (s.setFl f l).pac = s.pac := rfl
@[simp ↓] theorem setFl_eth (s : State) (f : Nat) (l : FabLane) : (s.setFl f l).eth = s.eth := rfl
@[simp ↓] theorem setFl_fab (s : State) (f : Nat) (l : FabLane) : (s.setFl f l).fab = { s.fab with lanes := tset fabIdle s.fab.lanes f l } := rfl
@[simp ↓] theorem setFl_comp (s : State) (f : Nat) (l : FabLane) : (s.setFl f l).comp = s.comp := rfl
@[simp ↓] theorem setFl_twin (s : State) (f : Nat) (l : FabLane) : (s.setFl f l).twin = s.twin := rfl
@[simp ↓] theorem setFl_pwr (s : State) (f : Nat) (l : FabLane) : (s.setFl f l).pwr = s.pwr := rfl
@[simp ↓] theorem setFl_upd (s : State) (f : Nat) (l : FabLane) : (s.setFl f l).upd = s.upd := rfl
@[simp ↓] theorem setFl_pending (s : State) (f : Nat) (l : FabLane) : (s.setFl f l).pending = s.pending := rfl
@[simp ↓] theorem setLink_objs (s : State) (j : Nat) (l : FabLink) : (s.setLink j l).objs = s.objs := rfl
@[simp ↓] theorem setLink_chg (s : State) (j : Nat) (l : FabLink) : (s.setLink j l).chg = s.chg := rfl
@[simp ↓] theorem setLink_regs (s : State) (j : Nat) (l : FabLink) : (s.setLink j l).regs = s.regs := rfl
@[simp ↓] theorem setLink_mem (s : State) (j : Nat) (l : FabLink) : (s.setLink j l).mem = s.mem := rfl
@[simp ↓] theorem setLink_out (s : State) (j : Nat) (l : FabLink) : (s.setLink j l).out = s.out := rfl
@[simp ↓] theorem setLink_free (s : State) (j : Nat) (l : FabLink) : (s.setLink j l).free = s.free := rfl
@[simp ↓] theorem setLink_fuses (s : State) (j : Nat) (l : FabLink) : (s.setLink j l).fuses = s.fuses := rfl
@[simp ↓] theorem setLink_tm (s : State) (j : Nat) (l : FabLink) : (s.setLink j l).tm = s.tm := rfl
@[simp ↓] theorem setLink_dict (s : State) (j : Nat) (l : FabLink) : (s.setLink j l).dict = s.dict := rfl
@[simp ↓] theorem setLink_hif (s : State) (j : Nat) (l : FabLink) : (s.setLink j l).hif = s.hif := rfl
@[simp ↓] theorem setLink_flt (s : State) (j : Nat) (l : FabLink) : (s.setLink j l).flt = s.flt := rfl
@[simp ↓] theorem setLink_evr (s : State) (j : Nat) (l : FabLink) : (s.setLink j l).evr = s.evr := rfl
@[simp ↓] theorem setLink_ess (s : State) (j : Nat) (l : FabLink) : (s.setLink j l).ess = s.ess := rfl
@[simp ↓] theorem setLink_aud (s : State) (j : Nat) (l : FabLink) : (s.setLink j l).aud = s.aud := rfl
@[simp ↓] theorem setLink_str (s : State) (j : Nat) (l : FabLink) : (s.setLink j l).str = s.str := rfl
@[simp ↓] theorem setLink_pac (s : State) (j : Nat) (l : FabLink) : (s.setLink j l).pac = s.pac := rfl
@[simp ↓] theorem setLink_eth (s : State) (j : Nat) (l : FabLink) : (s.setLink j l).eth = s.eth := rfl
@[simp ↓] theorem setLink_fab (s : State) (j : Nat) (l : FabLink) : (s.setLink j l).fab = { s.fab with links := tset linkDown s.fab.links j l } := rfl
@[simp ↓] theorem setLink_comp (s : State) (j : Nat) (l : FabLink) : (s.setLink j l).comp = s.comp := rfl
@[simp ↓] theorem setLink_twin (s : State) (j : Nat) (l : FabLink) : (s.setLink j l).twin = s.twin := rfl
@[simp ↓] theorem setLink_pwr (s : State) (j : Nat) (l : FabLink) : (s.setLink j l).pwr = s.pwr := rfl
@[simp ↓] theorem setLink_upd (s : State) (j : Nat) (l : FabLink) : (s.setLink j l).upd = s.upd := rfl
@[simp ↓] theorem setLink_pending (s : State) (j : Nat) (l : FabLink) : (s.setLink j l).pending = s.pending := rfl
@[simp ↓] theorem setHead_objs (s : State) (h : Nat) (v : HeadSt) : (s.setHead h v).objs = s.objs := rfl
@[simp ↓] theorem setHead_chg (s : State) (h : Nat) (v : HeadSt) : (s.setHead h v).chg = s.chg := rfl
@[simp ↓] theorem setHead_regs (s : State) (h : Nat) (v : HeadSt) : (s.setHead h v).regs = s.regs := rfl
@[simp ↓] theorem setHead_mem (s : State) (h : Nat) (v : HeadSt) : (s.setHead h v).mem = s.mem := rfl
@[simp ↓] theorem setHead_out (s : State) (h : Nat) (v : HeadSt) : (s.setHead h v).out = s.out := rfl
@[simp ↓] theorem setHead_free (s : State) (h : Nat) (v : HeadSt) : (s.setHead h v).free = s.free := rfl
@[simp ↓] theorem setHead_fuses (s : State) (h : Nat) (v : HeadSt) : (s.setHead h v).fuses = s.fuses := rfl
@[simp ↓] theorem setHead_tm (s : State) (h : Nat) (v : HeadSt) : (s.setHead h v).tm = s.tm := rfl
@[simp ↓] theorem setHead_dict (s : State) (h : Nat) (v : HeadSt) : (s.setHead h v).dict = s.dict := rfl
@[simp ↓] theorem setHead_hif (s : State) (h : Nat) (v : HeadSt) : (s.setHead h v).hif = s.hif := rfl
@[simp ↓] theorem setHead_flt (s : State) (h : Nat) (v : HeadSt) : (s.setHead h v).flt = s.flt := rfl
@[simp ↓] theorem setHead_evr (s : State) (h : Nat) (v : HeadSt) : (s.setHead h v).evr = s.evr := rfl
@[simp ↓] theorem setHead_ess (s : State) (h : Nat) (v : HeadSt) : (s.setHead h v).ess = s.ess := rfl
@[simp ↓] theorem setHead_aud (s : State) (h : Nat) (v : HeadSt) : (s.setHead h v).aud = s.aud := rfl
@[simp ↓] theorem setHead_str (s : State) (h : Nat) (v : HeadSt) : (s.setHead h v).str = s.str := rfl
@[simp ↓] theorem setHead_pac (s : State) (h : Nat) (v : HeadSt) : (s.setHead h v).pac = s.pac := rfl
@[simp ↓] theorem setHead_eth (s : State) (h : Nat) (v : HeadSt) : (s.setHead h v).eth = s.eth := rfl
@[simp ↓] theorem setHead_fab (s : State) (h : Nat) (v : HeadSt) : (s.setHead h v).fab = s.fab := rfl
@[simp ↓] theorem setHead_comp (s : State) (h : Nat) (v : HeadSt) : (s.setHead h v).comp = { s.comp with heads := tset headIdle s.comp.heads h v } := rfl
@[simp ↓] theorem setHead_twin (s : State) (h : Nat) (v : HeadSt) : (s.setHead h v).twin = s.twin := rfl
@[simp ↓] theorem setHead_pwr (s : State) (h : Nat) (v : HeadSt) : (s.setHead h v).pwr = s.pwr := rfl
@[simp ↓] theorem setHead_upd (s : State) (h : Nat) (v : HeadSt) : (s.setHead h v).upd = s.upd := rfl
@[simp ↓] theorem setHead_pending (s : State) (h : Nat) (v : HeadSt) : (s.setHead h v).pending = s.pending := rfl
@[simp ↓] theorem setLay_objs (s : State) (l : Nat) (v : LayerSt) : (s.setLay l v).objs = s.objs := rfl
@[simp ↓] theorem setLay_chg (s : State) (l : Nat) (v : LayerSt) : (s.setLay l v).chg = s.chg := rfl
@[simp ↓] theorem setLay_regs (s : State) (l : Nat) (v : LayerSt) : (s.setLay l v).regs = s.regs := rfl
@[simp ↓] theorem setLay_mem (s : State) (l : Nat) (v : LayerSt) : (s.setLay l v).mem = s.mem := rfl
@[simp ↓] theorem setLay_out (s : State) (l : Nat) (v : LayerSt) : (s.setLay l v).out = s.out := rfl
@[simp ↓] theorem setLay_free (s : State) (l : Nat) (v : LayerSt) : (s.setLay l v).free = s.free := rfl
@[simp ↓] theorem setLay_fuses (s : State) (l : Nat) (v : LayerSt) : (s.setLay l v).fuses = s.fuses := rfl
@[simp ↓] theorem setLay_tm (s : State) (l : Nat) (v : LayerSt) : (s.setLay l v).tm = s.tm := rfl
@[simp ↓] theorem setLay_dict (s : State) (l : Nat) (v : LayerSt) : (s.setLay l v).dict = s.dict := rfl
@[simp ↓] theorem setLay_hif (s : State) (l : Nat) (v : LayerSt) : (s.setLay l v).hif = s.hif := rfl
@[simp ↓] theorem setLay_flt (s : State) (l : Nat) (v : LayerSt) : (s.setLay l v).flt = s.flt := rfl
@[simp ↓] theorem setLay_evr (s : State) (l : Nat) (v : LayerSt) : (s.setLay l v).evr = s.evr := rfl
@[simp ↓] theorem setLay_ess (s : State) (l : Nat) (v : LayerSt) : (s.setLay l v).ess = s.ess := rfl
@[simp ↓] theorem setLay_aud (s : State) (l : Nat) (v : LayerSt) : (s.setLay l v).aud = s.aud := rfl
@[simp ↓] theorem setLay_str (s : State) (l : Nat) (v : LayerSt) : (s.setLay l v).str = s.str := rfl
@[simp ↓] theorem setLay_pac (s : State) (l : Nat) (v : LayerSt) : (s.setLay l v).pac = s.pac := rfl
@[simp ↓] theorem setLay_eth (s : State) (l : Nat) (v : LayerSt) : (s.setLay l v).eth = s.eth := rfl
@[simp ↓] theorem setLay_fab (s : State) (l : Nat) (v : LayerSt) : (s.setLay l v).fab = s.fab := rfl
@[simp ↓] theorem setLay_comp (s : State) (l : Nat) (v : LayerSt) : (s.setLay l v).comp = { s.comp with layers := tset layerIdle s.comp.layers l v } := rfl
@[simp ↓] theorem setLay_twin (s : State) (l : Nat) (v : LayerSt) : (s.setLay l v).twin = s.twin := rfl
@[simp ↓] theorem setLay_pwr (s : State) (l : Nat) (v : LayerSt) : (s.setLay l v).pwr = s.pwr := rfl
@[simp ↓] theorem setLay_upd (s : State) (l : Nat) (v : LayerSt) : (s.setLay l v).upd = s.upd := rfl
@[simp ↓] theorem setLay_pending (s : State) (l : Nat) (v : LayerSt) : (s.setLay l v).pending = s.pending := rfl
@[simp ↓] theorem setTw_objs (s : State) (t : TwinSt) : (s.setTw t).objs = s.objs := rfl
@[simp ↓] theorem setTw_chg (s : State) (t : TwinSt) : (s.setTw t).chg = s.chg := rfl
@[simp ↓] theorem setTw_regs (s : State) (t : TwinSt) : (s.setTw t).regs = s.regs := rfl
@[simp ↓] theorem setTw_mem (s : State) (t : TwinSt) : (s.setTw t).mem = s.mem := rfl
@[simp ↓] theorem setTw_out (s : State) (t : TwinSt) : (s.setTw t).out = s.out := rfl
@[simp ↓] theorem setTw_free (s : State) (t : TwinSt) : (s.setTw t).free = s.free := rfl
@[simp ↓] theorem setTw_fuses (s : State) (t : TwinSt) : (s.setTw t).fuses = s.fuses := rfl
@[simp ↓] theorem setTw_tm (s : State) (t : TwinSt) : (s.setTw t).tm = s.tm := rfl
@[simp ↓] theorem setTw_dict (s : State) (t : TwinSt) : (s.setTw t).dict = s.dict := rfl
@[simp ↓] theorem setTw_hif (s : State) (t : TwinSt) : (s.setTw t).hif = s.hif := rfl
@[simp ↓] theorem setTw_flt (s : State) (t : TwinSt) : (s.setTw t).flt = s.flt := rfl
@[simp ↓] theorem setTw_evr (s : State) (t : TwinSt) : (s.setTw t).evr = s.evr := rfl
@[simp ↓] theorem setTw_ess (s : State) (t : TwinSt) : (s.setTw t).ess = s.ess := rfl
@[simp ↓] theorem setTw_aud (s : State) (t : TwinSt) : (s.setTw t).aud = s.aud := rfl
@[simp ↓] theorem setTw_str (s : State) (t : TwinSt) : (s.setTw t).str = s.str := rfl
@[simp ↓] theorem setTw_pac (s : State) (t : TwinSt) : (s.setTw t).pac = s.pac := rfl
@[simp ↓] theorem setTw_eth (s : State) (t : TwinSt) : (s.setTw t).eth = s.eth := rfl
@[simp ↓] theorem setTw_fab (s : State) (t : TwinSt) : (s.setTw t).fab = s.fab := rfl
@[simp ↓] theorem setTw_comp (s : State) (t : TwinSt) : (s.setTw t).comp = s.comp := rfl
@[simp ↓] theorem setTw_twin (s : State) (t : TwinSt) : (s.setTw t).twin = t := rfl
@[simp ↓] theorem setTw_pwr (s : State) (t : TwinSt) : (s.setTw t).pwr = s.pwr := rfl
@[simp ↓] theorem setTw_upd (s : State) (t : TwinSt) : (s.setTw t).upd = s.upd := rfl
@[simp ↓] theorem setTw_pending (s : State) (t : TwinSt) : (s.setTw t).pending = s.pending := rfl
@[simp ↓] theorem setPwr_objs (s : State) (p : PwrSt) : (s.setPwr p).objs = s.objs := rfl
@[simp ↓] theorem setPwr_chg (s : State) (p : PwrSt) : (s.setPwr p).chg = s.chg := rfl
@[simp ↓] theorem setPwr_regs (s : State) (p : PwrSt) : (s.setPwr p).regs = s.regs := rfl
@[simp ↓] theorem setPwr_mem (s : State) (p : PwrSt) : (s.setPwr p).mem = s.mem := rfl
@[simp ↓] theorem setPwr_out (s : State) (p : PwrSt) : (s.setPwr p).out = s.out := rfl
@[simp ↓] theorem setPwr_free (s : State) (p : PwrSt) : (s.setPwr p).free = s.free := rfl
@[simp ↓] theorem setPwr_fuses (s : State) (p : PwrSt) : (s.setPwr p).fuses = s.fuses := rfl
@[simp ↓] theorem setPwr_tm (s : State) (p : PwrSt) : (s.setPwr p).tm = s.tm := rfl
@[simp ↓] theorem setPwr_dict (s : State) (p : PwrSt) : (s.setPwr p).dict = s.dict := rfl
@[simp ↓] theorem setPwr_hif (s : State) (p : PwrSt) : (s.setPwr p).hif = s.hif := rfl
@[simp ↓] theorem setPwr_flt (s : State) (p : PwrSt) : (s.setPwr p).flt = s.flt := rfl
@[simp ↓] theorem setPwr_evr (s : State) (p : PwrSt) : (s.setPwr p).evr = s.evr := rfl
@[simp ↓] theorem setPwr_ess (s : State) (p : PwrSt) : (s.setPwr p).ess = s.ess := rfl
@[simp ↓] theorem setPwr_aud (s : State) (p : PwrSt) : (s.setPwr p).aud = s.aud := rfl
@[simp ↓] theorem setPwr_str (s : State) (p : PwrSt) : (s.setPwr p).str = s.str := rfl
@[simp ↓] theorem setPwr_pac (s : State) (p : PwrSt) : (s.setPwr p).pac = s.pac := rfl
@[simp ↓] theorem setPwr_eth (s : State) (p : PwrSt) : (s.setPwr p).eth = s.eth := rfl
@[simp ↓] theorem setPwr_fab (s : State) (p : PwrSt) : (s.setPwr p).fab = s.fab := rfl
@[simp ↓] theorem setPwr_comp (s : State) (p : PwrSt) : (s.setPwr p).comp = s.comp := rfl
@[simp ↓] theorem setPwr_twin (s : State) (p : PwrSt) : (s.setPwr p).twin = s.twin := rfl
@[simp ↓] theorem setPwr_pwr (s : State) (p : PwrSt) : (s.setPwr p).pwr = p := rfl
@[simp ↓] theorem setPwr_upd (s : State) (p : PwrSt) : (s.setPwr p).upd = s.upd := rfl
@[simp ↓] theorem setPwr_pending (s : State) (p : PwrSt) : (s.setPwr p).pending = s.pending := rfl
@[simp ↓] theorem setQuiet_objs (s : State) (p t : Nat) : (s.setQuiet p t).objs = s.objs := rfl
@[simp ↓] theorem setQuiet_chg (s : State) (p t : Nat) : (s.setQuiet p t).chg = s.chg := rfl
@[simp ↓] theorem setQuiet_regs (s : State) (p t : Nat) : (s.setQuiet p t).regs = s.regs := rfl
@[simp ↓] theorem setQuiet_mem (s : State) (p t : Nat) : (s.setQuiet p t).mem = s.mem := rfl
@[simp ↓] theorem setQuiet_out (s : State) (p t : Nat) : (s.setQuiet p t).out = s.out := rfl
@[simp ↓] theorem setQuiet_free (s : State) (p t : Nat) : (s.setQuiet p t).free = s.free := rfl
@[simp ↓] theorem setQuiet_fuses (s : State) (p t : Nat) : (s.setQuiet p t).fuses = s.fuses := rfl
@[simp ↓] theorem setQuiet_tm (s : State) (p t : Nat) : (s.setQuiet p t).tm = s.tm := rfl
@[simp ↓] theorem setQuiet_dict (s : State) (p t : Nat) : (s.setQuiet p t).dict = s.dict := rfl
@[simp ↓] theorem setQuiet_hif (s : State) (p t : Nat) : (s.setQuiet p t).hif = s.hif := rfl
@[simp ↓] theorem setQuiet_flt (s : State) (p t : Nat) : (s.setQuiet p t).flt = s.flt := rfl
@[simp ↓] theorem setQuiet_evr (s : State) (p t : Nat) : (s.setQuiet p t).evr = s.evr := rfl
@[simp ↓] theorem setQuiet_ess (s : State) (p t : Nat) : (s.setQuiet p t).ess = s.ess := rfl
@[simp ↓] theorem setQuiet_aud (s : State) (p t : Nat) : (s.setQuiet p t).aud = s.aud := rfl
@[simp ↓] theorem setQuiet_str (s : State) (p t : Nat) : (s.setQuiet p t).str = s.str := rfl
@[simp ↓] theorem setQuiet_pac (s : State) (p t : Nat) : (s.setQuiet p t).pac = s.pac := rfl
@[simp ↓] theorem setQuiet_eth (s : State) (p t : Nat) : (s.setQuiet p t).eth = s.eth := rfl
@[simp ↓] theorem setQuiet_fab (s : State) (p t : Nat) : (s.setQuiet p t).fab = s.fab := rfl
@[simp ↓] theorem setQuiet_comp (s : State) (p t : Nat) : (s.setQuiet p t).comp = s.comp := rfl
@[simp ↓] theorem setQuiet_twin (s : State) (p t : Nat) : (s.setQuiet p t).twin = s.twin := rfl
@[simp ↓] theorem setQuiet_pwr (s : State) (p t : Nat) : (s.setQuiet p t).pwr = { s.pwr with quiet := tset zeroNat s.pwr.quiet p t } := rfl
@[simp ↓] theorem setQuiet_upd (s : State) (p t : Nat) : (s.setQuiet p t).upd = s.upd := rfl
@[simp ↓] theorem setQuiet_pending (s : State) (p t : Nat) : (s.setQuiet p t).pending = s.pending := rfl
@[simp ↓] theorem setUpd_objs (s : State) (u : UpdSt) : (s.setUpd u).objs = s.objs := rfl
@[simp ↓] theorem setUpd_chg (s : State) (u : UpdSt) : (s.setUpd u).chg = s.chg := rfl
@[simp ↓] theorem setUpd_regs (s : State) (u : UpdSt) : (s.setUpd u).regs = s.regs := rfl
@[simp ↓] theorem setUpd_mem (s : State) (u : UpdSt) : (s.setUpd u).mem = s.mem := rfl
@[simp ↓] theorem setUpd_out (s : State) (u : UpdSt) : (s.setUpd u).out = s.out := rfl
@[simp ↓] theorem setUpd_free (s : State) (u : UpdSt) : (s.setUpd u).free = s.free := rfl
@[simp ↓] theorem setUpd_fuses (s : State) (u : UpdSt) : (s.setUpd u).fuses = s.fuses := rfl
@[simp ↓] theorem setUpd_tm (s : State) (u : UpdSt) : (s.setUpd u).tm = s.tm := rfl
@[simp ↓] theorem setUpd_dict (s : State) (u : UpdSt) : (s.setUpd u).dict = s.dict := rfl
@[simp ↓] theorem setUpd_hif (s : State) (u : UpdSt) : (s.setUpd u).hif = s.hif := rfl
@[simp ↓] theorem setUpd_flt (s : State) (u : UpdSt) : (s.setUpd u).flt = s.flt := rfl
@[simp ↓] theorem setUpd_evr (s : State) (u : UpdSt) : (s.setUpd u).evr = s.evr := rfl
@[simp ↓] theorem setUpd_ess (s : State) (u : UpdSt) : (s.setUpd u).ess = s.ess := rfl
@[simp ↓] theorem setUpd_aud (s : State) (u : UpdSt) : (s.setUpd u).aud = s.aud := rfl
@[simp ↓] theorem setUpd_str (s : State) (u : UpdSt) : (s.setUpd u).str = s.str := rfl
@[simp ↓] theorem setUpd_pac (s : State) (u : UpdSt) : (s.setUpd u).pac = s.pac := rfl
@[simp ↓] theorem setUpd_eth (s : State) (u : UpdSt) : (s.setUpd u).eth = s.eth := rfl
@[simp ↓] theorem setUpd_fab (s : State) (u : UpdSt) : (s.setUpd u).fab = s.fab := rfl
@[simp ↓] theorem setUpd_comp (s : State) (u : UpdSt) : (s.setUpd u).comp = s.comp := rfl
@[simp ↓] theorem setUpd_twin (s : State) (u : UpdSt) : (s.setUpd u).twin = s.twin := rfl
@[simp ↓] theorem setUpd_pwr (s : State) (u : UpdSt) : (s.setUpd u).pwr = s.pwr := rfl
@[simp ↓] theorem setUpd_upd (s : State) (u : UpdSt) : (s.setUpd u).upd = u := rfl
@[simp ↓] theorem setUpd_pending (s : State) (u : UpdSt) : (s.setUpd u).pending = s.pending := rfl
@[simp ↓] theorem setNum_regs (s : State) (k n : Nat) : (s.setNum k n).regs = s.regs := rfl
@[simp ↓] theorem setNum_mem (s : State) (k n : Nat) : (s.setNum k n).mem = s.mem := rfl
@[simp ↓] theorem setNum_out (s : State) (k n : Nat) : (s.setNum k n).out = s.out := rfl
@[simp ↓] theorem setNum_free (s : State) (k n : Nat) : (s.setNum k n).free = s.free := rfl
@[simp ↓] theorem setNum_fuses (s : State) (k n : Nat) : (s.setNum k n).fuses = s.fuses := rfl
@[simp ↓] theorem setNum_tm (s : State) (k n : Nat) : (s.setNum k n).tm = s.tm := rfl
@[simp ↓] theorem setNum_dict (s : State) (k n : Nat) : (s.setNum k n).dict = s.dict := rfl
@[simp ↓] theorem setNum_hif (s : State) (k n : Nat) : (s.setNum k n).hif = s.hif := rfl
@[simp ↓] theorem setNum_flt (s : State) (k n : Nat) : (s.setNum k n).flt = s.flt := rfl
@[simp ↓] theorem setNum_evr (s : State) (k n : Nat) : (s.setNum k n).evr = s.evr := rfl
@[simp ↓] theorem setNum_ess (s : State) (k n : Nat) : (s.setNum k n).ess = s.ess := rfl
@[simp ↓] theorem setNum_aud (s : State) (k n : Nat) : (s.setNum k n).aud = s.aud := rfl
@[simp ↓] theorem setNum_str (s : State) (k n : Nat) : (s.setNum k n).str = s.str := rfl
@[simp ↓] theorem setNum_pac (s : State) (k n : Nat) : (s.setNum k n).pac = s.pac := rfl
@[simp ↓] theorem setNum_eth (s : State) (k n : Nat) : (s.setNum k n).eth = s.eth := rfl
@[simp ↓] theorem setNum_fab (s : State) (k n : Nat) : (s.setNum k n).fab = s.fab := rfl
@[simp ↓] theorem setNum_comp (s : State) (k n : Nat) : (s.setNum k n).comp = s.comp := rfl
@[simp ↓] theorem setNum_twin (s : State) (k n : Nat) : (s.setNum k n).twin = s.twin := rfl
@[simp ↓] theorem setNum_pwr (s : State) (k n : Nat) : (s.setNum k n).pwr = s.pwr := rfl
@[simp ↓] theorem setNum_upd (s : State) (k n : Nat) : (s.setNum k n).upd = s.upd := rfl
@[simp ↓] theorem setNum_pending (s : State) (k n : Nat) : (s.setNum k n).pending = s.pending := rfl
@[simp ↓] theorem setInt_regs (s : State) (k : Nat) (n : Int) : (s.setInt k n).regs = s.regs := rfl
@[simp ↓] theorem setInt_mem (s : State) (k : Nat) (n : Int) : (s.setInt k n).mem = s.mem := rfl
@[simp ↓] theorem setInt_out (s : State) (k : Nat) (n : Int) : (s.setInt k n).out = s.out := rfl
@[simp ↓] theorem setInt_free (s : State) (k : Nat) (n : Int) : (s.setInt k n).free = s.free := rfl
@[simp ↓] theorem setInt_fuses (s : State) (k : Nat) (n : Int) : (s.setInt k n).fuses = s.fuses := rfl
@[simp ↓] theorem setInt_tm (s : State) (k : Nat) (n : Int) : (s.setInt k n).tm = s.tm := rfl
@[simp ↓] theorem setInt_dict (s : State) (k : Nat) (n : Int) : (s.setInt k n).dict = s.dict := rfl
@[simp ↓] theorem setInt_hif (s : State) (k : Nat) (n : Int) : (s.setInt k n).hif = s.hif := rfl
@[simp ↓] theorem setInt_flt (s : State) (k : Nat) (n : Int) : (s.setInt k n).flt = s.flt := rfl
@[simp ↓] theorem setInt_evr (s : State) (k : Nat) (n : Int) : (s.setInt k n).evr = s.evr := rfl
@[simp ↓] theorem setInt_ess (s : State) (k : Nat) (n : Int) : (s.setInt k n).ess = s.ess := rfl
@[simp ↓] theorem setInt_aud (s : State) (k : Nat) (n : Int) : (s.setInt k n).aud = s.aud := rfl
@[simp ↓] theorem setInt_str (s : State) (k : Nat) (n : Int) : (s.setInt k n).str = s.str := rfl
@[simp ↓] theorem setInt_pac (s : State) (k : Nat) (n : Int) : (s.setInt k n).pac = s.pac := rfl
@[simp ↓] theorem setInt_eth (s : State) (k : Nat) (n : Int) : (s.setInt k n).eth = s.eth := rfl
@[simp ↓] theorem setInt_fab (s : State) (k : Nat) (n : Int) : (s.setInt k n).fab = s.fab := rfl
@[simp ↓] theorem setInt_comp (s : State) (k : Nat) (n : Int) : (s.setInt k n).comp = s.comp := rfl
@[simp ↓] theorem setInt_twin (s : State) (k : Nat) (n : Int) : (s.setInt k n).twin = s.twin := rfl
@[simp ↓] theorem setInt_pwr (s : State) (k : Nat) (n : Int) : (s.setInt k n).pwr = s.pwr := rfl
@[simp ↓] theorem setInt_upd (s : State) (k : Nat) (n : Int) : (s.setInt k n).upd = s.upd := rfl
@[simp ↓] theorem setInt_pending (s : State) (k : Nat) (n : Int) : (s.setInt k n).pending = s.pending := rfl
@[simp ↓] theorem setBytes_regs (s : State) (k : Nat) (b : List Byte) : (s.setBytes k b).regs = s.regs := rfl
@[simp ↓] theorem setBytes_mem (s : State) (k : Nat) (b : List Byte) : (s.setBytes k b).mem = s.mem := rfl
@[simp ↓] theorem setBytes_out (s : State) (k : Nat) (b : List Byte) : (s.setBytes k b).out = s.out := rfl
@[simp ↓] theorem setBytes_free (s : State) (k : Nat) (b : List Byte) : (s.setBytes k b).free = s.free := rfl
@[simp ↓] theorem setBytes_fuses (s : State) (k : Nat) (b : List Byte) : (s.setBytes k b).fuses = s.fuses := rfl
@[simp ↓] theorem setBytes_tm (s : State) (k : Nat) (b : List Byte) : (s.setBytes k b).tm = s.tm := rfl
@[simp ↓] theorem setBytes_dict (s : State) (k : Nat) (b : List Byte) : (s.setBytes k b).dict = s.dict := rfl
@[simp ↓] theorem setBytes_hif (s : State) (k : Nat) (b : List Byte) : (s.setBytes k b).hif = s.hif := rfl
@[simp ↓] theorem setBytes_flt (s : State) (k : Nat) (b : List Byte) : (s.setBytes k b).flt = s.flt := rfl
@[simp ↓] theorem setBytes_evr (s : State) (k : Nat) (b : List Byte) : (s.setBytes k b).evr = s.evr := rfl
@[simp ↓] theorem setBytes_ess (s : State) (k : Nat) (b : List Byte) : (s.setBytes k b).ess = s.ess := rfl
@[simp ↓] theorem setBytes_aud (s : State) (k : Nat) (b : List Byte) : (s.setBytes k b).aud = s.aud := rfl
@[simp ↓] theorem setBytes_str (s : State) (k : Nat) (b : List Byte) : (s.setBytes k b).str = s.str := rfl
@[simp ↓] theorem setBytes_pac (s : State) (k : Nat) (b : List Byte) : (s.setBytes k b).pac = s.pac := rfl
@[simp ↓] theorem setBytes_eth (s : State) (k : Nat) (b : List Byte) : (s.setBytes k b).eth = s.eth := rfl
@[simp ↓] theorem setBytes_fab (s : State) (k : Nat) (b : List Byte) : (s.setBytes k b).fab = s.fab := rfl
@[simp ↓] theorem setBytes_comp (s : State) (k : Nat) (b : List Byte) : (s.setBytes k b).comp = s.comp := rfl
@[simp ↓] theorem setBytes_twin (s : State) (k : Nat) (b : List Byte) : (s.setBytes k b).twin = s.twin := rfl
@[simp ↓] theorem setBytes_pwr (s : State) (k : Nat) (b : List Byte) : (s.setBytes k b).pwr = s.pwr := rfl
@[simp ↓] theorem setBytes_upd (s : State) (k : Nat) (b : List Byte) : (s.setBytes k b).upd = s.upd := rfl
@[simp ↓] theorem setBytes_pending (s : State) (k : Nat) (b : List Byte) : (s.setBytes k b).pending = s.pending := rfl
@[simp ↓] theorem bump_regs (s : State) (k n : Nat) : (s.bump k n).regs = s.regs := rfl
@[simp ↓] theorem bump_mem (s : State) (k n : Nat) : (s.bump k n).mem = s.mem := rfl
@[simp ↓] theorem bump_out (s : State) (k n : Nat) : (s.bump k n).out = s.out := rfl
@[simp ↓] theorem bump_free (s : State) (k n : Nat) : (s.bump k n).free = s.free := rfl
@[simp ↓] theorem bump_fuses (s : State) (k n : Nat) : (s.bump k n).fuses = s.fuses := rfl
@[simp ↓] theorem bump_tm (s : State) (k n : Nat) : (s.bump k n).tm = s.tm := rfl
@[simp ↓] theorem bump_dict (s : State) (k n : Nat) : (s.bump k n).dict = s.dict := rfl
@[simp ↓] theorem bump_hif (s : State) (k n : Nat) : (s.bump k n).hif = s.hif := rfl
@[simp ↓] theorem bump_flt (s : State) (k n : Nat) : (s.bump k n).flt = s.flt := rfl
@[simp ↓] theorem bump_evr (s : State) (k n : Nat) : (s.bump k n).evr = s.evr := rfl
@[simp ↓] theorem bump_ess (s : State) (k n : Nat) : (s.bump k n).ess = s.ess := rfl
@[simp ↓] theorem bump_aud (s : State) (k n : Nat) : (s.bump k n).aud = s.aud := rfl
@[simp ↓] theorem bump_str (s : State) (k n : Nat) : (s.bump k n).str = s.str := rfl
@[simp ↓] theorem bump_pac (s : State) (k n : Nat) : (s.bump k n).pac = s.pac := rfl
@[simp ↓] theorem bump_eth (s : State) (k n : Nat) : (s.bump k n).eth = s.eth := rfl
@[simp ↓] theorem bump_fab (s : State) (k n : Nat) : (s.bump k n).fab = s.fab := rfl
@[simp ↓] theorem bump_comp (s : State) (k n : Nat) : (s.bump k n).comp = s.comp := rfl
@[simp ↓] theorem bump_twin (s : State) (k n : Nat) : (s.bump k n).twin = s.twin := rfl
@[simp ↓] theorem bump_pwr (s : State) (k n : Nat) : (s.bump k n).pwr = s.pwr := rfl
@[simp ↓] theorem bump_upd (s : State) (k n : Nat) : (s.bump k n).upd = s.upd := rfl
@[simp ↓] theorem bump_pending (s : State) (k n : Nat) : (s.bump k n).pending = s.pending := rfl
@[simp ↓] theorem bump64_regs (s : State) (k n : Nat) : (s.bump64 k n).regs = s.regs := rfl
@[simp ↓] theorem bump64_mem (s : State) (k n : Nat) : (s.bump64 k n).mem = s.mem := rfl
@[simp ↓] theorem bump64_out (s : State) (k n : Nat) : (s.bump64 k n).out = s.out := rfl
@[simp ↓] theorem bump64_free (s : State) (k n : Nat) : (s.bump64 k n).free = s.free := rfl
@[simp ↓] theorem bump64_fuses (s : State) (k n : Nat) : (s.bump64 k n).fuses = s.fuses := rfl
@[simp ↓] theorem bump64_tm (s : State) (k n : Nat) : (s.bump64 k n).tm = s.tm := rfl
@[simp ↓] theorem bump64_dict (s : State) (k n : Nat) : (s.bump64 k n).dict = s.dict := rfl
@[simp ↓] theorem bump64_hif (s : State) (k n : Nat) : (s.bump64 k n).hif = s.hif := rfl
@[simp ↓] theorem bump64_flt (s : State) (k n : Nat) : (s.bump64 k n).flt = s.flt := rfl
@[simp ↓] theorem bump64_evr (s : State) (k n : Nat) : (s.bump64 k n).evr = s.evr := rfl
@[simp ↓] theorem bump64_ess (s : State) (k n : Nat) : (s.bump64 k n).ess = s.ess := rfl
@[simp ↓] theorem bump64_aud (s : State) (k n : Nat) : (s.bump64 k n).aud = s.aud := rfl
@[simp ↓] theorem bump64_str (s : State) (k n : Nat) : (s.bump64 k n).str = s.str := rfl
@[simp ↓] theorem bump64_pac (s : State) (k n : Nat) : (s.bump64 k n).pac = s.pac := rfl
@[simp ↓] theorem bump64_eth (s : State) (k n : Nat) : (s.bump64 k n).eth = s.eth := rfl
@[simp ↓] theorem bump64_fab (s : State) (k n : Nat) : (s.bump64 k n).fab = s.fab := rfl
@[simp ↓] theorem bump64_comp (s : State) (k n : Nat) : (s.bump64 k n).comp = s.comp := rfl
@[simp ↓] theorem bump64_twin (s : State) (k n : Nat) : (s.bump64 k n).twin = s.twin := rfl
@[simp ↓] theorem bump64_pwr (s : State) (k n : Nat) : (s.bump64 k n).pwr = s.pwr := rfl
@[simp ↓] theorem bump64_upd (s : State) (k n : Nat) : (s.bump64 k n).upd = s.upd := rfl
@[simp ↓] theorem bump64_pending (s : State) (k n : Nat) : (s.bump64 k n).pending = s.pending := rfl
@[simp ↓] theorem setBit_objs (s : State) (off b : Nat) : (s.setBit off b).objs = s.objs := rfl
@[simp ↓] theorem setBit_chg (s : State) (off b : Nat) : (s.setBit off b).chg = s.chg := rfl
@[simp ↓] theorem setBit_mem (s : State) (off b : Nat) : (s.setBit off b).mem = s.mem := rfl
@[simp ↓] theorem setBit_out (s : State) (off b : Nat) : (s.setBit off b).out = s.out := rfl
@[simp ↓] theorem setBit_free (s : State) (off b : Nat) : (s.setBit off b).free = s.free := rfl
@[simp ↓] theorem setBit_fuses (s : State) (off b : Nat) : (s.setBit off b).fuses = s.fuses := rfl
@[simp ↓] theorem setBit_tm (s : State) (off b : Nat) : (s.setBit off b).tm = s.tm := rfl
@[simp ↓] theorem setBit_dict (s : State) (off b : Nat) : (s.setBit off b).dict = s.dict := rfl
@[simp ↓] theorem setBit_hif (s : State) (off b : Nat) : (s.setBit off b).hif = s.hif := rfl
@[simp ↓] theorem setBit_flt (s : State) (off b : Nat) : (s.setBit off b).flt = s.flt := rfl
@[simp ↓] theorem setBit_evr (s : State) (off b : Nat) : (s.setBit off b).evr = s.evr := rfl
@[simp ↓] theorem setBit_ess (s : State) (off b : Nat) : (s.setBit off b).ess = s.ess := rfl
@[simp ↓] theorem setBit_aud (s : State) (off b : Nat) : (s.setBit off b).aud = s.aud := rfl
@[simp ↓] theorem setBit_str (s : State) (off b : Nat) : (s.setBit off b).str = s.str := rfl
@[simp ↓] theorem setBit_pac (s : State) (off b : Nat) : (s.setBit off b).pac = s.pac := rfl
@[simp ↓] theorem setBit_eth (s : State) (off b : Nat) : (s.setBit off b).eth = s.eth := rfl
@[simp ↓] theorem setBit_fab (s : State) (off b : Nat) : (s.setBit off b).fab = s.fab := rfl
@[simp ↓] theorem setBit_comp (s : State) (off b : Nat) : (s.setBit off b).comp = s.comp := rfl
@[simp ↓] theorem setBit_twin (s : State) (off b : Nat) : (s.setBit off b).twin = s.twin := rfl
@[simp ↓] theorem setBit_pwr (s : State) (off b : Nat) : (s.setBit off b).pwr = s.pwr := rfl
@[simp ↓] theorem setBit_upd (s : State) (off b : Nat) : (s.setBit off b).upd = s.upd := rfl
@[simp ↓] theorem setBit_pending (s : State) (off b : Nat) : (s.setBit off b).pending = s.pending := rfl
@[simp ↓] theorem rcAdd_objs (s : State) (off hi lo n : Nat) : (s.rcAdd off hi lo n).objs = s.objs := rfl
@[simp ↓] theorem rcAdd_chg (s : State) (off hi lo n : Nat) : (s.rcAdd off hi lo n).chg = s.chg := rfl
@[simp ↓] theorem rcAdd_mem (s : State) (off hi lo n : Nat) : (s.rcAdd off hi lo n).mem = s.mem := rfl
@[simp ↓] theorem rcAdd_out (s : State) (off hi lo n : Nat) : (s.rcAdd off hi lo n).out = s.out := rfl
@[simp ↓] theorem rcAdd_free (s : State) (off hi lo n : Nat) : (s.rcAdd off hi lo n).free = s.free := rfl
@[simp ↓] theorem rcAdd_fuses (s : State) (off hi lo n : Nat) : (s.rcAdd off hi lo n).fuses = s.fuses := rfl
@[simp ↓] theorem rcAdd_tm (s : State) (off hi lo n : Nat) : (s.rcAdd off hi lo n).tm = s.tm := rfl
@[simp ↓] theorem rcAdd_dict (s : State) (off hi lo n : Nat) : (s.rcAdd off hi lo n).dict = s.dict := rfl
@[simp ↓] theorem rcAdd_hif (s : State) (off hi lo n : Nat) : (s.rcAdd off hi lo n).hif = s.hif := rfl
@[simp ↓] theorem rcAdd_flt (s : State) (off hi lo n : Nat) : (s.rcAdd off hi lo n).flt = s.flt := rfl
@[simp ↓] theorem rcAdd_evr (s : State) (off hi lo n : Nat) : (s.rcAdd off hi lo n).evr = s.evr := rfl
@[simp ↓] theorem rcAdd_ess (s : State) (off hi lo n : Nat) : (s.rcAdd off hi lo n).ess = s.ess := rfl
@[simp ↓] theorem rcAdd_aud (s : State) (off hi lo n : Nat) : (s.rcAdd off hi lo n).aud = s.aud := rfl
@[simp ↓] theorem rcAdd_str (s : State) (off hi lo n : Nat) : (s.rcAdd off hi lo n).str = s.str := rfl
@[simp ↓] theorem rcAdd_pac (s : State) (off hi lo n : Nat) : (s.rcAdd off hi lo n).pac = s.pac := rfl
@[simp ↓] theorem rcAdd_eth (s : State) (off hi lo n : Nat) : (s.rcAdd off hi lo n).eth = s.eth := rfl
@[simp ↓] theorem rcAdd_fab (s : State) (off hi lo n : Nat) : (s.rcAdd off hi lo n).fab = s.fab := rfl
@[simp ↓] theorem rcAdd_comp (s : State) (off hi lo n : Nat) : (s.rcAdd off hi lo n).comp = s.comp := rfl
@[simp ↓] theorem rcAdd_twin (s : State) (off hi lo n : Nat) : (s.rcAdd off hi lo n).twin = s.twin := rfl
@[simp ↓] theorem rcAdd_pwr (s : State) (off hi lo n : Nat) : (s.rcAdd off hi lo n).pwr = s.pwr := rfl
@[simp ↓] theorem rcAdd_upd (s : State) (off hi lo n : Nat) : (s.rcAdd off hi lo n).upd = s.upd := rfl
@[simp ↓] theorem rcAdd_pending (s : State) (off hi lo n : Nat) : (s.rcAdd off hi lo n).pending = s.pending := rfl
@[simp ↓] theorem setDch_objs (s : State) (c : Nat) (v : DmaCh) : (s.setDch c v).objs = s.objs := rfl
@[simp ↓] theorem setDch_chg (s : State) (c : Nat) (v : DmaCh) : (s.setDch c v).chg = s.chg := rfl
@[simp ↓] theorem setDch_regs (s : State) (c : Nat) (v : DmaCh) : (s.setDch c v).regs = s.regs := rfl
@[simp ↓] theorem setDch_mem (s : State) (c : Nat) (v : DmaCh) : (s.setDch c v).mem = s.mem := rfl
@[simp ↓] theorem setDch_out (s : State) (c : Nat) (v : DmaCh) : (s.setDch c v).out = s.out := rfl
@[simp ↓] theorem setDch_free (s : State) (c : Nat) (v : DmaCh) : (s.setDch c v).free = s.free := rfl
@[simp ↓] theorem setDch_fuses (s : State) (c : Nat) (v : DmaCh) : (s.setDch c v).fuses = s.fuses := rfl
@[simp ↓] theorem setDch_tm (s : State) (c : Nat) (v : DmaCh) : (s.setDch c v).tm = s.tm := rfl
@[simp ↓] theorem setDch_dict (s : State) (c : Nat) (v : DmaCh) : (s.setDch c v).dict = s.dict := rfl
@[simp ↓] theorem setDch_flt (s : State) (c : Nat) (v : DmaCh) : (s.setDch c v).flt = s.flt := rfl
@[simp ↓] theorem setDch_evr (s : State) (c : Nat) (v : DmaCh) : (s.setDch c v).evr = s.evr := rfl
@[simp ↓] theorem setDch_ess (s : State) (c : Nat) (v : DmaCh) : (s.setDch c v).ess = s.ess := rfl
@[simp ↓] theorem setDch_aud (s : State) (c : Nat) (v : DmaCh) : (s.setDch c v).aud = s.aud := rfl
@[simp ↓] theorem setDch_str (s : State) (c : Nat) (v : DmaCh) : (s.setDch c v).str = s.str := rfl
@[simp ↓] theorem setDch_pac (s : State) (c : Nat) (v : DmaCh) : (s.setDch c v).pac = s.pac := rfl
@[simp ↓] theorem setDch_eth (s : State) (c : Nat) (v : DmaCh) : (s.setDch c v).eth = s.eth := rfl
@[simp ↓] theorem setDch_fab (s : State) (c : Nat) (v : DmaCh) : (s.setDch c v).fab = s.fab := rfl
@[simp ↓] theorem setDch_comp (s : State) (c : Nat) (v : DmaCh) : (s.setDch c v).comp = s.comp := rfl
@[simp ↓] theorem setDch_twin (s : State) (c : Nat) (v : DmaCh) : (s.setDch c v).twin = s.twin := rfl
@[simp ↓] theorem setDch_pwr (s : State) (c : Nat) (v : DmaCh) : (s.setDch c v).pwr = s.pwr := rfl
@[simp ↓] theorem setDch_upd (s : State) (c : Nat) (v : DmaCh) : (s.setDch c v).upd = s.upd := rfl
@[simp ↓] theorem setDch_pending (s : State) (c : Nat) (v : DmaCh) : (s.setDch c v).pending = s.pending := rfl
@[simp ↓] theorem setRing_objs (s : State) (r : Nat) (v : RingSt) : (s.setRing r v).objs = s.objs := rfl
@[simp ↓] theorem setRing_chg (s : State) (r : Nat) (v : RingSt) : (s.setRing r v).chg = s.chg := rfl
@[simp ↓] theorem setRing_regs (s : State) (r : Nat) (v : RingSt) : (s.setRing r v).regs = s.regs := rfl
@[simp ↓] theorem setRing_mem (s : State) (r : Nat) (v : RingSt) : (s.setRing r v).mem = s.mem := rfl
@[simp ↓] theorem setRing_out (s : State) (r : Nat) (v : RingSt) : (s.setRing r v).out = s.out := rfl
@[simp ↓] theorem setRing_free (s : State) (r : Nat) (v : RingSt) : (s.setRing r v).free = s.free := rfl
@[simp ↓] theorem setRing_fuses (s : State) (r : Nat) (v : RingSt) : (s.setRing r v).fuses = s.fuses := rfl
@[simp ↓] theorem setRing_tm (s : State) (r : Nat) (v : RingSt) : (s.setRing r v).tm = s.tm := rfl
@[simp ↓] theorem setRing_dict (s : State) (r : Nat) (v : RingSt) : (s.setRing r v).dict = s.dict := rfl
@[simp ↓] theorem setRing_flt (s : State) (r : Nat) (v : RingSt) : (s.setRing r v).flt = s.flt := rfl
@[simp ↓] theorem setRing_evr (s : State) (r : Nat) (v : RingSt) : (s.setRing r v).evr = s.evr := rfl
@[simp ↓] theorem setRing_ess (s : State) (r : Nat) (v : RingSt) : (s.setRing r v).ess = s.ess := rfl
@[simp ↓] theorem setRing_aud (s : State) (r : Nat) (v : RingSt) : (s.setRing r v).aud = s.aud := rfl
@[simp ↓] theorem setRing_str (s : State) (r : Nat) (v : RingSt) : (s.setRing r v).str = s.str := rfl
@[simp ↓] theorem setRing_pac (s : State) (r : Nat) (v : RingSt) : (s.setRing r v).pac = s.pac := rfl
@[simp ↓] theorem setRing_eth (s : State) (r : Nat) (v : RingSt) : (s.setRing r v).eth = s.eth := rfl
@[simp ↓] theorem setRing_fab (s : State) (r : Nat) (v : RingSt) : (s.setRing r v).fab = s.fab := rfl
@[simp ↓] theorem setRing_comp (s : State) (r : Nat) (v : RingSt) : (s.setRing r v).comp = s.comp := rfl
@[simp ↓] theorem setRing_twin (s : State) (r : Nat) (v : RingSt) : (s.setRing r v).twin = s.twin := rfl
@[simp ↓] theorem setRing_pwr (s : State) (r : Nat) (v : RingSt) : (s.setRing r v).pwr = s.pwr := rfl
@[simp ↓] theorem setRing_upd (s : State) (r : Nat) (v : RingSt) : (s.setRing r v).upd = s.upd := rfl
@[simp ↓] theorem setRing_pending (s : State) (r : Nat) (v : RingSt) : (s.setRing r v).pending = s.pending := rfl
@[simp ↓] theorem setKey_objs (s : State) (n : Nat) (k : KeySlot) : (s.setKey n k).objs = s.objs := rfl
@[simp ↓] theorem setKey_chg (s : State) (n : Nat) (k : KeySlot) : (s.setKey n k).chg = s.chg := rfl
@[simp ↓] theorem setKey_regs (s : State) (n : Nat) (k : KeySlot) : (s.setKey n k).regs = s.regs := rfl
@[simp ↓] theorem setKey_mem (s : State) (n : Nat) (k : KeySlot) : (s.setKey n k).mem = s.mem := rfl
@[simp ↓] theorem setKey_out (s : State) (n : Nat) (k : KeySlot) : (s.setKey n k).out = s.out := rfl
@[simp ↓] theorem setKey_free (s : State) (n : Nat) (k : KeySlot) : (s.setKey n k).free = s.free := rfl
@[simp ↓] theorem setKey_fuses (s : State) (n : Nat) (k : KeySlot) : (s.setKey n k).fuses = s.fuses := rfl
@[simp ↓] theorem setKey_tm (s : State) (n : Nat) (k : KeySlot) : (s.setKey n k).tm = s.tm := rfl
@[simp ↓] theorem setKey_dict (s : State) (n : Nat) (k : KeySlot) : (s.setKey n k).dict = s.dict := rfl
@[simp ↓] theorem setKey_hif (s : State) (n : Nat) (k : KeySlot) : (s.setKey n k).hif = s.hif := rfl
@[simp ↓] theorem setKey_flt (s : State) (n : Nat) (k : KeySlot) : (s.setKey n k).flt = s.flt := rfl
@[simp ↓] theorem setKey_evr (s : State) (n : Nat) (k : KeySlot) : (s.setKey n k).evr = s.evr := rfl
@[simp ↓] theorem setKey_ess (s : State) (n : Nat) (k : KeySlot) : (s.setKey n k).ess = s.ess := rfl
@[simp ↓] theorem setKey_aud (s : State) (n : Nat) (k : KeySlot) : (s.setKey n k).aud = s.aud := rfl
@[simp ↓] theorem setKey_str (s : State) (n : Nat) (k : KeySlot) : (s.setKey n k).str = s.str := rfl
@[simp ↓] theorem setKey_pac (s : State) (n : Nat) (k : KeySlot) : (s.setKey n k).pac = s.pac := rfl
@[simp ↓] theorem setKey_eth (s : State) (n : Nat) (k : KeySlot) : (s.setKey n k).eth = s.eth := rfl
@[simp ↓] theorem setKey_fab (s : State) (n : Nat) (k : KeySlot) : (s.setKey n k).fab = s.fab := rfl
@[simp ↓] theorem setKey_comp (s : State) (n : Nat) (k : KeySlot) : (s.setKey n k).comp = s.comp := rfl
@[simp ↓] theorem setKey_twin (s : State) (n : Nat) (k : KeySlot) : (s.setKey n k).twin = s.twin := rfl
@[simp ↓] theorem setKey_pwr (s : State) (n : Nat) (k : KeySlot) : (s.setKey n k).pwr = s.pwr := rfl
@[simp ↓] theorem setKey_pending (s : State) (n : Nat) (k : KeySlot) : (s.setKey n k).pending = s.pending := rfl
@[simp ↓] theorem setImg_objs (s : State) (k : Nat) (v : ImgSlot) : (s.setImg k v).objs = s.objs := rfl
@[simp ↓] theorem setImg_chg (s : State) (k : Nat) (v : ImgSlot) : (s.setImg k v).chg = s.chg := rfl
@[simp ↓] theorem setImg_regs (s : State) (k : Nat) (v : ImgSlot) : (s.setImg k v).regs = s.regs := rfl
@[simp ↓] theorem setImg_mem (s : State) (k : Nat) (v : ImgSlot) : (s.setImg k v).mem = s.mem := rfl
@[simp ↓] theorem setImg_out (s : State) (k : Nat) (v : ImgSlot) : (s.setImg k v).out = s.out := rfl
@[simp ↓] theorem setImg_free (s : State) (k : Nat) (v : ImgSlot) : (s.setImg k v).free = s.free := rfl
@[simp ↓] theorem setImg_fuses (s : State) (k : Nat) (v : ImgSlot) : (s.setImg k v).fuses = s.fuses := rfl
@[simp ↓] theorem setImg_tm (s : State) (k : Nat) (v : ImgSlot) : (s.setImg k v).tm = s.tm := rfl
@[simp ↓] theorem setImg_dict (s : State) (k : Nat) (v : ImgSlot) : (s.setImg k v).dict = s.dict := rfl
@[simp ↓] theorem setImg_hif (s : State) (k : Nat) (v : ImgSlot) : (s.setImg k v).hif = s.hif := rfl
@[simp ↓] theorem setImg_flt (s : State) (k : Nat) (v : ImgSlot) : (s.setImg k v).flt = s.flt := rfl
@[simp ↓] theorem setImg_evr (s : State) (k : Nat) (v : ImgSlot) : (s.setImg k v).evr = s.evr := rfl
@[simp ↓] theorem setImg_ess (s : State) (k : Nat) (v : ImgSlot) : (s.setImg k v).ess = s.ess := rfl
@[simp ↓] theorem setImg_aud (s : State) (k : Nat) (v : ImgSlot) : (s.setImg k v).aud = s.aud := rfl
@[simp ↓] theorem setImg_str (s : State) (k : Nat) (v : ImgSlot) : (s.setImg k v).str = s.str := rfl
@[simp ↓] theorem setImg_pac (s : State) (k : Nat) (v : ImgSlot) : (s.setImg k v).pac = s.pac := rfl
@[simp ↓] theorem setImg_eth (s : State) (k : Nat) (v : ImgSlot) : (s.setImg k v).eth = s.eth := rfl
@[simp ↓] theorem setImg_fab (s : State) (k : Nat) (v : ImgSlot) : (s.setImg k v).fab = s.fab := rfl
@[simp ↓] theorem setImg_comp (s : State) (k : Nat) (v : ImgSlot) : (s.setImg k v).comp = s.comp := rfl
@[simp ↓] theorem setImg_twin (s : State) (k : Nat) (v : ImgSlot) : (s.setImg k v).twin = s.twin := rfl
@[simp ↓] theorem setImg_pwr (s : State) (k : Nat) (v : ImgSlot) : (s.setImg k v).pwr = s.pwr := rfl
@[simp ↓] theorem setImg_pending (s : State) (k : Nat) (v : ImgSlot) : (s.setImg k v).pending = s.pending := rfl
@[simp ↓] theorem setBank_objs (s : State) (k : Nat) (b : Bank) : (s.setBank k b).objs = s.objs := rfl
@[simp ↓] theorem setBank_chg (s : State) (k : Nat) (b : Bank) : (s.setBank k b).chg = s.chg := rfl
@[simp ↓] theorem setBank_regs (s : State) (k : Nat) (b : Bank) : (s.setBank k b).regs = s.regs := rfl
@[simp ↓] theorem setBank_mem (s : State) (k : Nat) (b : Bank) : (s.setBank k b).mem = s.mem := rfl
@[simp ↓] theorem setBank_out (s : State) (k : Nat) (b : Bank) : (s.setBank k b).out = s.out := rfl
@[simp ↓] theorem setBank_free (s : State) (k : Nat) (b : Bank) : (s.setBank k b).free = s.free := rfl
@[simp ↓] theorem setBank_fuses (s : State) (k : Nat) (b : Bank) : (s.setBank k b).fuses = s.fuses := rfl
@[simp ↓] theorem setBank_tm (s : State) (k : Nat) (b : Bank) : (s.setBank k b).tm = s.tm := rfl
@[simp ↓] theorem setBank_dict (s : State) (k : Nat) (b : Bank) : (s.setBank k b).dict = s.dict := rfl
@[simp ↓] theorem setBank_hif (s : State) (k : Nat) (b : Bank) : (s.setBank k b).hif = s.hif := rfl
@[simp ↓] theorem setBank_flt (s : State) (k : Nat) (b : Bank) : (s.setBank k b).flt = s.flt := rfl
@[simp ↓] theorem setBank_evr (s : State) (k : Nat) (b : Bank) : (s.setBank k b).evr = s.evr := rfl
@[simp ↓] theorem setBank_ess (s : State) (k : Nat) (b : Bank) : (s.setBank k b).ess = s.ess := rfl
@[simp ↓] theorem setBank_aud (s : State) (k : Nat) (b : Bank) : (s.setBank k b).aud = s.aud := rfl
@[simp ↓] theorem setBank_str (s : State) (k : Nat) (b : Bank) : (s.setBank k b).str = s.str := rfl
@[simp ↓] theorem setBank_pac (s : State) (k : Nat) (b : Bank) : (s.setBank k b).pac = s.pac := rfl
@[simp ↓] theorem setBank_eth (s : State) (k : Nat) (b : Bank) : (s.setBank k b).eth = s.eth := rfl
@[simp ↓] theorem setBank_fab (s : State) (k : Nat) (b : Bank) : (s.setBank k b).fab = s.fab := rfl
@[simp ↓] theorem setBank_comp (s : State) (k : Nat) (b : Bank) : (s.setBank k b).comp = s.comp := rfl
@[simp ↓] theorem setBank_twin (s : State) (k : Nat) (b : Bank) : (s.setBank k b).twin = s.twin := rfl
@[simp ↓] theorem setBank_pwr (s : State) (k : Nat) (b : Bank) : (s.setBank k b).pwr = s.pwr := rfl
@[simp ↓] theorem setBank_pending (s : State) (k : Nat) (b : Bank) : (s.setBank k b).pending = s.pending := rfl
@[simp ↓] theorem setUst_objs (s : State) (v : Nat) : (s.setUst v).objs = s.objs := rfl
@[simp ↓] theorem setUst_chg (s : State) (v : Nat) : (s.setUst v).chg = s.chg := rfl
@[simp ↓] theorem setUst_regs (s : State) (v : Nat) : (s.setUst v).regs = s.regs := rfl
@[simp ↓] theorem setUst_mem (s : State) (v : Nat) : (s.setUst v).mem = s.mem := rfl
@[simp ↓] theorem setUst_out (s : State) (v : Nat) : (s.setUst v).out = s.out := rfl
@[simp ↓] theorem setUst_free (s : State) (v : Nat) : (s.setUst v).free = s.free := rfl
@[simp ↓] theorem setUst_fuses (s : State) (v : Nat) : (s.setUst v).fuses = s.fuses := rfl
@[simp ↓] theorem setUst_tm (s : State) (v : Nat) : (s.setUst v).tm = s.tm := rfl
@[simp ↓] theorem setUst_dict (s : State) (v : Nat) : (s.setUst v).dict = s.dict := rfl
@[simp ↓] theorem setUst_hif (s : State) (v : Nat) : (s.setUst v).hif = s.hif := rfl
@[simp ↓] theorem setUst_flt (s : State) (v : Nat) : (s.setUst v).flt = s.flt := rfl
@[simp ↓] theorem setUst_evr (s : State) (v : Nat) : (s.setUst v).evr = s.evr := rfl
@[simp ↓] theorem setUst_ess (s : State) (v : Nat) : (s.setUst v).ess = s.ess := rfl
@[simp ↓] theorem setUst_aud (s : State) (v : Nat) : (s.setUst v).aud = s.aud := rfl
@[simp ↓] theorem setUst_str (s : State) (v : Nat) : (s.setUst v).str = s.str := rfl
@[simp ↓] theorem setUst_pac (s : State) (v : Nat) : (s.setUst v).pac = s.pac := rfl
@[simp ↓] theorem setUst_eth (s : State) (v : Nat) : (s.setUst v).eth = s.eth := rfl
@[simp ↓] theorem setUst_fab (s : State) (v : Nat) : (s.setUst v).fab = s.fab := rfl
@[simp ↓] theorem setUst_comp (s : State) (v : Nat) : (s.setUst v).comp = s.comp := rfl
@[simp ↓] theorem setUst_twin (s : State) (v : Nat) : (s.setUst v).twin = s.twin := rfl
@[simp ↓] theorem setUst_pwr (s : State) (v : Nat) : (s.setUst v).pwr = s.pwr := rfl
@[simp ↓] theorem setUst_pending (s : State) (v : Nat) : (s.setUst v).pending = s.pending := rfl

end Sys2Proof.Machine
end

