-- ==== Sys2Proof/Laws/Read.lean ====
section
/-! SUPPORT. Reading an object, a word, a byte or a record after an update. -/

namespace Sys2Proof.Machine

@[simp ↓] theorem obj_setObj (s : State) (k j : Nat) (v : Val) : (s.setObj k v).obj j = if j = k then v else s.obj j := by
  simp only [State.obj, setObj_objs, setObj_fuses, tget_tset]
@[simp ↓] theorem obj_setNum (s : State) (k j n : Nat) : (s.setNum k n).obj j = if j = k then .num n else s.obj j := obj_setObj ..
@[simp ↓] theorem obj_setInt (s : State) (k j : Nat) (n : Int) : (s.setInt k n).obj j = if j = k then .num n else s.obj j := obj_setObj ..
@[simp ↓] theorem obj_setBytes (s : State) (k j : Nat) (b : List Byte) : (s.setBytes k b).obj j = if j = k then .oct b else s.obj j := obj_setObj ..
@[simp] theorem toNat_num (n : Nat) : (Val.num (n : Int)).toNat = n := Int.toNat_natCast n
@[simp] theorem toInt_num (n : Int) : (Val.num n).toInt = n := rfl
@[simp] theorem bytes_oct (b : List Byte) : (Val.oct b).bytes = b := rfl
@[simp ↓] theorem num_setObj (s : State) (k j : Nat) (v : Val) : (s.setObj k v).num j = if j = k then v.toNat else s.num j := by
  simp only [State.num, obj_setObj]; split <;> rfl
@[simp ↓] theorem int_setObj (s : State) (k j : Nat) (v : Val) : (s.setObj k v).int j = if j = k then v.toInt else s.int j := by
  simp only [State.int, obj_setObj]; split <;> rfl
@[simp ↓] theorem bytes_setObj (s : State) (k j : Nat) (v : Val) : (s.setObj k v).bytes j = if j = k then v.bytes else s.bytes j := by
  simp only [State.bytes, obj_setObj]; split <;> rfl
@[simp ↓] theorem flag_setObj (s : State) (k j : Nat) (v : Val) : (s.setObj k v).flag j = if j = k then v.toNat != 0 else s.flag j := by
  simp only [State.flag, num_setObj]; split <;> rfl
@[simp ↓] theorem num_setNum (s : State) (k j n : Nat) : (s.setNum k n).num j = if j = k then n else s.num j := by
  rw [State.setNum, num_setObj]; simp
@[simp ↓] theorem int_setNum (s : State) (k j n : Nat) : (s.setNum k n).int j = if j = k then (n : Int) else s.int j := by
  rw [State.setNum, int_setObj]; simp
@[simp ↓] theorem flag_setNum (s : State) (k j n : Nat) : (s.setNum k n).flag j = if j = k then n != 0 else s.flag j := by
  rw [State.setNum, flag_setObj]; simp
@[simp ↓] theorem bytes_setNum (s : State) (k j n : Nat) : (s.setNum k n).bytes j = if j = k then [] else s.bytes j := by
  rw [State.setNum, bytes_setObj]; rfl
@[simp ↓] theorem num_setInt (s : State) (k j : Nat) (n : Int) : (s.setInt k n).num j = if j = k then n.toNat else s.num j := by
  rw [State.setInt, num_setObj]; rfl
@[simp ↓] theorem int_setInt (s : State) (k j : Nat) (n : Int) : (s.setInt k n).int j = if j = k then n else s.int j := by
  rw [State.setInt, int_setObj]; rfl
@[simp ↓] theorem flag_setInt (s : State) (k j : Nat) (n : Int) : (s.setInt k n).flag j = if j = k then n.toNat != 0 else s.flag j := by
  rw [State.setInt, flag_setObj]; rfl
@[simp ↓] theorem bytes_setInt (s : State) (k j : Nat) (n : Int) : (s.setInt k n).bytes j = if j = k then [] else s.bytes j := by
  rw [State.setInt, bytes_setObj]; rfl
@[simp ↓] theorem num_setBytes (s : State) (k j : Nat) (b : List Byte) : (s.setBytes k b).num j = if j = k then (Val.oct b).toNat else s.num j := by
  rw [State.setBytes, num_setObj]
@[simp ↓] theorem int_setBytes (s : State) (k j : Nat) (b : List Byte) : (s.setBytes k b).int j = if j = k then (Val.oct b).toInt else s.int j := by
  rw [State.setBytes, int_setObj]
@[simp ↓] theorem bytes_setBytes (s : State) (k j : Nat) (b : List Byte) : (s.setBytes k b).bytes j = if j = k then b else s.bytes j := by
  rw [State.setBytes, bytes_setObj]; rfl
@[simp ↓] theorem num_bump (s : State) (k j n : Nat) : (s.bump k n).num j = if j = k then (s.num k + n) % 2 ^ 32 else s.num j := num_setNum ..
@[simp ↓] theorem flag_bump (s : State) (k j n : Nat) : (s.bump k n).flag j = if j = k then (s.num k + n) % 2 ^ 32 != 0 else s.flag j := flag_setNum ..
@[simp ↓] theorem int_bump (s : State) (k j n : Nat) : (s.bump k n).int j = if j = k then (((s.num k + n) % 2 ^ 32 : Nat) : Int) else s.int j := int_setNum ..
@[simp ↓] theorem bytes_bump (s : State) (k j n : Nat) : (s.bump k n).bytes j = if j = k then [] else s.bytes j := bytes_setNum ..
@[simp ↓] theorem num_bump64 (s : State) (k j n : Nat) : (s.bump64 k n).num j = if j = k then (s.num k + n) % 2 ^ 64 else s.num j := num_setNum ..
@[simp ↓] theorem reg_setReg (s : State) (o j v : Nat) : (s.setReg o v).reg j = if j = o then v % 2 ^ 32 else s.reg j := by
  simp only [State.reg, setReg_regs, tget_tset]
@[simp ↓] theorem reg_setBit (s : State) (o j b : Nat) : (s.setBit o b).reg j = if j = o then setFld (s.reg o) b b 1 % 2 ^ 32 else s.reg j := reg_setReg ..
@[simp ↓] theorem reg_rcAdd (s : State) (o j hi lo n : Nat) :
    (s.rcAdd o hi lo n).reg j = if j = o then setFld (s.reg o) hi lo (satAdd (hi + 1 - lo) (fld (s.reg o) hi lo) n) % 2 ^ 32 else s.reg j := reg_setReg ..
@[simp ↓] theorem byte_setByte (s : State) (a j : Nat) (b : Byte) : (s.setByte a b).byte j = if j = a then b else s.byte j := by
  simp only [State.byte, setByte_mem, tget_tset]

/-! ### Views of what an update leaves alone -/

@[simp ↓] theorem reg_setObj (s : State) (k : Nat) (v : Val) (j_ : Nat) : (s.setObj k v).reg j_ = s.reg j_ := rfl
@[simp ↓] theorem byte_setObj (s : State) (k : Nat) (v : Val) (j_ : Nat) : (s.setObj k v).byte j_ = s.byte j_ := rfl
@[simp ↓] theorem now_setObj (s : State) (k : Nat) (v : Val) : (s.setObj k v).now = s.now := rfl
@[simp ↓] theorem obj_setReg (s : State) (off v : Nat) (j_ : Nat) : (s.setReg off v).obj j_ = s.obj j_ := rfl
@[simp ↓] theorem num_setReg (s : State) (off v : Nat) (j_ : Nat) : (s.setReg off v).num j_ = s.num j_ := rfl
@[simp ↓] theorem int_setReg (s : State) (off v : Nat) (j_ : Nat) : (s.setReg off v).int j_ = s.int j_ := rfl
@[simp ↓] theorem flag_setReg (s : State) (off v : Nat) (j_ : Nat) : (s.setReg off v).flag j_ = s.flag j_ := rfl
@[simp ↓] theorem bytes_setReg (s : State) (off v : Nat) (j_ : Nat) : (s.setReg off v).bytes j_ = s.bytes j_ := rfl
@[simp ↓] theorem byte_setReg (s : State) (off v : Nat) (j_ : Nat) : (s.setReg off v).byte j_ = s.byte j_ := rfl
@[simp ↓] theorem now_setReg (s : State) (off v : Nat) : (s.setReg off v).now = s.now := rfl
@[simp ↓] theorem obj_setByte (s : State) (a : Nat) (b : Byte) (j_ : Nat) : (s.setByte a b).obj j_ = s.obj j_ := rfl
@[simp ↓] theorem num_setByte (s : State) (a : Nat) (b : Byte) (j_ : Nat) : (s.setByte a b).num j_ = s.num j_ := rfl
@[simp ↓] theorem int_setByte (s : State) (a : Nat) (b : Byte) (j_ : Nat) : (s.setByte a b).int j_ = s.int j_ := rfl
@[simp ↓] theorem flag_setByte (s : State) (a : Nat) (b : Byte) (j_ : Nat) : (s.setByte a b).flag j_ = s.flag j_ := rfl
@[simp ↓] theorem bytes_setByte (s : State) (a : Nat) (b : Byte) (j_ : Nat) : (s.setByte a b).bytes j_ = s.bytes j_ := rfl
@[simp ↓] theorem reg_setByte (s : State) (a : Nat) (b : Byte) (j_ : Nat) : (s.setByte a b).reg j_ = s.reg j_ := rfl
@[simp ↓] theorem now_setByte (s : State) (a : Nat) (b : Byte) : (s.setByte a b).now = s.now := rfl
@[simp ↓] theorem obj_emit (s : State) (e : Emission) (j_ : Nat) : (s.emit e).obj j_ = s.obj j_ := rfl
@[simp ↓] theorem num_emit (s : State) (e : Emission) (j_ : Nat) : (s.emit e).num j_ = s.num j_ := rfl
@[simp ↓] theorem int_emit (s : State) (e : Emission) (j_ : Nat) : (s.emit e).int j_ = s.int j_ := rfl
@[simp ↓] theorem flag_emit (s : State) (e : Emission) (j_ : Nat) : (s.emit e).flag j_ = s.flag j_ := rfl
@[simp ↓] theorem bytes_emit (s : State) (e : Emission) (j_ : Nat) : (s.emit e).bytes j_ = s.bytes j_ := rfl
@[simp ↓] theorem reg_emit (s : State) (e : Emission) (j_ : Nat) : (s.emit e).reg j_ = s.reg j_ := rfl
@[simp ↓] theorem byte_emit (s : State) (e : Emission) (j_ : Nat) : (s.emit e).byte j_ = s.byte j_ := rfl
@[simp ↓] theorem now_emit (s : State) (e : Emission) : (s.emit e).now = s.now := rfl
@[simp ↓] theorem obj_setSess (s : State) (i : Nat) (v : Session) (j_ : Nat) : (s.setSess i v).obj j_ = s.obj j_ := rfl
@[simp ↓] theorem num_setSess (s : State) (i : Nat) (v : Session) (j_ : Nat) : (s.setSess i v).num j_ = s.num j_ := rfl
@[simp ↓] theorem int_setSess (s : State) (i : Nat) (v : Session) (j_ : Nat) : (s.setSess i v).int j_ = s.int j_ := rfl
@[simp ↓] theorem flag_setSess (s : State) (i : Nat) (v : Session) (j_ : Nat) : (s.setSess i v).flag j_ = s.flag j_ := rfl
@[simp ↓] theorem bytes_setSess (s : State) (i : Nat) (v : Session) (j_ : Nat) : (s.setSess i v).bytes j_ = s.bytes j_ := rfl
@[simp ↓] theorem reg_setSess (s : State) (i : Nat) (v : Session) (j_ : Nat) : (s.setSess i v).reg j_ = s.reg j_ := rfl
@[simp ↓] theorem byte_setSess (s : State) (i : Nat) (v : Session) (j_ : Nat) : (s.setSess i v).byte j_ = s.byte j_ := rfl
@[simp ↓] theorem now_setSess (s : State) (i : Nat) (v : Session) : (s.setSess i v).now = s.now := rfl
@[simp ↓] theorem obj_setHif (s : State) (h : HifSt) (j_ : Nat) : (s.setHif h).obj j_ = s.obj j_ := rfl
@[simp ↓] theorem num_setHif (s : State) (h : HifSt) (j_ : Nat) : (s.setHif h).num j_ = s.num j_ := rfl
@[simp ↓] theorem int_setHif (s : State) (h : HifSt) (j_ : Nat) : (s.setHif h).int j_ = s.int j_ := rfl
@[simp ↓] theorem flag_setHif (s : State) (h : HifSt) (j_ : Nat) : (s.setHif h).flag j_ = s.flag j_ := rfl
@[simp ↓] theorem bytes_setHif (s : State) (h : HifSt) (j_ : Nat) : (s.setHif h).bytes j_ = s.bytes j_ := rfl
@[simp ↓] theorem reg_setHif (s : State) (h : HifSt) (j_ : Nat) : (s.setHif h).reg j_ = s.reg j_ := rfl
@[simp ↓] theorem byte_setHif (s : State) (h : HifSt) (j_ : Nat) : (s.setHif h).byte j_ = s.byte j_ := rfl
@[simp ↓] theorem now_setHif (s : State) (h : HifSt) : (s.setHif h).now = s.now := rfl
@[simp ↓] theorem obj_setSrc (s : State) (n : Nat) (v : SrcSt) (j_ : Nat) : (s.setSrc n v).obj j_ = s.obj j_ := rfl
@[simp ↓] theorem num_setSrc (s : State) (n : Nat) (v : SrcSt) (j_ : Nat) : (s.setSrc n v).num j_ = s.num j_ := rfl
@[simp ↓] theorem int_setSrc (s : State) (n : Nat) (v : SrcSt) (j_ : Nat) : (s.setSrc n v).int j_ = s.int j_ := rfl
@[simp ↓] theorem flag_setSrc (s : State) (n : Nat) (v : SrcSt) (j_ : Nat) : (s.setSrc n v).flag j_ = s.flag j_ := rfl
@[simp ↓] theorem bytes_setSrc (s : State) (n : Nat) (v : SrcSt) (j_ : Nat) : (s.setSrc n v).bytes j_ = s.bytes j_ := rfl
@[simp ↓] theorem reg_setSrc (s : State) (n : Nat) (v : SrcSt) (j_ : Nat) : (s.setSrc n v).reg j_ = s.reg j_ := rfl
@[simp ↓] theorem byte_setSrc (s : State) (n : Nat) (v : SrcSt) (j_ : Nat) : (s.setSrc n v).byte j_ = s.byte j_ := rfl
@[simp ↓] theorem now_setSrc (s : State) (n : Nat) (v : SrcSt) : (s.setSrc n v).now = s.now := rfl
@[simp ↓] theorem obj_setLane (s : State) (p : Nat) (l : SdiLane) (j_ : Nat) : (s.setLane p l).obj j_ = s.obj j_ := rfl
@[simp ↓] theorem num_setLane (s : State) (p : Nat) (l : SdiLane) (j_ : Nat) : (s.setLane p l).num j_ = s.num j_ := rfl
@[simp ↓] theorem int_setLane (s : State) (p : Nat) (l : SdiLane) (j_ : Nat) : (s.setLane p l).int j_ = s.int j_ := rfl
@[simp ↓] theorem flag_setLane (s : State) (p : Nat) (l : SdiLane) (j_ : Nat) : (s.setLane p l).flag j_ = s.flag j_ := rfl
@[simp ↓] theorem bytes_setLane (s : State) (p : Nat) (l : SdiLane) (j_ : Nat) : (s.setLane p l).bytes j_ = s.bytes j_ := rfl
@[simp ↓] theorem reg_setLane (s : State) (p : Nat) (l : SdiLane) (j_ : Nat) : (s.setLane p l).reg j_ = s.reg j_ := rfl
@[simp ↓] theorem byte_setLane (s : State) (p : Nat) (l : SdiLane) (j_ : Nat) : (s.setLane p l).byte j_ = s.byte j_ := rfl
@[simp ↓] theorem now_setLane (s : State) (p : Nat) (l : SdiLane) : (s.setLane p l).now = s.now := rfl
@[simp ↓] theorem obj_setSlot (s : State) (n : Nat) (v : SlotSt) (j_ : Nat) : (s.setSlot n v).obj j_ = s.obj j_ := rfl
@[simp ↓] theorem num_setSlot (s : State) (n : Nat) (v : SlotSt) (j_ : Nat) : (s.setSlot n v).num j_ = s.num j_ := rfl
@[simp ↓] theorem int_setSlot (s : State) (n : Nat) (v : SlotSt) (j_ : Nat) : (s.setSlot n v).int j_ = s.int j_ := rfl
@[simp ↓] theorem flag_setSlot (s : State) (n : Nat) (v : SlotSt) (j_ : Nat) : (s.setSlot n v).flag j_ = s.flag j_ := rfl
@[simp ↓] theorem bytes_setSlot (s : State) (n : Nat) (v : SlotSt) (j_ : Nat) : (s.setSlot n v).bytes j_ = s.bytes j_ := rfl
@[simp ↓] theorem reg_setSlot (s : State) (n : Nat) (v : SlotSt) (j_ : Nat) : (s.setSlot n v).reg j_ = s.reg j_ := rfl
@[simp ↓] theorem byte_setSlot (s : State) (n : Nat) (v : SlotSt) (j_ : Nat) : (s.setSlot n v).byte j_ = s.byte j_ := rfl
@[simp ↓] theorem now_setSlot (s : State) (n : Nat) (v : SlotSt) : (s.setSlot n v).now = s.now := rfl
@[simp ↓] theorem obj_setMember (s : State) (n sub : Nat) (v : Member) (j_ : Nat) : (s.setMember n sub v).obj j_ = s.obj j_ := rfl
@[simp ↓] theorem num_setMember (s : State) (n sub : Nat) (v : Member) (j_ : Nat) : (s.setMember n sub v).num j_ = s.num j_ := rfl
@[simp ↓] theorem int_setMember (s : State) (n sub : Nat) (v : Member) (j_ : Nat) : (s.setMember n sub v).int j_ = s.int j_ := rfl
@[simp ↓] theorem flag_setMember (s : State) (n sub : Nat) (v : Member) (j_ : Nat) : (s.setMember n sub v).flag j_ = s.flag j_ := rfl
@[simp ↓] theorem bytes_setMember (s : State) (n sub : Nat) (v : Member) (j_ : Nat) : (s.setMember n sub v).bytes j_ = s.bytes j_ := rfl
@[simp ↓] theorem reg_setMember (s : State) (n sub : Nat) (v : Member) (j_ : Nat) : (s.setMember n sub v).reg j_ = s.reg j_ := rfl
@[simp ↓] theorem byte_setMember (s : State) (n sub : Nat) (v : Member) (j_ : Nat) : (s.setMember n sub v).byte j_ = s.byte j_ := rfl
@[simp ↓] theorem now_setMember (s : State) (n sub : Nat) (v : Member) : (s.setMember n sub v).now = s.now := rfl
@[simp ↓] theorem obj_setOut (s : State) (o : Nat) (v : OutSt) (j_ : Nat) : (s.setOut o v).obj j_ = s.obj j_ := rfl
@[simp ↓] theorem num_setOut (s : State) (o : Nat) (v : OutSt) (j_ : Nat) : (s.setOut o v).num j_ = s.num j_ := rfl
@[simp ↓] theorem int_setOut (s : State) (o : Nat) (v : OutSt) (j_ : Nat) : (s.setOut o v).int j_ = s.int j_ := rfl
@[simp ↓] theorem flag_setOut (s : State) (o : Nat) (v : OutSt) (j_ : Nat) : (s.setOut o v).flag j_ = s.flag j_ := rfl
@[simp ↓] theorem bytes_setOut (s : State) (o : Nat) (v : OutSt) (j_ : Nat) : (s.setOut o v).bytes j_ = s.bytes j_ := rfl
@[simp ↓] theorem reg_setOut (s : State) (o : Nat) (v : OutSt) (j_ : Nat) : (s.setOut o v).reg j_ = s.reg j_ := rfl
@[simp ↓] theorem byte_setOut (s : State) (o : Nat) (v : OutSt) (j_ : Nat) : (s.setOut o v).byte j_ = s.byte j_ := rfl
@[simp ↓] theorem now_setOut (s : State) (o : Nat) (v : OutSt) : (s.setOut o v).now = s.now := rfl
@[simp ↓] theorem obj_setChan (s : State) (k : Nat) (c : Chan) (j_ : Nat) : (s.setChan k c).obj j_ = s.obj j_ := rfl
@[simp ↓] theorem num_setChan (s : State) (k : Nat) (c : Chan) (j_ : Nat) : (s.setChan k c).num j_ = s.num j_ := rfl
@[simp ↓] theorem int_setChan (s : State) (k : Nat) (c : Chan) (j_ : Nat) : (s.setChan k c).int j_ = s.int j_ := rfl
@[simp ↓] theorem flag_setChan (s : State) (k : Nat) (c : Chan) (j_ : Nat) : (s.setChan k c).flag j_ = s.flag j_ := rfl
@[simp ↓] theorem bytes_setChan (s : State) (k : Nat) (c : Chan) (j_ : Nat) : (s.setChan k c).bytes j_ = s.bytes j_ := rfl
@[simp ↓] theorem reg_setChan (s : State) (k : Nat) (c : Chan) (j_ : Nat) : (s.setChan k c).reg j_ = s.reg j_ := rfl
@[simp ↓] theorem byte_setChan (s : State) (k : Nat) (c : Chan) (j_ : Nat) : (s.setChan k c).byte j_ = s.byte j_ := rfl
@[simp ↓] theorem now_setChan (s : State) (k : Nat) (c : Chan) : (s.setChan k c).now = s.now := rfl
@[simp ↓] theorem obj_setDrop (s : State) (n : Nat) (v : Bool) (j_ : Nat) : (s.setDrop n v).obj j_ = s.obj j_ := rfl
@[simp ↓] theorem num_setDrop (s : State) (n : Nat) (v : Bool) (j_ : Nat) : (s.setDrop n v).num j_ = s.num j_ := rfl
@[simp ↓] theorem int_setDrop (s : State) (n : Nat) (v : Bool) (j_ : Nat) : (s.setDrop n v).int j_ = s.int j_ := rfl
@[simp ↓] theorem flag_setDrop (s : State) (n : Nat) (v : Bool) (j_ : Nat) : (s.setDrop n v).flag j_ = s.flag j_ := rfl
@[simp ↓] theorem bytes_setDrop (s : State) (n : Nat) (v : Bool) (j_ : Nat) : (s.setDrop n v).bytes j_ = s.bytes j_ := rfl
@[simp ↓] theorem reg_setDrop (s : State) (n : Nat) (v : Bool) (j_ : Nat) : (s.setDrop n v).reg j_ = s.reg j_ := rfl
@[simp ↓] theorem byte_setDrop (s : State) (n : Nat) (v : Bool) (j_ : Nat) : (s.setDrop n v).byte j_ = s.byte j_ := rfl
@[simp ↓] theorem now_setDrop (s : State) (n : Nat) (v : Bool) : (s.setDrop n v).now = s.now := rfl
@[simp ↓] theorem obj_setBatches (s : State) (l : List Batch) (j_ : Nat) : (s.setBatches l).obj j_ = s.obj j_ := rfl
@[simp ↓] theorem num_setBatches (s : State) (l : List Batch) (j_ : Nat) : (s.setBatches l).num j_ = s.num j_ := rfl
@[simp ↓] theorem int_setBatches (s : State) (l : List Batch) (j_ : Nat) : (s.setBatches l).int j_ = s.int j_ := rfl
@[simp ↓] theorem flag_setBatches (s : State) (l : List Batch) (j_ : Nat) : (s.setBatches l).flag j_ = s.flag j_ := rfl
@[simp ↓] theorem bytes_setBatches (s : State) (l : List Batch) (j_ : Nat) : (s.setBatches l).bytes j_ = s.bytes j_ := rfl
@[simp ↓] theorem reg_setBatches (s : State) (l : List Batch) (j_ : Nat) : (s.setBatches l).reg j_ = s.reg j_ := rfl
@[simp ↓] theorem byte_setBatches (s : State) (l : List Batch) (j_ : Nat) : (s.setBatches l).byte j_ = s.byte j_ := rfl
@[simp ↓] theorem now_setBatches (s : State) (l : List Batch) : (s.setBatches l).now = s.now := rfl
@[simp ↓] theorem obj_setAes (s : State) (n : Nat) (v : AesIn) (j_ : Nat) : (s.setAes n v).obj j_ = s.obj j_ := rfl
@[simp ↓] theorem num_setAes (s : State) (n : Nat) (v : AesIn) (j_ : Nat) : (s.setAes n v).num j_ = s.num j_ := rfl
@[simp ↓] theorem int_setAes (s : State) (n : Nat) (v : AesIn) (j_ : Nat) : (s.setAes n v).int j_ = s.int j_ := rfl
@[simp ↓] theorem flag_setAes (s : State) (n : Nat) (v : AesIn) (j_ : Nat) : (s.setAes n v).flag j_ = s.flag j_ := rfl
@[simp ↓] theorem bytes_setAes (s : State) (n : Nat) (v : AesIn) (j_ : Nat) : (s.setAes n v).bytes j_ = s.bytes j_ := rfl
@[simp ↓] theorem reg_setAes (s : State) (n : Nat) (v : AesIn) (j_ : Nat) : (s.setAes n v).reg j_ = s.reg j_ := rfl
@[simp ↓] theorem byte_setAes (s : State) (n : Nat) (v : AesIn) (j_ : Nat) : (s.setAes n v).byte j_ = s.byte j_ := rfl
@[simp ↓] theorem now_setAes (s : State) (n : Nat) (v : AesIn) : (s.setAes n v).now = s.now := rfl
@[simp ↓] theorem obj_setTdm (s : State) (n : Nat) (v : TdmPort) (j_ : Nat) : (s.setTdm n v).obj j_ = s.obj j_ := rfl
@[simp ↓] theorem num_setTdm (s : State) (n : Nat) (v : TdmPort) (j_ : Nat) : (s.setTdm n v).num j_ = s.num j_ := rfl
@[simp ↓] theorem int_setTdm (s : State) (n : Nat) (v : TdmPort) (j_ : Nat) : (s.setTdm n v).int j_ = s.int j_ := rfl
@[simp ↓] theorem flag_setTdm (s : State) (n : Nat) (v : TdmPort) (j_ : Nat) : (s.setTdm n v).flag j_ = s.flag j_ := rfl
@[simp ↓] theorem bytes_setTdm (s : State) (n : Nat) (v : TdmPort) (j_ : Nat) : (s.setTdm n v).bytes j_ = s.bytes j_ := rfl
@[simp ↓] theorem reg_setTdm (s : State) (n : Nat) (v : TdmPort) (j_ : Nat) : (s.setTdm n v).reg j_ = s.reg j_ := rfl
@[simp ↓] theorem byte_setTdm (s : State) (n : Nat) (v : TdmPort) (j_ : Nat) : (s.setTdm n v).byte j_ = s.byte j_ := rfl
@[simp ↓] theorem now_setTdm (s : State) (n : Nat) (v : TdmPort) : (s.setTdm n v).now = s.now := rfl
@[simp ↓] theorem obj_setPdest (s : State) (d : Nat) (v : PortDest) (j_ : Nat) : (s.setPdest d v).obj j_ = s.obj j_ := rfl
@[simp ↓] theorem num_setPdest (s : State) (d : Nat) (v : PortDest) (j_ : Nat) : (s.setPdest d v).num j_ = s.num j_ := rfl
@[simp ↓] theorem int_setPdest (s : State) (d : Nat) (v : PortDest) (j_ : Nat) : (s.setPdest d v).int j_ = s.int j_ := rfl
@[simp ↓] theorem flag_setPdest (s : State) (d : Nat) (v : PortDest) (j_ : Nat) : (s.setPdest d v).flag j_ = s.flag j_ := rfl
@[simp ↓] theorem bytes_setPdest (s : State) (d : Nat) (v : PortDest) (j_ : Nat) : (s.setPdest d v).bytes j_ = s.bytes j_ := rfl
@[simp ↓] theorem reg_setPdest (s : State) (d : Nat) (v : PortDest) (j_ : Nat) : (s.setPdest d v).reg j_ = s.reg j_ := rfl
@[simp ↓] theorem byte_setPdest (s : State) (d : Nat) (v : PortDest) (j_ : Nat) : (s.setPdest d v).byte j_ = s.byte j_ := rfl
@[simp ↓] theorem now_setPdest (s : State) (d : Nat) (v : PortDest) : (s.setPdest d v).now = s.now := rfl
@[simp ↓] theorem obj_setEng (s : State) (e : Nat) (r : EngRun) (j_ : Nat) : (s.setEng e r).obj j_ = s.obj j_ := rfl
@[simp ↓] theorem num_setEng (s : State) (e : Nat) (r : EngRun) (j_ : Nat) : (s.setEng e r).num j_ = s.num j_ := rfl
@[simp ↓] theorem int_setEng (s : State) (e : Nat) (r : EngRun) (j_ : Nat) : (s.setEng e r).int j_ = s.int j_ := rfl
@[simp ↓] theorem flag_setEng (s : State) (e : Nat) (r : EngRun) (j_ : Nat) : (s.setEng e r).flag j_ = s.flag j_ := rfl
@[simp ↓] theorem bytes_setEng (s : State) (e : Nat) (r : EngRun) (j_ : Nat) : (s.setEng e r).bytes j_ = s.bytes j_ := rfl
@[simp ↓] theorem reg_setEng (s : State) (e : Nat) (r : EngRun) (j_ : Nat) : (s.setEng e r).reg j_ = s.reg j_ := rfl
@[simp ↓] theorem byte_setEng (s : State) (e : Nat) (r : EngRun) (j_ : Nat) : (s.setEng e r).byte j_ = s.byte j_ := rfl
@[simp ↓] theorem now_setEng (s : State) (e : Nat) (r : EngRun) : (s.setEng e r).now = s.now := rfl
@[simp ↓] theorem obj_setPac (s : State) (p : PacSt) (j_ : Nat) : (s.setPac p).obj j_ = s.obj j_ := rfl
@[simp ↓] theorem num_setPac (s : State) (p : PacSt) (j_ : Nat) : (s.setPac p).num j_ = s.num j_ := rfl
@[simp ↓] theorem int_setPac (s : State) (p : PacSt) (j_ : Nat) : (s.setPac p).int j_ = s.int j_ := rfl
@[simp ↓] theorem flag_setPac (s : State) (p : PacSt) (j_ : Nat) : (s.setPac p).flag j_ = s.flag j_ := rfl
@[simp ↓] theorem bytes_setPac (s : State) (p : PacSt) (j_ : Nat) : (s.setPac p).bytes j_ = s.bytes j_ := rfl
@[simp ↓] theorem reg_setPac (s : State) (p : PacSt) (j_ : Nat) : (s.setPac p).reg j_ = s.reg j_ := rfl
@[simp ↓] theorem byte_setPac (s : State) (p : PacSt) (j_ : Nat) : (s.setPac p).byte j_ = s.byte j_ := rfl
@[simp ↓] theorem now_setPac (s : State) (p : PacSt) : (s.setPac p).now = s.now := rfl
@[simp ↓] theorem obj_setRef (s : State) (r : Nat) (v : RefSt) (j_ : Nat) : (s.setRef r v).obj j_ = s.obj j_ := rfl
@[simp ↓] theorem num_setRef (s : State) (r : Nat) (v : RefSt) (j_ : Nat) : (s.setRef r v).num j_ = s.num j_ := rfl
@[simp ↓] theorem int_setRef (s : State) (r : Nat) (v : RefSt) (j_ : Nat) : (s.setRef r v).int j_ = s.int j_ := rfl
@[simp ↓] theorem flag_setRef (s : State) (r : Nat) (v : RefSt) (j_ : Nat) : (s.setRef r v).flag j_ = s.flag j_ := rfl
@[simp ↓] theorem bytes_setRef (s : State) (r : Nat) (v : RefSt) (j_ : Nat) : (s.setRef r v).bytes j_ = s.bytes j_ := rfl
@[simp ↓] theorem reg_setRef (s : State) (r : Nat) (v : RefSt) (j_ : Nat) : (s.setRef r v).reg j_ = s.reg j_ := rfl
@[simp ↓] theorem byte_setRef (s : State) (r : Nat) (v : RefSt) (j_ : Nat) : (s.setRef r v).byte j_ = s.byte j_ := rfl
@[simp ↓] theorem now_setRef (s : State) (r : Nat) (v : RefSt) : (s.setRef r v).now = s.now := rfl
@[simp ↓] theorem obj_setPtp (s : State) (i : Nat) (v : PtpSt) (j_ : Nat) : (s.setPtp i v).obj j_ = s.obj j_ := rfl
@[simp ↓] theorem num_setPtp (s : State) (i : Nat) (v : PtpSt) (j_ : Nat) : (s.setPtp i v).num j_ = s.num j_ := rfl
@[simp ↓] theorem int_setPtp (s : State) (i : Nat) (v : PtpSt) (j_ : Nat) : (s.setPtp i v).int j_ = s.int j_ := rfl
@[simp ↓] theorem flag_setPtp (s : State) (i : Nat) (v : PtpSt) (j_ : Nat) : (s.setPtp i v).flag j_ = s.flag j_ := rfl
@[simp ↓] theorem bytes_setPtp (s : State) (i : Nat) (v : PtpSt) (j_ : Nat) : (s.setPtp i v).bytes j_ = s.bytes j_ := rfl
@[simp ↓] theorem reg_setPtp (s : State) (i : Nat) (v : PtpSt) (j_ : Nat) : (s.setPtp i v).reg j_ = s.reg j_ := rfl
@[simp ↓] theorem byte_setPtp (s : State) (i : Nat) (v : PtpSt) (j_ : Nat) : (s.setPtp i v).byte j_ = s.byte j_ := rfl
@[simp ↓] theorem now_setPtp (s : State) (i : Nat) (v : PtpSt) : (s.setPtp i v).now = s.now := rfl
@[simp ↓] theorem obj_setEth (s : State) (p : Nat) (v : EthPort) (j_ : Nat) : (s.setEth p v).obj j_ = s.obj j_ := rfl
@[simp ↓] theorem num_setEth (s : State) (p : Nat) (v : EthPort) (j_ : Nat) : (s.setEth p v).num j_ = s.num j_ := rfl
@[simp ↓] theorem int_setEth (s : State) (p : Nat) (v : EthPort) (j_ : Nat) : (s.setEth p v).int j_ = s.int j_ := rfl
@[simp ↓] theorem flag_setEth (s : State) (p : Nat) (v : EthPort) (j_ : Nat) : (s.setEth p v).flag j_ = s.flag j_ := rfl
@[simp ↓] theorem bytes_setEth (s : State) (p : Nat) (v : EthPort) (j_ : Nat) : (s.setEth p v).bytes j_ = s.bytes j_ := rfl
@[simp ↓] theorem reg_setEth (s : State) (p : Nat) (v : EthPort) (j_ : Nat) : (s.setEth p v).reg j_ = s.reg j_ := rfl
@[simp ↓] theorem byte_setEth (s : State) (p : Nat) (v : EthPort) (j_ : Nat) : (s.setEth p v).byte j_ = s.byte j_ := rfl
@[simp ↓] theorem now_setEth (s : State) (p : Nat) (v : EthPort) : (s.setEth p v).now = s.now := rfl
@[simp ↓] theorem obj_setRx (s : State) (r : Nat) (v : RxCtx) (j_ : Nat) : (s.setRx r v).obj j_ = s.obj j_ := rfl
@[simp ↓] theorem num_setRx (s : State) (r : Nat) (v : RxCtx) (j_ : Nat) : (s.setRx r v).num j_ = s.num j_ := rfl
@[simp ↓] theorem int_setRx (s : State) (r : Nat) (v : RxCtx) (j_ : Nat) : (s.setRx r v).int j_ = s.int j_ := rfl
@[simp ↓] theorem flag_setRx (s : State) (r : Nat) (v : RxCtx) (j_ : Nat) : (s.setRx r v).flag j_ = s.flag j_ := rfl
@[simp ↓] theorem bytes_setRx (s : State) (r : Nat) (v : RxCtx) (j_ : Nat) : (s.setRx r v).bytes j_ = s.bytes j_ := rfl
@[simp ↓] theorem reg_setRx (s : State) (r : Nat) (v : RxCtx) (j_ : Nat) : (s.setRx r v).reg j_ = s.reg j_ := rfl
@[simp ↓] theorem byte_setRx (s : State) (r : Nat) (v : RxCtx) (j_ : Nat) : (s.setRx r v).byte j_ = s.byte j_ := rfl
@[simp ↓] theorem now_setRx (s : State) (r : Nat) (v : RxCtx) : (s.setRx r v).now = s.now := rfl
@[simp ↓] theorem obj_setTx (s : State) (c : Nat) (v : TxCtx) (j_ : Nat) : (s.setTx c v).obj j_ = s.obj j_ := rfl
@[simp ↓] theorem num_setTx (s : State) (c : Nat) (v : TxCtx) (j_ : Nat) : (s.setTx c v).num j_ = s.num j_ := rfl
@[simp ↓] theorem int_setTx (s : State) (c : Nat) (v : TxCtx) (j_ : Nat) : (s.setTx c v).int j_ = s.int j_ := rfl
@[simp ↓] theorem flag_setTx (s : State) (c : Nat) (v : TxCtx) (j_ : Nat) : (s.setTx c v).flag j_ = s.flag j_ := rfl
@[simp ↓] theorem bytes_setTx (s : State) (c : Nat) (v : TxCtx) (j_ : Nat) : (s.setTx c v).bytes j_ = s.bytes j_ := rfl
@[simp ↓] theorem reg_setTx (s : State) (c : Nat) (v : TxCtx) (j_ : Nat) : (s.setTx c v).reg j_ = s.reg j_ := rfl
@[simp ↓] theorem byte_setTx (s : State) (c : Nat) (v : TxCtx) (j_ : Nat) : (s.setTx c v).byte j_ = s.byte j_ := rfl
@[simp ↓] theorem now_setTx (s : State) (c : Nat) (v : TxCtx) : (s.setTx c v).now = s.now := rfl
@[simp ↓] theorem obj_setFl (s : State) (f : Nat) (l : FabLane) (j_ : Nat) : (s.setFl f l).obj j_ = s.obj j_ := rfl
@[simp ↓] theorem num_setFl (s : State) (f : Nat) (l : FabLane) (j_ : Nat) : (s.setFl f l).num j_ = s.num j_ := rfl
@[simp ↓] theorem int_setFl (s : State) (f : Nat) (l : FabLane) (j_ : Nat) : (s.setFl f l).int j_ = s.int j_ := rfl
@[simp ↓] theorem flag_setFl (s : State) (f : Nat) (l : FabLane) (j_ : Nat) : (s.setFl f l).flag j_ = s.flag j_ := rfl
@[simp ↓] theorem bytes_setFl (s : State) (f : Nat) (l : FabLane) (j_ : Nat) : (s.setFl f l).bytes j_ = s.bytes j_ := rfl
@[simp ↓] theorem reg_setFl (s : State) (f : Nat) (l : FabLane) (j_ : Nat) : (s.setFl f l).reg j_ = s.reg j_ := rfl
@[simp ↓] theorem byte_setFl (s : State) (f : Nat) (l : FabLane) (j_ : Nat) : (s.setFl f l).byte j_ = s.byte j_ := rfl
@[simp ↓] theorem now_setFl (s : State) (f : Nat) (l : FabLane) : (s.setFl f l).now = s.now := rfl
@[simp ↓] theorem obj_setLink (s : State) (j : Nat) (l : FabLink) (j_ : Nat) : (s.setLink j l).obj j_ = s.obj j_ := rfl
@[simp ↓] theorem num_setLink (s : State) (j : Nat) (l : FabLink) (j_ : Nat) : (s.setLink j l).num j_ = s.num j_ := rfl
@[simp ↓] theorem int_setLink (s : State) (j : Nat) (l : FabLink) (j_ : Nat) : (s.setLink j l).int j_ = s.int j_ := rfl
@[simp ↓] theorem flag_setLink (s : State) (j : Nat) (l : FabLink) (j_ : Nat) : (s.setLink j l).flag j_ = s.flag j_ := rfl
@[simp ↓] theorem bytes_setLink (s : State) (j : Nat) (l : FabLink) (j_ : Nat) : (s.setLink j l).bytes j_ = s.bytes j_ := rfl
@[simp ↓] theorem reg_setLink (s : State) (j : Nat) (l : FabLink) (j_ : Nat) : (s.setLink j l).reg j_ = s.reg j_ := rfl
@[simp ↓] theorem byte_setLink (s : State) (j : Nat) (l : FabLink) (j_ : Nat) : (s.setLink j l).byte j_ = s.byte j_ := rfl
@[simp ↓] theorem now_setLink (s : State) (j : Nat) (l : FabLink) : (s.setLink j l).now = s.now := rfl
@[simp ↓] theorem obj_setHead (s : State) (h : Nat) (v : HeadSt) (j_ : Nat) : (s.setHead h v).obj j_ = s.obj j_ := rfl
@[simp ↓] theorem num_setHead (s : State) (h : Nat) (v : HeadSt) (j_ : Nat) : (s.setHead h v).num j_ = s.num j_ := rfl
@[simp ↓] theorem int_setHead (s : State) (h : Nat) (v : HeadSt) (j_ : Nat) : (s.setHead h v).int j_ = s.int j_ := rfl
@[simp ↓] theorem flag_setHead (s : State) (h : Nat) (v : HeadSt) (j_ : Nat) : (s.setHead h v).flag j_ = s.flag j_ := rfl
@[simp ↓] theorem bytes_setHead (s : State) (h : Nat) (v : HeadSt) (j_ : Nat) : (s.setHead h v).bytes j_ = s.bytes j_ := rfl
@[simp ↓] theorem reg_setHead (s : State) (h : Nat) (v : HeadSt) (j_ : Nat) : (s.setHead h v).reg j_ = s.reg j_ := rfl
@[simp ↓] theorem byte_setHead (s : State) (h : Nat) (v : HeadSt) (j_ : Nat) : (s.setHead h v).byte j_ = s.byte j_ := rfl
@[simp ↓] theorem now_setHead (s : State) (h : Nat) (v : HeadSt) : (s.setHead h v).now = s.now := rfl
@[simp ↓] theorem obj_setLay (s : State) (l : Nat) (v : LayerSt) (j_ : Nat) : (s.setLay l v).obj j_ = s.obj j_ := rfl
@[simp ↓] theorem num_setLay (s : State) (l : Nat) (v : LayerSt) (j_ : Nat) : (s.setLay l v).num j_ = s.num j_ := rfl
@[simp ↓] theorem int_setLay (s : State) (l : Nat) (v : LayerSt) (j_ : Nat) : (s.setLay l v).int j_ = s.int j_ := rfl
@[simp ↓] theorem flag_setLay (s : State) (l : Nat) (v : LayerSt) (j_ : Nat) : (s.setLay l v).flag j_ = s.flag j_ := rfl
@[simp ↓] theorem bytes_setLay (s : State) (l : Nat) (v : LayerSt) (j_ : Nat) : (s.setLay l v).bytes j_ = s.bytes j_ := rfl
@[simp ↓] theorem reg_setLay (s : State) (l : Nat) (v : LayerSt) (j_ : Nat) : (s.setLay l v).reg j_ = s.reg j_ := rfl
@[simp ↓] theorem byte_setLay (s : State) (l : Nat) (v : LayerSt) (j_ : Nat) : (s.setLay l v).byte j_ = s.byte j_ := rfl
@[simp ↓] theorem now_setLay (s : State) (l : Nat) (v : LayerSt) : (s.setLay l v).now = s.now := rfl
@[simp ↓] theorem obj_setTw (s : State) (t : TwinSt) (j_ : Nat) : (s.setTw t).obj j_ = s.obj j_ := rfl
@[simp ↓] theorem num_setTw (s : State) (t : TwinSt) (j_ : Nat) : (s.setTw t).num j_ = s.num j_ := rfl
@[simp ↓] theorem int_setTw (s : State) (t : TwinSt) (j_ : Nat) : (s.setTw t).int j_ = s.int j_ := rfl
@[simp ↓] theorem flag_setTw (s : State) (t : TwinSt) (j_ : Nat) : (s.setTw t).flag j_ = s.flag j_ := rfl
@[simp ↓] theorem bytes_setTw (s : State) (t : TwinSt) (j_ : Nat) : (s.setTw t).bytes j_ = s.bytes j_ := rfl
@[simp ↓] theorem reg_setTw (s : State) (t : TwinSt) (j_ : Nat) : (s.setTw t).reg j_ = s.reg j_ := rfl
@[simp ↓] theorem byte_setTw (s : State) (t : TwinSt) (j_ : Nat) : (s.setTw t).byte j_ = s.byte j_ := rfl
@[simp ↓] theorem now_setTw (s : State) (t : TwinSt) : (s.setTw t).now = s.now := rfl
@[simp ↓] theorem obj_setPwr (s : State) (p : PwrSt) (j_ : Nat) : (s.setPwr p).obj j_ = s.obj j_ := rfl
@[simp ↓] theorem num_setPwr (s : State) (p : PwrSt) (j_ : Nat) : (s.setPwr p).num j_ = s.num j_ := rfl
@[simp ↓] theorem int_setPwr (s : State) (p : PwrSt) (j_ : Nat) : (s.setPwr p).int j_ = s.int j_ := rfl
@[simp ↓] theorem flag_setPwr (s : State) (p : PwrSt) (j_ : Nat) : (s.setPwr p).flag j_ = s.flag j_ := rfl
@[simp ↓] theorem bytes_setPwr (s : State) (p : PwrSt) (j_ : Nat) : (s.setPwr p).bytes j_ = s.bytes j_ := rfl
@[simp ↓] theorem reg_setPwr (s : State) (p : PwrSt) (j_ : Nat) : (s.setPwr p).reg j_ = s.reg j_ := rfl
@[simp ↓] theorem byte_setPwr (s : State) (p : PwrSt) (j_ : Nat) : (s.setPwr p).byte j_ = s.byte j_ := rfl
@[simp ↓] theorem now_setPwr (s : State) (p : PwrSt) : (s.setPwr p).now = s.now := rfl
@[simp ↓] theorem obj_setQuiet (s : State) (p t : Nat) (j_ : Nat) : (s.setQuiet p t).obj j_ = s.obj j_ := rfl
@[simp ↓] theorem num_setQuiet (s : State) (p t : Nat) (j_ : Nat) : (s.setQuiet p t).num j_ = s.num j_ := rfl
@[simp ↓] theorem int_setQuiet (s : State) (p t : Nat) (j_ : Nat) : (s.setQuiet p t).int j_ = s.int j_ := rfl
@[simp ↓] theorem flag_setQuiet (s : State) (p t : Nat) (j_ : Nat) : (s.setQuiet p t).flag j_ = s.flag j_ := rfl
@[simp ↓] theorem bytes_setQuiet (s : State) (p t : Nat) (j_ : Nat) : (s.setQuiet p t).bytes j_ = s.bytes j_ := rfl
@[simp ↓] theorem reg_setQuiet (s : State) (p t : Nat) (j_ : Nat) : (s.setQuiet p t).reg j_ = s.reg j_ := rfl
@[simp ↓] theorem byte_setQuiet (s : State) (p t : Nat) (j_ : Nat) : (s.setQuiet p t).byte j_ = s.byte j_ := rfl
@[simp ↓] theorem now_setQuiet (s : State) (p t : Nat) : (s.setQuiet p t).now = s.now := rfl
@[simp ↓] theorem obj_setUpd (s : State) (u : UpdSt) (j_ : Nat) : (s.setUpd u).obj j_ = s.obj j_ := rfl
@[simp ↓] theorem num_setUpd (s : State) (u : UpdSt) (j_ : Nat) : (s.setUpd u).num j_ = s.num j_ := rfl
@[simp ↓] theorem int_setUpd (s : State) (u : UpdSt) (j_ : Nat) : (s.setUpd u).int j_ = s.int j_ := rfl
@[simp ↓] theorem flag_setUpd (s : State) (u : UpdSt) (j_ : Nat) : (s.setUpd u).flag j_ = s.flag j_ := rfl
@[simp ↓] theorem bytes_setUpd (s : State) (u : UpdSt) (j_ : Nat) : (s.setUpd u).bytes j_ = s.bytes j_ := rfl
@[simp ↓] theorem reg_setUpd (s : State) (u : UpdSt) (j_ : Nat) : (s.setUpd u).reg j_ = s.reg j_ := rfl
@[simp ↓] theorem byte_setUpd (s : State) (u : UpdSt) (j_ : Nat) : (s.setUpd u).byte j_ = s.byte j_ := rfl
@[simp ↓] theorem now_setUpd (s : State) (u : UpdSt) : (s.setUpd u).now = s.now := rfl
@[simp ↓] theorem reg_setNum (s : State) (k n : Nat) (j_ : Nat) : (s.setNum k n).reg j_ = s.reg j_ := rfl
@[simp ↓] theorem byte_setNum (s : State) (k n : Nat) (j_ : Nat) : (s.setNum k n).byte j_ = s.byte j_ := rfl
@[simp ↓] theorem now_setNum (s : State) (k n : Nat) : (s.setNum k n).now = s.now := rfl
@[simp ↓] theorem reg_setInt (s : State) (k : Nat) (n : Int) (j_ : Nat) : (s.setInt k n).reg j_ = s.reg j_ := rfl
@[simp ↓] theorem byte_setInt (s : State) (k : Nat) (n : Int) (j_ : Nat) : (s.setInt k n).byte j_ = s.byte j_ := rfl
@[simp ↓] theorem now_setInt (s : State) (k : Nat) (n : Int) : (s.setInt k n).now = s.now := rfl
@[simp ↓] theorem reg_setBytes (s : State) (k : Nat) (b : List Byte) (j_ : Nat) : (s.setBytes k b).reg j_ = s.reg j_ := rfl
@[simp ↓] theorem byte_setBytes (s : State) (k : Nat) (b : List Byte) (j_ : Nat) : (s.setBytes k b).byte j_ = s.byte j_ := rfl
@[simp ↓] theorem now_setBytes (s : State) (k : Nat) (b : List Byte) : (s.setBytes k b).now = s.now := rfl
@[simp ↓] theorem reg_bump (s : State) (k n : Nat) (j_ : Nat) : (s.bump k n).reg j_ = s.reg j_ := rfl
@[simp ↓] theorem byte_bump (s : State) (k n : Nat) (j_ : Nat) : (s.bump k n).byte j_ = s.byte j_ := rfl
@[simp ↓] theorem now_bump (s : State) (k n : Nat) : (s.bump k n).now = s.now := rfl
@[simp ↓] theorem reg_bump64 (s : State) (k n : Nat) (j_ : Nat) : (s.bump64 k n).reg j_ = s.reg j_ := rfl
@[simp ↓] theorem byte_bump64 (s : State) (k n : Nat) (j_ : Nat) : (s.bump64 k n).byte j_ = s.byte j_ := rfl
@[simp ↓] theorem now_bump64 (s : State) (k n : Nat) : (s.bump64 k n).now = s.now := rfl
@[simp ↓] theorem obj_setBit (s : State) (off b : Nat) (j_ : Nat) : (s.setBit off b).obj j_ = s.obj j_ := rfl
@[simp ↓] theorem num_setBit (s : State) (off b : Nat) (j_ : Nat) : (s.setBit off b).num j_ = s.num j_ := rfl
@[simp ↓] theorem int_setBit (s : State) (off b : Nat) (j_ : Nat) : (s.setBit off b).int j_ = s.int j_ := rfl
@[simp ↓] theorem flag_setBit (s : State) (off b : Nat) (j_ : Nat) : (s.setBit off b).flag j_ = s.flag j_ := rfl
@[simp ↓] theorem bytes_setBit (s : State) (off b : Nat) (j_ : Nat) : (s.setBit off b).bytes j_ = s.bytes j_ := rfl
@[simp ↓] theorem byte_setBit (s : State) (off b : Nat) (j_ : Nat) : (s.setBit off b).byte j_ = s.byte j_ := rfl
@[simp ↓] theorem now_setBit (s : State) (off b : Nat) : (s.setBit off b).now = s.now := rfl
@[simp ↓] theorem obj_rcAdd (s : State) (off hi lo n : Nat) (j_ : Nat) : (s.rcAdd off hi lo n).obj j_ = s.obj j_ := rfl
@[simp ↓] theorem num_rcAdd (s : State) (off hi lo n : Nat) (j_ : Nat) : (s.rcAdd off hi lo n).num j_ = s.num j_ := rfl
@[simp ↓] theorem int_rcAdd (s : State) (off hi lo n : Nat) (j_ : Nat) : (s.rcAdd off hi lo n).int j_ = s.int j_ := rfl
@[simp ↓] theorem flag_rcAdd (s : State) (off hi lo n : Nat) (j_ : Nat) : (s.rcAdd off hi lo n).flag j_ = s.flag j_ := rfl
@[simp ↓] theorem bytes_rcAdd (s : State) (off hi lo n : Nat) (j_ : Nat) : (s.rcAdd off hi lo n).bytes j_ = s.bytes j_ := rfl
@[simp ↓] theorem byte_rcAdd (s : State) (off hi lo n : Nat) (j_ : Nat) : (s.rcAdd off hi lo n).byte j_ = s.byte j_ := rfl
@[simp ↓] theorem now_rcAdd (s : State) (off hi lo n : Nat) : (s.rcAdd off hi lo n).now = s.now := rfl
@[simp ↓] theorem obj_setDch (s : State) (c : Nat) (v : DmaCh) (j_ : Nat) : (s.setDch c v).obj j_ = s.obj j_ := rfl
@[simp ↓] theorem num_setDch (s : State) (c : Nat) (v : DmaCh) (j_ : Nat) : (s.setDch c v).num j_ = s.num j_ := rfl
@[simp ↓] theorem int_setDch (s : State) (c : Nat) (v : DmaCh) (j_ : Nat) : (s.setDch c v).int j_ = s.int j_ := rfl
@[simp ↓] theorem flag_setDch (s : State) (c : Nat) (v : DmaCh) (j_ : Nat) : (s.setDch c v).flag j_ = s.flag j_ := rfl
@[simp ↓] theorem bytes_setDch (s : State) (c : Nat) (v : DmaCh) (j_ : Nat) : (s.setDch c v).bytes j_ = s.bytes j_ := rfl
@[simp ↓] theorem reg_setDch (s : State) (c : Nat) (v : DmaCh) (j_ : Nat) : (s.setDch c v).reg j_ = s.reg j_ := rfl
@[simp ↓] theorem byte_setDch (s : State) (c : Nat) (v : DmaCh) (j_ : Nat) : (s.setDch c v).byte j_ = s.byte j_ := rfl
@[simp ↓] theorem now_setDch (s : State) (c : Nat) (v : DmaCh) : (s.setDch c v).now = s.now := rfl
@[simp ↓] theorem obj_setRing (s : State) (r : Nat) (v : RingSt) (j_ : Nat) : (s.setRing r v).obj j_ = s.obj j_ := rfl
@[simp ↓] theorem num_setRing (s : State) (r : Nat) (v : RingSt) (j_ : Nat) : (s.setRing r v).num j_ = s.num j_ := rfl
@[simp ↓] theorem int_setRing (s : State) (r : Nat) (v : RingSt) (j_ : Nat) : (s.setRing r v).int j_ = s.int j_ := rfl
@[simp ↓] theorem flag_setRing (s : State) (r : Nat) (v : RingSt) (j_ : Nat) : (s.setRing r v).flag j_ = s.flag j_ := rfl
@[simp ↓] theorem bytes_setRing (s : State) (r : Nat) (v : RingSt) (j_ : Nat) : (s.setRing r v).bytes j_ = s.bytes j_ := rfl
@[simp ↓] theorem reg_setRing (s : State) (r : Nat) (v : RingSt) (j_ : Nat) : (s.setRing r v).reg j_ = s.reg j_ := rfl
@[simp ↓] theorem byte_setRing (s : State) (r : Nat) (v : RingSt) (j_ : Nat) : (s.setRing r v).byte j_ = s.byte j_ := rfl
@[simp ↓] theorem now_setRing (s : State) (r : Nat) (v : RingSt) : (s.setRing r v).now = s.now := rfl
@[simp ↓] theorem obj_setKey (s : State) (n : Nat) (k : KeySlot) (j_ : Nat) : (s.setKey n k).obj j_ = s.obj j_ := rfl
@[simp ↓] theorem num_setKey (s : State) (n : Nat) (k : KeySlot) (j_ : Nat) : (s.setKey n k).num j_ = s.num j_ := rfl
@[simp ↓] theorem int_setKey (s : State) (n : Nat) (k : KeySlot) (j_ : Nat) : (s.setKey n k).int j_ = s.int j_ := rfl
@[simp ↓] theorem flag_setKey (s : State) (n : Nat) (k : KeySlot) (j_ : Nat) : (s.setKey n k).flag j_ = s.flag j_ := rfl
@[simp ↓] theorem bytes_setKey (s : State) (n : Nat) (k : KeySlot) (j_ : Nat) : (s.setKey n k).bytes j_ = s.bytes j_ := rfl
@[simp ↓] theorem reg_setKey (s : State) (n : Nat) (k : KeySlot) (j_ : Nat) : (s.setKey n k).reg j_ = s.reg j_ := rfl
@[simp ↓] theorem byte_setKey (s : State) (n : Nat) (k : KeySlot) (j_ : Nat) : (s.setKey n k).byte j_ = s.byte j_ := rfl
@[simp ↓] theorem now_setKey (s : State) (n : Nat) (k : KeySlot) : (s.setKey n k).now = s.now := rfl
@[simp ↓] theorem obj_setImg (s : State) (k : Nat) (v : ImgSlot) (j_ : Nat) : (s.setImg k v).obj j_ = s.obj j_ := rfl
@[simp ↓] theorem num_setImg (s : State) (k : Nat) (v : ImgSlot) (j_ : Nat) : (s.setImg k v).num j_ = s.num j_ := rfl
@[simp ↓] theorem int_setImg (s : State) (k : Nat) (v : ImgSlot) (j_ : Nat) : (s.setImg k v).int j_ = s.int j_ := rfl
@[simp ↓] theorem flag_setImg (s : State) (k : Nat) (v : ImgSlot) (j_ : Nat) : (s.setImg k v).flag j_ = s.flag j_ := rfl
@[simp ↓] theorem bytes_setImg (s : State) (k : Nat) (v : ImgSlot) (j_ : Nat) : (s.setImg k v).bytes j_ = s.bytes j_ := rfl
@[simp ↓] theorem reg_setImg (s : State) (k : Nat) (v : ImgSlot) (j_ : Nat) : (s.setImg k v).reg j_ = s.reg j_ := rfl
@[simp ↓] theorem byte_setImg (s : State) (k : Nat) (v : ImgSlot) (j_ : Nat) : (s.setImg k v).byte j_ = s.byte j_ := rfl
@[simp ↓] theorem now_setImg (s : State) (k : Nat) (v : ImgSlot) : (s.setImg k v).now = s.now := rfl
@[simp ↓] theorem obj_setBank (s : State) (k : Nat) (b : Bank) (j_ : Nat) : (s.setBank k b).obj j_ = s.obj j_ := rfl
@[simp ↓] theorem num_setBank (s : State) (k : Nat) (b : Bank) (j_ : Nat) : (s.setBank k b).num j_ = s.num j_ := rfl
@[simp ↓] theorem int_setBank (s : State) (k : Nat) (b : Bank) (j_ : Nat) : (s.setBank k b).int j_ = s.int j_ := rfl
@[simp ↓] theorem flag_setBank (s : State) (k : Nat) (b : Bank) (j_ : Nat) : (s.setBank k b).flag j_ = s.flag j_ := rfl
@[simp ↓] theorem bytes_setBank (s : State) (k : Nat) (b : Bank) (j_ : Nat) : (s.setBank k b).bytes j_ = s.bytes j_ := rfl
@[simp ↓] theorem reg_setBank (s : State) (k : Nat) (b : Bank) (j_ : Nat) : (s.setBank k b).reg j_ = s.reg j_ := rfl
@[simp ↓] theorem byte_setBank (s : State) (k : Nat) (b : Bank) (j_ : Nat) : (s.setBank k b).byte j_ = s.byte j_ := rfl
@[simp ↓] theorem now_setBank (s : State) (k : Nat) (b : Bank) : (s.setBank k b).now = s.now := rfl
@[simp ↓] theorem obj_setUst (s : State) (v : Nat) (j_ : Nat) : (s.setUst v).obj j_ = s.obj j_ := rfl
@[simp ↓] theorem num_setUst (s : State) (v : Nat) (j_ : Nat) : (s.setUst v).num j_ = s.num j_ := rfl
@[simp ↓] theorem int_setUst (s : State) (v : Nat) (j_ : Nat) : (s.setUst v).int j_ = s.int j_ := rfl
@[simp ↓] theorem flag_setUst (s : State) (v : Nat) (j_ : Nat) : (s.setUst v).flag j_ = s.flag j_ := rfl
@[simp ↓] theorem bytes_setUst (s : State) (v : Nat) (j_ : Nat) : (s.setUst v).bytes j_ = s.bytes j_ := rfl
@[simp ↓] theorem reg_setUst (s : State) (v : Nat) (j_ : Nat) : (s.setUst v).reg j_ = s.reg j_ := rfl
@[simp ↓] theorem byte_setUst (s : State) (v : Nat) (j_ : Nat) : (s.setUst v).byte j_ = s.byte j_ := rfl
@[simp ↓] theorem now_setUst (s : State) (v : Nat) : (s.setUst v).now = s.now := rfl

/-! ### Reading a record after storing one -/

@[simp ↓] theorem lane_setLane (s : State) (k_ j_ : Nat) (v_ : SdiLane) : (s.setLane k_ v_).lane j_ = if j_ = k_ then v_ else s.lane j_ := by
  simp only [State.lane, State.setLane, State.setHif, State.setUpd, tget_tset]
@[simp ↓] theorem slot_setSlot (s : State) (k_ j_ : Nat) (v_ : SlotSt) : (s.setSlot k_ v_).slot j_ = if j_ = k_ then v_ else s.slot j_ := by
  simp only [State.slot, State.setSlot, State.setHif, State.setUpd, tget_tset]
@[simp ↓] theorem out__setOut (s : State) (k_ j_ : Nat) (v_ : OutSt) : (s.setOut k_ v_).out_ j_ = if j_ = k_ then v_ else s.out_ j_ := by
  simp only [State.out_, State.setOut, State.setHif, State.setUpd, tget_tset]
@[simp ↓] theorem chan_setChan (s : State) (k_ j_ : Nat) (v_ : Chan) : (s.setChan k_ v_).chan j_ = if j_ = k_ then v_ else s.chan j_ := by
  simp only [State.chan, State.setChan, State.setHif, State.setUpd, tget_tset]
@[simp ↓] theorem aes_setAes (s : State) (k_ j_ : Nat) (v_ : AesIn) : (s.setAes k_ v_).aes j_ = if j_ = k_ then v_ else s.aes j_ := by
  simp only [State.aes, State.setAes, State.setHif, State.setUpd, tget_tset]
@[simp ↓] theorem tdm_setTdm (s : State) (k_ j_ : Nat) (v_ : TdmPort) : (s.setTdm k_ v_).tdm j_ = if j_ = k_ then v_ else s.tdm j_ := by
  simp only [State.tdm, State.setTdm, State.setHif, State.setUpd, tget_tset]
@[simp ↓] theorem pdest_setPdest (s : State) (k_ j_ : Nat) (v_ : PortDest) : (s.setPdest k_ v_).pdest j_ = if j_ = k_ then v_ else s.pdest j_ := by
  simp only [State.pdest, State.setPdest, State.setHif, State.setUpd, tget_tset]
@[simp ↓] theorem eng_setEng (s : State) (k_ j_ : Nat) (v_ : EngRun) : (s.setEng k_ v_).eng j_ = if j_ = k_ then v_ else s.eng j_ := by
  simp only [State.eng, State.setEng, State.setHif, State.setUpd, tget_tset]
@[simp ↓] theorem ref_setRef (s : State) (k_ j_ : Nat) (v_ : RefSt) : (s.setRef k_ v_).ref j_ = if j_ = k_ then v_ else s.ref j_ := by
  simp only [State.ref, State.setRef, State.setHif, State.setUpd, tget_tset]
@[simp ↓] theorem rx_setRx (s : State) (k_ j_ : Nat) (v_ : RxCtx) : (s.setRx k_ v_).rx j_ = if j_ = k_ then v_ else s.rx j_ := by
  simp only [State.rx, State.setRx, State.setHif, State.setUpd, tget_tset]
@[simp ↓] theorem tx_setTx (s : State) (k_ j_ : Nat) (v_ : TxCtx) : (s.setTx k_ v_).tx j_ = if j_ = k_ then v_ else s.tx j_ := by
  simp only [State.tx, State.setTx, State.setHif, State.setUpd, tget_tset]
@[simp ↓] theorem fl_setFl (s : State) (k_ j_ : Nat) (v_ : FabLane) : (s.setFl k_ v_).fl j_ = if j_ = k_ then v_ else s.fl j_ := by
  simp only [State.fl, State.setFl, State.setHif, State.setUpd, tget_tset]
@[simp ↓] theorem link_setLink (s : State) (k_ j_ : Nat) (v_ : FabLink) : (s.setLink k_ v_).link j_ = if j_ = k_ then v_ else s.link j_ := by
  simp only [State.link, State.setLink, State.setHif, State.setUpd, tget_tset]
@[simp ↓] theorem head_setHead (s : State) (k_ j_ : Nat) (v_ : HeadSt) : (s.setHead k_ v_).head j_ = if j_ = k_ then v_ else s.head j_ := by
  simp only [State.head, State.setHead, State.setHif, State.setUpd, tget_tset]
@[simp ↓] theorem lay_setLay (s : State) (k_ j_ : Nat) (v_ : LayerSt) : (s.setLay k_ v_).lay j_ = if j_ = k_ then v_ else s.lay j_ := by
  simp only [State.lay, State.setLay, State.setHif, State.setUpd, tget_tset]
@[simp ↓] theorem src_setSrc (s : State) (k_ j_ : Nat) (v_ : SrcSt) : (s.setSrc k_ v_).src j_ = if j_ = k_ then v_ else s.src j_ := by
  simp only [State.src, State.setSrc, State.setHif, State.setUpd, tget_tset]
@[simp ↓] theorem sess_setSess (s : State) (k_ j_ : Nat) (v_ : Session) : (s.setSess k_ v_).sess j_ = if j_ = k_ then v_ else s.sess j_ := by
  simp only [State.sess, State.setSess, State.setHif, State.setUpd, tget_tset]
@[simp ↓] theorem key_setKey (s : State) (k_ j_ : Nat) (v_ : KeySlot) : (s.setKey k_ v_).key j_ = if j_ = k_ then v_ else s.key j_ := by
  simp only [State.key, State.setKey, State.setHif, State.setUpd, tget_tset]
@[simp ↓] theorem img_setImg (s : State) (k_ j_ : Nat) (v_ : ImgSlot) : (s.setImg k_ v_).img j_ = if j_ = k_ then v_ else s.img j_ := by
  simp only [State.img, State.setImg, State.setHif, State.setUpd, tget_tset]
@[simp ↓] theorem dch_setDch (s : State) (k_ j_ : Nat) (v_ : DmaCh) : (s.setDch k_ v_).dch j_ = if j_ = k_ then v_ else s.dch j_ := by
  simp only [State.dch, State.setDch, State.setHif, State.setUpd, tget_tset]
@[simp ↓] theorem ring_setRing (s : State) (k_ j_ : Nat) (v_ : RingSt) : (s.setRing k_ v_).ring j_ = if j_ = k_ then v_ else s.ring j_ := by
  simp only [State.ring, State.setRing, State.setHif, State.setUpd, tget_tset]

end Sys2Proof.Machine
end

