-- ==== Sys2Proof/Laws/Records.lean ====
section
/-! SUPPORT. Reading a record after an update of something else. -/

namespace Sys2Proof.Machine

@[simp ↓] theorem lane_setObj (s : State) (k : Nat) (v : Val) (j_ : Nat) : (s.setObj k v).lane j_ = s.lane j_ := rfl
@[simp ↓] theorem lane_setReg (s : State) (off v : Nat) (j_ : Nat) : (s.setReg off v).lane j_ = s.lane j_ := rfl
@[simp ↓] theorem lane_setByte (s : State) (a : Nat) (b : Byte) (j_ : Nat) : (s.setByte a b).lane j_ = s.lane j_ := rfl
@[simp ↓] theorem lane_emit (s : State) (e : Emission) (j_ : Nat) : (s.emit e).lane j_ = s.lane j_ := rfl
@[simp ↓] theorem lane_setSess (s : State) (i : Nat) (v : Session) (j_ : Nat) : (s.setSess i v).lane j_ = s.lane j_ := rfl
@[simp ↓] theorem lane_setHif (s : State) (h : HifSt) (j_ : Nat) : (s.setHif h).lane j_ = s.lane j_ := rfl
@[simp ↓] theorem lane_setSrc (s : State) (n : Nat) (v : SrcSt) (j_ : Nat) : (s.setSrc n v).lane j_ = s.lane j_ := rfl
@[simp ↓] theorem lane_setSlot (s : State) (n : Nat) (v : SlotSt) (j_ : Nat) : (s.setSlot n v).lane j_ = s.lane j_ := rfl
@[simp ↓] theorem lane_setMember (s : State) (n sub : Nat) (v : Member) (j_ : Nat) : (s.setMember n sub v).lane j_ = s.lane j_ := rfl
@[simp ↓] theorem lane_setOut (s : State) (o : Nat) (v : OutSt) (j_ : Nat) : (s.setOut o v).lane j_ = s.lane j_ := rfl
@[simp ↓] theorem lane_setChan (s : State) (k : Nat) (c : Chan) (j_ : Nat) : (s.setChan k c).lane j_ = s.lane j_ := rfl
@[simp ↓] theorem lane_setDrop (s : State) (n : Nat) (v : Bool) (j_ : Nat) : (s.setDrop n v).lane j_ = s.lane j_ := rfl
@[simp ↓] theorem lane_setBatches (s : State) (l : List Batch) (j_ : Nat) : (s.setBatches l).lane j_ = s.lane j_ := rfl
@[simp ↓] theorem lane_setAes (s : State) (n : Nat) (v : AesIn) (j_ : Nat) : (s.setAes n v).lane j_ = s.lane j_ := rfl
@[simp ↓] theorem lane_setTdm (s : State) (n : Nat) (v : TdmPort) (j_ : Nat) : (s.setTdm n v).lane j_ = s.lane j_ := rfl
@[simp ↓] theorem lane_setPdest (s : State) (d : Nat) (v : PortDest) (j_ : Nat) : (s.setPdest d v).lane j_ = s.lane j_ := rfl
@[simp ↓] theorem lane_setEng (s : State) (e : Nat) (r : EngRun) (j_ : Nat) : (s.setEng e r).lane j_ = s.lane j_ := rfl
@[simp ↓] theorem lane_setPac (s : State) (p : PacSt) (j_ : Nat) : (s.setPac p).lane j_ = s.lane j_ := rfl
@[simp ↓] theorem lane_setRef (s : State) (r : Nat) (v : RefSt) (j_ : Nat) : (s.setRef r v).lane j_ = s.lane j_ := rfl
@[simp ↓] theorem lane_setPtp (s : State) (i : Nat) (v : PtpSt) (j_ : Nat) : (s.setPtp i v).lane j_ = s.lane j_ := rfl
@[simp ↓] theorem lane_setEth (s : State) (p : Nat) (v : EthPort) (j_ : Nat) : (s.setEth p v).lane j_ = s.lane j_ := rfl
@[simp ↓] theorem lane_setRx (s : State) (r : Nat) (v : RxCtx) (j_ : Nat) : (s.setRx r v).lane j_ = s.lane j_ := rfl
@[simp ↓] theorem lane_setTx (s : State) (c : Nat) (v : TxCtx) (j_ : Nat) : (s.setTx c v).lane j_ = s.lane j_ := rfl
@[simp ↓] theorem lane_setFl (s : State) (f : Nat) (l : FabLane) (j_ : Nat) : (s.setFl f l).lane j_ = s.lane j_ := rfl
@[simp ↓] theorem lane_setLink (s : State) (j : Nat) (l : FabLink) (j_ : Nat) : (s.setLink j l).lane j_ = s.lane j_ := rfl
@[simp ↓] theorem lane_setHead (s : State) (h : Nat) (v : HeadSt) (j_ : Nat) : (s.setHead h v).lane j_ = s.lane j_ := rfl
@[simp ↓] theorem lane_setLay (s : State) (l : Nat) (v : LayerSt) (j_ : Nat) : (s.setLay l v).lane j_ = s.lane j_ := rfl
@[simp ↓] theorem lane_setTw (s : State) (t : TwinSt) (j_ : Nat) : (s.setTw t).lane j_ = s.lane j_ := rfl
@[simp ↓] theorem lane_setPwr (s : State) (p : PwrSt) (j_ : Nat) : (s.setPwr p).lane j_ = s.lane j_ := rfl
@[simp ↓] theorem lane_setQuiet (s : State) (p t : Nat) (j_ : Nat) : (s.setQuiet p t).lane j_ = s.lane j_ := rfl
@[simp ↓] theorem lane_setUpd (s : State) (u : UpdSt) (j_ : Nat) : (s.setUpd u).lane j_ = s.lane j_ := rfl
@[simp ↓] theorem lane_setNum (s : State) (k n : Nat) (j_ : Nat) : (s.setNum k n).lane j_ = s.lane j_ := rfl
@[simp ↓] theorem lane_setInt (s : State) (k : Nat) (n : Int) (j_ : Nat) : (s.setInt k n).lane j_ = s.lane j_ := rfl
@[simp ↓] theorem lane_setBytes (s : State) (k : Nat) (b : List Byte) (j_ : Nat) : (s.setBytes k b).lane j_ = s.lane j_ := rfl
@[simp ↓] theorem lane_bump (s : State) (k n : Nat) (j_ : Nat) : (s.bump k n).lane j_ = s.lane j_ := rfl
@[simp ↓] theorem lane_bump64 (s : State) (k n : Nat) (j_ : Nat) : (s.bump64 k n).lane j_ = s.lane j_ := rfl
@[simp ↓] theorem lane_setBit (s : State) (off b : Nat) (j_ : Nat) : (s.setBit off b).lane j_ = s.lane j_ := rfl
@[simp ↓] theorem lane_rcAdd (s : State) (off hi lo n : Nat) (j_ : Nat) : (s.rcAdd off hi lo n).lane j_ = s.lane j_ := rfl
@[simp ↓] theorem lane_setDch (s : State) (c : Nat) (v : DmaCh) (j_ : Nat) : (s.setDch c v).lane j_ = s.lane j_ := rfl
@[simp ↓] theorem lane_setRing (s : State) (r : Nat) (v : RingSt) (j_ : Nat) : (s.setRing r v).lane j_ = s.lane j_ := rfl
@[simp ↓] theorem lane_setKey (s : State) (n : Nat) (k : KeySlot) (j_ : Nat) : (s.setKey n k).lane j_ = s.lane j_ := rfl
@[simp ↓] theorem lane_setImg (s : State) (k : Nat) (v : ImgSlot) (j_ : Nat) : (s.setImg k v).lane j_ = s.lane j_ := rfl
@[simp ↓] theorem lane_setBank (s : State) (k : Nat) (b : Bank) (j_ : Nat) : (s.setBank k b).lane j_ = s.lane j_ := rfl
@[simp ↓] theorem lane_setUst (s : State) (v : Nat) (j_ : Nat) : (s.setUst v).lane j_ = s.lane j_ := rfl
@[simp ↓] theorem slot_setObj (s : State) (k : Nat) (v : Val) (j_ : Nat) : (s.setObj k v).slot j_ = s.slot j_ := rfl
@[simp ↓] theorem slot_setReg (s : State) (off v : Nat) (j_ : Nat) : (s.setReg off v).slot j_ = s.slot j_ := rfl
@[simp ↓] theorem slot_setByte (s : State) (a : Nat) (b : Byte) (j_ : Nat) : (s.setByte a b).slot j_ = s.slot j_ := rfl
@[simp ↓] theorem slot_emit (s : State) (e : Emission) (j_ : Nat) : (s.emit e).slot j_ = s.slot j_ := rfl
@[simp ↓] theorem slot_setSess (s : State) (i : Nat) (v : Session) (j_ : Nat) : (s.setSess i v).slot j_ = s.slot j_ := rfl
@[simp ↓] theorem slot_setHif (s : State) (h : HifSt) (j_ : Nat) : (s.setHif h).slot j_ = s.slot j_ := rfl
@[simp ↓] theorem slot_setSrc (s : State) (n : Nat) (v : SrcSt) (j_ : Nat) : (s.setSrc n v).slot j_ = s.slot j_ := rfl
@[simp ↓] theorem slot_setLane (s : State) (p : Nat) (l : SdiLane) (j_ : Nat) : (s.setLane p l).slot j_ = s.slot j_ := rfl
@[simp ↓] theorem slot_setMember (s : State) (n sub : Nat) (v : Member) (j_ : Nat) : (s.setMember n sub v).slot j_ = s.slot j_ := rfl
@[simp ↓] theorem slot_setOut (s : State) (o : Nat) (v : OutSt) (j_ : Nat) : (s.setOut o v).slot j_ = s.slot j_ := rfl
@[simp ↓] theorem slot_setChan (s : State) (k : Nat) (c : Chan) (j_ : Nat) : (s.setChan k c).slot j_ = s.slot j_ := rfl
@[simp ↓] theorem slot_setDrop (s : State) (n : Nat) (v : Bool) (j_ : Nat) : (s.setDrop n v).slot j_ = s.slot j_ := rfl
@[simp ↓] theorem slot_setBatches (s : State) (l : List Batch) (j_ : Nat) : (s.setBatches l).slot j_ = s.slot j_ := rfl
@[simp ↓] theorem slot_setAes (s : State) (n : Nat) (v : AesIn) (j_ : Nat) : (s.setAes n v).slot j_ = s.slot j_ := rfl
@[simp ↓] theorem slot_setTdm (s : State) (n : Nat) (v : TdmPort) (j_ : Nat) : (s.setTdm n v).slot j_ = s.slot j_ := rfl
@[simp ↓] theorem slot_setPdest (s : State) (d : Nat) (v : PortDest) (j_ : Nat) : (s.setPdest d v).slot j_ = s.slot j_ := rfl
@[simp ↓] theorem slot_setEng (s : State) (e : Nat) (r : EngRun) (j_ : Nat) : (s.setEng e r).slot j_ = s.slot j_ := rfl
@[simp ↓] theorem slot_setPac (s : State) (p : PacSt) (j_ : Nat) : (s.setPac p).slot j_ = s.slot j_ := rfl
@[simp ↓] theorem slot_setRef (s : State) (r : Nat) (v : RefSt) (j_ : Nat) : (s.setRef r v).slot j_ = s.slot j_ := rfl
@[simp ↓] theorem slot_setPtp (s : State) (i : Nat) (v : PtpSt) (j_ : Nat) : (s.setPtp i v).slot j_ = s.slot j_ := rfl
@[simp ↓] theorem slot_setEth (s : State) (p : Nat) (v : EthPort) (j_ : Nat) : (s.setEth p v).slot j_ = s.slot j_ := rfl
@[simp ↓] theorem slot_setRx (s : State) (r : Nat) (v : RxCtx) (j_ : Nat) : (s.setRx r v).slot j_ = s.slot j_ := rfl
@[simp ↓] theorem slot_setTx (s : State) (c : Nat) (v : TxCtx) (j_ : Nat) : (s.setTx c v).slot j_ = s.slot j_ := rfl
@[simp ↓] theorem slot_setFl (s : State) (f : Nat) (l : FabLane) (j_ : Nat) : (s.setFl f l).slot j_ = s.slot j_ := rfl
@[simp ↓] theorem slot_setLink (s : State) (j : Nat) (l : FabLink) (j_ : Nat) : (s.setLink j l).slot j_ = s.slot j_ := rfl
@[simp ↓] theorem slot_setHead (s : State) (h : Nat) (v : HeadSt) (j_ : Nat) : (s.setHead h v).slot j_ = s.slot j_ := rfl
@[simp ↓] theorem slot_setLay (s : State) (l : Nat) (v : LayerSt) (j_ : Nat) : (s.setLay l v).slot j_ = s.slot j_ := rfl
@[simp ↓] theorem slot_setTw (s : State) (t : TwinSt) (j_ : Nat) : (s.setTw t).slot j_ = s.slot j_ := rfl
@[simp ↓] theorem slot_setPwr (s : State) (p : PwrSt) (j_ : Nat) : (s.setPwr p).slot j_ = s.slot j_ := rfl
@[simp ↓] theorem slot_setQuiet (s : State) (p t : Nat) (j_ : Nat) : (s.setQuiet p t).slot j_ = s.slot j_ := rfl
@[simp ↓] theorem slot_setUpd (s : State) (u : UpdSt) (j_ : Nat) : (s.setUpd u).slot j_ = s.slot j_ := rfl
@[simp ↓] theorem slot_setNum (s : State) (k n : Nat) (j_ : Nat) : (s.setNum k n).slot j_ = s.slot j_ := rfl
@[simp ↓] theorem slot_setInt (s : State) (k : Nat) (n : Int) (j_ : Nat) : (s.setInt k n).slot j_ = s.slot j_ := rfl
@[simp ↓] theorem slot_setBytes (s : State) (k : Nat) (b : List Byte) (j_ : Nat) : (s.setBytes k b).slot j_ = s.slot j_ := rfl
@[simp ↓] theorem slot_bump (s : State) (k n : Nat) (j_ : Nat) : (s.bump k n).slot j_ = s.slot j_ := rfl
@[simp ↓] theorem slot_bump64 (s : State) (k n : Nat) (j_ : Nat) : (s.bump64 k n).slot j_ = s.slot j_ := rfl
@[simp ↓] theorem slot_setBit (s : State) (off b : Nat) (j_ : Nat) : (s.setBit off b).slot j_ = s.slot j_ := rfl
@[simp ↓] theorem slot_rcAdd (s : State) (off hi lo n : Nat) (j_ : Nat) : (s.rcAdd off hi lo n).slot j_ = s.slot j_ := rfl
@[simp ↓] theorem slot_setDch (s : State) (c : Nat) (v : DmaCh) (j_ : Nat) : (s.setDch c v).slot j_ = s.slot j_ := rfl
@[simp ↓] theorem slot_setRing (s : State) (r : Nat) (v : RingSt) (j_ : Nat) : (s.setRing r v).slot j_ = s.slot j_ := rfl
@[simp ↓] theorem slot_setKey (s : State) (n : Nat) (k : KeySlot) (j_ : Nat) : (s.setKey n k).slot j_ = s.slot j_ := rfl
@[simp ↓] theorem slot_setImg (s : State) (k : Nat) (v : ImgSlot) (j_ : Nat) : (s.setImg k v).slot j_ = s.slot j_ := rfl
@[simp ↓] theorem slot_setBank (s : State) (k : Nat) (b : Bank) (j_ : Nat) : (s.setBank k b).slot j_ = s.slot j_ := rfl
@[simp ↓] theorem slot_setUst (s : State) (v : Nat) (j_ : Nat) : (s.setUst v).slot j_ = s.slot j_ := rfl
@[simp ↓] theorem out__setObj (s : State) (k : Nat) (v : Val) (j_ : Nat) : (s.setObj k v).out_ j_ = s.out_ j_ := rfl
@[simp ↓] theorem out__setReg (s : State) (off v : Nat) (j_ : Nat) : (s.setReg off v).out_ j_ = s.out_ j_ := rfl
@[simp ↓] theorem out__setByte (s : State) (a : Nat) (b : Byte) (j_ : Nat) : (s.setByte a b).out_ j_ = s.out_ j_ := rfl
@[simp ↓] theorem out__emit (s : State) (e : Emission) (j_ : Nat) : (s.emit e).out_ j_ = s.out_ j_ := rfl
@[simp ↓] theorem out__setSess (s : State) (i : Nat) (v : Session) (j_ : Nat) : (s.setSess i v).out_ j_ = s.out_ j_ := rfl
@[simp ↓] theorem out__setHif (s : State) (h : HifSt) (j_ : Nat) : (s.setHif h).out_ j_ = s.out_ j_ := rfl
@[simp ↓] theorem out__setSrc (s : State) (n : Nat) (v : SrcSt) (j_ : Nat) : (s.setSrc n v).out_ j_ = s.out_ j_ := rfl
@[simp ↓] theorem out__setLane (s : State) (p : Nat) (l : SdiLane) (j_ : Nat) : (s.setLane p l).out_ j_ = s.out_ j_ := rfl
@[simp ↓] theorem out__setSlot (s : State) (n : Nat) (v : SlotSt) (j_ : Nat) : (s.setSlot n v).out_ j_ = s.out_ j_ := rfl
@[simp ↓] theorem out__setMember (s : State) (n sub : Nat) (v : Member) (j_ : Nat) : (s.setMember n sub v).out_ j_ = s.out_ j_ := rfl
@[simp ↓] theorem out__setChan (s : State) (k : Nat) (c : Chan) (j_ : Nat) : (s.setChan k c).out_ j_ = s.out_ j_ := rfl
@[simp ↓] theorem out__setDrop (s : State) (n : Nat) (v : Bool) (j_ : Nat) : (s.setDrop n v).out_ j_ = s.out_ j_ := rfl
@[simp ↓] theorem out__setBatches (s : State) (l : List Batch) (j_ : Nat) : (s.setBatches l).out_ j_ = s.out_ j_ := rfl
@[simp ↓] theorem out__setAes (s : State) (n : Nat) (v : AesIn) (j_ : Nat) : (s.setAes n v).out_ j_ = s.out_ j_ := rfl
@[simp ↓] theorem out__setTdm (s : State) (n : Nat) (v : TdmPort) (j_ : Nat) : (s.setTdm n v).out_ j_ = s.out_ j_ := rfl
@[simp ↓] theorem out__setPdest (s : State) (d : Nat) (v : PortDest) (j_ : Nat) : (s.setPdest d v).out_ j_ = s.out_ j_ := rfl
@[simp ↓] theorem out__setEng (s : State) (e : Nat) (r : EngRun) (j_ : Nat) : (s.setEng e r).out_ j_ = s.out_ j_ := rfl
@[simp ↓] theorem out__setPac (s : State) (p : PacSt) (j_ : Nat) : (s.setPac p).out_ j_ = s.out_ j_ := rfl
@[simp ↓] theorem out__setRef (s : State) (r : Nat) (v : RefSt) (j_ : Nat) : (s.setRef r v).out_ j_ = s.out_ j_ := rfl
@[simp ↓] theorem out__setPtp (s : State) (i : Nat) (v : PtpSt) (j_ : Nat) : (s.setPtp i v).out_ j_ = s.out_ j_ := rfl
@[simp ↓] theorem out__setEth (s : State) (p : Nat) (v : EthPort) (j_ : Nat) : (s.setEth p v).out_ j_ = s.out_ j_ := rfl
@[simp ↓] theorem out__setRx (s : State) (r : Nat) (v : RxCtx) (j_ : Nat) : (s.setRx r v).out_ j_ = s.out_ j_ := rfl
@[simp ↓] theorem out__setTx (s : State) (c : Nat) (v : TxCtx) (j_ : Nat) : (s.setTx c v).out_ j_ = s.out_ j_ := rfl
@[simp ↓] theorem out__setFl (s : State) (f : Nat) (l : FabLane) (j_ : Nat) : (s.setFl f l).out_ j_ = s.out_ j_ := rfl
@[simp ↓] theorem out__setLink (s : State) (j : Nat) (l : FabLink) (j_ : Nat) : (s.setLink j l).out_ j_ = s.out_ j_ := rfl
@[simp ↓] theorem out__setHead (s : State) (h : Nat) (v : HeadSt) (j_ : Nat) : (s.setHead h v).out_ j_ = s.out_ j_ := rfl
@[simp ↓] theorem out__setLay (s : State) (l : Nat) (v : LayerSt) (j_ : Nat) : (s.setLay l v).out_ j_ = s.out_ j_ := rfl
@[simp ↓] theorem out__setTw (s : State) (t : TwinSt) (j_ : Nat) : (s.setTw t).out_ j_ = s.out_ j_ := rfl
@[simp ↓] theorem out__setPwr (s : State) (p : PwrSt) (j_ : Nat) : (s.setPwr p).out_ j_ = s.out_ j_ := rfl
@[simp ↓] theorem out__setQuiet (s : State) (p t : Nat) (j_ : Nat) : (s.setQuiet p t).out_ j_ = s.out_ j_ := rfl
@[simp ↓] theorem out__setUpd (s : State) (u : UpdSt) (j_ : Nat) : (s.setUpd u).out_ j_ = s.out_ j_ := rfl
@[simp ↓] theorem out__setNum (s : State) (k n : Nat) (j_ : Nat) : (s.setNum k n).out_ j_ = s.out_ j_ := rfl
@[simp ↓] theorem out__setInt (s : State) (k : Nat) (n : Int) (j_ : Nat) : (s.setInt k n).out_ j_ = s.out_ j_ := rfl
@[simp ↓] theorem out__setBytes (s : State) (k : Nat) (b : List Byte) (j_ : Nat) : (s.setBytes k b).out_ j_ = s.out_ j_ := rfl
@[simp ↓] theorem out__bump (s : State) (k n : Nat) (j_ : Nat) : (s.bump k n).out_ j_ = s.out_ j_ := rfl
@[simp ↓] theorem out__bump64 (s : State) (k n : Nat) (j_ : Nat) : (s.bump64 k n).out_ j_ = s.out_ j_ := rfl
@[simp ↓] theorem out__setBit (s : State) (off b : Nat) (j_ : Nat) : (s.setBit off b).out_ j_ = s.out_ j_ := rfl
@[simp ↓] theorem out__rcAdd (s : State) (off hi lo n : Nat) (j_ : Nat) : (s.rcAdd off hi lo n).out_ j_ = s.out_ j_ := rfl
@[simp ↓] theorem out__setDch (s : State) (c : Nat) (v : DmaCh) (j_ : Nat) : (s.setDch c v).out_ j_ = s.out_ j_ := rfl
@[simp ↓] theorem out__setRing (s : State) (r : Nat) (v : RingSt) (j_ : Nat) : (s.setRing r v).out_ j_ = s.out_ j_ := rfl
@[simp ↓] theorem out__setKey (s : State) (n : Nat) (k : KeySlot) (j_ : Nat) : (s.setKey n k).out_ j_ = s.out_ j_ := rfl
@[simp ↓] theorem out__setImg (s : State) (k : Nat) (v : ImgSlot) (j_ : Nat) : (s.setImg k v).out_ j_ = s.out_ j_ := rfl
@[simp ↓] theorem out__setBank (s : State) (k : Nat) (b : Bank) (j_ : Nat) : (s.setBank k b).out_ j_ = s.out_ j_ := rfl
@[simp ↓] theorem out__setUst (s : State) (v : Nat) (j_ : Nat) : (s.setUst v).out_ j_ = s.out_ j_ := rfl
@[simp ↓] theorem chan_setObj (s : State) (k : Nat) (v : Val) (j_ : Nat) : (s.setObj k v).chan j_ = s.chan j_ := rfl
@[simp ↓] theorem chan_setReg (s : State) (off v : Nat) (j_ : Nat) : (s.setReg off v).chan j_ = s.chan j_ := rfl
@[simp ↓] theorem chan_setByte (s : State) (a : Nat) (b : Byte) (j_ : Nat) : (s.setByte a b).chan j_ = s.chan j_ := rfl
@[simp ↓] theorem chan_emit (s : State) (e : Emission) (j_ : Nat) : (s.emit e).chan j_ = s.chan j_ := rfl
@[simp ↓] theorem chan_setSess (s : State) (i : Nat) (v : Session) (j_ : Nat) : (s.setSess i v).chan j_ = s.chan j_ := rfl
@[simp ↓] theorem chan_setHif (s : State) (h : HifSt) (j_ : Nat) : (s.setHif h).chan j_ = s.chan j_ := rfl
@[simp ↓] theorem chan_setSrc (s : State) (n : Nat) (v : SrcSt) (j_ : Nat) : (s.setSrc n v).chan j_ = s.chan j_ := rfl
@[simp ↓] theorem chan_setLane (s : State) (p : Nat) (l : SdiLane) (j_ : Nat) : (s.setLane p l).chan j_ = s.chan j_ := rfl
@[simp ↓] theorem chan_setSlot (s : State) (n : Nat) (v : SlotSt) (j_ : Nat) : (s.setSlot n v).chan j_ = s.chan j_ := rfl
@[simp ↓] theorem chan_setMember (s : State) (n sub : Nat) (v : Member) (j_ : Nat) : (s.setMember n sub v).chan j_ = s.chan j_ := rfl
@[simp ↓] theorem chan_setOut (s : State) (o : Nat) (v : OutSt) (j_ : Nat) : (s.setOut o v).chan j_ = s.chan j_ := rfl
@[simp ↓] theorem chan_setDrop (s : State) (n : Nat) (v : Bool) (j_ : Nat) : (s.setDrop n v).chan j_ = s.chan j_ := rfl
@[simp ↓] theorem chan_setBatches (s : State) (l : List Batch) (j_ : Nat) : (s.setBatches l).chan j_ = s.chan j_ := rfl
@[simp ↓] theorem chan_setAes (s : State) (n : Nat) (v : AesIn) (j_ : Nat) : (s.setAes n v).chan j_ = s.chan j_ := rfl
@[simp ↓] theorem chan_setTdm (s : State) (n : Nat) (v : TdmPort) (j_ : Nat) : (s.setTdm n v).chan j_ = s.chan j_ := rfl
@[simp ↓] theorem chan_setPdest (s : State) (d : Nat) (v : PortDest) (j_ : Nat) : (s.setPdest d v).chan j_ = s.chan j_ := rfl
@[simp ↓] theorem chan_setEng (s : State) (e : Nat) (r : EngRun) (j_ : Nat) : (s.setEng e r).chan j_ = s.chan j_ := rfl
@[simp ↓] theorem chan_setPac (s : State) (p : PacSt) (j_ : Nat) : (s.setPac p).chan j_ = s.chan j_ := rfl
@[simp ↓] theorem chan_setRef (s : State) (r : Nat) (v : RefSt) (j_ : Nat) : (s.setRef r v).chan j_ = s.chan j_ := rfl
@[simp ↓] theorem chan_setPtp (s : State) (i : Nat) (v : PtpSt) (j_ : Nat) : (s.setPtp i v).chan j_ = s.chan j_ := rfl
@[simp ↓] theorem chan_setEth (s : State) (p : Nat) (v : EthPort) (j_ : Nat) : (s.setEth p v).chan j_ = s.chan j_ := rfl
@[simp ↓] theorem chan_setRx (s : State) (r : Nat) (v : RxCtx) (j_ : Nat) : (s.setRx r v).chan j_ = s.chan j_ := rfl
@[simp ↓] theorem chan_setTx (s : State) (c : Nat) (v : TxCtx) (j_ : Nat) : (s.setTx c v).chan j_ = s.chan j_ := rfl
@[simp ↓] theorem chan_setFl (s : State) (f : Nat) (l : FabLane) (j_ : Nat) : (s.setFl f l).chan j_ = s.chan j_ := rfl
@[simp ↓] theorem chan_setLink (s : State) (j : Nat) (l : FabLink) (j_ : Nat) : (s.setLink j l).chan j_ = s.chan j_ := rfl
@[simp ↓] theorem chan_setHead (s : State) (h : Nat) (v : HeadSt) (j_ : Nat) : (s.setHead h v).chan j_ = s.chan j_ := rfl
@[simp ↓] theorem chan_setLay (s : State) (l : Nat) (v : LayerSt) (j_ : Nat) : (s.setLay l v).chan j_ = s.chan j_ := rfl
@[simp ↓] theorem chan_setTw (s : State) (t : TwinSt) (j_ : Nat) : (s.setTw t).chan j_ = s.chan j_ := rfl
@[simp ↓] theorem chan_setPwr (s : State) (p : PwrSt) (j_ : Nat) : (s.setPwr p).chan j_ = s.chan j_ := rfl
@[simp ↓] theorem chan_setQuiet (s : State) (p t : Nat) (j_ : Nat) : (s.setQuiet p t).chan j_ = s.chan j_ := rfl
@[simp ↓] theorem chan_setUpd (s : State) (u : UpdSt) (j_ : Nat) : (s.setUpd u).chan j_ = s.chan j_ := rfl
@[simp ↓] theorem chan_setNum (s : State) (k n : Nat) (j_ : Nat) : (s.setNum k n).chan j_ = s.chan j_ := rfl
@[simp ↓] theorem chan_setInt (s : State) (k : Nat) (n : Int) (j_ : Nat) : (s.setInt k n).chan j_ = s.chan j_ := rfl
@[simp ↓] theorem chan_setBytes (s : State) (k : Nat) (b : List Byte) (j_ : Nat) : (s.setBytes k b).chan j_ = s.chan j_ := rfl
@[simp ↓] theorem chan_bump (s : State) (k n : Nat) (j_ : Nat) : (s.bump k n).chan j_ = s.chan j_ := rfl
@[simp ↓] theorem chan_bump64 (s : State) (k n : Nat) (j_ : Nat) : (s.bump64 k n).chan j_ = s.chan j_ := rfl
@[simp ↓] theorem chan_setBit (s : State) (off b : Nat) (j_ : Nat) : (s.setBit off b).chan j_ = s.chan j_ := rfl
@[simp ↓] theorem chan_rcAdd (s : State) (off hi lo n : Nat) (j_ : Nat) : (s.rcAdd off hi lo n).chan j_ = s.chan j_ := rfl
@[simp ↓] theorem chan_setDch (s : State) (c : Nat) (v : DmaCh) (j_ : Nat) : (s.setDch c v).chan j_ = s.chan j_ := rfl
@[simp ↓] theorem chan_setRing (s : State) (r : Nat) (v : RingSt) (j_ : Nat) : (s.setRing r v).chan j_ = s.chan j_ := rfl
@[simp ↓] theorem chan_setKey (s : State) (n : Nat) (k : KeySlot) (j_ : Nat) : (s.setKey n k).chan j_ = s.chan j_ := rfl
@[simp ↓] theorem chan_setImg (s : State) (k : Nat) (v : ImgSlot) (j_ : Nat) : (s.setImg k v).chan j_ = s.chan j_ := rfl
@[simp ↓] theorem chan_setBank (s : State) (k : Nat) (b : Bank) (j_ : Nat) : (s.setBank k b).chan j_ = s.chan j_ := rfl
@[simp ↓] theorem chan_setUst (s : State) (v : Nat) (j_ : Nat) : (s.setUst v).chan j_ = s.chan j_ := rfl
@[simp ↓] theorem aes_setObj (s : State) (k : Nat) (v : Val) (j_ : Nat) : (s.setObj k v).aes j_ = s.aes j_ := rfl
@[simp ↓] theorem aes_setReg (s : State) (off v : Nat) (j_ : Nat) : (s.setReg off v).aes j_ = s.aes j_ := rfl
@[simp ↓] theorem aes_setByte (s : State) (a : Nat) (b : Byte) (j_ : Nat) : (s.setByte a b).aes j_ = s.aes j_ := rfl
@[simp ↓] theorem aes_emit (s : State) (e : Emission) (j_ : Nat) : (s.emit e).aes j_ = s.aes j_ := rfl
@[simp ↓] theorem aes_setSess (s : State) (i : Nat) (v : Session) (j_ : Nat) : (s.setSess i v).aes j_ = s.aes j_ := rfl
@[simp ↓] theorem aes_setHif (s : State) (h : HifSt) (j_ : Nat) : (s.setHif h).aes j_ = s.aes j_ := rfl
@[simp ↓] theorem aes_setSrc (s : State) (n : Nat) (v : SrcSt) (j_ : Nat) : (s.setSrc n v).aes j_ = s.aes j_ := rfl
@[simp ↓] theorem aes_setLane (s : State) (p : Nat) (l : SdiLane) (j_ : Nat) : (s.setLane p l).aes j_ = s.aes j_ := rfl
@[simp ↓] theorem aes_setSlot (s : State) (n : Nat) (v : SlotSt) (j_ : Nat) : (s.setSlot n v).aes j_ = s.aes j_ := rfl
@[simp ↓] theorem aes_setMember (s : State) (n sub : Nat) (v : Member) (j_ : Nat) : (s.setMember n sub v).aes j_ = s.aes j_ := rfl
@[simp ↓] theorem aes_setOut (s : State) (o : Nat) (v : OutSt) (j_ : Nat) : (s.setOut o v).aes j_ = s.aes j_ := rfl
@[simp ↓] theorem aes_setChan (s : State) (k : Nat) (c : Chan) (j_ : Nat) : (s.setChan k c).aes j_ = s.aes j_ := rfl
@[simp ↓] theorem aes_setDrop (s : State) (n : Nat) (v : Bool) (j_ : Nat) : (s.setDrop n v).aes j_ = s.aes j_ := rfl
@[simp ↓] theorem aes_setBatches (s : State) (l : List Batch) (j_ : Nat) : (s.setBatches l).aes j_ = s.aes j_ := rfl
@[simp ↓] theorem aes_setTdm (s : State) (n : Nat) (v : TdmPort) (j_ : Nat) : (s.setTdm n v).aes j_ = s.aes j_ := rfl
@[simp ↓] theorem aes_setPdest (s : State) (d : Nat) (v : PortDest) (j_ : Nat) : (s.setPdest d v).aes j_ = s.aes j_ := rfl
@[simp ↓] theorem aes_setEng (s : State) (e : Nat) (r : EngRun) (j_ : Nat) : (s.setEng e r).aes j_ = s.aes j_ := rfl
@[simp ↓] theorem aes_setPac (s : State) (p : PacSt) (j_ : Nat) : (s.setPac p).aes j_ = s.aes j_ := rfl
@[simp ↓] theorem aes_setRef (s : State) (r : Nat) (v : RefSt) (j_ : Nat) : (s.setRef r v).aes j_ = s.aes j_ := rfl
@[simp ↓] theorem aes_setPtp (s : State) (i : Nat) (v : PtpSt) (j_ : Nat) : (s.setPtp i v).aes j_ = s.aes j_ := rfl
@[simp ↓] theorem aes_setEth (s : State) (p : Nat) (v : EthPort) (j_ : Nat) : (s.setEth p v).aes j_ = s.aes j_ := rfl
@[simp ↓] theorem aes_setRx (s : State) (r : Nat) (v : RxCtx) (j_ : Nat) : (s.setRx r v).aes j_ = s.aes j_ := rfl
@[simp ↓] theorem aes_setTx (s : State) (c : Nat) (v : TxCtx) (j_ : Nat) : (s.setTx c v).aes j_ = s.aes j_ := rfl
@[simp ↓] theorem aes_setFl (s : State) (f : Nat) (l : FabLane) (j_ : Nat) : (s.setFl f l).aes j_ = s.aes j_ := rfl
@[simp ↓] theorem aes_setLink (s : State) (j : Nat) (l : FabLink) (j_ : Nat) : (s.setLink j l).aes j_ = s.aes j_ := rfl
@[simp ↓] theorem aes_setHead (s : State) (h : Nat) (v : HeadSt) (j_ : Nat) : (s.setHead h v).aes j_ = s.aes j_ := rfl
@[simp ↓] theorem aes_setLay (s : State) (l : Nat) (v : LayerSt) (j_ : Nat) : (s.setLay l v).aes j_ = s.aes j_ := rfl
@[simp ↓] theorem aes_setTw (s : State) (t : TwinSt) (j_ : Nat) : (s.setTw t).aes j_ = s.aes j_ := rfl
@[simp ↓] theorem aes_setPwr (s : State) (p : PwrSt) (j_ : Nat) : (s.setPwr p).aes j_ = s.aes j_ := rfl
@[simp ↓] theorem aes_setQuiet (s : State) (p t : Nat) (j_ : Nat) : (s.setQuiet p t).aes j_ = s.aes j_ := rfl
@[simp ↓] theorem aes_setUpd (s : State) (u : UpdSt) (j_ : Nat) : (s.setUpd u).aes j_ = s.aes j_ := rfl
@[simp ↓] theorem aes_setNum (s : State) (k n : Nat) (j_ : Nat) : (s.setNum k n).aes j_ = s.aes j_ := rfl
@[simp ↓] theorem aes_setInt (s : State) (k : Nat) (n : Int) (j_ : Nat) : (s.setInt k n).aes j_ = s.aes j_ := rfl
@[simp ↓] theorem aes_setBytes (s : State) (k : Nat) (b : List Byte) (j_ : Nat) : (s.setBytes k b).aes j_ = s.aes j_ := rfl
@[simp ↓] theorem aes_bump (s : State) (k n : Nat) (j_ : Nat) : (s.bump k n).aes j_ = s.aes j_ := rfl
@[simp ↓] theorem aes_bump64 (s : State) (k n : Nat) (j_ : Nat) : (s.bump64 k n).aes j_ = s.aes j_ := rfl
@[simp ↓] theorem aes_setBit (s : State) (off b : Nat) (j_ : Nat) : (s.setBit off b).aes j_ = s.aes j_ := rfl
@[simp ↓] theorem aes_rcAdd (s : State) (off hi lo n : Nat) (j_ : Nat) : (s.rcAdd off hi lo n).aes j_ = s.aes j_ := rfl
@[simp ↓] theorem aes_setDch (s : State) (c : Nat) (v : DmaCh) (j_ : Nat) : (s.setDch c v).aes j_ = s.aes j_ := rfl
@[simp ↓] theorem aes_setRing (s : State) (r : Nat) (v : RingSt) (j_ : Nat) : (s.setRing r v).aes j_ = s.aes j_ := rfl
@[simp ↓] theorem aes_setKey (s : State) (n : Nat) (k : KeySlot) (j_ : Nat) : (s.setKey n k).aes j_ = s.aes j_ := rfl
@[simp ↓] theorem aes_setImg (s : State) (k : Nat) (v : ImgSlot) (j_ : Nat) : (s.setImg k v).aes j_ = s.aes j_ := rfl
@[simp ↓] theorem aes_setBank (s : State) (k : Nat) (b : Bank) (j_ : Nat) : (s.setBank k b).aes j_ = s.aes j_ := rfl
@[simp ↓] theorem aes_setUst (s : State) (v : Nat) (j_ : Nat) : (s.setUst v).aes j_ = s.aes j_ := rfl
@[simp ↓] theorem tdm_setObj (s : State) (k : Nat) (v : Val) (j_ : Nat) : (s.setObj k v).tdm j_ = s.tdm j_ := rfl
@[simp ↓] theorem tdm_setReg (s : State) (off v : Nat) (j_ : Nat) : (s.setReg off v).tdm j_ = s.tdm j_ := rfl
@[simp ↓] theorem tdm_setByte (s : State) (a : Nat) (b : Byte) (j_ : Nat) : (s.setByte a b).tdm j_ = s.tdm j_ := rfl
@[simp ↓] theorem tdm_emit (s : State) (e : Emission) (j_ : Nat) : (s.emit e).tdm j_ = s.tdm j_ := rfl
@[simp ↓] theorem tdm_setSess (s : State) (i : Nat) (v : Session) (j_ : Nat) : (s.setSess i v).tdm j_ = s.tdm j_ := rfl
@[simp ↓] theorem tdm_setHif (s : State) (h : HifSt) (j_ : Nat) : (s.setHif h).tdm j_ = s.tdm j_ := rfl
@[simp ↓] theorem tdm_setSrc (s : State) (n : Nat) (v : SrcSt) (j_ : Nat) : (s.setSrc n v).tdm j_ = s.tdm j_ := rfl
@[simp ↓] theorem tdm_setLane (s : State) (p : Nat) (l : SdiLane) (j_ : Nat) : (s.setLane p l).tdm j_ = s.tdm j_ := rfl
@[simp ↓] theorem tdm_setSlot (s : State) (n : Nat) (v : SlotSt) (j_ : Nat) : (s.setSlot n v).tdm j_ = s.tdm j_ := rfl
@[simp ↓] theorem tdm_setMember (s : State) (n sub : Nat) (v : Member) (j_ : Nat) : (s.setMember n sub v).tdm j_ = s.tdm j_ := rfl
@[simp ↓] theorem tdm_setOut (s : State) (o : Nat) (v : OutSt) (j_ : Nat) : (s.setOut o v).tdm j_ = s.tdm j_ := rfl
@[simp ↓] theorem tdm_setChan (s : State) (k : Nat) (c : Chan) (j_ : Nat) : (s.setChan k c).tdm j_ = s.tdm j_ := rfl
@[simp ↓] theorem tdm_setDrop (s : State) (n : Nat) (v : Bool) (j_ : Nat) : (s.setDrop n v).tdm j_ = s.tdm j_ := rfl
@[simp ↓] theorem tdm_setBatches (s : State) (l : List Batch) (j_ : Nat) : (s.setBatches l).tdm j_ = s.tdm j_ := rfl
@[simp ↓] theorem tdm_setAes (s : State) (n : Nat) (v : AesIn) (j_ : Nat) : (s.setAes n v).tdm j_ = s.tdm j_ := rfl
@[simp ↓] theorem tdm_setPdest (s : State) (d : Nat) (v : PortDest) (j_ : Nat) : (s.setPdest d v).tdm j_ = s.tdm j_ := rfl
@[simp ↓] theorem tdm_setEng (s : State) (e : Nat) (r : EngRun) (j_ : Nat) : (s.setEng e r).tdm j_ = s.tdm j_ := rfl
@[simp ↓] theorem tdm_setPac (s : State) (p : PacSt) (j_ : Nat) : (s.setPac p).tdm j_ = s.tdm j_ := rfl
@[simp ↓] theorem tdm_setRef (s : State) (r : Nat) (v : RefSt) (j_ : Nat) : (s.setRef r v).tdm j_ = s.tdm j_ := rfl
@[simp ↓] theorem tdm_setPtp (s : State) (i : Nat) (v : PtpSt) (j_ : Nat) : (s.setPtp i v).tdm j_ = s.tdm j_ := rfl
@[simp ↓] theorem tdm_setEth (s : State) (p : Nat) (v : EthPort) (j_ : Nat) : (s.setEth p v).tdm j_ = s.tdm j_ := rfl
@[simp ↓] theorem tdm_setRx (s : State) (r : Nat) (v : RxCtx) (j_ : Nat) : (s.setRx r v).tdm j_ = s.tdm j_ := rfl
@[simp ↓] theorem tdm_setTx (s : State) (c : Nat) (v : TxCtx) (j_ : Nat) : (s.setTx c v).tdm j_ = s.tdm j_ := rfl
@[simp ↓] theorem tdm_setFl (s : State) (f : Nat) (l : FabLane) (j_ : Nat) : (s.setFl f l).tdm j_ = s.tdm j_ := rfl
@[simp ↓] theorem tdm_setLink (s : State) (j : Nat) (l : FabLink) (j_ : Nat) : (s.setLink j l).tdm j_ = s.tdm j_ := rfl
@[simp ↓] theorem tdm_setHead (s : State) (h : Nat) (v : HeadSt) (j_ : Nat) : (s.setHead h v).tdm j_ = s.tdm j_ := rfl
@[simp ↓] theorem tdm_setLay (s : State) (l : Nat) (v : LayerSt) (j_ : Nat) : (s.setLay l v).tdm j_ = s.tdm j_ := rfl
@[simp ↓] theorem tdm_setTw (s : State) (t : TwinSt) (j_ : Nat) : (s.setTw t).tdm j_ = s.tdm j_ := rfl
@[simp ↓] theorem tdm_setPwr (s : State) (p : PwrSt) (j_ : Nat) : (s.setPwr p).tdm j_ = s.tdm j_ := rfl
@[simp ↓] theorem tdm_setQuiet (s : State) (p t : Nat) (j_ : Nat) : (s.setQuiet p t).tdm j_ = s.tdm j_ := rfl
@[simp ↓] theorem tdm_setUpd (s : State) (u : UpdSt) (j_ : Nat) : (s.setUpd u).tdm j_ = s.tdm j_ := rfl
@[simp ↓] theorem tdm_setNum (s : State) (k n : Nat) (j_ : Nat) : (s.setNum k n).tdm j_ = s.tdm j_ := rfl
@[simp ↓] theorem tdm_setInt (s : State) (k : Nat) (n : Int) (j_ : Nat) : (s.setInt k n).tdm j_ = s.tdm j_ := rfl
@[simp ↓] theorem tdm_setBytes (s : State) (k : Nat) (b : List Byte) (j_ : Nat) : (s.setBytes k b).tdm j_ = s.tdm j_ := rfl
@[simp ↓] theorem tdm_bump (s : State) (k n : Nat) (j_ : Nat) : (s.bump k n).tdm j_ = s.tdm j_ := rfl
@[simp ↓] theorem tdm_bump64 (s : State) (k n : Nat) (j_ : Nat) : (s.bump64 k n).tdm j_ = s.tdm j_ := rfl
@[simp ↓] theorem tdm_setBit (s : State) (off b : Nat) (j_ : Nat) : (s.setBit off b).tdm j_ = s.tdm j_ := rfl
@[simp ↓] theorem tdm_rcAdd (s : State) (off hi lo n : Nat) (j_ : Nat) : (s.rcAdd off hi lo n).tdm j_ = s.tdm j_ := rfl
@[simp ↓] theorem tdm_setDch (s : State) (c : Nat) (v : DmaCh) (j_ : Nat) : (s.setDch c v).tdm j_ = s.tdm j_ := rfl
@[simp ↓] theorem tdm_setRing (s : State) (r : Nat) (v : RingSt) (j_ : Nat) : (s.setRing r v).tdm j_ = s.tdm j_ := rfl
@[simp ↓] theorem tdm_setKey (s : State) (n : Nat) (k : KeySlot) (j_ : Nat) : (s.setKey n k).tdm j_ = s.tdm j_ := rfl
@[simp ↓] theorem tdm_setImg (s : State) (k : Nat) (v : ImgSlot) (j_ : Nat) : (s.setImg k v).tdm j_ = s.tdm j_ := rfl
@[simp ↓] theorem tdm_setBank (s : State) (k : Nat) (b : Bank) (j_ : Nat) : (s.setBank k b).tdm j_ = s.tdm j_ := rfl
@[simp ↓] theorem tdm_setUst (s : State) (v : Nat) (j_ : Nat) : (s.setUst v).tdm j_ = s.tdm j_ := rfl
@[simp ↓] theorem pdest_setObj (s : State) (k : Nat) (v : Val) (j_ : Nat) : (s.setObj k v).pdest j_ = s.pdest j_ := rfl
@[simp ↓] theorem pdest_setReg (s : State) (off v : Nat) (j_ : Nat) : (s.setReg off v).pdest j_ = s.pdest j_ := rfl
@[simp ↓] theorem pdest_setByte (s : State) (a : Nat) (b : Byte) (j_ : Nat) : (s.setByte a b).pdest j_ = s.pdest j_ := rfl
@[simp ↓] theorem pdest_emit (s : State) (e : Emission) (j_ : Nat) : (s.emit e).pdest j_ = s.pdest j_ := rfl
@[simp ↓] theorem pdest_setSess (s : State) (i : Nat) (v : Session) (j_ : Nat) : (s.setSess i v).pdest j_ = s.pdest j_ := rfl
@[simp ↓] theorem pdest_setHif (s : State) (h : HifSt) (j_ : Nat) : (s.setHif h).pdest j_ = s.pdest j_ := rfl
@[simp ↓] theorem pdest_setSrc (s : State) (n : Nat) (v : SrcSt) (j_ : Nat) : (s.setSrc n v).pdest j_ = s.pdest j_ := rfl
@[simp ↓] theorem pdest_setLane (s : State) (p : Nat) (l : SdiLane) (j_ : Nat) : (s.setLane p l).pdest j_ = s.pdest j_ := rfl
@[simp ↓] theorem pdest_setSlot (s : State) (n : Nat) (v : SlotSt) (j_ : Nat) : (s.setSlot n v).pdest j_ = s.pdest j_ := rfl
@[simp ↓] theorem pdest_setMember (s : State) (n sub : Nat) (v : Member) (j_ : Nat) : (s.setMember n sub v).pdest j_ = s.pdest j_ := rfl
@[simp ↓] theorem pdest_setOut (s : State) (o : Nat) (v : OutSt) (j_ : Nat) : (s.setOut o v).pdest j_ = s.pdest j_ := rfl
@[simp ↓] theorem pdest_setChan (s : State) (k : Nat) (c : Chan) (j_ : Nat) : (s.setChan k c).pdest j_ = s.pdest j_ := rfl
@[simp ↓] theorem pdest_setDrop (s : State) (n : Nat) (v : Bool) (j_ : Nat) : (s.setDrop n v).pdest j_ = s.pdest j_ := rfl
@[simp ↓] theorem pdest_setBatches (s : State) (l : List Batch) (j_ : Nat) : (s.setBatches l).pdest j_ = s.pdest j_ := rfl
@[simp ↓] theorem pdest_setAes (s : State) (n : Nat) (v : AesIn) (j_ : Nat) : (s.setAes n v).pdest j_ = s.pdest j_ := rfl
@[simp ↓] theorem pdest_setTdm (s : State) (n : Nat) (v : TdmPort) (j_ : Nat) : (s.setTdm n v).pdest j_ = s.pdest j_ := rfl
@[simp ↓] theorem pdest_setEng (s : State) (e : Nat) (r : EngRun) (j_ : Nat) : (s.setEng e r).pdest j_ = s.pdest j_ := rfl
@[simp ↓] theorem pdest_setPac (s : State) (p : PacSt) (j_ : Nat) : (s.setPac p).pdest j_ = s.pdest j_ := rfl
@[simp ↓] theorem pdest_setRef (s : State) (r : Nat) (v : RefSt) (j_ : Nat) : (s.setRef r v).pdest j_ = s.pdest j_ := rfl
@[simp ↓] theorem pdest_setPtp (s : State) (i : Nat) (v : PtpSt) (j_ : Nat) : (s.setPtp i v).pdest j_ = s.pdest j_ := rfl
@[simp ↓] theorem pdest_setEth (s : State) (p : Nat) (v : EthPort) (j_ : Nat) : (s.setEth p v).pdest j_ = s.pdest j_ := rfl
@[simp ↓] theorem pdest_setRx (s : State) (r : Nat) (v : RxCtx) (j_ : Nat) : (s.setRx r v).pdest j_ = s.pdest j_ := rfl
@[simp ↓] theorem pdest_setTx (s : State) (c : Nat) (v : TxCtx) (j_ : Nat) : (s.setTx c v).pdest j_ = s.pdest j_ := rfl
@[simp ↓] theorem pdest_setFl (s : State) (f : Nat) (l : FabLane) (j_ : Nat) : (s.setFl f l).pdest j_ = s.pdest j_ := rfl
@[simp ↓] theorem pdest_setLink (s : State) (j : Nat) (l : FabLink) (j_ : Nat) : (s.setLink j l).pdest j_ = s.pdest j_ := rfl
@[simp ↓] theorem pdest_setHead (s : State) (h : Nat) (v : HeadSt) (j_ : Nat) : (s.setHead h v).pdest j_ = s.pdest j_ := rfl
@[simp ↓] theorem pdest_setLay (s : State) (l : Nat) (v : LayerSt) (j_ : Nat) : (s.setLay l v).pdest j_ = s.pdest j_ := rfl
@[simp ↓] theorem pdest_setTw (s : State) (t : TwinSt) (j_ : Nat) : (s.setTw t).pdest j_ = s.pdest j_ := rfl
@[simp ↓] theorem pdest_setPwr (s : State) (p : PwrSt) (j_ : Nat) : (s.setPwr p).pdest j_ = s.pdest j_ := rfl
@[simp ↓] theorem pdest_setQuiet (s : State) (p t : Nat) (j_ : Nat) : (s.setQuiet p t).pdest j_ = s.pdest j_ := rfl
@[simp ↓] theorem pdest_setUpd (s : State) (u : UpdSt) (j_ : Nat) : (s.setUpd u).pdest j_ = s.pdest j_ := rfl
@[simp ↓] theorem pdest_setNum (s : State) (k n : Nat) (j_ : Nat) : (s.setNum k n).pdest j_ = s.pdest j_ := rfl
@[simp ↓] theorem pdest_setInt (s : State) (k : Nat) (n : Int) (j_ : Nat) : (s.setInt k n).pdest j_ = s.pdest j_ := rfl
@[simp ↓] theorem pdest_setBytes (s : State) (k : Nat) (b : List Byte) (j_ : Nat) : (s.setBytes k b).pdest j_ = s.pdest j_ := rfl
@[simp ↓] theorem pdest_bump (s : State) (k n : Nat) (j_ : Nat) : (s.bump k n).pdest j_ = s.pdest j_ := rfl
@[simp ↓] theorem pdest_bump64 (s : State) (k n : Nat) (j_ : Nat) : (s.bump64 k n).pdest j_ = s.pdest j_ := rfl
@[simp ↓] theorem pdest_setBit (s : State) (off b : Nat) (j_ : Nat) : (s.setBit off b).pdest j_ = s.pdest j_ := rfl
@[simp ↓] theorem pdest_rcAdd (s : State) (off hi lo n : Nat) (j_ : Nat) : (s.rcAdd off hi lo n).pdest j_ = s.pdest j_ := rfl
@[simp ↓] theorem pdest_setDch (s : State) (c : Nat) (v : DmaCh) (j_ : Nat) : (s.setDch c v).pdest j_ = s.pdest j_ := rfl
@[simp ↓] theorem pdest_setRing (s : State) (r : Nat) (v : RingSt) (j_ : Nat) : (s.setRing r v).pdest j_ = s.pdest j_ := rfl
@[simp ↓] theorem pdest_setKey (s : State) (n : Nat) (k : KeySlot) (j_ : Nat) : (s.setKey n k).pdest j_ = s.pdest j_ := rfl
@[simp ↓] theorem pdest_setImg (s : State) (k : Nat) (v : ImgSlot) (j_ : Nat) : (s.setImg k v).pdest j_ = s.pdest j_ := rfl
@[simp ↓] theorem pdest_setBank (s : State) (k : Nat) (b : Bank) (j_ : Nat) : (s.setBank k b).pdest j_ = s.pdest j_ := rfl
@[simp ↓] theorem pdest_setUst (s : State) (v : Nat) (j_ : Nat) : (s.setUst v).pdest j_ = s.pdest j_ := rfl
@[simp ↓] theorem eng_setObj (s : State) (k : Nat) (v : Val) (j_ : Nat) : (s.setObj k v).eng j_ = s.eng j_ := rfl
@[simp ↓] theorem eng_setReg (s : State) (off v : Nat) (j_ : Nat) : (s.setReg off v).eng j_ = s.eng j_ := rfl
@[simp ↓] theorem eng_setByte (s : State) (a : Nat) (b : Byte) (j_ : Nat) : (s.setByte a b).eng j_ = s.eng j_ := rfl
@[simp ↓] theorem eng_emit (s : State) (e : Emission) (j_ : Nat) : (s.emit e).eng j_ = s.eng j_ := rfl
@[simp ↓] theorem eng_setSess (s : State) (i : Nat) (v : Session) (j_ : Nat) : (s.setSess i v).eng j_ = s.eng j_ := rfl
@[simp ↓] theorem eng_setHif (s : State) (h : HifSt) (j_ : Nat) : (s.setHif h).eng j_ = s.eng j_ := rfl
@[simp ↓] theorem eng_setSrc (s : State) (n : Nat) (v : SrcSt) (j_ : Nat) : (s.setSrc n v).eng j_ = s.eng j_ := rfl
@[simp ↓] theorem eng_setLane (s : State) (p : Nat) (l : SdiLane) (j_ : Nat) : (s.setLane p l).eng j_ = s.eng j_ := rfl
@[simp ↓] theorem eng_setSlot (s : State) (n : Nat) (v : SlotSt) (j_ : Nat) : (s.setSlot n v).eng j_ = s.eng j_ := rfl
@[simp ↓] theorem eng_setMember (s : State) (n sub : Nat) (v : Member) (j_ : Nat) : (s.setMember n sub v).eng j_ = s.eng j_ := rfl
@[simp ↓] theorem eng_setOut (s : State) (o : Nat) (v : OutSt) (j_ : Nat) : (s.setOut o v).eng j_ = s.eng j_ := rfl
@[simp ↓] theorem eng_setChan (s : State) (k : Nat) (c : Chan) (j_ : Nat) : (s.setChan k c).eng j_ = s.eng j_ := rfl
@[simp ↓] theorem eng_setDrop (s : State) (n : Nat) (v : Bool) (j_ : Nat) : (s.setDrop n v).eng j_ = s.eng j_ := rfl
@[simp ↓] theorem eng_setBatches (s : State) (l : List Batch) (j_ : Nat) : (s.setBatches l).eng j_ = s.eng j_ := rfl
@[simp ↓] theorem eng_setAes (s : State) (n : Nat) (v : AesIn) (j_ : Nat) : (s.setAes n v).eng j_ = s.eng j_ := rfl
@[simp ↓] theorem eng_setTdm (s : State) (n : Nat) (v : TdmPort) (j_ : Nat) : (s.setTdm n v).eng j_ = s.eng j_ := rfl
@[simp ↓] theorem eng_setPdest (s : State) (d : Nat) (v : PortDest) (j_ : Nat) : (s.setPdest d v).eng j_ = s.eng j_ := rfl
@[simp ↓] theorem eng_setPac (s : State) (p : PacSt) (j_ : Nat) : (s.setPac p).eng j_ = s.eng j_ := rfl
@[simp ↓] theorem eng_setRef (s : State) (r : Nat) (v : RefSt) (j_ : Nat) : (s.setRef r v).eng j_ = s.eng j_ := rfl
@[simp ↓] theorem eng_setPtp (s : State) (i : Nat) (v : PtpSt) (j_ : Nat) : (s.setPtp i v).eng j_ = s.eng j_ := rfl
@[simp ↓] theorem eng_setEth (s : State) (p : Nat) (v : EthPort) (j_ : Nat) : (s.setEth p v).eng j_ = s.eng j_ := rfl
@[simp ↓] theorem eng_setRx (s : State) (r : Nat) (v : RxCtx) (j_ : Nat) : (s.setRx r v).eng j_ = s.eng j_ := rfl
@[simp ↓] theorem eng_setTx (s : State) (c : Nat) (v : TxCtx) (j_ : Nat) : (s.setTx c v).eng j_ = s.eng j_ := rfl
@[simp ↓] theorem eng_setFl (s : State) (f : Nat) (l : FabLane) (j_ : Nat) : (s.setFl f l).eng j_ = s.eng j_ := rfl
@[simp ↓] theorem eng_setLink (s : State) (j : Nat) (l : FabLink) (j_ : Nat) : (s.setLink j l).eng j_ = s.eng j_ := rfl
@[simp ↓] theorem eng_setHead (s : State) (h : Nat) (v : HeadSt) (j_ : Nat) : (s.setHead h v).eng j_ = s.eng j_ := rfl
@[simp ↓] theorem eng_setLay (s : State) (l : Nat) (v : LayerSt) (j_ : Nat) : (s.setLay l v).eng j_ = s.eng j_ := rfl
@[simp ↓] theorem eng_setTw (s : State) (t : TwinSt) (j_ : Nat) : (s.setTw t).eng j_ = s.eng j_ := rfl
@[simp ↓] theorem eng_setPwr (s : State) (p : PwrSt) (j_ : Nat) : (s.setPwr p).eng j_ = s.eng j_ := rfl
@[simp ↓] theorem eng_setQuiet (s : State) (p t : Nat) (j_ : Nat) : (s.setQuiet p t).eng j_ = s.eng j_ := rfl
@[simp ↓] theorem eng_setUpd (s : State) (u : UpdSt) (j_ : Nat) : (s.setUpd u).eng j_ = s.eng j_ := rfl
@[simp ↓] theorem eng_setNum (s : State) (k n : Nat) (j_ : Nat) : (s.setNum k n).eng j_ = s.eng j_ := rfl
@[simp ↓] theorem eng_setInt (s : State) (k : Nat) (n : Int) (j_ : Nat) : (s.setInt k n).eng j_ = s.eng j_ := rfl
@[simp ↓] theorem eng_setBytes (s : State) (k : Nat) (b : List Byte) (j_ : Nat) : (s.setBytes k b).eng j_ = s.eng j_ := rfl
@[simp ↓] theorem eng_bump (s : State) (k n : Nat) (j_ : Nat) : (s.bump k n).eng j_ = s.eng j_ := rfl
@[simp ↓] theorem eng_bump64 (s : State) (k n : Nat) (j_ : Nat) : (s.bump64 k n).eng j_ = s.eng j_ := rfl
@[simp ↓] theorem eng_setBit (s : State) (off b : Nat) (j_ : Nat) : (s.setBit off b).eng j_ = s.eng j_ := rfl
@[simp ↓] theorem eng_rcAdd (s : State) (off hi lo n : Nat) (j_ : Nat) : (s.rcAdd off hi lo n).eng j_ = s.eng j_ := rfl
@[simp ↓] theorem eng_setDch (s : State) (c : Nat) (v : DmaCh) (j_ : Nat) : (s.setDch c v).eng j_ = s.eng j_ := rfl
@[simp ↓] theorem eng_setRing (s : State) (r : Nat) (v : RingSt) (j_ : Nat) : (s.setRing r v).eng j_ = s.eng j_ := rfl
@[simp ↓] theorem eng_setKey (s : State) (n : Nat) (k : KeySlot) (j_ : Nat) : (s.setKey n k).eng j_ = s.eng j_ := rfl
@[simp ↓] theorem eng_setImg (s : State) (k : Nat) (v : ImgSlot) (j_ : Nat) : (s.setImg k v).eng j_ = s.eng j_ := rfl
@[simp ↓] theorem eng_setBank (s : State) (k : Nat) (b : Bank) (j_ : Nat) : (s.setBank k b).eng j_ = s.eng j_ := rfl
@[simp ↓] theorem eng_setUst (s : State) (v : Nat) (j_ : Nat) : (s.setUst v).eng j_ = s.eng j_ := rfl
@[simp ↓] theorem ref_setObj (s : State) (k : Nat) (v : Val) (j_ : Nat) : (s.setObj k v).ref j_ = s.ref j_ := rfl
@[simp ↓] theorem ref_setReg (s : State) (off v : Nat) (j_ : Nat) : (s.setReg off v).ref j_ = s.ref j_ := rfl
@[simp ↓] theorem ref_setByte (s : State) (a : Nat) (b : Byte) (j_ : Nat) : (s.setByte a b).ref j_ = s.ref j_ := rfl
@[simp ↓] theorem ref_emit (s : State) (e : Emission) (j_ : Nat) : (s.emit e).ref j_ = s.ref j_ := rfl
@[simp ↓] theorem ref_setSess (s : State) (i : Nat) (v : Session) (j_ : Nat) : (s.setSess i v).ref j_ = s.ref j_ := rfl
@[simp ↓] theorem ref_setHif (s : State) (h : HifSt) (j_ : Nat) : (s.setHif h).ref j_ = s.ref j_ := rfl
@[simp ↓] theorem ref_setSrc (s : State) (n : Nat) (v : SrcSt) (j_ : Nat) : (s.setSrc n v).ref j_ = s.ref j_ := rfl
@[simp ↓] theorem ref_setLane (s : State) (p : Nat) (l : SdiLane) (j_ : Nat) : (s.setLane p l).ref j_ = s.ref j_ := rfl
@[simp ↓] theorem ref_setSlot (s : State) (n : Nat) (v : SlotSt) (j_ : Nat) : (s.setSlot n v).ref j_ = s.ref j_ := rfl
@[simp ↓] theorem ref_setMember (s : State) (n sub : Nat) (v : Member) (j_ : Nat) : (s.setMember n sub v).ref j_ = s.ref j_ := rfl
@[simp ↓] theorem ref_setOut (s : State) (o : Nat) (v : OutSt) (j_ : Nat) : (s.setOut o v).ref j_ = s.ref j_ := rfl
@[simp ↓] theorem ref_setChan (s : State) (k : Nat) (c : Chan) (j_ : Nat) : (s.setChan k c).ref j_ = s.ref j_ := rfl
@[simp ↓] theorem ref_setDrop (s : State) (n : Nat) (v : Bool) (j_ : Nat) : (s.setDrop n v).ref j_ = s.ref j_ := rfl
@[simp ↓] theorem ref_setBatches (s : State) (l : List Batch) (j_ : Nat) : (s.setBatches l).ref j_ = s.ref j_ := rfl
@[simp ↓] theorem ref_setAes (s : State) (n : Nat) (v : AesIn) (j_ : Nat) : (s.setAes n v).ref j_ = s.ref j_ := rfl
@[simp ↓] theorem ref_setTdm (s : State) (n : Nat) (v : TdmPort) (j_ : Nat) : (s.setTdm n v).ref j_ = s.ref j_ := rfl
@[simp ↓] theorem ref_setPdest (s : State) (d : Nat) (v : PortDest) (j_ : Nat) : (s.setPdest d v).ref j_ = s.ref j_ := rfl
@[simp ↓] theorem ref_setEng (s : State) (e : Nat) (r : EngRun) (j_ : Nat) : (s.setEng e r).ref j_ = s.ref j_ := rfl
@[simp ↓] theorem ref_setPtp (s : State) (i : Nat) (v : PtpSt) (j_ : Nat) : (s.setPtp i v).ref j_ = s.ref j_ := rfl
@[simp ↓] theorem ref_setEth (s : State) (p : Nat) (v : EthPort) (j_ : Nat) : (s.setEth p v).ref j_ = s.ref j_ := rfl
@[simp ↓] theorem ref_setRx (s : State) (r : Nat) (v : RxCtx) (j_ : Nat) : (s.setRx r v).ref j_ = s.ref j_ := rfl
@[simp ↓] theorem ref_setTx (s : State) (c : Nat) (v : TxCtx) (j_ : Nat) : (s.setTx c v).ref j_ = s.ref j_ := rfl
@[simp ↓] theorem ref_setFl (s : State) (f : Nat) (l : FabLane) (j_ : Nat) : (s.setFl f l).ref j_ = s.ref j_ := rfl
@[simp ↓] theorem ref_setLink (s : State) (j : Nat) (l : FabLink) (j_ : Nat) : (s.setLink j l).ref j_ = s.ref j_ := rfl
@[simp ↓] theorem ref_setHead (s : State) (h : Nat) (v : HeadSt) (j_ : Nat) : (s.setHead h v).ref j_ = s.ref j_ := rfl
@[simp ↓] theorem ref_setLay (s : State) (l : Nat) (v : LayerSt) (j_ : Nat) : (s.setLay l v).ref j_ = s.ref j_ := rfl
@[simp ↓] theorem ref_setTw (s : State) (t : TwinSt) (j_ : Nat) : (s.setTw t).ref j_ = s.ref j_ := rfl
@[simp ↓] theorem ref_setPwr (s : State) (p : PwrSt) (j_ : Nat) : (s.setPwr p).ref j_ = s.ref j_ := rfl
@[simp ↓] theorem ref_setQuiet (s : State) (p t : Nat) (j_ : Nat) : (s.setQuiet p t).ref j_ = s.ref j_ := rfl
@[simp ↓] theorem ref_setUpd (s : State) (u : UpdSt) (j_ : Nat) : (s.setUpd u).ref j_ = s.ref j_ := rfl
@[simp ↓] theorem ref_setNum (s : State) (k n : Nat) (j_ : Nat) : (s.setNum k n).ref j_ = s.ref j_ := rfl
@[simp ↓] theorem ref_setInt (s : State) (k : Nat) (n : Int) (j_ : Nat) : (s.setInt k n).ref j_ = s.ref j_ := rfl
@[simp ↓] theorem ref_setBytes (s : State) (k : Nat) (b : List Byte) (j_ : Nat) : (s.setBytes k b).ref j_ = s.ref j_ := rfl
@[simp ↓] theorem ref_bump (s : State) (k n : Nat) (j_ : Nat) : (s.bump k n).ref j_ = s.ref j_ := rfl
@[simp ↓] theorem ref_bump64 (s : State) (k n : Nat) (j_ : Nat) : (s.bump64 k n).ref j_ = s.ref j_ := rfl
@[simp ↓] theorem ref_setBit (s : State) (off b : Nat) (j_ : Nat) : (s.setBit off b).ref j_ = s.ref j_ := rfl
@[simp ↓] theorem ref_rcAdd (s : State) (off hi lo n : Nat) (j_ : Nat) : (s.rcAdd off hi lo n).ref j_ = s.ref j_ := rfl
@[simp ↓] theorem ref_setDch (s : State) (c : Nat) (v : DmaCh) (j_ : Nat) : (s.setDch c v).ref j_ = s.ref j_ := rfl
@[simp ↓] theorem ref_setRing (s : State) (r : Nat) (v : RingSt) (j_ : Nat) : (s.setRing r v).ref j_ = s.ref j_ := rfl
@[simp ↓] theorem ref_setKey (s : State) (n : Nat) (k : KeySlot) (j_ : Nat) : (s.setKey n k).ref j_ = s.ref j_ := rfl
@[simp ↓] theorem ref_setImg (s : State) (k : Nat) (v : ImgSlot) (j_ : Nat) : (s.setImg k v).ref j_ = s.ref j_ := rfl
@[simp ↓] theorem ref_setBank (s : State) (k : Nat) (b : Bank) (j_ : Nat) : (s.setBank k b).ref j_ = s.ref j_ := rfl
@[simp ↓] theorem ref_setUst (s : State) (v : Nat) (j_ : Nat) : (s.setUst v).ref j_ = s.ref j_ := rfl
@[simp ↓] theorem rx_setObj (s : State) (k : Nat) (v : Val) (j_ : Nat) : (s.setObj k v).rx j_ = s.rx j_ := rfl
@[simp ↓] theorem rx_setReg (s : State) (off v : Nat) (j_ : Nat) : (s.setReg off v).rx j_ = s.rx j_ := rfl
@[simp ↓] theorem rx_setByte (s : State) (a : Nat) (b : Byte) (j_ : Nat) : (s.setByte a b).rx j_ = s.rx j_ := rfl
@[simp ↓] theorem rx_emit (s : State) (e : Emission) (j_ : Nat) : (s.emit e).rx j_ = s.rx j_ := rfl
@[simp ↓] theorem rx_setSess (s : State) (i : Nat) (v : Session) (j_ : Nat) : (s.setSess i v).rx j_ = s.rx j_ := rfl
@[simp ↓] theorem rx_setHif (s : State) (h : HifSt) (j_ : Nat) : (s.setHif h).rx j_ = s.rx j_ := rfl
@[simp ↓] theorem rx_setSrc (s : State) (n : Nat) (v : SrcSt) (j_ : Nat) : (s.setSrc n v).rx j_ = s.rx j_ := rfl
@[simp ↓] theorem rx_setLane (s : State) (p : Nat) (l : SdiLane) (j_ : Nat) : (s.setLane p l).rx j_ = s.rx j_ := rfl
@[simp ↓] theorem rx_setSlot (s : State) (n : Nat) (v : SlotSt) (j_ : Nat) : (s.setSlot n v).rx j_ = s.rx j_ := rfl
@[simp ↓] theorem rx_setMember (s : State) (n sub : Nat) (v : Member) (j_ : Nat) : (s.setMember n sub v).rx j_ = s.rx j_ := rfl
@[simp ↓] theorem rx_setOut (s : State) (o : Nat) (v : OutSt) (j_ : Nat) : (s.setOut o v).rx j_ = s.rx j_ := rfl
@[simp ↓] theorem rx_setChan (s : State) (k : Nat) (c : Chan) (j_ : Nat) : (s.setChan k c).rx j_ = s.rx j_ := rfl
@[simp ↓] theorem rx_setDrop (s : State) (n : Nat) (v : Bool) (j_ : Nat) : (s.setDrop n v).rx j_ = s.rx j_ := rfl
@[simp ↓] theorem rx_setBatches (s : State) (l : List Batch) (j_ : Nat) : (s.setBatches l).rx j_ = s.rx j_ := rfl
@[simp ↓] theorem rx_setAes (s : State) (n : Nat) (v : AesIn) (j_ : Nat) : (s.setAes n v).rx j_ = s.rx j_ := rfl
@[simp ↓] theorem rx_setTdm (s : State) (n : Nat) (v : TdmPort) (j_ : Nat) : (s.setTdm n v).rx j_ = s.rx j_ := rfl
@[simp ↓] theorem rx_setPdest (s : State) (d : Nat) (v : PortDest) (j_ : Nat) : (s.setPdest d v).rx j_ = s.rx j_ := rfl
@[simp ↓] theorem rx_setEng (s : State) (e : Nat) (r : EngRun) (j_ : Nat) : (s.setEng e r).rx j_ = s.rx j_ := rfl
@[simp ↓] theorem rx_setPac (s : State) (p : PacSt) (j_ : Nat) : (s.setPac p).rx j_ = s.rx j_ := rfl
@[simp ↓] theorem rx_setRef (s : State) (r : Nat) (v : RefSt) (j_ : Nat) : (s.setRef r v).rx j_ = s.rx j_ := rfl
@[simp ↓] theorem rx_setPtp (s : State) (i : Nat) (v : PtpSt) (j_ : Nat) : (s.setPtp i v).rx j_ = s.rx j_ := rfl
@[simp ↓] theorem rx_setEth (s : State) (p : Nat) (v : EthPort) (j_ : Nat) : (s.setEth p v).rx j_ = s.rx j_ := rfl
@[simp ↓] theorem rx_setTx (s : State) (c : Nat) (v : TxCtx) (j_ : Nat) : (s.setTx c v).rx j_ = s.rx j_ := rfl
@[simp ↓] theorem rx_setFl (s : State) (f : Nat) (l : FabLane) (j_ : Nat) : (s.setFl f l).rx j_ = s.rx j_ := rfl
@[simp ↓] theorem rx_setLink (s : State) (j : Nat) (l : FabLink) (j_ : Nat) : (s.setLink j l).rx j_ = s.rx j_ := rfl
@[simp ↓] theorem rx_setHead (s : State) (h : Nat) (v : HeadSt) (j_ : Nat) : (s.setHead h v).rx j_ = s.rx j_ := rfl
@[simp ↓] theorem rx_setLay (s : State) (l : Nat) (v : LayerSt) (j_ : Nat) : (s.setLay l v).rx j_ = s.rx j_ := rfl
@[simp ↓] theorem rx_setTw (s : State) (t : TwinSt) (j_ : Nat) : (s.setTw t).rx j_ = s.rx j_ := rfl
@[simp ↓] theorem rx_setPwr (s : State) (p : PwrSt) (j_ : Nat) : (s.setPwr p).rx j_ = s.rx j_ := rfl
@[simp ↓] theorem rx_setQuiet (s : State) (p t : Nat) (j_ : Nat) : (s.setQuiet p t).rx j_ = s.rx j_ := rfl
@[simp ↓] theorem rx_setUpd (s : State) (u : UpdSt) (j_ : Nat) : (s.setUpd u).rx j_ = s.rx j_ := rfl
@[simp ↓] theorem rx_setNum (s : State) (k n : Nat) (j_ : Nat) : (s.setNum k n).rx j_ = s.rx j_ := rfl
@[simp ↓] theorem rx_setInt (s : State) (k : Nat) (n : Int) (j_ : Nat) : (s.setInt k n).rx j_ = s.rx j_ := rfl
@[simp ↓] theorem rx_setBytes (s : State) (k : Nat) (b : List Byte) (j_ : Nat) : (s.setBytes k b).rx j_ = s.rx j_ := rfl
@[simp ↓] theorem rx_bump (s : State) (k n : Nat) (j_ : Nat) : (s.bump k n).rx j_ = s.rx j_ := rfl
@[simp ↓] theorem rx_bump64 (s : State) (k n : Nat) (j_ : Nat) : (s.bump64 k n).rx j_ = s.rx j_ := rfl
@[simp ↓] theorem rx_setBit (s : State) (off b : Nat) (j_ : Nat) : (s.setBit off b).rx j_ = s.rx j_ := rfl
@[simp ↓] theorem rx_rcAdd (s : State) (off hi lo n : Nat) (j_ : Nat) : (s.rcAdd off hi lo n).rx j_ = s.rx j_ := rfl
@[simp ↓] theorem rx_setDch (s : State) (c : Nat) (v : DmaCh) (j_ : Nat) : (s.setDch c v).rx j_ = s.rx j_ := rfl
@[simp ↓] theorem rx_setRing (s : State) (r : Nat) (v : RingSt) (j_ : Nat) : (s.setRing r v).rx j_ = s.rx j_ := rfl
@[simp ↓] theorem rx_setKey (s : State) (n : Nat) (k : KeySlot) (j_ : Nat) : (s.setKey n k).rx j_ = s.rx j_ := rfl
@[simp ↓] theorem rx_setImg (s : State) (k : Nat) (v : ImgSlot) (j_ : Nat) : (s.setImg k v).rx j_ = s.rx j_ := rfl
@[simp ↓] theorem rx_setBank (s : State) (k : Nat) (b : Bank) (j_ : Nat) : (s.setBank k b).rx j_ = s.rx j_ := rfl
@[simp ↓] theorem rx_setUst (s : State) (v : Nat) (j_ : Nat) : (s.setUst v).rx j_ = s.rx j_ := rfl
@[simp ↓] theorem tx_setObj (s : State) (k : Nat) (v : Val) (j_ : Nat) : (s.setObj k v).tx j_ = s.tx j_ := rfl
@[simp ↓] theorem tx_setReg (s : State) (off v : Nat) (j_ : Nat) : (s.setReg off v).tx j_ = s.tx j_ := rfl
@[simp ↓] theorem tx_setByte (s : State) (a : Nat) (b : Byte) (j_ : Nat) : (s.setByte a b).tx j_ = s.tx j_ := rfl
@[simp ↓] theorem tx_emit (s : State) (e : Emission) (j_ : Nat) : (s.emit e).tx j_ = s.tx j_ := rfl
@[simp ↓] theorem tx_setSess (s : State) (i : Nat) (v : Session) (j_ : Nat) : (s.setSess i v).tx j_ = s.tx j_ := rfl
@[simp ↓] theorem tx_setHif (s : State) (h : HifSt) (j_ : Nat) : (s.setHif h).tx j_ = s.tx j_ := rfl
@[simp ↓] theorem tx_setSrc (s : State) (n : Nat) (v : SrcSt) (j_ : Nat) : (s.setSrc n v).tx j_ = s.tx j_ := rfl
@[simp ↓] theorem tx_setLane (s : State) (p : Nat) (l : SdiLane) (j_ : Nat) : (s.setLane p l).tx j_ = s.tx j_ := rfl
@[simp ↓] theorem tx_setSlot (s : State) (n : Nat) (v : SlotSt) (j_ : Nat) : (s.setSlot n v).tx j_ = s.tx j_ := rfl
@[simp ↓] theorem tx_setMember (s : State) (n sub : Nat) (v : Member) (j_ : Nat) : (s.setMember n sub v).tx j_ = s.tx j_ := rfl
@[simp ↓] theorem tx_setOut (s : State) (o : Nat) (v : OutSt) (j_ : Nat) : (s.setOut o v).tx j_ = s.tx j_ := rfl
@[simp ↓] theorem tx_setChan (s : State) (k : Nat) (c : Chan) (j_ : Nat) : (s.setChan k c).tx j_ = s.tx j_ := rfl
@[simp ↓] theorem tx_setDrop (s : State) (n : Nat) (v : Bool) (j_ : Nat) : (s.setDrop n v).tx j_ = s.tx j_ := rfl
@[simp ↓] theorem tx_setBatches (s : State) (l : List Batch) (j_ : Nat) : (s.setBatches l).tx j_ = s.tx j_ := rfl
@[simp ↓] theorem tx_setAes (s : State) (n : Nat) (v : AesIn) (j_ : Nat) : (s.setAes n v).tx j_ = s.tx j_ := rfl
@[simp ↓] theorem tx_setTdm (s : State) (n : Nat) (v : TdmPort) (j_ : Nat) : (s.setTdm n v).tx j_ = s.tx j_ := rfl
@[simp ↓] theorem tx_setPdest (s : State) (d : Nat) (v : PortDest) (j_ : Nat) : (s.setPdest d v).tx j_ = s.tx j_ := rfl
@[simp ↓] theorem tx_setEng (s : State) (e : Nat) (r : EngRun) (j_ : Nat) : (s.setEng e r).tx j_ = s.tx j_ := rfl
@[simp ↓] theorem tx_setPac (s : State) (p : PacSt) (j_ : Nat) : (s.setPac p).tx j_ = s.tx j_ := rfl
@[simp ↓] theorem tx_setRef (s : State) (r : Nat) (v : RefSt) (j_ : Nat) : (s.setRef r v).tx j_ = s.tx j_ := rfl
@[simp ↓] theorem tx_setPtp (s : State) (i : Nat) (v : PtpSt) (j_ : Nat) : (s.setPtp i v).tx j_ = s.tx j_ := rfl
@[simp ↓] theorem tx_setEth (s : State) (p : Nat) (v : EthPort) (j_ : Nat) : (s.setEth p v).tx j_ = s.tx j_ := rfl
@[simp ↓] theorem tx_setRx (s : State) (r : Nat) (v : RxCtx) (j_ : Nat) : (s.setRx r v).tx j_ = s.tx j_ := rfl
@[simp ↓] theorem tx_setFl (s : State) (f : Nat) (l : FabLane) (j_ : Nat) : (s.setFl f l).tx j_ = s.tx j_ := rfl
@[simp ↓] theorem tx_setLink (s : State) (j : Nat) (l : FabLink) (j_ : Nat) : (s.setLink j l).tx j_ = s.tx j_ := rfl
@[simp ↓] theorem tx_setHead (s : State) (h : Nat) (v : HeadSt) (j_ : Nat) : (s.setHead h v).tx j_ = s.tx j_ := rfl
@[simp ↓] theorem tx_setLay (s : State) (l : Nat) (v : LayerSt) (j_ : Nat) : (s.setLay l v).tx j_ = s.tx j_ := rfl
@[simp ↓] theorem tx_setTw (s : State) (t : TwinSt) (j_ : Nat) : (s.setTw t).tx j_ = s.tx j_ := rfl
@[simp ↓] theorem tx_setPwr (s : State) (p : PwrSt) (j_ : Nat) : (s.setPwr p).tx j_ = s.tx j_ := rfl
@[simp ↓] theorem tx_setQuiet (s : State) (p t : Nat) (j_ : Nat) : (s.setQuiet p t).tx j_ = s.tx j_ := rfl
@[simp ↓] theorem tx_setUpd (s : State) (u : UpdSt) (j_ : Nat) : (s.setUpd u).tx j_ = s.tx j_ := rfl
@[simp ↓] theorem tx_setNum (s : State) (k n : Nat) (j_ : Nat) : (s.setNum k n).tx j_ = s.tx j_ := rfl
@[simp ↓] theorem tx_setInt (s : State) (k : Nat) (n : Int) (j_ : Nat) : (s.setInt k n).tx j_ = s.tx j_ := rfl
@[simp ↓] theorem tx_setBytes (s : State) (k : Nat) (b : List Byte) (j_ : Nat) : (s.setBytes k b).tx j_ = s.tx j_ := rfl
@[simp ↓] theorem tx_bump (s : State) (k n : Nat) (j_ : Nat) : (s.bump k n).tx j_ = s.tx j_ := rfl
@[simp ↓] theorem tx_bump64 (s : State) (k n : Nat) (j_ : Nat) : (s.bump64 k n).tx j_ = s.tx j_ := rfl
@[simp ↓] theorem tx_setBit (s : State) (off b : Nat) (j_ : Nat) : (s.setBit off b).tx j_ = s.tx j_ := rfl
@[simp ↓] theorem tx_rcAdd (s : State) (off hi lo n : Nat) (j_ : Nat) : (s.rcAdd off hi lo n).tx j_ = s.tx j_ := rfl
@[simp ↓] theorem tx_setDch (s : State) (c : Nat) (v : DmaCh) (j_ : Nat) : (s.setDch c v).tx j_ = s.tx j_ := rfl
@[simp ↓] theorem tx_setRing (s : State) (r : Nat) (v : RingSt) (j_ : Nat) : (s.setRing r v).tx j_ = s.tx j_ := rfl
@[simp ↓] theorem tx_setKey (s : State) (n : Nat) (k : KeySlot) (j_ : Nat) : (s.setKey n k).tx j_ = s.tx j_ := rfl
@[simp ↓] theorem tx_setImg (s : State) (k : Nat) (v : ImgSlot) (j_ : Nat) : (s.setImg k v).tx j_ = s.tx j_ := rfl
@[simp ↓] theorem tx_setBank (s : State) (k : Nat) (b : Bank) (j_ : Nat) : (s.setBank k b).tx j_ = s.tx j_ := rfl
@[simp ↓] theorem tx_setUst (s : State) (v : Nat) (j_ : Nat) : (s.setUst v).tx j_ = s.tx j_ := rfl
@[simp ↓] theorem fl_setObj (s : State) (k : Nat) (v : Val) (j_ : Nat) : (s.setObj k v).fl j_ = s.fl j_ := rfl
@[simp ↓] theorem fl_setReg (s : State) (off v : Nat) (j_ : Nat) : (s.setReg off v).fl j_ = s.fl j_ := rfl
@[simp ↓] theorem fl_setByte (s : State) (a : Nat) (b : Byte) (j_ : Nat) : (s.setByte a b).fl j_ = s.fl j_ := rfl
@[simp ↓] theorem fl_emit (s : State) (e : Emission) (j_ : Nat) : (s.emit e).fl j_ = s.fl j_ := rfl
@[simp ↓] theorem fl_setSess (s : State) (i : Nat) (v : Session) (j_ : Nat) : (s.setSess i v).fl j_ = s.fl j_ := rfl
@[simp ↓] theorem fl_setHif (s : State) (h : HifSt) (j_ : Nat) : (s.setHif h).fl j_ = s.fl j_ := rfl
@[simp ↓] theorem fl_setSrc (s : State) (n : Nat) (v : SrcSt) (j_ : Nat) : (s.setSrc n v).fl j_ = s.fl j_ := rfl
@[simp ↓] theorem fl_setLane (s : State) (p : Nat) (l : SdiLane) (j_ : Nat) : (s.setLane p l).fl j_ = s.fl j_ := rfl
@[simp ↓] theorem fl_setSlot (s : State) (n : Nat) (v : SlotSt) (j_ : Nat) : (s.setSlot n v).fl j_ = s.fl j_ := rfl
@[simp ↓] theorem fl_setMember (s : State) (n sub : Nat) (v : Member) (j_ : Nat) : (s.setMember n sub v).fl j_ = s.fl j_ := rfl
@[simp ↓] theorem fl_setOut (s : State) (o : Nat) (v : OutSt) (j_ : Nat) : (s.setOut o v).fl j_ = s.fl j_ := rfl
@[simp ↓] theorem fl_setChan (s : State) (k : Nat) (c : Chan) (j_ : Nat) : (s.setChan k c).fl j_ = s.fl j_ := rfl
@[simp ↓] theorem fl_setDrop (s : State) (n : Nat) (v : Bool) (j_ : Nat) : (s.setDrop n v).fl j_ = s.fl j_ := rfl
@[simp ↓] theorem fl_setBatches (s : State) (l : List Batch) (j_ : Nat) : (s.setBatches l).fl j_ = s.fl j_ := rfl
@[simp ↓] theorem fl_setAes (s : State) (n : Nat) (v : AesIn) (j_ : Nat) : (s.setAes n v).fl j_ = s.fl j_ := rfl
@[simp ↓] theorem fl_setTdm (s : State) (n : Nat) (v : TdmPort) (j_ : Nat) : (s.setTdm n v).fl j_ = s.fl j_ := rfl
@[simp ↓] theorem fl_setPdest (s : State) (d : Nat) (v : PortDest) (j_ : Nat) : (s.setPdest d v).fl j_ = s.fl j_ := rfl
@[simp ↓] theorem fl_setEng (s : State) (e : Nat) (r : EngRun) (j_ : Nat) : (s.setEng e r).fl j_ = s.fl j_ := rfl
@[simp ↓] theorem fl_setPac (s : State) (p : PacSt) (j_ : Nat) : (s.setPac p).fl j_ = s.fl j_ := rfl
@[simp ↓] theorem fl_setRef (s : State) (r : Nat) (v : RefSt) (j_ : Nat) : (s.setRef r v).fl j_ = s.fl j_ := rfl
@[simp ↓] theorem fl_setPtp (s : State) (i : Nat) (v : PtpSt) (j_ : Nat) : (s.setPtp i v).fl j_ = s.fl j_ := rfl
@[simp ↓] theorem fl_setEth (s : State) (p : Nat) (v : EthPort) (j_ : Nat) : (s.setEth p v).fl j_ = s.fl j_ := rfl
@[simp ↓] theorem fl_setRx (s : State) (r : Nat) (v : RxCtx) (j_ : Nat) : (s.setRx r v).fl j_ = s.fl j_ := rfl
@[simp ↓] theorem fl_setTx (s : State) (c : Nat) (v : TxCtx) (j_ : Nat) : (s.setTx c v).fl j_ = s.fl j_ := rfl
@[simp ↓] theorem fl_setLink (s : State) (j : Nat) (l : FabLink) (j_ : Nat) : (s.setLink j l).fl j_ = s.fl j_ := rfl
@[simp ↓] theorem fl_setHead (s : State) (h : Nat) (v : HeadSt) (j_ : Nat) : (s.setHead h v).fl j_ = s.fl j_ := rfl
@[simp ↓] theorem fl_setLay (s : State) (l : Nat) (v : LayerSt) (j_ : Nat) : (s.setLay l v).fl j_ = s.fl j_ := rfl
@[simp ↓] theorem fl_setTw (s : State) (t : TwinSt) (j_ : Nat) : (s.setTw t).fl j_ = s.fl j_ := rfl
@[simp ↓] theorem fl_setPwr (s : State) (p : PwrSt) (j_ : Nat) : (s.setPwr p).fl j_ = s.fl j_ := rfl
@[simp ↓] theorem fl_setQuiet (s : State) (p t : Nat) (j_ : Nat) : (s.setQuiet p t).fl j_ = s.fl j_ := rfl
@[simp ↓] theorem fl_setUpd (s : State) (u : UpdSt) (j_ : Nat) : (s.setUpd u).fl j_ = s.fl j_ := rfl
@[simp ↓] theorem fl_setNum (s : State) (k n : Nat) (j_ : Nat) : (s.setNum k n).fl j_ = s.fl j_ := rfl
@[simp ↓] theorem fl_setInt (s : State) (k : Nat) (n : Int) (j_ : Nat) : (s.setInt k n).fl j_ = s.fl j_ := rfl
@[simp ↓] theorem fl_setBytes (s : State) (k : Nat) (b : List Byte) (j_ : Nat) : (s.setBytes k b).fl j_ = s.fl j_ := rfl
@[simp ↓] theorem fl_bump (s : State) (k n : Nat) (j_ : Nat) : (s.bump k n).fl j_ = s.fl j_ := rfl
@[simp ↓] theorem fl_bump64 (s : State) (k n : Nat) (j_ : Nat) : (s.bump64 k n).fl j_ = s.fl j_ := rfl
@[simp ↓] theorem fl_setBit (s : State) (off b : Nat) (j_ : Nat) : (s.setBit off b).fl j_ = s.fl j_ := rfl
@[simp ↓] theorem fl_rcAdd (s : State) (off hi lo n : Nat) (j_ : Nat) : (s.rcAdd off hi lo n).fl j_ = s.fl j_ := rfl
@[simp ↓] theorem fl_setDch (s : State) (c : Nat) (v : DmaCh) (j_ : Nat) : (s.setDch c v).fl j_ = s.fl j_ := rfl
@[simp ↓] theorem fl_setRing (s : State) (r : Nat) (v : RingSt) (j_ : Nat) : (s.setRing r v).fl j_ = s.fl j_ := rfl
@[simp ↓] theorem fl_setKey (s : State) (n : Nat) (k : KeySlot) (j_ : Nat) : (s.setKey n k).fl j_ = s.fl j_ := rfl
@[simp ↓] theorem fl_setImg (s : State) (k : Nat) (v : ImgSlot) (j_ : Nat) : (s.setImg k v).fl j_ = s.fl j_ := rfl
@[simp ↓] theorem fl_setBank (s : State) (k : Nat) (b : Bank) (j_ : Nat) : (s.setBank k b).fl j_ = s.fl j_ := rfl
@[simp ↓] theorem fl_setUst (s : State) (v : Nat) (j_ : Nat) : (s.setUst v).fl j_ = s.fl j_ := rfl
@[simp ↓] theorem link_setObj (s : State) (k : Nat) (v : Val) (j_ : Nat) : (s.setObj k v).link j_ = s.link j_ := rfl
@[simp ↓] theorem link_setReg (s : State) (off v : Nat) (j_ : Nat) : (s.setReg off v).link j_ = s.link j_ := rfl
@[simp ↓] theorem link_setByte (s : State) (a : Nat) (b : Byte) (j_ : Nat) : (s.setByte a b).link j_ = s.link j_ := rfl
@[simp ↓] theorem link_emit (s : State) (e : Emission) (j_ : Nat) : (s.emit e).link j_ = s.link j_ := rfl
@[simp ↓] theorem link_setSess (s : State) (i : Nat) (v : Session) (j_ : Nat) : (s.setSess i v).link j_ = s.link j_ := rfl
@[simp ↓] theorem link_setHif (s : State) (h : HifSt) (j_ : Nat) : (s.setHif h).link j_ = s.link j_ := rfl
@[simp ↓] theorem link_setSrc (s : State) (n : Nat) (v : SrcSt) (j_ : Nat) : (s.setSrc n v).link j_ = s.link j_ := rfl
@[simp ↓] theorem link_setLane (s : State) (p : Nat) (l : SdiLane) (j_ : Nat) : (s.setLane p l).link j_ = s.link j_ := rfl
@[simp ↓] theorem link_setSlot (s : State) (n : Nat) (v : SlotSt) (j_ : Nat) : (s.setSlot n v).link j_ = s.link j_ := rfl
@[simp ↓] theorem link_setMember (s : State) (n sub : Nat) (v : Member) (j_ : Nat) : (s.setMember n sub v).link j_ = s.link j_ := rfl
@[simp ↓] theorem link_setOut (s : State) (o : Nat) (v : OutSt) (j_ : Nat) : (s.setOut o v).link j_ = s.link j_ := rfl
@[simp ↓] theorem link_setChan (s : State) (k : Nat) (c : Chan) (j_ : Nat) : (s.setChan k c).link j_ = s.link j_ := rfl
@[simp ↓] theorem link_setDrop (s : State) (n : Nat) (v : Bool) (j_ : Nat) : (s.setDrop n v).link j_ = s.link j_ := rfl
@[simp ↓] theorem link_setBatches (s : State) (l : List Batch) (j_ : Nat) : (s.setBatches l).link j_ = s.link j_ := rfl
@[simp ↓] theorem link_setAes (s : State) (n : Nat) (v : AesIn) (j_ : Nat) : (s.setAes n v).link j_ = s.link j_ := rfl
@[simp ↓] theorem link_setTdm (s : State) (n : Nat) (v : TdmPort) (j_ : Nat) : (s.setTdm n v).link j_ = s.link j_ := rfl
@[simp ↓] theorem link_setPdest (s : State) (d : Nat) (v : PortDest) (j_ : Nat) : (s.setPdest d v).link j_ = s.link j_ := rfl
@[simp ↓] theorem link_setEng (s : State) (e : Nat) (r : EngRun) (j_ : Nat) : (s.setEng e r).link j_ = s.link j_ := rfl
@[simp ↓] theorem link_setPac (s : State) (p : PacSt) (j_ : Nat) : (s.setPac p).link j_ = s.link j_ := rfl
@[simp ↓] theorem link_setRef (s : State) (r : Nat) (v : RefSt) (j_ : Nat) : (s.setRef r v).link j_ = s.link j_ := rfl
@[simp ↓] theorem link_setPtp (s : State) (i : Nat) (v : PtpSt) (j_ : Nat) : (s.setPtp i v).link j_ = s.link j_ := rfl
@[simp ↓] theorem link_setEth (s : State) (p : Nat) (v : EthPort) (j_ : Nat) : (s.setEth p v).link j_ = s.link j_ := rfl
@[simp ↓] theorem link_setRx (s : State) (r : Nat) (v : RxCtx) (j_ : Nat) : (s.setRx r v).link j_ = s.link j_ := rfl
@[simp ↓] theorem link_setTx (s : State) (c : Nat) (v : TxCtx) (j_ : Nat) : (s.setTx c v).link j_ = s.link j_ := rfl
@[simp ↓] theorem link_setFl (s : State) (f : Nat) (l : FabLane) (j_ : Nat) : (s.setFl f l).link j_ = s.link j_ := rfl
@[simp ↓] theorem link_setHead (s : State) (h : Nat) (v : HeadSt) (j_ : Nat) : (s.setHead h v).link j_ = s.link j_ := rfl
@[simp ↓] theorem link_setLay (s : State) (l : Nat) (v : LayerSt) (j_ : Nat) : (s.setLay l v).link j_ = s.link j_ := rfl
@[simp ↓] theorem link_setTw (s : State) (t : TwinSt) (j_ : Nat) : (s.setTw t).link j_ = s.link j_ := rfl
@[simp ↓] theorem link_setPwr (s : State) (p : PwrSt) (j_ : Nat) : (s.setPwr p).link j_ = s.link j_ := rfl
@[simp ↓] theorem link_setQuiet (s : State) (p t : Nat) (j_ : Nat) : (s.setQuiet p t).link j_ = s.link j_ := rfl
@[simp ↓] theorem link_setUpd (s : State) (u : UpdSt) (j_ : Nat) : (s.setUpd u).link j_ = s.link j_ := rfl
@[simp ↓] theorem link_setNum (s : State) (k n : Nat) (j_ : Nat) : (s.setNum k n).link j_ = s.link j_ := rfl
@[simp ↓] theorem link_setInt (s : State) (k : Nat) (n : Int) (j_ : Nat) : (s.setInt k n).link j_ = s.link j_ := rfl
@[simp ↓] theorem link_setBytes (s : State) (k : Nat) (b : List Byte) (j_ : Nat) : (s.setBytes k b).link j_ = s.link j_ := rfl
@[simp ↓] theorem link_bump (s : State) (k n : Nat) (j_ : Nat) : (s.bump k n).link j_ = s.link j_ := rfl
@[simp ↓] theorem link_bump64 (s : State) (k n : Nat) (j_ : Nat) : (s.bump64 k n).link j_ = s.link j_ := rfl
@[simp ↓] theorem link_setBit (s : State) (off b : Nat) (j_ : Nat) : (s.setBit off b).link j_ = s.link j_ := rfl
@[simp ↓] theorem link_rcAdd (s : State) (off hi lo n : Nat) (j_ : Nat) : (s.rcAdd off hi lo n).link j_ = s.link j_ := rfl
@[simp ↓] theorem link_setDch (s : State) (c : Nat) (v : DmaCh) (j_ : Nat) : (s.setDch c v).link j_ = s.link j_ := rfl
@[simp ↓] theorem link_setRing (s : State) (r : Nat) (v : RingSt) (j_ : Nat) : (s.setRing r v).link j_ = s.link j_ := rfl
@[simp ↓] theorem link_setKey (s : State) (n : Nat) (k : KeySlot) (j_ : Nat) : (s.setKey n k).link j_ = s.link j_ := rfl
@[simp ↓] theorem link_setImg (s : State) (k : Nat) (v : ImgSlot) (j_ : Nat) : (s.setImg k v).link j_ = s.link j_ := rfl
@[simp ↓] theorem link_setBank (s : State) (k : Nat) (b : Bank) (j_ : Nat) : (s.setBank k b).link j_ = s.link j_ := rfl
@[simp ↓] theorem link_setUst (s : State) (v : Nat) (j_ : Nat) : (s.setUst v).link j_ = s.link j_ := rfl
@[simp ↓] theorem head_setObj (s : State) (k : Nat) (v : Val) (j_ : Nat) : (s.setObj k v).head j_ = s.head j_ := rfl
@[simp ↓] theorem head_setReg (s : State) (off v : Nat) (j_ : Nat) : (s.setReg off v).head j_ = s.head j_ := rfl
@[simp ↓] theorem head_setByte (s : State) (a : Nat) (b : Byte) (j_ : Nat) : (s.setByte a b).head j_ = s.head j_ := rfl
@[simp ↓] theorem head_emit (s : State) (e : Emission) (j_ : Nat) : (s.emit e).head j_ = s.head j_ := rfl
@[simp ↓] theorem head_setSess (s : State) (i : Nat) (v : Session) (j_ : Nat) : (s.setSess i v).head j_ = s.head j_ := rfl
@[simp ↓] theorem head_setHif (s : State) (h : HifSt) (j_ : Nat) : (s.setHif h).head j_ = s.head j_ := rfl
@[simp ↓] theorem head_setSrc (s : State) (n : Nat) (v : SrcSt) (j_ : Nat) : (s.setSrc n v).head j_ = s.head j_ := rfl
@[simp ↓] theorem head_setLane (s : State) (p : Nat) (l : SdiLane) (j_ : Nat) : (s.setLane p l).head j_ = s.head j_ := rfl
@[simp ↓] theorem head_setSlot (s : State) (n : Nat) (v : SlotSt) (j_ : Nat) : (s.setSlot n v).head j_ = s.head j_ := rfl
@[simp ↓] theorem head_setMember (s : State) (n sub : Nat) (v : Member) (j_ : Nat) : (s.setMember n sub v).head j_ = s.head j_ := rfl
@[simp ↓] theorem head_setOut (s : State) (o : Nat) (v : OutSt) (j_ : Nat) : (s.setOut o v).head j_ = s.head j_ := rfl
@[simp ↓] theorem head_setChan (s : State) (k : Nat) (c : Chan) (j_ : Nat) : (s.setChan k c).head j_ = s.head j_ := rfl
@[simp ↓] theorem head_setDrop (s : State) (n : Nat) (v : Bool) (j_ : Nat) : (s.setDrop n v).head j_ = s.head j_ := rfl
@[simp ↓] theorem head_setBatches (s : State) (l : List Batch) (j_ : Nat) : (s.setBatches l).head j_ = s.head j_ := rfl
@[simp ↓] theorem head_setAes (s : State) (n : Nat) (v : AesIn) (j_ : Nat) : (s.setAes n v).head j_ = s.head j_ := rfl
@[simp ↓] theorem head_setTdm (s : State) (n : Nat) (v : TdmPort) (j_ : Nat) : (s.setTdm n v).head j_ = s.head j_ := rfl
@[simp ↓] theorem head_setPdest (s : State) (d : Nat) (v : PortDest) (j_ : Nat) : (s.setPdest d v).head j_ = s.head j_ := rfl
@[simp ↓] theorem head_setEng (s : State) (e : Nat) (r : EngRun) (j_ : Nat) : (s.setEng e r).head j_ = s.head j_ := rfl
@[simp ↓] theorem head_setPac (s : State) (p : PacSt) (j_ : Nat) : (s.setPac p).head j_ = s.head j_ := rfl
@[simp ↓] theorem head_setRef (s : State) (r : Nat) (v : RefSt) (j_ : Nat) : (s.setRef r v).head j_ = s.head j_ := rfl
@[simp ↓] theorem head_setPtp (s : State) (i : Nat) (v : PtpSt) (j_ : Nat) : (s.setPtp i v).head j_ = s.head j_ := rfl
@[simp ↓] theorem head_setEth (s : State) (p : Nat) (v : EthPort) (j_ : Nat) : (s.setEth p v).head j_ = s.head j_ := rfl
@[simp ↓] theorem head_setRx (s : State) (r : Nat) (v : RxCtx) (j_ : Nat) : (s.setRx r v).head j_ = s.head j_ := rfl
@[simp ↓] theorem head_setTx (s : State) (c : Nat) (v : TxCtx) (j_ : Nat) : (s.setTx c v).head j_ = s.head j_ := rfl
@[simp ↓] theorem head_setFl (s : State) (f : Nat) (l : FabLane) (j_ : Nat) : (s.setFl f l).head j_ = s.head j_ := rfl
@[simp ↓] theorem head_setLink (s : State) (j : Nat) (l : FabLink) (j_ : Nat) : (s.setLink j l).head j_ = s.head j_ := rfl
@[simp ↓] theorem head_setLay (s : State) (l : Nat) (v : LayerSt) (j_ : Nat) : (s.setLay l v).head j_ = s.head j_ := rfl
@[simp ↓] theorem head_setTw (s : State) (t : TwinSt) (j_ : Nat) : (s.setTw t).head j_ = s.head j_ := rfl
@[simp ↓] theorem head_setPwr (s : State) (p : PwrSt) (j_ : Nat) : (s.setPwr p).head j_ = s.head j_ := rfl
@[simp ↓] theorem head_setQuiet (s : State) (p t : Nat) (j_ : Nat) : (s.setQuiet p t).head j_ = s.head j_ := rfl
@[simp ↓] theorem head_setUpd (s : State) (u : UpdSt) (j_ : Nat) : (s.setUpd u).head j_ = s.head j_ := rfl
@[simp ↓] theorem head_setNum (s : State) (k n : Nat) (j_ : Nat) : (s.setNum k n).head j_ = s.head j_ := rfl
@[simp ↓] theorem head_setInt (s : State) (k : Nat) (n : Int) (j_ : Nat) : (s.setInt k n).head j_ = s.head j_ := rfl
@[simp ↓] theorem head_setBytes (s : State) (k : Nat) (b : List Byte) (j_ : Nat) : (s.setBytes k b).head j_ = s.head j_ := rfl
@[simp ↓] theorem head_bump (s : State) (k n : Nat) (j_ : Nat) : (s.bump k n).head j_ = s.head j_ := rfl
@[simp ↓] theorem head_bump64 (s : State) (k n : Nat) (j_ : Nat) : (s.bump64 k n).head j_ = s.head j_ := rfl
@[simp ↓] theorem head_setBit (s : State) (off b : Nat) (j_ : Nat) : (s.setBit off b).head j_ = s.head j_ := rfl
@[simp ↓] theorem head_rcAdd (s : State) (off hi lo n : Nat) (j_ : Nat) : (s.rcAdd off hi lo n).head j_ = s.head j_ := rfl
@[simp ↓] theorem head_setDch (s : State) (c : Nat) (v : DmaCh) (j_ : Nat) : (s.setDch c v).head j_ = s.head j_ := rfl
@[simp ↓] theorem head_setRing (s : State) (r : Nat) (v : RingSt) (j_ : Nat) : (s.setRing r v).head j_ = s.head j_ := rfl
@[simp ↓] theorem head_setKey (s : State) (n : Nat) (k : KeySlot) (j_ : Nat) : (s.setKey n k).head j_ = s.head j_ := rfl
@[simp ↓] theorem head_setImg (s : State) (k : Nat) (v : ImgSlot) (j_ : Nat) : (s.setImg k v).head j_ = s.head j_ := rfl
@[simp ↓] theorem head_setBank (s : State) (k : Nat) (b : Bank) (j_ : Nat) : (s.setBank k b).head j_ = s.head j_ := rfl
@[simp ↓] theorem head_setUst (s : State) (v : Nat) (j_ : Nat) : (s.setUst v).head j_ = s.head j_ := rfl
@[simp ↓] theorem lay_setObj (s : State) (k : Nat) (v : Val) (j_ : Nat) : (s.setObj k v).lay j_ = s.lay j_ := rfl
@[simp ↓] theorem lay_setReg (s : State) (off v : Nat) (j_ : Nat) : (s.setReg off v).lay j_ = s.lay j_ := rfl
@[simp ↓] theorem lay_setByte (s : State) (a : Nat) (b : Byte) (j_ : Nat) : (s.setByte a b).lay j_ = s.lay j_ := rfl
@[simp ↓] theorem lay_emit (s : State) (e : Emission) (j_ : Nat) : (s.emit e).lay j_ = s.lay j_ := rfl
@[simp ↓] theorem lay_setSess (s : State) (i : Nat) (v : Session) (j_ : Nat) : (s.setSess i v).lay j_ = s.lay j_ := rfl
@[simp ↓] theorem lay_setHif (s : State) (h : HifSt) (j_ : Nat) : (s.setHif h).lay j_ = s.lay j_ := rfl
@[simp ↓] theorem lay_setSrc (s : State) (n : Nat) (v : SrcSt) (j_ : Nat) : (s.setSrc n v).lay j_ = s.lay j_ := rfl
@[simp ↓] theorem lay_setLane (s : State) (p : Nat) (l : SdiLane) (j_ : Nat) : (s.setLane p l).lay j_ = s.lay j_ := rfl
@[simp ↓] theorem lay_setSlot (s : State) (n : Nat) (v : SlotSt) (j_ : Nat) : (s.setSlot n v).lay j_ = s.lay j_ := rfl
@[simp ↓] theorem lay_setMember (s : State) (n sub : Nat) (v : Member) (j_ : Nat) : (s.setMember n sub v).lay j_ = s.lay j_ := rfl
@[simp ↓] theorem lay_setOut (s : State) (o : Nat) (v : OutSt) (j_ : Nat) : (s.setOut o v).lay j_ = s.lay j_ := rfl
@[simp ↓] theorem lay_setChan (s : State) (k : Nat) (c : Chan) (j_ : Nat) : (s.setChan k c).lay j_ = s.lay j_ := rfl
@[simp ↓] theorem lay_setDrop (s : State) (n : Nat) (v : Bool) (j_ : Nat) : (s.setDrop n v).lay j_ = s.lay j_ := rfl
@[simp ↓] theorem lay_setBatches (s : State) (l : List Batch) (j_ : Nat) : (s.setBatches l).lay j_ = s.lay j_ := rfl
@[simp ↓] theorem lay_setAes (s : State) (n : Nat) (v : AesIn) (j_ : Nat) : (s.setAes n v).lay j_ = s.lay j_ := rfl
@[simp ↓] theorem lay_setTdm (s : State) (n : Nat) (v : TdmPort) (j_ : Nat) : (s.setTdm n v).lay j_ = s.lay j_ := rfl
@[simp ↓] theorem lay_setPdest (s : State) (d : Nat) (v : PortDest) (j_ : Nat) : (s.setPdest d v).lay j_ = s.lay j_ := rfl
@[simp ↓] theorem lay_setEng (s : State) (e : Nat) (r : EngRun) (j_ : Nat) : (s.setEng e r).lay j_ = s.lay j_ := rfl
@[simp ↓] theorem lay_setPac (s : State) (p : PacSt) (j_ : Nat) : (s.setPac p).lay j_ = s.lay j_ := rfl
@[simp ↓] theorem lay_setRef (s : State) (r : Nat) (v : RefSt) (j_ : Nat) : (s.setRef r v).lay j_ = s.lay j_ := rfl
@[simp ↓] theorem lay_setPtp (s : State) (i : Nat) (v : PtpSt) (j_ : Nat) : (s.setPtp i v).lay j_ = s.lay j_ := rfl
@[simp ↓] theorem lay_setEth (s : State) (p : Nat) (v : EthPort) (j_ : Nat) : (s.setEth p v).lay j_ = s.lay j_ := rfl
@[simp ↓] theorem lay_setRx (s : State) (r : Nat) (v : RxCtx) (j_ : Nat) : (s.setRx r v).lay j_ = s.lay j_ := rfl
@[simp ↓] theorem lay_setTx (s : State) (c : Nat) (v : TxCtx) (j_ : Nat) : (s.setTx c v).lay j_ = s.lay j_ := rfl
@[simp ↓] theorem lay_setFl (s : State) (f : Nat) (l : FabLane) (j_ : Nat) : (s.setFl f l).lay j_ = s.lay j_ := rfl
@[simp ↓] theorem lay_setLink (s : State) (j : Nat) (l : FabLink) (j_ : Nat) : (s.setLink j l).lay j_ = s.lay j_ := rfl
@[simp ↓] theorem lay_setHead (s : State) (h : Nat) (v : HeadSt) (j_ : Nat) : (s.setHead h v).lay j_ = s.lay j_ := rfl
@[simp ↓] theorem lay_setTw (s : State) (t : TwinSt) (j_ : Nat) : (s.setTw t).lay j_ = s.lay j_ := rfl
@[simp ↓] theorem lay_setPwr (s : State) (p : PwrSt) (j_ : Nat) : (s.setPwr p).lay j_ = s.lay j_ := rfl
@[simp ↓] theorem lay_setQuiet (s : State) (p t : Nat) (j_ : Nat) : (s.setQuiet p t).lay j_ = s.lay j_ := rfl
@[simp ↓] theorem lay_setUpd (s : State) (u : UpdSt) (j_ : Nat) : (s.setUpd u).lay j_ = s.lay j_ := rfl
@[simp ↓] theorem lay_setNum (s : State) (k n : Nat) (j_ : Nat) : (s.setNum k n).lay j_ = s.lay j_ := rfl
@[simp ↓] theorem lay_setInt (s : State) (k : Nat) (n : Int) (j_ : Nat) : (s.setInt k n).lay j_ = s.lay j_ := rfl
@[simp ↓] theorem lay_setBytes (s : State) (k : Nat) (b : List Byte) (j_ : Nat) : (s.setBytes k b).lay j_ = s.lay j_ := rfl
@[simp ↓] theorem lay_bump (s : State) (k n : Nat) (j_ : Nat) : (s.bump k n).lay j_ = s.lay j_ := rfl
@[simp ↓] theorem lay_bump64 (s : State) (k n : Nat) (j_ : Nat) : (s.bump64 k n).lay j_ = s.lay j_ := rfl
@[simp ↓] theorem lay_setBit (s : State) (off b : Nat) (j_ : Nat) : (s.setBit off b).lay j_ = s.lay j_ := rfl
@[simp ↓] theorem lay_rcAdd (s : State) (off hi lo n : Nat) (j_ : Nat) : (s.rcAdd off hi lo n).lay j_ = s.lay j_ := rfl
@[simp ↓] theorem lay_setDch (s : State) (c : Nat) (v : DmaCh) (j_ : Nat) : (s.setDch c v).lay j_ = s.lay j_ := rfl
@[simp ↓] theorem lay_setRing (s : State) (r : Nat) (v : RingSt) (j_ : Nat) : (s.setRing r v).lay j_ = s.lay j_ := rfl
@[simp ↓] theorem lay_setKey (s : State) (n : Nat) (k : KeySlot) (j_ : Nat) : (s.setKey n k).lay j_ = s.lay j_ := rfl
@[simp ↓] theorem lay_setImg (s : State) (k : Nat) (v : ImgSlot) (j_ : Nat) : (s.setImg k v).lay j_ = s.lay j_ := rfl
@[simp ↓] theorem lay_setBank (s : State) (k : Nat) (b : Bank) (j_ : Nat) : (s.setBank k b).lay j_ = s.lay j_ := rfl
@[simp ↓] theorem lay_setUst (s : State) (v : Nat) (j_ : Nat) : (s.setUst v).lay j_ = s.lay j_ := rfl
@[simp ↓] theorem src_setObj (s : State) (k : Nat) (v : Val) (j_ : Nat) : (s.setObj k v).src j_ = s.src j_ := rfl
@[simp ↓] theorem src_setReg (s : State) (off v : Nat) (j_ : Nat) : (s.setReg off v).src j_ = s.src j_ := rfl
@[simp ↓] theorem src_setByte (s : State) (a : Nat) (b : Byte) (j_ : Nat) : (s.setByte a b).src j_ = s.src j_ := rfl
@[simp ↓] theorem src_emit (s : State) (e : Emission) (j_ : Nat) : (s.emit e).src j_ = s.src j_ := rfl
@[simp ↓] theorem src_setSess (s : State) (i : Nat) (v : Session) (j_ : Nat) : (s.setSess i v).src j_ = s.src j_ := rfl
@[simp ↓] theorem src_setHif (s : State) (h : HifSt) (j_ : Nat) : (s.setHif h).src j_ = s.src j_ := rfl
@[simp ↓] theorem src_setLane (s : State) (p : Nat) (l : SdiLane) (j_ : Nat) : (s.setLane p l).src j_ = s.src j_ := rfl
@[simp ↓] theorem src_setSlot (s : State) (n : Nat) (v : SlotSt) (j_ : Nat) : (s.setSlot n v).src j_ = s.src j_ := rfl
@[simp ↓] theorem src_setMember (s : State) (n sub : Nat) (v : Member) (j_ : Nat) : (s.setMember n sub v).src j_ = s.src j_ := rfl
@[simp ↓] theorem src_setOut (s : State) (o : Nat) (v : OutSt) (j_ : Nat) : (s.setOut o v).src j_ = s.src j_ := rfl
@[simp ↓] theorem src_setChan (s : State) (k : Nat) (c : Chan) (j_ : Nat) : (s.setChan k c).src j_ = s.src j_ := rfl
@[simp ↓] theorem src_setDrop (s : State) (n : Nat) (v : Bool) (j_ : Nat) : (s.setDrop n v).src j_ = s.src j_ := rfl
@[simp ↓] theorem src_setBatches (s : State) (l : List Batch) (j_ : Nat) : (s.setBatches l).src j_ = s.src j_ := rfl
@[simp ↓] theorem src_setAes (s : State) (n : Nat) (v : AesIn) (j_ : Nat) : (s.setAes n v).src j_ = s.src j_ := rfl
@[simp ↓] theorem src_setTdm (s : State) (n : Nat) (v : TdmPort) (j_ : Nat) : (s.setTdm n v).src j_ = s.src j_ := rfl
@[simp ↓] theorem src_setPdest (s : State) (d : Nat) (v : PortDest) (j_ : Nat) : (s.setPdest d v).src j_ = s.src j_ := rfl
@[simp ↓] theorem src_setEng (s : State) (e : Nat) (r : EngRun) (j_ : Nat) : (s.setEng e r).src j_ = s.src j_ := rfl
@[simp ↓] theorem src_setPac (s : State) (p : PacSt) (j_ : Nat) : (s.setPac p).src j_ = s.src j_ := rfl
@[simp ↓] theorem src_setRef (s : State) (r : Nat) (v : RefSt) (j_ : Nat) : (s.setRef r v).src j_ = s.src j_ := rfl
@[simp ↓] theorem src_setPtp (s : State) (i : Nat) (v : PtpSt) (j_ : Nat) : (s.setPtp i v).src j_ = s.src j_ := rfl
@[simp ↓] theorem src_setEth (s : State) (p : Nat) (v : EthPort) (j_ : Nat) : (s.setEth p v).src j_ = s.src j_ := rfl
@[simp ↓] theorem src_setRx (s : State) (r : Nat) (v : RxCtx) (j_ : Nat) : (s.setRx r v).src j_ = s.src j_ := rfl
@[simp ↓] theorem src_setTx (s : State) (c : Nat) (v : TxCtx) (j_ : Nat) : (s.setTx c v).src j_ = s.src j_ := rfl
@[simp ↓] theorem src_setFl (s : State) (f : Nat) (l : FabLane) (j_ : Nat) : (s.setFl f l).src j_ = s.src j_ := rfl
@[simp ↓] theorem src_setLink (s : State) (j : Nat) (l : FabLink) (j_ : Nat) : (s.setLink j l).src j_ = s.src j_ := rfl
@[simp ↓] theorem src_setHead (s : State) (h : Nat) (v : HeadSt) (j_ : Nat) : (s.setHead h v).src j_ = s.src j_ := rfl
@[simp ↓] theorem src_setLay (s : State) (l : Nat) (v : LayerSt) (j_ : Nat) : (s.setLay l v).src j_ = s.src j_ := rfl
@[simp ↓] theorem src_setTw (s : State) (t : TwinSt) (j_ : Nat) : (s.setTw t).src j_ = s.src j_ := rfl
@[simp ↓] theorem src_setPwr (s : State) (p : PwrSt) (j_ : Nat) : (s.setPwr p).src j_ = s.src j_ := rfl
@[simp ↓] theorem src_setQuiet (s : State) (p t : Nat) (j_ : Nat) : (s.setQuiet p t).src j_ = s.src j_ := rfl
@[simp ↓] theorem src_setUpd (s : State) (u : UpdSt) (j_ : Nat) : (s.setUpd u).src j_ = s.src j_ := rfl
@[simp ↓] theorem src_setNum (s : State) (k n : Nat) (j_ : Nat) : (s.setNum k n).src j_ = s.src j_ := rfl
@[simp ↓] theorem src_setInt (s : State) (k : Nat) (n : Int) (j_ : Nat) : (s.setInt k n).src j_ = s.src j_ := rfl
@[simp ↓] theorem src_setBytes (s : State) (k : Nat) (b : List Byte) (j_ : Nat) : (s.setBytes k b).src j_ = s.src j_ := rfl
@[simp ↓] theorem src_bump (s : State) (k n : Nat) (j_ : Nat) : (s.bump k n).src j_ = s.src j_ := rfl
@[simp ↓] theorem src_bump64 (s : State) (k n : Nat) (j_ : Nat) : (s.bump64 k n).src j_ = s.src j_ := rfl
@[simp ↓] theorem src_setBit (s : State) (off b : Nat) (j_ : Nat) : (s.setBit off b).src j_ = s.src j_ := rfl
@[simp ↓] theorem src_rcAdd (s : State) (off hi lo n : Nat) (j_ : Nat) : (s.rcAdd off hi lo n).src j_ = s.src j_ := rfl
@[simp ↓] theorem src_setDch (s : State) (c : Nat) (v : DmaCh) (j_ : Nat) : (s.setDch c v).src j_ = s.src j_ := rfl
@[simp ↓] theorem src_setRing (s : State) (r : Nat) (v : RingSt) (j_ : Nat) : (s.setRing r v).src j_ = s.src j_ := rfl
@[simp ↓] theorem src_setKey (s : State) (n : Nat) (k : KeySlot) (j_ : Nat) : (s.setKey n k).src j_ = s.src j_ := rfl
@[simp ↓] theorem src_setImg (s : State) (k : Nat) (v : ImgSlot) (j_ : Nat) : (s.setImg k v).src j_ = s.src j_ := rfl
@[simp ↓] theorem src_setBank (s : State) (k : Nat) (b : Bank) (j_ : Nat) : (s.setBank k b).src j_ = s.src j_ := rfl
@[simp ↓] theorem src_setUst (s : State) (v : Nat) (j_ : Nat) : (s.setUst v).src j_ = s.src j_ := rfl
@[simp ↓] theorem sess_setObj (s : State) (k : Nat) (v : Val) (j_ : Nat) : (s.setObj k v).sess j_ = s.sess j_ := rfl
@[simp ↓] theorem sess_setReg (s : State) (off v : Nat) (j_ : Nat) : (s.setReg off v).sess j_ = s.sess j_ := rfl
@[simp ↓] theorem sess_setByte (s : State) (a : Nat) (b : Byte) (j_ : Nat) : (s.setByte a b).sess j_ = s.sess j_ := rfl
@[simp ↓] theorem sess_emit (s : State) (e : Emission) (j_ : Nat) : (s.emit e).sess j_ = s.sess j_ := rfl
@[simp ↓] theorem sess_setHif (s : State) (h : HifSt) (j_ : Nat) : (s.setHif h).sess j_ = s.sess j_ := rfl
@[simp ↓] theorem sess_setSrc (s : State) (n : Nat) (v : SrcSt) (j_ : Nat) : (s.setSrc n v).sess j_ = s.sess j_ := rfl
@[simp ↓] theorem sess_setLane (s : State) (p : Nat) (l : SdiLane) (j_ : Nat) : (s.setLane p l).sess j_ = s.sess j_ := rfl
@[simp ↓] theorem sess_setSlot (s : State) (n : Nat) (v : SlotSt) (j_ : Nat) : (s.setSlot n v).sess j_ = s.sess j_ := rfl
@[simp ↓] theorem sess_setMember (s : State) (n sub : Nat) (v : Member) (j_ : Nat) : (s.setMember n sub v).sess j_ = s.sess j_ := rfl
@[simp ↓] theorem sess_setOut (s : State) (o : Nat) (v : OutSt) (j_ : Nat) : (s.setOut o v).sess j_ = s.sess j_ := rfl
@[simp ↓] theorem sess_setChan (s : State) (k : Nat) (c : Chan) (j_ : Nat) : (s.setChan k c).sess j_ = s.sess j_ := rfl
@[simp ↓] theorem sess_setDrop (s : State) (n : Nat) (v : Bool) (j_ : Nat) : (s.setDrop n v).sess j_ = s.sess j_ := rfl
@[simp ↓] theorem sess_setBatches (s : State) (l : List Batch) (j_ : Nat) : (s.setBatches l).sess j_ = s.sess j_ := rfl
@[simp ↓] theorem sess_setAes (s : State) (n : Nat) (v : AesIn) (j_ : Nat) : (s.setAes n v).sess j_ = s.sess j_ := rfl
@[simp ↓] theorem sess_setTdm (s : State) (n : Nat) (v : TdmPort) (j_ : Nat) : (s.setTdm n v).sess j_ = s.sess j_ := rfl
@[simp ↓] theorem sess_setPdest (s : State) (d : Nat) (v : PortDest) (j_ : Nat) : (s.setPdest d v).sess j_ = s.sess j_ := rfl
@[simp ↓] theorem sess_setEng (s : State) (e : Nat) (r : EngRun) (j_ : Nat) : (s.setEng e r).sess j_ = s.sess j_ := rfl
@[simp ↓] theorem sess_setPac (s : State) (p : PacSt) (j_ : Nat) : (s.setPac p).sess j_ = s.sess j_ := rfl
@[simp ↓] theorem sess_setRef (s : State) (r : Nat) (v : RefSt) (j_ : Nat) : (s.setRef r v).sess j_ = s.sess j_ := rfl
@[simp ↓] theorem sess_setPtp (s : State) (i : Nat) (v : PtpSt) (j_ : Nat) : (s.setPtp i v).sess j_ = s.sess j_ := rfl
@[simp ↓] theorem sess_setEth (s : State) (p : Nat) (v : EthPort) (j_ : Nat) : (s.setEth p v).sess j_ = s.sess j_ := rfl
@[simp ↓] theorem sess_setRx (s : State) (r : Nat) (v : RxCtx) (j_ : Nat) : (s.setRx r v).sess j_ = s.sess j_ := rfl
@[simp ↓] theorem sess_setTx (s : State) (c : Nat) (v : TxCtx) (j_ : Nat) : (s.setTx c v).sess j_ = s.sess j_ := rfl
@[simp ↓] theorem sess_setFl (s : State) (f : Nat) (l : FabLane) (j_ : Nat) : (s.setFl f l).sess j_ = s.sess j_ := rfl
@[simp ↓] theorem sess_setLink (s : State) (j : Nat) (l : FabLink) (j_ : Nat) : (s.setLink j l).sess j_ = s.sess j_ := rfl
@[simp ↓] theorem sess_setHead (s : State) (h : Nat) (v : HeadSt) (j_ : Nat) : (s.setHead h v).sess j_ = s.sess j_ := rfl
@[simp ↓] theorem sess_setLay (s : State) (l : Nat) (v : LayerSt) (j_ : Nat) : (s.setLay l v).sess j_ = s.sess j_ := rfl
@[simp ↓] theorem sess_setTw (s : State) (t : TwinSt) (j_ : Nat) : (s.setTw t).sess j_ = s.sess j_ := rfl
@[simp ↓] theorem sess_setPwr (s : State) (p : PwrSt) (j_ : Nat) : (s.setPwr p).sess j_ = s.sess j_ := rfl
@[simp ↓] theorem sess_setQuiet (s : State) (p t : Nat) (j_ : Nat) : (s.setQuiet p t).sess j_ = s.sess j_ := rfl
@[simp ↓] theorem sess_setUpd (s : State) (u : UpdSt) (j_ : Nat) : (s.setUpd u).sess j_ = s.sess j_ := rfl
@[simp ↓] theorem sess_setNum (s : State) (k n : Nat) (j_ : Nat) : (s.setNum k n).sess j_ = s.sess j_ := rfl
@[simp ↓] theorem sess_setInt (s : State) (k : Nat) (n : Int) (j_ : Nat) : (s.setInt k n).sess j_ = s.sess j_ := rfl
@[simp ↓] theorem sess_setBytes (s : State) (k : Nat) (b : List Byte) (j_ : Nat) : (s.setBytes k b).sess j_ = s.sess j_ := rfl
@[simp ↓] theorem sess_bump (s : State) (k n : Nat) (j_ : Nat) : (s.bump k n).sess j_ = s.sess j_ := rfl
@[simp ↓] theorem sess_bump64 (s : State) (k n : Nat) (j_ : Nat) : (s.bump64 k n).sess j_ = s.sess j_ := rfl
@[simp ↓] theorem sess_setBit (s : State) (off b : Nat) (j_ : Nat) : (s.setBit off b).sess j_ = s.sess j_ := rfl
@[simp ↓] theorem sess_rcAdd (s : State) (off hi lo n : Nat) (j_ : Nat) : (s.rcAdd off hi lo n).sess j_ = s.sess j_ := rfl
@[simp ↓] theorem sess_setDch (s : State) (c : Nat) (v : DmaCh) (j_ : Nat) : (s.setDch c v).sess j_ = s.sess j_ := rfl
@[simp ↓] theorem sess_setRing (s : State) (r : Nat) (v : RingSt) (j_ : Nat) : (s.setRing r v).sess j_ = s.sess j_ := rfl
@[simp ↓] theorem sess_setKey (s : State) (n : Nat) (k : KeySlot) (j_ : Nat) : (s.setKey n k).sess j_ = s.sess j_ := rfl
@[simp ↓] theorem sess_setImg (s : State) (k : Nat) (v : ImgSlot) (j_ : Nat) : (s.setImg k v).sess j_ = s.sess j_ := rfl
@[simp ↓] theorem sess_setBank (s : State) (k : Nat) (b : Bank) (j_ : Nat) : (s.setBank k b).sess j_ = s.sess j_ := rfl
@[simp ↓] theorem sess_setUst (s : State) (v : Nat) (j_ : Nat) : (s.setUst v).sess j_ = s.sess j_ := rfl
@[simp ↓] theorem key_setObj (s : State) (k : Nat) (v : Val) (j_ : Nat) : (s.setObj k v).key j_ = s.key j_ := rfl
@[simp ↓] theorem key_setReg (s : State) (off v : Nat) (j_ : Nat) : (s.setReg off v).key j_ = s.key j_ := rfl
@[simp ↓] theorem key_setByte (s : State) (a : Nat) (b : Byte) (j_ : Nat) : (s.setByte a b).key j_ = s.key j_ := rfl
@[simp ↓] theorem key_emit (s : State) (e : Emission) (j_ : Nat) : (s.emit e).key j_ = s.key j_ := rfl
@[simp ↓] theorem key_setSess (s : State) (i : Nat) (v : Session) (j_ : Nat) : (s.setSess i v).key j_ = s.key j_ := rfl
@[simp ↓] theorem key_setHif (s : State) (h : HifSt) (j_ : Nat) : (s.setHif h).key j_ = s.key j_ := rfl
@[simp ↓] theorem key_setSrc (s : State) (n : Nat) (v : SrcSt) (j_ : Nat) : (s.setSrc n v).key j_ = s.key j_ := rfl
@[simp ↓] theorem key_setLane (s : State) (p : Nat) (l : SdiLane) (j_ : Nat) : (s.setLane p l).key j_ = s.key j_ := rfl
@[simp ↓] theorem key_setSlot (s : State) (n : Nat) (v : SlotSt) (j_ : Nat) : (s.setSlot n v).key j_ = s.key j_ := rfl
@[simp ↓] theorem key_setMember (s : State) (n sub : Nat) (v : Member) (j_ : Nat) : (s.setMember n sub v).key j_ = s.key j_ := rfl
@[simp ↓] theorem key_setOut (s : State) (o : Nat) (v : OutSt) (j_ : Nat) : (s.setOut o v).key j_ = s.key j_ := rfl
@[simp ↓] theorem key_setChan (s : State) (k : Nat) (c : Chan) (j_ : Nat) : (s.setChan k c).key j_ = s.key j_ := rfl
@[simp ↓] theorem key_setDrop (s : State) (n : Nat) (v : Bool) (j_ : Nat) : (s.setDrop n v).key j_ = s.key j_ := rfl
@[simp ↓] theorem key_setBatches (s : State) (l : List Batch) (j_ : Nat) : (s.setBatches l).key j_ = s.key j_ := rfl
@[simp ↓] theorem key_setAes (s : State) (n : Nat) (v : AesIn) (j_ : Nat) : (s.setAes n v).key j_ = s.key j_ := rfl
@[simp ↓] theorem key_setTdm (s : State) (n : Nat) (v : TdmPort) (j_ : Nat) : (s.setTdm n v).key j_ = s.key j_ := rfl
@[simp ↓] theorem key_setPdest (s : State) (d : Nat) (v : PortDest) (j_ : Nat) : (s.setPdest d v).key j_ = s.key j_ := rfl
@[simp ↓] theorem key_setEng (s : State) (e : Nat) (r : EngRun) (j_ : Nat) : (s.setEng e r).key j_ = s.key j_ := rfl
@[simp ↓] theorem key_setPac (s : State) (p : PacSt) (j_ : Nat) : (s.setPac p).key j_ = s.key j_ := rfl
@[simp ↓] theorem key_setRef (s : State) (r : Nat) (v : RefSt) (j_ : Nat) : (s.setRef r v).key j_ = s.key j_ := rfl
@[simp ↓] theorem key_setPtp (s : State) (i : Nat) (v : PtpSt) (j_ : Nat) : (s.setPtp i v).key j_ = s.key j_ := rfl
@[simp ↓] theorem key_setEth (s : State) (p : Nat) (v : EthPort) (j_ : Nat) : (s.setEth p v).key j_ = s.key j_ := rfl
@[simp ↓] theorem key_setRx (s : State) (r : Nat) (v : RxCtx) (j_ : Nat) : (s.setRx r v).key j_ = s.key j_ := rfl
@[simp ↓] theorem key_setTx (s : State) (c : Nat) (v : TxCtx) (j_ : Nat) : (s.setTx c v).key j_ = s.key j_ := rfl
@[simp ↓] theorem key_setFl (s : State) (f : Nat) (l : FabLane) (j_ : Nat) : (s.setFl f l).key j_ = s.key j_ := rfl
@[simp ↓] theorem key_setLink (s : State) (j : Nat) (l : FabLink) (j_ : Nat) : (s.setLink j l).key j_ = s.key j_ := rfl
@[simp ↓] theorem key_setHead (s : State) (h : Nat) (v : HeadSt) (j_ : Nat) : (s.setHead h v).key j_ = s.key j_ := rfl
@[simp ↓] theorem key_setLay (s : State) (l : Nat) (v : LayerSt) (j_ : Nat) : (s.setLay l v).key j_ = s.key j_ := rfl
@[simp ↓] theorem key_setTw (s : State) (t : TwinSt) (j_ : Nat) : (s.setTw t).key j_ = s.key j_ := rfl
@[simp ↓] theorem key_setPwr (s : State) (p : PwrSt) (j_ : Nat) : (s.setPwr p).key j_ = s.key j_ := rfl
@[simp ↓] theorem key_setQuiet (s : State) (p t : Nat) (j_ : Nat) : (s.setQuiet p t).key j_ = s.key j_ := rfl
@[simp ↓] theorem key_setNum (s : State) (k n : Nat) (j_ : Nat) : (s.setNum k n).key j_ = s.key j_ := rfl
@[simp ↓] theorem key_setInt (s : State) (k : Nat) (n : Int) (j_ : Nat) : (s.setInt k n).key j_ = s.key j_ := rfl
@[simp ↓] theorem key_setBytes (s : State) (k : Nat) (b : List Byte) (j_ : Nat) : (s.setBytes k b).key j_ = s.key j_ := rfl
@[simp ↓] theorem key_bump (s : State) (k n : Nat) (j_ : Nat) : (s.bump k n).key j_ = s.key j_ := rfl
@[simp ↓] theorem key_bump64 (s : State) (k n : Nat) (j_ : Nat) : (s.bump64 k n).key j_ = s.key j_ := rfl
@[simp ↓] theorem key_setBit (s : State) (off b : Nat) (j_ : Nat) : (s.setBit off b).key j_ = s.key j_ := rfl
@[simp ↓] theorem key_rcAdd (s : State) (off hi lo n : Nat) (j_ : Nat) : (s.rcAdd off hi lo n).key j_ = s.key j_ := rfl
@[simp ↓] theorem key_setDch (s : State) (c : Nat) (v : DmaCh) (j_ : Nat) : (s.setDch c v).key j_ = s.key j_ := rfl
@[simp ↓] theorem key_setRing (s : State) (r : Nat) (v : RingSt) (j_ : Nat) : (s.setRing r v).key j_ = s.key j_ := rfl
@[simp ↓] theorem key_setImg (s : State) (k : Nat) (v : ImgSlot) (j_ : Nat) : (s.setImg k v).key j_ = s.key j_ := rfl
@[simp ↓] theorem key_setBank (s : State) (k : Nat) (b : Bank) (j_ : Nat) : (s.setBank k b).key j_ = s.key j_ := rfl
@[simp ↓] theorem key_setUst (s : State) (v : Nat) (j_ : Nat) : (s.setUst v).key j_ = s.key j_ := rfl
@[simp ↓] theorem img_setObj (s : State) (k : Nat) (v : Val) (j_ : Nat) : (s.setObj k v).img j_ = s.img j_ := rfl
@[simp ↓] theorem img_setReg (s : State) (off v : Nat) (j_ : Nat) : (s.setReg off v).img j_ = s.img j_ := rfl
@[simp ↓] theorem img_setByte (s : State) (a : Nat) (b : Byte) (j_ : Nat) : (s.setByte a b).img j_ = s.img j_ := rfl
@[simp ↓] theorem img_emit (s : State) (e : Emission) (j_ : Nat) : (s.emit e).img j_ = s.img j_ := rfl
@[simp ↓] theorem img_setSess (s : State) (i : Nat) (v : Session) (j_ : Nat) : (s.setSess i v).img j_ = s.img j_ := rfl
@[simp ↓] theorem img_setHif (s : State) (h : HifSt) (j_ : Nat) : (s.setHif h).img j_ = s.img j_ := rfl
@[simp ↓] theorem img_setSrc (s : State) (n : Nat) (v : SrcSt) (j_ : Nat) : (s.setSrc n v).img j_ = s.img j_ := rfl
@[simp ↓] theorem img_setLane (s : State) (p : Nat) (l : SdiLane) (j_ : Nat) : (s.setLane p l).img j_ = s.img j_ := rfl
@[simp ↓] theorem img_setSlot (s : State) (n : Nat) (v : SlotSt) (j_ : Nat) : (s.setSlot n v).img j_ = s.img j_ := rfl
@[simp ↓] theorem img_setMember (s : State) (n sub : Nat) (v : Member) (j_ : Nat) : (s.setMember n sub v).img j_ = s.img j_ := rfl
@[simp ↓] theorem img_setOut (s : State) (o : Nat) (v : OutSt) (j_ : Nat) : (s.setOut o v).img j_ = s.img j_ := rfl
@[simp ↓] theorem img_setChan (s : State) (k : Nat) (c : Chan) (j_ : Nat) : (s.setChan k c).img j_ = s.img j_ := rfl
@[simp ↓] theorem img_setDrop (s : State) (n : Nat) (v : Bool) (j_ : Nat) : (s.setDrop n v).img j_ = s.img j_ := rfl
@[simp ↓] theorem img_setBatches (s : State) (l : List Batch) (j_ : Nat) : (s.setBatches l).img j_ = s.img j_ := rfl
@[simp ↓] theorem img_setAes (s : State) (n : Nat) (v : AesIn) (j_ : Nat) : (s.setAes n v).img j_ = s.img j_ := rfl
@[simp ↓] theorem img_setTdm (s : State) (n : Nat) (v : TdmPort) (j_ : Nat) : (s.setTdm n v).img j_ = s.img j_ := rfl
@[simp ↓] theorem img_setPdest (s : State) (d : Nat) (v : PortDest) (j_ : Nat) : (s.setPdest d v).img j_ = s.img j_ := rfl
@[simp ↓] theorem img_setEng (s : State) (e : Nat) (r : EngRun) (j_ : Nat) : (s.setEng e r).img j_ = s.img j_ := rfl
@[simp ↓] theorem img_setPac (s : State) (p : PacSt) (j_ : Nat) : (s.setPac p).img j_ = s.img j_ := rfl
@[simp ↓] theorem img_setRef (s : State) (r : Nat) (v : RefSt) (j_ : Nat) : (s.setRef r v).img j_ = s.img j_ := rfl
@[simp ↓] theorem img_setPtp (s : State) (i : Nat) (v : PtpSt) (j_ : Nat) : (s.setPtp i v).img j_ = s.img j_ := rfl
@[simp ↓] theorem img_setEth (s : State) (p : Nat) (v : EthPort) (j_ : Nat) : (s.setEth p v).img j_ = s.img j_ := rfl
@[simp ↓] theorem img_setRx (s : State) (r : Nat) (v : RxCtx) (j_ : Nat) : (s.setRx r v).img j_ = s.img j_ := rfl
@[simp ↓] theorem img_setTx (s : State) (c : Nat) (v : TxCtx) (j_ : Nat) : (s.setTx c v).img j_ = s.img j_ := rfl
@[simp ↓] theorem img_setFl (s : State) (f : Nat) (l : FabLane) (j_ : Nat) : (s.setFl f l).img j_ = s.img j_ := rfl
@[simp ↓] theorem img_setLink (s : State) (j : Nat) (l : FabLink) (j_ : Nat) : (s.setLink j l).img j_ = s.img j_ := rfl
@[simp ↓] theorem img_setHead (s : State) (h : Nat) (v : HeadSt) (j_ : Nat) : (s.setHead h v).img j_ = s.img j_ := rfl
@[simp ↓] theorem img_setLay (s : State) (l : Nat) (v : LayerSt) (j_ : Nat) : (s.setLay l v).img j_ = s.img j_ := rfl
@[simp ↓] theorem img_setTw (s : State) (t : TwinSt) (j_ : Nat) : (s.setTw t).img j_ = s.img j_ := rfl
@[simp ↓] theorem img_setPwr (s : State) (p : PwrSt) (j_ : Nat) : (s.setPwr p).img j_ = s.img j_ := rfl
@[simp ↓] theorem img_setQuiet (s : State) (p t : Nat) (j_ : Nat) : (s.setQuiet p t).img j_ = s.img j_ := rfl
@[simp ↓] theorem img_setNum (s : State) (k n : Nat) (j_ : Nat) : (s.setNum k n).img j_ = s.img j_ := rfl
@[simp ↓] theorem img_setInt (s : State) (k : Nat) (n : Int) (j_ : Nat) : (s.setInt k n).img j_ = s.img j_ := rfl
@[simp ↓] theorem img_setBytes (s : State) (k : Nat) (b : List Byte) (j_ : Nat) : (s.setBytes k b).img j_ = s.img j_ := rfl
@[simp ↓] theorem img_bump (s : State) (k n : Nat) (j_ : Nat) : (s.bump k n).img j_ = s.img j_ := rfl
@[simp ↓] theorem img_bump64 (s : State) (k n : Nat) (j_ : Nat) : (s.bump64 k n).img j_ = s.img j_ := rfl
@[simp ↓] theorem img_setBit (s : State) (off b : Nat) (j_ : Nat) : (s.setBit off b).img j_ = s.img j_ := rfl
@[simp ↓] theorem img_rcAdd (s : State) (off hi lo n : Nat) (j_ : Nat) : (s.rcAdd off hi lo n).img j_ = s.img j_ := rfl
@[simp ↓] theorem img_setDch (s : State) (c : Nat) (v : DmaCh) (j_ : Nat) : (s.setDch c v).img j_ = s.img j_ := rfl
@[simp ↓] theorem img_setRing (s : State) (r : Nat) (v : RingSt) (j_ : Nat) : (s.setRing r v).img j_ = s.img j_ := rfl
@[simp ↓] theorem img_setKey (s : State) (n : Nat) (k : KeySlot) (j_ : Nat) : (s.setKey n k).img j_ = s.img j_ := rfl
@[simp ↓] theorem img_setBank (s : State) (k : Nat) (b : Bank) (j_ : Nat) : (s.setBank k b).img j_ = s.img j_ := rfl
@[simp ↓] theorem img_setUst (s : State) (v : Nat) (j_ : Nat) : (s.setUst v).img j_ = s.img j_ := rfl
@[simp ↓] theorem dch_setObj (s : State) (k : Nat) (v : Val) (j_ : Nat) : (s.setObj k v).dch j_ = s.dch j_ := rfl
@[simp ↓] theorem dch_setReg (s : State) (off v : Nat) (j_ : Nat) : (s.setReg off v).dch j_ = s.dch j_ := rfl
@[simp ↓] theorem dch_setByte (s : State) (a : Nat) (b : Byte) (j_ : Nat) : (s.setByte a b).dch j_ = s.dch j_ := rfl
@[simp ↓] theorem dch_emit (s : State) (e : Emission) (j_ : Nat) : (s.emit e).dch j_ = s.dch j_ := rfl
@[simp ↓] theorem dch_setSess (s : State) (i : Nat) (v : Session) (j_ : Nat) : (s.setSess i v).dch j_ = s.dch j_ := rfl
@[simp ↓] theorem dch_setSrc (s : State) (n : Nat) (v : SrcSt) (j_ : Nat) : (s.setSrc n v).dch j_ = s.dch j_ := rfl
@[simp ↓] theorem dch_setLane (s : State) (p : Nat) (l : SdiLane) (j_ : Nat) : (s.setLane p l).dch j_ = s.dch j_ := rfl
@[simp ↓] theorem dch_setSlot (s : State) (n : Nat) (v : SlotSt) (j_ : Nat) : (s.setSlot n v).dch j_ = s.dch j_ := rfl
@[simp ↓] theorem dch_setMember (s : State) (n sub : Nat) (v : Member) (j_ : Nat) : (s.setMember n sub v).dch j_ = s.dch j_ := rfl
@[simp ↓] theorem dch_setOut (s : State) (o : Nat) (v : OutSt) (j_ : Nat) : (s.setOut o v).dch j_ = s.dch j_ := rfl
@[simp ↓] theorem dch_setChan (s : State) (k : Nat) (c : Chan) (j_ : Nat) : (s.setChan k c).dch j_ = s.dch j_ := rfl
@[simp ↓] theorem dch_setDrop (s : State) (n : Nat) (v : Bool) (j_ : Nat) : (s.setDrop n v).dch j_ = s.dch j_ := rfl
@[simp ↓] theorem dch_setBatches (s : State) (l : List Batch) (j_ : Nat) : (s.setBatches l).dch j_ = s.dch j_ := rfl
@[simp ↓] theorem dch_setAes (s : State) (n : Nat) (v : AesIn) (j_ : Nat) : (s.setAes n v).dch j_ = s.dch j_ := rfl
@[simp ↓] theorem dch_setTdm (s : State) (n : Nat) (v : TdmPort) (j_ : Nat) : (s.setTdm n v).dch j_ = s.dch j_ := rfl
@[simp ↓] theorem dch_setPdest (s : State) (d : Nat) (v : PortDest) (j_ : Nat) : (s.setPdest d v).dch j_ = s.dch j_ := rfl
@[simp ↓] theorem dch_setEng (s : State) (e : Nat) (r : EngRun) (j_ : Nat) : (s.setEng e r).dch j_ = s.dch j_ := rfl
@[simp ↓] theorem dch_setPac (s : State) (p : PacSt) (j_ : Nat) : (s.setPac p).dch j_ = s.dch j_ := rfl
@[simp ↓] theorem dch_setRef (s : State) (r : Nat) (v : RefSt) (j_ : Nat) : (s.setRef r v).dch j_ = s.dch j_ := rfl
@[simp ↓] theorem dch_setPtp (s : State) (i : Nat) (v : PtpSt) (j_ : Nat) : (s.setPtp i v).dch j_ = s.dch j_ := rfl
@[simp ↓] theorem dch_setEth (s : State) (p : Nat) (v : EthPort) (j_ : Nat) : (s.setEth p v).dch j_ = s.dch j_ := rfl
@[simp ↓] theorem dch_setRx (s : State) (r : Nat) (v : RxCtx) (j_ : Nat) : (s.setRx r v).dch j_ = s.dch j_ := rfl
@[simp ↓] theorem dch_setTx (s : State) (c : Nat) (v : TxCtx) (j_ : Nat) : (s.setTx c v).dch j_ = s.dch j_ := rfl
@[simp ↓] theorem dch_setFl (s : State) (f : Nat) (l : FabLane) (j_ : Nat) : (s.setFl f l).dch j_ = s.dch j_ := rfl
@[simp ↓] theorem dch_setLink (s : State) (j : Nat) (l : FabLink) (j_ : Nat) : (s.setLink j l).dch j_ = s.dch j_ := rfl
@[simp ↓] theorem dch_setHead (s : State) (h : Nat) (v : HeadSt) (j_ : Nat) : (s.setHead h v).dch j_ = s.dch j_ := rfl
@[simp ↓] theorem dch_setLay (s : State) (l : Nat) (v : LayerSt) (j_ : Nat) : (s.setLay l v).dch j_ = s.dch j_ := rfl
@[simp ↓] theorem dch_setTw (s : State) (t : TwinSt) (j_ : Nat) : (s.setTw t).dch j_ = s.dch j_ := rfl
@[simp ↓] theorem dch_setPwr (s : State) (p : PwrSt) (j_ : Nat) : (s.setPwr p).dch j_ = s.dch j_ := rfl
@[simp ↓] theorem dch_setQuiet (s : State) (p t : Nat) (j_ : Nat) : (s.setQuiet p t).dch j_ = s.dch j_ := rfl
@[simp ↓] theorem dch_setUpd (s : State) (u : UpdSt) (j_ : Nat) : (s.setUpd u).dch j_ = s.dch j_ := rfl
@[simp ↓] theorem dch_setNum (s : State) (k n : Nat) (j_ : Nat) : (s.setNum k n).dch j_ = s.dch j_ := rfl
@[simp ↓] theorem dch_setInt (s : State) (k : Nat) (n : Int) (j_ : Nat) : (s.setInt k n).dch j_ = s.dch j_ := rfl
@[simp ↓] theorem dch_setBytes (s : State) (k : Nat) (b : List Byte) (j_ : Nat) : (s.setBytes k b).dch j_ = s.dch j_ := rfl
@[simp ↓] theorem dch_bump (s : State) (k n : Nat) (j_ : Nat) : (s.bump k n).dch j_ = s.dch j_ := rfl
@[simp ↓] theorem dch_bump64 (s : State) (k n : Nat) (j_ : Nat) : (s.bump64 k n).dch j_ = s.dch j_ := rfl
@[simp ↓] theorem dch_setBit (s : State) (off b : Nat) (j_ : Nat) : (s.setBit off b).dch j_ = s.dch j_ := rfl
@[simp ↓] theorem dch_rcAdd (s : State) (off hi lo n : Nat) (j_ : Nat) : (s.rcAdd off hi lo n).dch j_ = s.dch j_ := rfl
@[simp ↓] theorem dch_setRing (s : State) (r : Nat) (v : RingSt) (j_ : Nat) : (s.setRing r v).dch j_ = s.dch j_ := rfl
@[simp ↓] theorem dch_setKey (s : State) (n : Nat) (k : KeySlot) (j_ : Nat) : (s.setKey n k).dch j_ = s.dch j_ := rfl
@[simp ↓] theorem dch_setImg (s : State) (k : Nat) (v : ImgSlot) (j_ : Nat) : (s.setImg k v).dch j_ = s.dch j_ := rfl
@[simp ↓] theorem dch_setBank (s : State) (k : Nat) (b : Bank) (j_ : Nat) : (s.setBank k b).dch j_ = s.dch j_ := rfl
@[simp ↓] theorem dch_setUst (s : State) (v : Nat) (j_ : Nat) : (s.setUst v).dch j_ = s.dch j_ := rfl
@[simp ↓] theorem ring_setObj (s : State) (k : Nat) (v : Val) (j_ : Nat) : (s.setObj k v).ring j_ = s.ring j_ := rfl
@[simp ↓] theorem ring_setReg (s : State) (off v : Nat) (j_ : Nat) : (s.setReg off v).ring j_ = s.ring j_ := rfl
@[simp ↓] theorem ring_setByte (s : State) (a : Nat) (b : Byte) (j_ : Nat) : (s.setByte a b).ring j_ = s.ring j_ := rfl
@[simp ↓] theorem ring_emit (s : State) (e : Emission) (j_ : Nat) : (s.emit e).ring j_ = s.ring j_ := rfl
@[simp ↓] theorem ring_setSess (s : State) (i : Nat) (v : Session) (j_ : Nat) : (s.setSess i v).ring j_ = s.ring j_ := rfl
@[simp ↓] theorem ring_setSrc (s : State) (n : Nat) (v : SrcSt) (j_ : Nat) : (s.setSrc n v).ring j_ = s.ring j_ := rfl
@[simp ↓] theorem ring_setLane (s : State) (p : Nat) (l : SdiLane) (j_ : Nat) : (s.setLane p l).ring j_ = s.ring j_ := rfl
@[simp ↓] theorem ring_setSlot (s : State) (n : Nat) (v : SlotSt) (j_ : Nat) : (s.setSlot n v).ring j_ = s.ring j_ := rfl
@[simp ↓] theorem ring_setMember (s : State) (n sub : Nat) (v : Member) (j_ : Nat) : (s.setMember n sub v).ring j_ = s.ring j_ := rfl
@[simp ↓] theorem ring_setOut (s : State) (o : Nat) (v : OutSt) (j_ : Nat) : (s.setOut o v).ring j_ = s.ring j_ := rfl
@[simp ↓] theorem ring_setChan (s : State) (k : Nat) (c : Chan) (j_ : Nat) : (s.setChan k c).ring j_ = s.ring j_ := rfl
@[simp ↓] theorem ring_setDrop (s : State) (n : Nat) (v : Bool) (j_ : Nat) : (s.setDrop n v).ring j_ = s.ring j_ := rfl
@[simp ↓] theorem ring_setBatches (s : State) (l : List Batch) (j_ : Nat) : (s.setBatches l).ring j_ = s.ring j_ := rfl
@[simp ↓] theorem ring_setAes (s : State) (n : Nat) (v : AesIn) (j_ : Nat) : (s.setAes n v).ring j_ = s.ring j_ := rfl
@[simp ↓] theorem ring_setTdm (s : State) (n : Nat) (v : TdmPort) (j_ : Nat) : (s.setTdm n v).ring j_ = s.ring j_ := rfl
@[simp ↓] theorem ring_setPdest (s : State) (d : Nat) (v : PortDest) (j_ : Nat) : (s.setPdest d v).ring j_ = s.ring j_ := rfl
@[simp ↓] theorem ring_setEng (s : State) (e : Nat) (r : EngRun) (j_ : Nat) : (s.setEng e r).ring j_ = s.ring j_ := rfl
@[simp ↓] theorem ring_setPac (s : State) (p : PacSt) (j_ : Nat) : (s.setPac p).ring j_ = s.ring j_ := rfl
@[simp ↓] theorem ring_setRef (s : State) (r : Nat) (v : RefSt) (j_ : Nat) : (s.setRef r v).ring j_ = s.ring j_ := rfl
@[simp ↓] theorem ring_setPtp (s : State) (i : Nat) (v : PtpSt) (j_ : Nat) : (s.setPtp i v).ring j_ = s.ring j_ := rfl
@[simp ↓] theorem ring_setEth (s : State) (p : Nat) (v : EthPort) (j_ : Nat) : (s.setEth p v).ring j_ = s.ring j_ := rfl
@[simp ↓] theorem ring_setRx (s : State) (r : Nat) (v : RxCtx) (j_ : Nat) : (s.setRx r v).ring j_ = s.ring j_ := rfl
@[simp ↓] theorem ring_setTx (s : State) (c : Nat) (v : TxCtx) (j_ : Nat) : (s.setTx c v).ring j_ = s.ring j_ := rfl
@[simp ↓] theorem ring_setFl (s : State) (f : Nat) (l : FabLane) (j_ : Nat) : (s.setFl f l).ring j_ = s.ring j_ := rfl
@[simp ↓] theorem ring_setLink (s : State) (j : Nat) (l : FabLink) (j_ : Nat) : (s.setLink j l).ring j_ = s.ring j_ := rfl
@[simp ↓] theorem ring_setHead (s : State) (h : Nat) (v : HeadSt) (j_ : Nat) : (s.setHead h v).ring j_ = s.ring j_ := rfl
@[simp ↓] theorem ring_setLay (s : State) (l : Nat) (v : LayerSt) (j_ : Nat) : (s.setLay l v).ring j_ = s.ring j_ := rfl
@[simp ↓] theorem ring_setTw (s : State) (t : TwinSt) (j_ : Nat) : (s.setTw t).ring j_ = s.ring j_ := rfl
@[simp ↓] theorem ring_setPwr (s : State) (p : PwrSt) (j_ : Nat) : (s.setPwr p).ring j_ = s.ring j_ := rfl
@[simp ↓] theorem ring_setQuiet (s : State) (p t : Nat) (j_ : Nat) : (s.setQuiet p t).ring j_ = s.ring j_ := rfl
@[simp ↓] theorem ring_setUpd (s : State) (u : UpdSt) (j_ : Nat) : (s.setUpd u).ring j_ = s.ring j_ := rfl
@[simp ↓] theorem ring_setNum (s : State) (k n : Nat) (j_ : Nat) : (s.setNum k n).ring j_ = s.ring j_ := rfl
@[simp ↓] theorem ring_setInt (s : State) (k : Nat) (n : Int) (j_ : Nat) : (s.setInt k n).ring j_ = s.ring j_ := rfl
@[simp ↓] theorem ring_setBytes (s : State) (k : Nat) (b : List Byte) (j_ : Nat) : (s.setBytes k b).ring j_ = s.ring j_ := rfl
@[simp ↓] theorem ring_bump (s : State) (k n : Nat) (j_ : Nat) : (s.bump k n).ring j_ = s.ring j_ := rfl
@[simp ↓] theorem ring_bump64 (s : State) (k n : Nat) (j_ : Nat) : (s.bump64 k n).ring j_ = s.ring j_ := rfl
@[simp ↓] theorem ring_setBit (s : State) (off b : Nat) (j_ : Nat) : (s.setBit off b).ring j_ = s.ring j_ := rfl
@[simp ↓] theorem ring_rcAdd (s : State) (off hi lo n : Nat) (j_ : Nat) : (s.rcAdd off hi lo n).ring j_ = s.ring j_ := rfl
@[simp ↓] theorem ring_setDch (s : State) (c : Nat) (v : DmaCh) (j_ : Nat) : (s.setDch c v).ring j_ = s.ring j_ := rfl
@[simp ↓] theorem ring_setKey (s : State) (n : Nat) (k : KeySlot) (j_ : Nat) : (s.setKey n k).ring j_ = s.ring j_ := rfl
@[simp ↓] theorem ring_setImg (s : State) (k : Nat) (v : ImgSlot) (j_ : Nat) : (s.setImg k v).ring j_ = s.ring j_ := rfl
@[simp ↓] theorem ring_setBank (s : State) (k : Nat) (b : Bank) (j_ : Nat) : (s.setBank k b).ring j_ = s.ring j_ := rfl
@[simp ↓] theorem ring_setUst (s : State) (v : Nat) (j_ : Nat) : (s.setUst v).ring j_ = s.ring j_ := rfl

end Sys2Proof.Machine
end

