-- ==== Sys2Proof/Laws/Frames.lean ====
section
/-! SUPPORT. What the shared operations leave alone. -/

namespace Sys2Proof.Machine

/-! ### toTick -/

@[simp ↓] theorem toTick_fuses (s : State) (t : Nat) : (s.toTick t).fuses = s.fuses := (State_toTick_keeps (by decide : maskIn 32 32 = true) (Keeps.refl 32 s) _).fuses
@[simp ↓] theorem toTick_pending (s : State) (t : Nat) : (s.toTick t).pending = s.pending := (State_toTick_keeps (by decide : maskIn 32 32 = true) (Keeps.refl 32 s) _).pending
@[simp ↓] theorem toTick_aud (s : State) (t : Nat) : (s.toTick t).aud = s.aud := (State_toTick_keeps (by decide : maskIn 32 32 = true) (Keeps.refl 32 s) _).same .aud rfl
@[simp ↓] theorem aes_toTick (s : State) (t : Nat) (j_ : Nat) : (s.toTick t).aes j_ = s.aes j_ := by simp only [State.aes, toTick_aud]
@[simp ↓] theorem tdm_toTick (s : State) (t : Nat) (j_ : Nat) : (s.toTick t).tdm j_ = s.tdm j_ := by simp only [State.tdm, toTick_aud]
@[simp ↓] theorem pdest_toTick (s : State) (t : Nat) (j_ : Nat) : (s.toTick t).pdest j_ = s.pdest j_ := by simp only [State.pdest, toTick_aud]
@[simp ↓] theorem toTick_comp (s : State) (t : Nat) : (s.toTick t).comp = s.comp := (State_toTick_keeps (by decide : maskIn 32 32 = true) (Keeps.refl 32 s) _).same .comp rfl
@[simp ↓] theorem head_toTick (s : State) (t : Nat) (j_ : Nat) : (s.toTick t).head j_ = s.head j_ := by simp only [State.head, toTick_comp]
@[simp ↓] theorem lay_toTick (s : State) (t : Nat) (j_ : Nat) : (s.toTick t).lay j_ = s.lay j_ := by simp only [State.lay, toTick_comp]
@[simp ↓] theorem toTick_dict (s : State) (t : Nat) : (s.toTick t).dict = s.dict := (State_toTick_keeps (by decide : maskIn 32 32 = true) (Keeps.refl 32 s) _).same .dict rfl
@[simp ↓] theorem sess_toTick (s : State) (t : Nat) (j_ : Nat) : (s.toTick t).sess j_ = s.sess j_ := by simp only [State.sess, toTick_dict]
@[simp ↓] theorem toTick_ess (s : State) (t : Nat) : (s.toTick t).ess = s.ess := (State_toTick_keeps (by decide : maskIn 32 32 = true) (Keeps.refl 32 s) _).same .ess rfl
@[simp ↓] theorem lane_toTick (s : State) (t : Nat) (j_ : Nat) : (s.toTick t).lane j_ = s.lane j_ := by simp only [State.lane, toTick_ess]
@[simp ↓] theorem slot_toTick (s : State) (t : Nat) (j_ : Nat) : (s.toTick t).slot j_ = s.slot j_ := by simp only [State.slot, toTick_ess]
@[simp ↓] theorem out__toTick (s : State) (t : Nat) (j_ : Nat) : (s.toTick t).out_ j_ = s.out_ j_ := by simp only [State.out_, toTick_ess]
@[simp ↓] theorem chan_toTick (s : State) (t : Nat) (j_ : Nat) : (s.toTick t).chan j_ = s.chan j_ := by simp only [State.chan, toTick_ess]
@[simp ↓] theorem toTick_eth (s : State) (t : Nat) : (s.toTick t).eth = s.eth := (State_toTick_keeps (by decide : maskIn 32 32 = true) (Keeps.refl 32 s) _).same .eth rfl
@[simp ↓] theorem rx_toTick (s : State) (t : Nat) (j_ : Nat) : (s.toTick t).rx j_ = s.rx j_ := by simp only [State.rx, toTick_eth]
@[simp ↓] theorem tx_toTick (s : State) (t : Nat) (j_ : Nat) : (s.toTick t).tx j_ = s.tx j_ := by simp only [State.tx, toTick_eth]
@[simp ↓] theorem toTick_evr (s : State) (t : Nat) : (s.toTick t).evr = s.evr := (State_toTick_keeps (by decide : maskIn 32 32 = true) (Keeps.refl 32 s) _).same .evr rfl
@[simp ↓] theorem toTick_fab (s : State) (t : Nat) : (s.toTick t).fab = s.fab := (State_toTick_keeps (by decide : maskIn 32 32 = true) (Keeps.refl 32 s) _).same .fab rfl
@[simp ↓] theorem fl_toTick (s : State) (t : Nat) (j_ : Nat) : (s.toTick t).fl j_ = s.fl j_ := by simp only [State.fl, toTick_fab]
@[simp ↓] theorem link_toTick (s : State) (t : Nat) (j_ : Nat) : (s.toTick t).link j_ = s.link j_ := by simp only [State.link, toTick_fab]
@[simp ↓] theorem toTick_flt (s : State) (t : Nat) : (s.toTick t).flt = s.flt := (State_toTick_keeps (by decide : maskIn 32 32 = true) (Keeps.refl 32 s) _).same .flt rfl
@[simp ↓] theorem src_toTick (s : State) (t : Nat) (j_ : Nat) : (s.toTick t).src j_ = s.src j_ := by simp only [State.src, toTick_flt]
@[simp ↓] theorem toTick_free (s : State) (t : Nat) : (s.toTick t).free = s.free := (State_toTick_keeps (by decide : maskIn 32 32 = true) (Keeps.refl 32 s) _).same .free rfl
@[simp ↓] theorem toTick_hif (s : State) (t : Nat) : (s.toTick t).hif = s.hif := (State_toTick_keeps (by decide : maskIn 32 32 = true) (Keeps.refl 32 s) _).same .hif rfl
@[simp ↓] theorem dch_toTick (s : State) (t : Nat) (j_ : Nat) : (s.toTick t).dch j_ = s.dch j_ := by simp only [State.dch, toTick_hif]
@[simp ↓] theorem ring_toTick (s : State) (t : Nat) (j_ : Nat) : (s.toTick t).ring j_ = s.ring j_ := by simp only [State.ring, toTick_hif]
@[simp ↓] theorem toTick_mem (s : State) (t : Nat) : (s.toTick t).mem = s.mem := (State_toTick_keeps (by decide : maskIn 32 32 = true) (Keeps.refl 32 s) _).same .mem rfl
@[simp ↓] theorem byte_toTick (s : State) (t : Nat) (j_ : Nat) : (s.toTick t).byte j_ = s.byte j_ := by simp only [State.byte, toTick_mem]
@[simp ↓] theorem toTick_objs (s : State) (t : Nat) : (s.toTick t).objs = s.objs := ((State_toTick_keeps (by decide : maskIn 32 32 = true) (Keeps.refl 32 s) _).same .objs rfl).1
@[simp ↓] theorem toTick_chg (s : State) (t : Nat) : (s.toTick t).chg = s.chg := ((State_toTick_keeps (by decide : maskIn 32 32 = true) (Keeps.refl 32 s) _).same .objs rfl).2
@[simp ↓] theorem obj_toTick (s : State) (t : Nat) (j_ : Nat) : (s.toTick t).obj j_ = s.obj j_ := by simp only [State.obj, toTick_objs, toTick_fuses]
@[simp ↓] theorem num_toTick (s : State) (t : Nat) (j_ : Nat) : (s.toTick t).num j_ = s.num j_ := by simp only [State.num, obj_toTick]
@[simp ↓] theorem int_toTick (s : State) (t : Nat) (j_ : Nat) : (s.toTick t).int j_ = s.int j_ := by simp only [State.int, obj_toTick]
@[simp ↓] theorem bytes_toTick (s : State) (t : Nat) (j_ : Nat) : (s.toTick t).bytes j_ = s.bytes j_ := by simp only [State.bytes, obj_toTick]
@[simp ↓] theorem flag_toTick (s : State) (t : Nat) (j_ : Nat) : (s.toTick t).flag j_ = s.flag j_ := by simp only [State.flag, num_toTick]
@[simp ↓] theorem toTick_out (s : State) (t : Nat) : (s.toTick t).out = s.out := (State_toTick_keeps (by decide : maskIn 32 32 = true) (Keeps.refl 32 s) _).same .out rfl
@[simp ↓] theorem toTick_pac (s : State) (t : Nat) : (s.toTick t).pac = s.pac := (State_toTick_keeps (by decide : maskIn 32 32 = true) (Keeps.refl 32 s) _).same .pac rfl
@[simp ↓] theorem ref_toTick (s : State) (t : Nat) (j_ : Nat) : (s.toTick t).ref j_ = s.ref j_ := by simp only [State.ref, toTick_pac]
@[simp ↓] theorem toTick_pwr (s : State) (t : Nat) : (s.toTick t).pwr = s.pwr := (State_toTick_keeps (by decide : maskIn 32 32 = true) (Keeps.refl 32 s) _).same .pwr rfl
@[simp ↓] theorem toTick_regs (s : State) (t : Nat) : (s.toTick t).regs = s.regs := (State_toTick_keeps (by decide : maskIn 32 32 = true) (Keeps.refl 32 s) _).same .regs rfl
@[simp ↓] theorem reg_toTick (s : State) (t : Nat) (j_ : Nat) : (s.toTick t).reg j_ = s.reg j_ := by simp only [State.reg, toTick_regs]
@[simp ↓] theorem toTick_str (s : State) (t : Nat) : (s.toTick t).str = s.str := (State_toTick_keeps (by decide : maskIn 32 32 = true) (Keeps.refl 32 s) _).same .str rfl
@[simp ↓] theorem eng_toTick (s : State) (t : Nat) (j_ : Nat) : (s.toTick t).eng j_ = s.eng j_ := by simp only [State.eng, toTick_str]
@[simp ↓] theorem toTick_twin (s : State) (t : Nat) : (s.toTick t).twin = s.twin := (State_toTick_keeps (by decide : maskIn 32 32 = true) (Keeps.refl 32 s) _).same .twin rfl
@[simp ↓] theorem toTick_upd (s : State) (t : Nat) : (s.toTick t).upd = s.upd := (State_toTick_keeps (by decide : maskIn 32 32 = true) (Keeps.refl 32 s) _).same .upd rfl
@[simp ↓] theorem key_toTick (s : State) (t : Nat) (j_ : Nat) : (s.toTick t).key j_ = s.key j_ := by simp only [State.key, toTick_upd]
@[simp ↓] theorem img_toTick (s : State) (t : Nat) (j_ : Nat) : (s.toTick t).img j_ = s.img j_ := by simp only [State.img, toTick_upd]
/-! ### raise -/

@[simp ↓] theorem raise_fuses (s : State) (code : Nat) (payload : List Byte) : (s.raise code payload).fuses = s.fuses := (State_raise_keeps (by decide : maskIn 906 906 = true) (Keeps.refl 906 s) _ _).fuses
@[simp ↓] theorem raise_pending (s : State) (code : Nat) (payload : List Byte) : (s.raise code payload).pending = s.pending := (State_raise_keeps (by decide : maskIn 906 906 = true) (Keeps.refl 906 s) _ _).pending
@[simp ↓] theorem raise_aud (s : State) (code : Nat) (payload : List Byte) : (s.raise code payload).aud = s.aud := (State_raise_keeps (by decide : maskIn 906 906 = true) (Keeps.refl 906 s) _ _).same .aud rfl
@[simp ↓] theorem aes_raise (s : State) (code : Nat) (payload : List Byte) (j_ : Nat) : (s.raise code payload).aes j_ = s.aes j_ := by simp only [State.aes, raise_aud]
@[simp ↓] theorem tdm_raise (s : State) (code : Nat) (payload : List Byte) (j_ : Nat) : (s.raise code payload).tdm j_ = s.tdm j_ := by simp only [State.tdm, raise_aud]
@[simp ↓] theorem pdest_raise (s : State) (code : Nat) (payload : List Byte) (j_ : Nat) : (s.raise code payload).pdest j_ = s.pdest j_ := by simp only [State.pdest, raise_aud]
@[simp ↓] theorem raise_comp (s : State) (code : Nat) (payload : List Byte) : (s.raise code payload).comp = s.comp := (State_raise_keeps (by decide : maskIn 906 906 = true) (Keeps.refl 906 s) _ _).same .comp rfl
@[simp ↓] theorem head_raise (s : State) (code : Nat) (payload : List Byte) (j_ : Nat) : (s.raise code payload).head j_ = s.head j_ := by simp only [State.head, raise_comp]
@[simp ↓] theorem lay_raise (s : State) (code : Nat) (payload : List Byte) (j_ : Nat) : (s.raise code payload).lay j_ = s.lay j_ := by simp only [State.lay, raise_comp]
@[simp ↓] theorem raise_dict (s : State) (code : Nat) (payload : List Byte) : (s.raise code payload).dict = s.dict := (State_raise_keeps (by decide : maskIn 906 906 = true) (Keeps.refl 906 s) _ _).same .dict rfl
@[simp ↓] theorem sess_raise (s : State) (code : Nat) (payload : List Byte) (j_ : Nat) : (s.raise code payload).sess j_ = s.sess j_ := by simp only [State.sess, raise_dict]
@[simp ↓] theorem raise_ess (s : State) (code : Nat) (payload : List Byte) : (s.raise code payload).ess = s.ess := (State_raise_keeps (by decide : maskIn 906 906 = true) (Keeps.refl 906 s) _ _).same .ess rfl
@[simp ↓] theorem lane_raise (s : State) (code : Nat) (payload : List Byte) (j_ : Nat) : (s.raise code payload).lane j_ = s.lane j_ := by simp only [State.lane, raise_ess]
@[simp ↓] theorem slot_raise (s : State) (code : Nat) (payload : List Byte) (j_ : Nat) : (s.raise code payload).slot j_ = s.slot j_ := by simp only [State.slot, raise_ess]
@[simp ↓] theorem out__raise (s : State) (code : Nat) (payload : List Byte) (j_ : Nat) : (s.raise code payload).out_ j_ = s.out_ j_ := by simp only [State.out_, raise_ess]
@[simp ↓] theorem chan_raise (s : State) (code : Nat) (payload : List Byte) (j_ : Nat) : (s.raise code payload).chan j_ = s.chan j_ := by simp only [State.chan, raise_ess]
@[simp ↓] theorem raise_eth (s : State) (code : Nat) (payload : List Byte) : (s.raise code payload).eth = s.eth := (State_raise_keeps (by decide : maskIn 906 906 = true) (Keeps.refl 906 s) _ _).same .eth rfl
@[simp ↓] theorem rx_raise (s : State) (code : Nat) (payload : List Byte) (j_ : Nat) : (s.raise code payload).rx j_ = s.rx j_ := by simp only [State.rx, raise_eth]
@[simp ↓] theorem tx_raise (s : State) (code : Nat) (payload : List Byte) (j_ : Nat) : (s.raise code payload).tx j_ = s.tx j_ := by simp only [State.tx, raise_eth]
@[simp ↓] theorem raise_fab (s : State) (code : Nat) (payload : List Byte) : (s.raise code payload).fab = s.fab := (State_raise_keeps (by decide : maskIn 906 906 = true) (Keeps.refl 906 s) _ _).same .fab rfl
@[simp ↓] theorem fl_raise (s : State) (code : Nat) (payload : List Byte) (j_ : Nat) : (s.raise code payload).fl j_ = s.fl j_ := by simp only [State.fl, raise_fab]
@[simp ↓] theorem link_raise (s : State) (code : Nat) (payload : List Byte) (j_ : Nat) : (s.raise code payload).link j_ = s.link j_ := by simp only [State.link, raise_fab]
@[simp ↓] theorem raise_free (s : State) (code : Nat) (payload : List Byte) : (s.raise code payload).free = s.free := (State_raise_keeps (by decide : maskIn 906 906 = true) (Keeps.refl 906 s) _ _).same .free rfl
@[simp ↓] theorem raise_mem (s : State) (code : Nat) (payload : List Byte) : (s.raise code payload).mem = s.mem := (State_raise_keeps (by decide : maskIn 906 906 = true) (Keeps.refl 906 s) _ _).same .mem rfl
@[simp ↓] theorem byte_raise (s : State) (code : Nat) (payload : List Byte) (j_ : Nat) : (s.raise code payload).byte j_ = s.byte j_ := by simp only [State.byte, raise_mem]
@[simp ↓] theorem raise_objs (s : State) (code : Nat) (payload : List Byte) : (s.raise code payload).objs = s.objs := ((State_raise_keeps (by decide : maskIn 906 906 = true) (Keeps.refl 906 s) _ _).same .objs rfl).1
@[simp ↓] theorem raise_chg (s : State) (code : Nat) (payload : List Byte) : (s.raise code payload).chg = s.chg := ((State_raise_keeps (by decide : maskIn 906 906 = true) (Keeps.refl 906 s) _ _).same .objs rfl).2
@[simp ↓] theorem obj_raise (s : State) (code : Nat) (payload : List Byte) (j_ : Nat) : (s.raise code payload).obj j_ = s.obj j_ := by simp only [State.obj, raise_objs, raise_fuses]
@[simp ↓] theorem num_raise (s : State) (code : Nat) (payload : List Byte) (j_ : Nat) : (s.raise code payload).num j_ = s.num j_ := by simp only [State.num, obj_raise]
@[simp ↓] theorem int_raise (s : State) (code : Nat) (payload : List Byte) (j_ : Nat) : (s.raise code payload).int j_ = s.int j_ := by simp only [State.int, obj_raise]
@[simp ↓] theorem bytes_raise (s : State) (code : Nat) (payload : List Byte) (j_ : Nat) : (s.raise code payload).bytes j_ = s.bytes j_ := by simp only [State.bytes, obj_raise]
@[simp ↓] theorem flag_raise (s : State) (code : Nat) (payload : List Byte) (j_ : Nat) : (s.raise code payload).flag j_ = s.flag j_ := by simp only [State.flag, num_raise]
@[simp ↓] theorem raise_pac (s : State) (code : Nat) (payload : List Byte) : (s.raise code payload).pac = s.pac := (State_raise_keeps (by decide : maskIn 906 906 = true) (Keeps.refl 906 s) _ _).same .pac rfl
@[simp ↓] theorem ref_raise (s : State) (code : Nat) (payload : List Byte) (j_ : Nat) : (s.raise code payload).ref j_ = s.ref j_ := by simp only [State.ref, raise_pac]
@[simp ↓] theorem raise_pwr (s : State) (code : Nat) (payload : List Byte) : (s.raise code payload).pwr = s.pwr := (State_raise_keeps (by decide : maskIn 906 906 = true) (Keeps.refl 906 s) _ _).same .pwr rfl
@[simp ↓] theorem raise_str (s : State) (code : Nat) (payload : List Byte) : (s.raise code payload).str = s.str := (State_raise_keeps (by decide : maskIn 906 906 = true) (Keeps.refl 906 s) _ _).same .str rfl
@[simp ↓] theorem eng_raise (s : State) (code : Nat) (payload : List Byte) (j_ : Nat) : (s.raise code payload).eng j_ = s.eng j_ := by simp only [State.eng, raise_str]
@[simp ↓] theorem raise_tm (s : State) (code : Nat) (payload : List Byte) : (s.raise code payload).tm = s.tm := (State_raise_keeps (by decide : maskIn 906 906 = true) (Keeps.refl 906 s) _ _).same .tm rfl
@[simp ↓] theorem now_raise (s : State) (code : Nat) (payload : List Byte) : (s.raise code payload).now = s.now := by simp only [State.now, raise_tm]
@[simp ↓] theorem raise_twin (s : State) (code : Nat) (payload : List Byte) : (s.raise code payload).twin = s.twin := (State_raise_keeps (by decide : maskIn 906 906 = true) (Keeps.refl 906 s) _ _).same .twin rfl
@[simp ↓] theorem raise_upd (s : State) (code : Nat) (payload : List Byte) : (s.raise code payload).upd = s.upd := (State_raise_keeps (by decide : maskIn 906 906 = true) (Keeps.refl 906 s) _ _).same .upd rfl
@[simp ↓] theorem key_raise (s : State) (code : Nat) (payload : List Byte) (j_ : Nat) : (s.raise code payload).key j_ = s.key j_ := by simp only [State.key, raise_upd]
@[simp ↓] theorem img_raise (s : State) (code : Nat) (payload : List Byte) (j_ : Nat) : (s.raise code payload).img j_ = s.img j_ := by simp only [State.img, raise_upd]
/-! ### oncePerSecond -/

@[simp ↓] theorem oncePerSecond_fuses (s : State) (code : Nat) (i : Nat) (payload : List Byte) : (s.oncePerSecond code i payload).fuses = s.fuses := (State_oncePerSecond_keeps (by decide : maskIn 1930 1930 = true) (Keeps.refl 1930 s) _ _ _).fuses
@[simp ↓] theorem oncePerSecond_pending (s : State) (code : Nat) (i : Nat) (payload : List Byte) : (s.oncePerSecond code i payload).pending = s.pending := (State_oncePerSecond_keeps (by decide : maskIn 1930 1930 = true) (Keeps.refl 1930 s) _ _ _).pending
@[simp ↓] theorem oncePerSecond_aud (s : State) (code : Nat) (i : Nat) (payload : List Byte) : (s.oncePerSecond code i payload).aud = s.aud := (State_oncePerSecond_keeps (by decide : maskIn 1930 1930 = true) (Keeps.refl 1930 s) _ _ _).same .aud rfl
@[simp ↓] theorem aes_oncePerSecond (s : State) (code : Nat) (i : Nat) (payload : List Byte) (j_ : Nat) : (s.oncePerSecond code i payload).aes j_ = s.aes j_ := by simp only [State.aes, oncePerSecond_aud]
@[simp ↓] theorem tdm_oncePerSecond (s : State) (code : Nat) (i : Nat) (payload : List Byte) (j_ : Nat) : (s.oncePerSecond code i payload).tdm j_ = s.tdm j_ := by simp only [State.tdm, oncePerSecond_aud]
@[simp ↓] theorem pdest_oncePerSecond (s : State) (code : Nat) (i : Nat) (payload : List Byte) (j_ : Nat) : (s.oncePerSecond code i payload).pdest j_ = s.pdest j_ := by simp only [State.pdest, oncePerSecond_aud]
@[simp ↓] theorem oncePerSecond_comp (s : State) (code : Nat) (i : Nat) (payload : List Byte) : (s.oncePerSecond code i payload).comp = s.comp := (State_oncePerSecond_keeps (by decide : maskIn 1930 1930 = true) (Keeps.refl 1930 s) _ _ _).same .comp rfl
@[simp ↓] theorem head_oncePerSecond (s : State) (code : Nat) (i : Nat) (payload : List Byte) (j_ : Nat) : (s.oncePerSecond code i payload).head j_ = s.head j_ := by simp only [State.head, oncePerSecond_comp]
@[simp ↓] theorem lay_oncePerSecond (s : State) (code : Nat) (i : Nat) (payload : List Byte) (j_ : Nat) : (s.oncePerSecond code i payload).lay j_ = s.lay j_ := by simp only [State.lay, oncePerSecond_comp]
@[simp ↓] theorem oncePerSecond_dict (s : State) (code : Nat) (i : Nat) (payload : List Byte) : (s.oncePerSecond code i payload).dict = s.dict := (State_oncePerSecond_keeps (by decide : maskIn 1930 1930 = true) (Keeps.refl 1930 s) _ _ _).same .dict rfl
@[simp ↓] theorem sess_oncePerSecond (s : State) (code : Nat) (i : Nat) (payload : List Byte) (j_ : Nat) : (s.oncePerSecond code i payload).sess j_ = s.sess j_ := by simp only [State.sess, oncePerSecond_dict]
@[simp ↓] theorem oncePerSecond_eth (s : State) (code : Nat) (i : Nat) (payload : List Byte) : (s.oncePerSecond code i payload).eth = s.eth := (State_oncePerSecond_keeps (by decide : maskIn 1930 1930 = true) (Keeps.refl 1930 s) _ _ _).same .eth rfl
@[simp ↓] theorem rx_oncePerSecond (s : State) (code : Nat) (i : Nat) (payload : List Byte) (j_ : Nat) : (s.oncePerSecond code i payload).rx j_ = s.rx j_ := by simp only [State.rx, oncePerSecond_eth]
@[simp ↓] theorem tx_oncePerSecond (s : State) (code : Nat) (i : Nat) (payload : List Byte) (j_ : Nat) : (s.oncePerSecond code i payload).tx j_ = s.tx j_ := by simp only [State.tx, oncePerSecond_eth]
@[simp ↓] theorem oncePerSecond_fab (s : State) (code : Nat) (i : Nat) (payload : List Byte) : (s.oncePerSecond code i payload).fab = s.fab := (State_oncePerSecond_keeps (by decide : maskIn 1930 1930 = true) (Keeps.refl 1930 s) _ _ _).same .fab rfl
@[simp ↓] theorem fl_oncePerSecond (s : State) (code : Nat) (i : Nat) (payload : List Byte) (j_ : Nat) : (s.oncePerSecond code i payload).fl j_ = s.fl j_ := by simp only [State.fl, oncePerSecond_fab]
@[simp ↓] theorem link_oncePerSecond (s : State) (code : Nat) (i : Nat) (payload : List Byte) (j_ : Nat) : (s.oncePerSecond code i payload).link j_ = s.link j_ := by simp only [State.link, oncePerSecond_fab]
@[simp ↓] theorem oncePerSecond_free (s : State) (code : Nat) (i : Nat) (payload : List Byte) : (s.oncePerSecond code i payload).free = s.free := (State_oncePerSecond_keeps (by decide : maskIn 1930 1930 = true) (Keeps.refl 1930 s) _ _ _).same .free rfl
@[simp ↓] theorem oncePerSecond_mem (s : State) (code : Nat) (i : Nat) (payload : List Byte) : (s.oncePerSecond code i payload).mem = s.mem := (State_oncePerSecond_keeps (by decide : maskIn 1930 1930 = true) (Keeps.refl 1930 s) _ _ _).same .mem rfl
@[simp ↓] theorem byte_oncePerSecond (s : State) (code : Nat) (i : Nat) (payload : List Byte) (j_ : Nat) : (s.oncePerSecond code i payload).byte j_ = s.byte j_ := by simp only [State.byte, oncePerSecond_mem]
@[simp ↓] theorem oncePerSecond_objs (s : State) (code : Nat) (i : Nat) (payload : List Byte) : (s.oncePerSecond code i payload).objs = s.objs := ((State_oncePerSecond_keeps (by decide : maskIn 1930 1930 = true) (Keeps.refl 1930 s) _ _ _).same .objs rfl).1
@[simp ↓] theorem oncePerSecond_chg (s : State) (code : Nat) (i : Nat) (payload : List Byte) : (s.oncePerSecond code i payload).chg = s.chg := ((State_oncePerSecond_keeps (by decide : maskIn 1930 1930 = true) (Keeps.refl 1930 s) _ _ _).same .objs rfl).2
@[simp ↓] theorem obj_oncePerSecond (s : State) (code : Nat) (i : Nat) (payload : List Byte) (j_ : Nat) : (s.oncePerSecond code i payload).obj j_ = s.obj j_ := by simp only [State.obj, oncePerSecond_objs, oncePerSecond_fuses]
@[simp ↓] theorem num_oncePerSecond (s : State) (code : Nat) (i : Nat) (payload : List Byte) (j_ : Nat) : (s.oncePerSecond code i payload).num j_ = s.num j_ := by simp only [State.num, obj_oncePerSecond]
@[simp ↓] theorem int_oncePerSecond (s : State) (code : Nat) (i : Nat) (payload : List Byte) (j_ : Nat) : (s.oncePerSecond code i payload).int j_ = s.int j_ := by simp only [State.int, obj_oncePerSecond]
@[simp ↓] theorem bytes_oncePerSecond (s : State) (code : Nat) (i : Nat) (payload : List Byte) (j_ : Nat) : (s.oncePerSecond code i payload).bytes j_ = s.bytes j_ := by simp only [State.bytes, obj_oncePerSecond]
@[simp ↓] theorem flag_oncePerSecond (s : State) (code : Nat) (i : Nat) (payload : List Byte) (j_ : Nat) : (s.oncePerSecond code i payload).flag j_ = s.flag j_ := by simp only [State.flag, num_oncePerSecond]
@[simp ↓] theorem oncePerSecond_pac (s : State) (code : Nat) (i : Nat) (payload : List Byte) : (s.oncePerSecond code i payload).pac = s.pac := (State_oncePerSecond_keeps (by decide : maskIn 1930 1930 = true) (Keeps.refl 1930 s) _ _ _).same .pac rfl
@[simp ↓] theorem ref_oncePerSecond (s : State) (code : Nat) (i : Nat) (payload : List Byte) (j_ : Nat) : (s.oncePerSecond code i payload).ref j_ = s.ref j_ := by simp only [State.ref, oncePerSecond_pac]
@[simp ↓] theorem oncePerSecond_pwr (s : State) (code : Nat) (i : Nat) (payload : List Byte) : (s.oncePerSecond code i payload).pwr = s.pwr := (State_oncePerSecond_keeps (by decide : maskIn 1930 1930 = true) (Keeps.refl 1930 s) _ _ _).same .pwr rfl
@[simp ↓] theorem oncePerSecond_str (s : State) (code : Nat) (i : Nat) (payload : List Byte) : (s.oncePerSecond code i payload).str = s.str := (State_oncePerSecond_keeps (by decide : maskIn 1930 1930 = true) (Keeps.refl 1930 s) _ _ _).same .str rfl
@[simp ↓] theorem eng_oncePerSecond (s : State) (code : Nat) (i : Nat) (payload : List Byte) (j_ : Nat) : (s.oncePerSecond code i payload).eng j_ = s.eng j_ := by simp only [State.eng, oncePerSecond_str]
@[simp ↓] theorem oncePerSecond_tm (s : State) (code : Nat) (i : Nat) (payload : List Byte) : (s.oncePerSecond code i payload).tm = s.tm := (State_oncePerSecond_keeps (by decide : maskIn 1930 1930 = true) (Keeps.refl 1930 s) _ _ _).same .tm rfl
@[simp ↓] theorem now_oncePerSecond (s : State) (code : Nat) (i : Nat) (payload : List Byte) : (s.oncePerSecond code i payload).now = s.now := by simp only [State.now, oncePerSecond_tm]
@[simp ↓] theorem oncePerSecond_twin (s : State) (code : Nat) (i : Nat) (payload : List Byte) : (s.oncePerSecond code i payload).twin = s.twin := (State_oncePerSecond_keeps (by decide : maskIn 1930 1930 = true) (Keeps.refl 1930 s) _ _ _).same .twin rfl
@[simp ↓] theorem oncePerSecond_upd (s : State) (code : Nat) (i : Nat) (payload : List Byte) : (s.oncePerSecond code i payload).upd = s.upd := (State_oncePerSecond_keeps (by decide : maskIn 1930 1930 = true) (Keeps.refl 1930 s) _ _ _).same .upd rfl
@[simp ↓] theorem key_oncePerSecond (s : State) (code : Nat) (i : Nat) (payload : List Byte) (j_ : Nat) : (s.oncePerSecond code i payload).key j_ = s.key j_ := by simp only [State.key, oncePerSecond_upd]
@[simp ↓] theorem img_oncePerSecond (s : State) (code : Nat) (i : Nat) (payload : List Byte) (j_ : Nat) : (s.oncePerSecond code i payload).img j_ = s.img j_ := by simp only [State.img, oncePerSecond_upd]
/-! ### sdiEvent -/

@[simp ↓] theorem sdiEvent_fuses (s : State) (p : Nat) (bit : Nat) (code : Nat) (payload : List Byte) : (s.sdiEvent p bit code payload).fuses = s.fuses := (State_sdiEvent_keeps (by decide : maskIn 906 906 = true) (Keeps.refl 906 s) _ _ _ _).fuses
@[simp ↓] theorem sdiEvent_pending (s : State) (p : Nat) (bit : Nat) (code : Nat) (payload : List Byte) : (s.sdiEvent p bit code payload).pending = s.pending := (State_sdiEvent_keeps (by decide : maskIn 906 906 = true) (Keeps.refl 906 s) _ _ _ _).pending
@[simp ↓] theorem sdiEvent_aud (s : State) (p : Nat) (bit : Nat) (code : Nat) (payload : List Byte) : (s.sdiEvent p bit code payload).aud = s.aud := (State_sdiEvent_keeps (by decide : maskIn 906 906 = true) (Keeps.refl 906 s) _ _ _ _).same .aud rfl
@[simp ↓] theorem aes_sdiEvent (s : State) (p : Nat) (bit : Nat) (code : Nat) (payload : List Byte) (j_ : Nat) : (s.sdiEvent p bit code payload).aes j_ = s.aes j_ := by simp only [State.aes, sdiEvent_aud]
@[simp ↓] theorem tdm_sdiEvent (s : State) (p : Nat) (bit : Nat) (code : Nat) (payload : List Byte) (j_ : Nat) : (s.sdiEvent p bit code payload).tdm j_ = s.tdm j_ := by simp only [State.tdm, sdiEvent_aud]
@[simp ↓] theorem pdest_sdiEvent (s : State) (p : Nat) (bit : Nat) (code : Nat) (payload : List Byte) (j_ : Nat) : (s.sdiEvent p bit code payload).pdest j_ = s.pdest j_ := by simp only [State.pdest, sdiEvent_aud]
@[simp ↓] theorem sdiEvent_comp (s : State) (p : Nat) (bit : Nat) (code : Nat) (payload : List Byte) : (s.sdiEvent p bit code payload).comp = s.comp := (State_sdiEvent_keeps (by decide : maskIn 906 906 = true) (Keeps.refl 906 s) _ _ _ _).same .comp rfl
@[simp ↓] theorem head_sdiEvent (s : State) (p : Nat) (bit : Nat) (code : Nat) (payload : List Byte) (j_ : Nat) : (s.sdiEvent p bit code payload).head j_ = s.head j_ := by simp only [State.head, sdiEvent_comp]
@[simp ↓] theorem lay_sdiEvent (s : State) (p : Nat) (bit : Nat) (code : Nat) (payload : List Byte) (j_ : Nat) : (s.sdiEvent p bit code payload).lay j_ = s.lay j_ := by simp only [State.lay, sdiEvent_comp]
@[simp ↓] theorem sdiEvent_dict (s : State) (p : Nat) (bit : Nat) (code : Nat) (payload : List Byte) : (s.sdiEvent p bit code payload).dict = s.dict := (State_sdiEvent_keeps (by decide : maskIn 906 906 = true) (Keeps.refl 906 s) _ _ _ _).same .dict rfl
@[simp ↓] theorem sess_sdiEvent (s : State) (p : Nat) (bit : Nat) (code : Nat) (payload : List Byte) (j_ : Nat) : (s.sdiEvent p bit code payload).sess j_ = s.sess j_ := by simp only [State.sess, sdiEvent_dict]
@[simp ↓] theorem sdiEvent_ess (s : State) (p : Nat) (bit : Nat) (code : Nat) (payload : List Byte) : (s.sdiEvent p bit code payload).ess = s.ess := (State_sdiEvent_keeps (by decide : maskIn 906 906 = true) (Keeps.refl 906 s) _ _ _ _).same .ess rfl
@[simp ↓] theorem lane_sdiEvent (s : State) (p : Nat) (bit : Nat) (code : Nat) (payload : List Byte) (j_ : Nat) : (s.sdiEvent p bit code payload).lane j_ = s.lane j_ := by simp only [State.lane, sdiEvent_ess]
@[simp ↓] theorem slot_sdiEvent (s : State) (p : Nat) (bit : Nat) (code : Nat) (payload : List Byte) (j_ : Nat) : (s.sdiEvent p bit code payload).slot j_ = s.slot j_ := by simp only [State.slot, sdiEvent_ess]
@[simp ↓] theorem out__sdiEvent (s : State) (p : Nat) (bit : Nat) (code : Nat) (payload : List Byte) (j_ : Nat) : (s.sdiEvent p bit code payload).out_ j_ = s.out_ j_ := by simp only [State.out_, sdiEvent_ess]
@[simp ↓] theorem chan_sdiEvent (s : State) (p : Nat) (bit : Nat) (code : Nat) (payload : List Byte) (j_ : Nat) : (s.sdiEvent p bit code payload).chan j_ = s.chan j_ := by simp only [State.chan, sdiEvent_ess]
@[simp ↓] theorem sdiEvent_eth (s : State) (p : Nat) (bit : Nat) (code : Nat) (payload : List Byte) : (s.sdiEvent p bit code payload).eth = s.eth := (State_sdiEvent_keeps (by decide : maskIn 906 906 = true) (Keeps.refl 906 s) _ _ _ _).same .eth rfl
@[simp ↓] theorem rx_sdiEvent (s : State) (p : Nat) (bit : Nat) (code : Nat) (payload : List Byte) (j_ : Nat) : (s.sdiEvent p bit code payload).rx j_ = s.rx j_ := by simp only [State.rx, sdiEvent_eth]
@[simp ↓] theorem tx_sdiEvent (s : State) (p : Nat) (bit : Nat) (code : Nat) (payload : List Byte) (j_ : Nat) : (s.sdiEvent p bit code payload).tx j_ = s.tx j_ := by simp only [State.tx, sdiEvent_eth]
@[simp ↓] theorem sdiEvent_fab (s : State) (p : Nat) (bit : Nat) (code : Nat) (payload : List Byte) : (s.sdiEvent p bit code payload).fab = s.fab := (State_sdiEvent_keeps (by decide : maskIn 906 906 = true) (Keeps.refl 906 s) _ _ _ _).same .fab rfl
@[simp ↓] theorem fl_sdiEvent (s : State) (p : Nat) (bit : Nat) (code : Nat) (payload : List Byte) (j_ : Nat) : (s.sdiEvent p bit code payload).fl j_ = s.fl j_ := by simp only [State.fl, sdiEvent_fab]
@[simp ↓] theorem link_sdiEvent (s : State) (p : Nat) (bit : Nat) (code : Nat) (payload : List Byte) (j_ : Nat) : (s.sdiEvent p bit code payload).link j_ = s.link j_ := by simp only [State.link, sdiEvent_fab]
@[simp ↓] theorem sdiEvent_free (s : State) (p : Nat) (bit : Nat) (code : Nat) (payload : List Byte) : (s.sdiEvent p bit code payload).free = s.free := (State_sdiEvent_keeps (by decide : maskIn 906 906 = true) (Keeps.refl 906 s) _ _ _ _).same .free rfl
@[simp ↓] theorem sdiEvent_mem (s : State) (p : Nat) (bit : Nat) (code : Nat) (payload : List Byte) : (s.sdiEvent p bit code payload).mem = s.mem := (State_sdiEvent_keeps (by decide : maskIn 906 906 = true) (Keeps.refl 906 s) _ _ _ _).same .mem rfl
@[simp ↓] theorem byte_sdiEvent (s : State) (p : Nat) (bit : Nat) (code : Nat) (payload : List Byte) (j_ : Nat) : (s.sdiEvent p bit code payload).byte j_ = s.byte j_ := by simp only [State.byte, sdiEvent_mem]
@[simp ↓] theorem sdiEvent_objs (s : State) (p : Nat) (bit : Nat) (code : Nat) (payload : List Byte) : (s.sdiEvent p bit code payload).objs = s.objs := ((State_sdiEvent_keeps (by decide : maskIn 906 906 = true) (Keeps.refl 906 s) _ _ _ _).same .objs rfl).1
@[simp ↓] theorem sdiEvent_chg (s : State) (p : Nat) (bit : Nat) (code : Nat) (payload : List Byte) : (s.sdiEvent p bit code payload).chg = s.chg := ((State_sdiEvent_keeps (by decide : maskIn 906 906 = true) (Keeps.refl 906 s) _ _ _ _).same .objs rfl).2
@[simp ↓] theorem obj_sdiEvent (s : State) (p : Nat) (bit : Nat) (code : Nat) (payload : List Byte) (j_ : Nat) : (s.sdiEvent p bit code payload).obj j_ = s.obj j_ := by simp only [State.obj, sdiEvent_objs, sdiEvent_fuses]
@[simp ↓] theorem num_sdiEvent (s : State) (p : Nat) (bit : Nat) (code : Nat) (payload : List Byte) (j_ : Nat) : (s.sdiEvent p bit code payload).num j_ = s.num j_ := by simp only [State.num, obj_sdiEvent]
@[simp ↓] theorem int_sdiEvent (s : State) (p : Nat) (bit : Nat) (code : Nat) (payload : List Byte) (j_ : Nat) : (s.sdiEvent p bit code payload).int j_ = s.int j_ := by simp only [State.int, obj_sdiEvent]
@[simp ↓] theorem bytes_sdiEvent (s : State) (p : Nat) (bit : Nat) (code : Nat) (payload : List Byte) (j_ : Nat) : (s.sdiEvent p bit code payload).bytes j_ = s.bytes j_ := by simp only [State.bytes, obj_sdiEvent]
@[simp ↓] theorem flag_sdiEvent (s : State) (p : Nat) (bit : Nat) (code : Nat) (payload : List Byte) (j_ : Nat) : (s.sdiEvent p bit code payload).flag j_ = s.flag j_ := by simp only [State.flag, num_sdiEvent]
@[simp ↓] theorem sdiEvent_pac (s : State) (p : Nat) (bit : Nat) (code : Nat) (payload : List Byte) : (s.sdiEvent p bit code payload).pac = s.pac := (State_sdiEvent_keeps (by decide : maskIn 906 906 = true) (Keeps.refl 906 s) _ _ _ _).same .pac rfl
@[simp ↓] theorem ref_sdiEvent (s : State) (p : Nat) (bit : Nat) (code : Nat) (payload : List Byte) (j_ : Nat) : (s.sdiEvent p bit code payload).ref j_ = s.ref j_ := by simp only [State.ref, sdiEvent_pac]
@[simp ↓] theorem sdiEvent_pwr (s : State) (p : Nat) (bit : Nat) (code : Nat) (payload : List Byte) : (s.sdiEvent p bit code payload).pwr = s.pwr := (State_sdiEvent_keeps (by decide : maskIn 906 906 = true) (Keeps.refl 906 s) _ _ _ _).same .pwr rfl
@[simp ↓] theorem sdiEvent_str (s : State) (p : Nat) (bit : Nat) (code : Nat) (payload : List Byte) : (s.sdiEvent p bit code payload).str = s.str := (State_sdiEvent_keeps (by decide : maskIn 906 906 = true) (Keeps.refl 906 s) _ _ _ _).same .str rfl
@[simp ↓] theorem eng_sdiEvent (s : State) (p : Nat) (bit : Nat) (code : Nat) (payload : List Byte) (j_ : Nat) : (s.sdiEvent p bit code payload).eng j_ = s.eng j_ := by simp only [State.eng, sdiEvent_str]
@[simp ↓] theorem sdiEvent_tm (s : State) (p : Nat) (bit : Nat) (code : Nat) (payload : List Byte) : (s.sdiEvent p bit code payload).tm = s.tm := (State_sdiEvent_keeps (by decide : maskIn 906 906 = true) (Keeps.refl 906 s) _ _ _ _).same .tm rfl
@[simp ↓] theorem now_sdiEvent (s : State) (p : Nat) (bit : Nat) (code : Nat) (payload : List Byte) : (s.sdiEvent p bit code payload).now = s.now := by simp only [State.now, sdiEvent_tm]
@[simp ↓] theorem sdiEvent_twin (s : State) (p : Nat) (bit : Nat) (code : Nat) (payload : List Byte) : (s.sdiEvent p bit code payload).twin = s.twin := (State_sdiEvent_keeps (by decide : maskIn 906 906 = true) (Keeps.refl 906 s) _ _ _ _).same .twin rfl
@[simp ↓] theorem sdiEvent_upd (s : State) (p : Nat) (bit : Nat) (code : Nat) (payload : List Byte) : (s.sdiEvent p bit code payload).upd = s.upd := (State_sdiEvent_keeps (by decide : maskIn 906 906 = true) (Keeps.refl 906 s) _ _ _ _).same .upd rfl
@[simp ↓] theorem key_sdiEvent (s : State) (p : Nat) (bit : Nat) (code : Nat) (payload : List Byte) (j_ : Nat) : (s.sdiEvent p bit code payload).key j_ = s.key j_ := by simp only [State.key, sdiEvent_upd]
@[simp ↓] theorem img_sdiEvent (s : State) (p : Nat) (bit : Nat) (code : Nat) (payload : List Byte) (j_ : Nat) : (s.sdiEvent p bit code payload).img j_ = s.img j_ := by simp only [State.img, sdiEvent_upd]
/-! ### alnEvent -/

@[simp ↓] theorem alnEvent_fuses (s : State) (n : Nat) (bit : Nat) (code : Nat) (payload : List Byte) : (s.alnEvent n bit code payload).fuses = s.fuses := (State_alnEvent_keeps (by decide : maskIn 906 906 = true) (Keeps.refl 906 s) _ _ _ _).fuses
@[simp ↓] theorem alnEvent_pending (s : State) (n : Nat) (bit : Nat) (code : Nat) (payload : List Byte) : (s.alnEvent n bit code payload).pending = s.pending := (State_alnEvent_keeps (by decide : maskIn 906 906 = true) (Keeps.refl 906 s) _ _ _ _).pending
@[simp ↓] theorem alnEvent_aud (s : State) (n : Nat) (bit : Nat) (code : Nat) (payload : List Byte) : (s.alnEvent n bit code payload).aud = s.aud := (State_alnEvent_keeps (by decide : maskIn 906 906 = true) (Keeps.refl 906 s) _ _ _ _).same .aud rfl
@[simp ↓] theorem aes_alnEvent (s : State) (n : Nat) (bit : Nat) (code : Nat) (payload : List Byte) (j_ : Nat) : (s.alnEvent n bit code payload).aes j_ = s.aes j_ := by simp only [State.aes, alnEvent_aud]
@[simp ↓] theorem tdm_alnEvent (s : State) (n : Nat) (bit : Nat) (code : Nat) (payload : List Byte) (j_ : Nat) : (s.alnEvent n bit code payload).tdm j_ = s.tdm j_ := by simp only [State.tdm, alnEvent_aud]
@[simp ↓] theorem pdest_alnEvent (s : State) (n : Nat) (bit : Nat) (code : Nat) (payload : List Byte) (j_ : Nat) : (s.alnEvent n bit code payload).pdest j_ = s.pdest j_ := by simp only [State.pdest, alnEvent_aud]
@[simp ↓] theorem alnEvent_comp (s : State) (n : Nat) (bit : Nat) (code : Nat) (payload : List Byte) : (s.alnEvent n bit code payload).comp = s.comp := (State_alnEvent_keeps (by decide : maskIn 906 906 = true) (Keeps.refl 906 s) _ _ _ _).same .comp rfl
@[simp ↓] theorem head_alnEvent (s : State) (n : Nat) (bit : Nat) (code : Nat) (payload : List Byte) (j_ : Nat) : (s.alnEvent n bit code payload).head j_ = s.head j_ := by simp only [State.head, alnEvent_comp]
@[simp ↓] theorem lay_alnEvent (s : State) (n : Nat) (bit : Nat) (code : Nat) (payload : List Byte) (j_ : Nat) : (s.alnEvent n bit code payload).lay j_ = s.lay j_ := by simp only [State.lay, alnEvent_comp]
@[simp ↓] theorem alnEvent_dict (s : State) (n : Nat) (bit : Nat) (code : Nat) (payload : List Byte) : (s.alnEvent n bit code payload).dict = s.dict := (State_alnEvent_keeps (by decide : maskIn 906 906 = true) (Keeps.refl 906 s) _ _ _ _).same .dict rfl
@[simp ↓] theorem sess_alnEvent (s : State) (n : Nat) (bit : Nat) (code : Nat) (payload : List Byte) (j_ : Nat) : (s.alnEvent n bit code payload).sess j_ = s.sess j_ := by simp only [State.sess, alnEvent_dict]
@[simp ↓] theorem alnEvent_ess (s : State) (n : Nat) (bit : Nat) (code : Nat) (payload : List Byte) : (s.alnEvent n bit code payload).ess = s.ess := (State_alnEvent_keeps (by decide : maskIn 906 906 = true) (Keeps.refl 906 s) _ _ _ _).same .ess rfl
@[simp ↓] theorem lane_alnEvent (s : State) (n : Nat) (bit : Nat) (code : Nat) (payload : List Byte) (j_ : Nat) : (s.alnEvent n bit code payload).lane j_ = s.lane j_ := by simp only [State.lane, alnEvent_ess]
@[simp ↓] theorem slot_alnEvent (s : State) (n : Nat) (bit : Nat) (code : Nat) (payload : List Byte) (j_ : Nat) : (s.alnEvent n bit code payload).slot j_ = s.slot j_ := by simp only [State.slot, alnEvent_ess]
@[simp ↓] theorem out__alnEvent (s : State) (n : Nat) (bit : Nat) (code : Nat) (payload : List Byte) (j_ : Nat) : (s.alnEvent n bit code payload).out_ j_ = s.out_ j_ := by simp only [State.out_, alnEvent_ess]
@[simp ↓] theorem chan_alnEvent (s : State) (n : Nat) (bit : Nat) (code : Nat) (payload : List Byte) (j_ : Nat) : (s.alnEvent n bit code payload).chan j_ = s.chan j_ := by simp only [State.chan, alnEvent_ess]
@[simp ↓] theorem alnEvent_eth (s : State) (n : Nat) (bit : Nat) (code : Nat) (payload : List Byte) : (s.alnEvent n bit code payload).eth = s.eth := (State_alnEvent_keeps (by decide : maskIn 906 906 = true) (Keeps.refl 906 s) _ _ _ _).same .eth rfl
@[simp ↓] theorem rx_alnEvent (s : State) (n : Nat) (bit : Nat) (code : Nat) (payload : List Byte) (j_ : Nat) : (s.alnEvent n bit code payload).rx j_ = s.rx j_ := by simp only [State.rx, alnEvent_eth]
@[simp ↓] theorem tx_alnEvent (s : State) (n : Nat) (bit : Nat) (code : Nat) (payload : List Byte) (j_ : Nat) : (s.alnEvent n bit code payload).tx j_ = s.tx j_ := by simp only [State.tx, alnEvent_eth]
@[simp ↓] theorem alnEvent_fab (s : State) (n : Nat) (bit : Nat) (code : Nat) (payload : List Byte) : (s.alnEvent n bit code payload).fab = s.fab := (State_alnEvent_keeps (by decide : maskIn 906 906 = true) (Keeps.refl 906 s) _ _ _ _).same .fab rfl
@[simp ↓] theorem fl_alnEvent (s : State) (n : Nat) (bit : Nat) (code : Nat) (payload : List Byte) (j_ : Nat) : (s.alnEvent n bit code payload).fl j_ = s.fl j_ := by simp only [State.fl, alnEvent_fab]
@[simp ↓] theorem link_alnEvent (s : State) (n : Nat) (bit : Nat) (code : Nat) (payload : List Byte) (j_ : Nat) : (s.alnEvent n bit code payload).link j_ = s.link j_ := by simp only [State.link, alnEvent_fab]
@[simp ↓] theorem alnEvent_free (s : State) (n : Nat) (bit : Nat) (code : Nat) (payload : List Byte) : (s.alnEvent n bit code payload).free = s.free := (State_alnEvent_keeps (by decide : maskIn 906 906 = true) (Keeps.refl 906 s) _ _ _ _).same .free rfl
@[simp ↓] theorem alnEvent_mem (s : State) (n : Nat) (bit : Nat) (code : Nat) (payload : List Byte) : (s.alnEvent n bit code payload).mem = s.mem := (State_alnEvent_keeps (by decide : maskIn 906 906 = true) (Keeps.refl 906 s) _ _ _ _).same .mem rfl
@[simp ↓] theorem byte_alnEvent (s : State) (n : Nat) (bit : Nat) (code : Nat) (payload : List Byte) (j_ : Nat) : (s.alnEvent n bit code payload).byte j_ = s.byte j_ := by simp only [State.byte, alnEvent_mem]
@[simp ↓] theorem alnEvent_objs (s : State) (n : Nat) (bit : Nat) (code : Nat) (payload : List Byte) : (s.alnEvent n bit code payload).objs = s.objs := ((State_alnEvent_keeps (by decide : maskIn 906 906 = true) (Keeps.refl 906 s) _ _ _ _).same .objs rfl).1
@[simp ↓] theorem alnEvent_chg (s : State) (n : Nat) (bit : Nat) (code : Nat) (payload : List Byte) : (s.alnEvent n bit code payload).chg = s.chg := ((State_alnEvent_keeps (by decide : maskIn 906 906 = true) (Keeps.refl 906 s) _ _ _ _).same .objs rfl).2
@[simp ↓] theorem obj_alnEvent (s : State) (n : Nat) (bit : Nat) (code : Nat) (payload : List Byte) (j_ : Nat) : (s.alnEvent n bit code payload).obj j_ = s.obj j_ := by simp only [State.obj, alnEvent_objs, alnEvent_fuses]
@[simp ↓] theorem num_alnEvent (s : State) (n : Nat) (bit : Nat) (code : Nat) (payload : List Byte) (j_ : Nat) : (s.alnEvent n bit code payload).num j_ = s.num j_ := by simp only [State.num, obj_alnEvent]
@[simp ↓] theorem int_alnEvent (s : State) (n : Nat) (bit : Nat) (code : Nat) (payload : List Byte) (j_ : Nat) : (s.alnEvent n bit code payload).int j_ = s.int j_ := by simp only [State.int, obj_alnEvent]
@[simp ↓] theorem bytes_alnEvent (s : State) (n : Nat) (bit : Nat) (code : Nat) (payload : List Byte) (j_ : Nat) : (s.alnEvent n bit code payload).bytes j_ = s.bytes j_ := by simp only [State.bytes, obj_alnEvent]
@[simp ↓] theorem flag_alnEvent (s : State) (n : Nat) (bit : Nat) (code : Nat) (payload : List Byte) (j_ : Nat) : (s.alnEvent n bit code payload).flag j_ = s.flag j_ := by simp only [State.flag, num_alnEvent]
@[simp ↓] theorem alnEvent_pac (s : State) (n : Nat) (bit : Nat) (code : Nat) (payload : List Byte) : (s.alnEvent n bit code payload).pac = s.pac := (State_alnEvent_keeps (by decide : maskIn 906 906 = true) (Keeps.refl 906 s) _ _ _ _).same .pac rfl
@[simp ↓] theorem ref_alnEvent (s : State) (n : Nat) (bit : Nat) (code : Nat) (payload : List Byte) (j_ : Nat) : (s.alnEvent n bit code payload).ref j_ = s.ref j_ := by simp only [State.ref, alnEvent_pac]
@[simp ↓] theorem alnEvent_pwr (s : State) (n : Nat) (bit : Nat) (code : Nat) (payload : List Byte) : (s.alnEvent n bit code payload).pwr = s.pwr := (State_alnEvent_keeps (by decide : maskIn 906 906 = true) (Keeps.refl 906 s) _ _ _ _).same .pwr rfl
@[simp ↓] theorem alnEvent_str (s : State) (n : Nat) (bit : Nat) (code : Nat) (payload : List Byte) : (s.alnEvent n bit code payload).str = s.str := (State_alnEvent_keeps (by decide : maskIn 906 906 = true) (Keeps.refl 906 s) _ _ _ _).same .str rfl
@[simp ↓] theorem eng_alnEvent (s : State) (n : Nat) (bit : Nat) (code : Nat) (payload : List Byte) (j_ : Nat) : (s.alnEvent n bit code payload).eng j_ = s.eng j_ := by simp only [State.eng, alnEvent_str]
@[simp ↓] theorem alnEvent_tm (s : State) (n : Nat) (bit : Nat) (code : Nat) (payload : List Byte) : (s.alnEvent n bit code payload).tm = s.tm := (State_alnEvent_keeps (by decide : maskIn 906 906 = true) (Keeps.refl 906 s) _ _ _ _).same .tm rfl
@[simp ↓] theorem now_alnEvent (s : State) (n : Nat) (bit : Nat) (code : Nat) (payload : List Byte) : (s.alnEvent n bit code payload).now = s.now := by simp only [State.now, alnEvent_tm]
@[simp ↓] theorem alnEvent_twin (s : State) (n : Nat) (bit : Nat) (code : Nat) (payload : List Byte) : (s.alnEvent n bit code payload).twin = s.twin := (State_alnEvent_keeps (by decide : maskIn 906 906 = true) (Keeps.refl 906 s) _ _ _ _).same .twin rfl
@[simp ↓] theorem alnEvent_upd (s : State) (n : Nat) (bit : Nat) (code : Nat) (payload : List Byte) : (s.alnEvent n bit code payload).upd = s.upd := (State_alnEvent_keeps (by decide : maskIn 906 906 = true) (Keeps.refl 906 s) _ _ _ _).same .upd rfl
@[simp ↓] theorem key_alnEvent (s : State) (n : Nat) (bit : Nat) (code : Nat) (payload : List Byte) (j_ : Nat) : (s.alnEvent n bit code payload).key j_ = s.key j_ := by simp only [State.key, alnEvent_upd]
@[simp ↓] theorem img_alnEvent (s : State) (n : Nat) (bit : Nat) (code : Nat) (payload : List Byte) (j_ : Nat) : (s.alnEvent n bit code payload).img j_ = s.img j_ := by simp only [State.img, alnEvent_upd]
/-! ### report -/

@[simp ↓] theorem report_fuses (s : State) (n : Nat) (code : Nat) : (s.report n code).fuses = s.fuses := (State_report_keeps (by decide : maskIn 657295 657295 = true) (Keeps.refl 657295 s) _ _).fuses
@[simp ↓] theorem report_pending (s : State) (n : Nat) (code : Nat) : (s.report n code).pending = s.pending := (State_report_keeps (by decide : maskIn 657295 657295 = true) (Keeps.refl 657295 s) _ _).pending
@[simp ↓] theorem report_aud (s : State) (n : Nat) (code : Nat) : (s.report n code).aud = s.aud := (State_report_keeps (by decide : maskIn 657295 657295 = true) (Keeps.refl 657295 s) _ _).same .aud rfl
@[simp ↓] theorem aes_report (s : State) (n : Nat) (code : Nat) (j_ : Nat) : (s.report n code).aes j_ = s.aes j_ := by simp only [State.aes, report_aud]
@[simp ↓] theorem tdm_report (s : State) (n : Nat) (code : Nat) (j_ : Nat) : (s.report n code).tdm j_ = s.tdm j_ := by simp only [State.tdm, report_aud]
@[simp ↓] theorem pdest_report (s : State) (n : Nat) (code : Nat) (j_ : Nat) : (s.report n code).pdest j_ = s.pdest j_ := by simp only [State.pdest, report_aud]
@[simp ↓] theorem report_comp (s : State) (n : Nat) (code : Nat) : (s.report n code).comp = s.comp := (State_report_keeps (by decide : maskIn 657295 657295 = true) (Keeps.refl 657295 s) _ _).same .comp rfl
@[simp ↓] theorem head_report (s : State) (n : Nat) (code : Nat) (j_ : Nat) : (s.report n code).head j_ = s.head j_ := by simp only [State.head, report_comp]
@[simp ↓] theorem lay_report (s : State) (n : Nat) (code : Nat) (j_ : Nat) : (s.report n code).lay j_ = s.lay j_ := by simp only [State.lay, report_comp]
@[simp ↓] theorem report_dict (s : State) (n : Nat) (code : Nat) : (s.report n code).dict = s.dict := (State_report_keeps (by decide : maskIn 657295 657295 = true) (Keeps.refl 657295 s) _ _).same .dict rfl
@[simp ↓] theorem sess_report (s : State) (n : Nat) (code : Nat) (j_ : Nat) : (s.report n code).sess j_ = s.sess j_ := by simp only [State.sess, report_dict]
@[simp ↓] theorem report_eth (s : State) (n : Nat) (code : Nat) : (s.report n code).eth = s.eth := (State_report_keeps (by decide : maskIn 657295 657295 = true) (Keeps.refl 657295 s) _ _).same .eth rfl
@[simp ↓] theorem rx_report (s : State) (n : Nat) (code : Nat) (j_ : Nat) : (s.report n code).rx j_ = s.rx j_ := by simp only [State.rx, report_eth]
@[simp ↓] theorem tx_report (s : State) (n : Nat) (code : Nat) (j_ : Nat) : (s.report n code).tx j_ = s.tx j_ := by simp only [State.tx, report_eth]
@[simp ↓] theorem report_fab (s : State) (n : Nat) (code : Nat) : (s.report n code).fab = s.fab := (State_report_keeps (by decide : maskIn 657295 657295 = true) (Keeps.refl 657295 s) _ _).same .fab rfl
@[simp ↓] theorem fl_report (s : State) (n : Nat) (code : Nat) (j_ : Nat) : (s.report n code).fl j_ = s.fl j_ := by simp only [State.fl, report_fab]
@[simp ↓] theorem link_report (s : State) (n : Nat) (code : Nat) (j_ : Nat) : (s.report n code).link j_ = s.link j_ := by simp only [State.link, report_fab]
@[simp ↓] theorem report_free (s : State) (n : Nat) (code : Nat) : (s.report n code).free = s.free := (State_report_keeps (by decide : maskIn 657295 657295 = true) (Keeps.refl 657295 s) _ _).same .free rfl
@[simp ↓] theorem report_pac (s : State) (n : Nat) (code : Nat) : (s.report n code).pac = s.pac := (State_report_keeps (by decide : maskIn 657295 657295 = true) (Keeps.refl 657295 s) _ _).same .pac rfl
@[simp ↓] theorem ref_report (s : State) (n : Nat) (code : Nat) (j_ : Nat) : (s.report n code).ref j_ = s.ref j_ := by simp only [State.ref, report_pac]
@[simp ↓] theorem report_pwr (s : State) (n : Nat) (code : Nat) : (s.report n code).pwr = s.pwr := (State_report_keeps (by decide : maskIn 657295 657295 = true) (Keeps.refl 657295 s) _ _).same .pwr rfl
@[simp ↓] theorem report_str (s : State) (n : Nat) (code : Nat) : (s.report n code).str = s.str := (State_report_keeps (by decide : maskIn 657295 657295 = true) (Keeps.refl 657295 s) _ _).same .str rfl
@[simp ↓] theorem eng_report (s : State) (n : Nat) (code : Nat) (j_ : Nat) : (s.report n code).eng j_ = s.eng j_ := by simp only [State.eng, report_str]
@[simp ↓] theorem report_tm (s : State) (n : Nat) (code : Nat) : (s.report n code).tm = s.tm := (State_report_keeps (by decide : maskIn 657295 657295 = true) (Keeps.refl 657295 s) _ _).same .tm rfl
@[simp ↓] theorem now_report (s : State) (n : Nat) (code : Nat) : (s.report n code).now = s.now := by simp only [State.now, report_tm]
/-! ### laneAbsent -/

@[simp ↓] theorem laneAbsent_fuses (s : State) (p : Nat) : (s.laneAbsent p).fuses = s.fuses := (State_laneAbsent_keeps (by decide : maskIn 36747 36747 = true) (Keeps.refl 36747 s) _).fuses
@[simp ↓] theorem laneAbsent_pending (s : State) (p : Nat) : (s.laneAbsent p).pending = s.pending := (State_laneAbsent_keeps (by decide : maskIn 36747 36747 = true) (Keeps.refl 36747 s) _).pending
@[simp ↓] theorem laneAbsent_comp (s : State) (p : Nat) : (s.laneAbsent p).comp = s.comp := (State_laneAbsent_keeps (by decide : maskIn 36747 36747 = true) (Keeps.refl 36747 s) _).same .comp rfl
@[simp ↓] theorem head_laneAbsent (s : State) (p : Nat) (j_ : Nat) : (s.laneAbsent p).head j_ = s.head j_ := by simp only [State.head, laneAbsent_comp]
@[simp ↓] theorem lay_laneAbsent (s : State) (p : Nat) (j_ : Nat) : (s.laneAbsent p).lay j_ = s.lay j_ := by simp only [State.lay, laneAbsent_comp]
@[simp ↓] theorem laneAbsent_dict (s : State) (p : Nat) : (s.laneAbsent p).dict = s.dict := (State_laneAbsent_keeps (by decide : maskIn 36747 36747 = true) (Keeps.refl 36747 s) _).same .dict rfl
@[simp ↓] theorem sess_laneAbsent (s : State) (p : Nat) (j_ : Nat) : (s.laneAbsent p).sess j_ = s.sess j_ := by simp only [State.sess, laneAbsent_dict]
@[simp ↓] theorem laneAbsent_eth (s : State) (p : Nat) : (s.laneAbsent p).eth = s.eth := (State_laneAbsent_keeps (by decide : maskIn 36747 36747 = true) (Keeps.refl 36747 s) _).same .eth rfl
@[simp ↓] theorem rx_laneAbsent (s : State) (p : Nat) (j_ : Nat) : (s.laneAbsent p).rx j_ = s.rx j_ := by simp only [State.rx, laneAbsent_eth]
@[simp ↓] theorem tx_laneAbsent (s : State) (p : Nat) (j_ : Nat) : (s.laneAbsent p).tx j_ = s.tx j_ := by simp only [State.tx, laneAbsent_eth]
@[simp ↓] theorem laneAbsent_free (s : State) (p : Nat) : (s.laneAbsent p).free = s.free := (State_laneAbsent_keeps (by decide : maskIn 36747 36747 = true) (Keeps.refl 36747 s) _).same .free rfl
@[simp ↓] theorem laneAbsent_mem (s : State) (p : Nat) : (s.laneAbsent p).mem = s.mem := (State_laneAbsent_keeps (by decide : maskIn 36747 36747 = true) (Keeps.refl 36747 s) _).same .mem rfl
@[simp ↓] theorem byte_laneAbsent (s : State) (p : Nat) (j_ : Nat) : (s.laneAbsent p).byte j_ = s.byte j_ := by simp only [State.byte, laneAbsent_mem]
@[simp ↓] theorem laneAbsent_pac (s : State) (p : Nat) : (s.laneAbsent p).pac = s.pac := (State_laneAbsent_keeps (by decide : maskIn 36747 36747 = true) (Keeps.refl 36747 s) _).same .pac rfl
@[simp ↓] theorem ref_laneAbsent (s : State) (p : Nat) (j_ : Nat) : (s.laneAbsent p).ref j_ = s.ref j_ := by simp only [State.ref, laneAbsent_pac]
@[simp ↓] theorem laneAbsent_pwr (s : State) (p : Nat) : (s.laneAbsent p).pwr = s.pwr := (State_laneAbsent_keeps (by decide : maskIn 36747 36747 = true) (Keeps.refl 36747 s) _).same .pwr rfl
@[simp ↓] theorem laneAbsent_str (s : State) (p : Nat) : (s.laneAbsent p).str = s.str := (State_laneAbsent_keeps (by decide : maskIn 36747 36747 = true) (Keeps.refl 36747 s) _).same .str rfl
@[simp ↓] theorem eng_laneAbsent (s : State) (p : Nat) (j_ : Nat) : (s.laneAbsent p).eng j_ = s.eng j_ := by simp only [State.eng, laneAbsent_str]
@[simp ↓] theorem laneAbsent_tm (s : State) (p : Nat) : (s.laneAbsent p).tm = s.tm := (State_laneAbsent_keeps (by decide : maskIn 36747 36747 = true) (Keeps.refl 36747 s) _).same .tm rfl
@[simp ↓] theorem now_laneAbsent (s : State) (p : Nat) : (s.laneAbsent p).now = s.now := by simp only [State.now, laneAbsent_tm]
@[simp ↓] theorem laneAbsent_twin (s : State) (p : Nat) : (s.laneAbsent p).twin = s.twin := (State_laneAbsent_keeps (by decide : maskIn 36747 36747 = true) (Keeps.refl 36747 s) _).same .twin rfl
@[simp ↓] theorem laneAbsent_upd (s : State) (p : Nat) : (s.laneAbsent p).upd = s.upd := (State_laneAbsent_keeps (by decide : maskIn 36747 36747 = true) (Keeps.refl 36747 s) _).same .upd rfl
@[simp ↓] theorem key_laneAbsent (s : State) (p : Nat) (j_ : Nat) : (s.laneAbsent p).key j_ = s.key j_ := by simp only [State.key, laneAbsent_upd]
@[simp ↓] theorem img_laneAbsent (s : State) (p : Nat) (j_ : Nat) : (s.laneAbsent p).img j_ = s.img j_ := by simp only [State.img, laneAbsent_upd]
/-! ### setPresents -/

@[simp ↓] theorem setPresents_fuses (s : State) (ks : List Nat) (on : Bool) : (s.setPresents ks on).fuses = s.fuses := (State_setPresents_keeps (by decide : maskIn 33800 33800 = true) (Keeps.refl 33800 s) _ _).fuses
@[simp ↓] theorem setPresents_pending (s : State) (ks : List Nat) (on : Bool) : (s.setPresents ks on).pending = s.pending := (State_setPresents_keeps (by decide : maskIn 33800 33800 = true) (Keeps.refl 33800 s) _ _).pending
@[simp ↓] theorem setPresents_aud (s : State) (ks : List Nat) (on : Bool) : (s.setPresents ks on).aud = s.aud := (State_setPresents_keeps (by decide : maskIn 33800 33800 = true) (Keeps.refl 33800 s) _ _).same .aud rfl
@[simp ↓] theorem aes_setPresents (s : State) (ks : List Nat) (on : Bool) (j_ : Nat) : (s.setPresents ks on).aes j_ = s.aes j_ := by simp only [State.aes, setPresents_aud]
@[simp ↓] theorem tdm_setPresents (s : State) (ks : List Nat) (on : Bool) (j_ : Nat) : (s.setPresents ks on).tdm j_ = s.tdm j_ := by simp only [State.tdm, setPresents_aud]
@[simp ↓] theorem pdest_setPresents (s : State) (ks : List Nat) (on : Bool) (j_ : Nat) : (s.setPresents ks on).pdest j_ = s.pdest j_ := by simp only [State.pdest, setPresents_aud]
@[simp ↓] theorem setPresents_comp (s : State) (ks : List Nat) (on : Bool) : (s.setPresents ks on).comp = s.comp := (State_setPresents_keeps (by decide : maskIn 33800 33800 = true) (Keeps.refl 33800 s) _ _).same .comp rfl
@[simp ↓] theorem head_setPresents (s : State) (ks : List Nat) (on : Bool) (j_ : Nat) : (s.setPresents ks on).head j_ = s.head j_ := by simp only [State.head, setPresents_comp]
@[simp ↓] theorem lay_setPresents (s : State) (ks : List Nat) (on : Bool) (j_ : Nat) : (s.setPresents ks on).lay j_ = s.lay j_ := by simp only [State.lay, setPresents_comp]
@[simp ↓] theorem setPresents_dict (s : State) (ks : List Nat) (on : Bool) : (s.setPresents ks on).dict = s.dict := (State_setPresents_keeps (by decide : maskIn 33800 33800 = true) (Keeps.refl 33800 s) _ _).same .dict rfl
@[simp ↓] theorem sess_setPresents (s : State) (ks : List Nat) (on : Bool) (j_ : Nat) : (s.setPresents ks on).sess j_ = s.sess j_ := by simp only [State.sess, setPresents_dict]
@[simp ↓] theorem setPresents_eth (s : State) (ks : List Nat) (on : Bool) : (s.setPresents ks on).eth = s.eth := (State_setPresents_keeps (by decide : maskIn 33800 33800 = true) (Keeps.refl 33800 s) _ _).same .eth rfl
@[simp ↓] theorem rx_setPresents (s : State) (ks : List Nat) (on : Bool) (j_ : Nat) : (s.setPresents ks on).rx j_ = s.rx j_ := by simp only [State.rx, setPresents_eth]
@[simp ↓] theorem tx_setPresents (s : State) (ks : List Nat) (on : Bool) (j_ : Nat) : (s.setPresents ks on).tx j_ = s.tx j_ := by simp only [State.tx, setPresents_eth]
@[simp ↓] theorem setPresents_evr (s : State) (ks : List Nat) (on : Bool) : (s.setPresents ks on).evr = s.evr := (State_setPresents_keeps (by decide : maskIn 33800 33800 = true) (Keeps.refl 33800 s) _ _).same .evr rfl
@[simp ↓] theorem setPresents_flt (s : State) (ks : List Nat) (on : Bool) : (s.setPresents ks on).flt = s.flt := (State_setPresents_keeps (by decide : maskIn 33800 33800 = true) (Keeps.refl 33800 s) _ _).same .flt rfl
@[simp ↓] theorem src_setPresents (s : State) (ks : List Nat) (on : Bool) (j_ : Nat) : (s.setPresents ks on).src j_ = s.src j_ := by simp only [State.src, setPresents_flt]
@[simp ↓] theorem setPresents_free (s : State) (ks : List Nat) (on : Bool) : (s.setPresents ks on).free = s.free := (State_setPresents_keeps (by decide : maskIn 33800 33800 = true) (Keeps.refl 33800 s) _ _).same .free rfl
@[simp ↓] theorem setPresents_hif (s : State) (ks : List Nat) (on : Bool) : (s.setPresents ks on).hif = s.hif := (State_setPresents_keeps (by decide : maskIn 33800 33800 = true) (Keeps.refl 33800 s) _ _).same .hif rfl
@[simp ↓] theorem dch_setPresents (s : State) (ks : List Nat) (on : Bool) (j_ : Nat) : (s.setPresents ks on).dch j_ = s.dch j_ := by simp only [State.dch, setPresents_hif]
@[simp ↓] theorem ring_setPresents (s : State) (ks : List Nat) (on : Bool) (j_ : Nat) : (s.setPresents ks on).ring j_ = s.ring j_ := by simp only [State.ring, setPresents_hif]
@[simp ↓] theorem setPresents_mem (s : State) (ks : List Nat) (on : Bool) : (s.setPresents ks on).mem = s.mem := (State_setPresents_keeps (by decide : maskIn 33800 33800 = true) (Keeps.refl 33800 s) _ _).same .mem rfl
@[simp ↓] theorem byte_setPresents (s : State) (ks : List Nat) (on : Bool) (j_ : Nat) : (s.setPresents ks on).byte j_ = s.byte j_ := by simp only [State.byte, setPresents_mem]
@[simp ↓] theorem setPresents_objs (s : State) (ks : List Nat) (on : Bool) : (s.setPresents ks on).objs = s.objs := ((State_setPresents_keeps (by decide : maskIn 33800 33800 = true) (Keeps.refl 33800 s) _ _).same .objs rfl).1
@[simp ↓] theorem setPresents_chg (s : State) (ks : List Nat) (on : Bool) : (s.setPresents ks on).chg = s.chg := ((State_setPresents_keeps (by decide : maskIn 33800 33800 = true) (Keeps.refl 33800 s) _ _).same .objs rfl).2
@[simp ↓] theorem obj_setPresents (s : State) (ks : List Nat) (on : Bool) (j_ : Nat) : (s.setPresents ks on).obj j_ = s.obj j_ := by simp only [State.obj, setPresents_objs, setPresents_fuses]
@[simp ↓] theorem num_setPresents (s : State) (ks : List Nat) (on : Bool) (j_ : Nat) : (s.setPresents ks on).num j_ = s.num j_ := by simp only [State.num, obj_setPresents]
@[simp ↓] theorem int_setPresents (s : State) (ks : List Nat) (on : Bool) (j_ : Nat) : (s.setPresents ks on).int j_ = s.int j_ := by simp only [State.int, obj_setPresents]
@[simp ↓] theorem bytes_setPresents (s : State) (ks : List Nat) (on : Bool) (j_ : Nat) : (s.setPresents ks on).bytes j_ = s.bytes j_ := by simp only [State.bytes, obj_setPresents]
@[simp ↓] theorem flag_setPresents (s : State) (ks : List Nat) (on : Bool) (j_ : Nat) : (s.setPresents ks on).flag j_ = s.flag j_ := by simp only [State.flag, num_setPresents]
@[simp ↓] theorem setPresents_pac (s : State) (ks : List Nat) (on : Bool) : (s.setPresents ks on).pac = s.pac := (State_setPresents_keeps (by decide : maskIn 33800 33800 = true) (Keeps.refl 33800 s) _ _).same .pac rfl
@[simp ↓] theorem ref_setPresents (s : State) (ks : List Nat) (on : Bool) (j_ : Nat) : (s.setPresents ks on).ref j_ = s.ref j_ := by simp only [State.ref, setPresents_pac]
@[simp ↓] theorem setPresents_pwr (s : State) (ks : List Nat) (on : Bool) : (s.setPresents ks on).pwr = s.pwr := (State_setPresents_keeps (by decide : maskIn 33800 33800 = true) (Keeps.refl 33800 s) _ _).same .pwr rfl
@[simp ↓] theorem setPresents_regs (s : State) (ks : List Nat) (on : Bool) : (s.setPresents ks on).regs = s.regs := (State_setPresents_keeps (by decide : maskIn 33800 33800 = true) (Keeps.refl 33800 s) _ _).same .regs rfl
@[simp ↓] theorem reg_setPresents (s : State) (ks : List Nat) (on : Bool) (j_ : Nat) : (s.setPresents ks on).reg j_ = s.reg j_ := by simp only [State.reg, setPresents_regs]
@[simp ↓] theorem setPresents_str (s : State) (ks : List Nat) (on : Bool) : (s.setPresents ks on).str = s.str := (State_setPresents_keeps (by decide : maskIn 33800 33800 = true) (Keeps.refl 33800 s) _ _).same .str rfl
@[simp ↓] theorem eng_setPresents (s : State) (ks : List Nat) (on : Bool) (j_ : Nat) : (s.setPresents ks on).eng j_ = s.eng j_ := by simp only [State.eng, setPresents_str]
@[simp ↓] theorem setPresents_tm (s : State) (ks : List Nat) (on : Bool) : (s.setPresents ks on).tm = s.tm := (State_setPresents_keeps (by decide : maskIn 33800 33800 = true) (Keeps.refl 33800 s) _ _).same .tm rfl
@[simp ↓] theorem now_setPresents (s : State) (ks : List Nat) (on : Bool) : (s.setPresents ks on).now = s.now := by simp only [State.now, setPresents_tm]
@[simp ↓] theorem setPresents_twin (s : State) (ks : List Nat) (on : Bool) : (s.setPresents ks on).twin = s.twin := (State_setPresents_keeps (by decide : maskIn 33800 33800 = true) (Keeps.refl 33800 s) _ _).same .twin rfl
@[simp ↓] theorem setPresents_upd (s : State) (ks : List Nat) (on : Bool) : (s.setPresents ks on).upd = s.upd := (State_setPresents_keeps (by decide : maskIn 33800 33800 = true) (Keeps.refl 33800 s) _ _).same .upd rfl
@[simp ↓] theorem key_setPresents (s : State) (ks : List Nat) (on : Bool) (j_ : Nat) : (s.setPresents ks on).key j_ = s.key j_ := by simp only [State.key, setPresents_upd]
@[simp ↓] theorem img_setPresents (s : State) (ks : List Nat) (on : Bool) (j_ : Nat) : (s.setPresents ks on).img j_ = s.img j_ := by simp only [State.img, setPresents_upd]
/-! ### setPresent -/

@[simp ↓] theorem setPresent_fuses (s : State) (k : Nat) (on : Bool) : (s.setPresent k on).fuses = s.fuses := (State_setPresent_keeps (by decide : maskIn 33800 33800 = true) (Keeps.refl 33800 s) _ _).fuses
@[simp ↓] theorem setPresent_pending (s : State) (k : Nat) (on : Bool) : (s.setPresent k on).pending = s.pending := (State_setPresent_keeps (by decide : maskIn 33800 33800 = true) (Keeps.refl 33800 s) _ _).pending
@[simp ↓] theorem setPresent_aud (s : State) (k : Nat) (on : Bool) : (s.setPresent k on).aud = s.aud := (State_setPresent_keeps (by decide : maskIn 33800 33800 = true) (Keeps.refl 33800 s) _ _).same .aud rfl
@[simp ↓] theorem aes_setPresent (s : State) (k : Nat) (on : Bool) (j_ : Nat) : (s.setPresent k on).aes j_ = s.aes j_ := by simp only [State.aes, setPresent_aud]
@[simp ↓] theorem tdm_setPresent (s : State) (k : Nat) (on : Bool) (j_ : Nat) : (s.setPresent k on).tdm j_ = s.tdm j_ := by simp only [State.tdm, setPresent_aud]
@[simp ↓] theorem pdest_setPresent (s : State) (k : Nat) (on : Bool) (j_ : Nat) : (s.setPresent k on).pdest j_ = s.pdest j_ := by simp only [State.pdest, setPresent_aud]
@[simp ↓] theorem setPresent_comp (s : State) (k : Nat) (on : Bool) : (s.setPresent k on).comp = s.comp := (State_setPresent_keeps (by decide : maskIn 33800 33800 = true) (Keeps.refl 33800 s) _ _).same .comp rfl
@[simp ↓] theorem head_setPresent (s : State) (k : Nat) (on : Bool) (j_ : Nat) : (s.setPresent k on).head j_ = s.head j_ := by simp only [State.head, setPresent_comp]
@[simp ↓] theorem lay_setPresent (s : State) (k : Nat) (on : Bool) (j_ : Nat) : (s.setPresent k on).lay j_ = s.lay j_ := by simp only [State.lay, setPresent_comp]
@[simp ↓] theorem setPresent_dict (s : State) (k : Nat) (on : Bool) : (s.setPresent k on).dict = s.dict := (State_setPresent_keeps (by decide : maskIn 33800 33800 = true) (Keeps.refl 33800 s) _ _).same .dict rfl
@[simp ↓] theorem sess_setPresent (s : State) (k : Nat) (on : Bool) (j_ : Nat) : (s.setPresent k on).sess j_ = s.sess j_ := by simp only [State.sess, setPresent_dict]
@[simp ↓] theorem setPresent_eth (s : State) (k : Nat) (on : Bool) : (s.setPresent k on).eth = s.eth := (State_setPresent_keeps (by decide : maskIn 33800 33800 = true) (Keeps.refl 33800 s) _ _).same .eth rfl
@[simp ↓] theorem rx_setPresent (s : State) (k : Nat) (on : Bool) (j_ : Nat) : (s.setPresent k on).rx j_ = s.rx j_ := by simp only [State.rx, setPresent_eth]
@[simp ↓] theorem tx_setPresent (s : State) (k : Nat) (on : Bool) (j_ : Nat) : (s.setPresent k on).tx j_ = s.tx j_ := by simp only [State.tx, setPresent_eth]
@[simp ↓] theorem setPresent_evr (s : State) (k : Nat) (on : Bool) : (s.setPresent k on).evr = s.evr := (State_setPresent_keeps (by decide : maskIn 33800 33800 = true) (Keeps.refl 33800 s) _ _).same .evr rfl
@[simp ↓] theorem setPresent_flt (s : State) (k : Nat) (on : Bool) : (s.setPresent k on).flt = s.flt := (State_setPresent_keeps (by decide : maskIn 33800 33800 = true) (Keeps.refl 33800 s) _ _).same .flt rfl
@[simp ↓] theorem src_setPresent (s : State) (k : Nat) (on : Bool) (j_ : Nat) : (s.setPresent k on).src j_ = s.src j_ := by simp only [State.src, setPresent_flt]
@[simp ↓] theorem setPresent_free (s : State) (k : Nat) (on : Bool) : (s.setPresent k on).free = s.free := (State_setPresent_keeps (by decide : maskIn 33800 33800 = true) (Keeps.refl 33800 s) _ _).same .free rfl
@[simp ↓] theorem setPresent_hif (s : State) (k : Nat) (on : Bool) : (s.setPresent k on).hif = s.hif := (State_setPresent_keeps (by decide : maskIn 33800 33800 = true) (Keeps.refl 33800 s) _ _).same .hif rfl
@[simp ↓] theorem dch_setPresent (s : State) (k : Nat) (on : Bool) (j_ : Nat) : (s.setPresent k on).dch j_ = s.dch j_ := by simp only [State.dch, setPresent_hif]
@[simp ↓] theorem ring_setPresent (s : State) (k : Nat) (on : Bool) (j_ : Nat) : (s.setPresent k on).ring j_ = s.ring j_ := by simp only [State.ring, setPresent_hif]
@[simp ↓] theorem setPresent_mem (s : State) (k : Nat) (on : Bool) : (s.setPresent k on).mem = s.mem := (State_setPresent_keeps (by decide : maskIn 33800 33800 = true) (Keeps.refl 33800 s) _ _).same .mem rfl
@[simp ↓] theorem byte_setPresent (s : State) (k : Nat) (on : Bool) (j_ : Nat) : (s.setPresent k on).byte j_ = s.byte j_ := by simp only [State.byte, setPresent_mem]
@[simp ↓] theorem setPresent_objs (s : State) (k : Nat) (on : Bool) : (s.setPresent k on).objs = s.objs := ((State_setPresent_keeps (by decide : maskIn 33800 33800 = true) (Keeps.refl 33800 s) _ _).same .objs rfl).1
@[simp ↓] theorem setPresent_chg (s : State) (k : Nat) (on : Bool) : (s.setPresent k on).chg = s.chg := ((State_setPresent_keeps (by decide : maskIn 33800 33800 = true) (Keeps.refl 33800 s) _ _).same .objs rfl).2
@[simp ↓] theorem obj_setPresent (s : State) (k : Nat) (on : Bool) (j_ : Nat) : (s.setPresent k on).obj j_ = s.obj j_ := by simp only [State.obj, setPresent_objs, setPresent_fuses]
@[simp ↓] theorem num_setPresent (s : State) (k : Nat) (on : Bool) (j_ : Nat) : (s.setPresent k on).num j_ = s.num j_ := by simp only [State.num, obj_setPresent]
@[simp ↓] theorem int_setPresent (s : State) (k : Nat) (on : Bool) (j_ : Nat) : (s.setPresent k on).int j_ = s.int j_ := by simp only [State.int, obj_setPresent]
@[simp ↓] theorem bytes_setPresent (s : State) (k : Nat) (on : Bool) (j_ : Nat) : (s.setPresent k on).bytes j_ = s.bytes j_ := by simp only [State.bytes, obj_setPresent]
@[simp ↓] theorem flag_setPresent (s : State) (k : Nat) (on : Bool) (j_ : Nat) : (s.setPresent k on).flag j_ = s.flag j_ := by simp only [State.flag, num_setPresent]
@[simp ↓] theorem setPresent_pac (s : State) (k : Nat) (on : Bool) : (s.setPresent k on).pac = s.pac := (State_setPresent_keeps (by decide : maskIn 33800 33800 = true) (Keeps.refl 33800 s) _ _).same .pac rfl
@[simp ↓] theorem ref_setPresent (s : State) (k : Nat) (on : Bool) (j_ : Nat) : (s.setPresent k on).ref j_ = s.ref j_ := by simp only [State.ref, setPresent_pac]
@[simp ↓] theorem setPresent_pwr (s : State) (k : Nat) (on : Bool) : (s.setPresent k on).pwr = s.pwr := (State_setPresent_keeps (by decide : maskIn 33800 33800 = true) (Keeps.refl 33800 s) _ _).same .pwr rfl
@[simp ↓] theorem setPresent_regs (s : State) (k : Nat) (on : Bool) : (s.setPresent k on).regs = s.regs := (State_setPresent_keeps (by decide : maskIn 33800 33800 = true) (Keeps.refl 33800 s) _ _).same .regs rfl
@[simp ↓] theorem reg_setPresent (s : State) (k : Nat) (on : Bool) (j_ : Nat) : (s.setPresent k on).reg j_ = s.reg j_ := by simp only [State.reg, setPresent_regs]
@[simp ↓] theorem setPresent_str (s : State) (k : Nat) (on : Bool) : (s.setPresent k on).str = s.str := (State_setPresent_keeps (by decide : maskIn 33800 33800 = true) (Keeps.refl 33800 s) _ _).same .str rfl
@[simp ↓] theorem eng_setPresent (s : State) (k : Nat) (on : Bool) (j_ : Nat) : (s.setPresent k on).eng j_ = s.eng j_ := by simp only [State.eng, setPresent_str]
@[simp ↓] theorem setPresent_tm (s : State) (k : Nat) (on : Bool) : (s.setPresent k on).tm = s.tm := (State_setPresent_keeps (by decide : maskIn 33800 33800 = true) (Keeps.refl 33800 s) _ _).same .tm rfl
@[simp ↓] theorem now_setPresent (s : State) (k : Nat) (on : Bool) : (s.setPresent k on).now = s.now := by simp only [State.now, setPresent_tm]
@[simp ↓] theorem setPresent_twin (s : State) (k : Nat) (on : Bool) : (s.setPresent k on).twin = s.twin := (State_setPresent_keeps (by decide : maskIn 33800 33800 = true) (Keeps.refl 33800 s) _ _).same .twin rfl
@[simp ↓] theorem setPresent_upd (s : State) (k : Nat) (on : Bool) : (s.setPresent k on).upd = s.upd := (State_setPresent_keeps (by decide : maskIn 33800 33800 = true) (Keeps.refl 33800 s) _ _).same .upd rfl
@[simp ↓] theorem key_setPresent (s : State) (k : Nat) (on : Bool) (j_ : Nat) : (s.setPresent k on).key j_ = s.key j_ := by simp only [State.key, setPresent_upd]
@[simp ↓] theorem img_setPresent (s : State) (k : Nat) (on : Bool) (j_ : Nat) : (s.setPresent k on).img j_ = s.img j_ := by simp only [State.img, setPresent_upd]
/-! ### tellStream -/

@[simp ↓] theorem tellStream_fuses (s : State) (k : Nat) (on : Bool) : (s.tellStream k on).fuses = s.fuses := (State_tellStream_keeps (by decide : maskIn 32776 32776 = true) (Keeps.refl 32776 s) _ _).fuses
@[simp ↓] theorem tellStream_pending (s : State) (k : Nat) (on : Bool) : (s.tellStream k on).pending = s.pending := (State_tellStream_keeps (by decide : maskIn 32776 32776 = true) (Keeps.refl 32776 s) _ _).pending
@[simp ↓] theorem tellStream_aud (s : State) (k : Nat) (on : Bool) : (s.tellStream k on).aud = s.aud := (State_tellStream_keeps (by decide : maskIn 32776 32776 = true) (Keeps.refl 32776 s) _ _).same .aud rfl
@[simp ↓] theorem aes_tellStream (s : State) (k : Nat) (on : Bool) (j_ : Nat) : (s.tellStream k on).aes j_ = s.aes j_ := by simp only [State.aes, tellStream_aud]
@[simp ↓] theorem tdm_tellStream (s : State) (k : Nat) (on : Bool) (j_ : Nat) : (s.tellStream k on).tdm j_ = s.tdm j_ := by simp only [State.tdm, tellStream_aud]
@[simp ↓] theorem pdest_tellStream (s : State) (k : Nat) (on : Bool) (j_ : Nat) : (s.tellStream k on).pdest j_ = s.pdest j_ := by simp only [State.pdest, tellStream_aud]
@[simp ↓] theorem tellStream_comp (s : State) (k : Nat) (on : Bool) : (s.tellStream k on).comp = s.comp := (State_tellStream_keeps (by decide : maskIn 32776 32776 = true) (Keeps.refl 32776 s) _ _).same .comp rfl
@[simp ↓] theorem head_tellStream (s : State) (k : Nat) (on : Bool) (j_ : Nat) : (s.tellStream k on).head j_ = s.head j_ := by simp only [State.head, tellStream_comp]
@[simp ↓] theorem lay_tellStream (s : State) (k : Nat) (on : Bool) (j_ : Nat) : (s.tellStream k on).lay j_ = s.lay j_ := by simp only [State.lay, tellStream_comp]
@[simp ↓] theorem tellStream_dict (s : State) (k : Nat) (on : Bool) : (s.tellStream k on).dict = s.dict := (State_tellStream_keeps (by decide : maskIn 32776 32776 = true) (Keeps.refl 32776 s) _ _).same .dict rfl
@[simp ↓] theorem sess_tellStream (s : State) (k : Nat) (on : Bool) (j_ : Nat) : (s.tellStream k on).sess j_ = s.sess j_ := by simp only [State.sess, tellStream_dict]
@[simp ↓] theorem tellStream_ess (s : State) (k : Nat) (on : Bool) : (s.tellStream k on).ess = s.ess := (State_tellStream_keeps (by decide : maskIn 32776 32776 = true) (Keeps.refl 32776 s) _ _).same .ess rfl
@[simp ↓] theorem lane_tellStream (s : State) (k : Nat) (on : Bool) (j_ : Nat) : (s.tellStream k on).lane j_ = s.lane j_ := by simp only [State.lane, tellStream_ess]
@[simp ↓] theorem slot_tellStream (s : State) (k : Nat) (on : Bool) (j_ : Nat) : (s.tellStream k on).slot j_ = s.slot j_ := by simp only [State.slot, tellStream_ess]
@[simp ↓] theorem out__tellStream (s : State) (k : Nat) (on : Bool) (j_ : Nat) : (s.tellStream k on).out_ j_ = s.out_ j_ := by simp only [State.out_, tellStream_ess]
@[simp ↓] theorem chan_tellStream (s : State) (k : Nat) (on : Bool) (j_ : Nat) : (s.tellStream k on).chan j_ = s.chan j_ := by simp only [State.chan, tellStream_ess]
@[simp ↓] theorem tellStream_eth (s : State) (k : Nat) (on : Bool) : (s.tellStream k on).eth = s.eth := (State_tellStream_keeps (by decide : maskIn 32776 32776 = true) (Keeps.refl 32776 s) _ _).same .eth rfl
@[simp ↓] theorem rx_tellStream (s : State) (k : Nat) (on : Bool) (j_ : Nat) : (s.tellStream k on).rx j_ = s.rx j_ := by simp only [State.rx, tellStream_eth]
@[simp ↓] theorem tx_tellStream (s : State) (k : Nat) (on : Bool) (j_ : Nat) : (s.tellStream k on).tx j_ = s.tx j_ := by simp only [State.tx, tellStream_eth]
@[simp ↓] theorem tellStream_evr (s : State) (k : Nat) (on : Bool) : (s.tellStream k on).evr = s.evr := (State_tellStream_keeps (by decide : maskIn 32776 32776 = true) (Keeps.refl 32776 s) _ _).same .evr rfl
@[simp ↓] theorem tellStream_flt (s : State) (k : Nat) (on : Bool) : (s.tellStream k on).flt = s.flt := (State_tellStream_keeps (by decide : maskIn 32776 32776 = true) (Keeps.refl 32776 s) _ _).same .flt rfl
@[simp ↓] theorem src_tellStream (s : State) (k : Nat) (on : Bool) (j_ : Nat) : (s.tellStream k on).src j_ = s.src j_ := by simp only [State.src, tellStream_flt]
@[simp ↓] theorem tellStream_free (s : State) (k : Nat) (on : Bool) : (s.tellStream k on).free = s.free := (State_tellStream_keeps (by decide : maskIn 32776 32776 = true) (Keeps.refl 32776 s) _ _).same .free rfl
@[simp ↓] theorem tellStream_hif (s : State) (k : Nat) (on : Bool) : (s.tellStream k on).hif = s.hif := (State_tellStream_keeps (by decide : maskIn 32776 32776 = true) (Keeps.refl 32776 s) _ _).same .hif rfl
@[simp ↓] theorem dch_tellStream (s : State) (k : Nat) (on : Bool) (j_ : Nat) : (s.tellStream k on).dch j_ = s.dch j_ := by simp only [State.dch, tellStream_hif]
@[simp ↓] theorem ring_tellStream (s : State) (k : Nat) (on : Bool) (j_ : Nat) : (s.tellStream k on).ring j_ = s.ring j_ := by simp only [State.ring, tellStream_hif]
@[simp ↓] theorem tellStream_mem (s : State) (k : Nat) (on : Bool) : (s.tellStream k on).mem = s.mem := (State_tellStream_keeps (by decide : maskIn 32776 32776 = true) (Keeps.refl 32776 s) _ _).same .mem rfl
@[simp ↓] theorem byte_tellStream (s : State) (k : Nat) (on : Bool) (j_ : Nat) : (s.tellStream k on).byte j_ = s.byte j_ := by simp only [State.byte, tellStream_mem]
@[simp ↓] theorem tellStream_objs (s : State) (k : Nat) (on : Bool) : (s.tellStream k on).objs = s.objs := ((State_tellStream_keeps (by decide : maskIn 32776 32776 = true) (Keeps.refl 32776 s) _ _).same .objs rfl).1
@[simp ↓] theorem tellStream_chg (s : State) (k : Nat) (on : Bool) : (s.tellStream k on).chg = s.chg := ((State_tellStream_keeps (by decide : maskIn 32776 32776 = true) (Keeps.refl 32776 s) _ _).same .objs rfl).2
@[simp ↓] theorem obj_tellStream (s : State) (k : Nat) (on : Bool) (j_ : Nat) : (s.tellStream k on).obj j_ = s.obj j_ := by simp only [State.obj, tellStream_objs, tellStream_fuses]
@[simp ↓] theorem num_tellStream (s : State) (k : Nat) (on : Bool) (j_ : Nat) : (s.tellStream k on).num j_ = s.num j_ := by simp only [State.num, obj_tellStream]
@[simp ↓] theorem int_tellStream (s : State) (k : Nat) (on : Bool) (j_ : Nat) : (s.tellStream k on).int j_ = s.int j_ := by simp only [State.int, obj_tellStream]
@[simp ↓] theorem bytes_tellStream (s : State) (k : Nat) (on : Bool) (j_ : Nat) : (s.tellStream k on).bytes j_ = s.bytes j_ := by simp only [State.bytes, obj_tellStream]
@[simp ↓] theorem flag_tellStream (s : State) (k : Nat) (on : Bool) (j_ : Nat) : (s.tellStream k on).flag j_ = s.flag j_ := by simp only [State.flag, num_tellStream]
@[simp ↓] theorem tellStream_pac (s : State) (k : Nat) (on : Bool) : (s.tellStream k on).pac = s.pac := (State_tellStream_keeps (by decide : maskIn 32776 32776 = true) (Keeps.refl 32776 s) _ _).same .pac rfl
@[simp ↓] theorem ref_tellStream (s : State) (k : Nat) (on : Bool) (j_ : Nat) : (s.tellStream k on).ref j_ = s.ref j_ := by simp only [State.ref, tellStream_pac]
@[simp ↓] theorem tellStream_pwr (s : State) (k : Nat) (on : Bool) : (s.tellStream k on).pwr = s.pwr := (State_tellStream_keeps (by decide : maskIn 32776 32776 = true) (Keeps.refl 32776 s) _ _).same .pwr rfl
@[simp ↓] theorem tellStream_regs (s : State) (k : Nat) (on : Bool) : (s.tellStream k on).regs = s.regs := (State_tellStream_keeps (by decide : maskIn 32776 32776 = true) (Keeps.refl 32776 s) _ _).same .regs rfl
@[simp ↓] theorem reg_tellStream (s : State) (k : Nat) (on : Bool) (j_ : Nat) : (s.tellStream k on).reg j_ = s.reg j_ := by simp only [State.reg, tellStream_regs]
@[simp ↓] theorem tellStream_str (s : State) (k : Nat) (on : Bool) : (s.tellStream k on).str = s.str := (State_tellStream_keeps (by decide : maskIn 32776 32776 = true) (Keeps.refl 32776 s) _ _).same .str rfl
@[simp ↓] theorem eng_tellStream (s : State) (k : Nat) (on : Bool) (j_ : Nat) : (s.tellStream k on).eng j_ = s.eng j_ := by simp only [State.eng, tellStream_str]
@[simp ↓] theorem tellStream_tm (s : State) (k : Nat) (on : Bool) : (s.tellStream k on).tm = s.tm := (State_tellStream_keeps (by decide : maskIn 32776 32776 = true) (Keeps.refl 32776 s) _ _).same .tm rfl
@[simp ↓] theorem now_tellStream (s : State) (k : Nat) (on : Bool) : (s.tellStream k on).now = s.now := by simp only [State.now, tellStream_tm]
@[simp ↓] theorem tellStream_twin (s : State) (k : Nat) (on : Bool) : (s.tellStream k on).twin = s.twin := (State_tellStream_keeps (by decide : maskIn 32776 32776 = true) (Keeps.refl 32776 s) _ _).same .twin rfl
@[simp ↓] theorem tellStream_upd (s : State) (k : Nat) (on : Bool) : (s.tellStream k on).upd = s.upd := (State_tellStream_keeps (by decide : maskIn 32776 32776 = true) (Keeps.refl 32776 s) _ _).same .upd rfl
@[simp ↓] theorem key_tellStream (s : State) (k : Nat) (on : Bool) (j_ : Nat) : (s.tellStream k on).key j_ = s.key j_ := by simp only [State.key, tellStream_upd]
@[simp ↓] theorem img_tellStream (s : State) (k : Nat) (on : Bool) (j_ : Nat) : (s.tellStream k on).img j_ = s.img j_ := by simp only [State.img, tellStream_upd]
/-! ### outLatency -/

@[simp ↓] theorem outLatency_fuses (s : State) (o : Nat) : (s.outLatency o).fuses = s.fuses := (State_outLatency_keeps (by decide : maskIn 17 17 = true) (Keeps.refl 17 s) _).fuses
@[simp ↓] theorem outLatency_pending (s : State) (o : Nat) : (s.outLatency o).pending = s.pending := (State_outLatency_keeps (by decide : maskIn 17 17 = true) (Keeps.refl 17 s) _).pending
@[simp ↓] theorem outLatency_aud (s : State) (o : Nat) : (s.outLatency o).aud = s.aud := (State_outLatency_keeps (by decide : maskIn 17 17 = true) (Keeps.refl 17 s) _).same .aud rfl
@[simp ↓] theorem aes_outLatency (s : State) (o : Nat) (j_ : Nat) : (s.outLatency o).aes j_ = s.aes j_ := by simp only [State.aes, outLatency_aud]
@[simp ↓] theorem tdm_outLatency (s : State) (o : Nat) (j_ : Nat) : (s.outLatency o).tdm j_ = s.tdm j_ := by simp only [State.tdm, outLatency_aud]
@[simp ↓] theorem pdest_outLatency (s : State) (o : Nat) (j_ : Nat) : (s.outLatency o).pdest j_ = s.pdest j_ := by simp only [State.pdest, outLatency_aud]
@[simp ↓] theorem outLatency_comp (s : State) (o : Nat) : (s.outLatency o).comp = s.comp := (State_outLatency_keeps (by decide : maskIn 17 17 = true) (Keeps.refl 17 s) _).same .comp rfl
@[simp ↓] theorem head_outLatency (s : State) (o : Nat) (j_ : Nat) : (s.outLatency o).head j_ = s.head j_ := by simp only [State.head, outLatency_comp]
@[simp ↓] theorem lay_outLatency (s : State) (o : Nat) (j_ : Nat) : (s.outLatency o).lay j_ = s.lay j_ := by simp only [State.lay, outLatency_comp]
@[simp ↓] theorem outLatency_dict (s : State) (o : Nat) : (s.outLatency o).dict = s.dict := (State_outLatency_keeps (by decide : maskIn 17 17 = true) (Keeps.refl 17 s) _).same .dict rfl
@[simp ↓] theorem sess_outLatency (s : State) (o : Nat) (j_ : Nat) : (s.outLatency o).sess j_ = s.sess j_ := by simp only [State.sess, outLatency_dict]
@[simp ↓] theorem outLatency_ess (s : State) (o : Nat) : (s.outLatency o).ess = s.ess := (State_outLatency_keeps (by decide : maskIn 17 17 = true) (Keeps.refl 17 s) _).same .ess rfl
@[simp ↓] theorem lane_outLatency (s : State) (o : Nat) (j_ : Nat) : (s.outLatency o).lane j_ = s.lane j_ := by simp only [State.lane, outLatency_ess]
@[simp ↓] theorem slot_outLatency (s : State) (o : Nat) (j_ : Nat) : (s.outLatency o).slot j_ = s.slot j_ := by simp only [State.slot, outLatency_ess]
@[simp ↓] theorem out__outLatency (s : State) (o : Nat) (j_ : Nat) : (s.outLatency o).out_ j_ = s.out_ j_ := by simp only [State.out_, outLatency_ess]
@[simp ↓] theorem chan_outLatency (s : State) (o : Nat) (j_ : Nat) : (s.outLatency o).chan j_ = s.chan j_ := by simp only [State.chan, outLatency_ess]
@[simp ↓] theorem outLatency_eth (s : State) (o : Nat) : (s.outLatency o).eth = s.eth := (State_outLatency_keeps (by decide : maskIn 17 17 = true) (Keeps.refl 17 s) _).same .eth rfl
@[simp ↓] theorem rx_outLatency (s : State) (o : Nat) (j_ : Nat) : (s.outLatency o).rx j_ = s.rx j_ := by simp only [State.rx, outLatency_eth]
@[simp ↓] theorem tx_outLatency (s : State) (o : Nat) (j_ : Nat) : (s.outLatency o).tx j_ = s.tx j_ := by simp only [State.tx, outLatency_eth]
@[simp ↓] theorem outLatency_evr (s : State) (o : Nat) : (s.outLatency o).evr = s.evr := (State_outLatency_keeps (by decide : maskIn 17 17 = true) (Keeps.refl 17 s) _).same .evr rfl
@[simp ↓] theorem outLatency_fab (s : State) (o : Nat) : (s.outLatency o).fab = s.fab := (State_outLatency_keeps (by decide : maskIn 17 17 = true) (Keeps.refl 17 s) _).same .fab rfl
@[simp ↓] theorem fl_outLatency (s : State) (o : Nat) (j_ : Nat) : (s.outLatency o).fl j_ = s.fl j_ := by simp only [State.fl, outLatency_fab]
@[simp ↓] theorem link_outLatency (s : State) (o : Nat) (j_ : Nat) : (s.outLatency o).link j_ = s.link j_ := by simp only [State.link, outLatency_fab]
@[simp ↓] theorem outLatency_flt (s : State) (o : Nat) : (s.outLatency o).flt = s.flt := (State_outLatency_keeps (by decide : maskIn 17 17 = true) (Keeps.refl 17 s) _).same .flt rfl
@[simp ↓] theorem src_outLatency (s : State) (o : Nat) (j_ : Nat) : (s.outLatency o).src j_ = s.src j_ := by simp only [State.src, outLatency_flt]
@[simp ↓] theorem outLatency_hif (s : State) (o : Nat) : (s.outLatency o).hif = s.hif := (State_outLatency_keeps (by decide : maskIn 17 17 = true) (Keeps.refl 17 s) _).same .hif rfl
@[simp ↓] theorem dch_outLatency (s : State) (o : Nat) (j_ : Nat) : (s.outLatency o).dch j_ = s.dch j_ := by simp only [State.dch, outLatency_hif]
@[simp ↓] theorem ring_outLatency (s : State) (o : Nat) (j_ : Nat) : (s.outLatency o).ring j_ = s.ring j_ := by simp only [State.ring, outLatency_hif]
@[simp ↓] theorem outLatency_mem (s : State) (o : Nat) : (s.outLatency o).mem = s.mem := (State_outLatency_keeps (by decide : maskIn 17 17 = true) (Keeps.refl 17 s) _).same .mem rfl
@[simp ↓] theorem byte_outLatency (s : State) (o : Nat) (j_ : Nat) : (s.outLatency o).byte j_ = s.byte j_ := by simp only [State.byte, outLatency_mem]
@[simp ↓] theorem outLatency_out (s : State) (o : Nat) : (s.outLatency o).out = s.out := (State_outLatency_keeps (by decide : maskIn 17 17 = true) (Keeps.refl 17 s) _).same .out rfl
@[simp ↓] theorem outLatency_pac (s : State) (o : Nat) : (s.outLatency o).pac = s.pac := (State_outLatency_keeps (by decide : maskIn 17 17 = true) (Keeps.refl 17 s) _).same .pac rfl
@[simp ↓] theorem ref_outLatency (s : State) (o : Nat) (j_ : Nat) : (s.outLatency o).ref j_ = s.ref j_ := by simp only [State.ref, outLatency_pac]
@[simp ↓] theorem outLatency_pwr (s : State) (o : Nat) : (s.outLatency o).pwr = s.pwr := (State_outLatency_keeps (by decide : maskIn 17 17 = true) (Keeps.refl 17 s) _).same .pwr rfl
@[simp ↓] theorem outLatency_regs (s : State) (o : Nat) : (s.outLatency o).regs = s.regs := (State_outLatency_keeps (by decide : maskIn 17 17 = true) (Keeps.refl 17 s) _).same .regs rfl
@[simp ↓] theorem reg_outLatency (s : State) (o : Nat) (j_ : Nat) : (s.outLatency o).reg j_ = s.reg j_ := by simp only [State.reg, outLatency_regs]
@[simp ↓] theorem outLatency_str (s : State) (o : Nat) : (s.outLatency o).str = s.str := (State_outLatency_keeps (by decide : maskIn 17 17 = true) (Keeps.refl 17 s) _).same .str rfl
@[simp ↓] theorem eng_outLatency (s : State) (o : Nat) (j_ : Nat) : (s.outLatency o).eng j_ = s.eng j_ := by simp only [State.eng, outLatency_str]
@[simp ↓] theorem outLatency_tm (s : State) (o : Nat) : (s.outLatency o).tm = s.tm := (State_outLatency_keeps (by decide : maskIn 17 17 = true) (Keeps.refl 17 s) _).same .tm rfl
@[simp ↓] theorem now_outLatency (s : State) (o : Nat) : (s.outLatency o).now = s.now := by simp only [State.now, outLatency_tm]
@[simp ↓] theorem outLatency_twin (s : State) (o : Nat) : (s.outLatency o).twin = s.twin := (State_outLatency_keeps (by decide : maskIn 17 17 = true) (Keeps.refl 17 s) _).same .twin rfl
@[simp ↓] theorem outLatency_upd (s : State) (o : Nat) : (s.outLatency o).upd = s.upd := (State_outLatency_keeps (by decide : maskIn 17 17 = true) (Keeps.refl 17 s) _).same .upd rfl
@[simp ↓] theorem key_outLatency (s : State) (o : Nat) (j_ : Nat) : (s.outLatency o).key j_ = s.key j_ := by simp only [State.key, outLatency_upd]
@[simp ↓] theorem img_outLatency (s : State) (o : Nat) (j_ : Nat) : (s.outLatency o).img j_ = s.img j_ := by simp only [State.img, outLatency_upd]
/-! ### releaseAudio -/

@[simp ↓] theorem releaseAudio_fuses (s : State) (n : Nat) (sub : Nat) (k : Nat) (key : Nat) (line : Nat) (u : Option QLine) : (s.releaseAudio n sub k key line u).fuses = s.fuses := (State_releaseAudio_keeps (by decide : maskIn 1024 1024 = true) (Keeps.refl 1024 s) _ _ _ _ _ _).fuses
@[simp ↓] theorem releaseAudio_pending (s : State) (n : Nat) (sub : Nat) (k : Nat) (key : Nat) (line : Nat) (u : Option QLine) : (s.releaseAudio n sub k key line u).pending = s.pending := (State_releaseAudio_keeps (by decide : maskIn 1024 1024 = true) (Keeps.refl 1024 s) _ _ _ _ _ _).pending
@[simp ↓] theorem releaseAudio_aud (s : State) (n : Nat) (sub : Nat) (k : Nat) (key : Nat) (line : Nat) (u : Option QLine) : (s.releaseAudio n sub k key line u).aud = s.aud := (State_releaseAudio_keeps (by decide : maskIn 1024 1024 = true) (Keeps.refl 1024 s) _ _ _ _ _ _).same .aud rfl
@[simp ↓] theorem aes_releaseAudio (s : State) (n : Nat) (sub : Nat) (k : Nat) (key : Nat) (line : Nat) (u : Option QLine) (j_ : Nat) : (s.releaseAudio n sub k key line u).aes j_ = s.aes j_ := by simp only [State.aes, releaseAudio_aud]
@[simp ↓] theorem tdm_releaseAudio (s : State) (n : Nat) (sub : Nat) (k : Nat) (key : Nat) (line : Nat) (u : Option QLine) (j_ : Nat) : (s.releaseAudio n sub k key line u).tdm j_ = s.tdm j_ := by simp only [State.tdm, releaseAudio_aud]
@[simp ↓] theorem pdest_releaseAudio (s : State) (n : Nat) (sub : Nat) (k : Nat) (key : Nat) (line : Nat) (u : Option QLine) (j_ : Nat) : (s.releaseAudio n sub k key line u).pdest j_ = s.pdest j_ := by simp only [State.pdest, releaseAudio_aud]
@[simp ↓] theorem releaseAudio_comp (s : State) (n : Nat) (sub : Nat) (k : Nat) (key : Nat) (line : Nat) (u : Option QLine) : (s.releaseAudio n sub k key line u).comp = s.comp := (State_releaseAudio_keeps (by decide : maskIn 1024 1024 = true) (Keeps.refl 1024 s) _ _ _ _ _ _).same .comp rfl
@[simp ↓] theorem head_releaseAudio (s : State) (n : Nat) (sub : Nat) (k : Nat) (key : Nat) (line : Nat) (u : Option QLine) (j_ : Nat) : (s.releaseAudio n sub k key line u).head j_ = s.head j_ := by simp only [State.head, releaseAudio_comp]
@[simp ↓] theorem lay_releaseAudio (s : State) (n : Nat) (sub : Nat) (k : Nat) (key : Nat) (line : Nat) (u : Option QLine) (j_ : Nat) : (s.releaseAudio n sub k key line u).lay j_ = s.lay j_ := by simp only [State.lay, releaseAudio_comp]
@[simp ↓] theorem releaseAudio_dict (s : State) (n : Nat) (sub : Nat) (k : Nat) (key : Nat) (line : Nat) (u : Option QLine) : (s.releaseAudio n sub k key line u).dict = s.dict := (State_releaseAudio_keeps (by decide : maskIn 1024 1024 = true) (Keeps.refl 1024 s) _ _ _ _ _ _).same .dict rfl
@[simp ↓] theorem sess_releaseAudio (s : State) (n : Nat) (sub : Nat) (k : Nat) (key : Nat) (line : Nat) (u : Option QLine) (j_ : Nat) : (s.releaseAudio n sub k key line u).sess j_ = s.sess j_ := by simp only [State.sess, releaseAudio_dict]
@[simp ↓] theorem releaseAudio_eth (s : State) (n : Nat) (sub : Nat) (k : Nat) (key : Nat) (line : Nat) (u : Option QLine) : (s.releaseAudio n sub k key line u).eth = s.eth := (State_releaseAudio_keeps (by decide : maskIn 1024 1024 = true) (Keeps.refl 1024 s) _ _ _ _ _ _).same .eth rfl
@[simp ↓] theorem rx_releaseAudio (s : State) (n : Nat) (sub : Nat) (k : Nat) (key : Nat) (line : Nat) (u : Option QLine) (j_ : Nat) : (s.releaseAudio n sub k key line u).rx j_ = s.rx j_ := by simp only [State.rx, releaseAudio_eth]
@[simp ↓] theorem tx_releaseAudio (s : State) (n : Nat) (sub : Nat) (k : Nat) (key : Nat) (line : Nat) (u : Option QLine) (j_ : Nat) : (s.releaseAudio n sub k key line u).tx j_ = s.tx j_ := by simp only [State.tx, releaseAudio_eth]
@[simp ↓] theorem releaseAudio_evr (s : State) (n : Nat) (sub : Nat) (k : Nat) (key : Nat) (line : Nat) (u : Option QLine) : (s.releaseAudio n sub k key line u).evr = s.evr := (State_releaseAudio_keeps (by decide : maskIn 1024 1024 = true) (Keeps.refl 1024 s) _ _ _ _ _ _).same .evr rfl
@[simp ↓] theorem releaseAudio_fab (s : State) (n : Nat) (sub : Nat) (k : Nat) (key : Nat) (line : Nat) (u : Option QLine) : (s.releaseAudio n sub k key line u).fab = s.fab := (State_releaseAudio_keeps (by decide : maskIn 1024 1024 = true) (Keeps.refl 1024 s) _ _ _ _ _ _).same .fab rfl
@[simp ↓] theorem fl_releaseAudio (s : State) (n : Nat) (sub : Nat) (k : Nat) (key : Nat) (line : Nat) (u : Option QLine) (j_ : Nat) : (s.releaseAudio n sub k key line u).fl j_ = s.fl j_ := by simp only [State.fl, releaseAudio_fab]
@[simp ↓] theorem link_releaseAudio (s : State) (n : Nat) (sub : Nat) (k : Nat) (key : Nat) (line : Nat) (u : Option QLine) (j_ : Nat) : (s.releaseAudio n sub k key line u).link j_ = s.link j_ := by simp only [State.link, releaseAudio_fab]
@[simp ↓] theorem releaseAudio_flt (s : State) (n : Nat) (sub : Nat) (k : Nat) (key : Nat) (line : Nat) (u : Option QLine) : (s.releaseAudio n sub k key line u).flt = s.flt := (State_releaseAudio_keeps (by decide : maskIn 1024 1024 = true) (Keeps.refl 1024 s) _ _ _ _ _ _).same .flt rfl
@[simp ↓] theorem src_releaseAudio (s : State) (n : Nat) (sub : Nat) (k : Nat) (key : Nat) (line : Nat) (u : Option QLine) (j_ : Nat) : (s.releaseAudio n sub k key line u).src j_ = s.src j_ := by simp only [State.src, releaseAudio_flt]
@[simp ↓] theorem releaseAudio_free (s : State) (n : Nat) (sub : Nat) (k : Nat) (key : Nat) (line : Nat) (u : Option QLine) : (s.releaseAudio n sub k key line u).free = s.free := (State_releaseAudio_keeps (by decide : maskIn 1024 1024 = true) (Keeps.refl 1024 s) _ _ _ _ _ _).same .free rfl
@[simp ↓] theorem releaseAudio_hif (s : State) (n : Nat) (sub : Nat) (k : Nat) (key : Nat) (line : Nat) (u : Option QLine) : (s.releaseAudio n sub k key line u).hif = s.hif := (State_releaseAudio_keeps (by decide : maskIn 1024 1024 = true) (Keeps.refl 1024 s) _ _ _ _ _ _).same .hif rfl
@[simp ↓] theorem dch_releaseAudio (s : State) (n : Nat) (sub : Nat) (k : Nat) (key : Nat) (line : Nat) (u : Option QLine) (j_ : Nat) : (s.releaseAudio n sub k key line u).dch j_ = s.dch j_ := by simp only [State.dch, releaseAudio_hif]
@[simp ↓] theorem ring_releaseAudio (s : State) (n : Nat) (sub : Nat) (k : Nat) (key : Nat) (line : Nat) (u : Option QLine) (j_ : Nat) : (s.releaseAudio n sub k key line u).ring j_ = s.ring j_ := by simp only [State.ring, releaseAudio_hif]
@[simp ↓] theorem releaseAudio_mem (s : State) (n : Nat) (sub : Nat) (k : Nat) (key : Nat) (line : Nat) (u : Option QLine) : (s.releaseAudio n sub k key line u).mem = s.mem := (State_releaseAudio_keeps (by decide : maskIn 1024 1024 = true) (Keeps.refl 1024 s) _ _ _ _ _ _).same .mem rfl
@[simp ↓] theorem byte_releaseAudio (s : State) (n : Nat) (sub : Nat) (k : Nat) (key : Nat) (line : Nat) (u : Option QLine) (j_ : Nat) : (s.releaseAudio n sub k key line u).byte j_ = s.byte j_ := by simp only [State.byte, releaseAudio_mem]
@[simp ↓] theorem releaseAudio_objs (s : State) (n : Nat) (sub : Nat) (k : Nat) (key : Nat) (line : Nat) (u : Option QLine) : (s.releaseAudio n sub k key line u).objs = s.objs := ((State_releaseAudio_keeps (by decide : maskIn 1024 1024 = true) (Keeps.refl 1024 s) _ _ _ _ _ _).same .objs rfl).1
@[simp ↓] theorem releaseAudio_chg (s : State) (n : Nat) (sub : Nat) (k : Nat) (key : Nat) (line : Nat) (u : Option QLine) : (s.releaseAudio n sub k key line u).chg = s.chg := ((State_releaseAudio_keeps (by decide : maskIn 1024 1024 = true) (Keeps.refl 1024 s) _ _ _ _ _ _).same .objs rfl).2
@[simp ↓] theorem obj_releaseAudio (s : State) (n : Nat) (sub : Nat) (k : Nat) (key : Nat) (line : Nat) (u : Option QLine) (j_ : Nat) : (s.releaseAudio n sub k key line u).obj j_ = s.obj j_ := by simp only [State.obj, releaseAudio_objs, releaseAudio_fuses]
@[simp ↓] theorem num_releaseAudio (s : State) (n : Nat) (sub : Nat) (k : Nat) (key : Nat) (line : Nat) (u : Option QLine) (j_ : Nat) : (s.releaseAudio n sub k key line u).num j_ = s.num j_ := by simp only [State.num, obj_releaseAudio]
@[simp ↓] theorem int_releaseAudio (s : State) (n : Nat) (sub : Nat) (k : Nat) (key : Nat) (line : Nat) (u : Option QLine) (j_ : Nat) : (s.releaseAudio n sub k key line u).int j_ = s.int j_ := by simp only [State.int, obj_releaseAudio]
@[simp ↓] theorem bytes_releaseAudio (s : State) (n : Nat) (sub : Nat) (k : Nat) (key : Nat) (line : Nat) (u : Option QLine) (j_ : Nat) : (s.releaseAudio n sub k key line u).bytes j_ = s.bytes j_ := by simp only [State.bytes, obj_releaseAudio]
@[simp ↓] theorem flag_releaseAudio (s : State) (n : Nat) (sub : Nat) (k : Nat) (key : Nat) (line : Nat) (u : Option QLine) (j_ : Nat) : (s.releaseAudio n sub k key line u).flag j_ = s.flag j_ := by simp only [State.flag, num_releaseAudio]
@[simp ↓] theorem releaseAudio_out (s : State) (n : Nat) (sub : Nat) (k : Nat) (key : Nat) (line : Nat) (u : Option QLine) : (s.releaseAudio n sub k key line u).out = s.out := (State_releaseAudio_keeps (by decide : maskIn 1024 1024 = true) (Keeps.refl 1024 s) _ _ _ _ _ _).same .out rfl
@[simp ↓] theorem releaseAudio_pac (s : State) (n : Nat) (sub : Nat) (k : Nat) (key : Nat) (line : Nat) (u : Option QLine) : (s.releaseAudio n sub k key line u).pac = s.pac := (State_releaseAudio_keeps (by decide : maskIn 1024 1024 = true) (Keeps.refl 1024 s) _ _ _ _ _ _).same .pac rfl
@[simp ↓] theorem ref_releaseAudio (s : State) (n : Nat) (sub : Nat) (k : Nat) (key : Nat) (line : Nat) (u : Option QLine) (j_ : Nat) : (s.releaseAudio n sub k key line u).ref j_ = s.ref j_ := by simp only [State.ref, releaseAudio_pac]
@[simp ↓] theorem releaseAudio_pwr (s : State) (n : Nat) (sub : Nat) (k : Nat) (key : Nat) (line : Nat) (u : Option QLine) : (s.releaseAudio n sub k key line u).pwr = s.pwr := (State_releaseAudio_keeps (by decide : maskIn 1024 1024 = true) (Keeps.refl 1024 s) _ _ _ _ _ _).same .pwr rfl
@[simp ↓] theorem releaseAudio_regs (s : State) (n : Nat) (sub : Nat) (k : Nat) (key : Nat) (line : Nat) (u : Option QLine) : (s.releaseAudio n sub k key line u).regs = s.regs := (State_releaseAudio_keeps (by decide : maskIn 1024 1024 = true) (Keeps.refl 1024 s) _ _ _ _ _ _).same .regs rfl
@[simp ↓] theorem reg_releaseAudio (s : State) (n : Nat) (sub : Nat) (k : Nat) (key : Nat) (line : Nat) (u : Option QLine) (j_ : Nat) : (s.releaseAudio n sub k key line u).reg j_ = s.reg j_ := by simp only [State.reg, releaseAudio_regs]
@[simp ↓] theorem releaseAudio_str (s : State) (n : Nat) (sub : Nat) (k : Nat) (key : Nat) (line : Nat) (u : Option QLine) : (s.releaseAudio n sub k key line u).str = s.str := (State_releaseAudio_keeps (by decide : maskIn 1024 1024 = true) (Keeps.refl 1024 s) _ _ _ _ _ _).same .str rfl
@[simp ↓] theorem eng_releaseAudio (s : State) (n : Nat) (sub : Nat) (k : Nat) (key : Nat) (line : Nat) (u : Option QLine) (j_ : Nat) : (s.releaseAudio n sub k key line u).eng j_ = s.eng j_ := by simp only [State.eng, releaseAudio_str]
@[simp ↓] theorem releaseAudio_tm (s : State) (n : Nat) (sub : Nat) (k : Nat) (key : Nat) (line : Nat) (u : Option QLine) : (s.releaseAudio n sub k key line u).tm = s.tm := (State_releaseAudio_keeps (by decide : maskIn 1024 1024 = true) (Keeps.refl 1024 s) _ _ _ _ _ _).same .tm rfl
@[simp ↓] theorem now_releaseAudio (s : State) (n : Nat) (sub : Nat) (k : Nat) (key : Nat) (line : Nat) (u : Option QLine) : (s.releaseAudio n sub k key line u).now = s.now := by simp only [State.now, releaseAudio_tm]
@[simp ↓] theorem releaseAudio_twin (s : State) (n : Nat) (sub : Nat) (k : Nat) (key : Nat) (line : Nat) (u : Option QLine) : (s.releaseAudio n sub k key line u).twin = s.twin := (State_releaseAudio_keeps (by decide : maskIn 1024 1024 = true) (Keeps.refl 1024 s) _ _ _ _ _ _).same .twin rfl
@[simp ↓] theorem releaseAudio_upd (s : State) (n : Nat) (sub : Nat) (k : Nat) (key : Nat) (line : Nat) (u : Option QLine) : (s.releaseAudio n sub k key line u).upd = s.upd := (State_releaseAudio_keeps (by decide : maskIn 1024 1024 = true) (Keeps.refl 1024 s) _ _ _ _ _ _).same .upd rfl
@[simp ↓] theorem key_releaseAudio (s : State) (n : Nat) (sub : Nat) (k : Nat) (key : Nat) (line : Nat) (u : Option QLine) (j_ : Nat) : (s.releaseAudio n sub k key line u).key j_ = s.key j_ := by simp only [State.key, releaseAudio_upd]
@[simp ↓] theorem img_releaseAudio (s : State) (n : Nat) (sub : Nat) (k : Nat) (key : Nat) (line : Nat) (u : Option QLine) (j_ : Nat) : (s.releaseAudio n sub k key line u).img j_ = s.img j_ := by simp only [State.img, releaseAudio_upd]
/-! ### chanPush -/

@[simp ↓] theorem chanPush_fuses (s : State) (k : Nat) (t0 : Nat) (jump : Bool) (byLine : Bool) (vs : List Nat) : (s.chanPush k t0 jump byLine vs).fuses = s.fuses := (State_chanPush_keeps (by decide : maskIn 1024 1024 = true) (Keeps.refl 1024 s) _ _ _ _ _).fuses
@[simp ↓] theorem chanPush_pending (s : State) (k : Nat) (t0 : Nat) (jump : Bool) (byLine : Bool) (vs : List Nat) : (s.chanPush k t0 jump byLine vs).pending = s.pending := (State_chanPush_keeps (by decide : maskIn 1024 1024 = true) (Keeps.refl 1024 s) _ _ _ _ _).pending
@[simp ↓] theorem chanPush_aud (s : State) (k : Nat) (t0 : Nat) (jump : Bool) (byLine : Bool) (vs : List Nat) : (s.chanPush k t0 jump byLine vs).aud = s.aud := (State_chanPush_keeps (by decide : maskIn 1024 1024 = true) (Keeps.refl 1024 s) _ _ _ _ _).same .aud rfl
@[simp ↓] theorem aes_chanPush (s : State) (k : Nat) (t0 : Nat) (jump : Bool) (byLine : Bool) (vs : List Nat) (j_ : Nat) : (s.chanPush k t0 jump byLine vs).aes j_ = s.aes j_ := by simp only [State.aes, chanPush_aud]
@[simp ↓] theorem tdm_chanPush (s : State) (k : Nat) (t0 : Nat) (jump : Bool) (byLine : Bool) (vs : List Nat) (j_ : Nat) : (s.chanPush k t0 jump byLine vs).tdm j_ = s.tdm j_ := by simp only [State.tdm, chanPush_aud]
@[simp ↓] theorem pdest_chanPush (s : State) (k : Nat) (t0 : Nat) (jump : Bool) (byLine : Bool) (vs : List Nat) (j_ : Nat) : (s.chanPush k t0 jump byLine vs).pdest j_ = s.pdest j_ := by simp only [State.pdest, chanPush_aud]
@[simp ↓] theorem chanPush_comp (s : State) (k : Nat) (t0 : Nat) (jump : Bool) (byLine : Bool) (vs : List Nat) : (s.chanPush k t0 jump byLine vs).comp = s.comp := (State_chanPush_keeps (by decide : maskIn 1024 1024 = true) (Keeps.refl 1024 s) _ _ _ _ _).same .comp rfl
@[simp ↓] theorem head_chanPush (s : State) (k : Nat) (t0 : Nat) (jump : Bool) (byLine : Bool) (vs : List Nat) (j_ : Nat) : (s.chanPush k t0 jump byLine vs).head j_ = s.head j_ := by simp only [State.head, chanPush_comp]
@[simp ↓] theorem lay_chanPush (s : State) (k : Nat) (t0 : Nat) (jump : Bool) (byLine : Bool) (vs : List Nat) (j_ : Nat) : (s.chanPush k t0 jump byLine vs).lay j_ = s.lay j_ := by simp only [State.lay, chanPush_comp]
@[simp ↓] theorem chanPush_dict (s : State) (k : Nat) (t0 : Nat) (jump : Bool) (byLine : Bool) (vs : List Nat) : (s.chanPush k t0 jump byLine vs).dict = s.dict := (State_chanPush_keeps (by decide : maskIn 1024 1024 = true) (Keeps.refl 1024 s) _ _ _ _ _).same .dict rfl
@[simp ↓] theorem sess_chanPush (s : State) (k : Nat) (t0 : Nat) (jump : Bool) (byLine : Bool) (vs : List Nat) (j_ : Nat) : (s.chanPush k t0 jump byLine vs).sess j_ = s.sess j_ := by simp only [State.sess, chanPush_dict]
@[simp ↓] theorem chanPush_eth (s : State) (k : Nat) (t0 : Nat) (jump : Bool) (byLine : Bool) (vs : List Nat) : (s.chanPush k t0 jump byLine vs).eth = s.eth := (State_chanPush_keeps (by decide : maskIn 1024 1024 = true) (Keeps.refl 1024 s) _ _ _ _ _).same .eth rfl
@[simp ↓] theorem rx_chanPush (s : State) (k : Nat) (t0 : Nat) (jump : Bool) (byLine : Bool) (vs : List Nat) (j_ : Nat) : (s.chanPush k t0 jump byLine vs).rx j_ = s.rx j_ := by simp only [State.rx, chanPush_eth]
@[simp ↓] theorem tx_chanPush (s : State) (k : Nat) (t0 : Nat) (jump : Bool) (byLine : Bool) (vs : List Nat) (j_ : Nat) : (s.chanPush k t0 jump byLine vs).tx j_ = s.tx j_ := by simp only [State.tx, chanPush_eth]
@[simp ↓] theorem chanPush_evr (s : State) (k : Nat) (t0 : Nat) (jump : Bool) (byLine : Bool) (vs : List Nat) : (s.chanPush k t0 jump byLine vs).evr = s.evr := (State_chanPush_keeps (by decide : maskIn 1024 1024 = true) (Keeps.refl 1024 s) _ _ _ _ _).same .evr rfl
@[simp ↓] theorem chanPush_fab (s : State) (k : Nat) (t0 : Nat) (jump : Bool) (byLine : Bool) (vs : List Nat) : (s.chanPush k t0 jump byLine vs).fab = s.fab := (State_chanPush_keeps (by decide : maskIn 1024 1024 = true) (Keeps.refl 1024 s) _ _ _ _ _).same .fab rfl
@[simp ↓] theorem fl_chanPush (s : State) (k : Nat) (t0 : Nat) (jump : Bool) (byLine : Bool) (vs : List Nat) (j_ : Nat) : (s.chanPush k t0 jump byLine vs).fl j_ = s.fl j_ := by simp only [State.fl, chanPush_fab]
@[simp ↓] theorem link_chanPush (s : State) (k : Nat) (t0 : Nat) (jump : Bool) (byLine : Bool) (vs : List Nat) (j_ : Nat) : (s.chanPush k t0 jump byLine vs).link j_ = s.link j_ := by simp only [State.link, chanPush_fab]
@[simp ↓] theorem chanPush_flt (s : State) (k : Nat) (t0 : Nat) (jump : Bool) (byLine : Bool) (vs : List Nat) : (s.chanPush k t0 jump byLine vs).flt = s.flt := (State_chanPush_keeps (by decide : maskIn 1024 1024 = true) (Keeps.refl 1024 s) _ _ _ _ _).same .flt rfl
@[simp ↓] theorem src_chanPush (s : State) (k : Nat) (t0 : Nat) (jump : Bool) (byLine : Bool) (vs : List Nat) (j_ : Nat) : (s.chanPush k t0 jump byLine vs).src j_ = s.src j_ := by simp only [State.src, chanPush_flt]
@[simp ↓] theorem chanPush_free (s : State) (k : Nat) (t0 : Nat) (jump : Bool) (byLine : Bool) (vs : List Nat) : (s.chanPush k t0 jump byLine vs).free = s.free := (State_chanPush_keeps (by decide : maskIn 1024 1024 = true) (Keeps.refl 1024 s) _ _ _ _ _).same .free rfl
@[simp ↓] theorem chanPush_hif (s : State) (k : Nat) (t0 : Nat) (jump : Bool) (byLine : Bool) (vs : List Nat) : (s.chanPush k t0 jump byLine vs).hif = s.hif := (State_chanPush_keeps (by decide : maskIn 1024 1024 = true) (Keeps.refl 1024 s) _ _ _ _ _).same .hif rfl
@[simp ↓] theorem dch_chanPush (s : State) (k : Nat) (t0 : Nat) (jump : Bool) (byLine : Bool) (vs : List Nat) (j_ : Nat) : (s.chanPush k t0 jump byLine vs).dch j_ = s.dch j_ := by simp only [State.dch, chanPush_hif]
@[simp ↓] theorem ring_chanPush (s : State) (k : Nat) (t0 : Nat) (jump : Bool) (byLine : Bool) (vs : List Nat) (j_ : Nat) : (s.chanPush k t0 jump byLine vs).ring j_ = s.ring j_ := by simp only [State.ring, chanPush_hif]
@[simp ↓] theorem chanPush_mem (s : State) (k : Nat) (t0 : Nat) (jump : Bool) (byLine : Bool) (vs : List Nat) : (s.chanPush k t0 jump byLine vs).mem = s.mem := (State_chanPush_keeps (by decide : maskIn 1024 1024 = true) (Keeps.refl 1024 s) _ _ _ _ _).same .mem rfl
@[simp ↓] theorem byte_chanPush (s : State) (k : Nat) (t0 : Nat) (jump : Bool) (byLine : Bool) (vs : List Nat) (j_ : Nat) : (s.chanPush k t0 jump byLine vs).byte j_ = s.byte j_ := by simp only [State.byte, chanPush_mem]
@[simp ↓] theorem chanPush_objs (s : State) (k : Nat) (t0 : Nat) (jump : Bool) (byLine : Bool) (vs : List Nat) : (s.chanPush k t0 jump byLine vs).objs = s.objs := ((State_chanPush_keeps (by decide : maskIn 1024 1024 = true) (Keeps.refl 1024 s) _ _ _ _ _).same .objs rfl).1
@[simp ↓] theorem chanPush_chg (s : State) (k : Nat) (t0 : Nat) (jump : Bool) (byLine : Bool) (vs : List Nat) : (s.chanPush k t0 jump byLine vs).chg = s.chg := ((State_chanPush_keeps (by decide : maskIn 1024 1024 = true) (Keeps.refl 1024 s) _ _ _ _ _).same .objs rfl).2
@[simp ↓] theorem obj_chanPush (s : State) (k : Nat) (t0 : Nat) (jump : Bool) (byLine : Bool) (vs : List Nat) (j_ : Nat) : (s.chanPush k t0 jump byLine vs).obj j_ = s.obj j_ := by simp only [State.obj, chanPush_objs, chanPush_fuses]
@[simp ↓] theorem num_chanPush (s : State) (k : Nat) (t0 : Nat) (jump : Bool) (byLine : Bool) (vs : List Nat) (j_ : Nat) : (s.chanPush k t0 jump byLine vs).num j_ = s.num j_ := by simp only [State.num, obj_chanPush]
@[simp ↓] theorem int_chanPush (s : State) (k : Nat) (t0 : Nat) (jump : Bool) (byLine : Bool) (vs : List Nat) (j_ : Nat) : (s.chanPush k t0 jump byLine vs).int j_ = s.int j_ := by simp only [State.int, obj_chanPush]
@[simp ↓] theorem bytes_chanPush (s : State) (k : Nat) (t0 : Nat) (jump : Bool) (byLine : Bool) (vs : List Nat) (j_ : Nat) : (s.chanPush k t0 jump byLine vs).bytes j_ = s.bytes j_ := by simp only [State.bytes, obj_chanPush]
@[simp ↓] theorem flag_chanPush (s : State) (k : Nat) (t0 : Nat) (jump : Bool) (byLine : Bool) (vs : List Nat) (j_ : Nat) : (s.chanPush k t0 jump byLine vs).flag j_ = s.flag j_ := by simp only [State.flag, num_chanPush]
@[simp ↓] theorem chanPush_out (s : State) (k : Nat) (t0 : Nat) (jump : Bool) (byLine : Bool) (vs : List Nat) : (s.chanPush k t0 jump byLine vs).out = s.out := (State_chanPush_keeps (by decide : maskIn 1024 1024 = true) (Keeps.refl 1024 s) _ _ _ _ _).same .out rfl
@[simp ↓] theorem chanPush_pac (s : State) (k : Nat) (t0 : Nat) (jump : Bool) (byLine : Bool) (vs : List Nat) : (s.chanPush k t0 jump byLine vs).pac = s.pac := (State_chanPush_keeps (by decide : maskIn 1024 1024 = true) (Keeps.refl 1024 s) _ _ _ _ _).same .pac rfl
@[simp ↓] theorem ref_chanPush (s : State) (k : Nat) (t0 : Nat) (jump : Bool) (byLine : Bool) (vs : List Nat) (j_ : Nat) : (s.chanPush k t0 jump byLine vs).ref j_ = s.ref j_ := by simp only [State.ref, chanPush_pac]
@[simp ↓] theorem chanPush_pwr (s : State) (k : Nat) (t0 : Nat) (jump : Bool) (byLine : Bool) (vs : List Nat) : (s.chanPush k t0 jump byLine vs).pwr = s.pwr := (State_chanPush_keeps (by decide : maskIn 1024 1024 = true) (Keeps.refl 1024 s) _ _ _ _ _).same .pwr rfl
@[simp ↓] theorem chanPush_regs (s : State) (k : Nat) (t0 : Nat) (jump : Bool) (byLine : Bool) (vs : List Nat) : (s.chanPush k t0 jump byLine vs).regs = s.regs := (State_chanPush_keeps (by decide : maskIn 1024 1024 = true) (Keeps.refl 1024 s) _ _ _ _ _).same .regs rfl
@[simp ↓] theorem reg_chanPush (s : State) (k : Nat) (t0 : Nat) (jump : Bool) (byLine : Bool) (vs : List Nat) (j_ : Nat) : (s.chanPush k t0 jump byLine vs).reg j_ = s.reg j_ := by simp only [State.reg, chanPush_regs]
@[simp ↓] theorem chanPush_str (s : State) (k : Nat) (t0 : Nat) (jump : Bool) (byLine : Bool) (vs : List Nat) : (s.chanPush k t0 jump byLine vs).str = s.str := (State_chanPush_keeps (by decide : maskIn 1024 1024 = true) (Keeps.refl 1024 s) _ _ _ _ _).same .str rfl
@[simp ↓] theorem eng_chanPush (s : State) (k : Nat) (t0 : Nat) (jump : Bool) (byLine : Bool) (vs : List Nat) (j_ : Nat) : (s.chanPush k t0 jump byLine vs).eng j_ = s.eng j_ := by simp only [State.eng, chanPush_str]
@[simp ↓] theorem chanPush_tm (s : State) (k : Nat) (t0 : Nat) (jump : Bool) (byLine : Bool) (vs : List Nat) : (s.chanPush k t0 jump byLine vs).tm = s.tm := (State_chanPush_keeps (by decide : maskIn 1024 1024 = true) (Keeps.refl 1024 s) _ _ _ _ _).same .tm rfl
@[simp ↓] theorem now_chanPush (s : State) (k : Nat) (t0 : Nat) (jump : Bool) (byLine : Bool) (vs : List Nat) : (s.chanPush k t0 jump byLine vs).now = s.now := by simp only [State.now, chanPush_tm]
@[simp ↓] theorem chanPush_twin (s : State) (k : Nat) (t0 : Nat) (jump : Bool) (byLine : Bool) (vs : List Nat) : (s.chanPush k t0 jump byLine vs).twin = s.twin := (State_chanPush_keeps (by decide : maskIn 1024 1024 = true) (Keeps.refl 1024 s) _ _ _ _ _).same .twin rfl
@[simp ↓] theorem chanPush_upd (s : State) (k : Nat) (t0 : Nat) (jump : Bool) (byLine : Bool) (vs : List Nat) : (s.chanPush k t0 jump byLine vs).upd = s.upd := (State_chanPush_keeps (by decide : maskIn 1024 1024 = true) (Keeps.refl 1024 s) _ _ _ _ _).same .upd rfl
@[simp ↓] theorem key_chanPush (s : State) (k : Nat) (t0 : Nat) (jump : Bool) (byLine : Bool) (vs : List Nat) (j_ : Nat) : (s.chanPush k t0 jump byLine vs).key j_ = s.key j_ := by simp only [State.key, chanPush_upd]
@[simp ↓] theorem img_chanPush (s : State) (k : Nat) (t0 : Nat) (jump : Bool) (byLine : Bool) (vs : List Nat) (j_ : Nat) : (s.chanPush k t0 jump byLine vs).img j_ = s.img j_ := by simp only [State.img, chanPush_upd]

end Sys2Proof.Machine
end

