-- ==== Sys2Proof/Laws/Events.lean ====
section
/-! SUPPORT. What raising an event does to the event counters (R421). -/

namespace Sys2Proof.Machine

theorem Does.intro {i : Instr} {s t : State} {P : State → Prop} (h : exec i s = .next t) (p : P t) : Does i s P := ⟨t, h, p⟩

theorem fld_setFld_word (w v : Nat) : fld (setFld w 31 0 v % 2 ^ 32) 31 0 = v % 2 ^ 32 := by
  simp only [fld, setFld, Nat.reduceAdd, Nat.reduceSub, pow_zero, Nat.div_one, mul_one]
  omega

theorem satAdd_lt (n a b : Nat) : satAdd n a b < 2 ^ n := by
  unfold satAdd
  have := Nat.two_pow_pos n
  split <;> omega

theorem rEvtPending_ne (g n : Nat) (h : g < 20) : rEvtCount n ≠ rEvtPending g := by
  unfold rEvtCount rEvtPending; omega

theorem evtGroup_lt {c g b : Nat} (h : evtGroup c = some (g, b)) : g < 20 := by
  unfold evtGroup at h
  dsimp only at h
  split at h
  · split at h
    · cases h; decide
    · split at h
      · cases h; decide
      · cases h
  · split at h
    · split at h
      · rename_i g' hg
        cases h
        obtain ⟨hl, -⟩ := List.idxOf?_eq_some_iff.mp hg
        simp only [List.length_cons, List.length_nil] at hl
        omega
      · split at h
        · cases h; decide
        · cases h
    · cases h

theorem evtGroup_low {c g b : Nat} (h : evtGroup c = some (g, b)) : c % 256 - b < 32 := by
  unfold evtGroup at h
  dsimp only at h
  split at h
  · split at h
    · cases h; omega
    · split at h
      · cases h; omega
      · cases h
  · split at h
    · split at h
      · cases h; omega
      · split at h
        · cases h; omega
        · cases h
    · cases h

theorem evtSource_lt {c n : Nat} (h : evtSource c = some n) : n / 32 < 20 := by
  unfold evtSource at h
  split at h
  · rename_i g b hg
    cases h
    have := evtGroup_lt hg
    have := evtGroup_low hg
    omega
  · cases h

@[simp ↓] theorem reg_signal (s : State) (v j : Nat) : (s.signal v).reg j = s.reg j := by
  unfold State.signal State.sendVec State.reg
  split <;> rfl

@[simp ↓] theorem reg_record (s : State) (c : Nat) (b : List Byte) (x y j : Nat) : (s.record c b x y).reg j = s.reg j := by
  unfold State.record State.reg
  dsimp only
  split_ifs <;> rfl

theorem reg_evtSignal (s : State) {n m : Nat} (h : n / 32 < 20) : (s.evtSignal n).reg (rEvtCount m) = s.reg (rEvtCount m) := by
  unfold State.evtSignal
  dsimp only
  have e := (reg_setBit s (rEvtPending (n / 32)) (rEvtCount m) (n % 32)).trans (if_neg (rEvtPending_ne _ _ h))
  split
  · rw [reg_signal]; exact e
  · exact e

/-- Counting an event raises its own counter by one. -/
theorem evtCountSignal_counts (s : State) (code : Nat) : Counted code s (s.evtCountSignal code) := by
  intro n hn
  have hg := evtSource_lt hn
  have key : fld ((s.rcAdd (rEvtCount n) 31 0).reg (rEvtCount n)) 31 0 = satAdd 32 (fld (s.reg (rEvtCount n)) 31 0) 1 := by
    rw [reg_rcAdd, if_pos rfl, fld_setFld_word]
    exact Nat.mod_eq_of_lt (satAdd_lt 32 _ 1)
  unfold State.evtCountSignal
  rw [hn]
  dsimp only
  split
  · split
    · rw [reg_evtSignal _ hg]; exact key
    · exact key
  · exact key

/-- Raising an event counts it. -/
theorem raise_counts (s : State) (code : Nat) (b : List Byte) : Counted code s (s.raise code b) := by
  intro n hn
  have h := evtCountSignal_counts s code n hn
  unfold State.raise
  rw [reg_record]
  exact h

/-- Raising an event leaves the counters of other events alone. -/
theorem raise_other (s : State) (code : Nat) (b : List Byte) {m : Nat} (h : ∀ n, evtSource code = some n → n ≠ m) :
    (s.raise code b).reg (rEvtCount m) = s.reg (rEvtCount m) := by
  unfold State.raise State.evtCountSignal
  rw [reg_record]
  split
  · rfl
  · rename_i n hn
    have hg := evtSource_lt hn
    have e : (s.rcAdd (rEvtCount n) 31 0).reg (rEvtCount m) = s.reg (rEvtCount m) := by
      rw [reg_rcAdd, if_neg]
      have := h n hn
      unfold rEvtCount; omega
    dsimp only
    split
    · split
      · rw [reg_evtSignal _ hg]; exact e
      · exact e
    · exact e

/-- What came before an event left the counters as they were. -/
theorem Counted.of_eq {c : Nat} {s u t : State} (h : ∀ n, n < 640 → u.reg (rEvtCount n) = s.reg (rEvtCount n)) (k : Counted c u t) :
    Counted c s t := by
  intro n hn
  rw [k n hn, h n (by have := evtSource_lt hn; omega)]

/-- What came after an event left the counters as they were. -/
theorem Counted.then_eq {c : Nat} {s u t : State} (k : Counted c s u) (h : ∀ n, n < 640 → t.reg (rEvtCount n) = u.reg (rEvtCount n)) :
    Counted c s t := by
  intro n hn
  rw [h n (by have := evtSource_lt hn; omega), k n hn]

end Sys2Proof.Machine
end

