-- ==== Sys2Proof/Laws/Essence.lean ====
section
/-! SUPPORT. What marking streams present or absent does. -/

namespace Sys2Proof.Machine

/-- Presence is all of the essence path that a mark changes. -/
theorem setPresent_ess (s : State) (k : Nat) (on : Bool) :
    (s.setPresent k on).ess = { s.ess with present := (s.setPresent k on).ess.present } := by
  unfold State.setPresent
  split
  · rfl
  · simp only [tellStream_ess]

theorem setPresents_ess (ks : List Nat) (on : Bool) : ∀ s : State,
    (s.setPresents ks on).ess = { s.ess with present := (s.setPresents ks on).ess.present } := by
  induction ks with
  | nil => intro s; rfl
  | cons k ks ih =>
    intro s
    have h := ih (s.setPresent k on)
    have w := setPresent_ess s k on
    unfold State.setPresents at *
    rw [List.foldl_cons, h, w]

@[simp ↓] theorem lane_setPresents (s : State) (ks : List Nat) (on : Bool) (p : Nat) : (s.setPresents ks on).lane p = s.lane p := by
  unfold State.lane; rw [setPresents_ess]

/-- What every step of a fold leaves alone, the fold leaves alone. -/
theorem foldl_same {α β : Type} (f : State → β) {g : State → α → State} (l : List α) (h : ∀ x a, f (g x a) = f x) (s : State) :
    f (l.foldl g s) = f s := by
  induction l generalizing s with
  | nil => rfl
  | cons a l ih => rw [List.foldl_cons, ih, h]

/-- The same for a fold that carries a value beside the state. -/
theorem foldl_same2 {α β γ : Type} (f : State → γ) {g : β × State → α → β × State} (l : List α) (h : ∀ x a, f (g x a).2 = f x.2)
    (p : β × State) : f (l.foldl g p).2 = f p.2 := by
  induction l generalizing p with
  | nil => rfl
  | cons a l ih => rw [List.foldl_cons, ih, h]

@[simp ↓] theorem slot_chanPush (s : State) (k t0 : Nat) (a b : Bool) (vs : List Nat) (n : Nat) : (s.chanPush k t0 a b vs).slot n = s.slot n := by
  unfold State.chanPush
  split <;> rfl

@[simp ↓] theorem slot_oncePerSecond (s : State) (c i : Nat) (f : List Byte) (m : Nat) : (s.oncePerSecond c i f).slot m = s.slot m := by
  unfold State.oncePerSecond
  dsimp only
  split
  · rfl
  · rw [slot_raise]; rfl

@[simp ↓] theorem slot_releaseAudio (s : State) (n b k key line : Nat) (u : Option QLine) (m : Nat) :
    (s.releaseAudio n b k key line u).slot m = s.slot m := by
  unfold State.releaseAudio
  refine foldl_same (fun x => x.slot m) _ (fun x a => ?_) s
  dsimp only
  split
  · exact slot_chanPush ..
  · split <;> exact slot_chanPush ..

end Sys2Proof.Machine
end

