-- ==== Sys2Proof/Laws/KeepsPower.lean ====
section
/-! SUPPORT. Power: what every operation keeps. -/

namespace Sys2Proof.Machine

theorem State_pwrEvent_keeps {m_ : Nat} (hm : maskIn 906 m_ = true) {s_ s : State} (h_ : Keeps m_ s_ s) (bit : Nat) (code : Nat) (payload : List Byte) : Keeps m_ s_ (State.pwrEvent s bit code payload) := by
  refine Keeps.after hm h_ ?_
  clear hm h_
  unfold State.pwrEvent
  repeat' with_reducible first
    | assumption
    | exact Keeps.refl _ _
    | (show maskIn _ _ = true; decide)
    | apply State_raise_keeps
    | apply State_setBit_keeps
    | apply keepsR_next
    | apply keeps_ite
    | apply keepsR_ite
    | apply keeps_ite2
    | apply keeps_foldl
    | apply keeps_foldl2
    | apply keeps_foldl3
    | intro _
    | dsimp only
    | (fail_if_no_progress (apply keeps_mk; on_goal 2 => (constructor <;> first | exact .inr (by decide) | exact .inl rfl)))
    | split

theorem State_setChip_keeps {m_ : Nat} (hm : maskIn 907 m_ = true) {s_ s : State} (h_ : Keeps m_ s_ s) (v : Nat) : Keeps m_ s_ (State.setChip s v) := by
  refine Keeps.after hm h_ ?_
  clear hm h_
  unfold State.setChip
  repeat' with_reducible first
    | assumption
    | exact Keeps.refl _ _
    | (show maskIn _ _ = true; decide)
    | apply State_raise_keeps
    | apply State_setNum_keeps
    | apply keepsR_next
    | apply keeps_ite
    | apply keepsR_ite
    | apply keeps_ite2
    | apply keeps_foldl
    | apply keeps_foldl2
    | apply keeps_foldl3
    | intro _
    | dsimp only
    | (fail_if_no_progress (apply keeps_mk; on_goal 2 => (constructor <;> first | exact .inr (by decide) | exact .inl rfl)))
    | split

theorem State_setPwr_keeps {m_ : Nat} (hm : maskIn 262144 m_ = true) {s_ s : State} (h_ : Keeps m_ s_ s) (p : PwrSt) : Keeps m_ s_ (State.setPwr s p) := by
  refine Keeps.after hm h_ ?_
  clear hm h_
  unfold State.setPwr
  repeat' with_reducible first
    | assumption
    | exact Keeps.refl _ _
    | (show maskIn _ _ = true; decide)
    | apply keepsR_next
    | apply keeps_ite
    | apply keepsR_ite
    | apply keeps_ite2
    | apply keeps_foldl
    | apply keeps_foldl2
    | apply keeps_foldl3
    | intro _
    | dsimp only
    | (fail_if_no_progress (apply keeps_mk; on_goal 2 => (constructor <;> first | exact .inr (by decide) | exact .inl rfl)))
    | split

theorem State_freqTo_keeps {m_ : Nat} (hm : maskIn 328587 m_ = true) {s_ s : State} (h_ : Keeps m_ s_ s) (pt : Nat) (cause : Nat) : Keeps m_ s_ (State.freqTo s pt cause) := by
  refine Keeps.after hm h_ ?_
  clear hm h_
  unfold State.freqTo
  repeat' with_reducible first
    | assumption
    | exact Keeps.refl _ _
    | (show maskIn _ _ = true; decide)
    | apply State_pwrEvent_keeps
    | apply State_replace_keeps
    | apply State_setNum_keeps
    | apply State_setPwr_keeps
    | apply keepsR_next
    | apply keeps_ite
    | apply keepsR_ite
    | apply keeps_ite2
    | apply keeps_foldl
    | apply keeps_foldl2
    | apply keeps_foldl3
    | intro _
    | dsimp only
    | (fail_if_no_progress (apply keeps_mk; on_goal 2 => (constructor <;> first | exact .inr (by decide) | exact .inl rfl)))
    | split

theorem State_startPoint_keeps {m_ : Nat} (hm : maskIn 328587 m_ = true) {s_ s : State} (h_ : Keeps m_ s_ s) (target : Nat) (cause : Nat) : Keeps m_ s_ (State.startPoint s target cause) := by
  refine Keeps.after hm h_ ?_
  clear hm h_
  unfold State.startPoint
  repeat' with_reducible first
    | assumption
    | exact Keeps.refl _ _
    | (show maskIn _ _ = true; decide)
    | apply State_freqTo_keeps
    | apply State_setPwr_keeps
    | apply keepsR_next
    | apply keeps_ite
    | apply keepsR_ite
    | apply keeps_ite2
    | apply keeps_foldl
    | apply keeps_foldl2
    | apply keeps_foldl3
    | intro _
    | dsimp only
    | (fail_if_no_progress (apply keeps_mk; on_goal 2 => (constructor <;> first | exact .inr (by decide) | exact .inl rfl)))
    | split

theorem execProcPointStep_keeps {m_ : Nat} (hm : maskIn 328619 m_ = true) {s_ s0 : State} (h_ : Keeps m_ s_ s0) (railOk : Bool) (at_ : Nat) : KeepsR m_ s_ (execProcPointStep railOk at_ s0) := by
  refine KeepsR.after hm h_ ?_
  clear hm h_
  unfold execProcPointStep
  repeat' with_reducible first
    | assumption
    | exact Keeps.refl _ _
    | (show maskIn _ _ = true; decide)
    | apply State_freqTo_keeps
    | apply State_setPwr_keeps
    | apply State_toTick_keeps
    | apply keepsR_next
    | apply keeps_ite
    | apply keepsR_ite
    | apply keeps_ite2
    | apply keeps_foldl
    | apply keeps_foldl2
    | apply keeps_foldl3
    | intro _
    | dsimp only
    | (fail_if_no_progress (apply keeps_mk; on_goal 2 => (constructor <;> first | exact .inr (by decide) | exact .inl rfl)))
    | split

theorem State_tryHeld_keeps {m_ : Nat} (hm : maskIn 328587 m_ = true) {s_ s : State} (h_ : Keeps m_ s_ s)  : Keeps m_ s_ (State.tryHeld s) := by
  refine Keeps.after hm h_ ?_
  clear hm h_
  unfold State.tryHeld
  repeat' with_reducible first
    | assumption
    | exact Keeps.refl _ _
    | (show maskIn _ _ = true; decide)
    | apply State_freqTo_keeps
    | apply State_setPwr_keeps
    | apply keepsR_next
    | apply keeps_ite
    | apply keepsR_ite
    | apply keeps_ite2
    | apply keeps_foldl
    | apply keeps_foldl2
    | apply keeps_foldl3
    | intro _
    | dsimp only
    | (fail_if_no_progress (apply keeps_mk; on_goal 2 => (constructor <;> first | exact .inr (by decide) | exact .inl rfl)))
    | split

theorem State_fsel_keeps {m_ : Nat} (hm : maskIn 328587 m_ = true) {s_ s : State} (h_ : Keeps m_ s_ s) (v : Nat) : Keeps m_ s_ (State.fsel s v) := by
  refine Keeps.after hm h_ ?_
  clear hm h_
  unfold State.fsel
  repeat' with_reducible first
    | assumption
    | exact Keeps.refl _ _
    | (show maskIn _ _ = true; decide)
    | apply State_freqTo_keeps
    | apply State_pwrEvent_keeps
    | apply State_setBit_keeps
    | apply State_setPwr_keeps
    | apply State_tryHeld_keeps
    | apply setReg_keeps
    | apply keepsR_next
    | apply keeps_ite
    | apply keepsR_ite
    | apply keeps_ite2
    | apply keeps_foldl
    | apply keeps_foldl2
    | apply keeps_foldl3
    | intro _
    | dsimp only
    | (fail_if_no_progress (apply keeps_mk; on_goal 2 => (constructor <;> first | exact .inr (by decide) | exact .inl rfl)))
    | split

theorem State_vsel_keeps {m_ : Nat} (hm : maskIn 328587 m_ = true) {s_ s : State} (h_ : Keeps m_ s_ s) (v : Nat) : Keeps m_ s_ (State.vsel s v) := by
  refine Keeps.after hm h_ ?_
  clear hm h_
  unfold State.vsel
  repeat' with_reducible first
    | assumption
    | exact Keeps.refl _ _
    | (show maskIn _ _ = true; decide)
    | apply State_pwrEvent_keeps
    | apply State_setPwr_keeps
    | apply State_tryHeld_keeps
    | apply setReg_keeps
    | apply keepsR_next
    | apply keeps_ite
    | apply keepsR_ite
    | apply keeps_ite2
    | apply keeps_foldl
    | apply keeps_foldl2
    | apply keeps_foldl3
    | intro _
    | dsimp only
    | (fail_if_no_progress (apply keeps_mk; on_goal 2 => (constructor <;> first | exact .inr (by decide) | exact .inl rfl)))
    | split

theorem execFselWrite_keeps {m_ : Nat} (hm : maskIn 328587 m_ = true) {s_ s : State} (h_ : Keeps m_ s_ s) (v : Fin 4) : KeepsR m_ s_ (execFselWrite v s) := by
  refine KeepsR.after hm h_ ?_
  clear hm h_
  unfold execFselWrite
  repeat' with_reducible first
    | assumption
    | exact Keeps.refl _ _
    | (show maskIn _ _ = true; decide)
    | apply State_fsel_keeps
    | apply keepsR_next
    | apply keeps_ite
    | apply keepsR_ite
    | apply keeps_ite2
    | apply keeps_foldl
    | apply keeps_foldl2
    | apply keeps_foldl3
    | intro _
    | dsimp only
    | (fail_if_no_progress (apply keeps_mk; on_goal 2 => (constructor <;> first | exact .inr (by decide) | exact .inl rfl)))
    | split

theorem execVselWrite_keeps {m_ : Nat} (hm : maskIn 328587 m_ = true) {s_ s : State} (h_ : Keeps m_ s_ s) (v : Fin 4) : KeepsR m_ s_ (execVselWrite v s) := by
  refine KeepsR.after hm h_ ?_
  clear hm h_
  unfold execVselWrite
  repeat' with_reducible first
    | assumption
    | exact Keeps.refl _ _
    | (show maskIn _ _ = true; decide)
    | apply State_vsel_keeps
    | apply keepsR_next
    | apply keeps_ite
    | apply keepsR_ite
    | apply keeps_ite2
    | apply keeps_foldl
    | apply keeps_foldl2
    | apply keeps_foldl3
    | intro _
    | dsimp only
    | (fail_if_no_progress (apply keeps_mk; on_goal 2 => (constructor <;> first | exact .inr (by decide) | exact .inl rfl)))
    | split

theorem State_benchBegin_keeps {m_ : Nat} (hm : maskIn 394123 m_ = true) {s_ s : State} (h_ : Keeps m_ s_ s) (kind : Nat) : Keeps m_ s_ (State.benchBegin s kind) := by
  refine Keeps.after hm h_ ?_
  clear hm h_
  unfold State.benchBegin
  repeat' with_reducible first
    | assumption
    | exact Keeps.refl _ _
    | (show maskIn _ _ = true; decide)
    | apply State_lowerClaim_keeps
    | apply State_raise_keeps
    | apply State_setChip_keeps
    | apply State_setPwr_keeps
    | apply keepsR_next
    | apply keeps_ite
    | apply keepsR_ite
    | apply keeps_ite2
    | apply keeps_foldl
    | apply keeps_foldl2
    | apply keeps_foldl3
    | intro _
    | dsimp only
    | (fail_if_no_progress (apply keeps_mk; on_goal 2 => (constructor <;> first | exact .inr (by decide) | exact .inl rfl)))
    | split

theorem State_wakeBegin_keeps {m_ : Nat} (hm : maskIn 263051 m_ = true) {s_ s : State} (h_ : Keeps m_ s_ s) (src : Nat) : Keeps m_ s_ (State.wakeBegin s src) := by
  refine Keeps.after hm h_ ?_
  clear hm h_
  unfold State.wakeBegin
  repeat' with_reducible first
    | assumption
    | exact Keeps.refl _ _
    | (show maskIn _ _ = true; decide)
    | apply State_pwrEvent_keeps
    | apply State_setChip_keeps
    | apply State_setNum_keeps
    | apply State_setPwr_keeps
    | apply keepsR_next
    | apply keeps_ite
    | apply keepsR_ite
    | apply keeps_ite2
    | apply keeps_foldl
    | apply keeps_foldl2
    | apply keeps_foldl3
    | intro _
    | dsimp only
    | (fail_if_no_progress (apply keeps_mk; on_goal 2 => (constructor <;> first | exact .inr (by decide) | exact .inl rfl)))
    | split

theorem State_wakeSource_keeps {m_ : Nat} (hm : maskIn 263051 m_ = true) {s_ s : State} (h_ : Keeps m_ s_ s) (src : Nat) : Keeps m_ s_ (State.wakeSource s src) := by
  refine Keeps.after hm h_ ?_
  clear hm h_
  unfold State.wakeSource
  repeat' with_reducible first
    | assumption
    | exact Keeps.refl _ _
    | (show maskIn _ _ = true; decide)
    | apply State_setPwr_keeps
    | apply State_wakeBegin_keeps
    | apply keepsR_next
    | apply keeps_ite
    | apply keepsR_ite
    | apply keeps_ite2
    | apply keeps_foldl
    | apply keeps_foldl2
    | apply keeps_foldl3
    | intro _
    | dsimp only
    | (fail_if_no_progress (apply keeps_mk; on_goal 2 => (constructor <;> first | exact .inr (by decide) | exact .inl rfl)))
    | split

theorem State_benchWrite_keeps {m_ : Nat} (hm : maskIn 394123 m_ = true) {s_ s : State} (h_ : Keeps m_ s_ s) (v : Nat) : Keeps m_ s_ (State.benchWrite s v).2 := by
  refine Keeps.after hm h_ ?_
  clear hm h_
  unfold State.benchWrite
  repeat' with_reducible first
    | assumption
    | exact Keeps.refl _ _
    | (show maskIn _ _ = true; decide)
    | apply State_benchBegin_keeps
    | apply State_wakeSource_keeps
    | apply keepsR_next
    | apply keeps_ite
    | apply keepsR_ite
    | apply keeps_ite2
    | apply keeps_foldl
    | apply keeps_foldl2
    | apply keeps_foldl3
    | intro _
    | dsimp only
    | (fail_if_no_progress (apply keeps_mk; on_goal 2 => (constructor <;> first | exact .inr (by decide) | exact .inl rfl)))
    | split

theorem State_benchForceWrite_keeps {m_ : Nat} (hm : maskIn 394123 m_ = true) {s_ s : State} (h_ : Keeps m_ s_ s) (v : Nat) : Keeps m_ s_ (State.benchForceWrite s v).2 := by
  refine Keeps.after hm h_ ?_
  clear hm h_
  unfold State.benchForceWrite
  repeat' with_reducible first
    | assumption
    | exact Keeps.refl _ _
    | (show maskIn _ _ = true; decide)
    | apply State_benchBegin_keeps
    | apply keepsR_next
    | apply keeps_ite
    | apply keepsR_ite
    | apply keeps_ite2
    | apply keeps_foldl
    | apply keeps_foldl2
    | apply keeps_foldl3
    | intro _
    | dsimp only
    | (fail_if_no_progress (apply keeps_mk; on_goal 2 => (constructor <;> first | exact .inr (by decide) | exact .inl rfl)))
    | split

theorem execWake_keeps {m_ : Nat} (hm : maskIn 263083 m_ = true) {s_ s0 : State} (h_ : Keeps m_ s_ s0) (source : Fin 9) (at_ : Nat) : KeepsR m_ s_ (execWake source at_ s0) := by
  refine KeepsR.after hm h_ ?_
  clear hm h_
  unfold execWake
  repeat' with_reducible first
    | assumption
    | exact Keeps.refl _ _
    | (show maskIn _ _ = true; decide)
    | apply State_toTick_keeps
    | apply State_wakeSource_keeps
    | apply keepsR_next
    | apply keeps_ite
    | apply keepsR_ite
    | apply keeps_ite2
    | apply keeps_foldl
    | apply keeps_foldl2
    | apply keeps_foldl3
    | intro _
    | dsimp only
    | (fail_if_no_progress (apply keeps_mk; on_goal 2 => (constructor <;> first | exact .inr (by decide) | exact .inl rfl)))
    | split

theorem execHostWake_keeps {m_ : Nat} (hm : maskIn 263051 m_ = true) {s_ s : State} (h_ : Keeps m_ s_ s) (w : Word) : KeepsR m_ s_ (execHostWake w s) := by
  refine KeepsR.after hm h_ ?_
  clear hm h_
  unfold execHostWake
  repeat' with_reducible first
    | assumption
    | exact Keeps.refl _ _
    | (show maskIn _ _ = true; decide)
    | apply State_wakeSource_keeps
    | apply keepsR_next
    | apply keeps_ite
    | apply keepsR_ite
    | apply keeps_ite2
    | apply keeps_foldl
    | apply keeps_foldl2
    | apply keeps_foldl3
    | intro _
    | dsimp only
    | (fail_if_no_progress (apply keeps_mk; on_goal 2 => (constructor <;> first | exact .inr (by decide) | exact .inl rfl)))
    | split

theorem execWakeTimerExpiry_keeps {m_ : Nat} (hm : maskIn 263083 m_ = true) {s_ s0 : State} (h_ : Keeps m_ s_ s0) (at_ : Nat) : KeepsR m_ s_ (execWakeTimerExpiry at_ s0) := by
  refine KeepsR.after hm h_ ?_
  clear hm h_
  unfold execWakeTimerExpiry
  repeat' with_reducible first
    | assumption
    | exact Keeps.refl _ _
    | (show maskIn _ _ = true; decide)
    | apply State_toTick_keeps
    | apply State_wakeSource_keeps
    | apply keepsR_next
    | apply keeps_ite
    | apply keepsR_ite
    | apply keeps_ite2
    | apply keeps_foldl
    | apply keeps_foldl2
    | apply keeps_foldl3
    | intro _
    | dsimp only
    | (fail_if_no_progress (apply keeps_mk; on_goal 2 => (constructor <;> first | exact .inr (by decide) | exact .inl rfl)))
    | split

theorem State_setLanePower_keeps {m_ : Nat} (hm : maskIn 700351 m_ = true) {s_ s : State} (h_ : Keeps m_ s_ s) (p : Nat) (v : Nat) : Keeps m_ s_ (State.setLanePower s p v) := by
  refine Keeps.after hm h_ ?_
  clear hm h_
  unfold State.setLanePower
  repeat' with_reducible first
    | assumption
    | exact Keeps.refl _ _
    | (show maskIn _ _ = true; decide)
    | apply State_ethDown_keeps
    | apply State_loseLock_keeps
    | apply State_setLane_keeps
    | apply State_setNum_keeps
    | apply keepsR_next
    | apply keeps_ite
    | apply keepsR_ite
    | apply keeps_ite2
    | apply keeps_foldl
    | apply keeps_foldl2
    | apply keeps_foldl3
    | intro _
    | dsimp only
    | (fail_if_no_progress (apply keeps_mk; on_goal 2 => (constructor <;> first | exact .inr (by decide) | exact .inl rfl)))
    | split

theorem execJogSample_keeps {m_ : Nat} (hm : maskIn 962495 m_ = true) {s_ s0 : State} (h_ : Keeps m_ s_ s0) (p : Fin 96) (high : Nat) (at_ : Nat) : KeepsR m_ s_ (execJogSample p high at_ s0) := by
  refine KeepsR.after hm h_ ?_
  clear hm h_
  unfold execJogSample
  repeat' with_reducible first
    | assumption
    | exact Keeps.refl _ _
    | (show maskIn _ _ = true; decide)
    | apply State_bump_keeps
    | apply State_oncePerSecond_keeps
    | apply State_setBit_keeps
    | apply State_setLanePower_keeps
    | apply State_setNum_keeps
    | apply State_setQuiet_keeps
    | apply State_toTick_keeps
    | apply State_wakeSource_keeps
    | apply keepsR_next
    | apply keeps_ite
    | apply keepsR_ite
    | apply keeps_ite2
    | apply keeps_foldl
    | apply keeps_foldl2
    | apply keeps_foldl3
    | intro _
    | dsimp only
    | (fail_if_no_progress (apply keeps_mk; on_goal 2 => (constructor <;> first | exact .inr (by decide) | exact .inl rfl)))
    | split

theorem execJogReturnExpiry_keeps {m_ : Nat} (hm : maskIn 700351 m_ = true) {s_ s0 : State} (h_ : Keeps m_ s_ s0) (p : Fin 96) (at_ : Nat) : KeepsR m_ s_ (execJogReturnExpiry p at_ s0) := by
  refine KeepsR.after hm h_ ?_
  clear hm h_
  unfold execJogReturnExpiry
  repeat' with_reducible first
    | assumption
    | exact Keeps.refl _ _
    | (show maskIn _ _ = true; decide)
    | apply State_raise_keeps
    | apply State_setLanePower_keeps
    | apply State_toTick_keeps
    | apply keepsR_next
    | apply keeps_ite
    | apply keepsR_ite
    | apply keeps_ite2
    | apply keeps_foldl
    | apply keeps_foldl2
    | apply keeps_foldl3
    | intro _
    | dsimp only
    | (fail_if_no_progress (apply keeps_mk; on_goal 2 => (constructor <;> first | exact .inr (by decide) | exact .inl rfl)))
    | split

theorem State_derateCheck_keeps {m_ : Nat} (hm : maskIn 907 m_ = true) {s_ s : State} (h_ : Keeps m_ s_ s) (cause : Nat) : Keeps m_ s_ (State.derateCheck s cause) := by
  refine Keeps.after hm h_ ?_
  clear hm h_
  unfold State.derateCheck
  repeat' with_reducible first
    | assumption
    | exact Keeps.refl _ _
    | (show maskIn _ _ = true; decide)
    | apply State_pwrEvent_keeps
    | apply State_setNum_keeps
    | apply keepsR_next
    | apply keeps_ite
    | apply keepsR_ite
    | apply keeps_ite2
    | apply keeps_foldl
    | apply keeps_foldl2
    | apply keeps_foldl3
    | intro _
    | dsimp only
    | (fail_if_no_progress (apply keeps_mk; on_goal 2 => (constructor <;> first | exact .inr (by decide) | exact .inl rfl)))
    | split

theorem execMonitorChange_keeps {m_ : Nat} (hm : maskIn 263083 m_ = true) {s_ s0 : State} (h_ : Keeps m_ s_ s0) (m : Fin 4) (beyond : Bool) (at_ : Nat) : KeepsR m_ s_ (execMonitorChange m beyond at_ s0) := by
  refine KeepsR.after hm h_ ?_
  clear hm h_
  unfold execMonitorChange
  repeat' with_reducible first
    | assumption
    | exact Keeps.refl _ _
    | (show maskIn _ _ = true; decide)
    | apply State_derateCheck_keeps
    | apply State_pwrEvent_keeps
    | apply State_setNum_keeps
    | apply State_toTick_keeps
    | apply State_wakeSource_keeps
    | apply keepsR_next
    | apply keeps_ite
    | apply keepsR_ite
    | apply keeps_ite2
    | apply keeps_foldl
    | apply keeps_foldl2
    | apply keeps_foldl3
    | intro _
    | dsimp only
    | (fail_if_no_progress (apply keeps_mk; on_goal 2 => (constructor <;> first | exact .inr (by decide) | exact .inl rfl)))
    | split

theorem execPmbusRead_keeps {m_ : Nat} (hm : maskIn 263099 m_ = true) {s_ s0 : State} (h_ : Keeps m_ s_ s0) (rails : List (Nat × Nat × Nat × Nat × Nat)) (at_ : Nat) : KeepsR m_ s_ (execPmbusRead rails at_ s0) := by
  refine KeepsR.after hm h_ ?_
  clear hm h_
  unfold execPmbusRead
  repeat' with_reducible first
    | assumption
    | exact Keeps.refl _ _
    | (show maskIn _ _ = true; decide)
    | apply State_derateCheck_keeps
    | apply State_freeNat_keeps
    | apply State_raise_keeps
    | apply State_setNum_keeps
    | apply State_setPwr_keeps
    | apply State_toTick_keeps
    | apply keepsR_next
    | apply keeps_ite
    | apply keepsR_ite
    | apply keeps_ite2
    | apply keeps_foldl
    | apply keeps_foldl2
    | apply keeps_foldl3
    | intro _
    | dsimp only
    | (fail_if_no_progress (apply keeps_mk; on_goal 2 => (constructor <;> first | exact .inr (by decide) | exact .inl rfl)))
    | split

theorem State_unshed_keeps {m_ : Nat} (hm : maskIn 65536 m_ = true) {s_ s : State} (h_ : Keeps m_ s_ s)  : Keeps m_ s_ (State.unshed s) := by
  refine Keeps.after hm h_ ?_
  clear hm h_
  unfold State.unshed
  repeat' with_reducible first
    | assumption
    | exact Keeps.refl _ _
    | (show maskIn _ _ = true; decide)
    | apply keepsR_next
    | apply keeps_ite
    | apply keepsR_ite
    | apply keeps_ite2
    | apply keeps_foldl
    | apply keeps_foldl2
    | apply keeps_foldl3
    | intro _
    | dsimp only
    | (fail_if_no_progress (apply keeps_mk; on_goal 2 => (constructor <;> first | exact .inr (by decide) | exact .inl rfl)))
    | split

theorem State_ledgerObjs_keeps {m_ : Nat} (hm : maskIn 1 m_ = true) {s_ s : State} (h_ : Keeps m_ s_ s)  : Keeps m_ s_ (State.ledgerObjs s) := by
  refine Keeps.after hm h_ ?_
  clear hm h_
  unfold State.ledgerObjs
  repeat' with_reducible first
    | assumption
    | exact Keeps.refl _ _
    | (show maskIn _ _ = true; decide)
    | apply State_setNum_keeps
    | apply keepsR_next
    | apply keeps_ite
    | apply keepsR_ite
    | apply keeps_ite2
    | apply keeps_foldl
    | apply keeps_foldl2
    | apply keeps_foldl3
    | intro _
    | dsimp only
    | (fail_if_no_progress (apply keeps_mk; on_goal 2 => (constructor <;> first | exact .inr (by decide) | exact .inl rfl)))
    | split

theorem State_shedObj_keeps {m_ : Nat} (hm : maskIn 1 m_ = true) {s_ s : State} (h_ : Keeps m_ s_ s)  : Keeps m_ s_ (State.shedObj s) := by
  refine Keeps.after hm h_ ?_
  clear hm h_
  unfold State.shedObj
  repeat' with_reducible first
    | assumption
    | exact Keeps.refl _ _
    | (show maskIn _ _ = true; decide)
    | apply State_setNum_keeps
    | apply keepsR_next
    | apply keeps_ite
    | apply keepsR_ite
    | apply keeps_ite2
    | apply keeps_foldl
    | apply keeps_foldl2
    | apply keeps_foldl3
    | intro _
    | dsimp only
    | (fail_if_no_progress (apply keeps_mk; on_goal 2 => (constructor <;> first | exact .inr (by decide) | exact .inl rfl)))
    | split

theorem State_shedStep_keeps {m_ : Nat} (hm : maskIn 1017743 m_ = true) {s_ s : State} (h_ : Keeps m_ s_ s) (kind : Nat) (inst : Nat) : Keeps m_ s_ (State.shedStep s kind inst) := by
  refine Keeps.after hm h_ ?_
  clear hm h_
  unfold State.shedStep
  repeat' with_reducible first
    | assumption
    | exact Keeps.refl _ _
    | (show maskIn _ _ = true; decide)
    | apply State_pwrEvent_keeps
    | apply State_report_keeps
    | apply State_setPwr_keeps
    | apply State_shedConv_keeps
    | apply State_shedHead_keeps
    | apply State_shedObj_keeps
    | apply State_startPoint_keeps
    | apply State_syncSubs_keeps
    | apply keepsR_next
    | apply keeps_ite
    | apply keepsR_ite
    | apply keeps_ite2
    | apply keeps_foldl
    | apply keeps_foldl2
    | apply keeps_foldl3
    | intro _
    | dsimp only
    | (fail_if_no_progress (apply keeps_mk; on_goal 2 => (constructor <;> first | exact .inr (by decide) | exact .inl rfl)))
    | split

theorem State_restoreStep_keeps {m_ : Nat} (hm : maskIn 361355 m_ = true) {s_ s : State} (h_ : Keeps m_ s_ s) (kind : Nat) (inst : Nat) : Keeps m_ s_ (State.restoreStep s kind inst) := by
  refine Keeps.after hm h_ ?_
  clear hm h_
  unfold State.restoreStep
  repeat' with_reducible first
    | assumption
    | exact Keeps.refl _ _
    | (show maskIn _ _ = true; decide)
    | apply State_pwrEvent_keeps
    | apply State_restoreConv_keeps
    | apply State_restoreHead_keeps
    | apply State_setPwr_keeps
    | apply State_shedObj_keeps
    | apply State_startPoint_keeps
    | apply keepsR_next
    | apply keeps_ite
    | apply keepsR_ite
    | apply keeps_ite2
    | apply keeps_foldl
    | apply keeps_foldl2
    | apply keeps_foldl3
    | intro _
    | dsimp only
    | (fail_if_no_progress (apply keeps_mk; on_goal 2 => (constructor <;> first | exact .inr (by decide) | exact .inl rfl)))
    | split

theorem State_ledgerAct_keeps {m_ : Nat} (hm : maskIn 1017743 m_ = true) {s_ s : State} (h_ : Keeps m_ s_ s)  : Keeps m_ s_ (State.ledgerAct s) := by
  refine Keeps.after hm h_ ?_
  clear hm h_
  unfold State.ledgerAct
  repeat' with_reducible first
    | assumption
    | exact Keeps.refl _ _
    | (show maskIn _ _ = true; decide)
    | apply State_conditionEnd_keeps
    | apply State_pwrEvent_keeps
    | apply State_raise_keeps
    | apply State_report_keeps
    | apply State_restoreStep_keeps
    | apply State_setPwr_keeps
    | apply State_shedStep_keeps
    | apply keepsR_next
    | apply keeps_ite
    | apply keepsR_ite
    | apply keeps_ite2
    | apply keeps_foldl
    | apply keeps_foldl2
    | apply keeps_foldl3
    | intro _
    | dsimp only
    | (fail_if_no_progress (apply keeps_mk; on_goal 2 => (constructor <;> first | exact .inr (by decide) | exact .inl rfl)))
    | split

theorem execLedgerSecond_keeps {m_ : Nat} (hm : maskIn 1017775 m_ = true) {s_ s0 : State} (h_ : Keeps m_ s_ s0) (onDie : Nat) (at_ : Nat) : KeepsR m_ s_ (execLedgerSecond onDie at_ s0) := by
  refine KeepsR.after hm h_ ?_
  clear hm h_
  unfold execLedgerSecond
  repeat' with_reducible first
    | assumption
    | exact Keeps.refl _ _
    | (show maskIn _ _ = true; decide)
    | apply State_ledgerAct_keeps
    | apply State_ledgerObjs_keeps
    | apply State_setNum_keeps
    | apply State_setPwr_keeps
    | apply State_toTick_keeps
    | apply keepsR_next
    | apply keeps_ite
    | apply keepsR_ite
    | apply keeps_ite2
    | apply keeps_foldl
    | apply keeps_foldl2
    | apply keeps_foldl3
    | intro _
    | dsimp only
    | (fail_if_no_progress (apply keeps_mk; on_goal 2 => (constructor <;> first | exact .inr (by decide) | exact .inl rfl)))
    | split

theorem State_thermTrip_keeps {m_ : Nat} (hm : maskIn 394123 m_ = true) {s_ s : State} (h_ : Keeps m_ s_ s)  : Keeps m_ s_ (State.thermTrip s) := by
  refine Keeps.after hm h_ ?_
  clear hm h_
  unfold State.thermTrip
  repeat' with_reducible first
    | assumption
    | exact Keeps.refl _ _
    | (show maskIn _ _ = true; decide)
    | apply State_lowerClaim_keeps
    | apply State_setChip_keeps
    | apply State_setPwr_keeps
    | apply keepsR_next
    | apply keeps_ite
    | apply keepsR_ite
    | apply keeps_ite2
    | apply keeps_foldl
    | apply keeps_foldl2
    | apply keeps_foldl3
    | intro _
    | dsimp only
    | (fail_if_no_progress (apply keeps_mk; on_goal 2 => (constructor <;> first | exact .inr (by decide) | exact .inl rfl)))
    | split

theorem execThermalRead_keeps {m_ : Nat} (hm : maskIn 919471 m_ = true) {s_ s0 : State} (h_ : Keeps m_ s_ s0) (temps : List Int) (at_ : Nat) : KeepsR m_ s_ (execThermalRead temps at_ s0) := by
  refine KeepsR.after hm h_ ?_
  clear hm h_
  unfold execThermalRead
  repeat' with_reducible first
    | assumption
    | exact Keeps.refl _ _
    | (show maskIn _ _ = true; decide)
    | apply State_conditionEnd_keeps
    | apply State_pwrEvent_keeps
    | apply State_report_keeps
    | apply State_setInt_keeps
    | apply State_setNum_keeps
    | apply State_setPwr_keeps
    | apply State_thermTrip_keeps
    | apply State_toTick_keeps
    | apply keepsR_next
    | apply keeps_ite
    | apply keepsR_ite
    | apply keeps_ite2
    | apply keeps_foldl
    | apply keeps_foldl2
    | apply keeps_foldl3
    | intro _
    | dsimp only
    | (fail_if_no_progress (apply keeps_mk; on_goal 2 => (constructor <;> first | exact .inr (by decide) | exact .inl rfl)))
    | split

theorem State_area9Apply_keeps {m_ : Nat} (hm : maskIn 328587 m_ = true) {s_ s : State} (h_ : Keeps m_ s_ s) (pre : State) : Keeps m_ s_ (State.area9Apply s pre) := by
  refine Keeps.after hm h_ ?_
  clear hm h_
  unfold State.area9Apply
  repeat' with_reducible first
    | assumption
    | exact Keeps.refl _ _
    | (show maskIn _ _ = true; decide)
    | apply State_derateCheck_keeps
    | apply State_setPwr_keeps
    | apply State_shedObj_keeps
    | apply State_startPoint_keeps
    | apply keepsR_next
    | apply keeps_ite
    | apply keepsR_ite
    | apply keeps_ite2
    | apply keeps_foldl
    | apply keeps_foldl2
    | apply keeps_foldl3
    | intro _
    | dsimp only
    | (fail_if_no_progress (apply keeps_mk; on_goal 2 => (constructor <;> first | exact .inr (by decide) | exact .inl rfl)))
    | split

end Sys2Proof.Machine
end

