-- ==== Sys2Proof/Laws/KeepsUpdate.lean ====
section
/-! SUPPORT. Update: what every operation keeps. -/

namespace Sys2Proof.Machine

theorem State_updRefuse_keeps {m_ : Nat} (hm : maskIn 906 m_ = true) {s_ s : State} (h_ : Keeps m_ s_ s) (code : Nat) : Keeps m_ s_ (State.updRefuse s code).2 := by
  refine Keeps.after hm h_ ?_
  clear hm h_
  unfold State.updRefuse
  repeat' with_reducible first
    | assumption
    | exact Keeps.refl _ _
    | (show maskIn _ _ = true; decide)
    | apply State_raise_keeps
    | apply keepsR_next
    | apply keeps_ite
    | apply keepsR_ite
    | apply keeps_ite2
    | apply keeps_foldl
    | apply keeps_foldl2
    | apply keeps_foldl3
    | intro _
    | dsimp only
    | (fail_if_no_progress (apply keeps_mk; on_goal 2 => (constructor <;> first | exact .inr (by decide) | exact .inl rfl)))
    | split

theorem State_setUst_keeps {m_ : Nat} (hm : maskIn 524288 m_ = true) {s_ s : State} (h_ : Keeps m_ s_ s) (v : Nat) : Keeps m_ s_ (State.setUst s v) := by
  refine Keeps.after hm h_ ?_
  clear hm h_
  unfold State.setUst
  repeat' with_reducible first
    | assumption
    | exact Keeps.refl _ _
    | (show maskIn _ _ = true; decide)
    | apply State_setUpd_keeps
    | apply keepsR_next
    | apply keeps_ite
    | apply keepsR_ite
    | apply keeps_ite2
    | apply keeps_foldl
    | apply keeps_foldl2
    | apply keeps_foldl3
    | intro _
    | dsimp only
    | (fail_if_no_progress (apply keeps_mk; on_goal 2 => (constructor <;> first | exact .inr (by decide) | exact .inl rfl)))
    | split

theorem State_imageSegment_keeps {m_ : Nat} (hm : maskIn 525278 m_ = true) {s_ s : State} (h_ : Keeps m_ s_ s) (offset : Nat) (data : List Byte) (fin : Bool) : Keeps m_ s_ (State.imageSegment s offset data fin).2 := by
  refine Keeps.after hm h_ ?_
  clear hm h_
  unfold State.imageSegment
  repeat' with_reducible first
    | assumption
    | exact Keeps.refl _ _
    | (show maskIn _ _ = true; decide)
    | apply State_reject_keeps
    | apply State_setImg_keeps
    | apply State_setUpd_keeps
    | apply State_updRefuse_keeps
    | apply keepsR_next
    | apply keeps_ite
    | apply keepsR_ite
    | apply keeps_ite2
    | apply keeps_foldl
    | apply keeps_foldl2
    | apply keeps_foldl3
    | intro _
    | dsimp only
    | (fail_if_no_progress (apply keeps_mk; on_goal 2 => (constructor <;> first | exact .inr (by decide) | exact .inl rfl)))
    | split

theorem execImageVerified_keeps {m_ : Nat} (hm : maskIn 525227 m_ = true) {s_ s0 : State} (h_ : Keeps m_ s_ s0) (at_ : Nat) : KeepsR m_ s_ (execImageVerified at_ s0) := by
  refine KeepsR.after hm h_ ?_
  clear hm h_
  unfold execImageVerified
  repeat' with_reducible first
    | assumption
    | exact Keeps.refl _ _
    | (show maskIn _ _ = true; decide)
    | apply State_raise_keeps
    | apply State_setImg_keeps
    | apply State_setNum_keeps
    | apply State_setUst_keeps
    | apply State_toTick_keeps
    | apply keepsR_next
    | apply keeps_ite
    | apply keepsR_ite
    | apply keeps_ite2
    | apply keeps_foldl
    | apply keeps_foldl2
    | apply keeps_foldl3
    | intro _
    | dsimp only
    | (fail_if_no_progress (apply keeps_mk; on_goal 2 => (constructor <;> first | exact .inr (by decide) | exact .inl rfl)))
    | split

theorem State_prepareBank_keeps {m_ : Nat} (hm : maskIn 524494 m_ = true) {s_ s : State} (h_ : Keeps m_ s_ s) (from_ : Nat) (to_ : Nat) : Keeps m_ s_ (State.prepareBank s from_ to_).2 := by
  refine Keeps.after hm h_ ?_
  clear hm h_
  unfold State.prepareBank
  repeat' with_reducible first
    | assumption
    | exact Keeps.refl _ _
    | (show maskIn _ _ = true; decide)
    | apply State_setBank_keeps
    | apply State_settle_keeps
    | apply keepsR_next
    | apply keeps_ite
    | apply keepsR_ite
    | apply keeps_ite2
    | apply keeps_foldl
    | apply keeps_foldl2
    | apply keeps_foldl3
    | intro _
    | dsimp only
    | (fail_if_no_progress (apply keeps_mk; on_goal 2 => (constructor <;> first | exact .inr (by decide) | exact .inl rfl)))
    | split

theorem State_activateWrite_keeps {m_ : Nat} (hm : maskIn 525262 m_ = true) {s_ s : State} (h_ : Keeps m_ s_ s) (v : Nat) : Keeps m_ s_ (State.activateWrite s v).2 := by
  refine Keeps.after hm h_ ?_
  clear hm h_
  unfold State.activateWrite
  repeat' with_reducible first
    | assumption
    | exact Keeps.refl _ _
    | (show maskIn _ _ = true; decide)
    | apply State_prepareBank_keeps
    | apply State_raise_keeps
    | apply State_setImg_keeps
    | apply State_setUpd_keeps
    | apply State_updRefuse_keeps
    | apply keepsR_next
    | apply keeps_ite
    | apply keepsR_ite
    | apply keeps_ite2
    | apply keeps_foldl
    | apply keeps_foldl2
    | apply keeps_foldl3
    | intro _
    | dsimp only
    | (fail_if_no_progress (apply keeps_mk; on_goal 2 => (constructor <;> first | exact .inr (by decide) | exact .inl rfl)))
    | split

theorem State_confirmWrite_keeps {m_ : Nat} (hm : maskIn 524288 m_ = true) {s_ s : State} (h_ : Keeps m_ s_ s) (v : Nat) : Keeps m_ s_ (State.confirmWrite s v).2 := by
  refine Keeps.after hm h_ ?_
  clear hm h_
  unfold State.confirmWrite
  repeat' with_reducible first
    | assumption
    | exact Keeps.refl _ _
    | (show maskIn _ _ = true; decide)
    | apply State_setUpd_keeps
    | apply keepsR_next
    | apply keeps_ite
    | apply keepsR_ite
    | apply keeps_ite2
    | apply keeps_foldl
    | apply keeps_foldl2
    | apply keeps_foldl3
    | intro _
    | dsimp only
    | (fail_if_no_progress (apply keeps_mk; on_goal 2 => (constructor <;> first | exact .inr (by decide) | exact .inl rfl)))
    | split

theorem execTrialConfirmation_keeps {m_ : Nat} (hm : maskIn 525226 m_ = true) {s_ s0 : State} (h_ : Keeps m_ s_ s0) (answers : Bool) (at_ : Nat) : KeepsR m_ s_ (execTrialConfirmation answers at_ s0) := by
  refine KeepsR.after hm h_ ?_
  clear hm h_
  unfold execTrialConfirmation
  repeat' with_reducible first
    | assumption
    | exact Keeps.refl _ _
    | (show maskIn _ _ = true; decide)
    | apply State_raise_keeps
    | apply State_setImg_keeps
    | apply State_setUpd_keeps
    | apply State_toTick_keeps
    | apply keepsR_next
    | apply keeps_ite
    | apply keepsR_ite
    | apply keeps_ite2
    | apply keeps_foldl
    | apply keeps_foldl2
    | apply keeps_foldl3
    | intro _
    | dsimp only
    | (fail_if_no_progress (apply keeps_mk; on_goal 2 => (constructor <;> first | exact .inr (by decide) | exact .inl rfl)))
    | split

theorem State_fallEvent_keeps {m_ : Nat} (hm : maskIn 657295 m_ = true) {s_ s : State} (h_ : Keeps m_ s_ s) (cause : Nat) (from_ : Nat) (to_ : Nat) : Keeps m_ s_ (State.fallEvent s cause from_ to_) := by
  refine Keeps.after hm h_ ?_
  clear hm h_
  unfold State.fallEvent
  repeat' with_reducible first
    | assumption
    | exact Keeps.refl _ _
    | (show maskIn _ _ = true; decide)
    | apply State_raise_keeps
    | apply State_report_keeps
    | apply State_setUpd_keeps
    | apply keepsR_next
    | apply keeps_ite
    | apply keepsR_ite
    | apply keeps_ite2
    | apply keeps_foldl
    | apply keeps_foldl2
    | apply keeps_foldl3
    | intro _
    | dsimp only
    | (fail_if_no_progress (apply keeps_mk; on_goal 2 => (constructor <;> first | exact .inr (by decide) | exact .inl rfl)))
    | split

theorem State_fallBegin_keeps {m_ : Nat} (hm : maskIn 657295 m_ = true) {s_ s : State} (h_ : Keeps m_ s_ s) (cause : Nat) : Keeps m_ s_ (State.fallBegin s cause) := by
  refine Keeps.after hm h_ ?_
  clear hm h_
  unfold State.fallBegin
  repeat' with_reducible first
    | assumption
    | exact Keeps.refl _ _
    | (show maskIn _ _ = true; decide)
    | apply State_fallEvent_keeps
    | apply State_setImg_keeps
    | apply State_setUpd_keeps
    | apply keepsR_next
    | apply keeps_ite
    | apply keepsR_ite
    | apply keeps_ite2
    | apply keeps_foldl
    | apply keeps_foldl2
    | apply keeps_foldl3
    | intro _
    | dsimp only
    | (fail_if_no_progress (apply keeps_mk; on_goal 2 => (constructor <;> first | exact .inr (by decide) | exact .inl rfl)))
    | split

end Sys2Proof.Machine
end

