-- ==== Sys2Proof/Laws/KeepsDict.lean ====
section
/-! SUPPORT. Dict: what every operation keeps. -/

namespace Sys2Proof.Machine

theorem State_stage_keeps {m_ : Nat} (hm : maskIn 64 m_ = true) {s_ s : State} (h_ : Keeps m_ s_ s) (slot : Nat) (k : Nat) (v : Val) : Keeps m_ s_ (State.stage s slot k v) := by
  refine Keeps.after hm h_ ?_
  clear hm h_
  unfold State.stage
  repeat' with_reducible first
    | assumption
    | exact Keeps.refl _ _
    | (show maskIn _ _ = true; decide)
    | apply keepsR_next
    | apply keeps_ite
    | apply keepsR_ite
    | apply keeps_ite2
    | apply keeps_foldl
    | apply keeps_foldl2
    | apply keeps_foldl3
    | intro _
    | dsimp only
    | (fail_if_no_progress (apply keeps_mk; on_goal 2 => (constructor <;> first | exact .inr (by decide) | exact .inl rfl)))
    | split

theorem State_clearStage_keeps {m_ : Nat} (hm : maskIn 64 m_ = true) {s_ s : State} (h_ : Keeps m_ s_ s) (a : Nat) : Keeps m_ s_ (State.clearStage s a) := by
  refine Keeps.after hm h_ ?_
  clear hm h_
  unfold State.clearStage
  repeat' with_reducible first
    | assumption
    | exact Keeps.refl _ _
    | (show maskIn _ _ = true; decide)
    | apply keepsR_next
    | apply keeps_ite
    | apply keepsR_ite
    | apply keeps_ite2
    | apply keeps_foldl
    | apply keeps_foldl2
    | apply keeps_foldl3
    | intro _
    | dsimp only
    | (fail_if_no_progress (apply keeps_mk; on_goal 2 => (constructor <;> first | exact .inr (by decide) | exact .inl rfl)))
    | split

theorem State_afterRead_keeps {m_ : Nat} (hm : maskIn 65 m_ = true) {s_ s : State} (h_ : Keeps m_ s_ s) (slot : Nat) (k : Nat) : Keeps m_ s_ (State.afterRead s slot k) := by
  refine Keeps.after hm h_ ?_
  clear hm h_
  unfold State.afterRead
  repeat' with_reducible first
    | assumption
    | exact Keeps.refl _ _
    | (show maskIn _ _ = true; decide)
    | apply State_setNum_keeps
    | apply State_setSess_keeps
    | apply keepsR_next
    | apply keeps_ite
    | apply keepsR_ite
    | apply keeps_ite2
    | apply keeps_foldl
    | apply keeps_foldl2
    | apply keeps_foldl3
    | intro _
    | dsimp only
    | (fail_if_no_progress (apply keeps_mk; on_goal 2 => (constructor <;> first | exact .inr (by decide) | exact .inl rfl)))
    | split

theorem State_readOne_keeps {m_ : Nat} (hm : maskIn 65 m_ = true) {s_ s : State} (h_ : Keeps m_ s_ s) (slot : Nat) (ix : Nat) (sub : Nat) : Keeps m_ s_ (State.readOne s slot ix sub).2 := by
  refine Keeps.after hm h_ ?_
  clear hm h_
  unfold State.readOne
  repeat' with_reducible first
    | assumption
    | exact Keeps.refl _ _
    | (show maskIn _ _ = true; decide)
    | apply State_afterRead_keeps
    | apply keepsR_next
    | apply keeps_ite
    | apply keepsR_ite
    | apply keeps_ite2
    | apply keeps_foldl
    | apply keeps_foldl2
    | apply keeps_foldl3
    | intro _
    | dsimp only
    | (fail_if_no_progress (apply keeps_mk; on_goal 2 => (constructor <;> first | exact .inr (by decide) | exact .inl rfl)))
    | split

theorem State_doRead_keeps {m_ : Nat} (hm : maskIn 65 m_ = true) {s_ s : State} (h_ : Keeps m_ s_ s) (slot : Nat) (ix : Nat) (sub : Nat) : Keeps m_ s_ (State.doRead s slot ix sub).2 := by
  refine Keeps.after hm h_ ?_
  clear hm h_
  unfold State.doRead
  repeat' with_reducible first
    | assumption
    | exact Keeps.refl _ _
    | (show maskIn _ _ = true; decide)
    | apply State_readOne_keeps
    | apply keepsR_next
    | apply keeps_ite
    | apply keepsR_ite
    | apply keeps_ite2
    | apply keeps_foldl
    | apply keeps_foldl2
    | apply keeps_foldl3
    | intro _
    | dsimp only
    | (fail_if_no_progress (apply keeps_mk; on_goal 2 => (constructor <;> first | exact .inr (by decide) | exact .inl rfl)))
    | split

theorem State_doReadSeg_keeps {m_ : Nat} (hm : maskIn 0 m_ = true) {s_ s : State} (h_ : Keeps m_ s_ s) (slot : Nat) (ix : Nat) (sub : Nat) (off : Nat) : Keeps m_ s_ (State.doReadSeg s slot ix sub off).2 := by
  refine Keeps.after hm h_ ?_
  clear hm h_
  unfold State.doReadSeg
  repeat' with_reducible first
    | assumption
    | exact Keeps.refl _ _
    | (show maskIn _ _ = true; decide)
    | apply keepsR_next
    | apply keeps_ite
    | apply keepsR_ite
    | apply keeps_ite2
    | apply keeps_foldl
    | apply keeps_foldl2
    | apply keeps_foldl3
    | intro _
    | dsimp only
    | (fail_if_no_progress (apply keeps_mk; on_goal 2 => (constructor <;> first | exact .inr (by decide) | exact .inl rfl)))
    | split

theorem State_levelDefaults_keeps {m_ : Nat} (hm : maskIn 1 m_ = true) {s_ s : State} (h_ : Keeps m_ s_ s) (own : Nat → Bool) : Keeps m_ s_ (State.levelDefaults s own) := by
  refine Keeps.after hm h_ ?_
  clear hm h_
  unfold State.levelDefaults
  repeat' with_reducible first
    | assumption
    | exact Keeps.refl _ _
    | (show maskIn _ _ = true; decide)
    | apply setObj_keeps
    | apply keepsR_next
    | apply keeps_ite
    | apply keepsR_ite
    | apply keeps_ite2
    | apply keeps_foldl
    | apply keeps_foldl2
    | apply keeps_foldl3
    | intro _
    | dsimp only
    | (fail_if_no_progress (apply keeps_mk; on_goal 2 => (constructor <;> first | exact .inr (by decide) | exact .inl rfl)))
    | split

theorem State_doSubscribe_keeps {m_ : Nat} (hm : maskIn 64 m_ = true) {s_ s : State} (h_ : Keeps m_ s_ s) (slot : Nat) (ix : Nat) (sub : Nat) (value : List Byte) : Keeps m_ s_ (State.doSubscribe s slot ix sub value).2 := by
  refine Keeps.after hm h_ ?_
  clear hm h_
  unfold State.doSubscribe
  repeat' with_reducible first
    | assumption
    | exact Keeps.refl _ _
    | (show maskIn _ _ = true; decide)
    | apply keepsR_next
    | apply keeps_ite
    | apply keepsR_ite
    | apply keeps_ite2
    | apply keeps_foldl
    | apply keeps_foldl2
    | apply keeps_foldl3
    | intro _
    | dsimp only
    | (fail_if_no_progress (apply keeps_mk; on_goal 2 => (constructor <;> first | exact .inr (by decide) | exact .inl rfl)))
    | split

theorem State_doUnsubscribe_keeps {m_ : Nat} (hm : maskIn 64 m_ = true) {s_ s : State} (h_ : Keeps m_ s_ s) (slot : Nat) (ix : Nat) (sub : Nat) : Keeps m_ s_ (State.doUnsubscribe s slot ix sub).2 := by
  refine Keeps.after hm h_ ?_
  clear hm h_
  unfold State.doUnsubscribe
  repeat' with_reducible first
    | assumption
    | exact Keeps.refl _ _
    | (show maskIn _ _ = true; decide)
    | apply keepsR_next
    | apply keeps_ite
    | apply keepsR_ite
    | apply keeps_ite2
    | apply keeps_foldl
    | apply keeps_foldl2
    | apply keeps_foldl3
    | intro _
    | dsimp only
    | (fail_if_no_progress (apply keeps_mk; on_goal 2 => (constructor <;> first | exact .inr (by decide) | exact .inl rfl)))
    | split

theorem State_mbxNotify_keeps {m_ : Nat} (hm : maskIn 222 m_ = true) {s_ s : State} (h_ : Keeps m_ s_ s) (n : Nat) : Keeps m_ s_ (State.mbxNotify s n) := by
  refine Keeps.after hm h_ ?_
  clear hm h_
  unfold State.mbxNotify
  repeat' with_reducible first
    | assumption
    | exact Keeps.refl _ _
    | (show maskIn _ _ = true; decide)
    | apply State_freeNat_keeps
    | apply State_mbxPlace_keeps
    | apply State_setSess_keeps
    | apply keepsR_next
    | apply keeps_ite
    | apply keepsR_ite
    | apply keeps_ite2
    | apply keeps_foldl
    | apply keeps_foldl2
    | apply keeps_foldl3
    | intro _
    | dsimp only
    | (fail_if_no_progress (apply keeps_mk; on_goal 2 => (constructor <;> first | exact .inr (by decide) | exact .inl rfl)))
    | split

theorem State_sendNotif_keeps {m_ : Nat} (hm : maskIn 990 m_ = true) {s_ s : State} (h_ : Keeps m_ s_ s) (slot : Nat) (n : Notif) : Keeps m_ s_ (State.sendNotif s slot n) := by
  refine Keeps.after hm h_ ?_
  clear hm h_
  unfold State.sendNotif
  repeat' with_reducible first
    | assumption
    | exact Keeps.refl _ _
    | (show maskIn _ _ = true; decide)
    | apply State_freeNat_keeps
    | apply State_mbxNotify_keeps
    | apply State_raise_keeps
    | apply State_sendUdp_keeps
    | apply State_setSess_keeps
    | apply keepsR_next
    | apply keeps_ite
    | apply keepsR_ite
    | apply keeps_ite2
    | apply keeps_foldl
    | apply keeps_foldl2
    | apply keeps_foldl3
    | intro _
    | dsimp only
    | (fail_if_no_progress (apply keeps_mk; on_goal 2 => (constructor <;> first | exact .inr (by decide) | exact .inl rfl)))
    | split

theorem State_changeTime_keeps {m_ : Nat} (hm : maskIn 16 m_ = true) {s_ s : State} (h_ : Keeps m_ s_ s) (k : Nat) (pt : Nat) (moved : Bool) : Keeps m_ s_ (State.changeTime s k pt moved).2 := by
  refine Keeps.after hm h_ ?_
  clear hm h_
  unfold State.changeTime
  repeat' with_reducible first
    | assumption
    | exact Keeps.refl _ _
    | (show maskIn _ _ = true; decide)
    | apply State_freeNat_keeps
    | apply keepsR_next
    | apply keeps_ite
    | apply keepsR_ite
    | apply keeps_ite2
    | apply keeps_foldl
    | apply keeps_foldl2
    | apply keeps_foldl3
    | intro _
    | dsimp only
    | (fail_if_no_progress (apply keeps_mk; on_goal 2 => (constructor <;> first | exact .inr (by decide) | exact .inl rfl)))
    | split

theorem State_doNotify_keeps {m_ : Nat} (hm : maskIn 990 m_ = true) {s_ s : State} (h_ : Keeps m_ s_ s) (slot : Nat) (k : Nat) : Keeps m_ s_ (State.doNotify s slot k) := by
  refine Keeps.after hm h_ ?_
  clear hm h_
  unfold State.doNotify
  repeat' with_reducible first
    | assumption
    | exact Keeps.refl _ _
    | (show maskIn _ _ = true; decide)
    | apply State_changeTime_keeps
    | apply State_sendNotif_keeps
    | apply keepsR_next
    | apply keeps_ite
    | apply keepsR_ite
    | apply keeps_ite2
    | apply keeps_foldl
    | apply keeps_foldl2
    | apply keeps_foldl3
    | intro _
    | dsimp only
    | (fail_if_no_progress (apply keeps_mk; on_goal 2 => (constructor <;> first | exact .inr (by decide) | exact .inl rfl)))
    | split

theorem State_endSession_keeps {m_ : Nat} (hm : maskIn 525258 m_ = true) {s_ s : State} (h_ : Keeps m_ s_ s) (i : Nat) (cause : Nat) : Keeps m_ s_ (State.endSession s i cause) := by
  refine Keeps.after hm h_ ?_
  clear hm h_
  unfold State.endSession
  repeat' with_reducible first
    | assumption
    | exact Keeps.refl _ _
    | (show maskIn _ _ = true; decide)
    | apply State_clearStage_keeps
    | apply State_raise_keeps
    | apply State_setSess_keeps
    | apply setReg_keeps
    | apply keepsR_next
    | apply keeps_ite
    | apply keepsR_ite
    | apply keeps_ite2
    | apply keeps_foldl
    | apply keeps_foldl2
    | apply keeps_foldl3
    | intro _
    | dsimp only
    | (fail_if_no_progress (apply keeps_mk; on_goal 2 => (constructor <;> first | exact .inr (by decide) | exact .inl rfl)))
    | split

theorem State_holdRec_keeps {m_ : Nat} (hm : maskIn 524288 m_ = true) {s_ s : State} (h_ : Keeps m_ s_ s) (slot : Nat) (first : Bool) (c : Instr) : Keeps m_ s_ (State.holdRec s slot first c) := by
  refine Keeps.after hm h_ ?_
  clear hm h_
  unfold State.holdRec
  repeat' with_reducible first
    | assumption
    | exact Keeps.refl _ _
    | (show maskIn _ _ = true; decide)
    | apply keepsR_next
    | apply keeps_ite
    | apply keepsR_ite
    | apply keeps_ite2
    | apply keeps_foldl
    | apply keeps_foldl2
    | apply keeps_foldl3
    | intro _
    | dsimp only
    | (fail_if_no_progress (apply keeps_mk; on_goal 2 => (constructor <;> first | exact .inr (by decide) | exact .inl rfl)))
    | split

theorem State_beginMsg_keeps {m_ : Nat} (hm : maskIn 64 m_ = true) {s_ s : State} (h_ : Keeps m_ s_ s) (c : Ctx) : Keeps m_ s_ (State.beginMsg s c) := by
  refine Keeps.after hm h_ ?_
  clear hm h_
  unfold State.beginMsg
  repeat' with_reducible first
    | assumption
    | exact Keeps.refl _ _
    | (show maskIn _ _ = true; decide)
    | apply State_setSess_keeps
    | apply keepsR_next
    | apply keeps_ite
    | apply keepsR_ite
    | apply keeps_ite2
    | apply keeps_foldl
    | apply keeps_foldl2
    | apply keeps_foldl3
    | intro _
    | dsimp only
    | (fail_if_no_progress (apply keeps_mk; on_goal 2 => (constructor <;> first | exact .inr (by decide) | exact .inl rfl)))
    | split

theorem State_runRec_keeps {m_ : Nat} (hm : maskIn 206 m_ = true) {s_ s : State} (h_ : Keeps m_ s_ s) (c : Ctx) (short : Nat → List RespRec)
    {deny : State → State} (hd : ∀ x, Keeps m_ x (deny x)) {body : State → List RespRec × State} (hb : ∀ x, Keeps m_ x (body x).2) :
    Keeps m_ s_ (State.runRec s c short deny body) := by
  have hp : Keeps m_ s_ (if c.stop && (s.sess c.slot.val).failed then (aloneRecs c short 0x00FF, s)
      else if c.form = .good then body s else (aloneRecs c short 0x000E, if c.form = .malformed then deny s else s)).2 := by
    split
    · exact h_
    · split
      · exact h_.trans (hb s)
      · split
        · exact h_.trans (hd s)
        · exact h_
  unfold State.runRec
  dsimp only
  generalize (if c.stop && (s.sess c.slot.val).failed then (aloneRecs c short 0x00FF, s)
      else if c.form = .good then body s else (aloneRecs c short 0x000E, if c.form = .malformed then deny s else s)) = p at hp
  repeat' with_reducible first
    | assumption
    | exact Keeps.refl _ _
    | (show maskIn _ _ = true; first | exact maskIn_trans (by decide) hm | decide)
    | exact h_.trans (hb _)
    | apply hb
    | apply State_finishMsg_keeps
    | apply State_setSess_keeps
    | apply keeps_ite
    | apply keeps_foldl
    | apply keeps_foldl2
    | intro _
    | dsimp only
    | (fail_if_no_progress (apply keeps_mk; on_goal 2 => (constructor <;> first | exact .inr (bit_of_maskIn hm (by decide)) | exact .inl rfl)))
    | split

theorem State_holdBehind_keeps {m_ : Nat} (hm : maskIn 64 m_ = true) {s_ s : State} (h_ : Keeps m_ s_ s) (i : Nat) (self : Instr) : Keeps m_ s_ (State.holdBehind s i self) := by
  refine Keeps.after hm h_ ?_
  clear hm h_
  unfold State.holdBehind
  repeat' with_reducible first
    | assumption
    | exact Keeps.refl _ _
    | (show maskIn _ _ = true; decide)
    | apply keepsR_next
    | apply keeps_ite
    | apply keepsR_ite
    | apply keeps_ite2
    | apply keeps_foldl
    | apply keeps_foldl2
    | apply keeps_foldl3
    | intro _
    | dsimp only
    | (fail_if_no_progress (apply keeps_mk; on_goal 2 => (constructor <;> first | exact .inr (by decide) | exact .inl rfl)))
    | split

theorem State_withRec_keeps {m_ : Nat} (hm : maskIn 524494 m_ = true) {s_ s : State} (h_ : Keeps m_ s_ s) (c : Ctx) (self : Instr)
    (short : Nat → List RespRec) {deny : State → State} (hd : ∀ x, Keeps m_ x (deny x)) {body : State → List RespRec × State}
    (hb : ∀ x, Keeps m_ x (body x).2) : Keeps m_ s_ (State.withRec s c self short deny body) := by
  unfold State.withRec
  repeat' with_reducible first
    | assumption
    | exact Keeps.refl _ _
    | (show maskIn _ _ = true; first | exact maskIn_trans (by decide) hm | decide)
    | exact h_.trans (hb _)
    | apply hb
    | apply hd
    | exact hd
    | exact hb
    | apply State_finishMsg_keeps
    | apply State_setSess_keeps
    | apply State_holdRec_keeps
    | apply State_holdBehind_keeps
    | apply State_beginMsg_keeps
    | apply State_runRec_keeps
    | apply keeps_ite
    | apply keeps_foldl
    | apply keeps_foldl2
    | intro _
    | dsimp only
    | (fail_if_no_progress (apply keeps_mk; on_goal 2 => (constructor <;> first | exact .inr (bit_of_maskIn hm (by decide)) | exact .inl rfl)))
    | split

end Sys2Proof.Machine
end

