-- ==== Sys2Proof/Laws/KeepsCommit.lean ====
section
/-! SUPPORT. Commit: what every operation keeps. -/

namespace Sys2Proof.Machine

theorem State_originsFollow_keeps {m_ : Nat} (hm : maskIn 1 m_ = true) {s_ s : State} (h_ : Keeps m_ s_ s) (pre : State) (written : Nat → Bool) : Keeps m_ s_ (State.originsFollow s pre written) := by
  refine Keeps.after hm h_ ?_
  clear hm h_
  unfold State.originsFollow
  repeat' with_reducible first
    | assumption
    | exact Keeps.refl _ _
    | (show maskIn _ _ = true; decide)
    | apply State_setNum_keeps
    | apply keepsR_next
    | apply keeps_ite
    | apply keepsR_ite
    | apply keeps_ite2
    | apply keeps_foldl
    | apply keeps_foldl2
    | apply keeps_foldl3
    | intro _
    | dsimp only
    | (fail_if_no_progress (apply keeps_mk; on_goal 2 => (constructor <;> first | exact .inr (by decide) | exact .inl rfl)))
    | split

theorem State_chainPost_keeps {m_ : Nat} (hm : maskIn 1 m_ = true) {s_ s : State} (h_ : Keeps m_ s_ s) (areas : List Nat) : Keeps m_ s_ (State.chainPost s areas) := by
  refine Keeps.after hm h_ ?_
  clear hm h_
  unfold State.chainPost
  repeat' with_reducible first
    | assumption
    | exact Keeps.refl _ _
    | (show maskIn _ _ = true; decide)
    | apply State_originsFollow_keeps
    | apply setObj_keeps
    | apply keepsR_next
    | apply keeps_ite
    | apply keepsR_ite
    | apply keeps_ite2
    | apply keeps_foldl
    | apply keeps_foldl2
    | apply keeps_foldl3
    | intro _
    | dsimp only
    | (fail_if_no_progress (apply keeps_mk; on_goal 2 => (constructor <;> first | exact .inr (by decide) | exact .inl rfl)))
    | split

theorem State_applyArea_keeps {m_ : Nat} (hm : maskIn 1048575 m_ = true) {s_ s : State} (h_ : Keeps m_ s_ s) (pre : State) (a : Nat) : Keeps m_ s_ (State.applyArea s pre a).2 := by
  refine Keeps.after hm h_ ?_
  clear hm h_
  unfold State.applyArea
  repeat' with_reducible first
    | assumption
    | exact Keeps.refl _ _
    | (show maskIn _ _ = true; decide)
    | apply State_area0AApply_keeps
    | apply State_area2Apply_keeps
    | apply State_area3Apply_keeps
    | apply State_area4Apply_keeps
    | apply State_area5Apply_keeps
    | apply State_area6Apply_keeps
    | apply State_area7Apply_keeps
    | apply State_area8Apply_keeps
    | apply State_area9Apply_keeps
    | apply State_compApply_keeps
    | apply State_loadGraph_keeps
    | apply State_loadSet_keeps
    | apply State_poolObjs_keeps
    | apply keepsR_next
    | apply keeps_ite
    | apply keepsR_ite
    | apply keeps_ite2
    | apply keeps_foldl
    | apply keeps_foldl2
    | apply keeps_foldl3
    | intro _
    | dsimp only
    | (fail_if_no_progress (apply keeps_mk; on_goal 2 => (constructor <;> first | exact .inr (by decide) | exact .inl rfl)))
    | split

theorem State_noteCommit_keeps {m_ : Nat} (hm : maskIn 971 m_ = true) {s_ s : State} (h_ : Keeps m_ s_ s) (a : Nat) (session : Nat) (count : Nat) : Keeps m_ s_ (State.noteCommit s a session count) := by
  refine Keeps.after hm h_ ?_
  clear hm h_
  unfold State.noteCommit
  repeat' with_reducible first
    | assumption
    | exact Keeps.refl _ _
    | (show maskIn _ _ = true; decide)
    | apply State_bump_keeps
    | apply State_clearStage_keeps
    | apply State_hurdleObjs_keeps
    | apply State_raise_keeps
    | apply State_setNum_keeps
    | apply keepsR_next
    | apply keeps_ite
    | apply keepsR_ite
    | apply keeps_ite2
    | apply keeps_foldl
    | apply keeps_foldl2
    | apply keeps_foldl3
    | intro _
    | dsimp only
    | (fail_if_no_progress (apply keeps_mk; on_goal 2 => (constructor <;> first | exact .inr (by decide) | exact .inl rfl)))
    | split

theorem State_commitNow_keeps {m_ : Nat} (hm : maskIn 1048575 m_ = true) {s_ s : State} (h_ : Keeps m_ s_ s) (session : Nat) (areas : List Nat) : Keeps m_ s_ (State.commitNow s session areas).2 := by
  refine Keeps.after hm h_ ?_
  clear hm h_
  unfold State.commitNow
  repeat' with_reducible first
    | assumption
    | exact Keeps.refl _ _
    | (show maskIn _ _ = true; decide)
    | apply State_applyArea_keeps
    | apply State_chainPost_keeps
    | apply State_ledgerObjs_keeps
    | apply State_noteCommit_keeps
    | apply State_noteSince_keeps
    | apply State_syncSubs_keeps
    | apply keepsR_next
    | apply keeps_ite
    | apply keepsR_ite
    | apply keeps_ite2
    | apply keeps_foldl
    | apply keeps_foldl2
    | apply keeps_foldl3
    | intro _
    | dsimp only
    | (fail_if_no_progress (apply keeps_mk; on_goal 2 => (constructor <;> first | exact .inr (by decide) | exact .inl rfl)))
    | split

theorem State_mirrorSets_keeps {m_ : Nat} (hm : maskIn 131081 m_ = true) {s_ s : State} (h_ : Keeps m_ s_ s) (areas : List Nat) : Keeps m_ s_ (State.mirrorSets s areas) := by
  refine Keeps.after hm h_ ?_
  clear hm h_
  unfold State.mirrorSets
  repeat' with_reducible first
    | assumption
    | exact Keeps.refl _ _
    | (show maskIn _ _ = true; decide)
    | apply State_mirror_keeps
    | apply keepsR_next
    | apply keeps_ite
    | apply keepsR_ite
    | apply keeps_ite2
    | apply keeps_foldl
    | apply keeps_foldl2
    | apply keeps_foldl3
    | intro _
    | dsimp only
    | (fail_if_no_progress (apply keeps_mk; on_goal 2 => (constructor <;> first | exact .inr (by decide) | exact .inl rfl)))
    | split

theorem State_mirrorCode_keeps {m_ : Nat} (hm : maskIn 131081 m_ = true) {s_ s : State} (h_ : Keeps m_ s_ s) (a : Nat) (code : Nat) : Keeps m_ s_ (State.mirrorCode s a code) := by
  refine Keeps.after hm h_ ?_
  clear hm h_
  unfold State.mirrorCode
  repeat' with_reducible first
    | assumption
    | exact Keeps.refl _ _
    | (show maskIn _ _ = true; decide)
    | apply State_mirror_keeps
    | apply keepsR_next
    | apply keeps_ite
    | apply keepsR_ite
    | apply keeps_ite2
    | apply keeps_foldl
    | apply keeps_foldl2
    | apply keeps_foldl3
    | intro _
    | dsimp only
    | (fail_if_no_progress (apply keeps_mk; on_goal 2 => (constructor <;> first | exact .inr (by decide) | exact .inl rfl)))
    | split

theorem State_recordRefused_keeps {m_ : Nat} (hm : maskIn 906 m_ = true) {s_ s : State} (h_ : Keeps m_ s_ s) (session : Nat) (a : Nat) (code : Nat) : Keeps m_ s_ (State.recordRefused s session a code) := by
  refine Keeps.after hm h_ ?_
  clear hm h_
  unfold State.recordRefused
  repeat' with_reducible first
    | assumption
    | exact Keeps.refl _ _
    | (show maskIn _ _ = true; decide)
    | apply State_noteRefused_keeps
    | apply keepsR_next
    | apply keeps_ite
    | apply keepsR_ite
    | apply keeps_ite2
    | apply keeps_foldl
    | apply keeps_foldl2
    | apply keeps_foldl3
    | intro _
    | dsimp only
    | (fail_if_no_progress (apply keeps_mk; on_goal 2 => (constructor <;> first | exact .inr (by decide) | exact .inl rfl)))
    | split

theorem State_refuseChain_keeps {m_ : Nat} (hm : maskIn 131979 m_ = true) {s_ s : State} (h_ : Keeps m_ s_ s) (session : Nat) (chain : List (Nat × Nat)) (recs : List Nat) (codes : List (Nat × Nat)) : Keeps m_ s_ (State.refuseChain s session chain recs codes) := by
  refine Keeps.after hm h_ ?_
  clear hm h_
  unfold State.refuseChain
  repeat' with_reducible first
    | assumption
    | exact Keeps.refl _ _
    | (show maskIn _ _ = true; decide)
    | apply State_enableRefused_keeps
    | apply State_mirrorCode_keeps
    | apply State_recordRefused_keeps
    | apply keepsR_next
    | apply keeps_ite
    | apply keepsR_ite
    | apply keeps_ite2
    | apply keeps_foldl
    | apply keeps_foldl2
    | apply keeps_foldl3
    | intro _
    | dsimp only
    | (fail_if_no_progress (apply keeps_mk; on_goal 2 => (constructor <;> first | exact .inr (by decide) | exact .inl rfl)))
    | split

theorem State_discardSets_keeps {m_ : Nat} (hm : maskIn 65 m_ = true) {s_ s : State} (h_ : Keeps m_ s_ s) (l : List Nat) : Keeps m_ s_ (State.discardSets s l) := by
  refine Keeps.after hm h_ ?_
  clear hm h_
  unfold State.discardSets
  repeat' with_reducible first
    | assumption
    | exact Keeps.refl _ _
    | (show maskIn _ _ = true; decide)
    | apply State_clearStage_keeps
    | apply State_hurdleObjs_keeps
    | apply keepsR_next
    | apply keeps_ite
    | apply keepsR_ite
    | apply keeps_ite2
    | apply keeps_foldl
    | apply keeps_foldl2
    | apply keeps_foldl3
    | intro _
    | dsimp only
    | (fail_if_no_progress (apply keeps_mk; on_goal 2 => (constructor <;> first | exact .inr (by decide) | exact .inl rfl)))
    | split

theorem State_commitChain_keeps {m_ : Nat} (hm : maskIn 1048575 m_ = true) {s_ s : State} (h_ : Keeps m_ s_ s) (session : Nat) (chain : List (Nat × Nat)) (mirrored : Bool) : Keeps m_ s_ (State.commitChain s session chain mirrored).2 := by
  refine Keeps.after hm h_ ?_
  clear hm h_
  unfold State.commitChain
  repeat' with_reducible first
    | assumption
    | exact Keeps.refl _ _
    | (show maskIn _ _ = true; decide)
    | apply State_commitNow_keeps
    | apply State_discardSets_keeps
    | apply State_mirrorCode_keeps
    | apply keepsR_next
    | apply keeps_ite
    | apply keepsR_ite
    | apply keeps_ite2
    | apply keeps_foldl
    | apply keeps_foldl2
    | apply keeps_foldl3
    | intro _
    | dsimp only
    | (fail_if_no_progress (apply keeps_mk; on_goal 2 => (constructor <;> first | exact .inr (by decide) | exact .inl rfl)))
    | split

theorem State_askChain_keeps {m_ : Nat} (hm : maskIn 32776 m_ = true) {s_ s : State} (h_ : Keeps m_ s_ s) (needs : List (Nat × Nat)) : Keeps m_ s_ (State.askChain s needs).2 := by
  refine Keeps.after hm h_ ?_
  clear hm h_
  unfold State.askChain
  repeat' with_reducible first
    | assumption
    | exact Keeps.refl _ _
    | (show maskIn _ _ = true; decide)
    | apply State_askSub_keeps
    | apply keepsR_next
    | apply keeps_ite
    | apply keepsR_ite
    | apply keeps_ite2
    | apply keeps_foldl
    | apply keeps_foldl2
    | apply keeps_foldl3
    | intro _
    | dsimp only
    | (fail_if_no_progress (apply keeps_mk; on_goal 2 => (constructor <;> first | exact .inr (by decide) | exact .inl rfl)))
    | split

theorem State_doEnable_keeps {m_ : Nat} (hm : maskIn 1048575 m_ = true) {s_ s : State} (h_ : Keeps m_ s_ s) (c : Ctx) (op : Nat) (recs0 : List EnRec) (dangling : Bool) : Keeps m_ s_ (State.doEnable s c op recs0 dangling).2 := by
  refine Keeps.after hm h_ ?_
  clear hm h_
  unfold State.doEnable
  repeat' with_reducible first
    | assumption
    | exact Keeps.refl _ _
    | (show maskIn _ _ = true; decide)
    | apply State_addDetails_keeps
    | apply State_askChain_keeps
    | apply State_await_keeps
    | apply State_chainPost_keeps
    | apply State_commitChain_keeps
    | apply State_mirrorSets_keeps
    | apply State_recordRefused_keeps
    | apply State_refuseChain_keeps
    | apply keepsR_next
    | apply keeps_ite
    | apply keepsR_ite
    | apply keeps_ite2
    | apply keeps_foldl
    | apply keeps_foldl2
    | apply keeps_foldl3
    | intro _
    | dsimp only
    | (fail_if_no_progress (apply keeps_mk; on_goal 2 => (constructor <;> first | exact .inr (by decide) | exact .inl rfl)))
    | split

theorem State_resumeCommit_keeps {m_ : Nat} (hm : maskIn 1048575 m_ = true) {s_ s : State} (h_ : Keeps m_ s_ s) (w : Waiter) : Keeps m_ s_ (State.resumeCommit s w) := by
  refine Keeps.after hm h_ ?_
  clear hm h_
  unfold State.resumeCommit
  repeat' with_reducible first
    | assumption
    | exact Keeps.refl _ _
    | (show maskIn _ _ = true; decide)
    | apply State_addDetails_keeps
    | apply State_answerAt_keeps
    | apply State_await_keeps
    | apply State_commitChain_keeps
    | apply State_finishWait_keeps
    | apply State_mirror_keeps
    | apply State_refuseChain_keeps
    | apply State_syncSubs_keeps
    | apply keepsR_next
    | apply keeps_ite
    | apply keepsR_ite
    | apply keeps_ite2
    | apply keeps_foldl
    | apply keeps_foldl2
    | apply keeps_foldl3
    | intro _
    | dsimp only
    | (fail_if_no_progress (apply keeps_mk; on_goal 2 => (constructor <;> first | exact .inr (by decide) | exact .inl rfl)))
    | split

theorem State_resumePort_keeps {m_ : Nat} (hm : maskIn 560079 m_ = true) {s_ s : State} (h_ : Keeps m_ s_ s) (w : Waiter) : Keeps m_ s_ (State.resumePort s w) := by
  refine Keeps.after hm h_ ?_
  clear hm h_
  unfold State.resumePort
  repeat' with_reducible first
    | assumption
    | exact Keeps.refl _ _
    | (show maskIn _ _ = true; decide)
    | apply State_portApply_keeps
    | apply State_settle_keeps
    | apply State_syncSubs_keeps
    | apply keepsR_next
    | apply keeps_ite
    | apply keepsR_ite
    | apply keeps_ite2
    | apply keeps_foldl
    | apply keeps_foldl2
    | apply keeps_foldl3
    | intro _
    | dsimp only
    | (fail_if_no_progress (apply keeps_mk; on_goal 2 => (constructor <;> first | exact .inr (by decide) | exact .inl rfl)))
    | split

theorem State_wakeWaits_keeps {m_ : Nat} (hm : maskIn 1048575 m_ = true) {s_ s : State} (h_ : Keeps m_ s_ s)  : Keeps m_ s_ (State.wakeWaits s) := by
  refine Keeps.after hm h_ ?_
  clear hm h_
  unfold State.wakeWaits
  repeat' with_reducible first
    | assumption
    | exact Keeps.refl _ _
    | (show maskIn _ _ = true; decide)
    | apply State_resumeCommit_keeps
    | apply State_resumePort_keeps
    | apply keepsR_next
    | apply keeps_ite
    | apply keepsR_ite
    | apply keeps_ite2
    | apply keeps_foldl
    | apply keeps_foldl2
    | apply keeps_foldl3
    | intro _
    | dsimp only
    | (fail_if_no_progress (apply keeps_mk; on_goal 2 => (constructor <;> first | exact .inr (by decide) | exact .inl rfl)))
    | split

theorem State_waitsAnswered_keeps {m_ : Nat} (hm : maskIn 1048575 m_ = true) {s_ s : State} (h_ : Keeps m_ s_ s) (j : Nat) (reqId : Nat) : Keeps m_ s_ (State.waitsAnswered s j reqId) := by
  refine Keeps.after hm h_ ?_
  clear hm h_
  unfold State.waitsAnswered
  repeat' with_reducible first
    | assumption
    | exact Keeps.refl _ _
    | (show maskIn _ _ = true; decide)
    | apply State_wakeWaits_keeps
    | apply keepsR_next
    | apply keeps_ite
    | apply keepsR_ite
    | apply keeps_ite2
    | apply keeps_foldl
    | apply keeps_foldl2
    | apply keeps_foldl3
    | intro _
    | dsimp only
    | (fail_if_no_progress (apply keeps_mk; on_goal 2 => (constructor <;> first | exact .inr (by decide) | exact .inl rfl)))
    | split

end Sys2Proof.Machine
end

