-- ==== Sys2Proof/Laws/KeepsTakeRing.lean ====
section
/-! SUPPORT. TakeRing: what every operation keeps. -/

namespace Sys2Proof.Machine

theorem State_ringSkip_keeps {m_ : Nat} (hm : maskIn 2 m_ = true) {s_ s : State} (h_ : Keeps m_ s_ s) (n : Nat) (k : Nat) : Keeps m_ s_ (State.ringSkip s n k) := by
  refine Keeps.after hm h_ ?_
  clear hm h_
  unfold State.ringSkip
  repeat' with_reducible first
    | assumption
    | exact Keeps.refl _ _
    | (show maskIn _ _ = true; decide)
    | apply setReg_keeps
    | apply keepsR_next
    | apply keeps_ite
    | apply keepsR_ite
    | apply keeps_ite2
    | apply keeps_foldl
    | apply keeps_foldl2
    | apply keeps_foldl3
    | intro _
    | dsimp only
    | (fail_if_no_progress (apply keeps_mk; on_goal 2 => (constructor <;> first | exact .inr (by decide) | exact .inl rfl)))
    | split

theorem State_setDrop_keeps {m_ : Nat} (hm : maskIn 1024 m_ = true) {s_ s : State} (h_ : Keeps m_ s_ s) (n : Nat) (v : Bool) : Keeps m_ s_ (State.setDrop s n v) := by
  refine Keeps.after hm h_ ?_
  clear hm h_
  unfold State.setDrop
  repeat' with_reducible first
    | assumption
    | exact Keeps.refl _ _
    | (show maskIn _ _ = true; decide)
    | apply keepsR_next
    | apply keeps_ite
    | apply keepsR_ite
    | apply keeps_ite2
    | apply keeps_foldl
    | apply keeps_foldl2
    | apply keeps_foldl3
    | intro _
    | dsimp only
    | (fail_if_no_progress (apply keeps_mk; on_goal 2 => (constructor <;> first | exact .inr (by decide) | exact .inl rfl)))
    | split

theorem State_ringFlush_keeps {m_ : Nat} (hm : maskIn 1026 m_ = true) {s_ s : State} (h_ : Keeps m_ s_ s) (n : Nat) : Keeps m_ s_ (State.ringFlush s n) := by
  refine Keeps.after hm h_ ?_
  clear hm h_
  unfold State.ringFlush
  repeat' with_reducible first
    | assumption
    | exact Keeps.refl _ _
    | (show maskIn _ _ = true; decide)
    | apply State_ringSkip_keeps
    | apply State_setDrop_keeps
    | apply keepsR_next
    | apply keeps_ite
    | apply keepsR_ite
    | apply keeps_ite2
    | apply keeps_foldl
    | apply keeps_foldl2
    | apply keeps_foldl3
    | intro _
    | dsimp only
    | (fail_if_no_progress (apply keeps_mk; on_goal 2 => (constructor <;> first | exact .inr (by decide) | exact .inl rfl)))
    | split

theorem State_ringServe_keeps {m_ : Nat} (hm : maskIn 165775 m_ = true) {s_ s : State} (h_ : Keeps m_ s_ s) (n : Nat) : Keeps m_ s_ (State.ringServe s n) := by
  refine Keeps.after hm h_ ?_
  clear hm h_
  unfold State.ringServe
  repeat' with_reducible first
    | assumption
    | exact Keeps.refl _ _
    | (show maskIn _ _ = true; decide)
    | apply State_arriveBatch_keeps
    | apply State_ringSkip_keeps
    | apply State_setDrop_keeps
    | apply keepsR_next
    | apply keeps_ite
    | apply keepsR_ite
    | apply keeps_ite2
    | apply keeps_foldl
    | apply keeps_foldl2
    | apply keeps_foldl3
    | intro _
    | dsimp only
    | (fail_if_no_progress (apply keeps_mk; on_goal 2 => (constructor <;> first | exact .inr (by decide) | exact .inl rfl)))
    | split

theorem execTakeRingTail_keeps {m_ : Nat} (hm : maskIn 2 m_ = true) {s_ s : State} (h_ : Keeps m_ s_ s) (n : Fin 4) (w : Word) : KeepsR m_ s_ (execTakeRingTail n w s) := by
  refine KeepsR.after hm h_ ?_
  clear hm h_
  unfold execTakeRingTail
  repeat' with_reducible first
    | assumption
    | exact Keeps.refl _ _
    | (show maskIn _ _ = true; decide)
    | apply setReg_keeps
    | apply keepsR_next
    | apply keeps_ite
    | apply keepsR_ite
    | apply keeps_ite2
    | apply keeps_foldl
    | apply keeps_foldl2
    | apply keeps_foldl3
    | intro _
    | dsimp only
    | (fail_if_no_progress (apply keeps_mk; on_goal 2 => (constructor <;> first | exact .inr (by decide) | exact .inl rfl)))
    | split

theorem execBatchDecode_keeps {m_ : Nat} (hm : maskIn 165807 m_ = true) {s_ s0 : State} (h_ : Keeps m_ s_ s0) (n : Fin 4) (at_ : Nat) : KeepsR m_ s_ (execBatchDecode n at_ s0) := by
  refine KeepsR.after hm h_ ?_
  clear hm h_
  unfold execBatchDecode
  repeat' with_reducible first
    | assumption
    | exact Keeps.refl _ _
    | (show maskIn _ _ = true; decide)
    | apply State_ringFlush_keeps
    | apply State_ringServe_keeps
    | apply State_toTick_keeps
    | apply keepsR_next
    | apply keeps_ite
    | apply keepsR_ite
    | apply keeps_ite2
    | apply keeps_foldl
    | apply keeps_foldl2
    | apply keeps_foldl3
    | intro _
    | dsimp only
    | (fail_if_no_progress (apply keeps_mk; on_goal 2 => (constructor <;> first | exact .inr (by decide) | exact .inl rfl)))
    | split

theorem execSwitchingLine_keeps {m_ : Nat} (hm : maskIn 231359 m_ = true) {s_ s0 : State} (h_ : Keeps m_ s_ s0) (o : Fin 128) (k : Nat) (at_ : Nat) : KeepsR m_ s_ (execSwitchingLine o k at_ s0) := by
  refine KeepsR.after hm h_ ?_
  clear hm h_
  unfold execSwitchingLine
  repeat' with_reducible first
    | assumption
    | exact Keeps.refl _ _
    | (show maskIn _ _ = true; decide)
    | apply State_switchOutput_keeps
    | apply State_syncSubs_keeps
    | apply State_toTick_keeps
    | apply keepsR_next
    | apply keeps_ite
    | apply keepsR_ite
    | apply keeps_ite2
    | apply keeps_foldl
    | apply keeps_foldl2
    | apply keeps_foldl3
    | intro _
    | dsimp only
    | (fail_if_no_progress (apply keeps_mk; on_goal 2 => (constructor <;> first | exact .inr (by decide) | exact .inl rfl)))
    | split

theorem State_subRefused_keeps {m_ : Nat} (hm : maskIn 1048575 m_ = true) {s_ s : State} (h_ : Keeps m_ s_ s) (i : Nat) (r : Nat) (reason : Nat) (a : SubAsk) : Keeps m_ s_ (State.subRefused s i r reason a) := by
  refine Keeps.after hm h_ ?_
  clear hm h_
  unfold State.subRefused
  repeat' with_reducible first
    | assumption
    | exact Keeps.refl _ _
    | (show maskIn _ _ = true; decide)
    | apply State_nakAsk_keeps
    | apply State_refuseWaits_keeps
    | apply State_syncSubs_keeps
    | apply State_takesNak_keeps
    | apply State_waitsAnswered_keeps
    | apply keepsR_next
    | apply keeps_ite
    | apply keepsR_ite
    | apply keeps_ite2
    | apply keeps_foldl
    | apply keeps_foldl2
    | apply keeps_foldl3
    | intro _
    | dsimp only
    | (fail_if_no_progress (apply keeps_mk; on_goal 2 => (constructor <;> first | exact .inr (by decide) | exact .inl rfl)))
    | split

theorem execSubAck_keeps {m_ : Nat} (hm : maskIn 1048575 m_ = true) {s_ s : State} (h_ : Keeps m_ s_ s) (j : Fin 12) (reqId : Half) (channel : Half) (charge : Word) (first : Nat) : KeepsR m_ s_ (execSubAck j reqId channel charge first s) := by
  refine KeepsR.after hm h_ ?_
  clear hm h_
  unfold execSubAck
  repeat' with_reducible first
    | assumption
    | exact Keeps.refl _ _
    | (show maskIn _ _ = true; decide)
    | apply State_ackAsk_keeps
    | apply State_subRefused_keeps
    | apply State_syncSubs_keeps
    | apply State_takesAck_keeps
    | apply State_waitsAnswered_keeps
    | apply keepsR_next
    | apply keeps_ite
    | apply keepsR_ite
    | apply keeps_ite2
    | apply keeps_foldl
    | apply keeps_foldl2
    | apply keeps_foldl3
    | intro _
    | dsimp only
    | (fail_if_no_progress (apply keeps_mk; on_goal 2 => (constructor <;> first | exact .inr (by decide) | exact .inl rfl)))
    | split

theorem execSubNak_keeps {m_ : Nat} (hm : maskIn 1048575 m_ = true) {s_ s : State} (h_ : Keeps m_ s_ s) (j : Fin 12) (reqId : Half) (reason : Byte) : KeepsR m_ s_ (execSubNak j reqId reason s) := by
  refine KeepsR.after hm h_ ?_
  clear hm h_
  unfold execSubNak
  repeat' with_reducible first
    | assumption
    | exact Keeps.refl _ _
    | (show maskIn _ _ = true; decide)
    | apply State_subRefused_keeps
    | apply keepsR_next
    | apply keeps_ite
    | apply keepsR_ite
    | apply keeps_ite2
    | apply keeps_foldl
    | apply keeps_foldl2
    | apply keeps_foldl3
    | intro _
    | dsimp only
    | (fail_if_no_progress (apply keeps_mk; on_goal 2 => (constructor <;> first | exact .inr (by decide) | exact .inl rfl)))
    | split

end Sys2Proof.Machine
end

