-- ==== Sys2Proof/Laws/KeepsRwt.lean ====
section
/-! SUPPORT. Rwt: what every operation keeps. -/

namespace Sys2Proof.Machine

theorem State_rwtMerge_keeps {m_ : Nat} (hm : maskIn 1025 m_ = true) {s_ s : State} (h_ : Keeps m_ s_ s) (o : Nat) (k : Nat) (ta : Nat) (origin : Nat) (r : TakeRec) (chans : List (Nat × Nat)) (asks : List (Nat × Nat)) : Keeps m_ s_ (State.rwtMerge s o k ta origin r chans asks) := by
  refine Keeps.after hm h_ ?_
  clear hm h_
  unfold State.rwtMerge
  repeat' with_reducible first
    | assumption
    | exact Keeps.refl _ _
    | (show maskIn _ _ = true; decide)
    | apply State_pendObj_keeps
    | apply State_setBatches_keeps
    | apply keepsR_next
    | apply keeps_ite
    | apply keepsR_ite
    | apply keeps_ite2
    | apply keeps_foldl
    | apply keeps_foldl2
    | apply keeps_foldl3
    | intro _
    | dsimp only
    | (fail_if_no_progress (apply keeps_mk; on_goal 2 => (constructor <;> first | exact .inr (by decide) | exact .inl rfl)))
    | split

theorem State_rwtWrite_keeps {m_ : Nat} (hm : maskIn 164873 m_ = true) {s_ s : State} (h_ : Keeps m_ s_ s) (o : Nat) (sub : Nat) (v : Nat) : Keeps m_ s_ (State.rwtWrite s o sub v).2 := by
  refine Keeps.after hm h_ ?_
  clear hm h_
  unfold State.rwtWrite
  repeat' with_reducible first
    | assumption
    | exact Keeps.refl _ _
    | (show maskIn _ _ = true; decide)
    | apply State_askNeeds_keeps
    | apply State_mirror_keeps
    | apply State_rwtMerge_keeps
    | apply keepsR_next
    | apply keeps_ite
    | apply keepsR_ite
    | apply keeps_ite2
    | apply keeps_foldl
    | apply keeps_foldl2
    | apply keeps_foldl3
    | intro _
    | dsimp only
    | (fail_if_no_progress (apply keeps_mk; on_goal 2 => (constructor <;> first | exact .inr (by decide) | exact .inl rfl)))
    | split

end Sys2Proof.Machine
end

