-- ==== Sys2Proof/Laws/KeepsTwin.lean ====
section
/-! SUPPORT. Twin: what every operation keeps. -/

namespace Sys2Proof.Machine

theorem State_setTw_keeps {m_ : Nat} (hm : maskIn 131072 m_ = true) {s_ s : State} (h_ : Keeps m_ s_ s) (t : TwinSt) : Keeps m_ s_ (State.setTw s t) := by
  refine Keeps.after hm h_ ?_
  clear hm h_
  unfold State.setTw
  repeat' with_reducible first
    | assumption
    | exact Keeps.refl _ _
    | (show maskIn _ _ = true; decide)
    | apply keepsR_next
    | apply keeps_ite
    | apply keepsR_ite
    | apply keeps_ite2
    | apply keeps_foldl
    | apply keeps_foldl2
    | apply keeps_foldl3
    | intro _
    | dsimp only
    | (fail_if_no_progress (apply keeps_mk; on_goal 2 => (constructor <;> first | exact .inr (by decide) | exact .inl rfl)))
    | split

theorem State_hbCheck_keeps {m_ : Nat} (hm : maskIn 907 m_ = true) {s_ s : State} (h_ : Keeps m_ s_ s)  : Keeps m_ s_ (State.hbCheck s) := by
  refine Keeps.after hm h_ ?_
  clear hm h_
  unfold State.hbCheck
  repeat' with_reducible first
    | assumption
    | exact Keeps.refl _ _
    | (show maskIn _ _ = true; decide)
    | apply State_raise_keeps
    | apply State_setNum_keeps
    | apply keepsR_next
    | apply keeps_ite
    | apply keepsR_ite
    | apply keeps_ite2
    | apply keeps_foldl
    | apply keeps_foldl2
    | apply keeps_foldl3
    | intro _
    | dsimp only
    | (fail_if_no_progress (apply keeps_mk; on_goal 2 => (constructor <;> first | exact .inr (by decide) | exact .inl rfl)))
    | split

theorem State_partnerObjs_keeps {m_ : Nat} (hm : maskIn 1 m_ = true) {s_ s : State} (h_ : Keeps m_ s_ s)  : Keeps m_ s_ (State.partnerObjs s) := by
  refine Keeps.after hm h_ ?_
  clear hm h_
  unfold State.partnerObjs
  repeat' with_reducible first
    | assumption
    | exact Keeps.refl _ _
    | (show maskIn _ _ = true; decide)
    | apply State_setNum_keeps
    | apply keepsR_next
    | apply keeps_ite
    | apply keepsR_ite
    | apply keeps_ite2
    | apply keeps_foldl
    | apply keeps_foldl2
    | apply keeps_foldl3
    | intro _
    | dsimp only
    | (fail_if_no_progress (apply keeps_mk; on_goal 2 => (constructor <;> first | exact .inr (by decide) | exact .inl rfl)))
    | split

theorem State_wtrCheck_keeps {m_ : Nat} (hm : maskIn 131072 m_ = true) {s_ s : State} (h_ : Keeps m_ s_ s)  : Keeps m_ s_ (State.wtrCheck s) := by
  refine Keeps.after hm h_ ?_
  clear hm h_
  unfold State.wtrCheck
  repeat' with_reducible first
    | assumption
    | exact Keeps.refl _ _
    | (show maskIn _ _ = true; decide)
    | apply State_setTw_keeps
    | apply keepsR_next
    | apply keeps_ite
    | apply keepsR_ite
    | apply keeps_ite2
    | apply keeps_foldl
    | apply keeps_foldl2
    | apply keeps_foldl3
    | intro _
    | dsimp only
    | (fail_if_no_progress (apply keeps_mk; on_goal 2 => (constructor <;> first | exact .inr (by decide) | exact .inl rfl)))
    | split

theorem State_joinStart_keeps {m_ : Nat} (hm : maskIn 131081 m_ = true) {s_ s : State} (h_ : Keeps m_ s_ s)  : Keeps m_ s_ (State.joinStart s) := by
  refine Keeps.after hm h_ ?_
  clear hm h_
  unfold State.joinStart
  repeat' with_reducible first
    | assumption
    | exact Keeps.refl _ _
    | (show maskIn _ _ = true; decide)
    | apply State_setTw_keeps
    | apply State_tlSend_keeps
    | apply keepsR_next
    | apply keeps_ite
    | apply keepsR_ite
    | apply keeps_ite2
    | apply keeps_foldl
    | apply keeps_foldl2
    | apply keeps_foldl3
    | intro _
    | dsimp only
    | (fail_if_no_progress (apply keeps_mk; on_goal 2 => (constructor <;> first | exact .inr (by decide) | exact .inl rfl)))
    | split

theorem State_toJoining_keeps {m_ : Nat} (hm : maskIn 131979 m_ = true) {s_ s : State} (h_ : Keeps m_ s_ s)  : Keeps m_ s_ (State.toJoining s) := by
  refine Keeps.after hm h_ ?_
  clear hm h_
  unfold State.toJoining
  repeat' with_reducible first
    | assumption
    | exact Keeps.refl _ _
    | (show maskIn _ _ = true; decide)
    | apply State_joinStart_keeps
    | apply State_setTwin_keeps
    | apply keepsR_next
    | apply keeps_ite
    | apply keepsR_ite
    | apply keeps_ite2
    | apply keeps_foldl
    | apply keeps_foldl2
    | apply keeps_foldl3
    | intro _
    | dsimp only
    | (fail_if_no_progress (apply keeps_mk; on_goal 2 => (constructor <;> first | exact .inr (by decide) | exact .inl rfl)))
    | split

theorem State_twinSettle_keeps {m_ : Nat} (hm : maskIn 131979 m_ = true) {s_ s : State} (h_ : Keeps m_ s_ s)  : Keeps m_ s_ (State.twinSettle s) := by
  refine Keeps.after hm h_ ?_
  clear hm h_
  unfold State.twinSettle
  repeat' with_reducible first
    | assumption
    | exact Keeps.refl _ _
    | (show maskIn _ _ = true; decide)
    | apply State_setTwin_keeps
    | apply State_toJoining_keeps
    | apply keepsR_next
    | apply keeps_ite
    | apply keepsR_ite
    | apply keeps_ite2
    | apply keeps_foldl
    | apply keeps_foldl2
    | apply keeps_foldl3
    | intro _
    | dsimp only
    | (fail_if_no_progress (apply keeps_mk; on_goal 2 => (constructor <;> first | exact .inr (by decide) | exact .inl rfl)))
    | split

theorem State_twinFaults_keeps {m_ : Nat} (hm : maskIn 657295 m_ = true) {s_ s : State} (h_ : Keeps m_ s_ s)  : Keeps m_ s_ (State.twinFaults s) := by
  refine Keeps.after hm h_ ?_
  clear hm h_
  unfold State.twinFaults
  repeat' with_reducible first
    | assumption
    | exact Keeps.refl _ _
    | (show maskIn _ _ = true; decide)
    | apply State_conditionEnd_keeps
    | apply State_report_keeps
    | apply State_setTw_keeps
    | apply State_toJoining_keeps
    | apply keepsR_next
    | apply keeps_ite
    | apply keepsR_ite
    | apply keeps_ite2
    | apply keeps_foldl
    | apply keeps_foldl2
    | apply keeps_foldl3
    | intro _
    | dsimp only
    | (fail_if_no_progress (apply keeps_mk; on_goal 2 => (constructor <;> first | exact .inr (by decide) | exact .inl rfl)))
    | split

theorem State_twinCheck_keeps {m_ : Nat} (hm : maskIn 657295 m_ = true) {s_ s : State} (h_ : Keeps m_ s_ s)  : Keeps m_ s_ (State.twinCheck s) := by
  refine Keeps.after hm h_ ?_
  clear hm h_
  unfold State.twinCheck
  repeat' with_reducible first
    | assumption
    | exact Keeps.refl _ _
    | (show maskIn _ _ = true; decide)
    | apply State_hbCheck_keeps
    | apply State_partnerObjs_keeps
    | apply State_twinFaults_keeps
    | apply State_wtrCheck_keeps
    | apply keepsR_next
    | apply keeps_ite
    | apply keepsR_ite
    | apply keeps_ite2
    | apply keeps_foldl
    | apply keeps_foldl2
    | apply keeps_foldl3
    | intro _
    | dsimp only
    | (fail_if_no_progress (apply keeps_mk; on_goal 2 => (constructor <;> first | exact .inr (by decide) | exact .inl rfl)))
    | split

theorem State_abandon_keeps {m_ : Nat} (hm : maskIn 131979 m_ = true) {s_ s : State} (h_ : Keeps m_ s_ s) (cause : Nat) : Keeps m_ s_ (State.abandon s cause) := by
  refine Keeps.after hm h_ ?_
  clear hm h_
  unfold State.abandon
  repeat' with_reducible first
    | assumption
    | exact Keeps.refl _ _
    | (show maskIn _ _ = true; decide)
    | apply State_raise_keeps
    | apply State_setTw_keeps
    | apply State_setTwin_keeps
    | apply keepsR_next
    | apply keeps_ite
    | apply keepsR_ite
    | apply keeps_ite2
    | apply keeps_foldl
    | apply keeps_foldl2
    | apply keeps_foldl3
    | intro _
    | dsimp only
    | (fail_if_no_progress (apply keeps_mk; on_goal 2 => (constructor <;> first | exact .inr (by decide) | exact .inl rfl)))
    | split

theorem State_tlDown_keeps {m_ : Nat} (hm : maskIn 1048575 m_ = true) {s_ s : State} (h_ : Keeps m_ s_ s) (cause : Nat) : Keeps m_ s_ (State.tlDown s cause) := by
  refine Keeps.after hm h_ ?_
  clear hm h_
  unfold State.tlDown
  repeat' with_reducible first
    | assumption
    | exact Keeps.refl _ _
    | (show maskIn _ _ = true; decide)
    | apply State_abandon_keeps
    | apply State_bump_keeps
    | apply State_raise_keeps
    | apply State_refAbsent_keeps
    | apply State_setBit_keeps
    | apply State_setNum_keeps
    | apply State_setPtp_keeps
    | apply State_setTw_keeps
    | apply State_setTwin_keeps
    | apply State_twinCheck_keeps
    | apply State_wakeWaits_keeps
    | apply keepsR_next
    | apply keeps_ite
    | apply keepsR_ite
    | apply keeps_ite2
    | apply keeps_foldl
    | apply keeps_foldl2
    | apply keeps_foldl3
    | intro _
    | dsimp only
    | (fail_if_no_progress (apply keeps_mk; on_goal 2 => (constructor <;> first | exact .inr (by decide) | exact .inl rfl)))
    | split

theorem State_partnerClaims_keeps {m_ : Nat} (hm : maskIn 131979 m_ = true) {s_ s : State} (h_ : Keeps m_ s_ s)  : Keeps m_ s_ (State.partnerClaims s) := by
  refine Keeps.after hm h_ ?_
  clear hm h_
  unfold State.partnerClaims
  repeat' with_reducible first
    | assumption
    | exact Keeps.refl _ _
    | (show maskIn _ _ = true; decide)
    | apply State_bump_keeps
    | apply State_evalGate_keeps
    | apply State_lowerClaim_keeps
    | apply State_raise_keeps
    | apply State_setBit_keeps
    | apply State_setTw_keeps
    | apply keepsR_next
    | apply keeps_ite
    | apply keepsR_ite
    | apply keeps_ite2
    | apply keeps_foldl
    | apply keeps_foldl2
    | apply keeps_foldl3
    | intro _
    | dsimp only
    | (fail_if_no_progress (apply keeps_mk; on_goal 2 => (constructor <;> first | exact .inr (by decide) | exact .inl rfl)))
    | split

theorem execPartnerClaimChange_keeps {m_ : Nat} (hm : maskIn 657327 m_ = true) {s_ s0 : State} (h_ : Keeps m_ s_ s0) (high : Bool) (at_ : Nat) : KeepsR m_ s_ (execPartnerClaimChange high at_ s0) := by
  refine KeepsR.after hm h_ ?_
  clear hm h_
  unfold execPartnerClaimChange
  repeat' with_reducible first
    | assumption
    | exact Keeps.refl _ _
    | (show maskIn _ _ = true; decide)
    | apply State_evalGate_keeps
    | apply State_partnerClaims_keeps
    | apply State_setTw_keeps
    | apply State_toTick_keeps
    | apply State_twinCheck_keeps
    | apply keepsR_next
    | apply keeps_ite
    | apply keepsR_ite
    | apply keeps_ite2
    | apply keeps_foldl
    | apply keeps_foldl2
    | apply keeps_foldl3
    | intro _
    | dsimp only
    | (fail_if_no_progress (apply keeps_mk; on_goal 2 => (constructor <;> first | exact .inr (by decide) | exact .inl rfl)))
    | split

theorem execRefereeGrantChange_keeps {m_ : Nat} (hm : maskIn 919471 m_ = true) {s_ s0 : State} (h_ : Keeps m_ s_ s0) (high : Bool) (at_ : Nat) : KeepsR m_ s_ (execRefereeGrantChange high at_ s0) := by
  refine KeepsR.after hm h_ ?_
  clear hm h_
  unfold execRefereeGrantChange
  repeat' with_reducible first
    | assumption
    | exact Keeps.refl _ _
    | (show maskIn _ _ = true; decide)
    | apply State_evalGate_keeps
    | apply State_lowerClaim_keeps
    | apply State_raise_keeps
    | apply State_setTw_keeps
    | apply State_toTick_keeps
    | apply State_twinCheck_keeps
    | apply State_wakeSource_keeps
    | apply keepsR_next
    | apply keeps_ite
    | apply keepsR_ite
    | apply keeps_ite2
    | apply keeps_foldl
    | apply keeps_foldl2
    | apply keeps_foldl3
    | intro _
    | dsimp only
    | (fail_if_no_progress (apply keeps_mk; on_goal 2 => (constructor <;> first | exact .inr (by decide) | exact .inl rfl)))
    | split

theorem execBatonClaimRaise_keeps {m_ : Nat} (hm : maskIn 657327 m_ = true) {s_ s0 : State} (h_ : Keeps m_ s_ s0) (at_ : Nat) : KeepsR m_ s_ (execBatonClaimRaise at_ s0) := by
  refine KeepsR.after hm h_ ?_
  clear hm h_
  unfold execBatonClaimRaise
  repeat' with_reducible first
    | assumption
    | exact Keeps.refl _ _
    | (show maskIn _ _ = true; decide)
    | apply State_evalGate_keeps
    | apply State_setTw_keeps
    | apply State_setTwin_keeps
    | apply State_toTick_keeps
    | apply State_twinCheck_keeps
    | apply keepsR_next
    | apply keeps_ite
    | apply keepsR_ite
    | apply keeps_ite2
    | apply keeps_foldl
    | apply keeps_foldl2
    | apply keeps_foldl3
    | intro _
    | dsimp only
    | (fail_if_no_progress (apply keeps_mk; on_goal 2 => (constructor <;> first | exact .inr (by decide) | exact .inl rfl)))
    | split

theorem execClaimTimeout_keeps {m_ : Nat} (hm : maskIn 657327 m_ = true) {s_ s0 : State} (h_ : Keeps m_ s_ s0) (at_ : Nat) : KeepsR m_ s_ (execClaimTimeout at_ s0) := by
  refine KeepsR.after hm h_ ?_
  clear hm h_
  unfold execClaimTimeout
  repeat' with_reducible first
    | assumption
    | exact Keeps.refl _ _
    | (show maskIn _ _ = true; decide)
    | apply State_lowerClaim_keeps
    | apply State_raise_keeps
    | apply State_setTw_keeps
    | apply State_toTick_keeps
    | apply State_twinCheck_keeps
    | apply keepsR_next
    | apply keeps_ite
    | apply keepsR_ite
    | apply keeps_ite2
    | apply keeps_foldl
    | apply keeps_foldl2
    | apply keeps_foldl3
    | intro _
    | dsimp only
    | (fail_if_no_progress (apply keeps_mk; on_goal 2 => (constructor <;> first | exact .inr (by decide) | exact .inl rfl)))
    | split

theorem execHeartbeatPulse_keeps {m_ : Nat} (hm : maskIn 657327 m_ = true) {s_ s0 : State} (h_ : Keeps m_ s_ s0) (confirmed : Bool) (at_ : Nat) : KeepsR m_ s_ (execHeartbeatPulse confirmed at_ s0) := by
  refine KeepsR.after hm h_ ?_
  clear hm h_
  unfold execHeartbeatPulse
  repeat' with_reducible first
    | assumption
    | exact Keeps.refl _ _
    | (show maskIn _ _ = true; decide)
    | apply State_emit_keeps
    | apply State_setTw_keeps
    | apply State_toTick_keeps
    | apply State_twinCheck_keeps
    | apply keepsR_next
    | apply keeps_ite
    | apply keepsR_ite
    | apply keeps_ite2
    | apply keeps_foldl
    | apply keeps_foldl2
    | apply keeps_foldl3
    | intro _
    | dsimp only
    | (fail_if_no_progress (apply keeps_mk; on_goal 2 => (constructor <;> first | exact .inr (by decide) | exact .inl rfl)))
    | split

theorem execHealthConfirmLapse_keeps {m_ : Nat} (hm : maskIn 657327 m_ = true) {s_ s0 : State} (h_ : Keeps m_ s_ s0) (at_ : Nat) : KeepsR m_ s_ (execHealthConfirmLapse at_ s0) := by
  refine KeepsR.after hm h_ ?_
  clear hm h_
  unfold execHealthConfirmLapse
  repeat' with_reducible first
    | assumption
    | exact Keeps.refl _ _
    | (show maskIn _ _ = true; decide)
    | apply State_setTw_keeps
    | apply State_toTick_keeps
    | apply State_twinCheck_keeps
    | apply keepsR_next
    | apply keeps_ite
    | apply keepsR_ite
    | apply keeps_ite2
    | apply keeps_foldl
    | apply keeps_foldl2
    | apply keeps_foldl3
    | intro _
    | dsimp only
    | (fail_if_no_progress (apply keeps_mk; on_goal 2 => (constructor <;> first | exact .inr (by decide) | exact .inl rfl)))
    | split

theorem execHandoverHoldLimit_keeps {m_ : Nat} (hm : maskIn 131104 m_ = true) {s_ s0 : State} (h_ : Keeps m_ s_ s0) (at_ : Nat) : KeepsR m_ s_ (execHandoverHoldLimit at_ s0) := by
  refine KeepsR.after hm h_ ?_
  clear hm h_
  unfold execHandoverHoldLimit
  repeat' with_reducible first
    | assumption
    | exact Keeps.refl _ _
    | (show maskIn _ _ = true; decide)
    | apply State_setTw_keeps
    | apply State_toTick_keeps
    | apply keepsR_next
    | apply keeps_ite
    | apply keepsR_ite
    | apply keeps_ite2
    | apply keeps_foldl
    | apply keeps_foldl2
    | apply keeps_foldl3
    | intro _
    | dsimp only
    | (fail_if_no_progress (apply keeps_mk; on_goal 2 => (constructor <;> first | exact .inr (by decide) | exact .inl rfl)))
    | split

theorem State_sendRevert_keeps {m_ : Nat} (hm : maskIn 131081 m_ = true) {s_ s : State} (h_ : Keeps m_ s_ s)  : Keeps m_ s_ (State.sendRevert s) := by
  refine Keeps.after hm h_ ?_
  clear hm h_
  unfold State.sendRevert
  repeat' with_reducible first
    | assumption
    | exact Keeps.refl _ _
    | (show maskIn _ _ = true; decide)
    | apply State_setTw_keeps
    | apply State_tlSend_keeps
    | apply keepsR_next
    | apply keeps_ite
    | apply keepsR_ite
    | apply keeps_ite2
    | apply keeps_foldl
    | apply keeps_foldl2
    | apply keeps_foldl3
    | intro _
    | dsimp only
    | (fail_if_no_progress (apply keeps_mk; on_goal 2 => (constructor <;> first | exact .inr (by decide) | exact .inl rfl)))
    | split

theorem execRevertWtrExpiry_keeps {m_ : Nat} (hm : maskIn 657327 m_ = true) {s_ s0 : State} (h_ : Keeps m_ s_ s0) (at_ : Nat) : KeepsR m_ s_ (execRevertWtrExpiry at_ s0) := by
  refine KeepsR.after hm h_ ?_
  clear hm h_
  unfold execRevertWtrExpiry
  repeat' with_reducible first
    | assumption
    | exact Keeps.refl _ _
    | (show maskIn _ _ = true; decide)
    | apply State_sendRevert_keeps
    | apply State_toTick_keeps
    | apply State_twinCheck_keeps
    | apply keepsR_next
    | apply keeps_ite
    | apply keepsR_ite
    | apply keeps_ite2
    | apply keeps_foldl
    | apply keeps_foldl2
    | apply keeps_foldl3
    | intro _
    | dsimp only
    | (fail_if_no_progress (apply keeps_mk; on_goal 2 => (constructor <;> first | exact .inr (by decide) | exact .inl rfl)))
    | split

theorem execRevertAckTimeout_keeps {m_ : Nat} (hm : maskIn 132010 m_ = true) {s_ s0 : State} (h_ : Keeps m_ s_ s0) (at_ : Nat) : KeepsR m_ s_ (execRevertAckTimeout at_ s0) := by
  refine KeepsR.after hm h_ ?_
  clear hm h_
  unfold execRevertAckTimeout
  repeat' with_reducible first
    | assumption
    | exact Keeps.refl _ _
    | (show maskIn _ _ = true; decide)
    | apply State_raise_keeps
    | apply State_setTw_keeps
    | apply State_toTick_keeps
    | apply keepsR_next
    | apply keeps_ite
    | apply keepsR_ite
    | apply keeps_ite2
    | apply keeps_foldl
    | apply keeps_foldl2
    | apply keeps_foldl3
    | intro _
    | dsimp only
    | (fail_if_no_progress (apply keeps_mk; on_goal 2 => (constructor <;> first | exact .inr (by decide) | exact .inl rfl)))
    | split

theorem execRevertRetry_keeps {m_ : Nat} (hm : maskIn 657327 m_ = true) {s_ s0 : State} (h_ : Keeps m_ s_ s0) (at_ : Nat) : KeepsR m_ s_ (execRevertRetry at_ s0) := by
  refine KeepsR.after hm h_ ?_
  clear hm h_
  unfold execRevertRetry
  repeat' with_reducible first
    | assumption
    | exact Keeps.refl _ _
    | (show maskIn _ _ = true; decide)
    | apply State_sendRevert_keeps
    | apply State_toTick_keeps
    | apply State_twinCheck_keeps
    | apply keepsR_next
    | apply keeps_ite
    | apply keepsR_ite
    | apply keeps_ite2
    | apply keeps_foldl
    | apply keeps_foldl2
    | apply keeps_foldl3
    | intro _
    | dsimp only
    | (fail_if_no_progress (apply keeps_mk; on_goal 2 => (constructor <;> first | exact .inr (by decide) | exact .inl rfl)))
    | split

theorem execReleaseInstant_keeps {m_ : Nat} (hm : maskIn 657327 m_ = true) {s_ s0 : State} (h_ : Keeps m_ s_ s0) (at_ : Nat) : KeepsR m_ s_ (execReleaseInstant at_ s0) := by
  refine KeepsR.after hm h_ ?_
  clear hm h_
  unfold execReleaseInstant
  repeat' with_reducible first
    | assumption
    | exact Keeps.refl _ _
    | (show maskIn _ _ = true; decide)
    | apply State_lowerClaim_keeps
    | apply State_setTw_keeps
    | apply State_toTick_keeps
    | apply State_twinCheck_keeps
    | apply keepsR_next
    | apply keeps_ite
    | apply keepsR_ite
    | apply keeps_ite2
    | apply keeps_foldl
    | apply keeps_foldl2
    | apply keeps_foldl3
    | intro _
    | dsimp only
    | (fail_if_no_progress (apply keeps_mk; on_goal 2 => (constructor <;> first | exact .inr (by decide) | exact .inl rfl)))
    | split

theorem State_relinquishWrite_keeps {m_ : Nat} (hm : maskIn 657295 m_ = true) {s_ s : State} (h_ : Keeps m_ s_ s) (v : Nat) : Keeps m_ s_ (State.relinquishWrite s v).2 := by
  refine Keeps.after hm h_ ?_
  clear hm h_
  unfold State.relinquishWrite
  repeat' with_reducible first
    | assumption
    | exact Keeps.refl _ _
    | (show maskIn _ _ = true; decide)
    | apply State_setTw_keeps
    | apply State_setTwin_keeps
    | apply State_tlSend_keeps
    | apply State_twinCheck_keeps
    | apply keepsR_next
    | apply keeps_ite
    | apply keepsR_ite
    | apply keeps_ite2
    | apply keeps_foldl
    | apply keeps_foldl2
    | apply keeps_foldl3
    | intro _
    | dsimp only
    | (fail_if_no_progress (apply keeps_mk; on_goal 2 => (constructor <;> first | exact .inr (by decide) | exact .inl rfl)))
    | split

theorem execReleaseCheck_keeps {m_ : Nat} (hm : maskIn 657327 m_ = true) {s_ s0 : State} (h_ : Keeps m_ s_ s0) (at_ : Nat) : KeepsR m_ s_ (execReleaseCheck at_ s0) := by
  refine KeepsR.after hm h_ ?_
  clear hm h_
  unfold execReleaseCheck
  repeat' with_reducible first
    | assumption
    | exact Keeps.refl _ _
    | (show maskIn _ _ = true; decide)
    | apply State_abandon_keeps
    | apply State_toTick_keeps
    | apply State_twinCheck_keeps
    | apply keepsR_next
    | apply keeps_ite
    | apply keepsR_ite
    | apply keeps_ite2
    | apply keeps_foldl
    | apply keeps_foldl2
    | apply keeps_foldl3
    | intro _
    | dsimp only
    | (fail_if_no_progress (apply keeps_mk; on_goal 2 => (constructor <;> first | exact .inr (by decide) | exact .inl rfl)))
    | split

theorem State_tlAcked_keeps {m_ : Nat} (hm : maskIn 1048575 m_ = true) {s_ s : State} (h_ : Keeps m_ s_ s) (a : Nat) : Keeps m_ s_ (State.tlAcked s a) := by
  refine Keeps.after hm h_ ?_
  clear hm h_
  unfold State.tlAcked
  repeat' with_reducible first
    | assumption
    | exact Keeps.refl _ _
    | (show maskIn _ _ = true; decide)
    | apply State_setTw_keeps
    | apply State_tlEmit_keeps
    | apply State_wakeWaits_keeps
    | apply keepsR_next
    | apply keeps_ite
    | apply keepsR_ite
    | apply keeps_ite2
    | apply keeps_foldl
    | apply keeps_foldl2
    | apply keeps_foldl3
    | intro _
    | dsimp only
    | (fail_if_no_progress (apply keeps_mk; on_goal 2 => (constructor <;> first | exact .inr (by decide) | exact .inl rfl)))
    | split

theorem State_tlRecv_keeps {m_ : Nat} (hm : maskIn 1048575 m_ = true) {s_ s : State} (h_ : Keeps m_ s_ s) (h : TlHdr) (type size : Nat)
    (self : Instr) {body : State → State} (hb : ∀ x, Keeps m_ x (body x)) : Keeps m_ s_ (State.tlRecv s h type size self body) := by
  unfold State.tlRecv
  repeat' with_reducible first
    | assumption
    | exact Keeps.refl _ _
    | (show maskIn _ _ = true; first | exact maskIn_trans (by decide) hm | decide)
    | exact h_.trans (hb _)
    | apply hb
    | apply State_tlAcked_keeps
    | apply State_tlEmit_keeps
    | apply State_twinCheck_keeps
    | apply State_setTw_keeps
    | (refine Keeps.trans ?_ (hb _))
    | apply keeps_ite
    | apply keeps_foldl
    | apply keeps_foldl2
    | intro _
    | dsimp only
    | (fail_if_no_progress (apply keeps_mk; on_goal 2 => (constructor <;> first | exact .inr (bit_of_maskIn hm (by decide)) | exact .inl rfl)))
    | split

theorem execTlAck_keeps {m_ : Nat} (hm : maskIn 1048575 m_ = true) {s_ s : State} (h_ : Keeps m_ s_ s) (h : TlHdr) : KeepsR m_ s_ (execTlAck h s) := by
  refine KeepsR.after hm h_ ?_
  clear hm h_
  unfold execTlAck
  repeat' with_reducible first
    | assumption
    | exact Keeps.refl _ _
    | (show maskIn _ _ = true; decide)
    | apply State_tlAcked_keeps
    | apply keepsR_next
    | apply keeps_ite
    | apply keepsR_ite
    | apply keeps_ite2
    | apply keeps_foldl
    | apply keeps_foldl2
    | apply keeps_foldl3
    | intro _
    | dsimp only
    | (fail_if_no_progress (apply keeps_mk; on_goal 2 => (constructor <;> first | exact .inr (by decide) | exact .inl rfl)))
    | split

theorem execTlRetransmit_keeps {m_ : Nat} (hm : maskIn 1048575 m_ = true) {s_ s0 : State} (h_ : Keeps m_ s_ s0) (seq : Nat) (at_ : Nat) : KeepsR m_ s_ (execTlRetransmit seq at_ s0) := by
  refine KeepsR.after hm h_ ?_
  clear hm h_
  unfold execTlRetransmit
  repeat' with_reducible first
    | assumption
    | exact Keeps.refl _ _
    | (show maskIn _ _ = true; decide)
    | apply State_bump_keeps
    | apply State_rcAdd_keeps
    | apply State_setTw_keeps
    | apply State_tlDown_keeps
    | apply State_tlEmit_keeps
    | apply State_toTick_keeps
    | apply keepsR_next
    | apply keeps_ite
    | apply keepsR_ite
    | apply keeps_ite2
    | apply keeps_foldl
    | apply keeps_foldl2
    | apply keeps_foldl3
    | intro _
    | dsimp only
    | (fail_if_no_progress (apply keeps_mk; on_goal 2 => (constructor <;> first | exact .inr (by decide) | exact .inl rfl)))
    | split

theorem execTlStatusTimeout_keeps {m_ : Nat} (hm : maskIn 1048575 m_ = true) {s_ s0 : State} (h_ : Keeps m_ s_ s0) (at_ : Nat) : KeepsR m_ s_ (execTlStatusTimeout at_ s0) := by
  refine KeepsR.after hm h_ ?_
  clear hm h_
  unfold execTlStatusTimeout
  repeat' with_reducible first
    | assumption
    | exact Keeps.refl _ _
    | (show maskIn _ _ = true; decide)
    | apply State_tlDown_keeps
    | apply State_toTick_keeps
    | apply keepsR_next
    | apply keeps_ite
    | apply keepsR_ite
    | apply keeps_ite2
    | apply keeps_foldl
    | apply keeps_foldl2
    | apply keeps_foldl3
    | intro _
    | dsimp only
    | (fail_if_no_progress (apply keeps_mk; on_goal 2 => (constructor <;> first | exact .inr (by decide) | exact .inl rfl)))
    | split

theorem execTlPcsLoss_keeps {m_ : Nat} (hm : maskIn 1048575 m_ = true) {s_ s0 : State} (h_ : Keeps m_ s_ s0) (at_ : Nat) : KeepsR m_ s_ (execTlPcsLoss at_ s0) := by
  refine KeepsR.after hm h_ ?_
  clear hm h_
  unfold execTlPcsLoss
  repeat' with_reducible first
    | assumption
    | exact Keeps.refl _ _
    | (show maskIn _ _ = true; decide)
    | apply State_setTw_keeps
    | apply State_tlDown_keeps
    | apply State_toTick_keeps
    | apply keepsR_next
    | apply keeps_ite
    | apply keepsR_ite
    | apply keeps_ite2
    | apply keeps_foldl
    | apply keeps_foldl2
    | apply keeps_foldl3
    | intro _
    | dsimp only
    | (fail_if_no_progress (apply keeps_mk; on_goal 2 => (constructor <;> first | exact .inr (by decide) | exact .inl rfl)))
    | split

theorem execStatusSend_keeps {m_ : Nat} (hm : maskIn 131112 m_ = true) {s_ s0 : State} (h_ : Keeps m_ s_ s0) (at_ : Nat) : KeepsR m_ s_ (execStatusSend at_ s0) := by
  refine KeepsR.after hm h_ ?_
  clear hm h_
  unfold execStatusSend
  repeat' with_reducible first
    | assumption
    | exact Keeps.refl _ _
    | (show maskIn _ _ = true; decide)
    | apply State_setTw_keeps
    | apply State_tlEmit_keeps
    | apply State_toTick_keeps
    | apply keepsR_next
    | apply keeps_ite
    | apply keepsR_ite
    | apply keeps_ite2
    | apply keeps_foldl
    | apply keeps_foldl2
    | apply keeps_foldl3
    | intro _
    | dsimp only
    | (fail_if_no_progress (apply keeps_mk; on_goal 2 => (constructor <;> first | exact .inr (by decide) | exact .inl rfl)))
    | split

theorem State_twinOffset_keeps {m_ : Nat} (hm : maskIn 10171 m_ = true) {s_ s : State} (h_ : Keeps m_ s_ s) (b : TlStatusBody) (prevRx : Nat × Nat) : Keeps m_ s_ (State.twinOffset s b prevRx) := by
  refine Keeps.after hm h_ ?_
  clear hm h_
  unfold State.twinOffset
  repeat' with_reducible first
    | assumption
    | exact Keeps.refl _ _
    | (show maskIn _ _ = true; decide)
    | apply State_offsetSecond_keeps
    | apply State_setPtp_keeps
    | apply keepsR_next
    | apply keeps_ite
    | apply keepsR_ite
    | apply keeps_ite2
    | apply keeps_foldl
    | apply keeps_foldl2
    | apply keeps_foldl3
    | intro _
    | dsimp only
    | (fail_if_no_progress (apply keeps_mk; on_goal 2 => (constructor <;> first | exact .inr (by decide) | exact .inl rfl)))
    | split

theorem State_tlUp_keeps {m_ : Nat} (hm : maskIn 131979 m_ = true) {s_ s : State} (h_ : Keeps m_ s_ s) (serial : List Byte) : Keeps m_ s_ (State.tlUp s serial) := by
  refine Keeps.after hm h_ ?_
  clear hm h_
  unfold State.tlUp
  repeat' with_reducible first
    | assumption
    | exact Keeps.refl _ _
    | (show maskIn _ _ = true; decide)
    | apply State_raise_keeps
    | apply State_setBit_keeps
    | apply State_setBytes_keeps
    | apply State_setNum_keeps
    | apply State_setTw_keeps
    | apply State_twinSettle_keeps
    | apply keepsR_next
    | apply keeps_ite
    | apply keepsR_ite
    | apply keeps_ite2
    | apply keeps_foldl
    | apply keeps_foldl2
    | apply keeps_foldl3
    | intro _
    | dsimp only
    | (fail_if_no_progress (apply keeps_mk; on_goal 2 => (constructor <;> first | exact .inr (by decide) | exact .inl rfl)))
    | split

theorem execTlStatus_keeps {m_ : Nat} (hm : maskIn 1048575 m_ = true) {s_ s0 : State} (h_ : Keeps m_ s_ s0) (h : TlHdr) (b : TlStatusBody) (at_ : Nat) : KeepsR m_ s_ (execTlStatus h b at_ s0) := by
  refine KeepsR.after hm h_ ?_
  clear hm h_
  unfold execTlStatus
  repeat' with_reducible first
    | assumption
    | exact Keeps.refl _ _
    | (show maskIn _ _ = true; decide)
    | apply State_abandon_keeps
    | apply State_setTw_keeps
    | apply State_tlAcked_keeps
    | apply State_tlUp_keeps
    | apply State_toJoining_keeps
    | apply State_toTick_keeps
    | apply State_twinCheck_keeps
    | apply State_twinOffset_keeps
    | apply keepsR_next
    | apply keeps_ite
    | apply keepsR_ite
    | apply keeps_ite2
    | apply keeps_foldl
    | apply keeps_foldl2
    | apply keeps_foldl3
    | intro _
    | dsimp only
    | (fail_if_no_progress (apply keeps_mk; on_goal 2 => (constructor <;> first | exact .inr (by decide) | exact .inl rfl)))
    | split

theorem execTlRevert_keeps {m_ : Nat} (hm : maskIn 1048575 m_ = true) {s_ s0 : State} (h_ : Keeps m_ s_ s0) (h : TlHdr) (t : Nat) (at_ : Nat) : KeepsR m_ s_ (execTlRevert h t at_ s0) := by
  refine KeepsR.after hm h_ ?_
  clear hm h_
  unfold execTlRevert
  repeat' with_reducible first
    | assumption
    | exact Keeps.refl _ _
    | (show maskIn _ _ = true; decide)
    | apply State_raise_keeps
    | apply State_setTw_keeps
    | apply State_setTwin_keeps
    | apply State_tlRecv_keeps
    | apply State_tlSend_keeps
    | apply State_toTick_keeps
    | apply keepsR_next
    | apply keeps_ite
    | apply keepsR_ite
    | apply keeps_ite2
    | apply keeps_foldl
    | apply keeps_foldl2
    | apply keeps_foldl3
    | intro _
    | dsimp only
    | (fail_if_no_progress (apply keeps_mk; on_goal 2 => (constructor <;> first | exact .inr (by decide) | exact .inl rfl)))
    | split

theorem execTlRevertAck_keeps {m_ : Nat} (hm : maskIn 1048575 m_ = true) {s_ s0 : State} (h_ : Keeps m_ s_ s0) (h : TlHdr) (t : Nat) (at_ : Nat) : KeepsR m_ s_ (execTlRevertAck h t at_ s0) := by
  refine KeepsR.after hm h_ ?_
  clear hm h_
  unfold execTlRevertAck
  repeat' with_reducible first
    | assumption
    | exact Keeps.refl _ _
    | (show maskIn _ _ = true; decide)
    | apply State_raise_keeps
    | apply State_setTw_keeps
    | apply State_tlRecv_keeps
    | apply State_toTick_keeps
    | apply keepsR_next
    | apply keeps_ite
    | apply keepsR_ite
    | apply keeps_ite2
    | apply keeps_foldl
    | apply keeps_foldl2
    | apply keeps_foldl3
    | intro _
    | dsimp only
    | (fail_if_no_progress (apply keeps_mk; on_goal 2 => (constructor <;> first | exact .inr (by decide) | exact .inl rfl)))
    | split

theorem execTlHandoverRequest_keeps {m_ : Nat} (hm : maskIn 1048575 m_ = true) {s_ s0 : State} (h_ : Keeps m_ s_ s0) (h : TlHdr) (t : Nat) (at_ : Nat) : KeepsR m_ s_ (execTlHandoverRequest h t at_ s0) := by
  refine KeepsR.after hm h_ ?_
  clear hm h_
  unfold execTlHandoverRequest
  exact keepsR_next (State_tlRecv_keeps (by decide) (State_toTick_keeps (by decide) (Keeps.refl _ _) _) _ _ _ _ (fun x => Keeps.refl _ x))

theorem State_mirrorLate_keeps {m_ : Nat} (hm : maskIn 1931 m_ = true) {s_ s : State} (h_ : Keeps m_ s_ s) (o : Nat) : Keeps m_ s_ (State.mirrorLate s o) := by
  refine Keeps.after hm h_ ?_
  clear hm h_
  unfold State.mirrorLate
  repeat' with_reducible first
    | assumption
    | exact Keeps.refl _ _
    | (show maskIn _ _ = true; decide)
    | apply State_bump_keeps
    | apply State_countSecond_keeps
    | apply State_rcAdd_keeps
    | apply keepsR_next
    | apply keeps_ite
    | apply keepsR_ite
    | apply keeps_ite2
    | apply keeps_foldl
    | apply keeps_foldl2
    | apply keeps_foldl3
    | intro _
    | dsimp only
    | (fail_if_no_progress (apply keeps_mk; on_goal 2 => (constructor <;> first | exact .inr (by decide) | exact .inl rfl)))
    | split

theorem State_mirrorTake_keeps {m_ : Nat} (hm : maskIn 34699 m_ = true) {s_ s : State} (h_ : Keeps m_ s_ s) (ta : Nat) (recs : List (Nat × TakeRec)) : Keeps m_ s_ (State.mirrorTake s ta recs) := by
  refine Keeps.after hm h_ ?_
  clear hm h_
  unfold State.mirrorTake
  repeat' with_reducible first
    | assumption
    | exact Keeps.refl _ _
    | (show maskIn _ _ = true; decide)
    | apply State_askNeeds_keeps
    | apply State_mirrorLate_keeps
    | apply State_pendObj_keeps
    | apply State_rwtMerge_keeps
    | apply keepsR_next
    | apply keeps_ite
    | apply keepsR_ite
    | apply keeps_ite2
    | apply keeps_foldl
    | apply keeps_foldl2
    | apply keeps_foldl3
    | intro _
    | dsimp only
    | (fail_if_no_progress (apply keeps_mk; on_goal 2 => (constructor <;> first | exact .inr (by decide) | exact .inl rfl)))
    | split

theorem State_takeGen_keeps {m_ : Nat} (hm : maskIn 1 m_ = true) {s_ s : State} (h_ : Keeps m_ s_ s) (h : TlHdr) : Keeps m_ s_ (State.takeGen s h) := by
  refine Keeps.after hm h_ ?_
  clear hm h_
  unfold State.takeGen
  repeat' with_reducible first
    | assumption
    | exact Keeps.refl _ _
    | (show maskIn _ _ = true; decide)
    | apply State_setNum_keeps
    | apply keepsR_next
    | apply keeps_ite
    | apply keepsR_ite
    | apply keeps_ite2
    | apply keeps_foldl
    | apply keeps_foldl2
    | apply keeps_foldl3
    | intro _
    | dsimp only
    | (fail_if_no_progress (apply keeps_mk; on_goal 2 => (constructor <;> first | exact .inr (by decide) | exact .inl rfl)))
    | split

theorem State_dropLocal_keeps {m_ : Nat} (hm : maskIn 970 m_ = true) {s_ s : State} (h_ : Keeps m_ s_ s) (a : Nat) : Keeps m_ s_ (State.dropLocal s a) := by
  refine Keeps.after hm h_ ?_
  clear hm h_
  unfold State.dropLocal
  repeat' with_reducible first
    | assumption
    | exact Keeps.refl _ _
    | (show maskIn _ _ = true; decide)
    | apply State_clearStage_keeps
    | apply State_raise_keeps
    | apply keepsR_next
    | apply keeps_ite
    | apply keepsR_ite
    | apply keeps_ite2
    | apply keeps_foldl
    | apply keeps_foldl2
    | apply keeps_foldl3
    | intro _
    | dsimp only
    | (fail_if_no_progress (apply keeps_mk; on_goal 2 => (constructor <;> first | exact .inr (by decide) | exact .inl rfl)))
    | split

theorem State_mirrorCommit_keeps {m_ : Nat} (hm : maskIn 1048575 m_ = true) {s_ s : State} (h_ : Keeps m_ s_ s)  : Keeps m_ s_ (State.mirrorCommit s) := by
  refine Keeps.after hm h_ ?_
  clear hm h_
  unfold State.mirrorCommit
  repeat' with_reducible first
    | assumption
    | exact Keeps.refl _ _
    | (show maskIn _ _ = true; decide)
    | apply State_askChain_keeps
    | apply State_chainPost_keeps
    | apply State_clearStage_keeps
    | apply State_commitNow_keeps
    | apply State_diverge_keeps
    | apply State_dropLocal_keeps
    | apply State_setTw_keeps
    | apply keepsR_next
    | apply keeps_ite
    | apply keepsR_ite
    | apply keeps_ite2
    | apply keeps_foldl
    | apply keeps_foldl2
    | apply keeps_foldl3
    | intro _
    | dsimp only
    | (fail_if_no_progress (apply keeps_mk; on_goal 2 => (constructor <;> first | exact .inr (by decide) | exact .inl rfl)))
    | split

theorem State_swapAt_keeps {m_ : Nat} (hm : maskIn 4096 m_ = true) {s_ s : State} (h_ : Keeps m_ s_ s) (instants : List Nat) : Keeps m_ s_ (State.swapAt s instants) := by
  refine Keeps.after hm h_ ?_
  clear hm h_
  unfold State.swapAt
  repeat' with_reducible first
    | assumption
    | exact Keeps.refl _ _
    | (show maskIn _ _ = true; decide)
    | apply keepsR_next
    | apply keeps_ite
    | apply keepsR_ite
    | apply keeps_ite2
    | apply keeps_foldl
    | apply keeps_foldl2
    | apply keeps_foldl3
    | intro _
    | dsimp only
    | (fail_if_no_progress (apply keeps_mk; on_goal 2 => (constructor <;> first | exact .inr (by decide) | exact .inl rfl)))
    | split

theorem State_tlCommitBody_keeps {m_ : Nat} (hm : maskIn 1048575 m_ = true) {s_ s : State} (h_ : Keeps m_ s_ s) (area : Nat) (phase : Nat) (values : List (Nat × Nat × Nat × List Byte)) (code : Nat) (instants : List Nat) : Keeps m_ s_ (State.tlCommitBody s area phase values code instants) := by
  refine Keeps.after hm h_ ?_
  clear hm h_
  unfold State.tlCommitBody
  repeat' with_reducible first
    | assumption
    | exact Keeps.refl _ _
    | (show maskIn _ _ = true; decide)
    | apply State_mirrorCommit_keeps
    | apply State_setTw_keeps
    | apply State_swapAt_keeps
    | apply keepsR_next
    | apply keeps_ite
    | apply keepsR_ite
    | apply keeps_ite2
    | apply keeps_foldl
    | apply keeps_foldl2
    | apply keeps_foldl3
    | intro _
    | dsimp only
    | (fail_if_no_progress (apply keeps_mk; on_goal 2 => (constructor <;> first | exact .inr (by decide) | exact .inl rfl)))
    | split

theorem State_mirrorEntry_keeps {m_ : Nat} (hm : maskIn 133007 m_ = true) {s_ s : State} (h_ : Keeps m_ s_ s) (b : List Byte) : Keeps m_ s_ (State.mirrorEntry s b) := by
  refine Keeps.after hm h_ ?_
  clear hm h_
  unfold State.mirrorEntry
  repeat' with_reducible first
    | assumption
    | exact Keeps.refl _ _
    | (show maskIn _ _ = true; decide)
    | apply State_diverge_keeps
    | apply State_putEntry_keeps
    | apply State_setTw_keeps
    | apply keepsR_next
    | apply keeps_ite
    | apply keepsR_ite
    | apply keeps_ite2
    | apply keeps_foldl
    | apply keeps_foldl2
    | apply keeps_foldl3
    | intro _
    | dsimp only
    | (fail_if_no_progress (apply keeps_mk; on_goal 2 => (constructor <;> first | exact .inr (by decide) | exact .inl rfl)))
    | split

theorem State_tlFastBody_keeps {m_ : Nat} (hm : maskIn 4096 m_ = true) {s_ s : State} (h_ : Keeps m_ s_ s) (sample : Nat) (entries : List (List Byte)) : Keeps m_ s_ (State.tlFastBody s sample entries) := by
  refine Keeps.after hm h_ ?_
  clear hm h_
  unfold State.tlFastBody
  repeat' with_reducible first
    | assumption
    | exact Keeps.refl _ _
    | (show maskIn _ _ = true; decide)
    | apply State_fastHold_keeps
    | apply keepsR_next
    | apply keeps_ite
    | apply keepsR_ite
    | apply keeps_ite2
    | apply keeps_foldl
    | apply keeps_foldl2
    | apply keeps_foldl3
    | intro _
    | dsimp only
    | (fail_if_no_progress (apply keeps_mk; on_goal 2 => (constructor <;> first | exact .inr (by decide) | exact .inl rfl)))
    | split

theorem State_runTl_keeps {m_ : Nat} (hm : maskIn 1048575 m_ = true) {s_ s : State} (h_ : Keeps m_ s_ s) (i : Instr) : Keeps m_ s_ (State.runTl s i) := by
  refine Keeps.after hm h_ ?_
  clear hm h_
  unfold State.runTl
  repeat' with_reducible first
    | assumption
    | exact Keeps.refl _ _
    | (show maskIn _ _ = true; decide)
    | apply State_mirrorEntry_keeps
    | apply State_mirrorTake_keeps
    | apply State_takeGen_keeps
    | apply State_tlCommitBody_keeps
    | apply State_tlFastBody_keeps
    | apply keepsR_next
    | apply keeps_ite
    | apply keepsR_ite
    | apply keeps_ite2
    | apply keeps_foldl
    | apply keeps_foldl2
    | apply keeps_foldl3
    | intro _
    | dsimp only
    | (fail_if_no_progress (apply keeps_mk; on_goal 2 => (constructor <;> first | exact .inr (by decide) | exact .inl rfl)))
    | split

theorem execTlTake_keeps {m_ : Nat} (hm : maskIn 1048575 m_ = true) {s_ s0 : State} (h_ : Keeps m_ s_ s0) (h : TlHdr) (ta : Nat) (recs : List (Nat × List Byte)) (at_ : Nat) : KeepsR m_ s_ (execTlTake h ta recs at_ s0) := by
  refine KeepsR.after hm h_ ?_
  clear hm h_
  unfold execTlTake
  repeat' with_reducible first
    | assumption
    | exact Keeps.refl _ _
    | (show maskIn _ _ = true; decide)
    | apply State_runTl_keeps
    | apply State_tlRecv_keeps
    | apply State_toTick_keeps
    | apply keepsR_next
    | apply keeps_ite
    | apply keepsR_ite
    | apply keeps_ite2
    | apply keeps_foldl
    | apply keeps_foldl2
    | apply keeps_foldl3
    | intro _
    | dsimp only
    | (fail_if_no_progress (apply keeps_mk; on_goal 2 => (constructor <;> first | exact .inr (by decide) | exact .inl rfl)))
    | split

theorem execTlCommit_keeps {m_ : Nat} (hm : maskIn 1048575 m_ = true) {s_ s0 : State} (h_ : Keeps m_ s_ s0) (h : TlHdr) (area : Half) (phase : Byte) (values : List (Nat × Nat × Nat × List Byte)) (code : Half) (instants : List Nat) (at_ : Nat) : KeepsR m_ s_ (execTlCommit h area phase values code instants at_ s0) := by
  refine KeepsR.after hm h_ ?_
  clear hm h_
  unfold execTlCommit
  repeat' with_reducible first
    | assumption
    | exact Keeps.refl _ _
    | (show maskIn _ _ = true; decide)
    | apply State_runTl_keeps
    | apply State_tlRecv_keeps
    | apply State_toTick_keeps
    | apply keepsR_next
    | apply keeps_ite
    | apply keepsR_ite
    | apply keeps_ite2
    | apply keeps_foldl
    | apply keeps_foldl2
    | apply keeps_foldl3
    | intro _
    | dsimp only
    | (fail_if_no_progress (apply keeps_mk; on_goal 2 => (constructor <;> first | exact .inr (by decide) | exact .inl rfl)))
    | split

theorem execTlJournal_keeps {m_ : Nat} (hm : maskIn 1048575 m_ = true) {s_ s0 : State} (h_ : Keeps m_ s_ s0) (h : TlHdr) (entries : List (List Byte)) (at_ : Nat) : KeepsR m_ s_ (execTlJournal h entries at_ s0) := by
  refine KeepsR.after hm h_ ?_
  clear hm h_
  unfold execTlJournal
  repeat' with_reducible first
    | assumption
    | exact Keeps.refl _ _
    | (show maskIn _ _ = true; decide)
    | apply State_runTl_keeps
    | apply State_tlRecv_keeps
    | apply State_toTick_keeps
    | apply keepsR_next
    | apply keeps_ite
    | apply keepsR_ite
    | apply keeps_ite2
    | apply keeps_foldl
    | apply keeps_foldl2
    | apply keeps_foldl3
    | intro _
    | dsimp only
    | (fail_if_no_progress (apply keeps_mk; on_goal 2 => (constructor <;> first | exact .inr (by decide) | exact .inl rfl)))
    | split

theorem execTlFast_keeps {m_ : Nat} (hm : maskIn 1048575 m_ = true) {s_ s0 : State} (h_ : Keeps m_ s_ s0) (h : TlHdr) (sample : Nat) (entries : List (List Byte)) (at_ : Nat) : KeepsR m_ s_ (execTlFast h sample entries at_ s0) := by
  refine KeepsR.after hm h_ ?_
  clear hm h_
  unfold execTlFast
  repeat' with_reducible first
    | assumption
    | exact Keeps.refl _ _
    | (show maskIn _ _ = true; decide)
    | apply State_runTl_keeps
    | apply State_tlRecv_keeps
    | apply State_toTick_keeps
    | apply keepsR_next
    | apply keeps_ite
    | apply keepsR_ite
    | apply keeps_ite2
    | apply keeps_foldl
    | apply keeps_foldl2
    | apply keeps_foldl3
    | intro _
    | dsimp only
    | (fail_if_no_progress (apply keeps_mk; on_goal 2 => (constructor <;> first | exact .inr (by decide) | exact .inl rfl)))
    | split

theorem State_replaceSets_keeps {m_ : Nat} (hm : maskIn 1048575 m_ = true) {s_ s : State} (h_ : Keeps m_ s_ s) (own : Nat → Bool) (vals : List (Nat × Val)) (areas : List Nat) : Keeps m_ s_ (State.replaceSets s own vals areas) := by
  refine Keeps.after hm h_ ?_
  clear hm h_
  unfold State.replaceSets
  repeat' with_reducible first
    | assumption
    | exact Keeps.refl _ _
    | (show maskIn _ _ = true; decide)
    | apply State_applyArea_keeps
    | apply State_ledgerObjs_keeps
    | apply State_setSetting_keeps
    | apply State_syncSubs_keeps
    | apply setObj_keeps
    | apply keepsR_next
    | apply keeps_ite
    | apply keepsR_ite
    | apply keeps_ite2
    | apply keeps_foldl
    | apply keeps_foldl2
    | apply keeps_foldl3
    | intro _
    | dsimp only
    | (fail_if_no_progress (apply keeps_mk; on_goal 2 => (constructor <;> first | exact .inr (by decide) | exact .inl rfl)))
    | split

theorem State_sendSnapshot_keeps {m_ : Nat} (hm : maskIn 131081 m_ = true) {s_ s : State} (h_ : Keeps m_ s_ s)  : Keeps m_ s_ (State.sendSnapshot s) := by
  refine Keeps.after hm h_ ?_
  clear hm h_
  unfold State.sendSnapshot
  repeat' with_reducible first
    | assumption
    | exact Keeps.refl _ _
    | (show maskIn _ _ = true; decide)
    | apply State_tlSend_keeps
    | apply keepsR_next
    | apply keeps_ite
    | apply keepsR_ite
    | apply keeps_ite2
    | apply keeps_foldl
    | apply keeps_foldl2
    | apply keeps_foldl3
    | intro _
    | dsimp only
    | (fail_if_no_progress (apply keeps_mk; on_goal 2 => (constructor <;> first | exact .inr (by decide) | exact .inl rfl)))
    | split

theorem execTlJoin_keeps {m_ : Nat} (hm : maskIn 1048575 m_ = true) {s_ s0 : State} (h_ : Keeps m_ s_ s0) (h : TlHdr) (gen : Word) (at_ : Nat) : KeepsR m_ s_ (execTlJoin h gen at_ s0) := by
  refine KeepsR.after hm h_ ?_
  clear hm h_
  unfold execTlJoin
  repeat' with_reducible first
    | assumption
    | exact Keeps.refl _ _
    | (show maskIn _ _ = true; decide)
    | apply State_sendSnapshot_keeps
    | apply State_tlRecv_keeps
    | apply State_toTick_keeps
    | apply keepsR_next
    | apply keeps_ite
    | apply keepsR_ite
    | apply keeps_ite2
    | apply keeps_foldl
    | apply keeps_foldl2
    | apply keeps_foldl3
    | intro _
    | dsimp only
    | (fail_if_no_progress (apply keeps_mk; on_goal 2 => (constructor <;> first | exact .inr (by decide) | exact .inl rfl)))
    | split

theorem execTlSnapshot_keeps {m_ : Nat} (hm : maskIn 1048575 m_ = true) {s_ s0 : State} (h_ : Keeps m_ s_ s0) (h : TlHdr) (values : List (Nat × Nat × List Byte)) (entries : List (List Byte)) (size : Nat) (endFlag : Bool) (at_ : Nat) : KeepsR m_ s_ (execTlSnapshot h values entries size endFlag at_ s0) := by
  refine KeepsR.after hm h_ ?_
  clear hm h_
  unfold execTlSnapshot
  repeat' with_reducible first
    | assumption
    | exact Keeps.refl _ _
    | (show maskIn _ _ = true; decide)
    | apply State_setTw_keeps
    | apply State_tlRecv_keeps
    | apply State_toTick_keeps
    | apply keepsR_next
    | apply keeps_ite
    | apply keepsR_ite
    | apply keeps_ite2
    | apply keeps_foldl
    | apply keeps_foldl2
    | apply keeps_foldl3
    | intro _
    | dsimp only
    | (fail_if_no_progress (apply keeps_mk; on_goal 2 => (constructor <;> first | exact .inr (by decide) | exact .inl rfl)))
    | split

theorem State_applySnapshot_keeps {m_ : Nat} (hm : maskIn 1048575 m_ = true) {s_ s : State} (h_ : Keeps m_ s_ s)  : Keeps m_ s_ (State.applySnapshot s) := by
  refine Keeps.after hm h_ ?_
  clear hm h_
  unfold State.applySnapshot
  repeat' with_reducible first
    | assumption
    | exact Keeps.refl _ _
    | (show maskIn _ _ = true; decide)
    | apply State_putEntry_keeps
    | apply State_replaceSets_keeps
    | apply State_setNum_keeps
    | apply keepsR_next
    | apply keeps_ite
    | apply keepsR_ite
    | apply keeps_ite2
    | apply keeps_foldl
    | apply keeps_foldl2
    | apply keeps_foldl3
    | intro _
    | dsimp only
    | (fail_if_no_progress (apply keeps_mk; on_goal 2 => (constructor <;> first | exact .inr (by decide) | exact .inl rfl)))
    | split

theorem execJoinComplete_keeps {m_ : Nat} (hm : maskIn 1048575 m_ = true) {s_ s0 : State} (h_ : Keeps m_ s_ s0) (at_ : Nat) : KeepsR m_ s_ (execJoinComplete at_ s0) := by
  refine KeepsR.after hm h_ ?_
  clear hm h_
  unfold execJoinComplete
  repeat' with_reducible first
    | assumption
    | exact Keeps.refl _ _
    | (show maskIn _ _ = true; decide)
    | apply State_applySnapshot_keeps
    | apply State_bump_keeps
    | apply State_dropLocal_keeps
    | apply State_noteSince_keeps
    | apply State_raise_keeps
    | apply State_replaceSets_keeps
    | apply State_runTl_keeps
    | apply State_setBit_keeps
    | apply State_setTw_keeps
    | apply State_setTwin_keeps
    | apply State_toTick_keeps
    | apply State_twinCheck_keeps
    | apply keepsR_next
    | apply keeps_ite
    | apply keepsR_ite
    | apply keeps_ite2
    | apply keeps_foldl
    | apply keeps_foldl2
    | apply keeps_foldl3
    | intro _
    | dsimp only
    | (fail_if_no_progress (apply keeps_mk; on_goal 2 => (constructor <;> first | exact .inr (by decide) | exact .inl rfl)))
    | split

end Sys2Proof.Machine
end

