-- ==== Sys2Proof/Laws/KeepsEffects.lean ====
section
/-! SUPPORT. Effects: what every operation keeps. -/

namespace Sys2Proof.Machine

theorem State_zeroSubs_keeps {m_ : Nat} (hm : maskIn 1 m_ = true) {s_ s : State} (h_ : Keeps m_ s_ s) (ix : Nat) (subs : List Nat) : Keeps m_ s_ (State.zeroSubs s ix subs) := by
  refine Keeps.after hm h_ ?_
  clear hm h_
  unfold State.zeroSubs
  repeat' with_reducible first
    | assumption
    | exact Keeps.refl _ _
    | (show maskIn _ _ = true; decide)
    | apply State_setNum_keeps
    | apply keepsR_next
    | apply keeps_ite
    | apply keepsR_ite
    | apply keeps_ite2
    | apply keeps_foldl
    | apply keeps_foldl2
    | apply keeps_foldl3
    | intro _
    | dsimp only
    | (fail_if_no_progress (apply keeps_mk; on_goal 2 => (constructor <;> first | exact .inr (by decide) | exact .inl rfl)))
    | split

theorem State_evtWrite_keeps {m_ : Nat} (hm : maskIn 2 m_ = true) {s_ s : State} (h_ : Keeps m_ s_ s) (g : Nat) (which : Nat) (v : Nat) : Keeps m_ s_ (State.evtWrite s g which v) := by
  refine Keeps.after hm h_ ?_
  clear hm h_
  unfold State.evtWrite
  repeat' with_reducible first
    | assumption
    | exact Keeps.refl _ _
    | (show maskIn _ _ = true; decide)
    | apply setReg_keeps
    | apply keepsR_next
    | apply keeps_ite
    | apply keepsR_ite
    | apply keeps_ite2
    | apply keeps_foldl
    | apply keeps_foldl2
    | apply keeps_foldl3
    | intro _
    | dsimp only
    | (fail_if_no_progress (apply keeps_mk; on_goal 2 => (constructor <;> first | exact .inr (by decide) | exact .inl rfl)))
    | split

theorem State_batchWrite_keeps {m_ : Nat} (hm : maskIn 165775 m_ = true) {s_ s : State} (h_ : Keeps m_ s_ s) (b : List Byte) : Keeps m_ s_ (State.batchWrite s b).2 := by
  refine Keeps.after hm h_ ?_
  clear hm h_
  unfold State.batchWrite
  repeat' with_reducible first
    | assumption
    | exact Keeps.refl _ _
    | (show maskIn _ _ = true; decide)
    | apply State_arriveBatch_keeps
    | apply State_refuseBatch_keeps
    | apply keepsR_next
    | apply keeps_ite
    | apply keepsR_ite
    | apply keeps_ite2
    | apply keeps_foldl
    | apply keeps_foldl2
    | apply keeps_foldl3
    | intro _
    | dsimp only
    | (fail_if_no_progress (apply keeps_mk; on_goal 2 => (constructor <;> first | exact .inr (by decide) | exact .inl rfl)))
    | split

theorem State_takeWrite_keeps {m_ : Nat} (hm : maskIn 164873 m_ = true) {s_ s : State} (h_ : Keeps m_ s_ s) (o : Nat) (sub : Nat) (v : Nat) : Keeps m_ s_ (State.takeWrite s o sub v).2 := by
  refine Keeps.after hm h_ ?_
  clear hm h_
  unfold State.takeWrite
  repeat' with_reducible first
    | assumption
    | exact Keeps.refl _ _
    | (show maskIn _ _ = true; decide)
    | apply State_rwtWrite_keeps
    | apply keepsR_next
    | apply keeps_ite
    | apply keepsR_ite
    | apply keeps_ite2
    | apply keeps_foldl
    | apply keeps_foldl2
    | apply keeps_foldl3
    | intro _
    | dsimp only
    | (fail_if_no_progress (apply keeps_mk; on_goal 2 => (constructor <;> first | exact .inr (by decide) | exact .inl rfl)))
    | split

theorem State_portWrite_keeps {m_ : Nat} (hm : maskIn 560079 m_ = true) {s_ s : State} (h_ : Keeps m_ s_ s) (c : Ctx) (k : Nat) (d : Nat) (sid : Nat) : Keeps m_ s_ (State.portWrite s c k d sid).2 := by
  refine Keeps.after hm h_ ?_
  clear hm h_
  unfold State.portWrite
  repeat' with_reducible first
    | assumption
    | exact Keeps.refl _ _
    | (show maskIn _ _ = true; decide)
    | apply State_askSub_keeps
    | apply State_await_keeps
    | apply State_portApply_keeps
    | apply State_syncSubs_keeps
    | apply keepsR_next
    | apply keeps_ite
    | apply keepsR_ite
    | apply keeps_ite2
    | apply keeps_foldl
    | apply keeps_foldl2
    | apply keeps_foldl3
    | intro _
    | dsimp only
    | (fail_if_no_progress (apply keeps_mk; on_goal 2 => (constructor <;> first | exact .inr (by decide) | exact .inl rfl)))
    | split

theorem onOne_keeps {m_ : Nat} {s_ s : State} (h_ : Keeps m_ s_ s) (v : Nat) {f : State → State} (hb : ∀ x, Keeps m_ x (f x)) :
    Keeps m_ s_ (onOne s v f).2 := by
  have hm : maskIn 0 m_ = true := by simp [maskIn]
  unfold onOne
  repeat' with_reducible first
    | assumption
    | exact Keeps.refl _ _
    | (show maskIn _ _ = true; first | exact maskIn_trans (by decide) hm | decide)
    | exact h_.trans (hb _)
    | apply hb
    | apply keeps_ite
    | apply keeps_foldl
    | apply keeps_foldl2
    | intro _
    | dsimp only
    | (fail_if_no_progress (apply keeps_mk; on_goal 2 => (constructor <;> first | exact .inr (bit_of_maskIn hm (by decide)) | exact .inl rfl)))
    | split

theorem State_pacerObjWrite_keeps {m_ : Nat} (hm : maskIn 665599 m_ = true) {s_ s : State} (h_ : Keeps m_ s_ s) (k : Nat) (x : Val) : Keeps m_ s_ (State.pacerObjWrite s k x).2 := by
  refine Keeps.after hm h_ ?_
  clear hm h_
  unfold State.pacerObjWrite
  repeat' with_reducible first
    | assumption
    | exact Keeps.refl _ _
    | (show maskIn _ _ = true; decide)
    | apply State_closeLoop_keeps
    | apply State_openLoop_keeps
    | apply State_overrideWrite_keeps
    | apply State_timeSetWrite_keeps
    | apply State_timeStepWrite_keeps
    | apply setObj_keeps
    | apply keepsR_next
    | apply keeps_ite
    | apply keepsR_ite
    | apply keeps_ite2
    | apply keeps_foldl
    | apply keeps_foldl2
    | apply keeps_foldl3
    | intro _
    | dsimp only
    | (fail_if_no_progress (apply keeps_mk; on_goal 2 => (constructor <;> first | exact .inr (by decide) | exact .inl rfl)))
    | split

theorem State_faultObjWrite_keeps {m_ : Nat} (hm : maskIn 657375 m_ = true) {s_ s : State} (h_ : Keeps m_ s_ s) (slot : Nat) (k : Nat) (x : Val) : Keeps m_ s_ (State.faultObjWrite s slot k x).2 := by
  refine Keeps.after hm h_ ?_
  clear hm h_
  unfold State.faultObjWrite
  repeat' with_reducible first
    | assumption
    | exact Keeps.refl _ _
    | (show maskIn _ _ = true; decide)
    | apply State_ackAllBy_keeps
    | apply State_ackBy_keeps
    | apply State_enterSafe_keeps
    | apply State_evtWrite_keeps
    | apply State_recClearWrite_keeps
    | apply State_safeExitWrite_keeps
    | apply State_setSess_keeps
    | apply onOne_keeps
    | apply setObj_keeps
    | apply keepsR_next
    | apply keeps_ite
    | apply keepsR_ite
    | apply keeps_ite2
    | apply keeps_foldl
    | apply keeps_foldl2
    | apply keeps_foldl3
    | intro _
    | dsimp only
    | (fail_if_no_progress (apply keeps_mk; on_goal 2 => (constructor <;> first | exact .inr (by decide) | exact .inl rfl)))
    | split

theorem State_secObjWrite_keeps {m_ : Nat} (hm : maskIn 525279 m_ = true) {s_ s : State} (h_ : Keeps m_ s_ s) (slot : Nat) (k : Nat) (x : Val) : Keeps m_ s_ (State.secObjWrite s slot k x).2 := by
  refine Keeps.after hm h_ ?_
  clear hm h_
  unfold State.secObjWrite
  repeat' with_reducible first
    | assumption
    | exact Keeps.refl _ _
    | (show maskIn _ _ = true; decide)
    | apply State_activateWrite_keeps
    | apply State_attestWrite_keeps
    | apply State_confirmWrite_keeps
    | apply State_imageSegment_keeps
    | apply State_invalidateWrite_keeps
    | apply State_lcRequestWrite_keeps
    | apply State_loadWrite_keeps
    | apply State_verifyWrite_keeps
    | apply setObj_keeps
    | apply keepsR_next
    | apply keeps_ite
    | apply keepsR_ite
    | apply keeps_ite2
    | apply keeps_foldl
    | apply keeps_foldl2
    | apply keeps_foldl3
    | intro _
    | dsimp only
    | (fail_if_no_progress (apply keeps_mk; on_goal 2 => (constructor <;> first | exact .inr (by decide) | exact .inl rfl)))
    | split

theorem State_writeEffect_keeps {m_ : Nat} (hm : maskIn 966655 m_ = true) {s_ s : State} (h_ : Keeps m_ s_ s) (c : Ctx) (k : Nat) (x : Val) : Keeps m_ s_ (State.writeEffect s c k x).2 := by
  refine Keeps.after hm h_ ?_
  clear hm h_
  unfold State.writeEffect
  repeat' with_reducible first
    | assumption
    | exact Keeps.refl _ _
    | (show maskIn _ _ = true; decide)
    | apply State_askRealign_keeps
    | apply State_batchWrite_keeps
    | apply State_benchForceWrite_keeps
    | apply State_benchWrite_keeps
    | apply State_endSession_keeps
    | apply State_faultObjWrite_keeps
    | apply State_pacerObjWrite_keeps
    | apply State_portWrite_keeps
    | apply State_prbsInject_keeps
    | apply State_relinquishWrite_keeps
    | apply State_retrainLane_keeps
    | apply State_secObjWrite_keeps
    | apply State_selfCheckWrite_keeps
    | apply State_takeWrite_keeps
    | apply State_zeroSubs_keeps
    | apply onOne_keeps
    | apply setObj_keeps
    | apply keepsR_next
    | apply keeps_ite
    | apply keepsR_ite
    | apply keeps_ite2
    | apply keeps_foldl
    | apply keeps_foldl2
    | apply keeps_foldl3
    | intro _
    | dsimp only
    | (fail_if_no_progress (apply keeps_mk; on_goal 2 => (constructor <;> first | exact .inr (by decide) | exact .inl rfl)))
    | split

theorem State_effect_keeps {m_ : Nat} (hm : maskIn 966655 m_ = true) {s_ s : State} (h_ : Keeps m_ s_ s) (c : Ctx) (k : Nat) (x : Val) : Keeps m_ s_ (State.effect s c k x).2 := by
  refine Keeps.after hm h_ ?_
  clear hm h_
  unfold State.effect
  repeat' with_reducible first
    | assumption
    | exact Keeps.refl _ _
    | (show maskIn _ _ = true; decide)
    | apply State_noteBank_keeps
    | apply State_writeEffect_keeps
    | apply keepsR_next
    | apply keeps_ite
    | apply keepsR_ite
    | apply keeps_ite2
    | apply keeps_foldl
    | apply keeps_foldl2
    | apply keeps_foldl3
    | intro _
    | dsimp only
    | (fail_if_no_progress (apply keeps_mk; on_goal 2 => (constructor <;> first | exact .inr (by decide) | exact .inl rfl)))
    | split

theorem State_doWrite_keeps {m_ : Nat} (hm : maskIn 1048575 m_ = true) {s_ s : State} (h_ : Keeps m_ s_ s) (c : Ctx) (ix : Nat) (sub : Nat) (ty : Nat) (value : List Byte) : Keeps m_ s_ (State.doWrite s c ix sub ty value).2 := by
  refine Keeps.after hm h_ ?_
  clear hm h_
  unfold State.doWrite
  dsimp only
  repeat' with_reducible first
    | exact Keeps.refl _ _
    | (show maskIn _ _ = true; decide)
    | apply State_doEnable_keeps
    | apply State_stage_keeps
    | apply keeps_ite2
  unfold answer1
  exact State_effect_keeps (by decide) (Keeps.refl _ _) _ _ _

theorem State_gatherSeg_keeps {m_ : Nat} (hm : maskIn 966655 m_ = true) {s_ s : State} (h_ : Keeps m_ s_ s) (c : Ctx) (k : Nat) (d : ObjDef) (offset : Nat) (data : List Byte) (fin : Bool) : Keeps m_ s_ (State.gatherSeg s c k d offset data fin).2 := by
  refine Keeps.after hm h_ ?_
  clear hm h_
  unfold State.gatherSeg
  repeat' with_reducible first
    | assumption
    | exact Keeps.refl _ _
    | (show maskIn _ _ = true; decide)
    | apply State_effect_keeps
    | apply State_stage_keeps
    | apply keepsR_next
    | apply keeps_ite
    | apply keepsR_ite
    | apply keeps_ite2
    | apply keeps_foldl
    | apply keeps_foldl2
    | apply keeps_foldl3
    | intro _
    | dsimp only
    | (fail_if_no_progress (apply keeps_mk; on_goal 2 => (constructor <;> first | exact .inr (by decide) | exact .inl rfl)))
    | split

theorem State_doWriteSeg_keeps {m_ : Nat} (hm : maskIn 966655 m_ = true) {s_ s : State} (h_ : Keeps m_ s_ s) (c : Ctx) (ix : Nat) (sub : Nat) (offset : Nat) (data : List Byte) (fin : Bool) : Keeps m_ s_ (State.doWriteSeg s c ix sub offset data fin).2 := by
  refine Keeps.after hm h_ ?_
  clear hm h_
  unfold State.doWriteSeg
  repeat' with_reducible first
    | assumption
    | exact Keeps.refl _ _
    | (show maskIn _ _ = true; decide)
    | apply State_gatherSeg_keeps
    | apply State_imageSegment_keeps
    | apply keepsR_next
    | apply keeps_ite
    | apply keepsR_ite
    | apply keeps_ite2
    | apply keeps_foldl
    | apply keeps_foldl2
    | apply keeps_foldl3
    | intro _
    | dsimp only
    | (fail_if_no_progress (apply keeps_mk; on_goal 2 => (constructor <;> first | exact .inr (by decide) | exact .inl rfl)))
    | split

theorem State_doDiscard_keeps {m_ : Nat} (hm : maskIn 64 m_ = true) {s_ s : State} (h_ : Keeps m_ s_ s) (slot : Nat) (a : Nat) : Keeps m_ s_ (State.doDiscard s slot a).2 := by
  refine Keeps.after hm h_ ?_
  clear hm h_
  unfold State.doDiscard
  repeat' with_reducible first
    | assumption
    | exact Keeps.refl _ _
    | (show maskIn _ _ = true; decide)
    | apply State_clearStage_keeps
    | apply keepsR_next
    | apply keeps_ite
    | apply keepsR_ite
    | apply keeps_ite2
    | apply keeps_foldl
    | apply keeps_foldl2
    | apply keeps_foldl3
    | intro _
    | dsimp only
    | (fail_if_no_progress (apply keeps_mk; on_goal 2 => (constructor <;> first | exact .inr (by decide) | exact .inl rfl)))
    | split

end Sys2Proof.Machine
end

