-- ==== Sys2Proof/Laws/KeepsFabCells.lean ====
section
/-! SUPPORT. FabCells: what every operation keeps. -/

namespace Sys2Proof.Machine

theorem State_takeOn_keeps {m_ : Nat} (hm : maskIn 32777 m_ = true) {s_ s : State} (h_ : Keeps m_ s_ s) (j : Nat) (reqId : Nat) (sid : Nat) (count : Nat) (purpose : Nat) (charge : Nat) : Keeps m_ s_ (State.takeOn s j reqId sid count purpose charge) := by
  refine Keeps.after hm h_ ?_
  clear hm h_
  unfold State.takeOn
  repeat' with_reducible first
    | assumption
    | exact Keeps.refl _ _
    | (show maskIn _ _ = true; decide)
    | apply State_ctlSend_keeps
    | apply State_linkObjs_keeps
    | apply State_setLink_keeps
    | apply keepsR_next
    | apply keeps_ite
    | apply keepsR_ite
    | apply keeps_ite2
    | apply keeps_foldl
    | apply keeps_foldl2
    | apply keeps_foldl3
    | intro _
    | dsimp only
    | (fail_if_no_progress (apply keeps_mk; on_goal 2 => (constructor <;> first | exact .inr (by decide) | exact .inl rfl)))
    | split

theorem State_nak_keeps {m_ : Nat} (hm : maskIn 32776 m_ = true) {s_ s : State} (h_ : Keeps m_ s_ s) (j : Nat) (reqId : Nat) (reason : Nat) : Keeps m_ s_ (State.nak s j reqId reason) := by
  refine Keeps.after hm h_ ?_
  clear hm h_
  unfold State.nak
  repeat' with_reducible first
    | assumption
    | exact Keeps.refl _ _
    | (show maskIn _ _ = true; decide)
    | apply State_ctlSend_keeps
    | apply keepsR_next
    | apply keeps_ite
    | apply keepsR_ite
    | apply keeps_ite2
    | apply keeps_foldl
    | apply keeps_foldl2
    | apply keeps_foldl3
    | intro _
    | dsimp only
    | (fail_if_no_progress (apply keeps_mk; on_goal 2 => (constructor <;> first | exact .inr (by decide) | exact .inl rfl)))
    | split

theorem execSubReq_keeps {m_ : Nat} (hm : maskIn 33707 m_ = true) {s_ s0 : State} (h_ : Keeps m_ s_ s0) (j : Fin 12) (reqId : Half) (sid : Word) (count : Byte) (purpose : Byte) (at_ : Nat) : KeepsR m_ s_ (execSubReq j reqId sid count purpose at_ s0) := by
  refine KeepsR.after hm h_ ?_
  clear hm h_
  unfold execSubReq
  repeat' with_reducible first
    | assumption
    | exact Keeps.refl _ _
    | (show maskIn _ _ = true; decide)
    | apply State_bump_keeps
    | apply State_linkEvent_keeps
    | apply State_nak_keeps
    | apply State_shedUntil_keeps
    | apply State_takeOn_keeps
    | apply State_toTick_keeps
    | apply keepsR_next
    | apply keeps_ite
    | apply keepsR_ite
    | apply keeps_ite2
    | apply keeps_foldl
    | apply keeps_foldl2
    | apply keeps_foldl3
    | intro _
    | dsimp only
    | (fail_if_no_progress (apply keeps_mk; on_goal 2 => (constructor <;> first | exact .inr (by decide) | exact .inl rfl)))
    | split

theorem execUnsub_keeps {m_ : Nat} (hm : maskIn 32777 m_ = true) {s_ s : State} (h_ : Keeps m_ s_ s) (j : Fin 12) (reqId : Half) (channel : Half) : KeepsR m_ s_ (execUnsub j reqId channel s) := by
  refine KeepsR.after hm h_ ?_
  clear hm h_
  unfold execUnsub
  repeat' with_reducible first
    | assumption
    | exact Keeps.refl _ _
    | (show maskIn _ _ = true; decide)
    | apply State_ctlSend_keeps
    | apply State_linkObjs_keeps
    | apply State_setLink_keeps
    | apply keepsR_next
    | apply keeps_ite
    | apply keepsR_ite
    | apply keeps_ite2
    | apply keeps_foldl
    | apply keeps_foldl2
    | apply keeps_foldl3
    | intro _
    | dsimp only
    | (fail_if_no_progress (apply keeps_mk; on_goal 2 => (constructor <;> first | exact .inr (by decide) | exact .inl rfl)))
    | split

theorem execUnsubAck_keeps {m_ : Nat} (hm : maskIn 32768 m_ = true) {s_ s : State} (h_ : Keeps m_ s_ s) (j : Fin 12) (_reqId : Half) (channel : Half) (_unit : Half) : KeepsR m_ s_ (execUnsubAck j _reqId channel _unit s) := by
  refine KeepsR.after hm h_ ?_
  clear hm h_
  unfold execUnsubAck
  repeat' with_reducible first
    | assumption
    | exact Keeps.refl _ _
    | (show maskIn _ _ = true; decide)
    | apply State_setLink_keeps
    | apply keepsR_next
    | apply keeps_ite
    | apply keepsR_ite
    | apply keeps_ite2
    | apply keeps_foldl
    | apply keeps_foldl2
    | apply keeps_foldl3
    | intro _
    | dsimp only
    | (fail_if_no_progress (apply keeps_mk; on_goal 2 => (constructor <;> first | exact .inr (by decide) | exact .inl rfl)))
    | split

theorem execShed_keeps {m_ : Nat} (hm : maskIn 99211 m_ = true) {s_ s : State} (h_ : Keeps m_ s_ s) (j : Fin 12) (channel : Half) (_reason : Byte) : KeepsR m_ s_ (execShed j channel _reason s) := by
  refine KeepsR.after hm h_ ?_
  clear hm h_
  unfold execShed
  repeat' with_reducible first
    | assumption
    | exact Keeps.refl _ _
    | (show maskIn _ _ = true; decide)
    | apply State_linkObjs_keeps
    | apply State_setLink_keeps
    | apply State_tilesLose_keeps
    | apply keepsR_next
    | apply keeps_ite
    | apply keepsR_ite
    | apply keeps_ite2
    | apply keeps_foldl
    | apply keeps_foldl2
    | apply keeps_foldl3
    | intro _
    | dsimp only
    | (fail_if_no_progress (apply keeps_mk; on_goal 2 => (constructor <;> first | exact .inr (by decide) | exact .inl rfl)))
    | split

theorem execPurpose_keeps {m_ : Nat} (hm : maskIn 32768 m_ = true) {s_ s : State} (h_ : Keeps m_ s_ s) (j : Fin 12) (channel : Half) (p : Byte) : KeepsR m_ s_ (execPurpose j channel p s) := by
  refine KeepsR.after hm h_ ?_
  clear hm h_
  unfold execPurpose
  repeat' with_reducible first
    | assumption
    | exact Keeps.refl _ _
    | (show maskIn _ _ = true; decide)
    | apply State_setLink_keeps
    | apply keepsR_next
    | apply keeps_ite
    | apply keepsR_ite
    | apply keeps_ite2
    | apply keeps_foldl
    | apply keeps_foldl2
    | apply keeps_foldl3
    | intro _
    | dsimp only
    | (fail_if_no_progress (apply keeps_mk; on_goal 2 => (constructor <;> first | exact .inr (by decide) | exact .inl rfl)))
    | split

theorem execStreamState_keeps {m_ : Nat} (hm : maskIn 32768 m_ = true) {s_ s : State} (h_ : Keeps m_ s_ s) (j : Fin 12) (channel : Half) (present : Bool) (fmt : Half) : KeepsR m_ s_ (execStreamState j channel present fmt s) := by
  refine KeepsR.after hm h_ ?_
  clear hm h_
  unfold execStreamState
  repeat' with_reducible first
    | assumption
    | exact Keeps.refl _ _
    | (show maskIn _ _ = true; decide)
    | apply State_setLink_keeps
    | apply keepsR_next
    | apply keeps_ite
    | apply keepsR_ite
    | apply keeps_ite2
    | apply keeps_foldl
    | apply keeps_foldl2
    | apply keeps_foldl3
    | intro _
    | dsimp only
    | (fail_if_no_progress (apply keeps_mk; on_goal 2 => (constructor <;> first | exact .inr (by decide) | exact .inl rfl)))
    | split

theorem State_sendCell_keeps {m_ : Nat} (hm : maskIn 32776 m_ = true) {s_ s : State} (h_ : Keeps m_ s_ s) (j : Nat) (ch : Nat) (p : PubSub) (type : Nat) (unit : Nat) (last : Bool) (absent : Bool) (errored : Bool) (body : CellBody) : Keeps m_ s_ (State.sendCell s j ch p type unit last absent errored body) := by
  refine Keeps.after hm h_ ?_
  clear hm h_
  unfold State.sendCell
  repeat' with_reducible first
    | assumption
    | exact Keeps.refl _ _
    | (show maskIn _ _ = true; decide)
    | apply State_emit_keeps
    | apply State_fillNow_keeps
    | apply State_setLink_keeps
    | apply State_toStream_keeps
    | apply keepsR_next
    | apply keeps_ite
    | apply keepsR_ite
    | apply keeps_ite2
    | apply keeps_foldl
    | apply keeps_foldl2
    | apply keeps_foldl3
    | intro _
    | dsimp only
    | (fail_if_no_progress (apply keeps_mk; on_goal 2 => (constructor <;> first | exact .inr (by decide) | exact .inl rfl)))
    | split

theorem execUnitSend_keeps {m_ : Nat} (hm : maskIn 32808 m_ = true) {s_ s0 : State} (h_ : Keeps m_ s_ s0) (j : Fin 12) (channel : Half) (n : Nat) (at_ : Nat) : KeepsR m_ s_ (execUnitSend j channel n at_ s0) := by
  refine KeepsR.after hm h_ ?_
  clear hm h_
  unfold execUnitSend
  repeat' with_reducible first
    | assumption
    | exact Keeps.refl _ _
    | (show maskIn _ _ = true; decide)
    | apply State_sendCell_keeps
    | apply State_toTick_keeps
    | apply keepsR_next
    | apply keeps_ite
    | apply keepsR_ite
    | apply keeps_ite2
    | apply keeps_foldl
    | apply keeps_foldl2
    | apply keeps_foldl3
    | intro _
    | dsimp only
    | (fail_if_no_progress (apply keeps_mk; on_goal 2 => (constructor <;> first | exact .inr (by decide) | exact .inl rfl)))
    | split

theorem State_putCell_keeps {m_ : Nat} (hm : maskIn 32769 m_ = true) {s_ s : State} (h_ : Keeps m_ s_ s) (j : Nat) (c : RelayCell) (errored : Bool) : Keeps m_ s_ (State.putCell s j c errored) := by
  refine Keeps.after hm h_ ?_
  clear hm h_
  unfold State.putCell
  repeat' with_reducible first
    | assumption
    | exact Keeps.refl _ _
    | (show maskIn _ _ = true; decide)
    | apply State_bump_keeps
    | apply State_setLink_keeps
    | apply keepsR_next
    | apply keeps_ite
    | apply keepsR_ite
    | apply keeps_ite2
    | apply keeps_foldl
    | apply keeps_foldl2
    | apply keeps_foldl3
    | intro _
    | dsimp only
    | (fail_if_no_progress (apply keeps_mk; on_goal 2 => (constructor <;> first | exact .inr (by decide) | exact .inl rfl)))
    | split

theorem State_laneFec_keeps {m_ : Nat} (hm : maskIn 755679 m_ = true) {s_ s : State} (h_ : Keeps m_ s_ s) (f : Nat) (corrected : Nat) (unc : Nat) : Keeps m_ s_ (State.laneFec s f corrected unc) := by
  refine Keeps.after hm h_ ?_
  clear hm h_
  unfold State.laneFec
  repeat' with_reducible first
    | assumption
    | exact Keeps.refl _ _
    | (show maskIn _ _ = true; decide)
    | apply State_bump64_keeps
    | apply State_bump_keeps
    | apply State_countSecond_keeps
    | apply State_laneWorn_keeps
    | apply State_linkCheck_keeps
    | apply State_rcAdd_keeps
    | apply State_setBit_keeps
    | apply State_setFl_keeps
    | apply State_wantMap_keeps
    | apply keepsR_next
    | apply keeps_ite
    | apply keepsR_ite
    | apply keeps_ite2
    | apply keeps_foldl
    | apply keeps_foldl2
    | apply keeps_foldl3
    | intro _
    | dsimp only
    | (fail_if_no_progress (apply keeps_mk; on_goal 2 => (constructor <;> first | exact .inr (by decide) | exact .inl rfl)))
    | split

theorem execCellReceived_keeps {m_ : Nat} (hm : maskIn 755711 m_ = true) {s_ s0 : State} (h_ : Keeps m_ s_ s0) (j : Fin 12) (cell : RelayCell) (fec : List (Nat × Nat × Nat)) (prbs : List (Nat × Nat × Nat)) (at_ : Nat) : KeepsR m_ s_ (execCellReceived j cell fec prbs at_ s0) := by
  refine KeepsR.after hm h_ ?_
  clear hm h_
  unfold execCellReceived
  repeat' with_reducible first
    | assumption
    | exact Keeps.refl _ _
    | (show maskIn _ _ = true; decide)
    | apply State_bump64_keeps
    | apply State_laneFec_keeps
    | apply State_putCell_keeps
    | apply State_rcAdd_keeps
    | apply State_setFl_keeps
    | apply State_setLink_keeps
    | apply State_toTick_keeps
    | apply keepsR_next
    | apply keeps_ite
    | apply keepsR_ite
    | apply keeps_ite2
    | apply keeps_foldl
    | apply keeps_foldl2
    | apply keeps_foldl3
    | intro _
    | dsimp only
    | (fail_if_no_progress (apply keeps_mk; on_goal 2 => (constructor <;> first | exact .inr (by decide) | exact .inl rfl)))
    | split

theorem State_present_keeps {m_ : Nat} (hm : maskIn 33792 m_ = true) {s_ s : State} (h_ : Keeps m_ s_ s) (j : Nat) (ch : Nat) (h : HeldSub) (n : Nat) (k : Nat) : Keeps m_ s_ (State.present s j ch h n k) := by
  refine Keeps.after hm h_ ?_
  clear hm h_
  unfold State.present
  repeat' with_reducible first
    | assumption
    | exact Keeps.refl _ _
    | (show maskIn _ _ = true; decide)
    | apply State_chanPush_keeps
    | apply State_setLink_keeps
    | apply keepsR_next
    | apply keeps_ite
    | apply keepsR_ite
    | apply keeps_ite2
    | apply keeps_foldl
    | apply keeps_foldl2
    | apply keeps_foldl3
    | intro _
    | dsimp only
    | (fail_if_no_progress (apply keeps_mk; on_goal 2 => (constructor <;> first | exact .inr (by decide) | exact .inl rfl)))
    | split

theorem execUnitPresent_keeps {m_ : Nat} (hm : maskIn 33824 m_ = true) {s_ s0 : State} (h_ : Keeps m_ s_ s0) (j : Fin 12) (channel : Half) (n : Nat) (at_ : Nat) : KeepsR m_ s_ (execUnitPresent j channel n at_ s0) := by
  refine KeepsR.after hm h_ ?_
  clear hm h_
  unfold execUnitPresent
  repeat' with_reducible first
    | assumption
    | exact Keeps.refl _ _
    | (show maskIn _ _ = true; decide)
    | apply State_present_keeps
    | apply State_toTick_keeps
    | apply keepsR_next
    | apply keeps_ite
    | apply keepsR_ite
    | apply keeps_ite2
    | apply keeps_foldl
    | apply keeps_foldl2
    | apply keeps_foldl3
    | intro _
    | dsimp only
    | (fail_if_no_progress (apply keeps_mk; on_goal 2 => (constructor <;> first | exact .inr (by decide) | exact .inl rfl)))
    | split

end Sys2Proof.Machine
end

