-- ==== Sys2Proof/Laws/KeepsSessions.lean ====
section
/-! SUPPORT. Sessions: what every operation keeps. -/

namespace Sys2Proof.Machine

theorem State_sendHs_keeps {m_ : Nat} (hm : maskIn 222 m_ = true) {s_ s : State} (h_ : Keeps m_ s_ s) (ch : Option (Fin 4)) (source : List Byte) (type : Nat) (session : Nat) (body : List Byte) : Keeps m_ s_ (State.sendHs s ch source type session body) := by
  refine Keeps.after hm h_ ?_
  clear hm h_
  unfold State.sendHs
  repeat' with_reducible first
    | assumption
    | exact Keeps.refl _ _
    | (show maskIn _ _ = true; decide)
    | apply State_emit_keeps
    | apply State_freeNat_keeps
    | apply State_mbxPlace_keeps
    | apply keepsR_next
    | apply keeps_ite
    | apply keepsR_ite
    | apply keeps_ite2
    | apply keeps_foldl
    | apply keeps_foldl2
    | apply keeps_foldl3
    | intro _
    | dsimp only
    | (fail_if_no_progress (apply keeps_mk; on_goal 2 => (constructor <;> first | exact .inr (by decide) | exact .inl rfl)))
    | split

theorem State_reject_keeps {m_ : Nat} (hm : maskIn 990 m_ = true) {s_ s : State} (h_ : Keeps m_ s_ s) (ch : Option (Fin 4)) (source : List Byte) (session : Nat) (reason : Nat) : Keeps m_ s_ (State.reject s ch source session reason) := by
  refine Keeps.after hm h_ ?_
  clear hm h_
  unfold State.reject
  repeat' with_reducible first
    | assumption
    | exact Keeps.refl _ _
    | (show maskIn _ _ = true; decide)
    | apply State_raise_keeps
    | apply State_sendHs_keeps
    | apply keepsR_next
    | apply keeps_ite
    | apply keepsR_ite
    | apply keeps_ite2
    | apply keeps_foldl
    | apply keeps_foldl2
    | apply keeps_foldl3
    | intro _
    | dsimp only
    | (fail_if_no_progress (apply keeps_mk; on_goal 2 => (constructor <;> first | exact .inr (by decide) | exact .inl rfl)))
    | split

theorem State_helloRun_keeps {m_ : Nat} (hm : maskIn 990 m_ = true) {s_ s : State} (h_ : Keeps m_ s_ s) (ch : Option (Fin 4)) (source : List Byte) (nc : List Byte) (role : Nat) (keySlot : Nat) : Keeps m_ s_ (State.helloRun s ch source nc role keySlot) := by
  refine Keeps.after hm h_ ?_
  clear hm h_
  unfold State.helloRun
  repeat' with_reducible first
    | assumption
    | exact Keeps.refl _ _
    | (show maskIn _ _ = true; decide)
    | apply State_freeBytes_keeps
    | apply State_reject_keeps
    | apply State_sendHs_keeps
    | apply keepsR_next
    | apply keeps_ite
    | apply keepsR_ite
    | apply keeps_ite2
    | apply keeps_foldl
    | apply keeps_foldl2
    | apply keeps_foldl3
    | intro _
    | dsimp only
    | (fail_if_no_progress (apply keeps_mk; on_goal 2 => (constructor <;> first | exact .inr (by decide) | exact .inl rfl)))
    | split

theorem State_noteFail_keeps {m_ : Nat} (hm : maskIn 64 m_ = true) {s_ s : State} (h_ : Keeps m_ s_ s) (a : List Byte) : Keeps m_ s_ (State.noteFail s a) := by
  refine Keeps.after hm h_ ?_
  clear hm h_
  unfold State.noteFail
  repeat' with_reducible first
    | assumption
    | exact Keeps.refl _ _
    | (show maskIn _ _ = true; decide)
    | apply keepsR_next
    | apply keeps_ite
    | apply keepsR_ite
    | apply keeps_ite2
    | apply keeps_foldl
    | apply keeps_foldl2
    | apply keeps_foldl3
    | intro _
    | dsimp only
    | (fail_if_no_progress (apply keeps_mk; on_goal 2 => (constructor <;> first | exact .inr (by decide) | exact .inl rfl)))
    | split

theorem State_openSession_keeps {m_ : Nat} (hm : maskIn 970 m_ = true) {s_ s : State} (h_ : Keeps m_ s_ s) (i : Nat) (a : Attempt) : Keeps m_ s_ (State.openSession s i a) := by
  refine Keeps.after hm h_ ?_
  clear hm h_
  unfold State.openSession
  repeat' with_reducible first
    | assumption
    | exact Keeps.refl _ _
    | (show maskIn _ _ = true; decide)
    | apply State_raise_keeps
    | apply State_setSess_keeps
    | apply keepsR_next
    | apply keeps_ite
    | apply keepsR_ite
    | apply keeps_ite2
    | apply keeps_foldl
    | apply keeps_foldl2
    | apply keeps_foldl3
    | intro _
    | dsimp only
    | (fail_if_no_progress (apply keeps_mk; on_goal 2 => (constructor <;> first | exact .inr (by decide) | exact .inl rfl)))
    | split

theorem State_proofRun_keeps {m_ : Nat} (hm : maskIn 990 m_ = true) {s_ s : State} (h_ : Keeps m_ s_ s) (session : Nat) (source : List Byte) (mac : List Byte) : Keeps m_ s_ (State.proofRun s session source mac) := by
  refine Keeps.after hm h_ ?_
  clear hm h_
  unfold State.proofRun
  repeat' with_reducible first
    | assumption
    | exact Keeps.refl _ _
    | (show maskIn _ _ = true; decide)
    | apply State_noteFail_keeps
    | apply State_openSession_keeps
    | apply State_reject_keeps
    | apply State_sendHs_keeps
    | apply keepsR_next
    | apply keeps_ite
    | apply keepsR_ite
    | apply keeps_ite2
    | apply keeps_foldl
    | apply keeps_foldl2
    | apply keeps_foldl3
    | intro _
    | dsimp only
    | (fail_if_no_progress (apply keeps_mk; on_goal 2 => (constructor <;> first | exact .inr (by decide) | exact .inl rfl)))
    | split

theorem execSessionTimeout_keeps {m_ : Nat} (hm : maskIn 525290 m_ = true) {s_ s0 : State} (h_ : Keeps m_ s_ s0) (slot : Fin 36) (at_ : Nat) : KeepsR m_ s_ (execSessionTimeout slot at_ s0) := by
  refine KeepsR.after hm h_ ?_
  clear hm h_
  unfold execSessionTimeout
  repeat' with_reducible first
    | assumption
    | exact Keeps.refl _ _
    | (show maskIn _ _ = true; decide)
    | apply State_endSession_keeps
    | apply State_toTick_keeps
    | apply keepsR_next
    | apply keeps_ite
    | apply keepsR_ite
    | apply keeps_ite2
    | apply keeps_foldl
    | apply keeps_foldl2
    | apply keeps_foldl3
    | intro _
    | dsimp only
    | (fail_if_no_progress (apply keeps_mk; on_goal 2 => (constructor <;> first | exact .inr (by decide) | exact .inl rfl)))
    | split

theorem execAddressBarExpiry_keeps {m_ : Nat} (hm : maskIn 96 m_ = true) {s_ s0 : State} (h_ : Keeps m_ s_ s0) (source : List Byte) (at_ : Nat) : KeepsR m_ s_ (execAddressBarExpiry source at_ s0) := by
  refine KeepsR.after hm h_ ?_
  clear hm h_
  unfold execAddressBarExpiry
  repeat' with_reducible first
    | assumption
    | exact Keeps.refl _ _
    | (show maskIn _ _ = true; decide)
    | apply State_toTick_keeps
    | apply keepsR_next
    | apply keeps_ite
    | apply keepsR_ite
    | apply keeps_ite2
    | apply keeps_foldl
    | apply keeps_foldl2
    | apply keeps_foldl3
    | intro _
    | dsimp only
    | (fail_if_no_progress (apply keeps_mk; on_goal 2 => (constructor <;> first | exact .inr (by decide) | exact .inl rfl)))
    | split

theorem State_dropDatagram_keeps {m_ : Nat} (hm : maskIn 906 m_ = true) {s_ s : State} (h_ : Keeps m_ s_ s) (source : List Byte) (cause : Nat) : Keeps m_ s_ (State.dropDatagram s source cause) := by
  refine Keeps.after hm h_ ?_
  clear hm h_
  unfold State.dropDatagram
  repeat' with_reducible first
    | assumption
    | exact Keeps.refl _ _
    | (show maskIn _ _ = true; decide)
    | apply State_raise_keeps
    | apply keepsR_next
    | apply keeps_ite
    | apply keepsR_ite
    | apply keeps_ite2
    | apply keeps_foldl
    | apply keeps_foldl2
    | apply keeps_foldl3
    | intro _
    | dsimp only
    | (fail_if_no_progress (apply keeps_mk; on_goal 2 => (constructor <;> first | exact .inr (by decide) | exact .inl rfl)))
    | split

theorem execUdpDatagramDrop_keeps {m_ : Nat} (hm : maskIn 970 m_ = true) {s_ s : State} (h_ : Keeps m_ s_ s) (source : List Byte) (session : Word) (counter : Quad) (sealed : List Byte) (fragment : Bool) : KeepsR m_ s_ (execUdpDatagramDrop source session counter sealed fragment s) := by
  refine KeepsR.after hm h_ ?_
  clear hm h_
  unfold execUdpDatagramDrop
  repeat' with_reducible first
    | assumption
    | exact Keeps.refl _ _
    | (show maskIn _ _ = true; decide)
    | apply State_dropDatagram_keeps
    | apply State_setSess_keeps
    | apply keepsR_next
    | apply keeps_ite
    | apply keepsR_ite
    | apply keeps_ite2
    | apply keeps_foldl
    | apply keeps_foldl2
    | apply keeps_foldl3
    | intro _
    | dsimp only
    | (fail_if_no_progress (apply keeps_mk; on_goal 2 => (constructor <;> first | exact .inr (by decide) | exact .inl rfl)))
    | split

theorem State_cachedRun_keeps {m_ : Nat} (hm : maskIn 206 m_ = true) {s_ s : State} (h_ : Keeps m_ s_ s) (i : Nat) (q : Nat) : Keeps m_ s_ (State.cachedRun s i q) := by
  refine Keeps.after hm h_ ?_
  clear hm h_
  unfold State.cachedRun
  repeat' with_reducible first
    | assumption
    | exact Keeps.refl _ _
    | (show maskIn _ _ = true; decide)
    | apply State_finishMsg_keeps
    | apply State_setSess_keeps
    | apply keepsR_next
    | apply keeps_ite
    | apply keepsR_ite
    | apply keeps_ite2
    | apply keeps_foldl
    | apply keeps_foldl2
    | apply keeps_foldl3
    | intro _
    | dsimp only
    | (fail_if_no_progress (apply keeps_mk; on_goal 2 => (constructor <;> first | exact .inr (by decide) | exact .inl rfl)))
    | split

theorem execNotify_keeps {m_ : Nat} (hm : maskIn 1022 m_ = true) {s_ s0 : State} (h_ : Keeps m_ s_ s0) (slot : Fin 36) (ix : Half) (sub : Byte) (at_ : Nat) : KeepsR m_ s_ (execNotify slot ix sub at_ s0) := by
  refine KeepsR.after hm h_ ?_
  clear hm h_
  unfold execNotify
  repeat' with_reducible first
    | assumption
    | exact Keeps.refl _ _
    | (show maskIn _ _ = true; decide)
    | apply State_doNotify_keeps
    | apply State_toTick_keeps
    | apply keepsR_next
    | apply keeps_ite
    | apply keepsR_ite
    | apply keeps_ite2
    | apply keeps_foldl
    | apply keeps_foldl2
    | apply keeps_foldl3
    | intro _
    | dsimp only
    | (fail_if_no_progress (apply keeps_mk; on_goal 2 => (constructor <;> first | exact .inr (by decide) | exact .inl rfl)))
    | split

theorem State_mbxError_keeps {m_ : Nat} (hm : maskIn 138 m_ = true) {s_ s : State} (h_ : Keeps m_ s_ s) (n : Nat) (code : Nat) : Keeps m_ s_ (State.mbxError s n code) := by
  refine Keeps.after hm h_ ?_
  clear hm h_
  unfold State.mbxError
  repeat' with_reducible first
    | assumption
    | exact Keeps.refl _ _
    | (show maskIn _ _ = true; decide)
    | apply State_signal_keeps
    | apply setReg_keeps
    | apply keepsR_next
    | apply keeps_ite
    | apply keepsR_ite
    | apply keeps_ite2
    | apply keeps_foldl
    | apply keeps_foldl2
    | apply keeps_foldl3
    | intro _
    | dsimp only
    | (fail_if_no_progress (apply keeps_mk; on_goal 2 => (constructor <;> first | exact .inr (by decide) | exact .inl rfl)))
    | split

theorem State_discardRun_keeps {m_ : Nat} (hm : maskIn 222 m_ = true) {s_ s : State} (h_ : Keeps m_ s_ s) (ch : Option (Fin 4)) (code : Nat) : Keeps m_ s_ (State.discardRun s ch code) := by
  refine Keeps.after hm h_ ?_
  clear hm h_
  unfold State.discardRun
  repeat' with_reducible first
    | assumption
    | exact Keeps.refl _ _
    | (show maskIn _ _ = true; decide)
    | apply State_mbxError_keeps
    | apply State_mbxNotify_keeps
    | apply setReg_keeps
    | apply keepsR_next
    | apply keeps_ite
    | apply keepsR_ite
    | apply keeps_ite2
    | apply keeps_foldl
    | apply keeps_foldl2
    | apply keeps_foldl3
    | intro _
    | dsimp only
    | (fail_if_no_progress (apply keeps_mk; on_goal 2 => (constructor <;> first | exact .inr (by decide) | exact .inl rfl)))
    | split

theorem State_mbxDoorbell_keeps {m_ : Nat} (hm : maskIn 138 m_ = true) {s_ s : State} (h_ : Keeps m_ s_ s) (n : Nat) (w : Nat) : Keeps m_ s_ (State.mbxDoorbell s n w) := by
  refine Keeps.after hm h_ ?_
  clear hm h_
  unfold State.mbxDoorbell
  repeat' with_reducible first
    | assumption
    | exact Keeps.refl _ _
    | (show maskIn _ _ = true; decide)
    | apply State_mbxError_keeps
    | apply setReg_keeps
    | apply keepsR_next
    | apply keeps_ite
    | apply keepsR_ite
    | apply keeps_ite2
    | apply keeps_foldl
    | apply keeps_foldl2
    | apply keeps_foldl3
    | intro _
    | dsimp only
    | (fail_if_no_progress (apply keeps_mk; on_goal 2 => (constructor <;> first | exact .inr (by decide) | exact .inl rfl)))
    | split

theorem execMbxDoorbell_keeps {m_ : Nat} (hm : maskIn 138 m_ = true) {s_ s : State} (h_ : Keeps m_ s_ s) (ch : Fin 4) (w : Word) : KeepsR m_ s_ (execMbxDoorbell ch w s) := by
  refine KeepsR.after hm h_ ?_
  clear hm h_
  unfold execMbxDoorbell
  repeat' with_reducible first
    | assumption
    | exact Keeps.refl _ _
    | (show maskIn _ _ = true; decide)
    | apply State_mbxDoorbell_keeps
    | apply keepsR_next
    | apply keeps_ite
    | apply keepsR_ite
    | apply keeps_ite2
    | apply keeps_foldl
    | apply keeps_foldl2
    | apply keeps_foldl3
    | intro _
    | dsimp only
    | (fail_if_no_progress (apply keeps_mk; on_goal 2 => (constructor <;> first | exact .inr (by decide) | exact .inl rfl)))
    | split

theorem State_mbxRelease_keeps {m_ : Nat} (hm : maskIn 222 m_ = true) {s_ s : State} (h_ : Keeps m_ s_ s) (n : Nat) (w : Nat) : Keeps m_ s_ (State.mbxRelease s n w) := by
  refine Keeps.after hm h_ ?_
  clear hm h_
  unfold State.mbxRelease
  repeat' with_reducible first
    | assumption
    | exact Keeps.refl _ _
    | (show maskIn _ _ = true; decide)
    | apply State_mbxNotify_keeps
    | apply State_mbxPlace_keeps
    | apply setReg_keeps
    | apply keepsR_next
    | apply keeps_ite
    | apply keepsR_ite
    | apply keeps_ite2
    | apply keeps_foldl
    | apply keeps_foldl2
    | apply keeps_foldl3
    | intro _
    | dsimp only
    | (fail_if_no_progress (apply keeps_mk; on_goal 2 => (constructor <;> first | exact .inr (by decide) | exact .inl rfl)))
    | split

theorem execMbxBufferRelease_keeps {m_ : Nat} (hm : maskIn 222 m_ = true) {s_ s : State} (h_ : Keeps m_ s_ s) (ch : Fin 4) (w : Word) : KeepsR m_ s_ (execMbxBufferRelease ch w s) := by
  refine KeepsR.after hm h_ ?_
  clear hm h_
  unfold execMbxBufferRelease
  repeat' with_reducible first
    | assumption
    | exact Keeps.refl _ _
    | (show maskIn _ _ = true; decide)
    | apply State_mbxRelease_keeps
    | apply keepsR_next
    | apply keeps_ite
    | apply keepsR_ite
    | apply keeps_ite2
    | apply keeps_foldl
    | apply keeps_foldl2
    | apply keeps_foldl3
    | intro _
    | dsimp only
    | (fail_if_no_progress (apply keeps_mk; on_goal 2 => (constructor <;> first | exact .inr (by decide) | exact .inl rfl)))
    | split

end Sys2Proof.Machine
end

