-- ==== Sys2Proof/Laws/KeepsRecords.lean ====
section
/-! SUPPORT. Records: what every operation keeps. -/

namespace Sys2Proof.Machine

theorem recordOf_keeps {i : Instr} {r : RecCall} (h : recordOf i = some r) (x : State) : Keeps 1048575 x (r.run x).2 := by
  have e := Keeps.refl 1048575 x
  unfold recordOf at h
  split at h <;> first | (cases h; done) | (cases h; dsimp only)
  all_goals with_reducible first
    | exact e
    | apply State_doWrite_keeps (by decide) e
    | apply State_doRead_keeps (by decide) e
    | apply State_doEnable_keeps (by decide) e
    | apply State_doReadSeg_keeps (by decide) e
    | (unfold answer1
       first
         | apply State_doDiscard_keeps (by decide) e
         | apply State_doSubscribe_keeps (by decide) e
         | apply State_doUnsubscribe_keeps (by decide) e
         | apply State_doWriteSeg_keeps (by decide) e)

theorem State_recDeny_keeps {m_ : Nat} (hm : maskIn 906 m_ = true) {s_ s : State} (h_ : Keeps m_ s_ s) (i : Instr) (r : RecCall) : Keeps m_ s_ (State.recDeny s i r) := by
  refine Keeps.after hm h_ ?_
  clear hm h_
  unfold State.recDeny
  repeat' with_reducible first
    | assumption
    | exact Keeps.refl _ _
    | (show maskIn _ _ = true; decide)
    | apply State_recordRefused_keeps
    | apply keepsR_next
    | apply keeps_ite
    | apply keepsR_ite
    | apply keeps_ite2
    | apply keeps_foldl
    | apply keeps_foldl2
    | apply keeps_foldl3
    | intro _
    | dsimp only
    | (fail_if_no_progress (apply keeps_mk; on_goal 2 => (constructor <;> first | exact .inr (by decide) | exact .inl rfl)))
    | split

theorem State_runMsg_keeps {m_ : Nat} (hm : maskIn 525278 m_ = true) {s_ s : State} (h_ : Keeps m_ s_ s) (i : Instr) : Keeps m_ s_ (State.runMsg s i) := by
  refine Keeps.after hm h_ ?_
  clear hm h_
  unfold State.runMsg
  repeat' with_reducible first
    | assumption
    | exact Keeps.refl _ _
    | (show maskIn _ _ = true; decide)
    | apply State_cachedRun_keeps
    | apply State_discardRun_keeps
    | apply State_endSession_keeps
    | apply State_helloRun_keeps
    | apply State_proofRun_keeps
    | apply keepsR_next
    | apply keeps_ite
    | apply keepsR_ite
    | apply keeps_ite2
    | apply keeps_foldl
    | apply keeps_foldl2
    | apply keeps_foldl3
    | intro _
    | dsimp only
    | (fail_if_no_progress (apply keeps_mk; on_goal 2 => (constructor <;> first | exact .inr (by decide) | exact .inl rfl)))
    | split

theorem State_runTurn_keeps {m_ : Nat} (hm : maskIn 1048575 m_ = true) {s_ s : State} (h_ : Keeps m_ s_ s) (i : Instr) :
    Keeps m_ s_ (State.runTurn s i) := by
  refine Keeps.after hm h_ ?_
  unfold State.runTurn
  split
  · rename_i r h
    exact State_withRec_keeps (by decide) (Keeps.refl _ _) _ _ _
      (fun x => State_recDeny_keeps (by decide) (Keeps.refl _ _) _ _) (recordOf_keeps h)
  · split
    · exact State_runMsg_keeps (by decide) (Keeps.refl _ _) _
    · exact State_holdBehind_keeps (by decide) (Keeps.refl _ _) _ _

theorem State_runBlocked_keeps {m_ : Nat} (hm : maskIn 1048575 m_ = true) {s_ s : State} (h_ : Keeps m_ s_ s)  : Keeps m_ s_ (State.runBlocked s) := by
  refine Keeps.after hm h_ ?_
  clear hm h_
  unfold State.runBlocked
  repeat' with_reducible first
    | assumption
    | exact Keeps.refl _ _
    | (show maskIn _ _ = true; decide)
    | apply State_runTurn_keeps
    | apply keepsR_next
    | apply keeps_ite
    | apply keepsR_ite
    | apply keeps_ite2
    | apply keeps_foldl
    | apply keeps_foldl2
    | apply keeps_foldl3
    | intro _
    | dsimp only
    | (fail_if_no_progress (apply keeps_mk; on_goal 2 => (constructor <;> first | exact .inr (by decide) | exact .inl rfl)))
    | split

theorem State_runRecord_keeps {m_ : Nat} (hm : maskIn 1048575 m_ = true) {s_ s : State} (h_ : Keeps m_ s_ s) (i : Instr) : Keeps m_ s_ (State.runRecord s i) := by
  refine Keeps.after hm h_ ?_
  clear hm h_
  unfold State.runRecord
  repeat' with_reducible first
    | assumption
    | exact Keeps.refl _ _
    | (show maskIn _ _ = true; decide)
    | apply State_runBlocked_keeps
    | apply State_runTurn_keeps
    | apply keepsR_next
    | apply keeps_ite
    | apply keepsR_ite
    | apply keeps_ite2
    | apply keeps_foldl
    | apply keeps_foldl2
    | apply keeps_foldl3
    | intro _
    | dsimp only
    | (fail_if_no_progress (apply keeps_mk; on_goal 2 => (constructor <;> first | exact .inr (by decide) | exact .inl rfl)))
    | split

theorem State_runMessage_keeps {m_ : Nat} (hm : maskIn 1048575 m_ = true) {s_ s : State} (h_ : Keeps m_ s_ s) (i : Instr) : Keeps m_ s_ (State.runMessage s i) := by
  refine Keeps.after hm h_ ?_
  clear hm h_
  unfold State.runMessage
  repeat' with_reducible first
    | assumption
    | exact Keeps.refl _ _
    | (show maskIn _ _ = true; decide)
    | apply State_holdRec_keeps
    | apply State_runRecord_keeps
    | apply keepsR_next
    | apply keeps_ite
    | apply keepsR_ite
    | apply keeps_ite2
    | apply keeps_foldl
    | apply keeps_foldl2
    | apply keeps_foldl3
    | intro _
    | dsimp only
    | (fail_if_no_progress (apply keeps_mk; on_goal 2 => (constructor <;> first | exact .inr (by decide) | exact .inl rfl)))
    | split

theorem execHello_keeps {m_ : Nat} (hm : maskIn 1048575 m_ = true) {s_ s : State} (h_ : Keeps m_ s_ s) (ch : Option (Fin 4)) (source : List Byte) (nc : List Byte) (role : Byte) (keySlot : Half) : KeepsR m_ s_ (execHello ch source nc role keySlot s) := by
  refine KeepsR.after hm h_ ?_
  clear hm h_
  unfold execHello
  repeat' with_reducible first
    | assumption
    | exact Keeps.refl _ _
    | (show maskIn _ _ = true; decide)
    | apply State_runMessage_keeps
    | apply keepsR_next
    | apply keeps_ite
    | apply keepsR_ite
    | apply keeps_ite2
    | apply keeps_foldl
    | apply keeps_foldl2
    | apply keeps_foldl3
    | intro _
    | dsimp only
    | (fail_if_no_progress (apply keeps_mk; on_goal 2 => (constructor <;> first | exact .inr (by decide) | exact .inl rfl)))
    | split

theorem execProof_keeps {m_ : Nat} (hm : maskIn 1048575 m_ = true) {s_ s : State} (h_ : Keeps m_ s_ s) (session : Word) (source : List Byte) (mac : List Byte) : KeepsR m_ s_ (execProof session source mac s) := by
  refine KeepsR.after hm h_ ?_
  clear hm h_
  unfold execProof
  repeat' with_reducible first
    | assumption
    | exact Keeps.refl _ _
    | (show maskIn _ _ = true; decide)
    | apply State_runMessage_keeps
    | apply keepsR_next
    | apply keeps_ite
    | apply keepsR_ite
    | apply keeps_ite2
    | apply keeps_foldl
    | apply keeps_foldl2
    | apply keeps_foldl3
    | intro _
    | dsimp only
    | (fail_if_no_progress (apply keeps_mk; on_goal 2 => (constructor <;> first | exact .inr (by decide) | exact .inl rfl)))
    | split

theorem execClose_keeps {m_ : Nat} (hm : maskIn 1048575 m_ = true) {s_ s : State} (h_ : Keeps m_ s_ s) (slot : Fin 36) : KeepsR m_ s_ (execClose slot s) := by
  refine KeepsR.after hm h_ ?_
  clear hm h_
  unfold execClose
  repeat' with_reducible first
    | assumption
    | exact Keeps.refl _ _
    | (show maskIn _ _ = true; decide)
    | apply State_runMessage_keeps
    | apply keepsR_next
    | apply keeps_ite
    | apply keepsR_ite
    | apply keeps_ite2
    | apply keeps_foldl
    | apply keeps_foldl2
    | apply keeps_foldl3
    | intro _
    | dsimp only
    | (fail_if_no_progress (apply keeps_mk; on_goal 2 => (constructor <;> first | exact .inr (by decide) | exact .inl rfl)))
    | split

theorem execCachedResponse_keeps {m_ : Nat} (hm : maskIn 1048575 m_ = true) {s_ s : State} (h_ : Keeps m_ s_ s) (slot : Fin 36) (seq : Word) : KeepsR m_ s_ (execCachedResponse slot seq s) := by
  refine KeepsR.after hm h_ ?_
  clear hm h_
  unfold execCachedResponse
  repeat' with_reducible first
    | assumption
    | exact Keeps.refl _ _
    | (show maskIn _ _ = true; decide)
    | apply State_runMessage_keeps
    | apply keepsR_next
    | apply keeps_ite
    | apply keepsR_ite
    | apply keeps_ite2
    | apply keeps_foldl
    | apply keeps_foldl2
    | apply keeps_foldl3
    | intro _
    | dsimp only
    | (fail_if_no_progress (apply keeps_mk; on_goal 2 => (constructor <;> first | exact .inr (by decide) | exact .inl rfl)))
    | split

theorem execMessageDiscard_keeps {m_ : Nat} (hm : maskIn 1048575 m_ = true) {s_ s : State} (h_ : Keeps m_ s_ s) (ch : Option (Fin 4)) (code : Fin 3) : KeepsR m_ s_ (execMessageDiscard ch code s) := by
  refine KeepsR.after hm h_ ?_
  clear hm h_
  unfold execMessageDiscard
  repeat' with_reducible first
    | assumption
    | exact Keeps.refl _ _
    | (show maskIn _ _ = true; decide)
    | apply State_runMessage_keeps
    | apply keepsR_next
    | apply keeps_ite
    | apply keepsR_ite
    | apply keeps_ite2
    | apply keeps_foldl
    | apply keeps_foldl2
    | apply keeps_foldl3
    | intro _
    | dsimp only
    | (fail_if_no_progress (apply keeps_mk; on_goal 2 => (constructor <;> first | exact .inr (by decide) | exact .inl rfl)))
    | split

theorem execNop_keeps {m_ : Nat} (hm : maskIn 1048575 m_ = true) {s_ s : State} (h_ : Keeps m_ s_ s) (c : Ctx) : KeepsR m_ s_ (execNop c s) := by
  refine KeepsR.after hm h_ ?_
  clear hm h_
  unfold execNop
  repeat' with_reducible first
    | assumption
    | exact Keeps.refl _ _
    | (show maskIn _ _ = true; decide)
    | apply State_runRecord_keeps
    | apply keepsR_next
    | apply keeps_ite
    | apply keepsR_ite
    | apply keeps_ite2
    | apply keeps_foldl
    | apply keeps_foldl2
    | apply keeps_foldl3
    | intro _
    | dsimp only
    | (fail_if_no_progress (apply keeps_mk; on_goal 2 => (constructor <;> first | exact .inr (by decide) | exact .inl rfl)))
    | split

theorem execRead_keeps {m_ : Nat} (hm : maskIn 1048575 m_ = true) {s_ s : State} (h_ : Keeps m_ s_ s) (c : Ctx) (ix : Half) (sub : Byte) : KeepsR m_ s_ (execRead c ix sub s) := by
  refine KeepsR.after hm h_ ?_
  clear hm h_
  unfold execRead
  repeat' with_reducible first
    | assumption
    | exact Keeps.refl _ _
    | (show maskIn _ _ = true; decide)
    | apply State_runRecord_keeps
    | apply keepsR_next
    | apply keeps_ite
    | apply keepsR_ite
    | apply keeps_ite2
    | apply keeps_foldl
    | apply keeps_foldl2
    | apply keeps_foldl3
    | intro _
    | dsimp only
    | (fail_if_no_progress (apply keeps_mk; on_goal 2 => (constructor <;> first | exact .inr (by decide) | exact .inl rfl)))
    | split

theorem execWrite_keeps {m_ : Nat} (hm : maskIn 1048575 m_ = true) {s_ s : State} (h_ : Keeps m_ s_ s) (c : Ctx) (ix : Half) (sub : Byte) (ty : Byte) (value : List Byte) : KeepsR m_ s_ (execWrite c ix sub ty value s) := by
  refine KeepsR.after hm h_ ?_
  clear hm h_
  unfold execWrite
  repeat' with_reducible first
    | assumption
    | exact Keeps.refl _ _
    | (show maskIn _ _ = true; decide)
    | apply State_runRecord_keeps
    | apply keepsR_next
    | apply keeps_ite
    | apply keepsR_ite
    | apply keeps_ite2
    | apply keeps_foldl
    | apply keeps_foldl2
    | apply keeps_foldl3
    | intro _
    | dsimp only
    | (fail_if_no_progress (apply keeps_mk; on_goal 2 => (constructor <;> first | exact .inr (by decide) | exact .inl rfl)))
    | split

theorem execEnableCommit_keeps {m_ : Nat} (hm : maskIn 1048575 m_ = true) {s_ s : State} (h_ : Keeps m_ s_ s) (c : Ctx) (chain : List EnRec) (dangling : Bool) : KeepsR m_ s_ (execEnableCommit c chain dangling s) := by
  refine KeepsR.after hm h_ ?_
  clear hm h_
  unfold execEnableCommit
  repeat' with_reducible first
    | assumption
    | exact Keeps.refl _ _
    | (show maskIn _ _ = true; decide)
    | apply State_runRecord_keeps
    | apply keepsR_next
    | apply keeps_ite
    | apply keepsR_ite
    | apply keeps_ite2
    | apply keeps_foldl
    | apply keeps_foldl2
    | apply keeps_foldl3
    | intro _
    | dsimp only
    | (fail_if_no_progress (apply keeps_mk; on_goal 2 => (constructor <;> first | exact .inr (by decide) | exact .inl rfl)))
    | split

theorem execEnableDiscard_keeps {m_ : Nat} (hm : maskIn 1048575 m_ = true) {s_ s : State} (h_ : Keeps m_ s_ s) (c : Ctx) (area : Half) : KeepsR m_ s_ (execEnableDiscard c area s) := by
  refine KeepsR.after hm h_ ?_
  clear hm h_
  unfold execEnableDiscard
  repeat' with_reducible first
    | assumption
    | exact Keeps.refl _ _
    | (show maskIn _ _ = true; decide)
    | apply State_runRecord_keeps
    | apply keepsR_next
    | apply keeps_ite
    | apply keepsR_ite
    | apply keeps_ite2
    | apply keeps_foldl
    | apply keeps_foldl2
    | apply keeps_foldl3
    | intro _
    | dsimp only
    | (fail_if_no_progress (apply keeps_mk; on_goal 2 => (constructor <;> first | exact .inr (by decide) | exact .inl rfl)))
    | split

theorem execDiscard_keeps {m_ : Nat} (hm : maskIn 1048575 m_ = true) {s_ s : State} (h_ : Keeps m_ s_ s) (c : Ctx) (area : Half) : KeepsR m_ s_ (execDiscard c area s) := by
  refine KeepsR.after hm h_ ?_
  clear hm h_
  unfold execDiscard
  repeat' with_reducible first
    | assumption
    | exact Keeps.refl _ _
    | (show maskIn _ _ = true; decide)
    | apply State_runRecord_keeps
    | apply keepsR_next
    | apply keeps_ite
    | apply keepsR_ite
    | apply keeps_ite2
    | apply keeps_foldl
    | apply keeps_foldl2
    | apply keeps_foldl3
    | intro _
    | dsimp only
    | (fail_if_no_progress (apply keeps_mk; on_goal 2 => (constructor <;> first | exact .inr (by decide) | exact .inl rfl)))
    | split

theorem execSubscribe_keeps {m_ : Nat} (hm : maskIn 1048575 m_ = true) {s_ s : State} (h_ : Keeps m_ s_ s) (c : Ctx) (ix : Half) (sub : Byte) (value : List Byte) : KeepsR m_ s_ (execSubscribe c ix sub value s) := by
  refine KeepsR.after hm h_ ?_
  clear hm h_
  unfold execSubscribe
  repeat' with_reducible first
    | assumption
    | exact Keeps.refl _ _
    | (show maskIn _ _ = true; decide)
    | apply State_runRecord_keeps
    | apply keepsR_next
    | apply keeps_ite
    | apply keepsR_ite
    | apply keeps_ite2
    | apply keeps_foldl
    | apply keeps_foldl2
    | apply keeps_foldl3
    | intro _
    | dsimp only
    | (fail_if_no_progress (apply keeps_mk; on_goal 2 => (constructor <;> first | exact .inr (by decide) | exact .inl rfl)))
    | split

theorem execUnsubscribe_keeps {m_ : Nat} (hm : maskIn 1048575 m_ = true) {s_ s : State} (h_ : Keeps m_ s_ s) (c : Ctx) (ix : Half) (sub : Byte) : KeepsR m_ s_ (execUnsubscribe c ix sub s) := by
  refine KeepsR.after hm h_ ?_
  clear hm h_
  unfold execUnsubscribe
  repeat' with_reducible first
    | assumption
    | exact Keeps.refl _ _
    | (show maskIn _ _ = true; decide)
    | apply State_runRecord_keeps
    | apply keepsR_next
    | apply keeps_ite
    | apply keepsR_ite
    | apply keeps_ite2
    | apply keeps_foldl
    | apply keeps_foldl2
    | apply keeps_foldl3
    | intro _
    | dsimp only
    | (fail_if_no_progress (apply keeps_mk; on_goal 2 => (constructor <;> first | exact .inr (by decide) | exact .inl rfl)))
    | split

theorem execReadSegment_keeps {m_ : Nat} (hm : maskIn 1048575 m_ = true) {s_ s : State} (h_ : Keeps m_ s_ s) (c : Ctx) (ix : Half) (sub : Byte) (offset : Word) : KeepsR m_ s_ (execReadSegment c ix sub offset s) := by
  refine KeepsR.after hm h_ ?_
  clear hm h_
  unfold execReadSegment
  repeat' with_reducible first
    | assumption
    | exact Keeps.refl _ _
    | (show maskIn _ _ = true; decide)
    | apply State_runRecord_keeps
    | apply keepsR_next
    | apply keeps_ite
    | apply keepsR_ite
    | apply keeps_ite2
    | apply keeps_foldl
    | apply keeps_foldl2
    | apply keeps_foldl3
    | intro _
    | dsimp only
    | (fail_if_no_progress (apply keeps_mk; on_goal 2 => (constructor <;> first | exact .inr (by decide) | exact .inl rfl)))
    | split

theorem execWriteSegment_keeps {m_ : Nat} (hm : maskIn 1048575 m_ = true) {s_ s : State} (h_ : Keeps m_ s_ s) (c : Ctx) (ix : Half) (sub : Byte) (offset : Word) (data : List Byte) (endFlag : Bool) : KeepsR m_ s_ (execWriteSegment c ix sub offset data endFlag s) := by
  refine KeepsR.after hm h_ ?_
  clear hm h_
  unfold execWriteSegment
  repeat' with_reducible first
    | assumption
    | exact Keeps.refl _ _
    | (show maskIn _ _ = true; decide)
    | apply State_runRecord_keeps
    | apply keepsR_next
    | apply keeps_ite
    | apply keepsR_ite
    | apply keeps_ite2
    | apply keeps_foldl
    | apply keeps_foldl2
    | apply keeps_foldl3
    | intro _
    | dsimp only
    | (fail_if_no_progress (apply keeps_mk; on_goal 2 => (constructor <;> first | exact .inr (by decide) | exact .inl rfl)))
    | split

theorem execDescribe_keeps {m_ : Nat} (hm : maskIn 1048575 m_ = true) {s_ s : State} (h_ : Keeps m_ s_ s) (c : Ctx) (ix : Half) (sub : Byte) : KeepsR m_ s_ (execDescribe c ix sub s) := by
  refine KeepsR.after hm h_ ?_
  clear hm h_
  unfold execDescribe
  repeat' with_reducible first
    | assumption
    | exact Keeps.refl _ _
    | (show maskIn _ _ = true; decide)
    | apply State_runRecord_keeps
    | apply keepsR_next
    | apply keeps_ite
    | apply keepsR_ite
    | apply keeps_ite2
    | apply keeps_foldl
    | apply keeps_foldl2
    | apply keeps_foldl3
    | intro _
    | dsimp only
    | (fail_if_no_progress (apply keeps_mk; on_goal 2 => (constructor <;> first | exact .inr (by decide) | exact .inl rfl)))
    | split

theorem execCloseNow_keeps {m_ : Nat} (hm : maskIn 1048575 m_ = true) {s_ s : State} (h_ : Keeps m_ s_ s) (c : Ctx) (target : Fin 36) : KeepsR m_ s_ (execCloseNow c target s) := by
  refine KeepsR.after hm h_ ?_
  clear hm h_
  unfold execCloseNow
  repeat' with_reducible first
    | assumption
    | exact Keeps.refl _ _
    | (show maskIn _ _ = true; decide)
    | apply State_runRecord_keeps
    | apply keepsR_next
    | apply keeps_ite
    | apply keepsR_ite
    | apply keeps_ite2
    | apply keeps_foldl
    | apply keeps_foldl2
    | apply keeps_foldl3
    | intro _
    | dsimp only
    | (fail_if_no_progress (apply keeps_mk; on_goal 2 => (constructor <;> first | exact .inr (by decide) | exact .inl rfl)))
    | split

theorem execCountersClear_keeps {m_ : Nat} (hm : maskIn 1048575 m_ = true) {s_ s : State} (h_ : Keeps m_ s_ s) (c : Ctx) (ix : Half) : KeepsR m_ s_ (execCountersClear c ix s) := by
  refine KeepsR.after hm h_ ?_
  clear hm h_
  unfold execCountersClear
  repeat' with_reducible first
    | assumption
    | exact Keeps.refl _ _
    | (show maskIn _ _ = true; decide)
    | apply State_runRecord_keeps
    | apply keepsR_next
    | apply keeps_ite
    | apply keepsR_ite
    | apply keeps_ite2
    | apply keeps_foldl
    | apply keeps_foldl2
    | apply keeps_foldl3
    | intro _
    | dsimp only
    | (fail_if_no_progress (apply keeps_mk; on_goal 2 => (constructor <;> first | exact .inr (by decide) | exact .inl rfl)))
    | split

theorem execRealign_keeps {m_ : Nat} (hm : maskIn 1048575 m_ = true) {s_ s : State} (h_ : Keeps m_ s_ s) (c : Ctx) (slot : Fin 256) (value : Byte) : KeepsR m_ s_ (execRealign c slot value s) := by
  refine KeepsR.after hm h_ ?_
  clear hm h_
  unfold execRealign
  repeat' with_reducible first
    | assumption
    | exact Keeps.refl _ _
    | (show maskIn _ _ = true; decide)
    | apply State_runRecord_keeps
    | apply keepsR_next
    | apply keeps_ite
    | apply keepsR_ite
    | apply keeps_ite2
    | apply keeps_foldl
    | apply keeps_foldl2
    | apply keeps_foldl3
    | intro _
    | dsimp only
    | (fail_if_no_progress (apply keeps_mk; on_goal 2 => (constructor <;> first | exact .inr (by decide) | exact .inl rfl)))
    | split

theorem execPrbsInject_keeps {m_ : Nat} (hm : maskIn 1048575 m_ = true) {s_ s : State} (h_ : Keeps m_ s_ s) (c : Ctx) (f : Fin 128) (value : Half) : KeepsR m_ s_ (execPrbsInject c f value s) := by
  refine KeepsR.after hm h_ ?_
  clear hm h_
  unfold execPrbsInject
  repeat' with_reducible first
    | assumption
    | exact Keeps.refl _ _
    | (show maskIn _ _ = true; decide)
    | apply State_prbsInject_keeps
    | apply State_runRecord_keeps
    | apply keepsR_next
    | apply keeps_ite
    | apply keepsR_ite
    | apply keeps_ite2
    | apply keeps_foldl
    | apply keeps_foldl2
    | apply keeps_foldl3
    | intro _
    | dsimp only
    | (fail_if_no_progress (apply keeps_mk; on_goal 2 => (constructor <;> first | exact .inr (by decide) | exact .inl rfl)))
    | split

theorem execRetrain_keeps {m_ : Nat} (hm : maskIn 1048575 m_ = true) {s_ s : State} (h_ : Keeps m_ s_ s) (c : Ctx) (f : Fin 128) (value : Byte) : KeepsR m_ s_ (execRetrain c f value s) := by
  refine KeepsR.after hm h_ ?_
  clear hm h_
  unfold execRetrain
  repeat' with_reducible first
    | assumption
    | exact Keeps.refl _ _
    | (show maskIn _ _ = true; decide)
    | apply State_runRecord_keeps
    | apply keepsR_next
    | apply keeps_ite
    | apply keepsR_ite
    | apply keeps_ite2
    | apply keeps_foldl
    | apply keeps_foldl2
    | apply keeps_foldl3
    | intro _
    | dsimp only
    | (fail_if_no_progress (apply keeps_mk; on_goal 2 => (constructor <;> first | exact .inr (by decide) | exact .inl rfl)))
    | split

theorem execTakeBatch_keeps {m_ : Nat} (hm : maskIn 1048575 m_ = true) {s_ s : State} (h_ : Keeps m_ s_ s) (c : Ctx) (value : List Byte) : KeepsR m_ s_ (execTakeBatch c value s) := by
  refine KeepsR.after hm h_ ?_
  clear hm h_
  unfold execTakeBatch
  repeat' with_reducible first
    | assumption
    | exact Keeps.refl _ _
    | (show maskIn _ _ = true; decide)
    | apply State_runRecord_keeps
    | apply keepsR_next
    | apply keeps_ite
    | apply keepsR_ite
    | apply keeps_ite2
    | apply keeps_foldl
    | apply keeps_foldl2
    | apply keeps_foldl3
    | intro _
    | dsimp only
    | (fail_if_no_progress (apply keeps_mk; on_goal 2 => (constructor <;> first | exact .inr (by decide) | exact .inl rfl)))
    | split

theorem execTakeStateWrite_keeps {m_ : Nat} (hm : maskIn 1048575 m_ = true) {s_ s : State} (h_ : Keeps m_ s_ s) (c : Ctx) (o : Fin 128) (sub : Byte) (ty : Byte) (value : List Byte) : KeepsR m_ s_ (execTakeStateWrite c o sub ty value s) := by
  refine KeepsR.after hm h_ ?_
  clear hm h_
  unfold execTakeStateWrite
  repeat' with_reducible first
    | assumption
    | exact Keeps.refl _ _
    | (show maskIn _ _ = true; decide)
    | apply State_runRecord_keeps
    | apply keepsR_next
    | apply keeps_ite
    | apply keepsR_ite
    | apply keeps_ite2
    | apply keeps_foldl
    | apply keeps_foldl2
    | apply keeps_foldl3
    | intro _
    | dsimp only
    | (fail_if_no_progress (apply keeps_mk; on_goal 2 => (constructor <;> first | exact .inr (by decide) | exact .inl rfl)))
    | split

theorem execPortSidWrite_keeps {m_ : Nat} (hm : maskIn 1048575 m_ = true) {s_ s : State} (h_ : Keeps m_ s_ s) (c : Ctx) (ix : Half) (sub : Byte) (ty : Byte) (value : List Byte) : KeepsR m_ s_ (execPortSidWrite c ix sub ty value s) := by
  refine KeepsR.after hm h_ ?_
  clear hm h_
  unfold execPortSidWrite
  repeat' with_reducible first
    | assumption
    | exact Keeps.refl _ _
    | (show maskIn _ _ = true; decide)
    | apply State_runRecord_keeps
    | apply keepsR_next
    | apply keeps_ite
    | apply keepsR_ite
    | apply keeps_ite2
    | apply keeps_foldl
    | apply keeps_foldl2
    | apply keeps_foldl3
    | intro _
    | dsimp only
    | (fail_if_no_progress (apply keeps_mk; on_goal 2 => (constructor <;> first | exact .inr (by decide) | exact .inl rfl)))
    | split

theorem execSelfCheck_keeps {m_ : Nat} (hm : maskIn 1048575 m_ = true) {s_ s : State} (h_ : Keeps m_ s_ s) (c : Ctx) (e : Fin 16) (value : Byte) : KeepsR m_ s_ (execSelfCheck c e value s) := by
  refine KeepsR.after hm h_ ?_
  clear hm h_
  unfold execSelfCheck
  repeat' with_reducible first
    | assumption
    | exact Keeps.refl _ _
    | (show maskIn _ _ = true; decide)
    | apply State_runRecord_keeps
    | apply keepsR_next
    | apply keeps_ite
    | apply keepsR_ite
    | apply keeps_ite2
    | apply keeps_foldl
    | apply keeps_foldl2
    | apply keeps_foldl3
    | intro _
    | dsimp only
    | (fail_if_no_progress (apply keeps_mk; on_goal 2 => (constructor <;> first | exact .inr (by decide) | exact .inl rfl)))
    | split

theorem execTimeSet_keeps {m_ : Nat} (hm : maskIn 1048575 m_ = true) {s_ s : State} (h_ : Keeps m_ s_ s) (c : Ctx) (ty : Byte) (value : List Byte) : KeepsR m_ s_ (execTimeSet c ty value s) := by
  refine KeepsR.after hm h_ ?_
  clear hm h_
  unfold execTimeSet
  repeat' with_reducible first
    | assumption
    | exact Keeps.refl _ _
    | (show maskIn _ _ = true; decide)
    | apply State_runRecord_keeps
    | apply keepsR_next
    | apply keeps_ite
    | apply keepsR_ite
    | apply keeps_ite2
    | apply keeps_foldl
    | apply keeps_foldl2
    | apply keeps_foldl3
    | intro _
    | dsimp only
    | (fail_if_no_progress (apply keeps_mk; on_goal 2 => (constructor <;> first | exact .inr (by decide) | exact .inl rfl)))
    | split

theorem execTimeStep_keeps {m_ : Nat} (hm : maskIn 1048575 m_ = true) {s_ s : State} (h_ : Keeps m_ s_ s) (c : Ctx) (ty : Byte) (value : List Byte) : KeepsR m_ s_ (execTimeStep c ty value s) := by
  refine KeepsR.after hm h_ ?_
  clear hm h_
  unfold execTimeStep
  repeat' with_reducible first
    | assumption
    | exact Keeps.refl _ _
    | (show maskIn _ _ = true; decide)
    | apply State_runRecord_keeps
    | apply keepsR_next
    | apply keeps_ite
    | apply keepsR_ite
    | apply keeps_ite2
    | apply keeps_foldl
    | apply keeps_foldl2
    | apply keeps_foldl3
    | intro _
    | dsimp only
    | (fail_if_no_progress (apply keeps_mk; on_goal 2 => (constructor <;> first | exact .inr (by decide) | exact .inl rfl)))
    | split

theorem execJumpOverride_keeps {m_ : Nat} (hm : maskIn 1048575 m_ = true) {s_ s : State} (h_ : Keeps m_ s_ s) (c : Ctx) (value : Byte) : KeepsR m_ s_ (execJumpOverride c value s) := by
  refine KeepsR.after hm h_ ?_
  clear hm h_
  unfold execJumpOverride
  repeat' with_reducible first
    | assumption
    | exact Keeps.refl _ _
    | (show maskIn _ _ = true; decide)
    | apply State_runRecord_keeps
    | apply keepsR_next
    | apply keeps_ite
    | apply keepsR_ite
    | apply keeps_ite2
    | apply keeps_foldl
    | apply keeps_foldl2
    | apply keeps_foldl3
    | intro _
    | dsimp only
    | (fail_if_no_progress (apply keeps_mk; on_goal 2 => (constructor <;> first | exact .inr (by decide) | exact .inl rfl)))
    | split

theorem execRelinquish_keeps {m_ : Nat} (hm : maskIn 1048575 m_ = true) {s_ s : State} (h_ : Keeps m_ s_ s) (c : Ctx) (value : Byte) : KeepsR m_ s_ (execRelinquish c value s) := by
  refine KeepsR.after hm h_ ?_
  clear hm h_
  unfold execRelinquish
  repeat' with_reducible first
    | assumption
    | exact Keeps.refl _ _
    | (show maskIn _ _ = true; decide)
    | apply State_runRecord_keeps
    | apply keepsR_next
    | apply keeps_ite
    | apply keepsR_ite
    | apply keeps_ite2
    | apply keeps_foldl
    | apply keeps_foldl2
    | apply keeps_foldl3
    | intro _
    | dsimp only
    | (fail_if_no_progress (apply keeps_mk; on_goal 2 => (constructor <;> first | exact .inr (by decide) | exact .inl rfl)))
    | split

theorem execSafeEnter_keeps {m_ : Nat} (hm : maskIn 1048575 m_ = true) {s_ s : State} (h_ : Keeps m_ s_ s) (c : Ctx) (value : Byte) : KeepsR m_ s_ (execSafeEnter c value s) := by
  refine KeepsR.after hm h_ ?_
  clear hm h_
  unfold execSafeEnter
  repeat' with_reducible first
    | assumption
    | exact Keeps.refl _ _
    | (show maskIn _ _ = true; decide)
    | apply State_runRecord_keeps
    | apply keepsR_next
    | apply keeps_ite
    | apply keepsR_ite
    | apply keeps_ite2
    | apply keeps_foldl
    | apply keeps_foldl2
    | apply keeps_foldl3
    | intro _
    | dsimp only
    | (fail_if_no_progress (apply keeps_mk; on_goal 2 => (constructor <;> first | exact .inr (by decide) | exact .inl rfl)))
    | split

theorem execSafeExit_keeps {m_ : Nat} (hm : maskIn 1048575 m_ = true) {s_ s : State} (h_ : Keeps m_ s_ s) (c : Ctx) (value : Byte) : KeepsR m_ s_ (execSafeExit c value s) := by
  refine KeepsR.after hm h_ ?_
  clear hm h_
  unfold execSafeExit
  repeat' with_reducible first
    | assumption
    | exact Keeps.refl _ _
    | (show maskIn _ _ = true; decide)
    | apply State_runRecord_keeps
    | apply keepsR_next
    | apply keeps_ite
    | apply keepsR_ite
    | apply keeps_ite2
    | apply keeps_foldl
    | apply keeps_foldl2
    | apply keeps_foldl3
    | intro _
    | dsimp only
    | (fail_if_no_progress (apply keeps_mk; on_goal 2 => (constructor <;> first | exact .inr (by decide) | exact .inl rfl)))
    | split

theorem execRecRead_keeps {m_ : Nat} (hm : maskIn 1048575 m_ = true) {s_ s : State} (h_ : Keeps m_ s_ s) (c : Ctx) : KeepsR m_ s_ (execRecRead c s) := by
  refine KeepsR.after hm h_ ?_
  clear hm h_
  unfold execRecRead
  repeat' with_reducible first
    | assumption
    | exact Keeps.refl _ _
    | (show maskIn _ _ = true; decide)
    | apply State_runRecord_keeps
    | apply keepsR_next
    | apply keeps_ite
    | apply keepsR_ite
    | apply keeps_ite2
    | apply keeps_foldl
    | apply keeps_foldl2
    | apply keeps_foldl3
    | intro _
    | dsimp only
    | (fail_if_no_progress (apply keeps_mk; on_goal 2 => (constructor <;> first | exact .inr (by decide) | exact .inl rfl)))
    | split

theorem execRecClear_keeps {m_ : Nat} (hm : maskIn 1048575 m_ = true) {s_ s : State} (h_ : Keeps m_ s_ s) (c : Ctx) (token : List Byte) : KeepsR m_ s_ (execRecClear c token s) := by
  refine KeepsR.after hm h_ ?_
  clear hm h_
  unfold execRecClear
  repeat' with_reducible first
    | assumption
    | exact Keeps.refl _ _
    | (show maskIn _ _ = true; decide)
    | apply State_runRecord_keeps
    | apply keepsR_next
    | apply keeps_ite
    | apply keepsR_ite
    | apply keeps_ite2
    | apply keeps_foldl
    | apply keeps_foldl2
    | apply keeps_foldl3
    | intro _
    | dsimp only
    | (fail_if_no_progress (apply keeps_mk; on_goal 2 => (constructor <;> first | exact .inr (by decide) | exact .inl rfl)))
    | split

theorem execJournalRead_keeps {m_ : Nat} (hm : maskIn 1048575 m_ = true) {s_ s : State} (h_ : Keeps m_ s_ s) (c : Ctx) : KeepsR m_ s_ (execJournalRead c s) := by
  refine KeepsR.after hm h_ ?_
  clear hm h_
  unfold execJournalRead
  repeat' with_reducible first
    | assumption
    | exact Keeps.refl _ _
    | (show maskIn _ _ = true; decide)
    | apply State_runRecord_keeps
    | apply keepsR_next
    | apply keeps_ite
    | apply keepsR_ite
    | apply keeps_ite2
    | apply keeps_foldl
    | apply keeps_foldl2
    | apply keeps_foldl3
    | intro _
    | dsimp only
    | (fail_if_no_progress (apply keeps_mk; on_goal 2 => (constructor <;> first | exact .inr (by decide) | exact .inl rfl)))
    | split

theorem execBenchRequest_keeps {m_ : Nat} (hm : maskIn 1048575 m_ = true) {s_ s : State} (h_ : Keeps m_ s_ s) (c : Ctx) : KeepsR m_ s_ (execBenchRequest c s) := by
  refine KeepsR.after hm h_ ?_
  clear hm h_
  unfold execBenchRequest
  repeat' with_reducible first
    | assumption
    | exact Keeps.refl _ _
    | (show maskIn _ _ = true; decide)
    | apply State_runRecord_keeps
    | apply keepsR_next
    | apply keeps_ite
    | apply keepsR_ite
    | apply keeps_ite2
    | apply keeps_foldl
    | apply keeps_foldl2
    | apply keeps_foldl3
    | intro _
    | dsimp only
    | (fail_if_no_progress (apply keeps_mk; on_goal 2 => (constructor <;> first | exact .inr (by decide) | exact .inl rfl)))
    | split

theorem execDictionaryWake_keeps {m_ : Nat} (hm : maskIn 1048575 m_ = true) {s_ s : State} (h_ : Keeps m_ s_ s) (c : Ctx) : KeepsR m_ s_ (execDictionaryWake c s) := by
  refine KeepsR.after hm h_ ?_
  clear hm h_
  unfold execDictionaryWake
  repeat' with_reducible first
    | assumption
    | exact Keeps.refl _ _
    | (show maskIn _ _ = true; decide)
    | apply State_runRecord_keeps
    | apply keepsR_next
    | apply keeps_ite
    | apply keepsR_ite
    | apply keeps_ite2
    | apply keeps_foldl
    | apply keeps_foldl2
    | apply keeps_foldl3
    | intro _
    | dsimp only
    | (fail_if_no_progress (apply keeps_mk; on_goal 2 => (constructor <;> first | exact .inr (by decide) | exact .inl rfl)))
    | split

theorem execBenchForce_keeps {m_ : Nat} (hm : maskIn 1048575 m_ = true) {s_ s : State} (h_ : Keeps m_ s_ s) (c : Ctx) (value : Byte) : KeepsR m_ s_ (execBenchForce c value s) := by
  refine KeepsR.after hm h_ ?_
  clear hm h_
  unfold execBenchForce
  repeat' with_reducible first
    | assumption
    | exact Keeps.refl _ _
    | (show maskIn _ _ = true; decide)
    | apply State_runRecord_keeps
    | apply keepsR_next
    | apply keeps_ite
    | apply keepsR_ite
    | apply keeps_ite2
    | apply keeps_foldl
    | apply keeps_foldl2
    | apply keeps_foldl3
    | intro _
    | dsimp only
    | (fail_if_no_progress (apply keeps_mk; on_goal 2 => (constructor <;> first | exact .inr (by decide) | exact .inl rfl)))
    | split

theorem execLcRequest_keeps {m_ : Nat} (hm : maskIn 1048575 m_ = true) {s_ s : State} (h_ : Keeps m_ s_ s) (c : Ctx) (value : List Byte) : KeepsR m_ s_ (execLcRequest c value s) := by
  refine KeepsR.after hm h_ ?_
  clear hm h_
  unfold execLcRequest
  repeat' with_reducible first
    | assumption
    | exact Keeps.refl _ _
    | (show maskIn _ _ = true; decide)
    | apply State_runRecord_keeps
    | apply keepsR_next
    | apply keeps_ite
    | apply keepsR_ite
    | apply keeps_ite2
    | apply keeps_foldl
    | apply keeps_foldl2
    | apply keeps_foldl3
    | intro _
    | dsimp only
    | (fail_if_no_progress (apply keeps_mk; on_goal 2 => (constructor <;> first | exact .inr (by decide) | exact .inl rfl)))
    | split

theorem execLoad_keeps {m_ : Nat} (hm : maskIn 1048575 m_ = true) {s_ s : State} (h_ : Keeps m_ s_ s) (c : Ctx) (slot : Fin 256) (value : List Byte) : KeepsR m_ s_ (execLoad c slot value s) := by
  refine KeepsR.after hm h_ ?_
  clear hm h_
  unfold execLoad
  repeat' with_reducible first
    | assumption
    | exact Keeps.refl _ _
    | (show maskIn _ _ = true; decide)
    | apply State_runRecord_keeps
    | apply keepsR_next
    | apply keeps_ite
    | apply keepsR_ite
    | apply keeps_ite2
    | apply keeps_foldl
    | apply keeps_foldl2
    | apply keeps_foldl3
    | intro _
    | dsimp only
    | (fail_if_no_progress (apply keeps_mk; on_goal 2 => (constructor <;> first | exact .inr (by decide) | exact .inl rfl)))
    | split

theorem execVerify_keeps {m_ : Nat} (hm : maskIn 1048575 m_ = true) {s_ s : State} (h_ : Keeps m_ s_ s) (c : Ctx) (slot : Fin 256) (value : List Byte) : KeepsR m_ s_ (execVerify c slot value s) := by
  refine KeepsR.after hm h_ ?_
  clear hm h_
  unfold execVerify
  repeat' with_reducible first
    | assumption
    | exact Keeps.refl _ _
    | (show maskIn _ _ = true; decide)
    | apply State_runRecord_keeps
    | apply keepsR_next
    | apply keeps_ite
    | apply keepsR_ite
    | apply keeps_ite2
    | apply keeps_foldl
    | apply keeps_foldl2
    | apply keeps_foldl3
    | intro _
    | dsimp only
    | (fail_if_no_progress (apply keeps_mk; on_goal 2 => (constructor <;> first | exact .inr (by decide) | exact .inl rfl)))
    | split

theorem execInvalidate_keeps {m_ : Nat} (hm : maskIn 1048575 m_ = true) {s_ s : State} (h_ : Keeps m_ s_ s) (c : Ctx) (slot : Fin 256) (value : Byte) : KeepsR m_ s_ (execInvalidate c slot value s) := by
  refine KeepsR.after hm h_ ?_
  clear hm h_
  unfold execInvalidate
  repeat' with_reducible first
    | assumption
    | exact Keeps.refl _ _
    | (show maskIn _ _ = true; decide)
    | apply State_runRecord_keeps
    | apply keepsR_next
    | apply keeps_ite
    | apply keepsR_ite
    | apply keeps_ite2
    | apply keeps_foldl
    | apply keeps_foldl2
    | apply keeps_foldl3
    | intro _
    | dsimp only
    | (fail_if_no_progress (apply keeps_mk; on_goal 2 => (constructor <;> first | exact .inr (by decide) | exact .inl rfl)))
    | split

theorem execAttestNonce_keeps {m_ : Nat} (hm : maskIn 1048575 m_ = true) {s_ s : State} (h_ : Keeps m_ s_ s) (c : Ctx) (nonce : List Byte) : KeepsR m_ s_ (execAttestNonce c nonce s) := by
  refine KeepsR.after hm h_ ?_
  clear hm h_
  unfold execAttestNonce
  repeat' with_reducible first
    | assumption
    | exact Keeps.refl _ _
    | (show maskIn _ _ = true; decide)
    | apply State_runRecord_keeps
    | apply keepsR_next
    | apply keeps_ite
    | apply keepsR_ite
    | apply keeps_ite2
    | apply keeps_foldl
    | apply keeps_foldl2
    | apply keeps_foldl3
    | intro _
    | dsimp only
    | (fail_if_no_progress (apply keeps_mk; on_goal 2 => (constructor <;> first | exact .inr (by decide) | exact .inl rfl)))
    | split

theorem execActivate_keeps {m_ : Nat} (hm : maskIn 1048575 m_ = true) {s_ s : State} (h_ : Keeps m_ s_ s) (c : Ctx) (value : Byte) : KeepsR m_ s_ (execActivate c value s) := by
  refine KeepsR.after hm h_ ?_
  clear hm h_
  unfold execActivate
  repeat' with_reducible first
    | assumption
    | exact Keeps.refl _ _
    | (show maskIn _ _ = true; decide)
    | apply State_runRecord_keeps
    | apply keepsR_next
    | apply keeps_ite
    | apply keepsR_ite
    | apply keeps_ite2
    | apply keeps_foldl
    | apply keeps_foldl2
    | apply keeps_foldl3
    | intro _
    | dsimp only
    | (fail_if_no_progress (apply keeps_mk; on_goal 2 => (constructor <;> first | exact .inr (by decide) | exact .inl rfl)))
    | split

theorem execConfirm_keeps {m_ : Nat} (hm : maskIn 1048575 m_ = true) {s_ s : State} (h_ : Keeps m_ s_ s) (c : Ctx) (value : Byte) : KeepsR m_ s_ (execConfirm c value s) := by
  refine KeepsR.after hm h_ ?_
  clear hm h_
  unfold execConfirm
  repeat' with_reducible first
    | assumption
    | exact Keeps.refl _ _
    | (show maskIn _ _ = true; decide)
    | apply State_runRecord_keeps
    | apply keepsR_next
    | apply keeps_ite
    | apply keepsR_ite
    | apply keeps_ite2
    | apply keeps_foldl
    | apply keeps_foldl2
    | apply keeps_foldl3
    | intro _
    | dsimp only
    | (fail_if_no_progress (apply keeps_mk; on_goal 2 => (constructor <;> first | exact .inr (by decide) | exact .inl rfl)))
    | split

theorem execLoopOpen_keeps {m_ : Nat} (hm : maskIn 1048575 m_ = true) {s_ s : State} (h_ : Keeps m_ s_ s) (c : Option Ctx) : KeepsR m_ s_ (execLoopOpen c s) := by
  refine KeepsR.after hm h_ ?_
  clear hm h_
  unfold execLoopOpen
  repeat' with_reducible first
    | assumption
    | exact Keeps.refl _ _
    | (show maskIn _ _ = true; decide)
    | apply State_openLoop_keeps
    | apply State_runRecord_keeps
    | apply keepsR_next
    | apply keeps_ite
    | apply keepsR_ite
    | apply keeps_ite2
    | apply keeps_foldl
    | apply keeps_foldl2
    | apply keeps_foldl3
    | intro _
    | dsimp only
    | (fail_if_no_progress (apply keeps_mk; on_goal 2 => (constructor <;> first | exact .inr (by decide) | exact .inl rfl)))
    | split

theorem execLoopClose_keeps {m_ : Nat} (hm : maskIn 1048575 m_ = true) {s_ s : State} (h_ : Keeps m_ s_ s) (c : Option Ctx) : KeepsR m_ s_ (execLoopClose c s) := by
  refine KeepsR.after hm h_ ?_
  clear hm h_
  unfold execLoopClose
  repeat' with_reducible first
    | assumption
    | exact Keeps.refl _ _
    | (show maskIn _ _ = true; decide)
    | apply State_closeLoop_keeps
    | apply State_runRecord_keeps
    | apply keepsR_next
    | apply keeps_ite
    | apply keepsR_ite
    | apply keeps_ite2
    | apply keeps_foldl
    | apply keeps_foldl2
    | apply keeps_foldl3
    | intro _
    | dsimp only
    | (fail_if_no_progress (apply keeps_mk; on_goal 2 => (constructor <;> first | exact .inr (by decide) | exact .inl rfl)))
    | split

theorem execAck_keeps {m_ : Nat} (hm : maskIn 1048575 m_ = true) {s_ s : State} (h_ : Keeps m_ s_ s) (c : Option Ctx) (source : Fin 512) : KeepsR m_ s_ (execAck c source s) := by
  refine KeepsR.after hm h_ ?_
  clear hm h_
  unfold execAck
  repeat' with_reducible first
    | assumption
    | exact Keeps.refl _ _
    | (show maskIn _ _ = true; decide)
    | apply State_ackBy_keeps
    | apply State_runRecord_keeps
    | apply keepsR_next
    | apply keeps_ite
    | apply keepsR_ite
    | apply keeps_ite2
    | apply keeps_foldl
    | apply keeps_foldl2
    | apply keeps_foldl3
    | intro _
    | dsimp only
    | (fail_if_no_progress (apply keeps_mk; on_goal 2 => (constructor <;> first | exact .inr (by decide) | exact .inl rfl)))
    | split

theorem execAckAll_keeps {m_ : Nat} (hm : maskIn 1048575 m_ = true) {s_ s : State} (h_ : Keeps m_ s_ s) (c : Option Ctx) : KeepsR m_ s_ (execAckAll c s) := by
  refine KeepsR.after hm h_ ?_
  clear hm h_
  unfold execAckAll
  repeat' with_reducible first
    | assumption
    | exact Keeps.refl _ _
    | (show maskIn _ _ = true; decide)
    | apply State_ackAllBy_keeps
    | apply State_runRecord_keeps
    | apply keepsR_next
    | apply keeps_ite
    | apply keepsR_ite
    | apply keeps_ite2
    | apply keeps_foldl
    | apply keeps_foldl2
    | apply keeps_foldl3
    | intro _
    | dsimp only
    | (fail_if_no_progress (apply keeps_mk; on_goal 2 => (constructor <;> first | exact .inr (by decide) | exact .inl rfl)))
    | split

end Sys2Proof.Machine
end

