-- ==== Sys2Proof/Laws/KeepsRegView.lean ====
section
/-! SUPPORT. RegView: what every operation keeps. -/

namespace Sys2Proof.Machine

theorem State_readWord_keeps {m_ : Nat} (hm : maskIn 24578 m_ = true) {s_ s : State} (h_ : Keeps m_ s_ s) (off : Nat) : Keeps m_ s_ (State.readWord s off).2 := by
  refine Keeps.after hm h_ ?_
  clear hm h_
  unfold State.readWord
  repeat' with_reducible first
    | assumption
    | exact Keeps.refl _ _
    | (show maskIn _ _ = true; decide)
    | apply State_popStamp_keeps
    | apply setReg_keeps
    | apply keepsR_next
    | apply keeps_ite
    | apply keepsR_ite
    | apply keeps_ite2
    | apply keeps_foldl
    | apply keeps_foldl2
    | apply keeps_foldl3
    | intro _
    | dsimp only
    | (fail_if_no_progress (apply keeps_mk; on_goal 2 => (constructor <;> first | exact .inr (by decide) | exact .inl rfl)))
    | split

theorem execRcRegisterRead_keeps {m_ : Nat} (hm : maskIn 26506 m_ = true) {s_ s : State} (h_ : Keeps m_ s_ s) (off : BitVec 24) (size : Nat) : KeepsR m_ s_ (execRcRegisterRead off size s) := by
  refine KeepsR.after hm h_ ?_
  clear hm h_
  unfold execRcRegisterRead
  repeat' with_reducible first
    | assumption
    | exact Keeps.refl _ _
    | (show maskIn _ _ = true; decide)
    | apply State_accessErr_keeps
    | apply State_emit_keeps
    | apply State_readWord_keeps
    | apply keepsR_next
    | apply keeps_ite
    | apply keepsR_ite
    | apply keeps_ite2
    | apply keeps_foldl
    | apply keeps_foldl2
    | apply keeps_foldl3
    | intro _
    | dsimp only
    | (fail_if_no_progress (apply keeps_mk; on_goal 2 => (constructor <;> first | exact .inr (by decide) | exact .inl rfl)))
    | split

end Sys2Proof.Machine
end

