-- ==== Sys2Proof/Laws/KeepsRegWrite.lean ====
section
/-! SUPPORT. RegWrite: what every operation keeps. -/

namespace Sys2Proof.Machine

theorem State_dmaWrite_keeps {m_ : Nat} (hm : maskIn 657311 m_ = true) {s_ s : State} (h_ : Keeps m_ s_ s) (c : Nat) (r : Nat) (v : Nat) : Keeps m_ s_ (State.dmaWrite s c r v) := by
  refine Keeps.after hm h_ ?_
  clear hm h_
  unfold State.dmaWrite
  repeat' with_reducible first
    | assumption
    | exact Keeps.refl _ _
    | (show maskIn _ _ = true; decide)
    | apply State_chanOff_keeps
    | apply State_freeNat_keeps
    | apply State_setDch_keeps
    | apply setReg_keeps
    | apply keepsR_next
    | apply keeps_ite
    | apply keepsR_ite
    | apply keeps_ite2
    | apply keeps_foldl
    | apply keeps_foldl2
    | apply keeps_foldl3
    | intro _
    | dsimp only
    | (fail_if_no_progress (apply keeps_mk; on_goal 2 => (constructor <;> first | exact .inr (by decide) | exact .inl rfl)))
    | split

theorem State_ringCtrlWrite_keeps {m_ : Nat} (hm : maskIn 130 m_ = true) {s_ s : State} (h_ : Keeps m_ s_ s) (r : Nat) (v : Nat) : Keeps m_ s_ (State.ringCtrlWrite s r v) := by
  refine Keeps.after hm h_ ?_
  clear hm h_
  unfold State.ringCtrlWrite
  repeat' with_reducible first
    | assumption
    | exact Keeps.refl _ _
    | (show maskIn _ _ = true; decide)
    | apply State_setRing_keeps
    | apply setReg_keeps
    | apply keepsR_next
    | apply keeps_ite
    | apply keepsR_ite
    | apply keeps_ite2
    | apply keeps_foldl
    | apply keeps_foldl2
    | apply keeps_foldl3
    | intro _
    | dsimp only
    | (fail_if_no_progress (apply keeps_mk; on_goal 2 => (constructor <;> first | exact .inr (by decide) | exact .inl rfl)))
    | split

theorem State_msixWrite_keeps {m_ : Nat} (hm : maskIn 138 m_ = true) {s_ s : State} (h_ : Keeps m_ s_ s) (off : Nat) (v : Nat) : Keeps m_ s_ (State.msixWrite s off v) := by
  refine Keeps.after hm h_ ?_
  clear hm h_
  unfold State.msixWrite
  repeat' with_reducible first
    | assumption
    | exact Keeps.refl _ _
    | (show maskIn _ _ = true; decide)
    | apply State_vecTry_keeps
    | apply setReg_keeps
    | apply keepsR_next
    | apply keeps_ite
    | apply keepsR_ite
    | apply keeps_ite2
    | apply keeps_foldl
    | apply keeps_foldl2
    | apply keeps_foldl3
    | intro _
    | dsimp only
    | (fail_if_no_progress (apply keeps_mk; on_goal 2 => (constructor <;> first | exact .inr (by decide) | exact .inl rfl)))
    | split

theorem State_procWrite_keeps {m_ : Nat} (hm : maskIn 328587 m_ = true) {s_ s : State} (h_ : Keeps m_ s_ s) (v : Nat) : Keeps m_ s_ (State.procWrite s v) := by
  refine Keeps.after hm h_ ?_
  clear hm h_
  unfold State.procWrite
  repeat' with_reducible first
    | assumption
    | exact Keeps.refl _ _
    | (show maskIn _ _ = true; decide)
    | apply State_fsel_keeps
    | apply State_vsel_keeps
    | apply setReg_keeps
    | apply keepsR_next
    | apply keeps_ite
    | apply keepsR_ite
    | apply keeps_ite2
    | apply keeps_foldl
    | apply keeps_foldl2
    | apply keeps_foldl3
    | intro _
    | dsimp only
    | (fail_if_no_progress (apply keeps_mk; on_goal 2 => (constructor <;> first | exact .inr (by decide) | exact .inl rfl)))
    | split

theorem State_writeWord_keeps {m_ : Nat} (hm : maskIn 997375 m_ = true) {s_ s : State} (h_ : Keeps m_ s_ s) (off : Nat) (v : Nat) : Keeps m_ s_ (State.writeWord s off v) := by
  refine Keeps.after hm h_ ?_
  clear hm h_
  unfold State.writeWord
  repeat' with_reducible first
    | assumption
    | exact Keeps.refl _ _
    | (show maskIn _ _ = true; decide)
    | apply State_dcoWrite_keeps
    | apply State_dmaWrite_keeps
    | apply State_evtWrite_keeps
    | apply State_fastCommit_keeps
    | apply State_faultAckReg_keeps
    | apply State_loopCtrlWrite_keeps
    | apply State_mbxDoorbell_keeps
    | apply State_mbxRelease_keeps
    | apply State_msixWrite_keeps
    | apply State_noteBank_keeps
    | apply State_procWrite_keeps
    | apply State_ringCtrlWrite_keeps
    | apply State_tlbInv_keeps
    | apply State_wakeSource_keeps
    | apply setBytesAt_keeps
    | apply setReg_keeps
    | apply keepsR_next
    | apply keeps_ite
    | apply keepsR_ite
    | apply keeps_ite2
    | apply keeps_foldl
    | apply keeps_foldl2
    | apply keeps_foldl3
    | intro _
    | dsimp only
    | (fail_if_no_progress (apply keeps_mk; on_goal 2 => (constructor <;> first | exact .inr (by decide) | exact .inl rfl)))
    | split

theorem execRegisterWrite_keeps {m_ : Nat} (hm : maskIn 997375 m_ = true) {s_ s : State} (h_ : Keeps m_ s_ s) (off : BitVec 24) (size : Nat) (value : Quad) : KeepsR m_ s_ (execRegisterWrite off size value s) := by
  refine KeepsR.after hm h_ ?_
  clear hm h_
  unfold execRegisterWrite
  repeat' with_reducible first
    | assumption
    | exact Keeps.refl _ _
    | (show maskIn _ _ = true; decide)
    | apply State_accessErr_keeps
    | apply State_writeWord_keeps
    | apply keepsR_next
    | apply keeps_ite
    | apply keepsR_ite
    | apply keeps_ite2
    | apply keeps_foldl
    | apply keeps_foldl2
    | apply keeps_foldl3
    | intro _
    | dsimp only
    | (fail_if_no_progress (apply keeps_mk; on_goal 2 => (constructor <;> first | exact .inr (by decide) | exact .inl rfl)))
    | split

end Sys2Proof.Machine
end

