-- ==== Sys2Proof/Laws/KeepsHostReset.lean ====
section
/-! SUPPORT. HostReset: what every operation keeps. -/

namespace Sys2Proof.Machine

theorem State_hostReset_keeps {m_ : Nat} (hm : maskIn 526282 m_ = true) {s_ s : State} (h_ : Keeps m_ s_ s) (cause : Nat) : Keeps m_ s_ (State.hostReset s cause) := by
  refine Keeps.after hm h_ ?_
  clear hm h_
  have h1 : Keeps 526282 s { s with regs := s.regs.filter (fun p => !hostReg p.1) } := by
    refine ⟨rfl, rfl, fun w => ?_, fun p e => ?_⟩
    · simp only [State.canonical, Bool.and_eq_true] at *
      exact ⟨⟨w.1.1, twfFrom_filter _ _ _ 0 w.1.2⟩, w.2⟩
    · cases p <;> first | exact rfl | exact ⟨rfl, rfl⟩ | exact absurd e (by decide)
  unfold State.hostReset
  dsimp only
  refine State_raise_keeps (by decide) ?_ _ _
  refine keeps_mk (keeps_foldl (List.range 4) (s := { s with
    regs := s.regs.filter (fun p => !hostReg p.1)
    hif := { s.hif with
      msixEnabled := false
      funcMask := false
      pba := []
      lastMsg := []
      d3hot := false
      dma := []
      tlb := []
      inv := none
      invQueue := []
      rings := [] }
    ess := { s.ess with takes := { s.ess.takes with drop := [] } } }) (fun x i => State_endSession_keeps (by decide) (Keeps.refl _ x) _ _) ?_) ?_
  · refine keeps_mk h1 ?_
    constructor <;> first | exact .inr (by decide) | exact .inl rfl
  · constructor <;> first | exact .inr (by decide) | exact .inl rfl

theorem execHostInterfaceReset_keeps {m_ : Nat} (hm : maskIn 526282 m_ = true) {s_ s : State} (h_ : Keeps m_ s_ s) (cause : Fin 3) : KeepsR m_ s_ (execHostInterfaceReset cause s) := by
  refine KeepsR.after hm h_ ?_
  clear hm h_
  unfold execHostInterfaceReset
  repeat' with_reducible first
    | assumption
    | exact Keeps.refl _ _
    | (show maskIn _ _ = true; decide)
    | apply State_hostReset_keeps
    | apply State_setHif_keeps
    | apply keepsR_next
    | apply keeps_ite
    | apply keepsR_ite
    | apply keeps_ite2
    | apply keeps_foldl
    | apply keeps_foldl2
    | apply keeps_foldl3
    | intro _
    | dsimp only
    | (fail_if_no_progress (apply keeps_mk; on_goal 2 => (constructor <;> first | exact .inr (by decide) | exact .inl rfl)))
    | split

theorem execPciePerst_keeps {m_ : Nat} (hm : maskIn 526282 m_ = true) {s_ s : State} (h_ : Keeps m_ s_ s)  : KeepsR m_ s_ (execPciePerst s) := by
  refine KeepsR.after hm h_ ?_
  clear hm h_
  unfold execPciePerst
  repeat' with_reducible first
    | assumption
    | exact Keeps.refl _ _
    | (show maskIn _ _ = true; decide)
    | apply State_hostReset_keeps
    | apply keepsR_next
    | apply keeps_ite
    | apply keepsR_ite
    | apply keeps_ite2
    | apply keeps_foldl
    | apply keeps_foldl2
    | apply keeps_foldl3
    | intro _
    | dsimp only
    | (fail_if_no_progress (apply keeps_mk; on_goal 2 => (constructor <;> first | exact .inr (by decide) | exact .inl rfl)))
    | split

end Sys2Proof.Machine
end

