-- ==== Sys2Proof/Laws/KeepsStartCore.lean ====
section
/-! SUPPORT. StartCore: what every operation keeps. -/

namespace Sys2Proof.Machine

theorem State_enterPhase_keeps {m_ : Nat} (hm : maskIn 525195 m_ = true) {s_ s : State} (h_ : Keeps m_ s_ s) (p : Nat) (t : Nat) : Keeps m_ s_ (State.enterPhase s p t) := by
  refine Keeps.after hm h_ ?_
  clear hm h_
  unfold State.enterPhase
  repeat' with_reducible first
    | assumption
    | exact Keeps.refl _ _
    | (show maskIn _ _ = true; decide)
    | apply State_raise_keeps
    | apply State_setNum_keeps
    | apply State_setUpd_keeps
    | apply keepsR_next
    | apply keeps_ite
    | apply keepsR_ite
    | apply keeps_ite2
    | apply keeps_foldl
    | apply keeps_foldl2
    | apply keeps_foldl3
    | intro _
    | dsimp only
    | (fail_if_no_progress (apply keeps_mk; on_goal 2 => (constructor <;> first | exact .inr (by decide) | exact .inl rfl)))
    | split

theorem State_startFail_keeps {m_ : Nat} (hm : maskIn 787339 m_ = true) {s_ s : State} (h_ : Keeps m_ s_ s) (cause : Nat) (wait : Nat) : Keeps m_ s_ (State.startFail s cause wait) := by
  refine Keeps.after hm h_ ?_
  clear hm h_
  unfold State.startFail
  repeat' with_reducible first
    | assumption
    | exact Keeps.refl _ _
    | (show maskIn _ _ = true; decide)
    | apply State_enterPhase_keeps
    | apply State_raise_keeps
    | apply State_setNum_keeps
    | apply State_setPwr_keeps
    | apply State_setUpd_keeps
    | apply keepsR_next
    | apply keeps_ite
    | apply keepsR_ite
    | apply keeps_ite2
    | apply keeps_foldl
    | apply keeps_foldl2
    | apply keeps_foldl3
    | intro _
    | dsimp only
    | (fail_if_no_progress (apply keeps_mk; on_goal 2 => (constructor <;> first | exact .inr (by decide) | exact .inl rfl)))
    | split

theorem State_startHalt_keeps {m_ : Nat} (hm : maskIn 787339 m_ = true) {s_ s : State} (h_ : Keeps m_ s_ s) (cause : Nat) : Keeps m_ s_ (State.startHalt s cause) := by
  refine Keeps.after hm h_ ?_
  clear hm h_
  unfold State.startHalt
  repeat' with_reducible first
    | assumption
    | exact Keeps.refl _ _
    | (show maskIn _ _ = true; decide)
    | apply State_enterPhase_keeps
    | apply State_raise_keeps
    | apply State_setNum_keeps
    | apply State_setPwr_keeps
    | apply keepsR_next
    | apply keeps_ite
    | apply keepsR_ite
    | apply keeps_ite2
    | apply keeps_foldl
    | apply keeps_foldl2
    | apply keeps_foldl3
    | intro _
    | dsimp only
    | (fail_if_no_progress (apply keeps_mk; on_goal 2 => (constructor <;> first | exact .inr (by decide) | exact .inl rfl)))
    | split

theorem State_resetState_keeps {m_ : Nat} (hm : maskIn 1048559 m_ = true) {s_ s : State} (h_ : Keeps m_ s_ s) (retries : Nat) : Keeps m_ s_ (State.resetState s retries) := by
  refine Keeps.after hm h_ ?_
  clear hm h_
  unfold State.resetState
  refine State_setNum_keeps (by decide) ?_ _ _
  refine ⟨rfl, rfl, fun _ => rfl, fun p e => ?_⟩
  cases p <;> first | exact rfl | exact ⟨rfl, rfl⟩ | exact absurd e (by decide)

theorem State_resetRelease_keeps {m_ : Nat} (hm : maskIn 795563 m_ = true) {s_ s : State} (h_ : Keeps m_ s_ s) (ocxo : Bool) : Keeps m_ s_ (State.resetRelease s ocxo) := by
  refine Keeps.after hm h_ ?_
  clear hm h_
  unfold State.resetRelease
  repeat' with_reducible first
    | assumption
    | exact Keeps.refl _ _
    | (show maskIn _ _ = true; decide)
    | apply State_enterPhase_keeps
    | apply State_setNum_keeps
    | apply State_setPwr_keeps
    | apply keepsR_next
    | apply keeps_ite
    | apply keepsR_ite
    | apply keeps_ite2
    | apply keeps_foldl
    | apply keeps_foldl2
    | apply keeps_foldl3
    | intro _
    | dsimp only
    | (fail_if_no_progress (apply keeps_mk; on_goal 2 => (constructor <;> first | exact .inr (by decide) | exact .inl rfl)))
    | split

end Sys2Proof.Machine
end

