-- ==== Sys2Proof/Laws/KeepsPowerSeq.lean ====
section
/-! SUPPORT. PowerSeq: what every operation keeps. -/

namespace Sys2Proof.Machine

theorem State_unsubAll_keeps {m_ : Nat} (hm : maskIn 32777 m_ = true) {s_ s : State} (h_ : Keeps m_ s_ s) (j : Nat) : Keeps m_ s_ (State.unsubAll s j) := by
  refine Keeps.after hm h_ ?_
  clear hm h_
  unfold State.unsubAll
  repeat' with_reducible first
    | assumption
    | exact Keeps.refl _ _
    | (show maskIn _ _ = true; decide)
    | apply State_dropHeld_keeps
    | apply State_linkObjs_keeps
    | apply State_setLink_keeps
    | apply keepsR_next
    | apply keeps_ite
    | apply keepsR_ite
    | apply keeps_ite2
    | apply keeps_foldl
    | apply keeps_foldl2
    | apply keeps_foldl3
    | intro _
    | dsimp only
    | (fail_if_no_progress (apply keeps_mk; on_goal 2 => (constructor <;> first | exact .inr (by decide) | exact .inl rfl)))
    | split

theorem State_entryE1_keeps {m_ : Nat} (hm : maskIn 297993 m_ = true) {s_ s : State} (h_ : Keeps m_ s_ s)  : Keeps m_ s_ (State.entryE1 s) := by
  refine Keeps.after hm h_ ?_
  clear hm h_
  unfold State.entryE1
  repeat' with_reducible first
    | assumption
    | exact Keeps.refl _ _
    | (show maskIn _ _ = true; decide)
    | apply State_setPwr_keeps
    | apply State_slotClear_keeps
    | apply State_unsubAll_keeps
    | apply keepsR_next
    | apply keeps_ite
    | apply keepsR_ite
    | apply keeps_ite2
    | apply keeps_foldl
    | apply keeps_foldl2
    | apply keeps_foldl3
    | intro _
    | dsimp only
    | (fail_if_no_progress (apply keeps_mk; on_goal 2 => (constructor <;> first | exact .inr (by decide) | exact .inl rfl)))
    | split

theorem State_entryE3_keeps {m_ : Nat} (hm : maskIn 1048575 m_ = true) {s_ s : State} (h_ : Keeps m_ s_ s)  : Keeps m_ s_ (State.entryE3 s) := by
  refine Keeps.after hm h_ ?_
  clear hm h_
  unfold State.entryE3
  repeat' with_reducible first
    | assumption
    | exact Keeps.refl _ _
    | (show maskIn _ _ = true; decide)
    | apply State_fabStop_keeps
    | apply State_setLanePower_keeps
    | apply State_tlDown_keeps
    | apply keepsR_next
    | apply keeps_ite
    | apply keepsR_ite
    | apply keeps_ite2
    | apply keeps_foldl
    | apply keeps_foldl2
    | apply keeps_foldl3
    | intro _
    | dsimp only
    | (fail_if_no_progress (apply keeps_mk; on_goal 2 => (constructor <;> first | exact .inr (by decide) | exact .inl rfl)))
    | split

theorem State_entryE4_keeps {m_ : Nat} (hm : maskIn 263051 m_ = true) {s_ s : State} (h_ : Keeps m_ s_ s) (active : Nat) : Keeps m_ s_ (State.entryE4 s active) := by
  refine Keeps.after hm h_ ?_
  clear hm h_
  unfold State.entryE4
  repeat' with_reducible first
    | assumption
    | exact Keeps.refl _ _
    | (show maskIn _ _ = true; decide)
    | apply State_setChip_keeps
    | apply State_setPwr_keeps
    | apply State_wakeBegin_keeps
    | apply keepsR_next
    | apply keeps_ite
    | apply keepsR_ite
    | apply keeps_ite2
    | apply keeps_foldl
    | apply keeps_foldl2
    | apply keeps_foldl3
    | intro _
    | dsimp only
    | (fail_if_no_progress (apply keeps_mk; on_goal 2 => (constructor <;> first | exact .inr (by decide) | exact .inl rfl)))
    | split

theorem State_entryAbort_keeps {m_ : Nat} (hm : maskIn 263051 m_ = true) {s_ s : State} (h_ : Keeps m_ s_ s) (ap : Nat) (cause : Nat) : Keeps m_ s_ (State.entryAbort s ap cause) := by
  refine Keeps.after hm h_ ?_
  clear hm h_
  unfold State.entryAbort
  repeat' with_reducible first
    | assumption
    | exact Keeps.refl _ _
    | (show maskIn _ _ = true; decide)
    | apply State_bump_keeps
    | apply State_pwrEvent_keeps
    | apply State_setNum_keeps
    | apply State_setPwr_keeps
    | apply keepsR_next
    | apply keeps_ite
    | apply keepsR_ite
    | apply keeps_ite2
    | apply keeps_foldl
    | apply keeps_foldl2
    | apply keeps_foldl3
    | intro _
    | dsimp only
    | (fail_if_no_progress (apply keeps_mk; on_goal 2 => (constructor <;> first | exact .inr (by decide) | exact .inl rfl)))
    | split

theorem execBenchEntryStep_keeps {m_ : Nat} (hm : maskIn 1048575 m_ = true) {s_ s0 : State} (h_ : Keeps m_ s_ s0) (active : BitVec 9) (at_ : Nat) : KeepsR m_ s_ (execBenchEntryStep active at_ s0) := by
  refine KeepsR.after hm h_ ?_
  clear hm h_
  unfold execBenchEntryStep
  repeat' with_reducible first
    | assumption
    | exact Keeps.refl _ _
    | (show maskIn _ _ = true; decide)
    | apply State_entryAbort_keeps
    | apply State_entryE1_keeps
    | apply State_entryE3_keeps
    | apply State_entryE4_keeps
    | apply State_setPwr_keeps
    | apply State_toTick_keeps
    | apply keepsR_next
    | apply keeps_ite
    | apply keepsR_ite
    | apply keeps_ite2
    | apply keeps_foldl
    | apply keeps_foldl2
    | apply keeps_foldl3
    | intro _
    | dsimp only
    | (fail_if_no_progress (apply keeps_mk; on_goal 2 => (constructor <;> first | exact .inr (by decide) | exact .inl rfl)))
    | split

theorem State_bootBegin_keeps {m_ : Nat} (hm : maskIn 525195 m_ = true) {s_ s : State} (h_ : Keeps m_ s_ s)  : Keeps m_ s_ (State.bootBegin s) := by
  refine Keeps.after hm h_ ?_
  clear hm h_
  unfold State.bootBegin
  repeat' with_reducible first
    | assumption
    | exact Keeps.refl _ _
    | (show maskIn _ _ = true; decide)
    | apply State_enterPhase_keeps
    | apply State_setUpd_keeps
    | apply keepsR_next
    | apply keeps_ite
    | apply keepsR_ite
    | apply keeps_ite2
    | apply keeps_foldl
    | apply keeps_foldl2
    | apply keeps_foldl3
    | intro _
    | dsimp only
    | (fail_if_no_progress (apply keeps_mk; on_goal 2 => (constructor <;> first | exact .inr (by decide) | exact .inl rfl)))
    | split

theorem State_storeNotReady_keeps {m_ : Nat} (hm : maskIn 787339 m_ = true) {s_ s : State} (h_ : Keeps m_ s_ s)  : Keeps m_ s_ (State.storeNotReady s) := by
  refine Keeps.after hm h_ ?_
  clear hm h_
  unfold State.storeNotReady
  repeat' with_reducible first
    | assumption
    | exact Keeps.refl _ _
    | (show maskIn _ _ = true; decide)
    | apply State_setPwr_keeps
    | apply State_setUpd_keeps
    | apply State_startHalt_keeps
    | apply keepsR_next
    | apply keeps_ite
    | apply keepsR_ite
    | apply keeps_ite2
    | apply keeps_foldl
    | apply keeps_foldl2
    | apply keeps_foldl3
    | intro _
    | dsimp only
    | (fail_if_no_progress (apply keeps_mk; on_goal 2 => (constructor <;> first | exact .inr (by decide) | exact .inl rfl)))
    | split

theorem State_bringW8_keeps {m_ : Nat} (hm : maskIn 700351 m_ = true) {s_ s : State} (h_ : Keeps m_ s_ s)  : Keeps m_ s_ (State.bringW8 s) := by
  refine Keeps.after hm h_ ?_
  clear hm h_
  unfold State.bringW8
  repeat' with_reducible first
    | assumption
    | exact Keeps.refl _ _
    | (show maskIn _ _ = true; decide)
    | apply State_fabStart_keeps
    | apply State_setLanePower_keeps
    | apply keepsR_next
    | apply keeps_ite
    | apply keepsR_ite
    | apply keeps_ite2
    | apply keeps_foldl
    | apply keeps_foldl2
    | apply keeps_foldl3
    | intro _
    | dsimp only
    | (fail_if_no_progress (apply keeps_mk; on_goal 2 => (constructor <;> first | exact .inr (by decide) | exact .inl rfl)))
    | split

theorem State_bringW9_keeps {m_ : Nat} (hm : maskIn 4096 m_ = true) {s_ s : State} (h_ : Keeps m_ s_ s)  : Keeps m_ s_ (State.bringW9 s) := by
  refine Keeps.after hm h_ ?_
  clear hm h_
  unfold State.bringW9
  repeat' with_reducible first
    | assumption
    | exact Keeps.refl _ _
    | (show maskIn _ _ = true; decide)
    | apply keepsR_next
    | apply keeps_ite
    | apply keepsR_ite
    | apply keeps_ite2
    | apply keeps_foldl
    | apply keeps_foldl2
    | apply keeps_foldl3
    | intro _
    | dsimp only
    | (fail_if_no_progress (apply keeps_mk; on_goal 2 => (constructor <;> first | exact .inr (by decide) | exact .inl rfl)))
    | split

theorem State_bringW10_keeps {m_ : Nat} (hm : maskIn 361355 m_ = true) {s_ s : State} (h_ : Keeps m_ s_ s)  : Keeps m_ s_ (State.bringW10 s) := by
  refine Keeps.after hm h_ ?_
  clear hm h_
  unfold State.bringW10
  repeat' with_reducible first
    | assumption
    | exact Keeps.refl _ _
    | (show maskIn _ _ = true; decide)
    | apply State_askAgain_keeps
    | apply State_setChip_keeps
    | apply State_setPwr_keeps
    | apply State_shedObj_keeps
    | apply State_startPoint_keeps
    | apply keepsR_next
    | apply keeps_ite
    | apply keepsR_ite
    | apply keeps_ite2
    | apply keeps_foldl
    | apply keeps_foldl2
    | apply keeps_foldl3
    | intro _
    | dsimp only
    | (fail_if_no_progress (apply keeps_mk; on_goal 2 => (constructor <;> first | exact .inr (by decide) | exact .inl rfl)))
    | split

theorem State_wakeFails_keeps {m_ : Nat} (hm : maskIn 263051 m_ = true) {s_ s : State} (h_ : Keeps m_ s_ s)  : Keeps m_ s_ (State.wakeFails s) := by
  refine Keeps.after hm h_ ?_
  clear hm h_
  unfold State.wakeFails
  repeat' with_reducible first
    | assumption
    | exact Keeps.refl _ _
    | (show maskIn _ _ = true; decide)
    | apply State_pwrEvent_keeps
    | apply State_setChip_keeps
    | apply State_setPwr_keeps
    | apply keepsR_next
    | apply keeps_ite
    | apply keepsR_ite
    | apply keeps_ite2
    | apply keeps_foldl
    | apply keeps_foldl2
    | apply keeps_foldl3
    | intro _
    | dsimp only
    | (fail_if_no_progress (apply keeps_mk; on_goal 2 => (constructor <;> first | exact .inr (by decide) | exact .inl rfl)))
    | split

theorem State_bringStep_keeps {m_ : Nat} (hm : maskIn 1032127 m_ = true) {s_ s : State} (h_ : Keeps m_ s_ s) (step : Nat) (railOk : Bool) : Keeps m_ s_ (State.bringStep s step railOk) := by
  refine Keeps.after hm h_ ?_
  clear hm h_
  unfold State.bringStep
  repeat' with_reducible first
    | assumption
    | exact Keeps.refl _ _
    | (show maskIn _ _ = true; decide)
    | apply State_bootBegin_keeps
    | apply State_bringW10_keeps
    | apply State_bringW8_keeps
    | apply State_bringW9_keeps
    | apply State_setNum_keeps
    | apply State_setPwr_keeps
    | apply State_startFail_keeps
    | apply State_storeNotReady_keeps
    | apply State_wakeFails_keeps
    | apply keepsR_next
    | apply keeps_ite
    | apply keepsR_ite
    | apply keeps_ite2
    | apply keeps_foldl
    | apply keeps_foldl2
    | apply keeps_foldl3
    | intro _
    | dsimp only
    | (fail_if_no_progress (apply keeps_mk; on_goal 2 => (constructor <;> first | exact .inr (by decide) | exact .inl rfl)))
    | split

theorem execBringUpStep_keeps {m_ : Nat} (hm : maskIn 1032127 m_ = true) {s_ s0 : State} (h_ : Keeps m_ s_ s0) (railOk : Bool) (at_ : Nat) : KeepsR m_ s_ (execBringUpStep railOk at_ s0) := by
  refine KeepsR.after hm h_ ?_
  clear hm h_
  unfold execBringUpStep
  repeat' with_reducible first
    | assumption
    | exact Keeps.refl _ _
    | (show maskIn _ _ = true; decide)
    | apply State_bringStep_keeps
    | apply State_setPwr_keeps
    | apply State_toTick_keeps
    | apply keepsR_next
    | apply keeps_ite
    | apply keepsR_ite
    | apply keeps_ite2
    | apply keeps_foldl
    | apply keeps_foldl2
    | apply keeps_foldl3
    | intro _
    | dsimp only
    | (fail_if_no_progress (apply keeps_mk; on_goal 2 => (constructor <;> first | exact .inr (by decide) | exact .inl rfl)))
    | split

end Sys2Proof.Machine
end

