-- ==== Sys2Proof/Laws/KeepsUpdSeq.lean ====
section
/-! SUPPORT. UpdSeq: what every operation keeps. -/

namespace Sys2Proof.Machine

theorem State_imageObjs_keeps {m_ : Nat} (hm : maskIn 1 m_ = true) {s_ s : State} (h_ : Keeps m_ s_ s) (k : Nat) : Keeps m_ s_ (State.imageObjs s k) := by
  refine Keeps.after hm h_ ?_
  clear hm h_
  unfold State.imageObjs
  repeat' with_reducible first
    | assumption
    | exact Keeps.refl _ _
    | (show maskIn _ _ = true; decide)
    | apply State_setNum_keeps
    | apply keepsR_next
    | apply keeps_ite
    | apply keepsR_ite
    | apply keeps_ite2
    | apply keeps_foldl
    | apply keeps_foldl2
    | apply keeps_foldl3
    | intro _
    | dsimp only
    | (fail_if_no_progress (apply keeps_mk; on_goal 2 => (constructor <;> first | exact .inr (by decide) | exact .inl rfl)))
    | split

theorem State_levelUp_keeps {m_ : Nat} (hm : maskIn 907 m_ = true) {s_ s : State} (h_ : Keeps m_ s_ s) (k : Nat) (stored : Nat) : Keeps m_ s_ (State.levelUp s k stored) := by
  refine Keeps.after hm h_ ?_
  clear hm h_
  unfold State.levelUp
  repeat' with_reducible first
    | assumption
    | exact Keeps.refl _ _
    | (show maskIn _ _ = true; decide)
    | apply State_raise_keeps
    | apply State_setNum_keeps
    | apply keepsR_next
    | apply keeps_ite
    | apply keepsR_ite
    | apply keeps_ite2
    | apply keeps_foldl
    | apply keeps_foldl2
    | apply keeps_foldl3
    | intro _
    | dsimp only
    | (fail_if_no_progress (apply keeps_mk; on_goal 2 => (constructor <;> first | exact .inr (by decide) | exact .inl rfl)))
    | split

theorem State_pauseOn_keeps {m_ : Nat} (hm : maskIn 525210 m_ = true) {s_ s : State} (h_ : Keeps m_ s_ s) (a : Activation) : Keeps m_ s_ (State.pauseOn s a) := by
  refine Keeps.after hm h_ ?_
  clear hm h_
  unfold State.pauseOn
  repeat' with_reducible first
    | assumption
    | exact Keeps.refl _ _
    | (show maskIn _ _ = true; decide)
    | apply State_freeNat_keeps
    | apply State_raise_keeps
    | apply State_setUpd_keeps
    | apply keepsR_next
    | apply keeps_ite
    | apply keepsR_ite
    | apply keeps_ite2
    | apply keeps_foldl
    | apply keeps_foldl2
    | apply keeps_foldl3
    | intro _
    | dsimp only
    | (fail_if_no_progress (apply keeps_mk; on_goal 2 => (constructor <;> first | exact .inr (by decide) | exact .inl rfl)))
    | split

theorem execPauseBegin_keeps {m_ : Nat} (hm : maskIn 657343 m_ = true) {s_ s0 : State} (h_ : Keeps m_ s_ s0) (at_ : Nat) : KeepsR m_ s_ (execPauseBegin at_ s0) := by
  refine KeepsR.after hm h_ ?_
  clear hm h_
  unfold execPauseBegin
  repeat' with_reducible first
    | assumption
    | exact Keeps.refl _ _
    | (show maskIn _ _ = true; decide)
    | apply State_fallBegin_keeps
    | apply State_pauseOn_keeps
    | apply State_relinquishWrite_keeps
    | apply State_toTick_keeps
    | apply keepsR_next
    | apply keeps_ite
    | apply keepsR_ite
    | apply keeps_ite2
    | apply keeps_foldl
    | apply keeps_foldl2
    | apply keeps_foldl3
    | intro _
    | dsimp only
    | (fail_if_no_progress (apply keeps_mk; on_goal 2 => (constructor <;> first | exact .inr (by decide) | exact .inl rfl)))
    | split

theorem State_noteReplaced_keeps {m_ : Nat} (hm : maskIn 907 m_ = true) {s_ s : State} (h_ : Keeps m_ s_ s) (a : Nat) : Keeps m_ s_ (State.noteReplaced s a) := by
  refine Keeps.after hm h_ ?_
  clear hm h_
  unfold State.noteReplaced
  repeat' with_reducible first
    | assumption
    | exact Keeps.refl _ _
    | (show maskIn _ _ = true; decide)
    | apply State_bump_keeps
    | apply State_raise_keeps
    | apply State_setNum_keeps
    | apply keepsR_next
    | apply keeps_ite
    | apply keepsR_ite
    | apply keeps_ite2
    | apply keeps_foldl
    | apply keeps_foldl2
    | apply keeps_foldl3
    | intro _
    | dsimp only
    | (fail_if_no_progress (apply keeps_mk; on_goal 2 => (constructor <;> first | exact .inr (by decide) | exact .inl rfl)))
    | split

theorem State_bankIn_keeps {m_ : Nat} (hm : maskIn 1048575 m_ = true) {s_ s0 : State} (h_ : Keeps m_ s_ s0) (a : Activation) : Keeps m_ s_ (State.bankIn s0 a) := by
  refine Keeps.after hm h_ ?_
  clear hm h_
  unfold State.bankIn
  repeat' with_reducible first
    | assumption
    | exact Keeps.refl _ _
    | (show maskIn _ _ = true; decide)
    | apply State_levelDefaults_keeps
    | apply State_levelUp_keeps
    | apply State_noteReplaced_keeps
    | apply State_raise_keeps
    | apply State_replaceSets_keeps
    | apply keepsR_next
    | apply keeps_ite
    | apply keepsR_ite
    | apply keeps_ite2
    | apply keeps_foldl
    | apply keeps_foldl2
    | apply keeps_foldl3
    | intro _
    | dsimp only
    | (fail_if_no_progress (apply keeps_mk; on_goal 2 => (constructor <;> first | exact .inr (by decide) | exact .inl rfl)))
    | split

theorem State_imageRuns_keeps {m_ : Nat} (hm : maskIn 524289 m_ = true) {s_ s : State} (h_ : Keeps m_ s_ s) (a : Activation) : Keeps m_ s_ (State.imageRuns s a) := by
  refine Keeps.after hm h_ ?_
  clear hm h_
  unfold State.imageRuns
  repeat' with_reducible first
    | assumption
    | exact Keeps.refl _ _
    | (show maskIn _ _ = true; decide)
    | apply State_imageObjs_keeps
    | apply State_setNum_keeps
    | apply State_setUpd_keeps
    | apply keepsR_next
    | apply keeps_ite
    | apply keepsR_ite
    | apply keeps_ite2
    | apply keeps_foldl
    | apply keeps_foldl2
    | apply keeps_foldl3
    | intro _
    | dsimp only
    | (fail_if_no_progress (apply keeps_mk; on_goal 2 => (constructor <;> first | exact .inr (by decide) | exact .inl rfl)))
    | split

theorem State_pauseTwin_keeps {m_ : Nat} (hm : maskIn 1048575 m_ = true) {s_ s : State} (h_ : Keeps m_ s_ s) (fresh : Bool) : Keeps m_ s_ (State.pauseTwin s fresh) := by
  refine Keeps.after hm h_ ?_
  clear hm h_
  unfold State.pauseTwin
  repeat' with_reducible first
    | assumption
    | exact Keeps.refl _ _
    | (show maskIn _ _ = true; decide)
    | apply State_runTl_keeps
    | apply State_setNum_keeps
    | apply State_setUpd_keeps
    | apply State_toJoining_keeps
    | apply keepsR_next
    | apply keeps_ite
    | apply keepsR_ite
    | apply keeps_ite2
    | apply keeps_foldl
    | apply keeps_foldl2
    | apply keeps_foldl3
    | intro _
    | dsimp only
    | (fail_if_no_progress (apply keeps_mk; on_goal 2 => (constructor <;> first | exact .inr (by decide) | exact .inl rfl)))
    | split

theorem State_winsAgain_keeps {m_ : Nat} (hm : maskIn 41984 m_ = true) {s_ s : State} (h_ : Keeps m_ s_ s)  : Keeps m_ s_ (State.winsAgain s) := by
  refine Keeps.after hm h_ ?_
  clear hm h_
  unfold State.winsAgain
  repeat' with_reducible first
    | assumption
    | exact Keeps.refl _ _
    | (show maskIn _ _ = true; decide)
    | apply State_present_keeps
    | apply State_winBegin_keeps
    | apply keepsR_next
    | apply keeps_ite
    | apply keepsR_ite
    | apply keeps_ite2
    | apply keeps_foldl
    | apply keeps_foldl2
    | apply keeps_foldl3
    | intro _
    | dsimp only
    | (fail_if_no_progress (apply keeps_mk; on_goal 2 => (constructor <;> first | exact .inr (by decide) | exact .inl rfl)))
    | split

theorem State_runHeldAll_keeps {m_ : Nat} (hm : maskIn 1048575 m_ = true) {s_ s : State} (h_ : Keeps m_ s_ s)  : Keeps m_ s_ (State.runHeldAll s) := by
  refine Keeps.after hm h_ ?_
  clear hm h_
  unfold State.runHeldAll
  repeat' with_reducible first
    | assumption
    | exact Keeps.refl _ _
    | (show maskIn _ _ = true; decide)
    | apply State_runRecord_keeps
    | apply State_setUpd_keeps
    | apply keepsR_next
    | apply keeps_ite
    | apply keepsR_ite
    | apply keeps_ite2
    | apply keeps_foldl
    | apply keeps_foldl2
    | apply keeps_foldl3
    | intro _
    | dsimp only
    | (fail_if_no_progress (apply keeps_mk; on_goal 2 => (constructor <;> first | exact .inr (by decide) | exact .inl rfl)))
    | split

theorem execPauseEnd_keeps {m_ : Nat} (hm : maskIn 1048575 m_ = true) {s_ s0 : State} (h_ : Keeps m_ s_ s0) (at_ : Nat) : KeepsR m_ s_ (execPauseEnd at_ s0) := by
  refine KeepsR.after hm h_ ?_
  clear hm h_
  unfold execPauseEnd
  repeat' with_reducible first
    | assumption
    | exact Keeps.refl _ _
    | (show maskIn _ _ = true; decide)
    | apply State_bankIn_keeps
    | apply State_imageObjs_keeps
    | apply State_imageRuns_keeps
    | apply State_pauseTwin_keeps
    | apply State_raise_keeps
    | apply State_runHeldAll_keeps
    | apply State_setNum_keeps
    | apply State_toTick_keeps
    | apply State_twinCheck_keeps
    | apply State_winsAgain_keeps
    | apply keepsR_next
    | apply keeps_ite
    | apply keepsR_ite
    | apply keeps_ite2
    | apply keeps_foldl
    | apply keeps_foldl2
    | apply keeps_foldl3
    | intro _
    | dsimp only
    | (fail_if_no_progress (apply keeps_mk; on_goal 2 => (constructor <;> first | exact .inr (by decide) | exact .inl rfl)))
    | split

theorem execConfirmLeftExpiry_keeps {m_ : Nat} (hm : maskIn 657327 m_ = true) {s_ s0 : State} (h_ : Keeps m_ s_ s0) (at_ : Nat) : KeepsR m_ s_ (execConfirmLeftExpiry at_ s0) := by
  refine KeepsR.after hm h_ ?_
  clear hm h_
  unfold execConfirmLeftExpiry
  repeat' with_reducible first
    | assumption
    | exact Keeps.refl _ _
    | (show maskIn _ _ = true; decide)
    | apply State_fallBegin_keeps
    | apply State_toTick_keeps
    | apply keepsR_next
    | apply keeps_ite
    | apply keepsR_ite
    | apply keeps_ite2
    | apply keeps_foldl
    | apply keeps_foldl2
    | apply keeps_foldl3
    | intro _
    | dsimp only
    | (fail_if_no_progress (apply keeps_mk; on_goal 2 => (constructor <;> first | exact .inr (by decide) | exact .inl rfl)))
    | split

theorem execRecoveryGo_keeps {m_ : Nat} (hm : maskIn 524290 m_ = true) {s_ s : State} (h_ : Keeps m_ s_ s) (w : Word) (image : List Byte) : KeepsR m_ s_ (execRecoveryGo w image s) := by
  refine KeepsR.after hm h_ ?_
  clear hm h_
  unfold execRecoveryGo
  repeat' with_reducible first
    | assumption
    | exact Keeps.refl _ _
    | (show maskIn _ _ = true; decide)
    | apply State_setUpd_keeps
    | apply setReg_keeps
    | apply keepsR_next
    | apply keeps_ite
    | apply keepsR_ite
    | apply keeps_ite2
    | apply keeps_foldl
    | apply keeps_foldl2
    | apply keeps_foldl3
    | intro _
    | dsimp only
    | (fail_if_no_progress (apply keeps_mk; on_goal 2 => (constructor <;> first | exact .inr (by decide) | exact .inl rfl)))
    | split

theorem execRecoveryDone_keeps {m_ : Nat} (hm : maskIn 524322 m_ = true) {s_ s0 : State} (h_ : Keeps m_ s_ s0) (at_ : Nat) : KeepsR m_ s_ (execRecoveryDone at_ s0) := by
  refine KeepsR.after hm h_ ?_
  clear hm h_
  unfold execRecoveryDone
  repeat' with_reducible first
    | assumption
    | exact Keeps.refl _ _
    | (show maskIn _ _ = true; decide)
    | apply State_setBank_keeps
    | apply State_setImg_keeps
    | apply State_setUpd_keeps
    | apply State_toTick_keeps
    | apply setReg_keeps
    | apply keepsR_next
    | apply keeps_ite
    | apply keepsR_ite
    | apply keeps_ite2
    | apply keeps_foldl
    | apply keeps_foldl2
    | apply keeps_foldl3
    | intro _
    | dsimp only
    | (fail_if_no_progress (apply keeps_mk; on_goal 2 => (constructor <;> first | exact .inr (by decide) | exact .inl rfl)))
    | split

end Sys2Proof.Machine
end

