-- ==== Sys2Proof/Laws/KeepsTick.lean ====
section
/-! SUPPORT. Tick: what every operation keeps. -/

namespace Sys2Proof.Machine

theorem State_idleTick_keeps {m_ : Nat} (hm : maskIn 32 m_ = true) {s_ s : State} (h_ : Keeps m_ s_ s)  : Keeps m_ s_ (State.idleTick s) := by
  refine Keeps.after hm h_ ?_
  clear hm h_
  unfold State.idleTick
  repeat' with_reducible first
    | assumption
    | exact Keeps.refl _ _
    | (show maskIn _ _ = true; decide)
    | apply State_toTick_keeps
    | apply keepsR_next
    | apply keeps_ite
    | apply keepsR_ite
    | apply keeps_ite2
    | apply keeps_foldl
    | apply keeps_foldl2
    | apply keeps_foldl3
    | intro _
    | dsimp only
    | (fail_if_no_progress (apply keeps_mk; on_goal 2 => (constructor <;> first | exact .inr (by decide) | exact .inl rfl)))
    | split

end Sys2Proof.Machine
end

