-- ==== Sys2Proof/Laws/PerInstr.lean ====
section
/-! SUPPORT. One lemma per constructor of `Instr`. The family Shape: a command that is a Zhonal record has an opcode of the record formats (0 to 8
or 11, Table 2-5), an INDEX of 16 bits and a SUBINDEX of 8, whatever its operands; a command that is no record says nothing. -/

/-- The record that a command is, if any, has an opcode that requests carry and an index and subindex of the record's widths. -/
def Sys2Proof.Laws.Shape.Statement (i : Sys2Proof.Instr) : Prop :=
  ∀ r, Sys2Proof.Machine.recordOf i = some r → (r.op ≤ 8 ∨ r.op = 11) ∧ r.ix < 65536 ∧ r.sub < 256

namespace Sys2Proof.Laws

open Sys2Proof Sys2Proof.Machine

/-- COUNTERS_CLEAR stands at one of two subindices. -/
theorem clearSub_lt (n : Nat) : clearSub n < 256 := by unfold clearSub; split <;> decide

theorem Shape.nop (c : Ctx) : Shape.Statement (.nop c) := by
  intro r h; cases h; refine ⟨?_, ?_, ?_⟩ <;> dsimp only <;> omega

theorem Shape.read (c : Ctx) (ix : Half) (sub : Byte) : Shape.Statement (.read c ix sub) := by
  intro r h; cases h; refine ⟨?_, ?_, ?_⟩ <;> dsimp only <;> omega

theorem Shape.write (c : Ctx) (ix : Half) (sub : Byte) (ty : Byte) (value : List Byte) : Shape.Statement (.write c ix sub ty value) := by
  intro r h; cases h; refine ⟨?_, ?_, ?_⟩ <;> dsimp only <;> omega

theorem Shape.enableCommit (c : Ctx) (chain : List EnRec) (dangling : Bool) : Shape.Statement (.enableCommit c chain dangling) := by
  intro r h; cases h; refine ⟨?_, ?_, ?_⟩ <;> dsimp only <;> omega

theorem Shape.enableDiscard (c : Ctx) (area : Half) : Shape.Statement (.enableDiscard c area) := by
  intro r h; cases h; refine ⟨?_, ?_, ?_⟩ <;> dsimp only <;> omega

theorem Shape.discard (c : Ctx) (area : Half) : Shape.Statement (.discard c area) := by
  intro r h; cases h; refine ⟨?_, ?_, ?_⟩ <;> dsimp only <;> omega

theorem Shape.subscribe (c : Ctx) (ix : Half) (sub : Byte) (value : List Byte) : Shape.Statement (.subscribe c ix sub value) := by
  intro r h; cases h; refine ⟨?_, ?_, ?_⟩ <;> dsimp only <;> omega

theorem Shape.unsubscribe (c : Ctx) (ix : Half) (sub : Byte) : Shape.Statement (.unsubscribe c ix sub) := by
  intro r h; cases h; refine ⟨?_, ?_, ?_⟩ <;> dsimp only <;> omega

theorem Shape.readSegment (c : Ctx) (ix : Half) (sub : Byte) (offset : Word) : Shape.Statement (.readSegment c ix sub offset) := by
  intro r h; cases h; refine ⟨?_, ?_, ?_⟩ <;> dsimp only <;> omega

theorem Shape.writeSegment (c : Ctx) (ix : Half) (sub : Byte) (offset : Word) (data : List Byte) (endFlag : Bool) : Shape.Statement (.writeSegment c ix sub offset data endFlag) := by
  intro r h; cases h; refine ⟨?_, ?_, ?_⟩ <;> dsimp only <;> omega

theorem Shape.describe (c : Ctx) (ix : Half) (sub : Byte) : Shape.Statement (.describe c ix sub) := by
  intro r h; cases h; refine ⟨?_, ?_, ?_⟩ <;> dsimp only <;> omega

theorem Shape.messageDiscard (ch : Option (Fin 4)) (code : Fin 3) : Shape.Statement (.messageDiscard ch code) := by
  exact fun r h => nomatch h

theorem Shape.cachedResponse (slot : Fin 36) (seq : Word) : Shape.Statement (.cachedResponse slot seq) := by
  exact fun r h => nomatch h

theorem Shape.udpDatagramDrop (source : List Byte) (session : Word) (counter : Quad) (sealed : List Byte) (fragment : Bool) : Shape.Statement (.udpDatagramDrop source session counter sealed fragment) := by
  exact fun r h => nomatch h

theorem Shape.hello (ch : Option (Fin 4)) (source : List Byte) (nc : List Byte) (role : Byte) (keySlot : Half) : Shape.Statement (.hello ch source nc role keySlot) := by
  exact fun r h => nomatch h

theorem Shape.proof (session : Word) (source : List Byte) (mac : List Byte) : Shape.Statement (.proof session source mac) := by
  exact fun r h => nomatch h

theorem Shape.close (slot : Fin 36) : Shape.Statement (.close slot) := by
  exact fun r h => nomatch h

theorem Shape.closeNow (c : Ctx) (target : Fin 36) : Shape.Statement (.closeNow c target) := by
  intro r h; cases h; refine ⟨?_, ?_, ?_⟩ <;> dsimp only <;> omega

theorem Shape.sessionTimeout (slot : Fin 36) (at_ : Nat) : Shape.Statement (.sessionTimeout slot at_) := by
  exact fun r h => nomatch h

theorem Shape.addressBarExpiry (source : List Byte) (at_ : Nat) : Shape.Statement (.addressBarExpiry source at_) := by
  exact fun r h => nomatch h

theorem Shape.notify (slot : Fin 36) (ix : Half) (sub : Byte) (at_ : Nat) : Shape.Statement (.notify slot ix sub at_) := by
  exact fun r h => nomatch h

theorem Shape.mbxDoorbell (ch : Fin 4) (w : Word) : Shape.Statement (.mbxDoorbell ch w) := by
  exact fun r h => nomatch h

theorem Shape.mbxBufferRelease (ch : Fin 4) (w : Word) : Shape.Statement (.mbxBufferRelease ch w) := by
  exact fun r h => nomatch h

theorem Shape.countersClear (c : Ctx) (ix : Half) : Shape.Statement (.countersClear c ix) := by
  intro r h; cases h; exact ⟨.inl (Nat.le_of_ble_eq_true rfl), ix.isLt, clearSub_lt _⟩

theorem Shape.registerWrite (off : BitVec 24) (size : Nat) (value : Quad) : Shape.Statement (.registerWrite off size value) := by
  exact fun r h => nomatch h

theorem Shape.rcRegisterRead (off : BitVec 24) (size : Nat) : Shape.Statement (.rcRegisterRead off size) := by
  exact fun r h => nomatch h

theorem Shape.accessError (isWrite : Bool) (off : BitVec 24) (size : Nat) : Shape.Statement (.accessError isWrite off size) := by
  exact fun r h => nomatch h

theorem Shape.windowBWrite (off : BitVec 30) : Shape.Statement (.windowBWrite off) := by
  exact fun r h => nomatch h

theorem Shape.signalDetectAssert (p : Fin 96) (at_ : Nat) : Shape.Statement (.signalDetectAssert p at_) := by
  exact fun r h => nomatch h

theorem Shape.signalDetectDeassert (p : Fin 96) (line : Nat) (at_ : Nat) : Shape.Statement (.signalDetectDeassert p line at_) := by
  exact fun r h => nomatch h

theorem Shape.rateDwellExpiry (p : Fin 96) (at_ : Nat) : Shape.Statement (.rateDwellExpiry p at_) := by
  exact fun r h => nomatch h

theorem Shape.rateLock (p : Fin 96) (code : Fin 10) : Shape.Statement (.rateLock p code) := by
  exact fun r h => nomatch h

theorem Shape.trsLock (p : Fin 96) (code : Fin 10) (predicted : Bool) (line : Nat) (at_ : Nat) : Shape.Statement (.trsLock p code predicted line at_) := by
  exact fun r h => nomatch h

theorem Shape.formatLock (p : Fin 96) (seen : FormatSeen) : Shape.Statement (.formatLock p seen) := by
  exact fun r h => nomatch h

theorem Shape.sdiLine (p : Fin 96) (l : SdiLine) (at_ : Nat) : Shape.Statement (.sdiLine p l at_) := by
  exact fun r h => nomatch h

theorem Shape.trsMissing (p : Fin 96) (line : Nat) (rateHeld : Bool) (at_ : Nat) : Shape.Statement (.trsMissing p line rateHeld at_) := by
  exact fun r h => nomatch h

theorem Shape.erroredSecond (p : Fin 96) (at_ : Nat) : Shape.Statement (.erroredSecond p at_) := by
  exact fun r h => nomatch h

theorem Shape.quadAssociation (k : Fin 24) (skew : Nat) : Shape.Statement (.quadAssociation k skew) := by
  exact fun r h => nomatch h

theorem Shape.quadAssociationTimeout (k : Fin 24) (skew : Nat) (at_ : Nat) : Shape.Statement (.quadAssociationTimeout k skew at_) := by
  exact fun r h => nomatch h

theorem Shape.quadLinkReentry (p : Fin 96) : Shape.Statement (.quadLinkReentry p) := by
  exact fun r h => nomatch h

theorem Shape.serialiserStart (p : Fin 96) : Shape.Statement (.serialiserStart p) := by
  exact fun r h => nomatch h

theorem Shape.ethFrameReceived (p : Fin 98) (f : EthFrame) (bufs : List (Nat × Nat × Nat)) (at_ : Nat) : Shape.Statement (.ethFrameReceived p f bufs at_) := by
  exact fun r h => nomatch h

theorem Shape.ethLinkUp (p : EthRise) : Shape.Statement (.ethLinkUp p) := by
  exact fun r h => nomatch h

theorem Shape.ethLinkDown (p : Fin 96) (cause : Fin 4) (cut : Bool) : Shape.Statement (.ethLinkDown p cause cut) := by
  exact fun r h => nomatch h

theorem Shape.rxContextLost (r : Fin 8192) (at_ : Nat) : Shape.Statement (.rxContextLost r at_) := by
  exact fun r h => nomatch h

theorem Shape.lineCloseTimeout (r : Fin 8192) (at_ : Nat) : Shape.Statement (.lineCloseTimeout r at_) := by
  exact fun r h => nomatch h

theorem Shape.pairWaitExpiry (r : Fin 8192) (seq : Nat) (at_ : Nat) : Shape.Statement (.pairWaitExpiry r seq at_) := by
  exact fun r h => nomatch h

theorem Shape.pathDown (r : Fin 8192) (at_ : Nat) : Shape.Statement (.pathDown r at_) := by
  exact fun r h => nomatch h

theorem Shape.mediaPacketSend (c : Fin 8192) (k : Nat) (at_ : Nat) : Shape.Statement (.mediaPacketSend c k at_) := by
  exact fun r h => nomatch h

theorem Shape.audioPacketSend (c : Fin 8192) (at_ : Nat) : Shape.Statement (.audioPacketSend c at_) := by
  exact fun r h => nomatch h

theorem Shape.hostFrameStart (p : Fin 96) (at_ : Nat) : Shape.Statement (.hostFrameStart p at_) := by
  exact fun r h => nomatch h

theorem Shape.txtsPop (p : Fin 96) : Shape.Statement (.txtsPop p) := by
  exact fun r h => nomatch h

theorem Shape.lineRelease (sl : Fin 240) (k : Nat) (n : Nat) (at_ : Nat) : Shape.Statement (.lineRelease sl k n at_) := by
  exact fun r h => nomatch h

theorem Shape.sampleRelease (sl : Fin 240) (t : Nat) (at_ : Nat) : Shape.Statement (.sampleRelease sl t at_) := by
  exact fun r h => nomatch h

theorem Shape.frameModeDecision (sl : Fin 240) (k : Nat) (at_ : Nat) : Shape.Statement (.frameModeDecision sl k at_) := by
  exact fun r h => nomatch h

theorem Shape.realign (c : Ctx) (sl : Fin 256) (value : Byte) : Shape.Statement (.realign c sl value) := by
  intro r h; cases h; refine ⟨?_, ?_, ?_⟩ <;> dsimp only <;> omega

theorem Shape.videoDelayApply (sl : Fin 240) (k : Nat) (at_ : Nat) : Shape.Statement (.videoDelayApply sl k at_) := by
  exact fun r h => nomatch h

theorem Shape.alignModeApply (sl : Fin 240) (k : Nat) (at_ : Nat) : Shape.Statement (.alignModeApply sl k at_) := by
  exact fun r h => nomatch h

theorem Shape.storeCorrectedError (page : BitVec 16) (at_ : Nat) : Shape.Statement (.storeCorrectedError page at_) := by
  exact fun r h => nomatch h

theorem Shape.storeUncorrectableError (page : BitVec 16) (word : BitVec 15) (pageFault : Bool) (at_ : Nat) : Shape.Statement (.storeUncorrectableError page word pageFault at_) := by
  exact fun r h => nomatch h

theorem Shape.retirementCopyDone (page : BitVec 16) (poisoned : List (BitVec 15)) (at_ : Nat) : Shape.Statement (.retirementCopyDone page poisoned at_) := by
  exact fun r h => nomatch h

theorem Shape.scrubPassEnd (at_ : Nat) : Shape.Statement (.scrubPassEnd at_) := by
  exact fun r h => nomatch h

theorem Shape.trainingFrame (f : Fin 128) (control : Half) (status : Half) (req : BitVec 8) (ready : Bool) (at_ : Nat) : Shape.Statement (.trainingFrame f control status req ready at_) := by
  exact fun r h => nomatch h

theorem Shape.trainingTimeout (f : Fin 128) (at_ : Nat) : Shape.Statement (.trainingTimeout f at_) := by
  exact fun r h => nomatch h

theorem Shape.trainingRetry (f : Fin 128) (at_ : Nat) : Shape.Statement (.trainingRetry f at_) := by
  exact fun r h => nomatch h

theorem Shape.markerSend (j : Fin 12) (at_ : Nat) : Shape.Statement (.markerSend j at_) := by
  exact fun r h => nomatch h

theorem Shape.alignmentMarker (f : Fin 128) (m : AlignMarker) (at_ : Nat) : Shape.Statement (.alignmentMarker f m at_) := by
  exact fun r h => nomatch h

theorem Shape.markerMissing (f : Fin 128) (at_ : Nat) : Shape.Statement (.markerMissing f at_) := by
  exact fun r h => nomatch h

theorem Shape.relockTimeout (f : Fin 128) (at_ : Nat) : Shape.Statement (.relockTimeout f at_) := by
  exact fun r h => nomatch h

theorem Shape.linkMarkerTimeout (j : Fin 12) (at_ : Nat) : Shape.Statement (.linkMarkerTimeout j at_) := by
  exact fun r h => nomatch h

theorem Shape.eyeScan (f : Fin 128) (margin : Byte) (at_ : Nat) : Shape.Statement (.eyeScan f margin at_) := by
  exact fun r h => nomatch h

theorem Shape.cellReceived (j : Fin 12) (cell : RelayCell) (fec : List (Nat × Nat × Nat)) (prbs : List (Nat × Nat × Nat)) (at_ : Nat) : Shape.Statement (.cellReceived j cell fec prbs at_) := by
  exact fun r h => nomatch h

theorem Shape.subReq (j : Fin 12) (reqId : Half) (sid : Word) (count : Byte) (purpose : Byte) (at_ : Nat) : Shape.Statement (.subReq j reqId sid count purpose at_) := by
  exact fun r h => nomatch h

theorem Shape.subAck (j : Fin 12) (reqId : Half) (channel : Half) (charge : Word) (first : Nat) : Shape.Statement (.subAck j reqId channel charge first) := by
  exact fun r h => nomatch h

theorem Shape.subNak (j : Fin 12) (reqId : Half) (reason : Byte) : Shape.Statement (.subNak j reqId reason) := by
  exact fun r h => nomatch h

theorem Shape.unsub (j : Fin 12) (reqId : Half) (channel : Half) : Shape.Statement (.unsub j reqId channel) := by
  exact fun r h => nomatch h

theorem Shape.unsubAck (j : Fin 12) (reqId : Half) (channel : Half) (unit : Half) : Shape.Statement (.unsubAck j reqId channel unit) := by
  exact fun r h => nomatch h

theorem Shape.shed (j : Fin 12) (channel : Half) (reason : Byte) : Shape.Statement (.shed j channel reason) := by
  exact fun r h => nomatch h

theorem Shape.purpose (j : Fin 12) (channel : Half) (p : Byte) : Shape.Statement (.purpose j channel p) := by
  exact fun r h => nomatch h

theorem Shape.streamState (j : Fin 12) (channel : Half) (present : Bool) (fmt : Half) : Shape.Statement (.streamState j channel present fmt) := by
  exact fun r h => nomatch h

theorem Shape.unitSend (j : Fin 12) (channel : Half) (n : Nat) (at_ : Nat) : Shape.Statement (.unitSend j channel n at_) := by
  exact fun r h => nomatch h

theorem Shape.unitPresent (j : Fin 12) (channel : Half) (n : Nat) (at_ : Nat) : Shape.Statement (.unitPresent j channel n at_) := by
  exact fun r h => nomatch h

theorem Shape.prbsInject (c : Ctx) (f : Fin 128) (value : Half) : Shape.Statement (.prbsInject c f value) := by
  intro r h; cases h; refine ⟨?_, ?_, ?_⟩ <;> dsimp only <;> omega

theorem Shape.retrain (c : Ctx) (f : Fin 128) (value : Byte) : Shape.Statement (.retrain c f value) := by
  intro r h; cases h; refine ⟨?_, ?_, ?_⟩ <;> dsimp only <;> omega

theorem Shape.takeRingTail (n : Fin 4) (w : Word) : Shape.Statement (.takeRingTail n w) := by
  exact fun r h => nomatch h

theorem Shape.batchDecode (n : Fin 4) (at_ : Nat) : Shape.Statement (.batchDecode n at_) := by
  exact fun r h => nomatch h

theorem Shape.takeBatch (c : Ctx) (value : List Byte) : Shape.Statement (.takeBatch c value) := by
  intro r h; cases h; refine ⟨?_, ?_, ?_⟩ <;> dsimp only <;> omega

theorem Shape.takeStateWrite (c : Ctx) (o : Fin 128) (sub : Byte) (ty : Byte) (value : List Byte) : Shape.Statement (.takeStateWrite c o sub ty value) := by
  intro r h; cases h; refine ⟨?_, ?_, ?_⟩ <;> dsimp only <;> omega

theorem Shape.switchingLine (o : Fin 128) (k : Nat) (at_ : Nat) : Shape.Statement (.switchingLine o k at_) := by
  exact fun r h => nomatch h

theorem Shape.audioTakeInstant (o : Fin 128) (k : Nat) (at_ : Nat) : Shape.Statement (.audioTakeInstant o k at_) := by
  exact fun r h => nomatch h

theorem Shape.zeroCrossingTimeout (port : Option (Fin 544)) (o : Fin 128) (pos : Fin 128) (at_ : Nat) : Shape.Statement (.zeroCrossingTimeout port o pos at_) := by
  exact fun r h => nomatch h

theorem Shape.outputLine (o : Fin 128) (k : Nat) (n : Nat) (at_ : Nat) : Shape.Statement (.outputLine o k n at_) := by
  exact fun r h => nomatch h

theorem Shape.journalRead (c : Ctx) : Shape.Statement (.journalRead c) := by
  intro r h; cases h; refine ⟨?_, ?_, ?_⟩ <;> dsimp only <;> omega

theorem Shape.aesBiphaseLock (n : Fin 16) : Shape.Statement (.aesBiphaseLock n) := by
  exact fun r h => nomatch h

theorem Shape.aesFramed (framing : AesFraming) : Shape.Statement (.aesFramed framing) := by
  exact fun r h => nomatch h

theorem Shape.aesClassify (port : Fin 24) (rate : Nat) (phase : Int) (at_ : Nat) : Shape.Statement (.aesClassify port rate phase at_) := by
  exact fun r h => nomatch h

theorem Shape.aesSignalLoss (n : Fin 16) (to_ : Fin 2) (at_ : Nat) : Shape.Statement (.aesSignalLoss n to_ at_) := by
  exact fun r h => nomatch h

theorem Shape.aesSubframe (n : Fin 16) (sub : Fin 2) (parityOk : Bool) (biphaseOk : Bool) (v : Bool) (sample : BitVec 24) (at_ : Nat) : Shape.Statement (.aesSubframe n sub parityOk biphaseOk v sample at_) := by
  exact fun r h => nomatch h

theorem Shape.aesBlock (n : Fin 16) (statusA : List Byte) (statusB : List Byte) (userA : List Byte) (userB : List Byte) (crcA : Bool) (crcB : Bool) : Shape.Statement (.aesBlock n statusA statusB userA userB crcA crcB) := by
  exact fun r h => nomatch h

theorem Shape.aesOutputFrame (n : Fin 16) (t : Nat) (at_ : Nat) : Shape.Statement (.aesOutputFrame n t at_) := by
  exact fun r h => nomatch h

theorem Shape.tdmFsync (n : Fin 8) (t : Nat) (rx : List (BitVec 24)) (at_ : Nat) : Shape.Statement (.tdmFsync n t rx at_) := by
  exact fun r h => nomatch h

theorem Shape.tdmSlaveLock (n : Fin 8) : Shape.Statement (.tdmSlaveLock n) := by
  exact fun r h => nomatch h

theorem Shape.tdmFrameError (n : Fin 8) (at_ : Nat) : Shape.Statement (.tdmFrameError n at_) := by
  exact fun r h => nomatch h

theorem Shape.asrcLock (ii : Fin 64) (ratio : RateRatio) : Shape.Statement (.asrcLock ii ratio) := by
  exact fun r h => nomatch h

theorem Shape.asrcOutOfRange (ii : Fin 64) (ratio : RateRatio) : Shape.Statement (.asrcOutOfRange ii ratio) := by
  exact fun r h => nomatch h

theorem Shape.portSidWrite (c : Ctx) (ix : Half) (sub : Byte) (ty : Byte) (value : List Byte) : Shape.Statement (.portSidWrite c ix sub ty value) := by
  intro r h; cases h; refine ⟨?_, ?_, ?_⟩ <;> dsimp only <;> omega

theorem Shape.portTransitionEnd (d : Fin 544) : Shape.Statement (.portTransitionEnd d) := by
  exact fun r h => nomatch h

theorem Shape.stridePeriod (rate96 : Bool) (t : Nat) (at_ : Nat) : Shape.Statement (.stridePeriod rate96 t at_) := by
  exact fun r h => nomatch h

theorem Shape.strideSwap (at_ : Nat) : Shape.Statement (.strideSwap at_) := by
  exact fun r h => nomatch h

theorem Shape.strideFastCommit (w : Word) : Shape.Statement (.strideFastCommit w) := by
  exact fun r h => nomatch h

theorem Shape.strideFastApply (at_ : Nat) : Shape.Statement (.strideFastApply at_) := by
  exact fun r h => nomatch h

theorem Shape.strideUncorrectable (e : Fin 16) (bank : Fin 7) (word : BitVec 14) (at_ : Nat) : Shape.Statement (.strideUncorrectable e bank word at_) := by
  exact fun r h => nomatch h

theorem Shape.engineReloadDone (e : Fin 16) (at_ : Nat) : Shape.Statement (.engineReloadDone e at_) := by
  exact fun r h => nomatch h

theorem Shape.selfCheck (c : Ctx) (e : Fin 16) (value : Byte) : Shape.Statement (.selfCheck c e value) := by
  intro r h; cases h; refine ⟨?_, ?_, ?_⟩ <;> dsimp only <;> omega

theorem Shape.selfCheckDone (e : Fin 16) (pass : Bool) (at_ : Nat) : Shape.Statement (.selfCheckDone e pass at_) := by
  exact fun r h => nomatch h

theorem Shape.meterUpdate (at_ : Nat) : Shape.Statement (.meterUpdate at_) := by
  exact fun r h => nomatch h

theorem Shape.compositionWindow (h : Fin 8) (frame : Nat) (unfinished : List (Fin 512)) (at_ : Nat) : Shape.Statement (.compositionWindow h frame unfinished at_) := by
  exact fun r h => nomatch h

theorem Shape.staleHoldExpiry (l : Fin 512) (at_ : Nat) : Shape.Statement (.staleHoldExpiry l at_) := by
  exact fun r h => nomatch h

theorem Shape.cacheRebuildDone (h : Fin 8) (at_ : Nat) : Shape.Statement (.cacheRebuildDone h at_) := by
  exact fun r h => nomatch h

theorem Shape.ocxoLoss (part : Int) (at_ : Nat) : Shape.Statement (.ocxoLoss part at_) := by
  exact fun r h => nomatch h

theorem Shape.ocxoMeasureWindow (offset : Int) (at_ : Nat) : Shape.Statement (.ocxoMeasureWindow offset at_) := by
  exact fun r h => nomatch h

theorem Shape.referencePresent (r : Fin 14) (at_ : Nat) : Shape.Statement (.referencePresent r at_) := by
  exact fun r h => nomatch h

theorem Shape.referenceAbsent (r : Fin 14) (at_ : Nat) : Shape.Statement (.referenceAbsent r at_) := by
  exact fun r h => nomatch h

theorem Shape.qualificationWindow (r : Fin 14) (freq : Int) (wander : Nat) (within : Bool) (at_ : Nat) : Shape.Statement (.qualificationWindow r freq wander within at_) := by
  exact fun r h => nomatch h

theorem Shape.wtrExpiry (r : Fin 14) (at_ : Nat) : Shape.Statement (.wtrExpiry r at_) := by
  exact fun r h => nomatch h

theorem Shape.switchComplete (at_ : Nat) : Shape.Statement (.switchComplete at_) := by
  exact fun r h => nomatch h

theorem Shape.loopUpdate (seen : List (Nat × Int × Int)) (at_ : Nat) : Shape.Statement (.loopUpdate seen at_) := by
  exact fun r h => nomatch h

theorem Shape.lockAchieved (at_ : Nat) : Shape.Statement (.lockAchieved at_) := by
  exact fun r h => nomatch h

theorem Shape.timeSet (c : Ctx) (ty : Byte) (value : List Byte) : Shape.Statement (.timeSet c ty value) := by
  intro r h; cases h; refine ⟨?_, ?_, ?_⟩ <;> dsimp only <;> omega

theorem Shape.timeStep (c : Ctx) (ty : Byte) (value : List Byte) : Shape.Statement (.timeStep c ty value) := by
  intro r h; cases h; refine ⟨?_, ?_, ?_⟩ <;> dsimp only <;> omega

theorem Shape.jumpOverride (c : Ctx) (value : Byte) : Shape.Statement (.jumpOverride c value) := by
  intro r h; cases h; refine ⟨?_, ?_, ?_⟩ <;> dsimp only <;> omega

theorem Shape.overrideExpiry (at_ : Nat) : Shape.Statement (.overrideExpiry at_) := by
  exact fun r h => nomatch h

theorem Shape.loopOpen (c : Option Ctx) : Shape.Statement (.loopOpen c) := by
  cases c with
  | none => exact fun r h => nomatch h
  | some c => intro r h; cases h; refine ⟨?_, ?_, ?_⟩ <;> dsimp only <;> omega

theorem Shape.loopClose (c : Option Ctx) : Shape.Statement (.loopClose c) := by
  cases c with
  | none => exact fun r h => nomatch h
  | some c => intro r h; cases h; refine ⟨?_, ?_, ?_⟩ <;> dsimp only <;> omega

theorem Shape.pacerLoopDco (w : Word) (at_ : Nat) : Shape.Statement (.pacerLoopDco w at_) := by
  exact fun r h => nomatch h

theorem Shape.loopWatchdog (at_ : Nat) : Shape.Statement (.loopWatchdog at_) := by
  exact fun r h => nomatch h

theorem Shape.ptpSync (ii : Fin 4) (port : List Byte) (t1 : Nat) (t2 : Nat) (at_ : Nat) : Shape.Statement (.ptpSync ii port t1 t2 at_) := by
  exact fun r h => nomatch h

theorem Shape.ptpDelayResp (ii : Fin 4) (port : List Byte) (seq : Half) (t4 : Nat) (at_ : Nat) : Shape.Statement (.ptpDelayResp ii port seq t4 at_) := by
  exact fun r h => nomatch h

theorem Shape.ptpAnnounce (ii : Fin 4) (a : PtpAnnounce) (at_ : Nat) : Shape.Statement (.ptpAnnounce ii a at_) := by
  exact fun r h => nomatch h

theorem Shape.ptpOffsetSecond (ii : Fin 4) (at_ : Nat) : Shape.Statement (.ptpOffsetSecond ii at_) := by
  exact fun r h => nomatch h

theorem Shape.gmAnnounceSend (m : Fin 98) (at_ : Nat) : Shape.Statement (.gmAnnounceSend m at_) := by
  exact fun r h => nomatch h

theorem Shape.gmSyncSend (m : Fin 98) (at_ : Nat) : Shape.Statement (.gmSyncSend m at_) := by
  exact fun r h => nomatch h

theorem Shape.gmDelayReq (m : Fin 98) (port : List Byte) (seq : Half) (at_ : Nat) : Shape.Statement (.gmDelayReq m port seq at_) := by
  exact fun r h => nomatch h

theorem Shape.gmManagementSend (m : Fin 98) (at_ : Nat) : Shape.Statement (.gmManagementSend m at_) := by
  exact fun r h => nomatch h

theorem Shape.fpInputLoss (k : Fin 8) (at_ : Nat) : Shape.Statement (.fpInputLoss k at_) := by
  exact fun r h => nomatch h

theorem Shape.fpInputReturn (k : Fin 8) (phase : Int) (at_ : Nat) : Shape.Statement (.fpInputReturn k phase at_) := by
  exact fun r h => nomatch h

theorem Shape.clockOutputRestart (k : Fin 4) (at_ : Nat) : Shape.Statement (.clockOutputRestart k at_) := by
  exact fun r h => nomatch h

theorem Shape.pacerTimeNsRead (at_ : Nat) : Shape.Statement (.pacerTimeNsRead at_) := by
  exact fun r h => nomatch h

theorem Shape.ocxoInReturn (at_ : Nat) : Shape.Statement (.ocxoInReturn at_) := by
  exact fun r h => nomatch h

theorem Shape.delayReqSend (ii : Fin 4) (at_ : Nat) : Shape.Statement (.delayReqSend ii at_) := by
  exact fun r h => nomatch h

theorem Shape.partnerClaimChange (high : Bool) (at_ : Nat) : Shape.Statement (.partnerClaimChange high at_) := by
  exact fun r h => nomatch h

theorem Shape.refereeGrantChange (high : Bool) (at_ : Nat) : Shape.Statement (.refereeGrantChange high at_) := by
  exact fun r h => nomatch h

theorem Shape.batonClaimRaise (at_ : Nat) : Shape.Statement (.batonClaimRaise at_) := by
  exact fun r h => nomatch h

theorem Shape.claimTimeout (at_ : Nat) : Shape.Statement (.claimTimeout at_) := by
  exact fun r h => nomatch h

theorem Shape.heartbeatPulse (confirmed : Bool) (at_ : Nat) : Shape.Statement (.heartbeatPulse confirmed at_) := by
  exact fun r h => nomatch h

theorem Shape.healthConfirmLapse (at_ : Nat) : Shape.Statement (.healthConfirmLapse at_) := by
  exact fun r h => nomatch h

theorem Shape.handoverHoldLimit (at_ : Nat) : Shape.Statement (.handoverHoldLimit at_) := by
  exact fun r h => nomatch h

theorem Shape.revertWtrExpiry (at_ : Nat) : Shape.Statement (.revertWtrExpiry at_) := by
  exact fun r h => nomatch h

theorem Shape.releaseInstant (at_ : Nat) : Shape.Statement (.releaseInstant at_) := by
  exact fun r h => nomatch h

theorem Shape.revertAckTimeout (at_ : Nat) : Shape.Statement (.revertAckTimeout at_) := by
  exact fun r h => nomatch h

theorem Shape.revertRetry (at_ : Nat) : Shape.Statement (.revertRetry at_) := by
  exact fun r h => nomatch h

theorem Shape.relinquish (c : Ctx) (value : Byte) : Shape.Statement (.relinquish c value) := by
  intro r h; cases h; refine ⟨?_, ?_, ?_⟩ <;> dsimp only <;> omega

theorem Shape.releaseCheck (at_ : Nat) : Shape.Statement (.releaseCheck at_) := by
  exact fun r h => nomatch h

theorem Shape.tlStatus (h : TlHdr) (b : TlStatusBody) (at_ : Nat) : Shape.Statement (.tlStatus h b at_) := by
  exact fun r h => nomatch h

theorem Shape.statusSend (at_ : Nat) : Shape.Statement (.statusSend at_) := by
  exact fun r h => nomatch h

theorem Shape.tlTake (h : TlHdr) (ta : Nat) (recs : List (Nat × List Byte)) (at_ : Nat) : Shape.Statement (.tlTake h ta recs at_) := by
  exact fun r h => nomatch h

theorem Shape.tlCommit (h : TlHdr) (area : Half) (phase : Byte) (values : List (Nat × Nat × Nat × List Byte)) (code : Half) (instants : List Nat) (at_ : Nat) : Shape.Statement (.tlCommit h area phase values code instants at_) := by
  exact fun r h => nomatch h

theorem Shape.tlJournal (h : TlHdr) (entries : List (List Byte)) (at_ : Nat) : Shape.Statement (.tlJournal h entries at_) := by
  exact fun r h => nomatch h

theorem Shape.tlFast (h : TlHdr) (sample : Nat) (entries : List (List Byte)) (at_ : Nat) : Shape.Statement (.tlFast h sample entries at_) := by
  exact fun r h => nomatch h

theorem Shape.tlSnapshot (h : TlHdr) (values : List (Nat × Nat × List Byte)) (entries : List (List Byte)) (size : Nat) (endFlag : Bool) (at_ : Nat) : Shape.Statement (.tlSnapshot h values entries size endFlag at_) := by
  exact fun r h => nomatch h

theorem Shape.tlRevert (h : TlHdr) (t : Nat) (at_ : Nat) : Shape.Statement (.tlRevert h t at_) := by
  exact fun r h => nomatch h

theorem Shape.tlRevertAck (h : TlHdr) (t : Nat) (at_ : Nat) : Shape.Statement (.tlRevertAck h t at_) := by
  exact fun r h => nomatch h

theorem Shape.tlHandoverRequest (h : TlHdr) (t : Nat) (at_ : Nat) : Shape.Statement (.tlHandoverRequest h t at_) := by
  exact fun r h => nomatch h

theorem Shape.tlJoin (h : TlHdr) (gen : Word) (at_ : Nat) : Shape.Statement (.tlJoin h gen at_) := by
  exact fun r h => nomatch h

theorem Shape.tlAck (h : TlHdr) : Shape.Statement (.tlAck h) := by
  exact fun r h => nomatch h

theorem Shape.tlRetransmit (seq : Nat) (at_ : Nat) : Shape.Statement (.tlRetransmit seq at_) := by
  exact fun r h => nomatch h

theorem Shape.tlStatusTimeout (at_ : Nat) : Shape.Statement (.tlStatusTimeout at_) := by
  exact fun r h => nomatch h

theorem Shape.tlPcsLoss (at_ : Nat) : Shape.Statement (.tlPcsLoss at_) := by
  exact fun r h => nomatch h

theorem Shape.joinComplete (at_ : Nat) : Shape.Statement (.joinComplete at_) := by
  exact fun r h => nomatch h

theorem Shape.hostInterfaceReset (cause : Fin 3) : Shape.Statement (.hostInterfaceReset cause) := by
  exact fun r h => nomatch h

theorem Shape.d3hotEntry  : Shape.Statement .d3hotEntry := by
  exact fun r h => nomatch h

theorem Shape.msixIntervalEnd (v : Fin 2048) (at_ : Nat) : Shape.Statement (.msixIntervalEnd v at_) := by
  exact fun r h => nomatch h

theorem Shape.msixUnmask (v : Option (Fin 2048)) : Shape.Statement (.msixUnmask v) := by
  exact fun r h => nomatch h

theorem Shape.dmaDoorbell (c : Fin 128) (w : Word) : Shape.Statement (.dmaDoorbell c w) := by
  exact fun r h => nomatch h

theorem Shape.storeRead (c : Fin 128) (d : Descriptor) (host : HostMem) : Shape.Statement (.storeRead c d host) := by
  exact fun r h => nomatch h

theorem Shape.captureVideo (c : Fin 128) (d : Descriptor) (host : HostMem) (overrunAt : Option Nat) : Shape.Statement (.captureVideo c d host overrunAt) := by
  exact fun r h => nomatch h

theorem Shape.captureAudio (c : Fin 128) (d : Descriptor) (host : HostMem) (overrunAt : Option Nat) : Shape.Statement (.captureAudio c d host overrunAt) := by
  exact fun r h => nomatch h

theorem Shape.meterSnapshot (c : Fin 128) (d : Descriptor) (host : HostMem) : Shape.Statement (.meterSnapshot c d host) := by
  exact fun r h => nomatch h

theorem Shape.insertAnc (c : Fin 128) (d : Descriptor) (host : HostMem) : Shape.Statement (.insertAnc c d host) := by
  exact fun r h => nomatch h

theorem Shape.descriptorComplete (c : Fin 128) : Shape.Statement (.descriptorComplete c) := by
  exact fun r h => nomatch h

theorem Shape.dmaChannelDisable (c : Fin 128) (progress : Word) : Shape.Statement (.dmaChannelDisable c progress) := by
  exact fun r h => nomatch h

theorem Shape.dmaResume (c : Fin 128) : Shape.Statement (.dmaResume c) := by
  exact fun r h => nomatch h

theorem Shape.tlbInvalidate (w : Word) : Shape.Statement (.tlbInvalidate w) := by
  exact fun r h => nomatch h

theorem Shape.tlbInvalidateDone (at_ : Nat) : Shape.Statement (.tlbInvalidateDone at_) := by
  exact fun r h => nomatch h

theorem Shape.txRingDoorbell (r : Fin 64) (w : Word) (frames : List TxFrame) : Shape.Statement (.txRingDoorbell r w frames) := by
  exact fun r h => nomatch h

theorem Shape.d3hotExit  : Shape.Statement .d3hotExit := by
  exact fun r h => nomatch h

theorem Shape.pcieLinkTrained (speed : Nat) (width : Nat) : Shape.Statement (.pcieLinkTrained speed width) := by
  exact fun r h => nomatch h

theorem Shape.faultReport (source : Fin 512) (code : Half) : Shape.Statement (.faultReport source code) := by
  exact fun r h => nomatch h

theorem Shape.ack (c : Option Ctx) (source : Fin 512) : Shape.Statement (.ack c source) := by
  cases c with
  | none => exact fun r h => nomatch h
  | some c => intro r h; cases h; refine ⟨?_, ?_, ?_⟩ <;> dsimp only <;> omega

theorem Shape.ackAll (c : Option Ctx) : Shape.Statement (.ackAll c) := by
  cases c with
  | none => exact fun r h => nomatch h
  | some c => intro r h; cases h; refine ⟨?_, ?_, ?_⟩ <;> dsimp only <;> omega

theorem Shape.faultConditionEnd (source : Fin 512) : Shape.Statement (.faultConditionEnd source) := by
  exact fun r h => nomatch h

theorem Shape.safeEnter (c : Ctx) (value : Byte) : Shape.Statement (.safeEnter c value) := by
  intro r h; cases h; refine ⟨?_, ?_, ?_⟩ <;> dsimp only <;> omega

theorem Shape.safeExit (c : Ctx) (value : Byte) : Shape.Statement (.safeExit c value) := by
  intro r h; cases h; refine ⟨?_, ?_, ?_⟩ <;> dsimp only <;> omega

theorem Shape.collectorSelfCheck (goodA : Bool) (goodB : Bool) (agree : Bool) (at_ : Nat) : Shape.Statement (.collectorSelfCheck goodA goodB agree at_) := by
  exact fun r h => nomatch h

theorem Shape.minIntervalEnd (n : Fin 1024) (at_ : Nat) : Shape.Statement (.minIntervalEnd n at_) := by
  exact fun r h => nomatch h

theorem Shape.recorderFlush (writeError : Option Nat) : Shape.Statement (.recorderFlush writeError) := by
  exact fun r h => nomatch h

theorem Shape.flashRetry (writeError : Option Nat) (at_ : Nat) : Shape.Statement (.flashRetry writeError at_) := by
  exact fun r h => nomatch h

theorem Shape.powerFailAssert (at_ : Nat) : Shape.Statement (.powerFailAssert at_) := by
  exact fun r h => nomatch h

theorem Shape.powerFailDeassert  : Shape.Statement .powerFailDeassert := by
  exact fun r h => nomatch h

theorem Shape.recorderSecond (at_ : Nat) : Shape.Statement (.recorderSecond at_) := by
  exact fun r h => nomatch h

theorem Shape.recRead (c : Ctx) : Shape.Statement (.recRead c) := by
  intro r h; cases h; refine ⟨?_, ?_, ?_⟩ <;> dsimp only <;> omega

theorem Shape.recClear (c : Ctx) (token : List Byte) : Shape.Statement (.recClear c token) := by
  intro r h; cases h; refine ⟨?_, ?_, ?_⟩ <;> dsimp only <;> omega

theorem Shape.recorderEraseDone  : Shape.Statement .recorderEraseDone := by
  exact fun r h => nomatch h

theorem Shape.recChallengeRoll (at_ : Nat) : Shape.Statement (.recChallengeRoll at_) := by
  exact fun r h => nomatch h

theorem Shape.operatingTimeSave (at_ : Nat) : Shape.Statement (.operatingTimeSave at_) := by
  exact fun r h => nomatch h

theorem Shape.benchRequest (c : Ctx) : Shape.Statement (.benchRequest c) := by
  intro r h; cases h; refine ⟨?_, ?_, ?_⟩ <;> dsimp only <;> omega

theorem Shape.dictionaryWake (c : Ctx) : Shape.Statement (.dictionaryWake c) := by
  intro r h; cases h; refine ⟨?_, ?_, ?_⟩ <;> dsimp only <;> omega

theorem Shape.benchForce (c : Ctx) (value : Byte) : Shape.Statement (.benchForce c value) := by
  intro r h; cases h; refine ⟨?_, ?_, ?_⟩ <;> dsimp only <;> omega

theorem Shape.benchEntryStep (active : BitVec 9) (at_ : Nat) : Shape.Statement (.benchEntryStep active at_) := by
  exact fun r h => nomatch h

theorem Shape.wake (source : Fin 9) (at_ : Nat) : Shape.Statement (.wake source at_) := by
  exact fun r h => nomatch h

theorem Shape.hostWake (w : Word) : Shape.Statement (.hostWake w) := by
  exact fun r h => nomatch h

theorem Shape.wakeTimerExpiry (at_ : Nat) : Shape.Statement (.wakeTimerExpiry at_) := by
  exact fun r h => nomatch h

theorem Shape.bringUpStep (railOk : Bool) (at_ : Nat) : Shape.Statement (.bringUpStep railOk at_) := by
  exact fun r h => nomatch h

theorem Shape.jogSample (p : Fin 96) (high : Nat) (at_ : Nat) : Shape.Statement (.jogSample p high at_) := by
  exact fun r h => nomatch h

theorem Shape.jogReturnExpiry (p : Fin 96) (at_ : Nat) : Shape.Statement (.jogReturnExpiry p at_) := by
  exact fun r h => nomatch h

theorem Shape.procPointStep (railOk : Bool) (at_ : Nat) : Shape.Statement (.procPointStep railOk at_) := by
  exact fun r h => nomatch h

theorem Shape.fselWrite (v : Fin 4) : Shape.Statement (.fselWrite v) := by
  exact fun r h => nomatch h

theorem Shape.vselWrite (v : Fin 4) : Shape.Statement (.vselWrite v) := by
  exact fun r h => nomatch h

theorem Shape.monitorChange (m : Fin 4) (beyond : Bool) (at_ : Nat) : Shape.Statement (.monitorChange m beyond at_) := by
  exact fun r h => nomatch h

theorem Shape.pmbusRead (rails : List (Nat × Nat × Nat × Nat × Nat)) (at_ : Nat) : Shape.Statement (.pmbusRead rails at_) := by
  exact fun r h => nomatch h

theorem Shape.ledgerSecond (onDie : Nat) (at_ : Nat) : Shape.Statement (.ledgerSecond onDie at_) := by
  exact fun r h => nomatch h

theorem Shape.thermalRead (temps : List Int) (at_ : Nat) : Shape.Statement (.thermalRead temps at_) := by
  exact fun r h => nomatch h

theorem Shape.lcRequest (c : Ctx) (value : List Byte) : Shape.Statement (.lcRequest c value) := by
  intro r h; cases h; refine ⟨?_, ?_, ?_⟩ <;> dsimp only <;> omega

theorem Shape.load (c : Ctx) (sl : Fin 256) (value : List Byte) : Shape.Statement (.load c sl value) := by
  intro r h; cases h; refine ⟨?_, ?_, ?_⟩ <;> dsimp only <;> omega

theorem Shape.verify (c : Ctx) (sl : Fin 256) (value : List Byte) : Shape.Statement (.verify c sl value) := by
  intro r h; cases h; refine ⟨?_, ?_, ?_⟩ <;> dsimp only <;> omega

theorem Shape.pendingKeyTimeout (sl : Fin 256) (at_ : Nat) : Shape.Statement (.pendingKeyTimeout sl at_) := by
  exact fun r h => nomatch h

theorem Shape.invalidate (c : Ctx) (sl : Fin 256) (value : Byte) : Shape.Statement (.invalidate c sl value) := by
  intro r h; cases h; refine ⟨?_, ?_, ?_⟩ <;> dsimp only <;> omega

theorem Shape.keyPatrol (failed : List (Fin 256)) (at_ : Nat) : Shape.Statement (.keyPatrol failed at_) := by
  exact fun r h => nomatch h

theorem Shape.keyStoreAccessRefused (master : Fin 8) (flash : Bool) (access : Fin 4) : Shape.Statement (.keyStoreAccessRefused master flash access) := by
  exact fun r h => nomatch h

theorem Shape.attestNonce (c : Ctx) (nonce : List Byte) : Shape.Statement (.attestNonce c nonce) := by
  intro r h; cases h; refine ⟨?_, ?_, ?_⟩ <;> dsimp only <;> omega

theorem Shape.attestReportReady (at_ : Nat) : Shape.Statement (.attestReportReady at_) := by
  exact fun r h => nomatch h

theorem Shape.imageVerified (at_ : Nat) : Shape.Statement (.imageVerified at_) := by
  exact fun r h => nomatch h

theorem Shape.activate (c : Ctx) (value : Byte) : Shape.Statement (.activate c value) := by
  intro r h; cases h; refine ⟨?_, ?_, ?_⟩ <;> dsimp only <;> omega

theorem Shape.confirm (c : Ctx) (value : Byte) : Shape.Statement (.confirm c value) := by
  intro r h; cases h; refine ⟨?_, ?_, ?_⟩ <;> dsimp only <;> omega

theorem Shape.pauseBegin (at_ : Nat) : Shape.Statement (.pauseBegin at_) := by
  exact fun r h => nomatch h

theorem Shape.pauseEnd (at_ : Nat) : Shape.Statement (.pauseEnd at_) := by
  exact fun r h => nomatch h

theorem Shape.trialConfirmation (answers : Bool) (at_ : Nat) : Shape.Statement (.trialConfirmation answers at_) := by
  exact fun r h => nomatch h

theorem Shape.confirmLeftExpiry (at_ : Nat) : Shape.Statement (.confirmLeftExpiry at_) := by
  exact fun r h => nomatch h

theorem Shape.recoveryGo (w : Word) (image : List Byte) : Shape.Statement (.recoveryGo w image) := by
  exact fun r h => nomatch h

theorem Shape.recoveryDone (at_ : Nat) : Shape.Statement (.recoveryDone at_) := by
  exact fun r h => nomatch h

theorem Shape.startingBlock (failed : List (Fin 256)) (at_ : Nat) : Shape.Statement (.startingBlock failed at_) := by
  exact fun r h => nomatch h

theorem Shape.resetAssert (at_ : Nat) : Shape.Statement (.resetAssert at_) := by
  exact fun r h => nomatch h

theorem Shape.resetRelease (ocxo : Bool) : Shape.Statement (.resetRelease ocxo) := by
  exact fun r h => nomatch h

theorem Shape.pciePerst  : Shape.Statement .pciePerst := by
  exact fun r h => nomatch h

theorem Shape.loadsComplete (bad : List Half) (at_ : Nat) : Shape.Statement (.loadsComplete bad at_) := by
  exact fun r h => nomatch h

theorem Shape.readyPhase (at_ : Nat) : Shape.Statement (.readyPhase at_) := by
  exact fun r h => nomatch h

theorem Shape.startComplete (at_ : Nat) : Shape.Statement (.startComplete at_) := by
  exact fun r h => nomatch h

theorem Shape.startWaitExpiry (mesh : Bool) (at_ : Nat) : Shape.Statement (.startWaitExpiry mesh at_) := by
  exact fun r h => nomatch h

theorem Shape.subordinateTimeout (at_ : Nat) : Shape.Statement (.subordinateTimeout at_) := by
  exact fun r h => nomatch h

theorem Shape.startRestart (at_ : Nat) : Shape.Statement (.startRestart at_) := by
  exact fun r h => nomatch h

theorem Shape.startReadyTimeout (at_ : Nat) : Shape.Statement (.startReadyTimeout at_) := by
  exact fun r h => nomatch h

end Sys2Proof.Laws
end

