-- ==== Sys2Proof/Tests/Slice0.lean ====
section
/-! SUPPORT. This row's own tests. First the smoke test of WellFormed (an ill-formed command for each check, which the check refuses) and
values written out from the spec's tables; then, for every obligation with hypotheses, states and operands that meet all of
them together (theorems met_<obligation>_<n>: each applies the obligation, clause by clause, so its hypotheses hold there). -/

set_option Elab.async false

namespace Sys2Proof.Tests

open Sys2Proof Sys2Proof.Machine

/-! ### WellFormed -/

/-- Some record context. -/
def tCtx : Ctx := ⟨4, 1, true, true, false, .good⟩
/-- Some ancillary packet. -/
def tAnc : AncPkt := ⟨0x60, 0x60, 9, 0, false, 1, [1], true⟩
/-- Some embedded audio packet. -/
def tAud : AudPkt := ⟨1, 1, 0, [[1], [2], [3], [4]]⟩
/-- Some SDI line. -/
def tLine : SdiLine := ⟨1, 1, true, false, false, none, [], [tAnc], [tAud], [], 0, 0, 0⟩
/-- Some Ethernet frame. -/
def tFrame : EthFrame := ⟨6, true, 1, [], 0x800, .other, none, none, none, [1, 2]⟩
/-- Some twin-link header. -/
def tHdr : TlHdr := ⟨twinMsg 1 0 1 0 0 []⟩
/-- Some STATUS body. -/
def tBody : TlStatusBody := ⟨[3, 1, 3] ++ List.replicate 41 0, (0, 0)⟩
/-- Some Announce message. -/
def tAnnounce : PtpAnnounce := ⟨List.replicate 10 0, 128, 6, 0, 0, 128, 1, 0, none, 0⟩
/-- Some DMA descriptor. -/
def tDesc : Descriptor := ⟨1, 0, 0, 0, 0, 0, 0⟩

theorem test_wf_nop : wellFormed (.nop tCtx) = true := by decide
theorem test_wf_write : wellFormed (.write tCtx 0x4001 2 2 (List.replicate 1025 0)) = false := by decide +kernel
theorem test_wf_enableCommit : wellFormed (.enableCommit tCtx [] false) = false := by decide
theorem test_wf_udpDatagramDrop : wellFormed (.udpDatagramDrop [] 1 1 [] false) = false := by decide
theorem test_wf_hello_source : wellFormed (.hello (some 0) [1] (List.replicate 32 0) 1 2) = false := by decide
theorem test_wf_hello_nonce : wellFormed (.hello (some 0) [] (List.replicate 31 0) 1 2) = false := by decide
theorem test_wf_proof_source : wellFormed (.proof 1 [1] (List.replicate 48 0)) = false := by decide
theorem test_wf_proof_mac : wellFormed (.proof 1 [] (List.replicate 47 0)) = false := by decide
theorem test_wf_registerWrite : wellFormed (.registerWrite 0 3 0) = false := by decide
theorem test_wf_rcRegisterRead : wellFormed (.rcRegisterRead 0 16) = false := by decide
theorem test_wf_rateLock : wellFormed (.rateLock 0 0) = false := by decide
theorem test_wf_trsLock : wellFormed (.trsLock 0 0 true 1 0) = false := by decide
theorem test_wf_sdiLine : wellFormed (.sdiLine 0 tLine 0) = true := by decide
theorem test_wf_sdiLine_number : wellFormed (.sdiLine 0 { tLine with line := 2251 } 0) = false := by decide
theorem test_wf_sdiLine_zero : wellFormed (.sdiLine 0 { tLine with line := 0 } 0) = false := by decide
theorem test_wf_sdiLine_ancWords : wellFormed (.sdiLine 0 { tLine with anc := [{ tAnc with data := List.replicate 256 0 }] } 0) = false := by decide +kernel
theorem test_wf_sdiLine_ancLine : wellFormed (.sdiLine 0 { tLine with anc := [{ tAnc with line := 2048 }] } 0) = false := by decide
theorem test_wf_sdiLine_ancOffset : wellFormed (.sdiLine 0 { tLine with anc := [{ tAnc with hoff := 4096 }] } 0) = false := by decide
theorem test_wf_sdiLine_ancLink : wellFormed (.sdiLine 0 { tLine with anc := [{ tAnc with link := 5 }] } 0) = false := by decide
theorem test_wf_sdiLine_group : wellFormed (.sdiLine 0 { tLine with audio := [{ tAud with group := 9 }] } 0) = false := by decide
theorem test_wf_sdiLine_ecc : wellFormed (.sdiLine 0 { tLine with audio := [{ tAud with ecc := 3 }] } 0) = false := by decide
theorem test_wf_sdiLine_channels : wellFormed (.sdiLine 0 { tLine with audio := [{ tAud with samples := [] }] } 0) = false := by decide
theorem test_wf_sdiLine_sample : wellFormed (.sdiLine 0 { tLine with audio := [{ tAud with samples := [[2 ^ 24], [], [], []] }] } 0) = false := by decide
theorem test_wf_ethFrame : wellFormed (.ethFrameReceived 0 tFrame [] 0) = true := by decide
theorem test_wf_ethFrame_length : wellFormed (.ethFrameReceived 0 { tFrame with length := 5 } [] 0) = false := by decide
theorem test_wf_ethFrame_dst : wellFormed (.ethFrameReceived 0 { tFrame with dst := 2 ^ 48 } [] 0) = false := by decide
theorem test_wf_ethFrame_tags : wellFormed (.ethFrameReceived 0 { tFrame with tags := [(0x8100, 65536)] } [] 0) = false := by decide
theorem test_wf_ethFrame_etype : wellFormed (.ethFrameReceived 0 { tFrame with etype := 65536 } [] 0) = false := by decide
theorem test_wf_ethFrame_rows : wellFormed (.ethFrameReceived 0 { tFrame with media := some (.video [(2 ^ 15, 0, [])] true) } [] 0) = false := by decide
theorem test_wf_ethFrame_samples : wellFormed (.ethFrameReceived 0 { tFrame with media := some (.audio [[2 ^ 24]]) } [] 0) = false := by decide
theorem test_wf_ethFrame_anc : wellFormed (.ethFrameReceived 0 { tFrame with media := some (.anc [{ tAnc with line := 2048 }] true) } [] 0) = false := by decide
theorem test_wf_ethFrame_sdi : wellFormed (.ethFrameReceived 0 { tFrame with media := some (.sdi [{ tLine with line := 0 }] none) } [] 0) = false := by decide
theorem test_wf_cell_header : wellFormed (.cellReceived 1 ⟨[0x20], false, false, .none⟩ [] [] 0) = false := by decide
theorem test_wf_cell_body : wellFormed (.cellReceived 1 ⟨[0x20, 0, 0, 0, 0, 0, 0, 0], false, false, .audio [[2 ^ 24]]⟩ [] [] 0) = false := by decide
theorem test_wf_marker_device : wellFormed (.alignmentMarker 0 ⟨0, 12, 0, 0, 0, 0, 0, 0⟩ 0) = false := by decide
theorem test_wf_marker_lane : wellFormed (.alignmentMarker 0 ⟨0, 1, 24, 0, 0, 0, 0, 0⟩ 0) = false := by decide
theorem test_wf_subAck : wellFormed (.subAck 1 0 0 0 (2 ^ 96)) = false := by decide
theorem test_wf_aesBlock : wellFormed (.aesBlock 0 [] [] [] [] true true) = false := by decide
theorem test_wf_asrcLock : wellFormed (.asrcLock 0 ⟨1, 0⟩) = false := by decide
theorem test_wf_asrcOutOfRange : wellFormed (.asrcOutOfRange 0 ⟨1, 0⟩) = false := by decide
theorem test_wf_ptpSync : wellFormed (.ptpSync 0 [] 0 0 0) = false := by decide
theorem test_wf_ptpDelayResp : wellFormed (.ptpDelayResp 0 [] 0 0 0) = false := by decide
theorem test_wf_ptpAnnounce_port : wellFormed (.ptpAnnounce 0 { tAnnounce with port := [] } 0) = false := by decide
theorem test_wf_ptpAnnounce_gm : wellFormed (.ptpAnnounce 0 { tAnnounce with gm := 2 ^ 64 } 0) = false := by decide
theorem test_wf_ptpAnnounce_class : wellFormed (.ptpAnnounce 0 { tAnnounce with clockClass := 256 } 0) = false := by decide
theorem test_wf_gmDelayReq : wellFormed (.gmDelayReq 0 [] 0 0) = false := by decide
theorem test_wf_loopUpdate : wellFormed (.loopUpdate [(14, 0, 0)] 0) = false := by decide
theorem test_wf_tlStatus : wellFormed (.tlStatus tHdr tBody 0) = true := by decide
theorem test_wf_tlStatus_body : wellFormed (.tlStatus tHdr { tBody with raw := [] } 0) = false := by decide
theorem test_wf_tlStatus_time : wellFormed (.tlStatus tHdr { tBody with rxTs := (0, 1000000000) } 0) = false := by decide
theorem test_wf_tlTake_time : wellFormed (.tlTake tHdr (2 ^ 96) [] 0) = false := by decide
theorem test_wf_tlTake_record : wellFormed (.tlTake tHdr 0 [(0, [1])] 0) = false := by decide
theorem test_wf_tlCommit : wellFormed (.tlCommit tHdr 0x5FFF 3 [] 0 [] 0) = false := by decide
theorem test_wf_tlJournal : wellFormed (.tlJournal tHdr [[1]] 0) = false := by decide
theorem test_wf_tlFast : wellFormed (.tlFast tHdr 0 [[1]] 0) = false := by decide
theorem test_wf_tlSnapshot : wellFormed (.tlSnapshot tHdr [] [[1]] 0 true 0) = false := by decide
theorem test_wf_tlRevert : wellFormed (.tlRevert tHdr (2 ^ 96) 0) = false := by decide
theorem test_wf_tlRevertAck : wellFormed (.tlRevertAck tHdr (2 ^ 96) 0) = false := by decide
theorem test_wf_tlHandoverRequest : wellFormed (.tlHandoverRequest tHdr (2 ^ 96) 0) = false := by decide
theorem test_wf_tlJoin : wellFormed (.tlJoin ⟨[10]⟩ 0 0) = false := by decide
theorem test_wf_tlAck : wellFormed (.tlAck ⟨[]⟩) = false := by decide
theorem test_wf_storeRead : wellFormed (.storeRead 0 tDesc [(4, .word 0)]) = false := by decide
theorem test_wf_captureVideo : wellFormed (.captureVideo 0 tDesc [(8, .word (2 ^ 64))] none) = false := by decide
theorem test_wf_captureAudio : wellFormed (.captureAudio 0 tDesc [(1, .timeout)] none) = false := by decide
theorem test_wf_meterSnapshot : wellFormed (.meterSnapshot 0 tDesc [(2, .poisoned)]) = false := by decide
theorem test_wf_insertAnc : wellFormed (.insertAnc 0 tDesc [(3, .word 0)]) = false := by decide
theorem test_wf_txRing_lane : wellFormed (.txRingDoorbell 0 0 [⟨1, 96, false, 0, false, []⟩]) = false := by decide
theorem test_wf_txRing_descs : wellFormed (.txRingDoorbell 0 0 [⟨0, 0, false, 0, false, []⟩]) = false := by decide
theorem test_wf_pcieLink_speed : wellFormed (.pcieLinkTrained 6 8) = false := by decide
theorem test_wf_pcieLink_width : wellFormed (.pcieLinkTrained 4 3) = false := by decide
theorem test_wf_thermalRead : wellFormed (.thermalRead [] 0) = false := by decide
theorem test_wf_pmbusRead : wellFormed (.pmbusRead [(32, 0, 0, 0, 0)] 0) = false := by decide
theorem test_wf_attestNonce : wellFormed (.attestNonce tCtx (List.replicate 1025 0)) = false := by decide +kernel
/-- A recovery image of more than 32 MiB is refused. -/
theorem test_wf_recoveryGo (image : List Byte) (h : 33554432 < image.length) : wellFormed (.recoveryGo 0 image) = false := by
  simp only [wellFormed, decide_eq_false_iff_not]; omega

/-- A state with these objects written. -/
def sets (s : State) (l : List (Nat × Nat)) : State := l.foldl (fun (t : State) p => t.setNum p.1 p.2) s
/-- The device ready, one second after the release of RESET_N. -/
def w0 : State :=
  { sets State.reset [(O.startStartPhase, 5)] with tm := { ticks := 800000000, pt := 10 ^ 9 * 2 ^ 64, inc := 5 * 2 ^ 62 } }
/-- The same, with a session of role 3 in slot 4 and these objects written. -/
def w1 (l : List (Nat × Nat)) : State := (sets w0 l).setSess 4 { Session.free with id := 1, role := 3 }

/-! ### The spec's worked examples

Each expected value stands in the example its comment names. -/

/-- A state with these objects written. -/
def setsObj (s : State) (l : List (Nat × Val)) : State := l.foldl (fun (t : State) p => t.setObj p.1 p.2) s

/-- 01_essence_model, the example under R19: channel 5 of the audio of slot 17 of device 3. -/
theorem test_sid : mkSid 3 17 1 5 = 0x31110005 := by decide +kernel
/-- 01_essence_model, worked trace: ESSENCE_RATE of 2160p59.94 with 16 channels and one ancillary stream. -/
theorem test_essenceRate : essenceRate 0x0707 16 48 1 = 9995 := by decide +kernel
/-- 06_relay_fabric, the example under R177: the lanes of the link between devices 3 and 8, from either end. -/
theorem test_linkLanes : (linkBase .a 12 5, linkLanes .a 12 5, linkBase .a 12 7, linkLanes .a 12 7) = (47, 11, 70, 11) := by decide +kernel
/-- 06_relay_fabric, the last example: charges of 2160p59.94 and 1080p59.94 video, and CAP of 11 and 10 lanes. -/
theorem test_charges : (videoCharge 0x0707 1, videoCharge 0x0607 1, capOf 11, capOf 10) = (10367, 2594, 1102900, 1002600) := by decide +kernel
/-- The same: 16 channels at 48 kHz, an ancillary stream and a time code. -/
theorem test_chargesOfSlot :
    let s := sets State.reset [(O.slotAudioChannels 17, 16), (O.slotAudioRate 17, 48), (O.slotAncStreams 17, 1)]
    (s.chargeOf (mkSid 0 17 1 0) 16, s.chargeOf (mkSid 0 17 2 0) 1, s.chargeOf (mkSid 0 17 3 0) 1) = (22, 41, 1) := by decide +kernel
/-- 04_port_lanes_ethernet, the last example: packets of a 2160p59.94 frame at 1,200 bytes. -/
theorem test_packets : packetsPer 0x0707 1200 = 17280 := by decide +kernel
/-- 14_faults_and_events, the example: event 0x5003 is source 226, counted at 0x06_0388; group 13 pends at 0x05_00D0. -/
theorem test_eventSource : evtSource 0x5003 = some 226 ∧ rEvtCount 226 = 0x060388 ∧ rEvtPending 13 = 0x0500D0 := by decide +kernel
/-- 13_host_interface, the example: the RESUME_TOKEN of channel 5, descriptor 12 at 405,504 bytes. -/
theorem test_resumeToken : resumeToken 5 12 405504 = 0x0A00000C00063000 := by decide +kernel
/-- 14_faults_and_events, the example: the record of the report at 18 s. -/
theorem test_record : EvRec.wire ⟨0xA001, [0x00, 0xA0, 0x05, 0x11, 0x50, 0x03, 0x00, 0x0A], 1, 0, 412, 31536000, 0x004A21⟩ =
    [0xA0, 0x01, 0x02, 0x10, 0x00, 0x00, 0x01, 0x9C, 0x00, 0x01, 0xE1, 0x33, 0x80, 0x00, 0x4A, 0x21, 0x00, 0xA0, 0x05, 0x11, 0x50, 0x03,
      0x00, 0x0A] := by decide +kernel
/-- A report of source 160 every two seconds, `n` times, with ESCALATE 1 (14_faults_and_events, the example). -/
def tReports (n : Nat) : State :=
  (List.range n).foldl (fun (s : State) i => (s.toTick (800000000 * (2 * i + 1))).report 160 0x5003) (sets w0 [(0xA00101, 1)])
/-- The same example: nine reports are Notes. -/
theorem test_nineReports : ((tReports 9).src 160).state = 0 ∧ (tReports 9).faultNLow = false := by decide +kernel
/-- The tenth is classified 1 and held; FAULT_N goes low. -/
theorem test_tenthReport : ((tReports 10).src 160).state = 1 ∧ ((tReports 10).src 160).sev = 1 ∧ (tReports 10).faultNLow = true := by
  decide +kernel
/-- The eleventh is escalated to 2. -/
theorem test_eleventhReport : ((tReports 11).src 160).sev = 2 := by decide +kernel
/-- Output 12 of device 8 in 1080i25, its video remote (07_takes_and_outputs, the example). -/
def tTake : State := sets State.reset [(O.meshDeviceIndex, 8), (O.meshMeshSize, 12), (O.outRaster 12, 0x0403), (O.outTakeDeadline 12, 3),
  (O.takeVideoSid 12, 0x30000000), (O.outSwitchLine 12, 7)]
/-- The same example, in ns: line 7 leaves at 391.111 µs; the deadline lies at 284.444 µs, with a new subscription at 228.889 µs. -/
theorem test_takeDeadline : (tTake.outTime 12 (tTake.outVideo 12) 0 7 / ptNs, tTake.takeDeadline 12 0 false / ptNs,
    (tTake.takeDeadline 12 0 true + ptNs / 2) / ptNs) = (391111, 284444, 228889) := by decide +kernel
/-- A node of the Stride graph, pinned to engine 3. -/
def tNode (kind count a0 a1 a2 : Nat) : Val :=
  .oct ([0x80] ++ beBytes 1 kind ++ [3] ++ beBytes 1 count ++ beBytes 4 a0 ++ beBytes 4 a1 ++ beBytes 4 a2)
/-- An edge. -/
def tEdge (a b g : Nat) : Val := .oct (beBytes 2 a ++ beBytes 2 b ++ beBytes 4 g)
/-- A destination slot with a limiter at −1.00 dBFS. -/
def tDest (target : Nat) : Val := .oct (beBytes 2 target ++ [0xFF, 0x9C, 48, 0, 0, 100, 0, 0, 0, 0])
/-- The graph of 09_stride_engines, worked example. -/
def tGraph : State := setsObj State.reset
  ([(O.node 0, tNode 2 0 0x2801 0 0), (O.node 1, tNode 2 0 0x2802 0 0), (O.node 2, tNode 2 0 0x2803 0 0), (O.node 3, tNode 2 0 0x2805 0 0),
    (O.node 4, tNode 2 0 0x2806 0 0), (O.node 10, tNode 3 0 0 0 0), (O.node 11, tNode 3 0 0 0 0), (O.node 12, tNode 5 1 0 0 0),
    (O.node 13, tNode 5 1 1 0 0), (O.node 14, tNode 7 0 0 1 2000), (O.node 15, tNode 7 0 1 1 2000), (O.node 16, tNode 8 0 0 0 0),
    (O.node 17, tNode 8 0 1 0 0)] ++
   [(O.edge 0, tEdge 0 10 0x100000), (O.edge 1, tEdge 2 10 0x0B504F), (O.edge 2, tEdge 3 10 0x0B504F), (O.edge 3, tEdge 1 11 0x100000),
    (O.edge 4, tEdge 2 11 0x0B504F), (O.edge 5, tEdge 4 11 0x0B504F), (O.edge 6, tEdge 10 12 0x100000), (O.edge 7, tEdge 11 13 0x100000),
    (O.edge 8, tEdge 12 14 0x100000), (O.edge 9, tEdge 13 15 0x100000), (O.edge 10, tEdge 12 16 0x100000), (O.edge 11, tEdge 13 17 0x100000),
    (O.dest 0, tDest 0x2801), (O.dest 1, tDest 0x2802)])
/-- The same example: the 17 steps of engine 3 and a latency of 49 samples. -/
theorem test_compile : (tGraph.compile tGraph).banks.map (fun p => (p.1, p.2.prog)) = [(3,
    [0x0820000000000000, 0x0C20020000004000, 0x0C20030000008000, 0x1800000000000000, 0x082001000000C000, 0x0C20020000010000,
     0x0C20040000014000, 0x1800000004000000, 0x1C00000000000000, 0x1800000008000000, 0x1C00010000000001, 0x180000000C000000] ++
    [0x2800020000000000, 0x2800030000000001, 0x2C00020000000000, 0x2C00030000000001, 0xFC00000000000000])] ∧
    (tGraph.compile tGraph).lat = [(0, 49), (1, 49)] := by decide +kernel
/-- A tile of 960 × 540 with the full crop. -/
def tTile (key : Bool) (x y a0 a1 z : Nat) : Val :=
  .oct ([if key then 0xC0 else 0x80, 1, 0] ++ beBytes 1 z ++ beBytes 2 x ++ beBytes 2 y ++ beBytes 2 960 ++ beBytes 2 540 ++ beBytes 4 a0 ++
    beBytes 4 a1 ++ beBytes 2 0 ++ beBytes 2 0 ++ beBytes 2 4096 ++ beBytes 2 4096 ++ [0, 6, 255, 255])
/-- The head of 10_composition, worked example: 12 remote tiles, 3 local ones and a keyed one. -/
def tHead : State :=
  let s := setsObj (sets State.reset ([(O.meshDeviceIndex, 8), (O.meshMeshSize, 12), (O.headEnable 0, 1), (O.headRaster 0, 0x0707)] ++
      (List.range 5).flatMap (fun i => [(O.sdiRxRate (20 + i), 5), (O.slotSlotEnable (20 + i), 1)])))
    ((List.range 12).map (fun i => (O.layer i, tTile false (960 * (i % 4)) (540 * (i / 4)) (0x30000000 + i * 2 ^ 20) 0 (i + 1))) ++
     (List.range 3).map (fun i => (O.layer (12 + i), tTile false (960 * i) 1620 (0x80000000 + (22 + i) * 2 ^ 20) 0 (13 + i))) ++
     [(O.layer 15, tTile true 2880 1620 (0x80000000 + 20 * 2 ^ 20) (0x80000000 + 21 * 2 ^ 20) 16)])
  s.setLink 3 { FabLink.down with
    up := true
    subs := (List.range 12).map (fun i => (i, ⟨0x30000000 + i * 2 ^ 20, 1, 2, 10367, 0, none, [], [], .none, true, 0⟩)) }
/-- The same example: engine costs and the line-buffer need of the keyed tile. -/
theorem test_tileCosts : (tHead.tileCost (tHead.layer 0), tHead.tileCost (tHead.layer 12), tHead.tileCost (tHead.layer 15),
    tHead.lineNeed (tHead.layer 15)) = (4285440, 1105920, 2142720, 23040) := by decide +kernel
/-- Pages and demand. -/
theorem test_compPages : (tHead.headPages 0, tHead.compPages, tHead.compBw) = (95, 365, 319) := by decide +kernel
/-- The placement at 1.0 GHz: four engines. -/
theorem test_placement : (tHead.poolPlace 1 [] (fun _ => true)).place =
    [(0, 1), (1, 1), (2, 1), (3, 2), (4, 2), (5, 2), (6, 3), (7, 3), (8, 3), (9, 4), (10, 4), (11, 4), (12, 1), (13, 2), (14, 3), (15, 4)] := by
  decide +kernel

/-! ### States that meet the hypotheses -/

/-! ### Records -/

namespace Records

/-- A record that begins a message of the session in slot 4. -/
def wCtx (q : Word) : Ctx := ⟨4, q, true, false, false, .good⟩
/-- The device ready with a session of role 3 in slot 4. -/
def wRec (l : List (Nat × Nat)) (f : DictSt → DictSt) : State :=
  let s := w1 l
  { s with dict := f s.dict }
theorem met_RecordsRead_1 (h : Obligations.RecordsRead) : ∃ P, Does (.nop (wCtx 7)) (wRec [] id) P := by
  apply Exists.intro; apply (h.1 _ _).1; unfold State.begins; decide +kernel
theorem met_RecordsRead_2 (h : Obligations.RecordsRead) : ∃ P, Does (.nop { wCtx 7 with slot := 5 }) (wRec [] id) P := by
  apply Exists.intro; apply (h.1 _ _).2.1 <;> decide +kernel
/-- A record that waits for a subscription (log entry 23). -/
def wWait : Waiter := ⟨[(1, 7)], 4, 6, 0, 1, 0, 0, [(0x6FFF, 1)], 0, []⟩
theorem met_RecordsRead_3 (h : Obligations.RecordsRead) : ∃ P, Does (.nop (wCtx 7))
    (let s := wRec [] id
     { s with upd := { s.upd with paused := true, heldMsgs := 255 } }) P := by
  apply Exists.intro; apply (h.1 _ _).2.2.2.1 <;> decide +kernel
theorem met_RecordsRead_3b (h : Obligations.RecordsRead) : ∃ P, Does (.nop (wCtx 7)) (wRec [] (fun d => { d with waits := [wWait] })) P := by
  apply Exists.intro; apply (h.1 _ _).2.2.1 <;> decide +kernel
theorem met_RecordsRead_4 (h : Obligations.RecordsRead) : ∃ P, Does (.nop { wCtx 7 with last := true }) (wRec [] id) P := by
  apply Exists.intro; apply (h.1 _ _).2.2.2.2 <;> decide +kernel
theorem met_RecordsRead_5 (h : Obligations.RecordsRead) : ∃ P, Does (.read (wCtx 7) 0x4001 0xFE) (wRec [] id) P := by
  apply Exists.intro; apply (h.2 _ _ _ _ _ _ rfl).1 <;> first | decide +kernel | (unfold State.begins; decide +kernel)
theorem met_RecordsRead_6 (h : Obligations.RecordsRead) : ∃ P, Does (.read (wCtx 7) 0x4001 2) (wRec [(0x400102, 3)] id) P := by
  apply Exists.intro; apply (h.2 _ _ _ _ _ _ rfl).2.1 _ _ _ rfl <;> first | decide +kernel | (unfold State.begins; decide +kernel)
theorem met_RecordsRead_7 (h : Obligations.RecordsRead) : ∃ P, Does (.read (wCtx 7) 0x4FFE 0) (wRec [] id) P := by
  apply Exists.intro; apply (h.2 _ _ _ _ _ _ rfl).2.2.1 <;> first | decide +kernel | (unfold State.begins; decide +kernel)
theorem met_RecordsRead_7b (h : Obligations.RecordsRead) : ∃ P, Does (.read (wCtx 7) 0x4001 0) (wRec [] id) P := by
  apply Exists.intro; apply (h.2 _ _ _ _ _ _ rfl).2.2.2.1 <;> first | decide +kernel | (unfold State.begins; decide +kernel)
/-- The same with an identity certificate of five bytes. -/
def wIdent : State :=
  let s := wRec [] id
  { s with upd := { s.upd with identity := [1, 2, 3, 4, 5] } }
theorem met_RecordsRead_8 (h : Obligations.RecordsRead) : ∃ P, Does (.readSegment (wCtx 7) 0xB002 1 5) wIdent P := by
  apply Exists.intro; apply ((h.2 _ _ _ _ _ _ rfl).2.2.2.2.1 _ _ _).1 <;> first | decide +kernel | (unfold State.begins; decide +kernel)
theorem met_RecordsRead_9 (h : Obligations.RecordsRead) : ∃ P, Does (.readSegment (wCtx 7) 0xB002 1 6) wIdent P := by
  apply Exists.intro; apply ((h.2 _ _ _ _ _ _ rfl).2.2.2.2.1 _ _ _).2 <;> first | decide +kernel | (unfold State.begins; decide +kernel)
theorem met_RecordsRead_10 (h : Obligations.RecordsRead) : ∃ P, Does (.describe (wCtx 7) 0x4001 2) (wRec [] id) P := by
  apply Exists.intro; apply (h.2 _ _ _ _ _ _ rfl).2.2.2.2.2.1 <;> first | decide +kernel | (unfold State.begins; decide +kernel)
theorem met_RecordsRead_11 (h : Obligations.RecordsRead) : ∃ P, Does (.describe (wCtx 7) 0x4001 0xFE) (wRec [] id) P := by
  apply Exists.intro; apply (h.2 _ _ _ _ _ _ rfl).2.2.2.2.2.2.1 <;> first | decide +kernel | (unfold State.begins; decide +kernel)
theorem met_RecordsRead_12 (h : Obligations.RecordsRead) : ∃ P, Does (.describe (wCtx 7) 0xA800 0) (wRec [] id) P := by
  apply Exists.intro; apply (h.2 _ _ _ _ _ _ rfl).2.2.2.2.2.2.2 <;> first | decide +kernel | (unfold State.begins; decide +kernel)
theorem met_RecordsStageAndCommit_1 (h : Obligations.RecordsStageAndCommit) : ∃ P, Does (.write (wCtx 7) 0x4001 2 2 [13]) (wRec [] id) P := by
  apply Exists.intro
  apply ((h _ _ _ _ rfl).1 _ _ _ _ (.num 13) _).1 0x0001 <;> first | decide +kernel | (unfold State.begins; decide +kernel)
theorem met_RecordsStageAndCommit_2 (h : Obligations.RecordsStageAndCommit) : ∃ P, Does (.write (wCtx 7) 0x4001 2 2 [12]) (wRec [] id) P := by
  apply Exists.intro
  apply ((h _ _ _ _ rfl).1 _ _ _ _ (.num 12) _).2 <;> first | decide +kernel | (unfold State.begins; decide +kernel)
theorem met_RecordsStageAndCommit_3 (h : Obligations.RecordsStageAndCommit) : ∃ P, Does (.write (wCtx 7) 0x4001 5 2 [32]) (wRec [] id) P := by
  apply Exists.intro
  apply (h _ _ _ _ rfl).2.1 _ _ (.num 32) <;> first | decide +kernel | (unfold State.begins; decide +kernel)
theorem met_RecordsStageAndCommit_4 (h : Obligations.RecordsStageAndCommit) : ∃ P, Does (.writeSegment (wCtx 7) 0x7801 2 0 [1, 2] false) (wRec [] id) P := by
  apply Exists.intro
  apply (h _ _ _ _ rfl).2.2.1 <;> first | decide +kernel | (unfold State.begins; decide +kernel)
/-- Staged sets in areas 0xAFFF and 0x4FFF owned by that session. -/
def wStaged (l : List (Nat × Val)) : State := wRec [] (fun d => { d with staged := l, owners := [(0x4FFF, 1), (0xAFFF, 1)] })
theorem met_RecordsStageAndCommit_5 (h : Obligations.RecordsStageAndCommit) : ∃ P, Does (.discard (wCtx 7) 0x4FFF) (wStaged [(0x400102, .num 3), (0xA10002, .num 2)]) P := by
  apply Exists.intro
  apply (h _ _ _ _ rfl).2.2.2.1 <;> first | decide +kernel | (unfold State.begins; decide +kernel)
theorem met_RecordsStageAndCommit_6 (h : Obligations.RecordsStageAndCommit) : ∃ P, Does (.enableDiscard (wCtx 7) 0x4FFF) (wStaged [(0x400102, .num 3)]) P := by
  apply Exists.intro
  apply (h _ _ _ _ rfl).2.2.2.2.1 <;> first | decide +kernel | (unfold State.begins; decide +kernel)
theorem met_RecordsStageAndCommit_7 (h : Obligations.RecordsStageAndCommit) : ∃ P, Does (.enableCommit (wCtx 7) [enRec 0xAFFF 1] false) (wStaged [(0xA10002, .num 2)]) P := by
  apply Exists.intro
  apply (h _ _ _ _ rfl).2.2.2.2.2.1 0xA10002 (.num 2) <;> first | decide +kernel | (unfold State.begins; decide +kernel)
theorem met_RecordsStageAndCommit_7b (h : Obligations.RecordsStageAndCommit) : ∃ P, Does (.enableCommit (wCtx 7) [enRec 0x4FFF 1] false) (wStaged [(O.meshDeviceIndex, .num 12)]) P := by
  apply Exists.intro
  apply (h _ _ _ _ rfl).2.2.2.2.2.2.1 0x4FFF O.meshDeviceIndex 0x4012 <;> first | decide +kernel | (unfold State.begins; decide +kernel)
theorem met_RecordsStageAndCommit_8 (h : Obligations.RecordsStageAndCommit) : ∃ P, Does (.enableCommit (wCtx 7) [enRec 0xAFFF 1, enRec 0x4FFF 2] true) (wStaged [(0xA10002, .num 2)]) P := by
  refine ⟨_, (h _ _ _ ?_ rfl).2.2.2.2.2.2.2.1 [enRec 0xAFFF 1, enRec 0x4FFF 2]⟩; unfold State.begins; decide +kernel
theorem met_RecordsStageAndCommit_8b (h : Obligations.RecordsStageAndCommit) : ∃ P, Does (.enableCommit (wCtx 7) [enRec 0xAFFF 1] true) (wStaged [(0xA10002, .num 2)]) P := by
  refine ⟨_, (h _ _ _ ?_ rfl).2.2.2.2.2.2.2.2.1 (enRec 0xAFFF 1) ?_⟩ <;> first | decide +kernel | (unfold State.begins; decide +kernel)
theorem met_RecordsStageAndCommit_9 (h : Obligations.RecordsStageAndCommit) : ∃ P, Does (.subscribe (wCtx 7) 0x4001 0 [3, 0, 0, 10]) (wRec [] id) P := by
  apply Exists.intro
  apply ((h _ _ _ _ rfl).2.2.2.2.2.2.2.2.2 _ _ 3 0 10 _).1 <;> first | decide +kernel | (unfold State.begins; decide +kernel)
theorem met_RecordsStageAndCommit_10 (h : Obligations.RecordsStageAndCommit) : ∃ P, Does (.unsubscribe (wCtx 7) 0x4001 2)
    (wRec [] (fun d => { d with subs := [⟨4, 0x400102, 1, 10, 0, []⟩, ⟨5, 0x400102, 1, 10, 0, []⟩] })) P := by
  apply Exists.intro
  apply ((h _ _ _ _ rfl).2.2.2.2.2.2.2.2.2 _ _ 3 0 10 _).2 <;> first | decide +kernel | (unfold State.begins; decide +kernel)

end Records

/-! ### CommandObjects -/

namespace CommandObjects

/-- A record that begins a message of the session in slot 4. -/
def wCtx (q : Word) : Ctx := ⟨4, q, true, false, false, .good⟩
/-- The device ready, unfused, with a session of role 3 in slot 4, these objects and this change of the update block. -/
def wMan (l : List (Nat × Nat)) (f : UpdSt → UpdSt) : State :=
  let s := w1 l
  { s with upd := f s.upd }
/-- The same for the twin block. -/
def wMt (l : List (Nat × Nat)) (f : TwinSt → TwinSt) : State :=
  let s := w1 l
  { s with twin := f s.twin }
/-- The same for the fault collector. -/
def wMf (f : FltSt → FltSt) : State :=
  let s := w1 []
  { s with flt := f s.flt }
/-- A take record of output 127 alone: LAST, video SID 0 of batch 9, a cut. -/
def wTakeBytes : List Byte := [127, 0x81, 0, 0, 0, 0, 0, 9] ++ List.replicate 24 0
/-- Output 127 with a raster. -/
def wO127 : State := w1 [(O.outRaster 127, 0x0607)]
/-- A valid key of ROLE 3 that may be used in Field. -/
def wOwner : KeySlot := { keyDefault 9 with state := 1, role := 3, cycles := 4, masters := 255, key := [1, 2, 3] }
/-- A key waiting to be verified. -/
def wPend : PendKey := ⟨5, 8, 3, 3, 4, 1, [9], 0⟩
theorem met_CommandObjectsOfEssence_1 (h : Obligations.CommandObjectsOfEssence) : ∃ P, Does (.closeNow (wCtx 7) 35) ((w1 []).setSess 35 { Session.free with id := 2, role := 1 }) P := by
  apply Exists.intro; have g := h (wCtx 7) ((w1 []).setSess 35 { Session.free with id := 2, role := 1 }) _ (.num 1) (by unfold State.begins; decide +kernel) rfl
  apply g.1 35 <;> first | decide +kernel | (unfold State.begins; decide +kernel) | rfl
theorem met_CommandObjectsOfEssence_2 (h : Obligations.CommandObjectsOfEssence) : ∃ P, Does (.countersClear (wCtx 7) 0x305F) (w1 [(objKey 0x305F 0x30, 5), (objKey 0x305F 0x3A, 7)]) P := by
  apply Exists.intro; have g := h (wCtx 7) (w1 [(objKey 0x305F 0x30, 5), (objKey 0x305F 0x3A, 7)]) _ (.num 1) (by unfold State.begins; decide +kernel) rfl
  apply g.2.1 _ _ rfl <;> first | decide +kernel | (unfold State.begins; decide +kernel) | rfl
theorem met_CommandObjectsOfEssence_3 (h : Obligations.CommandObjectsOfEssence) : ∃ P, Does (.realign (wCtx 7) 239 1) (w1 [(O.slotGroup 239, 64), (O.slotGroup 0, 64), (O.slotSlotEnable 0, 1), (O.slotSlotEnable 239, 1)]) P := by
  apply Exists.intro; have g := h (wCtx 7) (w1 [(O.slotGroup 239, 64), (O.slotGroup 0, 64), (O.slotSlotEnable 0, 1), (O.slotSlotEnable 239, 1)]) _ (.num 1) (by unfold State.begins; decide +kernel) rfl
  apply g.2.2.1 <;> first | decide +kernel | (unfold State.begins; decide +kernel) | rfl
theorem met_CommandObjectsOfEssence_4 (h : Obligations.CommandObjectsOfEssence) : ∃ P, Does (.prbsInject (wCtx 7) 127 65535) (w1 [(O.flPrbsMode 127, 3)]) P := by
  apply Exists.intro; have g := h (wCtx 7) (w1 [(O.flPrbsMode 127, 3)]) _ (.num 65535) (by unfold State.begins; decide +kernel) rfl
  apply g.2.2.2.1 <;> first | decide +kernel | (unfold State.begins; decide +kernel) | rfl
theorem met_CommandObjectsOfEssence_5 (h : Obligations.CommandObjectsOfEssence) : ∃ P, Does (.retrain (wCtx 7) 1 1) (((w1 [(O.meshMeshSize, 2), (O.flLaneEnable 1, 1)]).setFl 1 { FabLane.idle with worn := true }).setLink 1 FabLink.down) P := by
  apply Exists.intro; have g := h (wCtx 7) (((w1 [(O.meshMeshSize, 2), (O.flLaneEnable 1, 1)]).setFl 1 { FabLane.idle with worn := true }).setLink 1 FabLink.down) _ (.num 1) (by unfold State.begins; decide +kernel) rfl
  apply g.2.2.2.2.1 1 1 1 1 <;> first | decide +kernel | (unfold State.begins; decide +kernel) | rfl
theorem met_CommandObjectsOfEssence_6 (h : Obligations.CommandObjectsOfEssence) : ∃ P, Does (.takeBatch (wCtx 7) wTakeBytes) (wO127) P := by
  apply Exists.intro; have g := h (wCtx 7) (wO127) _ (.oct wTakeBytes) (by unfold State.begins; decide +kernel) rfl
  apply g.2.2.2.2.2.1 _ _ _ rfl <;> first | decide +kernel | (unfold State.begins; decide +kernel) | rfl
theorem met_CommandObjectsOfEssence_7 (h : Obligations.CommandObjectsOfEssence) : ∃ P, Does (.takeStateWrite (wCtx 7) 127 1 4 [0, 0, 0, 0]) (wO127) P := by
  apply Exists.intro; have g := h (wCtx 7) (wO127) _ (.num 0) (by unfold State.begins; decide +kernel) rfl
  apply g.2.2.2.2.2.2.1 _ _ _ _ _ rfl <;> first | decide +kernel | (unfold State.begins; decide +kernel) | rfl
theorem met_CommandObjectsOfEssence_8 (h : Obligations.CommandObjectsOfEssence) : ∃ P, Does (.portSidWrite (wCtx 7) 0x7047 64 4 [0xFF, 1, 0, 0]) (w1 []) P := by
  apply Exists.intro; have g := h (wCtx 7) (w1 []) _ (.num 0xFF010000) (by unfold State.begins; decide +kernel) rfl
  apply g.2.2.2.2.2.2.2.1 _ _ _ _ 543 <;> first | decide +kernel | (unfold State.begins; decide +kernel) | rfl
theorem met_CommandObjectsOfEssence_9 (h : Obligations.CommandObjectsOfEssence) : ∃ P, Does (.selfCheck (wCtx 7) 15 1) (w1 []) P := by
  apply Exists.intro; have g := h (wCtx 7) (w1 []) _ (.num 1) (by unfold State.begins; decide +kernel) rfl
  apply g.2.2.2.2.2.2.2.2 <;> first | decide +kernel | (unfold State.begins; decide +kernel) | rfl
theorem met_CommandObjectsOfControl_1 (h : Obligations.CommandObjectsOfControl) : ∃ P, Does (.timeSet (wCtx 7) 10 (beBytes 12 (5 * 2 ^ 32))) (w1 []) P := by
  apply Exists.intro; have g := h (wCtx 7) (w1 []) _ (.num (5 * 2 ^ 32)) (by unfold State.begins; decide +kernel) rfl
  apply ((g.1 10 (beBytes 12 (5 * 2 ^ 32))).1 _).1 <;> first | decide +kernel | (unfold State.begins; decide +kernel) | rfl
theorem met_CommandObjectsOfControl_2 (h : Obligations.CommandObjectsOfControl) : ∃ P, Does (.timeSet (wCtx 7) 10 (beBytes 12 (5 * 2 ^ 32))) (w1 [(O.pacerEverLocked, 1), (O.loopJumpThreshold, 100000)]) P := by
  apply Exists.intro; have g := h (wCtx 7) (w1 [(O.pacerEverLocked, 1), (O.loopJumpThreshold, 100000)]) _ (.num (5 * 2 ^ 32)) (by unfold State.begins; decide +kernel) rfl
  apply ((g.1 10 (beBytes 12 (5 * 2 ^ 32))).1 _).2 <;> first | decide +kernel | (unfold State.begins; decide +kernel) | rfl
theorem met_CommandObjectsOfControl_3 (h : Obligations.CommandObjectsOfControl) : ∃ P, Does (.timeStep (wCtx 7) 7 [255, 255, 255, 255, 255, 255, 255, 255]) (w1 []) P := by
  apply Exists.intro; have g := h (wCtx 7) (w1 []) _ (.num (-1)) (by unfold State.begins; decide +kernel) rfl
  apply ((g.1 7 [255, 255, 255, 255, 255, 255, 255, 255]).2 _).1 <;> first | decide +kernel | (unfold State.begins; decide +kernel) | rfl
theorem met_CommandObjectsOfControl_4 (h : Obligations.CommandObjectsOfControl) : ∃ P, Does (.timeStep (wCtx 7) 7 [0, 0, 0, 0, 0, 0, 0, 9]) (let s := w1 [(O.pacerEverLocked, 1)]
     { s with pac := { s.pac with armed := 5 } }) P := by
  apply Exists.intro; have g := h (wCtx 7) (let s := w1 [(O.pacerEverLocked, 1)]
     { s with pac := { s.pac with armed := 5 } }) _ (.num 9) (by unfold State.begins; decide +kernel) rfl
  apply ((g.1 7 [0, 0, 0, 0, 0, 0, 0, 9]).2 _).1 <;> first | decide +kernel | (unfold State.begins; decide +kernel) | rfl
theorem met_CommandObjectsOfControl_4b (h : Obligations.CommandObjectsOfControl) : ∃ P, Does (.timeStep (wCtx 7) 7 [0, 0, 0, 0, 0, 0, 0, 9]) (w1 [(O.pacerEverLocked, 1), (O.loopJumpThreshold, 8)]) P := by
  apply Exists.intro; have g := h (wCtx 7) (w1 [(O.pacerEverLocked, 1), (O.loopJumpThreshold, 8)]) _ (.num 9) (by unfold State.begins; decide +kernel) rfl
  apply ((g.1 7 [0, 0, 0, 0, 0, 0, 0, 9]).2 _).2 <;> first | decide +kernel | (unfold State.begins; decide +kernel) | rfl
theorem met_CommandObjectsOfControl_5 (h : Obligations.CommandObjectsOfControl) : ∃ P, Does (.jumpOverride (wCtx 7) 1) (w1 []) P := by
  apply Exists.intro; have g := h (wCtx 7) (w1 []) _ (.num 1) (by unfold State.begins; decide +kernel) rfl
  apply g.2.1
  · decide +kernel
  · decide +kernel
  · intro i; unfold State.stepHeld; split
    · have hi : i = 0 ∨ i = 1 ∨ i = 2 ∨ i = 3 := by omega
      rcases hi with rfl | rfl | rfl | rfl <;> decide +kernel
    · split <;> first | rfl | decide +kernel
theorem met_CommandObjectsOfControl_6 (h : Obligations.CommandObjectsOfControl) : ∃ P, Does (.loopOpen (some (wCtx 7))) (w1 [(O.pacerPacerState, 2)]) P := by
  apply Exists.intro; have g := h (wCtx 7) (w1 [(O.pacerPacerState, 2)]) _ (.num 1) (by unfold State.begins; decide +kernel) rfl
  apply g.2.2.1 <;> first | decide +kernel | (unfold State.begins; decide +kernel) | rfl
theorem met_CommandObjectsOfControl_7 (h : Obligations.CommandObjectsOfControl) : ∃ P, Does (.loopClose (some (wCtx 7))) (w1 [(O.pacerPacerState, 5), (O.loopLoopMode, 1)]) P := by
  apply Exists.intro; have g := h (wCtx 7) (w1 [(O.pacerPacerState, 5), (O.loopLoopMode, 1)]) _ (.num 0) (by unfold State.begins; decide +kernel) rfl
  apply g.2.2.2.1 <;> first | decide +kernel | (unfold State.begins; decide +kernel) | rfl
theorem met_CommandObjectsOfControl_8 (h : Obligations.CommandObjectsOfControl) : ∃ P, Does (.relinquish (wCtx 7) 1) (wMt [(O.twinPartnerHealthy, 1), (O.twinTwinState, 6)] (fun t => { t with role := 2, up := true, gate := true })) P := by
  apply Exists.intro; have g := h (wCtx 7) (wMt [(O.twinPartnerHealthy, 1), (O.twinTwinState, 6)] (fun t => { t with role := 2, up := true, gate := true })) _ (.num 1) (by unfold State.begins; decide +kernel) rfl
  apply g.2.2.2.2.1 <;> first | decide +kernel | (unfold State.begins; decide +kernel) | rfl
theorem met_CommandObjectsOfControl_9 (h : Obligations.CommandObjectsOfControl) : ∃ P, Does (.safeEnter (wCtx 7) 1) (w1 []) P := by
  apply Exists.intro; have g := h (wCtx 7) (w1 []) _ (.num 1) (by unfold State.begins; decide +kernel) rfl
  apply g.2.2.2.2.2.1 <;> first | decide +kernel | (unfold State.begins; decide +kernel) | rfl
theorem met_CommandObjectsOfControl_10 (h : Obligations.CommandObjectsOfControl) : ∃ P, Does (.safeExit (wCtx 7) 1) (wMf (fun f => { f with safe := true, selfFault := true })) P := by
  apply Exists.intro; have g := h (wCtx 7) (wMf (fun f => { f with safe := true, selfFault := true })) _ (.num 1) (by unfold State.begins; decide +kernel) rfl
  apply (g.2.2.2.2.2.2.1 1 _ _ _).2 <;> first | decide +kernel | (unfold State.begins; decide +kernel) | rfl
theorem met_CommandObjectsOfControl_11 (h : Obligations.CommandObjectsOfControl) : ∃ P, Does (.ack (some (wCtx 7)) 511) (wMf (fun f => { f with src := [(511, { SrcSt.clear with state := 1, cond := true })] })) P := by
  apply Exists.intro; have g := h (wCtx 7) (wMf (fun f => { f with src := [(511, { SrcSt.clear with state := 1, cond := true })] })) _ (.num 1) (by unfold State.begins; decide +kernel) rfl
  apply g.2.2.2.2.2.2.2.1 <;> first | decide +kernel | (unfold State.begins; decide +kernel) | rfl
theorem met_CommandObjectsOfControl_12 (h : Obligations.CommandObjectsOfControl) : ∃ P, Does (.ackAll (some (wCtx 7))) (wMf (fun f => { f with src := [(0, { SrcSt.clear with state := 1 }), (511, { SrcSt.clear with state := 1, cond := true })] })) P := by
  apply Exists.intro; have g := h (wCtx 7) (wMf (fun f => { f with src := [(0, { SrcSt.clear with state := 1 }), (511, { SrcSt.clear with state := 1, cond := true })] })) _ (.num 1) (by unfold State.begins; decide +kernel) rfl
  apply g.2.2.2.2.2.2.2.2 <;> first | decide +kernel | (unfold State.begins; decide +kernel) | rfl
theorem met_CommandObjectsOfControl_13 (h : Obligations.CommandObjectsOfControl) : ∃ P, Does (.safeExit (wCtx 7) 1) (wMf (fun f => { f with safe := true })) P := by
  apply Exists.intro
  have g := h (wCtx 7) (wMf (fun f => { f with safe := true })) _ (.num 1) (by unfold State.begins; decide +kernel) rfl
  apply (g.2.2.2.2.2.2.1 1 _ _ _).1
  · decide +kernel
  · intro n y hm
    have hh : (wMf (fun f => { f with safe := true })).heldList = [] := by decide +kernel
    rw [hh] at hm; cases hm
  all_goals decide +kernel
theorem met_CommandObjectsOfManagement_1 (h : Obligations.CommandObjectsOfManagement) : ∃ P, Does (.recRead (wCtx 7)) (w1 []) P := by
  apply Exists.intro; have g := h (wCtx 7) (w1 []) _ (.num 0) (by unfold State.begins; decide +kernel) rfl
  apply g.1 <;> first | decide +kernel | (unfold State.begins; decide +kernel) | rfl
theorem met_CommandObjectsOfManagement_2 (h : Obligations.CommandObjectsOfManagement) : ∃ P, Does (.journalRead (wCtx 7)) (w1 []) P := by
  apply Exists.intro; have g := h (wCtx 7) (w1 []) _ (.num 0) (by unfold State.begins; decide +kernel) rfl
  apply g.2.1 <;> first | decide +kernel | (unfold State.begins; decide +kernel) | rfl
theorem met_CommandObjectsOfManagement_3 (h : Obligations.CommandObjectsOfManagement) : ∃ P, Does (.recClear (wCtx 7) (List.replicate 48 7)) (w1 []) P := by
  apply Exists.intro; have g := h (wCtx 7) (w1 []) _ (.oct (List.replicate 48 7)) (by unfold State.begins; decide +kernel) rfl
  apply g.2.2.1 <;> first | decide +kernel | (unfold State.begins; decide +kernel) | rfl
theorem met_CommandObjectsOfManagement_4 (h : Obligations.CommandObjectsOfManagement) : ∃ P, Does (.benchRequest (wCtx 7)) (wMt [] (fun t => { t with gate := false, claim := true })) P := by
  apply Exists.intro; have g := h (wCtx 7) (wMt [] (fun t => { t with gate := false, claim := true })) _ (.num 1) (by unfold State.begins; decide +kernel) rfl
  apply g.2.2.2.1 <;> first | decide +kernel | (unfold State.begins; decide +kernel) | rfl
theorem met_CommandObjectsOfManagement_5 (h : Obligations.CommandObjectsOfManagement) : ∃ P, Does (.dictionaryWake (wCtx 7)) (w1 [(O.pwrChipState, 2), (O.pwrWakeMask, 2)]) P := by
  apply Exists.intro; have g := h (wCtx 7) (w1 [(O.pwrChipState, 2), (O.pwrWakeMask, 2)]) _ (.num 0) (by unfold State.begins; decide +kernel) rfl
  apply g.2.2.2.2.1 <;> first | decide +kernel | (unfold State.begins; decide +kernel) | rfl
theorem met_CommandObjectsOfManagement_6 (h : Obligations.CommandObjectsOfManagement) : ∃ P, Does (.benchForce (wCtx 7) 1) (wMt [] (fun t => { t with gate := true })) P := by
  apply Exists.intro; have g := h (wCtx 7) (wMt [] (fun t => { t with gate := true })) _ (.num 1) (by unfold State.begins; decide +kernel) rfl
  apply g.2.2.2.2.2.1 <;> first | decide +kernel | (unfold State.begins; decide +kernel) | rfl
theorem met_CommandObjectsOfManagement_7 (h : Obligations.CommandObjectsOfManagement) : ∃ P, Does (.lcRequest (wCtx 7) [2]) (wMan [] (fun u => { u with lc := 1, keys := [(255, wOwner)] })) P := by
  apply Exists.intro; have g := h (wCtx 7) (wMan [] (fun u => { u with lc := 1, keys := [(255, wOwner)] })) _ (.oct [2]) (by unfold State.begins; decide +kernel) rfl
  apply g.2.2.2.2.2.2.1 <;> first | decide +kernel | (unfold State.begins; decide +kernel) | rfl
theorem met_CommandObjectsOfManagement_7b (h : Obligations.CommandObjectsOfManagement) : ∃ P, Does (.lcRequest (wCtx 7) [4]) (wMan [] (fun u => { u with lc := 2, keys := [(255, wOwner)] })) P := by
  apply Exists.intro; have g := h (wCtx 7) (wMan [] (fun u => { u with lc := 2, keys := [(255, wOwner)] })) _ (.oct [4]) (by unfold State.begins; decide +kernel) rfl
  apply g.2.2.2.2.2.2.2.1 <;> first | decide +kernel | (unfold State.begins; decide +kernel) | rfl
theorem met_CommandObjectsOfManagement_8 (h : Obligations.CommandObjectsOfManagement) : ∃ P, Does (.load (wCtx 7) 8 (List.replicate 384 5)) (wMan [] id) P := by
  apply Exists.intro; have g := h (wCtx 7) (wMan [] id) _ (.oct (List.replicate 384 5)) (by unfold State.begins; decide +kernel) rfl
  apply g.2.2.2.2.2.2.2.2.1 <;> first | decide +kernel | (unfold State.begins; decide +kernel) | rfl
theorem met_CommandObjectsOfManagement_9 (h : Obligations.CommandObjectsOfManagement) : ∃ P, Does (.verify (wCtx 7) 255 (List.replicate 48 5)) (wMan [] (fun u => { u with keys := [(255, { wOwner with state := 2, pend := some wPend })] })) P := by
  apply Exists.intro; have g := h (wCtx 7) (wMan [] (fun u => { u with keys := [(255, { wOwner with state := 2, pend := some wPend })] })) _ (.oct (List.replicate 48 5)) (by unfold State.begins; decide +kernel) rfl
  apply g.2.2.2.2.2.2.2.2.2.1 255 _ wPend <;> first | decide +kernel | (unfold State.begins; decide +kernel) | rfl
theorem met_CommandObjectsOfManagement_10 (h : Obligations.CommandObjectsOfManagement) : ∃ P, Does (.invalidate (wCtx 7) 255 1) (wMan [] (fun u => { u with keys := [(255, wOwner)] })) P := by
  apply Exists.intro; have g := h (wCtx 7) (wMan [] (fun u => { u with keys := [(255, wOwner)] })) _ (.num 1) (by unfold State.begins; decide +kernel) rfl
  apply (g.2.2.2.2.2.2.2.2.2.2.1 255 1 _ _).1 <;> first | decide +kernel | (unfold State.begins; decide +kernel) | rfl
theorem met_CommandObjectsOfManagement_11 (h : Obligations.CommandObjectsOfManagement) : ∃ P, Does (.invalidate (wCtx 7) 7 1) (wMan [] id) P := by
  apply Exists.intro; have g := h (wCtx 7) (wMan [] id) _ (.num 1) (by unfold State.begins; decide +kernel) rfl
  apply (g.2.2.2.2.2.2.2.2.2.2.1 7 1 _ _).2 <;> first | decide +kernel | (unfold State.begins; decide +kernel) | rfl
theorem met_CommandObjectsOfManagement_12 (h : Obligations.CommandObjectsOfManagement) : ∃ P, Does (.invalidate (wCtx 7) 8 1) (wMan [] id) P := by
  apply Exists.intro; have g := h (wCtx 7) (wMan [] id) _ (.num 1) (by unfold State.begins; decide +kernel) rfl
  apply (g.2.2.2.2.2.2.2.2.2.2.1 8 1 _ _).1 <;> first | decide +kernel | (unfold State.begins; decide +kernel) | rfl
theorem met_CommandObjectsOfManagement_13 (h : Obligations.CommandObjectsOfManagement) : ∃ P, Does (.attestNonce (wCtx 7) (List.replicate 32 5)) (wMan [] (fun u => { u with lc := 2, keys := [(2, { keyDefault 2 with state := 1, cycles := 15, masters := 255 }), (3, { keyDefault 3 with state := 1, cycles := 15, masters := 255 })] })) P := by
  apply Exists.intro; have g := h (wCtx 7) (wMan [] (fun u => { u with lc := 2, keys := [(2, { keyDefault 2 with state := 1, cycles := 15, masters := 255 }), (3, { keyDefault 3 with state := 1, cycles := 15, masters := 255 })] })) _ (.oct (List.replicate 32 5)) (by unfold State.begins; decide +kernel) rfl
  apply g.2.2.2.2.2.2.2.2.2.2.2.1 <;> first | decide +kernel | (unfold State.begins; decide +kernel) | rfl
theorem met_CommandObjectsOfManagement_14 (h : Obligations.CommandObjectsOfManagement) : ∃ P, Does (.activate (wCtx 7) 1) (let s := wMan [] (fun u => { u with slots := [(0, ⟨2, 0, ⟨7, 3, 1, 1, 1, []⟩, [1]⟩), (1, ⟨4, 0, ⟨7, 3, 1, 1, 1, []⟩, [1, 2, 3]⟩)] })
     { s with twin := { s.twin with gate := false } }) P := by
  apply Exists.intro; have g := h (wCtx 7) (let s := wMan [] (fun u => { u with slots := [(0, ⟨2, 0, ⟨7, 3, 1, 1, 1, []⟩, [1]⟩), (1, ⟨4, 0, ⟨7, 3, 1, 1, 1, []⟩, [1, 2, 3]⟩)] })
     { s with twin := { s.twin with gate := false } }) _ (.num 1) (by unfold State.begins; decide +kernel) rfl
  apply (g.2.2.2.2.2.2.2.2.2.2.2.2.1 1 _ _ _ _ _).1 <;> first | decide +kernel | (unfold State.begins; decide +kernel) | rfl
theorem met_CommandObjectsOfManagement_15 (h : Obligations.CommandObjectsOfManagement) : ∃ P, Does (.activate (wCtx 7) 1) (let s := wMan [] (fun u => { u with slots := [(0, ⟨2, 0, ⟨7, 3, 1, 1, 1, []⟩, [1]⟩), (1, ⟨5, 0, ⟨7, 3, 1, 1, 1, []⟩, [1, 2, 3]⟩)] })
     { s with twin := { s.twin with gate := false } }) P := by
  apply Exists.intro; have g := h (wCtx 7) (let s := wMan [] (fun u => { u with slots := [(0, ⟨2, 0, ⟨7, 3, 1, 1, 1, []⟩, [1]⟩), (1, ⟨5, 0, ⟨7, 3, 1, 1, 1, []⟩, [1, 2, 3]⟩)] })
     { s with twin := { s.twin with gate := false } }) _ (.num 1) (by unfold State.begins; decide +kernel) rfl
  apply (g.2.2.2.2.2.2.2.2.2.2.2.2.1 1 _ _ _ _ _).2 <;> first | decide +kernel | (unfold State.begins; decide +kernel) | rfl
theorem met_CommandObjectsOfManagement_16 (h : Obligations.CommandObjectsOfManagement) : ∃ P, Does (.confirm (wCtx 7) 1) (let s := wMan [] (fun u => { u with slots := [(0, ⟨2, 0, ⟨7, 3, 1, 1, 1, []⟩, [1]⟩), (1, ⟨2, 0, ⟨7, 3, 1, 1, 1, []⟩, [1, 2, 3]⟩)], trial := true, trialTime := 30 })
     { s with twin := { s.twin with gate := false } }) P := by
  apply Exists.intro; have g := h (wCtx 7) (let s := wMan [] (fun u => { u with slots := [(0, ⟨2, 0, ⟨7, 3, 1, 1, 1, []⟩, [1]⟩), (1, ⟨2, 0, ⟨7, 3, 1, 1, 1, []⟩, [1, 2, 3]⟩)], trial := true, trialTime := 30 })
     { s with twin := { s.twin with gate := false } }) _ (.num 1) (by unfold State.begins; decide +kernel) rfl
  apply g.2.2.2.2.2.2.2.2.2.2.2.2.2 <;> first | decide +kernel | (unfold State.begins; decide +kernel) | rfl

end CommandObjects

/-! ### Sessions -/

namespace Sessions

/-- A key of ROLE 3 in slot 9 that anyone may use in Field, with this dictionary state. -/
def wDict (f : DictSt → DictSt) : State :=
  let s := w1 []
  { s with
    upd := { s.upd with
      lc := 2
      keys := [(9, { keyDefault 9 with state := 1, role := 3, cycles := 255, masters := 255, key := [1, 2, 3] })] }
    dict := f s.dict }
/-- An address and port. -/
def wPeer : List Byte := List.replicate 16 7 ++ [1, 2]
/-- An attempt from there. -/
def wTry : Attempt := ⟨36, 5, 3, 9, wPeer, [1], [2]⟩
theorem met_SessionsOpenAndClose_1 (h : Obligations.SessionsOpenAndClose) : ∃ P, Does (.hello none wPeer [1] 3 9) (wDict id) P := by
  apply Exists.intro; apply (h.1 _ _ _ _ _ _ _ _ _).1 <;> decide +kernel
theorem met_SessionsOpenAndClose_2 (h : Obligations.SessionsOpenAndClose) : ∃ P, Does (.hello none wPeer [1] 3 9)
    (wDict (fun d => { d with addrs := [⟨List.replicate 16 7, [], some 800000001⟩] })) P := by
  apply Exists.intro; apply (h.1 _ _ _ _ _ _ _ _ _).2 <;> decide +kernel
theorem met_SessionsOpenAndClose_3 (h : Obligations.SessionsOpenAndClose) :
    ∃ P, Does (.proof 5 wPeer (hsMac [1, 2, 3] "zhonal proof" [1] [2] 5 3)) (wDict (fun d => { d with attempts := [wTry] })) P := by
  apply Exists.intro
  apply (h.2.1 5 _ _ wTry _ _ _ _ _ _ _).1 5
  · rfl
  all_goals decide +kernel
theorem met_SessionsOpenAndClose_4 (h : Obligations.SessionsOpenAndClose) :
    ∃ P, Does (.proof 5 wPeer (0 :: hsMac [1, 2, 3] "zhonal proof" [1] [2] 5 3)) (wDict (fun d => { d with attempts := [wTry] })) P := by
  apply Exists.intro
  apply (h.2.1 5 _ _ wTry _ _ _ _ _ _ _).2
  · exact List.cons_ne_self _ _
  all_goals decide +kernel
theorem met_SessionsOpenAndClose_5 (h : Obligations.SessionsOpenAndClose) : ∃ P, Does (.close 4)
    (wDict (fun d => { d with subs := [⟨4, 5, 1, 10, 0, []⟩, ⟨5, 5, 1, 10, 0, []⟩], staged := [(0x500001, .num 1)], owners := [(0x5FFF, 1)] })) P := by
  apply Exists.intro; apply h.2.2.2.1 <;> decide +kernel
theorem met_SessionsOpenAndClose_5b (h : Obligations.SessionsOpenAndClose) : ∃ P, Does (.close 4) (wDict (fun d => { d with waits := [⟨[(1, 7)], 4, 6, 0, 1, 0, 0, [(0x6FFF, 1)], 0, []⟩] })) P := by
  apply Exists.intro; apply h.2.2.1 <;> decide +kernel
theorem met_SessionsOpenAndClose_6 (h : Obligations.SessionsOpenAndClose) : ∃ P, Does (.sessionTimeout 4 (60 * 800000000))
    (wDict (fun d => { d with subs := [⟨4, 5, 1, 10, 0, []⟩] })) P := by
  apply Exists.intro; apply h.2.2.2.2.1 _ _ _ _ rfl <;> decide +kernel
theorem met_SessionsOpenAndClose_7 (h : Obligations.SessionsOpenAndClose) : ∃ P, Does (.addressBarExpiry wPeer 0)
    (wDict (fun d => { d with addrs := [⟨List.replicate 16 7, [], some 800000000⟩, ⟨[1], [5], none⟩] })) P :=
  ⟨_, h.2.2.2.2.2.1 wPeer 0 _ _ rfl⟩
/-- What a client with session 1 sends with COUNTER n under a key of ones. -/
def wSent (n : Nat) : List Byte :=
  gcmSeal (List.replicate 32 1) (List.replicate 4 1 ++ beBytes 8 n) (beBytes 4 1 ++ beBytes 8 n) [7]
/-- That session, counters up to 70 received, 70 among them. -/
def wClient : State := (wDict id).setSess 4 { Session.free with id := 1, rxTop := 70, rxSeen := [70], keyC2d := List.replicate 36 1 }
theorem met_SessionsOpenAndClose_8 (h : Obligations.SessionsOpenAndClose) : ∃ P, Does (.udpDatagramDrop wPeer 9 5 [] false) wClient P := by
  apply Exists.intro; apply (h.2.2.2.2.2.2 _ _ _ _ _ _).1; decide +kernel
theorem met_SessionsOpenAndClose_8b (h : Obligations.SessionsOpenAndClose) : ∃ P, Does (.udpDatagramDrop wPeer 1 5 (wSent 5) true) wClient P := by
  apply Exists.intro; apply ((h.2.2.2.2.2.2 _ _ _ _ _ _).2 4 _).1 <;> decide +kernel
theorem met_SessionsOpenAndClose_8c (h : Obligations.SessionsOpenAndClose) : ∃ P, Does (.udpDatagramDrop wPeer 1 71 (wSent 72) false) wClient P := by
  apply Exists.intro; apply ((h.2.2.2.2.2.2 _ _ _ _ _ _).2 4 _).1 <;> decide +kernel
theorem met_SessionsOpenAndClose_8d (h : Obligations.SessionsOpenAndClose) : ∃ P, Does (.udpDatagramDrop wPeer 1 70 (wSent 70) false) wClient P := by
  apply Exists.intro; apply ((h.2.2.2.2.2.2 _ _ _ _ _ _).2 4 _).1 <;> decide +kernel
theorem met_SessionsOpenAndClose_9 (h : Obligations.SessionsOpenAndClose) : ∃ P, Does (.udpDatagramDrop wPeer 1 7 (wSent 7) false) wClient P := by
  apply Exists.intro; apply ((h.2.2.2.2.2.2 _ _ _ _ _ _).2 4 _).2 <;> decide +kernel
theorem met_MessagesAndMailbox_1 (h : Obligations.MessagesAndMailbox) : ∃ P, Does (.messageDiscard none 2) (wDict id) P := by
  apply Exists.intro; apply (h.1 _ _ _ _ _ _).1 <;> decide +kernel
theorem met_MessagesAndMailbox_2 (h : Obligations.MessagesAndMailbox) : ∃ P, Does (.messageDiscard (some 3) 2) ((wDict id).setReg (rMbx 3 + 4) (2 ^ 31)) P := by
  refine ⟨_, (h.1 2 _ ?_ ?_ ?_ ?_).2 3⟩ <;> decide +kernel
theorem met_MessagesAndMailbox_3 (h : Obligations.MessagesAndMailbox) : ∃ P, Does (.cachedResponse 35 9)
    ((wDict id).setSess 35 { Session.free with id := 2, lastSeq := some 9, cache := [⟨0, 0, 0, 0, 0, []⟩] }) P := by
  apply Exists.intro; apply h.2.1 <;> decide +kernel
theorem met_MessagesAndMailbox_4 (h : Obligations.MessagesAndMailbox) : ∃ P, Does (.notify 4 0x2000 1 0)
    ((wDict (fun d => { d with subs := [⟨4, 0x200001, 1, 10, 0, [(1, 0, 0, .num 9)]⟩] })).setNum 0x200001 3) P := by
  apply Exists.intro; apply h.2.2.1 _ _ _ ⟨4, 0x200001, 1, 10, 0, [(1, 0, 0, .num 9)]⟩ _ _ _ rfl <;> decide +kernel
theorem met_MessagesAndMailbox_5 (h : Obligations.MessagesAndMailbox) : ∃ P, Does (.mbxDoorbell 3 (0x80000000 + 61440)) (wDict id) P := by
  apply Exists.intro; apply (h.2.2.2.1 _ _ _ _ _).1 <;> decide +kernel
theorem met_MessagesAndMailbox_5b (h : Obligations.MessagesAndMailbox) : ∃ P, Does (.mbxDoorbell 3 (0x80000000 + 20)) (wDict id) P := by
  apply Exists.intro; apply (h.2.2.2.1 _ _ _ _ _).1 <;> decide +kernel
theorem met_MessagesAndMailbox_6 (h : Obligations.MessagesAndMailbox) : ∃ P, Does (.mbxDoorbell 0 0x80000014) ((wDict id).setReg (rMbx 0 + 4) (2 ^ 31)) P := by
  apply Exists.intro; apply (h.2.2.2.1 _ _ _ _ _).2.1 <;> decide +kernel
theorem met_MessagesAndMailbox_7 (h : Obligations.MessagesAndMailbox) : ∃ P, Does (.mbxDoorbell 0 0x80000013) (wDict id) P := by
  apply Exists.intro; apply (h.2.2.2.1 _ _ _ _ _).2.2 <;> decide +kernel
theorem met_MessagesAndMailbox_8 (h : Obligations.MessagesAndMailbox) : ∃ P, Does (.mbxBufferRelease 3 0x50000000)
    ((wDict id).setReg (rMbx 3 + 4) 0x70000000) P := by
  apply Exists.intro; apply h.2.2.2.2.1 <;> decide +kernel
theorem met_MessagesAndMailbox_9 (h : Obligations.MessagesAndMailbox) : ∃ P, Does (.close 4)
    (let s := wDict id
     { s with upd := { s.upd with paused := true, heldMsgs := 255 } }) P := by
  apply Exists.intro; apply h.2.2.2.2.2 <;> decide +kernel

end Sessions

/-! ### Host -/

namespace HostIf

/-- The device ready, with this host interface. -/
def wHif (l : List (Nat × Nat)) (r : List (Nat × Nat)) (x : HifSt → HifSt) : State :=
  let s := r.foldl (fun (t : State) p => t.setReg p.1 p.2) (w1 l)
  { s with hif := x s.hif }
theorem met_HostInterface_1 (h : Obligations.HostInterface) : ∃ P, Does (.accessError false 5 2) (wHif [] [] (fun x => { x with d3hot := true })) P := by
  apply Exists.intro; apply h.1; decide +kernel
theorem met_HostInterface_1b (h : Obligations.HostInterface) : ∃ P, Does (.accessError false 5 2) (w1 []) P := by
  apply Exists.intro; apply h.2.1; decide +kernel
theorem met_HostInterface_2 (h : Obligations.HostInterface) : ∃ P, Does (.windowBWrite 0x3FFFFFFF) (w1 []) P := by
  apply Exists.intro; apply h.2.2.1; decide +kernel
theorem met_HostInterface_3 (h : Obligations.HostInterface) : ∃ P, Does (.msixIntervalEnd 2047 0)
    (wHif [] [(0x04000C + 16 * 2047, 0)] (fun x => { x with msixEnabled := true, pba := [(2047, true)] })) P := by
  apply Exists.intro; apply h.2.2.2.1 _ _ _ _ rfl <;> decide +kernel
theorem met_HostInterface_4 (h : Obligations.HostInterface) : ∃ P, Does (.msixUnmask (some 2047))
    (wHif [] [] (fun x => { x with msixEnabled := true, pba := [(2047, true)] })) P := by
  apply Exists.intro; apply h.2.2.2.2.1; decide +kernel
theorem met_HostInterface_5 (h : Obligations.HostInterface) : ∃ P, Does (.msixUnmask none)
    (wHif [] [(0x04000C + 16 * 2047, 0)] (fun x => { x with pba := [(2047, true)] })) P := ⟨_, h.2.2.2.2.2.1 _⟩
theorem met_HostInterface_6 (h : Obligations.HostInterface) : ∃ P, Does .d3hotEntry
    (wHif [] [] (fun x => { x with dma := [(3, { DmaCh.idle with head := 2, run := some ⟨1, true, 64, 0, 0, 0, 64, 0, [], none, none⟩ })] })) P := by
  apply Exists.intro; apply h.2.2.2.2.2.2.1; decide +kernel
theorem met_HostInterface_7 (h : Obligations.HostInterface) : ∃ P, Does .d3hotExit (wHif [] [] (fun x => { x with d3hot := true })) P :=
  ⟨_, h.2.2.2.2.2.2.2.1 _⟩
theorem met_HostInterface_8 (h : Obligations.HostInterface) : ∃ P, Does (.pcieLinkTrained 5 8) (w1 []) P := by
  apply Exists.intro; apply h.2.2.2.2.2.2.2.2.1 <;> decide +kernel
/-- A host interface in use, with a mailbox session. -/
def wHost : State :=
  (wHif [] [(0x04000C + 16 * 2047, 0), (0x020048, 2 ^ 31)] (fun x => { x with
    msixEnabled := true, speed := 5, width := 8, pba := [(2047, true)], tlb := [⟨0, 0, 12, 0, true⟩],
    dma := [(1, { DmaCh.idle with head := 2, run := some ⟨1, true, 64, 0, 0, 0, 64, 0, [], none, none⟩ })] })).setSess 0 { Session.free with id := 2, role := 3 }
theorem met_HostInterface_9 (h : Obligations.HostInterface) : ∃ P, Does (.hostInterfaceReset 2) wHost P :=
  ⟨_, h.2.2.2.2.2.2.2.2.2.1 2 _⟩
theorem met_HostInterface_10 (h : Obligations.HostInterface) : ∃ P, Does .pciePerst wHost P := ⟨_, h.2.2.2.2.2.2.2.2.2.2 _⟩
/-- DMA channel 1 of a CLASS, with a descriptor to fetch and a writable page. -/
def wDma (l : List (Nat × Nat)) (cls : Nat) : State :=
  wHif l [(rDmaCtrl 1, 2 ^ 31 + cls * 2 ^ 28), (rDmaBell 1, 1)] (fun x => { x with tlb := [⟨0, 0, 12, 0x7000, true⟩] })
theorem met_DmaChannels_1 (h : Obligations.DmaChannels) : ∃ P, Does (.dmaDoorbell 127 0x10005) (w1 []) P := by
  apply Exists.intro; apply h.1; decide +kernel
theorem met_DmaChannels_2 (h : Obligations.DmaChannels) : ∃ P, Does (.storeRead 1 ⟨2, 0, 0, 64, 0, 0, 0⟩ []) (wDma [] 1) P := by
  apply Exists.intro; apply (h.2.1 _ _ _ _ _).1 <;> decide +kernel
theorem met_DmaChannels_3 (h : Obligations.DmaChannels) : ∃ P, Does (.storeRead 1 ⟨1, 0, 0, 64, 64, 128, 0⟩ []) (wDma [] 1) P := by
  apply Exists.intro; apply (h.2.1 _ _ _ _ _).2.1 ⟨0, 0, 12, 0x7000, true⟩ <;> decide +kernel
theorem met_DmaChannels_4 (h : Obligations.DmaChannels) :
    ∃ P, Does (.meterSnapshot 1 ⟨5, 0, 2, 64, 64, 4094, 0⟩ []) (wDma [(O.meterValue 4095, 77)] 0) P := by
  apply Exists.intro; apply (h.2.1 _ _ _ _ _).2.2.1 ⟨0, 0, 12, 0x7000, true⟩ <;> decide +kernel
theorem met_DmaChannels_5 (h : Obligations.DmaChannels) : ∃ P, Does (.captureVideo 1 ⟨3, 0, 0, 1000000, 64, BitVec.ofNat 64 (mkSid 0 3 0 0), 0⟩ [] none)
    (wDma [(O.slotRaster 3, 0x0104), (O.slotSlotEnable 3, 1)] 0) P := by
  apply Exists.intro; apply (h.2.1 _ _ _ _ _).2.2.2.1 <;> decide +kernel
theorem met_DmaChannels_6 (h : Obligations.DmaChannels) :
    ∃ P, Does (.captureAudio 1 ⟨4, 0, 1, 1000, 64, BitVec.ofNat 64 (mkSid 0 3 1 5 + 2 ^ 32 * 7), 0⟩ [] none) (wDma [(O.slotSlotEnable 3, 1)] 0) P := by
  apply Exists.intro; apply (h.2.1 _ _ _ _ _).2.2.2.2.1 <;> decide +kernel
theorem met_DmaChannels_7 (h : Obligations.DmaChannels) :
    ∃ P, Does (.insertAnc 1 ⟨6, 0, 0, 12, 64, 95, 0⟩ [(0x7040, .word 0), (0x7048, .word 0)]) (wDma [(O.outRaster 95, 0x0607)] 0) P := by
  apply Exists.intro
  apply (h.2.1 _ _ _ _ _).2.2.2.2.2 (List.replicate 12 0) (wDma [(O.outRaster 95, 0x0607)] 0) <;> decide +kernel
/-- DMA channel 1 with an INSERT_ANC for output 95 whose transfer is complete. -/
def wInsert : State :=
  wHif [(O.outRaster 95, 0x0607)] [(rDmaCtrl 1, 2 ^ 31), (rDmaBell 1, 1)]
    (fun x => { x with dma := [(1, { DmaCh.idle with run := some ⟨6, false, 12, 64, 95, 0, 12, 9, [], none, some []⟩ })] })
theorem met_DmaChannels_7b (h : Obligations.DmaChannels) : ∃ P, Does (.descriptorComplete 1) wInsert P := by
  apply Exists.intro; apply h.2.2.1 _ ⟨6, false, 12, 64, 95, 0, 12, 9, [], none, some []⟩ [] <;> decide +kernel
/-- DMA channel 1 with a STORE_READ in progress that ends with this status. -/
def wRun (st : Nat) : State :=
  wHif [] [(rDmaCtrl 1, 2 ^ 31), (rDmaBell 1, 1)]
    (fun x => { x with dma := [(1, { DmaCh.idle with run := some ⟨1, true, 64, 64, 0, st, 64, 9, [(0, 0x7040, [1, 2])], none, none⟩ })] })
theorem met_DmaChannels_8 (h : Obligations.DmaChannels) : ∃ P, Does (.descriptorComplete 1) (wRun 0xE091) P := by
  apply Exists.intro; apply h.2.2.2.2.1 _ ⟨1, true, 64, 64, 0, 0xE091, 64, 9, [(0, 0x7040, [1, 2])], none, none⟩ <;> decide +kernel
/-- DMA channel 1 with a capture of audio in progress. -/
def wCap (ov : Option Nat) : CapRun := ⟨[], 5, 1, ov⟩
/-- The descriptor of that capture: one sample of source slot 3, which has released none. -/
def wCapRun (ov : Option Nat) : DescRun := ⟨4, true, 4, 64, mkSid 0 3 1 5 + 2 ^ 32, 0, 0, 9, [], some (wCap ov), none⟩
/-- The channel with it. -/
def wCapture (ov : Option Nat) : State :=
  let s := wHif [] [(rDmaCtrl 1, 2 ^ 31), (rDmaBell 1, 1)] (fun x => { x with dma := [(1, { DmaCh.idle with run := some (wCapRun ov) })] })
  { s with ess := { s.ess with present := [(mkSid 0 3 1 5, true)] } }
theorem met_DmaChannels_8b (h : Obligations.DmaChannels) : ∃ P, Does (.descriptorComplete 1) (wCapture (some 0)) P := by
  apply Exists.intro; apply (h.2.2.2.1 _ (wCapRun (some 0)) (wCap (some 0)) _ _ _).1 <;> decide +kernel
theorem met_DmaChannels_8c (h : Obligations.DmaChannels) : ∃ P, Does (.descriptorComplete 1) (wCapture none) P := by
  apply Exists.intro; apply (h.2.2.2.1 _ (wCapRun none) (wCap none) _ _ _).2 <;> decide +kernel
theorem met_DmaChannels_9 (h : Obligations.DmaChannels) : ∃ P, Does (.dmaChannelDisable 1 0) (wRun 0) P := by
  apply Exists.intro; apply h.2.2.2.2.2.1 <;> decide +kernel
theorem met_DmaChannels_10 (h : Obligations.DmaChannels) : ∃ P, Does (.dmaResume 127) (w1 []) P := by
  apply Exists.intro; apply h.2.2.2.2.2.2; decide +kernel
theorem met_TranslationsAndRings_1 (h : Obligations.TranslationsAndRings) : ∃ P, Does (.tlbInvalidate 0x80000001) (wDma [] 0) P := by
  apply Exists.intro; apply h.1 <;> decide +kernel
theorem met_TranslationsAndRings_2 (h : Obligations.TranslationsAndRings) :
    ∃ P, Does (.tlbInvalidateDone 0) (wHif [] [] (fun x => { x with inv := some (2, 0, 5, 7), tlb := [⟨0, 0, 12, 0x7000, true⟩, ⟨0, 1, 12, 0, true⟩] })) P := by
  apply Exists.intro; apply h.2.1 2 0 5 7 _ _ _ rfl; decide +kernel
theorem met_TranslationsAndRings_3 (h : Obligations.TranslationsAndRings) : ∃ P, Does (.txRingDoorbell 63 1 [⟨1, 95, false, 0, false, [1, 2, 3]⟩])
    (wHif [(O.sdiLaneMode 95, 2), (O.ethLinkState 95, 2)] [(rRing 127 + 8, 2 ^ 31)] id) P := by
  apply Exists.intro; apply h.2.2 <;> decide +kernel

end HostIf

/-! ### SdiLock -/

namespace SdiLock

theorem met_SdiLockClimbs_1 (h : Obligations.SdiLockClimbs) : ∃ P, Does (.signalDetectAssert 95 0) (w1 [(O.sdiLaneMode 95, 1)]) P := by
  apply Exists.intro; apply h.1 _ _ _ _ rfl <;> decide +kernel
theorem met_SdiLockClimbs_2 (h : Obligations.SdiLockClimbs) :
    ∃ P, Does (.rateDwellExpiry 95 0) (w1 [(O.sdiLaneMode 95, 1), (O.sdiLockState 95, 1)]) P := by
  apply Exists.intro; apply h.2.1 _ _ _ _ rfl <;> decide +kernel
theorem met_SdiLockClimbs_3 (h : Obligations.SdiLockClimbs) :
    ∃ P, Does (.rateLock 0 8) (w1 [(O.sdiLaneMode 0, 1), (O.sdiLockState 0, 1)]) P := by
  apply Exists.intro; apply h.2.2.1 <;> decide +kernel
theorem met_SdiLockClimbs_4 (h : Obligations.SdiLockClimbs) :
    ∃ P, Does (.trsLock 0 8 false 7 0) (w1 [(O.sdiLaneMode 0, 1), (O.sdiLockState 0, 2)]) P := by
  apply Exists.intro; apply h.2.2.2.1 _ _ _ _ _ _ rfl <;> decide +kernel
theorem met_SdiLockClimbs_5 (h : Obligations.SdiLockClimbs) : ∃ P, Does (.formatLock 5 ⟨0x0707, false, some 1, true, 0x0707, 2, 0⟩)
    (w1 [(O.sdiLaneMode 5, 1), (O.sdiQuadRx 4, 1), (O.sdiLockState 5, 3)]) P := by
  apply Exists.intro; apply h.2.2.2.2.1 <;> decide +kernel
theorem met_SdiLockClimbs_6 (h : Obligations.SdiLockClimbs) : ∃ P, Does (.formatLock 5 ⟨0, false, none, true, 0, 0, 0⟩)
    (w1 [(O.sdiLaneMode 5, 1), (O.sdiLockState 5, 3)]) P := by
  apply Exists.intro; apply h.2.2.2.2.2 <;> decide +kernel

end SdiLock

/-! ### Sdi -/

namespace Sdi

theorem met_SdiLinesAndErrors_1 (h : Obligations.SdiLinesAndErrors) : ∃ P, Does (.signalDetectDeassert 3 7 0)
    ((w1 [(O.sdiLaneMode 3, 1), (O.sdiLockState 3, 2)]).setLane 3 { SdiLane.idle with sd := true }) P := by
  apply Exists.intro; apply h.1 _ _ _ _ _ rfl <;> decide +kernel
theorem met_SdiLinesAndErrors_2 (h : Obligations.SdiLinesAndErrors) : ∃ P, Does (.sdiLine 3 ⟨7, 8, false, false, false, none, [], [], [], [], 0, 0, 0⟩ 0)
    ((w1 [(O.sdiLaneMode 3, 1), (O.sdiLockState 3, 3), (O.sdiRateDetected 3, 4)]).setLane 3 { SdiLane.idle with sd := true }) P := by
  apply Exists.intro; apply h.2.1 _ _ _ _ _ rfl <;> decide +kernel
theorem met_SdiLinesAndErrors_3 (h : Obligations.SdiLinesAndErrors) : ∃ P, Does (.sdiLine 3 ⟨7, 8, false, false, true, none, [], [], [], [], 0, 0, 0⟩ 0)
    ((w1 [(O.sdiLaneMode 3, 1), (O.sdiLockState 3, 4), (O.sdiRateDetected 3, 4)]).setLane 3 { SdiLane.idle with sd := true }) P := by
  apply Exists.intro; apply h.2.2.1 _ _ _ _ _ rfl <;> decide +kernel
theorem met_SdiLinesAndErrors_4 (h : Obligations.SdiLinesAndErrors) : ∃ P, Does (.trsMissing 3 7 true 0)
    ((w1 [(O.sdiLaneMode 3, 1), (O.sdiLockState 3, 3), (O.sdiRateDetected 3, 4)]).setLane 3 { SdiLane.idle with sd := true, missTrs := 2 }) P := by
  apply Exists.intro; apply h.2.2.2.1 _ _ _ _ _ _ rfl <;> decide +kernel
theorem met_SdiLinesAndErrors_5 (h : Obligations.SdiLinesAndErrors) : ∃ P, Does (.erroredSecond 3 0)
    ((w1 [(O.sdiLaneMode 3, 1)]).setLane 3 { SdiLane.idle with lnSec := 2 }) P := by
  apply Exists.intro; apply h.2.2.2.2 _ _ _ _ rfl <;> decide +kernel
/-- Four lanes of a quad-link group, locked to 2160p59.94, that joined with link numbers 1 to 4, lane 3 outside the group. -/
def wQuad (state : Nat) : State :=
  [0, 1, 2, 3].foldl (fun (s : State) p => sets (s.setLane p { SdiLane.idle with sd := true, st352 := true, fmt352 := 0x0707, inGroup := p != 3, grpLink := p + 1, grpFmt := 0x0707 })
    [(O.sdiLaneMode p, 1), (O.sdiLockState p, 4), (O.sdiRateDetected p, 5), (O.sdiLinkNumber p, p + 1), (O.sdiRasterDetected p, 0x0607)])
    (w1 [(O.sdiQuadRx 0, 1), (O.sdiQuadState 0, state)])
theorem met_SdiQuadLinksAndSerialiser_1 (h : Obligations.SdiQuadLinksAndSerialiser) : ∃ P, Does (.quadAssociation 0 (linesPt 0x0607 2 1 + 1)) (wQuad 2) P := by
  apply Exists.intro; apply h.1 <;> decide +kernel
theorem met_SdiQuadLinksAndSerialiser_1b (h : Obligations.SdiQuadLinksAndSerialiser) : ∃ P, Does (.quadAssociation 0 (linesPt 0x0607 2 1)) (wQuad 1) P := by
  apply Exists.intro; apply h.2.1 <;> decide +kernel
theorem met_SdiQuadLinksAndSerialiser_2 (h : Obligations.SdiQuadLinksAndSerialiser) :
    ∃ P, Does (.quadAssociationTimeout 0 5 0) ((wQuad 1).setNum (O.sdiLinkNumber 3) 3) P := by
  apply Exists.intro; apply h.2.2.1 _ _ _ _ _ rfl <;> decide +kernel
theorem met_SdiQuadLinksAndSerialiser_3 (h : Obligations.SdiQuadLinksAndSerialiser) : ∃ P, Does (.quadLinkReentry 3) (wQuad 2) P := by
  apply Exists.intro; apply (h.2.2.2.1 _ _ _ _ _ _).1 <;> decide +kernel
theorem met_SdiQuadLinksAndSerialiser_3b (h : Obligations.SdiQuadLinksAndSerialiser) :
    ∃ P, Does (.quadLinkReentry 3) ((wQuad 2).setNum (O.sdiLinkNumber 3) 3) P := by
  apply Exists.intro; apply (h.2.2.2.1 _ _ _ _ _ _).2 <;> decide +kernel
theorem met_SdiQuadLinksAndSerialiser_4 (h : Obligations.SdiQuadLinksAndSerialiser) :
    ∃ P, Does (.serialiserStart 3) (w1 [(O.sdiLaneMode 3, 1), (O.sdiTxEnable 3, 1), (O.outRaster 3, 0x0607)]) P := by
  apply Exists.intro; apply h.2.2.2.2 <;> decide +kernel

end Sdi

/-! ### Ethernet -/

namespace Ethernet

/-- Port lane `p` in Ethernet mode with its link up. -/
def wEth (p : Nat) (l : List (Nat × Nat)) : State :=
  (w1 ([(O.sdiLaneMode p, 2), (O.ethLinkState p, 2), (O.ethPuntBurst p, 1)] ++ l)).setBytes (O.ethMacAddress p) [2, 0, 0, 0, 0, 1]
/-- A frame of this length for that station. -/
def wFrame (n : Nat) (ok : Bool) (e : Nat) (h : NetHdr) : EthFrame := ⟨n, ok, 0x020000000001, [], e, h, none, none, none, [1, 2]⟩
theorem met_EthernetFrames_1 (h : Obligations.EthernetFrames) : ∃ P, Does (.ethFrameReceived 95 (wFrame 17 true 0 .other) [] 0) (wEth 95 []) P := by
  apply Exists.intro; apply (h.1 _ _ _ _ _ _ rfl _ _ _ _ _ _ _).1 <;> decide +kernel
theorem met_EthernetFrames_2 (h : Obligations.EthernetFrames) : ∃ P, Does (.ethFrameReceived 95 (wFrame 63 true 0 .other) [] 0) (wEth 95 []) P := by
  apply Exists.intro; apply (h.1 _ _ _ _ _ _ rfl _ _ _ _ _ _ _).2.1 <;> decide +kernel
theorem met_EthernetFrames_3 (h : Obligations.EthernetFrames) : ∃ P, Does (.ethFrameReceived 95 (wFrame 9216 false 0 .other) [] 0) (wEth 95 []) P := by
  apply Exists.intro; apply (h.1 _ _ _ _ _ _ rfl _ _ _ _ _ _ _).2.2.1 <;> decide +kernel
theorem met_EthernetFrames_4 (h : Obligations.EthernetFrames) : ∃ P, Does (.ethFrameReceived 95 (wFrame 9217 true 0 .other) [] 0) (wEth 95 []) P := by
  apply Exists.intro; apply (h.1 _ _ _ _ _ _ rfl _ _ _ _ _ _ _).2.2.2.1 <;> decide +kernel
theorem met_EthernetFrames_5 (h : Obligations.EthernetFrames) : ∃ P, Does (.ethFrameReceived 95 (wFrame 64 true 0x8808 .other) [] 0) (wEth 95 []) P := by
  apply Exists.intro; apply (h.1 _ _ _ _ _ _ rfl _ _ _ _ _ _ _).2.2.2.2.1 <;> decide +kernel
theorem met_EthernetFrames_6 (h : Obligations.EthernetFrames) :
    ∃ P, Does (.ethFrameReceived 95 { wFrame 9216 true 0x800 .other with dst := 0x020000000002 } [] 0) (wEth 95 []) P := by
  apply Exists.intro; apply (h.1 _ _ _ _ _ _ rfl _ _ _ _ _ _ _).2.2.2.2.2.1 <;> decide +kernel
theorem met_EthernetFrames_7 (h : Obligations.EthernetFrames) : ∃ P, Does (.ethFrameReceived 95 (wFrame 64 true 0x806 .arp) [] 0)
    ((wEth 95 []).setBytes (O.ethPuntRing 95) [255, 255, 63, 255, 255, 255, 255, 255]) P := by
  apply Exists.intro; apply (h.1 _ _ _ _ _ _ rfl _ _ _ _ _ _ _).2.2.2.2.2.2.1 <;> decide +kernel
/-- Receive flow context `r` in these bytes. -/
def wRx (r : Nat) (b : List Byte) (s : State) : State := s.setBytes (O.rxFlow r) b
/-- An IPv4 receive context of a kind on lane 95: group 224.0.0.9, port 5000, slot 96, raster 0x0607. -/
def wCtx (k : Byte) : List Byte :=
  [128, k, 95, 0, 0, 0, 19, 136, 0, 0, 0, 0, 0, 0, 0, 0, 0, 0, 0, 0, 224, 0, 0, 9] ++ List.replicate 16 0 ++ [96, 0, 1, 0, 6, 7, 255, 255, 0, 1] ++ List.replicate 14 0
theorem met_EthernetFrames_8 (h : Obligations.EthernetFrames) :
    ∃ P, Does (.ethFrameReceived 95 { wFrame 1400 true 0x800 (.ip4 5 false true 17 7 0xE0000009) with
      udp := some ⟨9, 5000, true, true, 0, 0⟩
      rtp := some ⟨96, 65535, 7⟩
      media := some (.video [(1080, 0, [1])] false) } [] 0) (wRx 8191 (wCtx 1) (wEth 95 [])) P := by
  apply Exists.intro
  apply (h.1 _ _ _ _ _ _ rfl _ _ _ _ _ _ _).2.2.2.2.2.2.2 8191 7 0xE0000009 ⟨9, 5000, true, true, 0, 0⟩ ⟨96, 65535, 7⟩ [(1080, 0, [1])] false <;> decide +kernel
/-- A frame of a management lane. -/
def wMgmt (n : Nat) : EthFrame := { wFrame n true 0x800 .other with dst := 0x020000000007 }
theorem met_EthernetFrames_9 (h : Obligations.EthernetFrames) : ∃ P, Does (.ethFrameReceived 97 (wMgmt 1522) [] 0) (wEth 95 []) P := by
  apply Exists.intro; apply (h.2 _ _ _ _ _ _ rfl _ _).1 <;> decide +kernel
theorem met_EthernetFrames_10 (h : Obligations.EthernetFrames) : ∃ P, Does (.ethFrameReceived 96 (wMgmt 1523) [] 0) (wEth 95 []) P := by
  apply Exists.intro; apply (h.2 _ _ _ _ _ _ rfl _ _).2 <;> decide +kernel
theorem met_EthernetLinksAndFlows_1b (h : Obligations.EthernetLinksAndFlows) : ∃ P, Does (.ethLinkUp ⟨95, false⟩) (wEth 95 [(O.ethLinkState 95, 0)]) P := by
  apply Exists.intro; apply (h.1 _ _ _).2.1 <;> decide +kernel
theorem met_EthernetLinksAndFlows_1 (h : Obligations.EthernetLinksAndFlows) : ∃ P, Does (.ethLinkUp ⟨95, true⟩) (wEth 95 [(O.ethLinkState 95, 0)]) P := by
  apply Exists.intro; apply (h.1 _ _ _).1 <;> decide +kernel
theorem met_EthernetLinksAndFlows_2 (h : Obligations.EthernetLinksAndFlows) : ∃ P, Does (.ethLinkDown 95 1 false) (wEth 95 []) P := by
  apply Exists.intro; apply (h.1 _ _ _).2.2 <;> decide +kernel
theorem met_EthernetLinksAndFlows_2b (h : Obligations.EthernetLinksAndFlows) : ∃ P, Does (.ethLinkDown 95 2 false) (wEth 95 []) P := by
  apply Exists.intro; apply (h.1 _ _ _).2.2 <;> decide +kernel
theorem met_EthernetLinksAndFlows_3 (h : Obligations.EthernetLinksAndFlows) : ∃ P, Does (.rxContextLost 8191 0)
    ((wRx 8191 (wCtx 1) (wEth 95 [])).setRx 8191 { RxCtx.idle with active := true, up := true, lastTick := 5 }) P := by
  apply Exists.intro; apply (h.2 _ _ _ _ rfl).1 <;> decide +kernel
theorem met_EthernetLinksAndFlows_4 (h : Obligations.EthernetLinksAndFlows) : ∃ P, Does (.lineCloseTimeout 8191 0)
    ((wRx 8191 (wCtx 1) (wEth 95 [])).setRx 8191 { RxCtx.idle with active := true, up := true, row := some 1079, parts := [(0, [1, 2])] }) P := by
  apply Exists.intro; apply (h.2 _ _ _ _ rfl).2.1 1079 <;> decide +kernel
theorem met_EthernetLinksAndFlows_5 (h : Obligations.EthernetLinksAndFlows) : ∃ P, Does (.pairWaitExpiry 8191 65535 0)
    ((wRx 8191 (wCtx 1) (wEth 95 [])).setRx 8191 { RxCtx.idle with active := true, wait := [(65535, 800000000 - 800), (0, 800000000)] }) P := by
  apply Exists.intro; apply (h.2 _ _ _ _ rfl).2.2.1 65535 (800000000 - 800) <;> decide +kernel
theorem met_EthernetLinksAndFlows_6 (h : Obligations.EthernetLinksAndFlows) : ∃ P, Does (.pathDown 8191 0)
    ((wRx 8190 ((wCtx 1).set 46 31 |>.set 47 255) (wRx 8191 ((wCtx 1).set 46 31 |>.set 47 254) (wEth 95 []))).setRx 8191 { RxCtx.idle with active := true, up := true, lastTick := 1 }) P := by
  apply Exists.intro; apply (h.2 _ _ _ _ rfl).2.2.2 <;> decide +kernel
/-- A send context of a kind on lane 95 for output 0, positions from 126, PARAMS 0x40, 1,200 bytes. -/
def wTx (k : Byte) (s : State) : State :=
  s.setBytes (O.txFlow 8191) ([128, k, 95, 0] ++ List.replicate 28 0 ++ [0, 126, 2, 0x40, 4, 176, 255, 255] ++ List.replicate 24 0)
/-- The same with output 0 running, at the time of packet `k` of frame 57. -/
def wSend (t : Byte) (k : Nat) : State :=
  let s := wTx t (sets (wEth 95 []) [(O.sdiLaneMode 0, 1), (O.outRaster 0, 0x0607)])
  { s with tm := { s.tm with pt := s.packetTime 0 0x0607 1200 57 0 k - 5 * 2 ^ 64 } }
theorem met_EthernetSend_1 (h : Obligations.EthernetSend) : ∃ P, Does (.mediaPacketSend 8191 4319 0) (wSend 1 4319) P := by
  apply Exists.intro; apply (h.1 8191 0 0x0607 4319 57 0 0 _ _ rfl _ _ _).1 <;> decide +kernel
/-- A context of ST 2022-6 at the time of datagram 0 of frame 57. -/
def wSdi6 : State :=
  let s := wTx 5 (sets (wEth 95 []) [(O.sdiLaneMode 0, 1), (O.outRaster 0, 0x0607)])
  { s with tm := { s.tm with pt := s.datagramTime 0 0x0607 57 0 - 5 * 2 ^ 64 } }
theorem met_EthernetSend_1b (h : Obligations.EthernetSend) : ∃ P, Does (.mediaPacketSend 8191 0 0) wSdi6 P := by
  apply Exists.intro; apply (h.1 8191 0 0x0607 0 57 0 0 _ _ rfl _ _ _).2.1 <;> decide +kernel
/-- A context of ST 2110-40 at the time of the packets of frame 57, with one packet inserted in it. -/
def wAnc40 : State :=
  let b := (wTx 4 (sets (wEth 95 []) [(O.sdiLaneMode 0, 1), (O.outRaster 0, 0x0607)]))
  let s := (b.setBytes (O.txFlow 8191) ((b.txFlow 8191).set 33 0)).setOut 0 { b.out_ 0 with insNow := [tAnc] }
  { s with tm := { s.tm with pt := s.packetTime 0 0x0607 1 57 0 0 } }
theorem met_EthernetSend_1c (h : Obligations.EthernetSend) : ∃ P, Does (.mediaPacketSend 8191 0 0) wAnc40 P := by
  apply Exists.intro; apply (h.1 8191 0 0x0607 0 57 0 0 _ _ rfl _ _ _).2.2 [tAnc] <;> decide +kernel
theorem met_EthernetSend_2 (h : Obligations.EthernetSend) : ∃ P, Does (.audioPacketSend 8191 0)
    (let s := wSend 2 0
     { s with tm := { s.tm with pt := 10 ^ 9 * 2 ^ 64 } }) P := by
  apply Exists.intro; apply h.2.1 _ 48000 48 48000 _ _ _ rfl <;> decide +kernel
/-- Frames waiting on lane 95. -/
def wWait (s : State) : State := s.setEth 95 { EthPort.idle with wait := [⟨60, 63, true, 0x7FFF, 16, [1, 2], none⟩, ⟨60, 63, false, 0, 32, [3], none⟩] }
theorem met_EthernetSend_3 (h : Obligations.EthernetSend) : ∃ P, Does (.hostFrameStart 95 0) (wWait (wEth 95 [(O.ethLinkState 95, 3)])) P := by
  apply Exists.intro; apply (h.2.2.1 _ ⟨60, 63, true, 0x7FFF, 16, [1, 2], none⟩ [⟨60, 63, false, 0, 32, [3], none⟩] _ _ _ rfl _ _ _).1 <;> decide +kernel
theorem met_EthernetSend_4 (h : Obligations.EthernetSend) : ∃ P, Does (.hostFrameStart 95 0) (wWait (wEth 95 [])) P := by
  apply Exists.intro
  apply ((h.2.2.1 _ ⟨60, 63, true, 0x7FFF, 16, [1, 2], none⟩ [⟨60, 63, false, 0, 32, [3], none⟩] _ _ _ rfl _ _ _).2 _ _ _).2.1 <;> decide +kernel
/-- The same with a media packet due at once. -/
def wFull : State :=
  let s := wTx 1 (sets (wEth 95 []) [(O.sdiLaneMode 0, 1), (O.outRaster 0, 0x0607)])
  wWait { s with tm := { s.tm with pt := s.packetTime 0 0x0607 1200 57 0 4319 - 10 * ptNs } }
theorem met_EthernetSend_4b (h : Obligations.EthernetSend) : ∃ P, Does (.hostFrameStart 95 0) wFull P := by
  apply Exists.intro
  apply ((h.2.2.1 _ ⟨60, 63, true, 0x7FFF, 16, [1, 2], none⟩ [⟨60, 63, false, 0, 32, [3], none⟩] _ _ _ rfl _ _ _).2 _ _ _).1 <;> decide +kernel
/-- A Delay_Req of PTP instance 0 waiting on lane 95. -/
def wServo : HostTx := ⟨90, 0, true, 0x8001, 0, [], some ⟨0, 1, 5, 0, 9, [], []⟩⟩
theorem met_EthernetSend_4c (h : Obligations.EthernetSend) : ∃ P, Does (.hostFrameStart 95 0) ((wEth 95 []).setEth 95 { EthPort.idle with wait := [wServo] }) P := by
  apply Exists.intro
  apply ((h.2.2.1 _ wServo [] _ _ _ rfl _ _ _).2 _ _ _).2.2 ⟨0, 1, 5, 0, 9, [], []⟩ <;> decide +kernel
/-- The frames of lane 95 behind one that their ring sends on another lane first. -/
def wBehind : State :=
  let s := wWait (wEth 95 [])
  s.setRing 127 ⟨0, [⟨0, 1, false⟩, ⟨16, 1, false⟩, ⟨32, 1, false⟩]⟩
theorem met_EthernetSend_4d (h : Obligations.EthernetSend) : ∃ P, Does (.hostFrameStart 95 0) wBehind P := by
  apply Exists.intro; apply h.2.2.2.1 _ _ _ _ rfl; decide +kernel
/-- The first of them in its turn. -/
def wTurn : State := (wWait (wEth 95 [])).setRing 127 ⟨3, [⟨16, 1, false⟩]⟩
theorem met_EthernetSend_4e (h : Obligations.EthernetSend) : ∃ P, Does (.hostFrameStart 95 0) wTurn P := by
  apply Exists.intro
  apply ((h.2.2.1 _ ⟨60, 63, true, 0x7FFF, 16, [1, 2], none⟩ [⟨60, 63, false, 0, 32, [3], none⟩] _ _ _ rfl _ _ _).2 _ _ _).2.1 <;> decide +kernel
theorem met_EthernetSend_5 (h : Obligations.EthernetSend) : ∃ P, Does (.txtsPop 95)
    ((wEth 95 []).setEth 95 { EthPort.idle with stamps := [⟨0x8000, 1, 2, 3⟩, ⟨0x7FFF, 4, 5, 3⟩] }) P := by
  apply Exists.intro; apply (h.2.2.2.2 _ ⟨0x7FFF, 4, 5, 3⟩ _ _ _).1 <;> decide +kernel
theorem met_EthernetSend_6 (h : Obligations.EthernetSend) : ∃ P, Does (.txtsPop 95)
    ((wEth 95 []).setEth 95 { EthPort.idle with stamps := [⟨0x8000, 1, 2, 3⟩] }) P := by
  apply Exists.intro; apply (h.2.2.2.2 _ ⟨0x7FFF, 4, 5, 3⟩ _ _ _).2 <;> decide +kernel

end Ethernet

/-! ### Store -/

namespace Store

/-- A released line of lane slot 0 waiting in the queue of a running 2160p59.94 source in mode `m`. -/
def wSlot (m : Nat) : State :=
  (w1 [(O.sdiLaneMode 0, 1), (O.slotRaster 0, 0x0707), (O.slotSlotEnable 0, 1), (O.slotAlignMode 0, m)]).setSlot 0
    { SlotSt.idle with running := true, mode := m, first := 50, shownK := 57, shown := 3, q := [⟨58, 2, 0, 0, [1, 2, 3, 4, 5], [], [], []⟩] }
/-- The same state at another Pacer time. -/
def wOn (s : State) (t : Nat) : State := { s with tm := { s.tm with pt := t } }
theorem met_AlignerReleases_1 (h : Obligations.AlignerReleases) :
    ∃ P, Does (.lineRelease 0 58 2 0) (wOn (wSlot 0) ((wSlot 0).relTime 0x0707 58 2)) P := by
  apply Exists.intro; apply h.1 _ _ _ _ 58 ⟨58, 2, 0, 0, [1, 2, 3, 4, 5], [], [], []⟩ _ _ rfl <;> decide +kernel
/-- Flow slot 100 with two samples waiting. -/
def wSlot100 : State :=
  (w1 [(O.slotSlotEnable 100, 1), (O.slotAudioRate 100, 48)]).setSlot 100 { SlotSt.idle with sq := [(100, 0, 7), (101, 0, 8)] }
theorem met_AlignerReleases_2 (h : Obligations.AlignerReleases) :
    ∃ P, Does (.sampleRelease 100 100 0) (wOn wSlot100 (wSlot100.sampleRel (wSlot100.slotFs 100) 100)) P := by
  apply Exists.intro; apply h.2.1 _ _ _ _ _ rfl <;> decide +kernel
/-- That source present in frame mode with these waits, newest first. -/
def wMode (l : List Int) : State :=
  let s := (wSlot 1).setSlot 0 { (wSlot 1).slot 0 with waits := l, nextF := 4 }
  { s with ess := { s.ess with present := [(0, true)] } }
theorem met_AlignerReleases_3 (h : Obligations.AlignerReleases) : ((wMode []).groupMeanWait [0] 0x0707 58 = 0) ∧
    ∃ P, Does (.frameModeDecision 0 58 0) (wMode []) P :=
  ⟨by decide +kernel, _, h.2.2.1 _ _ _ _ _ _ _ _ rfl rfl (by decide +kernel) (by decide +kernel) (by decide +kernel) (by decide +kernel) rfl rfl⟩
theorem met_AlignerReleases_3b (h : Obligations.AlignerReleases) : ((wMode [2 ^ 130]).groupMeanWait [0] 0x0707 58 < 0) ∧
    ∃ P, Does (.frameModeDecision 0 58 0) (wMode [2 ^ 130]) P :=
  ⟨by decide +kernel, _, h.2.2.1 _ _ _ _ _ _ _ _ rfl rfl (by decide +kernel) (by decide +kernel) (by decide +kernel) (by decide +kernel) rfl rfl⟩
theorem met_AlignerReleases_3c (h : Obligations.AlignerReleases) : ((framePt 0x0707 : Int) ≤ (wMode [0]).groupMeanWait [0] 0x0707 58) ∧
    ∃ P, Does (.frameModeDecision 0 58 0) (wMode [0]) P :=
  ⟨by decide +kernel, _, h.2.2.1 _ _ _ _ _ _ _ _ rfl rfl (by decide +kernel) (by decide +kernel) (by decide +kernel) (by decide +kernel) rfl rfl⟩
theorem met_AlignerReleases_4 (h : Obligations.AlignerReleases) :
    ∃ P, Does (.videoDelayApply 0 58 0) ((wSlot 0).setNum (O.slotVideoDelay 0) 3) P := by
  apply Exists.intro; apply h.2.2.2.1 _ _ _ _ _ rfl <;> decide +kernel
theorem met_AlignerReleases_5 (h : Obligations.AlignerReleases) :
    ∃ P, Does (.alignModeApply 0 58 0) ((wSlot 0).setNum (O.slotAlignMode 0) 1) P := by
  apply Exists.intro; apply h.2.2.2.2 _ _ _ _ _ rfl <;> decide +kernel
/-- The device ready with this store. -/
def wStore (f : StoreSt → StoreSt) : State := { w1 [(0x500209, 2)] with ess := { EssSt.idle with store := f EssSt.idle.store } }
theorem met_StoreErrors_1 (h : Obligations.StoreErrors) : ∃ P, Does (.storeCorrectedError 7 0) (wStore id) P := by
  apply Exists.intro; apply (h.1 _ _ _ _ _ rfl _ rfl).1 <;> decide +kernel
theorem met_StoreErrors_1b (h : Obligations.StoreErrors) : ∃ P, Does (.storeCorrectedError 7 0)
    (wStore (fun x => { x with ce := [(7, [0])], spentSpares := (List.range 367).map (32768 + ·) })) P := by
  apply Exists.intro; apply (h.1 _ _ _ _ _ rfl _ rfl).2 33135 [] <;> decide +kernel
theorem met_StoreErrors_2 (h : Obligations.StoreErrors) : ∃ P, Does (.storeUncorrectableError 7 9 false 0)
    (wStore (fun x => { x with mapped := [(7, 33135)], retired := 1, spentSpares := [33135] })) P := by
  apply Exists.intro; apply (h.2.1 _ _ _ _ _ _ rfl _ _).1 <;> decide +kernel
theorem met_StoreErrors_2b (h : Obligations.StoreErrors) : ∃ P, Does (.storeUncorrectableError 24575 32767 true 0)
    (wStore (fun x => { x with badSpares := (List.range 367).map (32768 + ·) })) P := by
  apply Exists.intro; apply (h.2.1 _ _ _ _ _ _ rfl _ _).2 33135 [] <;> decide +kernel
theorem met_StoreErrors_2c (h : Obligations.StoreErrors) : ∃ P, Does (.storeUncorrectableError 33135 9 true 0) (wStore id) P := by
  apply Exists.intro; apply h.2.2.1 _ _ _ _ _ _ rfl <;> decide +kernel
theorem met_StoreErrors_3 (h : Obligations.StoreErrors) : ∃ P, Does (.retirementCopyDone 7 [9, 10] 0) (wStore (fun x => { x with copies := [7] })) P := by
  apply Exists.intro; apply h.2.2.2.1 _ _ _ _ _ rfl <;> decide +kernel
theorem met_StoreErrors_4 (h : Obligations.StoreErrors) : ∃ P, Does (.scrubPassEnd (3600 * 800000000)) (wStore id) P := by
  apply Exists.intro; apply h.2.2.2.2 _ _ _ rfl <;> decide +kernel

end Store

/-! ### Fabric -/

namespace Fabric

/-- Device 0 of a mesh of two, fabric lane f in this state and the link to device 1 in this one. -/
def wFab (l : List (Nat × Nat)) (f : Nat) (x : FabLane) (y : FabLink) : State :=
  ((w1 ([(O.meshMeshSize, 2), (O.meshTrainTimeout, 500), (O.meshEyeThreshold, 20), (O.meshEyeScanPeriod, 1000)] ++ l)).setFl f x).setLink 1 y
theorem met_FabricLanes_1 (h : Obligations.FabricLanes) :
    ∃ P, Does (.trainingFrame 0 0 0x0800 0 true 0) (wFab [] 0 { FabLane.idle with phase := .training, frames := 7 } FabLink.down) P := by
  apply Exists.intro; apply ((h.1 _ _ _ _ _ _ 1 0 _ _ rfl _ _ _).1 _ _).1 <;> decide +kernel
theorem met_FabricLanes_2 (h : Obligations.FabricLanes) :
    ∃ P, Does (.trainingFrame 1 64 0x8800 0 true 0) (wFab [] 1 { FabLane.idle with phase := .training, frames := 62 } FabLink.down) P := by
  apply Exists.intro; apply ((h.1 _ _ _ _ _ _ 1 1 _ _ rfl _ _ _).1 _ _).2.1 <;> decide +kernel
theorem met_FabricLanes_3 (h : Obligations.FabricLanes) :
    ∃ P, Does (.trainingFrame 1 64 0x8800 0 true 0) (wFab [] 1 { FabLane.idle with phase := .training, frames := 63 } FabLink.down) P := by
  apply Exists.intro; apply ((h.1 _ _ _ _ _ _ 1 1 _ _ rfl _ _ _).1 _ _).2.2 <;> decide +kernel
theorem met_FabricLanes_3b (h : Obligations.FabricLanes) :
    ∃ P, Does (.trainingFrame 1 64 0x8000 0 true 0) (wFab [] 1 { FabLane.idle with phase := .training, frames := 63 } FabLink.down) P := by
  apply Exists.intro; apply (h.1 _ _ _ _ _ _ 1 1 _ _ rfl _ _ _).2 <;> decide +kernel
theorem met_FabricLanes_4 (h : Obligations.FabricLanes) :
    ∃ P, Does (.trainingTimeout 1 0) (wFab [] 1 { FabLane.idle with phase := .training, since := 400000000, retried := true } FabLink.down) P := by
  apply Exists.intro; apply h.2.1 _ _ 1 1 _ _ rfl <;> decide +kernel
theorem met_FabricLanes_5 (h : Obligations.FabricLanes) :
    ∃ P, Does (.trainingRetry 1 8000000000) (wFab [(O.flLaneEnable 1, 1)] 1 { FabLane.idle with phase := .retry } FabLink.down) P := by
  apply Exists.intro; apply h.2.2.1 _ _ 1 1 _ _ rfl <;> decide +kernel
theorem met_FabricLanes_6 (h : Obligations.FabricLanes) :
    ∃ P, Does (.markerSend 1 0) (wFab [] 1 { FabLane.idle with phase := .trained }
      { FabLink.down with amTx := 2 ^ 32 - 1, sentTick := 800000000 - markerTicks, txMap := [0, 1], txNext := [1] }) P := by
  apply Exists.intro; apply h.2.2.2.1 _ _ _ _ rfl
  · exact ⟨1, by decide +kernel, by decide +kernel⟩
  · decide +kernel
theorem met_FabricLanes_7 (h : Obligations.FabricLanes) :
    ∃ P, Does (.alignmentMarker 1 ⟨5, 1, 1, 2, 2, 2, 2, 1⟩ 0) (wFab [] 1 { FabLane.idle with phase := .relock } FabLink.down) P := by
  refine ⟨_, h.2.2.2.2.1 _ _ _ 1 1 _ _ _ rfl ?_ ?_ ?_ ?_ rfl⟩ <;> decide +kernel
theorem met_FabricLanes_8 (h : Obligations.FabricLanes) : ∃ P, Does (.markerMissing 1 0)
    (wFab [] 1 { FabLane.idle with phase := .trained, cwLock := true, missed := 1, markerTick := 800000000 - 2 * markerTicks } FabLink.down) P := by
  apply Exists.intro; apply (h.2.2.2.2.2.1 _ _ 1 1 _ _ rfl _ _ _ _).1 <;> decide +kernel
theorem met_FabricLanes_9 (h : Obligations.FabricLanes) : ∃ P, Does (.markerMissing 1 0)
    (wFab [] 1 { FabLane.idle with phase := .trained, cwLock := true, missed := 2 } FabLink.down) P := by
  apply Exists.intro; apply (h.2.2.2.2.2.1 _ _ 1 1 _ _ rfl _ _ _ _).2 <;> decide +kernel
theorem met_FabricLanes_10 (h : Obligations.FabricLanes) : ∃ P, Does (.relockTimeout 1 0)
    (wFab [] 1 { FabLane.idle with phase := .relock, since := 800000000 - 2 * markerTicks } FabLink.down) P := by
  apply Exists.intro; apply h.2.2.2.2.2.2.1 _ _ 1 1 _ _ rfl <;> decide +kernel
theorem met_FabricLanes_11 (h : Obligations.FabricLanes) : ∃ P, Does (.linkMarkerTimeout 1 0)
    (wFab [] 1 FabLane.idle { FabLink.down with up := true, anyMarker := 800000000 - 3 * markerTicks }) P := by
  apply Exists.intro; apply h.2.2.2.2.2.2.2.1 _ _ _ _ rfl <;> decide +kernel
theorem met_FabricLanes_12 (h : Obligations.FabricLanes) : ∃ P, Does (.eyeScan 1 20 0)
    (wFab [] 1 { FabLane.idle with phase := .trained, low := 2 } FabLink.down) P := by
  apply Exists.intro; apply (h.2.2.2.2.2.2.2.2 _ _ _ 1 1 _ _ rfl _ _ _ _).1 <;> decide +kernel
theorem met_FabricLanes_13 (h : Obligations.FabricLanes) : ∃ P, Does (.eyeScan 1 19 0)
    (wFab [] 1 { FabLane.idle with phase := .trained, low := 2 } FabLink.down) P := by
  apply Exists.intro; apply (h.2.2.2.2.2.2.2.2 _ _ _ 1 1 _ _ rfl _ _ _ _).2 <;> decide +kernel
/-- A link that is up. -/
def wUp : FabLink := { FabLink.down with up := true, txMap := [0, 1, 2] }
/-- Source slot 0 enabled and present, raster 0x0607, its line of frame 58 released. -/
def wPub (y : FabLink) : State :=
  let s := wFab [(O.sdiLaneMode 0, 1), (O.slotSlotEnable 0, 1), (O.slotRaster 0, 0x0607), (O.slotAudioChannels 0, 16)] 1 FabLane.idle y
  { s with ess := { s.ess with present := [(0, true)], slots := [(0, { SlotSt.idle with running := true, first := 50, rel := [⟨59, 1057, 0, 0, [1, 2], [], [], []⟩] })] } }
theorem met_FabricSubscriptions_1 (h : Obligations.FabricSubscriptions) : ∃ P, Does (.subReq 1 0xFFFF 0 1 0 0) (wPub FabLink.down) P := by
  apply Exists.intro; apply (h.1 1 _ _ _ _ _ _ _ rfl).1 <;> decide +kernel
theorem met_FabricSubscriptions_2 (h : Obligations.FabricSubscriptions) : ∃ P, Does (.subReq 1 7 0x10007 10 0 0) (wPub wUp) P := by
  apply Exists.intro; apply (h.1 1 _ _ _ _ _ _ _ rfl).2.1 <;> decide +kernel
theorem met_FabricSubscriptions_3 (h : Obligations.FabricSubscriptions) : ∃ P, Does (.subReq 1 7 0 1 2 0)
    (wPub { wUp with pubs := (List.range 16383).map (fun c => (c, ⟨1, 1, 0, 0, c, 0, 0⟩)) }) P := by
  apply Exists.intro; apply (h.1 1 _ _ _ _ _ _ _ rfl).2.2.1 <;> decide +kernel
theorem met_FabricSubscriptions_3b (h : Obligations.FabricSubscriptions) : ∃ P, Does (.subReq 1 7 0 1 2 0)
    (wPub { wUp with pubs := [(0, ⟨1, 1, 0, 300800, 0, 0, 0⟩)], nextAge := 1 }) P := by
  apply Exists.intro; apply (h.1 1 _ _ _ _ _ _ _ rfl).2.2.2.1 <;> decide +kernel
theorem met_FabricSubscriptions_3c (h : Obligations.FabricSubscriptions) : ∃ P, Does (.subReq 1 7 0 1 2 0)
    (wPub { wUp with pubs := [(0, ⟨1, 1, 0, 5, 0, 0, 0⟩)], nextAge := 1 }) P := by
  apply Exists.intro; apply (h.1 1 _ _ _ _ _ _ _ rfl).2.2.2.2 <;> decide +kernel
theorem met_FabricSubscriptions_4 (h : Obligations.FabricSubscriptions) : ∃ P, Does (.unsub 1 7 3) (wPub { wUp with pubs := [(3, ⟨1, 1, 0, 5, 0, 0, 9⟩)] }) P := by
  apply Exists.intro; apply h.2.1 _ _ _ ⟨1, 1, 0, 5, 0, 0, 9⟩; decide +kernel
theorem met_FabricSubscriptions_5 (h : Obligations.FabricSubscriptions) : ∃ P, Does (.unsubAck 1 7 3 0) (wPub { wUp with closing := [5, 3, 4] }) P :=
  ⟨_, h.2.2.1 _ _ _ _ _⟩
theorem met_FabricSubscriptions_6 (h : Obligations.FabricSubscriptions) : ∃ P, Does (.shed 1 3 2)
    (wPub { wUp with subs := [(3, ⟨0x10000000, 1, 1, 5, 0, none, [], [], .none, false, 0⟩)] }) P := by
  apply Exists.intro; apply h.2.2.2.1 _ _ _ ⟨0x10000000, 1, 1, 5, 0, none, [], [], .none, false, 0⟩; decide +kernel
theorem met_FabricSubscriptions_7 (h : Obligations.FabricSubscriptions) : ∃ P, Does (.purpose 1 3 2) (wPub { wUp with pubs := [(3, ⟨1, 1, 0, 5, 0, 0, 9⟩)] }) P := by
  apply Exists.intro; apply h.2.2.2.2.1 _ _ _ ⟨1, 1, 0, 5, 0, 0, 9⟩; decide +kernel
theorem met_FabricSubscriptions_8 (h : Obligations.FabricSubscriptions) : ∃ P, Does (.streamState 1 3 true 0x0607)
    (wPub { wUp with subs := [(3, ⟨0x10000000, 1, 1, 5, 0, none, [], [], .none, false, 0⟩)] }) P := by
  apply Exists.intro; apply h.2.2.2.2.2 _ _ _ _ ⟨0x10000000, 1, 1, 5, 0, none, [], [], .none, false, 0⟩; decide +kernel
theorem met_FabricUnits_1 (h : Obligations.FabricUnits) : ∃ P, Does (.subAck 1 7 3 50 0) (wPub wUp) P := by
  apply Exists.intro; apply (h.1 _ _ _ _ _ _ _ _ _ _).1 <;> decide +kernel
theorem met_FabricUnits_2 (h : Obligations.FabricUnits) : ∃ P, Does (.subAck 1 7 3 50 0)
    ((wPub { wUp with asks := [⟨7, 0x10000000, 1, 0, false⟩] }).setNum (O.takeVideoSid 127) 0x10000000) P := by
  apply Exists.intro; apply (h.1 _ _ _ _ _ _ _ _ _ _).2 ⟨7, 0x10000000, 1, 0, false⟩ <;> decide +kernel
theorem met_FabricUnits_3 (h : Obligations.FabricUnits) : ∃ P, Does (.subNak 1 7 2) (wPub { wUp with asks := [⟨7, 0x10000000, 1, 0, false⟩, ⟨8, 0x10000001, 1, 0, false⟩] }) P := by
  apply Exists.intro; apply h.2.1 _ _ _ ⟨7, 0x10000000, 1, 0, false⟩ <;> decide +kernel
theorem met_FabricUnits_4 (h : Obligations.FabricUnits) : ∃ P, Does (.unitSend 1 3 1057 0) (wPub { wUp with pubs := [(3, ⟨0, 1, 0, 5, 0, 255, 9⟩)] }) P := by
  apply Exists.intro; apply h.2.2.1 _ _ _ 59 _ ⟨0, 1, 0, 5, 0, 255, 9⟩ ⟨59, 1057, 0, 0, [1, 2], [], [], []⟩ _ _ rfl <;> decide +kernel
/-- A received cell of a type on channel 3: unit 4,095, SEQ 255. -/
def wCell (ty : Nat) : RelayCell := ⟨cellBytes ty 0 3 4095 255 [], false, false, .none⟩
theorem met_FabricUnits_5 (h : Obligations.FabricUnits) : ∃ P, Does (.cellReceived 1 (wCell 1) [] [] 0)
    (wPub { wUp with subs := [(3, ⟨0x10000000, 1, 1, 5, 0, some 255, [(1, false, .none)], [], .none, false, 0⟩)] }) P := by
  apply Exists.intro
  apply (h.2.2.2.1 1 (wCell 1) _ _ _ rfl _ _ _ _ _).1
    ⟨0x10000000, 1, 1, 5, 0, some 255, [(1, false, .none)], [], .none, false, 0⟩ <;> decide +kernel
theorem met_FabricUnits_6 (h : Obligations.FabricUnits) : ∃ P, Does (.cellReceived 1 (wCell 4) [] [] 0) (wPub wUp) P := by
  apply Exists.intro; apply (h.2.2.2.1 1 (wCell 4) _ _ _ rfl _ _ _ _ _).2 <;> decide +kernel
theorem met_FabricUnits_7 (h : Obligations.FabricUnits) : ∃ P, Does (.unitPresent 1 3 1123 0)
    (wPub { wUp with subs := [(3, ⟨0x10000000, 1, 1, 5, 0, none, [(1123, false, .video [7]), (1124, false, .none)], [], .none, true, 0x0606⟩)] }) P := by
  apply Exists.intro
  apply h.2.2.2.2 _ _ _ _ _ ⟨0x10000000, 1, 1, 5, 0, none, [(1123, false, .video [7]), (1124, false, .none)], [], .none, true, 0x0606⟩ (.video [7]) _ _ rfl _ _ _ rfl <;> decide +kernel

end Fabric

/-! ### Takes -/

namespace Takes

theorem met_TakeRings_1 (h : Obligations.TakeRings) : ∃ P, Does (.takeRingTail 3 0xFFFFFFFF) (w1 []) P := by
  apply Exists.intro; apply h.1; decide +kernel
theorem met_TakeRings_2 (h : Obligations.TakeRings) : ∃ P, Does (.batchDecode 3 0)
    (((((w1 []).setReg (rRingTail 3) 0).setReg (rRingHead 3) 8191).setReg (rRingCtrl 3) (2 ^ 31)).setBytesAt (0x300000 + 0x20000 * 3 + 32 * 4095 + 1) [128]) P := by
  apply Exists.intro; apply h.2 _ 0 _ _ _ rfl <;> decide +kernel
/-- An output of raster `f` with a batch due. -/
def wOut (o f : Nat) (l : List (Nat × Nat)) (b : List Batch) : State :=
  let s := w1 ([(O.outRaster o, f)] ++ l)
  { s with ess := { s.ess with takes := { s.ess.takes with batches := b } } }
/-- A record that sets everything. -/
def wRec (o : Nat) : TakeRec := ⟨o, true, false, true, true, true, true, 0, 0, 9, 0xFF010000, 0xFF020000, 0xFF030000, 0, 1, 0, 0⟩
/-- A batch of one such record for frame 50. -/
def wBatch (o : Nat) : Batch := ⟨9, 1, 77, 3, false, false, 0, 0, [⟨wRec o, [(127, 0xFF010007)], 50, []⟩], 1⟩
theorem met_TakesApply_1 (h : Obligations.TakesApply) : ∃ P, Does (.switchingLine 127 57 0) (wOut 127 0x0607 [] [wBatch 127]) P := by
  apply Exists.intro; apply h.1 _ _ _ (wBatch 127, ⟨wRec 127, [(127, 0xFF010007)], 50, []⟩) _ _ rfl <;> decide +kernel
theorem met_TakesApply_1b (h : Obligations.TakesApply) : ∃ P, Does (.switchingLine 0 23 0)
    (wOut 0 0x0501 [(O.sdiLaneMode 0, 1)] [{ wBatch 0 with recs := [⟨{ wRec 0 with setVideo := false }, [], 0, []⟩] }]) P := by
  apply Exists.intro; apply h.1 _ _ _ ({ wBatch 0 with recs := [⟨{ wRec 0 with setVideo := false }, [], 0, []⟩] }, ⟨{ wRec 0 with setVideo := false }, [], 0, []⟩) _ _ rfl <;> decide +kernel
theorem met_TakesApply_2 (h : Obligations.TakesApply) : ∃ P, Does (.switchingLine 127 57 0) (wOut 127 0x0607 [] []) P := by
  apply Exists.intro; apply h.2.1 _ _ _ _ _ rfl <;> decide +kernel
theorem met_TakesApply_3 (h : Obligations.TakesApply) : ∃ P, Does (.audioTakeInstant 127 57 0) (wOut 127 0x0607 [] [{ wBatch 127 with recs := [⟨{ wRec 127 with amode := 1 }, [(127, 0xFF010007)], 50, []⟩] }]) P := by
  apply Exists.intro; apply h.2.2 _ _ _ 127 0xFF010007 ({ wBatch 127 with recs := [⟨{ wRec 127 with amode := 1 }, [(127, 0xFF010007)], 50, []⟩] }, ⟨{ wRec 127 with amode := 1 }, [(127, 0xFF010007)], 50, []⟩) _ _ rfl <;> decide +kernel
/-- The same with source slot 0 in force as its video, present, its line `n` of frame 57 released. -/
def wSrc (o n : Nat) (l : List (Nat × Nat)) : State :=
  let s := wOut o 0x0607 ([(O.takeVideoSid o, 0), (O.slotSlotEnable 0, 1), (O.slotRaster 0, 0x0607)] ++ l) []
  { s with ess := { s.ess with present := [(0, true)], slots := [(0, { SlotSt.idle with rel := [⟨57, n, 0, 0, [1, 2, 3], [], [], []⟩] })] } }
theorem met_OutputLines_1 (h : Obligations.OutputLines) : ∃ P, Does (.outputLine 96 57 1121 0) (wSrc 96 1121 []) P := by
  apply Exists.intro; apply (h.1 96 57 1121 0 [[1, 2, 3]] _ _ rfl _ _ _ _ _ _ _ _ _ _ _ _).1 <;> decide +kernel
theorem met_OutputLines_2 (h : Obligations.OutputLines) : ∃ P, Does (.outputLine 95 57 42 0)
    ((wSrc 95 42 [(O.sdiLaneMode 95, 1)]).setLane 95 { SdiLane.idle with txOn := true }) P := by
  apply Exists.intro; apply (h.1 95 57 42 0 [[1, 2, 3]] _ _ rfl _ _ _ _ _ _ _ _ _ _ _ _).2 <;> decide +kernel
theorem met_OutputLines_3 (h : Obligations.OutputLines) : ∃ P, Does (.outputLine 127 57 42 0)
    (let s := wOut 127 0x0607 [(O.takeVideoSid 127, 0x00100000)] []
     s.setOut 127 { s.out_ 127 with line := [[1, 2]] }) P := by
  apply Exists.intro; apply h.2 127 57 42 1 _ _ _ rfl <;> decide +kernel

end Takes

/-! ### Audio -/

namespace Audio

theorem met_AesInputs_1 (h : Obligations.AesInputs) : ∃ P, Does (.aesBiphaseLock 15) (w1 [(O.aesInEnable 15, 1)]) P := by
  apply Exists.intro; apply (h.1 _ _ _).1 <;> decide +kernel
theorem met_AesInputs_1b (h : Obligations.AesInputs) : ∃ P, Does (.aesBiphaseLock 15) (w1 []) P := by
  apply Exists.intro; apply (h.1 _ _ _).2 <;> decide +kernel
theorem met_AesInputs_2 (h : Obligations.AesInputs) : ∃ P, Does (.aesFramed ⟨15, 192000000⟩) (w1 [(O.aesInLockState 15, 1)]) P := by
  apply Exists.intro; apply (h.2.1 15 _ _ _).1 <;> decide +kernel
theorem met_AesInputs_2b (h : Obligations.AesInputs) : ∃ P, Does (.aesFramed ⟨15, 31999999⟩) (w1 [(O.aesInLockState 15, 1)]) P := by
  apply Exists.intro; apply (h.2.1 15 _ _ _).2 <;> decide +kernel
theorem met_AesInputs_3 (h : Obligations.AesInputs) : ∃ P, Does (.aesClassify 15 48000000 0 0) (w1 [(O.aesInLockState 15, 2)]) P := by
  apply Exists.intro; apply (h.2.2.1 15 _ _ _ _ _ rfl).1 <;> decide +kernel
theorem met_AesInputs_3b (h : Obligations.AesInputs) : ∃ P, Does (.aesClassify 15 48000000 0 0) (w1 [(O.aesInLockState 15, 3), (O.aesInSlot 15, 5)]) P := by
  apply Exists.intro; apply (h.2.2.1 15 _ _ _ _ _ rfl).1 <;> decide +kernel
theorem met_AesInputs_4 (h : Obligations.AesInputs) : ∃ P, Does (.aesClassify 15 31999999 0 0) (w1 [(O.aesInLockState 15, 2)]) P := by
  apply Exists.intro; apply (h.2.2.1 15 _ _ _ _ _ rfl).2.1 <;> decide +kernel
theorem met_AesInputs_5 (h : Obligations.AesInputs) : ∃ P, Does (.aesClassify 16 48000000 0 0) (w1 [(O.tdmMode 0, 2), (O.tdmState 0, 2)]) P := by
  apply Exists.intro; apply (h.2.2.1 16 _ _ _ _ _ rfl).2.2 <;> decide +kernel
theorem met_AesInputs_6 (h : Obligations.AesInputs) : ∃ P, Does (.aesSignalLoss 15 0 0) (w1 [(O.aesInLockState 15, 3)]) P := by
  apply Exists.intro; apply h.2.2.2 _ _ _ _ _ rfl; decide +kernel
theorem met_AesFramesAndBlocks_1 (h : Obligations.AesFramesAndBlocks) : ∃ P, Does (.aesSubframe 15 1 false true true 5 0)
    ((w1 [(O.aesInLockState 15, 3)]).setAes 15 { AesIn.idle with here := true, half := some (7, 9) }) P := by
  apply Exists.intro; apply h.1 _ _ _ _ _ _ _ _ _ _ rfl _ rfl; decide +kernel
theorem met_AesFramesAndBlocks_2 (h : Obligations.AesFramesAndBlocks) : ∃ P, Does
    (.aesBlock 15 (1 :: List.replicate 23 7) (1 :: List.replicate 23 8) (List.replicate 24 1) (List.replicate 24 2) false true)
    (w1 [(O.aesInLockState 15, 2)]) P := by
  apply Exists.intro; apply h.2.1; decide +kernel
theorem met_AesFramesAndBlocks_3 (h : Obligations.AesFramesAndBlocks) : ∃ P, Does (.aesSubframe 15 0 true true false 5 0) (w1 [(O.aesInLockState 15, 1)]) P := by
  apply Exists.intro; apply (h.2.2 _ _ _ _ _ true true _ [] [] [] [] _ _ _ rfl _).1; decide +kernel
theorem met_AudioPorts_1 (h : Obligations.AudioPorts) : ∃ P, Does (.aesOutputFrame 15 48000 0) (w1 [(O.aesOutEnable 15, 1)]) P := by
  apply Exists.intro; apply h.1 _ _ _ _ _ rfl <;> decide +kernel
theorem met_AudioPorts_2 (h : Obligations.AudioPorts) : ∃ P, Does (.tdmFsync 7 48000 [] 0) (w1 [(O.tdmMode 7, 1)]) P := by
  apply Exists.intro; apply h.2.1 _ _ _ _ _ _ rfl <;> decide +kernel
theorem met_AudioPorts_3 (h : Obligations.AudioPorts) : ∃ P, Does (.tdmSlaveLock 7) (w1 [(O.tdmMode 7, 2), (O.tdmState 7, 1)]) P := by
  apply Exists.intro; apply h.2.2.1 <;> decide +kernel
theorem met_AudioPorts_4 (h : Obligations.AudioPorts) : ∃ P, Does (.tdmFrameError 7 0) (w1 [(O.tdmMode 7, 2), (O.tdmState 7, 2)]) P := by
  apply Exists.intro; apply h.2.2.2.1 _ _ _ _ rfl <;> decide +kernel
theorem met_AudioPorts_4b (h : Obligations.AudioPorts) : ∃ P, Does (.tdmFrameError 7 0)
    ((w1 [(O.tdmMode 7, 2), (O.tdmState 7, 2)]).setTdm 7 { (w0.tdm 7) with bad := 3 }) P := by
  apply Exists.intro; apply h.2.2.2.1 _ _ _ _ rfl <;> decide +kernel
theorem met_AudioPorts_5 (h : Obligations.AudioPorts) : ∃ P, Does (.asrcLock 63 ⟨4, 1⟩) (w1 [(O.asrcInput 63, 5)]) P := by
  apply Exists.intro; apply h.2.2.2.2.1 <;> decide +kernel
theorem met_AudioPorts_6 (h : Obligations.AudioPorts) : ∃ P, Does (.asrcOutOfRange 63 ⟨1, 4⟩) (w1 [(O.asrcInput 63, 5), (O.asrcState 63, 2)]) P := by
  apply Exists.intro; apply (h.2.2.2.2.2.1 _ _ _ _ _ _).2 <;> decide +kernel
theorem met_AudioPorts_6b (h : Obligations.AudioPorts) : ∃ P, Does (.asrcLock 63 ⟨5, 1⟩) (w1 [(O.asrcInput 63, 5), (O.asrcState 63, 2)]) P := by
  apply Exists.intro; apply (h.2.2.2.2.2.1 _ _ _ _ _ _).1 <;> decide +kernel
theorem met_AudioPorts_7 (h : Obligations.AudioPorts) : ∃ P, Does (.portTransitionEnd 543) ((w1 []).setPdest 543 ⟨none, some 0xFF010003, 0⟩) P := by
  apply Exists.intro; apply h.2.2.2.2.2.2.1 _ 0xFF010003 <;> decide +kernel
theorem met_AudioPorts_8 (h : Obligations.AudioPorts) : ∃ P, Does (.zeroCrossingTimeout none 127 127 0)
    ((w1 []).setOut 127 { OutSt.idle with trans := [(127, ⟨0xFF010000, 0xFF010001, 2, 100, 96, 0, none, none, none, none⟩)] }) P := by
  apply Exists.intro; apply h.2.2.2.2.2.2.2.1 _ _ _ ⟨0xFF010000, 0xFF010001, 2, 100, 96, 0, none, none, none, none⟩ _ _ rfl <;> decide +kernel
theorem met_AudioPorts_9 (h : Obligations.AudioPorts) : ∃ P, Does (.zeroCrossingTimeout (some 543) 0 0 0)
    ((w1 []).setPdest 543 ⟨some ⟨0xFF010000, 0xFF010001, 2, 100, 96, 0, none, none, none, none⟩, none, 0⟩) P := by
  apply Exists.intro; apply h.2.2.2.2.2.2.2.2 _ _ _ _ ⟨0xFF010000, 0xFF010001, 2, 100, 96, 0, none, none, none, none⟩ _ _ rfl <;> decide +kernel

end Audio

/-! ### Stride -/

namespace Stride

/-- A program: LOAD D0, MAC by P[0], STORE D1, METER 0, OUT 3, END. -/
def wProg : List Nat := [1 * 2 ^ 58, 3 * 2 ^ 58, 6 * 2 ^ 58 + 2 ^ 26, 10 * 2 ^ 58 + 2 ^ 40, 11 * 2 ^ 58 + 2 ^ 40 + 3, 0x3F * 2 ^ 58]
/-- Engine 15 of a running set with a meter. -/
def wStr (l : List (Nat × Nat)) : State :=
  let s := w1 l
  { s with str := { s.str with act := { StrSet.empty with banks := [(15, ⟨wProg, [4096], [], []⟩)], meters := [(4095, 0, 100)] }, runs := [(15, { EngRun.zero with d := [(0, 12345)] })] } }
theorem met_StrideSteps_1 (h : Obligations.StrideSteps) :
    Period.step ⟨[], [], [], []⟩ [] [] ⟨EngRun.zero, [], [], [], true⟩ 5 = ⟨EngRun.zero, [], [], [], true⟩ := by
  apply (h _ _ _ _ _).1; decide +kernel
theorem met_StrideSteps_2 (h : Obligations.StrideSteps) :
    tget intZero (Period.step ⟨[], [], [], []⟩ [7] [] ⟨EngRun.zero, [], [], [], false⟩ (2 ^ 58 + 3 * 2 ^ 56 + 0x2000 * 2 ^ 40)).r.acc 3 = 7 * 256 := by
  rw [(h _ _ _ _ _).2.1 (by decide +kernel) (by decide +kernel)]; decide +kernel
theorem met_StrideSteps_3 (h : Obligations.StrideSteps) :
    tget intZero (Period.step ⟨[], [4096], [], []⟩ [7] [] ⟨EngRun.zero, [], [], [], false⟩ (3 * 2 ^ 58 + 0x2000 * 2 ^ 40)).r.acc 0 = 7 := by
  have x := (h ⟨[], [4096], [], []⟩ [7] [] ⟨EngRun.zero, [], [], [], false⟩ (3 * 2 ^ 58 + 0x2000 * 2 ^ 40)).2.2.1 (by decide +kernel) (by decide +kernel)
  exact x.trans (by decide +kernel)
theorem met_StrideSteps_4 (h : Obligations.StrideSteps) :
    tget intZero (Period.step ⟨[], [], [], []⟩ [] [] ⟨{ EngRun.zero with acc := [(0, 2 ^ 46)] }, [], [], [], false⟩ (6 * 2 ^ 58 + 0x1FFF * 2 ^ 26)).r.d 0x1FFF =
      accStore (2 ^ 46) := by
  have x := ((h ⟨[], [], [], []⟩ [] [] ⟨{ EngRun.zero with acc := [(0, 2 ^ 46)] }, [], [], [], false⟩ (6 * 2 ^ 58 + 0x1FFF * 2 ^ 26)).2.2.2.1
    (by decide +kernel) (by decide +kernel) (by decide +kernel)).1
  exact x.trans (by decide +kernel)
theorem met_StrideSteps_5 (h : Obligations.StrideSteps) :
    (Period.step ⟨[], [], [], []⟩ [] [] ⟨EngRun.zero, [], [], [], false⟩ (0x3F * 2 ^ 58)).ended = true :=
  ((h ⟨[], [], [], []⟩ [] [] ⟨EngRun.zero, [], [], [], false⟩ (0x3F * 2 ^ 58)).2.2.2.2 (by decide +kernel) (by decide +kernel)).1
theorem met_StrideEngines_1 (h : Obligations.StrideEngines) :
    ∃ P, Does (.stridePeriod false 48000 0) (wStr [(O.engRate 15, 48), (O.engState 15, 1)]) P := by
  apply Exists.intro; apply h.1 _ _ _ 15 ⟨wProg, [4096], [], []⟩ _ _ rfl <;> decide +kernel
theorem met_StrideEngines_1b (h : Obligations.StrideEngines) :
    ∃ P, Does (.stridePeriod true 96000 0) (wStr [(O.engRate 15, 96), (O.engState 15, 1)]) P := by
  apply Exists.intro; apply h.1 _ _ _ 15 ⟨wProg, [4096], [], []⟩ _ _ rfl <;> decide +kernel
theorem met_StrideEngines_2 (h : Obligations.StrideEngines) : ∃ P, Does (.strideSwap 0)
    ({ w1 [] with str := { (w1 []).str with next := some (StrSet.empty, 10 ^ 9 * 2 ^ 64 + 5 * 2 ^ 62, [0, 15]) } }) P := by
  apply Exists.intro; apply h.2.1 _ (10 ^ 9 * 2 ^ 64 + 5 * 2 ^ 62) StrSet.empty [0, 15] _ _ rfl <;> decide +kernel
theorem met_StrideEngines_3 (h : Obligations.StrideEngines) : ∃ P, Does (.strideFastCommit 0x80000100)
    ({ w1 [] with flt := { (w1 []).flt with safe := true } }) P := by
  apply Exists.intro; apply (h.2.2.1 _ _ _ _ _ _ _ _).1 <;> decide +kernel
theorem met_StrideEngines_4 (h : Obligations.StrideEngines) : ∃ P, Does (.strideFastCommit 0x80000001) (w1 []) P := by
  apply Exists.intro; apply (h.2.2.1 _ _ _ _ _ _ _ _).2 <;> decide +kernel
theorem met_StrideEngines_5 (h : Obligations.StrideEngines) : ∃ P, Does (.strideFastApply 0)
    ({ w1 [] with str := { (w1 []).str with fast := some ([(1, 5, 77), (0, 1, 2)], 10 ^ 9 * 2 ^ 64 + 5 * 2 ^ 62) } }) P := by
  apply Exists.intro; apply h.2.2.2.1 _ (10 ^ 9 * 2 ^ 64 + 5 * 2 ^ 62) [(1, 5, 77), (0, 1, 2)] _ _ rfl <;> decide +kernel
theorem met_StrideEngines_6 (h : Obligations.StrideEngines) : ∃ P, Does (.strideUncorrectable 15 5 0x0FFF 0) (wStr []) P := by
  apply Exists.intro; apply (h.2.2.2.2.1 15 5 _ _ _ _ rfl _).1 <;> decide +kernel
theorem met_StrideEngines_7 (h : Obligations.StrideEngines) : ∃ P, Does (.strideUncorrectable 15 6 0x3FFF 0) (wStr []) P := by
  apply Exists.intro; apply (h.2.2.2.2.1 15 6 _ _ _ _ rfl _).2.1 <;> decide +kernel
theorem met_StrideEngines_8 (h : Obligations.StrideEngines) : ∃ P, Does (.strideUncorrectable 15 4 0 0) (wStr [(O.engState 15, 1)]) P := by
  apply Exists.intro; apply (h.2.2.2.2.1 15 4 _ _ _ _ rfl _).2.2 <;> decide +kernel
theorem met_StrideEngines_9 (h : Obligations.StrideEngines) : ∃ P, Does (.engineReloadDone 15 0) (wStr [(O.engState 15, 3)]) P := by
  apply Exists.intro; apply h.2.2.2.2.2.1 _ _ _ _ rfl <;> decide +kernel
theorem met_StrideEngines_10 (h : Obligations.StrideEngines) : ∃ P, Does (.selfCheckDone 15 false 0) (wStr [(O.engState 15, 2)]) P := by
  apply Exists.intro; apply h.2.2.2.2.2.2.1 _ _ _ _ _ rfl <;> decide +kernel
theorem met_StrideEngines_11 (h : Obligations.StrideEngines) : ∃ P, Does (.meterUpdate 0)
    (let s := wStr []
     { s with str := { s.str with meters := [(4095, ⟨8388607, 5, 6, 0, []⟩)] } }) P := by
  apply Exists.intro; apply h.2.2.2.2.2.2.2 _ 4095 0 100 _ _ rfl <;> decide +kernel

end Stride

/-! ### Pacer -/

namespace Pacer

/-- The device with reference `r` in this state. -/
def wRef (r : Nat) (l : List (Nat × Nat)) (x : RefSt) : State := (w1 l).setRef r x
/-- A reference present since the start. -/
def wThere : RefSt := { RefSt.idle with present := true }
/-- The same state with the Pacer's part changed. -/
def wPac (s : State) (f : PacSt → PacSt) : State := s.setPac (f s.pac)
theorem met_PacerReferences_1 (h : Obligations.PacerReferences) : ∃ P, Does (.referencePresent 13 0)
    (let s := wRef 13 [(O.refPriority 13, 0)] RefSt.idle; { s with twin := { s.twin with up := true } }) P := by
  apply Exists.intro; apply h.1 _ _ _ _ rfl <;> decide +kernel
theorem met_PacerReferences_1b (h : Obligations.PacerReferences) : ∃ P, Does (.referencePresent 12 0)
    (wRef 12 [(O.refPriority 12, 1), (O.refLane 12, 95), (O.sdiLockState 95, 4)] RefSt.idle) P := by
  apply Exists.intro; apply h.1 _ _ _ _ rfl <;> decide +kernel
theorem met_PacerReferences_2 (h : Obligations.PacerReferences) : ∃ P, Does (.referenceAbsent 13 0) (wRef 13 [(O.refQualState 13, 3)] wThere) P := by
  apply Exists.intro; apply h.2.1 _ _ _ _ rfl <;> decide +kernel
theorem met_PacerReferences_3 (h : Obligations.PacerReferences) : ∃ P, Does (.qualificationWindow 0 (-200000) 100 true 8000000000)
    (wRef 0 [(O.refQualState 0, 2)] wThere) P := by
  apply Exists.intro; apply (h.2.2.1 0 (-200000) 100 _ true _ _ rfl _ _ _).1 <;> decide +kernel
theorem met_PacerReferences_3b (h : Obligations.PacerReferences) : ∃ P, Does (.qualificationWindow 8 200000 0 false 8000000000)
    (wRef 8 [(O.refQualState 8, 2)] wThere) P := by
  apply Exists.intro; apply (h.2.2.1 8 200000 0 _ false _ _ rfl _ _ _).1 <;> decide +kernel
theorem met_PacerReferences_4 (h : Obligations.PacerReferences) : ∃ P, Does (.qualificationWindow 0 200001 100 true 8000000000)
    (wRef 0 [(O.refQualState 0, 3), (O.refFailWindows 0, 2)] wThere) P := by
  apply Exists.intro; apply (h.2.2.1 0 200001 100 _ true _ _ rfl _ _ _).2.1 <;> decide +kernel
theorem met_PacerReferences_5 (h : Obligations.PacerReferences) : ∃ P, Does (.qualificationWindow 0 (-200001) 100 true 8000000000)
    (wRef 0 [(O.refQualState 0, 3), (O.refFailWindows 0, 1)] wThere) P := by
  apply Exists.intro; apply (h.2.2.1 0 (-200001) 100 _ true _ _ rfl _ _ _).2.2 <;> decide +kernel
theorem met_PacerReferences_6 (h : Obligations.PacerReferences) : ∃ P, Does (.wtrExpiry 0 0)
    (wRef 0 [(O.refQualState 0, 5), (O.refWtr 0, 1)] wThere) P := by
  apply Exists.intro; apply h.2.2.2.1 _ _ _ _ rfl <;> decide +kernel
theorem met_PacerReferences_7 (h : Obligations.PacerReferences) : ∃ P, Does (.switchComplete 0)
    (wPac (wRef 13 [(O.refQualState 13, 3), (O.refPriority 13, 1), (O.pacerPacerState, 3)] wThere) (fun p => { p with sel := some 13, switchAt := 5 })) P := by
  apply Exists.intro; apply (h.2.2.2.2 _ 13 _ _ rfl _ _ _).1 <;> decide +kernel
theorem met_PacerReferences_8 (h : Obligations.PacerReferences) : ∃ P, Does (.lockAchieved 8000000000)
    (wPac (wRef 13 [(O.refQualState 13, 3), (O.refPriority 13, 1), (O.pacerPacerState, 1)] wThere) (fun p => { p with sel := some 13, inLock := 1 })) P := by
  apply Exists.intro; apply (h.2.2.2.2 _ 13 _ _ rfl _ _ _).2 <;> decide +kernel
theorem met_PacerLoop_1 (h : Obligations.PacerLoop) : ∃ P, Does (.ocxoLoss (-7000) 0) ((w1 []).setInt O.pacerSteering (-200000000)) P := by
  apply Exists.intro; apply h.1 _ _ _ _ rfl <;> decide +kernel
theorem met_PacerLoop_2 (h : Obligations.PacerLoop) : ∃ P, Does (.ocxoInReturn 0) (wPac (w1 []) (fun p => { p with ocxo := false })) P := by
  apply Exists.intro; apply h.2.1 _ _ _ rfl <;> decide +kernel
theorem met_PacerLoop_3 (h : Obligations.PacerLoop) : ∃ P, Does (.ocxoMeasureWindow (-5) 8000000000) (w1 [(O.pacerTickSource, 1)]) P := by
  apply Exists.intro; apply h.2.2.1 _ _ _ _ rfl <;> decide +kernel
theorem met_PacerLoop_4 (h : Obligations.PacerLoop) : ∃ P, Does (.loopUpdate [] 0)
    (wPac (wRef 13 [(O.refQualState 13, 3), (O.pacerPacerState, 2)] { wThere with phase := -6 }) (fun p => { p with sel := some 13 })) P := by
  apply Exists.intro; apply (h.2.2.2.1 _ 13 _ _ rfl _ _).1 <;> decide +kernel
theorem met_PacerLoop_5 (h : Obligations.PacerLoop) : ∃ P, Does (.loopUpdate [] 0)
    (wPac (wRef 4 [(O.refQualState 4, 3), (O.pacerPacerState, 5)] { wThere with phase := -6 }) (fun p => { p with sel := some 4, loopSeq := 2 ^ 32 - 1 })) P := by
  apply Exists.intro; apply (h.2.2.2.1 _ 4 _ _ rfl _ _).2 <;> decide +kernel
theorem met_PacerLoop_6 (h : Obligations.PacerLoop) : ∃ P, Does (.loopOpen none) (w1 [(O.pacerPacerState, 4)]) P := by
  apply Exists.intro; apply (h.2.2.2.2.1 _ _).1 <;> decide +kernel
theorem met_PacerLoop_7 (h : Obligations.PacerLoop) : ∃ P, Does (.loopClose none) (w1 [(O.pacerPacerState, 5), (O.loopLoopMode, 1)]) P := by
  apply Exists.intro; apply (h.2.2.2.2.1 _ _).2 <;> decide +kernel
theorem met_PacerLoop_8 (h : Obligations.PacerLoop) : ∃ P, Does (.pacerLoopDco 0x80000000 0) (w1 [(O.pacerPacerState, 5), (O.loopLoopMode, 1)]) P := by
  apply Exists.intro; apply h.2.2.2.2.2.1 _ _ _ _ rfl <;> decide +kernel
theorem met_PacerLoop_9 (h : Obligations.PacerLoop) : ∃ P, Does (.loopWatchdog 0) (w1 [(O.pacerPacerState, 5), (O.loopLoopMode, 1), (O.loopLoopWatchdog, 1000)]) P := by
  apply Exists.intro; apply h.2.2.2.2.2.2.1 _ _ _ rfl <;> decide +kernel
theorem met_PacerLoop_10 (h : Obligations.PacerLoop) : ∃ P, Does (.overrideExpiry (60 * 800000000 + 800000000)) (wPac (w1 []) (fun p => { p with armed := 800000001 })) P := by
  apply Exists.intro; apply h.2.2.2.2.2.2.2 _ _ _ rfl <;> decide +kernel
/-- PTP instance 3 slaved to master [1] over MAC 95, in this state. -/
def wPtp (x : PtpSt) : State := ((w1 [(O.ptpMac 3, 95), (O.ptpAnnounceTimeout 3, 3), (O.sdiLaneMode 95, 2), (O.ethPtpHandler 95, 1)]).setBytes (O.ptpMasterPort 3) [1]).setPtp 3 x
theorem met_PtpAndPacerOutputs_1 (h : Obligations.PtpAndPacerOutputs) : ∃ P, Does (.ptpSync 3 [1] 5 6 0) (wPtp PtpSt.idle) P := by
  apply Exists.intro; apply h.1 _ _ _ _ _ _ _ rfl <;> decide +kernel
theorem met_PtpAndPacerOutputs_2 (h : Obligations.PtpAndPacerOutputs) : ∃ P, Does (.ptpDelayResp 3 [1] 0xFFFF 100 0)
    (wPtp { PtpSt.idle with sync := some (50, 60), req := some (0xFFFF, 80) }) P := by
  apply Exists.intro; apply h.2.1 _ _ _ 50 60 80 100 _ _ _ rfl <;> decide +kernel
/-- An Announce of master [2]. -/
def wAnn : PtpAnnounce := ⟨[2], 128, 6, 0x21, 0, 128, 9, 0, none, 0⟩
theorem met_PtpAndPacerOutputs_3 (h : Obligations.PtpAndPacerOutputs) : ∃ P, Does (.ptpAnnounce 3 wAnn 0) (wPtp { PtpSt.idle with masters := [⟨wAnn, 1, 0⟩] }) P := by
  apply Exists.intro; apply h.2.2.1 _ _ _ _ _ rfl <;> decide +kernel
theorem met_PtpAndPacerOutputs_3b (h : Obligations.PtpAndPacerOutputs) :
    (∀ b l, (((wPtp { PtpSt.idle with masters := [⟨wAnn, 1, 0⟩] }).toTick 0).ptp 3).masters = [⟨b, 1, l⟩] → b.port = wAnn.port) := by
  intro b l hh
  have : (((wPtp { PtpSt.idle with masters := [⟨wAnn, 1, 0⟩] }).toTick 0).ptp 3).masters = [⟨wAnn, 1, 0⟩] := by decide +kernel
  rw [this] at hh; cases hh; rfl
theorem met_PtpAndPacerOutputs_4 (h : Obligations.PtpAndPacerOutputs) : ∃ P, Does (.ptpOffsetSecond 3 0) (wPtp { PtpSt.idle with exchanges := [(7, -2)] }) P := by
  apply Exists.intro; apply h.2.2.2.1 _ _ (7, -2) _ _ rfl <;> decide +kernel
theorem met_PtpAndPacerOutputs_5 (h : Obligations.PtpAndPacerOutputs) : ∃ P, Does (.delayReqSend 3 0) ((wPtp { PtpSt.idle with seq := 65535 }).setNum (O.ptpMac 3) 97) P := by
  apply Exists.intro; apply h.2.2.2.2.1 _ _ _ _ _ rfl _ _ _ _ _ rfl <;> first | decide +kernel | exact fun hm => absurd hm (by decide +kernel)
/-- On a media lane that is up, a Delay_Req leaves in a gap. -/
theorem met_PtpAndPacerOutputs_5b (h : Obligations.PtpAndPacerOutputs) : ∃ P, Does (.delayReqSend 3 0)
    ((wPtp PtpSt.idle).setNum (O.ethLinkState 95) 2) P := by
  apply Exists.intro; apply h.2.2.2.2.1 _ _ _ _ _ rfl _ _ _ _ _ rfl <;> first | decide +kernel | (unfold State.servoReady; decide +kernel)
/-- The device as PTP master on MAC 97. -/
def wGm : State := (w1 [(O.gmPtpRole, 1)]).setBytes O.gmMasterPorts (2 :: List.replicate 12 0)
theorem met_PtpAndPacerOutputs_6 (h : Obligations.PtpAndPacerOutputs) : ∃ P, Does (.gmAnnounceSend 97 0) wGm P := by
  apply Exists.intro; apply (h.2.2.2.2.2.1 97 0 0 _ _ _ _ rfl).1 rfl rfl; exact fun hm => absurd hm (by decide)
theorem met_PtpAndPacerOutputs_7 (h : Obligations.PtpAndPacerOutputs) : ∃ P, Does (.gmSyncSend 97 0) wGm P := by
  apply Exists.intro; apply (h.2.2.2.2.2.1 97 0 0 _ _ _ _ rfl).2.1 rfl rfl; exact fun hm => absurd hm (by decide)
theorem met_PtpAndPacerOutputs_8 (h : Obligations.PtpAndPacerOutputs) : ∃ P, Does (.gmManagementSend 97 0) wGm P := by
  apply Exists.intro; apply (h.2.2.2.2.2.1 97 0 0 _ _ _ _ rfl).2.2 rfl rfl; exact fun hm => absurd hm (by decide)
theorem met_PtpAndPacerOutputs_9 (h : Obligations.PtpAndPacerOutputs) : ∃ P, Does (.gmDelayReq 97 [1] 7 0) wGm P := by
  apply Exists.intro; apply h.2.2.2.2.2.2.1 _ _ _ _ _ _ _ rfl _ _ _ rfl <;> first | decide +kernel | exact fun hm => absurd hm (by decide)
theorem met_PtpAndPacerOutputs_10 (h : Obligations.PtpAndPacerOutputs) : ∃ P, Does (.fpInputLoss 7 0)
    (w1 [(O.fpEnable 7, 1), (O.fpSource 7, 3), (O.fpOutState 7, 1)]) P := by
  apply Exists.intro; apply (h.2.2.2.2.2.2.2.1 _ 0 _ _ _ rfl _ _).1 <;> decide +kernel
theorem met_PtpAndPacerOutputs_11 (h : Obligations.PtpAndPacerOutputs) : ∃ P, Does (.fpInputReturn 7 (-9) 0)
    (w1 [(O.fpEnable 7, 1), (O.fpSource 7, 0), (O.fpOutState 7, 2)]) P := by
  apply Exists.intro; apply (h.2.2.2.2.2.2.2.1 _ _ _ _ _ rfl _ _).2 <;> decide +kernel
theorem met_PtpAndPacerOutputs_12 (h : Obligations.PtpAndPacerOutputs) : ∃ P, Does (.clockOutputRestart 3 0)
    (wPac (w1 []) (fun p => { p with ckHeld := [(3, 2 ^ 64)] })) P := by
  apply Exists.intro; apply h.2.2.2.2.2.2.2.2.1 _ _ (2 ^ 64) _ _ rfl <;> decide +kernel
theorem met_PtpAndPacerOutputs_13 (h : Obligations.PtpAndPacerOutputs) : ∃ P, Does (.pacerTimeNsRead 0) (w1 []) P := by
  apply Exists.intro; apply h.2.2.2.2.2.2.2.2.2 _ _ _ rfl <;> decide +kernel
/-- Composition head 7 runs in this state. -/
def wHead (x : HeadSt) : State :=
  let s := w1 [(O.headEnable 7, 1), (O.headRaster 7, 0x0607), (O.headStaleHold 7, 10)]
  { s with comp := { s.comp with heads := [(7, x)] } }
theorem met_CompositionHeads_1 (h : Obligations.CompositionHeads) : ∃ P, Does (.compositionWindow 7 57 [] 0)
    (wHead { HeadSt.idle with frames := 2 ^ 32 - 1, shown := { HeadSet.empty with raster := 0x0607 } }) P := by
  apply Exists.intro; apply h.1 _ _ _ _ _ _ rfl <;> decide +kernel
theorem met_CompositionHeads_2 (h : Obligations.CompositionHeads) : ∃ P, Does (.staleHoldExpiry 511 0)
    (let s := (wHead HeadSt.idle).setBytes (O.layer 511) [1, 0, 7]
     { s with comp := { s.comp with layers := [(511, { LayerSt.idle with cause := 4, lost := 10, has := true })] } }) P := by
  apply Exists.intro; apply h.2.1 _ _ _ _ rfl <;> decide +kernel
theorem met_CompositionHeads_3 (h : Obligations.CompositionHeads) : ∃ P, Does (.cacheRebuildDone 7 0)
    (wHead { HeadSt.idle with building := some ({ HeadSet.empty with raster := 0x0607 }, 5) }) P := by
  apply Exists.intro; apply h.2.2.2 7 _ 5 { HeadSet.empty with raster := 0x0607 } _ _ rfl <;> decide +kernel
theorem met_CompositionHeads_4 (h : Obligations.CompositionHeads) : ∃ P, Does (.staleHoldExpiry 511 0) (wHead HeadSt.idle) P := by
  apply Exists.intro; apply h.2.2.1 _ _ _ _ rfl; decide +kernel
theorem met_CompositionHeads_5 (_ : Obligations.CompositionHeads) :
    (sets (wHead HeadSt.idle) [(O.slotSlotEnable 239, 1), (O.slotOrigin 239, 7)]).publishedSlot 7 = some 239 := by
  decide +kernel

end Pacer

/-! ### Twin -/

namespace Twin

/-- The Anchor of a pair with its link up, with these objects and this change of the twin block. -/
def wTw (l : List (Nat × Nat)) (f : TwinSt → TwinSt) : State :=
  let s := w1 l
  { s with twin := f { s.twin with role := 2, up := true, rx := 6 } }
/-- The header of message 7. -/
def wHdr : TlHdr := ⟨twinMsg 1 0 7 0 44 []⟩
theorem met_TwinBaton_1 (h : Obligations.TwinBaton) : ∃ P, Does (.partnerClaimChange true 0)
    (wTw [] (fun t => { t with claim := true, grant := true, gate := true })) P := by
  apply Exists.intro; apply (h.1 _ _ _ rfl _).1 <;> decide +kernel
theorem met_TwinBaton_2 (h : Obligations.TwinBaton) : ∃ P, Does (.partnerClaimChange false 0)
    (wTw [(O.twinTwinState, 5)] (fun t => { t with claim := true, grant := true, pclaim := true })) P := by
  apply Exists.intro; apply (h.1 _ _ _ rfl _).2.1 <;> decide +kernel
theorem met_TwinBaton_3 (h : Obligations.TwinBaton) : ∃ P, Does (.refereeGrantChange false 0)
    (wTw [(O.twinTwinState, 6)] (fun t => { t with claim := true, grant := true, gate := true })) P := by
  apply Exists.intro; apply (h.1 _ _ _ rfl _).2.2.1 <;> decide +kernel
theorem met_TwinBaton_4 (h : Obligations.TwinBaton) : ∃ P, Does (.refereeGrantChange true 0)
    (wTw [(O.twinTwinState, 5)] (fun t => { t with claim := true })) P := by
  apply Exists.intro; apply (h.1 _ _ _ rfl _).2.2.2.1 <;> decide +kernel
theorem met_TwinBaton_5 (h : Obligations.TwinBaton) : ∃ P, Does (.batonClaimRaise 0)
    (wTw [(O.twinTwinState, 3), (O.twinHbCode, 2)] (fun t => { t with grant := true, holdOff := 800000000, block := 800000000 })) P := by
  apply Exists.intro; apply (h.1 _ _ _ rfl _).2.2.2.2.1 <;> decide +kernel
theorem met_TwinBaton_6 (h : Obligations.TwinBaton) : ∃ P, Does (.claimTimeout 0)
    (wTw [(O.twinTwinState, 5)] (fun t => { t with claim := true, claimAt := 800000000 - 10 * tickMs })) P := by
  apply Exists.intro; apply (h.1 _ _ _ rfl _).2.2.2.2.2.1 <;> decide +kernel
theorem met_TwinBaton_7 (h : Obligations.TwinBaton) : ∃ P, Does (.revertAckTimeout 0)
    (wTw [] (fun t => { t with revSent := 800000001 - 5 * tickMs })) P := by
  apply Exists.intro; apply (h.1 _ _ _ rfl _).2.2.2.2.2.2.1 <;> decide +kernel
theorem met_TwinBaton_8 (h : Obligations.TwinBaton) : ∃ P, Does (.releaseInstant 0)
    (wTw [(O.twinTwinState, 7)] (fun t => { t with claim := true, grant := true, gate := true, relT := 10 ^ 9 * 2 ^ 64 })) P := by
  apply Exists.intro; apply (h.1 _ _ _ rfl _).2.2.2.2.2.2.2.1 <;> decide +kernel
theorem met_TwinBaton_9 (h : Obligations.TwinBaton) : ∃ P, Does (.releaseCheck 0)
    (wTw [(O.twinTwinState, 7)] (fun t => { t with gate := true, relT := 10 ^ 9 * 2 ^ 64 + 1000000 * 2 ^ 64, unacked := [⟨1, 6, [], 1, 0⟩, ⟨2, 5, [], 1, 0⟩] })) P := by
  apply Exists.intro
  apply (h.1 _ _ _ rfl _).2.2.2.2.2.2.2.2.1
  · decide +kernel
  · decide +kernel
  · exact ⟨⟨2, 5, [], 1, 0⟩, by decide +kernel⟩
  · decide +kernel
theorem met_TwinBaton_10 (h : Obligations.TwinBaton) : ∃ P, Does (.releaseCheck 0)
    (wTw [(O.twinTwinState, 7)] (fun t => { t with gate := true, relT := 5, unacked := [⟨1, 6, [], 1, 0⟩] })) P := by
  apply Exists.intro; apply (h.1 _ _ _ rfl _).2.2.2.2.2.2.2.2.2 <;> decide +kernel
theorem met_TwinBaton_11 (h : Obligations.TwinBaton) : ∃ P, Does (.heartbeatPulse true 0) (wTw [(O.twinTwinState, 3)] (fun t => { t with pulseAt := 800000001 - 999 * tickUs })) P := by
  apply Exists.intro; apply h.2.1 _ _ _ _ rfl <;> decide +kernel
theorem met_TwinBaton_12 (h : Obligations.TwinBaton) : ∃ P, Does (.healthConfirmLapse 0)
    (wTw [(O.twinTwinState, 3), (O.twinHbCode, 1)] (fun t => { t with healthAt := 800000000 - 2 * tickMs })) P := by
  apply Exists.intro; apply h.2.2.1 _ _ _ rfl <;> decide +kernel
theorem met_TwinBaton_13 (h : Obligations.TwinBaton) : ∃ P, Does (.handoverHoldLimit 0) (wTw [] (fun t => { t with sdiHold := 1 })) P := by
  apply Exists.intro; apply h.2.2.2.1 _ _ _ rfl <;> decide +kernel
/-- The Lead in standby, waiting to take the Baton back since tick 0. -/
def wLead (f : TwinSt → TwinSt) : State :=
  wTw [(O.twinTwinState, 3), (O.twinHbCode, 1), (O.twinRevertWtr, 1), (O.twinRevertive, 1), (O.twinRevertRate, 3)] (fun t => f { t with
    role := 1
    grant := true
    wtrAt := 1
    partner := some ⟨6, 1, true, true, true, false, 0⟩ })
theorem met_TwinBaton_14 (h : Obligations.TwinBaton) : ∃ P, Does (.revertWtrExpiry 0) (wLead id) P := by
  apply Exists.intro; apply (h.2.2.2.2 _ _ _ rfl _ _).1 <;> decide +kernel
theorem met_TwinBaton_15 (h : Obligations.TwinBaton) : ∃ P, Does (.revertRetry 0) (wLead (fun t => { t with retryAt := 800000000 })) P := by
  apply Exists.intro; apply (h.2.2.2.2 _ _ _ rfl _ _).2 <;> decide +kernel
theorem met_TwinLink_1 (h : Obligations.TwinLink) : ∃ P, Does (.statusSend 0) (wTw [(O.twinTwinState, 3)] (fun t => { t with sentAt := 800000001 - 100 * tickUs })) P := by
  apply Exists.intro; apply h.1 _ _ _ rfl <;> decide +kernel
/-- A STATUS body that has heard STATUS 10. -/
def wStatus : TlStatusBody := ⟨[3, 1, 3, 0] ++ List.replicate 16 7 ++ List.replicate 10 0 ++ [0, 0, 0, 10] ++ List.replicate 10 0, (1, 5)⟩
theorem met_TwinLink_2 (h : Obligations.TwinLink) : ∃ P, Does (.tlStatus wHdr wStatus 0) (wTw [] (fun t => { t with up := false, hear := 8, stRx := 6 })) P := by
  apply Exists.intro; apply (h.2.1 _ _ _ _ _ rfl _ _).1 <;> decide +kernel
theorem met_TwinLink_3 (h : Obligations.TwinLink) : ∃ P, Does (.tlStatus wHdr wStatus 0)
    (wTw [(O.twinTwinState, 4)] (fun t => { t with up := false, hear := 9, stRx := 6 })) P := by
  apply Exists.intro; apply (h.2.1 _ _ _ _ _ rfl _ _).2.1 <;> decide +kernel
theorem met_TwinLink_4 (h : Obligations.TwinLink) : ∃ P, Does (.tlStatus wHdr wStatus 0) (wTw [(O.twinTwinState, 3)] id) P := by
  apply Exists.intro; apply (h.2.1 _ _ _ _ _ rfl _ _).2.2 <;> decide +kernel
theorem met_TwinLink_5 (h : Obligations.TwinLink) : ∃ P, Does (.tlAck ⟨twinMsg 0xB 0 0 5 0 []⟩)
    (wTw [] (fun t => { t with unacked := [⟨5, 2, [], 1, 0⟩, ⟨6, 2, [], 1, 0⟩] })) P := by
  apply Exists.intro; apply h.2.2.1 <;> decide +kernel
theorem met_TwinLink_6 (h : Obligations.TwinLink) : ∃ P, Does (.tlRetransmit 6 0)
    (wTw [(0xC00302, 2 ^ 32 - 1)] (fun t => { t with unacked := [⟨6, 2, [1], 7, 800000000 - 50 * tickUs⟩] })) P := by
  apply Exists.intro; apply (h.2.2.2.1 _ _ ⟨6, 2, [1], 7, 800000000 - 50 * tickUs⟩ _ _ rfl _ _).1 <;> decide +kernel
theorem met_TwinLink_7 (h : Obligations.TwinLink) : ∃ P, Does (.tlRetransmit 6 0)
    (wTw [(O.twinTwinState, 3)] (fun t => { t with unacked := [⟨6, 2, [1], 8, 800000000 - 50 * tickUs⟩] })) P := by
  apply Exists.intro; apply (h.2.2.2.1 _ _ ⟨6, 2, [1], 8, 800000000 - 50 * tickUs⟩ _ _ rfl _ _).2 <;> decide +kernel
theorem met_TwinLink_8 (h : Obligations.TwinLink) : ∃ P, Does (.tlStatusTimeout 0) (wTw [(O.twinTwinState, 3)] (fun t => { t with stAt := 800000000 - tickMs })) P := by
  apply Exists.intro; apply (h.2.2.2.2 _ _ _ rfl _).1 <;> decide +kernel
theorem met_TwinLink_9 (h : Obligations.TwinLink) : ∃ P, Does (.tlPcsLoss 0) (wTw [(O.twinTwinState, 6)] (fun t => { t with gate := true })) P := by
  apply Exists.intro; apply (h.2.2.2.2 _ _ _ rfl _).2.1 <;> decide +kernel
theorem met_TwinLink_10 (h : Obligations.TwinLink) : ∃ P, Does (.tlPcsLoss 0) (wTw [] (fun t => { t with up := false, hear := 4 })) P := by
  apply Exists.intro; apply (h.2.2.2.2 _ _ _ rfl _).2.2 <;> decide +kernel
theorem met_TwinMessages_1 (h : Obligations.TwinMessages) : ∃ P, Does (.tlTake wHdr (10 ^ 9 * 2 ^ 32) [(0, [127, 0xA1, 0, 0, 0, 0, 0, 9] ++ List.replicate 24 0)] 0)
    ((wTw [(O.twinTwinState, 3)] id).setNum (O.outRaster 127) 0x0607) P := by
  apply Exists.intro; apply (h.1 _ _ _ _ rfl _ _ _ _ _ _ _).1 <;> decide +kernel
theorem met_TwinMessages_2 (h : Obligations.TwinMessages) : ∃ P, Does (.tlCommit wHdr 0x5FFF 1 [(0x5000, 3, 4, [0, 0, 0, 1])] 0 [] 0) (wTw [(O.twinTwinState, 3)] id) P := by
  apply Exists.intro; apply (h.1 _ _ _ _ rfl _ _ _ _ _ _ _).2.1 <;> decide +kernel
theorem met_TwinMessages_3 (h : Obligations.TwinMessages) : ∃ P, Does (.tlJournal wHdr [[255, 255, 255, 255] ++ List.replicate 60 1] 0) (wTw [(O.twinTwinState, 3)] id) P := by
  apply Exists.intro; apply (h.1 _ _ _ _ rfl _ _ _ _ _ _ _).2.2.1 <;> decide +kernel
theorem met_TwinMessages_4 (h : Obligations.TwinMessages) : ∃ P, Does (.tlFast wHdr 77 [[64, 0, 0, 1, 0, 0, 16, 0]] 0) (wTw [(O.twinTwinState, 3)] id) P := by
  refine ⟨_, (h.1 _ _ _ _ rfl ?_ ?_ ?_ ?_ ?_ ?_ ?_).2.2.2.1 77 [[64, 0, 0, 1, 0, 0, 16, 0]]⟩ <;> decide +kernel
theorem met_TwinMessages_5 (h : Obligations.TwinMessages) : ∃ P, Does (.tlRevert wHdr 77 0) (wTw [(O.twinTwinState, 6)] (fun t => { t with gate := true })) P := by
  apply Exists.intro; apply (h.1 _ _ _ _ rfl _ _ _ _ _ _ _).2.2.2.2.1 <;> decide +kernel
theorem met_TwinMessages_6 (h : Obligations.TwinMessages) : ∃ P, Does (.tlRevertAck wHdr 77 0) (wTw [(O.twinTwinState, 3)] (fun t => { t with role := 1, revSent := 5 })) P := by
  apply Exists.intro; apply (h.1 _ _ _ _ rfl _ _ _ _ _ _ _).2.2.2.2.2.1 <;> decide +kernel
theorem met_TwinMessages_7 (h : Obligations.TwinMessages) : ∃ P, Does (.tlHandoverRequest wHdr 77 0) (wTw [(O.twinTwinState, 3)] id) P := by
  refine ⟨_, (h.1 _ _ _ _ rfl ?_ ?_ ?_ ?_ ?_ ?_ ?_).2.2.2.2.2.2.1 77⟩ <;> decide +kernel
theorem met_TwinMessages_8 (h : Obligations.TwinMessages) : ∃ P, Does (.tlJoin wHdr 3 0) (wTw [(O.twinTwinState, 6)] (fun t => { t with gate := true })) P := by
  apply Exists.intro; apply (h.1 _ _ _ _ rfl _ _ _ _ _ _ _).2.2.2.2.2.2.2 <;> decide +kernel
theorem met_TwinMessages_9 (h : Obligations.TwinMessages) : ∃ P, Does (.tlSnapshot wHdr [(0x5000, 3, [0, 0, 0, 1])] [[1]] 9168 true 0)
    (wTw [(O.twinTwinState, 2)] (fun t => { t with joining := true })) P := by
  apply Exists.intro; apply h.2.1 _ _ _ _ _ _ _ _ rfl <;> decide +kernel
theorem met_TwinMessages_10 (h : Obligations.TwinMessages) : ∃ P, Does (.joinComplete 0)
    (wTw [(O.twinTwinState, 2)] (fun t => { t with joining := true, partner := some ⟨6, 1, true, true, true, false, 0⟩ })) P := by
  apply Exists.intro; apply h.2.2 _ ⟨6, 1, true, true, true, false, 0⟩ _ _ rfl <;> decide +kernel

end Twin

/-! ### Faults -/

namespace Faults

theorem met_Registers_1 (h : Obligations.Registers) : ∃ P, Does (.registerWrite 0x37FFFC 4 0x11223344) (w1 []) P := by
  apply Exists.intro; apply h.1 <;> decide +kernel
theorem met_Registers_2 (h : Obligations.Registers) : ∃ P, Does (.registerWrite 0x4085F8 4 0x8001) ((w1 []).setReg 0x4085F8 3) P := by
  apply Exists.intro; apply h.2.1 95; decide +kernel
theorem met_Registers_3 (h : Obligations.Registers) : ∃ P, Does (.registerWrite 0x000108 4 0x8001) (w1 []) P := by
  apply Exists.intro; apply h.2.2.1; decide +kernel
theorem met_Registers_4 (h : Obligations.Registers) : ∃ P, Does (.registerWrite 0x020040 4 0x8000) (w1 []) P := by
  apply Exists.intro; apply h.2.2.2.1 1; decide +kernel
theorem met_Registers_4b (h : Obligations.Registers) : ∃ P, Does (.registerWrite 0x020040 4 0x8000) ((w1 []).setReg (rDmaCtrl 1) (2 ^ 31)) P := by
  apply Exists.intro; apply h.2.2.2.1 1; decide +kernel
theorem met_Registers_5 (h : Obligations.Registers) : ∃ P, Does (.registerWrite 0x000109 4 0x8000) (w1 []) P := by
  apply Exists.intro; apply h.2.2.2.2.1 <;> decide +kernel
theorem met_Registers_6 (h : Obligations.Registers) : ∃ P, Does (.registerWrite 0x000108 4 0x8000) { w1 [] with hif := { (w1 []).hif with d3hot := true } } P := by
  apply Exists.intro; apply h.2.2.2.2.2.1 <;> decide +kernel
theorem met_Registers_7 (h : Obligations.Registers) : ∃ P, Does (.rcRegisterRead 0x000108 4) { w1 [] with hif := { (w1 []).hif with d3hot := true } } P := by
  apply Exists.intro; apply h.2.2.2.2.2.2.1 <;> decide +kernel
theorem met_Registers_8 (h : Obligations.Registers) : ∃ P, Does (.rcRegisterRead 0x200004 4) (w1 []) P := by
  apply Exists.intro; apply h.2.2.2.2.2.2.2.1 <;> decide +kernel
theorem met_Registers_9 (h : Obligations.Registers) : ∃ P, Does (.rcRegisterRead 0x00000C 4) ((w1 []).setReg 0x00000C 5) P := by
  apply Exists.intro; apply h.2.2.2.2.2.2.2.2.1 <;> decide +kernel
theorem met_Registers_10 (h : Obligations.Registers) : ∃ P, Does (.rcRegisterRead 0x00000C 3) ((w1 []).setReg 0x00000C 5) P := by
  apply Exists.intro; apply h.2.2.2.2.2.2.2.2.2 <;> decide +kernel
theorem met_FaultCollector_1 (h : Obligations.FaultCollector) : ∃ P, Does (.faultReport 0 0xA004) (w1 []) P := by
  apply Exists.intro; apply h.1 <;> decide +kernel
theorem met_FaultCollector_1b (h : Obligations.FaultCollector) : ∃ P, Does (.faultReport 0 0xA004) (w1 [(kSrc 0 1, 3)]) P := by
  apply Exists.intro; apply h.1 <;> decide +kernel
theorem met_FaultCollector_1c (h : Obligations.FaultCollector) : ∃ P, Does (.faultReport 0 0xA004) (w1 [(kSrc 0 1, 0)]) P := by
  apply Exists.intro; apply h.1 <;> decide +kernel
theorem met_FaultCollector_2 (h : Obligations.FaultCollector) : ∃ P, Does (.faultReport 511 0xA004) (w1 []) P := by
  apply Exists.intro; apply h.2.1 <;> decide +kernel
theorem met_FaultCollector_3 (h : Obligations.FaultCollector) : ∃ P, Does (.faultConditionEnd 96) ((w1 []).setSrc 96 ⟨2, 1, [], 0, 0, true⟩) P := by
  apply Exists.intro; apply h.2.2.1 <;> decide +kernel
theorem met_FaultCollector_4 (h : Obligations.FaultCollector) : ∃ P, Does (.ack none 0) ((w1 []).setSrc 0 ⟨1, 1, [], 0, 0, false⟩) P := by
  apply Exists.intro; apply h.2.2.2.1 <;> decide +kernel
theorem met_FaultCollector_4b (h : Obligations.FaultCollector) : ∃ P, Does (.ack none 32) ((w1 []).setSrc 32 ⟨1, 1, [], 0, 0, true⟩) P := by
  apply Exists.intro; apply h.2.2.2.1 <;> decide +kernel
theorem met_FaultCollector_5 (h : Obligations.FaultCollector) : ∃ P, Does (.ackAll none) ((w1 []).setSrc 32 ⟨1, 1, [], 0, 0, true⟩) P := by
  apply Exists.intro; apply h.2.2.2.2.1 <;> decide +kernel
theorem met_FaultCollector_6 (h : Obligations.FaultCollector) : ∃ P, Does (.collectorSelfCheck true true true 0) (w1 []) P := by
  apply Exists.intro; apply (h.2.2.2.2.2.1 _ _ _ _ _ _ rfl).1; decide +kernel
theorem met_FaultCollector_7 (h : Obligations.FaultCollector) : ∃ P, Does (.collectorSelfCheck true false true 0) (w1 [(0xA00102, 1)]) P := by
  apply Exists.intro; apply (h.2.2.2.2.2.1 _ _ _ _ _ _ rfl).2 <;> decide +kernel
theorem met_FaultCollector_8 (h : Obligations.FaultCollector) :
    ∃ P, Does (.minIntervalEnd 33 0) { w1 [] with flt := { (w1 []).flt with coalesced := [(33, true)] } } P := by
  apply Exists.intro; apply h.2.2.2.2.2.2 _ _ _ _ rfl <;> decide +kernel
/-- The recorder in a state, with two unflushed records. -/
def wRec (st : Nat) : State :=
  { w1 [] with
    evr := {
      RecSt.idle with
      state := st, ring := [⟨0x1003, [1], 15, 0, 1, 1, 0⟩, ⟨0x1004, [1, 2, 3], 15, 0, 1, 1, 1⟩], unflushed := 2, seq := 2,
      retryAt := if st = 3 then some 5 else none } }
theorem met_EventRecorder_1 (h : Obligations.EventRecorder) : ∃ P, Does (.recorderFlush none) (wRec 0) P := by
  apply Exists.intro; exact (h.1 _ (by decide +kernel) (by decide +kernel)).1
theorem met_EventRecorder_1b (h : Obligations.EventRecorder) : ∃ P, Does (.recorderFlush (some 1)) (wRec 0) P := by
  apply Exists.intro; exact (h.1 _ (by decide +kernel) (by decide +kernel)).2 1
theorem met_EventRecorder_2 (h : Obligations.EventRecorder) : ∃ P, Does (.flashRetry none 0) (wRec 3) P := by
  apply Exists.intro; apply (h.2.1 _ 5 _ _ rfl (by decide +kernel) (by decide +kernel) (by decide +kernel)).1
theorem met_EventRecorder_2b (h : Obligations.EventRecorder) : ∃ P, Does (.flashRetry (some 1) 0) (wRec 3) P := by
  apply Exists.intro; apply (h.2.1 _ 5 _ _ rfl (by decide +kernel) (by decide +kernel) (by decide +kernel)).2 1
theorem met_EventRecorder_3 (h : Obligations.EventRecorder) : ∃ P, Does (.powerFailAssert 0) (wRec 0) P := by
  apply Exists.intro; apply h.2.2.1 _ _ _ rfl <;> decide +kernel
theorem met_EventRecorder_4 (h : Obligations.EventRecorder) : ∃ P, Does .powerFailDeassert (wRec 2) P := by
  apply Exists.intro; apply h.2.2.2.1; decide +kernel
theorem met_EventRecorder_5 (h : Obligations.EventRecorder) :
    ∃ P, Does (.recorderSecond 0) { wRec 0 with evr := { (wRec 0).evr with lostRate := [(0x1003, 4)] } } P :=
  ⟨_, h.2.2.2.2.1 _ _ _ rfl⟩
theorem met_EventRecorder_6 (h : Obligations.EventRecorder) : ∃ P, Does .recorderEraseDone (wRec 1) P := by
  apply Exists.intro; apply h.2.2.2.2.2.1; decide +kernel
theorem met_EventRecorder_7 (h : Obligations.EventRecorder) : ∃ P, Does (.recChallengeRoll 48000000000) (wRec 0) P := by
  apply Exists.intro; apply h.2.2.2.2.2.2.1 _ _ _ rfl; decide +kernel
theorem met_EventRecorder_8 (h : Obligations.EventRecorder) : ∃ P, Does (.operatingTimeSave 0) (wRec 0) P :=
  ⟨_, h.2.2.2.2.2.2.2 _ _ _ rfl⟩

end Faults

/-! ### Power -/

namespace Power

/-- A chip in this CHIP_STATE with this power block. -/
def wPwr (chip : Nat) (l : List (Nat × Nat)) (p : PwrSt) : State := { w1 ((O.pwrChipState, chip) :: l) with pwr := p }
theorem met_BenchAndWaking_1 (h : Obligations.BenchAndWaking) :
    ∃ P, Does (.benchEntryStep 0 0) (wPwr 1 [] { PwrSt.idle with entry := 2 }) P := by
  apply Exists.intro; apply (h.1 _ _ _ _ rfl _ _).1 <;> decide +kernel
theorem met_BenchAndWaking_2 (h : Obligations.BenchAndWaking) :
    ∃ P, Does (.benchEntryStep 0x100 0) (wPwr 1 [(O.pwrWakeMask, 0x1FF)] { PwrSt.idle with entry := 2 }) P := by
  apply Exists.intro; apply (h.1 _ _ _ _ rfl _ _).2.1 8 <;> decide +kernel
theorem met_BenchAndWaking_3 (h : Obligations.BenchAndWaking) :
    ∃ P, Does (.benchEntryStep 0x100 0) (wPwr 1 [] { PwrSt.idle with entry := 4 }) P := by
  apply Exists.intro; apply (h.1 _ _ _ _ rfl _ _).2.2.2 <;> decide +kernel
theorem met_BenchAndWaking_3b (h : Obligations.BenchAndWaking) :
    ∃ P, Does (.benchEntryStep 0x100 0) (wPwr 1 [] { PwrSt.idle with entry := 3 }) P := by
  apply Exists.intro; apply (h.1 _ _ _ _ rfl _ _).2.2.1 <;> decide +kernel
theorem met_BenchAndWaking_4 (h : Obligations.BenchAndWaking) :
    ∃ P, Does (.wake 5 0) (wPwr 2 [(O.pwrWakeMask, 32), (O.monFunction 3, 2)] PwrSt.idle) P := by
  apply Exists.intro; apply (h.2.1 _ _ _ _ rfl _).1 <;> decide +kernel
theorem met_BenchAndWaking_5 (h : Obligations.BenchAndWaking) : ∃ P, Does (.wake 8 0) (wPwr 1 [] PwrSt.idle) P := by
  apply Exists.intro; apply (h.2.1 _ _ _ _ rfl _).2.1 <;> decide +kernel
theorem met_BenchAndWaking_6 (h : Obligations.BenchAndWaking) : ∃ P, Does (.wake 8 0) (wPwr 2 [(O.pwrWakeMask, 0)] PwrSt.idle) P := by
  apply Exists.intro; apply (h.2.1 _ _ _ _ rfl _).2.2 <;> decide +kernel
theorem met_BenchAndWaking_7 (h : Obligations.BenchAndWaking) : ∃ P, Does (.hostWake 0x80000000) (wPwr 2 [(O.pwrWakeMask, 1)] PwrSt.idle) P := by
  apply Exists.intro; apply h.2.2.1 <;> decide +kernel
theorem met_BenchAndWaking_8 (h : Obligations.BenchAndWaking) :
    ∃ P, Does (.wakeTimerExpiry 0) (wPwr 2 [(O.pwrWakeMask, 128), (O.pwrWakeTimer, 1)] PwrSt.idle) P := by
  apply Exists.intro; apply h.2.2.2.1 _ _ _ rfl <;> decide +kernel
theorem met_BenchAndWaking_9 (h : Obligations.BenchAndWaking) : ∃ P, Does (.bringUpStep true 0) (wPwr 3 [] { PwrSt.idle with bring := [(1, 5)] }) P := by
  apply Exists.intro; apply (h.2.2.2.2 _ 1 5 [] _ _ _ rfl _ _).1 <;> decide +kernel
theorem met_BenchAndWaking_10 (h : Obligations.BenchAndWaking) :
    ∃ P, Does (.bringUpStep false 0) (wPwr 3 [] { PwrSt.idle with bring := [(2, 5), (3, 6)], benchAt := 1 }) P := by
  apply Exists.intro; apply (h.2.2.2.2 _ 2 5 [(3, 6)] _ _ _ rfl _ _).2.1 <;> decide +kernel
theorem met_BenchAndWaking_11 (h : Obligations.BenchAndWaking) :
    ∃ P, Does (.bringUpStep true 0) (wPwr 3 [] { PwrSt.idle with bring := [(10, 5)], benchAt := 1, stopped := true }) P := by
  apply Exists.intro; apply (h.2.2.2.2 _ 10 5 [] _ _ _ rfl _ _).2.2 <;> decide +kernel
theorem met_SlicesAndPoints_1 (h : Obligations.SlicesAndPoints) :
    ∃ P, Does (.jogSample 95 9 0) (wPwr 0 [(O.sdiLaneMode 95, 1), (O.jogLanePower 95, 2)] PwrSt.idle) P := by
  apply Exists.intro; apply (h.1 _ _ _ _ _ rfl).1 <;> decide +kernel
theorem met_SlicesAndPoints_2 (h : Obligations.SlicesAndPoints) : ∃ P, Does (.jogSample 95 10 0)
    (wPwr 0 [(O.sdiLaneMode 95, 1), (O.jogLanePower 95, 1), (O.jogLanePowerState 95, 1), (O.jogJogAuto 95, 1)] PwrSt.idle) P := by
  apply Exists.intro; apply (h.1 _ _ _ _ _ rfl).2 <;> decide +kernel
theorem met_SlicesAndPoints_2b (h : Obligations.SlicesAndPoints) : ∃ P, Does (.jogSample 95 10 0)
    (wPwr 2 [(O.sdiLaneMode 95, 1), (O.jogLanePower 95, 1), (O.jogLanePowerState 95, 1), (O.jogJogWake 95, 1), (O.pwrWakeMask, 64)] PwrSt.idle) P := by
  apply Exists.intro; apply (h.1 _ _ _ _ _ rfl).2 <;> decide +kernel
theorem met_SlicesAndPoints_3 (h : Obligations.SlicesAndPoints) : ∃ P, Does (.jogReturnExpiry 31 0)
    { wPwr 0 [(O.sdiLaneMode 31, 1), (O.jogLanePower 31, 1), (O.jogLanePowerState 31, 3), (O.jogJogReturn 31, 1)] { PwrSt.idle with quiet := [(31, 7)] }
      with fuses := { Fuses.blank with variant := .t } } P := by
  apply Exists.intro; apply h.2.1 _ _ _ _ rfl <;> decide +kernel
theorem met_SlicesAndPoints_4 (h : Obligations.SlicesAndPoints) :
    ∃ P, Does (.procPointStep true 0) (wPwr 0 [] { PwrSt.idle with point := some ⟨1, true, 5, 1⟩ }) P := by
  apply Exists.intro; apply (h.2.2.1 ⟨1, true, 5, 1⟩ _ _ _ rfl _).1 <;> decide +kernel
theorem met_SlicesAndPoints_5 (h : Obligations.SlicesAndPoints) :
    ∃ P, Does (.procPointStep true 0) (wPwr 0 [] { PwrSt.idle with point := some ⟨1, false, 5, 1⟩ }) P := by
  apply Exists.intro; apply (h.2.2.1 ⟨1, false, 5, 1⟩ _ _ _ rfl _).2.1 <;> decide +kernel
theorem met_SlicesAndPoints_6 (h : Obligations.SlicesAndPoints) :
    ∃ P, Does (.procPointStep false 0) (wPwr 0 [] { PwrSt.idle with point := some ⟨1, false, 5, 1⟩ }) P := by
  apply Exists.intro; apply (h.2.2.1 ⟨1, false, 5, 1⟩ _ _ _ rfl _).2.2 <;> decide +kernel
/-- Two converters pinned to one engine do not fit. -/
theorem met_SlicesAndPoints_7 (h : Obligations.SlicesAndPoints) :
    ∃ P, Does (.fselWrite 2) (wPwr 0 [(O.procManualDvfs, 1), (O.convOutput 0, 3), (O.convOutput 1, 4), (O.convEngine 0, 0), (O.convEngine 1, 0)] PwrSt.idle) P := by
  apply Exists.intro; apply (h.2.2.2 2 _ _ _ _).1 <;> decide +kernel
theorem met_SlicesAndPoints_8 (h : Obligations.SlicesAndPoints) :
    ∃ P, Does (.fselWrite 2) (wPwr 0 [(O.procManualDvfs, 1)] { PwrSt.idle with vact := 2 }) P := by
  apply Exists.intro; apply (h.2.2.2 2 _ _ _ _).2.1 <;> decide +kernel
theorem met_SlicesAndPoints_9 (h : Obligations.SlicesAndPoints) :
    ∃ P, Does (.fselWrite 2) (wPwr 0 [(O.procManualDvfs, 1)] { PwrSt.idle with vact := 1 }) P := by
  apply Exists.intro; apply (h.2.2.2 2 _ _ _ _).2.2.1 <;> decide +kernel
theorem met_SlicesAndPoints_10 (h : Obligations.SlicesAndPoints) :
    ∃ P, Does (.vselWrite 2) (wPwr 0 [(O.procManualDvfs, 1)] { PwrSt.idle with vact := 1, fact := 2 }) P := by
  apply Exists.intro; apply (h.2.2.2 2 _ _ _ _).2.2.2.1 <;> decide +kernel
theorem met_SlicesAndPoints_11 (h : Obligations.SlicesAndPoints) :
    ∃ P, Does (.vselWrite 0) (wPwr 0 [(O.procManualDvfs, 1)] { PwrSt.idle with vact := 1, fact := 1 }) P := by
  apply Exists.intro; apply (h.2.2.2 0 _ _ _ _).2.2.2.2 <;> decide +kernel
theorem met_EnergyAndHeat_1 (h : Obligations.EnergyAndHeat) :
    ∃ P, Does (.monitorChange 3 true 0) (wPwr 0 [(O.monFunction 3, 7)] PwrSt.idle) P := by
  apply Exists.intro; apply h.1 _ _ _ _ _ rfl; decide +kernel
theorem met_EnergyAndHeat_2 (h : Obligations.EnergyAndHeat) :
    ∃ P, Does (.pmbusRead [(31, 800, 3, 2400, 0x8000)] 0) (wPwr 0 [(O.railPmbusAddr 31, 0x10)] PwrSt.idle) P := by
  apply Exists.intro; apply h.2.1 _ _ _ _ rfl; decide +kernel
theorem met_EnergyAndHeat_2b (_ : Obligations.EnergyAndHeat) :
    31 ∈ (wPwr 0 [(O.railPmbusAddr 31, 0x10)] PwrSt.idle).rails ∧ (wPwr 0 [(O.railPmbusAddr 31, 0x10)] PwrSt.idle).rails = [31] := by
  decide +kernel
theorem met_EnergyAndHeat_3 (h : Obligations.EnergyAndHeat) :
    ∃ P, Does (.pmbusRead [] 0) (wPwr 0 [(O.railPmbusAddr 31, 0x10)] { PwrSt.idle with miss := [(31, 2)] }) P := by
  apply Exists.intro; apply h.2.1 _ _ _ _ rfl; decide +kernel
theorem met_EnergyAndHeat_3b (_ : Obligations.EnergyAndHeat) :
    let u := wPwr 0 [(O.railPmbusAddr 31, 0x10)] { PwrSt.idle with miss := [(31, 2)] }
    u.rails.filter (fun j => tget zeroNat u.pwr.miss j == 2) = [31] := by
  decide +kernel
theorem met_EnergyAndHeat_4 (h : Obligations.EnergyAndHeat) :
    ∃ P, Does (.ledgerSecond 200000 0) (wPwr 0 [(O.ledMeasureSource, 1), (O.ledBudget, 100000)] PwrSt.idle) P := by
  apply Exists.intro; apply h.2.2.1 _ _ _ _ rfl <;> decide +kernel
theorem met_EnergyAndHeat_5 (h : Obligations.EnergyAndHeat) :
    ∃ P, Does (.thermalRead (List.replicate 18 (136 * 65536)) 0) (wPwr 0 [] PwrSt.idle) P := by
  apply Exists.intro; apply h.2.2.2 _ _ _ _ rfl; decide +kernel

end Power

/-! ### Update -/

namespace Update

/-- The device with its update block changed. -/
def wUpd (l : List (Nat × Nat)) (f : UpdSt → UpdSt) : State :=
  let s := w1 l
  { s with upd := f s.upd }
/-- A valid key of ROLE 3 that may be used in Field. -/
def wOwner : KeySlot := { keyDefault 9 with state := 1, role := 3, cycles := 4, masters := 255, key := [1, 2, 3] }
/-- A key waiting to be verified since tick 0. -/
def wPend : PendKey := ⟨5, 8, 3, 3, 4, 1, [9], 0⟩
theorem met_KeyStore_1 (h : Obligations.KeyStore) : ∃ P, Does (.pendingKeyTimeout 255 (600 * 800000000))
    (wUpd [] (fun u => { u with keys := [(255, { wOwner with state := 2, pend := some wPend })] })) P := by
  apply Exists.intro; apply h.1 _ wPend _ _ _ rfl <;> decide +kernel
theorem met_KeyStore_2 (h : Obligations.KeyStore) : ∃ P, Does (.keyPatrol [8] 0)
    (wUpd [] (fun u => { u with keys := [(8, { keyDefault 8 with state := 1 }), (9, wOwner), (10, { wOwner with parent := 9 })] })) P := by
  apply Exists.intro; apply (h.2.1 8 _ _ _ rfl).1; decide +kernel
theorem met_KeyStore_3 (h : Obligations.KeyStore) : ∃ P, Does (.keyPatrol [255] 0) (wUpd [] id) P := by
  apply Exists.intro; apply (h.2.1 255 _ _ _ rfl).2 <;> decide +kernel
theorem met_KeyStore_4 (h : Obligations.KeyStore) : ∃ P, Does (.keyStoreAccessRefused 7 false 0) (wUpd [] (fun u => { u with lc := 2 })) P := by
  apply Exists.intro; apply (h.2.2.1 7 false 0 _).2; decide +kernel
theorem met_KeyStore_4b (h : Obligations.KeyStore) : ∃ P, Does (.keyStoreAccessRefused 3 false 2) (wUpd [] id) P := by
  apply Exists.intro; apply (h.2.2.1 3 false 2 _).2; decide +kernel
theorem met_KeyStore_4c (h : Obligations.KeyStore) : ∃ P, Does (.keyStoreAccessRefused 1 false 1) (wUpd [] id) P := by
  apply Exists.intro; apply (h.2.2.1 1 false 1 _).2; decide +kernel
theorem met_KeyStore_5 (h : Obligations.KeyStore) : ∃ P, Does (.keyStoreAccessRefused 7 true 3) (wUpd [] (fun u => { u with lc := 0 })) P := by
  apply Exists.intro; apply (h.2.2.1 7 true 3 _).1; decide +kernel
theorem met_KeyStore_6 (h : Obligations.KeyStore) : ∃ P, Does (.attestReportReady 0) (wUpd [] (fun u => { u with attests := [(67, [1, 2], 5), (4, [], 6)] })) P := by
  apply Exists.intro; apply h.2.2.2 67 5 [1, 2] [(4, [], 6)] _ _ _ rfl; decide +kernel
theorem met_FieldUpdate_1 (h : Obligations.FieldUpdate) : ∃ P, Does (.imageVerified 0)
    (wUpd [] (fun u => { u with ust := 2, slots := [(1, ⟨5, 0, ⟨0, 0, 0, 0, 0, []⟩, [1, 2, 3]⟩)] })) P := by
  apply Exists.intro; apply h.1 _ _ _ rfl; decide +kernel
/-- An image slot with another image in it. -/
def wImg (x : Nat) : ImgSlot := ⟨x, 0, ⟨7, 3, 1, 1, 1, []⟩, [1, 2, 3]⟩
theorem met_FieldUpdate_2 (h : Obligations.FieldUpdate) : ∃ P, Does (.pauseBegin 0)
    (wUpd [] (fun u => { u with act := some ⟨0, 0, 1, 0, 0, false⟩, slots := [(1, wImg 2)] })) P := by
  apply Exists.intro; apply (h.2.1 ⟨0, 0, 1, 0, 0, false⟩ _ _ _ rfl _).1 <;> decide +kernel
theorem met_FieldUpdate_3 (h : Obligations.FieldUpdate) : ∃ P, Does (.pauseEnd 0)
    (wUpd [] (fun u => { u with act := some ⟨0, 0, 1, 0, 0, false⟩, slots := [(1, wImg 2)], active := 1, paused := true })) P := by
  apply Exists.intro; apply (h.2.1 ⟨0, 0, 1, 0, 0, false⟩ _ _ _ rfl _).2 <;> decide +kernel
theorem met_FieldUpdate_4 (h : Obligations.FieldUpdate) : ∃ P, Does (.pauseBegin 0)
    (wUpd [] (fun u => { u with trial := true, fallBack := 2, booted := 1, active := 1, slots := [(1, wImg 2), (0, wImg 1)] })) P := by
  apply Exists.intro; apply h.2.2.1 2 _ _ _ rfl <;> decide +kernel
theorem met_FieldUpdate_5 (h : Obligations.FieldUpdate) : ∃ P, Does (.trialConfirmation true 8000000000)
    (wUpd [] (fun u => { u with trial := true, trialTime := 60, booted := 1, active := 1, slots := [(1, wImg 2), (0, wImg 1)] })) P := by
  apply Exists.intro
  apply (h.2.2.2.1 _ _ _ rfl _ _).1
  · decide +kernel
  · intro n v hm
    have : ((wUpd [] (fun u => { u with trial := true, trialTime := 60, booted := 1, active := 1, slots := [(1, wImg 2), (0, wImg 1)] })).toTick 8000000000).heldList = [] := by
      decide +kernel
    rw [this] at hm; cases hm
  all_goals decide +kernel
theorem met_FieldUpdate_6 (h : Obligations.FieldUpdate) : ∃ P, Does (.confirmLeftExpiry 8000000000)
    (wUpd [] (fun u => { u with trial := true, trialTime := 10, booted := 1, active := 1, slots := [(1, wImg 2), (0, wImg 1)] })) P := by
  apply Exists.intro; apply (h.2.2.2.1 _ _ _ rfl _ _).2.2 <;> decide +kernel
theorem met_FieldUpdate_6b (h : Obligations.FieldUpdate) : ∃ P, Does (.trialConfirmation false 0)
    (wUpd [] (fun u => { u with trial := true, trialTime := 10, booted := 1, active := 1, slots := [(1, wImg 2), (0, wImg 1)] })) P :=
  ⟨_, (h.2.2.2.1 _ _ _ rfl (by decide +kernel) (by decide +kernel)).2.1⟩
theorem met_FieldUpdate_7 (h : Obligations.FieldUpdate) : ∃ P, Does (.recoveryGo 0x80000000 [1, 2])
    (wUpd [(O.startStartPhase, 2)] (fun u => { u with stage := 4 })) P := by
  apply Exists.intro; apply h.2.2.2.2.1 <;> decide +kernel
theorem met_FieldUpdate_8 (h : Obligations.FieldUpdate) : ∃ P, Does (.recoveryDone 0)
    (wUpd [(O.startStartPhase, 2)] (fun u => { u with stage := 4, recov := some ([1, 2], 5) })) P := by
  apply Exists.intro; apply h.2.2.2.2.2 [1, 2] 5 _ _ _ rfl; decide +kernel
theorem met_ResetAndRestart_1 (h : Obligations.ResetAndRestart) : ∃ P, Does (.resetAssert 0)
    ((wUpd [(O.startStartRetries, 2)] (fun u => { u with lc := 2, rollback := 3, slots := [(1, wImg 1)], active := 1 })).setReg 0x100 7) P :=
  ⟨_, h.1 _ _⟩
theorem met_ResetAndRestart_2 (h : Obligations.ResetAndRestart) : ∃ P, Does (.resetRelease false) State.reset P := by
  apply Exists.intro; apply h.2.1; decide +kernel
theorem met_ResetAndRestart_3 (h : Obligations.ResetAndRestart) : ∃ P, Does (.startRestart 0)
    (wUpd [(O.startStartRetries, 255), (O.startStartPhase, 3)] (fun u => { u with restartAt := 800000001 })) P := by
  apply Exists.intro; apply h.2.2.1 _ _ _ rfl <;> decide +kernel
theorem met_ResetAndRestart_4 (h : Obligations.ResetAndRestart) : ∃ P, Does (.subordinateTimeout 0)
    (wUpd [(O.startStartPhase, 3)] (fun u => { u with loadAt := 400000000 })) P := by
  apply Exists.intro; apply ((h.2.2.2 _ _ _ rfl _).1 _ _ _).1 <;> decide +kernel
theorem met_ResetAndRestart_5 (h : Obligations.ResetAndRestart) : ∃ P, Does (.subordinateTimeout 0)
    (wUpd [(O.startStartPhase, 3), (O.startStartRetries, 2)] (fun u => { u with loadAt := 400000000, reloaded := true })) P := by
  apply Exists.intro; apply ((h.2.2.2 _ _ _ rfl _).1 _ _ _).2.1 <;> decide +kernel
theorem met_ResetAndRestart_6 (h : Obligations.ResetAndRestart) : ∃ P, Does (.subordinateTimeout 0)
    (wUpd [(O.startStartPhase, 3), (O.startStartRetries, 3)] (fun u => { u with loadAt := 400000000, reloaded := true })) P := by
  apply Exists.intro; apply ((h.2.2.2 _ _ _ rfl _).1 _ _ _).2.2 <;> decide +kernel
theorem met_ResetAndRestart_7 (h : Obligations.ResetAndRestart) : ∃ P, Does (.startReadyTimeout 0)
    (wUpd [(O.startStartPhase, 1), (O.startStartRetries, 2)] id) P := by
  apply Exists.intro; apply (h.2.2.2 _ _ _ rfl _).2 <;> decide +kernel
theorem met_StartPhases_1 (h : Obligations.StartPhases) : ∃ P, Does (.startingBlock [] 0)
    (wUpd [(O.startStartPhase, 2)] (fun u => { u with lc := 4 })) P := by
  apply Exists.intro; apply (h.1 _ _ _ rfl _ _ _ _).1 <;> decide +kernel
theorem met_StartPhases_2 (h : Obligations.StartPhases) : ∃ P, Does (.startingBlock [] 0)
    (wUpd [(O.startStartPhase, 2)] (fun u => { u with lc := 2, slots := [(0, wImg 1)] })) P := by
  apply Exists.intro; apply (h.1 _ _ _ rfl _ _ _ _).2 <;> decide +kernel
theorem met_StartPhases_2b (h : Obligations.StartPhases) : ∃ P, Does (.startingBlock [255] 0)
    (wUpd [(O.startStartPhase, 2)] (fun u => { u with lc := 2, slots := [(0, wImg 1)], keys := [(255, wOwner)] })) P := by
  apply Exists.intro; apply h.2.1 255 _ _ _ rfl <;> decide +kernel
theorem met_StartPhases_2c (h : Obligations.StartPhases) : ∃ P, Does (.startingBlock [] 0)
    (wUpd [(O.startStartPhase, 2)] (fun u => { u with lc := 3, slots := [(0, wImg 1)], keys := [(8, wOwner)] })) P := by
  apply Exists.intro; apply h.2.2.1 _ _ _ rfl <;> decide +kernel
theorem met_StartPhases_3 (h : Obligations.StartPhases) : ∃ P, Does (.loadsComplete [] 0) (wUpd [(O.startStartPhase, 3)] id) P := by
  apply Exists.intro; apply (h.2.2.2.1 _ _ _ rfl _ _).1 <;> decide +kernel
theorem met_StartPhases_4 (h : Obligations.StartPhases) : ∃ P, Does (.readyPhase 0) (wUpd [(O.startStartPhase, 3)] (fun u => { u with loaded := true })) P := by
  apply Exists.intro; apply (h.2.2.2.1 _ _ _ rfl _ _).2 <;> decide +kernel
theorem met_StartPhases_5 (h : Obligations.StartPhases) : ∃ P, Does (.startComplete 0) (wUpd [(O.startStartPhase, 4), (O.pacerPacerState, 2), (O.meshMeshSize, 1)] id) P := by
  apply Exists.intro; apply (h.2.2.2.2 _ _ _ rfl _).1 <;> decide +kernel
theorem met_StartPhases_6 (h : Obligations.StartPhases) : ∃ P, Does (.startWaitExpiry false 0)
    (wUpd [(O.startStartPhase, 4)] (fun u => { u with pacWait := 1, phaseAt := [(4, 1)] })) P := by
  apply Exists.intro; apply (h.2.2.2.2 _ _ _ rfl _).2.1 <;> decide +kernel
theorem met_StartPhases_7 (h : Obligations.StartPhases) : ∃ P, Does (.startWaitExpiry true 0)
    (wUpd [(O.startStartPhase, 4), (O.meshMeshSize, 2)] (fun u => { u with meshWait := 1, phaseAt := [(4, 1)] })) P := by
  apply Exists.intro; apply (h.2.2.2.2 _ _ _ rfl _).2.2 <;> decide +kernel

end Update

/-! ### Block -/

namespace Block

/-- A record that begins a message of the session in slot 4. -/
def wCtx (q : Word) : Ctx := ⟨4, q, true, false, false, .good⟩
/-- A valid key of ROLE 3 that may be used in Field. -/
def wOwner : KeySlot := { keyDefault 9 with state := 1, role := 3, cycles := 4, masters := 255, key := [1, 2, 3] }
/-- The device in Field with these keys. -/
def wField (l : List (Nat × KeySlot)) : State :=
  let s := w1 []
  { s with upd := { s.upd with lc := 2, keys := l } }
/-- The device in the safe state. -/
def wSafe : State :=
  let s := w1 []
  { s with flt := { s.flt with safe := true } }
/-- The session in slot 4 has executed request 7. -/
def wAgain : State := w0.setSess 4 { Session.free with id := 1, role := 3, lastSeq := some 7, cache := [⟨1, 2, 0x4001, 2, 0, [9]⟩] }
/-- A command that waits. -/
def wWaits : State := { w0 with pending := [.nop (wCtx 7)] }
theorem met_StepRunsTheFront (h : Obligations.StepRunsTheFront) : step wWaits = exec (.nop (wCtx 7)) { wWaits with pending := [] } :=
  h _ _ _ rfl
theorem met_IdleBlockTicks (h : Obligations.IdleBlockTicks) : ∃ t, step w0 = .next t ∧ t.tm.ticks = 800000001 := by
  obtain ⟨t, h1, h2, _⟩ := h w0 (by decide +kernel) (by decide +kernel)
  exact ⟨t, h1, h2.trans (by decide +kernel)⟩
theorem met_RepeatedRequestsAreNotExecuted_1 (h : Obligations.RepeatedRequestsAreNotExecuted) : ∃ P, Does (.write (wCtx 7) 0x4001 2 2 [3]) wAgain P := by
  apply Exists.intro; apply h _ _ _ rfl <;> decide +kernel
theorem met_SafeStateRefusesWrites_1 (h : Obligations.SafeStateRefusesWrites) : ∃ P, Does (.write (wCtx 7) 0x4001 5 2 [32]) wSafe P := by
  apply Exists.intro; apply (h _ _ _ _ rfl _).1 <;> first | decide +kernel | (unfold State.begins; decide +kernel)
theorem met_SafeStateRefusesWrites_2 (h : Obligations.SafeStateRefusesWrites) : ∃ P, Does (.enableCommit (wCtx 7) [enRec 0x4FFF 1] false) wSafe P := by
  apply Exists.intro; apply ((h (wCtx 7) wSafe _ (by unfold State.begins; decide +kernel) rfl (by decide +kernel)).2.1 0x4FFF _ _ _ _ _).1 <;> decide +kernel
theorem met_SafeStateRefusesWrites_3 (h : Obligations.SafeStateRefusesWrites) : ∃ P, Does (.enableDiscard (wCtx 7) 0xDFFF) wSafe P := by
  apply Exists.intro; apply ((h (wCtx 7) wSafe _ (by unfold State.begins; decide +kernel) rfl (by decide +kernel)).2.1 0xDFFF _ _ _ _ _).2 <;> decide +kernel
theorem met_SafeStateRefusesWrites_4 (h : Obligations.SafeStateRefusesWrites) : ∃ P, Does (.read (wCtx 7) 0x4001 2) wSafe P := by
  apply Exists.intro; apply (h (wCtx 7) wSafe _ (by unfold State.begins; decide +kernel) rfl (by decide +kernel)).2.2 <;> decide +kernel
/-- Two keys, the second wrapped by the first. -/
def wTwo : State := wField [(8, { wOwner with parent := 0 }), (255, { wOwner with parent := 8 })]
theorem met_LastOwnerKeyStays_1 (h : Obligations.LastOwnerKeyStays) : ∃ P, Does (.invalidate (wCtx 7) 8 1) wTwo P := by
  apply Exists.intro
  apply (h (wCtx 7) wTwo _ (.num 1) 8 1 (by unfold State.begins; decide +kernel) rfl _ _ _ _).1
  · have hk : ∀ m ∈ List.range 256, ((wTwo.key m).state = 1 ∨ (wTwo.key m).state = 2) → (wTwo.key m).role = 3 →
        bitOf (wTwo.key m).cycles 2 = true → (wTwo.key m).masters % 8 ≠ 0 → m = 8 ∨ m ∈ wTwo.descendants 8 := by decide +kernel
    exact fun m hm => hk m (List.mem_range.2 hm)
  all_goals decide +kernel
theorem met_LastOwnerKeyStays_2 (h : Obligations.LastOwnerKeyStays) : ∃ P, Does (.invalidate (wCtx 7) 255 1)
    wTwo P := by
  apply Exists.intro
  apply (h (wCtx 7) wTwo _ (.num 1) 255 1 (by unfold State.begins; decide +kernel) rfl _ _ _ _).2 8 <;>
    decide +kernel
theorem met_EventSources (h : Obligations.EventSources) : 607 < 32 * 20 ∧ (w0.raise 0xF021 []).regs = w0.regs :=
  ⟨h.2.1 0xE0A0 607 (by decide +kernel), (h.2.2 0xF021 [] w0 (by decide +kernel) (by decide +kernel)).2.1⟩
theorem met_StepsKeepTheCanonicalForm (h : Obligations.StepsKeepTheCanonicalForm) : ∃ t, step State.reset = .next t ∧ t.canonical = true := by
  obtain ⟨t, h1, h2, _⟩ := h State.reset (by decide +kernel)
  exact ⟨t, h1, h2⟩
theorem met_EveryCommandIsCarriedOut (h : Obligations.EveryCommandIsCarriedOut) : ∃ t, exec (.resetAssert 0) State.reset = .next t ∧ t.canonical = true := by
  obtain ⟨t, h1, _, _, h2⟩ := h (.resetAssert 0) State.reset
  exact ⟨t, h1, h2 (by decide +kernel)⟩
theorem met_CommandsLeaveTheRest (h : Obligations.CommandsLeaveTheRest) : ∃ t, exec .d3hotEntry w0 = .next t ∧ Part.mem.Same w0 t :=
  ⟨_, rfl, h .d3hotEntry w0 _ rfl .mem (by decide +kernel)⟩

end Block

end Sys2Proof.Tests
end

/-! PROOFS. The register window and the host interface: the bits of a written word, where Window A keeps a word, what an event leaves alone,
and the statements O23 and O26 (00_scope.md, 13_host_interface.md). -/

section

/-! ### Bits of a word (R11) -/

namespace Sys2Proof.Machine

theorem bitOf_eq_testBit (w b : Nat) : bitOf w b = w.testBit b := by
  rw [bitOf, Nat.testBit_eq_decide_div_mod_eq]
  rfl

/-- A bit that both words have stands in the first. -/
theorem and_mod_two_le (w m : Nat) : (w &&& m) % 2 ≤ w % 2 := by
  have h := (Nat.and_mod_two_eq_one (a := w) (b := m)).mp
  omega

theorem clearBits_div_two (w m : Nat) : clearBits w m / 2 = clearBits (w / 2) (m / 2) := by
  have hle : w &&& m ≤ w := Nat.and_le_left
  have hlow := and_mod_two_le w m
  rw [clearBits, clearBits, ← Nat.and_div_two]
  omega

theorem clearBits_mod_two (w m : Nat) : clearBits w m % 2 = 1 ↔ w % 2 = 1 ∧ ¬ m % 2 = 1 := by
  have hle : w &&& m ≤ w := Nat.and_le_left
  have hlow := and_mod_two_le w m
  have hbit := Nat.and_mod_two_eq_one (a := w) (b := m)
  rw [clearBits]
  omega

/-- A cleared word keeps a bit where the mask has 0. -/
theorem bitOf_clearBits (w m b : Nat) : bitOf (clearBits w m) b = (bitOf w b && !bitOf m b) := by
  simp only [bitOf_eq_testBit]
  induction b generalizing w m with
  | zero => simp only [Nat.testBit_zero, clearBits_mod_two, Bool.decide_and, decide_not]
  | succ b ih => simp only [Nat.testBit_succ, clearBits_div_two, ih]

theorem bitOf_keepBits (v m b : Nat) : bitOf (keepBits v m) b = (bitOf v b && bitOf m b) := by
  simp only [bitOf_eq_testBit, keepBits, Nat.testBit_and]

/-- A stored word is 32 bits wide: its bits below 32 are those that were written. -/
theorem bitOf_word {b : Nat} (h : b < 32) (w : Nat) : bitOf (w % 2 ^ 32) b = bitOf w b := by
  simp only [bitOf_eq_testBit, Nat.testBit_mod_two_pow, h, decide_true, Bool.true_and]

/-- The low bit of a word that was set with its field [0:0]. -/
theorem bitOf_setFld_zero (w v : Nat) : bitOf (setFld w 0 0 v % 2 ^ 32) 0 = bitOf v 0 := by
  simp only [bitOf, setFld, fld, pow_zero, Nat.div_one, Nat.reduceAdd, Nat.reduceSub, pow_one, mul_one]
  congr 1
  omega

end Sys2Proof.Machine
end

section

/-! ### What an event leaves alone (R421) -/

namespace Sys2Proof.Machine

/-- The words in which events are kept: EVT_PENDING, EVT_ENABLE and EVT_CTRL of a group, EVT_COUNT of a source (Table 14-8). -/
def EventWord (off : Nat) : Prop := 0x050000 ≤ off ∧ off < 0x061000

theorem rEvtPending_eventWord {g : Nat} (h : g < 20) : EventWord (rEvtPending g) := by
  unfold EventWord rEvtPending; omega

theorem rEvtCount_eventWord {n : Nat} (h : n / 32 < 20) : EventWord (rEvtCount n) := by
  unfold EventWord rEvtCount; omega

theorem reg_evtSignal_of_not_eventWord (s : State) {n off : Nat} (hn : n / 32 < 20) (h : ¬ EventWord off) :
    (s.evtSignal n).reg off = s.reg off := by
  have hne : off ≠ rEvtPending (n / 32) := fun e => h (e ▸ rEvtPending_eventWord hn)
  have hbit : (s.setBit (rEvtPending (n / 32)) (n % 32)).reg off = s.reg off := (reg_setBit ..).trans (if_neg hne)
  unfold State.evtSignal
  dsimp only
  split
  · rw [reg_signal]; exact hbit
  · exact hbit

/-- An event changes no Window A word but its own. -/
theorem reg_raise_of_not_eventWord (s : State) (code : Nat) (b : List Byte) {off : Nat} (h : ¬ EventWord off) :
    (s.raise code b).reg off = s.reg off := by
  unfold State.raise State.evtCountSignal
  rw [reg_record]
  split
  · rfl
  · rename_i n hn
    have hg := evtSource_lt hn
    have hne : off ≠ rEvtCount n := fun e => h (e ▸ rEvtCount_eventWord hg)
    have hcount : (s.rcAdd (rEvtCount n) 31 0).reg off = s.reg off := (reg_rcAdd ..).trans (if_neg hne)
    dsimp only
    split
    · split
      · rw [reg_evtSignal_of_not_eventWord _ hg h]; exact hcount
      · exact hcount
    · exact hcount

/-- The host interface without what a signal changes: the pending vectors and the times of their messages (R391). -/
def HifSt.unsignalled (h : HifSt) : HifSt := { h with pba := [], lastMsg := [] }

theorem signal_hif_unsignalled (s : State) (v : Nat) : (s.signal v).hif.unsignalled = s.hif.unsignalled := by
  unfold State.signal State.sendVec
  split <;> rfl

theorem evtSignal_hif_unsignalled (s : State) (n : Nat) : (s.evtSignal n).hif.unsignalled = s.hif.unsignalled := by
  unfold State.evtSignal
  dsimp only
  split
  · rw [signal_hif_unsignalled]; rfl
  · rfl

theorem record_hif (s : State) (c : Nat) (b : List Byte) (x y : Nat) : (s.record c b x y).hif = s.hif := by
  unfold State.record
  dsimp only
  split_ifs <;> rfl

/-- An event changes nothing of the host interface but what its signal changes. -/
theorem raise_hif_unsignalled (s : State) (code : Nat) (b : List Byte) : (s.raise code b).hif.unsignalled = s.hif.unsignalled := by
  unfold State.raise State.evtCountSignal
  rw [record_hif]
  split
  · rfl
  · dsimp only
    split
    · split
      · rw [evtSignal_hif_unsignalled, rcAdd_hif]
      · rfl
    · rfl

/-- A channel in progress, a translation, D3hot, the MSI-X enable and the link are none of what a signal changes. -/
theorem HifSt.of_unsignalled_eq {h k : HifSt} (e : h.unsignalled = k.unsignalled) :
    h.dma = k.dma ∧ h.tlb = k.tlb ∧ h.d3hot = k.d3hot ∧ h.msixEnabled = k.msixEnabled ∧ h.speed = k.speed ∧ h.width = k.width :=
  ⟨(congrArg HifSt.dma e :), (congrArg HifSt.tlb e :), (congrArg HifSt.d3hot e :), (congrArg HifSt.msixEnabled e :),
    (congrArg HifSt.speed e :), (congrArg HifSt.width e :)⟩

/-! ### Events counted by the second (R388) -/

theorem reg_countSecond_of_not_eventWord (s : State) (code i n : Nat) (b : List Byte) {off : Nat} (h : ¬ EventWord off) :
    (s.countSecond code i n b).reg off = s.reg off := by
  show (s.endSecond (code * 2 ^ 16 + i)).reg off = s.reg off
  unfold State.endSecond
  split
  · rfl
  · split
    · rfl
    · exact reg_raise_of_not_eventWord _ _ _ h

theorem obj_countSecond (s : State) (code i n : Nat) (b : List Byte) (k : Nat) : (s.countSecond code i n b).obj k = s.obj k := by
  have hk := State_countSecond_keeps (by decide : maskIn 1930 1930 = true) (Keeps.refl 1930 s) code i n b
  rw [State.obj, (hk.same .objs rfl).1, hk.fuses, State.obj]

theorem byte_countSecond (s : State) (code i n : Nat) (b : List Byte) (a : Nat) : (s.countSecond code i n b).byte a = s.byte a := by
  have hk := State_countSecond_keeps (by decide : maskIn 1930 1930 = true) (Keeps.refl 1930 s) code i n b
  rw [State.byte, hk.same .mem rfl, State.byte]

/-! ### Access errors (R10, R388) -/

/-- HIF_ERR_ADDR holds the kind and the offset of the access. -/
theorem reg_accessErr_addr (s : State) {kind off : Nat} (hk : kind < 4) (ho : off < 2 ^ 30) :
    (s.accessErr kind off).reg 8 = kind * 2 ^ 30 + off := by
  rw [State.accessErr, reg_countSecond_of_not_eventWord _ _ _ _ _ (by unfold EventWord; omega), reg_rcAdd, if_neg (by decide),
    reg_setReg, if_pos rfl]
  omega

/-- ACCESS_ERROR of HIF_STATUS is set. -/
theorem bitOf_accessErr_status (s : State) (kind off : Nat) : bitOf ((s.accessErr kind off).reg 4) 0 = true := by
  rw [State.accessErr, reg_countSecond_of_not_eventWord _ _ _ _ _ (by unfold EventWord; omega), reg_rcAdd, if_neg (by decide),
    reg_setReg, if_neg (by decide), reg_setBit, if_pos rfl, bitOf_setFld_zero]
  rfl

@[simp] theorem obj_accessErr (s : State) (kind off k : Nat) : (s.accessErr kind off).obj k = s.obj k := by
  rw [State.accessErr, obj_countSecond, obj_rcAdd, obj_setReg, obj_setBit]

@[simp] theorem byte_accessErr (s : State) (kind off a : Nat) : (s.accessErr kind off).byte a = s.byte a := by
  rw [State.accessErr, byte_countSecond, byte_rcAdd, byte_setReg, byte_setBit]

end Sys2Proof.Machine
end

section

/-! ### Where Window A keeps a word (R10, R11) -/

namespace Sys2Proof.Machine

/-- An offset outside a table is none of its entries. -/
theorem inTable_eq_none {base size n off : Nat} (h : off < base ∨ base + size * n ≤ off) : inTable base size n off = none :=
  if_neg (by omega)

/-- Byte r of entry i of a table. -/
theorem inTable_entry {base size n i r : Nat} (hi : i < n) (hr : r < size) : inTable base size n (base + size * i + r) = some (i, r) := by
  have hsub : base + size * i + r - base = r + size * i := by omega
  have hend : size * i + size ≤ size * n := by rw [← Nat.mul_succ]; exact Nat.mul_le_mul_left size hi
  rw [inTable, if_pos (by omega), hsub, Nat.add_mul_div_left _ _ (by omega), Nat.add_mul_mod_self_left, Nat.mod_eq_of_lt hr,
    Nat.div_eq_of_lt hr, Nat.zero_add]

theorem atByte_eq_false {base size n r off : Nat} (h : off < base ∨ base + size * n ≤ off) : atByte base size n r off = false := by
  rw [atByte, inTable_eq_none h]

theorem atByte_entry {base size n i r : Nat} (hi : i < n) (hr : r < size) : atByte base size n r (base + size * i + r) = true := by
  rw [atByte, inTable_entry hi hr]
  exact beq_self_eq_true r

theorem sizeOk_word {off : Nat} (h : off % 4 = 0) : sizeOk off 4 = true := by
  rw [sizeOk, h]
  rfl

/-- A size or alignment that R10 does not allow. -/
theorem sizeOk_eq_false {off n : Nat} (h : n ≠ 4 ∧ n ≠ 8 ∨ off % n ≠ 0) : sizeOk off n = false := by
  simp only [sizeOk, Bool.and_eq_false_iff, Bool.or_eq_false_iff, beq_eq_false_iff_ne]
  exact h

/-! ### Bytes of a buffer -/

theorem length_leBytes (n v : Nat) : (leBytes n v).length = n := by
  induction n generalizing v with
  | zero => rfl
  | succ n ih => rw [leBytes, List.length_cons, ih]

/-- Byte i of a number, least significant first. -/
theorem toNat_getD_leBytes {n i : Nat} (h : i < n) (v : Nat) : ((leBytes n v).getD i 0).toNat = v / 256 ^ i % 256 := by
  induction n generalizing v i with
  | zero => omega
  | succ n ih =>
    cases i with
    | zero => simp only [leBytes, List.getD_cons_zero, BitVec.toNat_ofNat, pow_zero, Nat.div_one, Nat.reducePow]
    | succ i => rw [leBytes, List.getD_cons_succ, ih (by omega), Nat.div_div_eq_div_mul, pow_succ, Nat.mul_comm]

theorem byte_setBytesAt_of_lt (s : State) {a x : Nat} (h : x < a) (l : List Byte) : (s.setBytesAt a l).byte x = s.byte x := by
  induction l generalizing s a with
  | nil => rfl
  | cons b l ih => rw [State.setBytesAt, ih _ (by omega), byte_setByte, if_neg (by omega)]

theorem byte_setBytesAt_of_ge (s : State) {a x : Nat} (l : List Byte) (h : a + l.length ≤ x) : (s.setBytesAt a l).byte x = s.byte x := by
  induction l generalizing s a with
  | nil => rfl
  | cons b l ih =>
    rw [List.length_cons] at h
    rw [State.setBytesAt, ih _ (by omega), byte_setByte, if_neg (by omega)]

theorem byte_setBytesAt_add (s : State) (a : Nat) {i : Nat} (l : List Byte) (h : i < l.length) :
    (s.setBytesAt a l).byte (a + i) = l.getD i 0 := by
  induction l generalizing s a i with
  | nil => exact absurd h (Nat.not_lt_zero i)
  | cons b l ih =>
    cases i with
    | zero => rw [State.setBytesAt, byte_setBytesAt_of_lt _ (by omega), Nat.add_zero, byte_setByte, if_pos rfl, List.getD_cons_zero]
    | succ i => rw [State.setBytesAt, Nat.add_comm i 1, ← Nat.add_assoc, ih _ _ (Nat.lt_of_succ_lt_succ h), Nat.add_comm 1 i, List.getD_cons_succ]

theorem setBytesAt_keeps_self (s : State) (a : Nat) (l : List Byte) : Keeps 4 s (s.setBytesAt a l) :=
  setBytesAt_keeps (by decide) l (Keeps.refl 4 s) a

theorem reg_setBytesAt (s : State) (a : Nat) (l : List Byte) (off : Nat) : (s.setBytesAt a l).reg off = s.reg off := by
  rw [State.reg, (setBytesAt_keeps_self s a l).same .regs rfl, State.reg]

theorem obj_setBytesAt (s : State) (a : Nat) (l : List Byte) (k : Nat) : (s.setBytesAt a l).obj k = s.obj k := by
  rw [State.obj, ((setBytesAt_keeps_self s a l).same .objs rfl).1, (setBytesAt_keeps_self s a l).fuses, State.obj]

/-! ### What a write of one word does -/

/-- RECOVERY_ADDR stores what is written. -/
theorem writeWord_recoveryAddr (s : State) (v : Nat) : s.writeWord 0x000108 v = s.setReg 0x000108 (keepBits v 0xFFFFFFFF) := rfl

/-- From the take ring entries up to the Stride registers no write acts: it stores bytes, clears W1C bits or stores fields. -/
theorem writeWord_of_passive (s : State) {off : Nat} (h : 0x300000 ≤ off) (h' : off < 0x40F000) (v : Nat) :
    s.writeWord off v = if off < 0x380000 then s.setBytesAt off (leBytes 4 v)
      else if w1cMask off ≠ 0 then s.setReg off (clearBits (s.reg off) (keepBits v (w1cMask off)))
      else if rwMask off ≠ 0 then s.setReg off (keepBits v (rwMask off)) else s := by
  have hbytes : ((memWord off && decide (off < 0x100000) && decide (off % 0x20000 < 0x10000)) ||
      decide (0x300000 ≤ off ∧ off < 0x380000)) = true ↔ off < 0x380000 := by
    have hlow : decide (off < 0x100000) = false := decide_eq_false (by omega)
    rw [hlow, Bool.and_false, Bool.false_and, Bool.false_or, decide_eq_true_eq, and_iff_right h]
  unfold State.writeWord
  rw [inTable_eq_none (by omega), inTable_eq_none (by omega), inTable_eq_none (by omega), inTable_eq_none (by omega),
    atByte_eq_false (by omega), atByte_eq_false (by omega)]
  dsimp only
  rw [if_neg (by omega), if_neg (by omega), if_neg (by omega), if_neg Bool.false_ne_true, if_neg Bool.false_ne_true, if_neg (by omega),
    if_neg (by omega), if_neg (by omega), if_neg (by omega), if_neg (by omega), if_neg (by omega)]
  simp only [hbytes]

/-- The write of a word of the take ring entries. -/
theorem writeWord_takeRing (s : State) {off : Nat} (h : 0x300000 ≤ off) (h' : off < 0x380000) (v : Nat) :
    s.writeWord off v = s.setBytesAt off (leBytes 4 v) := by
  rw [writeWord_of_passive s h (by omega), if_pos h']

/-- SDI_EVT_p holds twelve W1C bits (Table 3-8). -/
theorem w1cMask_sdiEvt (p : Fin 96) : w1cMask (0x408008 + 16 * p.val) = 0xFFF := by
  have hoff : 0x408008 + 16 * p.val = 0x408000 + 0x10 * p.val + 8 := by omega
  have hentry : atByte 0x408000 0x10 96 8 (0x408008 + 16 * p.val) = true := by
    rw [hoff]; exact atByte_entry p.isLt (by decide)
  unfold w1cMask
  rw [if_neg (by omega), if_neg (by omega), atByte_eq_false (by omega), atByte_eq_false (by omega), if_neg Bool.false_ne_true,
    if_neg Bool.false_ne_true, if_pos hentry]

theorem writeWord_sdiEvt (s : State) (p : Fin 96) (v : Nat) : s.writeWord (0x408008 + 16 * p.val) v =
    s.setReg (0x408008 + 16 * p.val) (clearBits (s.reg (0x408008 + 16 * p.val)) (keepBits v 0xFFF)) := by
  rw [writeWord_of_passive s (by omega) (by omega), if_neg (by omega), w1cMask_sdiEvt, if_pos (by decide)]

/-- BASE of a DMA channel is written while its ENABLE is 0 (R393). -/
theorem writeWord_dmaBase (s : State) (c : Fin 128) (v : Nat) : s.writeWord (0x020000 + 64 * c.val) v =
    if bitOf (s.reg (rDmaCtrl c)) 31 then s else s.setReg (0x020000 + 64 * c.val) v := by
  have hentry : inTable 0x020000 0x40 128 (0x020000 + 64 * c.val) = some (c.val, 0) :=
    inTable_entry (r := 0) c.isLt (by decide)
  unfold State.writeWord
  rw [hentry]
  rfl

/-! ### What a read of one word does -/

/-- No field at this offset is read-clear. -/
theorem rcMask_eq_zero {off : Nat} (h : 0x200000 ≤ off ∧ off < 0x408000 ∨ 0x418000 ≤ off) : rcMask off = 0 := by
  have hfirst : ¬(off = 0x00000C ∨ off = 0x030050 ∨ off = 0x40B004 ∨ off = 0x41600C) := by omega
  simp (disch := omega) only [rcMask, if_neg hfirst, inTable_eq_none, Bool.or_false, if_neg Bool.false_ne_true]

/-- A read without a read-clear field or an effect of its own answers the register. -/
theorem readWord_passive (s : State) {off : Nat} (hopen : s.winOpen off = true)
    (h : 0x200000 ≤ off ∧ off < 0x408000 ∨ 0x418000 ≤ off) : s.readWord off = (s.regView off, s) := by
  unfold State.readWord
  rw [inTable_eq_none (by omega), hopen, rcMask_eq_zero h]
  dsimp only
  rw [Bool.not_true, if_neg Bool.false_ne_true, if_pos (.inl rfl), if_neg (by omega)]

/-- HIF_ERR_COUNT answers its count and is cleared. -/
theorem readWord_errCount (s : State) (hopen : s.winOpen 0x00000C = true) : s.readWord 0x00000C = (s.reg 0x00000C,
    if s.reg 0x00000C &&& 0xFFFFFFFF = 0 then s else s.setReg 0x00000C (clearBits (s.reg 0x00000C) 0xFFFFFFFF)) := by
  unfold State.readWord
  rw [hopen]
  show (s.regView 0x00000C, if rcMask 0x00000C = 0 ∨ s.regView 0x00000C &&& rcMask 0x00000C = 0 then s
    else s.setReg 0x00000C (clearBits (s.reg 0x00000C) (rcMask 0x00000C))) = _
  rw [show rcMask 0x00000C = 0xFFFFFFFF from rfl, show s.regView 0x00000C = s.reg 0x00000C from rfl]
  simp only [OfNat.ofNat_ne_zero, false_or]

end Sys2Proof.Machine
end

section

/-! ### Accesses of the register window (O23) -/

namespace Sys2Proof.Machine

theorem exec_registerWrite_word {off : BitVec 24} (h : off.toNat % 4 = 0) (v : Quad) (s : State) : exec (.registerWrite off 4 v) s =
    .next (if s.winOpen off.toNat then s.writeWord off.toNat (v.toNat % 2 ^ 32) else s) := by
  show execRegisterWrite off 4 v s = _
  unfold execRegisterWrite
  dsimp only
  rw [sizeOk_word h]
  rfl

theorem exec_registerWrite_badForm {off : BitVec 24} {n : Nat} (h : n ≠ 4 ∧ n ≠ 8 ∨ off.toNat % n ≠ 0) (v : Quad) {s : State}
    (hd : s.hif.d3hot = false) : exec (.registerWrite off n v) s = .next (s.accessErr 0 off.toNat) := by
  show execRegisterWrite off n v s = _
  unfold execRegisterWrite
  dsimp only
  rw [sizeOk_eq_false h, hd]
  rfl

theorem exec_rcRegisterRead_d3hot (off : BitVec 24) (n : Nat) {s : State} (hd : s.hif.d3hot = true) :
    exec (.rcRegisterRead off n) s = .next s := by
  show execRcRegisterRead off n s = _
  rw [execRcRegisterRead, if_pos hd]

theorem exec_rcRegisterRead_word {off : BitVec 24} (h : off.toNat % 4 = 0) {s : State} (hd : s.hif.d3hot = false) :
    exec (.rcRegisterRead off 4) s = .next ((s.readWord off.toNat).2.emit (.regRead off.toNat (s.readWord off.toNat).1)) := by
  show execRcRegisterRead off 4 s = _
  unfold execRcRegisterRead
  dsimp only
  rw [sizeOk_word h, hd]
  rfl

theorem exec_rcRegisterRead_badForm {off : BitVec 24} {n : Nat} (h : n ≠ 4 ∧ n ≠ 8 ∨ off.toNat % n ≠ 0) {s : State}
    (hd : s.hif.d3hot = false) : exec (.rcRegisterRead off n) s = .next ((s.accessErr 0 off.toNat).emit (.regRead off.toNat 0)) := by
  show execRcRegisterRead off n s = _
  unfold execRcRegisterRead
  dsimp only
  rw [sizeOk_eq_false h, hd]
  rfl

/-- A write of an aligned word of Window A that answers: what is shown of its store is shown of the command. -/
theorem does_registerWrite {off : BitVec 24} {o : Nat} (ho : off.toNat = o) (ha : o % 4 = 0) {v : Quad} {s : State} {P : State → Prop}
    (hopen : s.winOpen o = true) (hP : P (s.writeWord o (v.toNat % 2 ^ 32))) : Does (.registerWrite off 4 v) s P := by
  subst ho
  refine Does.intro (exec_registerWrite_word ha v s) ?_
  rw [if_pos hopen]
  exact hP

theorem registerWrite_takeRing (off : BitVec 24) (v : Quad) (s : State) (ha : off.toNat % 4 = 0) (hopen : s.winOpen off.toNat = true)
    (hlo : 0x300000 ≤ off.toNat) (hhi : off.toNat < 0x380000) :
    Does (.registerWrite off 4 v) s (fun t => (∀ i, i < 4 → (t.byte (off.toNat + i)).toNat = v.toNat / 256 ^ i % 256) ∧
      (∀ x, x < off.toNat ∨ off.toNat + 4 ≤ x → t.byte x = s.byte x) ∧ (∀ x, t.reg x = s.reg x) ∧ ∀ k, t.obj k = s.obj k) := by
  refine does_registerWrite rfl ha hopen ?_
  rw [writeWord_takeRing s hlo hhi]
  have hlen := length_leBytes 4 (v.toNat % 2 ^ 32)
  refine ⟨fun i hi => ?_, fun x hx => ?_, reg_setBytesAt s _ _, obj_setBytesAt s _ _⟩
  · rw [byte_setBytesAt_add s _ _ (by omega), toNat_getD_leBytes hi]
    interval_cases i <;> omega
  · rcases hx with hx | hx
    · exact byte_setBytesAt_of_lt s hx _
    · exact byte_setBytesAt_of_ge s _ (by omega)

theorem bitOf_twelveBits {b : Nat} (h : b < 32) : bitOf 0xFFF b = decide (b < 12) := by
  revert b
  decide

theorem registerWrite_sdiEvt (p : Fin 96) (v : Quad) (s : State) (hopen : s.winOpen (0x408008 + 16 * p.val) = true) :
    Does (.registerWrite (BitVec.ofNat 24 (0x408008 + 16 * p.val)) 4 v) s (fun t =>
      (∀ b, b < 32 → bitOf (t.reg (0x408008 + 16 * p.val)) b =
        (bitOf (s.reg (0x408008 + 16 * p.val)) b && !(decide (b < 12) && bitOf v.toNat b))) ∧
      (∀ x, x ≠ 0x408008 + 16 * p.val → t.reg x = s.reg x) ∧ (∀ k, t.obj k = s.obj k) ∧ ∀ x, t.byte x = s.byte x) := by
  refine does_registerWrite (Nat.mod_eq_of_lt (by omega)) (by omega) hopen ?_
  rw [writeWord_sdiEvt]
  refine ⟨fun b hb => ?_, fun x hx => ?_, obj_setReg _ _ _, byte_setReg _ _ _⟩
  · rw [reg_setReg, if_pos rfl, bitOf_word hb, bitOf_clearBits, bitOf_keepBits, bitOf_word hb, bitOf_twelveBits hb, Bool.and_comm (bitOf v.toNat b)]
  · rw [reg_setReg, if_neg hx]

theorem registerWrite_recoveryAddr (v : Quad) (s : State) (hopen : s.winOpen 0x000108 = true) :
    Does (.registerWrite 0x000108 4 v) s (fun t =>
      t.reg 0x000108 = v.toNat % 2 ^ 32 ∧ (∀ x, x ≠ 0x000108 → t.reg x = s.reg x) ∧ ∀ k, t.obj k = s.obj k) := by
  refine does_registerWrite (o := 0x000108) rfl rfl hopen ?_
  rw [writeWord_recoveryAddr]
  refine ⟨?_, fun x hx => ?_, obj_setReg _ _ _⟩
  · rw [reg_setReg, if_pos rfl, keepBits, Nat.and_two_pow_sub_one_eq_mod _ 32]
    omega
  · rw [reg_setReg, if_neg hx]

theorem registerWrite_dmaBase (c : Fin 128) (v : Quad) (s : State) (hopen : s.winOpen (0x020000 + 64 * c.val) = true) :
    Does (.registerWrite (BitVec.ofNat 24 (0x020000 + 64 * c.val)) 4 v) s (fun t =>
      t.reg (0x020000 + 64 * c.val) = (if bitOf (s.reg (rDmaCtrl c)) 31 then s.reg (0x020000 + 64 * c.val) else v.toNat % 2 ^ 32) ∧
      ∀ x, x ≠ 0x020000 + 64 * c.val → t.reg x = s.reg x) := by
  refine does_registerWrite (Nat.mod_eq_of_lt (by omega)) (by omega) hopen ?_
  rw [writeWord_dmaBase]
  split
  · exact ⟨rfl, fun _ _ => rfl⟩
  · refine ⟨?_, fun x hx => ?_⟩
    · rw [reg_setReg, if_pos rfl, Nat.mod_mod]
    · rw [reg_setReg, if_neg hx]

/-- HIF_ERR_ADDR holds the offset of an access of a form that R10 does not allow. -/
theorem reg_accessErr_offset (s : State) (off : BitVec 24) : (s.accessErr 0 off.toNat).reg 8 = off.toNat := by
  rw [reg_accessErr_addr s (by decide) (by omega), Nat.zero_mul, Nat.zero_add]

theorem rcRegisterRead_errCount (s : State) (hd : s.hif.d3hot = false) (hopen : s.winOpen 0x00000C = true) :
    Does (.rcRegisterRead 0x00000C 4) s (fun t => t.reg 0x00000C % 2 ^ 32 = 0 ∧ Emission.regRead 0x00000C (s.reg 0x00000C) ∈ t.out ∧
      (∀ x, x ≠ 0x00000C → t.reg x = s.reg x) ∧ ∀ k, t.obj k = s.obj k) := by
  refine Does.intro (exec_rcRegisterRead_word rfl hd) ?_
  rw [show BitVec.toNat (0x00000C : BitVec 24) = 0x00000C from rfl, readWord_errCount s hopen]
  have hmask : s.reg 0x00000C &&& 0xFFFFFFFF = s.reg 0x00000C % 2 ^ 32 := Nat.and_two_pow_sub_one_eq_mod _ 32
  refine ⟨?_, List.mem_append_right _ (List.mem_singleton.2 rfl), fun x hx => ?_, fun k => ?_⟩
  · rw [reg_emit]
    dsimp only
    split
    · omega
    · rw [reg_setReg, if_pos rfl, clearBits, hmask]
      omega
  · rw [reg_emit]
    dsimp only
    split
    · rfl
    · rw [reg_setReg, if_neg hx]
  · rw [obj_emit]
    dsimp only
    split
    · rfl
    · rw [obj_setReg]

/-- Settles O23: each write through what its word stores, each read through what its word answers and clears, and the two forms that R10
does not allow through the access error. -/
theorem registers : Obligations.Registers := by
  refine ⟨registerWrite_takeRing, registerWrite_sdiEvt, registerWrite_recoveryAddr, registerWrite_dmaBase, ?_, ?_, ?_, ?_,
    rcRegisterRead_errCount, ?_⟩
  · intro off n v s hd hform
    exact Does.intro (exec_registerWrite_badForm hform v hd) ⟨reg_accessErr_offset s off, obj_accessErr s _ _, byte_accessErr s _ _⟩
  · intro off v s ha hclosed
    exact Does.intro (exec_registerWrite_word ha v s) (if_neg (by rw [hclosed]; exact Bool.false_ne_true))
  · intro off n s hd
    exact Does.intro (exec_rcRegisterRead_d3hot off n hd) rfl
  · intro off s hd ha hopen hrange
    refine Does.intro (exec_rcRegisterRead_word ha hd) ?_
    rw [readWord_passive s hopen hrange]
  · intro off n s hd hform
    exact Does.intro (exec_rcRegisterRead_badForm hform hd)
      ⟨reg_accessErr_offset s off, List.mem_append_right _ (List.mem_singleton.2 rfl), obj_accessErr s _ _⟩

end Sys2Proof.Machine
end

section

/-! ### MSI-X, D3hot and the link (R386, R390, R391) -/

namespace Sys2Proof.Machine

theorem exec_accessError_d3hot (wr : Bool) (off : BitVec 24) (n : Nat) {s : State} (hd : s.hif.d3hot = true) :
    exec (.accessError wr off n) s = .next s := by
  show execAccessError wr off n s = _
  rw [execAccessError, if_pos hd]

/-- An access that R10 does not allow is recorded; a read is answered with 0. -/
theorem exec_accessError (wr : Bool) (off : BitVec 24) (n : Nat) {s : State} (hd : s.hif.d3hot = false) :
    exec (.accessError wr off n) s = .next (if wr then s.accessErr 0 off.toNat else (s.accessErr 0 off.toNat).emit (.regRead off.toNat 0)) := by
  show execAccessError wr off n s = _
  unfold execAccessError
  dsimp only
  rw [hd, if_neg Bool.false_ne_true]
  cases wr <;> rfl

theorem accessError_recorded (wr : Bool) (off : BitVec 24) (n : Nat) (s : State) (hd : s.hif.d3hot = false) :
    Does (.accessError wr off n) s (fun t => t.reg 8 = off.toNat ∧ bitOf (t.reg 4) 0 = true ∧ (∀ k, t.obj k = s.obj k) ∧
      (∀ x, t.byte x = s.byte x) ∧ (wr = false → Emission.regRead off.toNat 0 ∈ t.out)) := by
  refine Does.intro (exec_accessError wr off n hd) ?_
  cases wr with
  | true =>
    exact ⟨reg_accessErr_offset s off, bitOf_accessErr_status s _ _, obj_accessErr s _ _, byte_accessErr s _ _, fun h => nomatch h⟩
  | false =>
    exact ⟨reg_accessErr_offset s off, bitOf_accessErr_status s _ _, obj_accessErr s _ _, byte_accessErr s _ _,
      fun _ => List.mem_append_right _ (List.mem_singleton.2 rfl)⟩

theorem windowBWrite_recorded (off : BitVec 30) (s : State) (hd : s.hif.d3hot = false) :
    Does (.windowBWrite off) s (fun t => t.reg 8 = 2 ^ 30 + off.toNat ∧ bitOf (t.reg 4) 0 = true ∧ (∀ k, t.obj k = s.obj k) ∧
      ∀ x, t.byte x = s.byte x) := by
  have hexec : exec (.windowBWrite off) s = .next (s.accessErr 1 off.toNat) := by
    show execWindowBWrite off s = _
    rw [execWindowBWrite, hd]
    rfl
  refine Does.intro hexec ⟨?_, bitOf_accessErr_status s _ _, obj_accessErr s _ _, byte_accessErr s _ _⟩
  rw [reg_accessErr_addr s (by decide) off.isLt, Nat.one_mul]

theorem vecTry_of_ready {s : State} {v : Nat} (hp : tget allFalse s.hif.pba v = true) (ho : s.vecOpen v = true) (hd : s.vecDue v = true) :
    s.vecTry v = s.sendVec v := by
  rw [State.vecTry, hp, ho, hd]
  rfl

@[simp] theorem reg_vecTry (s : State) (v off : Nat) : (s.vecTry v).reg off = s.reg off := by
  unfold State.vecTry
  split <;> rfl

@[simp] theorem obj_vecTry (s : State) (v k : Nat) : (s.vecTry v).obj k = s.obj k := by
  unfold State.vecTry
  split <;> rfl

theorem vecTry_hif_unsignalled (s : State) (v : Nat) : (s.vecTry v).hif.unsignalled = s.hif.unsignalled := by
  unfold State.vecTry
  split <;> rfl

@[simp] theorem funcMask_vecTry (s : State) (v : Nat) : (s.vecTry v).hif.funcMask = s.hif.funcMask :=
  (congrArg HifSt.funcMask (vecTry_hif_unsignalled s v) :)

@[simp] theorem msixEnabled_vecTry (s : State) (v : Nat) : (s.vecTry v).hif.msixEnabled = s.hif.msixEnabled :=
  (congrArg HifSt.msixEnabled (vecTry_hif_unsignalled s v) :)

theorem msixIntervalEnd_sends (v : Fin 2048) (a : Nat) (s u : State) (hu : u = s.toTick a) (hp : tget allFalse u.hif.pba v.val = true)
    (ho : u.vecOpen v = true) (hd : u.vecDue v = true) :
    Does (.msixIntervalEnd v a) s (fun t => t.out = u.out ++ [.msix v] ∧ tget allFalse t.hif.pba v.val = false ∧
      (∀ x, t.reg x = s.reg x) ∧ ∀ k, t.obj k = s.obj k) := by
  have hexec : exec (.msixIntervalEnd v a) s = .next (u.vecTry v) := by rw [hu]; rfl
  refine Does.intro hexec ⟨?_, ?_, fun x => ?_, fun k => ?_⟩
  · rw [vecTry_of_ready hp ho hd]; rfl
  · rw [vecTry_of_ready hp ho hd]; exact tget_tset_same allFalse u.hif.pba v.val false
  · rw [reg_vecTry, hu, reg_toTick]
  · rw [obj_vecTry, hu, obj_toTick]

/-- The control word of a vector is written with its mask bit 0 and the vector tried. -/
theorem exec_msixUnmask_vector {v : Fin 2048} {s : State} (hopen : s.winOpen (0x04000C + 16 * v.val) = true) :
    exec (.msixUnmask (some v)) s =
      .next ((s.setReg (0x04000C + 16 * v.val) (setFld (s.reg (0x04000C + 16 * v.val)) 0 0 0)).vecTry v.val) := by
  show execMsixUnmask (some v) s = _
  unfold execMsixUnmask
  dsimp only
  rw [hopen]
  rfl

theorem msixUnmask_vector (v : Fin 2048) (s : State) (hopen : s.winOpen (0x04000C + 16 * v.val) = true) :
    Does (.msixUnmask (some v)) s (fun t => bitOf (t.reg (0x04000C + 16 * v.val)) 0 = false ∧
      (tget allFalse s.hif.pba v.val = true → s.hif.msixEnabled = true → s.hif.funcMask = false → s.vecDue v = true →
        Emission.msix v ∈ t.out)) := by
  refine Does.intro (exec_msixUnmask_vector hopen) ?_
  generalize hu : s.setReg (0x04000C + 16 * v.val) (setFld (s.reg (0x04000C + 16 * v.val)) 0 0 0) = u
  have hmask : bitOf (u.reg (0x04000C + 16 * v.val)) 0 = false := by
    rw [← hu, reg_setReg, if_pos rfl, bitOf_setFld_zero]
    rfl
  refine ⟨by rw [reg_vecTry]; exact hmask, fun hp he hf hd => ?_⟩
  have hctrl : 0x040000 + 16 * v.val + 12 = 0x04000C + 16 * v.val := by omega
  have ho : u.vecOpen v.val = true := by
    rw [State.vecOpen, hctrl, hmask, ← hu, setReg_hif, he, hf]
    rfl
  have hdue : u.vecDue v.val = true := by
    rw [← hd, ← hu, State.vecDue, reg_setReg, if_neg (by omega)]
    rfl
  rw [vecTry_of_ready (by rw [← hu]; exact hp) ho hdue]
  exact List.mem_append_right _ (List.mem_singleton.2 rfl)

theorem msixUnmask_function (s : State) :
    Does (.msixUnmask none) s (fun t => t.hif.msixEnabled = true ∧ t.hif.funcMask = false ∧ ∀ k, t.obj k = s.obj k) := by
  refine Does.intro rfl ⟨?_, ?_, fun k => ?_⟩
  · exact foldl_same (fun x => x.hif.msixEnabled) _ msixEnabled_vecTry _
  · exact foldl_same (fun x => x.hif.funcMask) _ funcMask_vecTry _
  · exact foldl_same (fun x => x.obj k) _ (fun x v => obj_vecTry x v k) _

theorem mem_of_tfind {α : Type} {t : Tbl α} {k : Nat} {v : α} (h : tfind t k = some v) : (k, v) ∈ t := by
  induction t with
  | nil => cases h
  | cons p t ih =>
    obtain ⟨j, w⟩ := p
    rw [tfind] at h
    split at h
    · cases h; subst_vars; exact List.mem_cons_self
    · exact List.mem_cons_of_mem _ (ih h)

/-- What every entry and the default have, every value read has. -/
theorem tget_of_forall {α : Type} {p : α → Prop} {d : Nat → α} {t : Tbl α} (ht : ∀ e ∈ t, p e.2) (hd : ∀ k, p (d k)) (k : Nat) :
    p (tget d t k) := by
  unfold tget
  split
  · rename_i v hv
    exact ht _ (mem_of_tfind hv)
  · exact hd k

/-- The host interface in D3hot: no descriptor is in progress (R386). -/
def State.inD3hot (s : State) : State :=
  s.setHif { s.hif with d3hot := true, dma := (s.hif.dma.map (fun p => (p.1, { p.2 with run := none }))).filter (fun p => p.2 != DmaCh.idle) }

theorem run_inD3hot (s : State) (c : Nat) : (s.inD3hot.dch c).run = none := by
  refine tget_of_forall (p := fun (x : DmaCh) => x.run = none) (fun e he => ?_) (fun _ => rfl) c
  obtain ⟨q, -, rfl⟩ := List.mem_map.1 (List.mem_of_mem_filter he)
  rfl

theorem d3hotEntry_abandons (s : State) (hd : s.hif.d3hot = false) :
    Does .d3hotEntry s (fun t => t.hif.d3hot = true ∧ (∀ c, (t.dch c).run = none) ∧ Counted 0xE082 s t ∧ ∀ k, t.obj k = s.obj k) := by
  have hexec : exec .d3hotEntry s = .next (s.inD3hot.raise 0xE082 (p8 4)) := by
    show execD3hotEntry s = _
    rw [execD3hotEntry, hd]
    rfl
  obtain ⟨hdma, -, hd3, -⟩ := HifSt.of_unsignalled_eq (raise_hif_unsignalled s.inD3hot 0xE082 (p8 4))
  refine Does.intro hexec ⟨hd3, fun c => ?_, raise_counts s.inD3hot 0xE082 _, fun k => ?_⟩
  · rw [State.dch, hdma]; exact run_inD3hot s c
  · rw [obj_raise]; rfl

theorem pcieLinkTrained_shown (sp w : Nat) (s : State) (h1 : 1 ≤ sp) (h5 : sp ≤ 5) (hw : w ∈ [1, 2, 4, 8])
    (hnew : s.hif.speed ≠ sp ∨ s.hif.width ≠ w) :
    Does (.pcieLinkTrained sp w) s (fun t => t.hif.speed = sp ∧ t.hif.width = w ∧ Counted 0xE081 s t ∧ ∀ k, t.obj k = s.obj k) := by
  have hexec : exec (.pcieLinkTrained sp w) s =
      .next ((s.setHif { s.hif with speed := sp, width := w }).raise 0xE081 (p8 sp ++ p8 w)) := by
    show execPcieLinkTrained sp w s = _
    have hold : ¬(s.hif.speed = sp ∧ s.hif.width = w) := by tauto
    rw [execPcieLinkTrained, decide_eq_true h1, decide_eq_true h5, List.contains_iff_mem.2 hw, if_neg (by simp [hold])]
  obtain ⟨-, -, -, -, hspeed, hwidth⟩ := HifSt.of_unsignalled_eq
    (raise_hif_unsignalled (s.setHif { s.hif with speed := sp, width := w }) 0xE081 (p8 sp ++ p8 w))
  refine Does.intro hexec ⟨hspeed, hwidth, raise_counts (s.setHif _) 0xE081 _, fun k => ?_⟩
  rw [obj_raise]; rfl

end Sys2Proof.Machine
end

section

/-! ### Resets of the host interface (R386, R487) -/

namespace Sys2Proof.Machine

/-- The rings, channels, vectors and translations are at their reset values; sessions and events are yet to come. -/
def State.hostCleared (s : State) : State :=
  { s with
    regs := s.regs.filter (fun p => !hostReg p.1)
    hif := { s.hif with
      msixEnabled := false, funcMask := false, pba := [], lastMsg := [], d3hot := false, dma := [], tlb := [], inv := none,
      invQueue := [], rings := [] }
    ess := { s.ess with takes := { s.ess.takes with drop := [] } } }

/-- The sessions of some slots end as on CLOSE. -/
def State.closeAll (s : State) (l : List Nat) : State := l.foldl (fun (x : State) i => x.endSession i 0) s

/-- Nothing of the mailbox is left: no handshake and no response that waits. -/
def State.mbxForgotten (s : State) : State :=
  { s with dict := { s.dict with
    attempts := s.dict.attempts.filter (fun a => !a.source.isEmpty)
    mbxWait := s.dict.mbxWait.filter (fun p => decide (4 ≤ p.1)) } }

theorem reg_mbxForgotten (s : State) (off : Nat) : s.mbxForgotten.reg off = s.reg off := rfl
theorem sess_mbxForgotten (s : State) (j : Nat) : s.mbxForgotten.sess j = s.sess j := rfl
theorem mbxForgotten_hif (s : State) : s.mbxForgotten.hif = s.hif := rfl

theorem hostReset_eq (s : State) (cause : Nat) :
    s.hostReset cause = ((s.hostCleared.closeAll (List.range 4)).mbxForgotten).raise 0xE082 (p8 cause) := by
  unfold State.hostReset State.mbxForgotten State.closeAll State.hostCleared
  rfl

/-! #### The end of a session -/

/-- An area's staged set is discarded, with event 0x0004. -/
def State.stageDiscarded (s : State) (id a : Nat) : State := (s.clearStage a).raise 0x0004 (p32 id ++ p16 (areaBase a) ++ p8 1)

/-- The staged sets of a session are discarded. -/
def State.stagesDiscarded (s : State) (id : Nat) (l : List Nat) : State := l.foldl (fun (y : State) a => y.stageDiscarded id a) s

/-- What a session leaves to be dropped: subscriptions, held records, a waiting response, reports and attestations. -/
def State.slotForgotten (s : State) (i : Nat) : State :=
  { s with
    dict := { s.dict with
      subs := s.dict.subs.filter (fun y => y.slot != i)
      waits := s.dict.waits.map (fun (w : Waiter) => if w.slot = i then { w with slot := 36 } else w)
      blocked := s.dict.blocked.filter (fun p => p.1 != i)
      mbxWait := tset noWait s.dict.mbxWait i [] }
    upd := { s.upd with
      reports := tset noBytes s.upd.reports i []
      attests := s.upd.attests.filter (fun a => a.1 != i) } }

theorem reg_slotForgotten (s : State) (i off : Nat) : (s.slotForgotten i).reg off = s.reg off := rfl
theorem sess_slotForgotten (s : State) (i j : Nat) : (s.slotForgotten i).sess j = s.sess j := rfl
theorem slotForgotten_hif (s : State) (i : Nat) : (s.slotForgotten i).hif = s.hif := rfl

/-- BUSY of a mailbox slot's channel is cleared. -/
def State.busyCleared (s : State) (i : Nat) : State :=
  if i < 4 then s.setReg (rMbx i + 4) (setFld (s.reg (rMbx i + 4)) 31 31 0) else s

theorem endSession_eq (s : State) {i : Nat} (h : (s.sess i).id ≠ 0) (cause : Nat) : s.endSession i cause =
    ((((s.stagesDiscarded (s.sess i).id (s.ownedAreas (s.sess i).id)).slotForgotten i).busyCleared i).setSess i Session.free).raise 0x0002
      (p32 (s.sess i).id ++ p8 cause) := by
  unfold State.endSession State.stagesDiscarded State.stageDiscarded State.slotForgotten State.busyCleared
  dsimp only
  rw [if_neg h]

theorem endSession_free {s : State} {i : Nat} (h : (s.sess i).id = 0) (cause : Nat) : s.endSession i cause = s := by
  rw [State.endSession, if_pos h]

theorem reg_stagesDiscarded (s : State) (id : Nat) (l : List Nat) {off : Nat} (h : ¬ EventWord off) :
    (s.stagesDiscarded id l).reg off = s.reg off :=
  foldl_same (fun x => x.reg off) l (fun x a => reg_raise_of_not_eventWord (x.clearStage a) _ _ h) s

theorem evtSource_stageDiscarded : evtSource 0x0004 = some 3 := rfl
theorem evtSource_sessionEnd : evtSource 0x0002 = some 1 := rfl
theorem evtSource_hostReset : evtSource 0xE082 = some 577 := rfl

/-- An event counts in the word of its source alone. -/
theorem count_raise_of_ne (s : State) {code n m : Nat} (hn : evtSource code = some n) (h : n ≠ m) (b : List Byte) :
    (s.raise code b).reg (rEvtCount m) = s.reg (rEvtCount m) :=
  raise_other s code b fun k hk => by rwa [← Option.some.inj (hn.symm.trans hk)]

theorem count_stagesDiscarded (s : State) (id : Nat) (l : List Nat) {m : Nat} (h : 3 ≠ m) :
    (s.stagesDiscarded id l).reg (rEvtCount m) = s.reg (rEvtCount m) :=
  foldl_same (fun x => x.reg (rEvtCount m)) l (fun x a => count_raise_of_ne (x.clearStage a) evtSource_stageDiscarded h _) s

theorem sess_stagesDiscarded (s : State) (id : Nat) (l : List Nat) (j : Nat) : (s.stagesDiscarded id l).sess j = s.sess j :=
  foldl_same (fun x => x.sess j) l (fun x a => sess_raise (x.clearStage a) _ _ j) s

theorem stagesDiscarded_hif_unsignalled (s : State) (id : Nat) (l : List Nat) :
    (s.stagesDiscarded id l).hif.unsignalled = s.hif.unsignalled :=
  foldl_same (fun x => x.hif.unsignalled) l (fun x a => raise_hif_unsignalled (x.clearStage a) _ _) s

theorem reg_busyCleared_of_ne (s : State) (i : Nat) {off : Nat} (h : off ≠ rMbx i + 4) : (s.busyCleared i).reg off = s.reg off := by
  unfold State.busyCleared
  split
  · rw [reg_setReg, if_neg h]
  · rfl

theorem sess_busyCleared (s : State) (i j : Nat) : (s.busyCleared i).sess j = s.sess j := by
  unfold State.busyCleared
  split
  · rw [sess_setReg]
  · rfl

theorem busyCleared_hif (s : State) (i : Nat) : (s.busyCleared i).hif = s.hif := by
  unfold State.busyCleared
  split
  · rw [setReg_hif]
  · rfl

/-- The slot is free afterwards, and every other slot's session goes on. -/
theorem sessId_endSession (s : State) (i cause j : Nat) : ((s.endSession i cause).sess j).id = if j = i then 0 else (s.sess j).id := by
  by_cases h : (s.sess i).id = 0
  · rw [endSession_free h]
    split
    · subst_vars; exact h
    · rfl
  · rw [endSession_eq s h, sess_raise, sess_setSess]
    split
    · rfl
    · rw [sess_busyCleared, sess_slotForgotten, sess_stagesDiscarded]

theorem endSession_hif_unsignalled (s : State) (i cause : Nat) : (s.endSession i cause).hif.unsignalled = s.hif.unsignalled := by
  by_cases h : (s.sess i).id = 0
  · rw [endSession_free h]
  · rw [endSession_eq s h, raise_hif_unsignalled, setSess_hif, busyCleared_hif, slotForgotten_hif, stagesDiscarded_hif_unsignalled]

/-- The end of a session counts no event but 0x0002 and 0x0004. -/
theorem count_endSession (s : State) (i cause : Nat) {m : Nat} (h1 : 1 ≠ m) (h3 : 3 ≠ m) (hm : m < 640) :
    (s.endSession i cause).reg (rEvtCount m) = s.reg (rEvtCount m) := by
  have hbusy : rEvtCount m ≠ rMbx i + 4 := by unfold rEvtCount rMbx; omega
  by_cases h : (s.sess i).id = 0
  · rw [endSession_free h]
  · rw [endSession_eq s h, count_raise_of_ne _ evtSource_sessionEnd h1, reg_setSess, reg_busyCleared_of_ne _ _ hbusy,
      reg_slotForgotten, count_stagesDiscarded _ _ _ h3]

/-- The registers of the host interface hold their reset values. -/
def State.HostRegsReset (s : State) : Prop := ∀ off, hostReg off = true → s.reg off = regDefault off

theorem not_eventWord_of_hostReg {off : Nat} (h : hostReg off = true) : ¬ EventWord off := by
  simp only [hostReg, Bool.or_eq_true, Bool.and_eq_true, decide_eq_true_eq] at h
  unfold EventWord
  omega

theorem hostRegsReset_raise {s : State} (h : s.HostRegsReset) (code : Nat) (b : List Byte) : (s.raise code b).HostRegsReset :=
  fun off ho => (reg_raise_of_not_eventWord s code b (not_eventWord_of_hostReg ho)).trans (h off ho)

theorem regDefault_mbxStatus {i : Nat} (h : i < 4) : regDefault (rMbx i + 4) = 0 := by
  unfold regDefault rMbx
  rw [if_neg (by omega), if_neg (by omega), if_neg (by omega), if_neg (by omega)]

/-- BUSY resets to 0, so that clearing it leaves its word at the reset value. -/
theorem hostRegsReset_busyCleared {s : State} (h : s.HostRegsReset) (i : Nat) : (s.busyCleared i).HostRegsReset := by
  intro off ho
  unfold State.busyCleared
  split
  · rename_i hi
    rw [reg_setReg]
    split
    · subst_vars
      rw [h _ ho, regDefault_mbxStatus hi]
      rfl
    · exact h off ho
  · exact h off ho

theorem hostRegsReset_stagesDiscarded {s : State} (h : s.HostRegsReset) (id : Nat) (l : List Nat) :
    (s.stagesDiscarded id l).HostRegsReset := fun off ho => (reg_stagesDiscarded s id l (not_eventWord_of_hostReg ho)).trans (h off ho)

theorem hostRegsReset_slotForgotten {s : State} (h : s.HostRegsReset) (i : Nat) : (s.slotForgotten i).HostRegsReset := h

theorem hostRegsReset_setSess {s : State} (h : s.HostRegsReset) (i : Nat) (v : Session) : (s.setSess i v).HostRegsReset := h

theorem hostRegsReset_endSession {s : State} (h : s.HostRegsReset) (i cause : Nat) : (s.endSession i cause).HostRegsReset := by
  by_cases hid : (s.sess i).id = 0
  · rw [endSession_free hid]; exact h
  · rw [endSession_eq s hid]
    exact hostRegsReset_raise (hostRegsReset_setSess (hostRegsReset_busyCleared (hostRegsReset_slotForgotten
      (hostRegsReset_stagesDiscarded h _ _) i) i) i _) _ _

/-! #### The sessions of the mailbox -/

theorem hostRegsReset_closeAll {s : State} (h : s.HostRegsReset) (l : List Nat) : (s.closeAll l).HostRegsReset := by
  induction l generalizing s with
  | nil => exact h
  | cons i l ih => exact ih (hostRegsReset_endSession h i 0)

theorem closeAll_hif_unsignalled (s : State) (l : List Nat) : (s.closeAll l).hif.unsignalled = s.hif.unsignalled :=
  foldl_same (fun x => x.hif.unsignalled) l (fun x i => endSession_hif_unsignalled x i 0) s

theorem count_closeAll (s : State) (l : List Nat) {m : Nat} (h1 : 1 ≠ m) (h3 : 3 ≠ m) (hm : m < 640) :
    (s.closeAll l).reg (rEvtCount m) = s.reg (rEvtCount m) :=
  foldl_same (fun x => x.reg (rEvtCount m)) l (fun x i => count_endSession x i 0 h1 h3 hm) s

/-- A slot among those closed is free, and stays free while the others close. -/
theorem sessId_closeAll (s : State) (l : List Nat) {j : Nat} (h : j ∈ l ∨ (s.sess j).id = 0) : ((s.closeAll l).sess j).id = 0 := by
  induction l generalizing s with
  | nil => exact h.resolve_left List.not_mem_nil
  | cons i l ih =>
    refine ih (s.endSession i 0) ?_
    rw [sessId_endSession, List.mem_cons] at *
    split <;> tauto

/-! #### The interface after its reset -/

theorem tfind_filter_eq_none {α : Type} (t : Tbl α) (q : Nat → Bool) {k : Nat} (h : q k = false) :
    tfind (t.filter (fun p => q p.1)) k = none := by
  cases hf : tfind (t.filter (fun p => q p.1)) k with
  | none => rfl
  | some v =>
    have hq := (List.mem_filter.1 (mem_of_tfind hf)).2
    exact absurd (hq.symm.trans h) (by decide)

theorem tfind_filter_of_true {α : Type} (t : Tbl α) (q : Nat → Bool) {k : Nat} (h : q k = true) :
    tfind (t.filter (fun p => q p.1)) k = tfind t k := by
  induction t with
  | nil => rfl
  | cons p t ih =>
    obtain ⟨j, w⟩ := p
    by_cases hj : j = k
    · subst hj
      simp only [List.filter_cons, h, tfind, if_true]
    · simp only [List.filter_cons, tfind, if_neg hj, ← ih]
      split
      · rw [tfind, if_neg hj]
      · rfl

theorem hostRegsReset_hostCleared (s : State) : s.hostCleared.HostRegsReset := fun off ho => by
  have hnone : tfind s.hostCleared.regs off = none := tfind_filter_eq_none s.regs (fun k => !hostReg k) (by rw [ho]; rfl)
  rw [State.reg, tget, hnone]

/-- A word that is no register of the interface keeps its value. -/
theorem reg_hostCleared (s : State) {off : Nat} (h : hostReg off = false) : s.hostCleared.reg off = s.reg off := by
  have hfind : tfind s.hostCleared.regs off = tfind s.regs off := tfind_filter_of_true s.regs (fun k => !hostReg k) (by rw [h]; rfl)
  rw [State.reg, State.reg, tget, tget, hfind]

theorem hostRegsReset_mbxForgotten {s : State} (h : s.HostRegsReset) : s.mbxForgotten.HostRegsReset := h

theorem hostRegsReset_hostReset (s : State) (cause : Nat) : (s.hostReset cause).HostRegsReset := by
  rw [hostReset_eq]
  exact hostRegsReset_raise (hostRegsReset_mbxForgotten (hostRegsReset_closeAll (hostRegsReset_hostCleared s) _)) _ _

theorem hostReset_hif_unsignalled (s : State) (cause : Nat) : (s.hostReset cause).hif.unsignalled = s.hostCleared.hif.unsignalled := by
  rw [hostReset_eq, raise_hif_unsignalled, mbxForgotten_hif, closeAll_hif_unsignalled]

/-- The channels and translations are gone, and MSI-X and D3hot are off. -/
theorem hostReset_hif (s : State) (cause : Nat) : (s.hostReset cause).hif.dma = [] ∧ (s.hostReset cause).hif.tlb = [] ∧
    (s.hostReset cause).hif.d3hot = false ∧ (s.hostReset cause).hif.msixEnabled = false := by
  obtain ⟨hdma, htlb, hd3, hmsix, -⟩ := HifSt.of_unsignalled_eq (hostReset_hif_unsignalled s cause)
  exact ⟨hdma, htlb, hd3, hmsix⟩

theorem sessId_hostReset (s : State) (cause : Nat) {i : Nat} (h : i < 4) : ((s.hostReset cause).sess i).id = 0 := by
  rw [hostReset_eq, sess_raise, sess_mbxForgotten]
  exact sessId_closeAll _ _ (.inl (List.mem_range.2 h))

theorem counted_hostReset (s : State) (cause : Nat) : Counted 0xE082 s (s.hostReset cause) := by
  intro n hn
  obtain rfl : 577 = n := Option.some.inj (evtSource_hostReset.symm.trans hn)
  have hbefore : (s.hostCleared.closeAll (List.range 4)).mbxForgotten.reg (rEvtCount 577) = s.reg (rEvtCount 577) := by
    rw [reg_mbxForgotten, count_closeAll _ _ (by decide) (by decide) (by decide), reg_hostCleared s rfl]
  rw [hostReset_eq, raise_counts _ _ _ 577 hn, hbefore]

theorem exec_hostInterfaceReset (c : Fin 3) (s : State) : exec (.hostInterfaceReset c) s =
    .next (if c.val = 2 then (s.hostReset (c.val + 1)).setHif { (s.hostReset (c.val + 1)).hif with speed := 0, width := 0 }
      else s.hostReset (c.val + 1)) := by
  show execHostInterfaceReset c s = _
  unfold execHostInterfaceReset
  rfl

theorem hostInterfaceReset_resets (c : Fin 3) (s : State) :
    Does (.hostInterfaceReset c) s (fun t => (∀ off, hostReg off = true → t.reg off = regDefault off) ∧
      t.hif.dma = [] ∧ t.hif.tlb = [] ∧ t.hif.d3hot = false ∧ t.hif.msixEnabled = false ∧ (∀ i, i < 4 → (t.sess i).id = 0) ∧
      Counted 0xE082 s t ∧ (c.val = 2 → t.hif.speed = 0 ∧ t.hif.width = 0)) := by
  have hregs := hostRegsReset_hostReset s (c.val + 1)
  obtain ⟨hdma, htlb, hd3, hmsix⟩ := hostReset_hif s (c.val + 1)
  have hsess : ∀ i, i < 4 → ((s.hostReset (c.val + 1)).sess i).id = 0 := fun _ hi => sessId_hostReset s _ hi
  have hcount := counted_hostReset s (c.val + 1)
  refine Does.intro (exec_hostInterfaceReset c s) ?_
  generalize s.hostReset (c.val + 1) = u at *
  split
  · exact ⟨hregs, hdma, htlb, hd3, hmsix, hsess, hcount, fun _ => ⟨rfl, rfl⟩⟩
  · exact ⟨hregs, hdma, htlb, hd3, hmsix, hsess, hcount, fun h => absurd h ‹_›⟩

theorem pciePerst_resets (s : State) :
    Does .pciePerst s (fun t => (∀ off, hostReg off = true → t.reg off = regDefault off) ∧ t.hif.dma = [] ∧ t.hif.tlb = [] ∧
      t.hif.d3hot = false ∧ (∀ i, i < 4 → (t.sess i).id = 0) ∧ Counted 0xE082 s t) := by
  have hexec : exec .pciePerst s = .next (s.hostReset 2) := rfl
  obtain ⟨hdma, htlb, hd3, -⟩ := hostReset_hif s 2
  exact Does.intro hexec ⟨hostRegsReset_hostReset s 2, hdma, htlb, hd3, fun _ hi => sessId_hostReset s 2 hi, counted_hostReset s 2⟩

/-- Settles O26, from the accesses recorded, the vectors tried, D3hot and the link, and what a reset leaves of the interface. -/
theorem hostInterface : Obligations.HostInterface := by
  refine ⟨?_, accessError_recorded, windowBWrite_recorded, msixIntervalEnd_sends, msixUnmask_vector, msixUnmask_function,
    d3hotEntry_abandons, ?_, pcieLinkTrained_shown, hostInterfaceReset_resets, pciePerst_resets⟩
  · intro wr off n s hd
    exact Does.intro (exec_accessError_d3hot wr off n hd) rfl
  · intro s
    exact Does.intro rfl ⟨rfl, rfl, fun _ => rfl, fun _ => rfl⟩

end Sys2Proof.Machine
end

/-! PROOFS. The dictionary and its sessions: how a record runs within its message, what a read, a handshake and the command
objects of the data path do, and the statements O3, O4, O12, O13, O14 and O16 (02_zhonal_dictionary.md). -/

section
namespace Sys2Proof.Machine

/-! ### How a record runs (R43–R45, R62) -/

/-- A record is run with what waited before it. -/
theorem exec_record {i : Instr} {r : RecCall} (h : recordOf i = some r) (s : State) : exec i s = .next (s.runRecord i) := by
  unfold recordOf at h
  split at h <;> first | exact rfl | cases h

theorem runBlocked_of_none {s : State} (h : s.dict.blocked = []) : s.runBlocked = s := by
  rw [State.runBlocked, h, List.isEmpty_nil, Bool.not_true, Bool.and_false, if_neg Bool.false_ne_true]

theorem runBlocked_of_waits {s : State} (h : s.dict.waits ≠ []) : s.runBlocked = s := by
  rw [State.runBlocked, List.isEmpty_eq_false_iff.2 h, Bool.false_and, if_neg Bool.false_ne_true]

theorem runTurn_record {i : Instr} {r : RecCall} (h : recordOf i = some r) (s : State) :
    s.runTurn i = s.withRec r.ctx i (recShort i r) (fun t => t.recDeny i r) r.run := by
  rw [State.runTurn, h]

theorem runRecord_of_none {s : State} (h : s.dict.blocked = []) (i : Instr) : s.runRecord i = s.runTurn i := by
  rw [State.runRecord, runBlocked_of_none h]

theorem runRecord_of_waits {s : State} (h : s.dict.waits ≠ []) (i : Instr) : s.runRecord i = s.runTurn i := by
  rw [State.runRecord, runBlocked_of_waits h]

/-- A message that no pause holds and no record waits before runs at once. -/
theorem runMessage_of_free {i : Instr} (hi : recordOf i = none) {s : State} (hp : s.upd.paused = false) (hw : s.dict.waits = [])
    (hblk : s.dict.blocked = []) : s.runMessage i = s.runMsg i := by
  rw [State.runMessage, hp, if_neg Bool.false_ne_true, runRecord_of_none hblk, State.runTurn, hi]
  dsimp only
  rw [hw, if_pos List.isEmpty_nil]

/-- A message behind a record that waits is held with it. -/
theorem runMessage_of_waits {i : Instr} (hi : recordOf i = none) {s : State} (hp : s.upd.paused = false) (hw : s.dict.waits ≠ []) :
    s.runMessage i = s.holdBehind (msgSlot i) i := by
  rw [State.runMessage, hp, if_neg Bool.false_ne_true, runRecord_of_waits hw, State.runTurn, hi]
  dsimp only
  rw [List.isEmpty_eq_false_iff.2 hw, if_neg Bool.false_ne_true]

/-- The session of a slot has just heard from its client. -/
def State.heard (s : State) (i : Nat) : State := s.setSess i { s.sess i with lastHeard := s.now }

section
variable {s : State} {c : Ctx} {self : Instr} {short : Nat → List RespRec} {deny : State → State} {body : State → List RespRec × State}

theorem withRec_free (h : (s.sess c.slot.val).id = 0) : s.withRec c self short deny body = s := by
  unfold State.withRec
  exact if_pos h

theorem withRec_paused (hid : (s.sess c.slot.val).id ≠ 0) (hp : s.upd.paused = true) :
    s.withRec c self short deny body = (s.heard c.slot.val).holdRec c.slot.val c.first self := by
  unfold State.withRec State.heard
  dsimp only
  rw [if_neg hid, if_pos hp]

theorem withRec_waits (hid : (s.sess c.slot.val).id ≠ 0) (hp : s.upd.paused = false) (hw : s.dict.waits ≠ []) :
    s.withRec c self short deny body = (s.heard c.slot.val).holdBehind c.slot.val self := by
  unfold State.withRec State.heard
  dsimp only
  rw [if_neg hid, hp, if_neg Bool.false_ne_true, List.isEmpty_eq_false_iff.2 hw, if_pos (by decide)]

theorem withRec_again (hid : (s.sess c.slot.val).id ≠ 0) (hp : s.upd.paused = false) (hw : s.dict.waits = []) (hf : c.first = true)
    (hq : (s.sess c.slot.val).lastSeq = some c.seq.toNat) (hr : (s.sess c.slot.val).running = false) :
    s.withRec c self short deny body = (s.heard c.slot.val).finishMsg c.slot.val := by
  unfold State.withRec State.heard
  dsimp only
  rw [if_neg hid, hp, if_neg Bool.false_ne_true, hw, hf, hq, hr, if_neg (by decide), if_pos (by simp)]

theorem withRec_first (hid : (s.sess c.slot.val).id ≠ 0) (hp : s.upd.paused = false) (hw : s.dict.waits = []) (hf : c.first = true)
    (hnew : (s.sess c.slot.val).lastSeq ≠ some c.seq.toNat ∨ (s.sess c.slot.val).running = true) :
    s.withRec c self short deny body = (s.beginMsg c).runRec c short deny body := by
  have hold : ¬ (c.first && (s.sess c.slot.val).lastSeq == some c.seq.toNat && !(s.sess c.slot.val).running) = true := by
    rcases hnew with h | h
    · rw [beq_eq_false_iff_ne.2 h, Bool.and_false, Bool.false_and]; exact Bool.false_ne_true
    · rw [h, Bool.not_true, Bool.and_false]; exact Bool.false_ne_true
  unfold State.withRec
  dsimp only
  rw [if_neg hid, hp, if_neg Bool.false_ne_true, hw, if_neg (by decide), if_neg hold, if_pos hf]

/-! ### A message begun -/

/-- The session of a slot stands within a message of sequence number q of which no record has answered yet. -/
structure Session.Begun (x : Session) (q : Nat) : Prop where
  lastSeq : x.lastSeq = some q
  running : x.running = true
  cache : x.cache = []
  failed : x.failed = false

theorem beginMsg_begun (s : State) (c : Ctx) : ((s.beginMsg c).sess c.slot.val).Begun c.seq.toNat := by
  unfold State.beginMsg
  rw [sess_setSess, if_pos rfl]
  exact ⟨rfl, rfl, rfl, rfl⟩

/-- The response records of a record join its message's, which goes on. -/
def State.withAnswers (t : State) (i : Nat) (rs : List RespRec) : State :=
  t.setSess i { t.sess i with
    cache := (t.sess i).cache ++ rs, failed := (t.sess i).failed || rs.any (fun r => r.status != 0), running := true }

/-- The same for the last record of its message. -/
def State.withLastAnswers (t : State) (i : Nat) (rs : List RespRec) : State :=
  t.setSess i { t.sess i with
    cache := (t.sess i).cache ++ rs, failed := (t.sess i).failed || rs.any (fun r => r.status != 0), running := false }

/-- The first record of a message runs and its response records join the message's. -/
theorem runRec_begun {u t : State} {rs : List RespRec} (hu : (u.sess c.slot.val).Begun c.seq.toNat) (hform : c.form = .good)
    (hbody : body u = (rs, t)) (ht : (t.sess c.slot.val).Begun c.seq.toNat) :
    u.runRec c short deny body = if c.last then (t.withLastAnswers c.slot.val rs).finishMsg c.slot.val else t.withAnswers c.slot.val rs := by
  unfold State.runRec State.withAnswers State.withLastAnswers
  dsimp only
  rw [hu.failed, Bool.and_false, if_neg Bool.false_ne_true, if_pos hform, hbody]
  dsimp only
  rw [ht.lastSeq, ht.running, if_neg (by simp)]
  cases c.last <;> rfl
end

/-- A record runs in its turn where none is held before it. -/
theorem exec_turn {i : Instr} {r : RecCall} (hi : recordOf i = some r) {s : State} (h : s.dict.blocked = [] ∨ s.dict.waits ≠ []) :
    exec i s = .next (s.withRec r.ctx i (recShort i r) (fun t => t.recDeny i r) r.run) := by
  rw [exec_record hi]
  rcases h with h | h
  · rw [runRecord_of_none h, runTurn_record hi]
  · rw [runRecord_of_waits h, runTurn_record hi]

/-- The record that begins a message runs on the state with the message begun, and the message goes on with its answers. -/
theorem exec_begins {i : Instr} {r : RecCall} {s t : State} {rs : List RespRec} (hi : recordOf i = some r) (hb : s.begins r.ctx)
    (hrun : r.run (s.beginMsg r.ctx) = (rs, t)) (ht : (t.sess r.ctx.slot.val).Begun r.ctx.seq.toNat) :
    exec i s = .next (t.withAnswers r.ctx.slot.val rs) := by
  obtain ⟨hid, hp, hf, hl, hform, hw, hblk, hnew⟩ := hb
  rw [exec_turn hi (.inl hblk), withRec_first hid hp hw hf hnew, runRec_begun (beginMsg_begun s r.ctx) hform hrun ht, hl, if_neg Bool.false_ne_true]

/-- A record that is all of its message runs on the state with the message begun, and the message ends with its answers. -/
theorem exec_alone {i : Instr} {r : RecCall} {s t : State} {rs : List RespRec} (hi : recordOf i = some r)
    (hid : (s.sess r.ctx.slot.val).id ≠ 0) (hp : s.upd.paused = false) (hf : r.ctx.first = true) (hl : r.ctx.last = true)
    (hform : r.ctx.form = .good) (hw : s.dict.waits = []) (hblk : s.dict.blocked = [])
    (hnew : (s.sess r.ctx.slot.val).lastSeq ≠ some r.ctx.seq.toNat ∨ (s.sess r.ctx.slot.val).running = true)
    (hrun : r.run (s.beginMsg r.ctx) = (rs, t)) (ht : (t.sess r.ctx.slot.val).Begun r.ctx.seq.toNat) :
    exec i s = .next ((t.withLastAnswers r.ctx.slot.val rs).finishMsg r.ctx.slot.val) := by
  rw [exec_turn hi (.inl hblk), withRec_first hid hp hw hf hnew, runRec_begun (beginMsg_begun s r.ctx) hform hrun ht, hl, if_pos rfl]

/-- A record whose message was executed before is not run again: its message is answered once more. -/
theorem exec_again {i : Instr} {r : RecCall} {s : State} (hi : recordOf i = some r)
    (hid : (s.sess r.ctx.slot.val).id ≠ 0) (hp : s.upd.paused = false) (hf : r.ctx.first = true)
    (hw : s.dict.waits = []) (hblk : s.dict.blocked = []) (hq : (s.sess r.ctx.slot.val).lastSeq = some r.ctx.seq.toNat)
    (hr : (s.sess r.ctx.slot.val).running = false) : exec i s = .next ((s.heard r.ctx.slot.val).finishMsg r.ctx.slot.val) := by
  rw [exec_turn hi (.inl hblk), withRec_again hid hp hw hf hq hr]

/-! ### What a response record leaves unchanged -/

section
variable (t : State) (i : Nat) (rs : List RespRec)

@[simp] theorem obj_withAnswers (k : Nat) : (t.withAnswers i rs).obj k = t.obj k := rfl
@[simp] theorem num_withAnswers (k : Nat) : (t.withAnswers i rs).num k = t.num k := rfl
@[simp] theorem staged_withAnswers : (t.withAnswers i rs).dict.staged = t.dict.staged := rfl
@[simp] theorem ess_withAnswers : (t.withAnswers i rs).ess = t.ess := rfl

theorem sess_withAnswers (j : Nat) : (t.withAnswers i rs).sess j = if j = i then { t.sess i with
    cache := (t.sess i).cache ++ rs, failed := (t.sess i).failed || rs.any (fun r => r.status != 0), running := true } else t.sess j :=
  sess_setSess _ _ _ _

theorem sess_withAnswers_of_ne {j : Nat} (h : j ≠ i) : (t.withAnswers i rs).sess j = t.sess j := by
  rw [sess_withAnswers, if_neg h]

variable {t i rs}

/-- The first response records of a message are its cache. -/
theorem cache_withAnswers {q : Nat} (h : (t.sess i).Begun q) : ((t.withAnswers i rs).sess i).cache = rs := by
  rw [sess_withAnswers, if_pos rfl]
  show (t.sess i).cache ++ rs = rs
  rw [h.cache, List.nil_append]

/-- A record that answers a status alone leaves its message answered so. -/
theorem answered_withAnswers {c : Ctx} {q op ix sub st : Nat} (h : (t.sess c.slot.val).Begun q) :
    (t.withAnswers c.slot.val [⟨op, 0, ix, sub, st, []⟩]).answered c op ix sub st := cache_withAnswers h
end

end Sys2Proof.Machine
end

section
namespace Sys2Proof.Machine

/-! ### The response of a message (R44, R46) -/

/-- A response that one datagram carries leaves over UDP, sealed with the next COUNTER. -/
theorem respond_udp (s : State) {i : Nat} (q : Nat) {recs : List RespRec} (hi : 4 ≤ i) (hlen : (msgBytes 2 (s.sess i).id q 0 recs).length ≤ 1400) :
    s.respond i q recs = (s.setSess i { s.sess i with txCount := (s.sess i).txCount + 1 }).emit (s.udpResponse i q recs) := by
  unfold State.respond State.sendUdp
  dsimp only
  rw [if_pos hi, if_neg (by omega)]
  rfl

/-- A response longer than a datagram is not sent over UDP (log entry 164). -/
theorem respond_udp_of_long (s : State) {i : Nat} (q : Nat) {recs : List RespRec} (hi : 4 ≤ i)
    (hlen : 1400 < (msgBytes 2 (s.sess i).id q 0 recs).length) : s.respond i q recs = s := by
  unfold State.respond State.sendUdp
  dsimp only
  rw [if_pos hi, if_pos hlen]

/-- A message of which nothing is left to run or to wait for is answered. -/
theorem finishMsg_eq {s : State} {i q : Nat} (hq : (s.sess i).lastSeq = some q) (hr : (s.sess i).running = false) (hw : s.dict.waits = []) :
    s.finishMsg i = s.respond i q ((s.sess i).cache ++ (s.sess i).details) := by
  unfold State.finishMsg
  dsimp only
  rw [hq]
  dsimp only
  rw [hr, State.waitsFor, hw, List.any_nil, Bool.or_false, if_neg Bool.false_ne_true]

theorem length_beBytes (n v : Nat) : (beBytes n v).length = n := by
  induction n with
  | zero => rfl
  | succ n ih => exact congrArg (· + 1) ih

theorem sess_heard (s : State) (i j : Nat) : (s.heard i).sess j = if j = i then { s.sess i with lastHeard := s.now } else s.sess j :=
  sess_setSess _ _ _ _

@[simp] theorem obj_beginMsg (s : State) (c : Ctx) (k : Nat) : (s.beginMsg c).obj k = s.obj k := rfl
@[simp] theorem reg_beginMsg (s : State) (c : Ctx) (x : Nat) : (s.beginMsg c).reg x = s.reg x := rfl

end Sys2Proof.Machine
end

section
namespace Sys2Proof.Machine

/-! ### NOP (R45, R47) -/

theorem nop_begins {c : Ctx} {s : State} (hb : s.begins c) : Does (.nop c) s (fun t => t.answered c 0 0 0 0 ∧
    (t.sess c.slot).lastSeq = some c.seq.toNat ∧ (∀ k, t.obj k = s.obj k) ∧ ∀ x, t.reg x = s.reg x) := by
  have hu := beginMsg_begun s c
  refine Does.intro (exec_begins rfl hb rfl hu) ⟨answered_withAnswers hu, ?_, fun _ => rfl, fun _ => rfl⟩
  rw [sess_withAnswers, if_pos rfl]
  exact hu.lastSeq

/-- The response to a NOP alone fits one datagram. -/
theorem length_nopResponse (id q : Nat) : (msgBytes 2 id q 0 [⟨0, 0, 0, 0, 0, []⟩]).length ≤ 1400 := by
  simp [msgBytes, RespRec.wire, length_beBytes, pad4]

/-- A NOP that is all of its message, over UDP: the response leaves at once. -/
theorem nop_last {c : Ctx} {s : State} (hi : 4 ≤ c.slot.val) (hid : (s.sess c.slot).id ≠ 0) (hp : s.upd.paused = false) (hf : c.first = true)
    (hl : c.last = true) (hq : (s.sess c.slot).lastSeq ≠ some c.seq.toNat) (hw : s.dict.waits = []) (hblk : s.dict.blocked = [])
    (hform : c.form = .good) :
    Does (.nop c) s (fun t => t.out = s.out ++ [s.udpResponse c.slot c.seq.toNat [⟨0, 0, 0, 0, 0, []⟩]] ∧ ∀ k, t.obj k = s.obj k) := by
  let t := (s.beginMsg c).withLastAnswers c.slot.val [⟨0, 0, 0, 0, 0, []⟩]
  have hsess : t.sess c.slot.val = { s.sess c.slot.val with
      lastSeq := some c.seq.toNat, cache := [⟨0, 0, 0, 0, 0, []⟩], details := [], failed := false, running := false, lastHeard := s.now } := by
    simp [t, State.withLastAnswers, State.beginMsg]
  have hfinish : t.finishMsg c.slot.val = t.respond c.slot.val c.seq.toNat [⟨0, 0, 0, 0, 0, []⟩] := by
    have h := finishMsg_eq (s := t) (i := c.slot.val) (q := c.seq.toNat) (by rw [hsess]) (by rw [hsess]) hw
    rw [hsess] at h
    exact h
  have hrun := exec_alone (i := .nop c) (r := ⟨c, 0, 0, 0, fun t => ([⟨0, 0, 0, 0, 0, []⟩], t)⟩) rfl hid hp hf hl hform hw hblk
    (.inl hq) rfl (beginMsg_begun s c)
  refine Does.intro hrun ?_
  show (t.finishMsg c.slot.val).out = _ ∧ ∀ k, (t.finishMsg c.slot.val).obj k = _
  rw [hfinish, respond_udp t c.seq.toNat hi (length_nopResponse _ _)]
  refine ⟨?_, fun k => (obj_emit ..).trans (obj_setSess ..)⟩
  show s.out ++ [t.udpResponse c.slot.val c.seq.toNat [⟨0, 0, 0, 0, 0, []⟩]] = _
  rw [State.udpResponse, hsess]
  rfl

theorem nop_of_free {c : Ctx} {s : State} (hid : (s.sess c.slot).id = 0) (hblk : s.dict.blocked = []) : Does (.nop c) s (fun t => t = s) :=
  Does.intro (exec_turn rfl (.inl hblk)) (withRec_free hid)

/-- Behind a record that waits. -/
theorem nop_of_waits {c : Ctx} {s : State} (hid : (s.sess c.slot).id ≠ 0) (hp : s.upd.paused = false) (hw : s.dict.waits ≠ []) :
    Does (.nop c) s (fun t => t.dict.blocked = s.dict.blocked ++ [(c.slot.val, .nop c)] ∧
      (t.sess c.slot).cache = (s.sess c.slot).cache ∧ t.out = s.out ∧ ∀ k, t.obj k = s.obj k) := by
  refine Does.intro (exec_turn rfl (.inr hw)) ?_
  rw [withRec_waits hid hp hw]
  refine ⟨rfl, ?_, rfl, fun _ => rfl⟩
  show ((s.heard c.slot).sess c.slot).cache = _
  rw [sess_heard, if_pos rfl]

/-- The first record of a message that a pause holds joins the held records while they are fewer than 256 messages. -/
theorem holdRec_first {s : State} (i : Nat) (self : Instr) (h : s.upd.heldMsgs < 256) : s.holdRec i true self =
    { s with upd := { s.upd with heldRecs := s.upd.heldRecs ++ [self], heldMsgs := s.upd.heldMsgs + 1, heldDrop := false } } := by
  have hdrop : (true && decide (4 ≤ i) && decide (256 ≤ s.upd.heldMsgs)) = false := by
    rw [decide_eq_false (by omega : ¬ 256 ≤ s.upd.heldMsgs), Bool.and_false]
  unfold State.holdRec
  dsimp only
  rw [hdrop, if_neg Bool.false_ne_true, Bool.not_true, Bool.false_and, if_neg Bool.false_ne_true]
  rfl

theorem nop_of_paused {c : Ctx} {s : State} (hid : (s.sess c.slot).id ≠ 0) (hp : s.upd.paused = true) (hblk : s.dict.blocked = [])
    (hn : s.upd.heldMsgs < 256) (hf : c.first = true) :
    Does (.nop c) s (fun t => t.upd.heldRecs = s.upd.heldRecs ++ [.nop c] ∧ (t.sess c.slot).cache = (s.sess c.slot).cache ∧
      ∀ k, t.obj k = s.obj k) := by
  refine Does.intro (exec_turn rfl (.inl hblk)) ?_
  rw [withRec_paused hid hp]
  have hheld := holdRec_first (s := s.heard c.slot.val) c.slot.val (.nop c) hn
  rw [← hf] at hheld
  rw [hheld]
  refine ⟨rfl, ?_, fun _ => rfl⟩
  show ((s.heard c.slot).sess c.slot).cache = _
  rw [sess_heard, if_pos rfl]

end Sys2Proof.Machine
end

section
namespace Sys2Proof.Machine

/-! ### READ (R40, R44) -/

section
variable {s : State} {slot ix sub : Nat}

theorem readOne_of_refused (h : s.readCode slot ix sub ≠ 0) :
    s.readOne slot ix sub = (⟨1, 0, ix, sub, s.readCode slot ix sub, []⟩, s) := by
  unfold State.readOne
  exact if_pos h

theorem readOne_of_allowed (h : s.readCode slot ix sub = 0)
    (hlen : (encodeVal ((objDef ix sub).getD noRow).ty (s.readVal slot (objKey ix sub))).length ≤ 65535) :
    s.readOne slot ix sub = (⟨1, tyCode ((objDef ix sub).getD noRow).ty, ix, sub, 0,
      encodeVal ((objDef ix sub).getD noRow).ty (s.readVal slot (objKey ix sub))⟩, s.afterRead slot (objKey ix sub)) := by
  unfold State.readOne
  dsimp only
  rw [if_neg (by simpa using h), if_neg (by omega)]

/-- A read answers for its own subindex, and moves at most the cursors. -/
theorem readOne_spec (s : State) (slot ix sub : Nat) :
    ((s.readOne slot ix sub).1.sub = sub ∧ (s.readOne slot ix sub).1.opcode = 1 ∧ (s.readOne slot ix sub).1.ix = ix) ∧
      ((s.readOne slot ix sub).2 = s ∨ (s.readOne slot ix sub).2 = s.afterRead slot (objKey ix sub)) := by
  unfold State.readOne
  dsimp only
  split_ifs
  · exact ⟨⟨rfl, rfl, rfl⟩, .inl rfl⟩
  · exact ⟨⟨rfl, rfl, rfl⟩, .inl rfl⟩
  · exact ⟨⟨rfl, rfl, rfl⟩, .inr rfl⟩

theorem afterRead_of_ne {k : Nat} (hj : k ≠ 0x620103) (hr : k ≠ 0xA80006) : s.afterRead slot k = s := by
  unfold State.afterRead
  rw [if_neg hj, if_neg hr]

theorem journalCursor_eq : O.journalJournalCursor = 0x620102 := rfl

/-- The only object that a read moves is JOURNAL_CURSOR (R237). -/
theorem obj_afterRead (s : State) (slot : Nat) (k : Nat) {x : Nat} (hx : x ≠ 0x620102) : (s.afterRead slot k).obj x = s.obj x := by
  unfold State.afterRead
  split_ifs
  · rw [obj_setNum, journalCursor_eq, if_neg hx]
  · exact obj_setSess ..
  · rfl

/-- A read leaves the state of its message as it is. -/
theorem begun_afterRead {i q : Nat} (k : Nat) (h : (s.sess i).Begun q) : ((s.afterRead slot k).sess i).Begun q := by
  unfold State.afterRead
  split_ifs
  · rw [sess_setNum]
    exact h
  · dsimp only
    rw [sess_setSess]
    split
    · next e => subst e; exact ⟨h.lastSeq, h.running, h.cache, h.failed⟩
    · exact h
  · exact h

theorem obj_readOne (s : State) (slot ix sub : Nat) {x : Nat} (hx : x ≠ 0x620102) : (s.readOne slot ix sub).2.obj x = s.obj x := by
  rcases (readOne_spec s slot ix sub).2 with h | h <;> rw [h]
  exact obj_afterRead s slot _ hx

theorem begun_readOne {i q : Nat} (h : (s.sess i).Begun q) : ((s.readOne slot ix sub).2.sess i).Begun q := by
  rcases (readOne_spec s slot ix sub).2 with e | e <;> rw [e]
  · exact h
  · exact begun_afterRead _ h

theorem doRead_of_ne (h : sub ≠ 0) : s.doRead slot ix sub = ([(s.readOne slot ix sub).1], (s.readOne slot ix sub).2) := by
  unfold State.doRead
  exact if_pos h

theorem doRead_zero_of_missing (h : ixExists ix = false) : s.doRead slot ix 0 = ([⟨1, 0, ix, 0, 0x0003, []⟩], s) := by
  unfold State.doRead
  rw [if_neg (by simp), h, if_pos (by decide)]

end

/-- The subindices of an index read one after the other. -/
def readEach (slot ix : Nat) (l : List Nat) (p : List RespRec × State) : List RespRec × State :=
  l.foldl (fun (p : List RespRec × State) n => (p.1 ++ [(p.2.readOne slot ix n).1], (p.2.readOne slot ix n).2)) p

theorem doRead_zero {s : State} {slot ix : Nat} (hix : ixExists ix = true)
    (hany : (subsOf ix).all (fun n => s.pinnedAway (objKey ix n)) = false) :
    s.doRead slot ix 0 = readEach slot ix (s.openSubs ix) ([], s) := by
  unfold State.doRead
  rw [if_neg (by simp), hix, hany, if_neg (by decide), if_neg Bool.false_ne_true]
  rfl

/-- Each subindex is answered in its order, and only JOURNAL_CURSOR moves. -/
theorem readEach_spec (slot ix q : Nat) (l : List Nat) (p : List RespRec × State) (hb : (p.2.sess slot).Begun q)
    (hp : ∀ r, r ∈ p.1 → r.opcode = 1 ∧ r.ix = ix) :
    (readEach slot ix l p).1.map RespRec.sub = p.1.map RespRec.sub ++ l ∧
      (∀ r, r ∈ (readEach slot ix l p).1 → r.opcode = 1 ∧ r.ix = ix) ∧
      ((readEach slot ix l p).2.sess slot).Begun q ∧ ∀ k, k ≠ 0x620102 → (readEach slot ix l p).2.obj k = p.2.obj k := by
  induction l generalizing p with
  | nil => exact ⟨(List.append_nil _).symm, hp, hb, fun _ _ => rfl⟩
  | cons n l ih =>
    obtain ⟨⟨hsub, hop, hix⟩, -⟩ := readOne_spec p.2 slot ix n
    have hp' : ∀ r, r ∈ p.1 ++ [(p.2.readOne slot ix n).1] → r.opcode = 1 ∧ r.ix = ix := by
      intro r hr
      rcases List.mem_append.mp hr with hr | hr
      · exact hp r hr
      · rw [List.mem_singleton.mp hr]
        exact ⟨hop, hix⟩
    obtain ⟨hmap, hall, hbegun, hobj⟩ := ih (p.1 ++ [(p.2.readOne slot ix n).1], (p.2.readOne slot ix n).2) (begun_readOne hb) hp'
    refine ⟨?_, hall, hbegun, fun k hk => (hobj k hk).trans (obj_readOne p.2 slot ix n hk)⟩
    rw [show readEach slot ix (n :: l) p = readEach slot ix l (p.1 ++ [(p.2.readOne slot ix n).1], (p.2.readOne slot ix n).2) from rfl,
      hmap, List.map_append, List.map_singleton, hsub, List.append_assoc, List.singleton_append]

section
variable {c : Ctx} {s : State} {ix : Half} {sub : Byte}

theorem read_refused (hb : s.begins c) (hsub : sub.toNat ≠ 0) (h : (s.beginMsg c).readCode c.slot ix.toNat sub.toNat ≠ 0) :
    Does (.read c ix sub) s (fun t =>
      t.answered c 1 ix.toNat sub.toNat ((s.beginMsg c).readCode c.slot ix.toNat sub.toNat) ∧ ∀ k, t.obj k = s.obj k) := by
  have hu := beginMsg_begun s c
  have hrun : (s.beginMsg c).doRead c.slot ix.toNat sub.toNat = _ := (doRead_of_ne hsub).trans (by rw [readOne_of_refused h])
  exact Does.intro (exec_begins rfl hb hrun hu) ⟨answered_withAnswers hu, fun _ => rfl⟩

/-- A read that passes its checks, of an object whose read moves no cursor. -/
theorem read_allowed (hb : s.begins c) (hsub : sub.toNat ≠ 0) (h : (s.beginMsg c).readCode c.slot ix.toNat sub.toNat = 0)
    (hlen : (encodeVal ((objDef ix.toNat sub.toNat).getD noRow).ty
      ((s.beginMsg c).readVal c.slot (objKey ix.toNat sub.toNat))).length ≤ 65535)
    (hj : objKey ix.toNat sub.toNat ≠ 0x620103) (hr : objKey ix.toNat sub.toNat ≠ 0xA80006) :
    Does (.read c ix sub) s (fun t => (t.sess c.slot).cache = [⟨1, tyCode ((objDef ix.toNat sub.toNat).getD noRow).ty, ix.toNat, sub.toNat, 0,
      encodeVal ((objDef ix.toNat sub.toNat).getD noRow).ty ((s.beginMsg c).readVal c.slot (objKey ix.toNat sub.toNat))⟩] ∧
      ∀ k, t.obj k = s.obj k) := by
  have hu := beginMsg_begun s c
  have hrun : (s.beginMsg c).doRead c.slot ix.toNat sub.toNat = _ :=
    (doRead_of_ne hsub).trans (by rw [readOne_of_allowed h hlen, afterRead_of_ne hj hr])
  exact Does.intro (exec_begins rfl hb hrun hu) ⟨cache_withAnswers hu, fun _ => rfl⟩

theorem read_all_missing (hb : s.begins c) (hsub : sub.toNat = 0) (h : ixExists ix.toNat = false) :
    Does (.read c ix sub) s (fun t => t.answered c 1 ix.toNat 0 0x0003 ∧ ∀ k, t.obj k = s.obj k) := by
  have hu := beginMsg_begun s c
  have hrun : (s.beginMsg c).doRead c.slot ix.toNat sub.toNat = ([⟨1, 0, ix.toNat, 0, 0x0003, []⟩], s.beginMsg c) := by
    rw [hsub]
    exact doRead_zero_of_missing h
  exact Does.intro (exec_begins rfl hb hrun hu) ⟨answered_withAnswers hu, fun _ => rfl⟩

theorem read_all (hb : s.begins c) (hsub : sub.toNat = 0) (hix : ixExists ix.toNat = true)
    (hany : (subsOf ix.toNat).all (fun n => (s.beginMsg c).pinnedAway (objKey ix.toNat n)) = false) :
    Does (.read c ix sub) s (fun t => (t.sess c.slot).cache.map RespRec.sub = (s.beginMsg c).openSubs ix.toNat ∧
      (∀ r, r ∈ (t.sess c.slot).cache → r.opcode = 1 ∧ r.ix = ix.toNat) ∧ ∀ k, k ≠ 0x620102 → t.obj k = s.obj k) := by
  obtain ⟨hmap, hall, ht, hobj⟩ := readEach_spec c.slot ix.toNat c.seq.toNat ((s.beginMsg c).openSubs ix.toNat) ([], s.beginMsg c)
    (beginMsg_begun s c) (by simp)
  have hrun := doRead_zero (slot := c.slot) hix hany
  rw [← hsub] at hrun
  generalize readEach c.slot ix.toNat ((s.beginMsg c).openSubs ix.toNat) ([], s.beginMsg c) = p at *
  obtain ⟨rs, t⟩ := p
  have hcache := cache_withAnswers (rs := rs) ht
  exact Does.intro (exec_begins rfl hb hrun ht) ⟨(congrArg (List.map RespRec.sub) hcache).trans hmap, hcache.symm ▸ hall, hobj⟩

end

/-! ### READ_SEGMENT (Table 2-5) -/

theorem doReadSeg_of_domain {s : State} {slot ix sub off : Nat} (h : s.readCode slot ix sub = 0)
    (hty : ((objDef ix sub).getD noRow).ty = .domain) : s.doReadSeg slot ix sub off =
    if (s.readVal slot (objKey ix sub)).bytes.length < off then ([⟨7, 0, ix, sub, 0x000A, []⟩], s)
    else ([⟨7, 13, ix, sub, 0, beBytes 4 off ++ ((s.readVal slot (objKey ix sub)).bytes.drop off).take 4096⟩], s) := by
  have hcode : firstBad [s.readCode slot ix sub, if ((objDef ix sub).getD noRow).ty ≠ .domain then 0x0002 else 0] = 0 := by
    rw [h, hty, if_neg (by simp)]
    rfl
  unfold State.doReadSeg
  dsimp only
  rw [hcode, if_neg (by simp)]

section
variable {c : Ctx} {s : State} {ix : Half} {sub : Byte} {o : Word}

theorem readSegment_within (hb : s.begins c) (h : (s.beginMsg c).readCode c.slot ix.toNat sub.toNat = 0)
    (hty : ((objDef ix.toNat sub.toNat).getD noRow).ty = .domain)
    (ho : o.toNat ≤ ((s.beginMsg c).readVal c.slot (objKey ix.toNat sub.toNat)).bytes.length) :
    Does (.readSegment c ix sub o) s (fun t => (t.sess c.slot).cache = [⟨7, 13, ix.toNat, sub.toNat, 0,
      beBytes 4 o.toNat ++ (((s.beginMsg c).readVal c.slot (objKey ix.toNat sub.toNat)).bytes.drop o.toNat).take 4096⟩] ∧
      ∀ k, t.obj k = s.obj k) := by
  have hu := beginMsg_begun s c
  have hrun : (s.beginMsg c).doReadSeg c.slot ix.toNat sub.toNat o.toNat = _ :=
    (doReadSeg_of_domain h hty).trans (if_neg (by omega))
  exact Does.intro (exec_begins rfl hb hrun hu) ⟨cache_withAnswers hu, fun _ => rfl⟩

theorem readSegment_beyond (hb : s.begins c) (h : (s.beginMsg c).readCode c.slot ix.toNat sub.toNat = 0)
    (hty : ((objDef ix.toNat sub.toNat).getD noRow).ty = .domain)
    (ho : ((s.beginMsg c).readVal c.slot (objKey ix.toNat sub.toNat)).bytes.length < o.toNat) :
    Does (.readSegment c ix sub o) s (fun t => t.answered c 7 ix.toNat sub.toNat 0x000A ∧ ∀ k, t.obj k = s.obj k) := by
  have hu := beginMsg_begun s c
  have hrun : (s.beginMsg c).doReadSeg c.slot ix.toNat sub.toNat o.toNat = _ := (doReadSeg_of_domain h hty).trans (if_pos ho)
  exact Does.intro (exec_begins rfl hb hrun hu) ⟨answered_withAnswers hu, fun _ => rfl⟩

end

/-! ### DESCRIBE (Table 2-6) -/

/-- The response record of a DESCRIBE of one subindex. -/
def State.describeOne (s : State) (ix n : Nat) : RespRec :=
  if s.existCode ix n ≠ 0 then ⟨0x0B, 0, ix, n, s.existCode ix n, []⟩
  else ⟨0x0B, 11, ix, n, 0, s.describe (objKey ix n) ((objDef ix n).getD noRow)⟩

theorem describeOne_sub (s : State) (ix n : Nat) : (s.describeOne ix n).sub = n := by
  unfold State.describeOne
  split <;> rfl

theorem doDescribe_of_ne {s : State} {ix sub : Nat} (h : sub ≠ 0) : s.doDescribe ix sub = [s.describeOne ix sub] := by
  unfold State.doDescribe
  exact if_pos h

theorem doDescribe_zero {s : State} {ix : Nat} (hix : ixExists ix = true)
    (hany : (subsOf ix).all (fun n => s.pinnedAway (objKey ix n)) = false) :
    s.doDescribe ix 0 = ((subsOf ix).filter (fun n => !s.pinnedAway (objKey ix n))).map (s.describeOne ix) := by
  unfold State.doDescribe
  dsimp only
  rw [if_neg (by simp), hix, hany, if_neg (by decide), if_neg Bool.false_ne_true]
  rfl

section
variable {c : Ctx} {s : State} {ix : Half} {sub : Byte}

theorem describe_does (hb : s.begins c) : Does (.describe c ix sub) s (fun t =>
    (t.sess c.slot).cache = (s.beginMsg c).doDescribe ix.toNat sub.toNat ∧ ∀ k, t.obj k = s.obj k) :=
  Does.intro (exec_begins rfl hb rfl (beginMsg_begun s c)) ⟨cache_withAnswers (beginMsg_begun s c), fun _ => rfl⟩

theorem describe_present (hb : s.begins c) (hsub : sub.toNat ≠ 0) (h : (s.beginMsg c).existCode ix.toNat sub.toNat = 0) :
    Does (.describe c ix sub) s (fun t => (t.sess c.slot).cache = [⟨11, 11, ix.toNat, sub.toNat, 0,
      (s.beginMsg c).describe (objKey ix.toNat sub.toNat) ((objDef ix.toNat sub.toNat).getD noRow)⟩] ∧ ∀ k, t.obj k = s.obj k) := by
  obtain ⟨t, ht, hcache, hobj⟩ := describe_does (ix := ix) (sub := sub) hb
  refine ⟨t, ht, ?_, hobj⟩
  rw [hcache, doDescribe_of_ne hsub, State.describeOne, if_neg (by simpa using h)]

theorem describe_absent (hb : s.begins c) (hsub : sub.toNat ≠ 0) (h : (s.beginMsg c).existCode ix.toNat sub.toNat ≠ 0) :
    Does (.describe c ix sub) s (fun t =>
      t.answered c 11 ix.toNat sub.toNat ((s.beginMsg c).existCode ix.toNat sub.toNat) ∧ ∀ k, t.obj k = s.obj k) := by
  obtain ⟨t, ht, hcache, hobj⟩ := describe_does (ix := ix) (sub := sub) hb
  refine ⟨t, ht, ?_, hobj⟩
  rw [State.answered, hcache, doDescribe_of_ne hsub, State.describeOne, if_pos h]

theorem describe_all (hb : s.begins c) (hsub : sub.toNat = 0) (hix : ixExists ix.toNat = true)
    (hany : (subsOf ix.toNat).all (fun n => (s.beginMsg c).pinnedAway (objKey ix.toNat n)) = false) :
    Does (.describe c ix sub) s (fun t => (t.sess c.slot).cache.map RespRec.sub =
      (subsOf ix.toNat).filter (fun n => !(s.beginMsg c).pinnedAway (objKey ix.toNat n)) ∧ ∀ k, t.obj k = s.obj k) := by
  obtain ⟨t, ht, hcache, hobj⟩ := describe_does (ix := ix) (sub := sub) hb
  refine ⟨t, ht, ?_, hobj⟩
  rw [hcache, hsub, doDescribe_zero hix hany, List.map_map]
  exact (List.map_congr_left fun n _ => describeOne_sub _ _ n).trans (List.map_id _)

end

end Sys2Proof.Machine
end

section
namespace Sys2Proof.Machine

/-! ### O14 -/

/-- Settles O14: every record runs on the state with its message begun, reads it and leaves it. -/
theorem recordsRead : Obligations.RecordsRead := by
  unfold Obligations.RecordsRead
  refine ⟨fun c s => ⟨nop_begins, nop_of_free, nop_of_waits, nop_of_paused, nop_last⟩, ?_⟩
  rintro c ix sub s u hb rfl
  refine ⟨read_refused hb, ?_, read_all_missing hb, read_all hb, ?_, describe_present hb, describe_absent hb, describe_all hb⟩
  · rintro b hsub hcode rfl hlen hj hr
    exact read_allowed hb hsub hcode hlen hj hr
  · exact fun o hcode hty => ⟨readSegment_within hb hcode hty, readSegment_beyond hb hcode hty⟩

end Sys2Proof.Machine
end

section
namespace Sys2Proof.Machine

/-! ### A repeated request whose response no datagram carries (R62, log entry 164) -/

/-- The response record of a READ of 1,400 bytes: its message is longer than a datagram carries. -/
def longAnswer : RespRec := ⟨1, 2, 0x4001, 2, 0, List.replicate 1400 0⟩

/-- A session over UDP whose last request, of sequence number 7, was executed and answered with the long record. -/
def longSession : Session := { Session.free with id := 1, lastSeq := some 7, cache := [longAnswer] }

/-- The block after reset, with that session open in the first slot of UDP. -/
def longState : State := State.reset.setSess 4 longSession

/-- A record that repeats the session's last request. -/
def repeatedCtx : Ctx := ⟨4, 7, true, false, false, .good⟩

theorem sess_longState : longState.sess 4 = longSession := (sess_setSess ..).trans (if_pos rfl)

theorem longState_open : (longState.sess 4).id ≠ 0 := sess_longState ▸ Nat.one_ne_zero

theorem longState_lastSeq : (longState.sess 4).lastSeq = some 7 := sess_longState ▸ rfl

theorem longState_done : (longState.sess 4).running = false := sess_longState ▸ rfl

theorem length_longResponse : 1400 < (msgBytes 2 1 7 0 [longAnswer]).length := by decide +kernel

/-- Nothing leaves when the request is answered once more. -/
theorem finishMsg_longState : (longState.heard 4).finishMsg 4 = longState.heard 4 := by
  have hsess : (longState.heard 4).sess 4 = { longSession with lastHeard := longState.now } := by
    rw [sess_heard, if_pos rfl, sess_longState]
  rw [finishMsg_eq (s := longState.heard 4) (q := 7) (by rw [hsess]; rfl) (by rw [hsess]; rfl) rfl, hsess,
    respond_udp_of_long _ _ (Nat.le_refl 4) (by rw [hsess]; exact length_longResponse)]

theorem out_heard_longState (e : Emission) : (longState.heard 4).out ≠ longState.out ++ [e] :=
  (List.cons_ne_nil e []).symm

theorem exec_repeatedNop : exec (.nop repeatedCtx) longState = .next (longState.heard 4) :=
  (exec_again (r := ⟨repeatedCtx, 0, 0, 0, fun t => ([⟨0, 0, 0, 0, 0, []⟩], t)⟩) rfl longState_open rfl rfl rfl rfl longState_lastSeq
    longState_done).trans (congrArg _ finishMsg_longState)

/-- Refutes O3: the response to the repeated request is longer than the 1,400 bytes of a datagram, and is not sent again. -/
theorem not_repeatedRequestsAreNotExecuted : ¬ Obligations.RepeatedRequestsAreNotExecuted := by
  unfold Obligations.RepeatedRequestsAreNotExecuted
  intro h
  obtain ⟨t, ht, -, -, -, -, hudp⟩ := h (.nop repeatedCtx) ⟨repeatedCtx, 0, 0, 0, fun t => ([⟨0, 0, 0, 0, 0, []⟩], t)⟩ longState rfl
    longState_open rfl rfl longState_lastSeq longState_done rfl rfl
  obtain ⟨hout, -⟩ := hudp (Nat.le_refl 4)
  have htstate : longState.heard 4 = t := Host.Outcome.next.inj (exec_repeatedNop.symm.trans ht)
  exact out_heard_longState _ ((congrArg State.out htstate).trans hout)

/-! ### The same through CACHED_RESPONSE -/

/-- A CACHED_RESPONSE of a session's last request answers it once more. -/
theorem exec_cachedResponse {s : State} {i : Fin 36} {q : Word} (hid : (s.sess i).id ≠ 0) (hp : s.upd.paused = false)
    (hq : (s.sess i).lastSeq = some q.toNat) (hr : (s.sess i).running = false) (hw : s.dict.waits = []) (hblk : s.dict.blocked = []) :
    exec (.cachedResponse i q) s = .next ((s.heard i).finishMsg i) := by
  have hmsg : s.cachedRun i q.toNat = (s.heard i).finishMsg i := by
    unfold State.cachedRun
    exact if_pos ⟨hid, hq, by rw [hr]; rfl⟩
  show execCachedResponse i q s = _
  rw [execCachedResponse, if_neg hid, runMessage_of_free rfl hp hw hblk]
  exact congrArg Host.Outcome.next hmsg

/-- Refutes O13, by its clause for CACHED_RESPONSE: a response longer than the 1,400 bytes of a datagram is not sent again. -/
theorem not_messagesAndMailbox : ¬ Obligations.MessagesAndMailbox := by
  unfold Obligations.MessagesAndMailbox
  rintro ⟨-, h, -⟩
  obtain ⟨t, ht, hout, -⟩ := h 4 7 longState (Nat.le_refl 4) longState_open rfl longState_lastSeq longState_done rfl rfl
  have hexec := (exec_cachedResponse (i := 4) (q := 7) longState_open rfl longState_lastSeq longState_done rfl rfl).trans
    (congrArg Host.Outcome.next finishMsg_longState)
  have htstate : longState.heard 4 = t := Host.Outcome.next.inj (hexec.symm.trans ht)
  exact out_heard_longState _ ((congrArg State.out htstate).trans hout)

end Sys2Proof.Machine
end

section
namespace Sys2Proof.Machine

/-! ### A record that a check refuses (R520) -/

@[simp] theorem firstBad_zero_cons (l : List Nat) : firstBad (0 :: l) = firstBad l := if_pos rfl

@[simp] theorem firstBad_cons_of_ne {n : Nat} (h : n ≠ 0) (l : List Nat) : firstBad (n :: l) = n := if_neg h

theorem stateCode_of_safe {s : State} (h : s.flt.safe = true) {area : Nat} (ha : area ≠ 0xAFFF) (hc : area ≠ 0xCFFF) :
    s.stateCode area = 0x0009 := by
  unfold State.stateCode
  rw [h, bne_iff_ne.2 ha, bne_iff_ne.2 hc]
  rfl

/-- Of the checks of a write, that of the device's state fails first where those before it pass. -/
theorem writeCheck_of_state {s : State} {slot ix sub ty : Nat} {v : List Byte} (hex : s.existCode ix sub = 0)
    (hacc : s.accessCode ix sub ((objDef ix sub).getD noRow) = 0) (hrole : ((objDef ix sub).getD noRow).role ≤ (s.sess slot).role)
    (hst : s.stateCode (areaOf ix) ≠ 0) : (s.writeCheck slot ix sub ty v).1 = s.stateCode (areaOf ix) := by
  have hcode : s.writeCode slot ix sub ((objDef ix sub).getD noRow) = s.stateCode (areaOf ix) := by
    unfold State.writeCode
    rw [hex, hacc, if_neg (by omega), firstBad_zero_cons, firstBad_zero_cons, firstBad_zero_cons, firstBad_cons_of_ne hst]
  unfold State.writeCheck
  dsimp only
  rw [hcode, firstBad_cons_of_ne hst]

/-- A write that fails a check answers its code, and nothing more. -/
theorem doWrite_of_refused {s : State} {c : Ctx} {ix sub ty : Nat} {v : List Byte} {e : Nat} (hctl : (areaCtls.contains ix && sub == 1) = false)
    (h : (s.writeCheck c.slot ix sub ty v).1 = e) (he : e ≠ 0) : s.doWrite c ix sub ty v = ([⟨2, 0, ix, sub, e, []⟩], s) := by
  subst h
  unfold State.doWrite
  dsimp only
  rw [hctl, if_neg Bool.false_ne_true, if_pos he]

/-! ### An ENABLE that a check refuses (R53, R68) -/

theorem enableCode_of_state {s : State} {slot : Nat} {a : Half} {v : Byte} (ha : areaCtls.contains a.toNat = true)
    (hex : s.existCode a.toNat 1 = 0) (hrole : s.enableRole a.toNat ≤ (s.sess slot).role) (hst : s.stateCode a.toNat ≠ 0) :
    s.enableCode slot (enRec a v) = s.stateCode a.toNat := by
  have hsub : (if areaCtls.contains (enRec a v).area.toNat && (enRec a v).sub == 1 then 0 else 0x0005) = 0 := if_pos (by
    show (areaCtls.contains a.toNat && (1 : Byte) == 1) = true
    rw [ha]; rfl)
  unfold State.enableCode
  dsimp only
  rw [hsub, if_neg (show ¬ (s.sess slot).role < s.enableRole (enRec a v).area.toNat from Nat.not_lt.2 hrole),
    show s.existCode (enRec a v).area.toNat (enRec a v).sub.toNat = 0 from hex, firstBad_zero_cons, firstBad_zero_cons, firstBad_zero_cons,
    show s.stateCode (enRec a v).area.toNat = s.stateCode a.toNat from rfl, firstBad_cons_of_ne hst]

/-- An ENABLE of one area that fails a check of its own answers its code: the event tells of it, and no hurdle runs. -/
theorem doEnable_of_refused {s : State} {c : Ctx} {a : Half} {v : Byte} {e : Nat} (h : s.enableCode c.slot (enRec a v) = e) (he : e ≠ 0) :
    s.doEnable c 3 [enRec a v] false = ([⟨3, 0, a.toNat, 1, e, []⟩],
      (s.recordRefused (s.sess c.slot).id a.toNat e).addDetails c.slot c.seq.toNat []) := by
  have hbad : chainBad [(a.toNat, ofBe [v])] false = false := rfl
  have hpair : enPair (enRec a v) = (a.toNat, ofBe [v]) := rfl
  have hrange : List.range 1 = [0] := rfl
  have hcodes : chainCodes [(a.toNat, ofBe [v])] [e] [] = [(e, 0)] := by simp [chainCodes, hrange, he]
  have hmirror : s.mirrorSets [] = s := rfl
  have hrefuse (x : State) : x.refuseChain (s.sess c.slot).id [(a.toNat, ofBe [v])] [e] [(e, 0)] =
      x.recordRefused (s.sess c.slot).id a.toNat e := by simp [State.refuseChain, hrange, he]
  unfold State.doEnable
  simp [hpair, hbad, h, he, hrange, chainAreas, hmirror, hcodes, hrefuse, chainRecs]
  exact ⟨rfl, rfl⟩

theorem recordRefused_dict (s : State) (id a e : Nat) : (s.recordRefused id a e).dict = s.dict := by
  unfold State.recordRefused State.noteRefused
  split
  · exact raise_dict ..
  · rfl

theorem obj_recordRefused (s : State) (id a e k : Nat) : (s.recordRefused id a e).obj k = s.obj k := by
  unfold State.recordRefused State.noteRefused
  split
  · exact obj_raise ..
  · rfl

theorem sess_recordRefused (s : State) (id a e i : Nat) : (s.recordRefused id a e).sess i = s.sess i := by
  unfold State.sess
  rw [recordRefused_dict]

theorem obj_addDetails (s : State) (i q : Nat) (l : List (Nat × Nat)) (k : Nat) : (s.addDetails i q l).obj k = s.obj k := by
  unfold State.addDetails
  dsimp only
  split <;> rfl

theorem staged_addDetails (s : State) (i q : Nat) (l : List (Nat × Nat)) : (s.addDetails i q l).dict.staged = s.dict.staged := by
  unfold State.addDetails
  dsimp only
  split <;> rfl

/-- The details of a hurdle stand beside the answers of a message. -/
theorem begun_addDetails {s : State} {i q : Nat} (h : (s.sess i).Begun q) (l : List (Nat × Nat)) : ((s.addDetails i q l).sess i).Begun q := by
  unfold State.addDetails
  dsimp only
  rw [if_pos h.lastSeq, sess_setSess, if_pos rfl]
  exact ⟨h.lastSeq, h.running, h.cache, h.failed⟩

/-! ### O4 -/

section
variable {c : Ctx} {s : State}

theorem write_refused {ix : Half} {sub ty : Byte} {v : List Byte} {e : Nat} (hb : s.begins c)
    (hctl : (areaCtls.contains ix.toNat && sub.toNat == 1) = false)
    (h : ((s.beginMsg c).writeCheck c.slot ix.toNat sub.toNat ty.toNat v).1 = e) (he : e ≠ 0) :
    Does (.write c ix sub ty v) s (fun t => t.answered c 2 ix.toNat sub.toNat e ∧ ∀ k, t.obj k = s.obj k) := by
  have hu := beginMsg_begun s c
  exact Does.intro (exec_begins rfl hb (doWrite_of_refused hctl h he) hu) ⟨answered_withAnswers hu, fun _ => rfl⟩

/-- What an ENABLE of one area leaves when a check of its own refuses it. -/
def State.enableDenied (u : State) (c : Ctx) (a : Half) (e : Nat) : State :=
  (u.recordRefused (u.sess c.slot).id a.toNat e).addDetails c.slot c.seq.toNat []

theorem begun_enableDenied {u : State} (hu : (u.sess c.slot).Begun c.seq.toNat) (a : Half) (e : Nat) :
    ((u.enableDenied c a e).sess c.slot).Begun c.seq.toNat := by
  refine begun_addDetails ?_ []
  rw [sess_recordRefused]
  exact hu

/-- A refused ENABLE is answered with its code and changes neither object nor staged set. -/
theorem does_enable_refused {i : Instr} {a : Half} {v : Byte} {e : Nat} (hb : s.begins c)
    (hi : ∃ op ix sub, recordOf i = some ⟨c, op, ix, sub, fun t => t.doEnable c 3 [enRec a v] false⟩)
    (h : (s.beginMsg c).enableCode c.slot (enRec a v) = e) (he : e ≠ 0) :
    Does i s (fun t => t.answered c 3 a.toNat 1 e ∧ t.dict.staged = s.dict.staged ∧ ∀ k, t.obj k = s.obj k) := by
  obtain ⟨op, ix, sub, hi⟩ := hi
  have ht := begun_enableDenied (beginMsg_begun s c) a e
  refine Does.intro (exec_begins hi hb (doEnable_of_refused h he) ht) ⟨answered_withAnswers ht, ?_, fun k => ?_⟩
  · rw [staged_withAnswers, staged_addDetails, recordRefused_dict]
    rfl
  · rw [obj_withAnswers, obj_addDetails, obj_recordRefused, obj_beginMsg]

end

/-- Settles O4: the check of the device's state is the first that fails; a read makes no such check. -/
theorem safeStateRefusesWrites : Obligations.SafeStateRefusesWrites := by
  unfold Obligations.SafeStateRefusesWrites
  rintro c s u hb rfl hsafe
  have hstate {area : Nat} (ha : area ≠ 0xAFFF) (hc : area ≠ 0xCFFF) : (s.beginMsg c).stateCode area = 0x0009 :=
    stateCode_of_safe hsafe ha hc
  have hrole : ((s.beginMsg c).sess c.slot).role = (s.sess c.slot).role := by
    unfold State.beginMsg
    rw [sess_setSess, if_pos rfl]
  refine ⟨fun ix sub ty v hctl hex hacc hr ha hc => ?_, fun a hctl hex ha hc hr => ?_, fun ix sub hsub hcode hlen hj hq => ?_⟩
  · have h := writeCheck_of_state (ty := ty.toNat) (v := v) hex hacc (hrole ▸ hr) (by rw [hstate ha hc]; decide)
    exact write_refused hb hctl (h.trans (hstate ha hc)) (by decide)
  · have hcode (v : Byte) : (s.beginMsg c).enableCode c.slot (enRec a v) = 0x0009 :=
      (enableCode_of_state hctl hex (hrole ▸ hr) (by rw [hstate ha hc]; decide)).trans (hstate ha hc)
    exact ⟨does_enable_refused hb ⟨_, _, _, rfl⟩ (hcode 1) (by decide), does_enable_refused hb ⟨_, _, _, rfl⟩ (hcode 2) (by decide)⟩
  · obtain ⟨t, ht, hcache, hobj⟩ := read_allowed hb hsub hcode hlen hj hq
    exact ⟨t, ht, _, hcache, rfl, hobj⟩

end Sys2Proof.Machine
end

section
namespace Sys2Proof.Machine

/-! ### Sorted lists of keys -/

/-- Adding keys to a table keeps those it has and adds each key of the list. -/
theorem tfind_foldl_tput {t : Tbl Unit} {l : List Nat} {k : Nat} (h : k ∈ l ∨ tfind t k = some ()) :
    tfind (l.foldl (fun (t : Tbl Unit) x => tput t x ()) t) k = some () := by
  induction l generalizing t with
  | nil => exact h.resolve_left List.not_mem_nil
  | cons x l ih =>
    refine ih ?_
    by_cases hx : k = x
    · subst hx
      exact .inr (tfind_tput_same t k ())
    · rw [tfind_tput_ne t () hx, ← List.mem_cons.trans (or_iff_right hx)]
      exact h

theorem mem_sortNat {l : List Nat} {k : Nat} (h : k ∈ l) : k ∈ sortNat l :=
  List.mem_map_of_mem (mem_of_tfind (tfind_foldl_tput (t := []) (.inl h)))

/-! ### An emptied staged set (R49, R63) -/

/-- Whether a key's object is staged when it is written. -/
def stagedKind (k : Nat) : Bool := match objDef (keyIx k) (keySub k) with | some d => d.acc == .rws | none => false

/-- Nothing is staged in an area, and no session owns its set. -/
structure State.Unstaged (s : State) (a : Nat) : Prop where
  owner : s.stageOwner a = 0
  staged : ∀ p, p ∈ s.dict.staged → areaOf (keyIx p.1) ≠ a
  gathered : ∀ p, p ∈ s.dict.domBuf → areaOf (keyIx p.1) = a → stagedKind p.1 = false

theorem stagedKeys_eq (s : State) (a : Nat) : s.stagedKeys a = sortNat ((tkeys s.dict.staged).filter (fun k => areaOf (keyIx k) == a) ++
    (tkeys s.dict.domBuf).filter (fun k => areaOf (keyIx k) == a && stagedKind k)) := by
  unfold State.stagedKeys stagedKind
  rfl

theorem State.Unstaged.keys {s : State} {a : Nat} (h : s.Unstaged a) : s.stagedKeys a = [] := by
  have hstaged : (tkeys s.dict.staged).filter (fun k => areaOf (keyIx k) == a) = [] := by
    refine List.filter_eq_nil_iff.2 fun k hk => ?_
    obtain ⟨p, hp, rfl⟩ := List.mem_map.1 hk
    simpa using h.staged p hp
  have hgathered : (tkeys s.dict.domBuf).filter (fun k => areaOf (keyIx k) == a && stagedKind k) = [] := by
    refine List.filter_eq_nil_iff.2 fun k hk => ?_
    obtain ⟨p, hp, rfl⟩ := List.mem_map.1 hk
    simpa using h.gathered p hp
  rw [stagedKeys_eq, hstaged, hgathered]
  rfl

theorem stageOwner_clearStage (s : State) (a b : Nat) : (s.clearStage a).stageOwner b = if b = a then 0 else s.stageOwner b :=
  tget_tset ownerNone s.dict.owners a b 0

/-- What gathers for an area's staged set is among its keys. -/
theorem mem_stagedKeys_of_gathered {s : State} {p : Nat × List Byte} (hp : p ∈ s.dict.domBuf) (hk : stagedKind p.1 = true) :
    p.1 ∈ s.stagedKeys (areaOf (keyIx p.1)) := by
  rw [stagedKeys_eq]
  refine mem_sortNat (List.mem_append_right _ (List.mem_filter.2 ⟨List.mem_map_of_mem hp, ?_⟩))
  rw [hk, beq_self_eq_true]
  rfl

theorem unstaged_clearStage (s : State) (a : Nat) : (s.clearStage a).Unstaged a where
  owner := (stageOwner_clearStage s a a).trans (if_pos rfl)
  staged p hp := by simpa using (List.mem_filter.1 hp).2
  gathered p hp ha := by
    obtain ⟨hmem, hkeep⟩ := List.mem_filter.1 hp
    by_contra hk
    have := mem_stagedKeys_of_gathered hmem (by simpa using hk)
    rw [ha] at this
    simp [this] at hkeep

/-- Emptying a staged set fills no other. -/
theorem State.Unstaged.clearStage {s : State} {a : Nat} (h : s.Unstaged a) (b : Nat) : (s.clearStage b).Unstaged a where
  owner := by
    rw [stageOwner_clearStage, h.owner, ite_self]
  staged p hp := h.staged p (List.mem_filter.1 hp).1
  gathered p hp := h.gathered p (List.mem_filter.1 hp).1

/-- Only the dictionary says what is staged. -/
theorem State.Unstaged.of_dict {s t : State} {a : Nat} (h : s.Unstaged a) (e1 : t.dict.owners = s.dict.owners)
    (e2 : t.dict.staged = s.dict.staged) (e3 : t.dict.domBuf = s.dict.domBuf) : t.Unstaged a where
  owner := (congrArg (tget ownerNone · a) e1).trans h.owner
  staged := e2 ▸ h.staged
  gathered := e3 ▸ h.gathered

theorem State.Unstaged.raise {s : State} {a : Nat} (h : s.Unstaged a) (code : Nat) (b : List Byte) : (s.raise code b).Unstaged a :=
  h.of_dict (by rw [raise_dict]) (by rw [raise_dict]) (by rw [raise_dict])

/-- Each area of a list is emptied, and stays empty while the others are. -/
theorem unstaged_stagesDiscarded {s : State} {id a : Nat} {l : List Nat} (h : a ∈ l ∨ s.Unstaged a) : (s.stagesDiscarded id l).Unstaged a := by
  induction l generalizing s with
  | nil => exact h.resolve_left List.not_mem_nil
  | cons b l ih =>
    refine ih ?_
    rcases h with h | h
    · rcases List.mem_cons.1 h with rfl | h
      · exact .inr ((unstaged_clearStage s a).raise _ _)
      · exact .inl h
    · exact .inr ((h.clearStage b).raise _ _)

theorem mem_ownedAreas {s : State} {a id : Nat} (h : s.stageOwner a = id) (hid : id ≠ 0) : a ∈ s.ownedAreas id := by
  unfold State.stageOwner tget at h
  cases ho : tfind s.dict.owners a with
  | none =>
    rw [ho] at h
    exact absurd h.symm hid
  | some v =>
    rw [ho] at h
    exact List.mem_map.2 ⟨(a, v), List.mem_filter.2 ⟨mem_of_tfind ho, beq_iff_eq.2 h⟩, rfl⟩

/-! ### The end of a session (R63) -/

theorem busyCleared_dict (s : State) (i : Nat) : (s.busyCleared i).dict = s.dict := by
  unfold State.busyCleared
  split
  · exact setReg_dict ..
  · rfl

theorem obj_busyCleared (s : State) (i k : Nat) : (s.busyCleared i).obj k = s.obj k := by
  unfold State.busyCleared
  split
  · exact obj_setReg ..
  · rfl

theorem obj_stagesDiscarded (s : State) (id : Nat) (l : List Nat) (k : Nat) : (s.stagesDiscarded id l).obj k = s.obj k :=
  foldl_same (fun x => x.obj k) l (fun x a => obj_raise (x.clearStage a) _ _ k) s

/-- An event whose source counted nothing before it is counted once. -/
theorem Counted.of_source {code n : Nat} {s u t : State} (hn : evtSource code = some n) (h : u.reg (rEvtCount n) = s.reg (rEvtCount n))
    (k : Counted code u t) : Counted code s t := by
  intro m hm
  obtain rfl := Option.some.inj (hn.symm.trans hm)
  rw [k n hn, h]

section
variable {s : State} {i : Nat} (hid : (s.sess i).id ≠ 0) (cause : Nat)
include hid

theorem subs_endSession : (s.endSession i cause).dict.subs =
    (s.stagesDiscarded (s.sess i).id (s.ownedAreas (s.sess i).id)).dict.subs.filter (fun y => y.slot != i) := by
  rw [endSession_eq s hid, raise_dict]
  show ((State.slotForgotten _ i).busyCleared i).dict.subs = _
  rw [busyCleared_dict]
  rfl

theorem slot_ne_of_mem_subs_endSession {y : Subscr} (hy : y ∈ (s.endSession i cause).dict.subs) : y.slot ≠ i := by
  rw [subs_endSession hid] at hy
  simpa using (List.mem_filter.1 hy).2

theorem unstaged_endSession {a : Nat} (ha : s.stageOwner a = (s.sess i).id) : (s.endSession i cause).Unstaged a := by
  rw [endSession_eq s hid]
  have h := unstaged_stagesDiscarded (s := s) (id := (s.sess i).id) (.inl (mem_ownedAreas ha hid))
  refine State.Unstaged.raise (h.of_dict ?_ ?_ ?_) _ _
  all_goals
    simp only [State.setSess, busyCleared_dict]
    rfl

theorem counted_endSession : Counted 0x0002 s (s.endSession i cause) := by
  rw [endSession_eq s hid]
  refine Counted.of_source evtSource_sessionEnd ?_ (raise_counts _ _ _)
  rw [reg_setSess, reg_busyCleared_of_ne _ _ (by unfold rEvtCount rMbx; omega), reg_slotForgotten, count_stagesDiscarded _ _ _ (by decide)]

end

theorem obj_endSession (s : State) (i cause k : Nat) : (s.endSession i cause).obj k = s.obj k := by
  by_cases hid : (s.sess i).id = 0
  · rw [endSession_free hid]
  · rw [endSession_eq s hid, obj_raise, obj_setSess, obj_busyCleared]
    exact obj_stagesDiscarded ..

end Sys2Proof.Machine
end

section
namespace Sys2Proof.Machine

/-! ### The handshake over UDP (R58–R60) -/

/-- What was sent before an event stays sent. -/
theorem mem_out_raise {s : State} {e : Emission} (h : e ∈ s.out) (code : Nat) (b : List Byte) : e ∈ (s.raise code b).out := by
  have hsignal (x : State) (v : Nat) (hx : e ∈ x.out) : e ∈ (x.signal v).out := by
    unfold State.signal State.sendVec
    split
    · exact List.mem_append_left _ hx
    · exact hx
  have hrecord (x : State) (c : Nat) (p : List Byte) (y z : Nat) : (x.record c p y z).out = x.out := by
    unfold State.record
    dsimp only
    split_ifs <;> rfl
  unfold State.raise
  rw [hrecord]
  unfold State.evtCountSignal
  split
  · exact h
  · dsimp only
    split_ifs
    · unfold State.evtSignal
      dsimp only
      split
      · exact hsignal _ _ h
      · exact h
    · exact h
    · exact h

theorem idAfter_bounds (s : State) (n : Nat) : 1 ≤ s.idAfter n ∧ s.idAfter n < 2 ^ 32 := by
  unfold State.idAfter
  omega

theorem helloReason_udp_barred {s : State} {src : List Byte} (h : s.barred (addrOf src) = true) (role k : Nat) :
    s.helloReason none src role k = 4 := by
  unfold State.helloReason
  rw [h]
  rfl

theorem helloReason_udp_served {s : State} {src : List Byte} {role k : Nat} (hb : s.barred (addrOf src) = false)
    (hf : s.noneFree none = false) (hk : s.keyServes none role k = true) : s.helloReason none src role k = 0 := by
  unfold State.helloReason
  rw [hb, hf, hk]
  rfl

/-- A HELLO over UDP that may be served leaves an attempt and a challenge. -/
theorem helloRun_udp {s : State} {src nc : List Byte} {role k : Nat} (h : s.helloReason none src role k = 0) :
    ∃ id nd, (1 ≤ id ∧ id < 2 ^ 32) ∧ ⟨36, id, role, k, src, nc, nd⟩ ∈ (s.helloRun none src nc role k).dict.attempts ∧
      (s.helloRun none src nc role k).out = s.out ++ [.handshake none src 0x11 id (nd ++ beBytes 4 id ++ s.fuses.serial)] ∧
      (∀ x, (s.helloRun none src nc role k).obj x = s.obj x) ∧ ∀ i, (s.helloRun none src nc role k).sess i = s.sess i := by
  unfold State.helloRun
  dsimp only
  rw [if_neg (by simpa using h)]
  exact ⟨_, _, idAfter_bounds _ _, List.mem_append_right _ (List.mem_singleton_self _), rfl, fun _ => rfl, fun _ => rfl⟩

theorem reject_udp (s : State) (src : List Byte) (id reason : Nat) :
    Emission.handshake none src 0x14 id (beBytes 1 reason) ∈ (s.reject none src id reason).out ∧ Counted 0x0003 s (s.reject none src id reason) ∧
      (s.reject none src id reason).dict = s.dict :=
  ⟨mem_out_raise (List.mem_append_right _ (List.mem_singleton_self _)) _ _,
    Counted.of_eq (fun _ _ => rfl) (raise_counts (s.emit (.handshake none src 0x14 id (beBytes 1 reason))) _ _), raise_dict ..⟩

section
variable {s : State} (hon : s.dictOn = true) (hp : s.upd.paused = false) (hw : s.dict.waits = []) (hblk : s.dict.blocked = [])
include hon hp hw hblk

theorem exec_hello (src nc : List Byte) (role : Byte) (k : Half) :
    exec (.hello none src nc role k) s = .next (s.helloRun none src nc role.toNat k.toNat) := by
  show execHello none src nc role k s = _
  rw [execHello, if_pos hon, runMessage_of_free rfl hp hw hblk]
  rfl

theorem exec_proof (id : Word) (src mac : List Byte) : exec (.proof id src mac) s = .next (s.proofRun id.toNat src mac) := by
  show execProof id src mac s = _
  rw [execProof, if_pos hon, runMessage_of_free rfl hp hw hblk]
  rfl

theorem hello_served {src nc : List Byte} {role : Byte} {k : Half} (hb : s.barred (addrOf src) = false) (hf : s.noneFree none = false)
    (hk : s.keyServes none role.toNat k.toNat = true) : Does (.hello none src nc role k) s (fun t =>
      ∃ id nd, (⟨36, id, role.toNat, k.toNat, src, nc, nd⟩ : Attempt) ∈ t.dict.attempts ∧
        t.out = s.out ++ [.handshake none src 0x11 id (nd ++ beBytes 4 id ++ s.fuses.serial)] ∧ 1 ≤ id ∧ id < 2 ^ 32 ∧
        (∀ x, t.obj x = s.obj x) ∧ ∀ i, t.sess i = s.sess i) := by
  obtain ⟨id, nd, ⟨hlo, hhi⟩, hatt, hout, hobj, hsess⟩ := helloRun_udp (nc := nc) (helloReason_udp_served hb hf hk)
  exact Does.intro (exec_hello hon hp hw hblk src nc role k) ⟨id, nd, hatt, hout, hlo, hhi, hobj, hsess⟩

theorem hello_barred {src nc : List Byte} {role : Byte} {k : Half} (hb : s.barred (addrOf src) = true) :
    Does (.hello none src nc role k) s (fun t =>
      Emission.handshake none src 0x14 0 (beBytes 1 4) ∈ t.out ∧ Counted 0x0003 s t ∧ t.dict = s.dict) := by
  refine Does.intro (exec_hello hon hp hw hblk src nc role k) ?_
  unfold State.helloRun
  rw [helloReason_udp_barred hb]
  exact reject_udp s src 0 4

end

/-- The attempts of a SESSION value are at their end. -/
def State.attemptEnded (s : State) (id : Nat) : State :=
  { s with dict := { s.dict with attempts := s.dict.attempts.filter (fun b => b.id != id) } }

theorem id_ne_of_mem_attemptEnded {s : State} {id : Nat} {b : Attempt} (h : b ∈ (s.attemptEnded id).dict.attempts) : b.id ≠ id := by
  simpa using (List.mem_filter.1 h).2

section
variable {s : State} {id : Nat} {src mac : List Byte} {a : Attempt}
  (hfind : s.dict.attempts.find? (fun b => b.id == id && (decide (b.slot < 4) || b.source == src)) = some a) (hslot : a.slot = 36)
include hfind hslot

theorem proofRun_udp_wrong (h : mac ≠ hsMac (s.roleKey a.keySlot) "zhonal proof" a.nc a.nd a.id a.role) :
    s.proofRun id src mac = ((s.attemptEnded id).reject none a.source a.id 1).noteFail (addrOf a.source) := by
  unfold State.proofRun
  rw [hfind]
  dsimp only
  rw [dif_neg (by omega)]
  exact if_pos h

theorem proofRun_udp_right {i : Nat} (h : mac = hsMac (s.roleKey a.keySlot) "zhonal proof" a.nc a.nd a.id a.role)
    (hi : s.slotFor a = some i) (hk : s.keyServes none a.role a.keySlot = true) :
    s.proofRun id src mac = ((s.attemptEnded id).openSession i a).emit (.handshake none a.source 0x13 a.id
      (hsMac (s.roleKey a.keySlot) "zhonal accept" a.nd a.nc a.id a.role)) := by
  have hi' : (s.attemptEnded id).slotFor a = some i := hi
  have hk' : (!(s.attemptEnded id).keyServes none a.role a.keySlot) = false := congrArg not hk
  unfold State.proofRun
  rw [hfind]
  dsimp only
  rw [dif_neg (by omega)]
  unfold State.attemptEnded at hi' hk'
  refine (if_neg (not_not.2 h)).trans ?_
  rw [hi']
  dsimp only
  rw [hk', if_neg Bool.false_ne_true]
  rfl

end

/-- A handshake over UDP opens one of the slots from 4. -/
theorem four_le_of_slotFor {s : State} {a : Attempt} {i : Nat} (ha : a.slot = 36) (h : s.slotFor a = some i) : 4 ≤ i := by
  unfold State.slotFor at h
  rw [if_neg (by omega)] at h
  obtain ⟨j, -, rfl⟩ := List.mem_map.1 (List.mem_of_find?_eq_some h)
  omega

/-- The session that a handshake opens. -/
theorem openSession_spec (s : State) {i : Nat} (a : Attempt) (hi : 4 ≤ i) :
    (((s.openSession i a).sess i).id = a.id ∧ ((s.openSession i a).sess i).role = a.role ∧ ((s.openSession i a).sess i).peer = a.source ∧
      ((s.openSession i a).sess i).lastSeq = none) ∧ Counted 0x0001 s (s.openSession i a) ∧
      (s.openSession i a).dict.attempts = s.dict.attempts := by
  unfold State.openSession
  dsimp only
  rw [sess_raise, sess_setSess, if_pos rfl, raise_dict]
  exact ⟨⟨rfl, rfl, if_neg (by omega), rfl⟩, Counted.of_eq (fun _ _ => rfl) (raise_counts _ _ _), rfl⟩

section
variable {s : State} {id : Word} {src mac : List Byte} {a : Attempt} (hon : s.dictOn = true) (hp : s.upd.paused = false)
  (hw : s.dict.waits = []) (hblk : s.dict.blocked = []) (hslot : a.slot = 36)
  (hfind : s.dict.attempts.find? (fun b => b.id == id.toNat && (decide (b.slot < 4) || b.source == src)) = some a)
include hon hp hw hblk hslot hfind

theorem proof_right {i : Nat} (h : mac = hsMac (s.roleKey a.keySlot) "zhonal proof" a.nc a.nd a.id a.role) (hi : s.slotFor a = some i)
    (hk : s.keyServes none a.role a.keySlot = true) :
    Does (.proof id src mac) s (fun t => (t.sess i).id = a.id ∧ (t.sess i).role = a.role ∧
      (t.sess i).peer = a.source ∧ (t.sess i).lastSeq = none ∧ Counted 0x0001 s t ∧ Emission.handshake none a.source 0x13 a.id
        (hsMac (s.roleKey a.keySlot) "zhonal accept" a.nd a.nc a.id a.role) ∈ t.out ∧ ∀ b, b ∈ t.dict.attempts → b.id ≠ id.toNat) := by
  obtain ⟨⟨hid, hrole, hpeer, hseq⟩, hcount, hatt⟩ := openSession_spec (s.attemptEnded id.toNat) a (four_le_of_slotFor hslot hi)
  refine Does.intro ((exec_proof hon hp hw hblk id src mac).trans (congrArg _ (proofRun_udp_right hfind hslot h hi hk)))
    ⟨hid, hrole, hpeer, hseq, Counted.of_eq (fun _ _ => rfl) hcount, List.mem_append_right _ (List.mem_singleton_self _), fun b hb => ?_⟩
  exact id_ne_of_mem_attemptEnded (hatt ▸ hb)

theorem proof_wrong (h : mac ≠ hsMac (s.roleKey a.keySlot) "zhonal proof" a.nc a.nd a.id a.role) :
    Does (.proof id src mac) s (fun t => Counted 0x0003 s t ∧
      Emission.handshake none a.source 0x14 a.id (beBytes 1 1) ∈ t.out ∧ (∀ b, b ∈ t.dict.attempts → b.id ≠ id.toNat) ∧
      ∀ i, t.sess i = s.sess i) := by
  obtain ⟨hout, hcount, hdict⟩ := reject_udp (s.attemptEnded id.toNat) a.source a.id 1
  refine Does.intro ((exec_proof hon hp hw hblk id src mac).trans (congrArg _ (proofRun_udp_wrong hfind hslot h)))
    ⟨Counted.of_eq (fun _ _ => rfl) hcount, hout, fun b hb => ?_, fun i => ?_⟩
  · have hatt : ((s.attemptEnded id.toNat).reject none a.source a.id 1).dict.attempts = (s.attemptEnded id.toNat).dict.attempts :=
      congrArg DictSt.attempts hdict
    exact id_ne_of_mem_attemptEnded (hatt.subst (motive := (b ∈ ·)) hb)
  · exact congrArg (fun d => tget sessFree d.sessions i) hdict

end

/-! ### The end of a session and of a bar (R60, R63) -/

theorem close_of_waits {i : Fin 36} {s : State} (hid : (s.sess i).id ≠ 0) (hp : s.upd.paused = false) (hw : s.dict.waits ≠ []) :
    Does (.close i) s (fun t => t.dict.blocked = s.dict.blocked ++ [(i.val, .close i)] ∧ (t.sess i).id = (s.sess i).id ∧
      ∀ k, t.obj k = s.obj k) := by
  refine Does.intro (t := s.holdBehind i (.close i)) ?_ ⟨rfl, rfl, fun _ => rfl⟩
  show execClose i s = _
  rw [execClose, if_neg hid, runMessage_of_waits rfl hp hw]
  rfl

theorem close_does {i : Fin 36} {s : State} (hid : (s.sess i).id ≠ 0) (hp : s.upd.paused = false) (hw : s.dict.waits = [])
    (hblk : s.dict.blocked = []) : Does (.close i) s (fun t => (t.sess i).id = 0 ∧
      (∀ y, y ∈ t.dict.subs → y.slot ≠ i.val) ∧ (∀ a, s.stageOwner a = (s.sess i).id → t.stageOwner a = 0 ∧ t.stagedKeys a = []) ∧
      Counted 0x0002 s t ∧ ∀ k, t.obj k = s.obj k) := by
  refine Does.intro (t := s.endSession i 0) ?_ ⟨(sessId_endSession s i 0 i).trans (if_pos rfl), fun y hy => slot_ne_of_mem_subs_endSession hid 0 hy,
    fun a ha => ⟨(unstaged_endSession hid 0 ha).owner, (unstaged_endSession hid 0 ha).keys⟩, counted_endSession hid 0, obj_endSession s i 0⟩
  show execClose i s = _
  rw [execClose, if_neg hid, runMessage_of_free rfl hp hw hblk]
  rfl

theorem sessionTimeout_does {i : Fin 36} {a : Nat} {s : State} (hid : ((s.toTick a).sess i).id ≠ 0)
    (hlate : ((s.toTick a).sess i).lastHeard + 60 * tickS ≤ (s.toTick a).now) :
    Does (.sessionTimeout i a) s (fun t => (t.sess i).id = 0 ∧ (∀ y, y ∈ t.dict.subs → y.slot ≠ i.val) ∧
      (∀ x, (s.toTick a).stageOwner x = ((s.toTick a).sess i).id → t.stageOwner x = 0 ∧ t.stagedKeys x = []) ∧ Counted 0x0002 s t ∧
      ∀ k, t.obj k = s.obj k) := by
  refine Does.intro (t := (s.toTick a).endSession i 1) (congrArg _ (if_pos ⟨hid, hlate⟩)) ⟨(sessId_endSession _ i 1 i).trans (if_pos rfl),
    fun y hy => slot_ne_of_mem_subs_endSession hid 1 hy,
    fun x hx => ⟨(unstaged_endSession hid 1 hx).owner, (unstaged_endSession hid 1 hx).keys⟩,
    Counted.of_eq (fun _ _ => reg_toTick ..) (counted_endSession hid 1), fun k => (obj_endSession _ i 1 k).trans (obj_toTick ..)⟩

theorem addressBarExpiry_does (src : List Byte) (a : Nat) (s : State) :
    Does (.addressBarExpiry src a) s (fun t => (∀ r x, r ∈ t.dict.addrs → r.source = addrOf src → r.barred = some x → (s.toTick a).now < x) ∧
      (∀ r, r ∈ (s.toTick a).dict.addrs → r.barred = none → r ∈ t.dict.addrs) ∧ ∀ k, t.obj k = s.obj k) := by
  refine Does.intro rfl ⟨fun r x hr hsrc hbar => ?_, fun r hr hbar => ?_, fun k => obj_toTick s a k⟩
  · have hkeep := (List.mem_filter.1 hr).2
    simp only [hsrc, hbar, beq_self_eq_true, Bool.true_and, Bool.not_eq_true', decide_eq_false_iff_not] at hkeep
    omega
  · refine List.mem_filter.2 ⟨hr, ?_⟩
    rw [hbar, Bool.and_false]
    rfl

/-! ### Datagrams (R61) -/

theorem dropDatagram_spec (s : State) (src : List Byte) (cause : Nat) :
    Counted 0x0006 s (s.dropDatagram src cause) ∧ (s.dropDatagram src cause).dict = s.dict ∧ ∀ k, (s.dropDatagram src cause).obj k = s.obj k :=
  ⟨raise_counts _ _ _, raise_dict .., fun _ => obj_raise ..⟩

/-- An accepted COUNTER counts as received from then on. -/
theorem replayed_accept (x : Session) (n : Nat) : (x.accept n).replayed n = true := by
  unfold Session.replayed Session.accept
  dsimp only
  by_cases h : n + 64 < max x.rxTop n
  · rw [decide_eq_true h, Bool.or_true]
  · have hmem : n ∈ (n :: x.rxSeen).filter (fun c => decide (max x.rxTop n ≤ c + 64)) :=
      List.mem_filter.2 ⟨List.mem_cons_self, decide_eq_true (by omega)⟩
    rw [List.contains_iff_mem.2 hmem, Bool.true_or]

section
variable {src : List Byte} {id : Word} {n : Quad} {b : List Byte} {fr : Bool} {s : State}

/-- A datagram whose SESSION names no open session over UDP. -/
theorem datagram_of_no_session (h : ∀ i, 4 ≤ i → i < 36 → (s.sess i).id = id.toNat → id.toNat = 0) :
    Does (.udpDatagramDrop src id n b fr) s (fun t => Counted 0x0006 s t ∧ t.dict = s.dict ∧ ∀ k, t.obj k = s.obj k) := by
  have hnone : ((List.range 32).map (fun i => 4 + i)).find? (fun i => (s.sess i).id == id.toNat && id.toNat != 0) = none := by
    refine List.find?_eq_none.2 fun i hi => ?_
    obtain ⟨j, hj, rfl⟩ := List.mem_map.1 hi
    have := h (4 + j) (by omega) (by have := List.mem_range.1 hj; omega)
    simpa using this
  refine Does.intro (t := s.dropDatagram src (if fr then 2 else 0)) ?_ (dropDatagram_spec ..)
  show execUdpDatagramDrop src id n b fr s = _
  rw [execUdpDatagramDrop, hnone]

variable {i : Nat} (hi : ((List.range 32).map (fun i => 4 + i)).find? (fun i => (s.sess i).id == id.toNat && id.toNat != 0) = some i)
include hi

theorem exec_udpDatagramDrop : exec (.udpDatagramDrop src id n b fr) s =
    if fr then .next (s.dropDatagram src 2)
    else if !(s.sess i).authentic n.toNat b then .next (s.dropDatagram src 0)
    else if (s.sess i).replayed n.toNat then .next (s.dropDatagram src 1)
    else .next (s.setSess i { (s.sess i).accept n.toNat with lastHeard := s.now }) := by
  show execUdpDatagramDrop src id n b fr s = _
  rw [execUdpDatagramDrop, hi]

theorem datagram_dropped (h : fr = true ∨ (s.sess i).authentic n.toNat b = false ∨ (s.sess i).replayed n.toNat = true) :
    Does (.udpDatagramDrop src id n b fr) s (fun t => Counted 0x0006 s t ∧ t.dict = s.dict ∧ ∀ k, t.obj k = s.obj k) := by
  have hdrop : ∃ cause, exec (.udpDatagramDrop src id n b fr) s = .next (s.dropDatagram src cause) := by
    rw [exec_udpDatagramDrop hi]
    split_ifs with h1 h2 h3
    · exact ⟨2, rfl⟩
    · exact ⟨0, rfl⟩
    · exact ⟨1, rfl⟩
    · rcases h with h | h | h
      · exact absurd h h1
      · exact absurd (by rw [h]; rfl) h2
      · exact absurd h h3
  obtain ⟨cause, hexec⟩ := hdrop
  exact Does.intro hexec (dropDatagram_spec ..)

theorem datagram_accepted (hfr : fr = false) (ha : (s.sess i).authentic n.toNat b = true) (hr : (s.sess i).replayed n.toNat = false) :
    Does (.udpDatagramDrop src id n b fr) s (fun t => (t.sess i).rxTop = max (s.sess i).rxTop n.toNat ∧ (t.sess i).lastHeard = s.now ∧
      (t.sess i).replayed n.toNat = true ∧ ∀ k, t.obj k = s.obj k) := by
  have hexec : exec (.udpDatagramDrop src id n b fr) s = .next (s.setSess i { (s.sess i).accept n.toNat with lastHeard := s.now }) := by
    rw [exec_udpDatagramDrop hi, hfr, ha, hr]
    rfl
  refine Does.intro hexec ?_
  rw [sess_setSess, if_pos rfl]
  exact ⟨rfl, rfl, replayed_accept (s.sess i) n.toNat, fun k => obj_setSess ..⟩

end

/-! ### O12 -/

/-- Settles O12, command by command. -/
theorem sessionsOpenAndClose : Obligations.SessionsOpenAndClose := by
  unfold Obligations.SessionsOpenAndClose
  refine ⟨fun src nc role k s hon hp hw hblk => ⟨hello_served hon hp hw hblk, hello_barred hon hp hw hblk⟩,
    fun id src mac a s hon hp hw hblk hslot hfind =>
      ⟨fun i => proof_right hon hp hw hblk hslot hfind, proof_wrong hon hp hw hblk hslot hfind⟩,
    fun i s => close_of_waits, fun i s => close_does, ?_, ?_,
    fun src id n b fr s => ⟨datagram_of_no_session, fun i hi => ⟨datagram_dropped hi, datagram_accepted hi⟩⟩⟩
  · rintro i a s u rfl
    exact sessionTimeout_does
  · rintro src a s u rfl
    exact addressBarExpiry_does src a s

end Sys2Proof.Machine
end

section
namespace Sys2Proof.Machine

/-! ### Command objects (R48) -/

/-- A row written at once, whose value no settings bank keeps: its write does what its object's chapter says, and nothing else. -/
def isCommand (ix sub : Nat) : Bool :=
  !(areaCtls.contains ix && sub == 1) && !bankKeeps (objKey ix sub) && ((objDef ix sub).getD noRow).acc != .rws

theorem doWrite_of_allowed {s : State} {c : Ctx} {ix sub ty : Nat} {v : List Byte} {x : Val} (hctl : (areaCtls.contains ix && sub == 1) = false)
    (h : s.writeCheck c.slot ix sub ty v = (0, x)) (hacc : ((objDef ix sub).getD noRow).acc ≠ .rws) :
    s.doWrite c ix sub ty v = answer1 2 ix sub (s.effect c (objKey ix sub) x) := by
  unfold State.doWrite
  dsimp only
  rw [hctl, if_neg Bool.false_ne_true, h]
  dsimp only
  rw [if_neg (by simp), if_neg hacc]

theorem noteBank_of_unkept {k : Nat} (h : bankKeeps k = false) (s : State) : s.noteBank [k] = s := by
  unfold State.noteBank
  dsimp only
  rw [List.filter_cons_of_neg (by rw [h]; exact Bool.false_ne_true), List.filter_nil, List.map_nil, if_pos List.isEmpty_nil]

theorem effect_of_unkept {k : Nat} (h : bankKeeps k = false) (s : State) (c : Ctx) (x : Val) : s.effect c k x = s.writeEffect c k x := by
  unfold State.effect
  dsimp only
  rw [noteBank_of_unkept h, ite_self]

/-- A write of a command object that passes its checks and the object's own: it is answered with status 0. -/
theorem exec_command {i : Instr} {c : Ctx} {ix sub ty : Nat} {v : List Byte} {x : Val} {s t : State}
    (hi : recordOf i = some ⟨c, 2, ix, sub, fun t => t.doWrite c ix sub ty v⟩) (hb : s.begins c)
    (hx : (s.beginMsg c).writeCheck c.slot ix sub ty v = (0, x)) (hcmd : isCommand ix sub = true)
    (heff : (s.beginMsg c).writeEffect c (objKey ix sub) x = (0, t)) (ht : (t.sess c.slot).Begun c.seq.toNat) :
    exec i s = .next (t.withAnswers c.slot [⟨2, 0, ix, sub, 0, []⟩]) := by
  simp only [isCommand, Bool.and_eq_true, Bool.not_eq_true', bne_iff_ne, ne_eq] at hcmd
  obtain ⟨⟨hctl, hbank⟩, hacc⟩ := hcmd
  refine exec_begins hi hb ?_ ht
  show (s.beginMsg c).doWrite c ix sub ty v = _
  rw [doWrite_of_allowed hctl hx hacc, effect_of_unkept hbank, heff]
  rfl

/-- What leaves the dictionary as it is leaves the message begun. -/
theorem begun_of_dict {t : State} {s : State} {c : Ctx} (h : t.dict = (s.beginMsg c).dict) : (t.sess c.slot).Begun c.seq.toNat := by
  unfold State.sess
  rw [h]
  exact beginMsg_begun s c

theorem keyIx_objKey {ix sub : Nat} (h : sub < 256) : keyIx (objKey ix sub) = ix := by
  unfold keyIx objKey
  omega

theorem keySub_objKey {ix sub : Nat} (h : sub < 256) : keySub (objKey ix sub) = sub := by
  unfold keySub objKey
  omega

/-! ### The rows of the command objects -/

theorem isCommand_closeNow (i : Fin 36) : isCommand (0x0100 + i.val) 6 = true := by
  revert i; decide +kernel

theorem isCommand_realign (n : Fin 256) : isCommand (0x5100 + n.val) 0x1A = true := by
  revert n; decide +kernel

theorem isCommand_prbsInject (f : Fin 128) : isCommand (0x4100 + f.val) 0x0A = true := by
  revert f; decide +kernel

theorem isCommand_retrain (f : Fin 128) : isCommand (0x4100 + f.val) 0x0D = true := by
  revert f; decide +kernel

theorem isCommand_takeBatch : isCommand 0x6200 1 = true := by decide +kernel

theorem isCommand_takeVideo (o : Fin 128) : isCommand (0x6100 + o.val) 1 = true := by
  revert o; decide +kernel

theorem isCommand_selfCheck (e : Fin 16) : isCommand (0x7810 + e.val) 7 = true := by
  revert e; decide +kernel

theorem exists_of_ixIn {ix a n : Nat} (h : ixIn ix a n = true) : ∃ i : Fin n, ix = a + i.val := by
  unfold ixIn at h
  obtain ⟨hlo, hhi⟩ := of_decide_eq_true h
  exact ⟨⟨ix - a, by omega⟩, by simp only; omega⟩

theorem ixIn_eq_false {ix a n : Nat} (h : ix < a ∨ a + n ≤ ix) : ixIn ix a n = false := by
  unfold ixIn
  exact decide_eq_false (by omega)

theorem ixIn_add {a n i : Nat} (h : i < n) : ixIn (a + i) a n = true := by
  unfold ixIn
  exact decide_eq_true (by omega)

theorem isCommand_clearRow : ∀ r, r ∈ [(0x3000, 96), (0x3400, 96), (0x4010, 12), (0x4100, 128), (0x5100, 256), (0x7010, 16), (0x8010, 8)] →
    ∀ i, i < r.2 → isCommand (r.1 + i) (clearSub (r.1 + i)) = true := by decide +kernel

/-- Every COUNTERS_CLEAR is a command object. -/
theorem isCommand_countersClear {ix : Nat} {l : List Nat} (h : clearedSubs ix = some l) : isCommand ix (clearSub ix) = true := by
  unfold clearedSubs at h
  split_ifs at h with h1 h2 h3 h4 h5 h6 h7
  · obtain ⟨i, rfl⟩ := exists_of_ixIn h1; exact isCommand_clearRow (0x3000, 96) (by simp) i i.isLt
  · obtain ⟨i, rfl⟩ := exists_of_ixIn h2; exact isCommand_clearRow (0x3400, 96) (by simp) i i.isLt
  · obtain ⟨i, rfl⟩ := exists_of_ixIn h3; exact isCommand_clearRow (0x4010, 12) (by simp) i i.isLt
  · obtain ⟨i, rfl⟩ := exists_of_ixIn h4; exact isCommand_clearRow (0x4100, 128) (by simp) i i.isLt
  · obtain ⟨i, rfl⟩ := exists_of_ixIn h5; exact isCommand_clearRow (0x5100, 256) (by simp) i i.isLt
  · obtain ⟨i, rfl⟩ := exists_of_ixIn h6; exact isCommand_clearRow (0x7010, 16) (by simp) i i.isLt
  · obtain ⟨i, rfl⟩ := exists_of_ixIn h7; exact isCommand_clearRow (0x8010, 8) (by simp) i i.isLt

/-- A COUNTERS_CLEAR stands in none of the session objects. -/
theorem not_session_of_clearedSubs {ix : Nat} {l : List Nat} (h : clearedSubs ix = some l) : ixIn ix 0x0100 36 = false := by
  refine ixIn_eq_false (.inr ?_)
  by_contra hlt
  have hnone : clearedSubs ix = none := by
    unfold clearedSubs
    rw [ixIn_eq_false (by omega), ixIn_eq_false (by omega), ixIn_eq_false (by omega), ixIn_eq_false (by omega), ixIn_eq_false (by omega),
      ixIn_eq_false (by omega), ixIn_eq_false (by omega)]
    rfl
  rw [h] at hnone
  cases hnone

end Sys2Proof.Machine
end

section
namespace Sys2Proof.Machine

/-! ### What the write of each command object does -/

section
variable (s : State) (c : Ctx) (x : Val)

theorem writeEffect_closeNow (i : Fin 36) : s.writeEffect c (objKey (0x0100 + i.val) 6) x = onOne s x.toNat (fun t => t.endSession i 2) := by
  unfold State.writeEffect
  dsimp only
  rw [keyIx_objKey (by decide), if_pos (ixIn_add i.isLt), Nat.add_sub_cancel_left]

theorem writeEffect_countersClear {ix : Nat} {l : List Nat} (h : clearedSubs ix = some l) :
    s.writeEffect c (objKey ix (clearSub ix)) x = onOne s x.toNat (fun t => t.zeroSubs ix l) := by
  unfold State.writeEffect
  dsimp only
  rw [keyIx_objKey (Laws.clearSub_lt ix), keySub_objKey (Laws.clearSub_lt ix), not_session_of_clearedSubs h, if_neg Bool.false_ne_true, h, beq_self_eq_true,
    if_pos (by rfl)]
  rfl

/-- An index below or above the session objects, where the subindex clears no counters. -/
theorem writeEffect_guards {ix sub : Nat} (h : 0x0124 ≤ ix) (hsub : sub ≠ 0x1F ∧ sub ≠ 0x3F) :
    ixIn ix 0x0100 36 = false ∧ ((clearedSubs ix).isSome && sub == clearSub ix) = false := by
  refine ⟨ixIn_eq_false (.inr h), ?_⟩
  have hne : sub ≠ clearSub ix := by
    unfold clearSub
    split
    · exact hsub.2
    · exact hsub.1
  rw [beq_eq_false_iff_ne.2 hne, Bool.and_false]

theorem writeEffect_prbsInject (f : Fin 128) : s.writeEffect c (objKey (0x4100 + f.val) 0x0A) x = (0, s.prbsInject f x.toNat) := by
  obtain ⟨h1, h2⟩ := writeEffect_guards (ix := 0x4100 + f.val) (sub := 0x0A) (by omega) (by decide)
  unfold State.writeEffect
  dsimp only
  rw [keyIx_objKey (by decide), keySub_objKey (by decide), h1, h2, if_neg Bool.false_ne_true, if_neg Bool.false_ne_true, ixIn_add f.isLt,
    if_pos (by decide), Nat.add_sub_cancel_left]

theorem writeEffect_retrain (f : Fin 128) :
    s.writeEffect c (objKey (0x4100 + f.val) 0x0D) x = onOne s x.toNat (fun t => t.retrainLane f) := by
  obtain ⟨h1, h2⟩ := writeEffect_guards (ix := 0x4100 + f.val) (sub := 0x0D) (by omega) (by decide)
  unfold State.writeEffect
  dsimp only
  rw [keyIx_objKey (by decide), keySub_objKey (by decide), h1, h2, if_neg Bool.false_ne_true, if_neg Bool.false_ne_true, ixIn_add f.isLt,
    if_neg (by decide), if_pos (by decide), Nat.add_sub_cancel_left]

theorem writeEffect_realign (n : Fin 256) :
    s.writeEffect c (objKey (0x5100 + n.val) 0x1A) x = onOne s x.toNat (fun t => t.askRealign n) := by
  obtain ⟨h1, h2⟩ := writeEffect_guards (ix := 0x5100 + n.val) (sub := 0x1A) (by omega) (by decide)
  unfold State.writeEffect
  dsimp only
  rw [keyIx_objKey (by decide), keySub_objKey (by decide), h1, h2, if_neg Bool.false_ne_true, if_neg Bool.false_ne_true,
    ixIn_eq_false (.inr (by omega)), if_neg (by decide), if_neg (by decide), ixIn_add n.isLt, if_pos (by decide), Nat.add_sub_cancel_left]

theorem writeEffect_takeBatch : s.writeEffect c (objKey 0x6200 1) x = s.batchWrite x.bytes := by
  unfold State.writeEffect
  rfl

theorem writeEffect_takeVideo (o : Fin 128) : s.writeEffect c (objKey (0x6100 + o.val) 1) x = s.takeWrite o 1 x.toNat := by
  obtain ⟨h1, h2⟩ := writeEffect_guards (ix := 0x6100 + o.val) (sub := 1) (by omega) (by decide)
  unfold State.writeEffect
  dsimp only
  rw [keyIx_objKey (by decide), keySub_objKey (by decide), h1, h2, if_neg Bool.false_ne_true, if_neg Bool.false_ne_true,
    ixIn_eq_false (.inr (by omega)), if_neg (by decide), if_neg (by decide), ixIn_eq_false (a := 0x5100) (.inr (by omega)), if_neg (by decide),
    if_pos (ixIn_add o.isLt), Nat.add_sub_cancel_left]

theorem writeEffect_selfCheck (e : Fin 16) : s.writeEffect c (objKey (0x7810 + e.val) 7) x = s.selfCheckWrite e x.toNat := by
  obtain ⟨h1, h2⟩ := writeEffect_guards (ix := 0x7810 + e.val) (sub := 7) (by omega) (by decide)
  have hkey : objKey (0x7810 + e.val) 7 ≠ 0x620001 := by unfold objKey; omega
  unfold State.writeEffect
  dsimp only
  rw [keyIx_objKey (by decide), keySub_objKey (by decide), h1, h2, if_neg Bool.false_ne_true, if_neg Bool.false_ne_true,
    ixIn_eq_false (.inr (by omega)), if_neg (by decide), if_neg (by decide), ixIn_eq_false (a := 0x5100) (.inr (by omega)), if_neg (by decide),
    ixIn_eq_false (a := 0x6100) (.inr (by omega)), if_neg Bool.false_ne_true, if_neg hkey, if_pos (ixIn_add e.isLt), Nat.add_sub_cancel_left]

/-- The indexes of the audio ports. -/
theorem portOfKey_index {k d : Nat} (h : portOfKey k = some d) : 0x7020 ≤ keyIx k ∧ keyIx k < 0x7048 := by
  unfold portOfKey at h
  dsimp only at h
  split_ifs at h <;> omega

theorem clearedSubs_port {ix : Nat} (h : 0x7020 ≤ ix ∧ ix < 0x7048) : clearedSubs ix = none := by
  unfold clearedSubs
  rw [ixIn_eq_false (by omega), ixIn_eq_false (by omega), ixIn_eq_false (by omega), ixIn_eq_false (by omega), ixIn_eq_false (by omega),
    ixIn_eq_false (by omega), ixIn_eq_false (by omega)]
  rfl

theorem areaOf_port {ix : Nat} (h : 0x7020 ≤ ix ∧ ix < 0x7048) : areaOf ix = 0x77FF := by
  unfold areaOf
  rw [if_neg (by omega), if_neg (by omega), if_pos (by omega)]

theorem writeEffect_port {k d : Nat} (h : portOfKey k = some d) : s.writeEffect c k x = s.portWrite c k d x.toNat := by
  have hix := portOfKey_index h
  have hkey : 0x702000 ≤ k ∧ k < 0x704800 := by unfold keyIx at hix; omega
  unfold State.writeEffect
  dsimp only
  rw [ixIn_eq_false (by omega), if_neg Bool.false_ne_true, clearedSubs_port hix, Option.isSome_none, Bool.false_and, if_neg Bool.false_ne_true,
    ixIn_eq_false (a := 0x4100) (by omega), Bool.false_and, if_neg Bool.false_ne_true, Bool.false_and, if_neg Bool.false_ne_true,
    ixIn_eq_false (a := 0x5100) (by omega), Bool.false_and, if_neg Bool.false_ne_true, ixIn_eq_false (a := 0x6100) (by omega),
    if_neg Bool.false_ne_true, if_neg (by omega), ixIn_eq_false (a := 0x7810) (by omega), if_neg Bool.false_ne_true, if_neg (by omega),
    if_neg (by omega), if_neg (by omega), areaOf_port hix, if_neg (by decide), if_neg (by decide), if_neg (by decide), h]

end

end Sys2Proof.Machine
end

section
namespace Sys2Proof.Machine

/-! ### CLOSE_NOW, COUNTERS_CLEAR and REALIGN (R63, R106, R159) -/

theorem sess_endSession_of_ne (s : State) {i j : Nat} (h : j ≠ i) (cause : Nat) : (s.endSession i cause).sess j = s.sess j := by
  by_cases hid : (s.sess i).id = 0
  · rw [endSession_free hid]
  · rw [endSession_eq s hid, sess_raise, sess_setSess, if_neg h, sess_busyCleared, sess_slotForgotten, sess_stagesDiscarded]

theorem sess_beginMsg_of_ne (s : State) (c : Ctx) {i : Nat} (h : i ≠ c.slot.val) : (s.beginMsg c).sess i = s.sess i := by
  unfold State.beginMsg
  rw [sess_setSess, if_neg h]

theorem obj_zeroSubs (s : State) (ix : Nat) (l : List Nat) (k : Nat) :
    (s.zeroSubs ix l).obj k = if ∃ n, n ∈ l ∧ k = objKey ix n then .num 0 else s.obj k := by
  unfold State.zeroSubs
  induction l generalizing s with
  | nil => simp
  | cons n l ih =>
    rw [List.foldl_cons, ih, obj_setNum]
    by_cases hl : ∃ m, m ∈ l ∧ k = objKey ix m
    · obtain ⟨m, hm, hk⟩ := hl
      rw [if_pos ⟨m, hm, hk⟩, if_pos ⟨m, List.mem_cons_of_mem n hm, hk⟩]
    · rw [if_neg hl]
      refine if_congr ?_ rfl rfl
      constructor
      · exact fun hk => ⟨n, List.mem_cons_self, hk⟩
      · rintro ⟨m, hm, hk⟩
        rcases List.mem_cons.1 hm with rfl | hm
        · exact hk
        · exact absurd ⟨m, hm, hk⟩ hl

theorem zeroSubs_dict (s : State) (ix : Nat) (l : List Nat) : (s.zeroSubs ix l).dict = s.dict :=
  foldl_same State.dict l (fun _ _ => setNum_dict ..) s

/-- Each slot of the list is changed once where the change is the same the second time. -/
theorem slot_mapSlots {f : SlotSt → SlotSt} (hf : ∀ x, f (f x) = f x) (s : State) (l : List Nat) (m : Nat) :
    (s.mapSlots l f).slot m = if m ∈ l then f (s.slot m) else s.slot m := by
  unfold State.mapSlots
  induction l generalizing s with
  | nil => simp
  | cons n l ih =>
    rw [List.foldl_cons, ih, slot_setSlot]
    by_cases hn : m = n
    · subst hn
      simp [hf]
    · simp [hn]

theorem mapSlots_dict (s : State) (l : List Nat) (f : SlotSt → SlotSt) : (s.mapSlots l f).dict = s.dict :=
  foldl_same State.dict l (fun _ _ => setSlot_dict ..) s

theorem obj_mapSlots (s : State) (l : List Nat) (f : SlotSt → SlotSt) (k : Nat) : (s.mapSlots l f).obj k = s.obj k :=
  foldl_same (fun x => x.obj k) l (fun _ _ => obj_setSlot ..) s

section
variable {c : Ctx} {s : State} {x : Val}

theorem closeNow_does {i : Fin 36} (hb : s.begins c) (hi : i ≠ c.slot) (hid : (s.sess i).id ≠ 0)
    (hx : (s.beginMsg c).writeCheck c.slot (0x0100 + i.val) 6 1 [1] = (0, x)) (h1 : x.toNat = 1) :
    Does (.closeNow c i) s (fun t => t.answered c 2 (0x0100 + i.val) 6 0 ∧ (t.sess i).id = 0 ∧ Counted 0x0002 s t ∧
      (∀ y, y ∈ t.dict.subs → y.slot ≠ i.val) ∧ ∀ k, t.obj k = s.obj k) := by
  have hne : i.val ≠ c.slot.val := fun e => hi (Fin.ext e)
  have hopen : ((s.beginMsg c).sess i).id ≠ 0 := by rwa [sess_beginMsg_of_ne s c hne]
  have heff : (s.beginMsg c).writeEffect c (objKey (0x0100 + i.val) 6) x = (0, (s.beginMsg c).endSession i 2) := by
    rw [writeEffect_closeNow, onOne, if_pos h1]
  have ht : (((s.beginMsg c).endSession i 2).sess c.slot).Begun c.seq.toNat := by
    rw [sess_endSession_of_ne _ hne.symm]
    exact beginMsg_begun s c
  refine Does.intro (exec_command rfl hb hx (isCommand_closeNow i) heff ht) ⟨answered_withAnswers ht, ?_, ?_, ?_, fun k => ?_⟩
  · rw [sess_withAnswers_of_ne _ _ _ hne, sessId_endSession, if_pos rfl]
  · exact Counted.of_eq (fun _ _ => reg_beginMsg ..) ((counted_endSession hopen 2).then_eq fun _ _ => rfl)
  · exact fun y hy => slot_ne_of_mem_subs_endSession hopen 2 hy
  · rw [obj_withAnswers, obj_endSession, obj_beginMsg]

theorem countersClear_does {ix : Half} {l : List Nat} (hb : s.begins c) (hl : clearedSubs ix.toNat = some l)
    (hx : (s.beginMsg c).writeCheck c.slot ix.toNat (clearSub ix.toNat) 1 [1] = (0, x)) (h1 : x.toNat = 1) :
    Does (.countersClear c ix) s (fun t => t.answered c 2 ix.toNat (clearSub ix.toNat) 0 ∧ (∀ n, n ∈ l → t.num (objKey ix.toNat n) = 0) ∧
      ∀ k, (∀ n, n ∈ l → k ≠ objKey ix.toNat n) → t.obj k = s.obj k) := by
  have heff : (s.beginMsg c).writeEffect c (objKey ix.toNat (clearSub ix.toNat)) x = (0, (s.beginMsg c).zeroSubs ix.toNat l) := by
    rw [writeEffect_countersClear _ c x hl, onOne, if_pos h1]
  have ht := begun_of_dict (zeroSubs_dict (s.beginMsg c) ix.toNat l)
  refine Does.intro (exec_command rfl hb hx (isCommand_countersClear hl) heff ht) ⟨answered_withAnswers ht, fun n hn => ?_, fun k hk => ?_⟩
  · rw [State.num, obj_withAnswers, obj_zeroSubs, if_pos ⟨n, hn, rfl⟩]
    rfl
  · rw [obj_withAnswers, obj_zeroSubs, if_neg (fun ⟨n, hn, e⟩ => hk n hn e), obj_beginMsg]

theorem realign_does {n : Fin 256} {v : Byte} (hb : s.begins c) (hx : (s.beginMsg c).writeCheck c.slot (0x5100 + n.val) 0x1A 1 [v] = (0, x))
    (h1 : x.toNat = 1) : Does (.realign c n v) s (fun t => t.answered c 2 (0x5100 + n.val) 0x1A 0 ∧
      (∀ m, m ∈ (s.beginMsg c).groupSlots n → (t.slot m).realign = s.tm.pt + 1) ∧
      (∀ m, m ∉ (s.beginMsg c).groupSlots n → t.slot m = s.slot m) ∧ ∀ k, t.obj k = s.obj k) := by
  have heff : (s.beginMsg c).writeEffect c (objKey (0x5100 + n.val) 0x1A) x = (0, (s.beginMsg c).askRealign n) := by
    rw [writeEffect_realign, onOne, if_pos h1]
  have ht := begun_of_dict (mapSlots_dict (s.beginMsg c) ((s.beginMsg c).groupSlots n) (fun sl => { sl with realign := s.tm.pt + 1 }))
  have hslot (m : Nat) : ((s.beginMsg c).askRealign n).slot m =
      if m ∈ (s.beginMsg c).groupSlots n then { s.slot m with realign := s.tm.pt + 1 } else s.slot m :=
    slot_mapSlots (f := fun sl => { sl with realign := s.tm.pt + 1 }) (fun _ => rfl) _ _ m
  refine Does.intro (exec_command rfl hb hx (isCommand_realign n) heff ht) ⟨answered_withAnswers ht, fun m hm => ?_, fun m hm => ?_,
    fun k => obj_mapSlots ..⟩
  · exact (congrArg SlotSt.realign ((hslot m).trans (if_pos hm)) :)
  · exact (hslot m).trans (if_neg hm)

end

/-! ### PRBS_INJECT, RETRAIN and SELF_CHECK (R191, R207, R298) -/

/-- Errors are added while a pattern is sent. -/
theorem prbsInject_of_mode {s : State} {f : Nat} (h : s.num (O.flPrbsMode f) ≠ 0) (n : Nat) : s.prbsInject f n =
    (s.setFl f { s.fl f with inject := (s.fl f).inject + n, injectAt := max s.now (s.fl f).injectAt + n * tickUs }).emit
      (.patternErrors f (max s.now (s.fl f).injectAt) n) := by
  unfold State.prbsInject
  exact if_neg h

/-- A lane that trains: it began now, and its first frame has left. -/
theorem startTraining_spec {s : State} {f j m : Nat} (hl : s.laneLink f = some (j, m)) (hs : s.started = true) (retry : Bool) :
    (((s.startTraining f retry).fl f).phase = .training ∧ ((s.startTraining f retry).fl f).worn = (s.fl f).worn ∧
      ((s.startTraining f retry).fl f).since = s.now ∧ ((s.startTraining f retry).fl f).fails = (s.fl f).fails) ∧
      ∃ l, Emission.training f l ∈ (s.startTraining f retry).out := by
  unfold State.startTraining
  rw [hl, hs]
  unfold State.roleObj State.sendFrame
  simp only [fl_setNum, fl_emit, fl_setFl, if_true]
  exact ⟨⟨trivial, rfl, rfl, rfl⟩, _, List.mem_append_right _ (List.mem_singleton_self _)⟩

/-- The lane as RETRAIN leaves it before it trains. -/
def State.laneRenewed (s : State) (f : Nat) : State :=
  s.setFl f { s.fl f with worn := false, fails := [], low := 0, uncTimes := [] }

theorem retrainLane_of_worn {s : State} {f : Nat} (hw : (s.fl f).worn = true ∨ (s.fl f).failed = true) (hu : s.laneUsable f = true)
    (hm : s.num (O.flPrbsMode f) = 0) : s.retrainLane f = (s.laneRenewed f).startTraining f true := by
  have hworn : (!(s.fl f).worn && !(s.fl f).failed) = false := by
    rcases hw with h | h <;> simp [h]
  unfold State.retrainLane
  dsimp only
  rw [hworn, hu, hm, if_neg (by decide)]
  rfl

theorem selfCheckWrite_of_unused {s : State} {e v : Nat} (hv : v ≠ 0) (he : s.num (O.engState e) = 0) :
    s.selfCheckWrite e v = (0, { s.setNum (O.engState e) 2 with str := { s.str with checkAt := tput s.str.checkAt e s.now } }) := by
  unfold State.selfCheckWrite
  rw [if_neg hv, if_neg (not_not.2 he)]

section
variable {c : Ctx} {s : State} {x : Val}

theorem prbsInject_does {f : Fin 128} {v : Half} (hb : s.begins c)
    (hx : (s.beginMsg c).writeCheck c.slot (0x4100 + f.val) 0x0A 3 (beBytes 2 v.toNat) = (0, x)) (hmode : s.num (O.flPrbsMode f) ≠ 0) :
    Does (.prbsInject c f v) s (fun t => t.answered c 2 (0x4100 + f.val) 0x0A 0 ∧ (t.fl f).inject = (s.fl f).inject + x.toNat ∧
      ∀ k, t.obj k = s.obj k) := by
  have heff := (writeEffect_prbsInject (s.beginMsg c) c x f).trans (by rw [prbsInject_of_mode (s := s.beginMsg c) hmode])
  have ht := beginMsg_begun s c
  refine Does.intro (exec_command rfl hb hx (isCommand_prbsInject f) heff ht) ⟨answered_withAnswers ht, ?_, fun k => ?_⟩
  · exact (congrArg FabLane.inject ((fl_setFl ..).trans (if_pos rfl)) :)
  · rw [obj_withAnswers, obj_emit, obj_setFl, obj_beginMsg]

theorem retrain_does {f : Fin 128} {v : Byte} {j m : Nat} (hb : s.begins c)
    (hx : (s.beginMsg c).writeCheck c.slot (0x4100 + f.val) 0x0D 1 [v] = (0, x)) (h1 : x.toNat = 1) (hs : s.started = true)
    (hw : (s.fl f).worn = true ∨ (s.fl f).failed = true) (hm : s.num (O.flPrbsMode f) = 0) (hu : s.laneUsable f = true)
    (hl : s.laneLink f = some (j, m)) :
    Does (.retrain c f v) s (fun t => t.answered c 2 (0x4100 + f.val) 0x0D 0 ∧ (t.fl f).phase = .training ∧ (t.fl f).worn = false ∧
      (t.fl f).since = s.now ∧ (t.fl f).fails = [] ∧ ∃ l, Emission.training f l ∈ t.out) := by
  have heff : (s.beginMsg c).writeEffect c (objKey (0x4100 + f.val) 0x0D) x = (0, ((s.beginMsg c).laneRenewed f).startTraining f true) := by
    rw [writeEffect_retrain, onOne, if_pos h1, retrainLane_of_worn (s := s.beginMsg c) hw hu hm]
  have ht : ((((s.beginMsg c).laneRenewed f).startTraining f true).sess c.slot).Begun c.seq.toNat := begun_of_dict
    ((State_startTraining_keeps (by decide : maskIn 32793 32793 = true) (Keeps.refl 32793 ((s.beginMsg c).laneRenewed f)) f true).same .dict rfl)
  obtain ⟨⟨hphase, hworn, hsince, hfails⟩, hout⟩ := startTraining_spec (s := (s.beginMsg c).laneRenewed f) hl hs true
  have hfl : ((s.beginMsg c).laneRenewed f).fl f = { s.fl f with worn := false, fails := [], low := 0, uncTimes := [] } :=
    (fl_setFl ..).trans (if_pos rfl)
  rw [hfl] at hworn hfails
  exact Does.intro (exec_command rfl hb hx (isCommand_retrain f) heff ht) ⟨answered_withAnswers ht, hphase, hworn, hsince, hfails, hout⟩

theorem selfCheck_does {e : Fin 16} {v : Byte} (hb : s.begins c) (hx : (s.beginMsg c).writeCheck c.slot (0x7810 + e.val) 7 1 [v] = (0, x))
    (hv : x.toNat ≠ 0) (he : s.num (O.engState e) = 0) :
    Does (.selfCheck c e v) s (fun t => t.answered c 2 (0x7810 + e.val) 7 0 ∧ t.num (O.engState e) = 2 ∧
      tfind t.str.checkAt e.val = some s.now ∧ ∀ k, k ≠ O.engState e → t.obj k = s.obj k) := by
  have heff := (writeEffect_selfCheck (s.beginMsg c) c x e).trans (selfCheckWrite_of_unused (s := s.beginMsg c) hv he)
  have ht := beginMsg_begun s c
  refine Does.intro (exec_command rfl hb hx (isCommand_selfCheck e) heff ht) ⟨answered_withAnswers ht, ?_, tfind_tput_same .., fun k hk => ?_⟩
  · exact (num_setNum ..).trans (if_pos rfl)
  · exact (obj_setNum ..).trans (if_neg hk)

end

end Sys2Proof.Machine
end

section
namespace Sys2Proof.Machine

/-! ### The pending store of the take engine (R219, R224) -/

/-- The batches that wait, and the number the next one gets. -/
def State.takeStore (s : State) : List Batch × Nat := (s.ess.takes.batches, s.ess.takes.order)

theorem takeStore_of_ess {s t : State} (h : t.ess = s.ess) : t.takeStore = s.takeStore := by
  unfold State.takeStore
  rw [h]

theorem takeStore_raise (s : State) (code : Nat) (b : List Byte) : (s.raise code b).takeStore = s.takeStore := takeStore_of_ess (raise_ess ..)

theorem takeStore_askNeeds (s : State) (l : List Nat) : (s.askNeeds l).2.takeStore = s.takeStore :=
  takeStore_of_ess ((State_askNeeds_keeps (by decide : maskIn 32776 32776 = true) (Keeps.refl 32776 s) l).same .ess rfl)

theorem takeStore_mirror (s : State) (type : Nat) (b : List Byte) : (s.mirror type b).takeStore = s.takeStore :=
  takeStore_of_ess ((State_mirror_keeps (by decide : maskIn 131081 131081 = true) (Keeps.refl 131081 s) type b).same .ess rfl)

theorem takeStore_ringIrq (s : State) (origin : Nat) : (s.ringIrq origin).takeStore = s.takeStore :=
  takeStore_of_ess ((State_ringIrq_keeps (by decide : maskIn 136 136 = true) (Keeps.refl 136 s) origin).same .ess rfl)

theorem takeStore_pendObj (s : State) (o : Nat) : (s.pendObj o).takeStore = s.takeStore :=
  takeStore_of_ess ((State_pendObj_keeps (by decide : maskIn 1 1 = true) (Keeps.refl 1 s) o).same .ess rfl)

theorem takeStore_putEntry (s : State) (seq : Nat) (b : List Byte) : (s.putEntry seq b).takeStore = s.takeStore := by
  have hbytes (a : Nat) (l : List Byte) : (s.setBytesAt a l).takeStore = s.takeStore :=
    takeStore_of_ess ((setBytesAt_keeps_self s a l).same .ess rfl)
  unfold State.putEntry State.signal State.sendVec
  dsimp only
  split_ifs <;> exact hbytes _ _

/-- An entry of the journal changes nothing that waits. -/
theorem takeStore_journal (s : State) (status origin : Nat) (split : Bool) (r : TakeRec) (ta k : Nat) :
    (s.journal status origin split r ta k).takeStore = s.takeStore := by
  unfold State.journal
  split
  · exact takeStore_of_ess ((State_compareOwn_keeps (by decide : maskIn 131978 131978 = true) (Keeps.refl 131978 s) _ _ _).same .ess rfl)
  · dsimp only
    rw [takeStore_putEntry, takeStore_mirror]

/-- A fold that adds one element each time and leaves `f` of the state alone. -/
theorem foldl_adds_one {α β γ : Type} {f : State → γ} {g : List β × State → α → List β × State} {l : List α} {p q : List β × State}
    (hq : l.foldl g p = q) (hlen : ∀ p a, (g p a).1.length = p.1.length + 1) (hsame : ∀ p a, f (g p a).2 = f p.2) :
    q.1.length = p.1.length + l.length ∧ f q.2 = f p.2 := by
  subst hq
  refine ⟨?_, foldl_same2 f l hsame p⟩
  induction l generalizing p with
  | nil => rfl
  | cons a l ih => rw [List.foldl_cons, ih, hlen, List.length_cons]; omega

theorem takeStore_ite_ringIrq (s : State) (p : Prop) [Decidable p] (origin : Nat) :
    (if p then s else s.ringIrq origin).takeStore = s.takeStore := by
  split
  · rfl
  · exact takeStore_ringIrq s origin

theorem takeStore_ite_raise (s : State) (p : Prop) [Decidable p] (code : Nat) (b : List Byte) :
    (if p then s else s.raise code b).takeStore = s.takeStore := by
  split
  · rfl
  · exact takeStore_raise s code b

/-- A batch joins those that wait. -/
def State.pushBatch (s : State) (b : Batch) : State :=
  { s with ess := { s.ess with takes := { s.ess.takes with batches := s.ess.takes.batches ++ [b], order := s.ess.takes.order + 1 } } }

theorem takeStore_pushBatch {s t : State} (h : t.takeStore = s.takeStore) (b : Batch) :
    (t.pushBatch b).takeStore = (s.ess.takes.batches ++ [b], s.ess.takes.order + 1) :=
  congrArg (fun p : List Batch × Nat => (p.1 ++ [b], p.2 + 1)) h

/-- An accepted batch joins those that wait, as the last arrived. -/
theorem takeStore_acceptBatch (s : State) (origin outs : Nat) (recs : List (TakeRec × List (Nat × Nat))) :
    ∃ b : Batch, (s.acceptBatch origin outs recs).takeStore = (s.ess.takes.batches ++ [b], s.ess.takes.order + 1) ∧ b.origin = origin ∧
      b.order = s.ess.takes.order ∧ b.recs.length = recs.length := by
  unfold State.acceptBatch
  dsimp only
  generalize hp : List.foldl (α := List PendRec × State) _ _ (List.range recs.length) = p
  obtain ⟨hlen, hasked⟩ := foldl_adds_one (f := State.takeStore) hp (fun _ _ => List.length_append) (fun p _ => takeStore_askNeeds p.2 _)
  have hlen' : p.1.length = recs.length := by rw [hlen, List.length_nil, List.length_range, Nat.zero_add]
  rw [foldl_same State.takeStore recs (fun x q => takeStore_pendObj x q.1.output), takeStore_mirror, takeStore_ite_ringIrq]
  refine ⟨_, takeStore_pushBatch ?deferred _, rfl, congrArg Prod.snd ?deferred, hlen'⟩
  rw [takeStore_ite_raise, ← hasked]
  refine foldl_same State.takeStore _ (fun x i => ?_) p.2
  split
  · exact takeStore_journal ..
  · rfl

end Sys2Proof.Machine
end

section
namespace Sys2Proof.Machine

/-! ### TAKE_BATCH (R220) -/

/-- A batch of which every record is accepted, and every link it needs is up. -/
theorem arriveBatch_accepted {s : State} {origin : Nat} {recs : List TakeRec} (hmal : batchMalformed recs = false) (hgate : s.takeGate = 0)
    (hst : ∀ q, q ∈ recs → s.recStatus q = 0)
    (hraster : recs.any (fun q => s.outRaster q.output % 256 != ((recs.head?.map (fun p => s.outRaster p.output)).getD 0) % 256) = false)
    (hup : ∀ q, q ∈ recs → s.needsUp (s.recNeeds q (s.recChans q)) = true) :
    s.arriveBatch origin recs = (0, s.acceptBatch origin recs.length (recs.map (fun r => (r, s.recChans r)))) := by
  have hfind : (recs.map (fun r => (r, s.recStatus r))).find? (fun p => p.2 != 0) = none := by
    refine List.find?_eq_none.2 fun p hp => ?_
    obtain ⟨q, hq, rfl⟩ := List.mem_map.1 hp
    simp [hst q hq]
  have hall : ((recs.map (fun r => (r, s.recChans r))).map (fun p => s.needsUp (s.recNeeds p.1 p.2))).all id = true := by
    simpa using hup
  unfold State.arriveBatch
  dsimp only
  rw [hmal, if_neg Bool.false_ne_true, if_neg (not_not.2 hgate), hfind]
  dsimp only
  rw [hraster, if_neg Bool.false_ne_true, if_pos hall]

theorem batchWrite_of_last {s : State} {b : List Byte} {recs : List TakeRec} (hr : recs = (take32 32 b).map (decodeTake false))
    (hlast : (recs.map TakeRec.last).getLast? = some true) (hone : (recs.map TakeRec.last).dropLast.any id = false) :
    s.batchWrite b = s.arriveBatch 4 recs := by
  subst hr
  unfold State.batchWrite
  exact if_pos ⟨hlast, by rw [hone]; rfl⟩

theorem acceptBatch_dict (s : State) (origin outs : Nat) (recs : List (TakeRec × List (Nat × Nat))) :
    (s.acceptBatch origin outs recs).dict = s.dict :=
  (State_acceptBatch_keeps (by decide : maskIn 165775 165775 = true) (Keeps.refl 165775 s) origin outs recs).same .dict rfl

theorem takeBatch_does {c : Ctx} {s : State} {x : Val} {b : List Byte} {r : List TakeRec} (hb : s.begins c)
    (hx : (s.beginMsg c).writeCheck c.slot 0x6200 1 11 b = (0, x)) (hr : r = (take32 32 x.bytes).map (decodeTake false))
    (hlast : (r.map TakeRec.last).getLast? = some true) (hone : (r.map TakeRec.last).dropLast.any id = false)
    (hmal : batchMalformed r = false) (hgate : s.takeGate = 0) (hst : ∀ q, q ∈ r → s.recStatus q = 0)
    (hraster : r.any (fun q => s.outRaster q.output % 256 != ((r.head?.map (fun p => s.outRaster p.output)).getD 0) % 256) = false)
    (hup : ∀ q, q ∈ r → s.needsUp (s.recNeeds q (s.recChans q)) = true) :
    Does (.takeBatch c b) s (fun t => t.answered c 2 0x6200 1 0 ∧ t.ess.takes.order = s.ess.takes.order + 1 ∧
      ∃ y, y ∈ t.ess.takes.batches ∧ y.origin = 4 ∧ y.order = s.ess.takes.order ∧ y.recs.length = r.length) := by
  obtain ⟨y, hstore, horigin, horder, hlen⟩ :=
    takeStore_acceptBatch (s.beginMsg c) 4 r.length (r.map (fun q => (q, (s.beginMsg c).recChans q)))
  have heff : (s.beginMsg c).writeEffect c (objKey 0x6200 1) x = _ :=
    (writeEffect_takeBatch (s.beginMsg c) c x).trans ((batchWrite_of_last hr hlast hone).trans
      (arriveBatch_accepted (s := s.beginMsg c) hmal hgate hst hraster hup))
  have ht := begun_of_dict (acceptBatch_dict (s.beginMsg c) 4 r.length (r.map (fun q => (q, (s.beginMsg c).recChans q))))
  refine Does.intro (exec_command rfl hb hx isCommand_takeBatch heff ht)
    ⟨answered_withAnswers ht, congrArg Prod.snd hstore, y, ?_, horigin, horder, hlen.trans (List.length_map _)⟩
  rw [ess_withAnswers, show (State.acceptBatch _ _ _ _).ess.takes.batches = _ from congrArg Prod.fst hstore]
  exact List.mem_append_right _ (List.mem_singleton_self y)

/-! ### Writes of take state (R221) -/

theorem obj_tlSend_of_ne (s : State) (type : Nat) (b : List Byte) {k : Nat} (h : k ≠ O.twinSyncGeneration) :
    (s.tlSend type b).obj k = s.obj k := by
  have hbump : (if 2 ≤ type ∧ type ≤ 5 then s.bump O.twinSyncGeneration else s).obj k = s.obj k := by
    split
    · exact (obj_setNum ..).trans (if_neg h)
    · rfl
  have htwin (t : State) (w : TwinSt) : ({ t with twin := w } : State).obj k = t.obj k := rfl
  unfold State.tlSend
  dsimp only
  split
  · rfl
  · split
    · rw [State.tlEmit, obj_emit, htwin, hbump]
    · rw [htwin, hbump]

/-- Mirroring changes no object but SYNC_GENERATION. -/
theorem obj_mirror_of_ne (s : State) (type : Nat) (b : List Byte) {k : Nat} (h : k ≠ O.twinSyncGeneration) :
    (s.mirror type b).obj k = s.obj k := by
  unfold State.mirror
  split
  · exact obj_tlSend_of_ne s type b h
  · rfl

theorem obj_askNeeds (s : State) (l : List Nat) (k : Nat) : (s.askNeeds l).2.obj k = s.obj k := by
  have hkeeps := State_askNeeds_keeps (by decide : maskIn 32776 32776 = true) (Keeps.refl 32776 s) l
  unfold State.obj
  rw [(hkeeps.same .objs rfl).1, hkeeps.fuses]

/-- A write merged with the records that wait for its frame: it sets what it set alone, to its own value. -/
theorem mergeRec_video (a b : TakeRec) (h : b.setVideo = true) :
    (mergeRec a b).output = b.output ∧ (mergeRec a b).setVideo = true ∧ (mergeRec a b).video = b.video := by
  unfold mergeRec
  rw [h, Bool.or_true]
  exact ⟨rfl, rfl, rfl⟩

/-- The record of a write that waits: over the first of those that wait for the same frame already. -/
def mergedPend (old : List PendRec) (r : TakeRec) (chans asks : List (Nat × Nat)) (k : Nat) : PendRec :=
  match old with
  | q :: _ => ⟨mergeRec q.rec_ r, mergeChans q.chans chans, k, q.asks ++ asks⟩
  | [] => ⟨r, chans, k, asks⟩

theorem mergedPend_video (old : List PendRec) {r : TakeRec} (h : r.setVideo = true) (chans asks : List (Nat × Nat)) (k : Nat) :
    (mergedPend old r chans asks k).rec_.output = r.output ∧ (mergedPend old r chans asks k).rec_.setVideo = true ∧
      (mergedPend old r chans asks k).rec_.video = r.video := by
  cases old with
  | nil => exact ⟨rfl, h, rfl⟩
  | cons q old => exact mergeRec_video q.rec_ r h

/-- The batch of a write of output o, with what of it waits already. -/
def State.rwtBatch (s : State) (o k ta origin : Nat) (r : TakeRec) (chans asks : List (Nat × Nat)) : Batch :=
  ⟨0, origin, ta, s.ess.takes.order, false, true, 0, 0,
    [mergedPend ((s.ess.takes.batches.filter (fun b => b.isRwt o k)).flatMap (fun b => b.recs)) r chans asks k], 1⟩

theorem rwtMerge_eq (s : State) (o k ta origin : Nat) (r : TakeRec) (chans asks : List (Nat × Nat)) :
    s.rwtMerge o k ta origin r chans asks = ((s.setBatches (s.ess.takes.batches.filter (fun c => !c.isRwt o k))).pushBatch
      (s.rwtBatch o k ta origin r chans asks)).pendObj o := by
  unfold State.rwtMerge
  rfl

/-- A write of the video SID of an output waits in a batch, and its output is pending. -/
theorem rwtMerge_video (s : State) {o : Nat} (k ta origin : Nat) {r : TakeRec} (chans asks : List (Nat × Nat)) (ho : r.output = o)
    (hv : r.setVideo = true) :
    (∃ y p, y ∈ (s.rwtMerge o k ta origin r chans asks).takeStore.1 ∧ p ∈ y.recs ∧ p.rec_.output = o ∧ p.rec_.setVideo = true ∧
      p.rec_.video = r.video) ∧
    (s.rwtMerge o k ta origin r chans asks).num (O.takePending o) = 1 ∧
    ∀ j, j ≠ O.takePending o → (s.rwtMerge o k ta origin r chans asks).obj j = s.obj j := by
  obtain ⟨houtput, hset, hvideo⟩ := mergedPend_video ((s.ess.takes.batches.filter (fun b => b.isRwt o k)).flatMap (fun b => b.recs)) hv chans asks k
  have hmem : s.rwtBatch o k ta origin r chans asks ∈ s.ess.takes.batches.filter (fun c => !c.isRwt o k) ++ [s.rwtBatch o k ta origin r chans asks] :=
    List.mem_append_right _ (List.mem_singleton_self _)
  rw [rwtMerge_eq]
  refine ⟨⟨s.rwtBatch o k ta origin r chans asks, _, ?_, List.mem_singleton_self _, houtput.trans ho, hset, hvideo⟩, ?_, fun j hj => ?_⟩
  · rw [takeStore_pendObj]
    exact hmem
  · have hany : (s.ess.takes.batches.filter (fun c => !c.isRwt o k) ++ [s.rwtBatch o k ta origin r chans asks]).any
        (fun b => b.recs.any (fun q => q.rec_.output == o)) = true :=
      List.any_eq_true.2 ⟨_, hmem, List.any_eq_true.2 ⟨_, List.mem_singleton_self _, beq_iff_eq.2 (houtput.trans ho)⟩⟩
    exact (num_setNum ..).trans ((if_pos rfl).trans (congrArg b2n hany))
  · exact (obj_setNum ..).trans (if_neg hj)

/-- A write of a video SID that is accepted. -/
theorem takeWrite_video {s : State} {o v : Nat} {r : TakeRec} (hr : r = rwtRec o 1 v (s.rwtTrans o)) (hgate : s.takeGate = 0)
    (hst : s.recStatus r = 0) (hup : s.needsUp (s.recNeeds r (s.recChans r)) = true) :
    ∃ k chans asks l body, s.takeWrite o 1 v = (0, ((s.askNeeds l).2.rwtMerge o k s.tm.pt 4 r chans asks).mirror 2 body) := by
  subst hr
  unfold State.takeWrite State.rwtWrite
  dsimp only
  rw [if_neg (by simp), if_neg (show ¬ (1 : Nat) = 0x84 by decide), if_neg (not_not.2 hgate), if_neg (not_not.2 hst), hup, if_neg (by decide)]
  exact ⟨_, _, _, _, _, rfl⟩

theorem takeWrite_dict (s : State) (o : Nat) {sub : Nat} (v : Nat) : (s.takeWrite o sub v).2.dict = s.dict := by
  unfold State.takeWrite
  split
  · rfl
  · exact (State_rwtWrite_keeps (by decide : maskIn 164873 164873 = true) (Keeps.refl 164873 s) o sub v).same .dict rfl

theorem takeStateWrite_does {c : Ctx} {s : State} {x : Val} {o : Fin 128} {ty : Byte} {v : List Byte} {q : TakeRec} (hb : s.begins c)
    (hx : (s.beginMsg c).writeCheck c.slot (0x6100 + o.val) 1 ty.toNat v = (0, x)) (hq : q = rwtRec o 1 x.toNat (s.rwtTrans o))
    (hgate : s.takeGate = 0) (hst : s.recStatus q = 0) (hup : s.needsUp (s.recNeeds q (s.recChans q)) = true) :
    Does (.takeStateWrite c o 1 ty v) s (fun t => t.answered c 2 (0x6100 + o.val) 1 0 ∧ t.num (O.takePending o) = 1 ∧
      t.num (O.takeVideoSid o) = s.num (O.takeVideoSid o) ∧
      ∃ y p, y ∈ t.ess.takes.batches ∧ p ∈ y.recs ∧ p.rec_.output = o.val ∧ p.rec_.setVideo = true ∧ p.rec_.video = x.toNat) := by
  obtain ⟨k, chans, asks, l, body, hwrite⟩ := takeWrite_video (s := s.beginMsg c) hq hgate hst hup
  have heff := (writeEffect_takeVideo (s.beginMsg c) c x o).trans hwrite
  have hdict := takeWrite_dict (s.beginMsg c) o.val (sub := 1) x.toNat
  rw [hwrite] at hdict
  have ht := begun_of_dict hdict
  obtain ⟨⟨y, p, hy, hp, hout, hset, hvideo⟩, hpend, hobj⟩ := rwtMerge_video ((s.beginMsg c).askNeeds l).2 k (s.beginMsg c).tm.pt 4 chans asks
    (show q.output = o.val by rw [hq]; rfl) (show q.setVideo = true by rw [hq]; rfl)
  have hgenPending : O.takePending o ≠ O.twinSyncGeneration := by unfold O.takePending O.twinSyncGeneration; omega
  have hgenVideo : O.takeVideoSid o ≠ O.twinSyncGeneration := by unfold O.takeVideoSid O.twinSyncGeneration; omega
  have hne : O.takeVideoSid o ≠ O.takePending o := by unfold O.takeVideoSid O.takePending; omega
  refine Does.intro (exec_command rfl hb hx (isCommand_takeVideo o) heff ht) ⟨answered_withAnswers ht, ?_, ?_, y, p, ?_, hp, hout, hset, ?_⟩
  · rw [num_withAnswers, State.num, obj_mirror_of_ne _ _ _ hgenPending]
    exact hpend
  · rw [num_withAnswers, State.num, obj_mirror_of_ne _ _ _ hgenVideo, hobj _ hne, obj_askNeeds]
    rfl
  · rw [← takeStore_mirror _ 2 body] at hy
    exact hy
  · rw [hvideo, hq]
    rfl

end Sys2Proof.Machine
end

section
namespace Sys2Proof.Machine

/-! ### SIDs of audio ports (R261, R264) -/

/-- A destination's SID stands at the key that names it. -/
theorem portKey_of_portOfKey {k d : Nat} (h : portOfKey k = some d) : portKey d = k := by
  have hk : k = 256 * keyIx k + keySub k := by unfold keyIx keySub; omega
  unfold portOfKey at h
  dsimp only at h
  unfold portKey O.aesOutSidA O.aesOutSidB O.tdmTxSid
  split_ifs at h with haes htdm
  · obtain ⟨hlo, hhi, hsub⟩ := haes
    obtain rfl := Option.some.inj h
    rw [if_pos (by omega)]
    split <;> omega
  · obtain ⟨hlo, hhi, h1, h64⟩ := htdm
    obtain rfl := Option.some.inj h
    rw [if_neg (by omega)]
    omega

theorem portRow : ∀ (i : Fin 40) (sub : Fin 65), (portOfKey (objKey (0x7020 + i.val) sub.val)).isSome = true →
    (areaCtls.contains (0x7020 + i.val)) = false ∧ ((objDef (0x7020 + i.val) sub.val).getD noRow).acc ≠ .rws := by decide +kernel

/-- The SID of a port is written at once. -/
theorem port_immediate {ix sub d : Nat} (hsub : sub < 256) (h : portOfKey (objKey ix sub) = some d) :
    (areaCtls.contains ix && sub == 1) = false ∧ ((objDef ix sub).getD noRow).acc ≠ .rws := by
  have hix := portOfKey_index h
  rw [keyIx_objKey hsub] at hix
  obtain ⟨i, rfl⟩ := Nat.exists_eq_add_of_le hix.1
  have hsub' : sub < 65 := by
    unfold portOfKey at h
    dsimp only at h
    rw [keyIx_objKey hsub, keySub_objKey hsub] at h
    split_ifs at h <;> omega
  obtain ⟨hctl, hacc⟩ := portRow ⟨i, by omega⟩ ⟨sub, hsub'⟩ (by rw [h]; rfl)
  exact ⟨by rw [hctl, Bool.false_and], hacc⟩

/-! #### What the settings bank and the subscriptions leave alone -/

theorem noteBank_dict (s : State) (keys : List Nat) : (s.noteBank keys).dict = s.dict := by
  unfold State.noteBank
  dsimp only
  split
  · rfl
  · exact foldl_same State.dict s.banksNow (fun _ _ => setBank_dict ..) s

theorem obj_noteBank (s : State) (keys : List Nat) (k : Nat) : (s.noteBank keys).obj k = s.obj k := by
  have hkeeps := State_noteBank_keeps (by decide : maskIn 524494 524494 = true) (Keeps.refl 524494 s) keys
  unfold State.obj
  rw [(hkeeps.same .objs rfl).1, hkeeps.fuses]

theorem pdest_noteBank (s : State) (keys : List Nat) (d : Nat) : (s.noteBank keys).pdest d = s.pdest d := by
  have hkeeps := State_noteBank_keeps (by decide : maskIn 524494 524494 = true) (Keeps.refl 524494 s) keys
  unfold State.pdest
  rw [hkeeps.same .aud rfl]

theorem syncSubs_dict (s : State) : s.syncSubs.dict = s.dict :=
  (State_syncSubs_keeps (by decide : maskIn 32777 32777 = true) (Keeps.refl 32777 s)).same .dict rfl

theorem pdest_syncSubs (s : State) (d : Nat) : s.syncSubs.pdest d = s.pdest d := by
  have hkeeps := State_syncSubs_keeps (by decide : maskIn 32777 32777 = true) (Keeps.refl 32777 s)
  unfold State.pdest
  rw [hkeeps.same .aud rfl]

/-- What every step of a fold over a list leaves alone, the fold leaves alone. -/
theorem foldl_same_of_mem {α β : Type} (f : State → β) {g : State → α → State} {l : List α} (h : ∀ x a, a ∈ l → f (g x a) = f x) (s : State) :
    f (l.foldl g s) = f s := by
  induction l generalizing s with
  | nil => rfl
  | cons a l ih =>
    rw [List.foldl_cons, ih fun x b hb => h x b (List.mem_cons_of_mem a hb), h s a List.mem_cons_self]

theorem obj_ctlSend (s : State) (j msg reqId : Nat) (body : List Byte) (k : Nat) : (s.ctlSend j msg reqId body).obj k = s.obj k := by
  have hkeeps := State_ctlSend_keeps (by decide : maskIn 32776 32776 = true) (Keeps.refl 32776 s) j msg reqId body
  unfold State.obj
  rw [(hkeeps.same .objs rfl).1, hkeeps.fuses]

/-- The objects of links stand below those of the ports. -/
theorem obj_linkObjs_of_port (s : State) {j k : Nat} (hj : j < 12) (hk : 0x702000 ≤ k) : (s.linkObjs j).obj k = s.obj k := by
  have hkey (sub : Nat) (hsub : sub < 256) : k ≠ kLink j sub := by unfold kLink objKey; omega
  unfold State.linkObjs
  simp only [obj_setNum]
  rw [if_neg (by omega), if_neg (by omega), if_neg (hkey 12 (by decide)), if_neg (hkey 11 (by decide)), if_neg (hkey 10 (by decide)),
    if_neg (hkey 9 (by decide))]

theorem obj_dropHeld (s : State) (j ch k : Nat) : (s.dropHeld j ch).obj k = s.obj k := by
  unfold State.dropHeld
  rw [obj_ctlSend, obj_setLink]

/-- Releasing subscriptions that nothing uses changes no object of a port. -/
theorem obj_syncSubs_of_port (s : State) {k : Nat} (hk : 0x702000 ≤ k) : s.syncSubs.obj k = s.obj k := by
  unfold State.syncSubs
  refine foldl_same_of_mem (fun x => x.obj k) (fun x j hj => ?_) s
  dsimp only
  generalize hy : List.foldl _ x (x.link j).subs = y
  have hheld : y.obj k = x.obj k := by
    rw [← hy]
    refine foldl_same (fun y => y.obj k) _ (fun z h => ?_) x
    split
    · exact obj_dropHeld ..
    · split
      · rfl
      · rw [obj_ctlSend, obj_setLink]
  split
  · exact hheld
  · rw [obj_linkObjs_of_port y (List.mem_range.1 hj) hk]
    exact hheld

/-! #### A new SID -/

/-- A port that is in no transition takes a new SID: a transition from the old one begins. -/
theorem portStart_spec {s : State} {d sid : Nat} (hne : s.num (portKey d) ≠ sid) :
    (s.portStart d sid).num (portKey d) = sid ∧
      (∃ tr, ((s.portStart d sid).pdest d).tr = some tr ∧ tr.old = s.num (portKey d) ∧ tr.new = sid) ∧ (s.portStart d sid).dict = s.dict := by
  unfold State.portStart
  dsimp only
  rw [if_neg hne]
  generalize hs1 : State.noteBank _ [portKey d] = s1
  have hnum : s1.num (portKey d) = sid := by
    rw [← hs1, State.num, obj_noteBank]
    exact (num_setNum ..).trans (if_pos rfl)
  have hdest : ∃ tr, (s1.pdest d).tr = some tr ∧ tr.old = s.num (portKey d) ∧ tr.new = sid := by
    rw [← hs1, pdest_noteBank]
    exact ⟨_, congrArg PortDest.tr ((pdest_setPdest ..).trans (if_pos rfl)), rfl, rfl⟩
  have hdict : s1.dict = s.dict := by
    rw [← hs1, noteBank_dict]
    rfl
  split
  · rw [num_raise, pdest_raise, raise_dict]
    exact ⟨hnum, hdest, hdict⟩
  · exact ⟨hnum, hdest, hdict⟩

/-- The write of a SID that no peer publishes, to a port in no transition. -/
theorem portWrite_local {s : State} {c : Ctx} {k d sid : Nat} (hok : portSidOk sid = true) (hl : s.sidRemote sid = false)
    (htr : (s.pdest d).tr = none) : s.portWrite c k d sid = (0, (s.portStart d sid).syncSubs) := by
  unfold State.portWrite State.portApply
  dsimp only
  rw [hok, hl, htr, if_neg (by decide), if_pos (by rfl), if_neg (by decide)]

theorem portSidWrite_does {c : Ctx} {s : State} {x : Val} {ix : Half} {sub ty : Byte} {v : List Byte} {d : Nat} (hb : s.begins c)
    (hx : (s.beginMsg c).writeCheck c.slot ix.toNat sub.toNat ty.toNat v = (0, x)) (hd : portOfKey (objKey ix.toNat sub.toNat) = some d)
    (hok : portSidOk x.toNat = true) (hl : s.sidRemote x.toNat = false) (htr : (s.pdest d).tr = none) (hne : s.num (portKey d) ≠ x.toNat) :
    Does (.portSidWrite c ix sub ty v) s (fun t => t.answered c 2 ix.toNat sub.toNat 0 ∧ t.num (portKey d) = x.toNat ∧
      ∃ tr, (t.pdest d).tr = some tr ∧ tr.old = s.num (portKey d) ∧ tr.new = x.toNat) := by
  obtain ⟨hnum, ⟨tr, hdest, hold, hnew⟩, hdict⟩ := portStart_spec (s := s.beginMsg c) hne
  obtain ⟨hctl, hacc⟩ := port_immediate sub.isLt hd
  have hkey : 0x702000 ≤ portKey d := by
    have := portOfKey_index hd
    rw [portKey_of_portOfKey hd]
    unfold keyIx at this
    omega
  have heff : (s.beginMsg c).effect c (objKey ix.toNat sub.toNat) x =
      (0, ((s.beginMsg c).portStart d x.toNat).syncSubs.noteBank [objKey ix.toNat sub.toNat]) := by
    unfold State.effect
    rw [writeEffect_port _ c x hd, portWrite_local (s := s.beginMsg c) hok hl htr]
    dsimp only
    rw [if_pos rfl]
  generalize ht : ((s.beginMsg c).portStart d x.toNat).syncSubs.noteBank [objKey ix.toNat sub.toNat] = t at heff
  have hbegun : (t.sess c.slot).Begun c.seq.toNat :=
    begun_of_dict (ht ▸ (noteBank_dict ..).trans ((syncSubs_dict _).trans hdict))
  have hrun : (s.beginMsg c).doWrite c ix.toNat sub.toNat ty.toNat v = ([⟨2, 0, ix.toNat, sub.toNat, 0, []⟩], t) :=
    (doWrite_of_allowed hctl hx hacc).trans (by rw [heff]; rfl)
  refine Does.intro (exec_begins rfl hb hrun hbegun) ⟨answered_withAnswers hbegun, ?_, tr, ?_, hold, hnew⟩
  · rw [num_withAnswers, ← ht, State.num, obj_noteBank, obj_syncSubs_of_port _ hkey]
    exact hnum
  · show (t.pdest d).tr = _
    rw [← ht, pdest_noteBank, pdest_syncSubs]
    exact hdest

/-! ### O16 -/

/-- Settles O16, command by command. -/
theorem commandObjectsOfEssence : Obligations.CommandObjectsOfEssence := by
  unfold Obligations.CommandObjectsOfEssence
  rintro c s u x hb rfl
  exact ⟨fun i => closeNow_does hb, fun ix l => countersClear_does hb, fun n v => realign_does hb, fun f v => prbsInject_does hb,
    fun f v j m => retrain_does hb, fun b r => takeBatch_does hb, fun o ty v q => takeStateWrite_does hb,
    fun ix sub ty v d => portSidWrite_does hb, fun e v => selfCheck_does hb⟩

end Sys2Proof.Machine
end

/-! PROOFS. SDI lanes: what the rest of the block leaves of a lane alone, how lock is lost, and the statements O29, O30 and O31
(03_port_lanes_sdi.md). -/

section
namespace Sys2Proof.Machine

/-! ### What is a lane's own -/

/-- The objects of the SDI lanes, indexes 0x3000 to 0x305F (Table 3-5). -/
def LaneObj (k : Nat) : Prop := 0x300000 ≤ k ∧ k < 0x306000

theorem laneObj_iff {k : Nat} : LaneObj k ↔ 0x300000 ≤ k ∧ k < 0x306000 := Iff.rfl

/-- The sources of the events of SDI lanes, codes 0x3001 to 0x3020 (R420). -/
def LaneSource (n : Nat) : Prop := 128 ≤ n ∧ n < 160

theorem laneSource_iff {n : Nat} : LaneSource n ↔ 128 ≤ n ∧ n < 160 := Iff.rfl

/-- From `s` to `t` nothing of the SDI lanes changed: their objects, their inner state and the counters of their events. -/
def LanesSame (s t : State) : Prop :=
  (∀ k, LaneObj k → t.obj k = s.obj k) ∧ (∀ p, t.lane p = s.lane p) ∧ ∀ n, LaneSource n → t.reg (rEvtCount n) = s.reg (rEvtCount n)

theorem LanesSame.obj {s t : State} (h : LanesSame s t) : ∀ k, LaneObj k → t.obj k = s.obj k := h.1

theorem LanesSame.lane {s t : State} (h : LanesSame s t) : ∀ p, t.lane p = s.lane p := h.2.1

theorem LanesSame.count {s t : State} (h : LanesSame s t) : ∀ n, LaneSource n → t.reg (rEvtCount n) = s.reg (rEvtCount n) := h.2.2

theorem laneSource_eventWord {n : Nat} (h : LaneSource n) : EventWord (rEvtCount n) :=
  rEvtCount_eventWord (by rw [laneSource_iff] at h; omega)

/-- Group 4 of the event sources is that of the codes 0x30xx (Table 14-3). -/
theorem code_of_laneSource {code n : Nat} (h : evtSource code = some n) (hn : LaneSource n) : code / 256 = 0x30 := by
  obtain ⟨hlo, hhi⟩ := hn
  unfold evtSource at h
  split at h
  · rename_i g b hg
    have hlow := evtGroup_low hg
    obtain rfl : g = 4 := by
      have := Option.some.inj h
      omega
    unfold evtGroup at hg
    dsimp only at hg
    split at hg
    · split_ifs at hg <;> simp at hg
    · split at hg
      · split at hg
        · rename_i g' hidx
          obtain ⟨rfl, -⟩ := Prod.mk.inj (Option.some.inj hg)
          obtain ⟨hl, hget, -⟩ := List.idxOf?_eq_some_iff.mp hidx
          exact hget.symm
        · split_ifs at hg; simp at hg
      · cases hg
  · cases h

namespace LanesSame

theorem refl (s : State) : LanesSame s s := ⟨fun _ _ => rfl, fun _ => rfl, fun _ _ => rfl⟩

theorem trans {s t u : State} (h : LanesSame s t) (h' : LanesSame t u) : LanesSame s u :=
  ⟨fun k hk => (h'.obj k hk).trans (h.obj k hk), fun p => (h'.lane p).trans (h.lane p), fun o ho => (h'.count o ho).trans (h.count o ho)⟩

theorem num {s t : State} (h : LanesSame s t) {k : Nat} (hk : LaneObj k) : t.num k = s.num k := by rw [State.num, h.obj k hk, State.num]

theorem int {s t : State} (h : LanesSame s t) {k : Nat} (hk : LaneObj k) : t.int k = s.int k := by rw [State.int, h.obj k hk, State.int]

/-! #### The primitive writes -/

theorem foldl_of_mem {α : Type} {g : State → α → State} (l : List α) (hg : ∀ x a, a ∈ l → LanesSame x (g x a)) (s : State) :
    LanesSame s (l.foldl g s) := by
  induction l generalizing s with
  | nil => exact refl s
  | cons a l ih => exact (hg s a List.mem_cons_self).trans (ih (fun x b hb => hg x b (List.mem_cons_of_mem a hb)) (g s a))

theorem foldl {α : Type} {g : State → α → State} (l : List α) (hg : ∀ x a, LanesSame x (g x a)) (s : State) : LanesSame s (l.foldl g s) :=
  foldl_of_mem l (fun x a _ => hg x a) s

theorem ite {s t u : State} {c : Prop} [Decidable c] (ht : LanesSame s t) (hu : LanesSame s u) : LanesSame s (if c then t else u) := by
  split
  · exact ht
  · exact hu

/-- An operation that touches neither objects nor words nor the essence path. -/
theorem of_keeps {m : Nat} {s t : State} (h : Keeps m s t) (ho : m.testBit 0 = false) (hr : m.testBit 1 = false) (he : m.testBit 10 = false) :
    LanesSame s t := by
  refine ⟨fun k _ => ?_, fun p => ?_, fun n _ => ?_⟩
  · unfold State.obj
    rw [(h.same .objs ho).1, h.fuses]
  · unfold State.lane
    rw [h.same .ess he]
  · unfold State.reg
    rw [h.same .regs hr]

section
variable {s t : State}

theorem setNum (h : LanesSame s t) {k : Nat} (hk : ¬ LaneObj k) (n : Nat) : LanesSame s (t.setNum k n) :=
  h.trans ⟨fun j hj => by rw [obj_setNum, if_neg fun e : j = k => hk (e ▸ hj)], fun _ => rfl, fun _ _ => rfl⟩

theorem setInt (h : LanesSame s t) {k : Nat} (hk : ¬ LaneObj k) (n : Int) : LanesSame s (t.setInt k n) :=
  h.trans ⟨fun j hj => by rw [obj_setInt, if_neg fun e : j = k => hk (e ▸ hj)], fun _ => rfl, fun _ _ => rfl⟩

theorem setReg (h : LanesSame s t) {off : Nat} (ho : ¬ EventWord off) (v : Nat) : LanesSame s (t.setReg off v) := by
  refine h.trans ⟨fun _ _ => obj_setReg .., fun _ => lane_setReg .., fun n hn => ?_⟩
  rw [reg_setReg, if_neg fun e : rEvtCount n = off => ho (e ▸ laneSource_eventWord hn)]

theorem evtCountSignal (h : LanesSame s t) {code : Nat} (hc : code / 256 ≠ 0x30) : LanesSame s (t.evtCountSignal code) := by
  have hkeeps := State_evtCountSignal_keeps (by decide : maskIn 394 394 = true) (Keeps.refl 394 t) code
  refine h.trans ⟨fun k _ => ?_, fun p => ?_, fun n hn => ?_⟩
  · unfold State.obj
    rw [(hkeeps.same .objs rfl).1, hkeeps.fuses]
  · unfold State.lane
    rw [hkeeps.same .ess rfl]
  · rw [← reg_record (t.evtCountSignal code) code [] 15 (codePlane code)]
    exact raise_other t code [] fun m hm e => hc (code_of_laneSource (e ▸ hm) hn)

theorem record (h : LanesSame s t) (code : Nat) (b : List Byte) (sev plane : Nat) : LanesSame s (t.record code b sev plane) :=
  h.trans (of_keeps (State_record_keeps (by decide : maskIn 512 512 = true) (Keeps.refl 512 t) code b sev plane) rfl rfl rfl)

/-- Events of other blocks are counted elsewhere. -/
theorem raise (h : LanesSame s t) {code : Nat} (hc : code / 256 ≠ 0x30) (b : List Byte) : LanesSame s (t.raise code b) :=
  (h.evtCountSignal hc).record ..

/-- A change of fields other than the objects, the words and the lanes. -/
theorem update (h : LanesSame s t) {u : State} (ho : u.objs = t.objs) (hf : u.fuses = t.fuses) (hr : u.regs = t.regs)
    (he : u.ess.sdi = t.ess.sdi) : LanesSame s u := by
  refine h.trans ⟨fun k _ => ?_, fun p => ?_, fun n _ => ?_⟩
  · rw [State.obj, ho, hf, State.obj]
  · rw [State.lane, he, State.lane]
  · rw [State.reg, hr, State.reg]

theorem setTwinSt (h : LanesSame s t) (w : TwinSt) : LanesSame s { t with twin := w } := h.update rfl rfl rfl rfl
theorem setFlt (h : LanesSame s t) (f : FltSt) : LanesSame s { t with flt := f } := h.update rfl rfl rfl rfl
theorem setUpdSt (h : LanesSame s t) (x : UpdSt) : LanesSame s { t with upd := x } := h.update rfl rfl rfl rfl
theorem setTakes (h : LanesSame s t) (x : TakeSt) : LanesSame s { t with ess := { t.ess with takes := x } } := h.update rfl rfl rfl rfl

/-! #### The safe state and the fault collector (R411, R416) -/

theorem setBit (h : LanesSame s t) {off : Nat} (ho : ¬ EventWord off) (b : Nat) : LanesSame s (t.setBit off b) := h.setReg ho _

theorem signal (h : LanesSame s t) (v : Nat) : LanesSame s (t.signal v) :=
  h.trans (of_keeps (State_signal_keeps (by decide : maskIn 136 136 = true) (Keeps.refl 136 t) v) rfl rfl rfl)

theorem tlSend (h : LanesSame s t) (type : Nat) (b : List Byte) : LanesSame s (t.tlSend type b) := by
  have hbump : LanesSame s (if 2 ≤ type ∧ type ≤ 5 then t.bump O.twinSyncGeneration else t) :=
    ite (h.setNum (by rw [laneObj_iff]; unfold O.twinSyncGeneration; omega) _) h
  unfold State.tlSend
  dsimp only
  split
  · exact h
  · split <;> exact hbump.update rfl rfl rfl rfl

theorem mirror (h : LanesSame s t) (type : Nat) (b : List Byte) : LanesSame s (t.mirror type b) := ite (h.tlSend type b) h

theorem putEntry (h : LanesSame s t) (seq : Nat) (b : List Byte) : LanesSame s (t.putEntry seq b) := by
  have hbytes (a : Nat) (l : List Byte) : LanesSame s (t.setBytesAt a l) :=
    h.trans (of_keeps (setBytesAt_keeps_self t a l) rfl rfl rfl)
  have hentry (a : Nat) (l : List Byte) (x : TakeSt) (n : Nat) :
      LanesSame s (({ t.setBytesAt a l with ess := { (t.setBytesAt a l).ess with takes := x } } : State).setNum O.journalJournalSeq n) :=
    ((hbytes a l).setTakes x).setNum (by rw [laneObj_iff]; unfold O.journalJournalSeq; omega) n
  unfold State.putEntry
  dsimp only
  split
  · exact (hentry ..).signal _
  · exact hentry ..

theorem diverge (h : LanesSame s t) (what code : Nat) : LanesSame s (t.diverge what code) :=
  ((h.setTwinSt _).setBit (by unfold EventWord; omega) 6).raise (by decide) _

theorem compareOwn (h : LanesSame s t) (batch o status : Nat) : LanesSame s (t.compareOwn batch o status) := by
  unfold State.compareOwn
  split
  · exact h
  · split
    · dsimp only
      split
      · exact h.setTwinSt _
      · exact (h.setTwinSt _).diverge ..
    · exact h.setTwinSt _

theorem journal (h : LanesSame s t) (status origin : Nat) (split : Bool) (r : TakeRec) (ta k : Nat) :
    LanesSame s (t.journal status origin split r ta k) := by
  unfold State.journal
  split
  · exact h.compareOwn ..
  · exact (h.mirror ..).putEntry ..

theorem setBatches (h : LanesSame s t) (l : List Batch) : LanesSame s (t.setBatches l) := h.update rfl rfl rfl rfl

theorem setOut (h : LanesSame s t) (o : Nat) (x : OutSt) : LanesSame s (t.setOut o x) := h.update rfl rfl rfl rfl

theorem pendObj (h : LanesSame s t) (o : Nat) : LanesSame s (t.pendObj o) := h.setNum (by rw [laneObj_iff]; unfold O.takePending; omega) _

theorem ringIrq (h : LanesSame s t) (origin : Nat) : LanesSame s (t.ringIrq origin) := by
  unfold State.ringIrq
  dsimp only
  split_ifs
  · exact h.signal _
  · exact h
  · exact h

theorem abandonTakes (h : LanesSame s t) : LanesSame s t.abandonTakes := by
  unfold State.abandonTakes
  refine ((h.trans (foldl _ (fun x b => ?journaled) t)).setBatches _).trans (foldl _ (fun x b => LanesSame.ringIrq ?given _) _)
  case journaled => exact foldl _ (fun y r => (refl y).journal ..) x
  case given => exact foldl _ (fun y r => ((refl y).setOut ..).pendObj _) x

theorem setTwin (h : LanesSame s t) (v : Nat) : LanesSame s (t.setTwin v) := by
  have hbase : LanesSame s (if v = 4 then t.keepBase else t) := ite (h.setTwinSt _) h
  unfold State.setTwin
  split
  · exact h
  · exact (hbase.setNum (by rw [laneObj_iff]; unfold O.twinTwinState; omega) v).raise (by decide) _

theorem twinSafe (h : LanesSame s t) : LanesSame s t.twinSafe := by
  have hrelease : LanesSame s (if t.twin.gate then t.tlSend 9 (beBytes 12 0) else { t with twin := { t.twin with claim := false } }) :=
    ite (h.tlSend 9 _) (h.setTwinSt _)
  unfold State.twinSafe
  split
  · exact h
  · exact (hrelease.setTwinSt _).setTwin 8

theorem askFallBack (h : LanesSame s t) (cause : Nat) : LanesSame s (t.askFallBack cause) := by
  unfold State.askFallBack
  split
  · exact h.setUpdSt _
  · exact h

theorem enterSafe (h : LanesSame s t) (cause : Nat) : LanesSame s (t.enterSafe cause) := by
  have hraised : LanesSame s (({ t with flt := { t.flt with safe := true } } : State).raise 0xA004 (p16 cause)) :=
    (h.setFlt _).raise (by decide) _
  unfold State.enterSafe
  split
  · exact h
  · exact ((hraised.setNum (by rw [laneObj_iff]; omega) 1).setNum (by rw [laneObj_iff]; omega) cause).abandonTakes.twinSafe.askFallBack 2

theorem setSrc (h : LanesSame s t) (n : Nat) (v : SrcSt) : LanesSame s (t.setSrc n v) := h.update rfl rfl rfl rfl

/-- The objects of a fault source. -/
theorem setNum_kSrc (h : LanesSame s t) (n sub v : Nat) : LanesSame s (t.setNum (kSrc n sub) v) :=
  h.setNum (by rw [laneObj_iff]; unfold kSrc objKey; omega) v

theorem srcObjs (h : LanesSame s t) (n : Nat) : LanesSame s (t.srcObjs n) :=
  ((h.setNum_kSrc n 5 _).setNum_kSrc n 6 _).setNum_kSrc n 8 _

/-- A fault report leaves the lanes alone, also where the safe state follows. -/
theorem report (h : LanesSame s t) (n code : Nat) : LanesSame s (t.report n code) := by
  have hcounted (v : SrcSt) : LanesSame s ((((t.setSrc n v).srcObjs n).setNum (kSrc n 9) t.pt96).evtCountSignal 0xA001) :=
    (((h.setSrc n v).srcObjs n).setNum_kSrc n 9 _).evtCountSignal (by decide)
  unfold State.report
  dsimp only
  split
  · exact h
  · split
    · exact h
    · split
      · exact ((hcounted _).record ..).enterSafe n
      · exact (hcounted _).record ..

theorem clearIfDone (h : LanesSame s t) (n : Nat) : LanesSame s (t.clearIfDone n) := by
  have hhealth : LanesSame s (if (t.src n).sev = 3 then { t with upd := { t.upd with healthAt := t.now } } else t) :=
    ite (h.setUpdSt _) h
  unfold State.clearIfDone
  dsimp only
  split
  · exact ((hhealth.setSrc n _).srcObjs n).raise (by decide) _
  · exact h

theorem conditionEnd (h : LanesSame s t) (n : Nat) : LanesSame s (t.conditionEnd n) := by
  unfold State.conditionEnd
  split
  · exact (h.setSrc n _).clearIfDone n
  · exact h

/-! #### The Pacer and its references (R331–R339) -/

theorem setTm (h : LanesSame s t) (x : TimeSt) : LanesSame s { t with tm := x } := h.update rfl rfl rfl rfl

theorem setPac (h : LanesSame s t) (x : PacSt) : LanesSame s (t.setPac x) := h.update rfl rfl rfl rfl

theorem setRef (h : LanesSame s t) (r : Nat) (x : RefSt) : LanesSame s (t.setRef r x) := h.update rfl rfl rfl rfl

theorem pacEvent (h : LanesSame s t) (bit : Nat) {code : Nat} (hc : code / 256 ≠ 0x30) (b : List Byte) : LanesSame s (t.pacEvent bit code b) :=
  (h.setBit (by unfold EventWord rPacerEvt; omega) bit).raise hc b

/-- The objects of the Pacer, its loop and the grandmaster lie below those of the lanes. -/
theorem setNum_pacer (h : LanesSame s t) {k : Nat} (hk : k < 0x300000) (n : Nat) : LanesSame s (t.setNum k n) :=
  h.setNum (by rw [laneObj_iff]; omega) n

theorem setInt_pacer (h : LanesSame s t) {k : Nat} (hk : k < 0x300000) (n : Int) : LanesSame s (t.setInt k n) :=
  h.setInt (by rw [laneObj_iff]; omega) n

theorem steer (h : LanesSame s t) (ppt : Int) : LanesSame s (t.steer ppt) :=
  ((h.setTm _).setInt_pacer (by decide) _).setNum_pacer (by decide) _

theorem setPacer (h : LanesSame s t) (st : Nat) : LanesSame s (t.setPacer st) := by
  have hshown (a b : Nat) : LanesSame s ((t.setNum O.pacerPacerState a).setNum O.pacerSelected b) :=
    (h.setNum_pacer (by decide) a).setNum_pacer (by decide) b
  have hclass (a b c : Nat) : LanesSame s (((t.setNum O.pacerPacerState a).setNum O.pacerSelected b).setNum O.gmClockClass c) :=
    (hshown a b).setNum_pacer (by decide) c
  have htold (p : Prop) [Decidable p] (a b c : Nat) (l : List Byte) :=
    ite (c := p) (hclass a b c) ((hclass a b c).pacEvent 0 (code := 0x2001) (by decide) l)
  unfold State.setPacer
  dsimp only
  split
  · exact (htold ..).conditionEnd 98
  · exact htold ..

theorem dropPending (h : LanesSame s t) : LanesSame s t.dropPending := by
  refine h.trans (foldl_of_mem _ (fun x i hi => ?_) t)
  split
  · unfold State.holdStep
    split
    · exact (refl x).setPac _
    · refine (refl x).setInt_pacer ?_ _
      simp only [List.mem_cons, List.not_mem_nil, or_false] at hi
      unfold O.ptpStepPending
      omega
  · exact refl x

theorem movePt (h : LanesSame s t) (d : Int) : LanesSame s (t.movePt d) := by
  unfold State.movePt State.steppedPt
  dsimp only
  split <;> exact h.update rfl rfl rfl rfl

theorem applyStep (h : LanesSame s t) (d : Int) (origin : Nat) (o : Bool) : LanesSame s (t.applyStep d origin o) :=
  (h.movePt d).pacEvent 5 (by decide) _

theorem acquire (h : LanesSame s t) (r : Nat) (set : Bool) : LanesSame s (t.acquire r set) := by
  unfold State.acquire
  dsimp only
  refine setPacer ?_ 1
  split
  · exact (h.setPac _).dropPending
  · exact ((h.setPac _).dropPending.applyStep ..).setRef ..

theorem switchDone (h : LanesSame s t) (r : Nat) : LanesSame s (t.switchDone r) := (h.pacEvent 3 (by decide) _).setPacer 2

theorem switchTo (h : LanesSame s t) (a r : Nat) : LanesSame s (t.switchTo a r) := by
  have hbegun (p : PacSt) (v : Int) (l : List Byte) :
      LanesSame s ((((t.setPac p).dropPending.setInt O.pacerBuildout v).setPacer 3).pacEvent 2 0x2006 l) :=
    (((h.setPac p).dropPending.setInt_pacer (by decide) v).setPacer 3).pacEvent 2 (by decide) l
  unfold State.switchTo
  dsimp only
  refine ite (switchDone ?_ r) ?_
  · exact hbegun ..
  · exact hbegun ..

theorem holdover (h : LanesSame s t) : LanesSame s t.holdover := by
  have hsteered (p : PacSt) (v : Int) : LanesSame s ((((t.setPac p).dropPending.setInt O.pacerHoldoverPpt v).setInt O.pacerBuildout 0).steer v) :=
    (((h.setPac p).dropPending.setInt_pacer (by decide) v).setInt_pacer (by decide) 0).steer v
  exact (((hsteered _ _).setPacer 4).pacEvent 4 (by decide) _).report ..

theorem evalSel1 (h : LanesSame s t) : LanesSame s t.evalSel1 := by
  unfold State.evalSel1
  dsimp only
  split
  · split
    · exact h.acquire ..
    · exact h
  · refine ite ?_ h
    split
    · exact h.acquire ..
    · exact (h.setPac _).dropPending.setPacer 0
  · exact ite (h.switchTo ..) (ite h.holdover h)
  · refine ite ?_ h
    split
    · exact h.switchTo ..
    · exact h.holdover
  · split
    · exact h.switchTo ..
    · exact h
  · exact (h.setPac _).setNum_pacer (by decide) _

theorem refAbsent (h : LanesSame s t) {r : Nat} (hr : r < 14) : LanesSame s (t.refAbsent r) := by
  have hqual : LanesSame s (((t.setRef r { t.ref r with present := false }).setNum (O.refQualState r) 1).setNum (O.refFailWindows r) 0) :=
    ((h.setRef r _).setNum_pacer (by unfold O.refQualState; omega) 1).setNum_pacer (by unfold O.refFailWindows; omega) 0
  unfold State.refAbsent
  dsimp only
  split
  · exact h
  · split
    · exact h.setRef ..
    · refine evalSel1 (evalSel1 ?_)
      split
      · exact (hqual.setNum_pacer (by unfold O.refDisqualifications; omega) _).pacEvent 1 (by decide) _
      · exact hqual

/-- The references of a lane that leaves LOCK_STATE 4 go, and selection follows: no lane changes. -/
theorem refsOfLane (h : LanesSame s t) (p : Nat) : LanesSame s (t.refsOfLane p) := by
  refine h.trans (foldl_of_mem _ (fun x r hr => ?_) t)
  have hlt : r < 14 := by
    simp only [List.mem_cons, List.not_mem_nil, or_false] at hr
    omega
  exact ite ((refl x).refAbsent hlt) (refl x)

/-! #### The Aligner (R77, R155, R159) -/

theorem setPresents (h : LanesSame s t) (ks : List Nat) (on : Bool) : LanesSame s (t.setPresents ks on) :=
  h.trans ⟨fun _ _ => obj_setPresents .., fun _ => lane_setPresents .., fun _ _ => reg_setPresents ..⟩

/-- The objects of slots, outputs and audio lie above those of the lanes. -/
theorem setNum_slot (h : LanesSame s t) {k : Nat} (hk : 0x306000 ≤ k) (n : Nat) : LanesSame s (t.setNum k n) :=
  h.setNum (by rw [laneObj_iff]; omega) n

theorem setSlot (h : LanesSame s t) (n : Nat) (x : SlotSt) : LanesSame s (t.setSlot n x) := h.update rfl rfl rfl rfl

theorem setMember (h : LanesSame s t) (n sub : Nat) (x : Member) : LanesSame s (t.setMember n sub x) := h.update rfl rfl rfl rfl

theorem setFmember (h : LanesSame s t) (k : Nat) (x : Member) : LanesSame s (t.setFmember k x) := h.update rfl rfl rfl rfl

theorem setAlign (h : LanesSame s t) (n v : Nat) : LanesSame s (t.setAlign n v) := h.setNum_slot (by unfold O.slotAlignState; omega) v

theorem pairsGone (h : LanesSame s t) (n : Nat) (gone : Nat → Bool) : LanesSame s (t.pairsGone n gone) := by
  have haud (x : AudSt) : LanesSame s { t with aud := x } := h.update rfl rfl rfl rfl
  unfold State.pairsGone
  dsimp only
  split
  · exact haud _
  · exact (haud _).setNum_slot (by decide) _

theorem slotAbsent (h : LanesSame s t) (n : Nat) : LanesSame s (t.slotAbsent n) := h.setPresents ..

theorem slotClear (h : LanesSame s t) (n : Nat) : LanesSame s (t.slotClear n) :=
  (((h.slotAbsent n).pairsGone n _).setSlot n _).setAlign n 0

theorem slotAcquire (h : LanesSame s t) (n : Nat) : LanesSame s (t.slotAcquire n) := by
  have hmembers (l : List Nat) : LanesSame s
      (l.foldl (fun (x : State) b => x.setMember n b { x.member n b with cur := none, missing := false, skip := false }) t) :=
    h.trans (foldl l (fun x b => (refl x).setMember ..) t)
  unfold State.slotAcquire
  exact (((hmembers _).trans (foldl _ (fun x k => (refl x).setFmember ..) _)).setSlot n _).setAlign n 1

theorem slotReturn (h : LanesSame s t) (n old : Nat) : LanesSame s (t.slotReturn n old) := by
  unfold State.slotReturn
  dsimp only
  split
  · exact (h.trans (foldl _ (fun x b => (refl x).setMember ..) t)).setSlot n _
  · exact (h.slotAcquire n).setPresents ..

/-- A source that is acquired or returns changes its slot, no lane. -/
theorem sourcePresent (h : LanesSame s t) (n fmt : Nat) : LanesSame s (t.sourcePresent n fmt) := by
  have hraster : LanesSame s (t.setNum (O.slotRaster n) fmt) := h.setNum_slot (by unfold O.slotRaster; omega) fmt
  unfold State.sourcePresent
  dsimp only
  split
  · exact hraster.slotAcquire n
  · exact ite ((hraster.slotAbsent n).setSlot n _) (hraster.slotReturn n _)

end

end LanesSame

end Sys2Proof.Machine
end

section
namespace Sys2Proof.Machine

/-! ### Events of a lane (R107, R109) -/

theorem not_eventWord_sdiEvt (p : Nat) : ¬ EventWord (rSdiEvt p) := by unfold EventWord rSdiEvt; omega

/-- The words of SDI_EVT hold no counter of an event. -/
theorem reg_setBit_sdiEvt (s : State) (p bit : Nat) {n : Nat} (hn : n < 640) : (s.setBit (rSdiEvt p) bit).reg (rEvtCount n) = s.reg (rEvtCount n) :=
  (reg_setBit ..).trans (if_neg fun e : rEvtCount n = rSdiEvt p => not_eventWord_sdiEvt p (e ▸ rEvtCount_eventWord (by omega)))

/-- An event of a lane is counted. -/
theorem counted_sdiEvent {s t : State} (h : t.regs = s.regs) (p bit code : Nat) (b : List Byte) : Counted code s (t.sdiEvent p bit code b) := by
  refine Counted.of_eq (fun n hn => ?_) (raise_counts (t.setBit (rSdiEvt p) bit) code (p8 p ++ b))
  rw [reg_setBit_sdiEvt t p bit hn, State.reg, h, State.reg]

/-- An event of a lane leaves the counters of other events alone. -/
theorem count_sdiEvent_of_ne (s : State) (p bit : Nat) {code n m : Nat} (hc : evtSource code = some n) (hn : n ≠ m) (hm : m < 640) (b : List Byte) :
    (s.sdiEvent p bit code b).reg (rEvtCount m) = s.reg (rEvtCount m) :=
  (count_raise_of_ne _ hc hn _).trans (reg_setBit_sdiEvt s p bit hm)

/-- The events of the codes 0x30xx are those of group 4 (Table 14-3). -/
theorem laneSource_of_code {code n : Nat} (hc : code / 256 = 0x30) (h : evtSource code = some n) : LaneSource n := by
  unfold evtSource evtGroup at h
  dsimp only at h
  rw [hc, if_neg (by decide)] at h
  split at h
  · rename_i hg
    split at hg
    · obtain ⟨rfl, rfl⟩ := Prod.mk.inj (Option.some.inj hg)
      obtain rfl := Option.some.inj h
      rw [laneSource_iff]
      omega
    · cases hg
  · cases h

/-- What leaves the lanes alone counts none of their events. -/
theorem LanesSame.counted {s t u : State} (h : LanesSame t u) {code : Nat} (hc : code / 256 = 0x30) (k : Counted code s t) : Counted code s u := by
  intro n hn
  rw [h.count n (laneSource_of_code hc hn)]
  exact k n hn

/-! ### O29 -/

/-! #### The climb to LOCK_STATE 4 (R73–R78) -/

theorem exec_signalDetectAssert {p : Fin 96} {a : Nat} {s u : State} (hu : u = s.toTick a) (hon : u.laneOn p = true) (hact : u.laneActive p = true)
    (hsd : (u.lane p).sd = false) (hmode : u.laneMode p = 1) : exec (.signalDetectAssert p a) s = .next
      (((((u.setLane p { u.lane p with sd := true }).setQuiet p 0).restartSearch p).setNum (O.sdiLockState p) 1).sdiEvent p 0 0x3001 []) := by
  subst hu
  show execSignalDetectAssert p a s = _
  unfold execSignalDetectAssert
  dsimp only
  rw [hon, hact, hsd, if_neg (by decide), if_neg (by simp [hmode])]

theorem restartSearch_regs (s : State) (p : Nat) : (s.restartSearch p).regs = s.regs := rfl

theorem signalDetectAssert_searches (p : Fin 96) (a : Nat) (s u : State) (hu : u = s.toTick a) (hon : u.laneOn p = true)
    (hact : u.laneActive p = true) (hsd : (u.lane p).sd = false) (hmode : u.laneMode p = 1) :
    Does (.signalDetectAssert p a) s (fun t => t.num (O.sdiLockState p) = 1 ∧ (t.lane p).sd = true ∧
      (t.lane p).family = (u.lane p).lastFamily ∧ Counted 0x3001 s t) := by
  refine Does.intro (exec_signalDetectAssert hu hon hact hsd hmode) ⟨?_, ?_, ?_, ?_⟩
  · rw [num_sdiEvent, num_setNum, if_pos rfl]
  · simp [State.restartSearch]
  · simp [State.restartSearch]
  · refine counted_sdiEvent ?_ _ _ _ _
    rw [setNum_regs, restartSearch_regs, setQuiet_regs, setLane_regs, hu, toTick_regs]

theorem rateDwellExpiry_steps (p : Fin 96) (a : Nat) (s u : State) (hu : u = s.toTick a) (hlock : u.lockState p = 1)
    (hrate : u.num (O.sdiRxRate p) = 0) (hen : u.flag (O.sdiRxEnable p) = true) (hdwell : (u.lane p).dwellAt + 390 * tickUs ≤ u.now) :
    Does (.rateDwellExpiry p a) s (fun t => (t.lane p).family = ((u.lane p).family + 1) % 5 ∧ (t.lane p).dwellAt = u.now ∧
      ∀ k, t.obj k = s.obj k) := by
  have hexec : exec (.rateDwellExpiry p a) s =
      .next (u.setLane p { u.lane p with family := ((u.lane p).family + 1) % 5, dwellAt := u.now }) := by
    subst hu
    exact if_pos ⟨hlock, hrate, hen, hdwell⟩
  refine Does.intro hexec ⟨?_, ?_, fun k => ?_⟩
  · rw [lane_setLane, if_pos rfl]
  · rw [lane_setLane, if_pos rfl]
  · rw [obj_setLane, hu, obj_toTick]

theorem rateLock_recovers (p : Fin 96) (code : Fin 10) (s : State) (hlock : s.lockState p = 1) (hen : s.flag (O.sdiRxEnable p) = true)
    (hmode : s.laneMode p = 1) (hcode : code.val ≠ 0) (hfam : rateFamily code = s.tryFamily p) :
    Does (.rateLock p code) s (fun t => t.num (O.sdiLockState p) = 2 ∧ (t.lane p).lastFamily = rateFamily code ∧
      ∀ k, k ≠ O.sdiLockState p → t.obj k = s.obj k) := by
  have hexec : exec (.rateLock p code) s = .next ((s.setLane p { s.lane p with family := rateFamily code, lastFamily := rateFamily code }).setNum
      (O.sdiLockState p) 2) := by
    show execRateLock p code s = _
    unfold execRateLock
    rw [if_neg (by omega), if_pos ⟨hlock, hen, hmode, hcode, hfam⟩]
  refine Does.intro hexec ⟨?_, ?_, fun k hk => ?_⟩
  · rw [num_setNum, if_pos rfl]
  · rw [lane_setNum, lane_setLane, if_pos rfl]
  · rw [obj_setNum, if_neg hk, obj_setLane]

theorem trsLock_locks (p : Fin 96) (code : Fin 10) (line a : Nat) (s u : State) (hu : u = s.toTick a) (hlock : u.lockState p = 2)
    (hcode : code.val ≠ 0) (hfam : rateFamily code = (u.lane p).lastFamily)
    (hrate : u.num (O.sdiRxRate p) = 0 ∨ u.num (O.sdiRxRate p) = code.val) :
    Does (.trsLock p code false line a) s (fun t => t.num (O.sdiLockState p) = 3 ∧ t.num (O.sdiRateDetected p) = code.val ∧
      (t.lane p).fly = line ∧ ∀ k, k ≠ O.sdiLockState p → k ≠ O.sdiRateDetected p → t.obj k = s.obj k) := by
  have hexec : exec (.trsLock p code false line a) s = .next (((u.setNum (O.sdiRateDetected p) code).setLane p
      { u.lane p with missTrs := 0, lnBad := 0, fly := line, lossAt := 0 }).setNum (O.sdiLockState p) 3) := by
    subst hu
    show execTrsLock p code false line a s = _
    unfold execTrsLock
    exact if_neg (by simp only [not_or, ne_eq, not_not, not_and]; exact ⟨hlock, hcode, hfam, fun h => (hrate.resolve_left h)⟩)
  have hne : O.sdiRateDetected p ≠ O.sdiLockState p := by unfold O.sdiRateDetected O.sdiLockState; omega
  refine Does.intro hexec ⟨?_, ?_, ?_, fun k hl hr => ?_⟩
  · rw [num_setNum, if_pos rfl]
  · rw [num_setNum, if_neg hne, num_setLane, num_setNum, if_pos rfl]
  · rw [lane_setNum, lane_setLane, if_pos rfl]
  · rw [obj_setNum, if_neg hl, obj_setLane, obj_setNum, if_neg hr, hu, obj_toTick]

/-- The lane reports the format its signal is taken as (R76–R78), with event 0x3003. -/
def State.formatShown (s : State) (p : Nat) (seen : FormatSeen) : State :=
  let fmt := s.takenFormat p seen
  let s1 := s.setLane p { s.lane p with division := seen.division, st352 := seen.st352.isSome, fmt352 := seen.st352Fmt,
                                         hinted := seen.hinted && seen.st352.isNone, locked := s.now, lnBad := 0, lossAt := 0,
                                         pidSeen := true, grpNow := [], grpOld := [] }
  let s2 := (((s1.setNum (O.sdiLockState p) 4).setNum (O.sdiRasterDetected p) fmt).setNum (O.sdiPayloadId p) (seen.st352.getD 0)).setNum
    (O.sdiLinkNumber p) seen.link
  s2.sdiEvent p 2 0x3003 (p8 (s2.num (O.sdiRateDetected p)) ++ p16 fmt ++ p32 (seen.st352.getD 0))

/-- The source of a lane whose format is known: a link waits for its group's association, every other source is present. -/
def State.sourceLocked (s : State) (p fmt : Nat) : State :=
  if s.quadRx p then (if s.num (O.sdiQuadState (p / 4 * 4)) = 2 then s else s.setNum (O.sdiQuadState (p / 4 * 4)) 1) else s.sourcePresent p fmt

theorem exec_formatLock {p : Fin 96} {seen : FormatSeen} {s : State} (hlock : s.lockState p = 3) (hfmt : fmtValid (s.takenFormat p seen) = true) :
    exec (.formatLock p seen) s = .next ((s.formatShown p seen).sourceLocked p (s.takenFormat p seen)) := by
  show execFormatLock p seen s = _
  unfold execFormatLock State.sourceLocked State.formatShown
  exact (if_neg (not_not.2 hlock)).trans (if_neg (by rw [hfmt]; decide))

theorem exec_formatLock_invalid {p : Fin 96} {seen : FormatSeen} {s : State} (hlock : s.lockState p = 3)
    (hfmt : fmtValid (s.takenFormat p seen) = false) : exec (.formatLock p seen) s = .next (s.setNum (O.sdiRasterDetected p) 0) := by
  show execFormatLock p seen s = _
  unfold execFormatLock
  exact (if_neg (not_not.2 hlock)).trans (if_pos (by rw [hfmt]; rfl))

/-- Of the lanes' objects at most the group's QUAD_STATE changes as a source becomes known. -/
theorem num_sourceLocked (s : State) (p fmt : Nat) {k : Nat} (hk : LaneObj k) (hq : k ≠ O.sdiQuadState (p / 4 * 4)) :
    (s.sourceLocked p fmt).num k = s.num k := by
  unfold State.sourceLocked
  split
  · split
    · rfl
    · rw [num_setNum, if_neg hq]
  · exact ((LanesSame.refl s).sourcePresent p fmt).num hk

theorem Counted.sourceLocked {s t : State} {code : Nat} (h : Counted code s t) (hc : code / 256 = 0x30) (p fmt : Nat) :
    Counted code s (t.sourceLocked p fmt) := by
  unfold State.sourceLocked
  split
  · split
    · exact h
    · exact h.then_eq fun n _ => reg_setNum ..
  · exact ((LanesSame.refl t).sourcePresent p fmt).counted hc h

/-- LOCK_STATE, RASTER_DETECTED, PAYLOAD_ID and LINK_NUMBER of a lane whose format is shown. -/
theorem num_formatShown (s : State) (p : Nat) (seen : FormatSeen) : (s.formatShown p seen).num (O.sdiLockState p) = 4 ∧
    (s.formatShown p seen).num (O.sdiRasterDetected p) = s.takenFormat p seen ∧
    (s.formatShown p seen).num (O.sdiPayloadId p) = seen.st352.getD 0 ∧ (s.formatShown p seen).num (O.sdiLinkNumber p) = seen.link := by
  unfold State.formatShown
  simp [O.sdiLockState, O.sdiRasterDetected, O.sdiPayloadId, O.sdiLinkNumber]

theorem counted_formatShown (s : State) (p : Nat) (seen : FormatSeen) : Counted 0x3003 s (s.formatShown p seen) := by
  unfold State.formatShown
  refine counted_sdiEvent ?_ _ _ _ _
  dsimp only [setNum_regs, setLane_regs]

theorem formatLock_valid (p : Fin 96) (seen : FormatSeen) (s : State) (hlock : s.lockState p = 3) (hfmt : fmtValid (s.takenFormat p seen) = true) :
    Does (.formatLock p seen) s (fun t => t.num (O.sdiLockState p) = 4 ∧ t.num (O.sdiRasterDetected p) = s.takenFormat p seen ∧
      t.num (O.sdiPayloadId p) = seen.st352.getD 0 ∧ t.num (O.sdiLinkNumber p) = seen.link ∧ Counted 0x3003 s t) := by
  obtain ⟨hstate, hraster, hpid, hlink⟩ := num_formatShown s p seen
  have hkeep (sub : Nat) (hsub : sub < 256) (hne : sub ≠ 0x25) :
      ((s.formatShown p seen).sourceLocked p (s.takenFormat p seen)).num (0x300000 + sub + 256 * p) =
        (s.formatShown p seen).num (0x300000 + sub + 256 * p) :=
    num_sourceLocked _ _ _ (by rw [laneObj_iff]; omega) (by unfold O.sdiQuadState; omega)
  refine Does.intro (exec_formatLock hlock hfmt) ⟨?_, ?_, ?_, ?_, ?_⟩
  · exact (hkeep 0x20 (by decide) (by decide)).trans hstate
  · exact (hkeep 0x22 (by decide) (by decide)).trans hraster
  · exact (hkeep 0x23 (by decide) (by decide)).trans hpid
  · exact (hkeep 0x24 (by decide) (by decide)).trans hlink
  · exact (counted_formatShown s p seen).sourceLocked rfl p _

theorem formatLock_invalid (p : Fin 96) (seen : FormatSeen) (s : State) (hlock : s.lockState p = 3) (hfmt : fmtValid (s.takenFormat p seen) = false) :
    Does (.formatLock p seen) s (fun t => t.num (O.sdiRasterDetected p) = 0 ∧ t.num (O.sdiLockState p) = 3) := by
  refine Does.intro (exec_formatLock_invalid hlock hfmt) ⟨?_, ?_⟩
  · rw [num_setNum, if_pos rfl]
  · rw [num_setNum, if_neg (by unfold O.sdiLockState O.sdiRasterDetected; omega)]
    exact hlock

/-- Settles O29, command by command. -/
theorem sdiLockClimbs : Obligations.SdiLockClimbs :=
  ⟨signalDetectAssert_searches, rateDwellExpiry_steps, rateLock_recovers, trsLock_locks, formatLock_valid, formatLock_invalid⟩

end Sys2Proof.Machine
end

section
namespace Sys2Proof.Machine

/-! ### Loss of lock (R81, R83) -/

/-- The streams of a lane without lock go, and of a link its place in the group, with event 0x3008. -/
theorem laneAbsent_cases (s : State) (p : Nat) : LanesSame s (s.laneAbsent p) ∨
    ∃ t b, LanesSame s t ∧ s.laneAbsent p = (t.setLane p { s.lane p with inGroup := false }).sdiEvent p 7 0x3008 b := by
  unfold State.laneAbsent
  split
  · exact .inl (.refl s)
  · split
    · exact .inr ⟨_, _, ((LanesSame.refl s).setPresents ..).pairsGone .., rfl⟩
    · exact .inl (((LanesSame.refl s).setPresents ..).pairsGone ..)

theorem obj_laneAbsent (s : State) (p : Nat) {k : Nat} (hk : LaneObj k) : (s.laneAbsent p).obj k = s.obj k := by
  rcases laneAbsent_cases s p with h | ⟨t, b, h, e⟩
  · exact h.obj k hk
  · rw [e, obj_sdiEvent, obj_setLane, h.obj k hk]

theorem sd_laneAbsent (s : State) (p : Nat) : ((s.laneAbsent p).lane p).sd = (s.lane p).sd := by
  rcases laneAbsent_cases s p with h | ⟨t, b, h, e⟩
  · rw [h.lane]
  · rw [e, lane_sdiEvent, lane_setLane, if_pos rfl]

theorem evtSource_linkLost : evtSource 0x3008 = some 135 := rfl
theorem evtSource_lockLost : evtSource 0x3004 = some 131 := rfl
theorem evtSource_signalLost : evtSource 0x3002 = some 129 := rfl

theorem count_laneAbsent (s : State) (p : Nat) {n : Nat} (hn : LaneSource n) (hne : 135 ≠ n) :
    (s.laneAbsent p).reg (rEvtCount n) = s.reg (rEvtCount n) := by
  rcases laneAbsent_cases s p with h | ⟨t, b, h, e⟩
  · exact h.count n hn
  · rw [e, count_sdiEvent_of_ne _ _ _ evtSource_linkLost hne (by rw [laneSource_iff] at hn; omega), reg_setLane, h.count n hn]

/-- The lane remembers what it was locked to, and what depends on its lock ends: its streams, its link and its references. -/
def State.lockEnded (s : State) (p : Nat) (change : Bool) : State :=
  ((s.setLane p { s.lane p with lossAt := s.now + 1, lossFmt := if change then 0 else s.num (O.sdiRasterDetected p),
                                lossRate := s.num (O.sdiRateDetected p), missTrs := 0, lnBad := 0, hintDue := false }).laneAbsent p).refsOfLane p

/-- LOCK_STATE falls, RASTER_DETECTED reads 0, and below LOCK_STATE 2 the search begins again. -/
def State.lockCleared (s : State) (p to_ : Nat) : State :=
  let t := ((s.setNum (O.sdiLockState p) to_).setNum (O.sdiRasterDetected p) 0).setNum (O.sdiRateDetected p)
    (if to_ ≤ 2 then 0 else s.num (O.sdiRateDetected p))
  if to_ ≤ 1 then t.restartSearch p else t

theorem loseLock_change (s : State) (p line to_ new : Nat) : s.loseLock p line to_ true new =
    (((s.lockEnded p true).lockCleared p to_).bump (O.sdiFormatChanges p)).sdiEvent p 4 0x3005 (p16 (s.num (O.sdiRasterDetected p)) ++ p16 new) := by
  unfold State.loseLock State.lockEnded State.lockCleared
  exact if_pos rfl

/-- What a loss of lock adds for sources in use, a fault report, is none of the lanes'. -/
theorem loseLock_loss (s : State) (p line to_ new : Nat) : LanesSame
    ((((s.lockEnded p false).lockCleared p to_).bump (O.sdiLockLosses p)).sdiEvent p 3 0x3004 (p8 to_ ++ p16 line))
    (s.loseLock p line to_ false new) := by
  have hreport (t : State) (n : Nat) : LanesSame t (if t.slotTaken n then t.report 128 0x3004 else t) :=
    .ite ((LanesSame.refl t).report ..) (.refl t)
  unfold State.loseLock State.lockEnded State.lockCleared
  exact hreport _ _

theorem obj_lockEnded (s : State) (p : Nat) (change : Bool) {k : Nat} (hk : LaneObj k) : (s.lockEnded p change).obj k = s.obj k := by
  unfold State.lockEnded
  rw [((LanesSame.refl _).refsOfLane p).obj k hk, obj_laneAbsent _ _ hk, obj_setLane]

theorem sd_lockEnded (s : State) (p : Nat) (change : Bool) : ((s.lockEnded p change).lane p).sd = (s.lane p).sd := by
  unfold State.lockEnded
  rw [((LanesSame.refl _).refsOfLane p).lane, sd_laneAbsent, lane_setLane, if_pos rfl]

theorem count_lockEnded (s : State) (p : Nat) (change : Bool) {n : Nat} (hn : LaneSource n) (hne : 135 ≠ n) :
    (s.lockEnded p change).reg (rEvtCount n) = s.reg (rEvtCount n) := by
  unfold State.lockEnded
  rw [((LanesSame.refl _).refsOfLane p).count n hn, count_laneAbsent _ _ hn hne, reg_setLane]

theorem num_lockCleared (s : State) (p to_ k : Nat) : (s.lockCleared p to_).num k = if k = O.sdiRateDetected p then (if to_ ≤ 2 then 0 else
    s.num (O.sdiRateDetected p)) else if k = O.sdiRasterDetected p then 0 else if k = O.sdiLockState p then to_ else s.num k := by
  unfold State.lockCleared State.restartSearch
  dsimp only
  split <;> simp only [num_setLane, num_setNum]

theorem sd_lockCleared (s : State) (p to_ : Nat) : ((s.lockCleared p to_).lane p).sd = (s.lane p).sd := by
  unfold State.lockCleared State.restartSearch
  dsimp only
  split <;> simp only [lane_setLane, lane_setNum, if_true]

theorem lockCleared_regs (s : State) (p to_ : Nat) : (s.lockCleared p to_).regs = s.regs := by
  unfold State.lockCleared State.restartSearch
  dsimp only
  split <;> rfl

/-- A change of format: the lane falls, reads no raster, and counts the change. -/
theorem num_loseLock_change (s : State) {p : Nat} (hp : p < 96) (line to_ new : Nat) :
    (s.loseLock p line to_ true new).num (O.sdiLockState p) = to_ ∧
    (s.loseLock p line to_ true new).num (O.sdiRasterDetected p) = 0 ∧
    (s.loseLock p line to_ true new).num (O.sdiFormatChanges p) = (s.num (O.sdiFormatChanges p) + 1) % 2 ^ 32 := by
  have hended : (s.lockEnded p true).num (O.sdiFormatChanges p) = s.num (O.sdiFormatChanges p) :=
    congrArg Val.toNat (obj_lockEnded s p true (by rw [laneObj_iff]; unfold O.sdiFormatChanges; omega))
  have hcleared : ((s.lockEnded p true).lockCleared p to_).num (O.sdiFormatChanges p) = s.num (O.sdiFormatChanges p) := by
    rw [← hended]
    simp [num_lockCleared, O.sdiLockState, O.sdiRasterDetected, O.sdiRateDetected, O.sdiFormatChanges]
  rw [loseLock_change]
  refine ⟨?_, ?_, ?_⟩
  · simp [num_lockCleared, O.sdiLockState, O.sdiRasterDetected, O.sdiRateDetected, O.sdiFormatChanges]
  · simp [num_lockCleared, O.sdiRasterDetected, O.sdiRateDetected, O.sdiFormatChanges]
  · rw [num_sdiEvent, num_bump, if_pos rfl, hcleared]

/-- A loss of lock: the lane falls, and the loss counts neither as a lost signal nor changes its signal detect. -/
theorem loseLock_signal (s : State) {p : Nat} (hp : p < 96) (line to_ new : Nat) :
    (s.loseLock p line to_ false new).num (O.sdiLockState p) = to_ ∧
    ((s.loseLock p line to_ false new).lane p).sd = (s.lane p).sd ∧
    (s.loseLock p line to_ false new).reg (rEvtCount 129) = s.reg (rEvtCount 129) := by
  have hsame := loseLock_loss s p line to_ new
  have hn : LaneSource 129 := by rw [laneSource_iff]; omega
  refine ⟨?_, ?_, ?_⟩
  · rw [hsame.num (by rw [laneObj_iff]; unfold O.sdiLockState; omega)]
    simp [num_lockCleared, O.sdiLockState, O.sdiRasterDetected, O.sdiRateDetected, O.sdiLockLosses]
  · rw [hsame.lane, lane_sdiEvent, lane_bump, sd_lockCleared, sd_lockEnded]
  · rw [hsame.count 129 hn, count_sdiEvent_of_ne _ _ _ evtSource_lockLost (by decide) (by decide), reg_bump, State.reg, lockCleared_regs]
    exact count_lockEnded s p false hn (by decide)

/-! ### Errors by the second (R80) -/

theorem obj_closeSecond (s : State) (p : Nat) {k : Nat} (hk : k ≠ O.sdiErroredSeconds p) : (s.closeSecond p).obj k = s.obj k := by
  unfold State.closeSecond
  dsimp only
  split
  · rfl
  · rw [obj_raise, State.bump, obj_setNum, if_neg hk, obj_setLane]

theorem obj_secondErrors (s : State) (p crc ln trs : Nat) {k : Nat} (hk : k ≠ O.sdiErroredSeconds p) :
    (s.secondErrors p crc ln trs).obj k = s.obj k := by
  unfold State.secondErrors
  dsimp only
  split
  · rfl
  · rw [obj_setLane, obj_closeSecond s p hk]

/-- A lane with other counts of the errors of a second. -/
def SdiLane.withSecond (l : SdiLane) (crc ln trs sec : Nat) : SdiLane := { l with crcSec := crc, lnSec := ln, trsSec := trs, errSec := sec }

theorem lane_closeSecond (s : State) (p : Nat) : ∃ a b c e, (s.closeSecond p).lane p = (s.lane p).withSecond a b c e := by
  unfold State.closeSecond
  dsimp only
  split
  · exact ⟨_, _, _, _, rfl⟩
  · exact ⟨0, 0, 0, _, by rw [lane_raise, lane_bump, lane_setLane, if_pos rfl]; rfl⟩

/-- Errors that join those of the second change nothing of the lane but their counts. -/
theorem lane_secondErrors (s : State) (p crc ln trs : Nat) : ∃ a b c e, (s.secondErrors p crc ln trs).lane p = (s.lane p).withSecond a b c e := by
  obtain ⟨a, b, c, e, h⟩ := lane_closeSecond s p
  unfold State.secondErrors
  dsimp only
  split
  · exact ⟨_, _, _, _, rfl⟩
  · exact ⟨_, _, _, _, by rw [lane_setLane, if_pos rfl, h]; rfl⟩

theorem missTrs_secondErrors (s : State) (p crc ln trs : Nat) : ((s.secondErrors p crc ln trs).lane p).missTrs = (s.lane p).missTrs := by
  obtain ⟨a, b, c, e, h⟩ := lane_secondErrors s p crc ln trs
  rw [h]
  rfl

theorem hintDue_secondErrors (s : State) (p crc ln trs : Nat) : ((s.secondErrors p crc ln trs).lane p).hintDue = (s.lane p).hintDue := by
  obtain ⟨a, b, c, e, h⟩ := lane_secondErrors s p crc ln trs
  rw [h]
  rfl

/-! ### O30 -/

/-! #### Signal detect (R81) -/

/-- Signal detect deasserts on a lane in SDI mode, with event 0x3002. -/
def State.signalLost (s : State) (p : Nat) : State :=
  ((s.setLane p { s.lane p with sd := false }).setQuiet p (s.now + 1)).sdiEvent p 1 0x3002 []

theorem exec_signalDetectDeassert {p : Fin 96} {line a : Nat} {s u : State} (hu : u = s.toTick a) (hsd : (u.lane p).sd = true)
    (hmode : u.laneMode p = 1) : exec (.signalDetectDeassert p line a) s = .next (if 3 ≤ (u.signalLost p).lockState p then
      (u.signalLost p).loseLock p line 0 false 0 else (u.signalLost p).setNum (O.sdiLockState p) 0) := by
  subst hu
  show execSignalDetectDeassert p line a s = _
  unfold execSignalDetectDeassert
  exact (if_neg (by rw [hsd]; decide)).trans (if_neg (not_not.2 hmode))

theorem sd_signalLost (s : State) (p : Nat) : ((s.signalLost p).lane p).sd = false := by
  rw [State.signalLost, lane_sdiEvent, lane_setQuiet, lane_setLane, if_pos rfl]

theorem signalDetectDeassert_unlocks (p : Fin 96) (line a : Nat) (s u : State) (hu : u = s.toTick a) (hsd : (u.lane p).sd = true)
    (hmode : u.laneMode p = 1) :
    Does (.signalDetectDeassert p line a) s (fun t => t.num (O.sdiLockState p) = 0 ∧ (t.lane p).sd = false ∧ Counted 0x3002 s t) := by
  have hcount : Counted 0x3002 s (u.signalLost p) := by
    refine counted_sdiEvent ?_ _ _ _ _
    rw [setQuiet_regs, setLane_regs, hu, toTick_regs]
  refine Does.intro (exec_signalDetectDeassert hu hsd hmode) ?_
  split
  · obtain ⟨hlock, hlost, hreg⟩ := loseLock_signal (u.signalLost p) p.isLt line 0 0
    refine ⟨hlock, hlost.trans (sd_signalLost u p), fun n hn => ?_⟩
    obtain rfl : 129 = n := Option.some.inj (evtSource_signalLost.symm.trans hn)
    rw [hreg]
    exact hcount 129 hn
  · exact ⟨by rw [num_setNum, if_pos rfl], by rw [lane_setNum, sd_signalLost], hcount.then_eq fun n _ => reg_setNum ..⟩

/-! #### Lines (R75, R79, R83) -/

/-- Whether a line's CRC, or at 270 Mb/s its EDH, is in error (R79). -/
def State.crcBad (s : State) (p : Nat) (l : SdiLine) : Bool :=
  let hd := decide (2 ≤ s.num (O.sdiRateDetected p))
  (hd && !l.crcOk) || (!hd && l.edhBad)

/-- The flywheel of a lane follows a line, and the line's errors join those of the second. -/
def State.lineFollowed (s : State) (p : Nat) (l : SdiLine) (crcBad lnBad : Bool) : State :=
  let t := s.secondErrors p (b2n crcBad) (b2n lnBad) 0
  t.setLane p { t.lane p with missTrs := 0, fly := l.line + 1, lnBad := if lnBad then (t.lane p).lnBad + 1 else 0 }

/-- A wrong line number counts in LN_ERRORS and in its field of SDI_ERR. -/
def State.lnCounted (s : State) (p : Nat) (bad : Bool) : State := if bad then (s.bump (O.sdiLnErrors p)).rcAdd (rSdiErr p) 15 8 else s

/-- A wrong CRC counts in CRC_ERRORS and in its field of SDI_ERR. -/
def State.crcCounted (s : State) (p : Nat) (bad : Bool) : State := if bad then (s.bump (O.sdiCrcErrors p)).rcAdd (rSdiErr p) 31 16 else s

/-- A line of a lane with TRS lock is counted. -/
def State.lineCounted (s : State) (p : Nat) (l : SdiLine) : State :=
  ((s.lineFollowed p l (s.crcBad p l) (decide (l.lnWord ≠ l.line))).lnCounted p (decide (l.lnWord ≠ l.line))).crcCounted p (s.crcBad p l)

theorem obj_lineFollowed (s : State) (p : Nat) (l : SdiLine) (x y : Bool) {k : Nat} (hk : k ≠ O.sdiErroredSeconds p) :
    (s.lineFollowed p l x y).obj k = s.obj k := (obj_setLane ..).trans (obj_secondErrors s p _ _ _ hk)

theorem obj_lnCounted (s : State) (p : Nat) (bad : Bool) {k : Nat} (hk : k ≠ O.sdiLnErrors p) : (s.lnCounted p bad).obj k = s.obj k := by
  cases bad
  · rfl
  · exact (obj_rcAdd ..).trans ((obj_setNum ..).trans (if_neg hk))

theorem obj_crcCounted (s : State) (p : Nat) (bad : Bool) {k : Nat} (hk : k ≠ O.sdiCrcErrors p) : (s.crcCounted p bad).obj k = s.obj k := by
  cases bad
  · rfl
  · exact (obj_rcAdd ..).trans ((obj_setNum ..).trans (if_neg hk))

theorem lane_lnCounted (s : State) (p : Nat) (bad : Bool) (q : Nat) : (s.lnCounted p bad).lane q = s.lane q := by
  cases bad <;> rfl

theorem lane_crcCounted (s : State) (p : Nat) (bad : Bool) (q : Nat) : (s.crcCounted p bad).lane q = s.lane q := by
  cases bad <;> rfl

theorem obj_lineCounted (s : State) (p : Nat) (l : SdiLine) {k : Nat} (hl : k ≠ O.sdiLnErrors p) (hc : k ≠ O.sdiCrcErrors p)
    (he : k ≠ O.sdiErroredSeconds p) : (s.lineCounted p l).obj k = s.obj k := by
  rw [State.lineCounted, obj_crcCounted _ _ _ hc, obj_lnCounted _ _ _ hl, obj_lineFollowed _ _ _ _ _ he]

theorem num_lineCounted (s : State) (p : Nat) (l : SdiLine) : (s.lineCounted p l).num (O.sdiLnErrors p) =
    if l.lnWord = l.line then s.num (O.sdiLnErrors p) else (s.num (O.sdiLnErrors p) + 1) % 2 ^ 32 := by
  have hcrc : O.sdiLnErrors p ≠ O.sdiCrcErrors p := by unfold O.sdiLnErrors O.sdiCrcErrors; omega
  have hbefore (x y : Bool) : (s.lineFollowed p l x y).num (O.sdiLnErrors p) = s.num (O.sdiLnErrors p) :=
    congrArg Val.toNat (obj_lineFollowed s p l x y (by unfold O.sdiLnErrors O.sdiErroredSeconds; omega))
  rw [State.lineCounted, State.num, obj_crcCounted _ _ _ hcrc, State.lnCounted]
  by_cases hln : l.lnWord = l.line
  · rw [if_neg (by simp [hln]), if_pos hln]
    exact hbefore ..
  · rw [if_pos (by simp [hln]), if_neg hln]
    show ((State.bump _ _).rcAdd ..).num _ = _
    rw [num_rcAdd, num_bump, if_pos rfl, hbefore]

theorem lane_lineCounted (s : State) (p : Nat) (l : SdiLine) :
    ((s.lineCounted p l).lane p).fly = l.line + 1 ∧ ((s.lineCounted p l).lane p).missTrs = 0 := by
  rw [State.lineCounted, lane_crcCounted, lane_lnCounted, State.lineFollowed, lane_setLane, if_pos rfl]
  exact ⟨rfl, rfl⟩

theorem exec_sdiLine_trs {p : Fin 96} {l : SdiLine} {a : Nat} {s u : State} (hu : u = s.toTick a) (hlock : u.lockState p = 3) :
    exec (.sdiLine p l a) s = .next (u.lineCounted p l) := by
  have hkept : (u.lineCounted p l).lockState p ≠ 4 := by
    have hobj := obj_lineCounted u p l (k := O.sdiLockState p) (by unfold O.sdiLockState O.sdiLnErrors; omega)
      (by unfold O.sdiLockState O.sdiCrcErrors; omega) (by unfold O.sdiLockState O.sdiErroredSeconds; omega)
    have hnum : (u.lineCounted p l).lockState p = u.lockState p := congrArg Val.toNat hobj
    omega
  subst hu
  show execSdiLine p l a s = _
  unfold execSdiLine
  exact (if_neg (by omega)).trans ((if_neg (by omega)).trans ((if_neg (by omega)).trans (if_pos hkept)))

theorem sdiLine_trs (p : Fin 96) (l : SdiLine) (a : Nat) (s u : State) (hu : u = s.toTick a) (hlock : u.lockState p = 3) :
    Does (.sdiLine p l a) s (fun t => (t.lane p).fly = l.line + 1 ∧ (t.lane p).missTrs = 0 ∧
      t.num (O.sdiLnErrors p) = (if l.lnWord = l.line then s.num (O.sdiLnErrors p) else (s.num (O.sdiLnErrors p) + 1) % 2 ^ 32) ∧
      ∀ k, k ≠ O.sdiLnErrors p → k ≠ O.sdiCrcErrors p → k ≠ O.sdiErroredSeconds p → t.obj k = s.obj k) := by
  obtain ⟨hfly, hmiss⟩ := lane_lineCounted u p l
  refine Does.intro (exec_sdiLine_trs hu hlock) ⟨hfly, hmiss, ?_, fun k hl hc he => ?_⟩
  · rw [num_lineCounted, hu, num_toTick]
  · rw [obj_lineCounted u p l hl hc he, hu, obj_toTick]

theorem sdiLine_contradicts (p : Fin 96) (l : SdiLine) (a : Nat) (s u : State) (hu : u = s.toTick a) (hlock : u.lockState p = 4)
    (hl : l.contradicts = true) :
    Does (.sdiLine p l a) s (fun t => t.num (O.sdiLockState p) = 3 ∧ t.num (O.sdiRasterDetected p) = 0 ∧
      t.num (O.sdiFormatChanges p) = (s.num (O.sdiFormatChanges p) + 1) % 2 ^ 32) := by
  have hexec : exec (.sdiLine p l a) s = .next (u.loseLock p l.line 3 true 0) := by
    subst hu
    exact (if_neg (by omega)).trans (if_pos ⟨hlock, hl⟩)
  have hchange := num_loseLock_change u p.isLt l.line 3 0
  rw [show u.num (O.sdiFormatChanges p) = s.num (O.sdiFormatChanges p) from hu ▸ num_toTick ..] at hchange
  exact Does.intro hexec hchange

/-! #### Missing TRS (R75) -/

/-- A missing TRS is counted while the flywheel runs on. -/
def State.trsCounted (s : State) (p line : Nat) : State :=
  let s0 := s.secondErrors p 0 0 1
  ((s0.setLane p { s0.lane p with missTrs := (s0.lane p).missTrs + 1, fly := line + 1 }).bump (O.sdiTrsErrors p)).rcAdd (rSdiErr p) 7 0

theorem obj_trsCounted (s : State) (p line : Nat) {k : Nat} (ht : k ≠ O.sdiTrsErrors p) (he : k ≠ O.sdiErroredSeconds p) :
    (s.trsCounted p line).obj k = s.obj k := by
  unfold State.trsCounted
  rw [obj_rcAdd, State.bump, obj_setNum, if_neg ht, obj_setLane, obj_secondErrors s p 0 0 1 he]

theorem num_trsCounted (s : State) (p line : Nat) : (s.trsCounted p line).num (O.sdiTrsErrors p) = (s.num (O.sdiTrsErrors p) + 1) % 2 ^ 32 := by
  have hbefore : (s.secondErrors p 0 0 1).num (O.sdiTrsErrors p) = s.num (O.sdiTrsErrors p) :=
    congrArg Val.toNat (obj_secondErrors s p 0 0 1 (by unfold O.sdiTrsErrors O.sdiErroredSeconds; omega))
  unfold State.trsCounted
  rw [num_rcAdd, num_bump, if_pos rfl, num_setLane, hbefore]

theorem missTrs_trsCounted (s : State) (p line : Nat) : ((s.trsCounted p line).lane p).missTrs = (s.lane p).missTrs + 1 := by
  unfold State.trsCounted
  rw [lane_rcAdd, lane_bump, lane_setLane, if_pos rfl]
  show ((s.secondErrors p 0 0 1).lane p).missTrs + 1 = _
  rw [missTrs_secondErrors]

/-- The lane's frame begins, `x` being the state without the pairs of audio groups that left: what was found in the frame before is looked for
anew, and without ST 352 PAYLOAD_ID and LINK_NUMBER read 0. -/
def State.frameBegun (s x : State) (p : Nat) : State :=
  let l := s.lane p
  let t := x.setLane p { l with tcSeen := [], grpOld := l.grpNow, grpNow := [], pidSeen := false, st352 := l.st352 && l.pidSeen }
  if l.st352 && !l.pidSeen then
    ((t.setNum (O.sdiPayloadId p) 0).setNum (O.sdiLinkNumber p) 0).sdiEvent p 5 0x3006 (p32 (s.num (O.sdiPayloadId p)) ++ p32 0)
  else t

theorem laneFrame_eq (s : State) (p : Nat) : ∃ x, LanesSame s x ∧ s.laneFrame p = s.frameBegun x p := by
  unfold State.laneFrame
  cases s.laneSlot p with
  | none => exact ⟨s, .refl s, rfl⟩
  | some n => exact ⟨_, (LanesSame.refl s).pairsGone .., rfl⟩

/-- At a frame start at most PAYLOAD_ID and LINK_NUMBER change of the lane's objects, and the count of missing TRS goes on. -/
theorem laneFrame_keeps (s : State) (p : Nat) : ((s.laneFrame p).lane p).missTrs = (s.lane p).missTrs ∧
    ∀ k, LaneObj k → k ≠ O.sdiPayloadId p → k ≠ O.sdiLinkNumber p → (s.laneFrame p).obj k = s.obj k := by
  obtain ⟨x, hsame, heq⟩ := laneFrame_eq s p
  rw [heq]
  unfold State.frameBegun
  dsimp only
  split
  · refine ⟨?_, fun k hk hp hl => ?_⟩
    · rw [lane_sdiEvent, lane_setNum, lane_setNum, lane_setLane, if_pos rfl]
    · rw [obj_sdiEvent, obj_setNum, if_neg hl, obj_setNum, if_neg hp, obj_setLane, hsame.obj k hk]
  · refine ⟨?_, fun k hk _ _ => ?_⟩
    · rw [lane_setLane, if_pos rfl]
    · rw [obj_setLane, hsame.obj k hk]

theorem exec_trsMissing {p : Fin 96} {line : Nat} {held : Bool} {a : Nat} {s u : State} (hu : u = s.toTick a) (hlock : 3 ≤ u.lockState p)
    (hmiss : (u.lane p).missTrs < 3) (hhint : u.lockState p = 4 → line = 1 → (u.lane p).hintDue = false) :
    exec (.trsMissing p line held a) s =
      .next (if u.lockState p = 4 ∧ line = 1 then (u.trsCounted p line).laneFrame p else u.trsCounted p line) := by
  have hcounted : (u.trsCounted p line).lockState p = u.lockState p := congrArg Val.toNat
    (obj_trsCounted u p line (by unfold O.sdiLockState O.sdiTrsErrors; omega) (by unfold O.sdiLockState O.sdiErroredSeconds; omega))
  have hless : ((u.secondErrors p 0 0 1).lane p).missTrs + 1 < 4 := by rw [missTrs_secondErrors]; omega
  have hdue := hintDue_secondErrors u p 0 0 1
  subst hu
  show execTrsMissing p line held a s = _
  unfold execTrsMissing
  refine (if_neg (by omega)).trans ((if_pos hless).trans (congrArg Host.Outcome.next ?_))
  show (if (State.trsCounted _ p line).lockState p = 4 ∧ line = 1 then _ else _) = _
  rw [hcounted]
  split
  · rename_i h
    exact if_neg (by rw [hdue, hhint h.1 h.2]; decide)
  · rfl

theorem trsMissing_bridged (p : Fin 96) (line : Nat) (held : Bool) (a : Nat) (s u : State) (hu : u = s.toTick a) (hlock : 3 ≤ u.lockState p)
    (hmiss : (u.lane p).missTrs < 3) (hhint : u.lockState p = 4 → line = 1 → (u.lane p).hintDue = false) :
    Does (.trsMissing p line held a) s (fun t => (t.lane p).missTrs = (u.lane p).missTrs + 1 ∧
      t.num (O.sdiTrsErrors p) = (s.num (O.sdiTrsErrors p) + 1) % 2 ^ 32 ∧
      (line ≠ 1 → ∀ k, k ≠ O.sdiTrsErrors p → k ≠ O.sdiErroredSeconds p → t.obj k = s.obj k)) := by
  have hnum : (u.trsCounted p line).num (O.sdiTrsErrors p) = (s.num (O.sdiTrsErrors p) + 1) % 2 ^ 32 := by
    rw [num_trsCounted, hu, num_toTick]
  refine Does.intro (exec_trsMissing hu hlock hmiss hhint) ?_
  split
  · rename_i h
    obtain ⟨hlane, hobj⟩ := laneFrame_keeps (u.trsCounted p line) p
    have hkept := hobj (O.sdiTrsErrors p) (by rw [laneObj_iff]; unfold O.sdiTrsErrors; omega) (by unfold O.sdiTrsErrors O.sdiPayloadId; omega)
      (by unfold O.sdiTrsErrors O.sdiLinkNumber; omega)
    exact ⟨hlane.trans (missTrs_trsCounted u p line), (congrArg Val.toNat hkept).trans hnum, fun hline => absurd h.2 hline⟩
  · refine ⟨missTrs_trsCounted u p line, hnum, fun _ k ht he => ?_⟩
    rw [obj_trsCounted u p line ht he, hu, obj_toTick]

/-! #### Errored seconds (R80) -/

theorem erroredSecond_counts (p : Fin 96) (a : Nat) (s u : State) (hu : u = s.toTick a)
    (herr : (u.lane p).crcSec + (u.lane p).lnSec + (u.lane p).trsSec ≠ 0) (hsec : (u.lane p).errSec ≠ u.second) :
    Does (.erroredSecond p a) s (fun t => t.num (O.sdiErroredSeconds p) = (s.num (O.sdiErroredSeconds p) + 1) % 2 ^ 32 ∧
      (t.lane p).crcSec = 0 ∧ (t.lane p).lnSec = 0 ∧ (t.lane p).trsSec = 0 ∧ Counted 0x300A s t) := by
  have hexec : exec (.erroredSecond p a) s = .next (((u.setLane p { u.lane p with crcSec := 0, lnSec := 0, trsSec := 0 }).bump
      (O.sdiErroredSeconds p)).raise 0x300A (p8 p ++ p32 (u.lane p).crcSec ++ p32 (u.lane p).lnSec ++ p32 (u.lane p).trsSec)) := by
    subst hu
    exact congrArg Host.Outcome.next (if_neg (not_or.2 ⟨herr, hsec⟩))
  have hlane := lane_setLane u p p { u.lane p with crcSec := 0, lnSec := 0, trsSec := 0 }
  rw [if_pos rfl] at hlane
  refine Does.intro hexec ⟨?_, ?_, ?_, ?_, ?_⟩
  · rw [num_raise, num_bump, if_pos rfl, num_setLane, hu, num_toTick]
  · rw [lane_raise, lane_bump, hlane]
  · rw [lane_raise, lane_bump, hlane]
  · rw [lane_raise, lane_bump, hlane]
  · refine Counted.of_eq (fun n _ => ?_) (raise_counts _ _ _)
    rw [reg_bump, reg_setLane, hu, reg_toTick]

/-- Settles O30, command by command. -/
theorem sdiLinesAndErrors : Obligations.SdiLinesAndErrors :=
  ⟨signalDetectDeassert_unlocks, sdiLine_trs, sdiLine_contradicts, trsMissing_bridged, erroredSecond_counts⟩

end Sys2Proof.Machine
end

section
namespace Sys2Proof.Machine

/-! ### O31 -/

/-! #### Association of a quad-link group (R86, R87) -/

/-- The group of lane `b` reports its skew, with event 0x3009 beyond two lines. -/
def State.skewShown (s : State) (b skewPt : Nat) : State :=
  let skew := ptToQ16Lines (s.linkRaster b) skewPt
  let t := s.setInt (O.sdiLinkSkew b) skew
  if s.skewOver b skewPt then t.sdiEvent b 8 0x3009 (p32 skew.toNat) else t

theorem obj_skewShown (s : State) (b skewPt k : Nat) : (s.skewShown b skewPt).obj k =
    if k = O.sdiLinkSkew b then .num (ptToQ16Lines (s.linkRaster b) skewPt) else s.obj k := by
  unfold State.skewShown
  dsimp only
  split
  · rw [obj_sdiEvent, obj_setInt]
  · rw [obj_setInt]

theorem int_skewShown (s : State) (b skewPt : Nat) :
    (s.skewShown b skewPt).int (O.sdiLinkSkew b) = ptToQ16Lines (s.linkRaster b) skewPt := by
  rw [State.int, obj_skewShown, if_pos rfl, toInt_num]

theorem counted_skewShown {s : State} {b skewPt : Nat} (h : linesPt (s.linkRaster b) 2 1 < skewPt) : Counted 0x3009 s (s.skewShown b skewPt) := by
  unfold State.skewShown
  dsimp only
  rw [show s.skewOver b skewPt = true from decide_eq_true h, if_pos rfl]
  refine counted_sdiEvent ?_ _ _ _ _
  exact setInt_regs ..

/-- A lane joins its group with the link number and format that it has (R88). -/
def State.joinGroup (s : State) (p : Nat) : State :=
  s.setLane p { s.lane p with inGroup := true, grpLink := s.num (O.sdiLinkNumber p), grpDiv := (s.lane p).division, grpFmt := (s.lane p).fmt352 }

theorem inGroup_joinGroup (s : State) (p q : Nat) : ((s.joinGroup p).lane q).inGroup = (decide (q = p) || (s.lane q).inGroup) := by
  unfold State.joinGroup
  rw [lane_setLane]
  split
  · simp [*]
  · simp [*]

theorem inGroup_foldl_joinGroup (s : State) (l : List Nat) {q : Nat} (h : q ∈ l ∨ (s.lane q).inGroup = true) :
    ((l.foldl State.joinGroup s).lane q).inGroup = true := by
  induction l generalizing s with
  | nil => exact h.resolve_left List.not_mem_nil
  | cons p l ih =>
    refine ih (s.joinGroup p) ?_
    rw [inGroup_joinGroup, Bool.or_eq_true, decide_eq_true_eq]
    rw [List.mem_cons] at h
    tauto

theorem obj_foldl_joinGroup (s : State) (l : List Nat) (k : Nat) : (l.foldl State.joinGroup s).obj k = s.obj k :=
  foldl_same (fun x => x.obj k) l (fun _ _ => obj_setLane ..) s

/-- The four lanes of lane `b`'s group are associated. -/
def State.associated (s : State) (b : Nat) : State := ([b, b + 1, b + 2, b + 3].foldl State.joinGroup s).setNum (O.sdiQuadState b) 2

theorem exec_quadAssociation_again {k : Fin 24} {skew : Nat} {s : State} (hrx : s.quadRx (4 * k.val) = true)
    (hstate : s.num (O.sdiQuadState (4 * k.val)) = 2) (hraster : s.linkRaster (4 * k.val) ≠ 0) :
    exec (.quadAssociation k skew) s = .next (s.skewShown (4 * k.val) skew) := by
  have hrun : ¬ ((!s.quadRx (4 * k.val)) = true ∨ s.linkRaster (4 * k.val) = 0) := by simp [hrx, hraster]
  exact (if_neg hrun).trans (if_pos (.inl hstate))

/-- Lanes 4k + 1 to 4k + 3 have no slot of their own any more, and the source of slot 4k is present. -/
theorem exec_quadAssociation_forms {k : Fin 24} {skew : Nat} {s : State} (hrx : s.quadRx (4 * k.val) = true)
    (hstate : s.num (O.sdiQuadState (4 * k.val)) ≠ 2) (hlocked : s.quadLocked (4 * k.val) = true) (hcause : s.quadCause (4 * k.val) skew = 0)
    (hraster : s.linkRaster (4 * k.val) ≠ 0) :
    ∃ t, exec (.quadAssociation k skew) s = .next t ∧ LanesSame ((s.skewShown (4 * k.val) skew).associated (4 * k.val)) t := by
  have hrun : ¬ ((!s.quadRx (4 * k.val)) = true ∨ s.linkRaster (4 * k.val) = 0) := by simp [hrx, hraster]
  have hforms : ¬ (s.num (O.sdiQuadState (4 * k.val)) = 2 ∨ (!s.quadLocked (4 * k.val)) = true ∨ s.quadCause (4 * k.val) skew ≠ 0) := by
    simp [hstate, hlocked, hcause]
  refine ⟨_, (if_neg hrun).trans (if_neg hforms), LanesSame.sourcePresent ?_ ..⟩
  exact LanesSame.foldl _ (fun x n => (LanesSame.refl x).slotClear n) _

theorem quadAssociation_skew (k : Fin 24) (skew : Nat) (s : State) (hrx : s.quadRx (4 * k.val) = true)
    (hstate : s.num (O.sdiQuadState (4 * k.val)) = 2) (hraster : s.linkRaster (4 * k.val) ≠ 0) :
    Does (.quadAssociation k skew) s (fun t => t.int (O.sdiLinkSkew (4 * k.val)) = ptToQ16Lines (s.linkRaster (4 * k.val)) skew ∧
      (linesPt (s.linkRaster (4 * k.val)) 2 1 < skew → Counted 0x3009 s t)) :=
  Does.intro (exec_quadAssociation_again hrx hstate hraster) ⟨int_skewShown .., counted_skewShown⟩

theorem quadAssociation_forms (k : Fin 24) (skew : Nat) (s : State) (hrx : s.quadRx (4 * k.val) = true)
    (hstate : s.num (O.sdiQuadState (4 * k.val)) ≠ 2) (hlocked : s.quadLocked (4 * k.val) = true) (hcause : s.quadCause (4 * k.val) skew = 0)
    (hraster : s.linkRaster (4 * k.val) ≠ 0) :
    Does (.quadAssociation k skew) s (fun t => t.num (O.sdiQuadState (4 * k.val)) = 2 ∧
      t.int (O.sdiLinkSkew (4 * k.val)) = ptToQ16Lines (s.linkRaster (4 * k.val)) skew ∧
      ∀ q, q < 4 → (t.lane (4 * k.val + q)).inGroup = true) := by
  obtain ⟨t, hexec, hsame⟩ := exec_quadAssociation_forms hrx hstate hlocked hcause hraster
  have hne : O.sdiLinkSkew (4 * k.val) ≠ O.sdiQuadState (4 * k.val) := by unfold O.sdiLinkSkew O.sdiQuadState; omega
  refine Does.intro hexec ⟨?_, ?_, fun q hq => ?_⟩
  · rw [hsame.num (by rw [laneObj_iff]; unfold O.sdiQuadState; omega), State.associated, num_setNum, if_pos rfl]
  · rw [hsame.int (by rw [laneObj_iff]; unfold O.sdiLinkSkew; omega), State.associated, int_setNum, if_neg hne, State.int, obj_foldl_joinGroup]
    exact int_skewShown ..
  · rw [hsame.lane, State.associated, lane_setNum]
    refine inGroup_foldl_joinGroup _ _ (.inl ?_)
    simp only [List.mem_cons, List.not_mem_nil, or_false]
    omega

theorem quadAssociationTimeout_fails (k : Fin 24) (skew a : Nat) (s u : State) (hu : u = s.toTick a) (hrx : u.quadRx (4 * k.val) = true)
    (hstate : u.num (O.sdiQuadState (4 * k.val)) = 1) (hlocked : u.quadLocked (4 * k.val) = true) (hcause : u.quadCause (4 * k.val) skew ≠ 0)
    (hdue : ∀ q, q < 4 → (u.lane (4 * k.val + q)).locked + 3 * u.ptToTicks (framePt (u.num (O.sdiRasterDetected (4 * k.val)))) ≤ u.now) :
    Does (.quadAssociationTimeout k skew a) s (fun t => t.num (O.sdiQuadState (4 * k.val)) = 3 ∧ Counted 0x3007 s t) := by
  have hlast : [4 * k.val, 4 * k.val + 1, 4 * k.val + 2, 4 * k.val + 3].foldl (fun m p => max m (u.lane p).locked) 0 +
      3 * u.ptToTicks (framePt (u.num (O.sdiRasterDetected (4 * k.val)))) ≤ u.now := by
    have h0 := hdue 0 (by decide)
    have h1 := hdue 1 (by decide)
    have h2 := hdue 2 (by decide)
    have h3 := hdue 3 (by decide)
    simp only [List.foldl_cons, List.foldl_nil, Nat.add_zero] at *
    omega
  have hexec : exec (.quadAssociationTimeout k skew a) s = .next ((u.setNum (O.sdiQuadState (4 * k.val)) 3).sdiEvent (4 * k.val) 6 0x3007
      (p8 0x0F ++ p8 (u.quadCause (4 * k.val) skew))) := by
    subst hu
    refine if_pos ?_
    simp only [hrx, hstate, hlocked, decide_eq_true hlast, bne_iff_ne.2 hcause, Bool.and_true, beq_self_eq_true]
  refine Does.intro hexec ⟨?_, ?_⟩
  · rw [num_sdiEvent, num_setNum, if_pos rfl]
  · refine counted_sdiEvent ?_ _ _ _ _
    rw [setNum_regs, hu, toTick_regs]

/-! #### A returned link (R88) -/

theorem quadLinkReentry_joins {p : Fin 96} {s : State} (hrun : ¬ ((!s.quadRx p) = true ∨ s.num (O.sdiQuadState (p.val / 4 * 4)) ≠ 2 ∨
      s.lockState p ≠ 4 ∨ (s.lane p).inGroup = true))
    (h : (s.lane p).st352 = true ∧ (s.lane p).division = (s.lane p).grpDiv ∧ (s.lane p).fmt352 = (s.lane p).grpFmt ∧
      s.num (O.sdiLinkNumber p) = (s.lane p).grpLink) :
    Does (.quadLinkReentry p) s (fun t => (t.lane p).inGroup = true ∧ ∀ k, t.obj k = s.obj k) := by
  obtain ⟨hid, hdiv, hfmt, hlink⟩ := h
  have hexec : exec (.quadLinkReentry p) s = .next (s.setLane p { s.lane p with inGroup := true }) :=
    (if_neg hrun).trans (if_pos (by simp [hid, hdiv, hfmt, hlink]))
  refine Does.intro hexec ⟨?_, fun k => obj_setLane ..⟩
  rw [lane_setLane, if_pos rfl]

theorem quadLinkReentry_refused {p : Fin 96} {s : State} (hrun : ¬ ((!s.quadRx p) = true ∨ s.num (O.sdiQuadState (p.val / 4 * 4)) ≠ 2 ∨
      s.lockState p ≠ 4 ∨ (s.lane p).inGroup = true))
    (h : ¬ ((s.lane p).st352 = true ∧ (s.lane p).division = (s.lane p).grpDiv ∧ (s.lane p).fmt352 = (s.lane p).grpFmt ∧
      s.num (O.sdiLinkNumber p) = (s.lane p).grpLink)) :
    Does (.quadLinkReentry p) s (fun t => (t.lane p).inGroup = false ∧ Counted 0x3007 s t ∧ ∀ k, t.obj k = s.obj k) := by
  have hout : (s.lane p).inGroup = false := by
    simp only [not_or, Bool.not_eq_true] at hrun
    exact hrun.2.2.2
  refine Does.intro ((if_neg hrun).trans (if_neg ?_)) ⟨?_, counted_sdiEvent rfl _ _ _ _, fun k => obj_sdiEvent ..⟩
  · simp only [Bool.and_eq_true, beq_iff_eq]
    tauto
  · rw [lane_sdiEvent, hout]

theorem quadLinkReentry_decides (p : Fin 96) (s : State) (hrx : s.quadRx p = true) (hstate : s.num (O.sdiQuadState (p.val / 4 * 4)) = 2)
    (hlock : s.lockState p = 4) (hout : (s.lane p).inGroup = false) :
    ((s.lane p).st352 = true ∧ (s.lane p).division = (s.lane p).grpDiv ∧ (s.lane p).fmt352 = (s.lane p).grpFmt ∧
        s.num (O.sdiLinkNumber p) = (s.lane p).grpLink →
      Does (.quadLinkReentry p) s (fun t => (t.lane p).inGroup = true ∧ ∀ k, t.obj k = s.obj k)) ∧
    (¬((s.lane p).st352 = true ∧ (s.lane p).division = (s.lane p).grpDiv ∧ (s.lane p).fmt352 = (s.lane p).grpFmt ∧
        s.num (O.sdiLinkNumber p) = (s.lane p).grpLink) →
      Does (.quadLinkReentry p) s (fun t => (t.lane p).inGroup = false ∧ Counted 0x3007 s t ∧ ∀ k, t.obj k = s.obj k)) := by
  have hrun : ¬ ((!s.quadRx p) = true ∨ s.num (O.sdiQuadState (p.val / 4 * 4)) ≠ 2 ∨ s.lockState p ≠ 4 ∨ (s.lane p).inGroup = true) := by
    simp [hrx, hstate, hlock, hout]
  exact ⟨quadLinkReentry_joins hrun, quadLinkReentry_refused hrun⟩

/-! #### The serialiser (R105) -/

theorem serialiserStart_starts (p : Fin 96) (s : State) (hallowed : s.txAllowed p = true) (hstart : s.atFrameStart (s.laneOutput p) = true) :
    Does (.serialiserStart p) s (fun t => (t.lane p).txOn = true ∧ ∀ k, t.obj k = s.obj k) := by
  have hexec : exec (.serialiserStart p) s = .next (s.setLane p { s.lane p with txOn := true }) :=
    if_pos (by rw [hallowed, hstart]; rfl)
  refine Does.intro hexec ⟨?_, fun k => obj_setLane ..⟩
  rw [lane_setLane, if_pos rfl]

/-- Settles O31, command by command. -/
theorem sdiQuadLinksAndSerialiser : Obligations.SdiQuadLinksAndSerialiser :=
  ⟨quadAssociation_skew, quadAssociation_forms, quadAssociationTimeout_fails, quadLinkReentry_decides, serialiserStart_starts⟩

end Sys2Proof.Machine
end

/-! PROOFS. Ethernet lanes: the events and frames of a lane, links, receive contexts and send contexts, and the statements O40, O41 and O42
(04_port_lanes_ethernet.md). -/

section
namespace Sys2Proof.Machine

/-! ### What an operation leaves alone -/

theorem Keeps.obj {m : Nat} {s t : State} (h : Keeps m s t) (hm : m.testBit 0 = false) (k : Nat) : t.obj k = s.obj k := by
  obtain ⟨hobjs, -⟩ := h.same .objs hm
  rw [State.obj, hobjs, h.fuses, State.obj]

theorem Keeps.num {m : Nat} {s t : State} (h : Keeps m s t) (hm : m.testBit 0 = false) (k : Nat) : t.num k = s.num k := by
  rw [State.num, h.obj hm, State.num]

/-- Contexts and ports live in the Ethernet part of the state. -/
theorem rx_of_eth {s t : State} (h : t.eth = s.eth) (q : Nat) : t.rx q = s.rx q := by rw [State.rx, h, State.rx]

theorem tx_of_eth {s t : State} (h : t.eth = s.eth) (q : Nat) : t.tx q = s.tx q := by rw [State.tx, h, State.tx]

theorem port_of_eth {s t : State} (h : t.eth = s.eth) (p : Nat) : t.eth_ p = s.eth_ p := by rw [State.eth_, h, State.eth_]

theorem port_setEth (s : State) (p q : Nat) (v : EthPort) : (s.setEth p v).eth_ q = if q = p then v else s.eth_ q := tget_tset ..

/-! ### Events of an Ethernet lane (R107, R421) -/

theorem not_eventWord_ethEvt (p : Nat) : ¬ EventWord (rEthEvt p) := by unfold EventWord rEthEvt; omega

theorem bitOf_setFld_self {b : Nat} (hb : b < 32) (w : Nat) : bitOf (setFld w b b 1 % 2 ^ 32) b = true := by
  rw [bitOf_word hb]
  have hset : setFld w b b 1 = w - w / 2 ^ b % 2 * 2 ^ b + 2 ^ b := by simp [setFld, fld]
  rw [bitOf, hset, beq_iff_eq]
  obtain h | h := Nat.mod_two_eq_zero_or_one (w / 2 ^ b)
  · rw [h, Nat.zero_mul, Nat.sub_zero, Nat.add_div_right _ (Nat.two_pow_pos b)]
    omega
  · have hle : 2 ^ b ≤ w := by
      by_contra hlt
      rw [Nat.div_eq_of_lt (Nat.lt_of_not_le hlt)] at h
      cases h
    rw [h, Nat.one_mul, Nat.sub_add_cancel hle, h]

theorem bitOf_ethEvent (s : State) (p : Nat) {bit : Nat} (hb : bit < 32) (code : Nat) (b : List Byte) :
    bitOf ((s.ethEvent p bit code b).reg (rEthEvt p)) bit = true := by
  rw [State.ethEvent, reg_raise_of_not_eventWord _ _ _ (not_eventWord_ethEvt p), reg_setBit, if_pos rfl, bitOf_setFld_self hb]

/-- The words of ETH_EVT hold no counter of an event. -/
theorem reg_setBit_ethEvt (s : State) (p bit : Nat) {n : Nat} (hn : n < 640) : (s.setBit (rEthEvt p) bit).reg (rEvtCount n) = s.reg (rEvtCount n) :=
  (reg_setBit ..).trans (if_neg fun e : rEvtCount n = rEthEvt p => not_eventWord_ethEvt p (e ▸ rEvtCount_eventWord (by omega)))

theorem counted_ethEvent {s t : State} (h : t.regs = s.regs) (p bit code : Nat) (b : List Byte) : Counted code s (t.ethEvent p bit code b) := by
  refine Counted.of_eq (fun n hn => ?_) (raise_counts (t.setBit (rEthEvt p) bit) code (p8 p ++ b))
  rw [reg_setBit_ethEvt t p bit hn, State.reg, h, State.reg]

@[simp] theorem ethEvent_eth (s : State) (p bit code : Nat) (b : List Byte) : (s.ethEvent p bit code b).eth = s.eth := raise_eth ..

@[simp] theorem rx_ethEvent (s : State) (p bit code : Nat) (b : List Byte) (q : Nat) : (s.ethEvent p bit code b).rx q = s.rx q := rx_raise ..

@[simp] theorem obj_ethEvent (s : State) (p bit code : Nat) (b : List Byte) (k : Nat) : (s.ethEvent p bit code b).obj k = s.obj k := obj_raise ..

@[simp] theorem num_ethEvent (s : State) (p bit code : Nat) (b : List Byte) (k : Nat) : (s.ethEvent p bit code b).num k = s.num k := num_raise ..

theorem countSecond_eth (s : State) (code i n : Nat) (b : List Byte) : (s.countSecond code i n b).eth = s.eth :=
  (State_countSecond_keeps (by decide : maskIn 1930 1930 = true) (Keeps.refl 1930 s) code i n b).same .eth rfl

end Sys2Proof.Machine
end

section
namespace Sys2Proof.Machine

/-! ### O41 -/

/-! #### Links (R113) -/

theorem ethLinkUp_up {p : Fin 96} {s : State} (hmode : s.laneMode p = 2) (hact : s.laneActive p = true) (hon : s.laneOn p = true)
    (hmem : s.ethMember p = false) (hup : s.ethUp p = false) : Does (.ethLinkUp ⟨p, true⟩) s (fun t =>
      t.ethUp p = true ∧ Counted 0x3401 s t ∧ bitOf (t.reg (rEthEvt p)) 0 = true ∧ ∀ k, k ≠ O.ethLinkState p → t.obj k = s.obj k) := by
  have hexec : exec (.ethLinkUp ⟨p, true⟩) s = .next ((s.setNum (O.ethLinkState p) 2).ethEvent p 0 0x3401
      (p8 (s.num (O.ethEthRate p)) ++ p8 (s.num (O.ethFec p)))) :=
    (if_neg (by simp [hmode, hact, hon, hmem, hup])).trans (if_neg Bool.false_ne_true)
  refine Does.intro hexec ⟨?_, ?_, bitOf_ethEvent _ _ (by decide) _ _, fun k hk => ?_⟩
  · rw [State.ethUp, num_ethEvent, num_setNum, if_pos rfl]
    rfl
  · exact counted_ethEvent (setNum_regs ..) _ _ _ _
  · rw [obj_ethEvent, obj_setNum, if_neg hk]

theorem ethLinkUp_coding {p : Fin 96} {s : State} (hmode : s.laneMode p = 2) (hact : s.laneActive p = true) (hon : s.laneOn p = true)
    (hmem : s.ethMember p = false) (hup : s.ethUp p = false) : Does (.ethLinkUp ⟨p, false⟩) s (fun t =>
      t.num (O.ethLinkState p) = 1 ∧ t.out = s.out ∧ ∀ k, k ≠ O.ethLinkState p → t.obj k = s.obj k) := by
  have hexec : exec (.ethLinkUp ⟨p, false⟩) s = .next (s.setNum (O.ethLinkState p) 1) :=
    (if_neg (by simp [hmode, hact, hon, hmem, hup])).trans (if_pos rfl)
  refine Does.intro hexec ⟨?_, rfl, fun k hk => ?_⟩
  · rw [num_setNum, if_pos rfl]
  · rw [obj_setNum, if_neg hk]

theorem ethLinkDowns_ne_ethLinkState (p : Nat) : O.ethLinkDowns p ≠ O.ethLinkState p := by unfold O.ethLinkDowns O.ethLinkState; omega

/-- A link that was up goes down to a LINK_STATE. -/
theorem ethDown_of_up {s : State} {p : Nat} (hup : s.ethUp p = true) (hmem : s.ethMember p = false) (cause to_ : Nat) :
    s.ethDown p cause to_ false = ((s.setNum (O.ethLinkState p) to_).bump (O.ethLinkDowns p)).ethEvent p 1 0x3402 (p8 cause) := by
  have hwas : ¬ s.num (O.ethLinkState p) ≠ 2 := fun h => h (eq_of_beq hup)
  unfold State.ethDown
  dsimp only
  rw [if_neg hwas, if_neg Bool.false_ne_true, hmem, if_neg Bool.false_ne_true]

theorem ethLinkDown_down {p : Fin 96} {s : State} (hmode : s.laneMode p = 2) (c : Fin 4) (hup : s.ethUp p = true) (hmem : s.ethMember p = false) :
    Does (.ethLinkDown p c false) s (fun t => t.ethUp p = false ∧ Counted 0x3402 s t ∧
      bitOf (t.reg (rEthEvt p)) 1 = true ∧ t.num (O.ethLinkDowns p) = (s.num (O.ethLinkDowns p) + 1) % 2 ^ 32 ∧
      (c.val = 1 → t.num (O.ethLinkState p) = 3) ∧ (c.val = 2 → t.num (O.ethLinkState p) = 4) ∧
      (c.val = 0 ∨ c.val = 3 → t.num (O.ethLinkState p) = 0)) := by
  have hexec : exec (.ethLinkDown p c false) s =
      .next (s.ethDown p (c.val + 1) (match c.val with | 1 => 3 | 2 => 4 | _ => 0) false) := if_neg (by simp [hmode])
  rw [ethDown_of_up hup hmem] at hexec
  have hne := ethLinkDowns_ne_ethLinkState p
  have hstate (to_ : Nat) (b : List Byte) : (((s.setNum (O.ethLinkState p) to_).bump (O.ethLinkDowns p)).ethEvent p 1 0x3402 b).num
      (O.ethLinkState p) = to_ := by
    rw [num_ethEvent, num_bump, if_neg hne.symm, num_setNum, if_pos rfl]
  refine Does.intro hexec ⟨?_, ?_, bitOf_ethEvent _ _ (by decide) _ _, ?_, ?_⟩
  · rw [State.ethUp, hstate]
    fin_cases c <;> rfl
  · exact counted_ethEvent ((bump_regs ..).trans (setNum_regs ..)) _ _ _ _
  · rw [num_ethEvent, num_bump, if_pos rfl, num_setNum, if_neg hne]
  · rw [hstate]
    fin_cases c <;> decide

/-! #### Flows (R126, R127, R132, R133) -/

theorem rxLead_alone {s : State} {r : Nat} (h : s.rxPartner r = none) : s.rxLead r = r := by rw [State.rxLead, h]

theorem rowClose_of_none {s : State} {r : Nat} (h : (s.rx r).row = none) : s.rowClose r = s := by rw [State.rowClose, h]

/-- A context whose flow is lost (R126). -/
def RxCtx.ended (x : RxCtx) : RxCtx :=
  { x with up := false, active := false, next := none, wait := [], ahead := [], gone := [], frame := none, sdiFmt := 0, sdiLast := 0 }

/-- The flow of context r is lost, before its event (R126). -/
def State.flowEnded (s : State) (r : Nat) : State :=
  let s1 := s.setRx r { s.rx r with up := false }
  let s2 := (s1.setRx r (s.rx r).ended).setPresents (s1.fedAlone r (s.rxFlow r)) false
  if byteAt (s.rxFlow r) 1 = 5 then s2.pairsGone (byteAt (s.rxFlow r) 40) (fun _ => true) else s2

theorem rx_flowEnded (s : State) (r q : Nat) : (s.flowEnded r).rx q = if q = r then (s.rx r).ended else s.rx q := by
  have hpairs (x : State) (n : Nat) (g : Nat → Bool) : (x.pairsGone n g).rx q = x.rx q :=
    rx_of_eth ((State_pairsGone_keeps (by decide : maskIn 2049 2049 = true) (Keeps.refl 2049 x) n g).same .eth rfl) q
  have hset : ∀ x, ((s.setRx r { s.rx r with up := false }).setRx r x).rx q = if q = r then x else s.rx q := fun x => by
    rw [rx_setRx, rx_setRx]
    split <;> rfl
  unfold State.flowEnded
  dsimp only
  split
  · rw [hpairs, rx_setPresents, hset]
  · rw [rx_setPresents, hset]

theorem flowEnded_regs (s : State) (r : Nat) : (s.flowEnded r).regs = s.regs := by
  unfold State.flowEnded
  dsimp only
  split
  · rw [(State_pairsGone_keeps (by decide : maskIn 2049 2049 = true) (Keeps.refl 2049 _) _ _).same .regs rfl, setPresents_regs]
    rfl
  · rw [setPresents_regs]
    rfl

theorem exec_rxContextLost_alone {r : Fin 8192} {a : Nat} {s u : State} (hu : u = s.toTick a) (hvalid : flowValid (u.rxFlow r) = true)
    (halone : u.rxPartner r = none) (hact : (u.rx r).active = true) (hrow : (u.rx r).row = none)
    (hlast : (u.rx r).lastTick + u.lossTicks (u.rxFlow r) ≤ u.now + 1) :
    exec (.rxContextLost r a) s = .next ((u.flowEnded r).ethEvent (byteAt (u.rxFlow r) 2) 3 0x3404 (p16 r)) := by
  have hclose : (u.setRx r { u.rx r with up := false }).rowClose r = u.setRx r { u.rx r with up := false } :=
    rowClose_of_none (by rw [rx_setRx, if_pos rfl]; exact hrow)
  have hrun : ¬ ((!flowValid (u.rxFlow r)) = true ∨ u.rxLead r ≠ r ∨ (!(u.rx r).active) = true ∨
      u.now + 1 < (u.rx r).lastTick + u.lossTicks (u.rxFlow r)) := by
    simp [hvalid, rxLead_alone halone, hact, hlast]
  show execRxContextLost r a s = _
  unfold execRxContextLost
  dsimp only
  rw [← hu]
  simp only [halone]
  rw [if_neg hrun, hclose, rx_setRx, if_pos rfl]
  rfl

theorem rxContextLost_ends {r : Fin 8192} {a : Nat} {s u : State} (hu : u = s.toTick a) (hvalid : flowValid (u.rxFlow r) = true)
    (halone : u.rxPartner r = none) (hact : (u.rx r).active = true) (hrow : (u.rx r).row = none)
    (hlast : (u.rx r).lastTick + u.lossTicks (u.rxFlow r) ≤ u.now + 1) : Does (.rxContextLost r a) s (fun t => (t.rx r).active = false ∧
        (t.rx r).up = false ∧ (t.rx r).next = none ∧ Counted 0x3404 s t ∧ ∀ q, q ≠ r.val → t.rx q = s.rx q) := by
  have hrx : ((u.flowEnded r).ethEvent (byteAt (u.rxFlow r) 2) 3 0x3404 (p16 r)).rx r = (u.rx r).ended := by
    rw [rx_ethEvent, rx_flowEnded, if_pos rfl]
  have hregs : (u.flowEnded r).regs = s.regs := by rw [flowEnded_regs, hu, toTick_regs]
  refine Does.intro (exec_rxContextLost_alone hu hvalid halone hact hrow hlast) ⟨?_, ?_, ?_, counted_ethEvent hregs _ _ _ _, fun q hq => ?_⟩
  · rw [hrx]; rfl
  · rw [hrx]; rfl
  · rw [hrx]; rfl
  · rw [rx_ethEvent, rx_flowEnded, if_neg hq, hu, rx_toTick]

/-- A row enters the Aligner: its context has it closed (R127). -/
theorem rowEnter_eth (s : State) (r i : Nat) (parts : List (Nat × List Byte)) : ∃ d f, (s.rowEnter r i parts).eth =
    (s.setRx r { s.rx r with prev := d, closed := some i, row := none, parts := [], fresh := f }).eth := by
  have hpresent (x : State) (b : List Byte) : (x.ctxPresent b).eth = x.eth :=
    (State_ctxPresent_keeps (by decide : maskIn 33801 33801 = true) (Keeps.refl 33801 x) b).same .eth rfl
  have henter (x : State) (n line : Nat) (d : List Byte) : (x.enterLine n 0 line d [] [] []).eth = x.eth :=
    (State_enterLine_keeps (by decide : maskIn 34699 34699 = true) (Keeps.refl 34699 x) n 0 line d [] [] []).same .eth rfl
  have hlast (x : State) (c d : Bool) (b data : List Byte) (n line : Nat) : (if c = true then (if d = true then x.ctxPresent b else x)
      else (if d = true then x.ctxPresent b else x).enterLine n 0 line data [] [] []).eth = x.eth := by
    split_ifs <;> simp only [hpresent, henter]
  exact ⟨_, _, hlast ..⟩

theorem lineCloseTimeout_closes {r : Fin 8192} {a : Nat} {s u : State} (hu : u = s.toTick a) {i : Nat} (hrow : (u.rx r).row = some i)
    (htime : (u.rx r).rowTick + u.ptToTicks (linesPt (halfAt (u.rxFlow r) 44) 1 1) ≤ u.now) :
    Does (.lineCloseTimeout r a) s (fun t => (t.rx r).row = none ∧ (t.rx r).closed = some i ∧ (t.rx r).parts = [] ∧
        ∀ q, q ≠ r.val → t.rx q = s.rx q) := by
  have hclose : u.rowClose r = u.rowEnter r i (u.rx r).parts := by rw [State.rowClose, hrow]
  have hexec : exec (.lineCloseTimeout r a) s = .next (u.rowEnter r i (u.rx r).parts) := by
    have hrun : ¬ ((u.rx r).row.isNone = true ∨ u.now < (u.rx r).rowTick + u.ptToTicks (linesPt (halfAt (u.rxFlow r) 44) 1 1)) := by
      simp [hrow, htime]
    subst hu
    exact (if_neg hrun).trans (congrArg _ hclose)
  obtain ⟨d, f, heth⟩ := rowEnter_eth u r i (u.rx r).parts
  have hrx (q : Nat) := (rx_of_eth heth q).trans (rx_setRx ..)
  refine Does.intro hexec ⟨?_, ?_, ?_, fun q hq => ?_⟩
  · rw [hrx, if_pos rfl]
  · rw [hrx, if_pos rfl]
  · rw [hrx, if_pos rfl]
  · rw [hrx, if_neg hq, hu, rx_toTick]

/-! #### Pairs (R132, R133) -/

/-- Nothing waits behind a missing packet: nothing follows it. -/
theorem flowDrain_of_ahead_nil {s : State} {r : Nat} (h : (s.rx r).ahead = []) (p fuel gap : Nat) : s.flowDrain p r fuel gap = s := by
  cases fuel with
  | zero => rfl
  | succ fuel =>
    unfold State.flowDrain
    dsimp only
    split
    · rfl
    · simp [h]

theorem rx_flowLost (s : State) (p r n q : Nat) : (s.flowLost p r n).rx q =
    if q = r then { s.rx r with lost := ((s.rx r).lost + n) % 2 ^ 32 } else s.rx q := by
  rw [State.flowLost, rx_of_eth (countSecond_eth ..), rx_setBit, rx_setRx]

theorem bitOf_flowLost (s : State) (p r n : Nat) : bitOf ((s.flowLost p r n).reg (rEthEvt p)) 6 = true := by
  rw [State.flowLost, reg_countSecond_of_not_eventWord _ _ _ _ _ (not_eventWord_ethEvt p), reg_setBit, if_pos rfl, bitOf_setFld_self (by decide)]

/-- A missing packet of a pair is given up (R132). -/
def RxCtx.givenUp (x : RxCtx) (q : Nat) : RxCtx := { x with wait := x.wait.filter (fun v => v.1 != q), gone := (q :: x.gone).take 1024 }

theorem exec_pairWaitExpiry {r : Fin 8192} {a q t0 : Nat} {s u : State} (hu : u = s.toTick a)
    (hwait : (u.rx r).wait.find? (fun w => w.1 == q) = some (q, t0)) (htime : t0 + halfAt (u.rxFlow r) 48 * tickUs ≤ u.now)
    (hahead : (u.rx r).ahead = []) :
    exec (.pairWaitExpiry r q a) s = .next ((u.setRx r ((u.rx r).givenUp q)).flowLost (byteAt (u.rxFlow r) 2) r 1) := by
  have hdrain (p fuel : Nat) : ((u.setRx r ((u.rx r).givenUp q)).flowLost p r 1).flowDrain p r fuel 0 =
      (u.setRx r ((u.rx r).givenUp q)).flowLost p r 1 := by
    refine flowDrain_of_ahead_nil ?_ _ _ _
    rw [rx_flowLost, if_pos rfl, rx_setRx, if_pos rfl]
    exact hahead
  subst hu
  show execPairWaitExpiry r q a s = _
  unfold execPairWaitExpiry
  dsimp only
  rw [hwait]
  dsimp only
  rw [if_neg (Nat.not_lt.2 htime)]
  exact congrArg _ (hdrain ..)

theorem pairWaitExpiry_lost {r : Fin 8192} {a q t0 : Nat} {s u : State} (hu : u = s.toTick a)
    (hwait : (u.rx r).wait.find? (fun w => w.1 == q) = some (q, t0)) (htime : t0 + halfAt (u.rxFlow r) 48 * tickUs ≤ u.now)
    (hahead : (u.rx r).ahead = []) :
    Does (.pairWaitExpiry r q a) s (fun t => (t.rx r).lost = ((u.rx r).lost + 1) % 2 ^ 32 ∧ (∀ w, w ∈ (t.rx r).wait → w.1 ≠ q) ∧
        bitOf (t.reg (rEthEvt (byteAt (u.rxFlow r) 2))) 6 = true) := by
  refine Does.intro (exec_pairWaitExpiry hu hwait htime hahead) ⟨?_, fun w hw => ?_, bitOf_flowLost ..⟩
  · rw [rx_flowLost, if_pos rfl, rx_setRx, if_pos rfl]
    rfl
  · rw [rx_flowLost, if_pos rfl, rx_setRx, if_pos rfl] at hw
    exact bne_iff_ne.1 (List.mem_filter.1 hw).2

theorem pathDown_goes {r : Fin 8192} {a : Nat} {s u : State} (hu : u = s.toTick a) (hpair : (u.rxPartner r).isSome = true)
    (hup : (u.rx r).up = true) (hlast : (u.rx r).lastTick + u.lossTicks (u.rxFlow r) ≤ u.now + 1) :
    Does (.pathDown r a) s (fun t => t.rx r = { u.rx r with up := false, down := true } ∧ Counted 0x3405 s t ∧ ∀ k, t.obj k = s.obj k) := by
  have hdown : u.pathDown r = (u.setRx r { u.rx r with up := false, down := true }).ethEvent (byteAt (u.rxFlow r) 2) 4 0x3405 (p16 r) :=
    if_pos hup
  have hexec : exec (.pathDown r a) s = .next (u.pathDown r) := by
    have hrun : ¬ ((u.rxPartner r).isNone = true ∨ (!(u.rx r).up) = true ∨
        u.now + 1 < (u.rx r).lastTick + u.lossTicks (u.rxFlow r)) := by
      simp [hup, hlast, Option.isSome_iff_ne_none.1 hpair]
    subst hu
    exact if_neg hrun
  rw [hdown] at hexec
  refine Does.intro hexec ⟨?_, counted_ethEvent ?_ _ _ _ _, fun k => ?_⟩
  · rw [rx_ethEvent, rx_setRx, if_pos rfl]
  · rw [setRx_regs, hu, toTick_regs]
  · rw [obj_ethEvent, obj_setRx, hu, obj_toTick]

/-- Settles O41, command by command. -/
theorem ethernetLinksAndFlows : Obligations.EthernetLinksAndFlows :=
  ⟨fun _ _ hmode => ⟨ethLinkUp_up hmode, ethLinkUp_coding hmode, ethLinkDown_down hmode⟩,
    fun _ _ _ _ hu => ⟨rxContextLost_ends hu, fun _ => lineCloseTimeout_closes hu, fun _ _ => pairWaitExpiry_lost hu, pathDown_goes hu⟩⟩

end Sys2Proof.Machine
end

section
namespace Sys2Proof.Machine

/-! ### Packets of send contexts (R114, R134) -/

/-! #### What follows the objects -/

section
variable {s t : State} (h : ∀ k, t.obj k = s.obj k)
include h

theorem txFlow_of_obj (c : Nat) : t.txFlow c = s.txFlow c := by rw [State.txFlow, State.bytes, h, State.txFlow, State.bytes]

theorem txLead_of_obj (c : Nat) : t.txLead c = s.txLead c := by simp only [State.txLead, txFlow_of_obj h]

theorem num_of_obj (k : Nat) : t.num k = s.num k := by rw [State.num, h, State.num]

theorem bytes_of_obj (k : Nat) : t.bytes k = s.bytes k := by rw [State.bytes, h, State.bytes]

theorem ethUp_of_obj (p : Nat) : t.ethUp p = s.ethUp p := by rw [State.ethUp, num_of_obj h, State.ethUp]

theorem laneActive_of_obj (p : Nat) : t.laneActive p = s.laneActive p := by
  have hmode : t.laneMode p = s.laneMode p := num_of_obj h _
  rw [State.laneActive, State.started, State.lanePower, hmode, num_of_obj h, num_of_obj h, State.laneActive, State.started, State.lanePower]

theorem pktHdr_of_obj (c : Nat) : t.pktHdr c = s.pktHdr c := by
  simp only [State.pktHdr, State.txData, txLead_of_obj h, txFlow_of_obj h, bytes_of_obj h, num_of_obj h]

end

/-- What was sent from a state is what was sent from one with the same objects, send contexts and emissions. -/
theorem SentPacket.of_same {s u t : State} (hobj : ∀ k, u.obj k = s.obj k) (htx : ∀ q, u.tx q = s.tx q) (hout : u.out = s.out)
    {c place ts : Nat} {marker : Bool} {body : CellBody} (h : SentPacket u t c place ts marker body) : SentPacket s t c place ts marker body := by
  simpa only [SentPacket, txFlow_of_obj hobj, txLead_of_obj hobj, ethUp_of_obj hobj, laneActive_of_obj hobj, pktHdr_of_obj hobj,
    num_of_obj hobj, htx, hout] using h

/-! #### The sequence number of a pair -/

/-- The lower-numbered context of a pair takes the next sequence number at a new place of the schedule (R134). -/
def State.seqTaken (s : State) (l place modulus : Nat) : State :=
  if (s.tx l).flowLast = place then s else s.setTx l { s.tx l with seq := ((s.tx l).seq + 1) % modulus, flowLast := place }

theorem obj_seqTaken (s : State) (l place modulus k : Nat) : (s.seqTaken l place modulus).obj k = s.obj k := by
  unfold State.seqTaken
  split <;> rfl

theorem seqTaken_out (s : State) (l place modulus : Nat) : (s.seqTaken l place modulus).out = s.out := by
  unfold State.seqTaken
  split <;> rfl

theorem seq_seqTaken (s : State) (l place modulus : Nat) : ((s.seqTaken l place modulus).tx l).seq =
    if (s.tx l).flowLast = place then (s.tx l).seq else ((s.tx l).seq + 1) % modulus := by
  unfold State.seqTaken
  split
  · rfl
  · rw [tx_setTx, if_pos rfl]

/-- The counters of a context are not those of its pair. -/
theorem counts_seqTaken (s : State) (l place modulus c : Nat) : ((s.seqTaken l place modulus).tx c).packets = (s.tx c).packets ∧
    ((s.seqTaken l place modulus).tx c).discarded = (s.tx c).discarded := by
  unfold State.seqTaken
  split
  · exact ⟨rfl, rfl⟩
  · rw [tx_setTx]
    split
    · subst_vars
      exact ⟨rfl, rfl⟩
    · exact ⟨rfl, rfl⟩

theorem sendPacket_eq (s : State) (c place ts : Nat) (marker : Bool) (body : CellBody) : s.sendPacket c place ts marker body =
    let p := byteAt (s.txFlow c) 2
    let s1 := s.seqTaken (s.txLead c) place (seqMod (byteAt (s.txFlow c) 1))
    if s.ethUp p && s.laneActive p then
      ((s1.setTx c { s1.tx c with packets := ((s1.tx c).packets + 1) % 2 ^ 64, last := place, sending := true }).bump64 (O.ethTxFrames p)).emit
        (.packet c (s.pktHdr c) (s1.tx (s.txLead c)).seq ts marker body)
    else (s1.setTx c { s1.tx c with discarded := ((s1.tx c).discarded + 1) % 2 ^ 32, last := place, sending := true }).bump (O.ethTxDiscarded p) := by
  have hobj : ∀ k, (s.seqTaken (s.txLead c) place (seqMod (byteAt (s.txFlow c) 1))).obj k = s.obj k := fun k => obj_seqTaken ..
  dsimp only
  rw [← ethUp_of_obj hobj, ← laneActive_of_obj hobj, ← pktHdr_of_obj hobj]
  rfl

theorem sentPacket_sendPacket (s : State) (c place ts : Nat) (marker : Bool) (body : CellBody) :
    SentPacket s (s.sendPacket c place ts marker body) c place ts marker body := by
  rw [sendPacket_eq]
  dsimp only
  generalize hl : s.txLead c = l
  generalize hm : seqMod (byteAt (s.txFlow c) 1) = modulus
  have hseq (n d : Nat) : (((s.seqTaken l place modulus).setTx c { (s.seqTaken l place modulus).tx c with
      packets := n, discarded := d, last := place, sending := true }).tx l).seq = ((s.seqTaken l place modulus).tx l).seq := by
    rw [tx_setTx]
    split
    · next heq => rw [heq]
    · rfl
  obtain ⟨hpackets, hdiscarded⟩ := counts_seqTaken s l place modulus c
  unfold SentPacket
  dsimp only
  rw [hl, hm]
  split
  · next hup =>
    refine ⟨?_, ?_, ?_, ?_, ?_⟩
    · rw [tx_emit, tx_bump64, tx_setTx, if_pos rfl]
    · rw [tx_emit, tx_bump64, hseq, seq_seqTaken]
    · rw [tx_emit, tx_bump64, tx_setTx, if_pos rfl, hpackets]
    · rw [num_emit, num_bump64, if_pos rfl, num_setTx, num_of_obj (obj_seqTaken s l place modulus)]
    · rw [emit_out, bump64_out, setTx_out, seqTaken_out, tx_emit, tx_bump64, hseq]
  · next hdown =>
    refine ⟨?_, ?_, ?_, ?_, ?_⟩
    · rw [tx_bump, tx_setTx, if_pos rfl]
    · rw [tx_bump, hseq, seq_seqTaken]
    · rw [tx_bump, tx_setTx, if_pos rfl, hdiscarded]
    · rw [num_bump, if_pos rfl, num_setTx, num_of_obj (obj_seqTaken s l place modulus)]
    · rw [bump_out, setTx_out, seqTaken_out]

end Sys2Proof.Machine
end

section
namespace Sys2Proof.Machine

/-! ### O42 -/

/-! #### Media packets (R134–R137) -/

section
variable {c : Fin 8192} {o f k g d a : Nat} {s u : State}

theorem mediaPacketSend_video (hu : u = s.toTick a) (hrun : u.txRuns c = true) (ho : o = byteAt (u.txData c) 32) (hf : f = u.outRaster o)
    (hkind : byteAt (u.txData c) 1 = 1)
    (hfind : (u.nearFields f).find? (fun q => decide (k < packetsPer f (halfAt (u.txData c) 36)) &&
      u.onTime (u.packetTime o f (halfAt (u.txData c) 36) q.1 q.2 k)) = some (g, d)) (hnew : (u.tx c).last ≠ placeOf g d k) :
    Does (.mediaPacketSend c k a) s (fun t => ∃ v, SentPacket u t c (placeOf g d k) (rtpOf 90000 (gridStart (f % 256) g))
      (k + 1 == packetsPer f (halfAt (u.txData c) 36)) (.video v)) := by
  have hexec : ∃ v, exec (.mediaPacketSend c k a) s = .next (u.sendPacket c (placeOf g d k) (rtpOf 90000 (gridStart (f % 256) g))
      (k + 1 == packetsPer f (halfAt (u.txData c) 36)) (.video v)) := by
    subst hu ho hf
    apply Exists.intro
    show execMediaPacketSend c k a s = _
    unfold execMediaPacketSend
    dsimp only
    rw [if_neg (by simp [hrun])]
    simp only [hkind]
    rw [hfind]
    exact if_neg hnew
  obtain ⟨v, hexec⟩ := hexec
  exact Does.intro hexec ⟨v, sentPacket_sendPacket ..⟩

theorem mediaPacketSend_sdi (hu : u = s.toTick a) (hrun : u.txRuns c = true) (ho : o = byteAt (u.txData c) 32) (hf : f = u.outRaster o)
    (hkind : byteAt (u.txData c) 1 = 5)
    (hfind : ((List.range 4).map (fun i => gridFrame (f % 256) u.tm.pt + 1 - i)).find? (fun x =>
      decide (k < sdiPackets f) && u.onTime (u.datagramTime o f x k)) = some g) (hnew : (u.tx c).last ≠ placeOf g 0 k) :
    Does (.mediaPacketSend c k a) s (fun t => SentPacket u t c (placeOf g 0 k) (rtpOf 90000 (gridStart (f % 256) g))
      (k + 1 == sdiPackets f) (u.datagram o f g k)) := by
  subst hu ho hf
  refine Does.intro ?_ (sentPacket_sendPacket ..)
  show execMediaPacketSend c k a s = _
  unfold execMediaPacketSend
  dsimp only
  rw [if_neg (by simp [hrun])]
  simp only [hkind]
  rw [hfind]
  exact if_neg hnew

theorem mediaPacketSend_anc (hu : u = s.toTick a) (hrun : u.txRuns c = true) (ho : o = byteAt (u.txData c) 32) (hf : f = u.outRaster o)
    {pk : List AncPkt} (hkind : byteAt (u.txData c) 1 = 4)
    (hfind : (u.nearFields f).find? (fun q => decide (u.packetTime o f 1 q.1 q.2 0 ≤ u.tm.pt) &&
      decide (u.tm.pt ≤ u.packetTime o f 1 q.1 q.2 0 + linesPt f 1 1)) = some (g, d))
    (hpk : (ancGroups 4096 [] (u.fieldAnc o g d (byteAt (u.txData c) 33)) 8)[k]? = some pk) (hnew : (u.tx c).last < placeOf g d k) :
    Does (.mediaPacketSend c k a) s (fun t => SentPacket u t c (placeOf g d k) (rtpOf 90000 (gridStart (f % 256) g))
      (k + 1 == (ancGroups 4096 [] (u.fieldAnc o g d (byteAt (u.txData c) 33)) 8).length) (.anc pk)) := by
  subst hu ho hf
  refine Does.intro ?_ (sentPacket_sendPacket ..)
  show execMediaPacketSend c k a s = _
  unfold execMediaPacketSend
  dsimp only
  rw [if_neg (by simp [hrun])]
  simp only [hkind]
  rw [hfind]
  dsimp only
  rw [hpk]
  dsimp only
  rw [if_neg (Nat.not_le.2 hnew)]

end

theorem sentPacket_afterPositions (s : State) (o g h n : Nat) (ps : List Nat) (c place ts : Nat) (marker : Bool) (body : CellBody) :
    SentPacket s ((s.housePositions o g h n ps).2.sendPacket c place ts marker body) c place ts marker body := by
  have hkeep := State_housePositions_keeps (by decide : maskIn 1024 1024 = true) (Keeps.refl 1024 s) o g h n ps
  exact SentPacket.of_same (hkeep.obj rfl) (tx_of_eth (hkeep.same .eth rfl)) (hkeep.same .out rfl) (sentPacket_sendPacket ..)

theorem audioPacketSend_sends {c : Fin 8192} {fs n e a : Nat} {s u : State} (hu : u = s.toTick a) (hrun : u.txRuns c = true)
    (hkind : byteAt (u.txData c) 1 = 2 ∨ byteAt (u.txData c) 1 = 3)
    (hfs : fs = u.outAudioRate (byteAt (u.txData c) 32) (gridFrame (u.outRaster (byteAt (u.txData c) 32) % 256) u.tm.pt) * 1000)
    (hn : n = packetSamples fs (byteAt (u.txData c) 35)) (hn0 : n ≠ 0) (he : e = u.tm.pt * fs / (1000000000 * ptNs) / n * n) (hle : n ≤ e)
    (htime : u.tm.pt ≤ samplePt fs e + 10000 * ptNs) (hnew : (u.tx c).last ≠ e + 1) :
    Does (.audioPacketSend c a) s (fun t => ∃ l, SentPacket u t c (e + 1) ((e - n) % 2 ^ 32) false (.audio l)) := by
  have hgate : ¬ ((!u.txRuns c) = true ∨ (!(decide (byteAt (u.txData c) 1 = 2 ∨ byteAt (u.txData c) 1 = 3))) = true) := by
    simp [hrun, hkind]
  have hdue : ¬ (n = 0 ∨ decide (samplePt fs e + 10000 * ptNs < u.tm.pt) = true ∨ e < n ∨ (u.tx c).last = e + 1) := by
    simp only [hn0, hnew, decide_eq_true_eq, false_or, or_false]
    omega
  have hexec : ∃ l, exec (.audioPacketSend c a) s = .next ((u.housePositions (byteAt (u.txData c) 32)
      (gridFrame (u.outRaster (byteAt (u.txData c) 32) % 256) u.tm.pt) (e - n) n
      ((List.range (byteAt (u.txData c) 34)).map (fun i => byteAt (u.txData c) 33 + i))).2.sendPacket c (e + 1) ((e - n) % 2 ^ 32) false (.audio l)) := by
    apply Exists.intro
    show execAudioPacketSend c a s = _
    unfold execAudioPacketSend
    dsimp only
    rw [← hu, if_neg hgate, ← hfs, ← hn, if_neg hn0, ← he, if_neg hdue]
  obtain ⟨l, hexec⟩ := hexec
  exact Does.intro hexec ⟨l, sentPacket_afterPositions ..⟩

end Sys2Proof.Machine
end

section
namespace Sys2Proof.Machine

/-! #### Host frames and timestamps: the operations (R139–R141, R404) -/

theorem mem_out_signal {s : State} {e : Emission} (h : e ∈ s.out) (v : Nat) : e ∈ (s.signal v).out := by
  unfold State.signal State.sendVec
  split
  · exact List.mem_append_left _ h
  · exact h

theorem mem_out_ethEvent {s : State} {e : Emission} (h : e ∈ s.out) (p bit code : Nat) (b : List Byte) : e ∈ (s.ethEvent p bit code b).out :=
  mem_out_raise (setBit_out s (rEthEvt p) bit ▸ h) ..

/-- The rings are none of what a signal changes. -/
theorem ring_of_unsignalled {s t : State} (h : t.hif.unsignalled = s.hif.unsignalled) (r : Nat) : t.ring r = s.ring r := by
  have hrings : t.hif.rings = s.hif.rings := (congrArg HifSt.rings h :)
  rw [State.ring, hrings, State.ring]

theorem ring_signal (s : State) (v r : Nat) : (s.signal v).ring r = s.ring r := ring_of_unsignalled (signal_hif_unsignalled s v) r

theorem ring_ethEvent (s : State) (p bit code : Nat) (b : List Byte) (r : Nat) : (s.ethEvent p bit code b).ring r = s.ring r :=
  ring_of_unsignalled (raise_hif_unsignalled ..) r

/-! ##### A frame of a ring is complete -/

theorem head_ringAdvance (s : State) (r n : Nat) : (s.ringAdvance r n).ring r =
    { s.ring r with head := ((s.ring r).head + n) % (2 * ringSize (s.reg (rRing r + 8))) } := by
  unfold State.ringAdvance
  dsimp only
  split
  · rw [ring_signal, ring_setRing, if_pos rfl]
  · rw [ring_setRing, if_pos rfl]

theorem mem_out_ringAdvance {s : State} {e : Emission} (h : e ∈ s.out) (r n : Nat) : e ∈ (s.ringAdvance r n).out := by
  unfold State.ringAdvance
  dsimp only
  split
  · refine mem_out_signal ?_ _
    exact h
  · exact h

theorem txDone_keeps_self (s : State) (r desc st : Nat) : Keeps 136 s (s.txDone r desc st) :=
  State_txDone_keeps (by decide : maskIn 136 136 = true) (Keeps.refl 136 s) r desc st

theorem mem_out_txDone {s : State} {e : Emission} (h : e ∈ s.out) (r desc st : Nat) : e ∈ (s.txDone r desc st).out := by
  have hstatus : e ∈ (s.txStatus r desc st).out := List.mem_append_left _ h
  unfold State.txDone
  dsimp only
  split
  · exact h
  · split
    · exact hstatus
    · refine mem_out_ringAdvance ?_ _ _
      exact hstatus

/-- The only frame of a ring is complete: its STATUS is written, and HEAD passes its descriptors (R404). -/
theorem txDone_alone {s : State} {r desc n : Nat} (h : (s.ring (64 + r)).busy = [⟨desc, n, false⟩]) (st : Nat) : s.txDone r desc st =
    if n = 0 then (s.txStatus r desc st).setRing (64 + r) { s.ring (64 + r) with busy := [] }
    else ((s.txStatus r desc st).setRing (64 + r) { s.ring (64 + r) with busy := [] }).ringAdvance (64 + r) n := by
  have hdescs : ringDescs [(⟨desc, n, true⟩ : RingTx)] = n := Nat.zero_add n
  unfold State.txDone
  dsimp only
  rw [h, if_neg (by simp)]
  simp only [List.map_cons, List.map_nil, if_true, List.dropWhile_cons_of_pos, List.takeWhile_cons_of_pos, List.dropWhile_nil,
    List.takeWhile_nil, hdescs]

theorem txDone_alone_does {s : State} {r desc n : Nat} (h : (s.ring (64 + r)).busy = [⟨desc, n, false⟩]) (st : Nat) :
    ((s.txDone r desc st).ring (64 + r)).busy = [] ∧
    Emission.ringWrite (fld (s.reg (rRing (64 + r) + 8)) 27 25) (desc + 16) (leBytes 2 st) ∈ (s.txDone r desc st).out ∧
    (1 ≤ n → ((s.txDone r desc st).ring (64 + r)).head =
      ((s.ring (64 + r)).head + n) % (2 * ringSize (s.reg (rRing (64 + r) + 8)))) := by
  have hstatus : Emission.ringWrite (fld (s.reg (rRing (64 + r) + 8)) 27 25) (desc + 16) (leBytes 2 st) ∈
      ((s.txStatus r desc st).setRing (64 + r) { s.ring (64 + r) with busy := [] }).out := List.mem_append_right _ List.mem_cons_self
  rw [txDone_alone h]
  split
  · refine ⟨?_, hstatus, by omega⟩
    rw [ring_setRing, if_pos rfl]
  · refine ⟨?_, mem_out_ringAdvance hstatus _ _, fun _ => ?_⟩
    · rw [head_ringAdvance, ring_setRing, if_pos rfl]
    · rw [head_ringAdvance, ring_setRing, if_pos rfl]
      rfl

/-! ##### A transmit timestamp is captured -/

theorem capture_full {s : State} {p : Nat} (h : 16 ≤ (s.eth_ p).stamps.length) (id : Nat) : s.capture p id =
    (((s.setEth p { s.eth_ p with lostId := id }).setBit (rTxts p) 31).bump (O.ethTxTsOverflow p)).ethEvent p 11 0x340C (p16 id) := if_pos h

/-- The stamp of what leaves lane p now (R140, R141). -/
def State.stampNow (s : State) (p id : Nat) : TxStamp :=
  ⟨id, s.txQuarter p / 4 / 1000000000 % 2 ^ 48, s.txQuarter p / 4 % 1000000000, s.txQuarter p % 4⟩

theorem capture_room {s : State} {p : Nat} (h : (s.eth_ p).stamps.length < 16) (id : Nat) : s.capture p id =
    s.setEth p { s.eth_ p with stamps := (s.eth_ p).stamps ++ [s.stampNow p id] } := if_neg (Nat.not_le.2 h)

theorem port_capture_full {s : State} {p : Nat} (h : 16 ≤ (s.eth_ p).stamps.length) (id q : Nat) :
    (s.capture p id).eth_ q = (s.setEth p { s.eth_ p with lostId := id }).eth_ q := by
  rw [capture_full h]
  exact port_of_eth ((ethEvent_eth ..).trans ((bump_eth ..).trans (setBit_eth ..))) q

theorem wait_capture (s : State) (p id q : Nat) : ((s.capture p id).eth_ q).wait = (s.eth_ q).wait := by
  by_cases h : 16 ≤ (s.eth_ p).stamps.length
  · rw [port_capture_full h, port_setEth]
    split
    · subst_vars; rfl
    · rfl
  · rw [capture_room (Nat.not_le.1 h), port_setEth]
    split
    · subst_vars; rfl
    · rfl

theorem mem_out_capture {s : State} {e : Emission} (h : e ∈ s.out) (p id : Nat) : e ∈ (s.capture p id).out := by
  by_cases hfull : 16 ≤ (s.eth_ p).stamps.length
  · rw [capture_full hfull]
    refine mem_out_ethEvent ?_ _ _ _ _
    rw [bump_out, setBit_out, setEth_out]
    exact h
  · rw [capture_room (Nat.not_le.1 hfull), setEth_out]
    exact h

theorem num_capture (s : State) (p id : Nat) {k : Nat} (hk : k ≠ O.ethTxTsOverflow p) : (s.capture p id).num k = s.num k := by
  by_cases hfull : 16 ≤ (s.eth_ p).stamps.length
  · rw [capture_full hfull, num_ethEvent, num_bump, if_neg hk, num_setBit, num_setEth]
  · rw [capture_room (Nat.not_le.1 hfull), num_setEth]

theorem ring_capture (s : State) (p id r : Nat) : (s.capture p id).ring r = s.ring r := by
  by_cases hfull : 16 ≤ (s.eth_ p).stamps.length
  · rw [capture_full hfull, ring_ethEvent, ring_bump, ring_setBit, ring_setEth]
  · rw [capture_room (Nat.not_le.1 hfull), ring_setEth]

/-! ##### Frames of the servo controller -/

theorem wait_servoStamp (s : State) (m seq q : Nat) : ((s.servoStamp m seq).2.eth_ q).wait = (s.eth_ q).wait := by
  unfold State.servoStamp
  split
  · rfl
  · dsimp only
    split
    · exact wait_capture ..
    · rw [port_setEth]
      split
      · subst_vars; exact wait_capture ..
      · exact wait_capture ..

theorem mem_out_servoStamp {s : State} {e : Emission} (h : e ∈ s.out) (m seq : Nat) : e ∈ (s.servoStamp m seq).2.out := by
  unfold State.servoStamp
  split
  · exact h
  · dsimp only
    split
    · exact mem_out_capture h _ _
    · exact mem_out_capture h _ _

theorem servoEmit_eth (s : State) (m : Nat) (f : ServoTx) : (s.servoEmit m f).eth = s.eth := by
  unfold State.servoEmit
  split <;> rfl

theorem servoEmit_out (s : State) (m : Nat) (f : ServoTx) : (s.servoEmit m f).out = s.out ++ [.ptp m f.type f.domain f.transport f.seq f.fields f.data] := by
  unfold State.servoEmit
  split <;> rfl

/-- A servo frame that starts is sent. -/
theorem mem_out_servoStart (s : State) (m : Nat) (f : ServoTx) :
    Emission.ptp m f.type f.domain f.transport f.seq f.fields f.data ∈ (s.servoStart m f).out := by
  have hsent : Emission.ptp m f.type f.domain f.transport f.seq f.fields f.data ∈ (s.servoEmit m f).out := by
    rw [servoEmit_out]
    exact List.mem_append_right _ List.mem_cons_self
  have hstamped := mem_out_servoStamp hsent m f.seq
  unfold State.servoStart
  dsimp only
  split
  · exact hsent
  · split
    · exact hstamped
    · split
      · exact hstamped
      · split
        · exact hstamped
        · rw [servoEmit_out]
          exact List.mem_append_left _ hstamped

/-- Only a Sync, message type 0, makes another frame wait: its Follow_Up. -/
theorem wait_servoStart {s : State} {f : ServoTx} (hf : f.type ≠ 0) (m q : Nat) : ((s.servoStart m f).eth_ q).wait = (s.eth_ q).wait := by
  have hsent : ((s.servoEmit m f).eth_ q).wait = (s.eth_ q).wait := by rw [port_of_eth (servoEmit_eth ..)]
  have hstamped := (wait_servoStamp (s.servoEmit m f) m f.seq q).trans hsent
  unfold State.servoStart
  dsimp only
  split
  · exact hsent
  · next htype =>
    split
    · exact hstamped
    · rw [if_pos (by omega), port_of_eth (setPtp_eth ..)]
      exact hstamped

end Sys2Proof.Machine
end

section
namespace Sys2Proof.Machine

/-! #### Host frames and timestamps: the commands (R114, R139–R141) -/

/-- Lane p sends the host frame f, with l left in its queue (R139, R404). -/
def State.frameSent (s : State) (p : Nat) (f : HostTx) (l : List HostTx) : State :=
  (((s.setEth p { s.eth_ p with wait := l }).bump64 (O.ethTxFrames p)).emit (.ethFrame p f.bytes)).txDone f.ring f.desc 0

theorem port_frameSent (s : State) (p : Nat) (f : HostTx) (l : List HostTx) : (s.frameSent p f l).eth_ p = { s.eth_ p with wait := l } := by
  rw [State.frameSent, port_of_eth ((txDone_keeps_self ..).same .eth rfl), port_of_eth ((emit_eth ..).trans (bump64_eth ..)), port_setEth,
    if_pos rfl]

theorem num_frameSent (s : State) (p : Nat) (f : HostTx) (l : List HostTx) :
    (s.frameSent p f l).num (O.ethTxFrames p) = (s.num (O.ethTxFrames p) + 1) % 2 ^ 64 := by
  rw [State.frameSent, (txDone_keeps_self ..).num rfl, num_emit, num_bump64, if_pos rfl, num_setEth]

theorem mem_out_frameSent (s : State) (p : Nat) (f : HostTx) (l : List HostTx) : Emission.ethFrame p f.bytes ∈ (s.frameSent p f l).out :=
  mem_out_txDone (List.mem_append_right _ List.mem_cons_self) _ _ _

theorem ring_frameSent {s : State} {f : HostTx} {n : Nat} (h : (s.ring (64 + f.ring)).busy = [⟨f.desc, n, false⟩]) (p : Nat) (l : List HostTx) :
    ((s.frameSent p f l).ring (64 + f.ring)).busy = [] ∧
    Emission.ringWrite (fld (s.reg (rRing (64 + f.ring) + 8)) 27 25) (f.desc + 16) (leBytes 2 0) ∈ (s.frameSent p f l).out ∧
    (1 ≤ n → ((s.frameSent p f l).ring (64 + f.ring)).head =
      ((s.ring (64 + f.ring)).head + n) % (2 * ringSize (s.reg (rRing (64 + f.ring) + 8)))) :=
  txDone_alone_does (s := ((s.setEth p { s.eth_ p with wait := l }).bump64 (O.ethTxFrames p)).emit (.ethFrame p f.bytes)) h 0

theorem ethTxFrames_ne_ethTxTsOverflow (p : Nat) : O.ethTxFrames p ≠ O.ethTxTsOverflow p := by
  unfold O.ethTxFrames O.ethTxTsOverflow; omega

section
variable {p : Fin 96} {a : Nat} {s u : State}

theorem hostFrameStart_noTurn (hu : u = s.toTick a) (hturn : ∀ f, f ∈ (u.eth_ p).wait → u.frameTurn f = false) :
    Does (.hostFrameStart p a) s (fun t => t = u) := by
  have hfind : (u.eth_ p).wait.find? (fun q => u.frameTurn q) = none :=
    List.find?_eq_none.2 fun f hf => by rw [hturn f hf]; exact Bool.false_ne_true
  refine Does.intro (t := u) ?_ rfl
  show execHostFrameStart p a s = _
  unfold execHostFrameStart
  dsimp only
  rw [← hu, hfind]

section
variable {f : HostTx} {l : List HostTx} (hu : u = s.toTick a) (hwait : (u.eth_ p).wait = f :: l) (hmem : u.ethMember p = false)
  (hturn : u.frameTurn f = true)
include hu hwait hmem hturn

/-- HOST_FRAME_START takes the frame at the front of the queue where it is in its turn. -/
theorem exec_hostFrameStart_front : exec (.hostFrameStart p a) s =
    if u.laneMode p ≠ 2 ∨ (!u.ethUp p) = true ∨ (!u.laneActive p) = true then
      .next (if f.servo.isSome = true then (u.setEth p { u.eth_ p with wait := l }).bump (O.ethTxDiscarded p)
        else ((u.setEth p { u.eth_ p with wait := l }).bump (O.ethTxDiscarded p)).txDone f.ring f.desc 2)
    else if (!u.fitsGap p f.length) = true then .next u
    else f.servo.elim
      (.next (if f.tsReq = true then (u.frameSent p f l).capture p f.tsId else u.frameSent p f l))
      (fun v => .next ((u.setEth p { u.eth_ p with wait := l }).servoStart p v)) := by
  have hfind : (f :: l).find? (fun q => u.frameTurn q) = some f := List.find?_cons_of_pos hturn
  show execHostFrameStart p a s = _
  unfold execHostFrameStart
  dsimp only
  rw [← hu, hwait, hfind]
  simp only [List.erase_cons_head, hmem, Bool.false_eq_true, or_false, if_false]
  cases f.servo <;> rfl

theorem hostFrameStart_linkDown (hdown : u.laneMode p ≠ 2 ∨ u.ethUp p = false ∨ u.laneActive p = false) :
    Does (.hostFrameStart p a) s (fun t => (t.eth_ p).wait = l ∧
      t.num (O.ethTxDiscarded p) = (u.num (O.ethTxDiscarded p) + 1) % 2 ^ 32) := by
  have hexec := (exec_hostFrameStart_front hu hwait hmem hturn).trans (if_pos (by simpa using hdown))
  have hwait' : (((u.setEth p { u.eth_ p with wait := l }).bump (O.ethTxDiscarded p)).eth_ p).wait = l := by
    rw [port_of_eth (bump_eth ..), port_setEth, if_pos rfl]
  have hnum : ((u.setEth p { u.eth_ p with wait := l }).bump (O.ethTxDiscarded p)).num (O.ethTxDiscarded p) =
      (u.num (O.ethTxDiscarded p) + 1) % 2 ^ 32 := by
    rw [num_bump, if_pos rfl, num_setEth]
  refine Does.intro hexec ?_
  split
  · exact ⟨hwait', hnum⟩
  · have hkeep := txDone_keeps_self ((u.setEth p { u.eth_ p with wait := l }).bump (O.ethTxDiscarded p)) f.ring f.desc 2
    exact ⟨by rw [port_of_eth (hkeep.same .eth rfl), hwait'], by rw [hkeep.num rfl, hnum]⟩

section
variable (hmode : u.laneMode p = 2) (hup : u.ethUp p = true) (hact : u.laneActive p = true)
include hmode hup hact

theorem hostFrameStart_noGap (hgap : u.fitsGap p f.length = false) : Does (.hostFrameStart p a) s (fun t => t = u) :=
  Does.intro (((exec_hostFrameStart_front hu hwait hmem hturn).trans (if_neg (by simp [hmode, hup, hact]))).trans (if_pos (by simp [hgap]))) rfl

theorem exec_hostFrameStart_gap (hgap : u.fitsGap p f.length = true) : exec (.hostFrameStart p a) s = f.servo.elim
    (.next (if f.tsReq = true then (u.frameSent p f l).capture p f.tsId else u.frameSent p f l))
    (fun v => .next ((u.setEth p { u.eth_ p with wait := l }).servoStart p v)) :=
  ((exec_hostFrameStart_front hu hwait hmem hturn).trans (if_neg (by simp [hmode, hup, hact]))).trans (if_neg (by simp [hgap]))

theorem hostFrameStart_sends (hgap : u.fitsGap p f.length = true) (hservo : f.servo = none) :
    Does (.hostFrameStart p a) s (fun t => (t.eth_ p).wait = l ∧
        Emission.ethFrame p f.bytes ∈ t.out ∧ (∀ n, (u.ring (64 + f.ring)).busy = [⟨f.desc, n, false⟩] →
          (t.ring (64 + f.ring)).busy = [] ∧ Emission.ringWrite (fld (u.reg (rRing (64 + f.ring) + 8)) 27 25) (f.desc + 16) (leBytes 2 0) ∈ t.out ∧
          (1 ≤ n → (t.ring (64 + f.ring)).head = ((u.ring (64 + f.ring)).head + n) % (2 * ringSize (u.reg (rRing (64 + f.ring) + 8))))) ∧
        t.num (O.ethTxFrames p) = (u.num (O.ethTxFrames p) + 1) % 2 ^ 64 ∧
        (f.tsReq = false → (t.eth_ p).stamps = (u.eth_ p).stamps) ∧
        (f.tsReq = true → (u.eth_ p).stamps.length < 16 → ∃ x, (t.eth_ p).stamps = (u.eth_ p).stamps ++ [x] ∧ x.id = f.tsId)) := by
  have hexec := exec_hostFrameStart_gap hu hwait hmem hturn hmode hup hact hgap
  rw [hservo] at hexec
  have hport := port_frameSent u p f l
  refine Does.intro hexec ?_
  cases hts : f.tsReq with
  | false =>
    rw [if_neg Bool.false_ne_true]
    exact ⟨by rw [hport], mem_out_frameSent .., fun n hn => ring_frameSent hn p l, num_frameSent .., fun _ => by rw [hport], nofun⟩
  | true =>
    rw [if_pos rfl]
    refine ⟨by rw [wait_capture, hport], mem_out_capture (mem_out_frameSent ..) _ _, fun n hn => ?_, ?_, nofun, fun _ hroom => ?_⟩
    · obtain ⟨hbusy, hstatus, hhead⟩ := ring_frameSent hn p l
      rw [ring_capture]
      exact ⟨hbusy, mem_out_capture hstatus _ _, hhead⟩
    · rw [num_capture _ _ _ (ethTxFrames_ne_ethTxTsOverflow p), num_frameSent]
    · have hroom' : ((u.frameSent p f l).eth_ p).stamps.length < 16 := by rwa [hport]
      refine ⟨(u.frameSent p f l).stampNow p f.tsId, ?_, rfl⟩
      rw [capture_room hroom', port_setEth, if_pos rfl, hport]

theorem hostFrameStart_servo {v : ServoTx} (hgap : u.fitsGap p f.length = true) (hservo : f.servo = some v) :
    Does (.hostFrameStart p a) s (fun t => (v.type ≠ 0 → (t.eth_ p).wait = l) ∧
      Emission.ptp p v.type v.domain v.transport v.seq v.fields v.data ∈ t.out) := by
  have hexec := exec_hostFrameStart_gap hu hwait hmem hturn hmode hup hact hgap
  rw [hservo] at hexec
  refine Does.intro hexec ⟨fun hv => ?_, mem_out_servoStart ..⟩
  rw [wait_servoStart hv, port_setEth, if_pos rfl]

end
end
end

theorem exec_txtsPop {p : Fin 96} {s : State} (hmode : s.laneMode p = 2) (hopen : s.winOpen (rTxts p + 4) = true) :
    exec (.txtsPop p) s = .next ((s.popStamp p).2.emit (.regRead (rTxts p + 4) (s.popStamp p).1)) :=
  if_neg (by simp [hmode, hopen])

theorem txtsPop_takes {p : Fin 96} {x : TxStamp} {s : State} (hmode : s.laneMode p = 2) (hopen : s.winOpen (rTxts p + 4) = true)
    (hfind : (s.eth_ p).stamps.find? (fun t => decide (t.id < 0x8000)) = some x) : Does (.txtsPop p) s (fun t =>
      (t.eth_ p).stamps = (s.eth_ p).stamps.erase x ∧ (t.eth_ p).popSec = x.sec ∧ t.out = s.out ++ [.regRead (rTxts p + 4) (2 ^ 31 + x.id)] ∧
      (∀ k, t.obj k = s.obj k) ∧ ∀ y, t.reg y = s.reg y) := by
  have hpop : s.popStamp p = (2 ^ 31 + x.id, s.setEth p { s.eth_ p with
      stamps := (s.eth_ p).stamps.erase x, popSec := x.sec, popNs := x.frac * 2 ^ 30 + x.ns }) := by
    rw [State.popStamp, hfind]
  have hexec := exec_txtsPop hmode hopen
  rw [hpop] at hexec
  refine Does.intro hexec ⟨?_, ?_, rfl, fun k => rfl, fun y => rfl⟩
  · rw [port_of_eth (emit_eth ..), port_setEth, if_pos rfl]
  · rw [port_of_eth (emit_eth ..), port_setEth, if_pos rfl]

theorem txtsPop_empty {p : Fin 96} {s : State} (hmode : s.laneMode p = 2) (hopen : s.winOpen (rTxts p + 4) = true)
    (hnone : ∀ y, y ∈ (s.eth_ p).stamps → 0x8000 ≤ y.id) : Does (.txtsPop p) s (fun t => t = s.emit (.regRead (rTxts p + 4) 0)) := by
  have hfind : (s.eth_ p).stamps.find? (fun t => decide (t.id < 0x8000)) = none :=
    List.find?_eq_none.2 fun y hy => by simpa using hnone y hy
  have hpop : s.popStamp p = (0, s) := by rw [State.popStamp, hfind]
  have hexec := exec_txtsPop hmode hopen
  rw [hpop] at hexec
  exact Does.intro hexec rfl

/-- Settles O42, command by command. -/
theorem ethernetSend : Obligations.EthernetSend :=
  ⟨fun _ _ _ _ _ _ _ _ _ hu hrun ho hf => ⟨mediaPacketSend_video hu hrun ho hf, mediaPacketSend_sdi hu hrun ho hf,
      fun _ => mediaPacketSend_anc hu hrun ho hf⟩,
    fun _ _ _ _ _ _ _ => audioPacketSend_sends,
    fun _ _ _ _ _ _ hu hwait hmem hturn => ⟨hostFrameStart_linkDown hu hwait hmem hturn, fun hmode hup hact =>
      ⟨hostFrameStart_noGap hu hwait hmem hturn hmode hup hact, hostFrameStart_sends hu hwait hmem hturn hmode hup hact,
        fun _ => hostFrameStart_servo hu hwait hmem hturn hmode hup hact⟩⟩,
    fun _ _ _ _ => hostFrameStart_noTurn,
    fun _ _ _ hmode hopen => ⟨txtsPop_takes hmode hopen, txtsPop_empty hmode hopen⟩⟩

end Sys2Proof.Machine
end

section
namespace Sys2Proof.Machine

/-! ### Receive contexts of a block whose counters move (R118) -/

section
variable {α β : Type} {F : Nat × α → Option β} {k : Nat} (hF : ∀ v, F (k, v) = none)
include hF

theorem filterMap_tput (t : Tbl α) (v : α) : (tput t k v).filterMap F = t.filterMap F := by
  induction t with
  | nil => simp [tput, hF]
  | cons e t ih =>
    obtain ⟨j, w⟩ := e
    simp only [tput]
    split
    · simp [hF]
    · split
      · subst_vars
        simp [hF]
      · simp only [List.filterMap_cons, ih]

theorem filterMap_tdel (t : Tbl α) : (tdel t k).filterMap F = t.filterMap F := by
  induction t with
  | nil => rfl
  | cons e t ih =>
    obtain ⟨j, w⟩ := e
    simp only [tdel]
    split
    · subst_vars
      simp [hF, ih]
    · simp only [List.filterMap_cons, ih]

/-- What a search of a table passes over may change. -/
theorem filterMap_tset [DecidableEq α] (d : Nat → α) (t : Tbl α) (v : α) : (tset d t k v).filterMap F = t.filterMap F := by
  unfold tset
  split
  · exact filterMap_tdel hF t
  · exact filterMap_tput hF t v

end

/-- A number below the receive contexts, at 0x3800 to 0x383F, is none of them. -/
theorem rxFlows_setNum (s : State) {k : Nat} (hk : k < 0x380000) (n : Nat) : (s.setNum k n).rxFlows = s.rxFlows := by
  refine filterMap_tset (fun v => if_neg ?_) _ _ _
  simp only [keyIx]
  omega

/-! ### A frame of right length and FCS (R115, log entry 157) -/

/-- A frame of n bytes counts in RX_FRAMES and RX_BYTES of lane p. -/
def State.frameCounted (s : State) (p n : Nat) : State := (s.bump64 (O.ethRxFrames p)).bump64 (O.ethRxBytes p) n

theorem obj_frameCounted (s : State) (p n : Nat) {k : Nat} (hf : k ≠ O.ethRxFrames p) (hb : k ≠ O.ethRxBytes p) :
    (s.frameCounted p n).obj k = s.obj k := by
  rw [State.frameCounted, State.bump64, obj_setNum, if_neg hb, State.bump64, obj_setNum, if_neg hf]

theorem num_frameCounted (s : State) (p n : Nat) {k : Nat} (hf : k ≠ O.ethRxFrames p) (hb : k ≠ O.ethRxBytes p) :
    (s.frameCounted p n).num k = s.num k := by
  rw [State.num, obj_frameCounted s p n hf hb, State.num]

theorem bytes_frameCounted (s : State) (p n : Nat) {k : Nat} (hf : k ≠ O.ethRxFrames p) (hb : k ≠ O.ethRxBytes p) :
    (s.frameCounted p n).bytes k = s.bytes k := by
  rw [State.bytes, obj_frameCounted s p n hf hb, State.bytes]

theorem rxFrames_frameCounted (s : State) (p n : Nat) : (s.frameCounted p n).num (O.ethRxFrames p) = (s.num (O.ethRxFrames p) + 1) % 2 ^ 64 := by
  rw [State.frameCounted, num_bump64, if_neg (by unfold O.ethRxFrames O.ethRxBytes; omega), num_bump64, if_pos rfl]

theorem rxBytes_frameCounted (s : State) (p n : Nat) : (s.frameCounted p n).num (O.ethRxBytes p) = (s.num (O.ethRxBytes p) + n) % 2 ^ 64 := by
  rw [State.frameCounted, num_bump64, if_pos rfl, num_bump64, if_neg (by unfold O.ethRxFrames O.ethRxBytes; omega)]

theorem rxFlow_frameCounted (s : State) {p : Nat} (hp : p < 96) (n r : Nat) : (s.frameCounted p n).rxFlow r = s.rxFlow r :=
  bytes_frameCounted s p n (by unfold O.rxFlow O.ethRxFrames; omega) (by unfold O.rxFlow O.ethRxBytes; omega)

theorem rxFlows_frameCounted (s : State) {p : Nat} (hp : p < 96) (n : Nat) : (s.frameCounted p n).rxFlows = s.rxFlows :=
  (rxFlows_setNum _ (by unfold O.ethRxBytes; omega) _).trans (rxFlows_setNum _ (by unfold O.ethRxFrames; omega) _)

theorem rxMatch_frameCounted (s : State) {p : Nat} (hp : p < 96) (n q vid v6 dst src dport : Nat) :
    (s.frameCounted p n).rxMatch q vid v6 dst src dport = s.rxMatch q vid v6 dst src dport := by
  rw [State.rxMatch, rxFlows_frameCounted s hp, State.rxMatch]

theorem rxPartner_frameCounted (s : State) {p : Nat} (hp : p < 96) (n r : Nat) : (s.frameCounted p n).rxPartner r = s.rxPartner r := by
  simp only [State.rxPartner, rxFlow_frameCounted s hp]

theorem frameCounted_eth (s : State) (p n : Nat) : (s.frameCounted p n).eth = s.eth := rfl

/-! ### Classification (R117–R121) -/

theorem classify_pause {s : State} {f : EthFrame} (h : f.etype = 0x8808) (p : Nat) (bufs : List (Nat × Nat × Nat)) :
    s.classify_ p f bufs = s.bump (O.ethRxPause p) := if_pos h

theorem classify_unmatched {s : State} {p : Nat} {f : EthFrame} (htype : f.etype ≠ 0x8808) (hone : bitOf f.dst 40 = false)
    (hdst : f.dst ≠ ofBe (s.bytes (O.ethMacAddress p))) (bufs : List (Nat × Nat × Nat)) : s.classify_ p f bufs = s.unmatched p :=
  (if_neg htype).trans (if_pos (by simp [hone, hdst]))

theorem classify_arp {s : State} {p : Nat} {f : EthFrame} (htype : f.etype ≠ 0x8808) (htags : f.tags = []) (hnet : f.net = .arp)
    (hdst : f.dst = ofBe (s.bytes (O.ethMacAddress p))) (bufs : List (Nat × Nat × Nat)) :
    s.classify_ p f bufs = s.punt p 2 0 0 f.bytes bufs := by
  unfold State.classify_
  simp [htype, htags, hnet, hdst, ctlClass]

theorem classify_flow {s : State} {p src dst r : Nat} {f : EthFrame} {x : UdpHdr} {h : RtpHdr} {m : MediaPayload} (htype : f.etype ≠ 0x8808)
    (htags : f.tags = []) (hdst : f.dst = ofBe (s.bytes (O.ethMacAddress p))) (hnet : f.net = .ip4 5 false true 17 src dst)
    (hudp : f.udp = some x) (hck : x.ckOk = true) (hevent : x.dport ≠ 319) (hgeneral : x.dport ≠ 320)
    (hmatch : s.rxMatch p 0 0 dst src x.dport = some r) (hrtp : f.rtp = some h) (hmedia : f.media = some m) (bufs : List (Nat × Nat × Nat)) :
    s.classify_ p f bufs = s.flowPacket p r h m := by
  unfold State.classify_
  simp [htype, htags, hnet, hdst, hudp, hck, hevent, hgeneral, hmatch, hrtp, hmedia, ctlClass]

/-- A frame of a class whose bucket is full passes to its ring (R123). -/
theorem punt_passes {s : State} {p cls : Nat} (hring : byteAt (s.bytes (O.ethPuntRing p)) cls ≠ 0xFF) (hfull : tfind (s.eth_ p).buckets cls = none)
    (hburst : s.num (O.ethPuntBurst p) ≠ 0) (flags tci : Nat) (bytes : List Byte) (bufs : List (Nat × Nat × Nat)) :
    (s.punt p cls flags tci bytes bufs).num (O.ethRxPunted p) = (s.num (O.ethRxPunted p) + 1) % 2 ^ 32 := by
  have hlevel : ¬ s.num (O.ethPuntBurst p) * tickS < tickS := Nat.not_lt.2 (Nat.le_mul_of_pos_left _ (Nat.pos_of_ne_zero hburst))
  have hframe (y : State) (ring stamp : Nat) : (y.ringFrame ring p cls flags tci stamp bytes bufs).num (O.ethRxPunted p) = y.num (O.ethRxPunted p) :=
    (State_ringFrame_keeps (by decide : maskIn 1930 1930 = true) (Keeps.refl 1930 y) ring p cls flags tci stamp bytes bufs).num rfl _
  unfold State.punt
  dsimp only
  rw [if_neg hring, hfull]
  dsimp only
  rw [if_neg hlevel, hframe, num_bump, if_pos rfl, num_setEth]

end Sys2Proof.Machine
end

section
namespace Sys2Proof.Machine

/-! ### Packets of a receive context (R126–R128) -/

/-- What a context notes of a packet of RTP time `ts` that lane `p` brings, before its content is taken (R126, R133). -/
def State.pathNoted (s : State) (p r ts : Nat) : State :=
  let x := s.rx r
  let y := { x with
    up := true
    down := false
    lane := p
    lastTick := s.now + 1
    packets := (x.packets + 1) % 2 ^ 64
    pathTs := some ts
    marks := if !x.marks.any (fun q => q.1 == ts) then ((ts, s.rxQuarter p) :: x.marks).take 64 else x.marks }
  let t := s.setRx r y
  t.setRx r { t.rx r with arr := s.rxQuarter p * ptNs / 4 }

/-- A flow that was not active begins, with its event (R126). -/
def State.flowBegun (s : State) (p r : Nat) : State :=
  if (s.rx r).active then s
  else (s.setRx r { s.rx r with active := true, fresh := true, next := none, wait := [], gone := [], ahead := [] }).ethEvent p 2 0x3403 (p16 r)

/-- A packet on a context that is in no pair is noted there, and its flow begins, before its content is taken. -/
theorem flowPacket_alone {s : State} {r : Nat} (hpt : byteAt (s.rxFlow r) 3 = 0) (halone : s.rxPartner r = none) (p : Nat) (h : RtpHdr)
    (m : MediaPayload) : s.flowPacket p r h m = ((s.pathNoted p r h.ts).flowBegun p r).flowArrive p r h.seq h.ts m := by
  have hpartner (x : RxCtx) : (s.setRx r x).rxPartner r = none := halone
  have hptOk : (byteAt (s.rxFlow r) 3 == 0 || byteAt (s.rxFlow r) 3 == h.pt) = true := by simp [hpt]
  unfold State.flowPacket
  simp only [hptOk, rxLead_alone halone, halone, hpartner, Option.isSome_none, Bool.and_false, Bool.not_true, Bool.false_eq_true, if_false]
  rfl

theorem rx_pathNoted (s : State) (p r ts : Nat) : ((s.pathNoted p r ts).rx r).packets = ((s.rx r).packets + 1) % 2 ^ 64 ∧
    ((s.pathNoted p r ts).rx r).mismatch = (s.rx r).mismatch ∧ ((s.pathNoted p r ts).rx r).next = (s.rx r).next := by
  unfold State.pathNoted
  simp only [rx_setRx, if_true]
  exact ⟨trivial, trivial, trivial⟩

theorem obj_flowBegun (s : State) (p r k : Nat) : (s.flowBegun p r).obj k = s.obj k := by
  unfold State.flowBegun
  split
  · rfl
  · rw [obj_ethEvent, obj_setRx]

theorem rx_flowBegun (s : State) (p r : Nat) : ((s.flowBegun p r).rx r).packets = (s.rx r).packets ∧
    ((s.flowBegun p r).rx r).mismatch = (s.rx r).mismatch ∧ ((s.flowBegun p r).rx r).active = true ∧
    ((s.rx r).next = none → ((s.flowBegun p r).rx r).next = none) := by
  unfold State.flowBegun
  split
  · next hactive => exact ⟨rfl, rfl, hactive, id⟩
  · simp only [rx_ethEvent, rx_setRx, if_true]
    exact ⟨trivial, trivial, trivial, fun _ => trivial⟩

/-- The first packet of a flow begins its sequence numbers (R127). -/
theorem flowArrive_first {s : State} {r : Nat} (hnext : (s.rx r).next = none) (p seq ts : Nat) (m : MediaPayload) :
    ∃ n, s.flowArrive p r seq ts m = (s.setRx r { s.rx r with gone := [], next := some n }).flowTake p r ts 0 m := by
  apply Exists.intro
  unfold State.flowArrive
  dsimp only
  rw [if_neg (by simp [hnext])]
  unfold State.flowMerge RxCtx.nearGone
  simp only [hnext]
  rfl

/-- A packet of rows of ST 2110-20 (R128). -/
theorem flowTake_video {s : State} {r : Nat} (he : byteAt (s.rxFlow r) 1 = 1) (p ts : Nat) (rows : List (Nat × Nat × List Byte)) (m : Bool) :
    s.flowTake p r ts 0 (.video rows m) = s.videoPacket p r ts rows := by
  unfold State.flowTake
  dsimp only
  rw [if_pos he, if_neg (by simp)]

/-- Rows beyond the format of the context are a mismatch (R128). -/
theorem videoPacket_mismatch {s : State} {r : Nat} {rows : List (Nat × Nat × List Byte)}
    (hrows : ∃ q, q ∈ rows ∧ fmtActiveLines (halfAt (s.rxFlow r) 44) ≤ q.1) (p ts : Nat) : s.videoPacket p r ts rows =
    ((s.setRx r { s.rx r with mismatch := ((s.rx r).mismatch + 1) % 2 ^ 32 }).setBit (rEthEvt p) 8).countSecond 0x3409 r 1 (p8 p ++ p16 r) := by
  obtain ⟨q, hq, hrow⟩ := hrows
  exact if_pos (List.any_eq_true.2 ⟨q, hq, by simp [hrow]⟩)

theorem flowPacket_mismatch {s : State} {r : Nat} (hpt : byteAt (s.rxFlow r) 3 = 0) (he : byteAt (s.rxFlow r) 1 = 1)
    (halone : s.rxPartner r = none) (hnext : (s.rx r).next = none) {rows : List (Nat × Nat × List Byte)}
    (hrows : ∃ q, q ∈ rows ∧ fmtActiveLines (halfAt (s.rxFlow r) 44) ≤ q.1) (p : Nat) (h : RtpHdr) (m : Bool) :
    ((s.flowPacket p r h (.video rows m)).rx r).packets = ((s.rx r).packets + 1) % 2 ^ 64 ∧
    ((s.flowPacket p r h (.video rows m)).rx r).mismatch = ((s.rx r).mismatch + 1) % 2 ^ 32 ∧
    ((s.flowPacket p r h (.video rows m)).rx r).active = true ∧ bitOf ((s.flowPacket p r h (.video rows m)).reg (rEthEvt p)) 8 = true := by
  let t := (s.pathNoted p r h.ts).flowBegun p r
  obtain ⟨hpackets₀, hmismatch₀, hnext₀⟩ := rx_pathNoted s p r h.ts
  obtain ⟨hpackets, hmismatch, hactive, hnone⟩ := rx_flowBegun (s.pathNoted p r h.ts) p r
  have hobj (k : Nat) : t.obj k = s.obj k := (obj_flowBegun ..).trans rfl
  obtain ⟨n, hfirst⟩ := flowArrive_first (hnone (hnext₀.trans hnext)) p h.seq h.ts (.video rows m)
  have hflow (x : RxCtx) : (t.setRx r x).rxFlow r = s.rxFlow r := bytes_of_obj (t := t.setRx r x) hobj _
  rw [flowPacket_alone hpt halone, hfirst, flowTake_video (by rw [hflow, he]), videoPacket_mismatch (by rw [hflow]; exact hrows)]
  simp only [rx_of_eth (countSecond_eth ..), rx_setBit, rx_setRx, if_true]
  refine ⟨hpackets.trans hpackets₀, by rw [hmismatch, hmismatch₀], hactive, ?_⟩
  rw [reg_countSecond_of_not_eventWord _ _ _ _ _ (not_eventWord_ethEvt p), reg_setBit, if_pos rfl, bitOf_setFld_self (by decide)]

end Sys2Proof.Machine
end

section
namespace Sys2Proof.Machine

/-! ### O40 -/

section
variable {p : Fin 98} {f : EthFrame} {bufs : List (Nat × Nat × Nat)} {a : Nat} {s u : State}

/-! #### Port lanes (R115–R121, R126, R128) -/

section
variable (hu : u = s.toTick a) (hp : p.val < 96) (hmode : u.laneMode p = 2) (hact : u.laneActive p = true) (hon : u.laneOn p = true)
  (hmem : u.ethMember p = false) (hup : u.ethUp p = true) (hphase : 4 ≤ u.num O.startStartPhase)
include hu hp hmode hact hon hmem hup hphase

/-- What a port lane that is up does with a frame, by its length and FCS. -/
theorem exec_ethFrameReceived_port : exec (.ethFrameReceived p f bufs a) s =
    if f.length < 18 then .next ((u.bump (O.ethRxFragments p)).rcAdd (rEthDrop p) 15 8)
    else if f.length < 64 then .next (if u.flag (O.ethDeliverErrored p) = true then
        ((u.bump (O.ethRxRunts p)).rcAdd (rEthDrop p) 15 8).punt p 6 (8 + (if f.fcsOk = true then 0 else 16)) 0 f.bytes bufs
      else (u.bump (O.ethRxRunts p)).rcAdd (rEthDrop p) 15 8)
    else if f.length ≤ 9216 then
      (if f.fcsOk = true then .next ((u.frameCounted p f.length).classify_ p f bufs)
       else .next (if u.flag (O.ethDeliverErrored p) = true then
          ((u.bump (O.ethRxFcsErrors p)).rcAdd (rEthDrop p) 7 0).punt p 6 16 0 f.bytes bufs
        else (u.bump (O.ethRxFcsErrors p)).rcAdd (rEthDrop p) 7 0))
    else .next (if u.flag (O.ethDeliverErrored p) = true then
        (((u.bump (O.ethRxOversize p)).setBit (rEthEvt p) 10).countSecond 0x340B p 1 (p8 p)).punt p 6 32 0 (f.bytes.take 9216) bufs
      else ((u.bump (O.ethRxOversize p)).setBit (rEthEvt p) 10).countSecond 0x340B p 1 (p8 p)) := by
  have hrun : ¬ (u.laneMode p ≠ 2 ∨ (!u.laneActive p) = true ∨ (!u.laneOn p) = true ∨ u.ethMember p = true ∨ (!u.ethUp p) = true ∨
      u.num O.startStartPhase < 4) := by
    simp [hmode, hact, hon, hmem, hup, hphase]
  subst hu
  exact (if_neg (Nat.not_le.2 hp)).trans (if_neg hrun)

theorem ethFrameReceived_fragment (hlen : f.length < 18) : Does (.ethFrameReceived p f bufs a) s (fun t =>
    t.num (O.ethRxFragments p) = (u.num (O.ethRxFragments p) + 1) % 2 ^ 32 ∧ ∀ k, k ≠ O.ethRxFragments p → t.obj k = s.obj k) := by
  refine Does.intro ((exec_ethFrameReceived_port hu hp hmode hact hon hmem hup hphase).trans (if_pos hlen)) ⟨?_, fun k hk => ?_⟩
  · rw [num_rcAdd, num_bump, if_pos rfl]
  · rw [obj_rcAdd, State.bump, obj_setNum, if_neg hk, hu, obj_toTick]

theorem ethFrameReceived_runt (hmin : 18 ≤ f.length) (hlen : f.length < 64) (hkeep : u.flag (O.ethDeliverErrored p) = false) :
    Does (.ethFrameReceived p f bufs a) s (fun t =>
      t.num (O.ethRxRunts p) = (u.num (O.ethRxRunts p) + 1) % 2 ^ 32 ∧ ∀ k, k ≠ O.ethRxRunts p → t.obj k = s.obj k) := by
  have hexec := exec_ethFrameReceived_port (f := f) (bufs := bufs) hu hp hmode hact hon hmem hup hphase
  rw [if_neg (Nat.not_lt.2 hmin), if_pos hlen, hkeep, if_neg Bool.false_ne_true] at hexec
  refine Does.intro hexec ⟨?_, fun k hk => ?_⟩
  · rw [num_rcAdd, num_bump, if_pos rfl]
  · rw [obj_rcAdd, State.bump, obj_setNum, if_neg hk, hu, obj_toTick]

section
variable (hlen : 64 ≤ f.length) (hmax : f.length ≤ 9216)
include hlen hmax

theorem ethFrameReceived_badFcs (hfcs : f.fcsOk = false) (hkeep : u.flag (O.ethDeliverErrored p) = false) :
    Does (.ethFrameReceived p f bufs a) s (fun t => t.num (O.ethRxFcsErrors p) = (u.num (O.ethRxFcsErrors p) + 1) % 2 ^ 32 ∧
        ∀ k, k ≠ O.ethRxFcsErrors p → t.obj k = s.obj k) := by
  have hexec := exec_ethFrameReceived_port (f := f) (bufs := bufs) hu hp hmode hact hon hmem hup hphase
  rw [if_neg (by omega), if_neg (by omega), if_pos hmax, hfcs, if_neg Bool.false_ne_true, hkeep, if_neg Bool.false_ne_true] at hexec
  refine Does.intro hexec ⟨?_, fun k hk => ?_⟩
  · rw [num_rcAdd, num_bump, if_pos rfl]
  · rw [obj_rcAdd, State.bump, obj_setNum, if_neg hk, hu, obj_toTick]

theorem exec_ethFrameReceived_right (hfcs : f.fcsOk = true) :
    exec (.ethFrameReceived p f bufs a) s = .next ((u.frameCounted p f.length).classify_ p f bufs) := by
  have hexec := exec_ethFrameReceived_port (f := f) (bufs := bufs) hu hp hmode hact hon hmem hup hphase
  rwa [if_neg (by omega), if_neg (by omega), if_pos hmax, if_pos hfcs] at hexec

theorem ethFrameReceived_pause (hfcs : f.fcsOk = true) (htype : f.etype = 0x8808) : Does (.ethFrameReceived p f bufs a) s (fun t =>
      t.num (O.ethRxPause p) = (u.num (O.ethRxPause p) + 1) % 2 ^ 32 ∧ t.num (O.ethRxFrames p) = (u.num (O.ethRxFrames p) + 1) % 2 ^ 64 ∧
      t.num (O.ethRxBytes p) = (u.num (O.ethRxBytes p) + f.length) % 2 ^ 64) := by
  have hexec := exec_ethFrameReceived_right (bufs := bufs) hu hp hmode hact hon hmem hup hphase hlen hmax hfcs
  rw [classify_pause htype] at hexec
  refine Does.intro hexec ⟨?_, ?_, ?_⟩
  · rw [num_bump, if_pos rfl, num_frameCounted _ _ _ (by unfold O.ethRxPause O.ethRxFrames; omega) (by unfold O.ethRxPause O.ethRxBytes; omega)]
  · rw [num_bump, if_neg (by unfold O.ethRxPause O.ethRxFrames; omega), rxFrames_frameCounted]
  · rw [num_bump, if_neg (by unfold O.ethRxPause O.ethRxBytes; omega), rxBytes_frameCounted]

omit hu hp hmode hact hon hmem hup hphase hlen hmax in
/-- The lane's own address is no counter of frames. -/
theorem macAddress_frameCounted (n : Nat) : (u.frameCounted p n).bytes (O.ethMacAddress p) = u.bytes (O.ethMacAddress p) :=
  bytes_frameCounted _ _ _ (by unfold O.ethMacAddress O.ethRxFrames; omega) (by unfold O.ethMacAddress O.ethRxBytes; omega)

theorem ethFrameReceived_unmatched (hfcs : f.fcsOk = true) (htype : f.etype ≠ 0x8808) (hone : bitOf f.dst 40 = false)
    (hdst : f.dst ≠ ofBe (u.bytes (O.ethMacAddress p))) : Does (.ethFrameReceived p f bufs a) s (fun t =>
        t.num (O.ethRxUnmatched p) = (u.num (O.ethRxUnmatched p) + 1) % 2 ^ 32 ∧
        t.num (O.ethRxFrames p) = (u.num (O.ethRxFrames p) + 1) % 2 ^ 64) := by
  have hexec := exec_ethFrameReceived_right (bufs := bufs) hu hp hmode hact hon hmem hup hphase hlen hmax hfcs
  rw [classify_unmatched htype hone (by rwa [macAddress_frameCounted])] at hexec
  refine Does.intro hexec ⟨?_, ?_⟩
  · rw [State.unmatched, num_rcAdd, num_bump, if_pos rfl, num_frameCounted _ _ _ (by unfold O.ethRxUnmatched O.ethRxFrames; omega)
      (by unfold O.ethRxUnmatched O.ethRxBytes; omega)]
  · rw [State.unmatched, num_rcAdd, num_bump, if_neg (by unfold O.ethRxUnmatched O.ethRxFrames; omega), rxFrames_frameCounted]

theorem ethFrameReceived_arp (hfcs : f.fcsOk = true) (htype : f.etype ≠ 0x8808) (htags : f.tags = []) (hnet : f.net = .arp)
    (hdst : f.dst = ofBe (u.bytes (O.ethMacAddress p))) (hring : byteAt (u.bytes (O.ethPuntRing p)) 2 ≠ 0xFF)
    (hfull : tfind (u.eth_ p).buckets 2 = none) (hburst : u.num (O.ethPuntBurst p) ≠ 0) : Does (.ethFrameReceived p f bufs a) s (fun t =>
      t.num (O.ethRxPunted p) = (u.num (O.ethRxPunted p) + 1) % 2 ^ 32) := by
  have hexec := exec_ethFrameReceived_right (bufs := bufs) hu hp hmode hact hon hmem hup hphase hlen hmax hfcs
  rw [classify_arp htype htags hnet (by rwa [macAddress_frameCounted])] at hexec
  refine Does.intro hexec ?_
  have hring' : (u.frameCounted p f.length).bytes (O.ethPuntRing p) = u.bytes (O.ethPuntRing p) :=
    bytes_frameCounted _ _ _ (by unfold O.ethPuntRing O.ethRxFrames; omega) (by unfold O.ethPuntRing O.ethRxBytes; omega)
  have hburst' : (u.frameCounted p f.length).num (O.ethPuntBurst p) = u.num (O.ethPuntBurst p) :=
    num_frameCounted _ _ _ (by unfold O.ethPuntBurst O.ethRxFrames; omega) (by unfold O.ethPuntBurst O.ethRxBytes; omega)
  rw [punt_passes (by rwa [hring']) (by rwa [port_of_eth (frameCounted_eth ..)]) (by rwa [hburst']),
    num_frameCounted _ _ _ (by unfold O.ethRxPunted O.ethRxFrames; omega) (by unfold O.ethRxPunted O.ethRxBytes; omega)]

theorem ethFrameReceived_mismatch {r src dst : Nat} {x : UdpHdr} {h : RtpHdr} {rows : List (Nat × Nat × List Byte)} {m : Bool}
    (hfcs : f.fcsOk = true) (htype : f.etype ≠ 0x8808) (htags : f.tags = []) (hdst : f.dst = ofBe (u.bytes (O.ethMacAddress p)))
    (hnet : f.net = .ip4 5 false true 17 src dst) (hudp : f.udp = some x) (hck : x.ckOk = true) (hevent : x.dport ≠ 319)
    (hgeneral : x.dport ≠ 320) (hmatch : u.rxMatch p 0 0 dst src x.dport = some r) (hrtp : f.rtp = some h)
    (hmedia : f.media = some (.video rows m)) (hpt : byteAt (u.rxFlow r) 3 = 0) (he : byteAt (u.rxFlow r) 1 = 1)
    (halone : u.rxPartner r = none) (hnext : (u.rx r).next = none)
    (hrows : ∃ q, q ∈ rows ∧ fmtActiveLines (halfAt (u.rxFlow r) 44) ≤ q.1) : Does (.ethFrameReceived p f bufs a) s (fun t =>
        (t.rx r).packets = ((u.rx r).packets + 1) % 2 ^ 64 ∧ (t.rx r).mismatch = ((u.rx r).mismatch + 1) % 2 ^ 32 ∧
        (t.rx r).active = true ∧ bitOf (t.reg (rEthEvt p)) 8 = true) := by
  have hexec := exec_ethFrameReceived_right (bufs := bufs) hu hp hmode hact hon hmem hup hphase hlen hmax hfcs
  rw [classify_flow htype htags (by rwa [macAddress_frameCounted]) hnet hudp hck hevent hgeneral
    (by rw [rxMatch_frameCounted _ hp]; exact hmatch) hrtp hmedia] at hexec
  have hflow := rxFlow_frameCounted u hp f.length r
  exact Does.intro hexec (flowPacket_mismatch (s := u.frameCounted p f.length) (by rwa [hflow]) (by rwa [hflow])
    (by rwa [rxPartner_frameCounted _ hp]) hnext (by rwa [hflow]) p h m)

end

theorem ethFrameReceived_oversize (hlen : 9216 < f.length) (hkeep : u.flag (O.ethDeliverErrored p) = false) :
    Does (.ethFrameReceived p f bufs a) s (fun t =>
      t.num (O.ethRxOversize p) = (u.num (O.ethRxOversize p) + 1) % 2 ^ 32 ∧ bitOf (t.reg (rEthEvt p)) 10 = true ∧
      ∀ k, k ≠ O.ethRxOversize p → t.obj k = s.obj k) := by
  have hexec := exec_ethFrameReceived_port (f := f) (bufs := bufs) hu hp hmode hact hon hmem hup hphase
  rw [if_neg (by omega), if_neg (by omega), if_neg (by omega), hkeep, if_neg Bool.false_ne_true] at hexec
  refine Does.intro hexec ⟨?_, ?_, fun k hk => ?_⟩
  · rw [num_of_obj (obj_countSecond _ _ _ _ _), num_setBit, num_bump, if_pos rfl]
  · rw [reg_countSecond_of_not_eventWord _ _ _ _ _ (not_eventWord_ethEvt p), reg_setBit, if_pos rfl, bitOf_setFld_self (by decide)]
  · rw [obj_countSecond, obj_setBit, State.bump, obj_setNum, if_neg hk, hu, obj_toTick]

end

/-! #### Management lanes (R116) -/

theorem exec_ethFrameReceived_mgmt (hu : u = s.toTick a) (hp : 96 ≤ p.val) (hphase : 4 ≤ u.num O.startStartPhase) :
    exec (.ethFrameReceived p f bufs a) s = .next (u.mgmtFrame (p - 96) f) := by
  subst hu
  exact (if_pos hp).trans (congrArg _ (if_neg (Nat.not_lt.2 hphase)))

theorem ethFrameReceived_mgmt (hu : u = s.toTick a) (hp : 96 ≤ p.val) (hphase : 4 ≤ u.num O.startStartPhase) (hlen : 64 ≤ f.length)
    (hmax : f.length ≤ 1522) (hfcs : f.fcsOk = true) : Does (.ethFrameReceived p f bufs a) s (fun t =>
      t.out = u.out ++ [.mgmtFrame (p - 96) 0 f.bytes] ∧ ∀ k, t.obj k = s.obj k) := by
  have hexec := exec_ethFrameReceived_mgmt (f := f) (bufs := bufs) hu hp hphase
  unfold State.mgmtFrame at hexec
  dsimp only at hexec
  rw [if_neg (by omega), if_neg (by omega), if_neg (by omega), hfcs, if_neg (by decide)] at hexec
  refine Does.intro hexec ⟨rfl, fun k => ?_⟩
  subst hu
  exact obj_toTick ..

theorem ethFrameReceived_mgmtWrong (hu : u = s.toTick a) (hp : 96 ≤ p.val) (hphase : 4 ≤ u.num O.startStartPhase)
    (hwrong : f.length < 64 ∨ 1522 < f.length ∨ f.fcsOk = false) : Does (.ethFrameReceived p f bufs a) s (fun t => t.out = s.out ∧
      ∀ k, t.obj k = s.obj k) := by
  refine Does.intro (exec_ethFrameReceived_mgmt hu hp hphase) ?_
  have hu' : u.out = s.out ∧ ∀ k, u.obj k = s.obj k := by
    subst hu
    exact ⟨toTick_out .., fun k => obj_toTick ..⟩
  unfold State.mgmtFrame
  dsimp only
  split_ifs with hfragment hrunt hoversize hfcs
  · exact hu'
  · exact hu'
  · exact hu'
  · exact hu'
  · simp only [Bool.not_eq_true', Bool.not_eq_false] at hfcs
    obtain h | h | h := hwrong
    · exact absurd h hrunt
    · exact absurd h hoversize
    · exact absurd h (by simp [hfcs])

end

/-- Settles O40: port lanes, then management lanes. -/
theorem ethernetFrames : Obligations.EthernetFrames := by
  refine ⟨fun p f bufs a s u hu hp hmode hact hon hmem hup hphase => ⟨?_, ?_, ?_, ?_, ?_, ?_, ?_, ?_⟩,
    fun p f bufs a s u hu hp hphase => ⟨ethFrameReceived_mgmt hu hp hphase, ethFrameReceived_mgmtWrong hu hp hphase⟩⟩
  · exact ethFrameReceived_fragment hu hp hmode hact hon hmem hup hphase
  · exact ethFrameReceived_runt hu hp hmode hact hon hmem hup hphase
  · exact ethFrameReceived_badFcs hu hp hmode hact hon hmem hup hphase
  · exact ethFrameReceived_oversize hu hp hmode hact hon hmem hup hphase
  · exact ethFrameReceived_pause hu hp hmode hact hon hmem hup hphase
  · exact ethFrameReceived_unmatched hu hp hmode hact hon hmem hup hphase
  · exact ethFrameReceived_arp hu hp hmode hact hon hmem hup hphase
  · intro r src dst x h rows m hlen hmax hfcs htype htags hdst hnet hudp hck hevent hgeneral hmatch hrtp hmedia hpt he halone hnext hrows
    exact ethFrameReceived_mismatch hu hp hmode hact hon hmem hup hphase hlen hmax hfcs htype htags hdst hnet hudp hck hevent hgeneral hmatch
      hrtp hmedia hpt he halone hnext hrows

end Sys2Proof.Machine
end

section
namespace Sys2Proof.Machine

/-! ### What a fault report leaves alone (R411, R416) -/

/-- From `s` to `t` nothing changed but what a fault report can reach: the objects of outputs, the journal, the fault sources and the
twin; takes and outputs of the essence path; the counters of the events from 0xA001 on. -/
structure ReportSame (s t : State) : Prop where
  obj : ∀ k, k < 0x610000 → t.obj k = s.obj k
  ess : t.ess = { s.ess with takes := t.ess.takes, outs := t.ess.outs }
  count : ∀ n, n < 416 → t.reg (rEvtCount n) = s.reg (rEvtCount n)

namespace ReportSame

theorem refl (s : State) : ReportSame s s := ⟨fun _ _ => rfl, rfl, fun _ _ => rfl⟩

theorem trans {s t u : State} (h : ReportSame s t) (h' : ReportSame t u) : ReportSame s u :=
  ⟨fun k hk => (h'.obj k hk).trans (h.obj k hk), h'.ess.trans (by rw [h.ess]), fun n hn => (h'.count n hn).trans (h.count n hn)⟩

theorem num {s t : State} (h : ReportSame s t) {k : Nat} (hk : k < 0x610000) : t.num k = s.num k := by
  rw [State.num, h.obj k hk, State.num]

theorem store {s t : State} (h : ReportSame s t) : t.ess.store = s.ess.store := by rw [h.ess]

theorem foldl {α : Type} {g : State → α → State} (l : List α) (hg : ∀ x a, ReportSame x (g x a)) (s : State) :
    ReportSame s (l.foldl g s) := by
  induction l generalizing s with
  | nil => exact refl s
  | cons a l ih => exact (hg s a).trans (ih (g s a))

/-- An operation that touches neither objects nor words nor the essence path. -/
theorem of_keeps {m : Nat} {s t : State} (h : Keeps m s t) (ho : m.testBit 0 = false) (hr : m.testBit 1 = false) (he : m.testBit 10 = false) :
    ReportSame s t := by
  refine ⟨fun k _ => h.obj ho k, by rw [h.same .ess he], fun n _ => ?_⟩
  rw [State.reg, h.same .regs hr, State.reg]

section
variable {s t : State}

theorem ite {u : State} {c : Prop} [Decidable c] (ht : ReportSame s t) (hu : ReportSame s u) : ReportSame s (if c then t else u) := by
  split
  · exact ht
  · exact hu

/-- A change of fields other than the objects, the words and the essence path beside takes and outputs. -/
theorem update (h : ReportSame s t) {u : State} (ho : u.objs = t.objs) (hf : u.fuses = t.fuses) (hr : u.regs = t.regs)
    (he : u.ess = { t.ess with takes := u.ess.takes, outs := u.ess.outs }) : ReportSame s u := by
  refine h.trans ⟨fun k _ => ?_, he, fun n _ => ?_⟩
  · rw [State.obj, ho, hf, State.obj]
  · rw [State.reg, hr, State.reg]

theorem setTwinSt (h : ReportSame s t) (x : TwinSt) : ReportSame s { t with twin := x } := h.update rfl rfl rfl rfl
theorem setFlt (h : ReportSame s t) (x : FltSt) : ReportSame s { t with flt := x } := h.update rfl rfl rfl rfl
theorem setUpdSt (h : ReportSame s t) (x : UpdSt) : ReportSame s { t with upd := x } := h.update rfl rfl rfl rfl
theorem setTakes (h : ReportSame s t) (x : TakeSt) : ReportSame s { t with ess := { t.ess with takes := x } } := h.update rfl rfl rfl rfl
theorem setOut (h : ReportSame s t) (o : Nat) (x : OutSt) : ReportSame s (t.setOut o x) := h.update rfl rfl rfl rfl

theorem setBatches (h : ReportSame s t) (l : List Batch) : ReportSame s (t.setBatches l) := h.setTakes _

theorem setNum (h : ReportSame s t) {k : Nat} (hk : 0x610000 ≤ k) (n : Nat) : ReportSame s (t.setNum k n) :=
  h.trans ⟨fun j hj => by rw [obj_setNum, if_neg (by omega)], rfl, fun _ _ => rfl⟩

theorem setBit (h : ReportSame s t) {off : Nat} (ho : ¬ EventWord off) (b : Nat) : ReportSame s (t.setBit off b) := by
  refine h.trans ⟨fun _ _ => rfl, rfl, fun n hn => ?_⟩
  rw [reg_setBit, if_neg fun e : rEvtCount n = off => ho (e ▸ rEvtCount_eventWord (by omega))]

theorem record (h : ReportSame s t) (code : Nat) (b : List Byte) (sev plane : Nat) : ReportSame s (t.record code b sev plane) :=
  h.trans (of_keeps (State_record_keeps (by decide : maskIn 512 512 = true) (Keeps.refl 512 t) code b sev plane) rfl rfl rfl)

/-- An event of the fault collector, the take engine or the twin is counted above. -/
theorem evtCountSignal (h : ReportSame s t) {code n : Nat} (hc : evtSource code = some n) (hn : 416 ≤ n) :
    ReportSame s (t.evtCountSignal code) := by
  have hkeeps := State_evtCountSignal_keeps (by decide : maskIn 394 394 = true) (Keeps.refl 394 t) code
  refine h.trans ⟨fun k _ => hkeeps.obj rfl k, by rw [hkeeps.same .ess rfl], fun m hm => ?_⟩
  rw [← reg_record (t.evtCountSignal code) code [] 15 (codePlane code)]
  exact count_raise_of_ne t hc (by omega) []

theorem raise (h : ReportSame s t) {code n : Nat} (hc : evtSource code = some n) (hn : 416 ≤ n) (b : List Byte) :
    ReportSame s (t.raise code b) := (h.evtCountSignal hc hn).record ..

theorem signal (h : ReportSame s t) (v : Nat) : ReportSame s (t.signal v) :=
  h.trans (of_keeps (State_signal_keeps (by decide : maskIn 136 136 = true) (Keeps.refl 136 t) v) rfl rfl rfl)

/-! #### The journal and the take engine as the safe state begins (R229, R376) -/

theorem tlSend (h : ReportSame s t) (type : Nat) (b : List Byte) : ReportSame s (t.tlSend type b) := by
  have hbump : ReportSame s (if 2 ≤ type ∧ type ≤ 5 then t.bump O.twinSyncGeneration else t) := ite (h.setNum (by decide) _) h
  unfold State.tlSend
  dsimp only
  split
  · exact h
  · split <;> exact hbump.update rfl rfl rfl rfl

theorem putEntry (h : ReportSame s t) (seq : Nat) (b : List Byte) : ReportSame s (t.putEntry seq b) := by
  have hentry (a : Nat) (l : List Byte) (x : TakeSt) (n : Nat) :
      ReportSame s (({ t.setBytesAt a l with ess := { (t.setBytesAt a l).ess with takes := x } } : State).setNum O.journalJournalSeq n) :=
    ((h.trans (of_keeps (setBytesAt_keeps_self t a l) rfl rfl rfl)).setTakes x).setNum (by decide) n
  unfold State.putEntry
  dsimp only
  split
  · exact (hentry ..).signal _
  · exact hentry ..

theorem diverge (h : ReportSame s t) (what code : Nat) : ReportSame s (t.diverge what code) :=
  ((h.setTwinSt _).setBit (by unfold EventWord; omega) 6).raise (n := 484) rfl (by decide) _

theorem compareOwn (h : ReportSame s t) (batch o status : Nat) : ReportSame s (t.compareOwn batch o status) := by
  unfold State.compareOwn
  split
  · exact h
  · split
    · exact ite (h.setTwinSt _) ((h.setTwinSt _).diverge ..)
    · exact h.setTwinSt _

theorem journal (h : ReportSame s t) (status origin : Nat) (split : Bool) (r : TakeRec) (ta k : Nat) :
    ReportSame s (t.journal status origin split r ta k) := by
  unfold State.journal
  exact ite (h.compareOwn ..) ((ite (h.tlSend ..) h).putEntry ..)

theorem ringIrq (h : ReportSame s t) (origin : Nat) : ReportSame s (t.ringIrq origin) :=
  h.trans (of_keeps (State_ringIrq_keeps (by decide : maskIn 136 136 = true) (Keeps.refl 136 t) origin) rfl rfl rfl)

theorem pendObj (h : ReportSame s t) (o : Nat) : ReportSame s (t.pendObj o) := h.setNum (by unfold O.takePending; omega) _

theorem abandonTakes (h : ReportSame s t) : ReportSame s t.abandonTakes := by
  unfold State.abandonTakes
  refine ((h.trans (foldl _ (fun x b => ?journaled) t)).setBatches _).trans (foldl _ (fun x b => ReportSame.ringIrq ?given _) _)
  case journaled => exact foldl _ (fun y r => (refl y).journal ..) x
  case given => exact foldl _ (fun y r => ((refl y).setOut ..).pendObj _) x

/-! #### The safe state and the fault collector (R411, R416) -/

theorem setTwin (h : ReportSame s t) (v : Nat) : ReportSame s (t.setTwin v) := by
  have hbase : ReportSame s (if v = 4 then t.keepBase else t) := ite (h.setTwinSt _) h
  unfold State.setTwin
  exact ite h ((hbase.setNum (by decide) v).raise (n := 480) rfl (by decide) _)

theorem twinSafe (h : ReportSame s t) : ReportSame s t.twinSafe := by
  have hrelease : ReportSame s (if t.twin.gate then t.tlSend 9 (beBytes 12 0) else { t with twin := { t.twin with claim := false } }) :=
    ite (h.tlSend 9 _) (h.setTwinSt _)
  unfold State.twinSafe
  exact ite h ((hrelease.setTwinSt _).setTwin 8)

theorem enterSafe (h : ReportSame s t) (cause : Nat) : ReportSame s (t.enterSafe cause) := by
  have hraised : ReportSame s (({ t with flt := { t.flt with safe := true } } : State).raise 0xA004 (p16 cause)) :=
    (h.setFlt _).raise (n := 419) rfl (by decide) _
  have hstopped := ((hraised.setNum (k := 0xA00103) (by decide) 1).setNum (k := 0xA00104) (by decide) cause).abandonTakes.twinSafe
  unfold State.enterSafe State.askFallBack
  exact ite h (ite (hstopped.setUpdSt _) hstopped)

theorem setNum_kSrc (h : ReportSame s t) (n sub v : Nat) : ReportSame s (t.setNum (kSrc n sub) v) :=
  h.setNum (by unfold kSrc objKey; omega) v

/-- A fault report reaches no further, also where the safe state follows. -/
theorem report (h : ReportSame s t) (n code : Nat) : ReportSame s (t.report n code) := by
  have hshown (v : SrcSt) : ReportSame s ((t.setSrc n v).srcObjs n) :=
    (((h.setFlt _).setNum_kSrc n 5 _).setNum_kSrc n 6 _).setNum_kSrc n 8 _
  have hcounted (v : SrcSt) : ReportSame s ((((t.setSrc n v).srcObjs n).setNum (kSrc n 9) t.pt96).evtCountSignal 0xA001) :=
    ((hshown v).setNum_kSrc n 9 _).evtCountSignal (n := 416) rfl (by decide)
  unfold State.report
  refine ite h (ite h (ite ?_ ?_))
  · exact ((hcounted _).record ..).enterSafe n
  · exact (hcounted _).record ..

end

end ReportSame

end Sys2Proof.Machine
end

section
namespace Sys2Proof.Machine

/-! ### The essence store (R166–R169) -/

/-- The state with another record of the store's pages. -/
def State.setStore (s : State) (x : StoreSt) : State := { s with ess := { s.ess with store := x } }

theorem setStore_store (s : State) (x : StoreSt) : (s.setStore x).ess.store = x := rfl

/-- Counting by the second leaves the essence path alone but for its counts. -/
theorem countSecond_store (s : State) (code i n : Nat) (b : List Byte) : (s.countSecond code i n b).ess.store = s.ess.store := by
  show (s.endSecond (code * 2 ^ 16 + i)).ess.store = s.ess.store
  unfold State.endSecond
  split
  · rfl
  · split
    · rfl
    · rw [raise_ess]

/-- Counting by the second raises no event but its own. -/
theorem count_countSecond_of_ne (s : State) {code i m n : Nat} (hi : i < 2 ^ 16) (hm : evtSource code = some m) (h : m ≠ n) (c : Nat)
    (b : List Byte) : (s.countSecond code i c b).reg (rEvtCount n) = s.reg (rEvtCount n) := by
  show (s.endSecond (code * 2 ^ 16 + i)).reg (rEvtCount n) = s.reg (rEvtCount n)
  have hkey : (code * 2 ^ 16 + i) / 2 ^ 16 = code := by omega
  unfold State.endSecond
  split
  · rfl
  · split
    · rfl
    · exact count_raise_of_ne _ (by rwa [hkey]) h _

/-- The free spares follow from the variant and the spares spent or unusable. -/
theorem sparesFree_eq {s t : State} (hfuses : t.fuses = s.fuses) (hspent : t.ess.store.spentSpares = s.ess.store.spentSpares)
    (hbad : t.ess.store.badSpares = s.ess.store.badSpares) : t.sparesFree = s.sparesFree := by
  rw [State.sparesFree, hfuses, hspent, hbad, State.sparesFree]

theorem not_eventWord_storeEvt : ¬ EventWord rStoreEvt := by unfold EventWord rStoreEvt; omega

theorem not_eventWord_storeEcc : ¬ EventWord rStoreEcc := by unfold EventWord rStoreEcc; omega

/-- STORE_EVT holds no counter of an event. -/
theorem count_setBit_storeEvt (s : State) (bit : Nat) {n : Nat} (hn : n < 640) :
    (s.setBit rStoreEvt bit).reg (rEvtCount n) = s.reg (rEvtCount n) :=
  (reg_setBit ..).trans (if_neg fun e : rEvtCount n = rStoreEvt => not_eventWord_storeEvt (e ▸ rEvtCount_eventWord (by omega)))

/-- STORE_ECC holds no counter of an event. -/
theorem count_rcAdd_storeEcc (s : State) (hi lo c : Nat) {n : Nat} (hn : n < 640) :
    (s.rcAdd rStoreEcc hi lo c).reg (rEvtCount n) = s.reg (rEvtCount n) :=
  (reg_rcAdd ..).trans (if_neg fun e : rEvtCount n = rStoreEcc => not_eventWord_storeEcc (e ▸ rEvtCount_eventWord (by omega)))

/-! #### What shows the store -/

/-- From `s` to `t` the store's pages stay, and so do CE_COUNT to SCRUB_PASSES and the counters of the events 0x500C and 0x500D. -/
structure StoreSame (s t : State) : Prop where
  store : t.ess.store = s.ess.store
  num : ∀ k, 0x500207 ≤ k → k ≤ 0x50020B → t.num k = s.num k
  count : ∀ n, n = 235 ∨ n = 236 → t.reg (rEvtCount n) = s.reg (rEvtCount n)

namespace StoreSame

theorem refl (s : State) : StoreSame s s := ⟨rfl, fun _ _ _ => rfl, fun _ _ => rfl⟩

section
variable {s t : State}

theorem trans {u : State} (h : StoreSame s t) (h' : StoreSame t u) : StoreSame s u :=
  ⟨h'.store.trans h.store, fun k hl hh => (h'.num k hl hh).trans (h.num k hl hh), fun n hn => (h'.count n hn).trans (h.count n hn)⟩

theorem report (h : StoreSame s t) (n code : Nat) : StoreSame s (t.report n code) :=
  have hreport := (ReportSame.refl t).report n code
  h.trans ⟨hreport.store, fun _ _ _ => hreport.num (by omega), fun _ _ => hreport.count _ (by omega)⟩

theorem setNum (h : StoreSame s t) {k : Nat} (hk : k < 0x500207 ∨ 0x50020B < k) (v : Nat) : StoreSame s (t.setNum k v) :=
  h.trans ⟨rfl, fun j _ _ => by rw [num_setNum, if_neg (by omega)], fun _ _ => rfl⟩

/-- The last spare gone is shown by an event of its own (R169). -/
theorem sparesGone (h : StoreSame s t) : StoreSame s t.sparesGone := by
  have hshown : StoreSame t ((t.setBit rStoreEvt 2).raise 0x500E (p16 t.ess.store.retired)) := by
    refine ⟨by rw [raise_ess]; rfl, fun k _ _ => by rw [num_raise, num_setBit], fun n hn => ?_⟩
    rw [count_raise_of_ne (n := 237) _ rfl (by omega), count_setBit_storeEvt _ _ (by omega)]
  unfold State.sparesGone
  split
  · exact (h.trans hshown).report 33 0x500E
  · exact h

theorem storeObjs (h : StoreSame s t) : StoreSame s t.storeObjs := by
  unfold State.storeObjs
  exact ((((((h.setNum (by decide) _).setNum (by decide) _).setNum (by decide) _).setNum (by decide) _).setNum (by decide) _).setNum
    (by decide) _).setNum (by decide) _

/-- An error that was counted stays counted. -/
theorem counted (h : StoreSame s t) {u : State} {code n : Nat} (hc : evtSource code = some n) (hn : n = 235 ∨ n = 236)
    (k : Counted code u s) : Counted code u t := by
  intro m hm
  obtain rfl := Option.some.inj (hc.symm.trans hm)
  rw [h.count n hn, k n hc]

end

end StoreSame

/-! #### Retirement (R168, R169) -/

/-- A page is retired onto a spare: the spare is spent and the copy begins. -/
def State.ontoSpare (s : State) (page spare : Nat) : State :=
  s.setStore { s.ess.store with
    mapped := tput s.ess.store.mapped page spare
    retired := s.ess.store.retired + 1
    spentSpares := spare :: s.ess.store.spentSpares
    copies := page :: s.ess.store.copies }

section
variable {s : State} {page spare : Nat}

/-- A page is retired once. -/
theorem retirePage_mapped (h : (tfind s.ess.store.mapped page).isSome = true) : s.retirePage page = s := if_pos h

section
variable {more : List Nat} (hmapped : tfind s.ess.store.mapped page = none) (hfree : s.sparesFree = spare :: more)
include hmapped hfree

/-- A page that is not retired yet takes the first free spare; what follows only shows it. -/
theorem retirePage_onto : StoreSame (((s.ontoSpare page spare).setBit rStoreEvt 1).raise 0x500D
    (p16 page ++ p16 spare ++ p16 (Config.pageOwner page % 65536))) (s.retirePage page) := by
  unfold State.retirePage
  dsimp only
  rw [hmapped, if_neg (by decide), hfree]
  exact ((StoreSame.refl _).report 32 0x500D).sparesGone.storeObjs

theorem retirePage_store : (s.retirePage page).ess.store = (s.ontoSpare page spare).ess.store := by
  rw [(retirePage_onto hmapped hfree).store, raise_ess]
  rfl

theorem num_retirePage {k : Nat} (hlo : 0x500207 ≤ k) (hhi : k ≤ 0x50020B) : (s.retirePage page).num k = s.num k := by
  rw [(retirePage_onto hmapped hfree).num k hlo hhi, num_raise]
  rfl

theorem counted_retirePage : Counted 0x500D s (s.retirePage page) :=
  (retirePage_onto hmapped hfree).counted (n := 236) rfl (Or.inr rfl)
    (Counted.of_eq (fun _ hn => count_setBit_storeEvt (s.ontoSpare page spare) 1 hn) (raise_counts _ _ _))

/-- A retirement counts no uncorrectable error. -/
theorem count_retirePage_uncorrectable : (s.retirePage page).reg (rEvtCount 235) = s.reg (rEvtCount 235) := by
  rw [(retirePage_onto hmapped hfree).count 235 (Or.inl rfl), count_raise_of_ne (n := 236) _ rfl (by decide),
    count_setBit_storeEvt _ _ (by decide)]
  rfl

end

/-- A spare that stands in for no page is marked unusable; what follows only shows it (R167). -/
theorem spareFails_free (hfree : s.ess.store.mapped.find? (fun p => p.2 == spare) = none) :
    ∃ l, l.contains spare = true ∧ StoreSame (s.setStore { s.ess.store with badSpares := l }) (s.spareFails spare) := by
  unfold State.spareFails
  dsimp only
  split
  · rename_i hbad
    exact ⟨s.ess.store.badSpares, hbad, StoreSame.refl s⟩
  · rw [hfree]
    exact ⟨spare :: s.ess.store.badSpares, by simp, (StoreSame.refl _).sparesGone.storeObjs⟩

end

/-! #### Poisoned words (R168) -/

theorem poison_store (s : State) (page : Nat) (ws : List Nat) :
    ∃ l t, (s.poison page ws).ess.store = { s.ess.store with poisoned := l, poisonAt := t } ∧ ∀ w, w ∈ ws → (page, w) ∈ l := by
  refine ⟨_, _, rfl, fun w hw => ?_⟩
  by_cases hold : (page, w) ∈ s.ess.store.poisoned
  · exact List.mem_append_left _ hold
  · exact List.mem_append_right _ (List.mem_filter.mpr ⟨List.mem_map_of_mem hw, by simpa using hold⟩)

/-! ### O33 -/

/-! #### Corrected errors (R166, R168) -/

/-- A corrected error is counted; `l` are the errors of its page in the last 24 h. -/
def State.ceCounted (s : State) (page : Nat) (l : List Nat) : State :=
  (((s.setStore { s.ess.store with ce := tset (fun _ => []) s.ess.store.ce page l }).bump 0x500207).rcAdd rStoreEcc 31 16).countSecond
    0x500B 0 1 []

theorem ceCounted_store (s : State) (page : Nat) (l : List Nat) :
    (s.ceCounted page l).ess.store = { s.ess.store with ce := tset (fun _ => []) s.ess.store.ce page l } := countSecond_store ..

theorem num_ceCounted (s : State) (page : Nat) (l : List Nat) (k : Nat) :
    (s.ceCounted page l).num k = if k = 0x500207 then (s.num 0x500207 + 1) % 2 ^ 32 else s.num k := by
  rw [State.ceCounted, num_of_obj (obj_countSecond _ _ _ _ _), num_rcAdd, num_bump]
  rfl

theorem ceCounted_fuses (s : State) (page : Nat) (l : List Nat) : (s.ceCounted page l).fuses = s.fuses :=
  (State_countSecond_keeps (by decide : maskIn 1930 1930 = true) (Keeps.refl 1930 _) _ _ _ _).fuses

theorem count_ceCounted (s : State) (page : Nat) (l : List Nat) : (s.ceCounted page l).reg (rEvtCount 236) = s.reg (rEvtCount 236) := by
  rw [State.ceCounted, count_countSecond_of_ne (m := 234) _ (by decide) rfl (by decide), count_rcAdd_storeEcc _ _ _ _ (by decide)]
  rfl

section
variable {page : BitVec 16} {a : Nat} {l : List Nat} {s u : State} (hu : u = s.toTick a) (hpage : u.pageExists page.toNat = true)
  (hl : l = u.opTime :: (tget (fun _ => []) u.ess.store.ce page.toNat).filter (fun x => decide (u.opTime < x + 86400)))
include hu hpage hl

theorem exec_storeCorrectedError : exec (.storeCorrectedError page a) s =
    .next (if u.num 0x500209 ≤ l.length then
        (if page.toNat < 32768 then (u.ceCounted page.toNat l).retirePage page.toNat else (u.ceCounted page.toNat l).spareFails page.toNat)
      else u.ceCounted page.toNat l) := by
  have hlimit : (u.ceCounted page.toNat l).num 0x500209 = u.num 0x500209 := (num_ceCounted ..).trans (if_neg (by decide))
  rw [← hlimit]
  subst hu hl
  show execStoreCorrectedError page a s = _
  unfold execStoreCorrectedError
  dsimp only
  rw [hpage, if_neg (by decide)]
  rfl

theorem storeCorrectedError_below (hlow : l.length < u.num 0x500209) :
    Does (.storeCorrectedError page a) s (fun t => t.num 0x500207 = (u.num 0x500207 + 1) % 2 ^ 32 ∧
      tget (fun _ => []) t.ess.store.ce page.toNat = l ∧ t.ess.store.retired = s.ess.store.retired) := by
  have hexec := exec_storeCorrectedError hu hpage hl
  rw [if_neg (by omega)] at hexec
  refine Does.intro hexec ⟨?_, ?_, ?_⟩
  · rw [num_ceCounted, if_pos rfl]
  · rw [ceCounted_store, tget_tset_same]
  · rw [ceCounted_store, hu, toTick_ess]

theorem storeCorrectedError_retires (sp : Nat) (more : List Nat) (hlimit : u.num 0x500209 ≤ l.length) (hlow : page.toNat < 32768)
    (hmapped : tfind u.ess.store.mapped page.toNat = none) (hfree : u.sparesFree = sp :: more) :
    Does (.storeCorrectedError page a) s (fun t => t.num 0x500207 = (u.num 0x500207 + 1) % 2 ^ 32 ∧
      tfind t.ess.store.mapped page.toNat = some sp ∧ t.ess.store.retired = u.ess.store.retired + 1 ∧ Counted 0x500D s t) := by
  have hexec := exec_storeCorrectedError hu hpage hl
  rw [if_pos hlimit, if_pos hlow] at hexec
  have hstore := ceCounted_store u page.toNat l
  have hmapped' : tfind (u.ceCounted page.toNat l).ess.store.mapped page.toNat = none := by rw [hstore]; exact hmapped
  have hfree' : (u.ceCounted page.toNat l).sparesFree = sp :: more :=
    (sparesFree_eq (ceCounted_fuses ..) (by rw [hstore]) (by rw [hstore])).trans hfree
  refine Does.intro hexec ⟨?_, ?_, ?_, ?_⟩
  · rw [num_retirePage hmapped' hfree' (by decide) (by decide), num_ceCounted, if_pos rfl]
  · rw [retirePage_store hmapped' hfree']
    exact tfind_tput_same ..
  · rw [retirePage_store hmapped' hfree']
    exact congrArg (fun x => x.retired + 1) hstore
  · refine Counted.of_source (n := 236) rfl ?_ (counted_retirePage hmapped' hfree')
    rw [count_ceCounted, hu, reg_toTick]

end

/-! #### Uncorrectable errors and page faults (R166–R169) -/

/-- An uncorrectable error is counted, with event 0x500C. -/
def State.ueRaised (s : State) (page : Nat) : State :=
  (((s.bump 0x500208).rcAdd rStoreEcc 15 0).setBit rStoreEvt 0).raise 0x500C (p16 page ++ p16 (Config.pageOwner page % 65536))

/-- An uncorrectable error is counted, and one of a word poisons it. -/
def State.ueCounted (s : State) (page word : Nat) (pageFault : Bool) : State :=
  if pageFault then s.ueRaised page else (s.ueRaised page).poison page [word]

section
variable (s : State) (page word : Nat) (pf : Bool)

theorem ueRaised_ess : (s.ueRaised page).ess = s.ess := raise_ess ..

theorem num_ueRaised : (s.ueRaised page).num 0x500208 = (s.num 0x500208 + 1) % 2 ^ 32 := by
  rw [State.ueRaised, num_raise, num_setBit, num_rcAdd, num_bump, if_pos rfl]

theorem counted_ueRaised : Counted 0x500C s (s.ueRaised page) := by
  refine Counted.of_eq (fun n hn => ?_) (raise_counts (((s.bump 0x500208).rcAdd rStoreEcc 15 0).setBit rStoreEvt 0) _ _)
  rw [count_setBit_storeEvt _ _ hn, count_rcAdd_storeEcc _ _ _ _ hn, reg_bump]

/-- An uncorrectable error alone is no retirement. -/
theorem count_ueRaised_retired : (s.ueRaised page).reg (rEvtCount 236) = s.reg (rEvtCount 236) := by
  rw [State.ueRaised, count_raise_of_ne (n := 235) _ rfl (by decide), count_setBit_storeEvt _ _ (by decide),
    count_rcAdd_storeEcc _ _ _ _ (by decide), reg_bump]

/-- A page fault poisons no word. -/
theorem ueCounted_pageFault : s.ueCounted page word true = s.ueRaised page := if_pos rfl

theorem ueCounted_word : s.ueCounted page word false = (s.ueRaised page).poison page [word] := if_neg Bool.false_ne_true

theorem ueCounted_store : ∃ l t, (s.ueCounted page word pf).ess.store = { s.ess.store with poisoned := l, poisonAt := t } ∧
    (pf = false → l.contains (page, word) = true) := by
  cases pf with
  | true => exact ⟨s.ess.store.poisoned, s.ess.store.poisonAt, by rw [ueCounted_pageFault, ueRaised_ess], nofun⟩
  | false =>
    obtain ⟨l, t, hstore, hmem⟩ := poison_store (s.ueRaised page) page [word]
    rw [ueRaised_ess] at hstore
    exact ⟨l, t, by rw [ueCounted_word, hstore], fun _ => List.contains_iff_mem.mpr (hmem word List.mem_cons_self)⟩

/-- After the count only the essence path changes: the word is poisoned. -/
theorem ueCounted_keeps : Keeps 1024 (s.ueRaised page) (s.ueCounted page word pf) := by
  cases pf with
  | true => rw [ueCounted_pageFault]; exact Keeps.refl ..
  | false => rw [ueCounted_word]; exact State_poison_keeps (by decide) (Keeps.refl ..) ..

theorem ueCounted_fuses : (s.ueCounted page word pf).fuses = s.fuses := (ueCounted_keeps ..).fuses.trans (raise_fuses ..)

theorem num_ueCounted : (s.ueCounted page word pf).num 0x500208 = (s.num 0x500208 + 1) % 2 ^ 32 := by
  rw [(ueCounted_keeps ..).num (by decide), num_ueRaised]

theorem reg_ueCounted (off : Nat) : (s.ueCounted page word pf).reg off = (s.ueRaised page).reg off := by
  rw [State.reg, (ueCounted_keeps ..).same .regs (by decide), State.reg]

theorem counted_ueCounted : Counted 0x500C s (s.ueCounted page word pf) :=
  Counted.then_eq (counted_ueRaised s page) fun _ _ => reg_ueCounted ..

theorem count_ueCounted_retired : (s.ueCounted page word pf).reg (rEvtCount 236) = s.reg (rEvtCount 236) := by
  rw [reg_ueCounted, count_ueRaised_retired]

end

section
variable {page : BitVec 16} {word : BitVec 15} {pf : Bool} {a : Nat} {s u : State} (hu : u = s.toTick a)
  (hpage : u.pageExists page.toNat = true)
include hu

theorem counted_ueCounted_toTick (page word : Nat) : Counted 0x500C s (u.ueCounted page word pf) :=
  Counted.of_eq (fun n _ => by rw [hu, reg_toTick]) (counted_ueCounted u page word pf)

include hpage

theorem exec_storeUncorrectableError : exec (.storeUncorrectableError page word pf a) s =
    .next (if page.toNat < 32768 then (u.ueCounted page.toNat word.toNat pf).retirePage page.toNat
      else (u.ueCounted page.toNat word.toNat pf).spareFails page.toNat) := by
  subst hu
  show execStoreUncorrectableError page word pf a s = _
  unfold execStoreUncorrectableError
  dsimp only
  rw [hpage, if_neg (by decide)]
  rfl

theorem storeUncorrectableError_retired (hlow : page.toNat < 32768) (hmapped : (tfind u.ess.store.mapped page.toNat).isSome = true) :
    Does (.storeUncorrectableError page word pf a) s (fun t => t.num 0x500208 = (u.num 0x500208 + 1) % 2 ^ 32 ∧
      (pf = false → t.ess.store.poisoned.contains (page.toNat, word.toNat) = true) ∧ t.ess.store.retired = s.ess.store.retired ∧
      Counted 0x500C s t) := by
  obtain ⟨l, x, hstore, hpoison⟩ := ueCounted_store u page.toNat word.toNat pf
  have hexec := exec_storeUncorrectableError (word := word) (pf := pf) hu hpage
  rw [if_pos hlow, retirePage_mapped (by rw [hstore]; exact hmapped)] at hexec
  refine Does.intro hexec ⟨num_ueCounted .., ?_, ?_, counted_ueCounted_toTick hu _ _⟩
  · rw [hstore]; exact hpoison
  · rw [hstore, hu, toTick_ess]

theorem storeUncorrectableError_retires (sp : Nat) (more : List Nat) (hlow : page.toNat < 32768)
    (hmapped : tfind u.ess.store.mapped page.toNat = none) (hfree : u.sparesFree = sp :: more) :
    Does (.storeUncorrectableError page word pf a) s (fun t => t.num 0x500208 = (u.num 0x500208 + 1) % 2 ^ 32 ∧
      (pf = false → t.ess.store.poisoned.contains (page.toNat, word.toNat) = true) ∧ tfind t.ess.store.mapped page.toNat = some sp ∧
      t.ess.store.retired = u.ess.store.retired + 1 ∧ t.ess.store.copies.contains page.toNat = true ∧
      Counted 0x500C s t ∧ Counted 0x500D s t) := by
  obtain ⟨l, x, hstore, hpoison⟩ := ueCounted_store u page.toNat word.toNat pf
  have hexec := exec_storeUncorrectableError (word := word) (pf := pf) hu hpage
  rw [if_pos hlow] at hexec
  have hmapped' : tfind (u.ueCounted page.toNat word.toNat pf).ess.store.mapped page.toNat = none := by rw [hstore]; exact hmapped
  have hfree' : (u.ueCounted page.toNat word.toNat pf).sparesFree = sp :: more :=
    (sparesFree_eq (ueCounted_fuses ..) (by rw [hstore]) (by rw [hstore])).trans hfree
  refine Does.intro hexec ⟨?_, ?_, ?_, ?_, ?_, ?_, ?_⟩
  · rw [num_retirePage hmapped' hfree' (by decide) (by decide), num_ueCounted]
  · rw [retirePage_store hmapped' hfree']
    intro h
    rw [State.ontoSpare, setStore_store, hstore]
    exact hpoison h
  · rw [retirePage_store hmapped' hfree']
    exact tfind_tput_same ..
  · rw [retirePage_store hmapped' hfree']
    exact congrArg (fun y => y.retired + 1) hstore
  · rw [retirePage_store hmapped' hfree']
    exact List.contains_iff_mem.mpr List.mem_cons_self
  · intro n hn
    obtain rfl : n = 235 := (Option.some.inj hn).symm
    rw [count_retirePage_uncorrectable hmapped' hfree', counted_ueCounted_toTick hu _ _ 235 rfl]
  · refine Counted.of_source (n := 236) rfl ?_ (counted_retirePage hmapped' hfree')
    rw [count_ueCounted_retired, hu, reg_toTick]

theorem storeUncorrectableError_spare (hhigh : 32768 ≤ page.toNat)
    (hfree : u.ess.store.mapped.find? (fun p => p.2 == page.toNat) = none) :
    Does (.storeUncorrectableError page word pf a) s (fun t => t.num 0x500208 = (u.num 0x500208 + 1) % 2 ^ 32 ∧
      t.ess.store.badSpares.contains page.toNat = true ∧ t.ess.store.retired = s.ess.store.retired ∧ Counted 0x500C s t) := by
  obtain ⟨l, x, hstore, -⟩ := ueCounted_store u page.toNat word.toNat pf
  have hexec := exec_storeUncorrectableError (word := word) (pf := pf) hu hpage
  rw [if_neg (by omega)] at hexec
  obtain ⟨bad, hbad, hsame⟩ := spareFails_free (s := u.ueCounted page.toNat word.toNat pf) (spare := page.toNat) (by rw [hstore]; exact hfree)
  refine Does.intro hexec ⟨?_, ?_, ?_, ?_⟩
  · rw [hsame.num _ (by decide) (by decide)]
    exact num_ueCounted ..
  · rw [hsame.store]
    exact hbad
  · rw [hsame.store, setStore_store, hstore, hu, toTick_ess]
  · exact hsame.counted (n := 235) rfl (Or.inl rfl) (counted_ueCounted_toTick hu _ _)

end

/-! #### Copies and the patrol scrub (R167, R168) -/

theorem retirementCopyDone_poisons {page : BitVec 16} {ws : List (BitVec 15)} {a : Nat} {s u : State} (hu : u = s.toTick a)
    (hcopy : u.ess.store.copies.contains page.toNat = true) :
    Does (.retirementCopyDone page ws a) s (fun t => t.ess.store.copies.contains page.toNat = false ∧
      (∀ w, w ∈ ws → (page.toNat, w.toNat) ∈ t.ess.store.poisoned) ∧ ∀ k, t.obj k = s.obj k) := by
  have hexec : exec (.retirementCopyDone page ws a) s = .next ((u.setStore { u.ess.store with
      copies := u.ess.store.copies.filter (· != page.toNat)
      poisoned := u.ess.store.poisoned.filter (fun p => p.1 != page.toNat) }).poison page.toNat (ws.map (fun w => w.toNat))) := by
    subst hu
    exact if_neg (by rw [hcopy]; decide)
  obtain ⟨l, x, hstore, hmem⟩ := poison_store (u.setStore { u.ess.store with
      copies := u.ess.store.copies.filter (· != page.toNat)
      poisoned := u.ess.store.poisoned.filter (fun p => p.1 != page.toNat) }) page.toNat (ws.map (fun w => w.toNat))
  refine Does.intro hexec ⟨?_, fun w hw => ?_, fun k => ?_⟩
  · rw [hstore]
    simp [State.setStore]
  · rw [hstore]
    exact hmem _ (List.mem_map_of_mem hw)
  · exact hu ▸ obj_toTick s a k

theorem scrubPassEnd_shows {a : Nat} {s u : State} (hu : u = s.toTick a) (hlo : u.ess.store.scrubStart + 3564 * tickS ≤ u.now)
    (hhi : u.now ≤ u.ess.store.scrubStart + 3636 * tickS) :
    Does (.scrubPassEnd a) s (fun t => t.num 0x50020A = (u.now - u.ess.store.scrubStart) / tickS ∧
      t.num 0x50020B = (u.num 0x50020B + 1) % 2 ^ 32 ∧ t.ess.store.scrubStart = u.now ∧ Counted 0x5010 s t) := by
  have hexec : exec (.scrubPassEnd a) s = .next ((((u.setStore { u.ess.store with scrubStart := u.now }).setNum 0x50020A
      ((u.now - u.ess.store.scrubStart) / tickS)).bump 0x50020B).raise 0x5010 (p32 ((u.now - u.ess.store.scrubStart) / tickS))) := by
    subst hu
    exact if_neg (by omega)
  refine Does.intro hexec ⟨?_, ?_, ?_, ?_⟩
  · rw [num_raise, num_bump, if_neg (by decide), num_setNum, if_pos rfl]
  · rw [num_raise, num_bump, if_pos rfl, num_setNum, if_neg (by decide)]
    rfl
  · rw [raise_ess]
    rfl
  · exact Counted.of_eq (fun n _ => hu ▸ reg_toTick s a _) (raise_counts _ _ _)

/-- Settles O33: an error is counted first, and a retirement after it changes the store once and is then only shown. -/
theorem storeErrors : Obligations.StoreErrors := by
  refine ⟨fun page a l s u hu hpage hl => ⟨?_, ?_⟩, fun page word pf a s u hu hpage hlow => ⟨?_, ?_⟩, ?_, ?_, ?_⟩
  · exact storeCorrectedError_below hu hpage hl
  · exact storeCorrectedError_retires hu hpage hl
  · exact storeUncorrectableError_retired hu hpage hlow
  · exact fun sp more => storeUncorrectableError_retires hu hpage sp more hlow
  · exact fun page word pf a s u hu hpage => storeUncorrectableError_spare hu hpage
  · exact fun page ws a s u hu => retirementCopyDone_poisons hu
  · exact fun a s u hu => scrubPassEnd_shows hu

end Sys2Proof.Machine
end
